-- ==== Sys2Proof/Word.lean ====
section
/-! DEFINITION. The word types of the EVG-7128 model: digits, bytes, 16-digit words and the sparse table type. -/

namespace Sys2Proof

/-- A digit: 4 bits, the smallest addressable unit (R9, R54). -/
abbrev Digit := BitVec 4

/-- A byte: two digits (R9). -/
abbrev Byte := BitVec 8

/-- A full train, 16 digits (R75), and the width of every control register (R177). -/
abbrev Word := BitVec 64

/-- A 56-bit virtual digit address (R165). -/
abbrev VAddr := BitVec 56

/-- A byte string: buffers, keys, digests, frames. -/
abbrev Bytes := List Byte

/-- A sparse table: entries at strictly rising keys, none equal to what an unlisted key reads as.
The operations over it stand in `Machine/Tab.lean`. -/
abbrev Tab (α : Type) := List (Nat × α)

end Sys2Proof
end

