-- ==== Sys2Proof/Syntax.lean ====
section
/-! DEFINITION. The commands of the block: one constructor of `Instr` for each row of the table of
operations and events (spec/opcode_table.json). A thread-issue row names the thread only: the word it
issues is the held copy at the thread's program counter (R132). -/

namespace Sys2Proof

/-- The digit units whose operations are started by a trigger and land later (R66, R80). -/
inductive DUnit where
  | add | logic | shift | compare | decimal | multiply | divide
  deriving DecidableEq, Repr

/-- How an operation of a self-timed unit ends: well, with a code violation on a channel (R38),
or with a level overrun (R40). -/
inductive UnitOutcome where
  | ok | codeViolation | overrun | timeout
  deriving DecidableEq, Repr

/-- What ECC and the tag check find on a DRAM line read (R193). -/
inductive EccOutcome where
  | clean | corrected | uncorrectable | tagMismatch
  deriving DecidableEq, Repr

/-- The ports on which Ethernet frames arrive (R385, R411). -/
inductive NetPort where
  | portA | portB | mgmt
  deriving DecidableEq, Repr

/-- What the layers below the transaction frame say of an arriving datagram (R387). -/
structure NetHdr where
  mac : Nat
  vid : Nat
  ipv6 : Bool
  dstIp : BitVec 128
  dstUdp : Nat
  checksumPresent : Bool
  checksumOk : Bool
  srcIp : BitVec 128
  srcUdp : Nat
  fcsOk : Bool
  deriving DecidableEq, Repr

/-- The queries a port answers itself (R387). -/
inductive NetQuery where
  | arp | neighbour | echo
  deriving DecidableEq, Repr

/-- What a timestamped PTP message tells the servo (R389, R442): the measured offset of the timebase
from the master in ns, negative when the timebase is ahead. -/
structure PtpMessage where
  offsetNs : Int
  deriving DecidableEq, Repr

/-- What has come up again after training (R384, R400, R405). -/
inductive TrainTarget where
  | lane (l : Fin 48)
  | pcie
  | westad (l : Fin 4) (width : Nat) (peer : Fin 8)
  deriving DecidableEq, Repr

/-- A DBGPORT access (R459). -/
inductive DebugAccess where
  | choose (part : Fin 256)
  | readG (t : Fin 2048) (r : Fin 64)
  | writeG (t : Fin 2048) (r : Fin 64) (v : Word)
  | readB (t : Fin 2048) (b : Fin 4096)
  | writeB (t : Fin 2048) (b : Fin 4096) (v : Bool)
  | readTs (t : Fin 2048) (port : Fin 1024)
  | writeTs (t : Fin 2048) (port : Fin 1024) (v : Word)
  | readMem (va : VAddr)
  | writeMem (va : VAddr) (v : Digit)
  deriving DecidableEq, Repr

/-- A host write to PCIe configuration space or to an MSI-X table (R312, R396). -/
inductive PcieConfig where
  | busMaster (f : Fin 255) (on : Bool)
  | functionEnable (f : Fin 255) (on : Bool)
  | vfEnable (on : Bool)
  | vectorMask (f : Fin 255) (v : Fin 4) (masked : Bool)
  deriving DecidableEq, Repr

/-- The PCIe link power states that ASPM uses (R401). -/
inductive LinkPower where
  | l0 | l0s | l1
  deriving DecidableEq, Repr

/-- One step of the part, each whole and indivisible (95_what_each_step_holds.md). -/
inductive Instr where
  /-- MOVE_ISSUE (R55). A thread issues one instruction word, long move or short pair, whose moves start no unit. -/
  | moveIssue (t : Fin 2048)
  /-- IMM_HI_APPEND (R61). A move to imm.hi appends four digits to the thread's immediate accumulator and raises its count. -/
  | immHiAppend (t : Fin 2048)
  /-- ADD_T (R82). A move to add.t starts add.a plus the moved value. -/
  | addT (t : Fin 2048)
  /-- SUB_T (R82). A move to sub.t starts add.a minus the moved value. -/
  | subT (t : Fin 2048)
  /-- ADC_T (R82). A move to adc.t starts add.a plus the moved value plus add.ci. -/
  | adcT (t : Fin 2048)
  /-- SBB_T (R82). A move to sbb.t starts add.a minus the moved value minus add.ci. -/
  | sbbT (t : Fin 2048)
  /-- NEG_T (R91). A move to neg.t starts the negation of the moved value and sets ovf for the most negative value. -/
  | negT (t : Fin 2048)
  /-- AND_T (R84). A move to and.t starts the bitwise AND of lg.a and the moved value. -/
  | andT (t : Fin 2048)
  /-- OR_T (R84). A move to or.t starts the bitwise OR of lg.a and the moved value. -/
  | orT (t : Fin 2048)
  /-- XOR_T (R84). A move to xor.t starts the bitwise XOR of lg.a and the moved value. -/
  | xorT (t : Fin 2048)
  /-- ANDN_T (R84). A move to andn.t starts lg.a AND NOT the moved value. -/
  | andnT (t : Fin 2048)
  /-- NOT_T (R84). A move to not.t starts the bitwise complement of the moved value. -/
  | notT (t : Fin 2048)
  /-- SHL_T (R85). A move to shl.t starts a left shift of sh.a by the moved bit count. -/
  | shlT (t : Fin 2048)
  /-- SHR_T (R85). A move to shr.t starts a logical right shift of sh.a. -/
  | shrT (t : Fin 2048)
  /-- SAR_T (R85). A move to sar.t starts an arithmetic right shift of sh.a. -/
  | sarT (t : Fin 2048)
  /-- ROL_T (R85). A move to rol.t starts a left rotation of sh.a within 4N bits. -/
  | rolT (t : Fin 2048)
  /-- ROR_T (R85). A move to ror.t starts a right rotation of sh.a within 4N bits. -/
  | rorT (t : Fin 2048)
  /-- CMP_EQ_T (R86). A move to cmp.eq.t starts an equality compare with cmp.a, with the result optionally written to a bit by cmp.bi. -/
  | cmpEqT (t : Fin 2048)
  /-- CMP_LT_T (R86). A move to cmp.lt.t starts a signed less-than compare. -/
  | cmpLtT (t : Fin 2048)
  /-- CMP_LTU_T (R86). A move to cmp.ltu.t starts an unsigned less-than compare. -/
  | cmpLtuT (t : Fin 2048)
  /-- CMP_LE_T (R86). A move to cmp.le.t starts a signed less-or-equal compare. -/
  | cmpLeT (t : Fin 2048)
  /-- CMP_LEU_T (R86). A move to cmp.leu.t starts an unsigned less-or-equal compare. -/
  | cmpLeuT (t : Fin 2048)
  /-- DADD_T (R88). A move to dadd.t starts a BCD addition of dec.a and the moved value. -/
  | daddT (t : Fin 2048)
  /-- DSUB_T (R88). A move to dsub.t starts a BCD subtraction, leaving the ten's complement on a borrow. -/
  | dsubT (t : Fin 2048)
  /-- DCHK_T (R90). A move to dchk.t starts a check that flags each digit above 9, without setting bcd. -/
  | dchkT (t : Fin 2048)
  /-- DCVT_T (R90). A move to dcvt.t starts a BCD-to-binary conversion. -/
  | dcvtT (t : Fin 2048)
  /-- BCVT_T (R90). A move to bcvt.t starts a binary-to-BCD conversion. -/
  | bcvtT (t : Fin 2048)
  /-- MUL_T (R95). A move to mul.t starts an unsigned 2N-digit product. -/
  | mulT (t : Fin 2048)
  /-- MULS_T (R95). A move to muls.t starts a signed 2N-digit product. -/
  | mulsT (t : Fin 2048)
  /-- DIV_T (R99). A move to div.t starts an unsigned division on the shared divider, parking while another thread's division runs. -/
  | divT (t : Fin 2048)
  /-- DIVS_T (R99). A move to divs.t starts a signed division truncating toward zero. -/
  | divsT (t : Fin 2048)
  /-- DIGIT_UNIT_RESULT (R80). A digit-unit operation completes and its results land in the result ports, waking threads parked on them. -/
  | digitUnitResult (t : Fin 2048) (u : DUnit) (o : UnitOutcome)
  /-- COMPLETION_TIMEOUT (R41). A unit whose detector has not reported within eight times the matched delay ends the operation poisoned. -/
  | completionTimeout (t : Fin 2048) (u : DUnit)
  /-- MUL_PRODUCT_VISIBLE (R96). After 3 or 6 further issue slots of the thread, the new product becomes visible in mul.lo and mul.hi. -/
  | mulProductVisible (t : Fin 2048)
  /-- CB_EQ_T (R109). A move to cb.eq.t branches to the staged target if cb.a equals the value, predicted statically. -/
  | cbEqT (t : Fin 2048)
  /-- CB_NE_T (R109). A move to cb.ne.t branches if cb.a differs from the value. -/
  | cbNeT (t : Fin 2048)
  /-- CB_LT_T (R109). A move to cb.lt.t branches if cb.a is less than the value, signed. -/
  | cbLtT (t : Fin 2048)
  /-- CB_GE_T (R109). A move to cb.ge.t branches if cb.a is greater or equal, signed. -/
  | cbGeT (t : Fin 2048)
  /-- CB_LTU_T (R109). A move to cb.ltu.t branches if cb.a is less than the value, unsigned. -/
  | cbLtuT (t : Fin 2048)
  /-- CB_GEU_T (R109). A move to cb.geu.t branches if cb.a is greater or equal, unsigned. -/
  | cbGeuT (t : Fin 2048)
  /-- CB_BS_T (R110). A move to cb.bs.t branches if the named thread bit is 1. -/
  | cbBsT (t : Fin 2048)
  /-- CB_BC_T (R110). A move to cb.bc.t branches if the named thread bit is 0. -/
  | cbBcT (t : Fin 2048)
  /-- JMP_T (R110). A move to jmp.t jumps to the moved absolute address. -/
  | jmpT (t : Fin 2048)
  /-- JMP_REL_T (R110). A move to jmp.rel.t jumps by the moved number of words. -/
  | jmpRelT (t : Fin 2048)
  /-- CALL_T (R121). A move to call.t checks the frame, saves the masked register groups on the save stack and continues at the staged target. -/
  | callT (t : Fin 2048)
  /-- RET_T (R124). A move to ret.t reads the frame, restores the masked groups, pops ts.ssp and continues at the predicted return address. -/
  | retT (t : Fin 2048)
  /-- BRANCH_RESOLVE (R115). An unresolved branch resolves, and the speculative words are kept or discarded. -/
  | branchResolve (t : Fin 2048)
  /-- RETURN_RESOLVE (R125). The return address of a ret arrives from its frame, and the prediction is confirmed or discarded. -/
  | returnResolve (t : Fin 2048)
  /-- REP_T (R127). A move to rep.t starts a block repeat of rep.len words with the moved count. -/
  | repT (t : Fin 2048)
  /-- THR_WAIT_T (R141). A move to thr.wait.t puts the thread in WAIT, unless an inbox item or a claimable knock is already present. -/
  | thrWaitT (t : Fin 2048)
  /-- THR_HALT_T (R142). A move to thr.halt.t waits for the thread's operations and store buffer to drain, then puts it in HALT. -/
  | thrHaltT (t : Fin 2048)
  /-- THR_YIELD_T (R144). A move to thr.yield.t withholds issue until the other READY threads have issued. -/
  | thrYieldT (t : Fin 2048)
  /-- THR_START_T (R142). A move to thr.start.t starts a halted thread of the same partition at the staged target. -/
  | thrStartT (t : Fin 2048)
  /-- CTL_IFENCE (R133). A move to ctl.ifence waits for the thread's own stores, then discards the held fetch groups. -/
  | ctlIfence (t : Fin 2048)
  /-- FENCE_SL (R162). A fence of kind 0 holds later accesses until the thread's earlier stores are visible. -/
  | fenceSl (t : Fin 2048)
  /-- FENCE_FULL (R162). A fence of kind 1 also waits for earlier keyring-bit accesses. -/
  | fenceFull (t : Fin 2048)
  /-- FENCE_DEV (R162). A fence of kind 2 also waits for earlier control-space stores to take effect. -/
  | fenceDev (t : Fin 2048)
  /-- FENCE_DRAIN (R162). A fence of kind 3 also waits until ts.fly reads 0. -/
  | fenceDrain (t : Fin 2048)
  /-- FETCH_GROUP_ARRIVE (R132). A fetch group arrives from the instruction cache for a thread that left its held groups. -/
  | fetchGroupArrive (t : Fin 2048) (parityError : Bool)
  /-- LD_T (R159). A move to ld.t translates and starts a load into the register named by ld.dst, forwarding from the store buffer where it can. -/
  | ldT (t : Fin 2048)
  /-- LDR_T (R153). A move to ldr.t loads and replaces the thread's reservation with one on the granule. -/
  | ldrT (t : Fin 2048)
  /-- ST_T (R175). A move to st.t translates a store of st.d and enters it into the store buffer. -/
  | stT (t : Fin 2048)
  /-- STC_T (R153). A move to stc.t stores st.d only if the reservation covers it, and ends the reservation. -/
  | stcT (t : Fin 2048)
  /-- STC_DECIDED (R155). A store-conditional is ordered in coherence and stc.r receives success or failure. -/
  | stcDecided (t : Fin 2048)
  /-- AT_ADD_T (R156). A move to at.add.t performs an indivisible fetch-and-add. -/
  | atAddT (t : Fin 2048)
  /-- AT_SWP_T (R156). A move to at.swp.t performs an indivisible swap. -/
  | atSwpT (t : Fin 2048)
  /-- AT_CAS_T (R156). A move to at.cas.t performs an indivisible compare-and-swap against at.cmp. -/
  | atCasT (t : Fin 2048)
  /-- ATOMIC_COMPLETE (R156). An atomic is performed and its prior value lands in at.r. -/
  | atomicComplete (t : Fin 2048)
  /-- STR_LD (R69). A read of str.ld loads the move's width at str.src and advances str.src. -/
  | strLd (t : Fin 2048)
  /-- STR_ST (R69). A move to str.st stores at str.dst and advances str.dst. -/
  | strSt (t : Fin 2048)
  /-- LOAD_DATA_LAND (R159). Load data arrive from a cache, DRAM or control space and land in the target register. -/
  | loadDataLand (t : Fin 2048) (ecc : EccOutcome)
  /-- STORE_LEAVES_BUFFER (R175). The oldest store-buffer entry is performed and becomes visible to all agents. -/
  | storeLeavesBuffer (t : Fin 2048) (parityError : Bool)
  /-- PAGE_WALK_COMPLETE (R205). A page-table walk ends, installing a TLB entry or reporting a translation fault. -/
  | pageWalkComplete (t : Fin 2048)
  /-- BS_TAS_T (R151). A move to bs.tas.t starts an indivisible test-and-set of a keyring bit. -/
  | bsTasT (t : Fin 2048)
  /-- BS_TAS_COMPLETE (R151). A test-and-set is performed and its previous value lands in bs.tas. -/
  | bsTasComplete (t : Fin 2048)
  /-- BS_K_READ (R150). A read of bs.k fetches a keyring bit with acquire ordering. -/
  | bsKRead (t : Fin 2048)
  /-- BS_K_WRITE (R152). A write of bs.k sets or clears a keyring bit with release ordering. -/
  | bsKWrite (t : Fin 2048)
  /-- ENG_RSV_T (R220). A move to eng.rsv.t asks for a seat on an engine, granted at once, refused, or left waiting. -/
  | engRsvT (t : Fin 2048)
  /-- ENG_REL_T (R223). A move to eng.rel.t ends the thread's seat on the named engine. -/
  | engRelT (t : Fin 2048)
  /-- E_JOB_T (R226). A move to e.job.t translates a job descriptor and places it in the engine's job queue. -/
  | eJobT (t : Fin 2048)
  /-- ENGINE_JOB_COMPLETE (R230). A job completes: its outputs become visible, STATUS is stored, e.res reports and KSRC is raised. -/
  | engineJobComplete (e : Fin 144) (o : UnitOutcome)
  /-- AES_ECB_ENCRYPT (R237). An AES engine runs an AES-ECB encrypt job (#A100). -/
  | aesEcbEncrypt (e : Fin 144)
  /-- AES_ECB_DECRYPT (R237). An AES engine runs an AES-ECB decrypt job (#A101). -/
  | aesEcbDecrypt (e : Fin 144)
  /-- AES_CBC_ENCRYPT (R237). An AES engine runs an AES-CBC encrypt job (#A110). -/
  | aesCbcEncrypt (e : Fin 144)
  /-- AES_CBC_DECRYPT (R237). An AES engine runs an AES-CBC decrypt job (#A111). -/
  | aesCbcDecrypt (e : Fin 144)
  /-- AES_CTR (R237). An AES engine runs an AES-CTR job (#A120). -/
  | aesCtr (e : Fin 144)
  /-- AES_GCM_ENCRYPT (R237). An AES engine runs an AES-GCM encrypt job (#A130). -/
  | aesGcmEncrypt (e : Fin 144)
  /-- AES_GCM_DECRYPT (R237). An AES engine runs an AES-GCM decrypt job with a tag check (#A131). -/
  | aesGcmDecrypt (e : Fin 144)
  /-- AES_XTS_ENCRYPT (R237). An AES engine encrypts one XTS data unit (#A140). -/
  | aesXtsEncrypt (e : Fin 144)
  /-- AES_XTS_DECRYPT (R237). An AES engine decrypts one XTS data unit (#A141). -/
  | aesXtsDecrypt (e : Fin 144)
  /-- AES_CMAC_GENERATE (R237). An AES engine generates an AES-CMAC tag (#A150). -/
  | aesCmacGenerate (e : Fin 144)
  /-- AES_CMAC_VERIFY (R237). An AES engine verifies an AES-CMAC tag (#A151). -/
  | aesCmacVerify (e : Fin 144)
  /-- KWP_WRAP (R237). An AES engine wraps the KEY2 slot under KEY1, subject to the guard (#A160). -/
  | kwpWrap (e : Fin 144)
  /-- KWP_UNWRAP (R237). An AES engine unwraps a key and stages it to DSLOT (#A161). -/
  | kwpUnwrap (e : Fin 144)
  /-- CLEAR_IMPORT (R237). An AES engine combines clear components from secure scratch into DSLOT when CLRIMP allows (#A170). -/
  | clearImport (e : Fin 144)
  /-- TDES_ECB_ENCRYPT (R237). An AES engine runs a TDES-ECB encrypt job (#A200). -/
  | tdesEcbEncrypt (e : Fin 144)
  /-- TDES_ECB_DECRYPT (R237). An AES engine runs a TDES-ECB decrypt job (#A201). -/
  | tdesEcbDecrypt (e : Fin 144)
  /-- TDES_CBC_ENCRYPT (R237). An AES engine runs a TDES-CBC encrypt job (#A210). -/
  | tdesCbcEncrypt (e : Fin 144)
  /-- TDES_CBC_DECRYPT (R237). An AES engine runs a TDES-CBC decrypt job (#A211). -/
  | tdesCbcDecrypt (e : Fin 144)
  /-- TDES_CMAC_GENERATE (R237). An AES engine generates a TDES-CMAC tag (#A250). -/
  | tdesCmacGenerate (e : Fin 144)
  /-- TDES_CMAC_VERIFY (R237). An AES engine verifies a TDES-CMAC tag (#A251). -/
  | tdesCmacVerify (e : Fin 144)
  /-- MAC_ALGORITHM_3_GENERATE (R237). An AES engine generates an ISO 9797-1 algorithm 3 MAC (#A260). -/
  | macAlgorithm3Generate (e : Fin 144)
  /-- MAC_ALGORITHM_3_VERIFY (R237). An AES engine verifies an ISO 9797-1 algorithm 3 MAC (#A261). -/
  | macAlgorithm3Verify (e : Fin 144)
  /-- SHA3_224 (R239). The Keccak engine computes SHA3-224 (#C224). -/
  | sha3224 (e : Fin 144)
  /-- SHA3_256 (R239). The Keccak engine computes SHA3-256 (#C256). -/
  | sha3256 (e : Fin 144)
  /-- SHA3_384 (R239). The Keccak engine computes SHA3-384 (#C384). -/
  | sha3384 (e : Fin 144)
  /-- SHA3_512 (R239). The Keccak engine computes SHA3-512 (#C512). -/
  | sha3512 (e : Fin 144)
  /-- SHAKE128 (R239). The Keccak engine computes SHAKE128 (#C128). -/
  | shake128 (e : Fin 144)
  /-- SHAKE256 (R239). The Keccak engine computes SHAKE256 (#C129). -/
  | shake256 (e : Fin 144)
  /-- KMAC128_GENERATE (R239). The Keccak engine generates a KMAC128 tag (#C300). -/
  | kmac128Generate (e : Fin 144)
  /-- KMAC128_VERIFY (R239). The Keccak engine verifies a KMAC128 tag (#C301). -/
  | kmac128Verify (e : Fin 144)
  /-- KMAC256_GENERATE (R239). The Keccak engine generates a KMAC256 tag (#C310). -/
  | kmac256Generate (e : Fin 144)
  /-- KMAC256_VERIFY (R239). The Keccak engine verifies a KMAC256 tag (#C311). -/
  | kmac256Verify (e : Fin 144)
  /-- KMAC256_DERIVATION (R239). The Keccak engine derives a key by KMAC256 and stages it to DSLOT (#C320). -/
  | kmac256Derivation (e : Fin 144)
  /-- ML_DSA_KEY_GENERATION (R240). The lattice engine generates an ML-DSA key pair (#D100). -/
  | mlDsaKeyGeneration (e : Fin 144)
  /-- ML_DSA_SIGN (R236). The lattice engine signs with ML-DSA, stopping with LIMIT after 1,000 attempts (#D110). -/
  | mlDsaSign (e : Fin 144)
  /-- ML_DSA_VERIFY (R240). The lattice engine verifies an ML-DSA signature (#D120). -/
  | mlDsaVerify (e : Fin 144)
  /-- ML_KEM_KEY_GENERATION (R240). The lattice engine generates an ML-KEM key pair (#D200). -/
  | mlKemKeyGeneration (e : Fin 144)
  /-- ML_KEM_ENCAPSULATE (R240). The lattice engine encapsulates and stages the shared secret (#D210). -/
  | mlKemEncapsulate (e : Fin 144)
  /-- ML_KEM_DECAPSULATE (R240). The lattice engine decapsulates and stages the shared secret (#D220). -/
  | mlKemDecapsulate (e : Fin 144)
  /-- RSA_PRIVATE_KEY_SIGNATURE (R241). The big-number engine makes an RSA secret-key signature (#B100). -/
  | rsaPrivateKeySignature (e : Fin 144)
  /-- RSA_PUBLIC_VERIFY (R241). The big-number engine verifies an RSA signature (#B110). -/
  | rsaPublicVerify (e : Fin 144)
  /-- RSA_OAEP_UNWRAP (R241). The big-number engine unwraps a key by RSA-OAEP into DSLOT (#B120). -/
  | rsaOaepUnwrap (e : Fin 144)
  /-- RSA_KEY_GENERATION (R236). The big-number engine generates an RSA key, stopping with LIMIT after 20,000 candidates (#B130). -/
  | rsaKeyGeneration (e : Fin 144)
  /-- ECDSA_SIGN (R241). The big-number engine makes an ECDSA signature (#B200). -/
  | ecdsaSign (e : Fin 144)
  /-- ECDSA_VERIFY (R241). The big-number engine verifies an ECDSA signature (#B210). -/
  | ecdsaVerify (e : Fin 144)
  /-- ECDH (R241). The big-number engine computes an ECDH shared secret into DSLOT (#B220). -/
  | ecdh (e : Fin 144)
  /-- EC_KEY_GENERATION (R241). The big-number engine generates an EC key (#B230). -/
  | ecKeyGeneration (e : Fin 144)
  /-- ED25519_SIGN (R241). The big-number engine makes an Ed25519 signature (#B300). -/
  | ed25519Sign (e : Fin 144)
  /-- ED25519_VERIFY (R241). The big-number engine verifies an Ed25519 signature (#B310). -/
  | ed25519Verify (e : Fin 144)
  /-- MODULAR_EXPONENTIATION (R241). The big-number engine exponentiates public operands (#B400). -/
  | modularExponentiation (e : Fin 144)
  /-- DRBG_GENERATE (R242). The DRBG generates bytes from the partition's DRBG (#8100). -/
  | drbgGenerate (e : Fin 144)
  /-- DRBG_RESEED (R242). The DRBG reseeds the partition's DRBG from the TRNG (#8110). -/
  | drbgReseed (e : Fin 144)
  /-- DRBG_GENERATE_KEY (R242). The DRBG generates a secret key into DSLOT (#8120). -/
  | drbgGenerateKey (e : Fin 144)
  /-- DRBG_AUTO_RESEED (R242). A DRBG reseeds itself after 2^20 generate requests. -/
  | drbgAutoReseed (k : Fin 16) (p : Fin 256)
  /-- PIN_TRANSLATE (R252). The decimal engine translates a PIN block between formats and keys, under the guard (#E100). -/
  | pinTranslate (e : Fin 144)
  /-- PIN_VERIFY_OFFSET (R253). The decimal engine verifies a PIN by the offset method under the attempt counters (#E110). -/
  | pinVerifyOffset (e : Fin 144)
  /-- PIN_VERIFY_PVV (R255). The decimal engine verifies a PIN by the PVV method (#E111). -/
  | pinVerifyPvv (e : Fin 144)
  /-- PIN_OFFSET_GENERATE (R253). The decimal engine generates a PIN offset when OFFGEN is set (#E120). -/
  | pinOffsetGenerate (e : Fin 144)
  /-- DUKPT_INITIAL_KEY (R258). The decimal engine derives and stages a DUKPT initial key (#E200). -/
  | dukptInitialKey (e : Fin 144)
  /-- DUKPT_MAC_GENERATE (R256). The decimal engine generates a MAC under a DUKPT working key (#E210). -/
  | dukptMacGenerate (e : Fin 144)
  /-- DUKPT_MAC_VERIFY (R256). The decimal engine verifies a MAC under a DUKPT working key (#E211). -/
  | dukptMacVerify (e : Fin 144)
  /-- DUKPT_DATA_DECRYPT (R256). The decimal engine decrypts data under a DUKPT data key (#E212). -/
  | dukptDataDecrypt (e : Fin 144)
  /-- TR31_UNWRAP (R260). The decimal engine authenticates and unwraps a TR-31 key block into DSLOT (#E300). -/
  | tr31Unwrap (e : Fin 144)
  /-- TR31_WRAP (R259). The decimal engine wraps a key as a TR-31 block, under the guard (#E301). -/
  | tr31Wrap (e : Fin 144)
  /-- ARQC_VERIFY (R261). The decimal engine verifies an EMV ARQC (#E400). -/
  | arqcVerify (e : Fin 144)
  /-- ARQC_VERIFY_AND_ARPC_GENERATE (R261). The decimal engine verifies an ARQC and forms an ARPC (#E401). -/
  | arqcVerifyAndArpcGenerate (e : Fin 144)
  /-- CVV_GENERATE (R262). The decimal engine generates a card verification value (#E500). -/
  | cvvGenerate (e : Fin 144)
  /-- CVV_VERIFY (R262). The decimal engine verifies a card verification value (#E501). -/
  | cvvVerify (e : Fin 144)
  /-- LUHN_CHECK (R263). The decimal engine checks a Luhn sum (#E600). -/
  | luhnCheck (e : Fin 144)
  /-- LUHN_COMPUTE (R263). The decimal engine computes a Luhn check digit (#E601). -/
  | luhnCompute (e : Fin 144)
  /-- FF1_ENCRYPT (R264). The decimal engine FF1-encrypts records (#E700). -/
  | ff1Encrypt (e : Fin 144)
  /-- FF1_DECRYPT (R264). The decimal engine FF1-decrypts records (#E701). -/
  | ff1Decrypt (e : Fin 144)
  /-- FF1_RE_TOKENIZE (R264). The decimal engine decrypts under KEY1 and encrypts under KEY2 with FF1 (#E702). -/
  | ff1ReTokenize (e : Fin 144)
  /-- FF3_1_ENCRYPT (R264). The decimal engine FF3-1-encrypts records (#E710). -/
  | ff31Encrypt (e : Fin 144)
  /-- FF3_1_DECRYPT (R264). The decimal engine FF3-1-decrypts records (#E711). -/
  | ff31Decrypt (e : Fin 144)
  /-- FF3_1_RE_TOKENIZE (R264). The decimal engine re-tokenizes records with FF3-1 (#E712). -/
  | ff31ReTokenize (e : Fin 144)
  /-- STAGED_ENTRY_ERASE (R186). When the commands of the previous turn have ended, a promoted slot's former contents are erased and the entry returns to the pool. -/
  | stagedEntryErase (slot : Fin 262144)
  /-- KS_ERASE (R189). A write by partition 1 to KS_ERASE stages erasure of a slot and its span, or is refused in STAT. -/
  | ksErase (p : Fin 256) (v : Word)
  /-- BLANK_MOVE (R336). A move to a blank port crosses into the fabric, and a trigger makes its result port pending. -/
  | blankMove (t : Fin 2048)
  /-- BLANK_RESULT (R336). A blank result is released LAT fabric cycles after the trigger, poisoned if the fabric is late. -/
  | blankResult (t : Fin 2048) (port : Fin 64) (v : Word) (late : Bool)
  /-- BLANK_SCRUB (R336). Every 10 ms the interface compares the fabric frames with the image. -/
  | blankScrub (k : Fin 16) (mismatch : Bool)
  /-- BLANK_IMAGE_LOAD (R337). After the old turn's commands end, the new blank frames load and the parked moves run. -/
  | blankImageLoad (k : Fin 16)
  /-- DMA_HEAD (R214). A write of DMA_HEAD to an IDLE channel starts a descriptor chain, and is otherwise ignored with HIGN set. -/
  | dmaHead (p : Fin 256) (c : Fin 512) (v : Word)
  /-- DMA_RESUME (R215). A RESUME write to a PAUSED channel re-translates and continues at DMA_OFFS. -/
  | dmaResume (p : Fin 256) (c : Fin 512)
  /-- DMA_ABORT (R216). An ABORT write stops a RUNNING or PAUSED channel after its chunk. -/
  | dmaAbort (p : Fin 256) (c : Fin 512)
  /-- DMA_CHUNK (R211). A DMA engine moves one line-sized chunk for a channel in rotation. -/
  | dmaChunk (c : Fin 512)
  /-- TLBINV_PAGE (R207). A CYL_TLBINV write with SCOPE PAGE starts removal of the partition's entries for one address. -/
  | tlbinvPage (p : Fin 256) (va : BitVec 56)
  /-- TLBINV_ALL (R207). A CYL_TLBINV write with SCOPE ALL starts removal of every entry of the partition. -/
  | tlbinvAll (p : Fin 256)
  /-- TLBINV_COMPLETE (R207). The invalidation takes effect once every TLB has dropped, walks have restarted and pinned DMA and jobs have ended. -/
  | tlbinvComplete (p : Fin 256)
  /-- CYL_PTROOT (R199). A write of CYL_PTROOT changes the partition's table root and acts as SCOPE ALL. -/
  | cylPtroot (p : Fin 256) (v : Word)
  /-- COMMAND_ARRIVAL (R283). A command frame reaches intake and is checked, forwarded, answered BUSY, dropped or admitted and stamped. -/
  | commandArrival (l : NetPort) (h : NetHdr) (frame : List Byte)
  /-- DISPATCH (R290). The dispatcher delivers a queue's head item to a qualifying serving thread's inbox, waking it. -/
  | dispatch (q : Fin 1024) (parityError : Bool)
  /-- INBOX_FALL (R291). An inbox item falls one stage, and becomes the current command at stage 0. -/
  | inboxFall (t : Fin 2048)
  /-- LANDING_COMPLETE (R293). Intake finishes writing the current command into the thread's landing slot. -/
  | landingComplete (t : Fin 2048) (badWords : List Nat)
  /-- DEADLINE_EXPIRY (R292). A command past its deadline at the head or at stage 0 is answered LATE and released. -/
  | deadlineExpiry (q : Fin 1024)
  /-- CUT_THROUGH_TIMEOUT (R294). A PCIe item whose host writes stop for 1 ms ends truncated. -/
  | cutThroughTimeout (f : Fin 255) (k : Fin 4)
  /-- RELEASE (R295). QUE_DONE RELEASE frees the current command, and the next item falls forward. -/
  | release (t : Fin 2048)
  /-- REWIND (R295). QUE_DONE REWIND returns the current command to its queue's head with REDELIVER. -/
  | rewind (t : Fin 2048)
  /-- RESPOND (R295). QUE_DONE RESPOND copies the response area into a response queue. -/
  | respond (t : Fin 2048) (rq : Fin 4)
  /-- RESPOND_AND_RELEASE (R295). QUE_DONE RESPOND and RELEASE responds, then frees the current command. -/
  | respondAndRelease (t : Fin 2048) (rq : Fin 4)
  /-- RESPONSE_SEND (R299). A response item leaves its queue by the route of its command. -/
  | responseSend (q : Fin 1024) (parityError : Bool)
  /-- MSIX_MODERATION_TIMER (R311). TIME expires after the oldest unsignalled response, and the vector is sent, exiting L0s or L1 if needed. -/
  | msixModerationTimer (q : Fin 1024)
  /-- HOLD_N_MIN_LOW (R301). A HOLD_N pin's minimum low time ends, and the pin may rise if its group is no longer HIGH. -/
  | holdNMinLow (g : Fin 8)
  /-- PFC_REFRESH (R302). While an FCE queue is HIGH, the port repeats its PFC or PAUSE frame at half the pause time. -/
  | pfcRefresh (port : Fin 2) (prio : Option (Fin 8))
  /-- CROSSING_PUSH (R305). A word is pushed into a lane crossing queue, or dropped and its frame marked when full. -/
  | crossingPush (x : Fin 10) (w : Word) (lastOfFrame : Bool)
  /-- CROSSING_POP (R305). A word is popped from a lane crossing queue. -/
  | crossingPop (x : Fin 10)
  /-- TELEMETRY_ITEM (R306). A producer writes a telemetry item into a telemetry queue. -/
  | telemetryItem (j : Fin 16) (source : Byte) (words : List Word) (done : Bool)
  /-- TELEMETRY_DRAIN (R308). Intake drains telemetry items into partition 0's ring and advances PROD. -/
  | telemetryDrain (j : Fin 16) (parityError : Bool)
  /-- QUE_TLM_FLUSH (R307). A FLUSH write empties a telemetry queue, tearing an item still being written. -/
  | queTlmFlush (p : Fin 256) (j : Fin 16)
  /-- QUE_TCONS (R308). Partition 0 advances CONS, letting a stopped drain resume. -/
  | queTcons (p : Fin 256) (j : Fin 16) (v : Word)
  /-- TURN_DELTA (R325). A write of TURN_DELTA starts translation and verification of a keycut delta. -/
  | turnDelta (p : Fin 256) (va : BitVec 56)
  /-- DELTA_VERIFY_DONE (R325). Verification of a delta ends and TURN_DSTAT reports STAGED or a refusal code. -/
  | deltaVerifyDone (p : Fin 256)
  /-- TURN_SET_OPEN (R327). TURN_SET OPEN reopens a CLOSED set that no turn has taken. -/
  | turnSetOpen (p : Fin 256)
  /-- TURN_SET_CLOSE (R327). TURN_SET CLOSE marks the plane's staged set complete. -/
  | turnSetClose (p : Fin 256)
  /-- TURN_SET_DISCARD (R327). TURN_SET DISCARD empties an OPEN set and frees its staged key entries. -/
  | turnSetDiscard (p : Fin 256)
  /-- TURN_COMMIT (R328). A GO write requests a turn: the closed sets are taken, the turn is audited and the drain begins. -/
  | turnCommit (p : Fin 256)
  /-- TURN_DRAIN_END (R328). No command of the turn before the current one remains, so the commit proceeds to agreement or the boundary. -/
  | turnDrainEnd
  /-- TURN_DRAIN_LIMIT (R26). The drain limit expires: commands still in flight are discarded as STALE and threads still running are frozen. -/
  | turnDrainLimit
  /-- QUAD_CLEAR (R137). Once all four threads of a moving quad are FROZEN, their state is cleared and they enter HALT in the new partition. -/
  | quadClear (q : Fin 512)
  /-- MODE_CHANGE_TO_FREE (R46). After earlier-turn commands end, a cylinder leaves level mode for free mode. -/
  | modeChangeToFree (c : Fin 128)
  /-- ARBITER_DRAW (R345). A lottery arbiter decides among its contestants by wait limit, tickets or rotation. -/
  | arbiterDraw (a : Nat) (contestants : List Nat)
  /-- EVENT_COUNT_CROSSING (R351). A count of events crosses a clock boundary in one handshake. -/
  | eventCountCrossing (d : Fin 26) (events : Nat)
  /-- STALL_WATCH_EXPIRY (R357). A handshake toward a clocked domain exceeds its limit and is forced to complete, and the domain is marked STALLED. -/
  | stallWatchExpiry (d : Fin 26) (inward : Bool) (part : Byte)
  /-- DOMAIN_RESET (R359). A RESET across a domain's crossings flushes them and resets each crossing. -/
  | domainReset (d : Fin 26)
  /-- ARB_XMODE (R355). A partition 0 write before READY selects 3-series crossing mode per domain. -/
  | arbXmode (p : Fin 256) (v : Word)
  /-- KNK_DOORBELL (R362). A store to KNK_DOORBELL raises an owned source, setting PEND and counting CNT. -/
  | knkDoorbell (p : Fin 256) (src : Fin 4096)
  /-- DEVICE_RAISE (R362). A device unit raises a source on a partition's behalf. -/
  | deviceRaise (p : Fin 256) (src : Fin 4096)
  /-- KNK_PEND_SET (R363). A write of KNK_PEND_SET sets PEND and makes the source ripe at once. -/
  | knkPendSet (p : Fin 256) (src : Fin 4096)
  /-- KNK_PEND_CLR (R363). A write of KNK_PEND_CLR clears PEND and CNT. -/
  | knkPendClr (p : Fin 256) (src : Fin 4096)
  /-- KNK_MASK_SET (R363). A write of KNK_MASK_SET masks a source. -/
  | knkMaskSet (p : Fin 256) (src : Fin 4096)
  /-- KNK_MASK_CLR (R363). A write of KNK_MASK_CLR unmasks a source. -/
  | knkMaskClr (p : Fin 256) (src : Fin 4096)
  /-- MODERATION_RIPE (R365). MINIVL elapses for a pending source, making it ripe. -/
  | moderationRipe (src : Fin 4096)
  /-- KNOCK_ENTRY (R368). After ts.fly reaches 0, a thread checks and writes a knock frame and fetches its asynchronous handler. -/
  | knockEntry (t : Fin 2048)
  /-- SYNC_KNOCK_ENTRY (R372). A fault of the thread's own words takes a synchronous knock entry at BASE + #40. -/
  | syncKnockEntry (t : Fin 2048)
  /-- KNK_CLAIM (R373). A load of KNK_CLAIM takes the highest eligible source, pushes the priority stack and raises the running priority. -/
  | knkClaim (t : Fin 2048)
  /-- KNK_EOI (R375). A store of KNK_EOI ends the top active source and pops the priority stack, opening the exit window. -/
  | knkEoi (t : Fin 2048) (src : Fin 4096)
  /-- KNK_RTN (R376). A store of KNK_RTN returns from the knock frame, by direct delivery or by restore. -/
  | knkRtn (t : Fin 2048)
  /-- THREAD_FREEZE (R139). A thread to be preempted becomes FROZEN at a word boundary once its operations in flight have landed. -/
  | threadFreeze (t : Fin 2048)
  /-- LANE_LOSS_OF_LOCK (R384). A lane that loses lock or alignment retrains, and its crossing takes a domain reset. -/
  | laneLossOfLock (l : Fin 48)
  /-- ARP_ND_ECHO (R387). A port answers ARP, neighbour solicitation or echo for its own addresses. -/
  | arpNdEcho (l : NetPort) (kind : NetQuery) (target : BitVec 128)
  /-- PTP_MESSAGE (R389). A timestamped PTP message reaches the timebase unit, which disciplines the timebase. -/
  | ptpMessage (port : Fin 2) (domain : Byte) (m : PtpMessage)
  /-- PAUSE_FRAME_RECEIVED (R388). A received PAUSE or PFC frame stops transmission for its quanta. -/
  | pauseFrameReceived (port : Fin 2) (prios : Option (List (Fin 8))) (quanta : BitVec 16)
  /-- HELLO (R393). A HELLO frame is checked, and the session unit answers ACCEPT with new session keys, or REJECT. -/
  | hello (l : NetPort) (h : NetHdr) (frame : List Byte)
  /-- CLOSE (R394). A CLOSE frame closes an Ethernet session. -/
  | close (l : NetPort) (h : NetHdr) (frame : List Byte)
  /-- SESSION_IDLE_TIMEOUT (R394). A session with no accepted frame for 600 s closes. -/
  | sessionIdleTimeout (session : Fin 65536)
  /-- COMMAND_WINDOW_WRITE (R398). A PCIe write to a command window adds bytes to the item stream and admits complete headers. -/
  | commandWindowWrite (f : Fin 255) (k : Fin 4) (bytes : List Byte) (disabledBytes : Bool)
  /-- CWIN_RESYNC (R398). A RESYNC write discards the partial item and awaits a header. -/
  | cwinResync (f : Fin 255) (k : Fin 4)
  /-- RBASE (R399). A write of RBASE sets the response ring, and setting EN resets RPROD and RCONS. -/
  | rbase (f : Fin 255) (k : Fin 4) (v : Word)
  /-- RCONS (R399). The host advances RCONS, making room for waiting responses. -/
  | rcons (f : Fin 255) (k : Fin 4) (v : Word)
  /-- FLR_VF (R400). A function-level reset of a VF clears its registers and streams and drops its waiting responses. -/
  | flrVf (f : Fin 255)
  /-- FLR_PF0 (R400). A function-level reset of PF0 does the same and clears VF Enable. -/
  | flrPf0
  /-- PCIE_LINK_DOWN (R400). The PCIe link goes down, and domains 6 and 7 become DOWN. -/
  | pcieLinkDown
  /-- PERST_N (R522). PERST_N asserted holds domains 6 and 7 in reset, and its deassertion starts a domain reset and training. -/
  | perstN (asserted : Bool)
  /-- FLIT_RECEIVE (R403). A Westad flit is received and accepted in order, or discarded with a NAK. -/
  | flitReceive (l : Fin 4) (flit : List Byte)
  /-- NAK (R403). A received NAK makes the transmitter replay from the named SEQ. -/
  | nak (l : Fin 4) (seq : BitVec 12)
  /-- REPLAY_TIMEOUT (R403). 10 µs without a new ACK make the transmitter replay from its oldest unacknowledged flit. -/
  | replayTimeout (l : Fin 4)
  /-- WESTAD_LANE_FAILURE (R405). A failed lane makes the link retrain at the widest working width. -/
  | westadLaneFailure (l : Fin 4) (lane : Fin 4)
  /-- WESTAD_LINK_DOWN (R405). A link with no valid flit for 100 µs goes down and drops its unacknowledged flits. -/
  | westadLinkDown (l : Fin 4)
  /-- MESSAGE_RESEND_TIMEOUT (R406). 200 µs without an acknowledgement make a sender resend its unacknowledged messages. -/
  | messageResendTimeout (m : Fin 8)
  /-- ROUTE (R406). A ROUTE message updates link states, and routes are recomputed. -/
  | route (m : Fin 8) (links : List (Fin 8 × Fin 8))
  /-- ACK (R406). An ACK message acknowledges messages cumulatively. -/
  | ack (m : Fin 8) (cls : Fin 3) (mseq : Nat)
  /-- KX1 (R407). A KX1 keying message is checked and answered with KX2. -/
  | kx1 (m : Fin 8) (body : List Byte)
  /-- KX2 (R407). A KX2 message is checked and the pair keys are derived, or the pair reads REFUSED. -/
  | kx2 (m : Fin 8) (body : List Byte)
  /-- KEYING_RETRY (R407). A refused pair retries keying every 1 s. -/
  | keyingRetry (m : Fin 8)
  /-- MSEQ_REKEY (R407). A pair rekeys when MSEQ reaches 2^48. -/
  | mseqRekey (m : Fin 8)
  /-- STAGE (R408). A mirrored STAGE message places a key staging in the member's pool and set. -/
  | stage (m : Fin 8) (origin : Fin 8) (oseq : Nat) (slot : Fin 262144) (copies : List (List Byte))
  /-- ERASE (R408). A mirrored ERASE message stages an erasure. -/
  | erase (m : Fin 8) (origin : Fin 8) (oseq : Nat) (slot : Fin 262144)
  /-- DISCARD (R408). A mirrored DISCARD message removes the origin member's stagings. -/
  | discardMsg (m : Fin 8) (origin : Fin 8) (oseq : Nat)
  /-- PROPOSE (R409). A PROPOSE message starts the member's drain and a vote on turn n + 1. -/
  | propose (m : Fin 8) (turn : Nat) (ksd : Bytes) (exd : Bytes)
  /-- VOTE (R409). A VOTE message is counted by the proposer, which sends APPLY when all vote yes. -/
  | vote (m : Fin 8) (turn : Nat) (yes : Bool) (reason : Byte)
  /-- APPLY (R410). An APPLY message makes a member apply the boundary and answer DONE. -/
  | apply (m : Fin 8) (turn : Nat)
  /-- ABORT (R410). An ABORT message ends the member's agreement without a turn. -/
  | abort (m : Fin 8) (turn : Nat)
  /-- DONE (R410). A DONE message is counted, and the proposer applies its own boundary after the last one. -/
  | doneMsg (m : Fin 8) (turn : Nat)
  /-- QUERY (R410). A QUERY message is answered with a STATE of the turn's outcome. -/
  | query (m : Fin 8) (turn : Nat)
  /-- STATE (R410). A STATE message tells a querying member to apply or abort. -/
  | stateMsg (m : Fin 8) (turn : Nat) (outcome : Byte)
  /-- VOTE_OUTCOME_TIMEOUT (R410). A member with no APPLY or ABORT within the DRAIN limit after its yes vote sends QUERY. -/
  | voteOutcomeTimeout
  /-- QUERY_OUTCOME_TIMEOUT (R410). All reached members answer unknown after a second DRAIN limit, and the member aborts. -/
  | queryOutcomeTimeout
  /-- OUTCOME_UNKNOWN_TIMEOUT (R410). A member that cannot learn the outcome within 1 s of its vote enters the quiet state. -/
  | outcomeUnknownTimeout
  /-- SMBUS_BLOCK_WRITE (R412). SMBus code #10 delivers chunks of a partition 0 command. -/
  | smbusBlockWrite (bytes : List Byte) (last : Bool) (pecOk : Bool)
  /-- SMBUS_BLOCK_READ (R412). SMBus code #11 returns chunks of partition 0's pending responses. -/
  | smbusBlockRead (pecOk : Bool)
  /-- SMBUS_READ_LC_ID (R412). SMBus code #01 returns LC_ID and the READY and quiet flags, answered by the Keeper. -/
  | smbusReadLcId (pecOk : Bool)
  /-- UART_INPUT (R413). UART input is accepted only in BLANK and CUT. -/
  | uartInput (byte : Byte)
  /-- DBGCHAL (R459). A read of DBGCHAL returns a fresh debug challenge. -/
  | dbgchal
  /-- DBGPORT (R459). A DBGPORT access chooses the partition and carries debug reads and writes. -/
  | dbgport (a : DebugAccess)
  /-- DBGRSP (R459). A signed response written to DBGRSP opens a debug session, or a failure draws a new challenge. -/
  | dbgrsp (key : Bytes) (sig : Bytes)
  /-- DEBUG_FREEZE (R459). An open debug session freezes the partition's threads. -/
  | debugFreeze
  /-- DEBUG_RELEASE (R459). An open debug session releases the partition's frozen threads. -/
  | debugRelease
  /-- TAP_RESET (R459). A TAP reset ends a debug session and appends a DEBUG record. -/
  | tapReset
  /-- MAINS_LOSS (R419). The mains is judged absent: MAINS clears, MLOSS is set and the device runs on from the buffer. -/
  | mainsLoss
  /-- MAINS_RETURN (R416). The mains has stayed in range for 100 ms and counts as present again. -/
  | mainsReturn
  /-- HOLD_UP_EXPIRY (R419). Mains absent for 20 ms puts the device in power-fail. -/
  | holdUpExpiry
  /-- POWER_FAIL_RELEASE_LIMIT (R419). 10 ms into power-fail, commands still in flight are answered STALE. -/
  | powerFailReleaseLimit
  /-- PFDONE (R419). A PWR_CTL PFDONE write ends the power-fail window early. -/
  | pfdone (p : Fin 256)
  /-- POWER_FAIL_END (R420). Power-fail ends in a warm boot if mains is present, or otherwise in zeroization and OFF. -/
  | powerFailEnd
  /-- FLAT_WINDOW_BOUNDARY (R423). At a TRACK window boundary the device sets the input power for the next window. The mean load is in W. -/
  | flatWindowBoundary (meanLoad : Nat)
  /-- GOVERNOR_TICK (R425). Every 100 µs a keyring's governor sets its rail target from demand, ceilings and limits. Demand
  is in thousandths, the die temperature in °C, and `ro` the measured speed ratio in thousandths. -/
  | governorTick (k : Fin 16) (demand : Nat) (temp : Int) (ro : Nat)
  /-- LEDGER_RECORD (R429). Every hour the device grants wear and appends a ledger record for each keyring. -/
  | ledgerRecord
  /-- WEAR_FUSE_BLOW (R429). For each 64 wear-hours spent, a wear fuse of the keyring is blown. -/
  | wearFuseBlow (k : Fin 16)
  /-- LEARNING_END (R430). After 60 s of samples a keyring leaves its learning period. -/
  | learningEnd (k : Fin 16)
  /-- REST_ENTRY (R432). A cylinder idle for the REST delay enters REST. -/
  | restEntry (c : Fin 128)
  /-- REST_EXIT (R432). An event that would make a thread READY brings the cylinder out of REST after 150 ns. -/
  | restExit (c : Fin 128)
  /-- DOZE_ENTRY (R434). A keyring idle for the DOZE delay gates its engines and blank. -/
  | dozeEntry (k : Fin 16)
  /-- DOZE_EXIT (R434). A REST exit, a DMA_HEAD write or turn work ungates the keyring's engines and blank. -/
  | dozeExit (k : Fin 16)
  /-- CYL_IDLE_T (R432). A write of CYL_IDLE_T takes effect at once against intervals already running. -/
  | cylIdleT (p : Fin 256) (v : Word)
  /-- PWR_SLEEP (R435). A GO write requests WATCH: refused, declined by an earlier wake, or decided. -/
  | pwrSleep (p : Fin 256) (v : Word)
  /-- WATCH_DRAIN_END (R437). After the drain, the device freezes threads, saves state, latches pads and drops rails into WATCH. -/
  | watchDrainEnd
  /-- WAKE_ALARM (R436). The Keeper tally reaches PWR_WAKE.ALARM and wakes the device. -/
  | wakeAlarm
  /-- WAKE_N (R436). A low pulse of at least 1 µs on WAKE_N wakes the device. -/
  | wakeN
  /-- WATCH_WAKE (R439). After a latched wake, rails, DRAM, timebase, knocker and threads are restored. -/
  | watchWake
  /-- WATCH_MAINS_ABSENT (R441). Mains absent for 20 ms in WATCH clears the memories and enters OFF. -/
  | watchMainsAbsent
  /-- KEEP_PADREL (R440). A write of 1 releases a held pad group after wake. -/
  | keepPadrel (p : Fin 256) (v : Word)
  /-- TB_SET (R442). A write of TB_SET sets the timebase forward while LOCK is 0. -/
  | tbSet (p : Fin 256) (v : Word)
  /-- PTP_LOCK_LOSS (R442). Eight Sync intervals without a Sync message clear LOCK. -/
  | ptpLockLoss
  /-- CRYSTAL_QUALIFIED (R447). The crystal has run 500 ms without a missed edge, and the Keeper switches to it. -/
  | crystalQualified
  /-- CRYSTAL_LOST (R447). Ten missed crystal edges return the Keeper to RC and set XTAL. -/
  | crystalLost
  /-- CRYSTAL_START_TIMEOUT (R447). No crystal start within 2 s leaves the Keeper on RC and is reported. -/
  | crystalStartTimeout
  /-- KEEPER_WATCHDOG_EXPIRY (R448). The Keeper watchdog expires, KWDOG is set and the quiet state is entered. -/
  | keeperWatchdogExpiry
  /-- KEEPER_SELF_TEST (R448). The hourly Keeper self-test reruns, and a failure enters the quiet state. -/
  | keeperSelfTest (passed : Bool)
  /-- MESH_CONTINUITY_FAULT (R449). A comparator detects an open or short on a ward mesh segment. -/
  | meshContinuityFault (segment : Fin 512)
  /-- MESH_PATTERN_CHECK (R449). Every 1 s the mesh resistances are decoded against the helper data. -/
  | meshPatternCheck (decodes : Bool)
  /-- LIGHT_DETECTED (R449). A photodiode inside the enclosure detects light. -/
  | lightDetected (diode : Fin 8)
  /-- TEMPERATURE_SAMPLE (R449). The enclosure temperature is sampled and compared with the grade's limits. -/
  | temperatureSample (sensor : Fin 4) (celsius : Int)
  /-- RAIL_GLITCH (R449). A rail outside its window for 20 ns or more is counted as a rail glitch. -/
  | railGlitch (rail : Fin 24)
  /-- LC_TO_CUT (R461). A life-cycle request for CUT is verified, and the fuse share, helper data and root check are enrolled. -/
  | lcToCut (p : Fin 256) (va : BitVec 56)
  /-- LC_TO_KEYED (R461). A life-cycle request for KEYED is verified, and the owner's digest is fused. -/
  | lcToKeyed (p : Fin 256) (va : BitVec 56)
  /-- LC_TO_LOCKED (R461). A life-cycle request for LOCKED is verified and its fuses are blown. -/
  | lcToLocked (p : Fin 256) (va : BitVec 56)
  /-- LC_TO_RETURNED (R462). A request for RETURNED seals, zeroizes, blows the mesh binding and warm-boots. -/
  | lcToReturned (p : Fin 256) (va : BitVec 56)
  /-- LC_TO_SCRAPPED (R462). A request for SCRAPPED is verified and carried out. -/
  | lcToScrapped (p : Fin 256) (va : BitVec 56)
  /-- KEEP_ATTEST (R466). A write of KEEP_ATTEST starts an attestation report. -/
  | keepAttest (p : Fin 256) (va : BitVec 56)
  /-- ATTEST_DONE (R466). The report is signed and written, and STATUS reads done. -/
  | attestDone
  /-- AUDIT_SEAL (R468). A KEEP_ASEAL write with MODE #1 starts sealing the audit tail. -/
  | auditSeal (p : Fin 256) (va : BitVec 56)
  /-- FINAL_SEAL (R471). During power-fail, a write with MODE #2 blows an epoch fuse and makes the FINAL seal. -/
  | finalSeal (p : Fin 256) (va : BitVec 56)
  /-- SEAL_DONE (R468). Records and trailer are written, the tail entries are freed and a SEAL record is appended. -/
  | sealDone
  /-- PROBE_VERDICT (R475). A probe ends with a transient or lasting verdict, recorded in a FAULT record. -/
  | probeVerdict (cls : Fin 16) (index : Nat) (passed : Bool)
  /-- PROBE_TIMEOUT (R475). A probe running longer than 8 times its probe time ends as lasting by timeout. -/
  | probeTimeout (cls : Fin 16) (index : Nat)
  /-- RETIREMENT_FUSE_BLOW (R478). A retirement entry is blown into the retirement fuses when mains and buffer allow. -/
  | retirementFuseBlow
  /-- DRAM_SCRUB (R195). The controller reads and checks every data line once every 12 hours. -/
  | dramScrub (line : Nat) (o : EccOutcome)
  /-- TRNG_HEALTH_FAIL (R473). A continuous TRNG health-test failure is reported and probed. -/
  | trngHealthFail
  /-- QUIET_ENTER (R482). KEEP_QUIET ENTER, written by partition 0, enters the quiet state. -/
  | quietEnter (p : Fin 256)
  /-- QUIET_SELFTEST (R486). KEEP_QUIET SELFTEST probes every unit in service. -/
  | quietSelftest (p : Fin 256)
  /-- SELFTEST_DONE (R486). The quiet-state self-test ends and STEST reads passed or failed. -/
  | selftestDone
  /-- QUIET_EXIT (R486). KEEP_QUIET EXIT leaves the quiet state by a warm boot, or is refused. -/
  | quietExit (p : Fin 256)
  /-- QUIET_UART_LINE (R483). Every 10 s in the quiet state the UART sends a QUIET line. -/
  | quietUartLine
  /-- MAINS_APPLIED (R495). Mains applied to a module in OFF starts a cold boot through its thirteen steps. -/
  | mainsApplied
  /-- BUNDLE_DATA (R493). An EVBD frame answers an outstanding GET with bundle bytes. -/
  | bundleData (offset : Nat) (length : Nat) (bytes : List Byte)
  /-- GET_RETRY (R493). A GET without an answer in 10 ms is repeated. -/
  | getRetry
  /-- GET_BROADCAST (R493). While no host answers, a GET for offset 0 is broadcast every 1 s. -/
  | getBroadcast
  /-- BUNDLE_TIMEOUT (R493). With no host answer within 60 s, the boot stops with BUNDLE. -/
  | bundleTimeout
  /-- BOOT_FAIL_REPORT (R506). A stopped boot sends a STATUS frame, a UART line and, for retry failures, a GET every 5 s. -/
  | bootFailReport
  /-- READY_ASSERT (R501). Once GO, partition start, buffer energy and pad release all hold, READY is asserted. -/
  | readyAssert
  /-- LC_BOOT_GO (R501). LC_BOOT GO allows READY to be asserted. -/
  | lcBootGo (p : Fin 256)
  /-- LC_BOOT_WARM (R491). LC_BOOT WARM requests a warm boot from the boot copy, after any commit in progress. -/
  | lcBootWarm (p : Fin 256)
  /-- LC_BOOT_WARM_BUNDLE (R494). LC_BOOT ACT #3 checks a new bundle and warm-boots with it, or is refused. -/
  | lcBootWarmBundle (p : Fin 256)
  /-- LC_BOOT_EXPORT_TRAINING (R508). LC_BOOT ACT #4 exports the DRAM training data. -/
  | lcBootExportTraining (p : Fin 256)
  /-- KS_IMG_EXPORT (R505). KS_IMG EXPORT starts a sealed key-store image. -/
  | ksImgExport (p : Fin 256) (va : BitVec 56)
  /-- KS_IMG_EXPORT_DONE (R505). The key-store image has been written and STAT reads done. -/
  | ksImgExportDone
  /-- PPS_PULSE (R523). At each whole second of a locked timebase, a PPS MUX contact goes high for 10 ms. -/
  | ppsPulse
  /-- CYL_CMODE_READ (R53). A read of CYL_CMODE returns and clears the completion-error counters. -/
  | cylCmodeRead (p : Fin 256) (c : Fin 128)
  /-- KS_QLAST_READ (R189). A read of KS_QLAST returns and clears the latest quarantine event. -/
  | ksQlastRead (p : Fin 256)
  /-- DMA_STAT_READ (R216). A read of DMA_STAT returns and clears CNT. -/
  | dmaStatRead (p : Fin 256) (c : Fin 512)
  /-- ENG_ERR_READ (R243). A read of ENG_ERR returns and clears the engine's error counters. -/
  | engErrRead (p : Fin 256) (e : Fin 144)
  /-- EXG_STAT_READ (R277). A read of EXG_STAT returns and clears the guard counters. -/
  | exgStatRead (p : Fin 256) (q : Fin 256)
  /-- QUE_STAT_READ (R313). A read of QUE_STAT returns and clears DROP. -/
  | queStatRead (p : Fin 256) (q : Fin 1024) (response : Bool)
  /-- QUE_PSTAT_READ (R313). A read of QUE_PSTAT returns and clears the LATE, STALE, BUSY and BADRSP counters. -/
  | quePstatRead (p : Fin 256) (q : Fin 256)
  /-- QUE_TLM_READ (R313). A read of QUE_TLM returns and clears DROP and TORN. -/
  | queTlmRead (p : Fin 256) (j : Fin 16)
  /-- KEEP_XLOG_READ (R360). A read of KEEP_XLOG returns and clears the stall counters. -/
  | keepXlogRead (p : Fin 256)
  /-- KNK_STRAY_CNT_READ (R382). A read of KNK_STRAY_CNT returns and clears DENY and STRAY. -/
  | knkStrayCntRead (p : Fin 256)
  /-- LANE_STAT_READ (R415). A read of LANE_STAT returns and clears the FEC counts. -/
  | laneStatRead (p : Fin 256) (l : Fin 48)
  /-- LANE_DROP_READ (R415). A read of LANE_DROP returns and clears the drop counters. -/
  | laneDropRead (p : Fin 256) (j : Fin 5)
  /-- LANE_WLINK_READ (R415). A read of LANE_WLINK returns and clears REPLAY and RETRAIN. -/
  | laneWlinkRead (p : Fin 256) (l : Fin 4)
  /-- KEEP_TAMP_READ (R472). A read of KEEP_TAMP returns and clears GLITCH. -/
  | keepTampRead (p : Fin 256)
  /-- REGISTER_WRITE (R10). A write to a control register with no row of its own takes effect as its access codes state. -/
  | registerWrite (p : Fin 256) (t : Fin 2048) (addr : Nat) (v : Word)
  /-- LANE_TRAINING_DONE (R384). A lane or link that was retraining, or a PCIe or Westad link that was down, comes up again, and its domains leave DOWN. -/
  | laneTrainingDone (l : TrainTarget)
  /-- PAUSE_TIME_EXPIRY (R388). The pause time of a received PAUSE or PFC frame runs out, and transmission on the port or priority resumes. -/
  | pauseTimeExpiry (port : Fin 2) (prio : Option (Fin 8))
  /-- PCIE_CONFIG_WRITE (R312). A host configuration or MSI-X table write enables a function or VF Enable, or unmasks a vector, and any pending MSI-X message is then sent. -/
  | pcieConfigWrite (w : PcieConfig)
  /-- ASPM_L0S_L1_TRANSITION (R401). The PCIe link enters or leaves L0s or L1 under ASPM on link idleness or host request. -/
  | aspmL0sL1Transition (power : LinkPower)
  /-- SUPPLY_RETRY (R506). After a SUPPLY boot failure, the supply retries bringing up the 12 V bus every 10 s. -/
  | supplyRetry (up : Bool)
  deriving DecidableEq, Repr

end Sys2Proof
end

