-- ==== Sys2Proof/Machine/State.lean ====
section
/-! DEFINITION. The state of the EVG-7128 as plain data: every register, store, queue, thread, engine and
pin the specification names, and the queue of waiting commands. -/

namespace Sys2Proof.Machine

/-! ### Threads (R136 to R164) -/

/-- The thread states of R138. -/
inductive ThrState where
  | none | halt | wait | ready | parked | frozen
  deriving DecidableEq, Repr

/-- Why a thread is parked: the codes of CYL_PARK (R164). -/
inductive Park where
  | no | source | unit | flyT | flyC | spec | fetch | mulvis | memory
  deriving DecidableEq, Repr

/-- One access: its pieces as (physical digit address, digits), in ascending virtual order; two pieces
when it spans two pages (R168). -/
abbrev Pieces := List (Nat × Nat)

/-- The repeat state beside rep.len and rep.cnt, which are ports (R129). -/
structure Rep where
  active : Bool
  len : Nat
  pos : Nat
  deriving DecidableEq, Repr

/-- What an operation in flight will do when it completes (R145). -/
inductive OpKind where
  /-- A digit-unit operation: the ports it will write and the bit of cmp.bi. -/
  | unit (u : DUnit) (writes : List (Nat × Word)) (bit : Option (Nat × Bool))
  /-- A division: its result ports, its trigger word's address and the repeat state of that moment (R102). -/
  | div (signed : Bool) (steps : Nat) (writes : List (Nat × Word)) (pc : VAddr) (rep : Rep) (cnt : Word)
  /-- A product, the number of the issue slot at which it becomes visible (R96), and whether it is poisoned. -/
  | mul (lo hi : Word) (slot : Nat) (bad : Bool)
  /-- An unresolved branch (its record stands in `Thread.spec`). -/
  | branch
  /-- An unresolved return: where its frame header and the registers of its mask lie (R124). -/
  | ret (hdr : List (Pieces × Option (Word × Bool))) (regs : List (Nat × Pieces × Option (Word × Bool)))
  /-- A load into general register `reg`, `w` digits; `fwd` is data taken from the store buffer;
  `reserve` for ldr.t (R153). -/
  | load (reg : Nat) (w : Nat) (va : VAddr) (pieces : Pieces) (fwd : Option (Word × Bool)) (reserve : Bool)
  /-- str.ld: the data arrive, then the word that reads them issues. -/
  | strLoad (w : Nat) (pieces : Pieces) (fwd : Option (Word × Bool))
  /-- A store-conditional until stc.r is decided (R155). -/
  | stc (w : Nat) (pieces : Pieces) (data : Word) (poison : Bool)
  /-- An atomic until at.r lands: 0 add, 1 swap, 2 compare-and-swap (R156). -/
  | atomic (which : Nat) (w : Nat) (pieces : Pieces) (operand compare : Word)
  /-- A test-and-set of a keyring bit (R151). -/
  | tas (index : Nat)
  /-- A seat request not yet decided (R220). -/
  | engRsv (e : Nat)
  /-- A job that its engine's queue has not yet accepted (R226). -/
  | ejob (e va : Nat) (desc : Pieces) (turn session : Nat)
  /-- A blank trigger; `resp` is the port that will receive its result (R336). -/
  | blank (trigger : Nat) (resp : Option Nat)
  deriving DecidableEq, Repr

/-- An operation in flight. -/
structure Op where
  id : Nat
  kind : OpKind
  deriving DecidableEq, Repr

/-- The part of a thread's state that a discard restores (R117) and a preemption keeps.
`ports` holds every port that stores a value, by its number; `poison` names the poisoned ports. -/
structure Arch where
  pc : VAddr
  g : Tab Word
  bits : Tab Bool
  ports : Tab Word
  poison : List Nat
  shW : Nat
  stW : Nat
  atW : Nat
  immAcc : BitVec 48
  immCnt : Nat
  tgtAbs : Bool
  rep : Rep
  slot : Nat
  ras : List VAddr
  ops : List Op
  deriving DecidableEq, Repr

/-- What decides an unresolved branch or return. -/
inductive BranchCond where
  | known (taken : Bool)
  | onBit (index : Nat) (sense : Bool)
  /-- A return: the address in its frame header decides. -/
  | ret
  deriving DecidableEq, Repr

/-- An unresolved branch or return (R113 to R117): the operation that resolves it, what decides it, whether it was
predicted taken, the state the thread has if the prediction was wrong, the state it had at once after the branch word
along the predicted path, and the words issued past it. A return without a prediction (R126) has `predicted` none. -/
structure Branch where
  op : Nat
  cond : BranchCond
  predicted : Option Bool
  guess : VAddr
  saved : Arch
  along : Arch
  past : Nat
  deriving DecidableEq, Repr

/-- A store on its way to memory (R175): its order among the thread's operations, where it goes and its data.
The first 8 of a thread's list are in its store buffer; any after them wait for a free entry. -/
structure SbEntry where
  id : Nat
  pieces : Pieces
  w : Nat
  data : Word
  poison : Bool
  deriving DecidableEq, Repr

/-- A synchronous knock waiting to be taken: its cause and EPC (R372). -/
structure SyncKnock where
  cause : Nat
  epc : VAddr
  fva : VAddr
  finfo : Word
  translation : Bool
  deriving DecidableEq, Repr

/-- A page-table walk that a thread waits for (R205). -/
structure Walk where
  va : VAddr
  acc : Nat
  waits : Bool
  deriving DecidableEq, Repr

/-- A command item (R288). `ord` numbers items in admission order; `payload` holds the bytes that have arrived, and `whole`
says that no more will come; `route` is the session, function (#F000 up) or SMBus (#FF01) it came by. -/
structure Cmd where
  ord : Nat
  turn : Nat
  deadline : Nat
  arrival : Nat
  payload : Bytes
  len : Nat
  session : Nat
  seq : Nat
  olq : Nat
  part : Nat
  origin : Nat
  gap : Bool
  poison : Bool
  redeliver : Bool
  queue : Nat
  whole : Bool
  truncated : Bool
  route : Nat
  badWords : List Nat
  deriving DecidableEq, Repr

/-- A thread's current command (R291) and how far it has landed (R293). -/
structure Current where
  cmd : Cmd
  landed : Nat
  deriving DecidableEq, Repr

/-- Why the device holds a thread FROZEN (R138). -/
inductive Freeze where
  | quadMove | probe | quiet | debug | watch
  deriving DecidableEq, Repr

/-- One hardware thread. `held` are its fetch groups: address, words, poisoned. `inbox` holds the
items above stage 0 with their stages, lowest first (R291). `sync` is a synchronous knock to be
taken; `entering` says that an asynchronous entry has begun (R368); `fresh` that a handler's first word has not
issued (1 asynchronous, 2 synchronous). `fromWait`: 1 woken from WAIT and no word issued since, 2 an entry was taken from
WAIT and nothing claimed since (R366). `parity`: a store-buffer parity knock waits (R372). `direct`: the entry in progress is
a direct delivery (R376). `lastPc`, `lastRep` and `lastCnt` are the address and repeat state of the word last issued. `fence` lists the fences not yet
satisfied: the kind and the number of the first operation after each. `jobs` are the engines that owe the thread a result. -/
structure Thread where
  part : Nat
  st : ThrState
  resume : ThrState
  park : Park
  freeze : Option Freeze
  freezeReq : Option Freeze
  arch : Arch
  spec : List Branch
  heldFault : Option SyncKnock
  nextOp : Nat
  sbuf : List SbEntry
  resv : Option (List Nat)
  held : List (Nat × List Nat × Bool)
  walk : Option Walk
  inbox : List (Nat × Cmd)
  current : Option Current
  jobs : List Nat
  prio : List (Nat × Nat)
  runPri : Nat
  frames : Nat
  epcs : List VAddr
  fva : VAddr
  finfo : Word
  exitWin : Bool
  entering : Bool
  fresh : Nat
  fromWait : Nat
  sync : Option SyncKnock
  parity : Bool
  direct : Bool
  lastPc : VAddr
  lastRep : Rep
  lastCnt : Word
  strData : Option (Word × Bool)
  fence : List (Nat × Nat)
  yieldFor : List Nat
  deriving DecidableEq, Repr

/-- An invalidation not yet in effect (R207): the partition, the address for SCOPE PAGE, the thread that stored it. -/
structure Inval where
  part : Nat
  va : Option Nat
  tid : Option Nat
  deriving DecidableEq, Repr

/-! ### Cylinders, keyrings, caches, TLBs -/

/-- A cached line: its way, its physical line number, the partition that filled it (R171), and whether it is dirty. -/
structure CLine where
  way : Nat
  line : Nat
  part : Nat
  dirty : Bool
  deriving DecidableEq, Repr

/-- One set of a cache: its lines and its tree pseudo-LRU bits (R169). -/
structure CSet where
  lines : List CLine
  tree : Nat
  deriving DecidableEq, Repr

/-- A TLB entry: partition, page base, size (4 KiB or 2 MiB), physical base, permissions X W R (R206). -/
structure TlbEntry where
  part : Nat
  vbase : Nat
  large : Bool
  pbase : Nat
  x : Bool
  w : Bool
  r : Bool
  deriving DecidableEq, Repr

/-- One cylinder. -/
structure Cyl where
  level : Bool
  toFree : Bool
  lastIssued : Nat
  lastFlyC : Nat
  divBusy : Option Nat
  lastDiv : Nat
  rest : Bool
  icache : Tab CSet
  dcache : Tab CSet
  itlb : List TlbEntry
  dtlb : List TlbEntry
  deriving DecidableEq, Repr

/-- A partition's DRBG in a keyring (R242): whether it is instantiated, and the generate requests since its last reseed. -/
structure Drbg where
  live : Bool
  count : Nat
  deriving DecidableEq, Repr

/-- One keyring: its store, shared TLB, keyring bits, power state, rail and governor, and its blank. `spent` and `granted`
count 2^-48 of the wear of one 100 µs at the rate 1 (R427, R428). -/
structure Keyring where
  kbits : Tab Bool
  store : Tab CSet
  tlb : List TlbEntry
  walks : Nat
  doze : Bool
  gated : Bool
  hold : Bool
  rail : Nat
  target : Nat
  ceil : Nat
  temp : Int
  speed : Nat
  learn : Bool
  thermFlag : Bool
  wearFlag : Bool
  shedFlag : Bool
  samples : Nat
  spent : Nat
  granted : Int
  exhausted : Bool
  history : Bytes
  drbg : Tab Drbg
  blank : Option Bytes
  blankLoading : Bool
  blankTurn : Nat
  blankRetired : Bool
  frames : Bytes
  lastPort : List Nat
  retiredWays : List Nat
  deriving DecidableEq, Repr

/-! ### Engines and the key store -/

/-- A seat: its thread, whether the thread has ended it while its job runs, whether a job is out (R220, R223). -/
structure Seat where
  tid : Nat
  part : Nat
  ended : Bool
  job : Bool
  deriving DecidableEq, Repr

/-- A key slot's header (R183, R232). STATE: 0 empty, 1 live, 2 quarantined, 3 continuation. -/
structure KHdr where
  owner : Nat
  usage : Nat
  alg : Nat
  mode : Nat
  exportability : Nat
  span : Nat
  state : Nat
  ktype : Nat
  deriving DecidableEq, Repr

/-- One copy of one slot. -/
structure KCopy where
  mat : Bytes
  hdr : KHdr
  chk : Word
  deriving DecidableEq, Repr

/-- A staged entry of the pool (R186): the first slot, the contents of every slot of the span, who staged it. -/
structure Staged where
  slot : Nat
  copies : List KCopy
  origin : Nat
  oseq : Nat
  erase : Bool
  bad : Bool
  taken : Bool
  deriving DecidableEq, Repr

/-- Former contents of a promoted slot, kept for commands of the previous turn (R186). -/
structure Former where
  slot : Nat
  copies : List KCopy
  turn : Nat
  deriving DecidableEq, Repr

/-- The key store in vault SRAM (R179 to R189). A slot nothing has written holds three sound copies of an empty slot;
`heldBack` holds mirrored entries for which the pool had no room (R408); `zeroized` says that a tamper response has cleared
the store, which only a sealed image refills (R451, R503). -/
structure KeyStore where
  slots : Tab (List KCopy)
  pool : List Staged
  former : List Former
  heldBack : List Staged
  nextSeq : Nat
  ksTurn : Nat
  isSealed : Bool
  zeroized : Bool
  banksRetired : List Nat
  quarTimes : List Nat
  deriving DecidableEq, Repr

/-- What a started job will do at completion (R230): its status, its writes to OUT and AUX, the part of OUT it may have
written, the virtual ranges it holds translations of, what it stages, its OP and KSRC, and the attempt it has taken (R274). -/
structure JobResult where
  status : Nat
  writes : List (Pieces × Bytes)
  out : Pieces
  ranges : List (Nat × Nat)
  stage : Option (Nat × List KCopy)
  op : Nat
  ksrc : Nat
  attempt : Option (Nat × Word)
  deriving DecidableEq, Repr

/-- A submitted job: its thread, its descriptor's virtual address and physical pieces, and the stamps that govern it. -/
structure Job where
  tid : Nat
  part : Nat
  va : Nat
  desc : Pieces
  turn : Nat
  session : Nat
  result : Option JobResult
  deriving DecidableEq, Repr

/-- One engine: service state (0 retired, 1 in service, 2 under probe), seats, waiting requests, jobs. -/
structure Engine where
  svc : Nat
  seats : List Seat
  waiting : List Nat
  queue : List Job
  running : List Job
  deriving DecidableEq, Repr

/-- An entry of the attempt-counter store (R273). -/
structure Counter where
  part : Nat
  tag : Word
  fails : Nat
  opened : Nat
  last : Nat
  deriving DecidableEq, Repr

/-- A token bucket: tokens in units of one token per 10^9, and the time they were last counted. -/
structure Bucket where
  level : Nat
  last : Nat
  deriving DecidableEq, Repr

/-- The guard's stores (R273, R275). -/
structure Guard where
  counters : List Counter
  sessions : Tab Bucket
  deriving DecidableEq, Repr

/-! ### DMA (R211 to R216) -/

/-- A DMA descriptor as the engine read it (R212). -/
structure DmaDesc where
  src : VAddr
  op : Nat
  knk : Bool
  chain : Bool
  dst : VAddr
  len : Nat
  next : VAddr
  deriving DecidableEq, Repr

/-- A DMA channel. STATE 0 idle, 1 running, 2 paused. `part` is the partition whose chain it runs. -/
structure Chan where
  state : Nat
  head : VAddr
  cur : VAddr
  desc : Option DmaDesc
  offs : Nat
  fva : VAddr
  cause : Nat
  detail : Nat
  last : Nat
  statusDue : Option Nat
  poisoned : Bool
  abort : Bool
  part : Nat
  deriving DecidableEq, Repr

/-! ### Intake (R278 to R313) -/

/-- A command queue. `occ` counts the lines of its unreleased items, delivered ones included (R279). -/
structure CmdQueue where
  items : List Cmd
  occ : Nat
  gapp : Bool
  seq : Nat
  high : Bool
  lastServed : Nat
  deriving DecidableEq, Repr

/-- A response item (R296) and the route it leaves by. -/
structure Resp where
  turn : Nat
  stored : Nat
  payload : Bytes
  session : Nat
  seq : Nat
  rcode : Nat
  gap : Bool
  poison : Bool
  origin : Nat
  route : Nat
  leaving : Bool
  deriving DecidableEq, Repr

/-- A response queue. -/
structure RespQueue where
  items : List Resp
  gapp : Bool
  deriving DecidableEq, Repr

/-- An open Ethernet session (R394): keys and salts stay in the table. -/
structure Session where
  part : Nat
  port : NetPort
  keyIn : Bytes
  keyOut : Bytes
  saltIn : Bytes
  saltOut : Bytes
  ctrOut : Nat
  ctrTop : Nat
  seen : List Nat
  lastFrame : Nat
  peerIp : BitVec 128
  peerUdp : Nat
  deriving DecidableEq, Repr

/-- A telemetry item (R306). -/
structure TlmItem where
  source : Byte
  words : List Word
  time : BitVec 32
  gap : Bool
  poison : Bool
  torn : Bool
  done : Bool
  deriving DecidableEq, Repr

/-- A telemetry queue. `tearing`: the item still being written has been torn and its rest is discarded (R307); `drained`: the lines of the oldest item already in the ring. -/
structure TlmQueue where
  items : List TlmItem
  gapp : Bool
  tearing : Bool
  drained : Nat
  deriving DecidableEq, Repr

/-- A PCIe command window (R398). STATE 0 awaiting header, 1 within an item, 2 resync needed; within an item, the payload
bytes still to come and the item's number. -/
structure Window where
  state : Nat
  buf : Bytes
  need : Nat
  ord : Nat
  deriving DecidableEq, Repr

/-- A response ring and its moderation (R399, R311). -/
structure Ring where
  unsignalled : Nat
  oldest : Option Nat
  masked : Bool
  pendingBit : Bool
  deriving DecidableEq, Repr

/-- A PCIe function's configuration. -/
structure Func where
  enabled : Bool
  busMaster : Bool
  deriving DecidableEq, Repr

/-- Intake. -/
structure Intake where
  cmdq : Tab CmdQueue
  rspq : Tab RespQueue
  buckets : Tab Bucket
  sessions : Tab Session
  lastSession : Nat
  nextOrd : Nat
  tlm : Tab TlmQueue
  windows : Tab Window
  rings : Tab Ring
  funcs : Tab Func
  vfEnable : Bool
  holdMin : List Nat
  flowOn : List (Nat × Option Nat)
  paused : List (Nat × Option Nat)
  smbus : Bytes
  smbusOut : Bytes
  deriving DecidableEq, Repr

/-! ### Turns, knocker, arbiters, crossings -/

/-- A staged keycut delta: its first 2,880 bytes and its sections (R314, R325). -/
structure Delta where
  kind : Nat
  serial : Nat
  base : Nat
  header : Bytes
  sections : List (Nat × Bytes)
  deriving DecidableEq, Repr

/-- The keycut in force: SERIAL, keycut digest D, last island serial and sections by TYPE. -/
structure Keycut where
  serial : Nat
  digest : Bytes
  island : Nat
  sections : List (Nat × Bytes)
  deriving DecidableEq, Repr

/-- One plane's staged set and its TURN registers (R325 to R333). -/
structure Plane where
  closed : Bool
  deltas : List Delta
  closeDue : Bool
  verifying : Option VAddr
  deltaVa : VAddr
  dcode : Nat
  dserial : Nat
  last : Nat
  phase : Nat
  taken : Nat
  deriving DecidableEq, Repr

/-- A commit in progress: its plane, and whether it took each plane's set (R328). -/
structure Commit where
  plane : Nat
  take0 : Bool
  take1 : Bool
  deltas : List Delta
  phase : Nat
  started : Nat
  deriving DecidableEq, Repr

/-- The turn machinery. `since` is the time of the last boundary; `starting` the partitions whose first thread has yet to
arrive (R140). -/
structure Turns where
  num : Nat
  p0 : Plane
  p1 : Plane
  commit : Option Commit
  waiting : List Nat
  since : Nat
  starting : List Nat
  deriving DecidableEq, Repr

/-- A knock route (R361). -/
structure Route where
  owner : Nat
  kr : Nat
  prio : Nat
  batch : Nat
  minivl : Nat
  mask : BitVec 128
  deriving DecidableEq, Repr

/-- A knock source's state (R363). `route` is the route it became pending with (R380). -/
structure Src where
  pend : Bool
  mask : Bool
  active : Bool
  cnt : Nat
  lastClaim : Option Nat
  firstBell : Nat
  ripeNow : Bool
  claimer : Nat
  route : Option Route
  deriving DecidableEq, Repr

/-- A lottery arbiter (R345 to R349). -/
structure Arbiter where
  lfsr : BitVec 32
  seeded : Bool
  wait : Tab Nat
  grants : Tab Nat
  lastForced : Nat
  lastWinner : Nat
  forced : Nat
  decisions : Nat
  deriving DecidableEq, Repr

/-- A clocked domain's crossing state (R351, R356 to R359). -/
structure Domain where
  down : Bool
  stalled : Bool
  count : Nat
  received : Nat
  deriving DecidableEq, Repr

/-- A lane crossing queue (R304, R305). -/
structure Crossing where
  words : List (Word × Bool)
  frameMarked : Bool
  fullFlag : Bool
  deriving DecidableEq, Repr

/-! ### Lanes, Westad, debug -/

/-- A Westad link (R402 to R405). `txq` holds fragments that wait for credit, each with its class, its FRAG word and its
payload; `txMid` is the class whose message has begun to leave. -/
structure Link where
  state : Nat
  width : Nat
  peer : Nat
  txSeq : Nat
  rxSeq : Nat
  ackSent : Nat
  replay : List (Nat × Bytes)
  credits : List Nat
  nakSent : Bool
  replays : Nat
  replaySeq : Nat
  rxFrag : Bytes
  txq : List (Nat × Nat × Bytes)
  txMid : Option Nat
  deriving DecidableEq, Repr

/-- A Westad pair (R406, R407). `kx` is the KX1 that this member has sent and `eph` the key that decapsulates its answer. -/
structure Pair where
  state : Nat
  txKey : Bytes
  rxKey : Bytes
  txSalt : Bytes
  rxSalt : Bytes
  kx : Bytes
  eph : Bytes
  txMseq : Nat
  rxMseq : Nat
  unacked : List (Nat × Nat × Bytes)
  deriving DecidableEq, Repr

/-- The strongroom agreement on one turn (R409, R410): who proposed it and when, the digests, what this member's turn would
take, the votes, DONEs and unknown outcomes received, and the times of this member's yes vote and of its QUERY. -/
structure Agreement where
  proposer : Nat
  turn : Nat
  started : Nat
  ksd : Bytes
  exd : Bytes
  take0 : Bool
  take1 : Bool
  deltas : List Delta
  votes : List Nat
  dones : List Nat
  unknown : List Nat
  applying : Bool
  votedYes : Option Nat
  queried : Option Nat
  deriving DecidableEq, Repr

/-- Westad. -/
structure Westad where
  links : Tab Link
  pairs : Tab Pair
  linkStates : List (Nat × Nat)
  agree : Option Agreement
  lastOutcome : Option (Nat × Nat)
  deriving DecidableEq, Repr

/-- The debug port (R459). -/
structure Debug where
  chosen : Nat
  challenge : Option Bytes
  openPart : Option Nat
  data : Word
  deriving DecidableEq, Repr

/-! ### Power, Keeper, audit, faults, boot -/

/-- The supply (R416 to R424) and the WATCH machinery (R435 to R441). Power: 0 off, 1 on, 2 entering WATCH, 3 WATCH. `buf`
is the buffer's energy in J at the time `bufAt`, from which it charges while `charging`; `mainsAt` is the time at which mains
was judged absent or present, on the Keeper's count; `entered` the time of the sleep decision; `shedCeil` the ceiling while load is shed. -/
structure Supply where
  power : Nat
  mains : Bool
  pf : Nat
  pfStart : Nat
  buf : Nat
  bufAt : Nat
  mainsAt : Nat
  vin : Nat
  pin : Nat
  charging : Bool
  ballast : Bool
  shed : Bool
  shedCeil : Nat
  entered : Nat
  wakeLatched : Option Nat
  earlyWake : Option (Nat × Nat)
  stopTb : Nat
  stopTally : Nat
  held : List Nat
  deriving DecidableEq, Repr

/-- The Keeper (R447 to R457). `crystalTried`: the crystal has run, or has failed to start. `tmax` and `tmin` are the highest
and lowest enclosure temperatures that have been `sampled`, in °C plus 64; `tempBad` names the sensors whose latest sample lies
outside the limits. `rcTicks` is the Keeper's count that has run on RC in the present sleep. -/
structure Keeper where
  crystal : Bool
  crystalTried : Bool
  root : Option Bytes
  identity : Bool
  armed : Bool
  breach : Bool
  tmax : Nat
  tmin : Nat
  sampled : Bool
  meshOk : Bool
  dark : Bool
  tempBad : List Nat
  railsOk : Bool
  rcTicks : Nat
  deriving DecidableEq, Repr

/-- An audit record (R467). -/
structure Rec where
  seq : Nat
  time : Nat
  flags : Nat
  source : Nat
  part : Nat
  kind : Nat
  turn : Nat
  body : Bytes
  chain : Bytes
  deriving DecidableEq, Repr

/-- The audit tail and seals (R467 to R471). `sealing` is a seal that runs: the records it takes, whether it is FINAL, where
it goes and what it writes. -/
structure Audit where
  tail : List Rec
  nextSeq : Nat
  head : Bytes
  summaries : List (Nat × Nat × Nat)
  sealing : Option (Nat × Bool × Pieces × Bytes)
  result : Nat
  sealNo : Nat
  finalMade : Bool
  deriving DecidableEq, Repr

/-- A probe in progress (R474, R487). -/
structure Probe where
  error : Nat
  part : Nat
  count : Nat
  detail : Nat
  etime : Nat
  selfTest : Bool
  deriving DecidableEq, Repr

/-- A probed unit (R473, R489). State: 1 in service, 3 retired, 4 on a spare; 2 while a probe runs. -/
structure PUnit where
  state : Nat
  errs : Nat
  trans : Nat
  lasting : Nat
  window : List Nat
  probe : Option Probe
  spares : Nat
  deriving DecidableEq, Repr

/-- The fault logic and the quiet state (R473 to R489). `stestFail`: a probe of the self-test
ended lasting; `quietDue` is a cause met in the step now running; `lockLoss` the lanes'
latest losses of lock. -/
structure Faults where
  units : Tab PUnit
  transTotal : Nat
  lastingTotal : Nat
  fuseDue : List (Nat × Nat)
  sinceTurn : List (Nat × Nat)
  dramSpares : Nat
  intakeSpares : Nat
  last : Word
  quiet : Bool
  cause : Nat
  cnt : Nat
  reason : Nat
  stest : Nat
  stestFail : Bool
  errSince : Bool
  entries : Nat
  quietDue : Option Nat
  lockLoss : List (Nat × Nat)
  deriving DecidableEq, Repr

/-- The fuses (R5, R429, R454 to R456, R464, R471, R478). `meshGone` says that the ward mesh has been broken since its
enrolment, which destroys its share (R453); `lcsNext` is the state that the next boot begins in (R7). -/
structure Fuses where
  grade : Nat
  lcs : Nat
  lcsNext : Nat
  tamper : Bool
  fuseShare : Option Bytes
  meshHelper : Bool
  meshGone : Bool
  rootCheck : Word
  owner : Option Bytes
  epoch : Nat
  svn : Nat
  wear : Tab Nat
  retire : List Nat
  macs : List Nat
  serial : Bytes
  deriving DecidableEq, Repr

/-- A firmware image in force (R463). -/
structure Image where
  kind : Nat
  svn : Nat
  digest : Bytes
  deriving DecidableEq, Repr

/-- The boot (R490 to R508). STEP 0 before mains; `stopped` says that the boot has failed at its step; `gets` are the GETs
without an answer, `got` the ranges that have arrived in `bundle`; `copy` is the boot copy; `startTime` is the Keeper's count at
the start; a warm boot that waits for a commit takes the bundle at LC_BUNDLE where `warmBundle` says so. -/
structure Boot where
  kind : Nat
  step : Nat
  train : Nat
  fail : Nat
  stopped : Bool
  wstat : Nat
  startTime : Nat
  readyMs : Nat
  go : Bool
  partsUp : Bool
  gets : List (Nat × Nat)
  hostKnown : Bool
  bundle : Tab Byte
  got : List (Nat × Nat)
  total : Nat
  copy : Option Bytes
  images : List Image
  trainingDram : Option Bytes
  warmDue : Bool
  warmBundle : Bool
  windowOpen : Bool
  lcNonce : Word
  bootNonce : Word
  deriving DecidableEq, Repr

/-- The life-cycle and attestation requests and the key-store image (R460, R466, R505). `attestPieces` are the reports
to be made: the partition, its buffer and its nonce. -/
structure Requests where
  lcVa : VAddr
  lcResult : Nat
  lcTarget : Nat
  attestVa0 : VAddr
  attestVa1 : VAddr
  attest0 : Nat
  attest1 : Nat
  attestPieces : List (Nat × Pieces × Bytes)
  ksVa : VAddr
  ksStat : Nat
  ksPieces : Pieces
  ksImage : Bytes
  deriving DecidableEq, Repr

/-- The output pins (R301, R440, R483, R520). `true` is a high level. -/
structure Pins where
  ready : Bool
  alertN : Bool
  smbAlertN : Bool
  holdN : List Bool
  perstN : Bool
  ppsUntil : Nat
  deriving DecidableEq, Repr

/-- What the device has sent to the outside, oldest first: the model's record of its outputs. -/
inductive Out where
  | frame (port : NetPort) (session ctr : Nat) (dstIp : BitVec 128) (dstUdp : Nat) (body : Bytes)
  | accept (port : NetPort) (session : Nat) (body : Bytes)
  | reject (port : NetPort) (reason : Nat)
  | closeFrame (port : NetPort) (session : Nat)
  | netAnswer (port : NetPort) (kind : NetQuery)
  | flow (port : Nat) (prio : Option Nat) (quanta : Nat)
  | hostWrite (func : Nat) (offset : Nat) (bytes : Bytes) (poison : Bool)
  | shadow (func k : Nat) (prod : Nat)
  | msix (func v : Nat)
  | smbus (bytes : Bytes)
  | uart (line : String) (a b : Nat)
  | getReq (broadcast : Bool) (offset length : Nat)
  | status (step fail : Nat)
  | datagram (ip : Nat) (port : Nat) (bytes : Bytes)
  | flit (link : Nat) (bytes : Bytes)
  | pps
  deriving DecidableEq, Repr

/-- The state of the device. `pending` is the queue of waiting commands; `rdata` the value that the last register read
answered; `now` is the timebase and `tally` the Keeper's count, in 64ths of a nanosecond (R443); `free` counts the free values taken; `regs` holds, by the key of `Machine/RegTable.lean`, every register field that no
other part of the state holds; `dramKeys` numbers each partition's draw of its DRAM keys (R191); `dramLost` says that they have been zeroized (R451); `uartIn` holds the UART input that has been accepted (R413). -/
structure State where
  pending : List Instr
  rdata : Word
  free : Nat
  now : Nat
  tally : Nat
  regs : Tab Word
  mem : Tab Digit
  poison : Tab Bool
  threads : Tab Thread
  cyls : Tab Cyl
  krs : Tab Keyring
  engs : Tab Engine
  dmaTlb : Tab (List TlbEntry)
  inval : List Inval
  ks : KeyStore
  guard : Guard
  dma : Tab Chan
  dmaLast : Tab Nat
  intake : Intake
  kc : Keycut
  kcPrev : Keycut
  turns : Turns
  srcs : Tab Src
  arbs : Tab Arbiter
  doms : Tab Domain
  xq : Tab Crossing
  westad : Westad
  dbg : Debug
  supply : Supply
  keeper : Keeper
  audit : Audit
  faults : Faults
  fuses : Fuses
  boot : Boot
  req : Requests
  pins : Pins
  seeded : Bool
  trngBad : Bool
  ptpGood : Nat
  dramKeys : Tab Nat
  dramLost : Bool
  uartIn : Bytes
  linkPower : LinkPower
  out : List Out
  deriving DecidableEq, Repr


/-- The ways in which the block itself stops. The specification names none: a thread's fault is a state of
the thread (R217), an engine's a status (R229), the device's the quiet state (R482), and every one of them is a
next state here. -/
inductive Fault where
  deriving DecidableEq, Repr

/-- The commands the model turns away. -/
inductive Refusal where
  /-- Raised by an arm of `exec` whose meaning is not written; safe. -/
  | notModelled (mnemonic : String)
  deriving DecidableEq, Repr

/-- The machine right after reset: the module in OFF, before mains is applied (R490, R495). Every register reads its
Reset column, because `regs` lists nothing; memory lists nothing; every thread, engine, queue and source is as
`Machine/Ops.lean` says an unlisted one is. The fuses are those of a part in BLANK (entry 3 of the log). -/
def State.reset : State where
  pending := []
  rdata := 0
  free := 0
  now := 0
  tally := 0
  regs := []
  mem := []
  poison := []
  threads := []
  cyls := []
  krs := []
  engs := []
  dmaTlb := []
  inval := []
  ks := { slots := [], pool := [], former := [], heldBack := [], nextSeq := 0, ksTurn := 0, isSealed := false, zeroized := false, banksRetired := [], quarTimes := [] }
  guard := { counters := [], sessions := [] }
  dma := []
  dmaLast := []
  intake := {
    cmdq := [], rspq := [], buckets := [], sessions := [], lastSession := 0, nextOrd := 0, tlm := [], windows := [], rings := [],
    funcs := [], vfEnable := false, holdMin := [], flowOn := [], paused := [], smbus := [], smbusOut := [] }
  kc := { serial := 0, digest := [], island := 0, sections := [] }
  kcPrev := { serial := 0, digest := [], island := 0, sections := [] }
  turns := {
    num := 0
    p0 := { closed := false, deltas := [], closeDue := false, verifying := none, deltaVa := 0, dcode := 0, dserial := 0, last := 0, phase := 0, taken := 0 }
    p1 := { closed := false, deltas := [], closeDue := false, verifying := none, deltaVa := 0, dcode := 0, dserial := 0, last := 0, phase := 0, taken := 0 }
    commit := none, waiting := [], since := 0, starting := [] }
  srcs := []
  arbs := []
  doms := []
  xq := []
  westad := { links := [], pairs := [], linkStates := [], agree := none, lastOutcome := none }
  dbg := { chosen := 0, challenge := none, openPart := none, data := 0 }
  supply := {
    power := 0, mains := false, pf := 0, pfStart := 0, buf := 0, bufAt := 0, mainsAt := 0, vin := 0, pin := 0, charging := false,
    ballast := false, shed := false, shedCeil := 950, entered := 0, wakeLatched := none, earlyWake := none, stopTb := 0, stopTally := 0, held := [] }
  keeper := {
    crystal := false, crystalTried := false, root := none, identity := false, armed := false, breach := false, tmax := 0,
    tmin := 0, sampled := false, meshOk := false, dark := false, tempBad := [], railsOk := false, rcTicks := 0 }
  audit := {
    tail := [], nextSeq := 1, head := List.replicate 32 0, summaries := [], sealing := none, result := 0, sealNo := 0,
    finalMade := false }
  faults := {
    units := [], transTotal := 0, lastingTotal := 0, fuseDue := [], sinceTurn := [], dramSpares := 0, intakeSpares := 0,
    last := 0, quiet := false, cause := 0, cnt := 0, reason := 0, stest := 0, stestFail := false, errSince := false, entries := 0, quietDue := none, lockLoss := [] }
  fuses := {
    grade := 0, lcs := 1, lcsNext := 1, tamper := false, fuseShare := none, meshHelper := false, meshGone := false, rootCheck := 0,
    owner := none, epoch := 0, svn := 0, wear := [], retire := [], macs := [], serial := [] }
  boot := {
    kind := 0, step := 0, train := 0, fail := 0, stopped := false, wstat := 0, startTime := 0, readyMs := 0, go := false, partsUp := false,
    gets := [], hostKnown := false, bundle := [], got := [], total := 0, copy := none, images := [], trainingDram := none,
    warmDue := false, warmBundle := false, windowOpen := false, lcNonce := 0, bootNonce := 0 }
  req := {
    lcVa := 0, lcResult := 0, lcTarget := 0, attestVa0 := 0, attestVa1 := 0, attest0 := 0, attest1 := 0, attestPieces := [],
    ksVa := 0, ksStat := 0, ksPieces := [], ksImage := [] }
  pins := {
    ready := false, alertN := true, smbAlertN := true, holdN := [false, false, false, false, false, false, false, false], perstN := false, ppsUntil := 0 }
  seeded := false
  trngBad := false
  ptpGood := 0
  dramKeys := []
  dramLost := false
  uartIn := []
  linkPower := .l0
  out := []

end Sys2Proof.Machine
end

