-- ==== Sys2Proof/Machine/Tab.lean ====
section
/-! DEFINITION. Sparse tables, bit fields, byte strings and list helpers: the plain data operations that
every other file uses. -/

namespace Sys2Proof.Machine

/-! ### Sparse tables -/

/-- What key `k` of a table reads as; `d` is what an unlisted key reads as. -/
def tget {α : Type} (d : α) : Tab α → Nat → α
  | [], _ => d
  | (j, v) :: t, k => if j = k then v else tget d t k

/-- An entry put in before the first higher key. -/
def tins {α : Type} : Tab α → Nat → α → Tab α
  | [], k, v => [(k, v)]
  | (j, w) :: t, k, v => if k < j then (k, v) :: (j, w) :: t else (j, w) :: tins t k v

/-- A table with key `k` holding `v`; no entry is kept when `v` is what an unlisted key reads as. -/
def tset {α : Type} [DecidableEq α] (d : α) (t : Tab α) (k : Nat) (v : α) : Tab α :=
  let u := t.filter (fun kv => kv.1 != k)
  if v = d then u else tins u k v

/-- A table with key `k` changed by `f`. -/
def tmod {α : Type} [DecidableEq α] (d : α) (t : Tab α) (k : Nat) (f : α → α) : Tab α :=
  tset d t k (f (tget d t k))

/-- The canonical form: keys above `lo` and strictly rising, and no entry equal to the default. -/
def tabWf {α : Type} [DecidableEq α] (d : α) : Option Nat → Tab α → Bool
  | _, [] => true
  | lo, (j, v) :: t => (match lo with | none => true | some l => decide (l < j)) && decide (v ≠ d) && tabWf d (some j) t

/-- A table with every listed value changed by `f`, which must keep the default. -/
def tmapAll {α : Type} [DecidableEq α] (d : α) (t : Tab α) (f : Nat → α → α) : Tab α :=
  t.foldl (fun r kv => tmod d r kv.1 (f kv.1)) t

/-- Entries `k` with `lo ≤ k < hi` dropped: they read as the default again. -/
def tdropRange {α : Type} (t : Tab α) (lo hi : Nat) : Tab α :=
  t.filter (fun kv => decide (kv.1 < lo) || decide (hi ≤ kv.1))

/-! ### Bit fields -/

/-- Bits `[hi:lo]` of a number. -/
def bitsOf (n hi lo : Nat) : Nat := (n >>> lo) % 2 ^ (hi + 1 - lo)

/-- Bits `[hi:lo]` of a register. -/
def fld (w : Word) (hi lo : Nat) : Nat := bitsOf w.toNat hi lo

/-- A register mask with bits `[hi:lo]` set. -/
def maskOf (hi lo : Nat) : Word := BitVec.ofNat 64 ((2 ^ (hi + 1 - lo) - 1) <<< lo)

/-- A register with bits `[hi:lo]` set to the low bits of `v`. -/
def putFld (w : Word) (hi lo v : Nat) : Word :=
  (w &&& ~~~ maskOf hi lo) ||| (BitVec.ofNat 64 ((v % 2 ^ (hi + 1 - lo)) <<< lo))

/-- One bit of a register. -/
def fbit (w : Word) (i : Nat) : Bool := w.getLsbD i

/-- `true` as 1. -/
def b2n (b : Bool) : Nat := if b then 1 else 0

/-- The low `n` digits of a word (R68). -/
def lowDigits (n : Nat) (w : Word) : Word := w &&& BitVec.ofNat 64 (2 ^ (4 * n) - 1)

/-- The word with the given value. -/
def w64 (n : Nat) : Word := BitVec.ofNat 64 n

/-! ### Byte strings -/

/-- A byte. -/
def byte (n : Nat) : Byte := BitVec.ofNat 8 n

/-- `n` bytes of 0. -/
def zeros (n : Nat) : Bytes := List.replicate n 0

/-- Bytes read least significant first (R314). -/
def leNat : Bytes → Nat
  | [] => 0
  | b :: t => b.toNat + 256 * leNat t

/-- `n` as `k` bytes, least significant first (R314). -/
def leBytes : Nat → Nat → Bytes
  | 0, _ => []
  | k + 1, n => byte n :: leBytes k (n / 256)

/-- `n` as `k` bytes, most significant first. -/
def beBytes (k n : Nat) : Bytes := (leBytes k n).reverse

/-- Bytes read most significant first. -/
def beNat (b : Bytes) : Nat := leNat b.reverse

/-- `len` bytes from offset `off`. -/
def slice (b : Bytes) (off len : Nat) : Bytes := (b.drop off).take len

/-- The `len`-byte little-endian number at `off`; bytes beyond the end read 0. -/
def leAt (b : Bytes) (off len : Nat) : Nat := leNat (slice b off len)

/-- The low digit of a byte stands at the lower digit address (R9). -/
def byteDigits (b : Byte) : List Digit := [b.extractLsb' 0 4, b.extractLsb' 4 4]

/-- Bytes as digits, in ascending digit order. -/
def bytesDigits (b : Bytes) : List Digit := b.flatMap byteDigits

/-- Digits in ascending order as bytes; an odd last digit takes a high digit of 0. -/
def digitsBytes : List Digit → Bytes
  | [] => []
  | [a] => [byte a.toNat]
  | a :: b :: t => byte (a.toNat + 16 * b.toNat) :: digitsBytes t

/-- Digits in ascending order as a number. -/
def digitsNat : List Digit → Nat
  | [] => 0
  | d :: t => d.toNat + 16 * digitsNat t

/-- A number as `k` digits in ascending order. -/
def natDigits : Nat → Nat → List Digit
  | 0, _ => []
  | k + 1, n => BitVec.ofNat 4 n :: natDigits k (n / 16)

/-- Bytewise exclusive or, to the length of the shorter. -/
def xorBytes (a b : Bytes) : Bytes := List.zipWith (· ^^^ ·) a b

/-- `b` cut or padded with 0 to `n` bytes. -/
def padTo (n : Nat) (b : Bytes) : Bytes := b.take n ++ zeros (n - b.length)

/-- Whether every byte is 0. -/
def allZero (b : Bytes) : Bool := b.all (· == 0)

/-- ASCII text as bytes. -/
def ascii (s : String) : Bytes := s.toList.map (fun c => byte c.toNat)

/-- The 64-bit words of a byte string, each with its first byte lowest. -/
def wordsOf : Nat → Bytes → List Word
  | 0, _ => []
  | n + 1, b => w64 (leAt b 0 8) :: wordsOf n (b.drop 8)

/-- A word as 8 bytes, lowest first. -/
def wordBytes (w : Word) : Bytes := leBytes 8 w.toNat

/-! ### Lists -/

/-- The `i`-th element, or `d`. -/
def nth {α : Type} (d : α) (l : List α) (i : Nat) : α := l.getD i d

/-- The list with element `i` replaced. -/
def setNth {α : Type} (l : List α) (i : Nat) (a : α) : List α := l.set i a

/-- The value at a key of an association list. -/
def alook {α : Type} (l : List (Nat × α)) (k : Nat) : Option α := (l.find? (fun kv => kv.1 == k)).map (·.2)

/-- An association list with `k` bound to `v`, in place or at the end. -/
def aput {α : Type} : List (Nat × α) → Nat → α → List (Nat × α)
  | [], k, v => [(k, v)]
  | (j, w) :: t, k, v => if j = k then (k, v) :: t else (j, w) :: aput t k v

/-- An association list without `k`. -/
def adel {α : Type} (l : List (Nat × α)) (k : Nat) : List (Nat × α) := l.filter (fun kv => kv.1 != k)

/-- A saturating increment. -/
def satAdd (limit n k : Nat) : Nat := if n + k > limit then limit else n + k

/-- The signed value of the low `bits` bits of a number. -/
def signedOf (bits n : Nat) : Int :=
  if n % 2 ^ bits < 2 ^ (bits - 1) then (n % 2 ^ bits : Nat) else ((n % 2 ^ bits : Nat) : Int) - (2 ^ bits : Nat)

/-- A signed value as a two's-complement number of `bits` bits. -/
def unsignedOf (bits : Nat) (i : Int) : Nat := (i % (2 ^ bits : Nat)).toNat

end Sys2Proof.Machine
end

