-- ==== Sys2Proof/Machine/Keycut.lean ====
section
/-! DEFINITION. What the fields of a keycut say, read from its sections at the offsets the specification
gives (R314 to R319). A section that is absent names no owner and reads 0 elsewhere. -/

namespace Sys2Proof.Machine

/-- The owner code that names no partition (R318). -/
def nobody : Nat := 0xFFFF

/-- A section's bytes. -/
def sect? (kc : Keycut) (ty : Nat) : Option Bytes := alook kc.sections ty

/-- A little-endian field of a section; 0 when the section is absent. -/
def secLe (kc : Keycut) (ty off len : Nat) : Nat :=
  match sect? kc ty with
  | none => 0
  | some b => leAt b off len

/-- A 2-byte owner field; nobody when the section is absent. -/
def secOwner (kc : Keycut) (ty off : Nat) : Nat :=
  match sect? kc ty with
  | none => nobody
  | some b => leAt b off 2

/-! ### DEVICE -/

/-- The turn drain limit in ns (R26). -/
def kcDrain (kc : Keycut) : Nat := 1000 * secLe kc 1 0 4
/-- The maximum budget of class 1 to 4 in ns (R285). -/
def kcClassMax (kc : Keycut) (c : Nat) : Nat := 1000 * secLe kc 1 (8 + 4 * (c - 1)) 4
/-- The PFC priority of class 1 to 4 (R302). -/
def kcClassPri (kc : Keycut) (c : Nat) : Nat := secLe kc 1 (24 + (c - 1)) 1
/-- The flow-control mode of Ethernet port 0 or 1: 0 none, 1 PFC, 2 PAUSE (R302). -/
def kcFcMode (kc : Keycut) (port : Nat) : Nat := secLe kc 1 (28 + port) 1
/-- Whether a command kind changes keys (R283). -/
def kcKeyCmd (kc : Keycut) (kind : Nat) : Bool := (secLe kc 1 32 32).testBit kind
/-- The base of telemetry ring `j` (R308). -/
def kcTlmBase (kc : Keycut) (j : Nat) : Nat := secLe kc 1 (64 + 16 * j) 8
/-- The size of telemetry ring `j`, as log2 of lines. -/
def kcTlmSize (kc : Keycut) (j : Nat) : Nat := secLe kc 1 (72 + 16 * j) 1
/-- The strongroom identifier; 0 is standalone. -/
def kcGroup (kc : Keycut) : Nat := secLe kc 1 320 4
/-- This lockcase's member index. -/
def kcMember (kc : Keycut) : Nat := secLe kc 1 324 1
/-- The number of members. -/
def kcCount (kc : Keycut) : Nat := secLe kc 1 325 1
/-- The digest of a member's identity public key. -/
def kcPeer (kc : Keycut) (m : Nat) : Bytes := slice ((sect? kc 1).getD []) (328 + 32 * m) 32

/-! ### PARTITION, QUAD, MEMORY, ISLAND -/

/-- The owner of a thread quad (R136). -/
def kcQuad (kc : Keycut) (q : Nat) : Nat := secOwner kc 3 (2 * q)
/-- A partition is present when it owns at least one quad (R197). -/
def kcPresent (kc : Keycut) (p : Nat) : Bool := (List.range 512).any (fun q => kcQuad kc q == p)
/-- Whether a partition holds a quad in a keyring: 32 quads each. -/
def kcHoldsIn (kc : Keycut) (p k : Nat) : Bool := (List.range 32).any (fun q => kcQuad kc (32 * k + q) == p)
/-- SEALED. -/
def kcSealed (kc : Keycut) (p : Nat) : Bool := (secLe kc 2 (80 * p) 1).testBit 0
/-- Key-handling. -/
def kcKeyh (kc : Keycut) (p : Nat) : Bool := (secLe kc 2 (80 * p) 1).testBit 1
/-- The key-slot quota (R187). -/
def kcQuota (kc : Keycut) (p : Nat) : Nat := secLe kc 2 (80 * p + 4) 4
/-- The address at which the first thread starts (R140). -/
def kcEntry (kc : Keycut) (p : Nat) : Nat := secLe kc 2 (80 * p + 8) 8
/-- The initial CYL_PTROOT (R199). -/
def kcPtroot (kc : Keycut) (p : Nat) : Nat := secLe kc 2 (80 * p + 16) 8
/-- The landing base, a physical digit address (R293). -/
def kcLanding (kc : Keycut) (p : Nat) : Nat := secLe kc 2 (80 * p + 24) 8
/-- The partition error knock source. -/
def kcErrSrc (kc : Keycut) (p : Nat) : Nat := secLe kc 2 (80 * p + 32) 2
/-- The admission rate of a class (R309). -/
def kcRate (kc : Keycut) (p c : Nat) : Nat := secLe kc 2 (80 * p + 40 + 8 * (c - 1)) 4
/-- The admission burst of a class (R309). -/
def kcBurst (kc : Keycut) (p c : Nat) : Nat := secLe kc 2 (80 * p + 44 + 8 * (c - 1)) 2
/-- The owner of a 2 MiB DRAM granule. -/
def kcGran (kc : Keycut) (g : Nat) : Nat := if g < 21504 then secOwner kc 4 (2 * g) else nobody
/-- The owner of a secure-scratch page. -/
def kcScratch (kc : Keycut) (i : Nat) : Nat := if i < 3072 then secOwner kc 4 (43008 + 2 * i) else nobody
/-- The owner of keyring bit `i` of keyring `k`, by blocks of 256 (R149). -/
def kcKbit (kc : Keycut) (k i : Nat) : Nat := secOwner kc 4 (49152 + 32 * k + 2 * (i / 256))
/-- The owner of a way of a keyring store; nobody means shared (R173). -/
def kcWay (kc : Keycut) (k w : Nat) : Nat := secOwner kc 4 (49664 + 32 * k + 2 * w)
/-- The lower limit of a keyring rail in mV. -/
def kcVmin (kc : Keycut) (k : Nat) : Nat := secLe kc 5 (4 * k) 2
/-- The upper limit of a keyring rail in mV. -/
def kcVmax (kc : Keycut) (k : Nat) : Nat := secLe kc 5 (4 * k + 2) 2

/-! ### NETWORK, LANES, PINMUX -/

/-- FUNC of a lane: 0 unused, 1 Ethernet A, 2 Ethernet B, 3 PCIe, 4 Westad. -/
def kcLaneFunc (kc : Keycut) (l : Nat) : Nat := secLe kc 7 (4 * l) 1
/-- INDEX of a lane within its port or link. -/
def kcLaneIndex (kc : Keycut) (l : Nat) : Nat := secLe kc 7 (4 * l + 1) 1
/-- MODEA and MODEB. -/
def kcPortMode (kc : Keycut) (port : Nat) : Nat := secLe kc 7 (192 + port) 1
/-- The function selected for a multiplexed contact. -/
def kcMux (kc : Keycut) (i : Nat) : Nat := secLe kc 8 i 1
/-- The route of mesh node `i` toward node `j`. -/
def kcHop (kc : Keycut) (i j : Nat) : Nat := secLe kc 6 (32 * i + j) 1

/-! ### ARBITER -/

/-- CAP of a partition's seats on an engine kind (R220). -/
def kcSeatCap (kc : Keycut) (p n : Nat) : Nat := secLe kc 9 (24 * p + 4 * n) 1
/-- TICKETS of a partition for an engine kind. -/
def kcSeatTickets (kc : Keycut) (p n : Nat) : Nat := secLe kc 9 (24 * p + 4 * n + 1) 1
/-- WLIM of a partition for an engine kind. -/
def kcSeatWlim (kc : Keycut) (p n : Nat) : Nat := secLe kc 9 (24 * p + 4 * n + 2) 1
/-- NARB. -/
def kcNarb (kc : Keycut) : Nat := secLe kc 9 6144 4
/-- The ARB entry of a requester of a numbered arbiter: its tickets and its limit; 8 and 16 without one (R319). -/
def kcArb (kc : Keycut) (a r : Nat) : Nat × Nat :=
  match sect? kc 9 with
  | none => (8, 16)
  | some b =>
    match (List.range (leAt b 6144 4)).find? (fun i => leAt b (6148 + 8 * i) 2 == a && leAt b (6150 + 8 * i) 2 == r) with
    | none => (8, 16)
    | some i => (leAt b (6152 + 8 * i) 1, leAt b (6153 + 8 * i) 1)

/-! ### QUEUE, KNOCKER, DMA, EXGUARD, OFFICER, BLANK -/

/-- CCAP in lines. -/
def kcCcap (kc : Keycut) (q : Nat) : Nat := secLe kc 10 (288 * q) 2
/-- RCAP in lines. -/
def kcRcap (kc : Keycut) (q : Nat) : Nat := secLe kc 10 (288 * q + 2) 2
/-- CLASS of a queue. -/
def kcClass (kc : Keycut) (q : Nat) : Nat := secLe kc 10 (288 * q + 4) 1
/-- Hold group of a queue. -/
def kcHgrp (kc : Keycut) (q : Nat) : Nat := if (sect? kc 10).isNone then 0xFF else secLe kc 10 (288 * q + 5) 1
/-- FCE of a queue. -/
def kcFce (kc : Keycut) (q : Nat) : Bool := (secLe kc 10 (288 * q + 6) 1).testBit 0
/-- High watermark. -/
def kcHigh (kc : Keycut) (q : Nat) : Nat := secLe kc 10 (288 * q + 8) 2
/-- Low watermark. -/
def kcLow (kc : Keycut) (q : Nat) : Nat := secLe kc 10 (288 * q + 10) 2
/-- Cut-through threshold in digits. -/
def kcCut (kc : Keycut) (q : Nat) : Nat := secLe kc 10 (288 * q + 12) 2
/-- Initial QUE_MOD.TIME. -/
def kcModTime (kc : Keycut) (q : Nat) : Nat := secLe kc 10 (288 * q + 14) 2
/-- Initial QUE_MOD.COUNT. -/
def kcModCnt (kc : Keycut) (q : Nat) : Nat := secLe kc 10 (288 * q + 16) 1
/-- Whether the partition's thread of index `i` serves the queue (R290). -/
def kcServes (kc : Keycut) (q i : Nat) : Bool := (secLe kc 10 (288 * q + 32 + i / 8) 1).testBit (i % 8)

/-- The route of a knock source (R361). -/
def kcRoute (kc : Keycut) (src : Nat) : Route where
  owner := secOwner kc 13 (32 * src)
  kr := secLe kc 13 (32 * src + 2) 1
  prio := secLe kc 13 (32 * src + 3) 1
  batch := secLe kc 13 (32 * src + 4) 1
  minivl := secLe kc 13 (32 * src + 8) 4
  mask := BitVec.ofNat 128 (secLe kc 13 (32 * src + 12) 16)

/-- The owner of a DMA channel (R211). -/
def kcDmaOwner (kc : Keycut) (c : Nat) : Nat := secOwner kc 14 (4 * c)
/-- The initial DMA_CTL.KSRC of a channel. -/
def kcDmaKsrc (kc : Keycut) (c : Nat) : Nat := secLe kc 14 (4 * c + 2) 2

/-- The ROLE of an officer; 0 marks an empty entry. -/
def kcRole (kc : Keycut) (i : Nat) : Nat := secLe kc 12 (1320 * i) 2
/-- An officer's public key. -/
def kcOfficerKey (kc : Keycut) (i : Nat) : Bytes := slice ((sect? kc 12).getD []) (1320 * i + 8) 1312

/-- A blank's section, when keyring `k` has one (R334). -/
def kcBlank (kc : Keycut) (k : Nat) : Option Bytes := sect? kc (0x20 + k)
/-- OWNER of a blank: a partition, or nobody for every partition with a quad in the keyring. -/
def blankOwner (b : Bytes) : Nat := leAt b 4 2
/-- Number of ports of a blank. -/
def blankNport (b : Bytes) : Nat := leAt b 8 1
/-- A blank port descriptor's width, direction, kind, response port and latency. -/
structure BlankPort where
  width : Nat
  dir : Nat
  kind : Nat
  resp : Nat
  lat : Nat
  deriving DecidableEq, Repr
/-- The descriptor of the blank port at offset `o` from #380. -/
def blankPort (b : Bytes) (o : Nat) : Option BlankPort :=
  ((List.range (blankNport b)).find? (fun i => leAt b (64 + 16 * i) 1 == o)).map (fun i =>
    { width := leAt b (65 + 16 * i) 1, dir := leAt b (66 + 16 * i) 1, kind := leAt b (67 + 16 * i) 1,
      resp := leAt b (68 + 16 * i) 1, lat := leAt b (70 + 16 * i) 2 })

/-! ### Partitions in a keycut -/

/-- The threads of a partition in ascending order; a thread's index in the partition is its place here (R290). -/
def kcThreads (kc : Keycut) (p : Nat) : List Nat := (List.range 2048).filter (fun t => kcQuad kc (t / 4) == p)

/-- The keycut a command of turn `n` runs under (R25, R26). -/
def kcOfTurn (s : State) (n : Nat) : Keycut := if n < s.turns.num then s.kcPrev else s.kc

end Sys2Proof.Machine
end

