-- ==== Sys2Proof/Machine/RegTable.lean ====
section
/-! DEFINITION. The control registers: their addresses and banks, and which bits are read and written and
what they read at reset, as the register tables of the specification give them. -/

namespace Sys2Proof.Machine

/-- The control registers, and the host registers of a PCIe queue window (R398, R399). -/
inductive Reg where
  | lcId
  | lcReq
  | lcRstat
  | lcNonce
  | lcFuse
  | lcBoot
  | lcBundle
  | cylCmode
  | cylThrst
  | cylPark
  | cylPtroot
  | cylTlbinv
  | cylFva
  | cylFinfo
  | dmaHead
  | dmaCtl
  | dmaStat
  | dmaOffs
  | dmaCur
  | dmaFva
  | engErr
  | engSeat
  | ksSel
  | ksInfo
  | ksErase
  | ksCount
  | ksQlast
  | ksImg
  | exgPol
  | exgStat
  | exgPan
  | queCur
  | queDone
  | queStat
  | queStatr
  | quePstat
  | queMod
  | queTlm
  | queTcons
  | turnNum
  | turnStat
  | turnCommit
  | turnSet
  | turnDelta
  | turnDstat
  | turnKcut
  | arbSel
  | arbInfo
  | arbStat
  | arbXmode
  | arbXsat
  | keepStall
  | keepXlog
  | keepPadrel
  | keepStat
  | keepTamp
  | keepWcfg
  | keepAseal
  | keepAstat
  | keepAttest
  | keepFin
  | keepFsel
  | keepFinfo
  | keepFlast
  | keepQuiet
  | knkDoorbell
  | knkPendSet
  | knkPendClr
  | knkMaskSet
  | knkMaskClr
  | knkClaim
  | knkEoi
  | knkRtn
  | knkRun
  | knkVec
  | knkSel
  | knkSrc
  | knkStrayCnt
  | laneStat
  | laneDrop
  | laneNet0
  | laneNet1
  | laneNet2
  | laneNet3
  | laneWlink
  | laneWpair
  | pwrStat
  | pwrCtl
  | pwrFlat
  | pwrSleep
  | pwrWake
  | pwrEvt
  | cylIdleT
  | pwrKr
  | pwrWear
  | tbNow
  | tbStatus
  | tbTally
  | tbSet
  | tbPtp
  | cwin
  | rbase
  | rshadow
  | rprod
  | rcons
  deriving DecidableEq, Repr

/-- How a register is banked: not at all, one bank per partition, one per thread, one each for partitions 0
and 1, or (host registers) one per queue. -/
inductive Bank where
  | plain | part | thread | plane | queue
  deriving DecidableEq, Repr

/-- The place of a register: `countA` groups `strideA` digits apart of `countB` registers `strideB` apart. -/
structure Place where
  base : Nat
  strideA : Nat
  countA : Nat
  strideB : Nat
  countB : Nat
  bank : Bank
  deriving DecidableEq, Repr

/-- Where each register stands. -/
def regPlace : Reg → Place
  | .lcId => ⟨0xF0000000000, 0, 1, 0, 1, .plain⟩
  | .lcReq => ⟨0xF0000000010, 0, 1, 0, 1, .plain⟩
  | .lcRstat => ⟨0xF0000000020, 0, 1, 0, 1, .plain⟩
  | .lcNonce => ⟨0xF0000000030, 0, 1, 0, 1, .plain⟩
  | .lcFuse => ⟨0xF0000000040, 0, 1, 0, 1, .plain⟩
  | .lcBoot => ⟨0xF0000000050, 0, 1, 0, 1, .plain⟩
  | .lcBundle => ⟨0xF0000000060, 0, 1, 0, 1, .plain⟩
  | .cylCmode => ⟨0xF0004000000, 64, 128, 0, 1, .plain⟩
  | .cylThrst => ⟨0xF0004000010, 64, 128, 0, 1, .plain⟩
  | .cylPark => ⟨0xF0004000020, 64, 128, 0, 1, .plain⟩
  | .cylPtroot => ⟨0xF0005000000, 0, 1, 0, 1, .part⟩
  | .cylTlbinv => ⟨0xF0005000010, 0, 1, 0, 1, .part⟩
  | .cylFva => ⟨0xF0005000020, 0, 1, 0, 1, .thread⟩
  | .cylFinfo => ⟨0xF0005000030, 0, 1, 0, 1, .thread⟩
  | .dmaHead => ⟨0xF0006000000, 4096, 32, 128, 16, .plain⟩
  | .dmaCtl => ⟨0xF0006000010, 4096, 32, 128, 16, .plain⟩
  | .dmaStat => ⟨0xF0006000020, 4096, 32, 128, 16, .plain⟩
  | .dmaOffs => ⟨0xF0006000030, 4096, 32, 128, 16, .plain⟩
  | .dmaCur => ⟨0xF0006000040, 4096, 32, 128, 16, .plain⟩
  | .dmaFva => ⟨0xF0006000050, 4096, 32, 128, 16, .plain⟩
  | .engErr => ⟨0xF0007000000, 4096, 16, 128, 9, .plain⟩
  | .engSeat => ⟨0xF0007000010, 4096, 16, 128, 9, .plain⟩
  | .ksSel => ⟨0xF0008000000, 0, 1, 0, 1, .part⟩
  | .ksInfo => ⟨0xF0008000010, 0, 1, 0, 1, .plain⟩
  | .ksErase => ⟨0xF0008000020, 0, 1, 0, 1, .plain⟩
  | .ksCount => ⟨0xF0008000030, 0, 1, 0, 1, .plain⟩
  | .ksQlast => ⟨0xF0008000040, 0, 1, 0, 1, .plain⟩
  | .ksImg => ⟨0xF0008000050, 0, 1, 0, 1, .plain⟩
  | .exgPol => ⟨0xF0009000000, 0, 1, 0, 1, .plain⟩
  | .exgStat => ⟨0xF0009001000, 32, 256, 0, 1, .plain⟩
  | .exgPan => ⟨0xF0009001010, 32, 256, 0, 1, .plain⟩
  | .queCur => ⟨0xF000A000000, 0, 1, 0, 1, .thread⟩
  | .queDone => ⟨0xF000A000010, 0, 1, 0, 1, .thread⟩
  | .queStat => ⟨0xF000A010000, 32, 1024, 0, 1, .plain⟩
  | .queStatr => ⟨0xF000A010010, 32, 1024, 0, 1, .plain⟩
  | .quePstat => ⟨0xF000A020000, 16, 256, 0, 1, .plain⟩
  | .queMod => ⟨0xF000A030000, 16, 1024, 0, 1, .plain⟩
  | .queTlm => ⟨0xF000A040000, 32, 16, 0, 1, .plain⟩
  | .queTcons => ⟨0xF000A040010, 32, 16, 0, 1, .plain⟩
  | .turnNum => ⟨0xF000B000000, 0, 1, 0, 1, .plain⟩
  | .turnStat => ⟨0xF000B000010, 0, 1, 0, 1, .plane⟩
  | .turnCommit => ⟨0xF000B000020, 0, 1, 0, 1, .plain⟩
  | .turnSet => ⟨0xF000B000030, 0, 1, 0, 1, .plane⟩
  | .turnDelta => ⟨0xF000B000040, 0, 1, 0, 1, .plane⟩
  | .turnDstat => ⟨0xF000B000050, 0, 1, 0, 1, .plane⟩
  | .turnKcut => ⟨0xF000B000060, 0, 1, 0, 1, .plain⟩
  | .arbSel => ⟨0xF000C000000, 0, 1, 0, 1, .part⟩
  | .arbInfo => ⟨0xF000C000010, 0, 1, 0, 1, .plain⟩
  | .arbStat => ⟨0xF000C000020, 0, 1, 0, 1, .plain⟩
  | .arbXmode => ⟨0xF000C000030, 0, 1, 0, 1, .plain⟩
  | .arbXsat => ⟨0xF000C000040, 0, 1, 0, 1, .plain⟩
  | .keepStall => ⟨0xF000C010000, 0, 1, 0, 1, .plain⟩
  | .keepXlog => ⟨0xF000C010010, 0, 1, 0, 1, .plain⟩
  | .keepPadrel => ⟨0xF000C010020, 0, 1, 0, 1, .plain⟩
  | .keepStat => ⟨0xF000C010030, 0, 1, 0, 1, .plain⟩
  | .keepTamp => ⟨0xF000C010040, 0, 1, 0, 1, .plain⟩
  | .keepWcfg => ⟨0xF000C010050, 0, 1, 0, 1, .plain⟩
  | .keepAseal => ⟨0xF000C010060, 0, 1, 0, 1, .plain⟩
  | .keepAstat => ⟨0xF000C010070, 0, 1, 0, 1, .plain⟩
  | .keepAttest => ⟨0xF000C010080, 0, 1, 0, 1, .plane⟩
  | .keepFin => ⟨0xF000C010090, 0, 1, 0, 1, .plain⟩
  | .keepFsel => ⟨0xF000C0100A0, 0, 1, 0, 1, .plain⟩
  | .keepFinfo => ⟨0xF000C0100B0, 0, 1, 0, 1, .plain⟩
  | .keepFlast => ⟨0xF000C0100C0, 0, 1, 0, 1, .plain⟩
  | .keepQuiet => ⟨0xF000C0100D0, 0, 1, 0, 1, .plain⟩
  | .knkDoorbell => ⟨0xF000D000000, 0, 1, 0, 1, .plain⟩
  | .knkPendSet => ⟨0xF000D000010, 0, 1, 0, 1, .plain⟩
  | .knkPendClr => ⟨0xF000D000020, 0, 1, 0, 1, .plain⟩
  | .knkMaskSet => ⟨0xF000D000030, 0, 1, 0, 1, .plain⟩
  | .knkMaskClr => ⟨0xF000D000040, 0, 1, 0, 1, .plain⟩
  | .knkClaim => ⟨0xF000D000050, 0, 1, 0, 1, .thread⟩
  | .knkEoi => ⟨0xF000D000060, 0, 1, 0, 1, .plain⟩
  | .knkRtn => ⟨0xF000D000070, 0, 1, 0, 1, .thread⟩
  | .knkRun => ⟨0xF000D000080, 0, 1, 0, 1, .thread⟩
  | .knkVec => ⟨0xF000D000090, 0, 1, 0, 1, .part⟩
  | .knkSel => ⟨0xF000D0000A0, 0, 1, 0, 1, .part⟩
  | .knkSrc => ⟨0xF000D0000B0, 0, 1, 0, 1, .plain⟩
  | .knkStrayCnt => ⟨0xF000D0000C0, 0, 1, 0, 1, .part⟩
  | .laneStat => ⟨0xF000E000000, 16, 48, 0, 1, .plain⟩
  | .laneDrop => ⟨0xF000E010000, 16, 5, 0, 1, .plain⟩
  | .laneNet0 => ⟨0xF000E020000, 64, 3, 0, 1, .plain⟩
  | .laneNet1 => ⟨0xF000E020010, 64, 3, 0, 1, .plain⟩
  | .laneNet2 => ⟨0xF000E020020, 64, 3, 0, 1, .plain⟩
  | .laneNet3 => ⟨0xF000E020030, 64, 3, 0, 1, .plain⟩
  | .laneWlink => ⟨0xF000E030000, 16, 4, 0, 1, .plain⟩
  | .laneWpair => ⟨0xF000E030100, 16, 8, 0, 1, .plain⟩
  | .pwrStat => ⟨0xF000F000000, 0, 1, 0, 1, .plain⟩
  | .pwrCtl => ⟨0xF000F000010, 0, 1, 0, 1, .plain⟩
  | .pwrFlat => ⟨0xF000F000020, 0, 1, 0, 1, .plain⟩
  | .pwrSleep => ⟨0xF000F000030, 0, 1, 0, 1, .plain⟩
  | .pwrWake => ⟨0xF000F000040, 0, 1, 0, 1, .plain⟩
  | .pwrEvt => ⟨0xF000F000050, 0, 1, 0, 1, .plain⟩
  | .cylIdleT => ⟨0xF000F000060, 0, 1, 0, 1, .plain⟩
  | .pwrKr => ⟨0xF000F000100, 16, 16, 0, 1, .plain⟩
  | .pwrWear => ⟨0xF000F000200, 16, 16, 0, 1, .plain⟩
  | .tbNow => ⟨0xF0010000000, 0, 1, 0, 1, .plain⟩
  | .tbStatus => ⟨0xF0010000010, 0, 1, 0, 1, .plain⟩
  | .tbTally => ⟨0xF0010000020, 0, 1, 0, 1, .plain⟩
  | .tbSet => ⟨0xF0010000030, 0, 1, 0, 1, .plain⟩
  | .tbPtp => ⟨0xF0010000040, 0, 1, 0, 1, .plain⟩
  | .cwin => ⟨0x1000000000000, 0, 1, 0, 1, .queue⟩
  | .rbase => ⟨0x1000000000008, 0, 1, 0, 1, .queue⟩
  | .rshadow => ⟨0x1000000000010, 0, 1, 0, 1, .queue⟩
  | .rprod => ⟨0x1000000000018, 0, 1, 0, 1, .queue⟩
  | .rcons => ⟨0x1000000000020, 0, 1, 0, 1, .queue⟩

/-- The access masks and the reset value of a register: bits a write sets, bits a write of 1 clears, bits a
read clears, and what it reads at reset. -/
structure Access where
  rw : Word
  w1c : Word
  rc : Word
  reset : Word
  deriving DecidableEq, Repr

/-- The access codes of R10, gathered from the register tables; a value the table takes from fuses, the keycut,
the boot or the Keeper starts at 0 and is written there by its source. -/
def regAccess : Reg → Access
  | .lcId => ⟨0x0#64, 0x0#64, 0x0#64, 0x71280E108104B000#64⟩
  | .lcReq => ⟨0xFFFFFFFFFFFFFF#64, 0x0#64, 0x0#64, 0x0#64⟩
  | .lcRstat => ⟨0x0#64, 0x0#64, 0x0#64, 0x0#64⟩
  | .lcNonce => ⟨0x0#64, 0x0#64, 0x0#64, 0x0#64⟩
  | .lcFuse => ⟨0x0#64, 0x0#64, 0x0#64, 0x0#64⟩
  | .lcBoot => ⟨0x0#64, 0x0#64, 0x0#64, 0x0#64⟩
  | .lcBundle => ⟨0xFFFFFFFFFFFFFF#64, 0x0#64, 0x0#64, 0x0#64⟩
  | .cylCmode => ⟨0x0#64, 0x0#64, 0xFFFFFF00#64, 0x1#64⟩
  | .cylThrst => ⟨0x0#64, 0x0#64, 0x0#64, 0x0#64⟩
  | .cylPark => ⟨0x0#64, 0x0#64, 0x0#64, 0x0#64⟩
  | .cylPtroot => ⟨0xFFFFFFFE01F#64, 0x0#64, 0x0#64, 0x0#64⟩
  | .cylTlbinv => ⟨0x0#64, 0x0#64, 0x0#64, 0x0#64⟩
  | .cylFva => ⟨0x0#64, 0x0#64, 0x0#64, 0x0#64⟩
  | .cylFinfo => ⟨0x0#64, 0x0#64, 0x0#64, 0x0#64⟩
  | .dmaHead => ⟨0xFFFFFFFFFFFFFF#64, 0x0#64, 0x0#64, 0x0#64⟩
  | .dmaCtl => ⟨0xFFF0000#64, 0x0#64, 0x0#64, 0x0#64⟩
  | .dmaStat => ⟨0x0#64, 0xF00000000#64, 0xFFFF0000#64, 0x0#64⟩
  | .dmaOffs => ⟨0x0#64, 0x0#64, 0x0#64, 0x0#64⟩
  | .dmaCur => ⟨0x0#64, 0x0#64, 0x0#64, 0x0#64⟩
  | .dmaFva => ⟨0x0#64, 0x0#64, 0x0#64, 0x0#64⟩
  | .engErr => ⟨0x0#64, 0x0#64, 0xFFFFFF00#64, 0x100000000#64⟩
  | .engSeat => ⟨0x0#64, 0x0#64, 0x0#64, 0x0#64⟩
  | .ksSel => ⟨0x3FFFF#64, 0x0#64, 0x0#64, 0x0#64⟩
  | .ksInfo => ⟨0x0#64, 0x0#64, 0x0#64, 0x0#64⟩
  | .ksErase => ⟨0x3FFFF#64, 0x0#64, 0x0#64, 0x0#64⟩
  | .ksCount => ⟨0x0#64, 0x0#64, 0x0#64, 0x0#64⟩
  | .ksQlast => ⟨0x0#64, 0x0#64, 0xF3FFFF#64, 0x0#64⟩
  | .ksImg => ⟨0xFFFFFFFFFFFFFF#64, 0x0#64, 0x0#64, 0x0#64⟩
  | .exgPol => ⟨0x0#64, 0x0#64, 0x0#64, 0x8CFD3000#64⟩
  | .exgStat => ⟨0x0#64, 0x0#64, 0xFFFFFFFFFFFFFFFF#64, 0x0#64⟩
  | .exgPan => ⟨0x0#64, 0x0#64, 0x0#64, 0x400000000#64⟩
  | .queCur => ⟨0x0#64, 0x0#64, 0x0#64, 0x0#64⟩
  | .queDone => ⟨0x0#64, 0x0#64, 0x0#64, 0x0#64⟩
  | .queStat => ⟨0x0#64, 0x0#64, 0xFFFF000000000000#64, 0x0#64⟩
  | .queStatr => ⟨0x0#64, 0x0#64, 0xFFFF000000000000#64, 0x0#64⟩
  | .quePstat => ⟨0x0#64, 0x0#64, 0xFFFFFFFFFFFFFFFF#64, 0x0#64⟩
  | .queMod => ⟨0xFFFFF#64, 0x0#64, 0x0#64, 0x1410#64⟩
  | .queTlm => ⟨0x0#64, 0x0#64, 0xFFFFFFFF00000000#64, 0x0#64⟩
  | .queTcons => ⟨0xFFFFFFF#64, 0x0#64, 0x0#64, 0x0#64⟩
  | .turnNum => ⟨0x0#64, 0x0#64, 0x0#64, 0x0#64⟩
  | .turnStat => ⟨0x0#64, 0x0#64, 0x0#64, 0x0#64⟩
  | .turnCommit => ⟨0x0#64, 0x0#64, 0x0#64, 0x0#64⟩
  | .turnSet => ⟨0x0#64, 0x0#64, 0x0#64, 0x1#64⟩
  | .turnDelta => ⟨0xFFFFFFFFFFFFFF#64, 0x0#64, 0x0#64, 0x0#64⟩
  | .turnDstat => ⟨0x0#64, 0x0#64, 0x0#64, 0x0#64⟩
  | .turnKcut => ⟨0x0#64, 0x0#64, 0x0#64, 0x0#64⟩
  | .arbSel => ⟨0xFFF0FFF#64, 0x0#64, 0x0#64, 0x0#64⟩
  | .arbInfo => ⟨0x0#64, 0x0#64, 0x0#64, 0x0#64⟩
  | .arbStat => ⟨0x0#64, 0x0#64, 0x0#64, 0x0#64⟩
  | .arbXmode => ⟨0x3FFFFFE#64, 0x0#64, 0x0#64, 0x0#64⟩
  | .arbXsat => ⟨0x0#64, 0x3FFFFFE#64, 0x0#64, 0x0#64⟩
  | .keepStall => ⟨0x3FFF#64, 0x0#64, 0x0#64, 0x3E8#64⟩
  | .keepXlog => ⟨0x0#64, 0x0#64, 0xFFFFFFFF00000000#64, 0x0#64⟩
  | .keepPadrel => ⟨0x0#64, 0xF#64, 0x0#64, 0x0#64⟩
  | .keepStat => ⟨0x0#64, 0x0#64, 0x0#64, 0x200#64⟩
  | .keepTamp => ⟨0x0#64, 0x3F#64, 0xFFFF000000000000#64, 0x0#64⟩
  | .keepWcfg => ⟨0x3FF#64, 0x0#64, 0x0#64, 0x10#64⟩
  | .keepAseal => ⟨0xFFFFFFFFFFFFFF#64, 0x0#64, 0x0#64, 0x0#64⟩
  | .keepAstat => ⟨0x0#64, 0x0#64, 0x0#64, 0x0#64⟩
  | .keepAttest => ⟨0xFFFFFFFFFFFFFF#64, 0x0#64, 0x0#64, 0x0#64⟩
  | .keepFin => ⟨0xFFFF0000FFFFFFFF#64, 0x0#64, 0x0#64, 0x0#64⟩
  | .keepFsel => ⟨0xFFFFF#64, 0x0#64, 0x0#64, 0x0#64⟩
  | .keepFinfo => ⟨0x0#64, 0x0#64, 0x0#64, 0x0#64⟩
  | .keepFlast => ⟨0x0#64, 0x0#64, 0x0#64, 0x0#64⟩
  | .keepQuiet => ⟨0x0#64, 0x0#64, 0x0#64, 0x0#64⟩
  | .knkDoorbell => ⟨0x0#64, 0x0#64, 0x0#64, 0x0#64⟩
  | .knkPendSet => ⟨0x0#64, 0x0#64, 0x0#64, 0x0#64⟩
  | .knkPendClr => ⟨0x0#64, 0x0#64, 0x0#64, 0x0#64⟩
  | .knkMaskSet => ⟨0x0#64, 0x0#64, 0x0#64, 0x0#64⟩
  | .knkMaskClr => ⟨0x0#64, 0x0#64, 0x0#64, 0x0#64⟩
  | .knkClaim => ⟨0x0#64, 0x0#64, 0x0#64, 0x0#64⟩
  | .knkEoi => ⟨0x0#64, 0x0#64, 0x0#64, 0x0#64⟩
  | .knkRtn => ⟨0x0#64, 0x0#64, 0x0#64, 0x0#64⟩
  | .knkRun => ⟨0x0#64, 0x0#64, 0x0#64, 0x0#64⟩
  | .knkVec => ⟨0x1FFFFFFFFFFFF80#64, 0x0#64, 0x0#64, 0x0#64⟩
  | .knkSel => ⟨0xFFF#64, 0x0#64, 0x0#64, 0x0#64⟩
  | .knkSrc => ⟨0x0#64, 0x0#64, 0x0#64, 0x0#64⟩
  | .knkStrayCnt => ⟨0x0#64, 0x0#64, 0xFFFFFFFFFFFFFFFF#64, 0x0#64⟩
  | .laneStat => ⟨0x0#64, 0x0#64, 0xFFFFFFFFFFFF0000#64, 0x100#64⟩
  | .laneDrop => ⟨0x0#64, 0x0#64, 0xFFFFFFFFFFFFFFFF#64, 0x0#64⟩
  | .laneNet0 => ⟨0xFFF000000000000#64, 0x0#64, 0x0#64, 0x0#64⟩
  | .laneNet1 => ⟨0xFFFF0000FFFFFFFF#64, 0x0#64, 0x0#64, 0xB818000000000000#64⟩
  | .laneNet2 => ⟨0xFFFFFFFFFFFFFFFF#64, 0x0#64, 0x0#64, 0x0#64⟩
  | .laneNet3 => ⟨0xFFFFFFFFFFFFFFFF#64, 0x0#64, 0x0#64, 0x0#64⟩
  | .laneWlink => ⟨0x0#64, 0x0#64, 0xFFFFFFFF00000000#64, 0xF001#64⟩
  | .laneWpair => ⟨0x0#64, 0x0#64, 0x0#64, 0xFF00#64⟩
  | .pwrStat => ⟨0x0#64, 0x0#64, 0x0#64, 0x0#64⟩
  | .pwrCtl => ⟨0xFFF#64, 0x0#64, 0x0#64, 0x0#64⟩
  | .pwrFlat => ⟨0xF000FFFF000FFF00#64, 0x0#64, 0x0#64, 0x100003E800011800#64⟩
  | .pwrSleep => ⟨0xF0000#64, 0x0#64, 0x0#64, 0x0#64⟩
  | .pwrWake => ⟨0xFFFFFFFFFFFF#64, 0x0#64, 0x0#64, 0x0#64⟩
  | .pwrEvt => ⟨0x0#64, 0xFF#64, 0x0#64, 0x0#64⟩
  | .cylIdleT => ⟨0xFFFFFFFF#64, 0x0#64, 0x0#64, 0xC80014#64⟩
  | .pwrKr => ⟨0x0#64, 0x0#64, 0x0#64, 0x3203B60000000000#64⟩
  | .pwrWear => ⟨0x0#64, 0x0#64, 0x0#64, 0x0#64⟩
  | .tbNow => ⟨0x0#64, 0x0#64, 0x0#64, 0x0#64⟩
  | .tbStatus => ⟨0x0#64, 0xB#64, 0x0#64, 0x0#64⟩
  | .tbTally => ⟨0x0#64, 0x0#64, 0x0#64, 0x0#64⟩
  | .tbSet => ⟨0x0#64, 0x0#64, 0x0#64, 0x0#64⟩
  | .tbPtp => ⟨0xFF0F#64, 0x0#64, 0x0#64, 0xF#64⟩
  | .cwin => ⟨0x0#64, 0x0#64, 0x0#64, 0x0#64⟩
  | .rbase => ⟨0xFFFFFFFFFFFFF0F1#64, 0x0#64, 0x0#64, 0x0#64⟩
  | .rshadow => ⟨0xFFFFFFFFFFFFFFF8#64, 0x0#64, 0x0#64, 0x0#64⟩
  | .rprod => ⟨0x0#64, 0x0#64, 0x0#64, 0x0#64⟩
  | .rcons => ⟨0xFFFFFFFF#64, 0x0#64, 0x0#64, 0x0#64⟩

/-- Every control register that has an address in control space. -/
def ctlRegs : List Reg :=
  [.lcId,
   .lcReq,
   .lcRstat,
   .lcNonce,
   .lcFuse,
   .lcBoot,
   .lcBundle,
   .cylCmode,
   .cylThrst,
   .cylPark,
   .cylPtroot,
   .cylTlbinv,
   .cylFva,
   .cylFinfo,
   .dmaHead,
   .dmaCtl,
   .dmaStat,
   .dmaOffs,
   .dmaCur,
   .dmaFva,
   .engErr,
   .engSeat,
   .ksSel,
   .ksInfo,
   .ksErase,
   .ksCount,
   .ksQlast,
   .ksImg,
   .exgPol,
   .exgStat,
   .exgPan,
   .queCur,
   .queDone,
   .queStat,
   .queStatr,
   .quePstat,
   .queMod,
   .queTlm,
   .queTcons,
   .turnNum,
   .turnStat,
   .turnCommit,
   .turnSet,
   .turnDelta,
   .turnDstat,
   .turnKcut,
   .arbSel,
   .arbInfo,
   .arbStat,
   .arbXmode,
   .arbXsat,
   .keepStall,
   .keepXlog,
   .keepPadrel,
   .keepStat,
   .keepTamp,
   .keepWcfg,
   .keepAseal,
   .keepAstat,
   .keepAttest,
   .keepFin,
   .keepFsel,
   .keepFinfo,
   .keepFlast,
   .keepQuiet,
   .knkDoorbell,
   .knkPendSet,
   .knkPendClr,
   .knkMaskSet,
   .knkMaskClr,
   .knkClaim,
   .knkEoi,
   .knkRtn,
   .knkRun,
   .knkVec,
   .knkSel,
   .knkSrc,
   .knkStrayCnt,
   .laneStat,
   .laneDrop,
   .laneNet0,
   .laneNet1,
   .laneNet2,
   .laneNet3,
   .laneWlink,
   .laneWpair,
   .pwrStat,
   .pwrCtl,
   .pwrFlat,
   .pwrSleep,
   .pwrWake,
   .pwrEvt,
   .cylIdleT,
   .pwrKr,
   .pwrWear,
   .tbNow,
   .tbStatus,
   .tbTally,
   .tbSet,
   .tbPtp]

/-- The index of a register at `addr`, when it stands there; a banked register answers 0. -/
def placeIndex (p : Place) (addr : Nat) : Option Nat :=
  if addr < p.base then none
  else if p.bank ≠ .plain then (if addr = p.base then some 0 else none)
  else
    let d := addr - p.base
    let a := if p.strideA = 0 then 0 else d / p.strideA
    let r := if p.strideA = 0 then d else d % p.strideA
    let b := if p.strideB = 0 then 0 else r / p.strideB
    let r' := if p.strideB = 0 then r else r % p.strideB
    if r' = 0 ∧ a < p.countA ∧ b < p.countB then some (a * p.countB + b) else none

/-- The register at a control-space address, with its index. -/
def regAt (addr : Nat) : Option (Reg × Nat) :=
  ctlRegs.findSome? (fun r => (placeIndex (regPlace r) addr).map (fun i => (r, i)))

/-- The key under which index `ix` of a register is stored. -/
def regKey (r : Reg) (ix : Nat) : Nat := (regPlace r).base * 4096 + ix

end Sys2Proof.Machine
end

