-- ==== Sys2Proof/Config.lean ====
section
/-! DEFINITION. What the specification leaves open or takes from outside itself: the free values of the model
and the cryptographic primitives it names by their standards. None has a body, so no proof can use a value of
one; a statement about them holds whatever they compute. -/

namespace Sys2Proof.Config

/-- A fresh unspecified word for each value of the state's counter `free`. -/
opaque freeValue : Nat → Word

/-- The depth in words of each lane crossing queue, which the specification does not give (R304). -/
opaque laneDepth : Nat → Nat

/-- The row group of intake SRAM that a queue's items lie in, which the specification does not give (R473). -/
opaque rowGroup : Nat → Nat

/-! ### Keccak -/

/-- The Keccak permutation on a state of 200 bytes (FIPS 202); the sponge over it stands in `Machine/Sponge.lean`. -/
opaque keccakF : Bytes → Bytes

/-! ### Block ciphers -/

/-- One AES block under a key of 16, 24 or 32 bytes: encrypt. -/
opaque aesEnc : Bytes → Bytes → Bytes
/-- One AES block: decrypt. -/
opaque aesDec : Bytes → Bytes → Bytes
/-- One TDES block under a key of 16 or 24 bytes: encrypt. -/
opaque tdesEnc : Bytes → Bytes → Bytes
/-- One TDES block: decrypt. -/
opaque tdesDec : Bytes → Bytes → Bytes
/-- One single-DES block under the first 8 bytes of a key: encrypt. -/
opaque desEnc : Bytes → Bytes → Bytes
/-- One single-DES block: decrypt. -/
opaque desDec : Bytes → Bytes → Bytes
/-- AES-GCM (SP 800-38D): key, IV, additional data, plaintext; the ciphertext and the 16-byte tag. -/
opaque gcmEnc : Bytes → Bytes → Bytes → Bytes → Bytes × Bytes
/-- AES-GCM decryption without the tag check: the plaintext and the tag that belongs to it. -/
opaque gcmDec : Bytes → Bytes → Bytes → Bytes → Bytes × Bytes
/-- XTS of one data unit: key pair, tweak, data; `true` encrypts. -/
opaque xts : Bool → Bytes → Bytes → Bytes → Bytes
/-- AES-CMAC (SP 800-38B). -/
opaque aesCmac : Bytes → Bytes → Bytes
/-- TDES-CMAC. -/
opaque tdesCmac : Bytes → Bytes → Bytes
/-- AES key wrap with padding (SP 800-38F). -/
opaque kwpWrap : Bytes → Bytes → Bytes
/-- Its inverse; none when the integrity check fails. -/
opaque kwpUnwrap : Bytes → Bytes → Option Bytes

/-! ### Lattice and big-number operations; the first argument names the parameter set -/

/-- ML-DSA key generation from a seed: public key and secret key. -/
opaque mlDsaKeyGen : Nat → Bytes → Bytes × Bytes
/-- ML-DSA signing: set, secret key, context, message (or digest), randomness; none at the attempt limit. -/
opaque mlDsaSign : Nat → Bytes → Bytes → Bytes → Bytes → Option Bytes
/-- ML-DSA verification: set, public key, context, message, signature. -/
opaque mlDsaVerify : Nat → Bytes → Bytes → Bytes → Bytes → Bool
/-- ML-KEM key generation from a seed. -/
opaque mlKemKeyGen : Nat → Bytes → Bytes × Bytes
/-- ML-KEM encapsulation: set, public key, randomness; ciphertext and shared secret. -/
opaque mlKemEncap : Nat → Bytes → Bytes → Bytes × Bytes
/-- ML-KEM decapsulation: set, secret key, ciphertext. -/
opaque mlKemDecap : Nat → Bytes → Bytes → Bytes
/-- RSA secret-key signature: padding (1 PSS, 2 PKCS #1 v1.5), secret key, digest, randomness. -/
opaque rsaSign : Nat → Bytes → Bytes → Bytes → Bytes
/-- RSA verification: padding, public key, digest, signature. -/
opaque rsaVerify : Nat → Bytes → Bytes → Bytes → Bool
/-- RSA-OAEP decryption: secret key, ciphertext; none when the padding is wrong. -/
opaque rsaOaep : Bytes → Bytes → Option Bytes
/-- RSA key generation: modulus bits, randomness; public key and secret key, none at the candidate limit. -/
opaque rsaKeyGen : Nat → Bytes → Option (Bytes × Bytes)
/-- ECDSA signature: curve, secret key, digest, randomness. -/
opaque ecdsaSign : Nat → Bytes → Bytes → Bytes → Bytes
/-- ECDSA verification: curve, public key, digest, signature. -/
opaque ecdsaVerify : Nat → Bytes → Bytes → Bytes → Bool
/-- ECDH: curve, secret key, peer's point; none when the point is invalid. -/
opaque ecdh : Nat → Bytes → Bytes → Option Bytes
/-- EC key generation: curve, randomness. -/
opaque ecKeyGen : Nat → Bytes → Bytes × Bytes
/-- Modular exponentiation on public operands: widths, IN, AUX, output length. -/
opaque modExp : Nat → Bytes → Bytes → Nat → Bytes
/-- Ed25519 signature. -/
opaque ed25519Sign : Bytes → Bytes → Bytes
/-- Ed25519 verification. -/
opaque ed25519Verify : Bytes → Bytes → Bytes → Bool

/-! ### Payment standards -/

/-- The initial key of TDES DUKPT: base derivation key, KSN with its counter cleared (ANSI X9.24-1). -/
opaque dukptInitial : Bytes → Bytes → Bytes
/-- One step of its non-reversible key generation: key, KSN so far. -/
opaque dukptStep : Bytes → Bytes → Bytes
/-- A working key's variant: 0 PIN, 1 and 2 MAC request and response, 3 and 4 data request and response. -/
opaque dukptVariant : Nat → Bytes → Bytes
/-- The initial key of AES DUKPT (ANSI X9.24-3). -/
opaque aesDukptInitial : Bytes → Bytes → Bytes
/-- A working key of AES DUKPT: base key, KSN, use as above, key type. -/
opaque aesDukpt : Bytes → Bytes → Nat → Nat → Bytes
/-- The MAC under a DUKPT working key of the given type; at most 16 bytes. -/
opaque dukptMac : Nat → Bytes → Bytes → Bytes
/-- TR-31: the key of an authentic block under a protection key; none when authentication fails. -/
opaque tr31Unwrap : Bytes → Bytes → Option Bytes
/-- TR-31: a block from its protection key, its header of 16 bytes, the key and random padding. -/
opaque tr31Wrap : Bytes → Bytes → Bytes → Bytes → Bytes
/-- EMV Book 2: the session key from the issuer master key by P1, PAN digits, PSN and ATC. -/
opaque emvSession : Nat → Bytes → List Nat → Nat → Nat → Bytes
/-- FF1 with radix 10 on a digit string; `true` encrypts. -/
opaque ff1 : Bool → Bytes → Bytes → List Nat → List Nat
/-- FF3-1 with radix 10. -/
opaque ff3 : Bool → Bytes → Bytes → List Nat → List Nat

/-! ### The shares that the device's own matter gives, and what pairs of a strongroom derive -/

/-- The mesh share, decoded from the ward mesh (R454). -/
opaque meshShare : Bytes
/-- The PUF share, decoded from the start-up state of the Keeper's SRAM cells (R454). -/
opaque pufShare : Bytes

/-- What the pair key derivation takes beside the shared secret, from KX1 and KX2: the specification names only the
function and its customization (R407). -/
opaque pairInput : Bytes → Bytes → Bytes

/-- Whether item #0022 authenticates under the "TRAIN" key and fits the stacks as measured now: the key, the item (R498). -/
opaque trainingFits : Bytes → Bytes → Bool
/-- A full training, by draw: the fresh training data, or none where a stack fails it (R498, R506). -/
opaque trainingData : Nat → Option Bytes

/-! ### What the maker has put into every device -/

/-- SHA3-256 of the maker's keycut key (R316). -/
opaque makerKeyDigest : Bytes
/-- The digest of the maker's life-cycle key (R461). -/
opaque makerLifeDigest : Bytes
/-- The digest of the maker's firmware key (R464). -/
opaque makerFirmwareDigest : Bytes

/-! ### Randomness -/

/-- DRBG output: its partition and keyring, the number of the draw, the length. -/
opaque drbg : Nat → Nat → Nat → Nat → Bytes
/-- Raw bits of the TRNG, by draw and length. -/
opaque trng : Nat → Nat → Bytes

end Sys2Proof.Config
end

