-- ==== Sys2Proof/Machine/Sponge.lean ====
section
/-! DEFINITION. The sponge functions over the Keccak permutation (R239; FIPS 202, SP 800-185): SHA3, SHAKE, KMAC, and the
chained absorption of MORE and CONT. -/

namespace Sys2Proof.Machine

/-- A sponge state of zeros. -/
def spongeZero : Bytes := zeros 200

/-- One block of `r` bytes absorbed. -/
def absorbBlock (r : Nat) (st blk : Bytes) : Bytes := Config.keccakF (xorBytes (st.take r) blk ++ st.drop r)

/-- Whole blocks absorbed; `fuel` bounds them. -/
def absorbRun (r : Nat) : Nat → Bytes → Bytes → Bytes
  | 0, st, _ => st
  | n + 1, st, b => if b.length < r ∨ r = 0 then st else absorbRun r n (absorbBlock r st (b.take r)) (b.drop r)

/-- The whole blocks of a message absorbed. -/
def absorb (r : Nat) (st b : Bytes) : Bytes := absorbRun r (b.length + 1) st b

/-- The last block of a message, padded: the domain bits, zeros, and the final one bit. -/
def lastBlock (r : Nat) (dom : Byte) (b : Bytes) : Bytes :=
  let t := b.drop (b.length / r * r) ++ [dom]
  let t := t ++ zeros (r - t.length)
  t.take (r - 1) ++ (t.drop (r - 1)).map (fun x => x ||| 0x80)

/-- `n` bytes squeezed; `fuel` bounds the permutations. -/
def squeeze (r : Nat) : Nat → Bytes → Nat → Bytes
  | 0, _, _ => []
  | k + 1, st, n => if n ≤ r then st.take n else st.take r ++ squeeze r k (Config.keccakF st) (n - r)

/-- A message's end absorbed and `n` bytes produced. -/
def spongeEnd (r : Nat) (dom : Byte) (st b : Bytes) (n : Nat) : Bytes :=
  squeeze r (n + 1) (absorbBlock r (absorb r st b) (lastBlock r dom b)) n

/-- SHA3 with an output of `n` bytes: the rate is 200 - 2n. -/
def sha3 (n : Nat) (b : Bytes) : Bytes := spongeEnd (200 - 2 * n) 0x06 spongeZero b n

/-- SHA3-256. -/
def sha256 (b : Bytes) : Bytes := sha3 32 b

/-- The bytes of a number without leading zero bytes, at least one; `fuel` bounds them. -/
def minBytes : Nat → Nat → Bytes
  | 0, _ => []
  | k + 1, n => if n < 256 then [byte n] else minBytes k (n / 256) ++ [byte n]

/-- left_encode of SP 800-185. -/
def leftEncode (n : Nat) : Bytes := let b := minBytes 8 n; byte b.length :: b
/-- right_encode. -/
def rightEncode (n : Nat) : Bytes := let b := minBytes 8 n; b ++ [byte b.length]
/-- encode_string. -/
def encodeString (b : Bytes) : Bytes := leftEncode (8 * b.length) ++ b
/-- bytepad. -/
def bytePad (w : Nat) (b : Bytes) : Bytes := let t := leftEncode w ++ b; t ++ zeros ((w - t.length % w) % w)

/-- The rate of the functions of strength 128 or 256. -/
def spongeRate (bits : Nat) : Nat := if bits = 128 then 168 else 136

/-- KMAC128 or KMAC256: key, data, output length in bytes, customisation string. -/
def kmac (bits : Nat) (key data : Bytes) (n : Nat) (cust : Bytes) : Bytes :=
  let r := spongeRate bits
  let b := bytePad r (encodeString (ascii "KMAC") ++ encodeString cust) ++ bytePad r (encodeString key) ++ data ++ rightEncode (8 * n)
  spongeEnd r 0x04 spongeZero b n

end Sys2Proof.Machine
end

