-- ==== Sys2Proof/Machine/Ops.lean ====
section
/-! DEFINITION. The named operations over the state that the meanings share: registers, threads, memory, knock
sources, audit records and fault reports. -/

namespace Sys2Proof.Machine

/-! ### What unlisted parts of the state read as -/

/-- A thread's ports at thread start (R79, R107, R127): cmp.bi reads #FF and rep.len 1, every other port 0. -/
def portReset (p : Nat) : Word := if p = 0x0B6 then 0xFF else if p = 0x118 then 1 else 0

/-- A thread's discardable state at thread start (R79, R107, R137). -/
def archInit : Arch where
  pc := 0
  g := []
  bits := []
  ports := []
  poison := []
  shW := 16
  stW := 16
  atW := 16
  immAcc := 0
  immCnt := 0
  tgtAbs := false
  rep := { active := false, len := 1, pos := 0 }
  slot := 0
  ras := []
  ops := []

/-- A thread that belongs to no partition (R138). -/
def thrInit : Thread where
  part := nobody
  st := .none
  resume := .none
  park := .no
  freeze := none
  freezeReq := none
  arch := archInit
  spec := []
  heldFault := none
  nextOp := 0
  sbuf := []
  resv := none
  held := []
  walk := none
  inbox := []
  current := none
  jobs := []
  prio := []
  runPri := 0
  frames := 0
  epcs := []
  fva := 0
  finfo := 0
  exitWin := false
  entering := false
  fresh := 0
  fromWait := 0
  sync := none
  parity := false
  direct := false
  lastPc := 0
  lastRep := { active := false, len := 1, pos := 0 }
  lastCnt := 0
  strData := none
  fence := []
  yieldFor := []

/-- A cylinder at boot: level mode (R45), empty caches and TLBs. -/
def cylInit : Cyl where
  level := true
  toFree := false
  lastIssued := 15
  lastFlyC := 15
  divBusy := none
  lastDiv := 15
  rest := false
  icache := []
  dcache := []
  itlb := []
  dtlb := []

/-- A DRBG that is not instantiated. -/
def drbgInit : Drbg where
  live := false
  count := 0

/-- A keyring at boot: 800 mV (PWR_KR.VOLT), its ceiling 950 mV, learning (R430), nothing cached. -/
def krInit : Keyring where
  kbits := []
  store := []
  tlb := []
  walks := 0
  doze := false
  gated := false
  hold := false
  rail := 800
  target := 800
  ceil := 950
  temp := 0
  speed := 0
  learn := true
  thermFlag := false
  wearFlag := false
  shedFlag := false
  samples := 0
  spent := 0
  granted := 0
  exhausted := false
  history := []
  drbg := []
  blank := none
  blankLoading := false
  blankTurn := 0
  blankRetired := false
  frames := []
  lastPort := []
  retiredWays := []

/-- An engine at boot: in service, no seats, no jobs. -/
def engInit : Engine where
  svc := 1
  seats := []
  waiting := []
  queue := []
  running := []

/-- A source at boot: clear and unmasked (R381), never claimed (R365). -/
def srcInit : Src where
  pend := false
  mask := false
  active := false
  cnt := 0
  lastClaim := none
  firstBell := 0
  ripeNow := false
  claimer := 0
  route := none

/-- A probed unit at boot: in service, nothing counted (R475, R489). -/
def unitInit : PUnit where
  state := 1
  errs := 0
  trans := 0
  lasting := 0
  window := []
  probe := none
  spares := 0

/-- A clocked domain in operation. -/
def domInit : Domain where
  down := false
  stalled := false
  count := 0
  received := 0

/-! ### Control registers -/

/-- The stored value of a register. -/
def regGet (s : State) (r : Reg) (ix : Nat) : Word := tget (regAccess r).reset s.regs (regKey r ix)

/-- A register stored whole. -/
def regSet (s : State) (r : Reg) (ix : Nat) (v : Word) : State :=
  { s with regs := tset (regAccess r).reset s.regs (regKey r ix) v }

/-- A field of a stored register. -/
def fldGet (s : State) (r : Reg) (ix hi lo : Nat) : Nat := fld (regGet s r ix) hi lo

/-- A field of a register set by the device. -/
def fldSet (s : State) (r : Reg) (ix hi lo v : Nat) : State := regSet s r ix (putFld (regGet s r ix) hi lo v)

/-- A counter field raised by `k`, stopping at its highest value. -/
def bump (s : State) (r : Reg) (ix hi lo k : Nat) : State :=
  fldSet s r ix hi lo (satAdd (2 ^ (hi + 1 - lo) - 1) (fldGet s r ix hi lo) k)

/-- Bits of a register set by the device. -/
def setBits (s : State) (r : Reg) (ix : Nat) (m : Word) : State := regSet s r ix (regGet s r ix ||| m)

/-- A software write by the access codes alone (R10, R12): RW bits take the value, W1C bits written 1 clear. -/
def plainWrite (s : State) (r : Reg) (ix : Nat) (v : Word) : State :=
  let a := regAccess r
  let w := regGet s r ix
  regSet s r ix ((((w &&& ~~~ a.rw) ||| (v &&& a.rw)) &&& ~~~ (v &&& a.w1c)))

/-- A value to be written, with a field that holds a reserved encoding put back to what the register holds (R13). -/
def keepField (old v : Word) (hi lo : Nat) (ok : Nat → Bool) : Word := if ok (fld v hi lo) then v else putFld v hi lo (fld old hi lo)

/-- A read clears the RC bits (R10). -/
def clearOnRead (s : State) (r : Reg) (ix : Nat) : State :=
  regSet s r ix (regGet s r ix &&& ~~~ (regAccess r).rc)

/-! ### Outputs, free values, randomness -/

/-- An output of the device. -/
def emit (s : State) (o : Out) : State := { s with out := s.out ++ [o] }

/-- A value the specification leaves open; the step's counter advances. -/
def freeWord (s : State) : Word × State := (Config.freeValue s.free, { s with free := s.free + 1 })

/-- `n` bytes of true randomness. -/
def trngBytes (s : State) (n : Nat) : Bytes × State := (Config.trng s.free n, { s with free := s.free + 1 })

/-- `n` unspecified bytes. -/
def freeBytes (s : State) : Nat → Bytes × State
  | 0 => ([], s)
  | n + 1 =>
    let r := freeWord s
    let t := freeBytes r.2 n
    (byte r.1.toNat :: t.1, t.2)

/-! ### Threads, cylinders, keyrings, engines -/

/-- A thread by its die-wide number (R69). -/
def thr (s : State) (t : Nat) : Thread := tget thrInit s.threads t

/-- The sixteen threads of a thread's cylinder. -/
def siblings (t : Nat) : List Nat := (List.range 16).map (fun i => 16 * (t / 16) + i)

/-- A thread stored, nothing else. -/
def rawThr (s : State) (t : Nat) (th : Thread) : State := { s with threads := tset thrInit s.threads t th }

/-- A yield no longer waits for thread `t` (R144). -/
def dropYield (s : State) (t : Nat) : State :=
  (siblings t).foldl (fun s u =>
    let th := thr s u
    if th.yieldFor.contains t then rawThr s u { th with yieldFor := th.yieldFor.filter (· != t) } else s) s

/-- A thread stored; one that leaves READY is no longer waited for by a yield (R144). -/
def putThr (s : State) (t : Nat) (th : Thread) : State :=
  if (thr s t).st = .ready ∧ th.st ≠ .ready then dropYield (rawThr s t th) t else rawThr s t th

/-- A thread changed by `f`. -/
def modThr (s : State) (t : Nat) (f : Thread → Thread) : State := putThr s t (f (thr s t))

/-- A cylinder. -/
def cyl (s : State) (c : Nat) : Cyl := tget cylInit s.cyls c
/-- A cylinder changed. -/
def modCyl (s : State) (c : Nat) (f : Cyl → Cyl) : State := { s with cyls := tmod cylInit s.cyls c f }
/-- A keyring. -/
def kring (s : State) (k : Nat) : Keyring := tget krInit s.krs k
/-- A keyring changed. -/
def modKr (s : State) (k : Nat) (f : Keyring → Keyring) : State := { s with krs := tmod krInit s.krs k f }
/-- An engine. -/
def eng (s : State) (e : Nat) : Engine := tget engInit s.engs e
/-- An engine changed. -/
def modEng (s : State) (e : Nat) (f : Engine → Engine) : State := { s with engs := tmod engInit s.engs e f }
/-- A clocked domain. -/
def dom (s : State) (d : Nat) : Domain := tget domInit s.doms d
/-- A clocked domain changed. -/
def modDom (s : State) (d : Nat) (f : Domain → Domain) : State := { s with doms := tmod domInit s.doms d f }
/-- A probed unit's key: its class and index (R473). -/
def unitKey (cls ix : Nat) : Nat := cls * 4096 + ix
/-- A probed unit. -/
def punit (s : State) (cls ix : Nat) : PUnit := tget unitInit s.faults.units (unitKey cls ix)
/-- A probed unit changed. -/
def modUnit (s : State) (cls ix : Nat) (f : PUnit → PUnit) : State :=
  { s with faults := { s.faults with units := tmod unitInit s.faults.units (unitKey cls ix) f } }
/-- Whether a unit is retired. -/
def retired (s : State) (cls ix : Nat) : Bool := (punit s cls ix).state == 3
/-- Whether a unit is under probe. -/
def probing (s : State) (cls ix : Nat) : Bool := (punit s cls ix).probe.isSome

/-- The keyring of a thread. -/
def krOf (t : Nat) : Nat := t / 128
/-- The cylinder of a thread. -/
def cylOf (t : Nat) : Nat := t / 16

/-- The stamp of a thread's current command; the current turn when it has none. -/
def thrTurn (s : State) (t : Nat) : Nat :=
  match (thr s t).current with
  | some c => c.cmd.turn
  | none => s.turns.num

/-! ### The device root (R454 to R457) -/

/-- A key derived from the device root: KMAC256 under the root, with the label as input (R456). -/
def deriveKey (s : State) (label : String) : Bytes := kmac 256 (s.keeper.root.getD []) (ascii label) 32 (ascii "EVG-DERIVE")
/-- The identity key pair, generated from the "ID" seed (R465). -/
def identityPair (s : State) : Bytes × Bytes := Config.mlDsaKeyGen 0 (deriveKey s "ID")
/-- The identity public key. -/
def identityPk (s : State) : Bytes := (identityPair s).1
/-- A signature under the identity key, over a digest with a context; none without the key, or at the attempt limit. -/
def identitySign (s : State) (ctx digest : Bytes) : Option Bytes × State :=
  let r := trngBytes s 32
  (if s.keeper.identity then Config.mlDsaSign 0 (identityPair s).2 ctx digest r.1 else none, r.2)

/-! ### Audit records (R28 to R30, R467) -/

/-- The tail's capacity. -/
def tailMax : Nat := 16384

/-- The places in the tail that started jobs hold for their staging records (R229). -/
def auditHeld (s : State) : Nat :=
  (s.engs.flatMap (fun kv => kv.2.running.filter (fun j => j.result.any (fun r => r.stage.isSome)))).length

/-- Whether the unsealed tail is full (R30). -/
def auditFull (s : State) : Bool := decide (tailMax ≤ s.audit.tail.length + auditHeld s)

/-- TB_STATUS as the FLAGS of a record: BRIDGED, COARSE, LOCK. -/
def tbFlags (s : State) : Nat :=
  let w := regGet s .tbStatus 0
  b2n (fbit w 0) + 2 * b2n (fbit w 1) + 4 * b2n (fbit w 2)

/-- The first 96 bytes of an audit record. -/
def recHead (r : Rec) : Bytes :=
  leBytes 8 r.seq ++ leBytes 8 r.time ++ [byte r.flags, byte r.source, byte r.part, 0] ++
    leBytes 2 r.kind ++ [0, 0] ++ leBytes 8 r.turn ++ padTo 64 r.body

/-- A whole audit record. -/
def recBytes (r : Rec) : Bytes := recHead r ++ r.chain

/-- A record appended without asking for space. -/
def auditPush (s : State) (source part kind : Nat) (body : Bytes) : State :=
  let r : Rec := {
    seq := s.audit.nextSeq, time := s.now, flags := tbFlags s, source := source, part := part,
    kind := kind, turn := s.turns.num, body := padTo 64 body, chain := [] }
  let ch := sha256 (s.audit.head ++ recHead r)
  { s with
    audit := { s.audit with
      tail := s.audit.tail ++ [{ r with chain := ch }], nextSeq := s.audit.nextSeq + 1, head := ch } }

/-- One event counted for a summary record (R30). -/
def countSummary (l : List (Nat × Nat × Nat)) (part kind : Nat) : List (Nat × Nat × Nat) :=
  match l with
  | [] => [(part, kind, 1)]
  | (p, k, n) :: t => if p = part ∧ k = kind then (p, k, n + 1) :: t else (p, k, n) :: countSummary t part kind

/-- Summary records are appended before any other new record when space has returned (R30). -/
def auditSummaries (s : State) : State :=
  (s.audit.summaries).foldl (fun s e =>
    if auditFull s then s else
      let s' := auditPush s 4 e.1 0xF (leBytes 2 e.2.1 ++ leBytes 4 e.2.2)
      { s' with audit := { s'.audit with summaries := s.audit.summaries.drop 1 } }) s

/-- An audit record: SOURCE, PART, KIND, BODY. A full tail counts the event instead (R30). -/
def audit (s : State) (source part kind : Nat) (body : Bytes) : State :=
  let s := auditSummaries s
  if auditFull s then
    { s with audit := { s.audit with summaries := countSummary s.audit.summaries part kind } }
  else auditPush s source part kind body

/-! ### Knock sources (R361 to R367) -/

/-- A source's state. -/
def src (s : State) (n : Nat) : Src := tget srcInit s.srcs n
/-- A source changed. -/
def modSrc (s : State) (n : Nat) (f : Src → Src) : State := { s with srcs := tmod srcInit s.srcs n f }
/-- The route a source is delivered under: the one it became pending with (R380). -/
def srcRoute (s : State) (n : Nat) : Route := ((src s n).route).getD (kcRoute s.kc n)
/-- RIPE (R365). -/
def ripe (s : State) (n : Nat) : Bool :=
  let x := src s n
  let r := srcRoute s n
  x.pend && (x.ripeNow || r.minivl == 0 ||
    ((match x.lastClaim with | none => true | some c => decide (c + r.minivl ≤ s.now)) &&
      (decide (r.batch ≤ x.cnt) || decide (x.firstBell + r.minivl ≤ s.now))))
/-- Whether a route's MASK selects a thread. -/
def inMask (r : Route) (t : Nat) : Bool := r.kr == krOf t && r.mask.getLsbD (t % 128)
/-- A source that a thread could claim (R373); `anyRipe` disregards ripeness (R366). -/
def claimable (s : State) (t n : Nat) (anyRipe : Bool) : Bool :=
  let x := src s n
  let r := srcRoute s n
  n != 0 && x.pend && !x.mask && !x.active && decide (0 < r.prio) && inMask r t &&
    decide ((thr s t).runPri < r.prio) && (anyRipe || ripe s n)
/-- The sources whose state is listed. -/
def srcNums (s : State) : List Nat := s.srcs.map (·.1)
/-- Whether a thread could claim some source; one in WAIT never waits out moderation (R366). -/
def anyClaim (s : State) (t : Nat) : Bool := (srcNums s).any (fun n => claimable s t n true)

/-- KNK_VEC.EN of a partition. -/
def vecEn (s : State) (p : Nat) : Bool := fbit (regGet s .knkVec p) 56

/-- The control-space address of KNK_CLAIM. -/
def claimAddr : Nat := (regPlace .knkClaim).base

/-- Whether a thread waits on a load of KNK_CLAIM (R367). -/
def claimWait (th : Thread) : Bool :=
  th.arch.ops.any (fun o => match o.kind with
    | .load _ _ _ [(a, _)] _ _ => a == claimAddr
    | .strLoad _ [(a, _)] _ => a == claimAddr
    | _ => false)

/-- Delivery of a source to a thread (R367). -/
def delivers (s : State) (t n : Nat) : Bool :=
  let th := thr s t
  claimable s t n (th.st == .wait || th.fromWait == 1) &&
    (th.st == .ready || th.st == .parked || th.st == .wait) &&
    vecEn s th.part && !th.exitWin && !claimWait th && th.fresh != 2 && th.sync.isNone && !th.parity
/-- Whether any source is delivered to a thread. -/
def anyDeliver (s : State) (t : Nat) : Bool := (srcNums s).any (fun n => delivers s t n)

/-- A thread in WAIT becomes READY (R141). It leaves at the word after its thr.wait.t. -/
def wakeThr (s : State) (t : Nat) : State :=
  let th := thr s t
  if th.st = .wait then putThr s t { th with st := .ready, fromWait := 1 } else s

/-- The threads a route selects. -/
def maskThreads (r : Route) : List Nat :=
  (List.range 128).filterMap (fun i => if r.mask.getLsbD i then some (128 * r.kr + i) else none)

/-- Threads in WAIT that could claim a source are woken (R141). -/
def wakeTargets (s : State) (n : Nat) : State :=
  (maskThreads (srcRoute s n)).foldl (fun s t => if claimable s t n true then wakeThr s t else s) s

/-- A raise or a write denied to a partition is counted (R361, R362); partition 0's are not. -/
def deny (s : State) (p : Nat) : State := if p = 0 then s else bump s .knkStrayCnt p 63 32 1

/-- Whether a partition may act on a source (R361, R362). -/
def mayRaise (s : State) (p n : Nat) : Bool :=
  let o := (kcRoute s.kc n).owner
  o != nobody && (o == p || p == 0)

/-- A doorbell (R362, R363). -/
def raise (s : State) (p n : Nat) : State :=
  if n = 0 then s
  else if mayRaise s p n then
    let x := src s n
    let s := modSrc s n (fun _ => { x with
      pend := true, cnt := satAdd 255 x.cnt 1,
      firstBell := if x.cnt = 0 then s.now else x.firstBell,
      route := if x.pend then x.route else some (kcRoute s.kc n) })
    wakeTargets s n
  else deny s p

/-- A knock to a partition that names no source raises its ERRKSRC (R362). -/
def errKnock (s : State) (p : Nat) : State := raise s p (kcErrSrc s.kc p)

/-! ### Memory (R165 to R167, R193, R194) -/

/-- The size of the DRAM data region in digits. -/
def dramEnd : Nat := 0x1500000000
/-- The secure scratch (R179). -/
def scratchBase : Nat := 0x10006800000
/-- The end of the vault SRAM. -/
def vaultEnd : Nat := 0x10008000000
/-- The start of control space. -/
def ctlBase : Nat := 0xF0000000000
/-- Whether an address is in DRAM data. -/
def isDram (a : Nat) : Bool := decide (a < dramEnd)
/-- Whether an address is in secure scratch. -/
def isScratch (a : Nat) : Bool := decide (scratchBase ≤ a ∧ a < vaultEnd)
/-- Whether an address is in control space. -/
def isCtl (a : Nat) : Bool := decide (ctlBase ≤ a ∧ a < 0x100000000000)
/-- Line index of a physical address. -/
def lineOf (a : Nat) : Nat := a / 128
/-- The lines that some digits occupy. -/
def linesOf (a n : Nat) : List Nat :=
  if n = 0 then [] else (List.range (lineOf (a + n - 1) + 1 - lineOf a)).map (lineOf a + ·)
/-- The lines of an access. -/
def pieceLines (ps : Pieces) : List Nat := ps.flatMap (fun p => linesOf p.1 p.2)

/-- One digit of memory; a digit nothing has written reads 0 (R181, R191). -/
def readDigit (s : State) (a : Nat) : Digit := tget 0 s.mem a

/-- Digits in ascending address order. -/
def readDigits (s : State) (a n : Nat) : List Digit := (List.range n).map (fun i => readDigit s (a + i))

/-- The digits of an access. -/
def readPieces (s : State) (ps : Pieces) : List Digit := ps.flatMap (fun p => readDigits s p.1 p.2)

/-- Whether any line of an access is poisoned (R194); DRAM whose keys were zeroized reads poisoned (R451). -/
def poisoned (s : State) (ps : Pieces) : Bool :=
  (pieceLines ps).any (fun l => tget false s.poison l) || (s.dramLost && ps.any (fun p => isDram p.1))

/-- The word and the poison that a load of an access takes (R194, R479). -/
def loadPieces (s : State) (ps : Pieces) : Word × Bool := (w64 (digitsNat (readPieces s ps)), poisoned s ps)

/-- The bytes of an access. -/
def readBytes (s : State) (ps : Pieces) : Bytes := digitsBytes (readPieces s ps)

/-- Digits written into a memory, in ascending order from `a`. -/
def memWrite (m : Tab Digit) (a : Nat) : List Digit → Tab Digit
  | [] => m
  | d :: ds => memWrite (tset 0 m a d) (a + 1) ds

/-- The canonical form of memory: addresses strictly rising, no digit 0 listed. -/
def memWf (m : Tab Digit) : Bool := tabWf (0 : Digit) none m

/-- Poison marks after a write of `n` digits at `a`: poisoned data mark every line written, and sound data that
cover a whole line clear its mark (R194, R479). -/
def markPoison (t : Tab Bool) (a n : Nat) (bad : Bool) : Tab Bool :=
  (linesOf a n).foldl (fun t l =>
    if bad then tset false t l true
    else if a ≤ 128 * l ∧ 128 * l + 128 ≤ a + n then tset false t l false else t) t

/-- Reservations lost to a store of an agent other than thread `by_` (R154). -/
def loseResv (s : State) (by_ : Option Nat) (lines : List Nat) : State :=
  { s with threads := tmapAll thrInit s.threads (fun t th =>
      if by_ = some t then th else
        match th.resv with
        | some r => if r.any (fun l => lines.contains l) then { th with resv := none } else th
        | none => th) }

/-- A store of one run of digits becomes visible to every agent (R158). -/
def storeAt (s : State) (by_ : Option Nat) (a : Nat) (ds : List Digit) (bad : Bool) : State :=
  loseResv { s with mem := memWrite s.mem a ds, poison := markPoison s.poison a ds.length bad } by_ (linesOf a ds.length)

/-- A store over the pieces of an access, in ascending order. -/
def storePieces (s : State) (by_ : Option Nat) : Pieces → List Digit → Bool → State
  | [], _, _ => s
  | (a, n) :: ps, ds, bad => storePieces (storeAt s by_ a (ds.take n) bad) by_ ps (ds.drop n) bad

/-- A store of bytes over the pieces of an access. -/
def storeBytes (s : State) (ps : Pieces) (b : Bytes) : State := storePieces s none ps (bytesDigits b) false

/-- A physical range cleared: a page or granule given to a partition (R181, R191). -/
def clearMem (s : State) (lo hi : Nat) : State :=
  { s with mem := tdropRange s.mem lo hi, poison := tdropRange s.poison (lo / 128) (hi / 128) }

/-! ### The Keeper, and fuses that several parts of the device may blow (R451, R471) -/

/-- The Keeper changed. -/
def modKeeper (s : State) (f : Keeper → Keeper) : State := { s with keeper := f s.keeper }

/-- The TAMPER fuse blown. -/
def blowTamper (s : State) : State := { s with fuses := { s.fuses with tamper := true } }

/-- An epoch fuse blown; the last of them ends the life cycle. -/
def blowEpoch (s : State) : State :=
  { s with fuses := { s.fuses with epoch := s.fuses.epoch + 1, lcsNext := if 16384 ≤ s.fuses.epoch + 1 then 0xF else s.fuses.lcsNext } }

/-! ### Wake events (R435, R436) -/

/-- Whether a wake source is enabled: #1 TIMER to #4 PIN by PWR_SLEEP.WEN; #5, the Keeper's own events, always. -/
def wakeEnabled (s : State) (cause : Nat) : Bool := cause == 5 || fbit (regGet s .pwrSleep 0) (15 + cause)

/-- A wake event: latched once the sleep is decided; before a decision it stands for a request of the same instant. -/
def wakeEvent (s : State) (cause : Nat) : State :=
  if !wakeEnabled s cause then s
  else if s.supply.power = 1 then { s with supply := { s.supply with earlyWake := some (cause, s.now) } }
  else if 2 ≤ s.supply.power then { s with supply := { s.supply with wakeLatched := some (s.supply.wakeLatched.getD cause) } }
  else s

/-! ### The buffer (R418) -/

/-- The buffer's energy in J: it charges at 20 W above the load up to 100 J (entry 40 of the log). -/
def bufNow (s : State) : Nat :=
  if s.supply.charging then min 100 (s.supply.buf + (s.now - s.supply.bufAt) / 50000000) else s.supply.buf

/-! ### Fault reports (R473, R474) -/

/-- Caches of a cylinder invalidated (R474). -/
def dropCaches (s : State) (c : Nat) : State := modCyl s c (fun x => { x with icache := [], dcache := [] })

/-- A probe to be taken at a thread's next word boundary (R474). -/
def askFreeze (s : State) (t : Nat) (why : Freeze) : State :=
  let th := thr s t
  if th.part = nobody ∨ th.freeze.isSome ∨ th.freezeReq.isSome then s else putThr s t { th with freezeReq := some why }

/-- What putting a unit under probe takes out of service (R474). -/
def underProbe (s : State) (cls ix : Nat) : State :=
  if cls = 1 then (List.range 16).foldl (fun s i => askFreeze s (16 * ix + i) .probe) (dropCaches s ix)
  else if cls = 2 then modEng s ix (fun e => { e with svc := 2 })
  else if cls = 9 then modDom s ix (fun d => { d with down := true })
  else s

/-- A unit reports an error: a probe starts, or a probe already running counts it (R474). `err` is the kind of
R487, `part` the partition affected or #FF, `detail` as R487 gives it. -/
def report (s : State) (cls ix err part detail : Nat) : State :=
  let s := { s with faults := { s.faults with errSince := true } }
  let u := punit s cls ix
  if u.state = 3 then s
  else
    match u.probe with
    | some p => modUnit s cls ix (fun u => { u with errs := satAdd 0xFFFF u.errs 1, probe := some { p with count := satAdd 0xFFFF p.count 1 } })
    | none =>
      let pr : Probe := { error := err, part := part, count := 1, detail := detail, etime := s.now, selfTest := false }
      underProbe (modUnit s cls ix (fun u => { u with errs := satAdd 0xFFFF u.errs 1, probe := some pr })) cls ix

/-- A quiet-state cause has arisen (R482); the step that met it enters the quiet state at its end. -/
def quietCause (s : State) (cause : Nat) : State :=
  { s with faults := { s.faults with quietDue := some (s.faults.quietDue.getD cause) } }

/-- A domain becomes DOWN; a stall is not meant (R356). -/
def domDown (s : State) (d : Nat) : State := modDom s d (fun x => { x with down := true })

/-- Whether accesses to a domain complete poisoned or dropped (R356). -/
def domOut (s : State) (d : Nat) : Bool := (dom s d).down || (dom s d).stalled

end Sys2Proof.Machine
end

