-- ==== Sys2Proof/Machine/Arbiters.lean ====
section
/-! DEFINITION. The lottery arbiters (R345 to R349) and the draw that every arbitrated grant uses. -/

namespace Sys2Proof.Machine

/-- An arbiter at first power-up (R347). -/
def arbInit : Arbiter where
  lfsr := 0
  seeded := false
  wait := []
  grants := []
  lastForced := 0xFFFF
  lastWinner := 0xFFFF
  forced := 0
  decisions := 0

/-- One LFSR step, in Fibonacci form, shifting left (R347). -/
def lfsrStep (x : BitVec 32) : BitVec 32 :=
  let f := x.getLsbD 31 ^^ (x.getLsbD 21 ^^ (x.getLsbD 1 ^^ x.getLsbD 0))
  (x <<< 1) ||| (if f then 1 else 0)

/-- `n` LFSR steps. -/
def lfsrRun : Nat → BitVec 32 → BitVec 32
  | 0, x => x
  | n + 1, x => lfsrRun n (lfsrStep x)

/-- A draw advances the LFSR by 32 steps (R347). -/
def lfsrDraw (x : BitVec 32) : BitVec 32 := lfsrRun 32 x

/-- The first of `l` (ascending) after `last`, wrapping around. -/
def firstAfter (l : List Nat) (last : Nat) : Option Nat :=
  match l.find? (fun r => decide (last < r)) with
  | some r => some r
  | none => l.head?

/-- The owner of `r` among contestants whose ranges are as wide as their tickets (R345, step 2). -/
def ticketOwner (tk : Nat → Nat) : List Nat → Nat → Option Nat
  | [], _ => none
  | c :: cs, r => if r < tk c then some c else ticketOwner tk cs (r - tk c)

/-- Tickets and wait limit of a requester under the current turn (R319, R348). -/
def arbTickets (kc : Keycut) (a r : Nat) : Nat × Nat :=
  if 0x100 ≤ a then
    let e := (a - 0x100) % 9
    let n := if e < 4 then 0 else e - 3
    (kcSeatTickets kc r n, kcSeatWlim kc r n)
  else kcArb kc a r

/-- Whether a number names an arbiter and a requester of it (R348). -/
def arbValid (a r : Nat) : Bool :=
  if a < 0x40 then decide (r ≤ 0x100)
  else if 0x60 ≤ a ∧ a < 0x64 then decide (r < 3)
  else if 0x80 ≤ a ∧ a < 0xC0 then decide (r < 2)
  else if 0x100 ≤ a ∧ a < 0x190 then decide (r < 0x100)
  else false

/-- An arbiter. -/
def arb (s : State) (a : Nat) : Arbiter := tget arbInit s.arbs a

/-- The numbers of all arbiters (R348). -/
def arbNums : List Nat :=
  List.range 0x40 ++ (List.range 4).map (0x60 + ·) ++ (List.range 64).map (0x80 + ·) ++ (List.range 144).map (0x100 + ·)

/-- A decision among contestants in ascending order: the winner and the arbiter afterwards (R345). `tk` gives
tickets and limit. -/
def decideArb (x : Arbiter) (tk : Nat → Nat × Nat) (cs : List Nat) : Option Nat × Arbiter :=
  let atLimit := cs.filter (fun c => decide ((tk c).2 ≤ tget 0 x.wait c))
  let total := (cs.map (fun c => (tk c).1)).foldl (· + ·) 0
  let drawn := lfsrDraw x.lfsr
  let step1 := firstAfter atLimit x.lastForced
  let useDraw := step1.isNone && x.seeded && decide (0 < total)
  let win := match step1 with
    | some w => some w
    | none =>
      if useDraw then ticketOwner (fun c => (tk c).1) cs (drawn.toNat * total / 2 ^ 32)
      else firstAfter cs x.lastWinner
  match win with
  | none => (none, x)
  | some w =>
    (some w, { x with
      lfsr := if useDraw then drawn else x.lfsr
      wait := cs.foldl (fun t c => tset 0 t c (if c = w then 0 else satAdd (tk c).2 (tget 0 t c) 1)) x.wait
      grants := tset 0 x.grants w ((tget 0 x.grants w + 1) % 2 ^ 32)
      lastForced := if step1.isSome then w else x.lastForced
      lastWinner := w
      forced := if step1.isSome then (x.forced + 1) % 2 ^ 16 else x.forced
      decisions := (x.decisions + 1) % 2 ^ 32 })

/-- A decision of arbiter `a`, stored. -/
def drawArb (s : State) (a : Nat) (cs : List Nat) : Option Nat × State :=
  let r := decideArb (arb s a) (arbTickets s.kc a) cs
  (r.1, { s with arbs := tset arbInit s.arbs a r.2 })

/-- A nonzero 32-bit seed from the TRNG; a draw of all zeros is replaced (R347), and `fuel` bounds the draws. -/
def seedDraw (s : State) : Nat → BitVec 32 × State
  | 0 => (1, s)
  | n + 1 =>
    let r := trngBytes s 4
    let v := BitVec.ofNat 32 (leNat r.1)
    if v = 0 then seedDraw r.2 n else (v, r.2)

/-- Every arbiter seeded after the TRNG's start-up health test (R347). -/
def seedArbiters (s : State) : State :=
  let s := arbNums.foldl (fun s a =>
    let r := seedDraw s 64
    { r.2 with arbs := tset arbInit r.2.arbs a { arb r.2 a with lfsr := r.1, seeded := true } }) s
  { s with seeded := true }

/-- Arbiters decide by rotation again, as from power-up and from a wake (R347). -/
def unseedArbiters (s : State) : State :=
  { s with
    arbs := s.arbs.foldl (fun t kv => tset arbInit t kv.1 { kv.2 with seeded := false }) s.arbs
    seeded := false }

end Sys2Proof.Machine
end

