-- ==== Sys2Proof/Machine/Flags.lean ====
section
/-! DEFINITION. What the digit units compute on trains of N digits, with their carries, edges and sticky bits
(R75 to R104), and the relations of compare and branch (R86, R109). Operands are numbers below 16^N. -/

namespace Sys2Proof.Machine

/-- The low `n` digits of a word as a number (R77). -/
def train (n : Nat) (w : Word) : Nat := w.toNat % 16 ^ n

/-- The signed reading of an N-digit train (R77). -/
def strain (n : Nat) (w : Word) : Int := signedOf (4 * n) w.toNat

/-- A signed value as an N-digit train. -/
def toTrain (n : Nat) (i : Int) : Nat := (i % ((16 ^ n : Nat) : Int)).toNat

/-- The results of one operation: the result ports it writes and the sticky bit that its issue sets. -/
structure UnitRes where
  writes : List (Nat × Word)
  sticky : Option Nat
  deriving DecidableEq, Repr

/-! ### Add and subtract (R82, R91) -/

/-- An add-unit result: the low N digits and the carry or borrow. -/
def addRes (n sum : Nat) (co : Bool) (st : Option Nat) : UnitRes :=
  { writes := [(0x088, w64 (sum % 16 ^ n)), (0x089, w64 (b2n co))], sticky := st }

/-- add.t, adc.t: `ci` is 0 for add.t. -/
def addUnit (n a v ci : Nat) : UnitRes := addRes n (a + v + ci) (decide (16 ^ n ≤ a + v + ci)) none

/-- sub.t, sbb.t: `bi` is 0 for sub.t. -/
def subUnit (n a v bi : Nat) : UnitRes := addRes n (a + 2 * 16 ^ n - v - bi) (decide (a < v + bi)) none

/-- neg.t: carries unless the value is 0, and overflows for the most negative value. -/
def negUnit (n v : Nat) : UnitRes :=
  addRes n (16 ^ n - v) (decide (v ≠ 0)) (if v = 16 ^ n / 2 then some 16 else none)

/-! ### Logic (R84) -/

/-- A logic-unit result on N digits. -/
def logicUnit (n r : Nat) : UnitRes := { writes := [(0x098, w64 (r % 16 ^ n))], sticky := none }

/-! ### Shift and rotate (R85) -/

/-- A shift-unit result. -/
def shiftRes (n r : Nat) : UnitRes := { writes := [(0x0A8, w64 (r % 16 ^ n))], sticky := none }
/-- shl.t. -/
def shlUnit (n x c : Nat) : UnitRes := shiftRes n (if c < 4 * n then x <<< c else 0)
/-- shr.t. -/
def shrUnit (n x c : Nat) : UnitRes := shiftRes n (if c < 4 * n then x >>> c else 0)
/-- sar.t. -/
def sarUnit (n x c : Nat) : UnitRes :=
  shiftRes n (toTrain n ((signedOf (4 * n) x) / ((2 ^ (if c < 4 * n then c else 4 * n) : Nat) : Int)))
/-- rol.t. -/
def rolUnit (n x c : Nat) : UnitRes :=
  let k := c % (4 * n)
  shiftRes n ((x <<< k) ||| (x >>> (4 * n - k)))
/-- ror.t. -/
def rorUnit (n x c : Nat) : UnitRes :=
  let k := c % (4 * n)
  shiftRes n ((x >>> k) ||| (x <<< (4 * n - k)))

/-! ### Compare (R86) -/

/-- cmp.r of a relation. -/
def cmpRes (b : Bool) : UnitRes := { writes := [(0x0B8, w64 (b2n b))], sticky := none }

/-! ### Decimal (R88 to R91) -/

/-- BCD addition digit by digit from the lowest: digits, the carry out of the last position, and whether a digit
was above 9. A position with such a digit gives #F and passes no carry (R89). -/
def daddDigits : Nat → Nat → Nat → Nat → Nat × Nat × Bool
  | 0, _, _, c => (0, c, false)
  | k + 1, a, v, c =>
    let x := a % 16
    let y := v % 16
    if 9 < x ∨ 9 < y then
      let r := daddDigits k (a / 16) (v / 16) 0
      (15 + 16 * r.1, (if k = 0 then 0 else r.2.1), true)
    else
      let t := x + y + c
      let r := daddDigits k (a / 16) (v / 16) (t / 10)
      (t % 10 + 16 * r.1, r.2.1, r.2.2)

/-- BCD subtraction digit by digit. -/
def dsubDigits : Nat → Nat → Nat → Nat → Nat × Nat × Bool
  | 0, _, _, b => (0, b, false)
  | k + 1, a, v, b =>
    let x := a % 16
    let y := v % 16
    if 9 < x ∨ 9 < y then
      let r := dsubDigits k (a / 16) (v / 16) 0
      (15 + 16 * r.1, (if k = 0 then 0 else r.2.1), true)
    else
      let r := dsubDigits k (a / 16) (v / 16) (if x < y + b then 1 else 0)
      ((x + 10 - y - b) % 10 + 16 * r.1, r.2.1, r.2.2)

/-- A decimal-unit result. -/
def decRes (r co : Nat) (st : Option Nat) : UnitRes := { writes := [(0x0C8, w64 r), (0x0C9, w64 co)], sticky := st }

/-- dadd.t. -/
def daddUnit (n a v : Nat) : UnitRes :=
  let r := daddDigits n a v 0
  decRes r.1 r.2.1 (if r.2.2 then some 18 else none)
/-- dsub.t. -/
def dsubUnit (n a v : Nat) : UnitRes :=
  let r := dsubDigits n a v 0
  decRes r.1 r.2.1 (if r.2.2 then some 18 else none)

/-- dchk.t: #F where a digit is above 9. -/
def dchkDigits : Nat → Nat → Nat
  | 0, _ => 0
  | k + 1, v => (if 9 < v % 16 then 15 else 0) + 16 * dchkDigits k (v / 16)
/-- Whether any of the low `k` digits is above 9. -/
def anyBad : Nat → Nat → Bool
  | 0, _ => false
  | k + 1, v => decide (9 < v % 16) || anyBad k (v / 16)
/-- dchk.t. -/
def dchkUnit (n v : Nat) : UnitRes := decRes (dchkDigits n v) (b2n (anyBad n v)) none

/-- The value of `k` BCD digits. -/
def bcdValue : Nat → Nat → Nat
  | 0, _ => 0
  | k + 1, v => v % 16 + 10 * bcdValue k (v / 16)
/-- `k` BCD digits of a value. -/
def bcdOf : Nat → Nat → Nat
  | 0, _ => 0
  | k + 1, v => v % 10 + 16 * bcdOf k (v / 10)
/-- dcvt.t. -/
def dcvtUnit (n v : Nat) : UnitRes :=
  if anyBad n v then decRes (16 ^ 16 - 1) 0 (some 18) else decRes (bcdValue n v) 0 none
/-- bcvt.t. -/
def bcvtUnit (v : Nat) : UnitRes := decRes (bcdOf 16 v) 0 (if 10 ^ 16 ≤ v then some 16 else none)

/-! ### Multiply and divide (R95, R99, R91) -/

/-- The low 16 digits and the digits 16 to 31 of a product taken modulo 16^(2N) (R95). -/
def mulParts (n : Nat) (p : Nat) : Word × Word :=
  let q := p % 16 ^ (2 * n)
  (w64 (q % 16 ^ 16), w64 (q / 16 ^ 16))
/-- mul.t. -/
def mulUnsigned (n : Nat) (a v : Word) : Word × Word := mulParts n (train n a * train n v)
/-- muls.t. -/
def mulSigned (n : Nat) (a v : Word) : Word × Word := mulParts n (toTrain (2 * n) (strain n a * strain n v))

/-- A divider result. -/
def divRes (q r : Nat) (st : Option Nat) : UnitRes := { writes := [(0x0E8, w64 q), (0x0E9, w64 r)], sticky := st }
/-- div.t. -/
def divUnit (n a v : Nat) : UnitRes :=
  if v = 0 then divRes (16 ^ n - 1) a (some 17) else divRes (a / v) (a % v) none
/-- divs.t: truncation toward zero, the remainder with the dividend's sign. -/
def divsUnit (n : Nat) (a v : Word) : UnitRes :=
  let x := strain n a
  let y := strain n v
  if y = 0 then divRes (16 ^ n - 1) (train n a) (some 17)
  else if x = -((16 ^ n / 2 : Nat) : Int) ∧ y = -1 then divRes (16 ^ n / 2) 0 (some 16)
  else divRes (toTrain n (x.tdiv y)) (toTrain n (x.tmod y)) none

/-- Significant digits of a magnitude (R100). -/
def sigDigits : Nat → Nat → Nat
  | 0, _ => 0
  | k + 1, v => if v = 0 then 0 else 1 + sigDigits k (v / 16)

/-- Divider steps (R100). -/
def divSteps (level signed : Bool) (n : Nat) (a v : Word) : Nat :=
  if level then n
  else
    let x := if signed then (strain n a).natAbs else train n a
    let y := if signed then (strain n v).natAbs else train n v
    if y = 0 then 1
    else if signed && decide (strain n a = -((16 ^ n / 2 : Nat) : Int)) && decide (strain n v = -1) then 1
    else max 1 (sigDigits 17 x + 1 - sigDigits 17 y)

/-! ### Sticky bits (R91 to R94) -/

/-- The cause of an arithmetic fault for a sticky bit (R94). -/
def stickyCause (b : Nat) : Nat := 0x10 + (b - 16)

/-! ### Relations of the branch unit (R109) -/

/-- The relation of a compare-and-branch trigger port on N-digit trains. -/
def cbRelation (p n : Nat) (a v : Word) : Bool :=
  if p = 0x104 then train n a == train n v
  else if p = 0x105 then train n a != train n v
  else if p = 0x106 then decide (strain n a < strain n v)
  else if p = 0x107 then decide (strain n v ≤ strain n a)
  else if p = 0x108 then decide (train n a < train n v)
  else decide (train n v ≤ train n a)

/-- The compare-unit relation of a trigger port (R86). -/
def cmpRelation (p n : Nat) (a v : Word) : Bool :=
  if p = 0x0B1 then train n a == train n v
  else if p = 0x0B2 then decide (strain n a < strain n v)
  else if p = 0x0B3 then decide (train n a < train n v)
  else if p = 0x0B4 then decide (strain n a ≤ strain n v)
  else decide (train n a ≤ train n v)

end Sys2Proof.Machine
end

