-- ==== Sys2Proof/Machine/Translate.lean ====
section
/-! DEFINITION. Address translation (R199 to R209): page-table walks, the owner rule, TLBs, and the accesses of
threads, engines and DMA engines. -/

namespace Sys2Proof.Machine

/-- Who makes an access: what it may reach differs (R166, R180, R203). -/
inductive Who where
  | thread | engine | dma
  deriving DecidableEq, Repr

/-- The outcome of translating one page: a physical address with the level of its leaf, no TLB entry, or a
translation fault with DETAIL and LEVEL (R209, R210). -/
inductive Xl where
  | ok (pa level : Nat)
  | miss
  | fault (detail level : Nat)
  deriving DecidableEq, Repr

/-- The outcome of an access of several digits: its physical pieces, the page whose translation is missing, or
the fault of its lower faulting page (R168, R218). -/
inductive Acc where
  | ok (ps : Pieces)
  | miss (va : Nat)
  | fault (va detail level : Nat)
  deriving DecidableEq, Repr

/-- Life-cycle state LOCKED. -/
def locked (s : State) : Bool := s.fuses.lcs == 7

/-- The owner rule for one 4 KiB page (R203): none when it passes, else OWNER (#4) or SPACE (#7). -/
def ownerRule4K (kc : Keycut) (p pa : Nat) : Option Nat :=
  if isDram pa then (if kcGran kc (pa / 4194304) = p then none else some 4)
  else if isScratch pa then (if kcScratch kc ((pa - scratchBase) / 8192) = p then none else some 4)
  else if isCtl pa then none
  else some 7

/-- The owner rule for a 2 MiB leaf: the whole 2 MiB must pass (R203). -/
def ownerRule2M (kc : Keycut) (p pa : Nat) : Option Nat :=
  if isScratch pa then
    (if (List.range 512).all (fun i => kcScratch kc ((pa - scratchBase) / 8192 + i) == p) then none else some 4)
  else ownerRule4K kc p pa

/-- A level-1 to level-4 entry that is valid obeys R201. -/
def entryOk (e : Word) (level : Nat) : Bool :=
  let l := fbit e 1
  fld e 55 44 == 0 && fld e 12 5 == 0 &&
    (if level = 1 then l else if level = 2 then true else !l) &&
    (if l then (level != 2 || fld e 21 13 == 0) else (!fbit e 2 && !fbit e 3 && !fbit e 4))

/-- The walk below an entry at address `ea` of level `lv` (R202); `fuel` bounds the levels. -/
def walkFrom (s : State) (p va : Nat) : Nat → Nat → Except (Nat × Nat) TlbEntry
  | 0, _ => .error (3, 0)
  | lv + 1, ea =>
    let level := lv + 1
    if poisoned s [(ea, 16)] then .error (6, level)
    else
      let e := w64 (digitsNat (readDigits s ea 16))
      if !fbit e 0 then .error (1, level)
      else if !entryOk e level then .error (3, level)
      else
        let pa := fld e 43 13 * 8192
        if fbit e 1 then
          match (if level = 2 then ownerRule2M s.kc p pa else ownerRule4K s.kc p pa) with
          | some d => .error (d, level)
          | none =>
            let x := fbit e 4
            let lk := locked s && x
            .ok {
              part := p, vbase := if level = 2 then va / 4194304 * 4194304 else va / 8192 * 8192,
              large := level == 2, pbase := pa, x := x, w := fbit e 3 && !lk, r := fbit e 2 && !lk }
        else if isDram pa && kcGran s.kc (pa / 4194304) == p then
          walkFrom s p va lv (pa + 16 * bitsOf va (9 * lv + 12) (9 * lv + 4))
        else .error (4, level)

/-- A page-table walk of partition `p` for `va` (R200, R202). -/
def walk (s : State) (p va : Nat) : Except (Nat × Nat) TlbEntry :=
  let root := regGet s .cylPtroot p
  let tops := fld root 3 0
  let i4 := bitsOf va 55 40
  if 512 * 2 ^ tops ≤ i4 then .error (5, 4)
  else
    let base := fld root 43 13 * 8192
    let base := base / (8192 * 2 ^ tops) * (8192 * 2 ^ tops)
    let ea := base + 16 * i4
    if isDram ea && kcGran s.kc (ea / 4194304) == p then walkFrom s p va 4 ea else .error (4, 4)

/-- A TLB entry that maps `va` for partition `p` (R206). -/
def tlbHit (p va : Nat) (e : TlbEntry) : Bool :=
  e.part == p && (if e.large then e.vbase == va / 4194304 * 4194304 else e.vbase == va / 8192 * 8192)

/-- Lookup in a TLB. -/
def tlbFind (l : List TlbEntry) (p va : Nat) : Option TlbEntry := l.find? (tlbHit p va)

/-- A TLB after a use: the entry stands first, and the least recently used goes when `cap` is exceeded (R206: the
specification says pseudo-LRU; DESIGN CHOICE). -/
def tlbPut (cap : Nat) (l : List TlbEntry) (e : TlbEntry) : List TlbEntry :=
  (e :: l.filter (fun x => !tlbHit e.part e.vbase x)).take cap

/-- Whether an entry grants an access: 1 fetch, 2 read, 3 write, 4 atomic (R202). -/
def grants (e : TlbEntry) (acc : Nat) : Bool :=
  if acc = 1 then e.x else if acc = 2 then e.r else if acc = 3 then e.w else e.r && e.w

/-- The address and level that an entry gives, or PERM (R202). -/
def useEntry (e : TlbEntry) (va acc : Nat) : Xl :=
  let level := if e.large then 2 else 1
  if grants e acc then .ok (e.pbase + va % (if e.large then 4194304 else 8192)) level else .fault 2 level

/-- Flat mode (R199): every fault has level 0. -/
def flatXlate (s : State) (p va : Nat) : Xl :=
  if 0x100000000000 ≤ va then .fault 5 0
  else match ownerRule4K s.kc p va with
    | some d => .fault d 0
    | none => .ok va 0

/-- CYL_PTROOT.EN. -/
def xlOn (s : State) (p : Nat) : Bool := fbit (regGet s .cylPtroot p) 4

/-- The TLB entry a thread's access uses: its cylinder's, else its keyring's. -/
def thrTlb (s : State) (t p va acc : Nat) : Option TlbEntry :=
  let c := cyl s (cylOf t)
  match tlbFind (if acc = 1 then c.itlb else c.dtlb) p va with
  | some e => some e
  | none => tlbFind (kring s (krOf t)).tlb p va

/-- Translation of one page for a thread (R205, R206). -/
def thrXlate (s : State) (t va acc : Nat) : Xl :=
  let p := (thr s t).part
  if xlOn s p then
    match thrTlb s t p va acc with
    | some e => useEntry e va acc
    | none => .miss
  else flatXlate s p va

/-- Translation of one page for a device unit of keyring `k`: the keyring's TLB, else a walk at once. -/
def devXlate (s : State) (tlb : List TlbEntry) (p va acc : Nat) : Xl :=
  if xlOn s p then
    match tlbFind tlb p va with
    | some e => useEntry e va acc
    | none =>
      match walk s p va with
      | .error (d, l) => .fault d l
      | .ok e => useEntry e va acc
  else flatXlate s p va

/-- What the accessing agent may reach at a translated address (R166, R167, R177, R180). -/
def reach (who : Who) (acc pa n : Nat) (whole : Bool) : Bool :=
  if isDram pa then true
  else if isScratch pa then who != .dma && acc != 1
  else if isCtl pa then who == .thread && acc != 1 && acc != 4 && whole && n == 16 && pa % 16 == 0 && (regAt pa).isSome
  else false

/-- One page of an access: its piece, or the miss or fault. -/
def onePage (x : Xl) (who : Who) (acc va n : Nat) (whole : Bool) : Acc :=
  match x with
  | .miss => .miss va
  | .fault d l => .fault va d l
  | .ok pa l => if reach who acc pa n whole then .ok [(pa, n)] else .fault va 7 l

/-- An access of `n` digits at `va`: both pages are checked before either part is performed (R168), and the lower
page is reported first (R218). -/
def splitAccess (f : Nat → Xl) (who : Who) (acc va n : Nat) : Acc :=
  let n1 := 8192 - va % 8192
  if n ≤ n1 then onePage (f va) who acc va n true
  else
    let va2 := (va + n1) % 2 ^ 56
    match onePage (f va) who acc va n1 false with
    | .ok p1 =>
      match onePage (f va2) who acc va2 (n - n1) false with
      | .ok p2 => .ok (p1 ++ p2)
      | r => r
    | r => r

/-- A thread's access. -/
def thrAccess (s : State) (t va n acc : Nat) : Acc := splitAccess (fun a => thrXlate s t a acc) .thread acc va n

/-- An access of many pages by a device unit: every page in ascending order; `fuel` bounds the pages. -/
def devPages (f : Nat → Xl) (who : Who) (acc : Nat) : Nat → Nat → Nat → Acc
  | 0, _, _ => .ok []
  | fuel + 1, va, n =>
    if n = 0 then .ok []
    else
      let n1 := min n (8192 - va % 8192)
      match onePage (f (va % 2 ^ 56)) who acc (va % 2 ^ 56) n1 false with
      | .ok p1 =>
        match devPages f who acc fuel (va + n1) (n - n1) with
        | .ok ps => .ok (p1 ++ ps)
        | r => r
      | r => r

/-- An engine's or device unit's access for a partition through a keyring's TLB. -/
def devAccess (s : State) (k p va n acc : Nat) : Acc :=
  devPages (fun a => devXlate s (kring s k).tlb p a acc) .engine acc (n / 8192 + 2) va n

/-- A device unit's access on behalf of a partition, by walks alone. -/
def unitAccess (s : State) (p va n acc : Nat) : Acc :=
  devPages (fun a => devXlate s [] p a acc) .engine acc (n / 8192 + 2) va n

/-- The pieces of an access that succeeds. -/
def accOk : Acc → Option Pieces
  | .ok ps => some ps
  | _ => none

/-! ### TLB maintenance -/

/-- A thread's use of a page fills its cylinder's TLB (R206). -/
def tlbUse (s : State) (t va acc : Nat) : State :=
  let p := (thr s t).part
  match thrTlb s t p va acc with
  | none => s
  | some e =>
    modCyl s (cylOf t) (fun c =>
      if acc = 1 then { c with itlb := tlbPut 32 c.itlb e } else { c with dtlb := tlbPut 64 c.dtlb e })

/-- A walk's entry installed in the keyring's TLB and in the cylinder's (R205). -/
def tlbInstall (s : State) (t acc : Nat) (e : TlbEntry) : State :=
  let s := modKr s (krOf t) (fun k => { k with tlb := tlbPut 2048 k.tlb e })
  modCyl s (cylOf t) (fun c =>
    if acc = 1 then { c with itlb := tlbPut 32 c.itlb e } else { c with dtlb := tlbPut 64 c.dtlb e })

/-- Entries for which `f` holds removed from every TLB of the die (R207, R208). -/
def tlbDrop (s : State) (f : TlbEntry → Bool) : State :=
  { s with
    cyls := s.cyls.foldl (fun r kv => tset cylInit r kv.1 { kv.2 with
      itlb := kv.2.itlb.filter (fun e => !f e), dtlb := kv.2.dtlb.filter (fun e => !f e) }) s.cyls
    krs := s.krs.foldl (fun r kv => tset krInit r kv.1 { kv.2 with tlb := kv.2.tlb.filter (fun e => !f e) }) s.krs
    dmaTlb := s.dmaTlb.foldl (fun r kv => tset [] r kv.1 (kv.2.filter (fun e => !f e))) s.dmaTlb }

/-! ### Caches (R169 to R174) -/

/-- The way that tree pseudo-LRU points at among the ways `ok` of a set of 2^`depth` ways; `node` counts from 1. -/
def plruPick (tree : Nat) (ok : Nat → Bool) : Nat → Nat → Nat → Nat
  | 0, _, base => base
  | d + 1, node, base =>
    let half := 2 ^ d
    let lowOk := (List.range half).any (fun i => ok (base + i))
    let highOk := (List.range half).any (fun i => ok (base + half + i))
    let high := if !lowOk then true else if !highOk then false else tree.testBit node
    if high then plruPick tree ok d (2 * node + 1) (base + half) else plruPick tree ok d (2 * node) base

/-- The tree after a use of way `w`: every node on its path points away from it. -/
def plruUse (w : Nat) : Nat → Nat → Nat → Nat → Nat
  | tree, 0, _, _ => tree
  | tree, d + 1, node, base =>
    let half := 2 ^ d
    if base + half ≤ w then
      plruUse w (if tree.testBit node then tree - 2 ^ node else tree) d (2 * node + 1) (base + half)
    else plruUse w (if tree.testBit node then tree else tree + 2 ^ node) d (2 * node) base

/-- A use of a line in a set: a hit only of the partition's own line, else the other partition's copy goes and a
line is filled into an allowed way (R169, R171, R173). -/
def setUse (depth : Nat) (ok : Nat → Bool) (c : CSet) (line part : Nat) (dirty : Bool) : CSet :=
  match c.lines.find? (fun x => x.line == line && x.part == part) with
  | some h =>
    { lines := c.lines.map (fun x => if x = h then { x with dirty := x.dirty || dirty } else x),
      tree := plruUse h.way c.tree depth 1 0 }
  | none =>
    if (List.range (2 ^ depth)).any ok then
      let ls := c.lines.filter (fun x => x.line != line)
      let w := match (List.range (2 ^ depth)).find? (fun w => ok w && ls.all (fun x => x.way != w)) with
        | some w => w
        | none => plruPick c.tree ok depth 1 0
      { lines := ls.filter (fun x => x.way != w) ++ [{ way := w, line := line, part := part, dirty := dirty }],
        tree := plruUse w c.tree depth 1 0 }
    else c

/-- An empty set. -/
def csetInit : CSet := { lines := [], tree := 0 }

/-- The ways of keyring store `k` that partition `p` may fill (R173, R477). -/
def storeWay (s : State) (k p w : Nat) : Bool :=
  let o := kcWay s.kc k w
  (if kcSealed s.kc p then o == p else o == nobody) && !((kring s k).retiredWays.contains w) && !probing s 3 (16 * k + w)

/-- A use of a DRAM line in a keyring store; a copy under another partition's number leaves every cylinder cache. -/
def storeUse (s : State) (k line part : Nat) (dirty : Bool) : State :=
  modKr s k (fun x => { x with
    store := tmod csetInit x.store (line % 4096) (fun c => setUse 4 (storeWay s k part) c line part dirty) })

/-- A load's line used in a cylinder's data cache and its keyring store (R169). -/
def cacheLoad (s : State) (t line : Nat) : State :=
  if isDram (128 * line) then
    let p := (thr s t).part
    let s := storeUse s (krOf t) line p false
    modCyl s (cylOf t) (fun c => { c with
      dcache := tmod csetInit c.dcache (line % 64) (fun x => setUse 3 (fun _ => true) x line p false) })
  else s

/-- A fetch's line used in a cylinder's instruction cache and its keyring store (R169). -/
def cacheFetch (s : State) (t line : Nat) : State :=
  let p := (thr s t).part
  let s := storeUse s (krOf t) line p false
  modCyl s (cylOf t) (fun c => { c with
    icache := tmod csetInit c.icache (line % 64) (fun x => setUse 3 (fun _ => true) x line p false) })

/-- A store's line: write-through past the data cache, allocated dirty in the keyring store (R169). -/
def cacheStore (s : State) (t line : Nat) : State :=
  if isDram (128 * line) then storeUse s (krOf t) line (thr s t).part true else s

end Sys2Proof.Machine
end

