-- ==== Sys2Proof/Machine/Operands.lean ====
section
/-! DEFINITION. Instruction words and ports: the long move and the short pair (R54 to R66), what each port is
(R69), its value when read and what a write leaves in it (R67, R68, R76), and when a word is not ready. -/

namespace Sys2Proof.Machine

/-! ### Words (R57 to R64) -/

/-- The source of a move: a port, a long immediate (16 bits), or a short immediate (−32 to +31, as a word). -/
inductive Source where
  | port (p : Nat)
  | imm (n : Nat)
  | short (v : Word)
  deriving DecidableEq, Repr

/-- One move: its width in digits, its destination port and its source. -/
structure Mv where
  w : Nat
  dst : Nat
  src : Source
  deriving DecidableEq, Repr

/-- A word: a long move with its guard (bit and polarity GP), or a short pair with its reserved bit. -/
inductive WordForm where
  | long (guard : Option (Nat × Bool)) (m : Mv)
  | pair (a b : Mv) (bit0 : Bool)
  deriving DecidableEq, Repr

/-- The short window, 32 to 63 (R64). -/
def shortWindow : List Nat :=
  [0x080, 0x081, 0x082, 0x090, 0x091, 0x092, 0x093, 0x0A0, 0x0A1, 0x0A2, 0x0B0, 0x0B1, 0x0B2, 0x0D0, 0x0D1, 0x0E0,
   0x0E1, 0x102, 0x101, 0x104, 0x105, 0x106, 0x107, 0x10D, 0x144, 0x145, 0x140, 0x141, 0x153, 0x11A, 0x040, 0x041]

/-- A short move of 15 bits (R62 to R64). -/
def shortMove (n : Nat) : Mv where
  w := nth 16 [1, 4, 8, 16] (bitsOf n 14 13)
  dst := if bitsOf n 12 7 < 32 then bitsOf n 12 7 else nth 0 shortWindow (bitsOf n 12 7 - 32)
  src := if bitsOf n 6 0 < 64 then .port (bitsOf n 6 0) else .short (BitVec.ofInt 64 ((bitsOf n 6 0 : Nat) - 96))

/-- An instruction word (R54, R57, R62). -/
def decodeWord (n : Nat) : WordForm :=
  if n.testBit 31 then .pair (shortMove (bitsOf n 30 16)) (shortMove (bitsOf n 15 1)) (n.testBit 0)
  else if n.testBit 16 then .long none { w := bitsOf n 30 27 + 1, dst := bitsOf n 26 17, src := .imm (bitsOf n 15 0) }
  else
    .long (if n.testBit 15 then some (bitsOf n 13 10, n.testBit 14) else none)
      { w := bitsOf n 30 27 + 1, dst := bitsOf n 26 17, src := .port (bitsOf n 9 0) }

/-- The moves of a word. -/
def movesOf : WordForm → List Mv
  | .long _ m => [m]
  | .pair a b _ => [a, b]

/-! ### The port map (R69) -/

/-- A port: its width in digits (16 for "train"), its direction (bit 0 writable, bit 1 readable), and its trigger
column: 0 none, 1 starts, 2 acts. -/
structure PortInfo where
  width : Nat
  dir : Nat
  trig : Nat
  deriving DecidableEq, Repr

/-- The ports of the tables of R69 that have one row each. -/
def portRows : List (Nat × PortInfo) :=
  [(0x060, ⟨3, 3, 0⟩), (0x061, ⟨1, 3, 0⟩), (0x062, ⟨3, 3, 0⟩), (0x063, ⟨1, 3, 0⟩), (0x064, ⟨3, 1, 1⟩), (0x065, ⟨1, 2, 0⟩)] ++
  [(0x080, ⟨16, 1, 0⟩), (0x081, ⟨16, 1, 1⟩), (0x082, ⟨16, 1, 1⟩), (0x083, ⟨16, 1, 1⟩), (0x084, ⟨16, 1, 1⟩), (0x085, ⟨16, 1, 1⟩),
   (0x086, ⟨1, 1, 0⟩), (0x088, ⟨16, 2, 0⟩), (0x089, ⟨1, 2, 0⟩)] ++
  [(0x090, ⟨16, 1, 0⟩), (0x091, ⟨16, 1, 1⟩), (0x092, ⟨16, 1, 1⟩), (0x093, ⟨16, 1, 1⟩), (0x094, ⟨16, 1, 1⟩), (0x095, ⟨16, 1, 1⟩),
   (0x098, ⟨16, 2, 0⟩)] ++
  [(0x0A0, ⟨16, 1, 0⟩), (0x0A1, ⟨2, 1, 1⟩), (0x0A2, ⟨2, 1, 1⟩), (0x0A3, ⟨2, 1, 1⟩), (0x0A4, ⟨2, 1, 1⟩), (0x0A5, ⟨2, 1, 1⟩),
   (0x0A8, ⟨16, 2, 0⟩)] ++
  [(0x0B0, ⟨16, 1, 0⟩), (0x0B1, ⟨16, 1, 1⟩), (0x0B2, ⟨16, 1, 1⟩), (0x0B3, ⟨16, 1, 1⟩), (0x0B4, ⟨16, 1, 1⟩), (0x0B5, ⟨16, 1, 1⟩),
   (0x0B6, ⟨2, 3, 0⟩), (0x0B8, ⟨1, 2, 0⟩)] ++
  [(0x0C0, ⟨16, 1, 0⟩), (0x0C1, ⟨16, 1, 1⟩), (0x0C2, ⟨16, 1, 1⟩), (0x0C3, ⟨16, 1, 1⟩), (0x0C4, ⟨16, 1, 1⟩), (0x0C5, ⟨16, 1, 1⟩),
   (0x0C8, ⟨16, 2, 0⟩), (0x0C9, ⟨1, 2, 0⟩)] ++
  [(0x0D0, ⟨16, 1, 0⟩), (0x0D1, ⟨16, 1, 1⟩), (0x0D2, ⟨16, 1, 1⟩), (0x0D8, ⟨16, 2, 0⟩), (0x0D9, ⟨16, 2, 0⟩)] ++
  [(0x0E0, ⟨16, 1, 0⟩), (0x0E1, ⟨16, 1, 1⟩), (0x0E2, ⟨16, 1, 1⟩), (0x0E8, ⟨16, 2, 0⟩), (0x0E9, ⟨16, 2, 0⟩)] ++
  [(0x100, ⟨14, 3, 0⟩), (0x101, ⟨8, 3, 0⟩), (0x102, ⟨16, 1, 0⟩), (0x104, ⟨16, 1, 2⟩), (0x105, ⟨16, 1, 2⟩), (0x106, ⟨16, 1, 2⟩),
   (0x107, ⟨16, 1, 2⟩), (0x108, ⟨16, 1, 2⟩), (0x109, ⟨16, 1, 2⟩), (0x10A, ⟨3, 1, 2⟩), (0x10B, ⟨3, 1, 2⟩), (0x10C, ⟨14, 1, 2⟩),
   (0x10D, ⟨8, 1, 2⟩), (0x110, ⟨4, 1, 2⟩), (0x111, ⟨1, 1, 2⟩), (0x118, ⟨2, 1, 0⟩), (0x119, ⟨8, 1, 2⟩), (0x11A, ⟨8, 3, 0⟩),
   (0x11B, ⟨2, 2, 0⟩), (0x120, ⟨1, 1, 2⟩), (0x121, ⟨1, 1, 2⟩), (0x122, ⟨1, 1, 2⟩), (0x123, ⟨2, 1, 2⟩), (0x12C, ⟨1, 1, 2⟩),
   (0x12D, ⟨1, 1, 2⟩)] ++
  [(0x140, ⟨3, 3, 0⟩), (0x141, ⟨14, 1, 1⟩), (0x142, ⟨14, 1, 1⟩), (0x144, ⟨16, 1, 0⟩), (0x145, ⟨14, 1, 1⟩), (0x146, ⟨14, 1, 1⟩),
   (0x147, ⟨1, 2, 0⟩), (0x148, ⟨16, 1, 0⟩), (0x149, ⟨16, 1, 0⟩), (0x14A, ⟨14, 1, 1⟩), (0x14B, ⟨14, 1, 1⟩), (0x14C, ⟨14, 1, 1⟩),
   (0x14F, ⟨16, 2, 0⟩), (0x150, ⟨14, 3, 0⟩), (0x151, ⟨14, 3, 0⟩), (0x152, ⟨16, 2, 0⟩), (0x153, ⟨16, 1, 2⟩)] ++
  [(0x1C0, ⟨3, 2, 0⟩), (0x1C1, ⟨2, 2, 0⟩), (0x1C2, ⟨1, 3, 0⟩), (0x1C3, ⟨14, 3, 0⟩), (0x1C4, ⟨14, 2, 0⟩), (0x1C5, ⟨14, 3, 0⟩),
   (0x1C6, ⟨2, 2, 0⟩), (0x1C7, ⟨1, 2, 0⟩), (0x1C8, ⟨16, 2, 0⟩), (0x1CF, ⟨4, 1, 0⟩)] ++
  [(0x300, ⟨1, 1, 1⟩), (0x301, ⟨1, 1, 2⟩), (0x302, ⟨2, 2, 0⟩)]

/-- The engine ports #310 + 8e to #312 + 8e, e = 0 to 8. -/
def enginePort (p : Nat) : Option PortInfo :=
  if 0x310 ≤ p ∧ p < 0x358 then
    (if p % 8 = 0 then some ⟨14, 1, 1⟩ else if p % 8 = 1 ∨ p % 8 = 2 then some ⟨4, 2, 0⟩ else none)
  else none

/-- Whether a port number is one of the blank's (R72). -/
def isBlank (p : Nat) : Bool := decide (0x380 ≤ p ∧ p ≤ 0x3BF)

/-- The blank ports of a thread by the image in force and its OWNER (R72, R336). -/
def blankInfo (s : State) (t p : Nat) : Option PortInfo :=
  match (kring s (krOf t)).blank with
  | none => none
  | some b =>
    if (kring s (krOf t)).blankRetired then none
    else if blankOwner b = nobody ∨ blankOwner b = (thr s t).part then
      (blankPort b (p - 0x380)).map (fun d => { width := if d.width = 0 then 16 else d.width, dir := d.dir, trig := d.kind })
    else none

/-- A thread's port; none is reserved (R69, R70). -/
def portInfo (s : State) (t p : Nat) : Option PortInfo :=
  if p < 0x040 then some ⟨16, 3, 0⟩
  else if p < 0x060 then some ⟨1, 3, 0⟩
  else if isBlank p then blankInfo s t p
  else if 0x300 < p ∧ (enginePort p).isSome then enginePort p
  else alook portRows p

/-- A port's direction. -/
def portDir (s : State) (t p : Nat) : Nat := match portInfo s t p with | some i => i.dir | none => 0

/-- A port whose move triggers a unit or acts. -/
def isTrigger (s : State) (t p : Nat) : Bool := ((portInfo s t p).map (·.trig)).getD 0 != 0

/-- The unit a port belongs to for the PAIR rule (R66). -/
def pairUnit (p : Nat) : Nat :=
  if p < 0x080 then p
  else if p < 0x0E0 then 0x1000 + p / 16
  else if p < 0x100 then 0x2000
  else if p < 0x140 then 0x2001
  else if p < 0x1C0 then 0x2002
  else if p < 0x300 then p
  else if p < 0x310 then 0x2003
  else if p < 0x380 then 0x3000 + (p - 0x310) / 8
  else 0x2004

/-- The faults that a word's encoding alone raises, lowest code first (R66, R68, R70, R71). -/
def encFault (s : State) (t : Nat) (f : WordForm) : Option Nat :=
  let ms := movesOf f
  let named := ms.flatMap (fun m => m.dst :: (match m.src with | .port p => [p] | _ => []))
  if named.any (fun p => (portInfo s t p).isNone) then some 1
  else if ms.any (fun m => !(portDir s t m.dst).testBit 0 ||
      (match m.src with | .port p => !(portDir s t p).testBit 1 | _ => false)) then some 2
  else match f with
    | .long _ _ => none
    | .pair a b z =>
      if a.dst = b.dst ∨ (isTrigger s t a.dst && isTrigger s t b.dst && pairUnit a.dst == pairUnit b.dst) then some 3
      else if z then some 4 else none

/-! ### Values of ports -/

/-- The stored value of a port. -/
def port (a : Arch) (p : Nat) : Word := tget (portReset p) a.ports p
/-- A port's stored value set; a write clears its poison (R479). -/
def setPort (a : Arch) (p : Nat) (v : Word) : Arch :=
  { a with ports := tset (portReset p) a.ports p v, poison := a.poison.filter (· != p) }
/-- A general register. -/
def greg (a : Arch) (i : Nat) : Word := tget 0 a.g i
/-- A general register set whole (R76). -/
def setG (a : Arch) (i : Nat) (v : Word) : Arch := { a with g := tset 0 a.g i v, poison := a.poison.filter (· != i) }
/-- A thread bit. -/
def tbit (a : Arch) (i : Nat) : Bool := tget false a.bits i
/-- The port number under which a thread bit is poisoned: b0 to b31 have ports, the rest do not. -/
def bitPort (i : Nat) : Nat := if i < 32 then 0x40 + i else 0x400 + i
/-- A thread bit set (R148). -/
def setBit (a : Arch) (i : Nat) (b : Bool) : Arch :=
  { a with bits := tset false a.bits i b, poison := a.poison.filter (· != bitPort i) }
/-- A port or register marked poisoned or sound. -/
def setPoison (a : Arch) (p : Nat) (bad : Bool) : Arch :=
  { a with poison := if bad then p :: a.poison.filter (· != p) else a.poison.filter (· != p) }

/-- The number of stores that wait for a free store-buffer entry, one call frame counted once (R145, R175). -/
def waitingStores (th : Thread) : Nat := ((th.sbuf.drop 8).map (·.id)).eraseDups.length
/-- ts.fly (R145). -/
def flyOf (th : Thread) : Nat := th.arch.ops.length + waitingStores th

/-- rep.pos as a word that reads it sees it: the position of the word that follows (R129). -/
def repPos (a : Arch) : Nat :=
  if !a.rep.active then 0xFF
  else if a.rep.pos + 1 < a.rep.len then a.rep.pos + 1
  else if port a 0x11A = 0 then 0xFF else 0

/-- The value of an immediate at 16 digits, with the thread's imm.hi digits before it (R60, R61). -/
def immValue (a : Arch) (n : Nat) : Word :=
  let k := 4 * (a.immCnt + 1)
  BitVec.ofInt 64 (signedOf (4 * k) ((a.immAcc.toNat * 65536 + n) % 16 ^ k))

/-- The value a thread's port reads as, before it is cut to the move's width (R68, R69). -/
def portValue (s : State) (t : Nat) (a : Arch) (p : Nat) : Word :=
  let th := thr s t
  if p < 0x40 then greg a p
  else if p < 0x60 then w64 (b2n (tbit a (p - 0x40)))
  else if p = 0x061 then w64 (b2n (tbit a ((port a 0x060).toNat % 4096)))
  else if p = 0x063 then w64 (b2n (tget false (kring s (krOf t)).kbits ((port a 0x062).toNat % 4096)))
  else if p = 0x11B then w64 (repPos a)
  else if p = 0x152 then (th.strData.map (·.1)).getD 0
  else if p = 0x1C0 then w64 t
  else if p = 0x1C1 then w64 th.part
  else if p = 0x1C4 then w64 a.pc.toNat
  else if p = 0x1C7 then w64 (flyOf th)
  else if p = 0x1C8 then w64 s.now
  else port a p

/-- The value a move delivers, W digits (R58, R60, R63). -/
def mvValue (s : State) (t : Nat) (a : Arch) (m : Mv) : Word :=
  lowDigits m.w (match m.src with
    | .port p => portValue s t a p
    | .imm n => immValue a n
    | .short v => v)

/-- A value of `w` digits at a signed port of `n` digits: sign-extended when narrower (R68). -/
def signedPort (w n : Nat) (v : Word) : Word :=
  if w < n then lowDigits n (BitVec.ofInt 64 (signedOf (4 * w) v.toNat)) else lowDigits n v

/-- What a move to a port that starts nothing leaves (R61, R68, R76, R83, R107); `w` digits of value `v`. -/
def writePort (s : State) (t : Nat) (a : Arch) (p w : Nat) (v : Word) : Arch :=
  if p < 0x40 then setG a p v
  else if p < 0x60 then setBit a (p - 0x40) (v.getLsbD 0)
  else if p = 0x061 then setBit a ((port a 0x060).toNat % 4096) (v.getLsbD 0)
  else if p = 0x086 then setPort a p (lowDigits 1 v &&& 1)
  else if p = 0x0A0 then { setPort a p v with shW := w }
  else if p = 0x100 then { setPort a p (lowDigits 14 v) with tgtAbs := true }
  else if p = 0x101 then { setPort a p (signedPort w 8 v) with tgtAbs := false }
  else if p = 0x144 then { setPort a p v with stW := w }
  else if p = 0x148 then { setPort a p v with atW := w }
  else if p = 0x1C2 then setPort a p (v &&& 1)
  else if p = 0x1CF then
    { a with
      immAcc := BitVec.ofNat 48 (a.immAcc.toNat * 65536 + v.toNat % 65536),
      immCnt := min 3 (a.immCnt + 1) }
  else setPort a p (lowDigits (((portInfo s t p).map (·.width)).getD 16) v)

/-! ### Range faults (R68, R71, R149) -/

/-- Whether keyring bit `i` lies in the thread's partition's blocks (R149). -/
def kbitMine (s : State) (t i : Nat) : Bool := decide (i < 4096) && kcKbit s.kc (krOf t) i == (thr s t).part

/-- A value outside the range of the port it is moved to. -/
def badValue (s : State) (t : Nat) (a : Arch) (p : Nat) (v : Word) : Bool :=
  let n := v.toNat
  if p = 0x0B6 then decide (0x1F < n % 256) && n % 256 != 0xFF
  else if p = 0x100 ∨ p = 0x10C then n % 16 ^ 14 % 8 != 0
  else if p = 0x118 then n % 256 == 0 || decide (16 < n % 256)
  else if p = 0x123 then decide (15 < n % 256)
  else if p = 0x12D then decide (3 < n % 16)
  else if p = 0x140 then decide (0x3F < n % 256)
  else if p = 0x300 ∨ p = 0x301 then decide (8 < n % 16)
  else if p = 0x063 then !kbitMine s t (port a 0x062).toNat
  else if p = 0x064 then !kbitMine s t (n % 4096)
  else false

/-- A read that names a keyring bit outside the thread's blocks. -/
def badRead (s : State) (t : Nat) (a : Arch) (m : Mv) : Bool :=
  m.src == .port 0x063 && !kbitMine s t (port a 0x062).toNat

/-! ### Pending writes and readiness (R67, R80, R81) -/

/-- The unit whose trigger a port is (R66, R81). -/
def unitOfPort (p : Nat) : Option DUnit :=
  if 0x081 ≤ p ∧ p ≤ 0x085 then some .add
  else if 0x091 ≤ p ∧ p ≤ 0x095 then some .logic
  else if 0x0A1 ≤ p ∧ p ≤ 0x0A5 then some .shift
  else if 0x0B1 ≤ p ∧ p ≤ 0x0B5 then some .compare
  else if 0x0C1 ≤ p ∧ p ≤ 0x0C5 then some .decimal
  else if p = 0x0D1 ∨ p = 0x0D2 then some .multiply
  else if p = 0x0E1 ∨ p = 0x0E2 then some .divide
  else none

/-- The result ports that an operation will write. -/
def opPorts : OpKind → List Nat
  | .unit _ ws b => ws.map (·.1) ++ (match b with | some (i, _) => [bitPort i] | none => [])
  | .div _ _ ws _ _ _ => ws.map (·.1)
  | .mul _ _ _ _ => []
  | .branch => []
  | .ret _ regs => regs.map (·.1)
  | .load r _ _ _ _ _ => [r]
  | .strLoad _ _ _ => []
  | .stc _ _ _ _ => [0x147]
  | .atomic _ _ _ _ _ => [0x14F]
  | .tas _ => [0x065]
  | .engRsv _ => [0x302]
  | .ejob _ _ _ _ _ => []
  | .blank _ r => (match r with | some p => [p] | none => [])

/-- Whether a register, bit or result port has a pending write (R67). -/
def pending (th : Thread) (a : Arch) (p : Nat) : Bool :=
  a.ops.any (fun o => (opPorts o.kind).contains p) ||
    (decide (0x310 ≤ p ∧ p < 0x358) && p % 8 == 1 && th.jobs.contains ((p - 0x310) / 8))

/-- The register, bit or port that a port name stands for. -/
def portTarget (a : Arch) (p : Nat) : Nat := if p = 0x061 then bitPort ((port a 0x060).toNat % 4096) else p

/-- The registers of a call mask's groups (R121). -/
def maskRegs (m : Nat) : List Nat :=
  (List.range 16).flatMap (fun i => if m.testBit i then [4 * i, 4 * i + 1, 4 * i + 2, 4 * i + 3] else [])

/-- The ports that a trigger's unit takes (R479). -/
def implicitReads (a : Arch) (p : Nat) : List Nat :=
  let tgt := if a.tgtAbs then 0x100 else 0x101
  if p = 0x083 ∨ p = 0x084 then [0x080, 0x086]
  else if p = 0x081 ∨ p = 0x082 then [0x080]
  else if 0x091 ≤ p ∧ p ≤ 0x094 then [0x090]
  else if 0x0A1 ≤ p ∧ p ≤ 0x0A5 then [0x0A0]
  else if 0x0B1 ≤ p ∧ p ≤ 0x0B5 then [0x0B0, 0x0B6]
  else if p = 0x0C1 ∨ p = 0x0C2 then [0x0C0]
  else if p = 0x0D1 ∨ p = 0x0D2 then [0x0D0]
  else if p = 0x0E1 ∨ p = 0x0E2 then [0x0E0]
  else if 0x104 ≤ p ∧ p ≤ 0x109 then [0x102, tgt]
  else if p = 0x10A ∨ p = 0x10B ∨ p = 0x110 ∨ p = 0x123 then [tgt]
  else if p = 0x141 ∨ p = 0x142 then [0x140]
  else if p = 0x14A ∨ p = 0x14B then [0x148]
  else if p = 0x14C then [0x148, 0x149]
  else if p = 0x153 then [0x151]
  else if p = 0x061 then [0x060]
  else if p = 0x063 then [0x062]
  else []

/-- The ports a source read takes besides itself. -/
def sourceReads (p : Nat) : List Nat :=
  if p = 0x061 then [0x060] else if p = 0x063 then [0x062] else if p = 0x152 then [0x150] else []

/-- Every register, bit and port that a move reads: it is not ready, or it is poisoned, by them (R67, R479). -/
def readsOf (a : Arch) (m : Mv) (v : Word) : List Nat :=
  (match m.src with | .port p => portTarget a p :: sourceReads p | _ => []) ++ implicitReads a m.dst ++
    (if m.dst = 0x110 then maskRegs (v.toNat % 65536) else []) ++
    (if m.dst = 0x10A ∨ m.dst = 0x10B then [bitPort (v.toNat % 4096)] else [])

/-- The general register or bit that a move writes, which must not be pending (R67). -/
def destOf (a : Arch) (m : Mv) : List Nat :=
  if m.dst < 0x60 then [m.dst] else if m.dst = 0x061 then [portTarget a m.dst] else []

/-- Whether a move waits for a pending write (R67). A branch on a pending bit is unresolved, not held (R110). -/
def sourceStall (s : State) (t : Nat) (a : Arch) (m : Mv) : Bool :=
  let th := thr s t
  (match m.src with | .port p => pending th a (portTarget a p) | _ => false) ||
    (destOf a m).any (pending th a) ||
    (if m.dst = 0x110 then (maskRegs ((mvValue s t a m).toNat % 65536)).any (pending th a) else false)

end Sys2Proof.Machine
end

