-- ==== Sys2Proof/Machine/Seats.lean ====
section
/-! DEFINITION. How results land in a thread, and the seats and job queues of the engines (R220 to R226). -/

namespace Sys2Proof.Machine

/-! ### Landing (R117, R145) -/

/-- A change of a thread's discardable state that no discard undoes: it reaches the state the thread has and every
state a misprediction would restore. -/
def landAll (th : Thread) (f : Arch → Arch) : Thread :=
  { th with arch := f th.arch, spec := th.spec.map (fun b => { b with saved := f b.saved, along := f b.along }) }

/-- An operation completes: where it is in flight it leaves, and its results are written (R145, R117). -/
def landOp (th : Thread) (id : Nat) (f : Arch → Arch) : Thread :=
  landAll th (fun a =>
    if a.ops.any (fun o => o.id == id) then f { a with ops := a.ops.filter (fun o => o.id != id) } else a)

/-- A new operation in flight. -/
def startOp (th : Thread) (k : OpKind) : Thread :=
  { th with
    arch := { th.arch with ops := th.arch.ops ++ [{ id := th.nextOp, kind := k }] }
    nextOp := th.nextOp + 1 }

/-- Several ports written. -/
def writePorts (a : Arch) (ws : List (Nat × Word)) (bad : Bool) : Arch :=
  ws.foldl (fun a w => setPoison (setPort a w.1 w.2) w.1 bad) a

/-! ### Seats (R220 to R224) -/

/-- The kind of an engine index: AES, Keccak, lattice, big-number, decimal, DRBG. -/
def engKind (i : Nat) : Nat := if i < 4 then 0 else i - 3

/-- Whether a thread holds a seat on an engine. -/
def holdsSeat (s : State) (t e : Nat) : Bool := (eng s e).seats.any (fun x => x.tid == t && !x.ended)

/-- The seats that count toward a partition's cap (R220). -/
def seatCount (s : State) (e p : Nat) : Nat := ((eng s e).seats.filter (fun x => x.part == p)).length

/-- Whether one more seat may go to a partition. -/
def seatFree (s : State) (e p : Nat) : Bool :=
  decide ((eng s e).seats.length < 16) && decide (seatCount s e p < kcSeatCap s.kc p (engKind (e % 9)))

/-- eng.st of a thread decided (R222). -/
def decideSeat (s : State) (t e code : Nat) : State :=
  let th := thr s t
  match th.arch.ops.find? (fun o => o.kind == .engRsv e) with
  | some o => putThr s t (landOp th o.id (fun a => setPort a 0x302 (w64 code)))
  | none => putThr s t { th with arch := setPort th.arch 0x302 (w64 code) }

/-- A seat given to a thread. -/
def giveSeat (s : State) (t e : Nat) : State :=
  decideSeat (modEng s e (fun x => { x with
    seats := x.seats ++ [{ tid := t, part := (thr s t).part, ended := false, job := false }]
    waiting := x.waiting.filter (· != t) })) t e 1

/-- The partitions of a list of threads in ascending order, each once. -/
def partsOf (s : State) (ts : List Nat) : List Nat := (List.range 256).filter (fun p => ts.any (fun t => (thr s t).part == p))

/-- Free seats go to waiting requests: by lottery among partitions when more than one waits, then the oldest
request (R220); `fuel` bounds the grants. -/
def grantSeats (s : State) (e : Nat) : Nat → State
  | 0 => s
  | n + 1 =>
    let ws := (eng s e).waiting.filter (fun t => seatFree s e (thr s t).part)
    let ps := partsOf s ws
    if (eng s e).svc ≠ 1 then s
    else
      let r := match ps with
        | [] => (none, s)
        | [p] => (some p, s)
        | _ => drawArb s (0x100 + e) ps
      match r.1 with
      | none => s
      | some p =>
        match ws.find? (fun t => (thr s t).part == p) with
        | none => r.2
        | some t => grantSeats (giveSeat r.2 t e) e n

/-- eng.rsv.t (R220 to R222): refused, granted at once, or left waiting in flight. -/
def reserveSeat (s : State) (t i : Nat) : State :=
  let e := 9 * krOf t + i
  let p := (thr s t).part
  if (List.range 9).any (fun j => decide (i ≤ j) && holdsSeat s t (9 * krOf t + j)) then decideSeat s t e 2
  else if (eng s e).svc = 0 then decideSeat s t e 3
  else if kcSeatCap s.kc p (engKind i) = 0 then decideSeat s t e 4
  else if (eng s e).svc = 1 ∧ seatFree s e p then giveSeat s t e
  else
    putThr (modEng s e (fun x => { x with waiting := x.waiting ++ [t] })) t (startOp (thr s t) (.engRsv e))

/-- A thread's seat on an engine ended: it frees at once, or when its running job completes (R223). -/
def endSeat (s : State) (t e : Nat) : State :=
  if holdsSeat s t e then
    grantSeats (modEng s e (fun x => { x with
      seats := (x.seats.filter (fun y => !(y.tid == t && !y.ended && !y.job))).map
        (fun y => if y.tid = t then { y with ended := true } else y) })) e 16
  else s

/-- Every seat of a thread ended: HALT and step 4 of R137 (R223). -/
def endSeats (s : State) (t : Nat) : State := (List.range 9).foldl (fun s i => endSeat s t (9 * krOf t + i)) s

/-- A waiting seat request withdrawn: eng.st reads WITHDRAWN (R224). -/
def withdrawSeat (s : State) (t : Nat) : State :=
  (List.range 9).foldl (fun s i =>
    let e := 9 * krOf t + i
    if (eng s e).waiting.contains t then
      decideSeat (modEng s e (fun x => { x with waiting := x.waiting.filter (· != t) })) t e 5
    else s) s

/-! ### Job submission (R226, R230) -/

/-- The ports e.res and e.poll of engine index `i`. -/
def resPort (i : Nat) : Nat := 0x311 + 8 * i
/-- e.poll. -/
def pollPort (i : Nat) : Nat := 0x312 + 8 * i

/-- A job's status reaches its thread (R230). -/
def jobReport (s : State) (t i status : Nat) : State :=
  let th := thr s t
  putThr s t { landAll th (fun a => setPort (setPort a (resPort i) (w64 status)) (pollPort i) (w64 status)) with
    jobs := th.jobs.filter (· != i) }

/-- Submitted jobs whose thread's earlier stores are visible enter their engines' queues (R161, R226). -/
def acceptJobs (s : State) (t : Nat) : State :=
  (thr s t).arch.ops.foldl (fun s o =>
    match o.kind with
    | .ejob e va desc turn session =>
      if (thr s t).sbuf.any (fun b => decide (b.id < o.id)) then s
      else
        let th := thr s t
        let s := putThr s t (landOp th o.id id)
        modEng s e (fun x => { x with
          queue := x.queue ++ [{ tid := t, part := th.part, va := va, desc := desc, turn := turn, session := session, result := none }]
          seats := x.seats.map (fun y => if y.tid = t ∧ !y.ended then { y with job := true } else y) })
    | _ => s) s

/-- e.job.t (R226): NOSEAT at once without a seat, else the job is on its way to the queue. -/
def submitJob (s : State) (t i va : Nat) (desc : Pieces) : State :=
  let e := 9 * krOf t + i
  let th := thr s t
  if holdsSeat s t e then
    let ses := match th.current with | some c => c.cmd.session | none => 0
    let th' := startOp th (.ejob e va desc (thrTurn s t) ses)
    acceptJobs (putThr s t { th' with
      arch := setPort th'.arch (pollPort i) 1
      jobs := i :: th.jobs }) t
  else jobReport s t i 0x22

end Sys2Proof.Machine
end

