-- ==== Sys2Proof/Machine/Queues.lean ====
section
/-! DEFINITION. The queues of intake and what happens to an item in them (R278 to R302): space, drops and gaps,
watermarks with HOLD_N and flow control, intake's own answers, release, rewind and responses. -/

namespace Sys2Proof.Machine

/-! ### What unlisted queues read as -/

/-- An empty command queue. -/
def cmdqInit : CmdQueue where
  items := []
  occ := 0
  gapp := false
  seq := 0
  high := false
  lastServed := 0xFFFF

/-- An empty response queue. -/
def rspqInit : RespQueue where
  items := []
  gapp := false

/-- A bucket nothing has been taken from: full (entry 8 of the log). -/
def bucketInit : Bucket where
  level := 65535 * 10 ^ 9
  last := 0

/-- A session number not in use. -/
def sessInit : Session where
  part := nobody
  port := .mgmt
  keyIn := []
  keyOut := []
  saltIn := []
  saltOut := []
  ctrOut := 0
  ctrTop := 0
  seen := []
  lastFrame := 0
  peerIp := 0
  peerUdp := 0

/-- A response ring with nothing to signal. -/
def ringInit : Ring where
  unsignalled := 0
  oldest := none
  masked := false
  pendingBit := false

/-- A function at reset: VFs are not enabled; the bus-master bit is clear. -/
def funcInit : Func where
  enabled := false
  busMaster := false

/-- A command queue. -/
def cq (s : State) (q : Nat) : CmdQueue := tget cmdqInit s.intake.cmdq q
/-- A command queue changed. -/
def modCq (s : State) (q : Nat) (f : CmdQueue → CmdQueue) : State :=
  { s with intake := { s.intake with cmdq := tmod cmdqInit s.intake.cmdq q f } }
/-- A response queue. -/
def rq (s : State) (q : Nat) : RespQueue := tget rspqInit s.intake.rspq q
/-- A response queue changed. -/
def modRq (s : State) (q : Nat) (f : RespQueue → RespQueue) : State :=
  { s with intake := { s.intake with rspq := tmod rspqInit s.intake.rspq q f } }
/-- A session. -/
def sess (s : State) (n : Nat) : Session := tget sessInit s.intake.sessions n
/-- A session changed. -/
def modSess (s : State) (n : Nat) (f : Session → Session) : State :=
  { s with intake := { s.intake with sessions := tmod sessInit s.intake.sessions n f } }

/-- The lines of an item with `l` payload bytes (R279). -/
def linesFor (l : Nat) : Nat := (32 + l + 63) / 64

/-- The capacity of a command queue: 0 for an absent partition (R278). -/
def cqCap (s : State) (q : Nat) : Nat := if kcPresent s.kc (q / 4) then kcCcap s.kc q else 0
/-- The capacity of a response queue. -/
def rqCap (s : State) (q : Nat) : Nat := if kcPresent s.kc (q / 4) then kcRcap s.kc q else 0

/-! ### Watermarks, HOLD_N, flow control (R300 to R302) -/

/-- Whether a queue of a hold group is HIGH. -/
def groupHigh (s : State) (g : Nat) : Bool := s.intake.cmdq.any (fun kv => kv.2.high && kcHgrp s.kc kv.1 == g)

/-- Whether the device holds a HOLD_N pin low now (R301, R419, R437). -/
def holdLow (s : State) (g : Nat) : Bool := !s.pins.ready || s.faults.quiet || groupHigh s g

/-- The eight HOLD_N pins with one of them set. -/
def putPin (l : List Bool) (g : Nat) (b : Bool) : List Bool := (List.range 8).map (fun i => if i = g then b else nth false l i)

/-- One HOLD_N pin brought to its state; a pin that falls begins its minimum low time. -/
def setHold (s : State) (g : Nat) : State :=
  let up := nth false s.pins.holdN g
  if holdLow s g then
    if up then
      { s with
        pins := { s.pins with holdN := putPin s.pins.holdN g false }
        intake := { s.intake with holdMin := g :: s.intake.holdMin } }
    else s
  else if up || s.intake.holdMin.contains g then s
  else { s with pins := { s.pins with holdN := putPin s.pins.holdN g true } }

/-- Every HOLD_N pin. -/
def setHolds (s : State) : State := (List.range 8).foldl setHold s

/-- What flow control asserts on a port: a priority in PFC mode, the whole port in PAUSE mode (R302). -/
def flowWanted (s : State) (port : Nat) : List (Option Nat) :=
  let hot := s.intake.cmdq.filter (fun kv => kv.2.high && kcFce s.kc kv.1)
  if s.faults.quiet then []
  else if kcFcMode s.kc port = 1 then
    ((List.range 8).filter (fun p => hot.any (fun kv => kcClassPri s.kc (kcClass s.kc kv.1) == p))).map some
  else if kcFcMode s.kc port = 2 ∧ hot ≠ [] then [none]
  else []

/-- One port's flow control brought to its state: a first frame with quanta #FFFF, or one with quanta 0. -/
def setFlow (s : State) (port : Nat) : State :=
  let want := flowWanted s port
  let on := (s.intake.flowOn.filter (fun x => x.1 == port)).map (·.2)
  let new := want.filter (fun w => !on.contains w)
  let off := on.filter (fun w => !want.contains w)
  let s := { s with intake := { s.intake with
    flowOn := s.intake.flowOn.filter (fun x => !(x.1 == port && off.contains x.2)) ++ new.map (fun w => (port, w)) } }
  let s := new.foldl (fun s w => emit s (.flow port w 0xFFFF)) s
  off.foldl (fun s w => emit s (.flow port w 0)) s

/-- Pins and flow control after a change of some queue's HIGH. -/
def setPressure (s : State) : State := setFlow (setFlow (setHolds s) 0) 1

/-- A queue's HIGH judged on its occupancy (R300). -/
def judgeHigh (s : State) (q : Nat) : State :=
  let x := cq s q
  let h := if kcHigh s.kc q < x.occ then true else if x.occ ≤ kcLow s.kc q then false else x.high
  if h = x.high then s else setPressure (modCq s q (fun x => { x with high := h }))

/-- Lines freed by the release of a command item (R279). -/
def freeLines (s : State) (c : Cmd) : State :=
  judgeHigh (modCq s c.queue (fun x => { x with occ := x.occ - linesFor c.len })) c.queue

/-! ### Items wherever they are -/

/-- Every thread with an inbox item or a current command. -/
def busyThreads (s : State) : List Nat :=
  (s.threads.filter (fun kv => kv.2.inbox != [] || kv.2.current.isSome)).map (·.1)

/-- A command item changed, wherever it is. -/
def modCmd (s : State) (q ord : Nat) (f : Cmd → Cmd) : State :=
  let g := fun (c : Cmd) => if c.queue = q ∧ c.ord = ord then f c else c
  let s := modCq s q (fun x => { x with items := x.items.map g })
  (busyThreads s).foldl (fun s t =>
    let th := thr s t
    rawThr s t { th with
      inbox := th.inbox.map (fun x => (x.1, g x.2))
      current := th.current.map (fun c => { c with cmd := g c.cmd }) }) s

/-- The inbox items of a queue. -/
def inboxOf (s : State) (q : Nat) : List Cmd :=
  (busyThreads s).flatMap (fun t => ((thr s t).inbox.map (·.2)).filter (fun c => c.queue == q))

/-- The newest stored item of a queue that has not become current (R281). -/
def newestStored (s : State) (q : Nat) : Option Nat :=
  ((cq s q).items ++ inboxOf s q).foldl (fun b c => match b with
    | none => some c.ord
    | some o => if o < c.ord then some c.ord else some o) none

/-- A gap marked in a command queue (R281). -/
def markGap (s : State) (q : Nat) : State :=
  match newestStored s q with
  | some o => modCmd s q o (fun c => { c with gap := true })
  | none => modCq s q (fun x => { x with gapp := true })

/-- A command dropped for want of room or a bad header word: counted, its gap marked (R280, R281). -/
def dropCmd (s : State) (q : Nat) : State := markGap (bump s .queStat q 63 48 1) q

/-! ### Responses (R281, R296, R298) -/

/-- The lines of a response queue's items. -/
def rqOcc (s : State) (q : Nat) : Nat := ((rq s q).items.map (fun r => linesFor r.payload.length)).foldl (· + ·) 0

/-- A gap marked in a response queue: on its newest item that has not begun to leave (R281). -/
def markRespGap (s : State) (q : Nat) : State :=
  let x := rq s q
  match x.items.reverse with
  | r :: rest =>
    if r.leaving then modRq s q (fun x => { x with gapp := true })
    else modRq s q (fun x => { x with items := (({ r with gap := true } : Resp) :: rest).reverse })
  | [] => modRq s q (fun x => { x with gapp := true })

/-- A response dropped: counted, its gap marked. -/
def dropResp (s : State) (q : Nat) : State := markRespGap (bump s .queStatr q 63 48 1) q

/-- SMBALERT_N is asserted while a response waits for SMBus (R412). -/
def setSmbAlert (s : State) : State :=
  let w := (List.range 4).any (fun q => (rq s q).items.any (fun r => r.route == 0xFF01)) || s.intake.smbusOut != []
  { s with pins := { s.pins with smbAlertN := !w } }

/-- A response item stored, or dropped for want of room (R281). -/
def storeResp (s : State) (q : Nat) (r : Resp) : State :=
  if rqCap s q < rqOcc s q + linesFor r.payload.length then dropResp s q
  else
    setSmbAlert (modRq s q (fun x => { x with items := x.items ++ [{ r with gap := r.gap || x.gapp }], gapp := false }))

/-- The response queue of a command: its own, or the tenant's for a forwarded one (R289, R298). -/
def respQueue (c : Cmd) : Nat := if c.origin = 6 then 4 * c.part + c.olq else c.queue

/-- Intake's own answer to a command: 0xE1 LATE, 0xE2 STALE (R298). -/
def answer (s : State) (c : Cmd) (rcode : Nat) : State :=
  let q := respQueue c
  let s := if rcode = 0xE1 then bump s .quePstat (q / 4) 63 48 1 else bump s .quePstat (q / 4) 47 32 1
  storeResp s q {
    turn := c.turn, stored := s.now, payload := [], session := c.session, seq := c.seq, rcode := rcode, gap := false,
    poison := false, origin := c.origin, route := c.route, leaving := false }

/-- A command answered by intake and released. -/
def answerRelease (s : State) (c : Cmd) (rcode : Nat) : State := freeLines (answer s c rcode) c

/-! ### Release, rewind (R295, R297) -/

/-- A thread's current command released. -/
def releaseCmd (s : State) (t : Nat) : State :=
  match (thr s t).current with
  | none => s
  | some c => freeLines (modThr s t (fun th => { th with current := none })) c.cmd

/-- Items put back at the heads of their queues with REDELIVER set; a truncated one is released (R295). -/
def returnItem (s : State) (c : Cmd) : State :=
  if c.truncated then freeLines s c
  else modCq s c.queue (fun x => { x with items := { c with redeliver := true } :: x.items })

/-- A thread's current command rewound. -/
def rewindCmd (s : State) (t : Nat) : State :=
  match (thr s t).current with
  | none => s
  | some c => returnItem (modThr s t (fun th => { th with current := none })) c.cmd

/-- A thread's current command and inbox items return, in inbox order, to the heads of their queues (R297). -/
def rewindItems (s : State) (t : Nat) : State :=
  let th := thr s t
  let l := (match th.current with | some c => [c.cmd] | none => []) ++ th.inbox.map (·.2)
  l.reverse.foldl returnItem (putThr s t { th with current := none, inbox := [] })

/-- A thread's current command answered STALE and its other items rewound: freezing for quad reassignment (R297). -/
def staleCurrent (s : State) (t : Nat) : State :=
  match (thr s t).current with
  | none => s
  | some c => answerRelease (modThr s t (fun th => { th with current := none })) c.cmd 0xE2

/-! ### Commands in flight (R26, R284) -/

/-- Every admitted command not yet released. -/
def allCmds (s : State) : List Cmd :=
  s.intake.cmdq.flatMap (fun kv => kv.2.items) ++
    (busyThreads s).flatMap (fun t =>
      (match (thr s t).current with | some c => [c.cmd] | none => []) ++ (thr s t).inbox.map (·.2))

/-- Whether a command stamped before turn `n` is in flight. -/
def oldInFlight (s : State) (n : Nat) : Bool := (allCmds s).any (fun c => decide (c.turn < n))

/-- Every command that `f` picks is answered with `rcode` and released; without `rcode`, it is discarded. -/
def endCmds (s : State) (f : Cmd → Bool) (rcode : Option Nat) : State :=
  let fin := fun (s : State) (c : Cmd) => match rcode with | some r => answerRelease s c r | none => freeLines s c
  let s := (s.intake.cmdq.map (·.1)).foldl (fun s q =>
    let gone := (cq s q).items.filter f
    gone.foldl fin (modCq s q (fun x => { x with items := x.items.filter (fun c => !f c) }))) s
  (busyThreads s).foldl (fun s t =>
    let th := thr s t
    let cur := match th.current with | some c => if f c.cmd then [c.cmd] else [] | none => []
    let ibx := (th.inbox.map (·.2)).filter f
    (cur ++ ibx).foldl fin (putThr s t { th with
      current := if cur = [] then th.current else none
      inbox := th.inbox.filter (fun x => !f x.2) })) s

end Sys2Proof.Machine
end

