-- ==== Sys2Proof/Machine/Wire.lean ====
section
/-! DEFINITION. What the device sends over Westad (R402 to R408): flits, routes and messages of a strongroom. -/

namespace Sys2Proof.Machine

/-! ### Links and pairs -/

/-- A Westad link that is down. -/
def linkInit : Link where
  state := 1
  width := 0
  peer := 0xF
  txSeq := 0
  rxSeq := 0
  ackSent := 0xFFF
  replay := []
  credits := [0, 0, 0]
  nakSent := false
  replays := 0
  replaySeq := 0
  rxFrag := []
  txq := []
  txMid := none

/-- A pair whose keying has not ended. -/
def pairInit : Pair where
  state := 1
  txKey := []
  rxKey := []
  txSalt := []
  rxSalt := []
  kx := []
  eph := []
  txMseq := 0
  rxMseq := 0
  unacked := []

/-- A Westad link. -/
def wlink (s : State) (l : Nat) : Link := tget linkInit s.westad.links l
/-- A Westad link changed. -/
def modLink (s : State) (l : Nat) (f : Link → Link) : State :=
  { s with westad := { s.westad with links := tmod linkInit s.westad.links l f } }
/-- A pair, by its other member. -/
def wpair (s : State) (m : Nat) : Pair := tget pairInit s.westad.pairs m
/-- A pair changed. -/
def modPair (s : State) (m : Nat) (f : Pair → Pair) : State :=
  { s with westad := { s.westad with pairs := tmod pairInit s.westad.pairs m f } }

/-- The other members of the strongroom. -/
def otherMembers (s : State) : List Nat :=
  if kcGroup s.kc = 0 then [] else (List.range (min 8 (kcCount s.kc))).filter (· != kcMember s.kc)

/-- LANE_WPAIR.STATE: 0 self or not a member, 1 keying, 2 keyed, 3 REFUSED. -/
def pairState (s : State) (m : Nat) : Nat := if (otherMembers s).contains m then (wpair s m).state else 0

/-- The clock domains of a Westad link: receive and transmit (R350). -/
def linkDomains (l : Nat) : List Nat := [8 + l, 12]

/-! ### Flits (R402 to R404) -/

/-- One step of CRC-32 on a bit. -/
def crcBit (c : BitVec 32) : BitVec 32 := if c.getLsbD 0 then (c >>> 1) ^^^ 0xEDB88320#32 else c >>> 1

/-- CRC-32 of a byte string from a running value. -/
def crcRun (c : BitVec 32) : Bytes → BitVec 32
  | [] => c
  | b :: t =>
    let x := c ^^^ b.setWidth 32
    crcRun (crcBit (crcBit (crcBit (crcBit (crcBit (crcBit (crcBit (crcBit x)))))))) t

/-- CRC-32 (entry 21 of the log). -/
def crc32 (b : Bytes) : Nat := (~~~ crcRun 0xFFFFFFFF#32 b).toNat

/-- A flit: its SEQ and TYPE, ACK, CRED, FRAG and payload. -/
def flitBytes (ty seq ack cred frag : Nat) (pay : Bytes) : Bytes :=
  let b := leBytes 2 (seq % 4096 + 4096 * ty) ++ leBytes 2 (ack % 4096) ++ leBytes 2 cred ++ leBytes 2 frag ++ padTo 116 pay
  b ++ leBytes 4 (crc32 b)

/-- The highest SEQ received in order, as a flit's ACK. -/
def linkAck (k : Link) : Nat := (k.rxSeq + 4095) % 4096

/-- A flit sent on a link that is up. -/
def sendFlit (s : State) (l ty seq cred frag : Nat) (pay : Bytes) : State :=
  let k := wlink s l
  if k.state = 3 then
    emit (modLink s l (fun k => { k with ackSent := linkAck k })) (.flit l (flitBytes ty seq (linkAck k) cred frag pay))
  else s

/-- The classes that have a flit waiting and a credit for it, of the message that has begun to leave if there is one. -/
def txReady (k : Link) : List Nat :=
  (List.range 3).filter (fun c => decide (0 < nth 0 k.credits c) && k.txq.any (fun f => f.1 == c) &&
    (k.txMid == none || k.txMid == some c))

/-- One DATA flit of class `c` leaves: it takes a credit and a SEQ, and is kept until it is acknowledged. -/
def sendData (s : State) (l c : Nat) : State :=
  let k := wlink s l
  match k.txq.find? (fun f => f.1 == c) with
  | none => s
  | some f =>
    let s := sendFlit s l 1 k.txSeq 0 f.2.1 f.2.2
    modLink s l (fun k => { k with
      txq := k.txq.erase f
      txMid := if f.2.1.testBit 8 then none else some c
      credits := setNth k.credits c (nth 0 k.credits c - 1)
      replay := k.replay ++ [(k.txSeq, leBytes 2 f.2.1 ++ f.2.2)]
      txSeq := (k.txSeq + 1) % 4096 })

/-- Flits leave while there is credit and the replay buffer has room; the transmit lottery chooses among classes
(R348, R403, R404). `fuel` bounds the flits. -/
def pumpLink (s : State) (l : Nat) : Nat → State
  | 0 => s
  | n + 1 =>
    let k := wlink s l
    if k.state ≠ 3 ∨ 2048 ≤ k.replay.length then s
    else match txReady k with
    | [] => s
    | [c] => pumpLink (sendData s l c) l n
    | cs =>
      let r := drawArb s (0x60 + l) cs
      match r.1 with
      | none => s
      | some c => pumpLink (sendData r.2 l c) l n

/-- A link's waiting flits sent as far as they may be. -/
def pump (s : State) (l : Nat) : State := pumpLink s l (wlink s l).txq.length

/-- A message cut into fragments of 116 bytes; `first` marks the first. -/
def fragments (c : Nat) : Nat → Bool → Bytes → List (Nat × Nat × Bytes)
  | 0, _, _ => []
  | n + 1, first, b =>
    let last := decide (b.length ≤ 116)
    let f := (c, min b.length 116 + 128 * b2n first + 256 * b2n last, b.take 116)
    if last then [f] else f :: fragments c n false (b.drop 116)

/-! ### Routes (R406) -/

/-- Members one hop further than `l`, along the flooded link states. -/
def hopOut (edges : List (Nat × Nat)) (l : List Nat) : List Nat :=
  (List.range 8).filter (fun m => l.contains m || edges.any (fun e => e.2 == m && l.contains e.1))

/-- Hops from the members `l` to `m`; `fuel` bounds them. -/
def hopsTo (edges : List (Nat × Nat)) (m : Nat) : Nat → List Nat → Option Nat
  | 0, _ => none
  | n + 1, l => if l.contains m then some 0 else (hopsTo edges m n (hopOut edges l)).map (· + 1)

/-- The route to a member: its hops and first link; ties go to the lower link number. -/
def routeTo (s : State) (m : Nat) : Option (Nat × Nat) :=
  let cand := (List.range 4).filterMap (fun l =>
    let k := wlink s l
    if k.state = 3 ∧ k.peer < 8 then (hopsTo s.westad.linkStates m 8 [k.peer]).map (fun h => (h + 1, l)) else none)
  cand.foldl (fun b x => match b with
    | none => some x
    | some y => if x.1 < y.1 then some x else some y) none

/-- A message put on the link of its route. -/
def putOnLink (s : State) (dst cls : Nat) (msg : Bytes) : State :=
  match routeTo s dst with
  | none => s
  | some (_, l) => pump (modLink s l (fun k => { k with txq := k.txq ++ fragments cls (msg.length + 1) true msg })) l

/-! ### Messages (R406) -/

/-- A message's clear header. -/
def msgHeader (src dst cls mtype len mseq : Nat) : Bytes :=
  [byte src, byte dst, byte cls, byte mtype] ++ leBytes 2 len ++ [0, 0] ++ leBytes 8 mseq

/-- A message sealed under the key of its direction. -/
def sealMsg (s : State) (m cls mtype mseq : Nat) (body : Bytes) : Bytes :=
  let p := wpair s m
  let h := msgHeader (kcMember s.kc) m cls mtype body.length mseq
  let r := Config.gcmEnc p.txKey (p.txSalt ++ leBytes 8 mseq) h body
  h ++ r.1 ++ r.2

/-- Every unacknowledged message of a keyed pair sent over the current route. -/
def resendPair (s : State) (m : Nat) : State :=
  if pairState s m = 2 then
    (wpair s m).unacked.foldl (fun s x => putOnLink s m (x.2.1 / 256) (sealMsg s m (x.2.1 / 256) (x.2.1 % 256) x.1 x.2.2)) s
  else s

/-- A message to a member: numbered, kept until it is acknowledged, and sent when the pair is keyed. -/
def sendMsg (s : State) (m cls mtype : Nat) (body : Bytes) : State :=
  if (otherMembers s).contains m then
    let q := (wpair s m).txMseq + 1
    let s := modPair s m (fun p => { p with txMseq := q, unacked := p.unacked ++ [(q, 256 * cls + mtype, body)] })
    if pairState s m = 2 then putOnLink s m cls (sealMsg s m cls mtype q body) else s
  else s

/-- A message to every other member. -/
def sendAll (s : State) (cls mtype : Nat) (body : Bytes) : State := (otherMembers s).foldl (fun s m => sendMsg s m cls mtype body) s

/-- An acknowledgement is not itself numbered or kept. -/
def sendAck (s : State) (m cls : Nat) : State :=
  if pairState s m = 2 then putOnLink s m cls (sealMsg s m cls 0x0F 0 (leBytes 8 (wpair s m).rxMseq)) else s

/-- A keying message, in clear. -/
def sendClear (s : State) (m mtype : Nat) (body : Bytes) : State :=
  putOnLink s m 2 (msgHeader (kcMember s.kc) m 2 mtype body.length 0 ++ body)

/-! ### Keying (R407) -/

/-- What a KX1 signature covers: GROUP, both member indices and the fields before it. -/
def kxDigest (s : State) (a b : Nat) (body : Bytes) : Bytes :=
  sha256 (leBytes 4 (kcGroup s.kc) ++ [byte a, byte b] ++ body)

/-- A signature under the identity key; none without one, or at the attempt limit. -/
def kxSign (s : State) (digest : Bytes) : Option Bytes × State := identitySign s (ascii "WESTAD-KX") digest

/-- KX1 drawn and sent by the lower member: its identity key, a nonce, an ephemeral key and the signature. -/
def startKeying (s : State) (m : Nat) : State :=
  let me := kcMember s.kc
  if m ≤ me ∨ !(otherMembers s).contains m then s
  else
    let n := trngBytes s 32
    let e := trngBytes n.2 64
    let k := Config.mlKemKeyGen 1 e.1
    let body := identityPk s ++ n.1 ++ k.1
    let g := kxSign e.2 (kxDigest s me m body)
    match g.1 with
    | none => g.2
    | some sig =>
      let kx := body ++ sig
      sendClear (modPair g.2 m (fun p => { p with state := 1, kx := kx, eph := k.2 })) m 0x21 kx

/-- The digest that a KX2 signature covers: both messages. -/
def kx2Digest (kx1 body : Bytes) : Bytes := sha256 (kx1 ++ body)

/-- A pair is keyed from the shared secret and both messages: two keys and two salts, the initiator's direction first
(entry 35 of the log). Messages not acknowledged are numbered again from 1 and sent. -/
def pairKeyed (s : State) (m : Nat) (initiator : Bool) (secret kx1 kx2 : Bytes) : State :=
  let d := kmac 256 secret (Config.pairInput kx1 kx2) 72 (ascii "WESTAD-PAIR")
  let k0 := slice d 0 32
  let k1 := slice d 32 32
  let a0 := slice d 64 4
  let a1 := slice d 68 4
  let s := modPair s m (fun p => { p with
    state := 2, kx := [], eph := [], rxMseq := 0, txMseq := p.unacked.length
    txKey := if initiator then k0 else k1, rxKey := if initiator then k1 else k0
    txSalt := if initiator then a0 else a1, rxSalt := if initiator then a1 else a0
    unacked := p.unacked.mapIdx (fun i x => (i + 1, x.2)) })
  resendPair s m

/-- A check that fails: the pair reads REFUSED, and an audit record is appended. -/
def refusePair (s : State) (m : Nat) : State := audit (modPair s m (fun p => { p with state := 3, kx := [], eph := [] })) 4 0xFF 0x15 [byte m, 3]

/-! ### Link states (R406) -/

/-- The other ends of this member's links. -/
def ownPeers (s : State) : List (Nat × Nat) :=
  (List.range 4).filterMap (fun l => let k := wlink s l; if k.state = 3 ∧ k.peer < 8 then some (l, k.peer) else none)

/-- A member's link states, sent or passed on over every link but those toward it: two bytes for each link, its two ends
(entry 36 of the log). -/
def floodRoute (s : State) (src : Nat) (edges : List (Nat × Nat)) : State :=
  (ownPeers s).foldl (fun s lp =>
    if lp.2 = src then s
    else
      let body := edges.flatMap (fun e => [byte e.1, byte e.2])
      let msg := msgHeader src lp.2 2 0x23 body.length 0 ++ body
      pump (modLink s lp.1 (fun k => { k with txq := k.txq ++ fragments 2 (msg.length + 1) true msg })) lp.1) s

/-- After a change of routes: every unacknowledged message is sent again, and a keying that has begun goes on (R406, R407). -/
def routesChanged (s : State) : State :=
  (otherMembers s).foldl (fun s m =>
    if pairState s m = 2 then resendPair s m
    else if pairState s m = 1 ∧ (routeTo s m).isSome then
      (let kx := (wpair s m).kx
       if kx = [] then startKeying s m else sendClear s m 0x21 kx)
    else s) s

/-- This member's link states have changed: they are flooded, and routes are computed again (R406). -/
def linksChanged (s : State) : State :=
  let me := kcMember s.kc
  if kcGroup s.kc = 0 then s else routesChanged (floodRoute s me ((ownPeers s).map (fun lp => (me, lp.2))))

end Sys2Proof.Machine
end

