-- ==== Sys2Proof/Machine/KeyStore.lean ====
section
/-! DEFINITION. The key store (R179 to R189, R408): slot copies and the vote, quarantine, the staging pool with its
quotas, erasure, promotion at a turn, and former contents. -/

namespace Sys2Proof.Machine

/-! ### Slots and copies (R182, R183) -/

/-- The number of slots. -/
def slotMax : Nat := 262144
/-- The entries of the staging pool. -/
def poolMax : Nat := 16384

/-- The header of an empty slot. -/
def hdrEmpty : KHdr where
  owner := 0
  usage := 0
  alg := 0
  mode := 0
  exportability := 0
  span := 0
  state := 0
  ktype := 0

/-- The header digits as a register reads them, with `low` in the lowest digit. -/
def hdrWord (h : KHdr) (low : Nat) : Nat :=
  h.owner * 2 ^ 56 + h.usage * 2 ^ 40 + h.alg * 2 ^ 32 + h.mode * 2 ^ 24 + h.exportability * 2 ^ 16 + h.span * 2 ^ 8 +
    h.state * 2 ^ 4 + low

/-- Digits d0 to d111 of a copy as bytes; a continuation slot holds material only. -/
def copyBody (c : KCopy) : Bytes :=
  if c.hdr.state = 3 then padTo 56 c.mat else padTo 32 c.mat ++ leBytes 8 (hdrWord c.hdr c.hdr.ktype) ++ zeros 16

/-- CHK of a copy: the low 64 bits of SHA3-256 over d0 to d111 and the slot number (R183). -/
def chkOf (slot : Nat) (c : KCopy) : Word := w64 (leAt (sha256 (copyBody c ++ leBytes 3 slot)) 0 8)

/-- A copy with its CHK. -/
def sealCopy (slot : Nat) (mat : Bytes) (h : KHdr) : KCopy :=
  let c : KCopy := { mat := mat, hdr := h, chk := 0 }
  { c with chk := chkOf slot c }

/-- Whether a copy passes its CHK. -/
def copyOk (slot : Nat) (c : KCopy) : Bool := c.chk == chkOf slot c

/-- An empty slot's copy. -/
def emptyCopy (slot : Nat) : KCopy := sealCopy slot [] hdrEmpty

/-- The three copies of a slot; none when nothing has been written there. -/
def slotCopies (s : State) (n : Nat) : List KCopy := tget [] s.ks.slots n
/-- A slot's copies stored. -/
def putCopies (s : State) (n : Nat) (l : List KCopy) : State := { s with ks := { s.ks with slots := tset [] s.ks.slots n l } }

/-- The copies whose CHK passes, with their banks; a retired bank's copy fails (R481). -/
def passing (s : State) (n : Nat) : List (Nat × KCopy) :=
  (List.range 3).filterMap (fun b =>
    match (slotCopies s n)[b]? with
    | none => none
    | some c => if s.ks.banksRetired.contains b || !copyOk n c then none else some (b, c))

/-- A vote on a slot (R184): an unwritten slot, the agreed copy with the banks to rewrite, or quarantine with its cause
(#1 passing copies disagree, #2 fewer than two pass). -/
inductive Vote where
  | unwritten
  | agreed (c : KCopy) (rewrite : List Nat)
  | bad (cause : Nat)
  deriving DecidableEq, Repr

/-- The outcome of a key-store read, per slot (R184). -/
def voteSlot (s : State) (n : Nat) : Vote :=
  if slotCopies s n = [] then .unwritten
  else match passing s n with
  | (_, c) :: d :: rest =>
    if (d :: rest).all (fun x => x.2 == c) then
      .agreed c ((List.range 3).filter (fun b => !s.ks.banksRetired.contains b && ((d :: rest).all (fun x => x.1 != b)) &&
        ((passing s n).all (fun x => x.1 != b))))
    else .bad 1
  | _ => .bad 2

/-- A slot's header, for the interfaces that only look: the first passing copy's, else the first copy's. -/
def slotHdr (s : State) (n : Nat) : KHdr :=
  match slotCopies s n with
  | [] => hdrEmpty
  | c :: _ => match passing s n with | (_, d) :: _ => d.hdr | [] => c.hdr

/-! ### Events, quarantine (R185, R189, R481) -/

/-- KS_QLAST takes an event. -/
def ksEvent (s : State) (cause n : Nat) : State := fldSet (fldSet s .ksQlast 0 23 20 cause) .ksQlast 0 17 0 n

/-- A slot or staged entry event: recorded, audited, and knocked to partition 1. -/
def ksAlarm (s : State) (cause n part : Nat) : State :=
  errKnock (ksEvent (audit s 4 part 6 (leBytes 3 n ++ [byte cause])) cause n) 1

/-- The nanoseconds of an hour. -/
def hourNs : Nat := 3600 * 10 ^ 9

/-- Quarantine by disagreement counted: more than 4 within an hour is a cause of the quiet state (R481). -/
def countQuarantine (s : State) : State :=
  let l := s.now :: s.ks.quarTimes.filter (fun t => decide (s.now < t + hourNs))
  let s := { s with ks := { s.ks with quarTimes := l } }
  if 4 < l.length then quietCause s 5 else s

/-- A slot's STATE becomes quarantined in all three copies; one that passed CHK passes still. -/
def markQuarantined (s : State) (n : Nat) : State :=
  putCopies s n ((slotCopies s n).map (fun c =>
    let h := { c.hdr with state := 2 }
    if copyOk n c then sealCopy n c.mat h else { c with hdr := h }))

/-- Quarantine of a slot (R185, steps 2 to 5). -/
def quarantine (s : State) (n cause part : Nat) : State :=
  let s := ksAlarm (markQuarantined s n) cause n part
  let s := (List.range 3).foldl (fun s b => report s 4 b (if cause = 1 then 9 else 7) part n) s
  if cause = 1 then countQuarantine s else s

/-- The refusal of a quarantined slot: SLOT_QUAR to the OWNER in every passing copy, else SLOT_NONE (R185). -/
def quarCode (s : State) (p n : Nat) : Nat :=
  if (passing s n).all (fun x => x.2.hdr.owner == p) && (passing s n != []) then 0x31 else 0x30

/-- A failing copy rewritten from the others, and its bank reported (R184). -/
def rewriteCopy (s : State) (n : Nat) (c : KCopy) (banks : List Nat) : State :=
  banks.foldl (fun s b => report (putCopies s n (setNth (slotCopies s n) b c)) 4 b 7 c.hdr.owner n) s

/-! ### Reads for a job (R23, R184 to R186) -/

/-- A key as an engine holds it. -/
structure Key where
  slot : Nat
  hdr : KHdr
  mat : Bytes
  deriving DecidableEq, Repr

/-- The continuation slots of a key read and voted in turn: their material, or the slot and cause of a quarantine. -/
def readRest (s : State) : List Nat → Except (Nat × Nat) Bytes × State
  | [] => (.ok [], s)
  | n :: ns =>
    match voteSlot s n with
    | .unwritten => (.error (n, 2), s)
    | .bad cause => (.error (n, cause), s)
    | .agreed c banks =>
      let r := readRest (rewriteCopy s n c banks) ns
      (r.1.map (fun b => padTo 56 c.mat ++ b), r.2)

/-- The former contents that a command of turn `turn` uses of slot `n` (R22, R186). -/
def formerOf (s : State) (turn n : Nat) : Option Former := s.ks.former.find? (fun f => f.slot == n && decide (turn < f.turn))

/-- A read of former contents: their CHK only (R186). -/
def readFormer (s : State) (p : Nat) (f : Former) : Except Nat Key × State :=
  let ok := (List.range f.copies.length).all (fun i => match f.copies[i]? with | some c => copyOk (f.slot + i) c | none => true)
  match f.copies with
  | [] => (.error 0x30, s)
  | c :: rest =>
    if !ok then (.error 0x42, report s 4 3 7 p f.slot)
    else if c.hdr.state = 0 ∨ c.hdr.state = 3 ∨ c.hdr.owner ≠ p then (.error 0x30, s)
    else if c.hdr.state = 2 then (.error 0x31, s)
    else (.ok { slot := f.slot, hdr := c.hdr, mat := padTo 32 c.mat ++ rest.flatMap (fun x => padTo 56 x.mat) }, s)

/-- A read of the slots in force. -/
def readLive (s : State) (p n : Nat) : Except Nat Key × State :=
  match voteSlot s n with
  | .unwritten => (.error 0x30, s)
  | .bad cause => if (slotHdr s n).state = 2 then (.error (quarCode s p n), s) else (.error (quarCode s p n), quarantine s n cause p)
  | .agreed c banks =>
    let s := rewriteCopy s n c banks
    if c.hdr.state = 2 then (.error (quarCode s p n), s)
    else if c.hdr.state = 0 ∨ c.hdr.state = 3 then (.error 0x30, s)
    else
      match readRest s ((List.range (c.hdr.span - 1)).map (fun i => n + 1 + i)) with
      | (.error (_, cause), s) => (.error (quarCode s p n), quarantine s n cause p)
      | (.ok rest, s) =>
        if c.hdr.owner = p then (.ok { slot := n, hdr := c.hdr, mat := padTo 32 c.mat ++ rest }, s) else (.error 0x30, s)

/-- A key-store read for a job of partition `p` under turn `turn`: the key, or the refusal's status (R184, R229). The sealed
store performs no read (R483). -/
def readKey (s : State) (p turn handle : Nat) : Except Nat Key × State :=
  if s.ks.isSealed then (.error 0x42, s)
  else if slotMax ≤ handle then (.error 0x30, s)
  else match formerOf s turn handle with
  | some f => readFormer s p f
  | none => readLive s p handle

/-! ### The store as the staged set would leave it (R187, R234) -/

/-- A key of the store: its first slot, span and owner. -/
structure KeyAt where
  slot : Nat
  span : Nat
  owner : Nat
  deriving DecidableEq, Repr

/-- The keys of the store, quarantined ones included. -/
def keysNow (s : State) : List KeyAt :=
  s.ks.slots.filterMap (fun kv =>
    let h := slotHdr s kv.1
    if h.state = 1 ∨ h.state = 2 then some { slot := kv.1, span := h.span, owner := h.owner } else none)

/-- A staged entry's key. -/
def stagedKey (x : Staged) : List KeyAt :=
  if x.erase then [] else [{ slot := x.slot, span := x.copies.length, owner := (match x.copies with | c :: _ => c.hdr.owner | [] => 0) }]

/-- The keys if every staging of the pool were promoted. -/
def keysThen (s : State) : List KeyAt :=
  s.ks.pool.foldl (fun l x => l.filter (fun k => k.slot != x.slot) ++ stagedKey x) (keysNow s)

/-- Whether a destination of `span` slots is free of every other key (R234). -/
def destFree (s : State) (n span : Nat) : Bool :=
  decide (n + span ≤ slotMax) &&
    (keysThen s).all (fun k => k.slot == n || decide (k.slot + k.span ≤ n) || decide (n + span ≤ k.slot))

/-- Whether a slot is a continuation slot of a live or staged key. -/
def isCont (s : State) (n : Nat) : Bool :=
  (keysNow s ++ keysThen s).any (fun k => decide (k.slot < n) && decide (n < k.slot + k.span))

/-- The pool entries in use: staged ones, and those that hold former contents. -/
def poolUsed (s : State) : Nat :=
  (s.ks.pool.map (fun x => x.copies.length)).foldl (· + ·) 0 + (s.ks.former.map (fun f => f.copies.length)).foldl (· + ·) 0

/-- The entries that a staging of slot `n` replaces. -/
def replaced (s : State) (origin n : Nat) : Nat :=
  ((s.ks.pool.filter (fun x => x.slot == n && !x.taken && x.origin == origin)).map (fun x => x.copies.length)).foldl (· + ·) 0

/-- The first refusal of a staging: the pool (STAGE_FULL), the quota (STAGE_FULL), the audit tail (AUDIT_FULL) (R187). -/
def stageRefusal (s : State) (owner n span : Nat) (erase : Bool) : Option Nat :=
  let held := (((keysThen s).filter (fun k => k.owner == owner && k.slot != n)).map (fun k => k.span)).foldl (· + ·) 0
  if poolMax < poolUsed s - replaced s (kcMember s.kc) n + span then some 0x33
  else if !erase && decide (kcQuota s.kc owner < held + span) then some 0x33
  else if auditFull s then some 0x37
  else none

/-! ### Staging (R186, R408) -/

/-- An entry placed in the pool: a later one from the same origin replaces the earlier, and between origins the lower
member's is kept (R186, R408). -/
def poolPut (s : State) (x : Staged) : State :=
  match s.ks.pool.find? (fun y => y.slot == x.slot && !y.taken) with
  | some y =>
    if y.origin < x.origin then s
    else { s with ks := { s.ks with pool := s.ks.pool.filter (fun z => !(z.slot == x.slot && !z.taken)) ++ [x] } }
  | none => { s with ks := { s.ks with pool := s.ks.pool ++ [x] } }

/-- A copy as it travels in a STAGE message: 64 bytes. -/
def copyBytes (c : KCopy) : Bytes := copyBody c ++ wordBytes c.chk

/-- The header fields OWNER to EXPORT of a SLOT_STAGE record. -/
def hdrBytes (h : KHdr) : Bytes :=
  [byte h.owner] ++ leBytes 2 h.usage ++ [byte h.alg, byte h.mode, byte h.exportability]

/-- A staging of this member: audited, placed in the pool, and mirrored to every other member (R29, R186, R408). -/
def stageEntry (s : State) (n : Nat) (copies : List KCopy) (erase : Bool) (op part : Nat) : State :=
  let h := match copies with | c :: _ => c.hdr | [] => hdrEmpty
  let s := audit s 1 part 4 (leBytes 3 n ++ [byte copies.length] ++ (if erase then zeros 6 else hdrBytes h) ++ leBytes 2 op)
  let me := kcMember s.kc
  let q := s.ks.nextSeq
  let s := { s with ks := { s.ks with nextSeq := q + 1 } }
  let s := poolPut s { slot := n, copies := copies, origin := me, oseq := q, erase := erase, bad := false, taken := false }
  if erase then sendAll s 1 0x12 ([byte me] ++ leBytes 8 q ++ leBytes 3 n)
  else sendAll s 1 0x11 ([byte me] ++ leBytes 8 q ++ leBytes 3 n ++ [byte copies.length] ++ copies.flatMap copyBytes)

/-- The slot copies of a key of `span` slots from `n` (R182). -/
def spanCopies (n : Nat) (h : KHdr) (mat : Bytes) : List KCopy :=
  sealCopy n (padTo 32 mat) { h with span := h.span, state := 1 } ::
    (List.range (h.span - 1)).map (fun i =>
      sealCopy (n + 1 + i) (padTo 56 (mat.drop (32 + 56 * i))) { hdrEmpty with state := 3, owner := h.owner })

/-- The slots of an erased span: empty ones. -/
def emptySpan (n span : Nat) : List KCopy := (List.range (max 1 span)).map (fun i => emptyCopy (n + i))

/-- A staging of key material by a job of partition 1 (R234). -/
def stageKey (s : State) (n : Nat) (h : KHdr) (mat : Bytes) (op : Nat) : State := stageEntry s n (spanCopies n h mat) false op h.owner

/-- A KS_ERASE write by partition 1 (R186, R187, R189): the STAT it reports. -/
def ksEraseWrite (s : State) (p : Nat) (v : Word) : State :=
  if p ≠ 1 ∨ s.ks.isSealed then s
  else
    let n := fld v 17 0
    let s := fldSet s .ksErase 0 17 0 n
    let k := (keysNow s).find? (fun k => k.slot == n)
    let span := match k with | some k => max 1 k.span | none => 1
    if fld v 19 18 ≠ 0 ∨ isCont s n then fldSet s .ksErase 0 23 20 3
    else match stageRefusal s 0 n span true with
    | some 0x37 => fldSet s .ksErase 0 23 20 4
    | some _ => fldSet s .ksErase 0 23 20 2
    | none => fldSet (stageEntry s n (emptySpan n span) true 0 (match k with | some k => k.owner | none => 0xFF)) .ksErase 0 23 20 1

/-- Mirrored entries that waited for room enter the pool when it has some (R408). -/
def poolRetry (s : State) : State :=
  s.ks.heldBack.foldl (fun s x =>
    if poolUsed s + x.copies.length ≤ poolMax then
      poolPut { s with ks := { s.ks with heldBack := s.ks.heldBack.filter (· != x) } } x
    else s) s

/-- A mirrored entry from another member: held unstaged when the pool cannot take it (R408). -/
def mirrorEntry (s : State) (x : Staged) : State :=
  if poolUsed s + x.copies.length ≤ poolMax then poolPut s x else { s with ks := { s.ks with heldBack := s.ks.heldBack ++ [x] } }

/-- Stagings of one origin discarded; those a commit has taken stay (R327, R408). -/
def discardStaged (s : State) (origin : Nat) : State :=
  poolRetry { s with ks := { s.ks with
    pool := s.ks.pool.filter (fun x => x.taken || x.origin != origin)
    heldBack := s.ks.heldBack.filter (fun x => x.origin != origin) } }

/-! ### Promotion (R24, R186) -/

/-- Whether a staged entry passes its ECC and CHK. -/
def stagedOk (x : Staged) : Bool :=
  !x.bad && (List.range x.copies.length).all (fun i => match x.copies[i]? with | some c => copyOk (x.slot + i) c | none => true)

/-- The contents of a slot as one copy, for the entry that will hold them. -/
def oneCopy (s : State) (n : Nat) : KCopy :=
  match passing s n with
  | (_, c) :: _ => c
  | [] => match slotCopies s n with | c :: _ => c | [] => emptyCopy n

/-- A slot written in all three copies; a retired bank's copy is never rewritten. -/
def writeSlot (s : State) (n : Nat) (c : KCopy) : State :=
  let old := slotCopies s n
  putCopies s n (if c.hdr.state = 0 then [] else
    (List.range 3).map (fun b => if s.ks.banksRetired.contains b then nth c old b else c))

/-- One staged entry promoted at the boundary of turn `turn` (R186): the slot's former contents take its place. An entry that
fails is not promoted. -/
def promoteEntry (s : State) (turn : Nat) (x : Staged) : State :=
  let h := slotHdr s x.slot
  let part := match x.copies with | c :: _ => c.hdr.owner | [] => 0xFF
  if !stagedOk x then report (ksAlarm s 3 x.slot part) 4 3 7 part x.slot
  else
    let span := if h.state = 1 ∨ h.state = 2 then h.span else 1
    let old := (List.range (max 1 span)).map (fun i => oneCopy s (x.slot + i))
    let s := (List.range (max 1 span)).foldl (fun s i => putCopies s (x.slot + i) []) s
    let s := (List.range x.copies.length).foldl (fun s i => writeSlot s (x.slot + i) (nth (emptyCopy (x.slot + i)) x.copies i)) s
    let s := { s with ks := { s.ks with former := { slot := x.slot, copies := old, turn := turn } :: s.ks.former } }
    audit s 4 part 5 (leBytes 3 x.slot ++ [byte h.state, byte (if x.erase then 0 else 1)])

/-- Every staged entry that the commit took is promoted, in staging order. -/
def promoteTaken (s : State) (turn : Nat) : State :=
  let l := s.ks.pool.filter (·.taken)
  let s := { s with ks := { s.ks with pool := s.ks.pool.filter (fun x => !x.taken) } }
  l.foldl (fun s x => promoteEntry s turn x) s

/-- Former contents erased once no command of an earlier turn is in flight; the entry returns to the pool (R186). -/
def eraseFormer (s : State) (n : Nat) : State :=
  poolRetry { s with ks := { s.ks with former := s.ks.former.filter (fun f => !(f.slot == n && !oldInFlight s f.turn)) } }

/-! ### Zeroization (R451) -/

/-- The key store empties: copies, pool and former contents. -/
def zeroizeKeys (s : State) : State :=
  { s with ks := { s.ks with slots := [], pool := [], former := [], heldBack := [], quarTimes := [], zeroized := true } }

/-! ### Registers (R189) -/

/-- KS_INFO as a partition reads it for its KS_SEL. -/
def ksInfo (s : State) (p : Nat) : Word :=
  let n := fldGet s .ksSel p 17 0
  let h := slotHdr s n
  let stg := b2n (s.ks.pool.any (fun x => decide (x.slot ≤ n ∧ n < x.slot + x.copies.length)))
  let cover := (keysNow s).find? (fun k => decide (k.slot < n) && decide (n < k.slot + k.span))
  match cover with
  | some k => if p < 2 ∨ k.owner = p then w64 (k.owner * 2 ^ 56 + 3 * 2 ^ 4) else 0
  | none =>
    if h.state = 0 ∨ h.state = 3 then (if p < 2 then w64 stg else 0)
    else if p < 2 ∨ h.owner = p then w64 (hdrWord h stg) else 0

/-- KS_COUNT. -/
def ksCount (s : State) (p : Nat) : Word :=
  if p < 2 then
    let states := s.ks.slots.map (fun kv => (slotHdr s kv.1).state)
    w64 ((states.filter (· == 1)).length * 2 ^ 40 + poolUsed s * 2 ^ 24 + (states.filter (· == 2)).length * 2 ^ 4)
  else 0

/-! ### The rows -/

/-- KS_ERASE (R186, R187). -/
def execKsErase (p : Fin 256) (v : Word) (s : State) : Host.Outcome State Fault Refusal := .next (ksEraseWrite s p v)

/-- STAGED_ENTRY_ERASE (R186). -/
def execStagedEntryErase (slot : Fin 262144) (s : State) : Host.Outcome State Fault Refusal := .next (eraseFormer s slot)

end Sys2Proof.Machine
end

