-- ==== Sys2Proof/Machine/Guard.lean ====
section
/-! DEFINITION. The guard on keys leaving the device (R266 to R277): the policy of a turn, key strength, the attempt counters and the
session buckets. -/

namespace Sys2Proof.Machine

/-! ### The policy section (R268, R270) -/

/-- The EXGUARD section of a keycut. -/
def exg (kc : Keycut) : Option Bytes := sect? kc 11

/-- A field of the policy, or its default. -/
def exgLe (kc : Keycut) (off len dflt : Nat) : Nat :=
  match exg kc with
  | none => dflt
  | some b => leAt b off len

/-- SERIAL. -/
def polSerial (kc : Keycut) : Nat := exgLe kc 4 4 0
/-- FMTMAT. -/
def polFmt (kc : Keycut) : Nat := exgLe kc 8 2 0x8CFD
/-- FLAGS: bit 0 CLRIMP, 1 SOK, 2 OFFGEN, 3 PKDOWN. -/
def polFlags (kc : Keycut) : Nat := exgLe kc 10 2 0
/-- PLIM. -/
def polLimit (kc : Keycut) : Nat := exgLe kc 12 1 3
/-- PWIN in ns. -/
def polWindow (kc : Keycut) : Nat := exgLe kc 14 2 1440 * 60 * 10 ^ 9
/-- SRATE. -/
def polRate (kc : Keycut) : Nat := exgLe kc 16 4 1000
/-- SBURST. -/
def polBurst (kc : Keycut) : Nat := exgLe kc 20 4 100
/-- PQUOTA. -/
def polQuota (kc : Keycut) : Nat := exgLe kc 24 4 16384
/-- NDEC. -/
def polNdec (kc : Keycut) : Nat := exgLe kc 28 1 0
/-- The registered decimalization tables. -/
def polTables (kc : Keycut) : List Bytes :=
  (List.range (polNdec kc)).map (fun i => slice ((exg kc).getD []) (32 + 8 * i) 8)

/-! ### Strength (R271, R272) -/

/-- Key strength in bits: an RSA key's by its span, an EC key's by its curve byte. -/
def strength (k : Key) : Nat :=
  match k.hdr.ktype with
  | 1 => 80
  | 2 => 112
  | 3 => 128
  | 4 => 192
  | 5 => 256
  | 6 => 128
  | 7 => 256
  | 8 => 128
  | 9 => 192
  | 10 => 256
  | 11 => 192
  | 12 => 256
  | 13 => if k.hdr.span ≤ 17 then 112 else if k.hdr.span ≤ 33 then 128 else if k.hdr.span ≤ 57 then 152 else 192
  | 14 => (match k.mat with | b :: _ => if b = 2 then 192 else if b = 3 then 256 else 128 | [] => 128)
  | _ => 0

/-- Whether the policy lets KEY2 be wrapped under KEY1 (R271). -/
def mayWrap (kc : Keycut) (k1 k2 : Key) : Bool :=
  k2.hdr.exportability != 0x4E && (k2.hdr.exportability != 0x53 || (polFlags kc).testBit 1) && decide (strength k2 ≤ strength k1)

/-- Whether a PIN translation may go from KEY1 to KEY2 (R272). -/
def mayDown (kc : Keycut) (k1 k2 : Key) : Bool := decide (strength k1 ≤ strength k2) || (polFlags kc).testBit 3

/-- The index of a PIN block format in FMTMAT. -/
def fmtIndex (f : Nat) : Nat := if f = 0 then 0 else if f = 1 then 1 else if f = 3 then 2 else 3

/-- Whether the policy allows a translation from one format to another. -/
def mayTranslate (kc : Keycut) (i j : Nat) : Bool := (polFmt kc).testBit (4 * fmtIndex i + fmtIndex j)

/-! ### Session buckets (R275) -/

/-- A full session bucket. -/
def sessBucketInit : Bucket where
  level := 4294967295 * 10 ^ 9
  last := 0

/-- One token taken from a session's bucket. -/
def takeSession (s : State) (kc : Keycut) (n : Nat) : Bool × State :=
  let b := tget sessBucketInit s.guard.sessions n
  let level := min (polBurst kc * 10 ^ 9) (b.level + polRate kc * (s.now - b.last))
  let ok := decide (10 ^ 9 ≤ level)
  let b' : Bucket := { level := if ok then level - 10 ^ 9 else level, last := s.now }
  (ok, { s with guard := { s.guard with sessions := tset sessBucketInit s.guard.sessions n b' } })

/-! ### Attempt counters (R273, R274) -/

/-- The places of the counter store. -/
def counterMax : Nat := 524288

/-- The tag of a PAN for a partition. -/
def panTag (s : State) (p : Nat) (pan : Bytes) : Word :=
  w64 (leNat (kmac 256 (deriveKey s "GUARD") pan 8 [byte p]))

/-- A counter entry. -/
def findCounter (s : State) (p : Nat) (tag : Word) : Option Counter := s.guard.counters.find? (fun c => c.part == p && c.tag == tag)

/-- A counter entry stored, in place or new; a free one leaves the store. -/
def putCounter (s : State) (c : Counter) : State :=
  let rest := s.guard.counters.filter (fun x => !(x.part == c.part && x.tag == c.tag))
  { s with guard := { s.guard with counters := if c.fails = 0 ∧ c.opened = 0 then rest else rest ++ [c] } }

/-- The entries of a partition. -/
def counterUsed (s : State) (p : Nat) : Nat := (s.guard.counters.filter (fun c => c.part == p)).length

/-- The attempt taken by a verification job: true when it may run. Refusals are counted as R277 gives (R274). -/
def takeAttempt (s : State) (kc : Keycut) (p : Nat) (tag : Word) : Bool × State :=
  let e := match findCounter s p tag with
    | some c => some c
    | none =>
      if s.guard.counters.length < counterMax ∧ counterUsed s p < polQuota kc then
        some { part := p, tag := tag, fails := 0, opened := 0, last := s.now }
      else none
  match e with
  | none => (false, bump s .exgStat p 31 16 1)
  | some c =>
    let c := if c.last + polWindow kc ≤ s.now then { c with fails := 0 } else c
    if polLimit kc ≤ c.fails + c.opened then (false, bump (putCounter s c) .exgStat p 63 48 1)
    else (true, putCounter s { c with opened := c.opened + 1 })

/-- The attempt released at the end of a verification (R274). -/
def endAttempt (s : State) (kc : Keycut) (p : Nat) (tag : Word) (ok : Bool) : State :=
  match findCounter s p tag with
  | none => s
  | some c =>
    let c := { c with opened := c.opened - 1 }
    if ok then putCounter s { c with fails := 0 }
    else
      let c := { c with fails := c.fails + 1, last := s.now }
      let s := putCounter s c
      if c.fails = polLimit kc then bump (audit s 2 p 0xE (wordBytes tag ++ [byte (polLimit kc)])) .exgStat p 47 32 1 else s

/-- A job of a partition refused with GUARD other than by RATE and FULL. -/
def countGuard (s : State) (p : Nat) : State := bump s .exgStat p 63 48 1

/-! ### Registers (R277) -/

/-- EXG_POL. -/
def exgPolWord (s : State) : Word :=
  w64 (polSerial s.kc * 2 ^ 32 + polFmt s.kc * 2 ^ 16 + polLimit s.kc * 2 ^ 12 + polNdec s.kc * 2 ^ 7 + polFlags s.kc % 16)

/-- EXG_PAN of a partition. -/
def exgPanWord (s : State) (p : Nat) : Word := w64 (polQuota s.kc * 2 ^ 20 + counterUsed s p)

end Sys2Proof.Machine
end

