-- ==== Sys2Proof/Machine/Issue.lean ====
section
/-! DEFINITION. How a thread issues a word (R55, R56, R67, R143): what holds it, what faults it, and what it does
when it issues. Every issue row of the table calls `issue`. -/

namespace Sys2Proof.Machine

/-! ### The word a thread would issue -/

/-- The held copy at the thread's program counter, and whether its line was poisoned (R132, R479). -/
def curWord (th : Thread) : Option (Nat × Bool) :=
  let pc := th.arch.pc.toNat
  match alook th.held (pc / 32 * 32) with
  | none => none
  | some (ws, bad) => some (nth 0 ws (pc % 32 / 8), bad)

/-- The guard of a word: whether it is pending, and whether the word executes (R59). -/
def guardOf (th : Thread) (f : WordForm) : Bool × Bool :=
  match f with
  | .long (some (b, gp)) _ => (pending th th.arch (bitPort b), tbit th.arch b == !gp)
  | _ => (false, true)

/-- The guard's port, when the word has one. -/
def guardPort : WordForm → List Nat
  | .long (some (b, _)) _ => [bitPort b]
  | _ => []

/-! ### Memory accesses of a word -/

/-- Bits of `m` that are set among the low 16. -/
def maskCount (m : Nat) : Nat := ((List.range 16).filter (fun i => m.testBit i)).length

/-- The digits of a call frame for a mask (R122). -/
def frameDigits (m : Nat) : Nat := 32 + 64 * maskCount (m % 65536)

/-- The access that a word makes next: address, digits, kind of R202. A word that reads str.ld first loads. -/
def nextAccess (s : State) (t : Nat) (ms : List Mv) : Option (Nat × Nat × Nat) :=
  let th := thr s t
  let a := th.arch
  match ms.find? (fun m => m.src == .port 0x152 && th.strData.isNone) with
  | some m => some ((port a 0x150).toNat, m.w, 2)
  | none =>
    ms.findSome? (fun m =>
      let v := (mvValue s t a m).toNat % 2 ^ 56
      let ldw := (port a 0x140).toNat / 256 % 16 + 1
      if m.dst = 0x141 then some (v, ldw, 2)
      else if m.dst = 0x142 then some (v, ldw, 4)
      else if m.dst = 0x145 then some (v, a.stW, 3)
      else if m.dst = 0x146 then some (v, a.stW, 4)
      else if m.dst = 0x14A ∨ m.dst = 0x14B ∨ m.dst = 0x14C then some (v, a.atW, 4)
      else if m.dst = 0x153 then some ((port a 0x151).toNat, m.w, 3)
      else if m.dst = 0x110 then
        let n := frameDigits v
        some (((port a 0x1C3).toNat + 2 ^ 56 - n) % 2 ^ 56, n, 3)
      else if m.dst = 0x111 then some ((port a 0x1C3).toNat, 32, 2)
      else if 0x310 ≤ m.dst ∧ m.dst < 0x358 then some (v, 128, 2)
      else none)

/-- Whether a word makes one of the accesses that a fence holds (R162). -/
def fenced (ms : List Mv) (acc : Bool) : Bool :=
  acc || ms.any (fun m => m.dst == 0x063 || m.dst == 0x064 || m.src == .port 0x063)

/-- The digits of an access as physical addresses, in ascending order. -/
def pieceDigits (ps : Pieces) : List Nat := ps.flatMap (fun p => (List.range p.2).map (p.1 + ·))

/-- How a thread's buffered stores serve a load (R176): nothing overlaps, the data, or a partial overlap. -/
inductive Fwd where
  | none
  | data (w : Word) (bad : Bool)
  | part
  deriving DecidableEq, Repr

/-- Store-buffer forwarding, judged on the youngest overlapping store (R176). -/
def forward (sb : List SbEntry) (ps : Pieces) : Fwd :=
  let want := pieceDigits ps
  match sb.reverse.find? (fun e => (pieceDigits e.pieces).any (fun a => want.contains a)) with
  | none => .none
  | some e =>
    let have_ := pieceDigits e.pieces
    if want.all (fun a => have_.contains a) then
      .data (w64 (digitsNat (want.map (fun a => BitVec.ofNat 4 (e.data.toNat >>> (4 * have_.idxOf a)))))) e.poison
    else .part

/-- The data forwarded to a load, when it is served from the buffer. -/
def fwdData : Fwd → Option (Word × Bool)
  | .data w b => some (w, b)
  | _ => none

/-- The 16-digit reads of a return frame from `ssp` (R124): the header's two, then the registers of the mask. -/
def frameRegs (m : Nat) : List Nat := maskRegs (m % 65536)

/-- A data read as a thread sees it now: its own buffered store, else memory (R176). -/
def seenNow (s : State) (t : Nat) (ps : Pieces) : Word × Bool :=
  match forward (thr s t).sbuf ps with
  | .data w b => (w, b)
  | _ => loadPieces s ps

/-- The mask in the frame header at ts.ssp (R122). -/
def frameMask (s : State) (t : Nat) : Nat :=
  match thrAccess s t (((port (thr s t).arch 0x1C3).toNat + 16) % 2 ^ 56) 16 2 with
  | .ok ps => (seenNow s t ps).1.toNat % 65536
  | _ => 0

/-- A return's whole frame, once its header translates (R124). -/
def retAccess (s : State) (t : Nat) : Acc :=
  thrAccess s t ((port (thr s t).arch 0x1C3).toNat) (frameDigits (frameMask s t)) 2

/-- An access spanning more than two pages never occurs for a load or store; a frame is checked page by page. -/
def accessOf (s : State) (t : Nat) (ms : List Mv) : Option (Nat × Acc) :=
  match nextAccess s t ms with
  | none => none
  | some (va, n, acc) =>
    let x := thrAccess s t va n acc
    match x with
    | .ok _ =>
      if ms.any (fun m => m.dst == 0x111) ∧ (thr s t).strData.isNone ∧ n = 32 then some (acc, retAccess s t)
      else some (acc, x)
    | _ => some (acc, x)

/-! ### What holds a word (R67, R114, R116, R119, R146, R160 to R162) -/

/-- Destinations whose moves park while a branch is unresolved (R116). -/
def specDst (p : Nat) : Bool :=
  p == 0x0E1 || p == 0x0E2 || p == 0x142 || p == 0x145 || p == 0x146 || p == 0x14A || p == 0x14B || p == 0x14C ||
    p == 0x153 || p == 0x063 || p == 0x064 || (decide (0x300 ≤ p) && decide (p < 0x380)) || isBlank p ||
    p == 0x110 || p == 0x119 || (decide (0x120 ≤ p) && decide (p ≤ 0x12D))

/-- Sources whose reads park while a branch is unresolved (R116). -/
def specSrc (m : Mv) : Bool :=
  match m.src with
  | .port p => p == 0x063 || (decide (0x300 ≤ p) && decide (p < 0x380)) || isBlank p
  | _ => false

/-- Whether a word may make its memory access speculatively: it hits the TLB or is in flat mode, maps ordinary DRAM,
and the partition is not sealed (R116, R119). -/
def specLoadOk (s : State) (t : Nat) (ms : List Mv) : Bool :=
  match accessOf s t ms with
  | none => true
  | some (_, .ok ps) => ps.all (fun p => isDram p.1) && !kcSealed s.kc (thr s t).part
  | some _ => false

/-- The operations a word starts that count in flight (R145, R146). -/
def flyNeed (s : State) (t : Nat) (ms : List Mv) : Nat :=
  (ms.filter (fun m =>
    (unitOfPort m.dst).isSome || (decide (0x104 ≤ m.dst) && decide (m.dst ≤ 0x10B)) || m.dst == 0x110 || m.dst == 0x111 ||
      m.dst == 0x141 || m.dst == 0x142 || m.dst == 0x145 || m.dst == 0x146 || m.dst == 0x14A || m.dst == 0x14B ||
      m.dst == 0x14C || m.dst == 0x153 || m.dst == 0x064 || m.dst == 0x300 ||
      (decide (0x310 ≤ m.dst) && decide (m.dst < 0x358)) || (isBlank m.dst && isTrigger s t m.dst) ||
      m.src == .port 0x152)).length

/-- A cylinder's count of operations in flight. -/
def cylFly (s : State) (t : Nat) : Nat := ((siblings t).map (fun u => flyOf (thr s u))).foldl (· + ·) 0

/-- Threads of the cylinder waiting for a freed count (R147). -/
def flyWaiters (s : State) (t : Nat) : List Nat := (siblings t).filter (fun u => (thr s u).park == .flyC)

/-- The first of a list of threads after thread number `last` of the cylinder. -/
def nextThread (l : List Nat) (t last : Nat) : Option Nat := firstAfter l (16 * (t / 16) + last)

/-- The cylinder limit (R146, R147). -/
def flyCStall (s : State) (t need : Nat) : Bool :=
  let w := flyWaiters s t
  decide (0 < need) && (decide (32 < cylFly s t + need) ||
    (w != [] && nextThread w t (cyl s (cylOf t)).lastFlyC != some t))

/-- Whether a word triggers the divider. -/
def wantsDiv (th : Thread) : Bool :=
  match curWord th with
  | some (w, _) => (movesOf (decodeWord w)).any (fun m => m.dst == 0x0E1 || m.dst == 0x0E2)
  | none => false

/-- The shared divider is busy with another thread, or another waits before this one (R101). -/
def divStall (s : State) (t : Nat) : Bool :=
  let c := cyl s (cylOf t)
  let w := (siblings t).filter (fun u => u == t || ((thr s u).park == .unit && wantsDiv (thr s u)))
  match c.divBusy with
  | some u => u != t
  | none => nextThread w t c.lastDiv != some t

/-- Whether a unit still has an operation of the thread in flight (R81). -/
def unitBusy (th : Thread) (p : Nat) : Bool :=
  th.arch.ops.any (fun o => match o.kind with
    | .unit u _ _ => unitOfPort p == some u
    | .div _ _ _ _ _ _ => unitOfPort p == some .divide
    | .tas _ => p == 0x064
    | .stc _ _ _ _ => p == 0x146
    | .atomic _ _ _ _ _ => p == 0x14A || p == 0x14B || p == 0x14C
    | .engRsv _ => p == 0x300
    | .ejob e _ _ _ _ => p == 0x310 + 8 * (e % 9)
    | .blank q _ => p == q
    | _ => false) ||
  (decide (0x310 ≤ p) && decide (p < 0x358) && p % 8 == 0 && th.jobs.contains ((p - 0x310) / 8))

/-- Whether the thread's seat on the engine is free to carry a job; without a seat the job ends at once (R226). -/
def jobStall (s : State) (t p : Nat) : Bool :=
  decide (0x310 ≤ p) && decide (p < 0x358) && p % 8 == 0 && unitBusy (thr s t) p && holdsSeat s t (9 * krOf t + (p - 0x310) / 8)

/-- Memory operations not yet performed: loads, returns, store-conditionals, atomics. -/
def isMemOp (o : Op) : Bool :=
  match o.kind with
  | .load _ _ _ _ _ _ | .strLoad _ _ _ | .stc _ _ _ _ | .atomic _ _ _ _ _ | .ret _ _ => true
  | _ => false

/-- A test-and-set not yet performed. -/
def isTas (o : Op) : Bool := match o.kind with | .tas _ => true | _ => false

/-- Whether a fence's condition holds (R162). -/
def fenceMet (s : State) (t : Nat) (f : Nat × Nat) : Bool :=
  let th := thr s t
  let st := th.sbuf.all (fun e => decide (f.2 ≤ e.id))
  let kb := th.arch.ops.all (fun o => !(isTas o) || decide (f.2 ≤ o.id))
  let dv := s.inval.all (fun i => i.tid != some t)
  st && (f.1 == 0 || kb) && (decide (f.1 < 2) || dv) && (decide (f.1 < 3) || flyOf th == 0)

/-- Whether the thread waits for its KNK_RTN store to take effect (R376). -/
def rtnPending (th : Thread) : Bool :=
  th.sbuf.any (fun e => e.pieces == [((regPlace .knkRtn).base, 16)] && e.data.getLsbD 0)

/-- Whether the thread waits for the return address of an unpredicted return (R126). -/
def retAwaited (th : Thread) : Bool := th.spec.any (fun b => b.predicted.isNone)

/-- Partial overlap of a load with the thread's buffered stores (R176); atomics, ldr.t and stc.t do not forward. -/
def overlapStall (s : State) (t : Nat) (ms : List Mv) : Bool :=
  let th := thr s t
  match nextAccess s t ms with
  | some (va, n, 2) =>
    if ms.any (fun m => m.dst == 0x111) && decide (n = 32) then
      (List.range (frameDigits (frameMask s t) / 16)).any (fun i =>
        match thrAccess s t ((va + 16 * i) % 2 ^ 56) 16 2 with
        | .ok ps => forward th.sbuf ps == .part
        | _ => false)
    else if ms.any (fun m => decide (0x310 ≤ m.dst) && decide (m.dst < 0x358)) && th.strData.isNone &&
        !ms.any (fun m => m.src == .port 0x152) then false
    else match thrAccess s t va n 2 with
      | .ok ps => forward th.sbuf ps == .part
      | _ => false
  | _ => false

/-- Whether a blank port of the thread cannot take the move yet: a probe of the blank, a new image not loaded for a
command of the new turn, or a gated blank (R337, R434, R474). -/
def blankStall (s : State) (t : Nat) (ms : List Mv) : Bool :=
  ms.any (fun m => isBlank m.dst || (match m.src with | .port p => isBlank p | _ => false)) &&
    (probing s 0xA (krOf t) || (kring s (krOf t)).gated ||
      ((kring s (krOf t)).blankLoading && decide ((kring s (krOf t)).blankTurn ≤ thrTurn s t)))

/-- Whether a move goes to an engine port of a keyring whose engines are gated (R434). -/
def gateStall (s : State) (t : Nat) (ms : List Mv) : Bool :=
  (kring s (krOf t)).gated && ms.any (fun m => decide (0x300 ≤ m.dst) && decide (m.dst < 0x358))

/-- The sticky bit that a trigger's issue would set and whether it is pending (R92). -/
def stickyPending (th : Thread) : Bool := pending th th.arch 0x50 || pending th th.arch 0x51 || pending th th.arch 0x52

/-- What may hold a word that executes, in the order in which its causes are judged (R67, R116, R146, R162, R164). -/
def wordCauses (s : State) (t : Nat) (ms : List Mv) : List (Park × Bool) :=
  let th := thr s t
  let a := th.arch
  let need := flyNeed s t ms
  [(.source, ms.any (sourceStall s t a)),
   (.spec, th.spec != [] && (ms.any (fun m => specDst m.dst || specSrc m) || !specLoadOk s t ms)),
   (.source, stickyPending th && ms.any (fun m => (unitOfPort m.dst).isSome || m.dst == 0x50 || m.dst == 0x51 || m.dst == 0x52)),
   (.unit, ms.any (fun m => (unitBusy th m.dst && !(decide (0x310 ≤ m.dst) && decide (m.dst < 0x358))) || jobStall s t m.dst)),
   (.unit, gateStall s t ms),
   (.unit, ms.any (fun m => m.dst == 0x0E1 || m.dst == 0x0E2) && divStall s t),
   (.flyT, decide (8 < flyOf th + need)),
   (.flyC, flyCStall s t need),
   (.memory, !(th.fence.all (fenceMet s t)) && fenced ms (nextAccess s t ms).isSome),
   (.memory, ms.any (fun m => m.dst == 0x063) && (th.sbuf != [] || a.ops.any (fun o => isMemOp o || isTas o))),
   (.memory, ms.any (fun m => m.src == .port 0x063) && a.ops.any isTas),
   (.memory, ms.any (fun m => m.dst == 0x121) && (flyOf th != 0 || th.sbuf != [])),
   (.memory, ms.any (fun m => m.dst == 0x12C) && th.sbuf != []),
   (.memory, match th.walk with | some k => k.waits | none => false),
   (.memory, overlapStall s t ms),
   (.source, a.ops.any (fun o => match o.kind with | .strLoad _ _ _ => true | _ => false))]

/-- What may hold a thread's next word. A word that faults by its encoding, and one whose guard is false, waits for nothing more
(R71, R59). -/
def causes (s : State) (t : Nat) : List (Park × Bool) :=
  let th := thr s t
  [(.memory, rtnPending th), (.fetch, retAwaited th)] ++
    match curWord th with
    | none => [(.fetch, true)]
    | some (w, bad) =>
      let f := decodeWord w
      let g := guardOf th f
      [(.spec, th.heldFault.isSome), (.spec, th.spec.any (fun b => decide (4 ≤ b.past))),
       (.mulvis, th.arch.ops.any (fun o => match o.kind with | .mul _ _ n _ => decide (n ≤ th.arch.slot) | _ => false))] ++
        if bad then []
        else (.unit, blankStall s t (movesOf f)) ::
          if (encFault s t f).isSome then []
          else if g.1 then [(.source, true)]
          else if !g.2 then []
          else wordCauses s t (movesOf f)

/-- What holds a thread's next word, the first cause that applies; none when it may issue or fault (R67, R164). -/
def stall (s : State) (t : Nat) : Option Park := ((causes s t).find? (·.2)).map (·.1)

/-! ### Faults of a word (R71, R94, R120, R209, R479) -/

/-- A synchronous knock raised at a word: on a speculative path it is held (R120). -/
def raiseSync (s : State) (t : Nat) (k : SyncKnock) : State :=
  modThr s t (fun th =>
    if th.spec = [] then { th with sync := some k, strData := none } else { th with heldFault := some k, strData := none })

/-- A move fault or POISON knock at the thread's next word. -/
def wordFault (s : State) (t cause : Nat) : State :=
  raiseSync s t { cause := cause, epc := (thr s t).arch.pc, fva := 0, finfo := 0, translation := false }

/-- CYL_FINFO of a translation fault (R210): LEVEL, DETAIL, ACC, NEST. -/
def finfoOf (level detail acc : Nat) (nest : Bool) : Word := w64 (level * 4096 + detail * 256 + acc * 16 + b2n nest)

/-- A translation fault: cause #20 for a fetch, #21 for data (R209). -/
def xlFault (s : State) (t va detail level acc : Nat) : State :=
  raiseSync s t {
    cause := if acc = 1 then 0x20 else 0x21, epc := (thr s t).arch.pc, fva := BitVec.ofNat 56 va,
    finfo := finfoOf level detail acc false, translation := true }

/-! ### What a word does when it issues -/

/-- A thread's discardable state changed. -/
def modArch (s : State) (t : Nat) (f : Arch → Arch) : State := modThr s t (fun th => { th with arch := f th.arch })

/-- The word after the current one, through a repeat boundary where the block ends (R128). -/
def advance (a : Arch) : Arch :=
  if !a.rep.active then { a with pc := a.pc + 8 }
  else if a.rep.pos + 1 < a.rep.len then { a with pc := a.pc + 8, rep := { a.rep with pos := a.rep.pos + 1 } }
  else if port a 0x11A = 0 then { a with pc := a.pc + 8, rep := { a.rep with active := false } }
  else
    { setPort a 0x11A (port a 0x11A - 1) with
      pc := a.pc - BitVec.ofNat 56 (8 * a.rep.pos)
      rep := { a.rep with pos := 0 } }

/-- A transfer ends the repeat of the block it leaves (R131). -/
def transfer (a : Arch) (target : VAddr) : Arch :=
  if a.rep.active then { setPort a 0x11A 0 with pc := target, rep := { a.rep with active := false } }
  else { a with pc := target }

/-- The staged target of a trigger word (R107, R108); wraps modulo 2^56. -/
def stagedTarget (a : Arch) : VAddr :=
  if a.tgtAbs then BitVec.ofNat 56 (port a 0x100).toNat
  else a.pc + BitVec.ofInt 56 (8 * signedOf 32 (port a 0x101).toNat)

/-- A digit-unit operation started: in flight with its results, its sticky bit set at issue (R80, R92). -/
def startUnit (s : State) (t : Nat) (u : DUnit) (r : UnitRes) (bit : Option (Nat × Bool)) : State :=
  modThr s t (fun th =>
    let th := startOp th (.unit u r.writes bit)
    match r.sticky with
    | some b => { th with arch := setBit th.arch b true }
    | none => th)

/-- A product started by the word in slot s: visible at slot s + 4 or s + 7, never before an earlier one (R96, R97). The
slot of the trigger word is already counted here. -/
def startMul (s : State) (t n : Nat) (p : Word × Word) : State :=
  modThr s t (fun th =>
    let own := th.arch.slot + (if n ≤ 8 then 3 else 6)
    let vis := th.arch.ops.foldl (fun m o => match o.kind with | .mul _ _ v _ => max m v | _ => m) own
    startOp th (.mul p.1 p.2 vis false))

/-- A division started on the shared divider, with what an abandonment restores (R101, R102). -/
def startDiv (s : State) (t : Nat) (signed : Bool) (n : Nat) (pre : Arch) (v : Word) : State :=
  let a := port pre 0x0E0
  let r := if signed then divsUnit n a v else divUnit n (train n a) (train n v)
  let steps := divSteps (cyl s (cylOf t)).level signed n a v
  let s := modCyl s (cylOf t) (fun c => { c with divBusy := some t, lastDiv := t % 16 })
  modThr s t (fun th =>
    let th := startOp th (.div signed steps r.writes pre.pc pre.rep (port pre 0x11A))
    match r.sticky with
    | some b => { th with arch := setBit th.arch b true }
    | none => th)

/-- A compare started; cmp.bi may name a bit to receive the result (R86, R87). -/
def startCmp (s : State) (t p n : Nat) (pre : Arch) (v : Word) : State :=
  let r := cmpRelation p n (port pre 0x0B0) v
  let bi := (port pre 0x0B6).toNat
  startUnit s t .compare (cmpRes r) (if bi < 32 then some (bi, r) else none)

/-- A digit-unit trigger at width `n` (R75, R82 to R95, R99); `pre` is the state before the word (R65). -/
def unitTrigger (s : State) (t p n : Nat) (pre : Arch) (v : Word) : State :=
  let x := train n v
  let a := train n (port pre 0x080)
  let ci := (port pre 0x086).toNat
  let l := train n (port pre 0x090)
  let sw := pre.shW
  let sh := train sw (port pre 0x0A0)
  let c := v.toNat % 256
  let d := train n (port pre 0x0C0)
  if p = 0x081 then startUnit s t .add (addUnit n a x 0) none
  else if p = 0x082 then startUnit s t .add (subUnit n a x 0) none
  else if p = 0x083 then startUnit s t .add (addUnit n a x ci) none
  else if p = 0x084 then startUnit s t .add (subUnit n a x ci) none
  else if p = 0x085 then startUnit s t .add (negUnit n x) none
  else if p = 0x091 then startUnit s t .logic (logicUnit n (l &&& x)) none
  else if p = 0x092 then startUnit s t .logic (logicUnit n (l ||| x)) none
  else if p = 0x093 then startUnit s t .logic (logicUnit n (l ^^^ x)) none
  else if p = 0x094 then startUnit s t .logic (logicUnit n (l &&& (16 ^ n - 1 - x))) none
  else if p = 0x095 then startUnit s t .logic (logicUnit n (16 ^ n - 1 - x)) none
  else if p = 0x0A1 then startUnit s t .shift (shlUnit sw sh c) none
  else if p = 0x0A2 then startUnit s t .shift (shrUnit sw sh c) none
  else if p = 0x0A3 then startUnit s t .shift (sarUnit sw sh c) none
  else if p = 0x0A4 then startUnit s t .shift (rolUnit sw sh c) none
  else if p = 0x0A5 then startUnit s t .shift (rorUnit sw sh c) none
  else if p ≤ 0x0B5 then startCmp s t p n pre v
  else if p = 0x0C1 then startUnit s t .decimal (daddUnit n d x) none
  else if p = 0x0C2 then startUnit s t .decimal (dsubUnit n d x) none
  else if p = 0x0C3 then startUnit s t .decimal (dchkUnit n x) none
  else if p = 0x0C4 then startUnit s t .decimal (dcvtUnit n x) none
  else if p = 0x0C5 then startUnit s t .decimal (bcvtUnit x) none
  else if p = 0x0D1 then startMul s t n (mulUnsigned n (port pre 0x0D0) v)
  else if p = 0x0D2 then startMul s t n (mulSigned n (port pre 0x0D0) v)
  else if p = 0x0E1 then startDiv s t false n pre v
  else startDiv s t true n pre v

/-- The pieces of a thread's access that has been checked. -/
def okPieces (s : State) (t va n acc : Nat) : Pieces := (accOk (thrAccess s t va n acc)).getD []

/-- Every page of an access used in the TLB (R206); a speculative access leaves no trace (R118). -/
def touch (s : State) (t va n acc : Nat) : State :=
  if (thr s t).spec ≠ [] then s
  else
    let s := tlbUse s t (va % 2 ^ 56) acc
    if va % 8192 + n ≤ 8192 then s else tlbUse s t ((va + n - 1) % 2 ^ 56) acc

/-- A store handed to the store buffer (R175). -/
def enterStore (th : Thread) (ps : Pieces) (w : Nat) (data : Word) (bad : Bool) : Thread :=
  { th with sbuf := th.sbuf ++ [{ id := th.nextOp, pieces := ps, w := w, data := lowDigits w data, poison := bad }] }

/-- One store: its order number is then used up. -/
def oneStore (s : State) (t va w : Nat) (data : Word) (bad : Bool) : State :=
  let ps := okPieces s t va w 3
  modThr (touch s t va w 3) t (fun th => { enterStore th ps w data bad with nextOp := th.nextOp + 1 })

/-- A frame written below ts.ssp by 16-digit stores, in order, as one operation (R123, R368). -/
def frameStores (s : State) (t va : Nat) (items : List (Word × Bool)) : State :=
  let ps := (List.range items.length).map (fun i => okPieces s t ((va + 16 * i) % 2 ^ 56) 16 3)
  let s := touch s t va (16 * items.length) 3
  modThr s t (fun th =>
    { (items.zip ps).foldl (fun th x => enterStore th x.2 16 x.1.1 x.1.2) th with nextOp := th.nextOp + 1 })

/-- call.t (R121 to R123, R125). -/
def doCall (s : State) (t : Nat) (pre : Arch) (v : Word) : State :=
  let m := v.toNat % 65536
  let va := ((port pre 0x1C3).toNat + 2 ^ 56 - frameDigits m) % 2 ^ 56
  let ret := pre.pc + 8
  let items := (w64 ret.toNat, false) :: (w64 m, false) :: (maskRegs m).map (fun r => (greg pre r, pre.poison.contains r))
  let s := frameStores s t va items
  modArch s t (fun a =>
    { transfer (setPort a 0x1C3 (w64 va)) (stagedTarget pre) with ras := (a.ras ++ [ret]).drop ((a.ras.length + 1) - 8) })

/-- ret.t (R124 to R126): the frame reads start, ts.ssp rises, and the thread goes on at the predicted address. -/
def doRet (s : State) (t : Nat) (pre : Arch) : State :=
  let ssp := (port pre 0x1C3).toNat
  let m := frameMask s t
  let sb := (thr s t).sbuf
  let item := fun i =>
    let ps := okPieces s t ((ssp + 16 * i) % 2 ^ 56) 16 2
    (ps, fwdData (forward sb ps))
  let regs := maskRegs m
  let s := touch s t ssp (frameDigits m) 2
  modThr s t (fun th =>
    let th := startOp th (.ret [item 0, item 1] ((List.range regs.length).map (fun j => (nth 0 regs j, item (j + 2)))))
    let id := th.nextOp - 1
    let top := th.arch.ras.getLast?
    let a := { setPort th.arch 0x1C3 (w64 ((ssp + frameDigits m) % 2 ^ 56)) with ras := th.arch.ras.dropLast }
    let g := top.getD pre.pc
    let b : Branch := { op := id, cond := .ret, predicted := top.map (fun _ => true), guess := g, saved := transfer a g, along := transfer a g, past := 0 }
    { th with arch := transfer a g, spec := th.spec ++ [b] })

/-- A branch trigger (R109 to R117): it is in flight until it resolves, and the thread follows the static prediction. -/
def doBranch (s : State) (t : Nat) (pre : Arch) (cond : BranchCond) : State :=
  let target := stagedTarget pre
  modThr s t (fun th =>
    let th := startOp th .branch
    let id := th.nextOp - 1
    let taken := transfer th.arch target
    let fall := advance th.arch
    let p := decide (target.toNat ≤ pre.pc.toNat)
    let b : Branch := { op := id, cond := cond, predicted := some p, guess := target, saved := if p then fall else taken, along := if p then taken else fall, past := 0 }
    { th with arch := if p then taken else fall, spec := th.spec ++ [b] })

/-- A branch on a thread bit: resolved by its value now, or once its pending write lands (R110). -/
def bitBranch (s : State) (t : Nat) (pre : Arch) (i : Nat) (sense : Bool) : State :=
  doBranch s t pre (if pending (thr s t) pre (bitPort i) then .onBit i sense else .known (tbit pre i == sense))

/-- rep.t (R127, R131): a new block of rep.len words follows, or is skipped. -/
def doRepeat (s : State) (t : Nat) (pre : Arch) (v : Word) : State :=
  let len := (port pre 0x118).toNat
  let c := v.toNat % 2 ^ 32
  modArch s t (fun a =>
    if c = 0 then
      { transfer a (a.pc + BitVec.ofNat 56 (8 + 8 * len)) with rep := { a.rep with active := false } }
    else
      { setPort a 0x11A (w64 (c - 1)) with pc := a.pc + 8, rep := { active := true, len := len, pos := 0 } })

/-- The ports that thr.start.t resets: the digit units', st.d, at.d, cb.tgt, cb.rel and imm.hi (R79, R107, R142). -/
def startClears (p : Nat) : Bool :=
  (decide (0x080 ≤ p) && decide (p ≤ 0x101)) || p == 0x144 || p == 0x148 || p == 0x1CF

/-- A thread's units, staged target and stack as thr.start.t leaves them (R79, R107, R126, R142). A repeat that was active
has ended (R131). -/
def startedArch (a : Arch) (pc : VAddr) : Arch :=
  { archInit with
    pc := pc, g := a.g, bits := a.bits
    ports := (if a.rep.active then (setPort a 0x11A 0).ports else a.ports).filter (fun kv => !startClears kv.1)
    poison := a.poison.filter (fun p => !startClears p) }

/-- Sources active on a thread become inactive (R380). -/
def dropActive (s : State) (t : Nat) : State :=
  (srcNums s).foldl (fun s n => if (src s n).active ∧ (src s n).claimer = t then modSrc s n (fun x => { x with active := false }) else s) s

/-- thr.start.t (R142). -/
def doStart (s : State) (t : Nat) (pre : Arch) (v : Word) : State :=
  let u := 16 * (t / 16) + v.toNat % 256
  let x := thr s u
  if u ≠ t ∧ x.st = .halt ∧ x.part = (thr s t).part then
    dropActive (putThr s u { x with
      st := .ready, park := .no, arch := startedArch x.arch (stagedTarget pre), held := [], prio := [], runPri := 0,
      frames := 0, epcs := [], exitWin := false, fresh := 0, fromWait := 0, parity := false, strData := none, fence := [] }) u
  else s

/-- A thread enters HALT: its reservation and seats end and its items return to their queues (R154, R223, R297). -/
def haltThr (s : State) (t : Nat) : State :=
  let s := modThr s t (fun th => { th with st := .halt, resv := none, sync := none, parity := false, entering := false, direct := false, walk := none })
  rewindItems (endSeats s t) t

/-- thr.wait.t (R141). -/
def doWait (s : State) (t : Nat) : State :=
  let th := thr s t
  if th.inbox ≠ [] ∨ anyClaim s t then s else putThr s t { th with st := .wait }

/-- thr.yield.t (R144). -/
def doYield (s : State) (t : Nat) : State :=
  modThr s t (fun th => { th with yieldFor := (siblings t).filter (fun u => u != t && (thr s u).st == .ready) })

/-- A write of bs.k, performed in the keyring's single order (R150, R152). -/
def writeKbit (s : State) (t i : Nat) (b : Bool) : State :=
  modKr s (krOf t) (fun k => { k with kbits := tset false k.kbits i b })

/-- A move to a blank port crosses into the fabric; a trigger makes its RESP port pending (R336). -/
def blankWrite (s : State) (t p : Nat) (v : Word) : State :=
  match (kring s (krOf t)).blank.bind (fun b => blankPort b (p - 0x380)) with
  | none => s
  | some d =>
    let s := if d.dir.testBit 1 then modArch s t (fun a => setPort a p (if d.width = 0 then v else lowDigits d.width v)) else s
    if d.kind = 1 then
      modThr s t (fun th => startOp th (.blank p (if d.resp = 0xFF then none else some (0x380 + d.resp))))
    else s

/-- One executed move of a word that issues. `pre` is the thread's state before the word (R65). Transfers of control
are made by `flow`, after every move of the word. -/
def commitMove (pre : Arch) (t : Nat) (s : State) (m : Mv) : State :=
  let v := mvValue s t pre m
  let va := v.toNat % 2 ^ 56
  let p := m.dst
  if (unitOfPort p).isSome then unitTrigger s t p m.w pre v
  else if p = 0x141 ∨ p = 0x142 then
    let n := (port pre 0x140).toNat / 256 % 16 + 1
    let r := (port pre 0x140).toNat % 256
    let acc := if p = 0x141 then 2 else 4
    let ps := okPieces s t va n acc
    let s := touch s t va n acc
    modThr s t (fun th =>
      { startOp th (.load r n (BitVec.ofNat 56 va) ps (if p = 0x141 then fwdData (forward th.sbuf ps) else none) (p == 0x142)) with
        resv := if p = 0x142 ∧ !(th.arch.ops.any (fun o => match o.kind with | .stc _ _ _ _ => true | _ => false)) then none else th.resv })
  else if p = 0x145 then oneStore s t va pre.stW (port pre 0x144) (pre.poison.contains 0x144)
  else if p = 0x146 then
    let ps := okPieces s t va pre.stW 4
    modThr (touch s t va pre.stW 4) t (fun th => startOp th (.stc pre.stW ps (lowDigits pre.stW (port pre 0x144)) (pre.poison.contains 0x144)))
  else if p = 0x14A ∨ p = 0x14B ∨ p = 0x14C then
    let ps := okPieces s t va pre.atW 4
    modThr (touch s t va pre.atW 4) t (fun th =>
      startOp th (.atomic (p - 0x14A) pre.atW ps (lowDigits pre.atW (port pre 0x148)) (lowDigits pre.atW (port pre 0x149))))
  else if p = 0x153 then
    let d := (port pre 0x151).toNat
    let s := oneStore s t d m.w v false
    modArch s t (fun a => setPort a 0x151 (w64 ((d + m.w) % 2 ^ 56)))
  else if p = 0x064 then modThr s t (fun th => startOp th (.tas (v.toNat % 4096)))
  else if p = 0x063 then writeKbit s t ((port pre 0x062).toNat % 4096) (v.getLsbD 0)
  else if p = 0x300 then reserveSeat s t (v.toNat % 16)
  else if p = 0x301 then endSeat s t (9 * krOf t + v.toNat % 16)
  else if 0x310 ≤ p ∧ p < 0x358 then submitJob (touch s t va 128 2) t ((p - 0x310) / 8) va (okPieces s t va 128 2)
  else if isBlank p then blankWrite s t p v
  else if p = 0x12D then modThr s t (fun th => { th with fence := th.fence ++ [(v.toNat % 16, th.nextOp)] })
  else if p = 0x12C then modThr s t (fun th => { th with held := [] })
  else if p = 0x122 then doYield s t
  else if p = 0x123 then doStart s t pre v
  else if isTrigger s t p then s
  else modArch s t (fun a => writePort s t a p m.w v)

/-- The ports that decide where the thread goes, or whether it goes on (R109 to R127, R141, R142). -/
def transfers (p : Nat) : Bool :=
  (decide (0x104 ≤ p) && decide (p ≤ 0x111)) || p == 0x119 || p == 0x120 || p == 0x121

/-- Where the thread goes after the word (R107 to R131). -/
def flow (pre : Arch) (t : Nat) (s : State) (ms : List Mv) : State :=
  match ms.find? (fun m => transfers m.dst) with
  | none => modArch s t advance
  | some m =>
    let v := mvValue s t pre m
    let p := m.dst
    if p ≤ 0x109 then doBranch s t pre (.known (cbRelation p m.w (port pre 0x102) v))
    else if p = 0x10A then bitBranch s t pre (v.toNat % 4096) true
    else if p = 0x10B then bitBranch s t pre (v.toNat % 4096) false
    else if p = 0x10C then modArch s t (fun a => transfer a (BitVec.ofNat 56 v.toNat))
    else if p = 0x10D then
      modArch s t (fun a => transfer a (pre.pc + BitVec.ofInt 56 (8 * signedOf 32 (signedPort m.w 8 v).toNat)))
    else if p = 0x110 then doCall s t pre v
    else if p = 0x111 then doRet s t pre
    else if p = 0x119 then doRepeat s t pre v
    else if p = 0x120 then doWait (modArch s t advance) t
    else haltThr (modArch s t advance) t

/-- The sticky bit that a word's triggers set, for the arithmetic-fault knock (R94). -/
def stickySet (s s' : State) (t : Nat) (pre : Arch) (ms : List Mv) : Option Nat :=
  (ms.findSome? (fun m =>
    if (unitOfPort m.dst).isNone then none
    else
      let n := m.w
      let v := mvValue s t pre m
      let x := train n v
      if m.dst = 0x085 then (negUnit n x).sticky
      else if m.dst = 0x0C1 then (daddUnit n (train n (port pre 0x0C0)) x).sticky
      else if m.dst = 0x0C2 then (dsubUnit n (train n (port pre 0x0C0)) x).sticky
      else if m.dst = 0x0C4 then (dcvtUnit n x).sticky
      else if m.dst = 0x0C5 then (bcvtUnit x).sticky
      else if m.dst = 0x0E1 then (divUnit n (train n (port pre 0x0E0)) x).sticky
      else if m.dst = 0x0E2 then (divsUnit n (port pre 0x0E0) v).sticky
      else none)).filter (fun b => tbit (thr s' t).arch b)

/-- The arithmetic-fault knock of a word that set a sticky bit with ts.afe set: at the next word (R94). -/
def arithFault (s : State) (t : Nat) (b : Option Nat) (afe : Bool) : State :=
  match b with
  | some b =>
    if afe then
      raiseSync s t { cause := stickyCause b, epc := (thr s t).arch.pc, fva := 0, finfo := 0, translation := false }
    else s
  | none => s

/-- A word's sticky bit set last: it wins over a write of the same word (R92). -/
def applySticky (s : State) (t : Nat) (b : Option Nat) : State :=
  match b with
  | some i => modArch s t (fun a => setBit a i true)
  | none => s

/-- A word takes its issue slot (R55, R61, R114, R143, R144, R147). -/
def countSlot (s : State) (t : Nat) (appends : Bool) : State :=
  let w := flyWaiters s t
  let s := modCyl s (cylOf t) (fun c => { c with
    lastIssued := t % 16, lastFlyC := if w.contains t then t % 16 else c.lastFlyC })
  let s := modThr s t (fun th => { th with
    st := .ready, park := .no, fresh := 0, fromWait := if th.fromWait = 1 then 0 else th.fromWait
    lastPc := th.arch.pc, lastRep := th.arch.rep, lastCnt := port th.arch 0x11A
    spec := th.spec.map (fun b => { b with past := b.past + 1 })
    arch := { th.arch with
      slot := th.arch.slot + 1
      immAcc := if appends then th.arch.immAcc else 0
      immCnt := if appends then th.arch.immCnt else 0 } })
  dropYield s t

/-- Values of str.ld are used up and str.src advances (R69). -/
def useStr (s : State) (t : Nat) (ms : List Mv) : State :=
  match ms.find? (fun m => m.src == .port 0x152) with
  | none => s
  | some m =>
    modThr s t (fun th => { th with
      strData := none
      arch := setPort th.arch 0x150 (w64 (((port th.arch 0x150).toNat + m.w) % 2 ^ 56)) })

/-- A word issues (R55, R65): its moves read the state before it, then the sticky bit, then the transfer. -/
def commitWord (s : State) (t : Nat) (ms : List Mv) : State :=
  let pre := (thr s t).arch
  let s1 := countSlot s t (ms.any (fun m => m.dst == 0x1CF))
  let s2 := ms.foldl (fun s' m => commitMove pre t s' m) s1
  let b := stickySet s s2 t pre ms
  let s3 := useStr (applySticky s2 t b) t ms
  let s4 := flow pre t s3 ms
  arithFault s4 t b ((port pre 0x1C2).getLsbD 0)

/-! ### Issue decisions (R143, R144) -/

/-- Whether a thread is held from issue by the device or by a yield. -/
def heldBack (s : State) (t : Nat) : Bool :=
  let th := thr s t
  th.freezeReq.isSome || th.entering || th.sync.isSome || th.parity || th.freeze.isSome ||
    th.yieldFor.any (fun u => (thr s u).st == .ready)

/-- Whether a thread is next in its cylinder's rotation (R143, R144). -/
def isNext (s : State) (t : Nat) : Bool :=
  let rs := (siblings t).filter (fun u => (thr s u).st == .ready && !heldBack s u)
  nextThread rs t (cyl s (cylOf t)).lastIssued == some t

/-- Whether the fabric runs: power on, entry into WATCH included (R437). -/
def running (s : State) : Bool := s.supply.power == 1 || s.supply.power == 2

/-- Whether a keyring issues: not in thermal hold (R426), its cylinder not in REST (R432). -/
def issuing (s : State) (t : Nat) : Bool := !(kring s (krOf t)).hold && !(cyl s (cylOf t)).rest

/-- The rows of the table that a word belongs to: a destination port, a source port, a fence kind, a blank port, or
none of them. -/
inductive Row where
  | move
  | dst (p : Nat)
  | src (p : Nat)
  | fence (k : Nat)
  | blank
  | ejob
  deriving DecidableEq, Repr

/-- Whether a move's own row is another than MOVE_ISSUE. -/
def hasRow (s : State) (t : Nat) (m : Mv) : Bool :=
  isTrigger s t m.dst || m.dst == 0x063 || m.dst == 0x1CF || isBlank m.dst ||
    (match m.src with | .port p => p == 0x063 || p == 0x152 || isBlank p | _ => false)

/-- Whether a word that executes is of a row. -/
def rowMatch (s : State) (t : Nat) (r : Row) (ms : List Mv) : Bool :=
  match r with
  | .move => !ms.any (hasRow s t)
  | .dst p => ms.any (fun m => m.dst == p)
  | .src p => ms.any (fun m => m.src == .port p)
  | .fence k => ms.any (fun m => m.dst == 0x12D && (mvValue s t (thr s t).arch m).toNat % 16 == k)
  | .blank => ms.any (fun m => isBlank m.dst || (match m.src with | .port p => isBlank p | _ => false))
  | .ejob => ms.any (fun m => decide (0x310 ≤ m.dst) && decide (m.dst < 0x358) && m.dst % 8 == 0)

/-- A word's VALUE or POISON fault (R71, R479). -/
def valueFault (s : State) (t : Nat) (f : WordForm) (ms : List Mv) : Option Nat :=
  let a := (thr s t).arch
  if ms.any (fun m => badValue s t a m.dst (mvValue s t a m) || badRead s t a m) then some 5
  else if (guardPort f ++ ms.flatMap (fun m => readsOf a m (mvValue s t a m))).any (fun p => a.poison.contains p) ||
      (ms.any (fun m => m.src == .port 0x152) && ((thr s t).strData.map (·.2)).getD false) then some 0x31
  else none

/-- Whether a return's header lies in a poisoned line (R124, R479). -/
def headerPoison (s : State) (t : Nat) (ms : List Mv) : Bool :=
  ms.any (fun m => m.dst == 0x111) &&
    (List.range 2).any (fun i =>
      match thrAccess s t (((port (thr s t).arch 0x1C3).toNat + 16 * i) % 2 ^ 56) 16 2 with
      | .ok ps => (seenNow s t ps).2
      | _ => false)

/-- The word executes: it waits for its walk, faults in translation, starts the load of a str.ld, or issues. -/
def executeWord (s : State) (t : Nat) (ms : List Mv) : State :=
  match accessOf s t ms with
  | some (acc, .miss va) =>
    modThr s t (fun th => { th with
      st := .parked, park := .memory, walk := some { va := BitVec.ofNat 56 va, acc := acc, waits := true } })
  | some (acc, .fault va d l) => xlFault s t va d l acc
  | some (_, .ok ps) =>
    if headerPoison s t ms then wordFault s t 0x31
    else match ms.find? (fun m => m.src == .port 0x152 && (thr s t).strData.isNone) with
      | some m =>
        let va := (port (thr s t).arch 0x150).toNat
        modThr (touch s t va m.w 2) t (fun th => { startOp th (.strLoad m.w ps (fwdData (forward th.sbuf ps))) with
          st := .parked, park := .source })
      | none => commitWord s t ms
  | none => commitWord s t ms

/-- A thread's word, taken at an issue decision for the given row (R143). A command whose word is of another row, or
whose thread is not the one the rotation gives, changes nothing. -/
def issueRaw (s : State) (t : Nat) (r : Row) : State :=
  let th := thr s t
  if !(running s && issuing s t && th.st == .ready && !heldBack s t && isNext s t) then s
  else match curWord th with
  | none => if r = .move then putThr s t { th with st := .parked, park := .fetch } else s
  | some (w, bad) =>
    let f := decodeWord w
    let ms := movesOf f
    match stall s t with
    | some c =>
      if rowMatch s t r ms || r == .move then
        putThr s t { th with st := .parked, park := c }
      else s
    | none =>
      if bad then (if r = .move then wordFault s t 0x31 else s)
      else match encFault s t f with
      | some c => if r = .move then wordFault s t c else s
      | none =>
        let g := guardOf th f
        if th.arch.poison.any (fun p => (guardPort f).contains p) then (if r = .move then wordFault s t 0x31 else s)
        else if !g.2 then
          (if r = .move then modArch (countSlot s t false) t advance else s)
        else match valueFault s t f ms with
        | some c => if r = .move ∨ rowMatch s t r ms then wordFault s t c else s
        | none => if rowMatch s t r ms then executeWord s t ms else s

/-- A parked thread whose cause has ended becomes READY, or waits on with the cause that holds it now (R143, R147, R164);
fences that hold are forgotten (R162). -/
def settleThr (s : State) (t : Nat) : State :=
  let th := thr s t
  let th := if th.fence = [] then th else { th with fence := th.fence.filter (fun f => !fenceMet s t f) }
  let s := if th = thr s t then s else rawThr s t th
  if th.st ≠ .parked then s
  else match stall s t with
  | none => putThr s t { th with st := .ready }
  | some c => if (causes s t).contains (th.park, true) then s else putThr s t { th with park := c }

/-- Every thread settled. -/
def settle (s : State) : State := (s.threads.map (·.1)).foldl settleThr s

/-- An issue row of the table. -/
def issue (s : State) (t : Nat) (r : Row) : State := settle (issueRaw s t r)

end Sys2Proof.Machine
end

