-- ==== Sys2Proof/Machine/Jobs.lean ====
section
/-! DEFINITION. How engine jobs end (R226, R230, R231, R243, R534): completion, discard at a turn or quad change, and an
engine's retirement. -/

namespace Sys2Proof.Machine

/-! ### Pieces -/

/-- An access without its first `n` digits. -/
def dropDigits : Nat → Pieces → Pieces
  | _, [] => []
  | n, (a, k) :: ps => if n < k then (a + n, k - n) :: ps else dropDigits (n - k) ps

/-- The first `n` digits of an access. -/
def takeDigits : Nat → Pieces → Pieces
  | _, [] => []
  | n, (a, k) :: ps => if n = 0 then [] else if n ≤ k then [(a, n)] else (a, k) :: takeDigits (n - k) ps

/-- The digits that an access covers. -/
def digitCount (ps : Pieces) : Nat := (ps.map (·.2)).foldl (· + ·) 0

/-- The bytes that an access covers. -/
def pieceBytes (ps : Pieces) : Nat := digitCount ps / 2

/-! ### Completion (R230, R231) -/

/-- The number of jobs that an engine keeps in progress (R534). -/
def inProgress (i : Nat) : Nat := if i < 4 then 2 else if i = 7 then 3 else 1

/-- Whether a status is a refusal (R229). -/
def isRefusal (st : Nat) : Bool := decide (0x20 ≤ st) && decide (st < 0x40)

/-- The seat whose job has ended: it carries no job, and frees if its thread has ended it (R223). -/
def seatJobDone (s : State) (e t : Nat) : State :=
  grantSeats (modEng s e (fun x =>
    match x.seats.find? (fun y => y.tid == t && y.job) with
    | none => x
    | some y =>
      if y.ended then { x with seats := x.seats.erase y }
      else { x with seats := x.seats.map (fun z => if z = y then { z with job := false } else z) })) e 16

/-- A job's effects at completion, in the order of R230; its engine no longer lists it. -/
def finishJob (s : State) (e : Nat) (j : Job) (r : JobResult) : State :=
  let s := r.writes.foldl (fun s w => storeBytes s w.1 w.2) s
  let s := match r.stage with
    | some (n, copies) => stageEntry s n copies false r.op (match copies with | c :: _ => c.hdr.owner | [] => 0)
    | none => s
  let s := match r.attempt with
    | some (p, tag) => endAttempt s (kcOfTurn s j.turn) p tag (r.status == 0x10)
    | none => s
  let s := storePieces s none (takeDigits 4 (dropDigits 108 j.desc)) (natDigits 4 r.status) false
  let s := if (thr s j.tid).part = j.part then jobReport s j.tid (e % 9) r.status else s
  let s := if r.ksrc = 0 then s else raise s j.part r.ksrc
  seatJobDone s e j.tid

/-- What a job that never started reports. -/
def bareResult (st : Nat) : JobResult where
  status := st
  writes := []
  out := []
  ranges := []
  stage := none
  op := 0
  ksrc := 0
  attempt := none

/-- A started job that ends with another status than its own: its OUT is cleared, it stages nothing (R231). -/
def overrideResult (r : JobResult) (st : Nat) : JobResult :=
  if isRefusal r.status then r
  else { r with status := st, writes := if r.out = [] then [] else [(r.out, zeros (pieceBytes r.out))], stage := none }

/-- One job of an engine, queued or running, ends with a status. -/
def endJob (s : State) (e : Nat) (j : Job) (st : Nat) : State :=
  let s := modEng s e (fun x => { x with queue := x.queue.filter (· != j), running := x.running.filter (· != j) })
  finishJob s e j (match j.result with | some r => overrideResult r st | none => bareResult st)

/-- Every job that `f` picks, on every engine, ends with a status. -/
def endJobs (s : State) (f : Job → Bool) (st : Nat) : State :=
  (s.engs.map (·.1)).foldl (fun s e =>
    (((eng s e).running ++ (eng s e).queue).filter f).foldl (fun s j => endJob s e j st) s) s

/-- A job discarded with its command: STALE (R26, R137). -/
def staleThread (s : State) (t : Nat) : State := endJobs s (fun j => j.tid == t) 0x43

/-! ### Engine retirement (R243) -/

/-- Requests for an engine that wait, decided again after a probe (R222). -/
def redecide (s : State) (e : Nat) : State :=
  if (eng s e).svc = 0 then
    (eng s e).waiting.foldl (fun s t => decideSeat (modEng s e (fun x => { x with waiting := x.waiting.filter (· != t) })) t e 3) s
  else grantSeats s e 16

/-- An engine retired by a probe (R243). -/
def retireEngine (s : State) (e : Nat) : State :=
  let s := ((eng s e).running ++ (eng s e).queue).foldl (fun s j => endJob s e j 0x42) s
  redecide (modEng s e (fun x => { x with svc := 0, seats := [] })) e

/-! ### Engine registers (R243) -/

/-- ENG_SEAT. -/
def engSeatWord (s : State) (e : Nat) : Word :=
  let x := eng s e
  w64 (x.waiting.length * 2 ^ 16 + (x.queue.length + x.running.length) * 2 ^ 8 + x.seats.length)

/-- ENG_ERR with its STATE. -/
def engErrWord (s : State) (e : Nat) : Word := putFld (regGet s .engErr e) 35 32 (eng s e).svc

/-- Whether a partition reads ENG_ERR of a keyring. -/
def readsEngErr (s : State) (p e : Nat) : Bool := p == 0 || kcHoldsIn s.kc p (e / 9)

end Sys2Proof.Machine
end

