-- ==== Sys2Proof/Machine/Dma.lean ====
section
/-! DEFINITION. DMA channels (R211 to R216) and TLB invalidation (R207). -/

namespace Sys2Proof.Machine

/-! ### Channels -/

/-- A channel at boot. -/
def chanInit : Chan where
  state := 0
  head := 0
  cur := 0
  desc := none
  offs := 0
  fva := 0
  cause := 0
  detail := 0
  last := 0
  statusDue := none
  poisoned := false
  abort := false
  part := nobody

/-- A channel. -/
def chan (s : State) (c : Nat) : Chan := tget chanInit s.dma c
/-- A channel changed. -/
def modChan (s : State) (c : Nat) (f : Chan → Chan) : State := { s with dma := tmod chanInit s.dma c f }

/-- The engine of a channel. -/
def dmaEngine (c : Nat) : Nat := c / 16
/-- The keyring of a DMA engine (entry 25 of the log). -/
def dmaKr (c : Nat) : Nat := c / 32
/-- The partition that owns a channel. -/
def chanOwner (s : State) (c : Nat) : Nat := kcDmaOwner s.kc c
/-- The partition whose chain a channel runs: a chain keeps its partition when a turn moves the channel (R216). -/
def chainOwner (s : State) (c : Nat) : Nat := if (chan s c).state = 0 then chanOwner s c else (chan s c).part
/-- DMA_CTL.KSRC raised. -/
def chanKnock (s : State) (c : Nat) : State :=
  let k := fldGet s .dmaCtl c 27 16
  if k = 0 then s else raise s (chainOwner s c) k

/-- A DMA engine's translation: its own TLB, its keyring's, or a walk. -/
def dmaXlate (s : State) (c va acc : Nat) : Xl :=
  let p := chainOwner s c
  devXlate s (tget [] s.dmaTlb (dmaEngine c) ++ (kring s (dmaKr c)).tlb) p va acc

/-- A DMA engine's access. -/
def dmaAccess (s : State) (c va n acc : Nat) : Acc := devPages (fun a => dmaXlate s c a acc) .dma acc (n / 8192 + 2) va n

/-- A page's entry kept in the DMA engine's TLB of 16, and in the keyring's when it came by a walk (R206). -/
def dmaFill (s : State) (c va : Nat) : State :=
  let p := chainOwner s c
  if !xlOn s p then s
  else
    let e := dmaEngine c
    let own := tget [] s.dmaTlb e
    let put := fun (s : State) (x : TlbEntry) => { s with dmaTlb := tset [] s.dmaTlb e (tlbPut 16 own x) }
    match tlbFind own p va with
    | some x => put s x
    | none =>
      match tlbFind (kring s (dmaKr c)).tlb p va with
      | some x => put s x
      | none =>
        match walk s p va with
        | .ok x => put (modKr s (dmaKr c) (fun k => { k with tlb := tlbPut 2048 k.tlb x })) x
        | .error _ => s

/-- A channel paused by a translation fault (R215). -/
def pauseChan (s : State) (c va cause detail : Nat) : State :=
  chanKnock (modChan s c (fun x => { x with state := 2, fva := BitVec.ofNat 56 va, cause := cause, detail := detail })) c

/-! ### Descriptors (R212, R214) -/

/-- A descriptor read whole. -/
def dmaDescOf (n : Nat) : DmaDesc where
  src := BitVec.ofNat 56 (bitsOf n 55 0)
  op := bitsOf n 59 56
  knk := n.testBit 60
  chain := n.testBit 61
  dst := BitVec.ofNat 56 (bitsOf n 119 64)
  len := bitsOf n 183 128
  next := BitVec.ofNat 56 (bitsOf n 247 192)

/-- Whether a descriptor is well formed. -/
def dmaDescOk (n : Nat) : Bool :=
  (bitsOf n 59 56 == 1 || bitsOf n 59 56 == 2) && bitsOf n 63 62 == 0 && bitsOf n 191 184 == 0 && bitsOf n 255 248 == 0 &&
    decide (bitsOf n 183 128 ≤ 2 ^ 40)

/-- A chain ends: LAST, and the channel is IDLE. -/
def endChain (s : State) (c last : Nat) : State :=
  modChan s c (fun x => { x with state := 0, last := last, desc := none, offs := x.offs, statusDue := none, poisoned := false, abort := false })

/-- STATUS written where that does not fault. -/
def statusIfOk (s : State) (c st : Nat) : State :=
  match dmaAccess s c ((chan s c).cur.toNat + 30) 2 3 with
  | .ok ps => storePieces s none ps (natDigits 2 st) false
  | _ => s

/-- A BAD descriptor: STATUS where it can be, the chain ends, and the knock. -/
def badDesc (s : State) (c : Nat) : State := chanKnock (endChain (statusIfOk s c 3) c 3) c

/-- The descriptor at the channel's current address read whole (R212, R215). -/
def loadDesc (s : State) (c : Nat) : State :=
  let va := (chan s c).cur.toNat
  if va % 64 ≠ 0 then badDesc s c
  else match dmaAccess s c va 64 2 with
  | .fault a d _ => pauseChan s c a 3 d
  | .miss a => pauseChan s c a 3 1
  | .ok ps =>
    let n := digitsNat (readPieces s ps)
    let s := dmaFill s c va
    if poisoned s ps || !dmaDescOk n then badDesc s c
    else modChan s c (fun x => { x with desc := some (dmaDescOf n), offs := 0, statusDue := none, poisoned := false })

/-- The STATUS of a finished descriptor stored, and what follows it: CNT, the knocks, and the chain (R214). -/
def completeDesc (s : State) (c : Nat) : State :=
  let x := chan s c
  match x.desc with
  | none => s
  | some d =>
    match dmaAccess s c (x.cur.toNat + 30) 2 3 with
    | .ok ps =>
      let s := storePieces (dmaFill s c (x.cur.toNat + 30)) none ps (natDigits 2 1) false
      let s := bump s .dmaStat c 31 16 1
      let s := if d.knk then chanKnock s c else s
      let s := if x.poisoned then errKnock s (chainOwner s c) else s
      if d.chain then loadDesc (modChan s c (fun x => { x with cur := d.next, desc := none, poisoned := false, statusDue := none })) c
      else endChain s c 1
    | .fault a dt _ => pauseChan (modChan s c (fun x => { x with statusDue := some 1 })) c a 4 dt
    | .miss a => pauseChan (modChan s c (fun x => { x with statusDue := some 1 })) c a 4 1

/-! ### Chunks (R211, R213, R480) -/

/-- The digits of the next chunk: up to the end of the destination's line. -/
def chunkLen (d : DmaDesc) (offs : Nat) : Nat := min (d.len - offs) (128 - (d.dst.toNat + offs) % 128)

/-- The addresses of an access, digit by digit. -/
def pieceAddrs (ps : Pieces) : List Nat := ps.flatMap (fun p => (List.range p.2).map (p.1 + ·))

/-- Digits copied one by one in ascending order, so that an overlap propagates (R213). -/
def copyDigits (m : Tab Digit) : List (Nat × Nat) → Tab Digit
  | [] => m
  | (a, b) :: t => copyDigits (tset 0 m b (tget 0 m a)) t

/-- One chunk moved: all of it, or none when a page faults. -/
def moveChunk (s : State) (c : Nat) (d : DmaDesc) : State :=
  let x := chan s c
  let n := chunkLen d x.offs
  let sva := (d.src.toNat + x.offs) % 2 ^ 56
  let dva := (d.dst.toNat + x.offs) % 2 ^ 56
  match (if d.op = 1 then dmaAccess s c sva n 2 else .ok []) with
  | .fault a dt _ => pauseChan s c a 1 dt
  | .miss a => pauseChan s c a 1 1
  | .ok sp =>
    match dmaAccess s c dva n 3 with
    | .fault a dt _ => pauseChan s c a 2 dt
    | .miss a => pauseChan s c a 2 1
    | .ok dp =>
      let s := if d.op = 1 then dmaFill s c sva else s
      let s := dmaFill s c dva
      let bad := d.op == 1 && poisoned s sp
      let digits :=
        if d.op = 1 then
          let m := copyDigits s.mem ((pieceAddrs sp).zip (pieceAddrs dp))
          (pieceAddrs dp).map (fun a => tget 0 m a)
        else List.replicate n 0
      let s := storePieces s none dp digits bad
      modChan s c (fun x => { x with offs := x.offs + n, poisoned := x.poisoned || bad })

/-- Whether a channel may move now: running, and not stopped by thermal hold, WATCH or the quiet state (R426, R437, R483). -/
def chanMoves (s : State) (c : Nat) : Bool :=
  (chan s c).state == 1 && running s && !(kring s (dmaEngine c / 2)).hold && (!s.faults.quiet || chainOwner s c == 0)

/-- One chunk for a channel whose turn it is: its engine's channels are served in rotation (R211). -/
def dmaStep (s : State) (c : Nat) : State :=
  let e := dmaEngine c
  let next := firstAfter (((List.range 16).filter (fun i => chanMoves s (16 * e + i)))) (tget 15 s.dmaLast e)
  if next ≠ some (c % 16) then s
  else
    let s := { s with dmaLast := tset 15 s.dmaLast e (c % 16) }
    match (chan s c).desc with
    | none => loadDesc s c
    | some d =>
      let s := if (chan s c).offs < d.len then moveChunk s c d else s
      if (chan s c).state = 1 ∧ d.len ≤ (chan s c).offs then completeDesc s c else s

/-! ### Register writes (R214 to R216) -/

/-- A write of DMA_HEAD. -/
def dmaHeadWrite (s : State) (p c : Nat) (v : Word) : State :=
  if chanOwner s c ≠ p then s
  else if (chan s c).state ≠ 0 then setBits s .dmaStat c (maskOf 32 32)
  else
    let va := BitVec.ofNat 56 v.toNat
    let s := modChan (plainWrite s .dmaHead c v) c (fun x => { x with state := 1, head := va, cur := va, desc := none, offs := 0, part := p })
    let s := loadDesc s c
    match (chan s c).desc with
    | some d => if (chan s c).state = 1 ∧ d.len = 0 then completeDesc s c else s
    | none => s

/-- RESUME of a paused channel (R215). -/
def dmaResumeWrite (s : State) (p c : Nat) : State :=
  if chanOwner s c ≠ p ∨ (chan s c).state ≠ 2 then s
  else
    let cause := (chan s c).cause
    let s := modChan s c (fun x => { x with state := 1, cause := 0, detail := 0, fva := 0 })
    if cause = 3 then loadDesc s c
    else if cause = 4 then completeDesc s c
    else s

/-- A chain aborted: the current descriptor's STATUS where it does not fault, LAST, IDLE (R216). -/
def abortChan (s : State) (c : Nat) : State :=
  if (chan s c).state = 0 then s
  else modChan (endChain (statusIfOk s c 2) c 2) c (fun x => { x with cause := 0, detail := 0, fva := 0 })

/-- ABORT. -/
def dmaAbortWrite (s : State) (p c : Nat) : State := if chanOwner s c ≠ p then s else abortChan s c

/-- A write of DMA_CTL: KSRC, and ABORT before RESUME (R216). -/
def dmaCtlWrite (s : State) (p c : Nat) (v : Word) : State :=
  if chanOwner s c ≠ p then s
  else
    let s := plainWrite s .dmaCtl c v
    if fbit v 1 then dmaAbortWrite s p c else if fbit v 0 then dmaResumeWrite s p c else s

/-- DMA_STAT with its live fields. -/
def dmaStatWord (s : State) (c : Nat) : Word :=
  let x := chan s c
  putFld (putFld (putFld (putFld (regGet s .dmaStat c) 3 0 x.state) 7 4 x.cause) 11 8 x.detail) 15 12 x.last

/-- Whether a partition reads a channel's registers. -/
def readsChan (s : State) (p c : Nat) : Bool := p == 0 || chanOwner s c == p

/-! ### TLB invalidation (R207) -/

/-- An invalidation stored by a partition; it takes effect at TLBINV_COMPLETE. -/
def addInval (s : State) (p : Nat) (va : Option Nat) (t : Option Nat) : State :=
  { s with inval := s.inval ++ [{ part := p, va := va, tid := t }] }

/-- Every TLB entry of the die. -/
def allTlb (s : State) : List TlbEntry :=
  s.cyls.flatMap (fun kv => kv.2.itlb ++ kv.2.dtlb) ++ s.krs.flatMap (fun kv => kv.2.tlb) ++ s.dmaTlb.flatMap (·.2)

/-- The virtual range that an invalidation removes: one page, of the size its entries have, or everything. -/
def invalRange (s : State) (i : Inval) : Nat × Nat :=
  match i.va with
  | none => (0, 2 ^ 56)
  | some va =>
    if (allTlb s).any (fun e => e.large && tlbHit i.part va e) then (va / 4194304 * 4194304, 4194304) else (va / 8192 * 8192, 8192)

/-- Whether a job holds a translation of a range (R217). -/
def jobHolds (r : Nat × Nat) (j : Job) : Bool :=
  ((j.va, 128) :: (match j.result with | some x => x.ranges | none => [])).any (fun b =>
    decide (0 < b.2) && decide (b.1 < r.1 + r.2) && decide (r.1 < b.1 + b.2))

/-- The oldest invalidation of a partition takes effect, once no job of it holds a removed translation. -/
def invalEffect (s : State) (p : Nat) : State :=
  match s.inval.find? (fun i => i.part == p) with
  | none => s
  | some i =>
    let r := invalRange s i
    if s.engs.any (fun kv => (kv.2.queue ++ kv.2.running).any (fun j => j.part == p && jobHolds r j)) then s
    else
      let s := tlbDrop s (fun e => e.part == p && (match i.va with | none => true | some va => tlbHit p va e))
      settle { s with inval := s.inval.erase i }

/-- A write of CYL_PTROOT: it acts as SCOPE ALL, in LOCKED leaves EN at 1, and keeps TOPS against a reserved code (R13, R199, R207). -/
def ptrootWrite (s : State) (p : Nat) (v : Word) (t : Option Nat) : State :=
  let v := keepField (regGet s .cylPtroot p) v 3 0 (fun n => decide (n < 8))
  let s := plainWrite s .cylPtroot p (if locked s then v ||| maskOf 4 4 else v)
  addInval s p none t

/-! ### The rows -/

/-- DMA_HEAD (R214). -/
def execDmaHead (p : Fin 256) (c : Fin 512) (v : Word) (s : State) : Host.Outcome State Fault Refusal := .next (dmaHeadWrite s p c v)
/-- DMA_RESUME (R215). -/
def execDmaResume (p : Fin 256) (c : Fin 512) (s : State) : Host.Outcome State Fault Refusal := .next (dmaResumeWrite s p c)
/-- DMA_ABORT (R216). -/
def execDmaAbort (p : Fin 256) (c : Fin 512) (s : State) : Host.Outcome State Fault Refusal := .next (dmaAbortWrite s p c)
/-- DMA_CHUNK (R211). -/
def execDmaChunk (c : Fin 512) (s : State) : Host.Outcome State Fault Refusal := .next (dmaStep s c)
/-- TLBINV_PAGE (R207). -/
def execTlbinvPage (p : Fin 256) (va : BitVec 56) (s : State) : Host.Outcome State Fault Refusal := .next (addInval s p (some va.toNat) none)
/-- TLBINV_ALL (R207). -/
def execTlbinvAll (p : Fin 256) (s : State) : Host.Outcome State Fault Refusal := .next (addInval s p none none)
/-- TLBINV_COMPLETE (R207). -/
def execTlbinvComplete (p : Fin 256) (s : State) : Host.Outcome State Fault Refusal := .next (invalEffect s p)
/-- CYL_PTROOT (R199). -/
def execCylPtroot (p : Fin 256) (v : Word) (s : State) : Host.Outcome State Fault Refusal := .next (ptrootWrite s p v none)

end Sys2Proof.Machine
end

