-- ==== Sys2Proof/Machine/Engines.lean ====
section
/-! DEFINITION. The set-up of an engine job (R227 to R235): the descriptor, its buffers, keys by handle, destination, guard
and entropy, in the order of R229; what each operation adds stands in its own record. -/

namespace Sys2Proof.Machine

/-! ### The descriptor (R227) -/

/-- A job descriptor. -/
structure Desc where
  op : Nat
  flags : Nat
  ksrc : Nat
  key1 : Nat
  key2 : Nat
  dslot : Nat
  inA : Nat
  inLen : Nat
  outA : Nat
  outLen : Nat
  auxA : Nat
  auxLen : Nat
  p0 : Nat
  kt : Nat
  p1 : Nat
  p2 : Nat
  owner : Nat
  usage : Nat
  alg : Nat
  mode : Nat
  exportability : Nat
  clean : Bool
  deriving DecidableEq, Repr

/-- A descriptor from its 512 bits. -/
def descOf (n : Nat) : Desc where
  op := bitsOf n 15 0
  flags := bitsOf n 23 16
  ksrc := bitsOf n 35 24
  key1 := bitsOf n 59 40
  key2 := bitsOf n 79 60
  dslot := bitsOf n 99 80
  inA := bitsOf n 167 112
  inLen := bitsOf n 199 168
  outA := bitsOf n 255 200
  outLen := bitsOf n 287 256
  auxA := bitsOf n 343 288
  auxLen := bitsOf n 375 344
  p0 := bitsOf n 383 376
  kt := bitsOf n 387 384
  p1 := bitsOf n 391 388
  p2 := bitsOf n 407 392
  owner := bitsOf n 455 448
  usage := bitsOf n 471 456
  alg := bitsOf n 479 472
  mode := bitsOf n 487 480
  exportability := bitsOf n 495 488
  clean := bitsOf n 23 20 == 0 && bitsOf n 39 36 == 0 && bitsOf n 111 100 == 0 && bitsOf n 431 408 == 0 && bitsOf n 511 496 == 0

/-- FLAGS.MORE. -/
def Desc.more (d : Desc) : Bool := d.flags.testBit 0
/-- FLAGS.CONT. -/
def Desc.cont (d : Desc) : Bool := d.flags.testBit 1
/-- FLAGS.DET. -/
def Desc.det (d : Desc) : Bool := d.flags.testBit 2
/-- FLAGS.PR. -/
def Desc.pr (d : Desc) : Bool := d.flags.testBit 3
/-- P2 digit d98. -/
def Desc.d98 (d : Desc) : Nat := d.p2 % 16
/-- P2 digit d99. -/
def Desc.d99 (d : Desc) : Nat := d.p2 / 16 % 16
/-- P2 digits d100 and d101. -/
def Desc.d100 (d : Desc) : Nat := d.p2 / 256
/-- DK: KEY1 is a base derivation key (R246). -/
def Desc.dk (d : Desc) : Bool := d.p2.testBit 0

/-! ### Key use (R233, R248) -/

/-- ASCII codes of ALG values. -/
def algA : Nat := 0x41
/-- ALG "T". -/
def algT : Nat := 0x54
/-- ALG "H". -/
def algH : Nat := 0x48
/-- ALG "Q". -/
def algQ : Nat := 0x51
/-- ALG "R". -/
def algR : Nat := 0x52
/-- ALG "E". -/
def algE : Nat := 0x45

/-- A two-character usage as the header holds it: the first character in the high byte. -/
def usageOf (u : String) : Nat := beNat (ascii u)

/-- A row of the key-use tables: key types, algorithms, usage, modes. -/
structure KeyUse where
  types : List Nat
  algs : List Nat
  usage : String
  modes : String
  deriving DecidableEq, Repr

/-- Whether a key's type, ALG and USAGE match a row. -/
def KeyUse.fits (u : KeyUse) (kt alg usage : Nat) : Bool := u.types.contains kt && u.algs.contains alg && usage == usageOf u.usage

/-- Whether a row admits a key for its operation. -/
def KeyUse.admits (u : KeyUse) (h : KHdr) : Bool := u.fits h.ktype h.alg h.usage && (ascii u.modes).any (fun b => b.toNat == h.mode)

/-- Every row of R233 and R248 but those that read "any". -/
def keyUseRows : List KeyUse :=
  [⟨[1, 2, 3, 4, 5, 6, 7], [algA, algT], "D0", "BEN"⟩, ⟨[3, 4, 5], [algA], "D0", "BDEN"⟩,
   ⟨[1, 2, 3, 4, 5, 6, 7], [algA, algT], "D0", "BDN"⟩, ⟨[1, 2, 3, 4, 5], [algA, algT], "M6", "CG"⟩,
   ⟨[1, 2, 3, 4, 5], [algA, algT], "M6", "CV"⟩, ⟨[1], [algT], "M3", "CG"⟩, ⟨[1], [algT], "M3", "CV"⟩,
   ⟨[3, 4, 5], [algA], "K0", "BE"⟩, ⟨[3, 4, 5], [algA], "K0", "BD"⟩, ⟨[5], [algH], "M7", "CG"⟩, ⟨[5], [algH], "M7", "CV"⟩,
   ⟨[5], [algH], "M7", "X"⟩] ++
  [⟨[8, 9, 10], [algQ], "S0", "ST"⟩, ⟨[11, 12], [algQ], "D1", "BD"⟩, ⟨[13], [algR], "S0", "ST"⟩, ⟨[13], [algR], "D1", "BDT"⟩,
   ⟨[14], [algE], "S0", "S"⟩, ⟨[14], [algE], "D1", "X"⟩] ++
  [⟨[1, 2], [algT], "P0", "BD"⟩, ⟨[3, 4, 5], [algA], "P0", "BD"⟩, ⟨[1, 2], [algT], "P0", "BE"⟩, ⟨[3, 4, 5], [algA], "P0", "BE"⟩,
   ⟨[1], [algT], "B0", "X"⟩, ⟨[3, 4, 5], [algA], "B0", "X"⟩, ⟨[1, 2], [algT], "V1", "CV"⟩, ⟨[1, 2], [algT], "V1", "CG"⟩,
   ⟨[1, 2], [algT], "V2", "CV"⟩, ⟨[1, 2], [algT], "K1", "BD"⟩, ⟨[3, 4, 5], [algA], "K1", "BD"⟩, ⟨[1, 2], [algT], "K1", "BE"⟩,
   ⟨[3, 4, 5], [algA], "K1", "BE"⟩, ⟨[1, 2], [algT], "E0", "X"⟩, ⟨[3, 4, 5], [algA], "E0", "X"⟩, ⟨[1], [algT], "C0", "CG"⟩,
   ⟨[1], [algT], "C0", "CV"⟩, ⟨[3, 4, 5], [algA], "9T", "BE"⟩, ⟨[3, 4, 5], [algA], "9T", "BD"⟩]

/-- Whether a created key may take a mode of use (R234): the union of the rows that its type, ALG and USAGE match, or any mode that
TR-31 defines when none does (entry 22 of the log). -/
def modeAllowed (kt alg usage mode : Nat) : Bool :=
  let rows := keyUseRows.filter (fun u => u.fits kt alg usage)
  let ms := if rows = [] then ascii "BCDEGNSTVXY" else rows.flatMap (fun u => ascii u.modes)
  ms.any (fun b => b.toNat == mode)

/-! ### Created keys (R232, R234) -/

/-- The material length of a key type; 0 when it is not fixed. -/
def matLen (kt : Nat) : Nat := nth 0 [0, 16, 24, 16, 24, 32, 32, 64, 2560, 4032, 4896, 2400, 3168] kt

/-- The span that a length of material needs. -/
def spanFor (len : Nat) : Nat := if len ≤ 32 then 1 else 1 + (len - 32 + 55) / 56

/-- ALG as the device records it: "Q" for lattice keys. -/
def algFor (d : Desc) (kt : Nat) : Nat := if 8 ≤ kt ∧ kt ≤ 12 then algQ else d.alg

/-- The header of a created key. -/
def madeHdr (d : Desc) (kt span : Nat) : KHdr where
  owner := d.owner
  usage := d.usage
  alg := algFor d kt
  mode := d.mode
  exportability := d.exportability
  span := span
  state := 1
  ktype := kt

/-- The partition, handle and OWNER parts of DEST. -/
def destBase (s : State) (p : Nat) (d : Desc) : Bool :=
  p == 1 && decide (d.dslot < slotMax) && (d.owner == 1 || (decide (2 ≤ d.owner) && kcPresent s.kc d.owner))

/-- The parts of DEST that depend on the key's type. -/
def destTyped (s : State) (d : Desc) (kt span : Nat) : Bool := destFree s d.dslot span && modeAllowed kt (algFor d kt) d.usage d.mode

/-! ### Operations -/

/-- What an operation computes with: its engine and job, the policy in force, its keys and its input bytes. -/
structure Ctx where
  e : Nat
  p : Nat
  session : Nat
  kc : Keycut
  d : Desc
  k1 : Key
  k2 : Key
  inB : Bytes
  auxB : Bytes
  outB : Bytes
  inP : Pieces
  deriving DecidableEq, Repr

/-- What an operation produces: its status, OUT, a write to AUX, and the type and material of a created key. -/
structure Res where
  status : Nat
  out : Bytes
  aux : Option Bytes
  made : Option (Nat × Bytes)
  deriving DecidableEq, Repr

/-- Completed, with OUT. -/
def resOk (out : Bytes) : Res := { status := 0x10, out := out, aux := none, made := none }
/-- Ended without output. -/
def resEnd (st : Nat) : Res := { status := st, out := [], aux := none, made := none }
/-- A verification's verdict. -/
def resVerdict (b : Bool) : Res := resEnd (if b then 0x10 else 0x11)
/-- Completed with a created key. -/
def resKey (kt : Nat) (mat out : Bytes) : Res := { status := 0x10, out := out, aux := none, made := some (kt, mat) }

/-- What an operation adds to the common set-up. `okDesc` are its lengths and parameters; `outMode` 0 none, 1 written, 2 only
read; `dest` the type and span of the key it makes when known at set-up; `content` the rules on its input bytes; `keyed` the rules
on lengths that its keys decide; `attr` what the operation itself fixes of the created key's attributes; `guard` the guard, with what it counts and takes; `entropy` whether its draws can be made. -/
structure OpDef where
  attr : Desc → Desc
  okDesc : Desc → Bool
  useIn : Bool
  useAux : Desc → Bool
  outMode : Desc → Nat
  auxWrite : Desc → Bool
  sameInOut : Bool
  key1 : Desc → Bytes → Option (Key → Bool)
  key2 : Desc → Bytes → Option (Key → Bool)
  dest : Desc → Option (Nat × Nat)
  lateDest : Bool
  content : Desc → Bytes → Bytes → Bool
  keyed : Ctx → Bool
  guard : Ctx → State → Bool × State
  attempt : Ctx → State → Option (Nat × Word)
  entropy : Ctx → State → Bool
  run : Ctx → State → Res × State

/-- An operation with IN and OUT only, no key, no guard and no draw. -/
def opPlain (ok : Desc → Bool) (run : Ctx → State → Res × State) : OpDef where
  attr := id
  okDesc := ok
  useIn := true
  useAux := fun _ => false
  outMode := fun _ => 1
  auxWrite := fun _ => false
  sameInOut := false
  key1 := fun _ _ => none
  key2 := fun _ _ => none
  dest := fun _ => none
  lateDest := false
  content := fun _ _ _ => true
  keyed := fun _ => true
  guard := fun _ s => (true, s)
  attempt := fun _ _ => none
  entropy := fun _ _ => true
  run := run

/-- No key. -/
def noKey : Key := { slot := 0, hdr := hdrEmpty, mat := [] }

/-! ### Buffers (R228, R229, R217) -/

/-- A buffer in use: its address, its bytes and the access it needs. -/
structure Buf where
  va : Nat
  len : Nat
  acc : Nat
  deriving DecidableEq, Repr

/-- Whether two accesses share a digit. -/
def overlaps (a b : Pieces) : Bool := a.any (fun x => b.any (fun y => decide (x.1 < y.1 + y.2) && decide (y.1 < x.1 + x.2)))

/-- A buffer's pieces; a buffer of length 0 has none and is not translated. -/
def bufPieces (s : State) (k p : Nat) (b : Buf) : Option Pieces :=
  if b.len = 0 then some [] else accOk (devAccess s k p b.va (2 * b.len) b.acc)

/-- IN, OUT and AUX as an operation uses them. -/
def bufIn (o : OpDef) (d : Desc) : Buf := { va := d.inA, len := if o.useIn then d.inLen else 0, acc := 2 }
/-- OUT. -/
def bufOut (o : OpDef) (d : Desc) : Buf :=
  { va := d.outA, len := if o.outMode d = 0 then 0 else d.outLen, acc := if o.outMode d = 2 then 2 else 3 }
/-- AUX, with the length that chaining needs (R239). -/
def bufAux (o : OpDef) (d : Desc) : Buf :=
  { va := d.auxA, len := if o.useAux d then d.auxLen else 0, acc := if o.auxWrite d then 3 else 2 }

/-- Whether a used buffer starts at a byte boundary. -/
def evenStart (b : Buf) : Bool := b.len == 0 || b.va % 2 == 0

/-- Whether any two of the buffers and the descriptor overlap; OUT may equal IN exactly where the operation allows it. -/
def clash (o : OpDef) (desc : Pieces) (i w a : Option Pieces) : Bool :=
  let i := i.getD []
  let w := w.getD []
  let a := a.getD []
  overlaps i desc || overlaps w desc || overlaps a desc || overlaps i a || overlaps w a || (overlaps i w && !(o.sameInOut && i == w))

/-! ### Set-up -/

/-- A key that a job names, checked for the use (R233): the key, or the status. -/
def namedKey (s : State) (p turn handle : Nat) (use : Option (Key → Bool)) : Except Nat Key × State :=
  match use with
  | none => (.ok noKey, s)
  | some f =>
    match readKey s p turn handle with
    | (.error st, s) => (.error st, s)
    | (.ok k, s) => if f k then (.ok k, s) else (.error 0x32, s)

/-- The created key's staging, or the refusal that its type brings (R229, R234). -/
def stagingOf (s : State) (d : Desc) (late : Bool) (r : Res) : Res × Option (Nat × List KCopy) :=
  match r.made with
  | none => (r, none)
  | some (kt, mat) =>
    let span := spanFor mat.length
    if r.status ≠ 0x10 then (r, none)
    else if late && !destTyped s d kt span then (resEnd 0x34, none)
    else match (if late then stageRefusal s d.owner d.dslot span false else none) with
    | some st => (resEnd st, none)
    | none => (r, some (d.dslot, spanCopies d.dslot (madeHdr d kt span) mat))

/-- A job that is refused: it writes nothing but its STATUS. -/
def refused (d : Desc) (st : Nat) : JobResult := { bareResult st with op := d.op, ksrc := d.ksrc }

/-- A job that has passed its set-up: what its operation computes with, the pieces of OUT and AUX, the ranges it holds translations
of, and whether an input is poisoned. -/
structure SetUp where
  c : Ctx
  po : Pieces
  pa : Pieces
  ranges : List (Nat × Nat)
  bad : Bool
  deriving DecidableEq, Repr

/-- The common set-up of a job, in the order of R229: what it may run with, or the status it ends with. -/
def setUp (s : State) (e : Nat) (j : Job) (d : Desc) (o : OpDef) : Except Nat SetUp × State :=
  let k := e / 9
  let bi := bufIn o d
  let bo := bufOut o d
  let ba := bufAux o d
  let pi := bufPieces s k j.part bi
  let po := bufPieces s k j.part bo
  let pa := bufPieces s k j.part ba
  if !(d.clean && o.okDesc d && evenStart bi && evenStart bo && evenStart ba) || clash o j.desc pi po pa then (.error 0x20, s)
  else match pi, po, pa with
  | some pi, some po, some pa =>
    let bad := poisoned s pi || poisoned s pa || (o.outMode d == 2 && poisoned s po)
    let inB := readBytes s pi
    let auxB := readBytes s pa
    if !bad && !o.content d inB auxB then (.error 0x20, s)
    else match namedKey s j.part j.turn d.key1 (o.key1 d inB) with
    | (.error st, s) => (.error st, s)
    | (.ok k1, s) =>
      match namedKey s j.part j.turn d.key2 (o.key2 d inB) with
      | (.error st, s) => (.error st, s)
      | (.ok k2, s) =>
        let c : Ctx := {
          e := e, p := j.part, session := j.session, kc := kcOfTurn s j.turn, d := d, k1 := k1, k2 := k2
          inB := inB, auxB := auxB, outB := if o.outMode d = 2 then readBytes s po else [], inP := pi }
        if !o.keyed c then (.error 0x20, s)
        else if o.lateDest && !destBase s j.part d then (.error 0x34, s)
        else match (match o.dest d with
            | none => none
            | some (kt, span) =>
              if destBase s j.part d && destTyped s d kt span then stageRefusal s d.owner d.dslot span false else some 0x34) with
        | some st => (.error st, s)
        | none =>
          match o.guard c s with
          | (false, s) => (.error 0x35, s)
          | (true, s) =>
            if !o.entropy c s then (.error 0x36, s)
            else
              (.ok { c := c, po := po, pa := pa, ranges := [(bi.va, 2 * bi.len), (bo.va, 2 * bo.len), (ba.va, 2 * ba.len)], bad := bad }, s)
  | _, _, _ => (.error 0x21, s)

/-- What a job that has passed its set-up will do at completion (R229 to R231): an input that is poisoned ends it with POISON. -/
def conclude (s : State) (d : Desc) (o : OpDef) (u : SetUp) : JobResult × State :=
  let x := if u.bad then (resEnd 0x41, s) else o.run u.c s
  let y := stagingOf x.2 d o.lateDest x.1
  let outP := if o.outMode d = 1 then u.po else []
  let writes :=
    if y.1.status = 0x10 then
      (if o.outMode d = 1 then [(outP, padTo (pieceBytes outP) y.1.out)] else []) ++
        (match y.1.aux with | some b => [(u.pa, padTo (pieceBytes u.pa) b)] | none => [])
    else if isRefusal y.1.status ∨ outP = [] then []
    else [(outP, zeros (pieceBytes outP))]
  ({ status := y.1.status, writes := writes, out := outP, ranges := u.ranges, stage := y.2, op := d.op, ksrc := d.ksrc
     attempt := o.attempt u.c s }, x.2)

/-- A job's set-up, and then its operation. -/
def prepare (s : State) (e : Nat) (j : Job) (d : Desc) (o : OpDef) : JobResult × State :=
  match setUp s e j (o.attr d) o with
  | (.error st, s) => (refused (o.attr d) st, s)
  | (.ok u, s) => conclude s (o.attr d) o u

/-! ### Starting and completing -/

/-- The operations of each kind of engine. -/
def knownOps (kind : Nat) : List Nat :=
  if kind = 0 then
    [0xA100, 0xA101, 0xA110, 0xA111, 0xA120, 0xA130, 0xA131, 0xA140, 0xA141, 0xA150, 0xA151, 0xA160, 0xA161, 0xA170,
     0xA200, 0xA201, 0xA210, 0xA211, 0xA250, 0xA251, 0xA260, 0xA261]
  else if kind = 1 then [0xC224, 0xC256, 0xC384, 0xC512, 0xC128, 0xC129, 0xC300, 0xC301, 0xC310, 0xC311, 0xC320]
  else if kind = 2 then [0xD100, 0xD110, 0xD120, 0xD200, 0xD210, 0xD220]
  else if kind = 3 then [0xB100, 0xB110, 0xB120, 0xB130, 0xB200, 0xB210, 0xB220, 0xB230, 0xB300, 0xB310, 0xB400]
  else if kind = 4 then
    [0xE100, 0xE110, 0xE111, 0xE120, 0xE200, 0xE210, 0xE211, 0xE212, 0xE300, 0xE301, 0xE400, 0xE401, 0xE500, 0xE501,
     0xE600, 0xE601, 0xE700, 0xE701, 0xE702, 0xE710, 0xE711, 0xE712]
  else [0x8100, 0x8110, 0x8120]

/-- The descriptor of a job, as it stands in memory. -/
def jobDesc (s : State) (j : Job) : Desc := descOf (digitsNat (readPieces s j.desc))

/-- A descriptor that lies in one line. -/
def aligned (ps : Pieces) : Bool :=
  match ps with
  | [(a, n)] => a % 128 == 0 && n == 128
  | _ => false

/-- The status of a job that has no operation to run: a misaligned descriptor, a poisoned one, or an unknown OP (R235). -/
def noOperation (s : State) (e : Nat) (j : Job) : Option Nat :=
  if !aligned j.desc then some 0x20
  else if poisoned s j.desc then some 0x41
  else if (knownOps (engKind (e % 9))).contains (jobDesc s j).op then none else some 0x20

/-- Whether a keyring's engines may start work (R426, R433). -/
def mayStart (s : State) (e : Nat) : Bool := (eng s e).svc == 1 && running s && !(kring s (e / 9)).hold && !(kring s (e / 9)).doze

/-- The head job of an engine's queue starts when its OP is the row's (R226, R534). -/
def startJob (s : State) (e op : Nat) (o : OpDef) : State :=
  let x := eng s e
  if !mayStart s e || decide (inProgress (e % 9) ≤ x.running.length) then s
  else match x.queue with
  | [] => s
  | j :: rest =>
    if (noOperation s e j).isSome || (jobDesc s j).op != op then s
    else
      let r := prepare s e j (jobDesc s j) o
      modEng r.2 e (fun x => { x with queue := rest, running := x.running ++ [{ j with result := some r.1 }] })

/-- An outcome of the engine's own circuits counted in ENG_ERR and reported (R38, R40, R41). -/
def engOutcome (s : State) (e p : Nat) (o : UnitOutcome) : State :=
  match o with
  | .ok => s
  | .codeViolation => report (bump s .engErr e 31 24 1) 2 e 1 p 0
  | .overrun => report (bump s .engErr e 23 16 1) 2 e 2 p 0
  | .timeout => report (bump s .engErr e 15 8 1) 2 e 3 p 0

/-- The oldest job in progress completes; with none, a head job that has no operation ends (R230, R231, R235). -/
def completeJob (s : State) (e : Nat) (o : UnitOutcome) : State :=
  let x := eng s e
  match x.running with
  | j :: rest =>
    let r := match j.result with | some r => r | none => bareResult 0x42
    let r := if o = .codeViolation ∨ o = .timeout then overrideResult r 0x42 else r
    settle (engOutcome (finishJob (modEng s e (fun x => { x with running := rest })) e j r) e j.part o)
  | [] =>
    match x.queue with
    | [] => s
    | j :: _ =>
      match noOperation s e j with
      | none => s
      | some st => if mayStart s e then settle (endJob s e j st) else s

/-! ### Draws from the DRBG (R225, R242) -/

/-- A DRBG. -/
def drbgOf (s : State) (k p : Nat) : Drbg := tget drbgInit (kring s k).drbg p
/-- A DRBG changed. -/
def modDrbg (s : State) (k p : Nat) (f : Drbg → Drbg) : State := modKr s k (fun x => { x with drbg := tmod drbgInit x.drbg p f })

/-- The generate requests after which a DRBG reseeds. -/
def reseedLimit : Nat := 2 ^ 20

/-- Whether a generate needs the TRNG: to instantiate, to reseed at the limit, or for prediction resistance. -/
def needsTrng (s : State) (k p : Nat) (pr : Bool) : Bool :=
  !(drbgOf s k p).live || decide (reseedLimit ≤ (drbgOf s k p).count) || pr

/-- A reseed or an instantiation. -/
def reseed (s : State) (k p : Nat) : State := modDrbg s k p (fun _ => { live := true, count := 0 })

/-- `n` bytes from a partition's DRBG. -/
def drbgDraw (s : State) (k p n : Nat) (pr : Bool) : Bytes × State :=
  let s := if needsTrng s k p pr then reseed s k p else s
  let s := modDrbg s k p (fun x => { x with count := x.count + 1 })
  (Config.drbg p k s.free n, { s with free := s.free + 1 })

/-- Whether an internal draw by another engine finds healthy entropy. -/
def drawOk (s : State) : Bool := !s.trngBad

/-- An operation that draws from the DRBG. -/
def withDraw (o : OpDef) (when_ : Desc → Bool) : OpDef := { o with entropy := fun c s => !when_ c.d || drawOk s }

/-! ### The row -/

/-- ENGINE_JOB_COMPLETE (R230). -/
def execEngineJobComplete (e : Fin 144) (o : UnitOutcome) (s : State) : Host.Outcome State Fault Refusal := .next (completeJob s e o)

end Sys2Proof.Machine
end

