-- ==== Sys2Proof/Machine/Landing.lean ====
section
/-! DEFINITION. How operations in flight end: digit units, products, branches and returns, fetch groups, atomics,
test-and-sets and walks (R80, R96, R115, R125, R132, R151, R155, R156, R205). -/

namespace Sys2Proof.Machine

/-! ### Digit units -/

/-- The counter field of CYL_CMODE and the error kind for an outcome: CV #01, OVR #02, TMO #03 (R38, R40, R41). -/
def countOutcome (s : State) (t : Nat) (o : UnitOutcome) : State :=
  let c := cylOf t
  let p := (thr s t).part
  match o with
  | .ok => s
  | .codeViolation => report (bump s .cylCmode c 31 24 1) 1 c 1 p 0
  | .overrun => if (cyl s c).level then report (bump s .cylCmode c 23 16 1) 1 c 2 p 0 else s
  | .timeout => report (bump s .cylCmode c 15 8 1) 1 c 3 p 0

/-- Whether an outcome poisons the result: a level overrun leaves it correct (R38, R40, R41). -/
def poisons (o : UnitOutcome) : Bool := o == .codeViolation || o == .timeout

/-- The operation of a digit unit that a thread has in flight (R81). -/
def unitOp (th : Thread) (u : DUnit) : Option Op :=
  th.arch.ops.find? (fun o => match o.kind with
    | .unit v _ _ => v == u
    | .div _ _ _ _ _ _ => u == .divide
    | .mul _ _ _ _ => u == .multiply
    | _ => false)

/-- A digit-unit operation ends and its results land (R80, R87). A product keeps its slot, and is poisoned. -/
def unitEnds (s : State) (t : Nat) (u : DUnit) (o : UnitOutcome) : State :=
  let th := thr s t
  match unitOp th u with
  | none => s
  | some op =>
    let bad := poisons o
    let s := match op.kind with
      | .unit _ ws bit =>
        putThr s t (landOp th op.id (fun a =>
          let a := writePorts a ws bad
          match bit with
          | some (i, v) => setPoison (setBit a i v) (bitPort i) bad
          | none => a))
      | .div _ _ ws _ _ _ =>
        modCyl (putThr s t (landOp th op.id (fun a => writePorts a ws bad))) (cylOf t) (fun c => { c with divBusy := none })
      | .mul lo hi n _ =>
        if bad then
          putThr s t { th with arch := { th.arch with
            ops := th.arch.ops.map (fun x => if x.id = op.id then { x with kind := .mul lo hi n true } else x) } }
        else s
      | _ => s
    settle (countOutcome s t o)

/-- A product at its visible slot becomes visible (R96, R97). -/
def showMul (th : Thread) (any : Bool) : Thread :=
  match th.arch.ops.find? (fun o => match o.kind with | .mul _ _ _ _ => true | _ => false) with
  | some op =>
    match op.kind with
    | .mul lo hi n bad =>
      if any || decide (n ≤ th.arch.slot) then
        { th with arch := writePorts { th.arch with ops := th.arch.ops.filter (fun o => o.id != op.id) } [(0x0D8, lo), (0x0D9, hi)] bad }
      else th
    | _ => th
  | none => th

/-- Every product becomes visible: a knock or preemption (R98). -/
def showAllMul (th : Thread) : Nat → Thread
  | 0 => th
  | n + 1 => showAllMul (showMul th true) n

/-! ### Branches and returns (R115 to R120, R125) -/

/-- A prediction confirmed: the words past it are ordinary, and a held fault whose path is now certain is due. -/
def confirm (th : Thread) (b : Branch) : Thread :=
  let th := landOp { th with spec := th.spec.drop 1 } b.op id
  if th.spec = [] then { th with sync := if th.heldFault.isSome then th.heldFault else th.sync, heldFault := none } else th

/-- A misprediction: every word past it is discarded and the thread's state restored (R117). -/
def discard (th : Thread) (b : Branch) (pc : VAddr) : Thread :=
  let a := { b.saved with ops := b.saved.ops.filter (fun o => o.id != b.op), pc := pc }
  { th with
    arch := a, spec := [], heldFault := none, strData := none
    st := if th.st = .parked then .ready else th.st
    park := if th.st = .parked then .no else th.park }

/-- What an unresolved branch turns out to be, when it can resolve. -/
def branchTaken (th : Thread) (b : Branch) : Option Bool :=
  match b.cond with
  | .known v => some v
  | .onBit i sense => if pending th b.saved (bitPort i) then none else some (tbit b.saved i == sense)
  | .ret => none

/-- The oldest unresolved branch of a thread resolves (R115). -/
def resolveBranch (s : State) (t : Nat) : State :=
  let th := thr s t
  match th.spec with
  | [] => s
  | b :: _ =>
    match branchTaken th b with
    | none => s
    | some taken =>
      if b.predicted = some taken then settle (putThr s t (confirm th b))
      else settle (putThr s t (discard th b b.saved.pc))

/-- Whether no memory operation or test-and-set of the thread older than `id` remains (R159, R160, R152). -/
def oldestMem (th : Thread) (id : Nat) : Bool := th.arch.ops.all (fun o => !(isMemOp o || isTas o) || decide (id ≤ o.id))

/-- Whether no buffered store older than `id` remains (R160). -/
def drained (th : Thread) (id : Nat) : Bool := th.sbuf.all (fun e => decide (id < e.id))

/-- What a read of a return frame gives: forwarded data, or memory. -/
def frameItem (s : State) (x : Pieces × Option (Word × Bool)) : Word × Bool := (x.2).getD (loadPieces s x.1)

/-- A return's frame arrives: its registers land and its address confirms or refutes the prediction (R124, R125). -/
def resolveReturn (s : State) (t : Nat) : State :=
  let th := thr s t
  match th.spec with
  | [] => s
  | b :: _ =>
    match th.arch.ops.find? (fun o => o.id == b.op) with
    | none => s
    | some op =>
      match op.kind with
      | .ret (h :: _) regs =>
        if !oldestMem th op.id then s
        else
          let actual := BitVec.ofNat 56 ((frameItem s h).1.toNat)
          let vals := regs.map (fun r => (r.1, frameItem s r.2))
          let put := fun (a : Arch) => vals.foldl (fun a v => setPoison (setG a v.1 v.2.1) v.1 v.2.2) a
          let b' := { b with saved := put b.saved, along := put b.along }
          let th' := { landAll th (fun a => if a.ops.any (fun o => o.id == b.op) then put a else a) with
            spec := b' :: ((landAll th (fun a => if a.ops.any (fun o => o.id == b.op) then put a else a)).spec.drop 1) }
          let s := (regs.map (fun r => r.2.1)).foldl (fun s ps => (pieceLines ps).foldl (fun s l => cacheLoad s t l) s) s
          if b.predicted.isSome && b.guess == actual then settle (putThr s t (confirm th' b'))
          else settle (putThr s t (discard th' b' actual))
      | _ => s

/-! ### Fetch (R132, R108) -/

/-- The fetch group that a thread lacks: that of its next word, else the one after. -/
def lackGroup (th : Thread) : Option Nat :=
  let g := th.arch.pc.toNat / 32 * 32
  let g2 := (g + 32) % 2 ^ 56
  if (alook th.held g).isNone then some g else if (alook th.held g2).isNone then some g2 else none

/-- Four words of a group. -/
def groupWords (s : State) (pa : Nat) : List Nat := (List.range 4).map (fun i => digitsNat (readDigits s (pa + 8 * i) 8))

/-- A fetch group arrives, or its fetch misses the TLB or faults (R108, R116, R132). -/
def fetchGroup (s : State) (t : Nat) (parity : Bool) : State :=
  let th := thr s t
  if !(th.st == .ready || th.st == .parked) || retAwaited th || th.sync.isSome || th.heldFault.isSome then s
  else match lackGroup th with
  | none => s
  | some g =>
    let first := g == th.arch.pc.toNat / 32 * 32
    match thrAccess s t g 32 1 with
    | .ok ((pa, _) :: _) =>
      let bad := poisoned s [(pa, 32)]
      let g0 := th.arch.pc.toNat / 32 * 32
      let keep := th.held.filter (fun h => h.1 == g0 || h.1 == (g0 + 32) % 2 ^ 56)
      let s := cacheFetch (if th.spec = [] then tlbUse s t g 1 else s) t (lineOf pa)
      let s := putThr s t { th with held := aput keep g (groupWords s pa, bad) }
      settle (if parity then report s 1 (cylOf t) 4 th.part pa else s)
    | .miss va =>
      if first ∧ th.spec = [] then
        putThr s t { th with st := .parked, park := .fetch, walk := some { va := BitVec.ofNat 56 va, acc := 1, waits := true } }
      else s
    | .fault va d l => if first then xlFault s t (if va = g then th.arch.pc.toNat else va) d l 1 else s
    | .ok [] => s

/-- A page-table walk ends: a TLB entry, or the fault of the word or fetch that waited (R205, R218). -/
def walkEnds (s : State) (t : Nat) : State :=
  let th := thr s t
  match th.walk with
  | none => s
  | some w =>
    let s := modThr s t (fun th => { th with walk := none })
    match walk s th.part w.va.toNat with
    | .ok e => settle (tlbInstall s t w.acc e)
    | .error (d, l) =>
      if w.waits ∧ th.st = .parked then xlFault s t w.va.toNat d l w.acc else settle s

/-! ### Store-conditional, atomics, test-and-set -/

/-- A store-conditional is ordered in coherence (R153, R155). -/
def stcEnds (s : State) (t : Nat) : State :=
  let th := thr s t
  match th.arch.ops.find? (fun o => match o.kind with | .stc _ _ _ _ => true | _ => false) with
  | none => s
  | some op =>
    match op.kind with
    | .stc w ps data bad =>
      if !(oldestMem th op.id && drained th op.id) then s
      else
        let ok := match th.resv with | some r => (pieceLines ps).all (fun l => r.contains l) | none => false
        let s := if ok then (pieceLines ps).foldl (fun s l => cacheStore s t l) (storePieces s (some t) ps (natDigits w data.toNat) bad) else s
        settle (modThr s t (fun th => { landOp th op.id (fun a => setPort a 0x147 (w64 (b2n ok))) with resv := none }))
    | _ => s

/-- What an atomic writes over a prior value, when it writes (R156). -/
def atomicNew (which w : Nat) (prior operand compare : Word) : Option Word :=
  if which = 0 then some (lowDigits w (prior + operand))
  else if which = 1 then some operand
  else if prior = compare then some operand else none

/-- An atomic is performed, and its prior value lands in at.r (R156, R160). -/
def atomicEnds (s : State) (t : Nat) : State :=
  let th := thr s t
  match th.arch.ops.find? (fun o => match o.kind with | .atomic _ _ _ _ _ => true | _ => false) with
  | none => s
  | some op =>
    match op.kind with
    | .atomic which w ps operand compare =>
      if !(oldestMem th op.id && drained th op.id) then s
      else
        let (prior, bad) := loadPieces s ps
        let s := match (if bad then none else atomicNew which w prior operand compare) with
          | some v => (pieceLines ps).foldl (fun s l => cacheStore s t l) (storePieces s (some t) ps (natDigits w v.toNat) false)
          | none => s
        settle (modThr s t (fun th => landOp th op.id (fun a => setPoison (setPort a 0x14F prior) 0x14F bad)))
    | _ => s

/-- A test-and-set of a keyring bit is performed (R151, R152). -/
def tasEnds (s : State) (t : Nat) : State :=
  let th := thr s t
  match th.arch.ops.find? isTas with
  | none => s
  | some op =>
    match op.kind with
    | .tas i =>
      if !(oldestMem th op.id && drained th op.id) then s
      else
        let old := tget false (kring s (krOf t)).kbits i
        let s := writeKbit s t i true
        settle (modThr s t (fun th => landOp th op.id (fun a => setPort a 0x065 (w64 (b2n old)))))
    | _ => s

/-! ### The rows -/

/-- DIGIT_UNIT_RESULT (R80, R38, R40). -/
def execDigitUnitResult (t : Fin 2048) (u : DUnit) (o : UnitOutcome) (s : State) : Host.Outcome State Fault Refusal :=
  .next (unitEnds s t u o)

/-- COMPLETION_TIMEOUT (R41). -/
def execCompletionTimeout (t : Fin 2048) (u : DUnit) (s : State) : Host.Outcome State Fault Refusal :=
  .next (unitEnds s t u .timeout)

/-- MUL_PRODUCT_VISIBLE (R96). -/
def execMulProductVisible (t : Fin 2048) (s : State) : Host.Outcome State Fault Refusal :=
  .next (settle (modThr s t (fun th => showMul th false)))

/-- BRANCH_RESOLVE (R115). -/
def execBranchResolve (t : Fin 2048) (s : State) : Host.Outcome State Fault Refusal := .next (resolveBranch s t)

/-- RETURN_RESOLVE (R125). -/
def execReturnResolve (t : Fin 2048) (s : State) : Host.Outcome State Fault Refusal := .next (resolveReturn s t)

/-- FETCH_GROUP_ARRIVE (R132). -/
def execFetchGroupArrive (t : Fin 2048) (parityError : Bool) (s : State) : Host.Outcome State Fault Refusal :=
  .next (fetchGroup s t parityError)

/-- PAGE_WALK_COMPLETE (R205). -/
def execPageWalkComplete (t : Fin 2048) (s : State) : Host.Outcome State Fault Refusal := .next (walkEnds s t)

/-- STC_DECIDED (R155). -/
def execStcDecided (t : Fin 2048) (s : State) : Host.Outcome State Fault Refusal := .next (stcEnds s t)

/-- ATOMIC_COMPLETE (R156). -/
def execAtomicComplete (t : Fin 2048) (s : State) : Host.Outcome State Fault Refusal := .next (atomicEnds s t)

/-- BS_TAS_COMPLETE (R151). -/
def execBsTasComplete (t : Fin 2048) (s : State) : Host.Outcome State Fault Refusal := .next (tasEnds s t)

end Sys2Proof.Machine
end

