-- ==== Sys2Proof/Machine/Knocks.lean ====
section
/-! DEFINITION. Taking a knock and returning from one (R361 to R380), preemption (R139), and the clearing of a quad
that changes its partition (R137). Entry and return are each one shared operation. -/

namespace Sys2Proof.Machine

/-! ### Sources (R361 to R366) -/

/-- A store to KNK_PEND_SET: PEND, ripe at once (R363, R365). -/
def pendSet (s : State) (p n : Nat) : State :=
  if n = 0 then s
  else if mayRaise s p n then
    let x := src s n
    let s := modSrc s n (fun _ => { x with
      pend := true, ripeNow := true
      firstBell := if x.pend then x.firstBell else s.now
      route := if x.pend then x.route else some (kcRoute s.kc n) })
    wakeTargets s n
  else deny s p

/-- A store to KNK_PEND_CLR: PEND and CNT clear (R363). -/
def pendClr (s : State) (p n : Nat) : State :=
  if n = 0 then s
  else if mayRaise s p n then modSrc s n (fun x => { x with pend := false, cnt := 0, ripeNow := false, route := none })
  else deny s p

/-- A store to KNK_MASK_SET or KNK_MASK_CLR (R363). -/
def maskWrite (s : State) (p n : Nat) (m : Bool) : State :=
  if n = 0 then s
  else if mayRaise s p n then
    let s := modSrc s n (fun x => { x with mask := m })
    if m then s else wakeTargets s n
  else deny s p

/-! ### What a knock or a preemption ends (R102, R103, R120, R154, R224) -/

/-- Words past the oldest unresolved branch or return are discarded (R120). -/
def truncate (th : Thread) : Thread :=
  match th.spec with
  | [] => th
  | b :: _ =>
    { th with
      arch := b.along, spec := [{ b with past := 0 }], heldFault := none, strData := none }

/-- A thread's division in progress. -/
def divOp (th : Thread) : Option Op :=
  th.arch.ops.find? (fun o => match o.kind with | .div _ _ _ _ _ _ => true | _ => false)

/-- A division abandoned: the divider is free, the thread is back at the trigger word with the repeat state of
that moment, and ts.epc names it (R102). -/
def abandonDiv (s : State) (t : Nat) : State :=
  let th := thr s t
  match divOp th with
  | none => s
  | some op =>
    match op.kind with
    | .div _ _ _ pc rep cnt =>
      let a := { th.arch with ops := th.arch.ops.filter (fun o => o.id != op.id), pc := pc, rep := rep }
      modCyl (putThr s t { th with arch := setPort (setPort a 0x11A cnt) 0x1C5 (w64 pc.toNat) }) (cylOf t)
        (fun c => { c with divBusy := none })
    | _ => s

/-- Whether the knock `k` leaves a division of the thread running: a move fault in its shadow, or its own
arithmetic fault (R103). -/
def keepsDiv (th : Thread) (k : Option SyncKnock) : Bool :=
  match k, divOp th with
  | some k, some op =>
    match op.kind with
    | .div _ _ _ pc _ _ =>
      decide (1 ≤ k.cause ∧ k.cause ≤ 5) || (decide (0x10 ≤ k.cause ∧ k.cause ≤ 0x11) && th.lastPc == pc)
    | _ => false
  | _, _ => false

/-- The start of an entry or a preemption: branches as R120 states, a division abandoned once no branch is unresolved,
the reservation lost, a waiting seat request withdrawn, a walk no longer waited for. -/
def interrupt (s : State) (t : Nat) (k : Option SyncKnock) : State :=
  let s := modThr s t (fun th =>
    { truncate th with resv := none, walk := th.walk.map (fun w => { w with waits := false }) })
  let s := withdrawSeat s t
  let th := thr s t
  if th.spec = [] ∧ !keepsDiv th k then abandonDiv s t else s

/-- Whether an interrupted thread has come to rest: no branch unresolved and nothing in flight, products aside
(R98, R139, R368). -/
def atRest (th : Thread) : Bool := decide (th.spec = []) && decide (flyOf (showAllMul th 16) = 0)

/-! ### The frame (R369, R479) -/

/-- Whether any of some ports is poisoned. -/
def anyPoison (a : Arch) (ps : List Nat) : Bool := ps.any (fun p => a.poison.contains p)

/-- A port as an item of the frame. -/
def portItem (a : Arch) (p : Nat) : Word × Bool := (port a p, a.poison.contains p)

/-- The ports that the word CTL holds. -/
def ctlPorts : List Nat := [0x086, 0x0B8, 0x0B6, 0x089, 0x0C9, 0x147, 0x065, 0x118, 0x1C2, 0x1C6]

/-- The word CTL of a frame: KIND 1 asynchronous, 2 synchronous. -/
def ctlWord (a : Arch) (kind : Nat) : Word :=
  let bit := fun (p : Nat) => (port a p).toNat % 2
  let d3 := bit 0x1C2 + 2 * b2n a.tgtAbs + 4 * bit 0x086 + 8 * bit 0x0B8
  let d13 := bit 0x089 + 2 * bit 0x0C9 + 4 * bit 0x147 + 8 * bit 0x065
  let pos := if a.rep.active then a.rep.pos else 0xFF
  w64 ((port a 0x1C6).toNat % 256 + kind * 16 ^ 2 + d3 * 16 ^ 3 + a.immCnt * 16 ^ 4 +
    ((port a 0x118).toNat + 15) % 16 * 16 ^ 5 + pos * 16 ^ 6 + (port a 0x0B6).toNat % 256 * 16 ^ 8 + (a.shW - 1) * 16 ^ 10 +
    (a.stW - 1) * 16 ^ 11 + (a.atW - 1) * 16 ^ 12 + d13 * 16 ^ 13 + (if a.rep.active then a.rep.len - 1 else 0) * 16 ^ 14)

/-- The ports of the frame's offsets #040 to #080 and #0A0 to #1C0, each with its offset in words. -/
def framePorts : List (Nat × Nat) :=
  [(4, 0x150), (5, 0x151), (6, 0x102), (7, 0x100), (8, 0x101), (10, 0x144), (11, 0x148), (12, 0x149), (13, 0x080), (14, 0x090)] ++
  [(15, 0x0A0), (16, 0x0B0), (17, 0x0C0), (18, 0x0D0), (19, 0x0E0), (20, 0x088), (21, 0x098), (22, 0x0A8), (23, 0x0C8), (24, 0x0E8)] ++
  [(25, 0x0E9), (26, 0x0D8), (27, 0x0D9), (28, 0x14F)]

/-- b0 to b63 as one word. -/
def bitWord (a : Arch) : Word := w64 ((List.range 64).foldl (fun n i => n + b2n (tbit a i) * 2 ^ i) 0)

/-- The 32 words of a knock frame (R369). -/
def frameItems (a : Arch) (kind : Nat) (epc : VAddr) : List (Word × Bool) :=
  (List.range 32).map (fun i =>
    match alook framePorts i with
    | some p => portItem a p
    | none =>
      if i = 0 then (w64 epc.toNat, false)
      else if i = 1 then (ctlWord a kind, anyPoison a ctlPorts)
      else if i = 2 then (w64 a.immAcc.toNat, false)
      else if i = 3 then portItem a 0x11A
      else if i = 9 then
        (w64 ((port a 0x140).toNat % 4096 + (port a 0x060).toNat % 4096 * 16 ^ 3 + (port a 0x062).toNat % 4096 * 16 ^ 6),
          anyPoison a [0x140, 0x060, 0x062])
      else if i = 29 then (bitWord a, anyPoison a ((List.range 64).map bitPort))
      else (0, false))

/-- A port restored from the frame. -/
def putItem (a : Arch) (p : Nat) (v : Word) (bad : Bool) : Arch := setPoison (setPort a p v) p bad

/-- What a return restores from the frame's words (R369, R376). -/
def restoreFrame (a : Arch) (f : List (Word × Bool)) : Arch :=
  let w := fun i => (nth (0, false) f i).1
  let bad := fun i => (nth (0, false) f i).2
  let c := w 1
  let d := fun (hi lo : Nat) => fld c hi lo
  let b1 := bad 1
  let a := putItem (putItem (putItem (putItem (putItem (putItem (putItem (putItem (putItem (putItem a
    0x1C6 (w64 (d 7 0)) b1) 0x1C2 (w64 (d 12 12)) b1) 0x086 (w64 (d 14 14)) b1) 0x0B8 (w64 (d 15 15)) b1) 0x118 (w64 (d 23 20 + 1)) b1)
    0x0B6 (w64 (d 39 32)) b1) 0x089 (w64 (d 52 52)) b1) 0x0C9 (w64 (d 53 53)) b1) 0x147 (w64 (d 54 54)) b1) 0x065 (w64 (d 55 55)) b1
  let pos := d 31 24
  let a := { a with
    tgtAbs := d 13 13 == 1, immCnt := min 3 (d 19 16), immAcc := BitVec.ofNat 48 (w 2).toNat
    shW := d 43 40 + 1, stW := d 47 44 + 1, atW := d 51 48 + 1
    rep := if pos = 0xFF then { a.rep with active := false } else { active := true, len := d 59 56 + 1, pos := pos } }
  let a := putItem a 0x11A (lowDigits 8 (w 3)) (bad 3)
  let a := framePorts.foldl (fun a x => putItem a x.2 (lowDigits (((alook portRows x.2).map (·.width)).getD 16) (w x.1)) (bad x.1)) a
  let a := putItem (putItem (putItem a 0x140 (w64 (fld (w 9) 11 0)) (bad 9)) 0x060 (w64 (fld (w 9) 23 12)) (bad 9))
    0x062 (w64 (fld (w 9) 35 24)) (bad 9)
  let a := (List.range 64).foldl (fun a i => setPoison (setBit a i ((w 29).getLsbD i)) (bitPort i) (bad 29)) a
  let epc := BitVec.ofNat 56 (w 0).toNat
  { putItem a 0x1C5 (w64 epc.toNat) (bad 0) with pc := epc }

/-! ### Entry (R219, R368 to R372, R377) -/

/-- Translation of a frame's page, walking at once where no TLB entry stands. -/
def entryXlate (s : State) (t acc va : Nat) : Xl :=
  match thrXlate s t va acc with
  | .miss =>
    match walk s (thr s t).part va with
    | .error (d, l) => .fault d l
    | .ok e => useEntry e va acc
  | r => r

/-- The check of a whole frame (R123, R219). -/
def entryAccess (s : State) (t va n acc : Nat) : Acc := splitAccess (entryXlate s t acc) .thread acc va n

/-- The TLB filled for a frame's page. -/
def entryFill (s : State) (t va acc : Nat) : State :=
  match thrXlate s t va acc with
  | .miss =>
    match walk s (thr s t).part va with
    | .ok e => tlbInstall s t acc e
    | .error _ => s
  | _ => s

/-- Why an entry cannot be taken: with KNK_VEC.EN clear, with 4,095 frames, or where its save area would fault; an
address and CYL_FINFO when there is a fault to record (R219, R372, R377). -/
def entryBar (s : State) (t : Nat) : Option (Option (VAddr × Word)) :=
  let th := thr s t
  let ssp := (port th.arch 0x1C3).toNat
  if !vecEn s th.part then some none
  else if 4095 ≤ th.frames then some (some (BitVec.ofNat 56 ssp, finfoOf 0 5 3 true))
  else
    match entryAccess s t ((ssp + 2 ^ 56 - 512) % 2 ^ 56) 512 3 with
    | .ok _ => none
    | .miss va => some (some (BitVec.ofNat 56 va, finfoOf 0 1 3 true))
    | .fault va d l => some (some (BitVec.ofNat 56 va, finfoOf l d 3 true))

/-- A knock that cannot be taken: the thread halts and its partition is told (R219). -/
def entryHalt (s : State) (t : Nat) (epc : VAddr) (f : Option (VAddr × Word)) : State :=
  let s := modThr s t (fun th => { th with
    arch := setPort th.arch 0x1C5 (w64 epc.toNat)
    fva := (f.map (·.1)).getD th.fva, finfo := (f.map (·.2)).getD th.finfo })
  let p := (thr s t).part
  errKnock (haltThr s t) p

/-- The handler state of R370; `sync` carries the cause of a synchronous entry. -/
def handlerArch (a : Arch) (vec : Word) (epc : VAddr) (sync : Option Nat) : Arch :=
  let a := setPort (setPort (setPort a 0x1C5 (w64 epc.toNat)) 0x1C2 0) 0x1C6 (w64 (sync.getD 0))
  { a with
    immAcc := 0, immCnt := 0, rep := { a.rep with active := false, pos := 0xFF }
    pc := BitVec.ofNat 56 (fld vec 55 7 * 128 + (if sync.isSome then 0x40 else 0)) }

/-- Steps 3 to 6 of an entry: the frame is checked and written, and the handler is next (R368). -/
def takeEntry (s : State) (t : Nat) (epc : VAddr) (sync : Option Nat) : State :=
  match entryBar s t with
  | some f => entryHalt s t epc f
  | none =>
    let th := thr s t
    let va := ((port th.arch 0x1C3).toNat + 2 ^ 56 - 512) % 2 ^ 56
    let items := frameItems th.arch (if sync.isSome then 2 else 1) epc
    let s := entryFill (entryFill s t va 3) t ((va + 511) % 2 ^ 56) 3
    let s := frameStores s t va items
    let vec := regGet s .knkVec th.part
    modThr s t (fun th => { th with
      st := .ready, park := .no, frames := th.frames + 1, epcs := epc :: th.epcs
      arch := handlerArch (setPort th.arch 0x1C3 (w64 va)) vec epc sync
      fresh := if sync.isSome then 2 else 1
      exitWin := if sync.isSome then false else th.exitWin
      fromWait := if th.fromWait = 1 ∧ sync.isNone then 2 else th.fromWait
      entering := false, direct := false, strData := none })

/-- A direct delivery: the handler again, over the frame that stands (R376). -/
def directEntry (s : State) (t : Nat) : State :=
  let vec := regGet s .knkVec (thr s t).part
  modThr s t (fun th => { th with
    st := .ready, park := .no, arch := handlerArch th.arch vec (th.epcs.headD th.arch.pc) none
    fresh := 1, entering := false, direct := false, strData := none })

/-- A return that restores its frame, or its data-access fault on the store word (R376, R377). -/
def restoreEntry (s : State) (t : Nat) : State :=
  let th := thr s t
  let ssp := (port th.arch 0x1C3).toNat
  match entryAccess s t ssp 512 2 with
  | .ok _ =>
    let s := entryFill (entryFill s t ssp 2) t ((ssp + 511) % 2 ^ 56) 2
    let f := (List.range 32).map (fun i => loadPieces s (okPieces s t ((ssp + 16 * i) % 2 ^ 56) 16 2))
    modThr (touch s t ssp 512 2) t (fun th => { th with
      arch := restoreFrame (setPort th.arch 0x1C3 (w64 ((ssp + 512) % 2 ^ 56))) f
      frames := th.frames - 1, epcs := th.epcs.drop 1, entering := false, direct := false, strData := none })
  | .miss va => retFault s t va 1 0
  | .fault va d l => retFault s t va d l
where
  /-- The fault of a frame read, at the KNK_RTN store word. -/
  retFault (s : State) (t va d l : Nat) : State :=
    modThr s t (fun th => { th with
      entering := false, direct := false
      arch := { setPort th.arch 0x11A th.lastCnt with pc := th.lastPc, rep := th.lastRep }
      sync := some {
        cause := 0x21, epc := th.lastPc, fva := BitVec.ofNat 56 va, finfo := finfoOf l d 2 false, translation := true } })

/-- Whether a thread can be interrupted: its keyring's fabric runs and the device does not hold it. -/
def live (th : Thread) : Bool := (th.st == .ready || th.st == .parked || th.st == .wait) && th.freeze.isNone && th.freezeReq.isNone

/-- An asynchronous entry, begun when a source is delivered and completed when nothing is in flight (R368). -/
def asyncEntry (s : State) (t : Nat) : State :=
  let th := thr s t
  if !(running s && live th && th.sync.isNone && !th.parity && !rtnPending th) then s
  else if !th.entering && (!anyDeliver s t || th.fresh != 0) then s
  else
    let s := modThr (interrupt s t none) t (fun th => { th with
      entering := true, fromWait := if th.st = .wait then 1 else th.fromWait, st := .ready, park := .no })
    let th := thr s t
    if !atRest th then s
    else if !vecEn s th.part then
      (if th.direct then restoreEntry s t else modThr s t (fun th => { th with entering := false }))
    else
      let s := modThr s t (fun th => showAllMul th 16)
      if th.direct then directEntry s t else takeEntry s t (thr s t).arch.pc none

/-- The synchronous knock a thread is to take: a fault of its words, else a store-buffer parity error (R372). -/
def dueSync (th : Thread) : Option SyncKnock :=
  match th.sync with
  | some k => some k
  | none => if th.parity then some { cause := 0x30, epc := th.arch.pc, fva := 0, finfo := 0, translation := false } else none

/-- A synchronous entry (R372). Its EPC is as its rule states, the trigger word of a division it abandons, and the next
word of a thread with a parity error. -/
def syncEntry (s : State) (t : Nat) : State :=
  let th := thr s t
  match dueSync th with
  | none => s
  | some k =>
    if !(running s && live th) then s
    else
      let had := (divOp th).isSome
      let s := modThr (interrupt s t (some k)) t (fun th => { th with st := .ready, park := .no })
      let s := if had && (divOp (thr s t)).isNone then
          modThr s t (fun th => { th with sync := th.sync.map (fun k => { k with epc := th.arch.pc }) })
        else s
      let th := thr s t
      if !atRest th then s
      else
        let epc := match th.sync with | some k => k.epc | none => th.arch.pc
        let s := modThr s t (fun th =>
          let th := showAllMul th 16
          { th with
            sync := none, parity := if th.sync.isSome then th.parity else false
            entering := false, direct := false
            fva := if k.translation then k.fva else th.fva
            finfo := if k.translation then k.finfo else th.finfo
            arch := { setPort (setPort th.arch 0x1C5 (w64 epc.toNat)) 0x1C6 (w64 k.cause) with pc := epc } })
        takeEntry s t epc (some k.cause)

/-! ### Claim, end of interrupt, return (R373 to R378) -/

/-- The source a thread's claim would take: highest PRIO, then lowest number (R373). -/
def bestSource (s : State) (t : Nat) : Option Nat :=
  let l := (srcNums s).filter (fun n => claimable s t n ((thr s t).fromWait == 2))
  l.foldl (fun b n => match b with
    | none => some n
    | some m => if (srcRoute s m).prio < (srcRoute s n).prio then some n else some m) none

/-- A claim: the value of the load, and the state after it (R373). -/
def claim (s : State) (t : Nat) : Word × State :=
  let s := modThr s t (fun th => { th with exitWin := false })
  let best := bestSource s t
  let s := modThr s t (fun th => { th with fromWait := if th.fromWait = 2 then 0 else th.fromWait })
  match best with
  | none => (0, s)
  | some n =>
    let p := (srcRoute s n).prio
    let s := modSrc s n (fun x => { x with
      pend := false, cnt := 0, ripeNow := false, active := true, claimer := t, lastClaim := some s.now, route := none })
    (w64 (p * 4096 + n), modThr s t (fun th => { th with prio := (th.runPri, n) :: th.prio, runPri := p }))

/-- The number of stray end-of-interrupts and returns of a partition rises (R375, R377). -/
def stray (s : State) (t : Nat) : State := bump s .knkStrayCnt (thr s t).part 31 0 1

/-- A store of source `n` to the thread's KNK_EOI (R375); of 0, it pops an entry whose source the thread no longer
holds active (R380). -/
def endOfInterrupt (s : State) (t n : Nat) : State :=
  let th := thr s t
  match th.prio with
  | [] => if n = 0 then s else stray s t
  | (old, top) :: rest =>
    let x := src s top
    let mine := x.active && x.claimer == t
    if n = 0 then (if mine then s else putThr s t { th with prio := rest, runPri := old })
    else if n = top ∧ mine then
      let s := modSrc s n (fun x => { x with active := false })
      wakeTargets (modThr s t (fun th => { th with prio := rest, runPri := old, exitWin := true })) n
    else stray s t

/-- A store of 1 to the thread's KNK_RTN takes effect (R376 to R378). -/
def knkReturn (s : State) (t : Nat) : State :=
  let th := thr s t
  if th.frames = 0 then stray s t
  else
    let s := putThr s t { th with exitWin := false }
    if anyDeliver s t then
      let s := modThr s t (fun th => { th with entering := true, direct := true })
      if atRest (thr s t) then directEntry (modThr s t (fun th => showAllMul th 16)) t else s
    else restoreEntry s t

/-- Whether the thread's next memory operation is a load of KNK_CLAIM that may be performed (R161). -/
def claimOp (th : Thread) : Option Op :=
  match th.arch.ops.find? isMemOp with
  | none => none
  | some o =>
    let ps := match o.kind with | .load _ _ _ ps _ _ => ps | .strLoad _ ps _ => ps | _ => []
    if ps = [(claimAddr, 16)] ∧ th.sbuf = [] then some o else none

/-- A value from control space lands where its load asked for it. -/
def landValue (s : State) (t : Nat) (o : Op) (v : Word) (bad : Bool) : State :=
  match o.kind with
  | .load r w _ _ _ _ =>
    modThr s t (fun th => landOp th o.id (fun a => if r < 64 then setPoison (setG a r (lowDigits w v)) r bad else a))
  | .strLoad w _ _ => modThr s t (fun th => { landOp th o.id id with strData := some (lowDigits w v, bad) })
  | _ => s

/-- The load of KNK_CLAIM that a thread has in flight is performed. -/
def claimLands (s : State) (t : Nat) : State :=
  match claimOp (thr s t) with
  | none => s
  | some o =>
    let r := claim s t
    settle (landValue { r.2 with rdata := r.1 } t o r.1 false)

/-- The KNK_RTN store at the head of the store buffer takes effect; without one, the command stands for it. -/
def returnStore (s : State) (t : Nat) : State :=
  let th := thr s t
  match th.sbuf with
  | [] => settle (knkReturn s t)
  | e :: rest =>
    if e.pieces = [((regPlace .knkRtn).base, 16)] ∧ e.data.getLsbD 0 then settle (knkReturn (putThr s t { th with sbuf := rest }) t) else s

/-! ### Preemption (R139) and quad reassignment (R136, R137, R380) -/

/-- Whether a thread's quad belongs to another partition in the keycut in force than the thread does. -/
def moving (s : State) (t : Nat) : Bool := kcQuad s.kc (t / 4) != (thr s t).part && (thr s t).part != nobody

/-- A thread becomes FROZEN for a reason, to return to the state it left. -/
def freezeNow (s : State) (t : Nat) (why : Freeze) : State :=
  modThr s t (fun th => { showAllMul th 16 with
    st := .frozen, resume := if th.st = .parked then .ready else th.st, park := .no, freeze := some why, freezeReq := none
    resv := none, entering := false, strData := none })

/-- A thread to be preempted stops at its word boundary, and is FROZEN once it is at rest (R139); a thread of a moving quad
freezes when it enters WAIT or HALT (R137). -/
def freezeThr (s : State) (t : Nat) : State :=
  let th := thr s t
  if th.st = .frozen ∨ th.st = .none then s
  else
    match th.freezeReq with
    | some why =>
      if th.st = .halt then freezeNow s t why
      else
        let s := interrupt s t none
        if atRest (thr s t) then freezeNow s t why else s
    | none =>
      if moving s t ∧ (th.st = .halt ∨ th.st = .wait) then
        let s := interrupt s t none
        if atRest (thr s t) then freezeNow s t .quadMove else s
      else s

/-- A thread released by the device returns to the state it left (R139). -/
def releaseThr (s : State) (t : Nat) (why : Freeze) : State :=
  let th := thr s t
  if th.freeze = some why then putThr s t { th with st := th.resume, freeze := none }
  else if th.freezeReq = some why then putThr s t { th with freezeReq := none } else s

/-- A thread's state after step 4 of R137: buffers drained, every register, bit and port as at thread start. -/
def clearedThr (th : Thread) (p : Nat) : Thread :=
  { thrInit with
    part := p, st := if p = nobody then .none else .halt, inbox := th.inbox, current := th.current, nextOp := th.nextOp }

/-- The stores that a thread has buffered go to memory, in order (R137). -/
def drainThr (s : State) (t : Nat) : State :=
  let s := (thr s t).sbuf.foldl (fun s e => storePieces s (some t) e.pieces (natDigits e.w e.data.toNat) e.poison) s
  modThr s t (fun th => { th with sbuf := [] })

/-- The first thread of a partition (R140). -/
def firstThread (kc : Keycut) (p : Nat) : Option Nat := ((List.range 512).find? (fun q => kcQuad kc q == p)).map (4 * ·)

/-- A partition whose first thread has arrived starts: the thread is READY at the entry address (R140). -/
def startDue (s : State) (p : Nat) : State :=
  match firstThread s.kc p with
  | none => s
  | some t =>
    let th := thr s t
    if s.turns.starting.contains p ∧ th.part = p ∧ th.st = .halt then
      putThr { s with turns := { s.turns with starting := s.turns.starting.filter (· != p) } } t
        { th with st := .ready, arch := { th.arch with pc := BitVec.ofNat 56 (kcEntry s.kc p) } }
    else s

/-- A quad all of whose threads are FROZEN, or belong to nobody, is cleared and enters HALT in its new partition; stores
to control space leave its buffers first. A partition that waits for its first thread then starts. -/
def clearQuad (s : State) (q : Nat) : State :=
  let ts := (List.range 4).map (fun i => 4 * q + i)
  let ok := ts.all (fun t =>
    (decide ((thr s t).st = .none) || (decide ((thr s t).st = .frozen) && moving s t)) &&
      (thr s t).sbuf.all (fun e => e.pieces.all (fun p => !isCtl p.1)))
  let p := kcQuad s.kc q
  if ok ∧ ts.any (fun t => (thr s t).part ≠ p) ∧ !retired s 1 (q / 4) then
    startDue (ts.foldl (fun s t =>
      let s := dropActive (endSeats (staleThread (drainThr s t) t) t) t
      let s := putThr s t (clearedThr (thr s t) p)
      rewindItems s t) s) p
  else s

/-! ### Debug sessions (R459) -/

/-- A DEBUG record: #1 start or #2 end, and the port, a code that the specification does not give. -/
def debugRecord (s : State) (what part : Nat) : State :=
  let r := freeWord s
  audit r.2 4 part 0x14 [byte what, byte (r.1.toNat % 256)]

/-- The open debug session ends: its frozen threads are released. -/
def endDebug (s : State) : State :=
  match s.dbg.openPart with
  | none => s
  | some p =>
    let s := debugRecord { s with dbg := { s.dbg with openPart := none, challenge := none } } 2 p
    (s.threads.map (·.1)).foldl (fun s t => releaseThr s t .debug) s

/-! ### The rows -/

/-- KNK_DOORBELL (R362). -/
def execKnkDoorbell (p : Fin 256) (n : Fin 4096) (s : State) : Host.Outcome State Fault Refusal := .next (raise s p n)

/-- DEVICE_RAISE (R362). -/
def execDeviceRaise (p : Fin 256) (n : Fin 4096) (s : State) : Host.Outcome State Fault Refusal := .next (raise s p n)

/-- KNK_PEND_SET (R363). -/
def execKnkPendSet (p : Fin 256) (n : Fin 4096) (s : State) : Host.Outcome State Fault Refusal := .next (pendSet s p n)

/-- KNK_PEND_CLR (R363). -/
def execKnkPendClr (p : Fin 256) (n : Fin 4096) (s : State) : Host.Outcome State Fault Refusal := .next (pendClr s p n)

/-- KNK_MASK_SET (R363). -/
def execKnkMaskSet (p : Fin 256) (n : Fin 4096) (s : State) : Host.Outcome State Fault Refusal := .next (maskWrite s p n true)

/-- KNK_MASK_CLR (R363). -/
def execKnkMaskClr (p : Fin 256) (n : Fin 4096) (s : State) : Host.Outcome State Fault Refusal := .next (maskWrite s p n false)

/-- MODERATION_RIPE (R365): MINIVL has passed for a pending source since its first counted doorbell and its last claim, so
it is ripe. -/
def execModerationRipe (n : Fin 4096) (s : State) : Host.Outcome State Fault Refusal :=
  let x := src s n
  let r := srcRoute s n
  .next (if x.pend && decide (x.firstBell + r.minivl ≤ s.now) &&
      (match x.lastClaim with | none => true | some c => decide (c + r.minivl ≤ s.now)) then
    wakeTargets (modSrc s n (fun x => { x with ripeNow := true })) n
  else s)

/-- KNOCK_ENTRY (R368). -/
def execKnockEntry (t : Fin 2048) (s : State) : Host.Outcome State Fault Refusal := .next (settle (asyncEntry s t))

/-- SYNC_KNOCK_ENTRY (R372). -/
def execSyncKnockEntry (t : Fin 2048) (s : State) : Host.Outcome State Fault Refusal := .next (settle (syncEntry s t))

/-- KNK_CLAIM (R373). -/
def execKnkClaim (t : Fin 2048) (s : State) : Host.Outcome State Fault Refusal := .next (claimLands s t)

/-- KNK_EOI (R375). -/
def execKnkEoi (t : Fin 2048) (n : Fin 4096) (s : State) : Host.Outcome State Fault Refusal := .next (endOfInterrupt s t n)

/-- KNK_RTN (R376). -/
def execKnkRtn (t : Fin 2048) (s : State) : Host.Outcome State Fault Refusal := .next (returnStore s t)

/-- THREAD_FREEZE (R139). -/
def execThreadFreeze (t : Fin 2048) (s : State) : Host.Outcome State Fault Refusal := .next (settle (freezeThr s t))

/-- QUAD_CLEAR (R137). -/
def execQuadClear (q : Fin 512) (s : State) : Host.Outcome State Fault Refusal := .next (clearQuad s q)

end Sys2Proof.Machine
end

