-- ==== Sys2Proof/Machine/Verify.lean ====
section
/-! DEFINITION. Verification of keycuts and deltas (R314 to R324, R268, R269, R334, R335, R342, R383): FORMAT, SIGNATURE,
SERIAL, SECTION and CONTENT, and the keycut that a list of deltas makes. -/

namespace Sys2Proof.Machine

/-! ### Codes and the container (R314, R315) -/

/-- A directory entry. -/
structure DirEntry where
  ty : Nat
  off : Nat
  len : Nat
  digest : Bytes
  deriving DecidableEq, Repr

/-- The length of the header. -/
def kcHeaderLen : Nat := 5300
/-- KIND of a keycut's bytes. -/
def kcKind (b : Bytes) : Nat := leAt b 6 2
/-- SERIAL of a keycut's bytes. -/
def kcSerial (b : Bytes) : Nat := leAt b 8 4
/-- BASE of a keycut's bytes. -/
def kcBase (b : Bytes) : Nat := leAt b 12 4
/-- TOTAL of a keycut's bytes. -/
def kcTotal (b : Bytes) : Nat := leAt b 16 4
/-- NSEC of a keycut's bytes. -/
def kcNsec (b : Bytes) : Nat := leAt b 20 2
/-- One directory entry. -/
def dirEntry (b : Bytes) (i : Nat) : DirEntry :=
  let o := 1344 + 48 * i
  { ty := leAt b o 2, off := leAt b (o + 4) 4, len := leAt b (o + 8) 4, digest := slice b (o + 16) 32 }
/-- The listed directory entries. -/
def dirEntries (b : Bytes) : List DirEntry := (List.range (min 32 (kcNsec b))).map (dirEntry b)
/-- A section's bytes in a keycut. -/
def entryBytes (b : Bytes) (d : DirEntry) : Bytes := slice b d.off d.len
/-- The sections of a keycut by TYPE. -/
def kcSections (b : Bytes) : List (Nat × Bytes) := (dirEntries b).map (fun d => (d.ty, entryBytes b d))

/-- Whether `len` bytes from `off` are 0. -/
def zeroAt (b : Bytes) (off len : Nat) : Bool := allZero (slice b off len)

/-- Bytes outside the header and the listed sections are 0; the entries come in ascending OFFSET. -/
def gapsZero (b : Bytes) : Nat → List DirEntry → Bool
  | pos, [] => allZero (b.drop pos)
  | pos, d :: ds => decide (pos ≤ d.off) && zeroAt b pos (d.off - pos) && gapsZero b (d.off + d.len) ds

/-- An entry put into a list in ascending OFFSET. -/
def insertByOff (d : DirEntry) : List DirEntry → List DirEntry
  | [] => [d]
  | e :: es => if d.off ≤ e.off then d :: e :: es else e :: insertByOff d es

/-- Section types that exist (R317). -/
def knownType (ty : Nat) : Bool := decide (1 ≤ ty ∧ ty ≤ 0xE) || decide (0x20 ≤ ty ∧ ty < 0x30)

/-- The sections that a full keycut must carry. -/
def requiredTypes : List Nat := [1, 2, 3, 4, 5, 6, 7, 8, 9, 0xA, 0xD, 0xE]

/-- The next multiple of 64. -/
def up64 (n : Nat) : Nat := (n + 63) / 64 * 64

/-- Whether a section has its tabled length. -/
def lenOk (ty : Nat) (b : Bytes) : Bool :=
  let n := b.length
  match ty with
  | 1 => n == 592
  | 2 => n == 20480
  | 3 => n == 1024
  | 4 => n == 50176
  | 5 => n == 64
  | 6 => n == 1024
  | 7 => n == 464
  | 8 => n == 64
  | 9 => decide (6148 ≤ n) && n == 6148 + 8 * leAt b 6144 4
  | 0xA => n == 294912
  | 0xB => n == 5004
  | 0xC => n == 25964
  | 0xD => n == 131072
  | 0xE => n == 2048
  | _ => if 0x20 ≤ ty ∧ ty < 0x30 then decide (64 ≤ n) && n == up64 (64 + 16 * leAt b 8 1) + leAt b 16 4 else true

/-- Whether every must-be-0 field of a section is 0. -/
def zerosOk (ty : Nat) (b : Bytes) : Bool :=
  match ty with
  | 1 => zeroAt b 4 4 && zeroAt b 30 2 && (List.range 16).all (fun j => zeroAt b (64 + 16 * j + 9) 7) && zeroAt b 326 2 && zeroAt b 584 8
  | 2 => (List.range 256).all (fun p =>
      leAt b (80 * p) 1 / 4 == 0 && zeroAt b (80 * p + 1) 3 && zeroAt b (80 * p + 34) 6 && zeroAt b (80 * p + 72) 8 &&
        (List.range 4).all (fun c => zeroAt b (80 * p + 46 + 8 * c) 2))
  | 7 => (List.range 48).all (fun l => zeroAt b (4 * l + 3) 1) && zeroAt b 194 270
  | 9 => (List.range 256).all (fun p => (List.range 6).all (fun n => zeroAt b (24 * p + 4 * n + 3) 1)) &&
      (List.range (leAt b 6144 4)).all (fun i => zeroAt b (6148 + 8 * i + 6) 2)
  | 0xA => (List.range 1024).all (fun q => leAt b (288 * q + 6) 1 / 2 == 0 && zeroAt b (288 * q + 7) 1 && zeroAt b (288 * q + 17) 15)
  | 0xB => zeroAt b 13 1 && zeroAt b 29 3 && zeroAt b 162 2 && leAt b 10 2 / 16 == 0
  | 0xC => zeroAt b 21122 2 && (List.range 16).all (fun i => zeroAt b (1320 * i + 2) 6)
  | 0xD => zeroAt b 0 32 && (List.range 4096).all (fun n => zeroAt b (32 * n + 5) 3 && zeroAt b (32 * n + 28) 4)
  | _ => if 0x20 ≤ ty ∧ ty < 0x30 then
      zeroAt b 9 7 && zeroAt b 20 44 && (List.range (leAt b 8 1)).all (fun i => zeroAt b (64 + 16 * i + 5) 1) else true

/-- Check 1, FORMAT (R314, R315). -/
def formatOk (b : Bytes) : Bool :=
  let ds := dirEntries b
  decide (kcHeaderLen ≤ b.length) && slice b 0 4 == ascii "KCUT" && leAt b 4 2 == 1 &&
    decide (1 ≤ kcKind b ∧ kcKind b ≤ 3) && decide (1 ≤ kcSerial b) && (kcKind b == 2 || kcBase b == 0) &&
    kcTotal b == b.length && decide (kcTotal b ≤ 67108864) && decide (1 ≤ kcNsec b ∧ kcNsec b ≤ 32) && zeroAt b 22 10 &&
    (List.range 32).all (fun i => if i < kcNsec b then zeroAt b (1344 + 48 * i + 2) 2 && zeroAt b (1344 + 48 * i + 12) 4
      else zeroAt b (1344 + 48 * i) 48) &&
    (ds.zip (ds.drop 1)).all (fun x => decide (x.1.ty < x.2.ty)) &&
    ds.all (fun d => d.off % 64 == 0 && decide (5312 ≤ d.off) && decide (d.off + d.len ≤ b.length)) &&
    gapsZero b kcHeaderLen (ds.foldr insertByOff []) &&
    (kcKind b != 1 || requiredTypes.all (fun t => ds.any (fun d => d.ty == t))) &&
    (kcSections b).all (fun x => lenOk x.1 x.2 && zerosOk x.1 x.2)

/-! ### SIGNATURE (R315, R316) -/

/-- The keycut-key digest in force: the maker's in BLANK and CUT, the owner's from KEYED onward. -/
def kcKeyDigest (s : State) : Bytes :=
  if s.fuses.lcs = 1 ∨ s.fuses.lcs = 3 then Config.makerKeyDigest else s.fuses.owner.getD []

/-- Check 2, SIGNATURE. -/
def signatureOk (s : State) (b : Bytes) : Bool :=
  let pk := slice b 32 1312
  sha256 pk == kcKeyDigest s && Config.mlDsaVerify 0 pk (ascii "KEYCUT") (sha256 (b.take 2880)) (slice b 2880 2420) &&
    (dirEntries b).all (fun d => sha256 (entryBytes b d) == d.digest)

/-! ### The keycut that results -/

/-- A section replaced whole (R317). -/
def putSection (l : List (Nat × Bytes)) (x : Nat × Bytes) : List (Nat × Bytes) := aput l x.1 x.2

/-- A keycut with a delta applied (R317, R324): an island delta leaves SERIAL. -/
def applyDelta (kc : Keycut) (d : Delta) : Keycut where
  serial := if d.kind = 3 then kc.serial else d.serial
  digest := sha256 (kc.digest ++ sha256 d.header)
  island := if d.kind = 3 then d.serial else kc.island
  sections := d.sections.foldl putSection kc.sections

/-- A keycut with deltas applied in order. -/
def applyDeltas (kc : Keycut) (ds : List Delta) : Keycut := ds.foldl applyDelta kc

/-- A delta as it is staged. -/
def deltaOf (b : Bytes) : Delta where
  kind := kcKind b
  serial := kcSerial b
  base := kcBase b
  header := b.take 2880
  sections := kcSections b

/-- A full keycut in force (R317). -/
def fullKeycut (b : Bytes) : Keycut where
  serial := kcSerial b
  digest := sha256 (b.take 2880)
  island := 0
  sections := kcSections b

/-! ### CONTENT (R321): ranges -/

/-- An owner code (R318). -/
def ownerOk (n : Nat) : Bool := decide (n < 256) || n == nobody
/-- Every 2-byte owner of `n` from `off`, `stride` apart. -/
def ownersOk (b : Bytes) (off stride n : Nat) : Bool := (List.range n).all (fun i => ownerOk (leAt b (off + stride * i) 2))
/-- A field within bounds. -/
def within (b : Bytes) (off len lo hi : Nat) : Bool := decide (lo ≤ leAt b off len ∧ leAt b off len ≤ hi)

/-- DEVICE ranges. -/
def deviceOk (b : Bytes) : Bool :=
  within b 0 4 100 1000000 && (List.range 4).all (fun c => within b (8 + 4 * c) 4 1 10000000 && within b (24 + c) 1 0 7) &&
    within b 28 1 0 2 && within b 29 1 0 2 && (List.range 16).all (fun j => within b (64 + 16 * j + 8) 1 6 16) &&
    within b 324 1 0 7 && within b 325 1 1 8 && (leAt b 320 4 != 0 || leAt b 325 1 == 1) &&
    zeroAt b (328 + 32 * leAt b 325 1) (32 * (8 - leAt b 325 1))

/-- One PARTITION entry's ranges. -/
def partOk (b : Bytes) (p : Nat) : Bool :=
  let o := 80 * p
  within b (o + 4) 4 0 262144 && leAt b (o + 8) 8 % 8 == 0 && within b (o + 8) 8 0 (2 ^ 56 - 1) && leAt b (o + 24) 8 % 65536 == 0 &&
    within b (o + 32) 2 1 4095 && (List.range 4).all (fun c => within b (o + 40 + 8 * c) 4 0 50000000 && within b (o + 44 + 8 * c) 2 1 65535)

/-- ISLAND ranges. -/
def islandOk (b : Bytes) : Bool :=
  (List.range 16).all (fun k => decide (550 ≤ leAt b (4 * k) 2) && decide (leAt b (4 * k) 2 ≤ leAt b (4 * k + 2) 2) &&
    decide (leAt b (4 * k + 2) 2 ≤ 950))

/-- The column and row of a mesh node: 8 columns (R338). -/
def nodeCol (n : Nat) : Nat := n % 8
/-- The row. -/
def nodeRow (n : Nat) : Nat := n / 8
/-- The neighbour of a node in a direction. -/
def nodeStep (n d : Nat) : Option Nat :=
  match d with
  | 0 => if nodeRow n = 0 then none else some (n - 8)
  | 1 => if nodeCol n = 7 then none else some (n + 1)
  | 2 => if nodeRow n = 3 then none else some (n + 8)
  | 3 => if nodeCol n = 0 then none else some (n - 1)
  | _ => none
/-- The absolute difference. -/
def absDiff (a b : Nat) : Nat := (a - b) + (b - a)

/-- A route traced from `n` to `j` in exactly `hops`; no west hop after one that was not west (R342). -/
def traceOk (b : Bytes) (j : Nat) : Nat → Nat → Bool → Bool
  | 0, n, _ => n == j
  | h + 1, n, turned =>
    let d := leAt b (32 * n + j) 1
    if n = j ∨ (d = 3 ∧ turned) then false
    else match nodeStep n d with
    | none => false
    | some m => traceOk b j h m (turned || d != 3)

/-- The route check (R342). -/
def routesOk (b : Bytes) : Bool :=
  (List.range 32).all (fun i => (List.range 32).all (fun j =>
    (leAt b (32 * i + j) 1 == 4) == (i == j) && decide (leAt b (32 * i + j) 1 ≤ 4) &&
      traceOk b j (absDiff (nodeCol i) (nodeCol j) + absDiff (nodeRow i) (nodeRow j)) i false))

/-- The INDEX values of a function's lanes. -/
def laneIndexes (b : Bytes) (f : Nat) : List Nat :=
  ((List.range 48).filter (fun l => leAt b (4 * l) 1 == f)).map (fun l => leAt b (4 * l + 1) 1)
/-- Whether a list holds exactly the numbers below `n`, each once. -/
def exactly (l : List Nat) (n : Nat) : Bool := l.length == n && (List.range n).all (fun i => l.contains i)

/-- LANES ranges and the lane rules (R383). -/
def lanesOk (b : Bytes) : Bool :=
  let w := laneIndexes b 4
  let p := laneIndexes b 3
  (List.range 48).all (fun l =>
      let f := leAt b (4 * l) 1
      (f == 0 || (decide (l < 16) && (f == 1 || f == 2)) || (decide (16 ≤ l ∧ l < 32) && f == 3) || (decide (32 ≤ l) && f == 4)) &&
        within b (4 * l + 2) 1 0 3) &&
    within b 192 1 1 4 && within b 193 1 1 4 &&
    [1, 2].all (fun f => laneIndexes b f == [] || exactly (laneIndexes b f) 8) &&
    (p == [] || [1, 2, 4, 8, 16].any (fun n => exactly p n)) &&
    decide w.Nodup && w.all (fun i => decide (i < 16)) &&
    (List.range 4).all (fun j => w.all (fun i => i / 4 != j) || (List.range 4).all (fun i => w.contains (4 * j + i)))

/-- ARBITER ranges. -/
def arbiterOk (b : Bytes) : Bool :=
  (List.range 1536).all (fun i => within b (4 * i) 1 0 16 && within b (4 * i + 1) 1 0 15 && within b (4 * i + 2) 1 1 255) &&
    within b 6144 4 0 8192 &&
    (List.range (leAt b 6144 4)).all (fun i =>
      let o := 6148 + 8 * i
      arbValid (leAt b o 2) (leAt b (o + 2) 2) && decide (leAt b o 2 < 0x100) && within b (o + 4) 1 0 15 && within b (o + 5) 1 1 255)

/-- One QUEUE entry's ranges. -/
def queueOk (b : Bytes) (q : Nat) : Bool :=
  let o := 288 * q
  within b o 2 0 16384 && within b (o + 2) 2 0 16384 && within b (o + 4) 1 1 4 &&
    (within b (o + 5) 1 0 7 || leAt b (o + 5) 1 == 0xFF) && within b (o + 12) 2 64 32768 && within b (o + 14) 2 1 1000 &&
    within b (o + 16) 1 1 255

/-- KNOCKER ranges; route 0 is all 0. -/
def knockerOk (b : Bytes) : Bool :=
  zeroAt b 0 32 && (List.range 4095).all (fun i =>
    let o := 32 * (i + 1)
    ownerOk (leAt b o 2) && within b (o + 2) 1 0 15 && within b (o + 3) 1 0 15 && within b (o + 4) 1 1 255)

/-- EXGUARD ranges (R268). -/
def exguardOk (b : Bytes) : Bool :=
  slice b 0 4 == ascii "EXGP" && within b 4 4 1 (2 ^ 32 - 1) && within b 12 1 1 15 && within b 14 2 1 1440 && within b 16 4 1 1000000 &&
    within b 20 4 1 65535 && within b 24 4 1 524288 && within b 28 1 0 16 &&
    zeroAt b (32 + 8 * leAt b 28 1) (8 * (16 - leAt b 28 1)) && within b 160 1 0 15 && within b 161 1 0 15

/-- OFFICER ranges. -/
def officerOk (b : Bytes) : Bool :=
  (List.range 16).all (fun i => leAt b (1320 * i) 2 != 0 || zeroAt b (1320 * i + 8) 1312) && within b 21120 1 0 15 && within b 21121 1 0 15

/-- BLANK ranges and the port rules (R334, R335). -/
def blankOk (b : Bytes) : Bool :=
  let ports := (List.range (blankNport b)).map (fun i => leAt b (64 + 16 * i) 1)
  slice b 0 4 == ascii "BLNK" && ownerOk (blankOwner b) && within b 6 2 1 500 && within b 8 1 1 64 && within b 16 4 1 3145728 &&
    decide ports.Nodup && ports.all (fun p => decide (p < 64)) &&
    (List.range (blankNport b)).all (fun i =>
      let o := 64 + 16 * i
      within b (o + 1) 1 0 16 && within b (o + 2) 1 1 3 && within b (o + 3) 1 0 2 &&
        (leAt b (o + 3) 1 != 1 || leAt b (o + 4) 1 == 0xFF ||
          (match blankPort b (leAt b (o + 4) 1) with | some d => d.dir == 2 || d.dir == 3 | none => false)))

/-- The ranges of one section. -/
def rangeOk (ty : Nat) (b : Bytes) : Bool :=
  match ty with
  | 1 => deviceOk b
  | 3 => ownersOk b 0 2 512
  | 4 => ownersOk b 0 2 (50176 / 2)
  | 5 => islandOk b
  | 6 => routesOk b
  | 7 => lanesOk b
  | 8 => (List.range 64).all (fun i => within b i 1 0 6)
  | 9 => arbiterOk b
  | 0xA => (List.range 1024).all (queueOk b)
  | 0xB => exguardOk b
  | 0xC => officerOk b
  | 0xD => knockerOk b
  | 0xE => (List.range 512).all (fun c => ownerOk (leAt b (4 * c) 2) && within b (4 * c + 2) 2 0 4095)
  | _ => if 0x20 ≤ ty then blankOk b else true

/-! ### CONTENT: rules over the whole keycut -/

/-- A present partition, or none. -/
def presentOr (kc : Keycut) (p : Nat) : Bool := p == nobody || kcPresent kc p
/-- A present partition that holds a quad in a keyring, or none. -/
def holderOr (kc : Keycut) (p k : Nat) : Bool := p == nobody || kcHoldsIn kc p k
/-- The cylinders in which a partition holds a quad. -/
def holdsCyl (kc : Keycut) (p c : Nat) : Bool := (List.range 4).any (fun i => kcQuad kc (4 * c + i) == p)
/-- Whether digits of DRAM lie wholly in a partition's granules. -/
def inGranules (kc : Keycut) (p a n : Nat) : Bool :=
  (List.range ((a + n - 1) / 4194304 + 1 - a / 4194304)).all (fun i => kcGran kc (a / 4194304 + i) == p)

/-- SEALED partitions hold whole cylinders and 1 to 12 ways; no store has more than 12 reserved; only they hold ways. -/
def sealedOk (kc : Keycut) : Bool :=
  (List.range 256).all (fun p => !kcSealed kc p ||
    ((List.range 128).all (fun c => !holdsCyl kc p c || (List.range 4).all (fun i => kcQuad kc (4 * c + i) == p)) &&
      (List.range 16).all (fun k => !kcHoldsIn kc p k ||
        (let n := ((List.range 16).filter (fun w => kcWay kc k w == p)).length
         decide (1 ≤ n ∧ n ≤ 12))))) &&
    (List.range 16).all (fun k =>
      decide (((List.range 16).filter (fun w => kcWay kc k w != nobody)).length ≤ 12) &&
        (List.range 16).all (fun w => kcWay kc k w == nobody || kcSealed kc (kcWay kc k w)))

/-- Resources name present partitions or none, in the keyrings where they hold quads. -/
def ownersPresent (kc : Keycut) : Bool :=
  (List.range 21504).all (fun g => presentOr kc (kcGran kc g)) && (List.range 3072).all (fun i => presentOr kc (kcScratch kc i)) &&
    (List.range 16).all (fun k =>
      (List.range 16).all (fun j => holderOr kc (kcKbit kc k (256 * j)) k) &&
        (match kcBlank kc k with | none => true | some b => holderOr kc (blankOwner b) k)) &&
    (List.range 512).all (fun c => holderOr kc (kcDmaOwner kc c) (c / 32))

/-- Routes name present owners, and every thread of a MASK belongs to the OWNER. -/
def routeOwnersOk (kc : Keycut) : Bool :=
  (List.range 4095).all (fun i =>
    let r := kcRoute kc (i + 1)
    presentOr kc r.owner && (List.range 128).all (fun t => !r.mask.getLsbD t || kcQuad kc ((128 * r.kr + t) / 4) == r.owner))

/-- Landing slots, telemetry rings and error sources. -/
def placesOk (kc : Keycut) : Bool :=
  (List.range 256).all (fun p =>
    if kcPresent kc p then
      inGranules kc p (kcLanding kc p) (65536 * (kcThreads kc p).length) && (kcRoute kc (kcErrSrc kc p)).owner == p
    else zeroAt ((sect? kc 2).getD []) (80 * p) 80) &&
    (List.range 16).all (fun j => inGranules kc 0 (kcTlmBase kc j) (128 * 2 ^ kcTlmSize kc j))

/-- Queue capacities, watermarks and serving sets. -/
def queuesOk (kc : Keycut) : Bool :=
  decide (((List.range 1024).map (fun q => kcCcap kc q + kcRcap kc q)).foldl (· + ·) 0 ≤ 245760) &&
    (List.range 1024).all (fun q =>
      if kcPresent kc (q / 4) then
        let n := (kcThreads kc (q / 4)).length
        kcCcap kc q == 0 || (decide (kcLow kc q < kcHigh kc q) && decide (kcHigh kc q ≤ kcCcap kc q) &&
          (List.range 2048).any (kcServes kc q) && (List.range 2048).all (fun i => !kcServes kc q i || decide (i < n)))
      else kcCcap kc q == 0 && kcRcap kc q == 0)

/-- The blanks against the partitions of their keyrings (R335). -/
def blanksOk (kc : Keycut) : Bool :=
  (List.range 16).all (fun k =>
    match kcBlank kc k with
    | none => true
    | some b =>
      let ps := (List.range 256).filter (fun p => kcHoldsIn kc p k)
      !(blankOwner b == nobody && ps.any (fun p => kcKeyh kc p || kcSealed kc p)) &&
        !(ps.any (kcKeyh kc) && (List.range (blankNport b)).any (fun i => leAt b (64 + 16 * i + 3) 1 == 1 && leAt b (64 + 16 * i + 6) 2 == 0)))

/-! ### EXGUARD and OFFICER (R269, R320) -/

/-- The officer set of a keycut: bytes 0 to 21,119 of its section. -/
def officerSet (kc : Keycut) : Bytes := ((sect? kc 0xC).getD []).take 21120
/-- Whether an officer holds the policy role. -/
def policyRole (kc : Keycut) (i : Nat) : Bool := (kcRole kc i).testBit 0

/-- Two different officers of the set in `kc` sign. -/
def twoSign (kc : Keycut) (i j : Nat) (ctx msg sig1 sig2 : Bytes) : Bool :=
  i != j && policyRole kc i && policyRole kc j && Config.mlDsaVerify 0 (kcOfficerKey kc i) ctx (sha256 msg) sig1 &&
    Config.mlDsaVerify 0 (kcOfficerKey kc j) ctx (sha256 msg) sig2

/-- The acceptance of a policy section by the officers of `officers`, over the serial in force (R269). -/
def policyOk (officers : Keycut) (serialNow : Nat) (b : Bytes) : Bool :=
  decide (serialNow < leAt b 4 4) &&
    twoSign officers (leAt b 160 1) (leAt b 161 1) (ascii "EXG-POLICY") (b.take 164) (slice b 164 2420) (slice b 2584 2420)

/-- The acceptance of an OFFICER section against the set in force (R320). -/
def officersOk (now : Keycut) (b : Bytes) : Bool :=
  (sect? now 0xC).isNone || b.take 21120 == officerSet now ||
    twoSign now (leAt b 21120 1) (leAt b 21121 1) (ascii "EXG-OFFICER") (b.take 21120) (slice b 21124 2420) (slice b 23544 2420)

/-- A keycut in which the quads of retired cylinders count as held by no partition (R478). -/
def serviceQuads (s : State) (kc : Keycut) : Keycut :=
  match sect? kc 3 with
  | none => kc
  | some b =>
    let l := (List.range 512).flatMap (fun q => if retired s 1 (q / 4) then [0xFF, 0xFF] else slice b (2 * q) 2)
    { kc with sections := aput kc.sections 3 l }

/-- Check 5, CONTENT, of the keycut that would result, but for EXGUARD and OFFICER. -/
def contentOk (s : State) (made : Keycut) : Bool :=
  let kc := serviceQuads s made
  made.sections.all (fun x => rangeOk x.1 x.2) && kcPresent kc 0 && kcPresent kc 1 &&
    (List.range 256).all (fun p => !kcPresent kc p || partOk ((sect? kc 2).getD []) p) &&
    sealedOk kc && ownersPresent kc && routeOwnersOk kc && placesOk kc && queuesOk kc && blanksOk kc &&
    (!locked s || (List.range 256).all (fun p => !kcPresent kc p || (kcPtroot kc p).testBit 4))

/-! ### Deltas (R321, R324) -/

/-- The deltas staged by both planes, partition 0's first. -/
def stagedDeltas (s : State) : List Delta := s.turns.p0.deltas ++ s.turns.p1.deltas

/-- Whether a delta's KIND may carry a section. -/
def mayCarry (kind ty : Nat) : Bool :=
  if kind = 2 then knownType ty && !(ty == 5 || ty == 6 || ty == 7 || ty == 8) else kind == 3 && ty == 5

/-- The serial rule of a delta's KIND (R324). -/
def serialOk (s : State) (b : Bytes) : Bool :=
  if kcKind b = 2 then
    kcBase b == (applyDeltas s.kc s.turns.p1.deltas).serial && decide (kcBase b < kcSerial b)
  else if kcKind b = 3 then decide (s.kc.island < kcSerial b)
  else true

/-- The code that verification of a delta staged by plane `p` ends with: #2 STAGED, or the first check that fails. -/
def deltaCode (s : State) (p : Nat) (b : Bytes) : Nat :=
  let d := deltaOf b
  let kc := applyDelta (applyDeltas s.kc (stagedDeltas s)) d
  if !formatOk b then 3
  else if !signatureOk s b then 4
  else if !serialOk s b then 5
  else if (d.kind != (if p = 0 then 3 else 2)) || !(d.sections.all (fun x => mayCarry d.kind x.1)) then 6
  else if contentOk s kc && (match alook d.sections 0xB with | none => true | some x => policyOk s.kc (polSerial s.kc) x) &&
      (match alook d.sections 0xC with | none => true | some x => officersOk s.kc x) then 2
  else 7

end Sys2Proof.Machine
end

