-- ==== Sys2Proof/Machine/Turns.lean ====
section
/-! DEFINITION. Turns (R24 to R27, R325 to R333): staged sets, the commit and its drain, and the boundary with the work
that each setting needs. -/

namespace Sys2Proof.Machine

/-! ### Planes (R325) -/

/-- A plane's set and TURN registers. -/
def plane (s : State) (p : Nat) : Plane := if p = 0 then s.turns.p0 else s.turns.p1
/-- A plane changed. -/
def modPlane (s : State) (p : Nat) (f : Plane → Plane) : State :=
  { s with turns := if p = 0 then { s.turns with p0 := f s.turns.p0 } else { s.turns with p1 := f s.turns.p1 } }

/-- Whether a commit or an agreement in progress has taken a plane's set. -/
def setTaken (s : State) (p : Nat) : Bool :=
  (match s.turns.commit with | some c => if p = 0 then c.take0 else c.take1 | none => false) ||
    (match s.westad.agree with | some a => if p = 0 then a.take0 else a.take1 | none => false)

/-! ### Staging a delta (R325, R327) -/

/-- The deltas that a set holds at most. -/
def deltaMax : Nat := 8

/-- A write of TURN_DELTA by partition 0 or 1. -/
def turnDeltaWrite (s : State) (p : Nat) (va : VAddr) : State :=
  if 1 < p ∨ (plane s p).verifying.isSome then s
  else
    let s := modPlane s p (fun x => { x with deltaVa := va })
    if (plane s p).closed then modPlane s p (fun x => { x with dcode := 8 })
    else if deltaMax ≤ (plane s p).deltas.length then modPlane s p (fun x => { x with dcode := 0xA })
    else modPlane s p (fun x => { x with dcode := 1, verifying := some va })

/-- The bytes of a delta under its plane's translation: the header gives TOTAL; none when a page faults. Bytes that are
poisoned, or beyond a TOTAL out of range, are left out (entry 31 of the log). -/
def deltaBytes (s : State) (p va : Nat) : Option Bytes :=
  match accOk (unitAccess s p va (2 * kcHeaderLen) 2) with
  | none => none
  | some ps =>
    let h := readBytes s ps
    if poisoned s ps then some []
    else if kcTotal h < kcHeaderLen ∨ 67108864 < kcTotal h then some h
    else match accOk (unitAccess s p va (2 * kcTotal h) 2) with
    | none => none
    | some qs => if poisoned s qs then some [] else some (readBytes s qs)

/-- The audit records of a verified delta: KEYCUT with its outcome, and a refused policy or an officer authorization
(R269, R320, R322). -/
def deltaAudit (s : State) (p code : Nat) (b : Bytes) : State :=
  let out := if code = 2 then 0 else code
  let s := audit s p p 3 (leBytes 4 (kcSerial b) ++ leBytes 2 (kcKind b) ++ [byte out])
  if code ≠ 2 ∧ code ≠ 7 then s
  else
    let s := match alook (kcSections b) 0xB with
      | some x => if code = 7 then audit s p p 7 (leBytes 4 (leAt x 4 4) ++ sha256 x ++ slice x 160 2 ++ [byte out]) else s
      | none => s
    match alook (kcSections b) 0xC with
    | some x => audit s p p 8 (sha256 (x.take 21120) ++ slice x 21120 2 ++ [byte out])
    | none => s

/-- A CLOSE that waited for a verification takes effect (R327). -/
def closeIfDue (s : State) (p : Nat) : State :=
  if (plane s p).closeDue then modPlane s p (fun x => { x with closeDue := false, closed := true }) else s

/-- Verification of a plane's delta ends (R321, R325). -/
def deltaVerified (s : State) (p : Nat) : State :=
  match (plane s p).verifying with
  | none => s
  | some va =>
    let done := fun (s : State) (code : Nat) => closeIfDue (modPlane s p (fun x => { x with verifying := none, dcode := code })) p
    match deltaBytes s p va.toNat with
    | none => done s 9
    | some b =>
      let code := deltaCode s p b
      let s := deltaAudit s p code b
      done (if code = 2 then modPlane s p (fun x => { x with deltas := x.deltas ++ [deltaOf b], dserial := kcSerial b }) else s) code

/-- TURN_SET.ACT: #1 OPEN, #2 CLOSE, #3 DISCARD (R327). -/
def turnSetWrite (s : State) (p act : Nat) : State :=
  if 1 < p then s
  else match act with
  | 1 => if setTaken s p then s else modPlane s p (fun x => { x with closed := false })
  | 2 => if (plane s p).verifying.isSome then modPlane s p (fun x => { x with closeDue := true }) else modPlane s p (fun x => { x with closed := true })
  | 3 =>
    if (plane s p).closed then s
    else
      let s := modPlane s p (fun x => { x with deltas := [] })
      if p = 1 then sendAll (discardStaged s (kcMember s.kc)) 1 0x13 ([byte (kcMember s.kc)] ++ leBytes 8 s.ks.nextSeq) else s
  | _ => s

/-! ### Requests (R328) -/

/-- A staged entry as its digests cover it: origin, sequence, slot, span, and the copies of a key (R409). -/
def stagedBytes (x : Staged) : Bytes :=
  [byte x.origin] ++ leBytes 8 x.oseq ++ leBytes 3 x.slot ++ (if x.erase then [] else [byte x.copies.length] ++ x.copies.flatMap copyBytes)

/-- A staged entry put in order of origin member and origin sequence. -/
def insertStaged (x : Staged) : List Staged → List Staged
  | [] => [x]
  | y :: ys => if x.origin < y.origin ∨ (x.origin = y.origin ∧ x.oseq ≤ y.oseq) then x :: y :: ys else y :: insertStaged x ys

/-- The key stagings that a turn has taken, in order. -/
def takenStagings (s : State) : List Staged := (s.ks.pool.filter (·.taken)).foldr insertStaged []

/-- The closed sets taken at this instant: the flags, the deltas (partition 0's first), and the marked stagings (R24, R326).
A sealed key store promotes nothing, so a set of partition 1 that holds key stagings stays CLOSED (R483; entry 33 of the log). -/
def takeSets (s : State) : Bool × Bool × List Delta × State :=
  let t0 := s.turns.p0.closed
  let t1 := s.turns.p1.closed && (!s.ks.isSealed || decide (s.ks.pool = []))
  (t0, t1, (if t0 then s.turns.p0.deltas else []) ++ (if t1 then s.turns.p1.deltas else []),
    if t1 then { s with ks := { s.ks with pool := s.ks.pool.map (fun x => { x with taken := true }) } } else s)

/-- Stagings no longer taken: the turn did not happen. -/
def untake (s : State) : State := { s with ks := { s.ks with pool := s.ks.pool.map (fun x => { x with taken := false }) } }

/-- TAKEN bits. -/
def takenBits (t0 t1 : Bool) : Nat := b2n t0 + 2 * b2n t1

/-- The audit record of a turn: its digest covers the taken sets and the retirements made since the turn before (R29, R478;
entry 32 of the log). -/
def auditTurn (s : State) (source : Nat) (t0 t1 : Bool) (ds : List Delta) : State :=
  let s := audit s source source 2 (leBytes 8 (s.turns.num + 1) ++ [byte (takenBits t0 t1)] ++
    sha256 (ds.flatMap (fun d => sha256 d.header) ++ (takenStagings s).flatMap stagedBytes ++
      s.faults.sinceTurn.flatMap (fun x => leBytes 2 (x.1 * 4096 + x.2))))
  { s with faults := { s.faults with sinceTurn := [] } }

/-- A request's steps begin: AUDIT_FULL, or the sets are taken, the turn is audited and the drain begins. -/
def startCommit (s : State) (p : Nat) : State :=
  if auditFull s then modPlane s p (fun x => { x with last := 2, phase := 0 })
  else
    match takeSets s with
    | (t0, t1, ds, s) =>
      let s := auditTurn s p t0 t1 ds
      modPlane { s with turns := { s.turns with
        commit := some { plane := p, take0 := t0, take1 := t1, deltas := ds, phase := 2, started := s.now } } } p (fun x => { x with phase := 2 })

/-- The request that waited, for the other plane's commit or for a wake from WATCH, begins. -/
def nextCommit (s : State) : State :=
  match s.turns.waiting with
  | [] => s
  | p :: rest =>
    if s.turns.commit.isSome ∨ s.westad.agree.isSome ∨ s.supply.power ≠ 1 ∨ s.boot.warmDue then s
    else startCommit { s with turns := { s.turns with waiting := rest } } p

/-- GO written by partition 0 or 1 (R328); one written after a sleep decision is held until after the wake (R436). -/
def turnCommitWrite (s : State) (p : Nat) : State :=
  if 1 < p then s
  else if s.turns.waiting.contains p || (match s.turns.commit with | some c => c.plane == p | none => false) then modPlane s p (fun x => { x with last := 3 })
  else if s.turns.commit.isSome ∨ s.westad.agree.isSome ∨ s.supply.power ≠ 1 then
    modPlane { s with turns := { s.turns with waiting := s.turns.waiting ++ [p] } } p (fun x => { x with phase := 1 })
  else startCommit s p

/-- A commit ends without a boundary: its sets stay CLOSED. -/
def failCommit (s : State) (last : Nat) : State :=
  match s.turns.commit with
  | none => s
  | some c =>
    modPlane (untake { s with turns := { s.turns with commit := none } }) c.plane (fun x => { x with last := last, phase := 0 })

/-! ### The drain (R26) -/

/-- Whether every command stamped before the current turn is gone. -/
def drainedTurn (s : State) : Bool := !oldInFlight s s.turns.num

/-- Commands and jobs stamped before the current turn are discarded and answered STALE. -/
def discardOld (s : State) : State :=
  let n := s.turns.num
  endJobs (endCmds s (fun c => decide (c.turn < n)) (some 0xE2)) (fun j => decide (j.turn < n)) 0x43

/-- The drain limit of quads and channels that move (R137, R216): their threads freeze, their chains abort. -/
def drainMoving (s : State) : State :=
  let s := (s.threads.map (·.1)).foldl (fun s t =>
    if moving s t ∧ (thr s t).st ≠ .frozen ∧ (thr s t).st ≠ .none then
      let s := staleCurrent (staleThread s t) t
      freezeNow (interrupt s t none) t .quadMove
    else s) s
  (s.dma.map (·.1)).foldl (fun s c => if chainOwner s c ≠ chanOwner s c then abortChan s c else s) s

/-! ### The boundary (R329) -/

/-- Queued commands of partitions that become absent are answered STALE, and their sessions close (R394, R459). -/
def dropAbsent (s : State) (new : Keycut) : State :=
  let gone := (List.range 256).filter (fun p => kcPresent s.kc p && !kcPresent new p)
  let s := if s.dbg.openPart.any (fun p => gone.contains p) then endDebug s else s
  let s := (s.intake.sessions.map (·.1)).foldl (fun s n => if gone.contains (sess s n).part then modSess s n (fun _ => sessInit) else s) s
  (s.intake.cmdq.map (·.1)).foldl (fun s q =>
    if gone.contains (q / 4) then
      let l := (cq s q).items
      l.foldl (fun s c => answerRelease s c 0xE2) (modCq s q (fun x => { x with items := [] }))
    else s) s

/-- DRBGs drawn or zeroized where a partition comes into a keyring or leaves it (R242). -/
def moveDrbgs (s : State) (old new : Keycut) : State :=
  (List.range 16).foldl (fun s k => (List.range 256).foldl (fun s p =>
    if kcHoldsIn new p k then (if kcHoldsIn old p k ∨ s.trngBad then s else reseed s k p)
    else if kcHoldsIn old p k then modDrbg s k p (fun _ => drbgInit) else s) s) s

/-- Granules and scratch pages that move: their TLB entries go, and they are cleared (R181, R191, R208). -/
def movePages (s : State) (old new : Keycut) : State :=
  if sect? old 4 = sect? new 4 then s
  else
    let stays := fun (e : TlbEntry) =>
      if isDram e.pbase then kcGran new (e.pbase / 4194304) == e.part
      else if isScratch e.pbase then kcScratch new ((e.pbase - scratchBase) / 8192) == e.part
      else true
    let s := tlbDrop s (fun e => !stays e)
    let s := (List.range 21504).foldl (fun s g => if kcGran old g = kcGran new g then s else clearMem s (4194304 * g) (4194304 * g + 4194304)) s
    (List.range 3072).foldl (fun s i =>
      if kcScratch old i = kcScratch new i then s else clearMem s (scratchBase + 8192 * i) (scratchBase + 8192 * i + 8192)) s

/-- Keyring-bit blocks that move are cleared (R149); ways that move are emptied (R174). -/
def moveBitsWays (s : State) (old new : Keycut) : State :=
  (List.range 16).foldl (fun s k =>
    let kb := (List.range 16).foldl (fun t j => if kcKbit old k (256 * j) = kcKbit new k (256 * j) then t else tdropRange t (256 * j) (256 * j + 256)) (kring s k).kbits
    let moved := (List.range 16).filter (fun w => kcWay old k w != kcWay new k w)
    if kb = (kring s k).kbits ∧ moved = [] then s
    else modKr s k (fun x => { x with
      kbits := kb
      store := tmapAll csetInit x.store (fun _ c => { c with lines := c.lines.filter (fun l => !moved.contains l.way) }) })) s

/-- Completion modes (R42, R46): a cylinder that needs level mode has it at once; one that no longer does will change. -/
def needsLevel (kc : Keycut) (c : Nat) : Bool := (List.range 4).any (fun i => kcQuad kc (4 * c + i) != nobody && kcKeyh kc (kcQuad kc (4 * c + i)))
/-- Every cylinder's mode judged. -/
def judgeModes (s : State) : State :=
  (List.range 128).foldl (fun s c =>
    if needsLevel s.kc c then modCyl s c (fun x => { x with level := true, toFree := false })
    else if (cyl s c).level then modCyl s c (fun x => { x with toFree := true }) else s) s

/-- A partition becomes present: its DRAM keys, its CYL_PTROOT, and its first thread's start (R140, R191, R199). -/
def comePresent (s : State) (p : Nat) : State :=
  let s := { s with
    dramKeys := tset 0 s.dramKeys p (s.free + 1)
    free := s.free + 1
    turns := { s.turns with starting := s.turns.starting.filter (· != p) ++ [p] } }
  regSet s .cylPtroot p (w64 (kcPtroot s.kc p))

/-- Quads that come to a partition from none take their state at once; partitions that wait for such a first thread start. -/
def assignFree (s : State) : State :=
  (List.range 512).foldl (fun s q => if kcQuad s.kc q ≠ nobody ∧ (thr s (4 * q)).st = .none then clearQuad s q else s) s

/-- QUE_MOD, DMA_CTL.KSRC and blanks that a keycut sets (R211, R310, R337). -/
def moveQueuesDma (s : State) (old new : Keycut) (ds : List Delta) : State :=
  let s := if ds.any (fun d => (alook d.sections 0xA).isSome) then
      (List.range 1024).foldl (fun s q => fldSet (fldSet s .queMod q 19 8 (kcModTime new q)) .queMod q 7 0 (kcModCnt new q)) s
    else s
  let s := (List.range 512).foldl (fun s c => if kcDmaOwner old c = kcDmaOwner new c then s else fldSet s .dmaCtl c 27 16 (kcDmaKsrc new c)) s
  (List.range 16).foldl (fun s k =>
    if kcBlank old k = kcBlank new k then s else modKr s k (fun x => { x with blankLoading := true, blankTurn := s.turns.num })) s

/-- The state of every source that a keycut gives to another owner is cleared (R380). -/
def moveSources (s : State) (old new : Keycut) : State :=
  { s with srcs := s.srcs.filter (fun kv => (kcRoute old kv.1).owner == (kcRoute new kv.1).owner) }

/-- The boundary: the settings of turn n + 1 become current and turn n becomes previous. -/
def boundary (s : State) (t0 t1 : Bool) (ds : List Delta) : State :=
  let old := s.kc
  let new := applyDeltas s.kc ds
  let s := dropAbsent s new
  let n := s.turns.num + 1
  let s := { s with kc := new, kcPrev := old, turns := { s.turns with num := n, since := s.now } }
  let s := if s.ks.pool.any (·.taken) then { promoteTaken s n with ks := { (promoteTaken s n).ks with ksTurn := n } } else s
  let s := if t0 then modPlane s 0 (fun x => { x with deltas := [], closed := false }) else s
  let s := if t1 then modPlane s 1 (fun x => { x with deltas := [], closed := false }) else s
  let s := moveBitsWays (movePages s old new) old new
  let s := moveDrbgs s old new
  let s := ((List.range 256).filter (fun p => kcPresent new p && !kcPresent old p)).foldl comePresent s
  let s := moveSources (moveQueuesDma s old new ds) old new
  let s := judgeModes s
  let s := if sect? old 0xB = sect? new 0xB then s else
    (let b := (exg new).getD []
     audit s 1 1 7 (leBytes 4 (polSerial new) ++ sha256 b ++ slice b 160 2 ++ [0]))
  settle (assignFree s)

/-- The commit in progress reaches its boundary: LAST reads TAKEN, and a waiting request begins. -/
def commitBoundary (s : State) : State :=
  match s.turns.commit with
  | none => s
  | some c =>
    let s := boundary s c.take0 c.take1 c.deltas
    let s := modPlane { s with turns := { s.turns with commit := none } } c.plane (fun x => { x with last := 1, phase := 0, taken := takenBits c.take0 c.take1 })
    nextCommit s

/-- A quiet-state entry abandons a commit before its boundary, and a request that waits (R331). -/
def abandonCommit (s : State) : State :=
  let s := failCommit s 5
  s.turns.waiting.foldl (fun s p => modPlane s p (fun x => { x with last := 5, phase := 0 }))
    { s with turns := { s.turns with waiting := [] } }

/-! ### Registers (R333) -/

/-- TURN_STAT of a plane. -/
def turnStatWord (s : State) (p : Nat) : Word := w64 ((plane s p).taken * 4096 + (plane s p).last * 16 + (plane s p).phase)
/-- TURN_SET of a plane. -/
def turnSetWord (s : State) (p : Nat) : Word := w64 ((plane s p).deltas.length * 256 + (if (plane s p).closed then 2 else 1))
/-- TURN_DSTAT of a plane. -/
def turnDstatWord (s : State) (p : Nat) : Word := w64 ((plane s p).dserial * 2 ^ 32 + (plane s p).dcode)
/-- TURN_KCUT. -/
def turnKcutWord (s : State) : Word := w64 (s.kc.serial * 2 ^ 32 + leAt s.kc.digest 0 4)

/-! ### Blank images (R336, R337) -/

/-- A trigger's result lands in its RESP port; one later than its fixed latency is poisoned and reported (R336, R41). -/
def blankResult (s : State) (t port : Nat) (v : Word) (late : Bool) : State :=
  let th := thr s t
  match th.arch.ops.find? (fun o => match o.kind with | .blank _ (some r) => r == 0x380 + port | _ => false) with
  | none =>
    match th.arch.ops.find? (fun o => match o.kind with | .blank q none => q == 0x380 + port | _ => false) with
    | none => s
    | some o => settle (putThr s t (landOp th o.id id))
  | some o =>
    let d := (kring s (krOf t)).blank.bind (fun b => blankPort b port)
    let w := match d with | some x => if x.width = 0 then 16 else x.width | none => 16
    let fixed := match o.kind with
      | .blank q _ => (match (kring s (krOf t)).blank.bind (fun b => blankPort b (q - 0x380)) with | some x => decide (0 < x.lat) | none => false)
      | _ => false
    let bad := late && fixed
    let s := putThr s t (landOp th o.id (fun a => setPoison (setPort a (0x380 + port) (lowDigits w v)) (0x380 + port) bad))
    settle (if bad then report s 0xA (krOf t) 3 th.part 0 else s)

/-- The new frames of a blank load, once the old image serves no older command: the per-thread copies are 0 (R337). -/
def blankLoad (s : State) (k : Nat) : State :=
  let busy := (s.threads.map (·.1)).any (fun t => krOf t == k && (thr s t).arch.ops.any (fun o => match o.kind with | .blank _ _ => true | _ => false))
  if !(kring s k).blankLoading ∨ oldInFlight s (kring s k).blankTurn ∨ busy then s
  else
    let b := kcBlank s.kc k
    let s := modKr s k (fun x => { x with
      blank := b, blankLoading := false
      frames := match b with | some b => slice b (up64 (64 + 16 * leAt b 8 1)) (leAt b 16 4) | none => [] })
    let s := (s.threads.map (·.1)).foldl (fun s t =>
      if krOf t = k then rawThr s t (landAll (thr s t) (fun a => { a with
        ports := tdropRange a.ports 0x380 0x3C0, poison := a.poison.filter (fun p => !isBlank p) })) else s) s
    settle s

/-! ### The rows -/

/-- TURN_DELTA (R325). -/
def execTurnDelta (p : Fin 256) (va : BitVec 56) (s : State) : Host.Outcome State Fault Refusal := .next (turnDeltaWrite s p va)
/-- DELTA_VERIFY_DONE (R321, R325). -/
def execDeltaVerifyDone (p : Fin 256) (s : State) : Host.Outcome State Fault Refusal := .next (if 1 < p.val then s else deltaVerified s p)
/-- TURN_SET_OPEN (R327). -/
def execTurnSetOpen (p : Fin 256) (s : State) : Host.Outcome State Fault Refusal := .next (turnSetWrite s p 1)
/-- TURN_SET_CLOSE (R327). -/
def execTurnSetClose (p : Fin 256) (s : State) : Host.Outcome State Fault Refusal := .next (turnSetWrite s p 2)
/-- TURN_SET_DISCARD (R327). -/
def execTurnSetDiscard (p : Fin 256) (s : State) : Host.Outcome State Fault Refusal := .next (turnSetWrite s p 3)
/-- TURN_COMMIT (R328). -/
def execTurnCommit (p : Fin 256) (s : State) : Host.Outcome State Fault Refusal := .next (turnCommitWrite s p)
/-- MODE_CHANGE_TO_FREE (R46). -/
def execModeChangeToFree (c : Fin 128) (s : State) : Host.Outcome State Fault Refusal :=
  .next (if (cyl s c).toFree && drainedTurn s && !needsLevel s.kc c then modCyl s c (fun x => { x with level := false, toFree := false }) else s)
/-- BLANK_RESULT (R336). -/
def execBlankResult (t : Fin 2048) (port : Fin 64) (v : Word) (late : Bool) (s : State) : Host.Outcome State Fault Refusal :=
  .next (blankResult s t port v late)
/-- BLANK_SCRUB (R336). -/
def execBlankScrub (k : Fin 16) (mismatch : Bool) (s : State) : Host.Outcome State Fault Refusal :=
  .next (if mismatch && (kring s k).blank.isSome then report s 0xA k 0xB 0xFF 0 else s)
/-- BLANK_IMAGE_LOAD (R337). -/
def execBlankImageLoad (k : Fin 16) (s : State) : Host.Outcome State Fault Refusal := .next (blankLoad s k)

end Sys2Proof.Machine
end

