-- ==== Sys2Proof/Machine/Agree.lean ====
section
/-! DEFINITION. The end of a commit's drain, and the two-phase agreement of a strongroom (R26, R328, R330, R409, R410). -/

namespace Sys2Proof.Machine

/-! ### Members and digests -/

/-- The agreement in progress replaced. -/
def putAgree (s : State) (a : Option Agreement) : State := { s with westad := { s.westad with agree := a } }
/-- The outcome of a turn remembered for QUERY: #1 applied, #2 aborted. -/
def putOutcome (s : State) (turn o : Nat) : State := { s with westad := { s.westad with lastOutcome := some (turn, o) } }

/-- The members whose votes a turn needs: those of the DEVICE section that would be in force, but this one (R410). -/
def voters (s : State) (ds : List Delta) : List Nat :=
  let kc := applyDeltas s.kc ds
  if kcGroup kc = 0 then [] else (List.range (min 8 (kcCount kc))).filter (· != kcMember s.kc)

/-- KSD of the stagings that this member's turn has taken (R409). -/
def ksdNow (s : State) : Bytes := sha256 ((takenStagings s).flatMap stagedBytes)
/-- EXD of the EXGUARD section that would be in force after the turn. -/
def exdThen (s : State) (ds : List Delta) : Bytes := sha256 ((exg (applyDeltas s.kc ds)).getD [])

/-- A message to each of some members. -/
def sendEach (s : State) (ms : List Nat) (mtype : Nat) (body : Bytes) : State := ms.foldl (fun s m => sendMsg s m 0 mtype body) s

/-- A message of a keyed pair taken in order and acknowledged (R406). -/
def received (s : State) (m cls : Nat) : State := sendAck (modPair s m (fun p => { p with rxMseq := p.rxMseq + 1 })) m cls

/-! ### The proposer -/

/-- The agreement fails: every member is told, LAST reads DISAGREE, and a waiting request begins. -/
def failAgreement (s : State) (a : Agreement) : State :=
  let s := sendEach s (voters s a.deltas) 4 (leBytes 8 a.turn)
  nextCommit (failCommit (putAgree (putOutcome s a.turn 2) none) 4)

/-- A drained commit proceeds: to its boundary, or in a strongroom to the agreement (R328, R330). -/
def drainEnds (s : State) (c : Commit) : State :=
  let vs := voters s c.deltas
  if vs = [] then commitBoundary s
  else
    let n := s.turns.num + 1
    let k := ksdNow s
    let e := exdThen s c.deltas
    let s := putAgree s (some {
      proposer := kcMember s.kc, turn := n, started := s.now, ksd := k, exd := e, take0 := c.take0, take1 := c.take1
      deltas := c.deltas, votes := [], dones := [], unknown := [], applying := false, votedYes := none, queried := none })
    let s := modPlane { s with turns := { s.turns with commit := some { c with phase := 3 } } } c.plane (fun x => { x with phase := 3 })
    sendEach s vs 1 (leBytes 8 n ++ k ++ e)

/-! ### Members -/

/-- A member's vote, once it has drained: its turn is n and its own digests equal the proposed ones (R409). The vote's
REASON is a value that the specification does not give. -/
def castVote (s : State) (a : Agreement) : State :=
  let yes := s.turns.num + 1 == a.turn && ksdNow s == a.ksd && exdThen s a.deltas == a.exd
  let r := freeWord s
  let why := if yes then 0 else r.1.toNat % 256
  let s := if yes then putAgree s (some { a with votedYes := some s.now }) else putAgree (untake r.2) none
  sendMsg s a.proposer 0 2 (leBytes 8 a.turn ++ [byte (b2n yes), byte why])

/-- A vote of no on a proposal that this member does not take up. -/
def voteNo (s : State) (m turn : Nat) : State :=
  let r := freeWord s
  sendMsg r.2 m 0 2 (leBytes 8 turn ++ [0, byte (r.1.toNat % 256)])

/-- A proposal taken up: the member's closed sets are taken and its drain begins. -/
def takeUp (s : State) (m turn : Nat) (k e : Bytes) : State :=
  match takeSets s with
  | (t0, t1, ds, s) =>
    let a : Agreement := {
      proposer := m, turn := turn, started := s.now, ksd := k, exd := e, take0 := t0, take1 := t1, deltas := ds
      votes := [], dones := [], unknown := [], applying := false, votedYes := none, queried := none }
    let s := putAgree s (some a)
    if drainedTurn s then castVote s a else s

/-- PROPOSE from a member: a competing request of this member is abandoned for a lower member index (R409). -/
def proposed (s : State) (m turn : Nat) (k e : Bytes) : State :=
  let me := kcMember s.kc
  if turn ≠ s.turns.num + 1 then voteNo s m turn
  else match s.westad.agree with
  | some a =>
    if a.proposer = me ∧ m < me ∧ !a.applying then
      takeUp (failCommit (putAgree (sendEach s (voters s a.deltas) 4 (leBytes 8 a.turn)) none) 4) m turn k e
    else voteNo s m turn
  | none =>
    if s.turns.commit.isSome then (if m < me then takeUp (failCommit s 4) m turn k e else voteNo s m turn)
    else takeUp s m turn k e

/-- A member applies the boundary that it has voted for. -/
def applyAgreed (s : State) (a : Agreement) : State :=
  let s := auditTurn s 4 a.take0 a.take1 a.deltas
  let s := boundary (putAgree (putOutcome s a.turn 1) none) a.take0 a.take1 a.deltas
  nextCommit (sendMsg s a.proposer 0 5 (leBytes 8 a.turn))

/-- A member's agreement ends without a turn. -/
def abortAgreed (s : State) (a : Agreement) : State := nextCommit (putAgree (untake (putOutcome s a.turn 2)) none)

/-- A vote counted by the proposer. -/
def countVote (s : State) (m turn : Nat) (yes : Bool) : State :=
  match s.westad.agree with
  | none => s
  | some a =>
    if a.proposer ≠ kcMember s.kc ∨ a.turn ≠ turn ∨ a.applying then s
    else if !yes then failAgreement s a
    else
      let a := { a with votes := if a.votes.contains m then a.votes else m :: a.votes }
      if (voters s a.deltas).all (fun v => a.votes.contains v) then
        let s := putAgree s (some { a with applying := true })
        let s := match s.turns.commit with
          | some c => modPlane { s with turns := { s.turns with commit := some { c with phase := 4 } } } c.plane (fun x => { x with phase := 4 })
          | none => s
        sendEach s (voters s a.deltas) 3 (leBytes 8 turn)
      else putAgree s (some a)

/-- A DONE counted; after the last one the proposer applies its own boundary (R410). -/
def countDone (s : State) (m turn : Nat) : State :=
  match s.westad.agree with
  | none => s
  | some a =>
    if a.proposer ≠ kcMember s.kc ∨ a.turn ≠ turn ∨ !a.applying then s
    else
      let a := { a with dones := if a.dones.contains m then a.dones else m :: a.dones }
      if (voters s a.deltas).all (fun v => a.dones.contains v) then commitBoundary (putAgree (putOutcome s turn 1) none)
      else putAgree s (some a)

/-- What this member knows of a turn's outcome (entry 34 of the log). -/
def outcomeOf (s : State) (turn : Nat) : Nat :=
  if turn ≤ s.turns.num then 1
  else match s.westad.agree with
  | some a => if a.turn = turn ∧ a.applying then 1 else 0
  | none => match s.westad.lastOutcome with
    | some (t, o) => if t = turn then o else 0
    | none => 0

/-- The members that this one can reach. -/
def reachable (s : State) : List Nat := (otherMembers s).filter (fun m => (routeTo s m).isSome)

/-- This member's yes vote that waits for its outcome. -/
def waitingVote (s : State) : Option (Agreement × Nat) :=
  match s.westad.agree with
  | some a => a.votedYes.map (fun t => (a, t))
  | none => none

/-- A STATE from a member that was asked. -/
def learnState (s : State) (m turn o : Nat) : State :=
  match waitingVote s with
  | none => s
  | some (a, _) =>
    if a.turn ≠ turn ∨ a.queried.isNone then s
    else if o = 1 then applyAgreed s a
    else if o = 2 then abortAgreed s a
    else putAgree s (some { a with unknown := if a.unknown.contains m then a.unknown else m :: a.unknown })

/-! ### The drain's end and its limit (R26, R328) -/

/-- No command of the turn before the current one remains: a commit proceeds, or a member votes. A boundary that would
promote slots waits for a sealed image of the key store (R505). -/
def turnDrains (s : State) : State :=
  if !drainedTurn s ∨ (s.req.ksStat = 1 ∧ s.ks.pool.any (·.taken)) then s
  else match s.turns.commit with
  | some c => if c.phase = 2 then drainEnds s c else s
  | none =>
    match s.westad.agree with
    | some a => if a.proposer ≠ kcMember s.kc ∧ a.votedYes.isNone then castVote s a else s
    | none => s

/-- The limit of a drain expires: the commands still in flight are discarded (R26); a member that does not answer fails the
agreement (R330); with no commit in progress, moved quads and channels come to an end (R137, R216). -/
def drainLimit (s : State) : State :=
  let lim := kcDrain s.kc
  let moved := fun (s : State) => if s.turns.since + lim ≤ s.now then drainMoving s else s
  match s.turns.commit with
  | some c =>
    if c.phase = 2 ∧ c.started + lim ≤ s.now then turnDrains (moved (discardOld s))
    else if c.phase = 3 then
      (match s.westad.agree with
      | some a => if !a.applying && decide (a.started + lim ≤ s.now) then failAgreement s a else moved s
      | none => moved s)
    else moved s
  | none =>
    match s.westad.agree with
    | some a => if a.votedYes.isNone ∧ a.started + lim ≤ s.now then turnDrains (moved (discardOld s)) else moved s
    | none => moved s

/-! ### The rows -/

/-- A row for a message of a keyed pair; none arrives in the quiet state, whose Westad lanes are idle (R483). -/
def onMessage (s : State) (m cls : Nat) (f : State → State) : State :=
  if pairState s m = 2 ∧ !s.faults.quiet then f (received s m cls) else s

/-- QUERY (R410). -/
def execQuery (m : Fin 8) (turn : Nat) (s : State) : Host.Outcome State Fault Refusal :=
  .next (onMessage s m 0 (fun s => sendMsg s m 0 7 (leBytes 8 turn ++ [byte (outcomeOf s turn)])))
/-- VOTE_OUTCOME_TIMEOUT (R410). -/
def execVoteOutcomeTimeout (s : State) : Host.Outcome State Fault Refusal :=
  .next (match waitingVote s with
    | some (a, t) =>
      if a.queried.isNone ∧ t + kcDrain s.kc ≤ s.now then
        sendEach (putAgree s (some { a with queried := some s.now, unknown := [] })) (reachable s) 6 (leBytes 8 a.turn)
      else s
    | none => s)
end Sys2Proof.Machine
end

