-- ==== Sys2Proof/Machine/Intake.lean ====
section
/-! DEFINITION. Intake's side of commands and responses (R283 to R313): admission, dispatch, landing, QUE_DONE,
sending, MSI-X moderation, lane crossing queues and telemetry. -/

namespace Sys2Proof.Machine

/-! ### Admission (R283 to R289, R309) -/

/-- The 16-byte command header of R391. -/
structure CmdH where
  part : Nat
  lq : Nat
  kind : Nat
  budget : Nat
  len : Nat
  deriving DecidableEq, Repr

/-- A command header read and judged (R391); `slack` is what LEN may reach. -/
def readCmdH (b : Bytes) : Option CmdH :=
  let h : CmdH := { part := leAt b 0 1, lq := leAt b 1 1, kind := leAt b 2 1, budget := leAt b 4 4, len := leAt b 8 2 }
  if b.length = 16 ∧ h.lq < 4 ∧ leAt b 3 1 = 0 ∧ leAt b 10 6 = 0 ∧ h.len ≤ 16352 then some h else none

/-- A partition's token bucket for a class, with the tokens that have come since it was last counted (R309). -/
def bucketNow (s : State) (p c : Nat) : Bucket :=
  let b := tget bucketInit s.intake.buckets (4 * p + (c - 1))
  let cap := kcBurst s.kc p c * 10 ^ 9
  { level := min cap (b.level + kcRate s.kc p c * (s.now - b.last)), last := s.now }

/-- One token taken, when there is one and the rate is not 0. -/
def takeToken (s : State) (p c : Nat) : Bool × State :=
  let b := bucketNow s p c
  let ok := decide (0 < kcRate s.kc p c) && decide (10 ^ 9 ≤ b.level)
  let b' := if ok then { b with level := b.level - 10 ^ 9 } else b
  (ok, { s with intake := { s.intake with buckets := tset bucketInit s.intake.buckets (4 * p + (c - 1)) b' } })

/-- Check 1 of R283, with power-fail and the quiet state (R419, R437, R483): whether intake takes a command for partition
`p` from a link; `mgmt` is the management port or SMBus, `pf0` PCIe function 0. -/
def takesCommand (s : State) (p : Nat) (mgmt pf0 : Bool) : Bool :=
  decide (s.supply.power = 1) && (if p = 0 then mgmt else
    decide (s.supply.pf ≠ 2) && !s.faults.quiet && (s.pins.ready || (pf0 && p == 1 && s.boot.partsUp)))

/-- The plane check of R18: management links reach partition 0, PF0 partition 1, and sessions and VFs the tenants. -/
def planeOk (mgmt pf0 : Bool) (p : Nat) : Bool := if mgmt then p == 0 else if pf0 then p == 1 else decide (2 ≤ p)

/-- What a command carries besides its header when it reaches the checks. -/
structure Arriving where
  h : CmdH
  payload : Bytes
  whole : Bool
  session : Nat
  origin : Nat
  route : Nat
  deriving DecidableEq, Repr

/-- A BUSY answer (R298): the command was stamped with no turn and no SEQ, so the answer's are free values. -/
def answerBusy (s : State) (a : Arriving) (tenant q : Nat) : State :=
  let r1 := freeWord s
  let r2 := freeWord r1.2
  storeResp (bump r2.2 .quePstat tenant 31 16 1) q {
    turn := r1.1.toNat, stored := s.now, payload := [], session := a.session, seq := r2.1.toNat % 4096, rcode := 0xE3, gap := false,
    poison := false, origin := a.origin, route := a.route, leaving := false }

/-- Checks 5 to 7 and admission (R284 to R289): the item's number when it is admitted. -/
def takeIn (s : State) (a : Arriving) : Option Nat × State :=
  let h := a.h
  let fwd := decide (2 ≤ h.part) && kcKeyCmd s.kc h.kind
  let home := 4 * h.part + h.lq
  let q := if fwd then 7 else home
  let c := kcClass s.kc q
  let tk := takeToken s h.part c
  let s := tk.2
  if !tk.1 then (none, answerBusy s a h.part home)
  else
    let x := cq s q
    let s := modCq s q (fun x => { x with seq := (x.seq + 1) % 4096 })
    if cqCap s q < x.occ + linesFor h.len then (none, dropCmd s q)
    else
      let max_ := kcClassMax s.kc c
      let budget := if h.budget = 0 ∨ max_ < 1000 * h.budget then max_ else 1000 * h.budget
      let ord := s.intake.nextOrd
      let m : Cmd := {
        ord := ord, turn := s.turns.num, deadline := s.now + budget, arrival := s.now, payload := a.payload, len := h.len
        session := a.session, seq := x.seq, olq := if fwd then h.lq else 0, part := h.part
        origin := if fwd then 6 else a.origin, gap := x.gapp, poison := false, redeliver := false, queue := q
        whole := a.whole, truncated := false, route := a.route, badWords := [] }
      let s := { s with intake := { s.intake with nextOrd := ord + 1 } }
      (some ord, judgeHigh (modCq s q (fun x => { x with
        items := x.items ++ [m], occ := x.occ + linesFor h.len, gapp := false })) q)

/-- A command that has passed checks 2 and 3, from check 1 and check 4 on: `lane` is the link's LANE_DROP index. -/
def arrive (s : State) (a : Arriving) (lane : Nat) (mgmt pf0 : Bool) (own : Bool) : Option Nat × State :=
  let h := a.h
  if !(planeOk mgmt pf0 h.part && own && kcPresent s.kc h.part && decide (0 < cqCap s (4 * h.part + h.lq))) then
    (none, bump s .laneDrop lane 15 0 1)
  else takeIn s a

/-! ### Dispatch and the inbox (R290 to R292) -/

/-- The items a thread holds. -/
def heldItems (th : Thread) : Nat := th.inbox.length + b2n th.current.isSome

/-- The threads a queue's head item could be delivered to: serving under the settings of its turn (R25, R137, R290). -/
def servers (s : State) (q turn : Nat) : List Nat :=
  let kc := kcOfTurn s turn
  let ts := kcThreads kc (q / 4)
  ((List.range ts.length).filter (fun i => kcServes kc q i)).filterMap (fun i =>
    let t := nth 0 ts i
    let th := thr s t
    if th.part = q / 4 ∧ (th.st = .ready ∨ th.st = .parked ∨ th.st = .wait) ∧ th.inbox.all (fun x => x.1 != 15) ∧ heldItems th < 16
      then some t else none)

/-- The thread chosen: the fewest items, ties in rotation after the one chosen last. -/
def chooseServer (s : State) (q turn : Nat) : Option Nat :=
  let ts := servers s q turn
  let least := ts.foldl (fun m t => min m (heldItems (thr s t))) 16
  firstAfter (ts.filter (fun t => heldItems (thr s t) == least)) (cq s q).lastServed

/-- The head item of a queue delivered to an inbox (R290, R291); a header word that fails parity drops it (R280). -/
def dispatchHead (s : State) (q : Nat) (parity : Bool) : State :=
  match (cq s q).items with
  | [] => s
  | c :: rest =>
    if parity then
      let s := report s 5 (Config.rowGroup q % 1024) 4 (q / 4) q
      dropCmd (freeLines (modCq s q (fun x => { x with items := rest })) c) q
    else if c.deadline < s.now then s
    else match chooseServer s q c.turn with
    | none => s
    | some t =>
      let s := modCq s q (fun x => { x with items := rest, lastServed := t })
      let s := modThr s t (fun th => { th with inbox := th.inbox ++ [(15, c)] })
      wakeThr s t

/-- The lowest inbox item with an empty stage below it falls one stage (R291); at stage 0 it becomes current, or is answered
LATE (R292). -/
def fallOne (s : State) (t : Nat) : State :=
  let th := thr s t
  let free := fun (k : Nat) => if k = 0 then th.current.isNone else th.inbox.all (fun x => x.1 != k)
  match th.inbox.find? (fun x => free (x.1 - 1)) with
  | none => s
  | some (k, c) =>
    let rest := th.inbox.filter (fun x => x.1 != k)
    if k = 1 then
      if c.deadline < s.now then answerRelease (putThr s t { th with inbox := rest }) c 0xE1
      else putThr s t { th with inbox := rest, current := some { cmd := c, landed := 0 } }
    else putThr s t { th with inbox := th.inbox.map (fun x => if x.1 = k then (k - 1, c) else x) }

/-- The head of a queue answered LATE when its deadline has passed (R292). -/
def lateHead (s : State) (q : Nat) : State :=
  match (cq s q).items with
  | [] => s
  | c :: rest => if c.deadline < s.now then answerRelease (modCq s q (fun x => { x with items := rest })) c 0xE1 else s

/-! ### Landing (R293, R294) -/

/-- A thread's index among its partition's threads (R293). -/
def slotIndex (s : State) (t : Nat) : Nat := (kcThreads (kcOfTurn s (thrTurn s t)) (thr s t).part).idxOf t

/-- The physical address of a thread's landing slot. -/
def landingSlot (s : State) (t : Nat) : Nat := kcLanding (kcOfTurn s (thrTurn s t)) (thr s t).part + 65536 * slotIndex s t

/-- The digits of an item, header included. -/
def itemDigits (c : Cmd) : Nat := 64 + 2 * c.len

/-- The command header of R288. -/
def cmdHeader (c : Cmd) : Bytes :=
  leBytes 8 c.turn ++ leBytes 8 c.deadline ++ leBytes 8 c.arrival ++ leBytes 2 c.len ++ leBytes 2 c.session ++
    leBytes 4 (c.seq + c.olq * 2 ^ 12 + c.part * 2 ^ 16 + c.origin * 2 ^ 24 +
      (b2n c.gap + 2 * b2n c.poison + 4 * b2n c.redeliver) * 2 ^ 28)

/-- Bytes written by a device unit into a thread's keyring store, and so visible to every agent. -/
def landBytes (s : State) (t a : Nat) (b : Bytes) : State :=
  let s := (linesOf a (2 * b.length)).foldl (fun s l => storeUse s (krOf t) l (thr s t).part true) s
  storeAt s none a (bytesDigits b) false

/-- Intake writes what has arrived of the current command into the landing slot (R293); payload words that fail parity land
as poisoned lines, and a header word that fails drops the command (R280). -/
def land (s : State) (t : Nat) (bad : List Nat) : State :=
  match (thr s t).current with
  | none => s
  | some cur =>
    let c := cur.cmd
    let s := if bad = [] then s else report s 5 (Config.rowGroup c.queue % 1024) 4 (c.queue / 4) c.queue
    if bad.any (fun w => decide (w < 4)) then
      dropCmd (freeLines (modThr s t (fun th => { th with current := none })) c) c.queue
    else
      let c := if bad = [] then c else { c with poison := true }
      let a := landingSlot s t
      let s := landBytes s t a (cmdHeader c ++ c.payload)
      let s := bad.foldl (fun s w => { s with poison := markPoison s.poison (a + 16 * w) 16 true }) s
      settle (modThr s t (fun th => { th with current := some { cmd := c, landed := 64 + 2 * c.payload.length } }))

/-- QUE_CUR.STATE (R294, R313). -/
def curState (s : State) (t : Nat) : Nat :=
  match (thr s t).current with
  | none => 0
  | some x =>
    if x.cmd.truncated then 4
    else if x.landed = itemDigits x.cmd then 3
    else if min (kcCut s.kc x.cmd.queue) (itemDigits x.cmd) ≤ x.landed then 2 else 1

/-! ### QUE_DONE (R295, R296) -/

/-- A thread's response area is copied into a response queue (R295, R296); a poisoned line is handled as a response word
that fails parity (R480). -/
def respond (s : State) (t k : Nat) : State :=
  match (thr s t).current with
  | none => s
  | some cur =>
    let c := cur.cmd
    let a := landingSlot s t + 32768
    let h := digitsBytes (readDigits s a 64)
    let len := leAt h 24 2
    let rcode := leAt h 30 1
    if 16352 < len ∨ rcode ≠ 0 then bump s .quePstat ((thr s t).part) 15 0 1
    else
      let payload := digitsBytes (readDigits s (a + 64) (2 * len))
      let bad := poisoned s [(a, 64 + 2 * len)]
      let q := if c.origin = 6 then respQueue c else 4 * (thr s t).part + k
      storeResp s q {
        turn := c.turn, stored := s.now, payload := payload, session := c.session, seq := c.seq, rcode := 0, gap := false, poison := bad,
        origin := c.origin, route := c.route, leaving := false }

/-- A QUE_DONE store takes effect: ACT and RQ; without a current command it is counted in BADRSP (R295). -/
def queDone (s : State) (t act k : Nat) : State :=
  if act = 0 ∨ 4 < act then s
  else match (thr s t).current with
  | none => bump s .quePstat ((thr s t).part) 15 0 1
  | some _ =>
    if act = 1 then releaseCmd s t
    else if act = 2 then rewindCmd s t
    else if act = 3 then respond s t k
    else releaseCmd (respond s t k) t

/-! ### Sending responses (R299, R311, R312, R392, R399) -/

/-- The 32-byte response header of R296. -/
def respHeader (r : Resp) : Bytes :=
  leBytes 8 r.turn ++ zeros 8 ++ leBytes 8 r.stored ++ leBytes 2 r.payload.length ++ leBytes 2 r.session ++
    leBytes 4 (r.seq + r.rcode * 2 ^ 16 + (b2n r.gap + 2 * b2n r.poison) * 2 ^ 28)

/-- The nonce of R392. -/
def gcmNonce (salt : Bytes) (ctr : Nat) : Bytes := salt ++ zeros 4 ++ leBytes 4 ctr

/-- A transaction frame sealed for a session (R390, R392). -/
def sealFrame (x : Session) (ty number ctr : Nat) (cmdh body : Bytes) : Bytes :=
  let hdr := [byte 1, byte ty] ++ leBytes 2 number ++ leBytes 4 ctr ++ cmdh
  let r := Config.gcmEnc x.keyOut (gcmNonce x.saltOut ctr) hdr body
  hdr ++ r.1 ++ r.2

/-- A session closes: its entry leaves the table (R394). -/
def dropSession (s : State) (n : Nat) : State := modSess s n (fun _ => sessInit)

/-- A frame sent in a session; at CTR #FFFF_FFFF the session closes (R392). -/
def sendFrame (s : State) (n ty : Nat) (cmdh body : Bytes) : State :=
  let x := sess s n
  let ctr := x.ctrOut + 1
  let s := emit s (.frame x.port n ctr x.peerIp x.peerUdp (sealFrame x ty n ctr cmdh body))
  if ctr = 0xFFFFFFFF then dropSession s n else modSess s n (fun x => { x with ctrOut := ctr })

/-- The LANE_NET and LANE_DROP index of a port. -/
def netIndex : NetPort → Nat
  | .portA => 0
  | .portB => 1
  | .mgmt => 2
/-- The LANE_DROP index of a port. -/
def netLane : NetPort → Nat
  | .portA => 0
  | .portB => 1
  | .mgmt => 3
/-- The clock domains of a port's link (R353, R383). -/
def netDomains : NetPort → List Nat
  | .portA => [2, 3]
  | .portB => [4, 5]
  | .mgmt => [17]

/-- Whether a port's transmission of a priority is paused (R388). -/
def isPaused (s : State) (l : NetPort) (prio : Nat) : Bool :=
  s.intake.paused.any (fun x => x.1 == netIndex l && (x.2 == none || x.2 == some prio))

/-- A response ring, by its queue. -/
def ring (s : State) (q : Nat) : Ring := tget ringInit s.intake.rings q
/-- A response ring changed. -/
def modRing (s : State) (q : Nat) (f : Ring → Ring) : State :=
  { s with intake := { s.intake with rings := tmod ringInit s.intake.rings q f } }
/-- A function. -/
def func (s : State) (f : Nat) : Func := tget funcInit s.intake.funcs f
/-- Whether a function is enabled: PF0 with the link, a VF also under VF Enable. -/
def funcOn (s : State) (f : Nat) : Bool := f == 0 || (s.intake.vfEnable && (func s f).enabled)
/-- Whether PCIe carries traffic. -/
def pcieUp (s : State) : Bool := !domOut s 6 && !domOut s 7

/-- The index of the queue registers of function `f`, queue `k`. -/
def winIx (f k : Nat) : Nat := 4 * f + k
/-- The function of a tenant's or partition 1's queue. -/
def funcOfQueue (q : Nat) : Nat := q / 4 - 1

/-- A message for a queue's vector: held for a masked vector or a function that cannot send it, else sent, with the link
brought to L0 first (R312). -/
def msixDue (s : State) (q : Nat) : State :=
  let f := funcOfQueue q
  let s := modRing s q (fun r => { r with unsignalled := 0, oldest := none })
  if (ring s q).masked || !(func s f).busMaster || !pcieUp s then modRing s q (fun r => { r with pendingBit := true })
  else emit { s with linkPower := .l0 } (.msix f (q % 4))

/-- A response counted for its vector (R311). -/
def countResponse (s : State) (q : Nat) : State :=
  let r := ring s q
  let s := modRing s q (fun _ => { r with unsignalled := r.unsignalled + 1, oldest := some (r.oldest.getD s.now) })
  if fldGet s .queMod q 7 0 ≤ r.unsignalled + 1 then msixDue s q else s

/-- A record written to its ring, the producer index advanced, its shadow copy written, the vector counted (R399). -/
def ringWrite (s : State) (q : Nat) (r : Resp) (bad : Bool) : State :=
  let f := funcOfQueue q
  let ix := winIx f (q % 4)
  let body := respHeader r ++ r.payload
  let rec_ := padTo (64 * ((body.length + 63) / 64)) body
  let prod := fldGet s .rprod ix 31 0
  let size := 2 ^ (15 + fldGet s .rbase ix 7 4)
  let s := emit s (.hostWrite f (prod % size) rec_ bad)
  let prod' := (prod + rec_.length) % 2 ^ 32
  let s := fldSet s .rprod ix 31 0 prod'
  let s := if regGet s .rshadow ix = 0 then s else emit s (.shadow f (q % 4) prod')
  countResponse s q

/-- Whether a record fits its ring (R399). -/
def ringFits (s : State) (q : Nat) (r : Resp) : Bool :=
  let ix := winIx (funcOfQueue q) (q % 4)
  let n := 64 * ((32 + r.payload.length + 63) / 64)
  let used := (fldGet s .rprod ix 31 0 + 2 ^ 32 - fldGet s .rcons ix 31 0) % 2 ^ 32
  (regGet s .rbase ix).getLsbD 0 && decide (used + n ≤ 2 ^ (15 + fldGet s .rbase ix 7 4))

/-- The head of a response queue leaves by the route of its command (R299); a word that fails parity is handled as R280
states. -/
def sendHead (s : State) (q : Nat) (parity : Bool) : State :=
  match (rq s q).items with
  | [] => s
  | r :: rest =>
    let s' := if parity then report s 5 (Config.rowGroup q % 1024) 4 (q / 4) (1024 + q) else s
    let gone := fun (s : State) => setSmbAlert (modRq s q (fun x => { x with items := rest }))
    let bad := parity || r.poison
    if 0xF000 ≤ r.route ∧ r.route < 0xFF00 then
      if pcieUp s ∧ funcOn s (funcOfQueue q) ∧ (func s (funcOfQueue q)).busMaster ∧ ringFits s q r then
        ringWrite (gone s') q { r with poison := bad } bad
      else s
    else if bad then dropResp (gone s') q
    else if r.route = 0xFF01 then
      setSmbAlert (let s := gone s; { s with intake := { s.intake with smbusOut := s.intake.smbusOut ++ respHeader r ++ r.payload } })
    else
      let x := sess s r.route
      if x.part = nobody then bump (gone s) .queStatr q 63 48 1
      else if isPaused s x.port (kcClassPri s.kc (kcClass s.kc q)) ∨ (netDomains x.port).any (domOut s) then s
      else
        let body := respHeader r ++ r.payload
        let cmdh := [byte (q / 4), byte (q % 4), 0, 0] ++ zeros 4 ++ leBytes 2 body.length ++ zeros 6
        sendFrame (gone s) r.route 3 cmdh body

/-- The moderation time of a vector has passed since its oldest unsignalled response (R311). -/
def moderationTimer (s : State) (q : Nat) : State :=
  match (ring s q).oldest with
  | none => s
  | some t => if t + 1000 * fldGet s .queMod q 19 8 ≤ s.now then msixDue s q else s

/-! ### Lane crossing queues (R304, R305) -/

/-- An empty crossing. -/
def crossingInit : Crossing where
  words := []
  frameMarked := false
  fullFlag := false

/-- The link whose counters a crossing's marked frames are counted in: crossings 2j and 2j + 1 are link j's. -/
def crossingLane (x : Nat) : Nat := x / 2

/-- The words of a crossing after the last whole frame dropped. -/
def dropTail (l : List (Word × Bool)) : List (Word × Bool) := (l.reverse.dropWhile (fun w => !w.2)).reverse

/-- A push: a word without room is dropped and marks its frame, and a marked frame goes whole (R305). -/
def crossPush (s : State) (x : Nat) (w : Word) (last : Bool) : State :=
  let c := tget crossingInit s.xq x
  let put := fun (s : State) (c : Crossing) => { s with xq := tset crossingInit s.xq x c }
  if c.fullFlag ∨ c.frameMarked then
    if last then put (bump s .laneDrop (crossingLane x) 47 32 1) { c with words := dropTail c.words, frameMarked := false }
    else put s { c with frameMarked := true }
  else
    let ws := c.words ++ [(w, last)]
    put s { c with words := ws, fullFlag := decide (Config.laneDepth x ≤ ws.length) }

/-- A pop of the oldest word; the writer's full flag clears (R304). -/
def crossPop (s : State) (x : Nat) : State :=
  let c := tget crossingInit s.xq x
  match c.words with
  | [] => s
  | w :: ws => { s with rdata := w.1, xq := tset crossingInit s.xq x { c with words := ws, fullFlag := false } }

/-! ### Telemetry (R306 to R308) -/

/-- An empty telemetry queue. -/
def tlmInit : TlmQueue where
  items := []
  gapp := false
  tearing := false
  drained := 0

/-- A telemetry queue. -/
def tlm (s : State) (j : Nat) : TlmQueue := tget tlmInit s.intake.tlm j
/-- A telemetry queue changed. -/
def modTlm (s : State) (j : Nat) (f : TlmQueue → TlmQueue) : State :=
  { s with intake := { s.intake with tlm := tmod tlmInit s.intake.tlm j f } }

/-- The lines a telemetry item occupies: its payload is its words (R279). -/
def tlmLines (i : TlmItem) : Nat := linesFor (8 * i.words.length)

/-- Whether a telemetry queue has room for its items and `n` lines more. -/
def tlmRoom (q : TlmQueue) (n : Nat) : Bool := decide ((q.items.map tlmLines).foldl (· + ·) 0 + n ≤ 512)

/-- A gap marked on the newest item that has not begun to leave. -/
def tlmGap (q : TlmQueue) : TlmQueue :=
  match q.items.reverse with
  | i :: rest => if rest = [] ∧ 0 < q.drained then { q with gapp := true } else { q with items := ({ i with gap := true } :: rest).reverse }
  | [] => { q with gapp := true }

/-- Words of an item from its producer; `done` is its end mark (R306, R307). -/
def tlmItem (s : State) (j : Nat) (source : Byte) (words : List Word) (done : Bool) : State :=
  let q := tlm s j
  if q.tearing then modTlm s j (fun q => { q with tearing := !done })
  else
    match q.items.reverse with
    | i :: rest =>
      if !i.done ∧ i.source = source then
        let i' := { i with words := (i.words ++ words).take 1023, done := done }
        if tlmRoom { q with items := rest } (tlmLines i') then modTlm s j (fun q => { q with items := (i' :: rest).reverse })
        else bump (modTlm s j (fun q => { tlmGap { q with items := rest.reverse } with tearing := !done })) .queTlm j 63 48 1
      else fresh s q
    | [] => fresh s q
where
  /-- A new item stored, or dropped for want of room (R281). -/
  fresh (s : State) (q : TlmQueue) : State :=
    let i : TlmItem := {
      source := source, words := words.take 1023, time := BitVec.ofNat 32 s.now, gap := q.gapp, poison := false, torn := false, done := done }
    if tlmRoom q (tlmLines i) then modTlm s j (fun q => { q with items := q.items ++ [i], gapp := false })
    else bump (modTlm s j (fun q => { tlmGap q with tearing := !done })) .queTlm j 63 48 1

/-- A telemetry item as it stands in the ring: its 16-digit header and its words (R306). -/
def tlmBytes (i : TlmItem) : Bytes :=
  leBytes 8 (i.words.length + i.source.toNat * 2 ^ 16 + (b2n i.gap + 2 * b2n i.poison + 4 * b2n i.torn) * 2 ^ 28 +
    i.time.toNat * 2 ^ 32) ++ i.words.flatMap wordBytes

/-- One line of the oldest item drained into partition 0's ring (R308). -/
def tlmDrain (s : State) (j : Nat) (parity : Bool) : State :=
  let q := tlm s j
  match q.items with
  | [] => s
  | i :: rest =>
    let size := 2 ^ kcTlmSize s.kc j
    let prod := fldGet s .queTlm j 31 4
    let cons := fldGet s .queTcons j 27 0
    if !i.done ∨ (prod + 2 ^ 28 - cons) % 2 ^ 28 = size then s
    else
      let s := if parity then report s 5 (Config.rowGroup (2048 + j) % 1024) 4 0 (2048 + j) else s
      let i := if parity then { i with poison := true } else i
      let b := tlmBytes i
      let n := (b.length + 63) / 64
      let line := padTo 64 (slice b (64 * q.drained) 64)
      let s := storeAt s none (kcTlmBase s.kc j + 128 * (prod % size)) (bytesDigits line) false
      let s := fldSet s .queTlm j 31 4 ((prod + 1) % 2 ^ 28)
      modTlm s j (fun q => if q.drained + 1 < n then { q with items := i :: rest, drained := q.drained + 1 }
        else { q with items := rest, drained := 0 })

/-- A flush of a telemetry queue by partition 0 (R307). -/
def tlmFlush (s : State) (p j : Nat) : State :=
  if p ≠ 0 then s
  else
    let q := tlm s j
    let keep := if 0 < q.drained then q.items.take 1 else []
    let open_ := (q.items.drop keep.length).filter (fun i => !i.done)
    let torn := open_.map (fun i => { i with torn := true, done := true })
    let s := modTlm s j (fun q => { q with items := keep ++ torn, tearing := q.tearing || open_ != [] })
    bump s .queTlm j 47 32 open_.length

/-! ### The rows -/

/-- DISPATCH (R290). -/
def execDispatch (q : Fin 1024) (parityError : Bool) (s : State) : Host.Outcome State Fault Refusal := .next (dispatchHead s q parityError)

/-- INBOX_FALL (R291). -/
def execInboxFall (t : Fin 2048) (s : State) : Host.Outcome State Fault Refusal := .next (fallOne s t)

/-- LANDING_COMPLETE (R293). -/
def execLandingComplete (t : Fin 2048) (badWords : List Nat) (s : State) : Host.Outcome State Fault Refusal := .next (land s t badWords)

/-- DEADLINE_EXPIRY (R292). -/
def execDeadlineExpiry (q : Fin 1024) (s : State) : Host.Outcome State Fault Refusal := .next (lateHead s q)

/-- RELEASE (R295). -/
def execRelease (t : Fin 2048) (s : State) : Host.Outcome State Fault Refusal := .next (queDone s t 1 0)

/-- REWIND (R295). -/
def execRewind (t : Fin 2048) (s : State) : Host.Outcome State Fault Refusal := .next (queDone s t 2 0)

/-- RESPOND (R295). -/
def execRespond (t : Fin 2048) (k : Fin 4) (s : State) : Host.Outcome State Fault Refusal := .next (queDone s t 3 k)

/-- RESPOND_AND_RELEASE (R295). -/
def execRespondAndRelease (t : Fin 2048) (k : Fin 4) (s : State) : Host.Outcome State Fault Refusal := .next (queDone s t 4 k)

/-- RESPONSE_SEND (R299). -/
def execResponseSend (q : Fin 1024) (parityError : Bool) (s : State) : Host.Outcome State Fault Refusal := .next (sendHead s q parityError)

/-- MSIX_MODERATION_TIMER (R311). -/
def execMsixModerationTimer (q : Fin 1024) (s : State) : Host.Outcome State Fault Refusal := .next (moderationTimer s q)

/-- HOLD_N_MIN_LOW (R301). -/
def execHoldNMinLow (g : Fin 8) (s : State) : Host.Outcome State Fault Refusal :=
  .next (setHolds { s with intake := { s.intake with holdMin := s.intake.holdMin.filter (· != g.val) } })

/-- PFC_REFRESH (R302). -/
def execPfcRefresh (port : Fin 2) (prio : Option (Fin 8)) (s : State) : Host.Outcome State Fault Refusal :=
  let w := prio.map (fun p => p.val)
  .next (if s.intake.flowOn.contains (port.val, w) then emit s (.flow port w 0xFFFF) else s)

/-- CROSSING_PUSH (R305). -/
def execCrossingPush (x : Fin 10) (w : Word) (lastOfFrame : Bool) (s : State) : Host.Outcome State Fault Refusal :=
  .next (crossPush s x w lastOfFrame)

/-- CROSSING_POP (R305). -/
def execCrossingPop (x : Fin 10) (s : State) : Host.Outcome State Fault Refusal := .next (crossPop s x)

/-- TELEMETRY_ITEM (R306). -/
def execTelemetryItem (j : Fin 16) (source : Byte) (words : List Word) (done : Bool) (s : State) : Host.Outcome State Fault Refusal :=
  .next (tlmItem s j source words done)

/-- TELEMETRY_DRAIN (R308). -/
def execTelemetryDrain (j : Fin 16) (parityError : Bool) (s : State) : Host.Outcome State Fault Refusal := .next (tlmDrain s j parityError)

/-- QUE_TLM_FLUSH (R307). -/
def execQueTlmFlush (p : Fin 256) (j : Fin 16) (s : State) : Host.Outcome State Fault Refusal := .next (tlmFlush s p j)

/-- QUE_TCONS (R308). -/
def execQueTcons (p : Fin 256) (j : Fin 16) (v : Word) (s : State) : Host.Outcome State Fault Refusal :=
  .next (if p.val = 0 then plainWrite s .queTcons j v else s)

end Sys2Proof.Machine
end

