-- ==== Sys2Proof/Machine/Fabric.lean ====
section
/-! DEFINITION. Crossings of clocked domains (R350 to R360), lanes as the domains behind them see them, and the arbiters'
row (R345). -/

namespace Sys2Proof.Machine

/-! ### Lanes and their domains (R350, R383, R384) -/

/-- LANE_STAT.STATE: 0 unused, 1 down, 2 training, 3 up, 4 failed. -/
def laneState (s : State) (l : Nat) : Nat := if kcLaneFunc s.kc l = 0 then 0 else fldGet s .laneStat l 11 8
/-- A lane's state set. -/
def setLane (s : State) (l st : Nat) : State := fldSet s .laneStat l 11 8 st
/-- The lanes of a function. -/
def lanesOf (s : State) (f : Nat) : List Nat := (List.range 48).filter (fun l => kcLaneFunc s.kc l == f)
/-- The lanes of a Westad link. -/
def linkLanes (s : State) (l : Nat) : List Nat := (lanesOf s 4).filter (fun n => kcLaneIndex s.kc n / 4 == l)

/-- The domains behind a lane. -/
def laneDomains (s : State) (l : Nat) : List Nat :=
  match kcLaneFunc s.kc l with
  | 1 => [2, 3]
  | 2 => [4, 5]
  | 3 => [6, 7]
  | 4 => [8 + kcLaneIndex s.kc l / 4]
  | _ => []

/-- Whether a function's lanes that have not failed are up, and there is one. -/
def funcUp (s : State) (f : Nat) : Bool :=
  (lanesOf s f).any (fun l => laneState s l == 3) && (lanesOf s f).all (fun l => laneState s l == 3 || laneState s l == 4)

/-- Whether the device holds a domain DOWN: its lanes or link are not up, the quiet state idles it, PERST_N holds it, or a
lasting fault has retired it; the stacks' domains are DOWN in WATCH (R356, R384, R437, R473, R483, R522). -/
def heldDown (s : State) (d : Nat) : Bool :=
  retired s 9 d || probing s 9 d ||
    (if d = 2 ∨ d = 3 then s.faults.quiet || !funcUp s 1
     else if d = 4 ∨ d = 5 then s.faults.quiet || !funcUp s 2
     else if d = 6 ∨ d = 7 then s.faults.quiet || s.pins.perstN == false || !funcUp s 3
     else if 8 ≤ d ∧ d ≤ 11 then s.faults.quiet || (wlink s (d - 8)).state != 3
     else if d = 12 then s.faults.quiet
     else decide (13 ≤ d ∧ d ≤ 16) && decide (s.supply.power = 3))

/-! ### Crossings (R304, R351, R357, R359) -/

/-- The domain of each lane crossing queue: those of link j are 2j toward the lane and 2j + 1 from it. -/
def crossingDomain (x : Nat) : Nat := nth 0 [2, 3, 4, 5, 6, 6, 17, 17, 18, 18] x
/-- The lane crossing queues of a domain. -/
def crossingsOf (d : Nat) : List Nat := (List.range 10).filter (fun x => crossingDomain x == d)

/-- A crossing's words discarded: each frame of which some word was there, or that was marked, is counted (R305, R359). -/
def flushCrossing (s : State) (x : Nat) : State :=
  let c := tget crossingInit s.xq x
  let whole := (c.words.filter (·.2)).length
  let tail := match c.words.reverse with | w :: _ => !w.2 | [] => false
  let n := whole + b2n (tail || c.frameMarked)
  let s := { s with xq := tset crossingInit s.xq x crossingInit }
  if n = 0 then s else bump s .laneDrop (crossingLane x) 47 32 n

/-- ARB_XSAT of a domain set. -/
def setXsat (s : State) (d : Nat) : State := setBits s .arbXsat 0 (maskOf d d)

/-- A domain's crossings flushed and reset: every count, flag and word is gone (R359). -/
def flushDomain (s : State) (d : Nat) : State :=
  let s := (crossingsOf d).foldl flushCrossing s
  let s := if (dom s d).count = 0 then s else setXsat s d
  modDom s d (fun x => { x with count := 0 })

/-- A domain reset: the flush, and the domain leaves DOWN and STALLED unless the device holds it DOWN (R356, R357, R359). -/
def resetDomain (s : State) (d : Nat) : State :=
  let s := flushDomain s d
  modDom s d (fun x => { x with stalled := false, down := heldDown s d })

/-- A domain resets and stays DOWN until its lanes are up again (R384). -/
def downDomain (s : State) (d : Nat) : State := domDown (flushDomain s d) d

/-- Events counted across a boundary: one handshake carries the count; it stops at 255, and a domain that does not
answer keeps it waiting (R351, R356, R357). -/
def countEvents (s : State) (d n : Nat) : State :=
  if d = 0 then s
  else
    let x := dom s d
    let c := x.count + n
    let s := if 255 < c then setXsat s d else s
    if domOut s d then modDom s d (fun x => { x with count := min 255 c })
    else modDom s d (fun x => { x with count := 0, received := x.received + min 255 c })

/-- The stall watch forces a handshake (R357): KEEP_XLOG, STALLED, the report. -/
def forceStall (s : State) (d : Nat) (inward : Bool) (part : Nat) : State :=
  if d = 0 ∨ (dom s d).down then s
  else
    let s := bump s .keepXlog 0 63 48 1
    let s := fldSet (fldSet (fldSet s .keepXlog 0 31 24 part) .keepXlog 0 23 20 (if inward then 1 else 2)) .keepXlog 0 19 12 d
    let s := if (dom s d).count = 0 then s else modDom (setXsat s d) d (fun x => { x with count := 0 })
    let s := (crossingsOf d).foldl (fun s x =>
      let c := tget crossingInit s.xq x
      if c.words = [] then s
      else { s with xq := tset crossingInit s.xq x { c with words := c.words.drop 1, frameMarked := true } }) s
    report (modDom s d (fun x => { x with stalled := true })) 9 d 0xA part 0

/-- An access that a DOWN or STALLED domain completes is counted (R356, R357). -/
def countDown (s : State) : State := bump s .keepXlog 0 47 32 1

/-- A write of ARB_XMODE: partition 0's, until READY is asserted (R355). -/
def arbXmodeWrite (s : State) (p : Nat) (v : Word) : State :=
  if p ≠ 0 ∨ s.pins.ready ∨ s.boot.readyMs ≠ 0 then s else plainWrite s .arbXmode 0 v

/-! ### The rows -/

/-- ARBITER_DRAW (R345): a decision among the contestants that are requesters of the arbiter. -/
def execArbiterDraw (a : Nat) (contestants : List Nat) (s : State) : Host.Outcome State Fault Refusal :=
  .next (if a < 0x190 then (drawArb s a ((List.range 257).filter (fun r => contestants.contains r && arbValid a r))).2 else s)
/-- EVENT_COUNT_CROSSING (R351). -/
def execEventCountCrossing (d : Fin 26) (events : Nat) (s : State) : Host.Outcome State Fault Refusal := .next (countEvents s d events)
/-- STALL_WATCH_EXPIRY (R357). -/
def execStallWatchExpiry (d : Fin 26) (inward : Bool) (part : Byte) (s : State) : Host.Outcome State Fault Refusal :=
  .next (forceStall s d inward part.toNat)
/-- DOMAIN_RESET (R359). -/
def execDomainReset (d : Fin 26) (s : State) : Host.Outcome State Fault Refusal := .next (if d.val = 0 then s else resetDomain s d)
/-- ARB_XMODE (R355). -/
def execArbXmode (p : Fin 256) (v : Word) (s : State) : Host.Outcome State Fault Refusal := .next (arbXmodeWrite s p v)

end Sys2Proof.Machine
end

