-- ==== Sys2Proof/Machine/Quiet.lean ====
section
/-! DEFINITION. Entry into the quiet state (R331, R483, R485), and the end of every meaning that can meet one of its
causes. -/

namespace Sys2Proof.Machine

/-! ### Steps of the entry (R483) -/

/-- A Westad link that goes down: what it had sent and received is dropped (R405). -/
def dropLink (s : State) (l : Nat) : State :=
  let s := (linkLanes s l).foldl (fun s n => if laneState s n = 3 ∨ laneState s n = 2 then setLane s n 1 else s) s
  downDomain (modLink s l (fun _ => linkInit)) (8 + l)

/-- Outputs (step 2): READY, HOLD_N, ALERT_N, idle lanes, and the UART line. -/
def quietOutputs (s : State) (cause : Nat) : State :=
  let s := setHolds { s with pins := { s.pins with ready := false, alertN := false }, intake := { s.intake with flowOn := [] } }
  let s := [2, 3, 4, 5, 6, 7, 12].foldl downDomain s
  let s := (lanesOf s 3).foldl (fun s l => if laneState s l = 4 then s else setLane s l 1) s
  let s := (List.range 4).foldl dropLink s
  emit s (.uart "QUIET" cause s.turns.num)

/-- Command and response items of partitions 1 to 255 discarded without any answer (step 3). -/
def quietItems (s : State) : State :=
  let s := endCmds s (fun c => c.part != 0 || decide (4 ≤ c.queue)) none
  (s.intake.rspq.map (·.1)).foldl (fun s q => if 4 ≤ q then modRq s q (fun x => { x with items := [] }) else s) s

/-- A thread of partitions 1 to 255 stops at its word boundary: its operations in flight are discarded, its buffered stores
drain to memory, and it is FROZEN (step 4). -/
def quietThread (s : State) (t : Nat) : State :=
  let s := interrupt s t none
  let s := modThr s t (fun th => landAll { th with
      spec := [], sbuf := th.sbuf.filter (fun e => e.pieces.all (fun p => !isCtl p.1)), walk := none, jobs := [], sync := none
      heldFault := none, parity := false } (fun a => { a with ops := [] }))
  let s := drainThr s t
  let s := modCyl s (cylOf t) (fun c => if c.divBusy = some t then { c with divBusy := none } else c)
  if (thr s t).st = .frozen then modThr s t (fun th => { th with freeze := some .quiet, freezeReq := none }) else freezeNow s t .quiet

/-- Every job of partitions 1 to 255 ends STALE, and its seat ends (step 5). -/
def quietJobs (s : State) : State :=
  let s := endJobs s (fun j => j.part != 0) 0x43
  (s.engs.map (·.1)).foldl (fun s e => modEng s e (fun x => { x with
    seats := x.seats.filter (fun y => y.part == 0), waiting := x.waiting.filter (fun t => (thr s t).part == 0) })) s

/-- Every Ethernet session closes (step 7, R394). -/
def quietSessions (s : State) : State :=
  (s.intake.sessions.map (·.1)).foldl (fun s n => if (sess s n).port = .mgmt then s else dropSession s n) s

/-- Threads of partitions 1 to 255. -/
def serviceThreads (s : State) : List Nat := (s.threads.map (·.1)).filter (fun t => (thr s t).part != 0 && (thr s t).part != nobody)

/-- SOURCE of a quiet-state record: partition 0 for its own ENTER, else the Keeper. -/
def quietSource (cause : Nat) : Nat := if cause = 1 then 0 else 3

/-- A cause of the quiet state before step 12 of a boot stops the boot, as a failure that only a cold boot retries; of its
causes only the Keeper's has a code in LC_BOOT.FAIL (R506). -/
def quietBoot (s : State) (cause : Nat) : State :=
  if s.boot.step = 0 ∨ 12 ≤ s.boot.step ∨ (s.boot.stopped ∧ [1, 2, 3, 4, 9, 0xA].contains s.boot.fail) then s
  else { s with boot := { s.boot with stopped := true, gets := [], fail := if cause = 2 then 2 else 0 } }

/-- The quiet state entered for a cause; a later cause is recorded and counted (R483, R485). -/
def enterQuiet (s : State) (cause : Nat) : State :=
  let s := quietBoot (audit s (quietSource cause) 0xFF 0xC (leBytes 2 cause)) cause
  if s.faults.quiet then { s with faults := { s.faults with cnt := satAdd 0xFF s.faults.cnt 1 } }
  else
    let s := { s with faults := { s.faults with
      quiet := true, cause := cause, cnt := 0, reason := 0, stest := 0, entries := satAdd 0xFFFF s.faults.entries 1 } }
    let s := quietItems (quietOutputs s cause)
    let s := quietJobs ((serviceThreads s).foldl quietThread s)
    let s := { s with ks := { s.ks with isSealed := true } }
    let s := putAgree (abandonCommit s) none
    let s := if s.req.ksStat = 1 then { s with req := { s.req with ksStat := 4, ksPieces := [], ksImage := [] } } else s
    settle (endDebug (untake (quietSessions s)))

/-- The end of a step that can meet a cause of the quiet state: the entry, if one was met. In WATCH the device first wakes. -/
def quietSettle (s : State) : State :=
  match s.faults.quietDue with
  | none => s
  | some c => if s.supply.power = 3 then s else enterQuiet { s with faults := { s.faults with quietDue := none } } c

/-! ### The rows -/

/-- QUIET_ENTER (R482). -/
def execQuietEnter (p : Fin 256) (s : State) : Host.Outcome State Fault Refusal := .next (if p.val = 0 then enterQuiet s 1 else s)
/-- OUTCOME_UNKNOWN_TIMEOUT (R410): 1 s after its yes vote, a member that has not learnt the outcome. -/
def execOutcomeUnknownTimeout (s : State) : Host.Outcome State Fault Refusal :=
  .next (match waitingVote s with
    | some (_, t) => if t + 10 ^ 9 ≤ s.now then enterQuiet s 0xB else s
    | none => s)
/-- QUIET_UART_LINE (R483). -/
def execQuietUartLine (s : State) : Host.Outcome State Fault Refusal :=
  .next (if s.faults.quiet then emit s (.uart "QUIET" s.faults.cause s.turns.num) else s)

end Sys2Proof.Machine
end

