-- ==== Sys2Proof/Machine/AesJobs.lean ====
section
/-! DEFINITION. The AES engines' operations (R237): AES and TDES modes, MACs, key wrap and clear import. -/

namespace Sys2Proof.Machine

/-! ### Modes over one block function -/

/-- A byte string cut into blocks of `n`; `fuel` bounds them. -/
def blocksOf (n : Nat) : Nat → Bytes → List Bytes
  | 0, _ => []
  | k + 1, b => if b = [] then [] else b.take n :: blocksOf n k (b.drop n)

/-- Blocks of `n` bytes. -/
def blocks (n : Nat) (b : Bytes) : List Bytes := blocksOf n b.length b

/-- ECB. -/
def ecbRun (f : Bytes → Bytes) (n : Nat) (b : Bytes) : Bytes := (blocks n b).flatMap f

/-- CBC encryption from an IV. -/
def cbcEncRun (f : Bytes → Bytes) : Bytes → List Bytes → Bytes
  | _, [] => []
  | iv, b :: bs => let c := f (xorBytes iv b); c ++ cbcEncRun f c bs

/-- CBC decryption from an IV. -/
def cbcDecRun (f : Bytes → Bytes) : Bytes → List Bytes → Bytes
  | _, [] => []
  | iv, c :: cs => xorBytes iv (f c) ++ cbcDecRun f c cs

/-- CTR: the counter block is a 128-bit integer, incremented modulo 2^128. -/
def ctrRun (f : Bytes → Bytes) : Nat → List Bytes → Bytes
  | _, [] => []
  | n, b :: bs => xorBytes b (f (beBytes 16 (n % 2 ^ 128))) ++ ctrRun f (n + 1) bs

/-- The CBC-MAC value of a padded message. -/
def cbcMac (f : Bytes → Bytes) : Bytes → List Bytes → Bytes
  | h, [] => h
  | h, b :: bs => cbcMac f (f (xorBytes h b)) bs

/-- ISO 9797-1 padding method 1 or 2 to blocks of 8. -/
def isoPad (method : Nat) (b : Bytes) : Bytes :=
  let b := if method = 2 then b ++ [0x80] else b
  if b = [] then zeros 8 else b ++ zeros ((8 - b.length % 8) % 8)

/-- ISO 9797-1 MAC algorithm 3 under a double-length key. -/
def macAlg3 (key : Bytes) (method : Nat) (b : Bytes) : Bytes :=
  let k1 := key.take 8
  let k2 := slice key 8 8
  Config.desEnc k1 (Config.desDec k2 (cbcMac (Config.desEnc k1) (zeros 8) (blocks 8 (isoPad method b))))

/-- A key's material at the length of its type. -/
def keyBytes (k : Key) : Bytes := if matLen k.hdr.ktype = 0 then k.mat else k.mat.take (matLen k.hdr.ktype)

/-! ### Key uses -/

/-- A key use as an operation's KEY1 or KEY2. -/
def uses (u : KeyUse) (_ : Desc) (_ : Bytes) : Option (Key → Bool) := some (fun k => u.admits k.hdr)

/-- AES keys of types #3 to #5. -/
def aesUse (usage modes : String) : KeyUse := ⟨[3, 4, 5], [algA], usage, modes⟩
/-- XTS pairs. -/
def xtsUse (modes : String) : KeyUse := ⟨[6, 7], [algA], "D0", modes⟩
/-- TDES keys. -/
def tdesUse (usage modes : String) : KeyUse := ⟨[1, 2], [algT], usage, modes⟩

/-! ### Operations -/

/-- Equal lengths in whole blocks. -/
def wholeBlocks (n : Nat) (d : Desc) : Bool := d.inLen == d.outLen && d.inLen % n == 0

/-- A cipher on whole blocks without an IV. -/
def opEcb (n : Nat) (u : KeyUse) (f : Bytes → Bytes → Bytes) : OpDef :=
  { opPlain (wholeBlocks n) (fun c s => (resOk (ecbRun (f (keyBytes c.k1)) n c.inB), s)) with key1 := uses u, sameInOut := true }

/-- A cipher on whole blocks with an IV of one block. -/
def opCbc (n : Nat) (u : KeyUse) (enc : Bool) (f : Bytes → Bytes → Bytes) : OpDef :=
  { opPlain (fun d => wholeBlocks n d && d.auxLen == n) (fun c s =>
      let g := f (keyBytes c.k1)
      (resOk ((if enc then cbcEncRun g else cbcDecRun g) c.auxB (blocks n c.inB)), s)) with
    useAux := fun _ => true, key1 := uses u, sameInOut := true }

/-- AES-CTR. -/
def opCtr : OpDef :=
  { opPlain (fun d => d.inLen == d.outLen && d.auxLen == 16) (fun c s =>
      (resOk (ctrRun (Config.aesEnc (keyBytes c.k1)) (beNat c.auxB) (blocks 16 c.inB)), s)) with
    useAux := fun _ => true, key1 := uses (aesUse "D0" "BDEN"), sameInOut := true }

/-- The IV and AAD lengths and the tag length of GCM. -/
def gcmParams (d : Desc) : Bool := decide (12 ≤ d.auxLen) && decide (12 ≤ d.p0) && decide (d.p0 ≤ 16)

/-- AES-GCM encryption. -/
def opGcmEnc : OpDef :=
  { opPlain (fun d => gcmParams d && d.outLen == d.inLen + d.p0) (fun c s =>
      let r := Config.gcmEnc (keyBytes c.k1) (c.auxB.take 12) (c.auxB.drop 12) c.inB
      (resOk (r.1 ++ r.2.take c.d.p0), s)) with
    useAux := fun _ => true, key1 := uses (aesUse "D0" "BEN") }

/-- AES-GCM decryption: a wrong tag is a MISMATCH. -/
def opGcmDec : OpDef :=
  { opPlain (fun d => gcmParams d && d.inLen == d.outLen + d.p0) (fun c s =>
      let r := Config.gcmDec (keyBytes c.k1) (c.auxB.take 12) (c.auxB.drop 12) (c.inB.take c.d.outLen)
      (if r.2.take c.d.p0 = c.inB.drop c.d.outLen then resOk r.1 else resEnd 0x11, s)) with
    useAux := fun _ => true, key1 := uses (aesUse "D0" "BDN") }

/-- AES-XTS of one data unit. -/
def opXts (enc : Bool) : OpDef :=
  { opPlain (fun d => d.inLen == d.outLen && d.auxLen == 16 && decide (16 ≤ d.inLen) && decide (d.inLen ≤ 16777216)) (fun c s =>
      (resOk (Config.xts enc (keyBytes c.k1) c.auxB c.inB), s)) with
    useAux := fun _ => true, key1 := uses (xtsUse (if enc then "BEN" else "BDN")), sameInOut := true }

/-- A MAC of P0 bytes, `lo` to `hi`, written to OUT. -/
def opMacGen (lo hi : Nat) (u : KeyUse) (extra : Desc → Bool) (f : Ctx → Bytes) : OpDef :=
  { opPlain (fun d => decide (lo ≤ d.p0) && decide (d.p0 ≤ hi) && d.outLen == d.p0 && extra d) (fun c s =>
      (resOk ((f c).take c.d.p0), s)) with
    key1 := uses u }

/-- A MAC compared with the tag in AUX; OUTLEN is 0. -/
def opMacVer (lo hi : Nat) (u : KeyUse) (extra : Desc → Bool) (f : Ctx → Bytes) : OpDef :=
  { opPlain (fun d => decide (lo ≤ d.p0) && decide (d.p0 ≤ hi) && d.auxLen == d.p0 && d.outLen == 0 && extra d) (fun c s =>
      (resVerdict (decide ((f c).take c.d.p0 = c.auxB)), s)) with
    useAux := fun _ => true, outMode := fun _ => 0, key1 := uses u }

/-- CMAC over IN. -/
def aesMac (c : Ctx) : Bytes := Config.aesCmac (keyBytes c.k1) c.inB
/-- TDES-CMAC over IN. -/
def tdesMac (c : Ctx) : Bytes := Config.tdesCmac (keyBytes c.k1) c.inB
/-- ISO 9797-1 algorithm 3 over IN, with padding method P1. -/
def retailMac (c : Ctx) : Bytes := macAlg3 (keyBytes c.k1) c.d.p1 c.inB
/-- Padding method 1 or 2. -/
def padMethod (d : Desc) : Bool := d.p1 == 1 || d.p1 == 2

/-! ### Key wrap (R237, R271) -/

/-- The payload of a wrapped key: its header digits and its material (entry 23 of the log). -/
def wrapPayload (k : Key) : Bytes := leBytes 8 (hdrWord k.hdr k.hdr.ktype) ++ keyBytes k

/-- The length of a key wrapped under KWP. -/
def wrappedLen (k : Key) : Nat := 8 * (((wrapPayload k).length + 7) / 8) + 8

/-- Whether the guard lets KEY2 be wrapped under KEY1; a refusal is counted. -/
def wrapGuard (c : Ctx) (s : State) : Bool × State :=
  if mayWrap c.kc c.k1 c.k2 then (true, s) else (false, countGuard s c.p)

/-- KWP wrap. -/
def opKwpWrap : OpDef :=
  { opPlain (fun _ => true) (fun c s => (resOk (Config.kwpWrap (keyBytes c.k1) (wrapPayload c.k2)), s)) with
    useIn := false, key1 := uses (aesUse "K0" "BE"), key2 := fun _ _ => some (fun _ => true)
    keyed := fun c => c.d.outLen == wrappedLen c.k2, guard := wrapGuard }

/-- The key of an unwrapped payload: the header's lowest digit names its type (entry 23 of the log). -/
def payloadKey (b : Bytes) : Option (Nat × Bytes) :=
  let kt := leAt b 0 1 % 16
  let mat := b.drop 8
  if kt = 0 ∨ kt = 15 ∨ (matLen kt ≠ 0 ∧ mat.length ≠ matLen kt) ∨ 7144 < mat.length then none else some (kt, mat)

/-- KWP unwrap: the key's type stands in the payload. -/
def opKwpUnwrap : OpDef :=
  { opPlain (fun d => d.inLen % 8 == 0 && decide (16 ≤ d.inLen)) (fun c s =>
      match (Config.kwpUnwrap (keyBytes c.k1) c.inB).bind payloadKey with
      | none => (resEnd 0x11, s)
      | some (kt, mat) => (resKey kt mat [], s)) with
    outMode := fun _ => 0, key1 := uses (aesUse "K0" "BD"), lateDest := true }

/-- Components combined by exclusive-or. -/
def combine (n : Nat) (b : Bytes) : Bytes := (blocks n b).foldl xorBytes (zeros n)

/-- The 3-byte check value of a key. -/
def checkValue (kt : Nat) (mat : Bytes) : Bytes :=
  (if kt ≤ 2 then Config.tdesEnc mat (zeros 8) else Config.aesCmac mat (zeros 16)).take 3

/-- Clear import, from secure scratch and only when the policy opens it. -/
def opClearImport : OpDef :=
  { opPlain (fun d => decide (1 ≤ d.p1) && decide (d.p1 ≤ 3) && matLen d.kt != 0 && d.inLen == d.p1 * matLen d.kt && d.outLen == 3) (fun c s =>
      let mat := combine (matLen c.d.kt) c.inB
      (resKey c.d.kt mat (checkValue c.d.kt mat), s)) with
    dest := fun d => some (d.kt, spanFor (matLen d.kt))
    keyed := fun c => c.inP.all (fun x => isScratch x.1)
    guard := fun c s => if (polFlags c.kc).testBit 0 then (true, s) else (false, countGuard s c.p) }

/-! ### The rows -/

/-- AES_ECB_ENCRYPT (#A100). -/
def execAesEcbEncrypt (e : Fin 144) (s : State) : Host.Outcome State Fault Refusal :=
  .next (quietSettle (startJob s e 0xA100 (opEcb 16 (aesUse "D0" "BEN") Config.aesEnc)))
/-- AES_ECB_DECRYPT (#A101). -/
def execAesEcbDecrypt (e : Fin 144) (s : State) : Host.Outcome State Fault Refusal :=
  .next (quietSettle (startJob s e 0xA101 (opEcb 16 (aesUse "D0" "BDN") Config.aesDec)))
/-- AES_CBC_ENCRYPT (#A110). -/
def execAesCbcEncrypt (e : Fin 144) (s : State) : Host.Outcome State Fault Refusal :=
  .next (quietSettle (startJob s e 0xA110 (opCbc 16 (aesUse "D0" "BEN") true Config.aesEnc)))
/-- AES_CBC_DECRYPT (#A111). -/
def execAesCbcDecrypt (e : Fin 144) (s : State) : Host.Outcome State Fault Refusal :=
  .next (quietSettle (startJob s e 0xA111 (opCbc 16 (aesUse "D0" "BDN") false Config.aesDec)))
/-- AES_CTR (#A120). -/
def execAesCtr (e : Fin 144) (s : State) : Host.Outcome State Fault Refusal := .next (quietSettle (startJob s e 0xA120 opCtr))
/-- AES_GCM_ENCRYPT (#A130). -/
def execAesGcmEncrypt (e : Fin 144) (s : State) : Host.Outcome State Fault Refusal := .next (quietSettle (startJob s e 0xA130 opGcmEnc))
/-- AES_GCM_DECRYPT (#A131). -/
def execAesGcmDecrypt (e : Fin 144) (s : State) : Host.Outcome State Fault Refusal := .next (quietSettle (startJob s e 0xA131 opGcmDec))
/-- AES_XTS_ENCRYPT (#A140). -/
def execAesXtsEncrypt (e : Fin 144) (s : State) : Host.Outcome State Fault Refusal := .next (quietSettle (startJob s e 0xA140 (opXts true)))
/-- AES_XTS_DECRYPT (#A141). -/
def execAesXtsDecrypt (e : Fin 144) (s : State) : Host.Outcome State Fault Refusal := .next (quietSettle (startJob s e 0xA141 (opXts false)))
/-- AES_CMAC_GENERATE (#A150). -/
def execAesCmacGenerate (e : Fin 144) (s : State) : Host.Outcome State Fault Refusal :=
  .next (quietSettle (startJob s e 0xA150 (opMacGen 4 16 (aesUse "M6" "CG") (fun _ => true) aesMac)))
/-- AES_CMAC_VERIFY (#A151). -/
def execAesCmacVerify (e : Fin 144) (s : State) : Host.Outcome State Fault Refusal :=
  .next (quietSettle (startJob s e 0xA151 (opMacVer 4 16 (aesUse "M6" "CV") (fun _ => true) aesMac)))
/-- KWP_WRAP (#A160). -/
def execKwpWrap (e : Fin 144) (s : State) : Host.Outcome State Fault Refusal := .next (quietSettle (startJob s e 0xA160 opKwpWrap))
/-- KWP_UNWRAP (#A161). -/
def execKwpUnwrap (e : Fin 144) (s : State) : Host.Outcome State Fault Refusal := .next (quietSettle (startJob s e 0xA161 opKwpUnwrap))
/-- CLEAR_IMPORT (#A170). -/
def execClearImport (e : Fin 144) (s : State) : Host.Outcome State Fault Refusal := .next (quietSettle (startJob s e 0xA170 opClearImport))
/-- TDES_ECB_ENCRYPT (#A200). -/
def execTdesEcbEncrypt (e : Fin 144) (s : State) : Host.Outcome State Fault Refusal :=
  .next (quietSettle (startJob s e 0xA200 (opEcb 8 (tdesUse "D0" "BEN") Config.tdesEnc)))
/-- TDES_ECB_DECRYPT (#A201). -/
def execTdesEcbDecrypt (e : Fin 144) (s : State) : Host.Outcome State Fault Refusal :=
  .next (quietSettle (startJob s e 0xA201 (opEcb 8 (tdesUse "D0" "BDN") Config.tdesDec)))
/-- TDES_CBC_ENCRYPT (#A210). -/
def execTdesCbcEncrypt (e : Fin 144) (s : State) : Host.Outcome State Fault Refusal :=
  .next (quietSettle (startJob s e 0xA210 (opCbc 8 (tdesUse "D0" "BEN") true Config.tdesEnc)))
/-- TDES_CBC_DECRYPT (#A211). -/
def execTdesCbcDecrypt (e : Fin 144) (s : State) : Host.Outcome State Fault Refusal :=
  .next (quietSettle (startJob s e 0xA211 (opCbc 8 (tdesUse "D0" "BDN") false Config.tdesDec)))
/-- TDES_CMAC_GENERATE (#A250). -/
def execTdesCmacGenerate (e : Fin 144) (s : State) : Host.Outcome State Fault Refusal :=
  .next (quietSettle (startJob s e 0xA250 (opMacGen 4 8 (tdesUse "M6" "CG") (fun _ => true) tdesMac)))
/-- TDES_CMAC_VERIFY (#A251). -/
def execTdesCmacVerify (e : Fin 144) (s : State) : Host.Outcome State Fault Refusal :=
  .next (quietSettle (startJob s e 0xA251 (opMacVer 4 8 (tdesUse "M6" "CV") (fun _ => true) tdesMac)))
/-- MAC_ALGORITHM_3_GENERATE (#A260). -/
def execMacAlgorithm3Generate (e : Fin 144) (s : State) : Host.Outcome State Fault Refusal :=
  .next (quietSettle (startJob s e 0xA260 (opMacGen 4 8 ⟨[1], [algT], "M3", "CG"⟩ padMethod retailMac)))
/-- MAC_ALGORITHM_3_VERIFY (#A261). -/
def execMacAlgorithm3Verify (e : Fin 144) (s : State) : Host.Outcome State Fault Refusal :=
  .next (quietSettle (startJob s e 0xA261 (opMacVer 4 8 ⟨[1], [algT], "M3", "CV"⟩ padMethod retailMac)))

end Sys2Proof.Machine
end

