-- ==== Sys2Proof/Machine/Faults.lean ====
section
/-! DEFINITION. Probes and their verdicts, retirement, the self-test, DRAM line outcomes and the fault registers (R193 to
R195, R473 to R489). -/

namespace Sys2Proof.Machine

/-! ### Units (R473) -/

/-- Whether a class and an index name a unit. -/
def unitExists (cls ix : Nat) : Bool :=
  match cls with
  | 1 => decide (ix < 128)
  | 2 => decide (ix < 144)
  | 3 => decide (ix < 256)
  | 4 => decide (ix < 4)
  | 5 => decide (ix < 1024)
  | 6 => decide (ix < 32)
  | 7 => decide (ix < 128) && (nodeStep (ix / 4) (ix % 4)).isSome
  | 8 => decide (ix < 48)
  | 9 => decide (1 ≤ ix ∧ ix ≤ 25)
  | 10 => decide (ix < 16)
  | 11 => ix == 0
  | 12 => ix == 0
  | _ => false

/-- The probe time of a unit in ns. -/
def probeTime (s : State) (cls ix : Nat) : Nat :=
  match cls with
  | 1 => 2000000
  | 2 => 5000000
  | 3 => 1000000
  | 4 => 20000000
  | 5 => 100000
  | 6 => 3000000
  | 7 => 50000
  | 8 => 10000000
  | 9 => 1000000
  | 10 => 50000 + 1000 * (((kring s ix).frames.length + 1023) / 1024)
  | _ => 10 ^ 9

/-- The partitions that own a thread, job, way or blank of a unit (R475). -/
def unitOwners (s : State) (cls ix : Nat) : List Nat :=
  let has : Nat → Bool :=
    match cls with
    | 1 => fun p => (List.range 16).any (fun i => (thr s (16 * ix + i)).part == p)
    | 2 => fun p => ((eng s ix).queue ++ (eng s ix).running).any (fun j => j.part == p)
    | 3 => fun p => kcWay s.kc (ix / 16) (ix % 16) == p
    | 10 => fun p => match (kring s ix).blank with
      | none => false
      | some b => if blankOwner b = nobody then kcHoldsIn s.kc p ix else blankOwner b == p
    | _ => fun _ => false
  (List.range 256).filter has

/-! ### Retirement (R476 to R478, R481, R482) -/

/-- Whether a partition holds a quad whose cylinder is in service. -/
def inService (s : State) (p : Nat) : Bool := (List.range 512).any (fun q => kcQuad s.kc q == p && !retired s 1 (q / 4))

/-- The retirement fuses. -/
def fuseMax : Nat := 512

/-- A retirement or a remap kept: on the retention rail at once, in the fuses when they are blown, and in the next turn's
record (R478). -/
def keepRetirement (s : State) (cls ix : Nat) : State :=
  let s := if s.fuses.retire.length + s.faults.fuseDue.length < fuseMax then
      { s with faults := { s.faults with fuseDue := s.faults.fuseDue ++ [(cls, ix)] } }
    else quietCause s 0xA
  { s with faults := { s.faults with sinceTurn := s.faults.sinceTurn ++ [(cls, ix)] } }

/-- A unit's state after a lasting verdict. -/
def setUnit (s : State) (cls ix st : Nat) : State := modUnit s cls ix (fun u => { u with state := st })

/-- A thread of a retired cylinder: its items return, its seats and reservation end, its stores leave, and its state is
discarded (R476). -/
def retireThread (s : State) (t : Nat) : State :=
  if (thr s t).part = nobody then s
  else
    let s := modThr s t (fun th => { th with sbuf := th.sbuf.filter (fun e => e.pieces.all (fun p => !isCtl p.1)) })
    let s := dropActive (endSeats (rewindItems (drainThr s t) t) t) t
    putThr s t (clearedThr (thr s t) nobody)

/-- A cylinder retired. -/
def retireCyl (s : State) (c : Nat) : State :=
  let s := setUnit s 1 c 3
  let s := (List.range 16).foldl (fun s i => retireThread s (16 * c + i)) s
  let s := modCyl s c (fun _ => cylInit)
  let s := keepRetirement s 1 c
  if inService s 0 && inService s 1 then s else quietCause s 9

/-- A keyring-store way removed from every set (R477). -/
def retireWay (s : State) (ix : Nat) : State :=
  let k := ix / 16
  let w := ix % 16
  keepRetirement (setUnit (modKr s k (fun x => { x with
    retiredWays := w :: x.retiredWays
    store := tmapAll csetInit x.store (fun _ c => { c with lines := c.lines.filter (fun l => l.way != w) }) })) 3 ix 3) 3 ix

/-- A vault bank: a spare row group, or the bank itself; a second bank is a cause of the quiet state (R473, R481). -/
def retireBank (s : State) (b : Nat) : State :=
  if (punit s 4 b).spares < 64 then keepRetirement (modUnit s 4 b (fun u => { u with state := 4, spares := u.spares + 1 })) 4 b
  else
    let s := keepRetirement (setUnit s 4 b 3) 4 b
    let s := { s with ks := { s.ks with banksRetired := b :: s.ks.banksRetired } }
    if 1 < s.ks.banksRetired.length then quietCause s 5 else s

/-- An intake row group remapped to a spare. -/
def retireRow (s : State) (ix : Nat) : State :=
  if s.faults.intakeSpares < 256 then
    keepRetirement { setUnit s 5 ix 4 with faults := { (setUnit s 5 ix 4).faults with intakeSpares := s.faults.intakeSpares + 1 } } 5 ix
  else quietCause (setUnit s 5 ix 3) 0xA

/-- The spare lines of the DRAM: 512 MiB (R192). -/
def dramSpareMax : Nat := 8388608

/-- A DRAM line remapped, its poison as it stood; without a spare it stays poisoned and partition 0 is told. A fault that
no line reported is the channel's own (R195, R473). -/
def retireDram (s : State) (ch : Nat) (pr : Probe) : State :=
  if pr.error = 5 ∨ pr.error = 6 ∨ pr.error = 8 then
    if s.faults.dramSpares < dramSpareMax then
      { setUnit s 6 ch 4 with faults := { (setUnit s 6 ch 4).faults with dramSpares := s.faults.dramSpares + 1 } }
    else errKnock { s with poison := tset false s.poison (pr.detail / 128) true } 0
  else quietCause (setUnit s 6 ch 3) 6

/-- A mesh link repaired by its spare wires; a second lasting fault is a cause of the quiet state. -/
def retireMesh (s : State) (ix : Nat) : State :=
  if (punit s 7 ix).spares = 0 then keepRetirement (modUnit s 7 ix (fun u => { u with state := 4, spares := 1 })) 7 ix
  else quietCause (setUnit s 7 ix 3) 7

/-- A clock domain stays DOWN and its lanes are FAILED; a DRAM stack's is a cause of the quiet state. -/
def retireDomain (s : State) (d : Nat) : State :=
  let s := keepRetirement (setUnit s 9 d 3) 9 d
  let s := (List.range 48).foldl (fun s l => if (laneDomains s l).contains d then setLane s l 4 else s) s
  let s := domDown s d
  if 13 ≤ d ∧ d ≤ 16 then quietCause s 6 else s

/-- A lane FAILED: its port or link runs without it (R405). -/
def retireLane (s : State) (l : Nat) : State :=
  let s := keepRetirement (setLane (setUnit s 8 l 3) l 4) 8 l
  (laneDomains s l).foldl (fun s d => modDom s d (fun x => { x with down := heldDown s d })) s

/-- The effect of a lasting verdict on its unit (R473). -/
def retireUnit (s : State) (cls ix : Nat) (pr : Probe) : State :=
  match cls with
  | 1 => retireCyl s ix
  | 2 => keepRetirement (retireEngine (setUnit s 2 ix 3) ix) 2 ix
  | 3 => retireWay s ix
  | 4 => retireBank s ix
  | 5 => retireRow s ix
  | 6 => retireDram s ix pr
  | 7 => retireMesh s ix
  | 8 => retireLane s ix
  | 9 => retireDomain s ix
  | 10 => keepRetirement (modKr (setUnit s 10 ix 3) ix (fun k => { k with blankRetired := true })) 10 ix
  | 11 => quietCause (setUnit s 11 0 3) 8
  | _ => s

/-- A unit that returns to service after a transient verdict (R475). -/
def restoreUnit (s : State) (cls ix : Nat) : State :=
  match cls with
  | 1 => (List.range 16).foldl (fun s i => releaseThr s (16 * ix + i) .probe) s
  | 2 => redecide (modEng s ix (fun e => { e with svc := 1 })) ix
  | 9 => resetDomain s ix
  | 11 => { s with trngBad := false }
  | _ => s

/-! ### Verdicts (R475, R487) -/

/-- A FAULT record's BODY. -/
def faultBody (cls ix v : Nat) (pr : Probe) : Bytes :=
  [byte cls] ++ leBytes 2 ix ++ [byte pr.error, byte v] ++ leBytes 2 pr.count ++ [byte pr.part] ++ leBytes 8 pr.detail ++ leBytes 8 pr.etime

/-- A day in ns. -/
def dayNs : Nat := 24 * hourNs

/-- The transient verdicts of a unit within the last 24 hours. -/
def recent (s : State) (u : PUnit) : List Nat := u.window.filter (fun t => decide (s.now < t + dayNs))

/-- A probe's verdict: #1 transient, #2 lasting by probe, #3 by count, #4 by timeout. The record comes before the effect. -/
def verdict (s : State) (cls ix : Nat) (pr : Probe) (v : Nat) : State :=
  let s := audit s 3 pr.part 0xB (faultBody cls ix v pr)
  let seq := s.audit.nextSeq - 1
  let s := { s with faults := { s.faults with last := w64 (cls * 2 ^ 56 + ix * 2 ^ 44 + v * 2 ^ 40 + pr.error * 2 ^ 32 + seq % 2 ^ 32) } }
  if v = 1 then
    let s := modUnit s cls ix (fun u => { u with probe := none, trans := satAdd 0xFFFF u.trans 1, window := s.now :: recent s u })
    settle (restoreUnit { s with faults := { s.faults with transTotal := satAdd 0xFFFFFFFF s.faults.transTotal 1 } } cls ix)
  else
    let owners := unitOwners s cls ix
    let s := modUnit s cls ix (fun u => { u with probe := none, lasting := satAdd 0xFFFF u.lasting 1 })
    let s := { s with faults := { s.faults with
      lastingTotal := satAdd 0xFFFFFFFF s.faults.lastingTotal 1, stestFail := s.faults.stestFail || pr.selfTest } }
    let s := if retired s cls ix then s else retireUnit s cls ix pr
    let s := owners.foldl errKnock s
    settle s

/-- Whether a probe may end: every thread of a cylinder under probe is FROZEN (R474). -/
def probeReady (s : State) (cls ix : Nat) : Bool :=
  cls != 1 || (List.range 16).all (fun i => (thr s (16 * ix + i)).freezeReq != some .probe)

/-- A probe passes or fails. The sixteenth transient verdict within 24 hours is lasting by count. -/
def probeEnds (s : State) (cls ix : Nat) (passed : Bool) : State :=
  match (punit s cls ix).probe with
  | none => s
  | some pr =>
    if !probeReady s cls ix then s
    else verdict s cls ix pr (if !passed then 2 else if 15 ≤ (recent s (punit s cls ix)).length then 3 else 1)

/-- A probe that has run for more than 8 times its probe time. -/
def probeExpires (s : State) (cls ix : Nat) : State :=
  match (punit s cls ix).probe with
  | none => s
  | some pr => if pr.etime + 8 * probeTime s cls ix < s.now then verdict s cls ix pr 4 else s

/-- One retirement fuse entry blown, with mains present and more than 40 J in the buffer (R478). -/
def blowRetirement (s : State) : State :=
  match s.faults.fuseDue with
  | [] => s
  | (cls, ix) :: rest =>
    if s.supply.mains ∧ 40 < bufNow s then
      { s with
        fuses := { s.fuses with retire := s.fuses.retire ++ [cls * 4096 + ix] }
        faults := { s.faults with fuseDue := rest } }
    else s

/-! ### DRAM lines (R193 to R195) -/

/-- The channel of a line. -/
def lineChannel (line : Nat) : Nat := line % 32
/-- The owner of a line of DRAM data. -/
def lineOwner (s : State) (line : Nat) : Nat := kcGran s.kc (128 * line / 4194304)

/-- What a line read finds: a corrected line is written back and reported; an uncorrectable one, or one whose tag fails, is
poisoned; a tag mismatch also knocks the owner and is recorded. -/
def lineOutcome (s : State) (line : Nat) (o : EccOutcome) : State :=
  let p := lineOwner s line
  let part := if p = nobody then 0xFF else p
  match o with
  | .clean => s
  | .corrected => report s 6 (lineChannel line) 5 part (128 * line)
  | .uncorrectable => report { s with poison := tset false s.poison line true } 6 (lineChannel line) 6 part (128 * line)
  | .tagMismatch =>
    let pr : Probe := { error := 8, part := part, count := 1, detail := 128 * line, etime := s.now, selfTest := false }
    let s := audit { s with poison := tset false s.poison line true } 4 part 0xB (faultBody 6 (lineChannel line) 0 pr)
    let s := if p = nobody then s else errKnock s p
    report s 6 (lineChannel line) 8 part (128 * line)

/-! ### The self-test (R486) -/

/-- Every unit of a class and its number. -/
def unitCounts : List (Nat × Nat) := [(1, 128), (2, 144), (3, 256), (4, 4), (5, 1024), (6, 32), (7, 128), (8, 48), (9, 26), (10, 16), (11, 1)]

/-- A unit in service is probed for the self-test; a probe already running joins it. -/
def selfProbe (s : State) (cls ix : Nat) : State :=
  if !unitExists cls ix ∨ retired s cls ix then s
  else match (punit s cls ix).probe with
  | some pr => modUnit s cls ix (fun u => { u with probe := some { pr with selfTest := true } })
  | none =>
    let pr : Probe := { error := 0, part := 0xFF, count := 0, detail := 0, etime := s.now, selfTest := true }
    underProbe (modUnit s cls ix (fun u => { u with probe := some pr })) cls ix

/-- ACT #1 SELFTEST. -/
def startSelftest (s : State) (p : Nat) : State :=
  if p ≠ 0 ∨ !s.faults.quiet ∨ s.faults.stest = 1 then s
  else
    let s := { s with faults := { s.faults with stest := 1, stestFail := false, errSince := false } }
    unitCounts.foldl (fun s c => (List.range c.2).foldl (fun s i => selfProbe s c.1 i) s) s

/-- The self-test ends when none of its probes runs. -/
def endSelftest (s : State) : State :=
  if s.faults.stest = 1 ∧ s.faults.units.all (fun kv => match kv.2.probe with | some pr => !pr.selfTest | none => true) then
    { s with faults := { s.faults with stest := if s.faults.stestFail then 3 else 2 } }
  else s

/-- The reason for which EXIT is refused; 0 when it is not (R486). -/
def exitRefusal (s : State) : Nat :=
  if !s.faults.quiet then 6
  else if s.faults.stest = 1 then 5
  else if s.fuses.tamper ∨ s.keeper.breach then 3
  else if s.faults.stest ≠ 2 then 1
  else if s.faults.errSince then 2
  else if !(inService s 0 && inService s 1) then 4
  else 0

/-! ### Registers and the summary (R488, R489) -/

/-- KEEP_FINFO of the unit that KEEP_FSEL names. -/
def finfoWord (s : State) : Word :=
  let w := regGet s .keepFsel 0
  let cls := fld w 19 12
  let ix := fld w 11 0
  if !unitExists cls ix then 0
  else
    let u := punit s cls ix
    let st := if u.state = 3 then 3 else if u.probe.isSome then 2 else u.state
    w64 (u.errs * 2 ^ 48 + u.trans * 2 ^ 32 + u.lasting * 2 ^ 16 + min 16 (recent s u).length * 2 ^ 8 + st)

/-- KEEP_QUIET. -/
def quietWord (s : State) : Word :=
  let f := s.faults
  w64 (f.cause * 2 ^ 44 + f.cnt * 2 ^ 36 + f.reason * 2 ^ 32 + f.stest * 2 ^ 4 + b2n f.quiet)

/-- The retired units of a class. -/
def retiredCount (s : State) (cls n : Nat) : Nat := ((List.range n).filter (fun i => retired s cls i)).length

/-- The fault summary of attestation reports. -/
def faultSummary (s : State) : Bytes :=
  let quar := (s.ks.slots.filter (fun kv => (slotHdr s kv.1).state == 2)).length
  leBytes 4 s.faults.transTotal ++ leBytes 4 s.faults.lastingTotal ++
    [byte (retiredCount s 1 128), byte (retiredCount s 2 144), byte (retiredCount s 3 256), byte (retiredCount s 4 4),
     byte (retiredCount s 10 16), byte ((List.range 48).filter (fun l => laneState s l == 4)).length] ++
    leBytes 2 s.fuses.retire.length ++ leBytes 4 s.faults.dramSpares ++ leBytes 4 quar ++ leBytes 2 s.faults.entries ++
    leBytes 2 (if s.faults.quiet then s.faults.cause else 0) ++
    [byte (b2n s.faults.quiet + 2 * b2n (retired s 11 0) +
      4 * b2n ((List.range 128).any (fun i => (punit s 7 i).state == 4)))] ++ zeros 3

/-! ### The rows -/

/-- PROBE_VERDICT (R475). -/
def execProbeVerdict (cls : Fin 16) (index : Nat) (passed : Bool) (s : State) : Host.Outcome State Fault Refusal :=
  .next (quietSettle (probeEnds s cls index passed))
/-- PROBE_TIMEOUT (R475). -/
def execProbeTimeout (cls : Fin 16) (index : Nat) (s : State) : Host.Outcome State Fault Refusal :=
  .next (quietSettle (probeExpires s cls index))
/-- RETIREMENT_FUSE_BLOW (R478). -/
def execRetirementFuseBlow (s : State) : Host.Outcome State Fault Refusal := .next (blowRetirement s)
/-- DRAM_SCRUB (R195). -/
def execDramScrub (line : Nat) (o : EccOutcome) (s : State) : Host.Outcome State Fault Refusal :=
  .next (if isDram (128 * line) then lineOutcome s line o else s)
/-- TRNG_HEALTH_FAIL (R473). -/
def execTrngHealthFail (s : State) : Host.Outcome State Fault Refusal := .next (report { s with trngBad := true } 0xB 0 0xC 0xFF 0)
/-- QUIET_SELFTEST (R486). -/
def execQuietSelftest (p : Fin 256) (s : State) : Host.Outcome State Fault Refusal := .next (startSelftest s p)
/-- SELFTEST_DONE (R486). -/
def execSelftestDone (s : State) : Host.Outcome State Fault Refusal := .next (endSelftest s)

end Sys2Proof.Machine
end

