-- ==== Sys2Proof/Machine/KeccakJobs.lean ====
section
/-! DEFINITION. The Keccak engine's operations (R239). -/

namespace Sys2Proof.Machine

/-- The state from AUX with CONT, else zeros. -/
def chainIn (c : Ctx) : Bytes := if c.d.cont then c.auxB.take 200 else spongeZero

/-- A hash with chaining: MORE writes the state and a position of 0 to AUX in place of output (R239). -/
def opHash (r : Nat) (dom : Byte) (lenOk : Nat → Bool) : OpDef :=
  { opPlain (fun d => (if d.more then d.inLen % r == 0 else lenOk d.outLen) && (!(d.more || d.cont) || d.auxLen == 256)) (fun c s =>
      if c.d.more then ({ resOk [] with aux := some (padTo 256 (absorb r (chainIn c) c.inB)) }, s)
      else (resOk (spongeEnd r dom (chainIn c) c.inB c.d.outLen), s)) with
    useAux := fun d => d.more || d.cont, outMode := fun d => if d.more then 0 else 1, auxWrite := fun d => d.more }

/-- SHA3 with a digest of `n` bytes. -/
def opSha3 (n : Nat) : OpDef := opHash (200 - 2 * n) 0x06 (fun l => l == n)
/-- SHAKE. -/
def opShake (bits : Nat) : OpDef := opHash (spongeRate bits) 0x1F (fun l => decide (1 ≤ l))

/-- Neither MORE nor CONT. -/
def noChain (d : Desc) : Bool := !d.more && !d.cont
/-- A KMAC key. -/
def kmacUse (modes : String) : KeyUse := ⟨[5], [algH], "M7", modes⟩

/-- KMAC generate. -/
def opKmacGen (bits : Nat) : OpDef :=
  { opPlain (fun d => noChain d && decide (4 ≤ d.outLen) && decide (d.outLen ≤ 64)) (fun c s =>
      (resOk (kmac bits (keyBytes c.k1) c.inB c.d.outLen []), s)) with
    key1 := uses (kmacUse "CG") }

/-- KMAC verify. -/
def opKmacVer (bits : Nat) : OpDef :=
  { opPlain (fun d => noChain d && decide (4 ≤ d.auxLen) && decide (d.auxLen ≤ 64) && d.outLen == 0) (fun c s =>
      (resVerdict (decide (kmac bits (keyBytes c.k1) c.inB c.d.auxLen [] = c.auxB)), s)) with
    useAux := fun _ => true, outMode := fun _ => 0, key1 := uses (kmacUse "CV") }

/-- The types of a fixed length that a secret may take. -/
def secretKt (d : Desc) : Bool := decide (1 ≤ d.kt) && decide (d.kt ≤ 7)

/-- KMAC256 derivation of a key of type KT. -/
def opKmacDerive : OpDef :=
  { opPlain (fun d => noChain d && secretKt d) (fun c s =>
      (resKey c.d.kt (kmac 256 (keyBytes c.k1) c.inB (matLen c.d.kt) c.auxB) [], s)) with
    useAux := fun _ => true, outMode := fun _ => 0, key1 := uses (kmacUse "X"), dest := fun d => some (d.kt, spanFor (matLen d.kt)) }

/-- SHA3_224 (#C224). -/
def execSha3224 (e : Fin 144) (s : State) : Host.Outcome State Fault Refusal := .next (quietSettle (startJob s e 0xC224 (opSha3 28)))
/-- SHA3_256 (#C256). -/
def execSha3256 (e : Fin 144) (s : State) : Host.Outcome State Fault Refusal := .next (quietSettle (startJob s e 0xC256 (opSha3 32)))
/-- SHA3_384 (#C384). -/
def execSha3384 (e : Fin 144) (s : State) : Host.Outcome State Fault Refusal := .next (quietSettle (startJob s e 0xC384 (opSha3 48)))
/-- SHA3_512 (#C512). -/
def execSha3512 (e : Fin 144) (s : State) : Host.Outcome State Fault Refusal := .next (quietSettle (startJob s e 0xC512 (opSha3 64)))
/-- SHAKE128 (#C128). -/
def execShake128 (e : Fin 144) (s : State) : Host.Outcome State Fault Refusal := .next (quietSettle (startJob s e 0xC128 (opShake 128)))
/-- SHAKE256 (#C129). -/
def execShake256 (e : Fin 144) (s : State) : Host.Outcome State Fault Refusal := .next (quietSettle (startJob s e 0xC129 (opShake 256)))
/-- KMAC128_GENERATE (#C300). -/
def execKmac128Generate (e : Fin 144) (s : State) : Host.Outcome State Fault Refusal := .next (quietSettle (startJob s e 0xC300 (opKmacGen 128)))
/-- KMAC128_VERIFY (#C301). -/
def execKmac128Verify (e : Fin 144) (s : State) : Host.Outcome State Fault Refusal := .next (quietSettle (startJob s e 0xC301 (opKmacVer 128)))
/-- KMAC256_GENERATE (#C310). -/
def execKmac256Generate (e : Fin 144) (s : State) : Host.Outcome State Fault Refusal := .next (quietSettle (startJob s e 0xC310 (opKmacGen 256)))
/-- KMAC256_VERIFY (#C311). -/
def execKmac256Verify (e : Fin 144) (s : State) : Host.Outcome State Fault Refusal := .next (quietSettle (startJob s e 0xC311 (opKmacVer 256)))
/-- KMAC256_DERIVATION (#C320). -/
def execKmac256Derivation (e : Fin 144) (s : State) : Host.Outcome State Fault Refusal := .next (quietSettle (startJob s e 0xC320 opKmacDerive))

end Sys2Proof.Machine
end

