-- ==== Sys2Proof/Machine/Net.lean ====
section
/-! DEFINITION. Ethernet frames and sessions (R385 to R394), PCI Express windows and functions (R395 to R401, R522), lanes
(R384), SMBus and UART (R412, R413). -/

namespace Sys2Proof.Machine

/-! ### Frames at a port (R387, R390) -/

/-- LANE_DROP counters of a link: check 1. -/
def countNotReady (s : State) (lane : Nat) : State := bump s .laneDrop lane 63 48 1
/-- Check 2, and frames that a port discards. -/
def countBad (s : State) (lane : Nat) : State := bump s .laneDrop lane 47 32 1
/-- Check 3, and frames and exchanges that fail authentication. -/
def countAuth (s : State) (lane : Nat) : State := bump s .laneDrop lane 31 16 1

/-- Whether a port receives: its domains carry traffic. -/
def portUp (s : State) (l : NetPort) : Bool := decide (s.supply.power = 1) && !(netDomains l).any (domOut s)

/-- A port's MAC address: fused (R415). -/
def portMac (s : State) (l : NetPort) : Nat := nth 0 s.fuses.macs (netIndex l)
/-- A port's IPv4 address; 0 is off. -/
def portIp4 (s : State) (l : NetPort) : Nat := fldGet s .laneNet1 (netIndex l) 31 0
/-- A port's IPv6 address; 0 is off. -/
def portIp6 (s : State) (l : NetPort) : Nat := (regGet s .laneNet3 (netIndex l)).toNat * 2 ^ 64 + (regGet s .laneNet2 (netIndex l)).toNat

/-- Whether an address is the port's own. -/
def ownAddress (s : State) (l : NetPort) (v6 : Bool) (a : BitVec 128) : Bool :=
  if v6 then portIp6 s l != 0 && a.toNat == portIp6 s l else portIp4 s l != 0 && a.toNat == portIp4 s l

/-- Whether a datagram passes the port's filter (R387). -/
def passesFilter (s : State) (l : NetPort) (h : NetHdr) : Bool :=
  h.fcsOk && h.mac == portMac s l && h.vid == fldGet s .laneNet0 (netIndex l) 59 48 && ownAddress s l h.ipv6 h.dstIp &&
    h.dstUdp == fldGet s .laneNet1 (netIndex l) 63 48 &&
    (if h.checksumPresent then h.checksumOk else !h.ipv6)

/-- A frame's VER and TYPE. -/
def frameIs (b : Bytes) (ty : Nat) : Bool := decide (24 ≤ b.length) && leAt b 0 1 == 1 && leAt b 1 1 == ty

/-- ORIGIN of a port's commands. -/
def netOrigin : NetPort → Nat
  | .portA => 1
  | .portB => 2
  | .mgmt => 4

/-- Whether a port is the management port. -/
def isMgmt (l : NetPort) : Bool := l == .mgmt

/-! ### Sessions (R392, R394) -/

/-- A DATA or CLOSE frame's number, checked and opened: the session's number and the clear body (R392). -/
def openFrame (s : State) (b : Bytes) : Option (Nat × Bytes) :=
  let n := leAt b 2 2
  let ctr := leAt b 4 4
  let x := sess s n
  if x.part = nobody ∨ b.length < 40 then none
  else
    let r := Config.gcmDec x.keyIn (gcmNonce x.saltIn ctr) (b.take 24) (slice b 24 (b.length - 40))
    if r.2 = b.drop (b.length - 16) ∧ x.ctrTop < ctr + 1024 ∧ !x.seen.contains ctr then some (n, r.1) else none

/-- A frame accepted in a session: its CTR, its time and its sender are kept; CTR #FFFF_FFFF closes the session. -/
def acceptFrame (s : State) (l : NetPort) (h : NetHdr) (n ctr : Nat) : State :=
  if ctr = 0xFFFFFFFF then dropSession s n
  else modSess s n (fun x =>
    let top := max x.ctrTop ctr
    { x with
      ctrTop := top, seen := (ctr :: x.seen).filter (fun c => decide (top < c + 1024)), lastFrame := s.now, port := l
      peerIp := h.srcIp, peerUdp := h.srcUdp })

/-- A DATA frame from a host: checks 1 to 3 of R283, then the checks of the queue. -/
def dataFrame (s : State) (l : NetPort) (h : NetHdr) (b : Bytes) : State :=
  let lane := netLane l
  let part := leAt b 8 1
  if !takesCommand s part (isMgmt l) false then countNotReady s lane
  else match readCmdH (slice b 8 16) with
  | none => countBad s lane
  | some c =>
    if c.len + 40 ≠ b.length then countBad s lane
    else match openFrame s b with
    | none => countAuth s lane
    | some (n, body) =>
      let s := acceptFrame s l h n (leAt b 4 4)
      (arrive s {
        h := c, payload := body, whole := true, session := if isMgmt l then 0xFF00 else n, origin := netOrigin l, route := n }
        lane (isMgmt l) false true).2

/-- A CLOSE frame from a host. -/
def closeFrame (s : State) (l : NetPort) (h : NetHdr) (b : Bytes) : State :=
  match openFrame s b with
  | none => countAuth s (netLane l)
  | some (n, _) => dropSession (acceptFrame s l h n (leAt b 4 4)) n

/-- A datagram that reaches a port: what fails the filter or is no frame of the type is counted as BAD. From a
sleep decision on it is counted in NOTRDY, and one of the management port is a wake event (R436, R437). -/
def frameIn (s : State) (l : NetPort) (h : NetHdr) (b : Bytes) (ty : Nat) (f : State → State) : State :=
  if 2 ≤ s.supply.power then
    (if isMgmt l then countNotReady (wakeEvent s 2) (netLane l) else if s.supply.power = 2 then countNotReady s (netLane l) else s)
  else if !portUp s l then s
  else if !passesFilter s l h ∨ !frameIs b ty then countBad s (netLane l)
  else f s

/-! ### HELLO (R393) -/

/-- The length of a HELLO frame. -/
def helloLen : Nat := 24 + 1256
/-- Open sessions at most. -/
def sessionMax : Nat := 3072
/-- The next session number after the last handed out, skipping numbers still open. -/
def nextSession (s : State) : Nat → Nat → Nat
  | 0, n => n
  | f + 1, n =>
    let m := if 0xEFFF ≤ n then 1 else n + 1
    if (sess s m).part = nobody then m else nextSession s f m

/-- The key that a HELLO names, or none when the slot or the tag fails; without AUTH, no key is used. -/
def helloKey (s : State) (l : NetPort) (b : Bytes) : Option (Option Bytes) × State :=
  let part := leAt b 8 1
  if (leAt b 24 1).testBit 0 then
    let r := readKey s part s.turns.num (leAt b 25 3)
    match r.1 with
    | .error _ => (none, r.2)
    | .ok k =>
      let tag := kmac 256 k.mat (sha256 (b.take (helloLen - 32))) 32 (ascii "EVG-HELLO")
      if (kmacUse "CV").admits k.hdr ∧ tag = b.drop (helloLen - 32) then (some (some k.mat), r.2) else (none, r.2)
  else if isMgmt l ∧ (s.fuses.lcs = 1 ∨ s.fuses.lcs = 3) then (some none, s)
  else (none, s)

/-- ACCEPT for a HELLO that has passed: the encapsulation, the tag, the identity key's signature, the session's keys. A tag
without a key, and a signature without an identity key, are values that the specification does not give. -/
def acceptHello (s : State) (l : NetPort) (h : NetHdr) (b : Bytes) (key : Option Bytes) : State :=
  let part := leAt b 8 1
  let n := nextSession s 0xF000 s.intake.lastSession
  let r1 := trngBytes s 32
  let r2 := trngBytes r1.2 32
  let e := Config.mlKemEncap 0 (slice b 64 1184) r2.1
  let body := r1.1 ++ e.1
  let hdr := [1, 2] ++ leBytes 2 n ++ zeros 4 ++ [byte part, 0, 0, 0] ++ zeros 4 ++ leBytes 2 3572 ++ zeros 6
  let digest := sha256 (b ++ hdr ++ body)
  let t := match key with
    | some k => (kmac 256 k digest 32 (ascii "EVG-ACCEPT"), r2.2)
    | none => freeBytes r2.2 32
  let g := identitySign t.2 [] (digest ++ t.1)
  let sg := match g.1 with
    | some x => (x, g.2)
    | none => freeBytes g.2 2420
  let ks := kmac 256 e.2 digest 72 (ascii "EVG-SESSION")
  let s := modSess sg.2 n (fun _ => {
    part := part, port := l, keyIn := slice ks 0 32, keyOut := slice ks 32 32, saltIn := slice ks 64 4, saltOut := slice ks 68 4
    ctrOut := 0, ctrTop := 0, seen := [], lastFrame := s.now, peerIp := h.srcIp, peerUdp := h.srcUdp })
  emit { s with intake := { s.intake with lastSession := n } } (.accept l n (hdr ++ body ++ t.1 ++ sg.1))

/-- A HELLO frame. -/
def helloFrame (s : State) (l : NetPort) (h : NetHdr) (b : Bytes) : State :=
  let part := leAt b 8 1
  let okHdr := b.length == helloLen && leAt b 2 2 == 0 && leAt b 4 4 == 0 &&
    (match readCmdH (slice b 8 16) with | some c => c.len + 24 == b.length | none => false)
  if !okHdr then countBad s (netLane l)
  else if !planeOk (isMgmt l) false part || !kcPresent s.kc part || (s.faults.quiet && !isMgmt l) then countAuth s (netLane l)
  else match helloKey s l b with
  | (none, s) => countAuth s (netLane l)
  | (some key, s) =>
    if sessionMax ≤ (s.intake.sessions.filter (fun x => x.2.part != nobody)).length then emit s (.reject l 1)
    else acceptHello s l h b key

/-! ### PCI Express windows (R398) -/

/-- A window awaiting a header. -/
def windowInit : Window where
  state := 0
  buf := []
  need := 0
  ord := 0

/-- A command window. -/
def window (s : State) (ix : Nat) : Window := tget windowInit s.intake.windows ix
/-- A command window changed. -/
def modWindow (s : State) (ix : Nat) (f : Window → Window) : State :=
  { s with intake := { s.intake with windows := tmod windowInit s.intake.windows ix f } }

/-- The queue of function `f`'s local queue `k`. -/
def queueOf (f k : Nat) : Nat := 4 * (f + 1) + k

/-- The item that a window is within, changed: it is in its own queue or was forwarded. `ord` counts from 1; 0 is none. -/
def modStream (s : State) (f k ord : Nat) (g : Cmd → Cmd) : State :=
  if ord = 0 then s
  else
    let q := queueOf f k
    let s := modCmd s q (ord - 1) g
    if q = 7 then s else modCmd s 7 (ord - 1) g

/-- A partial item ends truncated (R294, R398). -/
def truncateStream (s : State) (f k : Nat) : State :=
  let w := window s (winIx f k)
  if w.state = 1 then modStream s f k w.ord (fun c => { c with truncated := true, whole := true }) else s

/-- A partial item dropped: the window needs a resync, and the drop is counted. -/
def breakStream (s : State) (f k : Nat) : State :=
  countBad (modWindow (truncateStream s f k) (winIx f k) (fun _ => { windowInit with state := 2 })) 2

/-- A header that has arrived whole: checks 1 to 7, in order (R283, R284). -/
def windowHeader (s : State) (f k : Nat) (hdr : Bytes) : State :=
  let enter := fun (s : State) (len ord : Nat) =>
    modWindow s (winIx f k) (fun _ => if len = 0 then windowInit else { state := 1, buf := [], need := len, ord := ord })
  let part := leAt hdr 0 1
  if !takesCommand s part false (f == 0) then
    (match readCmdH hdr with
    | none => breakStream s f k
    | some c => enter (countNotReady s 2) c.len 0)
  else match readCmdH hdr with
  | none => breakStream s f k
  | some c =>
    if !funcOn s f then enter (countAuth s 2) c.len 0
    else
      let r := arrive s {
        h := c, payload := [], whole := c.len == 0, session := 0xF000 + f, origin := 3, route := 0xF000 + f }
        2 false (f == 0) (c.part == f + 1)
      enter r.2 c.len (match r.1 with | some o => o + 1 | none => 0)

/-- The bytes written to a window, taken in order; `fuel` bounds the pieces. -/
def windowBytes (s : State) (f k : Nat) : Nat → Bytes → State
  | 0, _ => s
  | n + 1, b =>
    let w := window s (winIx f k)
    if b = [] ∨ w.state = 2 then s
    else if w.state = 0 then
      let take := 16 - w.buf.length
      let buf := w.buf ++ b.take take
      if buf.length < 16 then modWindow s (winIx f k) (fun w => { w with buf := buf })
      else windowBytes (windowHeader s f k buf) f k n (b.drop take)
    else
      let x := b.take w.need
      let left := w.need - x.length
      let s := modStream s f k w.ord (fun c => { c with payload := c.payload ++ x, whole := left == 0 })
      windowBytes (modWindow s (winIx f k) (fun w => if left = 0 then windowInit else { w with need := left })) f k n (b.drop x.length)

/-- A PCIe write to a command window. -/
def windowWrite (s : State) (f k : Nat) (b : Bytes) (gaps : Bool) : State :=
  if !pcieUp s then s
  else if (window s (winIx f k)).state = 2 then s
  else if gaps then breakStream s f k
  else windowBytes s f k (b.length + 1) b

/-- RESYNC. -/
def windowResync (s : State) (f k : Nat) : State :=
  if pcieUp s ∧ funcOn s f then modWindow (truncateStream s f k) (winIx f k) (fun _ => windowInit) else s

/-- A write of RBASE: ADDR and SIZE hold while EN is 1; EN set from 0 starts the ring anew (R399). -/
def rbaseWrite (s : State) (f k : Nat) (v : Word) : State :=
  let ix := winIx f k
  if !(pcieUp s && funcOn s f) then s
  else
    let old := regGet s .rbase ix
    if fbit old 0 then fldSet s .rbase ix 0 0 (fld v 0 0)
    else
      let s := plainWrite s .rbase ix (keepField old v 7 4 (fun n => decide (n < 10)))
      if fbit v 0 then fldSet (fldSet s .rprod ix 31 0 0) .rcons ix 31 0 0 else s

/-- A write of RCONS by the host. -/
def rconsWrite (s : State) (f k : Nat) (v : Word) : State := if pcieUp s && funcOn s f then plainWrite s .rcons (winIx f k) v else s

/-! ### Functions and the link (R312, R400, R401, R522) -/

/-- A held MSI-X message sent, when its vector and function can send it (R312). -/
def sendHeld (s : State) (q : Nat) : State :=
  if (ring s q).pendingBit ∧ !(ring s q).masked ∧ (func s (funcOfQueue q)).busMaster ∧ pcieUp s then
    emit (modRing { s with linkPower := .l0 } q (fun r => { r with pendingBit := false })) (.msix (funcOfQueue q) (q % 4))
  else s

/-- Every held message judged. -/
def sendAllHeld (s : State) : State := (s.intake.rings.map (·.1)).foldl sendHeld s

/-- A function changed. -/
def modFunc (s : State) (f : Nat) (g : Func → Func) : State := { s with intake := { s.intake with funcs := tmod funcInit s.intake.funcs f g } }

/-- A function-level reset: the BAR0 registers and streams clear, the waiting responses are dropped and counted. -/
def flr (s : State) (f : Nat) : State :=
  (List.range 4).foldl (fun s k =>
    let ix := winIx f k
    let q := queueOf f k
    let s := modWindow (truncateStream s f k) ix (fun _ => windowInit)
    let s := regSet (regSet (regSet (regSet s .rbase ix 0) .rshadow ix 0) .rprod ix 0) .rcons ix 0
    let s := modRing s q (fun _ => ringInit)
    let n := ((rq s q).items.filter (fun r => r.route == 0xF000 + f)).length
    let s := modRq s q (fun x => { x with items := x.items.filter (fun r => r.route != 0xF000 + f) })
    if n = 0 then s else bump s .queStatr q 63 48 n) (modFunc s f (fun x => { x with busMaster := false }))

/-- The functions that have any state. -/
def listedFuncs (s : State) : List Nat := (List.range 255).filter (fun f =>
  s.intake.funcs.any (fun x => x.1 == f) || s.intake.windows.any (fun x => x.1 / 4 == f) || s.intake.rings.any (fun x => funcOfQueue x.1 == f) ||
    s.intake.rspq.any (fun x => decide (4 ≤ x.1) && funcOfQueue x.1 == f) ||
    (List.range 4).any (fun k => regGet s .rbase (winIx f k) != 0 || regGet s .rshadow (winIx f k) != 0 || regGet s .rcons (winIx f k) != 0))

/-- A reset of PF0: VF Enable clears, and every VF goes through the same steps. -/
def flrPf (s : State) : State :=
  (listedFuncs s).foldl flr (flr { s with intake := { s.intake with vfEnable := false } } 0)

/-- The PCIe link goes down: domains 6 and 7 are DOWN (R400). -/
def linkDown (s : State) : State :=
  let s := (lanesOf s 3).foldl (fun s l => if laneState s l = 4 then s else setLane s l 1) s
  downDomain (downDomain { s with linkPower := .l0 } 6) 7

/-- A host configuration or MSI-X table write. -/
def pcieConfig (s : State) (w : PcieConfig) : State :=
  if !pcieUp s then s
  else match w with
  | .busMaster f on => sendAllHeld (modFunc s f (fun x => { x with busMaster := on }))
  | .functionEnable f on => modFunc s f (fun x => { x with enabled := on })
  | .vfEnable on => { s with intake := { s.intake with vfEnable := on } }
  | .vectorMask f v m => sendHeld (modRing s (queueOf f v) (fun r => { r with masked := m })) (queueOf f v)

/-! ### Lanes (R384, R405) -/

/-- A lane loses lock: it trains again behind a domain reset; twice within 1 s it is reported (R384, R473). -/
def loseLock (s : State) (l : Nat) : State :=
  if laneState s l ≠ 3 then s
  else
    let s := (laneDomains s l).foldl downDomain (setLane s l 2)
    let again := match alook s.faults.lockLoss l with | some t => decide (s.now < t + 10 ^ 9) | none => false
    let s := { s with faults := { s.faults with lockLoss := aput s.faults.lockLoss l s.now } }
    if again then report s 8 l 0xD 0xFF l else s

/-- INIT flits grant a class's whole buffer, at most 63 credits each (R402, R404). -/
def grantCredits (s : State) (l c : Nat) : Nat → Nat → State
  | 0, _ => s
  | f + 1, n => if n = 0 then s else grantCredits (sendFlit s l 3 0 (c + 4 * min 63 n) 0 []) l c f (n - min 63 n)

/-- A Westad link comes up at a width, toward a member: it grants its buffers if it was down, and resumes at its oldest
unacknowledged flit if it has retrained (R404, R405). -/
def linkUp (s : State) (l width peer : Nat) : State :=
  if s.faults.quiet ∨ linkLanes s l = [] ∨ !(width = 1 ∨ width = 2 ∨ width = 4) ∨ (wlink s l).state = 3 then s
  else
    let fresh := (wlink s l).state == 1
    let s := (linkLanes s l).foldl (fun s n => if laneState s n = 4 ∨ probing s 8 n then s else setLane s n 3) s
    let s := modLink s l (fun k => { k with state := 3, width := width, peer := peer, nakSent := false, replays := 0 })
    let s := resetDomain (resetDomain s (8 + l)) 12
    let s := if fresh then grantCredits (grantCredits (grantCredits s l 0 64 64) l 1 64 960) l 2 64 128 else s
    let s := (wlink s l).replay.foldl (fun s f => sendFlit s l 1 f.1 0 (leAt f.2 0 2) (f.2.drop 2)) s
    linksChanged (pump s l)

/-- Whether the pads of a function are held after WATCH: group 1 Ethernet, 2 PCIe, 3 Westad; its lanes do not train (R440). -/
def padsHeld (s : State) (f : Nat) : Bool := s.supply.held.contains (if f = 1 ∨ f = 2 then 1 else f - 1)

/-- What has trained is up, and its domains leave DOWN. -/
def trained (s : State) : TrainTarget → State
  | .lane l =>
    if padsHeld s (kcLaneFunc s.kc l) then s
    else if laneState s l = 1 ∨ laneState s l = 2 then (laneDomains s l).foldl resetDomain (setLane s l 3) else s
  | .pcie =>
    if s.faults.quiet ∨ s.pins.perstN == false ∨ padsHeld s 3 then s
    else
      let s := (lanesOf s 3).foldl (fun s l => if laneState s l = 4 then s else setLane s l 3) s
      sendAllHeld (resetDomain (resetDomain s 6) 7)
  | .westad l w p => if padsHeld s 4 then s else linkUp s l w p

/-- PERST_N (R522). -/
def perst (s : State) (asserted : Bool) : State :=
  let s := { s with pins := { s.pins with perstN := !asserted } }
  if asserted then linkDown s
  else
    let s := (lanesOf s 3).foldl (fun s l => if laneState s l = 1 then setLane s l 2 else s) s
    downDomain (downDomain s 6) 7

/-! ### SMBus and UART (R412, R413) -/

/-- A chunk of a partition 0 command by SMBus; with the last chunk the item is admitted. -/
def smbusWrite (s : State) (b : Bytes) (last pecOk : Bool) : State :=
  if s.supply.power = 0 ∨ domOut s 18 then s
  else if 2 ≤ s.supply.power then countNotReady (wakeEvent s 3) 4
  else if !pecOk then countBad s 4
  else
    let item := s.intake.smbus ++ b
    if !last then { s with intake := { s.intake with smbus := item } }
    else
      let s := { s with intake := { s.intake with smbus := [] } }
      if !takesCommand s 0 true false then countNotReady s 4
      else match readCmdH (item.take 16) with
      | none => countBad s 4
      | some c =>
        if c.len + 16 ≠ item.length then countBad s 4
        else (arrive s { h := c, payload := item.drop 16, whole := true, session := 0xFF01, origin := 5, route := 0xFF01 } 4 true false true).2

/-- The bytes of a Block Read: the most that SMBus 3.1 carries. -/
def smbusChunk : Nat := 255

/-- A chunk of partition 0's waiting responses. -/
def smbusRead (s : State) (pecOk : Bool) : State :=
  if s.supply.power = 0 ∨ domOut s 18 then s
  else if 2 ≤ s.supply.power then countNotReady (wakeEvent s 3) 4
  else if !pecOk then countBad s 4
  else
    let b := s.intake.smbusOut
    setSmbAlert (emit { s with intake := { s.intake with smbusOut := b.drop smbusChunk } } (.smbus (b.take smbusChunk)))

/-! ### The rows -/

/-- COMMAND_ARRIVAL (R283). -/
def execCommandArrival (l : NetPort) (h : NetHdr) (frame : List Byte) (s : State) : Host.Outcome State Fault Refusal :=
  .next (frameIn s l h frame 3 (fun s => dataFrame s l h frame))
/-- CUT_THROUGH_TIMEOUT (R294). -/
def execCutThroughTimeout (f : Fin 255) (k : Fin 4) (s : State) : Host.Outcome State Fault Refusal :=
  .next (if (window s (winIx f k)).state = 1 then settle (modWindow (truncateStream s f k) (winIx f k) (fun _ => windowInit)) else s)
/-- ARP_ND_ECHO (R387). -/
def execArpNdEcho (l : NetPort) (kind : NetQuery) (target : BitVec 128) (s : State) : Host.Outcome State Fault Refusal :=
  .next (if !portUp s l then s
    else if ownAddress s l (kind == .neighbour) target || (kind == .echo && ownAddress s l true target) then emit s (.netAnswer l kind)
    else countBad s (netLane l))
/-- PAUSE_FRAME_RECEIVED (R388). -/
def execPauseFrameReceived (port : Fin 2) (prios : Option (List (Fin 8))) (quanta : BitVec 16) (s : State) : Host.Outcome State Fault Refusal :=
  let which : List (Option Nat) := match prios with | none => [none] | some l => l.map (fun p => some p.val)
  let rest := s.intake.paused.filter (fun x => !(x.1 == port.val && which.contains x.2))
  .next (if (List.range 2).any (fun i => domOut s (2 + 2 * port.val + i)) then s
    else { s with intake := { s.intake with paused := rest ++ (if quanta = 0 then [] else which.map (fun w => (port.val, w))) } })
/-- PAUSE_TIME_EXPIRY (R388). -/
def execPauseTimeExpiry (port : Fin 2) (prio : Option (Fin 8)) (s : State) : Host.Outcome State Fault Refusal :=
  .next { s with intake := { s.intake with paused := s.intake.paused.filter (fun x => !(x.1 == port.val && x.2 == prio.map (·.val))) } }
/-- HELLO (R393). -/
def execHello (l : NetPort) (h : NetHdr) (frame : List Byte) (s : State) : Host.Outcome State Fault Refusal :=
  .next (quietSettle (frameIn s l h frame 1 (fun s => helloFrame s l h frame)))
/-- CLOSE (R394). -/
def execClose (l : NetPort) (h : NetHdr) (frame : List Byte) (s : State) : Host.Outcome State Fault Refusal :=
  .next (frameIn s l h frame 4 (fun s => closeFrame s l h frame))
/-- SESSION_IDLE_TIMEOUT (R394). -/
def execSessionIdleTimeout (n : Fin 65536) (s : State) : Host.Outcome State Fault Refusal :=
  .next (if (sess s n).part ≠ nobody ∧ (sess s n).lastFrame + 600 * 10 ^ 9 ≤ s.now then dropSession s n else s)
/-- COMMAND_WINDOW_WRITE (R398). -/
def execCommandWindowWrite (f : Fin 255) (k : Fin 4) (b : List Byte) (gaps : Bool) (s : State) : Host.Outcome State Fault Refusal :=
  .next (windowWrite s f k b gaps)
/-- CWIN_RESYNC (R398). -/
def execCwinResync (f : Fin 255) (k : Fin 4) (s : State) : Host.Outcome State Fault Refusal := .next (windowResync s f k)
/-- RBASE (R399). -/
def execRbase (f : Fin 255) (k : Fin 4) (v : Word) (s : State) : Host.Outcome State Fault Refusal := .next (rbaseWrite s f k v)
/-- RCONS (R399). -/
def execRcons (f : Fin 255) (k : Fin 4) (v : Word) (s : State) : Host.Outcome State Fault Refusal := .next (rconsWrite s f k v)
/-- FLR_VF (R400). -/
def execFlrVf (f : Fin 255) (s : State) : Host.Outcome State Fault Refusal := .next (if f.val = 0 ∨ !pcieUp s then s else flr s f)
/-- FLR_PF0 (R400). -/
def execFlrPf0 (s : State) : Host.Outcome State Fault Refusal := .next (if pcieUp s then flrPf s else s)
/-- PCIE_LINK_DOWN (R400). -/
def execPcieLinkDown (s : State) : Host.Outcome State Fault Refusal := .next (linkDown s)
/-- PERST_N (R522). -/
def execPerstN (asserted : Bool) (s : State) : Host.Outcome State Fault Refusal := .next (perst s asserted)
/-- PCIE_CONFIG_WRITE (R312). -/
def execPcieConfigWrite (w : PcieConfig) (s : State) : Host.Outcome State Fault Refusal := .next (pcieConfig s w)
/-- ASPM_L0S_L1_TRANSITION (R401). -/
def execAspmL0sL1Transition (power : LinkPower) (s : State) : Host.Outcome State Fault Refusal :=
  .next (if pcieUp s then { s with linkPower := power } else s)
/-- LANE_LOSS_OF_LOCK (R384). -/
def execLaneLossOfLock (l : Fin 48) (s : State) : Host.Outcome State Fault Refusal := .next (loseLock s l)
/-- LANE_TRAINING_DONE (R384). -/
def execLaneTrainingDone (l : TrainTarget) (s : State) : Host.Outcome State Fault Refusal := .next (trained s l)
/-- SMBUS_BLOCK_WRITE (R412). -/
def execSmbusBlockWrite (b : List Byte) (last pecOk : Bool) (s : State) : Host.Outcome State Fault Refusal := .next (smbusWrite s b last pecOk)
/-- SMBUS_BLOCK_READ (R412). -/
def execSmbusBlockRead (pecOk : Bool) (s : State) : Host.Outcome State Fault Refusal := .next (smbusRead s pecOk)
/-- UART_INPUT (R413). -/
def execUartInput (b : Byte) (s : State) : Host.Outcome State Fault Refusal :=
  .next (if s.fuses.lcs = 1 ∨ s.fuses.lcs = 3 then { s with uartIn := s.uartIn ++ [b] } else s)

end Sys2Proof.Machine
end

