-- ==== Sys2Proof/Machine/Links.lean ====
section
/-! DEFINITION. Westad links and messages as they arrive (R403 to R408): flits, replay, retraining, routes, keying and
mirroring. -/

namespace Sys2Proof.Machine

/-! ### Flits (R403, R404) -/

/-- Flits kept for replay, after an ACK of `a`: those up to it leave. -/
def ackedOut (a : Nat) (l : List (Nat × Bytes)) : List (Nat × Bytes) := l.filter (fun f => decide (2048 ≤ (a + 4096 - f.1) % 4096))

/-- One NAK that names the SEQ expected; no further one until it arrives. -/
def sendNak (s : State) (l : Nat) : State :=
  if (wlink s l).nakSent then s
  else modLink (sendFlit s l 2 (wlink s l).rxSeq 0 0 []) l (fun k => { k with nakSent := true })

/-- The lanes of a link that work: neither failed nor under probe. -/
def workingLanes (s : State) (l : Nat) : List Nat :=
  ((linkLanes s l).filter (fun n => laneState s n != 4 && !probing s 8 n)).map (fun n => kcLaneIndex s.kc n % 4)

/-- The widest working width: four lanes, either pair, one, or none (R405). -/
def widest (ix : List Nat) : Nat :=
  if [0, 1, 2, 3].all (fun i => ix.contains i) then 4
  else if [0, 1].all (fun i => ix.contains i) || [2, 3].all (fun i => ix.contains i) then 2
  else if ix = [] then 0 else 1

/-- A link that cannot train, or hears nothing, is down: its messages go by other routes (R405, R406). -/
def linkLost (s : State) (l : Nat) : State := if (wlink s l).state = 1 then s else linksChanged (dropLink s l)

/-- A link retrains at the widest working width and keeps its replay buffer (R405). -/
def retrain (s : State) (l : Nat) : State :=
  let w := widest (workingLanes s l)
  let s := bump s .laneWlink l 47 32 1
  if w = 0 then linkLost s l
  else
    let s := (linkLanes s l).foldl (fun s n => if laneState s n = 3 then setLane s n 2 else s) s
    linksChanged (downDomain (modLink s l (fun k => { k with state := 2, width := w })) (8 + l))

/-- A replay from `seq` on; the eighth in a row of one SEQ makes the link retrain. -/
def replayFrom (s : State) (l seq : Nat) : State :=
  let k := wlink s l
  if k.state ≠ 3 ∨ !k.replay.any (fun f => f.1 == seq) then s
  else
    let n := if k.replays ≠ 0 ∧ k.replaySeq = seq then k.replays + 1 else 1
    let s := bump (modLink s l (fun k => { k with replays := n, replaySeq := seq })) .laneWlink l 63 48 1
    if 8 ≤ n then retrain (modLink s l (fun k => { k with replays := 0 })) l
    else (k.replay.dropWhile (fun f => f.1 != seq)).foldl (fun s f => sendFlit s l 1 f.1 0 (leAt f.2 0 2) (f.2.drop 2)) s

/-- ACK and CRED of a sound flit. -/
def takeAckCred (s : State) (l : Nat) (b : Bytes) : State :=
  let cred := leAt b 4 2
  modLink s l (fun k => { k with
    replay := ackedOut (leAt b 2 2 % 4096) k.replay
    credits := setNth k.credits (cred % 4) (nth 0 k.credits (cred % 4) + cred / 4 % 64) })

/-- A whole message from a link: one for another member is forwarded without being opened; one for this member is
delivered, which is the row of its type (R406). -/
def messageIn (s : State) (b : Bytes) : State :=
  if b.length < 16 ∨ leAt b 1 1 = kcMember s.kc ∨ 3 ≤ leAt b 2 1 then s else putOnLink s (leAt b 1 1) (leAt b 2 1) b

/-- A DATA flit in order: its fragment joins its message, and its credit goes back. -/
def dataFlit (s : State) (l : Nat) (b : Bytes) : State :=
  let frag := leAt b 6 2
  let part := slice b 8 (min 116 (frag % 128))
  let msg := if frag.testBit 7 then part else (wlink s l).rxFrag ++ part
  let cls := leAt msg 2 1
  let s := modLink s l (fun k => { k with rxSeq := (k.rxSeq + 1) % 4096, nakSent := false, rxFrag := if frag.testBit 8 then [] else msg })
  let s := sendFlit s l 0 0 (cls % 4 + 4) 0 []
  if frag.testBit 8 then messageIn s msg else s

/-- A flit on a link that is up. -/
def flitIn (s : State) (l : Nat) (b : Bytes) : State :=
  if (wlink s l).state ≠ 3 ∨ domOut s (8 + l) then s
  else if b.length ≠ 128 ∨ crc32 (b.take 124) ≠ leAt b 124 4 then sendNak s l
  else
    let s := takeAckCred s l b
    let seq := leAt b 0 2 % 4096
    match leAt b 0 2 / 4096 with
    | 1 => pump (if seq = (wlink s l).rxSeq then dataFlit s l b else sendNak s l) l
    | 2 => pump (replayFrom s l seq) l
    | _ => pump s l

/-- A lane of a link fails: it is reported, and the link retrains without it (R405, R473). -/
def linkLaneFails (s : State) (l ix : Nat) : State :=
  match (linkLanes s l).find? (fun n => kcLaneIndex s.kc n % 4 == ix) with
  | none => s
  | some n =>
    if laneState s n ≠ 3 then s
    else
      let s := report (setLane s n 1) 8 n 0xD 0xFF n
      if (wlink s l).state = 3 then retrain s l else s

/-! ### Routes, acknowledgements, keying (R406, R407) -/

/-- A member's link states: they replace what it had sent; a change is passed on, and routes are computed again. -/
def routeIn (s : State) (m : Nat) (edges : List (Nat × Nat)) : State :=
  let mine := edges.filter (fun e => e.1 == m)
  let old := s.westad.linkStates.filter (fun e => e.1 == m)
  if mine = old ∨ !(otherMembers s).contains m ∨ s.faults.quiet then s
  else
    let s := { s with westad := { s.westad with linkStates := s.westad.linkStates.filter (fun e => e.1 != m) ++ mine } }
    routesChanged (floodRoute s m mine)

/-- A cumulative acknowledgement. -/
def ackIn (s : State) (m mseq : Nat) : State :=
  if pairState s m = 2 ∧ !s.faults.quiet then modPair s m (fun p => { p with unacked := p.unacked.filter (fun x => decide (mseq < x.1)) })
  else s

/-- Whether a peer's identity key is the one that its PEERS entry names, and its signature verifies. -/
def kxOk (s : State) (m : Nat) (pk sig digest : Bytes) : Bool :=
  sha256 pk == kcPeer s.kc m && Config.mlDsaVerify 0 pk (ascii "WESTAD-KX") digest sig

/-- The bytes of KX1 and of KX2 before the signature. -/
def kxHead : Nat := 1312 + 32 + 1568

/-- KX1 from the lower member: checked, answered with KX2, and the pair is keyed. -/
def kx1In (s : State) (m : Nat) (b : Bytes) : State :=
  let me := kcMember s.kc
  if me ≤ m ∨ !(otherMembers s).contains m ∨ s.faults.quiet then s
  else if b.length ≠ kxHead + 2420 ∨ !kxOk s m (b.take 1312) (b.drop kxHead) (kxDigest s m me (b.take kxHead)) then refusePair s m
  else
    let n := trngBytes s 32
    let e := trngBytes n.2 32
    let x := Config.mlKemEncap 1 (slice b 1344 1568) e.1
    let body := identityPk s ++ n.1 ++ x.1
    let g := kxSign e.2 (kx2Digest b body)
    match g.1 with
    | none => g.2
    | some sig =>
      let kx2 := body ++ sig
      pairKeyed (sendClear g.2 m 0x22 kx2) m false x.2 b kx2

/-- KX2 from the higher member: checked, and the pair is keyed. -/
def kx2In (s : State) (m : Nat) (b : Bytes) : State :=
  let p := wpair s m
  if m ≤ kcMember s.kc ∨ !(otherMembers s).contains m ∨ s.faults.quiet ∨ p.state ≠ 1 ∨ p.kx = [] then s
  else if b.length ≠ kxHead + 2420 ∨ !kxOk s m (b.take 1312) (b.drop kxHead) (kx2Digest p.kx (b.take kxHead)) then refusePair s m
  else pairKeyed s m true (Config.mlKemDecap 1 p.eph (slice b 1344 1568)) p.kx b

/-- A keying that has not ended is tried again: the lower member draws a new KX1. -/
def keyingRetry (s : State) (m : Nat) : State :=
  if (pairState s m = 1 ∨ pairState s m = 3) ∧ !s.faults.quiet then startKeying s m else s

/-- MSEQ has reached 2^48 in either direction: the pair is keyed again. -/
def mseqRekey (s : State) (m : Nat) : State :=
  let p := wpair s m
  if pairState s m = 2 ∧ !s.faults.quiet ∧ (2 ^ 48 ≤ p.txMseq ∨ 2 ^ 48 ≤ p.rxMseq) then
    startKeying (modPair s m (fun p => { p with state := 1, kx := [], eph := [] })) m
  else s

/-! ### Mirroring (R408) -/

/-- A header from its word (R183). -/
def hdrOfWord (w : Word) : KHdr where
  owner := fld w 63 56
  usage := fld w 55 40
  alg := fld w 39 32
  mode := fld w 31 24
  exportability := fld w 23 16
  span := fld w 15 8
  state := fld w 7 4
  ktype := fld w 3 0

/-- The slot copies that a STAGE message carries, 64 bytes each: the first is a key's, the rest its continuations. -/
def copiesOfMsg : List Bytes → List KCopy
  | [] => []
  | b :: t =>
    let h := hdrOfWord (w64 (leAt b 32 8))
    { mat := b.take 32, hdr := h, chk := w64 (leAt b 56 8) } ::
      t.map (fun c => { mat := c.take 56, hdr := { hdrEmpty with state := 3, owner := h.owner }, chk := w64 (leAt c 56 8) })

/-- A mirrored staging placed in the pool; the key store of a quiet device performs none (R483). -/
def stageIn (s : State) (origin oseq slot : Nat) (copies : List KCopy) (erase : Bool) : State :=
  if s.ks.isSealed ∨ copies = [] ∨ slotMax < slot + copies.length then s
  else mirrorEntry s { slot := slot, copies := copies, origin := origin, oseq := oseq, erase := erase, bad := false, taken := false }

/-- A mirrored erasure: the slots of the key that stands there. -/
def eraseIn (s : State) (origin oseq slot : Nat) : State :=
  let span := match (keysNow s).find? (fun k => k.slot == slot) with | some k => max 1 k.span | none => 1
  stageIn s origin oseq slot (emptySpan slot span) true

/-! ### The rows -/

/-- FLIT_RECEIVE (R403). -/
def execFlitReceive (l : Fin 4) (flit : List Byte) (s : State) : Host.Outcome State Fault Refusal := .next (flitIn s l flit)
/-- NAK (R403). -/
def execNak (l : Fin 4) (seq : BitVec 12) (s : State) : Host.Outcome State Fault Refusal := .next (replayFrom s l seq.toNat)
/-- REPLAY_TIMEOUT (R403): from the oldest unacknowledged flit. -/
def execReplayTimeout (l : Fin 4) (s : State) : Host.Outcome State Fault Refusal :=
  .next (match (wlink s l).replay with
    | f :: _ => replayFrom s l f.1
    | [] => s)
/-- WESTAD_LANE_FAILURE (R405). -/
def execWestadLaneFailure (l : Fin 4) (lane : Fin 4) (s : State) : Host.Outcome State Fault Refusal := .next (linkLaneFails s l lane)
/-- WESTAD_LINK_DOWN (R405). -/
def execWestadLinkDown (l : Fin 4) (s : State) : Host.Outcome State Fault Refusal := .next (linkLost s l)
/-- MESSAGE_RESEND_TIMEOUT (R406). -/
def execMessageResendTimeout (m : Fin 8) (s : State) : Host.Outcome State Fault Refusal :=
  .next (if s.faults.quiet then s else resendPair s m)
/-- ROUTE (R406). -/
def execRoute (m : Fin 8) (links : List (Fin 8 × Fin 8)) (s : State) : Host.Outcome State Fault Refusal :=
  .next (routeIn s m (links.map (fun e => (e.1.val, e.2.val))))
/-- ACK (R406). -/
def execAck (m : Fin 8) (_cls : Fin 3) (mseq : Nat) (s : State) : Host.Outcome State Fault Refusal := .next (ackIn s m mseq)
/-- KX1 (R407). -/
def execKx1 (m : Fin 8) (body : List Byte) (s : State) : Host.Outcome State Fault Refusal := .next (kx1In s m body)
/-- KX2 (R407). -/
def execKx2 (m : Fin 8) (body : List Byte) (s : State) : Host.Outcome State Fault Refusal := .next (kx2In s m body)
/-- KEYING_RETRY (R407). -/
def execKeyingRetry (m : Fin 8) (s : State) : Host.Outcome State Fault Refusal := .next (keyingRetry s m)
/-- MSEQ_REKEY (R407). -/
def execMseqRekey (m : Fin 8) (s : State) : Host.Outcome State Fault Refusal := .next (mseqRekey s m)
/-- STAGE (R408). -/
def execStage (m origin : Fin 8) (oseq : Nat) (slot : Fin 262144) (copies : List (List Byte)) (s : State) : Host.Outcome State Fault Refusal :=
  .next (onMessage s m 1 (fun s => stageIn s origin oseq slot (copiesOfMsg copies) false))
/-- ERASE (R408). -/
def execErase (m origin : Fin 8) (oseq : Nat) (slot : Fin 262144) (s : State) : Host.Outcome State Fault Refusal :=
  .next (onMessage s m 1 (fun s => eraseIn s origin oseq slot))
/-- DISCARD (R408). -/
def execDiscardMsg (m origin : Fin 8) (_oseq : Nat) (s : State) : Host.Outcome State Fault Refusal :=
  .next (onMessage s m 1 (fun s => if s.ks.isSealed then s else discardStaged s origin))

end Sys2Proof.Machine
end

