-- ==== Sys2Proof/Machine/Timebase.lean ====
section
/-! DEFINITION. The timebase, its IEEE 1588 servo, its bridging across WATCH, and the PPS contacts (R389, R442 to R445,
R523). -/

namespace Sys2Proof.Machine

/-! ### The tally (R443) -/

/-- One 32.768 kHz tick, 30,517.578125 ns, in 64ths of a nanosecond. -/
def tickUnits : Nat := 1953125
/-- TB_TALLY: the Keeper's 48-bit count of ticks. -/
def tallyNow (s : State) : Nat := s.tally / tickUnits % 2 ^ 48

/-! ### Setting and discipline (R442) -/

/-- TB_STATUS.LOCK. -/
def tbLocked (s : State) : Bool := fbit (regGet s .tbStatus 0) 2

/-- A write of TB_SET by partition 0: forward only, and only while LOCK is 0. -/
def tbSetWrite (s : State) (p : Nat) (v : Word) : State :=
  if p ≠ 0 ∨ tbLocked s ∨ v.toNat < s.now then s else { s with now := v.toNat }

/-- LOCK rises: after a wake, BRIDGED, COARSE and UNC clear (R445). -/
def raiseLock (s : State) : State :=
  if tbLocked s then s else regSet s .tbStatus 0 (putFld (putFld (putFld (regGet s .tbStatus 0) 2 2 1) 1 0 0) 63 32 0)

/-- A Sync on the selected port and domain. A positive offset above 1 ms steps the timebase forward; every other offset is
slewed, which changes its rate and no state. LOCK follows 16 consecutive Sync intervals with an offset below 1 µs. -/
def ptpSync (s : State) (port domain : Nat) (m : PtpMessage) : State :=
  if fldGet s .tbPtp 0 3 0 ≠ port ∨ fldGet s .tbPtp 0 15 8 ≠ domain ∨ (s.supply.power ≠ 1 ∧ s.supply.power ≠ 2) ∨
      domOut s (2 + 2 * port) then s
  else
    let s := if 10 ^ 6 < m.offsetNs then
        { setBits s .tbStatus 0 (maskOf 3 3) with now := s.now + m.offsetNs.toNat }
      else s
    let good := if m.offsetNs.natAbs < 1000 then s.ptpGood + 1 else 0
    let s := { s with ptpGood := min 16 good }
    if 16 ≤ good then raiseLock s else s

/-- Eight Sync intervals without a Sync message. -/
def ptpLost (s : State) : State := { fldSet s .tbStatus 0 2 2 0 with ptpGood := 0 }

/-! ### Bridging (R444) -/

/-- UNC after a sleep of `t` ticks of which `rc` ran on RC: the ceiling of 30 µs for each second on the crystal and 50,000
for each on RC, and 31. -/
def uncOf (t rc : Nat) : Nat := min 0xFFFFFFFF ((30 * (t - rc) + 50000 * rc + 32767) / 32768 + 31)

/-- The timebase advanced at wake, rounding down, and TB_STATUS. -/
def bridge (s : State) : State :=
  let t := s.tally / tickUnits - s.supply.stopTally / tickUnits
  let rc := s.keeper.rcTicks / tickUnits
  let coarse := decide (0 < s.keeper.rcTicks)
  let w := regGet s .tbStatus 0
  let w := putFld (putFld w 0 0 1) 63 32 (uncOf t rc)
  let w := if coarse then putFld w 1 1 1 else w
  regSet { s with now := s.supply.stopTb + t * tickUnits / 64 } .tbStatus 0 w

/-! ### PPS (R523) -/

/-- Whether a MUX contact carries PPS. -/
def ppsMuxed (s : State) : Bool := (List.range 64).any (fun i => kcMux s.kc i == 1)

/-- At a whole second of a locked timebase the PPS contacts go high for 10 ms. -/
def ppsPulse (s : State) : State :=
  if tbLocked s ∧ s.now % 10 ^ 9 = 0 ∧ ppsMuxed s then emit { s with pins := { s.pins with ppsUntil := s.now + 10 ^ 7 } } .pps else s

/-! ### The rows -/

/-- PTP_MESSAGE (R389). -/
def execPtpMessage (port : Fin 2) (domain : Byte) (m : PtpMessage) (s : State) : Host.Outcome State Fault Refusal :=
  .next (ptpSync s port domain.toNat m)
/-- PTP_LOCK_LOSS (R442). -/
def execPtpLockLoss (s : State) : Host.Outcome State Fault Refusal := .next (ptpLost s)
/-- TB_SET (R442). -/
def execTbSet (p : Fin 256) (v : Word) (s : State) : Host.Outcome State Fault Refusal := .next (tbSetWrite s p v)
/-- PPS_PULSE (R523). -/
def execPpsPulse (s : State) : Host.Outcome State Fault Refusal := .next (ppsPulse s)

end Sys2Proof.Machine
end

