-- ==== Sys2Proof/Machine/Governor.lean ====
section
/-! DEFINITION. The energy buffer and flat draw, the throughput governor, the wear ledger, and REST and DOZE (R416 to R434). -/

namespace Sys2Proof.Machine

/-! ### Power events (R446) -/

/-- A bit of PWR_EVT set; the set raises PWR_CTL.KSRC. -/
def pwrEvt (s : State) (bit : Nat) : State :=
  let s := setBits s .pwrEvt 0 (maskOf bit bit)
  let n := fldGet s .pwrCtl 0 11 0
  if n = 0 then s else raise s 0 n

/-- The supply changed. -/
def modSupply (s : State) (f : Supply → Supply) : State := { s with supply := f s.supply }

/-- PWR_STAT.CHARGING. -/
def chargingNow (s : State) : Bool := s.supply.charging && decide (bufNow s < 100)

/-! ### Wear (R427, R428) -/

/-- The points of the wear table: the rail in mV and the logarithm of A to base 2, in 2^-32. -/
def wearTable : List (Int × Int) := [(550, -18562539823), (600, -15650243166), (700, -8589934592), (850, 0), (950, 5677637935)]

/-- The logarithm of A(V), interpolated between the points. -/
def wearLog (v : Int) : List (Int × Int) → Int
  | (v0, a0) :: (v1, a1) :: t => if v ≤ v1 then a0 + (a1 - a0) * (v - v0) / (v1 - v0) else wearLog v ((v1, a1) :: t)
  | [(_, a0)] => a0
  | [] => 0

/-- 2^(2^-j) for j = 1 to 32, times 2^62, rounded down. -/
def rootsOfTwo : List Nat :=
  [6521908912666391106, 5484249825272419511, 5029079263719320435, 4815862801830788490, 4712668792719003883,
   4661903986662671289, 4636727017470743990, 4624189567668517720, 4617933561212708776, 4614808732577250068,
   4613247111281068008, 4612466498810092974, 4612076242109103707, 4611881126141011236, 4611783571252412753,
   4611734794581956353, 4611710406440186475, 4611698212417665819, 4611692115418496524, 4611689066921934630,
   4611687542674409371, 4611686780550835663, 4611686399489096040, 4611686208958238036, 4611686113692811986,
   4611686066060099699, 4611686042243743740, 4611686030335565806, 4611686024381476851, 4611686021404432376,
   4611686019915910140, 4611686019171649022]

/-- 2^(f / 2^32) times 2^62, for a fraction `f`; `j` counts down its bits. -/
def powFrac (f : Nat) : List Nat → Nat → Nat → Nat
  | [], _, acc => acc
  | r :: t, j, acc => powFrac f t (j - 1) (if f.testBit j then acc * r / 2 ^ 62 else acc)

/-- 2^(x / 2^32) times 2^48, rounded down. -/
def powTwo (x : Int) : Nat :=
  let m := powFrac (x % 2 ^ 32).toNat rootsOfTwo 31 (2 ^ 62)
  let e := x / 2 ^ 32
  if 0 ≤ e then m * 2 ^ e.toNat / 2 ^ 14 else m / 2 ^ (14 + e.natAbs)

/-- a(V, T) times 2^48 (entry 41 of the log). -/
def wearRate (v : Nat) (temp : Int) : Nat := powTwo (wearLog v wearTable + (temp - 75) * 2 ^ 32 / 12)

/-- One wear-hour in the ledger's unit: 36,000,000 times 100 µs. -/
def wearHour : Nat := 36000000 * 2 ^ 48
/-- SPENT in wear-hours. -/
def spentHours (k : Keyring) : Nat := k.spent / wearHour
/-- BAL in the ledger's unit. -/
def balance (k : Keyring) : Int := k.granted - k.spent
/-- BAL in wear-hours. -/
def balHours (k : Keyring) : Int := balance k / wearHour
/-- The wear-hours at which the ledger is exhausted. -/
def wearLife : Nat := 219150

/-- The neutral voltage, at which a(V, T) = 1, within 850 to 950 mV. -/
def neutralMv (temp : Int) : Nat :=
  let need := (75 - temp) * 2 ^ 32 / 12
  if need ≤ 0 then 850 else if 5677637935 ≤ need then 950 else 850 + (100 * need / 5677637935).toNat

/-- The wear ceiling. -/
def wearCeil (k : Keyring) : Nat := if k.exhausted then 850 else if 0 < balance k then 950 else max 850 (neutralMv k.temp)

/-! ### The governor (R424 to R426) -/

/-- The thermal ceiling. -/
def thermalCeil (temp : Int) : Nat := if temp < 95 then 950 else if 105 ≤ temp then 550 else (950 - 40 * (temp - 95)).toNat
/-- The ceiling that shedding or power-fail sets (R419, R424). -/
def shedCeil (s : State) : Nat := if s.supply.pf = 2 then 600 else if s.supply.shed then s.supply.shedCeil else 950

/-- The target from the present one (R425), in steps of 5 mV (R421). -/
def governorTarget (s : State) (i : Nat) (k : Keyring) (demand : Nat) : Nat :=
  let vmin := kcVmin s.kc i
  let t :=
    if k.learn then 800
    else if k.doze then max vmin 600
    else if 850 ≤ demand then k.target + 10
    else if demand ≤ 500 then k.target - 10
    else k.target
  let t := max vmin (min (min t (kcVmax s.kc i)) (wearCeil k))
  let t := min t (min (thermalCeil k.temp) (shedCeil s))
  max (t / 5 * 5) 550

/-- The effective ceiling: PWR_KR.CEIL. -/
def effectiveCeil (s : State) (i : Nat) (k : Keyring) : Nat :=
  max 550 (min (max (kcVmin s.kc i) (min (kcVmax s.kc i) (wearCeil k))) (min (thermalCeil k.temp) (shedCeil s)))

/-- Whether a keyring is in thermal hold after a tick: it enters at 105 °C with its rail at 550 mV, and leaves at 100 °C. -/
def holdNow (k : Keyring) : Bool := if k.hold then decide (100 < k.temp) else decide (105 ≤ k.temp) && k.rail == 550

/-- One governor tick of a keyring (R425 to R428, R430): the rail has reached its last target; wear accrues at it, and the
ceilings and the new target follow. -/
def governorTick (s : State) (i demand : Nat) (temp : Int) (ro : Nat) : State :=
  if s.supply.power ≠ 1 ∧ s.supply.power ≠ 2 then s
  else
    let k := kring s i
    let spent := k.spent + wearRate k.target temp
    let k1 : Keyring := { k with
      rail := k.target, temp := temp, speed := ro, spent := spent
      samples := if k.learn then k.samples + 1 else k.samples
      exhausted := k.exhausted || decide (wearLife * wearHour ≤ spent) }
    let hold := holdNow k1
    let k2 : Keyring := { k1 with
      hold := hold, target := governorTarget s i k1 demand, ceil := effectiveCeil s i k1
      thermFlag := decide (thermalCeil temp < 950), wearFlag := decide (wearCeil k1 < 950), shedFlag := s.supply.shed }
    let s := modKr s i (fun _ => k2)
    let s := if k2.thermFlag != k.thermFlag || hold != k.hold then pwrEvt s 5 else s
    if (k1.exhausted && !k.exhausted) || (decide (0 < balance k) && decide (balance k1 ≤ 0)) then pwrEvt s 6 else s

/-- A keyring's learning period ends after 60 s of samples; the history that it leaves is not given (R430). -/
def learningEnd (s : State) (i : Nat) : State :=
  if (kring s i).learn ∧ 600000 ≤ (kring s i).samples then
    let r := freeBytes s 128
    modKr r.2 i (fun k => { k with learn := false, history := r.1 })
  else s

/-! ### The ledger (R428, R429) -/

/-- One hour's grant; BAL never rises above +2,000. -/
def grantHour (k : Keyring) : Keyring := { k with granted := min (k.granted + wearHour) (2000 * wearHour + k.spent) }

/-- A ledger record's BODY. -/
def ledgerBody (i : Nat) (k : Keyring) : Bytes :=
  [byte i] ++ leBytes 8 (spentHours k) ++ leBytes 8 (unsignedOf 64 (balHours k)) ++ sha256 (padTo 128 k.history)

/-- Every hour each keyring is granted 1 wear-hour, and its ledger is recorded. -/
def ledgerHour (s : State) : State :=
  if s.supply.power = 0 then s
  else (List.range 16).foldl (fun s i => let s := modKr s i grantHour; audit s 4 0xFF 0x10 (ledgerBody i (kring s i))) s

/-- The wear fuses of a keyring. -/
def wearFuseMax : Nat := 4096

/-- A wear fuse for each 64 wear-hours spent, with mains present and more than 40 J in the buffer. -/
def blowWear (s : State) (i : Nat) : State :=
  let n := tget 0 s.fuses.wear i
  if s.supply.mains ∧ 40 < bufNow s ∧ n < wearFuseMax ∧ 64 * (n + 1) ≤ spentHours (kring s i) then
    { s with fuses := { s.fuses with wear := tset 0 s.fuses.wear i (n + 1) } }
  else s

/-! ### Flat draw (R423, R424) -/

/-- Whether flat draw acts: neither charging nor after mains is lost. -/
def flatActive (s : State) : Bool := s.supply.mains && s.supply.pf == 0 && s.supply.power == 1 && !chargingNow s

/-- A value that the supply measures and the specification does not give, within bounds. -/
def measured (s : State) (lo hi : Nat) : Nat × State :=
  let r := freeWord s
  (lo + r.1.toNat % (hi + 1 - lo), r.2)

/-- The smallest multiple of 8 that is not below `n / d`. -/
def ceilEight (n : Int) (d : Nat) : Int := 8 * ((n + 8 * d - 1) / (8 * d))

/-- The input power that TRACK sets for the next window: mean load and the way back to 70 J, rounded up and clamped. -/
def trackPower (mean buf window : Nat) : Nat :=
  (max 38 (min 280 (ceilEight ((mean * window : Nat) + (70 - (buf : Int)) * 1000) window))).toNat

/-- A TRACK window ends: what it took from the buffer or gave to it, the limits of R424, and the next window's power. -/
def flatBoundary (s : State) (mean : Nat) : State :=
  let w := fldGet s .pwrFlat 0 47 32
  if fldGet s .pwrFlat 0 63 60 ≠ 1 ∨ !flatActive s then s
  else
    let e : Int := bufNow s + ((s.supply.pin : Int) - mean) * w / 1000
    let buf := (max 40 (min 100 e)).toNat
    let full := decide (100 ≤ e) && decide (mean < s.supply.pin)
    let low := decide (e ≤ 40) && decide (s.supply.pin < mean)
    let c := measured s 550 950
    let floor := (List.range 16).all (fun i => (kring s i).rail == 550)
    let s := if low then c.2 else s
    let s := modSupply s (fun x => { x with
      buf := buf, bufAt := s.now, charging := false, ballast := full, shed := low
      shedCeil := if low then (if x.shed then min x.shedCeil c.1 else c.1) else 950
      pin := if low && floor then mean else trackPower mean buf w })
    if low && floor then pwrEvt s 7 else s

/-- A write of PWR_FLAT by partition 0: reserved values keep what the register holds (R13); FIXED sets the input power, and
OFF leaves it to the load, which the specification does not give. -/
def flatWrite (s : State) (p : Nat) (v : Word) : State :=
  if p ≠ 0 then s
  else
    let old := regGet s .pwrFlat 0
    let v := keepField old v 63 60 (fun m => decide (m < 3))
    let v := keepField old v 47 32 (fun w => decide (1 ≤ w ∧ w ≤ 10000))
    let v := keepField old v 19 8 (fun x => decide (38 ≤ x ∧ x ≤ 280))
    let s := plainWrite s .pwrFlat 0 v
    match fld v 63 60 with
    | 2 => if flatActive s then modSupply s (fun x => { x with pin := fld v 19 8 }) else s
    | 0 => let r := measured s 0 280; modSupply r.2 (fun x => { x with pin := r.1 })
    | _ => s

/-! ### REST and DOZE (R432 to R434) -/

/-- Whether a thread lets its cylinder rest. -/
def restful (th : Thread) : Bool :=
  (th.st == .none || th.st == .halt || th.st == .wait || th.st == .frozen) && flyOf th == 0 && th.sbuf == []

/-- A cylinder enters REST: every thread stopped, nothing in flight, every store buffer empty. -/
def restEnter (s : State) (c : Nat) : State :=
  if running s ∧ !(cyl s c).rest ∧ (List.range 16).all (fun i => restful (thr s (16 * c + i))) then modCyl s c (fun x => { x with rest := true })
  else s

/-- A cylinder leaves REST on an event that makes a thread READY, an item, a knock, or turn work. -/
def restLeave (s : State) (c : Nat) : State := if (cyl s c).rest then settle (modCyl s c (fun x => { x with rest := false })) else s

/-- The channels of a keyring's two DMA engines (entry 25 of the log). -/
def krChans (k : Nat) : List Nat := (List.range 32).map (fun i => 32 * k + i)

/-- A keyring enters DOZE: its engines and its blank are gated. -/
def dozeEnter (s : State) (k : Nat) : State :=
  let cyls := (List.range 8).map (fun i => 8 * k + i)
  let idle :=
    cyls.all (fun c => (cyl s c).rest || (List.range 4).all (fun q => kcQuad s.kc (4 * c + q) == nobody)) &&
    (List.range 9).all (fun e => (eng s (9 * k + e)).queue == []) &&
    (krChans k).all (fun c => (chan s c).state != 1) &&
    (List.range 128).all (fun i => (thr s (128 * k + i)).arch.ops.all (fun o => match o.kind with | .blank _ _ => false | _ => true)) &&
    (kring s k).walks == 0
  if running s && !(kring s k).doze && idle then modKr s k (fun x => { x with doze := true, gated := true }) else s

/-- A keyring leaves DOZE: its engines and its blank are ungated. -/
def dozeLeave (s : State) (k : Nat) : State :=
  if (kring s k).doze then settle (modKr s k (fun x => { x with doze := false, gated := false })) else s

/-- A write of CYL_IDLE_T by partition 0 (R432, R13). -/
def idleWrite (s : State) (p : Nat) (v : Word) : State :=
  if p ≠ 0 then s
  else
    let old := regGet s .cylIdleT 0
    let v := keepField old v 31 16 (fun d => decide (10 ≤ d ∧ d ≤ 60000))
    plainWrite s .cylIdleT 0 (keepField old v 15 0 (fun d => decide (1 ≤ d ∧ d ≤ 10000)))

/-! ### Registers (R446) -/

/-- PWR_STAT: the mains voltage and the input power read 0 while the mains is absent. -/
def pwrStatWord (s : State) : Word :=
  let x := s.supply
  w64 ((if x.mains then x.vin else 0) * 2 ^ 52 + (if x.mains then x.pin else 0) * 2 ^ 40 + bufNow s * 2 ^ 32 + x.pf * 2 ^ 8 +
    b2n x.mains * 16 + b2n x.ballast * 32 + b2n x.shed * 64 + b2n (chargingNow s) * 128)

/-- PWR_KR of a keyring. -/
def pwrKrWord (s : State) (i : Nat) : Word :=
  let k := kring s i
  w64 (k.rail * 2 ^ 52 + k.ceil * 2 ^ 40 + k.speed % 4096 * 2 ^ 28 + (max 0 (k.temp + 64)).toNat % 256 * 2 ^ 20 +
    (if k.hold then 2 else if k.doze then 1 else 0) * 2 ^ 12 +
    b2n k.learn * 16 + b2n k.thermFlag * 32 + b2n k.wearFlag * 64 + b2n k.shedFlag * 128)

/-- PWR_WEAR of a keyring. -/
def pwrWearWord (s : State) (i : Nat) : Word :=
  let k := kring s i
  w64 (spentHours k % 2 ^ 24 * 2 ^ 40 + unsignedOf 20 (balHours k) * 2 ^ 20 + tget 0 s.fuses.wear i % 4096 * 2 ^ 8 + b2n k.exhausted)

/-! ### The rows -/

/-- FLAT_WINDOW_BOUNDARY (R423). -/
def execFlatWindowBoundary (meanLoad : Nat) (s : State) : Host.Outcome State Fault Refusal := .next (flatBoundary s meanLoad)
/-- GOVERNOR_TICK (R425). -/
def execGovernorTick (k : Fin 16) (demand : Nat) (temp : Int) (ro : Nat) (s : State) : Host.Outcome State Fault Refusal :=
  .next (settle (governorTick s k demand temp ro))
/-- LEDGER_RECORD (R429). -/
def execLedgerRecord (s : State) : Host.Outcome State Fault Refusal := .next (ledgerHour s)
/-- WEAR_FUSE_BLOW (R429). -/
def execWearFuseBlow (k : Fin 16) (s : State) : Host.Outcome State Fault Refusal := .next (blowWear s k)
/-- LEARNING_END (R430). -/
def execLearningEnd (k : Fin 16) (s : State) : Host.Outcome State Fault Refusal := .next (learningEnd s k)
/-- REST_ENTRY (R432). -/
def execRestEntry (c : Fin 128) (s : State) : Host.Outcome State Fault Refusal := .next (restEnter s c)
/-- REST_EXIT (R432). -/
def execRestExit (c : Fin 128) (s : State) : Host.Outcome State Fault Refusal := .next (restLeave s c)
/-- DOZE_ENTRY (R434). -/
def execDozeEntry (k : Fin 16) (s : State) : Host.Outcome State Fault Refusal := .next (dozeEnter s k)
/-- DOZE_EXIT (R434). -/
def execDozeExit (k : Fin 16) (s : State) : Host.Outcome State Fault Refusal := .next (dozeLeave s k)
/-- CYL_IDLE_T (R432). -/
def execCylIdleT (p : Fin 256) (v : Word) (s : State) : Host.Outcome State Fault Refusal := .next (idleWrite s p v)

end Sys2Proof.Machine
end

