-- ==== Sys2Proof/Machine/Seals.lean ====
section
/-! DEFINITION. Seals of the audit log, the FINAL seal that closes an epoch, and attestation reports (R465 to R472). -/

namespace Sys2Proof.Machine

/-- LC_ID (R5). -/
def lcIdNat (s : State) : Nat := 0x71280E108104B000 + s.fuses.grade * 16 + s.fuses.lcs

/-! ### The trailer (R468) -/

/-- The length of a seal trailer. -/
def trailerLen : Nat := 2496 + 2420

/-- SHA3-256 of the EXGUARD section in force; 0 for the default policy. -/
def policyDigest (kc : Keycut) : Bytes := match exg kc with | some b => sha256 b | none => zeros 32
/-- SHA3-256 of the officer set in force; 0 for none (R320). -/
def officerDigest (kc : Keycut) : Bytes := if (sect? kc 0xC).isSome then sha256 (officerSet kc) else zeros 32

/-- Whether a trailer made now is UNSIGNED (R469). -/
def unsignedNow (s : State) : Bool := s.fuses.lcs == 1 || s.fuses.lcs == 9 || s.keeper.breach || !s.keeper.identity

/-- Bytes 0 to 2,495 of a trailer: `n` records sealed, or the unexported tail covered. -/
def trailerHead (s : State) (final : Bool) (n : Nat) : Bytes :=
  let last := s.audit.nextSeq - 1
  ascii "ASEL" ++ leBytes 2 1 ++ [byte (b2n final + 2 * b2n (unsignedNow s)), byte s.fuses.lcs] ++ leBytes 4 s.fuses.epoch ++ zeros 4 ++
    leBytes 8 (s.audit.sealNo + 1) ++ leBytes 8 (last + 1 - n) ++ leBytes 8 last ++ s.audit.head ++ leBytes 8 s.turns.num ++
    leBytes 8 s.ks.ksTurn ++ leBytes 4 s.kc.serial ++ leBytes 4 (polSerial s.kc) ++ padTo 32 s.kc.digest ++ policyDigest s.kc ++
    officerDigest s.kc ++
    (List.range 16).flatMap (fun i => leBytes 8 (spentHours (kring s i)) ++ leBytes 8 (unsignedOf 64 (balHours (kring s i)))) ++
    (List.range 16).flatMap (fun i => padTo 128 (kring s i).history)

/-- A whole trailer: signed under the identity key, or 0 where it is UNSIGNED. -/
def trailer (s : State) (final : Bool) (n : Nat) : Bytes × State :=
  let h := trailerHead s final n
  if unsignedNow s then (h ++ zeros 2420, s)
  else
    let g := identitySign s (ascii "EVG-SEAL") (sha256 h)
    match g.1 with
    | some sig => (h ++ padTo 2420 sig, g.2)
    | none => let r := freeBytes g.2 2420; (h ++ r.1, r.2)

/-! ### Seals (R468, R471) -/

/-- The audit store changed. -/
def modAudit (s : State) (f : Audit → Audit) : State := { s with audit := f s.audit }

/-- A seal that begins: every record in the tail, and the trailer; none when the buffer's translation faults. -/
def beginSeal (s : State) (va : Nat) (final : Bool) : Option State :=
  let n := s.audit.tail.length
  match if va % 128 = 0 then accOk (unitAccess s 0 va (2 * (128 * n + trailerLen)) 3) else none with
  | none => none
  | some ps =>
    let s := if final then blowEpoch s else s
    let t := trailer s final n
    some (modAudit t.2 (fun a => { a with sealing := some (n, final, ps, s.audit.tail.flatMap recBytes ++ t.1) }))

/-- A write of KEEP_ASEAL with a MODE by partition 0: #1 a seal, #2 the FINAL seal, which only power-fail in KEYED or LOCKED
admits. No seal begins while one runs, or after the FINAL seal. -/
def sealWrite (s : State) (p : Nat) (va : VAddr) (final : Bool) : State :=
  if p ≠ 0 then s
  else
    let s := fldSet s .keepAseal 0 55 0 va.toNat
    let admitted := s.audit.sealing.isNone && !s.audit.finalMade &&
      (!final || (s.supply.pf == 2 && (s.fuses.lcs == 5 || s.fuses.lcs == 7) && decide (s.fuses.epoch < 16384)))
    if !admitted then modAudit s (fun a => { a with result := 4 })
    else match beginSeal s va.toNat final with
    | none => modAudit s (fun a => { a with result := 2 })
    | some s => s

/-- A seal's end: the buffer is written, the tail entries are freed, and a SEAL record is appended. -/
def sealDone (s : State) : State :=
  match s.audit.sealing with
  | none => s
  | some (n, final, ps, b) =>
    let last := leAt b (128 * n + 32) 8
    let s := storeBytes s ps b
    let s := modAudit s (fun a => { a with
      tail := a.tail.drop n, sealing := none, result := 1, sealNo := a.sealNo + 1, finalMade := a.finalMade || final })
    audit s 4 0xFF 0x13 (leBytes 8 s.audit.sealNo ++ leBytes 8 last ++ [byte (b2n final)])

/-- The device's own FINAL, when OFF is entered from KEYED or LOCKED without one: an epoch fuse, and the trailer sent twice
as four datagrams to the destination in KEEP_FIN. -/
def deviceFinal (s : State) : State :=
  if !(s.fuses.lcs == 5 || s.fuses.lcs == 7) || s.audit.finalMade || decide (16384 ≤ s.fuses.epoch) then s
  else
    let s := blowEpoch s
    let t := trailer s true s.audit.tail.length
    let w := regGet t.2 .keepFin 0
    if w = 0 then t.2
    else
      let one := fun (s : State) => (List.range 4).foldl (fun s i =>
        emit s (.datagram (fld w 31 0) (fld w 63 48) (ascii "EVFN" ++ [byte i, 4, 0, 0] ++ slice t.1 (1232 * i) 1232))) s
      one (one t.2)

/-! ### Attestation (R466) -/

/-- Bytes 0 to 359 of a report. -/
def reportHead (s : State) (nonce : Bytes) : Bytes :=
  let img := fun (k : Nat) => match s.boot.images.find? (fun i => i.kind == k) with | some i => padTo 32 i.digest | none => zeros 32
  ascii "EVAT" ++ leBytes 2 1 ++ [0, 0] ++ leBytes 8 (lcIdNat s) ++ nonce ++
    sha256 (identityPk s) ++ padTo 32 s.kc.digest ++ leBytes 4 s.kc.serial ++ leBytes 4 (polSerial s.kc) ++
    img 1 ++ img 2 ++ img 3 ++ img 4 ++ leBytes 2 s.fuses.svn ++ [0, 0] ++ leBytes 4 s.fuses.epoch ++ leBytes 8 s.turns.num ++
    leBytes 8 s.now ++ [byte (tbFlags s), 0, 0, 0] ++ leBytes 4 (fldGet s .tbStatus 0 63 32) ++ faultSummary s ++ s.audit.head ++
    leBytes 8 (s.audit.nextSeq - 1) ++ zeros 8

/-- STATUS of a partition's bank of KEEP_ATTEST. -/
def attestStatus (s : State) (p : Nat) : Nat := if p = 0 then s.req.attest0 else s.req.attest1
/-- STATUS set. -/
def setAttest (s : State) (p st : Nat) : State :=
  { s with req := if p = 0 then { s.req with attest0 := st } else { s.req with attest1 := st } }

/-- A write of KEEP_ATTEST: NOID without an identity key, XLATE where the buffer faults; one that runs is not disturbed. -/
def attestWrite (s : State) (p : Nat) (va : VAddr) : State :=
  if 1 < p ∨ attestStatus s p = 1 then s
  else
    let s := { s with req := if p = 0 then { s.req with attestVa0 := va } else { s.req with attestVa1 := va } }
    if !s.keeper.identity then setAttest s p 5
    else match accOk (unitAccess s p va.toNat (2 * 2780) 3), accOk (unitAccess s p va.toNat (2 * 2780) 2) with
    | some ws, some rs =>
      let s := setAttest s p 1
      { s with req := { s.req with attestPieces := s.req.attestPieces ++ [(p, ws, slice (readBytes s rs) 16 32)] } }
    | _, _ => setAttest s p 3

/-- The oldest report is signed and written. -/
def attestDone (s : State) : State :=
  match s.req.attestPieces with
  | [] => s
  | (p, ps, nonce) :: rest =>
    let s := { s with req := { s.req with attestPieces := rest } }
    let h := reportHead s nonce
    let g := identitySign s (ascii "EVG-ATTEST") (sha256 h)
    let r := match g.1 with | some sig => (padTo 2420 sig, g.2) | none => freeBytes g.2 2420
    setAttest (storeBytes r.2 ps (h ++ r.1)) p 2

/-- KEEP_ATTEST of a bank. -/
def attestWord (s : State) (p : Nat) : Word :=
  w64 (attestStatus s p * 2 ^ 60 + (if p = 0 then s.req.attestVa0 else s.req.attestVa1).toNat)

/-- KEEP_ASTAT. -/
def astatWord (s : State) : Word := w64 (s.audit.tail.length * 2 ^ 48 + b2n s.audit.sealing.isSome * 16 + s.audit.result)

/-! ### The rows -/

/-- AUDIT_SEAL (R468). -/
def execAuditSeal (p : Fin 256) (va : BitVec 56) (s : State) : Host.Outcome State Fault Refusal := .next (sealWrite s p va false)
/-- FINAL_SEAL (R471). -/
def execFinalSeal (p : Fin 256) (va : BitVec 56) (s : State) : Host.Outcome State Fault Refusal := .next (sealWrite s p va true)
/-- SEAL_DONE (R468). -/
def execSealDone (s : State) : Host.Outcome State Fault Refusal := .next (sealDone s)
/-- KEEP_ATTEST (R466). -/
def execKeepAttest (p : Fin 256) (va : BitVec 56) (s : State) : Host.Outcome State Fault Refusal := .next (attestWrite s p va)
/-- ATTEST_DONE (R466). -/
def execAttestDone (s : State) : Host.Outcome State Fault Refusal := .next (attestDone s)

end Sys2Proof.Machine
end

