-- ==== Sys2Proof/Machine/Boot.lean ====
section
/-! DEFINITION. Bringing the lockcase up (R490 to R508): the bundle and its checks, the steps, warm boots, and the sealed
key-store image. -/

namespace Sys2Proof.Machine

/-- The boot's registers changed. -/
def modBoot (s : State) (f : Boot → Boot) : State := { s with boot := f s.boot }

/-! ### The bundle (R492) -/

/-- A bundle's item. -/
structure BItem where
  ty : Nat
  seq : Nat
  off : Nat
  len : Nat
  deriving DecidableEq, Repr

/-- The largest bundle. -/
def bundleMax : Nat := 134217728
/-- NITEM. -/
def bundleCount (b : Bytes) : Nat := leAt b 6 2
/-- TOTAL. -/
def bundleTotal (b : Bytes) : Nat := leAt b 8 4
/-- One item's directory entry. -/
def bundleItem (b : Bytes) (i : Nat) : BItem where
  ty := leAt b (16 + 16 * i) 2
  seq := leAt b (18 + 16 * i) 2
  off := leAt b (20 + 16 * i) 4
  len := leAt b (24 + 16 * i) 4
/-- The listed items. -/
def bundleItems (b : Bytes) : List BItem := (List.range (min 64 (bundleCount b))).map (bundleItem b)
/-- An item's bytes. -/
def itemBytes (b : Bytes) (i : BItem) : Bytes := slice b i.off i.len
/-- The item of a TYPE. -/
def itemOf (b : Bytes) (ty : Nat) : Option Bytes := ((bundleItems b).find? (fun i => i.ty == ty)).map (itemBytes b)

/-- A delta item put in ascending SEQ. -/
def insertSeq (x : BItem) : List BItem → List BItem
  | [] => [x]
  | y :: ys => if x.seq ≤ y.seq then x :: y :: ys else y :: insertSeq x ys
/-- The keycut deltas of a bundle in ascending SEQ. -/
def bundleDeltas (b : Bytes) : List Bytes := (((bundleItems b).filter (fun i => i.ty == 0x11)).foldr insertSeq []).map (itemBytes b)

/-- Whether two items share a byte. -/
def itemsClash (x y : BItem) : Bool := decide (x.off < y.off + y.len) && decide (y.off < x.off + x.len)
/-- Whether each pair of a list is free of a conflict. -/
def pairwiseOk (l : List BItem) (bad : BItem → BItem → Bool) : Bool :=
  (List.range l.length).all (fun i => (List.range i).all (fun j =>
    match l[i]?, l[j]? with
    | some x, some y => !bad x y
    | _, _ => true))
/-- The items that every bundle holds. -/
def itemsRequired : List Nat := [1, 2, 3, 4, 0x10]
/-- The item types that there are. -/
def itemTypes : List Nat := [1, 2, 3, 4, 0x10, 0x11, 0x20, 0x21, 0x22]

/-- The first sixteen bytes of a header. -/
def bundleStartOk (b : Bytes) : Bool :=
  b.take 4 == ascii "EVBB" && leAt b 4 2 == 1 && decide (1 ≤ bundleCount b ∧ bundleCount b ≤ 64) && decide (bundleTotal b ≤ bundleMax) &&
    decide (16 + 16 * bundleCount b ≤ bundleTotal b) && leAt b 12 4 == 0

/-- Whether a bundle's header keeps its rules. -/
def bundleOk (b : Bytes) : Bool :=
  let l := bundleItems b
  bundleStartOk b && b.length == bundleTotal b &&
    (List.range (bundleCount b)).all (fun i => zeroAt b (28 + 16 * i) 4) &&
    l.all (fun i => itemTypes.contains i.ty && i.off % 64 == 0 && decide (16 + 16 * bundleCount b ≤ i.off) &&
      decide (i.off + i.len ≤ bundleTotal b)) &&
    pairwiseOk l (fun x y => (x.ty == y.ty && (x.ty != 0x11 || x.seq == y.seq)) || itemsClash x y) &&
    itemsRequired.all (fun t => l.any (fun i => i.ty == t)) &&
    l.all (fun i => (i.ty != 1 || decide (i.len ≤ 3145728)) && (i.ty != 2 || decide (i.len ≤ 49152)))

/-! ### Firmware (R463, R464) -/

/-- Whether an image of a KIND is accepted. -/
def imageOk (s : State) (kind : Nat) (b : Bytes) : Bool :=
  b.take 4 == ascii "EVFW" && leAt b 4 1 == kind && leAt b 5 1 == 0 && decide (leAt b 6 2 ≤ 1024) &&
    decide (1 ≤ leAt b 8 4 ∧ leAt b 8 4 ≤ 16777216) && zeroAt b 12 4 && zeroAt b 3780 60 && b.length == 3840 + leAt b 8 4 &&
    sha256 (slice b 48 1312) == Config.makerFirmwareDigest &&
    Config.mlDsaVerify 0 (slice b 48 1312) (ascii "EVG-FW") (sha256 (b.take 1360)) (slice b 1360 2420) &&
    sha256 (b.drop 3840) == slice b 16 32 && decide (s.fuses.svn ≤ leAt b 6 2)

/-- Whether the images of some kinds in a bundle are accepted. -/
def imagesOk (s : State) (b : Bytes) (kinds : List Nat) : Bool :=
  kinds.all (fun k => match itemOf b k with | some x => imageOk s k x | none => false)

/-- An image in force. -/
def imageOf (b : Bytes) (k : Nat) : Image :=
  let x := (itemOf b k).getD []
  { kind := k, svn := leAt x 6 2, digest := slice x 16 32 }

/-- A FIRMWARE record for each of some images. -/
def imageRecords (s : State) (b : Bytes) (kinds : List Nat) : State :=
  kinds.foldl (fun s k =>
    let i := imageOf b k
    audit s 4 0xFF 0xA ([byte k] ++ leBytes 2 i.svn ++ i.digest)) s

/-! ### What the sealed audit log records (R470, R471) -/

/-- The checkpoint that a boot continues from. -/
structure Checkpoint where
  serial : Nat
  turn : Nat
  ksTurn : Nat
  exgSer : Nat
  exgDig : Bytes
  offDig : Bytes
  deriving DecidableEq, Repr

/-- The checkpoint of a trailer. -/
def trailerPoint (b : Bytes) : Checkpoint where
  serial := leAt b 88 4
  turn := leAt b 72 8
  ksTurn := leAt b 80 8
  exgSer := leAt b 92 4
  exgDig := slice b 128 32
  offDig := slice b 160 32

/-- The checkpoint of the current instant, on the retention rail. -/
def presentPoint (s : State) : Checkpoint where
  serial := s.kc.serial
  turn := s.turns.num
  ksTurn := s.ks.ksTurn
  exgSer := polSerial s.kc
  exgDig := policyDigest s.kc
  offDig := officerDigest s.kc

/-- Whether a cold boot needs a trailer: in KEYED and LOCKED with EPOCH above 0 (R471). -/
def needsTrailer (s : State) : Bool := (s.fuses.lcs == 5 || s.fuses.lcs == 7) && decide (0 < s.fuses.epoch)

/-- Whether a trailer is admitted. -/
def trailerOk (s : State) (b : Bytes) : Bool :=
  b.length == trailerLen && b.take 4 == ascii "ASEL" && leAt b 4 2 == 1 && (leAt b 6 1).testBit 0 && !(leAt b 6 1).testBit 1 &&
    leAt b 7 1 == s.fuses.lcs && leAt b 8 4 == s.fuses.epoch && s.keeper.identity &&
    Config.mlDsaVerify 0 (identityPk s) (ascii "EVG-SEAL") (sha256 (b.take 2496)) (slice b 2496 2420)

/-! ### The keycut chain (R320, R323, R497) -/

/-- The chain so far: the keycut, the officer set's digest in force and whether the chain has reached it, and the policy's
SERIAL and digest in force and whether the chain has reached it. -/
structure Chain where
  kc : Keycut
  offDig : Bytes
  offIn : Bool
  exgSer : Nat
  exgDig : Bytes
  exgIn : Bool
  deriving DecidableEq, Repr

/-- An OFFICER section met in the chain: the set recorded, or one that two officers of the set in force counter-sign. A set
before the recorded one is history. -/
def chainOfficer (c : Chain) (x : Bytes) : Option Chain :=
  let d := sha256 (x.take 21120)
  if c.offDig = zeros 32 then some { c with offDig := d, offIn := true }
  else if d = c.offDig then some { c with offIn := true }
  else if !c.offIn then some c
  else if officersOk c.kc x then some { c with offDig := d } else none

/-- An EXGUARD section met in the chain: the policy recorded, one that its officers have approved, or history; with no
record the first is taken as presented. -/
def chainPolicy (c : Chain) (first : Bool) (y : Bytes) : Option Chain :=
  let ser := leAt y 4 4
  if first then some { c with exgSer := ser, exgDig := sha256 y, exgIn := true }
  else if ser = c.exgSer then (if sha256 y = c.exgDig then some { c with exgIn := true } else none)
  else if ser < c.exgSer then (if c.exgIn && c.exgDig != zeros 32 then none else some c)
  else if policyOk c.kc c.exgSer y then some { c with exgSer := ser, exgDig := sha256 y, exgIn := true } else none

/-- The sections of one keycut of the chain against the chain so far, and the keycut with them. -/
def chainTake (s : State) (c : Chain) (first : Bool) (made : Keycut) (secs : List (Nat × Bytes)) : Option Chain :=
  match (match alook secs 0xB with | some y => chainPolicy c first y | none => some c) with
  | none => none
  | some c =>
    match (match alook secs 0xC with | some x => chainOfficer c x | none => some c) with
    | none => none
    | some c => if contentOk s made then some { c with kc := made } else none

/-- One delta of the chain. -/
def chainDelta (s : State) (first : Bool) (c : Chain) (b : Bytes) : Option Chain :=
  let d := deltaOf b
  let serial := if d.kind = 2 then decide (c.kc.serial < d.serial) else decide (c.kc.island < d.serial)
  if formatOk b && signatureOk s b && (d.kind == 2 || d.kind == 3) && d.base == c.kc.serial && serial &&
      d.sections.all (fun x => mayCarry d.kind x.1) then
    chainTake s c first (applyDelta c.kc d) d.sections
  else none

/-- The deltas of the chain in order. -/
def chainDeltas (s : State) (first : Bool) : List Bytes → Chain → Option Chain
  | [], c => some c
  | b :: t, c => match chainDelta s first c b with | some c => chainDeltas s first t c | none => none

/-- The bytes of a keycut's sections other than BLANK: at most 3 MiB fit the store windows (R497). -/
def sectionBytes (kc : Keycut) : Nat := ((kc.sections.filter (fun x => decide (x.1 < 0x20))).map (fun x => x.2.length)).foldl (· + ·) 0

/-- The keycut that a bundle's chain reaches, if the chain is accepted against the checkpoint. -/
def chainOf (s : State) (b : Bytes) (pt : Option Checkpoint) : Option Keycut :=
  match itemOf b 0x10 with
  | none => none
  | some f =>
    let k0 := fullKeycut f
    let c0 : Chain := match pt with
      | some p => {
          kc := k0, offDig := p.offDig, offIn := p.offDig == zeros 32, exgSer := p.exgSer, exgDig := p.exgDig
          exgIn := p.exgDig == zeros 32 }
      | none => { kc := k0, offDig := zeros 32, offIn := true, exgSer := 0, exgDig := zeros 32, exgIn := true }
    if !(formatOk f && kcKind f == 1 && signatureOk s f && decide ((bundleDeltas b).length ≤ 64) &&
        k0.sections.all (fun x => knownType x.1)) then none
    else match chainTake s c0 pt.isNone k0 k0.sections with
    | none => none
    | some c =>
      match chainDeltas s pt.isNone (bundleDeltas b) c with
      | none => none
      | some c =>
        if c.offIn && c.exgIn && decide (sectionBytes c.kc ≤ 3145728) &&
            (match pt with | some p => decide (p.serial ≤ c.kc.serial) | none => true) then some c.kc
        else none

/-! ### The sealed key-store image (R188, R503, R504) -/

/-- The slots of `n` records of an image's body, and its rest; none where the body is short. -/
def imageSlots : Nat → Bytes → Option (List (Nat × List KCopy) × Bytes)
  | 0, b => some ([], b)
  | n + 1, b =>
    let span := leAt b 3 1
    let size := 4 + 64 * span
    if b.length < size ∨ span = 0 ∨ slotMax < leAt b 0 3 + span then none
    else
      let l := copiesOfMsg ((List.range span).map (fun i => slice b (4 + 64 * i) 64))
      match imageSlots n (b.drop size) with
      | some (r, t) => some ((leAt b 0 3, l) :: r, t)
      | none => none

/-- The attempt counters of an image: each takes the restore time as the time of its latest failure (R273). -/
def imageCounters (now : Nat) : Nat → Bytes → List Counter
  | 0, _ => []
  | n + 1, b => { part := leAt b 0 1, tag := w64 (leAt b 8 8), fails := leAt b 1 1 % 16, opened := 0, last := now } :: imageCounters now n (b.drop 24)

/-- The body of an image that authenticates and is of turn `turn`. -/
def openImage (s : State) (turn : Nat) (b : Bytes) : Option Bytes :=
  let n := leAt b 24 4
  if b.length ≠ 64 + n ∨ b.take 4 ≠ ascii "KSIM" ∨ leAt b 4 2 ≠ 1 ∨ leAt b 8 8 ≠ turn then none
  else
    let r := Config.gcmDec (deriveKey s "KSIMG") (slice b 32 12) (b.take 48) (slice b 48 n)
    if r.2 = b.drop (48 + n) then some r.1 else none

/-- The key store and the counter store restored from an image: each slot in all three copies, with a fresh CHK. -/
def restoreImage (s : State) (turn : Nat) (b : Bytes) : Option State :=
  match openImage s turn b with
  | none => none
  | some body =>
    match imageSlots (leAt b 16 4) body with
    | none => none
    | some (l, rest) =>
      if rest.length ≠ 24 * leAt b 20 4 then none
      else
        let s := l.foldl (fun s x => (List.range x.2.length).foldl (fun s i =>
          let c := nth (emptyCopy (x.1 + i)) x.2 i
          let c := sealCopy (x.1 + i) c.mat c.hdr
          putCopies s (x.1 + i) [c, c, c]) s) s
        some { s with
          ks := { s.ks with zeroized := false, ksTurn := turn }
          guard := { s.guard with counters := imageCounters s.now (leAt b 20 4) rest } }

/-- Every live slot read as R184 reads it. -/
def sweepKeys (s : State) : State :=
  (s.ks.slots.map (·.1)).foldl (fun s n => if (slotHdr s n).state = 1 then (readLive s (slotHdr s n).owner n).2 else s) s

/-- The image of one instant (R504, R505). -/
def makeImage (s : State) : Bytes × State :=
  let firsts := (s.ks.slots.map (·.1)).filter (fun n => (slotHdr s n).state == 1 || (slotHdr s n).state == 2)
  let one := fun (n : Nat) =>
    let span := max 1 (slotHdr s n).span
    leBytes 3 n ++ [byte span] ++ (List.range span).flatMap (fun i =>
      let c := oneCopy s (n + i)
      copyBytes (if i = 0 then { c with hdr := slotHdr s n } else c))
  let ctr := fun (c : Counter) => [byte c.part, byte (min 15 (c.fails + c.opened))] ++ zeros 6 ++ wordBytes c.tag ++ leBytes 8 c.last
  let body := firsts.flatMap one ++ s.guard.counters.flatMap ctr
  let r := trngBytes s 12
  let h := ascii "KSIM" ++ leBytes 2 1 ++ [0, 0] ++ leBytes 8 s.ks.ksTurn ++ leBytes 4 firsts.length ++ leBytes 4 s.guard.counters.length ++
    leBytes 4 body.length ++ zeros 4 ++ r.1 ++ zeros 4
  let e := Config.gcmEnc (deriveKey s "KSIMG") (slice h 32 12) h body
  (h ++ e.1 ++ e.2, r.2)

/-! ### Load records (R500) -/

/-- A partition's load base: the first digit of its lowest-numbered DRAM granule. -/
def loadBase (kc : Keycut) (p : Nat) : Option Nat := ((List.range 21504).find? (fun g => kcGran kc g == p)).map (4194304 * ·)

/-- Page-table entries with the load base added to the PA of each valid one. -/
def relocate (base : Nat) : Nat → Bytes → Bytes
  | 0, b => b
  | n + 1, b =>
    if b.length < 8 then b
    else
      let e := w64 (leAt b 0 8)
      (if fbit e 0 then wordBytes (putFld e 43 13 (fld e 43 13 + base / 8192)) else b.take 8) ++ relocate base n (b.drop 8)

/-- One record loaded for one target; none when it would write outside the target's granules. -/
def loadOne (s : State) (p off : Nat) (reloc : Bool) (d : Bytes) : Option State :=
  match loadBase s.kc p with
  | none => none
  | some base =>
    if d = [] then some s
    else if !inGranules s.kc p (base + off) (2 * d.length) then none
    else some { s with mem := memWrite s.mem (base + off) (bytesDigits (if reloc then relocate base (d.length / 8) d else d)) }

/-- One record loaded for each of its targets. -/
def loadEach (s : State) (off : Nat) (reloc : Bool) (d : Bytes) (ps : List Nat) : Option State :=
  ps.foldl (fun o p => o.bind (fun s => loadOne s p off reloc d)) (some s)

/-- The targets of a TARGET code: partition 0, partition 1, or every present tenant; image #3 loads partition 0 alone. -/
def loadTargets (s : State) (kind t : Nat) : Option (List Nat) :=
  if t = 0 then some [0]
  else if kind = 3 then none
  else if t = 1 then some [1]
  else if t = 0xFF then some ((List.range 256).filter (fun p => decide (2 ≤ p) && kcPresent s.kc p))
  else none

/-- The load records of a payload in order. -/
def loadRecords (kind : Nat) : Nat → Bytes → State → Option State
  | 0, _, s => some s
  | n + 1, b, s =>
    if b = [] then some s
    else if b.length < 16 ∨ b.length < 16 + leAt b 4 4 ∨ 1 < leAt b 1 1 ∨ leAt b 2 2 ≠ 0 then none
    else match loadTargets s kind (leAt b 0 1) with
    | none => none
    | some ps =>
      match loadEach s (leAt b 8 8) (leAt b 1 1 == 1) (slice b 16 (leAt b 4 4)) ps with
      | none => none
      | some s => loadRecords kind n (b.drop (16 + leAt b 4 4)) s

/-- The payloads of images #3 and #4 loaded. -/
def loadImages (s : State) (b : Bytes) : Option State :=
  let pay := fun (k : Nat) => ((itemOf b k).getD []).drop 3840
  match loadRecords 3 ((pay 3).length + 1) (pay 3) s with
  | none => none
  | some s => loadRecords 4 ((pay 4).length + 1) (pay 4) s

/-! ### Retirements (R478) -/

/-- One retirement or remap taken over from the fuses. -/
def reRetire (s : State) (cls ix : Nat) : State :=
  match cls with
  | 2 => modEng (setUnit s 2 ix 3) ix (fun e => { e with svc := 0 })
  | 3 => modKr (setUnit s 3 ix 3) (ix / 16) (fun k => { k with retiredWays := (ix % 16) :: k.retiredWays })
  | 4 =>
    if (punit s 4 ix).spares < 64 then modUnit s 4 ix (fun u => { u with state := 4, spares := u.spares + 1 })
    else
      let s := setUnit s 4 ix 3
      { s with ks := { s.ks with banksRetired := if s.ks.banksRetired.contains ix then s.ks.banksRetired else ix :: s.ks.banksRetired } }
  | 5 => { setUnit s 5 ix 4 with faults := { (setUnit s 5 ix 4).faults with intakeSpares := s.faults.intakeSpares + 1 } }
  | 7 => modUnit s 7 ix (fun u => { u with state := 4, spares := 1 })
  | 8 => setLane (setUnit s 8 ix 3) ix 4
  | 9 => domDown (setUnit s 9 ix 3) ix
  | 10 => modKr (setUnit s 10 ix 3) ix (fun k => { k with blankRetired := true })
  | _ => setUnit s cls ix 3

/-- Every retirement kept in the fuses, or on the retention rail until its fuses are blown. -/
def reRetireAll (s : State) : State :=
  let l : List (Nat × Nat) := s.fuses.retire.map (fun n => (n / 4096, n % 4096)) ++ s.faults.fuseDue
  l.foldl (fun s (x : Nat × Nat) => reRetire s x.1 x.2) s

/-! ### The steps (R495) -/

/-- A step begins: LC_BOOT.STEP, and a line on the UART. -/
def bootStep (s : State) (n : Nat) : State := emit (modBoot s (fun b => { b with step := n })) (.uart "BOOT" n 0)

/-- The boot stops at its step (R506). -/
def stopBoot (s : State) (fail : Nat) : State := modBoot s (fun b => { b with fail := fail, stopped := true })

/-- The checkpoint for a boot's chain: a trailer's, the retention rail's, or none. -/
def bootPoint (s : State) (b : Bytes) : Option Checkpoint :=
  if s.boot.kind = 3 then some (presentPoint s)
  else if needsTrailer s then (itemOf b 0x20).map trailerPoint else none

/-- The failure of a bundle up to step 8, with the step; none when it passes (R494, R506). -/
def bundleFails (s : State) (b : Bytes) : Option (Nat × Nat) :=
  if !bundleOk b then some (6, 5)
  else if !imagesOk s b [1, 2] then some (7, 6)
  else if s.boot.kind ≠ 3 ∧ needsTrailer s ∧ !(match itemOf b 0x20 with | some t => trailerOk s t | none => false) then some (8, 8)
  else if (chainOf s b (bootPoint s b)).isNone then some (8, 7)
  else none

/-- The voltage that a keyring's rail starts at from its history: the history's form is not stated, so it is free, in steps of
5 mV from 550 to 950 (R421, R499). -/
def startVolt (s : State) : Nat × State :=
  let v := measured s 110 190
  (5 * v.1, v.2)

/-- A keyring's rail as its history starts it; without one it stays at the start of the learning period. -/
def startRail (s : State) (i : Nat) : State :=
  if (kring s i).history = [] then s
  else
    let v := startVolt s
    modKr v.2 i (fun k => { k with rail := v.1, target := v.1 })

/-- What a trailer gives: the chain of records, the seal number, the ledger and the history (R429, R430, R499, R502). -/
def takeTrailer (s : State) (t : Bytes) : State :=
  let s := modAudit s (fun a => { a with nextSeq := leAt t 32 8 + 1, head := slice t 40 32, sealNo := leAt t 16 8 })
  let s := (List.range 16).foldl (fun s i =>
    let rec_ := leAt t (192 + 16 * i) 8
    let fused := 64 * tget 0 s.fuses.wear i
    let bal := signedOf 64 (leAt t (200 + 16 * i) 8) - (fused - rec_ : Nat)
    let h := slice t (448 + 128 * i) 128
    modKr s i (fun k => { k with
      spent := max fused rec_ * wearHour, granted := (bal + (max fused rec_ : Nat)) * wearHour
      exhausted := decide (wearLife ≤ max fused rec_), history := if allZero h then [] else h, learn := allZero h })) s
  (List.range 16).foldl startRail s

/-- The ledger of a boot without a record: SPENT from the fuses, BAL 0. -/
def takeFuses (s : State) : State :=
  (List.range 16).foldl (fun s i =>
    let fused := 64 * tget 0 s.fuses.wear i
    modKr s i (fun k => { k with
      spent := fused * wearHour, granted := ((fused * wearHour : Nat) : Int), exhausted := decide (wearLife ≤ fused) })) s

/-- A full training of DRAM: its data are free, and so is whether a stack fails it, which stops the boot (R498, R506). -/
def fullTraining (s : State) : State :=
  match Config.trainingData s.free with
  | some d => modBoot { s with free := s.free + 1 } (fun x => { x with train := 1, trainingDram := some d })
  | none => stopBoot { s with free := s.free + 1 } 9

/-- DRAM is trained: from item #0022 or the device records where they authenticate and fit, else in full (R498). -/
def trainDram (s : State) (b : Bytes) : State :=
  let data := if s.boot.kind = 3 then s.boot.trainingDram else itemOf b 0x22
  match data with
  | some d =>
    if d.length ≤ 1048576 ∧ Config.trainingFits (deriveKey s "TRAIN") d then modBoot s (fun x => { x with train := 2, trainingDram := some d })
    else fullTraining s
  | none => fullTraining s

/-- The partitions that start: all present ones, or partition 0 alone after a boot in the quiet state (R485). -/
def startList (s : State) : List Nat :=
  if s.faults.quiet then [0] else (List.range 256).filter (fun p => kcPresent s.kc p)

/-- No keycut. -/
def kcNone : Keycut := { serial := 0, digest := [], island := 0, sections := [] }

/-- The settings of the keycut take their places: QUE_MOD, KSRC of the channels, blanks and their frames, DRBGs. -/
def applySettings (s : State) : State :=
  let s := if (sect? s.kc 0xA).isSome then
      (List.range 1024).foldl (fun s q => fldSet (fldSet s .queMod q 19 8 (kcModTime s.kc q)) .queMod q 7 0 (kcModCnt s.kc q)) s
    else s
  let s := (List.range 512).foldl (fun s c => if kcDmaOwner s.kc c = nobody then s else fldSet s .dmaCtl c 27 16 (kcDmaKsrc s.kc c)) s
  let s := (List.range 16).foldl (fun s k =>
    match kcBlank s.kc k with
    | some b => modKr s k (fun x => { x with blank := some b, frames := slice b (up64 (64 + 16 * leAt b 8 1)) (leAt b 16 4) })
    | none => s) s
  moveDrbgs s kcNone s.kc

/-- Partitions start (R31, R140, R500); a quiet flag kept on the retention rail enters the quiet state again (R485). -/
def startAll (s : State) : State :=
  let s := applySettings s
  let s := (startList s).foldl comePresent s
  let s := assignFree s
  let s := modBoot s (fun b => { b with partsUp := true })
  if s.faults.quiet then enterQuiet { s with faults := { s.faults with quiet := false } } s.faults.cause else s

/-- Steps 9 to 12: DRAM, the TRNG and the arbiters, the key store, the partitions. -/
def bootLater (s : State) (b : Bytes) : State :=
  let s := trainDram (bootStep s 9) b
  if s.boot.stopped then s
  else if !imagesOk s b [3, 4] then stopBoot s 6
  else
    let s := imageRecords (modBoot s (fun x => { x with copy := some b, images := x.images ++ [imageOf b 3, imageOf b 4] })) b [3, 4]
    let s := bootStep s 10
    if s.trngBad then stopBoot s 0xA
    else
      let s := bootStep (seedArbiters s) 11
      let turn := s.ks.ksTurn
      let due := decide (0 < turn) && (s.boot.kind != 3 || s.ks.zeroized)
      match (if due then (match itemOf b 0x21 with | some x => restoreImage s turn x | none => none) else some s) with
      | none => stopBoot s 0xB
      | some s =>
        let s := sweepKeys s
        if s.faults.quietDue.isSome then quietSettle s
        else match loadImages (bootStep s 12) b with
        | none => stopBoot (bootStep s 12) 0xC
        | some s => startAll s

/-- A bundle that has arrived whole: steps 6 to 12. Until step 8 is done every cylinder runs in level mode (R45). -/
def bootRun (s : State) (b : Bytes) : State :=
  match bundleFails s b with
  | some (st, f) => stopBoot (bootStep s st) f
  | none =>
    let pt := bootPoint s b
    match chainOf s b pt with
    | none => stopBoot (bootStep s 8) 7
    | some kc =>
      let s := bootStep (bootStep s 7) 8
      let s := if s.boot.kind = 3 then s
        else if needsTrailer s then takeTrailer s ((itemOf b 0x20).getD []) else takeFuses s
      let n := match pt with | some p => p.turn + 1 | none => 1
      let s := { s with
        kc := kc, kcPrev := kc, turns := { s.turns with num := n }
        ks := { s.ks with ksTurn := match pt with | some p => p.ksTurn | none => 0 } }
      let s := judgeModes s
      let s := audit s 4 0xFF 1 (leBytes 8 (lcIdNat s) ++ leBytes 4 s.fuses.epoch ++ leBytes 2 s.fuses.svn ++ [byte s.boot.kind] ++
        wordBytes s.boot.bootNonce)
      bootLater (imageRecords (modBoot s (fun x => { x with images := [imageOf b 1, imageOf b 2] })) b [1, 2]) b

/-! ### Cold boot (R490, R493, R495, R496) -/

/-- The root from its three shares (R454); a mesh that was broken gives another share, and so no root. -/
def rootOf (s : State) : Option Bytes :=
  if s.fuses.meshHelper ∧ !s.fuses.meshGone then s.fuses.fuseShare.map (fun f => sha256 (Config.meshShare ++ Config.pufShare ++ f)) else none

/-- The root check of a root (R456). -/
def rootCheckOf (root : Bytes) : Word := w64 (leNat (kmac 256 root [] 8 (ascii "EVG-ROOTCHK")))

/-- The life-cycle states in which there is a root. -/
def rootStates : List Nat := [3, 5, 7]
/-- The life-cycle states in which tamper responses are armed (R450). -/
def armStates : List Nat := [3, 5, 7, 9]

/-- LC_NONCE and the boot nonce drawn at a boot (R461, R467). -/
def drawNonces (s : State) : State :=
  let r := trngBytes s 8
  let n := w64 (leNat r.1)
  modBoot r.2 (fun b => { b with lcNonce := n, bootNonce := n })

/-- One range asked of the host. -/
def sendGet (s : State) (off len : Nat) : State :=
  emit (modBoot s (fun b => { b with gets := b.gets ++ [(off, len)] })) (.getReq (!s.boot.hostKnown) off len)

/-- The fetch of a bundle begins. -/
def startFetch (s : State) : State :=
  let s := modBoot s (fun b => { b with gets := [], bundle := [], got := [], total := 0, hostKnown := false, stopped := false, step := 6 })
  sendGet s 0 1024

/-- The root cannot be made: TAMPER is blown, and the boot stops in the quiet state with cause #4 (R453). -/
def rootFails (s : State) : State :=
  stopBoot { blowTamper s with faults := { s.faults with quiet := true, cause := 4 } } 3

/-- Step 4: the root, or its failure, which blows TAMPER and stops the boot in the quiet state (R453). -/
def rootStep (s : State) : State :=
  let s := modKeeper (bootStep s 4) (fun k => { k with armed := armStates.contains s.fuses.lcs })
  if !rootStates.contains s.fuses.lcs then s
  else
    match rootOf s with
    | some r =>
      if rootCheckOf r = s.fuses.rootCheck then modKeeper s (fun k => { k with root := some r, identity := true })
      else rootFails s
    | none => rootFails s

/-- The life-cycle state that a boot begins in: a blown TAMPER fuse makes it SCRAPPED (R7, R451). -/
def bootLcs (f : Fuses) : Fuses := if f.tamper then { f with lcs := 0xF, lcsNext := 0xF } else { f with lcs := f.lcsNext }

/-- What a cold boot begins with: the fuses, and every other field as at reset (R490, R495). -/
def coldBase (s : State) : State :=
  let v := measured s 85 265
  let f := bootLcs s.fuses
  let r := State.reset
  { r with
    pending := s.pending, rdata := s.rdata, free := v.2.free, out := s.out, uartIn := s.uartIn, fuses := f
    supply := { r.supply with power := 1, mains := true, vin := v.1, charging := true }
    keeper := { r.keeper with meshOk := !s.fuses.meshGone, dark := true, railsOk := true }
    boot := { r.boot with kind := if !(f.lcs == 5 || f.lcs == 7) || f.epoch == 0 then 1 else 2 } }

/-- Whether a supply or a rail comes up in time: what it does is not the specification's to say, so it is free (R506). -/
def comesUp (s : State) : Bool × State :=
  let r := freeWord s
  (fld r.1 0 0 == 1, r.2)

/-- Steps 1 and 2 of a cold boot. -/
def standby (s : State) : State := bootStep (bootStep (setHolds (coldBase s)) 1) 2

/-- Steps 3 to 6 of a cold boot, up to its fetch; rails that do not settle stop it at step 5 (R495, R506). -/
def coldFrom (s : State) : State :=
  let s := reRetireAll (bootStep s 3)
  if s.fuses.lcs = 0xF then s
  else
    let s := rootStep s
    if s.boot.stopped then s
    else
      let r := comesUp (bootStep s 5)
      if r.1 then startFetch (drawNonces (bootStep r.2 6)) else stopBoot r.2 4

/-- Mains applied to a module in OFF: the cold boot, which stops at step 2 where the 12 V bus does not come up (R495, R506). -/
def mainsApplied (s : State) : State :=
  if s.supply.power ≠ 0 then s
  else
    let r := comesUp (standby s)
    if r.1 then coldFrom r.2 else stopBoot r.2 1

/-- The next ranges of a bundle asked for, up to 64 outstanding; `fuel` bounds them. -/
def askMore (s : State) : Nat → State
  | 0 => s
  | n + 1 =>
    let b := s.boot
    let next := ((b.gets ++ b.got).map (fun x => x.1 + x.2)).foldl max 0
    if 64 ≤ b.gets.length ∨ b.total ≤ next then s else askMore (sendGet s next (min 1024 (b.total - next))) n

/-- Bytes stored in the bundle. -/
def storeBundle (m : Tab Byte) (off : Nat) : Bytes → Tab Byte
  | [] => m
  | x :: xs => storeBundle (tset 0 m off x) (off + 1) xs

/-- Whether a stopped boot waits for a bundle (R506). -/
def retries (s : State) : Bool := s.boot.stopped && [5, 6, 7, 8, 0xB, 0xC].contains s.boot.fail

/-- An EVBD frame: it answers an outstanding GET, or it is discarded. An answer to a stopped boot restarts it at step 6. -/
def bundleData (s : State) (off len : Nat) (b : Bytes) : State :=
  if !s.boot.gets.contains (off, len) ∨ b.length ≠ len ∨ (s.boot.stopped ∧ !retries s) then s
  else
    let s := if s.boot.stopped then modBoot s (fun x => { x with stopped := false, step := 6, bundle := [], got := [], total := 0 }) else s
    let s := modBoot s (fun x => { x with
      hostKnown := true, gets := x.gets.filter (· != (off, len)), got := x.got ++ [(off, len)], bundle := storeBundle x.bundle off b })
    if off = 0 ∧ !bundleStartOk b then stopBoot (modBoot s (fun x => { x with gets := [] })) 5
    else
      let s := if off = 0 then modBoot s (fun x => { x with total := bundleTotal b, gets := [] }) else s
      let s := askMore s 64
      if s.boot.gets = [] ∧ 0 < s.boot.total then
        bootRun s ((List.range s.boot.total).map (fun i => tget 0 s.boot.bundle i))
      else s

/-! ### Warm boot (R491) -/

/-- What a warm boot keeps: the Keeper, the retention rail, the vault SRAM and counter store, the audit tail, the device
records and the boot copy. -/
def warmBase (s : State) : State :=
  let s := endDebug s
  let r := State.reset
  let f := bootLcs s.fuses
  let keeps := fun (a : Nat) => decide (dramEnd ≤ a)
  let s1 : State := { r with
    pending := s.pending, rdata := s.rdata, free := s.free, tally := s.tally, out := s.out, uartIn := s.uartIn, fuses := f
    mem := s.mem.filter (fun kv => keeps kv.1), poison := s.poison.filter (fun kv => keeps (128 * kv.1))
    krs := (List.range 16).foldl (fun t i =>
      let k := kring s i
      tset krInit t i { krInit with
        rail := k.rail, target := k.target, ceil := k.ceil, temp := k.temp, speed := k.speed, learn := k.learn, samples := k.samples
        spent := k.spent, granted := k.granted, exhausted := k.exhausted, history := k.history }) []
    ks := { s.ks with pool := s.ks.pool.map (fun x => { x with taken := false }), former := [], isSealed := false, quarTimes := [] }
    guard := { s.guard with counters := s.guard.counters }
    kc := s.kc, turns := { r.turns with num := s.turns.num }
    supply := { s.supply with power := 1, pf := 0, buf := bufNow s, bufAt := 0, wakeLatched := none, earlyWake := none, held := [] }
    keeper := { s.keeper with breach := false, armed := armStates.contains f.lcs }
    audit := { s.audit with sealing := none, result := 0, finalMade := false }
    faults := { r.faults with
      fuseDue := s.faults.fuseDue, sinceTurn := s.faults.sinceTurn, dramSpares := s.faults.dramSpares
      quiet := s.faults.quiet, cause := s.faults.cause }
    boot := { r.boot with kind := 3, startTime := s.tally, copy := s.boot.copy, trainingDram := s.boot.trainingDram }
    pins := { r.pins with perstN := s.pins.perstN } }
  let keep := fun (x : State) (g : Reg) => regSet x g 0 (regGet s g 0)
  reRetireAll (setHolds (keep (keep (keep s1 .keepTamp) .keepWcfg) .keepFin))

/-- The root of a warm boot: kept by the Keeper, and drawn up where the new state first has one (R465, R496). -/
def warmRoot (s : State) (breach : Bool) : State :=
  if !rootStates.contains s.fuses.lcs ∨ breach then { s with keeper := { s.keeper with root := none, identity := false, breach := breach } }
  else
    let r := match s.keeper.root with | some x => some x | none => rootOf s
    { s with keeper := { s.keeper with root := r, identity := r.isSome } }

/-- A warm boot from a bundle, by default the boot copy. A SCRAPPED device stops after step 3 (R496). -/
def warmBoot (s : State) (bundle : Option Bytes) : State :=
  let breach := s.keeper.breach
  let s := drawNonces (warmRoot (warmBase s) breach)
  let s := match bundle with | some b => modBoot s (fun x => { x with copy := some b }) | none => s
  if s.fuses.lcs = 0xF then bootStep s 3
  else match s.boot.copy with
  | some b =>
    let r := comesUp (bootStep s 5)
    if r.1 then bootRun (bootStep r.2 6) b else stopBoot r.2 4
  | none => stopBoot (bootStep s 6) 5

/-! ### READY (R501) -/

/-- The lowest SVN among the running images. -/
def lowestSvn (s : State) : Nat := (s.boot.images.map (·.svn)).foldl min 1024

/-- The anti-rollback fuses blown up to the lowest running SVN, with mains present and more than 40 J in the buffer (R464). -/
def advanceSvn (s : State) : State :=
  if s.boot.images.length = 4 ∧ s.fuses.svn < lowestSvn s ∧ s.supply.mains ∧ 40 < bufNow s then
    { s with fuses := { s.fuses with svn := lowestSvn s } }
  else s

/-- READY is asserted when GO has been written, every partition has started, the buffer holds 60 J and no pad group is held. -/
def readyAssert (s : State) : State :=
  if s.boot.go ∧ s.boot.partsUp ∧ !s.boot.stopped ∧ 60 ≤ bufNow s ∧ s.supply.held = [] ∧ s.supply.power = 1 ∧ s.supply.pf ≠ 2 ∧
      !s.faults.quiet ∧ !s.pins.ready then
    let s := modBoot s (fun b => { b with step := 0xD, readyMs := if b.step = 0xD then b.readyMs else min 0xFFFF ((s.tally - s.boot.startTime) / (64 * 10 ^ 6)) })
    advanceSvn (setHolds { s with pins := { s.pins with ready := true } })
  else s

/-! ### LC_BOOT (R491, R494, R508) -/

/-- Whether LC_BOOT takes an ACT other than GO: partition 0's, and no request outstanding. -/
def bootFree (s : State) (p : Nat) : Bool := p == 0 && s.boot.wstat != 1 && s.boot.wstat != 3

/-- ACT #2: a warm boot, after any turn commit. -/
def warmWrite (s : State) (p : Nat) : State :=
  if !bootFree s p then s
  else if s.turns.commit.isSome ∨ s.westad.agree.isSome then modBoot s (fun b => { b with wstat := 3, warmDue := true })
  else warmBoot s none

/-- The bytes of a bundle in partition 0's memory; none where its translation faults or its TOTAL is out of range. -/
def bundleAt (s : State) (va : Nat) : Option Bytes :=
  match accOk (unitAccess s 0 va 32 2) with
  | none => none
  | some h =>
    let n := bundleTotal (readBytes s h)
    if n < 16 ∨ bundleMax < n then none
    else match accOk (unitAccess s 0 va (2 * n) 2) with
    | some ps => if poisoned s ps then none else some (readBytes s ps)
    | none => none

/-- A bundle is checked through step 8; the device warm-boots with it, or goes on unchanged (R494). -/
def warmFromBundle (s : State) : State :=
  let no := fun (f : Nat) => modBoot s (fun b => { b with wstat := 2, fail := f })
  match bundleAt s (fldGet s .lcBundle 0 55 0) with
  | none => no 5
  | some b =>
    match bundleFails (modBoot s (fun x => { x with kind := 3 })) b with
    | some (_, f) => no f
    | none => warmBoot s (some b)

/-- ACT #3: a warm boot with the bundle at LC_BUNDLE, after any turn commit. -/
def warmBundleWrite (s : State) (p : Nat) : State :=
  if !bootFree s p then s
  else if s.turns.commit.isSome ∨ s.westad.agree.isSome then modBoot s (fun b => { b with wstat := 3, warmDue := true, warmBundle := true })
  else warmFromBundle s

/-- A warm boot that waited for a turn commit takes effect when the commit has ended (R491). -/
def warmSettle (s : State) : State :=
  if s.boot.warmDue ∧ s.turns.commit.isNone ∧ s.westad.agree.isNone then
    let r := modBoot s (fun b => { b with wstat := 0, warmDue := false, warmBundle := false })
    if s.boot.warmBundle then warmFromBundle r else warmBoot r none
  else s

/-- ACT #4: the training data, with their length before them. -/
def exportTraining (s : State) (p : Nat) : State :=
  if !bootFree s p then s
  else
    let d := s.boot.trainingDram.getD []
    match accOk (unitAccess s 0 (fldGet s .lcBundle 0 55 0) (2 * (4 + d.length)) 3) with
    | some ps => storeBytes s ps (leBytes 4 d.length ++ d)
    | none => s

/-- LC_BOOT. -/
def lcBootWord (s : State) : Word :=
  let b := s.boot
  w64 (b.kind * 2 ^ 56 + b.step * 2 ^ 52 + b.train * 2 ^ 48 + b.fail * 2 ^ 40 + b.wstat * 2 ^ 32 + b.readyMs * 2 ^ 16)

/-! ### Exports and the end of a stopped boot (R505, R506) -/

/-- A write of KS_IMG with ACT #1 by partition 0: the image of this instant; a sealed store exports none (R483). -/
def ksImgWrite (s : State) (p : Nat) (va : VAddr) : State :=
  if p ≠ 0 ∨ s.req.ksStat = 1 then s
  else
    let s := { s with req := { s.req with ksVa := va } }
    if s.ks.isSealed then { s with req := { s.req with ksStat := 4 } }
    else
      let r := makeImage s
      match accOk (unitAccess s 0 va.toNat (2 * r.1.length) 3) with
      | none => { s with req := { s.req with ksStat := 3 } }
      | some ps => { r.2 with req := { r.2.req with ksStat := 1, ksPieces := ps, ksImage := r.1 } }

/-- The image's end. -/
def ksImgDone (s : State) : State :=
  if s.req.ksStat = 1 then
    let s := storeBytes s s.req.ksPieces s.req.ksImage
    { s with req := { s.req with ksStat := 2, ksPieces := [], ksImage := [] } }
  else s

/-- KS_IMG. -/
def ksImgWord (s : State) : Word := w64 (s.req.ksStat * 2 ^ 56 + s.req.ksVa.toNat)

/-- A stopped boot reports every 5 s: a STATUS frame, a line, and for a failure that waits for a bundle a GET. -/
def failReport (s : State) : State :=
  if !s.boot.stopped then s
  else
    let s := emit (emit s (.status s.boot.step s.boot.fail)) (.uart "FAIL" s.boot.step s.boot.fail)
    if retries s then sendGet (modBoot s (fun b => { b with gets := [], hostKnown := false })) 0 1024 else s

/-- KEEP_QUIET ACT #2: refused with a reason, or a warm boot out of the quiet state (R486). -/
def quietExit (s : State) (p : Nat) : State :=
  if p ≠ 0 then s
  else
    let r := exitRefusal s
    if r ≠ 0 then { s with faults := { s.faults with reason := r } }
    else
      let s := audit s 0 0xFF 0xD (leBytes 2 s.faults.cause)
      warmBoot { s with faults := { s.faults with quiet := false } } none

/-! ### The rows -/

/-- MAINS_APPLIED (R495). -/
def execMainsApplied (s : State) : Host.Outcome State Fault Refusal := .next (mainsApplied s)
/-- BUNDLE_DATA (R493). -/
def execBundleData (offset length : Nat) (bytes : List Byte) (s : State) : Host.Outcome State Fault Refusal :=
  .next (quietSettle (bundleData s offset length bytes))
/-- GET_RETRY (R493): the oldest GET without an answer. -/
def execGetRetry (s : State) : Host.Outcome State Fault Refusal :=
  .next (match s.boot.gets with
    | (o, n) :: _ => if s.boot.hostKnown then emit s (.getReq false o n) else s
    | [] => s)
/-- GET_BROADCAST (R493). -/
def execGetBroadcast (s : State) : Host.Outcome State Fault Refusal :=
  .next (if s.boot.step = 6 ∧ !s.boot.hostKnown ∧ !s.boot.stopped ∧ s.boot.gets ≠ [] then emit s (.getReq true 0 1024) else s)
/-- BUNDLE_TIMEOUT (R493). -/
def execBundleTimeout (s : State) : Host.Outcome State Fault Refusal :=
  .next (if s.boot.step = 6 ∧ !s.boot.hostKnown ∧ !s.boot.stopped ∧ s.boot.gets ≠ [] ∧ s.boot.startTime + 64 * 60 * 10 ^ 9 ≤ s.tally then
    stopBoot (modBoot s (fun b => { b with gets := [] })) 5 else s)
/-- BOOT_FAIL_REPORT (R506). -/
def execBootFailReport (s : State) : Host.Outcome State Fault Refusal := .next (failReport s)
/-- READY_ASSERT (R501). -/
def execReadyAssert (s : State) : Host.Outcome State Fault Refusal := .next (readyAssert s)
/-- LC_BOOT_GO (R501). -/
def execLcBootGo (p : Fin 256) (s : State) : Host.Outcome State Fault Refusal :=
  .next (if p.val = 0 then modBoot s (fun b => { b with go := true }) else s)
/-- LC_BOOT_WARM (R491). -/
def execLcBootWarm (p : Fin 256) (s : State) : Host.Outcome State Fault Refusal := .next (quietSettle (warmWrite s p))
/-- LC_BOOT_WARM_BUNDLE (R494). -/
def execLcBootWarmBundle (p : Fin 256) (s : State) : Host.Outcome State Fault Refusal := .next (quietSettle (warmBundleWrite s p))
/-- LC_BOOT_EXPORT_TRAINING (R508). -/
def execLcBootExportTraining (p : Fin 256) (s : State) : Host.Outcome State Fault Refusal := .next (exportTraining s p)
/-- KS_IMG_EXPORT (R505). -/
def execKsImgExport (p : Fin 256) (va : BitVec 56) (s : State) : Host.Outcome State Fault Refusal := .next (ksImgWrite s p va)
/-- KS_IMG_EXPORT_DONE (R505). -/
def execKsImgExportDone (s : State) : Host.Outcome State Fault Refusal := .next (ksImgDone s)
/-- QUIET_EXIT (R486). -/
def execQuietExit (p : Fin 256) (s : State) : Host.Outcome State Fault Refusal := .next (quietSettle (quietExit s p))
/-- SUPPLY_RETRY (R506): the 12 V bus comes up, or does not, after a SUPPLY failure. -/
def execSupplyRetry (up : Bool) (s : State) : Host.Outcome State Fault Refusal :=
  .next (if s.boot.stopped ∧ s.boot.fail = 1 ∧ up then coldFrom (standby s) else s)

end Sys2Proof.Machine
end

