-- ==== Sys2Proof/Machine/CommitRows.lean ====
section
/-! DEFINITION. The commands that can end a turn commit or an agreement, after which a warm boot that waited for it takes
effect (R328, R330, R409, R410, R491). -/

namespace Sys2Proof.Machine

/-- TURN_DRAIN_END (R328). -/
def execTurnDrainEnd (s : State) : Host.Outcome State Fault Refusal := .next (warmSettle (turnDrains s))
/-- TURN_DRAIN_LIMIT (R26, R137, R216). -/
def execTurnDrainLimit (s : State) : Host.Outcome State Fault Refusal := .next (warmSettle (settle (drainLimit s)))
/-- PROPOSE (R409). -/
def execPropose (m : Fin 8) (turn : Nat) (ksd exd : Bytes) (s : State) : Host.Outcome State Fault Refusal :=
  .next (warmSettle (onMessage s m 0 (fun s => proposed s m turn ksd exd)))
/-- VOTE (R409). -/
def execVote (m : Fin 8) (turn : Nat) (yes : Bool) (_reason : Byte) (s : State) : Host.Outcome State Fault Refusal :=
  .next (warmSettle (onMessage s m 0 (fun s => countVote s m turn yes)))
/-- APPLY (R410). -/
def execApply (m : Fin 8) (turn : Nat) (s : State) : Host.Outcome State Fault Refusal :=
  .next (warmSettle (onMessage s m 0 (fun s => match waitingVote s with
    | some (a, _) => if a.turn = turn ∧ a.proposer = m.val then applyAgreed s a else s
    | none => s)))
/-- ABORT (R410). -/
def execAbort (m : Fin 8) (turn : Nat) (s : State) : Host.Outcome State Fault Refusal :=
  .next (warmSettle (onMessage s m 0 (fun s => match s.westad.agree with
    | some a => if a.turn = turn ∧ a.proposer = m.val then abortAgreed s a else s
    | none => s)))
/-- DONE (R410). -/
def execDoneMsg (m : Fin 8) (turn : Nat) (s : State) : Host.Outcome State Fault Refusal :=
  .next (warmSettle (onMessage s m 0 (fun s => countDone s m turn)))
/-- STATE (R410). -/
def execStateMsg (m : Fin 8) (turn : Nat) (outcome : Byte) (s : State) : Host.Outcome State Fault Refusal :=
  .next (warmSettle (onMessage s m 0 (fun s => learnState s m turn outcome.toNat)))
/-- QUERY_OUTCOME_TIMEOUT (R410). -/
def execQueryOutcomeTimeout (s : State) : Host.Outcome State Fault Refusal :=
  .next (warmSettle (match waitingVote s with
    | some (a, _) =>
      match a.queried with
      | some q =>
        if q + kcDrain s.kc ≤ s.now ∧ reachable s ≠ [] ∧ (reachable s).all (fun m => a.unknown.contains m) then abortAgreed s a else s
      | none => s
    | none => s))

end Sys2Proof.Machine
end

