-- ==== Sys2Proof/Machine/DrbgJobs.lean ====
section
/-! DEFINITION. The DRBG engine's operations (R242). -/

namespace Sys2Proof.Machine

/-- Whether a generate can be made: it needs no TRNG, or the TRNG is healthy. -/
def generateOk (c : Ctx) (s : State) : Bool := !needsTrng s (c.e / 9) c.p c.d.pr || !s.trngBad

/-- Generate to OUT. -/
def opDrbgGenerate : OpDef :=
  { opPlain (fun d => d.inLen == 0 && decide (1 ≤ d.outLen) && decide (d.outLen ≤ 65536)) (fun c s =>
      let r := drbgDraw s (c.e / 9) c.p c.d.outLen c.d.pr
      (resOk r.1, r.2)) with
    useIn := false, entropy := generateOk }

/-- Reseed. -/
def opDrbgReseed : OpDef :=
  { opPlain (fun _ => true) (fun c s => (resOk [], reseed s (c.e / 9) c.p)) with
    useIn := false, outMode := fun _ => 0, entropy := fun _ s => !s.trngBad }

/-- Generate a key of type KT. -/
def opDrbgKey : OpDef :=
  { opPlain secretKt (fun c s =>
      let r := drbgDraw s (c.e / 9) c.p (matLen c.d.kt) c.d.pr
      (resKey c.d.kt (padTo (matLen c.d.kt) r.1) [], r.2)) with
    useIn := false, outMode := fun _ => 0, dest := fun d => some (d.kt, spanFor (matLen d.kt)), entropy := generateOk }

/-- DRBG_GENERATE (#8100). -/
def execDrbgGenerate (e : Fin 144) (s : State) : Host.Outcome State Fault Refusal := .next (quietSettle (startJob s e 0x8100 opDrbgGenerate))
/-- DRBG_RESEED (#8110). -/
def execDrbgReseed (e : Fin 144) (s : State) : Host.Outcome State Fault Refusal := .next (quietSettle (startJob s e 0x8110 opDrbgReseed))
/-- DRBG_GENERATE_KEY (#8120). -/
def execDrbgGenerateKey (e : Fin 144) (s : State) : Host.Outcome State Fault Refusal := .next (quietSettle (startJob s e 0x8120 opDrbgKey))
/-- DRBG_AUTO_RESEED (R242): a DRBG that has made 2^20 generate requests reseeds. -/
def execDrbgAutoReseed (k : Fin 16) (p : Fin 256) (s : State) : Host.Outcome State Fault Refusal :=
  .next (if (drbgOf s k p).live && decide (reseedLimit ≤ (drbgOf s k p).count) && !s.trngBad then reseed s k p else s)

end Sys2Proof.Machine
end

