-- ==== Sys2Proof/Machine/Supply.lean ====
section
/-! DEFINITION. Loss and return of the mains, power-fail, and WATCH: the request, the entry, the wake events and the exit
(R416 to R420, R435 to R441). -/

namespace Sys2Proof.Machine

/-! ### OFF (R420, R441) -/

/-- OFF: everything but the fuses is lost. -/
def powerOff (s : State) : State :=
  { State.reset with
    pending := s.pending, rdata := s.rdata, free := s.free, fuses := s.fuses, out := s.out, uartIn := s.uartIn }

/-- A POWER record: #1 power-fail entered, #2 a warm boot follows, #3 OFF follows. -/
def powerRecord (s : State) (n : Nat) : State := audit s 4 0xFF 0x11 [byte n]

/-- A time of `n` milliseconds on the Keeper's count. -/
def tallyMs (n : Nat) : Nat := 64 * 10 ^ 6 * n

/-- READY low, and every HOLD_N with it (R301). -/
def readyLow (s : State) : State := setHolds { s with pins := { s.pins with ready := false } }

/-! ### Mains (R416, R419) -/

/-- The mains is judged absent: the device runs on from its buffer, which no longer charges. In WATCH nothing else changes. -/
def mainsLost (s : State) : State :=
  if s.supply.power = 0 ∨ !s.supply.mains then s
  else if s.supply.power = 3 then modSupply s (fun x => { x with mains := false, mainsAt := s.tally })
  else
    let s := modSupply s (fun x => { x with
      mains := false, vin := 0, pin := 0, mainsAt := s.tally, buf := bufNow s, bufAt := s.now, charging := false
      ballast := false, shed := false, pf := if x.pf = 0 then 1 else x.pf })
    pwrEvt s 0

/-- The mains counts as present again. What the buffer has given meanwhile is not stated; it charges again until READY. -/
def mainsBack (s : State) : State :=
  if s.supply.power = 0 ∨ s.supply.mains then s
  else
    let v := measured s 85 265
    let b := measured v.2 0 (bufNow s)
    let s := modSupply b.2 (fun x => { x with
      mains := true, vin := v.1, mainsAt := s.tally, buf := b.1, bufAt := s.now, charging := !s.pins.ready })
    if s.supply.pf = 1 ∧ s.supply.power ≠ 3 then pwrEvt (modSupply s (fun x => { x with pf := 0 })) 1
    else modSupply s (fun x => { x with pf := if x.pf = 1 then 0 else x.pf })

/-- Mains absent for 20 ms: power-fail. Before step 8 of a boot has ended there is no keycut and no chain to record in, and
the device enters OFF. -/
def holdUpEnds (s : State) : State :=
  if s.supply.power = 1 ∧ s.supply.pf = 1 ∧ s.supply.mainsAt + tallyMs 20 ≤ s.tally then
    if s.boot.step < 9 then powerOff s
    else
      let s := modSupply s (fun x => { x with pf := 2, pfStart := s.now })
      let s := readyLow (pwrEvt s 2)
      let s := (List.range 16).foldl (fun s i =>
        modKr s i (fun k => { k with ceil := effectiveCeil s i k, target := max 550 (min k.target 600) })) s
      powerRecord s 1
  else s

/-- 10 ms into power-fail, commands that were in flight at its start are answered STALE. -/
def releaseLimit (s : State) : State :=
  let t := s.supply.pfStart
  if s.supply.pf = 2 ∧ t + 10 ^ 7 ≤ s.now then settle (endCmds s (fun c => decide (c.arrival ≤ t)) (some 0xE2)) else s

/-- The end of power-fail (R420): a warm boot where the mains has been present for the last 5 ms, else OFF. -/
def powerFailEnds (s : State) : State :=
  if s.supply.pf ≠ 2 then s
  else if s.supply.mains ∧ s.supply.mainsAt + tallyMs 5 ≤ s.tally then
    let b := measured s 0 (bufNow s)
    warmBoot (modSupply (powerRecord b.2 2) (fun x => { x with buf := b.1, bufAt := s.now, charging := true })) none
  else powerOff (deviceFinal (powerRecord s 3))

/-- A write of PWR_CTL by partition 0: KSRC, and PFDONE. -/
def pwrCtlWrite (s : State) (p : Nat) (v : Word) : State :=
  if p ≠ 0 then s
  else
    let s := plainWrite s .pwrCtl 0 v
    if fld v 63 60 = 1 then powerFailEnds s else s

/-! ### The sleep request (R435, R436) -/

/-- PWR_SLEEP's STATUS. -/
def sleepStatus (s : State) (st : Nat) : State := fldSet s .pwrSleep 0 3 0 st

/-- The reason that refuses WATCH; 0 for none. -/
def sleepRefusal (s : State) : Nat :=
  if kcGroup s.kc ≠ 0 then 1
  else if fldGet s .pwrSleep 0 19 16 = 0 then 2
  else if s.turns.commit.isSome ∨ s.westad.agree.isSome then 3
  else if s.faults.quiet ∨ s.supply.pf = 2 then 4
  else 0

/-- A write of PWR_SLEEP by partition 0: the enables, and with GO a request. A wake event of the same instant comes before
the decision and declines it. -/
def sleepWrite (s : State) (p : Nat) (v : Word) : State :=
  if p ≠ 0 then s
  else
    let s := plainWrite s .pwrSleep 0 v
    if fld v 63 60 ≠ 1 ∨ s.supply.power ≠ 1 then s
    else
      let r := sleepRefusal s
      if r ≠ 0 then sleepStatus (fldSet s .pwrSleep 0 11 8 r) 3
      else match s.supply.earlyWake with
      | some (c, t) =>
        if t = s.now ∧ wakeEnabled s c then pwrEvt (sleepStatus (fldSet s .pwrSleep 0 15 12 c) 2) 3
        else sleepDecide s
      | none => sleepDecide s
where
  /-- The decision: STATUS #1, READY and HOLD_N low, and intake admits nothing more. -/
  sleepDecide (s : State) : State :=
    readyLow (modSupply (sleepStatus s 1) (fun x => { x with power := 2, entered := s.now, wakeLatched := none, earlyWake := none }))

/-! ### Entry into WATCH (R437, R438) -/

/-- The threads that belong to a partition. -/
def ownedThreads (s : State) : List Nat := (s.threads.map (·.1)).filter (fun t => decide ((thr s t).part ≠ nobody))

/-- Whether every thread is FROZEN with its stores in memory, and every engine has run out of jobs. -/
def stilled (s : State) : Bool :=
  (ownedThreads s).all (fun t => (thr s t).st == .frozen && (thr s t).sbuf == []) &&
    (s.engs.map (·.1)).all (fun e => (eng s e).queue == [] && (eng s e).running == [])

/-- Steps 4 to 7: what the caches and stores held is in memory, the stacks refresh themselves, lanes are idle, pads are
latched, rails are off and the timebase stops. -/
def watchEnter (s : State) : State :=
  let s := { s with
    cyls := s.cyls.foldl (fun t kv => tset cylInit t kv.1 { kv.2 with icache := [], dcache := [], itlb := [], dtlb := [] }) []
    krs := s.krs.foldl (fun t kv => tset krInit t kv.1 { kv.2 with store := [], tlb := [] }) []
    dmaTlb := [] }
  let s := [13, 14, 15, 16].foldl domDown s
  let s := (List.range 48).foldl (fun s l => if laneState s l = 2 ∨ laneState s l = 3 then setLane s l 1 else s) s
  let s := (List.range 4).foldl dropLink (linkDown s)
  let s := [2, 3, 4, 5, 12].foldl downDomain s
  modSupply { s with keeper := { s.keeper with rcTicks := 0 } } (fun x => { x with
    power := 3, pf := 0, held := [0, 1, 2, 3], stopTb := s.now, stopTally := s.tally })

/-- After the drain, commands left are answered STALE and the threads are frozen; once all are still, the device sleeps. -/
def watchDrainEnds (s : State) : State :=
  if s.supply.power ≠ 2 then s
  else if allCmds s ≠ [] ∧ s.now < s.supply.entered + kcDrain s.kc then s
  else
    let s := endJobs (endCmds s (fun _ => true) (some 0xE2)) (fun j => decide (j.turn < s.turns.num)) 0x43
    let s := (ownedThreads s).foldl (fun s t => askFreeze s t .watch) s
    if stilled s then watchEnter s else settle s

/-! ### Wake (R436, R439 to R441, R444) -/

/-- A session without an accepted frame for more than 600 s closes. -/
def idleSessions (s : State) : State :=
  (s.intake.sessions.map (·.1)).foldl (fun s n =>
    if (sess s n).part ≠ nobody ∧ (sess s n).lastFrame + 600 * 10 ^ 9 < s.now then dropSession s n else s) s

/-- Blank images reloaded from the keycut. -/
def reloadBlanks (s : State) : State :=
  (List.range 16).foldl (fun s k =>
    if (kcBlank s.kc k).isSome && !(kring s k).blankRetired then
      blankLoad (modKr s k (fun x => { x with blankLoading := true, blankTurn := 0 })) k
    else s) s

/-- The exit from WATCH after a latched event. A cause of the quiet state met in the sleep enters it at the end. -/
def watchWakes (s : State) : State :=
  match s.supply.power, s.supply.wakeLatched with
  | 3, some c =>
    let s := fldSet s .pwrSleep 0 15 12 c
    let s := (List.range 16).foldl (fun s i => modKr s i (fun k => { k with rail := k.target })) s
    let s := modSupply (bridge s) (fun x => { x with power := 1, wakeLatched := none, pf := if x.mains then 0 else 1 })
    let s := [13, 14, 15, 16].foldl (fun s d => modDom s d (fun x => { x with down := heldDown s d })) s
    let s := unseedArbiters s
    let s := if s.trngBad then s else seedArbiters s
    let s := reloadBlanks (idleSessions s)
    let s := (ownedThreads s).foldl (fun s t => releaseThr s t .watch) s
    settle (nextCommit (pwrEvt (sleepStatus s 4) 4))
  | _, _ => s

/-- The Keeper's count reaches PWR_WAKE.ALARM. -/
def alarmDue (s : State) : Bool := fldGet s .pwrWake 0 47 0 != 0 && tallyNow s == fldGet s .pwrWake 0 47 0

/-- Mains absent for 20 ms in WATCH: the memories are cleared and the device enters OFF. -/
def watchMainsGone (s : State) : State :=
  if s.supply.power = 3 ∧ !s.supply.mains ∧ s.supply.mainsAt + tallyMs 20 ≤ s.tally then powerOff (deviceFinal s) else s

/-- KEEP_PADREL: partition 0 releases held pad groups after the wake. -/
def padrelWrite (s : State) (p : Nat) (v : Word) : State :=
  if p ≠ 0 ∨ s.supply.power ≠ 1 then s
  else modSupply s (fun x => { x with held := x.held.filter (fun i => !fbit v i) })

/-- KEEP_PADREL. -/
def padrelWord (s : State) : Word := w64 (s.supply.held.foldl (fun n i => n + 2 ^ i) 0)

/-! ### The rows -/

/-- MAINS_LOSS (R416, R419). -/
def execMainsLoss (s : State) : Host.Outcome State Fault Refusal := .next (mainsLost s)
/-- MAINS_RETURN (R416, R419). -/
def execMainsReturn (s : State) : Host.Outcome State Fault Refusal := .next (mainsBack s)
/-- HOLD_UP_EXPIRY (R419). -/
def execHoldUpExpiry (s : State) : Host.Outcome State Fault Refusal := .next (holdUpEnds s)
/-- POWER_FAIL_RELEASE_LIMIT (R419). -/
def execPowerFailReleaseLimit (s : State) : Host.Outcome State Fault Refusal := .next (releaseLimit s)
/-- PFDONE (R419). -/
def execPfdone (p : Fin 256) (s : State) : Host.Outcome State Fault Refusal := .next (if p.val = 0 then quietSettle (powerFailEnds s) else s)
/-- POWER_FAIL_END (R420): 200 ms after power-fail began. -/
def execPowerFailEnd (s : State) : Host.Outcome State Fault Refusal :=
  .next (if s.supply.pfStart + 200 * 10 ^ 6 ≤ s.now then quietSettle (powerFailEnds s) else s)
/-- PWR_SLEEP (R435, R436). -/
def execPwrSleep (p : Fin 256) (v : Word) (s : State) : Host.Outcome State Fault Refusal := .next (sleepWrite s p v)
/-- WATCH_DRAIN_END (R437). -/
def execWatchDrainEnd (s : State) : Host.Outcome State Fault Refusal := .next (watchDrainEnds s)
/-- WAKE_ALARM (R436). -/
def execWakeAlarm (s : State) : Host.Outcome State Fault Refusal := .next (if alarmDue s then wakeEvent s 1 else s)
/-- WAKE_N (R436). -/
def execWakeN (s : State) : Host.Outcome State Fault Refusal := .next (wakeEvent s 4)
/-- WATCH_WAKE (R439, R444). -/
def execWatchWake (s : State) : Host.Outcome State Fault Refusal := .next (quietSettle (watchWakes s))
/-- WATCH_MAINS_ABSENT (R441). -/
def execWatchMainsAbsent (s : State) : Host.Outcome State Fault Refusal := .next (watchMainsGone s)
/-- KEEP_PADREL (R440). -/
def execKeepPadrel (p : Fin 256) (v : Word) (s : State) : Host.Outcome State Fault Refusal := .next (padrelWrite s p v)

end Sys2Proof.Machine
end

