-- ==== Sys2Proof/Machine/Keeper.lean ====
section
/-! DEFINITION. The Keeper: its clock, its watchdog and self-test, its sensors and the tamper responses (R447 to R453). -/

namespace Sys2Proof.Machine

/-- A KEEPER record: #1 crystal lost, #2 crystal regained, #3 self-test failed. -/
def keeperRecord (s : State) (n : Nat) : State := audit s 3 0xFF 0x16 [byte n]

/-- A bit of KEEP_TAMP.EVT set. -/
def tampBit (s : State) (i : Nat) : State := setBits s .keepTamp 0 (maskOf i i)

/-- A cause that the Keeper has met: in WATCH the device wakes first (R435, R485), and the quiet state is entered. -/
def keeperQuiet (s : State) (cause : Nat) : State := enterQuiet (watchWakes (wakeEvent s 5)) cause

/-! ### Clock and self-test (R447, R448) -/

/-- The crystal has run for 500 ms: the Keeper switches to it. -/
def crystalGood (s : State) : State :=
  if s.supply.power = 0 ∨ s.keeper.crystal then s
  else
    let again := s.keeper.crystalTried
    let s := modKeeper s (fun k => { k with crystal := true, crystalTried := true })
    if again then keeperRecord s 2 else s

/-- Ten missed edges: back to RC. -/
def crystalGone (s : State) : State :=
  if s.supply.power = 0 ∨ !s.keeper.crystal then s
  else keeperRecord (tampBit (modKeeper s (fun k => { k with crystal := false })) 5) 1

/-- No start within 2 s of power-up. -/
def crystalLate (s : State) : State :=
  if s.supply.power = 0 ∨ s.keeper.crystal ∨ s.keeper.crystalTried ∨ s.tally < tallyMs 2000 then s
  else keeperRecord (tampBit (modKeeper s (fun k => { k with crystalTried := true })) 5) 1

/-- The watchdog expires. -/
def keeperDead (s : State) : State := if s.supply.power = 0 then s else keeperQuiet (tampBit s 4) 2

/-- The self-test ends. -/
def keeperTested (s : State) (passed : Bool) : State :=
  if s.supply.power = 0 ∨ passed then s else keeperQuiet (keeperRecord (tampBit s 4) 3) 2

/-! ### Zeroization (R451) -/

/-- A thread whose state is zeroized: it stays in its state, as at thread start. -/
def zeroThread (s : State) (t : Nat) : State :=
  let th := thr s t
  if th.part = nobody then s
  else rawThr s t { thrInit with
    part := th.part, st := if th.st = .parked then .ready else th.st, resume := th.resume, freeze := th.freeze
    freezeReq := th.freezeReq, nextOp := th.nextOp }

/-- Intake SRAM zeroized: items, sessions and partial items. -/
def zeroIntake (s : State) : State :=
  setPressure { s with intake := { s.intake with
    cmdq := [], rspq := [], sessions := [], tlm := [], windows := [], smbus := [], smbusOut := [] } }

/-- The zeroization set of R451; a breach takes the root, its keys and the identity with it. -/
def zeroizeSet (s : State) (breach : Bool) : State :=
  let s := zeroizeKeys (clearMem s scratchBase vaultEnd)
  let s := zeroIntake { s with guard := { s.guard with counters := [] } }
  let s := (s.threads.map (·.1)).foldl zeroThread s
  let s := { s with
    dramKeys := [], dramLost := true
    krs := s.krs.foldl (fun t kv => tset krInit t kv.1 { kv.2 with kbits := [], drbg := [] }) []
    engs := s.engs.foldl (fun t kv => tset engInit t kv.1 { kv.2 with seats := [], waiting := [], queue := [], running := [] }) []
    cyls := s.cyls.foldl (fun t kv => tset cylInit t kv.1 { kv.2 with divBusy := none }) [] }
  if breach then modKeeper s (fun k => { k with root := none, identity := false, breach := true }) else s

/-! ### The responses (R450 to R453) -/

/-- Requests under way when a tamper event comes read ABORTED (R452). -/
def abortRequests (s : State) : State :=
  let s := if s.audit.sealing.isSome then modAudit s (fun a => { a with sealing := none, result := 3 }) else s
  let s := if s.req.attest0 = 1 then setAttest s 0 4 else s
  let s := if s.req.attest1 = 1 then setAttest s 1 4 else s
  let s := { s with req := { s.req with attestPieces := [], lcResult := if s.req.lcResult = 1 then 8 else s.req.lcResult } }
  putAgree (abandonCommit s) none

/-- A TAMPER record: the event bits, and 16 bytes of sensor values, whose form is not given. -/
def tamperRecord (s : State) : State :=
  let r := freeBytes s 16
  audit r.2 3 0xFF 0x12 (byte (fldGet s .keepTamp 0 5 0) :: r.1)

/-- A tamper event: latched, recorded, and where the responses are armed answered: the set is zeroized, a breach blows
TAMPER, the quiet state is entered, and the record appended. -/
def tamper (s : State) (bit : Nat) (breach : Bool) : State :=
  if s.supply.power = 0 then s
  else
    let s := tampBit s bit
    if !s.keeper.armed then tamperRecord s
    else
      let s := abortRequests (zeroizeSet s breach)
      let s := if breach then blowTamper s else s
      tamperRecord (settle (keeperQuiet s (if breach then 4 else 3)))

/-! ### Sensors (R449, R453) -/

/-- The mesh no longer decodes to the pattern enrolled. -/
def meshDestroyed (s : State) : State := { s with fuses := { s.fuses with meshGone := true } }

/-- An open or a short in the ward mesh changes its resistances; in OFF that is all that happens. -/
def meshBroken (s : State) : State :=
  let s := meshDestroyed s
  if s.supply.power = 0 then s else tamper (modKeeper s (fun k => { k with meshOk := false })) 0 true

/-- The mesh pattern is decoded against the helper data. -/
def meshDecoded (s : State) (decodes : Bool) : State :=
  if s.supply.power = 0 then s
  else
    let s := modKeeper s (fun k => { k with meshOk := decodes })
    if decodes then s else tamper s 0 true

/-- A photodiode sees light. -/
def lightSeen (s : State) : State :=
  if s.supply.power = 0 then s else tamper (modKeeper s (fun k => { k with dark := false })) 1 true

/-- Whether an enclosure temperature lies within the grade's limits. -/
def tempWithin (grade : Nat) (c : Int) : Bool :=
  if grade = 1 then decide (-40 ≤ c ∧ c ≤ 100) else decide (-20 ≤ c ∧ c ≤ 95)

/-- A temperature as TMAX and TMIN report it. -/
def tempField (c : Int) : Nat := min 255 (c + 64).toNat

/-- A temperature sample. -/
def tempSample (s : State) (sensor : Nat) (c : Int) : State :=
  if s.supply.power = 0 then s
  else
    let f := tempField c
    let ok := tempWithin s.fuses.grade c
    let s := modKeeper s (fun k => { k with
      tmax := if k.sampled then max k.tmax f else f, tmin := if k.sampled then min k.tmin f else f, sampled := true
      tempBad := if ok then k.tempBad.filter (· != sensor) else if k.tempBad.contains sensor then k.tempBad else sensor :: k.tempBad })
    if ok then s else tamper s 2 false

/-- A rail glitch. Rails 0 to 15 are the keyrings', which are off in WATCH. -/
def railGlitched (s : State) (rail : Nat) : State :=
  if s.supply.power = 0 ∨ (s.supply.power = 3 ∧ rail < 16) then s
  else tamper (modKeeper (bump s .keepTamp 0 63 48 1) (fun k => { k with railsOk := false })) 3 false

/-! ### Registers (R472) -/

/-- KEEP_STAT. -/
def keepStatWord (s : State) : Word :=
  let k := s.keeper
  w64 (k.tmax * 2 ^ 56 + k.tmin * 2 ^ 48 + b2n k.armed * 2 ^ 12 + (if k.crystal then 1 else 2) * 2 ^ 8 +
    (b2n k.meshOk + 2 * b2n k.dark + 4 * b2n (k.sampled && k.tempBad == []) + 8 * b2n k.railsOk))

/-- A write of KEEP_WCFG by partition 0 (R13). -/
def wcfgWrite (s : State) (p : Nat) (v : Word) : State :=
  if p ≠ 0 then s else plainWrite s .keepWcfg 0 (keepField (regGet s .keepWcfg 0) v 9 0 (fun n => decide (1 ≤ n ∧ n ≤ 1000)))

/-! ### The rows -/

/-- CRYSTAL_QUALIFIED (R447). -/
def execCrystalQualified (s : State) : Host.Outcome State Fault Refusal := .next (crystalGood s)
/-- CRYSTAL_LOST (R447). -/
def execCrystalLost (s : State) : Host.Outcome State Fault Refusal := .next (crystalGone s)
/-- CRYSTAL_START_TIMEOUT (R447). -/
def execCrystalStartTimeout (s : State) : Host.Outcome State Fault Refusal := .next (crystalLate s)
/-- KEEPER_WATCHDOG_EXPIRY (R448). -/
def execKeeperWatchdogExpiry (s : State) : Host.Outcome State Fault Refusal := .next (keeperDead s)
/-- KEEPER_SELF_TEST (R448). -/
def execKeeperSelfTest (passed : Bool) (s : State) : Host.Outcome State Fault Refusal := .next (keeperTested s passed)
/-- MESH_CONTINUITY_FAULT (R449, R453). -/
def execMeshContinuityFault (_segment : Fin 512) (s : State) : Host.Outcome State Fault Refusal := .next (meshBroken s)
/-- MESH_PATTERN_CHECK (R449). -/
def execMeshPatternCheck (decodes : Bool) (s : State) : Host.Outcome State Fault Refusal := .next (meshDecoded s decodes)
/-- LIGHT_DETECTED (R449). -/
def execLightDetected (_diode : Fin 8) (s : State) : Host.Outcome State Fault Refusal := .next (lightSeen s)
/-- TEMPERATURE_SAMPLE (R449). -/
def execTemperatureSample (sensor : Fin 4) (celsius : Int) (s : State) : Host.Outcome State Fault Refusal :=
  .next (tempSample s sensor celsius)
/-- RAIL_GLITCH (R449). -/
def execRailGlitch (rail : Fin 24) (s : State) : Host.Outcome State Fault Refusal := .next (railGlitched s rail)

end Sys2Proof.Machine
end

