-- ==== Sys2Proof/Machine/LifeCycle.lean ====
section
/-! DEFINITION. Life-cycle requests and transitions, debug sessions, and what the Keeper answers on SMBus (R412, R458 to
R462). -/

namespace Sys2Proof.Machine

/-! ### Requests (R460, R461) -/

/-- The bytes of a request block. -/
def lcBlockLen : Nat := 3812

/-- The states that a request may name: CUT, KEYED, LOCKED, RETURNED, SCRAPPED. -/
def lcTargets : List Nat := [3, 5, 7, 9, 0xF]

/-- The digest of the key that must sign a transition; none where the table has no such transition. -/
def lcSigner (s : State) (target : Nat) : Option Bytes :=
  match s.fuses.lcs, target with
  | 1, 3 => some Config.makerLifeDigest
  | 3, 5 => some Config.makerLifeDigest
  | 5, 7 => some (s.fuses.owner.getD [])
  | 5, 9 => some (s.fuses.owner.getD [])
  | 7, 9 => some (s.fuses.owner.getD [])
  | 1, 0xF => some Config.makerLifeDigest
  | 3, 0xF => some Config.makerLifeDigest
  | 9, 0xF => some Config.makerLifeDigest
  | 5, 0xF => some (s.fuses.owner.getD [])
  | 7, 0xF => some (s.fuses.owner.getD [])
  | _, _ => none

/-- DEVID, as R460 gives it for the state; none where the identity key is lost. -/
def devId (s : State) : Option Bytes :=
  if rootStates.contains s.fuses.lcs then (if s.keeper.identity then some (sha256 (identityPk s)) else none)
  else some (sha256 s.fuses.serial)

/-- Whether a block's form is right: MAGIC, the bytes that must be 0, and OWNER only for CUT to KEYED. -/
def lcForm (s : State) (b : Bytes) : Bool :=
  b.take 4 == ascii "LCRQ" && leAt b 5 3 == 0 && ((s.fuses.lcs == 3 && leAt b 4 1 == 5) || allZero (slice b 48 32))

/-- Whether the tail holds no record but the SEAL record of the latest seal, and no seal runs. -/
def tailSealed (s : State) : Bool :=
  s.audit.sealing.isNone && decide (s.audit.tail.length ≤ 1) && s.audit.tail.all (fun r => r.kind == 0x13)

/-- The address in KEEP_ASEAL. -/
def asealVa (s : State) : Nat := fldGet s .keepAseal 0 55 0

/-- Whether the buffer in KEEP_ASEAL would take a seal of two records. -/
def sealFits (s : State) : Bool :=
  asealVa s != 0 && asealVa s % 128 == 0 && (accOk (unitAccess s 0 (asealVa s) (2 * (128 * 2 + trailerLen)) 3)).isSome

/-- The result that refuses a request (LC_RSTAT.RESULT); 0 for none. -/
def lcRefusal (s : State) (b : Bytes) : Nat :=
  let t := leAt b 4 1
  if !lcForm s b then 3
  else match (if s.fuses.lcsNext = s.fuses.lcs then lcSigner s t else none) with
  | none => 4
  | some d =>
    if sha256 (slice b 80 1312) ≠ d ∨ !Config.mlDsaVerify 0 (slice b 80 1312) (ascii "EVG-LC") (sha256 (b.take 1392)) (slice b 1392 2420) then 3
    else if w64 (leAt b 8 8) ≠ s.boot.lcNonce ∨ devId s ≠ some (slice b 16 32) then 5
    else if (s.fuses.lcs = 5 ∨ s.fuses.lcs = 7) ∧ (t = 9 ∨ t = 0xF) then
      if !tailSealed s then 7 else if !sealFits s then 6 else 0
    else 0

/-- LC_RSTAT. -/
def lcResult (s : State) (target r : Nat) : State := { s with req := { s.req with lcTarget := target, lcResult := r } }

/-- A new LC_NONCE, after every request. -/
def newNonce (s : State) : State :=
  let r := trngBytes s 8
  modBoot r.2 (fun b => { b with lcNonce := w64 (leNat r.1) })

/-- An LC_REQUEST record. -/
def lcRecord (s : State) (target r : Nat) : State := audit s 0 0 9 [byte target, byte r]

/-- The fuse share blown, and the helper data of the mesh as it stands. -/
def blowShare (s : State) (share : Bytes) : State :=
  { s with fuses := { s.fuses with fuseShare := some share, meshHelper := true, meshGone := false } }

/-- The root check blown (R456). -/
def blowRootCheck (s : State) : State := { s with fuses := { s.fuses with rootCheck := rootCheckOf ((rootOf s).getD []) } }

/-- The owner's digest blown (R461). -/
def blowOwner (s : State) (d : Bytes) : State := { s with fuses := { s.fuses with owner := some d } }

/-- Every mesh-helper fuse blown (R462). -/
def blowHelpers (s : State) : State := { s with fuses := { s.fuses with meshHelper := false } }

/-- The transition to CUT enrols the helper data, draws the fuse share and fuses the root check (R454 to R456). -/
def enrol (s : State) : State :=
  let r := trngBytes s 32
  blowRootCheck (blowShare r.2 r.1)

/-- The state fuses blown; the state takes effect at the next boot (R7). -/
def blowState (s : State) (target : Nat) : State := { s with fuses := { s.fuses with lcsNext := max s.fuses.lcsNext target } }

/-- RETURNED or SCRAPPED accepted: the tail is sealed, the breach set zeroized, the mesh binding and then the state blown, and
the device warm-boots (R462). -/
def leaveService (s : State) (target : Nat) : State :=
  let s := if asealVa s = 0 then s else match beginSeal s (asealVa s) false with | some s => sealDone s | none => s
  let s := modKeeper (zeroizeSet s true) (fun k => { k with breach := false })
  let s := blowHelpers { s with ks := { s.ks with zeroized := false } }
  warmBoot (blowState s target) none

/-- A request accepted. -/
def lcAccept (s : State) (b : Bytes) : State :=
  match leAt b 4 1 with
  | 3 => blowState (enrol s) 3
  | 5 => blowState (blowOwner s (slice b 48 32)) 5
  | 7 => blowState s 7
  | 9 => leaveService s 9
  | 15 => leaveService s 15
  | _ => s

/-- A request judged: its record comes before its effect; with a full tail it is refused with a status that is not given. -/
def lcJudge (s : State) (b : Bytes) : State :=
  let t := leAt b 4 1
  let r := lcRefusal s b
  if r = 0 ∧ auditFull s then
    let f := freeWord s
    newNonce (lcResult f.2 (t % 16) (f.1.toNat % 16))
  else if r = 0 then lcAccept (newNonce (lcResult (lcRecord s t 2) (t % 16) 2)) b
  else newNonce (lcResult (lcRecord s t r) (t % 16) r)

/-- A write of LC_REQ by partition 0, as the row for one target takes it: the row acts when the block names its target, or
none that a request may name, or cannot be read. -/
def lcRequest (s : State) (p va row : Nat) : State :=
  if p ≠ 0 then s
  else match accOk (unitAccess s 0 va (2 * lcBlockLen) 2) with
  | none => newNonce (lcResult (lcRecord { s with req := { s.req with lcVa := BitVec.ofNat 56 va } } 0 6) 0 6)
  | some ps =>
    let b := readBytes s ps
    let t := leAt b 4 1
    if t = row ∨ !lcTargets.contains t then lcJudge { s with req := { s.req with lcVa := BitVec.ofNat 56 va } } b else s

/-- A write of LC_REQ by its address: the row of the target that the block names. -/
def lcReqWrite (s : State) (p va : Nat) : State :=
  match accOk (unitAccess s 0 va (2 * lcBlockLen) 2) with
  | none => lcRequest s p va 3
  | some ps => lcRequest s p va (leAt (readBytes s ps) 4 1)

/-- LC_RSTAT. -/
def lcRstatWord (s : State) : Word := w64 (s.req.lcResult * 2 ^ 60 + s.req.lcTarget * 2 ^ 56)
/-- LC_FUSE. -/
def lcFuseWord (s : State) : Word :=
  w64 (s.fuses.epoch * 2 ^ 48 + s.fuses.svn * 2 ^ 32 + b2n s.fuses.tamper + 2 * b2n s.fuses.owner.isSome)

/-! ### Debug (R458, R459) -/

/-- The states in which a challenge can be read and answered: CUT, KEYED and RETURNED. -/
def challengeStates : List Nat := [3, 5, 9]

/-- The device digest of a challenge. -/
def debugDevice (s : State) : Bytes := if s.fuses.lcs = 9 then sha256 s.fuses.serial else sha256 (identityPk s)

/-- A fresh challenge. -/
def drawChallenge (s : State) : State :=
  let r := trngBytes s 16
  let c := sha256 (leBytes 8 (lcIdNat s) ++ debugDevice s ++ [byte s.dbg.chosen] ++ r.1)
  { r.2 with dbg := { s.dbg with challenge := some c } }

/-- A read of DBGCHAL. -/
def readChallenge (s : State) : State :=
  if s.supply.power = 0 ∨ !challengeStates.contains s.fuses.lcs then s else drawChallenge s

/-- The digest of the key that must sign a challenge. -/
def debugSigner (s : State) : Bytes := if s.fuses.lcs = 5 then s.fuses.owner.getD [] else Config.makerKeyDigest

/-- A write of DBGRSP: a session opens, or the session closes and a new challenge is drawn. -/
def debugResponse (s : State) (key sig : Bytes) : State :=
  match s.dbg.challenge with
  | none => s
  | some c =>
    if s.supply.power = 0 ∨ !challengeStates.contains s.fuses.lcs then s
    else if sha256 key = debugSigner s ∧ Config.mlDsaVerify 0 key (ascii "EVG-DEBUG") c sig ∧ (s.fuses.lcs ≠ 5 ∨ s.dbg.chosen ≠ 0) then
      let p := s.dbg.chosen
      let s := endDebug s
      debugRecord { s with dbg := { s.dbg with openPart := some p, challenge := none } } 1 p
    else drawChallenge (endDebug s)

/-- The partition that debug accesses reach: the session's; where a state allows every partition, the one chosen; in BLANK
without a session. -/
def debugPart (s : State) : Option Nat :=
  if !running s then none
  else if s.fuses.lcs = 1 then some s.dbg.chosen
  else match s.dbg.openPart with
  | none => none
  | some q => if s.fuses.lcs = 5 then some q else some s.dbg.chosen

/-- Whether debug reaches a thread. -/
def debugThr (s : State) (t : Nat) : Bool := debugPart s == some (thr s t).part && (thr s t).part != nobody

/-- What a debug access reads. -/
def debugRead (s : State) (v : Word) : State := { s with dbg := { s.dbg with data := v } }

/-- The digit that a debug access to memory reaches, under the partition's translation; secure scratch is out of reach. -/
def debugPieces (s : State) (va : VAddr) (acc : Nat) : Option Pieces :=
  match debugPart s with
  | none => none
  | some p => match accOk (unitAccess s p va.toNat 1 acc) with
    | some ps => if ps.any (fun x => isScratch x.1 || isCtl x.1) then none else some ps
    | none => none

/-- A DBGPORT access. -/
def debugPort (s : State) : DebugAccess → State
  | .choose p => if s.supply.power = 0 ∨ s.fuses.lcs = 7 ∨ s.fuses.lcs = 0xF then s else { s with dbg := { s.dbg with chosen := p } }
  | .readG t r => if debugThr s t then debugRead s (greg (thr s t).arch r) else s
  | .writeG t r v => if debugThr s t then modThr s t (fun th => landAll th (fun a => setG a r v)) else s
  | .readB t b => if debugThr s t then debugRead s (w64 (b2n (tbit (thr s t).arch b))) else s
  | .writeB t b v => if debugThr s t then modThr s t (fun th => landAll th (fun a => setBit a b v)) else s
  | .readTs t p =>
    if debugThr s t && decide (0x1C0 ≤ p.val ∧ p.val ≤ 0x1C8) then debugRead s (portValue s t (thr s t).arch p) else s
  | .writeTs t p v =>
    if debugThr s t && [0x1C2, 0x1C3, 0x1C5].contains p.val then modThr s t (fun th => landAll th (fun a => writePort s t a p 16 v)) else s
  | .readMem va => match debugPieces s va 2 with
    | some ps => debugRead s (loadPieces s ps).1
    | none => s
  | .writeMem va v => match debugPieces s va 3 with
    | some ps => storePieces s none ps [v] false
    | none => s

/-- The threads that debug reaches. -/
def debugThreads (s : State) : List Nat := (s.threads.map (·.1)).filter (debugThr s)

/-- A TAP reset ends the session; threads that debug froze are released. -/
def tapResets (s : State) : State := settle ((s.threads.map (·.1)).foldl (fun s t => releaseThr s t .debug) (endDebug s))

/-! ### SMBus code #01 (R412) -/

/-- The 16 bytes of code #01: LC_ID, then the READY and quiet-state flags. -/
def lcIdBlock (s : State) : Bytes := leBytes 8 (lcIdNat s) ++ [byte (b2n s.pins.ready), byte (b2n s.faults.quiet), 0, 0, 0, 0, 0, 0]

/-- The Keeper answers code #01 whenever it runs. -/
def smbusLcId (s : State) (pecOk : Bool) : State :=
  if s.supply.power = 0 then s else if pecOk then emit s (.smbus (lcIdBlock s)) else countBad s 4

/-! ### The rows -/

/-- LC_TO_CUT (R454 to R456, R461). -/
def execLcToCut (p : Fin 256) (va : BitVec 56) (s : State) : Host.Outcome State Fault Refusal := .next (quietSettle (lcRequest s p va.toNat 3))
/-- LC_TO_KEYED (R461). -/
def execLcToKeyed (p : Fin 256) (va : BitVec 56) (s : State) : Host.Outcome State Fault Refusal := .next (quietSettle (lcRequest s p va.toNat 5))
/-- LC_TO_LOCKED (R461). -/
def execLcToLocked (p : Fin 256) (va : BitVec 56) (s : State) : Host.Outcome State Fault Refusal := .next (quietSettle (lcRequest s p va.toNat 7))
/-- LC_TO_RETURNED (R462). -/
def execLcToReturned (p : Fin 256) (va : BitVec 56) (s : State) : Host.Outcome State Fault Refusal := .next (quietSettle (lcRequest s p va.toNat 9))
/-- LC_TO_SCRAPPED (R462). -/
def execLcToScrapped (p : Fin 256) (va : BitVec 56) (s : State) : Host.Outcome State Fault Refusal := .next (quietSettle (lcRequest s p va.toNat 0xF))
/-- DBGCHAL (R459). -/
def execDbgchal (s : State) : Host.Outcome State Fault Refusal := .next (readChallenge s)
/-- DBGPORT (R459). -/
def execDbgport (a : DebugAccess) (s : State) : Host.Outcome State Fault Refusal := .next (debugPort s a)
/-- DBGRSP (R459). -/
def execDbgrsp (key sig : Bytes) (s : State) : Host.Outcome State Fault Refusal := .next (settle (debugResponse s key sig))
/-- DEBUG_FREEZE (R459). -/
def execDebugFreeze (s : State) : Host.Outcome State Fault Refusal := .next ((debugThreads s).foldl (fun s t => askFreeze s t .debug) s)
/-- DEBUG_RELEASE (R459). -/
def execDebugRelease (s : State) : Host.Outcome State Fault Refusal :=
  .next (settle ((debugThreads s).foldl (fun s t => releaseThr s t .debug) s))
/-- TAP_RESET (R459). -/
def execTapReset (s : State) : Host.Outcome State Fault Refusal := .next (tapResets s)
/-- SMBUS_READ_LC_ID (R412). -/
def execSmbusReadLcId (pecOk : Bool) (s : State) : Host.Outcome State Fault Refusal := .next (smbusLcId s pecOk)

end Sys2Proof.Machine
end

