-- ==== Sys2Proof/Machine/Payments.lean ====
section
/-! DEFINITION. The decimal engine (R244 to R264): PIN blocks, DUKPT, TR-31, EMV cryptograms, card values, Luhn and
format-preserving encryption, under the guard. -/

namespace Sys2Proof.Machine

/-! ### Decimal strings (R244, R245) -/

/-- The digits of packed bytes, the first in the high half of the first byte. -/
def nibbles (b : Bytes) : List Nat := b.flatMap (fun x => [x.toNat / 16, x.toNat % 16])

/-- Digits packed, an odd string closed with #F. -/
def packDigits : List Nat → Bytes
  | [] => []
  | [a] => [byte (16 * a + 15)]
  | a :: b :: t => byte (16 * a + b) :: packDigits t

/-- The bytes of a decimal string of `n` digits. -/
def decBytes (n : Nat) : Nat := (n + 1) / 2

/-- The digits of a decimal string of `n` digits. -/
def decDigits (n : Nat) (b : Bytes) : List Nat := (nibbles b).take n

/-- A decimal string is well formed: its length, its digits, and its pad. -/
def decOk (n : Nat) (b : Bytes) : Bool :=
  b.length == decBytes n && (decDigits n b).all (fun d => decide (d ≤ 9)) && ((nibbles b).drop n).all (fun d => d == 15)

/-- The length of the PAN field at the start of `b`. -/
def panLen (b : Bytes) : Nat := match b with | n :: _ => 1 + decBytes n.toNat | [] => 1
/-- Whether a PAN field stands at the start of `b`. -/
def panOk (b : Bytes) : Bool :=
  match b with
  | n :: t => decide (12 ≤ n.toNat) && decide (n.toNat ≤ 19) && decOk n.toNat (t.take (decBytes n.toNat))
  | [] => false
/-- The digits of the PAN field at the start of `b`. -/
def panDigits (b : Bytes) : List Nat := match b with | n :: t => decDigits n.toNat t | [] => []

/-- The last `k` digits of a PAN without its check digit. -/
def panRight (k : Nat) (pan : List Nat) : List Nat := let l := pan.take (pan.length - 1); l.drop (l.length - k)

/-! ### DUKPT (R256 to R258) -/

/-- One bits of a number below 2^32. -/
def oneBits (n : Nat) : Nat := ((List.range 32).filter (fun i => n.testBit i)).length

/-- The KSN length that a base key's type selects. -/
def ksnLen (kt : Nat) : Nat := if kt = 1 then 10 else 12

/-- A KSN's transaction counter is usable. -/
def ksnOk (ksn : Bytes) : Bool :=
  if ksn.length = 10 then
    let c := beNat ksn % 2 ^ 21
    decide (0 < c) && decide (oneBits c ≤ 10)
  else
    let c := beNat (ksn.drop 8)
    decide (0 < c) && decide (oneBits c ≤ 16)

/-- The KSN of TDES DUKPT with only the counter bits of `c`. -/
def ksnWith (ksn : Bytes) (c : Nat) : Bytes := beBytes 10 (beNat ksn / 2 ^ 21 * 2 ^ 21 + c)

/-- The transaction key of TDES DUKPT: one step for each one bit of the counter, from the highest. -/
def dukptKey (ksn : Bytes) (counter : Nat) : Nat → Nat → Bytes → Bytes
  | 0, _, k => k
  | i + 1, done, k =>
    if counter.testBit i then dukptKey ksn counter i (done + 2 ^ i) (Config.dukptStep k (ksnWith ksn (done + 2 ^ i)))
    else dukptKey ksn counter i done k

/-- The working key of a base key and KSN for a use: 0 PIN, 1 and 2 MAC, 3 and 4 data; `kt` is an AES working key's type. -/
def workingKey (bdk : Key) (ksn : Bytes) (use kt : Nat) : Bytes :=
  if bdk.hdr.ktype = 1 then
    Config.dukptVariant use (dukptKey ksn (beNat ksn % 2 ^ 21) 21 0 (Config.dukptInitial (keyBytes bdk) (ksnWith ksn 0)))
  else Config.aesDukpt (keyBytes bdk) ksn use kt

/-- The initial key. -/
def initialKey (bdk : Key) (ksn : Bytes) : Bytes :=
  if bdk.hdr.ktype = 1 then Config.dukptInitial (keyBytes bdk) (ksnWith ksn 0) else Config.aesDukptInitial (keyBytes bdk) ksn

/-! ### PIN blocks (R249 to R251) -/

/-- A PIN block format. -/
def fmtOk (f : Nat) : Bool := f == 0 || f == 1 || f == 3 || f == 4
/-- The bytes of a PIN block. -/
def fmtLen (f : Nat) : Nat := if f = 4 then 16 else 8

/-- The PAN field of formats 0 and 3: the 12 rightmost digits, not counting the check digit. -/
def panBlock (pan : List Nat) : Bytes := packDigits ([0, 0, 0, 0] ++ panRight 12 pan)
/-- The PAN field of format 4: its length over 12, the whole PAN, zeros. -/
def panBlock4 (pan : List Nat) : Bytes :=
  packDigits ((pan.length - 12) :: (pan ++ List.replicate (31 - pan.length) 0))

/-- The PIN field of an enciphered block. -/
def openBlock (f : Nat) (key : Bytes) (pan : List Nat) (b : Bytes) : List Nat :=
  if f = 4 then nibbles (Config.aesDec key (xorBytes (Config.aesDec key b) (panBlock4 pan)))
  else
    let x := Config.tdesDec key b
    nibbles (if f = 1 then x else xorBytes x (panBlock pan))

/-- The PIN of a PIN field, when it passes R250. -/
def parsePin (f : Nat) (x : List Nat) : Option (List Nat) :=
  let n := nth 0 x 1
  let pin := (x.drop 2).take n
  let fill := (x.take 16).drop (2 + n)
  let fillOk := if f = 0 then fill.all (· == 15) else if f = 3 then fill.all (fun d => decide (10 ≤ d)) else
    if f = 4 then fill.all (· == 10) else true
  if nth 16 x 0 = f ∧ 4 ≤ n ∧ n ≤ 12 ∧ pin.all (fun d => decide (d ≤ 9)) ∧ fillOk then some pin else none

/-- A PIN field with fill from 16 random bytes. -/
def buildPin (f : Nat) (pin : List Nat) (rand : Bytes) : List Nat :=
  let r := nibbles rand
  let head := [f, pin.length] ++ pin
  let fill := fun (g : Nat → Nat) => (r.take (16 - head.length)).map g
  if f = 0 then head ++ fill (fun _ => 15)
  else if f = 1 then head ++ fill id
  else if f = 3 then head ++ fill (fun d => 10 + d % 6)
  else head ++ fill (fun _ => 10) ++ (r.drop 16).take 16

/-- A PIN field enciphered. -/
def sealBlock (f : Nat) (key : Bytes) (pan : List Nat) (x : List Nat) : Bytes :=
  let b := packDigits x
  if f = 4 then Config.aesEnc key (xorBytes (Config.aesEnc key b) (panBlock4 pan))
  else Config.tdesEnc key (if f = 1 then b else xorBytes b (panBlock pan))

/-! ### The PIN operations' keys and AUX (R246, R248) -/

/-- The KSN length in AUX, when KEY1 is a base derivation key. -/
def pinKsn (c : Ctx) : Nat := if c.d.dk then ksnLen c.k1.hdr.ktype else 0
/-- AUX after the KSN. -/
def pinRest (c : Ctx) : Bytes := c.auxB.drop (pinKsn c)
/-- The PAN of a PIN operation. -/
def pinPan (c : Ctx) : List Nat := panDigits (pinRest c)
/-- The key that opens the PIN block. -/
def pinKey (c : Ctx) : Bytes := if c.d.dk then workingKey c.k1 (c.auxB.take (pinKsn c)) 0 3 else keyBytes c.k1

/-- KEY1 of a PIN operation: a PIN key or a base derivation key, of the type that the input format needs. -/
def pinUse (d : Desc) (_ : Bytes) : Option (Key → Bool) :=
  some (fun k =>
    if d.dk then (if d.p0 = 4 then KeyUse.mk [3, 4, 5] [algA] "B0" "X" else KeyUse.mk [1] [algT] "B0" "X").admits k.hdr
    else (if d.p0 = 4 then KeyUse.mk [3, 4, 5] [algA] "P0" "BD" else KeyUse.mk [1, 2] [algT] "P0" "BD").admits k.hdr)

/-- KEY2 of a translation, by the output format. -/
def pinOutUse (d : Desc) (_ : Bytes) : Option (Key → Bool) :=
  some (fun k => (if d.p1 = 4 then KeyUse.mk [3, 4, 5] [algA] "P0" "BE" else KeyUse.mk [1, 2] [algT] "P0" "BE").admits k.hdr)

/-- AUX of a PIN operation with a KSN of `n` bytes: the KSN, the PAN field, then a tail that `f` judges. -/
def pinAux (n : Nat) (f : Bytes → Bool) (aux : Bytes) : Bool :=
  let r := aux.drop n
  (n == 0 || ksnOk (aux.take n)) && panOk r && f (r.drop (panLen r))

/-- The rule of R245 at set-up: with DK, the KSN is of one length or the other. -/
def pinContent (f : Desc → Bytes → Bool) (d : Desc) (_ aux : Bytes) : Bool :=
  if d.dk then pinAux 10 (f d) aux || pinAux 12 (f d) aux else pinAux 0 (f d) aux

/-- The same rule once the base key's type is known. -/
def pinKeyed (f : Desc → Bytes → Bool) (c : Ctx) : Bool := pinAux (pinKsn c) (f c.d) c.auxB

/-- P2's first digit holds DK alone. -/
def dkOnly (d : Desc) : Bool := decide (d.d98 ≤ 1)
/-- P2's first digit is 0. -/
def noDk (d : Desc) : Bool := d.d98 == 0

/-- An operation on a PIN block. -/
def opPin (ok : Desc → Bool) (tail : Desc → Bytes → Bool) (run : Ctx → State → Res × State) : OpDef :=
  { opPlain (fun d => dkOnly d && fmtOk d.p0 && d.inLen == fmtLen d.p0 && ok d) run with
    useAux := fun _ => true, key1 := pinUse, content := pinContent tail, keyed := pinKeyed tail }

/-- A refusal by the guard, counted (R277). -/
def guardIf (b : Bool) (c : Ctx) (s : State) : Bool × State := if b then (true, s) else (false, countGuard s c.p)

/-- PIN translate (R252). -/
def opPinTranslate : OpDef :=
  { withDraw (opPin (fun d => fmtOk d.p1 && d.outLen == fmtLen d.p1) (fun _ t => t == []) (fun c s =>
      match parsePin c.d.p0 (openBlock c.d.p0 (pinKey c) (pinPan c) c.inB) with
      | none => (resEnd 0x11, s)
      | some pin =>
        let r := if c.d.p1 = 0 then (zeros 16, s) else drbgDraw s (c.e / 9) c.p 16 false
        (resOk (sealBlock c.d.p1 (keyBytes c.k2) (pinPan c) (buildPin c.d.p1 pin r.1)), r.2))) (fun d => d.p1 != 0) with
    key2 := pinOutUse, guard := fun c s => guardIf (mayTranslate c.kc c.d.p0 c.d.p1 && mayDown c.kc c.k1 c.k2) c s }

/-! ### PIN verification (R253 to R255, R274) -/

/-- AUX of the offset method after the PAN field: the table, the validation data, and the offset where there is one. -/
def offsetTail (off : Bool) (d : Desc) (t : Bytes) : Bool :=
  decOk 16 (t.take 8) && t.length == 16 + (if off then decBytes d.d99 else 0) && (!off || decOk d.d99 (t.drop 16))

/-- AUX after the PAN field. -/
def pinTail (c : Ctx) : Bytes := (pinRest c).drop (panLen (pinRest c))

/-- The decimalized digits of the validation data. -/
def decimalized (c : Ctx) : List Nat :=
  let table := nibbles ((pinTail c).take 8)
  (nibbles (Config.tdesEnc (keyBytes c.k2) (slice (pinTail c) 8 8))).map (fun h => nth 0 table h)

/-- Digit by digit, modulo 10. -/
def addDigits (a b : List Nat) : List Nat := List.zipWith (fun x y => (x + y) % 10) a b
/-- Digit by digit, modulo 10. -/
def subDigits (a b : List Nat) : List Nat := List.zipWith (fun x y => (x + 10 - y) % 10) a b

/-- Whether the decimalization table is registered (R254). -/
def tableOk (c : Ctx) : Bool := (polTables c.kc).contains ((pinTail c).take 8)

/-- The tag of the PAN that a verification is counted under. -/
def attemptTag (c : Ctx) (s : State) : Word := panTag s c.p (byte (pinPan c).length :: packDigits (pinPan c))

/-- A session token taken; a refusal counts RATE. -/
def tokenGuard (c : Ctx) (s : State) : Bool × State :=
  let r := takeSession s c.kc c.session
  if r.1 then r else (false, bump r.2 .exgStat c.p 15 0 1)

/-- A token and an attempt taken (R274). -/
def attemptGuard (c : Ctx) (s : State) : Bool × State :=
  let r := tokenGuard c s
  if r.1 then takeAttempt r.2 c.kc c.p (attemptTag c r.2) else r

/-- A verification key. -/
def pinVerUse (usage modes : String) : KeyUse := ⟨[1, 2], [algT], usage, modes⟩

/-- PIN verify by the offset method (R253). -/
def opPinVerifyOffset : OpDef :=
  { opPin (fun d => decide (4 ≤ d.d99) && decide (d.d99 ≤ 12)) (offsetTail true) (fun c s =>
      match parsePin c.d.p0 (openBlock c.d.p0 (pinKey c) (pinPan c) c.inB) with
      | none => (resEnd 0x11, s)
      | some pin =>
        let n := c.d.d99
        (resVerdict (decide (n ≤ pin.length) &&
          (addDigits ((decimalized c).take n) (decDigits n ((pinTail c).drop 16)) == pin.take n)), s)) with
    outMode := fun _ => 0, key2 := uses (pinVerUse "V1" "CV")
    guard := fun c s => if tableOk c then attemptGuard c s else (false, countGuard s c.p)
    attempt := fun c s => some (c.p, attemptTag c s) }

/-- PIN offset generate (R253). -/
def opPinOffset : OpDef :=
  { opPin (fun d => decide (4 ≤ d.d99) && decide (d.d99 ≤ 12) && d.outLen == decBytes d.d99) (offsetTail false) (fun c s =>
      match parsePin c.d.p0 (openBlock c.d.p0 (pinKey c) (pinPan c) c.inB) with
      | none => (resEnd 0x11, s)
      | some pin =>
        let n := c.d.d99
        (if n ≤ pin.length then resOk (packDigits (subDigits (pin.take n) ((decimalized c).take n))) else resEnd 0x11, s)) with
    key2 := uses (pinVerUse "V1" "CG"), guard := fun c s => guardIf ((polFlags c.kc).testBit 2 && tableOk c) c s }

/-- The first four decimal digits of a cipher result, completed from those above 9 (R255, R262). -/
def extractDigits (n : Nat) (b : Bytes) : List Nat :=
  let x := nibbles b
  (x.filter (fun d => decide (d ≤ 9)) ++ (x.filter (fun d => decide (9 < d))).map (· - 10)).take n

/-- AUX of the PVV method after the PAN field: the key index and the PVV. -/
def pvvTail (_ : Desc) (t : Bytes) : Bool := t.length == 3 && decOk 1 (t.take 1) && decOk 4 (t.drop 1)

/-- PIN verify by the PVV method (R255). -/
def opPinVerifyPvv : OpDef :=
  { opPin (fun _ => true) pvvTail (fun c s =>
      match parsePin c.d.p0 (openBlock c.d.p0 (pinKey c) (pinPan c) c.inB) with
      | none => (resEnd 0x11, s)
      | some pin =>
        let tsp := panRight 11 (pinPan c) ++ decDigits 1 (pinTail c) ++ pin.take 4
        (resVerdict (extractDigits 4 (Config.tdesEnc (keyBytes c.k2) (packDigits tsp)) == decDigits 4 ((pinTail c).drop 1)), s)) with
    outMode := fun _ => 0, key2 := uses (pinVerUse "V2" "CV"), guard := attemptGuard
    attempt := fun c s => some (c.p, attemptTag c s) }

/-! ### The DUKPT operations (R246, R256 to R258) -/

/-- A base derivation key of either kind. -/
def bdkUse (_ : Desc) (_ : Bytes) : Option (Key → Bool) :=
  some (fun k => (KeyUse.mk [1] [algT] "B0" "X").admits k.hdr || (KeyUse.mk [3, 4, 5] [algA] "B0" "X").admits k.hdr)

/-- AUX is a KSN and `n` bytes more, by the base key's type. -/
def ksnKeyed (n : Ctx → Nat) (c : Ctx) : Bool :=
  let k := ksnLen c.k1.hdr.ktype
  c.auxB.length == k + n c && ksnOk (c.auxB.take k)

/-- The KSN of a job. -/
def jobKsn (c : Ctx) : Bytes := c.auxB.take (ksnLen c.k1.hdr.ktype)
/-- AUX after the KSN. -/
def afterKsn (c : Ctx) : Bytes := c.auxB.drop (ksnLen c.k1.hdr.ktype)
/-- The type of the working key: double-length TDES, or KT. -/
def workType (c : Ctx) : Nat := if c.k1.hdr.ktype = 1 then 1 else c.d.kt
/-- KT names an AES working key where one is derived. -/
def workOk (c : Ctx) : Bool := c.k1.hdr.ktype == 1 || (decide (3 ≤ c.d.kt) && decide (c.d.kt ≤ 5))

/-- DUKPT initial key: USAGE becomes "B1" (R258). -/
def opDukptInitial : OpDef :=
  { opPlain noDk (fun c s => (resKey c.d.kt (padTo (matLen c.d.kt) (initialKey c.k1 (jobKsn c))) [], s)) with
    attr := fun d => { d with usage := usageOf "B1" }
    useIn := false, useAux := fun _ => true, outMode := fun _ => 0, key1 := bdkUse
    keyed := fun c => ksnKeyed (fun _ => 0) c && c.d.kt == c.k1.hdr.ktype, dest := fun d => some (d.kt, spanFor (matLen d.kt)) }

/-- The MAC of IN under the request or response key. -/
def dukptMacOf (c : Ctx) : Bytes :=
  Config.dukptMac (workType c) (workingKey c.k1 (jobKsn c) c.d.p1 c.d.kt) c.inB

/-- Request or response, and the tag length. -/
def dukptParams (d : Desc) : Bool := noDk d && (d.p1 == 1 || d.p1 == 2) && decide (4 ≤ d.p0) && decide (d.p0 ≤ 16)

/-- DUKPT MAC generate. -/
def opDukptMacGen : OpDef :=
  { opPlain (fun d => dukptParams d && d.outLen == d.p0) (fun c s => (resOk ((dukptMacOf c).take c.d.p0), s)) with
    useAux := fun _ => true, key1 := bdkUse, keyed := fun c => ksnKeyed (fun _ => 0) c && workOk c }

/-- DUKPT MAC verify. -/
def opDukptMacVer : OpDef :=
  { opPlain dukptParams (fun c s => (resVerdict (decide ((dukptMacOf c).take c.d.p0 = afterKsn c)), s)) with
    useAux := fun _ => true, outMode := fun _ => 0, key1 := bdkUse, keyed := fun c => ksnKeyed (fun c => c.d.p0) c && workOk c }

/-- The block of a working key. -/
def workBlock (c : Ctx) : Nat := if c.k1.hdr.ktype = 1 then 8 else 16

/-- DUKPT data decrypt. -/
def opDukptDecrypt : OpDef :=
  { opPlain (fun d => noDk d && (d.p1 == 1 || d.p1 == 2) && d.inLen == d.outLen) (fun c s =>
      let k := workingKey c.k1 (jobKsn c) (2 + c.d.p1) c.d.kt
      (resOk (cbcDecRun (if c.k1.hdr.ktype = 1 then Config.tdesDec k else Config.aesDec k) (afterKsn c) (blocks (workBlock c) c.inB)), s)) with
    useAux := fun _ => true, key1 := bdkUse
    keyed := fun c => ksnKeyed workBlock c && workOk c && c.d.inLen % workBlock c == 0 }

/-! ### TR-31 (R259, R260) -/

/-- The version byte of a key block. -/
def tr31Version (b : Bytes) : Nat := leAt b 0 1
/-- The four digits of the block-length field. -/
def tr31Length (b : Bytes) : Option Nat :=
  (slice b 1 4).foldl (fun r x => r.bind (fun n => if 0x30 ≤ x.toNat ∧ x.toNat ≤ 0x39 then some (10 * n + (x.toNat - 0x30)) else none)) (some 0)

/-- A known version, and a block length that is INLEN. -/
def tr31Content (d : Desc) (b _ : Bytes) : Bool :=
  (tr31Version b == 0x41 || tr31Version b == 0x42 || tr31Version b == 0x43 || tr31Version b == 0x44) && tr31Length b == some d.inLen

/-- A key-block protection key of the kind that the version needs. -/
def kbpkUse (modes : String) (v : Nat) : Option (Key → Bool) :=
  some (fun k =>
    (v != 0x44 && (KeyUse.mk [1, 2] [algT] "K1" modes).admits k.hdr) || (v != 0x42 && (KeyUse.mk [3, 4, 5] [algA] "K1" modes).admits k.hdr))

/-- The type of an unwrapped key, from its ALG and length (R260). -/
def tr31Type (alg len : Nat) : Option Nat :=
  if alg = algT ∧ len = 16 then some 1
  else if alg = algT ∧ len = 24 then some 2
  else if alg = algA ∧ len = 16 then some 3
  else if alg = algA ∧ len = 24 then some 4
  else if alg = algA ∧ len = 32 then some 5
  else if alg = algH ∧ len = 32 then some 5
  else none

/-- The same mode of use or a narrower one: B to E or D, C to G or V. -/
def narrower (h a : Nat) : Bool :=
  h == a || (h == 0x42 && (a == 0x45 || a == 0x44)) || (h == 0x43 && (a == 0x47 || a == 0x56))

/-- The place of an exportability in the order S, E, N. -/
def exportRank (x : Nat) : Option Nat := if x = 0x53 then some 0 else if x = 0x45 then some 1 else if x = 0x4E then some 2 else none

/-- ATTR keeps or narrows what the header grants. -/
def attrFits (d : Desc) (b : Bytes) : Bool :=
  d.usage == beNat (slice b 5 2) && d.alg == leAt b 7 1 && narrower (leAt b 8 1) d.mode &&
    (match exportRank (leAt b 11 1), exportRank d.exportability with
      | some h, some a => decide (h ≤ a)
      | _, _ => false)

/-- TR-31 unwrap. -/
def opTr31Unwrap : OpDef :=
  { opPlain (fun d => noDk d && decide (16 ≤ d.inLen)) (fun c s =>
      match Config.tr31Unwrap (keyBytes c.k1) c.inB with
      | none => (resEnd 0x11, s)
      | some mat =>
        match tr31Type (leAt c.inB 7 1) mat.length with
        | none => (resEnd 0x35, countGuard s c.p)
        | some kt => if attrFits c.d c.inB then (resKey kt mat [], s) else (resEnd 0x35, countGuard s c.p)) with
    outMode := fun _ => 0, key1 := fun _ b => kbpkUse "BD" (tr31Version b), content := tr31Content, lateDest := true
    guard := fun c s => guardIf (tr31Version c.inB == 0x42 || tr31Version c.inB == 0x44) c s }

/-- The length of a key block for KEY2 under KEY1: its header, the padded key and the authenticator, in hexadecimal. -/
def tr31Len (c : Ctx) : Nat :=
  let blk := if c.k1.hdr.ktype ≤ 2 then 8 else 16
  16 + 2 * (blk * (((keyBytes c.k2).length + 2 + blk - 1) / blk)) + 2 * blk

/-- A number as `n` ASCII digits. -/
def asciiDigits : Nat → Nat → Bytes
  | 0, _ => []
  | k + 1, n => asciiDigits k (n / 10) ++ [byte (0x30 + n % 10)]

/-- The header of a wrapped key: version B or D, key version "00", no optional blocks. -/
def tr31Header (c : Ctx) : Bytes :=
  let h := c.k2.hdr
  [byte (if c.k1.hdr.ktype ≤ 2 then 0x42 else 0x44)] ++ asciiDigits 4 (tr31Len c) ++ beBytes 2 h.usage ++
    [byte h.alg, byte h.mode] ++ ascii "00" ++ [byte h.exportability] ++ ascii "0000"

/-- TR-31 wrap. -/
def opTr31Wrap : OpDef :=
  { withDraw (opPlain noDk (fun c s =>
      let r := drbgDraw s (c.e / 9) c.p 16 false
      (resOk (Config.tr31Wrap (keyBytes c.k1) (tr31Header c) (keyBytes c.k2) r.1), r.2))) (fun _ => true) with
    useIn := false, key1 := fun _ _ => kbpkUse "BE" 0, key2 := fun _ _ => some (fun _ => true)
    keyed := fun c => c.d.outLen == tr31Len c, guard := wrapGuard }

/-! ### EMV (R261) -/

/-- The issuer master key of P1. -/
def emvUse (d : Desc) (_ : Bytes) : Option (Key → Bool) :=
  some (fun k => (if d.p1 = 1 then KeyUse.mk [1, 2] [algT] "E0" "X" else KeyUse.mk [3, 4, 5] [algA] "E0" "X").admits k.hdr)

/-- AUX after the PAN field: PSN, ATC, ARQC, then what the ARPC needs. -/
def emvTail (c : Ctx) : Bytes := c.auxB.drop (panLen c.auxB)
/-- The session key. -/
def emvKey (c : Ctx) : Bytes :=
  Config.emvSession c.d.p1 (keyBytes c.k1) (panDigits c.auxB) (leAt (emvTail c) 0 1) (beNat (slice (emvTail c) 1 2))
/-- A MAC under the session key, cut to `n` bytes. -/
def emvMac (c : Ctx) (b : Bytes) (n : Nat) : Bytes :=
  (if c.d.p1 = 1 then macAlg3 (emvKey c) 2 b else Config.aesCmac (emvKey c) b).take n
/-- The ARQC of AUX. -/
def emvArqc (c : Ctx) : Bytes := slice (emvTail c) 3 8

/-- The ARPC by method 1 or 2. -/
def emvArpc (c : Ctx) : Bytes :=
  if c.d.d99 = 1 then
    let x := xorBytes (emvArqc c) (padTo 8 (slice (emvTail c) 11 2))
    (if c.d.p1 = 1 then Config.tdesEnc (emvKey c) x else Config.aesEnc (emvKey c) (padTo 16 x)).take 8
  else emvMac c (emvArqc c ++ (emvTail c).drop 11) 4

/-- AUX of an EMV operation: a PAN field and a tail of a length that `f` allows. -/
def emvContent (f : Desc → Nat → Bool) (d : Desc) (_ aux : Bytes) : Bool := panOk aux && f d (aux.length - panLen aux)

/-- An EMV operation. -/
def opEmv (ok : Desc → Bool) (tail : Desc → Nat → Bool) (run : Ctx → State → Res × State) : OpDef :=
  { opPlain (fun d => noDk d && (d.p1 == 1 || d.p1 == 2) && ok d) run with
    useAux := fun _ => true, key1 := emvUse, content := emvContent tail }

/-- ARQC verify. -/
def opArqcVerify : OpDef :=
  { opEmv (fun _ => true) (fun _ n => n == 11) (fun c s => (resVerdict (decide (emvMac c c.inB 8 = emvArqc c)), s)) with outMode := fun _ => 0 }

/-- ARQC verify and ARPC generate. -/
def opArqcArpc : OpDef :=
  opEmv (fun d => (d.d99 == 1 && d.outLen == 8) || (d.d99 == 2 && d.outLen == 4))
    (fun d n => if d.d99 = 1 then n == 13 else decide (15 ≤ n) && decide (n ≤ 23))
    (fun c s => (if emvMac c c.inB 8 = emvArqc c then resOk (emvArpc c) else resEnd 0x11, s))

/-! ### Card values and Luhn (R262, R263) -/

/-- The card verification value of a PAN field, an expiry date and a service code under a double-length key. -/
def cvvOf (key : Bytes) (aux : Bytes) : List Nat :=
  let t := aux.drop (panLen aux)
  let ds := panDigits aux ++ decDigits 4 (t.take 2) ++ decDigits 3 (slice t 2 2)
  let b := packDigits (ds ++ List.replicate (32 - ds.length) 0)
  let k1 := key.take 8
  let k2 := slice key 8 8
  let x := xorBytes (Config.desEnc k1 (b.take 8)) (b.drop 8)
  extractDigits 3 (Config.desEnc k1 (Config.desDec k2 (Config.desEnc k1 x)))

/-- AUX of a card value: PAN field, expiry date, service code, and the value to verify. -/
def cvvContent (ver : Bool) (_ : Desc) (_ aux : Bytes) : Bool :=
  let t := aux.drop (panLen aux)
  panOk aux && decOk 4 (t.take 2) && decOk 3 (slice t 2 2) && t.length == (if ver then 6 else 4) && (!ver || decOk 3 (t.drop 4))

/-- A card verification key. -/
def cvkUse (modes : String) : KeyUse := ⟨[1], [algT], "C0", modes⟩

/-- CVV generate. -/
def opCvvGenerate : OpDef :=
  { opPlain (fun d => noDk d && d.outLen == 2) (fun c s => (resOk (packDigits (cvvOf (keyBytes c.k1) c.auxB)), s)) with
    useIn := false, useAux := fun _ => true, key1 := uses (cvkUse "CG"), content := cvvContent false }

/-- CVV verify: it takes a session token. -/
def opCvvVerify : OpDef :=
  { opPlain noDk (fun c s =>
      (resVerdict (cvvOf (keyBytes c.k1) c.auxB == decDigits 3 ((c.auxB.drop (panLen c.auxB)).drop 4)), s)) with
    useIn := false, useAux := fun _ => true, outMode := fun _ => 0, key1 := uses (cvkUse "CV"), content := cvvContent true, guard := tokenGuard }

/-- The Luhn sum of digits taken from the right; every second one is doubled, starting with `dbl`. -/
def luhnSum : Bool → List Nat → Nat
  | _, [] => 0
  | dbl, d :: t => (if dbl then (if 9 < 2 * d then 2 * d - 9 else 2 * d) else d) + luhnSum (!dbl) t

/-- A digit string of P2 d100 to d101 digits in IN. -/
def luhnOk (d : Desc) : Bool := noDk d && decide (2 ≤ d.d100) && decide (d.d100 ≤ 64) && d.inLen == decBytes d.d100
/-- Its digits are decimal. -/
def luhnContent (d : Desc) (b _ : Bytes) : Bool := (decDigits d.d100 b).all (fun x => decide (x ≤ 9))

/-- Luhn check. -/
def opLuhnCheck : OpDef :=
  { opPlain luhnOk (fun c s => (resVerdict (luhnSum false (decDigits c.d.d100 c.inB).reverse % 10 == 0), s)) with
    outMode := fun _ => 0, content := luhnContent }

/-- Luhn compute: the check digit, then #F. -/
def opLuhnCompute : OpDef :=
  { opPlain (fun d => luhnOk d && d.outLen == 1) (fun c s =>
      (resOk (packDigits [(10 - luhnSum true (decDigits c.d.d100 c.inB).reverse % 10) % 10]), s)) with content := luhnContent }

/-! ### Format-preserving encryption (R264) -/

/-- The bytes of a record. -/
def recLen (d : Desc) : Nat := decBytes d.p0
/-- The number of records. -/
def recCount (d : Desc) : Nat := d.inLen / recLen d

/-- Lengths of a format-preserving operation with tweaks of `t` bytes. -/
def fpeOk (d : Desc) (t : Nat) : Bool :=
  noDk d && decide (6 ≤ d.p0) && decide (d.p0 ≤ 56) && d.inLen % recLen d == 0 && decide (1 ≤ recCount d) &&
    decide (recCount d ≤ 1048576) && d.outLen == d.inLen && d.auxLen == t * (if d.p1.testBit 0 then recCount d else 1)

/-- The tweak of record `i`. -/
def fpeTweak (c : Ctx) (i : Nat) : Bytes := slice c.auxB (if c.d.p1.testBit 0 then i * c.d.d100 else 0) c.d.d100

/-- Every record passed through `f`; one that is no decimal string becomes bytes of #FF. -/
def fpeRun (c : Ctx) (f : Bytes → List Nat → List Nat) : Bytes :=
  (List.range (recCount c.d)).flatMap (fun i =>
    let r := slice c.inB (i * recLen c.d) (recLen c.d)
    if decOk c.d.p0 r then packDigits (f (fpeTweak c i) (decDigits c.d.p0 r)) else List.replicate (recLen c.d) 0xFF)

/-- A format-preserving key. -/
def fpeUse (modes : String) : KeyUse := ⟨[3, 4, 5], [algA], "9T", modes⟩

/-- A single pass. -/
def opFpe (ok : Desc → Bool) (enc : Bool) (f : Bool → Bytes → Bytes → List Nat → List Nat) : OpDef :=
  { opPlain ok (fun c s => (resOk (fpeRun c (fun t => f enc (keyBytes c.k1) t)), s)) with
    useAux := fun _ => true, key1 := uses (fpeUse (if enc then "BE" else "BD")) }

/-- Re-tokenization: KEY1 decrypts and KEY2 encrypts, with the same tweak. -/
def opReToken (ok : Desc → Bool) (f : Bool → Bytes → Bytes → List Nat → List Nat) : OpDef :=
  { opPlain ok (fun c s => (resOk (fpeRun c (fun t x => f true (keyBytes c.k2) t (f false (keyBytes c.k1) t x))), s)) with
    useAux := fun _ => true, key1 := uses (fpeUse "BD"), key2 := uses (fpeUse "BE") }

/-- The lengths of FF1. -/
def ff1Ok (d : Desc) : Bool := decide (d.d100 ≤ 32) && fpeOk d d.d100
/-- The lengths of FF3-1. -/
def ff3Ok (d : Desc) : Bool := d.d100 == 7 && fpeOk d 7

/-! ### The rows -/

/-- PIN_TRANSLATE (#E100). -/
def execPinTranslate (e : Fin 144) (s : State) : Host.Outcome State Fault Refusal := .next (quietSettle (startJob s e 0xE100 opPinTranslate))
/-- PIN_VERIFY_OFFSET (#E110). -/
def execPinVerifyOffset (e : Fin 144) (s : State) : Host.Outcome State Fault Refusal := .next (quietSettle (startJob s e 0xE110 opPinVerifyOffset))
/-- PIN_VERIFY_PVV (#E111). -/
def execPinVerifyPvv (e : Fin 144) (s : State) : Host.Outcome State Fault Refusal := .next (quietSettle (startJob s e 0xE111 opPinVerifyPvv))
/-- PIN_OFFSET_GENERATE (#E120). -/
def execPinOffsetGenerate (e : Fin 144) (s : State) : Host.Outcome State Fault Refusal := .next (quietSettle (startJob s e 0xE120 opPinOffset))
/-- DUKPT_INITIAL_KEY (#E200). -/
def execDukptInitialKey (e : Fin 144) (s : State) : Host.Outcome State Fault Refusal := .next (quietSettle (startJob s e 0xE200 opDukptInitial))
/-- DUKPT_MAC_GENERATE (#E210). -/
def execDukptMacGenerate (e : Fin 144) (s : State) : Host.Outcome State Fault Refusal := .next (quietSettle (startJob s e 0xE210 opDukptMacGen))
/-- DUKPT_MAC_VERIFY (#E211). -/
def execDukptMacVerify (e : Fin 144) (s : State) : Host.Outcome State Fault Refusal := .next (quietSettle (startJob s e 0xE211 opDukptMacVer))
/-- DUKPT_DATA_DECRYPT (#E212). -/
def execDukptDataDecrypt (e : Fin 144) (s : State) : Host.Outcome State Fault Refusal := .next (quietSettle (startJob s e 0xE212 opDukptDecrypt))
/-- TR31_UNWRAP (#E300). -/
def execTr31Unwrap (e : Fin 144) (s : State) : Host.Outcome State Fault Refusal := .next (quietSettle (startJob s e 0xE300 opTr31Unwrap))
/-- TR31_WRAP (#E301). -/
def execTr31Wrap (e : Fin 144) (s : State) : Host.Outcome State Fault Refusal := .next (quietSettle (startJob s e 0xE301 opTr31Wrap))
/-- ARQC_VERIFY (#E400). -/
def execArqcVerify (e : Fin 144) (s : State) : Host.Outcome State Fault Refusal := .next (quietSettle (startJob s e 0xE400 opArqcVerify))
/-- ARQC_VERIFY_AND_ARPC_GENERATE (#E401). -/
def execArqcVerifyAndArpcGenerate (e : Fin 144) (s : State) : Host.Outcome State Fault Refusal := .next (quietSettle (startJob s e 0xE401 opArqcArpc))
/-- CVV_GENERATE (#E500). -/
def execCvvGenerate (e : Fin 144) (s : State) : Host.Outcome State Fault Refusal := .next (quietSettle (startJob s e 0xE500 opCvvGenerate))
/-- CVV_VERIFY (#E501). -/
def execCvvVerify (e : Fin 144) (s : State) : Host.Outcome State Fault Refusal := .next (quietSettle (startJob s e 0xE501 opCvvVerify))
/-- LUHN_CHECK (#E600). -/
def execLuhnCheck (e : Fin 144) (s : State) : Host.Outcome State Fault Refusal := .next (quietSettle (startJob s e 0xE600 opLuhnCheck))
/-- LUHN_COMPUTE (#E601). -/
def execLuhnCompute (e : Fin 144) (s : State) : Host.Outcome State Fault Refusal := .next (quietSettle (startJob s e 0xE601 opLuhnCompute))
/-- FF1_ENCRYPT (#E700). -/
def execFf1Encrypt (e : Fin 144) (s : State) : Host.Outcome State Fault Refusal := .next (quietSettle (startJob s e 0xE700 (opFpe ff1Ok true Config.ff1)))
/-- FF1_DECRYPT (#E701). -/
def execFf1Decrypt (e : Fin 144) (s : State) : Host.Outcome State Fault Refusal := .next (quietSettle (startJob s e 0xE701 (opFpe ff1Ok false Config.ff1)))
/-- FF1_RE_TOKENIZE (#E702). -/
def execFf1ReTokenize (e : Fin 144) (s : State) : Host.Outcome State Fault Refusal := .next (quietSettle (startJob s e 0xE702 (opReToken ff1Ok Config.ff1)))
/-- FF3_1_ENCRYPT (#E710). -/
def execFf31Encrypt (e : Fin 144) (s : State) : Host.Outcome State Fault Refusal := .next (quietSettle (startJob s e 0xE710 (opFpe ff3Ok true Config.ff3)))
/-- FF3_1_DECRYPT (#E711). -/
def execFf31Decrypt (e : Fin 144) (s : State) : Host.Outcome State Fault Refusal := .next (quietSettle (startJob s e 0xE711 (opFpe ff3Ok false Config.ff3)))
/-- FF3_1_RE_TOKENIZE (#E712). -/
def execFf31ReTokenize (e : Fin 144) (s : State) : Host.Outcome State Fault Refusal := .next (quietSettle (startJob s e 0xE712 (opReToken ff3Ok Config.ff3)))

end Sys2Proof.Machine
end

