-- ==== Sys2Proof/Machine/Control.lean ====
section
/-! DEFINITION. Control space: who reads and writes each register, what a read returns and clears, and what a write does (R10
to R13, R177, and the register tables of every chapter). -/

namespace Sys2Proof.Machine

/-! ### Words with live fields -/

/-- CYL_CMODE: the counters, the quads of key-handling partitions, and the mode (R53). -/
def cmodeWord (s : State) (c : Nat) : Word :=
  let khq := (List.range 4).foldl (fun n i => n + b2n (kcQuad s.kc (4 * c + i) != nobody && kcKeyh s.kc (kcQuad s.kc (4 * c + i))) * 2 ^ i) 0
  putFld (putFld (regGet s .cylCmode c) 7 4 khq) 0 0 (b2n (cyl s c).level)

/-- The code of a thread state (R138). -/
def thrCode : ThrState → Nat
  | .none => 0
  | .halt => 1
  | .wait => 2
  | .ready => 3
  | .parked => 4
  | .frozen => 5

/-- The code of a cause of parking (R164). -/
def parkCode : Park → Nat
  | .no => 0
  | .source => 1
  | .unit => 2
  | .flyT => 3
  | .flyC => 4
  | .spec => 5
  | .fetch => 6
  | .mulvis => 7
  | .memory => 8

/-- One digit for each thread of a cylinder, 0 for those that the partition may not see (R164). -/
def thrDigits (s : State) (p c : Nat) (f : Thread → Nat) : Word :=
  w64 ((List.range 16).foldl (fun n i =>
    let th := thr s (16 * c + i)
    n + (if p = 0 ∨ th.part = p then f th else 0) * 16 ^ i) 0)

/-- QUE_CUR of a thread (R313). -/
def queCurWord (s : State) (t : Nat) : Word :=
  let th := thr s t
  let slot := slotIndex s t % 4096 * 2 ^ 32
  match th.current with
  | none => w64 (th.inbox.length % 256 * 2 ^ 48 + slot)
  | some c => w64 (curState s t * 2 ^ 60 + c.cmd.queue % 4 * 2 ^ 56 + th.inbox.length % 256 * 2 ^ 48 + slot +
      itemDigits c.cmd % 65536 * 2 ^ 16 + c.landed % 65536)

/-- The items that a command queue still counts: queued, in an inbox, or current (R279). -/
def heldItemsOf (s : State) (q : Nat) : Nat := ((allCmds s).filter (fun c => c.queue == q)).length

/-- QUE_STAT of a command queue (R313). -/
def queStatWord (s : State) (q : Nat) : Word :=
  let x := cq s q
  regGet s .queStat q ||| w64 (b2n x.gapp * 2 ^ 46 + b2n x.high * 2 ^ 45 + x.occ % 2 ^ 20 * 2 ^ 24 + heldItemsOf s q % 2 ^ 16 * 2 ^ 8)

/-- QUE_STAT of a response queue (R313). -/
def queStatrWord (s : State) (q : Nat) : Word :=
  let x := rq s q
  regGet s .queStatr q ||| w64 (b2n x.gapp * 2 ^ 46 + rqOcc s q % 2 ^ 20 * 2 ^ 24 + x.items.length % 2 ^ 16 * 2 ^ 8)

/-- ARB_INFO for the arbiter and requester that a partition's ARB_SEL selects (R349). -/
def arbInfoWord (s : State) (p : Nat) : Word :=
  let a := fldGet s .arbSel p 27 16
  let r := fldGet s .arbSel p 11 0
  let tk := arbTickets s.kc a r
  let open_ := w64 (tk.2 % 256 * 2 ^ 48 + tk.1 % 16 * 2 ^ 44 + 1)
  if !arbValid a r then 0
  else if p = 0 then open_ ||| w64 (tget 0 (arb s a).wait r % 256 * 2 ^ 36 + tget 0 (arb s a).grants r * 2 ^ 4)
  else if (a < 0x40 ∨ 0x100 ≤ a) ∧ r = p then open_ else 0

/-- ARB_STAT for the arbiter that partition 0 selects (R349). -/
def arbStatWord (s : State) : Word :=
  let a := fldGet s .arbSel 0 27 16
  if arbNums.contains a then w64 ((arb s a).forced * 2 ^ 48 + (arb s a).decisions * 2 ^ 16 + b2n (arb s a).seeded) else 0

/-- KNK_RUN of a thread (R382). -/
def knkRunWord (s : State) (t : Nat) : Word :=
  let th := thr s t
  w64 (th.frames % 4096 * 2 ^ 20 + th.prio.length % 16 * 2 ^ 16 + th.runPri * 2 ^ 12 + (match th.prio with | (_, n) :: _ => n | [] => 0))

/-- KNK_SRC for the source that a partition's KNK_SEL names (R382). -/
def knkSrcWord (s : State) (p : Nat) : Word :=
  let n := fldGet s .knkSel p 11 0
  let r := kcRoute s.kc n
  let x := src s n
  if p ≠ 0 ∧ r.owner ≠ p then 0
  else w64 ((if r.owner = nobody then 0xFFF else r.owner % 4096) * 2 ^ 52 + r.kr % 16 * 2 ^ 48 + r.prio % 16 * 2 ^ 44 + x.cnt * 2 ^ 36 +
    x.claimer * 2 ^ 20 + (b2n x.pend + 2 * b2n x.mask + 4 * b2n x.active + 8 * b2n (ripe s n)))

/-- LANE_STAT (R415). -/
def laneStatWord (s : State) (l : Nat) : Word :=
  putFld (putFld (putFld (regGet s .laneStat l) 11 8 (laneState s l)) 7 4 (kcLaneIndex s.kc l)) 3 0 (kcLaneFunc s.kc l)

/-- LANE_WLINK (R415): a link without lanes is unused. -/
def wlinkWord (s : State) (l : Nat) : Word :=
  let k := wlink s l
  let st := if linkLanes s l = [] then 0 else k.state
  putFld (putFld (putFld (regGet s .laneWlink l) 15 12 (if k.state = 3 then k.peer else 0xF)) 11 8 (if k.state = 3 then k.width else 0)) 3 0 st

/-- LANE_WPAIR (R415). -/
def wpairWord (s : State) (m : Nat) : Word :=
  match routeTo s m with
  | some (h, l) => w64 (h % 16 * 2 ^ 12 + l * 2 ^ 8 + pairState s m)
  | none => w64 (0xF * 2 ^ 12 + 0xF * 2 ^ 8 + pairState s m)

/-! ### Who reads what -/

/-- Whether partition `p` reads register `r` at index `ix`; where it does not, it reads 0 and clears nothing. -/
def mayRead (s : State) (p : Nat) (r : Reg) (ix : Nat) : Bool :=
  match r with
  | .lcFuse => decide (p < 2)
  | .lcReq | .lcRstat | .lcNonce | .lcBoot | .lcBundle => p == 0
  | .dmaHead | .dmaCtl | .dmaStat | .dmaOffs | .dmaCur | .dmaFva => readsChan s p ix
  | .engErr => readsEngErr s p ix
  | .engSeat => p == 0
  | .ksErase => p == 1
  | .ksCount | .ksQlast => decide (p < 2)
  | .ksImg => p == 0
  | .exgStat | .exgPan | .quePstat => p == 0 || p == ix
  | .queStat | .queStatr | .queMod => p == 0 || p == ix / 4
  | .queTlm | .queTcons => p == 0
  | .turnStat | .turnSet | .turnDelta | .turnDstat => decide (p < 2)
  | .arbStat | .arbXmode | .arbXsat => p == 0
  | .keepStall | .keepXlog | .keepPadrel | .keepStat | .keepTamp | .keepWcfg | .keepAseal | .keepAstat | .keepFin => p == 0
  | .keepFsel | .keepFinfo | .keepFlast | .keepQuiet => p == 0
  | .keepAttest => decide (p < 2)
  | .laneStat | .laneDrop | .laneNet0 | .laneNet1 | .laneNet2 | .laneNet3 => p == 0
  | .laneWlink | .laneWpair => decide (p < 2)
  | .pwrStat | .pwrCtl | .pwrFlat | .pwrSleep | .pwrWake | .pwrEvt | .cylIdleT | .pwrKr | .pwrWear => p == 0
  | .tbTally | .tbSet | .tbPtp => p == 0
  | _ => true

/-- What a register holds for partition `p` and thread `t`: the stored value with its live fields; WO fields read 0. -/
def regWord (s : State) (p t : Nat) (r : Reg) (ix : Nat) : Word :=
  match r with
  | .lcId => w64 (lcIdNat s)
  | .lcReq => w64 s.req.lcVa.toNat
  | .lcRstat => lcRstatWord s
  | .lcNonce => s.boot.lcNonce
  | .lcFuse => lcFuseWord s
  | .lcBoot => lcBootWord s
  | .cylCmode => cmodeWord s ix
  | .cylThrst => thrDigits s p ix (fun th => thrCode th.st)
  | .cylPark => thrDigits s p ix (fun th => if th.st = .parked then parkCode th.park else 0)
  | .cylPtroot | .ksSel | .arbSel | .knkVec | .knkSel | .knkStrayCnt => regGet s r p
  | .cylFva => w64 (thr s t).fva.toNat
  | .cylFinfo => (thr s t).finfo
  | .dmaStat => dmaStatWord s ix
  | .dmaOffs => w64 (chan s ix).offs
  | .dmaCur => w64 (chan s ix).cur.toNat
  | .dmaFva => w64 (chan s ix).fva.toNat
  | .engErr => engErrWord s ix
  | .engSeat => engSeatWord s ix
  | .ksInfo => ksInfo s p
  | .ksCount => ksCount s p
  | .ksImg => ksImgWord s
  | .exgPol => exgPolWord s
  | .exgPan => exgPanWord s ix
  | .queCur => queCurWord s t
  | .queStat => queStatWord s ix
  | .queStatr => queStatrWord s ix
  | .turnNum => w64 s.turns.num
  | .turnStat => turnStatWord s p
  | .turnSet => turnSetWord s p
  | .turnDelta => w64 (plane s p).deltaVa.toNat
  | .turnDstat => turnDstatWord s p
  | .turnKcut => turnKcutWord s
  | .arbInfo => arbInfoWord s p
  | .arbStat => arbStatWord s
  | .keepPadrel => padrelWord s
  | .keepStat => keepStatWord s
  | .keepAstat => astatWord s
  | .keepAttest => attestWord s p
  | .keepFinfo => finfoWord s
  | .keepFlast => s.faults.last
  | .keepQuiet => quietWord s
  | .knkRun => knkRunWord s t
  | .knkSrc => knkSrcWord s p
  | .laneStat => laneStatWord s ix
  | .laneNet0 => putFld (regGet s .laneNet0 ix) 47 0 (nth 0 s.fuses.macs ix)
  | .laneWlink => wlinkWord s ix
  | .laneWpair => wpairWord s ix
  | .pwrStat => pwrStatWord s
  | .pwrKr => pwrKrWord s ix
  | .pwrWear => pwrWearWord s ix
  | .tbNow => w64 s.now
  | .tbTally => w64 (tallyNow s)
  | _ => regGet s r ix

/-- The index under which a register's stored value is kept: its bank's, or its own. -/
def regIndex (r : Reg) (p ix : Nat) : Nat := if (regPlace r).bank = .part then p else ix

/-- A read of a control register by partition `p` on thread `t`: the value, and the state in which its RC fields are clear. A
read of KNK_CLAIM is a claim (R373). -/
def ctlRead (s : State) (p t : Nat) (r : Reg) (ix : Nat) : Word × State :=
  if r = .knkClaim then claim s t
  else if mayRead s p r ix then (regWord s p t r ix, clearOnRead s r (regIndex r p ix))
  else (0, s)

/-- A read whose value the model keeps as the last that control space has answered. -/
def ctlReadRow (s : State) (p t : Nat) (r : Reg) (ix : Nat) : State :=
  let x := ctlRead s p t r ix
  { x.2 with rdata := x.1 }

/-! ### Writes -/

/-- A write of LC_BOOT by its ACT (R508). -/
def lcBootWrite (s : State) (p : Nat) (v : Word) : State :=
  if p ≠ 0 then s
  else match fld v 63 60 with
  | 1 => modBoot s (fun b => { b with go := true })
  | 2 => warmWrite s p
  | 3 => warmBundleWrite s p
  | 4 => exportTraining s p
  | _ => s

/-- A write of CYL_TLBINV (R207). -/
def tlbinvWrite (s : State) (p t : Nat) (v : Word) : State :=
  match fld v 63 60 with
  | 1 => addInval s p (some (fld v 55 0)) (some t)
  | 2 => addInval s p none (some t)
  | _ => s

/-- A write of KS_IMG (R505). -/
def ksImgRegWrite (s : State) (p : Nat) (v : Word) : State :=
  if p ≠ 0 then s
  else if fld v 63 60 = 1 then ksImgWrite s p (BitVec.ofNat 56 v.toNat)
  else { s with req := { s.req with ksVa := BitVec.ofNat 56 v.toNat } }

/-- A write of QUE_MOD (R310, R313): reserved values leave their fields as they are. -/
def queModWrite (s : State) (p q : Nat) (v : Word) : State :=
  if p ≠ 0 ∧ p ≠ q / 4 then s
  else
    let old := regGet s .queMod q
    let v := keepField old v 19 8 (fun n => decide (1 ≤ n ∧ n ≤ 1000))
    plainWrite s .queMod q (keepField old v 7 0 (fun n => decide (1 ≤ n)))

/-- A write of KEEP_ASEAL (R468, R471). -/
def asealWrite (s : State) (p : Nat) (v : Word) : State :=
  match fld v 63 60 with
  | 1 => sealWrite s p (BitVec.ofNat 56 v.toNat) false
  | 2 => sealWrite s p (BitVec.ofNat 56 v.toNat) true
  | _ => if p = 0 then plainWrite s .keepAseal 0 v else s

/-- A write of KEEP_QUIET by its ACT (R486, R489). -/
def quietWrite (s : State) (p : Nat) (v : Word) : State :=
  if p ≠ 0 then s
  else match fld v 63 60 with
  | 1 => startSelftest s p
  | 2 => quietExit s p
  | 3 => enterQuiet s 1
  | _ => s

/-- A write of KEEP_STALL (R360). -/
def stallWrite (s : State) (p : Nat) (v : Word) : State :=
  if p ≠ 0 then s
  else plainWrite s .keepStall 0 (keepField (regGet s .keepStall 0) v 13 0 (fun n => decide (10 ≤ n ∧ n ≤ 10000)))

/-- A write of TB_PTP (R446). -/
def ptpWrite (s : State) (p : Nat) (v : Word) : State :=
  if p ≠ 0 then s
  else plainWrite s .tbPtp 0 (keepField (regGet s .tbPtp 0) v 3 0 (fun n => n == 0 || n == 1 || n == 0xF))

/-- What a write of value `v` to a control register does, by partition `p` on thread `t`. -/
def ctlEffect (s : State) (p t : Nat) (r : Reg) (ix : Nat) (v : Word) : State :=
  let mine := fun (s' : State) => if p = 0 then s' else s
  match r with
  | .lcReq => lcReqWrite s p (fld v 55 0)
  | .lcBoot => lcBootWrite s p v
  | .cylPtroot => ptrootWrite s p v (some t)
  | .cylTlbinv => tlbinvWrite s p t v
  | .dmaHead => dmaHeadWrite s p ix v
  | .dmaCtl => dmaCtlWrite s p ix v
  | .dmaStat => if chanOwner s ix = p then plainWrite s .dmaStat ix v else s
  | .ksErase => ksEraseWrite s p v
  | .ksImg => ksImgRegWrite s p v
  | .queDone => queDone s t (fld v 63 60) (fld v 57 56)
  | .queMod => queModWrite s p ix v
  | .queTlm => if fbit v 0 then tlmFlush s p ix else s
  | .turnCommit => if fbit v 0 then turnCommitWrite s p else s
  | .turnSet => turnSetWrite s p (fld v 63 60)
  | .turnDelta => turnDeltaWrite s p (BitVec.ofNat 56 v.toNat)
  | .ksSel | .arbSel | .knkVec | .knkSel => plainWrite s r p v
  | .arbXmode => arbXmodeWrite s p v
  | .keepStall => stallWrite s p v
  | .keepPadrel => padrelWrite s p v
  | .keepWcfg => wcfgWrite s p v
  | .keepAseal => asealWrite s p v
  | .keepAttest => attestWrite s p (BitVec.ofNat 56 v.toNat)
  | .keepQuiet => quietWrite s p v
  | .knkDoorbell => raise s p (fld v 11 0)
  | .knkPendSet => pendSet s p (fld v 11 0)
  | .knkPendClr => pendClr s p (fld v 11 0)
  | .knkMaskSet => maskWrite s p (fld v 11 0) true
  | .knkMaskClr => maskWrite s p (fld v 11 0) false
  | .knkEoi => endOfInterrupt s t (fld v 11 0)
  | .knkRtn => if fbit v 0 then knkReturn s t else s
  | .pwrCtl => pwrCtlWrite s p v
  | .pwrFlat => flatWrite s p v
  | .pwrSleep => sleepWrite s p v
  | .cylIdleT => idleWrite s p v
  | .tbSet => tbSetWrite s p v
  | .tbPtp => ptpWrite s p v
  | .lcBundle | .queTcons | .arbXsat | .keepTamp | .keepFin | .keepFsel => mine (plainWrite s r ix v)
  | .laneNet0 | .laneNet1 | .laneNet2 | .laneNet3 => mine (plainWrite s r ix v)
  | .pwrWake | .pwrEvt | .tbStatus => mine (plainWrite s r ix v)
  | _ => s

/-- A write to a control-space address: the register there takes it. -/
def ctlWrite (s : State) (p t addr : Nat) (v : Word) : State :=
  match regAt addr with
  | none => s
  | some (r, ix) => warmSettle (quietSettle (settle (ctlEffect s p t r ix v)))

/-! ### The rows -/

/-- CYL_CMODE_READ (R53). -/
def execCylCmodeRead (p : Fin 256) (c : Fin 128) (s : State) : Host.Outcome State Fault Refusal := .next (ctlReadRow s p 0 .cylCmode c)
/-- KS_QLAST_READ (R189). -/
def execKsQlastRead (p : Fin 256) (s : State) : Host.Outcome State Fault Refusal := .next (ctlReadRow s p 0 .ksQlast 0)
/-- DMA_STAT_READ (R216). -/
def execDmaStatRead (p : Fin 256) (c : Fin 512) (s : State) : Host.Outcome State Fault Refusal := .next (ctlReadRow s p 0 .dmaStat c)
/-- ENG_ERR_READ (R243). -/
def execEngErrRead (p : Fin 256) (e : Fin 144) (s : State) : Host.Outcome State Fault Refusal := .next (ctlReadRow s p 0 .engErr e)
/-- EXG_STAT_READ (R277). -/
def execExgStatRead (p q : Fin 256) (s : State) : Host.Outcome State Fault Refusal := .next (ctlReadRow s p 0 .exgStat q)
/-- QUE_STAT_READ (R313). -/
def execQueStatRead (p : Fin 256) (q : Fin 1024) (response : Bool) (s : State) : Host.Outcome State Fault Refusal :=
  .next (ctlReadRow s p 0 (if response then .queStatr else .queStat) q)
/-- QUE_PSTAT_READ (R313). -/
def execQuePstatRead (p q : Fin 256) (s : State) : Host.Outcome State Fault Refusal := .next (ctlReadRow s p 0 .quePstat q)
/-- QUE_TLM_READ (R313). -/
def execQueTlmRead (p : Fin 256) (j : Fin 16) (s : State) : Host.Outcome State Fault Refusal := .next (ctlReadRow s p 0 .queTlm j)
/-- KEEP_XLOG_READ (R360). -/
def execKeepXlogRead (p : Fin 256) (s : State) : Host.Outcome State Fault Refusal := .next (ctlReadRow s p 0 .keepXlog 0)
/-- KNK_STRAY_CNT_READ (R382). -/
def execKnkStrayCntRead (p : Fin 256) (s : State) : Host.Outcome State Fault Refusal := .next (ctlReadRow s p 0 .knkStrayCnt 0)
/-- LANE_STAT_READ (R415). -/
def execLaneStatRead (p : Fin 256) (l : Fin 48) (s : State) : Host.Outcome State Fault Refusal := .next (ctlReadRow s p 0 .laneStat l)
/-- LANE_DROP_READ (R415). -/
def execLaneDropRead (p : Fin 256) (j : Fin 5) (s : State) : Host.Outcome State Fault Refusal := .next (ctlReadRow s p 0 .laneDrop j)
/-- LANE_WLINK_READ (R415). -/
def execLaneWlinkRead (p : Fin 256) (l : Fin 4) (s : State) : Host.Outcome State Fault Refusal := .next (ctlReadRow s p 0 .laneWlink l)
/-- KEEP_TAMP_READ (R472). -/
def execKeepTampRead (p : Fin 256) (s : State) : Host.Outcome State Fault Refusal := .next (ctlReadRow s p 0 .keepTamp 0)
/-- REGISTER_WRITE (R10). -/
def execRegisterWrite (p : Fin 256) (t : Fin 2048) (addr : Nat) (v : Word) (s : State) : Host.Outcome State Fault Refusal :=
  .next (ctlWrite s p t addr v)

end Sys2Proof.Machine
end

