-- ==== Sys2Proof/Machine/FlowIssue.lean ====
section
/-! DEFINITION. The issue rows of flow control, thread control and fences (R109 to R144, R162). Each takes one issue
decision for a thread whose next word is of the row. -/

namespace Sys2Proof.Machine

/-- CB_EQ_T (R109). -/
def execCbEqT (t : Fin 2048) (s : State) : Host.Outcome State Fault Refusal := .next (issue s t (.dst 0x104))

/-- CB_NE_T (R109). -/
def execCbNeT (t : Fin 2048) (s : State) : Host.Outcome State Fault Refusal := .next (issue s t (.dst 0x105))

/-- CB_LT_T (R109). -/
def execCbLtT (t : Fin 2048) (s : State) : Host.Outcome State Fault Refusal := .next (issue s t (.dst 0x106))

/-- CB_GE_T (R109). -/
def execCbGeT (t : Fin 2048) (s : State) : Host.Outcome State Fault Refusal := .next (issue s t (.dst 0x107))

/-- CB_LTU_T (R109). -/
def execCbLtuT (t : Fin 2048) (s : State) : Host.Outcome State Fault Refusal := .next (issue s t (.dst 0x108))

/-- CB_GEU_T (R109). -/
def execCbGeuT (t : Fin 2048) (s : State) : Host.Outcome State Fault Refusal := .next (issue s t (.dst 0x109))

/-- CB_BS_T (R110). -/
def execCbBsT (t : Fin 2048) (s : State) : Host.Outcome State Fault Refusal := .next (issue s t (.dst 0x10A))

/-- CB_BC_T (R110). -/
def execCbBcT (t : Fin 2048) (s : State) : Host.Outcome State Fault Refusal := .next (issue s t (.dst 0x10B))

/-- JMP_T (R110). -/
def execJmpT (t : Fin 2048) (s : State) : Host.Outcome State Fault Refusal := .next (issue s t (.dst 0x10C))

/-- JMP_REL_T (R110). -/
def execJmpRelT (t : Fin 2048) (s : State) : Host.Outcome State Fault Refusal := .next (issue s t (.dst 0x10D))

/-- CALL_T (R121). -/
def execCallT (t : Fin 2048) (s : State) : Host.Outcome State Fault Refusal := .next (issue s t (.dst 0x110))

/-- RET_T (R124). -/
def execRetT (t : Fin 2048) (s : State) : Host.Outcome State Fault Refusal := .next (issue s t (.dst 0x111))

/-- REP_T (R127). -/
def execRepT (t : Fin 2048) (s : State) : Host.Outcome State Fault Refusal := .next (issue s t (.dst 0x119))

/-- THR_WAIT_T (R141). -/
def execThrWaitT (t : Fin 2048) (s : State) : Host.Outcome State Fault Refusal := .next (issue s t (.dst 0x120))

/-- THR_HALT_T (R142). -/
def execThrHaltT (t : Fin 2048) (s : State) : Host.Outcome State Fault Refusal := .next (issue s t (.dst 0x121))

/-- THR_YIELD_T (R144). -/
def execThrYieldT (t : Fin 2048) (s : State) : Host.Outcome State Fault Refusal := .next (issue s t (.dst 0x122))

/-- THR_START_T (R142). -/
def execThrStartT (t : Fin 2048) (s : State) : Host.Outcome State Fault Refusal := .next (issue s t (.dst 0x123))

/-- CTL_IFENCE (R133). -/
def execCtlIfence (t : Fin 2048) (s : State) : Host.Outcome State Fault Refusal := .next (issue s t (.dst 0x12C))

/-- FENCE_SL (R162). -/
def execFenceSl (t : Fin 2048) (s : State) : Host.Outcome State Fault Refusal := .next (issue s t (.fence 0))

/-- FENCE_FULL (R162). -/
def execFenceFull (t : Fin 2048) (s : State) : Host.Outcome State Fault Refusal := .next (issue s t (.fence 1))

/-- FENCE_DEV (R162). -/
def execFenceDev (t : Fin 2048) (s : State) : Host.Outcome State Fault Refusal := .next (issue s t (.fence 2))

/-- FENCE_DRAIN (R162). -/
def execFenceDrain (t : Fin 2048) (s : State) : Host.Outcome State Fault Refusal := .next (issue s t (.fence 3))

end Sys2Proof.Machine
end

