-- ==== Sys2Proof/Machine/Land.lean ====
section
/-! DEFINITION. Loads that land and stores that leave the store buffer, to memory and to control space (R158 to R161, R175 to
R181, R193 to R196, R356, R479). -/

namespace Sys2Proof.Machine

/-! ### Where an access goes -/

/-- The register that an access to control space reaches (R177). -/
def ctlTarget (ps : Pieces) : Option (Reg × Nat) :=
  match ps with
  | [(a, _)] => if isCtl a then regAt a else none
  | _ => none

/-- Whether a line of DRAM is on a stack whose domain is DOWN or STALLED, and in no keyring store of the partition (R190, R356). -/
def lineOut (s : State) (k part line : Nat) : Bool :=
  isDram (128 * line) && domOut s (13 + lineChannel line / 8) &&
    !(tget csetInit (kring s k).store (line % 4096)).lines.any (fun l => l.line == line && l.part == part)

/-- Whether an access meets such a line. -/
def accessOut (s : State) (t : Nat) (ps : Pieces) : Bool := (pieceLines ps).any (lineOut s (krOf t) (thr s t).part)

/-! ### Loads (R153, R159 to R161, R176) -/

/-- What ECC finds on a load: a DRAM line by R193; a word of secure scratch by R181, which completes poisoned on a double
error. -/
def loadEcc (s : State) (ps : Pieces) (o : EccOutcome) : Bool × State :=
  match ps with
  | [] => (false, s)
  | (a, _) :: _ =>
    if isDram a then (false, lineOutcome s (lineOf a) o)
    else if isScratch a then
      (match o with
      | .corrected => (false, report s 4 3 5 0xFF a)
      | .uncorrectable => (true, report s 4 3 6 0xFF a)
      | _ => (false, s))
    else (false, s)

/-- The value of a load from memory, with the caches that it passes. -/
def loadMem (s : State) (t : Nat) (ps : Pieces) (o : EccOutcome) : Word × Bool × State :=
  if accessOut s t ps then ((loadPieces s ps).1, true, countDown s)
  else
    let e := loadEcc s ps o
    let s := (pieceLines ps).foldl (fun s l => cacheLoad s t l) e.2
    ((loadPieces s ps).1, (loadPieces s ps).2 || e.1, s)

/-- The thread's oldest memory operation not yet performed, when it is a load. -/
def oldestLoad (th : Thread) : Option (Op × Pieces × Option (Word × Bool) × Bool) :=
  match th.arch.ops.find? isMemOp with
  | some o =>
    match o.kind with
    | .load _ _ _ ps fwd reserve => some (o, ps, fwd, reserve)
    | .strLoad _ ps fwd => some (o, ps, fwd, false)
    | _ => none
  | none => none

/-- The oldest load of a thread lands. A load from control space, and one that reserves, waits for the store buffer to drain. -/
def loadLands (s : State) (t : Nat) (ecc : EccOutcome) : State :=
  match oldestLoad (thr s t) with
  | none => s
  | some (o, ps, fwd, reserve) =>
    match ctlTarget ps with
    | some (r, ix) =>
      if (thr s t).sbuf ≠ [] then s
      else
        let x := ctlRead s (thr s t).part t r ix
        settle (landValue { x.2 with rdata := x.1 } t o x.1 false)
    | none =>
      match fwd with
      | some (v, bad) => settle (landValue s t o v bad)
      | none =>
        if reserve && !drained (thr s t) o.id then s
        else
          let x := loadMem s t ps ecc
          let s := landValue x.2.2 t o x.1 x.2.1
          settle (if reserve then modThr s t (fun th => { th with resv := some (pieceLines ps) }) else s)

/-! ### Stores (R159 to R161, R175, R196) -/

/-- A buffered store performed in memory; one whose entry failed parity poisons every line it touches. -/
def storeMem (s : State) (t : Nat) (e : SbEntry) (parity : Bool) : State :=
  if accessOut s t e.pieces then countDown s
  else
    let s := storePieces s (some t) e.pieces (natDigits e.w e.data.toNat) (e.poison || parity)
    (pieceLines e.pieces).foldl (fun s l => cacheStore s t l) s

/-- A store that reaches a control register; the value that poisoned data give it is not stated, and a parity error drops it. -/
def storeCtl (s : State) (t a : Nat) (e : SbEntry) (parity : Bool) : State :=
  if parity then s
  else if e.poison then
    let f := freeWord s
    ctlWrite f.2 (thr f.2 t).part t a f.1
  else ctlWrite s (thr s t).part t a e.data

/-- The oldest entry of a thread's store buffer leaves it, once every earlier load has been performed. -/
def storeLeaves (s : State) (t : Nat) (parity : Bool) : State :=
  let th := thr s t
  match th.sbuf with
  | [] => s
  | e :: rest =>
    if !oldestMem th e.id then s
    else
      let s := putThr s t { th with sbuf := rest, parity := th.parity || parity }
      let s := if parity then report s 1 (cylOf t) 4 th.part 0 else s
      settle (match e.pieces with
        | [(a, _)] => if isCtl a then storeCtl s t a e parity else storeMem s t e parity
        | _ => storeMem s t e parity)

/-! ### The rows -/

/-- LOAD_DATA_LAND (R159, R193). -/
def execLoadDataLand (t : Fin 2048) (ecc : EccOutcome) (s : State) : Host.Outcome State Fault Refusal := .next (loadLands s t ecc)
/-- STORE_LEAVES_BUFFER (R175, R196). -/
def execStoreLeavesBuffer (t : Fin 2048) (parityError : Bool) (s : State) : Host.Outcome State Fault Refusal :=
  .next (storeLeaves s t parityError)

end Sys2Proof.Machine
end

