-- ==== Sys2Proof/Machine/MemIssue.lean ====
section
/-! DEFINITION. The issue rows of loads, stores, atomics, keyring bits, seats, jobs and blank ports (R69, R148 to R176, R220 to R226, R336). Each takes one issue
decision for a thread whose next word is of the row. -/

namespace Sys2Proof.Machine

/-- LD_T (R159). -/
def execLdT (t : Fin 2048) (s : State) : Host.Outcome State Fault Refusal := .next (issue s t (.dst 0x141))

/-- LDR_T (R153). -/
def execLdrT (t : Fin 2048) (s : State) : Host.Outcome State Fault Refusal := .next (issue s t (.dst 0x142))

/-- ST_T (R175). -/
def execStT (t : Fin 2048) (s : State) : Host.Outcome State Fault Refusal := .next (issue s t (.dst 0x145))

/-- STC_T (R153). -/
def execStcT (t : Fin 2048) (s : State) : Host.Outcome State Fault Refusal := .next (issue s t (.dst 0x146))

/-- AT_ADD_T (R156). -/
def execAtAddT (t : Fin 2048) (s : State) : Host.Outcome State Fault Refusal := .next (issue s t (.dst 0x14A))

/-- AT_SWP_T (R156). -/
def execAtSwpT (t : Fin 2048) (s : State) : Host.Outcome State Fault Refusal := .next (issue s t (.dst 0x14B))

/-- AT_CAS_T (R156). -/
def execAtCasT (t : Fin 2048) (s : State) : Host.Outcome State Fault Refusal := .next (issue s t (.dst 0x14C))

/-- STR_LD (R69). -/
def execStrLd (t : Fin 2048) (s : State) : Host.Outcome State Fault Refusal := .next (issue s t (.src 0x152))

/-- STR_ST (R69). -/
def execStrSt (t : Fin 2048) (s : State) : Host.Outcome State Fault Refusal := .next (issue s t (.dst 0x153))

/-- BS_TAS_T (R151). -/
def execBsTasT (t : Fin 2048) (s : State) : Host.Outcome State Fault Refusal := .next (issue s t (.dst 0x064))

/-- BS_K_READ (R150). -/
def execBsKRead (t : Fin 2048) (s : State) : Host.Outcome State Fault Refusal := .next (issue s t (.src 0x063))

/-- BS_K_WRITE (R152). -/
def execBsKWrite (t : Fin 2048) (s : State) : Host.Outcome State Fault Refusal := .next (issue s t (.dst 0x063))

/-- ENG_RSV_T (R220). -/
def execEngRsvT (t : Fin 2048) (s : State) : Host.Outcome State Fault Refusal := .next (issue s t (.dst 0x300))

/-- ENG_REL_T (R223). -/
def execEngRelT (t : Fin 2048) (s : State) : Host.Outcome State Fault Refusal := .next (issue s t (.dst 0x301))

/-- E_JOB_T (R226). -/
def execEJobT (t : Fin 2048) (s : State) : Host.Outcome State Fault Refusal := .next (issue s t .ejob)

/-- BLANK_MOVE (R336). -/
def execBlankMove (t : Fin 2048) (s : State) : Host.Outcome State Fault Refusal := .next (issue s t .blank)

end Sys2Proof.Machine
end

