-- ==== Sys2Proof/Machine/Moves.lean ====
section
/-! DEFINITION. The issue rows of moves and digit units (R55 to R104). Each takes one issue
decision for a thread whose next word is of the row. -/

namespace Sys2Proof.Machine

/-- MOVE_ISSUE (R55). -/
def execMoveIssue (t : Fin 2048) (s : State) : Host.Outcome State Fault Refusal := .next (issue s t .move)

/-- IMM_HI_APPEND (R61). -/
def execImmHiAppend (t : Fin 2048) (s : State) : Host.Outcome State Fault Refusal := .next (issue s t (.dst 0x1CF))

/-- ADD_T (R82). -/
def execAddT (t : Fin 2048) (s : State) : Host.Outcome State Fault Refusal := .next (issue s t (.dst 0x081))

/-- SUB_T (R82). -/
def execSubT (t : Fin 2048) (s : State) : Host.Outcome State Fault Refusal := .next (issue s t (.dst 0x082))

/-- ADC_T (R82). -/
def execAdcT (t : Fin 2048) (s : State) : Host.Outcome State Fault Refusal := .next (issue s t (.dst 0x083))

/-- SBB_T (R82). -/
def execSbbT (t : Fin 2048) (s : State) : Host.Outcome State Fault Refusal := .next (issue s t (.dst 0x084))

/-- NEG_T (R91). -/
def execNegT (t : Fin 2048) (s : State) : Host.Outcome State Fault Refusal := .next (issue s t (.dst 0x085))

/-- AND_T (R84). -/
def execAndT (t : Fin 2048) (s : State) : Host.Outcome State Fault Refusal := .next (issue s t (.dst 0x091))

/-- OR_T (R84). -/
def execOrT (t : Fin 2048) (s : State) : Host.Outcome State Fault Refusal := .next (issue s t (.dst 0x092))

/-- XOR_T (R84). -/
def execXorT (t : Fin 2048) (s : State) : Host.Outcome State Fault Refusal := .next (issue s t (.dst 0x093))

/-- ANDN_T (R84). -/
def execAndnT (t : Fin 2048) (s : State) : Host.Outcome State Fault Refusal := .next (issue s t (.dst 0x094))

/-- NOT_T (R84). -/
def execNotT (t : Fin 2048) (s : State) : Host.Outcome State Fault Refusal := .next (issue s t (.dst 0x095))

/-- SHL_T (R85). -/
def execShlT (t : Fin 2048) (s : State) : Host.Outcome State Fault Refusal := .next (issue s t (.dst 0x0A1))

/-- SHR_T (R85). -/
def execShrT (t : Fin 2048) (s : State) : Host.Outcome State Fault Refusal := .next (issue s t (.dst 0x0A2))

/-- SAR_T (R85). -/
def execSarT (t : Fin 2048) (s : State) : Host.Outcome State Fault Refusal := .next (issue s t (.dst 0x0A3))

/-- ROL_T (R85). -/
def execRolT (t : Fin 2048) (s : State) : Host.Outcome State Fault Refusal := .next (issue s t (.dst 0x0A4))

/-- ROR_T (R85). -/
def execRorT (t : Fin 2048) (s : State) : Host.Outcome State Fault Refusal := .next (issue s t (.dst 0x0A5))

/-- CMP_EQ_T (R86). -/
def execCmpEqT (t : Fin 2048) (s : State) : Host.Outcome State Fault Refusal := .next (issue s t (.dst 0x0B1))

/-- CMP_LT_T (R86). -/
def execCmpLtT (t : Fin 2048) (s : State) : Host.Outcome State Fault Refusal := .next (issue s t (.dst 0x0B2))

/-- CMP_LTU_T (R86). -/
def execCmpLtuT (t : Fin 2048) (s : State) : Host.Outcome State Fault Refusal := .next (issue s t (.dst 0x0B3))

/-- CMP_LE_T (R86). -/
def execCmpLeT (t : Fin 2048) (s : State) : Host.Outcome State Fault Refusal := .next (issue s t (.dst 0x0B4))

/-- CMP_LEU_T (R86). -/
def execCmpLeuT (t : Fin 2048) (s : State) : Host.Outcome State Fault Refusal := .next (issue s t (.dst 0x0B5))

/-- DADD_T (R88). -/
def execDaddT (t : Fin 2048) (s : State) : Host.Outcome State Fault Refusal := .next (issue s t (.dst 0x0C1))

/-- DSUB_T (R88). -/
def execDsubT (t : Fin 2048) (s : State) : Host.Outcome State Fault Refusal := .next (issue s t (.dst 0x0C2))

/-- DCHK_T (R90). -/
def execDchkT (t : Fin 2048) (s : State) : Host.Outcome State Fault Refusal := .next (issue s t (.dst 0x0C3))

/-- DCVT_T (R90). -/
def execDcvtT (t : Fin 2048) (s : State) : Host.Outcome State Fault Refusal := .next (issue s t (.dst 0x0C4))

/-- BCVT_T (R90). -/
def execBcvtT (t : Fin 2048) (s : State) : Host.Outcome State Fault Refusal := .next (issue s t (.dst 0x0C5))

/-- MUL_T (R95). -/
def execMulT (t : Fin 2048) (s : State) : Host.Outcome State Fault Refusal := .next (issue s t (.dst 0x0D1))

/-- MULS_T (R95). -/
def execMulsT (t : Fin 2048) (s : State) : Host.Outcome State Fault Refusal := .next (issue s t (.dst 0x0D2))

/-- DIV_T (R99). -/
def execDivT (t : Fin 2048) (s : State) : Host.Outcome State Fault Refusal := .next (issue s t (.dst 0x0E1))

/-- DIVS_T (R99). -/
def execDivsT (t : Fin 2048) (s : State) : Host.Outcome State Fault Refusal := .next (issue s t (.dst 0x0E2))

end Sys2Proof.Machine
end

