-- ==== Sys2Proof/Machine/PublicJobs.lean ====
section
/-! DEFINITION. The lattice and big-number engines' operations (R240, R241, R236). -/

namespace Sys2Proof.Machine

/-! ### Lattice (R240) -/

/-- The parameter sets of ML-DSA by P0: 0, 1, 2. -/
def dsaSet (d : Desc) : Option Nat := if d.p0 = 0x44 then some 0 else if d.p0 = 0x65 then some 1 else if d.p0 = 0x87 then some 2 else none
/-- The parameter sets of ML-KEM by P0: 0, 1. -/
def kemSet (d : Desc) : Option Nat := if d.p0 = 0x76 then some 0 else if d.p0 = 0xA4 then some 1 else none

/-- Public-key and signature lengths of ML-DSA (FIPS 204). -/
def dsaPub (i : Nat) : Nat := nth 0 [1312, 1952, 2592] i
/-- Signature lengths. -/
def dsaSig (i : Nat) : Nat := nth 0 [2420, 3309, 4627] i
/-- Encapsulation-key and ciphertext lengths of ML-KEM (FIPS 203). -/
def kemPub (i : Nat) : Nat := nth 0 [1184, 1568] i
/-- Ciphertext lengths. -/
def kemCt (i : Nat) : Nat := nth 0 [1088, 1568] i

/-- A rule that holds for the parameter set of P0, when there is one. -/
def whenSet (x : Option Nat) (f : Nat → Bool) : Bool := match x with | some i => f i | none => false

/-- A secret key of the parameter set of P0. -/
def dsaKey (d : Desc) (_ : Bytes) : Option (Key → Bool) :=
  some (fun k => (KeyUse.mk [8, 9, 10] [algQ] "S0" "ST").admits k.hdr && k.hdr.ktype == 8 + (dsaSet d).getD 0)
/-- A decapsulation key of the parameter set of P0. -/
def kemKey (d : Desc) (_ : Bytes) : Option (Key → Bool) :=
  some (fun k => (KeyUse.mk [11, 12] [algQ] "D1" "BD").admits k.hdr && k.hdr.ktype == 11 + (kemSet d).getD 0)

/-- ML-DSA key generation. -/
def opDsaKeyGen : OpDef :=
  withDraw { opPlain (fun d => whenSet (dsaSet d) (fun i => d.outLen == dsaPub i)) (fun c s =>
      let r := drbgDraw s (c.e / 9) c.p 32 false
      let i := (dsaSet c.d).getD 0
      let k := Config.mlDsaKeyGen i r.1
      (resKey (8 + i) (padTo (matLen (8 + i)) k.2) k.1, r.2)) with
    useIn := false, dest := fun d => (dsaSet d).map (fun i => (8 + i, spanFor (matLen (8 + i)))) } (fun _ => true)

/-- ML-DSA signing: hedged unless DET; LIMIT when every attempt was rejected (R236). -/
def opDsaSign : OpDef :=
  withDraw { opPlain (fun d => whenSet (dsaSet d) (fun i => d.outLen == dsaSig i) && decide (d.auxLen ≤ 255) &&
        decide (d.p1 ≤ 1) && (d.p1 == 0 || d.inLen == 64)) (fun c s =>
      let r := if c.d.det then (zeros 32, s) else drbgDraw s (c.e / 9) c.p 32 false
      match Config.mlDsaSign ((dsaSet c.d).getD 0 + 16 * c.d.p1) (keyBytes c.k1) c.auxB c.inB r.1 with
      | some sig => (resOk sig, r.2)
      | none => (resEnd 0x40, r.2)) with
    useAux := fun _ => true, key1 := dsaKey } (fun d => !d.det)

/-- ML-DSA verification: the signature stands at OUT and is only read. -/
def opDsaVerify : OpDef :=
  { opPlain (fun d => whenSet (dsaSet d) (fun i => d.outLen == dsaSig i && decide (dsaPub i ≤ d.auxLen) && decide (d.auxLen ≤ dsaPub i + 255)))
      (fun c s =>
        let i := (dsaSet c.d).getD 0
        (resVerdict (Config.mlDsaVerify i (c.auxB.take (dsaPub i)) (c.auxB.drop (dsaPub i)) c.inB c.outB), s)) with
    useAux := fun _ => true, outMode := fun _ => 2 }

/-- ML-KEM key generation. -/
def opKemKeyGen : OpDef :=
  withDraw { opPlain (fun d => whenSet (kemSet d) (fun i => d.outLen == kemPub i)) (fun c s =>
      let r := drbgDraw s (c.e / 9) c.p 64 false
      let i := (kemSet c.d).getD 0
      let k := Config.mlKemKeyGen i r.1
      (resKey (11 + i) (padTo (matLen (11 + i)) k.2) k.1, r.2)) with
    useIn := false, dest := fun d => (kemSet d).map (fun i => (11 + i, spanFor (matLen (11 + i)))) } (fun _ => true)

/-- ML-KEM encapsulation. -/
def opKemEncap : OpDef :=
  withDraw { opPlain (fun d => whenSet (kemSet d) (fun i => d.auxLen == kemPub i && d.outLen == kemCt i)) (fun c s =>
      let r := drbgDraw s (c.e / 9) c.p 32 false
      let x := Config.mlKemEncap ((kemSet c.d).getD 0) c.auxB r.1
      (resKey 5 (padTo 32 x.2) x.1, r.2)) with
    useIn := false, useAux := fun _ => true, dest := fun _ => some (5, 1) } (fun _ => true)

/-- ML-KEM decapsulation. -/
def opKemDecap : OpDef :=
  { opPlain (fun d => whenSet (kemSet d) (fun i => d.inLen == kemCt i)) (fun c s =>
      (resKey 5 (padTo 32 (Config.mlKemDecap ((kemSet c.d).getD 0) (keyBytes c.k1) c.inB)) [], s)) with
    outMode := fun _ => 0, key1 := kemKey, dest := fun _ => some (5, 1) }

/-! ### Big-number (R241) -/

/-- The bytes of an RSA key's modulus, by its span. -/
def rsaBytes (k : Key) : Nat := 16 * k.hdr.span - 16
/-- The bytes of an RSA secret key's material: 11 + 3.5 times the modulus. -/
def rsaMat (bytes : Nat) : Nat := 11 + 7 * bytes / 2
/-- PSS or PKCS #1 v1.5. -/
def rsaPad (d : Desc) : Bool := d.p1 == 1 || d.p1 == 2

/-- RSA secret-key signature. -/
def opRsaSign : OpDef :=
  withDraw { opPlain rsaPad (fun c s =>
      let r := drbgDraw s (c.e / 9) c.p 32 false
      (resOk (Config.rsaSign c.d.p1 c.k1.mat c.inB r.1), r.2)) with
    key1 := uses ⟨[13], [algR], "S0", "ST"⟩, keyed := fun c => c.d.outLen == rsaBytes c.k1 } (fun _ => true)

/-- RSA public verify: the signature stands at OUT and is only read (entry 24 of the log). -/
def opRsaVerify : OpDef :=
  { opPlain (fun d => rsaPad d && decide (0 < d.auxLen)) (fun c s =>
      (resVerdict (Config.rsaVerify c.d.p1 c.auxB c.inB c.outB), s)) with
    useAux := fun _ => true, outMode := fun _ => 2 }

/-- RSA-OAEP unwrap. -/
def opRsaOaep : OpDef :=
  { opPlain (fun _ => true) (fun c s =>
      match (Config.rsaOaep c.k1.mat c.inB).bind payloadKey with
      | none => (resEnd 0x11, s)
      | some (kt, mat) => (resKey kt mat [], s)) with
    outMode := fun _ => 0, key1 := uses ⟨[13], [algR], "D1", "BDT"⟩, keyed := fun c => c.d.inLen == rsaBytes c.k1, lateDest := true }

/-- RSA key generation: P2 is the modulus bits; LIMIT when no candidate served (R236). -/
def opRsaKeyGen : OpDef :=
  withDraw { opPlain (fun d => decide (2048 ≤ d.p2) && decide (d.p2 ≤ 8192) && d.p2 % 1024 == 0 && decide (0 < d.outLen)) (fun c s =>
      let r := drbgDraw s (c.e / 9) c.p 64 false
      match Config.rsaKeyGen c.d.p2 r.1 with
      | none => (resEnd 0x40, r.2)
      | some k => (resKey 13 (padTo (rsaMat (c.d.p2 / 8)) k.2) k.1, r.2)) with
    useIn := false, dest := fun d => some (13, spanFor (rsaMat (d.p2 / 8))) } (fun _ => true)

/-- The curve of an EC key: its first byte. -/
def curveOf (k : Key) : Nat := match k.mat with | b :: _ => b.toNat | [] => 0
/-- Field bytes of a curve. -/
def curveBytes (c : Nat) : Nat := if c = 2 then 48 else if c = 3 then 66 else 32

/-- A secret scalar on one of the NIST curves, or on Ed25519. -/
def ecKey (usage modes : String) (ed : Bool) (_ : Desc) (_ : Bytes) : Option (Key → Bool) :=
  some (fun k => (KeyUse.mk [14] [algE] usage modes).admits k.hdr && (if ed then curveOf k == 4 else decide (1 ≤ curveOf k) && decide (curveOf k ≤ 3)))

/-- ECDSA signature: hedged unless DET. -/
def opEcdsaSign : OpDef :=
  withDraw { opPlain (fun _ => true) (fun c s =>
      let r := if c.d.det then ([], s) else drbgDraw s (c.e / 9) c.p 32 false
      (resOk (Config.ecdsaSign (curveOf c.k1) c.k1.mat c.inB r.1), r.2)) with
    key1 := ecKey "S0" "S" false, keyed := fun c => c.d.outLen == 2 * curveBytes (curveOf c.k1) } (fun d => !d.det)

/-- ECDSA verification: curve in P0, public key in AUX, signature at OUT. -/
def opEcdsaVerify : OpDef :=
  { opPlain (fun d => decide (1 ≤ d.p0) && decide (d.p0 ≤ 3) && d.outLen == 2 * curveBytes d.p0 && decide (0 < d.auxLen)) (fun c s =>
      (resVerdict (Config.ecdsaVerify c.d.p0 c.auxB c.inB c.outB), s)) with
    useAux := fun _ => true, outMode := fun _ => 2 }

/-- ECDH: the leading bytes of the x-coordinate become a key of type KT (entry 24 of the log); an invalid peer point ends with
MISMATCH. -/
def opEcdh : OpDef :=
  { opPlain secretKt (fun c s =>
      match Config.ecdh (curveOf c.k1) c.k1.mat c.auxB with
      | none => (resEnd 0x11, s)
      | some x => (resKey c.d.kt (padTo (matLen c.d.kt) x) [], s)) with
    useIn := false, useAux := fun _ => true, outMode := fun _ => 0, key1 := ecKey "D1" "X" false
    keyed := fun c => decide (matLen c.d.kt ≤ curveBytes (curveOf c.k1)), dest := fun d => some (d.kt, spanFor (matLen d.kt)) }

/-- EC key generation, curve in P0. -/
def opEcKeyGen : OpDef :=
  withDraw { opPlain (fun d => decide (1 ≤ d.p0) && decide (d.p0 ≤ 4) && decide (0 < d.outLen)) (fun c s =>
      let r := drbgDraw s (c.e / 9) c.p 64 false
      let k := Config.ecKeyGen c.d.p0 r.1
      (resKey 14 (byte c.d.p0 :: padTo (curveBytes c.d.p0) k.2) k.1, r.2)) with
    useIn := false, dest := fun d => some (14, spanFor (1 + curveBytes d.p0)) } (fun _ => true)

/-- Ed25519 signature. -/
def opEdSign : OpDef :=
  { opPlain (fun d => d.outLen == 64) (fun c s => (resOk (Config.ed25519Sign (c.k1.mat.drop 1) c.inB), s)) with key1 := ecKey "S0" "S" true }

/-- Ed25519 verification. -/
def opEdVerify : OpDef :=
  { opPlain (fun d => d.outLen == 64 && d.auxLen == 32) (fun c s => (resVerdict (Config.ed25519Verify c.auxB c.inB c.outB), s)) with
    useAux := fun _ => true, outMode := fun _ => 2 }

/-- Modular exponentiation on public operands. -/
def opModExp : OpDef :=
  { opPlain (fun d => decide (0 < d.outLen)) (fun c s => (resOk (Config.modExp c.d.p2 c.inB c.auxB c.d.outLen), s)) with useAux := fun _ => true }

/-! ### The rows -/

/-- ML_DSA_KEY_GENERATION (#D100). -/
def execMlDsaKeyGeneration (e : Fin 144) (s : State) : Host.Outcome State Fault Refusal := .next (quietSettle (startJob s e 0xD100 opDsaKeyGen))
/-- ML_DSA_SIGN (#D110). -/
def execMlDsaSign (e : Fin 144) (s : State) : Host.Outcome State Fault Refusal := .next (quietSettle (startJob s e 0xD110 opDsaSign))
/-- ML_DSA_VERIFY (#D120). -/
def execMlDsaVerify (e : Fin 144) (s : State) : Host.Outcome State Fault Refusal := .next (quietSettle (startJob s e 0xD120 opDsaVerify))
/-- ML_KEM_KEY_GENERATION (#D200). -/
def execMlKemKeyGeneration (e : Fin 144) (s : State) : Host.Outcome State Fault Refusal := .next (quietSettle (startJob s e 0xD200 opKemKeyGen))
/-- ML_KEM_ENCAPSULATE (#D210). -/
def execMlKemEncapsulate (e : Fin 144) (s : State) : Host.Outcome State Fault Refusal := .next (quietSettle (startJob s e 0xD210 opKemEncap))
/-- ML_KEM_DECAPSULATE (#D220). -/
def execMlKemDecapsulate (e : Fin 144) (s : State) : Host.Outcome State Fault Refusal := .next (quietSettle (startJob s e 0xD220 opKemDecap))
/-- RSA_PRIVATE_KEY_SIGNATURE (#B100). -/
def execRsaPrivateKeySignature (e : Fin 144) (s : State) : Host.Outcome State Fault Refusal := .next (quietSettle (startJob s e 0xB100 opRsaSign))
/-- RSA_PUBLIC_VERIFY (#B110). -/
def execRsaPublicVerify (e : Fin 144) (s : State) : Host.Outcome State Fault Refusal := .next (quietSettle (startJob s e 0xB110 opRsaVerify))
/-- RSA_OAEP_UNWRAP (#B120). -/
def execRsaOaepUnwrap (e : Fin 144) (s : State) : Host.Outcome State Fault Refusal := .next (quietSettle (startJob s e 0xB120 opRsaOaep))
/-- RSA_KEY_GENERATION (#B130). -/
def execRsaKeyGeneration (e : Fin 144) (s : State) : Host.Outcome State Fault Refusal := .next (quietSettle (startJob s e 0xB130 opRsaKeyGen))
/-- ECDSA_SIGN (#B200). -/
def execEcdsaSign (e : Fin 144) (s : State) : Host.Outcome State Fault Refusal := .next (quietSettle (startJob s e 0xB200 opEcdsaSign))
/-- ECDSA_VERIFY (#B210). -/
def execEcdsaVerify (e : Fin 144) (s : State) : Host.Outcome State Fault Refusal := .next (quietSettle (startJob s e 0xB210 opEcdsaVerify))
/-- ECDH (#B220). -/
def execEcdh (e : Fin 144) (s : State) : Host.Outcome State Fault Refusal := .next (quietSettle (startJob s e 0xB220 opEcdh))
/-- EC_KEY_GENERATION (#B230). -/
def execEcKeyGeneration (e : Fin 144) (s : State) : Host.Outcome State Fault Refusal := .next (quietSettle (startJob s e 0xB230 opEcKeyGen))
/-- ED25519_SIGN (#B300). -/
def execEd25519Sign (e : Fin 144) (s : State) : Host.Outcome State Fault Refusal := .next (quietSettle (startJob s e 0xB300 opEdSign))
/-- ED25519_VERIFY (#B310). -/
def execEd25519Verify (e : Fin 144) (s : State) : Host.Outcome State Fault Refusal := .next (quietSettle (startJob s e 0xB310 opEdVerify))
/-- MODULAR_EXPONENTIATION (#B400). -/
def execModularExponentiation (e : Fin 144) (s : State) : Host.Outcome State Fault Refusal := .next (quietSettle (startJob s e 0xB400 opModExp))

end Sys2Proof.Machine
end

