-- ==== Sys2Proof/Machine/Dispatch.lean ====
section
/-! DEFINITION. What each command does: one arm per constructor of `Instr`. -/

namespace Sys2Proof.Machine

def exec (i : Instr) (s : State) : Host.Outcome State Fault Refusal :=
  match i with
  | .moveIssue t => Sys2Proof.Machine.execMoveIssue t s
  | .immHiAppend t => Sys2Proof.Machine.execImmHiAppend t s
  | .addT t => Sys2Proof.Machine.execAddT t s
  | .subT t => Sys2Proof.Machine.execSubT t s
  | .adcT t => Sys2Proof.Machine.execAdcT t s
  | .sbbT t => Sys2Proof.Machine.execSbbT t s
  | .negT t => Sys2Proof.Machine.execNegT t s
  | .andT t => Sys2Proof.Machine.execAndT t s
  | .orT t => Sys2Proof.Machine.execOrT t s
  | .xorT t => Sys2Proof.Machine.execXorT t s
  | .andnT t => Sys2Proof.Machine.execAndnT t s
  | .notT t => Sys2Proof.Machine.execNotT t s
  | .shlT t => Sys2Proof.Machine.execShlT t s
  | .shrT t => Sys2Proof.Machine.execShrT t s
  | .sarT t => Sys2Proof.Machine.execSarT t s
  | .rolT t => Sys2Proof.Machine.execRolT t s
  | .rorT t => Sys2Proof.Machine.execRorT t s
  | .cmpEqT t => Sys2Proof.Machine.execCmpEqT t s
  | .cmpLtT t => Sys2Proof.Machine.execCmpLtT t s
  | .cmpLtuT t => Sys2Proof.Machine.execCmpLtuT t s
  | .cmpLeT t => Sys2Proof.Machine.execCmpLeT t s
  | .cmpLeuT t => Sys2Proof.Machine.execCmpLeuT t s
  | .daddT t => Sys2Proof.Machine.execDaddT t s
  | .dsubT t => Sys2Proof.Machine.execDsubT t s
  | .dchkT t => Sys2Proof.Machine.execDchkT t s
  | .dcvtT t => Sys2Proof.Machine.execDcvtT t s
  | .bcvtT t => Sys2Proof.Machine.execBcvtT t s
  | .mulT t => Sys2Proof.Machine.execMulT t s
  | .mulsT t => Sys2Proof.Machine.execMulsT t s
  | .divT t => Sys2Proof.Machine.execDivT t s
  | .divsT t => Sys2Proof.Machine.execDivsT t s
  | .digitUnitResult t u o => Sys2Proof.Machine.execDigitUnitResult t u o s
  | .completionTimeout t u => Sys2Proof.Machine.execCompletionTimeout t u s
  | .mulProductVisible t => Sys2Proof.Machine.execMulProductVisible t s
  | .cbEqT t => Sys2Proof.Machine.execCbEqT t s
  | .cbNeT t => Sys2Proof.Machine.execCbNeT t s
  | .cbLtT t => Sys2Proof.Machine.execCbLtT t s
  | .cbGeT t => Sys2Proof.Machine.execCbGeT t s
  | .cbLtuT t => Sys2Proof.Machine.execCbLtuT t s
  | .cbGeuT t => Sys2Proof.Machine.execCbGeuT t s
  | .cbBsT t => Sys2Proof.Machine.execCbBsT t s
  | .cbBcT t => Sys2Proof.Machine.execCbBcT t s
  | .jmpT t => Sys2Proof.Machine.execJmpT t s
  | .jmpRelT t => Sys2Proof.Machine.execJmpRelT t s
  | .callT t => Sys2Proof.Machine.execCallT t s
  | .retT t => Sys2Proof.Machine.execRetT t s
  | .branchResolve t => Sys2Proof.Machine.execBranchResolve t s
  | .returnResolve t => Sys2Proof.Machine.execReturnResolve t s
  | .repT t => Sys2Proof.Machine.execRepT t s
  | .thrWaitT t => Sys2Proof.Machine.execThrWaitT t s
  | .thrHaltT t => Sys2Proof.Machine.execThrHaltT t s
  | .thrYieldT t => Sys2Proof.Machine.execThrYieldT t s
  | .thrStartT t => Sys2Proof.Machine.execThrStartT t s
  | .ctlIfence t => Sys2Proof.Machine.execCtlIfence t s
  | .fenceSl t => Sys2Proof.Machine.execFenceSl t s
  | .fenceFull t => Sys2Proof.Machine.execFenceFull t s
  | .fenceDev t => Sys2Proof.Machine.execFenceDev t s
  | .fenceDrain t => Sys2Proof.Machine.execFenceDrain t s
  | .fetchGroupArrive t parityError => Sys2Proof.Machine.execFetchGroupArrive t parityError s
  | .ldT t => Sys2Proof.Machine.execLdT t s
  | .ldrT t => Sys2Proof.Machine.execLdrT t s
  | .stT t => Sys2Proof.Machine.execStT t s
  | .stcT t => Sys2Proof.Machine.execStcT t s
  | .stcDecided t => Sys2Proof.Machine.execStcDecided t s
  | .atAddT t => Sys2Proof.Machine.execAtAddT t s
  | .atSwpT t => Sys2Proof.Machine.execAtSwpT t s
  | .atCasT t => Sys2Proof.Machine.execAtCasT t s
  | .atomicComplete t => Sys2Proof.Machine.execAtomicComplete t s
  | .strLd t => Sys2Proof.Machine.execStrLd t s
  | .strSt t => Sys2Proof.Machine.execStrSt t s
  | .loadDataLand t ecc => Sys2Proof.Machine.execLoadDataLand t ecc s
  | .storeLeavesBuffer t parityError => Sys2Proof.Machine.execStoreLeavesBuffer t parityError s
  | .pageWalkComplete t => Sys2Proof.Machine.execPageWalkComplete t s
  | .bsTasT t => Sys2Proof.Machine.execBsTasT t s
  | .bsTasComplete t => Sys2Proof.Machine.execBsTasComplete t s
  | .bsKRead t => Sys2Proof.Machine.execBsKRead t s
  | .bsKWrite t => Sys2Proof.Machine.execBsKWrite t s
  | .engRsvT t => Sys2Proof.Machine.execEngRsvT t s
  | .engRelT t => Sys2Proof.Machine.execEngRelT t s
  | .eJobT t => Sys2Proof.Machine.execEJobT t s
  | .engineJobComplete e o => Sys2Proof.Machine.execEngineJobComplete e o s
  | .aesEcbEncrypt e => Sys2Proof.Machine.execAesEcbEncrypt e s
  | .aesEcbDecrypt e => Sys2Proof.Machine.execAesEcbDecrypt e s
  | .aesCbcEncrypt e => Sys2Proof.Machine.execAesCbcEncrypt e s
  | .aesCbcDecrypt e => Sys2Proof.Machine.execAesCbcDecrypt e s
  | .aesCtr e => Sys2Proof.Machine.execAesCtr e s
  | .aesGcmEncrypt e => Sys2Proof.Machine.execAesGcmEncrypt e s
  | .aesGcmDecrypt e => Sys2Proof.Machine.execAesGcmDecrypt e s
  | .aesXtsEncrypt e => Sys2Proof.Machine.execAesXtsEncrypt e s
  | .aesXtsDecrypt e => Sys2Proof.Machine.execAesXtsDecrypt e s
  | .aesCmacGenerate e => Sys2Proof.Machine.execAesCmacGenerate e s
  | .aesCmacVerify e => Sys2Proof.Machine.execAesCmacVerify e s
  | .kwpWrap e => Sys2Proof.Machine.execKwpWrap e s
  | .kwpUnwrap e => Sys2Proof.Machine.execKwpUnwrap e s
  | .clearImport e => Sys2Proof.Machine.execClearImport e s
  | .tdesEcbEncrypt e => Sys2Proof.Machine.execTdesEcbEncrypt e s
  | .tdesEcbDecrypt e => Sys2Proof.Machine.execTdesEcbDecrypt e s
  | .tdesCbcEncrypt e => Sys2Proof.Machine.execTdesCbcEncrypt e s
  | .tdesCbcDecrypt e => Sys2Proof.Machine.execTdesCbcDecrypt e s
  | .tdesCmacGenerate e => Sys2Proof.Machine.execTdesCmacGenerate e s
  | .tdesCmacVerify e => Sys2Proof.Machine.execTdesCmacVerify e s
  | .macAlgorithm3Generate e => Sys2Proof.Machine.execMacAlgorithm3Generate e s
  | .macAlgorithm3Verify e => Sys2Proof.Machine.execMacAlgorithm3Verify e s
  | .sha3224 e => Sys2Proof.Machine.execSha3224 e s
  | .sha3256 e => Sys2Proof.Machine.execSha3256 e s
  | .sha3384 e => Sys2Proof.Machine.execSha3384 e s
  | .sha3512 e => Sys2Proof.Machine.execSha3512 e s
  | .shake128 e => Sys2Proof.Machine.execShake128 e s
  | .shake256 e => Sys2Proof.Machine.execShake256 e s
  | .kmac128Generate e => Sys2Proof.Machine.execKmac128Generate e s
  | .kmac128Verify e => Sys2Proof.Machine.execKmac128Verify e s
  | .kmac256Generate e => Sys2Proof.Machine.execKmac256Generate e s
  | .kmac256Verify e => Sys2Proof.Machine.execKmac256Verify e s
  | .kmac256Derivation e => Sys2Proof.Machine.execKmac256Derivation e s
  | .mlDsaKeyGeneration e => Sys2Proof.Machine.execMlDsaKeyGeneration e s
  | .mlDsaSign e => Sys2Proof.Machine.execMlDsaSign e s
  | .mlDsaVerify e => Sys2Proof.Machine.execMlDsaVerify e s
  | .mlKemKeyGeneration e => Sys2Proof.Machine.execMlKemKeyGeneration e s
  | .mlKemEncapsulate e => Sys2Proof.Machine.execMlKemEncapsulate e s
  | .mlKemDecapsulate e => Sys2Proof.Machine.execMlKemDecapsulate e s
  | .rsaPrivateKeySignature e => Sys2Proof.Machine.execRsaPrivateKeySignature e s
  | .rsaPublicVerify e => Sys2Proof.Machine.execRsaPublicVerify e s
  | .rsaOaepUnwrap e => Sys2Proof.Machine.execRsaOaepUnwrap e s
  | .rsaKeyGeneration e => Sys2Proof.Machine.execRsaKeyGeneration e s
  | .ecdsaSign e => Sys2Proof.Machine.execEcdsaSign e s
  | .ecdsaVerify e => Sys2Proof.Machine.execEcdsaVerify e s
  | .ecdh e => Sys2Proof.Machine.execEcdh e s
  | .ecKeyGeneration e => Sys2Proof.Machine.execEcKeyGeneration e s
  | .ed25519Sign e => Sys2Proof.Machine.execEd25519Sign e s
  | .ed25519Verify e => Sys2Proof.Machine.execEd25519Verify e s
  | .modularExponentiation e => Sys2Proof.Machine.execModularExponentiation e s
  | .drbgGenerate e => Sys2Proof.Machine.execDrbgGenerate e s
  | .drbgReseed e => Sys2Proof.Machine.execDrbgReseed e s
  | .drbgGenerateKey e => Sys2Proof.Machine.execDrbgGenerateKey e s
  | .drbgAutoReseed k p => Sys2Proof.Machine.execDrbgAutoReseed k p s
  | .pinTranslate e => Sys2Proof.Machine.execPinTranslate e s
  | .pinVerifyOffset e => Sys2Proof.Machine.execPinVerifyOffset e s
  | .pinVerifyPvv e => Sys2Proof.Machine.execPinVerifyPvv e s
  | .pinOffsetGenerate e => Sys2Proof.Machine.execPinOffsetGenerate e s
  | .dukptInitialKey e => Sys2Proof.Machine.execDukptInitialKey e s
  | .dukptMacGenerate e => Sys2Proof.Machine.execDukptMacGenerate e s
  | .dukptMacVerify e => Sys2Proof.Machine.execDukptMacVerify e s
  | .dukptDataDecrypt e => Sys2Proof.Machine.execDukptDataDecrypt e s
  | .tr31Unwrap e => Sys2Proof.Machine.execTr31Unwrap e s
  | .tr31Wrap e => Sys2Proof.Machine.execTr31Wrap e s
  | .arqcVerify e => Sys2Proof.Machine.execArqcVerify e s
  | .arqcVerifyAndArpcGenerate e => Sys2Proof.Machine.execArqcVerifyAndArpcGenerate e s
  | .cvvGenerate e => Sys2Proof.Machine.execCvvGenerate e s
  | .cvvVerify e => Sys2Proof.Machine.execCvvVerify e s
  | .luhnCheck e => Sys2Proof.Machine.execLuhnCheck e s
  | .luhnCompute e => Sys2Proof.Machine.execLuhnCompute e s
  | .ff1Encrypt e => Sys2Proof.Machine.execFf1Encrypt e s
  | .ff1Decrypt e => Sys2Proof.Machine.execFf1Decrypt e s
  | .ff1ReTokenize e => Sys2Proof.Machine.execFf1ReTokenize e s
  | .ff31Encrypt e => Sys2Proof.Machine.execFf31Encrypt e s
  | .ff31Decrypt e => Sys2Proof.Machine.execFf31Decrypt e s
  | .ff31ReTokenize e => Sys2Proof.Machine.execFf31ReTokenize e s
  | .stagedEntryErase slot => Sys2Proof.Machine.execStagedEntryErase slot s
  | .ksErase p v => Sys2Proof.Machine.execKsErase p v s
  | .blankMove t => Sys2Proof.Machine.execBlankMove t s
  | .blankResult t port v late => Sys2Proof.Machine.execBlankResult t port v late s
  | .blankScrub k mismatch => Sys2Proof.Machine.execBlankScrub k mismatch s
  | .blankImageLoad k => Sys2Proof.Machine.execBlankImageLoad k s
  | .dmaHead p c v => Sys2Proof.Machine.execDmaHead p c v s
  | .dmaResume p c => Sys2Proof.Machine.execDmaResume p c s
  | .dmaAbort p c => Sys2Proof.Machine.execDmaAbort p c s
  | .dmaChunk c => Sys2Proof.Machine.execDmaChunk c s
  | .tlbinvPage p va => Sys2Proof.Machine.execTlbinvPage p va s
  | .tlbinvAll p => Sys2Proof.Machine.execTlbinvAll p s
  | .tlbinvComplete p => Sys2Proof.Machine.execTlbinvComplete p s
  | .cylPtroot p v => Sys2Proof.Machine.execCylPtroot p v s
  | .commandArrival l h frame => Sys2Proof.Machine.execCommandArrival l h frame s
  | .dispatch q parityError => Sys2Proof.Machine.execDispatch q parityError s
  | .inboxFall t => Sys2Proof.Machine.execInboxFall t s
  | .landingComplete t badWords => Sys2Proof.Machine.execLandingComplete t badWords s
  | .deadlineExpiry q => Sys2Proof.Machine.execDeadlineExpiry q s
  | .cutThroughTimeout f k => Sys2Proof.Machine.execCutThroughTimeout f k s
  | .release t => Sys2Proof.Machine.execRelease t s
  | .rewind t => Sys2Proof.Machine.execRewind t s
  | .respond t rq => Sys2Proof.Machine.execRespond t rq s
  | .respondAndRelease t rq => Sys2Proof.Machine.execRespondAndRelease t rq s
  | .responseSend q parityError => Sys2Proof.Machine.execResponseSend q parityError s
  | .msixModerationTimer q => Sys2Proof.Machine.execMsixModerationTimer q s
  | .holdNMinLow g => Sys2Proof.Machine.execHoldNMinLow g s
  | .pfcRefresh port prio => Sys2Proof.Machine.execPfcRefresh port prio s
  | .crossingPush x w lastOfFrame => Sys2Proof.Machine.execCrossingPush x w lastOfFrame s
  | .crossingPop x => Sys2Proof.Machine.execCrossingPop x s
  | .telemetryItem j source words done => Sys2Proof.Machine.execTelemetryItem j source words done s
  | .telemetryDrain j parityError => Sys2Proof.Machine.execTelemetryDrain j parityError s
  | .queTlmFlush p j => Sys2Proof.Machine.execQueTlmFlush p j s
  | .queTcons p j v => Sys2Proof.Machine.execQueTcons p j v s
  | .turnDelta p va => Sys2Proof.Machine.execTurnDelta p va s
  | .deltaVerifyDone p => Sys2Proof.Machine.execDeltaVerifyDone p s
  | .turnSetOpen p => Sys2Proof.Machine.execTurnSetOpen p s
  | .turnSetClose p => Sys2Proof.Machine.execTurnSetClose p s
  | .turnSetDiscard p => Sys2Proof.Machine.execTurnSetDiscard p s
  | .turnCommit p => Sys2Proof.Machine.execTurnCommit p s
  | .turnDrainEnd => Sys2Proof.Machine.execTurnDrainEnd s
  | .turnDrainLimit => Sys2Proof.Machine.execTurnDrainLimit s
  | .quadClear q => Sys2Proof.Machine.execQuadClear q s
  | .modeChangeToFree c => Sys2Proof.Machine.execModeChangeToFree c s
  | .arbiterDraw a contestants => Sys2Proof.Machine.execArbiterDraw a contestants s
  | .eventCountCrossing d events => Sys2Proof.Machine.execEventCountCrossing d events s
  | .stallWatchExpiry d inward part => Sys2Proof.Machine.execStallWatchExpiry d inward part s
  | .domainReset d => Sys2Proof.Machine.execDomainReset d s
  | .arbXmode p v => Sys2Proof.Machine.execArbXmode p v s
  | .knkDoorbell p src => Sys2Proof.Machine.execKnkDoorbell p src s
  | .deviceRaise p src => Sys2Proof.Machine.execDeviceRaise p src s
  | .knkPendSet p src => Sys2Proof.Machine.execKnkPendSet p src s
  | .knkPendClr p src => Sys2Proof.Machine.execKnkPendClr p src s
  | .knkMaskSet p src => Sys2Proof.Machine.execKnkMaskSet p src s
  | .knkMaskClr p src => Sys2Proof.Machine.execKnkMaskClr p src s
  | .moderationRipe src => Sys2Proof.Machine.execModerationRipe src s
  | .knockEntry t => Sys2Proof.Machine.execKnockEntry t s
  | .syncKnockEntry t => Sys2Proof.Machine.execSyncKnockEntry t s
  | .knkClaim t => Sys2Proof.Machine.execKnkClaim t s
  | .knkEoi t src => Sys2Proof.Machine.execKnkEoi t src s
  | .knkRtn t => Sys2Proof.Machine.execKnkRtn t s
  | .threadFreeze t => Sys2Proof.Machine.execThreadFreeze t s
  | .laneLossOfLock l => Sys2Proof.Machine.execLaneLossOfLock l s
  | .arpNdEcho l kind target => Sys2Proof.Machine.execArpNdEcho l kind target s
  | .ptpMessage port domain m => Sys2Proof.Machine.execPtpMessage port domain m s
  | .pauseFrameReceived port prios quanta => Sys2Proof.Machine.execPauseFrameReceived port prios quanta s
  | .hello l h frame => Sys2Proof.Machine.execHello l h frame s
  | .close l h frame => Sys2Proof.Machine.execClose l h frame s
  | .sessionIdleTimeout session => Sys2Proof.Machine.execSessionIdleTimeout session s
  | .commandWindowWrite f k bytes disabledBytes => Sys2Proof.Machine.execCommandWindowWrite f k bytes disabledBytes s
  | .cwinResync f k => Sys2Proof.Machine.execCwinResync f k s
  | .rbase f k v => Sys2Proof.Machine.execRbase f k v s
  | .rcons f k v => Sys2Proof.Machine.execRcons f k v s
  | .flrVf f => Sys2Proof.Machine.execFlrVf f s
  | .flrPf0 => Sys2Proof.Machine.execFlrPf0 s
  | .pcieLinkDown => Sys2Proof.Machine.execPcieLinkDown s
  | .perstN asserted => Sys2Proof.Machine.execPerstN asserted s
  | .flitReceive l flit => Sys2Proof.Machine.execFlitReceive l flit s
  | .nak l seq => Sys2Proof.Machine.execNak l seq s
  | .replayTimeout l => Sys2Proof.Machine.execReplayTimeout l s
  | .westadLaneFailure l lane => Sys2Proof.Machine.execWestadLaneFailure l lane s
  | .westadLinkDown l => Sys2Proof.Machine.execWestadLinkDown l s
  | .messageResendTimeout m => Sys2Proof.Machine.execMessageResendTimeout m s
  | .route m links => Sys2Proof.Machine.execRoute m links s
  | .ack m cls mseq => Sys2Proof.Machine.execAck m cls mseq s
  | .kx1 m body => Sys2Proof.Machine.execKx1 m body s
  | .kx2 m body => Sys2Proof.Machine.execKx2 m body s
  | .keyingRetry m => Sys2Proof.Machine.execKeyingRetry m s
  | .mseqRekey m => Sys2Proof.Machine.execMseqRekey m s
  | .stage m origin oseq slot copies => Sys2Proof.Machine.execStage m origin oseq slot copies s
  | .erase m origin oseq slot => Sys2Proof.Machine.execErase m origin oseq slot s
  | .discardMsg m origin oseq => Sys2Proof.Machine.execDiscardMsg m origin oseq s
  | .propose m turn ksd exd => Sys2Proof.Machine.execPropose m turn ksd exd s
  | .vote m turn yes reason => Sys2Proof.Machine.execVote m turn yes reason s
  | .apply m turn => Sys2Proof.Machine.execApply m turn s
  | .abort m turn => Sys2Proof.Machine.execAbort m turn s
  | .doneMsg m turn => Sys2Proof.Machine.execDoneMsg m turn s
  | .query m turn => Sys2Proof.Machine.execQuery m turn s
  | .stateMsg m turn outcome => Sys2Proof.Machine.execStateMsg m turn outcome s
  | .voteOutcomeTimeout => Sys2Proof.Machine.execVoteOutcomeTimeout s
  | .queryOutcomeTimeout => Sys2Proof.Machine.execQueryOutcomeTimeout s
  | .outcomeUnknownTimeout => Sys2Proof.Machine.execOutcomeUnknownTimeout s
  | .smbusBlockWrite bytes last pecOk => Sys2Proof.Machine.execSmbusBlockWrite bytes last pecOk s
  | .smbusBlockRead pecOk => Sys2Proof.Machine.execSmbusBlockRead pecOk s
  | .smbusReadLcId pecOk => Sys2Proof.Machine.execSmbusReadLcId pecOk s
  | .uartInput byte => Sys2Proof.Machine.execUartInput byte s
  | .dbgchal => Sys2Proof.Machine.execDbgchal s
  | .dbgport a => Sys2Proof.Machine.execDbgport a s
  | .dbgrsp key sig => Sys2Proof.Machine.execDbgrsp key sig s
  | .debugFreeze => Sys2Proof.Machine.execDebugFreeze s
  | .debugRelease => Sys2Proof.Machine.execDebugRelease s
  | .tapReset => Sys2Proof.Machine.execTapReset s
  | .mainsLoss => Sys2Proof.Machine.execMainsLoss s
  | .mainsReturn => Sys2Proof.Machine.execMainsReturn s
  | .holdUpExpiry => Sys2Proof.Machine.execHoldUpExpiry s
  | .powerFailReleaseLimit => Sys2Proof.Machine.execPowerFailReleaseLimit s
  | .pfdone p => Sys2Proof.Machine.execPfdone p s
  | .powerFailEnd => Sys2Proof.Machine.execPowerFailEnd s
  | .flatWindowBoundary meanLoad => Sys2Proof.Machine.execFlatWindowBoundary meanLoad s
  | .governorTick k demand temp ro => Sys2Proof.Machine.execGovernorTick k demand temp ro s
  | .ledgerRecord => Sys2Proof.Machine.execLedgerRecord s
  | .wearFuseBlow k => Sys2Proof.Machine.execWearFuseBlow k s
  | .learningEnd k => Sys2Proof.Machine.execLearningEnd k s
  | .restEntry c => Sys2Proof.Machine.execRestEntry c s
  | .restExit c => Sys2Proof.Machine.execRestExit c s
  | .dozeEntry k => Sys2Proof.Machine.execDozeEntry k s
  | .dozeExit k => Sys2Proof.Machine.execDozeExit k s
  | .cylIdleT p v => Sys2Proof.Machine.execCylIdleT p v s
  | .pwrSleep p v => Sys2Proof.Machine.execPwrSleep p v s
  | .watchDrainEnd => Sys2Proof.Machine.execWatchDrainEnd s
  | .wakeAlarm => Sys2Proof.Machine.execWakeAlarm s
  | .wakeN => Sys2Proof.Machine.execWakeN s
  | .watchWake => Sys2Proof.Machine.execWatchWake s
  | .watchMainsAbsent => Sys2Proof.Machine.execWatchMainsAbsent s
  | .keepPadrel p v => Sys2Proof.Machine.execKeepPadrel p v s
  | .tbSet p v => Sys2Proof.Machine.execTbSet p v s
  | .ptpLockLoss => Sys2Proof.Machine.execPtpLockLoss s
  | .crystalQualified => Sys2Proof.Machine.execCrystalQualified s
  | .crystalLost => Sys2Proof.Machine.execCrystalLost s
  | .crystalStartTimeout => Sys2Proof.Machine.execCrystalStartTimeout s
  | .keeperWatchdogExpiry => Sys2Proof.Machine.execKeeperWatchdogExpiry s
  | .keeperSelfTest passed => Sys2Proof.Machine.execKeeperSelfTest passed s
  | .meshContinuityFault segment => Sys2Proof.Machine.execMeshContinuityFault segment s
  | .meshPatternCheck decodes => Sys2Proof.Machine.execMeshPatternCheck decodes s
  | .lightDetected diode => Sys2Proof.Machine.execLightDetected diode s
  | .temperatureSample sensor celsius => Sys2Proof.Machine.execTemperatureSample sensor celsius s
  | .railGlitch rail => Sys2Proof.Machine.execRailGlitch rail s
  | .lcToCut p va => Sys2Proof.Machine.execLcToCut p va s
  | .lcToKeyed p va => Sys2Proof.Machine.execLcToKeyed p va s
  | .lcToLocked p va => Sys2Proof.Machine.execLcToLocked p va s
  | .lcToReturned p va => Sys2Proof.Machine.execLcToReturned p va s
  | .lcToScrapped p va => Sys2Proof.Machine.execLcToScrapped p va s
  | .keepAttest p va => Sys2Proof.Machine.execKeepAttest p va s
  | .attestDone => Sys2Proof.Machine.execAttestDone s
  | .auditSeal p va => Sys2Proof.Machine.execAuditSeal p va s
  | .finalSeal p va => Sys2Proof.Machine.execFinalSeal p va s
  | .sealDone => Sys2Proof.Machine.execSealDone s
  | .probeVerdict cls index passed => Sys2Proof.Machine.execProbeVerdict cls index passed s
  | .probeTimeout cls index => Sys2Proof.Machine.execProbeTimeout cls index s
  | .retirementFuseBlow => Sys2Proof.Machine.execRetirementFuseBlow s
  | .dramScrub line o => Sys2Proof.Machine.execDramScrub line o s
  | .trngHealthFail => Sys2Proof.Machine.execTrngHealthFail s
  | .quietEnter p => Sys2Proof.Machine.execQuietEnter p s
  | .quietSelftest p => Sys2Proof.Machine.execQuietSelftest p s
  | .selftestDone => Sys2Proof.Machine.execSelftestDone s
  | .quietExit p => Sys2Proof.Machine.execQuietExit p s
  | .quietUartLine => Sys2Proof.Machine.execQuietUartLine s
  | .mainsApplied => Sys2Proof.Machine.execMainsApplied s
  | .bundleData offset length bytes => Sys2Proof.Machine.execBundleData offset length bytes s
  | .getRetry => Sys2Proof.Machine.execGetRetry s
  | .getBroadcast => Sys2Proof.Machine.execGetBroadcast s
  | .bundleTimeout => Sys2Proof.Machine.execBundleTimeout s
  | .bootFailReport => Sys2Proof.Machine.execBootFailReport s
  | .readyAssert => Sys2Proof.Machine.execReadyAssert s
  | .lcBootGo p => Sys2Proof.Machine.execLcBootGo p s
  | .lcBootWarm p => Sys2Proof.Machine.execLcBootWarm p s
  | .lcBootWarmBundle p => Sys2Proof.Machine.execLcBootWarmBundle p s
  | .lcBootExportTraining p => Sys2Proof.Machine.execLcBootExportTraining p s
  | .ksImgExport p va => Sys2Proof.Machine.execKsImgExport p va s
  | .ksImgExportDone => Sys2Proof.Machine.execKsImgExportDone s
  | .ppsPulse => Sys2Proof.Machine.execPpsPulse s
  | .cylCmodeRead p c => Sys2Proof.Machine.execCylCmodeRead p c s
  | .ksQlastRead p => Sys2Proof.Machine.execKsQlastRead p s
  | .dmaStatRead p c => Sys2Proof.Machine.execDmaStatRead p c s
  | .engErrRead p e => Sys2Proof.Machine.execEngErrRead p e s
  | .exgStatRead p q => Sys2Proof.Machine.execExgStatRead p q s
  | .queStatRead p q response => Sys2Proof.Machine.execQueStatRead p q response s
  | .quePstatRead p q => Sys2Proof.Machine.execQuePstatRead p q s
  | .queTlmRead p j => Sys2Proof.Machine.execQueTlmRead p j s
  | .keepXlogRead p => Sys2Proof.Machine.execKeepXlogRead p s
  | .knkStrayCntRead p => Sys2Proof.Machine.execKnkStrayCntRead p s
  | .laneStatRead p l => Sys2Proof.Machine.execLaneStatRead p l s
  | .laneDropRead p j => Sys2Proof.Machine.execLaneDropRead p j s
  | .laneWlinkRead p l => Sys2Proof.Machine.execLaneWlinkRead p l s
  | .keepTampRead p => Sys2Proof.Machine.execKeepTampRead p s
  | .registerWrite p t addr v => Sys2Proof.Machine.execRegisterWrite p t addr v s
  | .laneTrainingDone l => Sys2Proof.Machine.execLaneTrainingDone l s
  | .pauseTimeExpiry port prio => Sys2Proof.Machine.execPauseTimeExpiry port prio s
  | .pcieConfigWrite w => Sys2Proof.Machine.execPcieConfigWrite w s
  | .aspmL0sL1Transition power => Sys2Proof.Machine.execAspmL0sL1Transition power s
  | .supplyRetry up => Sys2Proof.Machine.execSupplyRetry up s

end Sys2Proof.Machine
end

