-- ==== Sys2Proof/Machine/Tick.lean ====
section
/-! DEFINITION. The passing of time: what a step does when no command waits. -/

namespace Sys2Proof.Machine

/-- One nanosecond. The timebase counts it while it runs, which is not in WATCH; the Keeper's tally counts it in every state
but OFF, and what of a sleep ran on its RC oscillator apart (R442 to R444). -/
def clock (s : State) : State :=
  if s.supply.power = 0 then s
  else if s.supply.power = 3 then
    { s with tally := s.tally + 64, keeper := { s.keeper with rcTicks := if s.keeper.crystal then s.keeper.rcTicks else s.keeper.rcTicks + 64 } }
  else { s with now := s.now + 1, tally := s.tally + 64 }

/-- The step on an empty queue (entry 2 of the log): a nanosecond passes; a warm boot that has waited for a commit that has
ended takes effect (R491). -/
def tick (s : State) : State := warmSettle (clock s)

end Sys2Proof.Machine
end

