-- ==== Sys2Proof/Safety.lean ====
section
/-! DEFINITION. What the statements speak of: a safe run, the parts of the state, and which parts each command may change. -/

namespace Sys2Proof

/-- A state from which the step answers a next state. -/
def Steps (s : Machine.State) : Prop := ∃ t, Machine.step s = .next t

/-- A state from which `n` steps all answer a next state. -/
def SafeFor : Nat → Machine.State → Prop
  | 0, _ => True
  | n + 1, s => ∃ t, Machine.step s = .next t ∧ SafeFor n t

/-- Memory lists its digits at strictly rising addresses, and none that reads 0 (R181, R191). -/
def MemSafe (s : Machine.State) : Prop := Machine.memWf s.mem = true

/-- The parts of the state: every field of `Machine.State` but the queue of waiting commands. -/
inductive Part where
  | rdata | free | now | tally | regs | mem | poison | threads | cyls | krs | engs | dmaTlb | inval | ks | guard | dma | dmaLast | intake | kc
  | kcPrev | turns | srcs | arbs | doms | xq | westad | dbg | supply | keeper | audit | faults | fuses | boot | req | pins | seeded | trngBad
  | ptpGood | dramKeys | dramLost | uartIn | linkPower | out
  deriving DecidableEq, Repr

/-- A part reads the same in two states. -/
def Part.same (p : Part) (s t : Machine.State) : Prop :=
  match p with
  | .rdata => t.rdata = s.rdata
  | .free => t.free = s.free
  | .now => t.now = s.now
  | .tally => t.tally = s.tally
  | .regs => t.regs = s.regs
  | .mem => t.mem = s.mem
  | .poison => t.poison = s.poison
  | .threads => t.threads = s.threads
  | .cyls => t.cyls = s.cyls
  | .krs => t.krs = s.krs
  | .engs => t.engs = s.engs
  | .dmaTlb => t.dmaTlb = s.dmaTlb
  | .inval => t.inval = s.inval
  | .ks => t.ks = s.ks
  | .guard => t.guard = s.guard
  | .dma => t.dma = s.dma
  | .dmaLast => t.dmaLast = s.dmaLast
  | .intake => t.intake = s.intake
  | .kc => t.kc = s.kc
  | .kcPrev => t.kcPrev = s.kcPrev
  | .turns => t.turns = s.turns
  | .srcs => t.srcs = s.srcs
  | .arbs => t.arbs = s.arbs
  | .doms => t.doms = s.doms
  | .xq => t.xq = s.xq
  | .westad => t.westad = s.westad
  | .dbg => t.dbg = s.dbg
  | .supply => t.supply = s.supply
  | .keeper => t.keeper = s.keeper
  | .audit => t.audit = s.audit
  | .faults => t.faults = s.faults
  | .fuses => t.fuses = s.fuses
  | .boot => t.boot = s.boot
  | .req => t.req = s.req
  | .pins => t.pins = s.pins
  | .seeded => t.seeded = s.seeded
  | .trngBad => t.trngBad = s.trngBad
  | .ptpGood => t.ptpGood = s.ptpGood
  | .dramKeys => t.dramKeys = s.dramKeys
  | .dramLost => t.dramLost = s.dramLost
  | .uartIn => t.uartIn = s.uartIn
  | .linkPower => t.linkPower = s.linkPower
  | .out => t.out = s.out

/-- Parts that moveIssue and the rows of its shape may change. -/
def parts1 : List Part :=
  [.threads, .cyls, .krs, .engs, .intake, .srcs, .arbs, .pins, .out]

/-- Parts that digitUnitResult and the rows of its shape may change. -/
def parts2 : List Part :=
  [.regs, .threads, .cyls, .engs, .doms, .faults]

/-- Parts that storeLeavesBuffer and the rows of its shape may change. -/
def parts3 : List Part :=
  [.free, .now, .tally, .regs, .mem, .poison, .threads, .cyls, .krs, .engs, .dmaTlb, .inval, .ks, .guard, .dma, .dmaLast, .intake, .kc, .kcPrev,
   .turns, .srcs, .arbs, .doms, .xq, .westad, .dbg, .supply, .keeper, .audit, .faults, .fuses, .boot, .req, .pins, .seeded, .trngBad, .ptpGood,
   .dramKeys, .dramLost, .linkPower, .out]

/-- Parts that engineJobComplete may change. -/
def parts4 : List Part :=
  [.regs, .mem, .poison, .threads, .cyls, .engs, .ks, .guard, .srcs, .arbs, .doms, .westad, .audit, .faults, .out]

/-- Parts that aesEcbEncrypt and the rows of its shape may change. -/
def parts5 : List Part :=
  [.free, .regs, .mem, .poison, .threads, .cyls, .engs, .ks, .guard, .intake, .turns, .srcs, .arbs, .doms, .xq, .westad, .dbg, .audit, .faults,
   .boot, .req, .pins, .out]

/-- Parts that mlDsaKeyGeneration and the rows of its shape may change. -/
def parts6 : List Part :=
  [.free, .regs, .mem, .poison, .threads, .cyls, .krs, .engs, .ks, .guard, .intake, .turns, .srcs, .arbs, .doms, .xq, .westad, .dbg, .audit, .faults,
   .boot, .req, .pins, .out]

/-- Parts that blankResult and the rows of its shape may change. -/
def parts7 : List Part :=
  [.threads, .cyls, .engs, .doms, .faults]

/-- Parts that dmaHead and the rows of its shape may change. -/
def parts8 : List Part :=
  [.regs, .mem, .poison, .threads, .krs, .dmaTlb, .dma, .srcs]

/-- Parts that commandArrival and the rows of its shape may change. -/
def parts9 : List Part :=
  [.free, .regs, .threads, .intake, .supply, .pins, .out]

/-- Parts that inboxFall and the rows of its shape may change. -/
def parts10 : List Part :=
  [.regs, .threads, .intake, .pins, .out]

/-- Parts that landingComplete may change. -/
def parts11 : List Part :=
  [.regs, .mem, .poison, .threads, .cyls, .krs, .engs, .intake, .doms, .faults, .pins, .out]

/-- Parts that turnSetOpen and the rows of its shape may change. -/
def parts12 : List Part :=
  [.ks, .turns, .arbs, .westad, .out]

/-- Parts that turnDrainEnd and the rows of its shape may change. -/
def parts13 : List Part :=
  [.free, .now, .regs, .mem, .poison, .threads, .cyls, .krs, .engs, .dmaTlb, .inval, .ks, .guard, .dma, .dmaLast, .intake, .kc, .kcPrev, .turns,
   .srcs, .arbs, .doms, .xq, .westad, .dbg, .supply, .keeper, .audit, .faults, .fuses, .boot, .req, .pins, .seeded, .trngBad, .ptpGood, .dramKeys,
   .dramLost, .linkPower, .out]

/-- Parts that quadClear may change. -/
def parts14 : List Part :=
  [.regs, .mem, .poison, .threads, .engs, .ks, .guard, .intake, .turns, .srcs, .arbs, .westad, .audit, .pins, .out]

/-- Parts that stallWatchExpiry and the rows of its shape may change. -/
def parts15 : List Part :=
  [.regs, .threads, .cyls, .engs, .doms, .xq, .faults]

/-- Parts that knockEntry and the rows of its shape may change. -/
def parts16 : List Part :=
  [.regs, .threads, .cyls, .krs, .engs, .intake, .srcs, .arbs, .pins, .out]

/-- Parts that hello may change. -/
def parts17 : List Part :=
  [.free, .regs, .mem, .poison, .threads, .cyls, .engs, .ks, .guard, .intake, .turns, .srcs, .arbs, .doms, .xq, .westad, .dbg, .supply, .audit,
   .faults, .boot, .req, .pins, .out]

/-- Parts that flitReceive and the rows of its shape may change. -/
def parts18 : List Part :=
  [.free, .regs, .arbs, .doms, .xq, .westad, .out]

/-- Parts that mainsReturn and the rows of its shape may change. -/
def parts19 : List Part :=
  [.free, .regs, .threads, .srcs, .supply]

/-- Parts that holdUpExpiry may change. -/
def parts20 : List Part :=
  [.now, .tally, .regs, .mem, .poison, .threads, .cyls, .krs, .engs, .dmaTlb, .inval, .ks, .guard, .dma, .dmaLast, .intake, .kc, .kcPrev, .turns,
   .srcs, .arbs, .doms, .xq, .westad, .dbg, .supply, .keeper, .audit, .faults, .boot, .req, .pins, .seeded, .trngBad, .ptpGood, .dramKeys, .dramLost,
   .linkPower]

/-- Parts that watchDrainEnd may change. -/
def parts21 : List Part :=
  [.regs, .mem, .poison, .threads, .cyls, .krs, .engs, .dmaTlb, .ks, .guard, .intake, .srcs, .arbs, .doms, .xq, .westad, .supply, .keeper, .audit,
   .pins, .linkPower, .out]

/-- Parts that watchWake and the rows of its shape may change. -/
def parts22 : List Part :=
  [.free, .now, .regs, .mem, .poison, .threads, .cyls, .krs, .engs, .ks, .guard, .intake, .turns, .srcs, .arbs, .doms, .xq, .westad, .dbg, .supply,
   .audit, .faults, .boot, .req, .pins, .seeded, .out]

/-- Parts that meshContinuityFault and the rows of its shape may change. -/
def parts23 : List Part :=
  [.free, .now, .regs, .mem, .poison, .threads, .cyls, .krs, .engs, .ks, .guard, .intake, .turns, .srcs, .arbs, .doms, .xq, .westad, .dbg, .supply,
   .keeper, .audit, .faults, .fuses, .boot, .req, .pins, .seeded, .dramKeys, .dramLost, .out]

/-- Parts that probeVerdict and the rows of its shape may change. -/
def parts24 : List Part :=
  [.free, .regs, .mem, .poison, .threads, .cyls, .krs, .engs, .ks, .guard, .intake, .turns, .srcs, .arbs, .doms, .xq, .westad, .dbg, .audit, .faults,
   .boot, .req, .pins, .trngBad, .out]

/-- Parts that bundleData may change. -/
def parts25 : List Part :=
  [.free, .regs, .mem, .poison, .threads, .cyls, .krs, .engs, .ks, .guard, .intake, .kc, .kcPrev, .turns, .srcs, .arbs, .doms, .xq, .westad, .dbg,
   .audit, .faults, .boot, .req, .pins, .seeded, .dramKeys, .out]

/-- The parts that each command may change; every other part it leaves as it is. -/
def mayChange : Instr → List Part
  | .moveIssue _ => parts1
  | .immHiAppend _ => parts1
  | .addT _ => parts1
  | .subT _ => parts1
  | .adcT _ => parts1
  | .sbbT _ => parts1
  | .negT _ => parts1
  | .andT _ => parts1
  | .orT _ => parts1
  | .xorT _ => parts1
  | .andnT _ => parts1
  | .notT _ => parts1
  | .shlT _ => parts1
  | .shrT _ => parts1
  | .sarT _ => parts1
  | .rolT _ => parts1
  | .rorT _ => parts1
  | .cmpEqT _ => parts1
  | .cmpLtT _ => parts1
  | .cmpLtuT _ => parts1
  | .cmpLeT _ => parts1
  | .cmpLeuT _ => parts1
  | .daddT _ => parts1
  | .dsubT _ => parts1
  | .dchkT _ => parts1
  | .dcvtT _ => parts1
  | .bcvtT _ => parts1
  | .mulT _ => parts1
  | .mulsT _ => parts1
  | .divT _ => parts1
  | .divsT _ => parts1
  | .digitUnitResult _ _ _ => parts2
  | .completionTimeout _ _ => parts2
  | .mulProductVisible _ => [.threads]
  | .cbEqT _ => parts1
  | .cbNeT _ => parts1
  | .cbLtT _ => parts1
  | .cbGeT _ => parts1
  | .cbLtuT _ => parts1
  | .cbGeuT _ => parts1
  | .cbBsT _ => parts1
  | .cbBcT _ => parts1
  | .jmpT _ => parts1
  | .jmpRelT _ => parts1
  | .callT _ => parts1
  | .retT _ => parts1
  | .branchResolve _ => [.threads]
  | .returnResolve _ => [.threads, .cyls, .krs]
  | .repT _ => parts1
  | .thrWaitT _ => parts1
  | .thrHaltT _ => parts1
  | .thrYieldT _ => parts1
  | .thrStartT _ => parts1
  | .ctlIfence _ => parts1
  | .fenceSl _ => parts1
  | .fenceFull _ => parts1
  | .fenceDev _ => parts1
  | .fenceDrain _ => parts1
  | .fetchGroupArrive _ _ => [.threads, .cyls, .krs, .engs, .doms, .faults]
  | .ldT _ => parts1
  | .ldrT _ => parts1
  | .stT _ => parts1
  | .stcT _ => parts1
  | .stcDecided _ => [.mem, .poison, .threads, .krs]
  | .atAddT _ => parts1
  | .atSwpT _ => parts1
  | .atCasT _ => parts1
  | .atomicComplete _ => [.mem, .poison, .threads, .krs]
  | .strLd _ => parts1
  | .strSt _ => parts1
  | .loadDataLand _ _ => [.rdata, .regs, .poison, .threads, .cyls, .krs, .engs, .srcs, .doms, .audit, .faults]
  | .storeLeavesBuffer _ _ => parts3
  | .pageWalkComplete _ => [.threads, .cyls, .krs]
  | .bsTasT _ => parts1
  | .bsTasComplete _ => [.threads, .krs]
  | .bsKRead _ => parts1
  | .bsKWrite _ => parts1
  | .engRsvT _ => parts1
  | .engRelT _ => parts1
  | .eJobT _ => parts1
  | .engineJobComplete _ _ => parts4
  | .aesEcbEncrypt _ => parts5
  | .aesEcbDecrypt _ => parts5
  | .aesCbcEncrypt _ => parts5
  | .aesCbcDecrypt _ => parts5
  | .aesCtr _ => parts5
  | .aesGcmEncrypt _ => parts5
  | .aesGcmDecrypt _ => parts5
  | .aesXtsEncrypt _ => parts5
  | .aesXtsDecrypt _ => parts5
  | .aesCmacGenerate _ => parts5
  | .aesCmacVerify _ => parts5
  | .kwpWrap _ => parts5
  | .kwpUnwrap _ => parts5
  | .clearImport _ => parts5
  | .tdesEcbEncrypt _ => parts5
  | .tdesEcbDecrypt _ => parts5
  | .tdesCbcEncrypt _ => parts5
  | .tdesCbcDecrypt _ => parts5
  | .tdesCmacGenerate _ => parts5
  | .tdesCmacVerify _ => parts5
  | .macAlgorithm3Generate _ => parts5
  | .macAlgorithm3Verify _ => parts5
  | .sha3224 _ => parts5
  | .sha3256 _ => parts5
  | .sha3384 _ => parts5
  | .sha3512 _ => parts5
  | .shake128 _ => parts5
  | .shake256 _ => parts5
  | .kmac128Generate _ => parts5
  | .kmac128Verify _ => parts5
  | .kmac256Generate _ => parts5
  | .kmac256Verify _ => parts5
  | .kmac256Derivation _ => parts5
  | .mlDsaKeyGeneration _ => parts6
  | .mlDsaSign _ => parts6
  | .mlDsaVerify _ => parts5
  | .mlKemKeyGeneration _ => parts6
  | .mlKemEncapsulate _ => parts6
  | .mlKemDecapsulate _ => parts5
  | .rsaPrivateKeySignature _ => parts6
  | .rsaPublicVerify _ => parts5
  | .rsaOaepUnwrap _ => parts5
  | .rsaKeyGeneration _ => parts6
  | .ecdsaSign _ => parts6
  | .ecdsaVerify _ => parts5
  | .ecdh _ => parts5
  | .ecKeyGeneration _ => parts6
  | .ed25519Sign _ => parts5
  | .ed25519Verify _ => parts5
  | .modularExponentiation _ => parts5
  | .drbgGenerate _ => parts6
  | .drbgReseed _ => parts6
  | .drbgGenerateKey _ => parts6
  | .drbgAutoReseed _ _ => [.krs]
  | .pinTranslate _ => parts6
  | .pinVerifyOffset _ => parts5
  | .pinVerifyPvv _ => parts5
  | .pinOffsetGenerate _ => parts5
  | .dukptInitialKey _ => parts5
  | .dukptMacGenerate _ => parts5
  | .dukptMacVerify _ => parts5
  | .dukptDataDecrypt _ => parts5
  | .tr31Unwrap _ => parts5
  | .tr31Wrap _ => parts6
  | .arqcVerify _ => parts5
  | .arqcVerifyAndArpcGenerate _ => parts5
  | .cvvGenerate _ => parts5
  | .cvvVerify _ => parts5
  | .luhnCheck _ => parts5
  | .luhnCompute _ => parts5
  | .ff1Encrypt _ => parts5
  | .ff1Decrypt _ => parts5
  | .ff1ReTokenize _ => parts5
  | .ff31Encrypt _ => parts5
  | .ff31Decrypt _ => parts5
  | .ff31ReTokenize _ => parts5
  | .stagedEntryErase _ => [.ks]
  | .ksErase _ _ => [.regs, .ks, .arbs, .westad, .audit, .out]
  | .blankMove _ => parts1
  | .blankResult _ _ _ _ => parts7
  | .blankScrub _ _ => parts7
  | .blankImageLoad _ => [.threads, .krs]
  | .dmaHead _ _ _ => parts8
  | .dmaResume _ _ => parts8
  | .dmaAbort _ _ => [.mem, .poison, .threads, .dma]
  | .dmaChunk _ => [.regs, .mem, .poison, .threads, .krs, .dmaTlb, .dma, .dmaLast, .srcs]
  | .tlbinvPage _ _ => [.inval]
  | .tlbinvAll _ => [.inval]
  | .tlbinvComplete _ => [.threads, .cyls, .krs, .dmaTlb, .inval]
  | .cylPtroot _ _ => [.regs, .inval]
  | .commandArrival _ _ _ => parts9
  | .dispatch _ _ => [.regs, .threads, .cyls, .engs, .intake, .doms, .faults, .pins, .out]
  | .inboxFall _ => parts10
  | .landingComplete _ _ => parts11
  | .deadlineExpiry _ => [.regs, .intake, .pins, .out]
  | .cutThroughTimeout _ _ => [.threads, .intake]
  | .release _ => parts10
  | .rewind _ => parts10
  | .respond _ _ => parts10
  | .respondAndRelease _ _ => parts10
  | .responseSend _ _ => [.regs, .threads, .cyls, .engs, .intake, .doms, .faults, .pins, .linkPower, .out]
  | .msixModerationTimer _ => [.intake, .linkPower, .out]
  | .holdNMinLow _ => [.intake, .pins]
  | .pfcRefresh _ _ => [.threads, .cyls, .engs, .intake, .arbs, .pins, .out]
  | .crossingPush _ _ _ => [.regs, .xq]
  | .crossingPop _ => [.rdata, .xq]
  | .telemetryItem _ _ _ _ => [.regs, .intake]
  | .telemetryDrain _ _ => [.regs, .mem, .poison, .threads, .cyls, .engs, .intake, .doms, .faults]
  | .queTlmFlush _ _ => [.regs, .intake]
  | .queTcons _ _ _ => [.regs]
  | .turnDelta _ _ => [.turns]
  | .deltaVerifyDone _ => [.turns, .audit]
  | .turnSetOpen _ => parts12
  | .turnSetClose _ => parts12
  | .turnSetDiscard _ => parts12
  | .turnCommit _ => [.ks, .turns, .audit, .faults]
  | .turnDrainEnd => parts13
  | .turnDrainLimit => parts13
  | .quadClear _ => parts14
  | .modeChangeToFree _ => [.cyls]
  | .arbiterDraw _ _ => [.arbs]
  | .eventCountCrossing _ _ => [.regs, .arbs, .doms, .westad, .out]
  | .stallWatchExpiry _ _ _ => parts15
  | .domainReset _ => [.regs, .doms, .xq]
  | .arbXmode _ _ => [.regs]
  | .knkDoorbell _ _ => [.regs, .threads, .srcs]
  | .deviceRaise _ _ => [.regs, .threads, .srcs]
  | .knkPendSet _ _ => [.regs, .threads, .srcs]
  | .knkPendClr _ _ => [.regs, .srcs]
  | .knkMaskSet _ _ => [.regs, .threads, .srcs]
  | .knkMaskClr _ _ => [.regs, .threads, .srcs]
  | .moderationRipe _ => [.threads, .srcs]
  | .knockEntry _ => parts16
  | .syncKnockEntry _ => parts16
  | .knkClaim _ => [.rdata, .threads, .srcs]
  | .knkEoi _ _ => [.regs, .threads, .srcs]
  | .knkRtn _ => [.regs, .threads, .cyls, .krs]
  | .threadFreeze _ => [.threads, .cyls, .engs]
  | .laneLossOfLock _ => parts15
  | .arpNdEcho _ _ _ => [.regs, .out]
  | .ptpMessage _ _ _ => [.now, .regs, .ptpGood]
  | .pauseFrameReceived _ _ _ => [.intake]
  | .hello _ _ _ => parts17
  | .close _ _ _ => [.regs, .intake, .supply]
  | .sessionIdleTimeout _ => [.intake]
  | .commandWindowWrite _ _ _ _ => [.free, .regs, .threads, .intake, .pins, .out]
  | .cwinResync _ _ => [.threads, .intake]
  | .rbase _ _ _ => [.regs]
  | .rcons _ _ _ => [.regs]
  | .flrVf _ => [.regs, .threads, .intake]
  | .flrPf0 => [.regs, .threads, .intake]
  | .pcieLinkDown => [.regs, .doms, .xq, .linkPower]
  | .perstN _ => [.regs, .doms, .xq, .pins, .linkPower]
  | .flitReceive _ _ => parts18
  | .nak _ _ => parts18
  | .replayTimeout _ => parts18
  | .westadLaneFailure _ _ => [.free, .regs, .threads, .cyls, .engs, .arbs, .doms, .xq, .westad, .faults, .out]
  | .westadLinkDown _ => parts18
  | .messageResendTimeout _ => [.arbs, .westad, .out]
  | .route _ _ => [.free, .arbs, .westad, .out]
  | .ack _ _ _ => [.westad]
  | .kx1 _ _ => [.free, .arbs, .westad, .audit, .out]
  | .kx2 _ _ => [.arbs, .westad, .audit, .out]
  | .keyingRetry _ => [.free, .arbs, .westad, .out]
  | .mseqRekey _ => [.free, .arbs, .westad, .out]
  | .stage _ _ _ _ _ => [.ks, .arbs, .westad, .out]
  | .erase _ _ _ _ => [.ks, .arbs, .westad, .out]
  | .discardMsg _ _ _ => [.ks, .arbs, .westad, .out]
  | .propose _ _ _ _ => parts13
  | .vote _ _ _ _ => parts13
  | .apply _ _ => parts13
  | .abort _ _ => parts13
  | .doneMsg _ _ => parts13
  | .query _ _ => [.arbs, .westad, .out]
  | .stateMsg _ _ _ => parts13
  | .voteOutcomeTimeout => [.arbs, .westad, .out]
  | .queryOutcomeTimeout => parts13
  | .outcomeUnknownTimeout => parts5
  | .smbusBlockWrite _ _ _ => parts9
  | .smbusBlockRead _ => [.regs, .intake, .supply, .pins, .out]
  | .smbusReadLcId _ => [.regs, .out]
  | .uartInput _ => [.uartIn]
  | .dbgchal => [.free, .dbg]
  | .dbgport _ => [.mem, .poison, .threads, .dbg]
  | .dbgrsp _ _ => [.free, .threads, .dbg, .audit]
  | .debugFreeze => [.threads]
  | .debugRelease => [.threads]
  | .tapReset => [.free, .threads, .dbg, .audit]
  | .mainsLoss => [.regs, .threads, .srcs, .supply]
  | .mainsReturn => parts19
  | .holdUpExpiry => parts20
  | .powerFailReleaseLimit => parts10
  | .pfdone _ => parts3
  | .powerFailEnd => parts3
  | .flatWindowBoundary _ => parts19
  | .governorTick _ _ _ _ => [.regs, .threads, .krs, .srcs]
  | .ledgerRecord => [.krs, .audit]
  | .wearFuseBlow _ => [.fuses]
  | .learningEnd _ => [.free, .krs]
  | .restEntry _ => [.cyls]
  | .restExit _ => [.threads, .cyls]
  | .dozeEntry _ => [.krs]
  | .dozeExit _ => [.threads, .krs]
  | .cylIdleT _ _ => [.regs]
  | .pwrSleep _ _ => [.regs, .threads, .intake, .srcs, .supply, .pins]
  | .watchDrainEnd => parts21
  | .wakeAlarm => [.supply]
  | .wakeN => [.supply]
  | .watchWake => parts22
  | .watchMainsAbsent => parts3
  | .keepPadrel _ _ => [.supply]
  | .tbSet _ _ => [.now]
  | .ptpLockLoss => [.regs, .ptpGood]
  | .crystalQualified => [.keeper, .audit]
  | .crystalLost => [.regs, .keeper, .audit]
  | .crystalStartTimeout => [.regs, .keeper, .audit]
  | .keeperWatchdogExpiry => parts22
  | .keeperSelfTest _ => parts22
  | .meshContinuityFault _ => parts23
  | .meshPatternCheck _ => parts23
  | .lightDetected _ => parts23
  | .temperatureSample _ _ => parts23
  | .railGlitch _ => parts23
  | .lcToCut _ _ => parts13
  | .lcToKeyed _ _ => parts13
  | .lcToLocked _ _ => parts13
  | .lcToReturned _ _ => parts13
  | .lcToScrapped _ _ => parts13
  | .keepAttest _ _ => [.req]
  | .attestDone => [.free, .mem, .poison, .threads, .req]
  | .auditSeal _ _ => [.free, .regs, .audit, .fuses]
  | .finalSeal _ _ => [.free, .regs, .audit, .fuses]
  | .sealDone => [.mem, .poison, .threads, .audit]
  | .probeVerdict _ _ _ => parts24
  | .probeTimeout _ _ => parts24
  | .retirementFuseBlow => [.faults, .fuses]
  | .dramScrub _ _ => [.regs, .poison, .threads, .cyls, .engs, .srcs, .doms, .audit, .faults]
  | .trngHealthFail => [.threads, .cyls, .engs, .doms, .faults, .trngBad]
  | .quietEnter _ => parts5
  | .quietSelftest _ => parts7
  | .selftestDone => [.faults]
  | .quietExit _ => parts13
  | .quietUartLine => [.out]
  | .mainsApplied => parts3
  | .bundleData _ _ _ => parts25
  | .getRetry => [.out]
  | .getBroadcast => [.out]
  | .bundleTimeout => [.boot]
  | .bootFailReport => [.boot, .out]
  | .readyAssert => [.intake, .fuses, .boot, .pins]
  | .lcBootGo _ => [.boot]
  | .lcBootWarm _ => parts13
  | .lcBootWarmBundle _ => parts13
  | .lcBootExportTraining _ => [.mem, .poison, .threads]
  | .ksImgExport _ _ => [.free, .req]
  | .ksImgExportDone => [.mem, .poison, .threads, .req]
  | .ppsPulse => [.pins, .out]
  | .cylCmodeRead _ _ => [.rdata, .regs, .threads, .srcs]
  | .ksQlastRead _ => [.rdata, .regs, .threads, .srcs]
  | .dmaStatRead _ _ => [.rdata, .regs, .threads, .srcs]
  | .engErrRead _ _ => [.rdata, .regs, .threads, .srcs]
  | .exgStatRead _ _ => [.rdata, .regs, .threads, .srcs]
  | .queStatRead _ _ _ => [.rdata, .regs, .threads, .srcs]
  | .quePstatRead _ _ => [.rdata, .regs, .threads, .srcs]
  | .queTlmRead _ _ => [.rdata, .regs, .threads, .srcs]
  | .keepXlogRead _ => [.rdata, .regs, .threads, .srcs]
  | .knkStrayCntRead _ => [.rdata, .regs, .threads, .srcs]
  | .laneStatRead _ _ => [.rdata, .regs, .threads, .srcs]
  | .laneDropRead _ _ => [.rdata, .regs, .threads, .srcs]
  | .laneWlinkRead _ _ => [.rdata, .regs, .threads, .srcs]
  | .keepTampRead _ => [.rdata, .regs, .threads, .srcs]
  | .registerWrite _ _ _ _ => parts3
  | .laneTrainingDone _ => [.free, .regs, .intake, .arbs, .doms, .xq, .westad, .linkPower, .out]
  | .pauseTimeExpiry _ _ => [.intake]
  | .pcieConfigWrite _ => [.intake, .linkPower, .out]
  | .aspmL0sL1Transition _ => [.linkPower]
  | .supplyRetry _ => parts3

end Sys2Proof

/-! ### What the statements about commands say -/

namespace Sys2Proof.Claims

open Sys2Proof.Machine

/-- A command ends in a next state of which `P` holds. -/
def Completes (i : Instr) (s : State) (P : State → Prop) : Prop := ∃ s', exec i s = .next s' ∧ P s'

/-- Whether the next word of thread `t` executes, with the moves `ms`: the thread is READY and next in its rotation, nothing holds the
word, and it raises no fault (R55, R59, R67, R71, R143, R146, R162). -/
def executes (s : State) (t : Nat) (ms : List Mv) : Bool :=
  running s && issuing s t && (thr s t).st == .ready && !heldBack s t && isNext s t && (stall s t).isNone &&
    (match curWord (thr s t) with
     | some (w, false) =>
       decide (movesOf (decodeWord w) = ms) && (encFault s t (decodeWord w)).isNone && (guardOf (thr s t) (decodeWord w)).2 &&
         !(thr s t).arch.poison.any (fun p => (guardPort (decodeWord w)).contains p) && (valueFault s t (decodeWord w) ms).isNone
     | _ => false) &&
    (match accessOf s t ms with | none => true | some (_, .ok _) => true | _ => false) && !headerPoison s t ms

/-- Whether the next word issues: it executes, and data that it reads by str.ld have arrived (R69). -/
def issues (s : State) (t : Nat) (ms : List Mv) : Bool :=
  executes s t ms && !ms.any (fun m => m.src == .port 0x152 && (thr s t).strData.isNone)

/-- Whether the next word issues and does nothing, because its guard is false (R59). -/
def skips (s : State) (t : Nat) : Bool :=
  running s && issuing s t && (thr s t).st == .ready && !heldBack s t && isNext s t && (stall s t).isNone &&
    (match curWord (thr s t) with
     | some (w, false) =>
       (encFault s t (decodeWord w)).isNone && !(guardOf (thr s t) (decodeWord w)).2 &&
         !(thr s t).arch.poison.any (fun p => (guardPort (decodeWord w)).contains p)
     | _ => false)

/-- A thread's state before a word's moves take effect: its issue slot is counted, and the immediate accumulator is used up (R61, R96). -/
def slotTaken (a : Arch) : Arch := { a with slot := a.slot + 1, immAcc := 0, immCnt := 0 }

/-- A new operation of a thread is in flight. -/
def Flies (s s' : State) (t : Nat) (k : OpKind) : Prop := ∃ o ∈ (thr s' t).arch.ops, o.kind = k ∧ (thr s t).nextOp ≤ o.id

/-- A command starts an operation of a thread. -/
def Starts (i : Instr) (s : State) (t : Nat) (k : OpKind) : Prop := Completes i s (fun s' => Flies s s' t k)

/-- A new store of a thread stands in its store buffer, or waits for a free entry. -/
def Buffers (s s' : State) (t : Nat) (ps : Pieces) (w : Nat) (data : Word) (bad : Bool) : Prop :=
  ∃ e ∈ (thr s' t).sbuf, e = { id := e.id, pieces := ps, w := w, data := lowDigits w data, poison := bad } ∧ (thr s t).nextOp ≤ e.id

/-! ### Engine jobs -/

/-- A word's move `m`, alone or beside a move to another general register. -/
def Beside (ms : List Mv) (m : Mv) : Prop := ∃ l r, ms = l ++ m :: r ∧ ∀ x ∈ l ++ r, x.dst < 64 ∧ x.dst ≠ m.dst

/-- The head job of an engine that may start work and has room for it: its descriptor names an operation of the engine (R226, R235). -/
def HeadJob (s : State) (e op : Nat) (j : Job) (rest : List Job) : Prop :=
  mayStart s e = true ∧ (eng s e).running.length < inProgress (e % 9) ∧ (eng s e).queue = j :: rest ∧ noOperation s e j = none ∧
    (jobDesc s j).op = op

/-- A head job has started with the result `r`: it has left the queue and is in progress. -/
def Started (s s' : State) (e : Nat) (j : Job) (rest : List Job) (r : JobResult) : Prop :=
  (eng s' e).queue = rest ∧ (eng s' e).running.getLast? = some { j with result := some r } ∧ r.op = (jobDesc s j).op ∧
    r.ksrc = (jobDesc s j).ksrc

/-- Every head job of a row's operation that passes its set-up with sound inputs starts, with a result of which `P` holds. -/
def Runs (row : Fin 144 → Instr) (op : Nat) (o : OpDef) (P : SetUp → State → JobResult → Prop) : Prop :=
  ∀ (s : State) (e : Fin 144) (j : Job) (rest : List Job) (u : SetUp) (s1 : State), HeadJob s e op j rest →
    setUp s e j (o.attr (jobDesc s j)) o = (.ok u, s1) → u.bad = false → s1.faults.quietDue = none →
    Completes (row e) s (fun s' => ∃ r, Started s s' e j rest r ∧ P u s1 r)

/-- A result that completes with `out` in OUT. -/
def Gives (u : SetUp) (r : JobResult) (out : Bytes) : Prop :=
  r.status = 0x10 ∧ r.writes = [(u.po, padTo (pieceBytes u.po) out)] ∧ r.stage = none

/-- A result that completes with `b` in AUX and nothing in OUT. -/
def GivesAux (u : SetUp) (r : JobResult) (b : Bytes) : Prop :=
  r.status = 0x10 ∧ r.writes = [(u.pa, padTo (pieceBytes u.pa) b)] ∧ r.stage = none

/-- A verdict: OK or MISMATCH, and nothing written. -/
def Judges (r : JobResult) (b : Prop) : Prop := (b → r.status = 0x10) ∧ (¬ b → r.status = 0x11) ∧ r.writes = [] ∧ r.stage = none

/-- A result with a created key of type `kt`. -/
def Makes (u : SetUp) (r : JobResult) (kt : Nat) (mat : Bytes) : Prop :=
  r.status = 0x10 ∧ r.stage = some (u.c.d.dslot, spanCopies u.c.d.dslot (madeHdr u.c.d kt (spanFor mat.length)) mat)

/-- A result with a created key and nothing in OUT. -/
def MakesOnly (u : SetUp) (r : JobResult) (kt : Nat) (mat : Bytes) : Prop := Makes u r kt mat ∧ r.writes = []

/-- A result with a created key, and `out` in OUT. -/
def MakesWith (u : SetUp) (r : JobResult) (kt : Nat) (mat out : Bytes) : Prop :=
  Makes u r kt mat ∧ r.writes = [(u.po, padTo (pieceBytes u.po) out)]

/-- A job that ends with a status after it has begun to write: OUT is cleared, and nothing is staged (R231). -/
def Fails (u : SetUp) (r : JobResult) (st : Nat) : Prop :=
  r.status = st ∧ r.stage = none ∧ r.writes = if u.po = [] then [] else [(u.po, zeros (pieceBytes u.po))]

/-- A job that ends with a status and writes nothing. -/
def Ends (r : JobResult) (st : Nat) : Prop := r.status = st ∧ r.stage = none ∧ r.writes = []

/-- The rows of the operations, with their codes. -/
def aesRows : List ((Fin 144 → Instr) × Nat × OpDef) :=
  [(.aesEcbEncrypt, 0xA100, opEcb 16 (aesUse "D0" "BEN") Config.aesEnc), (.aesEcbDecrypt, 0xA101, opEcb 16 (aesUse "D0" "BDN") Config.aesDec),
   (.aesCbcEncrypt, 0xA110, opCbc 16 (aesUse "D0" "BEN") true Config.aesEnc),
   (.aesCbcDecrypt, 0xA111, opCbc 16 (aesUse "D0" "BDN") false Config.aesDec), (.aesCtr, 0xA120, opCtr), (.aesGcmEncrypt, 0xA130, opGcmEnc),
   (.aesGcmDecrypt, 0xA131, opGcmDec), (.aesXtsEncrypt, 0xA140, opXts true), (.aesXtsDecrypt, 0xA141, opXts false),
   (.aesCmacGenerate, 0xA150, opMacGen 4 16 (aesUse "M6" "CG") (fun _ => true) aesMac),
   (.aesCmacVerify, 0xA151, opMacVer 4 16 (aesUse "M6" "CV") (fun _ => true) aesMac), (.kwpWrap, 0xA160, opKwpWrap),
   (.kwpUnwrap, 0xA161, opKwpUnwrap), (.clearImport, 0xA170, opClearImport),
   (.tdesEcbEncrypt, 0xA200, opEcb 8 (tdesUse "D0" "BEN") Config.tdesEnc), (.tdesEcbDecrypt, 0xA201, opEcb 8 (tdesUse "D0" "BDN") Config.tdesDec),
   (.tdesCbcEncrypt, 0xA210, opCbc 8 (tdesUse "D0" "BEN") true Config.tdesEnc),
   (.tdesCbcDecrypt, 0xA211, opCbc 8 (tdesUse "D0" "BDN") false Config.tdesDec),
   (.tdesCmacGenerate, 0xA250, opMacGen 4 8 (tdesUse "M6" "CG") (fun _ => true) tdesMac),
   (.tdesCmacVerify, 0xA251, opMacVer 4 8 (tdesUse "M6" "CV") (fun _ => true) tdesMac),
   (.macAlgorithm3Generate, 0xA260, opMacGen 4 8 ⟨[1], [algT], "M3", "CG"⟩ padMethod retailMac),
   (.macAlgorithm3Verify, 0xA261, opMacVer 4 8 ⟨[1], [algT], "M3", "CV"⟩ padMethod retailMac)]

/-- The other engines' rows. -/
def otherRows : List ((Fin 144 → Instr) × Nat × OpDef) :=
  [(.sha3224, 0xC224, opSha3 28), (.sha3256, 0xC256, opSha3 32), (.sha3384, 0xC384, opSha3 48), (.sha3512, 0xC512, opSha3 64),
   (.shake128, 0xC128, opShake 128), (.shake256, 0xC129, opShake 256), (.kmac128Generate, 0xC300, opKmacGen 128),
   (.kmac128Verify, 0xC301, opKmacVer 128), (.kmac256Generate, 0xC310, opKmacGen 256), (.kmac256Verify, 0xC311, opKmacVer 256),
   (.kmac256Derivation, 0xC320, opKmacDerive)] ++
  [(.mlDsaKeyGeneration, 0xD100, opDsaKeyGen), (.mlDsaSign, 0xD110, opDsaSign), (.mlDsaVerify, 0xD120, opDsaVerify),
   (.mlKemKeyGeneration, 0xD200, opKemKeyGen), (.mlKemEncapsulate, 0xD210, opKemEncap), (.mlKemDecapsulate, 0xD220, opKemDecap),
   (.rsaPrivateKeySignature, 0xB100, opRsaSign), (.rsaPublicVerify, 0xB110, opRsaVerify), (.rsaOaepUnwrap, 0xB120, opRsaOaep),
   (.rsaKeyGeneration, 0xB130, opRsaKeyGen), (.ecdsaSign, 0xB200, opEcdsaSign), (.ecdsaVerify, 0xB210, opEcdsaVerify), (.ecdh, 0xB220, opEcdh),
   (.ecKeyGeneration, 0xB230, opEcKeyGen), (.ed25519Sign, 0xB300, opEdSign), (.ed25519Verify, 0xB310, opEdVerify),
   (.modularExponentiation, 0xB400, opModExp)] ++
  [(.pinTranslate, 0xE100, opPinTranslate), (.pinVerifyOffset, 0xE110, opPinVerifyOffset), (.pinVerifyPvv, 0xE111, opPinVerifyPvv),
   (.pinOffsetGenerate, 0xE120, opPinOffset), (.dukptInitialKey, 0xE200, opDukptInitial), (.dukptMacGenerate, 0xE210, opDukptMacGen),
   (.dukptMacVerify, 0xE211, opDukptMacVer), (.dukptDataDecrypt, 0xE212, opDukptDecrypt), (.tr31Unwrap, 0xE300, opTr31Unwrap),
   (.tr31Wrap, 0xE301, opTr31Wrap), (.arqcVerify, 0xE400, opArqcVerify), (.arqcVerifyAndArpcGenerate, 0xE401, opArqcArpc),
   (.cvvGenerate, 0xE500, opCvvGenerate), (.cvvVerify, 0xE501, opCvvVerify), (.luhnCheck, 0xE600, opLuhnCheck),
   (.luhnCompute, 0xE601, opLuhnCompute), (.ff1Encrypt, 0xE700, opFpe ff1Ok true Config.ff1),
   (.ff1Decrypt, 0xE701, opFpe ff1Ok false Config.ff1), (.ff1ReTokenize, 0xE702, opReToken ff1Ok Config.ff1),
   (.ff31Encrypt, 0xE710, opFpe ff3Ok true Config.ff3), (.ff31Decrypt, 0xE711, opFpe ff3Ok false Config.ff3),
   (.ff31ReTokenize, 0xE712, opReToken ff3Ok Config.ff3)] ++
  [(.drbgGenerate, 0x8100, opDrbgGenerate), (.drbgReseed, 0x8110, opDrbgReseed), (.drbgGenerateKey, 0x8120, opDrbgKey)]

end Sys2Proof.Claims
end

