-- ==== Sys2Proof/Certificates/Slice0/Obligations.lean ====
section
/-! DEFINITION. The statements for the provers. -/

open Sys2Proof Sys2Proof.Machine Sys2Proof.Claims

/-! ### The digit units (chapters 4 and 5) -/

/-- R82, R91: a move to a trigger of the add unit starts its operation on N digits, with the carry or borrow; neg.t of the most negative
value sets ovf. R84: the logic unit works bit by bit on N digits. -/
def Obligations.AddAndLogicUnitsStart : Prop :=
  (∀ (s : State) (t : Fin 2048) (ms : List Mv) (m : Mv), issues s t ms = true → m ∈ ms →
    let pre := (thr s t).arch
    let n := m.w
    let a := (port pre 0x080).toNat % 16 ^ n
    let v := (mvValue s t pre m).toNat % 16 ^ n
    let c := (port pre 0x086).toNat
    let res := fun (r : Nat) (b : Bool) => OpKind.unit .add [(0x088, w64 (r % 16 ^ n)), (0x089, w64 (b2n b))] none
    (m.dst = 0x081 → Starts (.addT t) s t (res (a + v) (decide (16 ^ n ≤ a + v)))) ∧
    (m.dst = 0x082 → Starts (.subT t) s t (res (a + 2 * 16 ^ n - v) (decide (a < v)))) ∧
    (m.dst = 0x083 → Starts (.adcT t) s t (res (a + v + c) (decide (16 ^ n ≤ a + v + c)))) ∧
    (m.dst = 0x084 → Starts (.sbbT t) s t (res (a + 2 * 16 ^ n - v - c) (decide (a < v + c)))) ∧
    (m.dst = 0x085 → Completes (.negT t) s (fun s' =>
      Flies s s' t (res (16 ^ n - v) (decide (v ≠ 0))) ∧ (v = 16 ^ n / 2 → tbit (thr s' t).arch 16 = true)))) ∧
  (∀ (s : State) (t : Fin 2048) (ms : List Mv) (m : Mv), issues s t ms = true → m ∈ ms →
    let pre := (thr s t).arch
    let n := m.w
    let a := (port pre 0x090).toNat % 16 ^ n
    let v := (mvValue s t pre m).toNat % 16 ^ n
    let res := fun (r : Nat) => OpKind.unit .logic [(0x098, w64 (r % 16 ^ n))] none
    (m.dst = 0x091 → Starts (.andT t) s t (res (a &&& v))) ∧
    (m.dst = 0x092 → Starts (.orT t) s t (res (a ||| v))) ∧
    (m.dst = 0x093 → Starts (.xorT t) s t (res (a ^^^ v))) ∧
    (m.dst = 0x094 → Starts (.andnT t) s t (res (a &&& (16 ^ n - 1 - v)))) ∧
    (m.dst = 0x095 → Starts (.notT t) s t (res (16 ^ n - 1 - v))))

/-- R85: the shift unit works on the width of sh.a; a count of that width or more shifts everything out, and a rotation takes the count
modulo the width. R86, R87: a compare gives its relation to cmp.r, and to the thread bit that cmp.bi names. -/
def Obligations.ShiftAndCompareUnitsStart : Prop :=
  (∀ (s : State) (t : Fin 2048) (ms : List Mv) (m : Mv), issues s t ms = true → m ∈ ms →
    let pre := (thr s t).arch
    let n := pre.shW
    let a := (port pre 0x0A0).toNat % 16 ^ n
    let c := (mvValue s t pre m).toNat % 256
    let k := c % (4 * n)
    let res := fun (r : Nat) => OpKind.unit .shift [(0x0A8, w64 (r % 16 ^ n))] none
    (m.dst = 0x0A1 → Starts (.shlT t) s t (res (if c < 4 * n then a * 2 ^ c else 0))) ∧
    (m.dst = 0x0A2 → Starts (.shrT t) s t (res (if c < 4 * n then a / 2 ^ c else 0))) ∧
    (m.dst = 0x0A3 → Starts (.sarT t) s t (res (toTrain n (signedOf (4 * n) a / 2 ^ (min c (4 * n)))))) ∧
    (m.dst = 0x0A4 → Starts (.rolT t) s t (res ((a <<< k) ||| (a >>> (4 * n - k))))) ∧
    (m.dst = 0x0A5 → Starts (.rorT t) s t (res ((a >>> k) ||| (a <<< (4 * n - k)))))) ∧
  (∀ (s : State) (t : Fin 2048) (ms : List Mv) (m : Mv), issues s t ms = true → m ∈ ms →
    let pre := (thr s t).arch
    let n := m.w
    let a := port pre 0x0B0
    let v := mvValue s t pre m
    let bi := (port pre 0x0B6).toNat
    let res := fun (b : Bool) => OpKind.unit .compare [(0x0B8, w64 (b2n b))] (if bi < 32 then some (bi, b) else none)
    (m.dst = 0x0B1 → Starts (.cmpEqT t) s t (res (train n a == train n v))) ∧
    (m.dst = 0x0B2 → Starts (.cmpLtT t) s t (res (decide (strain n a < strain n v)))) ∧
    (m.dst = 0x0B3 → Starts (.cmpLtuT t) s t (res (decide (train n a < train n v)))) ∧
    (m.dst = 0x0B4 → Starts (.cmpLeT t) s t (res (decide (strain n a ≤ strain n v)))) ∧
    (m.dst = 0x0B5 → Starts (.cmpLeuT t) s t (res (decide (train n a ≤ train n v)))))

/-- R88 to R90, R93: the decimal unit's operations, and the sticky bits they set. R95, R96, R99, R91: products and quotients. A product
becomes visible after 3 further issue slots, or 6 for more than 8 digits, and never before an earlier one; a division by zero sets dz, and
the most negative value divided by -1 sets ovf. -/
def Obligations.DecimalMultiplyAndDivideStart : Prop :=
  (∀ (s : State) (t : Fin 2048) (ms : List Mv) (m : Mv), issues s t ms = true → m ∈ ms →
    let pre := (thr s t).arch
    let n := m.w
    let a := (port pre 0x0C0).toNat % 16 ^ n
    let v := (mvValue s t pre m).toNat % 16 ^ n
    let res := fun (r c : Nat) => OpKind.unit .decimal [(0x0C8, w64 r), (0x0C9, w64 c)] none
    (m.dst = 0x0C1 → Completes (.daddT t) s (fun s' => Flies s s' t (res (daddDigits n a v 0).1 (daddDigits n a v 0).2.1) ∧
      ((daddDigits n a v 0).2.2 = true → tbit (thr s' t).arch 18 = true))) ∧
    (m.dst = 0x0C2 → Completes (.dsubT t) s (fun s' => Flies s s' t (res (dsubDigits n a v 0).1 (dsubDigits n a v 0).2.1) ∧
      ((dsubDigits n a v 0).2.2 = true → tbit (thr s' t).arch 18 = true))) ∧
    (m.dst = 0x0C3 → Starts (.dchkT t) s t (res (dchkDigits n v) (b2n (anyBad n v)))) ∧
    (m.dst = 0x0C4 → Completes (.dcvtT t) s (fun s' =>
      Flies s s' t (res (if anyBad n v then 16 ^ 16 - 1 else bcdValue n v) 0) ∧ (anyBad n v = true → tbit (thr s' t).arch 18 = true))) ∧
    (m.dst = 0x0C5 → Completes (.bcvtT t) s (fun s' =>
      Flies s s' t (res (bcdOf 16 v) 0) ∧ (10 ^ 16 ≤ v → tbit (thr s' t).arch 16 = true)))) ∧
  (∀ (s : State) (t : Fin 2048) (ms : List Mv) (m : Mv), issues s t ms = true → m ∈ ms →
    let pre := (thr s t).arch
    let n := m.w
    let v := mvValue s t pre m
    let prod := fun (i : Instr) (p : Nat) => Completes i s (fun s' => ∃ vis, pre.slot + 1 + (if n ≤ 8 then 3 else 6) ≤ vis ∧
      Flies s s' t (.mul (w64 (p % 16 ^ 16)) (w64 (p / 16 ^ 16)) vis false))
    let quot := fun (i : Instr) (sg : Bool) (q r : Nat) (st : Option Nat) => Completes i s (fun s' =>
      (∃ steps, Flies s s' t (.div sg steps [(0x0E8, w64 q), (0x0E9, w64 r)] pre.pc pre.rep (port pre 0x11A))) ∧
        ∀ b, st = some b → tbit (thr s' t).arch b = true)
    let a := train n (port pre 0x0E0)
    let x := train n v
    let sa := strain n (port pre 0x0E0)
    let sx := strain n v
    (m.dst = 0x0D1 → prod (.mulT t) (train n (port pre 0x0D0) * x % 16 ^ (2 * n))) ∧
    (m.dst = 0x0D2 → prod (.mulsT t) (toTrain (2 * n) (strain n (port pre 0x0D0) * sx))) ∧
    (m.dst = 0x0E1 → x ≠ 0 → quot (.divT t) false (a / x) (a % x) none) ∧
    (m.dst = 0x0E1 → x = 0 → quot (.divT t) false (16 ^ n - 1) a (some 17)) ∧
    (m.dst = 0x0E2 → sx ≠ 0 → ¬ (sa = -((16 ^ n / 2 : Nat) : Int) ∧ sx = -1) →
      quot (.divsT t) true (toTrain n (sa.tdiv sx)) (toTrain n (sa.tmod sx)) none) ∧
    (m.dst = 0x0E2 → sx = 0 → quot (.divsT t) true (16 ^ n - 1) a (some 17)) ∧
    (m.dst = 0x0E2 → sa = -((16 ^ n / 2 : Nat) : Int) → sx = -1 → quot (.divsT t) true (16 ^ n / 2) 0 (some 16)))

/-- R80, R87, R101: when an operation of a digit unit ends, it leaves and its results land, a compare's in its bit too; a code violation or
a timeout poisons them (R38, R41), and the timeout is counted. A product keeps its slot. R96, R97: once its slot has come, a thread's
oldest product becomes visible in mul.lo and mul.hi. -/
def Obligations.UnitResultsLand : Prop :=
  (∀ (s : State) (t : Fin 2048) (u : DUnit) (op : Op), unitOp (thr s t) u = some op →
    let pre := (thr s t).arch
    let left := { pre with ops := pre.ops.filter (fun x => x.id != op.id) }
    let ends := fun (i : Instr) (bad : Bool) (P : State → Prop) =>
      (∀ v ws, op.kind = .unit v ws none → Completes i s (fun s' => (thr s' t).arch = writePorts left ws bad ∧ P s')) ∧
      (∀ v ws j b, op.kind = .unit v ws (some (j, b)) → Completes i s (fun s' =>
        (thr s' t).arch = setPoison (setBit (writePorts left ws bad) j b) (bitPort j) bad ∧ P s')) ∧
      (∀ sg n ws pc rep cnt, op.kind = .div sg n ws pc rep cnt → Completes i s (fun s' =>
        (thr s' t).arch = writePorts left ws bad ∧ (cyl s' (cylOf t)).divBusy = none ∧ P s')) ∧
      (∀ lo hi n b, op.kind = .mul lo hi n b → Completes i s (fun s' =>
        (thr s' t).arch.ops = (if bad then pre.ops.map (fun x => if x.id = op.id then { x with kind := .mul lo hi n true } else x)
          else pre.ops) ∧ P s'))
    (∀ o, ends (.digitUnitResult t u o) (o == .codeViolation || o == .timeout) (fun _ => True)) ∧
    ends (.completionTimeout t u) true (fun s' =>
      fldGet s' .cylCmode (cylOf t) 15 8 = min 255 (fldGet s .cylCmode (cylOf t) 15 8 + 1))) ∧
  (∀ (s : State) (t : Fin 2048) (op : Op) (lo hi : Word) (n : Nat) (bad : Bool),
    let pre := (thr s t).arch
    pre.ops.find? (fun o => match o.kind with | .mul _ _ _ _ => true | _ => false) = some op → op.kind = .mul lo hi n bad →
    n ≤ pre.slot → Completes (.mulProductVisible t) s (fun s' =>
      (thr s' t).arch = writePorts { pre with ops := pre.ops.filter (fun o => o.id != op.id) } [(0x0D8, lo), (0x0D9, hi)] bad))

/-! ### Words, branches and calls (chapters 3 and 6) -/

/-- R55, R61, R65, R128: a word of plain moves writes each destination from the state before it, and the program counter advances; an
append to imm.hi shifts the accumulator by four digits; a word whose guard is false takes its slot and does nothing (R59). -/
def Obligations.MovesWriteTheirPorts : Prop :=
  ∀ (s : State) (t : Fin 2048),
    let pre := (thr s t).arch
    (∀ ms, issues s t ms = true → rowMatch s t .move ms = true → Completes (.moveIssue t) s (fun s' =>
      (thr s' t).arch = advance (ms.foldl (fun a m => writePort s t a m.dst m.w (mvValue s t pre m)) (slotTaken pre)))) ∧
    (∀ m, issues s t [m] = true → m.dst = 0x1CF → Completes (.immHiAppend t) s (fun s' =>
      (thr s' t).arch = advance { pre with
        slot := pre.slot + 1
        immAcc := BitVec.ofNat 48 (pre.immAcc.toNat * 65536 + (mvValue s t pre m).toNat % 65536), immCnt := min 3 (pre.immCnt + 1) })) ∧
    (skips s t = true → Completes (.moveIssue t) s (fun s' => (thr s' t).arch = advance (slotTaken pre)))

/-- R107 to R117: a branch trigger compares cb.a with the value, or tests a thread bit; the thread follows the static prediction, taken
when the staged target is not above the branch word, and keeps what a misprediction restores. R115, R117: the oldest branch resolves. A
right prediction lets the thread go on, and a wrong one restores the state that the branch kept and discards every word past it. -/
def Obligations.Branches : Prop :=
  (∀ (s : State) (t : Fin 2048) (ms : List Mv) (m : Mv), issues s t ms = true → m ∈ ms →
    let pre := (thr s t).arch
    let n := m.w
    let a := port pre 0x102
    let v := mvValue s t pre m
    let g := stagedTarget pre
    let back := decide (g.toNat ≤ pre.pc.toNat)
    let goes := fun (i : Instr) (c : BranchCond) => Completes i s (fun s' => Flies s s' t .branch ∧
      ∃ x b, x.pc = pre.pc ∧ (thr s' t).spec.getLast? = some b ∧ b.cond = c ∧ b.predicted = some back ∧ b.guess = g ∧
        (thr s' t).arch = b.along ∧ b.along = (if back then transfer x g else advance x) ∧
        b.saved = (if back then advance x else transfer x g))
    let bit := fun (sense : Bool) =>
      let i := v.toNat % 4096
      if pending (thr s t) pre (bitPort i) then BranchCond.onBit i sense else .known (tbit pre i == sense)
    (m.dst = 0x104 → goes (.cbEqT t) (.known (decide (train n a = train n v)))) ∧
    (m.dst = 0x105 → goes (.cbNeT t) (.known (decide (train n a ≠ train n v)))) ∧
    (m.dst = 0x106 → goes (.cbLtT t) (.known (decide (strain n a < strain n v)))) ∧
    (m.dst = 0x107 → goes (.cbGeT t) (.known (decide (strain n v ≤ strain n a)))) ∧
    (m.dst = 0x108 → goes (.cbLtuT t) (.known (decide (train n a < train n v)))) ∧
    (m.dst = 0x109 → goes (.cbGeuT t) (.known (decide (train n v ≤ train n a)))) ∧
    (m.dst = 0x10A → goes (.cbBsT t) (bit true)) ∧
    (m.dst = 0x10B → goes (.cbBcT t) (bit false))) ∧
  (∀ (s : State) (t : Fin 2048) (b : Branch) (rest : List Branch) (taken : Bool), (thr s t).spec = b :: rest →
    branchTaken (thr s t) b = some taken →
    let pre := (thr s t).arch
    (b.predicted = some taken → Completes (.branchResolve t) s (fun s' =>
      (thr s' t).arch.pc = pre.pc ∧ (thr s' t).arch.g = pre.g ∧ (∀ o ∈ (thr s' t).arch.ops, o.id ≠ b.op) ∧
        (thr s' t).spec.length = rest.length)) ∧
    (b.predicted ≠ some taken → Completes (.branchResolve t) s (fun s' =>
      (thr s' t).arch = { b.saved with ops := b.saved.ops.filter (fun o => o.id != b.op) } ∧ (thr s' t).spec = [] ∧
        (thr s' t).heldFault = none)))

/-- R110, R121 to R131: jumps, calls, returns and repeats. A jump ends a repeat; a call saves the return address, the mask and the masked
groups below ts.ssp and goes to the staged target; a return reads its frame, raises ts.ssp and goes where the return stack predicts. R124,
R125: a return's frame arrives. Its registers land, and its address confirms the prediction or is where the thread goes on. -/
def Obligations.TransfersOfControl : Prop :=
  (∀ (s : State) (t : Fin 2048) (ms : List Mv) (m : Mv), issues s t ms = true → m ∈ ms →
    let pre := (thr s t).arch
    let v := mvValue s t pre m
    let ssp := (port pre 0x1C3).toNat
    (m.dst = 0x10C → Completes (.jmpT t) s (fun s' =>
      (thr s' t).arch.pc = BitVec.ofNat 56 v.toNat ∧ (thr s' t).arch.rep.active = false)) ∧
    (m.dst = 0x10D → Completes (.jmpRelT t) s (fun s' =>
      (thr s' t).arch.pc = pre.pc + BitVec.ofInt 56 (8 * signedOf 32 (signedPort m.w 8 v).toNat) ∧ (thr s' t).arch.rep.active = false)) ∧
    (m.dst = 0x110 →
      let mask := v.toNat % 65536
      let va := (ssp + 2 ^ 56 - frameDigits mask) % 2 ^ 56
      let items := (w64 (pre.pc + 8).toNat, false) :: (w64 mask, false) :: (maskRegs mask).map (fun r => (greg pre r, pre.poison.contains r))
      Completes (.callT t) s (fun s' =>
        (thr s' t).arch.pc = stagedTarget pre ∧ port (thr s' t).arch 0x1C3 = w64 va ∧ (thr s' t).arch.ras.getLast? = some (pre.pc + 8) ∧
          ∀ i x, items[i]? = some x → Buffers s s' t (okPieces s t ((va + 16 * i) % 2 ^ 56) 16 3) 16 x.1 x.2)) ∧
    (m.dst = 0x111 →
      let item := fun i =>
        let ps := okPieces s t ((ssp + 16 * i) % 2 ^ 56) 16 2
        (ps, fwdData (forward (thr s t).sbuf ps))
      let regs := maskRegs (frameMask s t)
      Completes (.retT t) s (fun s' =>
        Flies s s' t (.ret [item 0, item 1] ((List.range regs.length).map (fun j => (nth 0 regs j, item (j + 2))))) ∧
          (thr s' t).arch.pc = (pre.ras.getLast?).getD pre.pc ∧ (thr s' t).arch.ras = pre.ras.dropLast ∧
          port (thr s' t).arch 0x1C3 = w64 ((ssp + frameDigits (frameMask s t)) % 2 ^ 56))) ∧
    (m.dst = 0x119 →
      let len := (port pre 0x118).toNat
      let c := v.toNat % 2 ^ 32
      Completes (.repT t) s (fun s' =>
        if c = 0 then (thr s' t).arch.pc = pre.pc + BitVec.ofNat 56 (8 + 8 * len) ∧ (thr s' t).arch.rep.active = false
        else (thr s' t).arch.pc = pre.pc + 8 ∧ (thr s' t).arch.rep = { active := true, len := len, pos := 0 } ∧
          port (thr s' t).arch 0x11A = w64 (c - 1)))) ∧
  (∀ (s : State) (t : Fin 2048) (b : Branch) (rest : List Branch) (op : Op) (h : Pieces × Option (Word × Bool))
    (hs : List (Pieces × Option (Word × Bool))) (regs : List (Nat × Pieces × Option (Word × Bool))),
    (thr s t).spec = b :: rest → (thr s t).arch.ops.find? (fun o => o.id == b.op) = some op → op.kind = .ret (h :: hs) regs →
    oldestMem (thr s t) op.id = true → (regs.map (·.1)).Nodup →
    let actual := BitVec.ofNat 56 (frameItem s h).1.toNat
    (b.predicted.isSome = true → b.guess = actual → Completes (.returnResolve t) s (fun s' =>
      (thr s' t).arch.pc = (thr s t).arch.pc ∧ (∀ r ∈ regs, greg (thr s' t).arch r.1 = (frameItem s r.2).1) ∧
        (∀ o ∈ (thr s' t).arch.ops, o.id ≠ b.op) ∧ (thr s' t).spec.length = rest.length)) ∧
    (¬ (b.predicted.isSome = true ∧ b.guess = actual) → Completes (.returnResolve t) s (fun s' =>
      (thr s' t).arch.pc = actual ∧ (∀ r ∈ regs, greg (thr s' t).arch r.1 = (frameItem s r.2).1) ∧ (thr s' t).spec = [])))

/-! ### Threads (chapters 7 and 8) -/

/-- R141 to R144, R133: a thread waits unless something is there for it, halts, yields to the threads that are READY, starts a halted
thread of its partition, and discards its held fetch groups. R162: a fence of each kind stands until its condition holds. -/
def Obligations.ThreadControlAndFences : Prop :=
  (∀ (s : State) (t : Fin 2048) (ms : List Mv) (m : Mv), issues s t ms = true → Beside ms m →
    let pre := (thr s t).arch
    let v := mvValue s t pre m
    (m.dst = 0x120 → Completes (.thrWaitT t) s (fun s' =>
      (thr s' t).st = (if (thr s t).inbox ≠ [] ∨ anyClaim s t = true then .ready else .wait) ∧ (thr s' t).arch.pc = (advance pre).pc)) ∧
    (m.dst = 0x121 → Completes (.thrHaltT t) s (fun s' =>
      (thr s' t).st = .halt ∧ (thr s' t).resv = none ∧ (thr s' t).current = none ∧ (thr s' t).inbox = [] ∧
        (thr s' t).arch.pc = (advance pre).pc)) ∧
    (m.dst = 0x122 → Completes (.thrYieldT t) s (fun s' =>
      (thr s' t).yieldFor = (siblings t).filter (fun u => u != t.val && (thr s u).st == .ready) ∧ (thr s' t).arch.pc = (advance pre).pc)) ∧
    (m.dst = 0x123 →
      let u := 16 * (t.val / 16) + v.toNat % 256
      u ≠ t.val → (thr s u).st = .halt → (thr s u).part = (thr s t).part → Completes (.thrStartT t) s (fun s' =>
        (thr s' u).st = .ready ∧ (thr s' u).arch.pc = stagedTarget pre ∧ (thr s' u).arch.ops = [] ∧ (thr s' u).held = [] ∧
          (thr s' u).arch.g = (thr s u).arch.g ∧ (thr s' u).arch.bits = (thr s u).arch.bits)) ∧
    (m.dst = 0x12C → Completes (.ctlIfence t) s (fun s' => (thr s' t).held = [] ∧ (thr s' t).arch.pc = (advance pre).pc))) ∧
  (∀ (s : State) (t : Fin 2048) (ms : List Mv) (m : Mv), issues s t ms = true → Beside ms m → m.dst = 0x12D →
    let k := (mvValue s t (thr s t).arch m).toNat % 16
    let stands := fun (i : Instr) => Completes i s (fun s' =>
      ((k, (thr s t).nextOp) ∈ (thr s' t).fence ∨ fenceMet s' t (k, (thr s t).nextOp) = true) ∧
        (thr s' t).arch.pc = (advance (thr s t).arch).pc)
    (k = 0 → stands (.fenceSl t)) ∧ (k = 1 → stands (.fenceFull t)) ∧ (k = 2 → stands (.fenceDev t)) ∧ (k = 3 → stands (.fenceDrain t)))

/-! ### Memory (chapters 8 and 9) -/

/-- R159, R175, R153, R156, R176: a load, a store, a store-conditional or an atomic starts on the digits that its address translates to; a
load takes what the thread's own buffered stores hold; a store stands in the store buffer. R69: a read of str.ld starts a load at str.src,
for which the word waits; once the data are there the word issues with them and str.src advances. A move to str.st stores at str.dst and
advances it. -/
def Obligations.AccessesAndStreamsStart : Prop :=
  (∀ (s : State) (t : Fin 2048) (ms : List Mv) (m : Mv), issues s t ms = true → m ∈ ms →
    let pre := (thr s t).arch
    let v := mvValue s t pre m
    let va := v.toNat % 2 ^ 56
    let r := (port pre 0x140).toNat % 256
    let n := (port pre 0x140).toNat / 256 % 16 + 1
    let ld := okPieces s t va n 2
    let at_ := fun (i : Instr) (which : Nat) => Starts i s t
      (.atomic which pre.atW (okPieces s t va pre.atW 4) (lowDigits pre.atW (port pre 0x148)) (lowDigits pre.atW (port pre 0x149)))
    (m.dst = 0x141 → Starts (.ldT t) s t (.load r n (BitVec.ofNat 56 va) ld (fwdData (forward (thr s t).sbuf ld)) false)) ∧
    (m.dst = 0x142 → Starts (.ldrT t) s t (.load r n (BitVec.ofNat 56 va) (okPieces s t va n 4) none true)) ∧
    (m.dst = 0x145 → Completes (.stT t) s (fun s' =>
      Buffers s s' t (okPieces s t va pre.stW 3) pre.stW (port pre 0x144) (pre.poison.contains 0x144))) ∧
    (m.dst = 0x146 → Starts (.stcT t) s t
      (.stc pre.stW (okPieces s t va pre.stW 4) (lowDigits pre.stW (port pre 0x144)) (pre.poison.contains 0x144))) ∧
    (m.dst = 0x14A → at_ (.atAddT t) 0) ∧ (m.dst = 0x14B → at_ (.atSwpT t) 1) ∧ (m.dst = 0x14C → at_ (.atCasT t) 2)) ∧
  (∀ (s : State) (t : Fin 2048),
    let pre := (thr s t).arch
    let src := (port pre 0x150).toNat
    let dst := (port pre 0x151).toNat
    (∀ m, executes s t [m] = true → m.src = .port 0x152 → (thr s t).strData = none →
      let ps := (accessOf s t [m]).elim [] (fun x => (accOk x.2).getD [])
      Completes (.strLd t) s (fun s' =>
        Flies s s' t (.strLoad m.w ps (fwdData (forward (thr s t).sbuf ps))) ∧ (thr s' t).st = .parked ∧ (thr s' t).arch.pc = pre.pc)) ∧
    (∀ m w, issues s t [m] = true → m.src = .port 0x152 → (thr s t).strData = some (w, false) → m.dst < 64 →
      Completes (.strLd t) s (fun s' =>
        greg (thr s' t).arch m.dst = lowDigits m.w w ∧ port (thr s' t).arch 0x150 = w64 ((src + m.w) % 2 ^ 56) ∧
          (thr s' t).strData = none ∧ (thr s' t).arch.pc = (advance pre).pc)) ∧
    (∀ ms m, issues s t ms = true → m ∈ ms → m.dst = 0x153 → Completes (.strSt t) s (fun s' =>
      Buffers s s' t (okPieces s t dst m.w 3) m.w (mvValue s t pre m) false ∧
        (ms = [m] → port (thr s' t).arch 0x151 = w64 ((dst + m.w) % 2 ^ 56)))))

/-- R153 to R156, R160: a store-conditional, an atomic or a test-and-set is performed once every earlier access of its thread has been. A
store-conditional stores only under a reservation that covers it, and ends the reservation; an atomic leaves what it read in at.r, and a
compare-and-swap stores only on a match. R150 to R152: a test-and-set starts; a read of bs.k gives the keyring bit that bs.kx names, and a
write sets it. -/
def Obligations.OrderedAccessesAndKeyringBits : Prop :=
  (∀ (s : State) (t : Fin 2048),
    let th := thr s t
    (∀ o w ps d bad, th.arch.ops.find? (fun o => match o.kind with | .stc _ _ _ _ => true | _ => false) = some o →
      o.kind = .stc w ps d bad → oldestMem th o.id = true → drained th o.id = true →
      let ok := match th.resv with | some r => (pieceLines ps).all (fun l => r.contains l) | none => false
      Completes (.stcDecided t) s (fun s' =>
        port (thr s' t).arch 0x147 = w64 (b2n ok) ∧ (thr s' t).resv = none ∧ (∀ x ∈ (thr s' t).arch.ops, x.id ≠ o.id) ∧
          s'.mem = if ok then (storePieces s (some t) ps (natDigits w d.toNat) bad).mem else s.mem)) ∧
    (∀ o which w ps x c, th.arch.ops.find? (fun o => match o.kind with | .atomic _ _ _ _ _ => true | _ => false) = some o →
      o.kind = .atomic which w ps x c → oldestMem th o.id = true → drained th o.id = true →
      let prior := (loadPieces s ps).1
      Completes (.atomicComplete t) s (fun s' =>
        port (thr s' t).arch 0x14F = prior ∧ (∀ y ∈ (thr s' t).arch.ops, y.id ≠ o.id) ∧
          s'.mem = (if poisoned s ps = true ∨ 2 ≤ which ∧ prior ≠ c then s.mem else
            (storePieces s (some t) ps (natDigits w ((if which = 0 then lowDigits w (prior + x) else x).toNat)) false).mem))) ∧
    (∀ o i, th.arch.ops.find? isTas = some o → o.kind = .tas i → oldestMem th o.id = true → drained th o.id = true →
      Completes (.bsTasComplete t) s (fun s' =>
        port (thr s' t).arch 0x065 = w64 (b2n (tget false (kring s (krOf t)).kbits i)) ∧
          tget false (kring s' (krOf t)).kbits i = true ∧ ∀ y ∈ (thr s' t).arch.ops, y.id ≠ o.id))) ∧
  (∀ (s : State) (t : Fin 2048) (ms : List Mv) (m : Mv), issues s t ms = true → Beside ms m →
    let pre := (thr s t).arch
    let v := mvValue s t pre m
    let i := (port pre 0x062).toNat % 4096
    let bit := tget false (kring s (krOf t)).kbits i
    (m.dst = 0x064 → Starts (.bsTasT t) s t (.tas (v.toNat % 4096))) ∧
    (m.src = .port 0x063 → m.dst < 64 → Completes (.bsKRead t) s (fun s' => greg (thr s' t).arch m.dst = lowDigits m.w (w64 (b2n bit)))) ∧
    (m.dst = 0x063 → Completes (.bsKWrite t) s (fun s' =>
      tget false (kring s' (krOf t)).kbits i = v.getLsbD 0 ∧ ∀ j, j ≠ i → tget false (kring s' (krOf t)).kbits j = tget false (kring s (krOf t)).kbits j)))

/-- R159, R176, R175, R158: the oldest load of a thread lands in its register, from memory or from the thread's own buffered store; the
oldest store of a thread, with no earlier access of it outstanding, is written to memory and leaves the store buffer. -/
def Obligations.LoadsLandAndStoresLeave : Prop :=
  ∀ (s : State) (t : Fin 2048) (ecc : EccOutcome),
    let th := thr s t
    (∀ o r w va ps fwd, th.arch.ops.find? isMemOp = some o → o.kind = .load r w va ps fwd false → ctlTarget ps = none →
      accessOut s t ps = false → r < 64 → Completes (.loadDataLand t ecc) s (fun s' =>
        greg (thr s' t).arch r = lowDigits w (fwd.getD (loadPieces s ps)).1 ∧ (∀ x ∈ (thr s' t).arch.ops, x.id ≠ o.id) ∧
          (thr s' t).arch.pc = th.arch.pc ∧ s'.mem = s.mem)) ∧
    (∀ e rest, th.sbuf = e :: rest → oldestMem th e.id = true → (∀ p ∈ e.pieces, isCtl p.1 = false) → accessOut s t e.pieces = false →
      Completes (.storeLeavesBuffer t false) s (fun s' =>
        (thr s' t).sbuf = rest ∧ s'.mem = (storePieces s (some t) e.pieces (natDigits e.w e.data.toNat) e.poison).mem ∧
          (thr s' t).arch = th.arch))

/-- R132, R205, R206: a fetch group of four words arrives for a thread that lacks it; a walk that ends fills the keyring's TLB, and one
that finds no mapping raises the translation fault of the word that waits. -/
def Obligations.FetchesAndWalksEnd : Prop :=
  ∀ (s : State) (t : Fin 2048),
    let th := thr s t
    (∀ g pa n ps parity, (th.st = .ready ∨ th.st = .parked) → retAwaited th = false → th.sync = none → th.heldFault = none →
      lackGroup th = some g → thrAccess s t g 32 1 = .ok ((pa, n) :: ps) →
      Completes (.fetchGroupArrive t parity) s (fun s' =>
        alook (thr s' t).held g = some (groupWords s pa, poisoned s [(pa, 32)]) ∧ (thr s' t).arch = th.arch)) ∧
    (∀ w e, th.walk = some w → walk s th.part w.va.toNat = .ok e → Completes (.pageWalkComplete t) s (fun s' =>
      e ∈ (kring s' (krOf t)).tlb ∧ (thr s' t).walk = none ∧ (thr s' t).arch = th.arch)) ∧
    (∀ w d l, th.walk = some w → walk s th.part w.va.toNat = .error (d, l) → w.waits = true → th.st = .parked → th.spec = [] →
      Completes (.pageWalkComplete t) s (fun s' =>
        (thr s' t).walk = none ∧ ∃ k, (thr s' t).sync = some k ∧ k.cause = (if w.acc = 1 then 0x20 else 0x21) ∧ k.epc = th.arch.pc ∧
          k.fva = BitVec.ofNat 56 w.va.toNat ∧ k.finfo = w64 (l * 4096 + d * 256 + w.acc * 16)))

/-! ### Seats and jobs (chapter 9) -/

/-- R220 to R223, R226: a seat request is refused by ORDER, RETIRED or DENIED, in this order, granted, or waits; a release ends the
thread's seat, which a running job keeps; a job without a seat ends with NOSEAT, and else it is on its way to the engine's queue. -/
def Obligations.SeatsAndJobs : Prop :=
  ∀ (s : State) (t : Fin 2048) (ms : List Mv) (m : Mv), issues s t ms = true → Beside ms m →
    let th := thr s t
    let v := mvValue s t th.arch m
    let i := v.toNat % 16
    let e := 9 * krOf t + i
    let order := (List.range 9).any (fun j => decide (i ≤ j) && holdsSeat s t (9 * krOf t + j))
    let cap := kcSeatCap s.kc th.part (engKind i)
    let answers := fun (c : Nat) => Completes (.engRsvT t) s (fun s' =>
      port (thr s' t).arch 0x302 = w64 c ∧ (∀ f, eng s' f = eng s f) ∧ (thr s' t).arch.pc = (advance th.arch).pc)
    let job := fun (k : Nat) => 9 * krOf t + k
    (m.dst = 0x300 → order = true → answers 2) ∧
    (m.dst = 0x300 → order = false → (eng s e).svc = 0 → answers 3) ∧
    (m.dst = 0x300 → order = false → (eng s e).svc ≠ 0 → cap = 0 → answers 4) ∧
    (m.dst = 0x300 → order = false → (eng s e).svc = 1 → cap ≠ 0 → seatFree s e th.part = true → Completes (.engRsvT t) s (fun s' =>
      port (thr s' t).arch 0x302 = 1 ∧ { tid := t.val, part := th.part, ended := false, job := false } ∈ (eng s' e).seats)) ∧
    (m.dst = 0x300 → order = false → (eng s e).svc ≠ 0 → cap ≠ 0 → ¬ ((eng s e).svc = 1 ∧ seatFree s e th.part = true) →
      Completes (.engRsvT t) s (fun s' => Flies s s' t (.engRsv e) ∧ (eng s' e).waiting = (eng s e).waiting ++ [t.val])) ∧
    (m.dst = 0x301 → t.val ∉ (eng s e).waiting → Completes (.engRelT t) s (fun s' => holdsSeat s' t e = false ∧
      (∀ x ∈ (eng s e).seats, x.tid = t.val → x.job = true → { x with ended := true } ∈ (eng s' e).seats) ∧
        (thr s' t).arch.pc = (advance th.arch).pc)) ∧
    (∀ k, k < 9 → m.dst = 0x310 + 8 * k → holdsSeat s t (job k) = false → Completes (.eJobT t) s (fun s' =>
      port (thr s' t).arch (resPort k) = 0x22 ∧ port (thr s' t).arch (pollPort k) = 0x22 ∧ (eng s' (job k)).queue = (eng s (job k)).queue)) ∧
    (∀ k, k < 9 → m.dst = 0x310 + 8 * k → holdsSeat s t (job k) = true → th.sbuf = [] → Completes (.eJobT t) s (fun s' =>
      port (thr s' t).arch (pollPort k) = 1 ∧ ∃ j ∈ (eng s' (job k)).queue,
        j = { tid := t.val, part := th.part, va := v.toNat % 2 ^ 56, desc := okPieces s t (v.toNat % 2 ^ 56) 128 2, turn := thrTurn s t
              session := (match th.current with | some c => c.cmd.session | none => 0), result := none }))

/-- R226, R228 to R235: whatever its operation, a head job that fails a check of its set-up starts, to complete with that check's status,
and writes and stages nothing; with a poisoned input it will complete with POISON; the operation's other parts are read as R228 gives them. -/
def Obligations.SetUpsDecide : Prop :=
  ∀ x ∈ aesRows ++ otherRows, ∀ (s : State) (e : Fin 144) (j : Job) (rest : List Job), HeadJob s e x.2.1 j rest →
    let o := x.2.2
    let d := o.attr (jobDesc s j)
    (∀ st s1, setUp s e j d o = (.error st, s1) → s1.faults.quietDue = none → Completes (x.1 e) s (fun s' => ∃ r, Started s s' e j rest r ∧
      Ends r st)) ∧
    (∀ u s1, setUp s e j d o = (.ok u, s1) → s1.faults.quietDue = none → u.bad = true → Completes (x.1 e) s (fun s' => ∃ r,
      Started s s' e j rest r ∧ r.status = 0x41 ∧ r.stage = none)) ∧
    (∀ st s1, setUp s e j d o = (.error st, s1) → st ∈ [0x20, 0x21, 0x30, 0x31, 0x32, 0x33, 0x34, 0x35, 0x36, 0x37, 0x42]) ∧
    (∀ u s1, setUp s e j d o = (.ok u, s1) → d.clean = true ∧ o.okDesc d = true ∧
      (∃ pi, bufPieces s (e.val / 9) j.part (bufIn o d) = some pi ∧ u.c.inB = readBytes s pi) ∧
      bufPieces s (e.val / 9) j.part (bufOut o d) = some u.po ∧
      bufPieces s (e.val / 9) j.part (bufAux o d) = some u.pa ∧ u.c.auxB = readBytes s u.pa ∧ u.c.d = d ∧ u.c.e = e.val ∧ u.c.p = j.part)

/-- R227 to R231, R237: the AES engines' ciphers. R237, R271: the AES engines' MACs, key wrap and clear import. -/
def Obligations.AesEnginesRun : Prop :=
  (Runs .aesEcbEncrypt 0xA100 (opEcb 16 (aesUse "D0" "BEN") Config.aesEnc) (fun u _ r =>
    Gives u r ((blocks 16 u.c.inB).flatMap (Config.aesEnc (keyBytes u.c.k1)))) ∧
  Runs .aesEcbDecrypt 0xA101 (opEcb 16 (aesUse "D0" "BDN") Config.aesDec) (fun u _ r =>
    Gives u r ((blocks 16 u.c.inB).flatMap (Config.aesDec (keyBytes u.c.k1)))) ∧
  Runs .aesCbcEncrypt 0xA110 (opCbc 16 (aesUse "D0" "BEN") true Config.aesEnc) (fun u _ r =>
    Gives u r (cbcEncRun (Config.aesEnc (keyBytes u.c.k1)) u.c.auxB (blocks 16 u.c.inB))) ∧
  Runs .aesCbcDecrypt 0xA111 (opCbc 16 (aesUse "D0" "BDN") false Config.aesDec) (fun u _ r =>
    Gives u r (cbcDecRun (Config.aesDec (keyBytes u.c.k1)) u.c.auxB (blocks 16 u.c.inB))) ∧
  Runs .aesCtr 0xA120 opCtr (fun u _ r =>
    Gives u r (ctrRun (Config.aesEnc (keyBytes u.c.k1)) (beNat u.c.auxB) (blocks 16 u.c.inB))) ∧
  Runs .aesGcmEncrypt 0xA130 opGcmEnc (fun u _ r =>
    let g := Config.gcmEnc (keyBytes u.c.k1) (u.c.auxB.take 12) (u.c.auxB.drop 12) u.c.inB
    Gives u r (g.1 ++ g.2.take u.c.d.p0)) ∧
  Runs .aesGcmDecrypt 0xA131 opGcmDec (fun u _ r =>
    let g := Config.gcmDec (keyBytes u.c.k1) (u.c.auxB.take 12) (u.c.auxB.drop 12) (u.c.inB.take u.c.d.outLen)
    (g.2.take u.c.d.p0 = u.c.inB.drop u.c.d.outLen → Gives u r g.1) ∧ (g.2.take u.c.d.p0 ≠ u.c.inB.drop u.c.d.outLen → Fails u r 0x11)) ∧
  Runs .aesXtsEncrypt 0xA140 (opXts true) (fun u _ r => Gives u r (Config.xts true (keyBytes u.c.k1) u.c.auxB u.c.inB)) ∧
  Runs .aesXtsDecrypt 0xA141 (opXts false) (fun u _ r => Gives u r (Config.xts false (keyBytes u.c.k1) u.c.auxB u.c.inB)) ∧
  Runs .tdesEcbEncrypt 0xA200 (opEcb 8 (tdesUse "D0" "BEN") Config.tdesEnc) (fun u _ r =>
    Gives u r ((blocks 8 u.c.inB).flatMap (Config.tdesEnc (keyBytes u.c.k1)))) ∧
  Runs .tdesEcbDecrypt 0xA201 (opEcb 8 (tdesUse "D0" "BDN") Config.tdesDec) (fun u _ r =>
    Gives u r ((blocks 8 u.c.inB).flatMap (Config.tdesDec (keyBytes u.c.k1)))) ∧
  Runs .tdesCbcEncrypt 0xA210 (opCbc 8 (tdesUse "D0" "BEN") true Config.tdesEnc) (fun u _ r =>
    Gives u r (cbcEncRun (Config.tdesEnc (keyBytes u.c.k1)) u.c.auxB (blocks 8 u.c.inB))) ∧
  Runs .tdesCbcDecrypt 0xA211 (opCbc 8 (tdesUse "D0" "BDN") false Config.tdesDec) (fun u _ r =>
    Gives u r (cbcDecRun (Config.tdesDec (keyBytes u.c.k1)) u.c.auxB (blocks 8 u.c.inB)))) ∧
  (let mac := fun (g v : Fin 144 → Instr) (gc vc : Nat) (go vo : OpDef) (f : Ctx → Bytes) =>
    Runs g gc go (fun u _ r => Gives u r ((f u.c).take u.c.d.p0)) ∧ Runs v vc vo (fun u _ r => Judges r ((f u.c).take u.c.d.p0 = u.c.auxB))
  mac .aesCmacGenerate .aesCmacVerify 0xA150 0xA151 (opMacGen 4 16 (aesUse "M6" "CG") (fun _ => true) aesMac)
    (opMacVer 4 16 (aesUse "M6" "CV") (fun _ => true) aesMac) (fun c => Config.aesCmac (keyBytes c.k1) c.inB) ∧
  mac .tdesCmacGenerate .tdesCmacVerify 0xA250 0xA251 (opMacGen 4 8 (tdesUse "M6" "CG") (fun _ => true) tdesMac)
    (opMacVer 4 8 (tdesUse "M6" "CV") (fun _ => true) tdesMac) (fun c => Config.tdesCmac (keyBytes c.k1) c.inB) ∧
  mac .macAlgorithm3Generate .macAlgorithm3Verify 0xA260 0xA261 (opMacGen 4 8 ⟨[1], [algT], "M3", "CG"⟩ padMethod retailMac)
    (opMacVer 4 8 ⟨[1], [algT], "M3", "CV"⟩ padMethod retailMac) (fun c => macAlg3 (keyBytes c.k1) c.d.p1 c.inB) ∧
  Runs .kwpWrap 0xA160 opKwpWrap (fun u _ r => Gives u r (Config.kwpWrap (keyBytes u.c.k1) (wrapPayload u.c.k2)) ∧
    mayWrap u.c.kc u.c.k1 u.c.k2 = true) ∧
  Runs .kwpUnwrap 0xA161 opKwpUnwrap (fun u s r =>
    match (Config.kwpUnwrap (keyBytes u.c.k1) u.c.inB).bind payloadKey with
    | none => Ends r 0x11
    | some (kt, mat) =>
      if destTyped s u.c.d kt (spanFor mat.length) = false then Ends r 0x34
      else match stageRefusal s u.c.d.owner u.c.d.dslot (spanFor mat.length) false with
        | some st => Ends r st
        | none => MakesOnly u r kt mat) ∧
  Runs .clearImport 0xA170 opClearImport (fun u _ r =>
    let mat := (blocks (matLen u.c.d.kt) u.c.inB).foldl xorBytes (zeros (matLen u.c.d.kt))
    MakesWith u r u.c.d.kt mat ((if u.c.d.kt ≤ 2 then Config.tdesEnc mat (zeros 8) else Config.aesCmac mat (zeros 16)).take 3) ∧
      (polFlags u.c.kc).testBit 0 = true ∧ ∀ x ∈ u.c.inP, isScratch x.1 = true))

/-- R239: the Keccak engine's hashes, with chaining, and KMAC. R225, R236, R240: the lattice engine. Its draws come from the DRBG of the
job's partition. -/
def Obligations.KeccakAndLatticeRun : Prop :=
  (let start := fun (u : SetUp) => if u.c.d.cont then u.c.auxB.take 200 else zeros 200
  let hash := fun (row : Fin 144 → Instr) (op : Nat) (o : OpDef) (rate : Nat) (dom : Byte) => Runs row op o (fun u _ r =>
    if u.c.d.more then GivesAux u r (padTo 256 (absorb rate (start u) u.c.inB))
    else Gives u r (spongeEnd rate dom (start u) u.c.inB u.c.d.outLen))
  hash .sha3224 0xC224 (opSha3 28) 144 6 ∧ hash .sha3256 0xC256 (opSha3 32) 136 6 ∧ hash .sha3384 0xC384 (opSha3 48) 104 6 ∧
  hash .sha3512 0xC512 (opSha3 64) 72 6 ∧ hash .shake128 0xC128 (opShake 128) 168 0x1F ∧ hash .shake256 0xC129 (opShake 256) 136 0x1F ∧
  Runs .kmac128Generate 0xC300 (opKmacGen 128) (fun u _ r => Gives u r (kmac 128 (keyBytes u.c.k1) u.c.inB u.c.d.outLen [])) ∧
  Runs .kmac128Verify 0xC301 (opKmacVer 128) (fun u _ r => Judges r (kmac 128 (keyBytes u.c.k1) u.c.inB u.c.d.auxLen [] = u.c.auxB)) ∧
  Runs .kmac256Generate 0xC310 (opKmacGen 256) (fun u _ r => Gives u r (kmac 256 (keyBytes u.c.k1) u.c.inB u.c.d.outLen [])) ∧
  Runs .kmac256Verify 0xC311 (opKmacVer 256) (fun u _ r => Judges r (kmac 256 (keyBytes u.c.k1) u.c.inB u.c.d.auxLen [] = u.c.auxB)) ∧
  Runs .kmac256Derivation 0xC320 opKmacDerive (fun u _ r =>
    MakesOnly u r u.c.d.kt (kmac 256 (keyBytes u.c.k1) u.c.inB (matLen u.c.d.kt) u.c.auxB))) ∧
  (let draw := fun (u : SetUp) (s : State) (n : Nat) => (drbgDraw s (u.c.e / 9) u.c.p n false).1
  let dsa := fun (u : SetUp) => if u.c.d.p0 = 0x44 then 0 else if u.c.d.p0 = 0x65 then 1 else 2
  let kem := fun (u : SetUp) => if u.c.d.p0 = 0x76 then 0 else 1
  Runs .mlDsaKeyGeneration 0xD100 opDsaKeyGen (fun u s r =>
    let k := Config.mlDsaKeyGen (dsa u) (draw u s 32)
    MakesWith u r (8 + dsa u) (padTo (matLen (8 + dsa u)) k.2) k.1) ∧
  Runs .mlDsaSign 0xD110 opDsaSign (fun u s r =>
    match Config.mlDsaSign (dsa u + 16 * u.c.d.p1) (keyBytes u.c.k1) u.c.auxB u.c.inB (if u.c.d.det then zeros 32 else draw u s 32) with
    | some sig => Gives u r sig
    | none => Fails u r 0x40) ∧
  Runs .mlDsaVerify 0xD120 opDsaVerify (fun u _ r =>
    Judges r (Config.mlDsaVerify (dsa u) (u.c.auxB.take (dsaPub (dsa u))) (u.c.auxB.drop (dsaPub (dsa u))) u.c.inB u.c.outB = true)) ∧
  Runs .mlKemKeyGeneration 0xD200 opKemKeyGen (fun u s r =>
    let k := Config.mlKemKeyGen (kem u) (draw u s 64)
    MakesWith u r (11 + kem u) (padTo (matLen (11 + kem u)) k.2) k.1) ∧
  Runs .mlKemEncapsulate 0xD210 opKemEncap (fun u s r =>
    let x := Config.mlKemEncap (kem u) u.c.auxB (draw u s 32)
    MakesWith u r 5 (padTo 32 x.2) x.1) ∧
  Runs .mlKemDecapsulate 0xD220 opKemDecap (fun u _ r =>
    MakesOnly u r 5 (padTo 32 (Config.mlKemDecap (kem u) (keyBytes u.c.k1) u.c.inB))))

/-- R225, R236, R241: the big-number engine. R242: generate, reseed and generate-key draw on the partition's DRBG in the keyring, which
counts its requests; after 2^20 of them it reseeds, also without a request when the TRNG is healthy. -/
def Obligations.BigNumbersAndDrbgRun : Prop :=
  (let draw := fun (u : SetUp) (s : State) (n : Nat) => (drbgDraw s (u.c.e / 9) u.c.p n false).1
  Runs .rsaPrivateKeySignature 0xB100 opRsaSign (fun u s r => Gives u r (Config.rsaSign u.c.d.p1 u.c.k1.mat u.c.inB (draw u s 32))) ∧
  Runs .rsaPublicVerify 0xB110 opRsaVerify (fun u _ r => Judges r (Config.rsaVerify u.c.d.p1 u.c.auxB u.c.inB u.c.outB = true)) ∧
  Runs .rsaOaepUnwrap 0xB120 opRsaOaep (fun u s r =>
    match (Config.rsaOaep u.c.k1.mat u.c.inB).bind payloadKey with
    | none => Ends r 0x11
    | some (kt, mat) =>
      if destTyped s u.c.d kt (spanFor mat.length) = false then Ends r 0x34
      else match stageRefusal s u.c.d.owner u.c.d.dslot (spanFor mat.length) false with
        | some st => Ends r st
        | none => MakesOnly u r kt mat) ∧
  Runs .rsaKeyGeneration 0xB130 opRsaKeyGen (fun u s r =>
    match Config.rsaKeyGen u.c.d.p2 (draw u s 64) with
    | none => Fails u r 0x40
    | some k => MakesWith u r 13 (padTo (rsaMat (u.c.d.p2 / 8)) k.2) k.1) ∧
  Runs .ecdsaSign 0xB200 opEcdsaSign (fun u s r =>
    Gives u r (Config.ecdsaSign (curveOf u.c.k1) u.c.k1.mat u.c.inB (if u.c.d.det then [] else draw u s 32))) ∧
  Runs .ecdsaVerify 0xB210 opEcdsaVerify (fun u _ r => Judges r (Config.ecdsaVerify u.c.d.p0 u.c.auxB u.c.inB u.c.outB = true)) ∧
  Runs .ecdh 0xB220 opEcdh (fun u _ r =>
    match Config.ecdh (curveOf u.c.k1) u.c.k1.mat u.c.auxB with
    | none => Ends r 0x11
    | some x => MakesOnly u r u.c.d.kt (padTo (matLen u.c.d.kt) x)) ∧
  Runs .ecKeyGeneration 0xB230 opEcKeyGen (fun u s r =>
    let k := Config.ecKeyGen u.c.d.p0 (draw u s 64)
    MakesWith u r 14 (byte u.c.d.p0 :: padTo (curveBytes u.c.d.p0) k.2) k.1) ∧
  Runs .ed25519Sign 0xB300 opEdSign (fun u _ r => Gives u r (Config.ed25519Sign (u.c.k1.mat.drop 1) u.c.inB)) ∧
  Runs .ed25519Verify 0xB310 opEdVerify (fun u _ r => Judges r (Config.ed25519Verify u.c.auxB u.c.inB u.c.outB = true)) ∧
  Runs .modularExponentiation 0xB400 opModExp (fun u _ r => Gives u r (Config.modExp u.c.d.p2 u.c.inB u.c.auxB u.c.d.outLen))) ∧
  (Runs .drbgGenerate 0x8100 opDrbgGenerate (fun u s r => Gives u r (drbgDraw s (u.c.e / 9) u.c.p u.c.d.outLen u.c.d.pr).1) ∧
  Runs .drbgReseed 0x8110 opDrbgReseed (fun _ _ r => Ends r 0x10) ∧
  Runs .drbgGenerateKey 0x8120 opDrbgKey (fun u s r =>
    MakesOnly u r u.c.d.kt (padTo (matLen u.c.d.kt) (drbgDraw s (u.c.e / 9) u.c.p (matLen u.c.d.kt) u.c.d.pr).1)) ∧
  (∀ s k p n, drbgOf (drbgDraw s k p n false).2 k p =
    { live := true, count := if (drbgOf s k p).live = true ∧ (drbgOf s k p).count < 2 ^ 20 then (drbgOf s k p).count + 1 else 1 }) ∧
  (∀ s (k : Fin 16) (p : Fin 256), (drbgOf s k p).live = true → 2 ^ 20 ≤ (drbgOf s k p).count → s.trngBad = false →
    Completes (.drbgAutoReseed k p) s (fun s' => drbgOf s' k p = { live := true, count := 0 } ∧
      ∀ k' p', ¬ (k' = k.val ∧ p' = p.val) → drbgOf s' k' p' = drbgOf s k' p')))

/-! ### Payments (chapter 10) -/

/-- R249 to R255, R274: the PIN operations. A block that does not parse is a MISMATCH; a translation builds the PIN anew; the offset method
compares the PIN with the decimalized validation data and the offset, and the PVV method with the digits extracted from the enciphered
data. -/
def Obligations.PinOperationsRun : Prop :=
  let pin := fun (u : SetUp) => parsePin u.c.d.p0 (openBlock u.c.d.p0 (pinKey u.c) (pinPan u.c) u.c.inB)
  let n := fun (u : SetUp) => u.c.d.d99
  Runs .pinTranslate 0xE100 opPinTranslate (fun u s r =>
    (mayTranslate u.c.kc u.c.d.p0 u.c.d.p1 = true ∧ mayDown u.c.kc u.c.k1 u.c.k2 = true) ∧
    match pin u with
    | none => Fails u r 0x11
    | some p => Gives u r (sealBlock u.c.d.p1 (keyBytes u.c.k2) (pinPan u.c)
      (buildPin u.c.d.p1 p (if u.c.d.p1 = 0 then zeros 16 else (drbgDraw s (u.c.e / 9) u.c.p 16 false).1)))) ∧
  Runs .pinVerifyOffset 0xE110 opPinVerifyOffset (fun u s r =>
    r.attempt = some (u.c.p, attemptTag u.c s) ∧ tableOk u.c = true ∧
    match pin u with
    | none => Ends r 0x11
    | some p => Judges r (n u ≤ p.length ∧
      List.zipWith (fun x y => (x + y) % 10) ((decimalized u.c).take (n u)) (decDigits (n u) ((pinTail u.c).drop 16)) = p.take (n u))) ∧
  Runs .pinVerifyPvv 0xE111 opPinVerifyPvv (fun u s r =>
    r.attempt = some (u.c.p, attemptTag u.c s) ∧
    match pin u with
    | none => Ends r 0x11
    | some p => Judges r (extractDigits 4 (Config.tdesEnc (keyBytes u.c.k2)
      (packDigits (panRight 11 (pinPan u.c) ++ decDigits 1 (pinTail u.c) ++ p.take 4))) = decDigits 4 ((pinTail u.c).drop 1))) ∧
  Runs .pinOffsetGenerate 0xE120 opPinOffset (fun u _ r =>
    ((polFlags u.c.kc).testBit 2 = true ∧ tableOk u.c = true) ∧
    match pin u with
    | none => Fails u r 0x11
    | some p => (n u ≤ p.length → Gives u r (packDigits
        (List.zipWith (fun x y => (x + 10 - y) % 10) (p.take (n u)) ((decimalized u.c).take (n u))))) ∧ (p.length < n u → Fails u r 0x11))

/-- R246, R256 to R264: DUKPT, TR-31, EMV, card values, Luhn and format-preserving encryption. -/
def Obligations.PaymentsRun : Prop :=
  let key := fun (u : SetUp) => keyBytes u.c.k1
  let mac := fun (u : SetUp) => Config.dukptMac (workType u.c) (workingKey u.c.k1 (jobKsn u.c) u.c.d.p1 u.c.d.kt) u.c.inB
  let recs := fun (u : SetUp) (f : Bytes → List Nat → List Nat) => fpeRun u.c f
  let fpe := fun (row : Fin 144 → Instr) (op : Nat) (o : OpDef) (enc : Bool) (f : Bool → Bytes → Bytes → List Nat → List Nat) =>
    Runs row op o (fun u _ r => Gives u r (recs u (f enc (keyBytes u.c.k1))))
  let retok := fun (row : Fin 144 → Instr) (op : Nat) (o : OpDef) (f : Bool → Bytes → Bytes → List Nat → List Nat) =>
    Runs row op o (fun u _ r => Gives u r (recs u (fun t x => f true (keyBytes u.c.k2) t (f false (keyBytes u.c.k1) t x))))
  Runs .dukptInitialKey 0xE200 opDukptInitial (fun u _ r =>
    MakesOnly u r u.c.d.kt (padTo (matLen u.c.d.kt) (initialKey u.c.k1 (jobKsn u.c))) ∧ u.c.d.usage = usageOf "B1") ∧
  Runs .dukptMacGenerate 0xE210 opDukptMacGen (fun u _ r => Gives u r ((mac u).take u.c.d.p0)) ∧
  Runs .dukptMacVerify 0xE211 opDukptMacVer (fun u _ r => Judges r ((mac u).take u.c.d.p0 = afterKsn u.c)) ∧
  Runs .dukptDataDecrypt 0xE212 opDukptDecrypt (fun u _ r =>
    let k := workingKey u.c.k1 (jobKsn u.c) (2 + u.c.d.p1) u.c.d.kt
    Gives u r (cbcDecRun (if u.c.k1.hdr.ktype = 1 then Config.tdesDec k else Config.aesDec k) (afterKsn u.c) (blocks (workBlock u.c) u.c.inB))) ∧
  Runs .tr31Unwrap 0xE300 opTr31Unwrap (fun u s r =>
    match Config.tr31Unwrap (key u) u.c.inB with
    | none => Ends r 0x11
    | some mat =>
      match tr31Type (leAt u.c.inB 7 1) mat.length with
      | none => Ends r 0x35
      | some kt =>
        if attrFits u.c.d u.c.inB = false then Ends r 0x35
        else if destTyped s u.c.d kt (spanFor mat.length) = false then Ends r 0x34
        else match stageRefusal s u.c.d.owner u.c.d.dslot (spanFor mat.length) false with
          | some st => Ends r st
          | none => MakesOnly u r kt mat) ∧
  Runs .tr31Wrap 0xE301 opTr31Wrap (fun u s r => mayWrap u.c.kc u.c.k1 u.c.k2 = true ∧
    Gives u r (Config.tr31Wrap (key u) (tr31Header u.c) (keyBytes u.c.k2) (drbgDraw s (u.c.e / 9) u.c.p 16 false).1)) ∧
  Runs .arqcVerify 0xE400 opArqcVerify (fun u _ r => Judges r (emvMac u.c u.c.inB 8 = emvArqc u.c)) ∧
  Runs .arqcVerifyAndArpcGenerate 0xE401 opArqcArpc (fun u _ r =>
    (emvMac u.c u.c.inB 8 = emvArqc u.c → Gives u r (emvArpc u.c)) ∧ (emvMac u.c u.c.inB 8 ≠ emvArqc u.c → Fails u r 0x11)) ∧
  Runs .cvvGenerate 0xE500 opCvvGenerate (fun u _ r => Gives u r (packDigits (cvvOf (key u) u.c.auxB))) ∧
  Runs .cvvVerify 0xE501 opCvvVerify (fun u _ r =>
    Judges r (cvvOf (key u) u.c.auxB = decDigits 3 ((u.c.auxB.drop (panLen u.c.auxB)).drop 4))) ∧
  Runs .luhnCheck 0xE600 opLuhnCheck (fun u _ r => Judges r (10 ∣ luhnSum false (decDigits u.c.d.d100 u.c.inB).reverse)) ∧
  Runs .luhnCompute 0xE601 opLuhnCompute (fun u _ r => ∃ c, c < 10 ∧ Gives u r [byte (16 * c + 15)] ∧
    10 ∣ luhnSum false (c :: (decDigits u.c.d.d100 u.c.inB).reverse)) ∧
  fpe .ff1Encrypt 0xE700 (opFpe ff1Ok true Config.ff1) true Config.ff1 ∧ fpe .ff1Decrypt 0xE701 (opFpe ff1Ok false Config.ff1) false Config.ff1 ∧
  retok .ff1ReTokenize 0xE702 (opReToken ff1Ok Config.ff1) Config.ff1 ∧
  fpe .ff31Encrypt 0xE710 (opFpe ff3Ok true Config.ff3) true Config.ff3 ∧ fpe .ff31Decrypt 0xE711 (opFpe ff3Ok false Config.ff3) false Config.ff3 ∧
  retok .ff31ReTokenize 0xE712 (opReToken ff3Ok Config.ff3) Config.ff3

/-- R40, R41, R227, R230, R231, R235, R274: the oldest job in progress completes. Its writes become visible, then its STATUS, then e.res
and e.poll; a fault of the engine ends it with FAULT instead, and is counted. A head job that names no operation ends with its status. -/
def Obligations.JobsComplete : Prop :=
  ∀ (s : State) (e : Fin 144) (o : UnitOutcome),
    let bad := o = .codeViolation ∨ o = .timeout
    let tells := fun (j : Job) (st : Nat) (s' : State) =>
      ((thr s j.tid).part = j.part → port (thr s' j.tid).arch (resPort (e.val % 9)) = w64 st ∧ port (thr s' j.tid).arch (pollPort (e.val % 9)) = w64 st ∧
        (e.val % 9) ∉ (thr s' j.tid).jobs)
    (∀ j rest r0, (eng s e).running = j :: rest → j.result = some r0 → aligned j.desc = true →
      let r := if bad then overrideResult r0 0x42 else r0
      Completes (.engineJobComplete e o) s (fun s' => (eng s' e).running = rest ∧ tells j r.status s' ∧
        s'.mem = (storePieces (r.writes.foldl (fun s w => storeBytes s w.1 w.2) s) none (takeDigits 4 (dropDigits 108 j.desc))
          (natDigits 4 r.status) false).mem ∧
        readPieces s' (takeDigits 4 (dropDigits 108 j.desc)) = natDigits 4 r.status ∧
        (0 < r.ksrc → mayRaise s j.part r.ksrc = true → (src s' r.ksrc).pend = true) ∧
        (∀ n cs, r.stage = some (n, cs) → (∀ y ∈ s.ks.pool, y.slot = n → y.taken = true) → ∃ x ∈ s'.ks.pool, x.slot = n ∧ x.copies = cs ∧
          x.erase = false ∧ x.taken = false) ∧
        (o = .codeViolation → fldGet s' .engErr e 31 24 = min 255 (fldGet s .engErr e 31 24 + 1)) ∧
        (o = .overrun → fldGet s' .engErr e 23 16 = min 255 (fldGet s .engErr e 23 16 + 1)) ∧
        (o = .timeout → fldGet s' .engErr e 15 8 = min 255 (fldGet s .engErr e 15 8 + 1)))) ∧
    (∀ j rest st, (eng s e).running = [] → (eng s e).queue = j :: rest → noOperation s e j = some st → mayStart s e = true → j.result = none →
      Completes (.engineJobComplete e o) s (fun s' => (eng s' e).queue = rest.filter (· != j) ∧ tells j st s'))

/-! ### Blanks, the key store, DMA and translation (chapters 7, 8 and 12) -/

/-- R336, R337, R41: a move to a blank port stands in the thread's own copy, and a trigger is in flight until its result lands in its RESP
port, poisoned when it comes after a fixed latency; a scrub mismatch is reported; a new image starts with every copy 0. R186, R187, R189:
an erasure by partition 1 stages an empty span unless the slot is no first slot, the pool or the audit tail is full; former contents go
once no command of an earlier turn is in flight. -/
def Obligations.BlanksAndErasures : Prop :=
  ((∀ (s : State) (t : Fin 2048) (ms : List Mv) (m : Mv), issues s t ms = true → Beside ms m →
    let pre := (thr s t).arch
    let v := mvValue s t pre m
    (∀ b d, isBlank m.dst = true → (kring s (krOf t)).blank = some b → blankPort b (m.dst - 0x380) = some d →
      Completes (.blankMove t) s (fun s' =>
        (d.dir.testBit 1 = true → port (thr s' t).arch m.dst = if d.width = 0 then v else lowDigits d.width v) ∧
          (d.kind = 1 → Flies s s' t (.blank m.dst (if d.resp = 0xFF then none else some (0x380 + d.resp)))))) ∧
    (∀ q, m.src = .port q → isBlank q = true → m.dst < 64 → Completes (.blankMove t) s (fun s' =>
      greg (thr s' t).arch m.dst = lowDigits m.w (port pre q)))) ∧
  (∀ (s : State) (t : Fin 2048) (p : Fin 64) (v : Word) (late : Bool) (o : Op) (q : Nat) (b : Bytes) (d x : BlankPort),
    (thr s t).arch.ops.find? (fun o => match o.kind with | .blank _ (some r) => r == 0x380 + p.val | _ => false) = some o →
    o.kind = .blank q (some (0x380 + p.val)) → (kring s (krOf t)).blank = some b → blankPort b p = some d → blankPort b (q - 0x380) = some x →
    let bad := late && decide (0 < x.lat)
    let pre := (thr s t).arch
    Completes (.blankResult t p v late) s (fun s' =>
      (thr s' t).arch = setPoison (setPort { pre with ops := pre.ops.filter (fun y => y.id != o.id) } (0x380 + p)
        (lowDigits (if d.width = 0 then 16 else d.width) v)) (0x380 + p) bad ∧
      (bad = true → (punit s' 0xA (krOf t)).probe.isSome = true ∨ retired s' 0xA (krOf t) = true))) ∧
  (∀ (s : State) (k : Fin 16) (mismatch : Bool), (kring s k).blank.isSome = true → retired s 0xA k = false →
    Completes (.blankScrub k mismatch) s (fun s' =>
      (mismatch = true → (punit s' 0xA k).probe.isSome = true ∧ (punit s' 0xA k).errs = satAdd 0xFFFF (punit s 0xA k).errs 1) ∧
        (mismatch = false → s' = s))) ∧
  (∀ (s : State) (k : Fin 16), (kring s k).blankLoading = true → oldInFlight s (kring s k).blankTurn = false →
    (∀ t, krOf t = k.val → ∀ o ∈ (thr s t).arch.ops, ∀ q r, o.kind ≠ .blank q r) →
    Completes (.blankImageLoad k) s (fun s' => (kring s' k).blank = kcBlank s.kc k ∧ (kring s' k).blankLoading = false ∧
      ∀ t q, krOf t = k.val → isBlank q = true → port (thr s' t).arch q = 0))) ∧
  ((∀ (s : State) (v : Word), s.ks.isSealed = false →
    let n := fld v 17 0
    let k := (keysNow s).find? (fun k => k.slot == n)
    let span := match k with | some k => max 1 k.span | none => 1
    let ends := fun (c : Nat) => Completes (.ksErase 1 v) s (fun s' => fldGet s' .ksErase 0 23 20 = c ∧ s'.ks = s.ks)
    ((fld v 19 18 ≠ 0 ∨ isCont s n = true) → ends 3) ∧
    (fld v 19 18 = 0 → isCont s n = false → stageRefusal s 0 n span true = some 0x37 → ends 4) ∧
    (fld v 19 18 = 0 → isCont s n = false → stageRefusal s 0 n span true = some 0x33 → ends 2) ∧
    (fld v 19 18 = 0 → isCont s n = false → stageRefusal s 0 n span true = none → (∀ y ∈ s.ks.pool, y.slot = n → y.taken = true) →
      Completes (.ksErase 1 v) s (fun s' => fldGet s' .ksErase 0 23 20 = 1 ∧ fldGet s' .ksErase 0 17 0 = n ∧ s'.ks.slots = s.ks.slots ∧
        ∃ x ∈ s'.ks.pool, x.slot = n ∧ x.erase = true ∧ x.copies = (List.range span).map (fun i => emptyCopy (n + i))))) ∧
  (∀ (s : State) (p : Fin 256) (v : Word), p ≠ 1 → Completes (.ksErase p v) s (fun s' => s' = s)) ∧
  (∀ (s : State) (n : Fin 262144), Completes (.stagedEntryErase n) s (fun s' =>
    (∀ f, f ∈ s'.ks.former ↔ f ∈ s.ks.former ∧ (f.slot = n.val → oldInFlight s f.turn = true)) ∧ s'.ks.slots = s.ks.slots)))

/-- R211 to R216: a chain starts at DMA_HEAD, moves its digits in ascending order, pauses at a translation fault, resumes where it stopped,
stores STATUS and counts at its end, and an abort ends it. R13, R199, R207: an invalidation is stored for its partition, as is one by a
write of CYL_PTROOT; once no job holds what it removes, no TLB of the die holds an entry of the partition for it. -/
def Obligations.DmaAndInvalidation : Prop :=
  (∀ (s : State) (p : Fin 256) (c : Fin 512),
    let x := chan s c
    let reads := fun (va : Nat) (ps : Pieces) (n : Nat) => va % 64 = 0 ∧ dmaAccess s c va 64 2 = .ok ps ∧ poisoned s ps = false ∧
      digitsNat (readPieces s ps) = n ∧ dmaDescOk n = true
    let turn := firstAfter ((List.range 16).filter (fun i => chanMoves s (16 * dmaEngine c + i))) (tget 15 s.dmaLast (dmaEngine c)) = some (c.val % 16)
    let paused := fun (s' : State) (va cause detail : Nat) =>
      chan s' c = { x with state := 2, fva := BitVec.ofNat 56 va, cause := cause, detail := detail } ∧ s'.mem = s.mem
    (∀ v, chanOwner s c ≠ p.val → Completes (.dmaHead p c v) s (fun s' => s' = s)) ∧
    (∀ v, chanOwner s c = p.val → x.state ≠ 0 → Completes (.dmaHead p c v) s (fun s' =>
      fbit (regGet s' .dmaStat c) 32 = true ∧ chan s' c = x ∧ s'.mem = s.mem)) ∧
    (∀ v ps n, chanOwner s c = p.val → x.state = 0 → reads (v.toNat % 2 ^ 56) ps n → (dmaDescOf n).len ≠ 0 →
      Completes (.dmaHead p c v) s (fun s' => (chan s' c).state = 1 ∧ (chan s' c).cur = BitVec.ofNat 56 v.toNat ∧
        (chan s' c).desc = some (dmaDescOf n) ∧ (chan s' c).offs = 0 ∧ s'.mem = s.mem)) ∧
    (∀ d sp dp, turn → x.desc = some d → d.op = 1 → x.offs < d.len → x.offs + chunkLen d x.offs < d.len →
      dmaAccess s c ((d.src.toNat + x.offs) % 2 ^ 56) (chunkLen d x.offs) 2 = .ok sp →
      dmaAccess s c ((d.dst.toNat + x.offs) % 2 ^ 56) (chunkLen d x.offs) 3 = .ok dp →
      let m := copyDigits s.mem ((pieceAddrs sp).zip (pieceAddrs dp))
      Completes (.dmaChunk c) s (fun s' => (chan s' c).offs = x.offs + chunkLen d x.offs ∧ (chan s' c).state = x.state ∧
        s'.mem = (storePieces s none dp ((pieceAddrs dp).map (fun a => tget 0 m a)) (poisoned s sp)).mem)) ∧
    (∀ d dp, turn → x.desc = some d → d.op = 2 → x.offs < d.len → x.offs + chunkLen d x.offs < d.len →
      dmaAccess s c ((d.dst.toNat + x.offs) % 2 ^ 56) (chunkLen d x.offs) 3 = .ok dp →
      Completes (.dmaChunk c) s (fun s' => (chan s' c).offs = x.offs + chunkLen d x.offs ∧ (chan s' c).state = x.state ∧
        s'.mem = (storePieces s none dp (List.replicate (chunkLen d x.offs) 0) false).mem)) ∧
    (∀ d va dt l, turn → x.desc = some d → d.op = 1 → x.offs < d.len →
      dmaAccess s c ((d.src.toNat + x.offs) % 2 ^ 56) (chunkLen d x.offs) 2 = .fault va dt l →
      Completes (.dmaChunk c) s (fun s' => paused s' va 1 dt)) ∧
    (∀ d ps, turn → x.desc = some d → d.len ≤ x.offs → d.chain = false → dmaAccess s c (x.cur.toNat + 30) 2 3 = .ok ps →
      Completes (.dmaChunk c) s (fun s' => s'.mem = (storePieces s none ps (natDigits 2 1) false).mem ∧ (chan s' c).state = 0 ∧
        (chan s' c).last = 1 ∧ fldGet s' .dmaStat c 31 16 = min 65535 (fldGet s .dmaStat c 31 16 + 1))) ∧
    (chanOwner s c = p.val → x.state = 2 → x.cause = 1 ∨ x.cause = 2 → Completes (.dmaResume p c) s (fun s' =>
      chan s' c = { x with state := 1, cause := 0, detail := 0, fva := 0 } ∧ s'.mem = s.mem)) ∧
    (∀ ps n, chanOwner s c = p.val → x.state = 2 → x.cause = 3 → reads x.cur.toNat ps n → Completes (.dmaResume p c) s (fun s' =>
      (chan s' c).state = 1 ∧ (chan s' c).desc = some (dmaDescOf n) ∧ (chan s' c).offs = 0)) ∧
    ((chanOwner s c ≠ p.val ∨ x.state ≠ 2) → Completes (.dmaResume p c) s (fun s' => s' = s)) ∧
    (chanOwner s c = p.val → x.state ≠ 0 → Completes (.dmaAbort p c) s (fun s' => (chan s' c).state = 0 ∧ (chan s' c).last = 2 ∧
      (chan s' c).desc = none ∧ ∀ ps, dmaAccess s c (x.cur.toNat + 30) 2 3 = .ok ps →
        s'.mem = (storePieces s none ps (natDigits 2 2) false).mem)) ∧
    ((chanOwner s c ≠ p.val ∨ x.state = 0) → Completes (.dmaAbort p c) s (fun s' => s' = s))) ∧
  (∀ (s : State) (p : Fin 256),
    (∀ va : BitVec 56, Completes (.tlbinvPage p va) s (fun s' =>
      s' = { s with inval := s.inval ++ [{ part := p, va := some va.toNat, tid := none }] })) ∧
    Completes (.tlbinvAll p) s (fun s' => s' = { s with inval := s.inval ++ [{ part := p, va := none, tid := none }] }) ∧
    (∀ i, s.inval.find? (fun i => i.part == p.val) = some i →
      (∀ kv ∈ s.engs, ∀ j ∈ kv.2.queue ++ kv.2.running, j.part = p.val → jobHolds (invalRange s i) j = false) →
      Completes (.tlbinvComplete p) s (fun s' => s'.inval = s.inval.erase i ∧
        (∀ c, ∀ e ∈ (cyl s' c).itlb ++ (cyl s' c).dtlb, e.part = p.val → ∃ va, i.va = some va ∧ tlbHit p va e = false) ∧
        (∀ k, ∀ e ∈ (kring s' k).tlb, e.part = p.val → ∃ va, i.va = some va ∧ tlbHit p va e = false) ∧
        (∀ d, ∀ e ∈ tget [] s'.dmaTlb d, e.part = p.val → ∃ va, i.va = some va ∧ tlbHit p va e = false))) ∧
    (∀ v : Word, Completes (.cylPtroot p v) s (fun s' =>
      fldGet s' .cylPtroot p 43 13 = fld v 43 13 ∧
      fldGet s' .cylPtroot p 3 0 = (if fld v 3 0 < 8 then fld v 3 0 else fldGet s .cylPtroot p 3 0) ∧
      xlOn s' p = (locked s || fbit v 4) ∧ s'.inval = s.inval ++ [{ part := p, va := none, tid := none }])))

/-! ### Intake (chapter 11) -/

/-- R283 to R289: intake's checks on a command from Ethernet or the management port, in order: each failure is counted where the table
says, and a command that passes them stands at the end of its queue with its stamps. -/
def Obligations.CommandsArrive : Prop :=
  ∀ (s : State) (l : NetPort) (h : NetHdr) (b : List Byte), s.supply.power = 1 → portUp s l = true → passesFilter s l h = true →
    frameIs b 3 = true →
    let counted := fun (hi lo : Nat) => Completes (.commandArrival l h b) s (fun s' =>
      fldGet s' .laneDrop (netLane l) hi lo = min 65535 (fldGet s .laneDrop (netLane l) hi lo + 1))
    let takes := takesCommand s (leAt b 8 1) (isMgmt l) false
    (takes = false → counted 63 48) ∧
    (takes = true → (∀ c, readCmdH (slice b 8 16) = some c → c.len + 40 ≠ b.length) → counted 47 32) ∧
    (∀ c, takes = true → readCmdH (slice b 8 16) = some c → c.len + 40 = b.length → openFrame s b = none → counted 31 16) ∧
    (∀ c n body, takes = true → readCmdH (slice b 8 16) = some c → c.len + 40 = b.length → openFrame s b = some (n, body) →
      let home := 4 * c.part + c.lq
      let fwd := decide (2 ≤ c.part) && kcKeyCmd s.kc c.kind
      let q := if fwd then 7 else home
      let cls := kcClass s.kc q
      let ok := planeOk (isMgmt l) false c.part && kcPresent s.kc c.part && decide (0 < cqCap s home)
      let token := decide (0 < kcRate s.kc c.part cls) && decide (10 ^ 9 ≤ (bucketNow s c.part cls).level)
      let room := decide ((cq s q).occ + linesFor c.len ≤ cqCap s q)
      let max_ := kcClassMax s.kc cls
      (ok = false → counted 15 0) ∧
      (ok = true → token = false → Completes (.commandArrival l h b) s (fun s' =>
        fldGet s' .quePstat c.part 31 16 = min 65535 (fldGet s .quePstat c.part 31 16 + 1) ∧ cq s' q = cq s q)) ∧
      (ok = true → token = true → room = false → Completes (.commandArrival l h b) s (fun s' =>
        fldGet s' .queStat q 63 48 = min 65535 (fldGet s .queStat q 63 48 + 1) ∧ (cq s' q).items.length = (cq s q).items.length ∧
          (cq s' q).occ = (cq s q).occ ∧ (cq s' q).seq = ((cq s q).seq + 1) % 4096)) ∧
      (ok = true → token = true → room = true → Completes (.commandArrival l h b) s (fun s' =>
        (cq s' q).seq = ((cq s q).seq + 1) % 4096 ∧ (cq s' q).occ = (cq s q).occ + linesFor c.len ∧
        ∃ m, (cq s' q).items = (cq s q).items ++ [m] ∧ m.turn = s.turns.num ∧ m.arrival = s.now ∧
          m.deadline = s.now + (if c.budget = 0 ∨ max_ < 1000 * c.budget then max_ else 1000 * c.budget) ∧ m.payload = body ∧ m.len = c.len ∧
          m.session = (if isMgmt l then 0xFF00 else n) ∧ m.seq = (cq s q).seq ∧ m.part = c.part ∧ m.olq = (if fwd then c.lq else 0) ∧
          m.origin = (if fwd then 6 else netOrigin l) ∧ m.gap = (cq s q).gapp ∧ m.redeliver = false)))

/-- R280, R290 to R294: the dispatcher delivers a head item to the serving thread with the fewest items; an item falls stage by stage and
becomes current at stage 0, or is answered LATE; the current item lands in its slot, and a stream that stops ends truncated. -/
def Obligations.CommandsLand : Prop :=
  ∀ (s : State),
    (∀ (q : Fin 1024) c rest, (cq s q).items = c :: rest →
      (∀ t, s.now ≤ c.deadline → chooseServer s q c.turn = some t → Completes (.dispatch q false) s (fun s' =>
        (thr s' t).inbox = (thr s t).inbox ++ [(15, c)] ∧ (cq s' q).items = rest ∧ (cq s' q).lastServed = t ∧
          (thr s' t).st = (if (thr s t).st = .wait then .ready else (thr s t).st) ∧
          ∀ u ∈ servers s q c.turn, heldItems (thr s t) ≤ heldItems (thr s u))) ∧
      (s.now ≤ c.deadline → chooseServer s q c.turn = none → Completes (.dispatch q false) s (fun s' => s' = s)) ∧
      (c.queue = q.val → Completes (.dispatch q true) s (fun s' => (cq s' q).items.length = rest.length ∧
        (cq s' q).occ = (cq s q).occ - linesFor c.len ∧ fldGet s' .queStat q 63 48 = min 65535 (fldGet s .queStat q 63 48 + 1))) ∧
      (c.deadline < s.now → Completes (.deadlineExpiry q) s (fun s' => (cq s' q).items = rest ∧
        fldGet s' .quePstat (respQueue c / 4) 63 48 = min 65535 (fldGet s .quePstat (respQueue c / 4) 63 48 + 1)))) ∧
    (∀ (t : Fin 2048) k c,
      let th := thr s t
      th.inbox.find? (fun x => if x.1 - 1 = 0 then th.current.isNone else th.inbox.all (fun y => y.1 != x.1 - 1)) = some (k, c) →
      (k = 1 → s.now ≤ c.deadline → Completes (.inboxFall t) s (fun s' => (thr s' t).current = some { cmd := c, landed := 0 } ∧
        (thr s' t).inbox = th.inbox.filter (fun x => x.1 != 1))) ∧
      (k = 1 → c.deadline < s.now → Completes (.inboxFall t) s (fun s' => (thr s' t).current = th.current ∧
        (thr s' t).inbox = th.inbox.filter (fun x => x.1 != 1) ∧
        fldGet s' .quePstat (respQueue c / 4) 63 48 = min 65535 (fldGet s .quePstat (respQueue c / 4) 63 48 + 1))) ∧
      (1 < k → Completes (.inboxFall t) s (fun s' => (k - 1, c) ∈ (thr s' t).inbox ∧ (thr s' t).current = th.current))) ∧
    (∀ (t : Fin 2048) cur bad, (thr s t).current = some cur → (∀ w ∈ bad, 4 ≤ w) →
      let c := { cur.cmd with poison := cur.cmd.poison || bad != [] }
      Completes (.landingComplete t bad) s (fun s' => (thr s' t).current = some { cmd := c, landed := 64 + 2 * c.payload.length } ∧
        s'.mem = (storeAt s none (landingSlot s t) (bytesDigits (cmdHeader c ++ c.payload)) false).mem ∧
        ∀ w ∈ bad, poisoned s' [(landingSlot s t + 16 * w, 16)] = true)) ∧
    (∀ (f : Fin 255) (k : Fin 4), (window s (winIx f k)).state = 1 → Completes (.cutThroughTimeout f k) s (fun s' =>
      window s' (winIx f k) = windowInit ∧ ∀ m ∈ (cq s (queueOf f k)).items, m.ord + 1 = (window s (winIx f k)).ord → m.queue = queueOf f k →
        { m with truncated := true, whole := true } ∈ (cq s' (queueOf f k)).items))

/-- R279, R295, R296, R300: a thread releases its current command, rewinds it, answers it, or does both; without one, or with a bad
response header, the store is counted in BADRSP. R280, R299, R301, R302, R311, R312, R392, R399: a response leaves by the route of its
command: in a frame of its session, in a record of its host ring with the producer index advanced, or by SMBus; one whose session has
closed is dropped and counted. A due message is sent or held; HOLD_N rises after its minimum time when nothing holds it; a flow-control
frame is repeated while it is asserted. -/
def Obligations.AnswersAreGiven : Prop :=
  (∀ (s : State) (t : Fin 2048) (k : Fin 4),
    let p := (thr s t).part
    let bad := fun (i : Instr) => Completes i s (fun s' => fldGet s' .quePstat p 15 0 = min 65535 (fldGet s .quePstat p 15 0 + 1))
    ((thr s t).current = none → bad (.release t) ∧ bad (.rewind t) ∧ bad (.respond t k) ∧ bad (.respondAndRelease t k)) ∧
    (∀ cur, (thr s t).current = some cur →
      let c := cur.cmd
      let a := landingSlot s t + 32768
      let h := digitsBytes (readDigits s a 64)
      let len := leAt h 24 2
      let q := if c.origin = 6 then respQueue c else 4 * p + k
      let freed := fun (s' : State) => (thr s' t).current = none ∧ (thr s' t).inbox = (thr s t).inbox ∧
        (cq s' c.queue).occ = (cq s c.queue).occ - linesFor c.len
      let answered := fun (s' : State) => ∃ r ∈ (rq s' q).items, r.turn = c.turn ∧ r.stored = s.now ∧ r.session = c.session ∧ r.seq = c.seq ∧
        r.rcode = 0 ∧ r.route = c.route ∧ r.payload = digitsBytes (readDigits s (a + 64) (2 * len))
      let fits := len ≤ 16352 ∧ leAt h 30 1 = 0 ∧ rqOcc s q + linesFor (digitsBytes (readDigits s (a + 64) (2 * len))).length ≤ rqCap s q
      Completes (.release t) s freed ∧
      (c.truncated = true → Completes (.rewind t) s freed) ∧
      (c.truncated = false → Completes (.rewind t) s (fun s' => (thr s' t).current = none ∧
        (cq s' c.queue).items = { c with redeliver := true } :: (cq s c.queue).items ∧ (cq s' c.queue).occ = (cq s c.queue).occ)) ∧
      ((16352 < len ∨ leAt h 30 1 ≠ 0) → bad (.respond t k)) ∧
      ((16352 < len ∨ leAt h 30 1 ≠ 0) → Completes (.respondAndRelease t k) s freed) ∧
      (fits → Completes (.respond t k) s (fun s' => answered s' ∧ (thr s' t).current = some cur)) ∧
      (fits → Completes (.respondAndRelease t k) s (fun s' => answered s' ∧ freed s')))) ∧
  ((∀ (s : State) (q : Fin 1024) r rest, (rq s q).items = r :: rest →
    let net := r.route < 0xF000
    let x := sess s r.route
    let f := funcOfQueue q
    let ix := winIx f (q % 4)
    (net → x.part = nobody → r.poison = false → Completes (.responseSend q false) s (fun s' => (rq s' q).items = rest ∧
      fldGet s' .queStatr q 63 48 = min 65535 (fldGet s .queStatr q 63 48 + 1) ∧ s'.out = s.out)) ∧
    (net → x.part ≠ nobody → r.poison = false → isPaused s x.port (kcClassPri s.kc (kcClass s.kc q)) = false →
      (netDomains x.port).any (domOut s) = false → Completes (.responseSend q false) s (fun s' => (rq s' q).items = rest ∧
        ∃ hdr, s'.out = s.out ++ [.frame x.port r.route (x.ctrOut + 1) x.peerIp x.peerUdp
          (sealFrame x 3 r.route (x.ctrOut + 1) hdr (respHeader r ++ r.payload))])) ∧
    (r.route = 0xFF01 → r.poison = false → Completes (.responseSend q false) s (fun s' => (rq s' q).items = rest ∧
      s'.intake.smbusOut = s.intake.smbusOut ++ respHeader r ++ r.payload ∧ s'.pins.smbAlertN = false)) ∧
    (∀ parity, 0xF000 ≤ r.route → r.route < 0xFF00 → pcieUp s = true → funcOn s f = true → (func s f).busMaster = true → ringFits s q r = true →
      let body := respHeader { r with poison := parity || r.poison } ++ r.payload
      let n := 64 * ((body.length + 63) / 64)
      Completes (.responseSend q parity) s (fun s' => (rq s' q).items = rest ∧
        fldGet s' .rprod ix 31 0 = (fldGet s .rprod ix 31 0 + n) % 2 ^ 32 ∧
        ∃ tail, s'.out = s.out ++ .hostWrite f (fldGet s .rprod ix 31 0 % 2 ^ (15 + fldGet s .rbase ix 7 4)) (padTo n body) (parity || r.poison) :: tail)) ∧
    (¬ (0xF000 ≤ r.route ∧ r.route < 0xFF00) → Completes (.responseSend q true) s (fun s' => (rq s' q).items.length = rest.length ∧
      fldGet s' .queStatr q 63 48 = min 65535 (fldGet s .queStatr q 63 48 + 1) ∧ s'.out = s.out))) ∧
  (∀ (s : State) (q : Fin 1024) t, (ring s q).oldest = some t → t + 1000 * fldGet s .queMod q 19 8 ≤ s.now →
    let can := !(ring s q).masked && (func s (funcOfQueue q)).busMaster && pcieUp s
    Completes (.msixModerationTimer q) s (fun s' => (ring s' q).unsignalled = 0 ∧ (ring s' q).oldest = none ∧
      (can = true → s'.out = s.out ++ [.msix (funcOfQueue q) (q % 4)]) ∧ (can = false → (ring s' q).pendingBit = true ∧ s'.out = s.out))) ∧
  (∀ (s : State) (g : Fin 8),
    (holdLow s g = false → Completes (.holdNMinLow g) s (fun s' => nth false s'.pins.holdN g = true)) ∧
    (holdLow s g = true → Completes (.holdNMinLow g) s (fun s' => nth false s'.pins.holdN g = false))) ∧
  (∀ (s : State) (p : Fin 2) (prio : Option (Fin 8)),
    let w := prio.map (fun x => x.val)
    (s.intake.flowOn.contains (p.val, w) = true → Completes (.pfcRefresh p prio) s (fun s' => s' = { s with out := s.out ++ [.flow p w 0xFFFF] })) ∧
    (s.intake.flowOn.contains (p.val, w) = false → Completes (.pfcRefresh p prio) s (fun s' => s' = s))))

/-- R304 to R308: a crossing queue takes a word or marks its frame, and gives its words in order; a telemetry item grows to its end mark,
drains line by line into its ring while that has room, and a flush discards or tears what has not begun to drain. -/
def Obligations.CrossingsAndTelemetry : Prop :=
  (∀ (s : State) (x : Fin 10) (w : Word) (last : Bool),
    let c := tget crossingInit s.xq x
    (c.fullFlag = false → c.frameMarked = false → Completes (.crossingPush x w last) s (fun s' =>
      tget crossingInit s'.xq x = { c with words := c.words ++ [(w, last)], fullFlag := decide (Config.laneDepth x ≤ c.words.length + 1) })) ∧
    ((c.fullFlag = true ∨ c.frameMarked = true) → last = false → Completes (.crossingPush x w last) s (fun s' =>
      tget crossingInit s'.xq x = { c with frameMarked := true })) ∧
    ((c.fullFlag = true ∨ c.frameMarked = true) → last = true → Completes (.crossingPush x w last) s (fun s' =>
      (tget crossingInit s'.xq x).frameMarked = false ∧ (tget crossingInit s'.xq x).words <+: c.words ∧
        (∀ y ∈ (tget crossingInit s'.xq x).words.getLast?, y.2 = true) ∧
        fldGet s' .laneDrop (x / 2) 47 32 = min 65535 (fldGet s .laneDrop (x / 2) 47 32 + 1))) ∧
    (∀ y ys, c.words = y :: ys → Completes (.crossingPop x) s (fun s' =>
      tget crossingInit s'.xq x = { c with words := ys, fullFlag := false } ∧ s'.rdata = y.1)) ∧
    (c.words = [] → Completes (.crossingPop x) s (fun s' => s' = s))) ∧
  (∀ (s : State) (j : Fin 16) (source : Byte) (ws : List Word) (done : Bool),
    let q := tlm s j
    (q.tearing = false → (∀ i ∈ q.items.getLast?, i.done = true ∨ i.source ≠ source) →
      let i : TlmItem := {
        source := source, words := ws.take 1023, time := BitVec.ofNat 32 s.now, gap := q.gapp, poison := false, torn := false, done := done }
      (tlmRoom q (tlmLines i) = true → Completes (.telemetryItem j source ws done) s (fun s' => (tlm s' j).items = q.items ++ [i])) ∧
      (tlmRoom q (tlmLines i) = false → Completes (.telemetryItem j source ws done) s (fun s' =>
        (tlm s' j).items.length = q.items.length ∧ (tlm s' j).tearing = !done ∧
          fldGet s' .queTlm j 63 48 = min 65535 (fldGet s .queTlm j 63 48 + 1)))) ∧
    (∀ l i, q.tearing = false → q.items = l ++ [i] → i.done = false → i.source = source →
      tlmRoom { q with items := l } (tlmLines { i with words := (i.words ++ ws).take 1023, done := done }) = true →
      Completes (.telemetryItem j source ws done) s (fun s' =>
        (tlm s' j).items = l ++ [{ i with words := (i.words ++ ws).take 1023, done := done }])) ∧
    (q.tearing = true → Completes (.telemetryItem j source ws done) s (fun s' => tlm s' j = { q with tearing := !done }))) ∧
  (∀ (s : State) (j : Fin 16) i rest, (tlm s j).items = i :: rest → i.done = true →
    let prod := fldGet s .queTlm j 31 4
    let size := 2 ^ kcTlmSize s.kc j
    let d := (tlm s j).drained
    ((prod + 2 ^ 28 - fldGet s .queTcons j 27 0) % 2 ^ 28 = size → Completes (.telemetryDrain j false) s (fun s' => s' = s)) ∧
    ((prod + 2 ^ 28 - fldGet s .queTcons j 27 0) % 2 ^ 28 ≠ size → Completes (.telemetryDrain j false) s (fun s' =>
      s'.mem = (storeAt s none (kcTlmBase s.kc j + 128 * (prod % size)) (bytesDigits (padTo 64 (slice (tlmBytes i) (64 * d) 64))) false).mem ∧
        fldGet s' .queTlm j 31 4 = (prod + 1) % 2 ^ 28 ∧
        (if d + 1 < ((tlmBytes i).length + 63) / 64 then (tlm s' j).items = i :: rest ∧ (tlm s' j).drained = d + 1
          else (tlm s' j).items = rest ∧ (tlm s' j).drained = 0)))) ∧
  (∀ (s : State) (j : Fin 16),
    (∀ p, p ≠ 0 → Completes (.queTlmFlush p j) s (fun s' => s' = s)) ∧
    Completes (.queTlmFlush 0 j) s (fun s' => ∀ i ∈ (tlm s' j).items,
      (i ∈ (tlm s j).items.take 1 ∧ 0 < (tlm s j).drained) ∨ (i.torn = true ∧ i.done = true ∧ ∃ o ∈ (tlm s j).items, o.done = false ∧ i.words = o.words)) ∧
    (∀ v : Word, Completes (.queTcons 0 j v) s (fun s' => fldGet s' .queTcons j 27 0 = fld v 27 0)) ∧
    (∀ (p : Fin 256) (v : Word), p ≠ 0 → Completes (.queTcons p j v) s (fun s' => s' = s)))

/-! ### Turns (chapters 1, 3, 7 and 12) -/

/-- R24, R321, R322, R325 to R328: each of partitions 0 and 1 stages verified deltas into its own OPEN set, at most 8, and opens, closes
and discards the set; GO takes every CLOSED set and starts the drain, unless the audit tail is full or a request is outstanding. Other
partitions' writes are ignored. -/
def Obligations.TurnSetsAreStaged : Prop :=
  ∀ (s : State) (p : Fin 256),
    let x := plane s p
    let other := fun (s' : State) => plane s' (1 - p.val) = plane s (1 - p.val)
    let becomes := fun (i : Instr) (y : Plane) => Completes i s (fun s' => plane s' p = y ∧ other s' ∧ s'.kc = s.kc)
    let ignored := fun (i : Instr) => Completes i s (fun s' => s' = s)
    (1 < p.val → ignored (.deltaVerifyDone p) ∧ ignored (.turnSetOpen p) ∧ ignored (.turnSetClose p) ∧ ignored (.turnSetDiscard p) ∧
      ignored (.turnCommit p) ∧ ∀ va, ignored (.turnDelta p va)) ∧
    (p.val ≤ 1 →
      (∀ va, x.verifying.isSome = true → ignored (.turnDelta p va)) ∧
      (∀ va, x.verifying = none → becomes (.turnDelta p va) (
        if x.closed then { x with deltaVa := va, dcode := 8 }
        else if 8 ≤ x.deltas.length then { x with deltaVa := va, dcode := 0xA }
        else { x with deltaVa := va, dcode := 1, verifying := some va })) ∧
      (∀ va, x.verifying = some va →
        let rest := { x with verifying := none, closed := x.closed || x.closeDue, closeDue := false }
        (deltaBytes s p va.toNat = none → becomes (.deltaVerifyDone p) { rest with dcode := 9 }) ∧
        (∀ b, deltaBytes s p va.toNat = some b → deltaCode s p b = 2 → becomes (.deltaVerifyDone p)
          { rest with dcode := 2, deltas := x.deltas ++ [deltaOf b], dserial := kcSerial b }) ∧
        (∀ b, deltaBytes s p va.toNat = some b → deltaCode s p b ≠ 2 → becomes (.deltaVerifyDone p) { rest with dcode := deltaCode s p b }) ∧
        (∀ b, deltaBytes s p va.toNat = some b → auditFull s = false → s.audit.summaries = [] → Completes (.deltaVerifyDone p) s (fun s' =>
          ∃ r more, s'.audit.tail = s.audit.tail ++ r :: more ∧ r.kind = 3))) ∧
      (setTaken s p = false → becomes (.turnSetOpen p) { x with closed := false }) ∧
      (setTaken s p = true → ignored (.turnSetOpen p)) ∧
      (becomes (.turnSetClose p) (if x.verifying.isSome then { x with closeDue := true } else { x with closed := true })) ∧
      (x.closed = true → ignored (.turnSetDiscard p)) ∧
      (x.closed = false → becomes (.turnSetDiscard p) { x with deltas := [] }) ∧
      (x.closed = false → p = 1 → s.ks.heldBack = [] → Completes (.turnSetDiscard p) s (fun s' =>
        s'.ks.pool = s.ks.pool.filter (fun y => y.taken || y.origin != kcMember s.kc))) ∧
      (let busy := p.val ∈ s.turns.waiting ∨ ∃ c, s.turns.commit = some c ∧ c.plane = p.val
       let free := s.turns.commit = none ∧ s.westad.agree = none ∧ s.supply.power = 1
       (busy → becomes (.turnCommit p) { x with last := 3 }) ∧
       (¬ busy → ¬ free → becomes (.turnCommit p) { x with phase := 1 }) ∧
       (¬ busy → ¬ free → Completes (.turnCommit p) s (fun s' => s'.turns.waiting = s.turns.waiting ++ [p.val])) ∧
       (¬ busy → free → auditFull s = true → becomes (.turnCommit p) { x with last := 2, phase := 0 }) ∧
       (¬ busy → free → auditFull s = false → (s.ks.isSealed = false ∨ s.ks.pool = []) → s.audit.summaries = [] →
        Completes (.turnCommit p) s (fun s' =>
          plane s' p = { x with phase := 2 } ∧ other s' ∧ s'.turns.num = s.turns.num ∧
          s'.turns.commit = some {
            plane := p, take0 := s.turns.p0.closed, take1 := s.turns.p1.closed
            deltas := (if s.turns.p0.closed then s.turns.p0.deltas else []) ++ (if s.turns.p1.closed then s.turns.p1.deltas else [])
            phase := 2, started := s.now } ∧
          (s.turns.p1.closed = true → s'.ks.pool = s.ks.pool.map (fun y => { y with taken := true })) ∧
          ∃ r, s'.audit.tail = s.audit.tail ++ [r] ∧ r.kind = 2 ∧ r.source = p.val ∧ r.turn = s.turns.num))))

/-- R25, R26, R46, R137, R140, R328 to R330: a drained commit reaches its boundary, where the turn's number goes up by one and every taken
delta is in force; in a strongroom it is proposed first. A drain's limit discards what is left of it. A quad that moved is cleared once its
threads are FROZEN, and a cylinder goes back to free mode once no key-handling partition holds a quad of it. -/
def Obligations.TurnsEnd : Prop :=
  (∀ (s : State) (c : Commit), s.turns.commit = some c → c.phase = 2 → c.plane ≤ 1 → s.turns.waiting = [] → s.boot.warmDue = false →
    ¬ (s.req.ksStat = 1 ∧ ∃ y ∈ s.ks.pool, y.taken = true) →
    let passes := fun (i : Instr) => Completes i s (fun s' =>
      s'.turns.num = s.turns.num + 1 ∧ s'.turns.since = s.now ∧ s'.kc = applyDeltas s.kc c.deltas ∧ s'.kcPrev = s.kc ∧ s'.turns.commit = none ∧
        (plane s' c.plane).last = 1 ∧ (plane s' c.plane).phase = 0 ∧ (plane s' c.plane).taken = b2n c.take0 + 2 * b2n c.take1 ∧
        (c.take0 = true → s'.turns.p0.deltas = [] ∧ s'.turns.p0.closed = false) ∧
        (c.take1 = true → s'.turns.p1.deltas = [] ∧ s'.turns.p1.closed = false) ∧
        (c.take0 = false → s'.turns.p0.deltas = s.turns.p0.deltas ∧ s'.turns.p0.closed = s.turns.p0.closed) ∧
        (c.take1 = false → s'.turns.p1.deltas = s.turns.p1.deltas ∧ s'.turns.p1.closed = s.turns.p1.closed))
    (oldInFlight s s.turns.num = true → Completes .turnDrainEnd s (fun s' => s' = s)) ∧
    (oldInFlight s s.turns.num = false → voters s c.deltas = [] → passes .turnDrainEnd) ∧
    (oldInFlight s s.turns.num = false → voters s c.deltas ≠ [] → Completes .turnDrainEnd s (fun s' =>
      s'.turns.num = s.turns.num ∧ s'.turns.commit = some { c with phase := 3 } ∧ (plane s' c.plane).phase = 3 ∧
        ∃ a, s'.westad.agree = some a ∧ a.proposer = kcMember s.kc ∧ a.turn = s.turns.num + 1 ∧ a.votes = [] ∧
          ∀ m ∈ voters s c.deltas, m ∈ otherMembers s → ∃ q, (wpair s' m).unacked.getLast? = some (q, 1, leBytes 8 (s.turns.num + 1) ++ a.ksd ++ a.exd))) ∧
    (c.started + kcDrain s.kc ≤ s.now → voters s c.deltas = [] →
      tabWf cmdqInit none s.intake.cmdq = true → tabWf thrInit none s.threads = true → passes .turnDrainLimit)) ∧
  (∀ (s : State) (q : Fin 512),
    let p := kcQuad s.kc q
    let own := fun (i : Fin 4) => thr s (4 * q.val + i.val)
    (∀ i, ((own i).st = .none ∨ ((own i).st = .frozen ∧ moving s (4 * q.val + i.val) = true)) ∧ (own i).sbuf = []) → (∃ i, (own i).part ≠ p) →
    retired s 1 (q.val / 4) = false → Completes (.quadClear q) s (fun s' => ∀ i : Fin 4,
      let t := 4 * q.val + i.val
      (thr s' t).part = p ∧ (∀ r, greg (thr s' t).arch r = 0) ∧
        (p = nobody → (thr s' t).st = .none) ∧
        (p ≠ nobody → firstThread s.kc p = some t → p ∈ s.turns.starting →
          (thr s' t).st = .ready ∧ (thr s' t).arch.pc = BitVec.ofNat 56 (kcEntry s.kc p)) ∧
        (p ≠ nobody → ¬ (firstThread s.kc p = some t ∧ p ∈ s.turns.starting) → (thr s' t).st = .halt))) ∧
  (∀ (s : State) (c : Fin 128), (cyl s c).toFree = true → needsLevel s.kc c = false → oldInFlight s s.turns.num = false →
    Completes (.modeChangeToFree c) s (fun s' => (cyl s' c).level = false ∧ (cyl s' c).toFree = false))

/-! ### Arbiters, crossings and knocks (chapters 13 and 14) -/

/-- R345, R347, R351, R355 to R357, R359: a lottery's winner and counters; the count of a crossing; the stall watch's forced completion; a
domain's reset; and ARB_XMODE, which partition 0 sets before READY. -/
def Obligations.FabricEvents : Prop :=
  (∀ (s : State) (a : Nat) (contestants : List Nat), a < 0x190 →
    let x := arb s a
    let cs := (List.range 257).filter (fun r => contestants.contains r && arbValid a r)
    let tk := arbTickets s.kc a
    let total := (cs.map (fun c => (tk c).1)).foldl (· + ·) 0
    let isFirst := fun (l : List Nat) (last w : Nat) => w ∈ l ∧
      ((last < w ∧ ∀ c ∈ l, last < c → w ≤ c) ∨ ((∀ c ∈ l, c ≤ last) ∧ ∀ c ∈ l, w ≤ c))
    let atLimit := cs.filter (fun c => decide ((tk c).2 ≤ tget 0 x.wait c))
    let r := (lfsrDraw x.lfsr).toNat * total / 2 ^ 32
    let below := fun (w : Nat) => (cs.filter (fun c => decide (c < w))).foldl (fun n c => n + (tk c).1) 0
    let wins := fun (w : Nat) (forced drawn : Bool) => Completes (.arbiterDraw a contestants) s (fun s' =>
      let y := arb s' a
      y.lastWinner = w ∧ tget 0 y.wait w = 0 ∧ (∀ c ∈ cs, c ≠ w → tget 0 y.wait c = min (tk c).2 (tget 0 x.wait c + 1)) ∧
        (∀ c, c ∉ cs → tget 0 y.wait c = tget 0 x.wait c) ∧ tget 0 y.grants w = (tget 0 x.grants w + 1) % 2 ^ 32 ∧
        y.decisions = (x.decisions + 1) % 2 ^ 32 ∧ y.forced = (x.forced + b2n forced) % 2 ^ 16 ∧
        y.lfsr = (if drawn then lfsrDraw x.lfsr else x.lfsr) ∧ y.lastForced = (if forced then w else x.lastForced))
    (cs = [] → Completes (.arbiterDraw a contestants) s (fun s' => arb s' a = x)) ∧
    (x.forced < 2 ^ 16 → ∀ w, isFirst atLimit x.lastForced w → wins w true false) ∧
    (x.forced < 2 ^ 16 → atLimit = [] → x.seeded = true → ∀ w ∈ cs, below w ≤ r → r < below w + (tk w).1 → wins w false true) ∧
    (x.forced < 2 ^ 16 → atLimit = [] → (x.seeded = false ∨ total = 0) → ∀ w, isFirst cs x.lastWinner w → wins w false false)) ∧
  (∀ (s : State) (d : Fin 26), d ≠ 0 →
    let x := dom s d
    let xsat := fun (s' : State) => fldGet s' .arbXsat 0 d d = 1
    (∀ n, Completes (.eventCountCrossing d n) s (fun s' =>
      (domOut s d = false → (dom s' d).count = 0 ∧ (dom s' d).received = x.received + min 255 (x.count + n)) ∧
        (domOut s d = true → (dom s' d).count = min 255 (x.count + n) ∧ (dom s' d).received = x.received) ∧
        (255 < x.count + n → xsat s'))) ∧
    (∀ inward (part : Byte), x.down = false → (punit s 9 d).state ≠ 3 → Completes (.stallWatchExpiry d inward part) s (fun s' =>
      (dom s' d).stalled = true ∧ (dom s' d).count = 0 ∧ (0 < x.count → xsat s') ∧ (punit s' 9 d).probe.isSome = true ∧
        fldGet s' .keepXlog 0 63 48 = min 65535 (fldGet s .keepXlog 0 63 48 + 1) ∧ fldGet s' .keepXlog 0 31 24 = part.toNat ∧
        fldGet s' .keepXlog 0 23 20 = (if inward then 1 else 2) ∧ fldGet s' .keepXlog 0 19 12 = d.val ∧
        ∀ i ∈ crossingsOf d, ∀ y ys, (tget crossingInit s.xq i).words = y :: ys →
          (tget crossingInit s'.xq i).words = ys ∧ (tget crossingInit s'.xq i).frameMarked = true)) ∧
    (∀ inward part, x.down = true → Completes (.stallWatchExpiry d inward part) s (fun s' => s' = s)) ∧
    (Completes (.domainReset d) s (fun s' => (dom s' d).stalled = false ∧ (dom s' d).count = 0 ∧ (dom s' d).down = heldDown s d ∧
      (0 < x.count → xsat s') ∧ ∀ i ∈ crossingsOf d, tget crossingInit s'.xq i = crossingInit))) ∧
  (∀ (s : State) (p : Fin 256) (v : Word),
    (p = 0 → s.pins.ready = false → s.boot.readyMs = 0 → ∀ d : Fin 26, d ≠ 0 → Completes (.arbXmode p v) s (fun s' =>
      fldGet s' .arbXmode 0 d d = fld v d d)) ∧
    ((p ≠ 0 ∨ s.pins.ready = true) → Completes (.arbXmode p v) s (fun s' => s' = s)))

/-- R361 to R366: the state of a source under doorbells, sets, clears and masks; a raise by a partition that does not own the source is
counted, and source 0 takes no action. -/
def Obligations.SourcesAct : Prop :=
  ∀ (s : State) (p : Fin 256) (n : Fin 4096),
    let x := src s n
    let rows := [Instr.knkDoorbell p n, .deviceRaise p n, .knkPendSet p n, .knkPendClr p n, .knkMaskSet p n, .knkMaskClr p n]
    let route := if x.pend then x.route else some (kcRoute s.kc n)
    let woken := fun (s' : State) => ∀ t, claimable s' t n true = true → (thr s' t).st ≠ .wait
    (n = 0 → ∀ i ∈ rows, Completes i s (fun s' => s' = s)) ∧
    (n ≠ 0 → mayRaise s p n = false → ∀ i ∈ rows, Completes i s (fun s' => s'.srcs = s.srcs ∧ s'.threads = s.threads ∧
      (p ≠ 0 → fldGet s' .knkStrayCnt p 63 32 = min (2 ^ 32 - 1) (fldGet s .knkStrayCnt p 63 32 + 1)))) ∧
    (n ≠ 0 → mayRaise s p n = true →
      (∀ i ∈ [Instr.knkDoorbell p n, .deviceRaise p n], Completes i s (fun s' =>
        src s' n = { x with pend := true, cnt := min 255 (x.cnt + 1), firstBell := if x.cnt = 0 then s.now else x.firstBell, route := route } ∧ woken s')) ∧
      Completes (.knkPendSet p n) s (fun s' =>
        (src s' n).pend = true ∧ ripe s' n = true ∧ (src s' n).cnt = x.cnt ∧ (src s' n).route = route ∧ woken s') ∧
      Completes (.knkPendClr p n) s (fun s' => (src s' n).pend = false ∧ (src s' n).cnt = 0 ∧ (src s' n).active = x.active ∧ (src s' n).mask = x.mask) ∧
      Completes (.knkMaskSet p n) s (fun s' => src s' n = { x with mask := true }) ∧
      Completes (.knkMaskClr p n) s (fun s' => src s' n = { x with mask := false } ∧ woken s')) ∧
    (x.pend = true → x.firstBell + (srcRoute s n).minivl ≤ s.now → (∀ c, x.lastClaim = some c → c + (srcRoute s n).minivl ≤ s.now) →
      Completes (.moderationRipe n) s (fun s' => src s' n = { x with ripeNow := true } ∧ ripe s' n = true ∧ woken s')) ∧
    ((x.pend = false ∨ s.now < x.firstBell + (srcRoute s n).minivl) → Completes (.moderationRipe n) s (fun s' => s' = s))

/-- R139, R137, R219, R368 to R378: a thread at rest takes a delivered source or its own fault at the handler's address, with a knock frame
written below ts.ssp, or halts where it cannot; it claims the best source, ends it, and returns by its frame or straight to the handler;
and it is frozen at a word boundary. -/
def Obligations.KnocksAreTaken : Prop :=
  ∀ (s : State) (t : Fin 2048),
    let th := thr s t
    let a := th.arch
    let vec := regGet s .knkVec th.part
    let ssp := (port a 0x1C3).toNat
    let va := (ssp + 2 ^ 56 - 512) % 2 ^ 56
    let s1 := entryFill (entryFill s t va 3) t ((va + 511) % 2 ^ 56) 3
    let rest := a.ops = [] ∧ flyOf th = 0 ∧ th.spec = []
    let lives := running s = true ∧ (th.st = .ready ∨ th.st = .wait) ∧ th.freeze = none ∧ th.freezeReq = none
    let entered := fun (s' : State) (epc pc : VAddr) (cause : Nat) =>
      let b := (thr s' t).arch
      b.pc = pc ∧ port b 0x1C3 = w64 va ∧ port b 0x1C5 = w64 epc.toNat ∧ port b 0x1C6 = w64 cause ∧ port b 0x1C2 = 0 ∧ b.immCnt = 0 ∧
        b.rep.active = false ∧ b.g = a.g ∧ (thr s' t).st = .ready ∧ (thr s' t).frames = th.frames + 1 ∧ (thr s' t).runPri = th.runPri ∧
        (thr s' t).prio = th.prio ∧ (thr s' t).resv = none ∧
        Buffers s s' t (okPieces s1 t va 16 3) 16 (w64 epc.toNat) false
    let base := BitVec.ofNat 56 (fld vec 55 7 * 128)
    -- entries
    (rest → lives → th.sync = none → th.parity = false → rtnPending th = false → th.entering = false → th.direct = false → th.fresh = 0 →
      anyDeliver s t = true → entryBar s t = none → Completes (.knockEntry t) s (fun s' => entered s' a.pc base 0 ∧
        ∀ i x, (frameItems a 1 a.pc)[i]? = some x → Buffers s s' t (okPieces s1 t ((va + 16 * i) % 2 ^ 56) 16 3) 16 x.1 x.2)) ∧
    (∀ k, rest → lives → th.sync = some k → entryBar s t = none → 0 < k.cause → k.cause < 256 → Completes (.syncKnockEntry t) s (fun s' =>
      entered s' k.epc (base + 0x40) k.cause ∧ (thr s' t).sync = none ∧
        (k.translation = true → (thr s' t).fva = k.fva ∧ (thr s' t).finfo = k.finfo) ∧
        (k.translation = false → (thr s' t).fva = th.fva ∧ (thr s' t).finfo = th.finfo))) ∧
    (∀ k f, rest → lives → th.sync = some k → entryBar s t = some f → Completes (.syncKnockEntry t) s (fun s' => (thr s' t).st = .halt ∧
      (thr s' t).current = none ∧ (thr s' t).sync = none ∧
      (0 < kcErrSrc s.kc th.part → mayRaise s th.part (kcErrSrc s.kc th.part) = true → (src s' (kcErrSrc s.kc th.part)).pend = true))) ∧
    -- claims
    (∀ o r w sg ps x y, claimOp th = some o → o.kind = .load r w sg ps x y → r < 64 →
      let anyRipe := th.fromWait == 2
      let could := fun (m : Nat) => claimable s t m anyRipe
      (∀ n : Nat, tabWf srcInit none s.srcs = true → could n = true →
        (∀ m, could m = true → (srcRoute s m).prio < (srcRoute s n).prio ∨ ((srcRoute s m).prio = (srcRoute s n).prio ∧ n ≤ m)) →
        let v := w64 ((srcRoute s n).prio * 4096 + n)
        Completes (.knkClaim t) s (fun s' => greg (thr s' t).arch r = lowDigits w v ∧ s'.rdata = v ∧
          (src s' n).pend = false ∧ (src s' n).cnt = 0 ∧ (src s' n).active = true ∧ (src s' n).claimer = t.val ∧ (src s' n).lastClaim = some s.now ∧
          (thr s' t).runPri = (srcRoute s n).prio ∧ (thr s' t).prio = (th.runPri, n) :: th.prio ∧ (thr s' t).exitWin = false)) ∧
      ((∀ m, could m = false) → Completes (.knkClaim t) s (fun s' => greg (thr s' t).arch r = 0 ∧ s'.srcs = s.srcs ∧
        (thr s' t).runPri = th.runPri ∧ (thr s' t).prio = th.prio))) ∧
    -- ends
    (∀ n : Fin 4096,
      let strays := Completes (.knkEoi t n) s (fun s' => fldGet s' .knkStrayCnt th.part 31 0 = min (2 ^ 32 - 1) (fldGet s .knkStrayCnt th.part 31 0 + 1) ∧
        s'.srcs = s.srcs ∧ (thr s' t).prio = th.prio)
      (th.prio = [] → n ≠ 0 → strays) ∧
      (∀ old top more, th.prio = (old, top) :: more →
        let mine := (src s top).active = true ∧ (src s top).claimer = t.val
        let popped := fun (s' : State) => (thr s' t).prio = more ∧ (thr s' t).runPri = old
        (n ≠ 0 → n.val = top → mine → Completes (.knkEoi t n) s (fun s' =>
          popped s' ∧ (thr s' t).exitWin = true ∧ src s' top = { src s top with active := false })) ∧
        (n ≠ 0 → ¬ (n.val = top ∧ mine) → strays) ∧
        (n = 0 → ¬ mine → Completes (.knkEoi t n) s (fun s' => popped s' ∧ s'.srcs = s.srcs)) ∧
        (n = 0 → mine → Completes (.knkEoi t n) s (fun s' => s' = s)))) ∧
    -- returns
    (th.sbuf = [] →
      let s2 := putThr s t { th with exitWin := false }
      (th.frames = 0 → Completes (.knkRtn t) s (fun s' =>
        fldGet s' .knkStrayCnt th.part 31 0 = min (2 ^ 32 - 1) (fldGet s .knkStrayCnt th.part 31 0 + 1) ∧ (thr s' t).arch = a)) ∧
      (0 < th.frames → anyDeliver s2 t = true → rest → Completes (.knkRtn t) s (fun s' =>
        (thr s' t).arch.pc = base ∧ port (thr s' t).arch 0x1C3 = port a 0x1C3 ∧ port (thr s' t).arch 0x1C5 = w64 (th.epcs.headD a.pc).toNat ∧
          (thr s' t).frames = th.frames)) ∧
      (0 < th.frames → anyDeliver s2 t = false → (∃ ps, entryAccess s t ssp 512 2 = .ok ps) →
        let s3 := entryFill (entryFill s t ssp 2) t ((ssp + 511) % 2 ^ 56) 2
        let word := fun i => (loadPieces s3 (okPieces s3 t ((ssp + 16 * i) % 2 ^ 56) 16 2)).1
        Completes (.knkRtn t) s (fun s' =>
          (thr s' t).arch.pc = BitVec.ofNat 56 (word 0).toNat ∧ port (thr s' t).arch 0x1C3 = w64 ((ssp + 512) % 2 ^ 56) ∧
          (thr s' t).arch.g = a.g ∧ (thr s' t).frames = th.frames - 1 ∧ (thr s' t).arch.immAcc = BitVec.ofNat 48 (word 2).toNat ∧
          port (thr s' t).arch 0x080 = word 13 ∧ (∀ i : Fin 64, tbit (thr s' t).arch i = (word 29).getLsbD i)))) ∧
    -- freezes
    (rest → (th.st = .ready ∨ th.st = .wait ∨ th.st = .parked) → ∀ why, th.freezeReq = some why → Completes (.threadFreeze t) s (fun s' =>
      (thr s' t).st = .frozen ∧ (thr s' t).freeze = some why ∧ (thr s' t).freezeReq = none ∧ (thr s' t).resv = none ∧
        (thr s' t).resume = (if th.st = .parked then .ready else th.st) ∧ (thr s' t).arch.pc = a.pc ∧ (thr s' t).arch.g = a.g)) ∧
    (rest → (th.st = .wait ∨ th.st = .halt) → th.freezeReq = none → moving s t = true → Completes (.threadFreeze t) s (fun s' =>
      (thr s' t).st = .frozen ∧ (thr s' t).freeze = some .quadMove))

/-! ### The network ports and PCI Express (chapter 15) -/

/-- R387, R388, R392 to R394: what a port answers itself, PAUSE, and the sessions: a HELLO that passes its checks opens one, and a CLOSE,
600 s without a frame, or the end of its counter close it. -/
def Obligations.SessionsOpenAndClose : Prop :=
  ∀ (s : State) (l : NetPort),
    let lane := netLane l
    let auth := fun (s' : State) => fldGet s' .laneDrop lane 31 16 = min 65535 (fldGet s .laneDrop lane 31 16 + 1)
    (portUp s l = true → ∀ kind target,
      let own := ownAddress s l (kind == .neighbour) target || (kind == .echo && ownAddress s l true target)
      (own = true → Completes (.arpNdEcho l kind target) s (fun s' => s'.out = s.out ++ [.netAnswer l kind])) ∧
      (own = false → Completes (.arpNdEcho l kind target) s (fun s' => s'.out = s.out ∧
        fldGet s' .laneDrop lane 47 32 = min 65535 (fldGet s .laneDrop lane 47 32 + 1)))) ∧
    (∀ (p : Fin 2) (prio : Fin 8) (l : List (Fin 8)) (quanta : BitVec 16), domOut s (2 + 2 * p.val) = false → domOut s (3 + 2 * p.val) = false →
      (quanta ≠ 0 → prio ∈ l → Completes (.pauseFrameReceived p (some l) quanta) s (fun s' => (p.val, some prio.val) ∈ s'.intake.paused)) ∧
      (quanta = 0 → prio ∈ l → Completes (.pauseFrameReceived p (some l) quanta) s (fun s' => (p.val, some prio.val) ∉ s'.intake.paused)) ∧
      (prio ∉ l → Completes (.pauseFrameReceived p (some l) quanta) s (fun s' =>
        (p.val, some prio.val) ∈ s'.intake.paused ↔ (p.val, some prio.val) ∈ s.intake.paused)) ∧
      (quanta ≠ 0 → Completes (.pauseFrameReceived p none quanta) s (fun s' => (p.val, none) ∈ s'.intake.paused)) ∧
      Completes (.pauseTimeExpiry p (some prio)) s (fun s' =>
        (p.val, some prio.val) ∉ s'.intake.paused ∧ ∀ x ∈ s.intake.paused, x ≠ (p.val, some prio.val) → x ∈ s'.intake.paused)) ∧
    (∀ (h : NetHdr) (b : List Byte), s.supply.power = 1 → portUp s l = true → passesFilter s l h = true → s.faults.quietDue = none →
      (frameIs b 1 = true → b.length = helloLen → leAt b 2 2 = 0 → leAt b 4 4 = 0 →
        ∀ c, readCmdH (slice b 8 16) = some c → c.len + 24 = b.length →
        let p := leAt b 8 1
        let ok := planeOk (isMgmt l) false p && kcPresent s.kc p && (!s.faults.quiet || isMgmt l)
        let s1 := (helloKey s l b).2
        let full := 3072 ≤ (s1.intake.sessions.filter (fun x => x.2.part != nobody)).length
        (ok = false → Completes (.hello l h b) s (fun s' => auth s' ∧ s'.intake.sessions = s.intake.sessions ∧ s'.out = s.out)) ∧
        (ok = true → s1.faults.quietDue = none → (helloKey s l b).1 = none → Completes (.hello l h b) s (fun s' =>
          auth s' ∧ s'.intake.sessions = s.intake.sessions ∧ s'.out = s.out)) ∧
        (∀ key, ok = true → s1.faults.quietDue = none → (helloKey s l b).1 = some key → full → Completes (.hello l h b) s (fun s' =>
          s'.intake.sessions = s.intake.sessions ∧ s'.out = s.out ++ [.reject l 1])) ∧
        (∀ key, ok = true → s1.faults.quietDue = none → (helloKey s l b).1 = some key → ¬ full → Completes (.hello l h b) s (fun s' =>
          let n := nextSession s1 0xF000 s1.intake.lastSession
          let x := sess s' n
          s'.intake.lastSession = n ∧ x.part = p ∧ x.port = l ∧ x.ctrOut = 0 ∧ x.ctrTop = 0 ∧ x.seen = [] ∧ x.lastFrame = s.now ∧
            x.peerIp = h.srcIp ∧ x.peerUdp = h.srcUdp ∧ (∀ m, m ≠ n → sess s' m = sess s m) ∧
            ∃ nonce ct ss tag sg hdr, s'.out = s.out ++ [.accept l n (hdr ++ (nonce ++ ct) ++ tag ++ sg)] ∧
              (ct, ss) = Config.mlKemEncap 0 (slice b 64 1184) (Config.trng (s1.free + 1) 32) ∧
              (∀ k, key = some k → tag = kmac 256 k (sha256 (b ++ hdr ++ (nonce ++ ct))) 32 (ascii "EVG-ACCEPT")) ∧
              x.keyIn ++ x.keyOut ++ x.saltIn ++ x.saltOut = (kmac 256 ss (sha256 (b ++ hdr ++ (nonce ++ ct))) 72 (ascii "EVG-SESSION")).take 72))) ∧
      (frameIs b 4 = true →
        (openFrame s b = none → Completes (.close l h b) s (fun s' => auth s' ∧ s'.intake.sessions = s.intake.sessions)) ∧
        (∀ n body, openFrame s b = some (n, body) → Completes (.close l h b) s (fun s' =>
          (sess s' n).part = nobody ∧ ∀ m, m ≠ n → sess s' m = sess s m)))) ∧
    (∀ n : Fin 65536, (sess s n).part ≠ nobody →
      ((sess s n).lastFrame + 600 * 10 ^ 9 ≤ s.now → Completes (.sessionIdleTimeout n) s (fun s' => (sess s' n).part = nobody)) ∧
      (s.now < (sess s n).lastFrame + 600 * 10 ^ 9 → Completes (.sessionIdleTimeout n) s (fun s' => s' = s)))

/-- R398 to R401, R312: a command window's byte stream, the queue registers of a function, function-level resets and the link's end. -/
def Obligations.PcieFunctionsAct : Prop :=
  ∀ (s : State) (f : Fin 255) (k : Fin 4),
    let ix := winIx f k
    let q := queueOf f k
    let w := window s ix
    let broken := fun (i : Instr) => Completes i s (fun s' => (window s' ix).state = 2 ∧
      fldGet s' .laneDrop 2 47 32 = min 65535 (fldGet s .laneDrop 2 47 32 + 1))
    -- windows
    (∀ b gaps, (pcieUp s = false ∨ w.state = 2) → Completes (.commandWindowWrite f k b gaps) s (fun s' => s' = s)) ∧
    (∀ b, pcieUp s = true → w.state < 2 → broken (.commandWindowWrite f k b true)) ∧
    (∀ b, pcieUp s = true → w.state = 0 → b ≠ [] → w.buf.length + b.length < 16 → Completes (.commandWindowWrite f k b false) s (fun s' =>
      window s' ix = { w with buf := w.buf ++ b })) ∧
    (∀ b, pcieUp s = true → w.state = 0 → b ≠ [] → w.buf.length + b.length = 16 → readCmdH (w.buf ++ b) = none →
      broken (.commandWindowWrite f k b false)) ∧
    (∀ b c, pcieUp s = true → w.state = 0 → b ≠ [] → w.buf.length + b.length = 16 → readCmdH (w.buf ++ b) = some c →
      Completes (.commandWindowWrite f k b false) s (fun s' =>
        (c.len = 0 → window s' ix = windowInit) ∧ (0 < c.len → (window s' ix).state = 1 ∧ (window s' ix).need = c.len))) ∧
    (∀ b, pcieUp s = true → w.state = 1 → b ≠ [] → b.length ≤ w.need → Completes (.commandWindowWrite f k b false) s (fun s' =>
      window s' ix = (if b.length = w.need then windowInit else { w with need := w.need - b.length }) ∧
        ∀ m ∈ (cq s q).items, m.ord + 1 = w.ord → m.queue = q →
          { m with payload := m.payload ++ b, whole := decide (b.length = w.need) } ∈ (cq s' q).items)) ∧
    (pcieUp s = true → funcOn s f = true → Completes (.cwinResync f k) s (fun s' => window s' ix = windowInit)) ∧
    -- queue registers
    (pcieUp s = true → funcOn s f = true → ∀ v : Word,
      let old := regGet s .rbase ix
      (fbit old 0 = true → Completes (.rbase f k v) s (fun s' =>
        fldGet s' .rbase ix 63 12 = fld old 63 12 ∧ fldGet s' .rbase ix 7 4 = fld old 7 4 ∧ fldGet s' .rbase ix 0 0 = fld v 0 0)) ∧
      (fbit old 0 = false → Completes (.rbase f k v) s (fun s' =>
        fldGet s' .rbase ix 63 12 = fld v 63 12 ∧ fldGet s' .rbase ix 7 4 = (if fld v 7 4 < 10 then fld v 7 4 else fld old 7 4) ∧
          fldGet s' .rbase ix 0 0 = fld v 0 0 ∧ (fbit v 0 = true → fldGet s' .rprod ix 31 0 = 0 ∧ fldGet s' .rcons ix 31 0 = 0))) ∧
      Completes (.rcons f k v) s (fun s' => fldGet s' .rcons ix 31 0 = fld v 31 0)) ∧
    -- resets and the link
    (let cleared := fun (i : Instr) => Completes i s (fun s' => window s' ix = windowInit ∧ regGet s' .rbase ix = 0 ∧ regGet s' .rprod ix = 0 ∧
        regGet s' .rcons ix = 0 ∧ (∀ r ∈ (rq s' q).items, r.route ≠ 0xF000 + f.val) ∧ (func s' f).busMaster = false ∧
        fldGet s' .queStatr q 63 48 =
          min 65535 (fldGet s .queStatr q 63 48 + ((rq s q).items.filter (fun r => r.route == 0xF000 + f.val)).length))
     (pcieUp s = true → f ≠ 0 → cleared (.flrVf f)) ∧
     (pcieUp s = true → f = 0 → cleared .flrPf0)) ∧
    (pcieUp s = true → Completes .flrPf0 s (fun s' => s'.intake.vfEnable = false)) ∧
    (pcieUp s = false → Completes (.flrVf f) s (fun s' => s' = s) ∧ Completes .flrPf0 s (fun s' => s' = s)) ∧
    (Completes .pcieLinkDown s (fun s' => (dom s' 6).down = true ∧ (dom s' 7).down = true ∧ (rq s' q).items = (rq s q).items)) ∧
    (∀ power, pcieUp s = true → Completes (.aspmL0sL1Transition power) s (fun s' => s' = { s with linkPower := power })) ∧
    (pcieUp s = true → ∀ on : Bool,
      Completes (.pcieConfigWrite (.busMaster f on)) s (fun s' => (func s' f).busMaster = on) ∧
      Completes (.pcieConfigWrite (.functionEnable f on)) s (fun s' => (func s' f).enabled = on) ∧
      Completes (.pcieConfigWrite (.vfEnable on)) s (fun s' => s'.intake.vfEnable = on) ∧
      Completes (.pcieConfigWrite (.vectorMask f k on)) s (fun s' => (ring s' q).masked = on ∧
        (on = false → (ring s q).pendingBit = true → (func s f).busMaster = true →
          (ring s' q).pendingBit = false ∧ s'.out = s.out ++ [.msix (funcOfQueue q) (q % 4)])))

/-- R359, R384, R437, R522: PERST_N, a lane that loses lock and one that has trained: the domains behind them are DOWN until their lanes
are up, and come up with their crossings reset. -/
def Obligations.LanesTrain : Prop :=
  ∀ (s : State),
    (Completes (.perstN true) s (fun s' => s'.pins.perstN = false ∧ (dom s' 6).down = true ∧ (dom s' 7).down = true ∧ s'.linkPower = .l0)) ∧
    (Completes (.perstN false) s (fun s' => s'.pins.perstN = true ∧ (dom s' 6).down = true ∧ (dom s' 7).down = true ∧
      ∀ l, l < 48 → kcLaneFunc s.kc l = 3 → laneState s l = 1 → laneState s' l = 2)) ∧
    (∀ l : Fin 48, laneState s l = 3 → Completes (.laneLossOfLock l) s (fun s' => laneState s' l = 2 ∧
      (∀ d ∈ laneDomains s l, (dom s' d).down = true ∧ (dom s' d).count = 0 ∧ ∀ x ∈ crossingsOf d, tget crossingInit s'.xq x = crossingInit) ∧
      (∀ t, alook s.faults.lockLoss l = some t → s.now < t + 10 ^ 9 → (punit s 8 l).state ≠ 3 → (punit s' 8 l).probe.isSome = true))) ∧
    (∀ l : Fin 48, laneState s l ≠ 3 → Completes (.laneLossOfLock l) s (fun s' => s' = s)) ∧
    (∀ l : Fin 48, (laneState s l = 1 ∨ laneState s l = 2) → padsHeld s (kcLaneFunc s.kc l) = false →
      Completes (.laneTrainingDone (.lane l)) s (fun s' => laneState s' l = 3 ∧
        ∀ d ∈ laneDomains s l, (dom s' d).stalled = false ∧ (dom s' d).count = 0 ∧ (dom s' d).down = heldDown s' d)) ∧
    (s.faults.quiet = false → s.pins.perstN = true → padsHeld s 3 = false → Completes (.laneTrainingDone .pcie) s (fun s' =>
      ∀ l, l < 48 → kcLaneFunc s.kc l = 3 → laneState s l ≠ 4 → laneState s' l = 3))

/-! ### Westad (chapter 15) -/

/-- R402 to R405: a sound flit's acknowledgement and credit are taken, a DATA flit in order is accepted, and one that is not is answered by
one NAK; a NAK or a timeout replays from a SEQ, the eighth time in a row by a retraining; a lane that fails, and a link that is lost or has
trained. -/
def Obligations.WestadLinksRun : Prop :=
  ∀ (s : State) (l : Fin 4),
    let k := wlink s l
    let up := k.state = 3
    let flit := fun (ty seq frag : Nat) (pay : Bytes) => Out.flit l (flitBytes ty seq (linkAck k) 0 frag pay)
    let replays := fun (i : Instr) (seq : Nat) =>
      let n := if k.replays ≠ 0 ∧ k.replaySeq = seq then k.replays + 1 else 1
      let counted := fun (s' : State) => fldGet s' .laneWlink l 63 48 = min 65535 (fldGet s .laneWlink l 63 48 + 1)
      (n < 8 → Completes i s (fun s' => counted s' ∧ (wlink s' l).replays = n ∧ (wlink s' l).replaySeq = seq ∧ (wlink s' l).replay = k.replay ∧
        s'.out = s.out ++ (k.replay.dropWhile (fun f => f.1 != seq)).map (fun f => flit 1 f.1 (leAt f.2 0 2) (f.2.drop 2)))) ∧
      (8 ≤ n → Completes i s (fun s' => counted s' ∧ (wlink s' l).state ≠ 3 ∧
        fldGet s' .laneWlink l 47 32 = min 65535 (fldGet s .laneWlink l 47 32 + 1)))
    (∀ b : List Byte, up → domOut s (8 + l) = false →
      let sound := b.length = 128 ∧ crc32 (b.take 124) = leAt b 124 4
      let seq := leAt b 0 2 % 4096
      let taken := fun (s' : State) => ∀ f ∈ (wlink s' l).replay, f ∈ k.replay → 2048 ≤ (leAt b 2 2 % 4096 + 4096 - f.1) % 4096
      let naks := fun (s' : State) => (wlink s' l).rxSeq = k.rxSeq ∧ (wlink s' l).nakSent = true
      (¬ sound → k.nakSent = false → Completes (.flitReceive l b) s (fun s' => naks s' ∧ s'.out = s.out ++ [flit 2 k.rxSeq 0 []])) ∧
      (¬ sound → k.nakSent = true → Completes (.flitReceive l b) s (fun s' => s' = s)) ∧
      (sound → leAt b 0 2 / 4096 = 0 → k.txq = [] → Completes (.flitReceive l b) s (fun s' =>
        wlink s' l = { k with
          replay := ackedOut (leAt b 2 2 % 4096) k.replay
          credits := setNth k.credits (leAt b 4 2 % 4) (nth 0 k.credits (leAt b 4 2 % 4) + leAt b 4 2 / 4 % 64) } ∧ taken s')) ∧
      (sound → leAt b 0 2 / 4096 = 1 → seq = k.rxSeq → Completes (.flitReceive l b) s (fun s' =>
        (wlink s' l).rxSeq = (k.rxSeq + 1) % 4096 ∧ (wlink s' l).nakSent = false)) ∧
      (sound → leAt b 0 2 / 4096 = 1 → seq ≠ k.rxSeq → Completes (.flitReceive l b) s naks)) ∧
    (∀ seq : BitVec 12, up → (∃ f ∈ k.replay, f.1 = seq.toNat) → replays (.nak l seq) seq.toNat) ∧
    (∀ seq : BitVec 12, (∀ f ∈ k.replay, f.1 ≠ seq.toNat) → Completes (.nak l seq) s (fun s' => s' = s)) ∧
    (∀ f fs, up → k.replay = f :: fs → replays (.replayTimeout l) f.1) ∧
    (k.replay = [] → Completes (.replayTimeout l) s (fun s' => s' = s)) ∧
    (∀ (lane : Fin 4) (n : Nat), up → (linkLanes s l).find? (fun n => kcLaneIndex s.kc n % 4 == lane.val) = some n → laneState s n = 3 →
      (punit s 8 n).state ≠ 3 → Completes (.westadLaneFailure l lane) s (fun s' =>
        (punit s' 8 n).probe.isSome = true ∧ (wlink s' l).state ≠ 3 ∧ laneState s' n = 1 ∧
          fldGet s' .laneWlink l 47 32 = min 65535 (fldGet s .laneWlink l 47 32 + 1))) ∧
    (k.state ≠ 1 → Completes (.westadLinkDown l) s (fun s' => wlink s' l = linkInit ∧ (dom s' (8 + l)).down = true)) ∧
    (k.state = 1 → Completes (.westadLinkDown l) s (fun s' => s' = s)) ∧
    (∀ (width : Nat) (peer : Fin 8), padsHeld s 4 = false → s.faults.quiet = false → linkLanes s l ≠ [] → (width = 1 ∨ width = 2 ∨ width = 4) →
      k.state ≠ 3 → Completes (.laneTrainingDone (.westad l width peer)) s (fun s' =>
        (wlink s' l).state = 3 ∧ (wlink s' l).width = width ∧ (wlink s' l).peer = peer.val ∧
          ∀ f ∈ k.replay, f ∈ (wlink s' l).replay)) ∧
    (∀ (m : Fin 8) (hops : Nat), s.faults.quiet = false → pairState s m = 2 → routeTo s m = some (hops, l.val) → (∀ c, c < 3 → nth 0 k.credits c = 0) →
      Completes (.messageResendTimeout m) s (fun s' =>
        (wpair s' m).unacked = (wpair s m).unacked ∧
        (wlink s' l).txq = k.txq ++ (wpair s m).unacked.flatMap (fun x =>
          let msg := sealMsg s m (x.2.1 / 256) (x.2.1 % 256) x.1 x.2.2
          fragments (x.2.1 / 256) (msg.length + 1) true msg)))

/-- R406 to R408: link states, acknowledgements and the keying of a pair; a mirrored staging, erasure or discard acts on this member's own
pool. -/
def Obligations.PairsAreKeyedAndMirrored : Prop :=
  ∀ (s : State) (m : Fin 8),
    let me := kcMember s.kc
    let p := wpair s m
    let member := m.val ∈ otherMembers s
    let refused := fun (s' : State) => (wpair s' m).state = 3 ∧ (auditFull s = false → s.audit.summaries = [] → ∃ r, s'.audit.tail = s.audit.tail ++ [r] ∧ r.kind = 0x15)
    let keyed := fun (s' : State) (initiator : Bool) (ss kx1 kx2 : Bytes) =>
      let d := kmac 256 ss (Config.pairInput kx1 kx2) 72 (ascii "WESTAD-PAIR")
      let q := wpair s' m
      q.state = 2 ∧ q.rxMseq = 0 ∧ q.txMseq = p.unacked.length ∧ (q.unacked.map (·.2)) = p.unacked.map (·.2) ∧
        (q.txKey = if initiator then slice d 0 32 else slice d 32 32) ∧ (q.rxKey = if initiator then slice d 32 32 else slice d 0 32) ∧
        (q.txSalt = if initiator then slice d 64 4 else slice d 68 4) ∧ (q.rxSalt = if initiator then slice d 68 4 else slice d 64 4)
    (∀ links : List (Fin 8 × Fin 8),
      let mine := (links.map (fun e => (e.1.val, e.2.val))).filter (fun e => e.1 == m.val)
      let old := s.westad.linkStates.filter (fun e => e.1 == m.val)
      (mine ≠ old → member → s.faults.quiet = false → Completes (.route m links) s (fun s' =>
        s'.westad.linkStates = s.westad.linkStates.filter (fun e => e.1 != m.val) ++ mine)) ∧
      ((mine = old ∨ ¬ member) → Completes (.route m links) s (fun s' => s' = s))) ∧
    (∀ c n, pairState s m = 2 → s.faults.quiet = false → Completes (.ack m c n) s (fun s' =>
      wpair s' m = { p with unacked := p.unacked.filter (fun x => decide (n < x.1)) })) ∧
    (∀ b : List Byte, member → s.faults.quiet = false →
      (m.val < me → b.length = kxHead + 2420 → Completes (.kx1 m b) s (fun s' =>
        if kxOk s m (b.take 1312) (b.drop kxHead) (kxDigest s m me (b.take kxHead)) then
          let x := Config.mlKemEncap 1 (slice b 1344 1568) (Config.trng (s.free + 1) 32)
          let body := identityPk s ++ Config.trng s.free 32 ++ x.1
          match (kxSign { s with free := s.free + 2 } (kx2Digest b body)).1 with
          | none => wpair s' m = p
          | some sig => keyed s' false x.2 b (body ++ sig)
        else refused s')) ∧
      (me < m.val → p.state = 1 → p.kx ≠ [] → b.length = kxHead + 2420 → Completes (.kx2 m b) s (fun s' =>
        if kxOk s m (b.take 1312) (b.drop kxHead) (kx2Digest p.kx (b.take kxHead)) then
          keyed s' true (Config.mlKemDecap 1 p.eph (slice b 1344 1568)) p.kx b
        else refused s')) ∧
      (m.val < me → b.length ≠ kxHead + 2420 → Completes (.kx1 m b) s refused) ∧
      (me < m.val → Completes (.kx1 m b) s (fun s' => s' = s)) ∧
      (m.val < me → Completes (.kx2 m b) s (fun s' => s' = s))) ∧
    (let draws := fun (i : Instr) => Completes i s (fun s' =>
        let e := Config.mlKemKeyGen 1 (Config.trng (s.free + 1) 64)
        let body := identityPk s ++ Config.trng s.free 32 ++ e.1
        match (kxSign { s with free := s.free + 2 } (kxDigest s me m body)).1 with
        | none => (wpair s' m).kx = p.kx ∨ (wpair s' m).kx = []
        | some sig => (wpair s' m).state = 1 ∧ (wpair s' m).kx = body ++ sig ∧ (wpair s' m).eph = e.2)
     (member → me < m.val → (p.state = 1 ∨ p.state = 3) → s.faults.quiet = false → draws (.keyingRetry m)) ∧
     (member → me < m.val → p.state = 2 → s.faults.quiet = false → (2 ^ 48 ≤ p.txMseq ∨ 2 ^ 48 ≤ p.rxMseq) → draws (.mseqRekey m)) ∧
     (p.state = 2 → p.txMseq < 2 ^ 48 → p.rxMseq < 2 ^ 48 → Completes (.mseqRekey m) s (fun s' => s' = s))) ∧
    (∀ (origin : Fin 8) (oseq : Nat), pairState s m = 2 → s.faults.quiet = false → s.ks.isSealed = false →
      let free := fun (slot : Nat) => ∀ y ∈ s.ks.pool, y.slot ≠ slot ∨ y.taken = true
      (∀ (slot : Fin 262144) (copies : List (List Byte)), copies ≠ [] → slot.val + copies.length ≤ slotMax → free slot →
        let x : Staged := {
          slot := slot, copies := copiesOfMsg copies, origin := origin, oseq := oseq, erase := false, bad := false, taken := false }
        Completes (.stage m origin oseq slot copies) s (fun s' =>
          if poolUsed s + copies.length ≤ poolMax then s'.ks.pool = s.ks.pool ++ [x] ∧ s'.ks.heldBack = s.ks.heldBack
          else s'.ks.pool = s.ks.pool ∧ s'.ks.heldBack = s.ks.heldBack ++ [x])) ∧
      (∀ slot : Fin 262144, (∀ y ∈ keysNow s, y.slot ≠ slot.val) → slot.val < slotMax → free slot → poolUsed s < poolMax →
        Completes (.erase m origin oseq slot) s (fun s' => ∃ x, s'.ks.pool = s.ks.pool ++ [x] ∧ x.slot = slot.val ∧ x.erase = true ∧
          x.origin = origin.val ∧ x.oseq = oseq)) ∧
      (s.ks.heldBack = [] → Completes (.discardMsg m origin oseq) s (fun s' =>
        s'.ks.pool = s.ks.pool.filter (fun y => y.taken || y.origin != origin.val))))

/-- R330, R409, R410: the messages of an agreement. A proposal is voted on once the member has drained; the proposer sends APPLY when every
vote is yes and ends the agreement at the first no; members apply and answer DONE, and the proposer applies last; a member that has voted
yes and hears nothing asks, and at the last enters the quiet state. -/
def Obligations.AgreementRuns : Prop :=
  ∀ (s : State) (m : Fin 8) (turn : Nat), pairState s m = 2 → s.faults.quiet = false → s.boot.warmDue = false → s.turns.waiting = [] →
    let me := kcMember s.kc
    let n := s.turns.num
    let sent := fun (s' : State) (dst mtype : Nat) (body : Bytes) => ∃ q, (wpair s' dst).unacked.getLast? = some (q, mtype, body)
    let b := leBytes 8 turn
    let applied := fun (s' : State) => s'.turns.num = n + 1 ∧ s'.westad.agree = none
    let stopped := fun (s' : State) => s'.turns.num = n ∧ s'.westad.agree = none ∧ s'.westad.lastOutcome = some (turn, 2)
    -- PROPOSE
    (∀ ksd exd,
      let votesNo := Completes (.propose m turn ksd exd) s (fun s' => (∃ why, sent s' m 2 (b ++ [0, why])) ∧ s'.turns.num = n)
      (turn ≠ n + 1 → votesNo) ∧
      (∀ a, s.westad.agree = some a → (a.proposer ≠ me ∨ me ≤ m.val) → votesNo) ∧
      (s.westad.agree = none → s.turns.commit = none → turn = n + 1 → (s.ks.isSealed = false ∨ s.ks.pool = []) →
        let ds := (if s.turns.p0.closed then s.turns.p0.deltas else []) ++ (if s.turns.p1.closed then s.turns.p1.deltas else [])
        let pool := if s.turns.p1.closed then s.ks.pool.map (fun y => { y with taken := true }) else s.ks.pool
        let yes := ksdNow { s with ks := { s.ks with pool := pool } } = ksd ∧ exdThen s ds = exd
        (oldInFlight s n = true → Completes (.propose m turn ksd exd) s (fun s' => ∃ a, s'.westad.agree = some a ∧ a.proposer = m.val ∧
          a.turn = turn ∧ a.ksd = ksd ∧ a.exd = exd ∧ a.deltas = ds ∧ a.votedYes = none)) ∧
        (oldInFlight s n = false → yes → Completes (.propose m turn ksd exd) s (fun s' => (∃ a, s'.westad.agree = some a ∧ a.proposer = m.val ∧
          a.turn = turn ∧ a.votedYes = some s.now) ∧ ∃ why, sent s' m 2 (b ++ [1, why]))) ∧
        (oldInFlight s n = false → ¬ yes → votesNo)) ∧
      (∀ c, s.westad.agree = none → s.turns.commit = some c → c.plane ≤ 1 → turn = n + 1 → m.val < me → Completes (.propose m turn ksd exd) s (fun s' =>
        s'.turns.commit = none ∧ (plane s' c.plane).last = 4))) ∧
    -- the proposer
    (∀ a c, s.westad.agree = some a → s.turns.commit = some c → c.plane ≤ 1 → a.proposer = me → a.turn = turn →
      let all := voters s a.deltas
      (a.applying = false →
        (∀ why, Completes (.vote m turn false why) s (fun s' => stopped s' ∧ s'.turns.commit = none ∧ (plane s' c.plane).last = 4 ∧
          ∀ v ∈ all, v ∈ otherMembers s → sent s' v 4 b)) ∧
        (∀ why, (∃ v ∈ all, v ≠ m.val ∧ v ∉ a.votes) → Completes (.vote m turn true why) s (fun s' =>
          ∃ a', s'.westad.agree = some a' ∧ a'.applying = false ∧ ∀ v, v ∈ a'.votes ↔ v = m.val ∨ v ∈ a.votes)) ∧
        (∀ why, (∀ v ∈ all, v = m.val ∨ v ∈ a.votes) → Completes (.vote m turn true why) s (fun s' =>
          (∃ a', s'.westad.agree = some a' ∧ a'.applying = true) ∧ (plane s' c.plane).phase = 4 ∧ ∀ v ∈ all, v ∈ otherMembers s → sent s' v 3 b))) ∧
      (a.applying = true →
        ((∃ v ∈ all, v ≠ m.val ∧ v ∉ a.dones) → Completes (.doneMsg m turn) s (fun s' => s'.turns.num = n ∧
          ∃ a', s'.westad.agree = some a' ∧ ∀ v, v ∈ a'.dones ↔ v = m.val ∨ v ∈ a.dones)) ∧
        ((∀ v ∈ all, v = m.val ∨ v ∈ a.dones) → Completes (.doneMsg m turn) s (fun s' => applied s' ∧ s'.turns.commit = none ∧
          (plane s' c.plane).last = 1)))) ∧
    -- a member
    (Completes (.query m turn) s (fun s' => ∃ o, sent s' m 7 (b ++ [byte o]) ∧ (turn ≤ n → o = 1) ∧
      (∀ t o', n < turn → s.westad.agree = none → s.westad.lastOutcome = some (t, o') → t = turn → o = o'))) ∧
    (∀ a t, s.westad.agree = some a → a.votedYes = some t → a.turn = turn → s.turns.commit = none →
      (a.proposer = m.val → Completes (.apply m turn) s (fun s' => applied s' ∧ (m.val ∈ otherMembers s' → sent s' m 5 b))) ∧
      (a.proposer = m.val → Completes (.abort m turn) s stopped) ∧
      (∀ q, a.queried = some q →
        Completes (.stateMsg m turn 1) s applied ∧ Completes (.stateMsg m turn 2) s stopped ∧
        Completes (.stateMsg m turn 0) s (fun s' => ∃ a', s'.westad.agree = some a' ∧ (∀ v, v ∈ a'.unknown ↔ v = m.val ∨ v ∈ a.unknown)) ∧
        (q + kcDrain s.kc ≤ s.now → reachable s ≠ [] → (∀ v ∈ reachable s, v ∈ a.unknown) → Completes .queryOutcomeTimeout s stopped)) ∧
      (a.queried = none → t + kcDrain s.kc ≤ s.now → Completes .voteOutcomeTimeout s (fun s' =>
        (∃ a', s'.westad.agree = some a' ∧ a'.queried = some s.now ∧ a'.unknown = []) ∧ ∀ v ∈ reachable s, sent s' v 6 b)) ∧
      (t + 10 ^ 9 ≤ s.now → Completes .outcomeUnknownTimeout s (fun s' => s'.faults.quiet = true ∧ s'.faults.cause = 0xB ∧ s'.westad.agree = none)))

/-! ### Supply, governor and power states (chapter 16) -/

/-- R416, R419, R420, R441: the mains is lost and returns; 20 ms without it begin power-fail, which ends in a warm boot where the mains has
been present for 5 ms, else in OFF; in WATCH its absence for 20 ms ends in OFF. -/
def Obligations.SupplyEvents : Prop :=
  ∀ (s : State),
    let x := s.supply
    let evt := fun (s' : State) (b : Nat) => fldGet s' .pwrEvt 0 b b = 1
    let off := fun (s' : State) => s'.supply.power = 0 ∧ s'.threads = [] ∧ s'.ks.slots = [] ∧ s'.mem = [] ∧ s'.pins.ready = false ∧
      (∀ k, tget 0 s'.fuses.wear k = tget 0 s.fuses.wear k) ∧ s'.fuses.lcs = s.fuses.lcs
    (x.power = 1 ∨ x.power = 2 → x.mains = true → Completes .mainsLoss s (fun s' =>
      s'.supply.mains = false ∧ s'.supply.mainsAt = s.tally ∧ evt s' 0 ∧ s'.supply.pf = (if x.pf = 0 then 1 else x.pf) ∧
        s'.pins.ready = s.pins.ready ∧ s'.supply.charging = false)) ∧
    (x.power = 3 → x.mains = true → Completes .mainsLoss s (fun s' => s'.supply = { x with mains := false, mainsAt := s.tally })) ∧
    (x.power ≠ 0 → x.mains = false → Completes .mainsReturn s (fun s' =>
      s'.supply.mains = true ∧ s'.supply.mainsAt = s.tally ∧ 85 ≤ s'.supply.vin ∧ s'.supply.vin ≤ 265 ∧
        (x.pf = 1 → s'.supply.pf = 0 ∧ (x.power ≠ 3 → evt s' 1)) ∧ (x.pf ≠ 1 → s'.supply.pf = x.pf))) ∧
    (x.power = 1 → x.pf = 1 → x.mainsAt + tallyMs 20 ≤ s.tally →
      (9 ≤ s.boot.step → Completes .holdUpExpiry s (fun s' =>
        s'.supply.pf = 2 ∧ s'.supply.pfStart = s.now ∧ s'.pins.ready = false ∧ evt s' 2 ∧ (∀ k, k < 16 → (kring s' k).ceil ≤ 600) ∧
          (∀ g, g < 8 → nth false s'.pins.holdN g = false) ∧
          (auditFull s = false → s.audit.summaries = [] → ∃ r, s'.audit.tail = s.audit.tail ++ [r] ∧ r.kind = 0x11))) ∧
      (s.boot.step < 9 → Completes .holdUpExpiry s off)) ∧
    (s.tally < x.mainsAt + tallyMs 20 → Completes .holdUpExpiry s (fun s' => s' = s)) ∧
    (x.pf = 2 → x.pfStart + 10 ^ 7 ≤ s.now → tabWf cmdqInit none s.intake.cmdq = true → tabWf thrInit none s.threads = true →
      Completes .powerFailReleaseLimit s (fun s' => ∀ c ∈ allCmds s', x.pfStart < c.arrival)) ∧
    (let ends := fun (i : Instr) =>
        (x.mains = true → x.mainsAt + tallyMs 5 ≤ s.tally → s.faults.quietDue = none → s.fuses.lcs ≠ 0xF → Completes i s (fun s' =>
          s'.supply.pf = 0 ∧ s'.supply.power = 1 ∧ s'.boot.kind = 3 ∧ s'.now = 0 ∧ s'.tally = s.tally)) ∧
        ((x.mains = false ∨ s.tally < x.mainsAt + tallyMs 5) → Completes i s off)
     (x.pf = 2 → ends (.pfdone 0)) ∧ (x.pf = 2 → x.pfStart + 200 * 10 ^ 6 ≤ s.now → ends .powerFailEnd)) ∧
    (∀ p : Fin 256, p ≠ 0 → Completes (.pfdone p) s (fun s' => s' = s)) ∧
    (x.pf ≠ 2 → Completes .powerFailEnd s (fun s' => s'.supply = s.supply)) ∧
    (x.power = 3 → x.mains = false → x.mainsAt + tallyMs 20 ≤ s.tally → Completes .watchMainsAbsent s off) ∧
    ((x.power ≠ 3 ∨ x.mains = true) → Completes .watchMainsAbsent s (fun s' => s' = s))

/-- R423 to R434: TRACK's input power; a keyring's rail target under its ceilings; wear, its grants and its fuses; the end of a learning
period; REST and DOZE. -/
def Obligations.GovernorRuns : Prop :=
  ∀ (s : State),
    (∀ mean, fldGet s .pwrFlat 0 63 60 = 1 → flatActive s = true → 0 < fldGet s .pwrFlat 0 47 32 →
      let w := fldGet s .pwrFlat 0 47 32
      Completes (.flatWindowBoundary mean) s (fun s' =>
        let x := s'.supply
        40 ≤ x.buf ∧ x.buf ≤ 100 ∧
          (¬ (x.shed = true ∧ ∀ i, i < 16 → (kring s i).rail = 550) → 38 ≤ x.pin ∧ x.pin ≤ 280 ∧
            (38 < x.pin → x.pin < 280 → x.pin % 8 = 0 ∧ ((mean * w : Nat) : Int) + (70 - x.buf) * 1000 ≤ x.pin * w ∧
              x.pin * w < ((mean * w : Nat) : Int) + (70 - x.buf) * 1000 + 8 * w)) ∧
          ((x.shed = true ∧ ∀ i, i < 16 → (kring s i).rail = 550) → x.pin = mean ∧ fldGet s' .pwrEvt 0 7 7 = 1))) ∧
    (∀ (k : Fin 16) demand temp ro, s.supply.power = 1 ∨ s.supply.power = 2 →
      let x := kring s k
      let y := { x with spent := x.spent + wearRate x.target temp, temp := temp, exhausted := x.exhausted || decide (wearLife * wearHour ≤ x.spent + wearRate x.target temp) }
      let t := if x.learn then 800 else if x.doze then max (kcVmin s.kc k) 600 else if 850 ≤ demand then x.target + 10
        else if demand ≤ 500 then x.target - 10 else x.target
      let t := min (max (kcVmin s.kc k) (min (min t (kcVmax s.kc k)) (wearCeil y))) (min (thermalCeil temp) (shedCeil s))
      Completes (.governorTick k demand temp ro) s (fun s' =>
        let z := kring s' k
        z.rail = x.target ∧ z.temp = temp ∧ z.speed = ro ∧ z.spent = y.spent ∧ z.exhausted = y.exhausted ∧ 550 ≤ z.target ∧
          (t % 5 = 0 → z.target = max 550 t) ∧
          (x.hold = false → z.hold = (decide (105 ≤ temp) && x.target == 550)) ∧ (x.hold = true → z.hold = decide (100 < temp)) ∧
          (thermalCeil temp < 950 → x.thermFlag = false → fldGet s' .pwrEvt 0 5 5 = 1) ∧
          (0 < balance x → balance y ≤ 0 → fldGet s' .pwrEvt 0 6 6 = 1))) ∧
    (s.supply.power ≠ 0 → Completes .ledgerRecord s (fun s' => ∀ k, k < 16 →
      balance (kring s' k) = min (balance (kring s k) + wearHour) (2000 * wearHour) ∧ (kring s' k).spent = (kring s k).spent)) ∧
    (∀ k : Fin 16,
      let n := tget 0 s.fuses.wear k
      (s.supply.mains = true → 40 < bufNow s → n < 4096 → 64 * (n + 1) ≤ spentHours (kring s k) → Completes (.wearFuseBlow k) s (fun s' =>
        tget 0 s'.fuses.wear k = n + 1)) ∧
      ((s.supply.mains = false ∨ bufNow s ≤ 40 ∨ spentHours (kring s k) < 64 * (n + 1)) → Completes (.wearFuseBlow k) s (fun s' => s' = s)) ∧
      ((kring s k).learn = true → 600000 ≤ (kring s k).samples → Completes (.learningEnd k) s (fun s' =>
        (kring s' k).learn = false ∧ (kring s' k).history.length = 128)) ∧
      ((kring s k).samples < 600000 → Completes (.learningEnd k) s (fun s' => s' = s)) ∧
      (running s = true → (kring s k).doze = false → (∀ c, c < 8 → (cyl s (8 * k.val + c)).rest = true) →
        (∀ e, e < 9 → (eng s (9 * k.val + e)).queue = []) → (∀ c ∈ krChans k, (chan s c).state ≠ 1) → (kring s k).walks = 0 →
        (∀ i, i < 128 → (thr s (128 * k.val + i)).arch.ops = []) →
        Completes (.dozeEntry k) s (fun s' => (kring s' k).doze = true ∧ (kring s' k).gated = true)) ∧
      ((∃ c, c ∈ krChans k ∧ (chan s c).state = 1) → Completes (.dozeEntry k) s (fun s' => s' = s)) ∧
      ((kring s k).doze = true → Completes (.dozeExit k) s (fun s' => (kring s' k).doze = false ∧ (kring s' k).gated = false))) ∧
    (∀ c : Fin 128,
      (running s = true → (∀ i, i < 16 → restful (thr s (16 * c.val + i)) = true) → Completes (.restEntry c) s (fun s' => (cyl s' c).rest = true)) ∧
      ((∃ i, i < 16 ∧ restful (thr s (16 * c.val + i)) = false) → Completes (.restEntry c) s (fun s' => s' = s)) ∧
      Completes (.restExit c) s (fun s' => (cyl s' c).rest = false)) ∧
    (∀ (p : Fin 256) (v : Word),
      (p ≠ 0 → Completes (.cylIdleT p v) s (fun s' => s' = s)) ∧
      (p = 0 → Completes (.cylIdleT p v) s (fun s' =>
        fldGet s' .cylIdleT 0 31 16 = (if 10 ≤ fld v 31 16 ∧ fld v 31 16 ≤ 60000 then fld v 31 16 else fldGet s .cylIdleT 0 31 16) ∧
        fldGet s' .cylIdleT 0 15 0 = (if 1 ≤ fld v 15 0 ∧ fld v 15 0 ≤ 10000 then fld v 15 0 else fldGet s .cylIdleT 0 15 0))))

/-- R435 to R440, R444: a sleep request is refused for its reason, declined for a wake of the same instant, or decided; the drain ends in
WATCH once every thread is frozen and every job has ended; a wake event of an enabled source is latched; the wake bridges the timebase; and
pads stay held until they are released. -/
def Obligations.WatchSleepsAndWakes : Prop :=
  ∀ (s : State) (p : Fin 256) (v : Word),
    let x := s.supply
    let wen := fld v 19 16
    let go := fld v 63 60 = 1
    (p ≠ 0 → Completes (.pwrSleep p v) s (fun s' => s' = s) ∧ Completes (.keepPadrel p v) s (fun s' => s' = s)) ∧
    (Completes (.pwrSleep 0 v) s (fun s' => fldGet s' .pwrSleep 0 19 16 = wen)) ∧
    (x.power = 1 → go →
      let reason := if kcGroup s.kc ≠ 0 then 1 else if wen = 0 then 2 else if s.turns.commit.isSome ∨ s.westad.agree.isSome then 3
        else if s.faults.quiet ∨ x.pf = 2 then 4 else 0
      let early := ∃ c t, x.earlyWake = some (c, t) ∧ t = s.now ∧ (c = 5 ∨ (1 ≤ c ∧ c ≤ 4 ∧ wen.testBit (c - 1) = true))
      (reason ≠ 0 → Completes (.pwrSleep 0 v) s (fun s' => fldGet s' .pwrSleep 0 3 0 = 3 ∧ fldGet s' .pwrSleep 0 11 8 = reason ∧ s'.supply = x)) ∧
      (reason = 0 → early → Completes (.pwrSleep 0 v) s (fun s' => fldGet s' .pwrSleep 0 3 0 = 2 ∧ s'.supply = x ∧ fldGet s' .pwrEvt 0 3 3 = 1)) ∧
      (reason = 0 → x.earlyWake = none → Completes (.pwrSleep 0 v) s (fun s' => fldGet s' .pwrSleep 0 3 0 = 1 ∧ s'.supply.power = 2 ∧
        s'.supply.entered = s.now ∧ s'.pins.ready = false ∧ ∀ g, g < 8 → nth false s'.pins.holdN g = false))) ∧
    (x.power = 2 → allCmds s ≠ [] → s.now < x.entered + kcDrain s.kc → Completes .watchDrainEnd s (fun s' => s' = s)) ∧
    (x.power = 2 → allCmds s = [] → (s.intake.cmdq.all (fun q => q.2.items == [])) = true →
      (∀ kv ∈ s.threads, kv.2.st = .frozen ∧ kv.2.freeze = some .watch ∧ kv.2.sbuf = []) → (∀ kv ∈ s.engs, kv.2.queue = [] ∧ kv.2.running = []) →
      Completes .watchDrainEnd s (fun s' =>
        s'.supply.power = 3 ∧ s'.supply.stopTb = s.now ∧ s'.supply.stopTally = s.tally ∧ s'.supply.held = [0, 1, 2, 3] ∧
          (∀ d ∈ [2, 3, 4, 5, 6, 7, 8, 9, 10, 11, 12, 13, 14, 15, 16], (dom s' d).down = true) ∧ s'.mem = s.mem)) ∧
    (2 ≤ x.power →
      let latches := fun (i : Instr) (c : Nat) => Completes i s (fun s' => s'.supply.wakeLatched = some (x.wakeLatched.getD c))
      (wakeEnabled s 4 = true → latches .wakeN 4) ∧
      (wakeEnabled s 4 = false → Completes .wakeN s (fun s' => s' = s)) ∧
      (wakeEnabled s 1 = true → fldGet s .pwrWake 0 47 0 ≠ 0 → tallyNow s = fldGet s .pwrWake 0 47 0 → latches .wakeAlarm 1)) ∧
    (fldGet s .pwrWake 0 47 0 = 0 → Completes .wakeAlarm s (fun s' => s' = s)) ∧
    (∀ c, x.power = 3 → x.wakeLatched = some c → c < 16 → s.faults.quietDue = none → s.turns.waiting = [] → Completes .watchWake s (fun s' =>
      let ticks := s.tally / tickUnits - x.stopTally / tickUnits
      s'.supply.power = 1 ∧ s'.supply.wakeLatched = none ∧ s'.now = x.stopTb + ticks * tickUnits / 64 ∧ fldGet s' .tbStatus 0 0 0 = 1 ∧
        (0 < s.keeper.rcTicks → fldGet s' .tbStatus 0 1 1 = 1) ∧ fldGet s' .pwrSleep 0 15 12 = c ∧ fldGet s' .pwrSleep 0 3 0 = 4 ∧
        fldGet s' .pwrEvt 0 4 4 = 1 ∧
        (s'.faults.quiet = false → ∀ t, (thr s t).part ≠ nobody → (thr s t).freeze = some .watch → (thr s' t).freeze = none))) ∧
    (x.power ≠ 3 → s.faults.quietDue = none → Completes .watchWake s (fun s' => s' = s)) ∧
    (x.power = 1 → Completes (.keepPadrel 0 v) s (fun s' => s'.supply.held = x.held.filter (fun i => !fbit v i)))

/-! ### The timebase and the Keeper (chapters 16 and 17) -/

/-- R389, R442, R445, R523: TB_SET; a Sync that steps the timebase, counts towards LOCK and raises it; the loss of LOCK; a PPS pulse. R447,
R448: the Keeper's clock goes to the crystal and back to RC; its watchdog and its self-test bring the quiet state. -/
def Obligations.TimebaseAndKeeper : Prop :=
  (∀ (s : State),
    let bit := fun (s' : State) (b : Nat) => fldGet s' .tbStatus 0 b b
    (∀ v : Word, bit s 2 = 0 → s.now ≤ v.toNat → Completes (.tbSet 0 v) s (fun s' => s' = { s with now := v.toNat })) ∧
    (∀ v : Word, (bit s 2 = 1 ∨ v.toNat < s.now) → Completes (.tbSet 0 v) s (fun s' => s' = s)) ∧
    (∀ (p : Fin 256) (v : Word), p ≠ 0 → Completes (.tbSet p v) s (fun s' => s' = s)) ∧
    (∀ (port : Fin 2) (dom : Byte) (m : PtpMessage),
      fldGet s .tbPtp 0 3 0 = port.val → fldGet s .tbPtp 0 15 8 = dom.toNat → s.supply.power = 1 ∨ s.supply.power = 2 →
      domOut s (2 + 2 * port.val) = false → s.ptpGood ≤ 16 →
      Completes (.ptpMessage port dom m) s (fun s' =>
        (10 ^ 6 < m.offsetNs → s'.now = s.now + m.offsetNs.toNat ∧ bit s' 3 = 1 ∧ s'.ptpGood = 0 ∧ bit s' 2 = bit s 2) ∧
        (m.offsetNs ≤ 10 ^ 6 → s'.now = s.now ∧ bit s' 3 = bit s 3) ∧
        (m.offsetNs.natAbs < 1000 → s'.ptpGood = min 16 (s.ptpGood + 1) ∧
          (15 ≤ s.ptpGood → bit s 2 = 0 → bit s' 2 = 1 ∧ bit s' 1 = 0 ∧ bit s' 0 = 0 ∧ fldGet s' .tbStatus 0 63 32 = 0) ∧
          (s.ptpGood < 15 → s'.regs = s.regs)) ∧
        (1000 ≤ m.offsetNs.natAbs → s'.ptpGood = 0))) ∧
    (∀ (port : Fin 2) (dom : Byte) (m : PtpMessage), fldGet s .tbPtp 0 3 0 ≠ port.val ∨ fldGet s .tbPtp 0 15 8 ≠ dom.toNat →
      Completes (.ptpMessage port dom m) s (fun s' => s' = s)) ∧
    Completes .ptpLockLoss s (fun s' => bit s' 2 = 0 ∧ s'.ptpGood = 0 ∧ s'.now = s.now) ∧
    (bit s 2 = 1 → s.now % 10 ^ 9 = 0 → (∃ i, i < 64 ∧ kcMux s.kc i = 1) → Completes .ppsPulse s (fun s' =>
      s'.pins.ppsUntil = s.now + 10 ^ 7 ∧ s'.out = s.out ++ [.pps])) ∧
    ((bit s 2 = 0 ∨ s.now % 10 ^ 9 ≠ 0 ∨ ∀ i, i < 64 → kcMux s.kc i ≠ 1) → Completes .ppsPulse s (fun s' => s' = s))) ∧
  (∀ (s : State), s.supply.power ≠ 0 →
    let evt := fun (s' : State) (b : Nat) => fldGet s' .keepTamp 0 b b = 1
    let records := fun (s' : State) (n : Nat) => auditFull s = false → s.audit.summaries = [] →
      ∃ r, s'.audit.tail = s.audit.tail ++ [r] ∧ r.kind = 0x16 ∧ r.source = 3 ∧ r.body = padTo 64 [byte n]
    let quiet := fun (s' : State) => s'.faults.quiet = true ∧ evt s' 4 ∧ s'.pins.ready = false ∧
      (s.faults.quiet = false → s'.faults.cause = 2 ∧ s'.faults.cnt = 0) ∧
      (s.faults.quiet = true → s'.faults.cause = s.faults.cause ∧ s'.faults.cnt = satAdd 0xFF s.faults.cnt 1)
    let pinned := s.faults.quiet = true → s.pins.ready = false
    (s.keeper.crystal = false → Completes .crystalQualified s (fun s' =>
      s'.keeper.crystal = true ∧ s'.keeper.crystalTried = true ∧ (s.keeper.crystalTried = true → records s' 2) ∧
        (s.keeper.crystalTried = false → s'.audit = s.audit))) ∧
    (s.keeper.crystal = true → Completes .crystalQualified s (fun s' => s' = s)) ∧
    (s.keeper.crystal = true → Completes .crystalLost s (fun s' => s'.keeper.crystal = false ∧ evt s' 5 ∧ records s' 1)) ∧
    (s.keeper.crystal = false → Completes .crystalLost s (fun s' => s' = s)) ∧
    (s.keeper.crystal = false → s.keeper.crystalTried = false → tallyMs 2000 ≤ s.tally → Completes .crystalStartTimeout s (fun s' =>
      s'.keeper.crystal = false ∧ evt s' 5 ∧ records s' 1)) ∧
    (s.tally < tallyMs 2000 → Completes .crystalStartTimeout s (fun s' => s' = s)) ∧
    (s.supply.power = 1 → pinned → Completes .keeperWatchdogExpiry s quiet) ∧
    (s.supply.power = 1 → pinned → Completes (.keeperSelfTest false) s quiet) ∧
    Completes (.keeperSelfTest true) s (fun s' => s' = s))

/-- R449 to R453: a breach (the mesh, or light) and an environmental event (a temperature, or a rail): latched and recorded; where the
responses are armed, the set is zeroized, a breach also loses the root and blows the TAMPER fuse, and the quiet state is entered. -/
def Obligations.TamperResponses : Prop :=
  ∀ (s : State),
    let x := s.keeper
    let evt := fun (s' : State) (b : Nat) => fldGet s' .keepTamp 0 b b = 1
    let recorded := fun (s' : State) => auditFull s' = false → ∃ r, s'.audit.tail.getLast? = some r ∧ r.kind = 0x12 ∧ r.source = 3
    let env := fun (s' : State) => s'.ks.slots = [] ∧ s'.ks.pool = [] ∧ s'.guard.counters = [] ∧ s'.intake.sessions = [] ∧ s'.dramLost = true ∧
      s'.faults.quiet = true ∧ s'.turns.commit = none ∧
      (s.req.attest0 = 1 → s'.req.attest0 = 4) ∧ (s.req.attest1 = 1 → s'.req.attest1 = 4) ∧
      (s.audit.sealing.isSome = true → s'.audit.sealing = none ∧ s'.audit.result = 3)
    let breach := fun (bit : Nat) (s' : State) => evt s' bit ∧ recorded s' ∧
      (x.armed = true → env s' ∧ s'.keeper.root = none ∧ s'.keeper.identity = false ∧ s'.keeper.breach = true ∧ s'.fuses.tamper = true ∧
        (s.faults.quiet = false → s'.faults.cause = 4)) ∧
      (x.armed = false → s'.ks = s.ks ∧ s'.keeper.root = x.root ∧ s'.fuses.tamper = s.fuses.tamper ∧ s'.faults.quiet = s.faults.quiet)
    let environmental := fun (bit : Nat) (s' : State) => evt s' bit ∧ recorded s' ∧ s'.keeper.root = x.root ∧ s'.fuses = s.fuses ∧
      (x.armed = true → env s' ∧ (s.faults.quiet = false → s'.faults.cause = 3)) ∧
      (x.armed = false → s'.ks = s.ks ∧ s'.faults.quiet = s.faults.quiet)
    (∀ g : Fin 512, s.supply.power ≠ 0 → Completes (.meshContinuityFault g) s (fun s' => breach 0 s' ∧ s'.keeper.meshOk = false ∧ s'.fuses.meshGone = true)) ∧
    (∀ g : Fin 512, s.supply.power = 0 → Completes (.meshContinuityFault g) s (fun s' => s' = { s with fuses := { s.fuses with meshGone := true } })) ∧
    (s.supply.power ≠ 0 → Completes (.meshPatternCheck false) s (fun s' => breach 0 s' ∧ s'.keeper.meshOk = false)) ∧
    (s.supply.power ≠ 0 → Completes (.meshPatternCheck true) s (fun s' => s' = { s with keeper := { x with meshOk := true } })) ∧
    (∀ d : Fin 8, s.supply.power ≠ 0 → Completes (.lightDetected d) s (fun s' => breach 1 s' ∧ s'.keeper.dark = false)) ∧
    (∀ (n : Fin 4) (c : Int), s.supply.power ≠ 0 →
      let ok := if s.fuses.grade = 1 then (-40 ≤ c ∧ c ≤ 100) else (-20 ≤ c ∧ c ≤ 95)
      let f := min 255 (c + 64).toNat
      Completes (.temperatureSample n c) s (fun s' =>
        s'.keeper.tmax = (if x.sampled then max x.tmax f else f) ∧ s'.keeper.tmin = (if x.sampled then min x.tmin f else f) ∧
          (ok → n.val ∉ s'.keeper.tempBad ∧ s'.ks = s.ks ∧ s'.faults = s.faults ∧ s'.audit = s.audit) ∧
          (¬ ok → n.val ∈ s'.keeper.tempBad ∧ environmental 2 s'))) ∧
    (∀ r : Fin 24, s.supply.power ≠ 0 → ¬ (s.supply.power = 3 ∧ r.val < 16) → Completes (.railGlitch r) s (fun s' =>
      environmental 3 s' ∧ s'.keeper.railsOk = false ∧ fldGet s' .keepTamp 0 63 48 = satAdd 0xFFFF (fldGet s .keepTamp 0 63 48) 1)) ∧
    (∀ r : Fin 24, s.supply.power = 3 → r.val < 16 → Completes (.railGlitch r) s (fun s' => s' = s))

/-! ### The life cycle, seals, attestation and debug (chapter 17) -/

/-- R7, R460 to R462: what a life-cycle request answers (SIGNATURE, TRANSITION, NONCE, XLATE, UNSEALED), and what an accepted one blows;
RETURNED and SCRAPPED end in a warm boot without a root. A partition other than 0 writes LC_REQ without effect. -/
def Obligations.LifeCycleRequests : Prop :=
  ∀ (s : State) (p : Fin 256) (va : BitVec 56), s.faults.quietDue = none →
    let rows := fun (p : Fin 256) (c : Instr) (target : Nat) => c = .lcToCut p va ∧ target = 3 ∨ c = .lcToKeyed p va ∧ target = 5 ∨
      c = .lcToLocked p va ∧ target = 7 ∨ c = .lcToReturned p va ∧ target = 9 ∨ c = .lcToScrapped p va ∧ target = 0xF
    (p ≠ 0 → ∀ c target, rows p c target → Completes c s (fun s' => s' = s)) ∧
    (accOk (unitAccess s 0 va.toNat (2 * lcBlockLen) 2) = none → ∀ c target, rows 0 c target → Completes c s (fun s' =>
      s'.req.lcResult = 6 ∧ s'.req.lcVa = va ∧ s'.fuses = s.fuses)) ∧
    (∀ ps, accOk (unitAccess s 0 va.toNat (2 * lcBlockLen) 2) = some ps →
      let b := readBytes s ps
      let t := leAt b 4 1
      let refused := fun (s' : State) (r : Nat) => s'.req.lcResult = r ∧ s'.req.lcTarget = t % 16 ∧ s'.fuses = s.fuses ∧ s'.mem = s.mem ∧
        s'.keeper = s.keeper ∧ (auditFull s = false → s.audit.summaries = [] →
          ∃ x, s'.audit.tail = s.audit.tail ++ [x] ∧ x.kind = 9 ∧ x.body = padTo 64 [byte t, byte r])
      ∀ c target, rows 0 c target →
        (t = target → lcForm s b = false → Completes c s (fun s' => refused s' 3)) ∧
        (t = target → lcForm s b = true → (s.fuses.lcsNext ≠ s.fuses.lcs ∨ lcSigner s t = none) → Completes c s (fun s' => refused s' 4)) ∧
        (∀ d, t = target → lcForm s b = true → s.fuses.lcsNext = s.fuses.lcs → lcSigner s t = some d →
          Completes c s (fun s' =>
            if sha256 (slice b 80 1312) ≠ d ∨ Config.mlDsaVerify 0 (slice b 80 1312) (ascii "EVG-LC") (sha256 (b.take 1392)) (slice b 1392 2420) = false then refused s' 3
            else if w64 (leAt b 8 8) ≠ s.boot.lcNonce ∨ devId s ≠ some (slice b 16 32) then refused s' 5
            else if (s.fuses.lcs = 5 ∨ s.fuses.lcs = 7) ∧ (t = 9 ∨ t = 0xF) ∧ tailSealed s = false then refused s' 7
            else if (s.fuses.lcs = 5 ∨ s.fuses.lcs = 7) ∧ (t = 9 ∨ t = 0xF) ∧ sealFits s = false then refused s' 6
            else auditFull s = false →
              (t = 3 → s'.fuses.lcsNext = 3 ∧ s'.fuses.lcs = s.fuses.lcs ∧ s'.fuses.fuseShare.isSome = true ∧ s'.fuses.meshHelper = true ∧ s'.req.lcResult = 2) ∧
              (t = 5 → s'.fuses = { s.fuses with lcsNext := 5, owner := some (slice b 48 32) } ∧ s'.req.lcResult = 2) ∧
              (t = 7 → s'.fuses = { s.fuses with lcsNext := 7 } ∧ s'.req.lcResult = 2) ∧
              (t = 9 ∨ t = 0xF → (s.fuses.tamper = false → s'.fuses.lcs = t) ∧ s'.fuses.meshHelper = false ∧ s'.keeper.root = none ∧
                s'.keeper.identity = false ∧ s'.boot.kind = 3 ∧ s'.now = 0))) ∧
        (t ≠ target → lcTargets.contains t = true → Completes c s (fun s' => s' = s)))

/-- R466, R468, R471: a seal begins and ends, the FINAL seal, and attestation reports, with the states in which each is refused. -/
def Obligations.SealsAndReports : Prop :=
  ∀ (s : State) (va : BitVec 56),
    let n := s.audit.tail.length
    let refused := fun (s' : State) => s'.audit = { s.audit with result := 4 } ∧ s'.fuses = s.fuses ∧ fldGet s' .keepAseal 0 55 0 = va.toNat
    let began := fun (s' : State) (final : Bool) => ∃ ps b, s'.audit.sealing = some (n, final, ps, s.audit.tail.flatMap recBytes ++ b) ∧
      b.take 4 = ascii "ASEL" ∧ leAt b 16 8 = (s.audit.sealNo + 1) % 2 ^ 64 ∧ s'.audit.tail = s.audit.tail ∧ s'.mem = s.mem
    let fits := va.toNat % 128 = 0 ∧ (accOk (unitAccess s 0 va.toNat (2 * (128 * n + trailerLen)) 3)).isSome = true
    let closing := s.supply.pf = 2 ∧ (s.fuses.lcs = 5 ∨ s.fuses.lcs = 7) ∧ s.fuses.epoch < 16384
    (∀ p : Fin 256, p ≠ 0 → Completes (.auditSeal p va) s (fun s' => s' = s) ∧ Completes (.finalSeal p va) s (fun s' => s' = s)) ∧
    (s.audit.sealing.isSome = true ∨ s.audit.finalMade = true → Completes (.auditSeal 0 va) s refused ∧ Completes (.finalSeal 0 va) s refused) ∧
    (¬ closing → Completes (.finalSeal 0 va) s refused) ∧
    (s.audit.sealing = none → s.audit.finalMade = false →
      (fits → Completes (.auditSeal 0 va) s (fun s' => began s' false ∧ s'.fuses = s.fuses)) ∧
      ((va.toNat % 128 ≠ 0 ∨ (accOk (unitAccess s 0 va.toNat (2 * (128 * n + trailerLen)) 3)).isSome = false) →
        Completes (.auditSeal 0 va) s (fun s' => s'.audit = { s.audit with result := 2 } ∧ s'.mem = s.mem)) ∧
      (closing → fits → Completes (.finalSeal 0 va) s (fun s' => s'.fuses.epoch = s.fuses.epoch + 1 ∧ s'.audit.sealing.isSome = true ∧
        s'.audit.tail = s.audit.tail ∧ (16384 ≤ s.fuses.epoch + 1 → s'.fuses.lcsNext = 0xF)))) ∧
    (s.audit.sealing = none → Completes .sealDone s (fun s' => s' = s)) ∧
    (∀ m final ps b, s.audit.sealing = some (m, final, ps, b) → s.audit.summaries = [] → m ≤ n → n ≤ 16384 → auditHeld s = 0 → 0 < m →
      Completes .sealDone s (fun s' => ∃ r, s'.audit.tail = s.audit.tail.drop m ++ [r] ∧ r.kind = 0x13 ∧
        r.body = padTo 64 (leBytes 8 (s.audit.sealNo + 1) ++ leBytes 8 (leAt b (128 * m + 32) 8) ++ [byte (b2n final)]) ∧
        s'.audit.sealing = none ∧ s'.audit.result = 1 ∧ s'.audit.sealNo = s.audit.sealNo + 1 ∧
        s'.audit.finalMade = (s.audit.finalMade || final) ∧ s'.mem = (storeBytes s ps b).mem)) ∧
    (∀ p : Fin 256, 1 < p.val ∨ attestStatus s p = 1 → Completes (.keepAttest p va) s (fun s' => s' = s)) ∧
    (∀ p : Fin 256, p.val ≤ 1 → attestStatus s p ≠ 1 → s.keeper.identity = false → Completes (.keepAttest p va) s (fun s' => attestStatus s' p = 5)) ∧
    (∀ p : Fin 256, p.val ≤ 1 → attestStatus s p ≠ 1 → s.keeper.identity = true →
      (accOk (unitAccess s p va.toNat (2 * 2780) 3) = none → Completes (.keepAttest p va) s (fun s' => attestStatus s' p = 3 ∧ s'.mem = s.mem)) ∧
      (∀ ws rs, accOk (unitAccess s p va.toNat (2 * 2780) 3) = some ws → accOk (unitAccess s p va.toNat (2 * 2780) 2) = some rs →
        Completes (.keepAttest p va) s (fun s' => attestStatus s' p = 1 ∧ s'.mem = s.mem ∧
          s'.req.attestPieces = s.req.attestPieces ++ [(p.val, ws, slice (readBytes s rs) 16 32)]))) ∧
    (s.req.attestPieces = [] → Completes .attestDone s (fun s' => s' = s)) ∧
    (∀ p ps nonce rest, s.req.attestPieces = (p, ps, nonce) :: rest → p ≤ 1 → Completes .attestDone s (fun s' =>
      attestStatus s' p = 2 ∧ s'.req.attestPieces = rest ∧ ∃ sig : Bytes, s'.mem = (storeBytes s ps (reportHead s nonce ++ sig)).mem))

/-- R412, R413, R458, R459: debug sessions, what they reach, and their end; SMBus and the UART. -/
def Obligations.DebugAndSideDoors : Prop :=
  ∀ (s : State),
    let d := s.dbg
    let open? := s.supply.power ≠ 0 ∧ challengeStates.contains s.fuses.lcs = true
    (open? → Completes .dbgchal s (fun s' => s'.dbg.openPart = d.openPart ∧ ∃ nonce : Bytes,
      s'.dbg.challenge = some (sha256 (leBytes 8 (lcIdNat s) ++ debugDevice s ++ [byte d.chosen] ++ nonce)))) ∧
    (¬ open? → Completes .dbgchal s (fun s' => s' = s) ∧ ∀ key sig, s.threads = [] → Completes (.dbgrsp key sig) s (fun s' => s' = s)) ∧
    (∀ c key sig, open? → d.challenge = some c → Completes (.dbgrsp key sig) s (fun s' =>
      if sha256 key = debugSigner s ∧ Config.mlDsaVerify 0 key (ascii "EVG-DEBUG") c sig = true ∧ (s.fuses.lcs ≠ 5 ∨ d.chosen ≠ 0) then
        s'.dbg.openPart = some d.chosen ∧ s'.dbg.challenge = none ∧ (auditFull s' = false → ∃ r, s'.audit.tail.getLast? = some r ∧ r.kind = 0x14)
      else s'.dbg.openPart = none ∧ s'.dbg.challenge.isSome = true)) ∧
    (∀ (a : DebugAccess) , debugPart s = none → (∀ p, a ≠ .choose p) → Completes (.dbgport a) s (fun s' => s' = s)) ∧
    (∀ p, s.supply.power ≠ 0 → s.fuses.lcs ≠ 7 → s.fuses.lcs ≠ 0xF → Completes (.dbgport (.choose p)) s (fun s' => s' = { s with dbg := { d with chosen := p } })) ∧
    (∀ (t : Fin 2048) r, debugThr s t = true → Completes (.dbgport (.readG t r)) s (fun s' => s' = { s with dbg := { d with data := greg (thr s t).arch r } })) ∧
    (∀ (t : Fin 2048) b, debugThr s t = true → Completes (.dbgport (.readB t b)) s (fun s' => s' = { s with dbg := { d with data := w64 (b2n (tbit (thr s t).arch b)) } })) ∧
    (∀ (t : Fin 2048) b v, debugThr s t = true → Completes (.dbgport (.writeB t b v)) s (fun s' => tbit (thr s' t).arch b = v)) ∧
    (∀ va, debugPieces s va 2 = none → Completes (.dbgport (.readMem va)) s (fun s' => s' = s)) ∧
    (∀ va v, debugPieces s va 3 = none → Completes (.dbgport (.writeMem va v)) s (fun s' => s' = s)) ∧
    (∀ t, debugThr s t = true → (thr s t).freeze = none → (thr s t).freezeReq = none → tabWf thrInit none s.threads = true →
      Completes .debugFreeze s (fun s' => (thr s' t).freezeReq = some .debug)) ∧
    (∀ t, debugThr s t = true → (thr s t).freeze = some .debug → tabWf thrInit none s.threads = true →
      Completes .debugRelease s (fun s' => (thr s' t).freeze = none ∧ ((thr s t).resume ≠ .parked → (thr s' t).st = (thr s t).resume))) ∧
    Completes .tapReset s (fun s' => s'.dbg.openPart = none ∧ (d.openPart.isSome = true → s'.dbg.challenge = none)) ∧
    (∀ b : Byte, (s.fuses.lcs = 1 ∨ s.fuses.lcs = 3) → Completes (.uartInput b) s (fun s' => s' = { s with uartIn := s.uartIn ++ [b] })) ∧
    (∀ b : Byte, s.fuses.lcs ≠ 1 → s.fuses.lcs ≠ 3 → Completes (.uartInput b) s (fun s' => s' = s)) ∧
    (s.supply.power ≠ 0 → Completes (.smbusReadLcId true) s (fun s' =>
      s'.out = s.out ++ [.smbus (leBytes 8 (lcIdNat s) ++ [byte (b2n s.pins.ready), byte (b2n s.faults.quiet), 0, 0, 0, 0, 0, 0])])) ∧
    (s.supply.power ≠ 0 → Completes (.smbusReadLcId false) s (fun s' => s'.out = s.out ∧
      fldGet s' .laneDrop 4 47 32 = satAdd 0xFFFF (fldGet s .laneDrop 4 47 32) 1)) ∧
    (s.supply.power = 1 → domOut s 18 = false →
      (∀ b last, Completes (.smbusBlockWrite b last false) s (fun s' => s'.intake = s.intake ∧
        fldGet s' .laneDrop 4 47 32 = satAdd 0xFFFF (fldGet s .laneDrop 4 47 32) 1)) ∧
      (∀ b, Completes (.smbusBlockWrite b false true) s (fun s' => s' = { s with intake := { s.intake with smbus := s.intake.smbus ++ b } })) ∧
      (∀ b, let item := s.intake.smbus ++ b
        (readCmdH (item.take 16) = none ∨ ∃ c, readCmdH (item.take 16) = some c ∧ c.len + 16 ≠ item.length) →
        Completes (.smbusBlockWrite b true true) s (fun s' => s'.intake = { s.intake with smbus := [] } ∧
          fldGet s' .laneDrop 4 47 32 = satAdd 0xFFFF (fldGet s .laneDrop 4 47 32) 1)) ∧
      (∀ b c, let item := s.intake.smbus ++ b
        readCmdH (item.take 16) = some c → c.len + 16 = item.length → Completes (.smbusBlockWrite b true true) s (fun s' => s'.intake.smbus = [])) ∧
      Completes (.smbusBlockRead true) s (fun s' => s'.out = s.out ++ [.smbus (s.intake.smbusOut.take 255)] ∧
        s'.intake.smbusOut = s.intake.smbusOut.drop 255)) ∧
    (2 ≤ s.supply.power → domOut s 18 = false → ∀ b last pec, Completes (.smbusBlockWrite b last pec) s (fun s' => s'.intake = s.intake ∧
      fldGet s' .laneDrop 4 63 48 = satAdd 0xFFFF (fldGet s .laneDrop 4 63 48) 1) ∧
      Completes (.smbusBlockRead pec) s (fun s' => s'.out = s.out ∧ s'.intake = s.intake))

/-! ### Faults, probes and the quiet state (chapter 18) -/

/-- R193 to R195, R473 to R478, R487: an error starts a probe or joins one; a verdict, its FAULT record before its effect, the counters,
KEEP_FLAST, and the retirement of a cylinder; a probe's timeout; a retirement's fuses. -/
def Obligations.ProbesAndVerdicts : Prop :=
  ∀ (s : State), s.faults.quietDue = none →
    let f := s.faults
    let reported := fun (s' : State) (cls ix err part detail : Nat) =>
      let u := punit s cls ix
      s'.faults.errSince = true ∧ (u.state ≠ 3 → (punit s' cls ix).errs = satAdd 0xFFFF u.errs 1 ∧
        (u.probe = none → (punit s' cls ix).probe = some { error := err, part := part, count := 1, detail := detail, etime := s.now, selfTest := false }) ∧
        (∀ pr, u.probe = some pr → (punit s' cls ix).probe = some { pr with count := satAdd 0xFFFF pr.count 1 })) ∧
      (u.state = 3 → punit s' cls ix = u)
    let judged := fun (s' : State) (cls ix v : Nat) (pr : Probe) =>
      let u := punit s cls ix
      (punit s' cls ix).probe = none ∧
        (auditFull s = false → s.audit.summaries = [] → ∃ r rest, s'.audit.tail = s.audit.tail ++ r :: rest ∧
          r.kind = 0xB ∧ r.source = 3 ∧ r.body = padTo 64 (faultBody cls ix v pr)) ∧
        (pr.error < 256 → s'.faults.last.toNat / 2 ^ 40 = cls * 2 ^ 16 + ix * 2 ^ 4 + v) ∧
        (v = 1 → (punit s' cls ix).trans = satAdd 0xFFFF u.trans 1 ∧ s'.faults.transTotal = satAdd 0xFFFFFFFF f.transTotal 1 ∧ retired s' cls ix = retired s cls ix) ∧
        (v ≠ 1 → (punit s' cls ix).lasting = satAdd 0xFFFF u.lasting 1 ∧ s'.faults.lastingTotal = satAdd 0xFFFFFFFF f.lastingTotal 1 ∧
          ((cls = 1 ∨ cls = 2 ∨ cls = 3 ∨ cls = 8 ∨ cls = 9 ∨ cls = 10 ∨ cls = 11) → (punit s' cls ix).state = 3) ∧
          (cls = 1 → retired s 1 ix = false → ∀ i, i < 16 → (thr s' (16 * ix + i)).part = nobody))
    (∀ (cls : Fin 16) ix passed, (punit s cls ix).probe = none ∨ probeReady s cls ix = false → Completes (.probeVerdict cls ix passed) s (fun s' => s' = s)) ∧
    (∀ (cls : Fin 16) ix pr, ix < 4096 → unitExists cls ix = true → (punit s cls ix).probe = some pr → probeReady s cls ix = true →
      Completes (.probeVerdict cls ix false) s (fun s' => judged s' cls ix 2 pr) ∧
      ((recent s (punit s cls ix)).length < 15 → Completes (.probeVerdict cls ix true) s (fun s' => judged s' cls ix 1 pr)) ∧
      (15 ≤ (recent s (punit s cls ix)).length → Completes (.probeVerdict cls ix true) s (fun s' => judged s' cls ix 3 pr)) ∧
      (pr.etime + 8 * probeTime s cls ix < s.now → Completes (.probeTimeout cls ix) s (fun s' => judged s' cls ix 4 pr)) ∧
      (s.now ≤ pr.etime + 8 * probeTime s cls ix → Completes (.probeTimeout cls ix) s (fun s' => s' = s))) ∧
    (∀ cls ix rest, f.fuseDue = (cls, ix) :: rest →
      (s.supply.mains = true → 40 < bufNow s → Completes .retirementFuseBlow s (fun s' =>
        s'.fuses.retire = s.fuses.retire ++ [cls * 4096 + ix] ∧ s'.faults.fuseDue = rest ∧ s'.fuses.lcs = s.fuses.lcs)) ∧
      ((s.supply.mains = false ∨ bufNow s ≤ 40) → Completes .retirementFuseBlow s (fun s' => s' = s))) ∧
    (f.fuseDue = [] → Completes .retirementFuseBlow s (fun s' => s' = s)) ∧
    (∀ line, isDram (128 * line) = true →
      let part := if lineOwner s line = nobody then 0xFF else lineOwner s line
      Completes (.dramScrub line .clean) s (fun s' => s' = s) ∧
      Completes (.dramScrub line .corrected) s (fun s' => reported s' 6 (line % 32) 5 part (128 * line) ∧ s'.poison = s.poison ∧ s'.mem = s.mem) ∧
      Completes (.dramScrub line .uncorrectable) s (fun s' => reported s' 6 (line % 32) 6 part (128 * line) ∧ tget false s'.poison line = true ∧ s'.mem = s.mem) ∧
      Completes (.dramScrub line .tagMismatch) s (fun s' => tget false s'.poison line = true ∧ s'.mem = s.mem ∧
        (auditFull s = false → s.audit.summaries = [] → ∃ r, s'.audit.tail = s.audit.tail ++ [r] ∧ r.kind = 0xB))) ∧
    (∀ line o, isDram (128 * line) = false → Completes (.dramScrub line o) s (fun s' => s' = s)) ∧
    Completes .trngHealthFail s (fun s' => s'.trngBad = true ∧ reported s' 0xB 0 0xC 0xFF 0)

/-- R482 to R486: what entering the quiet state does, the self-test, and the exit with the reasons that refuse it. -/
def Obligations.QuietState : Prop :=
  ∀ (s : State), s.faults.quietDue = none →
    let f := s.faults
    (∀ p : Fin 256, p ≠ 0 → ∀ c, c = .quietEnter p ∨ c = .quietSelftest p ∨ c = .quietExit p → Completes c s (fun s' => s' = s)) ∧
    (f.quiet = false → Completes (.quietEnter 0) s (fun s' =>
      let g := s'.faults
      g.quiet = true ∧ g.cause = 1 ∧ g.cnt = 0 ∧ g.stest = 0 ∧ g.reason = 0 ∧ g.entries = satAdd 0xFFFF f.entries 1 ∧
        s'.pins.ready = false ∧ s'.pins.alertN = false ∧ (∀ i, i < 8 → nth false s'.pins.holdN i = false) ∧ s'.ks.isSealed = true ∧ s'.ks.slots = s.ks.slots ∧
        s'.turns.commit = none ∧ s'.turns.waiting = [] ∧ s'.dbg.openPart = none ∧
        (∀ i, i < 4 → (wlink s' i).state ≠ 3) ∧ (∀ d ∈ [2, 3, 4, 5, 6, 7, 12], domOut s' d = true) ∧
        (tabWf thrInit none s.threads = true → ∀ t, (thr s t).part ≠ 0 → (thr s t).part ≠ nobody → (thr s' t).st = .frozen) ∧
        (0 < s.boot.step → s.boot.step < 12 → s'.boot.stopped = true))) ∧
    (f.quiet = true → Completes (.quietEnter 0) s (fun s' =>
      s'.faults.quiet = true ∧ s'.faults.cause = f.cause ∧ s'.faults.cnt = satAdd 0xFF f.cnt 1 ∧ s'.threads = s.threads ∧ s'.mem = s.mem)) ∧
    (f.quiet = true → Completes .quietUartLine s (fun s' => s' = { s with out := s.out ++ [.uart "QUIET" f.cause s.turns.num] })) ∧
    (f.quiet = false → Completes .quietUartLine s (fun s' => s' = s)) ∧
    (f.quiet = true → f.stest ≠ 1 → Completes (.quietSelftest 0) s (fun s' => s'.faults.stest = 1 ∧ s'.faults.stestFail = false ∧ s'.faults.errSince = false ∧
      ∀ i, i < 128 → retired s 1 i = false → ∃ pr, (punit s' 1 i).probe = some pr ∧ pr.selfTest = true)) ∧
    ((f.quiet = false ∨ f.stest = 1) → Completes (.quietSelftest 0) s (fun s' => s' = s)) ∧
    (let idle := ∀ kv ∈ f.units, ∀ pr, kv.2.probe = some pr → pr.selfTest = false
     (f.stest = 1 → idle → Completes .selftestDone s (fun s' => s' = { s with faults := { f with stest := if f.stestFail = true then 3 else 2 } })) ∧
     (f.stest ≠ 1 ∨ ¬ idle → Completes .selftestDone s (fun s' => s' = s))) ∧
    (let why := fun (r : Nat) => Completes (.quietExit 0) s (fun s' => s' = { s with faults := { f with reason := r } })
     (f.quiet = false → why 6) ∧ (f.quiet = true → f.stest = 1 → why 5) ∧
     (f.quiet = true → f.stest ≠ 1 → (s.fuses.tamper = true ∨ s.keeper.breach = true) → why 3) ∧
     (f.quiet = true → f.stest ≠ 1 → s.fuses.tamper = false → s.keeper.breach = false → f.stest ≠ 2 → why 1) ∧
     (f.quiet = true → s.fuses.tamper = false → s.keeper.breach = false → f.stest = 2 →
       (f.errSince = true → why 2) ∧ (f.errSince = false → (inService s 0 && inService s 1) = false → why 4) ∧
       (f.errSince = false → (inService s 0 && inService s 1) = true → Completes (.quietExit 0) s (fun s' =>
         s'.boot.kind = 3 ∧ s'.now = 0 ∧ (auditFull s = false → s.audit.summaries = [] → ∃ r rest, s'.audit.tail = s.audit.tail ++ r :: rest ∧ r.kind = 0xD ∧
           r.body = padTo 64 (leBytes 2 f.cause))))))

/-! ### Bringing the lockcase up (chapter 19) -/

/-- R453, R490, R493 to R496, R506: mains applied, where bits of free values say whether the 12 V bus and the rails come up; the root that
fails; the answers to GETs; the times of the fetch; a stopped boot. -/
def Obligations.ColdBootRuns : Prop :=
  ∀ (s : State), s.faults.quietDue = none →
    let b := s.boot
    let bit := fun (n : Nat) => fld (Config.freeValue n) 0 0 = 1
    let base := fun (s' : State) =>
      s'.supply.power = 1 ∧ s'.supply.mains = true ∧ s'.mem = [] ∧ s'.ks.slots = [] ∧ s'.pins.ready = false ∧ s'.threads = [] ∧ s'.now = 0 ∧
        s'.fuses.lcs = (if s.fuses.tamper then 0xF else s.fuses.lcsNext) ∧
        s'.boot.kind = (if (s'.fuses.lcs = 5 ∨ s'.fuses.lcs = 7) ∧ s.fuses.epoch ≠ 0 then 2 else 1)
    let stops := fun (s' : State) (step fail : Nat) => s'.boot.step = step ∧ s'.boot.stopped = true ∧ s'.boot.fail = fail ∧ s'.boot.gets = []
    let fetches := fun (s' : State) (n : Nat) =>
      if bit n then s'.boot.step = 6 ∧ s'.boot.stopped = false ∧ s'.boot.gets = [(0, 1024)] ∧ s'.out.getLast? = some (.getReq true 0 1024)
      else stops s' 5 4
    let cold := fun (n : Nat) (s' : State) =>
      let scrap := s.fuses.tamper = true ∨ s.fuses.lcsNext = 0xF
      let rooted := s.fuses.lcsNext = 3 ∨ s.fuses.lcsNext = 5 ∨ s.fuses.lcsNext = 7
      base s' ∧
        (scrap → s'.boot.step = 3 ∧ s'.boot.gets = [] ∧ s'.keeper.root = none) ∧
        (¬ scrap → ¬ rooted → fetches s' n ∧ s'.keeper.root = none) ∧
        (¬ scrap → rooted → s.fuses.meshHelper = false ∨ s.fuses.meshGone = true →
          stops s' 4 3 ∧ s'.fuses.tamper = true ∧ s'.faults.quiet = true ∧ s'.faults.cause = 4) ∧
        (∀ share, ¬ scrap → rooted → s.fuses.meshHelper = true → s.fuses.meshGone = false → s.fuses.fuseShare = some share →
          let root := sha256 (Config.meshShare ++ Config.pufShare ++ share)
          if rootCheckOf root = s.fuses.rootCheck then
            fetches s' n ∧ s'.keeper.root = some root ∧ s'.keeper.identity = true ∧ s'.keeper.armed = true
          else stops s' 4 3 ∧ s'.fuses.tamper = true ∧ s'.faults.cause = 4)
    (s.supply.power = 0 → Completes .mainsApplied s (fun s' => if bit (s.free + 1) then cold (s.free + 2) s' else base s' ∧ stops s' 2 1)) ∧
    (s.supply.power ≠ 0 → Completes .mainsApplied s (fun s' => s' = s)) ∧
    (b.stopped = true → b.fail = 1 → Completes (.supplyRetry true) s (cold (s.free + 1))) ∧
    ((b.stopped = false ∨ b.fail ≠ 1) → Completes (.supplyRetry true) s (fun s' => s' = s)) ∧
    Completes (.supplyRetry false) s (fun s' => s' = s) ∧
    (∀ off len (x : List Byte), (off, len) ∉ b.gets ∨ x.length ≠ len → Completes (.bundleData off len x) s (fun s' => s' = s)) ∧
    (∀ off len (x : List Byte), (off, len) ∈ b.gets → x.length = len → b.stopped = true → b.fail ∉ [5, 6, 7, 8, 0xB, 0xC] →
      Completes (.bundleData off len x) s (fun s' => s' = s)) ∧
    (∀ len (x : List Byte), (0, len) ∈ b.gets → x.length = len → b.stopped = false → bundleStartOk x = false → Completes (.bundleData 0 len x) s (fun s' =>
      s'.boot.stopped = true ∧ s'.boot.fail = 5 ∧ s'.boot.gets = [] ∧ s'.boot.hostKnown = true)) ∧
    (∀ off len (x : List Byte), (off, len) ∈ b.gets → x.length = len → b.stopped = false → 0 < off → (∃ g ∈ b.gets, g ≠ (off, len)) →
      Completes (.bundleData off len x) s (fun s' => s'.boot.got = b.got ++ [(off, len)] ∧ s'.boot.hostKnown = true ∧
        (∀ i, i < len → tget 0 s'.boot.bundle (off + i) = nth 0 x i) ∧ (∀ i, i < off ∨ off + len ≤ i → tget 0 s'.boot.bundle i = tget 0 b.bundle i))) ∧
    (∀ o n rest, b.gets = (o, n) :: rest → b.hostKnown = true → Completes .getRetry s (fun s' => s' = { s with out := s.out ++ [.getReq false o n] })) ∧
    ((b.gets = [] ∨ b.hostKnown = false) → Completes .getRetry s (fun s' => s' = s)) ∧
    (b.step = 6 → b.hostKnown = false → b.stopped = false → b.gets ≠ [] →
      Completes .getBroadcast s (fun s' => s' = { s with out := s.out ++ [.getReq true 0 1024] }) ∧
      (b.startTime + 64 * 60 * 10 ^ 9 ≤ s.tally → Completes .bundleTimeout s (fun s' => s'.boot = { b with gets := [], fail := 5, stopped := true })) ∧
      (s.tally < b.startTime + 64 * 60 * 10 ^ 9 → Completes .bundleTimeout s (fun s' => s' = s))) ∧
    (b.hostKnown = true → Completes .getBroadcast s (fun s' => s' = s) ∧ Completes .bundleTimeout s (fun s' => s' = s)) ∧
    (b.stopped = false → Completes .bootFailReport s (fun s' => s' = s)) ∧
    (b.stopped = true →
      (b.fail ∈ [5, 6, 7, 8, 0xB, 0xC] → Completes .bootFailReport s (fun s' => s'.boot.gets = [(0, 1024)] ∧
        s'.out = s.out ++ [.status b.step b.fail, .uart "FAIL" b.step b.fail, .getReq true 0 1024])) ∧
      (b.fail ∉ [5, 6, 7, 8, 0xB, 0xC] → Completes .bootFailReport s (fun s' =>
        s' = { s with out := s.out ++ [.status b.step b.fail, .uart "FAIL" b.step b.fail] })))

/-- R464, R491, R494, R501, R505, R508: READY and the anti-rollback fuses; GO; warm boots, at once, waiting for a commit, or refused with
their bundle; the exports of training data and of the key store. -/
def Obligations.WarmBootsAndReady : Prop :=
  ∀ (s : State), s.faults.quietDue = none →
    let b := s.boot
    let holds := b.go = true ∧ b.partsUp = true ∧ b.stopped = false ∧ 60 ≤ bufNow s ∧ s.supply.held = [] ∧ s.supply.power = 1 ∧ s.supply.pf ≠ 2 ∧
      s.faults.quiet = false ∧ s.pins.ready = false
    let free := b.wstat ≠ 1 ∧ b.wstat ≠ 3
    let va := fldGet s .lcBundle 0 55 0
    let warm := fun (s' : State) => s'.boot.kind = 3 ∧ s'.now = 0 ∧ s'.tally = s.tally ∧  s'.intake.sessions = [] ∧ s'.intake.cmdq = [] ∧ s'.fuses.epoch = s.fuses.epoch
    (holds → Completes .readyAssert s (fun s' => s'.pins.ready = true ∧ s'.boot.step = 0xD ∧
      (b.step ≠ 0xD → s'.boot.readyMs = min 0xFFFF ((s.tally - b.startTime) / (64 * 10 ^ 6))) ∧
      s'.fuses.svn = (if b.images.length = 4 ∧ s.fuses.svn < lowestSvn s ∧ s.supply.mains = true ∧ 40 < bufNow s then lowestSvn s else s.fuses.svn))) ∧
    (¬ holds → Completes .readyAssert s (fun s' => s' = s)) ∧
    Completes (.lcBootGo 0) s (fun s' => s' = { s with boot := { b with go := true } }) ∧
    (∀ p : Fin 256, p ≠ 0 → ∀ c, c = .lcBootGo p ∨ c = .lcBootWarm p ∨ c = .lcBootWarmBundle p ∨ c = .lcBootExportTraining p →
      Completes c s (fun s' => s' = s)) ∧
    (∀ w : BitVec 56, ∀ p : Fin 256, p ≠ 0 ∨ s.req.ksStat = 1 → Completes (.ksImgExport p w) s (fun s' => s' = s)) ∧
    (¬ free → ∀ c, c = .lcBootWarm 0 ∨ c = .lcBootWarmBundle 0 ∨ c = .lcBootExportTraining 0 → Completes c s (fun s' => s' = s)) ∧
    (free →
      (s.turns.commit.isSome = true ∨ s.westad.agree.isSome = true → Completes (.lcBootWarm 0) s (fun s' => s' = { s with boot := { b with wstat := 3, warmDue := true } })) ∧
      (s.turns.commit = none → s.westad.agree = none → Completes (.lcBootWarm 0) s (fun s' => warm s' ∧
        (b.copy = none → s.fuses.tamper = false → s.fuses.lcsNext ≠ 0xF → s'.boot.stopped = true ∧ s'.boot.fail = 5 ∧ s'.boot.step = 6))) ∧
      (s.turns.commit.isSome = true ∨ s.westad.agree.isSome = true → Completes (.lcBootWarmBundle 0) s (fun s' =>
        s' = { s with boot := { b with wstat := 3, warmDue := true, warmBundle := true } })) ∧
      (s.turns.commit = none → s.westad.agree = none →
        (bundleAt s va = none → Completes (.lcBootWarmBundle 0) s (fun s' => s' = { s with boot := { b with wstat := 2, fail := 5 } })) ∧
        (∀ x, bundleAt s va = some x →
          (∀ st f, bundleFails { s with boot := { b with kind := 3 } } x = some (st, f) → Completes (.lcBootWarmBundle 0) s (fun s' =>
            s' = { s with boot := { b with wstat := 2, fail := f } })) ∧
          (bundleFails { s with boot := { b with kind := 3 } } x = none → Completes (.lcBootWarmBundle 0) s warm))) ∧
      (let d := b.trainingDram.getD []
       (∀ ps, accOk (unitAccess s 0 va (2 * (4 + d.length)) 3) = some ps → Completes (.lcBootExportTraining 0) s (fun s' =>
         s' = storeBytes s ps (leBytes 4 d.length ++ d))) ∧
       (accOk (unitAccess s 0 va (2 * (4 + d.length)) 3) = none → Completes (.lcBootExportTraining 0) s (fun s' => s' = s)))) ∧
    (∀ w : BitVec 56, s.req.ksStat ≠ 1 →
      (s.ks.isSealed = true → Completes (.ksImgExport 0 w) s (fun s' => s' = { s with req := { s.req with ksVa := w, ksStat := 4 } })) ∧
      (s.ks.isSealed = false → Completes (.ksImgExport 0 w) s (fun s' => s'.req.ksVa = w ∧ s'.mem = s.mem ∧ s'.ks = s.ks ∧
        (s'.req.ksStat = 3 ∨ s'.req.ksStat = 1 ∧ s'.req.ksImage.take 4 = ascii "KSIM" ∧ leAt s'.req.ksImage 8 8 = s.ks.ksTurn % 2 ^ 64)))) ∧
    (s.req.ksStat = 1 → Completes .ksImgExportDone s (fun s' =>
      s'.req.ksStat = 2 ∧ s'.req.ksImage = [] ∧ s'.mem = (storeBytes s s.req.ksPieces s.req.ksImage).mem)) ∧
    (s.req.ksStat ≠ 1 → Completes .ksImgExportDone s (fun s' => s' = s))

/-! ### Control space (chapter 0 and the register tables) -/

/-- R10, R11 and the register tables: a read of a register with RC fields answers their values and clears them, and no other register;
where the partition may not read, it reads 0 and clears nothing. -/
def Obligations.ReadsClear : Prop :=
  ∀ (s : State),
    let reads := fun (c : Instr) (p : Nat) (r : Reg) (ix : Nat) (rc : List (Nat × Nat)) => Completes c s (fun s' =>
      s' = { s with regs := s'.regs, rdata := s'.rdata } ∧ s'.rdata = regWord s p 0 r ix ∧
        (∀ f ∈ rc, fld s'.rdata f.1 f.2 = fldGet s r (regIndex r p ix) f.1 f.2 ∧ fldGet s' r (regIndex r p ix) f.1 f.2 = 0) ∧
        (∀ r' ix', (r', ix') ≠ (r, regIndex r p ix) → regGet s' r' ix' = regGet s r' ix'))
    let hidden := fun (c : Instr) => Completes c s (fun s' => s' = { s with rdata := 0 })
    (∀ (p : Fin 256) (c : Fin 128), reads (.cylCmodeRead p c) p .cylCmode c [(31, 24), (23, 16), (15, 8)]) ∧
    (∀ p : Fin 256, (p.val < 2 → reads (.ksQlastRead p) p .ksQlast 0 [(23, 20), (17, 0)]) ∧ (2 ≤ p.val → hidden (.ksQlastRead p))) ∧
    (∀ (p : Fin 256) (c : Fin 512), (p = 0 ∨ chanOwner s c = p.val → reads (.dmaStatRead p c) p .dmaStat c [(31, 16)]) ∧
      (p ≠ 0 → chanOwner s c ≠ p.val → hidden (.dmaStatRead p c))) ∧
    (∀ (p : Fin 256) (e : Fin 144), (p = 0 ∨ kcHoldsIn s.kc p (e.val / 9) = true → reads (.engErrRead p e) p .engErr e [(31, 24), (23, 16), (15, 8)]) ∧
      (p ≠ 0 → kcHoldsIn s.kc p (e.val / 9) = false → hidden (.engErrRead p e))) ∧
    (∀ p q : Fin 256, (p = 0 ∨ p = q → reads (.exgStatRead p q) p .exgStat q [(63, 48), (47, 32), (31, 16), (15, 0)] ∧
        reads (.quePstatRead p q) p .quePstat q [(63, 48), (47, 32), (31, 16), (15, 0)]) ∧
      (p ≠ 0 → p ≠ q → hidden (.exgStatRead p q) ∧ hidden (.quePstatRead p q))) ∧
    (∀ (p : Fin 256) (q : Fin 1024), (p.val = 0 ∨ p.val = q.val / 4 → reads (.queStatRead p q false) p .queStat q [(63, 48)] ∧
        reads (.queStatRead p q true) p .queStatr q [(63, 48)]) ∧
      (p.val ≠ 0 → p.val ≠ q.val / 4 → hidden (.queStatRead p q false) ∧ hidden (.queStatRead p q true))) ∧
    (∀ p : Fin 256, reads (.knkStrayCntRead p) p .knkStrayCnt 0 [(63, 32), (31, 0)]) ∧
    (∀ (j : Fin 16) (l : Fin 48) (d : Fin 5), reads (.queTlmRead 0 j) 0 .queTlm j [(63, 48), (47, 32)] ∧
      reads (.keepXlogRead 0) 0 .keepXlog 0 [(63, 48), (47, 32)] ∧ reads (.keepTampRead 0) 0 .keepTamp 0 [(63, 48)] ∧
      reads (.laneStatRead 0 l) 0 .laneStat l [(63, 48), (47, 16)] ∧ reads (.laneDropRead 0 d) 0 .laneDrop d [(63, 48), (47, 32), (31, 16), (15, 0)]) ∧
    (∀ (p : Fin 256) (j : Fin 16) (l : Fin 48) (d : Fin 5), p ≠ 0 → ∀ c, c = .queTlmRead p j ∨ c = .keepXlogRead p ∨ c = .keepTampRead p ∨ c = .laneStatRead p l ∨
      c = .laneDropRead p d → hidden c) ∧
    (∀ (p : Fin 256) (l : Fin 4), (p.val < 2 → reads (.laneWlinkRead p l) p .laneWlink l [(63, 48), (47, 32)]) ∧ (2 ≤ p.val → hidden (.laneWlinkRead p l)))

/-- R10 to R13, R446, R472: writes of control registers by their addresses: RW, W1C, read-only, reserved bits, reserved encodings, and
registers that belong to partition 0. -/
def Obligations.WritesFollowTheirAccessCodes : Prop :=
  ∀ (s : State), s.threads = [] → s.faults.quietDue = none → s.boot.warmDue = false →
    let only := fun (s' : State) (r : Reg) => s' = { s with regs := s'.regs } ∧ ∀ r' ix, r' ≠ r → regGet s' r' ix = regGet s r' ix
    (∀ (p : Fin 256) (t : Fin 2048) addr v, regAt addr = none → Completes (.registerWrite p t addr v) s (fun s' => s' = s)) ∧
    (∀ (p : Fin 256) (t : Fin 2048) v, ∀ addr ∈ [0xF0000000000, 0xF0010000000, 0xF0010000020, 0xF000C0100C0],
      Completes (.registerWrite p t addr v) s (fun s' => s' = s)) ∧
    (∀ (p : Fin 256) (t : Fin 2048) v, p ≠ 0 → ∀ addr ∈ [0xF000C010090, 0xF000C010050, 0xF000C010040, 0xF000F000050, 0xF0010000010, 0xF0010000040],
      Completes (.registerWrite p t addr v) s (fun s' => s' = s)) ∧
    (∀ (t : Fin 2048) v,
      Completes (.registerWrite 0 t 0xF000C010090 v) s (fun s' => only s' .keepFin ∧ fldGet s' .keepFin 0 63 48 = fld v 63 48 ∧
        fldGet s' .keepFin 0 31 0 = fld v 31 0 ∧ fldGet s' .keepFin 0 47 32 = fldGet s .keepFin 0 47 32) ∧
      Completes (.registerWrite 0 t 0xF000F000050 v) s (fun s' => only s' .pwrEvt ∧ ∀ i, i < 8 →
        fldGet s' .pwrEvt 0 i i = if fld v i i = 1 then 0 else fldGet s .pwrEvt 0 i i) ∧
      Completes (.registerWrite 0 t 0xF0010000010 v) s (fun s' => only s' .tbStatus ∧ fldGet s' .tbStatus 0 2 2 = fldGet s .tbStatus 0 2 2 ∧
        fldGet s' .tbStatus 0 63 32 = fldGet s .tbStatus 0 63 32 ∧ ∀ i ∈ [0, 1, 3], fldGet s' .tbStatus 0 i i = if fld v i i = 1 then 0 else fldGet s .tbStatus 0 i i) ∧
      Completes (.registerWrite 0 t 0xF000C010050 v) s (fun s' => only s' .keepWcfg ∧
        fldGet s' .keepWcfg 0 9 0 = if 1 ≤ fld v 9 0 ∧ fld v 9 0 ≤ 1000 then fld v 9 0 else fldGet s .keepWcfg 0 9 0) ∧
      Completes (.registerWrite 0 t 0xF0010000040 v) s (fun s' => only s' .tbPtp ∧ fldGet s' .tbPtp 0 15 8 = fld v 15 8 ∧
        fldGet s' .tbPtp 0 3 0 = if fld v 3 0 = 0 ∨ fld v 3 0 = 1 ∨ fld v 3 0 = 0xF then fld v 3 0 else fldGet s .tbPtp 0 3 0))

/-! ### Rules that stand alone (R331, R441, R444, R445) -/

/-- R331. -/
def Obligations.QuietAbandonsACommit : Prop :=
  ∀ (s : State), s.faults.quiet = false → s.faults.quietDue = none →
    (∀ c, s.turns.commit = some c → c.plane ≤ 1 → Completes (.quietEnter 0) s (fun s' =>
      s'.turns.commit = none ∧ (plane s' c.plane).last = 5 ∧ fld (turnStatWord s' c.plane) 7 4 = 5 ∧ s'.kc = s.kc ∧ s'.kcPrev = s.kcPrev ∧ s'.turns.num = s.turns.num)) ∧
    (s.turns.commit = none → Completes (.quietEnter 0) s (fun s' => s'.kc = s.kc ∧ s'.kcPrev = s.kcPrev ∧ s'.turns.num = s.turns.num))

/-- R441. -/
def Obligations.MainsAbsentInWatch : Prop :=
  ∀ (s : State), s.supply.power = 3 → s.supply.mains = false →
    (s.supply.mainsAt + tallyMs 20 ≤ s.tally → Completes .watchMainsAbsent s (fun s' =>
      s' = { State.reset with pending := s.pending, rdata := s.rdata, free := s'.free, fuses := s'.fuses, out := s'.out, uartIn := s.uartIn } ∧
        s'.supply.power = 0)) ∧
    (s.tally < s.supply.mainsAt + tallyMs 20 →
      Completes .watchMainsAbsent s (fun s' => s' = s) ∧
      Completes .mainsReturn s (fun s' => s'.supply.power = 3 ∧ s'.supply.mains = true ∧ s'.supply.wakeLatched = s.supply.wakeLatched ∧
        ∀ p : Part, p ≠ .supply → p ≠ .free → p.same s s'))

/-- R444: the timebase, TB_STATUS and the flags of records after a wake. -/
def Obligations.TheTimebaseIsBridged : Prop :=
  ∀ (s : State) (c : Nat), s.supply.power = 3 → s.supply.wakeLatched = some c → s.faults.quietDue = none →
    Completes .watchWake s (fun s' =>
      let ticks := s.tally / 1953125 - s.supply.stopTally / 1953125
      let rc := s.keeper.rcTicks / 1953125
      s'.now = s.supply.stopTb + ticks * 1953125 / 64 ∧ fldGet s' .tbStatus 0 0 0 = 1 ∧
        (0 < s.keeper.rcTicks → fldGet s' .tbStatus 0 1 1 = 1) ∧ (s.keeper.rcTicks = 0 → fldGet s' .tbStatus 0 1 1 = fldGet s .tbStatus 0 1 1) ∧
        fldGet s' .tbStatus 0 63 32 = min 0xFFFFFFFF ((30 * (ticks - rc) + 50000 * rc + 32767) / 32768 + 31) ∧
        (∀ source part kind body, auditFull s' = false → s'.audit.summaries = [] → ∃ r, (audit s' source part kind body).audit.tail = s'.audit.tail ++ [r] ∧
          r.flags.testBit 0 = true ∧ (r.flags.testBit 1 = true ↔ fldGet s' .tbStatus 0 1 1 = 1)))

/-- R445. -/
def Obligations.BridgingFlagsClear : Prop :=
  (∀ (s : State) (t : Fin 2048) (v : Word), s.boot.warmDue = false → Completes (.registerWrite 0 t 0xF0010000010 v) s (fun s' =>
    ∀ i ∈ [0, 1, 3], fldGet s' .tbStatus 0 i i = if fld v i i = 1 then 0 else fldGet s .tbStatus 0 i i)) ∧
  (∀ (s : State) (port : Fin 2) (dom : Byte) (m : PtpMessage),
    fldGet s .tbPtp 0 3 0 = port.val → fldGet s .tbPtp 0 15 8 = dom.toNat → s.supply.power = 1 → domOut s (2 + 2 * port.val) = false →
    15 ≤ s.ptpGood → m.offsetNs.natAbs < 1000 → fldGet s .tbStatus 0 2 2 = 0 → Completes (.ptpMessage port dom m) s (fun s' =>
      fldGet s' .tbStatus 0 2 2 = 1 ∧ fldGet s' .tbStatus 0 0 0 = 0 ∧ fldGet s' .tbStatus 0 1 1 = 0 ∧ fldGet s' .tbStatus 0 63 32 = 0))

/-! ### The whole machine -/

/-- A step takes the command at the front of the queue and executes it on the state with the queue's rest; on an empty queue it is the
model's own tick (entry 2 of the log). -/
def Obligations.StepRunsTheFrontCommand : Prop :=
  (∀ (c : Instr) (rest : List Instr) (s : State), s.pending = c :: rest → step s = exec c { s with pending := rest }) ∧
  (∀ s : State, s.pending = [] → step s = .next (tick s))

/-- R10 and the register tables: values after reset that the specification gives; nothing runs, and memory lists nothing. -/
def Obligations.ResetValues : Prop :=
  let s := State.reset
  MemSafe s ∧ s.pending = [] ∧ s.mem = [] ∧ s.threads = [] ∧ s.now = 0 ∧ s.pins.ready = false ∧ (∀ g, g < 8 → nth false s.pins.holdN g = false) ∧
    fldGet s .pwrFlat 0 63 60 = 1 ∧ fldGet s .pwrFlat 0 47 32 = 0x3E8 ∧ fldGet s .pwrFlat 0 19 8 = 0x118 ∧
    fldGet s .cylIdleT 0 31 16 = 0xC8 ∧ fldGet s .cylIdleT 0 15 0 = 0x14 ∧ fldGet s .tbPtp 0 3 0 = 0xF ∧ fldGet s .keepWcfg 0 9 0 = 0x10 ∧
    (∀ p, p < 3 → fldGet s .laneNet1 p 63 48 = 0xB818) ∧ (∀ c, c < 128 → fld (cmodeWord s c) 0 0 = 1 ∧ fld (cmodeWord s c) 7 4 = 0) ∧
    (∀ k, k < 16 → fld (pwrKrWord s k) 63 52 = 0x320 ∧ fld (pwrKrWord s k) 51 40 = 0x3B6) ∧ fld (keepStatWord s) 11 8 = 2 ∧
    fld (finfoWord s) 3 0 = 0 ∧ quietWord s = 0 ∧ s.req.lcResult = 0 ∧ s.audit.nextSeq = 1 ∧ s.audit.head = zeros 32

/-- Every command completes: it leaves the queue as it is, what has been sent stays sent, and the parts of the state outside `mayChange`
read as before, memory among them. -/
def Obligations.EveryCommandChangesOnlyItsParts : Prop :=
  ∀ (c : Instr) (s : State), ∃ t, exec c s = .next t ∧ t.pending = s.pending ∧ s.out <+: t.out ∧ ∀ p : Part, p ∉ mayChange c → p.same s t

/-- Memory keeps its canonical form over every step. -/
def Obligations.MemoryStaysCanonical : Prop :=
  ∀ s t : State, MemSafe s → step s = .next t → MemSafe t

/-- R451, R461, R471, R478: over every step a life-cycle state never goes back toward BLANK, SCRAPPED is never left, and no fuse un-blows:
TAMPER, the epoch, the anti-rollback counter, the wear fuses and the retirements. -/
def Obligations.FusesOnlyBlow : Prop :=
  ∀ s t : State, s.fuses.lcs ≤ s.fuses.lcsNext → s.fuses.lcsNext ≤ 0xF → step s = .next t →
    s.fuses.lcs ≤ t.fuses.lcs ∧ s.fuses.lcsNext ≤ t.fuses.lcsNext ∧ t.fuses.lcs ≤ t.fuses.lcsNext ∧ t.fuses.lcsNext ≤ 0xF ∧
      (s.fuses.lcs = 0xF → t.fuses.lcs = 0xF) ∧ (s.fuses.tamper = true → t.fuses.tamper = true) ∧ s.fuses.epoch ≤ t.fuses.epoch ∧
      s.fuses.svn ≤ t.fuses.svn ∧ (∀ k, tget 0 s.fuses.wear k ≤ tget 0 t.fuses.wear k) ∧ s.fuses.retire <+: t.fuses.retire
end

