-- ==== Sys2Proof/Laws/Tab.lean ====
section
/-! SUPPORT. What sparse tables guarantee: a read after a write gives the value written, every other key reads as before, and
the canonical form is kept. -/

namespace Sys2Proof.Machine

variable {α : Type} {d : α}

/-! ### Reads -/

theorem tget_filter (q : Nat → Bool) (t : Tab α) (k : Nat) : tget d (t.filter (fun kv => q kv.1)) k = if q k then tget d t k else d := by
  induction t with
  | nil => simp [tget]
  | cons kv t ih =>
    obtain ⟨j, w⟩ := kv
    rw [List.filter_cons]
    by_cases hj : q j = true
    · by_cases hjk : j = k
      · subst hjk; simp [hj, tget]
      · simp [hj, tget, hjk, ih]
    · by_cases hjk : j = k
      · subst hjk; simp [hj, ih]
      · simp [hj, tget, hjk, ih]

theorem tget_tins_self (t : Tab α) (k : Nat) (v : α) (h : ∀ kv ∈ t, kv.1 ≠ k) : tget d (tins t k v) k = v := by
  induction t with
  | nil => simp [tins, tget]
  | cons kv t ih =>
    obtain ⟨j, w⟩ := kv
    have hj : j ≠ k := h (j, w) List.mem_cons_self
    rw [tins]
    split
    · simp [tget]
    · simp [tget, hj, ih (fun kv hm => h kv (List.mem_cons_of_mem _ hm))]

theorem tget_tins_ne (t : Tab α) (k i : Nat) (v : α) (hi : i ≠ k) : tget d (tins t k v) i = tget d t i := by
  induction t with
  | nil => simp [tins, tget, Ne.symm hi]
  | cons kv t ih =>
    obtain ⟨j, w⟩ := kv
    rw [tins]
    split
    · simp [tget, Ne.symm hi]
    · simp [tget, ih]

/-- Read after write at the same key. -/
@[simp] theorem tget_tset_self [DecidableEq α] (t : Tab α) (k : Nat) (v : α) : tget d (tset d t k v) k = v := by
  unfold tset
  dsimp only
  split
  · rename_i h
    rw [tget_filter (fun j => j != k)]
    simp [h]
  · exact tget_tins_self _ _ _ (fun kv hm => by simpa using (List.mem_filter.1 hm).2)

/-- A write leaves every other key as it was, whatever an unlisted key reads as. -/
theorem tget_tset_ne [DecidableEq α] {d' : α} (t : Tab α) (k i : Nat) (v : α) (hi : i ≠ k) : tget d (tset d' t k v) i = tget d t i := by
  have h : tget d (t.filter (fun kv => kv.1 != k)) i = tget d t i := by
    rw [tget_filter (fun j => j != k)]
    simp [hi]
  unfold tset
  dsimp only
  split
  · exact h
  · rw [tget_tins_ne _ _ _ _ hi, h]

/-- A write read at any key. -/
theorem tget_tset [DecidableEq α] (t : Tab α) (k i : Nat) (v : α) : tget d (tset d t k v) i = if i = k then v else tget d t i := by
  split
  · rename_i h; rw [h, tget_tset_self]
  · rename_i h; exact tget_tset_ne _ _ _ _ h

/-- A change at the same key. -/
@[simp] theorem tget_tmod_self [DecidableEq α] (t : Tab α) (k : Nat) (f : α → α) : tget d (tmod d t k f) k = f (tget d t k) :=
  tget_tset_self _ _ _

/-- A change leaves every other key as it was. -/
theorem tget_tmod_ne [DecidableEq α] (t : Tab α) (k i : Nat) (f : α → α) (hi : i ≠ k) : tget d (tmod d t k f) i = tget d t i :=
  tget_tset_ne _ _ _ _ hi

/-- What every change of an entry keeps of it, a change of all entries keeps. -/
theorem tget_tmapAll [DecidableEq α] {β : Type} (g : α → β) (t : Tab α) (f : Nat → α → α) (hf : ∀ k x, g (f k x) = g x) (i : Nat) :
    g (tget d (tmapAll d t f) i) = g (tget d t i) := by
  have h : ∀ (l r : Tab α), g (tget d (l.foldl (fun r kv => tmod d r kv.1 (f kv.1)) r) i) = g (tget d r i) := by
    intro l
    induction l with
    | nil => intro r; rfl
    | cons kv l ih =>
      intro r
      rw [List.foldl_cons, ih]
      by_cases e : i = kv.1
      · rw [e, tget_tmod_self, hf]
      · rw [tget_tmod_ne _ _ _ _ e]
  exact h t t

/-- A dropped range reads as the default, and every other key as before. -/
theorem tget_tdropRange (t : Tab α) (lo hi k : Nat) : tget d (tdropRange t lo hi) k = if lo ≤ k ∧ k < hi then d else tget d t k := by
  have := tget_filter (d := d) (fun k => decide (k < lo) || decide (hi ≤ k)) t k
  rw [tdropRange, this]
  by_cases h1 : k < lo
  · simp [h1, show ¬ lo ≤ k by omega]
  · by_cases h2 : hi ≤ k
    · simp [h2, show ¬ k < hi by omega]
    · simp [h1, h2, show lo ≤ k by omega, show k < hi by omega]

/-! ### The canonical form -/

variable [DecidableEq α]

theorem tabWf_cons (lo : Option Nat) (j : Nat) (v : α) (t : Tab α) :
    tabWf d lo ((j, v) :: t) = true ↔ (∀ l, lo = some l → l < j) ∧ v ≠ d ∧ tabWf d (some j) t = true := by
  cases lo <;> simp [tabWf, and_assoc]

theorem tabWf_weaken {lo lo' : Option Nat} {t : Tab α} (h : tabWf d lo t = true)
    (hl : ∀ l, lo' = some l → ∃ m, lo = some m ∧ l ≤ m) : tabWf d lo' t = true := by
  cases t with
  | nil => rfl
  | cons kv t =>
    obtain ⟨j, v⟩ := kv
    rw [tabWf_cons] at h ⊢
    refine ⟨fun l e => ?_, h.2⟩
    obtain ⟨m, e', hm⟩ := hl l e
    exact Nat.lt_of_le_of_lt hm (h.1 m e')

theorem filter_wf_lo (p : Nat × α → Bool) {t : Tab α} : ∀ {lo : Option Nat}, tabWf d lo t = true → tabWf d lo (t.filter p) = true := by
  induction t with
  | nil => intro lo h; exact h
  | cons kv t ih =>
    obtain ⟨j, w⟩ := kv
    intro lo h
    have h' := (tabWf_cons lo j w t).1 h
    rw [List.filter_cons]
    split
    · rw [tabWf_cons]
      exact ⟨h'.1, h'.2.1, ih h'.2.2⟩
    · exact tabWf_weaken (ih h'.2.2) (fun l e => ⟨j, rfl, Nat.le_of_lt (h'.1 l e)⟩)

/-- Entries dropped from a table leave the canonical form. -/
theorem filter_wf (p : Nat × α → Bool) {t : Tab α} (h : tabWf d none t = true) : tabWf d none (t.filter p) = true := filter_wf_lo p h

/-- A range dropped leaves the canonical form. -/
theorem tdropRange_wf {t : Tab α} (lo hi : Nat) (h : tabWf d none t = true) : tabWf d none (tdropRange t lo hi) = true := filter_wf _ h

theorem tins_wf {t : Tab α} (v : α) (hv : v ≠ d) : ∀ {lo : Option Nat} (k : Nat), tabWf d lo t = true → (∀ kv ∈ t, kv.1 ≠ k) →
    (∀ l, lo = some l → l < k) → tabWf d lo (tins t k v) = true := by
  induction t with
  | nil =>
    intro lo k _ _ hk
    rw [tins, tabWf_cons]
    exact ⟨hk, hv, rfl⟩
  | cons kv t ih =>
    obtain ⟨j, w⟩ := kv
    intro lo k h hn hk
    have h' := (tabWf_cons lo j w t).1 h
    have hj : j ≠ k := hn (j, w) List.mem_cons_self
    rw [tins]
    split
    · rename_i hlt
      rw [tabWf_cons, tabWf_cons]
      exact ⟨hk, hv, fun l e => by cases e; exact hlt, h'.2⟩
    · rw [tabWf_cons]
      exact ⟨h'.1, h'.2.1, ih k h'.2.2 (fun kv hm => hn kv (List.mem_cons_of_mem _ hm)) (fun l e => by cases e; omega)⟩

/-- A write keeps the canonical form. -/
theorem tset_wf {t : Tab α} (k : Nat) (v : α) (h : tabWf d none t = true) : tabWf d none (tset d t k v) = true := by
  unfold tset
  dsimp only
  split
  · exact filter_wf _ h
  · rename_i hv
    exact tins_wf v hv k (filter_wf _ h) (fun kv hm => by simpa using (List.mem_filter.1 hm).2) (by simp)

/-- A change keeps the canonical form. -/
theorem tmod_wf {t : Tab α} (k : Nat) (f : α → α) (h : tabWf d none t = true) : tabWf d none (tmod d t k f) = true := tset_wf k _ h

end Sys2Proof.Machine
end

