-- ==== Sys2Proof/Laws/State.lean ====
section
/-! SUPPORT. What each named update of the state leaves: one lemma per field per update, and what reading an updated part gives. -/

namespace Sys2Proof.Machine

/-! ### regSet -/

@[simp] theorem regSet_pending (s : State) (r : Reg) (ix : Nat) (v : Word) : (regSet s r ix v).pending = s.pending := rfl
@[simp] theorem regSet_rdata (s : State) (r : Reg) (ix : Nat) (v : Word) : (regSet s r ix v).rdata = s.rdata := rfl
@[simp] theorem regSet_free (s : State) (r : Reg) (ix : Nat) (v : Word) : (regSet s r ix v).free = s.free := rfl
@[simp] theorem regSet_now (s : State) (r : Reg) (ix : Nat) (v : Word) : (regSet s r ix v).now = s.now := rfl
@[simp] theorem regSet_tally (s : State) (r : Reg) (ix : Nat) (v : Word) : (regSet s r ix v).tally = s.tally := rfl
@[simp] theorem regSet_mem (s : State) (r : Reg) (ix : Nat) (v : Word) : (regSet s r ix v).mem = s.mem := rfl
@[simp] theorem regSet_poison (s : State) (r : Reg) (ix : Nat) (v : Word) : (regSet s r ix v).poison = s.poison := rfl
@[simp] theorem regSet_threads (s : State) (r : Reg) (ix : Nat) (v : Word) : (regSet s r ix v).threads = s.threads := rfl
@[simp] theorem regSet_cyls (s : State) (r : Reg) (ix : Nat) (v : Word) : (regSet s r ix v).cyls = s.cyls := rfl
@[simp] theorem regSet_krs (s : State) (r : Reg) (ix : Nat) (v : Word) : (regSet s r ix v).krs = s.krs := rfl
@[simp] theorem regSet_engs (s : State) (r : Reg) (ix : Nat) (v : Word) : (regSet s r ix v).engs = s.engs := rfl
@[simp] theorem regSet_dmaTlb (s : State) (r : Reg) (ix : Nat) (v : Word) : (regSet s r ix v).dmaTlb = s.dmaTlb := rfl
@[simp] theorem regSet_inval (s : State) (r : Reg) (ix : Nat) (v : Word) : (regSet s r ix v).inval = s.inval := rfl
@[simp] theorem regSet_ks (s : State) (r : Reg) (ix : Nat) (v : Word) : (regSet s r ix v).ks = s.ks := rfl
@[simp] theorem regSet_guard (s : State) (r : Reg) (ix : Nat) (v : Word) : (regSet s r ix v).guard = s.guard := rfl
@[simp] theorem regSet_dma (s : State) (r : Reg) (ix : Nat) (v : Word) : (regSet s r ix v).dma = s.dma := rfl
@[simp] theorem regSet_dmaLast (s : State) (r : Reg) (ix : Nat) (v : Word) : (regSet s r ix v).dmaLast = s.dmaLast := rfl
@[simp] theorem regSet_intake (s : State) (r : Reg) (ix : Nat) (v : Word) : (regSet s r ix v).intake = s.intake := rfl
@[simp] theorem regSet_kc (s : State) (r : Reg) (ix : Nat) (v : Word) : (regSet s r ix v).kc = s.kc := rfl
@[simp] theorem regSet_kcPrev (s : State) (r : Reg) (ix : Nat) (v : Word) : (regSet s r ix v).kcPrev = s.kcPrev := rfl
@[simp] theorem regSet_turns (s : State) (r : Reg) (ix : Nat) (v : Word) : (regSet s r ix v).turns = s.turns := rfl
@[simp] theorem regSet_srcs (s : State) (r : Reg) (ix : Nat) (v : Word) : (regSet s r ix v).srcs = s.srcs := rfl
@[simp] theorem regSet_arbs (s : State) (r : Reg) (ix : Nat) (v : Word) : (regSet s r ix v).arbs = s.arbs := rfl
@[simp] theorem regSet_doms (s : State) (r : Reg) (ix : Nat) (v : Word) : (regSet s r ix v).doms = s.doms := rfl
@[simp] theorem regSet_xq (s : State) (r : Reg) (ix : Nat) (v : Word) : (regSet s r ix v).xq = s.xq := rfl
@[simp] theorem regSet_westad (s : State) (r : Reg) (ix : Nat) (v : Word) : (regSet s r ix v).westad = s.westad := rfl
@[simp] theorem regSet_dbg (s : State) (r : Reg) (ix : Nat) (v : Word) : (regSet s r ix v).dbg = s.dbg := rfl
@[simp] theorem regSet_supply (s : State) (r : Reg) (ix : Nat) (v : Word) : (regSet s r ix v).supply = s.supply := rfl
@[simp] theorem regSet_keeper (s : State) (r : Reg) (ix : Nat) (v : Word) : (regSet s r ix v).keeper = s.keeper := rfl
@[simp] theorem regSet_audit (s : State) (r : Reg) (ix : Nat) (v : Word) : (regSet s r ix v).audit = s.audit := rfl
@[simp] theorem regSet_faults (s : State) (r : Reg) (ix : Nat) (v : Word) : (regSet s r ix v).faults = s.faults := rfl
@[simp] theorem regSet_fuses (s : State) (r : Reg) (ix : Nat) (v : Word) : (regSet s r ix v).fuses = s.fuses := rfl
@[simp] theorem regSet_boot (s : State) (r : Reg) (ix : Nat) (v : Word) : (regSet s r ix v).boot = s.boot := rfl
@[simp] theorem regSet_req (s : State) (r : Reg) (ix : Nat) (v : Word) : (regSet s r ix v).req = s.req := rfl
@[simp] theorem regSet_pins (s : State) (r : Reg) (ix : Nat) (v : Word) : (regSet s r ix v).pins = s.pins := rfl
@[simp] theorem regSet_seeded (s : State) (r : Reg) (ix : Nat) (v : Word) : (regSet s r ix v).seeded = s.seeded := rfl
@[simp] theorem regSet_trngBad (s : State) (r : Reg) (ix : Nat) (v : Word) : (regSet s r ix v).trngBad = s.trngBad := rfl
@[simp] theorem regSet_ptpGood (s : State) (r : Reg) (ix : Nat) (v : Word) : (regSet s r ix v).ptpGood = s.ptpGood := rfl
@[simp] theorem regSet_dramKeys (s : State) (r : Reg) (ix : Nat) (v : Word) : (regSet s r ix v).dramKeys = s.dramKeys := rfl
@[simp] theorem regSet_dramLost (s : State) (r : Reg) (ix : Nat) (v : Word) : (regSet s r ix v).dramLost = s.dramLost := rfl
@[simp] theorem regSet_uartIn (s : State) (r : Reg) (ix : Nat) (v : Word) : (regSet s r ix v).uartIn = s.uartIn := rfl
@[simp] theorem regSet_linkPower (s : State) (r : Reg) (ix : Nat) (v : Word) : (regSet s r ix v).linkPower = s.linkPower := rfl
@[simp] theorem regSet_out (s : State) (r : Reg) (ix : Nat) (v : Word) : (regSet s r ix v).out = s.out := rfl
@[simp] theorem regSet_thr (s : State) (r : Reg) (ix : Nat) (v : Word) (i : Nat) : thr (regSet s r ix v) i = thr s i := rfl
@[simp] theorem regSet_cyl (s : State) (r : Reg) (ix : Nat) (v : Word) (i : Nat) : cyl (regSet s r ix v) i = cyl s i := rfl
@[simp] theorem regSet_kring (s : State) (r : Reg) (ix : Nat) (v : Word) (i : Nat) : kring (regSet s r ix v) i = kring s i := rfl
@[simp] theorem regSet_eng (s : State) (r : Reg) (ix : Nat) (v : Word) (i : Nat) : eng (regSet s r ix v) i = eng s i := rfl
@[simp] theorem regSet_dom (s : State) (r : Reg) (ix : Nat) (v : Word) (i : Nat) : dom (regSet s r ix v) i = dom s i := rfl
@[simp] theorem regSet_src (s : State) (r : Reg) (ix : Nat) (v : Word) (i : Nat) : src (regSet s r ix v) i = src s i := rfl
@[simp] theorem regSet_punit (s : State) (r : Reg) (ix : Nat) (v : Word) (j i : Nat) : punit (regSet s r ix v) j i = punit s j i := rfl
@[simp] theorem regSet_cq (s : State) (r : Reg) (ix : Nat) (v : Word) (i : Nat) : cq (regSet s r ix v) i = cq s i := rfl
@[simp] theorem regSet_rq (s : State) (r : Reg) (ix : Nat) (v : Word) (i : Nat) : rq (regSet s r ix v) i = rq s i := rfl
@[simp] theorem regSet_sess (s : State) (r : Reg) (ix : Nat) (v : Word) (i : Nat) : sess (regSet s r ix v) i = sess s i := rfl
@[simp] theorem regSet_readDigit (s : State) (r : Reg) (ix : Nat) (v : Word) (i : Nat) : readDigit (regSet s r ix v) i = readDigit s i := rfl

/-! ### fldSet -/

@[simp] theorem fldSet_pending (s : State) (r : Reg) (ix hi lo v : Nat) : (fldSet s r ix hi lo v).pending = s.pending := rfl
@[simp] theorem fldSet_rdata (s : State) (r : Reg) (ix hi lo v : Nat) : (fldSet s r ix hi lo v).rdata = s.rdata := rfl
@[simp] theorem fldSet_free (s : State) (r : Reg) (ix hi lo v : Nat) : (fldSet s r ix hi lo v).free = s.free := rfl
@[simp] theorem fldSet_now (s : State) (r : Reg) (ix hi lo v : Nat) : (fldSet s r ix hi lo v).now = s.now := rfl
@[simp] theorem fldSet_tally (s : State) (r : Reg) (ix hi lo v : Nat) : (fldSet s r ix hi lo v).tally = s.tally := rfl
@[simp] theorem fldSet_mem (s : State) (r : Reg) (ix hi lo v : Nat) : (fldSet s r ix hi lo v).mem = s.mem := rfl
@[simp] theorem fldSet_poison (s : State) (r : Reg) (ix hi lo v : Nat) : (fldSet s r ix hi lo v).poison = s.poison := rfl
@[simp] theorem fldSet_threads (s : State) (r : Reg) (ix hi lo v : Nat) : (fldSet s r ix hi lo v).threads = s.threads := rfl
@[simp] theorem fldSet_cyls (s : State) (r : Reg) (ix hi lo v : Nat) : (fldSet s r ix hi lo v).cyls = s.cyls := rfl
@[simp] theorem fldSet_krs (s : State) (r : Reg) (ix hi lo v : Nat) : (fldSet s r ix hi lo v).krs = s.krs := rfl
@[simp] theorem fldSet_engs (s : State) (r : Reg) (ix hi lo v : Nat) : (fldSet s r ix hi lo v).engs = s.engs := rfl
@[simp] theorem fldSet_dmaTlb (s : State) (r : Reg) (ix hi lo v : Nat) : (fldSet s r ix hi lo v).dmaTlb = s.dmaTlb := rfl
@[simp] theorem fldSet_inval (s : State) (r : Reg) (ix hi lo v : Nat) : (fldSet s r ix hi lo v).inval = s.inval := rfl
@[simp] theorem fldSet_ks (s : State) (r : Reg) (ix hi lo v : Nat) : (fldSet s r ix hi lo v).ks = s.ks := rfl
@[simp] theorem fldSet_guard (s : State) (r : Reg) (ix hi lo v : Nat) : (fldSet s r ix hi lo v).guard = s.guard := rfl
@[simp] theorem fldSet_dma (s : State) (r : Reg) (ix hi lo v : Nat) : (fldSet s r ix hi lo v).dma = s.dma := rfl
@[simp] theorem fldSet_dmaLast (s : State) (r : Reg) (ix hi lo v : Nat) : (fldSet s r ix hi lo v).dmaLast = s.dmaLast := rfl
@[simp] theorem fldSet_intake (s : State) (r : Reg) (ix hi lo v : Nat) : (fldSet s r ix hi lo v).intake = s.intake := rfl
@[simp] theorem fldSet_kc (s : State) (r : Reg) (ix hi lo v : Nat) : (fldSet s r ix hi lo v).kc = s.kc := rfl
@[simp] theorem fldSet_kcPrev (s : State) (r : Reg) (ix hi lo v : Nat) : (fldSet s r ix hi lo v).kcPrev = s.kcPrev := rfl
@[simp] theorem fldSet_turns (s : State) (r : Reg) (ix hi lo v : Nat) : (fldSet s r ix hi lo v).turns = s.turns := rfl
@[simp] theorem fldSet_srcs (s : State) (r : Reg) (ix hi lo v : Nat) : (fldSet s r ix hi lo v).srcs = s.srcs := rfl
@[simp] theorem fldSet_arbs (s : State) (r : Reg) (ix hi lo v : Nat) : (fldSet s r ix hi lo v).arbs = s.arbs := rfl
@[simp] theorem fldSet_doms (s : State) (r : Reg) (ix hi lo v : Nat) : (fldSet s r ix hi lo v).doms = s.doms := rfl
@[simp] theorem fldSet_xq (s : State) (r : Reg) (ix hi lo v : Nat) : (fldSet s r ix hi lo v).xq = s.xq := rfl
@[simp] theorem fldSet_westad (s : State) (r : Reg) (ix hi lo v : Nat) : (fldSet s r ix hi lo v).westad = s.westad := rfl
@[simp] theorem fldSet_dbg (s : State) (r : Reg) (ix hi lo v : Nat) : (fldSet s r ix hi lo v).dbg = s.dbg := rfl
@[simp] theorem fldSet_supply (s : State) (r : Reg) (ix hi lo v : Nat) : (fldSet s r ix hi lo v).supply = s.supply := rfl
@[simp] theorem fldSet_keeper (s : State) (r : Reg) (ix hi lo v : Nat) : (fldSet s r ix hi lo v).keeper = s.keeper := rfl
@[simp] theorem fldSet_audit (s : State) (r : Reg) (ix hi lo v : Nat) : (fldSet s r ix hi lo v).audit = s.audit := rfl
@[simp] theorem fldSet_faults (s : State) (r : Reg) (ix hi lo v : Nat) : (fldSet s r ix hi lo v).faults = s.faults := rfl
@[simp] theorem fldSet_fuses (s : State) (r : Reg) (ix hi lo v : Nat) : (fldSet s r ix hi lo v).fuses = s.fuses := rfl
@[simp] theorem fldSet_boot (s : State) (r : Reg) (ix hi lo v : Nat) : (fldSet s r ix hi lo v).boot = s.boot := rfl
@[simp] theorem fldSet_req (s : State) (r : Reg) (ix hi lo v : Nat) : (fldSet s r ix hi lo v).req = s.req := rfl
@[simp] theorem fldSet_pins (s : State) (r : Reg) (ix hi lo v : Nat) : (fldSet s r ix hi lo v).pins = s.pins := rfl
@[simp] theorem fldSet_seeded (s : State) (r : Reg) (ix hi lo v : Nat) : (fldSet s r ix hi lo v).seeded = s.seeded := rfl
@[simp] theorem fldSet_trngBad (s : State) (r : Reg) (ix hi lo v : Nat) : (fldSet s r ix hi lo v).trngBad = s.trngBad := rfl
@[simp] theorem fldSet_ptpGood (s : State) (r : Reg) (ix hi lo v : Nat) : (fldSet s r ix hi lo v).ptpGood = s.ptpGood := rfl
@[simp] theorem fldSet_dramKeys (s : State) (r : Reg) (ix hi lo v : Nat) : (fldSet s r ix hi lo v).dramKeys = s.dramKeys := rfl
@[simp] theorem fldSet_dramLost (s : State) (r : Reg) (ix hi lo v : Nat) : (fldSet s r ix hi lo v).dramLost = s.dramLost := rfl
@[simp] theorem fldSet_uartIn (s : State) (r : Reg) (ix hi lo v : Nat) : (fldSet s r ix hi lo v).uartIn = s.uartIn := rfl
@[simp] theorem fldSet_linkPower (s : State) (r : Reg) (ix hi lo v : Nat) : (fldSet s r ix hi lo v).linkPower = s.linkPower := rfl
@[simp] theorem fldSet_out (s : State) (r : Reg) (ix hi lo v : Nat) : (fldSet s r ix hi lo v).out = s.out := rfl
@[simp] theorem fldSet_thr (s : State) (r : Reg) (ix hi lo v : Nat) (i : Nat) : thr (fldSet s r ix hi lo v) i = thr s i := rfl
@[simp] theorem fldSet_cyl (s : State) (r : Reg) (ix hi lo v : Nat) (i : Nat) : cyl (fldSet s r ix hi lo v) i = cyl s i := rfl
@[simp] theorem fldSet_kring (s : State) (r : Reg) (ix hi lo v : Nat) (i : Nat) : kring (fldSet s r ix hi lo v) i = kring s i := rfl
@[simp] theorem fldSet_eng (s : State) (r : Reg) (ix hi lo v : Nat) (i : Nat) : eng (fldSet s r ix hi lo v) i = eng s i := rfl
@[simp] theorem fldSet_dom (s : State) (r : Reg) (ix hi lo v : Nat) (i : Nat) : dom (fldSet s r ix hi lo v) i = dom s i := rfl
@[simp] theorem fldSet_src (s : State) (r : Reg) (ix hi lo v : Nat) (i : Nat) : src (fldSet s r ix hi lo v) i = src s i := rfl
@[simp] theorem fldSet_punit (s : State) (r : Reg) (ix hi lo v : Nat) (j i : Nat) : punit (fldSet s r ix hi lo v) j i = punit s j i := rfl
@[simp] theorem fldSet_cq (s : State) (r : Reg) (ix hi lo v : Nat) (i : Nat) : cq (fldSet s r ix hi lo v) i = cq s i := rfl
@[simp] theorem fldSet_rq (s : State) (r : Reg) (ix hi lo v : Nat) (i : Nat) : rq (fldSet s r ix hi lo v) i = rq s i := rfl
@[simp] theorem fldSet_sess (s : State) (r : Reg) (ix hi lo v : Nat) (i : Nat) : sess (fldSet s r ix hi lo v) i = sess s i := rfl
@[simp] theorem fldSet_readDigit (s : State) (r : Reg) (ix hi lo v : Nat) (i : Nat) : readDigit (fldSet s r ix hi lo v) i = readDigit s i := rfl

/-! ### bump -/

@[simp] theorem bump_pending (s : State) (r : Reg) (ix hi lo k : Nat) : (bump s r ix hi lo k).pending = s.pending := rfl
@[simp] theorem bump_rdata (s : State) (r : Reg) (ix hi lo k : Nat) : (bump s r ix hi lo k).rdata = s.rdata := rfl
@[simp] theorem bump_free (s : State) (r : Reg) (ix hi lo k : Nat) : (bump s r ix hi lo k).free = s.free := rfl
@[simp] theorem bump_now (s : State) (r : Reg) (ix hi lo k : Nat) : (bump s r ix hi lo k).now = s.now := rfl
@[simp] theorem bump_tally (s : State) (r : Reg) (ix hi lo k : Nat) : (bump s r ix hi lo k).tally = s.tally := rfl
@[simp] theorem bump_mem (s : State) (r : Reg) (ix hi lo k : Nat) : (bump s r ix hi lo k).mem = s.mem := rfl
@[simp] theorem bump_poison (s : State) (r : Reg) (ix hi lo k : Nat) : (bump s r ix hi lo k).poison = s.poison := rfl
@[simp] theorem bump_threads (s : State) (r : Reg) (ix hi lo k : Nat) : (bump s r ix hi lo k).threads = s.threads := rfl
@[simp] theorem bump_cyls (s : State) (r : Reg) (ix hi lo k : Nat) : (bump s r ix hi lo k).cyls = s.cyls := rfl
@[simp] theorem bump_krs (s : State) (r : Reg) (ix hi lo k : Nat) : (bump s r ix hi lo k).krs = s.krs := rfl
@[simp] theorem bump_engs (s : State) (r : Reg) (ix hi lo k : Nat) : (bump s r ix hi lo k).engs = s.engs := rfl
@[simp] theorem bump_dmaTlb (s : State) (r : Reg) (ix hi lo k : Nat) : (bump s r ix hi lo k).dmaTlb = s.dmaTlb := rfl
@[simp] theorem bump_inval (s : State) (r : Reg) (ix hi lo k : Nat) : (bump s r ix hi lo k).inval = s.inval := rfl
@[simp] theorem bump_ks (s : State) (r : Reg) (ix hi lo k : Nat) : (bump s r ix hi lo k).ks = s.ks := rfl
@[simp] theorem bump_guard (s : State) (r : Reg) (ix hi lo k : Nat) : (bump s r ix hi lo k).guard = s.guard := rfl
@[simp] theorem bump_dma (s : State) (r : Reg) (ix hi lo k : Nat) : (bump s r ix hi lo k).dma = s.dma := rfl
@[simp] theorem bump_dmaLast (s : State) (r : Reg) (ix hi lo k : Nat) : (bump s r ix hi lo k).dmaLast = s.dmaLast := rfl
@[simp] theorem bump_intake (s : State) (r : Reg) (ix hi lo k : Nat) : (bump s r ix hi lo k).intake = s.intake := rfl
@[simp] theorem bump_kc (s : State) (r : Reg) (ix hi lo k : Nat) : (bump s r ix hi lo k).kc = s.kc := rfl
@[simp] theorem bump_kcPrev (s : State) (r : Reg) (ix hi lo k : Nat) : (bump s r ix hi lo k).kcPrev = s.kcPrev := rfl
@[simp] theorem bump_turns (s : State) (r : Reg) (ix hi lo k : Nat) : (bump s r ix hi lo k).turns = s.turns := rfl
@[simp] theorem bump_srcs (s : State) (r : Reg) (ix hi lo k : Nat) : (bump s r ix hi lo k).srcs = s.srcs := rfl
@[simp] theorem bump_arbs (s : State) (r : Reg) (ix hi lo k : Nat) : (bump s r ix hi lo k).arbs = s.arbs := rfl
@[simp] theorem bump_doms (s : State) (r : Reg) (ix hi lo k : Nat) : (bump s r ix hi lo k).doms = s.doms := rfl
@[simp] theorem bump_xq (s : State) (r : Reg) (ix hi lo k : Nat) : (bump s r ix hi lo k).xq = s.xq := rfl
@[simp] theorem bump_westad (s : State) (r : Reg) (ix hi lo k : Nat) : (bump s r ix hi lo k).westad = s.westad := rfl
@[simp] theorem bump_dbg (s : State) (r : Reg) (ix hi lo k : Nat) : (bump s r ix hi lo k).dbg = s.dbg := rfl
@[simp] theorem bump_supply (s : State) (r : Reg) (ix hi lo k : Nat) : (bump s r ix hi lo k).supply = s.supply := rfl
@[simp] theorem bump_keeper (s : State) (r : Reg) (ix hi lo k : Nat) : (bump s r ix hi lo k).keeper = s.keeper := rfl
@[simp] theorem bump_audit (s : State) (r : Reg) (ix hi lo k : Nat) : (bump s r ix hi lo k).audit = s.audit := rfl
@[simp] theorem bump_faults (s : State) (r : Reg) (ix hi lo k : Nat) : (bump s r ix hi lo k).faults = s.faults := rfl
@[simp] theorem bump_fuses (s : State) (r : Reg) (ix hi lo k : Nat) : (bump s r ix hi lo k).fuses = s.fuses := rfl
@[simp] theorem bump_boot (s : State) (r : Reg) (ix hi lo k : Nat) : (bump s r ix hi lo k).boot = s.boot := rfl
@[simp] theorem bump_req (s : State) (r : Reg) (ix hi lo k : Nat) : (bump s r ix hi lo k).req = s.req := rfl
@[simp] theorem bump_pins (s : State) (r : Reg) (ix hi lo k : Nat) : (bump s r ix hi lo k).pins = s.pins := rfl
@[simp] theorem bump_seeded (s : State) (r : Reg) (ix hi lo k : Nat) : (bump s r ix hi lo k).seeded = s.seeded := rfl
@[simp] theorem bump_trngBad (s : State) (r : Reg) (ix hi lo k : Nat) : (bump s r ix hi lo k).trngBad = s.trngBad := rfl
@[simp] theorem bump_ptpGood (s : State) (r : Reg) (ix hi lo k : Nat) : (bump s r ix hi lo k).ptpGood = s.ptpGood := rfl
@[simp] theorem bump_dramKeys (s : State) (r : Reg) (ix hi lo k : Nat) : (bump s r ix hi lo k).dramKeys = s.dramKeys := rfl
@[simp] theorem bump_dramLost (s : State) (r : Reg) (ix hi lo k : Nat) : (bump s r ix hi lo k).dramLost = s.dramLost := rfl
@[simp] theorem bump_uartIn (s : State) (r : Reg) (ix hi lo k : Nat) : (bump s r ix hi lo k).uartIn = s.uartIn := rfl
@[simp] theorem bump_linkPower (s : State) (r : Reg) (ix hi lo k : Nat) : (bump s r ix hi lo k).linkPower = s.linkPower := rfl
@[simp] theorem bump_out (s : State) (r : Reg) (ix hi lo k : Nat) : (bump s r ix hi lo k).out = s.out := rfl
@[simp] theorem bump_thr (s : State) (r : Reg) (ix hi lo k : Nat) (i : Nat) : thr (bump s r ix hi lo k) i = thr s i := rfl
@[simp] theorem bump_cyl (s : State) (r : Reg) (ix hi lo k : Nat) (i : Nat) : cyl (bump s r ix hi lo k) i = cyl s i := rfl
@[simp] theorem bump_kring (s : State) (r : Reg) (ix hi lo k : Nat) (i : Nat) : kring (bump s r ix hi lo k) i = kring s i := rfl
@[simp] theorem bump_eng (s : State) (r : Reg) (ix hi lo k : Nat) (i : Nat) : eng (bump s r ix hi lo k) i = eng s i := rfl
@[simp] theorem bump_dom (s : State) (r : Reg) (ix hi lo k : Nat) (i : Nat) : dom (bump s r ix hi lo k) i = dom s i := rfl
@[simp] theorem bump_src (s : State) (r : Reg) (ix hi lo k : Nat) (i : Nat) : src (bump s r ix hi lo k) i = src s i := rfl
@[simp] theorem bump_punit (s : State) (r : Reg) (ix hi lo k : Nat) (j i : Nat) : punit (bump s r ix hi lo k) j i = punit s j i := rfl
@[simp] theorem bump_cq (s : State) (r : Reg) (ix hi lo k : Nat) (i : Nat) : cq (bump s r ix hi lo k) i = cq s i := rfl
@[simp] theorem bump_rq (s : State) (r : Reg) (ix hi lo k : Nat) (i : Nat) : rq (bump s r ix hi lo k) i = rq s i := rfl
@[simp] theorem bump_sess (s : State) (r : Reg) (ix hi lo k : Nat) (i : Nat) : sess (bump s r ix hi lo k) i = sess s i := rfl
@[simp] theorem bump_readDigit (s : State) (r : Reg) (ix hi lo k : Nat) (i : Nat) : readDigit (bump s r ix hi lo k) i = readDigit s i := rfl

/-! ### setBits -/

@[simp] theorem setBits_pending (s : State) (r : Reg) (ix : Nat) (m : Word) : (setBits s r ix m).pending = s.pending := rfl
@[simp] theorem setBits_rdata (s : State) (r : Reg) (ix : Nat) (m : Word) : (setBits s r ix m).rdata = s.rdata := rfl
@[simp] theorem setBits_free (s : State) (r : Reg) (ix : Nat) (m : Word) : (setBits s r ix m).free = s.free := rfl
@[simp] theorem setBits_now (s : State) (r : Reg) (ix : Nat) (m : Word) : (setBits s r ix m).now = s.now := rfl
@[simp] theorem setBits_tally (s : State) (r : Reg) (ix : Nat) (m : Word) : (setBits s r ix m).tally = s.tally := rfl
@[simp] theorem setBits_mem (s : State) (r : Reg) (ix : Nat) (m : Word) : (setBits s r ix m).mem = s.mem := rfl
@[simp] theorem setBits_poison (s : State) (r : Reg) (ix : Nat) (m : Word) : (setBits s r ix m).poison = s.poison := rfl
@[simp] theorem setBits_threads (s : State) (r : Reg) (ix : Nat) (m : Word) : (setBits s r ix m).threads = s.threads := rfl
@[simp] theorem setBits_cyls (s : State) (r : Reg) (ix : Nat) (m : Word) : (setBits s r ix m).cyls = s.cyls := rfl
@[simp] theorem setBits_krs (s : State) (r : Reg) (ix : Nat) (m : Word) : (setBits s r ix m).krs = s.krs := rfl
@[simp] theorem setBits_engs (s : State) (r : Reg) (ix : Nat) (m : Word) : (setBits s r ix m).engs = s.engs := rfl
@[simp] theorem setBits_dmaTlb (s : State) (r : Reg) (ix : Nat) (m : Word) : (setBits s r ix m).dmaTlb = s.dmaTlb := rfl
@[simp] theorem setBits_inval (s : State) (r : Reg) (ix : Nat) (m : Word) : (setBits s r ix m).inval = s.inval := rfl
@[simp] theorem setBits_ks (s : State) (r : Reg) (ix : Nat) (m : Word) : (setBits s r ix m).ks = s.ks := rfl
@[simp] theorem setBits_guard (s : State) (r : Reg) (ix : Nat) (m : Word) : (setBits s r ix m).guard = s.guard := rfl
@[simp] theorem setBits_dma (s : State) (r : Reg) (ix : Nat) (m : Word) : (setBits s r ix m).dma = s.dma := rfl
@[simp] theorem setBits_dmaLast (s : State) (r : Reg) (ix : Nat) (m : Word) : (setBits s r ix m).dmaLast = s.dmaLast := rfl
@[simp] theorem setBits_intake (s : State) (r : Reg) (ix : Nat) (m : Word) : (setBits s r ix m).intake = s.intake := rfl
@[simp] theorem setBits_kc (s : State) (r : Reg) (ix : Nat) (m : Word) : (setBits s r ix m).kc = s.kc := rfl
@[simp] theorem setBits_kcPrev (s : State) (r : Reg) (ix : Nat) (m : Word) : (setBits s r ix m).kcPrev = s.kcPrev := rfl
@[simp] theorem setBits_turns (s : State) (r : Reg) (ix : Nat) (m : Word) : (setBits s r ix m).turns = s.turns := rfl
@[simp] theorem setBits_srcs (s : State) (r : Reg) (ix : Nat) (m : Word) : (setBits s r ix m).srcs = s.srcs := rfl
@[simp] theorem setBits_arbs (s : State) (r : Reg) (ix : Nat) (m : Word) : (setBits s r ix m).arbs = s.arbs := rfl
@[simp] theorem setBits_doms (s : State) (r : Reg) (ix : Nat) (m : Word) : (setBits s r ix m).doms = s.doms := rfl
@[simp] theorem setBits_xq (s : State) (r : Reg) (ix : Nat) (m : Word) : (setBits s r ix m).xq = s.xq := rfl
@[simp] theorem setBits_westad (s : State) (r : Reg) (ix : Nat) (m : Word) : (setBits s r ix m).westad = s.westad := rfl
@[simp] theorem setBits_dbg (s : State) (r : Reg) (ix : Nat) (m : Word) : (setBits s r ix m).dbg = s.dbg := rfl
@[simp] theorem setBits_supply (s : State) (r : Reg) (ix : Nat) (m : Word) : (setBits s r ix m).supply = s.supply := rfl
@[simp] theorem setBits_keeper (s : State) (r : Reg) (ix : Nat) (m : Word) : (setBits s r ix m).keeper = s.keeper := rfl
@[simp] theorem setBits_audit (s : State) (r : Reg) (ix : Nat) (m : Word) : (setBits s r ix m).audit = s.audit := rfl
@[simp] theorem setBits_faults (s : State) (r : Reg) (ix : Nat) (m : Word) : (setBits s r ix m).faults = s.faults := rfl
@[simp] theorem setBits_fuses (s : State) (r : Reg) (ix : Nat) (m : Word) : (setBits s r ix m).fuses = s.fuses := rfl
@[simp] theorem setBits_boot (s : State) (r : Reg) (ix : Nat) (m : Word) : (setBits s r ix m).boot = s.boot := rfl
@[simp] theorem setBits_req (s : State) (r : Reg) (ix : Nat) (m : Word) : (setBits s r ix m).req = s.req := rfl
@[simp] theorem setBits_pins (s : State) (r : Reg) (ix : Nat) (m : Word) : (setBits s r ix m).pins = s.pins := rfl
@[simp] theorem setBits_seeded (s : State) (r : Reg) (ix : Nat) (m : Word) : (setBits s r ix m).seeded = s.seeded := rfl
@[simp] theorem setBits_trngBad (s : State) (r : Reg) (ix : Nat) (m : Word) : (setBits s r ix m).trngBad = s.trngBad := rfl
@[simp] theorem setBits_ptpGood (s : State) (r : Reg) (ix : Nat) (m : Word) : (setBits s r ix m).ptpGood = s.ptpGood := rfl
@[simp] theorem setBits_dramKeys (s : State) (r : Reg) (ix : Nat) (m : Word) : (setBits s r ix m).dramKeys = s.dramKeys := rfl
@[simp] theorem setBits_dramLost (s : State) (r : Reg) (ix : Nat) (m : Word) : (setBits s r ix m).dramLost = s.dramLost := rfl
@[simp] theorem setBits_uartIn (s : State) (r : Reg) (ix : Nat) (m : Word) : (setBits s r ix m).uartIn = s.uartIn := rfl
@[simp] theorem setBits_linkPower (s : State) (r : Reg) (ix : Nat) (m : Word) : (setBits s r ix m).linkPower = s.linkPower := rfl
@[simp] theorem setBits_out (s : State) (r : Reg) (ix : Nat) (m : Word) : (setBits s r ix m).out = s.out := rfl
@[simp] theorem setBits_thr (s : State) (r : Reg) (ix : Nat) (m : Word) (i : Nat) : thr (setBits s r ix m) i = thr s i := rfl
@[simp] theorem setBits_cyl (s : State) (r : Reg) (ix : Nat) (m : Word) (i : Nat) : cyl (setBits s r ix m) i = cyl s i := rfl
@[simp] theorem setBits_kring (s : State) (r : Reg) (ix : Nat) (m : Word) (i : Nat) : kring (setBits s r ix m) i = kring s i := rfl
@[simp] theorem setBits_eng (s : State) (r : Reg) (ix : Nat) (m : Word) (i : Nat) : eng (setBits s r ix m) i = eng s i := rfl
@[simp] theorem setBits_dom (s : State) (r : Reg) (ix : Nat) (m : Word) (i : Nat) : dom (setBits s r ix m) i = dom s i := rfl
@[simp] theorem setBits_src (s : State) (r : Reg) (ix : Nat) (m : Word) (i : Nat) : src (setBits s r ix m) i = src s i := rfl
@[simp] theorem setBits_punit (s : State) (r : Reg) (ix : Nat) (m : Word) (j i : Nat) : punit (setBits s r ix m) j i = punit s j i := rfl
@[simp] theorem setBits_cq (s : State) (r : Reg) (ix : Nat) (m : Word) (i : Nat) : cq (setBits s r ix m) i = cq s i := rfl
@[simp] theorem setBits_rq (s : State) (r : Reg) (ix : Nat) (m : Word) (i : Nat) : rq (setBits s r ix m) i = rq s i := rfl
@[simp] theorem setBits_sess (s : State) (r : Reg) (ix : Nat) (m : Word) (i : Nat) : sess (setBits s r ix m) i = sess s i := rfl
@[simp] theorem setBits_readDigit (s : State) (r : Reg) (ix : Nat) (m : Word) (i : Nat) : readDigit (setBits s r ix m) i = readDigit s i := rfl

/-! ### plainWrite -/

@[simp] theorem plainWrite_pending (s : State) (r : Reg) (ix : Nat) (v : Word) : (plainWrite s r ix v).pending = s.pending := rfl
@[simp] theorem plainWrite_rdata (s : State) (r : Reg) (ix : Nat) (v : Word) : (plainWrite s r ix v).rdata = s.rdata := rfl
@[simp] theorem plainWrite_free (s : State) (r : Reg) (ix : Nat) (v : Word) : (plainWrite s r ix v).free = s.free := rfl
@[simp] theorem plainWrite_now (s : State) (r : Reg) (ix : Nat) (v : Word) : (plainWrite s r ix v).now = s.now := rfl
@[simp] theorem plainWrite_tally (s : State) (r : Reg) (ix : Nat) (v : Word) : (plainWrite s r ix v).tally = s.tally := rfl
@[simp] theorem plainWrite_mem (s : State) (r : Reg) (ix : Nat) (v : Word) : (plainWrite s r ix v).mem = s.mem := rfl
@[simp] theorem plainWrite_poison (s : State) (r : Reg) (ix : Nat) (v : Word) : (plainWrite s r ix v).poison = s.poison := rfl
@[simp] theorem plainWrite_threads (s : State) (r : Reg) (ix : Nat) (v : Word) : (plainWrite s r ix v).threads = s.threads := rfl
@[simp] theorem plainWrite_cyls (s : State) (r : Reg) (ix : Nat) (v : Word) : (plainWrite s r ix v).cyls = s.cyls := rfl
@[simp] theorem plainWrite_krs (s : State) (r : Reg) (ix : Nat) (v : Word) : (plainWrite s r ix v).krs = s.krs := rfl
@[simp] theorem plainWrite_engs (s : State) (r : Reg) (ix : Nat) (v : Word) : (plainWrite s r ix v).engs = s.engs := rfl
@[simp] theorem plainWrite_dmaTlb (s : State) (r : Reg) (ix : Nat) (v : Word) : (plainWrite s r ix v).dmaTlb = s.dmaTlb := rfl
@[simp] theorem plainWrite_inval (s : State) (r : Reg) (ix : Nat) (v : Word) : (plainWrite s r ix v).inval = s.inval := rfl
@[simp] theorem plainWrite_ks (s : State) (r : Reg) (ix : Nat) (v : Word) : (plainWrite s r ix v).ks = s.ks := rfl
@[simp] theorem plainWrite_guard (s : State) (r : Reg) (ix : Nat) (v : Word) : (plainWrite s r ix v).guard = s.guard := rfl
@[simp] theorem plainWrite_dma (s : State) (r : Reg) (ix : Nat) (v : Word) : (plainWrite s r ix v).dma = s.dma := rfl
@[simp] theorem plainWrite_dmaLast (s : State) (r : Reg) (ix : Nat) (v : Word) : (plainWrite s r ix v).dmaLast = s.dmaLast := rfl
@[simp] theorem plainWrite_intake (s : State) (r : Reg) (ix : Nat) (v : Word) : (plainWrite s r ix v).intake = s.intake := rfl
@[simp] theorem plainWrite_kc (s : State) (r : Reg) (ix : Nat) (v : Word) : (plainWrite s r ix v).kc = s.kc := rfl
@[simp] theorem plainWrite_kcPrev (s : State) (r : Reg) (ix : Nat) (v : Word) : (plainWrite s r ix v).kcPrev = s.kcPrev := rfl
@[simp] theorem plainWrite_turns (s : State) (r : Reg) (ix : Nat) (v : Word) : (plainWrite s r ix v).turns = s.turns := rfl
@[simp] theorem plainWrite_srcs (s : State) (r : Reg) (ix : Nat) (v : Word) : (plainWrite s r ix v).srcs = s.srcs := rfl
@[simp] theorem plainWrite_arbs (s : State) (r : Reg) (ix : Nat) (v : Word) : (plainWrite s r ix v).arbs = s.arbs := rfl
@[simp] theorem plainWrite_doms (s : State) (r : Reg) (ix : Nat) (v : Word) : (plainWrite s r ix v).doms = s.doms := rfl
@[simp] theorem plainWrite_xq (s : State) (r : Reg) (ix : Nat) (v : Word) : (plainWrite s r ix v).xq = s.xq := rfl
@[simp] theorem plainWrite_westad (s : State) (r : Reg) (ix : Nat) (v : Word) : (plainWrite s r ix v).westad = s.westad := rfl
@[simp] theorem plainWrite_dbg (s : State) (r : Reg) (ix : Nat) (v : Word) : (plainWrite s r ix v).dbg = s.dbg := rfl
@[simp] theorem plainWrite_supply (s : State) (r : Reg) (ix : Nat) (v : Word) : (plainWrite s r ix v).supply = s.supply := rfl
@[simp] theorem plainWrite_keeper (s : State) (r : Reg) (ix : Nat) (v : Word) : (plainWrite s r ix v).keeper = s.keeper := rfl
@[simp] theorem plainWrite_audit (s : State) (r : Reg) (ix : Nat) (v : Word) : (plainWrite s r ix v).audit = s.audit := rfl
@[simp] theorem plainWrite_faults (s : State) (r : Reg) (ix : Nat) (v : Word) : (plainWrite s r ix v).faults = s.faults := rfl
@[simp] theorem plainWrite_fuses (s : State) (r : Reg) (ix : Nat) (v : Word) : (plainWrite s r ix v).fuses = s.fuses := rfl
@[simp] theorem plainWrite_boot (s : State) (r : Reg) (ix : Nat) (v : Word) : (plainWrite s r ix v).boot = s.boot := rfl
@[simp] theorem plainWrite_req (s : State) (r : Reg) (ix : Nat) (v : Word) : (plainWrite s r ix v).req = s.req := rfl
@[simp] theorem plainWrite_pins (s : State) (r : Reg) (ix : Nat) (v : Word) : (plainWrite s r ix v).pins = s.pins := rfl
@[simp] theorem plainWrite_seeded (s : State) (r : Reg) (ix : Nat) (v : Word) : (plainWrite s r ix v).seeded = s.seeded := rfl
@[simp] theorem plainWrite_trngBad (s : State) (r : Reg) (ix : Nat) (v : Word) : (plainWrite s r ix v).trngBad = s.trngBad := rfl
@[simp] theorem plainWrite_ptpGood (s : State) (r : Reg) (ix : Nat) (v : Word) : (plainWrite s r ix v).ptpGood = s.ptpGood := rfl
@[simp] theorem plainWrite_dramKeys (s : State) (r : Reg) (ix : Nat) (v : Word) : (plainWrite s r ix v).dramKeys = s.dramKeys := rfl
@[simp] theorem plainWrite_dramLost (s : State) (r : Reg) (ix : Nat) (v : Word) : (plainWrite s r ix v).dramLost = s.dramLost := rfl
@[simp] theorem plainWrite_uartIn (s : State) (r : Reg) (ix : Nat) (v : Word) : (plainWrite s r ix v).uartIn = s.uartIn := rfl
@[simp] theorem plainWrite_linkPower (s : State) (r : Reg) (ix : Nat) (v : Word) : (plainWrite s r ix v).linkPower = s.linkPower := rfl
@[simp] theorem plainWrite_out (s : State) (r : Reg) (ix : Nat) (v : Word) : (plainWrite s r ix v).out = s.out := rfl
@[simp] theorem plainWrite_thr (s : State) (r : Reg) (ix : Nat) (v : Word) (i : Nat) : thr (plainWrite s r ix v) i = thr s i := rfl
@[simp] theorem plainWrite_cyl (s : State) (r : Reg) (ix : Nat) (v : Word) (i : Nat) : cyl (plainWrite s r ix v) i = cyl s i := rfl
@[simp] theorem plainWrite_kring (s : State) (r : Reg) (ix : Nat) (v : Word) (i : Nat) : kring (plainWrite s r ix v) i = kring s i := rfl
@[simp] theorem plainWrite_eng (s : State) (r : Reg) (ix : Nat) (v : Word) (i : Nat) : eng (plainWrite s r ix v) i = eng s i := rfl
@[simp] theorem plainWrite_dom (s : State) (r : Reg) (ix : Nat) (v : Word) (i : Nat) : dom (plainWrite s r ix v) i = dom s i := rfl
@[simp] theorem plainWrite_src (s : State) (r : Reg) (ix : Nat) (v : Word) (i : Nat) : src (plainWrite s r ix v) i = src s i := rfl
@[simp] theorem plainWrite_punit (s : State) (r : Reg) (ix : Nat) (v : Word) (j i : Nat) : punit (plainWrite s r ix v) j i = punit s j i := rfl
@[simp] theorem plainWrite_cq (s : State) (r : Reg) (ix : Nat) (v : Word) (i : Nat) : cq (plainWrite s r ix v) i = cq s i := rfl
@[simp] theorem plainWrite_rq (s : State) (r : Reg) (ix : Nat) (v : Word) (i : Nat) : rq (plainWrite s r ix v) i = rq s i := rfl
@[simp] theorem plainWrite_sess (s : State) (r : Reg) (ix : Nat) (v : Word) (i : Nat) : sess (plainWrite s r ix v) i = sess s i := rfl
@[simp] theorem plainWrite_readDigit (s : State) (r : Reg) (ix : Nat) (v : Word) (i : Nat) : readDigit (plainWrite s r ix v) i = readDigit s i := rfl

/-! ### clearOnRead -/

@[simp] theorem clearOnRead_pending (s : State) (r : Reg) (ix : Nat) : (clearOnRead s r ix).pending = s.pending := rfl
@[simp] theorem clearOnRead_rdata (s : State) (r : Reg) (ix : Nat) : (clearOnRead s r ix).rdata = s.rdata := rfl
@[simp] theorem clearOnRead_free (s : State) (r : Reg) (ix : Nat) : (clearOnRead s r ix).free = s.free := rfl
@[simp] theorem clearOnRead_now (s : State) (r : Reg) (ix : Nat) : (clearOnRead s r ix).now = s.now := rfl
@[simp] theorem clearOnRead_tally (s : State) (r : Reg) (ix : Nat) : (clearOnRead s r ix).tally = s.tally := rfl
@[simp] theorem clearOnRead_mem (s : State) (r : Reg) (ix : Nat) : (clearOnRead s r ix).mem = s.mem := rfl
@[simp] theorem clearOnRead_poison (s : State) (r : Reg) (ix : Nat) : (clearOnRead s r ix).poison = s.poison := rfl
@[simp] theorem clearOnRead_threads (s : State) (r : Reg) (ix : Nat) : (clearOnRead s r ix).threads = s.threads := rfl
@[simp] theorem clearOnRead_cyls (s : State) (r : Reg) (ix : Nat) : (clearOnRead s r ix).cyls = s.cyls := rfl
@[simp] theorem clearOnRead_krs (s : State) (r : Reg) (ix : Nat) : (clearOnRead s r ix).krs = s.krs := rfl
@[simp] theorem clearOnRead_engs (s : State) (r : Reg) (ix : Nat) : (clearOnRead s r ix).engs = s.engs := rfl
@[simp] theorem clearOnRead_dmaTlb (s : State) (r : Reg) (ix : Nat) : (clearOnRead s r ix).dmaTlb = s.dmaTlb := rfl
@[simp] theorem clearOnRead_inval (s : State) (r : Reg) (ix : Nat) : (clearOnRead s r ix).inval = s.inval := rfl
@[simp] theorem clearOnRead_ks (s : State) (r : Reg) (ix : Nat) : (clearOnRead s r ix).ks = s.ks := rfl
@[simp] theorem clearOnRead_guard (s : State) (r : Reg) (ix : Nat) : (clearOnRead s r ix).guard = s.guard := rfl
@[simp] theorem clearOnRead_dma (s : State) (r : Reg) (ix : Nat) : (clearOnRead s r ix).dma = s.dma := rfl
@[simp] theorem clearOnRead_dmaLast (s : State) (r : Reg) (ix : Nat) : (clearOnRead s r ix).dmaLast = s.dmaLast := rfl
@[simp] theorem clearOnRead_intake (s : State) (r : Reg) (ix : Nat) : (clearOnRead s r ix).intake = s.intake := rfl
@[simp] theorem clearOnRead_kc (s : State) (r : Reg) (ix : Nat) : (clearOnRead s r ix).kc = s.kc := rfl
@[simp] theorem clearOnRead_kcPrev (s : State) (r : Reg) (ix : Nat) : (clearOnRead s r ix).kcPrev = s.kcPrev := rfl
@[simp] theorem clearOnRead_turns (s : State) (r : Reg) (ix : Nat) : (clearOnRead s r ix).turns = s.turns := rfl
@[simp] theorem clearOnRead_srcs (s : State) (r : Reg) (ix : Nat) : (clearOnRead s r ix).srcs = s.srcs := rfl
@[simp] theorem clearOnRead_arbs (s : State) (r : Reg) (ix : Nat) : (clearOnRead s r ix).arbs = s.arbs := rfl
@[simp] theorem clearOnRead_doms (s : State) (r : Reg) (ix : Nat) : (clearOnRead s r ix).doms = s.doms := rfl
@[simp] theorem clearOnRead_xq (s : State) (r : Reg) (ix : Nat) : (clearOnRead s r ix).xq = s.xq := rfl
@[simp] theorem clearOnRead_westad (s : State) (r : Reg) (ix : Nat) : (clearOnRead s r ix).westad = s.westad := rfl
@[simp] theorem clearOnRead_dbg (s : State) (r : Reg) (ix : Nat) : (clearOnRead s r ix).dbg = s.dbg := rfl
@[simp] theorem clearOnRead_supply (s : State) (r : Reg) (ix : Nat) : (clearOnRead s r ix).supply = s.supply := rfl
@[simp] theorem clearOnRead_keeper (s : State) (r : Reg) (ix : Nat) : (clearOnRead s r ix).keeper = s.keeper := rfl
@[simp] theorem clearOnRead_audit (s : State) (r : Reg) (ix : Nat) : (clearOnRead s r ix).audit = s.audit := rfl
@[simp] theorem clearOnRead_faults (s : State) (r : Reg) (ix : Nat) : (clearOnRead s r ix).faults = s.faults := rfl
@[simp] theorem clearOnRead_fuses (s : State) (r : Reg) (ix : Nat) : (clearOnRead s r ix).fuses = s.fuses := rfl
@[simp] theorem clearOnRead_boot (s : State) (r : Reg) (ix : Nat) : (clearOnRead s r ix).boot = s.boot := rfl
@[simp] theorem clearOnRead_req (s : State) (r : Reg) (ix : Nat) : (clearOnRead s r ix).req = s.req := rfl
@[simp] theorem clearOnRead_pins (s : State) (r : Reg) (ix : Nat) : (clearOnRead s r ix).pins = s.pins := rfl
@[simp] theorem clearOnRead_seeded (s : State) (r : Reg) (ix : Nat) : (clearOnRead s r ix).seeded = s.seeded := rfl
@[simp] theorem clearOnRead_trngBad (s : State) (r : Reg) (ix : Nat) : (clearOnRead s r ix).trngBad = s.trngBad := rfl
@[simp] theorem clearOnRead_ptpGood (s : State) (r : Reg) (ix : Nat) : (clearOnRead s r ix).ptpGood = s.ptpGood := rfl
@[simp] theorem clearOnRead_dramKeys (s : State) (r : Reg) (ix : Nat) : (clearOnRead s r ix).dramKeys = s.dramKeys := rfl
@[simp] theorem clearOnRead_dramLost (s : State) (r : Reg) (ix : Nat) : (clearOnRead s r ix).dramLost = s.dramLost := rfl
@[simp] theorem clearOnRead_uartIn (s : State) (r : Reg) (ix : Nat) : (clearOnRead s r ix).uartIn = s.uartIn := rfl
@[simp] theorem clearOnRead_linkPower (s : State) (r : Reg) (ix : Nat) : (clearOnRead s r ix).linkPower = s.linkPower := rfl
@[simp] theorem clearOnRead_out (s : State) (r : Reg) (ix : Nat) : (clearOnRead s r ix).out = s.out := rfl
@[simp] theorem clearOnRead_thr (s : State) (r : Reg) (ix : Nat) (i : Nat) : thr (clearOnRead s r ix) i = thr s i := rfl
@[simp] theorem clearOnRead_cyl (s : State) (r : Reg) (ix : Nat) (i : Nat) : cyl (clearOnRead s r ix) i = cyl s i := rfl
@[simp] theorem clearOnRead_kring (s : State) (r : Reg) (ix : Nat) (i : Nat) : kring (clearOnRead s r ix) i = kring s i := rfl
@[simp] theorem clearOnRead_eng (s : State) (r : Reg) (ix : Nat) (i : Nat) : eng (clearOnRead s r ix) i = eng s i := rfl
@[simp] theorem clearOnRead_dom (s : State) (r : Reg) (ix : Nat) (i : Nat) : dom (clearOnRead s r ix) i = dom s i := rfl
@[simp] theorem clearOnRead_src (s : State) (r : Reg) (ix : Nat) (i : Nat) : src (clearOnRead s r ix) i = src s i := rfl
@[simp] theorem clearOnRead_punit (s : State) (r : Reg) (ix : Nat) (j i : Nat) : punit (clearOnRead s r ix) j i = punit s j i := rfl
@[simp] theorem clearOnRead_cq (s : State) (r : Reg) (ix : Nat) (i : Nat) : cq (clearOnRead s r ix) i = cq s i := rfl
@[simp] theorem clearOnRead_rq (s : State) (r : Reg) (ix : Nat) (i : Nat) : rq (clearOnRead s r ix) i = rq s i := rfl
@[simp] theorem clearOnRead_sess (s : State) (r : Reg) (ix : Nat) (i : Nat) : sess (clearOnRead s r ix) i = sess s i := rfl
@[simp] theorem clearOnRead_readDigit (s : State) (r : Reg) (ix : Nat) (i : Nat) : readDigit (clearOnRead s r ix) i = readDigit s i := rfl

/-! ### emit -/

@[simp] theorem emit_pending (s : State) (o : Out) : (emit s o).pending = s.pending := rfl
@[simp] theorem emit_rdata (s : State) (o : Out) : (emit s o).rdata = s.rdata := rfl
@[simp] theorem emit_free (s : State) (o : Out) : (emit s o).free = s.free := rfl
@[simp] theorem emit_now (s : State) (o : Out) : (emit s o).now = s.now := rfl
@[simp] theorem emit_tally (s : State) (o : Out) : (emit s o).tally = s.tally := rfl
@[simp] theorem emit_regs (s : State) (o : Out) : (emit s o).regs = s.regs := rfl
@[simp] theorem emit_mem (s : State) (o : Out) : (emit s o).mem = s.mem := rfl
@[simp] theorem emit_poison (s : State) (o : Out) : (emit s o).poison = s.poison := rfl
@[simp] theorem emit_threads (s : State) (o : Out) : (emit s o).threads = s.threads := rfl
@[simp] theorem emit_cyls (s : State) (o : Out) : (emit s o).cyls = s.cyls := rfl
@[simp] theorem emit_krs (s : State) (o : Out) : (emit s o).krs = s.krs := rfl
@[simp] theorem emit_engs (s : State) (o : Out) : (emit s o).engs = s.engs := rfl
@[simp] theorem emit_dmaTlb (s : State) (o : Out) : (emit s o).dmaTlb = s.dmaTlb := rfl
@[simp] theorem emit_inval (s : State) (o : Out) : (emit s o).inval = s.inval := rfl
@[simp] theorem emit_ks (s : State) (o : Out) : (emit s o).ks = s.ks := rfl
@[simp] theorem emit_guard (s : State) (o : Out) : (emit s o).guard = s.guard := rfl
@[simp] theorem emit_dma (s : State) (o : Out) : (emit s o).dma = s.dma := rfl
@[simp] theorem emit_dmaLast (s : State) (o : Out) : (emit s o).dmaLast = s.dmaLast := rfl
@[simp] theorem emit_intake (s : State) (o : Out) : (emit s o).intake = s.intake := rfl
@[simp] theorem emit_kc (s : State) (o : Out) : (emit s o).kc = s.kc := rfl
@[simp] theorem emit_kcPrev (s : State) (o : Out) : (emit s o).kcPrev = s.kcPrev := rfl
@[simp] theorem emit_turns (s : State) (o : Out) : (emit s o).turns = s.turns := rfl
@[simp] theorem emit_srcs (s : State) (o : Out) : (emit s o).srcs = s.srcs := rfl
@[simp] theorem emit_arbs (s : State) (o : Out) : (emit s o).arbs = s.arbs := rfl
@[simp] theorem emit_doms (s : State) (o : Out) : (emit s o).doms = s.doms := rfl
@[simp] theorem emit_xq (s : State) (o : Out) : (emit s o).xq = s.xq := rfl
@[simp] theorem emit_westad (s : State) (o : Out) : (emit s o).westad = s.westad := rfl
@[simp] theorem emit_dbg (s : State) (o : Out) : (emit s o).dbg = s.dbg := rfl
@[simp] theorem emit_supply (s : State) (o : Out) : (emit s o).supply = s.supply := rfl
@[simp] theorem emit_keeper (s : State) (o : Out) : (emit s o).keeper = s.keeper := rfl
@[simp] theorem emit_audit (s : State) (o : Out) : (emit s o).audit = s.audit := rfl
@[simp] theorem emit_faults (s : State) (o : Out) : (emit s o).faults = s.faults := rfl
@[simp] theorem emit_fuses (s : State) (o : Out) : (emit s o).fuses = s.fuses := rfl
@[simp] theorem emit_boot (s : State) (o : Out) : (emit s o).boot = s.boot := rfl
@[simp] theorem emit_req (s : State) (o : Out) : (emit s o).req = s.req := rfl
@[simp] theorem emit_pins (s : State) (o : Out) : (emit s o).pins = s.pins := rfl
@[simp] theorem emit_seeded (s : State) (o : Out) : (emit s o).seeded = s.seeded := rfl
@[simp] theorem emit_trngBad (s : State) (o : Out) : (emit s o).trngBad = s.trngBad := rfl
@[simp] theorem emit_ptpGood (s : State) (o : Out) : (emit s o).ptpGood = s.ptpGood := rfl
@[simp] theorem emit_dramKeys (s : State) (o : Out) : (emit s o).dramKeys = s.dramKeys := rfl
@[simp] theorem emit_dramLost (s : State) (o : Out) : (emit s o).dramLost = s.dramLost := rfl
@[simp] theorem emit_uartIn (s : State) (o : Out) : (emit s o).uartIn = s.uartIn := rfl
@[simp] theorem emit_linkPower (s : State) (o : Out) : (emit s o).linkPower = s.linkPower := rfl
@[simp] theorem emit_thr (s : State) (o : Out) (i : Nat) : thr (emit s o) i = thr s i := rfl
@[simp] theorem emit_cyl (s : State) (o : Out) (i : Nat) : cyl (emit s o) i = cyl s i := rfl
@[simp] theorem emit_kring (s : State) (o : Out) (i : Nat) : kring (emit s o) i = kring s i := rfl
@[simp] theorem emit_eng (s : State) (o : Out) (i : Nat) : eng (emit s o) i = eng s i := rfl
@[simp] theorem emit_dom (s : State) (o : Out) (i : Nat) : dom (emit s o) i = dom s i := rfl
@[simp] theorem emit_src (s : State) (o : Out) (i : Nat) : src (emit s o) i = src s i := rfl
@[simp] theorem emit_punit (s : State) (o : Out) (j i : Nat) : punit (emit s o) j i = punit s j i := rfl
@[simp] theorem emit_regGet (s : State) (o : Out) (rg : Reg) (i : Nat) : regGet (emit s o) rg i = regGet s rg i := rfl
@[simp] theorem emit_cq (s : State) (o : Out) (i : Nat) : cq (emit s o) i = cq s i := rfl
@[simp] theorem emit_rq (s : State) (o : Out) (i : Nat) : rq (emit s o) i = rq s i := rfl
@[simp] theorem emit_sess (s : State) (o : Out) (i : Nat) : sess (emit s o) i = sess s i := rfl
@[simp] theorem emit_readDigit (s : State) (o : Out) (i : Nat) : readDigit (emit s o) i = readDigit s i := rfl

/-! ### rawThr -/

@[simp] theorem rawThr_pending (s : State) (t : Nat) (th : Thread) : (rawThr s t th).pending = s.pending := rfl
@[simp] theorem rawThr_rdata (s : State) (t : Nat) (th : Thread) : (rawThr s t th).rdata = s.rdata := rfl
@[simp] theorem rawThr_free (s : State) (t : Nat) (th : Thread) : (rawThr s t th).free = s.free := rfl
@[simp] theorem rawThr_now (s : State) (t : Nat) (th : Thread) : (rawThr s t th).now = s.now := rfl
@[simp] theorem rawThr_tally (s : State) (t : Nat) (th : Thread) : (rawThr s t th).tally = s.tally := rfl
@[simp] theorem rawThr_regs (s : State) (t : Nat) (th : Thread) : (rawThr s t th).regs = s.regs := rfl
@[simp] theorem rawThr_mem (s : State) (t : Nat) (th : Thread) : (rawThr s t th).mem = s.mem := rfl
@[simp] theorem rawThr_poison (s : State) (t : Nat) (th : Thread) : (rawThr s t th).poison = s.poison := rfl
@[simp] theorem rawThr_cyls (s : State) (t : Nat) (th : Thread) : (rawThr s t th).cyls = s.cyls := rfl
@[simp] theorem rawThr_krs (s : State) (t : Nat) (th : Thread) : (rawThr s t th).krs = s.krs := rfl
@[simp] theorem rawThr_engs (s : State) (t : Nat) (th : Thread) : (rawThr s t th).engs = s.engs := rfl
@[simp] theorem rawThr_dmaTlb (s : State) (t : Nat) (th : Thread) : (rawThr s t th).dmaTlb = s.dmaTlb := rfl
@[simp] theorem rawThr_inval (s : State) (t : Nat) (th : Thread) : (rawThr s t th).inval = s.inval := rfl
@[simp] theorem rawThr_ks (s : State) (t : Nat) (th : Thread) : (rawThr s t th).ks = s.ks := rfl
@[simp] theorem rawThr_guard (s : State) (t : Nat) (th : Thread) : (rawThr s t th).guard = s.guard := rfl
@[simp] theorem rawThr_dma (s : State) (t : Nat) (th : Thread) : (rawThr s t th).dma = s.dma := rfl
@[simp] theorem rawThr_dmaLast (s : State) (t : Nat) (th : Thread) : (rawThr s t th).dmaLast = s.dmaLast := rfl
@[simp] theorem rawThr_intake (s : State) (t : Nat) (th : Thread) : (rawThr s t th).intake = s.intake := rfl
@[simp] theorem rawThr_kc (s : State) (t : Nat) (th : Thread) : (rawThr s t th).kc = s.kc := rfl
@[simp] theorem rawThr_kcPrev (s : State) (t : Nat) (th : Thread) : (rawThr s t th).kcPrev = s.kcPrev := rfl
@[simp] theorem rawThr_turns (s : State) (t : Nat) (th : Thread) : (rawThr s t th).turns = s.turns := rfl
@[simp] theorem rawThr_srcs (s : State) (t : Nat) (th : Thread) : (rawThr s t th).srcs = s.srcs := rfl
@[simp] theorem rawThr_arbs (s : State) (t : Nat) (th : Thread) : (rawThr s t th).arbs = s.arbs := rfl
@[simp] theorem rawThr_doms (s : State) (t : Nat) (th : Thread) : (rawThr s t th).doms = s.doms := rfl
@[simp] theorem rawThr_xq (s : State) (t : Nat) (th : Thread) : (rawThr s t th).xq = s.xq := rfl
@[simp] theorem rawThr_westad (s : State) (t : Nat) (th : Thread) : (rawThr s t th).westad = s.westad := rfl
@[simp] theorem rawThr_dbg (s : State) (t : Nat) (th : Thread) : (rawThr s t th).dbg = s.dbg := rfl
@[simp] theorem rawThr_supply (s : State) (t : Nat) (th : Thread) : (rawThr s t th).supply = s.supply := rfl
@[simp] theorem rawThr_keeper (s : State) (t : Nat) (th : Thread) : (rawThr s t th).keeper = s.keeper := rfl
@[simp] theorem rawThr_audit (s : State) (t : Nat) (th : Thread) : (rawThr s t th).audit = s.audit := rfl
@[simp] theorem rawThr_faults (s : State) (t : Nat) (th : Thread) : (rawThr s t th).faults = s.faults := rfl
@[simp] theorem rawThr_fuses (s : State) (t : Nat) (th : Thread) : (rawThr s t th).fuses = s.fuses := rfl
@[simp] theorem rawThr_boot (s : State) (t : Nat) (th : Thread) : (rawThr s t th).boot = s.boot := rfl
@[simp] theorem rawThr_req (s : State) (t : Nat) (th : Thread) : (rawThr s t th).req = s.req := rfl
@[simp] theorem rawThr_pins (s : State) (t : Nat) (th : Thread) : (rawThr s t th).pins = s.pins := rfl
@[simp] theorem rawThr_seeded (s : State) (t : Nat) (th : Thread) : (rawThr s t th).seeded = s.seeded := rfl
@[simp] theorem rawThr_trngBad (s : State) (t : Nat) (th : Thread) : (rawThr s t th).trngBad = s.trngBad := rfl
@[simp] theorem rawThr_ptpGood (s : State) (t : Nat) (th : Thread) : (rawThr s t th).ptpGood = s.ptpGood := rfl
@[simp] theorem rawThr_dramKeys (s : State) (t : Nat) (th : Thread) : (rawThr s t th).dramKeys = s.dramKeys := rfl
@[simp] theorem rawThr_dramLost (s : State) (t : Nat) (th : Thread) : (rawThr s t th).dramLost = s.dramLost := rfl
@[simp] theorem rawThr_uartIn (s : State) (t : Nat) (th : Thread) : (rawThr s t th).uartIn = s.uartIn := rfl
@[simp] theorem rawThr_linkPower (s : State) (t : Nat) (th : Thread) : (rawThr s t th).linkPower = s.linkPower := rfl
@[simp] theorem rawThr_out (s : State) (t : Nat) (th : Thread) : (rawThr s t th).out = s.out := rfl
@[simp] theorem rawThr_cyl (s : State) (t : Nat) (th : Thread) (i : Nat) : cyl (rawThr s t th) i = cyl s i := rfl
@[simp] theorem rawThr_kring (s : State) (t : Nat) (th : Thread) (i : Nat) : kring (rawThr s t th) i = kring s i := rfl
@[simp] theorem rawThr_eng (s : State) (t : Nat) (th : Thread) (i : Nat) : eng (rawThr s t th) i = eng s i := rfl
@[simp] theorem rawThr_dom (s : State) (t : Nat) (th : Thread) (i : Nat) : dom (rawThr s t th) i = dom s i := rfl
@[simp] theorem rawThr_src (s : State) (t : Nat) (th : Thread) (i : Nat) : src (rawThr s t th) i = src s i := rfl
@[simp] theorem rawThr_punit (s : State) (t : Nat) (th : Thread) (j i : Nat) : punit (rawThr s t th) j i = punit s j i := rfl
@[simp] theorem rawThr_regGet (s : State) (t : Nat) (th : Thread) (rg : Reg) (i : Nat) : regGet (rawThr s t th) rg i = regGet s rg i := rfl
@[simp] theorem rawThr_cq (s : State) (t : Nat) (th : Thread) (i : Nat) : cq (rawThr s t th) i = cq s i := rfl
@[simp] theorem rawThr_rq (s : State) (t : Nat) (th : Thread) (i : Nat) : rq (rawThr s t th) i = rq s i := rfl
@[simp] theorem rawThr_sess (s : State) (t : Nat) (th : Thread) (i : Nat) : sess (rawThr s t th) i = sess s i := rfl
@[simp] theorem rawThr_readDigit (s : State) (t : Nat) (th : Thread) (i : Nat) : readDigit (rawThr s t th) i = readDigit s i := rfl

/-! ### modCyl -/

@[simp] theorem modCyl_pending (s : State) (c : Nat) (f : Cyl → Cyl) : (modCyl s c f).pending = s.pending := rfl
@[simp] theorem modCyl_rdata (s : State) (c : Nat) (f : Cyl → Cyl) : (modCyl s c f).rdata = s.rdata := rfl
@[simp] theorem modCyl_free (s : State) (c : Nat) (f : Cyl → Cyl) : (modCyl s c f).free = s.free := rfl
@[simp] theorem modCyl_now (s : State) (c : Nat) (f : Cyl → Cyl) : (modCyl s c f).now = s.now := rfl
@[simp] theorem modCyl_tally (s : State) (c : Nat) (f : Cyl → Cyl) : (modCyl s c f).tally = s.tally := rfl
@[simp] theorem modCyl_regs (s : State) (c : Nat) (f : Cyl → Cyl) : (modCyl s c f).regs = s.regs := rfl
@[simp] theorem modCyl_mem (s : State) (c : Nat) (f : Cyl → Cyl) : (modCyl s c f).mem = s.mem := rfl
@[simp] theorem modCyl_poison (s : State) (c : Nat) (f : Cyl → Cyl) : (modCyl s c f).poison = s.poison := rfl
@[simp] theorem modCyl_threads (s : State) (c : Nat) (f : Cyl → Cyl) : (modCyl s c f).threads = s.threads := rfl
@[simp] theorem modCyl_krs (s : State) (c : Nat) (f : Cyl → Cyl) : (modCyl s c f).krs = s.krs := rfl
@[simp] theorem modCyl_engs (s : State) (c : Nat) (f : Cyl → Cyl) : (modCyl s c f).engs = s.engs := rfl
@[simp] theorem modCyl_dmaTlb (s : State) (c : Nat) (f : Cyl → Cyl) : (modCyl s c f).dmaTlb = s.dmaTlb := rfl
@[simp] theorem modCyl_inval (s : State) (c : Nat) (f : Cyl → Cyl) : (modCyl s c f).inval = s.inval := rfl
@[simp] theorem modCyl_ks (s : State) (c : Nat) (f : Cyl → Cyl) : (modCyl s c f).ks = s.ks := rfl
@[simp] theorem modCyl_guard (s : State) (c : Nat) (f : Cyl → Cyl) : (modCyl s c f).guard = s.guard := rfl
@[simp] theorem modCyl_dma (s : State) (c : Nat) (f : Cyl → Cyl) : (modCyl s c f).dma = s.dma := rfl
@[simp] theorem modCyl_dmaLast (s : State) (c : Nat) (f : Cyl → Cyl) : (modCyl s c f).dmaLast = s.dmaLast := rfl
@[simp] theorem modCyl_intake (s : State) (c : Nat) (f : Cyl → Cyl) : (modCyl s c f).intake = s.intake := rfl
@[simp] theorem modCyl_kc (s : State) (c : Nat) (f : Cyl → Cyl) : (modCyl s c f).kc = s.kc := rfl
@[simp] theorem modCyl_kcPrev (s : State) (c : Nat) (f : Cyl → Cyl) : (modCyl s c f).kcPrev = s.kcPrev := rfl
@[simp] theorem modCyl_turns (s : State) (c : Nat) (f : Cyl → Cyl) : (modCyl s c f).turns = s.turns := rfl
@[simp] theorem modCyl_srcs (s : State) (c : Nat) (f : Cyl → Cyl) : (modCyl s c f).srcs = s.srcs := rfl
@[simp] theorem modCyl_arbs (s : State) (c : Nat) (f : Cyl → Cyl) : (modCyl s c f).arbs = s.arbs := rfl
@[simp] theorem modCyl_doms (s : State) (c : Nat) (f : Cyl → Cyl) : (modCyl s c f).doms = s.doms := rfl
@[simp] theorem modCyl_xq (s : State) (c : Nat) (f : Cyl → Cyl) : (modCyl s c f).xq = s.xq := rfl
@[simp] theorem modCyl_westad (s : State) (c : Nat) (f : Cyl → Cyl) : (modCyl s c f).westad = s.westad := rfl
@[simp] theorem modCyl_dbg (s : State) (c : Nat) (f : Cyl → Cyl) : (modCyl s c f).dbg = s.dbg := rfl
@[simp] theorem modCyl_supply (s : State) (c : Nat) (f : Cyl → Cyl) : (modCyl s c f).supply = s.supply := rfl
@[simp] theorem modCyl_keeper (s : State) (c : Nat) (f : Cyl → Cyl) : (modCyl s c f).keeper = s.keeper := rfl
@[simp] theorem modCyl_audit (s : State) (c : Nat) (f : Cyl → Cyl) : (modCyl s c f).audit = s.audit := rfl
@[simp] theorem modCyl_faults (s : State) (c : Nat) (f : Cyl → Cyl) : (modCyl s c f).faults = s.faults := rfl
@[simp] theorem modCyl_fuses (s : State) (c : Nat) (f : Cyl → Cyl) : (modCyl s c f).fuses = s.fuses := rfl
@[simp] theorem modCyl_boot (s : State) (c : Nat) (f : Cyl → Cyl) : (modCyl s c f).boot = s.boot := rfl
@[simp] theorem modCyl_req (s : State) (c : Nat) (f : Cyl → Cyl) : (modCyl s c f).req = s.req := rfl
@[simp] theorem modCyl_pins (s : State) (c : Nat) (f : Cyl → Cyl) : (modCyl s c f).pins = s.pins := rfl
@[simp] theorem modCyl_seeded (s : State) (c : Nat) (f : Cyl → Cyl) : (modCyl s c f).seeded = s.seeded := rfl
@[simp] theorem modCyl_trngBad (s : State) (c : Nat) (f : Cyl → Cyl) : (modCyl s c f).trngBad = s.trngBad := rfl
@[simp] theorem modCyl_ptpGood (s : State) (c : Nat) (f : Cyl → Cyl) : (modCyl s c f).ptpGood = s.ptpGood := rfl
@[simp] theorem modCyl_dramKeys (s : State) (c : Nat) (f : Cyl → Cyl) : (modCyl s c f).dramKeys = s.dramKeys := rfl
@[simp] theorem modCyl_dramLost (s : State) (c : Nat) (f : Cyl → Cyl) : (modCyl s c f).dramLost = s.dramLost := rfl
@[simp] theorem modCyl_uartIn (s : State) (c : Nat) (f : Cyl → Cyl) : (modCyl s c f).uartIn = s.uartIn := rfl
@[simp] theorem modCyl_linkPower (s : State) (c : Nat) (f : Cyl → Cyl) : (modCyl s c f).linkPower = s.linkPower := rfl
@[simp] theorem modCyl_out (s : State) (c : Nat) (f : Cyl → Cyl) : (modCyl s c f).out = s.out := rfl
@[simp] theorem modCyl_thr (s : State) (c : Nat) (f : Cyl → Cyl) (i : Nat) : thr (modCyl s c f) i = thr s i := rfl
@[simp] theorem modCyl_kring (s : State) (c : Nat) (f : Cyl → Cyl) (i : Nat) : kring (modCyl s c f) i = kring s i := rfl
@[simp] theorem modCyl_eng (s : State) (c : Nat) (f : Cyl → Cyl) (i : Nat) : eng (modCyl s c f) i = eng s i := rfl
@[simp] theorem modCyl_dom (s : State) (c : Nat) (f : Cyl → Cyl) (i : Nat) : dom (modCyl s c f) i = dom s i := rfl
@[simp] theorem modCyl_src (s : State) (c : Nat) (f : Cyl → Cyl) (i : Nat) : src (modCyl s c f) i = src s i := rfl
@[simp] theorem modCyl_punit (s : State) (c : Nat) (f : Cyl → Cyl) (j i : Nat) : punit (modCyl s c f) j i = punit s j i := rfl
@[simp] theorem modCyl_regGet (s : State) (c : Nat) (f : Cyl → Cyl) (rg : Reg) (i : Nat) : regGet (modCyl s c f) rg i = regGet s rg i := rfl
@[simp] theorem modCyl_cq (s : State) (c : Nat) (f : Cyl → Cyl) (i : Nat) : cq (modCyl s c f) i = cq s i := rfl
@[simp] theorem modCyl_rq (s : State) (c : Nat) (f : Cyl → Cyl) (i : Nat) : rq (modCyl s c f) i = rq s i := rfl
@[simp] theorem modCyl_sess (s : State) (c : Nat) (f : Cyl → Cyl) (i : Nat) : sess (modCyl s c f) i = sess s i := rfl
@[simp] theorem modCyl_readDigit (s : State) (c : Nat) (f : Cyl → Cyl) (i : Nat) : readDigit (modCyl s c f) i = readDigit s i := rfl

/-! ### modKr -/

@[simp] theorem modKr_pending (s : State) (k : Nat) (f : Keyring → Keyring) : (modKr s k f).pending = s.pending := rfl
@[simp] theorem modKr_rdata (s : State) (k : Nat) (f : Keyring → Keyring) : (modKr s k f).rdata = s.rdata := rfl
@[simp] theorem modKr_free (s : State) (k : Nat) (f : Keyring → Keyring) : (modKr s k f).free = s.free := rfl
@[simp] theorem modKr_now (s : State) (k : Nat) (f : Keyring → Keyring) : (modKr s k f).now = s.now := rfl
@[simp] theorem modKr_tally (s : State) (k : Nat) (f : Keyring → Keyring) : (modKr s k f).tally = s.tally := rfl
@[simp] theorem modKr_regs (s : State) (k : Nat) (f : Keyring → Keyring) : (modKr s k f).regs = s.regs := rfl
@[simp] theorem modKr_mem (s : State) (k : Nat) (f : Keyring → Keyring) : (modKr s k f).mem = s.mem := rfl
@[simp] theorem modKr_poison (s : State) (k : Nat) (f : Keyring → Keyring) : (modKr s k f).poison = s.poison := rfl
@[simp] theorem modKr_threads (s : State) (k : Nat) (f : Keyring → Keyring) : (modKr s k f).threads = s.threads := rfl
@[simp] theorem modKr_cyls (s : State) (k : Nat) (f : Keyring → Keyring) : (modKr s k f).cyls = s.cyls := rfl
@[simp] theorem modKr_engs (s : State) (k : Nat) (f : Keyring → Keyring) : (modKr s k f).engs = s.engs := rfl
@[simp] theorem modKr_dmaTlb (s : State) (k : Nat) (f : Keyring → Keyring) : (modKr s k f).dmaTlb = s.dmaTlb := rfl
@[simp] theorem modKr_inval (s : State) (k : Nat) (f : Keyring → Keyring) : (modKr s k f).inval = s.inval := rfl
@[simp] theorem modKr_ks (s : State) (k : Nat) (f : Keyring → Keyring) : (modKr s k f).ks = s.ks := rfl
@[simp] theorem modKr_guard (s : State) (k : Nat) (f : Keyring → Keyring) : (modKr s k f).guard = s.guard := rfl
@[simp] theorem modKr_dma (s : State) (k : Nat) (f : Keyring → Keyring) : (modKr s k f).dma = s.dma := rfl
@[simp] theorem modKr_dmaLast (s : State) (k : Nat) (f : Keyring → Keyring) : (modKr s k f).dmaLast = s.dmaLast := rfl
@[simp] theorem modKr_intake (s : State) (k : Nat) (f : Keyring → Keyring) : (modKr s k f).intake = s.intake := rfl
@[simp] theorem modKr_kc (s : State) (k : Nat) (f : Keyring → Keyring) : (modKr s k f).kc = s.kc := rfl
@[simp] theorem modKr_kcPrev (s : State) (k : Nat) (f : Keyring → Keyring) : (modKr s k f).kcPrev = s.kcPrev := rfl
@[simp] theorem modKr_turns (s : State) (k : Nat) (f : Keyring → Keyring) : (modKr s k f).turns = s.turns := rfl
@[simp] theorem modKr_srcs (s : State) (k : Nat) (f : Keyring → Keyring) : (modKr s k f).srcs = s.srcs := rfl
@[simp] theorem modKr_arbs (s : State) (k : Nat) (f : Keyring → Keyring) : (modKr s k f).arbs = s.arbs := rfl
@[simp] theorem modKr_doms (s : State) (k : Nat) (f : Keyring → Keyring) : (modKr s k f).doms = s.doms := rfl
@[simp] theorem modKr_xq (s : State) (k : Nat) (f : Keyring → Keyring) : (modKr s k f).xq = s.xq := rfl
@[simp] theorem modKr_westad (s : State) (k : Nat) (f : Keyring → Keyring) : (modKr s k f).westad = s.westad := rfl
@[simp] theorem modKr_dbg (s : State) (k : Nat) (f : Keyring → Keyring) : (modKr s k f).dbg = s.dbg := rfl
@[simp] theorem modKr_supply (s : State) (k : Nat) (f : Keyring → Keyring) : (modKr s k f).supply = s.supply := rfl
@[simp] theorem modKr_keeper (s : State) (k : Nat) (f : Keyring → Keyring) : (modKr s k f).keeper = s.keeper := rfl
@[simp] theorem modKr_audit (s : State) (k : Nat) (f : Keyring → Keyring) : (modKr s k f).audit = s.audit := rfl
@[simp] theorem modKr_faults (s : State) (k : Nat) (f : Keyring → Keyring) : (modKr s k f).faults = s.faults := rfl
@[simp] theorem modKr_fuses (s : State) (k : Nat) (f : Keyring → Keyring) : (modKr s k f).fuses = s.fuses := rfl
@[simp] theorem modKr_boot (s : State) (k : Nat) (f : Keyring → Keyring) : (modKr s k f).boot = s.boot := rfl
@[simp] theorem modKr_req (s : State) (k : Nat) (f : Keyring → Keyring) : (modKr s k f).req = s.req := rfl
@[simp] theorem modKr_pins (s : State) (k : Nat) (f : Keyring → Keyring) : (modKr s k f).pins = s.pins := rfl
@[simp] theorem modKr_seeded (s : State) (k : Nat) (f : Keyring → Keyring) : (modKr s k f).seeded = s.seeded := rfl
@[simp] theorem modKr_trngBad (s : State) (k : Nat) (f : Keyring → Keyring) : (modKr s k f).trngBad = s.trngBad := rfl
@[simp] theorem modKr_ptpGood (s : State) (k : Nat) (f : Keyring → Keyring) : (modKr s k f).ptpGood = s.ptpGood := rfl
@[simp] theorem modKr_dramKeys (s : State) (k : Nat) (f : Keyring → Keyring) : (modKr s k f).dramKeys = s.dramKeys := rfl
@[simp] theorem modKr_dramLost (s : State) (k : Nat) (f : Keyring → Keyring) : (modKr s k f).dramLost = s.dramLost := rfl
@[simp] theorem modKr_uartIn (s : State) (k : Nat) (f : Keyring → Keyring) : (modKr s k f).uartIn = s.uartIn := rfl
@[simp] theorem modKr_linkPower (s : State) (k : Nat) (f : Keyring → Keyring) : (modKr s k f).linkPower = s.linkPower := rfl
@[simp] theorem modKr_out (s : State) (k : Nat) (f : Keyring → Keyring) : (modKr s k f).out = s.out := rfl
@[simp] theorem modKr_thr (s : State) (k : Nat) (f : Keyring → Keyring) (i : Nat) : thr (modKr s k f) i = thr s i := rfl
@[simp] theorem modKr_cyl (s : State) (k : Nat) (f : Keyring → Keyring) (i : Nat) : cyl (modKr s k f) i = cyl s i := rfl
@[simp] theorem modKr_eng (s : State) (k : Nat) (f : Keyring → Keyring) (i : Nat) : eng (modKr s k f) i = eng s i := rfl
@[simp] theorem modKr_dom (s : State) (k : Nat) (f : Keyring → Keyring) (i : Nat) : dom (modKr s k f) i = dom s i := rfl
@[simp] theorem modKr_src (s : State) (k : Nat) (f : Keyring → Keyring) (i : Nat) : src (modKr s k f) i = src s i := rfl
@[simp] theorem modKr_punit (s : State) (k : Nat) (f : Keyring → Keyring) (j i : Nat) : punit (modKr s k f) j i = punit s j i := rfl
@[simp] theorem modKr_regGet (s : State) (k : Nat) (f : Keyring → Keyring) (rg : Reg) (i : Nat) : regGet (modKr s k f) rg i = regGet s rg i := rfl
@[simp] theorem modKr_cq (s : State) (k : Nat) (f : Keyring → Keyring) (i : Nat) : cq (modKr s k f) i = cq s i := rfl
@[simp] theorem modKr_rq (s : State) (k : Nat) (f : Keyring → Keyring) (i : Nat) : rq (modKr s k f) i = rq s i := rfl
@[simp] theorem modKr_sess (s : State) (k : Nat) (f : Keyring → Keyring) (i : Nat) : sess (modKr s k f) i = sess s i := rfl
@[simp] theorem modKr_readDigit (s : State) (k : Nat) (f : Keyring → Keyring) (i : Nat) : readDigit (modKr s k f) i = readDigit s i := rfl

/-! ### modEng -/

@[simp] theorem modEng_pending (s : State) (e : Nat) (f : Engine → Engine) : (modEng s e f).pending = s.pending := rfl
@[simp] theorem modEng_rdata (s : State) (e : Nat) (f : Engine → Engine) : (modEng s e f).rdata = s.rdata := rfl
@[simp] theorem modEng_free (s : State) (e : Nat) (f : Engine → Engine) : (modEng s e f).free = s.free := rfl
@[simp] theorem modEng_now (s : State) (e : Nat) (f : Engine → Engine) : (modEng s e f).now = s.now := rfl
@[simp] theorem modEng_tally (s : State) (e : Nat) (f : Engine → Engine) : (modEng s e f).tally = s.tally := rfl
@[simp] theorem modEng_regs (s : State) (e : Nat) (f : Engine → Engine) : (modEng s e f).regs = s.regs := rfl
@[simp] theorem modEng_mem (s : State) (e : Nat) (f : Engine → Engine) : (modEng s e f).mem = s.mem := rfl
@[simp] theorem modEng_poison (s : State) (e : Nat) (f : Engine → Engine) : (modEng s e f).poison = s.poison := rfl
@[simp] theorem modEng_threads (s : State) (e : Nat) (f : Engine → Engine) : (modEng s e f).threads = s.threads := rfl
@[simp] theorem modEng_cyls (s : State) (e : Nat) (f : Engine → Engine) : (modEng s e f).cyls = s.cyls := rfl
@[simp] theorem modEng_krs (s : State) (e : Nat) (f : Engine → Engine) : (modEng s e f).krs = s.krs := rfl
@[simp] theorem modEng_dmaTlb (s : State) (e : Nat) (f : Engine → Engine) : (modEng s e f).dmaTlb = s.dmaTlb := rfl
@[simp] theorem modEng_inval (s : State) (e : Nat) (f : Engine → Engine) : (modEng s e f).inval = s.inval := rfl
@[simp] theorem modEng_ks (s : State) (e : Nat) (f : Engine → Engine) : (modEng s e f).ks = s.ks := rfl
@[simp] theorem modEng_guard (s : State) (e : Nat) (f : Engine → Engine) : (modEng s e f).guard = s.guard := rfl
@[simp] theorem modEng_dma (s : State) (e : Nat) (f : Engine → Engine) : (modEng s e f).dma = s.dma := rfl
@[simp] theorem modEng_dmaLast (s : State) (e : Nat) (f : Engine → Engine) : (modEng s e f).dmaLast = s.dmaLast := rfl
@[simp] theorem modEng_intake (s : State) (e : Nat) (f : Engine → Engine) : (modEng s e f).intake = s.intake := rfl
@[simp] theorem modEng_kc (s : State) (e : Nat) (f : Engine → Engine) : (modEng s e f).kc = s.kc := rfl
@[simp] theorem modEng_kcPrev (s : State) (e : Nat) (f : Engine → Engine) : (modEng s e f).kcPrev = s.kcPrev := rfl
@[simp] theorem modEng_turns (s : State) (e : Nat) (f : Engine → Engine) : (modEng s e f).turns = s.turns := rfl
@[simp] theorem modEng_srcs (s : State) (e : Nat) (f : Engine → Engine) : (modEng s e f).srcs = s.srcs := rfl
@[simp] theorem modEng_arbs (s : State) (e : Nat) (f : Engine → Engine) : (modEng s e f).arbs = s.arbs := rfl
@[simp] theorem modEng_doms (s : State) (e : Nat) (f : Engine → Engine) : (modEng s e f).doms = s.doms := rfl
@[simp] theorem modEng_xq (s : State) (e : Nat) (f : Engine → Engine) : (modEng s e f).xq = s.xq := rfl
@[simp] theorem modEng_westad (s : State) (e : Nat) (f : Engine → Engine) : (modEng s e f).westad = s.westad := rfl
@[simp] theorem modEng_dbg (s : State) (e : Nat) (f : Engine → Engine) : (modEng s e f).dbg = s.dbg := rfl
@[simp] theorem modEng_supply (s : State) (e : Nat) (f : Engine → Engine) : (modEng s e f).supply = s.supply := rfl
@[simp] theorem modEng_keeper (s : State) (e : Nat) (f : Engine → Engine) : (modEng s e f).keeper = s.keeper := rfl
@[simp] theorem modEng_audit (s : State) (e : Nat) (f : Engine → Engine) : (modEng s e f).audit = s.audit := rfl
@[simp] theorem modEng_faults (s : State) (e : Nat) (f : Engine → Engine) : (modEng s e f).faults = s.faults := rfl
@[simp] theorem modEng_fuses (s : State) (e : Nat) (f : Engine → Engine) : (modEng s e f).fuses = s.fuses := rfl
@[simp] theorem modEng_boot (s : State) (e : Nat) (f : Engine → Engine) : (modEng s e f).boot = s.boot := rfl
@[simp] theorem modEng_req (s : State) (e : Nat) (f : Engine → Engine) : (modEng s e f).req = s.req := rfl
@[simp] theorem modEng_pins (s : State) (e : Nat) (f : Engine → Engine) : (modEng s e f).pins = s.pins := rfl
@[simp] theorem modEng_seeded (s : State) (e : Nat) (f : Engine → Engine) : (modEng s e f).seeded = s.seeded := rfl
@[simp] theorem modEng_trngBad (s : State) (e : Nat) (f : Engine → Engine) : (modEng s e f).trngBad = s.trngBad := rfl
@[simp] theorem modEng_ptpGood (s : State) (e : Nat) (f : Engine → Engine) : (modEng s e f).ptpGood = s.ptpGood := rfl
@[simp] theorem modEng_dramKeys (s : State) (e : Nat) (f : Engine → Engine) : (modEng s e f).dramKeys = s.dramKeys := rfl
@[simp] theorem modEng_dramLost (s : State) (e : Nat) (f : Engine → Engine) : (modEng s e f).dramLost = s.dramLost := rfl
@[simp] theorem modEng_uartIn (s : State) (e : Nat) (f : Engine → Engine) : (modEng s e f).uartIn = s.uartIn := rfl
@[simp] theorem modEng_linkPower (s : State) (e : Nat) (f : Engine → Engine) : (modEng s e f).linkPower = s.linkPower := rfl
@[simp] theorem modEng_out (s : State) (e : Nat) (f : Engine → Engine) : (modEng s e f).out = s.out := rfl
@[simp] theorem modEng_thr (s : State) (e : Nat) (f : Engine → Engine) (i : Nat) : thr (modEng s e f) i = thr s i := rfl
@[simp] theorem modEng_cyl (s : State) (e : Nat) (f : Engine → Engine) (i : Nat) : cyl (modEng s e f) i = cyl s i := rfl
@[simp] theorem modEng_kring (s : State) (e : Nat) (f : Engine → Engine) (i : Nat) : kring (modEng s e f) i = kring s i := rfl
@[simp] theorem modEng_dom (s : State) (e : Nat) (f : Engine → Engine) (i : Nat) : dom (modEng s e f) i = dom s i := rfl
@[simp] theorem modEng_src (s : State) (e : Nat) (f : Engine → Engine) (i : Nat) : src (modEng s e f) i = src s i := rfl
@[simp] theorem modEng_punit (s : State) (e : Nat) (f : Engine → Engine) (j i : Nat) : punit (modEng s e f) j i = punit s j i := rfl
@[simp] theorem modEng_regGet (s : State) (e : Nat) (f : Engine → Engine) (rg : Reg) (i : Nat) : regGet (modEng s e f) rg i = regGet s rg i := rfl
@[simp] theorem modEng_cq (s : State) (e : Nat) (f : Engine → Engine) (i : Nat) : cq (modEng s e f) i = cq s i := rfl
@[simp] theorem modEng_rq (s : State) (e : Nat) (f : Engine → Engine) (i : Nat) : rq (modEng s e f) i = rq s i := rfl
@[simp] theorem modEng_sess (s : State) (e : Nat) (f : Engine → Engine) (i : Nat) : sess (modEng s e f) i = sess s i := rfl
@[simp] theorem modEng_readDigit (s : State) (e : Nat) (f : Engine → Engine) (i : Nat) : readDigit (modEng s e f) i = readDigit s i := rfl

/-! ### modDom -/

@[simp] theorem modDom_pending (s : State) (d : Nat) (f : Domain → Domain) : (modDom s d f).pending = s.pending := rfl
@[simp] theorem modDom_rdata (s : State) (d : Nat) (f : Domain → Domain) : (modDom s d f).rdata = s.rdata := rfl
@[simp] theorem modDom_free (s : State) (d : Nat) (f : Domain → Domain) : (modDom s d f).free = s.free := rfl
@[simp] theorem modDom_now (s : State) (d : Nat) (f : Domain → Domain) : (modDom s d f).now = s.now := rfl
@[simp] theorem modDom_tally (s : State) (d : Nat) (f : Domain → Domain) : (modDom s d f).tally = s.tally := rfl
@[simp] theorem modDom_regs (s : State) (d : Nat) (f : Domain → Domain) : (modDom s d f).regs = s.regs := rfl
@[simp] theorem modDom_mem (s : State) (d : Nat) (f : Domain → Domain) : (modDom s d f).mem = s.mem := rfl
@[simp] theorem modDom_poison (s : State) (d : Nat) (f : Domain → Domain) : (modDom s d f).poison = s.poison := rfl
@[simp] theorem modDom_threads (s : State) (d : Nat) (f : Domain → Domain) : (modDom s d f).threads = s.threads := rfl
@[simp] theorem modDom_cyls (s : State) (d : Nat) (f : Domain → Domain) : (modDom s d f).cyls = s.cyls := rfl
@[simp] theorem modDom_krs (s : State) (d : Nat) (f : Domain → Domain) : (modDom s d f).krs = s.krs := rfl
@[simp] theorem modDom_engs (s : State) (d : Nat) (f : Domain → Domain) : (modDom s d f).engs = s.engs := rfl
@[simp] theorem modDom_dmaTlb (s : State) (d : Nat) (f : Domain → Domain) : (modDom s d f).dmaTlb = s.dmaTlb := rfl
@[simp] theorem modDom_inval (s : State) (d : Nat) (f : Domain → Domain) : (modDom s d f).inval = s.inval := rfl
@[simp] theorem modDom_ks (s : State) (d : Nat) (f : Domain → Domain) : (modDom s d f).ks = s.ks := rfl
@[simp] theorem modDom_guard (s : State) (d : Nat) (f : Domain → Domain) : (modDom s d f).guard = s.guard := rfl
@[simp] theorem modDom_dma (s : State) (d : Nat) (f : Domain → Domain) : (modDom s d f).dma = s.dma := rfl
@[simp] theorem modDom_dmaLast (s : State) (d : Nat) (f : Domain → Domain) : (modDom s d f).dmaLast = s.dmaLast := rfl
@[simp] theorem modDom_intake (s : State) (d : Nat) (f : Domain → Domain) : (modDom s d f).intake = s.intake := rfl
@[simp] theorem modDom_kc (s : State) (d : Nat) (f : Domain → Domain) : (modDom s d f).kc = s.kc := rfl
@[simp] theorem modDom_kcPrev (s : State) (d : Nat) (f : Domain → Domain) : (modDom s d f).kcPrev = s.kcPrev := rfl
@[simp] theorem modDom_turns (s : State) (d : Nat) (f : Domain → Domain) : (modDom s d f).turns = s.turns := rfl
@[simp] theorem modDom_srcs (s : State) (d : Nat) (f : Domain → Domain) : (modDom s d f).srcs = s.srcs := rfl
@[simp] theorem modDom_arbs (s : State) (d : Nat) (f : Domain → Domain) : (modDom s d f).arbs = s.arbs := rfl
@[simp] theorem modDom_xq (s : State) (d : Nat) (f : Domain → Domain) : (modDom s d f).xq = s.xq := rfl
@[simp] theorem modDom_westad (s : State) (d : Nat) (f : Domain → Domain) : (modDom s d f).westad = s.westad := rfl
@[simp] theorem modDom_dbg (s : State) (d : Nat) (f : Domain → Domain) : (modDom s d f).dbg = s.dbg := rfl
@[simp] theorem modDom_supply (s : State) (d : Nat) (f : Domain → Domain) : (modDom s d f).supply = s.supply := rfl
@[simp] theorem modDom_keeper (s : State) (d : Nat) (f : Domain → Domain) : (modDom s d f).keeper = s.keeper := rfl
@[simp] theorem modDom_audit (s : State) (d : Nat) (f : Domain → Domain) : (modDom s d f).audit = s.audit := rfl
@[simp] theorem modDom_faults (s : State) (d : Nat) (f : Domain → Domain) : (modDom s d f).faults = s.faults := rfl
@[simp] theorem modDom_fuses (s : State) (d : Nat) (f : Domain → Domain) : (modDom s d f).fuses = s.fuses := rfl
@[simp] theorem modDom_boot (s : State) (d : Nat) (f : Domain → Domain) : (modDom s d f).boot = s.boot := rfl
@[simp] theorem modDom_req (s : State) (d : Nat) (f : Domain → Domain) : (modDom s d f).req = s.req := rfl
@[simp] theorem modDom_pins (s : State) (d : Nat) (f : Domain → Domain) : (modDom s d f).pins = s.pins := rfl
@[simp] theorem modDom_seeded (s : State) (d : Nat) (f : Domain → Domain) : (modDom s d f).seeded = s.seeded := rfl
@[simp] theorem modDom_trngBad (s : State) (d : Nat) (f : Domain → Domain) : (modDom s d f).trngBad = s.trngBad := rfl
@[simp] theorem modDom_ptpGood (s : State) (d : Nat) (f : Domain → Domain) : (modDom s d f).ptpGood = s.ptpGood := rfl
@[simp] theorem modDom_dramKeys (s : State) (d : Nat) (f : Domain → Domain) : (modDom s d f).dramKeys = s.dramKeys := rfl
@[simp] theorem modDom_dramLost (s : State) (d : Nat) (f : Domain → Domain) : (modDom s d f).dramLost = s.dramLost := rfl
@[simp] theorem modDom_uartIn (s : State) (d : Nat) (f : Domain → Domain) : (modDom s d f).uartIn = s.uartIn := rfl
@[simp] theorem modDom_linkPower (s : State) (d : Nat) (f : Domain → Domain) : (modDom s d f).linkPower = s.linkPower := rfl
@[simp] theorem modDom_out (s : State) (d : Nat) (f : Domain → Domain) : (modDom s d f).out = s.out := rfl
@[simp] theorem modDom_thr (s : State) (d : Nat) (f : Domain → Domain) (i : Nat) : thr (modDom s d f) i = thr s i := rfl
@[simp] theorem modDom_cyl (s : State) (d : Nat) (f : Domain → Domain) (i : Nat) : cyl (modDom s d f) i = cyl s i := rfl
@[simp] theorem modDom_kring (s : State) (d : Nat) (f : Domain → Domain) (i : Nat) : kring (modDom s d f) i = kring s i := rfl
@[simp] theorem modDom_eng (s : State) (d : Nat) (f : Domain → Domain) (i : Nat) : eng (modDom s d f) i = eng s i := rfl
@[simp] theorem modDom_src (s : State) (d : Nat) (f : Domain → Domain) (i : Nat) : src (modDom s d f) i = src s i := rfl
@[simp] theorem modDom_punit (s : State) (d : Nat) (f : Domain → Domain) (j i : Nat) : punit (modDom s d f) j i = punit s j i := rfl
@[simp] theorem modDom_regGet (s : State) (d : Nat) (f : Domain → Domain) (rg : Reg) (i : Nat) : regGet (modDom s d f) rg i = regGet s rg i := rfl
@[simp] theorem modDom_cq (s : State) (d : Nat) (f : Domain → Domain) (i : Nat) : cq (modDom s d f) i = cq s i := rfl
@[simp] theorem modDom_rq (s : State) (d : Nat) (f : Domain → Domain) (i : Nat) : rq (modDom s d f) i = rq s i := rfl
@[simp] theorem modDom_sess (s : State) (d : Nat) (f : Domain → Domain) (i : Nat) : sess (modDom s d f) i = sess s i := rfl
@[simp] theorem modDom_readDigit (s : State) (d : Nat) (f : Domain → Domain) (i : Nat) : readDigit (modDom s d f) i = readDigit s i := rfl

/-! ### modUnit -/

@[simp] theorem modUnit_pending (s : State) (c ix : Nat) (f : PUnit → PUnit) : (modUnit s c ix f).pending = s.pending := rfl
@[simp] theorem modUnit_rdata (s : State) (c ix : Nat) (f : PUnit → PUnit) : (modUnit s c ix f).rdata = s.rdata := rfl
@[simp] theorem modUnit_free (s : State) (c ix : Nat) (f : PUnit → PUnit) : (modUnit s c ix f).free = s.free := rfl
@[simp] theorem modUnit_now (s : State) (c ix : Nat) (f : PUnit → PUnit) : (modUnit s c ix f).now = s.now := rfl
@[simp] theorem modUnit_tally (s : State) (c ix : Nat) (f : PUnit → PUnit) : (modUnit s c ix f).tally = s.tally := rfl
@[simp] theorem modUnit_regs (s : State) (c ix : Nat) (f : PUnit → PUnit) : (modUnit s c ix f).regs = s.regs := rfl
@[simp] theorem modUnit_mem (s : State) (c ix : Nat) (f : PUnit → PUnit) : (modUnit s c ix f).mem = s.mem := rfl
@[simp] theorem modUnit_poison (s : State) (c ix : Nat) (f : PUnit → PUnit) : (modUnit s c ix f).poison = s.poison := rfl
@[simp] theorem modUnit_threads (s : State) (c ix : Nat) (f : PUnit → PUnit) : (modUnit s c ix f).threads = s.threads := rfl
@[simp] theorem modUnit_cyls (s : State) (c ix : Nat) (f : PUnit → PUnit) : (modUnit s c ix f).cyls = s.cyls := rfl
@[simp] theorem modUnit_krs (s : State) (c ix : Nat) (f : PUnit → PUnit) : (modUnit s c ix f).krs = s.krs := rfl
@[simp] theorem modUnit_engs (s : State) (c ix : Nat) (f : PUnit → PUnit) : (modUnit s c ix f).engs = s.engs := rfl
@[simp] theorem modUnit_dmaTlb (s : State) (c ix : Nat) (f : PUnit → PUnit) : (modUnit s c ix f).dmaTlb = s.dmaTlb := rfl
@[simp] theorem modUnit_inval (s : State) (c ix : Nat) (f : PUnit → PUnit) : (modUnit s c ix f).inval = s.inval := rfl
@[simp] theorem modUnit_ks (s : State) (c ix : Nat) (f : PUnit → PUnit) : (modUnit s c ix f).ks = s.ks := rfl
@[simp] theorem modUnit_guard (s : State) (c ix : Nat) (f : PUnit → PUnit) : (modUnit s c ix f).guard = s.guard := rfl
@[simp] theorem modUnit_dma (s : State) (c ix : Nat) (f : PUnit → PUnit) : (modUnit s c ix f).dma = s.dma := rfl
@[simp] theorem modUnit_dmaLast (s : State) (c ix : Nat) (f : PUnit → PUnit) : (modUnit s c ix f).dmaLast = s.dmaLast := rfl
@[simp] theorem modUnit_intake (s : State) (c ix : Nat) (f : PUnit → PUnit) : (modUnit s c ix f).intake = s.intake := rfl
@[simp] theorem modUnit_kc (s : State) (c ix : Nat) (f : PUnit → PUnit) : (modUnit s c ix f).kc = s.kc := rfl
@[simp] theorem modUnit_kcPrev (s : State) (c ix : Nat) (f : PUnit → PUnit) : (modUnit s c ix f).kcPrev = s.kcPrev := rfl
@[simp] theorem modUnit_turns (s : State) (c ix : Nat) (f : PUnit → PUnit) : (modUnit s c ix f).turns = s.turns := rfl
@[simp] theorem modUnit_srcs (s : State) (c ix : Nat) (f : PUnit → PUnit) : (modUnit s c ix f).srcs = s.srcs := rfl
@[simp] theorem modUnit_arbs (s : State) (c ix : Nat) (f : PUnit → PUnit) : (modUnit s c ix f).arbs = s.arbs := rfl
@[simp] theorem modUnit_doms (s : State) (c ix : Nat) (f : PUnit → PUnit) : (modUnit s c ix f).doms = s.doms := rfl
@[simp] theorem modUnit_xq (s : State) (c ix : Nat) (f : PUnit → PUnit) : (modUnit s c ix f).xq = s.xq := rfl
@[simp] theorem modUnit_westad (s : State) (c ix : Nat) (f : PUnit → PUnit) : (modUnit s c ix f).westad = s.westad := rfl
@[simp] theorem modUnit_dbg (s : State) (c ix : Nat) (f : PUnit → PUnit) : (modUnit s c ix f).dbg = s.dbg := rfl
@[simp] theorem modUnit_supply (s : State) (c ix : Nat) (f : PUnit → PUnit) : (modUnit s c ix f).supply = s.supply := rfl
@[simp] theorem modUnit_keeper (s : State) (c ix : Nat) (f : PUnit → PUnit) : (modUnit s c ix f).keeper = s.keeper := rfl
@[simp] theorem modUnit_audit (s : State) (c ix : Nat) (f : PUnit → PUnit) : (modUnit s c ix f).audit = s.audit := rfl
@[simp] theorem modUnit_fuses (s : State) (c ix : Nat) (f : PUnit → PUnit) : (modUnit s c ix f).fuses = s.fuses := rfl
@[simp] theorem modUnit_boot (s : State) (c ix : Nat) (f : PUnit → PUnit) : (modUnit s c ix f).boot = s.boot := rfl
@[simp] theorem modUnit_req (s : State) (c ix : Nat) (f : PUnit → PUnit) : (modUnit s c ix f).req = s.req := rfl
@[simp] theorem modUnit_pins (s : State) (c ix : Nat) (f : PUnit → PUnit) : (modUnit s c ix f).pins = s.pins := rfl
@[simp] theorem modUnit_seeded (s : State) (c ix : Nat) (f : PUnit → PUnit) : (modUnit s c ix f).seeded = s.seeded := rfl
@[simp] theorem modUnit_trngBad (s : State) (c ix : Nat) (f : PUnit → PUnit) : (modUnit s c ix f).trngBad = s.trngBad := rfl
@[simp] theorem modUnit_ptpGood (s : State) (c ix : Nat) (f : PUnit → PUnit) : (modUnit s c ix f).ptpGood = s.ptpGood := rfl
@[simp] theorem modUnit_dramKeys (s : State) (c ix : Nat) (f : PUnit → PUnit) : (modUnit s c ix f).dramKeys = s.dramKeys := rfl
@[simp] theorem modUnit_dramLost (s : State) (c ix : Nat) (f : PUnit → PUnit) : (modUnit s c ix f).dramLost = s.dramLost := rfl
@[simp] theorem modUnit_uartIn (s : State) (c ix : Nat) (f : PUnit → PUnit) : (modUnit s c ix f).uartIn = s.uartIn := rfl
@[simp] theorem modUnit_linkPower (s : State) (c ix : Nat) (f : PUnit → PUnit) : (modUnit s c ix f).linkPower = s.linkPower := rfl
@[simp] theorem modUnit_out (s : State) (c ix : Nat) (f : PUnit → PUnit) : (modUnit s c ix f).out = s.out := rfl
@[simp] theorem modUnit_thr (s : State) (c ix : Nat) (f : PUnit → PUnit) (i : Nat) : thr (modUnit s c ix f) i = thr s i := rfl
@[simp] theorem modUnit_cyl (s : State) (c ix : Nat) (f : PUnit → PUnit) (i : Nat) : cyl (modUnit s c ix f) i = cyl s i := rfl
@[simp] theorem modUnit_kring (s : State) (c ix : Nat) (f : PUnit → PUnit) (i : Nat) : kring (modUnit s c ix f) i = kring s i := rfl
@[simp] theorem modUnit_eng (s : State) (c ix : Nat) (f : PUnit → PUnit) (i : Nat) : eng (modUnit s c ix f) i = eng s i := rfl
@[simp] theorem modUnit_dom (s : State) (c ix : Nat) (f : PUnit → PUnit) (i : Nat) : dom (modUnit s c ix f) i = dom s i := rfl
@[simp] theorem modUnit_src (s : State) (c ix : Nat) (f : PUnit → PUnit) (i : Nat) : src (modUnit s c ix f) i = src s i := rfl
@[simp] theorem modUnit_regGet (s : State) (c ix : Nat) (f : PUnit → PUnit) (rg : Reg) (i : Nat) : regGet (modUnit s c ix f) rg i = regGet s rg i := rfl
@[simp] theorem modUnit_cq (s : State) (c ix : Nat) (f : PUnit → PUnit) (i : Nat) : cq (modUnit s c ix f) i = cq s i := rfl
@[simp] theorem modUnit_rq (s : State) (c ix : Nat) (f : PUnit → PUnit) (i : Nat) : rq (modUnit s c ix f) i = rq s i := rfl
@[simp] theorem modUnit_sess (s : State) (c ix : Nat) (f : PUnit → PUnit) (i : Nat) : sess (modUnit s c ix f) i = sess s i := rfl
@[simp] theorem modUnit_readDigit (s : State) (c ix : Nat) (f : PUnit → PUnit) (i : Nat) : readDigit (modUnit s c ix f) i = readDigit s i := rfl

/-! ### modSrc -/

@[simp] theorem modSrc_pending (s : State) (n : Nat) (f : Src → Src) : (modSrc s n f).pending = s.pending := rfl
@[simp] theorem modSrc_rdata (s : State) (n : Nat) (f : Src → Src) : (modSrc s n f).rdata = s.rdata := rfl
@[simp] theorem modSrc_free (s : State) (n : Nat) (f : Src → Src) : (modSrc s n f).free = s.free := rfl
@[simp] theorem modSrc_now (s : State) (n : Nat) (f : Src → Src) : (modSrc s n f).now = s.now := rfl
@[simp] theorem modSrc_tally (s : State) (n : Nat) (f : Src → Src) : (modSrc s n f).tally = s.tally := rfl
@[simp] theorem modSrc_regs (s : State) (n : Nat) (f : Src → Src) : (modSrc s n f).regs = s.regs := rfl
@[simp] theorem modSrc_mem (s : State) (n : Nat) (f : Src → Src) : (modSrc s n f).mem = s.mem := rfl
@[simp] theorem modSrc_poison (s : State) (n : Nat) (f : Src → Src) : (modSrc s n f).poison = s.poison := rfl
@[simp] theorem modSrc_threads (s : State) (n : Nat) (f : Src → Src) : (modSrc s n f).threads = s.threads := rfl
@[simp] theorem modSrc_cyls (s : State) (n : Nat) (f : Src → Src) : (modSrc s n f).cyls = s.cyls := rfl
@[simp] theorem modSrc_krs (s : State) (n : Nat) (f : Src → Src) : (modSrc s n f).krs = s.krs := rfl
@[simp] theorem modSrc_engs (s : State) (n : Nat) (f : Src → Src) : (modSrc s n f).engs = s.engs := rfl
@[simp] theorem modSrc_dmaTlb (s : State) (n : Nat) (f : Src → Src) : (modSrc s n f).dmaTlb = s.dmaTlb := rfl
@[simp] theorem modSrc_inval (s : State) (n : Nat) (f : Src → Src) : (modSrc s n f).inval = s.inval := rfl
@[simp] theorem modSrc_ks (s : State) (n : Nat) (f : Src → Src) : (modSrc s n f).ks = s.ks := rfl
@[simp] theorem modSrc_guard (s : State) (n : Nat) (f : Src → Src) : (modSrc s n f).guard = s.guard := rfl
@[simp] theorem modSrc_dma (s : State) (n : Nat) (f : Src → Src) : (modSrc s n f).dma = s.dma := rfl
@[simp] theorem modSrc_dmaLast (s : State) (n : Nat) (f : Src → Src) : (modSrc s n f).dmaLast = s.dmaLast := rfl
@[simp] theorem modSrc_intake (s : State) (n : Nat) (f : Src → Src) : (modSrc s n f).intake = s.intake := rfl
@[simp] theorem modSrc_kc (s : State) (n : Nat) (f : Src → Src) : (modSrc s n f).kc = s.kc := rfl
@[simp] theorem modSrc_kcPrev (s : State) (n : Nat) (f : Src → Src) : (modSrc s n f).kcPrev = s.kcPrev := rfl
@[simp] theorem modSrc_turns (s : State) (n : Nat) (f : Src → Src) : (modSrc s n f).turns = s.turns := rfl
@[simp] theorem modSrc_arbs (s : State) (n : Nat) (f : Src → Src) : (modSrc s n f).arbs = s.arbs := rfl
@[simp] theorem modSrc_doms (s : State) (n : Nat) (f : Src → Src) : (modSrc s n f).doms = s.doms := rfl
@[simp] theorem modSrc_xq (s : State) (n : Nat) (f : Src → Src) : (modSrc s n f).xq = s.xq := rfl
@[simp] theorem modSrc_westad (s : State) (n : Nat) (f : Src → Src) : (modSrc s n f).westad = s.westad := rfl
@[simp] theorem modSrc_dbg (s : State) (n : Nat) (f : Src → Src) : (modSrc s n f).dbg = s.dbg := rfl
@[simp] theorem modSrc_supply (s : State) (n : Nat) (f : Src → Src) : (modSrc s n f).supply = s.supply := rfl
@[simp] theorem modSrc_keeper (s : State) (n : Nat) (f : Src → Src) : (modSrc s n f).keeper = s.keeper := rfl
@[simp] theorem modSrc_audit (s : State) (n : Nat) (f : Src → Src) : (modSrc s n f).audit = s.audit := rfl
@[simp] theorem modSrc_faults (s : State) (n : Nat) (f : Src → Src) : (modSrc s n f).faults = s.faults := rfl
@[simp] theorem modSrc_fuses (s : State) (n : Nat) (f : Src → Src) : (modSrc s n f).fuses = s.fuses := rfl
@[simp] theorem modSrc_boot (s : State) (n : Nat) (f : Src → Src) : (modSrc s n f).boot = s.boot := rfl
@[simp] theorem modSrc_req (s : State) (n : Nat) (f : Src → Src) : (modSrc s n f).req = s.req := rfl
@[simp] theorem modSrc_pins (s : State) (n : Nat) (f : Src → Src) : (modSrc s n f).pins = s.pins := rfl
@[simp] theorem modSrc_seeded (s : State) (n : Nat) (f : Src → Src) : (modSrc s n f).seeded = s.seeded := rfl
@[simp] theorem modSrc_trngBad (s : State) (n : Nat) (f : Src → Src) : (modSrc s n f).trngBad = s.trngBad := rfl
@[simp] theorem modSrc_ptpGood (s : State) (n : Nat) (f : Src → Src) : (modSrc s n f).ptpGood = s.ptpGood := rfl
@[simp] theorem modSrc_dramKeys (s : State) (n : Nat) (f : Src → Src) : (modSrc s n f).dramKeys = s.dramKeys := rfl
@[simp] theorem modSrc_dramLost (s : State) (n : Nat) (f : Src → Src) : (modSrc s n f).dramLost = s.dramLost := rfl
@[simp] theorem modSrc_uartIn (s : State) (n : Nat) (f : Src → Src) : (modSrc s n f).uartIn = s.uartIn := rfl
@[simp] theorem modSrc_linkPower (s : State) (n : Nat) (f : Src → Src) : (modSrc s n f).linkPower = s.linkPower := rfl
@[simp] theorem modSrc_out (s : State) (n : Nat) (f : Src → Src) : (modSrc s n f).out = s.out := rfl
@[simp] theorem modSrc_thr (s : State) (n : Nat) (f : Src → Src) (i : Nat) : thr (modSrc s n f) i = thr s i := rfl
@[simp] theorem modSrc_cyl (s : State) (n : Nat) (f : Src → Src) (i : Nat) : cyl (modSrc s n f) i = cyl s i := rfl
@[simp] theorem modSrc_kring (s : State) (n : Nat) (f : Src → Src) (i : Nat) : kring (modSrc s n f) i = kring s i := rfl
@[simp] theorem modSrc_eng (s : State) (n : Nat) (f : Src → Src) (i : Nat) : eng (modSrc s n f) i = eng s i := rfl
@[simp] theorem modSrc_dom (s : State) (n : Nat) (f : Src → Src) (i : Nat) : dom (modSrc s n f) i = dom s i := rfl
@[simp] theorem modSrc_punit (s : State) (n : Nat) (f : Src → Src) (j i : Nat) : punit (modSrc s n f) j i = punit s j i := rfl
@[simp] theorem modSrc_regGet (s : State) (n : Nat) (f : Src → Src) (rg : Reg) (i : Nat) : regGet (modSrc s n f) rg i = regGet s rg i := rfl
@[simp] theorem modSrc_cq (s : State) (n : Nat) (f : Src → Src) (i : Nat) : cq (modSrc s n f) i = cq s i := rfl
@[simp] theorem modSrc_rq (s : State) (n : Nat) (f : Src → Src) (i : Nat) : rq (modSrc s n f) i = rq s i := rfl
@[simp] theorem modSrc_sess (s : State) (n : Nat) (f : Src → Src) (i : Nat) : sess (modSrc s n f) i = sess s i := rfl
@[simp] theorem modSrc_readDigit (s : State) (n : Nat) (f : Src → Src) (i : Nat) : readDigit (modSrc s n f) i = readDigit s i := rfl

/-! ### modKeeper -/

@[simp] theorem modKeeper_pending (s : State) (f : Keeper → Keeper) : (modKeeper s f).pending = s.pending := rfl
@[simp] theorem modKeeper_rdata (s : State) (f : Keeper → Keeper) : (modKeeper s f).rdata = s.rdata := rfl
@[simp] theorem modKeeper_free (s : State) (f : Keeper → Keeper) : (modKeeper s f).free = s.free := rfl
@[simp] theorem modKeeper_now (s : State) (f : Keeper → Keeper) : (modKeeper s f).now = s.now := rfl
@[simp] theorem modKeeper_tally (s : State) (f : Keeper → Keeper) : (modKeeper s f).tally = s.tally := rfl
@[simp] theorem modKeeper_regs (s : State) (f : Keeper → Keeper) : (modKeeper s f).regs = s.regs := rfl
@[simp] theorem modKeeper_mem (s : State) (f : Keeper → Keeper) : (modKeeper s f).mem = s.mem := rfl
@[simp] theorem modKeeper_poison (s : State) (f : Keeper → Keeper) : (modKeeper s f).poison = s.poison := rfl
@[simp] theorem modKeeper_threads (s : State) (f : Keeper → Keeper) : (modKeeper s f).threads = s.threads := rfl
@[simp] theorem modKeeper_cyls (s : State) (f : Keeper → Keeper) : (modKeeper s f).cyls = s.cyls := rfl
@[simp] theorem modKeeper_krs (s : State) (f : Keeper → Keeper) : (modKeeper s f).krs = s.krs := rfl
@[simp] theorem modKeeper_engs (s : State) (f : Keeper → Keeper) : (modKeeper s f).engs = s.engs := rfl
@[simp] theorem modKeeper_dmaTlb (s : State) (f : Keeper → Keeper) : (modKeeper s f).dmaTlb = s.dmaTlb := rfl
@[simp] theorem modKeeper_inval (s : State) (f : Keeper → Keeper) : (modKeeper s f).inval = s.inval := rfl
@[simp] theorem modKeeper_ks (s : State) (f : Keeper → Keeper) : (modKeeper s f).ks = s.ks := rfl
@[simp] theorem modKeeper_guard (s : State) (f : Keeper → Keeper) : (modKeeper s f).guard = s.guard := rfl
@[simp] theorem modKeeper_dma (s : State) (f : Keeper → Keeper) : (modKeeper s f).dma = s.dma := rfl
@[simp] theorem modKeeper_dmaLast (s : State) (f : Keeper → Keeper) : (modKeeper s f).dmaLast = s.dmaLast := rfl
@[simp] theorem modKeeper_intake (s : State) (f : Keeper → Keeper) : (modKeeper s f).intake = s.intake := rfl
@[simp] theorem modKeeper_kc (s : State) (f : Keeper → Keeper) : (modKeeper s f).kc = s.kc := rfl
@[simp] theorem modKeeper_kcPrev (s : State) (f : Keeper → Keeper) : (modKeeper s f).kcPrev = s.kcPrev := rfl
@[simp] theorem modKeeper_turns (s : State) (f : Keeper → Keeper) : (modKeeper s f).turns = s.turns := rfl
@[simp] theorem modKeeper_srcs (s : State) (f : Keeper → Keeper) : (modKeeper s f).srcs = s.srcs := rfl
@[simp] theorem modKeeper_arbs (s : State) (f : Keeper → Keeper) : (modKeeper s f).arbs = s.arbs := rfl
@[simp] theorem modKeeper_doms (s : State) (f : Keeper → Keeper) : (modKeeper s f).doms = s.doms := rfl
@[simp] theorem modKeeper_xq (s : State) (f : Keeper → Keeper) : (modKeeper s f).xq = s.xq := rfl
@[simp] theorem modKeeper_westad (s : State) (f : Keeper → Keeper) : (modKeeper s f).westad = s.westad := rfl
@[simp] theorem modKeeper_dbg (s : State) (f : Keeper → Keeper) : (modKeeper s f).dbg = s.dbg := rfl
@[simp] theorem modKeeper_supply (s : State) (f : Keeper → Keeper) : (modKeeper s f).supply = s.supply := rfl
@[simp] theorem modKeeper_audit (s : State) (f : Keeper → Keeper) : (modKeeper s f).audit = s.audit := rfl
@[simp] theorem modKeeper_faults (s : State) (f : Keeper → Keeper) : (modKeeper s f).faults = s.faults := rfl
@[simp] theorem modKeeper_fuses (s : State) (f : Keeper → Keeper) : (modKeeper s f).fuses = s.fuses := rfl
@[simp] theorem modKeeper_boot (s : State) (f : Keeper → Keeper) : (modKeeper s f).boot = s.boot := rfl
@[simp] theorem modKeeper_req (s : State) (f : Keeper → Keeper) : (modKeeper s f).req = s.req := rfl
@[simp] theorem modKeeper_pins (s : State) (f : Keeper → Keeper) : (modKeeper s f).pins = s.pins := rfl
@[simp] theorem modKeeper_seeded (s : State) (f : Keeper → Keeper) : (modKeeper s f).seeded = s.seeded := rfl
@[simp] theorem modKeeper_trngBad (s : State) (f : Keeper → Keeper) : (modKeeper s f).trngBad = s.trngBad := rfl
@[simp] theorem modKeeper_ptpGood (s : State) (f : Keeper → Keeper) : (modKeeper s f).ptpGood = s.ptpGood := rfl
@[simp] theorem modKeeper_dramKeys (s : State) (f : Keeper → Keeper) : (modKeeper s f).dramKeys = s.dramKeys := rfl
@[simp] theorem modKeeper_dramLost (s : State) (f : Keeper → Keeper) : (modKeeper s f).dramLost = s.dramLost := rfl
@[simp] theorem modKeeper_uartIn (s : State) (f : Keeper → Keeper) : (modKeeper s f).uartIn = s.uartIn := rfl
@[simp] theorem modKeeper_linkPower (s : State) (f : Keeper → Keeper) : (modKeeper s f).linkPower = s.linkPower := rfl
@[simp] theorem modKeeper_out (s : State) (f : Keeper → Keeper) : (modKeeper s f).out = s.out := rfl
@[simp] theorem modKeeper_thr (s : State) (f : Keeper → Keeper) (i : Nat) : thr (modKeeper s f) i = thr s i := rfl
@[simp] theorem modKeeper_cyl (s : State) (f : Keeper → Keeper) (i : Nat) : cyl (modKeeper s f) i = cyl s i := rfl
@[simp] theorem modKeeper_kring (s : State) (f : Keeper → Keeper) (i : Nat) : kring (modKeeper s f) i = kring s i := rfl
@[simp] theorem modKeeper_eng (s : State) (f : Keeper → Keeper) (i : Nat) : eng (modKeeper s f) i = eng s i := rfl
@[simp] theorem modKeeper_dom (s : State) (f : Keeper → Keeper) (i : Nat) : dom (modKeeper s f) i = dom s i := rfl
@[simp] theorem modKeeper_src (s : State) (f : Keeper → Keeper) (i : Nat) : src (modKeeper s f) i = src s i := rfl
@[simp] theorem modKeeper_punit (s : State) (f : Keeper → Keeper) (j i : Nat) : punit (modKeeper s f) j i = punit s j i := rfl
@[simp] theorem modKeeper_regGet (s : State) (f : Keeper → Keeper) (rg : Reg) (i : Nat) : regGet (modKeeper s f) rg i = regGet s rg i := rfl
@[simp] theorem modKeeper_cq (s : State) (f : Keeper → Keeper) (i : Nat) : cq (modKeeper s f) i = cq s i := rfl
@[simp] theorem modKeeper_rq (s : State) (f : Keeper → Keeper) (i : Nat) : rq (modKeeper s f) i = rq s i := rfl
@[simp] theorem modKeeper_sess (s : State) (f : Keeper → Keeper) (i : Nat) : sess (modKeeper s f) i = sess s i := rfl
@[simp] theorem modKeeper_readDigit (s : State) (f : Keeper → Keeper) (i : Nat) : readDigit (modKeeper s f) i = readDigit s i := rfl

/-! ### blowTamper -/

@[simp] theorem blowTamper_pending (s : State) : (blowTamper s).pending = s.pending := rfl
@[simp] theorem blowTamper_rdata (s : State) : (blowTamper s).rdata = s.rdata := rfl
@[simp] theorem blowTamper_free (s : State) : (blowTamper s).free = s.free := rfl
@[simp] theorem blowTamper_now (s : State) : (blowTamper s).now = s.now := rfl
@[simp] theorem blowTamper_tally (s : State) : (blowTamper s).tally = s.tally := rfl
@[simp] theorem blowTamper_regs (s : State) : (blowTamper s).regs = s.regs := rfl
@[simp] theorem blowTamper_mem (s : State) : (blowTamper s).mem = s.mem := rfl
@[simp] theorem blowTamper_poison (s : State) : (blowTamper s).poison = s.poison := rfl
@[simp] theorem blowTamper_threads (s : State) : (blowTamper s).threads = s.threads := rfl
@[simp] theorem blowTamper_cyls (s : State) : (blowTamper s).cyls = s.cyls := rfl
@[simp] theorem blowTamper_krs (s : State) : (blowTamper s).krs = s.krs := rfl
@[simp] theorem blowTamper_engs (s : State) : (blowTamper s).engs = s.engs := rfl
@[simp] theorem blowTamper_dmaTlb (s : State) : (blowTamper s).dmaTlb = s.dmaTlb := rfl
@[simp] theorem blowTamper_inval (s : State) : (blowTamper s).inval = s.inval := rfl
@[simp] theorem blowTamper_ks (s : State) : (blowTamper s).ks = s.ks := rfl
@[simp] theorem blowTamper_guard (s : State) : (blowTamper s).guard = s.guard := rfl
@[simp] theorem blowTamper_dma (s : State) : (blowTamper s).dma = s.dma := rfl
@[simp] theorem blowTamper_dmaLast (s : State) : (blowTamper s).dmaLast = s.dmaLast := rfl
@[simp] theorem blowTamper_intake (s : State) : (blowTamper s).intake = s.intake := rfl
@[simp] theorem blowTamper_kc (s : State) : (blowTamper s).kc = s.kc := rfl
@[simp] theorem blowTamper_kcPrev (s : State) : (blowTamper s).kcPrev = s.kcPrev := rfl
@[simp] theorem blowTamper_turns (s : State) : (blowTamper s).turns = s.turns := rfl
@[simp] theorem blowTamper_srcs (s : State) : (blowTamper s).srcs = s.srcs := rfl
@[simp] theorem blowTamper_arbs (s : State) : (blowTamper s).arbs = s.arbs := rfl
@[simp] theorem blowTamper_doms (s : State) : (blowTamper s).doms = s.doms := rfl
@[simp] theorem blowTamper_xq (s : State) : (blowTamper s).xq = s.xq := rfl
@[simp] theorem blowTamper_westad (s : State) : (blowTamper s).westad = s.westad := rfl
@[simp] theorem blowTamper_dbg (s : State) : (blowTamper s).dbg = s.dbg := rfl
@[simp] theorem blowTamper_supply (s : State) : (blowTamper s).supply = s.supply := rfl
@[simp] theorem blowTamper_keeper (s : State) : (blowTamper s).keeper = s.keeper := rfl
@[simp] theorem blowTamper_audit (s : State) : (blowTamper s).audit = s.audit := rfl
@[simp] theorem blowTamper_faults (s : State) : (blowTamper s).faults = s.faults := rfl
@[simp] theorem blowTamper_boot (s : State) : (blowTamper s).boot = s.boot := rfl
@[simp] theorem blowTamper_req (s : State) : (blowTamper s).req = s.req := rfl
@[simp] theorem blowTamper_pins (s : State) : (blowTamper s).pins = s.pins := rfl
@[simp] theorem blowTamper_seeded (s : State) : (blowTamper s).seeded = s.seeded := rfl
@[simp] theorem blowTamper_trngBad (s : State) : (blowTamper s).trngBad = s.trngBad := rfl
@[simp] theorem blowTamper_ptpGood (s : State) : (blowTamper s).ptpGood = s.ptpGood := rfl
@[simp] theorem blowTamper_dramKeys (s : State) : (blowTamper s).dramKeys = s.dramKeys := rfl
@[simp] theorem blowTamper_dramLost (s : State) : (blowTamper s).dramLost = s.dramLost := rfl
@[simp] theorem blowTamper_uartIn (s : State) : (blowTamper s).uartIn = s.uartIn := rfl
@[simp] theorem blowTamper_linkPower (s : State) : (blowTamper s).linkPower = s.linkPower := rfl
@[simp] theorem blowTamper_out (s : State) : (blowTamper s).out = s.out := rfl
@[simp] theorem blowTamper_thr (s : State) (i : Nat) : thr (blowTamper s) i = thr s i := rfl
@[simp] theorem blowTamper_cyl (s : State) (i : Nat) : cyl (blowTamper s) i = cyl s i := rfl
@[simp] theorem blowTamper_kring (s : State) (i : Nat) : kring (blowTamper s) i = kring s i := rfl
@[simp] theorem blowTamper_eng (s : State) (i : Nat) : eng (blowTamper s) i = eng s i := rfl
@[simp] theorem blowTamper_dom (s : State) (i : Nat) : dom (blowTamper s) i = dom s i := rfl
@[simp] theorem blowTamper_src (s : State) (i : Nat) : src (blowTamper s) i = src s i := rfl
@[simp] theorem blowTamper_punit (s : State) (j i : Nat) : punit (blowTamper s) j i = punit s j i := rfl
@[simp] theorem blowTamper_regGet (s : State) (rg : Reg) (i : Nat) : regGet (blowTamper s) rg i = regGet s rg i := rfl
@[simp] theorem blowTamper_cq (s : State) (i : Nat) : cq (blowTamper s) i = cq s i := rfl
@[simp] theorem blowTamper_rq (s : State) (i : Nat) : rq (blowTamper s) i = rq s i := rfl
@[simp] theorem blowTamper_sess (s : State) (i : Nat) : sess (blowTamper s) i = sess s i := rfl
@[simp] theorem blowTamper_readDigit (s : State) (i : Nat) : readDigit (blowTamper s) i = readDigit s i := rfl

/-! ### blowEpoch -/

@[simp] theorem blowEpoch_pending (s : State) : (blowEpoch s).pending = s.pending := rfl
@[simp] theorem blowEpoch_rdata (s : State) : (blowEpoch s).rdata = s.rdata := rfl
@[simp] theorem blowEpoch_free (s : State) : (blowEpoch s).free = s.free := rfl
@[simp] theorem blowEpoch_now (s : State) : (blowEpoch s).now = s.now := rfl
@[simp] theorem blowEpoch_tally (s : State) : (blowEpoch s).tally = s.tally := rfl
@[simp] theorem blowEpoch_regs (s : State) : (blowEpoch s).regs = s.regs := rfl
@[simp] theorem blowEpoch_mem (s : State) : (blowEpoch s).mem = s.mem := rfl
@[simp] theorem blowEpoch_poison (s : State) : (blowEpoch s).poison = s.poison := rfl
@[simp] theorem blowEpoch_threads (s : State) : (blowEpoch s).threads = s.threads := rfl
@[simp] theorem blowEpoch_cyls (s : State) : (blowEpoch s).cyls = s.cyls := rfl
@[simp] theorem blowEpoch_krs (s : State) : (blowEpoch s).krs = s.krs := rfl
@[simp] theorem blowEpoch_engs (s : State) : (blowEpoch s).engs = s.engs := rfl
@[simp] theorem blowEpoch_dmaTlb (s : State) : (blowEpoch s).dmaTlb = s.dmaTlb := rfl
@[simp] theorem blowEpoch_inval (s : State) : (blowEpoch s).inval = s.inval := rfl
@[simp] theorem blowEpoch_ks (s : State) : (blowEpoch s).ks = s.ks := rfl
@[simp] theorem blowEpoch_guard (s : State) : (blowEpoch s).guard = s.guard := rfl
@[simp] theorem blowEpoch_dma (s : State) : (blowEpoch s).dma = s.dma := rfl
@[simp] theorem blowEpoch_dmaLast (s : State) : (blowEpoch s).dmaLast = s.dmaLast := rfl
@[simp] theorem blowEpoch_intake (s : State) : (blowEpoch s).intake = s.intake := rfl
@[simp] theorem blowEpoch_kc (s : State) : (blowEpoch s).kc = s.kc := rfl
@[simp] theorem blowEpoch_kcPrev (s : State) : (blowEpoch s).kcPrev = s.kcPrev := rfl
@[simp] theorem blowEpoch_turns (s : State) : (blowEpoch s).turns = s.turns := rfl
@[simp] theorem blowEpoch_srcs (s : State) : (blowEpoch s).srcs = s.srcs := rfl
@[simp] theorem blowEpoch_arbs (s : State) : (blowEpoch s).arbs = s.arbs := rfl
@[simp] theorem blowEpoch_doms (s : State) : (blowEpoch s).doms = s.doms := rfl
@[simp] theorem blowEpoch_xq (s : State) : (blowEpoch s).xq = s.xq := rfl
@[simp] theorem blowEpoch_westad (s : State) : (blowEpoch s).westad = s.westad := rfl
@[simp] theorem blowEpoch_dbg (s : State) : (blowEpoch s).dbg = s.dbg := rfl
@[simp] theorem blowEpoch_supply (s : State) : (blowEpoch s).supply = s.supply := rfl
@[simp] theorem blowEpoch_keeper (s : State) : (blowEpoch s).keeper = s.keeper := rfl
@[simp] theorem blowEpoch_audit (s : State) : (blowEpoch s).audit = s.audit := rfl
@[simp] theorem blowEpoch_faults (s : State) : (blowEpoch s).faults = s.faults := rfl
@[simp] theorem blowEpoch_boot (s : State) : (blowEpoch s).boot = s.boot := rfl
@[simp] theorem blowEpoch_req (s : State) : (blowEpoch s).req = s.req := rfl
@[simp] theorem blowEpoch_pins (s : State) : (blowEpoch s).pins = s.pins := rfl
@[simp] theorem blowEpoch_seeded (s : State) : (blowEpoch s).seeded = s.seeded := rfl
@[simp] theorem blowEpoch_trngBad (s : State) : (blowEpoch s).trngBad = s.trngBad := rfl
@[simp] theorem blowEpoch_ptpGood (s : State) : (blowEpoch s).ptpGood = s.ptpGood := rfl
@[simp] theorem blowEpoch_dramKeys (s : State) : (blowEpoch s).dramKeys = s.dramKeys := rfl
@[simp] theorem blowEpoch_dramLost (s : State) : (blowEpoch s).dramLost = s.dramLost := rfl
@[simp] theorem blowEpoch_uartIn (s : State) : (blowEpoch s).uartIn = s.uartIn := rfl
@[simp] theorem blowEpoch_linkPower (s : State) : (blowEpoch s).linkPower = s.linkPower := rfl
@[simp] theorem blowEpoch_out (s : State) : (blowEpoch s).out = s.out := rfl
@[simp] theorem blowEpoch_thr (s : State) (i : Nat) : thr (blowEpoch s) i = thr s i := rfl
@[simp] theorem blowEpoch_cyl (s : State) (i : Nat) : cyl (blowEpoch s) i = cyl s i := rfl
@[simp] theorem blowEpoch_kring (s : State) (i : Nat) : kring (blowEpoch s) i = kring s i := rfl
@[simp] theorem blowEpoch_eng (s : State) (i : Nat) : eng (blowEpoch s) i = eng s i := rfl
@[simp] theorem blowEpoch_dom (s : State) (i : Nat) : dom (blowEpoch s) i = dom s i := rfl
@[simp] theorem blowEpoch_src (s : State) (i : Nat) : src (blowEpoch s) i = src s i := rfl
@[simp] theorem blowEpoch_punit (s : State) (j i : Nat) : punit (blowEpoch s) j i = punit s j i := rfl
@[simp] theorem blowEpoch_regGet (s : State) (rg : Reg) (i : Nat) : regGet (blowEpoch s) rg i = regGet s rg i := rfl
@[simp] theorem blowEpoch_cq (s : State) (i : Nat) : cq (blowEpoch s) i = cq s i := rfl
@[simp] theorem blowEpoch_rq (s : State) (i : Nat) : rq (blowEpoch s) i = rq s i := rfl
@[simp] theorem blowEpoch_sess (s : State) (i : Nat) : sess (blowEpoch s) i = sess s i := rfl
@[simp] theorem blowEpoch_readDigit (s : State) (i : Nat) : readDigit (blowEpoch s) i = readDigit s i := rfl

/-! ### quietCause -/

@[simp] theorem quietCause_pending (s : State) (c : Nat) : (quietCause s c).pending = s.pending := rfl
@[simp] theorem quietCause_rdata (s : State) (c : Nat) : (quietCause s c).rdata = s.rdata := rfl
@[simp] theorem quietCause_free (s : State) (c : Nat) : (quietCause s c).free = s.free := rfl
@[simp] theorem quietCause_now (s : State) (c : Nat) : (quietCause s c).now = s.now := rfl
@[simp] theorem quietCause_tally (s : State) (c : Nat) : (quietCause s c).tally = s.tally := rfl
@[simp] theorem quietCause_regs (s : State) (c : Nat) : (quietCause s c).regs = s.regs := rfl
@[simp] theorem quietCause_mem (s : State) (c : Nat) : (quietCause s c).mem = s.mem := rfl
@[simp] theorem quietCause_poison (s : State) (c : Nat) : (quietCause s c).poison = s.poison := rfl
@[simp] theorem quietCause_threads (s : State) (c : Nat) : (quietCause s c).threads = s.threads := rfl
@[simp] theorem quietCause_cyls (s : State) (c : Nat) : (quietCause s c).cyls = s.cyls := rfl
@[simp] theorem quietCause_krs (s : State) (c : Nat) : (quietCause s c).krs = s.krs := rfl
@[simp] theorem quietCause_engs (s : State) (c : Nat) : (quietCause s c).engs = s.engs := rfl
@[simp] theorem quietCause_dmaTlb (s : State) (c : Nat) : (quietCause s c).dmaTlb = s.dmaTlb := rfl
@[simp] theorem quietCause_inval (s : State) (c : Nat) : (quietCause s c).inval = s.inval := rfl
@[simp] theorem quietCause_ks (s : State) (c : Nat) : (quietCause s c).ks = s.ks := rfl
@[simp] theorem quietCause_guard (s : State) (c : Nat) : (quietCause s c).guard = s.guard := rfl
@[simp] theorem quietCause_dma (s : State) (c : Nat) : (quietCause s c).dma = s.dma := rfl
@[simp] theorem quietCause_dmaLast (s : State) (c : Nat) : (quietCause s c).dmaLast = s.dmaLast := rfl
@[simp] theorem quietCause_intake (s : State) (c : Nat) : (quietCause s c).intake = s.intake := rfl
@[simp] theorem quietCause_kc (s : State) (c : Nat) : (quietCause s c).kc = s.kc := rfl
@[simp] theorem quietCause_kcPrev (s : State) (c : Nat) : (quietCause s c).kcPrev = s.kcPrev := rfl
@[simp] theorem quietCause_turns (s : State) (c : Nat) : (quietCause s c).turns = s.turns := rfl
@[simp] theorem quietCause_srcs (s : State) (c : Nat) : (quietCause s c).srcs = s.srcs := rfl
@[simp] theorem quietCause_arbs (s : State) (c : Nat) : (quietCause s c).arbs = s.arbs := rfl
@[simp] theorem quietCause_doms (s : State) (c : Nat) : (quietCause s c).doms = s.doms := rfl
@[simp] theorem quietCause_xq (s : State) (c : Nat) : (quietCause s c).xq = s.xq := rfl
@[simp] theorem quietCause_westad (s : State) (c : Nat) : (quietCause s c).westad = s.westad := rfl
@[simp] theorem quietCause_dbg (s : State) (c : Nat) : (quietCause s c).dbg = s.dbg := rfl
@[simp] theorem quietCause_supply (s : State) (c : Nat) : (quietCause s c).supply = s.supply := rfl
@[simp] theorem quietCause_keeper (s : State) (c : Nat) : (quietCause s c).keeper = s.keeper := rfl
@[simp] theorem quietCause_audit (s : State) (c : Nat) : (quietCause s c).audit = s.audit := rfl
@[simp] theorem quietCause_fuses (s : State) (c : Nat) : (quietCause s c).fuses = s.fuses := rfl
@[simp] theorem quietCause_boot (s : State) (c : Nat) : (quietCause s c).boot = s.boot := rfl
@[simp] theorem quietCause_req (s : State) (c : Nat) : (quietCause s c).req = s.req := rfl
@[simp] theorem quietCause_pins (s : State) (c : Nat) : (quietCause s c).pins = s.pins := rfl
@[simp] theorem quietCause_seeded (s : State) (c : Nat) : (quietCause s c).seeded = s.seeded := rfl
@[simp] theorem quietCause_trngBad (s : State) (c : Nat) : (quietCause s c).trngBad = s.trngBad := rfl
@[simp] theorem quietCause_ptpGood (s : State) (c : Nat) : (quietCause s c).ptpGood = s.ptpGood := rfl
@[simp] theorem quietCause_dramKeys (s : State) (c : Nat) : (quietCause s c).dramKeys = s.dramKeys := rfl
@[simp] theorem quietCause_dramLost (s : State) (c : Nat) : (quietCause s c).dramLost = s.dramLost := rfl
@[simp] theorem quietCause_uartIn (s : State) (c : Nat) : (quietCause s c).uartIn = s.uartIn := rfl
@[simp] theorem quietCause_linkPower (s : State) (c : Nat) : (quietCause s c).linkPower = s.linkPower := rfl
@[simp] theorem quietCause_out (s : State) (c : Nat) : (quietCause s c).out = s.out := rfl
@[simp] theorem quietCause_thr (s : State) (c : Nat) (i : Nat) : thr (quietCause s c) i = thr s i := rfl
@[simp] theorem quietCause_cyl (s : State) (c : Nat) (i : Nat) : cyl (quietCause s c) i = cyl s i := rfl
@[simp] theorem quietCause_kring (s : State) (c : Nat) (i : Nat) : kring (quietCause s c) i = kring s i := rfl
@[simp] theorem quietCause_eng (s : State) (c : Nat) (i : Nat) : eng (quietCause s c) i = eng s i := rfl
@[simp] theorem quietCause_dom (s : State) (c : Nat) (i : Nat) : dom (quietCause s c) i = dom s i := rfl
@[simp] theorem quietCause_src (s : State) (c : Nat) (i : Nat) : src (quietCause s c) i = src s i := rfl
@[simp] theorem quietCause_regGet (s : State) (c : Nat) (rg : Reg) (i : Nat) : regGet (quietCause s c) rg i = regGet s rg i := rfl
@[simp] theorem quietCause_cq (s : State) (c : Nat) (i : Nat) : cq (quietCause s c) i = cq s i := rfl
@[simp] theorem quietCause_rq (s : State) (c : Nat) (i : Nat) : rq (quietCause s c) i = rq s i := rfl
@[simp] theorem quietCause_sess (s : State) (c : Nat) (i : Nat) : sess (quietCause s c) i = sess s i := rfl
@[simp] theorem quietCause_readDigit (s : State) (c : Nat) (i : Nat) : readDigit (quietCause s c) i = readDigit s i := rfl

/-! ### domDown -/

@[simp] theorem domDown_pending (s : State) (d : Nat) : (domDown s d).pending = s.pending := rfl
@[simp] theorem domDown_rdata (s : State) (d : Nat) : (domDown s d).rdata = s.rdata := rfl
@[simp] theorem domDown_free (s : State) (d : Nat) : (domDown s d).free = s.free := rfl
@[simp] theorem domDown_now (s : State) (d : Nat) : (domDown s d).now = s.now := rfl
@[simp] theorem domDown_tally (s : State) (d : Nat) : (domDown s d).tally = s.tally := rfl
@[simp] theorem domDown_regs (s : State) (d : Nat) : (domDown s d).regs = s.regs := rfl
@[simp] theorem domDown_mem (s : State) (d : Nat) : (domDown s d).mem = s.mem := rfl
@[simp] theorem domDown_poison (s : State) (d : Nat) : (domDown s d).poison = s.poison := rfl
@[simp] theorem domDown_threads (s : State) (d : Nat) : (domDown s d).threads = s.threads := rfl
@[simp] theorem domDown_cyls (s : State) (d : Nat) : (domDown s d).cyls = s.cyls := rfl
@[simp] theorem domDown_krs (s : State) (d : Nat) : (domDown s d).krs = s.krs := rfl
@[simp] theorem domDown_engs (s : State) (d : Nat) : (domDown s d).engs = s.engs := rfl
@[simp] theorem domDown_dmaTlb (s : State) (d : Nat) : (domDown s d).dmaTlb = s.dmaTlb := rfl
@[simp] theorem domDown_inval (s : State) (d : Nat) : (domDown s d).inval = s.inval := rfl
@[simp] theorem domDown_ks (s : State) (d : Nat) : (domDown s d).ks = s.ks := rfl
@[simp] theorem domDown_guard (s : State) (d : Nat) : (domDown s d).guard = s.guard := rfl
@[simp] theorem domDown_dma (s : State) (d : Nat) : (domDown s d).dma = s.dma := rfl
@[simp] theorem domDown_dmaLast (s : State) (d : Nat) : (domDown s d).dmaLast = s.dmaLast := rfl
@[simp] theorem domDown_intake (s : State) (d : Nat) : (domDown s d).intake = s.intake := rfl
@[simp] theorem domDown_kc (s : State) (d : Nat) : (domDown s d).kc = s.kc := rfl
@[simp] theorem domDown_kcPrev (s : State) (d : Nat) : (domDown s d).kcPrev = s.kcPrev := rfl
@[simp] theorem domDown_turns (s : State) (d : Nat) : (domDown s d).turns = s.turns := rfl
@[simp] theorem domDown_srcs (s : State) (d : Nat) : (domDown s d).srcs = s.srcs := rfl
@[simp] theorem domDown_arbs (s : State) (d : Nat) : (domDown s d).arbs = s.arbs := rfl
@[simp] theorem domDown_xq (s : State) (d : Nat) : (domDown s d).xq = s.xq := rfl
@[simp] theorem domDown_westad (s : State) (d : Nat) : (domDown s d).westad = s.westad := rfl
@[simp] theorem domDown_dbg (s : State) (d : Nat) : (domDown s d).dbg = s.dbg := rfl
@[simp] theorem domDown_supply (s : State) (d : Nat) : (domDown s d).supply = s.supply := rfl
@[simp] theorem domDown_keeper (s : State) (d : Nat) : (domDown s d).keeper = s.keeper := rfl
@[simp] theorem domDown_audit (s : State) (d : Nat) : (domDown s d).audit = s.audit := rfl
@[simp] theorem domDown_faults (s : State) (d : Nat) : (domDown s d).faults = s.faults := rfl
@[simp] theorem domDown_fuses (s : State) (d : Nat) : (domDown s d).fuses = s.fuses := rfl
@[simp] theorem domDown_boot (s : State) (d : Nat) : (domDown s d).boot = s.boot := rfl
@[simp] theorem domDown_req (s : State) (d : Nat) : (domDown s d).req = s.req := rfl
@[simp] theorem domDown_pins (s : State) (d : Nat) : (domDown s d).pins = s.pins := rfl
@[simp] theorem domDown_seeded (s : State) (d : Nat) : (domDown s d).seeded = s.seeded := rfl
@[simp] theorem domDown_trngBad (s : State) (d : Nat) : (domDown s d).trngBad = s.trngBad := rfl
@[simp] theorem domDown_ptpGood (s : State) (d : Nat) : (domDown s d).ptpGood = s.ptpGood := rfl
@[simp] theorem domDown_dramKeys (s : State) (d : Nat) : (domDown s d).dramKeys = s.dramKeys := rfl
@[simp] theorem domDown_dramLost (s : State) (d : Nat) : (domDown s d).dramLost = s.dramLost := rfl
@[simp] theorem domDown_uartIn (s : State) (d : Nat) : (domDown s d).uartIn = s.uartIn := rfl
@[simp] theorem domDown_linkPower (s : State) (d : Nat) : (domDown s d).linkPower = s.linkPower := rfl
@[simp] theorem domDown_out (s : State) (d : Nat) : (domDown s d).out = s.out := rfl
@[simp] theorem domDown_thr (s : State) (d : Nat) (i : Nat) : thr (domDown s d) i = thr s i := rfl
@[simp] theorem domDown_cyl (s : State) (d : Nat) (i : Nat) : cyl (domDown s d) i = cyl s i := rfl
@[simp] theorem domDown_kring (s : State) (d : Nat) (i : Nat) : kring (domDown s d) i = kring s i := rfl
@[simp] theorem domDown_eng (s : State) (d : Nat) (i : Nat) : eng (domDown s d) i = eng s i := rfl
@[simp] theorem domDown_src (s : State) (d : Nat) (i : Nat) : src (domDown s d) i = src s i := rfl
@[simp] theorem domDown_punit (s : State) (d : Nat) (j i : Nat) : punit (domDown s d) j i = punit s j i := rfl
@[simp] theorem domDown_regGet (s : State) (d : Nat) (rg : Reg) (i : Nat) : regGet (domDown s d) rg i = regGet s rg i := rfl
@[simp] theorem domDown_cq (s : State) (d : Nat) (i : Nat) : cq (domDown s d) i = cq s i := rfl
@[simp] theorem domDown_rq (s : State) (d : Nat) (i : Nat) : rq (domDown s d) i = rq s i := rfl
@[simp] theorem domDown_sess (s : State) (d : Nat) (i : Nat) : sess (domDown s d) i = sess s i := rfl
@[simp] theorem domDown_readDigit (s : State) (d : Nat) (i : Nat) : readDigit (domDown s d) i = readDigit s i := rfl

/-! ### clearMem -/

@[simp] theorem clearMem_pending (s : State) (lo hi : Nat) : (clearMem s lo hi).pending = s.pending := rfl
@[simp] theorem clearMem_rdata (s : State) (lo hi : Nat) : (clearMem s lo hi).rdata = s.rdata := rfl
@[simp] theorem clearMem_free (s : State) (lo hi : Nat) : (clearMem s lo hi).free = s.free := rfl
@[simp] theorem clearMem_now (s : State) (lo hi : Nat) : (clearMem s lo hi).now = s.now := rfl
@[simp] theorem clearMem_tally (s : State) (lo hi : Nat) : (clearMem s lo hi).tally = s.tally := rfl
@[simp] theorem clearMem_regs (s : State) (lo hi : Nat) : (clearMem s lo hi).regs = s.regs := rfl
@[simp] theorem clearMem_threads (s : State) (lo hi : Nat) : (clearMem s lo hi).threads = s.threads := rfl
@[simp] theorem clearMem_cyls (s : State) (lo hi : Nat) : (clearMem s lo hi).cyls = s.cyls := rfl
@[simp] theorem clearMem_krs (s : State) (lo hi : Nat) : (clearMem s lo hi).krs = s.krs := rfl
@[simp] theorem clearMem_engs (s : State) (lo hi : Nat) : (clearMem s lo hi).engs = s.engs := rfl
@[simp] theorem clearMem_dmaTlb (s : State) (lo hi : Nat) : (clearMem s lo hi).dmaTlb = s.dmaTlb := rfl
@[simp] theorem clearMem_inval (s : State) (lo hi : Nat) : (clearMem s lo hi).inval = s.inval := rfl
@[simp] theorem clearMem_ks (s : State) (lo hi : Nat) : (clearMem s lo hi).ks = s.ks := rfl
@[simp] theorem clearMem_guard (s : State) (lo hi : Nat) : (clearMem s lo hi).guard = s.guard := rfl
@[simp] theorem clearMem_dma (s : State) (lo hi : Nat) : (clearMem s lo hi).dma = s.dma := rfl
@[simp] theorem clearMem_dmaLast (s : State) (lo hi : Nat) : (clearMem s lo hi).dmaLast = s.dmaLast := rfl
@[simp] theorem clearMem_intake (s : State) (lo hi : Nat) : (clearMem s lo hi).intake = s.intake := rfl
@[simp] theorem clearMem_kc (s : State) (lo hi : Nat) : (clearMem s lo hi).kc = s.kc := rfl
@[simp] theorem clearMem_kcPrev (s : State) (lo hi : Nat) : (clearMem s lo hi).kcPrev = s.kcPrev := rfl
@[simp] theorem clearMem_turns (s : State) (lo hi : Nat) : (clearMem s lo hi).turns = s.turns := rfl
@[simp] theorem clearMem_srcs (s : State) (lo hi : Nat) : (clearMem s lo hi).srcs = s.srcs := rfl
@[simp] theorem clearMem_arbs (s : State) (lo hi : Nat) : (clearMem s lo hi).arbs = s.arbs := rfl
@[simp] theorem clearMem_doms (s : State) (lo hi : Nat) : (clearMem s lo hi).doms = s.doms := rfl
@[simp] theorem clearMem_xq (s : State) (lo hi : Nat) : (clearMem s lo hi).xq = s.xq := rfl
@[simp] theorem clearMem_westad (s : State) (lo hi : Nat) : (clearMem s lo hi).westad = s.westad := rfl
@[simp] theorem clearMem_dbg (s : State) (lo hi : Nat) : (clearMem s lo hi).dbg = s.dbg := rfl
@[simp] theorem clearMem_supply (s : State) (lo hi : Nat) : (clearMem s lo hi).supply = s.supply := rfl
@[simp] theorem clearMem_keeper (s : State) (lo hi : Nat) : (clearMem s lo hi).keeper = s.keeper := rfl
@[simp] theorem clearMem_audit (s : State) (lo hi : Nat) : (clearMem s lo hi).audit = s.audit := rfl
@[simp] theorem clearMem_faults (s : State) (lo hi : Nat) : (clearMem s lo hi).faults = s.faults := rfl
@[simp] theorem clearMem_fuses (s : State) (lo hi : Nat) : (clearMem s lo hi).fuses = s.fuses := rfl
@[simp] theorem clearMem_boot (s : State) (lo hi : Nat) : (clearMem s lo hi).boot = s.boot := rfl
@[simp] theorem clearMem_req (s : State) (lo hi : Nat) : (clearMem s lo hi).req = s.req := rfl
@[simp] theorem clearMem_pins (s : State) (lo hi : Nat) : (clearMem s lo hi).pins = s.pins := rfl
@[simp] theorem clearMem_seeded (s : State) (lo hi : Nat) : (clearMem s lo hi).seeded = s.seeded := rfl
@[simp] theorem clearMem_trngBad (s : State) (lo hi : Nat) : (clearMem s lo hi).trngBad = s.trngBad := rfl
@[simp] theorem clearMem_ptpGood (s : State) (lo hi : Nat) : (clearMem s lo hi).ptpGood = s.ptpGood := rfl
@[simp] theorem clearMem_dramKeys (s : State) (lo hi : Nat) : (clearMem s lo hi).dramKeys = s.dramKeys := rfl
@[simp] theorem clearMem_dramLost (s : State) (lo hi : Nat) : (clearMem s lo hi).dramLost = s.dramLost := rfl
@[simp] theorem clearMem_uartIn (s : State) (lo hi : Nat) : (clearMem s lo hi).uartIn = s.uartIn := rfl
@[simp] theorem clearMem_linkPower (s : State) (lo hi : Nat) : (clearMem s lo hi).linkPower = s.linkPower := rfl
@[simp] theorem clearMem_out (s : State) (lo hi : Nat) : (clearMem s lo hi).out = s.out := rfl
@[simp] theorem clearMem_thr (s : State) (lo hi : Nat) (i : Nat) : thr (clearMem s lo hi) i = thr s i := rfl
@[simp] theorem clearMem_cyl (s : State) (lo hi : Nat) (i : Nat) : cyl (clearMem s lo hi) i = cyl s i := rfl
@[simp] theorem clearMem_kring (s : State) (lo hi : Nat) (i : Nat) : kring (clearMem s lo hi) i = kring s i := rfl
@[simp] theorem clearMem_eng (s : State) (lo hi : Nat) (i : Nat) : eng (clearMem s lo hi) i = eng s i := rfl
@[simp] theorem clearMem_dom (s : State) (lo hi : Nat) (i : Nat) : dom (clearMem s lo hi) i = dom s i := rfl
@[simp] theorem clearMem_src (s : State) (lo hi : Nat) (i : Nat) : src (clearMem s lo hi) i = src s i := rfl
@[simp] theorem clearMem_punit (s : State) (lo hi : Nat) (j i : Nat) : punit (clearMem s lo hi) j i = punit s j i := rfl
@[simp] theorem clearMem_regGet (s : State) (lo hi : Nat) (rg : Reg) (i : Nat) : regGet (clearMem s lo hi) rg i = regGet s rg i := rfl
@[simp] theorem clearMem_cq (s : State) (lo hi : Nat) (i : Nat) : cq (clearMem s lo hi) i = cq s i := rfl
@[simp] theorem clearMem_rq (s : State) (lo hi : Nat) (i : Nat) : rq (clearMem s lo hi) i = rq s i := rfl
@[simp] theorem clearMem_sess (s : State) (lo hi : Nat) (i : Nat) : sess (clearMem s lo hi) i = sess s i := rfl

/-! ### loseResv -/

@[simp] theorem loseResv_pending (s : State) (b : Option Nat) (l : List Nat) : (loseResv s b l).pending = s.pending := rfl
@[simp] theorem loseResv_rdata (s : State) (b : Option Nat) (l : List Nat) : (loseResv s b l).rdata = s.rdata := rfl
@[simp] theorem loseResv_free (s : State) (b : Option Nat) (l : List Nat) : (loseResv s b l).free = s.free := rfl
@[simp] theorem loseResv_now (s : State) (b : Option Nat) (l : List Nat) : (loseResv s b l).now = s.now := rfl
@[simp] theorem loseResv_tally (s : State) (b : Option Nat) (l : List Nat) : (loseResv s b l).tally = s.tally := rfl
@[simp] theorem loseResv_regs (s : State) (b : Option Nat) (l : List Nat) : (loseResv s b l).regs = s.regs := rfl
@[simp] theorem loseResv_mem (s : State) (b : Option Nat) (l : List Nat) : (loseResv s b l).mem = s.mem := rfl
@[simp] theorem loseResv_poison (s : State) (b : Option Nat) (l : List Nat) : (loseResv s b l).poison = s.poison := rfl
@[simp] theorem loseResv_cyls (s : State) (b : Option Nat) (l : List Nat) : (loseResv s b l).cyls = s.cyls := rfl
@[simp] theorem loseResv_krs (s : State) (b : Option Nat) (l : List Nat) : (loseResv s b l).krs = s.krs := rfl
@[simp] theorem loseResv_engs (s : State) (b : Option Nat) (l : List Nat) : (loseResv s b l).engs = s.engs := rfl
@[simp] theorem loseResv_dmaTlb (s : State) (b : Option Nat) (l : List Nat) : (loseResv s b l).dmaTlb = s.dmaTlb := rfl
@[simp] theorem loseResv_inval (s : State) (b : Option Nat) (l : List Nat) : (loseResv s b l).inval = s.inval := rfl
@[simp] theorem loseResv_ks (s : State) (b : Option Nat) (l : List Nat) : (loseResv s b l).ks = s.ks := rfl
@[simp] theorem loseResv_guard (s : State) (b : Option Nat) (l : List Nat) : (loseResv s b l).guard = s.guard := rfl
@[simp] theorem loseResv_dma (s : State) (b : Option Nat) (l : List Nat) : (loseResv s b l).dma = s.dma := rfl
@[simp] theorem loseResv_dmaLast (s : State) (b : Option Nat) (l : List Nat) : (loseResv s b l).dmaLast = s.dmaLast := rfl
@[simp] theorem loseResv_intake (s : State) (b : Option Nat) (l : List Nat) : (loseResv s b l).intake = s.intake := rfl
@[simp] theorem loseResv_kc (s : State) (b : Option Nat) (l : List Nat) : (loseResv s b l).kc = s.kc := rfl
@[simp] theorem loseResv_kcPrev (s : State) (b : Option Nat) (l : List Nat) : (loseResv s b l).kcPrev = s.kcPrev := rfl
@[simp] theorem loseResv_turns (s : State) (b : Option Nat) (l : List Nat) : (loseResv s b l).turns = s.turns := rfl
@[simp] theorem loseResv_srcs (s : State) (b : Option Nat) (l : List Nat) : (loseResv s b l).srcs = s.srcs := rfl
@[simp] theorem loseResv_arbs (s : State) (b : Option Nat) (l : List Nat) : (loseResv s b l).arbs = s.arbs := rfl
@[simp] theorem loseResv_doms (s : State) (b : Option Nat) (l : List Nat) : (loseResv s b l).doms = s.doms := rfl
@[simp] theorem loseResv_xq (s : State) (b : Option Nat) (l : List Nat) : (loseResv s b l).xq = s.xq := rfl
@[simp] theorem loseResv_westad (s : State) (b : Option Nat) (l : List Nat) : (loseResv s b l).westad = s.westad := rfl
@[simp] theorem loseResv_dbg (s : State) (b : Option Nat) (l : List Nat) : (loseResv s b l).dbg = s.dbg := rfl
@[simp] theorem loseResv_supply (s : State) (b : Option Nat) (l : List Nat) : (loseResv s b l).supply = s.supply := rfl
@[simp] theorem loseResv_keeper (s : State) (b : Option Nat) (l : List Nat) : (loseResv s b l).keeper = s.keeper := rfl
@[simp] theorem loseResv_audit (s : State) (b : Option Nat) (l : List Nat) : (loseResv s b l).audit = s.audit := rfl
@[simp] theorem loseResv_faults (s : State) (b : Option Nat) (l : List Nat) : (loseResv s b l).faults = s.faults := rfl
@[simp] theorem loseResv_fuses (s : State) (b : Option Nat) (l : List Nat) : (loseResv s b l).fuses = s.fuses := rfl
@[simp] theorem loseResv_boot (s : State) (b : Option Nat) (l : List Nat) : (loseResv s b l).boot = s.boot := rfl
@[simp] theorem loseResv_req (s : State) (b : Option Nat) (l : List Nat) : (loseResv s b l).req = s.req := rfl
@[simp] theorem loseResv_pins (s : State) (b : Option Nat) (l : List Nat) : (loseResv s b l).pins = s.pins := rfl
@[simp] theorem loseResv_seeded (s : State) (b : Option Nat) (l : List Nat) : (loseResv s b l).seeded = s.seeded := rfl
@[simp] theorem loseResv_trngBad (s : State) (b : Option Nat) (l : List Nat) : (loseResv s b l).trngBad = s.trngBad := rfl
@[simp] theorem loseResv_ptpGood (s : State) (b : Option Nat) (l : List Nat) : (loseResv s b l).ptpGood = s.ptpGood := rfl
@[simp] theorem loseResv_dramKeys (s : State) (b : Option Nat) (l : List Nat) : (loseResv s b l).dramKeys = s.dramKeys := rfl
@[simp] theorem loseResv_dramLost (s : State) (b : Option Nat) (l : List Nat) : (loseResv s b l).dramLost = s.dramLost := rfl
@[simp] theorem loseResv_uartIn (s : State) (b : Option Nat) (l : List Nat) : (loseResv s b l).uartIn = s.uartIn := rfl
@[simp] theorem loseResv_linkPower (s : State) (b : Option Nat) (l : List Nat) : (loseResv s b l).linkPower = s.linkPower := rfl
@[simp] theorem loseResv_out (s : State) (b : Option Nat) (l : List Nat) : (loseResv s b l).out = s.out := rfl
@[simp] theorem loseResv_cyl (s : State) (b : Option Nat) (l : List Nat) (i : Nat) : cyl (loseResv s b l) i = cyl s i := rfl
@[simp] theorem loseResv_kring (s : State) (b : Option Nat) (l : List Nat) (i : Nat) : kring (loseResv s b l) i = kring s i := rfl
@[simp] theorem loseResv_eng (s : State) (b : Option Nat) (l : List Nat) (i : Nat) : eng (loseResv s b l) i = eng s i := rfl
@[simp] theorem loseResv_dom (s : State) (b : Option Nat) (l : List Nat) (i : Nat) : dom (loseResv s b l) i = dom s i := rfl
@[simp] theorem loseResv_src (s : State) (b : Option Nat) (l : List Nat) (i : Nat) : src (loseResv s b l) i = src s i := rfl
@[simp] theorem loseResv_punit (s : State) (b : Option Nat) (l : List Nat) (j i : Nat) : punit (loseResv s b l) j i = punit s j i := rfl
@[simp] theorem loseResv_regGet (s : State) (b : Option Nat) (l : List Nat) (rg : Reg) (i : Nat) : regGet (loseResv s b l) rg i = regGet s rg i := rfl
@[simp] theorem loseResv_cq (s : State) (b : Option Nat) (l : List Nat) (i : Nat) : cq (loseResv s b l) i = cq s i := rfl
@[simp] theorem loseResv_rq (s : State) (b : Option Nat) (l : List Nat) (i : Nat) : rq (loseResv s b l) i = rq s i := rfl
@[simp] theorem loseResv_sess (s : State) (b : Option Nat) (l : List Nat) (i : Nat) : sess (loseResv s b l) i = sess s i := rfl
@[simp] theorem loseResv_readDigit (s : State) (b : Option Nat) (l : List Nat) (i : Nat) : readDigit (loseResv s b l) i = readDigit s i := rfl

/-! ### storeAt -/

@[simp] theorem storeAt_pending (s : State) (b : Option Nat) (a : Nat) (ds : List Digit) (bad : Bool) : (storeAt s b a ds bad).pending = s.pending := rfl
@[simp] theorem storeAt_rdata (s : State) (b : Option Nat) (a : Nat) (ds : List Digit) (bad : Bool) : (storeAt s b a ds bad).rdata = s.rdata := rfl
@[simp] theorem storeAt_free (s : State) (b : Option Nat) (a : Nat) (ds : List Digit) (bad : Bool) : (storeAt s b a ds bad).free = s.free := rfl
@[simp] theorem storeAt_now (s : State) (b : Option Nat) (a : Nat) (ds : List Digit) (bad : Bool) : (storeAt s b a ds bad).now = s.now := rfl
@[simp] theorem storeAt_tally (s : State) (b : Option Nat) (a : Nat) (ds : List Digit) (bad : Bool) : (storeAt s b a ds bad).tally = s.tally := rfl
@[simp] theorem storeAt_regs (s : State) (b : Option Nat) (a : Nat) (ds : List Digit) (bad : Bool) : (storeAt s b a ds bad).regs = s.regs := rfl
@[simp] theorem storeAt_cyls (s : State) (b : Option Nat) (a : Nat) (ds : List Digit) (bad : Bool) : (storeAt s b a ds bad).cyls = s.cyls := rfl
@[simp] theorem storeAt_krs (s : State) (b : Option Nat) (a : Nat) (ds : List Digit) (bad : Bool) : (storeAt s b a ds bad).krs = s.krs := rfl
@[simp] theorem storeAt_engs (s : State) (b : Option Nat) (a : Nat) (ds : List Digit) (bad : Bool) : (storeAt s b a ds bad).engs = s.engs := rfl
@[simp] theorem storeAt_dmaTlb (s : State) (b : Option Nat) (a : Nat) (ds : List Digit) (bad : Bool) : (storeAt s b a ds bad).dmaTlb = s.dmaTlb := rfl
@[simp] theorem storeAt_inval (s : State) (b : Option Nat) (a : Nat) (ds : List Digit) (bad : Bool) : (storeAt s b a ds bad).inval = s.inval := rfl
@[simp] theorem storeAt_ks (s : State) (b : Option Nat) (a : Nat) (ds : List Digit) (bad : Bool) : (storeAt s b a ds bad).ks = s.ks := rfl
@[simp] theorem storeAt_guard (s : State) (b : Option Nat) (a : Nat) (ds : List Digit) (bad : Bool) : (storeAt s b a ds bad).guard = s.guard := rfl
@[simp] theorem storeAt_dma (s : State) (b : Option Nat) (a : Nat) (ds : List Digit) (bad : Bool) : (storeAt s b a ds bad).dma = s.dma := rfl
@[simp] theorem storeAt_dmaLast (s : State) (b : Option Nat) (a : Nat) (ds : List Digit) (bad : Bool) : (storeAt s b a ds bad).dmaLast = s.dmaLast := rfl
@[simp] theorem storeAt_intake (s : State) (b : Option Nat) (a : Nat) (ds : List Digit) (bad : Bool) : (storeAt s b a ds bad).intake = s.intake := rfl
@[simp] theorem storeAt_kc (s : State) (b : Option Nat) (a : Nat) (ds : List Digit) (bad : Bool) : (storeAt s b a ds bad).kc = s.kc := rfl
@[simp] theorem storeAt_kcPrev (s : State) (b : Option Nat) (a : Nat) (ds : List Digit) (bad : Bool) : (storeAt s b a ds bad).kcPrev = s.kcPrev := rfl
@[simp] theorem storeAt_turns (s : State) (b : Option Nat) (a : Nat) (ds : List Digit) (bad : Bool) : (storeAt s b a ds bad).turns = s.turns := rfl
@[simp] theorem storeAt_srcs (s : State) (b : Option Nat) (a : Nat) (ds : List Digit) (bad : Bool) : (storeAt s b a ds bad).srcs = s.srcs := rfl
@[simp] theorem storeAt_arbs (s : State) (b : Option Nat) (a : Nat) (ds : List Digit) (bad : Bool) : (storeAt s b a ds bad).arbs = s.arbs := rfl
@[simp] theorem storeAt_doms (s : State) (b : Option Nat) (a : Nat) (ds : List Digit) (bad : Bool) : (storeAt s b a ds bad).doms = s.doms := rfl
@[simp] theorem storeAt_xq (s : State) (b : Option Nat) (a : Nat) (ds : List Digit) (bad : Bool) : (storeAt s b a ds bad).xq = s.xq := rfl
@[simp] theorem storeAt_westad (s : State) (b : Option Nat) (a : Nat) (ds : List Digit) (bad : Bool) : (storeAt s b a ds bad).westad = s.westad := rfl
@[simp] theorem storeAt_dbg (s : State) (b : Option Nat) (a : Nat) (ds : List Digit) (bad : Bool) : (storeAt s b a ds bad).dbg = s.dbg := rfl
@[simp] theorem storeAt_supply (s : State) (b : Option Nat) (a : Nat) (ds : List Digit) (bad : Bool) : (storeAt s b a ds bad).supply = s.supply := rfl
@[simp] theorem storeAt_keeper (s : State) (b : Option Nat) (a : Nat) (ds : List Digit) (bad : Bool) : (storeAt s b a ds bad).keeper = s.keeper := rfl
@[simp] theorem storeAt_audit (s : State) (b : Option Nat) (a : Nat) (ds : List Digit) (bad : Bool) : (storeAt s b a ds bad).audit = s.audit := rfl
@[simp] theorem storeAt_faults (s : State) (b : Option Nat) (a : Nat) (ds : List Digit) (bad : Bool) : (storeAt s b a ds bad).faults = s.faults := rfl
@[simp] theorem storeAt_fuses (s : State) (b : Option Nat) (a : Nat) (ds : List Digit) (bad : Bool) : (storeAt s b a ds bad).fuses = s.fuses := rfl
@[simp] theorem storeAt_boot (s : State) (b : Option Nat) (a : Nat) (ds : List Digit) (bad : Bool) : (storeAt s b a ds bad).boot = s.boot := rfl
@[simp] theorem storeAt_req (s : State) (b : Option Nat) (a : Nat) (ds : List Digit) (bad : Bool) : (storeAt s b a ds bad).req = s.req := rfl
@[simp] theorem storeAt_pins (s : State) (b : Option Nat) (a : Nat) (ds : List Digit) (bad : Bool) : (storeAt s b a ds bad).pins = s.pins := rfl
@[simp] theorem storeAt_seeded (s : State) (b : Option Nat) (a : Nat) (ds : List Digit) (bad : Bool) : (storeAt s b a ds bad).seeded = s.seeded := rfl
@[simp] theorem storeAt_trngBad (s : State) (b : Option Nat) (a : Nat) (ds : List Digit) (bad : Bool) : (storeAt s b a ds bad).trngBad = s.trngBad := rfl
@[simp] theorem storeAt_ptpGood (s : State) (b : Option Nat) (a : Nat) (ds : List Digit) (bad : Bool) : (storeAt s b a ds bad).ptpGood = s.ptpGood := rfl
@[simp] theorem storeAt_dramKeys (s : State) (b : Option Nat) (a : Nat) (ds : List Digit) (bad : Bool) : (storeAt s b a ds bad).dramKeys = s.dramKeys := rfl
@[simp] theorem storeAt_dramLost (s : State) (b : Option Nat) (a : Nat) (ds : List Digit) (bad : Bool) : (storeAt s b a ds bad).dramLost = s.dramLost := rfl
@[simp] theorem storeAt_uartIn (s : State) (b : Option Nat) (a : Nat) (ds : List Digit) (bad : Bool) : (storeAt s b a ds bad).uartIn = s.uartIn := rfl
@[simp] theorem storeAt_linkPower (s : State) (b : Option Nat) (a : Nat) (ds : List Digit) (bad : Bool) : (storeAt s b a ds bad).linkPower = s.linkPower := rfl
@[simp] theorem storeAt_out (s : State) (b : Option Nat) (a : Nat) (ds : List Digit) (bad : Bool) : (storeAt s b a ds bad).out = s.out := rfl
@[simp] theorem storeAt_cyl (s : State) (b : Option Nat) (a : Nat) (ds : List Digit) (bad : Bool) (i : Nat) : cyl (storeAt s b a ds bad) i = cyl s i := rfl
@[simp] theorem storeAt_kring (s : State) (b : Option Nat) (a : Nat) (ds : List Digit) (bad : Bool) (i : Nat) : kring (storeAt s b a ds bad) i = kring s i := rfl
@[simp] theorem storeAt_eng (s : State) (b : Option Nat) (a : Nat) (ds : List Digit) (bad : Bool) (i : Nat) : eng (storeAt s b a ds bad) i = eng s i := rfl
@[simp] theorem storeAt_dom (s : State) (b : Option Nat) (a : Nat) (ds : List Digit) (bad : Bool) (i : Nat) : dom (storeAt s b a ds bad) i = dom s i := rfl
@[simp] theorem storeAt_src (s : State) (b : Option Nat) (a : Nat) (ds : List Digit) (bad : Bool) (i : Nat) : src (storeAt s b a ds bad) i = src s i := rfl
@[simp] theorem storeAt_punit (s : State) (b : Option Nat) (a : Nat) (ds : List Digit) (bad : Bool) (j i : Nat) : punit (storeAt s b a ds bad) j i = punit s j i := rfl
@[simp] theorem storeAt_regGet (s : State) (b : Option Nat) (a : Nat) (ds : List Digit) (bad : Bool) (rg : Reg) (i : Nat) : regGet (storeAt s b a ds bad) rg i = regGet s rg i := rfl
@[simp] theorem storeAt_cq (s : State) (b : Option Nat) (a : Nat) (ds : List Digit) (bad : Bool) (i : Nat) : cq (storeAt s b a ds bad) i = cq s i := rfl
@[simp] theorem storeAt_rq (s : State) (b : Option Nat) (a : Nat) (ds : List Digit) (bad : Bool) (i : Nat) : rq (storeAt s b a ds bad) i = rq s i := rfl
@[simp] theorem storeAt_sess (s : State) (b : Option Nat) (a : Nat) (ds : List Digit) (bad : Bool) (i : Nat) : sess (storeAt s b a ds bad) i = sess s i := rfl

/-! ### modCq -/

@[simp] theorem modCq_pending (s : State) (q : Nat) (f : CmdQueue → CmdQueue) : (modCq s q f).pending = s.pending := rfl
@[simp] theorem modCq_rdata (s : State) (q : Nat) (f : CmdQueue → CmdQueue) : (modCq s q f).rdata = s.rdata := rfl
@[simp] theorem modCq_free (s : State) (q : Nat) (f : CmdQueue → CmdQueue) : (modCq s q f).free = s.free := rfl
@[simp] theorem modCq_now (s : State) (q : Nat) (f : CmdQueue → CmdQueue) : (modCq s q f).now = s.now := rfl
@[simp] theorem modCq_tally (s : State) (q : Nat) (f : CmdQueue → CmdQueue) : (modCq s q f).tally = s.tally := rfl
@[simp] theorem modCq_regs (s : State) (q : Nat) (f : CmdQueue → CmdQueue) : (modCq s q f).regs = s.regs := rfl
@[simp] theorem modCq_mem (s : State) (q : Nat) (f : CmdQueue → CmdQueue) : (modCq s q f).mem = s.mem := rfl
@[simp] theorem modCq_poison (s : State) (q : Nat) (f : CmdQueue → CmdQueue) : (modCq s q f).poison = s.poison := rfl
@[simp] theorem modCq_threads (s : State) (q : Nat) (f : CmdQueue → CmdQueue) : (modCq s q f).threads = s.threads := rfl
@[simp] theorem modCq_cyls (s : State) (q : Nat) (f : CmdQueue → CmdQueue) : (modCq s q f).cyls = s.cyls := rfl
@[simp] theorem modCq_krs (s : State) (q : Nat) (f : CmdQueue → CmdQueue) : (modCq s q f).krs = s.krs := rfl
@[simp] theorem modCq_engs (s : State) (q : Nat) (f : CmdQueue → CmdQueue) : (modCq s q f).engs = s.engs := rfl
@[simp] theorem modCq_dmaTlb (s : State) (q : Nat) (f : CmdQueue → CmdQueue) : (modCq s q f).dmaTlb = s.dmaTlb := rfl
@[simp] theorem modCq_inval (s : State) (q : Nat) (f : CmdQueue → CmdQueue) : (modCq s q f).inval = s.inval := rfl
@[simp] theorem modCq_ks (s : State) (q : Nat) (f : CmdQueue → CmdQueue) : (modCq s q f).ks = s.ks := rfl
@[simp] theorem modCq_guard (s : State) (q : Nat) (f : CmdQueue → CmdQueue) : (modCq s q f).guard = s.guard := rfl
@[simp] theorem modCq_dma (s : State) (q : Nat) (f : CmdQueue → CmdQueue) : (modCq s q f).dma = s.dma := rfl
@[simp] theorem modCq_dmaLast (s : State) (q : Nat) (f : CmdQueue → CmdQueue) : (modCq s q f).dmaLast = s.dmaLast := rfl
@[simp] theorem modCq_kc (s : State) (q : Nat) (f : CmdQueue → CmdQueue) : (modCq s q f).kc = s.kc := rfl
@[simp] theorem modCq_kcPrev (s : State) (q : Nat) (f : CmdQueue → CmdQueue) : (modCq s q f).kcPrev = s.kcPrev := rfl
@[simp] theorem modCq_turns (s : State) (q : Nat) (f : CmdQueue → CmdQueue) : (modCq s q f).turns = s.turns := rfl
@[simp] theorem modCq_srcs (s : State) (q : Nat) (f : CmdQueue → CmdQueue) : (modCq s q f).srcs = s.srcs := rfl
@[simp] theorem modCq_arbs (s : State) (q : Nat) (f : CmdQueue → CmdQueue) : (modCq s q f).arbs = s.arbs := rfl
@[simp] theorem modCq_doms (s : State) (q : Nat) (f : CmdQueue → CmdQueue) : (modCq s q f).doms = s.doms := rfl
@[simp] theorem modCq_xq (s : State) (q : Nat) (f : CmdQueue → CmdQueue) : (modCq s q f).xq = s.xq := rfl
@[simp] theorem modCq_westad (s : State) (q : Nat) (f : CmdQueue → CmdQueue) : (modCq s q f).westad = s.westad := rfl
@[simp] theorem modCq_dbg (s : State) (q : Nat) (f : CmdQueue → CmdQueue) : (modCq s q f).dbg = s.dbg := rfl
@[simp] theorem modCq_supply (s : State) (q : Nat) (f : CmdQueue → CmdQueue) : (modCq s q f).supply = s.supply := rfl
@[simp] theorem modCq_keeper (s : State) (q : Nat) (f : CmdQueue → CmdQueue) : (modCq s q f).keeper = s.keeper := rfl
@[simp] theorem modCq_audit (s : State) (q : Nat) (f : CmdQueue → CmdQueue) : (modCq s q f).audit = s.audit := rfl
@[simp] theorem modCq_faults (s : State) (q : Nat) (f : CmdQueue → CmdQueue) : (modCq s q f).faults = s.faults := rfl
@[simp] theorem modCq_fuses (s : State) (q : Nat) (f : CmdQueue → CmdQueue) : (modCq s q f).fuses = s.fuses := rfl
@[simp] theorem modCq_boot (s : State) (q : Nat) (f : CmdQueue → CmdQueue) : (modCq s q f).boot = s.boot := rfl
@[simp] theorem modCq_req (s : State) (q : Nat) (f : CmdQueue → CmdQueue) : (modCq s q f).req = s.req := rfl
@[simp] theorem modCq_pins (s : State) (q : Nat) (f : CmdQueue → CmdQueue) : (modCq s q f).pins = s.pins := rfl
@[simp] theorem modCq_seeded (s : State) (q : Nat) (f : CmdQueue → CmdQueue) : (modCq s q f).seeded = s.seeded := rfl
@[simp] theorem modCq_trngBad (s : State) (q : Nat) (f : CmdQueue → CmdQueue) : (modCq s q f).trngBad = s.trngBad := rfl
@[simp] theorem modCq_ptpGood (s : State) (q : Nat) (f : CmdQueue → CmdQueue) : (modCq s q f).ptpGood = s.ptpGood := rfl
@[simp] theorem modCq_dramKeys (s : State) (q : Nat) (f : CmdQueue → CmdQueue) : (modCq s q f).dramKeys = s.dramKeys := rfl
@[simp] theorem modCq_dramLost (s : State) (q : Nat) (f : CmdQueue → CmdQueue) : (modCq s q f).dramLost = s.dramLost := rfl
@[simp] theorem modCq_uartIn (s : State) (q : Nat) (f : CmdQueue → CmdQueue) : (modCq s q f).uartIn = s.uartIn := rfl
@[simp] theorem modCq_linkPower (s : State) (q : Nat) (f : CmdQueue → CmdQueue) : (modCq s q f).linkPower = s.linkPower := rfl
@[simp] theorem modCq_out (s : State) (q : Nat) (f : CmdQueue → CmdQueue) : (modCq s q f).out = s.out := rfl
@[simp] theorem modCq_thr (s : State) (q : Nat) (f : CmdQueue → CmdQueue) (i : Nat) : thr (modCq s q f) i = thr s i := rfl
@[simp] theorem modCq_cyl (s : State) (q : Nat) (f : CmdQueue → CmdQueue) (i : Nat) : cyl (modCq s q f) i = cyl s i := rfl
@[simp] theorem modCq_kring (s : State) (q : Nat) (f : CmdQueue → CmdQueue) (i : Nat) : kring (modCq s q f) i = kring s i := rfl
@[simp] theorem modCq_eng (s : State) (q : Nat) (f : CmdQueue → CmdQueue) (i : Nat) : eng (modCq s q f) i = eng s i := rfl
@[simp] theorem modCq_dom (s : State) (q : Nat) (f : CmdQueue → CmdQueue) (i : Nat) : dom (modCq s q f) i = dom s i := rfl
@[simp] theorem modCq_src (s : State) (q : Nat) (f : CmdQueue → CmdQueue) (i : Nat) : src (modCq s q f) i = src s i := rfl
@[simp] theorem modCq_punit (s : State) (q : Nat) (f : CmdQueue → CmdQueue) (j i : Nat) : punit (modCq s q f) j i = punit s j i := rfl
@[simp] theorem modCq_regGet (s : State) (q : Nat) (f : CmdQueue → CmdQueue) (rg : Reg) (i : Nat) : regGet (modCq s q f) rg i = regGet s rg i := rfl
@[simp] theorem modCq_readDigit (s : State) (q : Nat) (f : CmdQueue → CmdQueue) (i : Nat) : readDigit (modCq s q f) i = readDigit s i := rfl

/-! ### modRq -/

@[simp] theorem modRq_pending (s : State) (q : Nat) (f : RespQueue → RespQueue) : (modRq s q f).pending = s.pending := rfl
@[simp] theorem modRq_rdata (s : State) (q : Nat) (f : RespQueue → RespQueue) : (modRq s q f).rdata = s.rdata := rfl
@[simp] theorem modRq_free (s : State) (q : Nat) (f : RespQueue → RespQueue) : (modRq s q f).free = s.free := rfl
@[simp] theorem modRq_now (s : State) (q : Nat) (f : RespQueue → RespQueue) : (modRq s q f).now = s.now := rfl
@[simp] theorem modRq_tally (s : State) (q : Nat) (f : RespQueue → RespQueue) : (modRq s q f).tally = s.tally := rfl
@[simp] theorem modRq_regs (s : State) (q : Nat) (f : RespQueue → RespQueue) : (modRq s q f).regs = s.regs := rfl
@[simp] theorem modRq_mem (s : State) (q : Nat) (f : RespQueue → RespQueue) : (modRq s q f).mem = s.mem := rfl
@[simp] theorem modRq_poison (s : State) (q : Nat) (f : RespQueue → RespQueue) : (modRq s q f).poison = s.poison := rfl
@[simp] theorem modRq_threads (s : State) (q : Nat) (f : RespQueue → RespQueue) : (modRq s q f).threads = s.threads := rfl
@[simp] theorem modRq_cyls (s : State) (q : Nat) (f : RespQueue → RespQueue) : (modRq s q f).cyls = s.cyls := rfl
@[simp] theorem modRq_krs (s : State) (q : Nat) (f : RespQueue → RespQueue) : (modRq s q f).krs = s.krs := rfl
@[simp] theorem modRq_engs (s : State) (q : Nat) (f : RespQueue → RespQueue) : (modRq s q f).engs = s.engs := rfl
@[simp] theorem modRq_dmaTlb (s : State) (q : Nat) (f : RespQueue → RespQueue) : (modRq s q f).dmaTlb = s.dmaTlb := rfl
@[simp] theorem modRq_inval (s : State) (q : Nat) (f : RespQueue → RespQueue) : (modRq s q f).inval = s.inval := rfl
@[simp] theorem modRq_ks (s : State) (q : Nat) (f : RespQueue → RespQueue) : (modRq s q f).ks = s.ks := rfl
@[simp] theorem modRq_guard (s : State) (q : Nat) (f : RespQueue → RespQueue) : (modRq s q f).guard = s.guard := rfl
@[simp] theorem modRq_dma (s : State) (q : Nat) (f : RespQueue → RespQueue) : (modRq s q f).dma = s.dma := rfl
@[simp] theorem modRq_dmaLast (s : State) (q : Nat) (f : RespQueue → RespQueue) : (modRq s q f).dmaLast = s.dmaLast := rfl
@[simp] theorem modRq_kc (s : State) (q : Nat) (f : RespQueue → RespQueue) : (modRq s q f).kc = s.kc := rfl
@[simp] theorem modRq_kcPrev (s : State) (q : Nat) (f : RespQueue → RespQueue) : (modRq s q f).kcPrev = s.kcPrev := rfl
@[simp] theorem modRq_turns (s : State) (q : Nat) (f : RespQueue → RespQueue) : (modRq s q f).turns = s.turns := rfl
@[simp] theorem modRq_srcs (s : State) (q : Nat) (f : RespQueue → RespQueue) : (modRq s q f).srcs = s.srcs := rfl
@[simp] theorem modRq_arbs (s : State) (q : Nat) (f : RespQueue → RespQueue) : (modRq s q f).arbs = s.arbs := rfl
@[simp] theorem modRq_doms (s : State) (q : Nat) (f : RespQueue → RespQueue) : (modRq s q f).doms = s.doms := rfl
@[simp] theorem modRq_xq (s : State) (q : Nat) (f : RespQueue → RespQueue) : (modRq s q f).xq = s.xq := rfl
@[simp] theorem modRq_westad (s : State) (q : Nat) (f : RespQueue → RespQueue) : (modRq s q f).westad = s.westad := rfl
@[simp] theorem modRq_dbg (s : State) (q : Nat) (f : RespQueue → RespQueue) : (modRq s q f).dbg = s.dbg := rfl
@[simp] theorem modRq_supply (s : State) (q : Nat) (f : RespQueue → RespQueue) : (modRq s q f).supply = s.supply := rfl
@[simp] theorem modRq_keeper (s : State) (q : Nat) (f : RespQueue → RespQueue) : (modRq s q f).keeper = s.keeper := rfl
@[simp] theorem modRq_audit (s : State) (q : Nat) (f : RespQueue → RespQueue) : (modRq s q f).audit = s.audit := rfl
@[simp] theorem modRq_faults (s : State) (q : Nat) (f : RespQueue → RespQueue) : (modRq s q f).faults = s.faults := rfl
@[simp] theorem modRq_fuses (s : State) (q : Nat) (f : RespQueue → RespQueue) : (modRq s q f).fuses = s.fuses := rfl
@[simp] theorem modRq_boot (s : State) (q : Nat) (f : RespQueue → RespQueue) : (modRq s q f).boot = s.boot := rfl
@[simp] theorem modRq_req (s : State) (q : Nat) (f : RespQueue → RespQueue) : (modRq s q f).req = s.req := rfl
@[simp] theorem modRq_pins (s : State) (q : Nat) (f : RespQueue → RespQueue) : (modRq s q f).pins = s.pins := rfl
@[simp] theorem modRq_seeded (s : State) (q : Nat) (f : RespQueue → RespQueue) : (modRq s q f).seeded = s.seeded := rfl
@[simp] theorem modRq_trngBad (s : State) (q : Nat) (f : RespQueue → RespQueue) : (modRq s q f).trngBad = s.trngBad := rfl
@[simp] theorem modRq_ptpGood (s : State) (q : Nat) (f : RespQueue → RespQueue) : (modRq s q f).ptpGood = s.ptpGood := rfl
@[simp] theorem modRq_dramKeys (s : State) (q : Nat) (f : RespQueue → RespQueue) : (modRq s q f).dramKeys = s.dramKeys := rfl
@[simp] theorem modRq_dramLost (s : State) (q : Nat) (f : RespQueue → RespQueue) : (modRq s q f).dramLost = s.dramLost := rfl
@[simp] theorem modRq_uartIn (s : State) (q : Nat) (f : RespQueue → RespQueue) : (modRq s q f).uartIn = s.uartIn := rfl
@[simp] theorem modRq_linkPower (s : State) (q : Nat) (f : RespQueue → RespQueue) : (modRq s q f).linkPower = s.linkPower := rfl
@[simp] theorem modRq_out (s : State) (q : Nat) (f : RespQueue → RespQueue) : (modRq s q f).out = s.out := rfl
@[simp] theorem modRq_thr (s : State) (q : Nat) (f : RespQueue → RespQueue) (i : Nat) : thr (modRq s q f) i = thr s i := rfl
@[simp] theorem modRq_cyl (s : State) (q : Nat) (f : RespQueue → RespQueue) (i : Nat) : cyl (modRq s q f) i = cyl s i := rfl
@[simp] theorem modRq_kring (s : State) (q : Nat) (f : RespQueue → RespQueue) (i : Nat) : kring (modRq s q f) i = kring s i := rfl
@[simp] theorem modRq_eng (s : State) (q : Nat) (f : RespQueue → RespQueue) (i : Nat) : eng (modRq s q f) i = eng s i := rfl
@[simp] theorem modRq_dom (s : State) (q : Nat) (f : RespQueue → RespQueue) (i : Nat) : dom (modRq s q f) i = dom s i := rfl
@[simp] theorem modRq_src (s : State) (q : Nat) (f : RespQueue → RespQueue) (i : Nat) : src (modRq s q f) i = src s i := rfl
@[simp] theorem modRq_punit (s : State) (q : Nat) (f : RespQueue → RespQueue) (j i : Nat) : punit (modRq s q f) j i = punit s j i := rfl
@[simp] theorem modRq_regGet (s : State) (q : Nat) (f : RespQueue → RespQueue) (rg : Reg) (i : Nat) : regGet (modRq s q f) rg i = regGet s rg i := rfl
@[simp] theorem modRq_readDigit (s : State) (q : Nat) (f : RespQueue → RespQueue) (i : Nat) : readDigit (modRq s q f) i = readDigit s i := rfl

/-! ### modSess -/

@[simp] theorem modSess_pending (s : State) (n : Nat) (f : Session → Session) : (modSess s n f).pending = s.pending := rfl
@[simp] theorem modSess_rdata (s : State) (n : Nat) (f : Session → Session) : (modSess s n f).rdata = s.rdata := rfl
@[simp] theorem modSess_free (s : State) (n : Nat) (f : Session → Session) : (modSess s n f).free = s.free := rfl
@[simp] theorem modSess_now (s : State) (n : Nat) (f : Session → Session) : (modSess s n f).now = s.now := rfl
@[simp] theorem modSess_tally (s : State) (n : Nat) (f : Session → Session) : (modSess s n f).tally = s.tally := rfl
@[simp] theorem modSess_regs (s : State) (n : Nat) (f : Session → Session) : (modSess s n f).regs = s.regs := rfl
@[simp] theorem modSess_mem (s : State) (n : Nat) (f : Session → Session) : (modSess s n f).mem = s.mem := rfl
@[simp] theorem modSess_poison (s : State) (n : Nat) (f : Session → Session) : (modSess s n f).poison = s.poison := rfl
@[simp] theorem modSess_threads (s : State) (n : Nat) (f : Session → Session) : (modSess s n f).threads = s.threads := rfl
@[simp] theorem modSess_cyls (s : State) (n : Nat) (f : Session → Session) : (modSess s n f).cyls = s.cyls := rfl
@[simp] theorem modSess_krs (s : State) (n : Nat) (f : Session → Session) : (modSess s n f).krs = s.krs := rfl
@[simp] theorem modSess_engs (s : State) (n : Nat) (f : Session → Session) : (modSess s n f).engs = s.engs := rfl
@[simp] theorem modSess_dmaTlb (s : State) (n : Nat) (f : Session → Session) : (modSess s n f).dmaTlb = s.dmaTlb := rfl
@[simp] theorem modSess_inval (s : State) (n : Nat) (f : Session → Session) : (modSess s n f).inval = s.inval := rfl
@[simp] theorem modSess_ks (s : State) (n : Nat) (f : Session → Session) : (modSess s n f).ks = s.ks := rfl
@[simp] theorem modSess_guard (s : State) (n : Nat) (f : Session → Session) : (modSess s n f).guard = s.guard := rfl
@[simp] theorem modSess_dma (s : State) (n : Nat) (f : Session → Session) : (modSess s n f).dma = s.dma := rfl
@[simp] theorem modSess_dmaLast (s : State) (n : Nat) (f : Session → Session) : (modSess s n f).dmaLast = s.dmaLast := rfl
@[simp] theorem modSess_kc (s : State) (n : Nat) (f : Session → Session) : (modSess s n f).kc = s.kc := rfl
@[simp] theorem modSess_kcPrev (s : State) (n : Nat) (f : Session → Session) : (modSess s n f).kcPrev = s.kcPrev := rfl
@[simp] theorem modSess_turns (s : State) (n : Nat) (f : Session → Session) : (modSess s n f).turns = s.turns := rfl
@[simp] theorem modSess_srcs (s : State) (n : Nat) (f : Session → Session) : (modSess s n f).srcs = s.srcs := rfl
@[simp] theorem modSess_arbs (s : State) (n : Nat) (f : Session → Session) : (modSess s n f).arbs = s.arbs := rfl
@[simp] theorem modSess_doms (s : State) (n : Nat) (f : Session → Session) : (modSess s n f).doms = s.doms := rfl
@[simp] theorem modSess_xq (s : State) (n : Nat) (f : Session → Session) : (modSess s n f).xq = s.xq := rfl
@[simp] theorem modSess_westad (s : State) (n : Nat) (f : Session → Session) : (modSess s n f).westad = s.westad := rfl
@[simp] theorem modSess_dbg (s : State) (n : Nat) (f : Session → Session) : (modSess s n f).dbg = s.dbg := rfl
@[simp] theorem modSess_supply (s : State) (n : Nat) (f : Session → Session) : (modSess s n f).supply = s.supply := rfl
@[simp] theorem modSess_keeper (s : State) (n : Nat) (f : Session → Session) : (modSess s n f).keeper = s.keeper := rfl
@[simp] theorem modSess_audit (s : State) (n : Nat) (f : Session → Session) : (modSess s n f).audit = s.audit := rfl
@[simp] theorem modSess_faults (s : State) (n : Nat) (f : Session → Session) : (modSess s n f).faults = s.faults := rfl
@[simp] theorem modSess_fuses (s : State) (n : Nat) (f : Session → Session) : (modSess s n f).fuses = s.fuses := rfl
@[simp] theorem modSess_boot (s : State) (n : Nat) (f : Session → Session) : (modSess s n f).boot = s.boot := rfl
@[simp] theorem modSess_req (s : State) (n : Nat) (f : Session → Session) : (modSess s n f).req = s.req := rfl
@[simp] theorem modSess_pins (s : State) (n : Nat) (f : Session → Session) : (modSess s n f).pins = s.pins := rfl
@[simp] theorem modSess_seeded (s : State) (n : Nat) (f : Session → Session) : (modSess s n f).seeded = s.seeded := rfl
@[simp] theorem modSess_trngBad (s : State) (n : Nat) (f : Session → Session) : (modSess s n f).trngBad = s.trngBad := rfl
@[simp] theorem modSess_ptpGood (s : State) (n : Nat) (f : Session → Session) : (modSess s n f).ptpGood = s.ptpGood := rfl
@[simp] theorem modSess_dramKeys (s : State) (n : Nat) (f : Session → Session) : (modSess s n f).dramKeys = s.dramKeys := rfl
@[simp] theorem modSess_dramLost (s : State) (n : Nat) (f : Session → Session) : (modSess s n f).dramLost = s.dramLost := rfl
@[simp] theorem modSess_uartIn (s : State) (n : Nat) (f : Session → Session) : (modSess s n f).uartIn = s.uartIn := rfl
@[simp] theorem modSess_linkPower (s : State) (n : Nat) (f : Session → Session) : (modSess s n f).linkPower = s.linkPower := rfl
@[simp] theorem modSess_out (s : State) (n : Nat) (f : Session → Session) : (modSess s n f).out = s.out := rfl
@[simp] theorem modSess_thr (s : State) (n : Nat) (f : Session → Session) (i : Nat) : thr (modSess s n f) i = thr s i := rfl
@[simp] theorem modSess_cyl (s : State) (n : Nat) (f : Session → Session) (i : Nat) : cyl (modSess s n f) i = cyl s i := rfl
@[simp] theorem modSess_kring (s : State) (n : Nat) (f : Session → Session) (i : Nat) : kring (modSess s n f) i = kring s i := rfl
@[simp] theorem modSess_eng (s : State) (n : Nat) (f : Session → Session) (i : Nat) : eng (modSess s n f) i = eng s i := rfl
@[simp] theorem modSess_dom (s : State) (n : Nat) (f : Session → Session) (i : Nat) : dom (modSess s n f) i = dom s i := rfl
@[simp] theorem modSess_src (s : State) (n : Nat) (f : Session → Session) (i : Nat) : src (modSess s n f) i = src s i := rfl
@[simp] theorem modSess_punit (s : State) (n : Nat) (f : Session → Session) (j i : Nat) : punit (modSess s n f) j i = punit s j i := rfl
@[simp] theorem modSess_regGet (s : State) (n : Nat) (f : Session → Session) (rg : Reg) (i : Nat) : regGet (modSess s n f) rg i = regGet s rg i := rfl
@[simp] theorem modSess_readDigit (s : State) (n : Nat) (f : Session → Session) (i : Nat) : readDigit (modSess s n f) i = readDigit s i := rfl

/-! ### Reading what was updated -/

@[simp] theorem thr_rawThr (s : State) (t : Nat) (th : Thread) : thr (rawThr s t th) t = th := tget_tset_self _ _ _
theorem thr_rawThr_ne (s : State) (t u : Nat) (th : Thread) (h : u ≠ t) : thr (rawThr s t th) u = thr s u := tget_tset_ne _ _ _ _ h
@[simp] theorem regGet_regSet (s : State) (r : Reg) (ix : Nat) (v : Word) : regGet (regSet s r ix v) r ix = v := tget_tset_self _ _ _
theorem regGet_regSet_ne (s : State) (r q : Reg) (ix i : Nat) (v : Word) (h : regKey q i ≠ regKey r ix) :
    regGet (regSet s r ix v) q i = regGet s q i := tget_tset_ne _ _ _ _ h
@[simp] theorem punit_modUnit (s : State) (c ix : Nat) (f : PUnit → PUnit) : punit (modUnit s c ix f) c ix = f (punit s c ix) :=
  tget_tmod_self _ _ _
@[simp] theorem cyl_modCyl (s : State) (c : Nat) (f : Cyl → Cyl) : cyl (modCyl s c f) c = f (cyl s c) := tget_tmod_self _ _ _
theorem cyl_modCyl_ne (s : State) (c : Nat) (f : Cyl → Cyl) (i : Nat) (h : i ≠ c) : cyl (modCyl s c f) i = cyl s i := tget_tmod_ne _ _ _ _ h
@[simp] theorem kring_modKr (s : State) (k : Nat) (f : Keyring → Keyring) : kring (modKr s k f) k = f (kring s k) := tget_tmod_self _ _ _
theorem kring_modKr_ne (s : State) (k : Nat) (f : Keyring → Keyring) (i : Nat) (h : i ≠ k) : kring (modKr s k f) i = kring s i := tget_tmod_ne _ _ _ _ h
@[simp] theorem eng_modEng (s : State) (e : Nat) (f : Engine → Engine) : eng (modEng s e f) e = f (eng s e) := tget_tmod_self _ _ _
theorem eng_modEng_ne (s : State) (e : Nat) (f : Engine → Engine) (i : Nat) (h : i ≠ e) : eng (modEng s e f) i = eng s i := tget_tmod_ne _ _ _ _ h
@[simp] theorem dom_modDom (s : State) (d : Nat) (f : Domain → Domain) : dom (modDom s d f) d = f (dom s d) := tget_tmod_self _ _ _
theorem dom_modDom_ne (s : State) (d : Nat) (f : Domain → Domain) (i : Nat) (h : i ≠ d) : dom (modDom s d f) i = dom s i := tget_tmod_ne _ _ _ _ h
@[simp] theorem src_modSrc (s : State) (n : Nat) (f : Src → Src) : src (modSrc s n f) n = f (src s n) := tget_tmod_self _ _ _
theorem src_modSrc_ne (s : State) (n : Nat) (f : Src → Src) (i : Nat) (h : i ≠ n) : src (modSrc s n f) i = src s i := tget_tmod_ne _ _ _ _ h
@[simp] theorem cq_modCq (s : State) (q : Nat) (f : CmdQueue → CmdQueue) : cq (modCq s q f) q = f (cq s q) := tget_tmod_self _ _ _
theorem cq_modCq_ne (s : State) (q : Nat) (f : CmdQueue → CmdQueue) (i : Nat) (h : i ≠ q) : cq (modCq s q f) i = cq s i := tget_tmod_ne _ _ _ _ h
@[simp] theorem rq_modRq (s : State) (q : Nat) (f : RespQueue → RespQueue) : rq (modRq s q f) q = f (rq s q) := tget_tmod_self _ _ _
theorem rq_modRq_ne (s : State) (q : Nat) (f : RespQueue → RespQueue) (i : Nat) (h : i ≠ q) : rq (modRq s q f) i = rq s i := tget_tmod_ne _ _ _ _ h
@[simp] theorem sess_modSess (s : State) (n : Nat) (f : Session → Session) : sess (modSess s n f) n = f (sess s n) := tget_tmod_self _ _ _
theorem sess_modSess_ne (s : State) (n : Nat) (f : Session → Session) (i : Nat) (h : i ≠ n) : sess (modSess s n f) i = sess s i := tget_tmod_ne _ _ _ _ h

end Sys2Proof.Machine
end

