-- ==== Sys2Proof/Laws/Issue.lean ====
section
/-! SUPPORT. What settling the threads and issuing a word can do to a thread. -/

namespace Sys2Proof.Machine

open Sys2Proof.Claims

/-! ### Threads stored -/

/-- Only yields of threads differ. -/
structure YieldOnly (s s' : State) : Prop where
  rest : s' = { s with threads := s'.threads }
  each : ∀ u, thr s' u = { thr s u with yieldFor := (thr s' u).yieldFor }

theorem YieldOnly.refl (s : State) : YieldOnly s s := ⟨rfl, fun _ => rfl⟩

theorem YieldOnly.trans {a b c : State} (h : YieldOnly a b) (k : YieldOnly b c) : YieldOnly a c :=
  ⟨by rw [k.rest, h.rest], fun u => by rw [k.each, h.each]⟩

theorem dropYield_only (s : State) (t : Nat) : YieldOnly s (dropYield s t) := by
  unfold dropYield
  generalize siblings t = l
  induction l generalizing s with
  | nil => exact YieldOnly.refl s
  | cons u l ih =>
    refine YieldOnly.trans ?_ (ih _)
    dsimp only
    split
    · refine ⟨rfl, fun v => ?_⟩
      by_cases h : v = u
      · subst h; simp
      · simp [thr_rawThr_ne _ _ _ _ h]
    · exact YieldOnly.refl s

/-- A thread stored: it alone changes, but for yields. -/
theorem putThr_rest (s : State) (t : Nat) (th : Thread) : putThr s t th = { s with threads := (putThr s t th).threads } := by
  unfold putThr
  split
  · exact (dropYield_only (rawThr s t th) t).rest
  · rfl

theorem putThr_self (s : State) (t : Nat) (th : Thread) :
    thr (putThr s t th) t = { th with yieldFor := (thr (putThr s t th) t).yieldFor } := by
  unfold putThr
  split
  · have h := (dropYield_only (rawThr s t th) t).each t
    rw [h]
    simp
  · simp

theorem putThr_ready (s : State) (t : Nat) (th : Thread) (h : (thr s t).st ≠ .ready ∨ th.st = .ready) :
    putThr s t th = rawThr s t th := by
  unfold putThr
  rw [if_neg]
  rintro ⟨a, b⟩
  exact h.elim (fun x => x a) b

theorem putThr_ne (s : State) (t u : Nat) (th : Thread) (hu : u ≠ t) :
    thr (putThr s t th) u = { thr s u with yieldFor := (thr (putThr s t th) u).yieldFor } := by
  unfold putThr
  split
  · have h := (dropYield_only (rawThr s t th) t).each u
    rw [h, thr_rawThr_ne _ _ _ _ hu]
  · rw [thr_rawThr_ne _ _ _ _ hu]

/-! ### Settling -/

/-- A thread settled: a parked one may be READY or have another cause, and fences that hold are forgotten. -/
structure Settled (a b : Thread) : Prop where
  eq : b = { a with st := b.st, park := b.park, fence := b.fence }
  st : a.st ≠ .parked → b.st = a.st ∧ b.park = a.park
  parked : a.st = .parked → b.st = .parked ∨ b.st = .ready
  fence : ∀ f ∈ b.fence, f ∈ a.fence

theorem Settled.refl (a : Thread) : Settled a a := ⟨rfl, fun _ => ⟨rfl, rfl⟩, Or.inl, fun _ h => h⟩

theorem Settled.trans {a b c : Thread} (h : Settled a b) (k : Settled b c) : Settled a c where
  eq := by rw [k.eq, h.eq]
  st := fun x => by
    have h1 := h.st x
    have h2 := k.st (by rw [h1.1]; exact x)
    exact ⟨h2.1.trans h1.1, h2.2.trans h1.2⟩
  parked := fun x => by
    rcases h.parked x with y | y
    · exact k.parked y
    · exact .inr ((k.st (by rw [y]; decide)).1.trans y)
  fence := fun f x => h.fence f (k.fence f x)

theorem Settled.arch {a b : Thread} (h : Settled a b) : b.arch = a.arch := by rw [h.eq]

/-- Settling changes threads alone. -/
structure SettledAll (s s' : State) : Prop where
  rest : s' = { s with threads := s'.threads }
  each : ∀ u, Settled (thr s u) (thr s' u)

theorem SettledAll.refl (s : State) : SettledAll s s := ⟨rfl, fun _ => Settled.refl _⟩

theorem SettledAll.trans {a b c : State} (h : SettledAll a b) (k : SettledAll b c) : SettledAll a c :=
  ⟨by rw [k.rest, h.rest], fun u => (h.each u).trans (k.each u)⟩

theorem rawThr_settled (s : State) (t : Nat) (th : Thread) (h : Settled (thr s t) th) : SettledAll s (rawThr s t th) := by
  refine ⟨rfl, fun u => ?_⟩
  by_cases hu : u = t
  · subst hu; simpa using h
  · rw [thr_rawThr_ne _ _ _ _ hu]; exact Settled.refl _

theorem settleThr_settled (s : State) (t : Nat) : SettledAll s (settleThr s t) := by
  unfold settleThr
  extract_lets th th' s'
  have h1 : Settled th th' := by
    show Settled th (if th.fence = [] then th else { th with fence := th.fence.filter (fun f => !fenceMet s t f) })
    split
    · exact Settled.refl _
    · exact ⟨rfl, fun _ => ⟨rfl, rfl⟩, Or.inl, fun f x => (List.mem_filter.1 x).1⟩
  have h2 : SettledAll s s' := by
    show SettledAll s (if th' = thr s t then s else rawThr s t th')
    split
    · exact SettledAll.refl s
    · exact rawThr_settled s t th' h1
  have h3 : thr s' t = th' := by
    show thr (if th' = thr s t then s else rawThr s t th') t = th'
    split
    · rename_i e; exact e.symm
    · simp
  split
  · exact h2
  · rename_i hp
    have hp : th'.st = .parked := by simpa using hp
    split
    · refine h2.trans ?_
      rw [putThr_ready _ _ _ (.inr rfl)]
      refine rawThr_settled _ _ _ ?_
      rw [h3]
      exact ⟨rfl, fun x => absurd hp x, fun _ => .inr rfl, fun f x => x⟩
    · split
      · exact h2
      · refine h2.trans ?_
        rw [putThr_ready _ _ _ (.inl (by rw [h3, hp]; decide))]
        refine rawThr_settled _ _ _ ?_
        rw [h3]
        exact ⟨rfl, fun x => absurd hp x, fun _ => .inl hp, fun f x => x⟩

/-- What settling does to every thread; every other part of the state stays. -/
theorem settle_settled (s : State) : SettledAll s (settle s) := by
  unfold settle
  generalize s.threads.map (·.1) = l
  induction l generalizing s with
  | nil => exact SettledAll.refl s
  | cons u l ih => exact (settleThr_settled s u).trans (ih _)

@[simp] theorem settle_arch (s : State) (u : Nat) : (thr (settle s) u).arch = (thr s u).arch := ((settle_settled s).each u).arch

/-- A thread that is not parked keeps its state when the threads are settled. -/
theorem settle_st (s : State) (u : Nat) (h : (thr s u).st ≠ .parked) : (thr (settle s) u).st = (thr s u).st :=
  (((settle_settled s).each u).st h).1

/-! ### A word that issues -/

/-- A word that may issue is the word of a row when one of its moves is. -/
theorem issue_commit {s : State} {t : Nat} {ms : List Mv} {r : Row} (h : issues s t ms = true) (hr : rowMatch s t r ms = true) :
    issue s t r = settle (commitWord s t ms) := by
  simp only [issues, executes, Bool.and_eq_true, Bool.not_eq_true', Option.isNone_iff_eq_none, beq_iff_eq] at h
  obtain ⟨⟨⟨⟨⟨⟨⟨⟨⟨h1, h2⟩, h3⟩, h4⟩, h5⟩, h6⟩, h7⟩, h8⟩, h9⟩, h10⟩ := h
  split at h7
  · rename_i w e
    simp only [Bool.and_eq_true, Bool.not_eq_true', Option.isNone_iff_eq_none, decide_eq_true_eq] at h7
    obtain ⟨⟨⟨⟨g1, g2⟩, g3⟩, g4⟩, g5⟩ := h7
    subst g1
    unfold issue
    congr 1
    unfold issueRaw
    dsimp only
    rw [if_neg (by simp [h1, h2, h3, h4, h5]), e]
    dsimp only
    rw [h6]
    dsimp only
    rw [if_neg (by simp), g2]
    dsimp only
    rw [if_neg (by rw [g4]; simp), if_neg (by simp [g3]), g5]
    dsimp only
    rw [if_pos hr]
    unfold executeWord
    have hs : (movesOf (decodeWord w)).find? (fun m => m.src == .port 0x152 && (thr s t).strData.isNone) = none := by
      rw [List.find?_eq_none]
      intro m hm
      rw [List.any_eq_false] at h10
      exact h10 m hm
    split at h8
    · rename_i e2; rw [e2]
    · rename_i a ps e2
      rw [e2]
      dsimp only
      rw [if_neg (by simp [h9]), hs]
    · simp at h8
  · simp at h7

end Sys2Proof.Machine
end

