-- ==== Sys2Proof/Laws/Commit.lean ====
section
/-! SUPPORT. What committing a word does: the operations and stores it starts stay, and its moves read the state before it. -/

namespace Sys2Proof.Machine

open Sys2Proof.Claims

/-! ### What stays -/

/-- No operation in flight and no buffered store of a thread is lost. -/
structure Grows (t : Nat) (s s' : State) : Prop where
  ops : ∀ o ∈ (thr s t).arch.ops, o ∈ (thr s' t).arch.ops
  sbuf : ∀ e ∈ (thr s t).sbuf, e ∈ (thr s' t).sbuf
  next : (thr s t).nextOp ≤ (thr s' t).nextOp

theorem Grows.refl (t : Nat) (s : State) : Grows t s s := ⟨fun _ h => h, fun _ h => h, Nat.le_refl _⟩

theorem Grows.trans {t : Nat} {a b c : State} (h : Grows t a b) (k : Grows t b c) : Grows t a c :=
  ⟨fun o x => k.ops o (h.ops o x), fun e x => k.sbuf e (h.sbuf e x), Nat.le_trans h.next k.next⟩

theorem Grows.of_thr {t : Nat} {s s' : State} (h : thr s' t = thr s t) : Grows t s s' :=
  ⟨fun _ x => by rw [h]; exact x, fun _ x => by rw [h]; exact x, by rw [h]⟩

theorem Grows.settle {t : Nat} {s s' : State} (h : Grows t s s') : Grows t s (settle s') :=
  h.trans (by
    have k := ((settle_settled s').each t).eq
    exact ⟨fun _ x => by rw [k]; exact x, fun _ x => by rw [k]; exact x, by rw [k]⟩)

theorem Flies.grows {t : Nat} {a b c : State} {k : OpKind} (h : Flies a b t k) (g : Grows t b c) : Flies a c t k :=
  let ⟨o, h1, h2⟩ := h
  ⟨o, g.ops o h1, h2⟩

theorem Flies.since {t : Nat} {a b c : State} {k : OpKind} (g : Grows t a b) (h : Flies b c t k) : Flies a c t k :=
  let ⟨o, h1, h2, h3⟩ := h
  ⟨o, h1, h2, Nat.le_trans g.next h3⟩

theorem Buffers.grows {t : Nat} {a b c : State} {ps : Pieces} {w : Nat} {d : Word} {bad : Bool} (h : Buffers a b t ps w d bad)
    (g : Grows t b c) : Buffers a c t ps w d bad :=
  let ⟨o, h1, h2⟩ := h
  ⟨o, g.sbuf o h1, h2⟩

theorem Buffers.since {t : Nat} {a b c : State} {ps : Pieces} {w : Nat} {d : Word} {bad : Bool} (g : Grows t a b)
    (h : Buffers b c t ps w d bad) : Buffers a c t ps w d bad :=
  let ⟨o, h1, h2, h3⟩ := h
  ⟨o, h1, h2, Nat.le_trans g.next h3⟩

/-! ### Changes of one thread -/

theorem modThr_self (s : State) (t : Nat) (f : Thread → Thread) :
    thr (modThr s t f) t = { f (thr s t) with yieldFor := (thr (modThr s t f) t).yieldFor } := putThr_self s t _

theorem modThr_grows {t : Nat} {s : State} {f : Thread → Thread} (h1 : ∀ o ∈ (thr s t).arch.ops, o ∈ (f (thr s t)).arch.ops)
    (h2 : ∀ e ∈ (thr s t).sbuf, e ∈ (f (thr s t)).sbuf) (h3 : (thr s t).nextOp ≤ (f (thr s t)).nextOp) : Grows t s (modThr s t f) := by
  have k := modThr_self s t f
  exact ⟨fun o x => by rw [k]; exact h1 o x, fun o x => by rw [k]; exact h2 o x, by rw [k]; exact h3⟩

theorem modArch_grows {t : Nat} {s : State} {f : Arch → Arch} (h : ∀ a, (f a).ops = a.ops) : Grows t s (modArch s t f) :=
  modThr_grows (fun o x => by show o ∈ (f _).ops; rw [h]; exact x) (fun _ x => x) (Nat.le_refl _)

@[simp] theorem modArch_arch (s : State) (t : Nat) (f : Arch → Arch) : (thr (modArch s t f) t).arch = f (thr s t).arch := by
  unfold modArch; rw [modThr_self]

theorem startOp_flies {t : Nat} {s : State} {f : Thread → Thread} {k : OpKind} (h : (f (thr s t)).arch.ops = (startOp (thr s t) k).arch.ops) :
    Flies s (modThr s t f) t k := by
  refine ⟨{ id := (thr s t).nextOp, kind := k }, ?_, rfl, Nat.le_refl _⟩
  rw [modThr_self]
  show _ ∈ (f (thr s t)).arch.ops
  rw [h]
  simp [startOp]

theorem startOp_grows {t : Nat} {s : State} {f : Thread → Thread} {k : OpKind} (h1 : (f (thr s t)).arch.ops = (startOp (thr s t) k).arch.ops)
    (h2 : (f (thr s t)).sbuf = (thr s t).sbuf) (h3 : (f (thr s t)).nextOp = (thr s t).nextOp + 1) : Grows t s (modThr s t f) :=
  modThr_grows (fun o x => by rw [h1]; simp [startOp, x]) (fun e x => by rw [h2]; exact x) (by omega)

@[simp] theorem setBit_ops (a : Arch) (i : Nat) (b : Bool) : (setBit a i b).ops = a.ops := rfl
@[simp] theorem setPort_ops (a : Arch) (p : Nat) (v : Word) : (setPort a p v).ops = a.ops := rfl
@[simp] theorem setG_ops (a : Arch) (i : Nat) (v : Word) : (setG a i v).ops = a.ops := rfl

theorem ops_ite {c : Prop} [Decidable c] {a b : Arch} {x : List Op} (h : a.ops = x) (k : b.ops = x) : (if c then a else b).ops = x := by
  split
  · exact h
  · exact k

theorem writePort_ops (s : State) (t : Nat) (a : Arch) (p w : Nat) (v : Word) : (writePort s t a p w v).ops = a.ops := by
  unfold writePort
  repeat' (first | rfl | apply ops_ite)

theorem advance_ops (a : Arch) : (advance a).ops = a.ops := by
  unfold advance
  repeat' (first | rfl | apply ops_ite)

theorem transfer_ops (a : Arch) (p : VAddr) : (transfer a p).ops = a.ops := by
  exact ops_ite rfl rfl

/-! ### Accesses -/

theorem tlbUse_thr (s : State) (t va acc u : Nat) : thr (tlbUse s t va acc) u = thr s u := by
  unfold tlbUse
  dsimp only
  generalize thrTlb s t (thr s t).part va acc = o
  cases o <;> rfl

theorem touch_thr (s : State) (t va n acc u : Nat) : thr (touch s t va n acc) u = thr s u := by
  unfold touch
  split
  · rfl
  · dsimp only
    split
    · exact tlbUse_thr _ _ _ _ _
    · rw [tlbUse_thr, tlbUse_thr]

/-! ### Units -/

theorem startUnit_flies (s : State) (t : Nat) (u : DUnit) (r : UnitRes) (b : Option (Nat × Bool)) :
    Flies s (startUnit s t u r b) t (.unit u r.writes b) := by
  unfold startUnit
  apply startOp_flies
  dsimp only
  split <;> rfl

theorem startUnit_grows (s : State) (t : Nat) (u : DUnit) (r : UnitRes) (b : Option (Nat × Bool)) : Grows t s (startUnit s t u r b) := by
  unfold startUnit
  apply startOp_grows (k := .unit u r.writes b)
  all_goals (dsimp only; split <;> rfl)

theorem startMul_grows (s : State) (t n : Nat) (p : Word × Word) : Grows t s (startMul s t n p) := by
  unfold startMul
  exact startOp_grows rfl rfl rfl

theorem startDiv_grows (s : State) (t : Nat) (sg : Bool) (n : Nat) (pre : Arch) (v : Word) : Grows t s (startDiv s t sg n pre v) := by
  unfold startDiv
  extract_lets a r steps s1
  refine Grows.trans (b := s1) (Grows.of_thr rfl) ?_
  apply startOp_grows (k := .div sg steps r.writes pre.pc pre.rep (port pre 0x11A))
  all_goals (dsimp only; split <;> rfl)

theorem grows_ite {t : Nat} {s a b : State} {c : Prop} [Decidable c] (h : Grows t s a) (k : Grows t s b) : Grows t s (if c then a else b) := by
  split
  · exact h
  · exact k

theorem unitTrigger_grows (s : State) (t p n : Nat) (pre : Arch) (v : Word) : Grows t s (unitTrigger s t p n pre v) := by
  unfold unitTrigger startCmp
  dsimp only
  repeat' with_reducible (first
    | apply startUnit_grows
    | apply startMul_grows
    | apply startDiv_grows
    | apply grows_ite)

/-! ### Moves -/

theorem touch_grows (s : State) (t va n acc : Nat) : Grows t s (touch s t va n acc) := Grows.of_thr (touch_thr _ _ _ _ _ _)

theorem oneStore_buffers (s : State) (t va w : Nat) (data : Word) (bad : Bool) :
    Buffers s (oneStore s t va w data bad) t (okPieces s t va w 3) w data bad := by
  refine ⟨{ id := (thr s t).nextOp, pieces := okPieces s t va w 3, w := w, data := lowDigits w data, poison := bad }, ?_, rfl, Nat.le_refl _⟩
  unfold oneStore
  dsimp only
  rw [modThr_self]
  simp [enterStore, touch_thr]

theorem oneStore_grows (s : State) (t va w : Nat) (data : Word) (bad : Bool) : Grows t s (oneStore s t va w data bad) := by
  unfold oneStore
  dsimp only
  refine (touch_grows _ _ _ _ _).trans (modThr_grows (fun o x => x) (fun e x => ?_) (by simp))
  simp [enterStore, x]

theorem modThr_fields {t : Nat} {s : State} {f : Thread → Thread} (h : ∀ th : Thread, (f th).arch.ops = th.arch.ops ∧ (f th).sbuf = th.sbuf ∧ (f th).nextOp = th.nextOp) :
    Grows t s (modThr s t f) :=
  modThr_grows (fun o x => by rw [(h _).1]; exact x) (fun e x => by rw [(h _).2.1]; exact x) (by rw [(h _).2.2])

/-- A move to a port below eng.rsv.t, thr.start.t apart, loses no operation and no store. -/
theorem commitMove_grows (pre : Arch) (t : Nat) (s : State) (m : Mv) (h1 : m.dst < 0x300) (h2 : m.dst ≠ 0x123) :
    Grows t s (commitMove pre t s m) := by
  unfold commitMove
  extract_lets v va p
  have hb : isBlank p = false := by
    simp only [isBlank, decide_eq_false_iff_not]
    omega
  apply grows_ite (unitTrigger_grows _ _ _ _ _ _)
  apply grows_ite
  · exact (touch_grows _ _ _ _ _).trans (startOp_grows (k := .load _ _ _ _ _ _) rfl rfl rfl)
  apply grows_ite (oneStore_grows _ _ _ _ _ _)
  apply grows_ite
  · exact (touch_grows _ _ _ _ _).trans (startOp_grows (k := .stc _ _ _ _) rfl rfl rfl)
  apply grows_ite
  · exact (touch_grows _ _ _ _ _).trans (startOp_grows (k := .atomic _ _ _ _ _) rfl rfl rfl)
  apply grows_ite
  · exact (oneStore_grows _ _ _ _ _ _).trans (modArch_grows (fun _ => rfl))
  apply grows_ite (startOp_grows (k := .tas _) rfl rfl rfl)
  apply grows_ite (show Grows t s (writeKbit s t _ _) from Grows.of_thr rfl)
  rw [if_neg (show ¬ p = 0x300 by omega), if_neg (show ¬ p = 0x301 by omega), if_neg (show ¬ (0x310 ≤ p ∧ p < 0x358) by omega), hb, if_neg (by simp)]
  apply grows_ite
  · exact modThr_fields (fun _ => ⟨rfl, rfl, rfl⟩)
  apply grows_ite
  · exact modThr_fields (fun _ => ⟨rfl, rfl, rfl⟩)
  apply grows_ite
  · exact modThr_fields (fun _ => ⟨rfl, rfl, rfl⟩)
  rw [if_neg (show ¬ p = 0x123 from h2)]
  exact grows_ite (Grows.refl _ _) (modArch_grows (fun _ => writePort_ops _ _ _ _ _ _))

/-! ### What follows the moves -/

theorem applySticky_grows (s : State) (t : Nat) (b : Option Nat) : Grows t s (applySticky s t b) := by
  unfold applySticky
  split
  · exact modArch_grows (fun _ => rfl)
  · exact Grows.refl _ _

theorem useStr_grows (s : State) (t : Nat) (ms : List Mv) : Grows t s (useStr s t ms) := by
  unfold useStr
  split
  · exact Grows.refl _ _
  · exact modThr_fields (fun _ => ⟨rfl, rfl, rfl⟩)

theorem raiseSync_grows (s : State) (t : Nat) (k : SyncKnock) : Grows t s (raiseSync s t k) := by
  unfold raiseSync
  refine modThr_fields (fun th => ?_)
  split <;> exact ⟨rfl, rfl, rfl⟩

theorem arithFault_grows (s : State) (t : Nat) (b : Option Nat) (afe : Bool) : Grows t s (arithFault s t b afe) := by
  unfold arithFault
  split
  · split
    · exact raiseSync_grows _ _ _
    · exact Grows.refl _ _
  · exact Grows.refl _ _

theorem doBranch_grows (s : State) (t : Nat) (pre : Arch) (c : BranchCond) : Grows t s (doBranch s t pre c) := by
  unfold doBranch
  dsimp only
  refine startOp_grows (k := .branch) ?_ rfl rfl
  dsimp only
  split
  · exact transfer_ops _ _
  · exact advance_ops _

/-- The word's transfer loses no operation and no store, when it is a branch, a jump or none. -/
theorem flow_grows (pre : Arch) (t : Nat) (s : State) (ms : List Mv) (h : ∀ m ∈ ms, transfers m.dst = true → m.dst ≤ 0x10D) :
    Grows t s (flow pre t s ms) := by
  unfold flow
  split
  · exact modArch_grows advance_ops
  · rename_i m e
    have hm := h m (List.mem_of_find?_eq_some e) (by simpa using List.find?_some e)
    extract_lets v p
    have h2 : transfers m.dst = true := by simpa using List.find?_some e
    simp only [transfers, Bool.or_eq_true, Bool.and_eq_true, decide_eq_true_eq, beq_iff_eq] at h2
    have hp : p = m.dst := rfl
    by_cases c1 : p ≤ 0x109
    · rw [if_pos c1]; exact doBranch_grows _ _ _ _
    rw [if_neg c1]
    by_cases c3 : p = 0x10A
    · rw [if_pos c3]; exact doBranch_grows _ _ _ _
    rw [if_neg c3]
    by_cases c4 : p = 0x10B
    · rw [if_pos c4]; exact doBranch_grows _ _ _ _
    rw [if_neg c4]
    by_cases c5 : p = 0x10C
    · rw [if_pos c5]; exact modArch_grows (fun _ => transfer_ops _ _)
    rw [if_neg c5]
    by_cases c2 : p = 0x10D
    · rw [if_pos c2]; exact modArch_grows (fun _ => transfer_ops _ _)
    rw [if_neg c2]
    rw [if_neg (by omega), if_neg (by omega), if_neg (by omega), if_neg (by omega)]
    apply False.elim
    omega

/-! ### The slot -/

/-- A thread after it has taken its issue slot. -/
def slotted (th : Thread) (appends : Bool) : Thread :=
  { th with
    st := .ready, park := .no, fresh := 0, fromWait := if th.fromWait = 1 then 0 else th.fromWait
    lastPc := th.arch.pc, lastRep := th.arch.rep, lastCnt := port th.arch 0x11A
    spec := th.spec.map (fun b => { b with past := b.past + 1 })
    arch := { th.arch with
      slot := th.arch.slot + 1
      immAcc := if appends then th.arch.immAcc else 0
      immCnt := if appends then th.arch.immCnt else 0 } }

theorem countSlot_self (s : State) (t : Nat) (b : Bool) :
    thr (countSlot s t b) t = { slotted (thr s t) b with yieldFor := (thr (countSlot s t b) t).yieldFor } := by
  unfold countSlot
  extract_lets w s1 s2
  have h1 := (dropYield_only s2 t).each t
  have h2 : thr s2 t = { slotted (thr s1 t) b with yieldFor := (thr s2 t).yieldFor } := modThr_self s1 t _
  have h3 : thr s1 t = thr s t := rfl
  rw [h3] at h2
  rw [h1, h2]

theorem countSlot_grows (s : State) (t : Nat) (b : Bool) : Grows t s (countSlot s t b) := by
  have h := countSlot_self s t b
  exact ⟨fun o x => by rw [h]; exact x, fun e x => by rw [h]; exact x, by rw [h]; exact Nat.le_refl _⟩

/-! ### What a move sees -/

/-- What translation and forwarding see is the same. -/
structure SameView (t : Nat) (s s' : State) : Prop where
  part : (thr s' t).part = (thr s t).part
  sbuf : (thr s' t).sbuf = (thr s t).sbuf
  str : (thr s' t).strData = (thr s t).strData
  spec : (thr s' t).spec = [] ↔ (thr s t).spec = []
  regs : s'.regs = s.regs
  kc : s'.kc = s.kc
  krs : s'.krs = s.krs
  now : s'.now = s.now
  itlb : ∀ c, (cyl s' c).itlb = (cyl s c).itlb
  dtlb : ∀ c, (cyl s' c).dtlb = (cyl s c).dtlb

theorem SameView.trans {t : Nat} {a b c : State} (h : SameView t a b) (k : SameView t b c) : SameView t a c :=
  ⟨k.part.trans h.part, k.sbuf.trans h.sbuf, k.str.trans h.str, k.spec.trans h.spec, k.regs.trans h.regs, k.kc.trans h.kc,
    k.krs.trans h.krs, k.now.trans h.now, fun x => (k.itlb x).trans (h.itlb x), fun x => (k.dtlb x).trans (h.dtlb x)⟩

theorem SameView.refl (t : Nat) (s : State) : SameView t s s :=
  ⟨rfl, rfl, rfl, Iff.rfl, rfl, rfl, rfl, rfl, fun _ => rfl, fun _ => rfl⟩

/-- A change of one thread that keeps what translation and forwarding see. -/
theorem modThr_view {t : Nat} {s : State} {f : Thread → Thread} (h1 : (f (thr s t)).part = (thr s t).part) (h2 : (f (thr s t)).sbuf = (thr s t).sbuf)
    (h3 : (f (thr s t)).strData = (thr s t).strData) (h4 : (f (thr s t)).spec = [] ↔ (thr s t).spec = []) : SameView t s (modThr s t f) := by
  have k := modThr_self s t f
  have r : modThr s t f = { s with threads := (modThr s t f).threads } := putThr_rest s t (f (thr s t))
  exact ⟨by rw [k]; exact h1, by rw [k]; exact h2, by rw [k]; exact h3, by rw [k]; exact h4, by rw [r], by rw [r], by rw [r], by rw [r],
    fun _ => by rw [r]; rfl, fun _ => by rw [r]; rfl⟩

theorem modArch_view {t : Nat} {s : State} {f : Arch → Arch} : SameView t s (modArch s t f) := modThr_view rfl rfl rfl Iff.rfl

theorem view_ite {t : Nat} {s a b : State} {c : Prop} [Decidable c] (h : SameView t s a) (k : SameView t s b) : SameView t s (if c then a else b) := by
  split
  · exact h
  · exact k

theorem startUnit_view (s : State) (t : Nat) (u : DUnit) (r : UnitRes) (b : Option (Nat × Bool)) : SameView t s (startUnit s t u r b) := by
  unfold startUnit
  refine modThr_view ?_ ?_ ?_ ?_
  all_goals (dsimp only; split <;> rfl)

theorem startMul_view (s : State) (t n : Nat) (p : Word × Word) : SameView t s (startMul s t n p) := modThr_view rfl rfl rfl Iff.rfl

/-- A cylinder's change that keeps its TLBs. -/
theorem modCyl_view {t c : Nat} {s : State} {f : Cyl → Cyl} (h1 : ∀ x, (f x).itlb = x.itlb) (h2 : ∀ x, (f x).dtlb = x.dtlb) :
    SameView t s (modCyl s c f) := by
  refine ⟨rfl, rfl, rfl, Iff.rfl, rfl, rfl, rfl, rfl, fun d => ?_, fun d => ?_⟩
  · by_cases h : d = c
    · subst h; rw [cyl_modCyl]; exact h1 _
    · rw [cyl_modCyl_ne _ _ _ _ h]
  · by_cases h : d = c
    · subst h; rw [cyl_modCyl]; exact h2 _
    · rw [cyl_modCyl_ne _ _ _ _ h]

theorem startDiv_view (s : State) (t : Nat) (sg : Bool) (n : Nat) (pre : Arch) (v : Word) : SameView t s (startDiv s t sg n pre v) := by
  unfold startDiv
  extract_lets a r steps s1
  refine SameView.trans (b := s1) (modCyl_view (fun _ => rfl) (fun _ => rfl)) (modThr_view ?_ ?_ ?_ ?_)
  all_goals (dsimp only; split <;> rfl)

theorem unitTrigger_view (s : State) (t p n : Nat) (pre : Arch) (v : Word) : SameView t s (unitTrigger s t p n pre v) := by
  unfold unitTrigger startCmp
  dsimp only
  repeat' with_reducible (first
    | apply startUnit_view
    | apply startMul_view
    | apply startDiv_view
    | apply view_ite)

theorem YieldOnly.view {t : Nat} {s s' : State} (h : YieldOnly s s') : SameView t s s' := by
  have h4 := h.each t
  have r := h.rest
  exact ⟨by rw [h4], by rw [h4], by rw [h4], by rw [h4], by rw [r], by rw [r], by rw [r], by rw [r], fun _ => by rw [r]; rfl, fun _ => by rw [r]; rfl⟩

theorem countSlot_view (s : State) (t : Nat) (b : Bool) : SameView t s (countSlot s t b) := by
  unfold countSlot
  extract_lets w s1 s2
  have h1 : SameView t s s1 := modCyl_view (fun _ => rfl) (fun _ => rfl)
  have h2 : SameView t s1 s2 := modThr_view rfl rfl rfl (by simp)
  exact (h1.trans h2).trans (dropYield_only s2 t).view

/-- An access sees nothing but the view. -/
theorem thrAccess_view {t : Nat} {s s' : State} (h : SameView t s s') (va n acc : Nat) : thrAccess s' t va n acc = thrAccess s t va n acc := by
  unfold thrAccess
  have e : (fun a => thrXlate s' t a acc) = (fun a => thrXlate s t a acc) := by
    funext a
    unfold thrXlate thrTlb xlOn flatXlate regGet kring
    dsimp only
    rw [h.part, h.regs, h.kc, h.krs, h.itlb, h.dtlb]
  rw [e]

theorem okPieces_view {t : Nat} {s s' : State} (h : SameView t s s') (va n acc : Nat) : okPieces s' t va n acc = okPieces s t va n acc := by
  unfold okPieces
  rw [thrAccess_view h]

/-! ### The moves of a word -/

/-- A destination that a move of a pair can have: g0 to g31 or the short window (R64). -/
def shortDst (p : Nat) : Bool := decide (p < 32) || shortWindow.contains p

/-- A source that a move of a pair can have: a general register or a short immediate (R63). -/
def shortSrc : Source → Bool
  | .port p => decide (p < 64)
  | .imm _ => false
  | .short _ => true

theorem nth_window (i : Nat) (h : i < 32) : shortWindow.contains (nth 0 shortWindow i) = true := by
  have : ∀ i : Fin 32, shortWindow.contains (nth 0 shortWindow i.1) = true := by decide
  exact this ⟨i, h⟩

theorem shortMove_short (n : Nat) : shortDst (shortMove n).dst = true ∧ shortSrc (shortMove n).src = true := by
  unfold shortMove
  constructor
  · show shortDst (if bitsOf n 12 7 < 32 then bitsOf n 12 7 else nth 0 shortWindow (bitsOf n 12 7 - 32)) = true
    unfold shortDst
    split
    · rename_i h; simp [h]
    · rw [nth_window _ (by have : bitsOf n 12 7 < 64 := Nat.mod_lt _ (by decide); omega)]; simp
  · show shortSrc (if bitsOf n 6 0 < 64 then .port (bitsOf n 6 0) else .short _) = true
    split
    · rename_i h; simp [shortSrc, h]
    · rfl

/-- A word is one move, or a pair of short ones. -/
theorem word_moves (w : Nat) : (∃ m, movesOf (decodeWord w) = [m]) ∨
    ∃ a b z, decodeWord w = .pair a b z ∧ shortDst a.dst = true ∧ shortSrc a.src = true ∧ shortDst b.dst = true ∧ shortSrc b.src = true := by
  unfold decodeWord
  split
  · exact .inr ⟨_, _, _, rfl, (shortMove_short _).1, (shortMove_short _).2, (shortMove_short _).1, (shortMove_short _).2⟩
  · split
    · exact .inl ⟨_, rfl⟩
    · exact .inl ⟨_, rfl⟩

/-- What a short source delivers depends on the state before the word alone. -/
theorem mvValue_short (s s' : State) (t : Nat) (a : Arch) (m : Mv) (h : shortSrc m.src = true) : mvValue s' t a m = mvValue s t a m := by
  unfold mvValue
  congr 1
  match e : m.src with
  | .port p =>
    rw [e] at h
    have hp : p < 64 := by simpa [shortSrc] using h
    simp [portValue, hp]
  | .imm _ => rfl
  | .short _ => rfl

theorem shortDst_lt {p : Nat} (h : shortDst p = true) : p < 0x300 ∧ p ≠ 0x123 ∧ (transfers p = true → p ≤ 0x10D) := by
  simp only [shortDst, Bool.or_eq_true, decide_eq_true_eq] at h
  rcases h with h | h
  · exact ⟨by omega, by omega, fun _ => by omega⟩
  · have : ∀ p ∈ shortWindow, p < 0x300 ∧ p ≠ 0x123 ∧ (transfers p = true → p ≤ 0x10D) := by decide
    exact this p (by simpa using h)

/-- The moves that make a memory access. -/
def memTrigger (p : Nat) : Bool := p == 0x141 || p == 0x142 || p == 0x145 || p == 0x146 || p == 0x14A || p == 0x14B || p == 0x14C || p == 0x153

/-- A short move that makes no memory access leaves what translation and forwarding see. -/
theorem commitMove_view (pre : Arch) (t : Nat) (s : State) (m : Mv) (h : shortDst m.dst = true) (hm : memTrigger m.dst = false) :
    SameView t s (commitMove pre t s m) := by
  have hp := shortDst_lt h
  have h64 : m.dst ≠ 0x064 ∧ m.dst ≠ 0x063 ∧ m.dst ≠ 0x12D ∧ m.dst ≠ 0x12C ∧ m.dst ≠ 0x122 := by
    simp only [shortDst, Bool.or_eq_true, decide_eq_true_eq] at h
    rcases h with h | h
    · omega
    · have : ∀ p ∈ shortWindow, p ≠ 0x064 ∧ p ≠ 0x063 ∧ p ≠ 0x12D ∧ p ≠ 0x12C ∧ p ≠ 0x122 := by decide
      exact this _ (by simpa using h)
  simp only [memTrigger, Bool.or_eq_false_iff, beq_eq_false_iff_ne, ne_eq] at hm
  have hb : isBlank m.dst = false := by
    simp only [isBlank, decide_eq_false_iff_not]
    omega
  unfold commitMove
  extract_lets v va p
  have hpm : p = m.dst := rfl
  apply view_ite (unitTrigger_view _ _ _ _ _ _)
  rw [if_neg (by omega), if_neg (by omega), if_neg (by omega), if_neg (by omega), if_neg (by omega), if_neg (by omega), if_neg (by omega),
    if_neg (by omega), if_neg (by omega), if_neg (by omega), if_neg (by rw [hpm, hb]; simp), if_neg (by omega), if_neg (by omega), if_neg (by omega),
    if_neg (by omega)]
  exact view_ite (SameView.refl _ _) modArch_view

/-- Taking the slot changes nothing that a move reads. -/
theorem mvValue_slot (s : State) (t : Nat) (b : Bool) (a : Arch) (m : Mv) : mvValue (countSlot s t b) t a m = mvValue s t a m := by
  have v := countSlot_view s t b
  have k := countSlot_self s t b
  have hf : flyOf (thr (countSlot s t b) t) = flyOf (thr s t) := by
    rw [k]
    rfl
  have hp : ∀ p, portValue (countSlot s t b) t a p = portValue s t a p := by
    intro p
    unfold portValue kring
    dsimp only
    rw [v.part, v.str, v.krs, v.now, hf]
  unfold mvValue
  generalize m.src = x
  cases x with
  | port p => exact congrArg _ (hp p)
  | imm _ => rfl
  | short _ => rfl

/-- A word that issues is one move, or a pair whose moves are short and do not start the same unit. -/
theorem word_form {s : State} {t : Nat} {ms : List Mv} (h : issues s t ms = true) : (∃ m, ms = [m]) ∨
    ∃ a b, ms = [a, b] ∧ shortDst a.dst = true ∧ shortSrc a.src = true ∧ shortDst b.dst = true ∧ shortSrc b.src = true ∧
      ¬ (isTrigger s t a.dst = true ∧ isTrigger s t b.dst = true ∧ pairUnit a.dst = pairUnit b.dst) := by
  simp only [issues, executes, Bool.and_eq_true] at h
  have h7 := h.1.1.1.2
  split at h7
  · rename_i w e
    simp only [Bool.and_eq_true, Option.isNone_iff_eq_none, decide_eq_true_eq] at h7
    have h1 := h7.1.1.1.1
    have h2 := h7.1.1.1.2
    rcases word_moves w with ⟨m, k⟩ | ⟨a, b, z, k, k1, k2, k3, k4⟩
    · exact .inl ⟨m, by rw [← h1, k]⟩
    · refine .inr ⟨a, b, by rw [← h1, k]; rfl, k1, k2, k3, k4, ?_⟩
      rintro ⟨x, y, z⟩
      rw [k] at h2
      simp only [encFault] at h2
      split at h2
      · simp at h2
      · split at h2
        · simp at h2
        · rw [if_pos (.inr (by simp [x, y, z]))] at h2
          simp at h2
  · simp at h7

theorem portInfo_plain (s : State) (t p : Nat) (h1 : 0x60 ≤ p) (h2 : p ≤ 0x300) : portInfo s t p = alook portRows p := by
  unfold portInfo
  rw [if_neg (by omega), if_neg (by omega), if_neg (by simp [isBlank]; omega), if_neg (by omega)]

theorem memTrigger_trigger (s : State) (t p : Nat) (h : memTrigger p = true) : isTrigger s t p = true ∧ pairUnit p = 0x2002 := by
  simp only [memTrigger, Bool.or_eq_true, beq_iff_eq] at h
  unfold isTrigger
  rcases h with ((((((h | h) | h) | h) | h) | h) | h) | h <;> subst h <;> rw [portInfo_plain _ _ _ (by decide) (by decide)] <;> decide

/-- How a move of a word that issues is made: nothing in flight is lost before or after it, it reads what the state before the word
gives, and an access of its own sees that state. -/
theorem word_at {s : State} {t : Nat} {ms : List Mv} {m : Mv} (h : issues s t ms = true) (hm : m ∈ ms)
    (ht : transfers m.dst = true → m.dst ≤ 0x10D) :
    ∃ s1, Grows t s s1 ∧ mvValue s1 t (thr s t).arch m = mvValue s t (thr s t).arch m ∧ (memTrigger m.dst = true → SameView t s s1) ∧
      Grows t (commitMove (thr s t).arch t s1 m) (settle (commitWord s t ms)) := by
  have fin : ∀ s2, (∀ x ∈ ms, transfers x.dst = true → x.dst ≤ 0x10D) →
      ms.foldl (fun s' m => commitMove (thr s t).arch t s' m) (countSlot s t (ms.any (fun m => m.dst == 0x1CF))) = s2 →
      Grows t s2 (settle (commitWord s t ms)) := by
    intro s2 hx e
    unfold commitWord
    dsimp only
    rw [e]
    refine Grows.settle ?_
    refine Grows.trans ?_ (arithFault_grows _ _ _ _)
    refine Grows.trans ?_ (flow_grows _ _ _ _ hx)
    exact (applySticky_grows _ _ _).trans (useStr_grows _ _ _)
  rcases word_form h with ⟨x, e⟩ | ⟨a, b, e, k1, k2, k3, k4, k5⟩
  · subst e
    obtain rfl : m = x := by simpa using hm
    exact ⟨_, countSlot_grows _ _ _, mvValue_slot _ _ _ _ _, fun _ => countSlot_view _ _ _, fin _ (by simpa using ht) rfl⟩
  · subst e
    have hx : ∀ x ∈ [a, b], transfers x.dst = true → x.dst ≤ 0x10D := by
      intro x hx
      simp only [List.mem_cons, List.not_mem_nil, or_false] at hx
      rcases hx with rfl | rfl
      · exact (shortDst_lt k1).2.2
      · exact (shortDst_lt k3).2.2
    have ga := fun s' => commitMove_grows (thr s t).arch t s' a (shortDst_lt k1).1 (shortDst_lt k1).2.1
    have gb := fun s' => commitMove_grows (thr s t).arch t s' b (shortDst_lt k3).1 (shortDst_lt k3).2.1
    have : m = a ∨ m = b := by simpa using hm
    rcases this with rfl | rfl
    · exact ⟨_, countSlot_grows _ _ _, mvValue_slot _ _ _ _ _, fun _ => countSlot_view _ _ _, (gb _).trans (fin _ hx rfl)⟩
    · refine ⟨commitMove (thr s t).arch t (countSlot s t _) a, (countSlot_grows _ _ _).trans (ga _), mvValue_short _ _ _ _ _ k4, fun hb => ?_,
        fin _ hx rfl⟩
      refine (countSlot_view _ _ _).trans (commitMove_view _ _ _ _ k1 ?_)
      by_contra hc
      have hc : memTrigger a.dst = true := by simpa using hc
      have p1 := memTrigger_trigger s t _ hc
      have p2 := memTrigger_trigger s t _ hb
      exact k5 ⟨p1.1, p2.1, p1.2.trans p2.2.symm⟩

/-- An operation that a move of a word starts is in flight after the word, when the move starts it in every state like this one. -/
theorem word_flies {s : State} {t : Nat} {ms : List Mv} {m : Mv} {k : OpKind} (h : issues s t ms = true) (hm : m ∈ ms)
    (ht : transfers m.dst = true → m.dst ≤ 0x10D)
    (hk : ∀ s1, mvValue s1 t (thr s t).arch m = mvValue s t (thr s t).arch m → (memTrigger m.dst = true → SameView t s s1) →
      Flies s1 (commitMove (thr s t).arch t s1 m) t k) : Flies s (settle (commitWord s t ms)) t k :=
  let ⟨s1, g, v, w, g2⟩ := word_at h hm ht
  Flies.grows (Flies.since g (hk s1 v w)) g2

theorem word_buffers {s : State} {t : Nat} {ms : List Mv} {m : Mv} {ps : Pieces} {w : Nat} {d : Word} {bad : Bool} (h : issues s t ms = true)
    (hm : m ∈ ms) (ht : transfers m.dst = true → m.dst ≤ 0x10D)
    (hk : ∀ s1, mvValue s1 t (thr s t).arch m = mvValue s t (thr s t).arch m → (memTrigger m.dst = true → SameView t s s1) →
      Buffers s1 (commitMove (thr s t).arch t s1 m) t ps w d bad) : Buffers s (settle (commitWord s t ms)) t ps w d bad :=
  let ⟨s1, g, v, x, g2⟩ := word_at h hm ht
  Buffers.grows (Buffers.since g (hk s1 v x)) g2

/-! ### Sticky bits -/

/-- A sticky bit that is set stays set. -/
def Sticks (t : Nat) (s s' : State) : Prop := ∀ b, 16 ≤ b → b < 32 → tbit (thr s t).arch b = true → tbit (thr s' t).arch b = true

theorem Sticks.trans {t : Nat} {a b c : State} (h : Sticks t a b) (k : Sticks t b c) : Sticks t a c := fun x h1 h2 h3 => k x h1 h2 (h x h1 h2 h3)

theorem Sticks.of_bits {t : Nat} {s s' : State} (h : (thr s' t).arch.bits = (thr s t).arch.bits) : Sticks t s s' :=
  fun b _ _ k => by unfold tbit at *; rw [h]; exact k

theorem sticks_ite {t : Nat} {s a b : State} {c : Prop} [Decidable c] (h : Sticks t s a) (k : Sticks t s b) : Sticks t s (if c then a else b) := by
  split
  · exact h
  · exact k

theorem modThr_sticks {t : Nat} {s : State} {f : Thread → Thread} (h : (f (thr s t)).arch.bits = (thr s t).arch.bits) : Sticks t s (modThr s t f) :=
  Sticks.of_bits (by rw [modThr_self]; exact h)

theorem modArch_sticks {t : Nat} {s : State} {f : Arch → Arch} (h : (f (thr s t).arch).bits = (thr s t).arch.bits) : Sticks t s (modArch s t f) :=
  modThr_sticks h

@[simp] theorem tbit_setBit (a : Arch) (i : Nat) (b : Bool) : tbit (setBit a i b) i = b := tget_tset_self _ _ _
theorem tbit_setBit_ne (a : Arch) (i j : Nat) (b : Bool) (h : j ≠ i) : tbit (setBit a i b) j = tbit a j := tget_tset_ne _ _ _ _ h

/-- A bit set leaves every sticky bit that is set as it is. -/
theorem setBit_sticks {a : Arch} {i b : Nat} (h : tbit a b = true) : tbit (setBit a i true) b = true := by
  by_cases e : b = i
  · subst e; simp
  · rw [tbit_setBit_ne _ _ _ _ e]; exact h

theorem startUnit_sticks (s : State) (t : Nat) (u : DUnit) (r : UnitRes) (b : Option (Nat × Bool)) : Sticks t s (startUnit s t u r b) := by
  intro x _ _ h
  unfold startUnit
  rw [modThr_self]
  dsimp only
  split
  · exact setBit_sticks h
  · exact h

theorem startUnit_sticky (s : State) (t : Nat) (u : DUnit) (r : UnitRes) (b : Option (Nat × Bool)) (i : Nat) (h : r.sticky = some i) :
    tbit (thr (startUnit s t u r b) t).arch i = true := by
  unfold startUnit
  rw [modThr_self]
  dsimp only
  rw [h]
  exact tbit_setBit _ _ _

theorem startDiv_sticks (s : State) (t : Nat) (sg : Bool) (n : Nat) (pre : Arch) (v : Word) : Sticks t s (startDiv s t sg n pre v) := by
  unfold startDiv
  extract_lets a r steps s1
  refine Sticks.trans (b := s1) (Sticks.of_bits rfl) ?_
  intro x _ _ h
  rw [modThr_self]
  dsimp only
  split
  · exact setBit_sticks h
  · exact h

theorem startDiv_sticky (s : State) (t : Nat) (sg : Bool) (n : Nat) (pre : Arch) (v : Word) (i : Nat)
    (h : (if sg then divsUnit n (port pre 0x0E0) v else divUnit n (train n (port pre 0x0E0)) (train n v)).sticky = some i) :
    tbit (thr (startDiv s t sg n pre v) t).arch i = true := by
  unfold startDiv
  extract_lets a r steps s1
  rw [modThr_self]
  dsimp only
  rw [show r.sticky = some i from h]
  exact tbit_setBit _ _ _

theorem unitTrigger_sticks (s : State) (t p n : Nat) (pre : Arch) (v : Word) : Sticks t s (unitTrigger s t p n pre v) := by
  unfold unitTrigger startCmp
  dsimp only
  repeat' with_reducible (first
    | apply startUnit_sticks
    | apply startDiv_sticks
    | apply sticks_ite)
  all_goals exact modThr_sticks rfl

theorem bits_ite {c : Prop} [Decidable c] {a b : Arch} {x : Tab Bool} (h : a.bits = x) (k : b.bits = x) : (if c then a else b).bits = x := by
  split
  · exact h
  · exact k

theorem advance_bits (a : Arch) : (advance a).bits = a.bits := by
  unfold advance
  repeat' (first | rfl | apply bits_ite)

theorem transfer_bits (a : Arch) (p : VAddr) : (transfer a p).bits = a.bits := bits_ite rfl rfl

/-- A short move leaves a sticky bit that is set. -/
theorem commitMove_sticks (pre : Arch) (t : Nat) (s : State) (m : Mv) (h : shortDst m.dst = true) : Sticks t s (commitMove pre t s m) := by
  have hp := shortDst_lt h
  have h64 : m.dst ≠ 0x064 ∧ m.dst ≠ 0x063 ∧ m.dst ≠ 0x12D ∧ m.dst ≠ 0x12C ∧ m.dst ≠ 0x122 ∧ m.dst ≠ 0x061 ∧
      (m.dst < 0x50 ∨ 0x60 ≤ m.dst) := by
    simp only [shortDst, Bool.or_eq_true, decide_eq_true_eq] at h
    rcases h with h | h
    · omega
    · have : ∀ p ∈ shortWindow, p ≠ 0x064 ∧ p ≠ 0x063 ∧ p ≠ 0x12D ∧ p ≠ 0x12C ∧ p ≠ 0x122 ∧ p ≠ 0x061 ∧ (p < 0x50 ∨ 0x60 ≤ p) := by decide
      exact this _ (by simpa using h)
  have hb : isBlank m.dst = false := by
    simp only [isBlank, decide_eq_false_iff_not]
    omega
  have store : ∀ va w d b, Sticks t s (oneStore s t va w d b) := fun va w d b => by
    refine Sticks.of_bits ?_
    unfold oneStore
    dsimp only
    rw [modThr_self]
    simp [enterStore, touch_thr]
  have mem : ∀ va n acc (f : Thread → Thread), (∀ th, (f th).arch.bits = th.arch.bits) → Sticks t s (modThr (touch s t va n acc) t f) := by
    intro va n acc f hf
    refine Sticks.of_bits ?_
    rw [modThr_self]
    show (f _).arch.bits = _
    rw [hf, touch_thr]
  unfold commitMove
  extract_lets v va p
  have hpm : p = m.dst := rfl
  apply sticks_ite (unitTrigger_sticks _ _ _ _ _ _)
  apply sticks_ite
  · exact mem _ _ _ _ (fun _ => rfl)
  apply sticks_ite (store _ _ _ _)
  apply sticks_ite
  · exact mem _ _ _ _ (fun _ => rfl)
  apply sticks_ite
  · exact mem _ _ _ _ (fun _ => rfl)
  apply sticks_ite
  · exact (store _ _ _ _).trans (modArch_sticks rfl)
  rw [if_neg (by omega), if_neg (by omega), if_neg (by omega), if_neg (by omega), if_neg (by omega), if_neg (by rw [hpm, hb]; simp),
    if_neg (by omega), if_neg (by omega), if_neg (by omega), if_neg (by omega)]
  apply sticks_ite (fun _ _ _ h => h)
  intro b h1 h2 k
  rw [modArch_arch]
  unfold writePort
  by_cases c1 : p < 0x40
  · rw [if_pos c1]; exact k
  rw [if_neg c1]
  by_cases c2 : p < 0x60
  · rw [if_pos c2, tbit_setBit_ne _ _ _ _ (by omega)]; exact k
  rw [if_neg c2, if_neg (by omega)]
  unfold tbit at *
  rw [← k]
  congr 1
  repeat' (first | rfl | apply bits_ite)

theorem doBranch_sticks (s : State) (t : Nat) (pre : Arch) (c : BranchCond) : Sticks t s (doBranch s t pre c) := by
  refine Sticks.of_bits ?_
  unfold doBranch
  dsimp only
  rw [modThr_self]
  dsimp only
  split
  · exact transfer_bits _ _
  · exact advance_bits _

/-- A branch, a jump or no transfer leaves the bits. -/
theorem flow_sticks (pre : Arch) (t : Nat) (s : State) (ms : List Mv) (h : ∀ m ∈ ms, transfers m.dst = true → m.dst ≤ 0x10D) :
    Sticks t s (flow pre t s ms) := by
  unfold flow
  split
  · exact modArch_sticks (advance_bits _)
  · rename_i m e
    have hm := h m (List.mem_of_find?_eq_some e) (by simpa using List.find?_some e)
    extract_lets v p
    have h2 : transfers m.dst = true := by simpa using List.find?_some e
    simp only [transfers, Bool.or_eq_true, Bool.and_eq_true, decide_eq_true_eq, beq_iff_eq] at h2
    have hp : p = m.dst := rfl
    by_cases c1 : p ≤ 0x109
    · rw [if_pos c1]; exact doBranch_sticks _ _ _ _
    rw [if_neg c1]
    by_cases c3 : p = 0x10A
    · rw [if_pos c3]; exact doBranch_sticks _ _ _ _
    rw [if_neg c3]
    by_cases c4 : p = 0x10B
    · rw [if_pos c4]; exact doBranch_sticks _ _ _ _
    rw [if_neg c4]
    by_cases c5 : p = 0x10C
    · rw [if_pos c5]; exact modArch_sticks (transfer_bits _ _)
    rw [if_neg c5]
    by_cases c2 : p = 0x10D
    · rw [if_pos c2]; exact modArch_sticks (transfer_bits _ _)
    exfalso
    omega

theorem settle_sticks (t : Nat) (s : State) : Sticks t s (settle s) := Sticks.of_bits (by rw [settle_arch])

theorem arithFault_sticks (s : State) (t : Nat) (b : Option Nat) (afe : Bool) : Sticks t s (arithFault s t b afe) := by
  unfold arithFault
  split
  · split
    · unfold raiseSync
      refine modThr_sticks ?_
      split <;> rfl
    · exact fun _ _ _ h => h
  · exact fun _ _ _ h => h

theorem applySticky_sticks (s : State) (t : Nat) (b : Option Nat) : Sticks t s (applySticky s t b) := by
  unfold applySticky
  split
  · intro b h1 h2 k
    rw [modArch_arch]
    exact setBit_sticks k
  · exact fun _ _ _ h => h

theorem useStr_sticks (s : State) (t : Nat) (ms : List Mv) : Sticks t s (useStr s t ms) := by
  unfold useStr
  split
  · exact fun _ _ _ h => h
  · exact modThr_sticks rfl

/-- A sticky bit that a move of a word sets is set after the word. -/
theorem word_sticks {s : State} {t : Nat} {ms : List Mv} {m : Mv} {i : Nat} (h : issues s t ms = true) (hm : m ∈ ms)
    (ht : transfers m.dst = true → m.dst ≤ 0x10D) (h1 : 16 ≤ i) (h2 : i < 32)
    (hk : ∀ s1, mvValue s1 t (thr s t).arch m = mvValue s t (thr s t).arch m → tbit (thr (commitMove (thr s t).arch t s1 m) t).arch i = true) :
    tbit (thr (settle (commitWord s t ms)) t).arch i = true := by
  have fin : ∀ s2, (∀ x ∈ ms, transfers x.dst = true → x.dst ≤ 0x10D) →
      ms.foldl (fun s' m => commitMove (thr s t).arch t s' m) (countSlot s t (ms.any (fun m => m.dst == 0x1CF))) = s2 →
      Sticks t s2 (settle (commitWord s t ms)) := by
    intro s2 hx e
    unfold commitWord
    dsimp only
    rw [e]
    refine Sticks.trans ?_ (settle_sticks _ _)
    refine Sticks.trans ?_ (arithFault_sticks _ _ _ _)
    refine Sticks.trans ?_ (flow_sticks _ _ _ _ hx)
    exact (applySticky_sticks _ _ _).trans (useStr_sticks _ _ _)
  rcases word_form h with ⟨x, e⟩ | ⟨a, b, e, k1, k2, k3, k4, k5⟩
  · subst e
    obtain rfl : m = x := by simpa using hm
    exact fin _ (by simpa using ht) rfl i h1 h2 (hk _ (mvValue_slot _ _ _ _ _))
  · subst e
    have hx : ∀ x ∈ [a, b], transfers x.dst = true → x.dst ≤ 0x10D := by
      intro x hx
      simp only [List.mem_cons, List.not_mem_nil, or_false] at hx
      rcases hx with rfl | rfl
      · exact (shortDst_lt k1).2.2
      · exact (shortDst_lt k3).2.2
    have : m = a ∨ m = b := by simpa using hm
    rcases this with rfl | rfl
    · exact (commitMove_sticks _ _ _ _ k3).trans (fin _ hx rfl) i h1 h2 (hk _ (mvValue_short _ _ _ _ _ k2))
    · exact fin _ hx rfl i h1 h2 (hk _ (mvValue_short _ _ _ _ _ k4))

end Sys2Proof.Machine
end

