-- ==== Sys2Proof/Laws/Engines.lean ====
section
/-! SUPPORT. What a job's set-up answers when each of its checks passes, and a key read from former contents; no evaluation of a CHK
is needed for either. -/

namespace Sys2Proof.Machine

/-- A sealed copy passes its CHK. -/
theorem copyOk_sealCopy (n : Nat) (m : Bytes) (h : KHdr) : copyOk n (sealCopy n m h) = true := by simp [copyOk, sealCopy, chkOf, copyBody]

/-- Every copy of a key's span passes its CHK in its own slot. -/
theorem spanCopies_ok (n : Nat) (h : KHdr) (m : Bytes) (i : Nat) (c : KCopy) (hc : (spanCopies n h m)[i]? = some c) : copyOk (n + i) c = true := by
  cases i with
  | zero => simp only [spanCopies, List.getElem?_cons_zero, Option.some.injEq] at hc; exact hc ▸ copyOk_sealCopy _ _ _
  | succ i =>
    simp only [spanCopies, List.getElem?_cons_succ, List.getElem?_map, Option.map_eq_some_iff, List.getElem?_eq_some_iff, List.getElem_range] at hc
    obtain ⟨a, ⟨_, rfl⟩, rfl⟩ := hc
    have e : n + (i + 1) = n + 1 + i := by omega
    exact e ▸ copyOk_sealCopy _ _ _

/-- The key that former contents hold. -/
def formerKey (n : Nat) (h : KHdr) (m : Bytes) : Key :=
  match spanCopies n h m with
  | [] => noKey
  | c :: rest => { slot := n, hdr := c.hdr, mat := padTo 32 c.mat ++ rest.flatMap (fun x => padTo 56 x.mat) }

/-- A job of an earlier turn reads its key from former contents (R186). -/
theorem readKey_former {s : State} {p turn n t : Nat} {h : KHdr} {m : Bytes} (store : s.ks.isSealed = false) (inside : n < slotMax)
    (former : formerOf s turn n = some { slot := n, copies := spanCopies n h m, turn := t }) (own : h.owner = p) :
    readKey s p turn n = (.ok (formerKey n h m), s) := by
  simp only [readKey, store, Bool.false_eq_true, if_false, Nat.not_le.mpr inside, former]
  unfold readFormer
  split
  · rename_i hc
    simp [spanCopies] at hc
  · rename_i c rest hc
    have shape : c = sealCopy n (padTo 32 m) { h with span := h.span, state := 1 } := by
      simp only [spanCopies, List.cons.injEq] at hc
      exact hc.1.symm
    have key : formerKey n h m = { slot := n, hdr := c.hdr, mat := padTo 32 c.mat ++ rest.flatMap (fun x => padTo 56 x.mat) } := by
      unfold formerKey
      rw [show spanCopies n h m = c :: rest from hc]
    have whole : ¬ (c.hdr.state = 0 ∨ c.hdr.state = 3 ∨ c.hdr.owner ≠ p) := by simp [shape, sealCopy, own]
    have live : c.hdr.state ≠ 2 := by simp [shape, sealCopy]
    simp only [if_neg whole, if_neg live, key]
    split
    · rename_i bad
      rw [Bool.not_eq_true', List.all_eq_false] at bad
      obtain ⟨i, _, bad⟩ := bad
      split at bad
      · rename_i x hx
        exact absurd (spanCopies_ok n h m i x hx) bad
      · exact absurd rfl bad
    · rfl

/-- What an operation computes with. -/
def jobCtx (s : State) (e : Nat) (j : Job) (d : Desc) (o : OpDef) (pi po pa : Pieces) (k1 k2 : Key) : Ctx where
  e := e
  p := j.part
  session := j.session
  kc := kcOfTurn s j.turn
  d := d
  k1 := k1
  k2 := k2
  inB := readBytes s pi
  auxB := readBytes s pa
  outB := if o.outMode d = 2 then readBytes s po else []
  inP := pi

/-- Whether the checks of a set-up other than the key reads pass (R229). -/
def checksPass (s : State) (e : Nat) (j : Job) (d : Desc) (o : OpDef) (pi po pa : Pieces) (k1 k2 : Key) : Bool :=
  let c := jobCtx s e j d o pi po pa k1 k2
  d.clean && o.okDesc d && evenStart (bufIn o d) && evenStart (bufOut o d) && evenStart (bufAux o d) &&
    !clash o j.desc (some pi) (some po) (some pa) && !(poisoned s pi || poisoned s pa || (o.outMode d == 2 && poisoned s po)) &&
    o.content d (readBytes s pi) (readBytes s pa) && o.keyed c && (!o.lateDest || destBase s j.part d) &&
    (match o.dest d with
      | none => true
      | some (kt, span) => destBase s j.part d && destTyped s d kt span && (stageRefusal s d.owner d.dslot span false == none)) &&
    (o.guard c s).1 && o.entropy c (o.guard c s).2

/-- A job whose buffers are translated, whose keys are read and whose other checks pass is set up, with sound inputs. -/
theorem setUp_ok {s : State} {e : Nat} {j : Job} {d : Desc} {o : OpDef} {pi po pa : Pieces} {k1 k2 : Key}
    (hi : bufPieces s (e / 9) j.part (bufIn o d) = some pi) (ho : bufPieces s (e / 9) j.part (bufOut o d) = some po)
    (ha : bufPieces s (e / 9) j.part (bufAux o d) = some pa)
    (h1 : namedKey s j.part j.turn d.key1 (o.key1 d (readBytes s pi)) = (.ok k1, s))
    (h2 : namedKey s j.part j.turn d.key2 (o.key2 d (readBytes s pi)) = (.ok k2, s)) (h : checksPass s e j d o pi po pa k1 k2 = true) :
    ∃ u, setUp s e j d o = (.ok u, (o.guard (jobCtx s e j d o pi po pa k1 k2) s).2) ∧ u.bad = false := by
  simp only [checksPass, Bool.and_eq_true, Bool.not_eq_true', Bool.or_eq_true] at h
  obtain ⟨⟨⟨⟨⟨⟨⟨⟨⟨⟨⟨⟨h3, h4⟩, h5⟩, h6⟩, h7⟩, h8⟩, h9⟩, h10⟩, h11⟩, h12⟩, h13⟩, h14⟩, h15⟩ := h
  have late : (o.lateDest && !destBase s j.part d) = false := by cases hl : o.lateDest <;> simp_all
  have dst : (match o.dest d with
      | none => none
      | some (kt, span) =>
        if destBase s j.part d && destTyped s d kt span then stageRefusal s d.owner d.dslot span false else some 0x34) = none := by
    revert h13
    cases o.dest d with
    | none => intro; rfl
    | some x => intro h13; simp only [Bool.and_eq_true, beq_iff_eq] at h13; simp [h13.1.1, h13.1.2, h13.2]
  have g : o.guard (jobCtx s e j d o pi po pa k1 k2) s = (true, (o.guard (jobCtx s e j d o pi po pa k1 k2) s).2) := by rw [← h14]
  unfold setUp
  simp only [hi, ho, ha, h3, h4, h5, h6, h7, h8, h9, h10, Bool.and_true, Bool.not_true, Bool.or_false, Bool.false_eq_true, if_false,
    Bool.not_false, Bool.and_false, h1, h2, late]
  simp only [jobCtx] at g h11 h15 ⊢
  simp only [h11, Bool.not_true, Bool.false_eq_true, if_false]
  split
  · rename_i st hst
    exact absurd (hst.symm.trans dst) (by simp)
  · rw [g]
    simp only [h15, Bool.not_true, Bool.false_eq_true, if_false]
    exact ⟨_, rfl, rfl⟩

end Sys2Proof.Machine
end

