-- ==== Sys2Proof/Laws/Memory.lean ====
section
/-! SUPPORT. The digits of memory: every store keeps the canonical form, a digit written reads as written, and every other
digit reads as before. -/

namespace Sys2Proof.Machine

/-- A run of digits written keeps the canonical form. -/
theorem memWrite_wf : ∀ (ds : List Digit) (m : Tab Digit) (a : Nat), memWf m = true → memWf (memWrite m a ds) = true
  | [], _, _, h => h
  | _ :: ds, _, a, h => memWrite_wf ds _ (a + 1) (tset_wf a _ h)

/-- Outside the digits written, memory reads as before. -/
theorem tget_memWrite_out : ∀ (ds : List Digit) (m : Tab Digit) (a x : Nat), x < a ∨ a + ds.length ≤ x →
    tget 0 (memWrite m a ds) x = tget 0 m x
  | [], _, _, _, _ => rfl
  | d :: ds, m, a, x, hx => by
    simp only [List.length_cons] at hx
    have h1 := tget_memWrite_out ds (tset 0 m a d) (a + 1) x (by omega)
    rw [memWrite, h1]
    exact tget_tset_ne m a x d (by omega)

/-- A digit written reads as written. -/
theorem tget_memWrite_in : ∀ (ds : List Digit) (m : Tab Digit) (a i : Nat) (hi : i < ds.length),
    tget 0 (memWrite m a ds) (a + i) = ds[i]
  | d :: ds, m, a, 0, _ => by
    rw [memWrite]
    show tget 0 (memWrite (tset 0 m a d) (a + 1) ds) a = d
    rw [tget_memWrite_out ds _ (a + 1) a (by omega)]
    exact tget_tset_self m a d
  | d :: ds, m, a, i + 1, hi => by
    have h1 := tget_memWrite_in ds (tset 0 m a d) (a + 1) i (by simpa using hi)
    rw [memWrite, show a + (i + 1) = a + 1 + i by omega, h1]
    rfl

@[simp] theorem storeAt_mem (s : State) (b : Option Nat) (a : Nat) (ds : List Digit) (bad : Bool) :
    (storeAt s b a ds bad).mem = memWrite s.mem a ds := rfl

/-- A store over the pieces of an access keeps the canonical form. -/
theorem storePieces_wf : ∀ (ps : Pieces) (ds : List Digit) (s : State) (b : Option Nat) (bad : Bool), memWf s.mem = true →
    memWf (storePieces s b ps ds bad).mem = true
  | [], _, _, _, _, h => h
  | (a, n) :: ps, ds, s, b, bad, h => storePieces_wf ps (ds.drop n) _ b bad (memWrite_wf (ds.take n) s.mem a h)

/-- Whether a digit address lies in some piece of an access. -/
def inPieces (ps : Pieces) (x : Nat) : Prop := ∃ p ∈ ps, p.1 ≤ x ∧ x < p.1 + p.2

/-- A store over pieces leaves every digit outside them as it was. -/
theorem storePieces_out : ∀ (ps : Pieces) (ds : List Digit) (s : State) (b : Option Nat) (bad : Bool) (x : Nat),
    ¬ inPieces ps x → readDigit (storePieces s b ps ds bad) x = readDigit s x
  | [], _, _, _, _, _, _ => rfl
  | (a, n) :: ps, ds, s, b, bad, x, hx => by
    rw [storePieces, storePieces_out ps (ds.drop n) _ b bad x
      (fun ⟨p, hp, hr⟩ => hx ⟨p, List.mem_cons_of_mem _ hp, hr⟩)]
    apply tget_memWrite_out
    have : ¬ (a ≤ x ∧ x < a + n) := fun hr => hx ⟨(a, n), List.mem_cons_self, hr⟩
    have hl : (ds.take n).length ≤ n := List.length_take_le n ds
    omega

/-- A cleared range reads 0, and every other digit as before. -/
theorem clearMem_read (s : State) (lo hi x : Nat) :
    readDigit (clearMem s lo hi) x = if lo ≤ x ∧ x < hi then 0 else readDigit s x :=
  tget_tdropRange s.mem lo hi x

end Sys2Proof.Machine
end

