-- ==== Sys2Proof/Laws/Keeps.lean ====
section
/-! SUPPORT. What no step of the machine undoes, as one relation between two states: memory stays canonical, the queue of
waiting commands is untouched, what has been sent stays sent, and the fuses only ever blow. One lemma for each function of
the machine says that it keeps the relation; the files `Laws/Keeps….lean` hold them in the machine's order. -/

namespace Sys2Proof.Machine

/-- Life-cycle codes in order: the state in force, then the one that the next boot begins in. -/
def LcOk (f : Fuses) : Prop := f.lcs ≤ f.lcsNext ∧ f.lcsNext ≤ 0xF

/-- Fuses that have only blown further (R429, R461, R464, R471, R478). -/
structure FusesGrow (f g : Fuses) : Prop where
  tamper : f.tamper = true → g.tamper = true
  lc : LcOk f → LcOk g ∧ f.lcs ≤ g.lcs ∧ f.lcsNext ≤ g.lcsNext
  epoch : f.epoch ≤ g.epoch
  svn : f.svn ≤ g.svn
  wear : (tabWf 0 none f.wear = true → tabWf 0 none g.wear = true) ∧ ∀ k, tget 0 f.wear k ≤ tget 0 g.wear k
  retire : f.retire <+: g.retire

theorem FusesGrow.refl (f : Fuses) : FusesGrow f f :=
  ⟨id, fun h => ⟨h, Nat.le_refl _, Nat.le_refl _⟩, Nat.le_refl _, Nat.le_refl _, ⟨id, fun _ => Nat.le_refl _⟩, List.prefix_refl _⟩

theorem FusesGrow.trans {f g h : Fuses} (a : FusesGrow f g) (b : FusesGrow g h) : FusesGrow f h :=
  ⟨fun x => b.tamper (a.tamper x),
   fun x => let y := a.lc x; let z := b.lc y.1; ⟨z.1, Nat.le_trans y.2.1 z.2.1, Nat.le_trans y.2.2 z.2.2⟩,
   Nat.le_trans a.epoch b.epoch, Nat.le_trans a.svn b.svn,
   ⟨fun x => b.wear.1 (a.wear.1 x), fun k => Nat.le_trans (a.wear.2 k) (b.wear.2 k)⟩,
   a.retire.trans b.retire⟩

/-- What every step keeps. -/
structure Keeps (s t : State) : Prop where
  mem : memWf s.mem = true → memWf t.mem = true
  pending : t.pending = s.pending
  fuses : FusesGrow s.fuses t.fuses
  out : s.out <+: t.out

theorem Keeps.refl (s : State) : Keeps s s := ⟨id, rfl, FusesGrow.refl _, List.prefix_refl _⟩

theorem Keeps.trans {s t u : State} (a : Keeps s t) (b : Keeps t u) : Keeps s u :=
  ⟨fun h => b.mem (a.mem h), b.pending.trans a.pending, a.fuses.trans b.fuses, a.out.trans b.out⟩

/-- A change of other fields. -/
theorem keeps_of {s0 s t : State} (h : Keeps s0 s) (hm : t.mem = s.mem) (hp : t.pending = s.pending) (hf : t.fuses = s.fuses)
    (ho : t.out = s.out) : Keeps s0 t :=
  ⟨fun x => hm ▸ h.mem x, hp.trans h.pending, hf ▸ h.fuses, ho ▸ h.out⟩

/-- A change of other fields, in the form of a whole state. -/
theorem keeps_mk {s0 s : State} {x_rdata : Word} {x_free : Nat} {x_now : Nat} {x_tally : Nat} {x_regs : Tab Word} {x_poison : Tab
    Bool} {x_threads : Tab Thread} {x_cyls : Tab Cyl} {x_krs : Tab Keyring} {x_engs : Tab Engine} {x_dmaTlb : Tab (List TlbEntry)}
    {x_inval : List Inval} {x_ks : KeyStore} {x_guard : Guard} {x_dma : Tab Chan} {x_dmaLast : Tab Nat} {x_intake : Intake} {x_kc
    : Keycut} {x_kcPrev : Keycut} {x_turns : Turns} {x_srcs : Tab Src} {x_arbs : Tab Arbiter} {x_doms : Tab Domain} {x_xq : Tab
    Crossing} {x_westad : Westad} {x_dbg : Debug} {x_supply : Supply} {x_keeper : Keeper} {x_audit : Audit} {x_faults : Faults}
    {x_boot : Boot} {x_req : Requests} {x_pins : Pins} {x_seeded : Bool} {x_trngBad : Bool} {x_ptpGood : Nat} {x_dramKeys : Tab
    Nat} {x_dramLost : Bool} {x_uartIn : Bytes} {x_linkPower : LinkPower}
    (h : Keeps s0 s) : Keeps s0 ⟨s.pending, x_rdata, x_free, x_now, x_tally, x_regs, s.mem, x_poison, x_threads, x_cyls, x_krs,
      x_engs, x_dmaTlb, x_inval, x_ks, x_guard, x_dma, x_dmaLast, x_intake, x_kc, x_kcPrev, x_turns, x_srcs, x_arbs, x_doms, x_xq,
      x_westad, x_dbg, x_supply, x_keeper, x_audit, x_faults, s.fuses, x_boot, x_req, x_pins, x_seeded, x_trngBad, x_ptpGood,
      x_dramKeys, x_dramLost, x_uartIn, x_linkPower, s.out⟩ :=
  ⟨h.mem, h.pending, h.fuses, h.out⟩

/-- A change of the fuses. -/
theorem keeps_fuses {s0 s t : State} (h : Keeps s0 s) (hf : FusesGrow s.fuses t.fuses) (hm : t.mem = s.mem) (hp : t.pending = s.pending)
    (ho : t.out = s.out) : Keeps s0 t :=
  ⟨fun x => hm ▸ h.mem x, hp.trans h.pending, h.fuses.trans hf, ho ▸ h.out⟩

/-- A change of memory that keeps its form. -/
theorem keeps_mem {s0 s t : State} (h : Keeps s0 s) (hm : memWf s.mem = true → memWf t.mem = true) (hp : t.pending = s.pending)
    (hf : t.fuses = s.fuses) (ho : t.out = s.out) : Keeps s0 t :=
  ⟨fun x => hm (h.mem x), hp.trans h.pending, hf ▸ h.fuses, ho ▸ h.out⟩

/-- The outcome is a next state that the relation holds for. -/
def Goes (s : State) (o : Host.Outcome State Fault Refusal) : Prop := ∃ t, o = .next t ∧ Keeps s t

/-- Either branch. -/
theorem keeps_ite {s0 a b : State} {c : Prop} [Decidable c] (ha : Keeps s0 a) (hb : Keeps s0 b) : Keeps s0 (if c then a else b) := by
  split <;> assumption

/-- Either branch of a function that answers a value beside the state. -/
theorem keeps_ite_snd {α : Type} {s0 : State} {a b : α × State} {c : Prop} [Decidable c] (ha : Keeps s0 a.2) (hb : Keeps s0 b.2) :
    Keeps s0 (if c then a else b).2 := by
  split <;> assumption

/-- The state of a pair that a function has answered. -/
theorem keeps_eq {α : Type} {s0 s : State} {p : α × State} {a : α} (e : p = (a, s)) (h : Keeps s0 p.2) : Keeps s0 s := by
  rw [e] at h
  exact h

/-- A walk over a list. -/
theorem keeps_foldl {β : Type} {s0 : State} {f : State → β → State} (l : List β) : ∀ {s : State}, Keeps s0 s →
    (∀ s x, Keeps s0 s → Keeps s0 (f s x)) → Keeps s0 (l.foldl f s) := by
  induction l with
  | nil => intro s h _; exact h
  | cons x l ih => intro s h hf; exact ih (hf s x h) hf

/-- A walk over a list that carries more than the state. -/
theorem keeps_foldl_fst {β γ : Type} {s0 : State} {f : State × γ → β → State × γ} (l : List β) : ∀ {s : State × γ}, Keeps s0 s.1 →
    (∀ s x, Keeps s0 s.1 → Keeps s0 (f s x).1) → Keeps s0 (l.foldl f s).1 := by
  induction l with
  | nil => intro s h _; exact h
  | cons x l ih => intro s h hf; exact ih (hf s x h) hf

end Sys2Proof.Machine
end

