-- ==== Sys2Proof/Laws/KeepsThreads.lean ====
section
/-! SUPPORT. Threads, memory, queues, the key store and the knocker: each function keeps the relation of `Laws/Keeps.lean`, and each command of these
files answers a next state that it holds for. -/

set_option linter.all false
set_option linter.unusedTactic false
set_option linter.unreachableTactic false

namespace Sys2Proof.Machine

/-! ### Ops -/

theorem regSet_keeps {s0 : State} (s : State) (r : Reg) (ix : Nat) (v : Word) (hk : Keeps s0 s) : Keeps s0 (regSet s r ix v) := by
  unfold regSet
  iterate 60 (try (any_goals (first | with_reducible assumption | with_reducible apply keeps_ite | with_reducible apply keeps_ite_snd | (with_reducible apply keeps_foldl <;> [skip; intro _ _ _]) | split | extract_lets | (apply keeps_eq; with_reducible assumption) | dsimp -zeta only | with_reducible apply keeps_mk)))

theorem fldSet_keeps {s0 : State} (s : State) (r : Reg) (ix hi lo v : Nat) (hk : Keeps s0 s) : Keeps s0 (fldSet s r ix hi lo v) :=
  regSet_keeps _ _ _ _ hk

theorem bump_keeps {s0 : State} (s : State) (r : Reg) (ix hi lo k : Nat) (hk : Keeps s0 s) : Keeps s0 (bump s r ix hi lo k) :=
  fldSet_keeps _ _ _ _ _ _ hk

theorem setBits_keeps {s0 : State} (s : State) (r : Reg) (ix : Nat) (m : Word) (hk : Keeps s0 s) : Keeps s0 (setBits s r ix m) :=
  regSet_keeps _ _ _ _ hk

theorem plainWrite_keeps {s0 : State} (s : State) (r : Reg) (ix : Nat) (v : Word) (hk : Keeps s0 s) : Keeps s0 (plainWrite s r ix v) := by
  unfold plainWrite
  iterate 60 (try (any_goals (first | with_reducible assumption | with_reducible apply keeps_ite | with_reducible apply keeps_ite_snd | with_reducible apply regSet_keeps | (with_reducible apply keeps_foldl <;> [skip; intro _ _ _]) | split | extract_lets | (apply keeps_eq; with_reducible assumption) | dsimp -zeta only | with_reducible apply keeps_mk)))

theorem clearOnRead_keeps {s0 : State} (s : State) (r : Reg) (ix : Nat) (hk : Keeps s0 s) : Keeps s0 (clearOnRead s r ix) :=
  regSet_keeps _ _ _ _ hk

theorem emit_keeps {s0 : State} (s : State) (o : Out) (h : Keeps s0 s) : Keeps s0 (emit s o) :=
  ⟨h.mem, h.pending, h.fuses, h.out.trans (List.prefix_append _ _)⟩

theorem freeWord_keeps {s0 : State} (s : State) (hk : Keeps s0 s) : Keeps s0 (freeWord s).2 := by
  unfold freeWord
  iterate 60 (try (any_goals (first | with_reducible assumption | with_reducible apply keeps_ite | with_reducible apply keeps_ite_snd | (with_reducible apply keeps_foldl <;> [skip; intro _ _ _]) | split | extract_lets | (apply keeps_eq; with_reducible assumption) | dsimp -zeta only | with_reducible apply keeps_mk)))

theorem trngBytes_keeps {s0 : State} (s : State) (n : Nat) (hk : Keeps s0 s) : Keeps s0 (trngBytes s n).2 := by
  unfold trngBytes
  iterate 60 (try (any_goals (first | with_reducible assumption | with_reducible apply keeps_ite | with_reducible apply keeps_ite_snd | (with_reducible apply keeps_foldl <;> [skip; intro _ _ _]) | split | extract_lets | (apply keeps_eq; with_reducible assumption) | dsimp -zeta only | with_reducible apply keeps_mk)))

theorem freeBytes_keeps {s0 : State} : ∀ (n : Nat) {s : State}, Keeps s0 s → Keeps s0 (freeBytes s n).2
  | 0, _, h => h
  | n + 1, _, h => freeBytes_keeps n (freeWord_keeps _ h)

theorem rawThr_keeps {s0 : State} (s : State) (t : Nat) (th : Thread) (hk : Keeps s0 s) : Keeps s0 (rawThr s t th) := by
  unfold rawThr
  iterate 60 (try (any_goals (first | with_reducible assumption | with_reducible apply keeps_ite | with_reducible apply keeps_ite_snd | (with_reducible apply keeps_foldl <;> [skip; intro _ _ _]) | split | extract_lets | (apply keeps_eq; with_reducible assumption) | dsimp -zeta only | with_reducible apply keeps_mk)))

theorem dropYield_keeps {s0 : State} (s : State) (t : Nat) (hk : Keeps s0 s) : Keeps s0 (dropYield s t) := by
  unfold dropYield
  iterate 60 (try (any_goals (first | with_reducible assumption | with_reducible apply keeps_ite | with_reducible apply keeps_ite_snd | with_reducible apply rawThr_keeps | (with_reducible apply keeps_foldl <;> [skip; intro _ _ _]) | split | extract_lets | (apply keeps_eq; with_reducible assumption) | dsimp -zeta only | with_reducible apply keeps_mk)))

theorem putThr_keeps {s0 : State} (s : State) (t : Nat) (th : Thread) (hk : Keeps s0 s) : Keeps s0 (putThr s t th) :=
  keeps_ite (dropYield_keeps _ _ (rawThr_keeps _ _ _ hk)) (rawThr_keeps _ _ _ hk)

theorem modThr_keeps {s0 : State} (s : State) (t : Nat) (f : Thread → Thread) (hk : Keeps s0 s) : Keeps s0 (modThr s t f) :=
  putThr_keeps _ _ _ hk

theorem modCyl_keeps {s0 : State} (s : State) (c : Nat) (f : Cyl → Cyl) (hk : Keeps s0 s) : Keeps s0 (modCyl s c f) := by
  unfold modCyl
  iterate 60 (try (any_goals (first | with_reducible assumption | with_reducible apply keeps_ite | with_reducible apply keeps_ite_snd | (with_reducible apply keeps_foldl <;> [skip; intro _ _ _]) | split | extract_lets | (apply keeps_eq; with_reducible assumption) | dsimp -zeta only | with_reducible apply keeps_mk)))

theorem modKr_keeps {s0 : State} (s : State) (k : Nat) (f : Keyring → Keyring) (hk : Keeps s0 s) : Keeps s0 (modKr s k f) := by
  unfold modKr
  iterate 60 (try (any_goals (first | with_reducible assumption | with_reducible apply keeps_ite | with_reducible apply keeps_ite_snd | (with_reducible apply keeps_foldl <;> [skip; intro _ _ _]) | split | extract_lets | (apply keeps_eq; with_reducible assumption) | dsimp -zeta only | with_reducible apply keeps_mk)))

theorem modEng_keeps {s0 : State} (s : State) (e : Nat) (f : Engine → Engine) (hk : Keeps s0 s) : Keeps s0 (modEng s e f) := by
  unfold modEng
  iterate 60 (try (any_goals (first | with_reducible assumption | with_reducible apply keeps_ite | with_reducible apply keeps_ite_snd | (with_reducible apply keeps_foldl <;> [skip; intro _ _ _]) | split | extract_lets | (apply keeps_eq; with_reducible assumption) | dsimp -zeta only | with_reducible apply keeps_mk)))

theorem modDom_keeps {s0 : State} (s : State) (d : Nat) (f : Domain → Domain) (hk : Keeps s0 s) : Keeps s0 (modDom s d f) := by
  unfold modDom
  iterate 60 (try (any_goals (first | with_reducible assumption | with_reducible apply keeps_ite | with_reducible apply keeps_ite_snd | (with_reducible apply keeps_foldl <;> [skip; intro _ _ _]) | split | extract_lets | (apply keeps_eq; with_reducible assumption) | dsimp -zeta only | with_reducible apply keeps_mk)))

theorem modUnit_keeps {s0 : State} (s : State) (cls ix : Nat) (f : PUnit → PUnit) (hk : Keeps s0 s) : Keeps s0 (modUnit s cls ix f) := by
  unfold modUnit
  iterate 60 (try (any_goals (first | with_reducible assumption | with_reducible apply keeps_ite | with_reducible apply keeps_ite_snd | (with_reducible apply keeps_foldl <;> [skip; intro _ _ _]) | split | extract_lets | (apply keeps_eq; with_reducible assumption) | dsimp -zeta only | with_reducible apply keeps_mk)))

theorem identitySign_keeps {s0 : State} (s : State) (ctx digest : Bytes) (hk : Keeps s0 s) : Keeps s0 (identitySign s ctx digest).2 := by
  unfold identitySign
  iterate 60 (try (any_goals (first | with_reducible assumption | with_reducible apply keeps_ite | with_reducible apply keeps_ite_snd | with_reducible apply trngBytes_keeps | (with_reducible apply keeps_foldl <;> [skip; intro _ _ _]) | split | extract_lets | (apply keeps_eq; with_reducible assumption) | dsimp -zeta only | with_reducible apply keeps_mk)))

theorem auditPush_keeps {s0 : State} (s : State) (source part kind : Nat) (body : Bytes) (hk : Keeps s0 s) : Keeps s0 (auditPush s source part kind body) := by
  unfold auditPush
  iterate 60 (try (any_goals (first | with_reducible assumption | with_reducible apply keeps_ite | with_reducible apply keeps_ite_snd | (with_reducible apply keeps_foldl <;> [skip; intro _ _ _]) | split | extract_lets | (apply keeps_eq; with_reducible assumption) | dsimp -zeta only | with_reducible apply keeps_mk)))

theorem auditSummaries_keeps {s0 : State} (s : State) (hk : Keeps s0 s) : Keeps s0 (auditSummaries s) := by
  unfold auditSummaries
  iterate 60 (try (any_goals (first | with_reducible assumption | with_reducible apply keeps_ite | with_reducible apply keeps_ite_snd | with_reducible apply auditPush_keeps | (with_reducible apply keeps_foldl <;> [skip; intro _ _ _]) | split | extract_lets | (apply keeps_eq; with_reducible assumption) | dsimp -zeta only | with_reducible apply keeps_mk)))

theorem audit_keeps {s0 : State} (s : State) (source part kind : Nat) (body : Bytes) (hk : Keeps s0 s) : Keeps s0 (audit s source part kind body) := by
  unfold audit
  iterate 60 (try (any_goals (first | with_reducible assumption | with_reducible apply keeps_ite | with_reducible apply keeps_ite_snd | with_reducible apply auditSummaries_keeps | with_reducible apply auditPush_keeps | (with_reducible apply keeps_foldl <;> [skip; intro _ _ _]) | split | extract_lets | (apply keeps_eq; with_reducible assumption) | dsimp -zeta only | with_reducible apply keeps_mk)))

theorem modSrc_keeps {s0 : State} (s : State) (n : Nat) (f : Src → Src) (hk : Keeps s0 s) : Keeps s0 (modSrc s n f) := by
  unfold modSrc
  iterate 60 (try (any_goals (first | with_reducible assumption | with_reducible apply keeps_ite | with_reducible apply keeps_ite_snd | (with_reducible apply keeps_foldl <;> [skip; intro _ _ _]) | split | extract_lets | (apply keeps_eq; with_reducible assumption) | dsimp -zeta only | with_reducible apply keeps_mk)))

theorem wakeThr_keeps {s0 : State} (s : State) (t : Nat) (hk : Keeps s0 s) : Keeps s0 (wakeThr s t) := by
  unfold wakeThr
  iterate 60 (try (any_goals (first | with_reducible assumption | with_reducible apply keeps_ite | with_reducible apply keeps_ite_snd | with_reducible apply putThr_keeps | (with_reducible apply keeps_foldl <;> [skip; intro _ _ _]) | split | extract_lets | (apply keeps_eq; with_reducible assumption) | dsimp -zeta only | with_reducible apply keeps_mk)))

theorem wakeTargets_keeps {s0 : State} (s : State) (n : Nat) (hk : Keeps s0 s) : Keeps s0 (wakeTargets s n) := by
  unfold wakeTargets
  iterate 60 (try (any_goals (first | with_reducible assumption | with_reducible apply keeps_ite | with_reducible apply keeps_ite_snd | with_reducible apply wakeThr_keeps | (with_reducible apply keeps_foldl <;> [skip; intro _ _ _]) | split | extract_lets | (apply keeps_eq; with_reducible assumption) | dsimp -zeta only | with_reducible apply keeps_mk)))

theorem deny_keeps {s0 : State} (s : State) (p : Nat) (hk : Keeps s0 s) : Keeps s0 (deny s p) :=
  keeps_ite hk (bump_keeps _ _ _ _ _ _ hk)

theorem raise_keeps {s0 : State} (s : State) (p n : Nat) (hk : Keeps s0 s) : Keeps s0 (raise s p n) := by
  unfold raise
  iterate 60 (try (any_goals (first | with_reducible assumption | with_reducible apply keeps_ite | with_reducible apply keeps_ite_snd | with_reducible apply deny_keeps | with_reducible apply wakeTargets_keeps | with_reducible apply modSrc_keeps | (with_reducible apply keeps_foldl <;> [skip; intro _ _ _]) | split | extract_lets | (apply keeps_eq; with_reducible assumption) | dsimp -zeta only | with_reducible apply keeps_mk)))

theorem errKnock_keeps {s0 : State} (s : State) (p : Nat) (hk : Keeps s0 s) : Keeps s0 (errKnock s p) :=
  raise_keeps _ _ _ hk

theorem loseResv_keeps {s0 : State} (s : State) (by_ : Option Nat) (lines : List Nat) (hk : Keeps s0 s) : Keeps s0 (loseResv s by_ lines) := by
  unfold loseResv
  iterate 60 (try (any_goals (first | with_reducible assumption | with_reducible apply keeps_ite | with_reducible apply keeps_ite_snd | (with_reducible apply keeps_foldl <;> [skip; intro _ _ _]) | split | extract_lets | (apply keeps_eq; with_reducible assumption) | dsimp -zeta only | with_reducible apply keeps_mk)))

theorem storeAt_keeps {s0 s : State} (by_ : Option Nat) (a : Nat) (ds : List Digit) (bad : Bool) (h : Keeps s0 s) :
    Keeps s0 (storeAt s by_ a ds bad) :=
  keeps_mem h (fun x => memWrite_wf ds s.mem a x) rfl rfl rfl

theorem storePieces_keeps {s0 : State} (by_ : Option Nat) (bad : Bool) : ∀ (ps : Pieces) (ds : List Digit) {s : State}, Keeps s0 s →
    Keeps s0 (storePieces s by_ ps ds bad)
  | [], _, _, h => h
  | (_, _) :: ps, ds, _, h => storePieces_keeps by_ bad ps _ (storeAt_keeps by_ _ _ bad h)

theorem storeBytes_keeps {s0 : State} (s : State) (ps : Pieces) (b : Bytes) (hk : Keeps s0 s) : Keeps s0 (storeBytes s ps b) := by
  unfold storeBytes
  iterate 60 (try (any_goals (first | with_reducible assumption | with_reducible apply keeps_ite | with_reducible apply keeps_ite_snd | with_reducible apply storePieces_keeps | (with_reducible apply keeps_foldl <;> [skip; intro _ _ _]) | split | extract_lets | (apply keeps_eq; with_reducible assumption) | dsimp -zeta only | with_reducible apply keeps_mk)))

theorem clearMem_keeps {s0 s : State} (lo hi : Nat) (h : Keeps s0 s) : Keeps s0 (clearMem s lo hi) :=
  keeps_mem h (fun x => tdropRange_wf lo hi x) rfl rfl rfl

theorem modKeeper_keeps {s0 : State} (s : State) (f : Keeper → Keeper) (hk : Keeps s0 s) : Keeps s0 (modKeeper s f) := by
  unfold modKeeper
  iterate 60 (try (any_goals (first | with_reducible assumption | with_reducible apply keeps_ite | with_reducible apply keeps_ite_snd | (with_reducible apply keeps_foldl <;> [skip; intro _ _ _]) | split | extract_lets | (apply keeps_eq; with_reducible assumption) | dsimp -zeta only | with_reducible apply keeps_mk)))

theorem blowTamper_keeps {s0 : State} (s : State) (hk : Keeps s0 s) : Keeps s0 (blowTamper s) :=
  keeps_fuses hk ⟨fun _ => rfl, fun h => ⟨h, Nat.le_refl _, Nat.le_refl _⟩, Nat.le_refl _, Nat.le_refl _,
    ⟨id, fun _ => Nat.le_refl _⟩, List.prefix_refl _⟩ rfl rfl rfl

theorem blowEpoch_keeps {s0 : State} (s : State) (hk : Keeps s0 s) : Keeps s0 (blowEpoch s) := by
  refine keeps_fuses hk ⟨id, fun h => ?_, Nat.le_succ _, Nat.le_refl _, ⟨id, fun _ => Nat.le_refl _⟩, List.prefix_refl _⟩ rfl rfl rfl
  obtain ⟨h1, h2⟩ := h
  refine ⟨⟨?_, ?_⟩, Nat.le_refl _, ?_⟩ <;> dsimp only [blowEpoch] <;> split <;> omega

theorem wakeEvent_keeps {s0 : State} (s : State) (cause : Nat) (hk : Keeps s0 s) : Keeps s0 (wakeEvent s cause) := by
  unfold wakeEvent
  iterate 60 (try (any_goals (first | with_reducible assumption | with_reducible apply keeps_ite | with_reducible apply keeps_ite_snd | (with_reducible apply keeps_foldl <;> [skip; intro _ _ _]) | split | extract_lets | (apply keeps_eq; with_reducible assumption) | dsimp -zeta only | with_reducible apply keeps_mk)))

theorem dropCaches_keeps {s0 : State} (s : State) (c : Nat) (hk : Keeps s0 s) : Keeps s0 (dropCaches s c) :=
  modCyl_keeps _ _ _ hk

theorem askFreeze_keeps {s0 : State} (s : State) (t : Nat) (why : Freeze) (hk : Keeps s0 s) : Keeps s0 (askFreeze s t why) := by
  unfold askFreeze
  iterate 60 (try (any_goals (first | with_reducible assumption | with_reducible apply keeps_ite | with_reducible apply keeps_ite_snd | with_reducible apply putThr_keeps | (with_reducible apply keeps_foldl <;> [skip; intro _ _ _]) | split | extract_lets | (apply keeps_eq; with_reducible assumption) | dsimp -zeta only | with_reducible apply keeps_mk)))

theorem underProbe_keeps {s0 : State} (s : State) (cls ix : Nat) (hk : Keeps s0 s) : Keeps s0 (underProbe s cls ix) := by
  unfold underProbe
  iterate 60 (try (any_goals (first | with_reducible assumption | with_reducible apply keeps_ite | with_reducible apply keeps_ite_snd | with_reducible apply askFreeze_keeps | with_reducible apply dropCaches_keeps | with_reducible apply modDom_keeps | with_reducible apply modEng_keeps | (with_reducible apply keeps_foldl <;> [skip; intro _ _ _]) | split | extract_lets | (apply keeps_eq; with_reducible assumption) | dsimp -zeta only | with_reducible apply keeps_mk)))

theorem report_keeps {s0 : State} (s : State) (cls ix err part detail : Nat) (hk : Keeps s0 s) : Keeps s0 (report s cls ix err part detail) := by
  unfold report
  iterate 60 (try (any_goals (first | with_reducible assumption | with_reducible apply keeps_ite | with_reducible apply keeps_ite_snd | with_reducible apply underProbe_keeps | with_reducible apply modUnit_keeps | (with_reducible apply keeps_foldl <;> [skip; intro _ _ _]) | split | extract_lets | (apply keeps_eq; with_reducible assumption) | dsimp -zeta only | with_reducible apply keeps_mk)))

theorem quietCause_keeps {s0 : State} (s : State) (cause : Nat) (hk : Keeps s0 s) : Keeps s0 (quietCause s cause) := by
  unfold quietCause
  iterate 60 (try (any_goals (first | with_reducible assumption | with_reducible apply keeps_ite | with_reducible apply keeps_ite_snd | (with_reducible apply keeps_foldl <;> [skip; intro _ _ _]) | split | extract_lets | (apply keeps_eq; with_reducible assumption) | dsimp -zeta only | with_reducible apply keeps_mk)))

theorem domDown_keeps {s0 : State} (s : State) (d : Nat) (hk : Keeps s0 s) : Keeps s0 (domDown s d) :=
  modDom_keeps _ _ _ hk

/-! ### Arbiters -/

theorem drawArb_keeps {s0 : State} (s : State) (a : Nat) (cs : List Nat) (hk : Keeps s0 s) : Keeps s0 (drawArb s a cs).2 := by
  unfold drawArb
  iterate 60 (try (any_goals (first | with_reducible assumption | with_reducible apply keeps_ite | with_reducible apply keeps_ite_snd | (with_reducible apply keeps_foldl <;> [skip; intro _ _ _]) | split | extract_lets | (apply keeps_eq; with_reducible assumption) | dsimp -zeta only | with_reducible apply keeps_mk)))

theorem seedDraw_keeps {s0 : State} : ∀ (n : Nat) {s : State}, Keeps s0 s → Keeps s0 (seedDraw s n).2
  | 0, _, h => h
  | n + 1, _, h => by
    unfold seedDraw
    extract_lets
    split
    · exact seedDraw_keeps n (trngBytes_keeps _ 4 h)
    · exact trngBytes_keeps _ 4 h

theorem seedArbiters_keeps {s0 : State} (s : State) (hk : Keeps s0 s) : Keeps s0 (seedArbiters s) := by
  unfold seedArbiters
  iterate 60 (try (any_goals (first | with_reducible assumption | with_reducible apply keeps_ite | with_reducible apply keeps_ite_snd | with_reducible apply seedDraw_keeps | (with_reducible apply keeps_foldl <;> [skip; intro _ _ _]) | split | extract_lets | (apply keeps_eq; with_reducible assumption) | dsimp -zeta only | with_reducible apply keeps_mk)))

theorem unseedArbiters_keeps {s0 : State} (s : State) (hk : Keeps s0 s) : Keeps s0 (unseedArbiters s) := by
  unfold unseedArbiters
  iterate 60 (try (any_goals (first | with_reducible assumption | with_reducible apply keeps_ite | with_reducible apply keeps_ite_snd | (with_reducible apply keeps_foldl <;> [skip; intro _ _ _]) | split | extract_lets | (apply keeps_eq; with_reducible assumption) | dsimp -zeta only | with_reducible apply keeps_mk)))

/-! ### Wire -/

theorem modLink_keeps {s0 : State} (s : State) (l : Nat) (f : Link → Link) (hk : Keeps s0 s) : Keeps s0 (modLink s l f) := by
  unfold modLink
  iterate 60 (try (any_goals (first | with_reducible assumption | with_reducible apply keeps_ite | with_reducible apply keeps_ite_snd | (with_reducible apply keeps_foldl <;> [skip; intro _ _ _]) | split | extract_lets | (apply keeps_eq; with_reducible assumption) | dsimp -zeta only | with_reducible apply keeps_mk)))

theorem modPair_keeps {s0 : State} (s : State) (m : Nat) (f : Pair → Pair) (hk : Keeps s0 s) : Keeps s0 (modPair s m f) := by
  unfold modPair
  iterate 60 (try (any_goals (first | with_reducible assumption | with_reducible apply keeps_ite | with_reducible apply keeps_ite_snd | (with_reducible apply keeps_foldl <;> [skip; intro _ _ _]) | split | extract_lets | (apply keeps_eq; with_reducible assumption) | dsimp -zeta only | with_reducible apply keeps_mk)))

theorem sendFlit_keeps {s0 : State} (s : State) (l ty seq cred frag : Nat) (pay : Bytes) (hk : Keeps s0 s) : Keeps s0 (sendFlit s l ty seq cred frag pay) := by
  unfold sendFlit
  iterate 60 (try (any_goals (first | with_reducible assumption | with_reducible apply keeps_ite | with_reducible apply keeps_ite_snd | with_reducible apply modLink_keeps | with_reducible apply emit_keeps | (with_reducible apply keeps_foldl <;> [skip; intro _ _ _]) | split | extract_lets | (apply keeps_eq; with_reducible assumption) | dsimp -zeta only | with_reducible apply keeps_mk)))

theorem sendData_keeps {s0 : State} (s : State) (l c : Nat) (hk : Keeps s0 s) : Keeps s0 (sendData s l c) := by
  unfold sendData
  iterate 60 (try (any_goals (first | with_reducible assumption | with_reducible apply keeps_ite | with_reducible apply keeps_ite_snd | with_reducible apply sendFlit_keeps | with_reducible apply modLink_keeps | (with_reducible apply keeps_foldl <;> [skip; intro _ _ _]) | split | extract_lets | (apply keeps_eq; with_reducible assumption) | dsimp -zeta only | with_reducible apply keeps_mk)))

theorem pumpLink_keeps {s0 : State} (nn : Nat) : ∀ {s : State} (l : Nat), Keeps s0 s → Keeps s0 (pumpLink s l nn) := by
  induction nn with
  | zero => intros; unfold pumpLink
            iterate 30 (try (any_goals (first | with_reducible assumption | with_reducible apply keeps_ite | with_reducible apply keeps_ite_snd | with_reducible apply sendData_keeps | with_reducible apply drawArb_keeps | (with_reducible apply keeps_foldl <;> [skip; intro _ _ _]) | split | extract_lets | (apply keeps_eq; with_reducible assumption) | dsimp -zeta only | with_reducible apply keeps_mk)))
  | succ nn ih =>
    intros
    unfold pumpLink
    iterate 60 (try (any_goals (first | with_reducible assumption | with_reducible apply ih | with_reducible apply keeps_ite | with_reducible apply keeps_ite_snd | with_reducible apply sendData_keeps | with_reducible apply drawArb_keeps | (with_reducible apply keeps_foldl <;> [skip; intro _ _ _]) | split | extract_lets | (apply keeps_eq; with_reducible assumption) | dsimp -zeta only | with_reducible apply keeps_mk)))

theorem pump_keeps {s0 : State} (s : State) (l : Nat) (hk : Keeps s0 s) : Keeps s0 (pump s l) := by
  unfold pump
  iterate 60 (try (any_goals (first | with_reducible assumption | with_reducible apply keeps_ite | with_reducible apply keeps_ite_snd | with_reducible apply pumpLink_keeps | (with_reducible apply keeps_foldl <;> [skip; intro _ _ _]) | split | extract_lets | (apply keeps_eq; with_reducible assumption) | dsimp -zeta only | with_reducible apply keeps_mk)))

theorem putOnLink_keeps {s0 : State} (s : State) (dst cls : Nat) (msg : Bytes) (hk : Keeps s0 s) : Keeps s0 (putOnLink s dst cls msg) := by
  unfold putOnLink
  iterate 60 (try (any_goals (first | with_reducible assumption | with_reducible apply keeps_ite | with_reducible apply keeps_ite_snd | with_reducible apply pump_keeps | with_reducible apply modLink_keeps | (with_reducible apply keeps_foldl <;> [skip; intro _ _ _]) | split | extract_lets | (apply keeps_eq; with_reducible assumption) | dsimp -zeta only | with_reducible apply keeps_mk)))

theorem resendPair_keeps {s0 : State} (s : State) (m : Nat) (hk : Keeps s0 s) : Keeps s0 (resendPair s m) := by
  unfold resendPair
  iterate 60 (try (any_goals (first | with_reducible assumption | with_reducible apply keeps_ite | with_reducible apply keeps_ite_snd | with_reducible apply putOnLink_keeps | (with_reducible apply keeps_foldl <;> [skip; intro _ _ _]) | split | extract_lets | (apply keeps_eq; with_reducible assumption) | dsimp -zeta only | with_reducible apply keeps_mk)))

theorem sendMsg_keeps {s0 : State} (s : State) (m cls mtype : Nat) (body : Bytes) (hk : Keeps s0 s) : Keeps s0 (sendMsg s m cls mtype body) := by
  unfold sendMsg
  iterate 60 (try (any_goals (first | with_reducible assumption | with_reducible apply keeps_ite | with_reducible apply keeps_ite_snd | with_reducible apply putOnLink_keeps | with_reducible apply modPair_keeps | (with_reducible apply keeps_foldl <;> [skip; intro _ _ _]) | split | extract_lets | (apply keeps_eq; with_reducible assumption) | dsimp -zeta only | with_reducible apply keeps_mk)))

theorem sendAll_keeps {s0 : State} (s : State) (cls mtype : Nat) (body : Bytes) (hk : Keeps s0 s) : Keeps s0 (sendAll s cls mtype body) := by
  unfold sendAll
  iterate 60 (try (any_goals (first | with_reducible assumption | with_reducible apply keeps_ite | with_reducible apply keeps_ite_snd | with_reducible apply sendMsg_keeps | (with_reducible apply keeps_foldl <;> [skip; intro _ _ _]) | split | extract_lets | (apply keeps_eq; with_reducible assumption) | dsimp -zeta only | with_reducible apply keeps_mk)))

theorem sendAck_keeps {s0 : State} (s : State) (m cls : Nat) (hk : Keeps s0 s) : Keeps s0 (sendAck s m cls) :=
  keeps_ite (putOnLink_keeps _ _ _ _ hk) hk

theorem sendClear_keeps {s0 : State} (s : State) (m mtype : Nat) (body : Bytes) (hk : Keeps s0 s) : Keeps s0 (sendClear s m mtype body) :=
  putOnLink_keeps _ _ _ _ hk

theorem kxSign_keeps {s0 : State} (s : State) (digest : Bytes) (hk : Keeps s0 s) : Keeps s0 (kxSign s digest).2 := by
  unfold kxSign
  iterate 60 (try (any_goals (first | with_reducible assumption | with_reducible apply keeps_ite | with_reducible apply keeps_ite_snd | with_reducible apply identitySign_keeps | (with_reducible apply keeps_foldl <;> [skip; intro _ _ _]) | split | extract_lets | (apply keeps_eq; with_reducible assumption) | dsimp -zeta only | with_reducible apply keeps_mk)))

theorem startKeying_keeps {s0 : State} (s : State) (m : Nat) (hk : Keeps s0 s) : Keeps s0 (startKeying s m) := by
  unfold startKeying
  iterate 60 (try (any_goals (first | with_reducible assumption | with_reducible apply keeps_ite | with_reducible apply keeps_ite_snd | with_reducible apply kxSign_keeps | with_reducible apply sendClear_keeps | with_reducible apply modPair_keeps | with_reducible apply trngBytes_keeps | (with_reducible apply keeps_foldl <;> [skip; intro _ _ _]) | split | extract_lets | (apply keeps_eq; with_reducible assumption) | dsimp -zeta only | with_reducible apply keeps_mk)))

theorem pairKeyed_keeps {s0 : State} (s : State) (m : Nat) (initiator : Bool) (secret kx1 kx2 : Bytes) (hk : Keeps s0 s) : Keeps s0 (pairKeyed s m initiator secret kx1 kx2) := by
  unfold pairKeyed
  iterate 60 (try (any_goals (first | with_reducible assumption | with_reducible apply keeps_ite | with_reducible apply keeps_ite_snd | with_reducible apply resendPair_keeps | with_reducible apply modPair_keeps | (with_reducible apply keeps_foldl <;> [skip; intro _ _ _]) | split | extract_lets | (apply keeps_eq; with_reducible assumption) | dsimp -zeta only | with_reducible apply keeps_mk)))

theorem refusePair_keeps {s0 : State} (s : State) (m : Nat) (hk : Keeps s0 s) : Keeps s0 (refusePair s m) :=
  audit_keeps _ _ _ _ _ (modPair_keeps _ _ _ hk)

theorem floodRoute_keeps {s0 : State} (s : State) (src : Nat) (edges : List (Nat × Nat)) (hk : Keeps s0 s) : Keeps s0 (floodRoute s src edges) := by
  unfold floodRoute
  iterate 60 (try (any_goals (first | with_reducible assumption | with_reducible apply keeps_ite | with_reducible apply keeps_ite_snd | with_reducible apply pump_keeps | with_reducible apply modLink_keeps | (with_reducible apply keeps_foldl <;> [skip; intro _ _ _]) | split | extract_lets | (apply keeps_eq; with_reducible assumption) | dsimp -zeta only | with_reducible apply keeps_mk)))

theorem routesChanged_keeps {s0 : State} (s : State) (hk : Keeps s0 s) : Keeps s0 (routesChanged s) := by
  unfold routesChanged
  iterate 60 (try (any_goals (first | with_reducible assumption | with_reducible apply keeps_ite | with_reducible apply keeps_ite_snd | with_reducible apply startKeying_keeps | with_reducible apply sendClear_keeps | with_reducible apply resendPair_keeps | (with_reducible apply keeps_foldl <;> [skip; intro _ _ _]) | split | extract_lets | (apply keeps_eq; with_reducible assumption) | dsimp -zeta only | with_reducible apply keeps_mk)))

theorem linksChanged_keeps {s0 : State} (s : State) (hk : Keeps s0 s) : Keeps s0 (linksChanged s) := by
  unfold linksChanged
  iterate 60 (try (any_goals (first | with_reducible assumption | with_reducible apply keeps_ite | with_reducible apply keeps_ite_snd | with_reducible apply routesChanged_keeps | with_reducible apply floodRoute_keeps | (with_reducible apply keeps_foldl <;> [skip; intro _ _ _]) | split | extract_lets | (apply keeps_eq; with_reducible assumption) | dsimp -zeta only | with_reducible apply keeps_mk)))

/-! ### Translate -/

theorem tlbUse_keeps {s0 : State} (s : State) (t va acc : Nat) (hk : Keeps s0 s) : Keeps s0 (tlbUse s t va acc) := by
  unfold tlbUse
  iterate 60 (try (any_goals (first | with_reducible assumption | with_reducible apply keeps_ite | with_reducible apply keeps_ite_snd | with_reducible apply modCyl_keeps | (with_reducible apply keeps_foldl <;> [skip; intro _ _ _]) | split | extract_lets | (apply keeps_eq; with_reducible assumption) | dsimp -zeta only | with_reducible apply keeps_mk)))

theorem tlbInstall_keeps {s0 : State} (s : State) (t acc : Nat) (e : TlbEntry) (hk : Keeps s0 s) : Keeps s0 (tlbInstall s t acc e) := by
  unfold tlbInstall
  iterate 60 (try (any_goals (first | with_reducible assumption | with_reducible apply keeps_ite | with_reducible apply keeps_ite_snd | with_reducible apply modKr_keeps | with_reducible apply modCyl_keeps | (with_reducible apply keeps_foldl <;> [skip; intro _ _ _]) | split | extract_lets | (apply keeps_eq; with_reducible assumption) | dsimp -zeta only | with_reducible apply keeps_mk)))

theorem tlbDrop_keeps {s0 : State} (s : State) (f : TlbEntry → Bool) (hk : Keeps s0 s) : Keeps s0 (tlbDrop s f) := by
  unfold tlbDrop
  iterate 60 (try (any_goals (first | with_reducible assumption | with_reducible apply keeps_ite | with_reducible apply keeps_ite_snd | (with_reducible apply keeps_foldl <;> [skip; intro _ _ _]) | split | extract_lets | (apply keeps_eq; with_reducible assumption) | dsimp -zeta only | with_reducible apply keeps_mk)))

theorem storeUse_keeps {s0 : State} (s : State) (k line part : Nat) (dirty : Bool) (hk : Keeps s0 s) : Keeps s0 (storeUse s k line part dirty) :=
  modKr_keeps _ _ _ hk

theorem cacheLoad_keeps {s0 : State} (s : State) (t line : Nat) (hk : Keeps s0 s) : Keeps s0 (cacheLoad s t line) := by
  unfold cacheLoad
  iterate 60 (try (any_goals (first | with_reducible assumption | with_reducible apply keeps_ite | with_reducible apply keeps_ite_snd | with_reducible apply storeUse_keeps | with_reducible apply modCyl_keeps | (with_reducible apply keeps_foldl <;> [skip; intro _ _ _]) | split | extract_lets | (apply keeps_eq; with_reducible assumption) | dsimp -zeta only | with_reducible apply keeps_mk)))

theorem cacheFetch_keeps {s0 : State} (s : State) (t line : Nat) (hk : Keeps s0 s) : Keeps s0 (cacheFetch s t line) := by
  unfold cacheFetch
  iterate 60 (try (any_goals (first | with_reducible assumption | with_reducible apply keeps_ite | with_reducible apply keeps_ite_snd | with_reducible apply storeUse_keeps | with_reducible apply modCyl_keeps | (with_reducible apply keeps_foldl <;> [skip; intro _ _ _]) | split | extract_lets | (apply keeps_eq; with_reducible assumption) | dsimp -zeta only | with_reducible apply keeps_mk)))

theorem cacheStore_keeps {s0 : State} (s : State) (t line : Nat) (hk : Keeps s0 s) : Keeps s0 (cacheStore s t line) :=
  keeps_ite (storeUse_keeps _ _ _ _ _ hk) hk

/-! ### Seats -/

theorem decideSeat_keeps {s0 : State} (s : State) (t e code : Nat) (hk : Keeps s0 s) : Keeps s0 (decideSeat s t e code) := by
  unfold decideSeat
  iterate 60 (try (any_goals (first | with_reducible assumption | with_reducible apply keeps_ite | with_reducible apply keeps_ite_snd | with_reducible apply putThr_keeps | (with_reducible apply keeps_foldl <;> [skip; intro _ _ _]) | split | extract_lets | (apply keeps_eq; with_reducible assumption) | dsimp -zeta only | with_reducible apply keeps_mk)))

theorem giveSeat_keeps {s0 : State} (s : State) (t e : Nat) (hk : Keeps s0 s) : Keeps s0 (giveSeat s t e) :=
  decideSeat_keeps _ _ _ _ (modEng_keeps _ _ _ hk)

theorem grantSeats_keeps {s0 : State} (nn : Nat) : ∀ {s : State} (e : Nat), Keeps s0 s → Keeps s0 (grantSeats s e nn) := by
  induction nn with
  | zero => intros; unfold grantSeats
            iterate 30 (try (any_goals (first | with_reducible assumption | with_reducible apply keeps_ite | with_reducible apply keeps_ite_snd | with_reducible apply giveSeat_keeps | with_reducible apply drawArb_keeps | (with_reducible apply keeps_foldl <;> [skip; intro _ _ _]) | split | extract_lets | (apply keeps_eq; with_reducible assumption) | dsimp -zeta only | with_reducible apply keeps_mk)))
  | succ nn ih =>
    intros
    unfold grantSeats
    iterate 60 (try (any_goals (first | with_reducible assumption | with_reducible apply ih | with_reducible apply keeps_ite | with_reducible apply keeps_ite_snd | with_reducible apply giveSeat_keeps | with_reducible apply drawArb_keeps | (with_reducible apply keeps_foldl <;> [skip; intro _ _ _]) | split | extract_lets | (apply keeps_eq; with_reducible assumption) | dsimp -zeta only | with_reducible apply keeps_mk)))

theorem reserveSeat_keeps {s0 : State} (s : State) (t i : Nat) (hk : Keeps s0 s) : Keeps s0 (reserveSeat s t i) := by
  unfold reserveSeat
  iterate 60 (try (any_goals (first | with_reducible assumption | with_reducible apply keeps_ite | with_reducible apply keeps_ite_snd | with_reducible apply giveSeat_keeps | with_reducible apply decideSeat_keeps | with_reducible apply modEng_keeps | with_reducible apply putThr_keeps | (with_reducible apply keeps_foldl <;> [skip; intro _ _ _]) | split | extract_lets | (apply keeps_eq; with_reducible assumption) | dsimp -zeta only | with_reducible apply keeps_mk)))

theorem endSeat_keeps {s0 : State} (s : State) (t e : Nat) (hk : Keeps s0 s) : Keeps s0 (endSeat s t e) := by
  unfold endSeat
  iterate 60 (try (any_goals (first | with_reducible assumption | with_reducible apply keeps_ite | with_reducible apply keeps_ite_snd | with_reducible apply grantSeats_keeps | with_reducible apply modEng_keeps | (with_reducible apply keeps_foldl <;> [skip; intro _ _ _]) | split | extract_lets | (apply keeps_eq; with_reducible assumption) | dsimp -zeta only | with_reducible apply keeps_mk)))

theorem endSeats_keeps {s0 : State} (s : State) (t : Nat) (hk : Keeps s0 s) : Keeps s0 (endSeats s t) := by
  unfold endSeats
  iterate 60 (try (any_goals (first | with_reducible assumption | with_reducible apply keeps_ite | with_reducible apply keeps_ite_snd | with_reducible apply endSeat_keeps | (with_reducible apply keeps_foldl <;> [skip; intro _ _ _]) | split | extract_lets | (apply keeps_eq; with_reducible assumption) | dsimp -zeta only | with_reducible apply keeps_mk)))

theorem withdrawSeat_keeps {s0 : State} (s : State) (t : Nat) (hk : Keeps s0 s) : Keeps s0 (withdrawSeat s t) := by
  unfold withdrawSeat
  iterate 60 (try (any_goals (first | with_reducible assumption | with_reducible apply keeps_ite | with_reducible apply keeps_ite_snd | with_reducible apply decideSeat_keeps | with_reducible apply modEng_keeps | (with_reducible apply keeps_foldl <;> [skip; intro _ _ _]) | split | extract_lets | (apply keeps_eq; with_reducible assumption) | dsimp -zeta only | with_reducible apply keeps_mk)))

theorem jobReport_keeps {s0 : State} (s : State) (t i status : Nat) (hk : Keeps s0 s) : Keeps s0 (jobReport s t i status) := by
  unfold jobReport
  iterate 60 (try (any_goals (first | with_reducible assumption | with_reducible apply keeps_ite | with_reducible apply keeps_ite_snd | with_reducible apply putThr_keeps | (with_reducible apply keeps_foldl <;> [skip; intro _ _ _]) | split | extract_lets | (apply keeps_eq; with_reducible assumption) | dsimp -zeta only | with_reducible apply keeps_mk)))

theorem acceptJobs_keeps {s0 : State} (s : State) (t : Nat) (hk : Keeps s0 s) : Keeps s0 (acceptJobs s t) := by
  unfold acceptJobs
  iterate 60 (try (any_goals (first | with_reducible assumption | with_reducible apply keeps_ite | with_reducible apply keeps_ite_snd | with_reducible apply modEng_keeps | with_reducible apply putThr_keeps | (with_reducible apply keeps_foldl <;> [skip; intro _ _ _]) | split | extract_lets | (apply keeps_eq; with_reducible assumption) | dsimp -zeta only | with_reducible apply keeps_mk)))

theorem submitJob_keeps {s0 : State} (s : State) (t i va : Nat) (desc : Pieces) (hk : Keeps s0 s) : Keeps s0 (submitJob s t i va desc) := by
  unfold submitJob
  iterate 60 (try (any_goals (first | with_reducible assumption | with_reducible apply keeps_ite | with_reducible apply keeps_ite_snd | with_reducible apply acceptJobs_keeps | with_reducible apply jobReport_keeps | with_reducible apply putThr_keeps | (with_reducible apply keeps_foldl <;> [skip; intro _ _ _]) | split | extract_lets | (apply keeps_eq; with_reducible assumption) | dsimp -zeta only | with_reducible apply keeps_mk)))

/-! ### Queues -/

theorem modCq_keeps {s0 : State} (s : State) (q : Nat) (f : CmdQueue → CmdQueue) (hk : Keeps s0 s) : Keeps s0 (modCq s q f) := by
  unfold modCq
  iterate 60 (try (any_goals (first | with_reducible assumption | with_reducible apply keeps_ite | with_reducible apply keeps_ite_snd | (with_reducible apply keeps_foldl <;> [skip; intro _ _ _]) | split | extract_lets | (apply keeps_eq; with_reducible assumption) | dsimp -zeta only | with_reducible apply keeps_mk)))

theorem modRq_keeps {s0 : State} (s : State) (q : Nat) (f : RespQueue → RespQueue) (hk : Keeps s0 s) : Keeps s0 (modRq s q f) := by
  unfold modRq
  iterate 60 (try (any_goals (first | with_reducible assumption | with_reducible apply keeps_ite | with_reducible apply keeps_ite_snd | (with_reducible apply keeps_foldl <;> [skip; intro _ _ _]) | split | extract_lets | (apply keeps_eq; with_reducible assumption) | dsimp -zeta only | with_reducible apply keeps_mk)))

theorem modSess_keeps {s0 : State} (s : State) (n : Nat) (f : Session → Session) (hk : Keeps s0 s) : Keeps s0 (modSess s n f) := by
  unfold modSess
  iterate 60 (try (any_goals (first | with_reducible assumption | with_reducible apply keeps_ite | with_reducible apply keeps_ite_snd | (with_reducible apply keeps_foldl <;> [skip; intro _ _ _]) | split | extract_lets | (apply keeps_eq; with_reducible assumption) | dsimp -zeta only | with_reducible apply keeps_mk)))

theorem setHold_keeps {s0 : State} (s : State) (g : Nat) (hk : Keeps s0 s) : Keeps s0 (setHold s g) := by
  unfold setHold
  iterate 60 (try (any_goals (first | with_reducible assumption | with_reducible apply keeps_ite | with_reducible apply keeps_ite_snd | (with_reducible apply keeps_foldl <;> [skip; intro _ _ _]) | split | extract_lets | (apply keeps_eq; with_reducible assumption) | dsimp -zeta only | with_reducible apply keeps_mk)))

theorem setHolds_keeps {s0 : State} (s : State) (hk : Keeps s0 s) : Keeps s0 (setHolds s) := by
  unfold setHolds
  iterate 60 (try (any_goals (first | with_reducible assumption | with_reducible apply keeps_ite | with_reducible apply keeps_ite_snd | with_reducible apply setHold_keeps | (with_reducible apply keeps_foldl <;> [skip; intro _ _ _]) | split | extract_lets | (apply keeps_eq; with_reducible assumption) | dsimp -zeta only | with_reducible apply keeps_mk)))

theorem setFlow_keeps {s0 : State} (s : State) (port : Nat) (hk : Keeps s0 s) : Keeps s0 (setFlow s port) := by
  unfold setFlow
  iterate 60 (try (any_goals (first | with_reducible assumption | with_reducible apply keeps_ite | with_reducible apply keeps_ite_snd | with_reducible apply emit_keeps | (with_reducible apply keeps_foldl <;> [skip; intro _ _ _]) | split | extract_lets | (apply keeps_eq; with_reducible assumption) | dsimp -zeta only | with_reducible apply keeps_mk)))

theorem setPressure_keeps {s0 : State} (s : State) (hk : Keeps s0 s) : Keeps s0 (setPressure s) :=
  setFlow_keeps _ _ (setFlow_keeps _ _ (setHolds_keeps _ hk))

theorem judgeHigh_keeps {s0 : State} (s : State) (q : Nat) (hk : Keeps s0 s) : Keeps s0 (judgeHigh s q) := by
  unfold judgeHigh
  iterate 60 (try (any_goals (first | with_reducible assumption | with_reducible apply keeps_ite | with_reducible apply keeps_ite_snd | with_reducible apply setPressure_keeps | with_reducible apply modCq_keeps | (with_reducible apply keeps_foldl <;> [skip; intro _ _ _]) | split | extract_lets | (apply keeps_eq; with_reducible assumption) | dsimp -zeta only | with_reducible apply keeps_mk)))

theorem freeLines_keeps {s0 : State} (s : State) (c : Cmd) (hk : Keeps s0 s) : Keeps s0 (freeLines s c) :=
  judgeHigh_keeps _ _ (modCq_keeps _ _ _ hk)

theorem modCmd_keeps {s0 : State} (s : State) (q ord : Nat) (f : Cmd → Cmd) (hk : Keeps s0 s) : Keeps s0 (modCmd s q ord f) := by
  unfold modCmd
  iterate 60 (try (any_goals (first | with_reducible assumption | with_reducible apply keeps_ite | with_reducible apply keeps_ite_snd | with_reducible apply modCq_keeps | with_reducible apply rawThr_keeps | (with_reducible apply keeps_foldl <;> [skip; intro _ _ _]) | split | extract_lets | (apply keeps_eq; with_reducible assumption) | dsimp -zeta only | with_reducible apply keeps_mk)))

theorem markGap_keeps {s0 : State} (s : State) (q : Nat) (hk : Keeps s0 s) : Keeps s0 (markGap s q) := by
  unfold markGap
  iterate 60 (try (any_goals (first | with_reducible assumption | with_reducible apply keeps_ite | with_reducible apply keeps_ite_snd | with_reducible apply modCmd_keeps | with_reducible apply modCq_keeps | (with_reducible apply keeps_foldl <;> [skip; intro _ _ _]) | split | extract_lets | (apply keeps_eq; with_reducible assumption) | dsimp -zeta only | with_reducible apply keeps_mk)))

theorem dropCmd_keeps {s0 : State} (s : State) (q : Nat) (hk : Keeps s0 s) : Keeps s0 (dropCmd s q) :=
  markGap_keeps _ _ (bump_keeps _ _ _ _ _ _ hk)

theorem markRespGap_keeps {s0 : State} (s : State) (q : Nat) (hk : Keeps s0 s) : Keeps s0 (markRespGap s q) := by
  unfold markRespGap
  iterate 60 (try (any_goals (first | with_reducible assumption | with_reducible apply keeps_ite | with_reducible apply keeps_ite_snd | with_reducible apply modRq_keeps | (with_reducible apply keeps_foldl <;> [skip; intro _ _ _]) | split | extract_lets | (apply keeps_eq; with_reducible assumption) | dsimp -zeta only | with_reducible apply keeps_mk)))

theorem dropResp_keeps {s0 : State} (s : State) (q : Nat) (hk : Keeps s0 s) : Keeps s0 (dropResp s q) :=
  markRespGap_keeps _ _ (bump_keeps _ _ _ _ _ _ hk)

theorem setSmbAlert_keeps {s0 : State} (s : State) (hk : Keeps s0 s) : Keeps s0 (setSmbAlert s) := by
  unfold setSmbAlert
  iterate 60 (try (any_goals (first | with_reducible assumption | with_reducible apply keeps_ite | with_reducible apply keeps_ite_snd | (with_reducible apply keeps_foldl <;> [skip; intro _ _ _]) | split | extract_lets | (apply keeps_eq; with_reducible assumption) | dsimp -zeta only | with_reducible apply keeps_mk)))

theorem storeResp_keeps {s0 : State} (s : State) (q : Nat) (r : Resp) (hk : Keeps s0 s) : Keeps s0 (storeResp s q r) :=
  keeps_ite (dropResp_keeps _ _ hk) (setSmbAlert_keeps _ (modRq_keeps _ _ _ hk))

theorem answer_keeps {s0 : State} (s : State) (c : Cmd) (rcode : Nat) (hk : Keeps s0 s) : Keeps s0 (answer s c rcode) := by
  unfold answer
  iterate 60 (try (any_goals (first | with_reducible assumption | with_reducible apply keeps_ite | with_reducible apply keeps_ite_snd | with_reducible apply storeResp_keeps | with_reducible apply bump_keeps | (with_reducible apply keeps_foldl <;> [skip; intro _ _ _]) | split | extract_lets | (apply keeps_eq; with_reducible assumption) | dsimp -zeta only | with_reducible apply keeps_mk)))

theorem answerRelease_keeps {s0 : State} (s : State) (c : Cmd) (rcode : Nat) (hk : Keeps s0 s) : Keeps s0 (answerRelease s c rcode) :=
  freeLines_keeps _ _ (answer_keeps _ _ _ hk)

theorem releaseCmd_keeps {s0 : State} (s : State) (t : Nat) (hk : Keeps s0 s) : Keeps s0 (releaseCmd s t) := by
  unfold releaseCmd
  iterate 60 (try (any_goals (first | with_reducible assumption | with_reducible apply keeps_ite | with_reducible apply keeps_ite_snd | with_reducible apply freeLines_keeps | with_reducible apply modThr_keeps | (with_reducible apply keeps_foldl <;> [skip; intro _ _ _]) | split | extract_lets | (apply keeps_eq; with_reducible assumption) | dsimp -zeta only | with_reducible apply keeps_mk)))

theorem returnItem_keeps {s0 : State} (s : State) (c : Cmd) (hk : Keeps s0 s) : Keeps s0 (returnItem s c) :=
  keeps_ite (freeLines_keeps _ _ hk) (modCq_keeps _ _ _ hk)

theorem rewindCmd_keeps {s0 : State} (s : State) (t : Nat) (hk : Keeps s0 s) : Keeps s0 (rewindCmd s t) := by
  unfold rewindCmd
  iterate 60 (try (any_goals (first | with_reducible assumption | with_reducible apply keeps_ite | with_reducible apply keeps_ite_snd | with_reducible apply returnItem_keeps | with_reducible apply modThr_keeps | (with_reducible apply keeps_foldl <;> [skip; intro _ _ _]) | split | extract_lets | (apply keeps_eq; with_reducible assumption) | dsimp -zeta only | with_reducible apply keeps_mk)))

theorem rewindItems_keeps {s0 : State} (s : State) (t : Nat) (hk : Keeps s0 s) : Keeps s0 (rewindItems s t) := by
  unfold rewindItems
  iterate 60 (try (any_goals (first | with_reducible assumption | with_reducible apply keeps_ite | with_reducible apply keeps_ite_snd | with_reducible apply returnItem_keeps | with_reducible apply putThr_keeps | (with_reducible apply keeps_foldl <;> [skip; intro _ _ _]) | split | extract_lets | (apply keeps_eq; with_reducible assumption) | dsimp -zeta only | with_reducible apply keeps_mk)))

theorem staleCurrent_keeps {s0 : State} (s : State) (t : Nat) (hk : Keeps s0 s) : Keeps s0 (staleCurrent s t) := by
  unfold staleCurrent
  iterate 60 (try (any_goals (first | with_reducible assumption | with_reducible apply keeps_ite | with_reducible apply keeps_ite_snd | with_reducible apply answerRelease_keeps | with_reducible apply modThr_keeps | (with_reducible apply keeps_foldl <;> [skip; intro _ _ _]) | split | extract_lets | (apply keeps_eq; with_reducible assumption) | dsimp -zeta only | with_reducible apply keeps_mk)))

theorem endCmds_keeps {s0 : State} (s : State) (f : Cmd → Bool) (rcode : Option Nat) (hk : Keeps s0 s) : Keeps s0 (endCmds s f rcode) := by
  unfold endCmds
  iterate 60 (try (any_goals (first | with_reducible assumption | with_reducible apply keeps_ite | with_reducible apply keeps_ite_snd | with_reducible apply answerRelease_keeps | with_reducible apply freeLines_keeps | with_reducible apply modCq_keeps | with_reducible apply putThr_keeps | (with_reducible apply keeps_foldl <;> [skip; intro _ _ _]) | split | extract_lets | (apply keeps_eq; with_reducible assumption) | dsimp -zeta only | with_reducible apply keeps_mk)))

/-! ### KeyStore -/

theorem putCopies_keeps {s0 : State} (s : State) (n : Nat) (l : List KCopy) (hk : Keeps s0 s) : Keeps s0 (putCopies s n l) := by
  unfold putCopies
  iterate 60 (try (any_goals (first | with_reducible assumption | with_reducible apply keeps_ite | with_reducible apply keeps_ite_snd | (with_reducible apply keeps_foldl <;> [skip; intro _ _ _]) | split | extract_lets | (apply keeps_eq; with_reducible assumption) | dsimp -zeta only | with_reducible apply keeps_mk)))

theorem ksEvent_keeps {s0 : State} (s : State) (cause n : Nat) (hk : Keeps s0 s) : Keeps s0 (ksEvent s cause n) :=
  fldSet_keeps _ _ _ _ _ _ (fldSet_keeps _ _ _ _ _ _ hk)

theorem ksAlarm_keeps {s0 : State} (s : State) (cause n part : Nat) (hk : Keeps s0 s) : Keeps s0 (ksAlarm s cause n part) :=
  errKnock_keeps _ _ (ksEvent_keeps _ _ _ (audit_keeps _ _ _ _ _ hk))

theorem countQuarantine_keeps {s0 : State} (s : State) (hk : Keeps s0 s) : Keeps s0 (countQuarantine s) := by
  unfold countQuarantine
  iterate 60 (try (any_goals (first | with_reducible assumption | with_reducible apply keeps_ite | with_reducible apply keeps_ite_snd | with_reducible apply quietCause_keeps | (with_reducible apply keeps_foldl <;> [skip; intro _ _ _]) | split | extract_lets | (apply keeps_eq; with_reducible assumption) | dsimp -zeta only | with_reducible apply keeps_mk)))

theorem markQuarantined_keeps {s0 : State} (s : State) (n : Nat) (hk : Keeps s0 s) : Keeps s0 (markQuarantined s n) :=
  putCopies_keeps _ _ _ hk

theorem quarantine_keeps {s0 : State} (s : State) (n cause part : Nat) (hk : Keeps s0 s) : Keeps s0 (quarantine s n cause part) := by
  unfold quarantine
  iterate 60 (try (any_goals (first | with_reducible assumption | with_reducible apply keeps_ite | with_reducible apply keeps_ite_snd | with_reducible apply markQuarantined_keeps | with_reducible apply countQuarantine_keeps | with_reducible apply ksAlarm_keeps | with_reducible apply report_keeps | (with_reducible apply keeps_foldl <;> [skip; intro _ _ _]) | split | extract_lets | (apply keeps_eq; with_reducible assumption) | dsimp -zeta only | with_reducible apply keeps_mk)))

theorem rewriteCopy_keeps {s0 : State} (s : State) (n : Nat) (c : KCopy) (banks : List Nat) (hk : Keeps s0 s) : Keeps s0 (rewriteCopy s n c banks) := by
  unfold rewriteCopy
  iterate 60 (try (any_goals (first | with_reducible assumption | with_reducible apply keeps_ite | with_reducible apply keeps_ite_snd | with_reducible apply putCopies_keeps | with_reducible apply report_keeps | (with_reducible apply keeps_foldl <;> [skip; intro _ _ _]) | split | extract_lets | (apply keeps_eq; with_reducible assumption) | dsimp -zeta only | with_reducible apply keeps_mk)))

theorem readRest_keeps {s0 : State} : ∀ (l : List Nat) {s : State}, Keeps s0 s → Keeps s0 (readRest s l).2 := by
  intro l
  induction l with
  | nil => intro s hk; exact hk
  | cons n l ih =>
    intro s hk
    unfold readRest
    split
    · exact hk
    · exact hk
    · exact ih (rewriteCopy_keeps _ _ _ _ hk)

theorem readFormer_keeps {s0 : State} (s : State) (p : Nat) (f : Former) (hk : Keeps s0 s) : Keeps s0 (readFormer s p f).2 := by
  unfold readFormer
  iterate 60 (try (any_goals (first | with_reducible assumption | with_reducible apply keeps_ite | with_reducible apply keeps_ite_snd | with_reducible apply report_keeps | (with_reducible apply keeps_foldl <;> [skip; intro _ _ _]) | split | extract_lets | (apply keeps_eq; with_reducible assumption) | dsimp -zeta only | with_reducible apply keeps_mk)))

theorem readLive_keeps {s0 : State} (s : State) (p n : Nat) (hk : Keeps s0 s) : Keeps s0 (readLive s p n).2 := by
  unfold readLive
  iterate 60 (try (any_goals (first | with_reducible assumption | with_reducible apply keeps_ite | with_reducible apply keeps_ite_snd | with_reducible apply readRest_keeps | with_reducible apply rewriteCopy_keeps | with_reducible apply quarantine_keeps | (with_reducible apply keeps_foldl <;> [skip; intro _ _ _]) | split | extract_lets | (apply keeps_eq; with_reducible assumption) | dsimp -zeta only | with_reducible apply keeps_mk)))

theorem readKey_keeps {s0 : State} (s : State) (p turn handle : Nat) (hk : Keeps s0 s) : Keeps s0 (readKey s p turn handle).2 := by
  unfold readKey
  iterate 60 (try (any_goals (first | with_reducible assumption | with_reducible apply keeps_ite | with_reducible apply keeps_ite_snd | with_reducible apply readLive_keeps | with_reducible apply readFormer_keeps | (with_reducible apply keeps_foldl <;> [skip; intro _ _ _]) | split | extract_lets | (apply keeps_eq; with_reducible assumption) | dsimp -zeta only | with_reducible apply keeps_mk)))

theorem poolPut_keeps {s0 : State} (s : State) (x : Staged) (hk : Keeps s0 s) : Keeps s0 (poolPut s x) := by
  unfold poolPut
  iterate 60 (try (any_goals (first | with_reducible assumption | with_reducible apply keeps_ite | with_reducible apply keeps_ite_snd | (with_reducible apply keeps_foldl <;> [skip; intro _ _ _]) | split | extract_lets | (apply keeps_eq; with_reducible assumption) | dsimp -zeta only | with_reducible apply keeps_mk)))

theorem stageEntry_keeps {s0 : State} (s : State) (n : Nat) (copies : List KCopy) (erase : Bool) (op part : Nat) (hk : Keeps s0 s) : Keeps s0 (stageEntry s n copies erase op part) := by
  unfold stageEntry
  iterate 60 (try (any_goals (first | with_reducible assumption | with_reducible apply keeps_ite | with_reducible apply keeps_ite_snd | with_reducible apply poolPut_keeps | with_reducible apply sendAll_keeps | with_reducible apply audit_keeps | (with_reducible apply keeps_foldl <;> [skip; intro _ _ _]) | split | extract_lets | (apply keeps_eq; with_reducible assumption) | dsimp -zeta only | with_reducible apply keeps_mk)))

theorem stageKey_keeps {s0 : State} (s : State) (n : Nat) (h : KHdr) (mat : Bytes) (op : Nat) (hk : Keeps s0 s) : Keeps s0 (stageKey s n h mat op) :=
  stageEntry_keeps _ _ _ _ _ _ hk

theorem ksEraseWrite_keeps {s0 : State} (s : State) (p : Nat) (v : Word) (hk : Keeps s0 s) : Keeps s0 (ksEraseWrite s p v) := by
  unfold ksEraseWrite
  iterate 60 (try (any_goals (first | with_reducible assumption | with_reducible apply keeps_ite | with_reducible apply keeps_ite_snd | with_reducible apply stageEntry_keeps | with_reducible apply fldSet_keeps | (with_reducible apply keeps_foldl <;> [skip; intro _ _ _]) | split | extract_lets | (apply keeps_eq; with_reducible assumption) | dsimp -zeta only | with_reducible apply keeps_mk)))

theorem poolRetry_keeps {s0 : State} (s : State) (hk : Keeps s0 s) : Keeps s0 (poolRetry s) := by
  unfold poolRetry
  iterate 60 (try (any_goals (first | with_reducible assumption | with_reducible apply keeps_ite | with_reducible apply keeps_ite_snd | with_reducible apply poolPut_keeps | (with_reducible apply keeps_foldl <;> [skip; intro _ _ _]) | split | extract_lets | (apply keeps_eq; with_reducible assumption) | dsimp -zeta only | with_reducible apply keeps_mk)))

theorem mirrorEntry_keeps {s0 : State} (s : State) (x : Staged) (hk : Keeps s0 s) : Keeps s0 (mirrorEntry s x) := by
  unfold mirrorEntry
  iterate 60 (try (any_goals (first | with_reducible assumption | with_reducible apply keeps_ite | with_reducible apply keeps_ite_snd | with_reducible apply poolPut_keeps | (with_reducible apply keeps_foldl <;> [skip; intro _ _ _]) | split | extract_lets | (apply keeps_eq; with_reducible assumption) | dsimp -zeta only | with_reducible apply keeps_mk)))

theorem discardStaged_keeps {s0 : State} (s : State) (origin : Nat) (hk : Keeps s0 s) : Keeps s0 (discardStaged s origin) := by
  unfold discardStaged
  iterate 60 (try (any_goals (first | with_reducible assumption | with_reducible apply keeps_ite | with_reducible apply keeps_ite_snd | with_reducible apply poolRetry_keeps | (with_reducible apply keeps_foldl <;> [skip; intro _ _ _]) | split | extract_lets | (apply keeps_eq; with_reducible assumption) | dsimp -zeta only | with_reducible apply keeps_mk)))

theorem writeSlot_keeps {s0 : State} (s : State) (n : Nat) (c : KCopy) (hk : Keeps s0 s) : Keeps s0 (writeSlot s n c) := by
  unfold writeSlot
  iterate 60 (try (any_goals (first | with_reducible assumption | with_reducible apply keeps_ite | with_reducible apply keeps_ite_snd | with_reducible apply putCopies_keeps | (with_reducible apply keeps_foldl <;> [skip; intro _ _ _]) | split | extract_lets | (apply keeps_eq; with_reducible assumption) | dsimp -zeta only | with_reducible apply keeps_mk)))

theorem promoteEntry_keeps {s0 : State} (s : State) (turn : Nat) (x : Staged) (hk : Keeps s0 s) : Keeps s0 (promoteEntry s turn x) := by
  unfold promoteEntry
  iterate 60 (try (any_goals (first | with_reducible assumption | with_reducible apply keeps_ite | with_reducible apply keeps_ite_snd | with_reducible apply writeSlot_keeps | with_reducible apply ksAlarm_keeps | with_reducible apply putCopies_keeps | with_reducible apply report_keeps | with_reducible apply audit_keeps | (with_reducible apply keeps_foldl <;> [skip; intro _ _ _]) | split | extract_lets | (apply keeps_eq; with_reducible assumption) | dsimp -zeta only | with_reducible apply keeps_mk)))

theorem promoteTaken_keeps {s0 : State} (s : State) (turn : Nat) (hk : Keeps s0 s) : Keeps s0 (promoteTaken s turn) := by
  unfold promoteTaken
  iterate 60 (try (any_goals (first | with_reducible assumption | with_reducible apply keeps_ite | with_reducible apply keeps_ite_snd | with_reducible apply promoteEntry_keeps | (with_reducible apply keeps_foldl <;> [skip; intro _ _ _]) | split | extract_lets | (apply keeps_eq; with_reducible assumption) | dsimp -zeta only | with_reducible apply keeps_mk)))

theorem eraseFormer_keeps {s0 : State} (s : State) (n : Nat) (hk : Keeps s0 s) : Keeps s0 (eraseFormer s n) := by
  unfold eraseFormer
  iterate 60 (try (any_goals (first | with_reducible assumption | with_reducible apply keeps_ite | with_reducible apply keeps_ite_snd | with_reducible apply poolRetry_keeps | (with_reducible apply keeps_foldl <;> [skip; intro _ _ _]) | split | extract_lets | (apply keeps_eq; with_reducible assumption) | dsimp -zeta only | with_reducible apply keeps_mk)))

theorem zeroizeKeys_keeps {s0 : State} (s : State) (hk : Keeps s0 s) : Keeps s0 (zeroizeKeys s) := by
  unfold zeroizeKeys
  iterate 60 (try (any_goals (first | with_reducible assumption | with_reducible apply keeps_ite | with_reducible apply keeps_ite_snd | (with_reducible apply keeps_foldl <;> [skip; intro _ _ _]) | split | extract_lets | (apply keeps_eq; with_reducible assumption) | dsimp -zeta only | with_reducible apply keeps_mk)))

theorem execKsErase_keeps (p : Fin 256) (v : Word) (s : State) : Goes s (execKsErase p v s) :=
  ⟨_, rfl, ksEraseWrite_keeps _ _ _ (Keeps.refl s)⟩

theorem execStagedEntryErase_keeps (slot : Fin 262144) (s : State) : Goes s (execStagedEntryErase slot s) :=
  ⟨_, rfl, eraseFormer_keeps _ _ (Keeps.refl s)⟩

/-! ### Guard -/

theorem takeSession_keeps {s0 : State} (s : State) (kc : Keycut) (n : Nat) (hk : Keeps s0 s) : Keeps s0 (takeSession s kc n).2 := by
  unfold takeSession
  iterate 60 (try (any_goals (first | with_reducible assumption | with_reducible apply keeps_ite | with_reducible apply keeps_ite_snd | (with_reducible apply keeps_foldl <;> [skip; intro _ _ _]) | split | extract_lets | (apply keeps_eq; with_reducible assumption) | dsimp -zeta only | with_reducible apply keeps_mk)))

theorem putCounter_keeps {s0 : State} (s : State) (c : Counter) (hk : Keeps s0 s) : Keeps s0 (putCounter s c) := by
  unfold putCounter
  iterate 60 (try (any_goals (first | with_reducible assumption | with_reducible apply keeps_ite | with_reducible apply keeps_ite_snd | (with_reducible apply keeps_foldl <;> [skip; intro _ _ _]) | split | extract_lets | (apply keeps_eq; with_reducible assumption) | dsimp -zeta only | with_reducible apply keeps_mk)))

theorem takeAttempt_keeps {s0 : State} (s : State) (kc : Keycut) (p : Nat) (tag : Word) (hk : Keeps s0 s) : Keeps s0 (takeAttempt s kc p tag).2 := by
  unfold takeAttempt
  iterate 60 (try (any_goals (first | with_reducible assumption | with_reducible apply keeps_ite | with_reducible apply keeps_ite_snd | with_reducible apply putCounter_keeps | with_reducible apply bump_keeps | (with_reducible apply keeps_foldl <;> [skip; intro _ _ _]) | dsimp only | split | (apply keeps_eq; with_reducible assumption) | dsimp -zeta only | with_reducible apply keeps_mk)))

theorem endAttempt_keeps {s0 : State} (s : State) (kc : Keycut) (p : Nat) (tag : Word) (ok : Bool) (hk : Keeps s0 s) : Keeps s0 (endAttempt s kc p tag ok) := by
  unfold endAttempt
  iterate 60 (try (any_goals (first | with_reducible assumption | with_reducible apply keeps_ite | with_reducible apply keeps_ite_snd | with_reducible apply putCounter_keeps | with_reducible apply audit_keeps | with_reducible apply bump_keeps | (with_reducible apply keeps_foldl <;> [skip; intro _ _ _]) | split | extract_lets | (apply keeps_eq; with_reducible assumption) | dsimp -zeta only | with_reducible apply keeps_mk)))

theorem countGuard_keeps {s0 : State} (s : State) (p : Nat) (hk : Keeps s0 s) : Keeps s0 (countGuard s p) :=
  bump_keeps _ _ _ _ _ _ hk

/-! ### Issue -/

theorem raiseSync_keeps {s0 : State} (s : State) (t : Nat) (k : SyncKnock) (hk : Keeps s0 s) : Keeps s0 (raiseSync s t k) :=
  modThr_keeps _ _ _ hk

theorem wordFault_keeps {s0 : State} (s : State) (t cause : Nat) (hk : Keeps s0 s) : Keeps s0 (wordFault s t cause) :=
  raiseSync_keeps _ _ _ hk

theorem xlFault_keeps {s0 : State} (s : State) (t va detail level acc : Nat) (hk : Keeps s0 s) : Keeps s0 (xlFault s t va detail level acc) :=
  raiseSync_keeps _ _ _ hk

theorem modArch_keeps {s0 : State} (s : State) (t : Nat) (f : Arch → Arch) (hk : Keeps s0 s) : Keeps s0 (modArch s t f) :=
  modThr_keeps _ _ _ hk

theorem startUnit_keeps {s0 : State} (s : State) (t : Nat) (u : DUnit) (r : UnitRes) (bit : Option (Nat × Bool)) (hk : Keeps s0 s) : Keeps s0 (startUnit s t u r bit) :=
  modThr_keeps _ _ _ hk

theorem startMul_keeps {s0 : State} (s : State) (t n : Nat) (p : Word × Word) (hk : Keeps s0 s) : Keeps s0 (startMul s t n p) :=
  modThr_keeps _ _ _ hk

theorem startDiv_keeps {s0 : State} (s : State) (t : Nat) (signed : Bool) (n : Nat) (pre : Arch) (v : Word) (hk : Keeps s0 s) : Keeps s0 (startDiv s t signed n pre v) := by
  unfold startDiv
  iterate 60 (try (any_goals (first | with_reducible assumption | with_reducible apply keeps_ite | with_reducible apply keeps_ite_snd | with_reducible apply modCyl_keeps | with_reducible apply modThr_keeps | (with_reducible apply keeps_foldl <;> [skip; intro _ _ _]) | split | extract_lets | (apply keeps_eq; with_reducible assumption) | dsimp -zeta only | with_reducible apply keeps_mk)))

theorem startCmp_keeps {s0 : State} (s : State) (t p n : Nat) (pre : Arch) (v : Word) (hk : Keeps s0 s) : Keeps s0 (startCmp s t p n pre v) := by
  unfold startCmp
  iterate 60 (try (any_goals (first | with_reducible assumption | with_reducible apply keeps_ite | with_reducible apply keeps_ite_snd | with_reducible apply startUnit_keeps | (with_reducible apply keeps_foldl <;> [skip; intro _ _ _]) | split | extract_lets | (apply keeps_eq; with_reducible assumption) | dsimp -zeta only | with_reducible apply keeps_mk)))

theorem unitTrigger_keeps {s0 : State} (s : State) (t p n : Nat) (pre : Arch) (v : Word) (hk : Keeps s0 s) : Keeps s0 (unitTrigger s t p n pre v) := by
  unfold unitTrigger
  iterate 60 (try (any_goals (first | with_reducible assumption | with_reducible apply keeps_ite | with_reducible apply keeps_ite_snd | with_reducible apply startCmp_keeps | with_reducible apply startDiv_keeps | with_reducible apply startMul_keeps | with_reducible apply startUnit_keeps | (with_reducible apply keeps_foldl <;> [skip; intro _ _ _]) | split | extract_lets | (apply keeps_eq; with_reducible assumption) | dsimp -zeta only | with_reducible apply keeps_mk)))

theorem touch_keeps {s0 : State} (s : State) (t va n acc : Nat) (hk : Keeps s0 s) : Keeps s0 (touch s t va n acc) := by
  unfold touch
  iterate 60 (try (any_goals (first | with_reducible assumption | with_reducible apply keeps_ite | with_reducible apply keeps_ite_snd | with_reducible apply tlbUse_keeps | (with_reducible apply keeps_foldl <;> [skip; intro _ _ _]) | split | extract_lets | (apply keeps_eq; with_reducible assumption) | dsimp -zeta only | with_reducible apply keeps_mk)))

theorem oneStore_keeps {s0 : State} (s : State) (t va w : Nat) (data : Word) (bad : Bool) (hk : Keeps s0 s) : Keeps s0 (oneStore s t va w data bad) := by
  unfold oneStore
  iterate 60 (try (any_goals (first | with_reducible assumption | with_reducible apply keeps_ite | with_reducible apply keeps_ite_snd | with_reducible apply touch_keeps | with_reducible apply modThr_keeps | (with_reducible apply keeps_foldl <;> [skip; intro _ _ _]) | split | extract_lets | (apply keeps_eq; with_reducible assumption) | dsimp -zeta only | with_reducible apply keeps_mk)))

theorem frameStores_keeps {s0 : State} (s : State) (t va : Nat) (items : List (Word × Bool)) (hk : Keeps s0 s) : Keeps s0 (frameStores s t va items) := by
  unfold frameStores
  iterate 60 (try (any_goals (first | with_reducible assumption | with_reducible apply keeps_ite | with_reducible apply keeps_ite_snd | with_reducible apply touch_keeps | with_reducible apply modThr_keeps | (with_reducible apply keeps_foldl <;> [skip; intro _ _ _]) | split | extract_lets | (apply keeps_eq; with_reducible assumption) | dsimp -zeta only | with_reducible apply keeps_mk)))

theorem doCall_keeps {s0 : State} (s : State) (t : Nat) (pre : Arch) (v : Word) (hk : Keeps s0 s) : Keeps s0 (doCall s t pre v) := by
  unfold doCall
  iterate 60 (try (any_goals (first | with_reducible assumption | with_reducible apply keeps_ite | with_reducible apply keeps_ite_snd | with_reducible apply frameStores_keeps | with_reducible apply modArch_keeps | (with_reducible apply keeps_foldl <;> [skip; intro _ _ _]) | split | extract_lets | (apply keeps_eq; with_reducible assumption) | dsimp -zeta only | with_reducible apply keeps_mk)))

theorem doRet_keeps {s0 : State} (s : State) (t : Nat) (pre : Arch) (hk : Keeps s0 s) : Keeps s0 (doRet s t pre) := by
  unfold doRet
  iterate 60 (try (any_goals (first | with_reducible assumption | with_reducible apply keeps_ite | with_reducible apply keeps_ite_snd | with_reducible apply touch_keeps | with_reducible apply modThr_keeps | (with_reducible apply keeps_foldl <;> [skip; intro _ _ _]) | split | extract_lets | (apply keeps_eq; with_reducible assumption) | dsimp -zeta only | with_reducible apply keeps_mk)))

theorem doBranch_keeps {s0 : State} (s : State) (t : Nat) (pre : Arch) (cond : BranchCond) (hk : Keeps s0 s) : Keeps s0 (doBranch s t pre cond) := by
  unfold doBranch
  iterate 60 (try (any_goals (first | with_reducible assumption | with_reducible apply keeps_ite | with_reducible apply keeps_ite_snd | with_reducible apply modThr_keeps | (with_reducible apply keeps_foldl <;> [skip; intro _ _ _]) | split | extract_lets | (apply keeps_eq; with_reducible assumption) | dsimp -zeta only | with_reducible apply keeps_mk)))

theorem bitBranch_keeps {s0 : State} (s : State) (t : Nat) (pre : Arch) (i : Nat) (sense : Bool) (hk : Keeps s0 s) : Keeps s0 (bitBranch s t pre i sense) :=
  doBranch_keeps _ _ _ _ hk

theorem doRepeat_keeps {s0 : State} (s : State) (t : Nat) (pre : Arch) (v : Word) (hk : Keeps s0 s) : Keeps s0 (doRepeat s t pre v) := by
  unfold doRepeat
  iterate 60 (try (any_goals (first | with_reducible assumption | with_reducible apply keeps_ite | with_reducible apply keeps_ite_snd | with_reducible apply modArch_keeps | (with_reducible apply keeps_foldl <;> [skip; intro _ _ _]) | split | extract_lets | (apply keeps_eq; with_reducible assumption) | dsimp -zeta only | with_reducible apply keeps_mk)))

theorem dropActive_keeps {s0 : State} (s : State) (t : Nat) (hk : Keeps s0 s) : Keeps s0 (dropActive s t) := by
  unfold dropActive
  iterate 60 (try (any_goals (first | with_reducible assumption | with_reducible apply keeps_ite | with_reducible apply keeps_ite_snd | with_reducible apply modSrc_keeps | (with_reducible apply keeps_foldl <;> [skip; intro _ _ _]) | split | extract_lets | (apply keeps_eq; with_reducible assumption) | dsimp -zeta only | with_reducible apply keeps_mk)))

theorem doStart_keeps {s0 : State} (s : State) (t : Nat) (pre : Arch) (v : Word) (hk : Keeps s0 s) : Keeps s0 (doStart s t pre v) := by
  unfold doStart
  iterate 60 (try (any_goals (first | with_reducible assumption | with_reducible apply keeps_ite | with_reducible apply keeps_ite_snd | with_reducible apply dropActive_keeps | with_reducible apply putThr_keeps | (with_reducible apply keeps_foldl <;> [skip; intro _ _ _]) | split | extract_lets | (apply keeps_eq; with_reducible assumption) | dsimp -zeta only | with_reducible apply keeps_mk)))

theorem haltThr_keeps {s0 : State} (s : State) (t : Nat) (hk : Keeps s0 s) : Keeps s0 (haltThr s t) := by
  unfold haltThr
  iterate 60 (try (any_goals (first | with_reducible assumption | with_reducible apply keeps_ite | with_reducible apply keeps_ite_snd | with_reducible apply rewindItems_keeps | with_reducible apply endSeats_keeps | with_reducible apply modThr_keeps | (with_reducible apply keeps_foldl <;> [skip; intro _ _ _]) | split | extract_lets | (apply keeps_eq; with_reducible assumption) | dsimp -zeta only | with_reducible apply keeps_mk)))

theorem doWait_keeps {s0 : State} (s : State) (t : Nat) (hk : Keeps s0 s) : Keeps s0 (doWait s t) := by
  unfold doWait
  iterate 60 (try (any_goals (first | with_reducible assumption | with_reducible apply keeps_ite | with_reducible apply keeps_ite_snd | with_reducible apply putThr_keeps | (with_reducible apply keeps_foldl <;> [skip; intro _ _ _]) | split | extract_lets | (apply keeps_eq; with_reducible assumption) | dsimp -zeta only | with_reducible apply keeps_mk)))

theorem doYield_keeps {s0 : State} (s : State) (t : Nat) (hk : Keeps s0 s) : Keeps s0 (doYield s t) :=
  modThr_keeps _ _ _ hk

theorem writeKbit_keeps {s0 : State} (s : State) (t i : Nat) (b : Bool) (hk : Keeps s0 s) : Keeps s0 (writeKbit s t i b) :=
  modKr_keeps _ _ _ hk

theorem blankWrite_keeps {s0 : State} (s : State) (t p : Nat) (v : Word) (hk : Keeps s0 s) : Keeps s0 (blankWrite s t p v) := by
  unfold blankWrite
  iterate 60 (try (any_goals (first | with_reducible assumption | with_reducible apply keeps_ite | with_reducible apply keeps_ite_snd | with_reducible apply modArch_keeps | with_reducible apply modThr_keeps | (with_reducible apply keeps_foldl <;> [skip; intro _ _ _]) | split | extract_lets | (apply keeps_eq; with_reducible assumption) | dsimp -zeta only | with_reducible apply keeps_mk)))

theorem commitMove_keeps {s0 : State} (pre : Arch) (t : Nat) (s : State) (m : Mv) (hk : Keeps s0 s) : Keeps s0 (commitMove pre t s m) := by
  unfold commitMove
  iterate 60 (try (any_goals (first | with_reducible assumption | with_reducible apply keeps_ite | with_reducible apply keeps_ite_snd | with_reducible apply blankWrite_keeps | with_reducible apply writeKbit_keeps | with_reducible apply doYield_keeps | with_reducible apply doStart_keeps | with_reducible apply oneStore_keeps | with_reducible apply touch_keeps | with_reducible apply unitTrigger_keeps | with_reducible apply modArch_keeps | with_reducible apply submitJob_keeps | with_reducible apply endSeat_keeps | with_reducible apply reserveSeat_keeps | with_reducible apply modThr_keeps | (with_reducible apply keeps_foldl <;> [skip; intro _ _ _]) | split | extract_lets | (apply keeps_eq; with_reducible assumption) | dsimp -zeta only | with_reducible apply keeps_mk)))

theorem flow_keeps {s0 : State} (pre : Arch) (t : Nat) (s : State) (ms : List Mv) (hk : Keeps s0 s) : Keeps s0 (flow pre t s ms) := by
  unfold flow
  iterate 60 (try (any_goals (first | with_reducible assumption | with_reducible apply keeps_ite | with_reducible apply keeps_ite_snd | with_reducible apply doWait_keeps | with_reducible apply haltThr_keeps | with_reducible apply doRepeat_keeps | with_reducible apply bitBranch_keeps | with_reducible apply doBranch_keeps | with_reducible apply doRet_keeps | with_reducible apply doCall_keeps | with_reducible apply modArch_keeps | (with_reducible apply keeps_foldl <;> [skip; intro _ _ _]) | split | extract_lets | (apply keeps_eq; with_reducible assumption) | dsimp -zeta only | with_reducible apply keeps_mk)))

theorem arithFault_keeps {s0 : State} (s : State) (t : Nat) (b : Option Nat) (afe : Bool) (hk : Keeps s0 s) : Keeps s0 (arithFault s t b afe) := by
  unfold arithFault
  iterate 60 (try (any_goals (first | with_reducible assumption | with_reducible apply keeps_ite | with_reducible apply keeps_ite_snd | with_reducible apply raiseSync_keeps | (with_reducible apply keeps_foldl <;> [skip; intro _ _ _]) | split | extract_lets | (apply keeps_eq; with_reducible assumption) | dsimp -zeta only | with_reducible apply keeps_mk)))

theorem applySticky_keeps {s0 : State} (s : State) (t : Nat) (b : Option Nat) (hk : Keeps s0 s) : Keeps s0 (applySticky s t b) := by
  unfold applySticky
  iterate 60 (try (any_goals (first | with_reducible assumption | with_reducible apply keeps_ite | with_reducible apply keeps_ite_snd | with_reducible apply modArch_keeps | (with_reducible apply keeps_foldl <;> [skip; intro _ _ _]) | split | extract_lets | (apply keeps_eq; with_reducible assumption) | dsimp -zeta only | with_reducible apply keeps_mk)))

theorem countSlot_keeps {s0 : State} (s : State) (t : Nat) (appends : Bool) (hk : Keeps s0 s) : Keeps s0 (countSlot s t appends) := by
  unfold countSlot
  iterate 60 (try (any_goals (first | with_reducible assumption | with_reducible apply keeps_ite | with_reducible apply keeps_ite_snd | with_reducible apply modCyl_keeps | with_reducible apply modThr_keeps | with_reducible apply dropYield_keeps | (with_reducible apply keeps_foldl <;> [skip; intro _ _ _]) | split | extract_lets | (apply keeps_eq; with_reducible assumption) | dsimp -zeta only | with_reducible apply keeps_mk)))

theorem useStr_keeps {s0 : State} (s : State) (t : Nat) (ms : List Mv) (hk : Keeps s0 s) : Keeps s0 (useStr s t ms) := by
  unfold useStr
  iterate 60 (try (any_goals (first | with_reducible assumption | with_reducible apply keeps_ite | with_reducible apply keeps_ite_snd | with_reducible apply modThr_keeps | (with_reducible apply keeps_foldl <;> [skip; intro _ _ _]) | split | extract_lets | (apply keeps_eq; with_reducible assumption) | dsimp -zeta only | with_reducible apply keeps_mk)))

theorem commitWord_keeps {s0 : State} (s : State) (t : Nat) (ms : List Mv) (hk : Keeps s0 s) : Keeps s0 (commitWord s t ms) := by
  unfold commitWord
  iterate 60 (try (any_goals (first | with_reducible assumption | with_reducible apply keeps_ite | with_reducible apply keeps_ite_snd | with_reducible apply useStr_keeps | with_reducible apply countSlot_keeps | with_reducible apply applySticky_keeps | with_reducible apply arithFault_keeps | with_reducible apply flow_keeps | with_reducible apply commitMove_keeps | (with_reducible apply keeps_foldl <;> [skip; intro _ _ _]) | split | extract_lets | (apply keeps_eq; with_reducible assumption) | dsimp -zeta only | with_reducible apply keeps_mk)))

theorem executeWord_keeps {s0 : State} (s : State) (t : Nat) (ms : List Mv) (hk : Keeps s0 s) : Keeps s0 (executeWord s t ms) := by
  unfold executeWord
  iterate 60 (try (any_goals (first | with_reducible assumption | with_reducible apply keeps_ite | with_reducible apply keeps_ite_snd | with_reducible apply commitWord_keeps | with_reducible apply touch_keeps | with_reducible apply xlFault_keeps | with_reducible apply wordFault_keeps | with_reducible apply modThr_keeps | (with_reducible apply keeps_foldl <;> [skip; intro _ _ _]) | split | extract_lets | (apply keeps_eq; with_reducible assumption) | dsimp -zeta only | with_reducible apply keeps_mk)))

theorem issueRaw_keeps {s0 : State} (s : State) (t : Nat) (r : Row) (hk : Keeps s0 s) : Keeps s0 (issueRaw s t r) := by
  unfold issueRaw
  iterate 60 (try (any_goals (first | with_reducible assumption | with_reducible apply keeps_ite | with_reducible apply keeps_ite_snd | with_reducible apply executeWord_keeps | with_reducible apply countSlot_keeps | with_reducible apply modArch_keeps | with_reducible apply wordFault_keeps | with_reducible apply putThr_keeps | (with_reducible apply keeps_foldl <;> [skip; intro _ _ _]) | split | extract_lets | (apply keeps_eq; with_reducible assumption) | dsimp -zeta only | with_reducible apply keeps_mk)))

theorem settleThr_keeps {s0 : State} (s : State) (t : Nat) (hk : Keeps s0 s) : Keeps s0 (settleThr s t) := by
  unfold settleThr
  iterate 60 (try (any_goals (first | with_reducible assumption | with_reducible apply keeps_ite | with_reducible apply keeps_ite_snd | with_reducible apply putThr_keeps | with_reducible apply rawThr_keeps | (with_reducible apply keeps_foldl <;> [skip; intro _ _ _]) | split | extract_lets | (apply keeps_eq; with_reducible assumption) | dsimp -zeta only | with_reducible apply keeps_mk)))

theorem settle_keeps {s0 : State} (s : State) (hk : Keeps s0 s) : Keeps s0 (settle s) := by
  unfold settle
  iterate 60 (try (any_goals (first | with_reducible assumption | with_reducible apply keeps_ite | with_reducible apply keeps_ite_snd | with_reducible apply settleThr_keeps | (with_reducible apply keeps_foldl <;> [skip; intro _ _ _]) | split | extract_lets | (apply keeps_eq; with_reducible assumption) | dsimp -zeta only | with_reducible apply keeps_mk)))

theorem issue_keeps {s0 : State} (s : State) (t : Nat) (r : Row) (hk : Keeps s0 s) : Keeps s0 (issue s t r) :=
  settle_keeps _ (issueRaw_keeps _ _ _ hk)

/-! ### Jobs -/

theorem seatJobDone_keeps {s0 : State} (s : State) (e t : Nat) (hk : Keeps s0 s) : Keeps s0 (seatJobDone s e t) := by
  unfold seatJobDone
  iterate 60 (try (any_goals (first | with_reducible assumption | with_reducible apply keeps_ite | with_reducible apply keeps_ite_snd | with_reducible apply grantSeats_keeps | with_reducible apply modEng_keeps | (with_reducible apply keeps_foldl <;> [skip; intro _ _ _]) | split | extract_lets | (apply keeps_eq; with_reducible assumption) | dsimp -zeta only | with_reducible apply keeps_mk)))

theorem finishJob_keeps {s0 : State} (s : State) (e : Nat) (j : Job) (r : JobResult) (hk : Keeps s0 s) : Keeps s0 (finishJob s e j r) := by
  unfold finishJob
  iterate 60 (try (any_goals (first | with_reducible assumption | with_reducible apply keeps_ite | with_reducible apply keeps_ite_snd | with_reducible apply seatJobDone_keeps | with_reducible apply endAttempt_keeps | with_reducible apply stageEntry_keeps | with_reducible apply jobReport_keeps | with_reducible apply storeBytes_keeps | with_reducible apply storePieces_keeps | with_reducible apply raise_keeps | (with_reducible apply keeps_foldl <;> [skip; intro _ _ _]) | split | extract_lets | (apply keeps_eq; with_reducible assumption) | dsimp -zeta only | with_reducible apply keeps_mk)))

theorem endJob_keeps {s0 : State} (s : State) (e : Nat) (j : Job) (st : Nat) (hk : Keeps s0 s) : Keeps s0 (endJob s e j st) := by
  unfold endJob
  iterate 60 (try (any_goals (first | with_reducible assumption | with_reducible apply keeps_ite | with_reducible apply keeps_ite_snd | with_reducible apply finishJob_keeps | with_reducible apply modEng_keeps | (with_reducible apply keeps_foldl <;> [skip; intro _ _ _]) | split | extract_lets | (apply keeps_eq; with_reducible assumption) | dsimp -zeta only | with_reducible apply keeps_mk)))

theorem endJobs_keeps {s0 : State} (s : State) (f : Job → Bool) (st : Nat) (hk : Keeps s0 s) : Keeps s0 (endJobs s f st) := by
  unfold endJobs
  iterate 60 (try (any_goals (first | with_reducible assumption | with_reducible apply keeps_ite | with_reducible apply keeps_ite_snd | with_reducible apply endJob_keeps | (with_reducible apply keeps_foldl <;> [skip; intro _ _ _]) | split | extract_lets | (apply keeps_eq; with_reducible assumption) | dsimp -zeta only | with_reducible apply keeps_mk)))

theorem staleThread_keeps {s0 : State} (s : State) (t : Nat) (hk : Keeps s0 s) : Keeps s0 (staleThread s t) :=
  endJobs_keeps _ _ _ hk

theorem redecide_keeps {s0 : State} (s : State) (e : Nat) (hk : Keeps s0 s) : Keeps s0 (redecide s e) := by
  unfold redecide
  iterate 60 (try (any_goals (first | with_reducible assumption | with_reducible apply keeps_ite | with_reducible apply keeps_ite_snd | with_reducible apply grantSeats_keeps | with_reducible apply decideSeat_keeps | with_reducible apply modEng_keeps | (with_reducible apply keeps_foldl <;> [skip; intro _ _ _]) | split | extract_lets | (apply keeps_eq; with_reducible assumption) | dsimp -zeta only | with_reducible apply keeps_mk)))

theorem retireEngine_keeps {s0 : State} (s : State) (e : Nat) (hk : Keeps s0 s) : Keeps s0 (retireEngine s e) := by
  unfold retireEngine
  iterate 60 (try (any_goals (first | with_reducible assumption | with_reducible apply keeps_ite | with_reducible apply keeps_ite_snd | with_reducible apply redecide_keeps | with_reducible apply endJob_keeps | with_reducible apply modEng_keeps | (with_reducible apply keeps_foldl <;> [skip; intro _ _ _]) | split | extract_lets | (apply keeps_eq; with_reducible assumption) | dsimp -zeta only | with_reducible apply keeps_mk)))

/-! ### Moves -/

theorem execMoveIssue_keeps (t : Fin 2048) (s : State) : Goes s (execMoveIssue t s) :=
  ⟨_, rfl, issue_keeps _ _ _ (Keeps.refl s)⟩

theorem execImmHiAppend_keeps (t : Fin 2048) (s : State) : Goes s (execImmHiAppend t s) :=
  ⟨_, rfl, issue_keeps _ _ _ (Keeps.refl s)⟩

theorem execAddT_keeps (t : Fin 2048) (s : State) : Goes s (execAddT t s) :=
  ⟨_, rfl, issue_keeps _ _ _ (Keeps.refl s)⟩

theorem execSubT_keeps (t : Fin 2048) (s : State) : Goes s (execSubT t s) :=
  ⟨_, rfl, issue_keeps _ _ _ (Keeps.refl s)⟩

theorem execAdcT_keeps (t : Fin 2048) (s : State) : Goes s (execAdcT t s) :=
  ⟨_, rfl, issue_keeps _ _ _ (Keeps.refl s)⟩

theorem execSbbT_keeps (t : Fin 2048) (s : State) : Goes s (execSbbT t s) :=
  ⟨_, rfl, issue_keeps _ _ _ (Keeps.refl s)⟩

theorem execNegT_keeps (t : Fin 2048) (s : State) : Goes s (execNegT t s) :=
  ⟨_, rfl, issue_keeps _ _ _ (Keeps.refl s)⟩

theorem execAndT_keeps (t : Fin 2048) (s : State) : Goes s (execAndT t s) :=
  ⟨_, rfl, issue_keeps _ _ _ (Keeps.refl s)⟩

theorem execOrT_keeps (t : Fin 2048) (s : State) : Goes s (execOrT t s) :=
  ⟨_, rfl, issue_keeps _ _ _ (Keeps.refl s)⟩

theorem execXorT_keeps (t : Fin 2048) (s : State) : Goes s (execXorT t s) :=
  ⟨_, rfl, issue_keeps _ _ _ (Keeps.refl s)⟩

theorem execAndnT_keeps (t : Fin 2048) (s : State) : Goes s (execAndnT t s) :=
  ⟨_, rfl, issue_keeps _ _ _ (Keeps.refl s)⟩

theorem execNotT_keeps (t : Fin 2048) (s : State) : Goes s (execNotT t s) :=
  ⟨_, rfl, issue_keeps _ _ _ (Keeps.refl s)⟩

theorem execShlT_keeps (t : Fin 2048) (s : State) : Goes s (execShlT t s) :=
  ⟨_, rfl, issue_keeps _ _ _ (Keeps.refl s)⟩

theorem execShrT_keeps (t : Fin 2048) (s : State) : Goes s (execShrT t s) :=
  ⟨_, rfl, issue_keeps _ _ _ (Keeps.refl s)⟩

theorem execSarT_keeps (t : Fin 2048) (s : State) : Goes s (execSarT t s) :=
  ⟨_, rfl, issue_keeps _ _ _ (Keeps.refl s)⟩

theorem execRolT_keeps (t : Fin 2048) (s : State) : Goes s (execRolT t s) :=
  ⟨_, rfl, issue_keeps _ _ _ (Keeps.refl s)⟩

theorem execRorT_keeps (t : Fin 2048) (s : State) : Goes s (execRorT t s) :=
  ⟨_, rfl, issue_keeps _ _ _ (Keeps.refl s)⟩

theorem execCmpEqT_keeps (t : Fin 2048) (s : State) : Goes s (execCmpEqT t s) :=
  ⟨_, rfl, issue_keeps _ _ _ (Keeps.refl s)⟩

theorem execCmpLtT_keeps (t : Fin 2048) (s : State) : Goes s (execCmpLtT t s) :=
  ⟨_, rfl, issue_keeps _ _ _ (Keeps.refl s)⟩

theorem execCmpLtuT_keeps (t : Fin 2048) (s : State) : Goes s (execCmpLtuT t s) :=
  ⟨_, rfl, issue_keeps _ _ _ (Keeps.refl s)⟩

theorem execCmpLeT_keeps (t : Fin 2048) (s : State) : Goes s (execCmpLeT t s) :=
  ⟨_, rfl, issue_keeps _ _ _ (Keeps.refl s)⟩

theorem execCmpLeuT_keeps (t : Fin 2048) (s : State) : Goes s (execCmpLeuT t s) :=
  ⟨_, rfl, issue_keeps _ _ _ (Keeps.refl s)⟩

theorem execDaddT_keeps (t : Fin 2048) (s : State) : Goes s (execDaddT t s) :=
  ⟨_, rfl, issue_keeps _ _ _ (Keeps.refl s)⟩

theorem execDsubT_keeps (t : Fin 2048) (s : State) : Goes s (execDsubT t s) :=
  ⟨_, rfl, issue_keeps _ _ _ (Keeps.refl s)⟩

theorem execDchkT_keeps (t : Fin 2048) (s : State) : Goes s (execDchkT t s) :=
  ⟨_, rfl, issue_keeps _ _ _ (Keeps.refl s)⟩

theorem execDcvtT_keeps (t : Fin 2048) (s : State) : Goes s (execDcvtT t s) :=
  ⟨_, rfl, issue_keeps _ _ _ (Keeps.refl s)⟩

theorem execBcvtT_keeps (t : Fin 2048) (s : State) : Goes s (execBcvtT t s) :=
  ⟨_, rfl, issue_keeps _ _ _ (Keeps.refl s)⟩

theorem execMulT_keeps (t : Fin 2048) (s : State) : Goes s (execMulT t s) :=
  ⟨_, rfl, issue_keeps _ _ _ (Keeps.refl s)⟩

theorem execMulsT_keeps (t : Fin 2048) (s : State) : Goes s (execMulsT t s) :=
  ⟨_, rfl, issue_keeps _ _ _ (Keeps.refl s)⟩

theorem execDivT_keeps (t : Fin 2048) (s : State) : Goes s (execDivT t s) :=
  ⟨_, rfl, issue_keeps _ _ _ (Keeps.refl s)⟩

theorem execDivsT_keeps (t : Fin 2048) (s : State) : Goes s (execDivsT t s) :=
  ⟨_, rfl, issue_keeps _ _ _ (Keeps.refl s)⟩

/-! ### FlowIssue -/

theorem execCbEqT_keeps (t : Fin 2048) (s : State) : Goes s (execCbEqT t s) :=
  ⟨_, rfl, issue_keeps _ _ _ (Keeps.refl s)⟩

theorem execCbNeT_keeps (t : Fin 2048) (s : State) : Goes s (execCbNeT t s) :=
  ⟨_, rfl, issue_keeps _ _ _ (Keeps.refl s)⟩

theorem execCbLtT_keeps (t : Fin 2048) (s : State) : Goes s (execCbLtT t s) :=
  ⟨_, rfl, issue_keeps _ _ _ (Keeps.refl s)⟩

theorem execCbGeT_keeps (t : Fin 2048) (s : State) : Goes s (execCbGeT t s) :=
  ⟨_, rfl, issue_keeps _ _ _ (Keeps.refl s)⟩

theorem execCbLtuT_keeps (t : Fin 2048) (s : State) : Goes s (execCbLtuT t s) :=
  ⟨_, rfl, issue_keeps _ _ _ (Keeps.refl s)⟩

theorem execCbGeuT_keeps (t : Fin 2048) (s : State) : Goes s (execCbGeuT t s) :=
  ⟨_, rfl, issue_keeps _ _ _ (Keeps.refl s)⟩

theorem execCbBsT_keeps (t : Fin 2048) (s : State) : Goes s (execCbBsT t s) :=
  ⟨_, rfl, issue_keeps _ _ _ (Keeps.refl s)⟩

theorem execCbBcT_keeps (t : Fin 2048) (s : State) : Goes s (execCbBcT t s) :=
  ⟨_, rfl, issue_keeps _ _ _ (Keeps.refl s)⟩

theorem execJmpT_keeps (t : Fin 2048) (s : State) : Goes s (execJmpT t s) :=
  ⟨_, rfl, issue_keeps _ _ _ (Keeps.refl s)⟩

theorem execJmpRelT_keeps (t : Fin 2048) (s : State) : Goes s (execJmpRelT t s) :=
  ⟨_, rfl, issue_keeps _ _ _ (Keeps.refl s)⟩

theorem execCallT_keeps (t : Fin 2048) (s : State) : Goes s (execCallT t s) :=
  ⟨_, rfl, issue_keeps _ _ _ (Keeps.refl s)⟩

theorem execRetT_keeps (t : Fin 2048) (s : State) : Goes s (execRetT t s) :=
  ⟨_, rfl, issue_keeps _ _ _ (Keeps.refl s)⟩

theorem execRepT_keeps (t : Fin 2048) (s : State) : Goes s (execRepT t s) :=
  ⟨_, rfl, issue_keeps _ _ _ (Keeps.refl s)⟩

theorem execThrWaitT_keeps (t : Fin 2048) (s : State) : Goes s (execThrWaitT t s) :=
  ⟨_, rfl, issue_keeps _ _ _ (Keeps.refl s)⟩

theorem execThrHaltT_keeps (t : Fin 2048) (s : State) : Goes s (execThrHaltT t s) :=
  ⟨_, rfl, issue_keeps _ _ _ (Keeps.refl s)⟩

theorem execThrYieldT_keeps (t : Fin 2048) (s : State) : Goes s (execThrYieldT t s) :=
  ⟨_, rfl, issue_keeps _ _ _ (Keeps.refl s)⟩

theorem execThrStartT_keeps (t : Fin 2048) (s : State) : Goes s (execThrStartT t s) :=
  ⟨_, rfl, issue_keeps _ _ _ (Keeps.refl s)⟩

theorem execCtlIfence_keeps (t : Fin 2048) (s : State) : Goes s (execCtlIfence t s) :=
  ⟨_, rfl, issue_keeps _ _ _ (Keeps.refl s)⟩

theorem execFenceSl_keeps (t : Fin 2048) (s : State) : Goes s (execFenceSl t s) :=
  ⟨_, rfl, issue_keeps _ _ _ (Keeps.refl s)⟩

theorem execFenceFull_keeps (t : Fin 2048) (s : State) : Goes s (execFenceFull t s) :=
  ⟨_, rfl, issue_keeps _ _ _ (Keeps.refl s)⟩

theorem execFenceDev_keeps (t : Fin 2048) (s : State) : Goes s (execFenceDev t s) :=
  ⟨_, rfl, issue_keeps _ _ _ (Keeps.refl s)⟩

theorem execFenceDrain_keeps (t : Fin 2048) (s : State) : Goes s (execFenceDrain t s) :=
  ⟨_, rfl, issue_keeps _ _ _ (Keeps.refl s)⟩

/-! ### MemIssue -/

theorem execLdT_keeps (t : Fin 2048) (s : State) : Goes s (execLdT t s) :=
  ⟨_, rfl, issue_keeps _ _ _ (Keeps.refl s)⟩

theorem execLdrT_keeps (t : Fin 2048) (s : State) : Goes s (execLdrT t s) :=
  ⟨_, rfl, issue_keeps _ _ _ (Keeps.refl s)⟩

theorem execStT_keeps (t : Fin 2048) (s : State) : Goes s (execStT t s) :=
  ⟨_, rfl, issue_keeps _ _ _ (Keeps.refl s)⟩

theorem execStcT_keeps (t : Fin 2048) (s : State) : Goes s (execStcT t s) :=
  ⟨_, rfl, issue_keeps _ _ _ (Keeps.refl s)⟩

theorem execAtAddT_keeps (t : Fin 2048) (s : State) : Goes s (execAtAddT t s) :=
  ⟨_, rfl, issue_keeps _ _ _ (Keeps.refl s)⟩

theorem execAtSwpT_keeps (t : Fin 2048) (s : State) : Goes s (execAtSwpT t s) :=
  ⟨_, rfl, issue_keeps _ _ _ (Keeps.refl s)⟩

theorem execAtCasT_keeps (t : Fin 2048) (s : State) : Goes s (execAtCasT t s) :=
  ⟨_, rfl, issue_keeps _ _ _ (Keeps.refl s)⟩

theorem execStrLd_keeps (t : Fin 2048) (s : State) : Goes s (execStrLd t s) :=
  ⟨_, rfl, issue_keeps _ _ _ (Keeps.refl s)⟩

theorem execStrSt_keeps (t : Fin 2048) (s : State) : Goes s (execStrSt t s) :=
  ⟨_, rfl, issue_keeps _ _ _ (Keeps.refl s)⟩

theorem execBsTasT_keeps (t : Fin 2048) (s : State) : Goes s (execBsTasT t s) :=
  ⟨_, rfl, issue_keeps _ _ _ (Keeps.refl s)⟩

theorem execBsKRead_keeps (t : Fin 2048) (s : State) : Goes s (execBsKRead t s) :=
  ⟨_, rfl, issue_keeps _ _ _ (Keeps.refl s)⟩

theorem execBsKWrite_keeps (t : Fin 2048) (s : State) : Goes s (execBsKWrite t s) :=
  ⟨_, rfl, issue_keeps _ _ _ (Keeps.refl s)⟩

theorem execEngRsvT_keeps (t : Fin 2048) (s : State) : Goes s (execEngRsvT t s) :=
  ⟨_, rfl, issue_keeps _ _ _ (Keeps.refl s)⟩

theorem execEngRelT_keeps (t : Fin 2048) (s : State) : Goes s (execEngRelT t s) :=
  ⟨_, rfl, issue_keeps _ _ _ (Keeps.refl s)⟩

theorem execEJobT_keeps (t : Fin 2048) (s : State) : Goes s (execEJobT t s) :=
  ⟨_, rfl, issue_keeps _ _ _ (Keeps.refl s)⟩

theorem execBlankMove_keeps (t : Fin 2048) (s : State) : Goes s (execBlankMove t s) :=
  ⟨_, rfl, issue_keeps _ _ _ (Keeps.refl s)⟩

/-! ### Landing -/

theorem countOutcome_keeps {s0 : State} (s : State) (t : Nat) (o : UnitOutcome) (hk : Keeps s0 s) : Keeps s0 (countOutcome s t o) := by
  unfold countOutcome
  iterate 60 (try (any_goals (first | with_reducible assumption | with_reducible apply keeps_ite | with_reducible apply keeps_ite_snd | with_reducible apply report_keeps | with_reducible apply bump_keeps | (with_reducible apply keeps_foldl <;> [skip; intro _ _ _]) | split | extract_lets | (apply keeps_eq; with_reducible assumption) | dsimp -zeta only | with_reducible apply keeps_mk)))

theorem unitEnds_keeps {s0 : State} (s : State) (t : Nat) (u : DUnit) (o : UnitOutcome) (hk : Keeps s0 s) : Keeps s0 (unitEnds s t u o) := by
  unfold unitEnds
  iterate 60 (try (any_goals (first | with_reducible assumption | with_reducible apply keeps_ite | with_reducible apply keeps_ite_snd | with_reducible apply countOutcome_keeps | with_reducible apply settle_keeps | with_reducible apply modCyl_keeps | with_reducible apply putThr_keeps | (with_reducible apply keeps_foldl <;> [skip; intro _ _ _]) | split | extract_lets | (apply keeps_eq; with_reducible assumption) | dsimp -zeta only | with_reducible apply keeps_mk)))

theorem resolveBranch_keeps {s0 : State} (s : State) (t : Nat) (hk : Keeps s0 s) : Keeps s0 (resolveBranch s t) := by
  unfold resolveBranch
  iterate 60 (try (any_goals (first | with_reducible assumption | with_reducible apply keeps_ite | with_reducible apply keeps_ite_snd | with_reducible apply settle_keeps | with_reducible apply putThr_keeps | (with_reducible apply keeps_foldl <;> [skip; intro _ _ _]) | split | extract_lets | (apply keeps_eq; with_reducible assumption) | dsimp -zeta only | with_reducible apply keeps_mk)))

theorem resolveReturn_keeps {s0 : State} (s : State) (t : Nat) (hk : Keeps s0 s) : Keeps s0 (resolveReturn s t) := by
  unfold resolveReturn
  iterate 60 (try (any_goals (first | with_reducible assumption | with_reducible apply keeps_ite | with_reducible apply keeps_ite_snd | with_reducible apply settle_keeps | with_reducible apply cacheLoad_keeps | with_reducible apply putThr_keeps | (with_reducible apply keeps_foldl <;> [skip; intro _ _ _]) | split | extract_lets | (apply keeps_eq; with_reducible assumption) | dsimp -zeta only | with_reducible apply keeps_mk)))

theorem fetchGroup_keeps {s0 : State} (s : State) (t : Nat) (parity : Bool) (hk : Keeps s0 s) : Keeps s0 (fetchGroup s t parity) := by
  unfold fetchGroup
  iterate 60 (try (any_goals (first | with_reducible assumption | with_reducible apply keeps_ite | with_reducible apply keeps_ite_snd | with_reducible apply settle_keeps | with_reducible apply xlFault_keeps | with_reducible apply cacheFetch_keeps | with_reducible apply tlbUse_keeps | with_reducible apply report_keeps | with_reducible apply putThr_keeps | (with_reducible apply keeps_foldl <;> [skip; intro _ _ _]) | split | extract_lets | (apply keeps_eq; with_reducible assumption) | dsimp -zeta only | with_reducible apply keeps_mk)))

theorem walkEnds_keeps {s0 : State} (s : State) (t : Nat) (hk : Keeps s0 s) : Keeps s0 (walkEnds s t) := by
  unfold walkEnds
  iterate 60 (try (any_goals (first | with_reducible assumption | with_reducible apply keeps_ite | with_reducible apply keeps_ite_snd | with_reducible apply settle_keeps | with_reducible apply xlFault_keeps | with_reducible apply tlbInstall_keeps | with_reducible apply modThr_keeps | (with_reducible apply keeps_foldl <;> [skip; intro _ _ _]) | split | extract_lets | (apply keeps_eq; with_reducible assumption) | dsimp -zeta only | with_reducible apply keeps_mk)))

theorem stcEnds_keeps {s0 : State} (s : State) (t : Nat) (hk : Keeps s0 s) : Keeps s0 (stcEnds s t) := by
  unfold stcEnds
  iterate 60 (try (any_goals (first | with_reducible assumption | with_reducible apply keeps_ite | with_reducible apply keeps_ite_snd | with_reducible apply settle_keeps | with_reducible apply cacheStore_keeps | with_reducible apply storePieces_keeps | with_reducible apply modThr_keeps | (with_reducible apply keeps_foldl <;> [skip; intro _ _ _]) | split | extract_lets | (apply keeps_eq; with_reducible assumption) | dsimp -zeta only | with_reducible apply keeps_mk)))

theorem atomicEnds_keeps {s0 : State} (s : State) (t : Nat) (hk : Keeps s0 s) : Keeps s0 (atomicEnds s t) := by
  unfold atomicEnds
  iterate 60 (try (any_goals (first | with_reducible assumption | with_reducible apply keeps_ite | with_reducible apply keeps_ite_snd | with_reducible apply settle_keeps | with_reducible apply cacheStore_keeps | with_reducible apply storePieces_keeps | with_reducible apply modThr_keeps | (with_reducible apply keeps_foldl <;> [skip; intro _ _ _]) | split | extract_lets | (apply keeps_eq; with_reducible assumption) | dsimp -zeta only | with_reducible apply keeps_mk)))

theorem tasEnds_keeps {s0 : State} (s : State) (t : Nat) (hk : Keeps s0 s) : Keeps s0 (tasEnds s t) := by
  unfold tasEnds
  iterate 60 (try (any_goals (first | with_reducible assumption | with_reducible apply keeps_ite | with_reducible apply keeps_ite_snd | with_reducible apply settle_keeps | with_reducible apply writeKbit_keeps | with_reducible apply modThr_keeps | (with_reducible apply keeps_foldl <;> [skip; intro _ _ _]) | split | extract_lets | (apply keeps_eq; with_reducible assumption) | dsimp -zeta only | with_reducible apply keeps_mk)))

theorem execDigitUnitResult_keeps (t : Fin 2048) (u : DUnit) (o : UnitOutcome) (s : State) : Goes s (execDigitUnitResult t u o s) :=
  ⟨_, rfl, unitEnds_keeps _ _ _ _ (Keeps.refl s)⟩

theorem execCompletionTimeout_keeps (t : Fin 2048) (u : DUnit) (s : State) : Goes s (execCompletionTimeout t u s) :=
  ⟨_, rfl, unitEnds_keeps _ _ _ _ (Keeps.refl s)⟩

theorem execMulProductVisible_keeps (t : Fin 2048) (s : State) : Goes s (execMulProductVisible t s) :=
  ⟨_, rfl, settle_keeps _ (modThr_keeps _ _ _ (Keeps.refl s))⟩

theorem execBranchResolve_keeps (t : Fin 2048) (s : State) : Goes s (execBranchResolve t s) :=
  ⟨_, rfl, resolveBranch_keeps _ _ (Keeps.refl s)⟩

theorem execReturnResolve_keeps (t : Fin 2048) (s : State) : Goes s (execReturnResolve t s) :=
  ⟨_, rfl, resolveReturn_keeps _ _ (Keeps.refl s)⟩

theorem execFetchGroupArrive_keeps (t : Fin 2048) (parityError : Bool) (s : State) : Goes s (execFetchGroupArrive t parityError s) :=
  ⟨_, rfl, fetchGroup_keeps _ _ _ (Keeps.refl s)⟩

theorem execPageWalkComplete_keeps (t : Fin 2048) (s : State) : Goes s (execPageWalkComplete t s) :=
  ⟨_, rfl, walkEnds_keeps _ _ (Keeps.refl s)⟩

theorem execStcDecided_keeps (t : Fin 2048) (s : State) : Goes s (execStcDecided t s) :=
  ⟨_, rfl, stcEnds_keeps _ _ (Keeps.refl s)⟩

theorem execAtomicComplete_keeps (t : Fin 2048) (s : State) : Goes s (execAtomicComplete t s) :=
  ⟨_, rfl, atomicEnds_keeps _ _ (Keeps.refl s)⟩

theorem execBsTasComplete_keeps (t : Fin 2048) (s : State) : Goes s (execBsTasComplete t s) :=
  ⟨_, rfl, tasEnds_keeps _ _ (Keeps.refl s)⟩

/-! ### Knocks -/

theorem pendSet_keeps {s0 : State} (s : State) (p n : Nat) (hk : Keeps s0 s) : Keeps s0 (pendSet s p n) := by
  unfold pendSet
  iterate 60 (try (any_goals (first | with_reducible assumption | with_reducible apply keeps_ite | with_reducible apply keeps_ite_snd | with_reducible apply deny_keeps | with_reducible apply wakeTargets_keeps | with_reducible apply modSrc_keeps | (with_reducible apply keeps_foldl <;> [skip; intro _ _ _]) | split | extract_lets | (apply keeps_eq; with_reducible assumption) | dsimp -zeta only | with_reducible apply keeps_mk)))

theorem pendClr_keeps {s0 : State} (s : State) (p n : Nat) (hk : Keeps s0 s) : Keeps s0 (pendClr s p n) :=
  keeps_ite hk (keeps_ite (modSrc_keeps _ _ _ hk) (deny_keeps _ _ hk))

theorem maskWrite_keeps {s0 : State} (s : State) (p n : Nat) (m : Bool) (hk : Keeps s0 s) : Keeps s0 (maskWrite s p n m) := by
  unfold maskWrite
  iterate 60 (try (any_goals (first | with_reducible assumption | with_reducible apply keeps_ite | with_reducible apply keeps_ite_snd | with_reducible apply deny_keeps | with_reducible apply wakeTargets_keeps | with_reducible apply modSrc_keeps | (with_reducible apply keeps_foldl <;> [skip; intro _ _ _]) | split | extract_lets | (apply keeps_eq; with_reducible assumption) | dsimp -zeta only | with_reducible apply keeps_mk)))

theorem abandonDiv_keeps {s0 : State} (s : State) (t : Nat) (hk : Keeps s0 s) : Keeps s0 (abandonDiv s t) := by
  unfold abandonDiv
  iterate 60 (try (any_goals (first | with_reducible assumption | with_reducible apply keeps_ite | with_reducible apply keeps_ite_snd | with_reducible apply modCyl_keeps | with_reducible apply putThr_keeps | (with_reducible apply keeps_foldl <;> [skip; intro _ _ _]) | split | extract_lets | (apply keeps_eq; with_reducible assumption) | dsimp -zeta only | with_reducible apply keeps_mk)))

theorem interrupt_keeps {s0 : State} (s : State) (t : Nat) (k : Option SyncKnock) (hk : Keeps s0 s) : Keeps s0 (interrupt s t k) := by
  unfold interrupt
  iterate 60 (try (any_goals (first | with_reducible assumption | with_reducible apply keeps_ite | with_reducible apply keeps_ite_snd | with_reducible apply abandonDiv_keeps | with_reducible apply withdrawSeat_keeps | with_reducible apply modThr_keeps | (with_reducible apply keeps_foldl <;> [skip; intro _ _ _]) | split | extract_lets | (apply keeps_eq; with_reducible assumption) | dsimp -zeta only | with_reducible apply keeps_mk)))

theorem entryFill_keeps {s0 : State} (s : State) (t va acc : Nat) (hk : Keeps s0 s) : Keeps s0 (entryFill s t va acc) := by
  unfold entryFill
  iterate 60 (try (any_goals (first | with_reducible assumption | with_reducible apply keeps_ite | with_reducible apply keeps_ite_snd | with_reducible apply tlbInstall_keeps | (with_reducible apply keeps_foldl <;> [skip; intro _ _ _]) | split | extract_lets | (apply keeps_eq; with_reducible assumption) | dsimp -zeta only | with_reducible apply keeps_mk)))

theorem entryHalt_keeps {s0 : State} (s : State) (t : Nat) (epc : VAddr) (f : Option (VAddr × Word)) (hk : Keeps s0 s) : Keeps s0 (entryHalt s t epc f) := by
  unfold entryHalt
  iterate 60 (try (any_goals (first | with_reducible assumption | with_reducible apply keeps_ite | with_reducible apply keeps_ite_snd | with_reducible apply haltThr_keeps | with_reducible apply errKnock_keeps | with_reducible apply modThr_keeps | (with_reducible apply keeps_foldl <;> [skip; intro _ _ _]) | split | extract_lets | (apply keeps_eq; with_reducible assumption) | dsimp -zeta only | with_reducible apply keeps_mk)))

theorem takeEntry_keeps {s0 : State} (s : State) (t : Nat) (epc : VAddr) (sync : Option Nat) (hk : Keeps s0 s) : Keeps s0 (takeEntry s t epc sync) := by
  unfold takeEntry
  iterate 60 (try (any_goals (first | with_reducible assumption | with_reducible apply keeps_ite | with_reducible apply keeps_ite_snd | with_reducible apply entryHalt_keeps | with_reducible apply entryFill_keeps | with_reducible apply frameStores_keeps | with_reducible apply modThr_keeps | (with_reducible apply keeps_foldl <;> [skip; intro _ _ _]) | split | extract_lets | (apply keeps_eq; with_reducible assumption) | dsimp -zeta only | with_reducible apply keeps_mk)))

theorem directEntry_keeps {s0 : State} (s : State) (t : Nat) (hk : Keeps s0 s) : Keeps s0 (directEntry s t) := by
  unfold directEntry
  iterate 60 (try (any_goals (first | with_reducible assumption | with_reducible apply keeps_ite | with_reducible apply keeps_ite_snd | with_reducible apply modThr_keeps | (with_reducible apply keeps_foldl <;> [skip; intro _ _ _]) | split | extract_lets | (apply keeps_eq; with_reducible assumption) | dsimp -zeta only | with_reducible apply keeps_mk)))

theorem restoreEntry_retFault_keeps {s0 : State} (s : State) (t va d l : Nat) (hk : Keeps s0 s) :
    Keeps s0 (restoreEntry.retFault s t va d l) := by
  unfold restoreEntry.retFault
  exact modThr_keeps _ _ _ hk

theorem restoreEntry_keeps {s0 : State} (s : State) (t : Nat) (hk : Keeps s0 s) : Keeps s0 (restoreEntry s t) := by
  unfold restoreEntry
  iterate 60 (try (any_goals (first | with_reducible assumption | with_reducible apply keeps_ite | with_reducible apply keeps_ite_snd | with_reducible apply restoreEntry_retFault_keeps | with_reducible apply entryFill_keeps | with_reducible apply touch_keeps | with_reducible apply modThr_keeps | (with_reducible apply keeps_foldl <;> [skip; intro _ _ _]) | split | extract_lets | (apply keeps_eq; with_reducible assumption) | dsimp -zeta only | with_reducible apply keeps_mk)))

theorem asyncEntry_keeps {s0 : State} (s : State) (t : Nat) (hk : Keeps s0 s) : Keeps s0 (asyncEntry s t) := by
  unfold asyncEntry
  iterate 60 (try (any_goals (first | with_reducible assumption | with_reducible apply keeps_ite | with_reducible apply keeps_ite_snd | with_reducible apply restoreEntry_keeps | with_reducible apply directEntry_keeps | with_reducible apply takeEntry_keeps | with_reducible apply interrupt_keeps | with_reducible apply modThr_keeps | (with_reducible apply keeps_foldl <;> [skip; intro _ _ _]) | split | extract_lets | (apply keeps_eq; with_reducible assumption) | dsimp -zeta only | with_reducible apply keeps_mk)))

theorem syncEntry_keeps {s0 : State} (s : State) (t : Nat) (hk : Keeps s0 s) : Keeps s0 (syncEntry s t) := by
  unfold syncEntry
  iterate 60 (try (any_goals (first | with_reducible assumption | with_reducible apply keeps_ite | with_reducible apply keeps_ite_snd | with_reducible apply takeEntry_keeps | with_reducible apply interrupt_keeps | with_reducible apply modThr_keeps | (with_reducible apply keeps_foldl <;> [skip; intro _ _ _]) | split | extract_lets | (apply keeps_eq; with_reducible assumption) | dsimp -zeta only | with_reducible apply keeps_mk)))

theorem claim_keeps {s0 : State} (s : State) (t : Nat) (hk : Keeps s0 s) : Keeps s0 (claim s t).2 := by
  unfold claim
  iterate 60 (try (any_goals (first | with_reducible assumption | with_reducible apply keeps_ite | with_reducible apply keeps_ite_snd | with_reducible apply modSrc_keeps | with_reducible apply modThr_keeps | (with_reducible apply keeps_foldl <;> [skip; intro _ _ _]) | dsimp only | split | (apply keeps_eq; with_reducible assumption) | dsimp -zeta only | with_reducible apply keeps_mk)))

theorem stray_keeps {s0 : State} (s : State) (t : Nat) (hk : Keeps s0 s) : Keeps s0 (stray s t) :=
  bump_keeps _ _ _ _ _ _ hk

theorem endOfInterrupt_keeps {s0 : State} (s : State) (t n : Nat) (hk : Keeps s0 s) : Keeps s0 (endOfInterrupt s t n) := by
  unfold endOfInterrupt
  iterate 60 (try (any_goals (first | with_reducible assumption | with_reducible apply keeps_ite | with_reducible apply keeps_ite_snd | with_reducible apply stray_keeps | with_reducible apply wakeTargets_keeps | with_reducible apply modSrc_keeps | with_reducible apply modThr_keeps | with_reducible apply putThr_keeps | (with_reducible apply keeps_foldl <;> [skip; intro _ _ _]) | split | extract_lets | (apply keeps_eq; with_reducible assumption) | dsimp -zeta only | with_reducible apply keeps_mk)))

theorem knkReturn_keeps {s0 : State} (s : State) (t : Nat) (hk : Keeps s0 s) : Keeps s0 (knkReturn s t) := by
  unfold knkReturn
  iterate 60 (try (any_goals (first | with_reducible assumption | with_reducible apply keeps_ite | with_reducible apply keeps_ite_snd | with_reducible apply stray_keeps | with_reducible apply restoreEntry_keeps | with_reducible apply directEntry_keeps | with_reducible apply modThr_keeps | with_reducible apply putThr_keeps | (with_reducible apply keeps_foldl <;> [skip; intro _ _ _]) | split | extract_lets | (apply keeps_eq; with_reducible assumption) | dsimp -zeta only | with_reducible apply keeps_mk)))

theorem landValue_keeps {s0 : State} (s : State) (t : Nat) (o : Op) (v : Word) (bad : Bool) (hk : Keeps s0 s) : Keeps s0 (landValue s t o v bad) := by
  unfold landValue
  iterate 60 (try (any_goals (first | with_reducible assumption | with_reducible apply keeps_ite | with_reducible apply keeps_ite_snd | with_reducible apply modThr_keeps | (with_reducible apply keeps_foldl <;> [skip; intro _ _ _]) | split | extract_lets | (apply keeps_eq; with_reducible assumption) | dsimp -zeta only | with_reducible apply keeps_mk)))

theorem claimLands_keeps {s0 : State} (s : State) (t : Nat) (hk : Keeps s0 s) : Keeps s0 (claimLands s t) := by
  unfold claimLands
  iterate 60 (try (any_goals (first | with_reducible assumption | with_reducible apply keeps_ite | with_reducible apply keeps_ite_snd | with_reducible apply landValue_keeps | with_reducible apply claim_keeps | with_reducible apply settle_keeps | (with_reducible apply keeps_foldl <;> [skip; intro _ _ _]) | split | extract_lets | (apply keeps_eq; with_reducible assumption) | dsimp -zeta only | with_reducible apply keeps_mk)))

theorem returnStore_keeps {s0 : State} (s : State) (t : Nat) (hk : Keeps s0 s) : Keeps s0 (returnStore s t) := by
  unfold returnStore
  iterate 60 (try (any_goals (first | with_reducible assumption | with_reducible apply keeps_ite | with_reducible apply keeps_ite_snd | with_reducible apply knkReturn_keeps | with_reducible apply settle_keeps | with_reducible apply putThr_keeps | (with_reducible apply keeps_foldl <;> [skip; intro _ _ _]) | split | extract_lets | (apply keeps_eq; with_reducible assumption) | dsimp -zeta only | with_reducible apply keeps_mk)))

theorem freezeNow_keeps {s0 : State} (s : State) (t : Nat) (why : Freeze) (hk : Keeps s0 s) : Keeps s0 (freezeNow s t why) :=
  modThr_keeps _ _ _ hk

theorem freezeThr_keeps {s0 : State} (s : State) (t : Nat) (hk : Keeps s0 s) : Keeps s0 (freezeThr s t) := by
  unfold freezeThr
  iterate 60 (try (any_goals (first | with_reducible assumption | with_reducible apply keeps_ite | with_reducible apply keeps_ite_snd | with_reducible apply freezeNow_keeps | with_reducible apply interrupt_keeps | (with_reducible apply keeps_foldl <;> [skip; intro _ _ _]) | split | extract_lets | (apply keeps_eq; with_reducible assumption) | dsimp -zeta only | with_reducible apply keeps_mk)))

theorem releaseThr_keeps {s0 : State} (s : State) (t : Nat) (why : Freeze) (hk : Keeps s0 s) : Keeps s0 (releaseThr s t why) := by
  unfold releaseThr
  iterate 60 (try (any_goals (first | with_reducible assumption | with_reducible apply keeps_ite | with_reducible apply keeps_ite_snd | with_reducible apply putThr_keeps | (with_reducible apply keeps_foldl <;> [skip; intro _ _ _]) | split | extract_lets | (apply keeps_eq; with_reducible assumption) | dsimp -zeta only | with_reducible apply keeps_mk)))

theorem drainThr_keeps {s0 : State} (s : State) (t : Nat) (hk : Keeps s0 s) : Keeps s0 (drainThr s t) := by
  unfold drainThr
  iterate 60 (try (any_goals (first | with_reducible assumption | with_reducible apply keeps_ite | with_reducible apply keeps_ite_snd | with_reducible apply storePieces_keeps | with_reducible apply modThr_keeps | (with_reducible apply keeps_foldl <;> [skip; intro _ _ _]) | split | extract_lets | (apply keeps_eq; with_reducible assumption) | dsimp -zeta only | with_reducible apply keeps_mk)))

theorem startDue_keeps {s0 : State} (s : State) (p : Nat) (hk : Keeps s0 s) : Keeps s0 (startDue s p) := by
  unfold startDue
  iterate 60 (try (any_goals (first | with_reducible assumption | with_reducible apply keeps_ite | with_reducible apply keeps_ite_snd | with_reducible apply putThr_keeps | (with_reducible apply keeps_foldl <;> [skip; intro _ _ _]) | split | extract_lets | (apply keeps_eq; with_reducible assumption) | dsimp -zeta only | with_reducible apply keeps_mk)))

theorem clearQuad_keeps {s0 : State} (s : State) (q : Nat) (hk : Keeps s0 s) : Keeps s0 (clearQuad s q) := by
  unfold clearQuad
  iterate 60 (try (any_goals (first | with_reducible assumption | with_reducible apply keeps_ite | with_reducible apply keeps_ite_snd | with_reducible apply startDue_keeps | with_reducible apply drainThr_keeps | with_reducible apply staleThread_keeps | with_reducible apply dropActive_keeps | with_reducible apply rewindItems_keeps | with_reducible apply endSeats_keeps | with_reducible apply putThr_keeps | (with_reducible apply keeps_foldl <;> [skip; intro _ _ _]) | split | extract_lets | (apply keeps_eq; with_reducible assumption) | dsimp -zeta only | with_reducible apply keeps_mk)))

theorem debugRecord_keeps {s0 : State} (s : State) (what part : Nat) (hk : Keeps s0 s) : Keeps s0 (debugRecord s what part) := by
  unfold debugRecord
  iterate 60 (try (any_goals (first | with_reducible assumption | with_reducible apply keeps_ite | with_reducible apply keeps_ite_snd | with_reducible apply audit_keeps | with_reducible apply freeWord_keeps | (with_reducible apply keeps_foldl <;> [skip; intro _ _ _]) | split | extract_lets | (apply keeps_eq; with_reducible assumption) | dsimp -zeta only | with_reducible apply keeps_mk)))

theorem endDebug_keeps {s0 : State} (s : State) (hk : Keeps s0 s) : Keeps s0 (endDebug s) := by
  unfold endDebug
  iterate 60 (try (any_goals (first | with_reducible assumption | with_reducible apply keeps_ite | with_reducible apply keeps_ite_snd | with_reducible apply debugRecord_keeps | with_reducible apply releaseThr_keeps | (with_reducible apply keeps_foldl <;> [skip; intro _ _ _]) | split | extract_lets | (apply keeps_eq; with_reducible assumption) | dsimp -zeta only | with_reducible apply keeps_mk)))

theorem execKnkDoorbell_keeps (p : Fin 256) (n : Fin 4096) (s : State) : Goes s (execKnkDoorbell p n s) :=
  ⟨_, rfl, raise_keeps _ _ _ (Keeps.refl s)⟩

theorem execDeviceRaise_keeps (p : Fin 256) (n : Fin 4096) (s : State) : Goes s (execDeviceRaise p n s) :=
  ⟨_, rfl, raise_keeps _ _ _ (Keeps.refl s)⟩

theorem execKnkPendSet_keeps (p : Fin 256) (n : Fin 4096) (s : State) : Goes s (execKnkPendSet p n s) :=
  ⟨_, rfl, pendSet_keeps _ _ _ (Keeps.refl s)⟩

theorem execKnkPendClr_keeps (p : Fin 256) (n : Fin 4096) (s : State) : Goes s (execKnkPendClr p n s) :=
  ⟨_, rfl, pendClr_keeps _ _ _ (Keeps.refl s)⟩

theorem execKnkMaskSet_keeps (p : Fin 256) (n : Fin 4096) (s : State) : Goes s (execKnkMaskSet p n s) :=
  ⟨_, rfl, maskWrite_keeps _ _ _ _ (Keeps.refl s)⟩

theorem execKnkMaskClr_keeps (p : Fin 256) (n : Fin 4096) (s : State) : Goes s (execKnkMaskClr p n s) :=
  ⟨_, rfl, maskWrite_keeps _ _ _ _ (Keeps.refl s)⟩

theorem execModerationRipe_keeps (n : Fin 4096) (s : State) : Goes s (execModerationRipe n s) := by
  have hk := Keeps.refl s
  unfold execModerationRipe
  (try extract_lets)
  refine ⟨_, rfl, ?_⟩
  iterate 30 (try (any_goals (first | with_reducible assumption | with_reducible apply keeps_ite | with_reducible apply wakeTargets_keeps | with_reducible apply modSrc_keeps | (with_reducible apply keeps_foldl <;> [skip; intro _ _ _]) | intro _ _ | split | extract_lets | dsimp -zeta only | with_reducible apply keeps_mk)))

theorem execKnockEntry_keeps (t : Fin 2048) (s : State) : Goes s (execKnockEntry t s) :=
  ⟨_, rfl, settle_keeps _ (asyncEntry_keeps _ _ (Keeps.refl s))⟩

theorem execSyncKnockEntry_keeps (t : Fin 2048) (s : State) : Goes s (execSyncKnockEntry t s) :=
  ⟨_, rfl, settle_keeps _ (syncEntry_keeps _ _ (Keeps.refl s))⟩

theorem execKnkClaim_keeps (t : Fin 2048) (s : State) : Goes s (execKnkClaim t s) :=
  ⟨_, rfl, claimLands_keeps _ _ (Keeps.refl s)⟩

theorem execKnkEoi_keeps (t : Fin 2048) (n : Fin 4096) (s : State) : Goes s (execKnkEoi t n s) :=
  ⟨_, rfl, endOfInterrupt_keeps _ _ _ (Keeps.refl s)⟩

theorem execKnkRtn_keeps (t : Fin 2048) (s : State) : Goes s (execKnkRtn t s) :=
  ⟨_, rfl, returnStore_keeps _ _ (Keeps.refl s)⟩

theorem execThreadFreeze_keeps (t : Fin 2048) (s : State) : Goes s (execThreadFreeze t s) :=
  ⟨_, rfl, settle_keeps _ (freezeThr_keeps _ _ (Keeps.refl s))⟩

theorem execQuadClear_keeps (q : Fin 512) (s : State) : Goes s (execQuadClear q s) :=
  ⟨_, rfl, clearQuad_keeps _ _ (Keeps.refl s)⟩

end Sys2Proof.Machine
end

