-- ==== Sys2Proof/Laws/KeepsDevice.lean ====
section
/-! SUPPORT. Engines, DMA, turns, intake, the fabric, the quiet state and faults: each function keeps the relation of `Laws/Keeps.lean`, and each command of these
files answers a next state that it holds for. -/

set_option linter.all false
set_option linter.unusedTactic false
set_option linter.unreachableTactic false

namespace Sys2Proof.Machine

/-! ### Engines -/

theorem namedKey_keeps {s0 : State} (s : State) (p turn handle : Nat) (use : Option (Key → Bool)) (hk : Keeps s0 s) : Keeps s0 (namedKey s p turn handle use).2 := by
  unfold namedKey
  iterate 60 (try (any_goals (first | with_reducible assumption | with_reducible apply keeps_ite | with_reducible apply keeps_ite_snd | with_reducible apply readKey_keeps | (with_reducible apply keeps_foldl <;> [skip; intro _ _ _]) | split | extract_lets | (apply keeps_eq; with_reducible assumption) | dsimp -zeta only | with_reducible apply keeps_mk)))

/-- An operation whose guard and run keep the relation. -/
structure OpKeeps (o : OpDef) : Prop where
  guard : ∀ {s0 : State} (c : Ctx) (s : State), Keeps s0 s → Keeps s0 (o.guard c s).2
  run : ∀ {s0 : State} (c : Ctx) (s : State), Keeps s0 s → Keeps s0 (o.run c s).2

theorem setUp_keeps {s0 : State} (s : State) (e : Nat) (j : Job) (d : Desc) (o : OpDef) (ho : OpKeeps o) (hk : Keeps s0 s) :
    Keeps s0 (setUp s e j d o).2 := by
  unfold setUp
  extract_lets k bi bo ba pi po pa
  apply keeps_ite_snd hk
  clear_value pi po pa
  split
  · extract_lets bad inB auxB
    apply keeps_ite_snd hk
    split
    · rename_i e1
      exact keeps_eq e1 (namedKey_keeps _ _ _ _ _ hk)
    · rename_i k1 s1 e1
      have h1 : Keeps s0 s1 := keeps_eq e1 (namedKey_keeps _ _ _ _ _ hk)
      split
      · rename_i e2
        exact keeps_eq e2 (namedKey_keeps _ _ _ _ _ h1)
      · rename_i k2 s2 e2
        have h2 : Keeps s0 s2 := keeps_eq e2 (namedKey_keeps _ _ _ _ _ h1)
        extract_lets c
        apply keeps_ite_snd h2
        apply keeps_ite_snd h2
        split
        · exact h2
        · split
          · rename_i s3 e3
            exact keeps_eq e3 (ho.guard c s2 h2)
          · rename_i s3 e3
            have h3 : Keeps s0 s3 := keeps_eq e3 (ho.guard c s2 h2)
            exact keeps_ite_snd h3 h3
  · exact hk

theorem conclude_keeps {s0 : State} (s : State) (d : Desc) (o : OpDef) (u : SetUp) (ho : OpKeeps o) (hk : Keeps s0 s) : Keeps s0 (conclude s d o u).2 := by
  unfold conclude
  extract_lets x y outP writes
  show Keeps s0 x.2
  exact keeps_ite_snd hk (ho.run u.c s hk)

theorem prepare_keeps {s0 : State} (s : State) (e : Nat) (j : Job) (d : Desc) (o : OpDef) (ho : OpKeeps o) (hk : Keeps s0 s) :
    Keeps s0 (prepare s e j d o).2 := by
  unfold prepare
  split
  · rename_i e1
    exact keeps_eq e1 (setUp_keeps _ _ _ _ _ ho hk)
  · rename_i e1
    exact conclude_keeps _ _ _ _ ho (keeps_eq e1 (setUp_keeps _ _ _ _ _ ho hk))

theorem startJob_keeps {s0 : State} (s : State) (e op : Nat) (o : OpDef) (ho : OpKeeps o) (hk : Keeps s0 s) : Keeps s0 (startJob s e op o) := by
  unfold startJob
  extract_lets x
  apply keeps_ite hk
  split
  · exact hk
  · exact keeps_ite hk (modEng_keeps _ _ _ (prepare_keeps _ _ _ _ _ ho hk))

theorem engOutcome_keeps {s0 : State} (s : State) (e p : Nat) (o : UnitOutcome) (hk : Keeps s0 s) : Keeps s0 (engOutcome s e p o) := by
  unfold engOutcome
  iterate 60 (try (any_goals (first | with_reducible assumption | with_reducible apply keeps_ite | with_reducible apply keeps_ite_snd | with_reducible apply report_keeps | with_reducible apply bump_keeps | (with_reducible apply keeps_foldl <;> [skip; intro _ _ _]) | split | extract_lets | (apply keeps_eq; with_reducible assumption) | dsimp -zeta only | with_reducible apply keeps_mk)))

theorem completeJob_keeps {s0 : State} (s : State) (e : Nat) (o : UnitOutcome) (hk : Keeps s0 s) : Keeps s0 (completeJob s e o) := by
  unfold completeJob
  iterate 60 (try (any_goals (first | with_reducible assumption | with_reducible apply keeps_ite | with_reducible apply keeps_ite_snd | with_reducible apply engOutcome_keeps | with_reducible apply endJob_keeps | with_reducible apply finishJob_keeps | with_reducible apply settle_keeps | with_reducible apply modEng_keeps | (with_reducible apply keeps_foldl <;> [skip; intro _ _ _]) | split | extract_lets | (apply keeps_eq; with_reducible assumption) | dsimp -zeta only | with_reducible apply keeps_mk)))

theorem modDrbg_keeps {s0 : State} (s : State) (k p : Nat) (f : Drbg → Drbg) (hk : Keeps s0 s) : Keeps s0 (modDrbg s k p f) :=
  modKr_keeps _ _ _ hk

theorem reseed_keeps {s0 : State} (s : State) (k p : Nat) (hk : Keeps s0 s) : Keeps s0 (reseed s k p) :=
  modDrbg_keeps _ _ _ _ hk

theorem drbgDraw_keeps {s0 : State} (s : State) (k p n : Nat) (pr : Bool) (hk : Keeps s0 s) : Keeps s0 (drbgDraw s k p n pr).2 := by
  unfold drbgDraw
  iterate 60 (try (any_goals (first | with_reducible assumption | with_reducible apply keeps_ite | with_reducible apply keeps_ite_snd | with_reducible apply reseed_keeps | with_reducible apply modDrbg_keeps | (with_reducible apply keeps_foldl <;> [skip; intro _ _ _]) | split | extract_lets | (apply keeps_eq; with_reducible assumption) | dsimp -zeta only | with_reducible apply keeps_mk)))

theorem execEngineJobComplete_keeps (e : Fin 144) (o : UnitOutcome) (s : State) : Goes s (execEngineJobComplete e o s) :=
  ⟨_, rfl, completeJob_keeps _ _ _ (Keeps.refl s)⟩

/-! ### Dma -/

theorem modChan_keeps {s0 : State} (s : State) (c : Nat) (f : Chan → Chan) (hk : Keeps s0 s) : Keeps s0 (modChan s c f) := by
  unfold modChan
  iterate 60 (try (any_goals (first | with_reducible assumption | with_reducible apply keeps_ite | with_reducible apply keeps_ite_snd | (with_reducible apply keeps_foldl <;> [skip; intro _ _ _]) | split | extract_lets | (apply keeps_eq; with_reducible assumption) | dsimp -zeta only | with_reducible apply keeps_mk)))

theorem chanKnock_keeps {s0 : State} (s : State) (c : Nat) (hk : Keeps s0 s) : Keeps s0 (chanKnock s c) := by
  unfold chanKnock
  iterate 60 (try (any_goals (first | with_reducible assumption | with_reducible apply keeps_ite | with_reducible apply keeps_ite_snd | with_reducible apply raise_keeps | (with_reducible apply keeps_foldl <;> [skip; intro _ _ _]) | split | extract_lets | (apply keeps_eq; with_reducible assumption) | dsimp -zeta only | with_reducible apply keeps_mk)))

theorem dmaFill_keeps {s0 : State} (s : State) (c va : Nat) (hk : Keeps s0 s) : Keeps s0 (dmaFill s c va) := by
  unfold dmaFill
  iterate 60 (try (any_goals (first | with_reducible assumption | with_reducible apply keeps_ite | with_reducible apply keeps_ite_snd | with_reducible apply modKr_keeps | (with_reducible apply keeps_foldl <;> [skip; intro _ _ _]) | split | extract_lets | (apply keeps_eq; with_reducible assumption) | dsimp -zeta only | with_reducible apply keeps_mk)))

theorem pauseChan_keeps {s0 : State} (s : State) (c va cause detail : Nat) (hk : Keeps s0 s) : Keeps s0 (pauseChan s c va cause detail) :=
  chanKnock_keeps _ _ (modChan_keeps _ _ _ hk)

theorem endChain_keeps {s0 : State} (s : State) (c last : Nat) (hk : Keeps s0 s) : Keeps s0 (endChain s c last) :=
  modChan_keeps _ _ _ hk

theorem statusIfOk_keeps {s0 : State} (s : State) (c st : Nat) (hk : Keeps s0 s) : Keeps s0 (statusIfOk s c st) := by
  unfold statusIfOk
  iterate 60 (try (any_goals (first | with_reducible assumption | with_reducible apply keeps_ite | with_reducible apply keeps_ite_snd | with_reducible apply storePieces_keeps | (with_reducible apply keeps_foldl <;> [skip; intro _ _ _]) | split | extract_lets | (apply keeps_eq; with_reducible assumption) | dsimp -zeta only | with_reducible apply keeps_mk)))

theorem badDesc_keeps {s0 : State} (s : State) (c : Nat) (hk : Keeps s0 s) : Keeps s0 (badDesc s c) :=
  chanKnock_keeps _ _ (endChain_keeps _ _ _ (statusIfOk_keeps _ _ _ hk))

theorem loadDesc_keeps {s0 : State} (s : State) (c : Nat) (hk : Keeps s0 s) : Keeps s0 (loadDesc s c) := by
  unfold loadDesc
  iterate 60 (try (any_goals (first | with_reducible assumption | with_reducible apply keeps_ite | with_reducible apply keeps_ite_snd | with_reducible apply badDesc_keeps | with_reducible apply pauseChan_keeps | with_reducible apply dmaFill_keeps | with_reducible apply modChan_keeps | (with_reducible apply keeps_foldl <;> [skip; intro _ _ _]) | split | extract_lets | (apply keeps_eq; with_reducible assumption) | dsimp -zeta only | with_reducible apply keeps_mk)))

theorem completeDesc_keeps {s0 : State} (s : State) (c : Nat) (hk : Keeps s0 s) : Keeps s0 (completeDesc s c) := by
  unfold completeDesc
  iterate 60 (try (any_goals (first | with_reducible assumption | with_reducible apply keeps_ite | with_reducible apply keeps_ite_snd | with_reducible apply loadDesc_keeps | with_reducible apply endChain_keeps | with_reducible apply pauseChan_keeps | with_reducible apply dmaFill_keeps | with_reducible apply chanKnock_keeps | with_reducible apply modChan_keeps | with_reducible apply storePieces_keeps | with_reducible apply errKnock_keeps | with_reducible apply bump_keeps | (with_reducible apply keeps_foldl <;> [skip; intro _ _ _]) | split | extract_lets | (apply keeps_eq; with_reducible assumption) | dsimp -zeta only | with_reducible apply keeps_mk)))

theorem moveChunk_keeps {s0 : State} (s : State) (c : Nat) (d : DmaDesc) (hk : Keeps s0 s) : Keeps s0 (moveChunk s c d) := by
  unfold moveChunk
  iterate 60 (try (any_goals (first | with_reducible assumption | with_reducible apply keeps_ite | with_reducible apply keeps_ite_snd | with_reducible apply pauseChan_keeps | with_reducible apply dmaFill_keeps | with_reducible apply modChan_keeps | with_reducible apply storePieces_keeps | (with_reducible apply keeps_foldl <;> [skip; intro _ _ _]) | split | extract_lets | (apply keeps_eq; with_reducible assumption) | dsimp -zeta only | with_reducible apply keeps_mk)))

theorem dmaStep_keeps {s0 : State} (s : State) (c : Nat) (hk : Keeps s0 s) : Keeps s0 (dmaStep s c) := by
  unfold dmaStep
  iterate 60 (try (any_goals (first | with_reducible assumption | with_reducible apply keeps_ite | with_reducible apply keeps_ite_snd | with_reducible apply moveChunk_keeps | with_reducible apply completeDesc_keeps | with_reducible apply loadDesc_keeps | (with_reducible apply keeps_foldl <;> [skip; intro _ _ _]) | split | extract_lets | (apply keeps_eq; with_reducible assumption) | dsimp -zeta only | with_reducible apply keeps_mk)))

theorem dmaHeadWrite_keeps {s0 : State} (s : State) (p c : Nat) (v : Word) (hk : Keeps s0 s) : Keeps s0 (dmaHeadWrite s p c v) := by
  unfold dmaHeadWrite
  iterate 60 (try (any_goals (first | with_reducible assumption | with_reducible apply keeps_ite | with_reducible apply keeps_ite_snd | with_reducible apply completeDesc_keeps | with_reducible apply loadDesc_keeps | with_reducible apply modChan_keeps | with_reducible apply plainWrite_keeps | with_reducible apply setBits_keeps | (with_reducible apply keeps_foldl <;> [skip; intro _ _ _]) | split | extract_lets | (apply keeps_eq; with_reducible assumption) | dsimp -zeta only | with_reducible apply keeps_mk)))

theorem dmaResumeWrite_keeps {s0 : State} (s : State) (p c : Nat) (hk : Keeps s0 s) : Keeps s0 (dmaResumeWrite s p c) := by
  unfold dmaResumeWrite
  iterate 60 (try (any_goals (first | with_reducible assumption | with_reducible apply keeps_ite | with_reducible apply keeps_ite_snd | with_reducible apply completeDesc_keeps | with_reducible apply loadDesc_keeps | with_reducible apply modChan_keeps | (with_reducible apply keeps_foldl <;> [skip; intro _ _ _]) | split | extract_lets | (apply keeps_eq; with_reducible assumption) | dsimp -zeta only | with_reducible apply keeps_mk)))

theorem abortChan_keeps {s0 : State} (s : State) (c : Nat) (hk : Keeps s0 s) : Keeps s0 (abortChan s c) :=
  keeps_ite hk (modChan_keeps _ _ _ (endChain_keeps _ _ _ (statusIfOk_keeps _ _ _ hk)))

theorem dmaAbortWrite_keeps {s0 : State} (s : State) (p c : Nat) (hk : Keeps s0 s) : Keeps s0 (dmaAbortWrite s p c) :=
  keeps_ite hk (abortChan_keeps _ _ hk)

theorem dmaCtlWrite_keeps {s0 : State} (s : State) (p c : Nat) (v : Word) (hk : Keeps s0 s) : Keeps s0 (dmaCtlWrite s p c v) := by
  unfold dmaCtlWrite
  iterate 60 (try (any_goals (first | with_reducible assumption | with_reducible apply keeps_ite | with_reducible apply keeps_ite_snd | with_reducible apply dmaAbortWrite_keeps | with_reducible apply dmaResumeWrite_keeps | with_reducible apply plainWrite_keeps | (with_reducible apply keeps_foldl <;> [skip; intro _ _ _]) | split | extract_lets | (apply keeps_eq; with_reducible assumption) | dsimp -zeta only | with_reducible apply keeps_mk)))

theorem addInval_keeps {s0 : State} (s : State) (p : Nat) (va : Option Nat) (t : Option Nat) (hk : Keeps s0 s) : Keeps s0 (addInval s p va t) := by
  unfold addInval
  iterate 60 (try (any_goals (first | with_reducible assumption | with_reducible apply keeps_ite | with_reducible apply keeps_ite_snd | (with_reducible apply keeps_foldl <;> [skip; intro _ _ _]) | split | extract_lets | (apply keeps_eq; with_reducible assumption) | dsimp -zeta only | with_reducible apply keeps_mk)))

theorem invalEffect_keeps {s0 : State} (s : State) (p : Nat) (hk : Keeps s0 s) : Keeps s0 (invalEffect s p) := by
  unfold invalEffect
  iterate 60 (try (any_goals (first | with_reducible assumption | with_reducible apply keeps_ite | with_reducible apply keeps_ite_snd | with_reducible apply settle_keeps | with_reducible apply tlbDrop_keeps | (with_reducible apply keeps_foldl <;> [skip; intro _ _ _]) | split | extract_lets | (apply keeps_eq; with_reducible assumption) | dsimp -zeta only | with_reducible apply keeps_mk)))

theorem ptrootWrite_keeps {s0 : State} (s : State) (p : Nat) (v : Word) (t : Option Nat) (hk : Keeps s0 s) : Keeps s0 (ptrootWrite s p v t) := by
  unfold ptrootWrite
  iterate 60 (try (any_goals (first | with_reducible assumption | with_reducible apply keeps_ite | with_reducible apply keeps_ite_snd | with_reducible apply addInval_keeps | with_reducible apply plainWrite_keeps | (with_reducible apply keeps_foldl <;> [skip; intro _ _ _]) | split | extract_lets | (apply keeps_eq; with_reducible assumption) | dsimp -zeta only | with_reducible apply keeps_mk)))

theorem execDmaHead_keeps (p : Fin 256) (c : Fin 512) (v : Word) (s : State) : Goes s (execDmaHead p c v s) :=
  ⟨_, rfl, dmaHeadWrite_keeps _ _ _ _ (Keeps.refl s)⟩

theorem execDmaResume_keeps (p : Fin 256) (c : Fin 512) (s : State) : Goes s (execDmaResume p c s) :=
  ⟨_, rfl, dmaResumeWrite_keeps _ _ _ (Keeps.refl s)⟩

theorem execDmaAbort_keeps (p : Fin 256) (c : Fin 512) (s : State) : Goes s (execDmaAbort p c s) :=
  ⟨_, rfl, dmaAbortWrite_keeps _ _ _ (Keeps.refl s)⟩

theorem execDmaChunk_keeps (c : Fin 512) (s : State) : Goes s (execDmaChunk c s) :=
  ⟨_, rfl, dmaStep_keeps _ _ (Keeps.refl s)⟩

theorem execTlbinvPage_keeps (p : Fin 256) (va : BitVec 56) (s : State) : Goes s (execTlbinvPage p va s) :=
  ⟨_, rfl, addInval_keeps _ _ _ _ (Keeps.refl s)⟩

theorem execTlbinvAll_keeps (p : Fin 256) (s : State) : Goes s (execTlbinvAll p s) :=
  ⟨_, rfl, addInval_keeps _ _ _ _ (Keeps.refl s)⟩

theorem execTlbinvComplete_keeps (p : Fin 256) (s : State) : Goes s (execTlbinvComplete p s) :=
  ⟨_, rfl, invalEffect_keeps _ _ (Keeps.refl s)⟩

theorem execCylPtroot_keeps (p : Fin 256) (v : Word) (s : State) : Goes s (execCylPtroot p v s) :=
  ⟨_, rfl, ptrootWrite_keeps _ _ _ _ (Keeps.refl s)⟩

/-! ### Turns -/

theorem modPlane_keeps {s0 : State} (s : State) (p : Nat) (f : Plane → Plane) (hk : Keeps s0 s) : Keeps s0 (modPlane s p f) := by
  unfold modPlane
  iterate 60 (try (any_goals (first | with_reducible assumption | with_reducible apply keeps_ite | with_reducible apply keeps_ite_snd | (with_reducible apply keeps_foldl <;> [skip; intro _ _ _]) | split | extract_lets | (apply keeps_eq; with_reducible assumption) | dsimp -zeta only | with_reducible apply keeps_mk)))

theorem turnDeltaWrite_keeps {s0 : State} (s : State) (p : Nat) (va : VAddr) (hk : Keeps s0 s) : Keeps s0 (turnDeltaWrite s p va) := by
  unfold turnDeltaWrite
  iterate 60 (try (any_goals (first | with_reducible assumption | with_reducible apply keeps_ite | with_reducible apply keeps_ite_snd | with_reducible apply modPlane_keeps | (with_reducible apply keeps_foldl <;> [skip; intro _ _ _]) | split | extract_lets | (apply keeps_eq; with_reducible assumption) | dsimp -zeta only | with_reducible apply keeps_mk)))

theorem deltaAudit_keeps {s0 : State} (s : State) (p code : Nat) (b : Bytes) (hk : Keeps s0 s) : Keeps s0 (deltaAudit s p code b) := by
  unfold deltaAudit
  iterate 60 (try (any_goals (first | with_reducible assumption | with_reducible apply keeps_ite | with_reducible apply keeps_ite_snd | with_reducible apply audit_keeps | (with_reducible apply keeps_foldl <;> [skip; intro _ _ _]) | split | extract_lets | (apply keeps_eq; with_reducible assumption) | dsimp -zeta only | with_reducible apply keeps_mk)))

theorem closeIfDue_keeps {s0 : State} (s : State) (p : Nat) (hk : Keeps s0 s) : Keeps s0 (closeIfDue s p) :=
  keeps_ite (modPlane_keeps _ _ _ hk) hk

theorem deltaVerified_keeps {s0 : State} (s : State) (p : Nat) (hk : Keeps s0 s) : Keeps s0 (deltaVerified s p) := by
  unfold deltaVerified
  iterate 60 (try (any_goals (first | with_reducible assumption | with_reducible apply keeps_ite | with_reducible apply keeps_ite_snd | with_reducible apply closeIfDue_keeps | with_reducible apply deltaAudit_keeps | with_reducible apply modPlane_keeps | (with_reducible apply keeps_foldl <;> [skip; intro _ _ _]) | split | extract_lets | (apply keeps_eq; with_reducible assumption) | dsimp -zeta only | with_reducible apply keeps_mk)))

theorem turnSetWrite_keeps {s0 : State} (s : State) (p act : Nat) (hk : Keeps s0 s) : Keeps s0 (turnSetWrite s p act) := by
  unfold turnSetWrite
  iterate 60 (try (any_goals (first | with_reducible assumption | with_reducible apply keeps_ite | with_reducible apply keeps_ite_snd | with_reducible apply modPlane_keeps | with_reducible apply discardStaged_keeps | with_reducible apply sendAll_keeps | (with_reducible apply keeps_foldl <;> [skip; intro _ _ _]) | split | extract_lets | (apply keeps_eq; with_reducible assumption) | dsimp -zeta only | with_reducible apply keeps_mk)))

theorem takeSets_keeps {s0 : State} (s : State) (hk : Keeps s0 s) : Keeps s0 (takeSets s).2.2.2 := by
  unfold takeSets
  iterate 60 (try (any_goals (first | with_reducible assumption | with_reducible apply keeps_ite | with_reducible apply keeps_ite_snd | (with_reducible apply keeps_foldl <;> [skip; intro _ _ _]) | split | extract_lets | (apply keeps_eq; with_reducible assumption) | dsimp -zeta only | with_reducible apply keeps_mk)))

theorem untake_keeps {s0 : State} (s : State) (hk : Keeps s0 s) : Keeps s0 (untake s) := by
  unfold untake
  iterate 60 (try (any_goals (first | with_reducible assumption | with_reducible apply keeps_ite | with_reducible apply keeps_ite_snd | (with_reducible apply keeps_foldl <;> [skip; intro _ _ _]) | split | extract_lets | (apply keeps_eq; with_reducible assumption) | dsimp -zeta only | with_reducible apply keeps_mk)))

theorem auditTurn_keeps {s0 : State} (s : State) (source : Nat) (t0 t1 : Bool) (ds : List Delta) (hk : Keeps s0 s) : Keeps s0 (auditTurn s source t0 t1 ds) := by
  unfold auditTurn
  iterate 60 (try (any_goals (first | with_reducible assumption | with_reducible apply keeps_ite | with_reducible apply keeps_ite_snd | with_reducible apply audit_keeps | (with_reducible apply keeps_foldl <;> [skip; intro _ _ _]) | split | extract_lets | (apply keeps_eq; with_reducible assumption) | dsimp -zeta only | with_reducible apply keeps_mk)))

theorem startCommit_keeps {s0 : State} (s : State) (p : Nat) (hk : Keeps s0 s) : Keeps s0 (startCommit s p) := by
  unfold startCommit
  iterate 60 (try (any_goals (first | with_reducible assumption | with_reducible apply keeps_ite | with_reducible apply keeps_ite_snd | with_reducible apply auditTurn_keeps | with_reducible apply takeSets_keeps | with_reducible apply modPlane_keeps | (with_reducible apply keeps_foldl <;> [skip; intro _ _ _]) | split | extract_lets | (apply keeps_eq; with_reducible assumption) | dsimp -zeta only | with_reducible apply keeps_mk)))

theorem nextCommit_keeps {s0 : State} (s : State) (hk : Keeps s0 s) : Keeps s0 (nextCommit s) := by
  unfold nextCommit
  iterate 60 (try (any_goals (first | with_reducible assumption | with_reducible apply keeps_ite | with_reducible apply keeps_ite_snd | with_reducible apply startCommit_keeps | (with_reducible apply keeps_foldl <;> [skip; intro _ _ _]) | split | extract_lets | (apply keeps_eq; with_reducible assumption) | dsimp -zeta only | with_reducible apply keeps_mk)))

theorem turnCommitWrite_keeps {s0 : State} (s : State) (p : Nat) (hk : Keeps s0 s) : Keeps s0 (turnCommitWrite s p) := by
  unfold turnCommitWrite
  iterate 60 (try (any_goals (first | with_reducible assumption | with_reducible apply keeps_ite | with_reducible apply keeps_ite_snd | with_reducible apply startCommit_keeps | with_reducible apply modPlane_keeps | (with_reducible apply keeps_foldl <;> [skip; intro _ _ _]) | split | extract_lets | (apply keeps_eq; with_reducible assumption) | dsimp -zeta only | with_reducible apply keeps_mk)))

theorem failCommit_keeps {s0 : State} (s : State) (last : Nat) (hk : Keeps s0 s) : Keeps s0 (failCommit s last) := by
  unfold failCommit
  iterate 60 (try (any_goals (first | with_reducible assumption | with_reducible apply keeps_ite | with_reducible apply keeps_ite_snd | with_reducible apply untake_keeps | with_reducible apply modPlane_keeps | (with_reducible apply keeps_foldl <;> [skip; intro _ _ _]) | split | extract_lets | (apply keeps_eq; with_reducible assumption) | dsimp -zeta only | with_reducible apply keeps_mk)))

theorem discardOld_keeps {s0 : State} (s : State) (hk : Keeps s0 s) : Keeps s0 (discardOld s) := by
  unfold discardOld
  iterate 60 (try (any_goals (first | with_reducible assumption | with_reducible apply keeps_ite | with_reducible apply keeps_ite_snd | with_reducible apply endJobs_keeps | with_reducible apply endCmds_keeps | (with_reducible apply keeps_foldl <;> [skip; intro _ _ _]) | split | extract_lets | (apply keeps_eq; with_reducible assumption) | dsimp -zeta only | with_reducible apply keeps_mk)))

theorem drainMoving_keeps {s0 : State} (s : State) (hk : Keeps s0 s) : Keeps s0 (drainMoving s) := by
  unfold drainMoving
  iterate 60 (try (any_goals (first | with_reducible assumption | with_reducible apply keeps_ite | with_reducible apply keeps_ite_snd | with_reducible apply abortChan_keeps | with_reducible apply freezeNow_keeps | with_reducible apply interrupt_keeps | with_reducible apply staleThread_keeps | with_reducible apply staleCurrent_keeps | (with_reducible apply keeps_foldl <;> [skip; intro _ _ _]) | split | extract_lets | (apply keeps_eq; with_reducible assumption) | dsimp -zeta only | with_reducible apply keeps_mk)))

theorem dropAbsent_keeps {s0 : State} (s : State) (new : Keycut) (hk : Keeps s0 s) : Keeps s0 (dropAbsent s new) := by
  unfold dropAbsent
  iterate 60 (try (any_goals (first | with_reducible assumption | with_reducible apply keeps_ite | with_reducible apply keeps_ite_snd | with_reducible apply endDebug_keeps | with_reducible apply answerRelease_keeps | with_reducible apply modSess_keeps | with_reducible apply modCq_keeps | (with_reducible apply keeps_foldl <;> [skip; intro _ _ _]) | split | extract_lets | (apply keeps_eq; with_reducible assumption) | dsimp -zeta only | with_reducible apply keeps_mk)))

theorem moveDrbgs_keeps {s0 : State} (s : State) (old new : Keycut) (hk : Keeps s0 s) : Keeps s0 (moveDrbgs s old new) := by
  unfold moveDrbgs
  iterate 60 (try (any_goals (first | with_reducible assumption | with_reducible apply keeps_ite | with_reducible apply keeps_ite_snd | with_reducible apply reseed_keeps | with_reducible apply modDrbg_keeps | (with_reducible apply keeps_foldl <;> [skip; intro _ _ _]) | split | extract_lets | (apply keeps_eq; with_reducible assumption) | dsimp -zeta only | with_reducible apply keeps_mk)))

theorem movePages_keeps {s0 : State} (s : State) (old new : Keycut) (hk : Keeps s0 s) : Keeps s0 (movePages s old new) := by
  unfold movePages
  iterate 60 (try (any_goals (first | with_reducible assumption | with_reducible apply keeps_ite | with_reducible apply keeps_ite_snd | with_reducible apply tlbDrop_keeps | with_reducible apply clearMem_keeps | (with_reducible apply keeps_foldl <;> [skip; intro _ _ _]) | split | extract_lets | (apply keeps_eq; with_reducible assumption) | dsimp -zeta only | with_reducible apply keeps_mk)))

theorem moveBitsWays_keeps {s0 : State} (s : State) (old new : Keycut) (hk : Keeps s0 s) : Keeps s0 (moveBitsWays s old new) := by
  unfold moveBitsWays
  iterate 60 (try (any_goals (first | with_reducible assumption | with_reducible apply keeps_ite | with_reducible apply keeps_ite_snd | with_reducible apply modKr_keeps | (with_reducible apply keeps_foldl <;> [skip; intro _ _ _]) | split | extract_lets | (apply keeps_eq; with_reducible assumption) | dsimp -zeta only | with_reducible apply keeps_mk)))

theorem judgeModes_keeps {s0 : State} (s : State) (hk : Keeps s0 s) : Keeps s0 (judgeModes s) := by
  unfold judgeModes
  iterate 60 (try (any_goals (first | with_reducible assumption | with_reducible apply keeps_ite | with_reducible apply keeps_ite_snd | with_reducible apply modCyl_keeps | (with_reducible apply keeps_foldl <;> [skip; intro _ _ _]) | split | extract_lets | (apply keeps_eq; with_reducible assumption) | dsimp -zeta only | with_reducible apply keeps_mk)))

theorem comePresent_keeps {s0 : State} (s : State) (p : Nat) (hk : Keeps s0 s) : Keeps s0 (comePresent s p) := by
  unfold comePresent
  iterate 60 (try (any_goals (first | with_reducible assumption | with_reducible apply keeps_ite | with_reducible apply keeps_ite_snd | with_reducible apply regSet_keeps | (with_reducible apply keeps_foldl <;> [skip; intro _ _ _]) | split | extract_lets | (apply keeps_eq; with_reducible assumption) | dsimp -zeta only | with_reducible apply keeps_mk)))

theorem assignFree_keeps {s0 : State} (s : State) (hk : Keeps s0 s) : Keeps s0 (assignFree s) := by
  unfold assignFree
  iterate 60 (try (any_goals (first | with_reducible assumption | with_reducible apply keeps_ite | with_reducible apply keeps_ite_snd | with_reducible apply clearQuad_keeps | (with_reducible apply keeps_foldl <;> [skip; intro _ _ _]) | split | extract_lets | (apply keeps_eq; with_reducible assumption) | dsimp -zeta only | with_reducible apply keeps_mk)))

theorem moveQueuesDma_keeps {s0 : State} (s : State) (old new : Keycut) (ds : List Delta) (hk : Keeps s0 s) : Keeps s0 (moveQueuesDma s old new ds) := by
  unfold moveQueuesDma
  iterate 60 (try (any_goals (first | with_reducible assumption | with_reducible apply keeps_ite | with_reducible apply keeps_ite_snd | with_reducible apply modKr_keeps | with_reducible apply fldSet_keeps | (with_reducible apply keeps_foldl <;> [skip; intro _ _ _]) | split | extract_lets | (apply keeps_eq; with_reducible assumption) | dsimp -zeta only | with_reducible apply keeps_mk)))

theorem moveSources_keeps {s0 : State} (s : State) (old new : Keycut) (hk : Keeps s0 s) : Keeps s0 (moveSources s old new) := by
  unfold moveSources
  iterate 60 (try (any_goals (first | with_reducible assumption | with_reducible apply keeps_ite | with_reducible apply keeps_ite_snd | (with_reducible apply keeps_foldl <;> [skip; intro _ _ _]) | split | extract_lets | (apply keeps_eq; with_reducible assumption) | dsimp -zeta only | with_reducible apply keeps_mk)))

theorem boundary_keeps {s0 : State} (s : State) (t0 t1 : Bool) (ds : List Delta) (hk : Keeps s0 s) : Keeps s0 (boundary s t0 t1 ds) := by
  unfold boundary
  iterate 60 (try (any_goals (first | with_reducible assumption | with_reducible apply keeps_ite | with_reducible apply keeps_ite_snd | with_reducible apply moveSources_keeps | with_reducible apply moveQueuesDma_keeps | with_reducible apply assignFree_keeps | with_reducible apply comePresent_keeps | with_reducible apply judgeModes_keeps | with_reducible apply moveBitsWays_keeps | with_reducible apply movePages_keeps | with_reducible apply moveDrbgs_keeps | with_reducible apply dropAbsent_keeps | with_reducible apply modPlane_keeps | with_reducible apply settle_keeps | with_reducible apply promoteTaken_keeps | with_reducible apply audit_keeps | (with_reducible apply keeps_foldl <;> [skip; intro _ _ _]) | split | extract_lets | (apply keeps_eq; with_reducible assumption) | dsimp -zeta only | with_reducible apply keeps_mk)))

theorem commitBoundary_keeps {s0 : State} (s : State) (hk : Keeps s0 s) : Keeps s0 (commitBoundary s) := by
  unfold commitBoundary
  iterate 60 (try (any_goals (first | with_reducible assumption | with_reducible apply keeps_ite | with_reducible apply keeps_ite_snd | with_reducible apply boundary_keeps | with_reducible apply nextCommit_keeps | with_reducible apply modPlane_keeps | (with_reducible apply keeps_foldl <;> [skip; intro _ _ _]) | split | extract_lets | (apply keeps_eq; with_reducible assumption) | dsimp -zeta only | with_reducible apply keeps_mk)))

theorem abandonCommit_keeps {s0 : State} (s : State) (hk : Keeps s0 s) : Keeps s0 (abandonCommit s) := by
  unfold abandonCommit
  iterate 60 (try (any_goals (first | with_reducible assumption | with_reducible apply keeps_ite | with_reducible apply keeps_ite_snd | with_reducible apply failCommit_keeps | with_reducible apply modPlane_keeps | (with_reducible apply keeps_foldl <;> [skip; intro _ _ _]) | split | extract_lets | (apply keeps_eq; with_reducible assumption) | dsimp -zeta only | with_reducible apply keeps_mk)))

theorem blankResult_keeps {s0 : State} (s : State) (t port : Nat) (v : Word) (late : Bool) (hk : Keeps s0 s) : Keeps s0 (blankResult s t port v late) := by
  unfold blankResult
  iterate 60 (try (any_goals (first | with_reducible assumption | with_reducible apply keeps_ite | with_reducible apply keeps_ite_snd | with_reducible apply settle_keeps | with_reducible apply report_keeps | with_reducible apply putThr_keeps | (with_reducible apply keeps_foldl <;> [skip; intro _ _ _]) | split | extract_lets | (apply keeps_eq; with_reducible assumption) | dsimp -zeta only | with_reducible apply keeps_mk)))

theorem blankLoad_keeps {s0 : State} (s : State) (k : Nat) (hk : Keeps s0 s) : Keeps s0 (blankLoad s k) := by
  unfold blankLoad
  iterate 60 (try (any_goals (first | with_reducible assumption | with_reducible apply keeps_ite | with_reducible apply keeps_ite_snd | with_reducible apply settle_keeps | with_reducible apply modKr_keeps | with_reducible apply rawThr_keeps | (with_reducible apply keeps_foldl <;> [skip; intro _ _ _]) | split | extract_lets | (apply keeps_eq; with_reducible assumption) | dsimp -zeta only | with_reducible apply keeps_mk)))

theorem execTurnDelta_keeps (p : Fin 256) (va : BitVec 56) (s : State) : Goes s (execTurnDelta p va s) :=
  ⟨_, rfl, turnDeltaWrite_keeps _ _ _ (Keeps.refl s)⟩

theorem execDeltaVerifyDone_keeps (p : Fin 256) (s : State) : Goes s (execDeltaVerifyDone p s) :=
  ⟨_, rfl, keeps_ite (Keeps.refl s) (deltaVerified_keeps _ _ (Keeps.refl s))⟩

theorem execTurnSetOpen_keeps (p : Fin 256) (s : State) : Goes s (execTurnSetOpen p s) :=
  ⟨_, rfl, turnSetWrite_keeps _ _ _ (Keeps.refl s)⟩

theorem execTurnSetClose_keeps (p : Fin 256) (s : State) : Goes s (execTurnSetClose p s) :=
  ⟨_, rfl, turnSetWrite_keeps _ _ _ (Keeps.refl s)⟩

theorem execTurnSetDiscard_keeps (p : Fin 256) (s : State) : Goes s (execTurnSetDiscard p s) :=
  ⟨_, rfl, turnSetWrite_keeps _ _ _ (Keeps.refl s)⟩

theorem execTurnCommit_keeps (p : Fin 256) (s : State) : Goes s (execTurnCommit p s) :=
  ⟨_, rfl, turnCommitWrite_keeps _ _ (Keeps.refl s)⟩

theorem execModeChangeToFree_keeps (c : Fin 128) (s : State) : Goes s (execModeChangeToFree c s) :=
  ⟨_, rfl, keeps_ite (modCyl_keeps _ _ _ (Keeps.refl s)) (Keeps.refl s)⟩

theorem execBlankResult_keeps (t : Fin 2048) (port : Fin 64) (v : Word) (late : Bool) (s : State) : Goes s (execBlankResult t port v late s) :=
  ⟨_, rfl, blankResult_keeps _ _ _ _ _ (Keeps.refl s)⟩

theorem execBlankScrub_keeps (k : Fin 16) (mismatch : Bool) (s : State) : Goes s (execBlankScrub k mismatch s) :=
  ⟨_, rfl, keeps_ite (report_keeps _ _ _ _ _ _ (Keeps.refl s)) (Keeps.refl s)⟩

theorem execBlankImageLoad_keeps (k : Fin 16) (s : State) : Goes s (execBlankImageLoad k s) :=
  ⟨_, rfl, blankLoad_keeps _ _ (Keeps.refl s)⟩

/-! ### Agree -/

theorem putAgree_keeps {s0 : State} (s : State) (a : Option Agreement) (hk : Keeps s0 s) : Keeps s0 (putAgree s a) := by
  unfold putAgree
  iterate 60 (try (any_goals (first | with_reducible assumption | with_reducible apply keeps_ite | with_reducible apply keeps_ite_snd | (with_reducible apply keeps_foldl <;> [skip; intro _ _ _]) | split | extract_lets | (apply keeps_eq; with_reducible assumption) | dsimp -zeta only | with_reducible apply keeps_mk)))

theorem putOutcome_keeps {s0 : State} (s : State) (turn o : Nat) (hk : Keeps s0 s) : Keeps s0 (putOutcome s turn o) := by
  unfold putOutcome
  iterate 60 (try (any_goals (first | with_reducible assumption | with_reducible apply keeps_ite | with_reducible apply keeps_ite_snd | (with_reducible apply keeps_foldl <;> [skip; intro _ _ _]) | split | extract_lets | (apply keeps_eq; with_reducible assumption) | dsimp -zeta only | with_reducible apply keeps_mk)))

theorem sendEach_keeps {s0 : State} (s : State) (ms : List Nat) (mtype : Nat) (body : Bytes) (hk : Keeps s0 s) : Keeps s0 (sendEach s ms mtype body) := by
  unfold sendEach
  iterate 60 (try (any_goals (first | with_reducible assumption | with_reducible apply keeps_ite | with_reducible apply keeps_ite_snd | with_reducible apply sendMsg_keeps | (with_reducible apply keeps_foldl <;> [skip; intro _ _ _]) | split | extract_lets | (apply keeps_eq; with_reducible assumption) | dsimp -zeta only | with_reducible apply keeps_mk)))

theorem received_keeps {s0 : State} (s : State) (m cls : Nat) (hk : Keeps s0 s) : Keeps s0 (received s m cls) :=
  sendAck_keeps _ _ _ (modPair_keeps _ _ _ hk)

theorem failAgreement_keeps {s0 : State} (s : State) (a : Agreement) (hk : Keeps s0 s) : Keeps s0 (failAgreement s a) := by
  unfold failAgreement
  iterate 60 (try (any_goals (first | with_reducible assumption | with_reducible apply keeps_ite | with_reducible apply keeps_ite_snd | with_reducible apply sendEach_keeps | with_reducible apply putOutcome_keeps | with_reducible apply putAgree_keeps | with_reducible apply failCommit_keeps | with_reducible apply nextCommit_keeps | (with_reducible apply keeps_foldl <;> [skip; intro _ _ _]) | split | extract_lets | (apply keeps_eq; with_reducible assumption) | dsimp -zeta only | with_reducible apply keeps_mk)))

theorem drainEnds_keeps {s0 : State} (s : State) (c : Commit) (hk : Keeps s0 s) : Keeps s0 (drainEnds s c) := by
  unfold drainEnds
  iterate 60 (try (any_goals (first | with_reducible assumption | with_reducible apply keeps_ite | with_reducible apply keeps_ite_snd | with_reducible apply sendEach_keeps | with_reducible apply putAgree_keeps | with_reducible apply commitBoundary_keeps | with_reducible apply modPlane_keeps | (with_reducible apply keeps_foldl <;> [skip; intro _ _ _]) | split | extract_lets | (apply keeps_eq; with_reducible assumption) | dsimp -zeta only | with_reducible apply keeps_mk)))

theorem castVote_keeps {s0 : State} (s : State) (a : Agreement) (hk : Keeps s0 s) : Keeps s0 (castVote s a) := by
  unfold castVote
  iterate 60 (try (any_goals (first | with_reducible assumption | with_reducible apply keeps_ite | with_reducible apply keeps_ite_snd | with_reducible apply putAgree_keeps | with_reducible apply untake_keeps | with_reducible apply sendMsg_keeps | with_reducible apply freeWord_keeps | (with_reducible apply keeps_foldl <;> [skip; intro _ _ _]) | split | extract_lets | (apply keeps_eq; with_reducible assumption) | dsimp -zeta only | with_reducible apply keeps_mk)))

theorem voteNo_keeps {s0 : State} (s : State) (m turn : Nat) (hk : Keeps s0 s) : Keeps s0 (voteNo s m turn) := by
  unfold voteNo
  iterate 60 (try (any_goals (first | with_reducible assumption | with_reducible apply keeps_ite | with_reducible apply keeps_ite_snd | with_reducible apply sendMsg_keeps | with_reducible apply freeWord_keeps | (with_reducible apply keeps_foldl <;> [skip; intro _ _ _]) | split | extract_lets | (apply keeps_eq; with_reducible assumption) | dsimp -zeta only | with_reducible apply keeps_mk)))

theorem takeUp_keeps {s0 : State} (s : State) (m turn : Nat) (k e : Bytes) (hk : Keeps s0 s) : Keeps s0 (takeUp s m turn k e) := by
  unfold takeUp
  iterate 60 (try (any_goals (first | with_reducible assumption | with_reducible apply keeps_ite | with_reducible apply keeps_ite_snd | with_reducible apply castVote_keeps | with_reducible apply putAgree_keeps | with_reducible apply takeSets_keeps | (with_reducible apply keeps_foldl <;> [skip; intro _ _ _]) | split | extract_lets | (apply keeps_eq; with_reducible assumption) | dsimp -zeta only | with_reducible apply keeps_mk)))

theorem proposed_keeps {s0 : State} (s : State) (m turn : Nat) (k e : Bytes) (hk : Keeps s0 s) : Keeps s0 (proposed s m turn k e) := by
  unfold proposed
  iterate 60 (try (any_goals (first | with_reducible assumption | with_reducible apply keeps_ite | with_reducible apply keeps_ite_snd | with_reducible apply takeUp_keeps | with_reducible apply voteNo_keeps | with_reducible apply sendEach_keeps | with_reducible apply putAgree_keeps | with_reducible apply failCommit_keeps | (with_reducible apply keeps_foldl <;> [skip; intro _ _ _]) | split | extract_lets | (apply keeps_eq; with_reducible assumption) | dsimp -zeta only | with_reducible apply keeps_mk)))

theorem applyAgreed_keeps {s0 : State} (s : State) (a : Agreement) (hk : Keeps s0 s) : Keeps s0 (applyAgreed s a) := by
  unfold applyAgreed
  iterate 60 (try (any_goals (first | with_reducible assumption | with_reducible apply keeps_ite | with_reducible apply keeps_ite_snd | with_reducible apply putOutcome_keeps | with_reducible apply putAgree_keeps | with_reducible apply boundary_keeps | with_reducible apply nextCommit_keeps | with_reducible apply auditTurn_keeps | with_reducible apply sendMsg_keeps | (with_reducible apply keeps_foldl <;> [skip; intro _ _ _]) | split | extract_lets | (apply keeps_eq; with_reducible assumption) | dsimp -zeta only | with_reducible apply keeps_mk)))

theorem abortAgreed_keeps {s0 : State} (s : State) (a : Agreement) (hk : Keeps s0 s) : Keeps s0 (abortAgreed s a) :=
  nextCommit_keeps _ (putAgree_keeps _ _ (untake_keeps _ (putOutcome_keeps _ _ _ hk)))

theorem countVote_keeps {s0 : State} (s : State) (m turn : Nat) (yes : Bool) (hk : Keeps s0 s) : Keeps s0 (countVote s m turn yes) := by
  unfold countVote
  iterate 60 (try (any_goals (first | with_reducible assumption | with_reducible apply keeps_ite | with_reducible apply keeps_ite_snd | with_reducible apply failAgreement_keeps | with_reducible apply sendEach_keeps | with_reducible apply putAgree_keeps | with_reducible apply modPlane_keeps | (with_reducible apply keeps_foldl <;> [skip; intro _ _ _]) | split | extract_lets | (apply keeps_eq; with_reducible assumption) | dsimp -zeta only | with_reducible apply keeps_mk)))

theorem countDone_keeps {s0 : State} (s : State) (m turn : Nat) (hk : Keeps s0 s) : Keeps s0 (countDone s m turn) := by
  unfold countDone
  iterate 60 (try (any_goals (first | with_reducible assumption | with_reducible apply keeps_ite | with_reducible apply keeps_ite_snd | with_reducible apply putOutcome_keeps | with_reducible apply putAgree_keeps | with_reducible apply commitBoundary_keeps | (with_reducible apply keeps_foldl <;> [skip; intro _ _ _]) | split | extract_lets | (apply keeps_eq; with_reducible assumption) | dsimp -zeta only | with_reducible apply keeps_mk)))

theorem learnState_keeps {s0 : State} (s : State) (m turn o : Nat) (hk : Keeps s0 s) : Keeps s0 (learnState s m turn o) := by
  unfold learnState
  iterate 60 (try (any_goals (first | with_reducible assumption | with_reducible apply keeps_ite | with_reducible apply keeps_ite_snd | with_reducible apply abortAgreed_keeps | with_reducible apply applyAgreed_keeps | with_reducible apply putAgree_keeps | (with_reducible apply keeps_foldl <;> [skip; intro _ _ _]) | split | extract_lets | (apply keeps_eq; with_reducible assumption) | dsimp -zeta only | with_reducible apply keeps_mk)))

theorem turnDrains_keeps {s0 : State} (s : State) (hk : Keeps s0 s) : Keeps s0 (turnDrains s) := by
  unfold turnDrains
  iterate 60 (try (any_goals (first | with_reducible assumption | with_reducible apply keeps_ite | with_reducible apply keeps_ite_snd | with_reducible apply castVote_keeps | with_reducible apply drainEnds_keeps | (with_reducible apply keeps_foldl <;> [skip; intro _ _ _]) | split | extract_lets | (apply keeps_eq; with_reducible assumption) | dsimp -zeta only | with_reducible apply keeps_mk)))

theorem drainLimit_keeps {s0 : State} (s : State) (hk : Keeps s0 s) : Keeps s0 (drainLimit s) := by
  unfold drainLimit
  iterate 60 (try (any_goals (first | with_reducible assumption | with_reducible apply keeps_ite | with_reducible apply keeps_ite_snd | with_reducible apply turnDrains_keeps | with_reducible apply failAgreement_keeps | with_reducible apply drainMoving_keeps | with_reducible apply discardOld_keeps | (with_reducible apply keeps_foldl <;> [skip; intro _ _ _]) | split | extract_lets | (apply keeps_eq; with_reducible assumption) | dsimp -zeta only | with_reducible apply keeps_mk)))

theorem onMessage_keeps {s0 : State} (s : State) (m cls : Nat) (f : State → State) (hf : ∀ s, Keeps s0 s → Keeps s0 (f s)) (hk : Keeps s0 s) :
    Keeps s0 (onMessage s m cls f) := by
  unfold onMessage
  exact keeps_ite (hf _ (received_keeps _ _ _ hk)) hk

theorem execQuery_keeps (m : Fin 8) (turn : Nat) (s : State) : Goes s (execQuery m turn s) := by
  have hk := Keeps.refl s
  unfold execQuery
  (try extract_lets)
  refine ⟨_, rfl, ?_⟩
  iterate 30 (try (any_goals (first | with_reducible assumption | with_reducible apply keeps_ite | with_reducible apply onMessage_keeps | with_reducible apply sendMsg_keeps | (with_reducible apply keeps_foldl <;> [skip; intro _ _ _]) | intro _ _ | split | extract_lets | dsimp -zeta only | with_reducible apply keeps_mk)))

theorem execVoteOutcomeTimeout_keeps (s : State) : Goes s (execVoteOutcomeTimeout s) := by
  have hk := Keeps.refl s
  unfold execVoteOutcomeTimeout
  (try extract_lets)
  refine ⟨_, rfl, ?_⟩
  iterate 30 (try (any_goals (first | with_reducible assumption | with_reducible apply keeps_ite | with_reducible apply sendEach_keeps | with_reducible apply putAgree_keeps | (with_reducible apply keeps_foldl <;> [skip; intro _ _ _]) | intro _ _ | split | extract_lets | dsimp -zeta only | with_reducible apply keeps_mk)))

/-! ### Intake -/

theorem takeToken_keeps {s0 : State} (s : State) (p c : Nat) (hk : Keeps s0 s) : Keeps s0 (takeToken s p c).2 := by
  unfold takeToken
  iterate 60 (try (any_goals (first | with_reducible assumption | with_reducible apply keeps_ite | with_reducible apply keeps_ite_snd | (with_reducible apply keeps_foldl <;> [skip; intro _ _ _]) | split | extract_lets | (apply keeps_eq; with_reducible assumption) | dsimp -zeta only | with_reducible apply keeps_mk)))

theorem answerBusy_keeps {s0 : State} (s : State) (a : Arriving) (tenant q : Nat) (hk : Keeps s0 s) : Keeps s0 (answerBusy s a tenant q) := by
  unfold answerBusy
  iterate 60 (try (any_goals (first | with_reducible assumption | with_reducible apply keeps_ite | with_reducible apply keeps_ite_snd | with_reducible apply storeResp_keeps | with_reducible apply freeWord_keeps | with_reducible apply bump_keeps | (with_reducible apply keeps_foldl <;> [skip; intro _ _ _]) | split | extract_lets | (apply keeps_eq; with_reducible assumption) | dsimp -zeta only | with_reducible apply keeps_mk)))

theorem takeIn_keeps {s0 : State} (s : State) (a : Arriving) (hk : Keeps s0 s) : Keeps s0 (takeIn s a).2 := by
  unfold takeIn
  iterate 60 (try (any_goals (first | with_reducible assumption | with_reducible apply keeps_ite | with_reducible apply keeps_ite_snd | with_reducible apply answerBusy_keeps | with_reducible apply takeToken_keeps | with_reducible apply dropCmd_keeps | with_reducible apply judgeHigh_keeps | with_reducible apply modCq_keeps | (with_reducible apply keeps_foldl <;> [skip; intro _ _ _]) | split | extract_lets | (apply keeps_eq; with_reducible assumption) | dsimp -zeta only | with_reducible apply keeps_mk)))

theorem arrive_keeps {s0 : State} (s : State) (a : Arriving) (lane : Nat) (mgmt pf0 : Bool) (own : Bool) (hk : Keeps s0 s) : Keeps s0 (arrive s a lane mgmt pf0 own).2 := by
  unfold arrive
  iterate 60 (try (any_goals (first | with_reducible assumption | with_reducible apply keeps_ite | with_reducible apply keeps_ite_snd | with_reducible apply takeIn_keeps | with_reducible apply bump_keeps | (with_reducible apply keeps_foldl <;> [skip; intro _ _ _]) | split | extract_lets | (apply keeps_eq; with_reducible assumption) | dsimp -zeta only | with_reducible apply keeps_mk)))

theorem dispatchHead_keeps {s0 : State} (s : State) (q : Nat) (parity : Bool) (hk : Keeps s0 s) : Keeps s0 (dispatchHead s q parity) := by
  unfold dispatchHead
  iterate 60 (try (any_goals (first | with_reducible assumption | with_reducible apply keeps_ite | with_reducible apply keeps_ite_snd | with_reducible apply dropCmd_keeps | with_reducible apply freeLines_keeps | with_reducible apply modCq_keeps | with_reducible apply report_keeps | with_reducible apply wakeThr_keeps | with_reducible apply modThr_keeps | (with_reducible apply keeps_foldl <;> [skip; intro _ _ _]) | split | extract_lets | (apply keeps_eq; with_reducible assumption) | dsimp -zeta only | with_reducible apply keeps_mk)))

theorem fallOne_keeps {s0 : State} (s : State) (t : Nat) (hk : Keeps s0 s) : Keeps s0 (fallOne s t) := by
  unfold fallOne
  iterate 60 (try (any_goals (first | with_reducible assumption | with_reducible apply keeps_ite | with_reducible apply keeps_ite_snd | with_reducible apply answerRelease_keeps | with_reducible apply putThr_keeps | (with_reducible apply keeps_foldl <;> [skip; intro _ _ _]) | split | extract_lets | (apply keeps_eq; with_reducible assumption) | dsimp -zeta only | with_reducible apply keeps_mk)))

theorem lateHead_keeps {s0 : State} (s : State) (q : Nat) (hk : Keeps s0 s) : Keeps s0 (lateHead s q) := by
  unfold lateHead
  iterate 60 (try (any_goals (first | with_reducible assumption | with_reducible apply keeps_ite | with_reducible apply keeps_ite_snd | with_reducible apply answerRelease_keeps | with_reducible apply modCq_keeps | (with_reducible apply keeps_foldl <;> [skip; intro _ _ _]) | split | extract_lets | (apply keeps_eq; with_reducible assumption) | dsimp -zeta only | with_reducible apply keeps_mk)))

theorem landBytes_keeps {s0 : State} (s : State) (t a : Nat) (b : Bytes) (hk : Keeps s0 s) : Keeps s0 (landBytes s t a b) := by
  unfold landBytes
  iterate 60 (try (any_goals (first | with_reducible assumption | with_reducible apply keeps_ite | with_reducible apply keeps_ite_snd | with_reducible apply storeUse_keeps | with_reducible apply storeAt_keeps | (with_reducible apply keeps_foldl <;> [skip; intro _ _ _]) | split | extract_lets | (apply keeps_eq; with_reducible assumption) | dsimp -zeta only | with_reducible apply keeps_mk)))

theorem land_keeps {s0 : State} (s : State) (t : Nat) (bad : List Nat) (hk : Keeps s0 s) : Keeps s0 (land s t bad) := by
  unfold land
  iterate 60 (try (any_goals (first | with_reducible assumption | with_reducible apply keeps_ite | with_reducible apply keeps_ite_snd | with_reducible apply landBytes_keeps | with_reducible apply settle_keeps | with_reducible apply dropCmd_keeps | with_reducible apply freeLines_keeps | with_reducible apply report_keeps | with_reducible apply modThr_keeps | (with_reducible apply keeps_foldl <;> [skip; intro _ _ _]) | split | extract_lets | (apply keeps_eq; with_reducible assumption) | dsimp -zeta only | with_reducible apply keeps_mk)))

theorem respond_keeps {s0 : State} (s : State) (t k : Nat) (hk : Keeps s0 s) : Keeps s0 (respond s t k) := by
  unfold respond
  iterate 60 (try (any_goals (first | with_reducible assumption | with_reducible apply keeps_ite | with_reducible apply keeps_ite_snd | with_reducible apply storeResp_keeps | with_reducible apply bump_keeps | (with_reducible apply keeps_foldl <;> [skip; intro _ _ _]) | split | extract_lets | (apply keeps_eq; with_reducible assumption) | dsimp -zeta only | with_reducible apply keeps_mk)))

theorem queDone_keeps {s0 : State} (s : State) (t act k : Nat) (hk : Keeps s0 s) : Keeps s0 (queDone s t act k) := by
  unfold queDone
  iterate 60 (try (any_goals (first | with_reducible assumption | with_reducible apply keeps_ite | with_reducible apply keeps_ite_snd | with_reducible apply respond_keeps | with_reducible apply rewindCmd_keeps | with_reducible apply releaseCmd_keeps | with_reducible apply bump_keeps | (with_reducible apply keeps_foldl <;> [skip; intro _ _ _]) | split | extract_lets | (apply keeps_eq; with_reducible assumption) | dsimp -zeta only | with_reducible apply keeps_mk)))

theorem dropSession_keeps {s0 : State} (s : State) (n : Nat) (hk : Keeps s0 s) : Keeps s0 (dropSession s n) :=
  modSess_keeps _ _ _ hk

theorem sendFrame_keeps {s0 : State} (s : State) (n ty : Nat) (cmdh body : Bytes) (hk : Keeps s0 s) : Keeps s0 (sendFrame s n ty cmdh body) := by
  unfold sendFrame
  iterate 60 (try (any_goals (first | with_reducible assumption | with_reducible apply keeps_ite | with_reducible apply keeps_ite_snd | with_reducible apply dropSession_keeps | with_reducible apply modSess_keeps | with_reducible apply emit_keeps | (with_reducible apply keeps_foldl <;> [skip; intro _ _ _]) | split | extract_lets | (apply keeps_eq; with_reducible assumption) | dsimp -zeta only | with_reducible apply keeps_mk)))

theorem modRing_keeps {s0 : State} (s : State) (q : Nat) (f : Ring → Ring) (hk : Keeps s0 s) : Keeps s0 (modRing s q f) := by
  unfold modRing
  iterate 60 (try (any_goals (first | with_reducible assumption | with_reducible apply keeps_ite | with_reducible apply keeps_ite_snd | (with_reducible apply keeps_foldl <;> [skip; intro _ _ _]) | split | extract_lets | (apply keeps_eq; with_reducible assumption) | dsimp -zeta only | with_reducible apply keeps_mk)))

theorem msixDue_keeps {s0 : State} (s : State) (q : Nat) (hk : Keeps s0 s) : Keeps s0 (msixDue s q) := by
  unfold msixDue
  iterate 60 (try (any_goals (first | with_reducible assumption | with_reducible apply keeps_ite | with_reducible apply keeps_ite_snd | with_reducible apply modRing_keeps | with_reducible apply emit_keeps | (with_reducible apply keeps_foldl <;> [skip; intro _ _ _]) | split | extract_lets | (apply keeps_eq; with_reducible assumption) | dsimp -zeta only | with_reducible apply keeps_mk)))

theorem countResponse_keeps {s0 : State} (s : State) (q : Nat) (hk : Keeps s0 s) : Keeps s0 (countResponse s q) := by
  unfold countResponse
  iterate 60 (try (any_goals (first | with_reducible assumption | with_reducible apply keeps_ite | with_reducible apply keeps_ite_snd | with_reducible apply msixDue_keeps | with_reducible apply modRing_keeps | (with_reducible apply keeps_foldl <;> [skip; intro _ _ _]) | split | extract_lets | (apply keeps_eq; with_reducible assumption) | dsimp -zeta only | with_reducible apply keeps_mk)))

theorem ringWrite_keeps {s0 : State} (s : State) (q : Nat) (r : Resp) (bad : Bool) (hk : Keeps s0 s) : Keeps s0 (ringWrite s q r bad) := by
  unfold ringWrite
  iterate 60 (try (any_goals (first | with_reducible assumption | with_reducible apply keeps_ite | with_reducible apply keeps_ite_snd | with_reducible apply countResponse_keeps | with_reducible apply emit_keeps | with_reducible apply fldSet_keeps | (with_reducible apply keeps_foldl <;> [skip; intro _ _ _]) | split | extract_lets | (apply keeps_eq; with_reducible assumption) | dsimp -zeta only | with_reducible apply keeps_mk)))

theorem sendHead_keeps {s0 : State} (s : State) (q : Nat) (parity : Bool) (hk : Keeps s0 s) : Keeps s0 (sendHead s q parity) := by
  unfold sendHead
  iterate 60 (try (any_goals (first | with_reducible assumption | with_reducible apply keeps_ite | with_reducible apply keeps_ite_snd | with_reducible apply ringWrite_keeps | with_reducible apply sendFrame_keeps | with_reducible apply setSmbAlert_keeps | with_reducible apply dropResp_keeps | with_reducible apply modRq_keeps | with_reducible apply report_keeps | with_reducible apply bump_keeps | (with_reducible apply keeps_foldl <;> [skip; intro _ _ _]) | split | extract_lets | (apply keeps_eq; with_reducible assumption) | dsimp -zeta only | with_reducible apply keeps_mk)))

theorem moderationTimer_keeps {s0 : State} (s : State) (q : Nat) (hk : Keeps s0 s) : Keeps s0 (moderationTimer s q) := by
  unfold moderationTimer
  iterate 60 (try (any_goals (first | with_reducible assumption | with_reducible apply keeps_ite | with_reducible apply keeps_ite_snd | with_reducible apply msixDue_keeps | (with_reducible apply keeps_foldl <;> [skip; intro _ _ _]) | split | extract_lets | (apply keeps_eq; with_reducible assumption) | dsimp -zeta only | with_reducible apply keeps_mk)))

theorem crossPush_keeps {s0 : State} (s : State) (x : Nat) (w : Word) (last : Bool) (hk : Keeps s0 s) : Keeps s0 (crossPush s x w last) := by
  unfold crossPush
  iterate 60 (try (any_goals (first | with_reducible assumption | with_reducible apply keeps_ite | with_reducible apply keeps_ite_snd | with_reducible apply bump_keeps | (with_reducible apply keeps_foldl <;> [skip; intro _ _ _]) | split | extract_lets | (apply keeps_eq; with_reducible assumption) | dsimp -zeta only | with_reducible apply keeps_mk)))

theorem crossPop_keeps {s0 : State} (s : State) (x : Nat) (hk : Keeps s0 s) : Keeps s0 (crossPop s x) := by
  unfold crossPop
  iterate 60 (try (any_goals (first | with_reducible assumption | with_reducible apply keeps_ite | with_reducible apply keeps_ite_snd | (with_reducible apply keeps_foldl <;> [skip; intro _ _ _]) | split | extract_lets | (apply keeps_eq; with_reducible assumption) | dsimp -zeta only | with_reducible apply keeps_mk)))

theorem modTlm_keeps {s0 : State} (s : State) (j : Nat) (f : TlmQueue → TlmQueue) (hk : Keeps s0 s) : Keeps s0 (modTlm s j f) := by
  unfold modTlm
  iterate 60 (try (any_goals (first | with_reducible assumption | with_reducible apply keeps_ite | with_reducible apply keeps_ite_snd | (with_reducible apply keeps_foldl <;> [skip; intro _ _ _]) | split | extract_lets | (apply keeps_eq; with_reducible assumption) | dsimp -zeta only | with_reducible apply keeps_mk)))

theorem tlmItem_fresh_keeps {s0 : State} (j : Nat) (source : Byte) (words : List Word) (done : Bool) (s : State) (q : TlmQueue)
    (hk : Keeps s0 s) : Keeps s0 (tlmItem.fresh j source words done s q) := by
  unfold tlmItem.fresh
  extract_lets
  apply keeps_ite
  · exact modTlm_keeps _ _ _ hk
  · exact bump_keeps _ _ _ _ _ _ (modTlm_keeps _ _ _ hk)

theorem tlmItem_keeps {s0 : State} (s : State) (j : Nat) (source : Byte) (words : List Word) (done : Bool) (hk : Keeps s0 s) : Keeps s0 (tlmItem s j source words done) := by
  unfold tlmItem
  iterate 60 (try (any_goals (first | with_reducible assumption | with_reducible apply keeps_ite | with_reducible apply keeps_ite_snd | with_reducible apply tlmItem_fresh_keeps | with_reducible apply modTlm_keeps | with_reducible apply bump_keeps | (with_reducible apply keeps_foldl <;> [skip; intro _ _ _]) | dsimp only | split | (apply keeps_eq; with_reducible assumption) | dsimp -zeta only | with_reducible apply keeps_mk)))

theorem tlmDrain_keeps {s0 : State} (s : State) (j : Nat) (parity : Bool) (hk : Keeps s0 s) : Keeps s0 (tlmDrain s j parity) := by
  unfold tlmDrain
  iterate 60 (try (any_goals (first | with_reducible assumption | with_reducible apply keeps_ite | with_reducible apply keeps_ite_snd | with_reducible apply modTlm_keeps | with_reducible apply report_keeps | with_reducible apply storeAt_keeps | with_reducible apply fldSet_keeps | (with_reducible apply keeps_foldl <;> [skip; intro _ _ _]) | split | extract_lets | (apply keeps_eq; with_reducible assumption) | dsimp -zeta only | with_reducible apply keeps_mk)))

theorem tlmFlush_keeps {s0 : State} (s : State) (p j : Nat) (hk : Keeps s0 s) : Keeps s0 (tlmFlush s p j) := by
  unfold tlmFlush
  iterate 60 (try (any_goals (first | with_reducible assumption | with_reducible apply keeps_ite | with_reducible apply keeps_ite_snd | with_reducible apply modTlm_keeps | with_reducible apply bump_keeps | (with_reducible apply keeps_foldl <;> [skip; intro _ _ _]) | split | extract_lets | (apply keeps_eq; with_reducible assumption) | dsimp -zeta only | with_reducible apply keeps_mk)))

theorem execDispatch_keeps (q : Fin 1024) (parityError : Bool) (s : State) : Goes s (execDispatch q parityError s) :=
  ⟨_, rfl, dispatchHead_keeps _ _ _ (Keeps.refl s)⟩

theorem execInboxFall_keeps (t : Fin 2048) (s : State) : Goes s (execInboxFall t s) :=
  ⟨_, rfl, fallOne_keeps _ _ (Keeps.refl s)⟩

theorem execLandingComplete_keeps (t : Fin 2048) (badWords : List Nat) (s : State) : Goes s (execLandingComplete t badWords s) :=
  ⟨_, rfl, land_keeps _ _ _ (Keeps.refl s)⟩

theorem execDeadlineExpiry_keeps (q : Fin 1024) (s : State) : Goes s (execDeadlineExpiry q s) :=
  ⟨_, rfl, lateHead_keeps _ _ (Keeps.refl s)⟩

theorem execRelease_keeps (t : Fin 2048) (s : State) : Goes s (execRelease t s) :=
  ⟨_, rfl, queDone_keeps _ _ _ _ (Keeps.refl s)⟩

theorem execRewind_keeps (t : Fin 2048) (s : State) : Goes s (execRewind t s) :=
  ⟨_, rfl, queDone_keeps _ _ _ _ (Keeps.refl s)⟩

theorem execRespond_keeps (t : Fin 2048) (k : Fin 4) (s : State) : Goes s (execRespond t k s) :=
  ⟨_, rfl, queDone_keeps _ _ _ _ (Keeps.refl s)⟩

theorem execRespondAndRelease_keeps (t : Fin 2048) (k : Fin 4) (s : State) : Goes s (execRespondAndRelease t k s) :=
  ⟨_, rfl, queDone_keeps _ _ _ _ (Keeps.refl s)⟩

theorem execResponseSend_keeps (q : Fin 1024) (parityError : Bool) (s : State) : Goes s (execResponseSend q parityError s) :=
  ⟨_, rfl, sendHead_keeps _ _ _ (Keeps.refl s)⟩

theorem execMsixModerationTimer_keeps (q : Fin 1024) (s : State) : Goes s (execMsixModerationTimer q s) :=
  ⟨_, rfl, moderationTimer_keeps _ _ (Keeps.refl s)⟩

theorem execHoldNMinLow_keeps (g : Fin 8) (s : State) : Goes s (execHoldNMinLow g s) := by
  have hk := Keeps.refl s
  unfold execHoldNMinLow
  (try extract_lets)
  refine ⟨_, rfl, ?_⟩
  iterate 30 (try (any_goals (first | with_reducible assumption | with_reducible apply keeps_ite | with_reducible apply setHolds_keeps | (with_reducible apply keeps_foldl <;> [skip; intro _ _ _]) | intro _ _ | split | extract_lets | dsimp -zeta only | with_reducible apply keeps_mk)))

theorem execPfcRefresh_keeps (port : Fin 2) (prio : Option (Fin 8)) (s : State) : Goes s (execPfcRefresh port prio s) := by
  have hk := Keeps.refl s
  unfold execPfcRefresh
  (try extract_lets)
  refine ⟨_, rfl, ?_⟩
  iterate 30 (try (any_goals (first | with_reducible assumption | with_reducible apply keeps_ite | with_reducible apply flow_keeps | with_reducible apply emit_keeps | (with_reducible apply keeps_foldl <;> [skip; intro _ _ _]) | intro _ _ | split | extract_lets | dsimp -zeta only | with_reducible apply keeps_mk)))

theorem execCrossingPush_keeps (x : Fin 10) (w : Word) (lastOfFrame : Bool) (s : State) : Goes s (execCrossingPush x w lastOfFrame s) :=
  ⟨_, rfl, crossPush_keeps _ _ _ _ (Keeps.refl s)⟩

theorem execCrossingPop_keeps (x : Fin 10) (s : State) : Goes s (execCrossingPop x s) :=
  ⟨_, rfl, crossPop_keeps _ _ (Keeps.refl s)⟩

theorem execTelemetryItem_keeps (j : Fin 16) (source : Byte) (words : List Word) (done : Bool) (s : State) : Goes s (execTelemetryItem j source words done s) :=
  ⟨_, rfl, tlmItem_keeps _ _ _ _ _ (Keeps.refl s)⟩

theorem execTelemetryDrain_keeps (j : Fin 16) (parityError : Bool) (s : State) : Goes s (execTelemetryDrain j parityError s) :=
  ⟨_, rfl, tlmDrain_keeps _ _ _ (Keeps.refl s)⟩

theorem execQueTlmFlush_keeps (p : Fin 256) (j : Fin 16) (s : State) : Goes s (execQueTlmFlush p j s) :=
  ⟨_, rfl, tlmFlush_keeps _ _ _ (Keeps.refl s)⟩

theorem execQueTcons_keeps (p : Fin 256) (j : Fin 16) (v : Word) (s : State) : Goes s (execQueTcons p j v s) :=
  ⟨_, rfl, keeps_ite (plainWrite_keeps _ _ _ _ (Keeps.refl s)) (Keeps.refl s)⟩

/-! ### Fabric -/

theorem setLane_keeps {s0 : State} (s : State) (l st : Nat) (hk : Keeps s0 s) : Keeps s0 (setLane s l st) :=
  fldSet_keeps _ _ _ _ _ _ hk

theorem flushCrossing_keeps {s0 : State} (s : State) (x : Nat) (hk : Keeps s0 s) : Keeps s0 (flushCrossing s x) := by
  unfold flushCrossing
  iterate 60 (try (any_goals (first | with_reducible assumption | with_reducible apply keeps_ite | with_reducible apply keeps_ite_snd | with_reducible apply bump_keeps | (with_reducible apply keeps_foldl <;> [skip; intro _ _ _]) | split | extract_lets | (apply keeps_eq; with_reducible assumption) | dsimp -zeta only | with_reducible apply keeps_mk)))

theorem setXsat_keeps {s0 : State} (s : State) (d : Nat) (hk : Keeps s0 s) : Keeps s0 (setXsat s d) :=
  setBits_keeps _ _ _ _ hk

theorem flushDomain_keeps {s0 : State} (s : State) (d : Nat) (hk : Keeps s0 s) : Keeps s0 (flushDomain s d) := by
  unfold flushDomain
  iterate 60 (try (any_goals (first | with_reducible assumption | with_reducible apply keeps_ite | with_reducible apply keeps_ite_snd | with_reducible apply setXsat_keeps | with_reducible apply flushCrossing_keeps | with_reducible apply modDom_keeps | (with_reducible apply keeps_foldl <;> [skip; intro _ _ _]) | split | extract_lets | (apply keeps_eq; with_reducible assumption) | dsimp -zeta only | with_reducible apply keeps_mk)))

theorem resetDomain_keeps {s0 : State} (s : State) (d : Nat) (hk : Keeps s0 s) : Keeps s0 (resetDomain s d) := by
  unfold resetDomain
  iterate 60 (try (any_goals (first | with_reducible assumption | with_reducible apply keeps_ite | with_reducible apply keeps_ite_snd | with_reducible apply flushDomain_keeps | with_reducible apply modDom_keeps | (with_reducible apply keeps_foldl <;> [skip; intro _ _ _]) | split | extract_lets | (apply keeps_eq; with_reducible assumption) | dsimp -zeta only | with_reducible apply keeps_mk)))

theorem downDomain_keeps {s0 : State} (s : State) (d : Nat) (hk : Keeps s0 s) : Keeps s0 (downDomain s d) :=
  domDown_keeps _ _ (flushDomain_keeps _ _ hk)

theorem countEvents_keeps {s0 : State} (s : State) (d n : Nat) (hk : Keeps s0 s) : Keeps s0 (countEvents s d n) := by
  unfold countEvents
  iterate 60 (try (any_goals (first | with_reducible assumption | with_reducible apply keeps_ite | with_reducible apply keeps_ite_snd | with_reducible apply setXsat_keeps | with_reducible apply received_keeps | with_reducible apply modDom_keeps | (with_reducible apply keeps_foldl <;> [skip; intro _ _ _]) | split | extract_lets | (apply keeps_eq; with_reducible assumption) | dsimp -zeta only | with_reducible apply keeps_mk)))

theorem forceStall_keeps {s0 : State} (s : State) (d : Nat) (inward : Bool) (part : Nat) (hk : Keeps s0 s) : Keeps s0 (forceStall s d inward part) := by
  unfold forceStall
  iterate 60 (try (any_goals (first | with_reducible assumption | with_reducible apply keeps_ite | with_reducible apply keeps_ite_snd | with_reducible apply setXsat_keeps | with_reducible apply report_keeps | with_reducible apply modDom_keeps | with_reducible apply bump_keeps | with_reducible apply fldSet_keeps | (with_reducible apply keeps_foldl <;> [skip; intro _ _ _]) | split | extract_lets | (apply keeps_eq; with_reducible assumption) | dsimp -zeta only | with_reducible apply keeps_mk)))

theorem countDown_keeps {s0 : State} (s : State) (hk : Keeps s0 s) : Keeps s0 (countDown s) :=
  bump_keeps _ _ _ _ _ _ hk

theorem arbXmodeWrite_keeps {s0 : State} (s : State) (p : Nat) (v : Word) (hk : Keeps s0 s) : Keeps s0 (arbXmodeWrite s p v) :=
  keeps_ite hk (plainWrite_keeps _ _ _ _ hk)

theorem execArbiterDraw_keeps (a : Nat) (contestants : List Nat) (s : State) : Goes s (execArbiterDraw a contestants s) := by
  have hk := Keeps.refl s
  unfold execArbiterDraw
  (try extract_lets)
  refine ⟨_, rfl, ?_⟩
  iterate 30 (try (any_goals (first | with_reducible assumption | with_reducible apply keeps_ite | with_reducible apply drawArb_keeps | (with_reducible apply keeps_foldl <;> [skip; intro _ _ _]) | intro _ _ | split | extract_lets | dsimp -zeta only | with_reducible apply keeps_mk)))

theorem execEventCountCrossing_keeps (d : Fin 26) (events : Nat) (s : State) : Goes s (execEventCountCrossing d events s) :=
  ⟨_, rfl, countEvents_keeps _ _ _ (Keeps.refl s)⟩

theorem execStallWatchExpiry_keeps (d : Fin 26) (inward : Bool) (part : Byte) (s : State) : Goes s (execStallWatchExpiry d inward part s) :=
  ⟨_, rfl, forceStall_keeps _ _ _ _ (Keeps.refl s)⟩

theorem execDomainReset_keeps (d : Fin 26) (s : State) : Goes s (execDomainReset d s) :=
  ⟨_, rfl, keeps_ite (Keeps.refl s) (resetDomain_keeps _ _ (Keeps.refl s))⟩

theorem execArbXmode_keeps (p : Fin 256) (v : Word) (s : State) : Goes s (execArbXmode p v s) :=
  ⟨_, rfl, arbXmodeWrite_keeps _ _ _ (Keeps.refl s)⟩

/-! ### Quiet -/

theorem dropLink_keeps {s0 : State} (s : State) (l : Nat) (hk : Keeps s0 s) : Keeps s0 (dropLink s l) := by
  unfold dropLink
  iterate 60 (try (any_goals (first | with_reducible assumption | with_reducible apply keeps_ite | with_reducible apply keeps_ite_snd | with_reducible apply downDomain_keeps | with_reducible apply setLane_keeps | with_reducible apply modLink_keeps | (with_reducible apply keeps_foldl <;> [skip; intro _ _ _]) | split | extract_lets | (apply keeps_eq; with_reducible assumption) | dsimp -zeta only | with_reducible apply keeps_mk)))

theorem quietOutputs_keeps {s0 : State} (s : State) (cause : Nat) (hk : Keeps s0 s) : Keeps s0 (quietOutputs s cause) := by
  unfold quietOutputs
  iterate 60 (try (any_goals (first | with_reducible assumption | with_reducible apply keeps_ite | with_reducible apply keeps_ite_snd | with_reducible apply dropLink_keeps | with_reducible apply downDomain_keeps | with_reducible apply setLane_keeps | with_reducible apply setHolds_keeps | with_reducible apply emit_keeps | (with_reducible apply keeps_foldl <;> [skip; intro _ _ _]) | split | extract_lets | (apply keeps_eq; with_reducible assumption) | dsimp -zeta only | with_reducible apply keeps_mk)))

theorem quietItems_keeps {s0 : State} (s : State) (hk : Keeps s0 s) : Keeps s0 (quietItems s) := by
  unfold quietItems
  iterate 60 (try (any_goals (first | with_reducible assumption | with_reducible apply keeps_ite | with_reducible apply keeps_ite_snd | with_reducible apply endCmds_keeps | with_reducible apply modRq_keeps | (with_reducible apply keeps_foldl <;> [skip; intro _ _ _]) | split | extract_lets | (apply keeps_eq; with_reducible assumption) | dsimp -zeta only | with_reducible apply keeps_mk)))

theorem quietThread_keeps {s0 : State} (s : State) (t : Nat) (hk : Keeps s0 s) : Keeps s0 (quietThread s t) := by
  unfold quietThread
  iterate 60 (try (any_goals (first | with_reducible assumption | with_reducible apply keeps_ite | with_reducible apply keeps_ite_snd | with_reducible apply drainThr_keeps | with_reducible apply freezeNow_keeps | with_reducible apply interrupt_keeps | with_reducible apply modCyl_keeps | with_reducible apply modThr_keeps | (with_reducible apply keeps_foldl <;> [skip; intro _ _ _]) | split | extract_lets | (apply keeps_eq; with_reducible assumption) | dsimp -zeta only | with_reducible apply keeps_mk)))

theorem quietJobs_keeps {s0 : State} (s : State) (hk : Keeps s0 s) : Keeps s0 (quietJobs s) := by
  unfold quietJobs
  iterate 60 (try (any_goals (first | with_reducible assumption | with_reducible apply keeps_ite | with_reducible apply keeps_ite_snd | with_reducible apply endJobs_keeps | with_reducible apply modEng_keeps | (with_reducible apply keeps_foldl <;> [skip; intro _ _ _]) | split | extract_lets | (apply keeps_eq; with_reducible assumption) | dsimp -zeta only | with_reducible apply keeps_mk)))

theorem quietSessions_keeps {s0 : State} (s : State) (hk : Keeps s0 s) : Keeps s0 (quietSessions s) := by
  unfold quietSessions
  iterate 60 (try (any_goals (first | with_reducible assumption | with_reducible apply keeps_ite | with_reducible apply keeps_ite_snd | with_reducible apply dropSession_keeps | (with_reducible apply keeps_foldl <;> [skip; intro _ _ _]) | split | extract_lets | (apply keeps_eq; with_reducible assumption) | dsimp -zeta only | with_reducible apply keeps_mk)))

theorem quietBoot_keeps {s0 : State} (s : State) (cause : Nat) (hk : Keeps s0 s) : Keeps s0 (quietBoot s cause) := by
  unfold quietBoot
  iterate 60 (try (any_goals (first | with_reducible assumption | with_reducible apply keeps_ite | with_reducible apply keeps_ite_snd | (with_reducible apply keeps_foldl <;> [skip; intro _ _ _]) | split | extract_lets | (apply keeps_eq; with_reducible assumption) | dsimp -zeta only | with_reducible apply keeps_mk)))

theorem enterQuiet_keeps {s0 : State} (s : State) (cause : Nat) (hk : Keeps s0 s) : Keeps s0 (enterQuiet s cause) := by
  unfold enterQuiet
  iterate 60 (try (any_goals (first | with_reducible assumption | with_reducible apply keeps_ite | with_reducible apply keeps_ite_snd | with_reducible apply quietBoot_keeps | with_reducible apply quietSessions_keeps | with_reducible apply quietJobs_keeps | with_reducible apply quietThread_keeps | with_reducible apply quietItems_keeps | with_reducible apply quietOutputs_keeps | with_reducible apply putAgree_keeps | with_reducible apply abandonCommit_keeps | with_reducible apply untake_keeps | with_reducible apply endDebug_keeps | with_reducible apply settle_keeps | with_reducible apply audit_keeps | (with_reducible apply keeps_foldl <;> [skip; intro _ _ _]) | split | extract_lets | (apply keeps_eq; with_reducible assumption) | dsimp -zeta only | with_reducible apply keeps_mk)))

theorem quietSettle_keeps {s0 : State} (s : State) (hk : Keeps s0 s) : Keeps s0 (quietSettle s) := by
  unfold quietSettle
  iterate 60 (try (any_goals (first | with_reducible assumption | with_reducible apply keeps_ite | with_reducible apply keeps_ite_snd | with_reducible apply enterQuiet_keeps | (with_reducible apply keeps_foldl <;> [skip; intro _ _ _]) | split | extract_lets | (apply keeps_eq; with_reducible assumption) | dsimp -zeta only | with_reducible apply keeps_mk)))

theorem execQuietEnter_keeps (p : Fin 256) (s : State) : Goes s (execQuietEnter p s) :=
  ⟨_, rfl, keeps_ite (enterQuiet_keeps _ _ (Keeps.refl s)) (Keeps.refl s)⟩

theorem execOutcomeUnknownTimeout_keeps (s : State) : Goes s (execOutcomeUnknownTimeout s) := by
  have hk := Keeps.refl s
  unfold execOutcomeUnknownTimeout
  (try extract_lets)
  refine ⟨_, rfl, ?_⟩
  iterate 30 (try (any_goals (first | with_reducible assumption | with_reducible apply keeps_ite | with_reducible apply enterQuiet_keeps | (with_reducible apply keeps_foldl <;> [skip; intro _ _ _]) | intro _ _ | split | extract_lets | dsimp -zeta only | with_reducible apply keeps_mk)))

theorem execQuietUartLine_keeps (s : State) : Goes s (execQuietUartLine s) :=
  ⟨_, rfl, keeps_ite (emit_keeps _ _ (Keeps.refl s)) (Keeps.refl s)⟩

/-! ### Faults -/

theorem keepRetirement_keeps {s0 : State} (s : State) (cls ix : Nat) (hk : Keeps s0 s) : Keeps s0 (keepRetirement s cls ix) := by
  unfold keepRetirement
  iterate 60 (try (any_goals (first | with_reducible assumption | with_reducible apply keeps_ite | with_reducible apply keeps_ite_snd | with_reducible apply quietCause_keeps | (with_reducible apply keeps_foldl <;> [skip; intro _ _ _]) | split | extract_lets | (apply keeps_eq; with_reducible assumption) | dsimp -zeta only | with_reducible apply keeps_mk)))

theorem setUnit_keeps {s0 : State} (s : State) (cls ix st : Nat) (hk : Keeps s0 s) : Keeps s0 (setUnit s cls ix st) :=
  modUnit_keeps _ _ _ _ hk

theorem retireThread_keeps {s0 : State} (s : State) (t : Nat) (hk : Keeps s0 s) : Keeps s0 (retireThread s t) := by
  unfold retireThread
  iterate 60 (try (any_goals (first | with_reducible assumption | with_reducible apply keeps_ite | with_reducible apply keeps_ite_snd | with_reducible apply drainThr_keeps | with_reducible apply dropActive_keeps | with_reducible apply rewindItems_keeps | with_reducible apply endSeats_keeps | with_reducible apply modThr_keeps | with_reducible apply putThr_keeps | (with_reducible apply keeps_foldl <;> [skip; intro _ _ _]) | split | extract_lets | (apply keeps_eq; with_reducible assumption) | dsimp -zeta only | with_reducible apply keeps_mk)))

theorem retireCyl_keeps {s0 : State} (s : State) (c : Nat) (hk : Keeps s0 s) : Keeps s0 (retireCyl s c) := by
  unfold retireCyl
  iterate 60 (try (any_goals (first | with_reducible assumption | with_reducible apply keeps_ite | with_reducible apply keeps_ite_snd | with_reducible apply retireThread_keeps | with_reducible apply setUnit_keeps | with_reducible apply keepRetirement_keeps | with_reducible apply quietCause_keeps | with_reducible apply modCyl_keeps | (with_reducible apply keeps_foldl <;> [skip; intro _ _ _]) | split | extract_lets | (apply keeps_eq; with_reducible assumption) | dsimp -zeta only | with_reducible apply keeps_mk)))

theorem retireWay_keeps {s0 : State} (s : State) (ix : Nat) (hk : Keeps s0 s) : Keeps s0 (retireWay s ix) := by
  unfold retireWay
  iterate 60 (try (any_goals (first | with_reducible assumption | with_reducible apply keeps_ite | with_reducible apply keeps_ite_snd | with_reducible apply setUnit_keeps | with_reducible apply keepRetirement_keeps | with_reducible apply modKr_keeps | (with_reducible apply keeps_foldl <;> [skip; intro _ _ _]) | split | extract_lets | (apply keeps_eq; with_reducible assumption) | dsimp -zeta only | with_reducible apply keeps_mk)))

theorem retireBank_keeps {s0 : State} (s : State) (b : Nat) (hk : Keeps s0 s) : Keeps s0 (retireBank s b) := by
  unfold retireBank
  iterate 60 (try (any_goals (first | with_reducible assumption | with_reducible apply keeps_ite | with_reducible apply keeps_ite_snd | with_reducible apply setUnit_keeps | with_reducible apply keepRetirement_keeps | with_reducible apply quietCause_keeps | with_reducible apply modUnit_keeps | (with_reducible apply keeps_foldl <;> [skip; intro _ _ _]) | split | extract_lets | (apply keeps_eq; with_reducible assumption) | dsimp -zeta only | with_reducible apply keeps_mk)))

theorem retireRow_keeps {s0 : State} (s : State) (ix : Nat) (hk : Keeps s0 s) : Keeps s0 (retireRow s ix) := by
  unfold retireRow
  iterate 60 (try (any_goals (first | with_reducible assumption | with_reducible apply keeps_ite | with_reducible apply keeps_ite_snd | with_reducible apply setUnit_keeps | with_reducible apply keepRetirement_keeps | with_reducible apply quietCause_keeps | (with_reducible apply keeps_foldl <;> [skip; intro _ _ _]) | split | extract_lets | (apply keeps_eq; with_reducible assumption) | dsimp -zeta only | with_reducible apply keeps_mk)))

theorem retireDram_keeps {s0 : State} (s : State) (ch : Nat) (pr : Probe) (hk : Keeps s0 s) : Keeps s0 (retireDram s ch pr) := by
  unfold retireDram
  iterate 60 (try (any_goals (first | with_reducible assumption | with_reducible apply keeps_ite | with_reducible apply keeps_ite_snd | with_reducible apply setUnit_keeps | with_reducible apply quietCause_keeps | with_reducible apply errKnock_keeps | (with_reducible apply keeps_foldl <;> [skip; intro _ _ _]) | split | extract_lets | (apply keeps_eq; with_reducible assumption) | dsimp -zeta only | with_reducible apply keeps_mk)))

theorem retireMesh_keeps {s0 : State} (s : State) (ix : Nat) (hk : Keeps s0 s) : Keeps s0 (retireMesh s ix) :=
  keeps_ite (keepRetirement_keeps _ _ _ (modUnit_keeps _ _ _ _ hk)) (quietCause_keeps _ _ (setUnit_keeps _ _ _ _ hk))

theorem retireDomain_keeps {s0 : State} (s : State) (d : Nat) (hk : Keeps s0 s) : Keeps s0 (retireDomain s d) := by
  unfold retireDomain
  iterate 60 (try (any_goals (first | with_reducible assumption | with_reducible apply keeps_ite | with_reducible apply keeps_ite_snd | with_reducible apply setUnit_keeps | with_reducible apply keepRetirement_keeps | with_reducible apply setLane_keeps | with_reducible apply domDown_keeps | with_reducible apply quietCause_keeps | (with_reducible apply keeps_foldl <;> [skip; intro _ _ _]) | split | extract_lets | (apply keeps_eq; with_reducible assumption) | dsimp -zeta only | with_reducible apply keeps_mk)))

theorem retireLane_keeps {s0 : State} (s : State) (l : Nat) (hk : Keeps s0 s) : Keeps s0 (retireLane s l) := by
  unfold retireLane
  iterate 60 (try (any_goals (first | with_reducible assumption | with_reducible apply keeps_ite | with_reducible apply keeps_ite_snd | with_reducible apply setUnit_keeps | with_reducible apply keepRetirement_keeps | with_reducible apply setLane_keeps | with_reducible apply modDom_keeps | (with_reducible apply keeps_foldl <;> [skip; intro _ _ _]) | split | extract_lets | (apply keeps_eq; with_reducible assumption) | dsimp -zeta only | with_reducible apply keeps_mk)))

theorem retireUnit_keeps {s0 : State} (s : State) (cls ix : Nat) (pr : Probe) (hk : Keeps s0 s) : Keeps s0 (retireUnit s cls ix pr) := by
  unfold retireUnit
  iterate 60 (try (any_goals (first | with_reducible assumption | with_reducible apply keeps_ite | with_reducible apply keeps_ite_snd | with_reducible apply retireLane_keeps | with_reducible apply retireDomain_keeps | with_reducible apply retireMesh_keeps | with_reducible apply retireDram_keeps | with_reducible apply retireRow_keeps | with_reducible apply retireBank_keeps | with_reducible apply retireWay_keeps | with_reducible apply retireCyl_keeps | with_reducible apply setUnit_keeps | with_reducible apply keepRetirement_keeps | with_reducible apply retireEngine_keeps | with_reducible apply quietCause_keeps | with_reducible apply modKr_keeps | (with_reducible apply keeps_foldl <;> [skip; intro _ _ _]) | split | extract_lets | (apply keeps_eq; with_reducible assumption) | dsimp -zeta only | with_reducible apply keeps_mk)))

theorem restoreUnit_keeps {s0 : State} (s : State) (cls ix : Nat) (hk : Keeps s0 s) : Keeps s0 (restoreUnit s cls ix) := by
  unfold restoreUnit
  iterate 60 (try (any_goals (first | with_reducible assumption | with_reducible apply keeps_ite | with_reducible apply keeps_ite_snd | with_reducible apply resetDomain_keeps | with_reducible apply releaseThr_keeps | with_reducible apply redecide_keeps | with_reducible apply modEng_keeps | (with_reducible apply keeps_foldl <;> [skip; intro _ _ _]) | split | extract_lets | (apply keeps_eq; with_reducible assumption) | dsimp -zeta only | with_reducible apply keeps_mk)))

theorem verdict_keeps {s0 : State} (s : State) (cls ix : Nat) (pr : Probe) (v : Nat) (hk : Keeps s0 s) : Keeps s0 (verdict s cls ix pr v) := by
  unfold verdict
  iterate 60 (try (any_goals (first | with_reducible assumption | with_reducible apply keeps_ite | with_reducible apply keeps_ite_snd | with_reducible apply restoreUnit_keeps | with_reducible apply retireUnit_keeps | with_reducible apply settle_keeps | with_reducible apply errKnock_keeps | with_reducible apply audit_keeps | with_reducible apply modUnit_keeps | (with_reducible apply keeps_foldl <;> [skip; intro _ _ _]) | split | extract_lets | (apply keeps_eq; with_reducible assumption) | dsimp -zeta only | with_reducible apply keeps_mk)))

theorem probeEnds_keeps {s0 : State} (s : State) (cls ix : Nat) (passed : Bool) (hk : Keeps s0 s) : Keeps s0 (probeEnds s cls ix passed) := by
  unfold probeEnds
  iterate 60 (try (any_goals (first | with_reducible assumption | with_reducible apply keeps_ite | with_reducible apply keeps_ite_snd | with_reducible apply verdict_keeps | (with_reducible apply keeps_foldl <;> [skip; intro _ _ _]) | split | extract_lets | (apply keeps_eq; with_reducible assumption) | dsimp -zeta only | with_reducible apply keeps_mk)))

theorem probeExpires_keeps {s0 : State} (s : State) (cls ix : Nat) (hk : Keeps s0 s) : Keeps s0 (probeExpires s cls ix) := by
  unfold probeExpires
  iterate 60 (try (any_goals (first | with_reducible assumption | with_reducible apply keeps_ite | with_reducible apply keeps_ite_snd | with_reducible apply verdict_keeps | (with_reducible apply keeps_foldl <;> [skip; intro _ _ _]) | split | extract_lets | (apply keeps_eq; with_reducible assumption) | dsimp -zeta only | with_reducible apply keeps_mk)))

theorem blowRetirement_keeps {s0 : State} (s : State) (hk : Keeps s0 s) : Keeps s0 (blowRetirement s) := by
  unfold blowRetirement
  split
  · exact hk
  · apply keeps_ite _ hk
    exact keeps_fuses hk ⟨id, fun h => ⟨h, Nat.le_refl _, Nat.le_refl _⟩, Nat.le_refl _, Nat.le_refl _,
      ⟨id, fun _ => Nat.le_refl _⟩, List.prefix_append _ _⟩ rfl rfl rfl

theorem lineOutcome_keeps {s0 : State} (s : State) (line : Nat) (o : EccOutcome) (hk : Keeps s0 s) : Keeps s0 (lineOutcome s line o) := by
  unfold lineOutcome
  iterate 60 (try (any_goals (first | with_reducible assumption | with_reducible apply keeps_ite | with_reducible apply keeps_ite_snd | with_reducible apply report_keeps | with_reducible apply errKnock_keeps | with_reducible apply audit_keeps | (with_reducible apply keeps_foldl <;> [skip; intro _ _ _]) | split | extract_lets | (apply keeps_eq; with_reducible assumption) | dsimp -zeta only | with_reducible apply keeps_mk)))

theorem selfProbe_keeps {s0 : State} (s : State) (cls ix : Nat) (hk : Keeps s0 s) : Keeps s0 (selfProbe s cls ix) := by
  unfold selfProbe
  iterate 60 (try (any_goals (first | with_reducible assumption | with_reducible apply keeps_ite | with_reducible apply keeps_ite_snd | with_reducible apply underProbe_keeps | with_reducible apply modUnit_keeps | (with_reducible apply keeps_foldl <;> [skip; intro _ _ _]) | split | extract_lets | (apply keeps_eq; with_reducible assumption) | dsimp -zeta only | with_reducible apply keeps_mk)))

theorem startSelftest_keeps {s0 : State} (s : State) (p : Nat) (hk : Keeps s0 s) : Keeps s0 (startSelftest s p) := by
  unfold startSelftest
  iterate 60 (try (any_goals (first | with_reducible assumption | with_reducible apply keeps_ite | with_reducible apply keeps_ite_snd | with_reducible apply selfProbe_keeps | (with_reducible apply keeps_foldl <;> [skip; intro _ _ _]) | split | extract_lets | (apply keeps_eq; with_reducible assumption) | dsimp -zeta only | with_reducible apply keeps_mk)))

theorem endSelftest_keeps {s0 : State} (s : State) (hk : Keeps s0 s) : Keeps s0 (endSelftest s) := by
  unfold endSelftest
  iterate 60 (try (any_goals (first | with_reducible assumption | with_reducible apply keeps_ite | with_reducible apply keeps_ite_snd | (with_reducible apply keeps_foldl <;> [skip; intro _ _ _]) | split | extract_lets | (apply keeps_eq; with_reducible assumption) | dsimp -zeta only | with_reducible apply keeps_mk)))

theorem execProbeVerdict_keeps (cls : Fin 16) (index : Nat) (passed : Bool) (s : State) : Goes s (execProbeVerdict cls index passed s) :=
  ⟨_, rfl, quietSettle_keeps _ (probeEnds_keeps _ _ _ _ (Keeps.refl s))⟩

theorem execProbeTimeout_keeps (cls : Fin 16) (index : Nat) (s : State) : Goes s (execProbeTimeout cls index s) :=
  ⟨_, rfl, quietSettle_keeps _ (probeExpires_keeps _ _ _ (Keeps.refl s))⟩

theorem execRetirementFuseBlow_keeps (s : State) : Goes s (execRetirementFuseBlow s) :=
  ⟨_, rfl, blowRetirement_keeps _ (Keeps.refl s)⟩

theorem execDramScrub_keeps (line : Nat) (o : EccOutcome) (s : State) : Goes s (execDramScrub line o s) :=
  ⟨_, rfl, keeps_ite (lineOutcome_keeps _ _ _ (Keeps.refl s)) (Keeps.refl s)⟩

theorem execTrngHealthFail_keeps (s : State) : Goes s (execTrngHealthFail s) := by
  have hk := Keeps.refl s
  unfold execTrngHealthFail
  (try extract_lets)
  refine ⟨_, rfl, ?_⟩
  iterate 30 (try (any_goals (first | with_reducible assumption | with_reducible apply keeps_ite | with_reducible apply report_keeps | (with_reducible apply keeps_foldl <;> [skip; intro _ _ _]) | intro _ _ | split | extract_lets | dsimp -zeta only | with_reducible apply keeps_mk)))

theorem execQuietSelftest_keeps (p : Fin 256) (s : State) : Goes s (execQuietSelftest p s) :=
  ⟨_, rfl, startSelftest_keeps _ _ (Keeps.refl s)⟩

theorem execSelftestDone_keeps (s : State) : Goes s (execSelftestDone s) :=
  ⟨_, rfl, endSelftest_keeps _ (Keeps.refl s)⟩

end Sys2Proof.Machine
end

