-- ==== Sys2Proof/Laws/KeepsJobs.lean ====
section
/-! SUPPORT. The engines' operations: each function keeps the relation of `Laws/Keeps.lean`, and each command of these
files answers a next state that it holds for. -/

set_option linter.all false
set_option linter.unusedTactic false
set_option linter.unreachableTactic false

namespace Sys2Proof.Machine

/-! ### AesJobs -/

theorem opEcb_ok (n : Nat) (u : KeyUse) (f : Bytes → Bytes → Bytes) : OpKeeps (opEcb n u f) := by
  constructor <;> intro s0 c s hk <;> dsimp only [opEcb, opPlain]
  iterate 20 (try (any_goals (first | exact hk | with_reducible assumption | with_reducible apply keeps_ite | with_reducible apply keeps_ite_snd | split | extract_lets | dsimp -zeta only)))

theorem opCbc_ok (n : Nat) (u : KeyUse) (enc : Bool) (f : Bytes → Bytes → Bytes) : OpKeeps (opCbc n u enc f) := by
  constructor <;> intro s0 c s hk <;> dsimp only [opCbc, opPlain]
  iterate 20 (try (any_goals (first | exact hk | with_reducible assumption | with_reducible apply keeps_ite | with_reducible apply keeps_ite_snd | split | extract_lets | dsimp -zeta only)))

theorem opCtr_ok  : OpKeeps (opCtr ) := by
  constructor <;> intro s0 c s hk <;> dsimp only [opCtr, opPlain]
  iterate 20 (try (any_goals (first | exact hk | with_reducible assumption | with_reducible apply keeps_ite | with_reducible apply keeps_ite_snd | split | extract_lets | dsimp -zeta only)))

theorem opGcmEnc_ok  : OpKeeps (opGcmEnc ) := by
  constructor <;> intro s0 c s hk <;> dsimp only [opGcmEnc, opPlain]
  iterate 20 (try (any_goals (first | exact hk | with_reducible assumption | with_reducible apply keeps_ite | with_reducible apply keeps_ite_snd | split | extract_lets | dsimp -zeta only)))

theorem opGcmDec_ok  : OpKeeps (opGcmDec ) := by
  constructor <;> intro s0 c s hk <;> dsimp only [opGcmDec, opPlain]
  iterate 20 (try (any_goals (first | exact hk | with_reducible assumption | with_reducible apply keeps_ite | with_reducible apply keeps_ite_snd | split | extract_lets | dsimp -zeta only)))

theorem opXts_ok (enc : Bool) : OpKeeps (opXts enc) := by
  constructor <;> intro s0 c s hk <;> dsimp only [opXts, opPlain]
  iterate 20 (try (any_goals (first | exact hk | with_reducible assumption | with_reducible apply keeps_ite | with_reducible apply keeps_ite_snd | split | extract_lets | dsimp -zeta only)))

theorem opMacGen_ok (lo hi : Nat) (u : KeyUse) (extra : Desc → Bool) (f : Ctx → Bytes) : OpKeeps (opMacGen lo hi u extra f) := by
  constructor <;> intro s0 c s hk <;> dsimp only [opMacGen, opPlain]
  iterate 20 (try (any_goals (first | exact hk | with_reducible assumption | with_reducible apply keeps_ite | with_reducible apply keeps_ite_snd | split | extract_lets | dsimp -zeta only)))

theorem opMacVer_ok (lo hi : Nat) (u : KeyUse) (extra : Desc → Bool) (f : Ctx → Bytes) : OpKeeps (opMacVer lo hi u extra f) := by
  constructor <;> intro s0 c s hk <;> dsimp only [opMacVer, opPlain]
  iterate 20 (try (any_goals (first | exact hk | with_reducible assumption | with_reducible apply keeps_ite | with_reducible apply keeps_ite_snd | split | extract_lets | dsimp -zeta only)))

theorem wrapGuard_keeps {s0 : State} (c : Ctx) (s : State) (hk : Keeps s0 s) : Keeps s0 (wrapGuard c s).2 := by
  unfold wrapGuard
  iterate 60 (try (any_goals (first | with_reducible assumption | with_reducible apply keeps_ite | with_reducible apply keeps_ite_snd | with_reducible apply countGuard_keeps | (with_reducible apply keeps_foldl <;> [skip; intro _ _ _]) | split | extract_lets | (apply keeps_eq; with_reducible assumption) | dsimp -zeta only | with_reducible apply keeps_mk)))

theorem opKwpWrap_ok  : OpKeeps (opKwpWrap ) := by
  constructor <;> intro s0 c s hk <;> dsimp only [opKwpWrap, opPlain]
  iterate 20 (try (any_goals (first | exact hk | with_reducible assumption | with_reducible apply keeps_ite | with_reducible apply keeps_ite_snd | with_reducible apply wrapGuard_keeps | split | extract_lets | dsimp -zeta only)))

theorem opKwpUnwrap_ok  : OpKeeps (opKwpUnwrap ) := by
  constructor <;> intro s0 c s hk <;> dsimp only [opKwpUnwrap, opPlain]
  iterate 20 (try (any_goals (first | exact hk | with_reducible assumption | with_reducible apply keeps_ite | with_reducible apply keeps_ite_snd | split | extract_lets | dsimp -zeta only)))

theorem opClearImport_ok  : OpKeeps (opClearImport ) := by
  constructor <;> intro s0 c s hk <;> dsimp only [opClearImport, opPlain]
  iterate 20 (try (any_goals (first | exact hk | with_reducible assumption | with_reducible apply keeps_ite | with_reducible apply keeps_ite_snd | with_reducible apply countGuard_keeps | split | extract_lets | dsimp -zeta only)))

theorem execAesEcbEncrypt_keeps (e : Fin 144) (s : State) : Goes s (execAesEcbEncrypt e s) :=
  ⟨_, rfl, quietSettle_keeps _ (startJob_keeps _ _ _ _ (opEcb_ok _ _ _) (Keeps.refl s))⟩

theorem execAesEcbDecrypt_keeps (e : Fin 144) (s : State) : Goes s (execAesEcbDecrypt e s) :=
  ⟨_, rfl, quietSettle_keeps _ (startJob_keeps _ _ _ _ (opEcb_ok _ _ _) (Keeps.refl s))⟩

theorem execAesCbcEncrypt_keeps (e : Fin 144) (s : State) : Goes s (execAesCbcEncrypt e s) :=
  ⟨_, rfl, quietSettle_keeps _ (startJob_keeps _ _ _ _ (opCbc_ok _ _ _ _) (Keeps.refl s))⟩

theorem execAesCbcDecrypt_keeps (e : Fin 144) (s : State) : Goes s (execAesCbcDecrypt e s) :=
  ⟨_, rfl, quietSettle_keeps _ (startJob_keeps _ _ _ _ (opCbc_ok _ _ _ _) (Keeps.refl s))⟩

theorem execAesCtr_keeps (e : Fin 144) (s : State) : Goes s (execAesCtr e s) :=
  ⟨_, rfl, quietSettle_keeps _ (startJob_keeps _ _ _ _ (opCtr_ok) (Keeps.refl s))⟩

theorem execAesGcmEncrypt_keeps (e : Fin 144) (s : State) : Goes s (execAesGcmEncrypt e s) :=
  ⟨_, rfl, quietSettle_keeps _ (startJob_keeps _ _ _ _ (opGcmEnc_ok) (Keeps.refl s))⟩

theorem execAesGcmDecrypt_keeps (e : Fin 144) (s : State) : Goes s (execAesGcmDecrypt e s) :=
  ⟨_, rfl, quietSettle_keeps _ (startJob_keeps _ _ _ _ (opGcmDec_ok) (Keeps.refl s))⟩

theorem execAesXtsEncrypt_keeps (e : Fin 144) (s : State) : Goes s (execAesXtsEncrypt e s) :=
  ⟨_, rfl, quietSettle_keeps _ (startJob_keeps _ _ _ _ (opXts_ok _) (Keeps.refl s))⟩

theorem execAesXtsDecrypt_keeps (e : Fin 144) (s : State) : Goes s (execAesXtsDecrypt e s) :=
  ⟨_, rfl, quietSettle_keeps _ (startJob_keeps _ _ _ _ (opXts_ok _) (Keeps.refl s))⟩

theorem execAesCmacGenerate_keeps (e : Fin 144) (s : State) : Goes s (execAesCmacGenerate e s) :=
  ⟨_, rfl, quietSettle_keeps _ (startJob_keeps _ _ _ _ (opMacGen_ok _ _ _ _ _) (Keeps.refl s))⟩

theorem execAesCmacVerify_keeps (e : Fin 144) (s : State) : Goes s (execAesCmacVerify e s) :=
  ⟨_, rfl, quietSettle_keeps _ (startJob_keeps _ _ _ _ (opMacVer_ok _ _ _ _ _) (Keeps.refl s))⟩

theorem execKwpWrap_keeps (e : Fin 144) (s : State) : Goes s (execKwpWrap e s) :=
  ⟨_, rfl, quietSettle_keeps _ (startJob_keeps _ _ _ _ (opKwpWrap_ok) (Keeps.refl s))⟩

theorem execKwpUnwrap_keeps (e : Fin 144) (s : State) : Goes s (execKwpUnwrap e s) :=
  ⟨_, rfl, quietSettle_keeps _ (startJob_keeps _ _ _ _ (opKwpUnwrap_ok) (Keeps.refl s))⟩

theorem execClearImport_keeps (e : Fin 144) (s : State) : Goes s (execClearImport e s) :=
  ⟨_, rfl, quietSettle_keeps _ (startJob_keeps _ _ _ _ (opClearImport_ok) (Keeps.refl s))⟩

theorem execTdesEcbEncrypt_keeps (e : Fin 144) (s : State) : Goes s (execTdesEcbEncrypt e s) :=
  ⟨_, rfl, quietSettle_keeps _ (startJob_keeps _ _ _ _ (opEcb_ok _ _ _) (Keeps.refl s))⟩

theorem execTdesEcbDecrypt_keeps (e : Fin 144) (s : State) : Goes s (execTdesEcbDecrypt e s) :=
  ⟨_, rfl, quietSettle_keeps _ (startJob_keeps _ _ _ _ (opEcb_ok _ _ _) (Keeps.refl s))⟩

theorem execTdesCbcEncrypt_keeps (e : Fin 144) (s : State) : Goes s (execTdesCbcEncrypt e s) :=
  ⟨_, rfl, quietSettle_keeps _ (startJob_keeps _ _ _ _ (opCbc_ok _ _ _ _) (Keeps.refl s))⟩

theorem execTdesCbcDecrypt_keeps (e : Fin 144) (s : State) : Goes s (execTdesCbcDecrypt e s) :=
  ⟨_, rfl, quietSettle_keeps _ (startJob_keeps _ _ _ _ (opCbc_ok _ _ _ _) (Keeps.refl s))⟩

theorem execTdesCmacGenerate_keeps (e : Fin 144) (s : State) : Goes s (execTdesCmacGenerate e s) :=
  ⟨_, rfl, quietSettle_keeps _ (startJob_keeps _ _ _ _ (opMacGen_ok _ _ _ _ _) (Keeps.refl s))⟩

theorem execTdesCmacVerify_keeps (e : Fin 144) (s : State) : Goes s (execTdesCmacVerify e s) :=
  ⟨_, rfl, quietSettle_keeps _ (startJob_keeps _ _ _ _ (opMacVer_ok _ _ _ _ _) (Keeps.refl s))⟩

theorem execMacAlgorithm3Generate_keeps (e : Fin 144) (s : State) : Goes s (execMacAlgorithm3Generate e s) :=
  ⟨_, rfl, quietSettle_keeps _ (startJob_keeps _ _ _ _ (opMacGen_ok _ _ _ _ _) (Keeps.refl s))⟩

theorem execMacAlgorithm3Verify_keeps (e : Fin 144) (s : State) : Goes s (execMacAlgorithm3Verify e s) :=
  ⟨_, rfl, quietSettle_keeps _ (startJob_keeps _ _ _ _ (opMacVer_ok _ _ _ _ _) (Keeps.refl s))⟩

/-! ### KeccakJobs -/

theorem opHash_ok (r : Nat) (dom : Byte) (lenOk : Nat → Bool) : OpKeeps (opHash r dom lenOk) := by
  constructor <;> intro s0 c s hk <;> dsimp only [opHash, opPlain]
  iterate 20 (try (any_goals (first | exact hk | with_reducible assumption | with_reducible apply keeps_ite | with_reducible apply keeps_ite_snd | split | extract_lets | dsimp -zeta only)))

theorem opSha3_ok (n : Nat) : OpKeeps (opSha3 n) := by
  constructor <;> intro s0 c s hk <;> dsimp only [opSha3, opHash, opPlain]
  iterate 20 (try (any_goals (first | exact hk | with_reducible assumption | with_reducible apply keeps_ite | with_reducible apply keeps_ite_snd | split | extract_lets | dsimp -zeta only)))

theorem opShake_ok (bits : Nat) : OpKeeps (opShake bits) := by
  constructor <;> intro s0 c s hk <;> dsimp only [opShake, opHash, opPlain]
  iterate 20 (try (any_goals (first | exact hk | with_reducible assumption | with_reducible apply keeps_ite | with_reducible apply keeps_ite_snd | split | extract_lets | dsimp -zeta only)))

theorem opKmacGen_ok (bits : Nat) : OpKeeps (opKmacGen bits) := by
  constructor <;> intro s0 c s hk <;> dsimp only [opKmacGen, opPlain]
  iterate 20 (try (any_goals (first | exact hk | with_reducible assumption | with_reducible apply keeps_ite | with_reducible apply keeps_ite_snd | split | extract_lets | dsimp -zeta only)))

theorem opKmacVer_ok (bits : Nat) : OpKeeps (opKmacVer bits) := by
  constructor <;> intro s0 c s hk <;> dsimp only [opKmacVer, opPlain]
  iterate 20 (try (any_goals (first | exact hk | with_reducible assumption | with_reducible apply keeps_ite | with_reducible apply keeps_ite_snd | split | extract_lets | dsimp -zeta only)))

theorem opKmacDerive_ok  : OpKeeps (opKmacDerive ) := by
  constructor <;> intro s0 c s hk <;> dsimp only [opKmacDerive, opPlain]
  iterate 20 (try (any_goals (first | exact hk | with_reducible assumption | with_reducible apply keeps_ite | with_reducible apply keeps_ite_snd | split | extract_lets | dsimp -zeta only)))

theorem execSha3224_keeps (e : Fin 144) (s : State) : Goes s (execSha3224 e s) :=
  ⟨_, rfl, quietSettle_keeps _ (startJob_keeps _ _ _ _ (opSha3_ok _) (Keeps.refl s))⟩

theorem execSha3256_keeps (e : Fin 144) (s : State) : Goes s (execSha3256 e s) :=
  ⟨_, rfl, quietSettle_keeps _ (startJob_keeps _ _ _ _ (opSha3_ok _) (Keeps.refl s))⟩

theorem execSha3384_keeps (e : Fin 144) (s : State) : Goes s (execSha3384 e s) :=
  ⟨_, rfl, quietSettle_keeps _ (startJob_keeps _ _ _ _ (opSha3_ok _) (Keeps.refl s))⟩

theorem execSha3512_keeps (e : Fin 144) (s : State) : Goes s (execSha3512 e s) :=
  ⟨_, rfl, quietSettle_keeps _ (startJob_keeps _ _ _ _ (opSha3_ok _) (Keeps.refl s))⟩

theorem execShake128_keeps (e : Fin 144) (s : State) : Goes s (execShake128 e s) :=
  ⟨_, rfl, quietSettle_keeps _ (startJob_keeps _ _ _ _ (opShake_ok _) (Keeps.refl s))⟩

theorem execShake256_keeps (e : Fin 144) (s : State) : Goes s (execShake256 e s) :=
  ⟨_, rfl, quietSettle_keeps _ (startJob_keeps _ _ _ _ (opShake_ok _) (Keeps.refl s))⟩

theorem execKmac128Generate_keeps (e : Fin 144) (s : State) : Goes s (execKmac128Generate e s) :=
  ⟨_, rfl, quietSettle_keeps _ (startJob_keeps _ _ _ _ (opKmacGen_ok _) (Keeps.refl s))⟩

theorem execKmac128Verify_keeps (e : Fin 144) (s : State) : Goes s (execKmac128Verify e s) :=
  ⟨_, rfl, quietSettle_keeps _ (startJob_keeps _ _ _ _ (opKmacVer_ok _) (Keeps.refl s))⟩

theorem execKmac256Generate_keeps (e : Fin 144) (s : State) : Goes s (execKmac256Generate e s) :=
  ⟨_, rfl, quietSettle_keeps _ (startJob_keeps _ _ _ _ (opKmacGen_ok _) (Keeps.refl s))⟩

theorem execKmac256Verify_keeps (e : Fin 144) (s : State) : Goes s (execKmac256Verify e s) :=
  ⟨_, rfl, quietSettle_keeps _ (startJob_keeps _ _ _ _ (opKmacVer_ok _) (Keeps.refl s))⟩

theorem execKmac256Derivation_keeps (e : Fin 144) (s : State) : Goes s (execKmac256Derivation e s) :=
  ⟨_, rfl, quietSettle_keeps _ (startJob_keeps _ _ _ _ (opKmacDerive_ok) (Keeps.refl s))⟩

/-! ### PublicJobs -/

theorem opDsaKeyGen_ok  : OpKeeps (opDsaKeyGen ) := by
  constructor <;> intro s0 c s hk <;> dsimp only [opDsaKeyGen, withDraw, opPlain]
  iterate 20 (try (any_goals (first | exact hk | with_reducible assumption | with_reducible apply keeps_ite | with_reducible apply keeps_ite_snd | with_reducible apply drbgDraw_keeps | split | extract_lets | dsimp -zeta only)))

theorem opDsaSign_ok  : OpKeeps (opDsaSign ) := by
  constructor <;> intro s0 c s hk <;> dsimp only [opDsaSign, withDraw, opPlain]
  iterate 20 (try (any_goals (first | exact hk | with_reducible assumption | with_reducible apply keeps_ite | with_reducible apply keeps_ite_snd | with_reducible apply drbgDraw_keeps | split | extract_lets | dsimp -zeta only)))

theorem opDsaVerify_ok  : OpKeeps (opDsaVerify ) := by
  constructor <;> intro s0 c s hk <;> dsimp only [opDsaVerify, opPlain]
  iterate 20 (try (any_goals (first | exact hk | with_reducible assumption | with_reducible apply keeps_ite | with_reducible apply keeps_ite_snd | split | extract_lets | dsimp -zeta only)))

theorem opKemKeyGen_ok  : OpKeeps (opKemKeyGen ) := by
  constructor <;> intro s0 c s hk <;> dsimp only [opKemKeyGen, withDraw, opPlain]
  iterate 20 (try (any_goals (first | exact hk | with_reducible assumption | with_reducible apply keeps_ite | with_reducible apply keeps_ite_snd | with_reducible apply drbgDraw_keeps | split | extract_lets | dsimp -zeta only)))

theorem opKemEncap_ok  : OpKeeps (opKemEncap ) := by
  constructor <;> intro s0 c s hk <;> dsimp only [opKemEncap, withDraw, opPlain]
  iterate 20 (try (any_goals (first | exact hk | with_reducible assumption | with_reducible apply keeps_ite | with_reducible apply keeps_ite_snd | with_reducible apply drbgDraw_keeps | split | extract_lets | dsimp -zeta only)))

theorem opKemDecap_ok  : OpKeeps (opKemDecap ) := by
  constructor <;> intro s0 c s hk <;> dsimp only [opKemDecap, opPlain]
  iterate 20 (try (any_goals (first | exact hk | with_reducible assumption | with_reducible apply keeps_ite | with_reducible apply keeps_ite_snd | split | extract_lets | dsimp -zeta only)))

theorem opRsaSign_ok  : OpKeeps (opRsaSign ) := by
  constructor <;> intro s0 c s hk <;> dsimp only [opRsaSign, withDraw, opPlain]
  iterate 20 (try (any_goals (first | exact hk | with_reducible assumption | with_reducible apply keeps_ite | with_reducible apply keeps_ite_snd | with_reducible apply drbgDraw_keeps | split | extract_lets | dsimp -zeta only)))

theorem opRsaVerify_ok  : OpKeeps (opRsaVerify ) := by
  constructor <;> intro s0 c s hk <;> dsimp only [opRsaVerify, opPlain]
  iterate 20 (try (any_goals (first | exact hk | with_reducible assumption | with_reducible apply keeps_ite | with_reducible apply keeps_ite_snd | split | extract_lets | dsimp -zeta only)))

theorem opRsaOaep_ok  : OpKeeps (opRsaOaep ) := by
  constructor <;> intro s0 c s hk <;> dsimp only [opRsaOaep, opPlain]
  iterate 20 (try (any_goals (first | exact hk | with_reducible assumption | with_reducible apply keeps_ite | with_reducible apply keeps_ite_snd | split | extract_lets | dsimp -zeta only)))

theorem opRsaKeyGen_ok  : OpKeeps (opRsaKeyGen ) := by
  constructor <;> intro s0 c s hk <;> dsimp only [opRsaKeyGen, withDraw, opPlain]
  iterate 20 (try (any_goals (first | exact hk | with_reducible assumption | with_reducible apply keeps_ite | with_reducible apply keeps_ite_snd | with_reducible apply drbgDraw_keeps | split | extract_lets | dsimp -zeta only)))

theorem opEcdsaSign_ok  : OpKeeps (opEcdsaSign ) := by
  constructor <;> intro s0 c s hk <;> dsimp only [opEcdsaSign, withDraw, opPlain]
  iterate 20 (try (any_goals (first | exact hk | with_reducible assumption | with_reducible apply keeps_ite | with_reducible apply keeps_ite_snd | with_reducible apply drbgDraw_keeps | split | extract_lets | dsimp -zeta only)))

theorem opEcdsaVerify_ok  : OpKeeps (opEcdsaVerify ) := by
  constructor <;> intro s0 c s hk <;> dsimp only [opEcdsaVerify, opPlain]
  iterate 20 (try (any_goals (first | exact hk | with_reducible assumption | with_reducible apply keeps_ite | with_reducible apply keeps_ite_snd | split | extract_lets | dsimp -zeta only)))

theorem opEcdh_ok  : OpKeeps (opEcdh ) := by
  constructor <;> intro s0 c s hk <;> dsimp only [opEcdh, opPlain]
  iterate 20 (try (any_goals (first | exact hk | with_reducible assumption | with_reducible apply keeps_ite | with_reducible apply keeps_ite_snd | split | extract_lets | dsimp -zeta only)))

theorem opEcKeyGen_ok  : OpKeeps (opEcKeyGen ) := by
  constructor <;> intro s0 c s hk <;> dsimp only [opEcKeyGen, withDraw, opPlain]
  iterate 20 (try (any_goals (first | exact hk | with_reducible assumption | with_reducible apply keeps_ite | with_reducible apply keeps_ite_snd | with_reducible apply drbgDraw_keeps | split | extract_lets | dsimp -zeta only)))

theorem opEdSign_ok  : OpKeeps (opEdSign ) := by
  constructor <;> intro s0 c s hk <;> dsimp only [opEdSign, opPlain]
  iterate 20 (try (any_goals (first | exact hk | with_reducible assumption | with_reducible apply keeps_ite | with_reducible apply keeps_ite_snd | split | extract_lets | dsimp -zeta only)))

theorem opEdVerify_ok  : OpKeeps (opEdVerify ) := by
  constructor <;> intro s0 c s hk <;> dsimp only [opEdVerify, opPlain]
  iterate 20 (try (any_goals (first | exact hk | with_reducible assumption | with_reducible apply keeps_ite | with_reducible apply keeps_ite_snd | split | extract_lets | dsimp -zeta only)))

theorem opModExp_ok  : OpKeeps (opModExp ) := by
  constructor <;> intro s0 c s hk <;> dsimp only [opModExp, opPlain]
  iterate 20 (try (any_goals (first | exact hk | with_reducible assumption | with_reducible apply keeps_ite | with_reducible apply keeps_ite_snd | split | extract_lets | dsimp -zeta only)))

theorem execMlDsaKeyGeneration_keeps (e : Fin 144) (s : State) : Goes s (execMlDsaKeyGeneration e s) :=
  ⟨_, rfl, quietSettle_keeps _ (startJob_keeps _ _ _ _ (opDsaKeyGen_ok) (Keeps.refl s))⟩

theorem execMlDsaSign_keeps (e : Fin 144) (s : State) : Goes s (execMlDsaSign e s) :=
  ⟨_, rfl, quietSettle_keeps _ (startJob_keeps _ _ _ _ (opDsaSign_ok) (Keeps.refl s))⟩

theorem execMlDsaVerify_keeps (e : Fin 144) (s : State) : Goes s (execMlDsaVerify e s) :=
  ⟨_, rfl, quietSettle_keeps _ (startJob_keeps _ _ _ _ (opDsaVerify_ok) (Keeps.refl s))⟩

theorem execMlKemKeyGeneration_keeps (e : Fin 144) (s : State) : Goes s (execMlKemKeyGeneration e s) :=
  ⟨_, rfl, quietSettle_keeps _ (startJob_keeps _ _ _ _ (opKemKeyGen_ok) (Keeps.refl s))⟩

theorem execMlKemEncapsulate_keeps (e : Fin 144) (s : State) : Goes s (execMlKemEncapsulate e s) :=
  ⟨_, rfl, quietSettle_keeps _ (startJob_keeps _ _ _ _ (opKemEncap_ok) (Keeps.refl s))⟩

theorem execMlKemDecapsulate_keeps (e : Fin 144) (s : State) : Goes s (execMlKemDecapsulate e s) :=
  ⟨_, rfl, quietSettle_keeps _ (startJob_keeps _ _ _ _ (opKemDecap_ok) (Keeps.refl s))⟩

theorem execRsaPrivateKeySignature_keeps (e : Fin 144) (s : State) : Goes s (execRsaPrivateKeySignature e s) :=
  ⟨_, rfl, quietSettle_keeps _ (startJob_keeps _ _ _ _ (opRsaSign_ok) (Keeps.refl s))⟩

theorem execRsaPublicVerify_keeps (e : Fin 144) (s : State) : Goes s (execRsaPublicVerify e s) :=
  ⟨_, rfl, quietSettle_keeps _ (startJob_keeps _ _ _ _ (opRsaVerify_ok) (Keeps.refl s))⟩

theorem execRsaOaepUnwrap_keeps (e : Fin 144) (s : State) : Goes s (execRsaOaepUnwrap e s) :=
  ⟨_, rfl, quietSettle_keeps _ (startJob_keeps _ _ _ _ (opRsaOaep_ok) (Keeps.refl s))⟩

theorem execRsaKeyGeneration_keeps (e : Fin 144) (s : State) : Goes s (execRsaKeyGeneration e s) :=
  ⟨_, rfl, quietSettle_keeps _ (startJob_keeps _ _ _ _ (opRsaKeyGen_ok) (Keeps.refl s))⟩

theorem execEcdsaSign_keeps (e : Fin 144) (s : State) : Goes s (execEcdsaSign e s) :=
  ⟨_, rfl, quietSettle_keeps _ (startJob_keeps _ _ _ _ (opEcdsaSign_ok) (Keeps.refl s))⟩

theorem execEcdsaVerify_keeps (e : Fin 144) (s : State) : Goes s (execEcdsaVerify e s) :=
  ⟨_, rfl, quietSettle_keeps _ (startJob_keeps _ _ _ _ (opEcdsaVerify_ok) (Keeps.refl s))⟩

theorem execEcdh_keeps (e : Fin 144) (s : State) : Goes s (execEcdh e s) :=
  ⟨_, rfl, quietSettle_keeps _ (startJob_keeps _ _ _ _ (opEcdh_ok) (Keeps.refl s))⟩

theorem execEcKeyGeneration_keeps (e : Fin 144) (s : State) : Goes s (execEcKeyGeneration e s) :=
  ⟨_, rfl, quietSettle_keeps _ (startJob_keeps _ _ _ _ (opEcKeyGen_ok) (Keeps.refl s))⟩

theorem execEd25519Sign_keeps (e : Fin 144) (s : State) : Goes s (execEd25519Sign e s) :=
  ⟨_, rfl, quietSettle_keeps _ (startJob_keeps _ _ _ _ (opEdSign_ok) (Keeps.refl s))⟩

theorem execEd25519Verify_keeps (e : Fin 144) (s : State) : Goes s (execEd25519Verify e s) :=
  ⟨_, rfl, quietSettle_keeps _ (startJob_keeps _ _ _ _ (opEdVerify_ok) (Keeps.refl s))⟩

theorem execModularExponentiation_keeps (e : Fin 144) (s : State) : Goes s (execModularExponentiation e s) :=
  ⟨_, rfl, quietSettle_keeps _ (startJob_keeps _ _ _ _ (opModExp_ok) (Keeps.refl s))⟩

/-! ### DrbgJobs -/

theorem opDrbgGenerate_ok  : OpKeeps (opDrbgGenerate ) := by
  constructor <;> intro s0 c s hk <;> dsimp only [opDrbgGenerate, opPlain]
  iterate 20 (try (any_goals (first | exact hk | with_reducible assumption | with_reducible apply keeps_ite | with_reducible apply keeps_ite_snd | with_reducible apply drbgDraw_keeps | split | extract_lets | dsimp -zeta only)))

theorem opDrbgReseed_ok  : OpKeeps (opDrbgReseed ) := by
  constructor <;> intro s0 c s hk <;> dsimp only [opDrbgReseed, opPlain]
  iterate 20 (try (any_goals (first | exact hk | with_reducible assumption | with_reducible apply keeps_ite | with_reducible apply keeps_ite_snd | with_reducible apply reseed_keeps | split | extract_lets | dsimp -zeta only)))

theorem opDrbgKey_ok  : OpKeeps (opDrbgKey ) := by
  constructor <;> intro s0 c s hk <;> dsimp only [opDrbgKey, opPlain]
  iterate 20 (try (any_goals (first | exact hk | with_reducible assumption | with_reducible apply keeps_ite | with_reducible apply keeps_ite_snd | with_reducible apply drbgDraw_keeps | split | extract_lets | dsimp -zeta only)))

theorem execDrbgGenerate_keeps (e : Fin 144) (s : State) : Goes s (execDrbgGenerate e s) :=
  ⟨_, rfl, quietSettle_keeps _ (startJob_keeps _ _ _ _ (opDrbgGenerate_ok) (Keeps.refl s))⟩

theorem execDrbgReseed_keeps (e : Fin 144) (s : State) : Goes s (execDrbgReseed e s) :=
  ⟨_, rfl, quietSettle_keeps _ (startJob_keeps _ _ _ _ (opDrbgReseed_ok) (Keeps.refl s))⟩

theorem execDrbgGenerateKey_keeps (e : Fin 144) (s : State) : Goes s (execDrbgGenerateKey e s) :=
  ⟨_, rfl, quietSettle_keeps _ (startJob_keeps _ _ _ _ (opDrbgKey_ok) (Keeps.refl s))⟩

theorem execDrbgAutoReseed_keeps (k : Fin 16) (p : Fin 256) (s : State) : Goes s (execDrbgAutoReseed k p s) :=
  ⟨_, rfl, keeps_ite (reseed_keeps _ _ _ (Keeps.refl s)) (Keeps.refl s)⟩

/-! ### Payments -/

theorem opPin_ok (ok : Desc → Bool) (tail : Desc → Bytes → Bool) (run : Ctx → State → Res × State) (hr : ∀ {s0 : State} (c : Ctx) (s : State), Keeps s0 s → Keeps s0 (run c s).2) : OpKeeps (opPin ok tail run) := by
  constructor <;> intro s0 c s hk <;> dsimp only [opPin, opPlain]
  iterate 20 (try (any_goals (first | exact hk | with_reducible assumption | with_reducible apply keeps_ite | with_reducible apply keeps_ite_snd | exact hr _ _ hk | split | extract_lets | dsimp -zeta only)))

theorem guardIf_keeps {s0 : State} (b : Bool) (c : Ctx) (s : State) (hk : Keeps s0 s) : Keeps s0 (guardIf b c s).2 := by
  unfold guardIf
  iterate 60 (try (any_goals (first | with_reducible assumption | with_reducible apply keeps_ite | with_reducible apply keeps_ite_snd | with_reducible apply countGuard_keeps | (with_reducible apply keeps_foldl <;> [skip; intro _ _ _]) | split | extract_lets | (apply keeps_eq; with_reducible assumption) | dsimp -zeta only | with_reducible apply keeps_mk)))

theorem opPinTranslate_ok  : OpKeeps (opPinTranslate ) := by
  constructor <;> intro s0 c s hk <;> dsimp only [opPinTranslate, opPin, withDraw, opPlain]
  iterate 20 (try (any_goals (first | exact hk | with_reducible assumption | with_reducible apply keeps_ite | with_reducible apply keeps_ite_snd | with_reducible apply guardIf_keeps | with_reducible apply drbgDraw_keeps | split | extract_lets | dsimp -zeta only)))

theorem tokenGuard_keeps {s0 : State} (c : Ctx) (s : State) (hk : Keeps s0 s) : Keeps s0 (tokenGuard c s).2 := by
  unfold tokenGuard
  iterate 60 (try (any_goals (first | with_reducible assumption | with_reducible apply keeps_ite | with_reducible apply keeps_ite_snd | with_reducible apply takeSession_keeps | with_reducible apply bump_keeps | (with_reducible apply keeps_foldl <;> [skip; intro _ _ _]) | split | extract_lets | (apply keeps_eq; with_reducible assumption) | dsimp -zeta only | with_reducible apply keeps_mk)))

theorem attemptGuard_keeps {s0 : State} (c : Ctx) (s : State) (hk : Keeps s0 s) : Keeps s0 (attemptGuard c s).2 := by
  unfold attemptGuard
  iterate 60 (try (any_goals (first | with_reducible assumption | with_reducible apply keeps_ite | with_reducible apply keeps_ite_snd | with_reducible apply tokenGuard_keeps | with_reducible apply takeAttempt_keeps | (with_reducible apply keeps_foldl <;> [skip; intro _ _ _]) | split | extract_lets | (apply keeps_eq; with_reducible assumption) | dsimp -zeta only | with_reducible apply keeps_mk)))

theorem opPinVerifyOffset_ok  : OpKeeps (opPinVerifyOffset ) := by
  constructor <;> intro s0 c s hk <;> dsimp only [opPinVerifyOffset, opPin, opPlain]
  iterate 20 (try (any_goals (first | exact hk | with_reducible assumption | with_reducible apply keeps_ite | with_reducible apply keeps_ite_snd | with_reducible apply attemptGuard_keeps | with_reducible apply countGuard_keeps | split | extract_lets | dsimp -zeta only)))

theorem opPinOffset_ok  : OpKeeps (opPinOffset ) := by
  constructor <;> intro s0 c s hk <;> dsimp only [opPinOffset, opPin, opPlain]
  iterate 20 (try (any_goals (first | exact hk | with_reducible assumption | with_reducible apply keeps_ite | with_reducible apply keeps_ite_snd | with_reducible apply guardIf_keeps | split | extract_lets | dsimp -zeta only)))

theorem opPinVerifyPvv_ok  : OpKeeps (opPinVerifyPvv ) := by
  constructor <;> intro s0 c s hk <;> dsimp only [opPinVerifyPvv, opPin, opPlain]
  iterate 20 (try (any_goals (first | exact hk | with_reducible assumption | with_reducible apply keeps_ite | with_reducible apply keeps_ite_snd | with_reducible apply attemptGuard_keeps | split | extract_lets | dsimp -zeta only)))

theorem opDukptInitial_ok  : OpKeeps (opDukptInitial ) := by
  constructor <;> intro s0 c s hk <;> dsimp only [opDukptInitial, opPlain]
  iterate 20 (try (any_goals (first | exact hk | with_reducible assumption | with_reducible apply keeps_ite | with_reducible apply keeps_ite_snd | split | extract_lets | dsimp -zeta only)))

theorem opDukptMacGen_ok  : OpKeeps (opDukptMacGen ) := by
  constructor <;> intro s0 c s hk <;> dsimp only [opDukptMacGen, opPlain]
  iterate 20 (try (any_goals (first | exact hk | with_reducible assumption | with_reducible apply keeps_ite | with_reducible apply keeps_ite_snd | split | extract_lets | dsimp -zeta only)))

theorem opDukptMacVer_ok  : OpKeeps (opDukptMacVer ) := by
  constructor <;> intro s0 c s hk <;> dsimp only [opDukptMacVer, opPlain]
  iterate 20 (try (any_goals (first | exact hk | with_reducible assumption | with_reducible apply keeps_ite | with_reducible apply keeps_ite_snd | split | extract_lets | dsimp -zeta only)))

theorem opDukptDecrypt_ok  : OpKeeps (opDukptDecrypt ) := by
  constructor <;> intro s0 c s hk <;> dsimp only [opDukptDecrypt, opPlain]
  iterate 20 (try (any_goals (first | exact hk | with_reducible assumption | with_reducible apply keeps_ite | with_reducible apply keeps_ite_snd | split | extract_lets | dsimp -zeta only)))

theorem opTr31Unwrap_ok  : OpKeeps (opTr31Unwrap ) := by
  constructor <;> intro s0 c s hk <;> dsimp only [opTr31Unwrap, opPlain]
  iterate 20 (try (any_goals (first | exact hk | with_reducible assumption | with_reducible apply keeps_ite | with_reducible apply keeps_ite_snd | with_reducible apply guardIf_keeps | with_reducible apply countGuard_keeps | split | extract_lets | dsimp -zeta only)))

theorem opTr31Wrap_ok  : OpKeeps (opTr31Wrap ) := by
  constructor <;> intro s0 c s hk <;> dsimp only [opTr31Wrap, withDraw, opPlain]
  iterate 20 (try (any_goals (first | exact hk | with_reducible assumption | with_reducible apply keeps_ite | with_reducible apply keeps_ite_snd | with_reducible apply wrapGuard_keeps | with_reducible apply drbgDraw_keeps | split | extract_lets | dsimp -zeta only)))

theorem opEmv_ok (ok : Desc → Bool) (tail : Desc → Nat → Bool) (run : Ctx → State → Res × State) (hr : ∀ {s0 : State} (c : Ctx) (s : State), Keeps s0 s → Keeps s0 (run c s).2) : OpKeeps (opEmv ok tail run) := by
  constructor <;> intro s0 c s hk <;> dsimp only [opEmv, opPlain]
  iterate 20 (try (any_goals (first | exact hk | with_reducible assumption | with_reducible apply keeps_ite | with_reducible apply keeps_ite_snd | exact hr _ _ hk | split | extract_lets | dsimp -zeta only)))

theorem opArqcVerify_ok  : OpKeeps (opArqcVerify ) := by
  constructor <;> intro s0 c s hk <;> dsimp only [opArqcVerify, opEmv, opPlain]
  iterate 20 (try (any_goals (first | exact hk | with_reducible assumption | with_reducible apply keeps_ite | with_reducible apply keeps_ite_snd | split | extract_lets | dsimp -zeta only)))

theorem opArqcArpc_ok  : OpKeeps (opArqcArpc ) := by
  constructor <;> intro s0 c s hk <;> dsimp only [opArqcArpc, opEmv, opPlain]
  iterate 20 (try (any_goals (first | exact hk | with_reducible assumption | with_reducible apply keeps_ite | with_reducible apply keeps_ite_snd | split | extract_lets | dsimp -zeta only)))

theorem opCvvGenerate_ok  : OpKeeps (opCvvGenerate ) := by
  constructor <;> intro s0 c s hk <;> dsimp only [opCvvGenerate, opPlain]
  iterate 20 (try (any_goals (first | exact hk | with_reducible assumption | with_reducible apply keeps_ite | with_reducible apply keeps_ite_snd | split | extract_lets | dsimp -zeta only)))

theorem opCvvVerify_ok  : OpKeeps (opCvvVerify ) := by
  constructor <;> intro s0 c s hk <;> dsimp only [opCvvVerify, opPlain]
  iterate 20 (try (any_goals (first | exact hk | with_reducible assumption | with_reducible apply keeps_ite | with_reducible apply keeps_ite_snd | with_reducible apply tokenGuard_keeps | split | extract_lets | dsimp -zeta only)))

theorem opLuhnCheck_ok  : OpKeeps (opLuhnCheck ) := by
  constructor <;> intro s0 c s hk <;> dsimp only [opLuhnCheck, opPlain]
  iterate 20 (try (any_goals (first | exact hk | with_reducible assumption | with_reducible apply keeps_ite | with_reducible apply keeps_ite_snd | split | extract_lets | dsimp -zeta only)))

theorem opLuhnCompute_ok  : OpKeeps (opLuhnCompute ) := by
  constructor <;> intro s0 c s hk <;> dsimp only [opLuhnCompute, opPlain]
  iterate 20 (try (any_goals (first | exact hk | with_reducible assumption | with_reducible apply keeps_ite | with_reducible apply keeps_ite_snd | split | extract_lets | dsimp -zeta only)))

theorem opFpe_ok (ok : Desc → Bool) (enc : Bool) (f : Bool → Bytes → Bytes → List Nat → List Nat) : OpKeeps (opFpe ok enc f) := by
  constructor <;> intro s0 c s hk <;> dsimp only [opFpe, opPlain]
  iterate 20 (try (any_goals (first | exact hk | with_reducible assumption | with_reducible apply keeps_ite | with_reducible apply keeps_ite_snd | split | extract_lets | dsimp -zeta only)))

theorem opReToken_ok (ok : Desc → Bool) (f : Bool → Bytes → Bytes → List Nat → List Nat) : OpKeeps (opReToken ok f) := by
  constructor <;> intro s0 c s hk <;> dsimp only [opReToken, opPlain]
  iterate 20 (try (any_goals (first | exact hk | with_reducible assumption | with_reducible apply keeps_ite | with_reducible apply keeps_ite_snd | split | extract_lets | dsimp -zeta only)))

theorem execPinTranslate_keeps (e : Fin 144) (s : State) : Goes s (execPinTranslate e s) :=
  ⟨_, rfl, quietSettle_keeps _ (startJob_keeps _ _ _ _ (opPinTranslate_ok) (Keeps.refl s))⟩

theorem execPinVerifyOffset_keeps (e : Fin 144) (s : State) : Goes s (execPinVerifyOffset e s) :=
  ⟨_, rfl, quietSettle_keeps _ (startJob_keeps _ _ _ _ (opPinVerifyOffset_ok) (Keeps.refl s))⟩

theorem execPinVerifyPvv_keeps (e : Fin 144) (s : State) : Goes s (execPinVerifyPvv e s) :=
  ⟨_, rfl, quietSettle_keeps _ (startJob_keeps _ _ _ _ (opPinVerifyPvv_ok) (Keeps.refl s))⟩

theorem execPinOffsetGenerate_keeps (e : Fin 144) (s : State) : Goes s (execPinOffsetGenerate e s) :=
  ⟨_, rfl, quietSettle_keeps _ (startJob_keeps _ _ _ _ (opPinOffset_ok) (Keeps.refl s))⟩

theorem execDukptInitialKey_keeps (e : Fin 144) (s : State) : Goes s (execDukptInitialKey e s) :=
  ⟨_, rfl, quietSettle_keeps _ (startJob_keeps _ _ _ _ (opDukptInitial_ok) (Keeps.refl s))⟩

theorem execDukptMacGenerate_keeps (e : Fin 144) (s : State) : Goes s (execDukptMacGenerate e s) :=
  ⟨_, rfl, quietSettle_keeps _ (startJob_keeps _ _ _ _ (opDukptMacGen_ok) (Keeps.refl s))⟩

theorem execDukptMacVerify_keeps (e : Fin 144) (s : State) : Goes s (execDukptMacVerify e s) :=
  ⟨_, rfl, quietSettle_keeps _ (startJob_keeps _ _ _ _ (opDukptMacVer_ok) (Keeps.refl s))⟩

theorem execDukptDataDecrypt_keeps (e : Fin 144) (s : State) : Goes s (execDukptDataDecrypt e s) :=
  ⟨_, rfl, quietSettle_keeps _ (startJob_keeps _ _ _ _ (opDukptDecrypt_ok) (Keeps.refl s))⟩

theorem execTr31Unwrap_keeps (e : Fin 144) (s : State) : Goes s (execTr31Unwrap e s) :=
  ⟨_, rfl, quietSettle_keeps _ (startJob_keeps _ _ _ _ (opTr31Unwrap_ok) (Keeps.refl s))⟩

theorem execTr31Wrap_keeps (e : Fin 144) (s : State) : Goes s (execTr31Wrap e s) :=
  ⟨_, rfl, quietSettle_keeps _ (startJob_keeps _ _ _ _ (opTr31Wrap_ok) (Keeps.refl s))⟩

theorem execArqcVerify_keeps (e : Fin 144) (s : State) : Goes s (execArqcVerify e s) :=
  ⟨_, rfl, quietSettle_keeps _ (startJob_keeps _ _ _ _ (opArqcVerify_ok) (Keeps.refl s))⟩

theorem execArqcVerifyAndArpcGenerate_keeps (e : Fin 144) (s : State) : Goes s (execArqcVerifyAndArpcGenerate e s) :=
  ⟨_, rfl, quietSettle_keeps _ (startJob_keeps _ _ _ _ (opArqcArpc_ok) (Keeps.refl s))⟩

theorem execCvvGenerate_keeps (e : Fin 144) (s : State) : Goes s (execCvvGenerate e s) :=
  ⟨_, rfl, quietSettle_keeps _ (startJob_keeps _ _ _ _ (opCvvGenerate_ok) (Keeps.refl s))⟩

theorem execCvvVerify_keeps (e : Fin 144) (s : State) : Goes s (execCvvVerify e s) :=
  ⟨_, rfl, quietSettle_keeps _ (startJob_keeps _ _ _ _ (opCvvVerify_ok) (Keeps.refl s))⟩

theorem execLuhnCheck_keeps (e : Fin 144) (s : State) : Goes s (execLuhnCheck e s) :=
  ⟨_, rfl, quietSettle_keeps _ (startJob_keeps _ _ _ _ (opLuhnCheck_ok) (Keeps.refl s))⟩

theorem execLuhnCompute_keeps (e : Fin 144) (s : State) : Goes s (execLuhnCompute e s) :=
  ⟨_, rfl, quietSettle_keeps _ (startJob_keeps _ _ _ _ (opLuhnCompute_ok) (Keeps.refl s))⟩

theorem execFf1Encrypt_keeps (e : Fin 144) (s : State) : Goes s (execFf1Encrypt e s) :=
  ⟨_, rfl, quietSettle_keeps _ (startJob_keeps _ _ _ _ (opFpe_ok _ _ _) (Keeps.refl s))⟩

theorem execFf1Decrypt_keeps (e : Fin 144) (s : State) : Goes s (execFf1Decrypt e s) :=
  ⟨_, rfl, quietSettle_keeps _ (startJob_keeps _ _ _ _ (opFpe_ok _ _ _) (Keeps.refl s))⟩

theorem execFf1ReTokenize_keeps (e : Fin 144) (s : State) : Goes s (execFf1ReTokenize e s) :=
  ⟨_, rfl, quietSettle_keeps _ (startJob_keeps _ _ _ _ (opReToken_ok _ _) (Keeps.refl s))⟩

theorem execFf31Encrypt_keeps (e : Fin 144) (s : State) : Goes s (execFf31Encrypt e s) :=
  ⟨_, rfl, quietSettle_keeps _ (startJob_keeps _ _ _ _ (opFpe_ok _ _ _) (Keeps.refl s))⟩

theorem execFf31Decrypt_keeps (e : Fin 144) (s : State) : Goes s (execFf31Decrypt e s) :=
  ⟨_, rfl, quietSettle_keeps _ (startJob_keeps _ _ _ _ (opFpe_ok _ _ _) (Keeps.refl s))⟩

theorem execFf31ReTokenize_keeps (e : Fin 144) (s : State) : Goes s (execFf31ReTokenize e s) :=
  ⟨_, rfl, quietSettle_keeps _ (startJob_keeps _ _ _ _ (opReToken_ok _ _) (Keeps.refl s))⟩

end Sys2Proof.Machine
end

