-- ==== Sys2Proof/Laws/KeepsOutside.lean ====
section
/-! SUPPORT. Lanes, links, the timebase, the governor, seals and the boot: each function keeps the relation of `Laws/Keeps.lean`, and each command of these
files answers a next state that it holds for. -/

set_option linter.all false
set_option linter.unusedTactic false
set_option linter.unreachableTactic false

namespace Sys2Proof.Machine

/-! ### Net -/

theorem countNotReady_keeps {s0 : State} (s : State) (lane : Nat) (hk : Keeps s0 s) : Keeps s0 (countNotReady s lane) :=
  bump_keeps _ _ _ _ _ _ hk

theorem countBad_keeps {s0 : State} (s : State) (lane : Nat) (hk : Keeps s0 s) : Keeps s0 (countBad s lane) :=
  bump_keeps _ _ _ _ _ _ hk

theorem countAuth_keeps {s0 : State} (s : State) (lane : Nat) (hk : Keeps s0 s) : Keeps s0 (countAuth s lane) :=
  bump_keeps _ _ _ _ _ _ hk

theorem acceptFrame_keeps {s0 : State} (s : State) (l : NetPort) (h : NetHdr) (n ctr : Nat) (hk : Keeps s0 s) : Keeps s0 (acceptFrame s l h n ctr) :=
  keeps_ite (dropSession_keeps _ _ hk) (modSess_keeps _ _ _ hk)

theorem dataFrame_keeps {s0 : State} (s : State) (l : NetPort) (h : NetHdr) (b : Bytes) (hk : Keeps s0 s) : Keeps s0 (dataFrame s l h b) := by
  unfold dataFrame
  iterate 60 (try (any_goals (first | with_reducible assumption | with_reducible apply keeps_ite | with_reducible apply keeps_ite_snd | with_reducible apply acceptFrame_keeps | with_reducible apply countAuth_keeps | with_reducible apply countBad_keeps | with_reducible apply countNotReady_keeps | with_reducible apply arrive_keeps | (with_reducible apply keeps_foldl <;> [skip; intro _ _ _]) | split | extract_lets | (apply keeps_eq; with_reducible assumption) | dsimp -zeta only | with_reducible apply keeps_mk)))

theorem closeFrame_keeps {s0 : State} (s : State) (l : NetPort) (h : NetHdr) (b : Bytes) (hk : Keeps s0 s) : Keeps s0 (closeFrame s l h b) := by
  unfold closeFrame
  iterate 60 (try (any_goals (first | with_reducible assumption | with_reducible apply keeps_ite | with_reducible apply keeps_ite_snd | with_reducible apply acceptFrame_keeps | with_reducible apply countAuth_keeps | with_reducible apply dropSession_keeps | (with_reducible apply keeps_foldl <;> [skip; intro _ _ _]) | split | extract_lets | (apply keeps_eq; with_reducible assumption) | dsimp -zeta only | with_reducible apply keeps_mk)))

theorem frameIn_keeps {s0 : State} (s : State) (l : NetPort) (h : NetHdr) (b : Bytes) (ty : Nat) (f : State → State)
    (hf : ∀ s, Keeps s0 s → Keeps s0 (f s)) (hk : Keeps s0 s) : Keeps s0 (frameIn s l h b ty f) := by
  unfold frameIn
  exact keeps_ite (keeps_ite (countNotReady_keeps _ _ (wakeEvent_keeps _ _ hk)) (keeps_ite (countNotReady_keeps _ _ hk) hk))
    (keeps_ite hk (keeps_ite (countBad_keeps _ _ hk) (hf _ hk)))

theorem helloKey_keeps {s0 : State} (s : State) (l : NetPort) (b : Bytes) (hk : Keeps s0 s) : Keeps s0 (helloKey s l b).2 := by
  unfold helloKey
  iterate 60 (try (any_goals (first | with_reducible assumption | with_reducible apply keeps_ite | with_reducible apply keeps_ite_snd | with_reducible apply readKey_keeps | (with_reducible apply keeps_foldl <;> [skip; intro _ _ _]) | split | extract_lets | (apply keeps_eq; with_reducible assumption) | dsimp -zeta only | with_reducible apply keeps_mk)))

theorem acceptHello_keeps {s0 : State} (s : State) (l : NetPort) (h : NetHdr) (b : Bytes) (key : Option Bytes) (hk : Keeps s0 s) : Keeps s0 (acceptHello s l h b key) := by
  unfold acceptHello
  iterate 60 (try (any_goals (first | with_reducible assumption | with_reducible apply keeps_ite | with_reducible apply keeps_ite_snd | with_reducible apply modSess_keeps | with_reducible apply identitySign_keeps | with_reducible apply freeBytes_keeps | with_reducible apply trngBytes_keeps | with_reducible apply emit_keeps | (with_reducible apply keeps_foldl <;> [skip; intro _ _ _]) | split | extract_lets | (apply keeps_eq; with_reducible assumption) | dsimp -zeta only | with_reducible apply keeps_mk)))

theorem helloFrame_keeps {s0 : State} (s : State) (l : NetPort) (h : NetHdr) (b : Bytes) (hk : Keeps s0 s) : Keeps s0 (helloFrame s l h b) := by
  unfold helloFrame
  iterate 60 (try (any_goals (first | with_reducible assumption | with_reducible apply keeps_ite | with_reducible apply keeps_ite_snd | with_reducible apply acceptHello_keeps | with_reducible apply helloKey_keeps | with_reducible apply countAuth_keeps | with_reducible apply countBad_keeps | with_reducible apply emit_keeps | (with_reducible apply keeps_foldl <;> [skip; intro _ _ _]) | dsimp only | split | (apply keeps_eq; with_reducible assumption) | dsimp -zeta only | with_reducible apply keeps_mk)))

theorem modWindow_keeps {s0 : State} (s : State) (ix : Nat) (f : Window → Window) (hk : Keeps s0 s) : Keeps s0 (modWindow s ix f) := by
  unfold modWindow
  iterate 60 (try (any_goals (first | with_reducible assumption | with_reducible apply keeps_ite | with_reducible apply keeps_ite_snd | (with_reducible apply keeps_foldl <;> [skip; intro _ _ _]) | split | extract_lets | (apply keeps_eq; with_reducible assumption) | dsimp -zeta only | with_reducible apply keeps_mk)))

theorem modStream_keeps {s0 : State} (s : State) (f k ord : Nat) (g : Cmd → Cmd) (hk : Keeps s0 s) : Keeps s0 (modStream s f k ord g) := by
  unfold modStream
  iterate 60 (try (any_goals (first | with_reducible assumption | with_reducible apply keeps_ite | with_reducible apply keeps_ite_snd | with_reducible apply modCmd_keeps | (with_reducible apply keeps_foldl <;> [skip; intro _ _ _]) | split | extract_lets | (apply keeps_eq; with_reducible assumption) | dsimp -zeta only | with_reducible apply keeps_mk)))

theorem truncateStream_keeps {s0 : State} (s : State) (f k : Nat) (hk : Keeps s0 s) : Keeps s0 (truncateStream s f k) := by
  unfold truncateStream
  iterate 60 (try (any_goals (first | with_reducible assumption | with_reducible apply keeps_ite | with_reducible apply keeps_ite_snd | with_reducible apply modStream_keeps | (with_reducible apply keeps_foldl <;> [skip; intro _ _ _]) | split | extract_lets | (apply keeps_eq; with_reducible assumption) | dsimp -zeta only | with_reducible apply keeps_mk)))

theorem breakStream_keeps {s0 : State} (s : State) (f k : Nat) (hk : Keeps s0 s) : Keeps s0 (breakStream s f k) :=
  countBad_keeps _ _ (modWindow_keeps _ _ _ (truncateStream_keeps _ _ _ hk))

theorem windowHeader_keeps {s0 : State} (s : State) (f k : Nat) (hdr : Bytes) (hk : Keeps s0 s) : Keeps s0 (windowHeader s f k hdr) := by
  unfold windowHeader
  iterate 60 (try (any_goals (first | with_reducible assumption | with_reducible apply keeps_ite | with_reducible apply keeps_ite_snd | with_reducible apply breakStream_keeps | with_reducible apply modWindow_keeps | with_reducible apply countAuth_keeps | with_reducible apply countNotReady_keeps | with_reducible apply arrive_keeps | (with_reducible apply keeps_foldl <;> [skip; intro _ _ _]) | split | extract_lets | (apply keeps_eq; with_reducible assumption) | dsimp -zeta only | with_reducible apply keeps_mk)))

theorem windowBytes_keeps {s0 : State} (f k : Nat) : ∀ (n : Nat) (b : Bytes) {s : State}, Keeps s0 s → Keeps s0 (windowBytes s f k n b) := by
  intro n
  induction n with
  | zero => intro b s hk; exact hk
  | succ n ih =>
    intro b s hk
    unfold windowBytes
    extract_lets w
    apply keeps_ite hk
    apply keeps_ite
    · extract_lets take buf
      exact keeps_ite (modWindow_keeps _ _ _ hk) (ih _ (windowHeader_keeps _ _ _ _ hk))
    · extract_lets x left s1
      exact ih _ (modWindow_keeps _ _ _ (modStream_keeps _ _ _ _ _ hk))

theorem windowWrite_keeps {s0 : State} (s : State) (f k : Nat) (b : Bytes) (gaps : Bool) (hk : Keeps s0 s) :
    Keeps s0 (windowWrite s f k b gaps) := by
  unfold windowWrite
  exact keeps_ite hk (keeps_ite hk (keeps_ite (breakStream_keeps _ _ _ hk) (windowBytes_keeps _ _ _ _ hk)))

theorem windowResync_keeps {s0 : State} (s : State) (f k : Nat) (hk : Keeps s0 s) : Keeps s0 (windowResync s f k) :=
  keeps_ite (modWindow_keeps _ _ _ (truncateStream_keeps _ _ _ hk)) hk

theorem rbaseWrite_keeps {s0 : State} (s : State) (f k : Nat) (v : Word) (hk : Keeps s0 s) : Keeps s0 (rbaseWrite s f k v) := by
  unfold rbaseWrite
  iterate 60 (try (any_goals (first | with_reducible assumption | with_reducible apply keeps_ite | with_reducible apply keeps_ite_snd | with_reducible apply plainWrite_keeps | with_reducible apply fldSet_keeps | (with_reducible apply keeps_foldl <;> [skip; intro _ _ _]) | split | extract_lets | (apply keeps_eq; with_reducible assumption) | dsimp -zeta only | with_reducible apply keeps_mk)))

theorem rconsWrite_keeps {s0 : State} (s : State) (f k : Nat) (v : Word) (hk : Keeps s0 s) : Keeps s0 (rconsWrite s f k v) :=
  keeps_ite (plainWrite_keeps _ _ _ _ hk) hk

theorem sendHeld_keeps {s0 : State} (s : State) (q : Nat) (hk : Keeps s0 s) : Keeps s0 (sendHeld s q) := by
  unfold sendHeld
  iterate 60 (try (any_goals (first | with_reducible assumption | with_reducible apply keeps_ite | with_reducible apply keeps_ite_snd | with_reducible apply modRing_keeps | with_reducible apply emit_keeps | (with_reducible apply keeps_foldl <;> [skip; intro _ _ _]) | split | extract_lets | (apply keeps_eq; with_reducible assumption) | dsimp -zeta only | with_reducible apply keeps_mk)))

theorem sendAllHeld_keeps {s0 : State} (s : State) (hk : Keeps s0 s) : Keeps s0 (sendAllHeld s) := by
  unfold sendAllHeld
  iterate 60 (try (any_goals (first | with_reducible assumption | with_reducible apply keeps_ite | with_reducible apply keeps_ite_snd | with_reducible apply sendHeld_keeps | (with_reducible apply keeps_foldl <;> [skip; intro _ _ _]) | split | extract_lets | (apply keeps_eq; with_reducible assumption) | dsimp -zeta only | with_reducible apply keeps_mk)))

theorem modFunc_keeps {s0 : State} (s : State) (f : Nat) (g : Func → Func) (hk : Keeps s0 s) : Keeps s0 (modFunc s f g) := by
  unfold modFunc
  iterate 60 (try (any_goals (first | with_reducible assumption | with_reducible apply keeps_ite | with_reducible apply keeps_ite_snd | (with_reducible apply keeps_foldl <;> [skip; intro _ _ _]) | split | extract_lets | (apply keeps_eq; with_reducible assumption) | dsimp -zeta only | with_reducible apply keeps_mk)))

theorem flr_keeps {s0 : State} (s : State) (f : Nat) (hk : Keeps s0 s) : Keeps s0 (flr s f) := by
  unfold flr
  iterate 60 (try (any_goals (first | with_reducible assumption | with_reducible apply keeps_ite | with_reducible apply keeps_ite_snd | with_reducible apply modFunc_keeps | with_reducible apply truncateStream_keeps | with_reducible apply modWindow_keeps | with_reducible apply modRing_keeps | with_reducible apply modRq_keeps | with_reducible apply bump_keeps | with_reducible apply regSet_keeps | (with_reducible apply keeps_foldl <;> [skip; intro _ _ _]) | split | extract_lets | (apply keeps_eq; with_reducible assumption) | dsimp -zeta only | with_reducible apply keeps_mk)))

theorem flrPf_keeps {s0 : State} (s : State) (hk : Keeps s0 s) : Keeps s0 (flrPf s) := by
  unfold flrPf
  iterate 60 (try (any_goals (first | with_reducible assumption | with_reducible apply keeps_ite | with_reducible apply keeps_ite_snd | with_reducible apply flr_keeps | (with_reducible apply keeps_foldl <;> [skip; intro _ _ _]) | split | extract_lets | (apply keeps_eq; with_reducible assumption) | dsimp -zeta only | with_reducible apply keeps_mk)))

theorem linkDown_keeps {s0 : State} (s : State) (hk : Keeps s0 s) : Keeps s0 (linkDown s) := by
  unfold linkDown
  iterate 60 (try (any_goals (first | with_reducible assumption | with_reducible apply keeps_ite | with_reducible apply keeps_ite_snd | with_reducible apply downDomain_keeps | with_reducible apply setLane_keeps | (with_reducible apply keeps_foldl <;> [skip; intro _ _ _]) | split | extract_lets | (apply keeps_eq; with_reducible assumption) | dsimp -zeta only | with_reducible apply keeps_mk)))

theorem pcieConfig_keeps {s0 : State} (s : State) (w : PcieConfig) (hk : Keeps s0 s) : Keeps s0 (pcieConfig s w) := by
  unfold pcieConfig
  iterate 60 (try (any_goals (first | with_reducible assumption | with_reducible apply keeps_ite | with_reducible apply keeps_ite_snd | with_reducible apply modFunc_keeps | with_reducible apply sendAllHeld_keeps | with_reducible apply sendHeld_keeps | with_reducible apply modRing_keeps | (with_reducible apply keeps_foldl <;> [skip; intro _ _ _]) | split | extract_lets | (apply keeps_eq; with_reducible assumption) | dsimp -zeta only | with_reducible apply keeps_mk)))

theorem loseLock_keeps {s0 : State} (s : State) (l : Nat) (hk : Keeps s0 s) : Keeps s0 (loseLock s l) := by
  unfold loseLock
  iterate 60 (try (any_goals (first | with_reducible assumption | with_reducible apply keeps_ite | with_reducible apply keeps_ite_snd | with_reducible apply downDomain_keeps | with_reducible apply setLane_keeps | with_reducible apply report_keeps | (with_reducible apply keeps_foldl <;> [skip; intro _ _ _]) | split | extract_lets | (apply keeps_eq; with_reducible assumption) | dsimp -zeta only | with_reducible apply keeps_mk)))

theorem grantCredits_keeps {s0 : State} (l c : Nat) : ∀ (f n : Nat) {s : State}, Keeps s0 s → Keeps s0 (grantCredits s l c f n) := by
  intro f
  induction f with
  | zero => intro n s hk; exact hk
  | succ f ih =>
    intro n s hk
    unfold grantCredits
    exact keeps_ite hk (ih _ (sendFlit_keeps _ _ _ _ _ _ _ hk))

theorem linkUp_keeps {s0 : State} (s : State) (l width peer : Nat) (hk : Keeps s0 s) : Keeps s0 (linkUp s l width peer) := by
  unfold linkUp
  apply keeps_ite hk
  extract_lets fresh s1 s2 s3 s4 s5
  have h1 : Keeps s0 s1 := keeps_foldl _ hk (fun _ _ h => keeps_ite h (setLane_keeps _ _ _ h))
  have h3 : Keeps s0 s3 := resetDomain_keeps _ _ (resetDomain_keeps _ _ (modLink_keeps _ _ _ h1))
  have h4 : Keeps s0 s4 :=
    keeps_ite (grantCredits_keeps _ _ _ _ (grantCredits_keeps _ _ _ _ (grantCredits_keeps _ _ _ _ h3))) h3
  have h5 : Keeps s0 s5 := keeps_foldl _ h4 (fun _ _ h => sendFlit_keeps _ _ _ _ _ _ _ h)
  exact linksChanged_keeps _ (pump_keeps _ _ h5)

theorem trained_keeps {s0 : State} {s : State} (nn : TrainTarget) (hk : Keeps s0 s) : Keeps s0 (trained s nn) := by
  cases nn <;> unfold trained
  iterate 60 (try (any_goals (first | with_reducible assumption | with_reducible apply keeps_ite | with_reducible apply keeps_ite_snd | with_reducible apply linkUp_keeps | with_reducible apply sendAllHeld_keeps | with_reducible apply resetDomain_keeps | with_reducible apply setLane_keeps | (with_reducible apply keeps_foldl <;> [skip; intro _ _ _]) | split | extract_lets | (apply keeps_eq; with_reducible assumption) | dsimp -zeta only | with_reducible apply keeps_mk)))

theorem perst_keeps {s0 : State} (s : State) (asserted : Bool) (hk : Keeps s0 s) : Keeps s0 (perst s asserted) := by
  unfold perst
  iterate 60 (try (any_goals (first | with_reducible assumption | with_reducible apply keeps_ite | with_reducible apply keeps_ite_snd | with_reducible apply linkDown_keeps | with_reducible apply downDomain_keeps | with_reducible apply setLane_keeps | (with_reducible apply keeps_foldl <;> [skip; intro _ _ _]) | split | extract_lets | (apply keeps_eq; with_reducible assumption) | dsimp -zeta only | with_reducible apply keeps_mk)))

theorem smbusWrite_keeps {s0 : State} (s : State) (b : Bytes) (last pecOk : Bool) (hk : Keeps s0 s) : Keeps s0 (smbusWrite s b last pecOk) := by
  unfold smbusWrite
  iterate 60 (try (any_goals (first | with_reducible assumption | with_reducible apply keeps_ite | with_reducible apply keeps_ite_snd | with_reducible apply countBad_keeps | with_reducible apply countNotReady_keeps | with_reducible apply arrive_keeps | with_reducible apply wakeEvent_keeps | (with_reducible apply keeps_foldl <;> [skip; intro _ _ _]) | split | extract_lets | (apply keeps_eq; with_reducible assumption) | dsimp -zeta only | with_reducible apply keeps_mk)))

theorem smbusRead_keeps {s0 : State} (s : State) (pecOk : Bool) (hk : Keeps s0 s) : Keeps s0 (smbusRead s pecOk) := by
  unfold smbusRead
  iterate 60 (try (any_goals (first | with_reducible assumption | with_reducible apply keeps_ite | with_reducible apply keeps_ite_snd | with_reducible apply countBad_keeps | with_reducible apply countNotReady_keeps | with_reducible apply setSmbAlert_keeps | with_reducible apply wakeEvent_keeps | with_reducible apply emit_keeps | (with_reducible apply keeps_foldl <;> [skip; intro _ _ _]) | split | extract_lets | (apply keeps_eq; with_reducible assumption) | dsimp -zeta only | with_reducible apply keeps_mk)))

theorem execCommandArrival_keeps (l : NetPort) (h : NetHdr) (frame : List Byte) (s : State) : Goes s (execCommandArrival l h frame s) := by
  have hk := Keeps.refl s
  unfold execCommandArrival
  (try extract_lets)
  refine ⟨_, rfl, ?_⟩
  iterate 30 (try (any_goals (first | with_reducible assumption | with_reducible apply keeps_ite | with_reducible apply frameIn_keeps | with_reducible apply dataFrame_keeps | (with_reducible apply keeps_foldl <;> [skip; intro _ _ _]) | intro _ _ | split | extract_lets | dsimp -zeta only | with_reducible apply keeps_mk)))

theorem execCutThroughTimeout_keeps (f : Fin 255) (k : Fin 4) (s : State) : Goes s (execCutThroughTimeout f k s) :=
  ⟨_, rfl, keeps_ite (settle_keeps _ (modWindow_keeps _ _ _ (truncateStream_keeps _ _ _ (Keeps.refl s)))) (Keeps.refl s)⟩

theorem execArpNdEcho_keeps (l : NetPort) (kind : NetQuery) (target : BitVec 128) (s : State) : Goes s (execArpNdEcho l kind target s) :=
  ⟨_, rfl, keeps_ite (Keeps.refl s) (keeps_ite (emit_keeps _ _ (Keeps.refl s)) (countBad_keeps _ _ (Keeps.refl s)))⟩

theorem execPauseFrameReceived_keeps (port : Fin 2) (prios : Option (List (Fin 8))) (quanta : BitVec 16) (s : State) : Goes s (execPauseFrameReceived port prios quanta s) := by
  have hk := Keeps.refl s
  unfold execPauseFrameReceived
  (try extract_lets)
  refine ⟨_, rfl, ?_⟩
  iterate 30 (try (any_goals (first | with_reducible assumption | with_reducible apply keeps_ite | (with_reducible apply keeps_foldl <;> [skip; intro _ _ _]) | intro _ _ | split | extract_lets | dsimp -zeta only | with_reducible apply keeps_mk)))

theorem execPauseTimeExpiry_keeps (port : Fin 2) (prio : Option (Fin 8)) (s : State) : Goes s (execPauseTimeExpiry port prio s) := by
  have hk := Keeps.refl s
  unfold execPauseTimeExpiry
  (try extract_lets)
  refine ⟨_, rfl, ?_⟩
  iterate 30 (try (any_goals (first | with_reducible assumption | with_reducible apply keeps_ite | (with_reducible apply keeps_foldl <;> [skip; intro _ _ _]) | intro _ _ | split | extract_lets | dsimp -zeta only | with_reducible apply keeps_mk)))

theorem execHello_keeps (l : NetPort) (h : NetHdr) (frame : List Byte) (s : State) : Goes s (execHello l h frame s) := by
  have hk := Keeps.refl s
  unfold execHello
  (try extract_lets)
  refine ⟨_, rfl, ?_⟩
  iterate 30 (try (any_goals (first | with_reducible assumption | with_reducible apply keeps_ite | with_reducible apply helloFrame_keeps | with_reducible apply frameIn_keeps | with_reducible apply quietSettle_keeps | (with_reducible apply keeps_foldl <;> [skip; intro _ _ _]) | intro _ _ | split | extract_lets | dsimp -zeta only | with_reducible apply keeps_mk)))

theorem execClose_keeps (l : NetPort) (h : NetHdr) (frame : List Byte) (s : State) : Goes s (execClose l h frame s) := by
  have hk := Keeps.refl s
  unfold execClose
  (try extract_lets)
  refine ⟨_, rfl, ?_⟩
  iterate 30 (try (any_goals (first | with_reducible assumption | with_reducible apply keeps_ite | with_reducible apply frameIn_keeps | with_reducible apply closeFrame_keeps | (with_reducible apply keeps_foldl <;> [skip; intro _ _ _]) | intro _ _ | split | extract_lets | dsimp -zeta only | with_reducible apply keeps_mk)))

theorem execSessionIdleTimeout_keeps (n : Fin 65536) (s : State) : Goes s (execSessionIdleTimeout n s) :=
  ⟨_, rfl, keeps_ite (dropSession_keeps _ _ (Keeps.refl s)) (Keeps.refl s)⟩

theorem execCommandWindowWrite_keeps (f : Fin 255) (k : Fin 4) (b : List Byte) (gaps : Bool) (s : State) : Goes s (execCommandWindowWrite f k b gaps s) :=
  ⟨_, rfl, windowWrite_keeps _ _ _ _ _ (Keeps.refl s)⟩

theorem execCwinResync_keeps (f : Fin 255) (k : Fin 4) (s : State) : Goes s (execCwinResync f k s) :=
  ⟨_, rfl, windowResync_keeps _ _ _ (Keeps.refl s)⟩

theorem execRbase_keeps (f : Fin 255) (k : Fin 4) (v : Word) (s : State) : Goes s (execRbase f k v s) :=
  ⟨_, rfl, rbaseWrite_keeps _ _ _ _ (Keeps.refl s)⟩

theorem execRcons_keeps (f : Fin 255) (k : Fin 4) (v : Word) (s : State) : Goes s (execRcons f k v s) :=
  ⟨_, rfl, rconsWrite_keeps _ _ _ _ (Keeps.refl s)⟩

theorem execFlrVf_keeps (f : Fin 255) (s : State) : Goes s (execFlrVf f s) :=
  ⟨_, rfl, keeps_ite (Keeps.refl s) (flr_keeps _ _ (Keeps.refl s))⟩

theorem execFlrPf0_keeps (s : State) : Goes s (execFlrPf0 s) :=
  ⟨_, rfl, keeps_ite (flrPf_keeps _ (Keeps.refl s)) (Keeps.refl s)⟩

theorem execPcieLinkDown_keeps (s : State) : Goes s (execPcieLinkDown s) :=
  ⟨_, rfl, linkDown_keeps _ (Keeps.refl s)⟩

theorem execPerstN_keeps (asserted : Bool) (s : State) : Goes s (execPerstN asserted s) :=
  ⟨_, rfl, perst_keeps _ _ (Keeps.refl s)⟩

theorem execPcieConfigWrite_keeps (w : PcieConfig) (s : State) : Goes s (execPcieConfigWrite w s) :=
  ⟨_, rfl, pcieConfig_keeps _ _ (Keeps.refl s)⟩

theorem execAspmL0sL1Transition_keeps (power : LinkPower) (s : State) : Goes s (execAspmL0sL1Transition power s) := by
  have hk := Keeps.refl s
  unfold execAspmL0sL1Transition
  (try extract_lets)
  refine ⟨_, rfl, ?_⟩
  iterate 30 (try (any_goals (first | with_reducible assumption | with_reducible apply keeps_ite | (with_reducible apply keeps_foldl <;> [skip; intro _ _ _]) | intro _ _ | split | extract_lets | dsimp -zeta only | with_reducible apply keeps_mk)))

theorem execLaneLossOfLock_keeps (l : Fin 48) (s : State) : Goes s (execLaneLossOfLock l s) :=
  ⟨_, rfl, loseLock_keeps _ _ (Keeps.refl s)⟩

theorem execLaneTrainingDone_keeps (l : TrainTarget) (s : State) : Goes s (execLaneTrainingDone l s) := by
  have hk := Keeps.refl s
  unfold execLaneTrainingDone
  (try extract_lets)
  refine ⟨_, rfl, ?_⟩
  iterate 30 (try (any_goals (first | with_reducible assumption | with_reducible apply keeps_ite | with_reducible apply trained_keeps | (with_reducible apply keeps_foldl <;> [skip; intro _ _ _]) | intro _ _ | split | extract_lets | dsimp -zeta only | with_reducible apply keeps_mk)))

theorem execSmbusBlockWrite_keeps (b : List Byte) (last pecOk : Bool) (s : State) : Goes s (execSmbusBlockWrite b last pecOk s) :=
  ⟨_, rfl, smbusWrite_keeps _ _ _ _ (Keeps.refl s)⟩

theorem execSmbusBlockRead_keeps (pecOk : Bool) (s : State) : Goes s (execSmbusBlockRead pecOk s) :=
  ⟨_, rfl, smbusRead_keeps _ _ (Keeps.refl s)⟩

theorem execUartInput_keeps (b : Byte) (s : State) : Goes s (execUartInput b s) := by
  have hk := Keeps.refl s
  unfold execUartInput
  (try extract_lets)
  refine ⟨_, rfl, ?_⟩
  iterate 30 (try (any_goals (first | with_reducible assumption | with_reducible apply keeps_ite | (with_reducible apply keeps_foldl <;> [skip; intro _ _ _]) | intro _ _ | split | extract_lets | dsimp -zeta only | with_reducible apply keeps_mk)))

/-! ### Links -/

theorem sendNak_keeps {s0 : State} (s : State) (l : Nat) (hk : Keeps s0 s) : Keeps s0 (sendNak s l) :=
  keeps_ite hk (modLink_keeps _ _ _ (sendFlit_keeps _ _ _ _ _ _ _ hk))

theorem linkLost_keeps {s0 : State} (s : State) (l : Nat) (hk : Keeps s0 s) : Keeps s0 (linkLost s l) :=
  keeps_ite hk (linksChanged_keeps _ (dropLink_keeps _ _ hk))

theorem retrain_keeps {s0 : State} (s : State) (l : Nat) (hk : Keeps s0 s) : Keeps s0 (retrain s l) := by
  unfold retrain
  iterate 60 (try (any_goals (first | with_reducible assumption | with_reducible apply keeps_ite | with_reducible apply keeps_ite_snd | with_reducible apply linkLost_keeps | with_reducible apply downDomain_keeps | with_reducible apply setLane_keeps | with_reducible apply linksChanged_keeps | with_reducible apply modLink_keeps | with_reducible apply bump_keeps | (with_reducible apply keeps_foldl <;> [skip; intro _ _ _]) | split | extract_lets | (apply keeps_eq; with_reducible assumption) | dsimp -zeta only | with_reducible apply keeps_mk)))

theorem replayFrom_keeps {s0 : State} (s : State) (l seq : Nat) (hk : Keeps s0 s) : Keeps s0 (replayFrom s l seq) := by
  unfold replayFrom
  iterate 60 (try (any_goals (first | with_reducible assumption | with_reducible apply keeps_ite | with_reducible apply keeps_ite_snd | with_reducible apply retrain_keeps | with_reducible apply sendFlit_keeps | with_reducible apply modLink_keeps | with_reducible apply bump_keeps | (with_reducible apply keeps_foldl <;> [skip; intro _ _ _]) | split | extract_lets | (apply keeps_eq; with_reducible assumption) | dsimp -zeta only | with_reducible apply keeps_mk)))

theorem takeAckCred_keeps {s0 : State} (s : State) (l : Nat) (b : Bytes) (hk : Keeps s0 s) : Keeps s0 (takeAckCred s l b) := by
  unfold takeAckCred
  iterate 60 (try (any_goals (first | with_reducible assumption | with_reducible apply keeps_ite | with_reducible apply keeps_ite_snd | with_reducible apply modLink_keeps | (with_reducible apply keeps_foldl <;> [skip; intro _ _ _]) | split | extract_lets | (apply keeps_eq; with_reducible assumption) | dsimp -zeta only | with_reducible apply keeps_mk)))

theorem messageIn_keeps {s0 : State} (s : State) (b : Bytes) (hk : Keeps s0 s) : Keeps s0 (messageIn s b) :=
  keeps_ite hk (putOnLink_keeps _ _ _ _ hk)

theorem dataFlit_keeps {s0 : State} (s : State) (l : Nat) (b : Bytes) (hk : Keeps s0 s) : Keeps s0 (dataFlit s l b) := by
  unfold dataFlit
  iterate 60 (try (any_goals (first | with_reducible assumption | with_reducible apply keeps_ite | with_reducible apply keeps_ite_snd | with_reducible apply messageIn_keeps | with_reducible apply sendFlit_keeps | with_reducible apply modLink_keeps | (with_reducible apply keeps_foldl <;> [skip; intro _ _ _]) | split | extract_lets | (apply keeps_eq; with_reducible assumption) | dsimp -zeta only | with_reducible apply keeps_mk)))

theorem flitIn_keeps {s0 : State} (s : State) (l : Nat) (b : Bytes) (hk : Keeps s0 s) : Keeps s0 (flitIn s l b) := by
  unfold flitIn
  iterate 60 (try (any_goals (first | with_reducible assumption | with_reducible apply keeps_ite | with_reducible apply keeps_ite_snd | with_reducible apply dataFlit_keeps | with_reducible apply takeAckCred_keeps | with_reducible apply replayFrom_keeps | with_reducible apply sendNak_keeps | with_reducible apply pump_keeps | (with_reducible apply keeps_foldl <;> [skip; intro _ _ _]) | split | extract_lets | (apply keeps_eq; with_reducible assumption) | dsimp -zeta only | with_reducible apply keeps_mk)))

theorem linkLaneFails_keeps {s0 : State} (s : State) (l ix : Nat) (hk : Keeps s0 s) : Keeps s0 (linkLaneFails s l ix) := by
  unfold linkLaneFails
  iterate 60 (try (any_goals (first | with_reducible assumption | with_reducible apply keeps_ite | with_reducible apply keeps_ite_snd | with_reducible apply retrain_keeps | with_reducible apply setLane_keeps | with_reducible apply report_keeps | (with_reducible apply keeps_foldl <;> [skip; intro _ _ _]) | split | extract_lets | (apply keeps_eq; with_reducible assumption) | dsimp -zeta only | with_reducible apply keeps_mk)))

theorem routeIn_keeps {s0 : State} (s : State) (m : Nat) (edges : List (Nat × Nat)) (hk : Keeps s0 s) : Keeps s0 (routeIn s m edges) := by
  unfold routeIn
  iterate 60 (try (any_goals (first | with_reducible assumption | with_reducible apply keeps_ite | with_reducible apply keeps_ite_snd | with_reducible apply routesChanged_keeps | with_reducible apply floodRoute_keeps | (with_reducible apply keeps_foldl <;> [skip; intro _ _ _]) | split | extract_lets | (apply keeps_eq; with_reducible assumption) | dsimp -zeta only | with_reducible apply keeps_mk)))

theorem ackIn_keeps {s0 : State} (s : State) (m mseq : Nat) (hk : Keeps s0 s) : Keeps s0 (ackIn s m mseq) :=
  keeps_ite (modPair_keeps _ _ _ hk) hk

theorem kx1In_keeps {s0 : State} (s : State) (m : Nat) (b : Bytes) (hk : Keeps s0 s) : Keeps s0 (kx1In s m b) := by
  unfold kx1In
  iterate 60 (try (any_goals (first | with_reducible assumption | with_reducible apply keeps_ite | with_reducible apply keeps_ite_snd | with_reducible apply refusePair_keeps | with_reducible apply pairKeyed_keeps | with_reducible apply kxSign_keeps | with_reducible apply sendClear_keeps | with_reducible apply trngBytes_keeps | (with_reducible apply keeps_foldl <;> [skip; intro _ _ _]) | split | extract_lets | (apply keeps_eq; with_reducible assumption) | dsimp -zeta only | with_reducible apply keeps_mk)))

theorem kx2In_keeps {s0 : State} (s : State) (m : Nat) (b : Bytes) (hk : Keeps s0 s) : Keeps s0 (kx2In s m b) := by
  unfold kx2In
  iterate 60 (try (any_goals (first | with_reducible assumption | with_reducible apply keeps_ite | with_reducible apply keeps_ite_snd | with_reducible apply refusePair_keeps | with_reducible apply pairKeyed_keeps | (with_reducible apply keeps_foldl <;> [skip; intro _ _ _]) | split | extract_lets | (apply keeps_eq; with_reducible assumption) | dsimp -zeta only | with_reducible apply keeps_mk)))

theorem keyingRetry_keeps {s0 : State} (s : State) (m : Nat) (hk : Keeps s0 s) : Keeps s0 (keyingRetry s m) :=
  keeps_ite (startKeying_keeps _ _ hk) hk

theorem mseqRekey_keeps {s0 : State} (s : State) (m : Nat) (hk : Keeps s0 s) : Keeps s0 (mseqRekey s m) := by
  unfold mseqRekey
  iterate 60 (try (any_goals (first | with_reducible assumption | with_reducible apply keeps_ite | with_reducible apply keeps_ite_snd | with_reducible apply startKeying_keeps | with_reducible apply modPair_keeps | (with_reducible apply keeps_foldl <;> [skip; intro _ _ _]) | split | extract_lets | (apply keeps_eq; with_reducible assumption) | dsimp -zeta only | with_reducible apply keeps_mk)))

theorem stageIn_keeps {s0 : State} (s : State) (origin oseq slot : Nat) (copies : List KCopy) (erase : Bool) (hk : Keeps s0 s) : Keeps s0 (stageIn s origin oseq slot copies erase) :=
  keeps_ite hk (mirrorEntry_keeps _ _ hk)

theorem eraseIn_keeps {s0 : State} (s : State) (origin oseq slot : Nat) (hk : Keeps s0 s) : Keeps s0 (eraseIn s origin oseq slot) := by
  unfold eraseIn
  iterate 60 (try (any_goals (first | with_reducible assumption | with_reducible apply keeps_ite | with_reducible apply keeps_ite_snd | with_reducible apply stageIn_keeps | (with_reducible apply keeps_foldl <;> [skip; intro _ _ _]) | split | extract_lets | (apply keeps_eq; with_reducible assumption) | dsimp -zeta only | with_reducible apply keeps_mk)))

theorem execFlitReceive_keeps (l : Fin 4) (flit : List Byte) (s : State) : Goes s (execFlitReceive l flit s) :=
  ⟨_, rfl, flitIn_keeps _ _ _ (Keeps.refl s)⟩

theorem execNak_keeps (l : Fin 4) (seq : BitVec 12) (s : State) : Goes s (execNak l seq s) :=
  ⟨_, rfl, replayFrom_keeps _ _ _ (Keeps.refl s)⟩

theorem execReplayTimeout_keeps (l : Fin 4) (s : State) : Goes s (execReplayTimeout l s) := by
  have hk := Keeps.refl s
  unfold execReplayTimeout
  (try extract_lets)
  refine ⟨_, rfl, ?_⟩
  iterate 30 (try (any_goals (first | with_reducible assumption | with_reducible apply keeps_ite | with_reducible apply replayFrom_keeps | (with_reducible apply keeps_foldl <;> [skip; intro _ _ _]) | intro _ _ | split | extract_lets | dsimp -zeta only | with_reducible apply keeps_mk)))

theorem execWestadLaneFailure_keeps (l : Fin 4) (lane : Fin 4) (s : State) : Goes s (execWestadLaneFailure l lane s) :=
  ⟨_, rfl, linkLaneFails_keeps _ _ _ (Keeps.refl s)⟩

theorem execWestadLinkDown_keeps (l : Fin 4) (s : State) : Goes s (execWestadLinkDown l s) :=
  ⟨_, rfl, linkLost_keeps _ _ (Keeps.refl s)⟩

theorem execMessageResendTimeout_keeps (m : Fin 8) (s : State) : Goes s (execMessageResendTimeout m s) :=
  ⟨_, rfl, keeps_ite (Keeps.refl s) (resendPair_keeps _ _ (Keeps.refl s))⟩

theorem execRoute_keeps (m : Fin 8) (links : List (Fin 8 × Fin 8)) (s : State) : Goes s (execRoute m links s) :=
  ⟨_, rfl, routeIn_keeps _ _ _ (Keeps.refl s)⟩

theorem execAck_keeps (m : Fin 8) (_cls : Fin 3) (mseq : Nat) (s : State) : Goes s (execAck m _cls mseq s) :=
  ⟨_, rfl, ackIn_keeps _ _ _ (Keeps.refl s)⟩

theorem execKx1_keeps (m : Fin 8) (body : List Byte) (s : State) : Goes s (execKx1 m body s) :=
  ⟨_, rfl, kx1In_keeps _ _ _ (Keeps.refl s)⟩

theorem execKx2_keeps (m : Fin 8) (body : List Byte) (s : State) : Goes s (execKx2 m body s) :=
  ⟨_, rfl, kx2In_keeps _ _ _ (Keeps.refl s)⟩

theorem execKeyingRetry_keeps (m : Fin 8) (s : State) : Goes s (execKeyingRetry m s) :=
  ⟨_, rfl, keyingRetry_keeps _ _ (Keeps.refl s)⟩

theorem execMseqRekey_keeps (m : Fin 8) (s : State) : Goes s (execMseqRekey m s) :=
  ⟨_, rfl, mseqRekey_keeps _ _ (Keeps.refl s)⟩

theorem execStage_keeps (m origin : Fin 8) (oseq : Nat) (slot : Fin 262144) (copies : List (List Byte)) (s : State) : Goes s (execStage m origin oseq slot copies s) := by
  have hk := Keeps.refl s
  unfold execStage
  (try extract_lets)
  refine ⟨_, rfl, ?_⟩
  iterate 30 (try (any_goals (first | with_reducible assumption | with_reducible apply keeps_ite | with_reducible apply stageIn_keeps | with_reducible apply onMessage_keeps | (with_reducible apply keeps_foldl <;> [skip; intro _ _ _]) | intro _ _ | split | extract_lets | dsimp -zeta only | with_reducible apply keeps_mk)))

theorem execErase_keeps (m origin : Fin 8) (oseq : Nat) (slot : Fin 262144) (s : State) : Goes s (execErase m origin oseq slot s) := by
  have hk := Keeps.refl s
  unfold execErase
  (try extract_lets)
  refine ⟨_, rfl, ?_⟩
  iterate 30 (try (any_goals (first | with_reducible assumption | with_reducible apply keeps_ite | with_reducible apply eraseIn_keeps | with_reducible apply onMessage_keeps | (with_reducible apply keeps_foldl <;> [skip; intro _ _ _]) | intro _ _ | split | extract_lets | dsimp -zeta only | with_reducible apply keeps_mk)))

theorem execDiscardMsg_keeps (m origin : Fin 8) (_oseq : Nat) (s : State) : Goes s (execDiscardMsg m origin _oseq s) := by
  have hk := Keeps.refl s
  unfold execDiscardMsg
  (try extract_lets)
  refine ⟨_, rfl, ?_⟩
  iterate 30 (try (any_goals (first | with_reducible assumption | with_reducible apply keeps_ite | with_reducible apply onMessage_keeps | with_reducible apply discardStaged_keeps | (with_reducible apply keeps_foldl <;> [skip; intro _ _ _]) | intro _ _ | split | extract_lets | dsimp -zeta only | with_reducible apply keeps_mk)))

/-! ### Timebase -/

theorem tbSetWrite_keeps {s0 : State} (s : State) (p : Nat) (v : Word) (hk : Keeps s0 s) : Keeps s0 (tbSetWrite s p v) := by
  unfold tbSetWrite
  iterate 60 (try (any_goals (first | with_reducible assumption | with_reducible apply keeps_ite | with_reducible apply keeps_ite_snd | (with_reducible apply keeps_foldl <;> [skip; intro _ _ _]) | split | extract_lets | (apply keeps_eq; with_reducible assumption) | dsimp -zeta only | with_reducible apply keeps_mk)))

theorem raiseLock_keeps {s0 : State} (s : State) (hk : Keeps s0 s) : Keeps s0 (raiseLock s) :=
  keeps_ite hk (regSet_keeps _ _ _ _ hk)

theorem ptpSync_keeps {s0 : State} (s : State) (port domain : Nat) (m : PtpMessage) (hk : Keeps s0 s) : Keeps s0 (ptpSync s port domain m) := by
  unfold ptpSync
  iterate 60 (try (any_goals (first | with_reducible assumption | with_reducible apply keeps_ite | with_reducible apply keeps_ite_snd | with_reducible apply raiseLock_keeps | with_reducible apply setBits_keeps | (with_reducible apply keeps_foldl <;> [skip; intro _ _ _]) | split | extract_lets | (apply keeps_eq; with_reducible assumption) | dsimp -zeta only | with_reducible apply keeps_mk)))

theorem ptpLost_keeps {s0 : State} (s : State) (hk : Keeps s0 s) : Keeps s0 (ptpLost s) := by
  unfold ptpLost
  iterate 60 (try (any_goals (first | with_reducible assumption | with_reducible apply keeps_ite | with_reducible apply keeps_ite_snd | with_reducible apply fldSet_keeps | (with_reducible apply keeps_foldl <;> [skip; intro _ _ _]) | split | extract_lets | (apply keeps_eq; with_reducible assumption) | dsimp -zeta only | with_reducible apply keeps_mk)))

theorem bridge_keeps {s0 : State} (s : State) (hk : Keeps s0 s) : Keeps s0 (bridge s) := by
  unfold bridge
  iterate 60 (try (any_goals (first | with_reducible assumption | with_reducible apply keeps_ite | with_reducible apply keeps_ite_snd | with_reducible apply regSet_keeps | (with_reducible apply keeps_foldl <;> [skip; intro _ _ _]) | split | extract_lets | (apply keeps_eq; with_reducible assumption) | dsimp -zeta only | with_reducible apply keeps_mk)))

theorem ppsPulse_keeps {s0 : State} (s : State) (hk : Keeps s0 s) : Keeps s0 (ppsPulse s) := by
  unfold ppsPulse
  iterate 60 (try (any_goals (first | with_reducible assumption | with_reducible apply keeps_ite | with_reducible apply keeps_ite_snd | with_reducible apply emit_keeps | (with_reducible apply keeps_foldl <;> [skip; intro _ _ _]) | split | extract_lets | (apply keeps_eq; with_reducible assumption) | dsimp -zeta only | with_reducible apply keeps_mk)))

theorem execPtpMessage_keeps (port : Fin 2) (domain : Byte) (m : PtpMessage) (s : State) : Goes s (execPtpMessage port domain m s) :=
  ⟨_, rfl, ptpSync_keeps _ _ _ _ (Keeps.refl s)⟩

theorem execPtpLockLoss_keeps (s : State) : Goes s (execPtpLockLoss s) :=
  ⟨_, rfl, ptpLost_keeps _ (Keeps.refl s)⟩

theorem execTbSet_keeps (p : Fin 256) (v : Word) (s : State) : Goes s (execTbSet p v s) :=
  ⟨_, rfl, tbSetWrite_keeps _ _ _ (Keeps.refl s)⟩

theorem execPpsPulse_keeps (s : State) : Goes s (execPpsPulse s) :=
  ⟨_, rfl, ppsPulse_keeps _ (Keeps.refl s)⟩

/-! ### Governor -/

theorem pwrEvt_keeps {s0 : State} (s : State) (bit : Nat) (hk : Keeps s0 s) : Keeps s0 (pwrEvt s bit) := by
  unfold pwrEvt
  iterate 60 (try (any_goals (first | with_reducible assumption | with_reducible apply keeps_ite | with_reducible apply keeps_ite_snd | with_reducible apply raise_keeps | with_reducible apply setBits_keeps | (with_reducible apply keeps_foldl <;> [skip; intro _ _ _]) | split | extract_lets | (apply keeps_eq; with_reducible assumption) | dsimp -zeta only | with_reducible apply keeps_mk)))

theorem modSupply_keeps {s0 : State} (s : State) (f : Supply → Supply) (hk : Keeps s0 s) : Keeps s0 (modSupply s f) := by
  unfold modSupply
  iterate 60 (try (any_goals (first | with_reducible assumption | with_reducible apply keeps_ite | with_reducible apply keeps_ite_snd | (with_reducible apply keeps_foldl <;> [skip; intro _ _ _]) | split | extract_lets | (apply keeps_eq; with_reducible assumption) | dsimp -zeta only | with_reducible apply keeps_mk)))

theorem governorTick_keeps {s0 : State} (s : State) (i demand : Nat) (temp : Int) (ro : Nat) (hk : Keeps s0 s) : Keeps s0 (governorTick s i demand temp ro) := by
  unfold governorTick
  iterate 60 (try (any_goals (first | with_reducible assumption | with_reducible apply keeps_ite | with_reducible apply keeps_ite_snd | with_reducible apply pwrEvt_keeps | with_reducible apply modKr_keeps | (with_reducible apply keeps_foldl <;> [skip; intro _ _ _]) | split | extract_lets | (apply keeps_eq; with_reducible assumption) | dsimp -zeta only | with_reducible apply keeps_mk)))

theorem learningEnd_keeps {s0 : State} (s : State) (i : Nat) (hk : Keeps s0 s) : Keeps s0 (learningEnd s i) := by
  unfold learningEnd
  iterate 60 (try (any_goals (first | with_reducible assumption | with_reducible apply keeps_ite | with_reducible apply keeps_ite_snd | with_reducible apply modKr_keeps | with_reducible apply freeBytes_keeps | (with_reducible apply keeps_foldl <;> [skip; intro _ _ _]) | split | extract_lets | (apply keeps_eq; with_reducible assumption) | dsimp -zeta only | with_reducible apply keeps_mk)))

theorem ledgerHour_keeps {s0 : State} (s : State) (hk : Keeps s0 s) : Keeps s0 (ledgerHour s) := by
  unfold ledgerHour
  iterate 60 (try (any_goals (first | with_reducible assumption | with_reducible apply keeps_ite | with_reducible apply keeps_ite_snd | with_reducible apply audit_keeps | with_reducible apply modKr_keeps | (with_reducible apply keeps_foldl <;> [skip; intro _ _ _]) | split | extract_lets | (apply keeps_eq; with_reducible assumption) | dsimp -zeta only | with_reducible apply keeps_mk)))

theorem blowWear_keeps {s0 : State} (s : State) (i : Nat) (hk : Keeps s0 s) : Keeps s0 (blowWear s i) := by
  unfold blowWear
  apply keeps_ite _ hk
  refine keeps_fuses hk ⟨id, fun h => ⟨h, Nat.le_refl _, Nat.le_refl _⟩, Nat.le_refl _, Nat.le_refl _,
    ⟨fun h => by have hw := tset_wf i (tget 0 s.fuses.wear i + 1) h; exact hw, fun k => ?_⟩,
    List.prefix_refl _⟩ rfl rfl rfl
  show tget 0 s.fuses.wear k ≤ tget 0 (tset 0 s.fuses.wear i (tget 0 s.fuses.wear i + 1)) k
  by_cases e : k = i
  · rw [e, tget_tset_self]
    exact Nat.le_succ _
  · rw [tget_tset_ne _ _ _ _ e]

theorem measured_keeps {s0 : State} (s : State) (lo hi : Nat) (hk : Keeps s0 s) : Keeps s0 (measured s lo hi).2 := by
  unfold measured
  iterate 60 (try (any_goals (first | with_reducible assumption | with_reducible apply keeps_ite | with_reducible apply keeps_ite_snd | with_reducible apply freeWord_keeps | (with_reducible apply keeps_foldl <;> [skip; intro _ _ _]) | split | extract_lets | (apply keeps_eq; with_reducible assumption) | dsimp -zeta only | with_reducible apply keeps_mk)))

theorem flatBoundary_keeps {s0 : State} (s : State) (mean : Nat) (hk : Keeps s0 s) : Keeps s0 (flatBoundary s mean) := by
  unfold flatBoundary
  iterate 60 (try (any_goals (first | with_reducible assumption | with_reducible apply keeps_ite | with_reducible apply keeps_ite_snd | with_reducible apply measured_keeps | with_reducible apply modSupply_keeps | with_reducible apply pwrEvt_keeps | (with_reducible apply keeps_foldl <;> [skip; intro _ _ _]) | split | extract_lets | (apply keeps_eq; with_reducible assumption) | dsimp -zeta only | with_reducible apply keeps_mk)))

theorem flatWrite_keeps {s0 : State} (s : State) (p : Nat) (v : Word) (hk : Keeps s0 s) : Keeps s0 (flatWrite s p v) := by
  unfold flatWrite
  iterate 60 (try (any_goals (first | with_reducible assumption | with_reducible apply keeps_ite | with_reducible apply keeps_ite_snd | with_reducible apply measured_keeps | with_reducible apply modSupply_keeps | with_reducible apply plainWrite_keeps | (with_reducible apply keeps_foldl <;> [skip; intro _ _ _]) | split | extract_lets | (apply keeps_eq; with_reducible assumption) | dsimp -zeta only | with_reducible apply keeps_mk)))

theorem restEnter_keeps {s0 : State} (s : State) (c : Nat) (hk : Keeps s0 s) : Keeps s0 (restEnter s c) :=
  keeps_ite (modCyl_keeps _ _ _ hk) hk

theorem restLeave_keeps {s0 : State} (s : State) (c : Nat) (hk : Keeps s0 s) : Keeps s0 (restLeave s c) :=
  keeps_ite (settle_keeps _ (modCyl_keeps _ _ _ hk)) hk

theorem dozeEnter_keeps {s0 : State} (s : State) (k : Nat) (hk : Keeps s0 s) : Keeps s0 (dozeEnter s k) := by
  unfold dozeEnter
  iterate 60 (try (any_goals (first | with_reducible assumption | with_reducible apply keeps_ite | with_reducible apply keeps_ite_snd | with_reducible apply modKr_keeps | (with_reducible apply keeps_foldl <;> [skip; intro _ _ _]) | split | extract_lets | (apply keeps_eq; with_reducible assumption) | dsimp -zeta only | with_reducible apply keeps_mk)))

theorem dozeLeave_keeps {s0 : State} (s : State) (k : Nat) (hk : Keeps s0 s) : Keeps s0 (dozeLeave s k) :=
  keeps_ite (settle_keeps _ (modKr_keeps _ _ _ hk)) hk

theorem idleWrite_keeps {s0 : State} (s : State) (p : Nat) (v : Word) (hk : Keeps s0 s) : Keeps s0 (idleWrite s p v) := by
  unfold idleWrite
  iterate 60 (try (any_goals (first | with_reducible assumption | with_reducible apply keeps_ite | with_reducible apply keeps_ite_snd | with_reducible apply plainWrite_keeps | (with_reducible apply keeps_foldl <;> [skip; intro _ _ _]) | split | extract_lets | (apply keeps_eq; with_reducible assumption) | dsimp -zeta only | with_reducible apply keeps_mk)))

theorem execFlatWindowBoundary_keeps (meanLoad : Nat) (s : State) : Goes s (execFlatWindowBoundary meanLoad s) :=
  ⟨_, rfl, flatBoundary_keeps _ _ (Keeps.refl s)⟩

theorem execGovernorTick_keeps (k : Fin 16) (demand : Nat) (temp : Int) (ro : Nat) (s : State) : Goes s (execGovernorTick k demand temp ro s) :=
  ⟨_, rfl, settle_keeps _ (governorTick_keeps _ _ _ _ _ (Keeps.refl s))⟩

theorem execLedgerRecord_keeps (s : State) : Goes s (execLedgerRecord s) :=
  ⟨_, rfl, ledgerHour_keeps _ (Keeps.refl s)⟩

theorem execWearFuseBlow_keeps (k : Fin 16) (s : State) : Goes s (execWearFuseBlow k s) :=
  ⟨_, rfl, blowWear_keeps _ _ (Keeps.refl s)⟩

theorem execLearningEnd_keeps (k : Fin 16) (s : State) : Goes s (execLearningEnd k s) :=
  ⟨_, rfl, learningEnd_keeps _ _ (Keeps.refl s)⟩

theorem execRestEntry_keeps (c : Fin 128) (s : State) : Goes s (execRestEntry c s) :=
  ⟨_, rfl, restEnter_keeps _ _ (Keeps.refl s)⟩

theorem execRestExit_keeps (c : Fin 128) (s : State) : Goes s (execRestExit c s) :=
  ⟨_, rfl, restLeave_keeps _ _ (Keeps.refl s)⟩

theorem execDozeEntry_keeps (k : Fin 16) (s : State) : Goes s (execDozeEntry k s) :=
  ⟨_, rfl, dozeEnter_keeps _ _ (Keeps.refl s)⟩

theorem execDozeExit_keeps (k : Fin 16) (s : State) : Goes s (execDozeExit k s) :=
  ⟨_, rfl, dozeLeave_keeps _ _ (Keeps.refl s)⟩

theorem execCylIdleT_keeps (p : Fin 256) (v : Word) (s : State) : Goes s (execCylIdleT p v s) :=
  ⟨_, rfl, idleWrite_keeps _ _ _ (Keeps.refl s)⟩

/-! ### Seals -/

theorem trailer_keeps {s0 : State} (s : State) (final : Bool) (n : Nat) (hk : Keeps s0 s) : Keeps s0 (trailer s final n).2 := by
  unfold trailer
  iterate 60 (try (any_goals (first | with_reducible assumption | with_reducible apply keeps_ite | with_reducible apply keeps_ite_snd | with_reducible apply identitySign_keeps | with_reducible apply freeBytes_keeps | (with_reducible apply keeps_foldl <;> [skip; intro _ _ _]) | split | extract_lets | (apply keeps_eq; with_reducible assumption) | dsimp -zeta only | with_reducible apply keeps_mk)))

theorem modAudit_keeps {s0 : State} (s : State) (f : Audit → Audit) (hk : Keeps s0 s) : Keeps s0 (modAudit s f) := by
  unfold modAudit
  iterate 60 (try (any_goals (first | with_reducible assumption | with_reducible apply keeps_ite | with_reducible apply keeps_ite_snd | with_reducible apply audit_keeps | (with_reducible apply keeps_foldl <;> [skip; intro _ _ _]) | split | extract_lets | (apply keeps_eq; with_reducible assumption) | dsimp -zeta only | with_reducible apply keeps_mk)))

theorem beginSeal_keeps {s0 : State} (s : State) (va : Nat) (final : Bool) (hk : Keeps s0 s) :
    ∀ t, beginSeal s va final = some t → Keeps s0 t := by
  intro t ht
  have h1 : Keeps s0 (if final then blowEpoch s else s) := keeps_ite (blowEpoch_keeps _ hk) hk
  unfold beginSeal at ht
  dsimp only at ht
  split at ht
  · cases ht
  · cases ht
    exact modAudit_keeps _ _ (trailer_keeps _ _ _ h1)

theorem sealWrite_keeps {s0 : State} (s : State) (p : Nat) (va : VAddr) (final : Bool) (hk : Keeps s0 s) :
    Keeps s0 (sealWrite s p va final) := by
  unfold sealWrite
  apply keeps_ite hk
  extract_lets s1 ok
  have h1 : Keeps s0 s1 := fldSet_keeps _ _ _ _ _ _ hk
  apply keeps_ite (modAudit_keeps _ _ h1)
  split
  · exact modAudit_keeps _ _ h1
  · rename_i t e
    exact beginSeal_keeps _ _ _ h1 _ e

theorem sealDone_keeps {s0 : State} (s : State) (hk : Keeps s0 s) : Keeps s0 (sealDone s) := by
  unfold sealDone
  iterate 60 (try (any_goals (first | with_reducible assumption | with_reducible apply keeps_ite | with_reducible apply keeps_ite_snd | with_reducible apply modAudit_keeps | with_reducible apply storeBytes_keeps | with_reducible apply audit_keeps | (with_reducible apply keeps_foldl <;> [skip; intro _ _ _]) | split | extract_lets | (apply keeps_eq; with_reducible assumption) | dsimp -zeta only | with_reducible apply keeps_mk)))

theorem deviceFinal_keeps {s0 : State} (s : State) (hk : Keeps s0 s) : Keeps s0 (deviceFinal s) := by
  unfold deviceFinal
  iterate 60 (try (any_goals (first | with_reducible assumption | with_reducible apply keeps_ite | with_reducible apply keeps_ite_snd | with_reducible apply trailer_keeps | with_reducible apply blowEpoch_keeps | with_reducible apply emit_keeps | (with_reducible apply keeps_foldl <;> [skip; intro _ _ _]) | split | extract_lets | (apply keeps_eq; with_reducible assumption) | dsimp -zeta only | with_reducible apply keeps_mk)))

theorem setAttest_keeps {s0 : State} (s : State) (p st : Nat) (hk : Keeps s0 s) : Keeps s0 (setAttest s p st) := by
  unfold setAttest
  iterate 60 (try (any_goals (first | with_reducible assumption | with_reducible apply keeps_ite | with_reducible apply keeps_ite_snd | (with_reducible apply keeps_foldl <;> [skip; intro _ _ _]) | split | extract_lets | (apply keeps_eq; with_reducible assumption) | dsimp -zeta only | with_reducible apply keeps_mk)))

theorem attestWrite_keeps {s0 : State} (s : State) (p : Nat) (va : VAddr) (hk : Keeps s0 s) : Keeps s0 (attestWrite s p va) := by
  unfold attestWrite
  iterate 60 (try (any_goals (first | with_reducible assumption | with_reducible apply keeps_ite | with_reducible apply keeps_ite_snd | with_reducible apply setAttest_keeps | (with_reducible apply keeps_foldl <;> [skip; intro _ _ _]) | split | extract_lets | (apply keeps_eq; with_reducible assumption) | dsimp -zeta only | with_reducible apply keeps_mk)))

theorem attestDone_keeps {s0 : State} (s : State) (hk : Keeps s0 s) : Keeps s0 (attestDone s) := by
  unfold attestDone
  iterate 60 (try (any_goals (first | with_reducible assumption | with_reducible apply keeps_ite | with_reducible apply keeps_ite_snd | with_reducible apply setAttest_keeps | with_reducible apply storeBytes_keeps | with_reducible apply identitySign_keeps | with_reducible apply freeBytes_keeps | (with_reducible apply keeps_foldl <;> [skip; intro _ _ _]) | split | extract_lets | (apply keeps_eq; with_reducible assumption) | dsimp -zeta only | with_reducible apply keeps_mk)))

theorem execAuditSeal_keeps (p : Fin 256) (va : BitVec 56) (s : State) : Goes s (execAuditSeal p va s) :=
  ⟨_, rfl, sealWrite_keeps _ _ _ _ (Keeps.refl s)⟩

theorem execFinalSeal_keeps (p : Fin 256) (va : BitVec 56) (s : State) : Goes s (execFinalSeal p va s) :=
  ⟨_, rfl, sealWrite_keeps _ _ _ _ (Keeps.refl s)⟩

theorem execSealDone_keeps (s : State) : Goes s (execSealDone s) :=
  ⟨_, rfl, sealDone_keeps _ (Keeps.refl s)⟩

theorem execKeepAttest_keeps (p : Fin 256) (va : BitVec 56) (s : State) : Goes s (execKeepAttest p va s) :=
  ⟨_, rfl, attestWrite_keeps _ _ _ (Keeps.refl s)⟩

theorem execAttestDone_keeps (s : State) : Goes s (execAttestDone s) :=
  ⟨_, rfl, attestDone_keeps _ (Keeps.refl s)⟩

/-! ### Boot -/

theorem modBoot_keeps {s0 : State} (s : State) (f : Boot → Boot) (hk : Keeps s0 s) : Keeps s0 (modBoot s f) := by
  unfold modBoot
  iterate 60 (try (any_goals (first | with_reducible assumption | with_reducible apply keeps_ite | with_reducible apply keeps_ite_snd | (with_reducible apply keeps_foldl <;> [skip; intro _ _ _]) | split | extract_lets | (apply keeps_eq; with_reducible assumption) | dsimp -zeta only | with_reducible apply keeps_mk)))

theorem imageRecords_keeps {s0 : State} (s : State) (b : Bytes) (kinds : List Nat) (hk : Keeps s0 s) : Keeps s0 (imageRecords s b kinds) := by
  unfold imageRecords
  iterate 60 (try (any_goals (first | with_reducible assumption | with_reducible apply keeps_ite | with_reducible apply keeps_ite_snd | with_reducible apply audit_keeps | (with_reducible apply keeps_foldl <;> [skip; intro _ _ _]) | split | extract_lets | (apply keeps_eq; with_reducible assumption) | dsimp -zeta only | with_reducible apply keeps_mk)))

theorem restoreImage_keeps {s0 : State} (s : State) (turn : Nat) (b : Bytes) (hk : Keeps s0 s) :
    ∀ t, restoreImage s turn b = some t → Keeps s0 t := by
  intro t ht
  unfold restoreImage at ht
  split at ht
  · cases ht
  · split at ht
    · cases ht
    · split at ht
      · cases ht
      · extract_lets s1 at ht
        cases ht
        have h1 : Keeps s0 s1 := keeps_foldl _ hk (fun _ _ h => keeps_foldl _ h (fun _ _ h => putCopies_keeps _ _ _ h))
        exact keeps_of h1 rfl rfl rfl rfl

theorem sweepKeys_keeps {s0 : State} (s : State) (hk : Keeps s0 s) : Keeps s0 (sweepKeys s) := by
  unfold sweepKeys
  iterate 60 (try (any_goals (first | with_reducible assumption | with_reducible apply keeps_ite | with_reducible apply keeps_ite_snd | with_reducible apply readLive_keeps | (with_reducible apply keeps_foldl <;> [skip; intro _ _ _]) | split | extract_lets | (apply keeps_eq; with_reducible assumption) | dsimp -zeta only | with_reducible apply keeps_mk)))

theorem makeImage_keeps {s0 : State} (s : State) (hk : Keeps s0 s) : Keeps s0 (makeImage s).2 := by
  unfold makeImage
  iterate 60 (try (any_goals (first | with_reducible assumption | with_reducible apply keeps_ite | with_reducible apply keeps_ite_snd | with_reducible apply trngBytes_keeps | (with_reducible apply keeps_foldl <;> [skip; intro _ _ _]) | split | extract_lets | (apply keeps_eq; with_reducible assumption) | dsimp -zeta only | with_reducible apply keeps_mk)))

theorem loadOne_keeps {s0 : State} (s : State) (p off : Nat) (reloc : Bool) (d : Bytes) (hk : Keeps s0 s) :
    ∀ t, loadOne s p off reloc d = some t → Keeps s0 t := by
  intro t ht
  unfold loadOne at ht
  split at ht
  · cases ht
  · split at ht
    · cases ht
      exact hk
    · split at ht
      · cases ht
      · cases ht
        exact keeps_mem hk (fun x => memWrite_wf _ _ _ x) rfl rfl rfl

theorem loadEach_keeps {s0 : State} (s : State) (off : Nat) (reloc : Bool) (d : Bytes) (l : List Nat) (hk : Keeps s0 s) :
    ∀ t, loadEach s off reloc d l = some t → Keeps s0 t := by
  have h : ∀ (l : List Nat) (o : Option State), (∀ t, o = some t → Keeps s0 t) →
      ∀ t, l.foldl (fun o p => o.bind (fun s => loadOne s p off reloc d)) o = some t → Keeps s0 t := by
    intro l
    induction l with
    | nil => intro o ho t ht; exact ho t ht
    | cons p l ih =>
      intro o ho t ht
      refine ih _ (fun u hu => ?_) t ht
      obtain ⟨v, hv, hw⟩ := Option.bind_eq_some_iff.1 hu
      exact loadOne_keeps _ _ _ _ _ (ho v hv) _ hw
  exact h l (some s) (fun t e => Option.some.inj e ▸ hk)

theorem loadRecords_keeps {s0 : State} (kind : Nat) : ∀ (n : Nat) (b : Bytes) (s : State), Keeps s0 s →
    ∀ t, loadRecords kind n b s = some t → Keeps s0 t := by
  intro n
  induction n with
  | zero => intro b s hk t ht; cases ht; exact hk
  | succ n ih =>
    intro b s hk t ht
    unfold loadRecords at ht
    split at ht
    · cases ht; exact hk
    · split at ht
      · cases ht
      · split at ht
        · cases ht
        · split at ht
          · cases ht
          · rename_i s1 e
            exact ih _ s1 (loadEach_keeps _ _ _ _ _ hk _ e) t ht

theorem loadImages_keeps {s0 : State} (s : State) (b : Bytes) (hk : Keeps s0 s) : ∀ t, loadImages s b = some t → Keeps s0 t := by
  intro t ht
  unfold loadImages at ht
  extract_lets pay at ht
  split at ht
  · cases ht
  · rename_i s1 e
    exact loadRecords_keeps _ _ _ _ (loadRecords_keeps _ _ _ _ hk _ e) _ ht

theorem reRetire_keeps {s0 : State} (s : State) (cls ix : Nat) (hk : Keeps s0 s) : Keeps s0 (reRetire s cls ix) := by
  unfold reRetire
  iterate 60 (try (any_goals (first | with_reducible assumption | with_reducible apply keeps_ite | with_reducible apply keeps_ite_snd | with_reducible apply setUnit_keeps | with_reducible apply setLane_keeps | with_reducible apply domDown_keeps | with_reducible apply modUnit_keeps | with_reducible apply modEng_keeps | with_reducible apply modKr_keeps | (with_reducible apply keeps_foldl <;> [skip; intro _ _ _]) | split | extract_lets | (apply keeps_eq; with_reducible assumption) | dsimp -zeta only | with_reducible apply keeps_mk)))

theorem reRetireAll_keeps {s0 : State} (s : State) (hk : Keeps s0 s) : Keeps s0 (reRetireAll s) := by
  unfold reRetireAll
  iterate 60 (try (any_goals (first | with_reducible assumption | with_reducible apply keeps_ite | with_reducible apply keeps_ite_snd | with_reducible apply reRetire_keeps | (with_reducible apply keeps_foldl <;> [skip; intro _ _ _]) | split | extract_lets | (apply keeps_eq; with_reducible assumption) | dsimp -zeta only | with_reducible apply keeps_mk)))

theorem bootStep_keeps {s0 : State} (s : State) (n : Nat) (hk : Keeps s0 s) : Keeps s0 (bootStep s n) :=
  emit_keeps _ _ (modBoot_keeps _ _ hk)

theorem stopBoot_keeps {s0 : State} (s : State) (fail : Nat) (hk : Keeps s0 s) : Keeps s0 (stopBoot s fail) :=
  modBoot_keeps _ _ hk

theorem startVolt_keeps {s0 : State} (s : State) (hk : Keeps s0 s) : Keeps s0 (startVolt s).2 := by
  unfold startVolt
  iterate 60 (try (any_goals (first | with_reducible assumption | with_reducible apply keeps_ite | with_reducible apply keeps_ite_snd | with_reducible apply measured_keeps | (with_reducible apply keeps_foldl <;> [skip; intro _ _ _]) | split | extract_lets | (apply keeps_eq; with_reducible assumption) | dsimp -zeta only | with_reducible apply keeps_mk)))

theorem startRail_keeps {s0 : State} (s : State) (i : Nat) (hk : Keeps s0 s) : Keeps s0 (startRail s i) := by
  unfold startRail
  iterate 60 (try (any_goals (first | with_reducible assumption | with_reducible apply keeps_ite | with_reducible apply keeps_ite_snd | with_reducible apply startVolt_keeps | with_reducible apply modKr_keeps | (with_reducible apply keeps_foldl <;> [skip; intro _ _ _]) | split | extract_lets | (apply keeps_eq; with_reducible assumption) | dsimp -zeta only | with_reducible apply keeps_mk)))

theorem takeTrailer_keeps {s0 : State} (s : State) (t : Bytes) (hk : Keeps s0 s) : Keeps s0 (takeTrailer s t) := by
  unfold takeTrailer
  iterate 60 (try (any_goals (first | with_reducible assumption | with_reducible apply keeps_ite | with_reducible apply keeps_ite_snd | with_reducible apply startRail_keeps | with_reducible apply modAudit_keeps | with_reducible apply modKr_keeps | (with_reducible apply keeps_foldl <;> [skip; intro _ _ _]) | split | extract_lets | (apply keeps_eq; with_reducible assumption) | dsimp -zeta only | with_reducible apply keeps_mk)))

theorem takeFuses_keeps {s0 : State} (s : State) (hk : Keeps s0 s) : Keeps s0 (takeFuses s) := by
  unfold takeFuses
  iterate 60 (try (any_goals (first | with_reducible assumption | with_reducible apply keeps_ite | with_reducible apply keeps_ite_snd | with_reducible apply modKr_keeps | (with_reducible apply keeps_foldl <;> [skip; intro _ _ _]) | split | extract_lets | (apply keeps_eq; with_reducible assumption) | dsimp -zeta only | with_reducible apply keeps_mk)))

theorem fullTraining_keeps {s0 : State} (s : State) (hk : Keeps s0 s) : Keeps s0 (fullTraining s) := by
  have hf : Keeps s0 { s with free := s.free + 1 } := keeps_of hk rfl rfl rfl rfl
  unfold fullTraining
  split
  · exact modBoot_keeps _ _ hf
  · exact stopBoot_keeps _ _ hf

theorem trainDram_keeps {s0 : State} (s : State) (b : Bytes) (hk : Keeps s0 s) : Keeps s0 (trainDram s b) := by
  unfold trainDram
  extract_lets data
  clear_value data
  split
  · exact keeps_ite (modBoot_keeps _ _ hk) (fullTraining_keeps _ hk)
  · exact fullTraining_keeps _ hk

theorem applySettings_keeps {s0 : State} (s : State) (hk : Keeps s0 s) : Keeps s0 (applySettings s) := by
  unfold applySettings
  iterate 60 (try (any_goals (first | with_reducible assumption | with_reducible apply keeps_ite | with_reducible apply keeps_ite_snd | with_reducible apply moveDrbgs_keeps | with_reducible apply modKr_keeps | with_reducible apply fldSet_keeps | (with_reducible apply keeps_foldl <;> [skip; intro _ _ _]) | split | extract_lets | (apply keeps_eq; with_reducible assumption) | dsimp -zeta only | with_reducible apply keeps_mk)))

theorem startAll_keeps {s0 : State} (s : State) (hk : Keeps s0 s) : Keeps s0 (startAll s) := by
  unfold startAll
  iterate 60 (try (any_goals (first | with_reducible assumption | with_reducible apply keeps_ite | with_reducible apply keeps_ite_snd | with_reducible apply applySettings_keeps | with_reducible apply modBoot_keeps | with_reducible apply enterQuiet_keeps | with_reducible apply assignFree_keeps | with_reducible apply comePresent_keeps | (with_reducible apply keeps_foldl <;> [skip; intro _ _ _]) | split | extract_lets | (apply keeps_eq; with_reducible assumption) | dsimp -zeta only | with_reducible apply keeps_mk)))

theorem bootLater_keeps {s0 : State} (s : State) (b : Bytes) (hk : Keeps s0 s) : Keeps s0 (bootLater s b) := by
  unfold bootLater
  extract_lets s1 s2 s3 s4 turn due
  have h1 : Keeps s0 s1 := trainDram_keeps _ _ (bootStep_keeps _ _ hk)
  have h2 : Keeps s0 s2 := imageRecords_keeps _ _ _ (modBoot_keeps _ _ h1)
  have h3 : Keeps s0 s3 := bootStep_keeps _ _ h2
  have h4 : Keeps s0 s4 := bootStep_keeps _ _ (seedArbiters_keeps _ h3)
  apply keeps_ite h1
  apply keeps_ite (stopBoot_keeps _ _ h1)
  apply keeps_ite (stopBoot_keeps _ _ h3)
  split
  · exact stopBoot_keeps _ _ h4
  · rename_i s5 e
    have h5 : Keeps s0 s5 := by
      split at e
      · split at e
        · exact restoreImage_keeps _ _ _ h4 _ e
        · cases e
      · cases e; exact h4
    extract_lets s6
    have h6 : Keeps s0 s6 := sweepKeys_keeps _ h5
    apply keeps_ite (quietSettle_keeps _ h6)
    split
    · exact stopBoot_keeps _ _ (bootStep_keeps _ _ h6)
    · rename_i s7 e7
      exact startAll_keeps _ (loadImages_keeps _ _ (bootStep_keeps _ _ h6) _ e7)

theorem bootRun_keeps {s0 : State} (s : State) (b : Bytes) (hk : Keeps s0 s) : Keeps s0 (bootRun s b) := by
  unfold bootRun
  iterate 60 (try (any_goals (first | with_reducible assumption | with_reducible apply keeps_ite | with_reducible apply keeps_ite_snd | with_reducible apply bootLater_keeps | with_reducible apply takeFuses_keeps | with_reducible apply takeTrailer_keeps | with_reducible apply stopBoot_keeps | with_reducible apply bootStep_keeps | with_reducible apply imageRecords_keeps | with_reducible apply modBoot_keeps | with_reducible apply judgeModes_keeps | with_reducible apply audit_keeps | (with_reducible apply keeps_foldl <;> [skip; intro _ _ _]) | split | extract_lets | (apply keeps_eq; with_reducible assumption) | dsimp -zeta only | with_reducible apply keeps_mk)))

theorem drawNonces_keeps {s0 : State} (s : State) (hk : Keeps s0 s) : Keeps s0 (drawNonces s) := by
  unfold drawNonces
  iterate 60 (try (any_goals (first | with_reducible assumption | with_reducible apply keeps_ite | with_reducible apply keeps_ite_snd | with_reducible apply modBoot_keeps | with_reducible apply trngBytes_keeps | (with_reducible apply keeps_foldl <;> [skip; intro _ _ _]) | split | extract_lets | (apply keeps_eq; with_reducible assumption) | dsimp -zeta only | with_reducible apply keeps_mk)))

theorem sendGet_keeps {s0 : State} (s : State) (off len : Nat) (hk : Keeps s0 s) : Keeps s0 (sendGet s off len) :=
  emit_keeps _ _ (modBoot_keeps _ _ hk)

theorem startFetch_keeps {s0 : State} (s : State) (hk : Keeps s0 s) : Keeps s0 (startFetch s) := by
  unfold startFetch
  iterate 60 (try (any_goals (first | with_reducible assumption | with_reducible apply keeps_ite | with_reducible apply keeps_ite_snd | with_reducible apply sendGet_keeps | with_reducible apply modBoot_keeps | (with_reducible apply keeps_foldl <;> [skip; intro _ _ _]) | split | extract_lets | (apply keeps_eq; with_reducible assumption) | dsimp -zeta only | with_reducible apply keeps_mk)))

theorem rootFails_keeps {s0 : State} (s : State) (hk : Keeps s0 s) : Keeps s0 (rootFails s) := by
  unfold rootFails
  iterate 60 (try (any_goals (first | with_reducible assumption | with_reducible apply keeps_ite | with_reducible apply keeps_ite_snd | with_reducible apply stopBoot_keeps | with_reducible apply blowTamper_keeps | (with_reducible apply keeps_foldl <;> [skip; intro _ _ _]) | split | extract_lets | (apply keeps_eq; with_reducible assumption) | dsimp -zeta only | with_reducible apply keeps_mk)))

theorem rootStep_keeps {s0 : State} (s : State) (hk : Keeps s0 s) : Keeps s0 (rootStep s) := by
  unfold rootStep
  iterate 60 (try (any_goals (first | with_reducible assumption | with_reducible apply keeps_ite | with_reducible apply keeps_ite_snd | with_reducible apply rootFails_keeps | with_reducible apply bootStep_keeps | with_reducible apply modKeeper_keeps | (with_reducible apply keeps_foldl <;> [skip; intro _ _ _]) | split | extract_lets | (apply keeps_eq; with_reducible assumption) | dsimp -zeta only | with_reducible apply keeps_mk)))

/-- What a boot makes of the life-cycle fuses (R7, R451). -/
theorem bootLcs_grows (f : Fuses) : FusesGrow f (bootLcs f) := by
  unfold bootLcs
  split
  · rename_i ht
    exact ⟨fun _ => ht, fun h => ⟨⟨Nat.le_refl _, Nat.le_refl _⟩, Nat.le_trans h.1 h.2, h.2⟩, Nat.le_refl _, Nat.le_refl _,
      ⟨id, fun _ => Nat.le_refl _⟩, List.prefix_refl _⟩
  · exact ⟨id, fun h => ⟨⟨Nat.le_refl _, h.2⟩, h.1, Nat.le_refl _⟩, Nat.le_refl _, Nat.le_refl _,
      ⟨id, fun _ => Nat.le_refl _⟩, List.prefix_refl _⟩

theorem coldBase_keeps {s0 : State} (s : State) (hk : Keeps s0 s) : Keeps s0 (coldBase s) :=
  ⟨fun _ => rfl, hk.pending, hk.fuses.trans (bootLcs_grows _), hk.out⟩

theorem comesUp_keeps {s0 : State} (s : State) (hk : Keeps s0 s) : Keeps s0 (comesUp s).2 := by
  unfold comesUp
  iterate 60 (try (any_goals (first | with_reducible assumption | with_reducible apply keeps_ite | with_reducible apply keeps_ite_snd | with_reducible apply freeWord_keeps | (with_reducible apply keeps_foldl <;> [skip; intro _ _ _]) | split | extract_lets | (apply keeps_eq; with_reducible assumption) | dsimp -zeta only | with_reducible apply keeps_mk)))

theorem standby_keeps {s0 : State} (s : State) (hk : Keeps s0 s) : Keeps s0 (standby s) :=
  bootStep_keeps _ _ (bootStep_keeps _ _ (setHolds_keeps _ (coldBase_keeps _ hk)))

theorem coldFrom_keeps {s0 : State} (s : State) (hk : Keeps s0 s) : Keeps s0 (coldFrom s) := by
  unfold coldFrom
  iterate 60 (try (any_goals (first | with_reducible assumption | with_reducible apply keeps_ite | with_reducible apply keeps_ite_snd | with_reducible apply comesUp_keeps | with_reducible apply rootStep_keeps | with_reducible apply startFetch_keeps | with_reducible apply drawNonces_keeps | with_reducible apply stopBoot_keeps | with_reducible apply bootStep_keeps | with_reducible apply reRetireAll_keeps | (with_reducible apply keeps_foldl <;> [skip; intro _ _ _]) | split | extract_lets | (apply keeps_eq; with_reducible assumption) | dsimp -zeta only | with_reducible apply keeps_mk)))

theorem mainsApplied_keeps {s0 : State} (s : State) (hk : Keeps s0 s) : Keeps s0 (mainsApplied s) := by
  unfold mainsApplied
  iterate 60 (try (any_goals (first | with_reducible assumption | with_reducible apply keeps_ite | with_reducible apply keeps_ite_snd | with_reducible apply coldFrom_keeps | with_reducible apply standby_keeps | with_reducible apply comesUp_keeps | with_reducible apply stopBoot_keeps | (with_reducible apply keeps_foldl <;> [skip; intro _ _ _]) | split | extract_lets | (apply keeps_eq; with_reducible assumption) | dsimp -zeta only | with_reducible apply keeps_mk)))

theorem askMore_keeps {s0 : State} (nn : Nat) : ∀ {s : State}, Keeps s0 s → Keeps s0 (askMore s nn) := by
  induction nn with
  | zero => intros; unfold askMore
            iterate 30 (try (any_goals (first | with_reducible assumption | with_reducible apply keeps_ite | with_reducible apply keeps_ite_snd | with_reducible apply sendGet_keeps | (with_reducible apply keeps_foldl <;> [skip; intro _ _ _]) | split | extract_lets | (apply keeps_eq; with_reducible assumption) | dsimp -zeta only | with_reducible apply keeps_mk)))
  | succ nn ih =>
    intros
    unfold askMore
    iterate 60 (try (any_goals (first | with_reducible assumption | with_reducible apply ih | with_reducible apply keeps_ite | with_reducible apply keeps_ite_snd | with_reducible apply sendGet_keeps | (with_reducible apply keeps_foldl <;> [skip; intro _ _ _]) | split | extract_lets | (apply keeps_eq; with_reducible assumption) | dsimp -zeta only | with_reducible apply keeps_mk)))

theorem bundleData_keeps {s0 : State} (s : State) (off len : Nat) (b : Bytes) (hk : Keeps s0 s) : Keeps s0 (bundleData s off len b) := by
  unfold bundleData
  iterate 60 (try (any_goals (first | with_reducible assumption | with_reducible apply keeps_ite | with_reducible apply keeps_ite_snd | with_reducible apply askMore_keeps | with_reducible apply bootRun_keeps | with_reducible apply stopBoot_keeps | with_reducible apply modBoot_keeps | (with_reducible apply keeps_foldl <;> [skip; intro _ _ _]) | split | extract_lets | (apply keeps_eq; with_reducible assumption) | dsimp -zeta only | with_reducible apply keeps_mk)))

theorem warmBase_keeps {s0 : State} (s : State) (hk : Keeps s0 s) : Keeps s0 (warmBase s) := by
  unfold warmBase
  have h1 : Keeps s0 (endDebug s) := endDebug_keeps _ hk
  refine reRetireAll_keeps _ (setHolds_keeps _ (regSet_keeps _ _ _ _ (regSet_keeps _ _ _ _ (regSet_keeps _ _ _ _ ?_))))
  exact ⟨fun x => filter_wf _ (h1.mem x), h1.pending, h1.fuses.trans (bootLcs_grows _), h1.out⟩

theorem warmRoot_keeps {s0 : State} (s : State) (breach : Bool) (hk : Keeps s0 s) : Keeps s0 (warmRoot s breach) := by
  unfold warmRoot
  iterate 60 (try (any_goals (first | with_reducible assumption | with_reducible apply keeps_ite | with_reducible apply keeps_ite_snd | (with_reducible apply keeps_foldl <;> [skip; intro _ _ _]) | split | extract_lets | (apply keeps_eq; with_reducible assumption) | dsimp -zeta only | with_reducible apply keeps_mk)))

theorem warmBoot_keeps {s0 : State} (s : State) (bundle : Option Bytes) (hk : Keeps s0 s) : Keeps s0 (warmBoot s bundle) := by
  unfold warmBoot
  iterate 60 (try (any_goals (first | with_reducible assumption | with_reducible apply keeps_ite | with_reducible apply keeps_ite_snd | with_reducible apply warmRoot_keeps | with_reducible apply warmBase_keeps | with_reducible apply comesUp_keeps | with_reducible apply drawNonces_keeps | with_reducible apply bootRun_keeps | with_reducible apply stopBoot_keeps | with_reducible apply bootStep_keeps | with_reducible apply modBoot_keeps | (with_reducible apply keeps_foldl <;> [skip; intro _ _ _]) | split | extract_lets | (apply keeps_eq; with_reducible assumption) | dsimp -zeta only | with_reducible apply keeps_mk)))

theorem advanceSvn_keeps {s0 : State} (s : State) (hk : Keeps s0 s) : Keeps s0 (advanceSvn s) := by
  unfold advanceSvn
  split
  · rename_i hc
    exact keeps_fuses hk ⟨id, fun h => ⟨h, Nat.le_refl _, Nat.le_refl _⟩, Nat.le_refl _, Nat.le_of_lt hc.2.1,
      ⟨id, fun _ => Nat.le_refl _⟩, List.prefix_refl _⟩ rfl rfl rfl
  · exact hk

theorem readyAssert_keeps {s0 : State} (s : State) (hk : Keeps s0 s) : Keeps s0 (readyAssert s) := by
  unfold readyAssert
  iterate 60 (try (any_goals (first | with_reducible assumption | with_reducible apply keeps_ite | with_reducible apply keeps_ite_snd | with_reducible apply advanceSvn_keeps | with_reducible apply modBoot_keeps | with_reducible apply setHolds_keeps | (with_reducible apply keeps_foldl <;> [skip; intro _ _ _]) | split | extract_lets | (apply keeps_eq; with_reducible assumption) | dsimp -zeta only | with_reducible apply keeps_mk)))

theorem warmWrite_keeps {s0 : State} (s : State) (p : Nat) (hk : Keeps s0 s) : Keeps s0 (warmWrite s p) :=
  keeps_ite hk (keeps_ite (modBoot_keeps _ _ hk) (warmBoot_keeps _ _ hk))

theorem warmFromBundle_keeps {s0 : State} (s : State) (hk : Keeps s0 s) : Keeps s0 (warmFromBundle s) := by
  unfold warmFromBundle
  iterate 60 (try (any_goals (first | with_reducible assumption | with_reducible apply keeps_ite | with_reducible apply keeps_ite_snd | with_reducible apply warmBoot_keeps | with_reducible apply modBoot_keeps | (with_reducible apply keeps_foldl <;> [skip; intro _ _ _]) | split | extract_lets | (apply keeps_eq; with_reducible assumption) | dsimp -zeta only | with_reducible apply keeps_mk)))

theorem warmBundleWrite_keeps {s0 : State} (s : State) (p : Nat) (hk : Keeps s0 s) : Keeps s0 (warmBundleWrite s p) :=
  keeps_ite hk (keeps_ite (modBoot_keeps _ _ hk) (warmFromBundle_keeps _ hk))

theorem warmSettle_keeps {s0 : State} (s : State) (hk : Keeps s0 s) : Keeps s0 (warmSettle s) := by
  unfold warmSettle
  iterate 60 (try (any_goals (first | with_reducible assumption | with_reducible apply keeps_ite | with_reducible apply keeps_ite_snd | with_reducible apply warmFromBundle_keeps | with_reducible apply warmBoot_keeps | with_reducible apply modBoot_keeps | (with_reducible apply keeps_foldl <;> [skip; intro _ _ _]) | split | extract_lets | (apply keeps_eq; with_reducible assumption) | dsimp -zeta only | with_reducible apply keeps_mk)))

theorem exportTraining_keeps {s0 : State} (s : State) (p : Nat) (hk : Keeps s0 s) : Keeps s0 (exportTraining s p) := by
  unfold exportTraining
  iterate 60 (try (any_goals (first | with_reducible assumption | with_reducible apply keeps_ite | with_reducible apply keeps_ite_snd | with_reducible apply storeBytes_keeps | (with_reducible apply keeps_foldl <;> [skip; intro _ _ _]) | split | extract_lets | (apply keeps_eq; with_reducible assumption) | dsimp -zeta only | with_reducible apply keeps_mk)))

theorem ksImgWrite_keeps {s0 : State} (s : State) (p : Nat) (va : VAddr) (hk : Keeps s0 s) : Keeps s0 (ksImgWrite s p va) := by
  unfold ksImgWrite
  iterate 60 (try (any_goals (first | with_reducible assumption | with_reducible apply keeps_ite | with_reducible apply keeps_ite_snd | with_reducible apply makeImage_keeps | (with_reducible apply keeps_foldl <;> [skip; intro _ _ _]) | split | extract_lets | (apply keeps_eq; with_reducible assumption) | dsimp -zeta only | with_reducible apply keeps_mk)))

theorem ksImgDone_keeps {s0 : State} (s : State) (hk : Keeps s0 s) : Keeps s0 (ksImgDone s) := by
  unfold ksImgDone
  iterate 60 (try (any_goals (first | with_reducible assumption | with_reducible apply keeps_ite | with_reducible apply keeps_ite_snd | with_reducible apply storeBytes_keeps | (with_reducible apply keeps_foldl <;> [skip; intro _ _ _]) | split | extract_lets | (apply keeps_eq; with_reducible assumption) | dsimp -zeta only | with_reducible apply keeps_mk)))

theorem failReport_keeps {s0 : State} (s : State) (hk : Keeps s0 s) : Keeps s0 (failReport s) := by
  unfold failReport
  iterate 60 (try (any_goals (first | with_reducible assumption | with_reducible apply keeps_ite | with_reducible apply keeps_ite_snd | with_reducible apply sendGet_keeps | with_reducible apply modBoot_keeps | with_reducible apply emit_keeps | (with_reducible apply keeps_foldl <;> [skip; intro _ _ _]) | split | extract_lets | (apply keeps_eq; with_reducible assumption) | dsimp -zeta only | with_reducible apply keeps_mk)))

theorem quietExit_keeps {s0 : State} (s : State) (p : Nat) (hk : Keeps s0 s) : Keeps s0 (quietExit s p) := by
  unfold quietExit
  iterate 60 (try (any_goals (first | with_reducible assumption | with_reducible apply keeps_ite | with_reducible apply keeps_ite_snd | with_reducible apply warmBoot_keeps | with_reducible apply audit_keeps | (with_reducible apply keeps_foldl <;> [skip; intro _ _ _]) | split | extract_lets | (apply keeps_eq; with_reducible assumption) | dsimp -zeta only | with_reducible apply keeps_mk)))

theorem execMainsApplied_keeps (s : State) : Goes s (execMainsApplied s) :=
  ⟨_, rfl, mainsApplied_keeps _ (Keeps.refl s)⟩

theorem execBundleData_keeps (offset length : Nat) (bytes : List Byte) (s : State) : Goes s (execBundleData offset length bytes s) :=
  ⟨_, rfl, quietSettle_keeps _ (bundleData_keeps _ _ _ _ (Keeps.refl s))⟩

theorem execGetRetry_keeps (s : State) : Goes s (execGetRetry s) := by
  have hk := Keeps.refl s
  unfold execGetRetry
  (try extract_lets)
  refine ⟨_, rfl, ?_⟩
  iterate 30 (try (any_goals (first | with_reducible assumption | with_reducible apply keeps_ite | with_reducible apply emit_keeps | (with_reducible apply keeps_foldl <;> [skip; intro _ _ _]) | intro _ _ | split | extract_lets | dsimp -zeta only | with_reducible apply keeps_mk)))

theorem execGetBroadcast_keeps (s : State) : Goes s (execGetBroadcast s) :=
  ⟨_, rfl, keeps_ite (emit_keeps _ _ (Keeps.refl s)) (Keeps.refl s)⟩

theorem execBundleTimeout_keeps (s : State) : Goes s (execBundleTimeout s) :=
  ⟨_, rfl, keeps_ite (stopBoot_keeps _ _ (modBoot_keeps _ _ (Keeps.refl s))) (Keeps.refl s)⟩

theorem execBootFailReport_keeps (s : State) : Goes s (execBootFailReport s) :=
  ⟨_, rfl, failReport_keeps _ (Keeps.refl s)⟩

theorem execReadyAssert_keeps (s : State) : Goes s (execReadyAssert s) :=
  ⟨_, rfl, readyAssert_keeps _ (Keeps.refl s)⟩

theorem execLcBootGo_keeps (p : Fin 256) (s : State) : Goes s (execLcBootGo p s) :=
  ⟨_, rfl, keeps_ite (modBoot_keeps _ _ (Keeps.refl s)) (Keeps.refl s)⟩

theorem execLcBootWarm_keeps (p : Fin 256) (s : State) : Goes s (execLcBootWarm p s) :=
  ⟨_, rfl, quietSettle_keeps _ (warmWrite_keeps _ _ (Keeps.refl s))⟩

theorem execLcBootWarmBundle_keeps (p : Fin 256) (s : State) : Goes s (execLcBootWarmBundle p s) :=
  ⟨_, rfl, quietSettle_keeps _ (warmBundleWrite_keeps _ _ (Keeps.refl s))⟩

theorem execLcBootExportTraining_keeps (p : Fin 256) (s : State) : Goes s (execLcBootExportTraining p s) :=
  ⟨_, rfl, exportTraining_keeps _ _ (Keeps.refl s)⟩

theorem execKsImgExport_keeps (p : Fin 256) (va : BitVec 56) (s : State) : Goes s (execKsImgExport p va s) :=
  ⟨_, rfl, ksImgWrite_keeps _ _ _ (Keeps.refl s)⟩

theorem execKsImgExportDone_keeps (s : State) : Goes s (execKsImgExportDone s) :=
  ⟨_, rfl, ksImgDone_keeps _ (Keeps.refl s)⟩

theorem execQuietExit_keeps (p : Fin 256) (s : State) : Goes s (execQuietExit p s) :=
  ⟨_, rfl, quietSettle_keeps _ (quietExit_keeps _ _ (Keeps.refl s))⟩

theorem execSupplyRetry_keeps (up : Bool) (s : State) : Goes s (execSupplyRetry up s) :=
  ⟨_, rfl, keeps_ite (coldFrom_keeps _ (standby_keeps _ (Keeps.refl s))) (Keeps.refl s)⟩

end Sys2Proof.Machine
end

