-- ==== Sys2Proof/Laws/KeepsRest.lean ====
section
/-! SUPPORT. The supply, the Keeper, the life cycle, agreement, control space and the passing of time: each function keeps the relation of `Laws/Keeps.lean`, and each command of these
files answers a next state that it holds for. -/

set_option linter.all false
set_option linter.unusedTactic false
set_option linter.unreachableTactic false

namespace Sys2Proof.Machine

/-! ### Supply -/

theorem powerOff_keeps {s0 : State} (s : State) (hk : Keeps s0 s) : Keeps s0 (powerOff s) :=
  ⟨fun _ => rfl, hk.pending, hk.fuses, hk.out⟩

theorem powerRecord_keeps {s0 : State} (s : State) (n : Nat) (hk : Keeps s0 s) : Keeps s0 (powerRecord s n) :=
  audit_keeps _ _ _ _ _ hk

theorem readyLow_keeps {s0 : State} (s : State) (hk : Keeps s0 s) : Keeps s0 (readyLow s) := by
  unfold readyLow
  iterate 60 (try (any_goals (first | with_reducible assumption | with_reducible apply keeps_ite | with_reducible apply keeps_ite_snd | with_reducible apply setHolds_keeps | (with_reducible apply keeps_foldl <;> [skip; intro _ _ _]) | split | extract_lets | (apply keeps_eq; with_reducible assumption) | dsimp -zeta only | with_reducible apply keeps_mk)))

theorem mainsLost_keeps {s0 : State} (s : State) (hk : Keeps s0 s) : Keeps s0 (mainsLost s) := by
  unfold mainsLost
  iterate 60 (try (any_goals (first | with_reducible assumption | with_reducible apply keeps_ite | with_reducible apply keeps_ite_snd | with_reducible apply modSupply_keeps | with_reducible apply pwrEvt_keeps | (with_reducible apply keeps_foldl <;> [skip; intro _ _ _]) | split | extract_lets | (apply keeps_eq; with_reducible assumption) | dsimp -zeta only | with_reducible apply keeps_mk)))

theorem mainsBack_keeps {s0 : State} (s : State) (hk : Keeps s0 s) : Keeps s0 (mainsBack s) := by
  unfold mainsBack
  iterate 60 (try (any_goals (first | with_reducible assumption | with_reducible apply keeps_ite | with_reducible apply keeps_ite_snd | with_reducible apply measured_keeps | with_reducible apply modSupply_keeps | with_reducible apply pwrEvt_keeps | (with_reducible apply keeps_foldl <;> [skip; intro _ _ _]) | split | extract_lets | (apply keeps_eq; with_reducible assumption) | dsimp -zeta only | with_reducible apply keeps_mk)))

theorem holdUpEnds_keeps {s0 : State} (s : State) (hk : Keeps s0 s) : Keeps s0 (holdUpEnds s) := by
  unfold holdUpEnds
  iterate 60 (try (any_goals (first | with_reducible assumption | with_reducible apply keeps_ite | with_reducible apply keeps_ite_snd | with_reducible apply readyLow_keeps | with_reducible apply powerRecord_keeps | with_reducible apply powerOff_keeps | with_reducible apply modSupply_keeps | with_reducible apply pwrEvt_keeps | with_reducible apply modKr_keeps | (with_reducible apply keeps_foldl <;> [skip; intro _ _ _]) | split | extract_lets | (apply keeps_eq; with_reducible assumption) | dsimp -zeta only | with_reducible apply keeps_mk)))

theorem releaseLimit_keeps {s0 : State} (s : State) (hk : Keeps s0 s) : Keeps s0 (releaseLimit s) := by
  unfold releaseLimit
  iterate 60 (try (any_goals (first | with_reducible assumption | with_reducible apply keeps_ite | with_reducible apply keeps_ite_snd | with_reducible apply settle_keeps | with_reducible apply endCmds_keeps | (with_reducible apply keeps_foldl <;> [skip; intro _ _ _]) | split | extract_lets | (apply keeps_eq; with_reducible assumption) | dsimp -zeta only | with_reducible apply keeps_mk)))

theorem powerFailEnds_keeps {s0 : State} (s : State) (hk : Keeps s0 s) : Keeps s0 (powerFailEnds s) := by
  unfold powerFailEnds
  iterate 60 (try (any_goals (first | with_reducible assumption | with_reducible apply keeps_ite | with_reducible apply keeps_ite_snd | with_reducible apply powerRecord_keeps | with_reducible apply powerOff_keeps | with_reducible apply warmBoot_keeps | with_reducible apply deviceFinal_keeps | with_reducible apply measured_keeps | with_reducible apply modSupply_keeps | (with_reducible apply keeps_foldl <;> [skip; intro _ _ _]) | split | extract_lets | (apply keeps_eq; with_reducible assumption) | dsimp -zeta only | with_reducible apply keeps_mk)))

theorem pwrCtlWrite_keeps {s0 : State} (s : State) (p : Nat) (v : Word) (hk : Keeps s0 s) : Keeps s0 (pwrCtlWrite s p v) := by
  unfold pwrCtlWrite
  iterate 60 (try (any_goals (first | with_reducible assumption | with_reducible apply keeps_ite | with_reducible apply keeps_ite_snd | with_reducible apply powerFailEnds_keeps | with_reducible apply plainWrite_keeps | (with_reducible apply keeps_foldl <;> [skip; intro _ _ _]) | split | extract_lets | (apply keeps_eq; with_reducible assumption) | dsimp -zeta only | with_reducible apply keeps_mk)))

theorem sleepStatus_keeps {s0 : State} (s : State) (st : Nat) (hk : Keeps s0 s) : Keeps s0 (sleepStatus s st) :=
  fldSet_keeps _ _ _ _ _ _ hk

theorem sleepWrite_sleepDecide_keeps {s0 : State} (s : State) (hk : Keeps s0 s) : Keeps s0 (sleepWrite.sleepDecide s) := by
  unfold sleepWrite.sleepDecide
  exact readyLow_keeps _ (modSupply_keeps _ _ (sleepStatus_keeps _ _ hk))

theorem sleepWrite_keeps {s0 : State} (s : State) (p : Nat) (v : Word) (hk : Keeps s0 s) : Keeps s0 (sleepWrite s p v) := by
  unfold sleepWrite
  iterate 60 (try (any_goals (first | with_reducible assumption | with_reducible apply keeps_ite | with_reducible apply keeps_ite_snd | with_reducible apply sleepWrite_sleepDecide_keeps | with_reducible apply sleepStatus_keeps | with_reducible apply readyLow_keeps | with_reducible apply modSupply_keeps | with_reducible apply pwrEvt_keeps | with_reducible apply plainWrite_keeps | with_reducible apply fldSet_keeps | (with_reducible apply keeps_foldl <;> [skip; intro _ _ _]) | split | extract_lets | (apply keeps_eq; with_reducible assumption) | dsimp -zeta only | with_reducible apply keeps_mk)))

theorem watchEnter_keeps {s0 : State} (s : State) (hk : Keeps s0 s) : Keeps s0 (watchEnter s) := by
  unfold watchEnter
  iterate 60 (try (any_goals (first | with_reducible assumption | with_reducible apply keeps_ite | with_reducible apply keeps_ite_snd | with_reducible apply modSupply_keeps | with_reducible apply linkDown_keeps | with_reducible apply dropLink_keeps | with_reducible apply downDomain_keeps | with_reducible apply setLane_keeps | with_reducible apply domDown_keeps | (with_reducible apply keeps_foldl <;> [skip; intro _ _ _]) | split | extract_lets | (apply keeps_eq; with_reducible assumption) | dsimp -zeta only | with_reducible apply keeps_mk)))

theorem watchDrainEnds_keeps {s0 : State} (s : State) (hk : Keeps s0 s) : Keeps s0 (watchDrainEnds s) := by
  unfold watchDrainEnds
  iterate 60 (try (any_goals (first | with_reducible assumption | with_reducible apply keeps_ite | with_reducible apply keeps_ite_snd | with_reducible apply watchEnter_keeps | with_reducible apply endJobs_keeps | with_reducible apply settle_keeps | with_reducible apply endCmds_keeps | with_reducible apply askFreeze_keeps | (with_reducible apply keeps_foldl <;> [skip; intro _ _ _]) | split | extract_lets | (apply keeps_eq; with_reducible assumption) | dsimp -zeta only | with_reducible apply keeps_mk)))

theorem idleSessions_keeps {s0 : State} (s : State) (hk : Keeps s0 s) : Keeps s0 (idleSessions s) := by
  unfold idleSessions
  iterate 60 (try (any_goals (first | with_reducible assumption | with_reducible apply keeps_ite | with_reducible apply keeps_ite_snd | with_reducible apply dropSession_keeps | (with_reducible apply keeps_foldl <;> [skip; intro _ _ _]) | split | extract_lets | (apply keeps_eq; with_reducible assumption) | dsimp -zeta only | with_reducible apply keeps_mk)))

theorem reloadBlanks_keeps {s0 : State} (s : State) (hk : Keeps s0 s) : Keeps s0 (reloadBlanks s) := by
  unfold reloadBlanks
  iterate 60 (try (any_goals (first | with_reducible assumption | with_reducible apply keeps_ite | with_reducible apply keeps_ite_snd | with_reducible apply blankLoad_keeps | with_reducible apply modKr_keeps | (with_reducible apply keeps_foldl <;> [skip; intro _ _ _]) | split | extract_lets | (apply keeps_eq; with_reducible assumption) | dsimp -zeta only | with_reducible apply keeps_mk)))

theorem watchWakes_keeps {s0 : State} (s : State) (hk : Keeps s0 s) : Keeps s0 (watchWakes s) := by
  unfold watchWakes
  iterate 60 (try (any_goals (first | with_reducible assumption | with_reducible apply keeps_ite | with_reducible apply keeps_ite_snd | with_reducible apply reloadBlanks_keeps | with_reducible apply idleSessions_keeps | with_reducible apply sleepStatus_keeps | with_reducible apply modSupply_keeps | with_reducible apply pwrEvt_keeps | with_reducible apply bridge_keeps | with_reducible apply nextCommit_keeps | with_reducible apply releaseThr_keeps | with_reducible apply settle_keeps | with_reducible apply unseedArbiters_keeps | with_reducible apply seedArbiters_keeps | with_reducible apply modDom_keeps | with_reducible apply modKr_keeps | with_reducible apply fldSet_keeps | (with_reducible apply keeps_foldl <;> [skip; intro _ _ _]) | split | extract_lets | (apply keeps_eq; with_reducible assumption) | dsimp -zeta only | with_reducible apply keeps_mk)))

theorem watchMainsGone_keeps {s0 : State} (s : State) (hk : Keeps s0 s) : Keeps s0 (watchMainsGone s) :=
  keeps_ite (powerOff_keeps _ (deviceFinal_keeps _ hk)) hk

theorem padrelWrite_keeps {s0 : State} (s : State) (p : Nat) (v : Word) (hk : Keeps s0 s) : Keeps s0 (padrelWrite s p v) :=
  keeps_ite hk (modSupply_keeps _ _ hk)

theorem execMainsLoss_keeps (s : State) : Goes s (execMainsLoss s) :=
  ⟨_, rfl, mainsLost_keeps _ (Keeps.refl s)⟩

theorem execMainsReturn_keeps (s : State) : Goes s (execMainsReturn s) :=
  ⟨_, rfl, mainsBack_keeps _ (Keeps.refl s)⟩

theorem execHoldUpExpiry_keeps (s : State) : Goes s (execHoldUpExpiry s) :=
  ⟨_, rfl, holdUpEnds_keeps _ (Keeps.refl s)⟩

theorem execPowerFailReleaseLimit_keeps (s : State) : Goes s (execPowerFailReleaseLimit s) :=
  ⟨_, rfl, releaseLimit_keeps _ (Keeps.refl s)⟩

theorem execPfdone_keeps (p : Fin 256) (s : State) : Goes s (execPfdone p s) :=
  ⟨_, rfl, keeps_ite (quietSettle_keeps _ (powerFailEnds_keeps _ (Keeps.refl s))) (Keeps.refl s)⟩

theorem execPowerFailEnd_keeps (s : State) : Goes s (execPowerFailEnd s) :=
  ⟨_, rfl, keeps_ite (quietSettle_keeps _ (powerFailEnds_keeps _ (Keeps.refl s))) (Keeps.refl s)⟩

theorem execPwrSleep_keeps (p : Fin 256) (v : Word) (s : State) : Goes s (execPwrSleep p v s) :=
  ⟨_, rfl, sleepWrite_keeps _ _ _ (Keeps.refl s)⟩

theorem execWatchDrainEnd_keeps (s : State) : Goes s (execWatchDrainEnd s) :=
  ⟨_, rfl, watchDrainEnds_keeps _ (Keeps.refl s)⟩

theorem execWakeAlarm_keeps (s : State) : Goes s (execWakeAlarm s) :=
  ⟨_, rfl, keeps_ite (wakeEvent_keeps _ _ (Keeps.refl s)) (Keeps.refl s)⟩

theorem execWakeN_keeps (s : State) : Goes s (execWakeN s) :=
  ⟨_, rfl, wakeEvent_keeps _ _ (Keeps.refl s)⟩

theorem execWatchWake_keeps (s : State) : Goes s (execWatchWake s) :=
  ⟨_, rfl, quietSettle_keeps _ (watchWakes_keeps _ (Keeps.refl s))⟩

theorem execWatchMainsAbsent_keeps (s : State) : Goes s (execWatchMainsAbsent s) :=
  ⟨_, rfl, watchMainsGone_keeps _ (Keeps.refl s)⟩

theorem execKeepPadrel_keeps (p : Fin 256) (v : Word) (s : State) : Goes s (execKeepPadrel p v s) :=
  ⟨_, rfl, padrelWrite_keeps _ _ _ (Keeps.refl s)⟩

/-! ### Keeper -/

theorem keeperRecord_keeps {s0 : State} (s : State) (n : Nat) (hk : Keeps s0 s) : Keeps s0 (keeperRecord s n) :=
  audit_keeps _ _ _ _ _ hk

theorem tampBit_keeps {s0 : State} (s : State) (i : Nat) (hk : Keeps s0 s) : Keeps s0 (tampBit s i) :=
  setBits_keeps _ _ _ _ hk

theorem keeperQuiet_keeps {s0 : State} (s : State) (cause : Nat) (hk : Keeps s0 s) : Keeps s0 (keeperQuiet s cause) :=
  enterQuiet_keeps _ _ (watchWakes_keeps _ (wakeEvent_keeps _ _ hk))

theorem crystalGood_keeps {s0 : State} (s : State) (hk : Keeps s0 s) : Keeps s0 (crystalGood s) := by
  unfold crystalGood
  iterate 60 (try (any_goals (first | with_reducible assumption | with_reducible apply keeps_ite | with_reducible apply keeps_ite_snd | with_reducible apply keeperRecord_keeps | with_reducible apply modKeeper_keeps | (with_reducible apply keeps_foldl <;> [skip; intro _ _ _]) | split | extract_lets | (apply keeps_eq; with_reducible assumption) | dsimp -zeta only | with_reducible apply keeps_mk)))

theorem crystalGone_keeps {s0 : State} (s : State) (hk : Keeps s0 s) : Keeps s0 (crystalGone s) :=
  keeps_ite hk (keeperRecord_keeps _ _ (tampBit_keeps _ _ (modKeeper_keeps _ _ hk)))

theorem crystalLate_keeps {s0 : State} (s : State) (hk : Keeps s0 s) : Keeps s0 (crystalLate s) :=
  keeps_ite hk (keeperRecord_keeps _ _ (tampBit_keeps _ _ (modKeeper_keeps _ _ hk)))

theorem keeperDead_keeps {s0 : State} (s : State) (hk : Keeps s0 s) : Keeps s0 (keeperDead s) :=
  keeps_ite hk (keeperQuiet_keeps _ _ (tampBit_keeps _ _ hk))

theorem keeperTested_keeps {s0 : State} (s : State) (passed : Bool) (hk : Keeps s0 s) : Keeps s0 (keeperTested s passed) :=
  keeps_ite hk (keeperQuiet_keeps _ _ (keeperRecord_keeps _ _ (tampBit_keeps _ _ hk)))

theorem zeroThread_keeps {s0 : State} (s : State) (t : Nat) (hk : Keeps s0 s) : Keeps s0 (zeroThread s t) := by
  unfold zeroThread
  iterate 60 (try (any_goals (first | with_reducible assumption | with_reducible apply keeps_ite | with_reducible apply keeps_ite_snd | with_reducible apply rawThr_keeps | (with_reducible apply keeps_foldl <;> [skip; intro _ _ _]) | split | extract_lets | (apply keeps_eq; with_reducible assumption) | dsimp -zeta only | with_reducible apply keeps_mk)))

theorem zeroIntake_keeps {s0 : State} (s : State) (hk : Keeps s0 s) : Keeps s0 (zeroIntake s) := by
  unfold zeroIntake
  iterate 60 (try (any_goals (first | with_reducible assumption | with_reducible apply keeps_ite | with_reducible apply keeps_ite_snd | with_reducible apply setPressure_keeps | (with_reducible apply keeps_foldl <;> [skip; intro _ _ _]) | split | extract_lets | (apply keeps_eq; with_reducible assumption) | dsimp -zeta only | with_reducible apply keeps_mk)))

theorem zeroizeSet_keeps {s0 : State} (s : State) (breach : Bool) (hk : Keeps s0 s) : Keeps s0 (zeroizeSet s breach) := by
  unfold zeroizeSet
  iterate 60 (try (any_goals (first | with_reducible assumption | with_reducible apply keeps_ite | with_reducible apply keeps_ite_snd | with_reducible apply zeroIntake_keeps | with_reducible apply zeroThread_keeps | with_reducible apply zeroizeKeys_keeps | with_reducible apply modKeeper_keeps | with_reducible apply clearMem_keeps | (with_reducible apply keeps_foldl <;> [skip; intro _ _ _]) | split | extract_lets | (apply keeps_eq; with_reducible assumption) | dsimp -zeta only | with_reducible apply keeps_mk)))

theorem abortRequests_keeps {s0 : State} (s : State) (hk : Keeps s0 s) : Keeps s0 (abortRequests s) := by
  unfold abortRequests
  iterate 60 (try (any_goals (first | with_reducible assumption | with_reducible apply keeps_ite | with_reducible apply keeps_ite_snd | with_reducible apply setAttest_keeps | with_reducible apply modAudit_keeps | with_reducible apply putAgree_keeps | with_reducible apply abandonCommit_keeps | (with_reducible apply keeps_foldl <;> [skip; intro _ _ _]) | split | extract_lets | (apply keeps_eq; with_reducible assumption) | dsimp -zeta only | with_reducible apply keeps_mk)))

theorem tamperRecord_keeps {s0 : State} (s : State) (hk : Keeps s0 s) : Keeps s0 (tamperRecord s) := by
  unfold tamperRecord
  iterate 60 (try (any_goals (first | with_reducible assumption | with_reducible apply keeps_ite | with_reducible apply keeps_ite_snd | with_reducible apply audit_keeps | with_reducible apply freeBytes_keeps | (with_reducible apply keeps_foldl <;> [skip; intro _ _ _]) | split | extract_lets | (apply keeps_eq; with_reducible assumption) | dsimp -zeta only | with_reducible apply keeps_mk)))

theorem tamper_keeps {s0 : State} (s : State) (bit : Nat) (breach : Bool) (hk : Keeps s0 s) : Keeps s0 (tamper s bit breach) := by
  unfold tamper
  iterate 60 (try (any_goals (first | with_reducible assumption | with_reducible apply keeps_ite | with_reducible apply keeps_ite_snd | with_reducible apply tamperRecord_keeps | with_reducible apply abortRequests_keeps | with_reducible apply zeroizeSet_keeps | with_reducible apply keeperQuiet_keeps | with_reducible apply tampBit_keeps | with_reducible apply settle_keeps | with_reducible apply blowTamper_keeps | (with_reducible apply keeps_foldl <;> [skip; intro _ _ _]) | split | extract_lets | (apply keeps_eq; with_reducible assumption) | dsimp -zeta only | with_reducible apply keeps_mk)))

theorem meshDestroyed_keeps {s0 : State} (s : State) (hk : Keeps s0 s) : Keeps s0 (meshDestroyed s) :=
  keeps_fuses hk ⟨id, fun h => ⟨h, Nat.le_refl _, Nat.le_refl _⟩, Nat.le_refl _, Nat.le_refl _, ⟨id, fun _ => Nat.le_refl _⟩, List.prefix_refl _⟩ rfl rfl rfl

theorem meshBroken_keeps {s0 : State} (s : State) (hk : Keeps s0 s) : Keeps s0 (meshBroken s) := by
  unfold meshBroken
  iterate 60 (try (any_goals (first | with_reducible assumption | with_reducible apply keeps_ite | with_reducible apply keeps_ite_snd | with_reducible apply meshDestroyed_keeps | with_reducible apply tamper_keeps | with_reducible apply modKeeper_keeps | (with_reducible apply keeps_foldl <;> [skip; intro _ _ _]) | split | extract_lets | (apply keeps_eq; with_reducible assumption) | dsimp -zeta only | with_reducible apply keeps_mk)))

theorem meshDecoded_keeps {s0 : State} (s : State) (decodes : Bool) (hk : Keeps s0 s) : Keeps s0 (meshDecoded s decodes) := by
  unfold meshDecoded
  iterate 60 (try (any_goals (first | with_reducible assumption | with_reducible apply keeps_ite | with_reducible apply keeps_ite_snd | with_reducible apply tamper_keeps | with_reducible apply modKeeper_keeps | (with_reducible apply keeps_foldl <;> [skip; intro _ _ _]) | split | extract_lets | (apply keeps_eq; with_reducible assumption) | dsimp -zeta only | with_reducible apply keeps_mk)))

theorem lightSeen_keeps {s0 : State} (s : State) (hk : Keeps s0 s) : Keeps s0 (lightSeen s) :=
  keeps_ite hk (tamper_keeps _ _ _ (modKeeper_keeps _ _ hk))

theorem tempSample_keeps {s0 : State} (s : State) (sensor : Nat) (c : Int) (hk : Keeps s0 s) : Keeps s0 (tempSample s sensor c) := by
  unfold tempSample
  iterate 60 (try (any_goals (first | with_reducible assumption | with_reducible apply keeps_ite | with_reducible apply keeps_ite_snd | with_reducible apply tamper_keeps | with_reducible apply modKeeper_keeps | (with_reducible apply keeps_foldl <;> [skip; intro _ _ _]) | split | extract_lets | (apply keeps_eq; with_reducible assumption) | dsimp -zeta only | with_reducible apply keeps_mk)))

theorem railGlitched_keeps {s0 : State} (s : State) (rail : Nat) (hk : Keeps s0 s) : Keeps s0 (railGlitched s rail) :=
  keeps_ite hk (tamper_keeps _ _ _ (modKeeper_keeps _ _ (bump_keeps _ _ _ _ _ _ hk)))

theorem wcfgWrite_keeps {s0 : State} (s : State) (p : Nat) (v : Word) (hk : Keeps s0 s) : Keeps s0 (wcfgWrite s p v) :=
  keeps_ite hk (plainWrite_keeps _ _ _ _ hk)

theorem execCrystalQualified_keeps (s : State) : Goes s (execCrystalQualified s) :=
  ⟨_, rfl, crystalGood_keeps _ (Keeps.refl s)⟩

theorem execCrystalLost_keeps (s : State) : Goes s (execCrystalLost s) :=
  ⟨_, rfl, crystalGone_keeps _ (Keeps.refl s)⟩

theorem execCrystalStartTimeout_keeps (s : State) : Goes s (execCrystalStartTimeout s) :=
  ⟨_, rfl, crystalLate_keeps _ (Keeps.refl s)⟩

theorem execKeeperWatchdogExpiry_keeps (s : State) : Goes s (execKeeperWatchdogExpiry s) :=
  ⟨_, rfl, keeperDead_keeps _ (Keeps.refl s)⟩

theorem execKeeperSelfTest_keeps (passed : Bool) (s : State) : Goes s (execKeeperSelfTest passed s) :=
  ⟨_, rfl, keeperTested_keeps _ _ (Keeps.refl s)⟩

theorem execMeshContinuityFault_keeps (_segment : Fin 512) (s : State) : Goes s (execMeshContinuityFault _segment s) :=
  ⟨_, rfl, meshBroken_keeps _ (Keeps.refl s)⟩

theorem execMeshPatternCheck_keeps (decodes : Bool) (s : State) : Goes s (execMeshPatternCheck decodes s) :=
  ⟨_, rfl, meshDecoded_keeps _ _ (Keeps.refl s)⟩

theorem execLightDetected_keeps (_diode : Fin 8) (s : State) : Goes s (execLightDetected _diode s) :=
  ⟨_, rfl, lightSeen_keeps _ (Keeps.refl s)⟩

theorem execTemperatureSample_keeps (sensor : Fin 4) (celsius : Int) (s : State) : Goes s (execTemperatureSample sensor celsius s) :=
  ⟨_, rfl, tempSample_keeps _ _ _ (Keeps.refl s)⟩

theorem execRailGlitch_keeps (rail : Fin 24) (s : State) : Goes s (execRailGlitch rail s) :=
  ⟨_, rfl, railGlitched_keeps _ _ (Keeps.refl s)⟩

/-! ### LifeCycle -/

theorem lcResult_keeps {s0 : State} (s : State) (target r : Nat) (hk : Keeps s0 s) : Keeps s0 (lcResult s target r) := by
  unfold lcResult
  iterate 60 (try (any_goals (first | with_reducible assumption | with_reducible apply keeps_ite | with_reducible apply keeps_ite_snd | (with_reducible apply keeps_foldl <;> [skip; intro _ _ _]) | split | extract_lets | (apply keeps_eq; with_reducible assumption) | dsimp -zeta only | with_reducible apply keeps_mk)))

theorem newNonce_keeps {s0 : State} (s : State) (hk : Keeps s0 s) : Keeps s0 (newNonce s) := by
  unfold newNonce
  iterate 60 (try (any_goals (first | with_reducible assumption | with_reducible apply keeps_ite | with_reducible apply keeps_ite_snd | with_reducible apply modBoot_keeps | with_reducible apply trngBytes_keeps | (with_reducible apply keeps_foldl <;> [skip; intro _ _ _]) | split | extract_lets | (apply keeps_eq; with_reducible assumption) | dsimp -zeta only | with_reducible apply keeps_mk)))

theorem lcRecord_keeps {s0 : State} (s : State) (target r : Nat) (hk : Keeps s0 s) : Keeps s0 (lcRecord s target r) :=
  audit_keeps _ _ _ _ _ hk

theorem blowShare_keeps {s0 : State} (s : State) (share : Bytes) (hk : Keeps s0 s) : Keeps s0 (blowShare s share) :=
  keeps_fuses hk ⟨id, fun h => ⟨h, Nat.le_refl _, Nat.le_refl _⟩, Nat.le_refl _, Nat.le_refl _, ⟨id, fun _ => Nat.le_refl _⟩, List.prefix_refl _⟩ rfl rfl rfl

theorem blowRootCheck_keeps {s0 : State} (s : State) (hk : Keeps s0 s) : Keeps s0 (blowRootCheck s) :=
  keeps_fuses hk ⟨id, fun h => ⟨h, Nat.le_refl _, Nat.le_refl _⟩, Nat.le_refl _, Nat.le_refl _, ⟨id, fun _ => Nat.le_refl _⟩, List.prefix_refl _⟩ rfl rfl rfl

theorem blowOwner_keeps {s0 : State} (s : State) (d : Bytes) (hk : Keeps s0 s) : Keeps s0 (blowOwner s d) :=
  keeps_fuses hk ⟨id, fun h => ⟨h, Nat.le_refl _, Nat.le_refl _⟩, Nat.le_refl _, Nat.le_refl _, ⟨id, fun _ => Nat.le_refl _⟩, List.prefix_refl _⟩ rfl rfl rfl

theorem blowHelpers_keeps {s0 : State} (s : State) (hk : Keeps s0 s) : Keeps s0 (blowHelpers s) :=
  keeps_fuses hk ⟨id, fun h => ⟨h, Nat.le_refl _, Nat.le_refl _⟩, Nat.le_refl _, Nat.le_refl _, ⟨id, fun _ => Nat.le_refl _⟩, List.prefix_refl _⟩ rfl rfl rfl

theorem enrol_keeps {s0 : State} (s : State) (hk : Keeps s0 s) : Keeps s0 (enrol s) := by
  unfold enrol
  iterate 60 (try (any_goals (first | with_reducible assumption | with_reducible apply keeps_ite | with_reducible apply keeps_ite_snd | with_reducible apply blowRootCheck_keeps | with_reducible apply blowShare_keeps | with_reducible apply trngBytes_keeps | (with_reducible apply keeps_foldl <;> [skip; intro _ _ _]) | split | extract_lets | (apply keeps_eq; with_reducible assumption) | dsimp -zeta only | with_reducible apply keeps_mk)))

theorem blowState_keeps {s0 : State} (s : State) (target : Nat) (ht : target ≤ 0xF) (hk : Keeps s0 s) : Keeps s0 (blowState s target) :=
  keeps_fuses hk ⟨id, fun h => ⟨⟨Nat.le_trans h.1 (Nat.le_max_left _ _), Nat.max_le.2 ⟨h.2, ht⟩⟩, Nat.le_refl _, Nat.le_max_left _ _⟩,
    Nat.le_refl _, Nat.le_refl _, ⟨id, fun _ => Nat.le_refl _⟩, List.prefix_refl _⟩ rfl rfl rfl

theorem leaveService_keeps {s0 : State} (s : State) (target : Nat) (ht : target ≤ 0xF) (hk : Keeps s0 s) : Keeps s0 (leaveService s target) := by
  unfold leaveService
  extract_lets s1 s2 k s3
  have h1 : Keeps s0 s1 := by
    apply keeps_ite hk
    split
    · rename_i e
      exact sealDone_keeps _ (beginSeal_keeps _ _ _ hk _ e)
    · exact hk
  have h2 : Keeps s0 s2 := modKeeper_keeps _ _ (zeroizeSet_keeps _ _ h1)
  clear_value s1 s2
  have h3 : Keeps s0 s3 := blowHelpers_keeps _ (keeps_of h2 rfl rfl rfl rfl)
  exact warmBoot_keeps _ _ (blowState_keeps _ _ ht h3)

theorem lcAccept_keeps {s0 : State} (s : State) (b : Bytes) (hk : Keeps s0 s) : Keeps s0 (lcAccept s b) := by
  unfold lcAccept
  split
  · exact blowState_keeps _ _ (by decide) (enrol_keeps _ hk)
  · exact blowState_keeps _ _ (by decide) (blowOwner_keeps _ _ hk)
  · exact blowState_keeps _ _ (by decide) hk
  · exact leaveService_keeps _ _ (by decide) hk
  · exact leaveService_keeps _ _ (by decide) hk
  · exact hk

theorem lcJudge_keeps {s0 : State} (s : State) (b : Bytes) (hk : Keeps s0 s) : Keeps s0 (lcJudge s b) := by
  unfold lcJudge
  iterate 60 (try (any_goals (first | with_reducible assumption | with_reducible apply keeps_ite | with_reducible apply keeps_ite_snd | with_reducible apply lcAccept_keeps | with_reducible apply lcRecord_keeps | with_reducible apply newNonce_keeps | with_reducible apply lcResult_keeps | with_reducible apply freeWord_keeps | (with_reducible apply keeps_foldl <;> [skip; intro _ _ _]) | split | extract_lets | (apply keeps_eq; with_reducible assumption) | dsimp -zeta only | with_reducible apply keeps_mk)))

theorem lcRequest_keeps {s0 : State} (s : State) (p va row : Nat) (hk : Keeps s0 s) : Keeps s0 (lcRequest s p va row) := by
  unfold lcRequest
  iterate 60 (try (any_goals (first | with_reducible assumption | with_reducible apply keeps_ite | with_reducible apply keeps_ite_snd | with_reducible apply lcJudge_keeps | with_reducible apply lcRecord_keeps | with_reducible apply newNonce_keeps | with_reducible apply lcResult_keeps | (with_reducible apply keeps_foldl <;> [skip; intro _ _ _]) | split | extract_lets | (apply keeps_eq; with_reducible assumption) | dsimp -zeta only | with_reducible apply keeps_mk)))

theorem lcReqWrite_keeps {s0 : State} (s : State) (p va : Nat) (hk : Keeps s0 s) : Keeps s0 (lcReqWrite s p va) := by
  unfold lcReqWrite
  iterate 60 (try (any_goals (first | with_reducible assumption | with_reducible apply keeps_ite | with_reducible apply keeps_ite_snd | with_reducible apply lcRequest_keeps | (with_reducible apply keeps_foldl <;> [skip; intro _ _ _]) | split | extract_lets | (apply keeps_eq; with_reducible assumption) | dsimp -zeta only | with_reducible apply keeps_mk)))

theorem drawChallenge_keeps {s0 : State} (s : State) (hk : Keeps s0 s) : Keeps s0 (drawChallenge s) := by
  unfold drawChallenge
  iterate 60 (try (any_goals (first | with_reducible assumption | with_reducible apply keeps_ite | with_reducible apply keeps_ite_snd | with_reducible apply trngBytes_keeps | (with_reducible apply keeps_foldl <;> [skip; intro _ _ _]) | split | extract_lets | (apply keeps_eq; with_reducible assumption) | dsimp -zeta only | with_reducible apply keeps_mk)))

theorem readChallenge_keeps {s0 : State} (s : State) (hk : Keeps s0 s) : Keeps s0 (readChallenge s) :=
  keeps_ite hk (drawChallenge_keeps _ hk)

theorem debugResponse_keeps {s0 : State} (s : State) (key sig : Bytes) (hk : Keeps s0 s) : Keeps s0 (debugResponse s key sig) := by
  unfold debugResponse
  iterate 60 (try (any_goals (first | with_reducible assumption | with_reducible apply keeps_ite | with_reducible apply keeps_ite_snd | with_reducible apply drawChallenge_keeps | with_reducible apply endDebug_keeps | with_reducible apply debugRecord_keeps | (with_reducible apply keeps_foldl <;> [skip; intro _ _ _]) | split | extract_lets | (apply keeps_eq; with_reducible assumption) | dsimp -zeta only | with_reducible apply keeps_mk)))

theorem debugRead_keeps {s0 : State} (s : State) (v : Word) (hk : Keeps s0 s) : Keeps s0 (debugRead s v) := by
  unfold debugRead
  iterate 60 (try (any_goals (first | with_reducible assumption | with_reducible apply keeps_ite | with_reducible apply keeps_ite_snd | (with_reducible apply keeps_foldl <;> [skip; intro _ _ _]) | split | extract_lets | (apply keeps_eq; with_reducible assumption) | dsimp -zeta only | with_reducible apply keeps_mk)))

theorem debugPort_keeps {s0 : State} {s : State} (nn : DebugAccess) (hk : Keeps s0 s) : Keeps s0 (debugPort s nn) := by
  cases nn <;> unfold debugPort
  iterate 60 (try (any_goals (first | with_reducible assumption | with_reducible apply keeps_ite | with_reducible apply keeps_ite_snd | with_reducible apply debugRead_keeps | with_reducible apply storePieces_keeps | with_reducible apply modThr_keeps | (with_reducible apply keeps_foldl <;> [skip; intro _ _ _]) | split | extract_lets | (apply keeps_eq; with_reducible assumption) | dsimp -zeta only | with_reducible apply keeps_mk)))

theorem tapResets_keeps {s0 : State} (s : State) (hk : Keeps s0 s) : Keeps s0 (tapResets s) := by
  unfold tapResets
  iterate 60 (try (any_goals (first | with_reducible assumption | with_reducible apply keeps_ite | with_reducible apply keeps_ite_snd | with_reducible apply endDebug_keeps | with_reducible apply releaseThr_keeps | with_reducible apply settle_keeps | (with_reducible apply keeps_foldl <;> [skip; intro _ _ _]) | split | extract_lets | (apply keeps_eq; with_reducible assumption) | dsimp -zeta only | with_reducible apply keeps_mk)))

theorem smbusLcId_keeps {s0 : State} (s : State) (pecOk : Bool) (hk : Keeps s0 s) : Keeps s0 (smbusLcId s pecOk) :=
  keeps_ite hk (keeps_ite (emit_keeps _ _ hk) (countBad_keeps _ _ hk))

theorem execLcToCut_keeps (p : Fin 256) (va : BitVec 56) (s : State) : Goes s (execLcToCut p va s) :=
  ⟨_, rfl, quietSettle_keeps _ (lcRequest_keeps _ _ _ _ (Keeps.refl s))⟩

theorem execLcToKeyed_keeps (p : Fin 256) (va : BitVec 56) (s : State) : Goes s (execLcToKeyed p va s) :=
  ⟨_, rfl, quietSettle_keeps _ (lcRequest_keeps _ _ _ _ (Keeps.refl s))⟩

theorem execLcToLocked_keeps (p : Fin 256) (va : BitVec 56) (s : State) : Goes s (execLcToLocked p va s) :=
  ⟨_, rfl, quietSettle_keeps _ (lcRequest_keeps _ _ _ _ (Keeps.refl s))⟩

theorem execLcToReturned_keeps (p : Fin 256) (va : BitVec 56) (s : State) : Goes s (execLcToReturned p va s) :=
  ⟨_, rfl, quietSettle_keeps _ (lcRequest_keeps _ _ _ _ (Keeps.refl s))⟩

theorem execLcToScrapped_keeps (p : Fin 256) (va : BitVec 56) (s : State) : Goes s (execLcToScrapped p va s) :=
  ⟨_, rfl, quietSettle_keeps _ (lcRequest_keeps _ _ _ _ (Keeps.refl s))⟩

theorem execDbgchal_keeps (s : State) : Goes s (execDbgchal s) :=
  ⟨_, rfl, readChallenge_keeps _ (Keeps.refl s)⟩

theorem execDbgport_keeps (a : DebugAccess) (s : State) : Goes s (execDbgport a s) := by
  have hk := Keeps.refl s
  unfold execDbgport
  (try extract_lets)
  refine ⟨_, rfl, ?_⟩
  iterate 30 (try (any_goals (first | with_reducible assumption | with_reducible apply keeps_ite | with_reducible apply debugPort_keeps | (with_reducible apply keeps_foldl <;> [skip; intro _ _ _]) | intro _ _ | split | extract_lets | dsimp -zeta only | with_reducible apply keeps_mk)))

theorem execDbgrsp_keeps (key sig : Bytes) (s : State) : Goes s (execDbgrsp key sig s) :=
  ⟨_, rfl, settle_keeps _ (debugResponse_keeps _ _ _ (Keeps.refl s))⟩

theorem execDebugFreeze_keeps (s : State) : Goes s (execDebugFreeze s) := by
  have hk := Keeps.refl s
  unfold execDebugFreeze
  (try extract_lets)
  refine ⟨_, rfl, ?_⟩
  iterate 30 (try (any_goals (first | with_reducible assumption | with_reducible apply keeps_ite | with_reducible apply askFreeze_keeps | (with_reducible apply keeps_foldl <;> [skip; intro _ _ _]) | intro _ _ | split | extract_lets | dsimp -zeta only | with_reducible apply keeps_mk)))

theorem execDebugRelease_keeps (s : State) : Goes s (execDebugRelease s) := by
  have hk := Keeps.refl s
  unfold execDebugRelease
  (try extract_lets)
  refine ⟨_, rfl, ?_⟩
  iterate 30 (try (any_goals (first | with_reducible assumption | with_reducible apply keeps_ite | with_reducible apply releaseThr_keeps | with_reducible apply settle_keeps | (with_reducible apply keeps_foldl <;> [skip; intro _ _ _]) | intro _ _ | split | extract_lets | dsimp -zeta only | with_reducible apply keeps_mk)))

theorem execTapReset_keeps (s : State) : Goes s (execTapReset s) :=
  ⟨_, rfl, tapResets_keeps _ (Keeps.refl s)⟩

theorem execSmbusReadLcId_keeps (pecOk : Bool) (s : State) : Goes s (execSmbusReadLcId pecOk s) :=
  ⟨_, rfl, smbusLcId_keeps _ _ (Keeps.refl s)⟩

/-! ### CommitRows -/

theorem execTurnDrainEnd_keeps (s : State) : Goes s (execTurnDrainEnd s) :=
  ⟨_, rfl, warmSettle_keeps _ (turnDrains_keeps _ (Keeps.refl s))⟩

theorem execTurnDrainLimit_keeps (s : State) : Goes s (execTurnDrainLimit s) :=
  ⟨_, rfl, warmSettle_keeps _ (settle_keeps _ (drainLimit_keeps _ (Keeps.refl s)))⟩

theorem execPropose_keeps (m : Fin 8) (turn : Nat) (ksd exd : Bytes) (s : State) : Goes s (execPropose m turn ksd exd s) := by
  have hk := Keeps.refl s
  unfold execPropose
  (try extract_lets)
  refine ⟨_, rfl, ?_⟩
  iterate 30 (try (any_goals (first | with_reducible assumption | with_reducible apply keeps_ite | with_reducible apply warmSettle_keeps | with_reducible apply onMessage_keeps | with_reducible apply proposed_keeps | (with_reducible apply keeps_foldl <;> [skip; intro _ _ _]) | intro _ _ | split | extract_lets | dsimp -zeta only | with_reducible apply keeps_mk)))

theorem execVote_keeps (m : Fin 8) (turn : Nat) (yes : Bool) (_reason : Byte) (s : State) : Goes s (execVote m turn yes _reason s) := by
  have hk := Keeps.refl s
  unfold execVote
  (try extract_lets)
  refine ⟨_, rfl, ?_⟩
  iterate 30 (try (any_goals (first | with_reducible assumption | with_reducible apply keeps_ite | with_reducible apply warmSettle_keeps | with_reducible apply onMessage_keeps | with_reducible apply countVote_keeps | (with_reducible apply keeps_foldl <;> [skip; intro _ _ _]) | intro _ _ | split | extract_lets | dsimp -zeta only | with_reducible apply keeps_mk)))

theorem execApply_keeps (m : Fin 8) (turn : Nat) (s : State) : Goes s (execApply m turn s) := by
  have hk := Keeps.refl s
  unfold execApply
  (try extract_lets)
  refine ⟨_, rfl, ?_⟩
  iterate 30 (try (any_goals (first | with_reducible assumption | with_reducible apply keeps_ite | with_reducible apply warmSettle_keeps | with_reducible apply onMessage_keeps | with_reducible apply applyAgreed_keeps | (with_reducible apply keeps_foldl <;> [skip; intro _ _ _]) | intro _ _ | split | extract_lets | dsimp -zeta only | with_reducible apply keeps_mk)))

theorem execAbort_keeps (m : Fin 8) (turn : Nat) (s : State) : Goes s (execAbort m turn s) := by
  have hk := Keeps.refl s
  unfold execAbort
  (try extract_lets)
  refine ⟨_, rfl, ?_⟩
  iterate 30 (try (any_goals (first | with_reducible assumption | with_reducible apply keeps_ite | with_reducible apply warmSettle_keeps | with_reducible apply onMessage_keeps | with_reducible apply abortAgreed_keeps | (with_reducible apply keeps_foldl <;> [skip; intro _ _ _]) | intro _ _ | split | extract_lets | dsimp -zeta only | with_reducible apply keeps_mk)))

theorem execDoneMsg_keeps (m : Fin 8) (turn : Nat) (s : State) : Goes s (execDoneMsg m turn s) := by
  have hk := Keeps.refl s
  unfold execDoneMsg
  (try extract_lets)
  refine ⟨_, rfl, ?_⟩
  iterate 30 (try (any_goals (first | with_reducible assumption | with_reducible apply keeps_ite | with_reducible apply warmSettle_keeps | with_reducible apply onMessage_keeps | with_reducible apply countDone_keeps | (with_reducible apply keeps_foldl <;> [skip; intro _ _ _]) | intro _ _ | split | extract_lets | dsimp -zeta only | with_reducible apply keeps_mk)))

theorem execStateMsg_keeps (m : Fin 8) (turn : Nat) (outcome : Byte) (s : State) : Goes s (execStateMsg m turn outcome s) := by
  have hk := Keeps.refl s
  unfold execStateMsg
  (try extract_lets)
  refine ⟨_, rfl, ?_⟩
  iterate 30 (try (any_goals (first | with_reducible assumption | with_reducible apply keeps_ite | with_reducible apply warmSettle_keeps | with_reducible apply onMessage_keeps | with_reducible apply learnState_keeps | (with_reducible apply keeps_foldl <;> [skip; intro _ _ _]) | intro _ _ | split | extract_lets | dsimp -zeta only | with_reducible apply keeps_mk)))

theorem execQueryOutcomeTimeout_keeps (s : State) : Goes s (execQueryOutcomeTimeout s) := by
  have hk := Keeps.refl s
  unfold execQueryOutcomeTimeout
  (try extract_lets)
  refine ⟨_, rfl, ?_⟩
  iterate 30 (try (any_goals (first | with_reducible assumption | with_reducible apply keeps_ite | with_reducible apply warmSettle_keeps | with_reducible apply abortAgreed_keeps | (with_reducible apply keeps_foldl <;> [skip; intro _ _ _]) | intro _ _ | split | extract_lets | dsimp -zeta only | with_reducible apply keeps_mk)))

/-! ### Control -/

theorem ctlRead_keeps {s0 : State} (s : State) (p t : Nat) (r : Reg) (ix : Nat) (hk : Keeps s0 s) : Keeps s0 (ctlRead s p t r ix).2 := by
  unfold ctlRead
  iterate 60 (try (any_goals (first | with_reducible assumption | with_reducible apply keeps_ite | with_reducible apply keeps_ite_snd | with_reducible apply claim_keeps | with_reducible apply clearOnRead_keeps | (with_reducible apply keeps_foldl <;> [skip; intro _ _ _]) | split | extract_lets | (apply keeps_eq; with_reducible assumption) | dsimp -zeta only | with_reducible apply keeps_mk)))

theorem ctlReadRow_keeps {s0 : State} (s : State) (p t : Nat) (r : Reg) (ix : Nat) (hk : Keeps s0 s) : Keeps s0 (ctlReadRow s p t r ix) := by
  unfold ctlReadRow
  iterate 60 (try (any_goals (first | with_reducible assumption | with_reducible apply keeps_ite | with_reducible apply keeps_ite_snd | with_reducible apply ctlRead_keeps | (with_reducible apply keeps_foldl <;> [skip; intro _ _ _]) | split | extract_lets | (apply keeps_eq; with_reducible assumption) | dsimp -zeta only | with_reducible apply keeps_mk)))

theorem lcBootWrite_keeps {s0 : State} (s : State) (p : Nat) (v : Word) (hk : Keeps s0 s) : Keeps s0 (lcBootWrite s p v) := by
  unfold lcBootWrite
  iterate 60 (try (any_goals (first | with_reducible assumption | with_reducible apply keeps_ite | with_reducible apply keeps_ite_snd | with_reducible apply exportTraining_keeps | with_reducible apply warmBundleWrite_keeps | with_reducible apply warmWrite_keeps | with_reducible apply modBoot_keeps | (with_reducible apply keeps_foldl <;> [skip; intro _ _ _]) | split | extract_lets | (apply keeps_eq; with_reducible assumption) | dsimp -zeta only | with_reducible apply keeps_mk)))

theorem tlbinvWrite_keeps {s0 : State} (s : State) (p t : Nat) (v : Word) (hk : Keeps s0 s) : Keeps s0 (tlbinvWrite s p t v) := by
  unfold tlbinvWrite
  iterate 60 (try (any_goals (first | with_reducible assumption | with_reducible apply keeps_ite | with_reducible apply keeps_ite_snd | with_reducible apply addInval_keeps | (with_reducible apply keeps_foldl <;> [skip; intro _ _ _]) | split | extract_lets | (apply keeps_eq; with_reducible assumption) | dsimp -zeta only | with_reducible apply keeps_mk)))

theorem ksImgRegWrite_keeps {s0 : State} (s : State) (p : Nat) (v : Word) (hk : Keeps s0 s) : Keeps s0 (ksImgRegWrite s p v) := by
  unfold ksImgRegWrite
  iterate 60 (try (any_goals (first | with_reducible assumption | with_reducible apply keeps_ite | with_reducible apply keeps_ite_snd | with_reducible apply ksImgWrite_keeps | (with_reducible apply keeps_foldl <;> [skip; intro _ _ _]) | split | extract_lets | (apply keeps_eq; with_reducible assumption) | dsimp -zeta only | with_reducible apply keeps_mk)))

theorem queModWrite_keeps {s0 : State} (s : State) (p q : Nat) (v : Word) (hk : Keeps s0 s) : Keeps s0 (queModWrite s p q v) := by
  unfold queModWrite
  iterate 60 (try (any_goals (first | with_reducible assumption | with_reducible apply keeps_ite | with_reducible apply keeps_ite_snd | with_reducible apply plainWrite_keeps | (with_reducible apply keeps_foldl <;> [skip; intro _ _ _]) | split | extract_lets | (apply keeps_eq; with_reducible assumption) | dsimp -zeta only | with_reducible apply keeps_mk)))

theorem asealWrite_keeps {s0 : State} (s : State) (p : Nat) (v : Word) (hk : Keeps s0 s) : Keeps s0 (asealWrite s p v) := by
  unfold asealWrite
  iterate 60 (try (any_goals (first | with_reducible assumption | with_reducible apply keeps_ite | with_reducible apply keeps_ite_snd | with_reducible apply sealWrite_keeps | with_reducible apply plainWrite_keeps | (with_reducible apply keeps_foldl <;> [skip; intro _ _ _]) | split | extract_lets | (apply keeps_eq; with_reducible assumption) | dsimp -zeta only | with_reducible apply keeps_mk)))

theorem quietWrite_keeps {s0 : State} (s : State) (p : Nat) (v : Word) (hk : Keeps s0 s) : Keeps s0 (quietWrite s p v) := by
  unfold quietWrite
  iterate 60 (try (any_goals (first | with_reducible assumption | with_reducible apply keeps_ite | with_reducible apply keeps_ite_snd | with_reducible apply quietExit_keeps | with_reducible apply startSelftest_keeps | with_reducible apply enterQuiet_keeps | (with_reducible apply keeps_foldl <;> [skip; intro _ _ _]) | split | extract_lets | (apply keeps_eq; with_reducible assumption) | dsimp -zeta only | with_reducible apply keeps_mk)))

theorem stallWrite_keeps {s0 : State} (s : State) (p : Nat) (v : Word) (hk : Keeps s0 s) : Keeps s0 (stallWrite s p v) :=
  keeps_ite hk (plainWrite_keeps _ _ _ _ hk)

theorem ptpWrite_keeps {s0 : State} (s : State) (p : Nat) (v : Word) (hk : Keeps s0 s) : Keeps s0 (ptpWrite s p v) :=
  keeps_ite hk (plainWrite_keeps _ _ _ _ hk)

theorem ctlEffect_keeps {s0 : State} (s : State) (p t : Nat) (r : Reg) (ix : Nat) (v : Word) (hk : Keeps s0 s) : Keeps s0 (ctlEffect s p t r ix v) := by
  unfold ctlEffect
  iterate 60 (try (any_goals (first | with_reducible assumption | with_reducible apply keeps_ite | with_reducible apply keeps_ite_snd | with_reducible apply ptpWrite_keeps | with_reducible apply stallWrite_keeps | with_reducible apply quietWrite_keeps | with_reducible apply asealWrite_keeps | with_reducible apply queModWrite_keeps | with_reducible apply ksImgRegWrite_keeps | with_reducible apply tlbinvWrite_keeps | with_reducible apply lcBootWrite_keeps | with_reducible apply lcReqWrite_keeps | with_reducible apply wcfgWrite_keeps | with_reducible apply padrelWrite_keeps | with_reducible apply sleepWrite_keeps | with_reducible apply pwrCtlWrite_keeps | with_reducible apply attestWrite_keeps | with_reducible apply idleWrite_keeps | with_reducible apply flatWrite_keeps | with_reducible apply pwrEvt_keeps | with_reducible apply tbSetWrite_keeps | with_reducible apply arbXmodeWrite_keeps | with_reducible apply tlmFlush_keeps | with_reducible apply queDone_keeps | with_reducible apply turnCommitWrite_keeps | with_reducible apply turnSetWrite_keeps | with_reducible apply turnDeltaWrite_keeps | with_reducible apply ptrootWrite_keeps | with_reducible apply dmaCtlWrite_keeps | with_reducible apply dmaHeadWrite_keeps | with_reducible apply knkReturn_keeps | with_reducible apply endOfInterrupt_keeps | with_reducible apply maskWrite_keeps | with_reducible apply pendClr_keeps | with_reducible apply pendSet_keeps | with_reducible apply ksEraseWrite_keeps | with_reducible apply raise_keeps | with_reducible apply plainWrite_keeps | (with_reducible apply keeps_foldl <;> [skip; intro _ _ _]) | split | extract_lets | (apply keeps_eq; with_reducible assumption) | dsimp -zeta only | with_reducible apply keeps_mk)))

theorem ctlWrite_keeps {s0 : State} (s : State) (p t addr : Nat) (v : Word) (hk : Keeps s0 s) : Keeps s0 (ctlWrite s p t addr v) := by
  unfold ctlWrite
  iterate 60 (try (any_goals (first | with_reducible assumption | with_reducible apply keeps_ite | with_reducible apply keeps_ite_snd | with_reducible apply ctlEffect_keeps | with_reducible apply warmSettle_keeps | with_reducible apply quietSettle_keeps | with_reducible apply settle_keeps | (with_reducible apply keeps_foldl <;> [skip; intro _ _ _]) | split | extract_lets | (apply keeps_eq; with_reducible assumption) | dsimp -zeta only | with_reducible apply keeps_mk)))

theorem execCylCmodeRead_keeps (p : Fin 256) (c : Fin 128) (s : State) : Goes s (execCylCmodeRead p c s) :=
  ⟨_, rfl, ctlReadRow_keeps _ _ _ _ _ (Keeps.refl s)⟩

theorem execKsQlastRead_keeps (p : Fin 256) (s : State) : Goes s (execKsQlastRead p s) :=
  ⟨_, rfl, ctlReadRow_keeps _ _ _ _ _ (Keeps.refl s)⟩

theorem execDmaStatRead_keeps (p : Fin 256) (c : Fin 512) (s : State) : Goes s (execDmaStatRead p c s) :=
  ⟨_, rfl, ctlReadRow_keeps _ _ _ _ _ (Keeps.refl s)⟩

theorem execEngErrRead_keeps (p : Fin 256) (e : Fin 144) (s : State) : Goes s (execEngErrRead p e s) :=
  ⟨_, rfl, ctlReadRow_keeps _ _ _ _ _ (Keeps.refl s)⟩

theorem execExgStatRead_keeps (p q : Fin 256) (s : State) : Goes s (execExgStatRead p q s) :=
  ⟨_, rfl, ctlReadRow_keeps _ _ _ _ _ (Keeps.refl s)⟩

theorem execQueStatRead_keeps (p : Fin 256) (q : Fin 1024) (response : Bool) (s : State) : Goes s (execQueStatRead p q response s) :=
  ⟨_, rfl, ctlReadRow_keeps _ _ _ _ _ (Keeps.refl s)⟩

theorem execQuePstatRead_keeps (p q : Fin 256) (s : State) : Goes s (execQuePstatRead p q s) :=
  ⟨_, rfl, ctlReadRow_keeps _ _ _ _ _ (Keeps.refl s)⟩

theorem execQueTlmRead_keeps (p : Fin 256) (j : Fin 16) (s : State) : Goes s (execQueTlmRead p j s) :=
  ⟨_, rfl, ctlReadRow_keeps _ _ _ _ _ (Keeps.refl s)⟩

theorem execKeepXlogRead_keeps (p : Fin 256) (s : State) : Goes s (execKeepXlogRead p s) :=
  ⟨_, rfl, ctlReadRow_keeps _ _ _ _ _ (Keeps.refl s)⟩

theorem execKnkStrayCntRead_keeps (p : Fin 256) (s : State) : Goes s (execKnkStrayCntRead p s) :=
  ⟨_, rfl, ctlReadRow_keeps _ _ _ _ _ (Keeps.refl s)⟩

theorem execLaneStatRead_keeps (p : Fin 256) (l : Fin 48) (s : State) : Goes s (execLaneStatRead p l s) :=
  ⟨_, rfl, ctlReadRow_keeps _ _ _ _ _ (Keeps.refl s)⟩

theorem execLaneDropRead_keeps (p : Fin 256) (j : Fin 5) (s : State) : Goes s (execLaneDropRead p j s) :=
  ⟨_, rfl, ctlReadRow_keeps _ _ _ _ _ (Keeps.refl s)⟩

theorem execLaneWlinkRead_keeps (p : Fin 256) (l : Fin 4) (s : State) : Goes s (execLaneWlinkRead p l s) :=
  ⟨_, rfl, ctlReadRow_keeps _ _ _ _ _ (Keeps.refl s)⟩

theorem execKeepTampRead_keeps (p : Fin 256) (s : State) : Goes s (execKeepTampRead p s) :=
  ⟨_, rfl, ctlReadRow_keeps _ _ _ _ _ (Keeps.refl s)⟩

theorem execRegisterWrite_keeps (p : Fin 256) (t : Fin 2048) (addr : Nat) (v : Word) (s : State) : Goes s (execRegisterWrite p t addr v s) :=
  ⟨_, rfl, ctlWrite_keeps _ _ _ _ _ (Keeps.refl s)⟩

/-! ### Land -/

theorem loadEcc_keeps {s0 : State} (s : State) (ps : Pieces) (o : EccOutcome) (hk : Keeps s0 s) : Keeps s0 (loadEcc s ps o).2 := by
  unfold loadEcc
  iterate 60 (try (any_goals (first | with_reducible assumption | with_reducible apply keeps_ite | with_reducible apply keeps_ite_snd | with_reducible apply lineOutcome_keeps | with_reducible apply report_keeps | (with_reducible apply keeps_foldl <;> [skip; intro _ _ _]) | split | extract_lets | (apply keeps_eq; with_reducible assumption) | dsimp -zeta only | with_reducible apply keeps_mk)))

theorem loadMem_keeps {s0 : State} (s : State) (t : Nat) (ps : Pieces) (o : EccOutcome) (hk : Keeps s0 s) : Keeps s0 (loadMem s t ps o).2.2 := by
  unfold loadMem
  iterate 60 (try (any_goals (first | with_reducible assumption | with_reducible apply keeps_ite | with_reducible apply keeps_ite_snd | with_reducible apply loadEcc_keeps | with_reducible apply countDown_keeps | with_reducible apply cacheLoad_keeps | (with_reducible apply keeps_foldl <;> [skip; intro _ _ _]) | split | extract_lets | (apply keeps_eq; with_reducible assumption) | dsimp -zeta only | with_reducible apply keeps_mk)))

theorem loadLands_keeps {s0 : State} (s : State) (t : Nat) (ecc : EccOutcome) (hk : Keeps s0 s) : Keeps s0 (loadLands s t ecc) := by
  unfold loadLands
  iterate 60 (try (any_goals (first | with_reducible assumption | with_reducible apply keeps_ite | with_reducible apply keeps_ite_snd | with_reducible apply loadMem_keeps | with_reducible apply ctlRead_keeps | with_reducible apply landValue_keeps | with_reducible apply settle_keeps | with_reducible apply modThr_keeps | (with_reducible apply keeps_foldl <;> [skip; intro _ _ _]) | split | extract_lets | (apply keeps_eq; with_reducible assumption) | dsimp -zeta only | with_reducible apply keeps_mk)))

theorem storeMem_keeps {s0 : State} (s : State) (t : Nat) (e : SbEntry) (parity : Bool) (hk : Keeps s0 s) : Keeps s0 (storeMem s t e parity) := by
  unfold storeMem
  iterate 60 (try (any_goals (first | with_reducible assumption | with_reducible apply keeps_ite | with_reducible apply keeps_ite_snd | with_reducible apply countDown_keeps | with_reducible apply cacheStore_keeps | with_reducible apply storePieces_keeps | (with_reducible apply keeps_foldl <;> [skip; intro _ _ _]) | split | extract_lets | (apply keeps_eq; with_reducible assumption) | dsimp -zeta only | with_reducible apply keeps_mk)))

theorem storeCtl_keeps {s0 : State} (s : State) (t a : Nat) (e : SbEntry) (parity : Bool) (hk : Keeps s0 s) : Keeps s0 (storeCtl s t a e parity) := by
  unfold storeCtl
  iterate 60 (try (any_goals (first | with_reducible assumption | with_reducible apply keeps_ite | with_reducible apply keeps_ite_snd | with_reducible apply ctlWrite_keeps | with_reducible apply freeWord_keeps | (with_reducible apply keeps_foldl <;> [skip; intro _ _ _]) | split | extract_lets | (apply keeps_eq; with_reducible assumption) | dsimp -zeta only | with_reducible apply keeps_mk)))

theorem storeLeaves_keeps {s0 : State} (s : State) (t : Nat) (parity : Bool) (hk : Keeps s0 s) : Keeps s0 (storeLeaves s t parity) := by
  unfold storeLeaves
  iterate 60 (try (any_goals (first | with_reducible assumption | with_reducible apply keeps_ite | with_reducible apply keeps_ite_snd | with_reducible apply storeCtl_keeps | with_reducible apply storeMem_keeps | with_reducible apply settle_keeps | with_reducible apply report_keeps | with_reducible apply putThr_keeps | (with_reducible apply keeps_foldl <;> [skip; intro _ _ _]) | split | extract_lets | (apply keeps_eq; with_reducible assumption) | dsimp -zeta only | with_reducible apply keeps_mk)))

theorem execLoadDataLand_keeps (t : Fin 2048) (ecc : EccOutcome) (s : State) : Goes s (execLoadDataLand t ecc s) :=
  ⟨_, rfl, loadLands_keeps _ _ _ (Keeps.refl s)⟩

theorem execStoreLeavesBuffer_keeps (t : Fin 2048) (parityError : Bool) (s : State) : Goes s (execStoreLeavesBuffer t parityError s) :=
  ⟨_, rfl, storeLeaves_keeps _ _ _ (Keeps.refl s)⟩

/-! ### Tick -/

theorem clock_keeps {s0 : State} (s : State) (hk : Keeps s0 s) : Keeps s0 (clock s) := by
  unfold clock
  iterate 60 (try (any_goals (first | with_reducible assumption | with_reducible apply keeps_ite | with_reducible apply keeps_ite_snd | (with_reducible apply keeps_foldl <;> [skip; intro _ _ _]) | split | extract_lets | (apply keeps_eq; with_reducible assumption) | dsimp -zeta only | with_reducible apply keeps_mk)))

theorem tick_keeps {s0 : State} (s : State) (hk : Keeps s0 s) : Keeps s0 (tick s) :=
  warmSettle_keeps _ (clock_keeps _ hk)

end Sys2Proof.Machine
end

