-- ==== Sys2Proof/WellFormed.lean ====
section
/-! DEFINITION. Which terms of `Instr` stand for a command that the outside can give: the operands that are plain numbers or
byte strings lie in the ranges that their rules name. Every other operand is bounded by its type. -/

namespace Sys2Proof

/-- The number of units of a class of R473; 0 where there is no such class. -/
def unitCount : Nat → Nat
  | 1 => 128
  | 2 => 144
  | 3 => 256
  | 4 => 4
  | 5 => 1024
  | 6 => 32
  | 7 => 128
  | 8 => 48
  | 9 => 26
  | 10 => 16
  | 11 => 1
  | 12 => 1
  | _ => 0

/-- A probed unit that exists (R473): domains are numbered from 1. -/
def unitOk (cls index : Nat) : Bool := decide (index < unitCount cls) && !(cls == 9 && index == 0)

/-- Ethernet, IP and UDP fields within their widths (R387). -/
def NetHdr.ok (h : NetHdr) : Bool := decide (h.mac < 2 ^ 48) && decide (h.vid < 2 ^ 12) && decide (h.dstUdp < 2 ^ 16) && decide (h.srcUdp < 2 ^ 16)

/-- What a link can train to: 4, 2 or 1 lanes (R405). -/
def TrainTarget.ok : TrainTarget → Bool
  | .lane _ => true
  | .pcie => true
  | .westad _ width _ => width == 1 || width == 2 || width == 4

/-- A number of 8 bytes (R406, R409). -/
def word8 (n : Nat) : Bool := decide (n < 2 ^ 64)

/-- A command whose operands lie in range:
an arriving frame's header fields (R387); a telemetry item of at most 1,023 words (R306); an arbiter's number below 400 and distinct requesters up to 256 (R345);
a flit of 128 bytes (R402); 8-byte turn and message numbers and 32-byte digests (R406, R409); SMBus chunks of at most 255 bytes
(R412); a probed unit that exists (R473); a data line of DRAM (R195); bundle bytes as long as their LENGTH, within a bundle (R492, R493);
a control register's address, a multiple of 16 in control space (R177). -/
def wellFormed : Instr → Bool
  | .commandArrival _ h _ => h.ok
  | .hello _ h _ => h.ok
  | .close _ h _ => h.ok
  | .telemetryItem _ _ words _ => decide (words.length ≤ 1023)
  | .arbiterDraw a contestants => decide (a < 400) && contestants.all (fun r => decide (r < 257)) && decide contestants.Nodup
  | .flitReceive _ flit => flit.length == 128
  | .ack _ _ mseq => word8 mseq
  | .stage _ _ oseq _ copies => word8 oseq && decide (0 < copies.length)
  | .erase _ _ oseq _ => word8 oseq
  | .discardMsg _ _ oseq => word8 oseq
  | .propose _ turn ksd exd => word8 turn && ksd.length == 32 && exd.length == 32
  | .vote _ turn _ _ => word8 turn
  | .apply _ turn => word8 turn
  | .abort _ turn => word8 turn
  | .doneMsg _ turn => word8 turn
  | .query _ turn => word8 turn
  | .stateMsg _ turn _ => word8 turn
  | .smbusBlockWrite bytes _ _ => decide (bytes.length ≤ 255)
  | .probeVerdict cls index _ => unitOk cls index
  | .probeTimeout cls index => unitOk cls index
  | .dramScrub line _ => decide (line < 0x1500000000 / 128)
  | .bundleData offset length bytes => bytes.length == length && decide (length ≤ 1024) && decide (offset + length ≤ 134217728)
  | .laneTrainingDone l => l.ok
  | .commandWindowWrite _ _ bytes _ => decide (0 < bytes.length)
  | .registerWrite _ _ addr _ => decide (0xF0000000000 ≤ addr) && decide (addr < 0x100000000000) && addr % 16 == 0
  | .moveIssue _ => true
  | .immHiAppend _ => true
  | .addT _ => true
  | .subT _ => true
  | .adcT _ => true
  | .sbbT _ => true
  | .negT _ => true
  | .andT _ => true
  | .orT _ => true
  | .xorT _ => true
  | .andnT _ => true
  | .notT _ => true
  | .shlT _ => true
  | .shrT _ => true
  | .sarT _ => true
  | .rolT _ => true
  | .rorT _ => true
  | .cmpEqT _ => true
  | .cmpLtT _ => true
  | .cmpLtuT _ => true
  | .cmpLeT _ => true
  | .cmpLeuT _ => true
  | .daddT _ => true
  | .dsubT _ => true
  | .dchkT _ => true
  | .dcvtT _ => true
  | .bcvtT _ => true
  | .mulT _ => true
  | .mulsT _ => true
  | .divT _ => true
  | .divsT _ => true
  | .digitUnitResult _ _ _ => true
  | .completionTimeout _ _ => true
  | .mulProductVisible _ => true
  | .cbEqT _ => true
  | .cbNeT _ => true
  | .cbLtT _ => true
  | .cbGeT _ => true
  | .cbLtuT _ => true
  | .cbGeuT _ => true
  | .cbBsT _ => true
  | .cbBcT _ => true
  | .jmpT _ => true
  | .jmpRelT _ => true
  | .callT _ => true
  | .retT _ => true
  | .branchResolve _ => true
  | .returnResolve _ => true
  | .repT _ => true
  | .thrWaitT _ => true
  | .thrHaltT _ => true
  | .thrYieldT _ => true
  | .thrStartT _ => true
  | .ctlIfence _ => true
  | .fenceSl _ => true
  | .fenceFull _ => true
  | .fenceDev _ => true
  | .fenceDrain _ => true
  | .fetchGroupArrive _ _ => true
  | .ldT _ => true
  | .ldrT _ => true
  | .stT _ => true
  | .stcT _ => true
  | .stcDecided _ => true
  | .atAddT _ => true
  | .atSwpT _ => true
  | .atCasT _ => true
  | .atomicComplete _ => true
  | .strLd _ => true
  | .strSt _ => true
  | .loadDataLand _ _ => true
  | .storeLeavesBuffer _ _ => true
  | .pageWalkComplete _ => true
  | .bsTasT _ => true
  | .bsTasComplete _ => true
  | .bsKRead _ => true
  | .bsKWrite _ => true
  | .engRsvT _ => true
  | .engRelT _ => true
  | .eJobT _ => true
  | .engineJobComplete _ _ => true
  | .aesEcbEncrypt _ => true
  | .aesEcbDecrypt _ => true
  | .aesCbcEncrypt _ => true
  | .aesCbcDecrypt _ => true
  | .aesCtr _ => true
  | .aesGcmEncrypt _ => true
  | .aesGcmDecrypt _ => true
  | .aesXtsEncrypt _ => true
  | .aesXtsDecrypt _ => true
  | .aesCmacGenerate _ => true
  | .aesCmacVerify _ => true
  | .kwpWrap _ => true
  | .kwpUnwrap _ => true
  | .clearImport _ => true
  | .tdesEcbEncrypt _ => true
  | .tdesEcbDecrypt _ => true
  | .tdesCbcEncrypt _ => true
  | .tdesCbcDecrypt _ => true
  | .tdesCmacGenerate _ => true
  | .tdesCmacVerify _ => true
  | .macAlgorithm3Generate _ => true
  | .macAlgorithm3Verify _ => true
  | .sha3224 _ => true
  | .sha3256 _ => true
  | .sha3384 _ => true
  | .sha3512 _ => true
  | .shake128 _ => true
  | .shake256 _ => true
  | .kmac128Generate _ => true
  | .kmac128Verify _ => true
  | .kmac256Generate _ => true
  | .kmac256Verify _ => true
  | .kmac256Derivation _ => true
  | .mlDsaKeyGeneration _ => true
  | .mlDsaSign _ => true
  | .mlDsaVerify _ => true
  | .mlKemKeyGeneration _ => true
  | .mlKemEncapsulate _ => true
  | .mlKemDecapsulate _ => true
  | .rsaPrivateKeySignature _ => true
  | .rsaPublicVerify _ => true
  | .rsaOaepUnwrap _ => true
  | .rsaKeyGeneration _ => true
  | .ecdsaSign _ => true
  | .ecdsaVerify _ => true
  | .ecdh _ => true
  | .ecKeyGeneration _ => true
  | .ed25519Sign _ => true
  | .ed25519Verify _ => true
  | .modularExponentiation _ => true
  | .drbgGenerate _ => true
  | .drbgReseed _ => true
  | .drbgGenerateKey _ => true
  | .drbgAutoReseed _ _ => true
  | .pinTranslate _ => true
  | .pinVerifyOffset _ => true
  | .pinVerifyPvv _ => true
  | .pinOffsetGenerate _ => true
  | .dukptInitialKey _ => true
  | .dukptMacGenerate _ => true
  | .dukptMacVerify _ => true
  | .dukptDataDecrypt _ => true
  | .tr31Unwrap _ => true
  | .tr31Wrap _ => true
  | .arqcVerify _ => true
  | .arqcVerifyAndArpcGenerate _ => true
  | .cvvGenerate _ => true
  | .cvvVerify _ => true
  | .luhnCheck _ => true
  | .luhnCompute _ => true
  | .ff1Encrypt _ => true
  | .ff1Decrypt _ => true
  | .ff1ReTokenize _ => true
  | .ff31Encrypt _ => true
  | .ff31Decrypt _ => true
  | .ff31ReTokenize _ => true
  | .stagedEntryErase _ => true
  | .ksErase _ _ => true
  | .blankMove _ => true
  | .blankResult _ _ _ _ => true
  | .blankScrub _ _ => true
  | .blankImageLoad _ => true
  | .dmaHead _ _ _ => true
  | .dmaResume _ _ => true
  | .dmaAbort _ _ => true
  | .dmaChunk _ => true
  | .tlbinvPage _ _ => true
  | .tlbinvAll _ => true
  | .tlbinvComplete _ => true
  | .cylPtroot _ _ => true
  | .dispatch _ _ => true
  | .inboxFall _ => true
  | .landingComplete _ _ => true
  | .deadlineExpiry _ => true
  | .cutThroughTimeout _ _ => true
  | .release _ => true
  | .rewind _ => true
  | .respond _ _ => true
  | .respondAndRelease _ _ => true
  | .responseSend _ _ => true
  | .msixModerationTimer _ => true
  | .holdNMinLow _ => true
  | .pfcRefresh _ _ => true
  | .crossingPush _ _ _ => true
  | .crossingPop _ => true
  | .telemetryDrain _ _ => true
  | .queTlmFlush _ _ => true
  | .queTcons _ _ _ => true
  | .turnDelta _ _ => true
  | .deltaVerifyDone _ => true
  | .turnSetOpen _ => true
  | .turnSetClose _ => true
  | .turnSetDiscard _ => true
  | .turnCommit _ => true
  | .turnDrainEnd => true
  | .turnDrainLimit => true
  | .quadClear _ => true
  | .modeChangeToFree _ => true
  | .eventCountCrossing _ _ => true
  | .stallWatchExpiry _ _ _ => true
  | .domainReset _ => true
  | .arbXmode _ _ => true
  | .knkDoorbell _ _ => true
  | .deviceRaise _ _ => true
  | .knkPendSet _ _ => true
  | .knkPendClr _ _ => true
  | .knkMaskSet _ _ => true
  | .knkMaskClr _ _ => true
  | .moderationRipe _ => true
  | .knockEntry _ => true
  | .syncKnockEntry _ => true
  | .knkClaim _ => true
  | .knkEoi _ _ => true
  | .knkRtn _ => true
  | .threadFreeze _ => true
  | .laneLossOfLock _ => true
  | .arpNdEcho _ _ _ => true
  | .ptpMessage _ _ _ => true
  | .pauseFrameReceived _ _ _ => true
  | .sessionIdleTimeout _ => true
  | .cwinResync _ _ => true
  | .rbase _ _ _ => true
  | .rcons _ _ _ => true
  | .flrVf _ => true
  | .flrPf0 => true
  | .pcieLinkDown => true
  | .perstN _ => true
  | .nak _ _ => true
  | .replayTimeout _ => true
  | .westadLaneFailure _ _ => true
  | .westadLinkDown _ => true
  | .messageResendTimeout _ => true
  | .route _ _ => true
  | .kx1 _ _ => true
  | .kx2 _ _ => true
  | .keyingRetry _ => true
  | .mseqRekey _ => true
  | .voteOutcomeTimeout => true
  | .queryOutcomeTimeout => true
  | .outcomeUnknownTimeout => true
  | .smbusBlockRead _ => true
  | .smbusReadLcId _ => true
  | .uartInput _ => true
  | .dbgchal => true
  | .dbgport _ => true
  | .dbgrsp _ _ => true
  | .debugFreeze => true
  | .debugRelease => true
  | .tapReset => true
  | .mainsLoss => true
  | .mainsReturn => true
  | .holdUpExpiry => true
  | .powerFailReleaseLimit => true
  | .pfdone _ => true
  | .powerFailEnd => true
  | .flatWindowBoundary _ => true
  | .governorTick _ _ _ _ => true
  | .ledgerRecord => true
  | .wearFuseBlow _ => true
  | .learningEnd _ => true
  | .restEntry _ => true
  | .restExit _ => true
  | .dozeEntry _ => true
  | .dozeExit _ => true
  | .cylIdleT _ _ => true
  | .pwrSleep _ _ => true
  | .watchDrainEnd => true
  | .wakeAlarm => true
  | .wakeN => true
  | .watchWake => true
  | .watchMainsAbsent => true
  | .keepPadrel _ _ => true
  | .tbSet _ _ => true
  | .ptpLockLoss => true
  | .crystalQualified => true
  | .crystalLost => true
  | .crystalStartTimeout => true
  | .keeperWatchdogExpiry => true
  | .keeperSelfTest _ => true
  | .meshContinuityFault _ => true
  | .meshPatternCheck _ => true
  | .lightDetected _ => true
  | .temperatureSample _ _ => true
  | .railGlitch _ => true
  | .lcToCut _ _ => true
  | .lcToKeyed _ _ => true
  | .lcToLocked _ _ => true
  | .lcToReturned _ _ => true
  | .lcToScrapped _ _ => true
  | .keepAttest _ _ => true
  | .attestDone => true
  | .auditSeal _ _ => true
  | .finalSeal _ _ => true
  | .sealDone => true
  | .retirementFuseBlow => true
  | .trngHealthFail => true
  | .quietEnter _ => true
  | .quietSelftest _ => true
  | .selftestDone => true
  | .quietExit _ => true
  | .quietUartLine => true
  | .mainsApplied => true
  | .getRetry => true
  | .getBroadcast => true
  | .bundleTimeout => true
  | .bootFailReport => true
  | .readyAssert => true
  | .lcBootGo _ => true
  | .lcBootWarm _ => true
  | .lcBootWarmBundle _ => true
  | .lcBootExportTraining _ => true
  | .ksImgExport _ _ => true
  | .ksImgExportDone => true
  | .ppsPulse => true
  | .cylCmodeRead _ _ => true
  | .ksQlastRead _ => true
  | .dmaStatRead _ _ => true
  | .engErrRead _ _ => true
  | .exgStatRead _ _ => true
  | .queStatRead _ _ _ => true
  | .quePstatRead _ _ => true
  | .queTlmRead _ _ => true
  | .keepXlogRead _ => true
  | .knkStrayCntRead _ => true
  | .laneStatRead _ _ => true
  | .laneDropRead _ _ => true
  | .laneWlinkRead _ _ => true
  | .keepTampRead _ => true
  | .pauseTimeExpiry _ _ => true
  | .pcieConfigWrite _ => true
  | .aspmL0sL1Transition _ => true
  | .supplyRetry _ => true

end Sys2Proof
end

