-- ==== Sys2Proof/Laws/PerInstr.lean ====
section
/-! SUPPORT. The family Unspelled, one lemma for each constructor: the table of operations gives the row no bits, so no word
spells the command. -/

namespace Sys2Proof.Laws.Unspelled

/-- No word of any length spells the command. -/
def Statement (i : Instr) : Prop := ∀ nbits w : Nat, decodeTableWord nbits w ≠ some i

/-- No word spells a command. -/
theorem unspelled (i : Instr) : Statement i := fun _ _ h => nomatch h

theorem moveIssue : ∀ x0, Statement (.moveIssue x0) := fun _ => unspelled _
theorem immHiAppend : ∀ x0, Statement (.immHiAppend x0) := fun _ => unspelled _
theorem addT : ∀ x0, Statement (.addT x0) := fun _ => unspelled _
theorem subT : ∀ x0, Statement (.subT x0) := fun _ => unspelled _
theorem adcT : ∀ x0, Statement (.adcT x0) := fun _ => unspelled _
theorem sbbT : ∀ x0, Statement (.sbbT x0) := fun _ => unspelled _
theorem negT : ∀ x0, Statement (.negT x0) := fun _ => unspelled _
theorem andT : ∀ x0, Statement (.andT x0) := fun _ => unspelled _
theorem orT : ∀ x0, Statement (.orT x0) := fun _ => unspelled _
theorem xorT : ∀ x0, Statement (.xorT x0) := fun _ => unspelled _
theorem andnT : ∀ x0, Statement (.andnT x0) := fun _ => unspelled _
theorem notT : ∀ x0, Statement (.notT x0) := fun _ => unspelled _
theorem shlT : ∀ x0, Statement (.shlT x0) := fun _ => unspelled _
theorem shrT : ∀ x0, Statement (.shrT x0) := fun _ => unspelled _
theorem sarT : ∀ x0, Statement (.sarT x0) := fun _ => unspelled _
theorem rolT : ∀ x0, Statement (.rolT x0) := fun _ => unspelled _
theorem rorT : ∀ x0, Statement (.rorT x0) := fun _ => unspelled _
theorem cmpEqT : ∀ x0, Statement (.cmpEqT x0) := fun _ => unspelled _
theorem cmpLtT : ∀ x0, Statement (.cmpLtT x0) := fun _ => unspelled _
theorem cmpLtuT : ∀ x0, Statement (.cmpLtuT x0) := fun _ => unspelled _
theorem cmpLeT : ∀ x0, Statement (.cmpLeT x0) := fun _ => unspelled _
theorem cmpLeuT : ∀ x0, Statement (.cmpLeuT x0) := fun _ => unspelled _
theorem daddT : ∀ x0, Statement (.daddT x0) := fun _ => unspelled _
theorem dsubT : ∀ x0, Statement (.dsubT x0) := fun _ => unspelled _
theorem dchkT : ∀ x0, Statement (.dchkT x0) := fun _ => unspelled _
theorem dcvtT : ∀ x0, Statement (.dcvtT x0) := fun _ => unspelled _
theorem bcvtT : ∀ x0, Statement (.bcvtT x0) := fun _ => unspelled _
theorem mulT : ∀ x0, Statement (.mulT x0) := fun _ => unspelled _
theorem mulsT : ∀ x0, Statement (.mulsT x0) := fun _ => unspelled _
theorem divT : ∀ x0, Statement (.divT x0) := fun _ => unspelled _
theorem divsT : ∀ x0, Statement (.divsT x0) := fun _ => unspelled _
theorem digitUnitResult : ∀ x0 x1 x2, Statement (.digitUnitResult x0 x1 x2) := fun _ _ _ => unspelled _
theorem completionTimeout : ∀ x0 x1, Statement (.completionTimeout x0 x1) := fun _ _ => unspelled _
theorem mulProductVisible : ∀ x0, Statement (.mulProductVisible x0) := fun _ => unspelled _
theorem cbEqT : ∀ x0, Statement (.cbEqT x0) := fun _ => unspelled _
theorem cbNeT : ∀ x0, Statement (.cbNeT x0) := fun _ => unspelled _
theorem cbLtT : ∀ x0, Statement (.cbLtT x0) := fun _ => unspelled _
theorem cbGeT : ∀ x0, Statement (.cbGeT x0) := fun _ => unspelled _
theorem cbLtuT : ∀ x0, Statement (.cbLtuT x0) := fun _ => unspelled _
theorem cbGeuT : ∀ x0, Statement (.cbGeuT x0) := fun _ => unspelled _
theorem cbBsT : ∀ x0, Statement (.cbBsT x0) := fun _ => unspelled _
theorem cbBcT : ∀ x0, Statement (.cbBcT x0) := fun _ => unspelled _
theorem jmpT : ∀ x0, Statement (.jmpT x0) := fun _ => unspelled _
theorem jmpRelT : ∀ x0, Statement (.jmpRelT x0) := fun _ => unspelled _
theorem callT : ∀ x0, Statement (.callT x0) := fun _ => unspelled _
theorem retT : ∀ x0, Statement (.retT x0) := fun _ => unspelled _
theorem branchResolve : ∀ x0, Statement (.branchResolve x0) := fun _ => unspelled _
theorem returnResolve : ∀ x0, Statement (.returnResolve x0) := fun _ => unspelled _
theorem repT : ∀ x0, Statement (.repT x0) := fun _ => unspelled _
theorem thrWaitT : ∀ x0, Statement (.thrWaitT x0) := fun _ => unspelled _
theorem thrHaltT : ∀ x0, Statement (.thrHaltT x0) := fun _ => unspelled _
theorem thrYieldT : ∀ x0, Statement (.thrYieldT x0) := fun _ => unspelled _
theorem thrStartT : ∀ x0, Statement (.thrStartT x0) := fun _ => unspelled _
theorem ctlIfence : ∀ x0, Statement (.ctlIfence x0) := fun _ => unspelled _
theorem fenceSl : ∀ x0, Statement (.fenceSl x0) := fun _ => unspelled _
theorem fenceFull : ∀ x0, Statement (.fenceFull x0) := fun _ => unspelled _
theorem fenceDev : ∀ x0, Statement (.fenceDev x0) := fun _ => unspelled _
theorem fenceDrain : ∀ x0, Statement (.fenceDrain x0) := fun _ => unspelled _
theorem fetchGroupArrive : ∀ x0 x1, Statement (.fetchGroupArrive x0 x1) := fun _ _ => unspelled _
theorem ldT : ∀ x0, Statement (.ldT x0) := fun _ => unspelled _
theorem ldrT : ∀ x0, Statement (.ldrT x0) := fun _ => unspelled _
theorem stT : ∀ x0, Statement (.stT x0) := fun _ => unspelled _
theorem stcT : ∀ x0, Statement (.stcT x0) := fun _ => unspelled _
theorem stcDecided : ∀ x0, Statement (.stcDecided x0) := fun _ => unspelled _
theorem atAddT : ∀ x0, Statement (.atAddT x0) := fun _ => unspelled _
theorem atSwpT : ∀ x0, Statement (.atSwpT x0) := fun _ => unspelled _
theorem atCasT : ∀ x0, Statement (.atCasT x0) := fun _ => unspelled _
theorem atomicComplete : ∀ x0, Statement (.atomicComplete x0) := fun _ => unspelled _
theorem strLd : ∀ x0, Statement (.strLd x0) := fun _ => unspelled _
theorem strSt : ∀ x0, Statement (.strSt x0) := fun _ => unspelled _
theorem loadDataLand : ∀ x0 x1, Statement (.loadDataLand x0 x1) := fun _ _ => unspelled _
theorem storeLeavesBuffer : ∀ x0 x1, Statement (.storeLeavesBuffer x0 x1) := fun _ _ => unspelled _
theorem pageWalkComplete : ∀ x0, Statement (.pageWalkComplete x0) := fun _ => unspelled _
theorem bsTasT : ∀ x0, Statement (.bsTasT x0) := fun _ => unspelled _
theorem bsTasComplete : ∀ x0, Statement (.bsTasComplete x0) := fun _ => unspelled _
theorem bsKRead : ∀ x0, Statement (.bsKRead x0) := fun _ => unspelled _
theorem bsKWrite : ∀ x0, Statement (.bsKWrite x0) := fun _ => unspelled _
theorem engRsvT : ∀ x0, Statement (.engRsvT x0) := fun _ => unspelled _
theorem engRelT : ∀ x0, Statement (.engRelT x0) := fun _ => unspelled _
theorem eJobT : ∀ x0, Statement (.eJobT x0) := fun _ => unspelled _
theorem engineJobComplete : ∀ x0 x1, Statement (.engineJobComplete x0 x1) := fun _ _ => unspelled _
theorem aesEcbEncrypt : ∀ x0, Statement (.aesEcbEncrypt x0) := fun _ => unspelled _
theorem aesEcbDecrypt : ∀ x0, Statement (.aesEcbDecrypt x0) := fun _ => unspelled _
theorem aesCbcEncrypt : ∀ x0, Statement (.aesCbcEncrypt x0) := fun _ => unspelled _
theorem aesCbcDecrypt : ∀ x0, Statement (.aesCbcDecrypt x0) := fun _ => unspelled _
theorem aesCtr : ∀ x0, Statement (.aesCtr x0) := fun _ => unspelled _
theorem aesGcmEncrypt : ∀ x0, Statement (.aesGcmEncrypt x0) := fun _ => unspelled _
theorem aesGcmDecrypt : ∀ x0, Statement (.aesGcmDecrypt x0) := fun _ => unspelled _
theorem aesXtsEncrypt : ∀ x0, Statement (.aesXtsEncrypt x0) := fun _ => unspelled _
theorem aesXtsDecrypt : ∀ x0, Statement (.aesXtsDecrypt x0) := fun _ => unspelled _
theorem aesCmacGenerate : ∀ x0, Statement (.aesCmacGenerate x0) := fun _ => unspelled _
theorem aesCmacVerify : ∀ x0, Statement (.aesCmacVerify x0) := fun _ => unspelled _
theorem kwpWrap : ∀ x0, Statement (.kwpWrap x0) := fun _ => unspelled _
theorem kwpUnwrap : ∀ x0, Statement (.kwpUnwrap x0) := fun _ => unspelled _
theorem clearImport : ∀ x0, Statement (.clearImport x0) := fun _ => unspelled _
theorem tdesEcbEncrypt : ∀ x0, Statement (.tdesEcbEncrypt x0) := fun _ => unspelled _
theorem tdesEcbDecrypt : ∀ x0, Statement (.tdesEcbDecrypt x0) := fun _ => unspelled _
theorem tdesCbcEncrypt : ∀ x0, Statement (.tdesCbcEncrypt x0) := fun _ => unspelled _
theorem tdesCbcDecrypt : ∀ x0, Statement (.tdesCbcDecrypt x0) := fun _ => unspelled _
theorem tdesCmacGenerate : ∀ x0, Statement (.tdesCmacGenerate x0) := fun _ => unspelled _
theorem tdesCmacVerify : ∀ x0, Statement (.tdesCmacVerify x0) := fun _ => unspelled _
theorem macAlgorithm3Generate : ∀ x0, Statement (.macAlgorithm3Generate x0) := fun _ => unspelled _
theorem macAlgorithm3Verify : ∀ x0, Statement (.macAlgorithm3Verify x0) := fun _ => unspelled _
theorem sha3224 : ∀ x0, Statement (.sha3224 x0) := fun _ => unspelled _
theorem sha3256 : ∀ x0, Statement (.sha3256 x0) := fun _ => unspelled _
theorem sha3384 : ∀ x0, Statement (.sha3384 x0) := fun _ => unspelled _
theorem sha3512 : ∀ x0, Statement (.sha3512 x0) := fun _ => unspelled _
theorem shake128 : ∀ x0, Statement (.shake128 x0) := fun _ => unspelled _
theorem shake256 : ∀ x0, Statement (.shake256 x0) := fun _ => unspelled _
theorem kmac128Generate : ∀ x0, Statement (.kmac128Generate x0) := fun _ => unspelled _
theorem kmac128Verify : ∀ x0, Statement (.kmac128Verify x0) := fun _ => unspelled _
theorem kmac256Generate : ∀ x0, Statement (.kmac256Generate x0) := fun _ => unspelled _
theorem kmac256Verify : ∀ x0, Statement (.kmac256Verify x0) := fun _ => unspelled _
theorem kmac256Derivation : ∀ x0, Statement (.kmac256Derivation x0) := fun _ => unspelled _
theorem mlDsaKeyGeneration : ∀ x0, Statement (.mlDsaKeyGeneration x0) := fun _ => unspelled _
theorem mlDsaSign : ∀ x0, Statement (.mlDsaSign x0) := fun _ => unspelled _
theorem mlDsaVerify : ∀ x0, Statement (.mlDsaVerify x0) := fun _ => unspelled _
theorem mlKemKeyGeneration : ∀ x0, Statement (.mlKemKeyGeneration x0) := fun _ => unspelled _
theorem mlKemEncapsulate : ∀ x0, Statement (.mlKemEncapsulate x0) := fun _ => unspelled _
theorem mlKemDecapsulate : ∀ x0, Statement (.mlKemDecapsulate x0) := fun _ => unspelled _
theorem rsaPrivateKeySignature : ∀ x0, Statement (.rsaPrivateKeySignature x0) := fun _ => unspelled _
theorem rsaPublicVerify : ∀ x0, Statement (.rsaPublicVerify x0) := fun _ => unspelled _
theorem rsaOaepUnwrap : ∀ x0, Statement (.rsaOaepUnwrap x0) := fun _ => unspelled _
theorem rsaKeyGeneration : ∀ x0, Statement (.rsaKeyGeneration x0) := fun _ => unspelled _
theorem ecdsaSign : ∀ x0, Statement (.ecdsaSign x0) := fun _ => unspelled _
theorem ecdsaVerify : ∀ x0, Statement (.ecdsaVerify x0) := fun _ => unspelled _
theorem ecdh : ∀ x0, Statement (.ecdh x0) := fun _ => unspelled _
theorem ecKeyGeneration : ∀ x0, Statement (.ecKeyGeneration x0) := fun _ => unspelled _
theorem ed25519Sign : ∀ x0, Statement (.ed25519Sign x0) := fun _ => unspelled _
theorem ed25519Verify : ∀ x0, Statement (.ed25519Verify x0) := fun _ => unspelled _
theorem modularExponentiation : ∀ x0, Statement (.modularExponentiation x0) := fun _ => unspelled _
theorem drbgGenerate : ∀ x0, Statement (.drbgGenerate x0) := fun _ => unspelled _
theorem drbgReseed : ∀ x0, Statement (.drbgReseed x0) := fun _ => unspelled _
theorem drbgGenerateKey : ∀ x0, Statement (.drbgGenerateKey x0) := fun _ => unspelled _
theorem drbgAutoReseed : ∀ x0 x1, Statement (.drbgAutoReseed x0 x1) := fun _ _ => unspelled _
theorem pinTranslate : ∀ x0, Statement (.pinTranslate x0) := fun _ => unspelled _
theorem pinVerifyOffset : ∀ x0, Statement (.pinVerifyOffset x0) := fun _ => unspelled _
theorem pinVerifyPvv : ∀ x0, Statement (.pinVerifyPvv x0) := fun _ => unspelled _
theorem pinOffsetGenerate : ∀ x0, Statement (.pinOffsetGenerate x0) := fun _ => unspelled _
theorem dukptInitialKey : ∀ x0, Statement (.dukptInitialKey x0) := fun _ => unspelled _
theorem dukptMacGenerate : ∀ x0, Statement (.dukptMacGenerate x0) := fun _ => unspelled _
theorem dukptMacVerify : ∀ x0, Statement (.dukptMacVerify x0) := fun _ => unspelled _
theorem dukptDataDecrypt : ∀ x0, Statement (.dukptDataDecrypt x0) := fun _ => unspelled _
theorem tr31Unwrap : ∀ x0, Statement (.tr31Unwrap x0) := fun _ => unspelled _
theorem tr31Wrap : ∀ x0, Statement (.tr31Wrap x0) := fun _ => unspelled _
theorem arqcVerify : ∀ x0, Statement (.arqcVerify x0) := fun _ => unspelled _
theorem arqcVerifyAndArpcGenerate : ∀ x0, Statement (.arqcVerifyAndArpcGenerate x0) := fun _ => unspelled _
theorem cvvGenerate : ∀ x0, Statement (.cvvGenerate x0) := fun _ => unspelled _
theorem cvvVerify : ∀ x0, Statement (.cvvVerify x0) := fun _ => unspelled _
theorem luhnCheck : ∀ x0, Statement (.luhnCheck x0) := fun _ => unspelled _
theorem luhnCompute : ∀ x0, Statement (.luhnCompute x0) := fun _ => unspelled _
theorem ff1Encrypt : ∀ x0, Statement (.ff1Encrypt x0) := fun _ => unspelled _
theorem ff1Decrypt : ∀ x0, Statement (.ff1Decrypt x0) := fun _ => unspelled _
theorem ff1ReTokenize : ∀ x0, Statement (.ff1ReTokenize x0) := fun _ => unspelled _
theorem ff31Encrypt : ∀ x0, Statement (.ff31Encrypt x0) := fun _ => unspelled _
theorem ff31Decrypt : ∀ x0, Statement (.ff31Decrypt x0) := fun _ => unspelled _
theorem ff31ReTokenize : ∀ x0, Statement (.ff31ReTokenize x0) := fun _ => unspelled _
theorem stagedEntryErase : ∀ x0, Statement (.stagedEntryErase x0) := fun _ => unspelled _
theorem ksErase : ∀ x0 x1, Statement (.ksErase x0 x1) := fun _ _ => unspelled _
theorem blankMove : ∀ x0, Statement (.blankMove x0) := fun _ => unspelled _
theorem blankResult : ∀ x0 x1 x2 x3, Statement (.blankResult x0 x1 x2 x3) := fun _ _ _ _ => unspelled _
theorem blankScrub : ∀ x0 x1, Statement (.blankScrub x0 x1) := fun _ _ => unspelled _
theorem blankImageLoad : ∀ x0, Statement (.blankImageLoad x0) := fun _ => unspelled _
theorem dmaHead : ∀ x0 x1 x2, Statement (.dmaHead x0 x1 x2) := fun _ _ _ => unspelled _
theorem dmaResume : ∀ x0 x1, Statement (.dmaResume x0 x1) := fun _ _ => unspelled _
theorem dmaAbort : ∀ x0 x1, Statement (.dmaAbort x0 x1) := fun _ _ => unspelled _
theorem dmaChunk : ∀ x0, Statement (.dmaChunk x0) := fun _ => unspelled _
theorem tlbinvPage : ∀ x0 x1, Statement (.tlbinvPage x0 x1) := fun _ _ => unspelled _
theorem tlbinvAll : ∀ x0, Statement (.tlbinvAll x0) := fun _ => unspelled _
theorem tlbinvComplete : ∀ x0, Statement (.tlbinvComplete x0) := fun _ => unspelled _
theorem cylPtroot : ∀ x0 x1, Statement (.cylPtroot x0 x1) := fun _ _ => unspelled _
theorem commandArrival : ∀ x0 x1 x2, Statement (.commandArrival x0 x1 x2) := fun _ _ _ => unspelled _
theorem dispatch : ∀ x0 x1, Statement (.dispatch x0 x1) := fun _ _ => unspelled _
theorem inboxFall : ∀ x0, Statement (.inboxFall x0) := fun _ => unspelled _
theorem landingComplete : ∀ x0 x1, Statement (.landingComplete x0 x1) := fun _ _ => unspelled _
theorem deadlineExpiry : ∀ x0, Statement (.deadlineExpiry x0) := fun _ => unspelled _
theorem cutThroughTimeout : ∀ x0 x1, Statement (.cutThroughTimeout x0 x1) := fun _ _ => unspelled _
theorem release : ∀ x0, Statement (.release x0) := fun _ => unspelled _
theorem rewind : ∀ x0, Statement (.rewind x0) := fun _ => unspelled _
theorem respond : ∀ x0 x1, Statement (.respond x0 x1) := fun _ _ => unspelled _
theorem respondAndRelease : ∀ x0 x1, Statement (.respondAndRelease x0 x1) := fun _ _ => unspelled _
theorem responseSend : ∀ x0 x1, Statement (.responseSend x0 x1) := fun _ _ => unspelled _
theorem msixModerationTimer : ∀ x0, Statement (.msixModerationTimer x0) := fun _ => unspelled _
theorem holdNMinLow : ∀ x0, Statement (.holdNMinLow x0) := fun _ => unspelled _
theorem pfcRefresh : ∀ x0 x1, Statement (.pfcRefresh x0 x1) := fun _ _ => unspelled _
theorem crossingPush : ∀ x0 x1 x2, Statement (.crossingPush x0 x1 x2) := fun _ _ _ => unspelled _
theorem crossingPop : ∀ x0, Statement (.crossingPop x0) := fun _ => unspelled _
theorem telemetryItem : ∀ x0 x1 x2 x3, Statement (.telemetryItem x0 x1 x2 x3) := fun _ _ _ _ => unspelled _
theorem telemetryDrain : ∀ x0 x1, Statement (.telemetryDrain x0 x1) := fun _ _ => unspelled _
theorem queTlmFlush : ∀ x0 x1, Statement (.queTlmFlush x0 x1) := fun _ _ => unspelled _
theorem queTcons : ∀ x0 x1 x2, Statement (.queTcons x0 x1 x2) := fun _ _ _ => unspelled _
theorem turnDelta : ∀ x0 x1, Statement (.turnDelta x0 x1) := fun _ _ => unspelled _
theorem deltaVerifyDone : ∀ x0, Statement (.deltaVerifyDone x0) := fun _ => unspelled _
theorem turnSetOpen : ∀ x0, Statement (.turnSetOpen x0) := fun _ => unspelled _
theorem turnSetClose : ∀ x0, Statement (.turnSetClose x0) := fun _ => unspelled _
theorem turnSetDiscard : ∀ x0, Statement (.turnSetDiscard x0) := fun _ => unspelled _
theorem turnCommit : ∀ x0, Statement (.turnCommit x0) := fun _ => unspelled _
theorem turnDrainEnd : Statement .turnDrainEnd := unspelled _
theorem turnDrainLimit : Statement .turnDrainLimit := unspelled _
theorem quadClear : ∀ x0, Statement (.quadClear x0) := fun _ => unspelled _
theorem modeChangeToFree : ∀ x0, Statement (.modeChangeToFree x0) := fun _ => unspelled _
theorem arbiterDraw : ∀ x0 x1, Statement (.arbiterDraw x0 x1) := fun _ _ => unspelled _
theorem eventCountCrossing : ∀ x0 x1, Statement (.eventCountCrossing x0 x1) := fun _ _ => unspelled _
theorem stallWatchExpiry : ∀ x0 x1 x2, Statement (.stallWatchExpiry x0 x1 x2) := fun _ _ _ => unspelled _
theorem domainReset : ∀ x0, Statement (.domainReset x0) := fun _ => unspelled _
theorem arbXmode : ∀ x0 x1, Statement (.arbXmode x0 x1) := fun _ _ => unspelled _
theorem knkDoorbell : ∀ x0 x1, Statement (.knkDoorbell x0 x1) := fun _ _ => unspelled _
theorem deviceRaise : ∀ x0 x1, Statement (.deviceRaise x0 x1) := fun _ _ => unspelled _
theorem knkPendSet : ∀ x0 x1, Statement (.knkPendSet x0 x1) := fun _ _ => unspelled _
theorem knkPendClr : ∀ x0 x1, Statement (.knkPendClr x0 x1) := fun _ _ => unspelled _
theorem knkMaskSet : ∀ x0 x1, Statement (.knkMaskSet x0 x1) := fun _ _ => unspelled _
theorem knkMaskClr : ∀ x0 x1, Statement (.knkMaskClr x0 x1) := fun _ _ => unspelled _
theorem moderationRipe : ∀ x0, Statement (.moderationRipe x0) := fun _ => unspelled _
theorem knockEntry : ∀ x0, Statement (.knockEntry x0) := fun _ => unspelled _
theorem syncKnockEntry : ∀ x0, Statement (.syncKnockEntry x0) := fun _ => unspelled _
theorem knkClaim : ∀ x0, Statement (.knkClaim x0) := fun _ => unspelled _
theorem knkEoi : ∀ x0 x1, Statement (.knkEoi x0 x1) := fun _ _ => unspelled _
theorem knkRtn : ∀ x0, Statement (.knkRtn x0) := fun _ => unspelled _
theorem threadFreeze : ∀ x0, Statement (.threadFreeze x0) := fun _ => unspelled _
theorem laneLossOfLock : ∀ x0, Statement (.laneLossOfLock x0) := fun _ => unspelled _
theorem arpNdEcho : ∀ x0 x1 x2, Statement (.arpNdEcho x0 x1 x2) := fun _ _ _ => unspelled _
theorem ptpMessage : ∀ x0 x1 x2, Statement (.ptpMessage x0 x1 x2) := fun _ _ _ => unspelled _
theorem pauseFrameReceived : ∀ x0 x1 x2, Statement (.pauseFrameReceived x0 x1 x2) := fun _ _ _ => unspelled _
theorem hello : ∀ x0 x1 x2, Statement (.hello x0 x1 x2) := fun _ _ _ => unspelled _
theorem close : ∀ x0 x1 x2, Statement (.close x0 x1 x2) := fun _ _ _ => unspelled _
theorem sessionIdleTimeout : ∀ x0, Statement (.sessionIdleTimeout x0) := fun _ => unspelled _
theorem commandWindowWrite : ∀ x0 x1 x2 x3, Statement (.commandWindowWrite x0 x1 x2 x3) := fun _ _ _ _ => unspelled _
theorem cwinResync : ∀ x0 x1, Statement (.cwinResync x0 x1) := fun _ _ => unspelled _
theorem rbase : ∀ x0 x1 x2, Statement (.rbase x0 x1 x2) := fun _ _ _ => unspelled _
theorem rcons : ∀ x0 x1 x2, Statement (.rcons x0 x1 x2) := fun _ _ _ => unspelled _
theorem flrVf : ∀ x0, Statement (.flrVf x0) := fun _ => unspelled _
theorem flrPf0 : Statement .flrPf0 := unspelled _
theorem pcieLinkDown : Statement .pcieLinkDown := unspelled _
theorem perstN : ∀ x0, Statement (.perstN x0) := fun _ => unspelled _
theorem flitReceive : ∀ x0 x1, Statement (.flitReceive x0 x1) := fun _ _ => unspelled _
theorem nak : ∀ x0 x1, Statement (.nak x0 x1) := fun _ _ => unspelled _
theorem replayTimeout : ∀ x0, Statement (.replayTimeout x0) := fun _ => unspelled _
theorem westadLaneFailure : ∀ x0 x1, Statement (.westadLaneFailure x0 x1) := fun _ _ => unspelled _
theorem westadLinkDown : ∀ x0, Statement (.westadLinkDown x0) := fun _ => unspelled _
theorem messageResendTimeout : ∀ x0, Statement (.messageResendTimeout x0) := fun _ => unspelled _
theorem route : ∀ x0 x1, Statement (.route x0 x1) := fun _ _ => unspelled _
theorem ack : ∀ x0 x1 x2, Statement (.ack x0 x1 x2) := fun _ _ _ => unspelled _
theorem kx1 : ∀ x0 x1, Statement (.kx1 x0 x1) := fun _ _ => unspelled _
theorem kx2 : ∀ x0 x1, Statement (.kx2 x0 x1) := fun _ _ => unspelled _
theorem keyingRetry : ∀ x0, Statement (.keyingRetry x0) := fun _ => unspelled _
theorem mseqRekey : ∀ x0, Statement (.mseqRekey x0) := fun _ => unspelled _
theorem stage : ∀ x0 x1 x2 x3 x4, Statement (.stage x0 x1 x2 x3 x4) := fun _ _ _ _ _ => unspelled _
theorem erase : ∀ x0 x1 x2 x3, Statement (.erase x0 x1 x2 x3) := fun _ _ _ _ => unspelled _
theorem discardMsg : ∀ x0 x1 x2, Statement (.discardMsg x0 x1 x2) := fun _ _ _ => unspelled _
theorem propose : ∀ x0 x1 x2 x3, Statement (.propose x0 x1 x2 x3) := fun _ _ _ _ => unspelled _
theorem vote : ∀ x0 x1 x2 x3, Statement (.vote x0 x1 x2 x3) := fun _ _ _ _ => unspelled _
theorem apply : ∀ x0 x1, Statement (.apply x0 x1) := fun _ _ => unspelled _
theorem abort : ∀ x0 x1, Statement (.abort x0 x1) := fun _ _ => unspelled _
theorem doneMsg : ∀ x0 x1, Statement (.doneMsg x0 x1) := fun _ _ => unspelled _
theorem query : ∀ x0 x1, Statement (.query x0 x1) := fun _ _ => unspelled _
theorem stateMsg : ∀ x0 x1 x2, Statement (.stateMsg x0 x1 x2) := fun _ _ _ => unspelled _
theorem voteOutcomeTimeout : Statement .voteOutcomeTimeout := unspelled _
theorem queryOutcomeTimeout : Statement .queryOutcomeTimeout := unspelled _
theorem outcomeUnknownTimeout : Statement .outcomeUnknownTimeout := unspelled _
theorem smbusBlockWrite : ∀ x0 x1 x2, Statement (.smbusBlockWrite x0 x1 x2) := fun _ _ _ => unspelled _
theorem smbusBlockRead : ∀ x0, Statement (.smbusBlockRead x0) := fun _ => unspelled _
theorem smbusReadLcId : ∀ x0, Statement (.smbusReadLcId x0) := fun _ => unspelled _
theorem uartInput : ∀ x0, Statement (.uartInput x0) := fun _ => unspelled _
theorem dbgchal : Statement .dbgchal := unspelled _
theorem dbgport : ∀ x0, Statement (.dbgport x0) := fun _ => unspelled _
theorem dbgrsp : ∀ x0 x1, Statement (.dbgrsp x0 x1) := fun _ _ => unspelled _
theorem debugFreeze : Statement .debugFreeze := unspelled _
theorem debugRelease : Statement .debugRelease := unspelled _
theorem tapReset : Statement .tapReset := unspelled _
theorem mainsLoss : Statement .mainsLoss := unspelled _
theorem mainsReturn : Statement .mainsReturn := unspelled _
theorem holdUpExpiry : Statement .holdUpExpiry := unspelled _
theorem powerFailReleaseLimit : Statement .powerFailReleaseLimit := unspelled _
theorem pfdone : ∀ x0, Statement (.pfdone x0) := fun _ => unspelled _
theorem powerFailEnd : Statement .powerFailEnd := unspelled _
theorem flatWindowBoundary : ∀ x0, Statement (.flatWindowBoundary x0) := fun _ => unspelled _
theorem governorTick : ∀ x0 x1 x2 x3, Statement (.governorTick x0 x1 x2 x3) := fun _ _ _ _ => unspelled _
theorem ledgerRecord : Statement .ledgerRecord := unspelled _
theorem wearFuseBlow : ∀ x0, Statement (.wearFuseBlow x0) := fun _ => unspelled _
theorem learningEnd : ∀ x0, Statement (.learningEnd x0) := fun _ => unspelled _
theorem restEntry : ∀ x0, Statement (.restEntry x0) := fun _ => unspelled _
theorem restExit : ∀ x0, Statement (.restExit x0) := fun _ => unspelled _
theorem dozeEntry : ∀ x0, Statement (.dozeEntry x0) := fun _ => unspelled _
theorem dozeExit : ∀ x0, Statement (.dozeExit x0) := fun _ => unspelled _
theorem cylIdleT : ∀ x0 x1, Statement (.cylIdleT x0 x1) := fun _ _ => unspelled _
theorem pwrSleep : ∀ x0 x1, Statement (.pwrSleep x0 x1) := fun _ _ => unspelled _
theorem watchDrainEnd : Statement .watchDrainEnd := unspelled _
theorem wakeAlarm : Statement .wakeAlarm := unspelled _
theorem wakeN : Statement .wakeN := unspelled _
theorem watchWake : Statement .watchWake := unspelled _
theorem watchMainsAbsent : Statement .watchMainsAbsent := unspelled _
theorem keepPadrel : ∀ x0 x1, Statement (.keepPadrel x0 x1) := fun _ _ => unspelled _
theorem tbSet : ∀ x0 x1, Statement (.tbSet x0 x1) := fun _ _ => unspelled _
theorem ptpLockLoss : Statement .ptpLockLoss := unspelled _
theorem crystalQualified : Statement .crystalQualified := unspelled _
theorem crystalLost : Statement .crystalLost := unspelled _
theorem crystalStartTimeout : Statement .crystalStartTimeout := unspelled _
theorem keeperWatchdogExpiry : Statement .keeperWatchdogExpiry := unspelled _
theorem keeperSelfTest : ∀ x0, Statement (.keeperSelfTest x0) := fun _ => unspelled _
theorem meshContinuityFault : ∀ x0, Statement (.meshContinuityFault x0) := fun _ => unspelled _
theorem meshPatternCheck : ∀ x0, Statement (.meshPatternCheck x0) := fun _ => unspelled _
theorem lightDetected : ∀ x0, Statement (.lightDetected x0) := fun _ => unspelled _
theorem temperatureSample : ∀ x0 x1, Statement (.temperatureSample x0 x1) := fun _ _ => unspelled _
theorem railGlitch : ∀ x0, Statement (.railGlitch x0) := fun _ => unspelled _
theorem lcToCut : ∀ x0 x1, Statement (.lcToCut x0 x1) := fun _ _ => unspelled _
theorem lcToKeyed : ∀ x0 x1, Statement (.lcToKeyed x0 x1) := fun _ _ => unspelled _
theorem lcToLocked : ∀ x0 x1, Statement (.lcToLocked x0 x1) := fun _ _ => unspelled _
theorem lcToReturned : ∀ x0 x1, Statement (.lcToReturned x0 x1) := fun _ _ => unspelled _
theorem lcToScrapped : ∀ x0 x1, Statement (.lcToScrapped x0 x1) := fun _ _ => unspelled _
theorem keepAttest : ∀ x0 x1, Statement (.keepAttest x0 x1) := fun _ _ => unspelled _
theorem attestDone : Statement .attestDone := unspelled _
theorem auditSeal : ∀ x0 x1, Statement (.auditSeal x0 x1) := fun _ _ => unspelled _
theorem finalSeal : ∀ x0 x1, Statement (.finalSeal x0 x1) := fun _ _ => unspelled _
theorem sealDone : Statement .sealDone := unspelled _
theorem probeVerdict : ∀ x0 x1 x2, Statement (.probeVerdict x0 x1 x2) := fun _ _ _ => unspelled _
theorem probeTimeout : ∀ x0 x1, Statement (.probeTimeout x0 x1) := fun _ _ => unspelled _
theorem retirementFuseBlow : Statement .retirementFuseBlow := unspelled _
theorem dramScrub : ∀ x0 x1, Statement (.dramScrub x0 x1) := fun _ _ => unspelled _
theorem trngHealthFail : Statement .trngHealthFail := unspelled _
theorem quietEnter : ∀ x0, Statement (.quietEnter x0) := fun _ => unspelled _
theorem quietSelftest : ∀ x0, Statement (.quietSelftest x0) := fun _ => unspelled _
theorem selftestDone : Statement .selftestDone := unspelled _
theorem quietExit : ∀ x0, Statement (.quietExit x0) := fun _ => unspelled _
theorem quietUartLine : Statement .quietUartLine := unspelled _
theorem mainsApplied : Statement .mainsApplied := unspelled _
theorem bundleData : ∀ x0 x1 x2, Statement (.bundleData x0 x1 x2) := fun _ _ _ => unspelled _
theorem getRetry : Statement .getRetry := unspelled _
theorem getBroadcast : Statement .getBroadcast := unspelled _
theorem bundleTimeout : Statement .bundleTimeout := unspelled _
theorem bootFailReport : Statement .bootFailReport := unspelled _
theorem readyAssert : Statement .readyAssert := unspelled _
theorem lcBootGo : ∀ x0, Statement (.lcBootGo x0) := fun _ => unspelled _
theorem lcBootWarm : ∀ x0, Statement (.lcBootWarm x0) := fun _ => unspelled _
theorem lcBootWarmBundle : ∀ x0, Statement (.lcBootWarmBundle x0) := fun _ => unspelled _
theorem lcBootExportTraining : ∀ x0, Statement (.lcBootExportTraining x0) := fun _ => unspelled _
theorem ksImgExport : ∀ x0 x1, Statement (.ksImgExport x0 x1) := fun _ _ => unspelled _
theorem ksImgExportDone : Statement .ksImgExportDone := unspelled _
theorem ppsPulse : Statement .ppsPulse := unspelled _
theorem cylCmodeRead : ∀ x0 x1, Statement (.cylCmodeRead x0 x1) := fun _ _ => unspelled _
theorem ksQlastRead : ∀ x0, Statement (.ksQlastRead x0) := fun _ => unspelled _
theorem dmaStatRead : ∀ x0 x1, Statement (.dmaStatRead x0 x1) := fun _ _ => unspelled _
theorem engErrRead : ∀ x0 x1, Statement (.engErrRead x0 x1) := fun _ _ => unspelled _
theorem exgStatRead : ∀ x0 x1, Statement (.exgStatRead x0 x1) := fun _ _ => unspelled _
theorem queStatRead : ∀ x0 x1 x2, Statement (.queStatRead x0 x1 x2) := fun _ _ _ => unspelled _
theorem quePstatRead : ∀ x0 x1, Statement (.quePstatRead x0 x1) := fun _ _ => unspelled _
theorem queTlmRead : ∀ x0 x1, Statement (.queTlmRead x0 x1) := fun _ _ => unspelled _
theorem keepXlogRead : ∀ x0, Statement (.keepXlogRead x0) := fun _ => unspelled _
theorem knkStrayCntRead : ∀ x0, Statement (.knkStrayCntRead x0) := fun _ => unspelled _
theorem laneStatRead : ∀ x0 x1, Statement (.laneStatRead x0 x1) := fun _ _ => unspelled _
theorem laneDropRead : ∀ x0 x1, Statement (.laneDropRead x0 x1) := fun _ _ => unspelled _
theorem laneWlinkRead : ∀ x0 x1, Statement (.laneWlinkRead x0 x1) := fun _ _ => unspelled _
theorem keepTampRead : ∀ x0, Statement (.keepTampRead x0) := fun _ => unspelled _
theorem registerWrite : ∀ x0 x1 x2 x3, Statement (.registerWrite x0 x1 x2 x3) := fun _ _ _ _ => unspelled _
theorem laneTrainingDone : ∀ x0, Statement (.laneTrainingDone x0) := fun _ => unspelled _
theorem pauseTimeExpiry : ∀ x0 x1, Statement (.pauseTimeExpiry x0 x1) := fun _ _ => unspelled _
theorem pcieConfigWrite : ∀ x0, Statement (.pcieConfigWrite x0) := fun _ => unspelled _
theorem aspmL0sL1Transition : ∀ x0, Statement (.aspmL0sL1Transition x0) := fun _ => unspelled _
theorem supplyRetry : ∀ x0, Statement (.supplyRetry x0) := fun _ => unspelled _

end Sys2Proof.Laws.Unspelled
end

