-- ==== Sys2Proof/Laws/Step.lean ====
section
/-! SUPPORT. What every command and every step of the machine does not undo. -/

namespace Sys2Proof.Machine

/-- Every command answers a next state that the relation holds for. -/
theorem exec_goes (i : Instr) (s : State) : Goes s (exec i s) := by
  cases i with
  | moveIssue t => exact execMoveIssue_keeps t s
  | immHiAppend t => exact execImmHiAppend_keeps t s
  | addT t => exact execAddT_keeps t s
  | subT t => exact execSubT_keeps t s
  | adcT t => exact execAdcT_keeps t s
  | sbbT t => exact execSbbT_keeps t s
  | negT t => exact execNegT_keeps t s
  | andT t => exact execAndT_keeps t s
  | orT t => exact execOrT_keeps t s
  | xorT t => exact execXorT_keeps t s
  | andnT t => exact execAndnT_keeps t s
  | notT t => exact execNotT_keeps t s
  | shlT t => exact execShlT_keeps t s
  | shrT t => exact execShrT_keeps t s
  | sarT t => exact execSarT_keeps t s
  | rolT t => exact execRolT_keeps t s
  | rorT t => exact execRorT_keeps t s
  | cmpEqT t => exact execCmpEqT_keeps t s
  | cmpLtT t => exact execCmpLtT_keeps t s
  | cmpLtuT t => exact execCmpLtuT_keeps t s
  | cmpLeT t => exact execCmpLeT_keeps t s
  | cmpLeuT t => exact execCmpLeuT_keeps t s
  | daddT t => exact execDaddT_keeps t s
  | dsubT t => exact execDsubT_keeps t s
  | dchkT t => exact execDchkT_keeps t s
  | dcvtT t => exact execDcvtT_keeps t s
  | bcvtT t => exact execBcvtT_keeps t s
  | mulT t => exact execMulT_keeps t s
  | mulsT t => exact execMulsT_keeps t s
  | divT t => exact execDivT_keeps t s
  | divsT t => exact execDivsT_keeps t s
  | digitUnitResult t u o => exact execDigitUnitResult_keeps t u o s
  | completionTimeout t u => exact execCompletionTimeout_keeps t u s
  | mulProductVisible t => exact execMulProductVisible_keeps t s
  | cbEqT t => exact execCbEqT_keeps t s
  | cbNeT t => exact execCbNeT_keeps t s
  | cbLtT t => exact execCbLtT_keeps t s
  | cbGeT t => exact execCbGeT_keeps t s
  | cbLtuT t => exact execCbLtuT_keeps t s
  | cbGeuT t => exact execCbGeuT_keeps t s
  | cbBsT t => exact execCbBsT_keeps t s
  | cbBcT t => exact execCbBcT_keeps t s
  | jmpT t => exact execJmpT_keeps t s
  | jmpRelT t => exact execJmpRelT_keeps t s
  | callT t => exact execCallT_keeps t s
  | retT t => exact execRetT_keeps t s
  | branchResolve t => exact execBranchResolve_keeps t s
  | returnResolve t => exact execReturnResolve_keeps t s
  | repT t => exact execRepT_keeps t s
  | thrWaitT t => exact execThrWaitT_keeps t s
  | thrHaltT t => exact execThrHaltT_keeps t s
  | thrYieldT t => exact execThrYieldT_keeps t s
  | thrStartT t => exact execThrStartT_keeps t s
  | ctlIfence t => exact execCtlIfence_keeps t s
  | fenceSl t => exact execFenceSl_keeps t s
  | fenceFull t => exact execFenceFull_keeps t s
  | fenceDev t => exact execFenceDev_keeps t s
  | fenceDrain t => exact execFenceDrain_keeps t s
  | fetchGroupArrive t parityError => exact execFetchGroupArrive_keeps t parityError s
  | ldT t => exact execLdT_keeps t s
  | ldrT t => exact execLdrT_keeps t s
  | stT t => exact execStT_keeps t s
  | stcT t => exact execStcT_keeps t s
  | stcDecided t => exact execStcDecided_keeps t s
  | atAddT t => exact execAtAddT_keeps t s
  | atSwpT t => exact execAtSwpT_keeps t s
  | atCasT t => exact execAtCasT_keeps t s
  | atomicComplete t => exact execAtomicComplete_keeps t s
  | strLd t => exact execStrLd_keeps t s
  | strSt t => exact execStrSt_keeps t s
  | loadDataLand t ecc => exact execLoadDataLand_keeps t ecc s
  | storeLeavesBuffer t parityError => exact execStoreLeavesBuffer_keeps t parityError s
  | pageWalkComplete t => exact execPageWalkComplete_keeps t s
  | bsTasT t => exact execBsTasT_keeps t s
  | bsTasComplete t => exact execBsTasComplete_keeps t s
  | bsKRead t => exact execBsKRead_keeps t s
  | bsKWrite t => exact execBsKWrite_keeps t s
  | engRsvT t => exact execEngRsvT_keeps t s
  | engRelT t => exact execEngRelT_keeps t s
  | eJobT t => exact execEJobT_keeps t s
  | engineJobComplete e o => exact execEngineJobComplete_keeps e o s
  | aesEcbEncrypt e => exact execAesEcbEncrypt_keeps e s
  | aesEcbDecrypt e => exact execAesEcbDecrypt_keeps e s
  | aesCbcEncrypt e => exact execAesCbcEncrypt_keeps e s
  | aesCbcDecrypt e => exact execAesCbcDecrypt_keeps e s
  | aesCtr e => exact execAesCtr_keeps e s
  | aesGcmEncrypt e => exact execAesGcmEncrypt_keeps e s
  | aesGcmDecrypt e => exact execAesGcmDecrypt_keeps e s
  | aesXtsEncrypt e => exact execAesXtsEncrypt_keeps e s
  | aesXtsDecrypt e => exact execAesXtsDecrypt_keeps e s
  | aesCmacGenerate e => exact execAesCmacGenerate_keeps e s
  | aesCmacVerify e => exact execAesCmacVerify_keeps e s
  | kwpWrap e => exact execKwpWrap_keeps e s
  | kwpUnwrap e => exact execKwpUnwrap_keeps e s
  | clearImport e => exact execClearImport_keeps e s
  | tdesEcbEncrypt e => exact execTdesEcbEncrypt_keeps e s
  | tdesEcbDecrypt e => exact execTdesEcbDecrypt_keeps e s
  | tdesCbcEncrypt e => exact execTdesCbcEncrypt_keeps e s
  | tdesCbcDecrypt e => exact execTdesCbcDecrypt_keeps e s
  | tdesCmacGenerate e => exact execTdesCmacGenerate_keeps e s
  | tdesCmacVerify e => exact execTdesCmacVerify_keeps e s
  | macAlgorithm3Generate e => exact execMacAlgorithm3Generate_keeps e s
  | macAlgorithm3Verify e => exact execMacAlgorithm3Verify_keeps e s
  | sha3224 e => exact execSha3224_keeps e s
  | sha3256 e => exact execSha3256_keeps e s
  | sha3384 e => exact execSha3384_keeps e s
  | sha3512 e => exact execSha3512_keeps e s
  | shake128 e => exact execShake128_keeps e s
  | shake256 e => exact execShake256_keeps e s
  | kmac128Generate e => exact execKmac128Generate_keeps e s
  | kmac128Verify e => exact execKmac128Verify_keeps e s
  | kmac256Generate e => exact execKmac256Generate_keeps e s
  | kmac256Verify e => exact execKmac256Verify_keeps e s
  | kmac256Derivation e => exact execKmac256Derivation_keeps e s
  | mlDsaKeyGeneration e => exact execMlDsaKeyGeneration_keeps e s
  | mlDsaSign e => exact execMlDsaSign_keeps e s
  | mlDsaVerify e => exact execMlDsaVerify_keeps e s
  | mlKemKeyGeneration e => exact execMlKemKeyGeneration_keeps e s
  | mlKemEncapsulate e => exact execMlKemEncapsulate_keeps e s
  | mlKemDecapsulate e => exact execMlKemDecapsulate_keeps e s
  | rsaPrivateKeySignature e => exact execRsaPrivateKeySignature_keeps e s
  | rsaPublicVerify e => exact execRsaPublicVerify_keeps e s
  | rsaOaepUnwrap e => exact execRsaOaepUnwrap_keeps e s
  | rsaKeyGeneration e => exact execRsaKeyGeneration_keeps e s
  | ecdsaSign e => exact execEcdsaSign_keeps e s
  | ecdsaVerify e => exact execEcdsaVerify_keeps e s
  | ecdh e => exact execEcdh_keeps e s
  | ecKeyGeneration e => exact execEcKeyGeneration_keeps e s
  | ed25519Sign e => exact execEd25519Sign_keeps e s
  | ed25519Verify e => exact execEd25519Verify_keeps e s
  | modularExponentiation e => exact execModularExponentiation_keeps e s
  | drbgGenerate e => exact execDrbgGenerate_keeps e s
  | drbgReseed e => exact execDrbgReseed_keeps e s
  | drbgGenerateKey e => exact execDrbgGenerateKey_keeps e s
  | drbgAutoReseed k p => exact execDrbgAutoReseed_keeps k p s
  | pinTranslate e => exact execPinTranslate_keeps e s
  | pinVerifyOffset e => exact execPinVerifyOffset_keeps e s
  | pinVerifyPvv e => exact execPinVerifyPvv_keeps e s
  | pinOffsetGenerate e => exact execPinOffsetGenerate_keeps e s
  | dukptInitialKey e => exact execDukptInitialKey_keeps e s
  | dukptMacGenerate e => exact execDukptMacGenerate_keeps e s
  | dukptMacVerify e => exact execDukptMacVerify_keeps e s
  | dukptDataDecrypt e => exact execDukptDataDecrypt_keeps e s
  | tr31Unwrap e => exact execTr31Unwrap_keeps e s
  | tr31Wrap e => exact execTr31Wrap_keeps e s
  | arqcVerify e => exact execArqcVerify_keeps e s
  | arqcVerifyAndArpcGenerate e => exact execArqcVerifyAndArpcGenerate_keeps e s
  | cvvGenerate e => exact execCvvGenerate_keeps e s
  | cvvVerify e => exact execCvvVerify_keeps e s
  | luhnCheck e => exact execLuhnCheck_keeps e s
  | luhnCompute e => exact execLuhnCompute_keeps e s
  | ff1Encrypt e => exact execFf1Encrypt_keeps e s
  | ff1Decrypt e => exact execFf1Decrypt_keeps e s
  | ff1ReTokenize e => exact execFf1ReTokenize_keeps e s
  | ff31Encrypt e => exact execFf31Encrypt_keeps e s
  | ff31Decrypt e => exact execFf31Decrypt_keeps e s
  | ff31ReTokenize e => exact execFf31ReTokenize_keeps e s
  | stagedEntryErase slot => exact execStagedEntryErase_keeps slot s
  | ksErase p v => exact execKsErase_keeps p v s
  | blankMove t => exact execBlankMove_keeps t s
  | blankResult t port v late => exact execBlankResult_keeps t port v late s
  | blankScrub k mismatch => exact execBlankScrub_keeps k mismatch s
  | blankImageLoad k => exact execBlankImageLoad_keeps k s
  | dmaHead p c v => exact execDmaHead_keeps p c v s
  | dmaResume p c => exact execDmaResume_keeps p c s
  | dmaAbort p c => exact execDmaAbort_keeps p c s
  | dmaChunk c => exact execDmaChunk_keeps c s
  | tlbinvPage p va => exact execTlbinvPage_keeps p va s
  | tlbinvAll p => exact execTlbinvAll_keeps p s
  | tlbinvComplete p => exact execTlbinvComplete_keeps p s
  | cylPtroot p v => exact execCylPtroot_keeps p v s
  | commandArrival l h frame => exact execCommandArrival_keeps l h frame s
  | dispatch q parityError => exact execDispatch_keeps q parityError s
  | inboxFall t => exact execInboxFall_keeps t s
  | landingComplete t badWords => exact execLandingComplete_keeps t badWords s
  | deadlineExpiry q => exact execDeadlineExpiry_keeps q s
  | cutThroughTimeout f k => exact execCutThroughTimeout_keeps f k s
  | release t => exact execRelease_keeps t s
  | rewind t => exact execRewind_keeps t s
  | respond t rq => exact execRespond_keeps t rq s
  | respondAndRelease t rq => exact execRespondAndRelease_keeps t rq s
  | responseSend q parityError => exact execResponseSend_keeps q parityError s
  | msixModerationTimer q => exact execMsixModerationTimer_keeps q s
  | holdNMinLow g => exact execHoldNMinLow_keeps g s
  | pfcRefresh port prio => exact execPfcRefresh_keeps port prio s
  | crossingPush x w lastOfFrame => exact execCrossingPush_keeps x w lastOfFrame s
  | crossingPop x => exact execCrossingPop_keeps x s
  | telemetryItem j source words done => exact execTelemetryItem_keeps j source words done s
  | telemetryDrain j parityError => exact execTelemetryDrain_keeps j parityError s
  | queTlmFlush p j => exact execQueTlmFlush_keeps p j s
  | queTcons p j v => exact execQueTcons_keeps p j v s
  | turnDelta p va => exact execTurnDelta_keeps p va s
  | deltaVerifyDone p => exact execDeltaVerifyDone_keeps p s
  | turnSetOpen p => exact execTurnSetOpen_keeps p s
  | turnSetClose p => exact execTurnSetClose_keeps p s
  | turnSetDiscard p => exact execTurnSetDiscard_keeps p s
  | turnCommit p => exact execTurnCommit_keeps p s
  | turnDrainEnd => exact execTurnDrainEnd_keeps s
  | turnDrainLimit => exact execTurnDrainLimit_keeps s
  | quadClear q => exact execQuadClear_keeps q s
  | modeChangeToFree c => exact execModeChangeToFree_keeps c s
  | arbiterDraw a contestants => exact execArbiterDraw_keeps a contestants s
  | eventCountCrossing d events => exact execEventCountCrossing_keeps d events s
  | stallWatchExpiry d inward part => exact execStallWatchExpiry_keeps d inward part s
  | domainReset d => exact execDomainReset_keeps d s
  | arbXmode p v => exact execArbXmode_keeps p v s
  | knkDoorbell p src => exact execKnkDoorbell_keeps p src s
  | deviceRaise p src => exact execDeviceRaise_keeps p src s
  | knkPendSet p src => exact execKnkPendSet_keeps p src s
  | knkPendClr p src => exact execKnkPendClr_keeps p src s
  | knkMaskSet p src => exact execKnkMaskSet_keeps p src s
  | knkMaskClr p src => exact execKnkMaskClr_keeps p src s
  | moderationRipe src => exact execModerationRipe_keeps src s
  | knockEntry t => exact execKnockEntry_keeps t s
  | syncKnockEntry t => exact execSyncKnockEntry_keeps t s
  | knkClaim t => exact execKnkClaim_keeps t s
  | knkEoi t src => exact execKnkEoi_keeps t src s
  | knkRtn t => exact execKnkRtn_keeps t s
  | threadFreeze t => exact execThreadFreeze_keeps t s
  | laneLossOfLock l => exact execLaneLossOfLock_keeps l s
  | arpNdEcho l kind target => exact execArpNdEcho_keeps l kind target s
  | ptpMessage port domain m => exact execPtpMessage_keeps port domain m s
  | pauseFrameReceived port prios quanta => exact execPauseFrameReceived_keeps port prios quanta s
  | hello l h frame => exact execHello_keeps l h frame s
  | close l h frame => exact execClose_keeps l h frame s
  | sessionIdleTimeout session => exact execSessionIdleTimeout_keeps session s
  | commandWindowWrite f k bytes disabledBytes => exact execCommandWindowWrite_keeps f k bytes disabledBytes s
  | cwinResync f k => exact execCwinResync_keeps f k s
  | rbase f k v => exact execRbase_keeps f k v s
  | rcons f k v => exact execRcons_keeps f k v s
  | flrVf f => exact execFlrVf_keeps f s
  | flrPf0 => exact execFlrPf0_keeps s
  | pcieLinkDown => exact execPcieLinkDown_keeps s
  | perstN asserted => exact execPerstN_keeps asserted s
  | flitReceive l flit => exact execFlitReceive_keeps l flit s
  | nak l seq => exact execNak_keeps l seq s
  | replayTimeout l => exact execReplayTimeout_keeps l s
  | westadLaneFailure l lane => exact execWestadLaneFailure_keeps l lane s
  | westadLinkDown l => exact execWestadLinkDown_keeps l s
  | messageResendTimeout m => exact execMessageResendTimeout_keeps m s
  | route m links => exact execRoute_keeps m links s
  | ack m cls mseq => exact execAck_keeps m cls mseq s
  | kx1 m body => exact execKx1_keeps m body s
  | kx2 m body => exact execKx2_keeps m body s
  | keyingRetry m => exact execKeyingRetry_keeps m s
  | mseqRekey m => exact execMseqRekey_keeps m s
  | stage m origin oseq slot copies => exact execStage_keeps m origin oseq slot copies s
  | erase m origin oseq slot => exact execErase_keeps m origin oseq slot s
  | discardMsg m origin oseq => exact execDiscardMsg_keeps m origin oseq s
  | propose m turn ksd exd => exact execPropose_keeps m turn ksd exd s
  | vote m turn yes reason => exact execVote_keeps m turn yes reason s
  | apply m turn => exact execApply_keeps m turn s
  | abort m turn => exact execAbort_keeps m turn s
  | doneMsg m turn => exact execDoneMsg_keeps m turn s
  | query m turn => exact execQuery_keeps m turn s
  | stateMsg m turn outcome => exact execStateMsg_keeps m turn outcome s
  | voteOutcomeTimeout => exact execVoteOutcomeTimeout_keeps s
  | queryOutcomeTimeout => exact execQueryOutcomeTimeout_keeps s
  | outcomeUnknownTimeout => exact execOutcomeUnknownTimeout_keeps s
  | smbusBlockWrite bytes last pecOk => exact execSmbusBlockWrite_keeps bytes last pecOk s
  | smbusBlockRead pecOk => exact execSmbusBlockRead_keeps pecOk s
  | smbusReadLcId pecOk => exact execSmbusReadLcId_keeps pecOk s
  | uartInput byte => exact execUartInput_keeps byte s
  | dbgchal => exact execDbgchal_keeps s
  | dbgport a => exact execDbgport_keeps a s
  | dbgrsp key sig => exact execDbgrsp_keeps key sig s
  | debugFreeze => exact execDebugFreeze_keeps s
  | debugRelease => exact execDebugRelease_keeps s
  | tapReset => exact execTapReset_keeps s
  | mainsLoss => exact execMainsLoss_keeps s
  | mainsReturn => exact execMainsReturn_keeps s
  | holdUpExpiry => exact execHoldUpExpiry_keeps s
  | powerFailReleaseLimit => exact execPowerFailReleaseLimit_keeps s
  | pfdone p => exact execPfdone_keeps p s
  | powerFailEnd => exact execPowerFailEnd_keeps s
  | flatWindowBoundary meanLoad => exact execFlatWindowBoundary_keeps meanLoad s
  | governorTick k demand temp ro => exact execGovernorTick_keeps k demand temp ro s
  | ledgerRecord => exact execLedgerRecord_keeps s
  | wearFuseBlow k => exact execWearFuseBlow_keeps k s
  | learningEnd k => exact execLearningEnd_keeps k s
  | restEntry c => exact execRestEntry_keeps c s
  | restExit c => exact execRestExit_keeps c s
  | dozeEntry k => exact execDozeEntry_keeps k s
  | dozeExit k => exact execDozeExit_keeps k s
  | cylIdleT p v => exact execCylIdleT_keeps p v s
  | pwrSleep p v => exact execPwrSleep_keeps p v s
  | watchDrainEnd => exact execWatchDrainEnd_keeps s
  | wakeAlarm => exact execWakeAlarm_keeps s
  | wakeN => exact execWakeN_keeps s
  | watchWake => exact execWatchWake_keeps s
  | watchMainsAbsent => exact execWatchMainsAbsent_keeps s
  | keepPadrel p v => exact execKeepPadrel_keeps p v s
  | tbSet p v => exact execTbSet_keeps p v s
  | ptpLockLoss => exact execPtpLockLoss_keeps s
  | crystalQualified => exact execCrystalQualified_keeps s
  | crystalLost => exact execCrystalLost_keeps s
  | crystalStartTimeout => exact execCrystalStartTimeout_keeps s
  | keeperWatchdogExpiry => exact execKeeperWatchdogExpiry_keeps s
  | keeperSelfTest passed => exact execKeeperSelfTest_keeps passed s
  | meshContinuityFault segment => exact execMeshContinuityFault_keeps segment s
  | meshPatternCheck decodes => exact execMeshPatternCheck_keeps decodes s
  | lightDetected diode => exact execLightDetected_keeps diode s
  | temperatureSample sensor celsius => exact execTemperatureSample_keeps sensor celsius s
  | railGlitch rail => exact execRailGlitch_keeps rail s
  | lcToCut p va => exact execLcToCut_keeps p va s
  | lcToKeyed p va => exact execLcToKeyed_keeps p va s
  | lcToLocked p va => exact execLcToLocked_keeps p va s
  | lcToReturned p va => exact execLcToReturned_keeps p va s
  | lcToScrapped p va => exact execLcToScrapped_keeps p va s
  | keepAttest p va => exact execKeepAttest_keeps p va s
  | attestDone => exact execAttestDone_keeps s
  | auditSeal p va => exact execAuditSeal_keeps p va s
  | finalSeal p va => exact execFinalSeal_keeps p va s
  | sealDone => exact execSealDone_keeps s
  | probeVerdict cls index passed => exact execProbeVerdict_keeps cls index passed s
  | probeTimeout cls index => exact execProbeTimeout_keeps cls index s
  | retirementFuseBlow => exact execRetirementFuseBlow_keeps s
  | dramScrub line o => exact execDramScrub_keeps line o s
  | trngHealthFail => exact execTrngHealthFail_keeps s
  | quietEnter p => exact execQuietEnter_keeps p s
  | quietSelftest p => exact execQuietSelftest_keeps p s
  | selftestDone => exact execSelftestDone_keeps s
  | quietExit p => exact execQuietExit_keeps p s
  | quietUartLine => exact execQuietUartLine_keeps s
  | mainsApplied => exact execMainsApplied_keeps s
  | bundleData offset length bytes => exact execBundleData_keeps offset length bytes s
  | getRetry => exact execGetRetry_keeps s
  | getBroadcast => exact execGetBroadcast_keeps s
  | bundleTimeout => exact execBundleTimeout_keeps s
  | bootFailReport => exact execBootFailReport_keeps s
  | readyAssert => exact execReadyAssert_keeps s
  | lcBootGo p => exact execLcBootGo_keeps p s
  | lcBootWarm p => exact execLcBootWarm_keeps p s
  | lcBootWarmBundle p => exact execLcBootWarmBundle_keeps p s
  | lcBootExportTraining p => exact execLcBootExportTraining_keeps p s
  | ksImgExport p va => exact execKsImgExport_keeps p va s
  | ksImgExportDone => exact execKsImgExportDone_keeps s
  | ppsPulse => exact execPpsPulse_keeps s
  | cylCmodeRead p c => exact execCylCmodeRead_keeps p c s
  | ksQlastRead p => exact execKsQlastRead_keeps p s
  | dmaStatRead p c => exact execDmaStatRead_keeps p c s
  | engErrRead p e => exact execEngErrRead_keeps p e s
  | exgStatRead p q => exact execExgStatRead_keeps p q s
  | queStatRead p q response => exact execQueStatRead_keeps p q response s
  | quePstatRead p q => exact execQuePstatRead_keeps p q s
  | queTlmRead p j => exact execQueTlmRead_keeps p j s
  | keepXlogRead p => exact execKeepXlogRead_keeps p s
  | knkStrayCntRead p => exact execKnkStrayCntRead_keeps p s
  | laneStatRead p l => exact execLaneStatRead_keeps p l s
  | laneDropRead p j => exact execLaneDropRead_keeps p j s
  | laneWlinkRead p l => exact execLaneWlinkRead_keeps p l s
  | keepTampRead p => exact execKeepTampRead_keeps p s
  | registerWrite p t addr v => exact execRegisterWrite_keeps p t addr v s
  | laneTrainingDone l => exact execLaneTrainingDone_keeps l s
  | pauseTimeExpiry port prio => exact execPauseTimeExpiry_keeps port prio s
  | pcieConfigWrite w => exact execPcieConfigWrite_keeps w s
  | aspmL0sL1Transition power => exact execAspmL0sL1Transition_keeps power s
  | supplyRetry up => exact execSupplyRetry_keeps up s

/-- Every step answers a next state: the queue loses its front, and all else is kept. -/
theorem step_goes (s : State) : ∃ t, step s = .next t ∧ Keeps { s with pending := s.pending.tail } t := by
  unfold step
  split
  · rename_i h
    refine ⟨_, rfl, ?_⟩
    have e : ({ s with pending := s.pending.tail } : State) = s := by rw [h]; cases s; simp_all
    rw [e]
    exact tick_keeps s (Keeps.refl s)
  · rename_i c rest h
    obtain ⟨t, e, k⟩ := exec_goes c { s with pending := rest }
    exact ⟨t, e, by rw [h]; exact k⟩

end Sys2Proof.Machine
end

