-- ==== Sys2Proof/Laws/Within.lean ====
section
/-! SUPPORT. What a function of the machine leaves as it is: a relation between two states that names the parts which may
differ, with one lemma for each function in the files `Laws/Within….lean`. -/

namespace Sys2Proof.Machine

/-- A part that a change may touch. -/
class Has (F : Part → Prop) (p : Part) : Prop where
  has : F p

/-- Two states that differ in no part but those of `F`; the queue of waiting commands is the same. -/
structure Within (F : Part → Prop) (s t : State) : Prop where
  pending : t.pending = s.pending
  rest : ∀ p, F p ∨ p.same s t

theorem Part.same_rfl (p : Part) (s : State) : p.same s s := by cases p <;> rfl

theorem Part.same_trans {p : Part} {s t u : State} (a : p.same s t) (b : p.same t u) : p.same s u := by
  cases p <;> exact Eq.trans b a

theorem Within.refl {F : Part → Prop} (s : State) : Within F s s := ⟨rfl, fun p => .inr (Part.same_rfl p s)⟩

/-- A change of some parts. -/
theorem within_step {F : Part → Prop} {s0 s t : State} (h : Within F s0 s) (hp : t.pending = s.pending)
    (hc : ∀ p, F p ∨ p.same s t) : Within F s0 t :=
  ⟨hp.trans h.pending, fun p => (h.rest p).elim .inl fun a => (hc p).elim .inl fun b => .inr (Part.same_trans a b)⟩

/-- A change of some parts, in the form of a whole state. -/
theorem within_mk {F : Part → Prop} {s0 s : State}
    {x_rdata : Word} {x_free : Nat} {x_now : Nat} {x_tally : Nat} {x_regs : Tab Word} {x_mem : Tab Digit} {x_poison : Tab Bool} {x_threads : Tab
    Thread} {x_cyls : Tab Cyl} {x_krs : Tab Keyring} {x_engs : Tab Engine} {x_dmaTlb : Tab (List TlbEntry)} {x_inval : List Inval} {x_ks :
    KeyStore} {x_guard : Guard} {x_dma : Tab Chan} {x_dmaLast : Tab Nat} {x_intake : Intake} {x_kc : Keycut} {x_kcPrev : Keycut} {x_turns :
    Turns} {x_srcs : Tab Src} {x_arbs : Tab Arbiter} {x_doms : Tab Domain} {x_xq : Tab Crossing} {x_westad : Westad} {x_dbg : Debug} {x_supply :
    Supply} {x_keeper : Keeper} {x_audit : Audit} {x_faults : Faults} {x_fuses : Fuses} {x_boot : Boot} {x_req : Requests} {x_pins : Pins}
    {x_seeded : Bool} {x_trngBad : Bool} {x_ptpGood : Nat} {x_dramKeys : Tab Nat} {x_dramLost : Bool} {x_uartIn : Bytes} {x_linkPower :
    LinkPower} {x_out : List Out}
    (h : Within F s0 s)
    (h_rdata : F .rdata ∨ x_rdata = s.rdata) (h_free : F .free ∨ x_free = s.free) (h_now : F .now ∨ x_now = s.now)
    (h_tally : F .tally ∨ x_tally = s.tally) (h_regs : F .regs ∨ x_regs = s.regs) (h_mem : F .mem ∨ x_mem = s.mem)
    (h_poison : F .poison ∨ x_poison = s.poison) (h_threads : F .threads ∨ x_threads = s.threads) (h_cyls : F .cyls ∨ x_cyls = s.cyls)
    (h_krs : F .krs ∨ x_krs = s.krs) (h_engs : F .engs ∨ x_engs = s.engs) (h_dmaTlb : F .dmaTlb ∨ x_dmaTlb = s.dmaTlb)
    (h_inval : F .inval ∨ x_inval = s.inval) (h_ks : F .ks ∨ x_ks = s.ks) (h_guard : F .guard ∨ x_guard = s.guard)
    (h_dma : F .dma ∨ x_dma = s.dma) (h_dmaLast : F .dmaLast ∨ x_dmaLast = s.dmaLast) (h_intake : F .intake ∨ x_intake = s.intake)
    (h_kc : F .kc ∨ x_kc = s.kc) (h_kcPrev : F .kcPrev ∨ x_kcPrev = s.kcPrev) (h_turns : F .turns ∨ x_turns = s.turns)
    (h_srcs : F .srcs ∨ x_srcs = s.srcs) (h_arbs : F .arbs ∨ x_arbs = s.arbs) (h_doms : F .doms ∨ x_doms = s.doms) (h_xq : F .xq ∨ x_xq = s.xq)
    (h_westad : F .westad ∨ x_westad = s.westad) (h_dbg : F .dbg ∨ x_dbg = s.dbg) (h_supply : F .supply ∨ x_supply = s.supply)
    (h_keeper : F .keeper ∨ x_keeper = s.keeper) (h_audit : F .audit ∨ x_audit = s.audit) (h_faults : F .faults ∨ x_faults = s.faults)
    (h_fuses : F .fuses ∨ x_fuses = s.fuses) (h_boot : F .boot ∨ x_boot = s.boot) (h_req : F .req ∨ x_req = s.req)
    (h_pins : F .pins ∨ x_pins = s.pins) (h_seeded : F .seeded ∨ x_seeded = s.seeded) (h_trngBad : F .trngBad ∨ x_trngBad = s.trngBad)
    (h_ptpGood : F .ptpGood ∨ x_ptpGood = s.ptpGood) (h_dramKeys : F .dramKeys ∨ x_dramKeys = s.dramKeys)
    (h_dramLost : F .dramLost ∨ x_dramLost = s.dramLost) (h_uartIn : F .uartIn ∨ x_uartIn = s.uartIn)
    (h_linkPower : F .linkPower ∨ x_linkPower = s.linkPower) (h_out : F .out ∨ x_out = s.out) :
    Within F s0 ⟨s.pending, x_rdata, x_free, x_now, x_tally, x_regs, x_mem, x_poison, x_threads, x_cyls, x_krs, x_engs, x_dmaTlb, x_inval, x_ks, x_guard, x_dma,
      x_dmaLast, x_intake, x_kc, x_kcPrev, x_turns, x_srcs, x_arbs, x_doms, x_xq, x_westad, x_dbg, x_supply, x_keeper, x_audit, x_faults, x_fuses,
      x_boot, x_req, x_pins, x_seeded, x_trngBad, x_ptpGood, x_dramKeys, x_dramLost, x_uartIn, x_linkPower, x_out⟩ :=
  within_step h rfl (by intro p; cases p <;> assumption)

/-- The outcome is a next state that differs in no part but those of `F`. -/
def GoesIn (F : Part → Prop) (s : State) (o : Host.Outcome State Fault Refusal) : Prop := ∃ t, o = .next t ∧ Within F s t

variable {F : Part → Prop}

/-- Either branch. -/
theorem within_ite {s0 a b : State} {c : Prop} [Decidable c] (ha : Within F s0 a) (hb : Within F s0 b) :
    Within F s0 (if c then a else b) := by
  split <;> assumption

/-- Either branch of a function that answers a value beside the state. -/
theorem within_ite_snd {α : Type} {s0 : State} {a b : α × State} {c : Prop} [Decidable c] (ha : Within F s0 a.2)
    (hb : Within F s0 b.2) : Within F s0 (if c then a else b).2 := by
  split <;> assumption

/-- The state of a pair that a function has answered. -/
theorem within_eq {α : Type} {s0 s : State} {p : α × State} {a : α} (e : p = (a, s)) (h : Within F s0 p.2) : Within F s0 s := by
  rw [e] at h
  exact h

/-- A walk over a list. -/
theorem within_foldl {β : Type} {s0 : State} {f : State → β → State} (l : List β) : ∀ {s : State}, Within F s0 s →
    (∀ s x, Within F s0 s → Within F s0 (f s x)) → Within F s0 (l.foldl f s) := by
  induction l with
  | nil => intro s h _; exact h
  | cons x l ih => intro s h hf; exact ih (hf s x h) hf

/-- A walk over a list that carries more than the state. -/
theorem within_foldl_fst {β γ : Type} {s0 : State} {f : State × γ → β → State × γ} (l : List β) : ∀ {s : State × γ},
    Within F s0 s.1 → (∀ s x, Within F s0 s.1 → Within F s0 (f s x).1) → Within F s0 (l.foldl f s).1 := by
  induction l with
  | nil => intro s h _; exact h
  | cons x l ih => intro s h hf; exact ih (hf s x h) hf

end Sys2Proof.Machine
end

