-- ==== Sys2Proof/Laws/WithinThreads.lean ====
section
/-! SUPPORT. Threads, memory, queues, the key store and the knocker: each function changes no part of the state but those that its lemma names. -/

set_option linter.all false
set_option linter.unusedTactic false
set_option linter.unreachableTactic false

namespace Sys2Proof.Machine

/-! ### Ops -/

theorem regSet_within {F : Part → Prop} [Has F .regs] {s0 : State} (s : State) (r : Reg) (ix : Nat) (v : Word) (hk : Within F s0 s) : Within F s0 (regSet s r ix v) := by
  unfold regSet
  iterate 60 (try (any_goals (first | with_reducible assumption | with_reducible apply within_ite | with_reducible apply within_ite_snd | (with_reducible apply within_foldl <;> [skip; intro _ _ _]) | split | extract_lets | (apply within_eq; with_reducible assumption) | dsimp -zeta only | ((with_reducible apply within_mk) <;> first | exact .inl Has.has | exact .inr rfl | skip))))

theorem fldSet_within {F : Part → Prop} [Has F .regs] {s0 : State} (s : State) (r : Reg) (ix hi lo v : Nat) (hk : Within F s0 s) : Within F s0 (fldSet s r ix hi lo v) :=
  regSet_within _ _ _ _ hk

theorem bump_within {F : Part → Prop} [Has F .regs] {s0 : State} (s : State) (r : Reg) (ix hi lo k : Nat) (hk : Within F s0 s) : Within F s0 (bump s r ix hi lo k) :=
  fldSet_within _ _ _ _ _ _ hk

theorem setBits_within {F : Part → Prop} [Has F .regs] {s0 : State} (s : State) (r : Reg) (ix : Nat) (m : Word) (hk : Within F s0 s) : Within F s0 (setBits s r ix m) :=
  regSet_within _ _ _ _ hk

theorem plainWrite_within {F : Part → Prop} [Has F .regs] {s0 : State} (s : State) (r : Reg) (ix : Nat) (v : Word) (hk : Within F s0 s) : Within F s0 (plainWrite s r ix v) := by
  unfold plainWrite
  iterate 60 (try (any_goals (first | with_reducible assumption | with_reducible apply within_ite | with_reducible apply within_ite_snd | with_reducible apply regSet_within | (with_reducible apply within_foldl <;> [skip; intro _ _ _]) | split | extract_lets | (apply within_eq; with_reducible assumption) | dsimp -zeta only | ((with_reducible apply within_mk) <;> first | exact .inl Has.has | exact .inr rfl | skip))))

theorem clearOnRead_within {F : Part → Prop} [Has F .regs] {s0 : State} (s : State) (r : Reg) (ix : Nat) (hk : Within F s0 s) : Within F s0 (clearOnRead s r ix) :=
  regSet_within _ _ _ _ hk

theorem emit_within {F : Part → Prop} [Has F .out] {s0 : State} (s : State) (o : Out) (hk : Within F s0 s) : Within F s0 (emit s o) := by
  unfold emit
  iterate 60 (try (any_goals (first | with_reducible assumption | with_reducible apply within_ite | with_reducible apply within_ite_snd | (with_reducible apply within_foldl <;> [skip; intro _ _ _]) | split | extract_lets | (apply within_eq; with_reducible assumption) | dsimp -zeta only | ((with_reducible apply within_mk) <;> first | exact .inl Has.has | exact .inr rfl | skip))))

theorem freeWord_within {F : Part → Prop} [Has F .free] {s0 : State} (s : State) (hk : Within F s0 s) : Within F s0 (freeWord s).2 := by
  unfold freeWord
  iterate 60 (try (any_goals (first | with_reducible assumption | with_reducible apply within_ite | with_reducible apply within_ite_snd | (with_reducible apply within_foldl <;> [skip; intro _ _ _]) | split | extract_lets | (apply within_eq; with_reducible assumption) | dsimp -zeta only | ((with_reducible apply within_mk) <;> first | exact .inl Has.has | exact .inr rfl | skip))))

theorem trngBytes_within {F : Part → Prop} [Has F .free] {s0 : State} (s : State) (n : Nat) (hk : Within F s0 s) : Within F s0 (trngBytes s n).2 := by
  unfold trngBytes
  iterate 60 (try (any_goals (first | with_reducible assumption | with_reducible apply within_ite | with_reducible apply within_ite_snd | (with_reducible apply within_foldl <;> [skip; intro _ _ _]) | split | extract_lets | (apply within_eq; with_reducible assumption) | dsimp -zeta only | ((with_reducible apply within_mk) <;> first | exact .inl Has.has | exact .inr rfl | skip))))

theorem freeBytes_within {F : Part → Prop} [Has F .free] {s0 : State} : ∀ (n : Nat) {s : State}, Within F s0 s → Within F s0 (freeBytes s n).2
  | 0, _, h => h
  | n + 1, _, h => freeBytes_within n (freeWord_within _ h)

theorem rawThr_within {F : Part → Prop} [Has F .threads] {s0 : State} (s : State) (t : Nat) (th : Thread) (hk : Within F s0 s) : Within F s0 (rawThr s t th) := by
  unfold rawThr
  iterate 60 (try (any_goals (first | with_reducible assumption | with_reducible apply within_ite | with_reducible apply within_ite_snd | (with_reducible apply within_foldl <;> [skip; intro _ _ _]) | split | extract_lets | (apply within_eq; with_reducible assumption) | dsimp -zeta only | ((with_reducible apply within_mk) <;> first | exact .inl Has.has | exact .inr rfl | skip))))

theorem dropYield_within {F : Part → Prop} [Has F .threads] {s0 : State} (s : State) (t : Nat) (hk : Within F s0 s) : Within F s0 (dropYield s t) := by
  unfold dropYield
  iterate 60 (try (any_goals (first | with_reducible assumption | with_reducible apply within_ite | with_reducible apply within_ite_snd | with_reducible apply rawThr_within | (with_reducible apply within_foldl <;> [skip; intro _ _ _]) | split | extract_lets | (apply within_eq; with_reducible assumption) | dsimp -zeta only | ((with_reducible apply within_mk) <;> first | exact .inl Has.has | exact .inr rfl | skip))))

theorem putThr_within {F : Part → Prop} [Has F .threads] {s0 : State} (s : State) (t : Nat) (th : Thread) (hk : Within F s0 s) : Within F s0 (putThr s t th) :=
  within_ite (dropYield_within _ _ (rawThr_within _ _ _ hk)) (rawThr_within _ _ _ hk)

theorem modThr_within {F : Part → Prop} [Has F .threads] {s0 : State} (s : State) (t : Nat) (f : Thread → Thread) (hk : Within F s0 s) : Within F s0 (modThr s t f) :=
  putThr_within _ _ _ hk

theorem modCyl_within {F : Part → Prop} [Has F .cyls] {s0 : State} (s : State) (c : Nat) (f : Cyl → Cyl) (hk : Within F s0 s) : Within F s0 (modCyl s c f) := by
  unfold modCyl
  iterate 60 (try (any_goals (first | with_reducible assumption | with_reducible apply within_ite | with_reducible apply within_ite_snd | (with_reducible apply within_foldl <;> [skip; intro _ _ _]) | split | extract_lets | (apply within_eq; with_reducible assumption) | dsimp -zeta only | ((with_reducible apply within_mk) <;> first | exact .inl Has.has | exact .inr rfl | skip))))

theorem modKr_within {F : Part → Prop} [Has F .krs] {s0 : State} (s : State) (k : Nat) (f : Keyring → Keyring) (hk : Within F s0 s) : Within F s0 (modKr s k f) := by
  unfold modKr
  iterate 60 (try (any_goals (first | with_reducible assumption | with_reducible apply within_ite | with_reducible apply within_ite_snd | (with_reducible apply within_foldl <;> [skip; intro _ _ _]) | split | extract_lets | (apply within_eq; with_reducible assumption) | dsimp -zeta only | ((with_reducible apply within_mk) <;> first | exact .inl Has.has | exact .inr rfl | skip))))

theorem modEng_within {F : Part → Prop} [Has F .engs] {s0 : State} (s : State) (e : Nat) (f : Engine → Engine) (hk : Within F s0 s) : Within F s0 (modEng s e f) := by
  unfold modEng
  iterate 60 (try (any_goals (first | with_reducible assumption | with_reducible apply within_ite | with_reducible apply within_ite_snd | (with_reducible apply within_foldl <;> [skip; intro _ _ _]) | split | extract_lets | (apply within_eq; with_reducible assumption) | dsimp -zeta only | ((with_reducible apply within_mk) <;> first | exact .inl Has.has | exact .inr rfl | skip))))

theorem modDom_within {F : Part → Prop} [Has F .doms] {s0 : State} (s : State) (d : Nat) (f : Domain → Domain) (hk : Within F s0 s) : Within F s0 (modDom s d f) := by
  unfold modDom
  iterate 60 (try (any_goals (first | with_reducible assumption | with_reducible apply within_ite | with_reducible apply within_ite_snd | (with_reducible apply within_foldl <;> [skip; intro _ _ _]) | split | extract_lets | (apply within_eq; with_reducible assumption) | dsimp -zeta only | ((with_reducible apply within_mk) <;> first | exact .inl Has.has | exact .inr rfl | skip))))

theorem modUnit_within {F : Part → Prop} [Has F .faults] {s0 : State} (s : State) (cls ix : Nat) (f : PUnit → PUnit) (hk : Within F s0 s) : Within F s0 (modUnit s cls ix f) := by
  unfold modUnit
  iterate 60 (try (any_goals (first | with_reducible assumption | with_reducible apply within_ite | with_reducible apply within_ite_snd | (with_reducible apply within_foldl <;> [skip; intro _ _ _]) | split | extract_lets | (apply within_eq; with_reducible assumption) | dsimp -zeta only | ((with_reducible apply within_mk) <;> first | exact .inl Has.has | exact .inr rfl | skip))))

theorem identitySign_within {F : Part → Prop} [Has F .free] {s0 : State} (s : State) (ctx digest : Bytes) (hk : Within F s0 s) : Within F s0 (identitySign s ctx digest).2 := by
  unfold identitySign
  iterate 60 (try (any_goals (first | with_reducible assumption | with_reducible apply within_ite | with_reducible apply within_ite_snd | with_reducible apply trngBytes_within | (with_reducible apply within_foldl <;> [skip; intro _ _ _]) | split | extract_lets | (apply within_eq; with_reducible assumption) | dsimp -zeta only | ((with_reducible apply within_mk) <;> first | exact .inl Has.has | exact .inr rfl | skip))))

theorem auditPush_within {F : Part → Prop} [Has F .audit] {s0 : State} (s : State) (source part kind : Nat) (body : Bytes) (hk : Within F s0 s) : Within F s0 (auditPush s source part kind body) := by
  unfold auditPush
  iterate 60 (try (any_goals (first | with_reducible assumption | with_reducible apply within_ite | with_reducible apply within_ite_snd | (with_reducible apply within_foldl <;> [skip; intro _ _ _]) | split | extract_lets | (apply within_eq; with_reducible assumption) | dsimp -zeta only | ((with_reducible apply within_mk) <;> first | exact .inl Has.has | exact .inr rfl | skip))))

theorem auditSummaries_within {F : Part → Prop} [Has F .audit] {s0 : State} (s : State) (hk : Within F s0 s) : Within F s0 (auditSummaries s) := by
  unfold auditSummaries
  iterate 60 (try (any_goals (first | with_reducible assumption | with_reducible apply within_ite | with_reducible apply within_ite_snd | with_reducible apply auditPush_within | (with_reducible apply within_foldl <;> [skip; intro _ _ _]) | split | extract_lets | (apply within_eq; with_reducible assumption) | dsimp -zeta only | ((with_reducible apply within_mk) <;> first | exact .inl Has.has | exact .inr rfl | skip))))

theorem audit_within {F : Part → Prop} [Has F .audit] {s0 : State} (s : State) (source part kind : Nat) (body : Bytes) (hk : Within F s0 s) : Within F s0 (audit s source part kind body) := by
  unfold audit
  iterate 60 (try (any_goals (first | with_reducible assumption | with_reducible apply within_ite | with_reducible apply within_ite_snd | with_reducible apply auditSummaries_within | with_reducible apply auditPush_within | (with_reducible apply within_foldl <;> [skip; intro _ _ _]) | split | extract_lets | (apply within_eq; with_reducible assumption) | dsimp -zeta only | ((with_reducible apply within_mk) <;> first | exact .inl Has.has | exact .inr rfl | skip))))

theorem modSrc_within {F : Part → Prop} [Has F .srcs] {s0 : State} (s : State) (n : Nat) (f : Src → Src) (hk : Within F s0 s) : Within F s0 (modSrc s n f) := by
  unfold modSrc
  iterate 60 (try (any_goals (first | with_reducible assumption | with_reducible apply within_ite | with_reducible apply within_ite_snd | (with_reducible apply within_foldl <;> [skip; intro _ _ _]) | split | extract_lets | (apply within_eq; with_reducible assumption) | dsimp -zeta only | ((with_reducible apply within_mk) <;> first | exact .inl Has.has | exact .inr rfl | skip))))

theorem wakeThr_within {F : Part → Prop} [Has F .threads] {s0 : State} (s : State) (t : Nat) (hk : Within F s0 s) : Within F s0 (wakeThr s t) := by
  unfold wakeThr
  iterate 60 (try (any_goals (first | with_reducible assumption | with_reducible apply within_ite | with_reducible apply within_ite_snd | with_reducible apply putThr_within | (with_reducible apply within_foldl <;> [skip; intro _ _ _]) | split | extract_lets | (apply within_eq; with_reducible assumption) | dsimp -zeta only | ((with_reducible apply within_mk) <;> first | exact .inl Has.has | exact .inr rfl | skip))))

theorem wakeTargets_within {F : Part → Prop} [Has F .threads] {s0 : State} (s : State) (n : Nat) (hk : Within F s0 s) : Within F s0 (wakeTargets s n) := by
  unfold wakeTargets
  iterate 60 (try (any_goals (first | with_reducible assumption | with_reducible apply within_ite | with_reducible apply within_ite_snd | with_reducible apply wakeThr_within | (with_reducible apply within_foldl <;> [skip; intro _ _ _]) | split | extract_lets | (apply within_eq; with_reducible assumption) | dsimp -zeta only | ((with_reducible apply within_mk) <;> first | exact .inl Has.has | exact .inr rfl | skip))))

theorem deny_within {F : Part → Prop} [Has F .regs] {s0 : State} (s : State) (p : Nat) (hk : Within F s0 s) : Within F s0 (deny s p) :=
  within_ite hk (bump_within _ _ _ _ _ _ hk)

theorem raise_within {F : Part → Prop} [Has F .regs] [Has F .threads] [Has F .srcs] {s0 : State} (s : State) (p n : Nat) (hk : Within F s0 s) : Within F s0 (raise s p n) := by
  unfold raise
  iterate 60 (try (any_goals (first | with_reducible assumption | with_reducible apply within_ite | with_reducible apply within_ite_snd | with_reducible apply deny_within | with_reducible apply wakeTargets_within | with_reducible apply modSrc_within | (with_reducible apply within_foldl <;> [skip; intro _ _ _]) | split | extract_lets | (apply within_eq; with_reducible assumption) | dsimp -zeta only | ((with_reducible apply within_mk) <;> first | exact .inl Has.has | exact .inr rfl | skip))))

theorem errKnock_within {F : Part → Prop} [Has F .regs] [Has F .threads] [Has F .srcs] {s0 : State} (s : State) (p : Nat) (hk : Within F s0 s) : Within F s0 (errKnock s p) :=
  raise_within _ _ _ hk

theorem loseResv_within {F : Part → Prop} [Has F .threads] {s0 : State} (s : State) (by_ : Option Nat) (lines : List Nat) (hk : Within F s0 s) : Within F s0 (loseResv s by_ lines) := by
  unfold loseResv
  iterate 60 (try (any_goals (first | with_reducible assumption | with_reducible apply within_ite | with_reducible apply within_ite_snd | (with_reducible apply within_foldl <;> [skip; intro _ _ _]) | split | extract_lets | (apply within_eq; with_reducible assumption) | dsimp -zeta only | ((with_reducible apply within_mk) <;> first | exact .inl Has.has | exact .inr rfl | skip))))

theorem storeAt_within {F : Part → Prop} [Has F .mem] [Has F .poison] [Has F .threads] {s0 : State} (s : State) (by_ : Option Nat) (a : Nat) (ds : List Digit) (bad : Bool) (hk : Within F s0 s) : Within F s0 (storeAt s by_ a ds bad) := by
  unfold storeAt
  iterate 60 (try (any_goals (first | with_reducible assumption | with_reducible apply within_ite | with_reducible apply within_ite_snd | with_reducible apply loseResv_within | (with_reducible apply within_foldl <;> [skip; intro _ _ _]) | split | extract_lets | (apply within_eq; with_reducible assumption) | dsimp -zeta only | ((with_reducible apply within_mk) <;> first | exact .inl Has.has | exact .inr rfl | skip))))

theorem storePieces_within {F : Part → Prop} [Has F .mem] [Has F .poison] [Has F .threads] {s0 : State} (by_ : Option Nat) (bad : Bool) : ∀ (ps : Pieces) (ds : List Digit) {s : State}, Within F s0 s →
    Within F s0 (storePieces s by_ ps ds bad)
  | [], _, _, h => h
  | (_, _) :: ps, ds, _, h => storePieces_within by_ bad ps _ (storeAt_within _ by_ _ _ bad h)

theorem storeBytes_within {F : Part → Prop} [Has F .mem] [Has F .poison] [Has F .threads] {s0 : State} (s : State) (ps : Pieces) (b : Bytes) (hk : Within F s0 s) : Within F s0 (storeBytes s ps b) := by
  unfold storeBytes
  iterate 60 (try (any_goals (first | with_reducible assumption | with_reducible apply within_ite | with_reducible apply within_ite_snd | with_reducible apply storePieces_within | (with_reducible apply within_foldl <;> [skip; intro _ _ _]) | split | extract_lets | (apply within_eq; with_reducible assumption) | dsimp -zeta only | ((with_reducible apply within_mk) <;> first | exact .inl Has.has | exact .inr rfl | skip))))

theorem clearMem_within {F : Part → Prop} [Has F .mem] [Has F .poison] {s0 : State} (s : State) (lo hi : Nat) (hk : Within F s0 s) : Within F s0 (clearMem s lo hi) := by
  unfold clearMem
  iterate 60 (try (any_goals (first | with_reducible assumption | with_reducible apply within_ite | with_reducible apply within_ite_snd | (with_reducible apply within_foldl <;> [skip; intro _ _ _]) | split | extract_lets | (apply within_eq; with_reducible assumption) | dsimp -zeta only | ((with_reducible apply within_mk) <;> first | exact .inl Has.has | exact .inr rfl | skip))))

theorem modKeeper_within {F : Part → Prop} [Has F .keeper] {s0 : State} (s : State) (f : Keeper → Keeper) (hk : Within F s0 s) : Within F s0 (modKeeper s f) := by
  unfold modKeeper
  iterate 60 (try (any_goals (first | with_reducible assumption | with_reducible apply within_ite | with_reducible apply within_ite_snd | (with_reducible apply within_foldl <;> [skip; intro _ _ _]) | split | extract_lets | (apply within_eq; with_reducible assumption) | dsimp -zeta only | ((with_reducible apply within_mk) <;> first | exact .inl Has.has | exact .inr rfl | skip))))

theorem blowTamper_within {F : Part → Prop} [Has F .fuses] {s0 : State} (s : State) (hk : Within F s0 s) : Within F s0 (blowTamper s) := by
  unfold blowTamper
  iterate 60 (try (any_goals (first | with_reducible assumption | with_reducible apply within_ite | with_reducible apply within_ite_snd | (with_reducible apply within_foldl <;> [skip; intro _ _ _]) | split | extract_lets | (apply within_eq; with_reducible assumption) | dsimp -zeta only | ((with_reducible apply within_mk) <;> first | exact .inl Has.has | exact .inr rfl | skip))))

theorem blowEpoch_within {F : Part → Prop} [Has F .fuses] {s0 : State} (s : State) (hk : Within F s0 s) : Within F s0 (blowEpoch s) := by
  unfold blowEpoch
  iterate 60 (try (any_goals (first | with_reducible assumption | with_reducible apply within_ite | with_reducible apply within_ite_snd | (with_reducible apply within_foldl <;> [skip; intro _ _ _]) | split | extract_lets | (apply within_eq; with_reducible assumption) | dsimp -zeta only | ((with_reducible apply within_mk) <;> first | exact .inl Has.has | exact .inr rfl | skip))))

theorem wakeEvent_within {F : Part → Prop} [Has F .supply] {s0 : State} (s : State) (cause : Nat) (hk : Within F s0 s) : Within F s0 (wakeEvent s cause) := by
  unfold wakeEvent
  iterate 60 (try (any_goals (first | with_reducible assumption | with_reducible apply within_ite | with_reducible apply within_ite_snd | (with_reducible apply within_foldl <;> [skip; intro _ _ _]) | split | extract_lets | (apply within_eq; with_reducible assumption) | dsimp -zeta only | ((with_reducible apply within_mk) <;> first | exact .inl Has.has | exact .inr rfl | skip))))

theorem dropCaches_within {F : Part → Prop} [Has F .cyls] {s0 : State} (s : State) (c : Nat) (hk : Within F s0 s) : Within F s0 (dropCaches s c) :=
  modCyl_within _ _ _ hk

theorem askFreeze_within {F : Part → Prop} [Has F .threads] {s0 : State} (s : State) (t : Nat) (why : Freeze) (hk : Within F s0 s) : Within F s0 (askFreeze s t why) := by
  unfold askFreeze
  iterate 60 (try (any_goals (first | with_reducible assumption | with_reducible apply within_ite | with_reducible apply within_ite_snd | with_reducible apply putThr_within | (with_reducible apply within_foldl <;> [skip; intro _ _ _]) | split | extract_lets | (apply within_eq; with_reducible assumption) | dsimp -zeta only | ((with_reducible apply within_mk) <;> first | exact .inl Has.has | exact .inr rfl | skip))))

theorem underProbe_within {F : Part → Prop} [Has F .threads] [Has F .cyls] [Has F .engs] [Has F .doms] {s0 : State} (s : State) (cls ix : Nat) (hk : Within F s0 s) : Within F s0 (underProbe s cls ix) := by
  unfold underProbe
  iterate 60 (try (any_goals (first | with_reducible assumption | with_reducible apply within_ite | with_reducible apply within_ite_snd | with_reducible apply askFreeze_within | with_reducible apply dropCaches_within | with_reducible apply modDom_within | with_reducible apply modEng_within | (with_reducible apply within_foldl <;> [skip; intro _ _ _]) | split | extract_lets | (apply within_eq; with_reducible assumption) | dsimp -zeta only | ((with_reducible apply within_mk) <;> first | exact .inl Has.has | exact .inr rfl | skip))))

theorem report_within {F : Part → Prop} [Has F .threads] [Has F .cyls] [Has F .engs] [Has F .doms] [Has F .faults] {s0 : State} (s : State) (cls ix err part detail : Nat) (hk : Within F s0 s) : Within F s0 (report s cls ix err part detail) := by
  unfold report
  iterate 60 (try (any_goals (first | with_reducible assumption | with_reducible apply within_ite | with_reducible apply within_ite_snd | with_reducible apply underProbe_within | with_reducible apply modUnit_within | (with_reducible apply within_foldl <;> [skip; intro _ _ _]) | split | extract_lets | (apply within_eq; with_reducible assumption) | dsimp -zeta only | ((with_reducible apply within_mk) <;> first | exact .inl Has.has | exact .inr rfl | skip))))

theorem quietCause_within {F : Part → Prop} [Has F .faults] {s0 : State} (s : State) (cause : Nat) (hk : Within F s0 s) : Within F s0 (quietCause s cause) := by
  unfold quietCause
  iterate 60 (try (any_goals (first | with_reducible assumption | with_reducible apply within_ite | with_reducible apply within_ite_snd | (with_reducible apply within_foldl <;> [skip; intro _ _ _]) | split | extract_lets | (apply within_eq; with_reducible assumption) | dsimp -zeta only | ((with_reducible apply within_mk) <;> first | exact .inl Has.has | exact .inr rfl | skip))))

theorem domDown_within {F : Part → Prop} [Has F .doms] {s0 : State} (s : State) (d : Nat) (hk : Within F s0 s) : Within F s0 (domDown s d) :=
  modDom_within _ _ _ hk

/-! ### Arbiters -/

theorem drawArb_within {F : Part → Prop} [Has F .arbs] {s0 : State} (s : State) (a : Nat) (cs : List Nat) (hk : Within F s0 s) : Within F s0 (drawArb s a cs).2 := by
  unfold drawArb
  iterate 60 (try (any_goals (first | with_reducible assumption | with_reducible apply within_ite | with_reducible apply within_ite_snd | (with_reducible apply within_foldl <;> [skip; intro _ _ _]) | split | extract_lets | (apply within_eq; with_reducible assumption) | dsimp -zeta only | ((with_reducible apply within_mk) <;> first | exact .inl Has.has | exact .inr rfl | skip))))

theorem seedDraw_within {F : Part → Prop} [Has F .free] {s0 : State} : ∀ (n : Nat) {s : State}, Within F s0 s → Within F s0 (seedDraw s n).2
  | 0, _, h => h
  | n + 1, _, h => by
    unfold seedDraw
    extract_lets
    split
    · exact seedDraw_within n (trngBytes_within _ 4 h)
    · exact trngBytes_within _ 4 h

theorem seedArbiters_within {F : Part → Prop} [Has F .free] [Has F .arbs] [Has F .seeded] {s0 : State} (s : State) (hk : Within F s0 s) : Within F s0 (seedArbiters s) := by
  unfold seedArbiters
  extract_lets s1
  have h1 : Within F s0 s1 := by
    apply within_foldl _ hk
    intro s x h
    extract_lets r
    have hr : Within F s0 r.2 := seedDraw_within 64 h
    clear_value r
    exact within_step hr rfl (by intro p; cases p <;> first | exact .inl Has.has | exact .inr rfl)
  clear_value s1
  exact within_step h1 rfl (by intro p; cases p <;> first | exact .inl Has.has | exact .inr rfl)

theorem unseedArbiters_within {F : Part → Prop} [Has F .arbs] [Has F .seeded] {s0 : State} (s : State) (hk : Within F s0 s) : Within F s0 (unseedArbiters s) := by
  unfold unseedArbiters
  iterate 60 (try (any_goals (first | with_reducible assumption | with_reducible apply within_ite | with_reducible apply within_ite_snd | (with_reducible apply within_foldl <;> [skip; intro _ _ _]) | split | extract_lets | (apply within_eq; with_reducible assumption) | dsimp -zeta only | ((with_reducible apply within_mk) <;> first | exact .inl Has.has | exact .inr rfl | skip))))

/-! ### Wire -/

theorem modLink_within {F : Part → Prop} [Has F .westad] {s0 : State} (s : State) (l : Nat) (f : Link → Link) (hk : Within F s0 s) : Within F s0 (modLink s l f) := by
  unfold modLink
  iterate 60 (try (any_goals (first | with_reducible assumption | with_reducible apply within_ite | with_reducible apply within_ite_snd | (with_reducible apply within_foldl <;> [skip; intro _ _ _]) | split | extract_lets | (apply within_eq; with_reducible assumption) | dsimp -zeta only | ((with_reducible apply within_mk) <;> first | exact .inl Has.has | exact .inr rfl | skip))))

theorem modPair_within {F : Part → Prop} [Has F .westad] {s0 : State} (s : State) (m : Nat) (f : Pair → Pair) (hk : Within F s0 s) : Within F s0 (modPair s m f) := by
  unfold modPair
  iterate 60 (try (any_goals (first | with_reducible assumption | with_reducible apply within_ite | with_reducible apply within_ite_snd | (with_reducible apply within_foldl <;> [skip; intro _ _ _]) | split | extract_lets | (apply within_eq; with_reducible assumption) | dsimp -zeta only | ((with_reducible apply within_mk) <;> first | exact .inl Has.has | exact .inr rfl | skip))))

theorem sendFlit_within {F : Part → Prop} [Has F .westad] [Has F .out] {s0 : State} (s : State) (l ty seq cred frag : Nat) (pay : Bytes) (hk : Within F s0 s) : Within F s0 (sendFlit s l ty seq cred frag pay) := by
  unfold sendFlit
  iterate 60 (try (any_goals (first | with_reducible assumption | with_reducible apply within_ite | with_reducible apply within_ite_snd | with_reducible apply modLink_within | with_reducible apply emit_within | (with_reducible apply within_foldl <;> [skip; intro _ _ _]) | split | extract_lets | (apply within_eq; with_reducible assumption) | dsimp -zeta only | ((with_reducible apply within_mk) <;> first | exact .inl Has.has | exact .inr rfl | skip))))

theorem sendData_within {F : Part → Prop} [Has F .westad] [Has F .out] {s0 : State} (s : State) (l c : Nat) (hk : Within F s0 s) : Within F s0 (sendData s l c) := by
  unfold sendData
  iterate 60 (try (any_goals (first | with_reducible assumption | with_reducible apply within_ite | with_reducible apply within_ite_snd | with_reducible apply sendFlit_within | with_reducible apply modLink_within | (with_reducible apply within_foldl <;> [skip; intro _ _ _]) | split | extract_lets | (apply within_eq; with_reducible assumption) | dsimp -zeta only | ((with_reducible apply within_mk) <;> first | exact .inl Has.has | exact .inr rfl | skip))))

theorem pumpLink_within {F : Part → Prop} [Has F .arbs] [Has F .westad] [Has F .out] {s0 : State} (nn : Nat) : ∀ {s : State} (l : Nat), Within F s0 s → Within F s0 (pumpLink s l nn) := by
  induction nn with
  | zero => intros; unfold pumpLink
            iterate 30 (try (any_goals (first | with_reducible assumption | with_reducible apply within_ite | with_reducible apply within_ite_snd | with_reducible apply sendData_within | with_reducible apply drawArb_within | (with_reducible apply within_foldl <;> [skip; intro _ _ _]) | split | extract_lets | (apply within_eq; with_reducible assumption) | dsimp -zeta only | ((with_reducible apply within_mk) <;> first | exact .inl Has.has | exact .inr rfl | skip))))
  | succ nn ih =>
    intros
    unfold pumpLink
    iterate 60 (try (any_goals (first | with_reducible assumption | with_reducible apply ih | with_reducible apply within_ite | with_reducible apply within_ite_snd | with_reducible apply sendData_within | with_reducible apply drawArb_within | (with_reducible apply within_foldl <;> [skip; intro _ _ _]) | split | extract_lets | (apply within_eq; with_reducible assumption) | dsimp -zeta only | ((with_reducible apply within_mk) <;> first | exact .inl Has.has | exact .inr rfl | skip))))

theorem pump_within {F : Part → Prop} [Has F .arbs] [Has F .westad] [Has F .out] {s0 : State} (s : State) (l : Nat) (hk : Within F s0 s) : Within F s0 (pump s l) := by
  unfold pump
  iterate 60 (try (any_goals (first | with_reducible assumption | with_reducible apply within_ite | with_reducible apply within_ite_snd | with_reducible apply pumpLink_within | (with_reducible apply within_foldl <;> [skip; intro _ _ _]) | split | extract_lets | (apply within_eq; with_reducible assumption) | dsimp -zeta only | ((with_reducible apply within_mk) <;> first | exact .inl Has.has | exact .inr rfl | skip))))

theorem putOnLink_within {F : Part → Prop} [Has F .arbs] [Has F .westad] [Has F .out] {s0 : State} (s : State) (dst cls : Nat) (msg : Bytes) (hk : Within F s0 s) : Within F s0 (putOnLink s dst cls msg) := by
  unfold putOnLink
  iterate 60 (try (any_goals (first | with_reducible assumption | with_reducible apply within_ite | with_reducible apply within_ite_snd | with_reducible apply pump_within | with_reducible apply modLink_within | (with_reducible apply within_foldl <;> [skip; intro _ _ _]) | split | extract_lets | (apply within_eq; with_reducible assumption) | dsimp -zeta only | ((with_reducible apply within_mk) <;> first | exact .inl Has.has | exact .inr rfl | skip))))

theorem resendPair_within {F : Part → Prop} [Has F .arbs] [Has F .westad] [Has F .out] {s0 : State} (s : State) (m : Nat) (hk : Within F s0 s) : Within F s0 (resendPair s m) := by
  unfold resendPair
  iterate 60 (try (any_goals (first | with_reducible assumption | with_reducible apply within_ite | with_reducible apply within_ite_snd | with_reducible apply putOnLink_within | (with_reducible apply within_foldl <;> [skip; intro _ _ _]) | split | extract_lets | (apply within_eq; with_reducible assumption) | dsimp -zeta only | ((with_reducible apply within_mk) <;> first | exact .inl Has.has | exact .inr rfl | skip))))

theorem sendMsg_within {F : Part → Prop} [Has F .arbs] [Has F .westad] [Has F .out] {s0 : State} (s : State) (m cls mtype : Nat) (body : Bytes) (hk : Within F s0 s) : Within F s0 (sendMsg s m cls mtype body) := by
  unfold sendMsg
  iterate 60 (try (any_goals (first | with_reducible assumption | with_reducible apply within_ite | with_reducible apply within_ite_snd | with_reducible apply putOnLink_within | with_reducible apply modPair_within | (with_reducible apply within_foldl <;> [skip; intro _ _ _]) | split | extract_lets | (apply within_eq; with_reducible assumption) | dsimp -zeta only | ((with_reducible apply within_mk) <;> first | exact .inl Has.has | exact .inr rfl | skip))))

theorem sendAll_within {F : Part → Prop} [Has F .arbs] [Has F .westad] [Has F .out] {s0 : State} (s : State) (cls mtype : Nat) (body : Bytes) (hk : Within F s0 s) : Within F s0 (sendAll s cls mtype body) := by
  unfold sendAll
  iterate 60 (try (any_goals (first | with_reducible assumption | with_reducible apply within_ite | with_reducible apply within_ite_snd | with_reducible apply sendMsg_within | (with_reducible apply within_foldl <;> [skip; intro _ _ _]) | split | extract_lets | (apply within_eq; with_reducible assumption) | dsimp -zeta only | ((with_reducible apply within_mk) <;> first | exact .inl Has.has | exact .inr rfl | skip))))

theorem sendAck_within {F : Part → Prop} [Has F .arbs] [Has F .westad] [Has F .out] {s0 : State} (s : State) (m cls : Nat) (hk : Within F s0 s) : Within F s0 (sendAck s m cls) :=
  within_ite (putOnLink_within _ _ _ _ hk) hk

theorem sendClear_within {F : Part → Prop} [Has F .arbs] [Has F .westad] [Has F .out] {s0 : State} (s : State) (m mtype : Nat) (body : Bytes) (hk : Within F s0 s) : Within F s0 (sendClear s m mtype body) :=
  putOnLink_within _ _ _ _ hk

theorem kxSign_within {F : Part → Prop} [Has F .free] {s0 : State} (s : State) (digest : Bytes) (hk : Within F s0 s) : Within F s0 (kxSign s digest).2 := by
  unfold kxSign
  iterate 60 (try (any_goals (first | with_reducible assumption | with_reducible apply within_ite | with_reducible apply within_ite_snd | with_reducible apply identitySign_within | (with_reducible apply within_foldl <;> [skip; intro _ _ _]) | split | extract_lets | (apply within_eq; with_reducible assumption) | dsimp -zeta only | ((with_reducible apply within_mk) <;> first | exact .inl Has.has | exact .inr rfl | skip))))

theorem startKeying_within {F : Part → Prop} [Has F .free] [Has F .arbs] [Has F .westad] [Has F .out] {s0 : State} (s : State) (m : Nat) (hk : Within F s0 s) : Within F s0 (startKeying s m) := by
  unfold startKeying
  iterate 60 (try (any_goals (first | with_reducible assumption | with_reducible apply within_ite | with_reducible apply within_ite_snd | with_reducible apply kxSign_within | with_reducible apply sendClear_within | with_reducible apply modPair_within | with_reducible apply trngBytes_within | (with_reducible apply within_foldl <;> [skip; intro _ _ _]) | split | extract_lets | (apply within_eq; with_reducible assumption) | dsimp -zeta only | ((with_reducible apply within_mk) <;> first | exact .inl Has.has | exact .inr rfl | skip))))

theorem pairKeyed_within {F : Part → Prop} [Has F .arbs] [Has F .westad] [Has F .out] {s0 : State} (s : State) (m : Nat) (initiator : Bool) (secret kx1 kx2 : Bytes) (hk : Within F s0 s) : Within F s0 (pairKeyed s m initiator secret kx1 kx2) := by
  unfold pairKeyed
  iterate 60 (try (any_goals (first | with_reducible assumption | with_reducible apply within_ite | with_reducible apply within_ite_snd | with_reducible apply resendPair_within | with_reducible apply modPair_within | (with_reducible apply within_foldl <;> [skip; intro _ _ _]) | split | extract_lets | (apply within_eq; with_reducible assumption) | dsimp -zeta only | ((with_reducible apply within_mk) <;> first | exact .inl Has.has | exact .inr rfl | skip))))

theorem refusePair_within {F : Part → Prop} [Has F .westad] [Has F .audit] {s0 : State} (s : State) (m : Nat) (hk : Within F s0 s) : Within F s0 (refusePair s m) :=
  audit_within _ _ _ _ _ (modPair_within _ _ _ hk)

theorem floodRoute_within {F : Part → Prop} [Has F .arbs] [Has F .westad] [Has F .out] {s0 : State} (s : State) (src : Nat) (edges : List (Nat × Nat)) (hk : Within F s0 s) : Within F s0 (floodRoute s src edges) := by
  unfold floodRoute
  iterate 60 (try (any_goals (first | with_reducible assumption | with_reducible apply within_ite | with_reducible apply within_ite_snd | with_reducible apply pump_within | with_reducible apply modLink_within | (with_reducible apply within_foldl <;> [skip; intro _ _ _]) | split | extract_lets | (apply within_eq; with_reducible assumption) | dsimp -zeta only | ((with_reducible apply within_mk) <;> first | exact .inl Has.has | exact .inr rfl | skip))))

theorem routesChanged_within {F : Part → Prop} [Has F .free] [Has F .arbs] [Has F .westad] [Has F .out] {s0 : State} (s : State) (hk : Within F s0 s) : Within F s0 (routesChanged s) := by
  unfold routesChanged
  iterate 60 (try (any_goals (first | with_reducible assumption | with_reducible apply within_ite | with_reducible apply within_ite_snd | with_reducible apply startKeying_within | with_reducible apply sendClear_within | with_reducible apply resendPair_within | (with_reducible apply within_foldl <;> [skip; intro _ _ _]) | split | extract_lets | (apply within_eq; with_reducible assumption) | dsimp -zeta only | ((with_reducible apply within_mk) <;> first | exact .inl Has.has | exact .inr rfl | skip))))

theorem linksChanged_within {F : Part → Prop} [Has F .free] [Has F .arbs] [Has F .westad] [Has F .out] {s0 : State} (s : State) (hk : Within F s0 s) : Within F s0 (linksChanged s) := by
  unfold linksChanged
  iterate 60 (try (any_goals (first | with_reducible assumption | with_reducible apply within_ite | with_reducible apply within_ite_snd | with_reducible apply routesChanged_within | with_reducible apply floodRoute_within | (with_reducible apply within_foldl <;> [skip; intro _ _ _]) | split | extract_lets | (apply within_eq; with_reducible assumption) | dsimp -zeta only | ((with_reducible apply within_mk) <;> first | exact .inl Has.has | exact .inr rfl | skip))))

/-! ### Translate -/

theorem tlbUse_within {F : Part → Prop} [Has F .cyls] {s0 : State} (s : State) (t va acc : Nat) (hk : Within F s0 s) : Within F s0 (tlbUse s t va acc) := by
  unfold tlbUse
  iterate 60 (try (any_goals (first | with_reducible assumption | with_reducible apply within_ite | with_reducible apply within_ite_snd | with_reducible apply modCyl_within | (with_reducible apply within_foldl <;> [skip; intro _ _ _]) | split | extract_lets | (apply within_eq; with_reducible assumption) | dsimp -zeta only | ((with_reducible apply within_mk) <;> first | exact .inl Has.has | exact .inr rfl | skip))))

theorem tlbInstall_within {F : Part → Prop} [Has F .cyls] [Has F .krs] {s0 : State} (s : State) (t acc : Nat) (e : TlbEntry) (hk : Within F s0 s) : Within F s0 (tlbInstall s t acc e) := by
  unfold tlbInstall
  iterate 60 (try (any_goals (first | with_reducible assumption | with_reducible apply within_ite | with_reducible apply within_ite_snd | with_reducible apply modKr_within | with_reducible apply modCyl_within | (with_reducible apply within_foldl <;> [skip; intro _ _ _]) | split | extract_lets | (apply within_eq; with_reducible assumption) | dsimp -zeta only | ((with_reducible apply within_mk) <;> first | exact .inl Has.has | exact .inr rfl | skip))))

theorem tlbDrop_within {F : Part → Prop} [Has F .cyls] [Has F .krs] [Has F .dmaTlb] {s0 : State} (s : State) (f : TlbEntry → Bool) (hk : Within F s0 s) : Within F s0 (tlbDrop s f) := by
  unfold tlbDrop
  iterate 60 (try (any_goals (first | with_reducible assumption | with_reducible apply within_ite | with_reducible apply within_ite_snd | (with_reducible apply within_foldl <;> [skip; intro _ _ _]) | split | extract_lets | (apply within_eq; with_reducible assumption) | dsimp -zeta only | ((with_reducible apply within_mk) <;> first | exact .inl Has.has | exact .inr rfl | skip))))

theorem storeUse_within {F : Part → Prop} [Has F .krs] {s0 : State} (s : State) (k line part : Nat) (dirty : Bool) (hk : Within F s0 s) : Within F s0 (storeUse s k line part dirty) :=
  modKr_within _ _ _ hk

theorem cacheLoad_within {F : Part → Prop} [Has F .cyls] [Has F .krs] {s0 : State} (s : State) (t line : Nat) (hk : Within F s0 s) : Within F s0 (cacheLoad s t line) := by
  unfold cacheLoad
  iterate 60 (try (any_goals (first | with_reducible assumption | with_reducible apply within_ite | with_reducible apply within_ite_snd | with_reducible apply storeUse_within | with_reducible apply modCyl_within | (with_reducible apply within_foldl <;> [skip; intro _ _ _]) | split | extract_lets | (apply within_eq; with_reducible assumption) | dsimp -zeta only | ((with_reducible apply within_mk) <;> first | exact .inl Has.has | exact .inr rfl | skip))))

theorem cacheFetch_within {F : Part → Prop} [Has F .cyls] [Has F .krs] {s0 : State} (s : State) (t line : Nat) (hk : Within F s0 s) : Within F s0 (cacheFetch s t line) := by
  unfold cacheFetch
  iterate 60 (try (any_goals (first | with_reducible assumption | with_reducible apply within_ite | with_reducible apply within_ite_snd | with_reducible apply storeUse_within | with_reducible apply modCyl_within | (with_reducible apply within_foldl <;> [skip; intro _ _ _]) | split | extract_lets | (apply within_eq; with_reducible assumption) | dsimp -zeta only | ((with_reducible apply within_mk) <;> first | exact .inl Has.has | exact .inr rfl | skip))))

theorem cacheStore_within {F : Part → Prop} [Has F .krs] {s0 : State} (s : State) (t line : Nat) (hk : Within F s0 s) : Within F s0 (cacheStore s t line) :=
  within_ite (storeUse_within _ _ _ _ _ hk) hk

/-! ### Seats -/

theorem decideSeat_within {F : Part → Prop} [Has F .threads] {s0 : State} (s : State) (t e code : Nat) (hk : Within F s0 s) : Within F s0 (decideSeat s t e code) := by
  unfold decideSeat
  iterate 60 (try (any_goals (first | with_reducible assumption | with_reducible apply within_ite | with_reducible apply within_ite_snd | with_reducible apply putThr_within | (with_reducible apply within_foldl <;> [skip; intro _ _ _]) | split | extract_lets | (apply within_eq; with_reducible assumption) | dsimp -zeta only | ((with_reducible apply within_mk) <;> first | exact .inl Has.has | exact .inr rfl | skip))))

theorem giveSeat_within {F : Part → Prop} [Has F .threads] [Has F .engs] {s0 : State} (s : State) (t e : Nat) (hk : Within F s0 s) : Within F s0 (giveSeat s t e) :=
  decideSeat_within _ _ _ _ (modEng_within _ _ _ hk)

theorem grantSeats_within {F : Part → Prop} [Has F .threads] [Has F .engs] [Has F .arbs] {s0 : State} (nn : Nat) : ∀ {s : State} (e : Nat), Within F s0 s → Within F s0 (grantSeats s e nn) := by
  induction nn with
  | zero => intros; unfold grantSeats
            iterate 30 (try (any_goals (first | with_reducible assumption | with_reducible apply within_ite | with_reducible apply within_ite_snd | with_reducible apply giveSeat_within | with_reducible apply drawArb_within | (with_reducible apply within_foldl <;> [skip; intro _ _ _]) | split | extract_lets | (apply within_eq; with_reducible assumption) | dsimp -zeta only | ((with_reducible apply within_mk) <;> first | exact .inl Has.has | exact .inr rfl | skip))))
  | succ nn ih =>
    intros
    unfold grantSeats
    iterate 60 (try (any_goals (first | with_reducible assumption | with_reducible apply ih | with_reducible apply within_ite | with_reducible apply within_ite_snd | with_reducible apply giveSeat_within | with_reducible apply drawArb_within | (with_reducible apply within_foldl <;> [skip; intro _ _ _]) | split | extract_lets | (apply within_eq; with_reducible assumption) | dsimp -zeta only | ((with_reducible apply within_mk) <;> first | exact .inl Has.has | exact .inr rfl | skip))))

theorem reserveSeat_within {F : Part → Prop} [Has F .threads] [Has F .engs] {s0 : State} (s : State) (t i : Nat) (hk : Within F s0 s) : Within F s0 (reserveSeat s t i) := by
  unfold reserveSeat
  iterate 60 (try (any_goals (first | with_reducible assumption | with_reducible apply within_ite | with_reducible apply within_ite_snd | with_reducible apply giveSeat_within | with_reducible apply decideSeat_within | with_reducible apply modEng_within | with_reducible apply putThr_within | (with_reducible apply within_foldl <;> [skip; intro _ _ _]) | split | extract_lets | (apply within_eq; with_reducible assumption) | dsimp -zeta only | ((with_reducible apply within_mk) <;> first | exact .inl Has.has | exact .inr rfl | skip))))

theorem endSeat_within {F : Part → Prop} [Has F .threads] [Has F .engs] [Has F .arbs] {s0 : State} (s : State) (t e : Nat) (hk : Within F s0 s) : Within F s0 (endSeat s t e) := by
  unfold endSeat
  iterate 60 (try (any_goals (first | with_reducible assumption | with_reducible apply within_ite | with_reducible apply within_ite_snd | with_reducible apply grantSeats_within | with_reducible apply modEng_within | (with_reducible apply within_foldl <;> [skip; intro _ _ _]) | split | extract_lets | (apply within_eq; with_reducible assumption) | dsimp -zeta only | ((with_reducible apply within_mk) <;> first | exact .inl Has.has | exact .inr rfl | skip))))

theorem endSeats_within {F : Part → Prop} [Has F .threads] [Has F .engs] [Has F .arbs] {s0 : State} (s : State) (t : Nat) (hk : Within F s0 s) : Within F s0 (endSeats s t) := by
  unfold endSeats
  iterate 60 (try (any_goals (first | with_reducible assumption | with_reducible apply within_ite | with_reducible apply within_ite_snd | with_reducible apply endSeat_within | (with_reducible apply within_foldl <;> [skip; intro _ _ _]) | split | extract_lets | (apply within_eq; with_reducible assumption) | dsimp -zeta only | ((with_reducible apply within_mk) <;> first | exact .inl Has.has | exact .inr rfl | skip))))

theorem withdrawSeat_within {F : Part → Prop} [Has F .threads] [Has F .engs] {s0 : State} (s : State) (t : Nat) (hk : Within F s0 s) : Within F s0 (withdrawSeat s t) := by
  unfold withdrawSeat
  iterate 60 (try (any_goals (first | with_reducible assumption | with_reducible apply within_ite | with_reducible apply within_ite_snd | with_reducible apply decideSeat_within | with_reducible apply modEng_within | (with_reducible apply within_foldl <;> [skip; intro _ _ _]) | split | extract_lets | (apply within_eq; with_reducible assumption) | dsimp -zeta only | ((with_reducible apply within_mk) <;> first | exact .inl Has.has | exact .inr rfl | skip))))

theorem jobReport_within {F : Part → Prop} [Has F .threads] {s0 : State} (s : State) (t i status : Nat) (hk : Within F s0 s) : Within F s0 (jobReport s t i status) := by
  unfold jobReport
  iterate 60 (try (any_goals (first | with_reducible assumption | with_reducible apply within_ite | with_reducible apply within_ite_snd | with_reducible apply putThr_within | (with_reducible apply within_foldl <;> [skip; intro _ _ _]) | split | extract_lets | (apply within_eq; with_reducible assumption) | dsimp -zeta only | ((with_reducible apply within_mk) <;> first | exact .inl Has.has | exact .inr rfl | skip))))

theorem acceptJobs_within {F : Part → Prop} [Has F .threads] [Has F .engs] {s0 : State} (s : State) (t : Nat) (hk : Within F s0 s) : Within F s0 (acceptJobs s t) := by
  unfold acceptJobs
  iterate 60 (try (any_goals (first | with_reducible assumption | with_reducible apply within_ite | with_reducible apply within_ite_snd | with_reducible apply modEng_within | with_reducible apply putThr_within | (with_reducible apply within_foldl <;> [skip; intro _ _ _]) | split | extract_lets | (apply within_eq; with_reducible assumption) | dsimp -zeta only | ((with_reducible apply within_mk) <;> first | exact .inl Has.has | exact .inr rfl | skip))))

theorem submitJob_within {F : Part → Prop} [Has F .threads] [Has F .engs] {s0 : State} (s : State) (t i va : Nat) (desc : Pieces) (hk : Within F s0 s) : Within F s0 (submitJob s t i va desc) := by
  unfold submitJob
  iterate 60 (try (any_goals (first | with_reducible assumption | with_reducible apply within_ite | with_reducible apply within_ite_snd | with_reducible apply acceptJobs_within | with_reducible apply jobReport_within | with_reducible apply putThr_within | (with_reducible apply within_foldl <;> [skip; intro _ _ _]) | split | extract_lets | (apply within_eq; with_reducible assumption) | dsimp -zeta only | ((with_reducible apply within_mk) <;> first | exact .inl Has.has | exact .inr rfl | skip))))

/-! ### Queues -/

theorem modCq_within {F : Part → Prop} [Has F .intake] {s0 : State} (s : State) (q : Nat) (f : CmdQueue → CmdQueue) (hk : Within F s0 s) : Within F s0 (modCq s q f) := by
  unfold modCq
  iterate 60 (try (any_goals (first | with_reducible assumption | with_reducible apply within_ite | with_reducible apply within_ite_snd | (with_reducible apply within_foldl <;> [skip; intro _ _ _]) | split | extract_lets | (apply within_eq; with_reducible assumption) | dsimp -zeta only | ((with_reducible apply within_mk) <;> first | exact .inl Has.has | exact .inr rfl | skip))))

theorem modRq_within {F : Part → Prop} [Has F .intake] {s0 : State} (s : State) (q : Nat) (f : RespQueue → RespQueue) (hk : Within F s0 s) : Within F s0 (modRq s q f) := by
  unfold modRq
  iterate 60 (try (any_goals (first | with_reducible assumption | with_reducible apply within_ite | with_reducible apply within_ite_snd | (with_reducible apply within_foldl <;> [skip; intro _ _ _]) | split | extract_lets | (apply within_eq; with_reducible assumption) | dsimp -zeta only | ((with_reducible apply within_mk) <;> first | exact .inl Has.has | exact .inr rfl | skip))))

theorem modSess_within {F : Part → Prop} [Has F .intake] {s0 : State} (s : State) (n : Nat) (f : Session → Session) (hk : Within F s0 s) : Within F s0 (modSess s n f) := by
  unfold modSess
  iterate 60 (try (any_goals (first | with_reducible assumption | with_reducible apply within_ite | with_reducible apply within_ite_snd | (with_reducible apply within_foldl <;> [skip; intro _ _ _]) | split | extract_lets | (apply within_eq; with_reducible assumption) | dsimp -zeta only | ((with_reducible apply within_mk) <;> first | exact .inl Has.has | exact .inr rfl | skip))))

theorem setHold_within {F : Part → Prop} [Has F .intake] [Has F .pins] {s0 : State} (s : State) (g : Nat) (hk : Within F s0 s) : Within F s0 (setHold s g) := by
  unfold setHold
  iterate 60 (try (any_goals (first | with_reducible assumption | with_reducible apply within_ite | with_reducible apply within_ite_snd | (with_reducible apply within_foldl <;> [skip; intro _ _ _]) | split | extract_lets | (apply within_eq; with_reducible assumption) | dsimp -zeta only | ((with_reducible apply within_mk) <;> first | exact .inl Has.has | exact .inr rfl | skip))))

theorem setHolds_within {F : Part → Prop} [Has F .intake] [Has F .pins] {s0 : State} (s : State) (hk : Within F s0 s) : Within F s0 (setHolds s) := by
  unfold setHolds
  iterate 60 (try (any_goals (first | with_reducible assumption | with_reducible apply within_ite | with_reducible apply within_ite_snd | with_reducible apply setHold_within | (with_reducible apply within_foldl <;> [skip; intro _ _ _]) | split | extract_lets | (apply within_eq; with_reducible assumption) | dsimp -zeta only | ((with_reducible apply within_mk) <;> first | exact .inl Has.has | exact .inr rfl | skip))))

theorem setFlow_within {F : Part → Prop} [Has F .intake] [Has F .out] {s0 : State} (s : State) (port : Nat) (hk : Within F s0 s) : Within F s0 (setFlow s port) := by
  unfold setFlow
  iterate 60 (try (any_goals (first | with_reducible assumption | with_reducible apply within_ite | with_reducible apply within_ite_snd | with_reducible apply emit_within | (with_reducible apply within_foldl <;> [skip; intro _ _ _]) | split | extract_lets | (apply within_eq; with_reducible assumption) | dsimp -zeta only | ((with_reducible apply within_mk) <;> first | exact .inl Has.has | exact .inr rfl | skip))))

theorem setPressure_within {F : Part → Prop} [Has F .intake] [Has F .pins] [Has F .out] {s0 : State} (s : State) (hk : Within F s0 s) : Within F s0 (setPressure s) :=
  setFlow_within _ _ (setFlow_within _ _ (setHolds_within _ hk))

theorem judgeHigh_within {F : Part → Prop} [Has F .intake] [Has F .pins] [Has F .out] {s0 : State} (s : State) (q : Nat) (hk : Within F s0 s) : Within F s0 (judgeHigh s q) := by
  unfold judgeHigh
  iterate 60 (try (any_goals (first | with_reducible assumption | with_reducible apply within_ite | with_reducible apply within_ite_snd | with_reducible apply setPressure_within | with_reducible apply modCq_within | (with_reducible apply within_foldl <;> [skip; intro _ _ _]) | split | extract_lets | (apply within_eq; with_reducible assumption) | dsimp -zeta only | ((with_reducible apply within_mk) <;> first | exact .inl Has.has | exact .inr rfl | skip))))

theorem freeLines_within {F : Part → Prop} [Has F .intake] [Has F .pins] [Has F .out] {s0 : State} (s : State) (c : Cmd) (hk : Within F s0 s) : Within F s0 (freeLines s c) :=
  judgeHigh_within _ _ (modCq_within _ _ _ hk)

theorem modCmd_within {F : Part → Prop} [Has F .threads] [Has F .intake] {s0 : State} (s : State) (q ord : Nat) (f : Cmd → Cmd) (hk : Within F s0 s) : Within F s0 (modCmd s q ord f) := by
  unfold modCmd
  iterate 60 (try (any_goals (first | with_reducible assumption | with_reducible apply within_ite | with_reducible apply within_ite_snd | with_reducible apply modCq_within | with_reducible apply rawThr_within | (with_reducible apply within_foldl <;> [skip; intro _ _ _]) | split | extract_lets | (apply within_eq; with_reducible assumption) | dsimp -zeta only | ((with_reducible apply within_mk) <;> first | exact .inl Has.has | exact .inr rfl | skip))))

theorem markGap_within {F : Part → Prop} [Has F .threads] [Has F .intake] {s0 : State} (s : State) (q : Nat) (hk : Within F s0 s) : Within F s0 (markGap s q) := by
  unfold markGap
  iterate 60 (try (any_goals (first | with_reducible assumption | with_reducible apply within_ite | with_reducible apply within_ite_snd | with_reducible apply modCmd_within | with_reducible apply modCq_within | (with_reducible apply within_foldl <;> [skip; intro _ _ _]) | split | extract_lets | (apply within_eq; with_reducible assumption) | dsimp -zeta only | ((with_reducible apply within_mk) <;> first | exact .inl Has.has | exact .inr rfl | skip))))

theorem dropCmd_within {F : Part → Prop} [Has F .regs] [Has F .threads] [Has F .intake] {s0 : State} (s : State) (q : Nat) (hk : Within F s0 s) : Within F s0 (dropCmd s q) :=
  markGap_within _ _ (bump_within _ _ _ _ _ _ hk)

theorem markRespGap_within {F : Part → Prop} [Has F .intake] {s0 : State} (s : State) (q : Nat) (hk : Within F s0 s) : Within F s0 (markRespGap s q) := by
  unfold markRespGap
  iterate 60 (try (any_goals (first | with_reducible assumption | with_reducible apply within_ite | with_reducible apply within_ite_snd | with_reducible apply modRq_within | (with_reducible apply within_foldl <;> [skip; intro _ _ _]) | split | extract_lets | (apply within_eq; with_reducible assumption) | dsimp -zeta only | ((with_reducible apply within_mk) <;> first | exact .inl Has.has | exact .inr rfl | skip))))

theorem dropResp_within {F : Part → Prop} [Has F .regs] [Has F .intake] {s0 : State} (s : State) (q : Nat) (hk : Within F s0 s) : Within F s0 (dropResp s q) :=
  markRespGap_within _ _ (bump_within _ _ _ _ _ _ hk)

theorem setSmbAlert_within {F : Part → Prop} [Has F .pins] {s0 : State} (s : State) (hk : Within F s0 s) : Within F s0 (setSmbAlert s) := by
  unfold setSmbAlert
  iterate 60 (try (any_goals (first | with_reducible assumption | with_reducible apply within_ite | with_reducible apply within_ite_snd | (with_reducible apply within_foldl <;> [skip; intro _ _ _]) | split | extract_lets | (apply within_eq; with_reducible assumption) | dsimp -zeta only | ((with_reducible apply within_mk) <;> first | exact .inl Has.has | exact .inr rfl | skip))))

theorem storeResp_within {F : Part → Prop} [Has F .regs] [Has F .intake] [Has F .pins] {s0 : State} (s : State) (q : Nat) (r : Resp) (hk : Within F s0 s) : Within F s0 (storeResp s q r) :=
  within_ite (dropResp_within _ _ hk) (setSmbAlert_within _ (modRq_within _ _ _ hk))

theorem answer_within {F : Part → Prop} [Has F .regs] [Has F .intake] [Has F .pins] {s0 : State} (s : State) (c : Cmd) (rcode : Nat) (hk : Within F s0 s) : Within F s0 (answer s c rcode) := by
  unfold answer
  iterate 60 (try (any_goals (first | with_reducible assumption | with_reducible apply within_ite | with_reducible apply within_ite_snd | with_reducible apply storeResp_within | with_reducible apply bump_within | (with_reducible apply within_foldl <;> [skip; intro _ _ _]) | split | extract_lets | (apply within_eq; with_reducible assumption) | dsimp -zeta only | ((with_reducible apply within_mk) <;> first | exact .inl Has.has | exact .inr rfl | skip))))

theorem answerRelease_within {F : Part → Prop} [Has F .regs] [Has F .intake] [Has F .pins] [Has F .out] {s0 : State} (s : State) (c : Cmd) (rcode : Nat) (hk : Within F s0 s) : Within F s0 (answerRelease s c rcode) :=
  freeLines_within _ _ (answer_within _ _ _ hk)

theorem releaseCmd_within {F : Part → Prop} [Has F .threads] [Has F .intake] [Has F .pins] [Has F .out] {s0 : State} (s : State) (t : Nat) (hk : Within F s0 s) : Within F s0 (releaseCmd s t) := by
  unfold releaseCmd
  iterate 60 (try (any_goals (first | with_reducible assumption | with_reducible apply within_ite | with_reducible apply within_ite_snd | with_reducible apply freeLines_within | with_reducible apply modThr_within | (with_reducible apply within_foldl <;> [skip; intro _ _ _]) | split | extract_lets | (apply within_eq; with_reducible assumption) | dsimp -zeta only | ((with_reducible apply within_mk) <;> first | exact .inl Has.has | exact .inr rfl | skip))))

theorem returnItem_within {F : Part → Prop} [Has F .intake] [Has F .pins] [Has F .out] {s0 : State} (s : State) (c : Cmd) (hk : Within F s0 s) : Within F s0 (returnItem s c) :=
  within_ite (freeLines_within _ _ hk) (modCq_within _ _ _ hk)

theorem rewindCmd_within {F : Part → Prop} [Has F .threads] [Has F .intake] [Has F .pins] [Has F .out] {s0 : State} (s : State) (t : Nat) (hk : Within F s0 s) : Within F s0 (rewindCmd s t) := by
  unfold rewindCmd
  iterate 60 (try (any_goals (first | with_reducible assumption | with_reducible apply within_ite | with_reducible apply within_ite_snd | with_reducible apply returnItem_within | with_reducible apply modThr_within | (with_reducible apply within_foldl <;> [skip; intro _ _ _]) | split | extract_lets | (apply within_eq; with_reducible assumption) | dsimp -zeta only | ((with_reducible apply within_mk) <;> first | exact .inl Has.has | exact .inr rfl | skip))))

theorem rewindItems_within {F : Part → Prop} [Has F .threads] [Has F .intake] [Has F .pins] [Has F .out] {s0 : State} (s : State) (t : Nat) (hk : Within F s0 s) : Within F s0 (rewindItems s t) := by
  unfold rewindItems
  iterate 60 (try (any_goals (first | with_reducible assumption | with_reducible apply within_ite | with_reducible apply within_ite_snd | with_reducible apply returnItem_within | with_reducible apply putThr_within | (with_reducible apply within_foldl <;> [skip; intro _ _ _]) | split | extract_lets | (apply within_eq; with_reducible assumption) | dsimp -zeta only | ((with_reducible apply within_mk) <;> first | exact .inl Has.has | exact .inr rfl | skip))))

theorem staleCurrent_within {F : Part → Prop} [Has F .regs] [Has F .threads] [Has F .intake] [Has F .pins] [Has F .out] {s0 : State} (s : State) (t : Nat) (hk : Within F s0 s) : Within F s0 (staleCurrent s t) := by
  unfold staleCurrent
  iterate 60 (try (any_goals (first | with_reducible assumption | with_reducible apply within_ite | with_reducible apply within_ite_snd | with_reducible apply answerRelease_within | with_reducible apply modThr_within | (with_reducible apply within_foldl <;> [skip; intro _ _ _]) | split | extract_lets | (apply within_eq; with_reducible assumption) | dsimp -zeta only | ((with_reducible apply within_mk) <;> first | exact .inl Has.has | exact .inr rfl | skip))))

theorem endCmds_within {F : Part → Prop} [Has F .regs] [Has F .threads] [Has F .intake] [Has F .pins] [Has F .out] {s0 : State} (s : State) (f : Cmd → Bool) (rcode : Option Nat) (hk : Within F s0 s) : Within F s0 (endCmds s f rcode) := by
  unfold endCmds
  iterate 60 (try (any_goals (first | with_reducible assumption | with_reducible apply within_ite | with_reducible apply within_ite_snd | with_reducible apply answerRelease_within | with_reducible apply freeLines_within | with_reducible apply modCq_within | with_reducible apply putThr_within | (with_reducible apply within_foldl <;> [skip; intro _ _ _]) | split | extract_lets | (apply within_eq; with_reducible assumption) | dsimp -zeta only | ((with_reducible apply within_mk) <;> first | exact .inl Has.has | exact .inr rfl | skip))))

/-! ### KeyStore -/

theorem putCopies_within {F : Part → Prop} [Has F .ks] {s0 : State} (s : State) (n : Nat) (l : List KCopy) (hk : Within F s0 s) : Within F s0 (putCopies s n l) := by
  unfold putCopies
  iterate 60 (try (any_goals (first | with_reducible assumption | with_reducible apply within_ite | with_reducible apply within_ite_snd | (with_reducible apply within_foldl <;> [skip; intro _ _ _]) | split | extract_lets | (apply within_eq; with_reducible assumption) | dsimp -zeta only | ((with_reducible apply within_mk) <;> first | exact .inl Has.has | exact .inr rfl | skip))))

theorem ksEvent_within {F : Part → Prop} [Has F .regs] {s0 : State} (s : State) (cause n : Nat) (hk : Within F s0 s) : Within F s0 (ksEvent s cause n) :=
  fldSet_within _ _ _ _ _ _ (fldSet_within _ _ _ _ _ _ hk)

theorem ksAlarm_within {F : Part → Prop} [Has F .regs] [Has F .threads] [Has F .srcs] [Has F .audit] {s0 : State} (s : State) (cause n part : Nat) (hk : Within F s0 s) : Within F s0 (ksAlarm s cause n part) :=
  errKnock_within _ _ (ksEvent_within _ _ _ (audit_within _ _ _ _ _ hk))

theorem countQuarantine_within {F : Part → Prop} [Has F .ks] [Has F .faults] {s0 : State} (s : State) (hk : Within F s0 s) : Within F s0 (countQuarantine s) := by
  unfold countQuarantine
  iterate 60 (try (any_goals (first | with_reducible assumption | with_reducible apply within_ite | with_reducible apply within_ite_snd | with_reducible apply quietCause_within | (with_reducible apply within_foldl <;> [skip; intro _ _ _]) | split | extract_lets | (apply within_eq; with_reducible assumption) | dsimp -zeta only | ((with_reducible apply within_mk) <;> first | exact .inl Has.has | exact .inr rfl | skip))))

theorem markQuarantined_within {F : Part → Prop} [Has F .ks] {s0 : State} (s : State) (n : Nat) (hk : Within F s0 s) : Within F s0 (markQuarantined s n) :=
  putCopies_within _ _ _ hk

theorem quarantine_within {F : Part → Prop} [Has F .regs] [Has F .threads] [Has F .cyls] [Has F .engs] [Has F .ks] [Has F .srcs] [Has F .doms] [Has F .audit] [Has F .faults] {s0 : State} (s : State) (n cause part : Nat) (hk : Within F s0 s) : Within F s0 (quarantine s n cause part) := by
  unfold quarantine
  iterate 60 (try (any_goals (first | with_reducible assumption | with_reducible apply within_ite | with_reducible apply within_ite_snd | with_reducible apply markQuarantined_within | with_reducible apply countQuarantine_within | with_reducible apply ksAlarm_within | with_reducible apply report_within | (with_reducible apply within_foldl <;> [skip; intro _ _ _]) | split | extract_lets | (apply within_eq; with_reducible assumption) | dsimp -zeta only | ((with_reducible apply within_mk) <;> first | exact .inl Has.has | exact .inr rfl | skip))))

theorem rewriteCopy_within {F : Part → Prop} [Has F .threads] [Has F .cyls] [Has F .engs] [Has F .ks] [Has F .doms] [Has F .faults] {s0 : State} (s : State) (n : Nat) (c : KCopy) (banks : List Nat) (hk : Within F s0 s) : Within F s0 (rewriteCopy s n c banks) := by
  unfold rewriteCopy
  iterate 60 (try (any_goals (first | with_reducible assumption | with_reducible apply within_ite | with_reducible apply within_ite_snd | with_reducible apply putCopies_within | with_reducible apply report_within | (with_reducible apply within_foldl <;> [skip; intro _ _ _]) | split | extract_lets | (apply within_eq; with_reducible assumption) | dsimp -zeta only | ((with_reducible apply within_mk) <;> first | exact .inl Has.has | exact .inr rfl | skip))))

theorem readRest_within {F : Part → Prop} [Has F .threads] [Has F .cyls] [Has F .engs] [Has F .ks] [Has F .doms] [Has F .faults] {s0 : State} : ∀ (l : List Nat) {s : State}, Within F s0 s → Within F s0 (readRest s l).2 := by
  intro l
  induction l with
  | nil => intro s hk; exact hk
  | cons n l ih =>
    intro s hk
    unfold readRest
    split
    · exact hk
    · exact hk
    · exact ih (rewriteCopy_within _ _ _ _ hk)

theorem readFormer_within {F : Part → Prop} [Has F .threads] [Has F .cyls] [Has F .engs] [Has F .doms] [Has F .faults] {s0 : State} (s : State) (p : Nat) (f : Former) (hk : Within F s0 s) : Within F s0 (readFormer s p f).2 := by
  unfold readFormer
  iterate 60 (try (any_goals (first | with_reducible assumption | with_reducible apply within_ite | with_reducible apply within_ite_snd | with_reducible apply report_within | (with_reducible apply within_foldl <;> [skip; intro _ _ _]) | split | extract_lets | (apply within_eq; with_reducible assumption) | dsimp -zeta only | ((with_reducible apply within_mk) <;> first | exact .inl Has.has | exact .inr rfl | skip))))

theorem readLive_within {F : Part → Prop} [Has F .regs] [Has F .threads] [Has F .cyls] [Has F .engs] [Has F .ks] [Has F .srcs] [Has F .doms] [Has F .audit] [Has F .faults] {s0 : State} (s : State) (p n : Nat) (hk : Within F s0 s) : Within F s0 (readLive s p n).2 := by
  unfold readLive
  iterate 60 (try (any_goals (first | with_reducible assumption | with_reducible apply within_ite | with_reducible apply within_ite_snd | with_reducible apply readRest_within | with_reducible apply rewriteCopy_within | with_reducible apply quarantine_within | (with_reducible apply within_foldl <;> [skip; intro _ _ _]) | split | extract_lets | (apply within_eq; with_reducible assumption) | dsimp -zeta only | ((with_reducible apply within_mk) <;> first | exact .inl Has.has | exact .inr rfl | skip))))

theorem readKey_within {F : Part → Prop} [Has F .regs] [Has F .threads] [Has F .cyls] [Has F .engs] [Has F .ks] [Has F .srcs] [Has F .doms] [Has F .audit] [Has F .faults] {s0 : State} (s : State) (p turn handle : Nat) (hk : Within F s0 s) : Within F s0 (readKey s p turn handle).2 := by
  unfold readKey
  iterate 60 (try (any_goals (first | with_reducible assumption | with_reducible apply within_ite | with_reducible apply within_ite_snd | with_reducible apply readLive_within | with_reducible apply readFormer_within | (with_reducible apply within_foldl <;> [skip; intro _ _ _]) | split | extract_lets | (apply within_eq; with_reducible assumption) | dsimp -zeta only | ((with_reducible apply within_mk) <;> first | exact .inl Has.has | exact .inr rfl | skip))))

theorem poolPut_within {F : Part → Prop} [Has F .ks] {s0 : State} (s : State) (x : Staged) (hk : Within F s0 s) : Within F s0 (poolPut s x) := by
  unfold poolPut
  iterate 60 (try (any_goals (first | with_reducible assumption | with_reducible apply within_ite | with_reducible apply within_ite_snd | (with_reducible apply within_foldl <;> [skip; intro _ _ _]) | split | extract_lets | (apply within_eq; with_reducible assumption) | dsimp -zeta only | ((with_reducible apply within_mk) <;> first | exact .inl Has.has | exact .inr rfl | skip))))

theorem stageEntry_within {F : Part → Prop} [Has F .ks] [Has F .arbs] [Has F .westad] [Has F .audit] [Has F .out] {s0 : State} (s : State) (n : Nat) (copies : List KCopy) (erase : Bool) (op part : Nat) (hk : Within F s0 s) : Within F s0 (stageEntry s n copies erase op part) := by
  unfold stageEntry
  iterate 60 (try (any_goals (first | with_reducible assumption | with_reducible apply within_ite | with_reducible apply within_ite_snd | with_reducible apply poolPut_within | with_reducible apply sendAll_within | with_reducible apply audit_within | (with_reducible apply within_foldl <;> [skip; intro _ _ _]) | split | extract_lets | (apply within_eq; with_reducible assumption) | dsimp -zeta only | ((with_reducible apply within_mk) <;> first | exact .inl Has.has | exact .inr rfl | skip))))

theorem stageKey_within {F : Part → Prop} [Has F .ks] [Has F .arbs] [Has F .westad] [Has F .audit] [Has F .out] {s0 : State} (s : State) (n : Nat) (h : KHdr) (mat : Bytes) (op : Nat) (hk : Within F s0 s) : Within F s0 (stageKey s n h mat op) :=
  stageEntry_within _ _ _ _ _ _ hk

theorem ksEraseWrite_within {F : Part → Prop} [Has F .regs] [Has F .ks] [Has F .arbs] [Has F .westad] [Has F .audit] [Has F .out] {s0 : State} (s : State) (p : Nat) (v : Word) (hk : Within F s0 s) : Within F s0 (ksEraseWrite s p v) := by
  unfold ksEraseWrite
  iterate 60 (try (any_goals (first | with_reducible assumption | with_reducible apply within_ite | with_reducible apply within_ite_snd | with_reducible apply stageEntry_within | with_reducible apply fldSet_within | (with_reducible apply within_foldl <;> [skip; intro _ _ _]) | split | extract_lets | (apply within_eq; with_reducible assumption) | dsimp -zeta only | ((with_reducible apply within_mk) <;> first | exact .inl Has.has | exact .inr rfl | skip))))

theorem poolRetry_within {F : Part → Prop} [Has F .ks] {s0 : State} (s : State) (hk : Within F s0 s) : Within F s0 (poolRetry s) := by
  unfold poolRetry
  iterate 60 (try (any_goals (first | with_reducible assumption | with_reducible apply within_ite | with_reducible apply within_ite_snd | with_reducible apply poolPut_within | (with_reducible apply within_foldl <;> [skip; intro _ _ _]) | split | extract_lets | (apply within_eq; with_reducible assumption) | dsimp -zeta only | ((with_reducible apply within_mk) <;> first | exact .inl Has.has | exact .inr rfl | skip))))

theorem mirrorEntry_within {F : Part → Prop} [Has F .ks] {s0 : State} (s : State) (x : Staged) (hk : Within F s0 s) : Within F s0 (mirrorEntry s x) := by
  unfold mirrorEntry
  iterate 60 (try (any_goals (first | with_reducible assumption | with_reducible apply within_ite | with_reducible apply within_ite_snd | with_reducible apply poolPut_within | (with_reducible apply within_foldl <;> [skip; intro _ _ _]) | split | extract_lets | (apply within_eq; with_reducible assumption) | dsimp -zeta only | ((with_reducible apply within_mk) <;> first | exact .inl Has.has | exact .inr rfl | skip))))

theorem discardStaged_within {F : Part → Prop} [Has F .ks] {s0 : State} (s : State) (origin : Nat) (hk : Within F s0 s) : Within F s0 (discardStaged s origin) := by
  unfold discardStaged
  iterate 60 (try (any_goals (first | with_reducible assumption | with_reducible apply within_ite | with_reducible apply within_ite_snd | with_reducible apply poolRetry_within | (with_reducible apply within_foldl <;> [skip; intro _ _ _]) | split | extract_lets | (apply within_eq; with_reducible assumption) | dsimp -zeta only | ((with_reducible apply within_mk) <;> first | exact .inl Has.has | exact .inr rfl | skip))))

theorem writeSlot_within {F : Part → Prop} [Has F .ks] {s0 : State} (s : State) (n : Nat) (c : KCopy) (hk : Within F s0 s) : Within F s0 (writeSlot s n c) := by
  unfold writeSlot
  iterate 60 (try (any_goals (first | with_reducible assumption | with_reducible apply within_ite | with_reducible apply within_ite_snd | with_reducible apply putCopies_within | (with_reducible apply within_foldl <;> [skip; intro _ _ _]) | split | extract_lets | (apply within_eq; with_reducible assumption) | dsimp -zeta only | ((with_reducible apply within_mk) <;> first | exact .inl Has.has | exact .inr rfl | skip))))

theorem promoteEntry_within {F : Part → Prop} [Has F .regs] [Has F .threads] [Has F .cyls] [Has F .engs] [Has F .ks] [Has F .srcs] [Has F .doms] [Has F .audit] [Has F .faults] {s0 : State} (s : State) (turn : Nat) (x : Staged) (hk : Within F s0 s) : Within F s0 (promoteEntry s turn x) := by
  unfold promoteEntry
  iterate 60 (try (any_goals (first | with_reducible assumption | with_reducible apply within_ite | with_reducible apply within_ite_snd | with_reducible apply writeSlot_within | with_reducible apply ksAlarm_within | with_reducible apply putCopies_within | with_reducible apply report_within | with_reducible apply audit_within | (with_reducible apply within_foldl <;> [skip; intro _ _ _]) | split | extract_lets | (apply within_eq; with_reducible assumption) | dsimp -zeta only | ((with_reducible apply within_mk) <;> first | exact .inl Has.has | exact .inr rfl | skip))))

theorem promoteTaken_within {F : Part → Prop} [Has F .regs] [Has F .threads] [Has F .cyls] [Has F .engs] [Has F .ks] [Has F .srcs] [Has F .doms] [Has F .audit] [Has F .faults] {s0 : State} (s : State) (turn : Nat) (hk : Within F s0 s) : Within F s0 (promoteTaken s turn) := by
  unfold promoteTaken
  iterate 60 (try (any_goals (first | with_reducible assumption | with_reducible apply within_ite | with_reducible apply within_ite_snd | with_reducible apply promoteEntry_within | (with_reducible apply within_foldl <;> [skip; intro _ _ _]) | split | extract_lets | (apply within_eq; with_reducible assumption) | dsimp -zeta only | ((with_reducible apply within_mk) <;> first | exact .inl Has.has | exact .inr rfl | skip))))

theorem eraseFormer_within {F : Part → Prop} [Has F .ks] {s0 : State} (s : State) (n : Nat) (hk : Within F s0 s) : Within F s0 (eraseFormer s n) := by
  unfold eraseFormer
  iterate 60 (try (any_goals (first | with_reducible assumption | with_reducible apply within_ite | with_reducible apply within_ite_snd | with_reducible apply poolRetry_within | (with_reducible apply within_foldl <;> [skip; intro _ _ _]) | split | extract_lets | (apply within_eq; with_reducible assumption) | dsimp -zeta only | ((with_reducible apply within_mk) <;> first | exact .inl Has.has | exact .inr rfl | skip))))

theorem zeroizeKeys_within {F : Part → Prop} [Has F .ks] {s0 : State} (s : State) (hk : Within F s0 s) : Within F s0 (zeroizeKeys s) := by
  unfold zeroizeKeys
  iterate 60 (try (any_goals (first | with_reducible assumption | with_reducible apply within_ite | with_reducible apply within_ite_snd | (with_reducible apply within_foldl <;> [skip; intro _ _ _]) | split | extract_lets | (apply within_eq; with_reducible assumption) | dsimp -zeta only | ((with_reducible apply within_mk) <;> first | exact .inl Has.has | exact .inr rfl | skip))))

theorem execKsErase_within {F : Part → Prop} [Has F .regs] [Has F .ks] [Has F .arbs] [Has F .westad] [Has F .audit] [Has F .out] (p : Fin 256) (v : Word) (s : State) : GoesIn F s (execKsErase p v s) :=
  ⟨_, rfl, ksEraseWrite_within _ _ _ (Within.refl s)⟩

theorem execStagedEntryErase_within {F : Part → Prop} [Has F .ks] (slot : Fin 262144) (s : State) : GoesIn F s (execStagedEntryErase slot s) :=
  ⟨_, rfl, eraseFormer_within _ _ (Within.refl s)⟩

/-! ### Guard -/

theorem takeSession_within {F : Part → Prop} [Has F .guard] {s0 : State} (s : State) (kc : Keycut) (n : Nat) (hk : Within F s0 s) : Within F s0 (takeSession s kc n).2 := by
  unfold takeSession
  iterate 60 (try (any_goals (first | with_reducible assumption | with_reducible apply within_ite | with_reducible apply within_ite_snd | (with_reducible apply within_foldl <;> [skip; intro _ _ _]) | split | extract_lets | (apply within_eq; with_reducible assumption) | dsimp -zeta only | ((with_reducible apply within_mk) <;> first | exact .inl Has.has | exact .inr rfl | skip))))

theorem putCounter_within {F : Part → Prop} [Has F .guard] {s0 : State} (s : State) (c : Counter) (hk : Within F s0 s) : Within F s0 (putCounter s c) := by
  unfold putCounter
  iterate 60 (try (any_goals (first | with_reducible assumption | with_reducible apply within_ite | with_reducible apply within_ite_snd | (with_reducible apply within_foldl <;> [skip; intro _ _ _]) | split | extract_lets | (apply within_eq; with_reducible assumption) | dsimp -zeta only | ((with_reducible apply within_mk) <;> first | exact .inl Has.has | exact .inr rfl | skip))))

theorem takeAttempt_within {F : Part → Prop} [Has F .regs] [Has F .guard] {s0 : State} (s : State) (kc : Keycut) (p : Nat) (tag : Word) (hk : Within F s0 s) : Within F s0 (takeAttempt s kc p tag).2 := by
  unfold takeAttempt
  iterate 60 (try (any_goals (first | with_reducible assumption | with_reducible apply within_ite | with_reducible apply within_ite_snd | with_reducible apply putCounter_within | with_reducible apply bump_within | (with_reducible apply within_foldl <;> [skip; intro _ _ _]) | dsimp only | split | (apply within_eq; with_reducible assumption) | dsimp -zeta only | ((with_reducible apply within_mk) <;> first | exact .inl Has.has | exact .inr rfl | skip))))

theorem endAttempt_within {F : Part → Prop} [Has F .regs] [Has F .guard] [Has F .audit] {s0 : State} (s : State) (kc : Keycut) (p : Nat) (tag : Word) (ok : Bool) (hk : Within F s0 s) : Within F s0 (endAttempt s kc p tag ok) := by
  unfold endAttempt
  iterate 60 (try (any_goals (first | with_reducible assumption | with_reducible apply within_ite | with_reducible apply within_ite_snd | with_reducible apply putCounter_within | with_reducible apply audit_within | with_reducible apply bump_within | (with_reducible apply within_foldl <;> [skip; intro _ _ _]) | split | extract_lets | (apply within_eq; with_reducible assumption) | dsimp -zeta only | ((with_reducible apply within_mk) <;> first | exact .inl Has.has | exact .inr rfl | skip))))

theorem countGuard_within {F : Part → Prop} [Has F .regs] {s0 : State} (s : State) (p : Nat) (hk : Within F s0 s) : Within F s0 (countGuard s p) :=
  bump_within _ _ _ _ _ _ hk

/-! ### Issue -/

theorem raiseSync_within {F : Part → Prop} [Has F .threads] {s0 : State} (s : State) (t : Nat) (k : SyncKnock) (hk : Within F s0 s) : Within F s0 (raiseSync s t k) :=
  modThr_within _ _ _ hk

theorem wordFault_within {F : Part → Prop} [Has F .threads] {s0 : State} (s : State) (t cause : Nat) (hk : Within F s0 s) : Within F s0 (wordFault s t cause) :=
  raiseSync_within _ _ _ hk

theorem xlFault_within {F : Part → Prop} [Has F .threads] {s0 : State} (s : State) (t va detail level acc : Nat) (hk : Within F s0 s) : Within F s0 (xlFault s t va detail level acc) :=
  raiseSync_within _ _ _ hk

theorem modArch_within {F : Part → Prop} [Has F .threads] {s0 : State} (s : State) (t : Nat) (f : Arch → Arch) (hk : Within F s0 s) : Within F s0 (modArch s t f) :=
  modThr_within _ _ _ hk

theorem startUnit_within {F : Part → Prop} [Has F .threads] {s0 : State} (s : State) (t : Nat) (u : DUnit) (r : UnitRes) (bit : Option (Nat × Bool)) (hk : Within F s0 s) : Within F s0 (startUnit s t u r bit) :=
  modThr_within _ _ _ hk

theorem startMul_within {F : Part → Prop} [Has F .threads] {s0 : State} (s : State) (t n : Nat) (p : Word × Word) (hk : Within F s0 s) : Within F s0 (startMul s t n p) :=
  modThr_within _ _ _ hk

theorem startDiv_within {F : Part → Prop} [Has F .threads] [Has F .cyls] {s0 : State} (s : State) (t : Nat) (signed : Bool) (n : Nat) (pre : Arch) (v : Word) (hk : Within F s0 s) : Within F s0 (startDiv s t signed n pre v) := by
  unfold startDiv
  iterate 60 (try (any_goals (first | with_reducible assumption | with_reducible apply within_ite | with_reducible apply within_ite_snd | with_reducible apply modCyl_within | with_reducible apply modThr_within | (with_reducible apply within_foldl <;> [skip; intro _ _ _]) | split | extract_lets | (apply within_eq; with_reducible assumption) | dsimp -zeta only | ((with_reducible apply within_mk) <;> first | exact .inl Has.has | exact .inr rfl | skip))))

theorem startCmp_within {F : Part → Prop} [Has F .threads] {s0 : State} (s : State) (t p n : Nat) (pre : Arch) (v : Word) (hk : Within F s0 s) : Within F s0 (startCmp s t p n pre v) := by
  unfold startCmp
  iterate 60 (try (any_goals (first | with_reducible assumption | with_reducible apply within_ite | with_reducible apply within_ite_snd | with_reducible apply startUnit_within | (with_reducible apply within_foldl <;> [skip; intro _ _ _]) | split | extract_lets | (apply within_eq; with_reducible assumption) | dsimp -zeta only | ((with_reducible apply within_mk) <;> first | exact .inl Has.has | exact .inr rfl | skip))))

theorem unitTrigger_within {F : Part → Prop} [Has F .threads] [Has F .cyls] {s0 : State} (s : State) (t p n : Nat) (pre : Arch) (v : Word) (hk : Within F s0 s) : Within F s0 (unitTrigger s t p n pre v) := by
  unfold unitTrigger
  iterate 60 (try (any_goals (first | with_reducible assumption | with_reducible apply within_ite | with_reducible apply within_ite_snd | with_reducible apply startCmp_within | with_reducible apply startDiv_within | with_reducible apply startMul_within | with_reducible apply startUnit_within | (with_reducible apply within_foldl <;> [skip; intro _ _ _]) | split | extract_lets | (apply within_eq; with_reducible assumption) | dsimp -zeta only | ((with_reducible apply within_mk) <;> first | exact .inl Has.has | exact .inr rfl | skip))))

theorem touch_within {F : Part → Prop} [Has F .cyls] {s0 : State} (s : State) (t va n acc : Nat) (hk : Within F s0 s) : Within F s0 (touch s t va n acc) := by
  unfold touch
  iterate 60 (try (any_goals (first | with_reducible assumption | with_reducible apply within_ite | with_reducible apply within_ite_snd | with_reducible apply tlbUse_within | (with_reducible apply within_foldl <;> [skip; intro _ _ _]) | split | extract_lets | (apply within_eq; with_reducible assumption) | dsimp -zeta only | ((with_reducible apply within_mk) <;> first | exact .inl Has.has | exact .inr rfl | skip))))

theorem oneStore_within {F : Part → Prop} [Has F .threads] [Has F .cyls] {s0 : State} (s : State) (t va w : Nat) (data : Word) (bad : Bool) (hk : Within F s0 s) : Within F s0 (oneStore s t va w data bad) := by
  unfold oneStore
  iterate 60 (try (any_goals (first | with_reducible assumption | with_reducible apply within_ite | with_reducible apply within_ite_snd | with_reducible apply touch_within | with_reducible apply modThr_within | (with_reducible apply within_foldl <;> [skip; intro _ _ _]) | split | extract_lets | (apply within_eq; with_reducible assumption) | dsimp -zeta only | ((with_reducible apply within_mk) <;> first | exact .inl Has.has | exact .inr rfl | skip))))

theorem frameStores_within {F : Part → Prop} [Has F .threads] [Has F .cyls] {s0 : State} (s : State) (t va : Nat) (items : List (Word × Bool)) (hk : Within F s0 s) : Within F s0 (frameStores s t va items) := by
  unfold frameStores
  iterate 60 (try (any_goals (first | with_reducible assumption | with_reducible apply within_ite | with_reducible apply within_ite_snd | with_reducible apply touch_within | with_reducible apply modThr_within | (with_reducible apply within_foldl <;> [skip; intro _ _ _]) | split | extract_lets | (apply within_eq; with_reducible assumption) | dsimp -zeta only | ((with_reducible apply within_mk) <;> first | exact .inl Has.has | exact .inr rfl | skip))))

theorem doCall_within {F : Part → Prop} [Has F .threads] [Has F .cyls] {s0 : State} (s : State) (t : Nat) (pre : Arch) (v : Word) (hk : Within F s0 s) : Within F s0 (doCall s t pre v) := by
  unfold doCall
  iterate 60 (try (any_goals (first | with_reducible assumption | with_reducible apply within_ite | with_reducible apply within_ite_snd | with_reducible apply frameStores_within | with_reducible apply modArch_within | (with_reducible apply within_foldl <;> [skip; intro _ _ _]) | split | extract_lets | (apply within_eq; with_reducible assumption) | dsimp -zeta only | ((with_reducible apply within_mk) <;> first | exact .inl Has.has | exact .inr rfl | skip))))

theorem doRet_within {F : Part → Prop} [Has F .threads] [Has F .cyls] {s0 : State} (s : State) (t : Nat) (pre : Arch) (hk : Within F s0 s) : Within F s0 (doRet s t pre) := by
  unfold doRet
  iterate 60 (try (any_goals (first | with_reducible assumption | with_reducible apply within_ite | with_reducible apply within_ite_snd | with_reducible apply touch_within | with_reducible apply modThr_within | (with_reducible apply within_foldl <;> [skip; intro _ _ _]) | split | extract_lets | (apply within_eq; with_reducible assumption) | dsimp -zeta only | ((with_reducible apply within_mk) <;> first | exact .inl Has.has | exact .inr rfl | skip))))

theorem doBranch_within {F : Part → Prop} [Has F .threads] {s0 : State} (s : State) (t : Nat) (pre : Arch) (cond : BranchCond) (hk : Within F s0 s) : Within F s0 (doBranch s t pre cond) := by
  unfold doBranch
  iterate 60 (try (any_goals (first | with_reducible assumption | with_reducible apply within_ite | with_reducible apply within_ite_snd | with_reducible apply modThr_within | (with_reducible apply within_foldl <;> [skip; intro _ _ _]) | split | extract_lets | (apply within_eq; with_reducible assumption) | dsimp -zeta only | ((with_reducible apply within_mk) <;> first | exact .inl Has.has | exact .inr rfl | skip))))

theorem bitBranch_within {F : Part → Prop} [Has F .threads] {s0 : State} (s : State) (t : Nat) (pre : Arch) (i : Nat) (sense : Bool) (hk : Within F s0 s) : Within F s0 (bitBranch s t pre i sense) :=
  doBranch_within _ _ _ _ hk

theorem doRepeat_within {F : Part → Prop} [Has F .threads] {s0 : State} (s : State) (t : Nat) (pre : Arch) (v : Word) (hk : Within F s0 s) : Within F s0 (doRepeat s t pre v) := by
  unfold doRepeat
  iterate 60 (try (any_goals (first | with_reducible assumption | with_reducible apply within_ite | with_reducible apply within_ite_snd | with_reducible apply modArch_within | (with_reducible apply within_foldl <;> [skip; intro _ _ _]) | split | extract_lets | (apply within_eq; with_reducible assumption) | dsimp -zeta only | ((with_reducible apply within_mk) <;> first | exact .inl Has.has | exact .inr rfl | skip))))

theorem dropActive_within {F : Part → Prop} [Has F .srcs] {s0 : State} (s : State) (t : Nat) (hk : Within F s0 s) : Within F s0 (dropActive s t) := by
  unfold dropActive
  iterate 60 (try (any_goals (first | with_reducible assumption | with_reducible apply within_ite | with_reducible apply within_ite_snd | with_reducible apply modSrc_within | (with_reducible apply within_foldl <;> [skip; intro _ _ _]) | split | extract_lets | (apply within_eq; with_reducible assumption) | dsimp -zeta only | ((with_reducible apply within_mk) <;> first | exact .inl Has.has | exact .inr rfl | skip))))

theorem doStart_within {F : Part → Prop} [Has F .threads] [Has F .srcs] {s0 : State} (s : State) (t : Nat) (pre : Arch) (v : Word) (hk : Within F s0 s) : Within F s0 (doStart s t pre v) := by
  unfold doStart
  iterate 60 (try (any_goals (first | with_reducible assumption | with_reducible apply within_ite | with_reducible apply within_ite_snd | with_reducible apply dropActive_within | with_reducible apply putThr_within | (with_reducible apply within_foldl <;> [skip; intro _ _ _]) | split | extract_lets | (apply within_eq; with_reducible assumption) | dsimp -zeta only | ((with_reducible apply within_mk) <;> first | exact .inl Has.has | exact .inr rfl | skip))))

theorem haltThr_within {F : Part → Prop} [Has F .threads] [Has F .engs] [Has F .intake] [Has F .arbs] [Has F .pins] [Has F .out] {s0 : State} (s : State) (t : Nat) (hk : Within F s0 s) : Within F s0 (haltThr s t) := by
  unfold haltThr
  iterate 60 (try (any_goals (first | with_reducible assumption | with_reducible apply within_ite | with_reducible apply within_ite_snd | with_reducible apply rewindItems_within | with_reducible apply endSeats_within | with_reducible apply modThr_within | (with_reducible apply within_foldl <;> [skip; intro _ _ _]) | split | extract_lets | (apply within_eq; with_reducible assumption) | dsimp -zeta only | ((with_reducible apply within_mk) <;> first | exact .inl Has.has | exact .inr rfl | skip))))

theorem doWait_within {F : Part → Prop} [Has F .threads] {s0 : State} (s : State) (t : Nat) (hk : Within F s0 s) : Within F s0 (doWait s t) := by
  unfold doWait
  iterate 60 (try (any_goals (first | with_reducible assumption | with_reducible apply within_ite | with_reducible apply within_ite_snd | with_reducible apply putThr_within | (with_reducible apply within_foldl <;> [skip; intro _ _ _]) | split | extract_lets | (apply within_eq; with_reducible assumption) | dsimp -zeta only | ((with_reducible apply within_mk) <;> first | exact .inl Has.has | exact .inr rfl | skip))))

theorem doYield_within {F : Part → Prop} [Has F .threads] {s0 : State} (s : State) (t : Nat) (hk : Within F s0 s) : Within F s0 (doYield s t) :=
  modThr_within _ _ _ hk

theorem writeKbit_within {F : Part → Prop} [Has F .krs] {s0 : State} (s : State) (t i : Nat) (b : Bool) (hk : Within F s0 s) : Within F s0 (writeKbit s t i b) :=
  modKr_within _ _ _ hk

theorem blankWrite_within {F : Part → Prop} [Has F .threads] {s0 : State} (s : State) (t p : Nat) (v : Word) (hk : Within F s0 s) : Within F s0 (blankWrite s t p v) := by
  unfold blankWrite
  iterate 60 (try (any_goals (first | with_reducible assumption | with_reducible apply within_ite | with_reducible apply within_ite_snd | with_reducible apply modArch_within | with_reducible apply modThr_within | (with_reducible apply within_foldl <;> [skip; intro _ _ _]) | split | extract_lets | (apply within_eq; with_reducible assumption) | dsimp -zeta only | ((with_reducible apply within_mk) <;> first | exact .inl Has.has | exact .inr rfl | skip))))

theorem commitMove_within {F : Part → Prop} [Has F .threads] [Has F .cyls] [Has F .krs] [Has F .engs] [Has F .srcs] [Has F .arbs] {s0 : State} (pre : Arch) (t : Nat) (s : State) (m : Mv) (hk : Within F s0 s) : Within F s0 (commitMove pre t s m) := by
  unfold commitMove
  iterate 60 (try (any_goals (first | with_reducible assumption | with_reducible apply within_ite | with_reducible apply within_ite_snd | with_reducible apply blankWrite_within | with_reducible apply writeKbit_within | with_reducible apply doYield_within | with_reducible apply doStart_within | with_reducible apply oneStore_within | with_reducible apply touch_within | with_reducible apply unitTrigger_within | with_reducible apply modArch_within | with_reducible apply submitJob_within | with_reducible apply endSeat_within | with_reducible apply reserveSeat_within | with_reducible apply modThr_within | (with_reducible apply within_foldl <;> [skip; intro _ _ _]) | split | extract_lets | (apply within_eq; with_reducible assumption) | dsimp -zeta only | ((with_reducible apply within_mk) <;> first | exact .inl Has.has | exact .inr rfl | skip))))

theorem flow_within {F : Part → Prop} [Has F .threads] [Has F .cyls] [Has F .engs] [Has F .intake] [Has F .arbs] [Has F .pins] [Has F .out] {s0 : State} (pre : Arch) (t : Nat) (s : State) (ms : List Mv) (hk : Within F s0 s) : Within F s0 (flow pre t s ms) := by
  unfold flow
  iterate 60 (try (any_goals (first | with_reducible assumption | with_reducible apply within_ite | with_reducible apply within_ite_snd | with_reducible apply doWait_within | with_reducible apply haltThr_within | with_reducible apply doRepeat_within | with_reducible apply bitBranch_within | with_reducible apply doBranch_within | with_reducible apply doRet_within | with_reducible apply doCall_within | with_reducible apply modArch_within | (with_reducible apply within_foldl <;> [skip; intro _ _ _]) | split | extract_lets | (apply within_eq; with_reducible assumption) | dsimp -zeta only | ((with_reducible apply within_mk) <;> first | exact .inl Has.has | exact .inr rfl | skip))))

theorem arithFault_within {F : Part → Prop} [Has F .threads] {s0 : State} (s : State) (t : Nat) (b : Option Nat) (afe : Bool) (hk : Within F s0 s) : Within F s0 (arithFault s t b afe) := by
  unfold arithFault
  iterate 60 (try (any_goals (first | with_reducible assumption | with_reducible apply within_ite | with_reducible apply within_ite_snd | with_reducible apply raiseSync_within | (with_reducible apply within_foldl <;> [skip; intro _ _ _]) | split | extract_lets | (apply within_eq; with_reducible assumption) | dsimp -zeta only | ((with_reducible apply within_mk) <;> first | exact .inl Has.has | exact .inr rfl | skip))))

theorem applySticky_within {F : Part → Prop} [Has F .threads] {s0 : State} (s : State) (t : Nat) (b : Option Nat) (hk : Within F s0 s) : Within F s0 (applySticky s t b) := by
  unfold applySticky
  iterate 60 (try (any_goals (first | with_reducible assumption | with_reducible apply within_ite | with_reducible apply within_ite_snd | with_reducible apply modArch_within | (with_reducible apply within_foldl <;> [skip; intro _ _ _]) | split | extract_lets | (apply within_eq; with_reducible assumption) | dsimp -zeta only | ((with_reducible apply within_mk) <;> first | exact .inl Has.has | exact .inr rfl | skip))))

theorem countSlot_within {F : Part → Prop} [Has F .threads] [Has F .cyls] {s0 : State} (s : State) (t : Nat) (appends : Bool) (hk : Within F s0 s) : Within F s0 (countSlot s t appends) := by
  unfold countSlot
  iterate 60 (try (any_goals (first | with_reducible assumption | with_reducible apply within_ite | with_reducible apply within_ite_snd | with_reducible apply modCyl_within | with_reducible apply modThr_within | with_reducible apply dropYield_within | (with_reducible apply within_foldl <;> [skip; intro _ _ _]) | split | extract_lets | (apply within_eq; with_reducible assumption) | dsimp -zeta only | ((with_reducible apply within_mk) <;> first | exact .inl Has.has | exact .inr rfl | skip))))

theorem useStr_within {F : Part → Prop} [Has F .threads] {s0 : State} (s : State) (t : Nat) (ms : List Mv) (hk : Within F s0 s) : Within F s0 (useStr s t ms) := by
  unfold useStr
  iterate 60 (try (any_goals (first | with_reducible assumption | with_reducible apply within_ite | with_reducible apply within_ite_snd | with_reducible apply modThr_within | (with_reducible apply within_foldl <;> [skip; intro _ _ _]) | split | extract_lets | (apply within_eq; with_reducible assumption) | dsimp -zeta only | ((with_reducible apply within_mk) <;> first | exact .inl Has.has | exact .inr rfl | skip))))

theorem commitWord_within {F : Part → Prop} [Has F .threads] [Has F .cyls] [Has F .krs] [Has F .engs] [Has F .intake] [Has F .srcs] [Has F .arbs] [Has F .pins] [Has F .out] {s0 : State} (s : State) (t : Nat) (ms : List Mv) (hk : Within F s0 s) : Within F s0 (commitWord s t ms) := by
  unfold commitWord
  iterate 60 (try (any_goals (first | with_reducible assumption | with_reducible apply within_ite | with_reducible apply within_ite_snd | with_reducible apply useStr_within | with_reducible apply countSlot_within | with_reducible apply applySticky_within | with_reducible apply arithFault_within | with_reducible apply flow_within | with_reducible apply commitMove_within | (with_reducible apply within_foldl <;> [skip; intro _ _ _]) | split | extract_lets | (apply within_eq; with_reducible assumption) | dsimp -zeta only | ((with_reducible apply within_mk) <;> first | exact .inl Has.has | exact .inr rfl | skip))))

theorem executeWord_within {F : Part → Prop} [Has F .threads] [Has F .cyls] [Has F .krs] [Has F .engs] [Has F .intake] [Has F .srcs] [Has F .arbs] [Has F .pins] [Has F .out] {s0 : State} (s : State) (t : Nat) (ms : List Mv) (hk : Within F s0 s) : Within F s0 (executeWord s t ms) := by
  unfold executeWord
  iterate 60 (try (any_goals (first | with_reducible assumption | with_reducible apply within_ite | with_reducible apply within_ite_snd | with_reducible apply commitWord_within | with_reducible apply touch_within | with_reducible apply xlFault_within | with_reducible apply wordFault_within | with_reducible apply modThr_within | (with_reducible apply within_foldl <;> [skip; intro _ _ _]) | split | extract_lets | (apply within_eq; with_reducible assumption) | dsimp -zeta only | ((with_reducible apply within_mk) <;> first | exact .inl Has.has | exact .inr rfl | skip))))

theorem issueRaw_within {F : Part → Prop} [Has F .threads] [Has F .cyls] [Has F .krs] [Has F .engs] [Has F .intake] [Has F .srcs] [Has F .arbs] [Has F .pins] [Has F .out] {s0 : State} (s : State) (t : Nat) (r : Row) (hk : Within F s0 s) : Within F s0 (issueRaw s t r) := by
  unfold issueRaw
  iterate 60 (try (any_goals (first | with_reducible assumption | with_reducible apply within_ite | with_reducible apply within_ite_snd | with_reducible apply executeWord_within | with_reducible apply countSlot_within | with_reducible apply modArch_within | with_reducible apply wordFault_within | with_reducible apply putThr_within | (with_reducible apply within_foldl <;> [skip; intro _ _ _]) | split | extract_lets | (apply within_eq; with_reducible assumption) | dsimp -zeta only | ((with_reducible apply within_mk) <;> first | exact .inl Has.has | exact .inr rfl | skip))))

theorem settleThr_within {F : Part → Prop} [Has F .threads] {s0 : State} (s : State) (t : Nat) (hk : Within F s0 s) : Within F s0 (settleThr s t) := by
  unfold settleThr
  iterate 60 (try (any_goals (first | with_reducible assumption | with_reducible apply within_ite | with_reducible apply within_ite_snd | with_reducible apply putThr_within | with_reducible apply rawThr_within | (with_reducible apply within_foldl <;> [skip; intro _ _ _]) | split | extract_lets | (apply within_eq; with_reducible assumption) | dsimp -zeta only | ((with_reducible apply within_mk) <;> first | exact .inl Has.has | exact .inr rfl | skip))))

theorem settle_within {F : Part → Prop} [Has F .threads] {s0 : State} (s : State) (hk : Within F s0 s) : Within F s0 (settle s) := by
  unfold settle
  iterate 60 (try (any_goals (first | with_reducible assumption | with_reducible apply within_ite | with_reducible apply within_ite_snd | with_reducible apply settleThr_within | (with_reducible apply within_foldl <;> [skip; intro _ _ _]) | split | extract_lets | (apply within_eq; with_reducible assumption) | dsimp -zeta only | ((with_reducible apply within_mk) <;> first | exact .inl Has.has | exact .inr rfl | skip))))

theorem issue_within {F : Part → Prop} [Has F .threads] [Has F .cyls] [Has F .krs] [Has F .engs] [Has F .intake] [Has F .srcs] [Has F .arbs] [Has F .pins] [Has F .out] {s0 : State} (s : State) (t : Nat) (r : Row) (hk : Within F s0 s) : Within F s0 (issue s t r) :=
  settle_within _ (issueRaw_within _ _ _ hk)

/-! ### Jobs -/

theorem seatJobDone_within {F : Part → Prop} [Has F .threads] [Has F .engs] [Has F .arbs] {s0 : State} (s : State) (e t : Nat) (hk : Within F s0 s) : Within F s0 (seatJobDone s e t) := by
  unfold seatJobDone
  iterate 60 (try (any_goals (first | with_reducible assumption | with_reducible apply within_ite | with_reducible apply within_ite_snd | with_reducible apply grantSeats_within | with_reducible apply modEng_within | (with_reducible apply within_foldl <;> [skip; intro _ _ _]) | split | extract_lets | (apply within_eq; with_reducible assumption) | dsimp -zeta only | ((with_reducible apply within_mk) <;> first | exact .inl Has.has | exact .inr rfl | skip))))

theorem finishJob_within {F : Part → Prop} [Has F .regs] [Has F .mem] [Has F .poison] [Has F .threads] [Has F .engs] [Has F .ks] [Has F .guard] [Has F .srcs] [Has F .arbs] [Has F .westad] [Has F .audit] [Has F .out] {s0 : State} (s : State) (e : Nat) (j : Job) (r : JobResult) (hk : Within F s0 s) : Within F s0 (finishJob s e j r) := by
  unfold finishJob
  iterate 60 (try (any_goals (first | with_reducible assumption | with_reducible apply within_ite | with_reducible apply within_ite_snd | with_reducible apply seatJobDone_within | with_reducible apply endAttempt_within | with_reducible apply stageEntry_within | with_reducible apply jobReport_within | with_reducible apply storeBytes_within | with_reducible apply storePieces_within | with_reducible apply raise_within | (with_reducible apply within_foldl <;> [skip; intro _ _ _]) | split | extract_lets | (apply within_eq; with_reducible assumption) | dsimp -zeta only | ((with_reducible apply within_mk) <;> first | exact .inl Has.has | exact .inr rfl | skip))))

theorem endJob_within {F : Part → Prop} [Has F .regs] [Has F .mem] [Has F .poison] [Has F .threads] [Has F .engs] [Has F .ks] [Has F .guard] [Has F .srcs] [Has F .arbs] [Has F .westad] [Has F .audit] [Has F .out] {s0 : State} (s : State) (e : Nat) (j : Job) (st : Nat) (hk : Within F s0 s) : Within F s0 (endJob s e j st) := by
  unfold endJob
  iterate 60 (try (any_goals (first | with_reducible assumption | with_reducible apply within_ite | with_reducible apply within_ite_snd | with_reducible apply finishJob_within | with_reducible apply modEng_within | (with_reducible apply within_foldl <;> [skip; intro _ _ _]) | split | extract_lets | (apply within_eq; with_reducible assumption) | dsimp -zeta only | ((with_reducible apply within_mk) <;> first | exact .inl Has.has | exact .inr rfl | skip))))

theorem endJobs_within {F : Part → Prop} [Has F .regs] [Has F .mem] [Has F .poison] [Has F .threads] [Has F .engs] [Has F .ks] [Has F .guard] [Has F .srcs] [Has F .arbs] [Has F .westad] [Has F .audit] [Has F .out] {s0 : State} (s : State) (f : Job → Bool) (st : Nat) (hk : Within F s0 s) : Within F s0 (endJobs s f st) := by
  unfold endJobs
  iterate 60 (try (any_goals (first | with_reducible assumption | with_reducible apply within_ite | with_reducible apply within_ite_snd | with_reducible apply endJob_within | (with_reducible apply within_foldl <;> [skip; intro _ _ _]) | split | extract_lets | (apply within_eq; with_reducible assumption) | dsimp -zeta only | ((with_reducible apply within_mk) <;> first | exact .inl Has.has | exact .inr rfl | skip))))

theorem staleThread_within {F : Part → Prop} [Has F .regs] [Has F .mem] [Has F .poison] [Has F .threads] [Has F .engs] [Has F .ks] [Has F .guard] [Has F .srcs] [Has F .arbs] [Has F .westad] [Has F .audit] [Has F .out] {s0 : State} (s : State) (t : Nat) (hk : Within F s0 s) : Within F s0 (staleThread s t) :=
  endJobs_within _ _ _ hk

theorem redecide_within {F : Part → Prop} [Has F .threads] [Has F .engs] [Has F .arbs] {s0 : State} (s : State) (e : Nat) (hk : Within F s0 s) : Within F s0 (redecide s e) := by
  unfold redecide
  iterate 60 (try (any_goals (first | with_reducible assumption | with_reducible apply within_ite | with_reducible apply within_ite_snd | with_reducible apply grantSeats_within | with_reducible apply decideSeat_within | with_reducible apply modEng_within | (with_reducible apply within_foldl <;> [skip; intro _ _ _]) | split | extract_lets | (apply within_eq; with_reducible assumption) | dsimp -zeta only | ((with_reducible apply within_mk) <;> first | exact .inl Has.has | exact .inr rfl | skip))))

theorem retireEngine_within {F : Part → Prop} [Has F .regs] [Has F .mem] [Has F .poison] [Has F .threads] [Has F .engs] [Has F .ks] [Has F .guard] [Has F .srcs] [Has F .arbs] [Has F .westad] [Has F .audit] [Has F .out] {s0 : State} (s : State) (e : Nat) (hk : Within F s0 s) : Within F s0 (retireEngine s e) := by
  unfold retireEngine
  iterate 60 (try (any_goals (first | with_reducible assumption | with_reducible apply within_ite | with_reducible apply within_ite_snd | with_reducible apply redecide_within | with_reducible apply endJob_within | with_reducible apply modEng_within | (with_reducible apply within_foldl <;> [skip; intro _ _ _]) | split | extract_lets | (apply within_eq; with_reducible assumption) | dsimp -zeta only | ((with_reducible apply within_mk) <;> first | exact .inl Has.has | exact .inr rfl | skip))))

/-! ### Moves -/

theorem execMoveIssue_within {F : Part → Prop} [Has F .threads] [Has F .cyls] [Has F .krs] [Has F .engs] [Has F .intake] [Has F .srcs] [Has F .arbs] [Has F .pins] [Has F .out] (t : Fin 2048) (s : State) : GoesIn F s (execMoveIssue t s) :=
  ⟨_, rfl, issue_within _ _ _ (Within.refl s)⟩

theorem execImmHiAppend_within {F : Part → Prop} [Has F .threads] [Has F .cyls] [Has F .krs] [Has F .engs] [Has F .intake] [Has F .srcs] [Has F .arbs] [Has F .pins] [Has F .out] (t : Fin 2048) (s : State) : GoesIn F s (execImmHiAppend t s) :=
  ⟨_, rfl, issue_within _ _ _ (Within.refl s)⟩

theorem execAddT_within {F : Part → Prop} [Has F .threads] [Has F .cyls] [Has F .krs] [Has F .engs] [Has F .intake] [Has F .srcs] [Has F .arbs] [Has F .pins] [Has F .out] (t : Fin 2048) (s : State) : GoesIn F s (execAddT t s) :=
  ⟨_, rfl, issue_within _ _ _ (Within.refl s)⟩

theorem execSubT_within {F : Part → Prop} [Has F .threads] [Has F .cyls] [Has F .krs] [Has F .engs] [Has F .intake] [Has F .srcs] [Has F .arbs] [Has F .pins] [Has F .out] (t : Fin 2048) (s : State) : GoesIn F s (execSubT t s) :=
  ⟨_, rfl, issue_within _ _ _ (Within.refl s)⟩

theorem execAdcT_within {F : Part → Prop} [Has F .threads] [Has F .cyls] [Has F .krs] [Has F .engs] [Has F .intake] [Has F .srcs] [Has F .arbs] [Has F .pins] [Has F .out] (t : Fin 2048) (s : State) : GoesIn F s (execAdcT t s) :=
  ⟨_, rfl, issue_within _ _ _ (Within.refl s)⟩

theorem execSbbT_within {F : Part → Prop} [Has F .threads] [Has F .cyls] [Has F .krs] [Has F .engs] [Has F .intake] [Has F .srcs] [Has F .arbs] [Has F .pins] [Has F .out] (t : Fin 2048) (s : State) : GoesIn F s (execSbbT t s) :=
  ⟨_, rfl, issue_within _ _ _ (Within.refl s)⟩

theorem execNegT_within {F : Part → Prop} [Has F .threads] [Has F .cyls] [Has F .krs] [Has F .engs] [Has F .intake] [Has F .srcs] [Has F .arbs] [Has F .pins] [Has F .out] (t : Fin 2048) (s : State) : GoesIn F s (execNegT t s) :=
  ⟨_, rfl, issue_within _ _ _ (Within.refl s)⟩

theorem execAndT_within {F : Part → Prop} [Has F .threads] [Has F .cyls] [Has F .krs] [Has F .engs] [Has F .intake] [Has F .srcs] [Has F .arbs] [Has F .pins] [Has F .out] (t : Fin 2048) (s : State) : GoesIn F s (execAndT t s) :=
  ⟨_, rfl, issue_within _ _ _ (Within.refl s)⟩

theorem execOrT_within {F : Part → Prop} [Has F .threads] [Has F .cyls] [Has F .krs] [Has F .engs] [Has F .intake] [Has F .srcs] [Has F .arbs] [Has F .pins] [Has F .out] (t : Fin 2048) (s : State) : GoesIn F s (execOrT t s) :=
  ⟨_, rfl, issue_within _ _ _ (Within.refl s)⟩

theorem execXorT_within {F : Part → Prop} [Has F .threads] [Has F .cyls] [Has F .krs] [Has F .engs] [Has F .intake] [Has F .srcs] [Has F .arbs] [Has F .pins] [Has F .out] (t : Fin 2048) (s : State) : GoesIn F s (execXorT t s) :=
  ⟨_, rfl, issue_within _ _ _ (Within.refl s)⟩

theorem execAndnT_within {F : Part → Prop} [Has F .threads] [Has F .cyls] [Has F .krs] [Has F .engs] [Has F .intake] [Has F .srcs] [Has F .arbs] [Has F .pins] [Has F .out] (t : Fin 2048) (s : State) : GoesIn F s (execAndnT t s) :=
  ⟨_, rfl, issue_within _ _ _ (Within.refl s)⟩

theorem execNotT_within {F : Part → Prop} [Has F .threads] [Has F .cyls] [Has F .krs] [Has F .engs] [Has F .intake] [Has F .srcs] [Has F .arbs] [Has F .pins] [Has F .out] (t : Fin 2048) (s : State) : GoesIn F s (execNotT t s) :=
  ⟨_, rfl, issue_within _ _ _ (Within.refl s)⟩

theorem execShlT_within {F : Part → Prop} [Has F .threads] [Has F .cyls] [Has F .krs] [Has F .engs] [Has F .intake] [Has F .srcs] [Has F .arbs] [Has F .pins] [Has F .out] (t : Fin 2048) (s : State) : GoesIn F s (execShlT t s) :=
  ⟨_, rfl, issue_within _ _ _ (Within.refl s)⟩

theorem execShrT_within {F : Part → Prop} [Has F .threads] [Has F .cyls] [Has F .krs] [Has F .engs] [Has F .intake] [Has F .srcs] [Has F .arbs] [Has F .pins] [Has F .out] (t : Fin 2048) (s : State) : GoesIn F s (execShrT t s) :=
  ⟨_, rfl, issue_within _ _ _ (Within.refl s)⟩

theorem execSarT_within {F : Part → Prop} [Has F .threads] [Has F .cyls] [Has F .krs] [Has F .engs] [Has F .intake] [Has F .srcs] [Has F .arbs] [Has F .pins] [Has F .out] (t : Fin 2048) (s : State) : GoesIn F s (execSarT t s) :=
  ⟨_, rfl, issue_within _ _ _ (Within.refl s)⟩

theorem execRolT_within {F : Part → Prop} [Has F .threads] [Has F .cyls] [Has F .krs] [Has F .engs] [Has F .intake] [Has F .srcs] [Has F .arbs] [Has F .pins] [Has F .out] (t : Fin 2048) (s : State) : GoesIn F s (execRolT t s) :=
  ⟨_, rfl, issue_within _ _ _ (Within.refl s)⟩

theorem execRorT_within {F : Part → Prop} [Has F .threads] [Has F .cyls] [Has F .krs] [Has F .engs] [Has F .intake] [Has F .srcs] [Has F .arbs] [Has F .pins] [Has F .out] (t : Fin 2048) (s : State) : GoesIn F s (execRorT t s) :=
  ⟨_, rfl, issue_within _ _ _ (Within.refl s)⟩

theorem execCmpEqT_within {F : Part → Prop} [Has F .threads] [Has F .cyls] [Has F .krs] [Has F .engs] [Has F .intake] [Has F .srcs] [Has F .arbs] [Has F .pins] [Has F .out] (t : Fin 2048) (s : State) : GoesIn F s (execCmpEqT t s) :=
  ⟨_, rfl, issue_within _ _ _ (Within.refl s)⟩

theorem execCmpLtT_within {F : Part → Prop} [Has F .threads] [Has F .cyls] [Has F .krs] [Has F .engs] [Has F .intake] [Has F .srcs] [Has F .arbs] [Has F .pins] [Has F .out] (t : Fin 2048) (s : State) : GoesIn F s (execCmpLtT t s) :=
  ⟨_, rfl, issue_within _ _ _ (Within.refl s)⟩

theorem execCmpLtuT_within {F : Part → Prop} [Has F .threads] [Has F .cyls] [Has F .krs] [Has F .engs] [Has F .intake] [Has F .srcs] [Has F .arbs] [Has F .pins] [Has F .out] (t : Fin 2048) (s : State) : GoesIn F s (execCmpLtuT t s) :=
  ⟨_, rfl, issue_within _ _ _ (Within.refl s)⟩

theorem execCmpLeT_within {F : Part → Prop} [Has F .threads] [Has F .cyls] [Has F .krs] [Has F .engs] [Has F .intake] [Has F .srcs] [Has F .arbs] [Has F .pins] [Has F .out] (t : Fin 2048) (s : State) : GoesIn F s (execCmpLeT t s) :=
  ⟨_, rfl, issue_within _ _ _ (Within.refl s)⟩

theorem execCmpLeuT_within {F : Part → Prop} [Has F .threads] [Has F .cyls] [Has F .krs] [Has F .engs] [Has F .intake] [Has F .srcs] [Has F .arbs] [Has F .pins] [Has F .out] (t : Fin 2048) (s : State) : GoesIn F s (execCmpLeuT t s) :=
  ⟨_, rfl, issue_within _ _ _ (Within.refl s)⟩

theorem execDaddT_within {F : Part → Prop} [Has F .threads] [Has F .cyls] [Has F .krs] [Has F .engs] [Has F .intake] [Has F .srcs] [Has F .arbs] [Has F .pins] [Has F .out] (t : Fin 2048) (s : State) : GoesIn F s (execDaddT t s) :=
  ⟨_, rfl, issue_within _ _ _ (Within.refl s)⟩

theorem execDsubT_within {F : Part → Prop} [Has F .threads] [Has F .cyls] [Has F .krs] [Has F .engs] [Has F .intake] [Has F .srcs] [Has F .arbs] [Has F .pins] [Has F .out] (t : Fin 2048) (s : State) : GoesIn F s (execDsubT t s) :=
  ⟨_, rfl, issue_within _ _ _ (Within.refl s)⟩

theorem execDchkT_within {F : Part → Prop} [Has F .threads] [Has F .cyls] [Has F .krs] [Has F .engs] [Has F .intake] [Has F .srcs] [Has F .arbs] [Has F .pins] [Has F .out] (t : Fin 2048) (s : State) : GoesIn F s (execDchkT t s) :=
  ⟨_, rfl, issue_within _ _ _ (Within.refl s)⟩

theorem execDcvtT_within {F : Part → Prop} [Has F .threads] [Has F .cyls] [Has F .krs] [Has F .engs] [Has F .intake] [Has F .srcs] [Has F .arbs] [Has F .pins] [Has F .out] (t : Fin 2048) (s : State) : GoesIn F s (execDcvtT t s) :=
  ⟨_, rfl, issue_within _ _ _ (Within.refl s)⟩

theorem execBcvtT_within {F : Part → Prop} [Has F .threads] [Has F .cyls] [Has F .krs] [Has F .engs] [Has F .intake] [Has F .srcs] [Has F .arbs] [Has F .pins] [Has F .out] (t : Fin 2048) (s : State) : GoesIn F s (execBcvtT t s) :=
  ⟨_, rfl, issue_within _ _ _ (Within.refl s)⟩

theorem execMulT_within {F : Part → Prop} [Has F .threads] [Has F .cyls] [Has F .krs] [Has F .engs] [Has F .intake] [Has F .srcs] [Has F .arbs] [Has F .pins] [Has F .out] (t : Fin 2048) (s : State) : GoesIn F s (execMulT t s) :=
  ⟨_, rfl, issue_within _ _ _ (Within.refl s)⟩

theorem execMulsT_within {F : Part → Prop} [Has F .threads] [Has F .cyls] [Has F .krs] [Has F .engs] [Has F .intake] [Has F .srcs] [Has F .arbs] [Has F .pins] [Has F .out] (t : Fin 2048) (s : State) : GoesIn F s (execMulsT t s) :=
  ⟨_, rfl, issue_within _ _ _ (Within.refl s)⟩

theorem execDivT_within {F : Part → Prop} [Has F .threads] [Has F .cyls] [Has F .krs] [Has F .engs] [Has F .intake] [Has F .srcs] [Has F .arbs] [Has F .pins] [Has F .out] (t : Fin 2048) (s : State) : GoesIn F s (execDivT t s) :=
  ⟨_, rfl, issue_within _ _ _ (Within.refl s)⟩

theorem execDivsT_within {F : Part → Prop} [Has F .threads] [Has F .cyls] [Has F .krs] [Has F .engs] [Has F .intake] [Has F .srcs] [Has F .arbs] [Has F .pins] [Has F .out] (t : Fin 2048) (s : State) : GoesIn F s (execDivsT t s) :=
  ⟨_, rfl, issue_within _ _ _ (Within.refl s)⟩

/-! ### FlowIssue -/

theorem execCbEqT_within {F : Part → Prop} [Has F .threads] [Has F .cyls] [Has F .krs] [Has F .engs] [Has F .intake] [Has F .srcs] [Has F .arbs] [Has F .pins] [Has F .out] (t : Fin 2048) (s : State) : GoesIn F s (execCbEqT t s) :=
  ⟨_, rfl, issue_within _ _ _ (Within.refl s)⟩

theorem execCbNeT_within {F : Part → Prop} [Has F .threads] [Has F .cyls] [Has F .krs] [Has F .engs] [Has F .intake] [Has F .srcs] [Has F .arbs] [Has F .pins] [Has F .out] (t : Fin 2048) (s : State) : GoesIn F s (execCbNeT t s) :=
  ⟨_, rfl, issue_within _ _ _ (Within.refl s)⟩

theorem execCbLtT_within {F : Part → Prop} [Has F .threads] [Has F .cyls] [Has F .krs] [Has F .engs] [Has F .intake] [Has F .srcs] [Has F .arbs] [Has F .pins] [Has F .out] (t : Fin 2048) (s : State) : GoesIn F s (execCbLtT t s) :=
  ⟨_, rfl, issue_within _ _ _ (Within.refl s)⟩

theorem execCbGeT_within {F : Part → Prop} [Has F .threads] [Has F .cyls] [Has F .krs] [Has F .engs] [Has F .intake] [Has F .srcs] [Has F .arbs] [Has F .pins] [Has F .out] (t : Fin 2048) (s : State) : GoesIn F s (execCbGeT t s) :=
  ⟨_, rfl, issue_within _ _ _ (Within.refl s)⟩

theorem execCbLtuT_within {F : Part → Prop} [Has F .threads] [Has F .cyls] [Has F .krs] [Has F .engs] [Has F .intake] [Has F .srcs] [Has F .arbs] [Has F .pins] [Has F .out] (t : Fin 2048) (s : State) : GoesIn F s (execCbLtuT t s) :=
  ⟨_, rfl, issue_within _ _ _ (Within.refl s)⟩

theorem execCbGeuT_within {F : Part → Prop} [Has F .threads] [Has F .cyls] [Has F .krs] [Has F .engs] [Has F .intake] [Has F .srcs] [Has F .arbs] [Has F .pins] [Has F .out] (t : Fin 2048) (s : State) : GoesIn F s (execCbGeuT t s) :=
  ⟨_, rfl, issue_within _ _ _ (Within.refl s)⟩

theorem execCbBsT_within {F : Part → Prop} [Has F .threads] [Has F .cyls] [Has F .krs] [Has F .engs] [Has F .intake] [Has F .srcs] [Has F .arbs] [Has F .pins] [Has F .out] (t : Fin 2048) (s : State) : GoesIn F s (execCbBsT t s) :=
  ⟨_, rfl, issue_within _ _ _ (Within.refl s)⟩

theorem execCbBcT_within {F : Part → Prop} [Has F .threads] [Has F .cyls] [Has F .krs] [Has F .engs] [Has F .intake] [Has F .srcs] [Has F .arbs] [Has F .pins] [Has F .out] (t : Fin 2048) (s : State) : GoesIn F s (execCbBcT t s) :=
  ⟨_, rfl, issue_within _ _ _ (Within.refl s)⟩

theorem execJmpT_within {F : Part → Prop} [Has F .threads] [Has F .cyls] [Has F .krs] [Has F .engs] [Has F .intake] [Has F .srcs] [Has F .arbs] [Has F .pins] [Has F .out] (t : Fin 2048) (s : State) : GoesIn F s (execJmpT t s) :=
  ⟨_, rfl, issue_within _ _ _ (Within.refl s)⟩

theorem execJmpRelT_within {F : Part → Prop} [Has F .threads] [Has F .cyls] [Has F .krs] [Has F .engs] [Has F .intake] [Has F .srcs] [Has F .arbs] [Has F .pins] [Has F .out] (t : Fin 2048) (s : State) : GoesIn F s (execJmpRelT t s) :=
  ⟨_, rfl, issue_within _ _ _ (Within.refl s)⟩

theorem execCallT_within {F : Part → Prop} [Has F .threads] [Has F .cyls] [Has F .krs] [Has F .engs] [Has F .intake] [Has F .srcs] [Has F .arbs] [Has F .pins] [Has F .out] (t : Fin 2048) (s : State) : GoesIn F s (execCallT t s) :=
  ⟨_, rfl, issue_within _ _ _ (Within.refl s)⟩

theorem execRetT_within {F : Part → Prop} [Has F .threads] [Has F .cyls] [Has F .krs] [Has F .engs] [Has F .intake] [Has F .srcs] [Has F .arbs] [Has F .pins] [Has F .out] (t : Fin 2048) (s : State) : GoesIn F s (execRetT t s) :=
  ⟨_, rfl, issue_within _ _ _ (Within.refl s)⟩

theorem execRepT_within {F : Part → Prop} [Has F .threads] [Has F .cyls] [Has F .krs] [Has F .engs] [Has F .intake] [Has F .srcs] [Has F .arbs] [Has F .pins] [Has F .out] (t : Fin 2048) (s : State) : GoesIn F s (execRepT t s) :=
  ⟨_, rfl, issue_within _ _ _ (Within.refl s)⟩

theorem execThrWaitT_within {F : Part → Prop} [Has F .threads] [Has F .cyls] [Has F .krs] [Has F .engs] [Has F .intake] [Has F .srcs] [Has F .arbs] [Has F .pins] [Has F .out] (t : Fin 2048) (s : State) : GoesIn F s (execThrWaitT t s) :=
  ⟨_, rfl, issue_within _ _ _ (Within.refl s)⟩

theorem execThrHaltT_within {F : Part → Prop} [Has F .threads] [Has F .cyls] [Has F .krs] [Has F .engs] [Has F .intake] [Has F .srcs] [Has F .arbs] [Has F .pins] [Has F .out] (t : Fin 2048) (s : State) : GoesIn F s (execThrHaltT t s) :=
  ⟨_, rfl, issue_within _ _ _ (Within.refl s)⟩

theorem execThrYieldT_within {F : Part → Prop} [Has F .threads] [Has F .cyls] [Has F .krs] [Has F .engs] [Has F .intake] [Has F .srcs] [Has F .arbs] [Has F .pins] [Has F .out] (t : Fin 2048) (s : State) : GoesIn F s (execThrYieldT t s) :=
  ⟨_, rfl, issue_within _ _ _ (Within.refl s)⟩

theorem execThrStartT_within {F : Part → Prop} [Has F .threads] [Has F .cyls] [Has F .krs] [Has F .engs] [Has F .intake] [Has F .srcs] [Has F .arbs] [Has F .pins] [Has F .out] (t : Fin 2048) (s : State) : GoesIn F s (execThrStartT t s) :=
  ⟨_, rfl, issue_within _ _ _ (Within.refl s)⟩

theorem execCtlIfence_within {F : Part → Prop} [Has F .threads] [Has F .cyls] [Has F .krs] [Has F .engs] [Has F .intake] [Has F .srcs] [Has F .arbs] [Has F .pins] [Has F .out] (t : Fin 2048) (s : State) : GoesIn F s (execCtlIfence t s) :=
  ⟨_, rfl, issue_within _ _ _ (Within.refl s)⟩

theorem execFenceSl_within {F : Part → Prop} [Has F .threads] [Has F .cyls] [Has F .krs] [Has F .engs] [Has F .intake] [Has F .srcs] [Has F .arbs] [Has F .pins] [Has F .out] (t : Fin 2048) (s : State) : GoesIn F s (execFenceSl t s) :=
  ⟨_, rfl, issue_within _ _ _ (Within.refl s)⟩

theorem execFenceFull_within {F : Part → Prop} [Has F .threads] [Has F .cyls] [Has F .krs] [Has F .engs] [Has F .intake] [Has F .srcs] [Has F .arbs] [Has F .pins] [Has F .out] (t : Fin 2048) (s : State) : GoesIn F s (execFenceFull t s) :=
  ⟨_, rfl, issue_within _ _ _ (Within.refl s)⟩

theorem execFenceDev_within {F : Part → Prop} [Has F .threads] [Has F .cyls] [Has F .krs] [Has F .engs] [Has F .intake] [Has F .srcs] [Has F .arbs] [Has F .pins] [Has F .out] (t : Fin 2048) (s : State) : GoesIn F s (execFenceDev t s) :=
  ⟨_, rfl, issue_within _ _ _ (Within.refl s)⟩

theorem execFenceDrain_within {F : Part → Prop} [Has F .threads] [Has F .cyls] [Has F .krs] [Has F .engs] [Has F .intake] [Has F .srcs] [Has F .arbs] [Has F .pins] [Has F .out] (t : Fin 2048) (s : State) : GoesIn F s (execFenceDrain t s) :=
  ⟨_, rfl, issue_within _ _ _ (Within.refl s)⟩

/-! ### MemIssue -/

theorem execLdT_within {F : Part → Prop} [Has F .threads] [Has F .cyls] [Has F .krs] [Has F .engs] [Has F .intake] [Has F .srcs] [Has F .arbs] [Has F .pins] [Has F .out] (t : Fin 2048) (s : State) : GoesIn F s (execLdT t s) :=
  ⟨_, rfl, issue_within _ _ _ (Within.refl s)⟩

theorem execLdrT_within {F : Part → Prop} [Has F .threads] [Has F .cyls] [Has F .krs] [Has F .engs] [Has F .intake] [Has F .srcs] [Has F .arbs] [Has F .pins] [Has F .out] (t : Fin 2048) (s : State) : GoesIn F s (execLdrT t s) :=
  ⟨_, rfl, issue_within _ _ _ (Within.refl s)⟩

theorem execStT_within {F : Part → Prop} [Has F .threads] [Has F .cyls] [Has F .krs] [Has F .engs] [Has F .intake] [Has F .srcs] [Has F .arbs] [Has F .pins] [Has F .out] (t : Fin 2048) (s : State) : GoesIn F s (execStT t s) :=
  ⟨_, rfl, issue_within _ _ _ (Within.refl s)⟩

theorem execStcT_within {F : Part → Prop} [Has F .threads] [Has F .cyls] [Has F .krs] [Has F .engs] [Has F .intake] [Has F .srcs] [Has F .arbs] [Has F .pins] [Has F .out] (t : Fin 2048) (s : State) : GoesIn F s (execStcT t s) :=
  ⟨_, rfl, issue_within _ _ _ (Within.refl s)⟩

theorem execAtAddT_within {F : Part → Prop} [Has F .threads] [Has F .cyls] [Has F .krs] [Has F .engs] [Has F .intake] [Has F .srcs] [Has F .arbs] [Has F .pins] [Has F .out] (t : Fin 2048) (s : State) : GoesIn F s (execAtAddT t s) :=
  ⟨_, rfl, issue_within _ _ _ (Within.refl s)⟩

theorem execAtSwpT_within {F : Part → Prop} [Has F .threads] [Has F .cyls] [Has F .krs] [Has F .engs] [Has F .intake] [Has F .srcs] [Has F .arbs] [Has F .pins] [Has F .out] (t : Fin 2048) (s : State) : GoesIn F s (execAtSwpT t s) :=
  ⟨_, rfl, issue_within _ _ _ (Within.refl s)⟩

theorem execAtCasT_within {F : Part → Prop} [Has F .threads] [Has F .cyls] [Has F .krs] [Has F .engs] [Has F .intake] [Has F .srcs] [Has F .arbs] [Has F .pins] [Has F .out] (t : Fin 2048) (s : State) : GoesIn F s (execAtCasT t s) :=
  ⟨_, rfl, issue_within _ _ _ (Within.refl s)⟩

theorem execStrLd_within {F : Part → Prop} [Has F .threads] [Has F .cyls] [Has F .krs] [Has F .engs] [Has F .intake] [Has F .srcs] [Has F .arbs] [Has F .pins] [Has F .out] (t : Fin 2048) (s : State) : GoesIn F s (execStrLd t s) :=
  ⟨_, rfl, issue_within _ _ _ (Within.refl s)⟩

theorem execStrSt_within {F : Part → Prop} [Has F .threads] [Has F .cyls] [Has F .krs] [Has F .engs] [Has F .intake] [Has F .srcs] [Has F .arbs] [Has F .pins] [Has F .out] (t : Fin 2048) (s : State) : GoesIn F s (execStrSt t s) :=
  ⟨_, rfl, issue_within _ _ _ (Within.refl s)⟩

theorem execBsTasT_within {F : Part → Prop} [Has F .threads] [Has F .cyls] [Has F .krs] [Has F .engs] [Has F .intake] [Has F .srcs] [Has F .arbs] [Has F .pins] [Has F .out] (t : Fin 2048) (s : State) : GoesIn F s (execBsTasT t s) :=
  ⟨_, rfl, issue_within _ _ _ (Within.refl s)⟩

theorem execBsKRead_within {F : Part → Prop} [Has F .threads] [Has F .cyls] [Has F .krs] [Has F .engs] [Has F .intake] [Has F .srcs] [Has F .arbs] [Has F .pins] [Has F .out] (t : Fin 2048) (s : State) : GoesIn F s (execBsKRead t s) :=
  ⟨_, rfl, issue_within _ _ _ (Within.refl s)⟩

theorem execBsKWrite_within {F : Part → Prop} [Has F .threads] [Has F .cyls] [Has F .krs] [Has F .engs] [Has F .intake] [Has F .srcs] [Has F .arbs] [Has F .pins] [Has F .out] (t : Fin 2048) (s : State) : GoesIn F s (execBsKWrite t s) :=
  ⟨_, rfl, issue_within _ _ _ (Within.refl s)⟩

theorem execEngRsvT_within {F : Part → Prop} [Has F .threads] [Has F .cyls] [Has F .krs] [Has F .engs] [Has F .intake] [Has F .srcs] [Has F .arbs] [Has F .pins] [Has F .out] (t : Fin 2048) (s : State) : GoesIn F s (execEngRsvT t s) :=
  ⟨_, rfl, issue_within _ _ _ (Within.refl s)⟩

theorem execEngRelT_within {F : Part → Prop} [Has F .threads] [Has F .cyls] [Has F .krs] [Has F .engs] [Has F .intake] [Has F .srcs] [Has F .arbs] [Has F .pins] [Has F .out] (t : Fin 2048) (s : State) : GoesIn F s (execEngRelT t s) :=
  ⟨_, rfl, issue_within _ _ _ (Within.refl s)⟩

theorem execEJobT_within {F : Part → Prop} [Has F .threads] [Has F .cyls] [Has F .krs] [Has F .engs] [Has F .intake] [Has F .srcs] [Has F .arbs] [Has F .pins] [Has F .out] (t : Fin 2048) (s : State) : GoesIn F s (execEJobT t s) :=
  ⟨_, rfl, issue_within _ _ _ (Within.refl s)⟩

theorem execBlankMove_within {F : Part → Prop} [Has F .threads] [Has F .cyls] [Has F .krs] [Has F .engs] [Has F .intake] [Has F .srcs] [Has F .arbs] [Has F .pins] [Has F .out] (t : Fin 2048) (s : State) : GoesIn F s (execBlankMove t s) :=
  ⟨_, rfl, issue_within _ _ _ (Within.refl s)⟩

/-! ### Landing -/

theorem countOutcome_within {F : Part → Prop} [Has F .regs] [Has F .threads] [Has F .cyls] [Has F .engs] [Has F .doms] [Has F .faults] {s0 : State} (s : State) (t : Nat) (o : UnitOutcome) (hk : Within F s0 s) : Within F s0 (countOutcome s t o) := by
  unfold countOutcome
  iterate 60 (try (any_goals (first | with_reducible assumption | with_reducible apply within_ite | with_reducible apply within_ite_snd | with_reducible apply report_within | with_reducible apply bump_within | (with_reducible apply within_foldl <;> [skip; intro _ _ _]) | split | extract_lets | (apply within_eq; with_reducible assumption) | dsimp -zeta only | ((with_reducible apply within_mk) <;> first | exact .inl Has.has | exact .inr rfl | skip))))

theorem unitEnds_within {F : Part → Prop} [Has F .regs] [Has F .threads] [Has F .cyls] [Has F .engs] [Has F .doms] [Has F .faults] {s0 : State} (s : State) (t : Nat) (u : DUnit) (o : UnitOutcome) (hk : Within F s0 s) : Within F s0 (unitEnds s t u o) := by
  unfold unitEnds
  iterate 60 (try (any_goals (first | with_reducible assumption | with_reducible apply within_ite | with_reducible apply within_ite_snd | with_reducible apply countOutcome_within | with_reducible apply settle_within | with_reducible apply modCyl_within | with_reducible apply putThr_within | (with_reducible apply within_foldl <;> [skip; intro _ _ _]) | split | extract_lets | (apply within_eq; with_reducible assumption) | dsimp -zeta only | ((with_reducible apply within_mk) <;> first | exact .inl Has.has | exact .inr rfl | skip))))

theorem resolveBranch_within {F : Part → Prop} [Has F .threads] {s0 : State} (s : State) (t : Nat) (hk : Within F s0 s) : Within F s0 (resolveBranch s t) := by
  unfold resolveBranch
  iterate 60 (try (any_goals (first | with_reducible assumption | with_reducible apply within_ite | with_reducible apply within_ite_snd | with_reducible apply settle_within | with_reducible apply putThr_within | (with_reducible apply within_foldl <;> [skip; intro _ _ _]) | split | extract_lets | (apply within_eq; with_reducible assumption) | dsimp -zeta only | ((with_reducible apply within_mk) <;> first | exact .inl Has.has | exact .inr rfl | skip))))

theorem resolveReturn_within {F : Part → Prop} [Has F .threads] [Has F .cyls] [Has F .krs] {s0 : State} (s : State) (t : Nat) (hk : Within F s0 s) : Within F s0 (resolveReturn s t) := by
  unfold resolveReturn
  iterate 60 (try (any_goals (first | with_reducible assumption | with_reducible apply within_ite | with_reducible apply within_ite_snd | with_reducible apply settle_within | with_reducible apply cacheLoad_within | with_reducible apply putThr_within | (with_reducible apply within_foldl <;> [skip; intro _ _ _]) | split | extract_lets | (apply within_eq; with_reducible assumption) | dsimp -zeta only | ((with_reducible apply within_mk) <;> first | exact .inl Has.has | exact .inr rfl | skip))))

theorem fetchGroup_within {F : Part → Prop} [Has F .threads] [Has F .cyls] [Has F .krs] [Has F .engs] [Has F .doms] [Has F .faults] {s0 : State} (s : State) (t : Nat) (parity : Bool) (hk : Within F s0 s) : Within F s0 (fetchGroup s t parity) := by
  unfold fetchGroup
  iterate 60 (try (any_goals (first | with_reducible assumption | with_reducible apply within_ite | with_reducible apply within_ite_snd | with_reducible apply settle_within | with_reducible apply xlFault_within | with_reducible apply cacheFetch_within | with_reducible apply tlbUse_within | with_reducible apply report_within | with_reducible apply putThr_within | (with_reducible apply within_foldl <;> [skip; intro _ _ _]) | split | extract_lets | (apply within_eq; with_reducible assumption) | dsimp -zeta only | ((with_reducible apply within_mk) <;> first | exact .inl Has.has | exact .inr rfl | skip))))

theorem walkEnds_within {F : Part → Prop} [Has F .threads] [Has F .cyls] [Has F .krs] {s0 : State} (s : State) (t : Nat) (hk : Within F s0 s) : Within F s0 (walkEnds s t) := by
  unfold walkEnds
  iterate 60 (try (any_goals (first | with_reducible assumption | with_reducible apply within_ite | with_reducible apply within_ite_snd | with_reducible apply settle_within | with_reducible apply xlFault_within | with_reducible apply tlbInstall_within | with_reducible apply modThr_within | (with_reducible apply within_foldl <;> [skip; intro _ _ _]) | split | extract_lets | (apply within_eq; with_reducible assumption) | dsimp -zeta only | ((with_reducible apply within_mk) <;> first | exact .inl Has.has | exact .inr rfl | skip))))

theorem stcEnds_within {F : Part → Prop} [Has F .mem] [Has F .poison] [Has F .threads] [Has F .krs] {s0 : State} (s : State) (t : Nat) (hk : Within F s0 s) : Within F s0 (stcEnds s t) := by
  unfold stcEnds
  iterate 60 (try (any_goals (first | with_reducible assumption | with_reducible apply within_ite | with_reducible apply within_ite_snd | with_reducible apply settle_within | with_reducible apply cacheStore_within | with_reducible apply storePieces_within | with_reducible apply modThr_within | (with_reducible apply within_foldl <;> [skip; intro _ _ _]) | split | extract_lets | (apply within_eq; with_reducible assumption) | dsimp -zeta only | ((with_reducible apply within_mk) <;> first | exact .inl Has.has | exact .inr rfl | skip))))

theorem atomicEnds_within {F : Part → Prop} [Has F .mem] [Has F .poison] [Has F .threads] [Has F .krs] {s0 : State} (s : State) (t : Nat) (hk : Within F s0 s) : Within F s0 (atomicEnds s t) := by
  unfold atomicEnds
  iterate 60 (try (any_goals (first | with_reducible assumption | with_reducible apply within_ite | with_reducible apply within_ite_snd | with_reducible apply settle_within | with_reducible apply cacheStore_within | with_reducible apply storePieces_within | with_reducible apply modThr_within | (with_reducible apply within_foldl <;> [skip; intro _ _ _]) | split | extract_lets | (apply within_eq; with_reducible assumption) | dsimp -zeta only | ((with_reducible apply within_mk) <;> first | exact .inl Has.has | exact .inr rfl | skip))))

theorem tasEnds_within {F : Part → Prop} [Has F .threads] [Has F .krs] {s0 : State} (s : State) (t : Nat) (hk : Within F s0 s) : Within F s0 (tasEnds s t) := by
  unfold tasEnds
  iterate 60 (try (any_goals (first | with_reducible assumption | with_reducible apply within_ite | with_reducible apply within_ite_snd | with_reducible apply settle_within | with_reducible apply writeKbit_within | with_reducible apply modThr_within | (with_reducible apply within_foldl <;> [skip; intro _ _ _]) | split | extract_lets | (apply within_eq; with_reducible assumption) | dsimp -zeta only | ((with_reducible apply within_mk) <;> first | exact .inl Has.has | exact .inr rfl | skip))))

theorem execDigitUnitResult_within {F : Part → Prop} [Has F .regs] [Has F .threads] [Has F .cyls] [Has F .engs] [Has F .doms] [Has F .faults] (t : Fin 2048) (u : DUnit) (o : UnitOutcome) (s : State) : GoesIn F s (execDigitUnitResult t u o s) :=
  ⟨_, rfl, unitEnds_within _ _ _ _ (Within.refl s)⟩

theorem execCompletionTimeout_within {F : Part → Prop} [Has F .regs] [Has F .threads] [Has F .cyls] [Has F .engs] [Has F .doms] [Has F .faults] (t : Fin 2048) (u : DUnit) (s : State) : GoesIn F s (execCompletionTimeout t u s) :=
  ⟨_, rfl, unitEnds_within _ _ _ _ (Within.refl s)⟩

theorem execMulProductVisible_within {F : Part → Prop} [Has F .threads] (t : Fin 2048) (s : State) : GoesIn F s (execMulProductVisible t s) :=
  ⟨_, rfl, settle_within _ (modThr_within _ _ _ (Within.refl s))⟩

theorem execBranchResolve_within {F : Part → Prop} [Has F .threads] (t : Fin 2048) (s : State) : GoesIn F s (execBranchResolve t s) :=
  ⟨_, rfl, resolveBranch_within _ _ (Within.refl s)⟩

theorem execReturnResolve_within {F : Part → Prop} [Has F .threads] [Has F .cyls] [Has F .krs] (t : Fin 2048) (s : State) : GoesIn F s (execReturnResolve t s) :=
  ⟨_, rfl, resolveReturn_within _ _ (Within.refl s)⟩

theorem execFetchGroupArrive_within {F : Part → Prop} [Has F .threads] [Has F .cyls] [Has F .krs] [Has F .engs] [Has F .doms] [Has F .faults] (t : Fin 2048) (parityError : Bool) (s : State) : GoesIn F s (execFetchGroupArrive t parityError s) :=
  ⟨_, rfl, fetchGroup_within _ _ _ (Within.refl s)⟩

theorem execPageWalkComplete_within {F : Part → Prop} [Has F .threads] [Has F .cyls] [Has F .krs] (t : Fin 2048) (s : State) : GoesIn F s (execPageWalkComplete t s) :=
  ⟨_, rfl, walkEnds_within _ _ (Within.refl s)⟩

theorem execStcDecided_within {F : Part → Prop} [Has F .mem] [Has F .poison] [Has F .threads] [Has F .krs] (t : Fin 2048) (s : State) : GoesIn F s (execStcDecided t s) :=
  ⟨_, rfl, stcEnds_within _ _ (Within.refl s)⟩

theorem execAtomicComplete_within {F : Part → Prop} [Has F .mem] [Has F .poison] [Has F .threads] [Has F .krs] (t : Fin 2048) (s : State) : GoesIn F s (execAtomicComplete t s) :=
  ⟨_, rfl, atomicEnds_within _ _ (Within.refl s)⟩

theorem execBsTasComplete_within {F : Part → Prop} [Has F .threads] [Has F .krs] (t : Fin 2048) (s : State) : GoesIn F s (execBsTasComplete t s) :=
  ⟨_, rfl, tasEnds_within _ _ (Within.refl s)⟩

/-! ### Knocks -/

theorem pendSet_within {F : Part → Prop} [Has F .regs] [Has F .threads] [Has F .srcs] {s0 : State} (s : State) (p n : Nat) (hk : Within F s0 s) : Within F s0 (pendSet s p n) := by
  unfold pendSet
  iterate 60 (try (any_goals (first | with_reducible assumption | with_reducible apply within_ite | with_reducible apply within_ite_snd | with_reducible apply deny_within | with_reducible apply wakeTargets_within | with_reducible apply modSrc_within | (with_reducible apply within_foldl <;> [skip; intro _ _ _]) | split | extract_lets | (apply within_eq; with_reducible assumption) | dsimp -zeta only | ((with_reducible apply within_mk) <;> first | exact .inl Has.has | exact .inr rfl | skip))))

theorem pendClr_within {F : Part → Prop} [Has F .regs] [Has F .srcs] {s0 : State} (s : State) (p n : Nat) (hk : Within F s0 s) : Within F s0 (pendClr s p n) :=
  within_ite hk (within_ite (modSrc_within _ _ _ hk) (deny_within _ _ hk))

theorem maskWrite_within {F : Part → Prop} [Has F .regs] [Has F .threads] [Has F .srcs] {s0 : State} (s : State) (p n : Nat) (m : Bool) (hk : Within F s0 s) : Within F s0 (maskWrite s p n m) := by
  unfold maskWrite
  iterate 60 (try (any_goals (first | with_reducible assumption | with_reducible apply within_ite | with_reducible apply within_ite_snd | with_reducible apply deny_within | with_reducible apply wakeTargets_within | with_reducible apply modSrc_within | (with_reducible apply within_foldl <;> [skip; intro _ _ _]) | split | extract_lets | (apply within_eq; with_reducible assumption) | dsimp -zeta only | ((with_reducible apply within_mk) <;> first | exact .inl Has.has | exact .inr rfl | skip))))

theorem abandonDiv_within {F : Part → Prop} [Has F .threads] [Has F .cyls] {s0 : State} (s : State) (t : Nat) (hk : Within F s0 s) : Within F s0 (abandonDiv s t) := by
  unfold abandonDiv
  iterate 60 (try (any_goals (first | with_reducible assumption | with_reducible apply within_ite | with_reducible apply within_ite_snd | with_reducible apply modCyl_within | with_reducible apply putThr_within | (with_reducible apply within_foldl <;> [skip; intro _ _ _]) | split | extract_lets | (apply within_eq; with_reducible assumption) | dsimp -zeta only | ((with_reducible apply within_mk) <;> first | exact .inl Has.has | exact .inr rfl | skip))))

theorem interrupt_within {F : Part → Prop} [Has F .threads] [Has F .cyls] [Has F .engs] {s0 : State} (s : State) (t : Nat) (k : Option SyncKnock) (hk : Within F s0 s) : Within F s0 (interrupt s t k) := by
  unfold interrupt
  iterate 60 (try (any_goals (first | with_reducible assumption | with_reducible apply within_ite | with_reducible apply within_ite_snd | with_reducible apply abandonDiv_within | with_reducible apply withdrawSeat_within | with_reducible apply modThr_within | (with_reducible apply within_foldl <;> [skip; intro _ _ _]) | split | extract_lets | (apply within_eq; with_reducible assumption) | dsimp -zeta only | ((with_reducible apply within_mk) <;> first | exact .inl Has.has | exact .inr rfl | skip))))

theorem entryFill_within {F : Part → Prop} [Has F .cyls] [Has F .krs] {s0 : State} (s : State) (t va acc : Nat) (hk : Within F s0 s) : Within F s0 (entryFill s t va acc) := by
  unfold entryFill
  iterate 60 (try (any_goals (first | with_reducible assumption | with_reducible apply within_ite | with_reducible apply within_ite_snd | with_reducible apply tlbInstall_within | (with_reducible apply within_foldl <;> [skip; intro _ _ _]) | split | extract_lets | (apply within_eq; with_reducible assumption) | dsimp -zeta only | ((with_reducible apply within_mk) <;> first | exact .inl Has.has | exact .inr rfl | skip))))

theorem entryHalt_within {F : Part → Prop} [Has F .regs] [Has F .threads] [Has F .engs] [Has F .intake] [Has F .srcs] [Has F .arbs] [Has F .pins] [Has F .out] {s0 : State} (s : State) (t : Nat) (epc : VAddr) (f : Option (VAddr × Word)) (hk : Within F s0 s) : Within F s0 (entryHalt s t epc f) := by
  unfold entryHalt
  iterate 60 (try (any_goals (first | with_reducible assumption | with_reducible apply within_ite | with_reducible apply within_ite_snd | with_reducible apply haltThr_within | with_reducible apply errKnock_within | with_reducible apply modThr_within | (with_reducible apply within_foldl <;> [skip; intro _ _ _]) | split | extract_lets | (apply within_eq; with_reducible assumption) | dsimp -zeta only | ((with_reducible apply within_mk) <;> first | exact .inl Has.has | exact .inr rfl | skip))))

theorem takeEntry_within {F : Part → Prop} [Has F .regs] [Has F .threads] [Has F .cyls] [Has F .krs] [Has F .engs] [Has F .intake] [Has F .srcs] [Has F .arbs] [Has F .pins] [Has F .out] {s0 : State} (s : State) (t : Nat) (epc : VAddr) (sync : Option Nat) (hk : Within F s0 s) : Within F s0 (takeEntry s t epc sync) := by
  unfold takeEntry
  iterate 60 (try (any_goals (first | with_reducible assumption | with_reducible apply within_ite | with_reducible apply within_ite_snd | with_reducible apply entryHalt_within | with_reducible apply entryFill_within | with_reducible apply frameStores_within | with_reducible apply modThr_within | (with_reducible apply within_foldl <;> [skip; intro _ _ _]) | split | extract_lets | (apply within_eq; with_reducible assumption) | dsimp -zeta only | ((with_reducible apply within_mk) <;> first | exact .inl Has.has | exact .inr rfl | skip))))

theorem directEntry_within {F : Part → Prop} [Has F .threads] {s0 : State} (s : State) (t : Nat) (hk : Within F s0 s) : Within F s0 (directEntry s t) := by
  unfold directEntry
  iterate 60 (try (any_goals (first | with_reducible assumption | with_reducible apply within_ite | with_reducible apply within_ite_snd | with_reducible apply modThr_within | (with_reducible apply within_foldl <;> [skip; intro _ _ _]) | split | extract_lets | (apply within_eq; with_reducible assumption) | dsimp -zeta only | ((with_reducible apply within_mk) <;> first | exact .inl Has.has | exact .inr rfl | skip))))

theorem restoreEntry_retFault_within {F : Part → Prop} [Has F .threads] [Has F .cyls] [Has F .krs] {s0 : State} (s : State) (t va d l : Nat) (hk : Within F s0 s) :
    Within F s0 (restoreEntry.retFault s t va d l) := by
  unfold restoreEntry.retFault
  exact modThr_within _ _ _ hk

theorem restoreEntry_within {F : Part → Prop} [Has F .threads] [Has F .cyls] [Has F .krs] {s0 : State} (s : State) (t : Nat) (hk : Within F s0 s) : Within F s0 (restoreEntry s t) := by
  unfold restoreEntry
  iterate 60 (try (any_goals (first | with_reducible assumption | with_reducible apply within_ite | with_reducible apply within_ite_snd | with_reducible apply restoreEntry_retFault_within | with_reducible apply entryFill_within | with_reducible apply touch_within | with_reducible apply modThr_within | (with_reducible apply within_foldl <;> [skip; intro _ _ _]) | split | extract_lets | (apply within_eq; with_reducible assumption) | dsimp -zeta only | ((with_reducible apply within_mk) <;> first | exact .inl Has.has | exact .inr rfl | skip))))

theorem asyncEntry_within {F : Part → Prop} [Has F .regs] [Has F .threads] [Has F .cyls] [Has F .krs] [Has F .engs] [Has F .intake] [Has F .srcs] [Has F .arbs] [Has F .pins] [Has F .out] {s0 : State} (s : State) (t : Nat) (hk : Within F s0 s) : Within F s0 (asyncEntry s t) := by
  unfold asyncEntry
  iterate 60 (try (any_goals (first | with_reducible assumption | with_reducible apply within_ite | with_reducible apply within_ite_snd | with_reducible apply restoreEntry_within | with_reducible apply directEntry_within | with_reducible apply takeEntry_within | with_reducible apply interrupt_within | with_reducible apply modThr_within | (with_reducible apply within_foldl <;> [skip; intro _ _ _]) | split | extract_lets | (apply within_eq; with_reducible assumption) | dsimp -zeta only | ((with_reducible apply within_mk) <;> first | exact .inl Has.has | exact .inr rfl | skip))))

theorem syncEntry_within {F : Part → Prop} [Has F .regs] [Has F .threads] [Has F .cyls] [Has F .krs] [Has F .engs] [Has F .intake] [Has F .srcs] [Has F .arbs] [Has F .pins] [Has F .out] {s0 : State} (s : State) (t : Nat) (hk : Within F s0 s) : Within F s0 (syncEntry s t) := by
  unfold syncEntry
  iterate 60 (try (any_goals (first | with_reducible assumption | with_reducible apply within_ite | with_reducible apply within_ite_snd | with_reducible apply takeEntry_within | with_reducible apply interrupt_within | with_reducible apply modThr_within | (with_reducible apply within_foldl <;> [skip; intro _ _ _]) | split | extract_lets | (apply within_eq; with_reducible assumption) | dsimp -zeta only | ((with_reducible apply within_mk) <;> first | exact .inl Has.has | exact .inr rfl | skip))))

theorem claim_within {F : Part → Prop} [Has F .threads] [Has F .srcs] {s0 : State} (s : State) (t : Nat) (hk : Within F s0 s) : Within F s0 (claim s t).2 := by
  unfold claim
  iterate 60 (try (any_goals (first | with_reducible assumption | with_reducible apply within_ite | with_reducible apply within_ite_snd | with_reducible apply modSrc_within | with_reducible apply modThr_within | (with_reducible apply within_foldl <;> [skip; intro _ _ _]) | dsimp only | split | (apply within_eq; with_reducible assumption) | dsimp -zeta only | ((with_reducible apply within_mk) <;> first | exact .inl Has.has | exact .inr rfl | skip))))

theorem stray_within {F : Part → Prop} [Has F .regs] {s0 : State} (s : State) (t : Nat) (hk : Within F s0 s) : Within F s0 (stray s t) :=
  bump_within _ _ _ _ _ _ hk

theorem endOfInterrupt_within {F : Part → Prop} [Has F .regs] [Has F .threads] [Has F .srcs] {s0 : State} (s : State) (t n : Nat) (hk : Within F s0 s) : Within F s0 (endOfInterrupt s t n) := by
  unfold endOfInterrupt
  iterate 60 (try (any_goals (first | with_reducible assumption | with_reducible apply within_ite | with_reducible apply within_ite_snd | with_reducible apply stray_within | with_reducible apply wakeTargets_within | with_reducible apply modSrc_within | with_reducible apply modThr_within | with_reducible apply putThr_within | (with_reducible apply within_foldl <;> [skip; intro _ _ _]) | split | extract_lets | (apply within_eq; with_reducible assumption) | dsimp -zeta only | ((with_reducible apply within_mk) <;> first | exact .inl Has.has | exact .inr rfl | skip))))

theorem knkReturn_within {F : Part → Prop} [Has F .regs] [Has F .threads] [Has F .cyls] [Has F .krs] {s0 : State} (s : State) (t : Nat) (hk : Within F s0 s) : Within F s0 (knkReturn s t) := by
  unfold knkReturn
  iterate 60 (try (any_goals (first | with_reducible assumption | with_reducible apply within_ite | with_reducible apply within_ite_snd | with_reducible apply stray_within | with_reducible apply restoreEntry_within | with_reducible apply directEntry_within | with_reducible apply modThr_within | with_reducible apply putThr_within | (with_reducible apply within_foldl <;> [skip; intro _ _ _]) | split | extract_lets | (apply within_eq; with_reducible assumption) | dsimp -zeta only | ((with_reducible apply within_mk) <;> first | exact .inl Has.has | exact .inr rfl | skip))))

theorem landValue_within {F : Part → Prop} [Has F .threads] {s0 : State} (s : State) (t : Nat) (o : Op) (v : Word) (bad : Bool) (hk : Within F s0 s) : Within F s0 (landValue s t o v bad) := by
  unfold landValue
  iterate 60 (try (any_goals (first | with_reducible assumption | with_reducible apply within_ite | with_reducible apply within_ite_snd | with_reducible apply modThr_within | (with_reducible apply within_foldl <;> [skip; intro _ _ _]) | split | extract_lets | (apply within_eq; with_reducible assumption) | dsimp -zeta only | ((with_reducible apply within_mk) <;> first | exact .inl Has.has | exact .inr rfl | skip))))

theorem claimLands_within {F : Part → Prop} [Has F .rdata] [Has F .threads] [Has F .srcs] {s0 : State} (s : State) (t : Nat) (hk : Within F s0 s) : Within F s0 (claimLands s t) := by
  unfold claimLands
  iterate 60 (try (any_goals (first | with_reducible assumption | with_reducible apply within_ite | with_reducible apply within_ite_snd | with_reducible apply landValue_within | with_reducible apply claim_within | with_reducible apply settle_within | (with_reducible apply within_foldl <;> [skip; intro _ _ _]) | split | extract_lets | (apply within_eq; with_reducible assumption) | dsimp -zeta only | ((with_reducible apply within_mk) <;> first | exact .inl Has.has | exact .inr rfl | skip))))

theorem returnStore_within {F : Part → Prop} [Has F .regs] [Has F .threads] [Has F .cyls] [Has F .krs] {s0 : State} (s : State) (t : Nat) (hk : Within F s0 s) : Within F s0 (returnStore s t) := by
  unfold returnStore
  iterate 60 (try (any_goals (first | with_reducible assumption | with_reducible apply within_ite | with_reducible apply within_ite_snd | with_reducible apply knkReturn_within | with_reducible apply settle_within | with_reducible apply putThr_within | (with_reducible apply within_foldl <;> [skip; intro _ _ _]) | split | extract_lets | (apply within_eq; with_reducible assumption) | dsimp -zeta only | ((with_reducible apply within_mk) <;> first | exact .inl Has.has | exact .inr rfl | skip))))

theorem freezeNow_within {F : Part → Prop} [Has F .threads] {s0 : State} (s : State) (t : Nat) (why : Freeze) (hk : Within F s0 s) : Within F s0 (freezeNow s t why) :=
  modThr_within _ _ _ hk

theorem freezeThr_within {F : Part → Prop} [Has F .threads] [Has F .cyls] [Has F .engs] {s0 : State} (s : State) (t : Nat) (hk : Within F s0 s) : Within F s0 (freezeThr s t) := by
  unfold freezeThr
  iterate 60 (try (any_goals (first | with_reducible assumption | with_reducible apply within_ite | with_reducible apply within_ite_snd | with_reducible apply freezeNow_within | with_reducible apply interrupt_within | (with_reducible apply within_foldl <;> [skip; intro _ _ _]) | split | extract_lets | (apply within_eq; with_reducible assumption) | dsimp -zeta only | ((with_reducible apply within_mk) <;> first | exact .inl Has.has | exact .inr rfl | skip))))

theorem releaseThr_within {F : Part → Prop} [Has F .threads] {s0 : State} (s : State) (t : Nat) (why : Freeze) (hk : Within F s0 s) : Within F s0 (releaseThr s t why) := by
  unfold releaseThr
  iterate 60 (try (any_goals (first | with_reducible assumption | with_reducible apply within_ite | with_reducible apply within_ite_snd | with_reducible apply putThr_within | (with_reducible apply within_foldl <;> [skip; intro _ _ _]) | split | extract_lets | (apply within_eq; with_reducible assumption) | dsimp -zeta only | ((with_reducible apply within_mk) <;> first | exact .inl Has.has | exact .inr rfl | skip))))

theorem drainThr_within {F : Part → Prop} [Has F .mem] [Has F .poison] [Has F .threads] {s0 : State} (s : State) (t : Nat) (hk : Within F s0 s) : Within F s0 (drainThr s t) := by
  unfold drainThr
  iterate 60 (try (any_goals (first | with_reducible assumption | with_reducible apply within_ite | with_reducible apply within_ite_snd | with_reducible apply storePieces_within | with_reducible apply modThr_within | (with_reducible apply within_foldl <;> [skip; intro _ _ _]) | split | extract_lets | (apply within_eq; with_reducible assumption) | dsimp -zeta only | ((with_reducible apply within_mk) <;> first | exact .inl Has.has | exact .inr rfl | skip))))

theorem startDue_within {F : Part → Prop} [Has F .threads] [Has F .turns] {s0 : State} (s : State) (p : Nat) (hk : Within F s0 s) : Within F s0 (startDue s p) := by
  unfold startDue
  iterate 60 (try (any_goals (first | with_reducible assumption | with_reducible apply within_ite | with_reducible apply within_ite_snd | with_reducible apply putThr_within | (with_reducible apply within_foldl <;> [skip; intro _ _ _]) | split | extract_lets | (apply within_eq; with_reducible assumption) | dsimp -zeta only | ((with_reducible apply within_mk) <;> first | exact .inl Has.has | exact .inr rfl | skip))))

theorem clearQuad_within {F : Part → Prop} [Has F .regs] [Has F .mem] [Has F .poison] [Has F .threads] [Has F .engs] [Has F .ks] [Has F .guard] [Has F .intake] [Has F .turns] [Has F .srcs] [Has F .arbs] [Has F .westad] [Has F .audit] [Has F .pins] [Has F .out] {s0 : State} (s : State) (q : Nat) (hk : Within F s0 s) : Within F s0 (clearQuad s q) := by
  unfold clearQuad
  iterate 60 (try (any_goals (first | with_reducible assumption | with_reducible apply within_ite | with_reducible apply within_ite_snd | with_reducible apply startDue_within | with_reducible apply drainThr_within | with_reducible apply staleThread_within | with_reducible apply dropActive_within | with_reducible apply rewindItems_within | with_reducible apply endSeats_within | with_reducible apply putThr_within | (with_reducible apply within_foldl <;> [skip; intro _ _ _]) | split | extract_lets | (apply within_eq; with_reducible assumption) | dsimp -zeta only | ((with_reducible apply within_mk) <;> first | exact .inl Has.has | exact .inr rfl | skip))))

theorem debugRecord_within {F : Part → Prop} [Has F .free] [Has F .audit] {s0 : State} (s : State) (what part : Nat) (hk : Within F s0 s) : Within F s0 (debugRecord s what part) := by
  unfold debugRecord
  iterate 60 (try (any_goals (first | with_reducible assumption | with_reducible apply within_ite | with_reducible apply within_ite_snd | with_reducible apply audit_within | with_reducible apply freeWord_within | (with_reducible apply within_foldl <;> [skip; intro _ _ _]) | split | extract_lets | (apply within_eq; with_reducible assumption) | dsimp -zeta only | ((with_reducible apply within_mk) <;> first | exact .inl Has.has | exact .inr rfl | skip))))

theorem endDebug_within {F : Part → Prop} [Has F .free] [Has F .threads] [Has F .dbg] [Has F .audit] {s0 : State} (s : State) (hk : Within F s0 s) : Within F s0 (endDebug s) := by
  unfold endDebug
  iterate 60 (try (any_goals (first | with_reducible assumption | with_reducible apply within_ite | with_reducible apply within_ite_snd | with_reducible apply debugRecord_within | with_reducible apply releaseThr_within | (with_reducible apply within_foldl <;> [skip; intro _ _ _]) | split | extract_lets | (apply within_eq; with_reducible assumption) | dsimp -zeta only | ((with_reducible apply within_mk) <;> first | exact .inl Has.has | exact .inr rfl | skip))))

theorem execKnkDoorbell_within {F : Part → Prop} [Has F .regs] [Has F .threads] [Has F .srcs] (p : Fin 256) (n : Fin 4096) (s : State) : GoesIn F s (execKnkDoorbell p n s) :=
  ⟨_, rfl, raise_within _ _ _ (Within.refl s)⟩

theorem execDeviceRaise_within {F : Part → Prop} [Has F .regs] [Has F .threads] [Has F .srcs] (p : Fin 256) (n : Fin 4096) (s : State) : GoesIn F s (execDeviceRaise p n s) :=
  ⟨_, rfl, raise_within _ _ _ (Within.refl s)⟩

theorem execKnkPendSet_within {F : Part → Prop} [Has F .regs] [Has F .threads] [Has F .srcs] (p : Fin 256) (n : Fin 4096) (s : State) : GoesIn F s (execKnkPendSet p n s) :=
  ⟨_, rfl, pendSet_within _ _ _ (Within.refl s)⟩

theorem execKnkPendClr_within {F : Part → Prop} [Has F .regs] [Has F .srcs] (p : Fin 256) (n : Fin 4096) (s : State) : GoesIn F s (execKnkPendClr p n s) :=
  ⟨_, rfl, pendClr_within _ _ _ (Within.refl s)⟩

theorem execKnkMaskSet_within {F : Part → Prop} [Has F .regs] [Has F .threads] [Has F .srcs] (p : Fin 256) (n : Fin 4096) (s : State) : GoesIn F s (execKnkMaskSet p n s) :=
  ⟨_, rfl, maskWrite_within _ _ _ _ (Within.refl s)⟩

theorem execKnkMaskClr_within {F : Part → Prop} [Has F .regs] [Has F .threads] [Has F .srcs] (p : Fin 256) (n : Fin 4096) (s : State) : GoesIn F s (execKnkMaskClr p n s) :=
  ⟨_, rfl, maskWrite_within _ _ _ _ (Within.refl s)⟩

theorem execModerationRipe_within {F : Part → Prop} [Has F .threads] [Has F .srcs] (n : Fin 4096) (s : State) : GoesIn F s (execModerationRipe n s) := by
  have hk : Within F s s := Within.refl s
  unfold execModerationRipe
  (try extract_lets)
  refine ⟨_, rfl, ?_⟩
  iterate 30 (try (any_goals (first | with_reducible assumption | with_reducible apply within_ite | with_reducible apply wakeTargets_within | with_reducible apply modSrc_within | (with_reducible apply within_foldl <;> [skip; intro _ _ _]) | intro _ _ | split | extract_lets | dsimp -zeta only | ((with_reducible apply within_mk) <;> first | exact .inl Has.has | exact .inr rfl | skip))))

theorem execKnockEntry_within {F : Part → Prop} [Has F .regs] [Has F .threads] [Has F .cyls] [Has F .krs] [Has F .engs] [Has F .intake] [Has F .srcs] [Has F .arbs] [Has F .pins] [Has F .out] (t : Fin 2048) (s : State) : GoesIn F s (execKnockEntry t s) :=
  ⟨_, rfl, settle_within _ (asyncEntry_within _ _ (Within.refl s))⟩

theorem execSyncKnockEntry_within {F : Part → Prop} [Has F .regs] [Has F .threads] [Has F .cyls] [Has F .krs] [Has F .engs] [Has F .intake] [Has F .srcs] [Has F .arbs] [Has F .pins] [Has F .out] (t : Fin 2048) (s : State) : GoesIn F s (execSyncKnockEntry t s) :=
  ⟨_, rfl, settle_within _ (syncEntry_within _ _ (Within.refl s))⟩

theorem execKnkClaim_within {F : Part → Prop} [Has F .rdata] [Has F .threads] [Has F .srcs] (t : Fin 2048) (s : State) : GoesIn F s (execKnkClaim t s) :=
  ⟨_, rfl, claimLands_within _ _ (Within.refl s)⟩

theorem execKnkEoi_within {F : Part → Prop} [Has F .regs] [Has F .threads] [Has F .srcs] (t : Fin 2048) (n : Fin 4096) (s : State) : GoesIn F s (execKnkEoi t n s) :=
  ⟨_, rfl, endOfInterrupt_within _ _ _ (Within.refl s)⟩

theorem execKnkRtn_within {F : Part → Prop} [Has F .regs] [Has F .threads] [Has F .cyls] [Has F .krs] (t : Fin 2048) (s : State) : GoesIn F s (execKnkRtn t s) :=
  ⟨_, rfl, returnStore_within _ _ (Within.refl s)⟩

theorem execThreadFreeze_within {F : Part → Prop} [Has F .threads] [Has F .cyls] [Has F .engs] (t : Fin 2048) (s : State) : GoesIn F s (execThreadFreeze t s) :=
  ⟨_, rfl, settle_within _ (freezeThr_within _ _ (Within.refl s))⟩

theorem execQuadClear_within {F : Part → Prop} [Has F .regs] [Has F .mem] [Has F .poison] [Has F .threads] [Has F .engs] [Has F .ks] [Has F .guard] [Has F .intake] [Has F .turns] [Has F .srcs] [Has F .arbs] [Has F .westad] [Has F .audit] [Has F .pins] [Has F .out] (q : Fin 512) (s : State) : GoesIn F s (execQuadClear q s) :=
  ⟨_, rfl, clearQuad_within _ _ (Within.refl s)⟩

end Sys2Proof.Machine
end

