-- ==== Sys2Proof/Laws/WithinDevice.lean ====
section
/-! SUPPORT. Engines, DMA, turns, intake, the fabric, the quiet state and faults: each function changes no part of the state but those that its lemma names. -/

set_option linter.all false
set_option linter.unusedTactic false
set_option linter.unreachableTactic false

namespace Sys2Proof.Machine

/-! ### Engines -/

theorem namedKey_within {F : Part → Prop} [Has F .regs] [Has F .threads] [Has F .cyls] [Has F .engs] [Has F .ks] [Has F .srcs] [Has F .doms] [Has F .audit] [Has F .faults] {s0 : State} (s : State) (p turn handle : Nat) (use : Option (Key → Bool)) (hk : Within F s0 s) : Within F s0 (namedKey s p turn handle use).2 := by
  unfold namedKey
  iterate 60 (try (any_goals (first | with_reducible assumption | with_reducible apply within_ite | with_reducible apply within_ite_snd | with_reducible apply readKey_within | (with_reducible apply within_foldl <;> [skip; intro _ _ _]) | split | extract_lets | (apply within_eq; with_reducible assumption) | dsimp -zeta only | ((with_reducible apply within_mk) <;> first | exact .inl Has.has | exact .inr rfl | skip))))

/-- An operation whose guard and run keep the relation. -/
structure OpWithin (F : Part → Prop) (o : OpDef) : Prop where
  guard : ∀ {s0 : State} (c : Ctx) (s : State), Within F s0 s → Within F s0 (o.guard c s).2
  run : ∀ {s0 : State} (c : Ctx) (s : State), Within F s0 s → Within F s0 (o.run c s).2

theorem setUp_within {F : Part → Prop} [Has F .regs] [Has F .threads] [Has F .cyls] [Has F .engs] [Has F .ks] [Has F .srcs] [Has F .doms] [Has F .audit] [Has F .faults] {s0 : State} (s : State) (e : Nat) (j : Job) (d : Desc) (o : OpDef) (ho : OpWithin F o) (hk : Within F s0 s) :
    Within F s0 (setUp s e j d o).2 := by
  unfold setUp
  extract_lets k bi bo ba pi po pa
  apply within_ite_snd hk
  clear_value pi po pa
  split
  · extract_lets bad inB auxB
    apply within_ite_snd hk
    split
    · rename_i e1
      exact within_eq e1 (namedKey_within _ _ _ _ _ hk)
    · rename_i k1 s1 e1
      have h1 : Within F s0 s1 := within_eq e1 (namedKey_within _ _ _ _ _ hk)
      split
      · rename_i e2
        exact within_eq e2 (namedKey_within _ _ _ _ _ h1)
      · rename_i k2 s2 e2
        have h2 : Within F s0 s2 := within_eq e2 (namedKey_within _ _ _ _ _ h1)
        extract_lets c
        apply within_ite_snd h2
        apply within_ite_snd h2
        split
        · exact h2
        · split
          · rename_i s3 e3
            exact within_eq e3 (ho.guard c s2 h2)
          · rename_i s3 e3
            have h3 : Within F s0 s3 := within_eq e3 (ho.guard c s2 h2)
            exact within_ite_snd h3 h3
  · exact hk

theorem conclude_within {F : Part → Prop} {s0 : State} (s : State) (d : Desc) (o : OpDef) (u : SetUp) (ho : OpWithin F o) (hk : Within F s0 s) : Within F s0 (conclude s d o u).2 := by
  unfold conclude
  extract_lets x y outP writes
  show Within F s0 x.2
  exact within_ite_snd hk (ho.run u.c s hk)

theorem prepare_within {F : Part → Prop} [Has F .regs] [Has F .threads] [Has F .cyls] [Has F .engs] [Has F .ks] [Has F .srcs] [Has F .doms] [Has F .audit] [Has F .faults] {s0 : State} (s : State) (e : Nat) (j : Job) (d : Desc) (o : OpDef) (ho : OpWithin F o) (hk : Within F s0 s) :
    Within F s0 (prepare s e j d o).2 := by
  unfold prepare
  split
  · rename_i e1
    exact within_eq e1 (setUp_within _ _ _ _ _ ho hk)
  · rename_i e1
    exact conclude_within _ _ _ _ ho (within_eq e1 (setUp_within _ _ _ _ _ ho hk))

theorem startJob_within {F : Part → Prop} [Has F .regs] [Has F .threads] [Has F .cyls] [Has F .engs] [Has F .ks] [Has F .srcs] [Has F .doms] [Has F .audit] [Has F .faults] {s0 : State} (s : State) (e op : Nat) (o : OpDef) (ho : OpWithin F o) (hk : Within F s0 s) : Within F s0 (startJob s e op o) := by
  unfold startJob
  extract_lets x
  apply within_ite hk
  split
  · exact hk
  · exact within_ite hk (modEng_within _ _ _ (prepare_within _ _ _ _ _ ho hk))

theorem engOutcome_within {F : Part → Prop} [Has F .regs] [Has F .threads] [Has F .cyls] [Has F .engs] [Has F .doms] [Has F .faults] {s0 : State} (s : State) (e p : Nat) (o : UnitOutcome) (hk : Within F s0 s) : Within F s0 (engOutcome s e p o) := by
  unfold engOutcome
  iterate 60 (try (any_goals (first | with_reducible assumption | with_reducible apply within_ite | with_reducible apply within_ite_snd | with_reducible apply report_within | with_reducible apply bump_within | (with_reducible apply within_foldl <;> [skip; intro _ _ _]) | split | extract_lets | (apply within_eq; with_reducible assumption) | dsimp -zeta only | ((with_reducible apply within_mk) <;> first | exact .inl Has.has | exact .inr rfl | skip))))

theorem completeJob_within {F : Part → Prop} [Has F .regs] [Has F .mem] [Has F .poison] [Has F .threads] [Has F .cyls] [Has F .engs] [Has F .ks] [Has F .guard] [Has F .srcs] [Has F .arbs] [Has F .doms] [Has F .westad] [Has F .audit] [Has F .faults] [Has F .out] {s0 : State} (s : State) (e : Nat) (o : UnitOutcome) (hk : Within F s0 s) : Within F s0 (completeJob s e o) := by
  unfold completeJob
  iterate 60 (try (any_goals (first | with_reducible assumption | with_reducible apply within_ite | with_reducible apply within_ite_snd | with_reducible apply engOutcome_within | with_reducible apply endJob_within | with_reducible apply finishJob_within | with_reducible apply settle_within | with_reducible apply modEng_within | (with_reducible apply within_foldl <;> [skip; intro _ _ _]) | split | extract_lets | (apply within_eq; with_reducible assumption) | dsimp -zeta only | ((with_reducible apply within_mk) <;> first | exact .inl Has.has | exact .inr rfl | skip))))

theorem modDrbg_within {F : Part → Prop} [Has F .krs] {s0 : State} (s : State) (k p : Nat) (f : Drbg → Drbg) (hk : Within F s0 s) : Within F s0 (modDrbg s k p f) :=
  modKr_within _ _ _ hk

theorem reseed_within {F : Part → Prop} [Has F .krs] {s0 : State} (s : State) (k p : Nat) (hk : Within F s0 s) : Within F s0 (reseed s k p) :=
  modDrbg_within _ _ _ _ hk

theorem drbgDraw_within {F : Part → Prop} [Has F .free] [Has F .krs] {s0 : State} (s : State) (k p n : Nat) (pr : Bool) (hk : Within F s0 s) : Within F s0 (drbgDraw s k p n pr).2 := by
  unfold drbgDraw
  iterate 60 (try (any_goals (first | with_reducible assumption | with_reducible apply within_ite | with_reducible apply within_ite_snd | with_reducible apply reseed_within | with_reducible apply modDrbg_within | (with_reducible apply within_foldl <;> [skip; intro _ _ _]) | split | extract_lets | (apply within_eq; with_reducible assumption) | dsimp -zeta only | ((with_reducible apply within_mk) <;> first | exact .inl Has.has | exact .inr rfl | skip))))

theorem execEngineJobComplete_within {F : Part → Prop} [Has F .regs] [Has F .mem] [Has F .poison] [Has F .threads] [Has F .cyls] [Has F .engs] [Has F .ks] [Has F .guard] [Has F .srcs] [Has F .arbs] [Has F .doms] [Has F .westad] [Has F .audit] [Has F .faults] [Has F .out] (e : Fin 144) (o : UnitOutcome) (s : State) : GoesIn F s (execEngineJobComplete e o s) :=
  ⟨_, rfl, completeJob_within _ _ _ (Within.refl s)⟩

/-! ### Dma -/

theorem modChan_within {F : Part → Prop} [Has F .dma] {s0 : State} (s : State) (c : Nat) (f : Chan → Chan) (hk : Within F s0 s) : Within F s0 (modChan s c f) := by
  unfold modChan
  iterate 60 (try (any_goals (first | with_reducible assumption | with_reducible apply within_ite | with_reducible apply within_ite_snd | (with_reducible apply within_foldl <;> [skip; intro _ _ _]) | split | extract_lets | (apply within_eq; with_reducible assumption) | dsimp -zeta only | ((with_reducible apply within_mk) <;> first | exact .inl Has.has | exact .inr rfl | skip))))

theorem chanKnock_within {F : Part → Prop} [Has F .regs] [Has F .threads] [Has F .srcs] {s0 : State} (s : State) (c : Nat) (hk : Within F s0 s) : Within F s0 (chanKnock s c) := by
  unfold chanKnock
  iterate 60 (try (any_goals (first | with_reducible assumption | with_reducible apply within_ite | with_reducible apply within_ite_snd | with_reducible apply raise_within | (with_reducible apply within_foldl <;> [skip; intro _ _ _]) | split | extract_lets | (apply within_eq; with_reducible assumption) | dsimp -zeta only | ((with_reducible apply within_mk) <;> first | exact .inl Has.has | exact .inr rfl | skip))))

theorem dmaFill_within {F : Part → Prop} [Has F .krs] [Has F .dmaTlb] {s0 : State} (s : State) (c va : Nat) (hk : Within F s0 s) : Within F s0 (dmaFill s c va) := by
  unfold dmaFill
  iterate 60 (try (any_goals (first | with_reducible assumption | with_reducible apply within_ite | with_reducible apply within_ite_snd | with_reducible apply modKr_within | (with_reducible apply within_foldl <;> [skip; intro _ _ _]) | split | extract_lets | (apply within_eq; with_reducible assumption) | dsimp -zeta only | ((with_reducible apply within_mk) <;> first | exact .inl Has.has | exact .inr rfl | skip))))

theorem pauseChan_within {F : Part → Prop} [Has F .regs] [Has F .threads] [Has F .dma] [Has F .srcs] {s0 : State} (s : State) (c va cause detail : Nat) (hk : Within F s0 s) : Within F s0 (pauseChan s c va cause detail) :=
  chanKnock_within _ _ (modChan_within _ _ _ hk)

theorem endChain_within {F : Part → Prop} [Has F .dma] {s0 : State} (s : State) (c last : Nat) (hk : Within F s0 s) : Within F s0 (endChain s c last) :=
  modChan_within _ _ _ hk

theorem statusIfOk_within {F : Part → Prop} [Has F .mem] [Has F .poison] [Has F .threads] {s0 : State} (s : State) (c st : Nat) (hk : Within F s0 s) : Within F s0 (statusIfOk s c st) := by
  unfold statusIfOk
  iterate 60 (try (any_goals (first | with_reducible assumption | with_reducible apply within_ite | with_reducible apply within_ite_snd | with_reducible apply storePieces_within | (with_reducible apply within_foldl <;> [skip; intro _ _ _]) | split | extract_lets | (apply within_eq; with_reducible assumption) | dsimp -zeta only | ((with_reducible apply within_mk) <;> first | exact .inl Has.has | exact .inr rfl | skip))))

theorem badDesc_within {F : Part → Prop} [Has F .regs] [Has F .mem] [Has F .poison] [Has F .threads] [Has F .dma] [Has F .srcs] {s0 : State} (s : State) (c : Nat) (hk : Within F s0 s) : Within F s0 (badDesc s c) :=
  chanKnock_within _ _ (endChain_within _ _ _ (statusIfOk_within _ _ _ hk))

theorem loadDesc_within {F : Part → Prop} [Has F .regs] [Has F .mem] [Has F .poison] [Has F .threads] [Has F .krs] [Has F .dmaTlb] [Has F .dma] [Has F .srcs] {s0 : State} (s : State) (c : Nat) (hk : Within F s0 s) : Within F s0 (loadDesc s c) := by
  unfold loadDesc
  iterate 60 (try (any_goals (first | with_reducible assumption | with_reducible apply within_ite | with_reducible apply within_ite_snd | with_reducible apply badDesc_within | with_reducible apply pauseChan_within | with_reducible apply dmaFill_within | with_reducible apply modChan_within | (with_reducible apply within_foldl <;> [skip; intro _ _ _]) | split | extract_lets | (apply within_eq; with_reducible assumption) | dsimp -zeta only | ((with_reducible apply within_mk) <;> first | exact .inl Has.has | exact .inr rfl | skip))))

theorem completeDesc_within {F : Part → Prop} [Has F .regs] [Has F .mem] [Has F .poison] [Has F .threads] [Has F .krs] [Has F .dmaTlb] [Has F .dma] [Has F .srcs] {s0 : State} (s : State) (c : Nat) (hk : Within F s0 s) : Within F s0 (completeDesc s c) := by
  unfold completeDesc
  iterate 60 (try (any_goals (first | with_reducible assumption | with_reducible apply within_ite | with_reducible apply within_ite_snd | with_reducible apply loadDesc_within | with_reducible apply endChain_within | with_reducible apply pauseChan_within | with_reducible apply dmaFill_within | with_reducible apply chanKnock_within | with_reducible apply modChan_within | with_reducible apply storePieces_within | with_reducible apply errKnock_within | with_reducible apply bump_within | (with_reducible apply within_foldl <;> [skip; intro _ _ _]) | split | extract_lets | (apply within_eq; with_reducible assumption) | dsimp -zeta only | ((with_reducible apply within_mk) <;> first | exact .inl Has.has | exact .inr rfl | skip))))

theorem moveChunk_within {F : Part → Prop} [Has F .regs] [Has F .mem] [Has F .poison] [Has F .threads] [Has F .krs] [Has F .dmaTlb] [Has F .dma] [Has F .srcs] {s0 : State} (s : State) (c : Nat) (d : DmaDesc) (hk : Within F s0 s) : Within F s0 (moveChunk s c d) := by
  unfold moveChunk
  iterate 60 (try (any_goals (first | with_reducible assumption | with_reducible apply within_ite | with_reducible apply within_ite_snd | with_reducible apply pauseChan_within | with_reducible apply dmaFill_within | with_reducible apply modChan_within | with_reducible apply storePieces_within | (with_reducible apply within_foldl <;> [skip; intro _ _ _]) | split | extract_lets | (apply within_eq; with_reducible assumption) | dsimp -zeta only | ((with_reducible apply within_mk) <;> first | exact .inl Has.has | exact .inr rfl | skip))))

theorem dmaStep_within {F : Part → Prop} [Has F .regs] [Has F .mem] [Has F .poison] [Has F .threads] [Has F .krs] [Has F .dmaTlb] [Has F .dma] [Has F .dmaLast] [Has F .srcs] {s0 : State} (s : State) (c : Nat) (hk : Within F s0 s) : Within F s0 (dmaStep s c) := by
  unfold dmaStep
  iterate 60 (try (any_goals (first | with_reducible assumption | with_reducible apply within_ite | with_reducible apply within_ite_snd | with_reducible apply moveChunk_within | with_reducible apply completeDesc_within | with_reducible apply loadDesc_within | (with_reducible apply within_foldl <;> [skip; intro _ _ _]) | split | extract_lets | (apply within_eq; with_reducible assumption) | dsimp -zeta only | ((with_reducible apply within_mk) <;> first | exact .inl Has.has | exact .inr rfl | skip))))

theorem dmaHeadWrite_within {F : Part → Prop} [Has F .regs] [Has F .mem] [Has F .poison] [Has F .threads] [Has F .krs] [Has F .dmaTlb] [Has F .dma] [Has F .srcs] {s0 : State} (s : State) (p c : Nat) (v : Word) (hk : Within F s0 s) : Within F s0 (dmaHeadWrite s p c v) := by
  unfold dmaHeadWrite
  iterate 60 (try (any_goals (first | with_reducible assumption | with_reducible apply within_ite | with_reducible apply within_ite_snd | with_reducible apply completeDesc_within | with_reducible apply loadDesc_within | with_reducible apply modChan_within | with_reducible apply plainWrite_within | with_reducible apply setBits_within | (with_reducible apply within_foldl <;> [skip; intro _ _ _]) | split | extract_lets | (apply within_eq; with_reducible assumption) | dsimp -zeta only | ((with_reducible apply within_mk) <;> first | exact .inl Has.has | exact .inr rfl | skip))))

theorem dmaResumeWrite_within {F : Part → Prop} [Has F .regs] [Has F .mem] [Has F .poison] [Has F .threads] [Has F .krs] [Has F .dmaTlb] [Has F .dma] [Has F .srcs] {s0 : State} (s : State) (p c : Nat) (hk : Within F s0 s) : Within F s0 (dmaResumeWrite s p c) := by
  unfold dmaResumeWrite
  iterate 60 (try (any_goals (first | with_reducible assumption | with_reducible apply within_ite | with_reducible apply within_ite_snd | with_reducible apply completeDesc_within | with_reducible apply loadDesc_within | with_reducible apply modChan_within | (with_reducible apply within_foldl <;> [skip; intro _ _ _]) | split | extract_lets | (apply within_eq; with_reducible assumption) | dsimp -zeta only | ((with_reducible apply within_mk) <;> first | exact .inl Has.has | exact .inr rfl | skip))))

theorem abortChan_within {F : Part → Prop} [Has F .mem] [Has F .poison] [Has F .threads] [Has F .dma] {s0 : State} (s : State) (c : Nat) (hk : Within F s0 s) : Within F s0 (abortChan s c) :=
  within_ite hk (modChan_within _ _ _ (endChain_within _ _ _ (statusIfOk_within _ _ _ hk)))

theorem dmaAbortWrite_within {F : Part → Prop} [Has F .mem] [Has F .poison] [Has F .threads] [Has F .dma] {s0 : State} (s : State) (p c : Nat) (hk : Within F s0 s) : Within F s0 (dmaAbortWrite s p c) :=
  within_ite hk (abortChan_within _ _ hk)

theorem dmaCtlWrite_within {F : Part → Prop} [Has F .regs] [Has F .mem] [Has F .poison] [Has F .threads] [Has F .krs] [Has F .dmaTlb] [Has F .dma] [Has F .srcs] {s0 : State} (s : State) (p c : Nat) (v : Word) (hk : Within F s0 s) : Within F s0 (dmaCtlWrite s p c v) := by
  unfold dmaCtlWrite
  iterate 60 (try (any_goals (first | with_reducible assumption | with_reducible apply within_ite | with_reducible apply within_ite_snd | with_reducible apply dmaAbortWrite_within | with_reducible apply dmaResumeWrite_within | with_reducible apply plainWrite_within | (with_reducible apply within_foldl <;> [skip; intro _ _ _]) | split | extract_lets | (apply within_eq; with_reducible assumption) | dsimp -zeta only | ((with_reducible apply within_mk) <;> first | exact .inl Has.has | exact .inr rfl | skip))))

theorem addInval_within {F : Part → Prop} [Has F .inval] {s0 : State} (s : State) (p : Nat) (va : Option Nat) (t : Option Nat) (hk : Within F s0 s) : Within F s0 (addInval s p va t) := by
  unfold addInval
  iterate 60 (try (any_goals (first | with_reducible assumption | with_reducible apply within_ite | with_reducible apply within_ite_snd | (with_reducible apply within_foldl <;> [skip; intro _ _ _]) | split | extract_lets | (apply within_eq; with_reducible assumption) | dsimp -zeta only | ((with_reducible apply within_mk) <;> first | exact .inl Has.has | exact .inr rfl | skip))))

theorem invalEffect_within {F : Part → Prop} [Has F .threads] [Has F .cyls] [Has F .krs] [Has F .dmaTlb] [Has F .inval] {s0 : State} (s : State) (p : Nat) (hk : Within F s0 s) : Within F s0 (invalEffect s p) := by
  unfold invalEffect
  iterate 60 (try (any_goals (first | with_reducible assumption | with_reducible apply within_ite | with_reducible apply within_ite_snd | with_reducible apply settle_within | with_reducible apply tlbDrop_within | (with_reducible apply within_foldl <;> [skip; intro _ _ _]) | split | extract_lets | (apply within_eq; with_reducible assumption) | dsimp -zeta only | ((with_reducible apply within_mk) <;> first | exact .inl Has.has | exact .inr rfl | skip))))

theorem ptrootWrite_within {F : Part → Prop} [Has F .regs] [Has F .inval] {s0 : State} (s : State) (p : Nat) (v : Word) (t : Option Nat) (hk : Within F s0 s) : Within F s0 (ptrootWrite s p v t) := by
  unfold ptrootWrite
  iterate 60 (try (any_goals (first | with_reducible assumption | with_reducible apply within_ite | with_reducible apply within_ite_snd | with_reducible apply addInval_within | with_reducible apply plainWrite_within | (with_reducible apply within_foldl <;> [skip; intro _ _ _]) | split | extract_lets | (apply within_eq; with_reducible assumption) | dsimp -zeta only | ((with_reducible apply within_mk) <;> first | exact .inl Has.has | exact .inr rfl | skip))))

theorem execDmaHead_within {F : Part → Prop} [Has F .regs] [Has F .mem] [Has F .poison] [Has F .threads] [Has F .krs] [Has F .dmaTlb] [Has F .dma] [Has F .srcs] (p : Fin 256) (c : Fin 512) (v : Word) (s : State) : GoesIn F s (execDmaHead p c v s) :=
  ⟨_, rfl, dmaHeadWrite_within _ _ _ _ (Within.refl s)⟩

theorem execDmaResume_within {F : Part → Prop} [Has F .regs] [Has F .mem] [Has F .poison] [Has F .threads] [Has F .krs] [Has F .dmaTlb] [Has F .dma] [Has F .srcs] (p : Fin 256) (c : Fin 512) (s : State) : GoesIn F s (execDmaResume p c s) :=
  ⟨_, rfl, dmaResumeWrite_within _ _ _ (Within.refl s)⟩

theorem execDmaAbort_within {F : Part → Prop} [Has F .mem] [Has F .poison] [Has F .threads] [Has F .dma] (p : Fin 256) (c : Fin 512) (s : State) : GoesIn F s (execDmaAbort p c s) :=
  ⟨_, rfl, dmaAbortWrite_within _ _ _ (Within.refl s)⟩

theorem execDmaChunk_within {F : Part → Prop} [Has F .regs] [Has F .mem] [Has F .poison] [Has F .threads] [Has F .krs] [Has F .dmaTlb] [Has F .dma] [Has F .dmaLast] [Has F .srcs] (c : Fin 512) (s : State) : GoesIn F s (execDmaChunk c s) :=
  ⟨_, rfl, dmaStep_within _ _ (Within.refl s)⟩

theorem execTlbinvPage_within {F : Part → Prop} [Has F .inval] (p : Fin 256) (va : BitVec 56) (s : State) : GoesIn F s (execTlbinvPage p va s) :=
  ⟨_, rfl, addInval_within _ _ _ _ (Within.refl s)⟩

theorem execTlbinvAll_within {F : Part → Prop} [Has F .inval] (p : Fin 256) (s : State) : GoesIn F s (execTlbinvAll p s) :=
  ⟨_, rfl, addInval_within _ _ _ _ (Within.refl s)⟩

theorem execTlbinvComplete_within {F : Part → Prop} [Has F .threads] [Has F .cyls] [Has F .krs] [Has F .dmaTlb] [Has F .inval] (p : Fin 256) (s : State) : GoesIn F s (execTlbinvComplete p s) :=
  ⟨_, rfl, invalEffect_within _ _ (Within.refl s)⟩

theorem execCylPtroot_within {F : Part → Prop} [Has F .regs] [Has F .inval] (p : Fin 256) (v : Word) (s : State) : GoesIn F s (execCylPtroot p v s) :=
  ⟨_, rfl, ptrootWrite_within _ _ _ _ (Within.refl s)⟩

/-! ### Turns -/

theorem modPlane_within {F : Part → Prop} [Has F .turns] {s0 : State} (s : State) (p : Nat) (f : Plane → Plane) (hk : Within F s0 s) : Within F s0 (modPlane s p f) := by
  unfold modPlane
  iterate 60 (try (any_goals (first | with_reducible assumption | with_reducible apply within_ite | with_reducible apply within_ite_snd | (with_reducible apply within_foldl <;> [skip; intro _ _ _]) | split | extract_lets | (apply within_eq; with_reducible assumption) | dsimp -zeta only | ((with_reducible apply within_mk) <;> first | exact .inl Has.has | exact .inr rfl | skip))))

theorem turnDeltaWrite_within {F : Part → Prop} [Has F .turns] {s0 : State} (s : State) (p : Nat) (va : VAddr) (hk : Within F s0 s) : Within F s0 (turnDeltaWrite s p va) := by
  unfold turnDeltaWrite
  iterate 60 (try (any_goals (first | with_reducible assumption | with_reducible apply within_ite | with_reducible apply within_ite_snd | with_reducible apply modPlane_within | (with_reducible apply within_foldl <;> [skip; intro _ _ _]) | split | extract_lets | (apply within_eq; with_reducible assumption) | dsimp -zeta only | ((with_reducible apply within_mk) <;> first | exact .inl Has.has | exact .inr rfl | skip))))

theorem deltaAudit_within {F : Part → Prop} [Has F .audit] {s0 : State} (s : State) (p code : Nat) (b : Bytes) (hk : Within F s0 s) : Within F s0 (deltaAudit s p code b) := by
  unfold deltaAudit
  iterate 60 (try (any_goals (first | with_reducible assumption | with_reducible apply within_ite | with_reducible apply within_ite_snd | with_reducible apply audit_within | (with_reducible apply within_foldl <;> [skip; intro _ _ _]) | split | extract_lets | (apply within_eq; with_reducible assumption) | dsimp -zeta only | ((with_reducible apply within_mk) <;> first | exact .inl Has.has | exact .inr rfl | skip))))

theorem closeIfDue_within {F : Part → Prop} [Has F .turns] {s0 : State} (s : State) (p : Nat) (hk : Within F s0 s) : Within F s0 (closeIfDue s p) :=
  within_ite (modPlane_within _ _ _ hk) hk

theorem deltaVerified_within {F : Part → Prop} [Has F .turns] [Has F .audit] {s0 : State} (s : State) (p : Nat) (hk : Within F s0 s) : Within F s0 (deltaVerified s p) := by
  unfold deltaVerified
  iterate 60 (try (any_goals (first | with_reducible assumption | with_reducible apply within_ite | with_reducible apply within_ite_snd | with_reducible apply closeIfDue_within | with_reducible apply deltaAudit_within | with_reducible apply modPlane_within | (with_reducible apply within_foldl <;> [skip; intro _ _ _]) | split | extract_lets | (apply within_eq; with_reducible assumption) | dsimp -zeta only | ((with_reducible apply within_mk) <;> first | exact .inl Has.has | exact .inr rfl | skip))))

theorem turnSetWrite_within {F : Part → Prop} [Has F .ks] [Has F .turns] [Has F .arbs] [Has F .westad] [Has F .out] {s0 : State} (s : State) (p act : Nat) (hk : Within F s0 s) : Within F s0 (turnSetWrite s p act) := by
  unfold turnSetWrite
  iterate 60 (try (any_goals (first | with_reducible assumption | with_reducible apply within_ite | with_reducible apply within_ite_snd | with_reducible apply modPlane_within | with_reducible apply discardStaged_within | with_reducible apply sendAll_within | (with_reducible apply within_foldl <;> [skip; intro _ _ _]) | split | extract_lets | (apply within_eq; with_reducible assumption) | dsimp -zeta only | ((with_reducible apply within_mk) <;> first | exact .inl Has.has | exact .inr rfl | skip))))

theorem takeSets_within {F : Part → Prop} [Has F .ks] {s0 : State} (s : State) (hk : Within F s0 s) : Within F s0 (takeSets s).2.2.2 := by
  unfold takeSets
  iterate 60 (try (any_goals (first | with_reducible assumption | with_reducible apply within_ite | with_reducible apply within_ite_snd | (with_reducible apply within_foldl <;> [skip; intro _ _ _]) | split | extract_lets | (apply within_eq; with_reducible assumption) | dsimp -zeta only | ((with_reducible apply within_mk) <;> first | exact .inl Has.has | exact .inr rfl | skip))))

theorem untake_within {F : Part → Prop} [Has F .ks] {s0 : State} (s : State) (hk : Within F s0 s) : Within F s0 (untake s) := by
  unfold untake
  iterate 60 (try (any_goals (first | with_reducible assumption | with_reducible apply within_ite | with_reducible apply within_ite_snd | (with_reducible apply within_foldl <;> [skip; intro _ _ _]) | split | extract_lets | (apply within_eq; with_reducible assumption) | dsimp -zeta only | ((with_reducible apply within_mk) <;> first | exact .inl Has.has | exact .inr rfl | skip))))

theorem auditTurn_within {F : Part → Prop} [Has F .audit] [Has F .faults] {s0 : State} (s : State) (source : Nat) (t0 t1 : Bool) (ds : List Delta) (hk : Within F s0 s) : Within F s0 (auditTurn s source t0 t1 ds) := by
  unfold auditTurn
  iterate 60 (try (any_goals (first | with_reducible assumption | with_reducible apply within_ite | with_reducible apply within_ite_snd | with_reducible apply audit_within | (with_reducible apply within_foldl <;> [skip; intro _ _ _]) | split | extract_lets | (apply within_eq; with_reducible assumption) | dsimp -zeta only | ((with_reducible apply within_mk) <;> first | exact .inl Has.has | exact .inr rfl | skip))))

theorem startCommit_within {F : Part → Prop} [Has F .ks] [Has F .turns] [Has F .audit] [Has F .faults] {s0 : State} (s : State) (p : Nat) (hk : Within F s0 s) : Within F s0 (startCommit s p) := by
  unfold startCommit
  iterate 60 (try (any_goals (first | with_reducible assumption | with_reducible apply within_ite | with_reducible apply within_ite_snd | with_reducible apply auditTurn_within | with_reducible apply takeSets_within | with_reducible apply modPlane_within | (with_reducible apply within_foldl <;> [skip; intro _ _ _]) | split | extract_lets | (apply within_eq; with_reducible assumption) | dsimp -zeta only | ((with_reducible apply within_mk) <;> first | exact .inl Has.has | exact .inr rfl | skip))))

theorem nextCommit_within {F : Part → Prop} [Has F .ks] [Has F .turns] [Has F .audit] [Has F .faults] {s0 : State} (s : State) (hk : Within F s0 s) : Within F s0 (nextCommit s) := by
  unfold nextCommit
  iterate 60 (try (any_goals (first | with_reducible assumption | with_reducible apply within_ite | with_reducible apply within_ite_snd | with_reducible apply startCommit_within | (with_reducible apply within_foldl <;> [skip; intro _ _ _]) | split | extract_lets | (apply within_eq; with_reducible assumption) | dsimp -zeta only | ((with_reducible apply within_mk) <;> first | exact .inl Has.has | exact .inr rfl | skip))))

theorem turnCommitWrite_within {F : Part → Prop} [Has F .ks] [Has F .turns] [Has F .audit] [Has F .faults] {s0 : State} (s : State) (p : Nat) (hk : Within F s0 s) : Within F s0 (turnCommitWrite s p) := by
  unfold turnCommitWrite
  iterate 60 (try (any_goals (first | with_reducible assumption | with_reducible apply within_ite | with_reducible apply within_ite_snd | with_reducible apply startCommit_within | with_reducible apply modPlane_within | (with_reducible apply within_foldl <;> [skip; intro _ _ _]) | split | extract_lets | (apply within_eq; with_reducible assumption) | dsimp -zeta only | ((with_reducible apply within_mk) <;> first | exact .inl Has.has | exact .inr rfl | skip))))

theorem failCommit_within {F : Part → Prop} [Has F .ks] [Has F .turns] {s0 : State} (s : State) (last : Nat) (hk : Within F s0 s) : Within F s0 (failCommit s last) := by
  unfold failCommit
  iterate 60 (try (any_goals (first | with_reducible assumption | with_reducible apply within_ite | with_reducible apply within_ite_snd | with_reducible apply untake_within | with_reducible apply modPlane_within | (with_reducible apply within_foldl <;> [skip; intro _ _ _]) | split | extract_lets | (apply within_eq; with_reducible assumption) | dsimp -zeta only | ((with_reducible apply within_mk) <;> first | exact .inl Has.has | exact .inr rfl | skip))))

theorem discardOld_within {F : Part → Prop} [Has F .regs] [Has F .mem] [Has F .poison] [Has F .threads] [Has F .engs] [Has F .ks] [Has F .guard] [Has F .intake] [Has F .srcs] [Has F .arbs] [Has F .westad] [Has F .audit] [Has F .pins] [Has F .out] {s0 : State} (s : State) (hk : Within F s0 s) : Within F s0 (discardOld s) := by
  unfold discardOld
  iterate 60 (try (any_goals (first | with_reducible assumption | with_reducible apply within_ite | with_reducible apply within_ite_snd | with_reducible apply endJobs_within | with_reducible apply endCmds_within | (with_reducible apply within_foldl <;> [skip; intro _ _ _]) | split | extract_lets | (apply within_eq; with_reducible assumption) | dsimp -zeta only | ((with_reducible apply within_mk) <;> first | exact .inl Has.has | exact .inr rfl | skip))))

theorem drainMoving_within {F : Part → Prop} [Has F .regs] [Has F .mem] [Has F .poison] [Has F .threads] [Has F .cyls] [Has F .engs] [Has F .ks] [Has F .guard] [Has F .dma] [Has F .intake] [Has F .srcs] [Has F .arbs] [Has F .westad] [Has F .audit] [Has F .pins] [Has F .out] {s0 : State} (s : State) (hk : Within F s0 s) : Within F s0 (drainMoving s) := by
  unfold drainMoving
  iterate 60 (try (any_goals (first | with_reducible assumption | with_reducible apply within_ite | with_reducible apply within_ite_snd | with_reducible apply abortChan_within | with_reducible apply freezeNow_within | with_reducible apply interrupt_within | with_reducible apply staleThread_within | with_reducible apply staleCurrent_within | (with_reducible apply within_foldl <;> [skip; intro _ _ _]) | split | extract_lets | (apply within_eq; with_reducible assumption) | dsimp -zeta only | ((with_reducible apply within_mk) <;> first | exact .inl Has.has | exact .inr rfl | skip))))

theorem dropAbsent_within {F : Part → Prop} [Has F .free] [Has F .regs] [Has F .threads] [Has F .intake] [Has F .dbg] [Has F .audit] [Has F .pins] [Has F .out] {s0 : State} (s : State) (new : Keycut) (hk : Within F s0 s) : Within F s0 (dropAbsent s new) := by
  unfold dropAbsent
  iterate 60 (try (any_goals (first | with_reducible assumption | with_reducible apply within_ite | with_reducible apply within_ite_snd | with_reducible apply endDebug_within | with_reducible apply answerRelease_within | with_reducible apply modSess_within | with_reducible apply modCq_within | (with_reducible apply within_foldl <;> [skip; intro _ _ _]) | split | extract_lets | (apply within_eq; with_reducible assumption) | dsimp -zeta only | ((with_reducible apply within_mk) <;> first | exact .inl Has.has | exact .inr rfl | skip))))

theorem moveDrbgs_within {F : Part → Prop} [Has F .krs] {s0 : State} (s : State) (old new : Keycut) (hk : Within F s0 s) : Within F s0 (moveDrbgs s old new) := by
  unfold moveDrbgs
  iterate 60 (try (any_goals (first | with_reducible assumption | with_reducible apply within_ite | with_reducible apply within_ite_snd | with_reducible apply reseed_within | with_reducible apply modDrbg_within | (with_reducible apply within_foldl <;> [skip; intro _ _ _]) | split | extract_lets | (apply within_eq; with_reducible assumption) | dsimp -zeta only | ((with_reducible apply within_mk) <;> first | exact .inl Has.has | exact .inr rfl | skip))))

theorem movePages_within {F : Part → Prop} [Has F .mem] [Has F .poison] [Has F .cyls] [Has F .krs] [Has F .dmaTlb] {s0 : State} (s : State) (old new : Keycut) (hk : Within F s0 s) : Within F s0 (movePages s old new) := by
  unfold movePages
  iterate 60 (try (any_goals (first | with_reducible assumption | with_reducible apply within_ite | with_reducible apply within_ite_snd | with_reducible apply tlbDrop_within | with_reducible apply clearMem_within | (with_reducible apply within_foldl <;> [skip; intro _ _ _]) | split | extract_lets | (apply within_eq; with_reducible assumption) | dsimp -zeta only | ((with_reducible apply within_mk) <;> first | exact .inl Has.has | exact .inr rfl | skip))))

theorem moveBitsWays_within {F : Part → Prop} [Has F .krs] {s0 : State} (s : State) (old new : Keycut) (hk : Within F s0 s) : Within F s0 (moveBitsWays s old new) := by
  unfold moveBitsWays
  iterate 60 (try (any_goals (first | with_reducible assumption | with_reducible apply within_ite | with_reducible apply within_ite_snd | with_reducible apply modKr_within | (with_reducible apply within_foldl <;> [skip; intro _ _ _]) | split | extract_lets | (apply within_eq; with_reducible assumption) | dsimp -zeta only | ((with_reducible apply within_mk) <;> first | exact .inl Has.has | exact .inr rfl | skip))))

theorem judgeModes_within {F : Part → Prop} [Has F .cyls] {s0 : State} (s : State) (hk : Within F s0 s) : Within F s0 (judgeModes s) := by
  unfold judgeModes
  iterate 60 (try (any_goals (first | with_reducible assumption | with_reducible apply within_ite | with_reducible apply within_ite_snd | with_reducible apply modCyl_within | (with_reducible apply within_foldl <;> [skip; intro _ _ _]) | split | extract_lets | (apply within_eq; with_reducible assumption) | dsimp -zeta only | ((with_reducible apply within_mk) <;> first | exact .inl Has.has | exact .inr rfl | skip))))

theorem comePresent_within {F : Part → Prop} [Has F .free] [Has F .regs] [Has F .turns] [Has F .dramKeys] {s0 : State} (s : State) (p : Nat) (hk : Within F s0 s) : Within F s0 (comePresent s p) := by
  unfold comePresent
  iterate 60 (try (any_goals (first | with_reducible assumption | with_reducible apply within_ite | with_reducible apply within_ite_snd | with_reducible apply regSet_within | (with_reducible apply within_foldl <;> [skip; intro _ _ _]) | split | extract_lets | (apply within_eq; with_reducible assumption) | dsimp -zeta only | ((with_reducible apply within_mk) <;> first | exact .inl Has.has | exact .inr rfl | skip))))

theorem assignFree_within {F : Part → Prop} [Has F .regs] [Has F .mem] [Has F .poison] [Has F .threads] [Has F .engs] [Has F .ks] [Has F .guard] [Has F .intake] [Has F .turns] [Has F .srcs] [Has F .arbs] [Has F .westad] [Has F .audit] [Has F .pins] [Has F .out] {s0 : State} (s : State) (hk : Within F s0 s) : Within F s0 (assignFree s) := by
  unfold assignFree
  iterate 60 (try (any_goals (first | with_reducible assumption | with_reducible apply within_ite | with_reducible apply within_ite_snd | with_reducible apply clearQuad_within | (with_reducible apply within_foldl <;> [skip; intro _ _ _]) | split | extract_lets | (apply within_eq; with_reducible assumption) | dsimp -zeta only | ((with_reducible apply within_mk) <;> first | exact .inl Has.has | exact .inr rfl | skip))))

theorem moveQueuesDma_within {F : Part → Prop} [Has F .regs] [Has F .krs] {s0 : State} (s : State) (old new : Keycut) (ds : List Delta) (hk : Within F s0 s) : Within F s0 (moveQueuesDma s old new ds) := by
  unfold moveQueuesDma
  iterate 60 (try (any_goals (first | with_reducible assumption | with_reducible apply within_ite | with_reducible apply within_ite_snd | with_reducible apply modKr_within | with_reducible apply fldSet_within | (with_reducible apply within_foldl <;> [skip; intro _ _ _]) | split | extract_lets | (apply within_eq; with_reducible assumption) | dsimp -zeta only | ((with_reducible apply within_mk) <;> first | exact .inl Has.has | exact .inr rfl | skip))))

theorem moveSources_within {F : Part → Prop} [Has F .srcs] {s0 : State} (s : State) (old new : Keycut) (hk : Within F s0 s) : Within F s0 (moveSources s old new) := by
  unfold moveSources
  iterate 60 (try (any_goals (first | with_reducible assumption | with_reducible apply within_ite | with_reducible apply within_ite_snd | (with_reducible apply within_foldl <;> [skip; intro _ _ _]) | split | extract_lets | (apply within_eq; with_reducible assumption) | dsimp -zeta only | ((with_reducible apply within_mk) <;> first | exact .inl Has.has | exact .inr rfl | skip))))

theorem boundary_within {F : Part → Prop} [Has F .free] [Has F .regs] [Has F .mem] [Has F .poison] [Has F .threads] [Has F .cyls] [Has F .krs] [Has F .engs] [Has F .dmaTlb] [Has F .ks] [Has F .guard] [Has F .intake] [Has F .kc] [Has F .kcPrev] [Has F .turns] [Has F .srcs] [Has F .arbs] [Has F .doms] [Has F .westad] [Has F .dbg] [Has F .audit] [Has F .faults] [Has F .pins] [Has F .dramKeys] [Has F .out] {s0 : State} (s : State) (t0 t1 : Bool) (ds : List Delta) (hk : Within F s0 s) : Within F s0 (boundary s t0 t1 ds) := by
  unfold boundary
  iterate 60 (try (any_goals (first | with_reducible assumption | with_reducible apply within_ite | with_reducible apply within_ite_snd | with_reducible apply moveSources_within | with_reducible apply moveQueuesDma_within | with_reducible apply assignFree_within | with_reducible apply comePresent_within | with_reducible apply judgeModes_within | with_reducible apply moveBitsWays_within | with_reducible apply movePages_within | with_reducible apply moveDrbgs_within | with_reducible apply dropAbsent_within | with_reducible apply modPlane_within | with_reducible apply settle_within | with_reducible apply promoteTaken_within | with_reducible apply audit_within | (with_reducible apply within_foldl <;> [skip; intro _ _ _]) | split | extract_lets | (apply within_eq; with_reducible assumption) | dsimp -zeta only | ((with_reducible apply within_mk) <;> first | exact .inl Has.has | exact .inr rfl | skip))))

theorem commitBoundary_within {F : Part → Prop} [Has F .free] [Has F .regs] [Has F .mem] [Has F .poison] [Has F .threads] [Has F .cyls] [Has F .krs] [Has F .engs] [Has F .dmaTlb] [Has F .ks] [Has F .guard] [Has F .intake] [Has F .kc] [Has F .kcPrev] [Has F .turns] [Has F .srcs] [Has F .arbs] [Has F .doms] [Has F .westad] [Has F .dbg] [Has F .audit] [Has F .faults] [Has F .pins] [Has F .dramKeys] [Has F .out] {s0 : State} (s : State) (hk : Within F s0 s) : Within F s0 (commitBoundary s) := by
  unfold commitBoundary
  iterate 60 (try (any_goals (first | with_reducible assumption | with_reducible apply within_ite | with_reducible apply within_ite_snd | with_reducible apply boundary_within | with_reducible apply nextCommit_within | with_reducible apply modPlane_within | (with_reducible apply within_foldl <;> [skip; intro _ _ _]) | split | extract_lets | (apply within_eq; with_reducible assumption) | dsimp -zeta only | ((with_reducible apply within_mk) <;> first | exact .inl Has.has | exact .inr rfl | skip))))

theorem abandonCommit_within {F : Part → Prop} [Has F .ks] [Has F .turns] {s0 : State} (s : State) (hk : Within F s0 s) : Within F s0 (abandonCommit s) := by
  unfold abandonCommit
  iterate 60 (try (any_goals (first | with_reducible assumption | with_reducible apply within_ite | with_reducible apply within_ite_snd | with_reducible apply failCommit_within | with_reducible apply modPlane_within | (with_reducible apply within_foldl <;> [skip; intro _ _ _]) | split | extract_lets | (apply within_eq; with_reducible assumption) | dsimp -zeta only | ((with_reducible apply within_mk) <;> first | exact .inl Has.has | exact .inr rfl | skip))))

theorem blankResult_within {F : Part → Prop} [Has F .threads] [Has F .cyls] [Has F .engs] [Has F .doms] [Has F .faults] {s0 : State} (s : State) (t port : Nat) (v : Word) (late : Bool) (hk : Within F s0 s) : Within F s0 (blankResult s t port v late) := by
  unfold blankResult
  iterate 60 (try (any_goals (first | with_reducible assumption | with_reducible apply within_ite | with_reducible apply within_ite_snd | with_reducible apply settle_within | with_reducible apply report_within | with_reducible apply putThr_within | (with_reducible apply within_foldl <;> [skip; intro _ _ _]) | split | extract_lets | (apply within_eq; with_reducible assumption) | dsimp -zeta only | ((with_reducible apply within_mk) <;> first | exact .inl Has.has | exact .inr rfl | skip))))

theorem blankLoad_within {F : Part → Prop} [Has F .threads] [Has F .krs] {s0 : State} (s : State) (k : Nat) (hk : Within F s0 s) : Within F s0 (blankLoad s k) := by
  unfold blankLoad
  iterate 60 (try (any_goals (first | with_reducible assumption | with_reducible apply within_ite | with_reducible apply within_ite_snd | with_reducible apply settle_within | with_reducible apply modKr_within | with_reducible apply rawThr_within | (with_reducible apply within_foldl <;> [skip; intro _ _ _]) | split | extract_lets | (apply within_eq; with_reducible assumption) | dsimp -zeta only | ((with_reducible apply within_mk) <;> first | exact .inl Has.has | exact .inr rfl | skip))))

theorem execTurnDelta_within {F : Part → Prop} [Has F .turns] (p : Fin 256) (va : BitVec 56) (s : State) : GoesIn F s (execTurnDelta p va s) :=
  ⟨_, rfl, turnDeltaWrite_within _ _ _ (Within.refl s)⟩

theorem execDeltaVerifyDone_within {F : Part → Prop} [Has F .turns] [Has F .audit] (p : Fin 256) (s : State) : GoesIn F s (execDeltaVerifyDone p s) :=
  ⟨_, rfl, within_ite (Within.refl s) (deltaVerified_within _ _ (Within.refl s))⟩

theorem execTurnSetOpen_within {F : Part → Prop} [Has F .ks] [Has F .turns] [Has F .arbs] [Has F .westad] [Has F .out] (p : Fin 256) (s : State) : GoesIn F s (execTurnSetOpen p s) :=
  ⟨_, rfl, turnSetWrite_within _ _ _ (Within.refl s)⟩

theorem execTurnSetClose_within {F : Part → Prop} [Has F .ks] [Has F .turns] [Has F .arbs] [Has F .westad] [Has F .out] (p : Fin 256) (s : State) : GoesIn F s (execTurnSetClose p s) :=
  ⟨_, rfl, turnSetWrite_within _ _ _ (Within.refl s)⟩

theorem execTurnSetDiscard_within {F : Part → Prop} [Has F .ks] [Has F .turns] [Has F .arbs] [Has F .westad] [Has F .out] (p : Fin 256) (s : State) : GoesIn F s (execTurnSetDiscard p s) :=
  ⟨_, rfl, turnSetWrite_within _ _ _ (Within.refl s)⟩

theorem execTurnCommit_within {F : Part → Prop} [Has F .ks] [Has F .turns] [Has F .audit] [Has F .faults] (p : Fin 256) (s : State) : GoesIn F s (execTurnCommit p s) :=
  ⟨_, rfl, turnCommitWrite_within _ _ (Within.refl s)⟩

theorem execModeChangeToFree_within {F : Part → Prop} [Has F .cyls] (c : Fin 128) (s : State) : GoesIn F s (execModeChangeToFree c s) :=
  ⟨_, rfl, within_ite (modCyl_within _ _ _ (Within.refl s)) (Within.refl s)⟩

theorem execBlankResult_within {F : Part → Prop} [Has F .threads] [Has F .cyls] [Has F .engs] [Has F .doms] [Has F .faults] (t : Fin 2048) (port : Fin 64) (v : Word) (late : Bool) (s : State) : GoesIn F s (execBlankResult t port v late s) :=
  ⟨_, rfl, blankResult_within _ _ _ _ _ (Within.refl s)⟩

theorem execBlankScrub_within {F : Part → Prop} [Has F .threads] [Has F .cyls] [Has F .engs] [Has F .doms] [Has F .faults] (k : Fin 16) (mismatch : Bool) (s : State) : GoesIn F s (execBlankScrub k mismatch s) :=
  ⟨_, rfl, within_ite (report_within _ _ _ _ _ _ (Within.refl s)) (Within.refl s)⟩

theorem execBlankImageLoad_within {F : Part → Prop} [Has F .threads] [Has F .krs] (k : Fin 16) (s : State) : GoesIn F s (execBlankImageLoad k s) :=
  ⟨_, rfl, blankLoad_within _ _ (Within.refl s)⟩

/-! ### Agree -/

theorem putAgree_within {F : Part → Prop} [Has F .westad] {s0 : State} (s : State) (a : Option Agreement) (hk : Within F s0 s) : Within F s0 (putAgree s a) := by
  unfold putAgree
  iterate 60 (try (any_goals (first | with_reducible assumption | with_reducible apply within_ite | with_reducible apply within_ite_snd | (with_reducible apply within_foldl <;> [skip; intro _ _ _]) | split | extract_lets | (apply within_eq; with_reducible assumption) | dsimp -zeta only | ((with_reducible apply within_mk) <;> first | exact .inl Has.has | exact .inr rfl | skip))))

theorem putOutcome_within {F : Part → Prop} [Has F .westad] {s0 : State} (s : State) (turn o : Nat) (hk : Within F s0 s) : Within F s0 (putOutcome s turn o) := by
  unfold putOutcome
  iterate 60 (try (any_goals (first | with_reducible assumption | with_reducible apply within_ite | with_reducible apply within_ite_snd | (with_reducible apply within_foldl <;> [skip; intro _ _ _]) | split | extract_lets | (apply within_eq; with_reducible assumption) | dsimp -zeta only | ((with_reducible apply within_mk) <;> first | exact .inl Has.has | exact .inr rfl | skip))))

theorem sendEach_within {F : Part → Prop} [Has F .arbs] [Has F .westad] [Has F .out] {s0 : State} (s : State) (ms : List Nat) (mtype : Nat) (body : Bytes) (hk : Within F s0 s) : Within F s0 (sendEach s ms mtype body) := by
  unfold sendEach
  iterate 60 (try (any_goals (first | with_reducible assumption | with_reducible apply within_ite | with_reducible apply within_ite_snd | with_reducible apply sendMsg_within | (with_reducible apply within_foldl <;> [skip; intro _ _ _]) | split | extract_lets | (apply within_eq; with_reducible assumption) | dsimp -zeta only | ((with_reducible apply within_mk) <;> first | exact .inl Has.has | exact .inr rfl | skip))))

theorem received_within {F : Part → Prop} [Has F .arbs] [Has F .westad] [Has F .out] {s0 : State} (s : State) (m cls : Nat) (hk : Within F s0 s) : Within F s0 (received s m cls) :=
  sendAck_within _ _ _ (modPair_within _ _ _ hk)

theorem failAgreement_within {F : Part → Prop} [Has F .ks] [Has F .turns] [Has F .arbs] [Has F .westad] [Has F .audit] [Has F .faults] [Has F .out] {s0 : State} (s : State) (a : Agreement) (hk : Within F s0 s) : Within F s0 (failAgreement s a) := by
  unfold failAgreement
  iterate 60 (try (any_goals (first | with_reducible assumption | with_reducible apply within_ite | with_reducible apply within_ite_snd | with_reducible apply sendEach_within | with_reducible apply putOutcome_within | with_reducible apply putAgree_within | with_reducible apply failCommit_within | with_reducible apply nextCommit_within | (with_reducible apply within_foldl <;> [skip; intro _ _ _]) | split | extract_lets | (apply within_eq; with_reducible assumption) | dsimp -zeta only | ((with_reducible apply within_mk) <;> first | exact .inl Has.has | exact .inr rfl | skip))))

theorem drainEnds_within {F : Part → Prop} [Has F .free] [Has F .regs] [Has F .mem] [Has F .poison] [Has F .threads] [Has F .cyls] [Has F .krs] [Has F .engs] [Has F .dmaTlb] [Has F .ks] [Has F .guard] [Has F .intake] [Has F .kc] [Has F .kcPrev] [Has F .turns] [Has F .srcs] [Has F .arbs] [Has F .doms] [Has F .westad] [Has F .dbg] [Has F .audit] [Has F .faults] [Has F .pins] [Has F .dramKeys] [Has F .out] {s0 : State} (s : State) (c : Commit) (hk : Within F s0 s) : Within F s0 (drainEnds s c) := by
  unfold drainEnds
  iterate 60 (try (any_goals (first | with_reducible assumption | with_reducible apply within_ite | with_reducible apply within_ite_snd | with_reducible apply sendEach_within | with_reducible apply putAgree_within | with_reducible apply commitBoundary_within | with_reducible apply modPlane_within | (with_reducible apply within_foldl <;> [skip; intro _ _ _]) | split | extract_lets | (apply within_eq; with_reducible assumption) | dsimp -zeta only | ((with_reducible apply within_mk) <;> first | exact .inl Has.has | exact .inr rfl | skip))))

theorem castVote_within {F : Part → Prop} [Has F .free] [Has F .ks] [Has F .arbs] [Has F .westad] [Has F .out] {s0 : State} (s : State) (a : Agreement) (hk : Within F s0 s) : Within F s0 (castVote s a) := by
  unfold castVote
  iterate 60 (try (any_goals (first | with_reducible assumption | with_reducible apply within_ite | with_reducible apply within_ite_snd | with_reducible apply putAgree_within | with_reducible apply untake_within | with_reducible apply sendMsg_within | with_reducible apply freeWord_within | (with_reducible apply within_foldl <;> [skip; intro _ _ _]) | split | extract_lets | (apply within_eq; with_reducible assumption) | dsimp -zeta only | ((with_reducible apply within_mk) <;> first | exact .inl Has.has | exact .inr rfl | skip))))

theorem voteNo_within {F : Part → Prop} [Has F .free] [Has F .arbs] [Has F .westad] [Has F .out] {s0 : State} (s : State) (m turn : Nat) (hk : Within F s0 s) : Within F s0 (voteNo s m turn) := by
  unfold voteNo
  iterate 60 (try (any_goals (first | with_reducible assumption | with_reducible apply within_ite | with_reducible apply within_ite_snd | with_reducible apply sendMsg_within | with_reducible apply freeWord_within | (with_reducible apply within_foldl <;> [skip; intro _ _ _]) | split | extract_lets | (apply within_eq; with_reducible assumption) | dsimp -zeta only | ((with_reducible apply within_mk) <;> first | exact .inl Has.has | exact .inr rfl | skip))))

theorem takeUp_within {F : Part → Prop} [Has F .free] [Has F .ks] [Has F .arbs] [Has F .westad] [Has F .out] {s0 : State} (s : State) (m turn : Nat) (k e : Bytes) (hk : Within F s0 s) : Within F s0 (takeUp s m turn k e) := by
  unfold takeUp
  iterate 60 (try (any_goals (first | with_reducible assumption | with_reducible apply within_ite | with_reducible apply within_ite_snd | with_reducible apply castVote_within | with_reducible apply putAgree_within | with_reducible apply takeSets_within | (with_reducible apply within_foldl <;> [skip; intro _ _ _]) | split | extract_lets | (apply within_eq; with_reducible assumption) | dsimp -zeta only | ((with_reducible apply within_mk) <;> first | exact .inl Has.has | exact .inr rfl | skip))))

theorem proposed_within {F : Part → Prop} [Has F .free] [Has F .ks] [Has F .turns] [Has F .arbs] [Has F .westad] [Has F .out] {s0 : State} (s : State) (m turn : Nat) (k e : Bytes) (hk : Within F s0 s) : Within F s0 (proposed s m turn k e) := by
  unfold proposed
  iterate 60 (try (any_goals (first | with_reducible assumption | with_reducible apply within_ite | with_reducible apply within_ite_snd | with_reducible apply takeUp_within | with_reducible apply voteNo_within | with_reducible apply sendEach_within | with_reducible apply putAgree_within | with_reducible apply failCommit_within | (with_reducible apply within_foldl <;> [skip; intro _ _ _]) | split | extract_lets | (apply within_eq; with_reducible assumption) | dsimp -zeta only | ((with_reducible apply within_mk) <;> first | exact .inl Has.has | exact .inr rfl | skip))))

theorem applyAgreed_within {F : Part → Prop} [Has F .free] [Has F .regs] [Has F .mem] [Has F .poison] [Has F .threads] [Has F .cyls] [Has F .krs] [Has F .engs] [Has F .dmaTlb] [Has F .ks] [Has F .guard] [Has F .intake] [Has F .kc] [Has F .kcPrev] [Has F .turns] [Has F .srcs] [Has F .arbs] [Has F .doms] [Has F .westad] [Has F .dbg] [Has F .audit] [Has F .faults] [Has F .pins] [Has F .dramKeys] [Has F .out] {s0 : State} (s : State) (a : Agreement) (hk : Within F s0 s) : Within F s0 (applyAgreed s a) := by
  unfold applyAgreed
  iterate 60 (try (any_goals (first | with_reducible assumption | with_reducible apply within_ite | with_reducible apply within_ite_snd | with_reducible apply putOutcome_within | with_reducible apply putAgree_within | with_reducible apply boundary_within | with_reducible apply nextCommit_within | with_reducible apply auditTurn_within | with_reducible apply sendMsg_within | (with_reducible apply within_foldl <;> [skip; intro _ _ _]) | split | extract_lets | (apply within_eq; with_reducible assumption) | dsimp -zeta only | ((with_reducible apply within_mk) <;> first | exact .inl Has.has | exact .inr rfl | skip))))

theorem abortAgreed_within {F : Part → Prop} [Has F .ks] [Has F .turns] [Has F .westad] [Has F .audit] [Has F .faults] {s0 : State} (s : State) (a : Agreement) (hk : Within F s0 s) : Within F s0 (abortAgreed s a) :=
  nextCommit_within _ (putAgree_within _ _ (untake_within _ (putOutcome_within _ _ _ hk)))

theorem countVote_within {F : Part → Prop} [Has F .ks] [Has F .turns] [Has F .arbs] [Has F .westad] [Has F .audit] [Has F .faults] [Has F .out] {s0 : State} (s : State) (m turn : Nat) (yes : Bool) (hk : Within F s0 s) : Within F s0 (countVote s m turn yes) := by
  unfold countVote
  iterate 60 (try (any_goals (first | with_reducible assumption | with_reducible apply within_ite | with_reducible apply within_ite_snd | with_reducible apply failAgreement_within | with_reducible apply sendEach_within | with_reducible apply putAgree_within | with_reducible apply modPlane_within | (with_reducible apply within_foldl <;> [skip; intro _ _ _]) | split | extract_lets | (apply within_eq; with_reducible assumption) | dsimp -zeta only | ((with_reducible apply within_mk) <;> first | exact .inl Has.has | exact .inr rfl | skip))))

theorem countDone_within {F : Part → Prop} [Has F .free] [Has F .regs] [Has F .mem] [Has F .poison] [Has F .threads] [Has F .cyls] [Has F .krs] [Has F .engs] [Has F .dmaTlb] [Has F .ks] [Has F .guard] [Has F .intake] [Has F .kc] [Has F .kcPrev] [Has F .turns] [Has F .srcs] [Has F .arbs] [Has F .doms] [Has F .westad] [Has F .dbg] [Has F .audit] [Has F .faults] [Has F .pins] [Has F .dramKeys] [Has F .out] {s0 : State} (s : State) (m turn : Nat) (hk : Within F s0 s) : Within F s0 (countDone s m turn) := by
  unfold countDone
  iterate 60 (try (any_goals (first | with_reducible assumption | with_reducible apply within_ite | with_reducible apply within_ite_snd | with_reducible apply putOutcome_within | with_reducible apply putAgree_within | with_reducible apply commitBoundary_within | (with_reducible apply within_foldl <;> [skip; intro _ _ _]) | split | extract_lets | (apply within_eq; with_reducible assumption) | dsimp -zeta only | ((with_reducible apply within_mk) <;> first | exact .inl Has.has | exact .inr rfl | skip))))

theorem learnState_within {F : Part → Prop} [Has F .free] [Has F .regs] [Has F .mem] [Has F .poison] [Has F .threads] [Has F .cyls] [Has F .krs] [Has F .engs] [Has F .dmaTlb] [Has F .ks] [Has F .guard] [Has F .intake] [Has F .kc] [Has F .kcPrev] [Has F .turns] [Has F .srcs] [Has F .arbs] [Has F .doms] [Has F .westad] [Has F .dbg] [Has F .audit] [Has F .faults] [Has F .pins] [Has F .dramKeys] [Has F .out] {s0 : State} (s : State) (m turn o : Nat) (hk : Within F s0 s) : Within F s0 (learnState s m turn o) := by
  unfold learnState
  iterate 60 (try (any_goals (first | with_reducible assumption | with_reducible apply within_ite | with_reducible apply within_ite_snd | with_reducible apply abortAgreed_within | with_reducible apply applyAgreed_within | with_reducible apply putAgree_within | (with_reducible apply within_foldl <;> [skip; intro _ _ _]) | split | extract_lets | (apply within_eq; with_reducible assumption) | dsimp -zeta only | ((with_reducible apply within_mk) <;> first | exact .inl Has.has | exact .inr rfl | skip))))

theorem turnDrains_within {F : Part → Prop} [Has F .free] [Has F .regs] [Has F .mem] [Has F .poison] [Has F .threads] [Has F .cyls] [Has F .krs] [Has F .engs] [Has F .dmaTlb] [Has F .ks] [Has F .guard] [Has F .intake] [Has F .kc] [Has F .kcPrev] [Has F .turns] [Has F .srcs] [Has F .arbs] [Has F .doms] [Has F .westad] [Has F .dbg] [Has F .audit] [Has F .faults] [Has F .pins] [Has F .dramKeys] [Has F .out] {s0 : State} (s : State) (hk : Within F s0 s) : Within F s0 (turnDrains s) := by
  unfold turnDrains
  iterate 60 (try (any_goals (first | with_reducible assumption | with_reducible apply within_ite | with_reducible apply within_ite_snd | with_reducible apply castVote_within | with_reducible apply drainEnds_within | (with_reducible apply within_foldl <;> [skip; intro _ _ _]) | split | extract_lets | (apply within_eq; with_reducible assumption) | dsimp -zeta only | ((with_reducible apply within_mk) <;> first | exact .inl Has.has | exact .inr rfl | skip))))

theorem drainLimit_within {F : Part → Prop} [Has F .free] [Has F .regs] [Has F .mem] [Has F .poison] [Has F .threads] [Has F .cyls] [Has F .krs] [Has F .engs] [Has F .dmaTlb] [Has F .ks] [Has F .guard] [Has F .dma] [Has F .intake] [Has F .kc] [Has F .kcPrev] [Has F .turns] [Has F .srcs] [Has F .arbs] [Has F .doms] [Has F .westad] [Has F .dbg] [Has F .audit] [Has F .faults] [Has F .pins] [Has F .dramKeys] [Has F .out] {s0 : State} (s : State) (hk : Within F s0 s) : Within F s0 (drainLimit s) := by
  unfold drainLimit
  iterate 60 (try (any_goals (first | with_reducible assumption | with_reducible apply within_ite | with_reducible apply within_ite_snd | with_reducible apply turnDrains_within | with_reducible apply failAgreement_within | with_reducible apply drainMoving_within | with_reducible apply discardOld_within | (with_reducible apply within_foldl <;> [skip; intro _ _ _]) | split | extract_lets | (apply within_eq; with_reducible assumption) | dsimp -zeta only | ((with_reducible apply within_mk) <;> first | exact .inl Has.has | exact .inr rfl | skip))))

theorem onMessage_within {F : Part → Prop} [Has F .arbs] [Has F .westad] [Has F .out] {s0 : State} (s : State) (m cls : Nat) (f : State → State) (hf : ∀ s, Within F s0 s → Within F s0 (f s)) (hk : Within F s0 s) :
    Within F s0 (onMessage s m cls f) := by
  unfold onMessage
  exact within_ite (hf _ (received_within _ _ _ hk)) hk

theorem execQuery_within {F : Part → Prop} [Has F .arbs] [Has F .westad] [Has F .out] (m : Fin 8) (turn : Nat) (s : State) : GoesIn F s (execQuery m turn s) := by
  have hk : Within F s s := Within.refl s
  unfold execQuery
  (try extract_lets)
  refine ⟨_, rfl, ?_⟩
  iterate 30 (try (any_goals (first | with_reducible assumption | with_reducible apply within_ite | with_reducible apply onMessage_within | with_reducible apply sendMsg_within | (with_reducible apply within_foldl <;> [skip; intro _ _ _]) | intro _ _ | split | extract_lets | dsimp -zeta only | ((with_reducible apply within_mk) <;> first | exact .inl Has.has | exact .inr rfl | skip))))

theorem execVoteOutcomeTimeout_within {F : Part → Prop} [Has F .arbs] [Has F .westad] [Has F .out] (s : State) : GoesIn F s (execVoteOutcomeTimeout s) := by
  have hk : Within F s s := Within.refl s
  unfold execVoteOutcomeTimeout
  (try extract_lets)
  refine ⟨_, rfl, ?_⟩
  iterate 30 (try (any_goals (first | with_reducible assumption | with_reducible apply within_ite | with_reducible apply sendEach_within | with_reducible apply putAgree_within | (with_reducible apply within_foldl <;> [skip; intro _ _ _]) | intro _ _ | split | extract_lets | dsimp -zeta only | ((with_reducible apply within_mk) <;> first | exact .inl Has.has | exact .inr rfl | skip))))

/-! ### Intake -/

theorem takeToken_within {F : Part → Prop} [Has F .intake] {s0 : State} (s : State) (p c : Nat) (hk : Within F s0 s) : Within F s0 (takeToken s p c).2 := by
  unfold takeToken
  iterate 60 (try (any_goals (first | with_reducible assumption | with_reducible apply within_ite | with_reducible apply within_ite_snd | (with_reducible apply within_foldl <;> [skip; intro _ _ _]) | split | extract_lets | (apply within_eq; with_reducible assumption) | dsimp -zeta only | ((with_reducible apply within_mk) <;> first | exact .inl Has.has | exact .inr rfl | skip))))

theorem answerBusy_within {F : Part → Prop} [Has F .free] [Has F .regs] [Has F .intake] [Has F .pins] {s0 : State} (s : State) (a : Arriving) (tenant q : Nat) (hk : Within F s0 s) : Within F s0 (answerBusy s a tenant q) := by
  unfold answerBusy
  iterate 60 (try (any_goals (first | with_reducible assumption | with_reducible apply within_ite | with_reducible apply within_ite_snd | with_reducible apply storeResp_within | with_reducible apply freeWord_within | with_reducible apply bump_within | (with_reducible apply within_foldl <;> [skip; intro _ _ _]) | split | extract_lets | (apply within_eq; with_reducible assumption) | dsimp -zeta only | ((with_reducible apply within_mk) <;> first | exact .inl Has.has | exact .inr rfl | skip))))

theorem takeIn_within {F : Part → Prop} [Has F .free] [Has F .regs] [Has F .threads] [Has F .intake] [Has F .pins] [Has F .out] {s0 : State} (s : State) (a : Arriving) (hk : Within F s0 s) : Within F s0 (takeIn s a).2 := by
  unfold takeIn
  iterate 60 (try (any_goals (first | with_reducible assumption | with_reducible apply within_ite | with_reducible apply within_ite_snd | with_reducible apply answerBusy_within | with_reducible apply takeToken_within | with_reducible apply dropCmd_within | with_reducible apply judgeHigh_within | with_reducible apply modCq_within | (with_reducible apply within_foldl <;> [skip; intro _ _ _]) | split | extract_lets | (apply within_eq; with_reducible assumption) | dsimp -zeta only | ((with_reducible apply within_mk) <;> first | exact .inl Has.has | exact .inr rfl | skip))))

theorem arrive_within {F : Part → Prop} [Has F .free] [Has F .regs] [Has F .threads] [Has F .intake] [Has F .pins] [Has F .out] {s0 : State} (s : State) (a : Arriving) (lane : Nat) (mgmt pf0 : Bool) (own : Bool) (hk : Within F s0 s) : Within F s0 (arrive s a lane mgmt pf0 own).2 := by
  unfold arrive
  iterate 60 (try (any_goals (first | with_reducible assumption | with_reducible apply within_ite | with_reducible apply within_ite_snd | with_reducible apply takeIn_within | with_reducible apply bump_within | (with_reducible apply within_foldl <;> [skip; intro _ _ _]) | split | extract_lets | (apply within_eq; with_reducible assumption) | dsimp -zeta only | ((with_reducible apply within_mk) <;> first | exact .inl Has.has | exact .inr rfl | skip))))

theorem dispatchHead_within {F : Part → Prop} [Has F .regs] [Has F .threads] [Has F .cyls] [Has F .engs] [Has F .intake] [Has F .doms] [Has F .faults] [Has F .pins] [Has F .out] {s0 : State} (s : State) (q : Nat) (parity : Bool) (hk : Within F s0 s) : Within F s0 (dispatchHead s q parity) := by
  unfold dispatchHead
  iterate 60 (try (any_goals (first | with_reducible assumption | with_reducible apply within_ite | with_reducible apply within_ite_snd | with_reducible apply dropCmd_within | with_reducible apply freeLines_within | with_reducible apply modCq_within | with_reducible apply report_within | with_reducible apply wakeThr_within | with_reducible apply modThr_within | (with_reducible apply within_foldl <;> [skip; intro _ _ _]) | split | extract_lets | (apply within_eq; with_reducible assumption) | dsimp -zeta only | ((with_reducible apply within_mk) <;> first | exact .inl Has.has | exact .inr rfl | skip))))

theorem fallOne_within {F : Part → Prop} [Has F .regs] [Has F .threads] [Has F .intake] [Has F .pins] [Has F .out] {s0 : State} (s : State) (t : Nat) (hk : Within F s0 s) : Within F s0 (fallOne s t) := by
  unfold fallOne
  iterate 60 (try (any_goals (first | with_reducible assumption | with_reducible apply within_ite | with_reducible apply within_ite_snd | with_reducible apply answerRelease_within | with_reducible apply putThr_within | (with_reducible apply within_foldl <;> [skip; intro _ _ _]) | split | extract_lets | (apply within_eq; with_reducible assumption) | dsimp -zeta only | ((with_reducible apply within_mk) <;> first | exact .inl Has.has | exact .inr rfl | skip))))

theorem lateHead_within {F : Part → Prop} [Has F .regs] [Has F .intake] [Has F .pins] [Has F .out] {s0 : State} (s : State) (q : Nat) (hk : Within F s0 s) : Within F s0 (lateHead s q) := by
  unfold lateHead
  iterate 60 (try (any_goals (first | with_reducible assumption | with_reducible apply within_ite | with_reducible apply within_ite_snd | with_reducible apply answerRelease_within | with_reducible apply modCq_within | (with_reducible apply within_foldl <;> [skip; intro _ _ _]) | split | extract_lets | (apply within_eq; with_reducible assumption) | dsimp -zeta only | ((with_reducible apply within_mk) <;> first | exact .inl Has.has | exact .inr rfl | skip))))

theorem landBytes_within {F : Part → Prop} [Has F .mem] [Has F .poison] [Has F .threads] [Has F .krs] {s0 : State} (s : State) (t a : Nat) (b : Bytes) (hk : Within F s0 s) : Within F s0 (landBytes s t a b) := by
  unfold landBytes
  iterate 60 (try (any_goals (first | with_reducible assumption | with_reducible apply within_ite | with_reducible apply within_ite_snd | with_reducible apply storeUse_within | with_reducible apply storeAt_within | (with_reducible apply within_foldl <;> [skip; intro _ _ _]) | split | extract_lets | (apply within_eq; with_reducible assumption) | dsimp -zeta only | ((with_reducible apply within_mk) <;> first | exact .inl Has.has | exact .inr rfl | skip))))

theorem land_within {F : Part → Prop} [Has F .regs] [Has F .mem] [Has F .poison] [Has F .threads] [Has F .cyls] [Has F .krs] [Has F .engs] [Has F .intake] [Has F .doms] [Has F .faults] [Has F .pins] [Has F .out] {s0 : State} (s : State) (t : Nat) (bad : List Nat) (hk : Within F s0 s) : Within F s0 (land s t bad) := by
  unfold land
  iterate 60 (try (any_goals (first | with_reducible assumption | with_reducible apply within_ite | with_reducible apply within_ite_snd | with_reducible apply landBytes_within | with_reducible apply settle_within | with_reducible apply dropCmd_within | with_reducible apply freeLines_within | with_reducible apply report_within | with_reducible apply modThr_within | (with_reducible apply within_foldl <;> [skip; intro _ _ _]) | split | extract_lets | (apply within_eq; with_reducible assumption) | dsimp -zeta only | ((with_reducible apply within_mk) <;> first | exact .inl Has.has | exact .inr rfl | skip))))

theorem respond_within {F : Part → Prop} [Has F .regs] [Has F .intake] [Has F .pins] {s0 : State} (s : State) (t k : Nat) (hk : Within F s0 s) : Within F s0 (respond s t k) := by
  unfold respond
  iterate 60 (try (any_goals (first | with_reducible assumption | with_reducible apply within_ite | with_reducible apply within_ite_snd | with_reducible apply storeResp_within | with_reducible apply bump_within | (with_reducible apply within_foldl <;> [skip; intro _ _ _]) | split | extract_lets | (apply within_eq; with_reducible assumption) | dsimp -zeta only | ((with_reducible apply within_mk) <;> first | exact .inl Has.has | exact .inr rfl | skip))))

theorem queDone_within {F : Part → Prop} [Has F .regs] [Has F .threads] [Has F .intake] [Has F .pins] [Has F .out] {s0 : State} (s : State) (t act k : Nat) (hk : Within F s0 s) : Within F s0 (queDone s t act k) := by
  unfold queDone
  iterate 60 (try (any_goals (first | with_reducible assumption | with_reducible apply within_ite | with_reducible apply within_ite_snd | with_reducible apply respond_within | with_reducible apply rewindCmd_within | with_reducible apply releaseCmd_within | with_reducible apply bump_within | (with_reducible apply within_foldl <;> [skip; intro _ _ _]) | split | extract_lets | (apply within_eq; with_reducible assumption) | dsimp -zeta only | ((with_reducible apply within_mk) <;> first | exact .inl Has.has | exact .inr rfl | skip))))

theorem dropSession_within {F : Part → Prop} [Has F .intake] {s0 : State} (s : State) (n : Nat) (hk : Within F s0 s) : Within F s0 (dropSession s n) :=
  modSess_within _ _ _ hk

theorem sendFrame_within {F : Part → Prop} [Has F .intake] [Has F .out] {s0 : State} (s : State) (n ty : Nat) (cmdh body : Bytes) (hk : Within F s0 s) : Within F s0 (sendFrame s n ty cmdh body) := by
  unfold sendFrame
  iterate 60 (try (any_goals (first | with_reducible assumption | with_reducible apply within_ite | with_reducible apply within_ite_snd | with_reducible apply dropSession_within | with_reducible apply modSess_within | with_reducible apply emit_within | (with_reducible apply within_foldl <;> [skip; intro _ _ _]) | split | extract_lets | (apply within_eq; with_reducible assumption) | dsimp -zeta only | ((with_reducible apply within_mk) <;> first | exact .inl Has.has | exact .inr rfl | skip))))

theorem modRing_within {F : Part → Prop} [Has F .intake] {s0 : State} (s : State) (q : Nat) (f : Ring → Ring) (hk : Within F s0 s) : Within F s0 (modRing s q f) := by
  unfold modRing
  iterate 60 (try (any_goals (first | with_reducible assumption | with_reducible apply within_ite | with_reducible apply within_ite_snd | (with_reducible apply within_foldl <;> [skip; intro _ _ _]) | split | extract_lets | (apply within_eq; with_reducible assumption) | dsimp -zeta only | ((with_reducible apply within_mk) <;> first | exact .inl Has.has | exact .inr rfl | skip))))

theorem msixDue_within {F : Part → Prop} [Has F .intake] [Has F .linkPower] [Has F .out] {s0 : State} (s : State) (q : Nat) (hk : Within F s0 s) : Within F s0 (msixDue s q) := by
  unfold msixDue
  iterate 60 (try (any_goals (first | with_reducible assumption | with_reducible apply within_ite | with_reducible apply within_ite_snd | with_reducible apply modRing_within | with_reducible apply emit_within | (with_reducible apply within_foldl <;> [skip; intro _ _ _]) | split | extract_lets | (apply within_eq; with_reducible assumption) | dsimp -zeta only | ((with_reducible apply within_mk) <;> first | exact .inl Has.has | exact .inr rfl | skip))))

theorem countResponse_within {F : Part → Prop} [Has F .intake] [Has F .linkPower] [Has F .out] {s0 : State} (s : State) (q : Nat) (hk : Within F s0 s) : Within F s0 (countResponse s q) := by
  unfold countResponse
  iterate 60 (try (any_goals (first | with_reducible assumption | with_reducible apply within_ite | with_reducible apply within_ite_snd | with_reducible apply msixDue_within | with_reducible apply modRing_within | (with_reducible apply within_foldl <;> [skip; intro _ _ _]) | split | extract_lets | (apply within_eq; with_reducible assumption) | dsimp -zeta only | ((with_reducible apply within_mk) <;> first | exact .inl Has.has | exact .inr rfl | skip))))

theorem ringWrite_within {F : Part → Prop} [Has F .regs] [Has F .intake] [Has F .linkPower] [Has F .out] {s0 : State} (s : State) (q : Nat) (r : Resp) (bad : Bool) (hk : Within F s0 s) : Within F s0 (ringWrite s q r bad) := by
  unfold ringWrite
  iterate 60 (try (any_goals (first | with_reducible assumption | with_reducible apply within_ite | with_reducible apply within_ite_snd | with_reducible apply countResponse_within | with_reducible apply emit_within | with_reducible apply fldSet_within | (with_reducible apply within_foldl <;> [skip; intro _ _ _]) | split | extract_lets | (apply within_eq; with_reducible assumption) | dsimp -zeta only | ((with_reducible apply within_mk) <;> first | exact .inl Has.has | exact .inr rfl | skip))))

theorem sendHead_within {F : Part → Prop} [Has F .regs] [Has F .threads] [Has F .cyls] [Has F .engs] [Has F .intake] [Has F .doms] [Has F .faults] [Has F .pins] [Has F .linkPower] [Has F .out] {s0 : State} (s : State) (q : Nat) (parity : Bool) (hk : Within F s0 s) : Within F s0 (sendHead s q parity) := by
  unfold sendHead
  iterate 60 (try (any_goals (first | with_reducible assumption | with_reducible apply within_ite | with_reducible apply within_ite_snd | with_reducible apply ringWrite_within | with_reducible apply sendFrame_within | with_reducible apply setSmbAlert_within | with_reducible apply dropResp_within | with_reducible apply modRq_within | with_reducible apply report_within | with_reducible apply bump_within | (with_reducible apply within_foldl <;> [skip; intro _ _ _]) | split | extract_lets | (apply within_eq; with_reducible assumption) | dsimp -zeta only | ((with_reducible apply within_mk) <;> first | exact .inl Has.has | exact .inr rfl | skip))))

theorem moderationTimer_within {F : Part → Prop} [Has F .intake] [Has F .linkPower] [Has F .out] {s0 : State} (s : State) (q : Nat) (hk : Within F s0 s) : Within F s0 (moderationTimer s q) := by
  unfold moderationTimer
  iterate 60 (try (any_goals (first | with_reducible assumption | with_reducible apply within_ite | with_reducible apply within_ite_snd | with_reducible apply msixDue_within | (with_reducible apply within_foldl <;> [skip; intro _ _ _]) | split | extract_lets | (apply within_eq; with_reducible assumption) | dsimp -zeta only | ((with_reducible apply within_mk) <;> first | exact .inl Has.has | exact .inr rfl | skip))))

theorem crossPush_within {F : Part → Prop} [Has F .regs] [Has F .xq] {s0 : State} (s : State) (x : Nat) (w : Word) (last : Bool) (hk : Within F s0 s) : Within F s0 (crossPush s x w last) := by
  unfold crossPush
  iterate 60 (try (any_goals (first | with_reducible assumption | with_reducible apply within_ite | with_reducible apply within_ite_snd | with_reducible apply bump_within | (with_reducible apply within_foldl <;> [skip; intro _ _ _]) | split | extract_lets | (apply within_eq; with_reducible assumption) | dsimp -zeta only | ((with_reducible apply within_mk) <;> first | exact .inl Has.has | exact .inr rfl | skip))))

theorem crossPop_within {F : Part → Prop} [Has F .rdata] [Has F .xq] {s0 : State} (s : State) (x : Nat) (hk : Within F s0 s) : Within F s0 (crossPop s x) := by
  unfold crossPop
  iterate 60 (try (any_goals (first | with_reducible assumption | with_reducible apply within_ite | with_reducible apply within_ite_snd | (with_reducible apply within_foldl <;> [skip; intro _ _ _]) | split | extract_lets | (apply within_eq; with_reducible assumption) | dsimp -zeta only | ((with_reducible apply within_mk) <;> first | exact .inl Has.has | exact .inr rfl | skip))))

theorem modTlm_within {F : Part → Prop} [Has F .intake] {s0 : State} (s : State) (j : Nat) (f : TlmQueue → TlmQueue) (hk : Within F s0 s) : Within F s0 (modTlm s j f) := by
  unfold modTlm
  iterate 60 (try (any_goals (first | with_reducible assumption | with_reducible apply within_ite | with_reducible apply within_ite_snd | (with_reducible apply within_foldl <;> [skip; intro _ _ _]) | split | extract_lets | (apply within_eq; with_reducible assumption) | dsimp -zeta only | ((with_reducible apply within_mk) <;> first | exact .inl Has.has | exact .inr rfl | skip))))

theorem tlmItem_fresh_within {F : Part → Prop} [Has F .regs] [Has F .intake] {s0 : State} (j : Nat) (source : Byte) (words : List Word) (done : Bool) (s : State) (q : TlmQueue)
    (hk : Within F s0 s) : Within F s0 (tlmItem.fresh j source words done s q) := by
  unfold tlmItem.fresh
  extract_lets
  apply within_ite
  · exact modTlm_within _ _ _ hk
  · exact bump_within _ _ _ _ _ _ (modTlm_within _ _ _ hk)

theorem tlmItem_within {F : Part → Prop} [Has F .regs] [Has F .intake] {s0 : State} (s : State) (j : Nat) (source : Byte) (words : List Word) (done : Bool) (hk : Within F s0 s) : Within F s0 (tlmItem s j source words done) := by
  unfold tlmItem
  iterate 60 (try (any_goals (first | with_reducible assumption | with_reducible apply within_ite | with_reducible apply within_ite_snd | with_reducible apply tlmItem_fresh_within | with_reducible apply modTlm_within | with_reducible apply bump_within | (with_reducible apply within_foldl <;> [skip; intro _ _ _]) | dsimp only | split | (apply within_eq; with_reducible assumption) | dsimp -zeta only | ((with_reducible apply within_mk) <;> first | exact .inl Has.has | exact .inr rfl | skip))))

theorem tlmDrain_within {F : Part → Prop} [Has F .regs] [Has F .mem] [Has F .poison] [Has F .threads] [Has F .cyls] [Has F .engs] [Has F .intake] [Has F .doms] [Has F .faults] {s0 : State} (s : State) (j : Nat) (parity : Bool) (hk : Within F s0 s) : Within F s0 (tlmDrain s j parity) := by
  unfold tlmDrain
  iterate 60 (try (any_goals (first | with_reducible assumption | with_reducible apply within_ite | with_reducible apply within_ite_snd | with_reducible apply modTlm_within | with_reducible apply report_within | with_reducible apply storeAt_within | with_reducible apply fldSet_within | (with_reducible apply within_foldl <;> [skip; intro _ _ _]) | split | extract_lets | (apply within_eq; with_reducible assumption) | dsimp -zeta only | ((with_reducible apply within_mk) <;> first | exact .inl Has.has | exact .inr rfl | skip))))

theorem tlmFlush_within {F : Part → Prop} [Has F .regs] [Has F .intake] {s0 : State} (s : State) (p j : Nat) (hk : Within F s0 s) : Within F s0 (tlmFlush s p j) := by
  unfold tlmFlush
  iterate 60 (try (any_goals (first | with_reducible assumption | with_reducible apply within_ite | with_reducible apply within_ite_snd | with_reducible apply modTlm_within | with_reducible apply bump_within | (with_reducible apply within_foldl <;> [skip; intro _ _ _]) | split | extract_lets | (apply within_eq; with_reducible assumption) | dsimp -zeta only | ((with_reducible apply within_mk) <;> first | exact .inl Has.has | exact .inr rfl | skip))))

theorem execDispatch_within {F : Part → Prop} [Has F .regs] [Has F .threads] [Has F .cyls] [Has F .engs] [Has F .intake] [Has F .doms] [Has F .faults] [Has F .pins] [Has F .out] (q : Fin 1024) (parityError : Bool) (s : State) : GoesIn F s (execDispatch q parityError s) :=
  ⟨_, rfl, dispatchHead_within _ _ _ (Within.refl s)⟩

theorem execInboxFall_within {F : Part → Prop} [Has F .regs] [Has F .threads] [Has F .intake] [Has F .pins] [Has F .out] (t : Fin 2048) (s : State) : GoesIn F s (execInboxFall t s) :=
  ⟨_, rfl, fallOne_within _ _ (Within.refl s)⟩

theorem execLandingComplete_within {F : Part → Prop} [Has F .regs] [Has F .mem] [Has F .poison] [Has F .threads] [Has F .cyls] [Has F .krs] [Has F .engs] [Has F .intake] [Has F .doms] [Has F .faults] [Has F .pins] [Has F .out] (t : Fin 2048) (badWords : List Nat) (s : State) : GoesIn F s (execLandingComplete t badWords s) :=
  ⟨_, rfl, land_within _ _ _ (Within.refl s)⟩

theorem execDeadlineExpiry_within {F : Part → Prop} [Has F .regs] [Has F .intake] [Has F .pins] [Has F .out] (q : Fin 1024) (s : State) : GoesIn F s (execDeadlineExpiry q s) :=
  ⟨_, rfl, lateHead_within _ _ (Within.refl s)⟩

theorem execRelease_within {F : Part → Prop} [Has F .regs] [Has F .threads] [Has F .intake] [Has F .pins] [Has F .out] (t : Fin 2048) (s : State) : GoesIn F s (execRelease t s) :=
  ⟨_, rfl, queDone_within _ _ _ _ (Within.refl s)⟩

theorem execRewind_within {F : Part → Prop} [Has F .regs] [Has F .threads] [Has F .intake] [Has F .pins] [Has F .out] (t : Fin 2048) (s : State) : GoesIn F s (execRewind t s) :=
  ⟨_, rfl, queDone_within _ _ _ _ (Within.refl s)⟩

theorem execRespond_within {F : Part → Prop} [Has F .regs] [Has F .threads] [Has F .intake] [Has F .pins] [Has F .out] (t : Fin 2048) (k : Fin 4) (s : State) : GoesIn F s (execRespond t k s) :=
  ⟨_, rfl, queDone_within _ _ _ _ (Within.refl s)⟩

theorem execRespondAndRelease_within {F : Part → Prop} [Has F .regs] [Has F .threads] [Has F .intake] [Has F .pins] [Has F .out] (t : Fin 2048) (k : Fin 4) (s : State) : GoesIn F s (execRespondAndRelease t k s) :=
  ⟨_, rfl, queDone_within _ _ _ _ (Within.refl s)⟩

theorem execResponseSend_within {F : Part → Prop} [Has F .regs] [Has F .threads] [Has F .cyls] [Has F .engs] [Has F .intake] [Has F .doms] [Has F .faults] [Has F .pins] [Has F .linkPower] [Has F .out] (q : Fin 1024) (parityError : Bool) (s : State) : GoesIn F s (execResponseSend q parityError s) :=
  ⟨_, rfl, sendHead_within _ _ _ (Within.refl s)⟩

theorem execMsixModerationTimer_within {F : Part → Prop} [Has F .intake] [Has F .linkPower] [Has F .out] (q : Fin 1024) (s : State) : GoesIn F s (execMsixModerationTimer q s) :=
  ⟨_, rfl, moderationTimer_within _ _ (Within.refl s)⟩

theorem execHoldNMinLow_within {F : Part → Prop} [Has F .intake] [Has F .pins] (g : Fin 8) (s : State) : GoesIn F s (execHoldNMinLow g s) := by
  have hk : Within F s s := Within.refl s
  unfold execHoldNMinLow
  (try extract_lets)
  refine ⟨_, rfl, ?_⟩
  iterate 30 (try (any_goals (first | with_reducible assumption | with_reducible apply within_ite | with_reducible apply setHolds_within | (with_reducible apply within_foldl <;> [skip; intro _ _ _]) | intro _ _ | split | extract_lets | dsimp -zeta only | ((with_reducible apply within_mk) <;> first | exact .inl Has.has | exact .inr rfl | skip))))

theorem execPfcRefresh_within {F : Part → Prop} [Has F .threads] [Has F .cyls] [Has F .engs] [Has F .intake] [Has F .arbs] [Has F .pins] [Has F .out] (port : Fin 2) (prio : Option (Fin 8)) (s : State) : GoesIn F s (execPfcRefresh port prio s) := by
  have hk : Within F s s := Within.refl s
  unfold execPfcRefresh
  (try extract_lets)
  refine ⟨_, rfl, ?_⟩
  iterate 30 (try (any_goals (first | with_reducible assumption | with_reducible apply within_ite | with_reducible apply flow_within | with_reducible apply emit_within | (with_reducible apply within_foldl <;> [skip; intro _ _ _]) | intro _ _ | split | extract_lets | dsimp -zeta only | ((with_reducible apply within_mk) <;> first | exact .inl Has.has | exact .inr rfl | skip))))

theorem execCrossingPush_within {F : Part → Prop} [Has F .regs] [Has F .xq] (x : Fin 10) (w : Word) (lastOfFrame : Bool) (s : State) : GoesIn F s (execCrossingPush x w lastOfFrame s) :=
  ⟨_, rfl, crossPush_within _ _ _ _ (Within.refl s)⟩

theorem execCrossingPop_within {F : Part → Prop} [Has F .rdata] [Has F .xq] (x : Fin 10) (s : State) : GoesIn F s (execCrossingPop x s) :=
  ⟨_, rfl, crossPop_within _ _ (Within.refl s)⟩

theorem execTelemetryItem_within {F : Part → Prop} [Has F .regs] [Has F .intake] (j : Fin 16) (source : Byte) (words : List Word) (done : Bool) (s : State) : GoesIn F s (execTelemetryItem j source words done s) :=
  ⟨_, rfl, tlmItem_within _ _ _ _ _ (Within.refl s)⟩

theorem execTelemetryDrain_within {F : Part → Prop} [Has F .regs] [Has F .mem] [Has F .poison] [Has F .threads] [Has F .cyls] [Has F .engs] [Has F .intake] [Has F .doms] [Has F .faults] (j : Fin 16) (parityError : Bool) (s : State) : GoesIn F s (execTelemetryDrain j parityError s) :=
  ⟨_, rfl, tlmDrain_within _ _ _ (Within.refl s)⟩

theorem execQueTlmFlush_within {F : Part → Prop} [Has F .regs] [Has F .intake] (p : Fin 256) (j : Fin 16) (s : State) : GoesIn F s (execQueTlmFlush p j s) :=
  ⟨_, rfl, tlmFlush_within _ _ _ (Within.refl s)⟩

theorem execQueTcons_within {F : Part → Prop} [Has F .regs] (p : Fin 256) (j : Fin 16) (v : Word) (s : State) : GoesIn F s (execQueTcons p j v s) :=
  ⟨_, rfl, within_ite (plainWrite_within _ _ _ _ (Within.refl s)) (Within.refl s)⟩

/-! ### Fabric -/

theorem setLane_within {F : Part → Prop} [Has F .regs] {s0 : State} (s : State) (l st : Nat) (hk : Within F s0 s) : Within F s0 (setLane s l st) :=
  fldSet_within _ _ _ _ _ _ hk

theorem flushCrossing_within {F : Part → Prop} [Has F .regs] [Has F .xq] {s0 : State} (s : State) (x : Nat) (hk : Within F s0 s) : Within F s0 (flushCrossing s x) := by
  unfold flushCrossing
  iterate 60 (try (any_goals (first | with_reducible assumption | with_reducible apply within_ite | with_reducible apply within_ite_snd | with_reducible apply bump_within | (with_reducible apply within_foldl <;> [skip; intro _ _ _]) | split | extract_lets | (apply within_eq; with_reducible assumption) | dsimp -zeta only | ((with_reducible apply within_mk) <;> first | exact .inl Has.has | exact .inr rfl | skip))))

theorem setXsat_within {F : Part → Prop} [Has F .regs] {s0 : State} (s : State) (d : Nat) (hk : Within F s0 s) : Within F s0 (setXsat s d) :=
  setBits_within _ _ _ _ hk

theorem flushDomain_within {F : Part → Prop} [Has F .regs] [Has F .doms] [Has F .xq] {s0 : State} (s : State) (d : Nat) (hk : Within F s0 s) : Within F s0 (flushDomain s d) := by
  unfold flushDomain
  iterate 60 (try (any_goals (first | with_reducible assumption | with_reducible apply within_ite | with_reducible apply within_ite_snd | with_reducible apply setXsat_within | with_reducible apply flushCrossing_within | with_reducible apply modDom_within | (with_reducible apply within_foldl <;> [skip; intro _ _ _]) | split | extract_lets | (apply within_eq; with_reducible assumption) | dsimp -zeta only | ((with_reducible apply within_mk) <;> first | exact .inl Has.has | exact .inr rfl | skip))))

theorem resetDomain_within {F : Part → Prop} [Has F .regs] [Has F .doms] [Has F .xq] {s0 : State} (s : State) (d : Nat) (hk : Within F s0 s) : Within F s0 (resetDomain s d) := by
  unfold resetDomain
  iterate 60 (try (any_goals (first | with_reducible assumption | with_reducible apply within_ite | with_reducible apply within_ite_snd | with_reducible apply flushDomain_within | with_reducible apply modDom_within | (with_reducible apply within_foldl <;> [skip; intro _ _ _]) | split | extract_lets | (apply within_eq; with_reducible assumption) | dsimp -zeta only | ((with_reducible apply within_mk) <;> first | exact .inl Has.has | exact .inr rfl | skip))))

theorem downDomain_within {F : Part → Prop} [Has F .regs] [Has F .doms] [Has F .xq] {s0 : State} (s : State) (d : Nat) (hk : Within F s0 s) : Within F s0 (downDomain s d) :=
  domDown_within _ _ (flushDomain_within _ _ hk)

theorem countEvents_within {F : Part → Prop} [Has F .regs] [Has F .arbs] [Has F .doms] [Has F .westad] [Has F .out] {s0 : State} (s : State) (d n : Nat) (hk : Within F s0 s) : Within F s0 (countEvents s d n) := by
  unfold countEvents
  iterate 60 (try (any_goals (first | with_reducible assumption | with_reducible apply within_ite | with_reducible apply within_ite_snd | with_reducible apply setXsat_within | with_reducible apply received_within | with_reducible apply modDom_within | (with_reducible apply within_foldl <;> [skip; intro _ _ _]) | split | extract_lets | (apply within_eq; with_reducible assumption) | dsimp -zeta only | ((with_reducible apply within_mk) <;> first | exact .inl Has.has | exact .inr rfl | skip))))

theorem forceStall_within {F : Part → Prop} [Has F .regs] [Has F .threads] [Has F .cyls] [Has F .engs] [Has F .doms] [Has F .xq] [Has F .faults] {s0 : State} (s : State) (d : Nat) (inward : Bool) (part : Nat) (hk : Within F s0 s) : Within F s0 (forceStall s d inward part) := by
  unfold forceStall
  iterate 60 (try (any_goals (first | with_reducible assumption | with_reducible apply within_ite | with_reducible apply within_ite_snd | with_reducible apply setXsat_within | with_reducible apply report_within | with_reducible apply modDom_within | with_reducible apply bump_within | with_reducible apply fldSet_within | (with_reducible apply within_foldl <;> [skip; intro _ _ _]) | split | extract_lets | (apply within_eq; with_reducible assumption) | dsimp -zeta only | ((with_reducible apply within_mk) <;> first | exact .inl Has.has | exact .inr rfl | skip))))

theorem countDown_within {F : Part → Prop} [Has F .regs] {s0 : State} (s : State) (hk : Within F s0 s) : Within F s0 (countDown s) :=
  bump_within _ _ _ _ _ _ hk

theorem arbXmodeWrite_within {F : Part → Prop} [Has F .regs] {s0 : State} (s : State) (p : Nat) (v : Word) (hk : Within F s0 s) : Within F s0 (arbXmodeWrite s p v) :=
  within_ite hk (plainWrite_within _ _ _ _ hk)

theorem execArbiterDraw_within {F : Part → Prop} [Has F .arbs] (a : Nat) (contestants : List Nat) (s : State) : GoesIn F s (execArbiterDraw a contestants s) := by
  have hk : Within F s s := Within.refl s
  unfold execArbiterDraw
  (try extract_lets)
  refine ⟨_, rfl, ?_⟩
  iterate 30 (try (any_goals (first | with_reducible assumption | with_reducible apply within_ite | with_reducible apply drawArb_within | (with_reducible apply within_foldl <;> [skip; intro _ _ _]) | intro _ _ | split | extract_lets | dsimp -zeta only | ((with_reducible apply within_mk) <;> first | exact .inl Has.has | exact .inr rfl | skip))))

theorem execEventCountCrossing_within {F : Part → Prop} [Has F .regs] [Has F .arbs] [Has F .doms] [Has F .westad] [Has F .out] (d : Fin 26) (events : Nat) (s : State) : GoesIn F s (execEventCountCrossing d events s) :=
  ⟨_, rfl, countEvents_within _ _ _ (Within.refl s)⟩

theorem execStallWatchExpiry_within {F : Part → Prop} [Has F .regs] [Has F .threads] [Has F .cyls] [Has F .engs] [Has F .doms] [Has F .xq] [Has F .faults] (d : Fin 26) (inward : Bool) (part : Byte) (s : State) : GoesIn F s (execStallWatchExpiry d inward part s) :=
  ⟨_, rfl, forceStall_within _ _ _ _ (Within.refl s)⟩

theorem execDomainReset_within {F : Part → Prop} [Has F .regs] [Has F .doms] [Has F .xq] (d : Fin 26) (s : State) : GoesIn F s (execDomainReset d s) :=
  ⟨_, rfl, within_ite (Within.refl s) (resetDomain_within _ _ (Within.refl s))⟩

theorem execArbXmode_within {F : Part → Prop} [Has F .regs] (p : Fin 256) (v : Word) (s : State) : GoesIn F s (execArbXmode p v s) :=
  ⟨_, rfl, arbXmodeWrite_within _ _ _ (Within.refl s)⟩

/-! ### Quiet -/

theorem dropLink_within {F : Part → Prop} [Has F .regs] [Has F .doms] [Has F .xq] [Has F .westad] {s0 : State} (s : State) (l : Nat) (hk : Within F s0 s) : Within F s0 (dropLink s l) := by
  unfold dropLink
  iterate 60 (try (any_goals (first | with_reducible assumption | with_reducible apply within_ite | with_reducible apply within_ite_snd | with_reducible apply downDomain_within | with_reducible apply setLane_within | with_reducible apply modLink_within | (with_reducible apply within_foldl <;> [skip; intro _ _ _]) | split | extract_lets | (apply within_eq; with_reducible assumption) | dsimp -zeta only | ((with_reducible apply within_mk) <;> first | exact .inl Has.has | exact .inr rfl | skip))))

theorem quietOutputs_within {F : Part → Prop} [Has F .regs] [Has F .intake] [Has F .doms] [Has F .xq] [Has F .westad] [Has F .pins] [Has F .out] {s0 : State} (s : State) (cause : Nat) (hk : Within F s0 s) : Within F s0 (quietOutputs s cause) := by
  unfold quietOutputs
  iterate 60 (try (any_goals (first | with_reducible assumption | with_reducible apply within_ite | with_reducible apply within_ite_snd | with_reducible apply dropLink_within | with_reducible apply downDomain_within | with_reducible apply setLane_within | with_reducible apply setHolds_within | with_reducible apply emit_within | (with_reducible apply within_foldl <;> [skip; intro _ _ _]) | split | extract_lets | (apply within_eq; with_reducible assumption) | dsimp -zeta only | ((with_reducible apply within_mk) <;> first | exact .inl Has.has | exact .inr rfl | skip))))

theorem quietItems_within {F : Part → Prop} [Has F .regs] [Has F .threads] [Has F .intake] [Has F .pins] [Has F .out] {s0 : State} (s : State) (hk : Within F s0 s) : Within F s0 (quietItems s) := by
  unfold quietItems
  iterate 60 (try (any_goals (first | with_reducible assumption | with_reducible apply within_ite | with_reducible apply within_ite_snd | with_reducible apply endCmds_within | with_reducible apply modRq_within | (with_reducible apply within_foldl <;> [skip; intro _ _ _]) | split | extract_lets | (apply within_eq; with_reducible assumption) | dsimp -zeta only | ((with_reducible apply within_mk) <;> first | exact .inl Has.has | exact .inr rfl | skip))))

theorem quietThread_within {F : Part → Prop} [Has F .mem] [Has F .poison] [Has F .threads] [Has F .cyls] [Has F .engs] {s0 : State} (s : State) (t : Nat) (hk : Within F s0 s) : Within F s0 (quietThread s t) := by
  unfold quietThread
  iterate 60 (try (any_goals (first | with_reducible assumption | with_reducible apply within_ite | with_reducible apply within_ite_snd | with_reducible apply drainThr_within | with_reducible apply freezeNow_within | with_reducible apply interrupt_within | with_reducible apply modCyl_within | with_reducible apply modThr_within | (with_reducible apply within_foldl <;> [skip; intro _ _ _]) | split | extract_lets | (apply within_eq; with_reducible assumption) | dsimp -zeta only | ((with_reducible apply within_mk) <;> first | exact .inl Has.has | exact .inr rfl | skip))))

theorem quietJobs_within {F : Part → Prop} [Has F .regs] [Has F .mem] [Has F .poison] [Has F .threads] [Has F .engs] [Has F .ks] [Has F .guard] [Has F .srcs] [Has F .arbs] [Has F .westad] [Has F .audit] [Has F .out] {s0 : State} (s : State) (hk : Within F s0 s) : Within F s0 (quietJobs s) := by
  unfold quietJobs
  iterate 60 (try (any_goals (first | with_reducible assumption | with_reducible apply within_ite | with_reducible apply within_ite_snd | with_reducible apply endJobs_within | with_reducible apply modEng_within | (with_reducible apply within_foldl <;> [skip; intro _ _ _]) | split | extract_lets | (apply within_eq; with_reducible assumption) | dsimp -zeta only | ((with_reducible apply within_mk) <;> first | exact .inl Has.has | exact .inr rfl | skip))))

theorem quietSessions_within {F : Part → Prop} [Has F .intake] {s0 : State} (s : State) (hk : Within F s0 s) : Within F s0 (quietSessions s) := by
  unfold quietSessions
  iterate 60 (try (any_goals (first | with_reducible assumption | with_reducible apply within_ite | with_reducible apply within_ite_snd | with_reducible apply dropSession_within | (with_reducible apply within_foldl <;> [skip; intro _ _ _]) | split | extract_lets | (apply within_eq; with_reducible assumption) | dsimp -zeta only | ((with_reducible apply within_mk) <;> first | exact .inl Has.has | exact .inr rfl | skip))))

theorem quietBoot_within {F : Part → Prop} [Has F .boot] {s0 : State} (s : State) (cause : Nat) (hk : Within F s0 s) : Within F s0 (quietBoot s cause) := by
  unfold quietBoot
  iterate 60 (try (any_goals (first | with_reducible assumption | with_reducible apply within_ite | with_reducible apply within_ite_snd | (with_reducible apply within_foldl <;> [skip; intro _ _ _]) | split | extract_lets | (apply within_eq; with_reducible assumption) | dsimp -zeta only | ((with_reducible apply within_mk) <;> first | exact .inl Has.has | exact .inr rfl | skip))))

theorem enterQuiet_within {F : Part → Prop} [Has F .free] [Has F .regs] [Has F .mem] [Has F .poison] [Has F .threads] [Has F .cyls] [Has F .engs] [Has F .ks] [Has F .guard] [Has F .intake] [Has F .turns] [Has F .srcs] [Has F .arbs] [Has F .doms] [Has F .xq] [Has F .westad] [Has F .dbg] [Has F .audit] [Has F .faults] [Has F .boot] [Has F .req] [Has F .pins] [Has F .out] {s0 : State} (s : State) (cause : Nat) (hk : Within F s0 s) : Within F s0 (enterQuiet s cause) := by
  unfold enterQuiet
  iterate 60 (try (any_goals (first | with_reducible assumption | with_reducible apply within_ite | with_reducible apply within_ite_snd | with_reducible apply quietBoot_within | with_reducible apply quietSessions_within | with_reducible apply quietJobs_within | with_reducible apply quietThread_within | with_reducible apply quietItems_within | with_reducible apply quietOutputs_within | with_reducible apply putAgree_within | with_reducible apply abandonCommit_within | with_reducible apply untake_within | with_reducible apply endDebug_within | with_reducible apply settle_within | with_reducible apply audit_within | (with_reducible apply within_foldl <;> [skip; intro _ _ _]) | split | extract_lets | (apply within_eq; with_reducible assumption) | dsimp -zeta only | ((with_reducible apply within_mk) <;> first | exact .inl Has.has | exact .inr rfl | skip))))

theorem quietSettle_within {F : Part → Prop} [Has F .free] [Has F .regs] [Has F .mem] [Has F .poison] [Has F .threads] [Has F .cyls] [Has F .engs] [Has F .ks] [Has F .guard] [Has F .intake] [Has F .turns] [Has F .srcs] [Has F .arbs] [Has F .doms] [Has F .xq] [Has F .westad] [Has F .dbg] [Has F .audit] [Has F .faults] [Has F .boot] [Has F .req] [Has F .pins] [Has F .out] {s0 : State} (s : State) (hk : Within F s0 s) : Within F s0 (quietSettle s) := by
  unfold quietSettle
  iterate 60 (try (any_goals (first | with_reducible assumption | with_reducible apply within_ite | with_reducible apply within_ite_snd | with_reducible apply enterQuiet_within | (with_reducible apply within_foldl <;> [skip; intro _ _ _]) | split | extract_lets | (apply within_eq; with_reducible assumption) | dsimp -zeta only | ((with_reducible apply within_mk) <;> first | exact .inl Has.has | exact .inr rfl | skip))))

theorem execQuietEnter_within {F : Part → Prop} [Has F .free] [Has F .regs] [Has F .mem] [Has F .poison] [Has F .threads] [Has F .cyls] [Has F .engs] [Has F .ks] [Has F .guard] [Has F .intake] [Has F .turns] [Has F .srcs] [Has F .arbs] [Has F .doms] [Has F .xq] [Has F .westad] [Has F .dbg] [Has F .audit] [Has F .faults] [Has F .boot] [Has F .req] [Has F .pins] [Has F .out] (p : Fin 256) (s : State) : GoesIn F s (execQuietEnter p s) :=
  ⟨_, rfl, within_ite (enterQuiet_within _ _ (Within.refl s)) (Within.refl s)⟩

theorem execOutcomeUnknownTimeout_within {F : Part → Prop} [Has F .free] [Has F .regs] [Has F .mem] [Has F .poison] [Has F .threads] [Has F .cyls] [Has F .engs] [Has F .ks] [Has F .guard] [Has F .intake] [Has F .turns] [Has F .srcs] [Has F .arbs] [Has F .doms] [Has F .xq] [Has F .westad] [Has F .dbg] [Has F .audit] [Has F .faults] [Has F .boot] [Has F .req] [Has F .pins] [Has F .out] (s : State) : GoesIn F s (execOutcomeUnknownTimeout s) := by
  have hk : Within F s s := Within.refl s
  unfold execOutcomeUnknownTimeout
  (try extract_lets)
  refine ⟨_, rfl, ?_⟩
  iterate 30 (try (any_goals (first | with_reducible assumption | with_reducible apply within_ite | with_reducible apply enterQuiet_within | (with_reducible apply within_foldl <;> [skip; intro _ _ _]) | intro _ _ | split | extract_lets | dsimp -zeta only | ((with_reducible apply within_mk) <;> first | exact .inl Has.has | exact .inr rfl | skip))))

theorem execQuietUartLine_within {F : Part → Prop} [Has F .out] (s : State) : GoesIn F s (execQuietUartLine s) :=
  ⟨_, rfl, within_ite (emit_within _ _ (Within.refl s)) (Within.refl s)⟩

/-! ### Faults -/

theorem keepRetirement_within {F : Part → Prop} [Has F .faults] {s0 : State} (s : State) (cls ix : Nat) (hk : Within F s0 s) : Within F s0 (keepRetirement s cls ix) := by
  unfold keepRetirement
  iterate 60 (try (any_goals (first | with_reducible assumption | with_reducible apply within_ite | with_reducible apply within_ite_snd | with_reducible apply quietCause_within | (with_reducible apply within_foldl <;> [skip; intro _ _ _]) | split | extract_lets | (apply within_eq; with_reducible assumption) | dsimp -zeta only | ((with_reducible apply within_mk) <;> first | exact .inl Has.has | exact .inr rfl | skip))))

theorem setUnit_within {F : Part → Prop} [Has F .faults] {s0 : State} (s : State) (cls ix st : Nat) (hk : Within F s0 s) : Within F s0 (setUnit s cls ix st) :=
  modUnit_within _ _ _ _ hk

theorem retireThread_within {F : Part → Prop} [Has F .mem] [Has F .poison] [Has F .threads] [Has F .engs] [Has F .intake] [Has F .srcs] [Has F .arbs] [Has F .pins] [Has F .out] {s0 : State} (s : State) (t : Nat) (hk : Within F s0 s) : Within F s0 (retireThread s t) := by
  unfold retireThread
  iterate 60 (try (any_goals (first | with_reducible assumption | with_reducible apply within_ite | with_reducible apply within_ite_snd | with_reducible apply drainThr_within | with_reducible apply dropActive_within | with_reducible apply rewindItems_within | with_reducible apply endSeats_within | with_reducible apply modThr_within | with_reducible apply putThr_within | (with_reducible apply within_foldl <;> [skip; intro _ _ _]) | split | extract_lets | (apply within_eq; with_reducible assumption) | dsimp -zeta only | ((with_reducible apply within_mk) <;> first | exact .inl Has.has | exact .inr rfl | skip))))

theorem retireCyl_within {F : Part → Prop} [Has F .mem] [Has F .poison] [Has F .threads] [Has F .cyls] [Has F .engs] [Has F .intake] [Has F .srcs] [Has F .arbs] [Has F .faults] [Has F .pins] [Has F .out] {s0 : State} (s : State) (c : Nat) (hk : Within F s0 s) : Within F s0 (retireCyl s c) := by
  unfold retireCyl
  iterate 60 (try (any_goals (first | with_reducible assumption | with_reducible apply within_ite | with_reducible apply within_ite_snd | with_reducible apply retireThread_within | with_reducible apply setUnit_within | with_reducible apply keepRetirement_within | with_reducible apply quietCause_within | with_reducible apply modCyl_within | (with_reducible apply within_foldl <;> [skip; intro _ _ _]) | split | extract_lets | (apply within_eq; with_reducible assumption) | dsimp -zeta only | ((with_reducible apply within_mk) <;> first | exact .inl Has.has | exact .inr rfl | skip))))

theorem retireWay_within {F : Part → Prop} [Has F .krs] [Has F .faults] {s0 : State} (s : State) (ix : Nat) (hk : Within F s0 s) : Within F s0 (retireWay s ix) := by
  unfold retireWay
  iterate 60 (try (any_goals (first | with_reducible assumption | with_reducible apply within_ite | with_reducible apply within_ite_snd | with_reducible apply setUnit_within | with_reducible apply keepRetirement_within | with_reducible apply modKr_within | (with_reducible apply within_foldl <;> [skip; intro _ _ _]) | split | extract_lets | (apply within_eq; with_reducible assumption) | dsimp -zeta only | ((with_reducible apply within_mk) <;> first | exact .inl Has.has | exact .inr rfl | skip))))

theorem retireBank_within {F : Part → Prop} [Has F .ks] [Has F .faults] {s0 : State} (s : State) (b : Nat) (hk : Within F s0 s) : Within F s0 (retireBank s b) := by
  unfold retireBank
  iterate 60 (try (any_goals (first | with_reducible assumption | with_reducible apply within_ite | with_reducible apply within_ite_snd | with_reducible apply setUnit_within | with_reducible apply keepRetirement_within | with_reducible apply quietCause_within | with_reducible apply modUnit_within | (with_reducible apply within_foldl <;> [skip; intro _ _ _]) | split | extract_lets | (apply within_eq; with_reducible assumption) | dsimp -zeta only | ((with_reducible apply within_mk) <;> first | exact .inl Has.has | exact .inr rfl | skip))))

theorem retireRow_within {F : Part → Prop} [Has F .faults] {s0 : State} (s : State) (ix : Nat) (hk : Within F s0 s) : Within F s0 (retireRow s ix) := by
  unfold retireRow
  iterate 60 (try (any_goals (first | with_reducible assumption | with_reducible apply within_ite | with_reducible apply within_ite_snd | with_reducible apply setUnit_within | with_reducible apply keepRetirement_within | with_reducible apply quietCause_within | (with_reducible apply within_foldl <;> [skip; intro _ _ _]) | split | extract_lets | (apply within_eq; with_reducible assumption) | dsimp -zeta only | ((with_reducible apply within_mk) <;> first | exact .inl Has.has | exact .inr rfl | skip))))

theorem retireDram_within {F : Part → Prop} [Has F .regs] [Has F .poison] [Has F .threads] [Has F .srcs] [Has F .faults] {s0 : State} (s : State) (ch : Nat) (pr : Probe) (hk : Within F s0 s) : Within F s0 (retireDram s ch pr) := by
  unfold retireDram
  iterate 60 (try (any_goals (first | with_reducible assumption | with_reducible apply within_ite | with_reducible apply within_ite_snd | with_reducible apply setUnit_within | with_reducible apply quietCause_within | with_reducible apply errKnock_within | (with_reducible apply within_foldl <;> [skip; intro _ _ _]) | split | extract_lets | (apply within_eq; with_reducible assumption) | dsimp -zeta only | ((with_reducible apply within_mk) <;> first | exact .inl Has.has | exact .inr rfl | skip))))

theorem retireMesh_within {F : Part → Prop} [Has F .faults] {s0 : State} (s : State) (ix : Nat) (hk : Within F s0 s) : Within F s0 (retireMesh s ix) :=
  within_ite (keepRetirement_within _ _ _ (modUnit_within _ _ _ _ hk)) (quietCause_within _ _ (setUnit_within _ _ _ _ hk))

theorem retireDomain_within {F : Part → Prop} [Has F .regs] [Has F .doms] [Has F .faults] {s0 : State} (s : State) (d : Nat) (hk : Within F s0 s) : Within F s0 (retireDomain s d) := by
  unfold retireDomain
  iterate 60 (try (any_goals (first | with_reducible assumption | with_reducible apply within_ite | with_reducible apply within_ite_snd | with_reducible apply setUnit_within | with_reducible apply keepRetirement_within | with_reducible apply setLane_within | with_reducible apply domDown_within | with_reducible apply quietCause_within | (with_reducible apply within_foldl <;> [skip; intro _ _ _]) | split | extract_lets | (apply within_eq; with_reducible assumption) | dsimp -zeta only | ((with_reducible apply within_mk) <;> first | exact .inl Has.has | exact .inr rfl | skip))))

theorem retireLane_within {F : Part → Prop} [Has F .regs] [Has F .doms] [Has F .faults] {s0 : State} (s : State) (l : Nat) (hk : Within F s0 s) : Within F s0 (retireLane s l) := by
  unfold retireLane
  iterate 60 (try (any_goals (first | with_reducible assumption | with_reducible apply within_ite | with_reducible apply within_ite_snd | with_reducible apply setUnit_within | with_reducible apply keepRetirement_within | with_reducible apply setLane_within | with_reducible apply modDom_within | (with_reducible apply within_foldl <;> [skip; intro _ _ _]) | split | extract_lets | (apply within_eq; with_reducible assumption) | dsimp -zeta only | ((with_reducible apply within_mk) <;> first | exact .inl Has.has | exact .inr rfl | skip))))

theorem retireUnit_within {F : Part → Prop} [Has F .regs] [Has F .mem] [Has F .poison] [Has F .threads] [Has F .cyls] [Has F .krs] [Has F .engs] [Has F .ks] [Has F .guard] [Has F .intake] [Has F .srcs] [Has F .arbs] [Has F .doms] [Has F .westad] [Has F .audit] [Has F .faults] [Has F .pins] [Has F .out] {s0 : State} (s : State) (cls ix : Nat) (pr : Probe) (hk : Within F s0 s) : Within F s0 (retireUnit s cls ix pr) := by
  unfold retireUnit
  iterate 60 (try (any_goals (first | with_reducible assumption | with_reducible apply within_ite | with_reducible apply within_ite_snd | with_reducible apply retireLane_within | with_reducible apply retireDomain_within | with_reducible apply retireMesh_within | with_reducible apply retireDram_within | with_reducible apply retireRow_within | with_reducible apply retireBank_within | with_reducible apply retireWay_within | with_reducible apply retireCyl_within | with_reducible apply setUnit_within | with_reducible apply keepRetirement_within | with_reducible apply retireEngine_within | with_reducible apply quietCause_within | with_reducible apply modKr_within | (with_reducible apply within_foldl <;> [skip; intro _ _ _]) | split | extract_lets | (apply within_eq; with_reducible assumption) | dsimp -zeta only | ((with_reducible apply within_mk) <;> first | exact .inl Has.has | exact .inr rfl | skip))))

theorem restoreUnit_within {F : Part → Prop} [Has F .regs] [Has F .threads] [Has F .engs] [Has F .arbs] [Has F .doms] [Has F .xq] [Has F .trngBad] {s0 : State} (s : State) (cls ix : Nat) (hk : Within F s0 s) : Within F s0 (restoreUnit s cls ix) := by
  unfold restoreUnit
  iterate 60 (try (any_goals (first | with_reducible assumption | with_reducible apply within_ite | with_reducible apply within_ite_snd | with_reducible apply resetDomain_within | with_reducible apply releaseThr_within | with_reducible apply redecide_within | with_reducible apply modEng_within | (with_reducible apply within_foldl <;> [skip; intro _ _ _]) | split | extract_lets | (apply within_eq; with_reducible assumption) | dsimp -zeta only | ((with_reducible apply within_mk) <;> first | exact .inl Has.has | exact .inr rfl | skip))))

theorem verdict_within {F : Part → Prop} [Has F .regs] [Has F .mem] [Has F .poison] [Has F .threads] [Has F .cyls] [Has F .krs] [Has F .engs] [Has F .ks] [Has F .guard] [Has F .intake] [Has F .srcs] [Has F .arbs] [Has F .doms] [Has F .xq] [Has F .westad] [Has F .audit] [Has F .faults] [Has F .pins] [Has F .trngBad] [Has F .out] {s0 : State} (s : State) (cls ix : Nat) (pr : Probe) (v : Nat) (hk : Within F s0 s) : Within F s0 (verdict s cls ix pr v) := by
  unfold verdict
  iterate 60 (try (any_goals (first | with_reducible assumption | with_reducible apply within_ite | with_reducible apply within_ite_snd | with_reducible apply restoreUnit_within | with_reducible apply retireUnit_within | with_reducible apply settle_within | with_reducible apply errKnock_within | with_reducible apply audit_within | with_reducible apply modUnit_within | (with_reducible apply within_foldl <;> [skip; intro _ _ _]) | split | extract_lets | (apply within_eq; with_reducible assumption) | dsimp -zeta only | ((with_reducible apply within_mk) <;> first | exact .inl Has.has | exact .inr rfl | skip))))

theorem probeEnds_within {F : Part → Prop} [Has F .regs] [Has F .mem] [Has F .poison] [Has F .threads] [Has F .cyls] [Has F .krs] [Has F .engs] [Has F .ks] [Has F .guard] [Has F .intake] [Has F .srcs] [Has F .arbs] [Has F .doms] [Has F .xq] [Has F .westad] [Has F .audit] [Has F .faults] [Has F .pins] [Has F .trngBad] [Has F .out] {s0 : State} (s : State) (cls ix : Nat) (passed : Bool) (hk : Within F s0 s) : Within F s0 (probeEnds s cls ix passed) := by
  unfold probeEnds
  iterate 60 (try (any_goals (first | with_reducible assumption | with_reducible apply within_ite | with_reducible apply within_ite_snd | with_reducible apply verdict_within | (with_reducible apply within_foldl <;> [skip; intro _ _ _]) | split | extract_lets | (apply within_eq; with_reducible assumption) | dsimp -zeta only | ((with_reducible apply within_mk) <;> first | exact .inl Has.has | exact .inr rfl | skip))))

theorem probeExpires_within {F : Part → Prop} [Has F .regs] [Has F .mem] [Has F .poison] [Has F .threads] [Has F .cyls] [Has F .krs] [Has F .engs] [Has F .ks] [Has F .guard] [Has F .intake] [Has F .srcs] [Has F .arbs] [Has F .doms] [Has F .xq] [Has F .westad] [Has F .audit] [Has F .faults] [Has F .pins] [Has F .trngBad] [Has F .out] {s0 : State} (s : State) (cls ix : Nat) (hk : Within F s0 s) : Within F s0 (probeExpires s cls ix) := by
  unfold probeExpires
  iterate 60 (try (any_goals (first | with_reducible assumption | with_reducible apply within_ite | with_reducible apply within_ite_snd | with_reducible apply verdict_within | (with_reducible apply within_foldl <;> [skip; intro _ _ _]) | split | extract_lets | (apply within_eq; with_reducible assumption) | dsimp -zeta only | ((with_reducible apply within_mk) <;> first | exact .inl Has.has | exact .inr rfl | skip))))

theorem blowRetirement_within {F : Part → Prop} [Has F .faults] [Has F .fuses] {s0 : State} (s : State) (hk : Within F s0 s) : Within F s0 (blowRetirement s) := by
  unfold blowRetirement
  iterate 60 (try (any_goals (first | with_reducible assumption | with_reducible apply within_ite | with_reducible apply within_ite_snd | (with_reducible apply within_foldl <;> [skip; intro _ _ _]) | split | extract_lets | (apply within_eq; with_reducible assumption) | dsimp -zeta only | ((with_reducible apply within_mk) <;> first | exact .inl Has.has | exact .inr rfl | skip))))

theorem lineOutcome_within {F : Part → Prop} [Has F .regs] [Has F .poison] [Has F .threads] [Has F .cyls] [Has F .engs] [Has F .srcs] [Has F .doms] [Has F .audit] [Has F .faults] {s0 : State} (s : State) (line : Nat) (o : EccOutcome) (hk : Within F s0 s) : Within F s0 (lineOutcome s line o) := by
  unfold lineOutcome
  iterate 60 (try (any_goals (first | with_reducible assumption | with_reducible apply within_ite | with_reducible apply within_ite_snd | with_reducible apply report_within | with_reducible apply errKnock_within | with_reducible apply audit_within | (with_reducible apply within_foldl <;> [skip; intro _ _ _]) | split | extract_lets | (apply within_eq; with_reducible assumption) | dsimp -zeta only | ((with_reducible apply within_mk) <;> first | exact .inl Has.has | exact .inr rfl | skip))))

theorem selfProbe_within {F : Part → Prop} [Has F .threads] [Has F .cyls] [Has F .engs] [Has F .doms] [Has F .faults] {s0 : State} (s : State) (cls ix : Nat) (hk : Within F s0 s) : Within F s0 (selfProbe s cls ix) := by
  unfold selfProbe
  iterate 60 (try (any_goals (first | with_reducible assumption | with_reducible apply within_ite | with_reducible apply within_ite_snd | with_reducible apply underProbe_within | with_reducible apply modUnit_within | (with_reducible apply within_foldl <;> [skip; intro _ _ _]) | split | extract_lets | (apply within_eq; with_reducible assumption) | dsimp -zeta only | ((with_reducible apply within_mk) <;> first | exact .inl Has.has | exact .inr rfl | skip))))

theorem startSelftest_within {F : Part → Prop} [Has F .threads] [Has F .cyls] [Has F .engs] [Has F .doms] [Has F .faults] {s0 : State} (s : State) (p : Nat) (hk : Within F s0 s) : Within F s0 (startSelftest s p) := by
  unfold startSelftest
  iterate 60 (try (any_goals (first | with_reducible assumption | with_reducible apply within_ite | with_reducible apply within_ite_snd | with_reducible apply selfProbe_within | (with_reducible apply within_foldl <;> [skip; intro _ _ _]) | split | extract_lets | (apply within_eq; with_reducible assumption) | dsimp -zeta only | ((with_reducible apply within_mk) <;> first | exact .inl Has.has | exact .inr rfl | skip))))

theorem endSelftest_within {F : Part → Prop} [Has F .faults] {s0 : State} (s : State) (hk : Within F s0 s) : Within F s0 (endSelftest s) := by
  unfold endSelftest
  iterate 60 (try (any_goals (first | with_reducible assumption | with_reducible apply within_ite | with_reducible apply within_ite_snd | (with_reducible apply within_foldl <;> [skip; intro _ _ _]) | split | extract_lets | (apply within_eq; with_reducible assumption) | dsimp -zeta only | ((with_reducible apply within_mk) <;> first | exact .inl Has.has | exact .inr rfl | skip))))

theorem execProbeVerdict_within {F : Part → Prop} [Has F .free] [Has F .regs] [Has F .mem] [Has F .poison] [Has F .threads] [Has F .cyls] [Has F .krs] [Has F .engs] [Has F .ks] [Has F .guard] [Has F .intake] [Has F .turns] [Has F .srcs] [Has F .arbs] [Has F .doms] [Has F .xq] [Has F .westad] [Has F .dbg] [Has F .audit] [Has F .faults] [Has F .boot] [Has F .req] [Has F .pins] [Has F .trngBad] [Has F .out] (cls : Fin 16) (index : Nat) (passed : Bool) (s : State) : GoesIn F s (execProbeVerdict cls index passed s) :=
  ⟨_, rfl, quietSettle_within _ (probeEnds_within _ _ _ _ (Within.refl s))⟩

theorem execProbeTimeout_within {F : Part → Prop} [Has F .free] [Has F .regs] [Has F .mem] [Has F .poison] [Has F .threads] [Has F .cyls] [Has F .krs] [Has F .engs] [Has F .ks] [Has F .guard] [Has F .intake] [Has F .turns] [Has F .srcs] [Has F .arbs] [Has F .doms] [Has F .xq] [Has F .westad] [Has F .dbg] [Has F .audit] [Has F .faults] [Has F .boot] [Has F .req] [Has F .pins] [Has F .trngBad] [Has F .out] (cls : Fin 16) (index : Nat) (s : State) : GoesIn F s (execProbeTimeout cls index s) :=
  ⟨_, rfl, quietSettle_within _ (probeExpires_within _ _ _ (Within.refl s))⟩

theorem execRetirementFuseBlow_within {F : Part → Prop} [Has F .faults] [Has F .fuses] (s : State) : GoesIn F s (execRetirementFuseBlow s) :=
  ⟨_, rfl, blowRetirement_within _ (Within.refl s)⟩

theorem execDramScrub_within {F : Part → Prop} [Has F .regs] [Has F .poison] [Has F .threads] [Has F .cyls] [Has F .engs] [Has F .srcs] [Has F .doms] [Has F .audit] [Has F .faults] (line : Nat) (o : EccOutcome) (s : State) : GoesIn F s (execDramScrub line o s) :=
  ⟨_, rfl, within_ite (lineOutcome_within _ _ _ (Within.refl s)) (Within.refl s)⟩

theorem execTrngHealthFail_within {F : Part → Prop} [Has F .threads] [Has F .cyls] [Has F .engs] [Has F .doms] [Has F .faults] [Has F .trngBad] (s : State) : GoesIn F s (execTrngHealthFail s) := by
  have hk : Within F s s := Within.refl s
  unfold execTrngHealthFail
  (try extract_lets)
  refine ⟨_, rfl, ?_⟩
  iterate 30 (try (any_goals (first | with_reducible assumption | with_reducible apply within_ite | with_reducible apply report_within | (with_reducible apply within_foldl <;> [skip; intro _ _ _]) | intro _ _ | split | extract_lets | dsimp -zeta only | ((with_reducible apply within_mk) <;> first | exact .inl Has.has | exact .inr rfl | skip))))

theorem execQuietSelftest_within {F : Part → Prop} [Has F .threads] [Has F .cyls] [Has F .engs] [Has F .doms] [Has F .faults] (p : Fin 256) (s : State) : GoesIn F s (execQuietSelftest p s) :=
  ⟨_, rfl, startSelftest_within _ _ (Within.refl s)⟩

theorem execSelftestDone_within {F : Part → Prop} [Has F .faults] (s : State) : GoesIn F s (execSelftestDone s) :=
  ⟨_, rfl, endSelftest_within _ (Within.refl s)⟩

end Sys2Proof.Machine
end

