-- ==== Sys2Proof/Laws/WithinJobs.lean ====
section
/-! SUPPORT. The engines' operations: each function changes no part of the state but those that its lemma names. -/

set_option linter.all false
set_option linter.unusedTactic false
set_option linter.unreachableTactic false

namespace Sys2Proof.Machine

/-! ### AesJobs -/

theorem opEcb_okw {F : Part → Prop} (n : Nat) (u : KeyUse) (f : Bytes → Bytes → Bytes) : OpWithin F (opEcb n u f) := by
  constructor <;> intro s0 c s hk <;> dsimp only [opEcb, opPlain]
  iterate 20 (try (any_goals (first | exact hk | with_reducible assumption | with_reducible apply within_ite | with_reducible apply within_ite_snd | split | extract_lets | dsimp -zeta only)))

theorem opCbc_okw {F : Part → Prop} (n : Nat) (u : KeyUse) (enc : Bool) (f : Bytes → Bytes → Bytes) : OpWithin F (opCbc n u enc f) := by
  constructor <;> intro s0 c s hk <;> dsimp only [opCbc, opPlain]
  iterate 20 (try (any_goals (first | exact hk | with_reducible assumption | with_reducible apply within_ite | with_reducible apply within_ite_snd | split | extract_lets | dsimp -zeta only)))

theorem opCtr_okw {F : Part → Prop}  : OpWithin F (opCtr ) := by
  constructor <;> intro s0 c s hk <;> dsimp only [opCtr, opPlain]
  iterate 20 (try (any_goals (first | exact hk | with_reducible assumption | with_reducible apply within_ite | with_reducible apply within_ite_snd | split | extract_lets | dsimp -zeta only)))

theorem opGcmEnc_okw {F : Part → Prop}  : OpWithin F (opGcmEnc ) := by
  constructor <;> intro s0 c s hk <;> dsimp only [opGcmEnc, opPlain]
  iterate 20 (try (any_goals (first | exact hk | with_reducible assumption | with_reducible apply within_ite | with_reducible apply within_ite_snd | split | extract_lets | dsimp -zeta only)))

theorem opGcmDec_okw {F : Part → Prop}  : OpWithin F (opGcmDec ) := by
  constructor <;> intro s0 c s hk <;> dsimp only [opGcmDec, opPlain]
  iterate 20 (try (any_goals (first | exact hk | with_reducible assumption | with_reducible apply within_ite | with_reducible apply within_ite_snd | split | extract_lets | dsimp -zeta only)))

theorem opXts_okw {F : Part → Prop} (enc : Bool) : OpWithin F (opXts enc) := by
  constructor <;> intro s0 c s hk <;> dsimp only [opXts, opPlain]
  iterate 20 (try (any_goals (first | exact hk | with_reducible assumption | with_reducible apply within_ite | with_reducible apply within_ite_snd | split | extract_lets | dsimp -zeta only)))

theorem opMacGen_okw {F : Part → Prop} (lo hi : Nat) (u : KeyUse) (extra : Desc → Bool) (f : Ctx → Bytes) : OpWithin F (opMacGen lo hi u extra f) := by
  constructor <;> intro s0 c s hk <;> dsimp only [opMacGen, opPlain]
  iterate 20 (try (any_goals (first | exact hk | with_reducible assumption | with_reducible apply within_ite | with_reducible apply within_ite_snd | split | extract_lets | dsimp -zeta only)))

theorem opMacVer_okw {F : Part → Prop} (lo hi : Nat) (u : KeyUse) (extra : Desc → Bool) (f : Ctx → Bytes) : OpWithin F (opMacVer lo hi u extra f) := by
  constructor <;> intro s0 c s hk <;> dsimp only [opMacVer, opPlain]
  iterate 20 (try (any_goals (first | exact hk | with_reducible assumption | with_reducible apply within_ite | with_reducible apply within_ite_snd | split | extract_lets | dsimp -zeta only)))

theorem wrapGuard_within {F : Part → Prop} [Has F .regs] {s0 : State} (c : Ctx) (s : State) (hk : Within F s0 s) : Within F s0 (wrapGuard c s).2 := by
  unfold wrapGuard
  iterate 60 (try (any_goals (first | with_reducible assumption | with_reducible apply within_ite | with_reducible apply within_ite_snd | with_reducible apply countGuard_within | (with_reducible apply within_foldl <;> [skip; intro _ _ _]) | split | extract_lets | (apply within_eq; with_reducible assumption) | dsimp -zeta only | ((with_reducible apply within_mk) <;> first | exact .inl Has.has | exact .inr rfl | skip))))

theorem opKwpWrap_okw {F : Part → Prop} [Has F .regs]  : OpWithin F (opKwpWrap ) := by
  constructor <;> intro s0 c s hk <;> dsimp only [opKwpWrap, opPlain]
  iterate 20 (try (any_goals (first | exact hk | with_reducible assumption | with_reducible apply within_ite | with_reducible apply within_ite_snd | with_reducible apply wrapGuard_within | split | extract_lets | dsimp -zeta only)))

theorem opKwpUnwrap_okw {F : Part → Prop}  : OpWithin F (opKwpUnwrap ) := by
  constructor <;> intro s0 c s hk <;> dsimp only [opKwpUnwrap, opPlain]
  iterate 20 (try (any_goals (first | exact hk | with_reducible assumption | with_reducible apply within_ite | with_reducible apply within_ite_snd | split | extract_lets | dsimp -zeta only)))

theorem opClearImport_okw {F : Part → Prop} [Has F .regs]  : OpWithin F (opClearImport ) := by
  constructor <;> intro s0 c s hk <;> dsimp only [opClearImport, opPlain]
  iterate 20 (try (any_goals (first | exact hk | with_reducible assumption | with_reducible apply within_ite | with_reducible apply within_ite_snd | with_reducible apply countGuard_within | split | extract_lets | dsimp -zeta only)))

theorem execAesEcbEncrypt_within {F : Part → Prop} [Has F .free] [Has F .regs] [Has F .mem] [Has F .poison] [Has F .threads] [Has F .cyls] [Has F .engs] [Has F .ks] [Has F .guard] [Has F .intake] [Has F .turns] [Has F .srcs] [Has F .arbs] [Has F .doms] [Has F .xq] [Has F .westad] [Has F .dbg] [Has F .audit] [Has F .faults] [Has F .boot] [Has F .req] [Has F .pins] [Has F .out] (e : Fin 144) (s : State) : GoesIn F s (execAesEcbEncrypt e s) :=
  ⟨_, rfl, quietSettle_within _ (startJob_within _ _ _ _ (opEcb_okw _ _ _) (Within.refl s))⟩

theorem execAesEcbDecrypt_within {F : Part → Prop} [Has F .free] [Has F .regs] [Has F .mem] [Has F .poison] [Has F .threads] [Has F .cyls] [Has F .engs] [Has F .ks] [Has F .guard] [Has F .intake] [Has F .turns] [Has F .srcs] [Has F .arbs] [Has F .doms] [Has F .xq] [Has F .westad] [Has F .dbg] [Has F .audit] [Has F .faults] [Has F .boot] [Has F .req] [Has F .pins] [Has F .out] (e : Fin 144) (s : State) : GoesIn F s (execAesEcbDecrypt e s) :=
  ⟨_, rfl, quietSettle_within _ (startJob_within _ _ _ _ (opEcb_okw _ _ _) (Within.refl s))⟩

theorem execAesCbcEncrypt_within {F : Part → Prop} [Has F .free] [Has F .regs] [Has F .mem] [Has F .poison] [Has F .threads] [Has F .cyls] [Has F .engs] [Has F .ks] [Has F .guard] [Has F .intake] [Has F .turns] [Has F .srcs] [Has F .arbs] [Has F .doms] [Has F .xq] [Has F .westad] [Has F .dbg] [Has F .audit] [Has F .faults] [Has F .boot] [Has F .req] [Has F .pins] [Has F .out] (e : Fin 144) (s : State) : GoesIn F s (execAesCbcEncrypt e s) :=
  ⟨_, rfl, quietSettle_within _ (startJob_within _ _ _ _ (opCbc_okw _ _ _ _) (Within.refl s))⟩

theorem execAesCbcDecrypt_within {F : Part → Prop} [Has F .free] [Has F .regs] [Has F .mem] [Has F .poison] [Has F .threads] [Has F .cyls] [Has F .engs] [Has F .ks] [Has F .guard] [Has F .intake] [Has F .turns] [Has F .srcs] [Has F .arbs] [Has F .doms] [Has F .xq] [Has F .westad] [Has F .dbg] [Has F .audit] [Has F .faults] [Has F .boot] [Has F .req] [Has F .pins] [Has F .out] (e : Fin 144) (s : State) : GoesIn F s (execAesCbcDecrypt e s) :=
  ⟨_, rfl, quietSettle_within _ (startJob_within _ _ _ _ (opCbc_okw _ _ _ _) (Within.refl s))⟩

theorem execAesCtr_within {F : Part → Prop} [Has F .free] [Has F .regs] [Has F .mem] [Has F .poison] [Has F .threads] [Has F .cyls] [Has F .engs] [Has F .ks] [Has F .guard] [Has F .intake] [Has F .turns] [Has F .srcs] [Has F .arbs] [Has F .doms] [Has F .xq] [Has F .westad] [Has F .dbg] [Has F .audit] [Has F .faults] [Has F .boot] [Has F .req] [Has F .pins] [Has F .out] (e : Fin 144) (s : State) : GoesIn F s (execAesCtr e s) :=
  ⟨_, rfl, quietSettle_within _ (startJob_within _ _ _ _ (opCtr_okw) (Within.refl s))⟩

theorem execAesGcmEncrypt_within {F : Part → Prop} [Has F .free] [Has F .regs] [Has F .mem] [Has F .poison] [Has F .threads] [Has F .cyls] [Has F .engs] [Has F .ks] [Has F .guard] [Has F .intake] [Has F .turns] [Has F .srcs] [Has F .arbs] [Has F .doms] [Has F .xq] [Has F .westad] [Has F .dbg] [Has F .audit] [Has F .faults] [Has F .boot] [Has F .req] [Has F .pins] [Has F .out] (e : Fin 144) (s : State) : GoesIn F s (execAesGcmEncrypt e s) :=
  ⟨_, rfl, quietSettle_within _ (startJob_within _ _ _ _ (opGcmEnc_okw) (Within.refl s))⟩

theorem execAesGcmDecrypt_within {F : Part → Prop} [Has F .free] [Has F .regs] [Has F .mem] [Has F .poison] [Has F .threads] [Has F .cyls] [Has F .engs] [Has F .ks] [Has F .guard] [Has F .intake] [Has F .turns] [Has F .srcs] [Has F .arbs] [Has F .doms] [Has F .xq] [Has F .westad] [Has F .dbg] [Has F .audit] [Has F .faults] [Has F .boot] [Has F .req] [Has F .pins] [Has F .out] (e : Fin 144) (s : State) : GoesIn F s (execAesGcmDecrypt e s) :=
  ⟨_, rfl, quietSettle_within _ (startJob_within _ _ _ _ (opGcmDec_okw) (Within.refl s))⟩

theorem execAesXtsEncrypt_within {F : Part → Prop} [Has F .free] [Has F .regs] [Has F .mem] [Has F .poison] [Has F .threads] [Has F .cyls] [Has F .engs] [Has F .ks] [Has F .guard] [Has F .intake] [Has F .turns] [Has F .srcs] [Has F .arbs] [Has F .doms] [Has F .xq] [Has F .westad] [Has F .dbg] [Has F .audit] [Has F .faults] [Has F .boot] [Has F .req] [Has F .pins] [Has F .out] (e : Fin 144) (s : State) : GoesIn F s (execAesXtsEncrypt e s) :=
  ⟨_, rfl, quietSettle_within _ (startJob_within _ _ _ _ (opXts_okw _) (Within.refl s))⟩

theorem execAesXtsDecrypt_within {F : Part → Prop} [Has F .free] [Has F .regs] [Has F .mem] [Has F .poison] [Has F .threads] [Has F .cyls] [Has F .engs] [Has F .ks] [Has F .guard] [Has F .intake] [Has F .turns] [Has F .srcs] [Has F .arbs] [Has F .doms] [Has F .xq] [Has F .westad] [Has F .dbg] [Has F .audit] [Has F .faults] [Has F .boot] [Has F .req] [Has F .pins] [Has F .out] (e : Fin 144) (s : State) : GoesIn F s (execAesXtsDecrypt e s) :=
  ⟨_, rfl, quietSettle_within _ (startJob_within _ _ _ _ (opXts_okw _) (Within.refl s))⟩

theorem execAesCmacGenerate_within {F : Part → Prop} [Has F .free] [Has F .regs] [Has F .mem] [Has F .poison] [Has F .threads] [Has F .cyls] [Has F .engs] [Has F .ks] [Has F .guard] [Has F .intake] [Has F .turns] [Has F .srcs] [Has F .arbs] [Has F .doms] [Has F .xq] [Has F .westad] [Has F .dbg] [Has F .audit] [Has F .faults] [Has F .boot] [Has F .req] [Has F .pins] [Has F .out] (e : Fin 144) (s : State) : GoesIn F s (execAesCmacGenerate e s) :=
  ⟨_, rfl, quietSettle_within _ (startJob_within _ _ _ _ (opMacGen_okw _ _ _ _ _) (Within.refl s))⟩

theorem execAesCmacVerify_within {F : Part → Prop} [Has F .free] [Has F .regs] [Has F .mem] [Has F .poison] [Has F .threads] [Has F .cyls] [Has F .engs] [Has F .ks] [Has F .guard] [Has F .intake] [Has F .turns] [Has F .srcs] [Has F .arbs] [Has F .doms] [Has F .xq] [Has F .westad] [Has F .dbg] [Has F .audit] [Has F .faults] [Has F .boot] [Has F .req] [Has F .pins] [Has F .out] (e : Fin 144) (s : State) : GoesIn F s (execAesCmacVerify e s) :=
  ⟨_, rfl, quietSettle_within _ (startJob_within _ _ _ _ (opMacVer_okw _ _ _ _ _) (Within.refl s))⟩

theorem execKwpWrap_within {F : Part → Prop} [Has F .free] [Has F .regs] [Has F .mem] [Has F .poison] [Has F .threads] [Has F .cyls] [Has F .engs] [Has F .ks] [Has F .guard] [Has F .intake] [Has F .turns] [Has F .srcs] [Has F .arbs] [Has F .doms] [Has F .xq] [Has F .westad] [Has F .dbg] [Has F .audit] [Has F .faults] [Has F .boot] [Has F .req] [Has F .pins] [Has F .out] (e : Fin 144) (s : State) : GoesIn F s (execKwpWrap e s) :=
  ⟨_, rfl, quietSettle_within _ (startJob_within _ _ _ _ (opKwpWrap_okw) (Within.refl s))⟩

theorem execKwpUnwrap_within {F : Part → Prop} [Has F .free] [Has F .regs] [Has F .mem] [Has F .poison] [Has F .threads] [Has F .cyls] [Has F .engs] [Has F .ks] [Has F .guard] [Has F .intake] [Has F .turns] [Has F .srcs] [Has F .arbs] [Has F .doms] [Has F .xq] [Has F .westad] [Has F .dbg] [Has F .audit] [Has F .faults] [Has F .boot] [Has F .req] [Has F .pins] [Has F .out] (e : Fin 144) (s : State) : GoesIn F s (execKwpUnwrap e s) :=
  ⟨_, rfl, quietSettle_within _ (startJob_within _ _ _ _ (opKwpUnwrap_okw) (Within.refl s))⟩

theorem execClearImport_within {F : Part → Prop} [Has F .free] [Has F .regs] [Has F .mem] [Has F .poison] [Has F .threads] [Has F .cyls] [Has F .engs] [Has F .ks] [Has F .guard] [Has F .intake] [Has F .turns] [Has F .srcs] [Has F .arbs] [Has F .doms] [Has F .xq] [Has F .westad] [Has F .dbg] [Has F .audit] [Has F .faults] [Has F .boot] [Has F .req] [Has F .pins] [Has F .out] (e : Fin 144) (s : State) : GoesIn F s (execClearImport e s) :=
  ⟨_, rfl, quietSettle_within _ (startJob_within _ _ _ _ (opClearImport_okw) (Within.refl s))⟩

theorem execTdesEcbEncrypt_within {F : Part → Prop} [Has F .free] [Has F .regs] [Has F .mem] [Has F .poison] [Has F .threads] [Has F .cyls] [Has F .engs] [Has F .ks] [Has F .guard] [Has F .intake] [Has F .turns] [Has F .srcs] [Has F .arbs] [Has F .doms] [Has F .xq] [Has F .westad] [Has F .dbg] [Has F .audit] [Has F .faults] [Has F .boot] [Has F .req] [Has F .pins] [Has F .out] (e : Fin 144) (s : State) : GoesIn F s (execTdesEcbEncrypt e s) :=
  ⟨_, rfl, quietSettle_within _ (startJob_within _ _ _ _ (opEcb_okw _ _ _) (Within.refl s))⟩

theorem execTdesEcbDecrypt_within {F : Part → Prop} [Has F .free] [Has F .regs] [Has F .mem] [Has F .poison] [Has F .threads] [Has F .cyls] [Has F .engs] [Has F .ks] [Has F .guard] [Has F .intake] [Has F .turns] [Has F .srcs] [Has F .arbs] [Has F .doms] [Has F .xq] [Has F .westad] [Has F .dbg] [Has F .audit] [Has F .faults] [Has F .boot] [Has F .req] [Has F .pins] [Has F .out] (e : Fin 144) (s : State) : GoesIn F s (execTdesEcbDecrypt e s) :=
  ⟨_, rfl, quietSettle_within _ (startJob_within _ _ _ _ (opEcb_okw _ _ _) (Within.refl s))⟩

theorem execTdesCbcEncrypt_within {F : Part → Prop} [Has F .free] [Has F .regs] [Has F .mem] [Has F .poison] [Has F .threads] [Has F .cyls] [Has F .engs] [Has F .ks] [Has F .guard] [Has F .intake] [Has F .turns] [Has F .srcs] [Has F .arbs] [Has F .doms] [Has F .xq] [Has F .westad] [Has F .dbg] [Has F .audit] [Has F .faults] [Has F .boot] [Has F .req] [Has F .pins] [Has F .out] (e : Fin 144) (s : State) : GoesIn F s (execTdesCbcEncrypt e s) :=
  ⟨_, rfl, quietSettle_within _ (startJob_within _ _ _ _ (opCbc_okw _ _ _ _) (Within.refl s))⟩

theorem execTdesCbcDecrypt_within {F : Part → Prop} [Has F .free] [Has F .regs] [Has F .mem] [Has F .poison] [Has F .threads] [Has F .cyls] [Has F .engs] [Has F .ks] [Has F .guard] [Has F .intake] [Has F .turns] [Has F .srcs] [Has F .arbs] [Has F .doms] [Has F .xq] [Has F .westad] [Has F .dbg] [Has F .audit] [Has F .faults] [Has F .boot] [Has F .req] [Has F .pins] [Has F .out] (e : Fin 144) (s : State) : GoesIn F s (execTdesCbcDecrypt e s) :=
  ⟨_, rfl, quietSettle_within _ (startJob_within _ _ _ _ (opCbc_okw _ _ _ _) (Within.refl s))⟩

theorem execTdesCmacGenerate_within {F : Part → Prop} [Has F .free] [Has F .regs] [Has F .mem] [Has F .poison] [Has F .threads] [Has F .cyls] [Has F .engs] [Has F .ks] [Has F .guard] [Has F .intake] [Has F .turns] [Has F .srcs] [Has F .arbs] [Has F .doms] [Has F .xq] [Has F .westad] [Has F .dbg] [Has F .audit] [Has F .faults] [Has F .boot] [Has F .req] [Has F .pins] [Has F .out] (e : Fin 144) (s : State) : GoesIn F s (execTdesCmacGenerate e s) :=
  ⟨_, rfl, quietSettle_within _ (startJob_within _ _ _ _ (opMacGen_okw _ _ _ _ _) (Within.refl s))⟩

theorem execTdesCmacVerify_within {F : Part → Prop} [Has F .free] [Has F .regs] [Has F .mem] [Has F .poison] [Has F .threads] [Has F .cyls] [Has F .engs] [Has F .ks] [Has F .guard] [Has F .intake] [Has F .turns] [Has F .srcs] [Has F .arbs] [Has F .doms] [Has F .xq] [Has F .westad] [Has F .dbg] [Has F .audit] [Has F .faults] [Has F .boot] [Has F .req] [Has F .pins] [Has F .out] (e : Fin 144) (s : State) : GoesIn F s (execTdesCmacVerify e s) :=
  ⟨_, rfl, quietSettle_within _ (startJob_within _ _ _ _ (opMacVer_okw _ _ _ _ _) (Within.refl s))⟩

theorem execMacAlgorithm3Generate_within {F : Part → Prop} [Has F .free] [Has F .regs] [Has F .mem] [Has F .poison] [Has F .threads] [Has F .cyls] [Has F .engs] [Has F .ks] [Has F .guard] [Has F .intake] [Has F .turns] [Has F .srcs] [Has F .arbs] [Has F .doms] [Has F .xq] [Has F .westad] [Has F .dbg] [Has F .audit] [Has F .faults] [Has F .boot] [Has F .req] [Has F .pins] [Has F .out] (e : Fin 144) (s : State) : GoesIn F s (execMacAlgorithm3Generate e s) :=
  ⟨_, rfl, quietSettle_within _ (startJob_within _ _ _ _ (opMacGen_okw _ _ _ _ _) (Within.refl s))⟩

theorem execMacAlgorithm3Verify_within {F : Part → Prop} [Has F .free] [Has F .regs] [Has F .mem] [Has F .poison] [Has F .threads] [Has F .cyls] [Has F .engs] [Has F .ks] [Has F .guard] [Has F .intake] [Has F .turns] [Has F .srcs] [Has F .arbs] [Has F .doms] [Has F .xq] [Has F .westad] [Has F .dbg] [Has F .audit] [Has F .faults] [Has F .boot] [Has F .req] [Has F .pins] [Has F .out] (e : Fin 144) (s : State) : GoesIn F s (execMacAlgorithm3Verify e s) :=
  ⟨_, rfl, quietSettle_within _ (startJob_within _ _ _ _ (opMacVer_okw _ _ _ _ _) (Within.refl s))⟩

/-! ### KeccakJobs -/

theorem opHash_okw {F : Part → Prop} (r : Nat) (dom : Byte) (lenOk : Nat → Bool) : OpWithin F (opHash r dom lenOk) := by
  constructor <;> intro s0 c s hk <;> dsimp only [opHash, opPlain]
  iterate 20 (try (any_goals (first | exact hk | with_reducible assumption | with_reducible apply within_ite | with_reducible apply within_ite_snd | split | extract_lets | dsimp -zeta only)))

theorem opSha3_okw {F : Part → Prop} (n : Nat) : OpWithin F (opSha3 n) := by
  constructor <;> intro s0 c s hk <;> dsimp only [opSha3, opHash, opPlain]
  iterate 20 (try (any_goals (first | exact hk | with_reducible assumption | with_reducible apply within_ite | with_reducible apply within_ite_snd | split | extract_lets | dsimp -zeta only)))

theorem opShake_okw {F : Part → Prop} (bits : Nat) : OpWithin F (opShake bits) := by
  constructor <;> intro s0 c s hk <;> dsimp only [opShake, opHash, opPlain]
  iterate 20 (try (any_goals (first | exact hk | with_reducible assumption | with_reducible apply within_ite | with_reducible apply within_ite_snd | split | extract_lets | dsimp -zeta only)))

theorem opKmacGen_okw {F : Part → Prop} (bits : Nat) : OpWithin F (opKmacGen bits) := by
  constructor <;> intro s0 c s hk <;> dsimp only [opKmacGen, opPlain]
  iterate 20 (try (any_goals (first | exact hk | with_reducible assumption | with_reducible apply within_ite | with_reducible apply within_ite_snd | split | extract_lets | dsimp -zeta only)))

theorem opKmacVer_okw {F : Part → Prop} (bits : Nat) : OpWithin F (opKmacVer bits) := by
  constructor <;> intro s0 c s hk <;> dsimp only [opKmacVer, opPlain]
  iterate 20 (try (any_goals (first | exact hk | with_reducible assumption | with_reducible apply within_ite | with_reducible apply within_ite_snd | split | extract_lets | dsimp -zeta only)))

theorem opKmacDerive_okw {F : Part → Prop}  : OpWithin F (opKmacDerive ) := by
  constructor <;> intro s0 c s hk <;> dsimp only [opKmacDerive, opPlain]
  iterate 20 (try (any_goals (first | exact hk | with_reducible assumption | with_reducible apply within_ite | with_reducible apply within_ite_snd | split | extract_lets | dsimp -zeta only)))

theorem execSha3224_within {F : Part → Prop} [Has F .free] [Has F .regs] [Has F .mem] [Has F .poison] [Has F .threads] [Has F .cyls] [Has F .engs] [Has F .ks] [Has F .guard] [Has F .intake] [Has F .turns] [Has F .srcs] [Has F .arbs] [Has F .doms] [Has F .xq] [Has F .westad] [Has F .dbg] [Has F .audit] [Has F .faults] [Has F .boot] [Has F .req] [Has F .pins] [Has F .out] (e : Fin 144) (s : State) : GoesIn F s (execSha3224 e s) :=
  ⟨_, rfl, quietSettle_within _ (startJob_within _ _ _ _ (opSha3_okw _) (Within.refl s))⟩

theorem execSha3256_within {F : Part → Prop} [Has F .free] [Has F .regs] [Has F .mem] [Has F .poison] [Has F .threads] [Has F .cyls] [Has F .engs] [Has F .ks] [Has F .guard] [Has F .intake] [Has F .turns] [Has F .srcs] [Has F .arbs] [Has F .doms] [Has F .xq] [Has F .westad] [Has F .dbg] [Has F .audit] [Has F .faults] [Has F .boot] [Has F .req] [Has F .pins] [Has F .out] (e : Fin 144) (s : State) : GoesIn F s (execSha3256 e s) :=
  ⟨_, rfl, quietSettle_within _ (startJob_within _ _ _ _ (opSha3_okw _) (Within.refl s))⟩

theorem execSha3384_within {F : Part → Prop} [Has F .free] [Has F .regs] [Has F .mem] [Has F .poison] [Has F .threads] [Has F .cyls] [Has F .engs] [Has F .ks] [Has F .guard] [Has F .intake] [Has F .turns] [Has F .srcs] [Has F .arbs] [Has F .doms] [Has F .xq] [Has F .westad] [Has F .dbg] [Has F .audit] [Has F .faults] [Has F .boot] [Has F .req] [Has F .pins] [Has F .out] (e : Fin 144) (s : State) : GoesIn F s (execSha3384 e s) :=
  ⟨_, rfl, quietSettle_within _ (startJob_within _ _ _ _ (opSha3_okw _) (Within.refl s))⟩

theorem execSha3512_within {F : Part → Prop} [Has F .free] [Has F .regs] [Has F .mem] [Has F .poison] [Has F .threads] [Has F .cyls] [Has F .engs] [Has F .ks] [Has F .guard] [Has F .intake] [Has F .turns] [Has F .srcs] [Has F .arbs] [Has F .doms] [Has F .xq] [Has F .westad] [Has F .dbg] [Has F .audit] [Has F .faults] [Has F .boot] [Has F .req] [Has F .pins] [Has F .out] (e : Fin 144) (s : State) : GoesIn F s (execSha3512 e s) :=
  ⟨_, rfl, quietSettle_within _ (startJob_within _ _ _ _ (opSha3_okw _) (Within.refl s))⟩

theorem execShake128_within {F : Part → Prop} [Has F .free] [Has F .regs] [Has F .mem] [Has F .poison] [Has F .threads] [Has F .cyls] [Has F .engs] [Has F .ks] [Has F .guard] [Has F .intake] [Has F .turns] [Has F .srcs] [Has F .arbs] [Has F .doms] [Has F .xq] [Has F .westad] [Has F .dbg] [Has F .audit] [Has F .faults] [Has F .boot] [Has F .req] [Has F .pins] [Has F .out] (e : Fin 144) (s : State) : GoesIn F s (execShake128 e s) :=
  ⟨_, rfl, quietSettle_within _ (startJob_within _ _ _ _ (opShake_okw _) (Within.refl s))⟩

theorem execShake256_within {F : Part → Prop} [Has F .free] [Has F .regs] [Has F .mem] [Has F .poison] [Has F .threads] [Has F .cyls] [Has F .engs] [Has F .ks] [Has F .guard] [Has F .intake] [Has F .turns] [Has F .srcs] [Has F .arbs] [Has F .doms] [Has F .xq] [Has F .westad] [Has F .dbg] [Has F .audit] [Has F .faults] [Has F .boot] [Has F .req] [Has F .pins] [Has F .out] (e : Fin 144) (s : State) : GoesIn F s (execShake256 e s) :=
  ⟨_, rfl, quietSettle_within _ (startJob_within _ _ _ _ (opShake_okw _) (Within.refl s))⟩

theorem execKmac128Generate_within {F : Part → Prop} [Has F .free] [Has F .regs] [Has F .mem] [Has F .poison] [Has F .threads] [Has F .cyls] [Has F .engs] [Has F .ks] [Has F .guard] [Has F .intake] [Has F .turns] [Has F .srcs] [Has F .arbs] [Has F .doms] [Has F .xq] [Has F .westad] [Has F .dbg] [Has F .audit] [Has F .faults] [Has F .boot] [Has F .req] [Has F .pins] [Has F .out] (e : Fin 144) (s : State) : GoesIn F s (execKmac128Generate e s) :=
  ⟨_, rfl, quietSettle_within _ (startJob_within _ _ _ _ (opKmacGen_okw _) (Within.refl s))⟩

theorem execKmac128Verify_within {F : Part → Prop} [Has F .free] [Has F .regs] [Has F .mem] [Has F .poison] [Has F .threads] [Has F .cyls] [Has F .engs] [Has F .ks] [Has F .guard] [Has F .intake] [Has F .turns] [Has F .srcs] [Has F .arbs] [Has F .doms] [Has F .xq] [Has F .westad] [Has F .dbg] [Has F .audit] [Has F .faults] [Has F .boot] [Has F .req] [Has F .pins] [Has F .out] (e : Fin 144) (s : State) : GoesIn F s (execKmac128Verify e s) :=
  ⟨_, rfl, quietSettle_within _ (startJob_within _ _ _ _ (opKmacVer_okw _) (Within.refl s))⟩

theorem execKmac256Generate_within {F : Part → Prop} [Has F .free] [Has F .regs] [Has F .mem] [Has F .poison] [Has F .threads] [Has F .cyls] [Has F .engs] [Has F .ks] [Has F .guard] [Has F .intake] [Has F .turns] [Has F .srcs] [Has F .arbs] [Has F .doms] [Has F .xq] [Has F .westad] [Has F .dbg] [Has F .audit] [Has F .faults] [Has F .boot] [Has F .req] [Has F .pins] [Has F .out] (e : Fin 144) (s : State) : GoesIn F s (execKmac256Generate e s) :=
  ⟨_, rfl, quietSettle_within _ (startJob_within _ _ _ _ (opKmacGen_okw _) (Within.refl s))⟩

theorem execKmac256Verify_within {F : Part → Prop} [Has F .free] [Has F .regs] [Has F .mem] [Has F .poison] [Has F .threads] [Has F .cyls] [Has F .engs] [Has F .ks] [Has F .guard] [Has F .intake] [Has F .turns] [Has F .srcs] [Has F .arbs] [Has F .doms] [Has F .xq] [Has F .westad] [Has F .dbg] [Has F .audit] [Has F .faults] [Has F .boot] [Has F .req] [Has F .pins] [Has F .out] (e : Fin 144) (s : State) : GoesIn F s (execKmac256Verify e s) :=
  ⟨_, rfl, quietSettle_within _ (startJob_within _ _ _ _ (opKmacVer_okw _) (Within.refl s))⟩

theorem execKmac256Derivation_within {F : Part → Prop} [Has F .free] [Has F .regs] [Has F .mem] [Has F .poison] [Has F .threads] [Has F .cyls] [Has F .engs] [Has F .ks] [Has F .guard] [Has F .intake] [Has F .turns] [Has F .srcs] [Has F .arbs] [Has F .doms] [Has F .xq] [Has F .westad] [Has F .dbg] [Has F .audit] [Has F .faults] [Has F .boot] [Has F .req] [Has F .pins] [Has F .out] (e : Fin 144) (s : State) : GoesIn F s (execKmac256Derivation e s) :=
  ⟨_, rfl, quietSettle_within _ (startJob_within _ _ _ _ (opKmacDerive_okw) (Within.refl s))⟩

/-! ### PublicJobs -/

theorem opDsaKeyGen_okw {F : Part → Prop} [Has F .free] [Has F .krs]  : OpWithin F (opDsaKeyGen ) := by
  constructor <;> intro s0 c s hk <;> dsimp only [opDsaKeyGen, withDraw, opPlain]
  iterate 20 (try (any_goals (first | exact hk | with_reducible assumption | with_reducible apply within_ite | with_reducible apply within_ite_snd | with_reducible apply drbgDraw_within | split | extract_lets | dsimp -zeta only)))

theorem opDsaSign_okw {F : Part → Prop} [Has F .free] [Has F .krs]  : OpWithin F (opDsaSign ) := by
  constructor <;> intro s0 c s hk <;> dsimp only [opDsaSign, withDraw, opPlain]
  iterate 20 (try (any_goals (first | exact hk | with_reducible assumption | with_reducible apply within_ite | with_reducible apply within_ite_snd | with_reducible apply drbgDraw_within | split | extract_lets | dsimp -zeta only)))

theorem opDsaVerify_okw {F : Part → Prop}  : OpWithin F (opDsaVerify ) := by
  constructor <;> intro s0 c s hk <;> dsimp only [opDsaVerify, opPlain]
  iterate 20 (try (any_goals (first | exact hk | with_reducible assumption | with_reducible apply within_ite | with_reducible apply within_ite_snd | split | extract_lets | dsimp -zeta only)))

theorem opKemKeyGen_okw {F : Part → Prop} [Has F .free] [Has F .krs]  : OpWithin F (opKemKeyGen ) := by
  constructor <;> intro s0 c s hk <;> dsimp only [opKemKeyGen, withDraw, opPlain]
  iterate 20 (try (any_goals (first | exact hk | with_reducible assumption | with_reducible apply within_ite | with_reducible apply within_ite_snd | with_reducible apply drbgDraw_within | split | extract_lets | dsimp -zeta only)))

theorem opKemEncap_okw {F : Part → Prop} [Has F .free] [Has F .krs]  : OpWithin F (opKemEncap ) := by
  constructor <;> intro s0 c s hk <;> dsimp only [opKemEncap, withDraw, opPlain]
  iterate 20 (try (any_goals (first | exact hk | with_reducible assumption | with_reducible apply within_ite | with_reducible apply within_ite_snd | with_reducible apply drbgDraw_within | split | extract_lets | dsimp -zeta only)))

theorem opKemDecap_okw {F : Part → Prop}  : OpWithin F (opKemDecap ) := by
  constructor <;> intro s0 c s hk <;> dsimp only [opKemDecap, opPlain]
  iterate 20 (try (any_goals (first | exact hk | with_reducible assumption | with_reducible apply within_ite | with_reducible apply within_ite_snd | split | extract_lets | dsimp -zeta only)))

theorem opRsaSign_okw {F : Part → Prop} [Has F .free] [Has F .krs]  : OpWithin F (opRsaSign ) := by
  constructor <;> intro s0 c s hk <;> dsimp only [opRsaSign, withDraw, opPlain]
  iterate 20 (try (any_goals (first | exact hk | with_reducible assumption | with_reducible apply within_ite | with_reducible apply within_ite_snd | with_reducible apply drbgDraw_within | split | extract_lets | dsimp -zeta only)))

theorem opRsaVerify_okw {F : Part → Prop}  : OpWithin F (opRsaVerify ) := by
  constructor <;> intro s0 c s hk <;> dsimp only [opRsaVerify, opPlain]
  iterate 20 (try (any_goals (first | exact hk | with_reducible assumption | with_reducible apply within_ite | with_reducible apply within_ite_snd | split | extract_lets | dsimp -zeta only)))

theorem opRsaOaep_okw {F : Part → Prop}  : OpWithin F (opRsaOaep ) := by
  constructor <;> intro s0 c s hk <;> dsimp only [opRsaOaep, opPlain]
  iterate 20 (try (any_goals (first | exact hk | with_reducible assumption | with_reducible apply within_ite | with_reducible apply within_ite_snd | split | extract_lets | dsimp -zeta only)))

theorem opRsaKeyGen_okw {F : Part → Prop} [Has F .free] [Has F .krs]  : OpWithin F (opRsaKeyGen ) := by
  constructor <;> intro s0 c s hk <;> dsimp only [opRsaKeyGen, withDraw, opPlain]
  iterate 20 (try (any_goals (first | exact hk | with_reducible assumption | with_reducible apply within_ite | with_reducible apply within_ite_snd | with_reducible apply drbgDraw_within | split | extract_lets | dsimp -zeta only)))

theorem opEcdsaSign_okw {F : Part → Prop} [Has F .free] [Has F .krs]  : OpWithin F (opEcdsaSign ) := by
  constructor <;> intro s0 c s hk <;> dsimp only [opEcdsaSign, withDraw, opPlain]
  iterate 20 (try (any_goals (first | exact hk | with_reducible assumption | with_reducible apply within_ite | with_reducible apply within_ite_snd | with_reducible apply drbgDraw_within | split | extract_lets | dsimp -zeta only)))

theorem opEcdsaVerify_okw {F : Part → Prop}  : OpWithin F (opEcdsaVerify ) := by
  constructor <;> intro s0 c s hk <;> dsimp only [opEcdsaVerify, opPlain]
  iterate 20 (try (any_goals (first | exact hk | with_reducible assumption | with_reducible apply within_ite | with_reducible apply within_ite_snd | split | extract_lets | dsimp -zeta only)))

theorem opEcdh_okw {F : Part → Prop}  : OpWithin F (opEcdh ) := by
  constructor <;> intro s0 c s hk <;> dsimp only [opEcdh, opPlain]
  iterate 20 (try (any_goals (first | exact hk | with_reducible assumption | with_reducible apply within_ite | with_reducible apply within_ite_snd | split | extract_lets | dsimp -zeta only)))

theorem opEcKeyGen_okw {F : Part → Prop} [Has F .free] [Has F .krs]  : OpWithin F (opEcKeyGen ) := by
  constructor <;> intro s0 c s hk <;> dsimp only [opEcKeyGen, withDraw, opPlain]
  iterate 20 (try (any_goals (first | exact hk | with_reducible assumption | with_reducible apply within_ite | with_reducible apply within_ite_snd | with_reducible apply drbgDraw_within | split | extract_lets | dsimp -zeta only)))

theorem opEdSign_okw {F : Part → Prop}  : OpWithin F (opEdSign ) := by
  constructor <;> intro s0 c s hk <;> dsimp only [opEdSign, opPlain]
  iterate 20 (try (any_goals (first | exact hk | with_reducible assumption | with_reducible apply within_ite | with_reducible apply within_ite_snd | split | extract_lets | dsimp -zeta only)))

theorem opEdVerify_okw {F : Part → Prop}  : OpWithin F (opEdVerify ) := by
  constructor <;> intro s0 c s hk <;> dsimp only [opEdVerify, opPlain]
  iterate 20 (try (any_goals (first | exact hk | with_reducible assumption | with_reducible apply within_ite | with_reducible apply within_ite_snd | split | extract_lets | dsimp -zeta only)))

theorem opModExp_okw {F : Part → Prop}  : OpWithin F (opModExp ) := by
  constructor <;> intro s0 c s hk <;> dsimp only [opModExp, opPlain]
  iterate 20 (try (any_goals (first | exact hk | with_reducible assumption | with_reducible apply within_ite | with_reducible apply within_ite_snd | split | extract_lets | dsimp -zeta only)))

theorem execMlDsaKeyGeneration_within {F : Part → Prop} [Has F .free] [Has F .regs] [Has F .mem] [Has F .poison] [Has F .threads] [Has F .cyls] [Has F .krs] [Has F .engs] [Has F .ks] [Has F .guard] [Has F .intake] [Has F .turns] [Has F .srcs] [Has F .arbs] [Has F .doms] [Has F .xq] [Has F .westad] [Has F .dbg] [Has F .audit] [Has F .faults] [Has F .boot] [Has F .req] [Has F .pins] [Has F .out] (e : Fin 144) (s : State) : GoesIn F s (execMlDsaKeyGeneration e s) :=
  ⟨_, rfl, quietSettle_within _ (startJob_within _ _ _ _ (opDsaKeyGen_okw) (Within.refl s))⟩

theorem execMlDsaSign_within {F : Part → Prop} [Has F .free] [Has F .regs] [Has F .mem] [Has F .poison] [Has F .threads] [Has F .cyls] [Has F .krs] [Has F .engs] [Has F .ks] [Has F .guard] [Has F .intake] [Has F .turns] [Has F .srcs] [Has F .arbs] [Has F .doms] [Has F .xq] [Has F .westad] [Has F .dbg] [Has F .audit] [Has F .faults] [Has F .boot] [Has F .req] [Has F .pins] [Has F .out] (e : Fin 144) (s : State) : GoesIn F s (execMlDsaSign e s) :=
  ⟨_, rfl, quietSettle_within _ (startJob_within _ _ _ _ (opDsaSign_okw) (Within.refl s))⟩

theorem execMlDsaVerify_within {F : Part → Prop} [Has F .free] [Has F .regs] [Has F .mem] [Has F .poison] [Has F .threads] [Has F .cyls] [Has F .engs] [Has F .ks] [Has F .guard] [Has F .intake] [Has F .turns] [Has F .srcs] [Has F .arbs] [Has F .doms] [Has F .xq] [Has F .westad] [Has F .dbg] [Has F .audit] [Has F .faults] [Has F .boot] [Has F .req] [Has F .pins] [Has F .out] (e : Fin 144) (s : State) : GoesIn F s (execMlDsaVerify e s) :=
  ⟨_, rfl, quietSettle_within _ (startJob_within _ _ _ _ (opDsaVerify_okw) (Within.refl s))⟩

theorem execMlKemKeyGeneration_within {F : Part → Prop} [Has F .free] [Has F .regs] [Has F .mem] [Has F .poison] [Has F .threads] [Has F .cyls] [Has F .krs] [Has F .engs] [Has F .ks] [Has F .guard] [Has F .intake] [Has F .turns] [Has F .srcs] [Has F .arbs] [Has F .doms] [Has F .xq] [Has F .westad] [Has F .dbg] [Has F .audit] [Has F .faults] [Has F .boot] [Has F .req] [Has F .pins] [Has F .out] (e : Fin 144) (s : State) : GoesIn F s (execMlKemKeyGeneration e s) :=
  ⟨_, rfl, quietSettle_within _ (startJob_within _ _ _ _ (opKemKeyGen_okw) (Within.refl s))⟩

theorem execMlKemEncapsulate_within {F : Part → Prop} [Has F .free] [Has F .regs] [Has F .mem] [Has F .poison] [Has F .threads] [Has F .cyls] [Has F .krs] [Has F .engs] [Has F .ks] [Has F .guard] [Has F .intake] [Has F .turns] [Has F .srcs] [Has F .arbs] [Has F .doms] [Has F .xq] [Has F .westad] [Has F .dbg] [Has F .audit] [Has F .faults] [Has F .boot] [Has F .req] [Has F .pins] [Has F .out] (e : Fin 144) (s : State) : GoesIn F s (execMlKemEncapsulate e s) :=
  ⟨_, rfl, quietSettle_within _ (startJob_within _ _ _ _ (opKemEncap_okw) (Within.refl s))⟩

theorem execMlKemDecapsulate_within {F : Part → Prop} [Has F .free] [Has F .regs] [Has F .mem] [Has F .poison] [Has F .threads] [Has F .cyls] [Has F .engs] [Has F .ks] [Has F .guard] [Has F .intake] [Has F .turns] [Has F .srcs] [Has F .arbs] [Has F .doms] [Has F .xq] [Has F .westad] [Has F .dbg] [Has F .audit] [Has F .faults] [Has F .boot] [Has F .req] [Has F .pins] [Has F .out] (e : Fin 144) (s : State) : GoesIn F s (execMlKemDecapsulate e s) :=
  ⟨_, rfl, quietSettle_within _ (startJob_within _ _ _ _ (opKemDecap_okw) (Within.refl s))⟩

theorem execRsaPrivateKeySignature_within {F : Part → Prop} [Has F .free] [Has F .regs] [Has F .mem] [Has F .poison] [Has F .threads] [Has F .cyls] [Has F .krs] [Has F .engs] [Has F .ks] [Has F .guard] [Has F .intake] [Has F .turns] [Has F .srcs] [Has F .arbs] [Has F .doms] [Has F .xq] [Has F .westad] [Has F .dbg] [Has F .audit] [Has F .faults] [Has F .boot] [Has F .req] [Has F .pins] [Has F .out] (e : Fin 144) (s : State) : GoesIn F s (execRsaPrivateKeySignature e s) :=
  ⟨_, rfl, quietSettle_within _ (startJob_within _ _ _ _ (opRsaSign_okw) (Within.refl s))⟩

theorem execRsaPublicVerify_within {F : Part → Prop} [Has F .free] [Has F .regs] [Has F .mem] [Has F .poison] [Has F .threads] [Has F .cyls] [Has F .engs] [Has F .ks] [Has F .guard] [Has F .intake] [Has F .turns] [Has F .srcs] [Has F .arbs] [Has F .doms] [Has F .xq] [Has F .westad] [Has F .dbg] [Has F .audit] [Has F .faults] [Has F .boot] [Has F .req] [Has F .pins] [Has F .out] (e : Fin 144) (s : State) : GoesIn F s (execRsaPublicVerify e s) :=
  ⟨_, rfl, quietSettle_within _ (startJob_within _ _ _ _ (opRsaVerify_okw) (Within.refl s))⟩

theorem execRsaOaepUnwrap_within {F : Part → Prop} [Has F .free] [Has F .regs] [Has F .mem] [Has F .poison] [Has F .threads] [Has F .cyls] [Has F .engs] [Has F .ks] [Has F .guard] [Has F .intake] [Has F .turns] [Has F .srcs] [Has F .arbs] [Has F .doms] [Has F .xq] [Has F .westad] [Has F .dbg] [Has F .audit] [Has F .faults] [Has F .boot] [Has F .req] [Has F .pins] [Has F .out] (e : Fin 144) (s : State) : GoesIn F s (execRsaOaepUnwrap e s) :=
  ⟨_, rfl, quietSettle_within _ (startJob_within _ _ _ _ (opRsaOaep_okw) (Within.refl s))⟩

theorem execRsaKeyGeneration_within {F : Part → Prop} [Has F .free] [Has F .regs] [Has F .mem] [Has F .poison] [Has F .threads] [Has F .cyls] [Has F .krs] [Has F .engs] [Has F .ks] [Has F .guard] [Has F .intake] [Has F .turns] [Has F .srcs] [Has F .arbs] [Has F .doms] [Has F .xq] [Has F .westad] [Has F .dbg] [Has F .audit] [Has F .faults] [Has F .boot] [Has F .req] [Has F .pins] [Has F .out] (e : Fin 144) (s : State) : GoesIn F s (execRsaKeyGeneration e s) :=
  ⟨_, rfl, quietSettle_within _ (startJob_within _ _ _ _ (opRsaKeyGen_okw) (Within.refl s))⟩

theorem execEcdsaSign_within {F : Part → Prop} [Has F .free] [Has F .regs] [Has F .mem] [Has F .poison] [Has F .threads] [Has F .cyls] [Has F .krs] [Has F .engs] [Has F .ks] [Has F .guard] [Has F .intake] [Has F .turns] [Has F .srcs] [Has F .arbs] [Has F .doms] [Has F .xq] [Has F .westad] [Has F .dbg] [Has F .audit] [Has F .faults] [Has F .boot] [Has F .req] [Has F .pins] [Has F .out] (e : Fin 144) (s : State) : GoesIn F s (execEcdsaSign e s) :=
  ⟨_, rfl, quietSettle_within _ (startJob_within _ _ _ _ (opEcdsaSign_okw) (Within.refl s))⟩

theorem execEcdsaVerify_within {F : Part → Prop} [Has F .free] [Has F .regs] [Has F .mem] [Has F .poison] [Has F .threads] [Has F .cyls] [Has F .engs] [Has F .ks] [Has F .guard] [Has F .intake] [Has F .turns] [Has F .srcs] [Has F .arbs] [Has F .doms] [Has F .xq] [Has F .westad] [Has F .dbg] [Has F .audit] [Has F .faults] [Has F .boot] [Has F .req] [Has F .pins] [Has F .out] (e : Fin 144) (s : State) : GoesIn F s (execEcdsaVerify e s) :=
  ⟨_, rfl, quietSettle_within _ (startJob_within _ _ _ _ (opEcdsaVerify_okw) (Within.refl s))⟩

theorem execEcdh_within {F : Part → Prop} [Has F .free] [Has F .regs] [Has F .mem] [Has F .poison] [Has F .threads] [Has F .cyls] [Has F .engs] [Has F .ks] [Has F .guard] [Has F .intake] [Has F .turns] [Has F .srcs] [Has F .arbs] [Has F .doms] [Has F .xq] [Has F .westad] [Has F .dbg] [Has F .audit] [Has F .faults] [Has F .boot] [Has F .req] [Has F .pins] [Has F .out] (e : Fin 144) (s : State) : GoesIn F s (execEcdh e s) :=
  ⟨_, rfl, quietSettle_within _ (startJob_within _ _ _ _ (opEcdh_okw) (Within.refl s))⟩

theorem execEcKeyGeneration_within {F : Part → Prop} [Has F .free] [Has F .regs] [Has F .mem] [Has F .poison] [Has F .threads] [Has F .cyls] [Has F .krs] [Has F .engs] [Has F .ks] [Has F .guard] [Has F .intake] [Has F .turns] [Has F .srcs] [Has F .arbs] [Has F .doms] [Has F .xq] [Has F .westad] [Has F .dbg] [Has F .audit] [Has F .faults] [Has F .boot] [Has F .req] [Has F .pins] [Has F .out] (e : Fin 144) (s : State) : GoesIn F s (execEcKeyGeneration e s) :=
  ⟨_, rfl, quietSettle_within _ (startJob_within _ _ _ _ (opEcKeyGen_okw) (Within.refl s))⟩

theorem execEd25519Sign_within {F : Part → Prop} [Has F .free] [Has F .regs] [Has F .mem] [Has F .poison] [Has F .threads] [Has F .cyls] [Has F .engs] [Has F .ks] [Has F .guard] [Has F .intake] [Has F .turns] [Has F .srcs] [Has F .arbs] [Has F .doms] [Has F .xq] [Has F .westad] [Has F .dbg] [Has F .audit] [Has F .faults] [Has F .boot] [Has F .req] [Has F .pins] [Has F .out] (e : Fin 144) (s : State) : GoesIn F s (execEd25519Sign e s) :=
  ⟨_, rfl, quietSettle_within _ (startJob_within _ _ _ _ (opEdSign_okw) (Within.refl s))⟩

theorem execEd25519Verify_within {F : Part → Prop} [Has F .free] [Has F .regs] [Has F .mem] [Has F .poison] [Has F .threads] [Has F .cyls] [Has F .engs] [Has F .ks] [Has F .guard] [Has F .intake] [Has F .turns] [Has F .srcs] [Has F .arbs] [Has F .doms] [Has F .xq] [Has F .westad] [Has F .dbg] [Has F .audit] [Has F .faults] [Has F .boot] [Has F .req] [Has F .pins] [Has F .out] (e : Fin 144) (s : State) : GoesIn F s (execEd25519Verify e s) :=
  ⟨_, rfl, quietSettle_within _ (startJob_within _ _ _ _ (opEdVerify_okw) (Within.refl s))⟩

theorem execModularExponentiation_within {F : Part → Prop} [Has F .free] [Has F .regs] [Has F .mem] [Has F .poison] [Has F .threads] [Has F .cyls] [Has F .engs] [Has F .ks] [Has F .guard] [Has F .intake] [Has F .turns] [Has F .srcs] [Has F .arbs] [Has F .doms] [Has F .xq] [Has F .westad] [Has F .dbg] [Has F .audit] [Has F .faults] [Has F .boot] [Has F .req] [Has F .pins] [Has F .out] (e : Fin 144) (s : State) : GoesIn F s (execModularExponentiation e s) :=
  ⟨_, rfl, quietSettle_within _ (startJob_within _ _ _ _ (opModExp_okw) (Within.refl s))⟩

/-! ### DrbgJobs -/

theorem opDrbgGenerate_okw {F : Part → Prop} [Has F .free] [Has F .krs]  : OpWithin F (opDrbgGenerate ) := by
  constructor <;> intro s0 c s hk <;> dsimp only [opDrbgGenerate, opPlain]
  iterate 20 (try (any_goals (first | exact hk | with_reducible assumption | with_reducible apply within_ite | with_reducible apply within_ite_snd | with_reducible apply drbgDraw_within | split | extract_lets | dsimp -zeta only)))

theorem opDrbgReseed_okw {F : Part → Prop} [Has F .krs]  : OpWithin F (opDrbgReseed ) := by
  constructor <;> intro s0 c s hk <;> dsimp only [opDrbgReseed, opPlain]
  iterate 20 (try (any_goals (first | exact hk | with_reducible assumption | with_reducible apply within_ite | with_reducible apply within_ite_snd | with_reducible apply reseed_within | split | extract_lets | dsimp -zeta only)))

theorem opDrbgKey_okw {F : Part → Prop} [Has F .free] [Has F .krs]  : OpWithin F (opDrbgKey ) := by
  constructor <;> intro s0 c s hk <;> dsimp only [opDrbgKey, opPlain]
  iterate 20 (try (any_goals (first | exact hk | with_reducible assumption | with_reducible apply within_ite | with_reducible apply within_ite_snd | with_reducible apply drbgDraw_within | split | extract_lets | dsimp -zeta only)))

theorem execDrbgGenerate_within {F : Part → Prop} [Has F .free] [Has F .regs] [Has F .mem] [Has F .poison] [Has F .threads] [Has F .cyls] [Has F .krs] [Has F .engs] [Has F .ks] [Has F .guard] [Has F .intake] [Has F .turns] [Has F .srcs] [Has F .arbs] [Has F .doms] [Has F .xq] [Has F .westad] [Has F .dbg] [Has F .audit] [Has F .faults] [Has F .boot] [Has F .req] [Has F .pins] [Has F .out] (e : Fin 144) (s : State) : GoesIn F s (execDrbgGenerate e s) :=
  ⟨_, rfl, quietSettle_within _ (startJob_within _ _ _ _ (opDrbgGenerate_okw) (Within.refl s))⟩

theorem execDrbgReseed_within {F : Part → Prop} [Has F .free] [Has F .regs] [Has F .mem] [Has F .poison] [Has F .threads] [Has F .cyls] [Has F .krs] [Has F .engs] [Has F .ks] [Has F .guard] [Has F .intake] [Has F .turns] [Has F .srcs] [Has F .arbs] [Has F .doms] [Has F .xq] [Has F .westad] [Has F .dbg] [Has F .audit] [Has F .faults] [Has F .boot] [Has F .req] [Has F .pins] [Has F .out] (e : Fin 144) (s : State) : GoesIn F s (execDrbgReseed e s) :=
  ⟨_, rfl, quietSettle_within _ (startJob_within _ _ _ _ (opDrbgReseed_okw) (Within.refl s))⟩

theorem execDrbgGenerateKey_within {F : Part → Prop} [Has F .free] [Has F .regs] [Has F .mem] [Has F .poison] [Has F .threads] [Has F .cyls] [Has F .krs] [Has F .engs] [Has F .ks] [Has F .guard] [Has F .intake] [Has F .turns] [Has F .srcs] [Has F .arbs] [Has F .doms] [Has F .xq] [Has F .westad] [Has F .dbg] [Has F .audit] [Has F .faults] [Has F .boot] [Has F .req] [Has F .pins] [Has F .out] (e : Fin 144) (s : State) : GoesIn F s (execDrbgGenerateKey e s) :=
  ⟨_, rfl, quietSettle_within _ (startJob_within _ _ _ _ (opDrbgKey_okw) (Within.refl s))⟩

theorem execDrbgAutoReseed_within {F : Part → Prop} [Has F .krs] (k : Fin 16) (p : Fin 256) (s : State) : GoesIn F s (execDrbgAutoReseed k p s) :=
  ⟨_, rfl, within_ite (reseed_within _ _ _ (Within.refl s)) (Within.refl s)⟩

/-! ### Payments -/

theorem opPin_okw {F : Part → Prop} (ok : Desc → Bool) (tail : Desc → Bytes → Bool) (run : Ctx → State → Res × State) (hr : ∀ {s0 : State} (c : Ctx) (s : State), Within F s0 s → Within F s0 (run c s).2) : OpWithin F (opPin ok tail run) := by
  constructor <;> intro s0 c s hk <;> dsimp only [opPin, opPlain]
  iterate 20 (try (any_goals (first | exact hk | with_reducible assumption | with_reducible apply within_ite | with_reducible apply within_ite_snd | exact hr _ _ hk | split | extract_lets | dsimp -zeta only)))

theorem guardIf_within {F : Part → Prop} [Has F .regs] {s0 : State} (b : Bool) (c : Ctx) (s : State) (hk : Within F s0 s) : Within F s0 (guardIf b c s).2 := by
  unfold guardIf
  iterate 60 (try (any_goals (first | with_reducible assumption | with_reducible apply within_ite | with_reducible apply within_ite_snd | with_reducible apply countGuard_within | (with_reducible apply within_foldl <;> [skip; intro _ _ _]) | split | extract_lets | (apply within_eq; with_reducible assumption) | dsimp -zeta only | ((with_reducible apply within_mk) <;> first | exact .inl Has.has | exact .inr rfl | skip))))

theorem opPinTranslate_okw {F : Part → Prop} [Has F .free] [Has F .regs] [Has F .krs]  : OpWithin F (opPinTranslate ) := by
  constructor <;> intro s0 c s hk <;> dsimp only [opPinTranslate, opPin, withDraw, opPlain]
  iterate 20 (try (any_goals (first | exact hk | with_reducible assumption | with_reducible apply within_ite | with_reducible apply within_ite_snd | with_reducible apply guardIf_within | with_reducible apply drbgDraw_within | split | extract_lets | dsimp -zeta only)))

theorem tokenGuard_within {F : Part → Prop} [Has F .regs] [Has F .guard] {s0 : State} (c : Ctx) (s : State) (hk : Within F s0 s) : Within F s0 (tokenGuard c s).2 := by
  unfold tokenGuard
  iterate 60 (try (any_goals (first | with_reducible assumption | with_reducible apply within_ite | with_reducible apply within_ite_snd | with_reducible apply takeSession_within | with_reducible apply bump_within | (with_reducible apply within_foldl <;> [skip; intro _ _ _]) | split | extract_lets | (apply within_eq; with_reducible assumption) | dsimp -zeta only | ((with_reducible apply within_mk) <;> first | exact .inl Has.has | exact .inr rfl | skip))))

theorem attemptGuard_within {F : Part → Prop} [Has F .regs] [Has F .guard] {s0 : State} (c : Ctx) (s : State) (hk : Within F s0 s) : Within F s0 (attemptGuard c s).2 := by
  unfold attemptGuard
  iterate 60 (try (any_goals (first | with_reducible assumption | with_reducible apply within_ite | with_reducible apply within_ite_snd | with_reducible apply tokenGuard_within | with_reducible apply takeAttempt_within | (with_reducible apply within_foldl <;> [skip; intro _ _ _]) | split | extract_lets | (apply within_eq; with_reducible assumption) | dsimp -zeta only | ((with_reducible apply within_mk) <;> first | exact .inl Has.has | exact .inr rfl | skip))))

theorem opPinVerifyOffset_okw {F : Part → Prop} [Has F .regs] [Has F .guard]  : OpWithin F (opPinVerifyOffset ) := by
  constructor <;> intro s0 c s hk <;> dsimp only [opPinVerifyOffset, opPin, opPlain]
  iterate 20 (try (any_goals (first | exact hk | with_reducible assumption | with_reducible apply within_ite | with_reducible apply within_ite_snd | with_reducible apply attemptGuard_within | with_reducible apply countGuard_within | split | extract_lets | dsimp -zeta only)))

theorem opPinOffset_okw {F : Part → Prop} [Has F .regs]  : OpWithin F (opPinOffset ) := by
  constructor <;> intro s0 c s hk <;> dsimp only [opPinOffset, opPin, opPlain]
  iterate 20 (try (any_goals (first | exact hk | with_reducible assumption | with_reducible apply within_ite | with_reducible apply within_ite_snd | with_reducible apply guardIf_within | split | extract_lets | dsimp -zeta only)))

theorem opPinVerifyPvv_okw {F : Part → Prop} [Has F .regs] [Has F .guard]  : OpWithin F (opPinVerifyPvv ) := by
  constructor <;> intro s0 c s hk <;> dsimp only [opPinVerifyPvv, opPin, opPlain]
  iterate 20 (try (any_goals (first | exact hk | with_reducible assumption | with_reducible apply within_ite | with_reducible apply within_ite_snd | with_reducible apply attemptGuard_within | split | extract_lets | dsimp -zeta only)))

theorem opDukptInitial_okw {F : Part → Prop}  : OpWithin F (opDukptInitial ) := by
  constructor <;> intro s0 c s hk <;> dsimp only [opDukptInitial, opPlain]
  iterate 20 (try (any_goals (first | exact hk | with_reducible assumption | with_reducible apply within_ite | with_reducible apply within_ite_snd | split | extract_lets | dsimp -zeta only)))

theorem opDukptMacGen_okw {F : Part → Prop}  : OpWithin F (opDukptMacGen ) := by
  constructor <;> intro s0 c s hk <;> dsimp only [opDukptMacGen, opPlain]
  iterate 20 (try (any_goals (first | exact hk | with_reducible assumption | with_reducible apply within_ite | with_reducible apply within_ite_snd | split | extract_lets | dsimp -zeta only)))

theorem opDukptMacVer_okw {F : Part → Prop}  : OpWithin F (opDukptMacVer ) := by
  constructor <;> intro s0 c s hk <;> dsimp only [opDukptMacVer, opPlain]
  iterate 20 (try (any_goals (first | exact hk | with_reducible assumption | with_reducible apply within_ite | with_reducible apply within_ite_snd | split | extract_lets | dsimp -zeta only)))

theorem opDukptDecrypt_okw {F : Part → Prop}  : OpWithin F (opDukptDecrypt ) := by
  constructor <;> intro s0 c s hk <;> dsimp only [opDukptDecrypt, opPlain]
  iterate 20 (try (any_goals (first | exact hk | with_reducible assumption | with_reducible apply within_ite | with_reducible apply within_ite_snd | split | extract_lets | dsimp -zeta only)))

theorem opTr31Unwrap_okw {F : Part → Prop} [Has F .regs]  : OpWithin F (opTr31Unwrap ) := by
  constructor <;> intro s0 c s hk <;> dsimp only [opTr31Unwrap, opPlain]
  iterate 20 (try (any_goals (first | exact hk | with_reducible assumption | with_reducible apply within_ite | with_reducible apply within_ite_snd | with_reducible apply guardIf_within | with_reducible apply countGuard_within | split | extract_lets | dsimp -zeta only)))

theorem opTr31Wrap_okw {F : Part → Prop} [Has F .free] [Has F .regs] [Has F .krs]  : OpWithin F (opTr31Wrap ) := by
  constructor <;> intro s0 c s hk <;> dsimp only [opTr31Wrap, withDraw, opPlain]
  iterate 20 (try (any_goals (first | exact hk | with_reducible assumption | with_reducible apply within_ite | with_reducible apply within_ite_snd | with_reducible apply wrapGuard_within | with_reducible apply drbgDraw_within | split | extract_lets | dsimp -zeta only)))

theorem opEmv_okw {F : Part → Prop} (ok : Desc → Bool) (tail : Desc → Nat → Bool) (run : Ctx → State → Res × State) (hr : ∀ {s0 : State} (c : Ctx) (s : State), Within F s0 s → Within F s0 (run c s).2) : OpWithin F (opEmv ok tail run) := by
  constructor <;> intro s0 c s hk <;> dsimp only [opEmv, opPlain]
  iterate 20 (try (any_goals (first | exact hk | with_reducible assumption | with_reducible apply within_ite | with_reducible apply within_ite_snd | exact hr _ _ hk | split | extract_lets | dsimp -zeta only)))

theorem opArqcVerify_okw {F : Part → Prop}  : OpWithin F (opArqcVerify ) := by
  constructor <;> intro s0 c s hk <;> dsimp only [opArqcVerify, opEmv, opPlain]
  iterate 20 (try (any_goals (first | exact hk | with_reducible assumption | with_reducible apply within_ite | with_reducible apply within_ite_snd | split | extract_lets | dsimp -zeta only)))

theorem opArqcArpc_okw {F : Part → Prop}  : OpWithin F (opArqcArpc ) := by
  constructor <;> intro s0 c s hk <;> dsimp only [opArqcArpc, opEmv, opPlain]
  iterate 20 (try (any_goals (first | exact hk | with_reducible assumption | with_reducible apply within_ite | with_reducible apply within_ite_snd | split | extract_lets | dsimp -zeta only)))

theorem opCvvGenerate_okw {F : Part → Prop}  : OpWithin F (opCvvGenerate ) := by
  constructor <;> intro s0 c s hk <;> dsimp only [opCvvGenerate, opPlain]
  iterate 20 (try (any_goals (first | exact hk | with_reducible assumption | with_reducible apply within_ite | with_reducible apply within_ite_snd | split | extract_lets | dsimp -zeta only)))

theorem opCvvVerify_okw {F : Part → Prop} [Has F .regs] [Has F .guard]  : OpWithin F (opCvvVerify ) := by
  constructor <;> intro s0 c s hk <;> dsimp only [opCvvVerify, opPlain]
  iterate 20 (try (any_goals (first | exact hk | with_reducible assumption | with_reducible apply within_ite | with_reducible apply within_ite_snd | with_reducible apply tokenGuard_within | split | extract_lets | dsimp -zeta only)))

theorem opLuhnCheck_okw {F : Part → Prop}  : OpWithin F (opLuhnCheck ) := by
  constructor <;> intro s0 c s hk <;> dsimp only [opLuhnCheck, opPlain]
  iterate 20 (try (any_goals (first | exact hk | with_reducible assumption | with_reducible apply within_ite | with_reducible apply within_ite_snd | split | extract_lets | dsimp -zeta only)))

theorem opLuhnCompute_okw {F : Part → Prop}  : OpWithin F (opLuhnCompute ) := by
  constructor <;> intro s0 c s hk <;> dsimp only [opLuhnCompute, opPlain]
  iterate 20 (try (any_goals (first | exact hk | with_reducible assumption | with_reducible apply within_ite | with_reducible apply within_ite_snd | split | extract_lets | dsimp -zeta only)))

theorem opFpe_okw {F : Part → Prop} (ok : Desc → Bool) (enc : Bool) (f : Bool → Bytes → Bytes → List Nat → List Nat) : OpWithin F (opFpe ok enc f) := by
  constructor <;> intro s0 c s hk <;> dsimp only [opFpe, opPlain]
  iterate 20 (try (any_goals (first | exact hk | with_reducible assumption | with_reducible apply within_ite | with_reducible apply within_ite_snd | split | extract_lets | dsimp -zeta only)))

theorem opReToken_okw {F : Part → Prop} (ok : Desc → Bool) (f : Bool → Bytes → Bytes → List Nat → List Nat) : OpWithin F (opReToken ok f) := by
  constructor <;> intro s0 c s hk <;> dsimp only [opReToken, opPlain]
  iterate 20 (try (any_goals (first | exact hk | with_reducible assumption | with_reducible apply within_ite | with_reducible apply within_ite_snd | split | extract_lets | dsimp -zeta only)))

theorem execPinTranslate_within {F : Part → Prop} [Has F .free] [Has F .regs] [Has F .mem] [Has F .poison] [Has F .threads] [Has F .cyls] [Has F .krs] [Has F .engs] [Has F .ks] [Has F .guard] [Has F .intake] [Has F .turns] [Has F .srcs] [Has F .arbs] [Has F .doms] [Has F .xq] [Has F .westad] [Has F .dbg] [Has F .audit] [Has F .faults] [Has F .boot] [Has F .req] [Has F .pins] [Has F .out] (e : Fin 144) (s : State) : GoesIn F s (execPinTranslate e s) :=
  ⟨_, rfl, quietSettle_within _ (startJob_within _ _ _ _ (opPinTranslate_okw) (Within.refl s))⟩

theorem execPinVerifyOffset_within {F : Part → Prop} [Has F .free] [Has F .regs] [Has F .mem] [Has F .poison] [Has F .threads] [Has F .cyls] [Has F .engs] [Has F .ks] [Has F .guard] [Has F .intake] [Has F .turns] [Has F .srcs] [Has F .arbs] [Has F .doms] [Has F .xq] [Has F .westad] [Has F .dbg] [Has F .audit] [Has F .faults] [Has F .boot] [Has F .req] [Has F .pins] [Has F .out] (e : Fin 144) (s : State) : GoesIn F s (execPinVerifyOffset e s) :=
  ⟨_, rfl, quietSettle_within _ (startJob_within _ _ _ _ (opPinVerifyOffset_okw) (Within.refl s))⟩

theorem execPinVerifyPvv_within {F : Part → Prop} [Has F .free] [Has F .regs] [Has F .mem] [Has F .poison] [Has F .threads] [Has F .cyls] [Has F .engs] [Has F .ks] [Has F .guard] [Has F .intake] [Has F .turns] [Has F .srcs] [Has F .arbs] [Has F .doms] [Has F .xq] [Has F .westad] [Has F .dbg] [Has F .audit] [Has F .faults] [Has F .boot] [Has F .req] [Has F .pins] [Has F .out] (e : Fin 144) (s : State) : GoesIn F s (execPinVerifyPvv e s) :=
  ⟨_, rfl, quietSettle_within _ (startJob_within _ _ _ _ (opPinVerifyPvv_okw) (Within.refl s))⟩

theorem execPinOffsetGenerate_within {F : Part → Prop} [Has F .free] [Has F .regs] [Has F .mem] [Has F .poison] [Has F .threads] [Has F .cyls] [Has F .engs] [Has F .ks] [Has F .guard] [Has F .intake] [Has F .turns] [Has F .srcs] [Has F .arbs] [Has F .doms] [Has F .xq] [Has F .westad] [Has F .dbg] [Has F .audit] [Has F .faults] [Has F .boot] [Has F .req] [Has F .pins] [Has F .out] (e : Fin 144) (s : State) : GoesIn F s (execPinOffsetGenerate e s) :=
  ⟨_, rfl, quietSettle_within _ (startJob_within _ _ _ _ (opPinOffset_okw) (Within.refl s))⟩

theorem execDukptInitialKey_within {F : Part → Prop} [Has F .free] [Has F .regs] [Has F .mem] [Has F .poison] [Has F .threads] [Has F .cyls] [Has F .engs] [Has F .ks] [Has F .guard] [Has F .intake] [Has F .turns] [Has F .srcs] [Has F .arbs] [Has F .doms] [Has F .xq] [Has F .westad] [Has F .dbg] [Has F .audit] [Has F .faults] [Has F .boot] [Has F .req] [Has F .pins] [Has F .out] (e : Fin 144) (s : State) : GoesIn F s (execDukptInitialKey e s) :=
  ⟨_, rfl, quietSettle_within _ (startJob_within _ _ _ _ (opDukptInitial_okw) (Within.refl s))⟩

theorem execDukptMacGenerate_within {F : Part → Prop} [Has F .free] [Has F .regs] [Has F .mem] [Has F .poison] [Has F .threads] [Has F .cyls] [Has F .engs] [Has F .ks] [Has F .guard] [Has F .intake] [Has F .turns] [Has F .srcs] [Has F .arbs] [Has F .doms] [Has F .xq] [Has F .westad] [Has F .dbg] [Has F .audit] [Has F .faults] [Has F .boot] [Has F .req] [Has F .pins] [Has F .out] (e : Fin 144) (s : State) : GoesIn F s (execDukptMacGenerate e s) :=
  ⟨_, rfl, quietSettle_within _ (startJob_within _ _ _ _ (opDukptMacGen_okw) (Within.refl s))⟩

theorem execDukptMacVerify_within {F : Part → Prop} [Has F .free] [Has F .regs] [Has F .mem] [Has F .poison] [Has F .threads] [Has F .cyls] [Has F .engs] [Has F .ks] [Has F .guard] [Has F .intake] [Has F .turns] [Has F .srcs] [Has F .arbs] [Has F .doms] [Has F .xq] [Has F .westad] [Has F .dbg] [Has F .audit] [Has F .faults] [Has F .boot] [Has F .req] [Has F .pins] [Has F .out] (e : Fin 144) (s : State) : GoesIn F s (execDukptMacVerify e s) :=
  ⟨_, rfl, quietSettle_within _ (startJob_within _ _ _ _ (opDukptMacVer_okw) (Within.refl s))⟩

theorem execDukptDataDecrypt_within {F : Part → Prop} [Has F .free] [Has F .regs] [Has F .mem] [Has F .poison] [Has F .threads] [Has F .cyls] [Has F .engs] [Has F .ks] [Has F .guard] [Has F .intake] [Has F .turns] [Has F .srcs] [Has F .arbs] [Has F .doms] [Has F .xq] [Has F .westad] [Has F .dbg] [Has F .audit] [Has F .faults] [Has F .boot] [Has F .req] [Has F .pins] [Has F .out] (e : Fin 144) (s : State) : GoesIn F s (execDukptDataDecrypt e s) :=
  ⟨_, rfl, quietSettle_within _ (startJob_within _ _ _ _ (opDukptDecrypt_okw) (Within.refl s))⟩

theorem execTr31Unwrap_within {F : Part → Prop} [Has F .free] [Has F .regs] [Has F .mem] [Has F .poison] [Has F .threads] [Has F .cyls] [Has F .engs] [Has F .ks] [Has F .guard] [Has F .intake] [Has F .turns] [Has F .srcs] [Has F .arbs] [Has F .doms] [Has F .xq] [Has F .westad] [Has F .dbg] [Has F .audit] [Has F .faults] [Has F .boot] [Has F .req] [Has F .pins] [Has F .out] (e : Fin 144) (s : State) : GoesIn F s (execTr31Unwrap e s) :=
  ⟨_, rfl, quietSettle_within _ (startJob_within _ _ _ _ (opTr31Unwrap_okw) (Within.refl s))⟩

theorem execTr31Wrap_within {F : Part → Prop} [Has F .free] [Has F .regs] [Has F .mem] [Has F .poison] [Has F .threads] [Has F .cyls] [Has F .krs] [Has F .engs] [Has F .ks] [Has F .guard] [Has F .intake] [Has F .turns] [Has F .srcs] [Has F .arbs] [Has F .doms] [Has F .xq] [Has F .westad] [Has F .dbg] [Has F .audit] [Has F .faults] [Has F .boot] [Has F .req] [Has F .pins] [Has F .out] (e : Fin 144) (s : State) : GoesIn F s (execTr31Wrap e s) :=
  ⟨_, rfl, quietSettle_within _ (startJob_within _ _ _ _ (opTr31Wrap_okw) (Within.refl s))⟩

theorem execArqcVerify_within {F : Part → Prop} [Has F .free] [Has F .regs] [Has F .mem] [Has F .poison] [Has F .threads] [Has F .cyls] [Has F .engs] [Has F .ks] [Has F .guard] [Has F .intake] [Has F .turns] [Has F .srcs] [Has F .arbs] [Has F .doms] [Has F .xq] [Has F .westad] [Has F .dbg] [Has F .audit] [Has F .faults] [Has F .boot] [Has F .req] [Has F .pins] [Has F .out] (e : Fin 144) (s : State) : GoesIn F s (execArqcVerify e s) :=
  ⟨_, rfl, quietSettle_within _ (startJob_within _ _ _ _ (opArqcVerify_okw) (Within.refl s))⟩

theorem execArqcVerifyAndArpcGenerate_within {F : Part → Prop} [Has F .free] [Has F .regs] [Has F .mem] [Has F .poison] [Has F .threads] [Has F .cyls] [Has F .engs] [Has F .ks] [Has F .guard] [Has F .intake] [Has F .turns] [Has F .srcs] [Has F .arbs] [Has F .doms] [Has F .xq] [Has F .westad] [Has F .dbg] [Has F .audit] [Has F .faults] [Has F .boot] [Has F .req] [Has F .pins] [Has F .out] (e : Fin 144) (s : State) : GoesIn F s (execArqcVerifyAndArpcGenerate e s) :=
  ⟨_, rfl, quietSettle_within _ (startJob_within _ _ _ _ (opArqcArpc_okw) (Within.refl s))⟩

theorem execCvvGenerate_within {F : Part → Prop} [Has F .free] [Has F .regs] [Has F .mem] [Has F .poison] [Has F .threads] [Has F .cyls] [Has F .engs] [Has F .ks] [Has F .guard] [Has F .intake] [Has F .turns] [Has F .srcs] [Has F .arbs] [Has F .doms] [Has F .xq] [Has F .westad] [Has F .dbg] [Has F .audit] [Has F .faults] [Has F .boot] [Has F .req] [Has F .pins] [Has F .out] (e : Fin 144) (s : State) : GoesIn F s (execCvvGenerate e s) :=
  ⟨_, rfl, quietSettle_within _ (startJob_within _ _ _ _ (opCvvGenerate_okw) (Within.refl s))⟩

theorem execCvvVerify_within {F : Part → Prop} [Has F .free] [Has F .regs] [Has F .mem] [Has F .poison] [Has F .threads] [Has F .cyls] [Has F .engs] [Has F .ks] [Has F .guard] [Has F .intake] [Has F .turns] [Has F .srcs] [Has F .arbs] [Has F .doms] [Has F .xq] [Has F .westad] [Has F .dbg] [Has F .audit] [Has F .faults] [Has F .boot] [Has F .req] [Has F .pins] [Has F .out] (e : Fin 144) (s : State) : GoesIn F s (execCvvVerify e s) :=
  ⟨_, rfl, quietSettle_within _ (startJob_within _ _ _ _ (opCvvVerify_okw) (Within.refl s))⟩

theorem execLuhnCheck_within {F : Part → Prop} [Has F .free] [Has F .regs] [Has F .mem] [Has F .poison] [Has F .threads] [Has F .cyls] [Has F .engs] [Has F .ks] [Has F .guard] [Has F .intake] [Has F .turns] [Has F .srcs] [Has F .arbs] [Has F .doms] [Has F .xq] [Has F .westad] [Has F .dbg] [Has F .audit] [Has F .faults] [Has F .boot] [Has F .req] [Has F .pins] [Has F .out] (e : Fin 144) (s : State) : GoesIn F s (execLuhnCheck e s) :=
  ⟨_, rfl, quietSettle_within _ (startJob_within _ _ _ _ (opLuhnCheck_okw) (Within.refl s))⟩

theorem execLuhnCompute_within {F : Part → Prop} [Has F .free] [Has F .regs] [Has F .mem] [Has F .poison] [Has F .threads] [Has F .cyls] [Has F .engs] [Has F .ks] [Has F .guard] [Has F .intake] [Has F .turns] [Has F .srcs] [Has F .arbs] [Has F .doms] [Has F .xq] [Has F .westad] [Has F .dbg] [Has F .audit] [Has F .faults] [Has F .boot] [Has F .req] [Has F .pins] [Has F .out] (e : Fin 144) (s : State) : GoesIn F s (execLuhnCompute e s) :=
  ⟨_, rfl, quietSettle_within _ (startJob_within _ _ _ _ (opLuhnCompute_okw) (Within.refl s))⟩

theorem execFf1Encrypt_within {F : Part → Prop} [Has F .free] [Has F .regs] [Has F .mem] [Has F .poison] [Has F .threads] [Has F .cyls] [Has F .engs] [Has F .ks] [Has F .guard] [Has F .intake] [Has F .turns] [Has F .srcs] [Has F .arbs] [Has F .doms] [Has F .xq] [Has F .westad] [Has F .dbg] [Has F .audit] [Has F .faults] [Has F .boot] [Has F .req] [Has F .pins] [Has F .out] (e : Fin 144) (s : State) : GoesIn F s (execFf1Encrypt e s) :=
  ⟨_, rfl, quietSettle_within _ (startJob_within _ _ _ _ (opFpe_okw _ _ _) (Within.refl s))⟩

theorem execFf1Decrypt_within {F : Part → Prop} [Has F .free] [Has F .regs] [Has F .mem] [Has F .poison] [Has F .threads] [Has F .cyls] [Has F .engs] [Has F .ks] [Has F .guard] [Has F .intake] [Has F .turns] [Has F .srcs] [Has F .arbs] [Has F .doms] [Has F .xq] [Has F .westad] [Has F .dbg] [Has F .audit] [Has F .faults] [Has F .boot] [Has F .req] [Has F .pins] [Has F .out] (e : Fin 144) (s : State) : GoesIn F s (execFf1Decrypt e s) :=
  ⟨_, rfl, quietSettle_within _ (startJob_within _ _ _ _ (opFpe_okw _ _ _) (Within.refl s))⟩

theorem execFf1ReTokenize_within {F : Part → Prop} [Has F .free] [Has F .regs] [Has F .mem] [Has F .poison] [Has F .threads] [Has F .cyls] [Has F .engs] [Has F .ks] [Has F .guard] [Has F .intake] [Has F .turns] [Has F .srcs] [Has F .arbs] [Has F .doms] [Has F .xq] [Has F .westad] [Has F .dbg] [Has F .audit] [Has F .faults] [Has F .boot] [Has F .req] [Has F .pins] [Has F .out] (e : Fin 144) (s : State) : GoesIn F s (execFf1ReTokenize e s) :=
  ⟨_, rfl, quietSettle_within _ (startJob_within _ _ _ _ (opReToken_okw _ _) (Within.refl s))⟩

theorem execFf31Encrypt_within {F : Part → Prop} [Has F .free] [Has F .regs] [Has F .mem] [Has F .poison] [Has F .threads] [Has F .cyls] [Has F .engs] [Has F .ks] [Has F .guard] [Has F .intake] [Has F .turns] [Has F .srcs] [Has F .arbs] [Has F .doms] [Has F .xq] [Has F .westad] [Has F .dbg] [Has F .audit] [Has F .faults] [Has F .boot] [Has F .req] [Has F .pins] [Has F .out] (e : Fin 144) (s : State) : GoesIn F s (execFf31Encrypt e s) :=
  ⟨_, rfl, quietSettle_within _ (startJob_within _ _ _ _ (opFpe_okw _ _ _) (Within.refl s))⟩

theorem execFf31Decrypt_within {F : Part → Prop} [Has F .free] [Has F .regs] [Has F .mem] [Has F .poison] [Has F .threads] [Has F .cyls] [Has F .engs] [Has F .ks] [Has F .guard] [Has F .intake] [Has F .turns] [Has F .srcs] [Has F .arbs] [Has F .doms] [Has F .xq] [Has F .westad] [Has F .dbg] [Has F .audit] [Has F .faults] [Has F .boot] [Has F .req] [Has F .pins] [Has F .out] (e : Fin 144) (s : State) : GoesIn F s (execFf31Decrypt e s) :=
  ⟨_, rfl, quietSettle_within _ (startJob_within _ _ _ _ (opFpe_okw _ _ _) (Within.refl s))⟩

theorem execFf31ReTokenize_within {F : Part → Prop} [Has F .free] [Has F .regs] [Has F .mem] [Has F .poison] [Has F .threads] [Has F .cyls] [Has F .engs] [Has F .ks] [Has F .guard] [Has F .intake] [Has F .turns] [Has F .srcs] [Has F .arbs] [Has F .doms] [Has F .xq] [Has F .westad] [Has F .dbg] [Has F .audit] [Has F .faults] [Has F .boot] [Has F .req] [Has F .pins] [Has F .out] (e : Fin 144) (s : State) : GoesIn F s (execFf31ReTokenize e s) :=
  ⟨_, rfl, quietSettle_within _ (startJob_within _ _ _ _ (opReToken_okw _ _) (Within.refl s))⟩

end Sys2Proof.Machine
end

