-- ==== Sys2Proof/Laws/WithinOutside.lean ====
section
/-! SUPPORT. Lanes, links, the timebase, the governor, seals and the boot: each function changes no part of the state but those that its lemma names. -/

set_option linter.all false
set_option linter.unusedTactic false
set_option linter.unreachableTactic false

namespace Sys2Proof.Machine

/-! ### Net -/

theorem countNotReady_within {F : Part → Prop} [Has F .regs] {s0 : State} (s : State) (lane : Nat) (hk : Within F s0 s) : Within F s0 (countNotReady s lane) :=
  bump_within _ _ _ _ _ _ hk

theorem countBad_within {F : Part → Prop} [Has F .regs] {s0 : State} (s : State) (lane : Nat) (hk : Within F s0 s) : Within F s0 (countBad s lane) :=
  bump_within _ _ _ _ _ _ hk

theorem countAuth_within {F : Part → Prop} [Has F .regs] {s0 : State} (s : State) (lane : Nat) (hk : Within F s0 s) : Within F s0 (countAuth s lane) :=
  bump_within _ _ _ _ _ _ hk

theorem acceptFrame_within {F : Part → Prop} [Has F .intake] {s0 : State} (s : State) (l : NetPort) (h : NetHdr) (n ctr : Nat) (hk : Within F s0 s) : Within F s0 (acceptFrame s l h n ctr) :=
  within_ite (dropSession_within _ _ hk) (modSess_within _ _ _ hk)

theorem dataFrame_within {F : Part → Prop} [Has F .free] [Has F .regs] [Has F .threads] [Has F .intake] [Has F .pins] [Has F .out] {s0 : State} (s : State) (l : NetPort) (h : NetHdr) (b : Bytes) (hk : Within F s0 s) : Within F s0 (dataFrame s l h b) := by
  unfold dataFrame
  iterate 60 (try (any_goals (first | with_reducible assumption | with_reducible apply within_ite | with_reducible apply within_ite_snd | with_reducible apply acceptFrame_within | with_reducible apply countAuth_within | with_reducible apply countBad_within | with_reducible apply countNotReady_within | with_reducible apply arrive_within | (with_reducible apply within_foldl <;> [skip; intro _ _ _]) | split | extract_lets | (apply within_eq; with_reducible assumption) | dsimp -zeta only | ((with_reducible apply within_mk) <;> first | exact .inl Has.has | exact .inr rfl | skip))))

theorem closeFrame_within {F : Part → Prop} [Has F .regs] [Has F .intake] {s0 : State} (s : State) (l : NetPort) (h : NetHdr) (b : Bytes) (hk : Within F s0 s) : Within F s0 (closeFrame s l h b) := by
  unfold closeFrame
  iterate 60 (try (any_goals (first | with_reducible assumption | with_reducible apply within_ite | with_reducible apply within_ite_snd | with_reducible apply acceptFrame_within | with_reducible apply countAuth_within | with_reducible apply dropSession_within | (with_reducible apply within_foldl <;> [skip; intro _ _ _]) | split | extract_lets | (apply within_eq; with_reducible assumption) | dsimp -zeta only | ((with_reducible apply within_mk) <;> first | exact .inl Has.has | exact .inr rfl | skip))))

theorem frameIn_within {F : Part → Prop} [Has F .regs] [Has F .supply] {s0 : State} (s : State) (l : NetPort) (h : NetHdr) (b : Bytes) (ty : Nat) (f : State → State)
    (hf : ∀ s, Within F s0 s → Within F s0 (f s)) (hk : Within F s0 s) : Within F s0 (frameIn s l h b ty f) := by
  unfold frameIn
  exact within_ite (within_ite (countNotReady_within _ _ (wakeEvent_within _ _ hk)) (within_ite (countNotReady_within _ _ hk) hk))
    (within_ite hk (within_ite (countBad_within _ _ hk) (hf _ hk)))

theorem helloKey_within {F : Part → Prop} [Has F .regs] [Has F .threads] [Has F .cyls] [Has F .engs] [Has F .ks] [Has F .srcs] [Has F .doms] [Has F .audit] [Has F .faults] {s0 : State} (s : State) (l : NetPort) (b : Bytes) (hk : Within F s0 s) : Within F s0 (helloKey s l b).2 := by
  unfold helloKey
  iterate 60 (try (any_goals (first | with_reducible assumption | with_reducible apply within_ite | with_reducible apply within_ite_snd | with_reducible apply readKey_within | (with_reducible apply within_foldl <;> [skip; intro _ _ _]) | split | extract_lets | (apply within_eq; with_reducible assumption) | dsimp -zeta only | ((with_reducible apply within_mk) <;> first | exact .inl Has.has | exact .inr rfl | skip))))

theorem acceptHello_within {F : Part → Prop} [Has F .free] [Has F .intake] [Has F .out] {s0 : State} (s : State) (l : NetPort) (h : NetHdr) (b : Bytes) (key : Option Bytes) (hk : Within F s0 s) : Within F s0 (acceptHello s l h b key) := by
  unfold acceptHello
  iterate 60 (try (any_goals (first | with_reducible assumption | with_reducible apply within_ite | with_reducible apply within_ite_snd | with_reducible apply modSess_within | with_reducible apply identitySign_within | with_reducible apply freeBytes_within | with_reducible apply trngBytes_within | with_reducible apply emit_within | (with_reducible apply within_foldl <;> [skip; intro _ _ _]) | split | extract_lets | (apply within_eq; with_reducible assumption) | dsimp -zeta only | ((with_reducible apply within_mk) <;> first | exact .inl Has.has | exact .inr rfl | skip))))

theorem helloFrame_within {F : Part → Prop} [Has F .free] [Has F .regs] [Has F .threads] [Has F .cyls] [Has F .engs] [Has F .ks] [Has F .intake] [Has F .srcs] [Has F .doms] [Has F .audit] [Has F .faults] [Has F .out] {s0 : State} (s : State) (l : NetPort) (h : NetHdr) (b : Bytes) (hk : Within F s0 s) : Within F s0 (helloFrame s l h b) := by
  unfold helloFrame
  iterate 60 (try (any_goals (first | with_reducible assumption | with_reducible apply within_ite | with_reducible apply within_ite_snd | with_reducible apply acceptHello_within | with_reducible apply helloKey_within | with_reducible apply countAuth_within | with_reducible apply countBad_within | with_reducible apply emit_within | (with_reducible apply within_foldl <;> [skip; intro _ _ _]) | dsimp only | split | (apply within_eq; with_reducible assumption) | dsimp -zeta only | ((with_reducible apply within_mk) <;> first | exact .inl Has.has | exact .inr rfl | skip))))

theorem modWindow_within {F : Part → Prop} [Has F .intake] {s0 : State} (s : State) (ix : Nat) (f : Window → Window) (hk : Within F s0 s) : Within F s0 (modWindow s ix f) := by
  unfold modWindow
  iterate 60 (try (any_goals (first | with_reducible assumption | with_reducible apply within_ite | with_reducible apply within_ite_snd | (with_reducible apply within_foldl <;> [skip; intro _ _ _]) | split | extract_lets | (apply within_eq; with_reducible assumption) | dsimp -zeta only | ((with_reducible apply within_mk) <;> first | exact .inl Has.has | exact .inr rfl | skip))))

theorem modStream_within {F : Part → Prop} [Has F .threads] [Has F .intake] {s0 : State} (s : State) (f k ord : Nat) (g : Cmd → Cmd) (hk : Within F s0 s) : Within F s0 (modStream s f k ord g) := by
  unfold modStream
  iterate 60 (try (any_goals (first | with_reducible assumption | with_reducible apply within_ite | with_reducible apply within_ite_snd | with_reducible apply modCmd_within | (with_reducible apply within_foldl <;> [skip; intro _ _ _]) | split | extract_lets | (apply within_eq; with_reducible assumption) | dsimp -zeta only | ((with_reducible apply within_mk) <;> first | exact .inl Has.has | exact .inr rfl | skip))))

theorem truncateStream_within {F : Part → Prop} [Has F .threads] [Has F .intake] {s0 : State} (s : State) (f k : Nat) (hk : Within F s0 s) : Within F s0 (truncateStream s f k) := by
  unfold truncateStream
  iterate 60 (try (any_goals (first | with_reducible assumption | with_reducible apply within_ite | with_reducible apply within_ite_snd | with_reducible apply modStream_within | (with_reducible apply within_foldl <;> [skip; intro _ _ _]) | split | extract_lets | (apply within_eq; with_reducible assumption) | dsimp -zeta only | ((with_reducible apply within_mk) <;> first | exact .inl Has.has | exact .inr rfl | skip))))

theorem breakStream_within {F : Part → Prop} [Has F .regs] [Has F .threads] [Has F .intake] {s0 : State} (s : State) (f k : Nat) (hk : Within F s0 s) : Within F s0 (breakStream s f k) :=
  countBad_within _ _ (modWindow_within _ _ _ (truncateStream_within _ _ _ hk))

theorem windowHeader_within {F : Part → Prop} [Has F .free] [Has F .regs] [Has F .threads] [Has F .intake] [Has F .pins] [Has F .out] {s0 : State} (s : State) (f k : Nat) (hdr : Bytes) (hk : Within F s0 s) : Within F s0 (windowHeader s f k hdr) := by
  unfold windowHeader
  iterate 60 (try (any_goals (first | with_reducible assumption | with_reducible apply within_ite | with_reducible apply within_ite_snd | with_reducible apply breakStream_within | with_reducible apply modWindow_within | with_reducible apply countAuth_within | with_reducible apply countNotReady_within | with_reducible apply arrive_within | (with_reducible apply within_foldl <;> [skip; intro _ _ _]) | split | extract_lets | (apply within_eq; with_reducible assumption) | dsimp -zeta only | ((with_reducible apply within_mk) <;> first | exact .inl Has.has | exact .inr rfl | skip))))

theorem windowBytes_within {F : Part → Prop} [Has F .free] [Has F .regs] [Has F .threads] [Has F .intake] [Has F .pins] [Has F .out] {s0 : State} (f k : Nat) : ∀ (n : Nat) (b : Bytes) {s : State}, Within F s0 s → Within F s0 (windowBytes s f k n b) := by
  intro n
  induction n with
  | zero => intro b s hk; exact hk
  | succ n ih =>
    intro b s hk
    unfold windowBytes
    extract_lets w
    apply within_ite hk
    apply within_ite
    · extract_lets take buf
      exact within_ite (modWindow_within _ _ _ hk) (ih _ (windowHeader_within _ _ _ _ hk))
    · extract_lets x left s1
      exact ih _ (modWindow_within _ _ _ (modStream_within _ _ _ _ _ hk))

theorem windowWrite_within {F : Part → Prop} [Has F .free] [Has F .regs] [Has F .threads] [Has F .intake] [Has F .pins] [Has F .out] {s0 : State} (s : State) (f k : Nat) (b : Bytes) (gaps : Bool) (hk : Within F s0 s) :
    Within F s0 (windowWrite s f k b gaps) := by
  unfold windowWrite
  exact within_ite hk (within_ite hk (within_ite (breakStream_within _ _ _ hk) (windowBytes_within _ _ _ _ hk)))

theorem windowResync_within {F : Part → Prop} [Has F .threads] [Has F .intake] {s0 : State} (s : State) (f k : Nat) (hk : Within F s0 s) : Within F s0 (windowResync s f k) :=
  within_ite (modWindow_within _ _ _ (truncateStream_within _ _ _ hk)) hk

theorem rbaseWrite_within {F : Part → Prop} [Has F .regs] {s0 : State} (s : State) (f k : Nat) (v : Word) (hk : Within F s0 s) : Within F s0 (rbaseWrite s f k v) := by
  unfold rbaseWrite
  iterate 60 (try (any_goals (first | with_reducible assumption | with_reducible apply within_ite | with_reducible apply within_ite_snd | with_reducible apply plainWrite_within | with_reducible apply fldSet_within | (with_reducible apply within_foldl <;> [skip; intro _ _ _]) | split | extract_lets | (apply within_eq; with_reducible assumption) | dsimp -zeta only | ((with_reducible apply within_mk) <;> first | exact .inl Has.has | exact .inr rfl | skip))))

theorem rconsWrite_within {F : Part → Prop} [Has F .regs] {s0 : State} (s : State) (f k : Nat) (v : Word) (hk : Within F s0 s) : Within F s0 (rconsWrite s f k v) :=
  within_ite (plainWrite_within _ _ _ _ hk) hk

theorem sendHeld_within {F : Part → Prop} [Has F .intake] [Has F .linkPower] [Has F .out] {s0 : State} (s : State) (q : Nat) (hk : Within F s0 s) : Within F s0 (sendHeld s q) := by
  unfold sendHeld
  iterate 60 (try (any_goals (first | with_reducible assumption | with_reducible apply within_ite | with_reducible apply within_ite_snd | with_reducible apply modRing_within | with_reducible apply emit_within | (with_reducible apply within_foldl <;> [skip; intro _ _ _]) | split | extract_lets | (apply within_eq; with_reducible assumption) | dsimp -zeta only | ((with_reducible apply within_mk) <;> first | exact .inl Has.has | exact .inr rfl | skip))))

theorem sendAllHeld_within {F : Part → Prop} [Has F .intake] [Has F .linkPower] [Has F .out] {s0 : State} (s : State) (hk : Within F s0 s) : Within F s0 (sendAllHeld s) := by
  unfold sendAllHeld
  iterate 60 (try (any_goals (first | with_reducible assumption | with_reducible apply within_ite | with_reducible apply within_ite_snd | with_reducible apply sendHeld_within | (with_reducible apply within_foldl <;> [skip; intro _ _ _]) | split | extract_lets | (apply within_eq; with_reducible assumption) | dsimp -zeta only | ((with_reducible apply within_mk) <;> first | exact .inl Has.has | exact .inr rfl | skip))))

theorem modFunc_within {F : Part → Prop} [Has F .intake] {s0 : State} (s : State) (f : Nat) (g : Func → Func) (hk : Within F s0 s) : Within F s0 (modFunc s f g) := by
  unfold modFunc
  iterate 60 (try (any_goals (first | with_reducible assumption | with_reducible apply within_ite | with_reducible apply within_ite_snd | (with_reducible apply within_foldl <;> [skip; intro _ _ _]) | split | extract_lets | (apply within_eq; with_reducible assumption) | dsimp -zeta only | ((with_reducible apply within_mk) <;> first | exact .inl Has.has | exact .inr rfl | skip))))

theorem flr_within {F : Part → Prop} [Has F .regs] [Has F .threads] [Has F .intake] {s0 : State} (s : State) (f : Nat) (hk : Within F s0 s) : Within F s0 (flr s f) := by
  unfold flr
  iterate 60 (try (any_goals (first | with_reducible assumption | with_reducible apply within_ite | with_reducible apply within_ite_snd | with_reducible apply modFunc_within | with_reducible apply truncateStream_within | with_reducible apply modWindow_within | with_reducible apply modRing_within | with_reducible apply modRq_within | with_reducible apply bump_within | with_reducible apply regSet_within | (with_reducible apply within_foldl <;> [skip; intro _ _ _]) | split | extract_lets | (apply within_eq; with_reducible assumption) | dsimp -zeta only | ((with_reducible apply within_mk) <;> first | exact .inl Has.has | exact .inr rfl | skip))))

theorem flrPf_within {F : Part → Prop} [Has F .regs] [Has F .threads] [Has F .intake] {s0 : State} (s : State) (hk : Within F s0 s) : Within F s0 (flrPf s) := by
  unfold flrPf
  iterate 60 (try (any_goals (first | with_reducible assumption | with_reducible apply within_ite | with_reducible apply within_ite_snd | with_reducible apply flr_within | (with_reducible apply within_foldl <;> [skip; intro _ _ _]) | split | extract_lets | (apply within_eq; with_reducible assumption) | dsimp -zeta only | ((with_reducible apply within_mk) <;> first | exact .inl Has.has | exact .inr rfl | skip))))

theorem linkDown_within {F : Part → Prop} [Has F .regs] [Has F .doms] [Has F .xq] [Has F .linkPower] {s0 : State} (s : State) (hk : Within F s0 s) : Within F s0 (linkDown s) := by
  unfold linkDown
  iterate 60 (try (any_goals (first | with_reducible assumption | with_reducible apply within_ite | with_reducible apply within_ite_snd | with_reducible apply downDomain_within | with_reducible apply setLane_within | (with_reducible apply within_foldl <;> [skip; intro _ _ _]) | split | extract_lets | (apply within_eq; with_reducible assumption) | dsimp -zeta only | ((with_reducible apply within_mk) <;> first | exact .inl Has.has | exact .inr rfl | skip))))

theorem pcieConfig_within {F : Part → Prop} [Has F .intake] [Has F .linkPower] [Has F .out] {s0 : State} (s : State) (w : PcieConfig) (hk : Within F s0 s) : Within F s0 (pcieConfig s w) := by
  unfold pcieConfig
  iterate 60 (try (any_goals (first | with_reducible assumption | with_reducible apply within_ite | with_reducible apply within_ite_snd | with_reducible apply modFunc_within | with_reducible apply sendAllHeld_within | with_reducible apply sendHeld_within | with_reducible apply modRing_within | (with_reducible apply within_foldl <;> [skip; intro _ _ _]) | split | extract_lets | (apply within_eq; with_reducible assumption) | dsimp -zeta only | ((with_reducible apply within_mk) <;> first | exact .inl Has.has | exact .inr rfl | skip))))

theorem loseLock_within {F : Part → Prop} [Has F .regs] [Has F .threads] [Has F .cyls] [Has F .engs] [Has F .doms] [Has F .xq] [Has F .faults] {s0 : State} (s : State) (l : Nat) (hk : Within F s0 s) : Within F s0 (loseLock s l) := by
  unfold loseLock
  iterate 60 (try (any_goals (first | with_reducible assumption | with_reducible apply within_ite | with_reducible apply within_ite_snd | with_reducible apply downDomain_within | with_reducible apply setLane_within | with_reducible apply report_within | (with_reducible apply within_foldl <;> [skip; intro _ _ _]) | split | extract_lets | (apply within_eq; with_reducible assumption) | dsimp -zeta only | ((with_reducible apply within_mk) <;> first | exact .inl Has.has | exact .inr rfl | skip))))

theorem grantCredits_within {F : Part → Prop} [Has F .westad] [Has F .out] {s0 : State} (l c : Nat) : ∀ (f n : Nat) {s : State}, Within F s0 s → Within F s0 (grantCredits s l c f n) := by
  intro f
  induction f with
  | zero => intro n s hk; exact hk
  | succ f ih =>
    intro n s hk
    unfold grantCredits
    exact within_ite hk (ih _ (sendFlit_within _ _ _ _ _ _ _ hk))

theorem linkUp_within {F : Part → Prop} [Has F .free] [Has F .regs] [Has F .arbs] [Has F .doms] [Has F .xq] [Has F .westad] [Has F .out] {s0 : State} (s : State) (l width peer : Nat) (hk : Within F s0 s) : Within F s0 (linkUp s l width peer) := by
  unfold linkUp
  apply within_ite hk
  extract_lets fresh s1 s2 s3 s4 s5
  have h1 : Within F s0 s1 := within_foldl _ hk (fun _ _ h => within_ite h (setLane_within _ _ _ h))
  have h3 : Within F s0 s3 := resetDomain_within _ _ (resetDomain_within _ _ (modLink_within _ _ _ h1))
  have h4 : Within F s0 s4 :=
    within_ite (grantCredits_within _ _ _ _ (grantCredits_within _ _ _ _ (grantCredits_within _ _ _ _ h3))) h3
  have h5 : Within F s0 s5 := within_foldl _ h4 (fun _ _ h => sendFlit_within _ _ _ _ _ _ _ h)
  exact linksChanged_within _ (pump_within _ _ h5)

theorem trained_within {F : Part → Prop} [Has F .free] [Has F .regs] [Has F .intake] [Has F .arbs] [Has F .doms] [Has F .xq] [Has F .westad] [Has F .linkPower] [Has F .out] {s0 : State} {s : State} (nn : TrainTarget) (hk : Within F s0 s) : Within F s0 (trained s nn) := by
  cases nn <;> unfold trained
  iterate 60 (try (any_goals (first | with_reducible assumption | with_reducible apply within_ite | with_reducible apply within_ite_snd | with_reducible apply linkUp_within | with_reducible apply sendAllHeld_within | with_reducible apply resetDomain_within | with_reducible apply setLane_within | (with_reducible apply within_foldl <;> [skip; intro _ _ _]) | split | extract_lets | (apply within_eq; with_reducible assumption) | dsimp -zeta only | ((with_reducible apply within_mk) <;> first | exact .inl Has.has | exact .inr rfl | skip))))

theorem perst_within {F : Part → Prop} [Has F .regs] [Has F .doms] [Has F .xq] [Has F .pins] [Has F .linkPower] {s0 : State} (s : State) (asserted : Bool) (hk : Within F s0 s) : Within F s0 (perst s asserted) := by
  unfold perst
  iterate 60 (try (any_goals (first | with_reducible assumption | with_reducible apply within_ite | with_reducible apply within_ite_snd | with_reducible apply linkDown_within | with_reducible apply downDomain_within | with_reducible apply setLane_within | (with_reducible apply within_foldl <;> [skip; intro _ _ _]) | split | extract_lets | (apply within_eq; with_reducible assumption) | dsimp -zeta only | ((with_reducible apply within_mk) <;> first | exact .inl Has.has | exact .inr rfl | skip))))

theorem smbusWrite_within {F : Part → Prop} [Has F .free] [Has F .regs] [Has F .threads] [Has F .intake] [Has F .supply] [Has F .pins] [Has F .out] {s0 : State} (s : State) (b : Bytes) (last pecOk : Bool) (hk : Within F s0 s) : Within F s0 (smbusWrite s b last pecOk) := by
  unfold smbusWrite
  iterate 60 (try (any_goals (first | with_reducible assumption | with_reducible apply within_ite | with_reducible apply within_ite_snd | with_reducible apply countBad_within | with_reducible apply countNotReady_within | with_reducible apply arrive_within | with_reducible apply wakeEvent_within | (with_reducible apply within_foldl <;> [skip; intro _ _ _]) | split | extract_lets | (apply within_eq; with_reducible assumption) | dsimp -zeta only | ((with_reducible apply within_mk) <;> first | exact .inl Has.has | exact .inr rfl | skip))))

theorem smbusRead_within {F : Part → Prop} [Has F .regs] [Has F .intake] [Has F .supply] [Has F .pins] [Has F .out] {s0 : State} (s : State) (pecOk : Bool) (hk : Within F s0 s) : Within F s0 (smbusRead s pecOk) := by
  unfold smbusRead
  iterate 60 (try (any_goals (first | with_reducible assumption | with_reducible apply within_ite | with_reducible apply within_ite_snd | with_reducible apply countBad_within | with_reducible apply countNotReady_within | with_reducible apply setSmbAlert_within | with_reducible apply wakeEvent_within | with_reducible apply emit_within | (with_reducible apply within_foldl <;> [skip; intro _ _ _]) | split | extract_lets | (apply within_eq; with_reducible assumption) | dsimp -zeta only | ((with_reducible apply within_mk) <;> first | exact .inl Has.has | exact .inr rfl | skip))))

theorem execCommandArrival_within {F : Part → Prop} [Has F .free] [Has F .regs] [Has F .threads] [Has F .intake] [Has F .supply] [Has F .pins] [Has F .out] (l : NetPort) (h : NetHdr) (frame : List Byte) (s : State) : GoesIn F s (execCommandArrival l h frame s) := by
  have hk : Within F s s := Within.refl s
  unfold execCommandArrival
  (try extract_lets)
  refine ⟨_, rfl, ?_⟩
  iterate 30 (try (any_goals (first | with_reducible assumption | with_reducible apply within_ite | with_reducible apply frameIn_within | with_reducible apply dataFrame_within | (with_reducible apply within_foldl <;> [skip; intro _ _ _]) | intro _ _ | split | extract_lets | dsimp -zeta only | ((with_reducible apply within_mk) <;> first | exact .inl Has.has | exact .inr rfl | skip))))

theorem execCutThroughTimeout_within {F : Part → Prop} [Has F .threads] [Has F .intake] (f : Fin 255) (k : Fin 4) (s : State) : GoesIn F s (execCutThroughTimeout f k s) :=
  ⟨_, rfl, within_ite (settle_within _ (modWindow_within _ _ _ (truncateStream_within _ _ _ (Within.refl s)))) (Within.refl s)⟩

theorem execArpNdEcho_within {F : Part → Prop} [Has F .regs] [Has F .out] (l : NetPort) (kind : NetQuery) (target : BitVec 128) (s : State) : GoesIn F s (execArpNdEcho l kind target s) :=
  ⟨_, rfl, within_ite (Within.refl s) (within_ite (emit_within _ _ (Within.refl s)) (countBad_within _ _ (Within.refl s)))⟩

theorem execPauseFrameReceived_within {F : Part → Prop} [Has F .intake] (port : Fin 2) (prios : Option (List (Fin 8))) (quanta : BitVec 16) (s : State) : GoesIn F s (execPauseFrameReceived port prios quanta s) := by
  have hk : Within F s s := Within.refl s
  unfold execPauseFrameReceived
  (try extract_lets)
  refine ⟨_, rfl, ?_⟩
  iterate 30 (try (any_goals (first | with_reducible assumption | with_reducible apply within_ite | (with_reducible apply within_foldl <;> [skip; intro _ _ _]) | intro _ _ | split | extract_lets | dsimp -zeta only | ((with_reducible apply within_mk) <;> first | exact .inl Has.has | exact .inr rfl | skip))))

theorem execPauseTimeExpiry_within {F : Part → Prop} [Has F .intake] (port : Fin 2) (prio : Option (Fin 8)) (s : State) : GoesIn F s (execPauseTimeExpiry port prio s) := by
  have hk : Within F s s := Within.refl s
  unfold execPauseTimeExpiry
  (try extract_lets)
  refine ⟨_, rfl, ?_⟩
  iterate 30 (try (any_goals (first | with_reducible assumption | with_reducible apply within_ite | (with_reducible apply within_foldl <;> [skip; intro _ _ _]) | intro _ _ | split | extract_lets | dsimp -zeta only | ((with_reducible apply within_mk) <;> first | exact .inl Has.has | exact .inr rfl | skip))))

theorem execHello_within {F : Part → Prop} [Has F .free] [Has F .regs] [Has F .mem] [Has F .poison] [Has F .threads] [Has F .cyls] [Has F .engs] [Has F .ks] [Has F .guard] [Has F .intake] [Has F .turns] [Has F .srcs] [Has F .arbs] [Has F .doms] [Has F .xq] [Has F .westad] [Has F .dbg] [Has F .supply] [Has F .audit] [Has F .faults] [Has F .boot] [Has F .req] [Has F .pins] [Has F .out] (l : NetPort) (h : NetHdr) (frame : List Byte) (s : State) : GoesIn F s (execHello l h frame s) := by
  have hk : Within F s s := Within.refl s
  unfold execHello
  (try extract_lets)
  refine ⟨_, rfl, ?_⟩
  iterate 30 (try (any_goals (first | with_reducible assumption | with_reducible apply within_ite | with_reducible apply helloFrame_within | with_reducible apply frameIn_within | with_reducible apply quietSettle_within | (with_reducible apply within_foldl <;> [skip; intro _ _ _]) | intro _ _ | split | extract_lets | dsimp -zeta only | ((with_reducible apply within_mk) <;> first | exact .inl Has.has | exact .inr rfl | skip))))

theorem execClose_within {F : Part → Prop} [Has F .regs] [Has F .intake] [Has F .supply] (l : NetPort) (h : NetHdr) (frame : List Byte) (s : State) : GoesIn F s (execClose l h frame s) := by
  have hk : Within F s s := Within.refl s
  unfold execClose
  (try extract_lets)
  refine ⟨_, rfl, ?_⟩
  iterate 30 (try (any_goals (first | with_reducible assumption | with_reducible apply within_ite | with_reducible apply frameIn_within | with_reducible apply closeFrame_within | (with_reducible apply within_foldl <;> [skip; intro _ _ _]) | intro _ _ | split | extract_lets | dsimp -zeta only | ((with_reducible apply within_mk) <;> first | exact .inl Has.has | exact .inr rfl | skip))))

theorem execSessionIdleTimeout_within {F : Part → Prop} [Has F .intake] (n : Fin 65536) (s : State) : GoesIn F s (execSessionIdleTimeout n s) :=
  ⟨_, rfl, within_ite (dropSession_within _ _ (Within.refl s)) (Within.refl s)⟩

theorem execCommandWindowWrite_within {F : Part → Prop} [Has F .free] [Has F .regs] [Has F .threads] [Has F .intake] [Has F .pins] [Has F .out] (f : Fin 255) (k : Fin 4) (b : List Byte) (gaps : Bool) (s : State) : GoesIn F s (execCommandWindowWrite f k b gaps s) :=
  ⟨_, rfl, windowWrite_within _ _ _ _ _ (Within.refl s)⟩

theorem execCwinResync_within {F : Part → Prop} [Has F .threads] [Has F .intake] (f : Fin 255) (k : Fin 4) (s : State) : GoesIn F s (execCwinResync f k s) :=
  ⟨_, rfl, windowResync_within _ _ _ (Within.refl s)⟩

theorem execRbase_within {F : Part → Prop} [Has F .regs] (f : Fin 255) (k : Fin 4) (v : Word) (s : State) : GoesIn F s (execRbase f k v s) :=
  ⟨_, rfl, rbaseWrite_within _ _ _ _ (Within.refl s)⟩

theorem execRcons_within {F : Part → Prop} [Has F .regs] (f : Fin 255) (k : Fin 4) (v : Word) (s : State) : GoesIn F s (execRcons f k v s) :=
  ⟨_, rfl, rconsWrite_within _ _ _ _ (Within.refl s)⟩

theorem execFlrVf_within {F : Part → Prop} [Has F .regs] [Has F .threads] [Has F .intake] (f : Fin 255) (s : State) : GoesIn F s (execFlrVf f s) :=
  ⟨_, rfl, within_ite (Within.refl s) (flr_within _ _ (Within.refl s))⟩

theorem execFlrPf0_within {F : Part → Prop} [Has F .regs] [Has F .threads] [Has F .intake] (s : State) : GoesIn F s (execFlrPf0 s) :=
  ⟨_, rfl, within_ite (flrPf_within _ (Within.refl s)) (Within.refl s)⟩

theorem execPcieLinkDown_within {F : Part → Prop} [Has F .regs] [Has F .doms] [Has F .xq] [Has F .linkPower] (s : State) : GoesIn F s (execPcieLinkDown s) :=
  ⟨_, rfl, linkDown_within _ (Within.refl s)⟩

theorem execPerstN_within {F : Part → Prop} [Has F .regs] [Has F .doms] [Has F .xq] [Has F .pins] [Has F .linkPower] (asserted : Bool) (s : State) : GoesIn F s (execPerstN asserted s) :=
  ⟨_, rfl, perst_within _ _ (Within.refl s)⟩

theorem execPcieConfigWrite_within {F : Part → Prop} [Has F .intake] [Has F .linkPower] [Has F .out] (w : PcieConfig) (s : State) : GoesIn F s (execPcieConfigWrite w s) :=
  ⟨_, rfl, pcieConfig_within _ _ (Within.refl s)⟩

theorem execAspmL0sL1Transition_within {F : Part → Prop} [Has F .linkPower] (power : LinkPower) (s : State) : GoesIn F s (execAspmL0sL1Transition power s) := by
  have hk : Within F s s := Within.refl s
  unfold execAspmL0sL1Transition
  (try extract_lets)
  refine ⟨_, rfl, ?_⟩
  iterate 30 (try (any_goals (first | with_reducible assumption | with_reducible apply within_ite | (with_reducible apply within_foldl <;> [skip; intro _ _ _]) | intro _ _ | split | extract_lets | dsimp -zeta only | ((with_reducible apply within_mk) <;> first | exact .inl Has.has | exact .inr rfl | skip))))

theorem execLaneLossOfLock_within {F : Part → Prop} [Has F .regs] [Has F .threads] [Has F .cyls] [Has F .engs] [Has F .doms] [Has F .xq] [Has F .faults] (l : Fin 48) (s : State) : GoesIn F s (execLaneLossOfLock l s) :=
  ⟨_, rfl, loseLock_within _ _ (Within.refl s)⟩

theorem execLaneTrainingDone_within {F : Part → Prop} [Has F .free] [Has F .regs] [Has F .intake] [Has F .arbs] [Has F .doms] [Has F .xq] [Has F .westad] [Has F .linkPower] [Has F .out] (l : TrainTarget) (s : State) : GoesIn F s (execLaneTrainingDone l s) := by
  have hk : Within F s s := Within.refl s
  unfold execLaneTrainingDone
  (try extract_lets)
  refine ⟨_, rfl, ?_⟩
  iterate 30 (try (any_goals (first | with_reducible assumption | with_reducible apply within_ite | with_reducible apply trained_within | (with_reducible apply within_foldl <;> [skip; intro _ _ _]) | intro _ _ | split | extract_lets | dsimp -zeta only | ((with_reducible apply within_mk) <;> first | exact .inl Has.has | exact .inr rfl | skip))))

theorem execSmbusBlockWrite_within {F : Part → Prop} [Has F .free] [Has F .regs] [Has F .threads] [Has F .intake] [Has F .supply] [Has F .pins] [Has F .out] (b : List Byte) (last pecOk : Bool) (s : State) : GoesIn F s (execSmbusBlockWrite b last pecOk s) :=
  ⟨_, rfl, smbusWrite_within _ _ _ _ (Within.refl s)⟩

theorem execSmbusBlockRead_within {F : Part → Prop} [Has F .regs] [Has F .intake] [Has F .supply] [Has F .pins] [Has F .out] (pecOk : Bool) (s : State) : GoesIn F s (execSmbusBlockRead pecOk s) :=
  ⟨_, rfl, smbusRead_within _ _ (Within.refl s)⟩

theorem execUartInput_within {F : Part → Prop} [Has F .uartIn] (b : Byte) (s : State) : GoesIn F s (execUartInput b s) := by
  have hk : Within F s s := Within.refl s
  unfold execUartInput
  (try extract_lets)
  refine ⟨_, rfl, ?_⟩
  iterate 30 (try (any_goals (first | with_reducible assumption | with_reducible apply within_ite | (with_reducible apply within_foldl <;> [skip; intro _ _ _]) | intro _ _ | split | extract_lets | dsimp -zeta only | ((with_reducible apply within_mk) <;> first | exact .inl Has.has | exact .inr rfl | skip))))

/-! ### Links -/

theorem sendNak_within {F : Part → Prop} [Has F .westad] [Has F .out] {s0 : State} (s : State) (l : Nat) (hk : Within F s0 s) : Within F s0 (sendNak s l) :=
  within_ite hk (modLink_within _ _ _ (sendFlit_within _ _ _ _ _ _ _ hk))

theorem linkLost_within {F : Part → Prop} [Has F .free] [Has F .regs] [Has F .arbs] [Has F .doms] [Has F .xq] [Has F .westad] [Has F .out] {s0 : State} (s : State) (l : Nat) (hk : Within F s0 s) : Within F s0 (linkLost s l) :=
  within_ite hk (linksChanged_within _ (dropLink_within _ _ hk))

theorem retrain_within {F : Part → Prop} [Has F .free] [Has F .regs] [Has F .arbs] [Has F .doms] [Has F .xq] [Has F .westad] [Has F .out] {s0 : State} (s : State) (l : Nat) (hk : Within F s0 s) : Within F s0 (retrain s l) := by
  unfold retrain
  iterate 60 (try (any_goals (first | with_reducible assumption | with_reducible apply within_ite | with_reducible apply within_ite_snd | with_reducible apply linkLost_within | with_reducible apply downDomain_within | with_reducible apply setLane_within | with_reducible apply linksChanged_within | with_reducible apply modLink_within | with_reducible apply bump_within | (with_reducible apply within_foldl <;> [skip; intro _ _ _]) | split | extract_lets | (apply within_eq; with_reducible assumption) | dsimp -zeta only | ((with_reducible apply within_mk) <;> first | exact .inl Has.has | exact .inr rfl | skip))))

theorem replayFrom_within {F : Part → Prop} [Has F .free] [Has F .regs] [Has F .arbs] [Has F .doms] [Has F .xq] [Has F .westad] [Has F .out] {s0 : State} (s : State) (l seq : Nat) (hk : Within F s0 s) : Within F s0 (replayFrom s l seq) := by
  unfold replayFrom
  iterate 60 (try (any_goals (first | with_reducible assumption | with_reducible apply within_ite | with_reducible apply within_ite_snd | with_reducible apply retrain_within | with_reducible apply sendFlit_within | with_reducible apply modLink_within | with_reducible apply bump_within | (with_reducible apply within_foldl <;> [skip; intro _ _ _]) | split | extract_lets | (apply within_eq; with_reducible assumption) | dsimp -zeta only | ((with_reducible apply within_mk) <;> first | exact .inl Has.has | exact .inr rfl | skip))))

theorem takeAckCred_within {F : Part → Prop} [Has F .westad] {s0 : State} (s : State) (l : Nat) (b : Bytes) (hk : Within F s0 s) : Within F s0 (takeAckCred s l b) := by
  unfold takeAckCred
  iterate 60 (try (any_goals (first | with_reducible assumption | with_reducible apply within_ite | with_reducible apply within_ite_snd | with_reducible apply modLink_within | (with_reducible apply within_foldl <;> [skip; intro _ _ _]) | split | extract_lets | (apply within_eq; with_reducible assumption) | dsimp -zeta only | ((with_reducible apply within_mk) <;> first | exact .inl Has.has | exact .inr rfl | skip))))

theorem messageIn_within {F : Part → Prop} [Has F .arbs] [Has F .westad] [Has F .out] {s0 : State} (s : State) (b : Bytes) (hk : Within F s0 s) : Within F s0 (messageIn s b) :=
  within_ite hk (putOnLink_within _ _ _ _ hk)

theorem dataFlit_within {F : Part → Prop} [Has F .arbs] [Has F .westad] [Has F .out] {s0 : State} (s : State) (l : Nat) (b : Bytes) (hk : Within F s0 s) : Within F s0 (dataFlit s l b) := by
  unfold dataFlit
  iterate 60 (try (any_goals (first | with_reducible assumption | with_reducible apply within_ite | with_reducible apply within_ite_snd | with_reducible apply messageIn_within | with_reducible apply sendFlit_within | with_reducible apply modLink_within | (with_reducible apply within_foldl <;> [skip; intro _ _ _]) | split | extract_lets | (apply within_eq; with_reducible assumption) | dsimp -zeta only | ((with_reducible apply within_mk) <;> first | exact .inl Has.has | exact .inr rfl | skip))))

theorem flitIn_within {F : Part → Prop} [Has F .free] [Has F .regs] [Has F .arbs] [Has F .doms] [Has F .xq] [Has F .westad] [Has F .out] {s0 : State} (s : State) (l : Nat) (b : Bytes) (hk : Within F s0 s) : Within F s0 (flitIn s l b) := by
  unfold flitIn
  iterate 60 (try (any_goals (first | with_reducible assumption | with_reducible apply within_ite | with_reducible apply within_ite_snd | with_reducible apply dataFlit_within | with_reducible apply takeAckCred_within | with_reducible apply replayFrom_within | with_reducible apply sendNak_within | with_reducible apply pump_within | (with_reducible apply within_foldl <;> [skip; intro _ _ _]) | split | extract_lets | (apply within_eq; with_reducible assumption) | dsimp -zeta only | ((with_reducible apply within_mk) <;> first | exact .inl Has.has | exact .inr rfl | skip))))

theorem linkLaneFails_within {F : Part → Prop} [Has F .free] [Has F .regs] [Has F .threads] [Has F .cyls] [Has F .engs] [Has F .arbs] [Has F .doms] [Has F .xq] [Has F .westad] [Has F .faults] [Has F .out] {s0 : State} (s : State) (l ix : Nat) (hk : Within F s0 s) : Within F s0 (linkLaneFails s l ix) := by
  unfold linkLaneFails
  iterate 60 (try (any_goals (first | with_reducible assumption | with_reducible apply within_ite | with_reducible apply within_ite_snd | with_reducible apply retrain_within | with_reducible apply setLane_within | with_reducible apply report_within | (with_reducible apply within_foldl <;> [skip; intro _ _ _]) | split | extract_lets | (apply within_eq; with_reducible assumption) | dsimp -zeta only | ((with_reducible apply within_mk) <;> first | exact .inl Has.has | exact .inr rfl | skip))))

theorem routeIn_within {F : Part → Prop} [Has F .free] [Has F .arbs] [Has F .westad] [Has F .out] {s0 : State} (s : State) (m : Nat) (edges : List (Nat × Nat)) (hk : Within F s0 s) : Within F s0 (routeIn s m edges) := by
  unfold routeIn
  iterate 60 (try (any_goals (first | with_reducible assumption | with_reducible apply within_ite | with_reducible apply within_ite_snd | with_reducible apply routesChanged_within | with_reducible apply floodRoute_within | (with_reducible apply within_foldl <;> [skip; intro _ _ _]) | split | extract_lets | (apply within_eq; with_reducible assumption) | dsimp -zeta only | ((with_reducible apply within_mk) <;> first | exact .inl Has.has | exact .inr rfl | skip))))

theorem ackIn_within {F : Part → Prop} [Has F .westad] {s0 : State} (s : State) (m mseq : Nat) (hk : Within F s0 s) : Within F s0 (ackIn s m mseq) :=
  within_ite (modPair_within _ _ _ hk) hk

theorem kx1In_within {F : Part → Prop} [Has F .free] [Has F .arbs] [Has F .westad] [Has F .audit] [Has F .out] {s0 : State} (s : State) (m : Nat) (b : Bytes) (hk : Within F s0 s) : Within F s0 (kx1In s m b) := by
  unfold kx1In
  iterate 60 (try (any_goals (first | with_reducible assumption | with_reducible apply within_ite | with_reducible apply within_ite_snd | with_reducible apply refusePair_within | with_reducible apply pairKeyed_within | with_reducible apply kxSign_within | with_reducible apply sendClear_within | with_reducible apply trngBytes_within | (with_reducible apply within_foldl <;> [skip; intro _ _ _]) | split | extract_lets | (apply within_eq; with_reducible assumption) | dsimp -zeta only | ((with_reducible apply within_mk) <;> first | exact .inl Has.has | exact .inr rfl | skip))))

theorem kx2In_within {F : Part → Prop} [Has F .arbs] [Has F .westad] [Has F .audit] [Has F .out] {s0 : State} (s : State) (m : Nat) (b : Bytes) (hk : Within F s0 s) : Within F s0 (kx2In s m b) := by
  unfold kx2In
  iterate 60 (try (any_goals (first | with_reducible assumption | with_reducible apply within_ite | with_reducible apply within_ite_snd | with_reducible apply refusePair_within | with_reducible apply pairKeyed_within | (with_reducible apply within_foldl <;> [skip; intro _ _ _]) | split | extract_lets | (apply within_eq; with_reducible assumption) | dsimp -zeta only | ((with_reducible apply within_mk) <;> first | exact .inl Has.has | exact .inr rfl | skip))))

theorem keyingRetry_within {F : Part → Prop} [Has F .free] [Has F .arbs] [Has F .westad] [Has F .out] {s0 : State} (s : State) (m : Nat) (hk : Within F s0 s) : Within F s0 (keyingRetry s m) :=
  within_ite (startKeying_within _ _ hk) hk

theorem mseqRekey_within {F : Part → Prop} [Has F .free] [Has F .arbs] [Has F .westad] [Has F .out] {s0 : State} (s : State) (m : Nat) (hk : Within F s0 s) : Within F s0 (mseqRekey s m) := by
  unfold mseqRekey
  iterate 60 (try (any_goals (first | with_reducible assumption | with_reducible apply within_ite | with_reducible apply within_ite_snd | with_reducible apply startKeying_within | with_reducible apply modPair_within | (with_reducible apply within_foldl <;> [skip; intro _ _ _]) | split | extract_lets | (apply within_eq; with_reducible assumption) | dsimp -zeta only | ((with_reducible apply within_mk) <;> first | exact .inl Has.has | exact .inr rfl | skip))))

theorem stageIn_within {F : Part → Prop} [Has F .ks] {s0 : State} (s : State) (origin oseq slot : Nat) (copies : List KCopy) (erase : Bool) (hk : Within F s0 s) : Within F s0 (stageIn s origin oseq slot copies erase) :=
  within_ite hk (mirrorEntry_within _ _ hk)

theorem eraseIn_within {F : Part → Prop} [Has F .ks] {s0 : State} (s : State) (origin oseq slot : Nat) (hk : Within F s0 s) : Within F s0 (eraseIn s origin oseq slot) := by
  unfold eraseIn
  iterate 60 (try (any_goals (first | with_reducible assumption | with_reducible apply within_ite | with_reducible apply within_ite_snd | with_reducible apply stageIn_within | (with_reducible apply within_foldl <;> [skip; intro _ _ _]) | split | extract_lets | (apply within_eq; with_reducible assumption) | dsimp -zeta only | ((with_reducible apply within_mk) <;> first | exact .inl Has.has | exact .inr rfl | skip))))

theorem execFlitReceive_within {F : Part → Prop} [Has F .free] [Has F .regs] [Has F .arbs] [Has F .doms] [Has F .xq] [Has F .westad] [Has F .out] (l : Fin 4) (flit : List Byte) (s : State) : GoesIn F s (execFlitReceive l flit s) :=
  ⟨_, rfl, flitIn_within _ _ _ (Within.refl s)⟩

theorem execNak_within {F : Part → Prop} [Has F .free] [Has F .regs] [Has F .arbs] [Has F .doms] [Has F .xq] [Has F .westad] [Has F .out] (l : Fin 4) (seq : BitVec 12) (s : State) : GoesIn F s (execNak l seq s) :=
  ⟨_, rfl, replayFrom_within _ _ _ (Within.refl s)⟩

theorem execReplayTimeout_within {F : Part → Prop} [Has F .free] [Has F .regs] [Has F .arbs] [Has F .doms] [Has F .xq] [Has F .westad] [Has F .out] (l : Fin 4) (s : State) : GoesIn F s (execReplayTimeout l s) := by
  have hk : Within F s s := Within.refl s
  unfold execReplayTimeout
  (try extract_lets)
  refine ⟨_, rfl, ?_⟩
  iterate 30 (try (any_goals (first | with_reducible assumption | with_reducible apply within_ite | with_reducible apply replayFrom_within | (with_reducible apply within_foldl <;> [skip; intro _ _ _]) | intro _ _ | split | extract_lets | dsimp -zeta only | ((with_reducible apply within_mk) <;> first | exact .inl Has.has | exact .inr rfl | skip))))

theorem execWestadLaneFailure_within {F : Part → Prop} [Has F .free] [Has F .regs] [Has F .threads] [Has F .cyls] [Has F .engs] [Has F .arbs] [Has F .doms] [Has F .xq] [Has F .westad] [Has F .faults] [Has F .out] (l : Fin 4) (lane : Fin 4) (s : State) : GoesIn F s (execWestadLaneFailure l lane s) :=
  ⟨_, rfl, linkLaneFails_within _ _ _ (Within.refl s)⟩

theorem execWestadLinkDown_within {F : Part → Prop} [Has F .free] [Has F .regs] [Has F .arbs] [Has F .doms] [Has F .xq] [Has F .westad] [Has F .out] (l : Fin 4) (s : State) : GoesIn F s (execWestadLinkDown l s) :=
  ⟨_, rfl, linkLost_within _ _ (Within.refl s)⟩

theorem execMessageResendTimeout_within {F : Part → Prop} [Has F .arbs] [Has F .westad] [Has F .out] (m : Fin 8) (s : State) : GoesIn F s (execMessageResendTimeout m s) :=
  ⟨_, rfl, within_ite (Within.refl s) (resendPair_within _ _ (Within.refl s))⟩

theorem execRoute_within {F : Part → Prop} [Has F .free] [Has F .arbs] [Has F .westad] [Has F .out] (m : Fin 8) (links : List (Fin 8 × Fin 8)) (s : State) : GoesIn F s (execRoute m links s) :=
  ⟨_, rfl, routeIn_within _ _ _ (Within.refl s)⟩

theorem execAck_within {F : Part → Prop} [Has F .westad] (m : Fin 8) (_cls : Fin 3) (mseq : Nat) (s : State) : GoesIn F s (execAck m _cls mseq s) :=
  ⟨_, rfl, ackIn_within _ _ _ (Within.refl s)⟩

theorem execKx1_within {F : Part → Prop} [Has F .free] [Has F .arbs] [Has F .westad] [Has F .audit] [Has F .out] (m : Fin 8) (body : List Byte) (s : State) : GoesIn F s (execKx1 m body s) :=
  ⟨_, rfl, kx1In_within _ _ _ (Within.refl s)⟩

theorem execKx2_within {F : Part → Prop} [Has F .arbs] [Has F .westad] [Has F .audit] [Has F .out] (m : Fin 8) (body : List Byte) (s : State) : GoesIn F s (execKx2 m body s) :=
  ⟨_, rfl, kx2In_within _ _ _ (Within.refl s)⟩

theorem execKeyingRetry_within {F : Part → Prop} [Has F .free] [Has F .arbs] [Has F .westad] [Has F .out] (m : Fin 8) (s : State) : GoesIn F s (execKeyingRetry m s) :=
  ⟨_, rfl, keyingRetry_within _ _ (Within.refl s)⟩

theorem execMseqRekey_within {F : Part → Prop} [Has F .free] [Has F .arbs] [Has F .westad] [Has F .out] (m : Fin 8) (s : State) : GoesIn F s (execMseqRekey m s) :=
  ⟨_, rfl, mseqRekey_within _ _ (Within.refl s)⟩

theorem execStage_within {F : Part → Prop} [Has F .ks] [Has F .arbs] [Has F .westad] [Has F .out] (m origin : Fin 8) (oseq : Nat) (slot : Fin 262144) (copies : List (List Byte)) (s : State) : GoesIn F s (execStage m origin oseq slot copies s) := by
  have hk : Within F s s := Within.refl s
  unfold execStage
  (try extract_lets)
  refine ⟨_, rfl, ?_⟩
  iterate 30 (try (any_goals (first | with_reducible assumption | with_reducible apply within_ite | with_reducible apply stageIn_within | with_reducible apply onMessage_within | (with_reducible apply within_foldl <;> [skip; intro _ _ _]) | intro _ _ | split | extract_lets | dsimp -zeta only | ((with_reducible apply within_mk) <;> first | exact .inl Has.has | exact .inr rfl | skip))))

theorem execErase_within {F : Part → Prop} [Has F .ks] [Has F .arbs] [Has F .westad] [Has F .out] (m origin : Fin 8) (oseq : Nat) (slot : Fin 262144) (s : State) : GoesIn F s (execErase m origin oseq slot s) := by
  have hk : Within F s s := Within.refl s
  unfold execErase
  (try extract_lets)
  refine ⟨_, rfl, ?_⟩
  iterate 30 (try (any_goals (first | with_reducible assumption | with_reducible apply within_ite | with_reducible apply eraseIn_within | with_reducible apply onMessage_within | (with_reducible apply within_foldl <;> [skip; intro _ _ _]) | intro _ _ | split | extract_lets | dsimp -zeta only | ((with_reducible apply within_mk) <;> first | exact .inl Has.has | exact .inr rfl | skip))))

theorem execDiscardMsg_within {F : Part → Prop} [Has F .ks] [Has F .arbs] [Has F .westad] [Has F .out] (m origin : Fin 8) (_oseq : Nat) (s : State) : GoesIn F s (execDiscardMsg m origin _oseq s) := by
  have hk : Within F s s := Within.refl s
  unfold execDiscardMsg
  (try extract_lets)
  refine ⟨_, rfl, ?_⟩
  iterate 30 (try (any_goals (first | with_reducible assumption | with_reducible apply within_ite | with_reducible apply onMessage_within | with_reducible apply discardStaged_within | (with_reducible apply within_foldl <;> [skip; intro _ _ _]) | intro _ _ | split | extract_lets | dsimp -zeta only | ((with_reducible apply within_mk) <;> first | exact .inl Has.has | exact .inr rfl | skip))))

/-! ### Timebase -/

theorem tbSetWrite_within {F : Part → Prop} [Has F .now] {s0 : State} (s : State) (p : Nat) (v : Word) (hk : Within F s0 s) : Within F s0 (tbSetWrite s p v) := by
  unfold tbSetWrite
  iterate 60 (try (any_goals (first | with_reducible assumption | with_reducible apply within_ite | with_reducible apply within_ite_snd | (with_reducible apply within_foldl <;> [skip; intro _ _ _]) | split | extract_lets | (apply within_eq; with_reducible assumption) | dsimp -zeta only | ((with_reducible apply within_mk) <;> first | exact .inl Has.has | exact .inr rfl | skip))))

theorem raiseLock_within {F : Part → Prop} [Has F .regs] {s0 : State} (s : State) (hk : Within F s0 s) : Within F s0 (raiseLock s) :=
  within_ite hk (regSet_within _ _ _ _ hk)

theorem ptpSync_within {F : Part → Prop} [Has F .now] [Has F .regs] [Has F .ptpGood] {s0 : State} (s : State) (port domain : Nat) (m : PtpMessage) (hk : Within F s0 s) : Within F s0 (ptpSync s port domain m) := by
  unfold ptpSync
  iterate 60 (try (any_goals (first | with_reducible assumption | with_reducible apply within_ite | with_reducible apply within_ite_snd | with_reducible apply raiseLock_within | with_reducible apply setBits_within | (with_reducible apply within_foldl <;> [skip; intro _ _ _]) | split | extract_lets | (apply within_eq; with_reducible assumption) | dsimp -zeta only | ((with_reducible apply within_mk) <;> first | exact .inl Has.has | exact .inr rfl | skip))))

theorem ptpLost_within {F : Part → Prop} [Has F .regs] [Has F .ptpGood] {s0 : State} (s : State) (hk : Within F s0 s) : Within F s0 (ptpLost s) := by
  unfold ptpLost
  iterate 60 (try (any_goals (first | with_reducible assumption | with_reducible apply within_ite | with_reducible apply within_ite_snd | with_reducible apply fldSet_within | (with_reducible apply within_foldl <;> [skip; intro _ _ _]) | split | extract_lets | (apply within_eq; with_reducible assumption) | dsimp -zeta only | ((with_reducible apply within_mk) <;> first | exact .inl Has.has | exact .inr rfl | skip))))

theorem bridge_within {F : Part → Prop} [Has F .now] [Has F .regs] {s0 : State} (s : State) (hk : Within F s0 s) : Within F s0 (bridge s) := by
  unfold bridge
  iterate 60 (try (any_goals (first | with_reducible assumption | with_reducible apply within_ite | with_reducible apply within_ite_snd | with_reducible apply regSet_within | (with_reducible apply within_foldl <;> [skip; intro _ _ _]) | split | extract_lets | (apply within_eq; with_reducible assumption) | dsimp -zeta only | ((with_reducible apply within_mk) <;> first | exact .inl Has.has | exact .inr rfl | skip))))

theorem ppsPulse_within {F : Part → Prop} [Has F .pins] [Has F .out] {s0 : State} (s : State) (hk : Within F s0 s) : Within F s0 (ppsPulse s) := by
  unfold ppsPulse
  iterate 60 (try (any_goals (first | with_reducible assumption | with_reducible apply within_ite | with_reducible apply within_ite_snd | with_reducible apply emit_within | (with_reducible apply within_foldl <;> [skip; intro _ _ _]) | split | extract_lets | (apply within_eq; with_reducible assumption) | dsimp -zeta only | ((with_reducible apply within_mk) <;> first | exact .inl Has.has | exact .inr rfl | skip))))

theorem execPtpMessage_within {F : Part → Prop} [Has F .now] [Has F .regs] [Has F .ptpGood] (port : Fin 2) (domain : Byte) (m : PtpMessage) (s : State) : GoesIn F s (execPtpMessage port domain m s) :=
  ⟨_, rfl, ptpSync_within _ _ _ _ (Within.refl s)⟩

theorem execPtpLockLoss_within {F : Part → Prop} [Has F .regs] [Has F .ptpGood] (s : State) : GoesIn F s (execPtpLockLoss s) :=
  ⟨_, rfl, ptpLost_within _ (Within.refl s)⟩

theorem execTbSet_within {F : Part → Prop} [Has F .now] (p : Fin 256) (v : Word) (s : State) : GoesIn F s (execTbSet p v s) :=
  ⟨_, rfl, tbSetWrite_within _ _ _ (Within.refl s)⟩

theorem execPpsPulse_within {F : Part → Prop} [Has F .pins] [Has F .out] (s : State) : GoesIn F s (execPpsPulse s) :=
  ⟨_, rfl, ppsPulse_within _ (Within.refl s)⟩

/-! ### Governor -/

theorem pwrEvt_within {F : Part → Prop} [Has F .regs] [Has F .threads] [Has F .srcs] {s0 : State} (s : State) (bit : Nat) (hk : Within F s0 s) : Within F s0 (pwrEvt s bit) := by
  unfold pwrEvt
  iterate 60 (try (any_goals (first | with_reducible assumption | with_reducible apply within_ite | with_reducible apply within_ite_snd | with_reducible apply raise_within | with_reducible apply setBits_within | (with_reducible apply within_foldl <;> [skip; intro _ _ _]) | split | extract_lets | (apply within_eq; with_reducible assumption) | dsimp -zeta only | ((with_reducible apply within_mk) <;> first | exact .inl Has.has | exact .inr rfl | skip))))

theorem modSupply_within {F : Part → Prop} [Has F .supply] {s0 : State} (s : State) (f : Supply → Supply) (hk : Within F s0 s) : Within F s0 (modSupply s f) := by
  unfold modSupply
  iterate 60 (try (any_goals (first | with_reducible assumption | with_reducible apply within_ite | with_reducible apply within_ite_snd | (with_reducible apply within_foldl <;> [skip; intro _ _ _]) | split | extract_lets | (apply within_eq; with_reducible assumption) | dsimp -zeta only | ((with_reducible apply within_mk) <;> first | exact .inl Has.has | exact .inr rfl | skip))))

theorem governorTick_within {F : Part → Prop} [Has F .regs] [Has F .threads] [Has F .krs] [Has F .srcs] {s0 : State} (s : State) (i demand : Nat) (temp : Int) (ro : Nat) (hk : Within F s0 s) : Within F s0 (governorTick s i demand temp ro) := by
  unfold governorTick
  iterate 60 (try (any_goals (first | with_reducible assumption | with_reducible apply within_ite | with_reducible apply within_ite_snd | with_reducible apply pwrEvt_within | with_reducible apply modKr_within | (with_reducible apply within_foldl <;> [skip; intro _ _ _]) | split | extract_lets | (apply within_eq; with_reducible assumption) | dsimp -zeta only | ((with_reducible apply within_mk) <;> first | exact .inl Has.has | exact .inr rfl | skip))))

theorem learningEnd_within {F : Part → Prop} [Has F .free] [Has F .krs] {s0 : State} (s : State) (i : Nat) (hk : Within F s0 s) : Within F s0 (learningEnd s i) := by
  unfold learningEnd
  iterate 60 (try (any_goals (first | with_reducible assumption | with_reducible apply within_ite | with_reducible apply within_ite_snd | with_reducible apply modKr_within | with_reducible apply freeBytes_within | (with_reducible apply within_foldl <;> [skip; intro _ _ _]) | split | extract_lets | (apply within_eq; with_reducible assumption) | dsimp -zeta only | ((with_reducible apply within_mk) <;> first | exact .inl Has.has | exact .inr rfl | skip))))

theorem ledgerHour_within {F : Part → Prop} [Has F .krs] [Has F .audit] {s0 : State} (s : State) (hk : Within F s0 s) : Within F s0 (ledgerHour s) := by
  unfold ledgerHour
  iterate 60 (try (any_goals (first | with_reducible assumption | with_reducible apply within_ite | with_reducible apply within_ite_snd | with_reducible apply audit_within | with_reducible apply modKr_within | (with_reducible apply within_foldl <;> [skip; intro _ _ _]) | split | extract_lets | (apply within_eq; with_reducible assumption) | dsimp -zeta only | ((with_reducible apply within_mk) <;> first | exact .inl Has.has | exact .inr rfl | skip))))

theorem blowWear_within {F : Part → Prop} [Has F .fuses] {s0 : State} (s : State) (i : Nat) (hk : Within F s0 s) : Within F s0 (blowWear s i) := by
  unfold blowWear
  iterate 60 (try (any_goals (first | with_reducible assumption | with_reducible apply within_ite | with_reducible apply within_ite_snd | (with_reducible apply within_foldl <;> [skip; intro _ _ _]) | split | extract_lets | (apply within_eq; with_reducible assumption) | dsimp -zeta only | ((with_reducible apply within_mk) <;> first | exact .inl Has.has | exact .inr rfl | skip))))

theorem measured_within {F : Part → Prop} [Has F .free] {s0 : State} (s : State) (lo hi : Nat) (hk : Within F s0 s) : Within F s0 (measured s lo hi).2 := by
  unfold measured
  iterate 60 (try (any_goals (first | with_reducible assumption | with_reducible apply within_ite | with_reducible apply within_ite_snd | with_reducible apply freeWord_within | (with_reducible apply within_foldl <;> [skip; intro _ _ _]) | split | extract_lets | (apply within_eq; with_reducible assumption) | dsimp -zeta only | ((with_reducible apply within_mk) <;> first | exact .inl Has.has | exact .inr rfl | skip))))

theorem flatBoundary_within {F : Part → Prop} [Has F .free] [Has F .regs] [Has F .threads] [Has F .srcs] [Has F .supply] {s0 : State} (s : State) (mean : Nat) (hk : Within F s0 s) : Within F s0 (flatBoundary s mean) := by
  unfold flatBoundary
  iterate 60 (try (any_goals (first | with_reducible assumption | with_reducible apply within_ite | with_reducible apply within_ite_snd | with_reducible apply measured_within | with_reducible apply modSupply_within | with_reducible apply pwrEvt_within | (with_reducible apply within_foldl <;> [skip; intro _ _ _]) | split | extract_lets | (apply within_eq; with_reducible assumption) | dsimp -zeta only | ((with_reducible apply within_mk) <;> first | exact .inl Has.has | exact .inr rfl | skip))))

theorem flatWrite_within {F : Part → Prop} [Has F .free] [Has F .regs] [Has F .supply] {s0 : State} (s : State) (p : Nat) (v : Word) (hk : Within F s0 s) : Within F s0 (flatWrite s p v) := by
  unfold flatWrite
  iterate 60 (try (any_goals (first | with_reducible assumption | with_reducible apply within_ite | with_reducible apply within_ite_snd | with_reducible apply measured_within | with_reducible apply modSupply_within | with_reducible apply plainWrite_within | (with_reducible apply within_foldl <;> [skip; intro _ _ _]) | split | extract_lets | (apply within_eq; with_reducible assumption) | dsimp -zeta only | ((with_reducible apply within_mk) <;> first | exact .inl Has.has | exact .inr rfl | skip))))

theorem restEnter_within {F : Part → Prop} [Has F .cyls] {s0 : State} (s : State) (c : Nat) (hk : Within F s0 s) : Within F s0 (restEnter s c) :=
  within_ite (modCyl_within _ _ _ hk) hk

theorem restLeave_within {F : Part → Prop} [Has F .threads] [Has F .cyls] {s0 : State} (s : State) (c : Nat) (hk : Within F s0 s) : Within F s0 (restLeave s c) :=
  within_ite (settle_within _ (modCyl_within _ _ _ hk)) hk

theorem dozeEnter_within {F : Part → Prop} [Has F .krs] {s0 : State} (s : State) (k : Nat) (hk : Within F s0 s) : Within F s0 (dozeEnter s k) := by
  unfold dozeEnter
  iterate 60 (try (any_goals (first | with_reducible assumption | with_reducible apply within_ite | with_reducible apply within_ite_snd | with_reducible apply modKr_within | (with_reducible apply within_foldl <;> [skip; intro _ _ _]) | split | extract_lets | (apply within_eq; with_reducible assumption) | dsimp -zeta only | ((with_reducible apply within_mk) <;> first | exact .inl Has.has | exact .inr rfl | skip))))

theorem dozeLeave_within {F : Part → Prop} [Has F .threads] [Has F .krs] {s0 : State} (s : State) (k : Nat) (hk : Within F s0 s) : Within F s0 (dozeLeave s k) :=
  within_ite (settle_within _ (modKr_within _ _ _ hk)) hk

theorem idleWrite_within {F : Part → Prop} [Has F .regs] {s0 : State} (s : State) (p : Nat) (v : Word) (hk : Within F s0 s) : Within F s0 (idleWrite s p v) := by
  unfold idleWrite
  iterate 60 (try (any_goals (first | with_reducible assumption | with_reducible apply within_ite | with_reducible apply within_ite_snd | with_reducible apply plainWrite_within | (with_reducible apply within_foldl <;> [skip; intro _ _ _]) | split | extract_lets | (apply within_eq; with_reducible assumption) | dsimp -zeta only | ((with_reducible apply within_mk) <;> first | exact .inl Has.has | exact .inr rfl | skip))))

theorem execFlatWindowBoundary_within {F : Part → Prop} [Has F .free] [Has F .regs] [Has F .threads] [Has F .srcs] [Has F .supply] (meanLoad : Nat) (s : State) : GoesIn F s (execFlatWindowBoundary meanLoad s) :=
  ⟨_, rfl, flatBoundary_within _ _ (Within.refl s)⟩

theorem execGovernorTick_within {F : Part → Prop} [Has F .regs] [Has F .threads] [Has F .krs] [Has F .srcs] (k : Fin 16) (demand : Nat) (temp : Int) (ro : Nat) (s : State) : GoesIn F s (execGovernorTick k demand temp ro s) :=
  ⟨_, rfl, settle_within _ (governorTick_within _ _ _ _ _ (Within.refl s))⟩

theorem execLedgerRecord_within {F : Part → Prop} [Has F .krs] [Has F .audit] (s : State) : GoesIn F s (execLedgerRecord s) :=
  ⟨_, rfl, ledgerHour_within _ (Within.refl s)⟩

theorem execWearFuseBlow_within {F : Part → Prop} [Has F .fuses] (k : Fin 16) (s : State) : GoesIn F s (execWearFuseBlow k s) :=
  ⟨_, rfl, blowWear_within _ _ (Within.refl s)⟩

theorem execLearningEnd_within {F : Part → Prop} [Has F .free] [Has F .krs] (k : Fin 16) (s : State) : GoesIn F s (execLearningEnd k s) :=
  ⟨_, rfl, learningEnd_within _ _ (Within.refl s)⟩

theorem execRestEntry_within {F : Part → Prop} [Has F .cyls] (c : Fin 128) (s : State) : GoesIn F s (execRestEntry c s) :=
  ⟨_, rfl, restEnter_within _ _ (Within.refl s)⟩

theorem execRestExit_within {F : Part → Prop} [Has F .threads] [Has F .cyls] (c : Fin 128) (s : State) : GoesIn F s (execRestExit c s) :=
  ⟨_, rfl, restLeave_within _ _ (Within.refl s)⟩

theorem execDozeEntry_within {F : Part → Prop} [Has F .krs] (k : Fin 16) (s : State) : GoesIn F s (execDozeEntry k s) :=
  ⟨_, rfl, dozeEnter_within _ _ (Within.refl s)⟩

theorem execDozeExit_within {F : Part → Prop} [Has F .threads] [Has F .krs] (k : Fin 16) (s : State) : GoesIn F s (execDozeExit k s) :=
  ⟨_, rfl, dozeLeave_within _ _ (Within.refl s)⟩

theorem execCylIdleT_within {F : Part → Prop} [Has F .regs] (p : Fin 256) (v : Word) (s : State) : GoesIn F s (execCylIdleT p v s) :=
  ⟨_, rfl, idleWrite_within _ _ _ (Within.refl s)⟩

/-! ### Seals -/

theorem trailer_within {F : Part → Prop} [Has F .free] {s0 : State} (s : State) (final : Bool) (n : Nat) (hk : Within F s0 s) : Within F s0 (trailer s final n).2 := by
  unfold trailer
  iterate 60 (try (any_goals (first | with_reducible assumption | with_reducible apply within_ite | with_reducible apply within_ite_snd | with_reducible apply identitySign_within | with_reducible apply freeBytes_within | (with_reducible apply within_foldl <;> [skip; intro _ _ _]) | split | extract_lets | (apply within_eq; with_reducible assumption) | dsimp -zeta only | ((with_reducible apply within_mk) <;> first | exact .inl Has.has | exact .inr rfl | skip))))

theorem modAudit_within {F : Part → Prop} [Has F .audit] {s0 : State} (s : State) (f : Audit → Audit) (hk : Within F s0 s) : Within F s0 (modAudit s f) := by
  unfold modAudit
  iterate 60 (try (any_goals (first | with_reducible assumption | with_reducible apply within_ite | with_reducible apply within_ite_snd | with_reducible apply audit_within | (with_reducible apply within_foldl <;> [skip; intro _ _ _]) | split | extract_lets | (apply within_eq; with_reducible assumption) | dsimp -zeta only | ((with_reducible apply within_mk) <;> first | exact .inl Has.has | exact .inr rfl | skip))))

theorem beginSeal_within {F : Part → Prop} [Has F .free] [Has F .audit] [Has F .fuses] {s0 : State} (s : State) (va : Nat) (final : Bool) (hk : Within F s0 s) :
    ∀ t, beginSeal s va final = some t → Within F s0 t := by
  intro t ht
  have h1 : Within F s0 (if final then blowEpoch s else s) := within_ite (blowEpoch_within _ hk) hk
  unfold beginSeal at ht
  dsimp only at ht
  split at ht
  · cases ht
  · cases ht
    exact modAudit_within _ _ (trailer_within _ _ _ h1)

theorem sealWrite_within {F : Part → Prop} [Has F .free] [Has F .regs] [Has F .audit] [Has F .fuses] {s0 : State} (s : State) (p : Nat) (va : VAddr) (final : Bool) (hk : Within F s0 s) :
    Within F s0 (sealWrite s p va final) := by
  unfold sealWrite
  apply within_ite hk
  extract_lets s1 ok
  have h1 : Within F s0 s1 := fldSet_within _ _ _ _ _ _ hk
  apply within_ite (modAudit_within _ _ h1)
  split
  · exact modAudit_within _ _ h1
  · rename_i t e
    exact beginSeal_within _ _ _ h1 _ e

theorem sealDone_within {F : Part → Prop} [Has F .mem] [Has F .poison] [Has F .threads] [Has F .audit] {s0 : State} (s : State) (hk : Within F s0 s) : Within F s0 (sealDone s) := by
  unfold sealDone
  iterate 60 (try (any_goals (first | with_reducible assumption | with_reducible apply within_ite | with_reducible apply within_ite_snd | with_reducible apply modAudit_within | with_reducible apply storeBytes_within | with_reducible apply audit_within | (with_reducible apply within_foldl <;> [skip; intro _ _ _]) | split | extract_lets | (apply within_eq; with_reducible assumption) | dsimp -zeta only | ((with_reducible apply within_mk) <;> first | exact .inl Has.has | exact .inr rfl | skip))))

theorem deviceFinal_within {F : Part → Prop} [Has F .free] [Has F .fuses] [Has F .out] {s0 : State} (s : State) (hk : Within F s0 s) : Within F s0 (deviceFinal s) := by
  unfold deviceFinal
  iterate 60 (try (any_goals (first | with_reducible assumption | with_reducible apply within_ite | with_reducible apply within_ite_snd | with_reducible apply trailer_within | with_reducible apply blowEpoch_within | with_reducible apply emit_within | (with_reducible apply within_foldl <;> [skip; intro _ _ _]) | split | extract_lets | (apply within_eq; with_reducible assumption) | dsimp -zeta only | ((with_reducible apply within_mk) <;> first | exact .inl Has.has | exact .inr rfl | skip))))

theorem setAttest_within {F : Part → Prop} [Has F .req] {s0 : State} (s : State) (p st : Nat) (hk : Within F s0 s) : Within F s0 (setAttest s p st) := by
  unfold setAttest
  iterate 60 (try (any_goals (first | with_reducible assumption | with_reducible apply within_ite | with_reducible apply within_ite_snd | (with_reducible apply within_foldl <;> [skip; intro _ _ _]) | split | extract_lets | (apply within_eq; with_reducible assumption) | dsimp -zeta only | ((with_reducible apply within_mk) <;> first | exact .inl Has.has | exact .inr rfl | skip))))

theorem attestWrite_within {F : Part → Prop} [Has F .req] {s0 : State} (s : State) (p : Nat) (va : VAddr) (hk : Within F s0 s) : Within F s0 (attestWrite s p va) := by
  unfold attestWrite
  iterate 60 (try (any_goals (first | with_reducible assumption | with_reducible apply within_ite | with_reducible apply within_ite_snd | with_reducible apply setAttest_within | (with_reducible apply within_foldl <;> [skip; intro _ _ _]) | split | extract_lets | (apply within_eq; with_reducible assumption) | dsimp -zeta only | ((with_reducible apply within_mk) <;> first | exact .inl Has.has | exact .inr rfl | skip))))

theorem attestDone_within {F : Part → Prop} [Has F .free] [Has F .mem] [Has F .poison] [Has F .threads] [Has F .req] {s0 : State} (s : State) (hk : Within F s0 s) : Within F s0 (attestDone s) := by
  unfold attestDone
  iterate 60 (try (any_goals (first | with_reducible assumption | with_reducible apply within_ite | with_reducible apply within_ite_snd | with_reducible apply setAttest_within | with_reducible apply storeBytes_within | with_reducible apply identitySign_within | with_reducible apply freeBytes_within | (with_reducible apply within_foldl <;> [skip; intro _ _ _]) | split | extract_lets | (apply within_eq; with_reducible assumption) | dsimp -zeta only | ((with_reducible apply within_mk) <;> first | exact .inl Has.has | exact .inr rfl | skip))))

theorem execAuditSeal_within {F : Part → Prop} [Has F .free] [Has F .regs] [Has F .audit] [Has F .fuses] (p : Fin 256) (va : BitVec 56) (s : State) : GoesIn F s (execAuditSeal p va s) :=
  ⟨_, rfl, sealWrite_within _ _ _ _ (Within.refl s)⟩

theorem execFinalSeal_within {F : Part → Prop} [Has F .free] [Has F .regs] [Has F .audit] [Has F .fuses] (p : Fin 256) (va : BitVec 56) (s : State) : GoesIn F s (execFinalSeal p va s) :=
  ⟨_, rfl, sealWrite_within _ _ _ _ (Within.refl s)⟩

theorem execSealDone_within {F : Part → Prop} [Has F .mem] [Has F .poison] [Has F .threads] [Has F .audit] (s : State) : GoesIn F s (execSealDone s) :=
  ⟨_, rfl, sealDone_within _ (Within.refl s)⟩

theorem execKeepAttest_within {F : Part → Prop} [Has F .req] (p : Fin 256) (va : BitVec 56) (s : State) : GoesIn F s (execKeepAttest p va s) :=
  ⟨_, rfl, attestWrite_within _ _ _ (Within.refl s)⟩

theorem execAttestDone_within {F : Part → Prop} [Has F .free] [Has F .mem] [Has F .poison] [Has F .threads] [Has F .req] (s : State) : GoesIn F s (execAttestDone s) :=
  ⟨_, rfl, attestDone_within _ (Within.refl s)⟩

/-! ### Boot -/

theorem modBoot_within {F : Part → Prop} [Has F .boot] {s0 : State} (s : State) (f : Boot → Boot) (hk : Within F s0 s) : Within F s0 (modBoot s f) := by
  unfold modBoot
  iterate 60 (try (any_goals (first | with_reducible assumption | with_reducible apply within_ite | with_reducible apply within_ite_snd | (with_reducible apply within_foldl <;> [skip; intro _ _ _]) | split | extract_lets | (apply within_eq; with_reducible assumption) | dsimp -zeta only | ((with_reducible apply within_mk) <;> first | exact .inl Has.has | exact .inr rfl | skip))))

theorem imageRecords_within {F : Part → Prop} [Has F .audit] {s0 : State} (s : State) (b : Bytes) (kinds : List Nat) (hk : Within F s0 s) : Within F s0 (imageRecords s b kinds) := by
  unfold imageRecords
  iterate 60 (try (any_goals (first | with_reducible assumption | with_reducible apply within_ite | with_reducible apply within_ite_snd | with_reducible apply audit_within | (with_reducible apply within_foldl <;> [skip; intro _ _ _]) | split | extract_lets | (apply within_eq; with_reducible assumption) | dsimp -zeta only | ((with_reducible apply within_mk) <;> first | exact .inl Has.has | exact .inr rfl | skip))))

theorem restoreImage_within {F : Part → Prop} [Has F .ks] [Has F .guard] {s0 : State} (s : State) (turn : Nat) (b : Bytes) (hk : Within F s0 s) :
    ∀ t, restoreImage s turn b = some t → Within F s0 t := by
  intro t ht
  unfold restoreImage at ht
  split at ht
  · cases ht
  · split at ht
    · cases ht
    · split at ht
      · cases ht
      · extract_lets s1 at ht
        cases ht
        have h1 : Within F s0 s1 := within_foldl _ hk (fun _ _ h => within_foldl _ h (fun _ _ h => putCopies_within _ _ _ h))
        exact within_step h1 rfl (by intro p; cases p <;> first | exact .inl Has.has | exact .inr rfl)

theorem sweepKeys_within {F : Part → Prop} [Has F .regs] [Has F .threads] [Has F .cyls] [Has F .engs] [Has F .ks] [Has F .srcs] [Has F .doms] [Has F .audit] [Has F .faults] {s0 : State} (s : State) (hk : Within F s0 s) : Within F s0 (sweepKeys s) := by
  unfold sweepKeys
  iterate 60 (try (any_goals (first | with_reducible assumption | with_reducible apply within_ite | with_reducible apply within_ite_snd | with_reducible apply readLive_within | (with_reducible apply within_foldl <;> [skip; intro _ _ _]) | split | extract_lets | (apply within_eq; with_reducible assumption) | dsimp -zeta only | ((with_reducible apply within_mk) <;> first | exact .inl Has.has | exact .inr rfl | skip))))

theorem makeImage_within {F : Part → Prop} [Has F .free] {s0 : State} (s : State) (hk : Within F s0 s) : Within F s0 (makeImage s).2 := by
  unfold makeImage
  iterate 60 (try (any_goals (first | with_reducible assumption | with_reducible apply within_ite | with_reducible apply within_ite_snd | with_reducible apply trngBytes_within | (with_reducible apply within_foldl <;> [skip; intro _ _ _]) | split | extract_lets | (apply within_eq; with_reducible assumption) | dsimp -zeta only | ((with_reducible apply within_mk) <;> first | exact .inl Has.has | exact .inr rfl | skip))))

theorem loadOne_within {F : Part → Prop} [Has F .mem] {s0 : State} (s : State) (p off : Nat) (reloc : Bool) (d : Bytes) (hk : Within F s0 s) :
    ∀ t, loadOne s p off reloc d = some t → Within F s0 t := by
  intro t ht
  unfold loadOne at ht
  split at ht
  · cases ht
  · split at ht
    · cases ht
      exact hk
    · split at ht
      · cases ht
      · cases ht
        exact within_step hk rfl (by intro p; cases p <;> first | exact .inl Has.has | exact .inr rfl)

theorem loadEach_within {F : Part → Prop} [Has F .mem] {s0 : State} (s : State) (off : Nat) (reloc : Bool) (d : Bytes) (l : List Nat) (hk : Within F s0 s) :
    ∀ t, loadEach s off reloc d l = some t → Within F s0 t := by
  have h : ∀ (l : List Nat) (o : Option State), (∀ t, o = some t → Within F s0 t) →
      ∀ t, l.foldl (fun o p => o.bind (fun s => loadOne s p off reloc d)) o = some t → Within F s0 t := by
    intro l
    induction l with
    | nil => intro o ho t ht; exact ho t ht
    | cons p l ih =>
      intro o ho t ht
      refine ih _ (fun u hu => ?_) t ht
      obtain ⟨v, hv, hw⟩ := Option.bind_eq_some_iff.1 hu
      exact loadOne_within _ _ _ _ _ (ho v hv) _ hw
  exact h l (some s) (fun t e => Option.some.inj e ▸ hk)

theorem loadRecords_within {F : Part → Prop} [Has F .mem] {s0 : State} (kind : Nat) : ∀ (n : Nat) (b : Bytes) (s : State), Within F s0 s →
    ∀ t, loadRecords kind n b s = some t → Within F s0 t := by
  intro n
  induction n with
  | zero => intro b s hk t ht; cases ht; exact hk
  | succ n ih =>
    intro b s hk t ht
    unfold loadRecords at ht
    split at ht
    · cases ht; exact hk
    · split at ht
      · cases ht
      · split at ht
        · cases ht
        · split at ht
          · cases ht
          · rename_i s1 e
            exact ih _ s1 (loadEach_within _ _ _ _ _ hk _ e) t ht

theorem loadImages_within {F : Part → Prop} [Has F .mem] {s0 : State} (s : State) (b : Bytes) (hk : Within F s0 s) : ∀ t, loadImages s b = some t → Within F s0 t := by
  intro t ht
  unfold loadImages at ht
  extract_lets pay at ht
  split at ht
  · cases ht
  · rename_i s1 e
    exact loadRecords_within _ _ _ _ (loadRecords_within _ _ _ _ hk _ e) _ ht

theorem reRetire_within {F : Part → Prop} [Has F .regs] [Has F .krs] [Has F .engs] [Has F .ks] [Has F .doms] [Has F .faults] {s0 : State} (s : State) (cls ix : Nat) (hk : Within F s0 s) : Within F s0 (reRetire s cls ix) := by
  unfold reRetire
  iterate 60 (try (any_goals (first | with_reducible assumption | with_reducible apply within_ite | with_reducible apply within_ite_snd | with_reducible apply setUnit_within | with_reducible apply setLane_within | with_reducible apply domDown_within | with_reducible apply modUnit_within | with_reducible apply modEng_within | with_reducible apply modKr_within | (with_reducible apply within_foldl <;> [skip; intro _ _ _]) | split | extract_lets | (apply within_eq; with_reducible assumption) | dsimp -zeta only | ((with_reducible apply within_mk) <;> first | exact .inl Has.has | exact .inr rfl | skip))))

theorem reRetireAll_within {F : Part → Prop} [Has F .regs] [Has F .krs] [Has F .engs] [Has F .ks] [Has F .doms] [Has F .faults] {s0 : State} (s : State) (hk : Within F s0 s) : Within F s0 (reRetireAll s) := by
  unfold reRetireAll
  iterate 60 (try (any_goals (first | with_reducible assumption | with_reducible apply within_ite | with_reducible apply within_ite_snd | with_reducible apply reRetire_within | (with_reducible apply within_foldl <;> [skip; intro _ _ _]) | split | extract_lets | (apply within_eq; with_reducible assumption) | dsimp -zeta only | ((with_reducible apply within_mk) <;> first | exact .inl Has.has | exact .inr rfl | skip))))

theorem bootStep_within {F : Part → Prop} [Has F .boot] [Has F .out] {s0 : State} (s : State) (n : Nat) (hk : Within F s0 s) : Within F s0 (bootStep s n) :=
  emit_within _ _ (modBoot_within _ _ hk)

theorem stopBoot_within {F : Part → Prop} [Has F .boot] {s0 : State} (s : State) (fail : Nat) (hk : Within F s0 s) : Within F s0 (stopBoot s fail) :=
  modBoot_within _ _ hk

theorem startVolt_within {F : Part → Prop} [Has F .free] {s0 : State} (s : State) (hk : Within F s0 s) : Within F s0 (startVolt s).2 := by
  unfold startVolt
  iterate 60 (try (any_goals (first | with_reducible assumption | with_reducible apply within_ite | with_reducible apply within_ite_snd | with_reducible apply measured_within | (with_reducible apply within_foldl <;> [skip; intro _ _ _]) | split | extract_lets | (apply within_eq; with_reducible assumption) | dsimp -zeta only | ((with_reducible apply within_mk) <;> first | exact .inl Has.has | exact .inr rfl | skip))))

theorem startRail_within {F : Part → Prop} [Has F .free] [Has F .krs] {s0 : State} (s : State) (i : Nat) (hk : Within F s0 s) : Within F s0 (startRail s i) := by
  unfold startRail
  iterate 60 (try (any_goals (first | with_reducible assumption | with_reducible apply within_ite | with_reducible apply within_ite_snd | with_reducible apply startVolt_within | with_reducible apply modKr_within | (with_reducible apply within_foldl <;> [skip; intro _ _ _]) | split | extract_lets | (apply within_eq; with_reducible assumption) | dsimp -zeta only | ((with_reducible apply within_mk) <;> first | exact .inl Has.has | exact .inr rfl | skip))))

theorem takeTrailer_within {F : Part → Prop} [Has F .free] [Has F .krs] [Has F .audit] {s0 : State} (s : State) (t : Bytes) (hk : Within F s0 s) : Within F s0 (takeTrailer s t) := by
  unfold takeTrailer
  iterate 60 (try (any_goals (first | with_reducible assumption | with_reducible apply within_ite | with_reducible apply within_ite_snd | with_reducible apply startRail_within | with_reducible apply modAudit_within | with_reducible apply modKr_within | (with_reducible apply within_foldl <;> [skip; intro _ _ _]) | split | extract_lets | (apply within_eq; with_reducible assumption) | dsimp -zeta only | ((with_reducible apply within_mk) <;> first | exact .inl Has.has | exact .inr rfl | skip))))

theorem takeFuses_within {F : Part → Prop} [Has F .krs] {s0 : State} (s : State) (hk : Within F s0 s) : Within F s0 (takeFuses s) := by
  unfold takeFuses
  iterate 60 (try (any_goals (first | with_reducible assumption | with_reducible apply within_ite | with_reducible apply within_ite_snd | with_reducible apply modKr_within | (with_reducible apply within_foldl <;> [skip; intro _ _ _]) | split | extract_lets | (apply within_eq; with_reducible assumption) | dsimp -zeta only | ((with_reducible apply within_mk) <;> first | exact .inl Has.has | exact .inr rfl | skip))))

theorem fullTraining_within {F : Part → Prop} [Has F .free] [Has F .boot] {s0 : State} (s : State) (hk : Within F s0 s) : Within F s0 (fullTraining s) := by
  have hf : Within F s0 { s with free := s.free + 1 } := within_step hk rfl (by intro p; cases p <;> first | exact .inl Has.has | exact .inr rfl)
  unfold fullTraining
  split
  · exact modBoot_within _ _ hf
  · exact stopBoot_within _ _ hf

theorem trainDram_within {F : Part → Prop} [Has F .free] [Has F .boot] {s0 : State} (s : State) (b : Bytes) (hk : Within F s0 s) : Within F s0 (trainDram s b) := by
  unfold trainDram
  extract_lets data
  clear_value data
  split
  · exact within_ite (modBoot_within _ _ hk) (fullTraining_within _ hk)
  · exact fullTraining_within _ hk

theorem applySettings_within {F : Part → Prop} [Has F .regs] [Has F .krs] {s0 : State} (s : State) (hk : Within F s0 s) : Within F s0 (applySettings s) := by
  unfold applySettings
  iterate 60 (try (any_goals (first | with_reducible assumption | with_reducible apply within_ite | with_reducible apply within_ite_snd | with_reducible apply moveDrbgs_within | with_reducible apply modKr_within | with_reducible apply fldSet_within | (with_reducible apply within_foldl <;> [skip; intro _ _ _]) | split | extract_lets | (apply within_eq; with_reducible assumption) | dsimp -zeta only | ((with_reducible apply within_mk) <;> first | exact .inl Has.has | exact .inr rfl | skip))))

theorem startAll_within {F : Part → Prop} [Has F .free] [Has F .regs] [Has F .mem] [Has F .poison] [Has F .threads] [Has F .cyls] [Has F .krs] [Has F .engs] [Has F .ks] [Has F .guard] [Has F .intake] [Has F .turns] [Has F .srcs] [Has F .arbs] [Has F .doms] [Has F .xq] [Has F .westad] [Has F .dbg] [Has F .audit] [Has F .faults] [Has F .boot] [Has F .req] [Has F .pins] [Has F .dramKeys] [Has F .out] {s0 : State} (s : State) (hk : Within F s0 s) : Within F s0 (startAll s) := by
  unfold startAll
  iterate 60 (try (any_goals (first | with_reducible assumption | with_reducible apply within_ite | with_reducible apply within_ite_snd | with_reducible apply applySettings_within | with_reducible apply modBoot_within | with_reducible apply enterQuiet_within | with_reducible apply assignFree_within | with_reducible apply comePresent_within | (with_reducible apply within_foldl <;> [skip; intro _ _ _]) | split | extract_lets | (apply within_eq; with_reducible assumption) | dsimp -zeta only | ((with_reducible apply within_mk) <;> first | exact .inl Has.has | exact .inr rfl | skip))))

theorem bootLater_within {F : Part → Prop} [Has F .free] [Has F .regs] [Has F .mem] [Has F .poison] [Has F .threads] [Has F .cyls] [Has F .krs] [Has F .engs] [Has F .ks] [Has F .guard] [Has F .intake] [Has F .turns] [Has F .srcs] [Has F .arbs] [Has F .doms] [Has F .xq] [Has F .westad] [Has F .dbg] [Has F .audit] [Has F .faults] [Has F .boot] [Has F .req] [Has F .pins] [Has F .seeded] [Has F .dramKeys] [Has F .out] {s0 : State} (s : State) (b : Bytes) (hk : Within F s0 s) : Within F s0 (bootLater s b) := by
  unfold bootLater
  extract_lets s1 s2 s3 s4 turn due
  have h1 : Within F s0 s1 := trainDram_within _ _ (bootStep_within _ _ hk)
  have h2 : Within F s0 s2 := imageRecords_within _ _ _ (modBoot_within _ _ h1)
  have h3 : Within F s0 s3 := bootStep_within _ _ h2
  have h4 : Within F s0 s4 := bootStep_within _ _ (seedArbiters_within _ h3)
  apply within_ite h1
  apply within_ite (stopBoot_within _ _ h1)
  apply within_ite (stopBoot_within _ _ h3)
  split
  · exact stopBoot_within _ _ h4
  · rename_i s5 e
    have h5 : Within F s0 s5 := by
      split at e
      · split at e
        · exact restoreImage_within _ _ _ h4 _ e
        · cases e
      · cases e; exact h4
    extract_lets s6
    have h6 : Within F s0 s6 := sweepKeys_within _ h5
    apply within_ite (quietSettle_within _ h6)
    split
    · exact stopBoot_within _ _ (bootStep_within _ _ h6)
    · rename_i s7 e7
      exact startAll_within _ (loadImages_within _ _ (bootStep_within _ _ h6) _ e7)

theorem bootRun_within {F : Part → Prop} [Has F .free] [Has F .regs] [Has F .mem] [Has F .poison] [Has F .threads] [Has F .cyls] [Has F .krs] [Has F .engs] [Has F .ks] [Has F .guard] [Has F .intake] [Has F .kc] [Has F .kcPrev] [Has F .turns] [Has F .srcs] [Has F .arbs] [Has F .doms] [Has F .xq] [Has F .westad] [Has F .dbg] [Has F .audit] [Has F .faults] [Has F .boot] [Has F .req] [Has F .pins] [Has F .seeded] [Has F .dramKeys] [Has F .out] {s0 : State} (s : State) (b : Bytes) (hk : Within F s0 s) : Within F s0 (bootRun s b) := by
  unfold bootRun
  iterate 60 (try (any_goals (first | with_reducible assumption | with_reducible apply within_ite | with_reducible apply within_ite_snd | with_reducible apply bootLater_within | with_reducible apply takeFuses_within | with_reducible apply takeTrailer_within | with_reducible apply stopBoot_within | with_reducible apply bootStep_within | with_reducible apply imageRecords_within | with_reducible apply modBoot_within | with_reducible apply judgeModes_within | with_reducible apply audit_within | (with_reducible apply within_foldl <;> [skip; intro _ _ _]) | split | extract_lets | (apply within_eq; with_reducible assumption) | dsimp -zeta only | ((with_reducible apply within_mk) <;> first | exact .inl Has.has | exact .inr rfl | skip))))

theorem drawNonces_within {F : Part → Prop} [Has F .free] [Has F .boot] {s0 : State} (s : State) (hk : Within F s0 s) : Within F s0 (drawNonces s) := by
  unfold drawNonces
  iterate 60 (try (any_goals (first | with_reducible assumption | with_reducible apply within_ite | with_reducible apply within_ite_snd | with_reducible apply modBoot_within | with_reducible apply trngBytes_within | (with_reducible apply within_foldl <;> [skip; intro _ _ _]) | split | extract_lets | (apply within_eq; with_reducible assumption) | dsimp -zeta only | ((with_reducible apply within_mk) <;> first | exact .inl Has.has | exact .inr rfl | skip))))

theorem sendGet_within {F : Part → Prop} [Has F .boot] [Has F .out] {s0 : State} (s : State) (off len : Nat) (hk : Within F s0 s) : Within F s0 (sendGet s off len) :=
  emit_within _ _ (modBoot_within _ _ hk)

theorem startFetch_within {F : Part → Prop} [Has F .boot] [Has F .out] {s0 : State} (s : State) (hk : Within F s0 s) : Within F s0 (startFetch s) := by
  unfold startFetch
  iterate 60 (try (any_goals (first | with_reducible assumption | with_reducible apply within_ite | with_reducible apply within_ite_snd | with_reducible apply sendGet_within | with_reducible apply modBoot_within | (with_reducible apply within_foldl <;> [skip; intro _ _ _]) | split | extract_lets | (apply within_eq; with_reducible assumption) | dsimp -zeta only | ((with_reducible apply within_mk) <;> first | exact .inl Has.has | exact .inr rfl | skip))))

theorem rootFails_within {F : Part → Prop} [Has F .faults] [Has F .fuses] [Has F .boot] {s0 : State} (s : State) (hk : Within F s0 s) : Within F s0 (rootFails s) := by
  unfold rootFails
  iterate 60 (try (any_goals (first | with_reducible assumption | with_reducible apply within_ite | with_reducible apply within_ite_snd | with_reducible apply stopBoot_within | with_reducible apply blowTamper_within | (with_reducible apply within_foldl <;> [skip; intro _ _ _]) | split | extract_lets | (apply within_eq; with_reducible assumption) | dsimp -zeta only | ((with_reducible apply within_mk) <;> first | exact .inl Has.has | exact .inr rfl | skip))))

theorem rootStep_within {F : Part → Prop} [Has F .keeper] [Has F .faults] [Has F .fuses] [Has F .boot] [Has F .out] {s0 : State} (s : State) (hk : Within F s0 s) : Within F s0 (rootStep s) := by
  unfold rootStep
  iterate 60 (try (any_goals (first | with_reducible assumption | with_reducible apply within_ite | with_reducible apply within_ite_snd | with_reducible apply rootFails_within | with_reducible apply bootStep_within | with_reducible apply modKeeper_within | (with_reducible apply within_foldl <;> [skip; intro _ _ _]) | split | extract_lets | (apply within_eq; with_reducible assumption) | dsimp -zeta only | ((with_reducible apply within_mk) <;> first | exact .inl Has.has | exact .inr rfl | skip))))

theorem coldBase_within {F : Part → Prop} [Has F .free] [Has F .now] [Has F .tally] [Has F .regs] [Has F .mem] [Has F .poison] [Has F .threads] [Has F .cyls] [Has F .krs] [Has F .engs] [Has F .dmaTlb] [Has F .inval] [Has F .ks] [Has F .guard] [Has F .dma] [Has F .dmaLast] [Has F .intake] [Has F .kc] [Has F .kcPrev] [Has F .turns] [Has F .srcs] [Has F .arbs] [Has F .doms] [Has F .xq] [Has F .westad] [Has F .dbg] [Has F .supply] [Has F .keeper] [Has F .audit] [Has F .faults] [Has F .fuses] [Has F .boot] [Has F .req] [Has F .pins] [Has F .seeded] [Has F .trngBad] [Has F .ptpGood] [Has F .dramKeys] [Has F .dramLost] [Has F .linkPower] {s0 : State} (s : State) (hk : Within F s0 s) : Within F s0 (coldBase s) := by
  unfold coldBase
  iterate 60 (try (any_goals (first | with_reducible assumption | with_reducible apply within_ite | with_reducible apply within_ite_snd | with_reducible apply measured_within | (with_reducible apply within_foldl <;> [skip; intro _ _ _]) | split | extract_lets | (apply within_eq; with_reducible assumption) | dsimp -zeta only | ((with_reducible apply within_mk) <;> first | exact .inl Has.has | exact .inr rfl | skip))))

theorem comesUp_within {F : Part → Prop} [Has F .free] {s0 : State} (s : State) (hk : Within F s0 s) : Within F s0 (comesUp s).2 := by
  unfold comesUp
  iterate 60 (try (any_goals (first | with_reducible assumption | with_reducible apply within_ite | with_reducible apply within_ite_snd | with_reducible apply freeWord_within | (with_reducible apply within_foldl <;> [skip; intro _ _ _]) | split | extract_lets | (apply within_eq; with_reducible assumption) | dsimp -zeta only | ((with_reducible apply within_mk) <;> first | exact .inl Has.has | exact .inr rfl | skip))))

theorem standby_within {F : Part → Prop} [Has F .free] [Has F .now] [Has F .tally] [Has F .regs] [Has F .mem] [Has F .poison] [Has F .threads] [Has F .cyls] [Has F .krs] [Has F .engs] [Has F .dmaTlb] [Has F .inval] [Has F .ks] [Has F .guard] [Has F .dma] [Has F .dmaLast] [Has F .intake] [Has F .kc] [Has F .kcPrev] [Has F .turns] [Has F .srcs] [Has F .arbs] [Has F .doms] [Has F .xq] [Has F .westad] [Has F .dbg] [Has F .supply] [Has F .keeper] [Has F .audit] [Has F .faults] [Has F .fuses] [Has F .boot] [Has F .req] [Has F .pins] [Has F .seeded] [Has F .trngBad] [Has F .ptpGood] [Has F .dramKeys] [Has F .dramLost] [Has F .linkPower] [Has F .out] {s0 : State} (s : State) (hk : Within F s0 s) : Within F s0 (standby s) :=
  bootStep_within _ _ (bootStep_within _ _ (setHolds_within _ (coldBase_within _ hk)))

theorem coldFrom_within {F : Part → Prop} [Has F .free] [Has F .regs] [Has F .krs] [Has F .engs] [Has F .ks] [Has F .doms] [Has F .keeper] [Has F .faults] [Has F .fuses] [Has F .boot] [Has F .out] {s0 : State} (s : State) (hk : Within F s0 s) : Within F s0 (coldFrom s) := by
  unfold coldFrom
  iterate 60 (try (any_goals (first | with_reducible assumption | with_reducible apply within_ite | with_reducible apply within_ite_snd | with_reducible apply comesUp_within | with_reducible apply rootStep_within | with_reducible apply startFetch_within | with_reducible apply drawNonces_within | with_reducible apply stopBoot_within | with_reducible apply bootStep_within | with_reducible apply reRetireAll_within | (with_reducible apply within_foldl <;> [skip; intro _ _ _]) | split | extract_lets | (apply within_eq; with_reducible assumption) | dsimp -zeta only | ((with_reducible apply within_mk) <;> first | exact .inl Has.has | exact .inr rfl | skip))))

theorem mainsApplied_within {F : Part → Prop} [Has F .free] [Has F .now] [Has F .tally] [Has F .regs] [Has F .mem] [Has F .poison] [Has F .threads] [Has F .cyls] [Has F .krs] [Has F .engs] [Has F .dmaTlb] [Has F .inval] [Has F .ks] [Has F .guard] [Has F .dma] [Has F .dmaLast] [Has F .intake] [Has F .kc] [Has F .kcPrev] [Has F .turns] [Has F .srcs] [Has F .arbs] [Has F .doms] [Has F .xq] [Has F .westad] [Has F .dbg] [Has F .supply] [Has F .keeper] [Has F .audit] [Has F .faults] [Has F .fuses] [Has F .boot] [Has F .req] [Has F .pins] [Has F .seeded] [Has F .trngBad] [Has F .ptpGood] [Has F .dramKeys] [Has F .dramLost] [Has F .linkPower] [Has F .out] {s0 : State} (s : State) (hk : Within F s0 s) : Within F s0 (mainsApplied s) := by
  unfold mainsApplied
  iterate 60 (try (any_goals (first | with_reducible assumption | with_reducible apply within_ite | with_reducible apply within_ite_snd | with_reducible apply coldFrom_within | with_reducible apply standby_within | with_reducible apply comesUp_within | with_reducible apply stopBoot_within | (with_reducible apply within_foldl <;> [skip; intro _ _ _]) | split | extract_lets | (apply within_eq; with_reducible assumption) | dsimp -zeta only | ((with_reducible apply within_mk) <;> first | exact .inl Has.has | exact .inr rfl | skip))))

theorem askMore_within {F : Part → Prop} [Has F .boot] [Has F .out] {s0 : State} (nn : Nat) : ∀ {s : State}, Within F s0 s → Within F s0 (askMore s nn) := by
  induction nn with
  | zero => intros; unfold askMore
            iterate 30 (try (any_goals (first | with_reducible assumption | with_reducible apply within_ite | with_reducible apply within_ite_snd | with_reducible apply sendGet_within | (with_reducible apply within_foldl <;> [skip; intro _ _ _]) | split | extract_lets | (apply within_eq; with_reducible assumption) | dsimp -zeta only | ((with_reducible apply within_mk) <;> first | exact .inl Has.has | exact .inr rfl | skip))))
  | succ nn ih =>
    intros
    unfold askMore
    iterate 60 (try (any_goals (first | with_reducible assumption | with_reducible apply ih | with_reducible apply within_ite | with_reducible apply within_ite_snd | with_reducible apply sendGet_within | (with_reducible apply within_foldl <;> [skip; intro _ _ _]) | split | extract_lets | (apply within_eq; with_reducible assumption) | dsimp -zeta only | ((with_reducible apply within_mk) <;> first | exact .inl Has.has | exact .inr rfl | skip))))

theorem bundleData_within {F : Part → Prop} [Has F .free] [Has F .regs] [Has F .mem] [Has F .poison] [Has F .threads] [Has F .cyls] [Has F .krs] [Has F .engs] [Has F .ks] [Has F .guard] [Has F .intake] [Has F .kc] [Has F .kcPrev] [Has F .turns] [Has F .srcs] [Has F .arbs] [Has F .doms] [Has F .xq] [Has F .westad] [Has F .dbg] [Has F .audit] [Has F .faults] [Has F .boot] [Has F .req] [Has F .pins] [Has F .seeded] [Has F .dramKeys] [Has F .out] {s0 : State} (s : State) (off len : Nat) (b : Bytes) (hk : Within F s0 s) : Within F s0 (bundleData s off len b) := by
  unfold bundleData
  iterate 60 (try (any_goals (first | with_reducible assumption | with_reducible apply within_ite | with_reducible apply within_ite_snd | with_reducible apply askMore_within | with_reducible apply bootRun_within | with_reducible apply stopBoot_within | with_reducible apply modBoot_within | (with_reducible apply within_foldl <;> [skip; intro _ _ _]) | split | extract_lets | (apply within_eq; with_reducible assumption) | dsimp -zeta only | ((with_reducible apply within_mk) <;> first | exact .inl Has.has | exact .inr rfl | skip))))

theorem warmBase_within {F : Part → Prop} [Has F .free] [Has F .now] [Has F .regs] [Has F .mem] [Has F .poison] [Has F .threads] [Has F .cyls] [Has F .krs] [Has F .engs] [Has F .dmaTlb] [Has F .inval] [Has F .ks] [Has F .guard] [Has F .dma] [Has F .dmaLast] [Has F .intake] [Has F .kcPrev] [Has F .turns] [Has F .srcs] [Has F .arbs] [Has F .doms] [Has F .xq] [Has F .westad] [Has F .dbg] [Has F .supply] [Has F .keeper] [Has F .audit] [Has F .faults] [Has F .fuses] [Has F .boot] [Has F .req] [Has F .pins] [Has F .seeded] [Has F .trngBad] [Has F .ptpGood] [Has F .dramKeys] [Has F .dramLost] [Has F .linkPower] {s0 : State} (s : State) (hk : Within F s0 s) : Within F s0 (warmBase s) := by
  unfold warmBase
  iterate 60 (try (any_goals (first | with_reducible assumption | with_reducible apply within_ite | with_reducible apply within_ite_snd | with_reducible apply reRetireAll_within | with_reducible apply endDebug_within | with_reducible apply setHolds_within | with_reducible apply audit_within | with_reducible apply regSet_within | (with_reducible apply within_foldl <;> [skip; intro _ _ _]) | split | extract_lets | (apply within_eq; with_reducible assumption) | dsimp -zeta only | ((with_reducible apply within_mk) <;> first | exact .inl Has.has | exact .inr rfl | skip))))

theorem warmRoot_within {F : Part → Prop} [Has F .keeper] {s0 : State} (s : State) (breach : Bool) (hk : Within F s0 s) : Within F s0 (warmRoot s breach) := by
  unfold warmRoot
  iterate 60 (try (any_goals (first | with_reducible assumption | with_reducible apply within_ite | with_reducible apply within_ite_snd | (with_reducible apply within_foldl <;> [skip; intro _ _ _]) | split | extract_lets | (apply within_eq; with_reducible assumption) | dsimp -zeta only | ((with_reducible apply within_mk) <;> first | exact .inl Has.has | exact .inr rfl | skip))))

theorem warmBoot_within {F : Part → Prop} [Has F .free] [Has F .now] [Has F .regs] [Has F .mem] [Has F .poison] [Has F .threads] [Has F .cyls] [Has F .krs] [Has F .engs] [Has F .dmaTlb] [Has F .inval] [Has F .ks] [Has F .guard] [Has F .dma] [Has F .dmaLast] [Has F .intake] [Has F .kc] [Has F .kcPrev] [Has F .turns] [Has F .srcs] [Has F .arbs] [Has F .doms] [Has F .xq] [Has F .westad] [Has F .dbg] [Has F .supply] [Has F .keeper] [Has F .audit] [Has F .faults] [Has F .fuses] [Has F .boot] [Has F .req] [Has F .pins] [Has F .seeded] [Has F .trngBad] [Has F .ptpGood] [Has F .dramKeys] [Has F .dramLost] [Has F .linkPower] [Has F .out] {s0 : State} (s : State) (bundle : Option Bytes) (hk : Within F s0 s) : Within F s0 (warmBoot s bundle) := by
  unfold warmBoot
  iterate 60 (try (any_goals (first | with_reducible assumption | with_reducible apply within_ite | with_reducible apply within_ite_snd | with_reducible apply warmRoot_within | with_reducible apply warmBase_within | with_reducible apply comesUp_within | with_reducible apply drawNonces_within | with_reducible apply bootRun_within | with_reducible apply stopBoot_within | with_reducible apply bootStep_within | with_reducible apply modBoot_within | (with_reducible apply within_foldl <;> [skip; intro _ _ _]) | split | extract_lets | (apply within_eq; with_reducible assumption) | dsimp -zeta only | ((with_reducible apply within_mk) <;> first | exact .inl Has.has | exact .inr rfl | skip))))

theorem advanceSvn_within {F : Part → Prop} [Has F .fuses] {s0 : State} (s : State) (hk : Within F s0 s) : Within F s0 (advanceSvn s) := by
  unfold advanceSvn
  iterate 60 (try (any_goals (first | with_reducible assumption | with_reducible apply within_ite | with_reducible apply within_ite_snd | (with_reducible apply within_foldl <;> [skip; intro _ _ _]) | split | extract_lets | (apply within_eq; with_reducible assumption) | dsimp -zeta only | ((with_reducible apply within_mk) <;> first | exact .inl Has.has | exact .inr rfl | skip))))

theorem readyAssert_within {F : Part → Prop} [Has F .intake] [Has F .fuses] [Has F .boot] [Has F .pins] {s0 : State} (s : State) (hk : Within F s0 s) : Within F s0 (readyAssert s) := by
  unfold readyAssert
  iterate 60 (try (any_goals (first | with_reducible assumption | with_reducible apply within_ite | with_reducible apply within_ite_snd | with_reducible apply advanceSvn_within | with_reducible apply modBoot_within | with_reducible apply setHolds_within | (with_reducible apply within_foldl <;> [skip; intro _ _ _]) | split | extract_lets | (apply within_eq; with_reducible assumption) | dsimp -zeta only | ((with_reducible apply within_mk) <;> first | exact .inl Has.has | exact .inr rfl | skip))))

theorem warmWrite_within {F : Part → Prop} [Has F .free] [Has F .now] [Has F .regs] [Has F .mem] [Has F .poison] [Has F .threads] [Has F .cyls] [Has F .krs] [Has F .engs] [Has F .dmaTlb] [Has F .inval] [Has F .ks] [Has F .guard] [Has F .dma] [Has F .dmaLast] [Has F .intake] [Has F .kc] [Has F .kcPrev] [Has F .turns] [Has F .srcs] [Has F .arbs] [Has F .doms] [Has F .xq] [Has F .westad] [Has F .dbg] [Has F .supply] [Has F .keeper] [Has F .audit] [Has F .faults] [Has F .fuses] [Has F .boot] [Has F .req] [Has F .pins] [Has F .seeded] [Has F .trngBad] [Has F .ptpGood] [Has F .dramKeys] [Has F .dramLost] [Has F .linkPower] [Has F .out] {s0 : State} (s : State) (p : Nat) (hk : Within F s0 s) : Within F s0 (warmWrite s p) :=
  within_ite hk (within_ite (modBoot_within _ _ hk) (warmBoot_within _ _ hk))

theorem warmFromBundle_within {F : Part → Prop} [Has F .free] [Has F .now] [Has F .regs] [Has F .mem] [Has F .poison] [Has F .threads] [Has F .cyls] [Has F .krs] [Has F .engs] [Has F .dmaTlb] [Has F .inval] [Has F .ks] [Has F .guard] [Has F .dma] [Has F .dmaLast] [Has F .intake] [Has F .kc] [Has F .kcPrev] [Has F .turns] [Has F .srcs] [Has F .arbs] [Has F .doms] [Has F .xq] [Has F .westad] [Has F .dbg] [Has F .supply] [Has F .keeper] [Has F .audit] [Has F .faults] [Has F .fuses] [Has F .boot] [Has F .req] [Has F .pins] [Has F .seeded] [Has F .trngBad] [Has F .ptpGood] [Has F .dramKeys] [Has F .dramLost] [Has F .linkPower] [Has F .out] {s0 : State} (s : State) (hk : Within F s0 s) : Within F s0 (warmFromBundle s) := by
  unfold warmFromBundle
  iterate 60 (try (any_goals (first | with_reducible assumption | with_reducible apply within_ite | with_reducible apply within_ite_snd | with_reducible apply warmBoot_within | with_reducible apply modBoot_within | (with_reducible apply within_foldl <;> [skip; intro _ _ _]) | split | extract_lets | (apply within_eq; with_reducible assumption) | dsimp -zeta only | ((with_reducible apply within_mk) <;> first | exact .inl Has.has | exact .inr rfl | skip))))

theorem warmBundleWrite_within {F : Part → Prop} [Has F .free] [Has F .now] [Has F .regs] [Has F .mem] [Has F .poison] [Has F .threads] [Has F .cyls] [Has F .krs] [Has F .engs] [Has F .dmaTlb] [Has F .inval] [Has F .ks] [Has F .guard] [Has F .dma] [Has F .dmaLast] [Has F .intake] [Has F .kc] [Has F .kcPrev] [Has F .turns] [Has F .srcs] [Has F .arbs] [Has F .doms] [Has F .xq] [Has F .westad] [Has F .dbg] [Has F .supply] [Has F .keeper] [Has F .audit] [Has F .faults] [Has F .fuses] [Has F .boot] [Has F .req] [Has F .pins] [Has F .seeded] [Has F .trngBad] [Has F .ptpGood] [Has F .dramKeys] [Has F .dramLost] [Has F .linkPower] [Has F .out] {s0 : State} (s : State) (p : Nat) (hk : Within F s0 s) : Within F s0 (warmBundleWrite s p) :=
  within_ite hk (within_ite (modBoot_within _ _ hk) (warmFromBundle_within _ hk))

theorem warmSettle_within {F : Part → Prop} [Has F .free] [Has F .now] [Has F .regs] [Has F .mem] [Has F .poison] [Has F .threads] [Has F .cyls] [Has F .krs] [Has F .engs] [Has F .dmaTlb] [Has F .inval] [Has F .ks] [Has F .guard] [Has F .dma] [Has F .dmaLast] [Has F .intake] [Has F .kc] [Has F .kcPrev] [Has F .turns] [Has F .srcs] [Has F .arbs] [Has F .doms] [Has F .xq] [Has F .westad] [Has F .dbg] [Has F .supply] [Has F .keeper] [Has F .audit] [Has F .faults] [Has F .fuses] [Has F .boot] [Has F .req] [Has F .pins] [Has F .seeded] [Has F .trngBad] [Has F .ptpGood] [Has F .dramKeys] [Has F .dramLost] [Has F .linkPower] [Has F .out] {s0 : State} (s : State) (hk : Within F s0 s) : Within F s0 (warmSettle s) := by
  unfold warmSettle
  iterate 60 (try (any_goals (first | with_reducible assumption | with_reducible apply within_ite | with_reducible apply within_ite_snd | with_reducible apply warmFromBundle_within | with_reducible apply warmBoot_within | with_reducible apply modBoot_within | (with_reducible apply within_foldl <;> [skip; intro _ _ _]) | split | extract_lets | (apply within_eq; with_reducible assumption) | dsimp -zeta only | ((with_reducible apply within_mk) <;> first | exact .inl Has.has | exact .inr rfl | skip))))

theorem exportTraining_within {F : Part → Prop} [Has F .mem] [Has F .poison] [Has F .threads] {s0 : State} (s : State) (p : Nat) (hk : Within F s0 s) : Within F s0 (exportTraining s p) := by
  unfold exportTraining
  iterate 60 (try (any_goals (first | with_reducible assumption | with_reducible apply within_ite | with_reducible apply within_ite_snd | with_reducible apply storeBytes_within | (with_reducible apply within_foldl <;> [skip; intro _ _ _]) | split | extract_lets | (apply within_eq; with_reducible assumption) | dsimp -zeta only | ((with_reducible apply within_mk) <;> first | exact .inl Has.has | exact .inr rfl | skip))))

theorem ksImgWrite_within {F : Part → Prop} [Has F .free] [Has F .req] {s0 : State} (s : State) (p : Nat) (va : VAddr) (hk : Within F s0 s) : Within F s0 (ksImgWrite s p va) := by
  unfold ksImgWrite
  iterate 60 (try (any_goals (first | with_reducible assumption | with_reducible apply within_ite | with_reducible apply within_ite_snd | with_reducible apply makeImage_within | (with_reducible apply within_foldl <;> [skip; intro _ _ _]) | split | extract_lets | (apply within_eq; with_reducible assumption) | dsimp -zeta only | ((with_reducible apply within_mk) <;> first | exact .inl Has.has | exact .inr rfl | skip))))

theorem ksImgDone_within {F : Part → Prop} [Has F .mem] [Has F .poison] [Has F .threads] [Has F .req] {s0 : State} (s : State) (hk : Within F s0 s) : Within F s0 (ksImgDone s) := by
  unfold ksImgDone
  iterate 60 (try (any_goals (first | with_reducible assumption | with_reducible apply within_ite | with_reducible apply within_ite_snd | with_reducible apply storeBytes_within | (with_reducible apply within_foldl <;> [skip; intro _ _ _]) | split | extract_lets | (apply within_eq; with_reducible assumption) | dsimp -zeta only | ((with_reducible apply within_mk) <;> first | exact .inl Has.has | exact .inr rfl | skip))))

theorem failReport_within {F : Part → Prop} [Has F .boot] [Has F .out] {s0 : State} (s : State) (hk : Within F s0 s) : Within F s0 (failReport s) := by
  unfold failReport
  iterate 60 (try (any_goals (first | with_reducible assumption | with_reducible apply within_ite | with_reducible apply within_ite_snd | with_reducible apply sendGet_within | with_reducible apply modBoot_within | with_reducible apply emit_within | (with_reducible apply within_foldl <;> [skip; intro _ _ _]) | split | extract_lets | (apply within_eq; with_reducible assumption) | dsimp -zeta only | ((with_reducible apply within_mk) <;> first | exact .inl Has.has | exact .inr rfl | skip))))

theorem quietExit_within {F : Part → Prop} [Has F .free] [Has F .now] [Has F .regs] [Has F .mem] [Has F .poison] [Has F .threads] [Has F .cyls] [Has F .krs] [Has F .engs] [Has F .dmaTlb] [Has F .inval] [Has F .ks] [Has F .guard] [Has F .dma] [Has F .dmaLast] [Has F .intake] [Has F .kc] [Has F .kcPrev] [Has F .turns] [Has F .srcs] [Has F .arbs] [Has F .doms] [Has F .xq] [Has F .westad] [Has F .dbg] [Has F .supply] [Has F .keeper] [Has F .audit] [Has F .faults] [Has F .fuses] [Has F .boot] [Has F .req] [Has F .pins] [Has F .seeded] [Has F .trngBad] [Has F .ptpGood] [Has F .dramKeys] [Has F .dramLost] [Has F .linkPower] [Has F .out] {s0 : State} (s : State) (p : Nat) (hk : Within F s0 s) : Within F s0 (quietExit s p) := by
  unfold quietExit
  iterate 60 (try (any_goals (first | with_reducible assumption | with_reducible apply within_ite | with_reducible apply within_ite_snd | with_reducible apply warmBoot_within | with_reducible apply audit_within | (with_reducible apply within_foldl <;> [skip; intro _ _ _]) | split | extract_lets | (apply within_eq; with_reducible assumption) | dsimp -zeta only | ((with_reducible apply within_mk) <;> first | exact .inl Has.has | exact .inr rfl | skip))))

theorem execMainsApplied_within {F : Part → Prop} [Has F .free] [Has F .now] [Has F .tally] [Has F .regs] [Has F .mem] [Has F .poison] [Has F .threads] [Has F .cyls] [Has F .krs] [Has F .engs] [Has F .dmaTlb] [Has F .inval] [Has F .ks] [Has F .guard] [Has F .dma] [Has F .dmaLast] [Has F .intake] [Has F .kc] [Has F .kcPrev] [Has F .turns] [Has F .srcs] [Has F .arbs] [Has F .doms] [Has F .xq] [Has F .westad] [Has F .dbg] [Has F .supply] [Has F .keeper] [Has F .audit] [Has F .faults] [Has F .fuses] [Has F .boot] [Has F .req] [Has F .pins] [Has F .seeded] [Has F .trngBad] [Has F .ptpGood] [Has F .dramKeys] [Has F .dramLost] [Has F .linkPower] [Has F .out] (s : State) : GoesIn F s (execMainsApplied s) :=
  ⟨_, rfl, mainsApplied_within _ (Within.refl s)⟩

theorem execBundleData_within {F : Part → Prop} [Has F .free] [Has F .regs] [Has F .mem] [Has F .poison] [Has F .threads] [Has F .cyls] [Has F .krs] [Has F .engs] [Has F .ks] [Has F .guard] [Has F .intake] [Has F .kc] [Has F .kcPrev] [Has F .turns] [Has F .srcs] [Has F .arbs] [Has F .doms] [Has F .xq] [Has F .westad] [Has F .dbg] [Has F .audit] [Has F .faults] [Has F .boot] [Has F .req] [Has F .pins] [Has F .seeded] [Has F .dramKeys] [Has F .out] (offset length : Nat) (bytes : List Byte) (s : State) : GoesIn F s (execBundleData offset length bytes s) :=
  ⟨_, rfl, quietSettle_within _ (bundleData_within _ _ _ _ (Within.refl s))⟩

theorem execGetRetry_within {F : Part → Prop} [Has F .out] (s : State) : GoesIn F s (execGetRetry s) := by
  have hk : Within F s s := Within.refl s
  unfold execGetRetry
  (try extract_lets)
  refine ⟨_, rfl, ?_⟩
  iterate 30 (try (any_goals (first | with_reducible assumption | with_reducible apply within_ite | with_reducible apply emit_within | (with_reducible apply within_foldl <;> [skip; intro _ _ _]) | intro _ _ | split | extract_lets | dsimp -zeta only | ((with_reducible apply within_mk) <;> first | exact .inl Has.has | exact .inr rfl | skip))))

theorem execGetBroadcast_within {F : Part → Prop} [Has F .out] (s : State) : GoesIn F s (execGetBroadcast s) :=
  ⟨_, rfl, within_ite (emit_within _ _ (Within.refl s)) (Within.refl s)⟩

theorem execBundleTimeout_within {F : Part → Prop} [Has F .boot] (s : State) : GoesIn F s (execBundleTimeout s) :=
  ⟨_, rfl, within_ite (stopBoot_within _ _ (modBoot_within _ _ (Within.refl s))) (Within.refl s)⟩

theorem execBootFailReport_within {F : Part → Prop} [Has F .boot] [Has F .out] (s : State) : GoesIn F s (execBootFailReport s) :=
  ⟨_, rfl, failReport_within _ (Within.refl s)⟩

theorem execReadyAssert_within {F : Part → Prop} [Has F .intake] [Has F .fuses] [Has F .boot] [Has F .pins] (s : State) : GoesIn F s (execReadyAssert s) :=
  ⟨_, rfl, readyAssert_within _ (Within.refl s)⟩

theorem execLcBootGo_within {F : Part → Prop} [Has F .boot] (p : Fin 256) (s : State) : GoesIn F s (execLcBootGo p s) :=
  ⟨_, rfl, within_ite (modBoot_within _ _ (Within.refl s)) (Within.refl s)⟩

theorem execLcBootWarm_within {F : Part → Prop} [Has F .free] [Has F .now] [Has F .regs] [Has F .mem] [Has F .poison] [Has F .threads] [Has F .cyls] [Has F .krs] [Has F .engs] [Has F .dmaTlb] [Has F .inval] [Has F .ks] [Has F .guard] [Has F .dma] [Has F .dmaLast] [Has F .intake] [Has F .kc] [Has F .kcPrev] [Has F .turns] [Has F .srcs] [Has F .arbs] [Has F .doms] [Has F .xq] [Has F .westad] [Has F .dbg] [Has F .supply] [Has F .keeper] [Has F .audit] [Has F .faults] [Has F .fuses] [Has F .boot] [Has F .req] [Has F .pins] [Has F .seeded] [Has F .trngBad] [Has F .ptpGood] [Has F .dramKeys] [Has F .dramLost] [Has F .linkPower] [Has F .out] (p : Fin 256) (s : State) : GoesIn F s (execLcBootWarm p s) :=
  ⟨_, rfl, quietSettle_within _ (warmWrite_within _ _ (Within.refl s))⟩

theorem execLcBootWarmBundle_within {F : Part → Prop} [Has F .free] [Has F .now] [Has F .regs] [Has F .mem] [Has F .poison] [Has F .threads] [Has F .cyls] [Has F .krs] [Has F .engs] [Has F .dmaTlb] [Has F .inval] [Has F .ks] [Has F .guard] [Has F .dma] [Has F .dmaLast] [Has F .intake] [Has F .kc] [Has F .kcPrev] [Has F .turns] [Has F .srcs] [Has F .arbs] [Has F .doms] [Has F .xq] [Has F .westad] [Has F .dbg] [Has F .supply] [Has F .keeper] [Has F .audit] [Has F .faults] [Has F .fuses] [Has F .boot] [Has F .req] [Has F .pins] [Has F .seeded] [Has F .trngBad] [Has F .ptpGood] [Has F .dramKeys] [Has F .dramLost] [Has F .linkPower] [Has F .out] (p : Fin 256) (s : State) : GoesIn F s (execLcBootWarmBundle p s) :=
  ⟨_, rfl, quietSettle_within _ (warmBundleWrite_within _ _ (Within.refl s))⟩

theorem execLcBootExportTraining_within {F : Part → Prop} [Has F .mem] [Has F .poison] [Has F .threads] (p : Fin 256) (s : State) : GoesIn F s (execLcBootExportTraining p s) :=
  ⟨_, rfl, exportTraining_within _ _ (Within.refl s)⟩

theorem execKsImgExport_within {F : Part → Prop} [Has F .free] [Has F .req] (p : Fin 256) (va : BitVec 56) (s : State) : GoesIn F s (execKsImgExport p va s) :=
  ⟨_, rfl, ksImgWrite_within _ _ _ (Within.refl s)⟩

theorem execKsImgExportDone_within {F : Part → Prop} [Has F .mem] [Has F .poison] [Has F .threads] [Has F .req] (s : State) : GoesIn F s (execKsImgExportDone s) :=
  ⟨_, rfl, ksImgDone_within _ (Within.refl s)⟩

theorem execQuietExit_within {F : Part → Prop} [Has F .free] [Has F .now] [Has F .regs] [Has F .mem] [Has F .poison] [Has F .threads] [Has F .cyls] [Has F .krs] [Has F .engs] [Has F .dmaTlb] [Has F .inval] [Has F .ks] [Has F .guard] [Has F .dma] [Has F .dmaLast] [Has F .intake] [Has F .kc] [Has F .kcPrev] [Has F .turns] [Has F .srcs] [Has F .arbs] [Has F .doms] [Has F .xq] [Has F .westad] [Has F .dbg] [Has F .supply] [Has F .keeper] [Has F .audit] [Has F .faults] [Has F .fuses] [Has F .boot] [Has F .req] [Has F .pins] [Has F .seeded] [Has F .trngBad] [Has F .ptpGood] [Has F .dramKeys] [Has F .dramLost] [Has F .linkPower] [Has F .out] (p : Fin 256) (s : State) : GoesIn F s (execQuietExit p s) :=
  ⟨_, rfl, quietSettle_within _ (quietExit_within _ _ (Within.refl s))⟩

theorem execSupplyRetry_within {F : Part → Prop} [Has F .free] [Has F .now] [Has F .tally] [Has F .regs] [Has F .mem] [Has F .poison] [Has F .threads] [Has F .cyls] [Has F .krs] [Has F .engs] [Has F .dmaTlb] [Has F .inval] [Has F .ks] [Has F .guard] [Has F .dma] [Has F .dmaLast] [Has F .intake] [Has F .kc] [Has F .kcPrev] [Has F .turns] [Has F .srcs] [Has F .arbs] [Has F .doms] [Has F .xq] [Has F .westad] [Has F .dbg] [Has F .supply] [Has F .keeper] [Has F .audit] [Has F .faults] [Has F .fuses] [Has F .boot] [Has F .req] [Has F .pins] [Has F .seeded] [Has F .trngBad] [Has F .ptpGood] [Has F .dramKeys] [Has F .dramLost] [Has F .linkPower] [Has F .out] (up : Bool) (s : State) : GoesIn F s (execSupplyRetry up s) :=
  ⟨_, rfl, within_ite (coldFrom_within _ (standby_within _ (Within.refl s))) (Within.refl s)⟩

end Sys2Proof.Machine
end

