-- ==== Sys2Proof/Laws/WithinRest.lean ====
section
/-! SUPPORT. The supply, the Keeper, the life cycle, agreement and control space: each function changes no part of the state but those that its lemma names. -/

set_option linter.all false
set_option linter.unusedTactic false
set_option linter.unreachableTactic false

namespace Sys2Proof.Machine

/-! ### Supply -/

theorem powerOff_within {F : Part → Prop} [Has F .now] [Has F .tally] [Has F .regs] [Has F .mem] [Has F .poison] [Has F .threads] [Has F .cyls] [Has F .krs] [Has F .engs] [Has F .dmaTlb] [Has F .inval] [Has F .ks] [Has F .guard] [Has F .dma] [Has F .dmaLast] [Has F .intake] [Has F .kc] [Has F .kcPrev] [Has F .turns] [Has F .srcs] [Has F .arbs] [Has F .doms] [Has F .xq] [Has F .westad] [Has F .dbg] [Has F .supply] [Has F .keeper] [Has F .audit] [Has F .faults] [Has F .boot] [Has F .req] [Has F .pins] [Has F .seeded] [Has F .trngBad] [Has F .ptpGood] [Has F .dramKeys] [Has F .dramLost] [Has F .linkPower] {s0 : State} (s : State) (hk : Within F s0 s) : Within F s0 (powerOff s) := by
  unfold powerOff
  iterate 60 (try (any_goals (first | with_reducible assumption | with_reducible apply within_ite | with_reducible apply within_ite_snd | (with_reducible apply within_foldl <;> [skip; intro _ _ _]) | split | extract_lets | (apply within_eq; with_reducible assumption) | dsimp -zeta only | ((with_reducible apply within_mk) <;> first | exact .inl Has.has | exact .inr rfl | skip))))

theorem powerRecord_within {F : Part → Prop} [Has F .audit] {s0 : State} (s : State) (n : Nat) (hk : Within F s0 s) : Within F s0 (powerRecord s n) :=
  audit_within _ _ _ _ _ hk

theorem readyLow_within {F : Part → Prop} [Has F .intake] [Has F .pins] {s0 : State} (s : State) (hk : Within F s0 s) : Within F s0 (readyLow s) := by
  unfold readyLow
  iterate 60 (try (any_goals (first | with_reducible assumption | with_reducible apply within_ite | with_reducible apply within_ite_snd | with_reducible apply setHolds_within | (with_reducible apply within_foldl <;> [skip; intro _ _ _]) | split | extract_lets | (apply within_eq; with_reducible assumption) | dsimp -zeta only | ((with_reducible apply within_mk) <;> first | exact .inl Has.has | exact .inr rfl | skip))))

theorem mainsLost_within {F : Part → Prop} [Has F .regs] [Has F .threads] [Has F .srcs] [Has F .supply] {s0 : State} (s : State) (hk : Within F s0 s) : Within F s0 (mainsLost s) := by
  unfold mainsLost
  iterate 60 (try (any_goals (first | with_reducible assumption | with_reducible apply within_ite | with_reducible apply within_ite_snd | with_reducible apply modSupply_within | with_reducible apply pwrEvt_within | (with_reducible apply within_foldl <;> [skip; intro _ _ _]) | split | extract_lets | (apply within_eq; with_reducible assumption) | dsimp -zeta only | ((with_reducible apply within_mk) <;> first | exact .inl Has.has | exact .inr rfl | skip))))

theorem mainsBack_within {F : Part → Prop} [Has F .free] [Has F .regs] [Has F .threads] [Has F .srcs] [Has F .supply] {s0 : State} (s : State) (hk : Within F s0 s) : Within F s0 (mainsBack s) := by
  unfold mainsBack
  iterate 60 (try (any_goals (first | with_reducible assumption | with_reducible apply within_ite | with_reducible apply within_ite_snd | with_reducible apply measured_within | with_reducible apply modSupply_within | with_reducible apply pwrEvt_within | (with_reducible apply within_foldl <;> [skip; intro _ _ _]) | split | extract_lets | (apply within_eq; with_reducible assumption) | dsimp -zeta only | ((with_reducible apply within_mk) <;> first | exact .inl Has.has | exact .inr rfl | skip))))

theorem holdUpEnds_within {F : Part → Prop} [Has F .now] [Has F .tally] [Has F .regs] [Has F .mem] [Has F .poison] [Has F .threads] [Has F .cyls] [Has F .krs] [Has F .engs] [Has F .dmaTlb] [Has F .inval] [Has F .ks] [Has F .guard] [Has F .dma] [Has F .dmaLast] [Has F .intake] [Has F .kc] [Has F .kcPrev] [Has F .turns] [Has F .srcs] [Has F .arbs] [Has F .doms] [Has F .xq] [Has F .westad] [Has F .dbg] [Has F .supply] [Has F .keeper] [Has F .audit] [Has F .faults] [Has F .boot] [Has F .req] [Has F .pins] [Has F .seeded] [Has F .trngBad] [Has F .ptpGood] [Has F .dramKeys] [Has F .dramLost] [Has F .linkPower] {s0 : State} (s : State) (hk : Within F s0 s) : Within F s0 (holdUpEnds s) := by
  unfold holdUpEnds
  iterate 60 (try (any_goals (first | with_reducible assumption | with_reducible apply within_ite | with_reducible apply within_ite_snd | with_reducible apply readyLow_within | with_reducible apply powerRecord_within | with_reducible apply powerOff_within | with_reducible apply modSupply_within | with_reducible apply pwrEvt_within | with_reducible apply modKr_within | (with_reducible apply within_foldl <;> [skip; intro _ _ _]) | split | extract_lets | (apply within_eq; with_reducible assumption) | dsimp -zeta only | ((with_reducible apply within_mk) <;> first | exact .inl Has.has | exact .inr rfl | skip))))

theorem releaseLimit_within {F : Part → Prop} [Has F .regs] [Has F .threads] [Has F .intake] [Has F .pins] [Has F .out] {s0 : State} (s : State) (hk : Within F s0 s) : Within F s0 (releaseLimit s) := by
  unfold releaseLimit
  iterate 60 (try (any_goals (first | with_reducible assumption | with_reducible apply within_ite | with_reducible apply within_ite_snd | with_reducible apply settle_within | with_reducible apply endCmds_within | (with_reducible apply within_foldl <;> [skip; intro _ _ _]) | split | extract_lets | (apply within_eq; with_reducible assumption) | dsimp -zeta only | ((with_reducible apply within_mk) <;> first | exact .inl Has.has | exact .inr rfl | skip))))

theorem powerFailEnds_within {F : Part → Prop} [Has F .free] [Has F .now] [Has F .tally] [Has F .regs] [Has F .mem] [Has F .poison] [Has F .threads] [Has F .cyls] [Has F .krs] [Has F .engs] [Has F .dmaTlb] [Has F .inval] [Has F .ks] [Has F .guard] [Has F .dma] [Has F .dmaLast] [Has F .intake] [Has F .kc] [Has F .kcPrev] [Has F .turns] [Has F .srcs] [Has F .arbs] [Has F .doms] [Has F .xq] [Has F .westad] [Has F .dbg] [Has F .supply] [Has F .keeper] [Has F .audit] [Has F .faults] [Has F .fuses] [Has F .boot] [Has F .req] [Has F .pins] [Has F .seeded] [Has F .trngBad] [Has F .ptpGood] [Has F .dramKeys] [Has F .dramLost] [Has F .linkPower] [Has F .out] {s0 : State} (s : State) (hk : Within F s0 s) : Within F s0 (powerFailEnds s) := by
  unfold powerFailEnds
  iterate 60 (try (any_goals (first | with_reducible assumption | with_reducible apply within_ite | with_reducible apply within_ite_snd | with_reducible apply powerRecord_within | with_reducible apply powerOff_within | with_reducible apply warmBoot_within | with_reducible apply deviceFinal_within | with_reducible apply measured_within | with_reducible apply modSupply_within | (with_reducible apply within_foldl <;> [skip; intro _ _ _]) | split | extract_lets | (apply within_eq; with_reducible assumption) | dsimp -zeta only | ((with_reducible apply within_mk) <;> first | exact .inl Has.has | exact .inr rfl | skip))))

theorem pwrCtlWrite_within {F : Part → Prop} [Has F .free] [Has F .now] [Has F .tally] [Has F .regs] [Has F .mem] [Has F .poison] [Has F .threads] [Has F .cyls] [Has F .krs] [Has F .engs] [Has F .dmaTlb] [Has F .inval] [Has F .ks] [Has F .guard] [Has F .dma] [Has F .dmaLast] [Has F .intake] [Has F .kc] [Has F .kcPrev] [Has F .turns] [Has F .srcs] [Has F .arbs] [Has F .doms] [Has F .xq] [Has F .westad] [Has F .dbg] [Has F .supply] [Has F .keeper] [Has F .audit] [Has F .faults] [Has F .fuses] [Has F .boot] [Has F .req] [Has F .pins] [Has F .seeded] [Has F .trngBad] [Has F .ptpGood] [Has F .dramKeys] [Has F .dramLost] [Has F .linkPower] [Has F .out] {s0 : State} (s : State) (p : Nat) (v : Word) (hk : Within F s0 s) : Within F s0 (pwrCtlWrite s p v) := by
  unfold pwrCtlWrite
  iterate 60 (try (any_goals (first | with_reducible assumption | with_reducible apply within_ite | with_reducible apply within_ite_snd | with_reducible apply powerFailEnds_within | with_reducible apply plainWrite_within | (with_reducible apply within_foldl <;> [skip; intro _ _ _]) | split | extract_lets | (apply within_eq; with_reducible assumption) | dsimp -zeta only | ((with_reducible apply within_mk) <;> first | exact .inl Has.has | exact .inr rfl | skip))))

theorem sleepStatus_within {F : Part → Prop} [Has F .regs] {s0 : State} (s : State) (st : Nat) (hk : Within F s0 s) : Within F s0 (sleepStatus s st) :=
  fldSet_within _ _ _ _ _ _ hk

theorem sleepWrite_sleepDecide_within {F : Part → Prop} [Has F .regs] [Has F .threads] [Has F .intake] [Has F .srcs] [Has F .supply] [Has F .pins] {s0 : State} (s : State) (hk : Within F s0 s) : Within F s0 (sleepWrite.sleepDecide s) := by
  unfold sleepWrite.sleepDecide
  exact readyLow_within _ (modSupply_within _ _ (sleepStatus_within _ _ hk))

theorem sleepWrite_within {F : Part → Prop} [Has F .regs] [Has F .threads] [Has F .intake] [Has F .srcs] [Has F .supply] [Has F .pins] {s0 : State} (s : State) (p : Nat) (v : Word) (hk : Within F s0 s) : Within F s0 (sleepWrite s p v) := by
  unfold sleepWrite
  iterate 60 (try (any_goals (first | with_reducible assumption | with_reducible apply within_ite | with_reducible apply within_ite_snd | with_reducible apply sleepWrite_sleepDecide_within | with_reducible apply sleepStatus_within | with_reducible apply readyLow_within | with_reducible apply modSupply_within | with_reducible apply pwrEvt_within | with_reducible apply plainWrite_within | with_reducible apply fldSet_within | (with_reducible apply within_foldl <;> [skip; intro _ _ _]) | split | extract_lets | (apply within_eq; with_reducible assumption) | dsimp -zeta only | ((with_reducible apply within_mk) <;> first | exact .inl Has.has | exact .inr rfl | skip))))

theorem watchEnter_within {F : Part → Prop} [Has F .regs] [Has F .cyls] [Has F .krs] [Has F .dmaTlb] [Has F .doms] [Has F .xq] [Has F .westad] [Has F .supply] [Has F .keeper] [Has F .linkPower] {s0 : State} (s : State) (hk : Within F s0 s) : Within F s0 (watchEnter s) := by
  unfold watchEnter
  iterate 60 (try (any_goals (first | with_reducible assumption | with_reducible apply within_ite | with_reducible apply within_ite_snd | with_reducible apply modSupply_within | with_reducible apply linkDown_within | with_reducible apply dropLink_within | with_reducible apply downDomain_within | with_reducible apply setLane_within | with_reducible apply domDown_within | (with_reducible apply within_foldl <;> [skip; intro _ _ _]) | split | extract_lets | (apply within_eq; with_reducible assumption) | dsimp -zeta only | ((with_reducible apply within_mk) <;> first | exact .inl Has.has | exact .inr rfl | skip))))

theorem watchDrainEnds_within {F : Part → Prop} [Has F .regs] [Has F .mem] [Has F .poison] [Has F .threads] [Has F .cyls] [Has F .krs] [Has F .engs] [Has F .dmaTlb] [Has F .ks] [Has F .guard] [Has F .intake] [Has F .srcs] [Has F .arbs] [Has F .doms] [Has F .xq] [Has F .westad] [Has F .supply] [Has F .keeper] [Has F .audit] [Has F .pins] [Has F .linkPower] [Has F .out] {s0 : State} (s : State) (hk : Within F s0 s) : Within F s0 (watchDrainEnds s) := by
  unfold watchDrainEnds
  iterate 60 (try (any_goals (first | with_reducible assumption | with_reducible apply within_ite | with_reducible apply within_ite_snd | with_reducible apply watchEnter_within | with_reducible apply endJobs_within | with_reducible apply settle_within | with_reducible apply endCmds_within | with_reducible apply askFreeze_within | (with_reducible apply within_foldl <;> [skip; intro _ _ _]) | split | extract_lets | (apply within_eq; with_reducible assumption) | dsimp -zeta only | ((with_reducible apply within_mk) <;> first | exact .inl Has.has | exact .inr rfl | skip))))

theorem idleSessions_within {F : Part → Prop} [Has F .intake] {s0 : State} (s : State) (hk : Within F s0 s) : Within F s0 (idleSessions s) := by
  unfold idleSessions
  iterate 60 (try (any_goals (first | with_reducible assumption | with_reducible apply within_ite | with_reducible apply within_ite_snd | with_reducible apply dropSession_within | (with_reducible apply within_foldl <;> [skip; intro _ _ _]) | split | extract_lets | (apply within_eq; with_reducible assumption) | dsimp -zeta only | ((with_reducible apply within_mk) <;> first | exact .inl Has.has | exact .inr rfl | skip))))

theorem reloadBlanks_within {F : Part → Prop} [Has F .threads] [Has F .krs] {s0 : State} (s : State) (hk : Within F s0 s) : Within F s0 (reloadBlanks s) := by
  unfold reloadBlanks
  iterate 60 (try (any_goals (first | with_reducible assumption | with_reducible apply within_ite | with_reducible apply within_ite_snd | with_reducible apply blankLoad_within | with_reducible apply modKr_within | (with_reducible apply within_foldl <;> [skip; intro _ _ _]) | split | extract_lets | (apply within_eq; with_reducible assumption) | dsimp -zeta only | ((with_reducible apply within_mk) <;> first | exact .inl Has.has | exact .inr rfl | skip))))

theorem watchWakes_within {F : Part → Prop} [Has F .free] [Has F .now] [Has F .regs] [Has F .threads] [Has F .krs] [Has F .ks] [Has F .intake] [Has F .turns] [Has F .srcs] [Has F .arbs] [Has F .doms] [Has F .supply] [Has F .audit] [Has F .faults] [Has F .seeded] {s0 : State} (s : State) (hk : Within F s0 s) : Within F s0 (watchWakes s) := by
  unfold watchWakes
  iterate 60 (try (any_goals (first | with_reducible assumption | with_reducible apply within_ite | with_reducible apply within_ite_snd | with_reducible apply reloadBlanks_within | with_reducible apply idleSessions_within | with_reducible apply sleepStatus_within | with_reducible apply modSupply_within | with_reducible apply pwrEvt_within | with_reducible apply bridge_within | with_reducible apply nextCommit_within | with_reducible apply releaseThr_within | with_reducible apply settle_within | with_reducible apply unseedArbiters_within | with_reducible apply seedArbiters_within | with_reducible apply modDom_within | with_reducible apply modKr_within | with_reducible apply fldSet_within | (with_reducible apply within_foldl <;> [skip; intro _ _ _]) | split | extract_lets | (apply within_eq; with_reducible assumption) | dsimp -zeta only | ((with_reducible apply within_mk) <;> first | exact .inl Has.has | exact .inr rfl | skip))))

theorem watchMainsGone_within {F : Part → Prop} [Has F .free] [Has F .now] [Has F .tally] [Has F .regs] [Has F .mem] [Has F .poison] [Has F .threads] [Has F .cyls] [Has F .krs] [Has F .engs] [Has F .dmaTlb] [Has F .inval] [Has F .ks] [Has F .guard] [Has F .dma] [Has F .dmaLast] [Has F .intake] [Has F .kc] [Has F .kcPrev] [Has F .turns] [Has F .srcs] [Has F .arbs] [Has F .doms] [Has F .xq] [Has F .westad] [Has F .dbg] [Has F .supply] [Has F .keeper] [Has F .audit] [Has F .faults] [Has F .fuses] [Has F .boot] [Has F .req] [Has F .pins] [Has F .seeded] [Has F .trngBad] [Has F .ptpGood] [Has F .dramKeys] [Has F .dramLost] [Has F .linkPower] [Has F .out] {s0 : State} (s : State) (hk : Within F s0 s) : Within F s0 (watchMainsGone s) :=
  within_ite (powerOff_within _ (deviceFinal_within _ hk)) hk

theorem padrelWrite_within {F : Part → Prop} [Has F .supply] {s0 : State} (s : State) (p : Nat) (v : Word) (hk : Within F s0 s) : Within F s0 (padrelWrite s p v) :=
  within_ite hk (modSupply_within _ _ hk)

theorem execMainsLoss_within {F : Part → Prop} [Has F .regs] [Has F .threads] [Has F .srcs] [Has F .supply] (s : State) : GoesIn F s (execMainsLoss s) :=
  ⟨_, rfl, mainsLost_within _ (Within.refl s)⟩

theorem execMainsReturn_within {F : Part → Prop} [Has F .free] [Has F .regs] [Has F .threads] [Has F .srcs] [Has F .supply] (s : State) : GoesIn F s (execMainsReturn s) :=
  ⟨_, rfl, mainsBack_within _ (Within.refl s)⟩

theorem execHoldUpExpiry_within {F : Part → Prop} [Has F .now] [Has F .tally] [Has F .regs] [Has F .mem] [Has F .poison] [Has F .threads] [Has F .cyls] [Has F .krs] [Has F .engs] [Has F .dmaTlb] [Has F .inval] [Has F .ks] [Has F .guard] [Has F .dma] [Has F .dmaLast] [Has F .intake] [Has F .kc] [Has F .kcPrev] [Has F .turns] [Has F .srcs] [Has F .arbs] [Has F .doms] [Has F .xq] [Has F .westad] [Has F .dbg] [Has F .supply] [Has F .keeper] [Has F .audit] [Has F .faults] [Has F .boot] [Has F .req] [Has F .pins] [Has F .seeded] [Has F .trngBad] [Has F .ptpGood] [Has F .dramKeys] [Has F .dramLost] [Has F .linkPower] (s : State) : GoesIn F s (execHoldUpExpiry s) :=
  ⟨_, rfl, holdUpEnds_within _ (Within.refl s)⟩

theorem execPowerFailReleaseLimit_within {F : Part → Prop} [Has F .regs] [Has F .threads] [Has F .intake] [Has F .pins] [Has F .out] (s : State) : GoesIn F s (execPowerFailReleaseLimit s) :=
  ⟨_, rfl, releaseLimit_within _ (Within.refl s)⟩

theorem execPfdone_within {F : Part → Prop} [Has F .free] [Has F .now] [Has F .tally] [Has F .regs] [Has F .mem] [Has F .poison] [Has F .threads] [Has F .cyls] [Has F .krs] [Has F .engs] [Has F .dmaTlb] [Has F .inval] [Has F .ks] [Has F .guard] [Has F .dma] [Has F .dmaLast] [Has F .intake] [Has F .kc] [Has F .kcPrev] [Has F .turns] [Has F .srcs] [Has F .arbs] [Has F .doms] [Has F .xq] [Has F .westad] [Has F .dbg] [Has F .supply] [Has F .keeper] [Has F .audit] [Has F .faults] [Has F .fuses] [Has F .boot] [Has F .req] [Has F .pins] [Has F .seeded] [Has F .trngBad] [Has F .ptpGood] [Has F .dramKeys] [Has F .dramLost] [Has F .linkPower] [Has F .out] (p : Fin 256) (s : State) : GoesIn F s (execPfdone p s) :=
  ⟨_, rfl, within_ite (quietSettle_within _ (powerFailEnds_within _ (Within.refl s))) (Within.refl s)⟩

theorem execPowerFailEnd_within {F : Part → Prop} [Has F .free] [Has F .now] [Has F .tally] [Has F .regs] [Has F .mem] [Has F .poison] [Has F .threads] [Has F .cyls] [Has F .krs] [Has F .engs] [Has F .dmaTlb] [Has F .inval] [Has F .ks] [Has F .guard] [Has F .dma] [Has F .dmaLast] [Has F .intake] [Has F .kc] [Has F .kcPrev] [Has F .turns] [Has F .srcs] [Has F .arbs] [Has F .doms] [Has F .xq] [Has F .westad] [Has F .dbg] [Has F .supply] [Has F .keeper] [Has F .audit] [Has F .faults] [Has F .fuses] [Has F .boot] [Has F .req] [Has F .pins] [Has F .seeded] [Has F .trngBad] [Has F .ptpGood] [Has F .dramKeys] [Has F .dramLost] [Has F .linkPower] [Has F .out] (s : State) : GoesIn F s (execPowerFailEnd s) :=
  ⟨_, rfl, within_ite (quietSettle_within _ (powerFailEnds_within _ (Within.refl s))) (Within.refl s)⟩

theorem execPwrSleep_within {F : Part → Prop} [Has F .regs] [Has F .threads] [Has F .intake] [Has F .srcs] [Has F .supply] [Has F .pins] (p : Fin 256) (v : Word) (s : State) : GoesIn F s (execPwrSleep p v s) :=
  ⟨_, rfl, sleepWrite_within _ _ _ (Within.refl s)⟩

theorem execWatchDrainEnd_within {F : Part → Prop} [Has F .regs] [Has F .mem] [Has F .poison] [Has F .threads] [Has F .cyls] [Has F .krs] [Has F .engs] [Has F .dmaTlb] [Has F .ks] [Has F .guard] [Has F .intake] [Has F .srcs] [Has F .arbs] [Has F .doms] [Has F .xq] [Has F .westad] [Has F .supply] [Has F .keeper] [Has F .audit] [Has F .pins] [Has F .linkPower] [Has F .out] (s : State) : GoesIn F s (execWatchDrainEnd s) :=
  ⟨_, rfl, watchDrainEnds_within _ (Within.refl s)⟩

theorem execWakeAlarm_within {F : Part → Prop} [Has F .supply] (s : State) : GoesIn F s (execWakeAlarm s) :=
  ⟨_, rfl, within_ite (wakeEvent_within _ _ (Within.refl s)) (Within.refl s)⟩

theorem execWakeN_within {F : Part → Prop} [Has F .supply] (s : State) : GoesIn F s (execWakeN s) :=
  ⟨_, rfl, wakeEvent_within _ _ (Within.refl s)⟩

theorem execWatchWake_within {F : Part → Prop} [Has F .free] [Has F .now] [Has F .regs] [Has F .mem] [Has F .poison] [Has F .threads] [Has F .cyls] [Has F .krs] [Has F .engs] [Has F .ks] [Has F .guard] [Has F .intake] [Has F .turns] [Has F .srcs] [Has F .arbs] [Has F .doms] [Has F .xq] [Has F .westad] [Has F .dbg] [Has F .supply] [Has F .audit] [Has F .faults] [Has F .boot] [Has F .req] [Has F .pins] [Has F .seeded] [Has F .out] (s : State) : GoesIn F s (execWatchWake s) :=
  ⟨_, rfl, quietSettle_within _ (watchWakes_within _ (Within.refl s))⟩

theorem execWatchMainsAbsent_within {F : Part → Prop} [Has F .free] [Has F .now] [Has F .tally] [Has F .regs] [Has F .mem] [Has F .poison] [Has F .threads] [Has F .cyls] [Has F .krs] [Has F .engs] [Has F .dmaTlb] [Has F .inval] [Has F .ks] [Has F .guard] [Has F .dma] [Has F .dmaLast] [Has F .intake] [Has F .kc] [Has F .kcPrev] [Has F .turns] [Has F .srcs] [Has F .arbs] [Has F .doms] [Has F .xq] [Has F .westad] [Has F .dbg] [Has F .supply] [Has F .keeper] [Has F .audit] [Has F .faults] [Has F .fuses] [Has F .boot] [Has F .req] [Has F .pins] [Has F .seeded] [Has F .trngBad] [Has F .ptpGood] [Has F .dramKeys] [Has F .dramLost] [Has F .linkPower] [Has F .out] (s : State) : GoesIn F s (execWatchMainsAbsent s) :=
  ⟨_, rfl, watchMainsGone_within _ (Within.refl s)⟩

theorem execKeepPadrel_within {F : Part → Prop} [Has F .supply] (p : Fin 256) (v : Word) (s : State) : GoesIn F s (execKeepPadrel p v s) :=
  ⟨_, rfl, padrelWrite_within _ _ _ (Within.refl s)⟩

/-! ### Keeper -/

theorem keeperRecord_within {F : Part → Prop} [Has F .audit] {s0 : State} (s : State) (n : Nat) (hk : Within F s0 s) : Within F s0 (keeperRecord s n) :=
  audit_within _ _ _ _ _ hk

theorem tampBit_within {F : Part → Prop} [Has F .regs] {s0 : State} (s : State) (i : Nat) (hk : Within F s0 s) : Within F s0 (tampBit s i) :=
  setBits_within _ _ _ _ hk

theorem keeperQuiet_within {F : Part → Prop} [Has F .free] [Has F .now] [Has F .regs] [Has F .mem] [Has F .poison] [Has F .threads] [Has F .cyls] [Has F .krs] [Has F .engs] [Has F .ks] [Has F .guard] [Has F .intake] [Has F .turns] [Has F .srcs] [Has F .arbs] [Has F .doms] [Has F .xq] [Has F .westad] [Has F .dbg] [Has F .supply] [Has F .audit] [Has F .faults] [Has F .boot] [Has F .req] [Has F .pins] [Has F .seeded] [Has F .out] {s0 : State} (s : State) (cause : Nat) (hk : Within F s0 s) : Within F s0 (keeperQuiet s cause) :=
  enterQuiet_within _ _ (watchWakes_within _ (wakeEvent_within _ _ hk))

theorem crystalGood_within {F : Part → Prop} [Has F .keeper] [Has F .audit] {s0 : State} (s : State) (hk : Within F s0 s) : Within F s0 (crystalGood s) := by
  unfold crystalGood
  iterate 60 (try (any_goals (first | with_reducible assumption | with_reducible apply within_ite | with_reducible apply within_ite_snd | with_reducible apply keeperRecord_within | with_reducible apply modKeeper_within | (with_reducible apply within_foldl <;> [skip; intro _ _ _]) | split | extract_lets | (apply within_eq; with_reducible assumption) | dsimp -zeta only | ((with_reducible apply within_mk) <;> first | exact .inl Has.has | exact .inr rfl | skip))))

theorem crystalGone_within {F : Part → Prop} [Has F .regs] [Has F .keeper] [Has F .audit] {s0 : State} (s : State) (hk : Within F s0 s) : Within F s0 (crystalGone s) :=
  within_ite hk (keeperRecord_within _ _ (tampBit_within _ _ (modKeeper_within _ _ hk)))

theorem crystalLate_within {F : Part → Prop} [Has F .regs] [Has F .keeper] [Has F .audit] {s0 : State} (s : State) (hk : Within F s0 s) : Within F s0 (crystalLate s) :=
  within_ite hk (keeperRecord_within _ _ (tampBit_within _ _ (modKeeper_within _ _ hk)))

theorem keeperDead_within {F : Part → Prop} [Has F .free] [Has F .now] [Has F .regs] [Has F .mem] [Has F .poison] [Has F .threads] [Has F .cyls] [Has F .krs] [Has F .engs] [Has F .ks] [Has F .guard] [Has F .intake] [Has F .turns] [Has F .srcs] [Has F .arbs] [Has F .doms] [Has F .xq] [Has F .westad] [Has F .dbg] [Has F .supply] [Has F .audit] [Has F .faults] [Has F .boot] [Has F .req] [Has F .pins] [Has F .seeded] [Has F .out] {s0 : State} (s : State) (hk : Within F s0 s) : Within F s0 (keeperDead s) :=
  within_ite hk (keeperQuiet_within _ _ (tampBit_within _ _ hk))

theorem keeperTested_within {F : Part → Prop} [Has F .free] [Has F .now] [Has F .regs] [Has F .mem] [Has F .poison] [Has F .threads] [Has F .cyls] [Has F .krs] [Has F .engs] [Has F .ks] [Has F .guard] [Has F .intake] [Has F .turns] [Has F .srcs] [Has F .arbs] [Has F .doms] [Has F .xq] [Has F .westad] [Has F .dbg] [Has F .supply] [Has F .audit] [Has F .faults] [Has F .boot] [Has F .req] [Has F .pins] [Has F .seeded] [Has F .out] {s0 : State} (s : State) (passed : Bool) (hk : Within F s0 s) : Within F s0 (keeperTested s passed) :=
  within_ite hk (keeperQuiet_within _ _ (keeperRecord_within _ _ (tampBit_within _ _ hk)))

theorem zeroThread_within {F : Part → Prop} [Has F .threads] {s0 : State} (s : State) (t : Nat) (hk : Within F s0 s) : Within F s0 (zeroThread s t) := by
  unfold zeroThread
  iterate 60 (try (any_goals (first | with_reducible assumption | with_reducible apply within_ite | with_reducible apply within_ite_snd | with_reducible apply rawThr_within | (with_reducible apply within_foldl <;> [skip; intro _ _ _]) | split | extract_lets | (apply within_eq; with_reducible assumption) | dsimp -zeta only | ((with_reducible apply within_mk) <;> first | exact .inl Has.has | exact .inr rfl | skip))))

theorem zeroIntake_within {F : Part → Prop} [Has F .intake] [Has F .pins] [Has F .out] {s0 : State} (s : State) (hk : Within F s0 s) : Within F s0 (zeroIntake s) := by
  unfold zeroIntake
  iterate 60 (try (any_goals (first | with_reducible assumption | with_reducible apply within_ite | with_reducible apply within_ite_snd | with_reducible apply setPressure_within | (with_reducible apply within_foldl <;> [skip; intro _ _ _]) | split | extract_lets | (apply within_eq; with_reducible assumption) | dsimp -zeta only | ((with_reducible apply within_mk) <;> first | exact .inl Has.has | exact .inr rfl | skip))))

theorem zeroizeSet_within {F : Part → Prop} [Has F .mem] [Has F .poison] [Has F .threads] [Has F .cyls] [Has F .krs] [Has F .engs] [Has F .ks] [Has F .guard] [Has F .intake] [Has F .keeper] [Has F .pins] [Has F .dramKeys] [Has F .dramLost] [Has F .out] {s0 : State} (s : State) (breach : Bool) (hk : Within F s0 s) : Within F s0 (zeroizeSet s breach) := by
  unfold zeroizeSet
  iterate 60 (try (any_goals (first | with_reducible assumption | with_reducible apply within_ite | with_reducible apply within_ite_snd | with_reducible apply zeroIntake_within | with_reducible apply zeroThread_within | with_reducible apply zeroizeKeys_within | with_reducible apply modKeeper_within | with_reducible apply clearMem_within | (with_reducible apply within_foldl <;> [skip; intro _ _ _]) | split | extract_lets | (apply within_eq; with_reducible assumption) | dsimp -zeta only | ((with_reducible apply within_mk) <;> first | exact .inl Has.has | exact .inr rfl | skip))))

theorem abortRequests_within {F : Part → Prop} [Has F .ks] [Has F .turns] [Has F .westad] [Has F .audit] [Has F .req] {s0 : State} (s : State) (hk : Within F s0 s) : Within F s0 (abortRequests s) := by
  unfold abortRequests
  iterate 60 (try (any_goals (first | with_reducible assumption | with_reducible apply within_ite | with_reducible apply within_ite_snd | with_reducible apply setAttest_within | with_reducible apply modAudit_within | with_reducible apply putAgree_within | with_reducible apply abandonCommit_within | (with_reducible apply within_foldl <;> [skip; intro _ _ _]) | split | extract_lets | (apply within_eq; with_reducible assumption) | dsimp -zeta only | ((with_reducible apply within_mk) <;> first | exact .inl Has.has | exact .inr rfl | skip))))

theorem tamperRecord_within {F : Part → Prop} [Has F .free] [Has F .audit] {s0 : State} (s : State) (hk : Within F s0 s) : Within F s0 (tamperRecord s) := by
  unfold tamperRecord
  iterate 60 (try (any_goals (first | with_reducible assumption | with_reducible apply within_ite | with_reducible apply within_ite_snd | with_reducible apply audit_within | with_reducible apply freeBytes_within | (with_reducible apply within_foldl <;> [skip; intro _ _ _]) | split | extract_lets | (apply within_eq; with_reducible assumption) | dsimp -zeta only | ((with_reducible apply within_mk) <;> first | exact .inl Has.has | exact .inr rfl | skip))))

theorem tamper_within {F : Part → Prop} [Has F .free] [Has F .now] [Has F .regs] [Has F .mem] [Has F .poison] [Has F .threads] [Has F .cyls] [Has F .krs] [Has F .engs] [Has F .ks] [Has F .guard] [Has F .intake] [Has F .turns] [Has F .srcs] [Has F .arbs] [Has F .doms] [Has F .xq] [Has F .westad] [Has F .dbg] [Has F .supply] [Has F .keeper] [Has F .audit] [Has F .faults] [Has F .fuses] [Has F .boot] [Has F .req] [Has F .pins] [Has F .seeded] [Has F .dramKeys] [Has F .dramLost] [Has F .out] {s0 : State} (s : State) (bit : Nat) (breach : Bool) (hk : Within F s0 s) : Within F s0 (tamper s bit breach) := by
  unfold tamper
  iterate 60 (try (any_goals (first | with_reducible assumption | with_reducible apply within_ite | with_reducible apply within_ite_snd | with_reducible apply tamperRecord_within | with_reducible apply abortRequests_within | with_reducible apply zeroizeSet_within | with_reducible apply keeperQuiet_within | with_reducible apply tampBit_within | with_reducible apply settle_within | with_reducible apply blowTamper_within | (with_reducible apply within_foldl <;> [skip; intro _ _ _]) | split | extract_lets | (apply within_eq; with_reducible assumption) | dsimp -zeta only | ((with_reducible apply within_mk) <;> first | exact .inl Has.has | exact .inr rfl | skip))))

theorem meshDestroyed_within {F : Part → Prop} [Has F .fuses] {s0 : State} (s : State) (hk : Within F s0 s) : Within F s0 (meshDestroyed s) := by
  unfold meshDestroyed
  iterate 60 (try (any_goals (first | with_reducible assumption | with_reducible apply within_ite | with_reducible apply within_ite_snd | (with_reducible apply within_foldl <;> [skip; intro _ _ _]) | split | extract_lets | (apply within_eq; with_reducible assumption) | dsimp -zeta only | ((with_reducible apply within_mk) <;> first | exact .inl Has.has | exact .inr rfl | skip))))

theorem meshBroken_within {F : Part → Prop} [Has F .free] [Has F .now] [Has F .regs] [Has F .mem] [Has F .poison] [Has F .threads] [Has F .cyls] [Has F .krs] [Has F .engs] [Has F .ks] [Has F .guard] [Has F .intake] [Has F .turns] [Has F .srcs] [Has F .arbs] [Has F .doms] [Has F .xq] [Has F .westad] [Has F .dbg] [Has F .supply] [Has F .keeper] [Has F .audit] [Has F .faults] [Has F .fuses] [Has F .boot] [Has F .req] [Has F .pins] [Has F .seeded] [Has F .dramKeys] [Has F .dramLost] [Has F .out] {s0 : State} (s : State) (hk : Within F s0 s) : Within F s0 (meshBroken s) := by
  unfold meshBroken
  iterate 60 (try (any_goals (first | with_reducible assumption | with_reducible apply within_ite | with_reducible apply within_ite_snd | with_reducible apply meshDestroyed_within | with_reducible apply tamper_within | with_reducible apply modKeeper_within | (with_reducible apply within_foldl <;> [skip; intro _ _ _]) | split | extract_lets | (apply within_eq; with_reducible assumption) | dsimp -zeta only | ((with_reducible apply within_mk) <;> first | exact .inl Has.has | exact .inr rfl | skip))))

theorem meshDecoded_within {F : Part → Prop} [Has F .free] [Has F .now] [Has F .regs] [Has F .mem] [Has F .poison] [Has F .threads] [Has F .cyls] [Has F .krs] [Has F .engs] [Has F .ks] [Has F .guard] [Has F .intake] [Has F .turns] [Has F .srcs] [Has F .arbs] [Has F .doms] [Has F .xq] [Has F .westad] [Has F .dbg] [Has F .supply] [Has F .keeper] [Has F .audit] [Has F .faults] [Has F .fuses] [Has F .boot] [Has F .req] [Has F .pins] [Has F .seeded] [Has F .dramKeys] [Has F .dramLost] [Has F .out] {s0 : State} (s : State) (decodes : Bool) (hk : Within F s0 s) : Within F s0 (meshDecoded s decodes) := by
  unfold meshDecoded
  iterate 60 (try (any_goals (first | with_reducible assumption | with_reducible apply within_ite | with_reducible apply within_ite_snd | with_reducible apply tamper_within | with_reducible apply modKeeper_within | (with_reducible apply within_foldl <;> [skip; intro _ _ _]) | split | extract_lets | (apply within_eq; with_reducible assumption) | dsimp -zeta only | ((with_reducible apply within_mk) <;> first | exact .inl Has.has | exact .inr rfl | skip))))

theorem lightSeen_within {F : Part → Prop} [Has F .free] [Has F .now] [Has F .regs] [Has F .mem] [Has F .poison] [Has F .threads] [Has F .cyls] [Has F .krs] [Has F .engs] [Has F .ks] [Has F .guard] [Has F .intake] [Has F .turns] [Has F .srcs] [Has F .arbs] [Has F .doms] [Has F .xq] [Has F .westad] [Has F .dbg] [Has F .supply] [Has F .keeper] [Has F .audit] [Has F .faults] [Has F .fuses] [Has F .boot] [Has F .req] [Has F .pins] [Has F .seeded] [Has F .dramKeys] [Has F .dramLost] [Has F .out] {s0 : State} (s : State) (hk : Within F s0 s) : Within F s0 (lightSeen s) :=
  within_ite hk (tamper_within _ _ _ (modKeeper_within _ _ hk))

theorem tempSample_within {F : Part → Prop} [Has F .free] [Has F .now] [Has F .regs] [Has F .mem] [Has F .poison] [Has F .threads] [Has F .cyls] [Has F .krs] [Has F .engs] [Has F .ks] [Has F .guard] [Has F .intake] [Has F .turns] [Has F .srcs] [Has F .arbs] [Has F .doms] [Has F .xq] [Has F .westad] [Has F .dbg] [Has F .supply] [Has F .keeper] [Has F .audit] [Has F .faults] [Has F .fuses] [Has F .boot] [Has F .req] [Has F .pins] [Has F .seeded] [Has F .dramKeys] [Has F .dramLost] [Has F .out] {s0 : State} (s : State) (sensor : Nat) (c : Int) (hk : Within F s0 s) : Within F s0 (tempSample s sensor c) := by
  unfold tempSample
  iterate 60 (try (any_goals (first | with_reducible assumption | with_reducible apply within_ite | with_reducible apply within_ite_snd | with_reducible apply tamper_within | with_reducible apply modKeeper_within | (with_reducible apply within_foldl <;> [skip; intro _ _ _]) | split | extract_lets | (apply within_eq; with_reducible assumption) | dsimp -zeta only | ((with_reducible apply within_mk) <;> first | exact .inl Has.has | exact .inr rfl | skip))))

theorem railGlitched_within {F : Part → Prop} [Has F .free] [Has F .now] [Has F .regs] [Has F .mem] [Has F .poison] [Has F .threads] [Has F .cyls] [Has F .krs] [Has F .engs] [Has F .ks] [Has F .guard] [Has F .intake] [Has F .turns] [Has F .srcs] [Has F .arbs] [Has F .doms] [Has F .xq] [Has F .westad] [Has F .dbg] [Has F .supply] [Has F .keeper] [Has F .audit] [Has F .faults] [Has F .fuses] [Has F .boot] [Has F .req] [Has F .pins] [Has F .seeded] [Has F .dramKeys] [Has F .dramLost] [Has F .out] {s0 : State} (s : State) (rail : Nat) (hk : Within F s0 s) : Within F s0 (railGlitched s rail) :=
  within_ite hk (tamper_within _ _ _ (modKeeper_within _ _ (bump_within _ _ _ _ _ _ hk)))

theorem wcfgWrite_within {F : Part → Prop} [Has F .regs] {s0 : State} (s : State) (p : Nat) (v : Word) (hk : Within F s0 s) : Within F s0 (wcfgWrite s p v) :=
  within_ite hk (plainWrite_within _ _ _ _ hk)

theorem execCrystalQualified_within {F : Part → Prop} [Has F .keeper] [Has F .audit] (s : State) : GoesIn F s (execCrystalQualified s) :=
  ⟨_, rfl, crystalGood_within _ (Within.refl s)⟩

theorem execCrystalLost_within {F : Part → Prop} [Has F .regs] [Has F .keeper] [Has F .audit] (s : State) : GoesIn F s (execCrystalLost s) :=
  ⟨_, rfl, crystalGone_within _ (Within.refl s)⟩

theorem execCrystalStartTimeout_within {F : Part → Prop} [Has F .regs] [Has F .keeper] [Has F .audit] (s : State) : GoesIn F s (execCrystalStartTimeout s) :=
  ⟨_, rfl, crystalLate_within _ (Within.refl s)⟩

theorem execKeeperWatchdogExpiry_within {F : Part → Prop} [Has F .free] [Has F .now] [Has F .regs] [Has F .mem] [Has F .poison] [Has F .threads] [Has F .cyls] [Has F .krs] [Has F .engs] [Has F .ks] [Has F .guard] [Has F .intake] [Has F .turns] [Has F .srcs] [Has F .arbs] [Has F .doms] [Has F .xq] [Has F .westad] [Has F .dbg] [Has F .supply] [Has F .audit] [Has F .faults] [Has F .boot] [Has F .req] [Has F .pins] [Has F .seeded] [Has F .out] (s : State) : GoesIn F s (execKeeperWatchdogExpiry s) :=
  ⟨_, rfl, keeperDead_within _ (Within.refl s)⟩

theorem execKeeperSelfTest_within {F : Part → Prop} [Has F .free] [Has F .now] [Has F .regs] [Has F .mem] [Has F .poison] [Has F .threads] [Has F .cyls] [Has F .krs] [Has F .engs] [Has F .ks] [Has F .guard] [Has F .intake] [Has F .turns] [Has F .srcs] [Has F .arbs] [Has F .doms] [Has F .xq] [Has F .westad] [Has F .dbg] [Has F .supply] [Has F .audit] [Has F .faults] [Has F .boot] [Has F .req] [Has F .pins] [Has F .seeded] [Has F .out] (passed : Bool) (s : State) : GoesIn F s (execKeeperSelfTest passed s) :=
  ⟨_, rfl, keeperTested_within _ _ (Within.refl s)⟩

theorem execMeshContinuityFault_within {F : Part → Prop} [Has F .free] [Has F .now] [Has F .regs] [Has F .mem] [Has F .poison] [Has F .threads] [Has F .cyls] [Has F .krs] [Has F .engs] [Has F .ks] [Has F .guard] [Has F .intake] [Has F .turns] [Has F .srcs] [Has F .arbs] [Has F .doms] [Has F .xq] [Has F .westad] [Has F .dbg] [Has F .supply] [Has F .keeper] [Has F .audit] [Has F .faults] [Has F .fuses] [Has F .boot] [Has F .req] [Has F .pins] [Has F .seeded] [Has F .dramKeys] [Has F .dramLost] [Has F .out] (_segment : Fin 512) (s : State) : GoesIn F s (execMeshContinuityFault _segment s) :=
  ⟨_, rfl, meshBroken_within _ (Within.refl s)⟩

theorem execMeshPatternCheck_within {F : Part → Prop} [Has F .free] [Has F .now] [Has F .regs] [Has F .mem] [Has F .poison] [Has F .threads] [Has F .cyls] [Has F .krs] [Has F .engs] [Has F .ks] [Has F .guard] [Has F .intake] [Has F .turns] [Has F .srcs] [Has F .arbs] [Has F .doms] [Has F .xq] [Has F .westad] [Has F .dbg] [Has F .supply] [Has F .keeper] [Has F .audit] [Has F .faults] [Has F .fuses] [Has F .boot] [Has F .req] [Has F .pins] [Has F .seeded] [Has F .dramKeys] [Has F .dramLost] [Has F .out] (decodes : Bool) (s : State) : GoesIn F s (execMeshPatternCheck decodes s) :=
  ⟨_, rfl, meshDecoded_within _ _ (Within.refl s)⟩

theorem execLightDetected_within {F : Part → Prop} [Has F .free] [Has F .now] [Has F .regs] [Has F .mem] [Has F .poison] [Has F .threads] [Has F .cyls] [Has F .krs] [Has F .engs] [Has F .ks] [Has F .guard] [Has F .intake] [Has F .turns] [Has F .srcs] [Has F .arbs] [Has F .doms] [Has F .xq] [Has F .westad] [Has F .dbg] [Has F .supply] [Has F .keeper] [Has F .audit] [Has F .faults] [Has F .fuses] [Has F .boot] [Has F .req] [Has F .pins] [Has F .seeded] [Has F .dramKeys] [Has F .dramLost] [Has F .out] (_diode : Fin 8) (s : State) : GoesIn F s (execLightDetected _diode s) :=
  ⟨_, rfl, lightSeen_within _ (Within.refl s)⟩

theorem execTemperatureSample_within {F : Part → Prop} [Has F .free] [Has F .now] [Has F .regs] [Has F .mem] [Has F .poison] [Has F .threads] [Has F .cyls] [Has F .krs] [Has F .engs] [Has F .ks] [Has F .guard] [Has F .intake] [Has F .turns] [Has F .srcs] [Has F .arbs] [Has F .doms] [Has F .xq] [Has F .westad] [Has F .dbg] [Has F .supply] [Has F .keeper] [Has F .audit] [Has F .faults] [Has F .fuses] [Has F .boot] [Has F .req] [Has F .pins] [Has F .seeded] [Has F .dramKeys] [Has F .dramLost] [Has F .out] (sensor : Fin 4) (celsius : Int) (s : State) : GoesIn F s (execTemperatureSample sensor celsius s) :=
  ⟨_, rfl, tempSample_within _ _ _ (Within.refl s)⟩

theorem execRailGlitch_within {F : Part → Prop} [Has F .free] [Has F .now] [Has F .regs] [Has F .mem] [Has F .poison] [Has F .threads] [Has F .cyls] [Has F .krs] [Has F .engs] [Has F .ks] [Has F .guard] [Has F .intake] [Has F .turns] [Has F .srcs] [Has F .arbs] [Has F .doms] [Has F .xq] [Has F .westad] [Has F .dbg] [Has F .supply] [Has F .keeper] [Has F .audit] [Has F .faults] [Has F .fuses] [Has F .boot] [Has F .req] [Has F .pins] [Has F .seeded] [Has F .dramKeys] [Has F .dramLost] [Has F .out] (rail : Fin 24) (s : State) : GoesIn F s (execRailGlitch rail s) :=
  ⟨_, rfl, railGlitched_within _ _ (Within.refl s)⟩

/-! ### LifeCycle -/

theorem lcResult_within {F : Part → Prop} [Has F .req] {s0 : State} (s : State) (target r : Nat) (hk : Within F s0 s) : Within F s0 (lcResult s target r) := by
  unfold lcResult
  iterate 60 (try (any_goals (first | with_reducible assumption | with_reducible apply within_ite | with_reducible apply within_ite_snd | (with_reducible apply within_foldl <;> [skip; intro _ _ _]) | split | extract_lets | (apply within_eq; with_reducible assumption) | dsimp -zeta only | ((with_reducible apply within_mk) <;> first | exact .inl Has.has | exact .inr rfl | skip))))

theorem newNonce_within {F : Part → Prop} [Has F .free] [Has F .boot] {s0 : State} (s : State) (hk : Within F s0 s) : Within F s0 (newNonce s) := by
  unfold newNonce
  iterate 60 (try (any_goals (first | with_reducible assumption | with_reducible apply within_ite | with_reducible apply within_ite_snd | with_reducible apply modBoot_within | with_reducible apply trngBytes_within | (with_reducible apply within_foldl <;> [skip; intro _ _ _]) | split | extract_lets | (apply within_eq; with_reducible assumption) | dsimp -zeta only | ((with_reducible apply within_mk) <;> first | exact .inl Has.has | exact .inr rfl | skip))))

theorem lcRecord_within {F : Part → Prop} [Has F .audit] {s0 : State} (s : State) (target r : Nat) (hk : Within F s0 s) : Within F s0 (lcRecord s target r) :=
  audit_within _ _ _ _ _ hk

theorem blowShare_within {F : Part → Prop} [Has F .fuses] {s0 : State} (s : State) (share : Bytes) (hk : Within F s0 s) : Within F s0 (blowShare s share) := by
  unfold blowShare
  iterate 60 (try (any_goals (first | with_reducible assumption | with_reducible apply within_ite | with_reducible apply within_ite_snd | (with_reducible apply within_foldl <;> [skip; intro _ _ _]) | split | extract_lets | (apply within_eq; with_reducible assumption) | dsimp -zeta only | ((with_reducible apply within_mk) <;> first | exact .inl Has.has | exact .inr rfl | skip))))

theorem blowRootCheck_within {F : Part → Prop} [Has F .fuses] {s0 : State} (s : State) (hk : Within F s0 s) : Within F s0 (blowRootCheck s) := by
  unfold blowRootCheck
  iterate 60 (try (any_goals (first | with_reducible assumption | with_reducible apply within_ite | with_reducible apply within_ite_snd | (with_reducible apply within_foldl <;> [skip; intro _ _ _]) | split | extract_lets | (apply within_eq; with_reducible assumption) | dsimp -zeta only | ((with_reducible apply within_mk) <;> first | exact .inl Has.has | exact .inr rfl | skip))))

theorem blowOwner_within {F : Part → Prop} [Has F .fuses] {s0 : State} (s : State) (d : Bytes) (hk : Within F s0 s) : Within F s0 (blowOwner s d) := by
  unfold blowOwner
  iterate 60 (try (any_goals (first | with_reducible assumption | with_reducible apply within_ite | with_reducible apply within_ite_snd | (with_reducible apply within_foldl <;> [skip; intro _ _ _]) | split | extract_lets | (apply within_eq; with_reducible assumption) | dsimp -zeta only | ((with_reducible apply within_mk) <;> first | exact .inl Has.has | exact .inr rfl | skip))))

theorem blowHelpers_within {F : Part → Prop} [Has F .fuses] {s0 : State} (s : State) (hk : Within F s0 s) : Within F s0 (blowHelpers s) := by
  unfold blowHelpers
  iterate 60 (try (any_goals (first | with_reducible assumption | with_reducible apply within_ite | with_reducible apply within_ite_snd | (with_reducible apply within_foldl <;> [skip; intro _ _ _]) | split | extract_lets | (apply within_eq; with_reducible assumption) | dsimp -zeta only | ((with_reducible apply within_mk) <;> first | exact .inl Has.has | exact .inr rfl | skip))))

theorem enrol_within {F : Part → Prop} [Has F .free] [Has F .fuses] {s0 : State} (s : State) (hk : Within F s0 s) : Within F s0 (enrol s) := by
  unfold enrol
  iterate 60 (try (any_goals (first | with_reducible assumption | with_reducible apply within_ite | with_reducible apply within_ite_snd | with_reducible apply blowRootCheck_within | with_reducible apply blowShare_within | with_reducible apply trngBytes_within | (with_reducible apply within_foldl <;> [skip; intro _ _ _]) | split | extract_lets | (apply within_eq; with_reducible assumption) | dsimp -zeta only | ((with_reducible apply within_mk) <;> first | exact .inl Has.has | exact .inr rfl | skip))))

theorem blowState_within {F : Part → Prop} [Has F .fuses] {s0 : State} (s : State) (target : Nat) (hk : Within F s0 s) : Within F s0 (blowState s target) := by
  unfold blowState
  iterate 60 (try (any_goals (first | with_reducible assumption | with_reducible apply within_ite | with_reducible apply within_ite_snd | (with_reducible apply within_foldl <;> [skip; intro _ _ _]) | split | extract_lets | (apply within_eq; with_reducible assumption) | dsimp -zeta only | ((with_reducible apply within_mk) <;> first | exact .inl Has.has | exact .inr rfl | skip))))

theorem leaveService_within {F : Part → Prop} [Has F .free] [Has F .now] [Has F .regs] [Has F .mem] [Has F .poison] [Has F .threads] [Has F .cyls] [Has F .krs] [Has F .engs] [Has F .dmaTlb] [Has F .inval] [Has F .ks] [Has F .guard] [Has F .dma] [Has F .dmaLast] [Has F .intake] [Has F .kc] [Has F .kcPrev] [Has F .turns] [Has F .srcs] [Has F .arbs] [Has F .doms] [Has F .xq] [Has F .westad] [Has F .dbg] [Has F .supply] [Has F .keeper] [Has F .audit] [Has F .faults] [Has F .fuses] [Has F .boot] [Has F .req] [Has F .pins] [Has F .seeded] [Has F .trngBad] [Has F .ptpGood] [Has F .dramKeys] [Has F .dramLost] [Has F .linkPower] [Has F .out] {s0 : State} (s : State) (target : Nat) (hk : Within F s0 s) : Within F s0 (leaveService s target) := by
  unfold leaveService
  extract_lets s1 s2 k s3
  have h1 : Within F s0 s1 := by
    apply within_ite hk
    split
    · rename_i e
      exact sealDone_within _ (beginSeal_within _ _ _ hk _ e)
    · exact hk
  have h2 : Within F s0 s2 := modKeeper_within _ _ (zeroizeSet_within _ _ h1)
  clear_value s1 s2
  have h3 : Within F s0 s3 := blowHelpers_within _ (within_step h2 rfl (by intro p; cases p <;> first | exact .inl Has.has | exact .inr rfl))
  exact warmBoot_within _ _ (blowState_within _ _ h3)

theorem lcAccept_within {F : Part → Prop} [Has F .free] [Has F .now] [Has F .regs] [Has F .mem] [Has F .poison] [Has F .threads] [Has F .cyls] [Has F .krs] [Has F .engs] [Has F .dmaTlb] [Has F .inval] [Has F .ks] [Has F .guard] [Has F .dma] [Has F .dmaLast] [Has F .intake] [Has F .kc] [Has F .kcPrev] [Has F .turns] [Has F .srcs] [Has F .arbs] [Has F .doms] [Has F .xq] [Has F .westad] [Has F .dbg] [Has F .supply] [Has F .keeper] [Has F .audit] [Has F .faults] [Has F .fuses] [Has F .boot] [Has F .req] [Has F .pins] [Has F .seeded] [Has F .trngBad] [Has F .ptpGood] [Has F .dramKeys] [Has F .dramLost] [Has F .linkPower] [Has F .out] {s0 : State} (s : State) (b : Bytes) (hk : Within F s0 s) : Within F s0 (lcAccept s b) := by
  unfold lcAccept
  iterate 60 (try (any_goals (first | with_reducible assumption | with_reducible apply within_ite | with_reducible apply within_ite_snd | with_reducible apply leaveService_within | with_reducible apply blowState_within | with_reducible apply enrol_within | with_reducible apply blowOwner_within | (with_reducible apply within_foldl <;> [skip; intro _ _ _]) | split | extract_lets | (apply within_eq; with_reducible assumption) | dsimp -zeta only | ((with_reducible apply within_mk) <;> first | exact .inl Has.has | exact .inr rfl | skip))))

theorem lcJudge_within {F : Part → Prop} [Has F .free] [Has F .now] [Has F .regs] [Has F .mem] [Has F .poison] [Has F .threads] [Has F .cyls] [Has F .krs] [Has F .engs] [Has F .dmaTlb] [Has F .inval] [Has F .ks] [Has F .guard] [Has F .dma] [Has F .dmaLast] [Has F .intake] [Has F .kc] [Has F .kcPrev] [Has F .turns] [Has F .srcs] [Has F .arbs] [Has F .doms] [Has F .xq] [Has F .westad] [Has F .dbg] [Has F .supply] [Has F .keeper] [Has F .audit] [Has F .faults] [Has F .fuses] [Has F .boot] [Has F .req] [Has F .pins] [Has F .seeded] [Has F .trngBad] [Has F .ptpGood] [Has F .dramKeys] [Has F .dramLost] [Has F .linkPower] [Has F .out] {s0 : State} (s : State) (b : Bytes) (hk : Within F s0 s) : Within F s0 (lcJudge s b) := by
  unfold lcJudge
  iterate 60 (try (any_goals (first | with_reducible assumption | with_reducible apply within_ite | with_reducible apply within_ite_snd | with_reducible apply lcAccept_within | with_reducible apply lcRecord_within | with_reducible apply newNonce_within | with_reducible apply lcResult_within | with_reducible apply freeWord_within | (with_reducible apply within_foldl <;> [skip; intro _ _ _]) | split | extract_lets | (apply within_eq; with_reducible assumption) | dsimp -zeta only | ((with_reducible apply within_mk) <;> first | exact .inl Has.has | exact .inr rfl | skip))))

theorem lcRequest_within {F : Part → Prop} [Has F .free] [Has F .now] [Has F .regs] [Has F .mem] [Has F .poison] [Has F .threads] [Has F .cyls] [Has F .krs] [Has F .engs] [Has F .dmaTlb] [Has F .inval] [Has F .ks] [Has F .guard] [Has F .dma] [Has F .dmaLast] [Has F .intake] [Has F .kc] [Has F .kcPrev] [Has F .turns] [Has F .srcs] [Has F .arbs] [Has F .doms] [Has F .xq] [Has F .westad] [Has F .dbg] [Has F .supply] [Has F .keeper] [Has F .audit] [Has F .faults] [Has F .fuses] [Has F .boot] [Has F .req] [Has F .pins] [Has F .seeded] [Has F .trngBad] [Has F .ptpGood] [Has F .dramKeys] [Has F .dramLost] [Has F .linkPower] [Has F .out] {s0 : State} (s : State) (p va row : Nat) (hk : Within F s0 s) : Within F s0 (lcRequest s p va row) := by
  unfold lcRequest
  iterate 60 (try (any_goals (first | with_reducible assumption | with_reducible apply within_ite | with_reducible apply within_ite_snd | with_reducible apply lcJudge_within | with_reducible apply lcRecord_within | with_reducible apply newNonce_within | with_reducible apply lcResult_within | (with_reducible apply within_foldl <;> [skip; intro _ _ _]) | split | extract_lets | (apply within_eq; with_reducible assumption) | dsimp -zeta only | ((with_reducible apply within_mk) <;> first | exact .inl Has.has | exact .inr rfl | skip))))

theorem lcReqWrite_within {F : Part → Prop} [Has F .free] [Has F .now] [Has F .regs] [Has F .mem] [Has F .poison] [Has F .threads] [Has F .cyls] [Has F .krs] [Has F .engs] [Has F .dmaTlb] [Has F .inval] [Has F .ks] [Has F .guard] [Has F .dma] [Has F .dmaLast] [Has F .intake] [Has F .kc] [Has F .kcPrev] [Has F .turns] [Has F .srcs] [Has F .arbs] [Has F .doms] [Has F .xq] [Has F .westad] [Has F .dbg] [Has F .supply] [Has F .keeper] [Has F .audit] [Has F .faults] [Has F .fuses] [Has F .boot] [Has F .req] [Has F .pins] [Has F .seeded] [Has F .trngBad] [Has F .ptpGood] [Has F .dramKeys] [Has F .dramLost] [Has F .linkPower] [Has F .out] {s0 : State} (s : State) (p va : Nat) (hk : Within F s0 s) : Within F s0 (lcReqWrite s p va) := by
  unfold lcReqWrite
  iterate 60 (try (any_goals (first | with_reducible assumption | with_reducible apply within_ite | with_reducible apply within_ite_snd | with_reducible apply lcRequest_within | (with_reducible apply within_foldl <;> [skip; intro _ _ _]) | split | extract_lets | (apply within_eq; with_reducible assumption) | dsimp -zeta only | ((with_reducible apply within_mk) <;> first | exact .inl Has.has | exact .inr rfl | skip))))

theorem drawChallenge_within {F : Part → Prop} [Has F .free] [Has F .dbg] {s0 : State} (s : State) (hk : Within F s0 s) : Within F s0 (drawChallenge s) := by
  unfold drawChallenge
  iterate 60 (try (any_goals (first | with_reducible assumption | with_reducible apply within_ite | with_reducible apply within_ite_snd | with_reducible apply trngBytes_within | (with_reducible apply within_foldl <;> [skip; intro _ _ _]) | split | extract_lets | (apply within_eq; with_reducible assumption) | dsimp -zeta only | ((with_reducible apply within_mk) <;> first | exact .inl Has.has | exact .inr rfl | skip))))

theorem readChallenge_within {F : Part → Prop} [Has F .free] [Has F .dbg] {s0 : State} (s : State) (hk : Within F s0 s) : Within F s0 (readChallenge s) :=
  within_ite hk (drawChallenge_within _ hk)

theorem debugResponse_within {F : Part → Prop} [Has F .free] [Has F .threads] [Has F .dbg] [Has F .audit] {s0 : State} (s : State) (key sig : Bytes) (hk : Within F s0 s) : Within F s0 (debugResponse s key sig) := by
  unfold debugResponse
  iterate 60 (try (any_goals (first | with_reducible assumption | with_reducible apply within_ite | with_reducible apply within_ite_snd | with_reducible apply drawChallenge_within | with_reducible apply endDebug_within | with_reducible apply debugRecord_within | (with_reducible apply within_foldl <;> [skip; intro _ _ _]) | split | extract_lets | (apply within_eq; with_reducible assumption) | dsimp -zeta only | ((with_reducible apply within_mk) <;> first | exact .inl Has.has | exact .inr rfl | skip))))

theorem debugRead_within {F : Part → Prop} [Has F .dbg] {s0 : State} (s : State) (v : Word) (hk : Within F s0 s) : Within F s0 (debugRead s v) := by
  unfold debugRead
  iterate 60 (try (any_goals (first | with_reducible assumption | with_reducible apply within_ite | with_reducible apply within_ite_snd | (with_reducible apply within_foldl <;> [skip; intro _ _ _]) | split | extract_lets | (apply within_eq; with_reducible assumption) | dsimp -zeta only | ((with_reducible apply within_mk) <;> first | exact .inl Has.has | exact .inr rfl | skip))))

theorem debugPort_within {F : Part → Prop} [Has F .mem] [Has F .poison] [Has F .threads] [Has F .dbg] {s0 : State} {s : State} (nn : DebugAccess) (hk : Within F s0 s) : Within F s0 (debugPort s nn) := by
  cases nn <;> unfold debugPort
  iterate 60 (try (any_goals (first | with_reducible assumption | with_reducible apply within_ite | with_reducible apply within_ite_snd | with_reducible apply debugRead_within | with_reducible apply storePieces_within | with_reducible apply modThr_within | (with_reducible apply within_foldl <;> [skip; intro _ _ _]) | split | extract_lets | (apply within_eq; with_reducible assumption) | dsimp -zeta only | ((with_reducible apply within_mk) <;> first | exact .inl Has.has | exact .inr rfl | skip))))

theorem tapResets_within {F : Part → Prop} [Has F .free] [Has F .threads] [Has F .dbg] [Has F .audit] {s0 : State} (s : State) (hk : Within F s0 s) : Within F s0 (tapResets s) := by
  unfold tapResets
  iterate 60 (try (any_goals (first | with_reducible assumption | with_reducible apply within_ite | with_reducible apply within_ite_snd | with_reducible apply endDebug_within | with_reducible apply releaseThr_within | with_reducible apply settle_within | (with_reducible apply within_foldl <;> [skip; intro _ _ _]) | split | extract_lets | (apply within_eq; with_reducible assumption) | dsimp -zeta only | ((with_reducible apply within_mk) <;> first | exact .inl Has.has | exact .inr rfl | skip))))

theorem smbusLcId_within {F : Part → Prop} [Has F .regs] [Has F .out] {s0 : State} (s : State) (pecOk : Bool) (hk : Within F s0 s) : Within F s0 (smbusLcId s pecOk) :=
  within_ite hk (within_ite (emit_within _ _ hk) (countBad_within _ _ hk))

theorem execLcToCut_within {F : Part → Prop} [Has F .free] [Has F .now] [Has F .regs] [Has F .mem] [Has F .poison] [Has F .threads] [Has F .cyls] [Has F .krs] [Has F .engs] [Has F .dmaTlb] [Has F .inval] [Has F .ks] [Has F .guard] [Has F .dma] [Has F .dmaLast] [Has F .intake] [Has F .kc] [Has F .kcPrev] [Has F .turns] [Has F .srcs] [Has F .arbs] [Has F .doms] [Has F .xq] [Has F .westad] [Has F .dbg] [Has F .supply] [Has F .keeper] [Has F .audit] [Has F .faults] [Has F .fuses] [Has F .boot] [Has F .req] [Has F .pins] [Has F .seeded] [Has F .trngBad] [Has F .ptpGood] [Has F .dramKeys] [Has F .dramLost] [Has F .linkPower] [Has F .out] (p : Fin 256) (va : BitVec 56) (s : State) : GoesIn F s (execLcToCut p va s) :=
  ⟨_, rfl, quietSettle_within _ (lcRequest_within _ _ _ _ (Within.refl s))⟩

theorem execLcToKeyed_within {F : Part → Prop} [Has F .free] [Has F .now] [Has F .regs] [Has F .mem] [Has F .poison] [Has F .threads] [Has F .cyls] [Has F .krs] [Has F .engs] [Has F .dmaTlb] [Has F .inval] [Has F .ks] [Has F .guard] [Has F .dma] [Has F .dmaLast] [Has F .intake] [Has F .kc] [Has F .kcPrev] [Has F .turns] [Has F .srcs] [Has F .arbs] [Has F .doms] [Has F .xq] [Has F .westad] [Has F .dbg] [Has F .supply] [Has F .keeper] [Has F .audit] [Has F .faults] [Has F .fuses] [Has F .boot] [Has F .req] [Has F .pins] [Has F .seeded] [Has F .trngBad] [Has F .ptpGood] [Has F .dramKeys] [Has F .dramLost] [Has F .linkPower] [Has F .out] (p : Fin 256) (va : BitVec 56) (s : State) : GoesIn F s (execLcToKeyed p va s) :=
  ⟨_, rfl, quietSettle_within _ (lcRequest_within _ _ _ _ (Within.refl s))⟩

theorem execLcToLocked_within {F : Part → Prop} [Has F .free] [Has F .now] [Has F .regs] [Has F .mem] [Has F .poison] [Has F .threads] [Has F .cyls] [Has F .krs] [Has F .engs] [Has F .dmaTlb] [Has F .inval] [Has F .ks] [Has F .guard] [Has F .dma] [Has F .dmaLast] [Has F .intake] [Has F .kc] [Has F .kcPrev] [Has F .turns] [Has F .srcs] [Has F .arbs] [Has F .doms] [Has F .xq] [Has F .westad] [Has F .dbg] [Has F .supply] [Has F .keeper] [Has F .audit] [Has F .faults] [Has F .fuses] [Has F .boot] [Has F .req] [Has F .pins] [Has F .seeded] [Has F .trngBad] [Has F .ptpGood] [Has F .dramKeys] [Has F .dramLost] [Has F .linkPower] [Has F .out] (p : Fin 256) (va : BitVec 56) (s : State) : GoesIn F s (execLcToLocked p va s) :=
  ⟨_, rfl, quietSettle_within _ (lcRequest_within _ _ _ _ (Within.refl s))⟩

theorem execLcToReturned_within {F : Part → Prop} [Has F .free] [Has F .now] [Has F .regs] [Has F .mem] [Has F .poison] [Has F .threads] [Has F .cyls] [Has F .krs] [Has F .engs] [Has F .dmaTlb] [Has F .inval] [Has F .ks] [Has F .guard] [Has F .dma] [Has F .dmaLast] [Has F .intake] [Has F .kc] [Has F .kcPrev] [Has F .turns] [Has F .srcs] [Has F .arbs] [Has F .doms] [Has F .xq] [Has F .westad] [Has F .dbg] [Has F .supply] [Has F .keeper] [Has F .audit] [Has F .faults] [Has F .fuses] [Has F .boot] [Has F .req] [Has F .pins] [Has F .seeded] [Has F .trngBad] [Has F .ptpGood] [Has F .dramKeys] [Has F .dramLost] [Has F .linkPower] [Has F .out] (p : Fin 256) (va : BitVec 56) (s : State) : GoesIn F s (execLcToReturned p va s) :=
  ⟨_, rfl, quietSettle_within _ (lcRequest_within _ _ _ _ (Within.refl s))⟩

theorem execLcToScrapped_within {F : Part → Prop} [Has F .free] [Has F .now] [Has F .regs] [Has F .mem] [Has F .poison] [Has F .threads] [Has F .cyls] [Has F .krs] [Has F .engs] [Has F .dmaTlb] [Has F .inval] [Has F .ks] [Has F .guard] [Has F .dma] [Has F .dmaLast] [Has F .intake] [Has F .kc] [Has F .kcPrev] [Has F .turns] [Has F .srcs] [Has F .arbs] [Has F .doms] [Has F .xq] [Has F .westad] [Has F .dbg] [Has F .supply] [Has F .keeper] [Has F .audit] [Has F .faults] [Has F .fuses] [Has F .boot] [Has F .req] [Has F .pins] [Has F .seeded] [Has F .trngBad] [Has F .ptpGood] [Has F .dramKeys] [Has F .dramLost] [Has F .linkPower] [Has F .out] (p : Fin 256) (va : BitVec 56) (s : State) : GoesIn F s (execLcToScrapped p va s) :=
  ⟨_, rfl, quietSettle_within _ (lcRequest_within _ _ _ _ (Within.refl s))⟩

theorem execDbgchal_within {F : Part → Prop} [Has F .free] [Has F .dbg] (s : State) : GoesIn F s (execDbgchal s) :=
  ⟨_, rfl, readChallenge_within _ (Within.refl s)⟩

theorem execDbgport_within {F : Part → Prop} [Has F .mem] [Has F .poison] [Has F .threads] [Has F .dbg] (a : DebugAccess) (s : State) : GoesIn F s (execDbgport a s) := by
  have hk : Within F s s := Within.refl s
  unfold execDbgport
  (try extract_lets)
  refine ⟨_, rfl, ?_⟩
  iterate 30 (try (any_goals (first | with_reducible assumption | with_reducible apply within_ite | with_reducible apply debugPort_within | (with_reducible apply within_foldl <;> [skip; intro _ _ _]) | intro _ _ | split | extract_lets | dsimp -zeta only | ((with_reducible apply within_mk) <;> first | exact .inl Has.has | exact .inr rfl | skip))))

theorem execDbgrsp_within {F : Part → Prop} [Has F .free] [Has F .threads] [Has F .dbg] [Has F .audit] (key sig : Bytes) (s : State) : GoesIn F s (execDbgrsp key sig s) :=
  ⟨_, rfl, settle_within _ (debugResponse_within _ _ _ (Within.refl s))⟩

theorem execDebugFreeze_within {F : Part → Prop} [Has F .threads] (s : State) : GoesIn F s (execDebugFreeze s) := by
  have hk : Within F s s := Within.refl s
  unfold execDebugFreeze
  (try extract_lets)
  refine ⟨_, rfl, ?_⟩
  iterate 30 (try (any_goals (first | with_reducible assumption | with_reducible apply within_ite | with_reducible apply askFreeze_within | (with_reducible apply within_foldl <;> [skip; intro _ _ _]) | intro _ _ | split | extract_lets | dsimp -zeta only | ((with_reducible apply within_mk) <;> first | exact .inl Has.has | exact .inr rfl | skip))))

theorem execDebugRelease_within {F : Part → Prop} [Has F .threads] (s : State) : GoesIn F s (execDebugRelease s) := by
  have hk : Within F s s := Within.refl s
  unfold execDebugRelease
  (try extract_lets)
  refine ⟨_, rfl, ?_⟩
  iterate 30 (try (any_goals (first | with_reducible assumption | with_reducible apply within_ite | with_reducible apply releaseThr_within | with_reducible apply settle_within | (with_reducible apply within_foldl <;> [skip; intro _ _ _]) | intro _ _ | split | extract_lets | dsimp -zeta only | ((with_reducible apply within_mk) <;> first | exact .inl Has.has | exact .inr rfl | skip))))

theorem execTapReset_within {F : Part → Prop} [Has F .free] [Has F .threads] [Has F .dbg] [Has F .audit] (s : State) : GoesIn F s (execTapReset s) :=
  ⟨_, rfl, tapResets_within _ (Within.refl s)⟩

theorem execSmbusReadLcId_within {F : Part → Prop} [Has F .regs] [Has F .out] (pecOk : Bool) (s : State) : GoesIn F s (execSmbusReadLcId pecOk s) :=
  ⟨_, rfl, smbusLcId_within _ _ (Within.refl s)⟩

/-! ### CommitRows -/

theorem execTurnDrainEnd_within {F : Part → Prop} [Has F .free] [Has F .now] [Has F .regs] [Has F .mem] [Has F .poison] [Has F .threads] [Has F .cyls] [Has F .krs] [Has F .engs] [Has F .dmaTlb] [Has F .inval] [Has F .ks] [Has F .guard] [Has F .dma] [Has F .dmaLast] [Has F .intake] [Has F .kc] [Has F .kcPrev] [Has F .turns] [Has F .srcs] [Has F .arbs] [Has F .doms] [Has F .xq] [Has F .westad] [Has F .dbg] [Has F .supply] [Has F .keeper] [Has F .audit] [Has F .faults] [Has F .fuses] [Has F .boot] [Has F .req] [Has F .pins] [Has F .seeded] [Has F .trngBad] [Has F .ptpGood] [Has F .dramKeys] [Has F .dramLost] [Has F .linkPower] [Has F .out] (s : State) : GoesIn F s (execTurnDrainEnd s) :=
  ⟨_, rfl, warmSettle_within _ (turnDrains_within _ (Within.refl s))⟩

theorem execTurnDrainLimit_within {F : Part → Prop} [Has F .free] [Has F .now] [Has F .regs] [Has F .mem] [Has F .poison] [Has F .threads] [Has F .cyls] [Has F .krs] [Has F .engs] [Has F .dmaTlb] [Has F .inval] [Has F .ks] [Has F .guard] [Has F .dma] [Has F .dmaLast] [Has F .intake] [Has F .kc] [Has F .kcPrev] [Has F .turns] [Has F .srcs] [Has F .arbs] [Has F .doms] [Has F .xq] [Has F .westad] [Has F .dbg] [Has F .supply] [Has F .keeper] [Has F .audit] [Has F .faults] [Has F .fuses] [Has F .boot] [Has F .req] [Has F .pins] [Has F .seeded] [Has F .trngBad] [Has F .ptpGood] [Has F .dramKeys] [Has F .dramLost] [Has F .linkPower] [Has F .out] (s : State) : GoesIn F s (execTurnDrainLimit s) :=
  ⟨_, rfl, warmSettle_within _ (settle_within _ (drainLimit_within _ (Within.refl s)))⟩

theorem execPropose_within {F : Part → Prop} [Has F .free] [Has F .now] [Has F .regs] [Has F .mem] [Has F .poison] [Has F .threads] [Has F .cyls] [Has F .krs] [Has F .engs] [Has F .dmaTlb] [Has F .inval] [Has F .ks] [Has F .guard] [Has F .dma] [Has F .dmaLast] [Has F .intake] [Has F .kc] [Has F .kcPrev] [Has F .turns] [Has F .srcs] [Has F .arbs] [Has F .doms] [Has F .xq] [Has F .westad] [Has F .dbg] [Has F .supply] [Has F .keeper] [Has F .audit] [Has F .faults] [Has F .fuses] [Has F .boot] [Has F .req] [Has F .pins] [Has F .seeded] [Has F .trngBad] [Has F .ptpGood] [Has F .dramKeys] [Has F .dramLost] [Has F .linkPower] [Has F .out] (m : Fin 8) (turn : Nat) (ksd exd : Bytes) (s : State) : GoesIn F s (execPropose m turn ksd exd s) := by
  have hk : Within F s s := Within.refl s
  unfold execPropose
  (try extract_lets)
  refine ⟨_, rfl, ?_⟩
  iterate 30 (try (any_goals (first | with_reducible assumption | with_reducible apply within_ite | with_reducible apply warmSettle_within | with_reducible apply onMessage_within | with_reducible apply proposed_within | (with_reducible apply within_foldl <;> [skip; intro _ _ _]) | intro _ _ | split | extract_lets | dsimp -zeta only | ((with_reducible apply within_mk) <;> first | exact .inl Has.has | exact .inr rfl | skip))))

theorem execVote_within {F : Part → Prop} [Has F .free] [Has F .now] [Has F .regs] [Has F .mem] [Has F .poison] [Has F .threads] [Has F .cyls] [Has F .krs] [Has F .engs] [Has F .dmaTlb] [Has F .inval] [Has F .ks] [Has F .guard] [Has F .dma] [Has F .dmaLast] [Has F .intake] [Has F .kc] [Has F .kcPrev] [Has F .turns] [Has F .srcs] [Has F .arbs] [Has F .doms] [Has F .xq] [Has F .westad] [Has F .dbg] [Has F .supply] [Has F .keeper] [Has F .audit] [Has F .faults] [Has F .fuses] [Has F .boot] [Has F .req] [Has F .pins] [Has F .seeded] [Has F .trngBad] [Has F .ptpGood] [Has F .dramKeys] [Has F .dramLost] [Has F .linkPower] [Has F .out] (m : Fin 8) (turn : Nat) (yes : Bool) (_reason : Byte) (s : State) : GoesIn F s (execVote m turn yes _reason s) := by
  have hk : Within F s s := Within.refl s
  unfold execVote
  (try extract_lets)
  refine ⟨_, rfl, ?_⟩
  iterate 30 (try (any_goals (first | with_reducible assumption | with_reducible apply within_ite | with_reducible apply warmSettle_within | with_reducible apply onMessage_within | with_reducible apply countVote_within | (with_reducible apply within_foldl <;> [skip; intro _ _ _]) | intro _ _ | split | extract_lets | dsimp -zeta only | ((with_reducible apply within_mk) <;> first | exact .inl Has.has | exact .inr rfl | skip))))

theorem execApply_within {F : Part → Prop} [Has F .free] [Has F .now] [Has F .regs] [Has F .mem] [Has F .poison] [Has F .threads] [Has F .cyls] [Has F .krs] [Has F .engs] [Has F .dmaTlb] [Has F .inval] [Has F .ks] [Has F .guard] [Has F .dma] [Has F .dmaLast] [Has F .intake] [Has F .kc] [Has F .kcPrev] [Has F .turns] [Has F .srcs] [Has F .arbs] [Has F .doms] [Has F .xq] [Has F .westad] [Has F .dbg] [Has F .supply] [Has F .keeper] [Has F .audit] [Has F .faults] [Has F .fuses] [Has F .boot] [Has F .req] [Has F .pins] [Has F .seeded] [Has F .trngBad] [Has F .ptpGood] [Has F .dramKeys] [Has F .dramLost] [Has F .linkPower] [Has F .out] (m : Fin 8) (turn : Nat) (s : State) : GoesIn F s (execApply m turn s) := by
  have hk : Within F s s := Within.refl s
  unfold execApply
  (try extract_lets)
  refine ⟨_, rfl, ?_⟩
  iterate 30 (try (any_goals (first | with_reducible assumption | with_reducible apply within_ite | with_reducible apply warmSettle_within | with_reducible apply onMessage_within | with_reducible apply applyAgreed_within | (with_reducible apply within_foldl <;> [skip; intro _ _ _]) | intro _ _ | split | extract_lets | dsimp -zeta only | ((with_reducible apply within_mk) <;> first | exact .inl Has.has | exact .inr rfl | skip))))

theorem execAbort_within {F : Part → Prop} [Has F .free] [Has F .now] [Has F .regs] [Has F .mem] [Has F .poison] [Has F .threads] [Has F .cyls] [Has F .krs] [Has F .engs] [Has F .dmaTlb] [Has F .inval] [Has F .ks] [Has F .guard] [Has F .dma] [Has F .dmaLast] [Has F .intake] [Has F .kc] [Has F .kcPrev] [Has F .turns] [Has F .srcs] [Has F .arbs] [Has F .doms] [Has F .xq] [Has F .westad] [Has F .dbg] [Has F .supply] [Has F .keeper] [Has F .audit] [Has F .faults] [Has F .fuses] [Has F .boot] [Has F .req] [Has F .pins] [Has F .seeded] [Has F .trngBad] [Has F .ptpGood] [Has F .dramKeys] [Has F .dramLost] [Has F .linkPower] [Has F .out] (m : Fin 8) (turn : Nat) (s : State) : GoesIn F s (execAbort m turn s) := by
  have hk : Within F s s := Within.refl s
  unfold execAbort
  (try extract_lets)
  refine ⟨_, rfl, ?_⟩
  iterate 30 (try (any_goals (first | with_reducible assumption | with_reducible apply within_ite | with_reducible apply warmSettle_within | with_reducible apply onMessage_within | with_reducible apply abortAgreed_within | (with_reducible apply within_foldl <;> [skip; intro _ _ _]) | intro _ _ | split | extract_lets | dsimp -zeta only | ((with_reducible apply within_mk) <;> first | exact .inl Has.has | exact .inr rfl | skip))))

theorem execDoneMsg_within {F : Part → Prop} [Has F .free] [Has F .now] [Has F .regs] [Has F .mem] [Has F .poison] [Has F .threads] [Has F .cyls] [Has F .krs] [Has F .engs] [Has F .dmaTlb] [Has F .inval] [Has F .ks] [Has F .guard] [Has F .dma] [Has F .dmaLast] [Has F .intake] [Has F .kc] [Has F .kcPrev] [Has F .turns] [Has F .srcs] [Has F .arbs] [Has F .doms] [Has F .xq] [Has F .westad] [Has F .dbg] [Has F .supply] [Has F .keeper] [Has F .audit] [Has F .faults] [Has F .fuses] [Has F .boot] [Has F .req] [Has F .pins] [Has F .seeded] [Has F .trngBad] [Has F .ptpGood] [Has F .dramKeys] [Has F .dramLost] [Has F .linkPower] [Has F .out] (m : Fin 8) (turn : Nat) (s : State) : GoesIn F s (execDoneMsg m turn s) := by
  have hk : Within F s s := Within.refl s
  unfold execDoneMsg
  (try extract_lets)
  refine ⟨_, rfl, ?_⟩
  iterate 30 (try (any_goals (first | with_reducible assumption | with_reducible apply within_ite | with_reducible apply warmSettle_within | with_reducible apply onMessage_within | with_reducible apply countDone_within | (with_reducible apply within_foldl <;> [skip; intro _ _ _]) | intro _ _ | split | extract_lets | dsimp -zeta only | ((with_reducible apply within_mk) <;> first | exact .inl Has.has | exact .inr rfl | skip))))

theorem execStateMsg_within {F : Part → Prop} [Has F .free] [Has F .now] [Has F .regs] [Has F .mem] [Has F .poison] [Has F .threads] [Has F .cyls] [Has F .krs] [Has F .engs] [Has F .dmaTlb] [Has F .inval] [Has F .ks] [Has F .guard] [Has F .dma] [Has F .dmaLast] [Has F .intake] [Has F .kc] [Has F .kcPrev] [Has F .turns] [Has F .srcs] [Has F .arbs] [Has F .doms] [Has F .xq] [Has F .westad] [Has F .dbg] [Has F .supply] [Has F .keeper] [Has F .audit] [Has F .faults] [Has F .fuses] [Has F .boot] [Has F .req] [Has F .pins] [Has F .seeded] [Has F .trngBad] [Has F .ptpGood] [Has F .dramKeys] [Has F .dramLost] [Has F .linkPower] [Has F .out] (m : Fin 8) (turn : Nat) (outcome : Byte) (s : State) : GoesIn F s (execStateMsg m turn outcome s) := by
  have hk : Within F s s := Within.refl s
  unfold execStateMsg
  (try extract_lets)
  refine ⟨_, rfl, ?_⟩
  iterate 30 (try (any_goals (first | with_reducible assumption | with_reducible apply within_ite | with_reducible apply warmSettle_within | with_reducible apply onMessage_within | with_reducible apply learnState_within | (with_reducible apply within_foldl <;> [skip; intro _ _ _]) | intro _ _ | split | extract_lets | dsimp -zeta only | ((with_reducible apply within_mk) <;> first | exact .inl Has.has | exact .inr rfl | skip))))

theorem execQueryOutcomeTimeout_within {F : Part → Prop} [Has F .free] [Has F .now] [Has F .regs] [Has F .mem] [Has F .poison] [Has F .threads] [Has F .cyls] [Has F .krs] [Has F .engs] [Has F .dmaTlb] [Has F .inval] [Has F .ks] [Has F .guard] [Has F .dma] [Has F .dmaLast] [Has F .intake] [Has F .kc] [Has F .kcPrev] [Has F .turns] [Has F .srcs] [Has F .arbs] [Has F .doms] [Has F .xq] [Has F .westad] [Has F .dbg] [Has F .supply] [Has F .keeper] [Has F .audit] [Has F .faults] [Has F .fuses] [Has F .boot] [Has F .req] [Has F .pins] [Has F .seeded] [Has F .trngBad] [Has F .ptpGood] [Has F .dramKeys] [Has F .dramLost] [Has F .linkPower] [Has F .out] (s : State) : GoesIn F s (execQueryOutcomeTimeout s) := by
  have hk : Within F s s := Within.refl s
  unfold execQueryOutcomeTimeout
  (try extract_lets)
  refine ⟨_, rfl, ?_⟩
  iterate 30 (try (any_goals (first | with_reducible assumption | with_reducible apply within_ite | with_reducible apply warmSettle_within | with_reducible apply abortAgreed_within | (with_reducible apply within_foldl <;> [skip; intro _ _ _]) | intro _ _ | split | extract_lets | dsimp -zeta only | ((with_reducible apply within_mk) <;> first | exact .inl Has.has | exact .inr rfl | skip))))

/-! ### Control -/

theorem ctlRead_within {F : Part → Prop} [Has F .regs] [Has F .threads] [Has F .srcs] {s0 : State} (s : State) (p t : Nat) (r : Reg) (ix : Nat) (hk : Within F s0 s) : Within F s0 (ctlRead s p t r ix).2 := by
  unfold ctlRead
  iterate 60 (try (any_goals (first | with_reducible assumption | with_reducible apply within_ite | with_reducible apply within_ite_snd | with_reducible apply claim_within | with_reducible apply clearOnRead_within | (with_reducible apply within_foldl <;> [skip; intro _ _ _]) | split | extract_lets | (apply within_eq; with_reducible assumption) | dsimp -zeta only | ((with_reducible apply within_mk) <;> first | exact .inl Has.has | exact .inr rfl | skip))))

theorem ctlReadRow_within {F : Part → Prop} [Has F .rdata] [Has F .regs] [Has F .threads] [Has F .srcs] {s0 : State} (s : State) (p t : Nat) (r : Reg) (ix : Nat) (hk : Within F s0 s) : Within F s0 (ctlReadRow s p t r ix) := by
  unfold ctlReadRow
  iterate 60 (try (any_goals (first | with_reducible assumption | with_reducible apply within_ite | with_reducible apply within_ite_snd | with_reducible apply ctlRead_within | (with_reducible apply within_foldl <;> [skip; intro _ _ _]) | split | extract_lets | (apply within_eq; with_reducible assumption) | dsimp -zeta only | ((with_reducible apply within_mk) <;> first | exact .inl Has.has | exact .inr rfl | skip))))

theorem lcBootWrite_within {F : Part → Prop} [Has F .free] [Has F .now] [Has F .regs] [Has F .mem] [Has F .poison] [Has F .threads] [Has F .cyls] [Has F .krs] [Has F .engs] [Has F .dmaTlb] [Has F .inval] [Has F .ks] [Has F .guard] [Has F .dma] [Has F .dmaLast] [Has F .intake] [Has F .kc] [Has F .kcPrev] [Has F .turns] [Has F .srcs] [Has F .arbs] [Has F .doms] [Has F .xq] [Has F .westad] [Has F .dbg] [Has F .supply] [Has F .keeper] [Has F .audit] [Has F .faults] [Has F .fuses] [Has F .boot] [Has F .req] [Has F .pins] [Has F .seeded] [Has F .trngBad] [Has F .ptpGood] [Has F .dramKeys] [Has F .dramLost] [Has F .linkPower] [Has F .out] {s0 : State} (s : State) (p : Nat) (v : Word) (hk : Within F s0 s) : Within F s0 (lcBootWrite s p v) := by
  unfold lcBootWrite
  iterate 60 (try (any_goals (first | with_reducible assumption | with_reducible apply within_ite | with_reducible apply within_ite_snd | with_reducible apply exportTraining_within | with_reducible apply warmBundleWrite_within | with_reducible apply warmWrite_within | with_reducible apply modBoot_within | (with_reducible apply within_foldl <;> [skip; intro _ _ _]) | split | extract_lets | (apply within_eq; with_reducible assumption) | dsimp -zeta only | ((with_reducible apply within_mk) <;> first | exact .inl Has.has | exact .inr rfl | skip))))

theorem tlbinvWrite_within {F : Part → Prop} [Has F .inval] {s0 : State} (s : State) (p t : Nat) (v : Word) (hk : Within F s0 s) : Within F s0 (tlbinvWrite s p t v) := by
  unfold tlbinvWrite
  iterate 60 (try (any_goals (first | with_reducible assumption | with_reducible apply within_ite | with_reducible apply within_ite_snd | with_reducible apply addInval_within | (with_reducible apply within_foldl <;> [skip; intro _ _ _]) | split | extract_lets | (apply within_eq; with_reducible assumption) | dsimp -zeta only | ((with_reducible apply within_mk) <;> first | exact .inl Has.has | exact .inr rfl | skip))))

theorem ksImgRegWrite_within {F : Part → Prop} [Has F .free] [Has F .req] {s0 : State} (s : State) (p : Nat) (v : Word) (hk : Within F s0 s) : Within F s0 (ksImgRegWrite s p v) := by
  unfold ksImgRegWrite
  iterate 60 (try (any_goals (first | with_reducible assumption | with_reducible apply within_ite | with_reducible apply within_ite_snd | with_reducible apply ksImgWrite_within | (with_reducible apply within_foldl <;> [skip; intro _ _ _]) | split | extract_lets | (apply within_eq; with_reducible assumption) | dsimp -zeta only | ((with_reducible apply within_mk) <;> first | exact .inl Has.has | exact .inr rfl | skip))))

theorem queModWrite_within {F : Part → Prop} [Has F .regs] {s0 : State} (s : State) (p q : Nat) (v : Word) (hk : Within F s0 s) : Within F s0 (queModWrite s p q v) := by
  unfold queModWrite
  iterate 60 (try (any_goals (first | with_reducible assumption | with_reducible apply within_ite | with_reducible apply within_ite_snd | with_reducible apply plainWrite_within | (with_reducible apply within_foldl <;> [skip; intro _ _ _]) | split | extract_lets | (apply within_eq; with_reducible assumption) | dsimp -zeta only | ((with_reducible apply within_mk) <;> first | exact .inl Has.has | exact .inr rfl | skip))))

theorem asealWrite_within {F : Part → Prop} [Has F .free] [Has F .regs] [Has F .audit] [Has F .fuses] {s0 : State} (s : State) (p : Nat) (v : Word) (hk : Within F s0 s) : Within F s0 (asealWrite s p v) := by
  unfold asealWrite
  iterate 60 (try (any_goals (first | with_reducible assumption | with_reducible apply within_ite | with_reducible apply within_ite_snd | with_reducible apply sealWrite_within | with_reducible apply plainWrite_within | (with_reducible apply within_foldl <;> [skip; intro _ _ _]) | split | extract_lets | (apply within_eq; with_reducible assumption) | dsimp -zeta only | ((with_reducible apply within_mk) <;> first | exact .inl Has.has | exact .inr rfl | skip))))

theorem quietWrite_within {F : Part → Prop} [Has F .free] [Has F .now] [Has F .regs] [Has F .mem] [Has F .poison] [Has F .threads] [Has F .cyls] [Has F .krs] [Has F .engs] [Has F .dmaTlb] [Has F .inval] [Has F .ks] [Has F .guard] [Has F .dma] [Has F .dmaLast] [Has F .intake] [Has F .kc] [Has F .kcPrev] [Has F .turns] [Has F .srcs] [Has F .arbs] [Has F .doms] [Has F .xq] [Has F .westad] [Has F .dbg] [Has F .supply] [Has F .keeper] [Has F .audit] [Has F .faults] [Has F .fuses] [Has F .boot] [Has F .req] [Has F .pins] [Has F .seeded] [Has F .trngBad] [Has F .ptpGood] [Has F .dramKeys] [Has F .dramLost] [Has F .linkPower] [Has F .out] {s0 : State} (s : State) (p : Nat) (v : Word) (hk : Within F s0 s) : Within F s0 (quietWrite s p v) := by
  unfold quietWrite
  iterate 60 (try (any_goals (first | with_reducible assumption | with_reducible apply within_ite | with_reducible apply within_ite_snd | with_reducible apply quietExit_within | with_reducible apply startSelftest_within | with_reducible apply enterQuiet_within | (with_reducible apply within_foldl <;> [skip; intro _ _ _]) | split | extract_lets | (apply within_eq; with_reducible assumption) | dsimp -zeta only | ((with_reducible apply within_mk) <;> first | exact .inl Has.has | exact .inr rfl | skip))))

theorem stallWrite_within {F : Part → Prop} [Has F .regs] {s0 : State} (s : State) (p : Nat) (v : Word) (hk : Within F s0 s) : Within F s0 (stallWrite s p v) :=
  within_ite hk (plainWrite_within _ _ _ _ hk)

theorem ptpWrite_within {F : Part → Prop} [Has F .regs] {s0 : State} (s : State) (p : Nat) (v : Word) (hk : Within F s0 s) : Within F s0 (ptpWrite s p v) :=
  within_ite hk (plainWrite_within _ _ _ _ hk)

theorem ctlEffect_within {F : Part → Prop} [Has F .free] [Has F .now] [Has F .tally] [Has F .regs] [Has F .mem] [Has F .poison] [Has F .threads] [Has F .cyls] [Has F .krs] [Has F .engs] [Has F .dmaTlb] [Has F .inval] [Has F .ks] [Has F .guard] [Has F .dma] [Has F .dmaLast] [Has F .intake] [Has F .kc] [Has F .kcPrev] [Has F .turns] [Has F .srcs] [Has F .arbs] [Has F .doms] [Has F .xq] [Has F .westad] [Has F .dbg] [Has F .supply] [Has F .keeper] [Has F .audit] [Has F .faults] [Has F .fuses] [Has F .boot] [Has F .req] [Has F .pins] [Has F .seeded] [Has F .trngBad] [Has F .ptpGood] [Has F .dramKeys] [Has F .dramLost] [Has F .linkPower] [Has F .out] {s0 : State} (s : State) (p t : Nat) (r : Reg) (ix : Nat) (v : Word) (hk : Within F s0 s) : Within F s0 (ctlEffect s p t r ix v) := by
  unfold ctlEffect
  iterate 60 (try (any_goals (first | with_reducible assumption | with_reducible apply within_ite | with_reducible apply within_ite_snd | with_reducible apply ptpWrite_within | with_reducible apply stallWrite_within | with_reducible apply quietWrite_within | with_reducible apply asealWrite_within | with_reducible apply queModWrite_within | with_reducible apply ksImgRegWrite_within | with_reducible apply tlbinvWrite_within | with_reducible apply lcBootWrite_within | with_reducible apply lcReqWrite_within | with_reducible apply wcfgWrite_within | with_reducible apply padrelWrite_within | with_reducible apply sleepWrite_within | with_reducible apply pwrCtlWrite_within | with_reducible apply attestWrite_within | with_reducible apply idleWrite_within | with_reducible apply flatWrite_within | with_reducible apply pwrEvt_within | with_reducible apply tbSetWrite_within | with_reducible apply arbXmodeWrite_within | with_reducible apply tlmFlush_within | with_reducible apply queDone_within | with_reducible apply turnCommitWrite_within | with_reducible apply turnSetWrite_within | with_reducible apply turnDeltaWrite_within | with_reducible apply ptrootWrite_within | with_reducible apply dmaCtlWrite_within | with_reducible apply dmaHeadWrite_within | with_reducible apply knkReturn_within | with_reducible apply endOfInterrupt_within | with_reducible apply maskWrite_within | with_reducible apply pendClr_within | with_reducible apply pendSet_within | with_reducible apply ksEraseWrite_within | with_reducible apply raise_within | with_reducible apply plainWrite_within | (with_reducible apply within_foldl <;> [skip; intro _ _ _]) | split | extract_lets | (apply within_eq; with_reducible assumption) | dsimp -zeta only | ((with_reducible apply within_mk) <;> first | exact .inl Has.has | exact .inr rfl | skip))))

theorem ctlWrite_within {F : Part → Prop} [Has F .free] [Has F .now] [Has F .tally] [Has F .regs] [Has F .mem] [Has F .poison] [Has F .threads] [Has F .cyls] [Has F .krs] [Has F .engs] [Has F .dmaTlb] [Has F .inval] [Has F .ks] [Has F .guard] [Has F .dma] [Has F .dmaLast] [Has F .intake] [Has F .kc] [Has F .kcPrev] [Has F .turns] [Has F .srcs] [Has F .arbs] [Has F .doms] [Has F .xq] [Has F .westad] [Has F .dbg] [Has F .supply] [Has F .keeper] [Has F .audit] [Has F .faults] [Has F .fuses] [Has F .boot] [Has F .req] [Has F .pins] [Has F .seeded] [Has F .trngBad] [Has F .ptpGood] [Has F .dramKeys] [Has F .dramLost] [Has F .linkPower] [Has F .out] {s0 : State} (s : State) (p t addr : Nat) (v : Word) (hk : Within F s0 s) : Within F s0 (ctlWrite s p t addr v) := by
  unfold ctlWrite
  iterate 60 (try (any_goals (first | with_reducible assumption | with_reducible apply within_ite | with_reducible apply within_ite_snd | with_reducible apply ctlEffect_within | with_reducible apply warmSettle_within | with_reducible apply quietSettle_within | with_reducible apply settle_within | (with_reducible apply within_foldl <;> [skip; intro _ _ _]) | split | extract_lets | (apply within_eq; with_reducible assumption) | dsimp -zeta only | ((with_reducible apply within_mk) <;> first | exact .inl Has.has | exact .inr rfl | skip))))

theorem execCylCmodeRead_within {F : Part → Prop} [Has F .rdata] [Has F .regs] [Has F .threads] [Has F .srcs] (p : Fin 256) (c : Fin 128) (s : State) : GoesIn F s (execCylCmodeRead p c s) :=
  ⟨_, rfl, ctlReadRow_within _ _ _ _ _ (Within.refl s)⟩

theorem execKsQlastRead_within {F : Part → Prop} [Has F .rdata] [Has F .regs] [Has F .threads] [Has F .srcs] (p : Fin 256) (s : State) : GoesIn F s (execKsQlastRead p s) :=
  ⟨_, rfl, ctlReadRow_within _ _ _ _ _ (Within.refl s)⟩

theorem execDmaStatRead_within {F : Part → Prop} [Has F .rdata] [Has F .regs] [Has F .threads] [Has F .srcs] (p : Fin 256) (c : Fin 512) (s : State) : GoesIn F s (execDmaStatRead p c s) :=
  ⟨_, rfl, ctlReadRow_within _ _ _ _ _ (Within.refl s)⟩

theorem execEngErrRead_within {F : Part → Prop} [Has F .rdata] [Has F .regs] [Has F .threads] [Has F .srcs] (p : Fin 256) (e : Fin 144) (s : State) : GoesIn F s (execEngErrRead p e s) :=
  ⟨_, rfl, ctlReadRow_within _ _ _ _ _ (Within.refl s)⟩

theorem execExgStatRead_within {F : Part → Prop} [Has F .rdata] [Has F .regs] [Has F .threads] [Has F .srcs] (p q : Fin 256) (s : State) : GoesIn F s (execExgStatRead p q s) :=
  ⟨_, rfl, ctlReadRow_within _ _ _ _ _ (Within.refl s)⟩

theorem execQueStatRead_within {F : Part → Prop} [Has F .rdata] [Has F .regs] [Has F .threads] [Has F .srcs] (p : Fin 256) (q : Fin 1024) (response : Bool) (s : State) : GoesIn F s (execQueStatRead p q response s) :=
  ⟨_, rfl, ctlReadRow_within _ _ _ _ _ (Within.refl s)⟩

theorem execQuePstatRead_within {F : Part → Prop} [Has F .rdata] [Has F .regs] [Has F .threads] [Has F .srcs] (p q : Fin 256) (s : State) : GoesIn F s (execQuePstatRead p q s) :=
  ⟨_, rfl, ctlReadRow_within _ _ _ _ _ (Within.refl s)⟩

theorem execQueTlmRead_within {F : Part → Prop} [Has F .rdata] [Has F .regs] [Has F .threads] [Has F .srcs] (p : Fin 256) (j : Fin 16) (s : State) : GoesIn F s (execQueTlmRead p j s) :=
  ⟨_, rfl, ctlReadRow_within _ _ _ _ _ (Within.refl s)⟩

theorem execKeepXlogRead_within {F : Part → Prop} [Has F .rdata] [Has F .regs] [Has F .threads] [Has F .srcs] (p : Fin 256) (s : State) : GoesIn F s (execKeepXlogRead p s) :=
  ⟨_, rfl, ctlReadRow_within _ _ _ _ _ (Within.refl s)⟩

theorem execKnkStrayCntRead_within {F : Part → Prop} [Has F .rdata] [Has F .regs] [Has F .threads] [Has F .srcs] (p : Fin 256) (s : State) : GoesIn F s (execKnkStrayCntRead p s) :=
  ⟨_, rfl, ctlReadRow_within _ _ _ _ _ (Within.refl s)⟩

theorem execLaneStatRead_within {F : Part → Prop} [Has F .rdata] [Has F .regs] [Has F .threads] [Has F .srcs] (p : Fin 256) (l : Fin 48) (s : State) : GoesIn F s (execLaneStatRead p l s) :=
  ⟨_, rfl, ctlReadRow_within _ _ _ _ _ (Within.refl s)⟩

theorem execLaneDropRead_within {F : Part → Prop} [Has F .rdata] [Has F .regs] [Has F .threads] [Has F .srcs] (p : Fin 256) (j : Fin 5) (s : State) : GoesIn F s (execLaneDropRead p j s) :=
  ⟨_, rfl, ctlReadRow_within _ _ _ _ _ (Within.refl s)⟩

theorem execLaneWlinkRead_within {F : Part → Prop} [Has F .rdata] [Has F .regs] [Has F .threads] [Has F .srcs] (p : Fin 256) (l : Fin 4) (s : State) : GoesIn F s (execLaneWlinkRead p l s) :=
  ⟨_, rfl, ctlReadRow_within _ _ _ _ _ (Within.refl s)⟩

theorem execKeepTampRead_within {F : Part → Prop} [Has F .rdata] [Has F .regs] [Has F .threads] [Has F .srcs] (p : Fin 256) (s : State) : GoesIn F s (execKeepTampRead p s) :=
  ⟨_, rfl, ctlReadRow_within _ _ _ _ _ (Within.refl s)⟩

theorem execRegisterWrite_within {F : Part → Prop} [Has F .free] [Has F .now] [Has F .tally] [Has F .regs] [Has F .mem] [Has F .poison] [Has F .threads] [Has F .cyls] [Has F .krs] [Has F .engs] [Has F .dmaTlb] [Has F .inval] [Has F .ks] [Has F .guard] [Has F .dma] [Has F .dmaLast] [Has F .intake] [Has F .kc] [Has F .kcPrev] [Has F .turns] [Has F .srcs] [Has F .arbs] [Has F .doms] [Has F .xq] [Has F .westad] [Has F .dbg] [Has F .supply] [Has F .keeper] [Has F .audit] [Has F .faults] [Has F .fuses] [Has F .boot] [Has F .req] [Has F .pins] [Has F .seeded] [Has F .trngBad] [Has F .ptpGood] [Has F .dramKeys] [Has F .dramLost] [Has F .linkPower] [Has F .out] (p : Fin 256) (t : Fin 2048) (addr : Nat) (v : Word) (s : State) : GoesIn F s (execRegisterWrite p t addr v s) :=
  ⟨_, rfl, ctlWrite_within _ _ _ _ _ (Within.refl s)⟩

/-! ### Land -/

theorem loadEcc_within {F : Part → Prop} [Has F .regs] [Has F .poison] [Has F .threads] [Has F .cyls] [Has F .engs] [Has F .srcs] [Has F .doms] [Has F .audit] [Has F .faults] {s0 : State} (s : State) (ps : Pieces) (o : EccOutcome) (hk : Within F s0 s) : Within F s0 (loadEcc s ps o).2 := by
  unfold loadEcc
  iterate 60 (try (any_goals (first | with_reducible assumption | with_reducible apply within_ite | with_reducible apply within_ite_snd | with_reducible apply lineOutcome_within | with_reducible apply report_within | (with_reducible apply within_foldl <;> [skip; intro _ _ _]) | split | extract_lets | (apply within_eq; with_reducible assumption) | dsimp -zeta only | ((with_reducible apply within_mk) <;> first | exact .inl Has.has | exact .inr rfl | skip))))

theorem loadMem_within {F : Part → Prop} [Has F .regs] [Has F .poison] [Has F .threads] [Has F .cyls] [Has F .krs] [Has F .engs] [Has F .srcs] [Has F .doms] [Has F .audit] [Has F .faults] {s0 : State} (s : State) (t : Nat) (ps : Pieces) (o : EccOutcome) (hk : Within F s0 s) : Within F s0 (loadMem s t ps o).2.2 := by
  unfold loadMem
  iterate 60 (try (any_goals (first | with_reducible assumption | with_reducible apply within_ite | with_reducible apply within_ite_snd | with_reducible apply loadEcc_within | with_reducible apply countDown_within | with_reducible apply cacheLoad_within | (with_reducible apply within_foldl <;> [skip; intro _ _ _]) | split | extract_lets | (apply within_eq; with_reducible assumption) | dsimp -zeta only | ((with_reducible apply within_mk) <;> first | exact .inl Has.has | exact .inr rfl | skip))))

theorem loadLands_within {F : Part → Prop} [Has F .rdata] [Has F .regs] [Has F .poison] [Has F .threads] [Has F .cyls] [Has F .krs] [Has F .engs] [Has F .srcs] [Has F .doms] [Has F .audit] [Has F .faults] {s0 : State} (s : State) (t : Nat) (ecc : EccOutcome) (hk : Within F s0 s) : Within F s0 (loadLands s t ecc) := by
  unfold loadLands
  iterate 60 (try (any_goals (first | with_reducible assumption | with_reducible apply within_ite | with_reducible apply within_ite_snd | with_reducible apply loadMem_within | with_reducible apply ctlRead_within | with_reducible apply landValue_within | with_reducible apply settle_within | with_reducible apply modThr_within | (with_reducible apply within_foldl <;> [skip; intro _ _ _]) | split | extract_lets | (apply within_eq; with_reducible assumption) | dsimp -zeta only | ((with_reducible apply within_mk) <;> first | exact .inl Has.has | exact .inr rfl | skip))))

theorem storeMem_within {F : Part → Prop} [Has F .regs] [Has F .mem] [Has F .poison] [Has F .threads] [Has F .krs] {s0 : State} (s : State) (t : Nat) (e : SbEntry) (parity : Bool) (hk : Within F s0 s) : Within F s0 (storeMem s t e parity) := by
  unfold storeMem
  iterate 60 (try (any_goals (first | with_reducible assumption | with_reducible apply within_ite | with_reducible apply within_ite_snd | with_reducible apply countDown_within | with_reducible apply cacheStore_within | with_reducible apply storePieces_within | (with_reducible apply within_foldl <;> [skip; intro _ _ _]) | split | extract_lets | (apply within_eq; with_reducible assumption) | dsimp -zeta only | ((with_reducible apply within_mk) <;> first | exact .inl Has.has | exact .inr rfl | skip))))

theorem storeCtl_within {F : Part → Prop} [Has F .free] [Has F .now] [Has F .tally] [Has F .regs] [Has F .mem] [Has F .poison] [Has F .threads] [Has F .cyls] [Has F .krs] [Has F .engs] [Has F .dmaTlb] [Has F .inval] [Has F .ks] [Has F .guard] [Has F .dma] [Has F .dmaLast] [Has F .intake] [Has F .kc] [Has F .kcPrev] [Has F .turns] [Has F .srcs] [Has F .arbs] [Has F .doms] [Has F .xq] [Has F .westad] [Has F .dbg] [Has F .supply] [Has F .keeper] [Has F .audit] [Has F .faults] [Has F .fuses] [Has F .boot] [Has F .req] [Has F .pins] [Has F .seeded] [Has F .trngBad] [Has F .ptpGood] [Has F .dramKeys] [Has F .dramLost] [Has F .linkPower] [Has F .out] {s0 : State} (s : State) (t a : Nat) (e : SbEntry) (parity : Bool) (hk : Within F s0 s) : Within F s0 (storeCtl s t a e parity) := by
  unfold storeCtl
  iterate 60 (try (any_goals (first | with_reducible assumption | with_reducible apply within_ite | with_reducible apply within_ite_snd | with_reducible apply ctlWrite_within | with_reducible apply freeWord_within | (with_reducible apply within_foldl <;> [skip; intro _ _ _]) | split | extract_lets | (apply within_eq; with_reducible assumption) | dsimp -zeta only | ((with_reducible apply within_mk) <;> first | exact .inl Has.has | exact .inr rfl | skip))))

theorem storeLeaves_within {F : Part → Prop} [Has F .free] [Has F .now] [Has F .tally] [Has F .regs] [Has F .mem] [Has F .poison] [Has F .threads] [Has F .cyls] [Has F .krs] [Has F .engs] [Has F .dmaTlb] [Has F .inval] [Has F .ks] [Has F .guard] [Has F .dma] [Has F .dmaLast] [Has F .intake] [Has F .kc] [Has F .kcPrev] [Has F .turns] [Has F .srcs] [Has F .arbs] [Has F .doms] [Has F .xq] [Has F .westad] [Has F .dbg] [Has F .supply] [Has F .keeper] [Has F .audit] [Has F .faults] [Has F .fuses] [Has F .boot] [Has F .req] [Has F .pins] [Has F .seeded] [Has F .trngBad] [Has F .ptpGood] [Has F .dramKeys] [Has F .dramLost] [Has F .linkPower] [Has F .out] {s0 : State} (s : State) (t : Nat) (parity : Bool) (hk : Within F s0 s) : Within F s0 (storeLeaves s t parity) := by
  unfold storeLeaves
  iterate 60 (try (any_goals (first | with_reducible assumption | with_reducible apply within_ite | with_reducible apply within_ite_snd | with_reducible apply storeCtl_within | with_reducible apply storeMem_within | with_reducible apply settle_within | with_reducible apply report_within | with_reducible apply putThr_within | (with_reducible apply within_foldl <;> [skip; intro _ _ _]) | split | extract_lets | (apply within_eq; with_reducible assumption) | dsimp -zeta only | ((with_reducible apply within_mk) <;> first | exact .inl Has.has | exact .inr rfl | skip))))

theorem execLoadDataLand_within {F : Part → Prop} [Has F .rdata] [Has F .regs] [Has F .poison] [Has F .threads] [Has F .cyls] [Has F .krs] [Has F .engs] [Has F .srcs] [Has F .doms] [Has F .audit] [Has F .faults] (t : Fin 2048) (ecc : EccOutcome) (s : State) : GoesIn F s (execLoadDataLand t ecc s) :=
  ⟨_, rfl, loadLands_within _ _ _ (Within.refl s)⟩

theorem execStoreLeavesBuffer_within {F : Part → Prop} [Has F .free] [Has F .now] [Has F .tally] [Has F .regs] [Has F .mem] [Has F .poison] [Has F .threads] [Has F .cyls] [Has F .krs] [Has F .engs] [Has F .dmaTlb] [Has F .inval] [Has F .ks] [Has F .guard] [Has F .dma] [Has F .dmaLast] [Has F .intake] [Has F .kc] [Has F .kcPrev] [Has F .turns] [Has F .srcs] [Has F .arbs] [Has F .doms] [Has F .xq] [Has F .westad] [Has F .dbg] [Has F .supply] [Has F .keeper] [Has F .audit] [Has F .faults] [Has F .fuses] [Has F .boot] [Has F .req] [Has F .pins] [Has F .seeded] [Has F .trngBad] [Has F .ptpGood] [Has F .dramKeys] [Has F .dramLost] [Has F .linkPower] [Has F .out] (t : Fin 2048) (parityError : Bool) (s : State) : GoesIn F s (execStoreLeavesBuffer t parityError s) :=
  ⟨_, rfl, storeLeaves_within _ _ _ (Within.refl s)⟩

end Sys2Proof.Machine
end

