-- ==== Sys2Proof/Laws/StepWithin.lean ====
section
/-! SUPPORT. Every command leaves the parts of the state that `mayChange` does not name as they are. -/

namespace Sys2Proof.Machine

/-- A part that a list names. -/
theorem has_mem {l : List Part} {p : Part} (h : p ∈ l) : Has (· ∈ l) p := ⟨h⟩

/-- Every part of this list is one that the list names. -/
theorem parts1_has {P : Prop} (h :
    Has (· ∈ (parts1 : List Part)) .threads →
    Has (· ∈ (parts1 : List Part)) .cyls →
    Has (· ∈ (parts1 : List Part)) .krs →
    Has (· ∈ (parts1 : List Part)) .engs →
    Has (· ∈ (parts1 : List Part)) .intake →
    Has (· ∈ (parts1 : List Part)) .srcs →
    Has (· ∈ (parts1 : List Part)) .arbs →
    Has (· ∈ (parts1 : List Part)) .pins →
    Has (· ∈ (parts1 : List Part)) .out → P) : P :=
  h ⟨by decide⟩ ⟨by decide⟩ ⟨by decide⟩ ⟨by decide⟩ ⟨by decide⟩ ⟨by decide⟩ ⟨by decide⟩ ⟨by decide⟩ ⟨by decide⟩

/-- Every part of this list is one that the list names. -/
theorem parts2_has {P : Prop} (h :
    Has (· ∈ (parts2 : List Part)) .regs →
    Has (· ∈ (parts2 : List Part)) .threads →
    Has (· ∈ (parts2 : List Part)) .cyls →
    Has (· ∈ (parts2 : List Part)) .engs →
    Has (· ∈ (parts2 : List Part)) .doms →
    Has (· ∈ (parts2 : List Part)) .faults → P) : P :=
  h ⟨by decide⟩ ⟨by decide⟩ ⟨by decide⟩ ⟨by decide⟩ ⟨by decide⟩ ⟨by decide⟩

/-- Every part of this list is one that the list names. -/
theorem own2_has {P : Prop} (h :
    Has (· ∈ ([.threads] : List Part)) .threads → P) : P :=
  h ⟨by decide⟩

/-- Every part of this list is one that the list names. -/
theorem own3_has {P : Prop} (h :
    Has (· ∈ ([.threads, .cyls, .krs] : List Part)) .threads →
    Has (· ∈ ([.threads, .cyls, .krs] : List Part)) .cyls →
    Has (· ∈ ([.threads, .cyls, .krs] : List Part)) .krs → P) : P :=
  h ⟨by decide⟩ ⟨by decide⟩ ⟨by decide⟩

/-- Every part of this list is one that the list names. -/
theorem own4_has {P : Prop} (h :
    Has (· ∈ ([.threads, .cyls, .krs, .engs, .doms, .faults] : List Part)) .threads →
    Has (· ∈ ([.threads, .cyls, .krs, .engs, .doms, .faults] : List Part)) .cyls →
    Has (· ∈ ([.threads, .cyls, .krs, .engs, .doms, .faults] : List Part)) .krs →
    Has (· ∈ ([.threads, .cyls, .krs, .engs, .doms, .faults] : List Part)) .engs →
    Has (· ∈ ([.threads, .cyls, .krs, .engs, .doms, .faults] : List Part)) .doms →
    Has (· ∈ ([.threads, .cyls, .krs, .engs, .doms, .faults] : List Part)) .faults → P) : P :=
  h ⟨by decide⟩ ⟨by decide⟩ ⟨by decide⟩ ⟨by decide⟩ ⟨by decide⟩ ⟨by decide⟩

/-- Every part of this list is one that the list names. -/
theorem own5_has {P : Prop} (h :
    Has (· ∈ ([.mem, .poison, .threads, .krs] : List Part)) .mem →
    Has (· ∈ ([.mem, .poison, .threads, .krs] : List Part)) .poison →
    Has (· ∈ ([.mem, .poison, .threads, .krs] : List Part)) .threads →
    Has (· ∈ ([.mem, .poison, .threads, .krs] : List Part)) .krs → P) : P :=
  h ⟨by decide⟩ ⟨by decide⟩ ⟨by decide⟩ ⟨by decide⟩

/-- Every part of this list is one that the list names. -/
theorem own6_has {P : Prop} (h :
    Has (· ∈ ([.rdata, .regs, .poison, .threads, .cyls, .krs, .engs, .srcs, .doms, .audit, .faults] : List Part)) .rdata →
    Has (· ∈ ([.rdata, .regs, .poison, .threads, .cyls, .krs, .engs, .srcs, .doms, .audit, .faults] : List Part)) .regs →
    Has (· ∈ ([.rdata, .regs, .poison, .threads, .cyls, .krs, .engs, .srcs, .doms, .audit, .faults] : List Part)) .poison →
    Has (· ∈ ([.rdata, .regs, .poison, .threads, .cyls, .krs, .engs, .srcs, .doms, .audit, .faults] : List Part)) .threads →
    Has (· ∈ ([.rdata, .regs, .poison, .threads, .cyls, .krs, .engs, .srcs, .doms, .audit, .faults] : List Part)) .cyls →
    Has (· ∈ ([.rdata, .regs, .poison, .threads, .cyls, .krs, .engs, .srcs, .doms, .audit, .faults] : List Part)) .krs →
    Has (· ∈ ([.rdata, .regs, .poison, .threads, .cyls, .krs, .engs, .srcs, .doms, .audit, .faults] : List Part)) .engs →
    Has (· ∈ ([.rdata, .regs, .poison, .threads, .cyls, .krs, .engs, .srcs, .doms, .audit, .faults] : List Part)) .srcs →
    Has (· ∈ ([.rdata, .regs, .poison, .threads, .cyls, .krs, .engs, .srcs, .doms, .audit, .faults] : List Part)) .doms →
    Has (· ∈ ([.rdata, .regs, .poison, .threads, .cyls, .krs, .engs, .srcs, .doms, .audit, .faults] : List Part)) .audit →
    Has (· ∈ ([.rdata, .regs, .poison, .threads, .cyls, .krs, .engs, .srcs, .doms, .audit, .faults] : List Part)) .faults → P) : P :=
  h ⟨by decide⟩ ⟨by decide⟩ ⟨by decide⟩ ⟨by decide⟩ ⟨by decide⟩ ⟨by decide⟩ ⟨by decide⟩ ⟨by decide⟩ ⟨by decide⟩ ⟨by decide⟩ ⟨by decide⟩

/-- Every part of this list is one that the list names. -/
theorem parts3_has {P : Prop} (h :
    Has (· ∈ (parts3 : List Part)) .free →
    Has (· ∈ (parts3 : List Part)) .now →
    Has (· ∈ (parts3 : List Part)) .tally →
    Has (· ∈ (parts3 : List Part)) .regs →
    Has (· ∈ (parts3 : List Part)) .mem →
    Has (· ∈ (parts3 : List Part)) .poison →
    Has (· ∈ (parts3 : List Part)) .threads →
    Has (· ∈ (parts3 : List Part)) .cyls →
    Has (· ∈ (parts3 : List Part)) .krs →
    Has (· ∈ (parts3 : List Part)) .engs →
    Has (· ∈ (parts3 : List Part)) .dmaTlb →
    Has (· ∈ (parts3 : List Part)) .inval →
    Has (· ∈ (parts3 : List Part)) .ks →
    Has (· ∈ (parts3 : List Part)) .guard →
    Has (· ∈ (parts3 : List Part)) .dma →
    Has (· ∈ (parts3 : List Part)) .dmaLast →
    Has (· ∈ (parts3 : List Part)) .intake →
    Has (· ∈ (parts3 : List Part)) .kc →
    Has (· ∈ (parts3 : List Part)) .kcPrev →
    Has (· ∈ (parts3 : List Part)) .turns →
    Has (· ∈ (parts3 : List Part)) .srcs →
    Has (· ∈ (parts3 : List Part)) .arbs →
    Has (· ∈ (parts3 : List Part)) .doms →
    Has (· ∈ (parts3 : List Part)) .xq →
    Has (· ∈ (parts3 : List Part)) .westad →
    Has (· ∈ (parts3 : List Part)) .dbg →
    Has (· ∈ (parts3 : List Part)) .supply →
    Has (· ∈ (parts3 : List Part)) .keeper →
    Has (· ∈ (parts3 : List Part)) .audit →
    Has (· ∈ (parts3 : List Part)) .faults →
    Has (· ∈ (parts3 : List Part)) .fuses →
    Has (· ∈ (parts3 : List Part)) .boot →
    Has (· ∈ (parts3 : List Part)) .req →
    Has (· ∈ (parts3 : List Part)) .pins →
    Has (· ∈ (parts3 : List Part)) .seeded →
    Has (· ∈ (parts3 : List Part)) .trngBad →
    Has (· ∈ (parts3 : List Part)) .ptpGood →
    Has (· ∈ (parts3 : List Part)) .dramKeys →
    Has (· ∈ (parts3 : List Part)) .dramLost →
    Has (· ∈ (parts3 : List Part)) .linkPower →
    Has (· ∈ (parts3 : List Part)) .out → P) : P :=
  h ⟨by decide⟩ ⟨by decide⟩ ⟨by decide⟩ ⟨by decide⟩ ⟨by decide⟩ ⟨by decide⟩ ⟨by decide⟩ ⟨by decide⟩ ⟨by decide⟩ ⟨by decide⟩ ⟨by decide⟩ ⟨by decide⟩ ⟨by decide⟩ ⟨by decide⟩ ⟨by decide⟩ ⟨by decide⟩ ⟨by decide⟩ ⟨by decide⟩ ⟨by decide⟩ ⟨by decide⟩ ⟨by decide⟩ ⟨by decide⟩ ⟨by decide⟩ ⟨by decide⟩ ⟨by decide⟩ ⟨by decide⟩ ⟨by decide⟩ ⟨by decide⟩ ⟨by decide⟩ ⟨by decide⟩ ⟨by decide⟩ ⟨by decide⟩ ⟨by decide⟩ ⟨by decide⟩ ⟨by decide⟩ ⟨by decide⟩ ⟨by decide⟩ ⟨by decide⟩ ⟨by decide⟩ ⟨by decide⟩ ⟨by decide⟩

/-- Every part of this list is one that the list names. -/
theorem own8_has {P : Prop} (h :
    Has (· ∈ ([.threads, .krs] : List Part)) .threads →
    Has (· ∈ ([.threads, .krs] : List Part)) .krs → P) : P :=
  h ⟨by decide⟩ ⟨by decide⟩

/-- Every part of this list is one that the list names. -/
theorem parts4_has {P : Prop} (h :
    Has (· ∈ (parts4 : List Part)) .regs →
    Has (· ∈ (parts4 : List Part)) .mem →
    Has (· ∈ (parts4 : List Part)) .poison →
    Has (· ∈ (parts4 : List Part)) .threads →
    Has (· ∈ (parts4 : List Part)) .cyls →
    Has (· ∈ (parts4 : List Part)) .engs →
    Has (· ∈ (parts4 : List Part)) .ks →
    Has (· ∈ (parts4 : List Part)) .guard →
    Has (· ∈ (parts4 : List Part)) .srcs →
    Has (· ∈ (parts4 : List Part)) .arbs →
    Has (· ∈ (parts4 : List Part)) .doms →
    Has (· ∈ (parts4 : List Part)) .westad →
    Has (· ∈ (parts4 : List Part)) .audit →
    Has (· ∈ (parts4 : List Part)) .faults →
    Has (· ∈ (parts4 : List Part)) .out → P) : P :=
  h ⟨by decide⟩ ⟨by decide⟩ ⟨by decide⟩ ⟨by decide⟩ ⟨by decide⟩ ⟨by decide⟩ ⟨by decide⟩ ⟨by decide⟩ ⟨by decide⟩ ⟨by decide⟩ ⟨by decide⟩ ⟨by decide⟩ ⟨by decide⟩ ⟨by decide⟩ ⟨by decide⟩

/-- Every part of this list is one that the list names. -/
theorem parts5_has {P : Prop} (h :
    Has (· ∈ (parts5 : List Part)) .free →
    Has (· ∈ (parts5 : List Part)) .regs →
    Has (· ∈ (parts5 : List Part)) .mem →
    Has (· ∈ (parts5 : List Part)) .poison →
    Has (· ∈ (parts5 : List Part)) .threads →
    Has (· ∈ (parts5 : List Part)) .cyls →
    Has (· ∈ (parts5 : List Part)) .engs →
    Has (· ∈ (parts5 : List Part)) .ks →
    Has (· ∈ (parts5 : List Part)) .guard →
    Has (· ∈ (parts5 : List Part)) .intake →
    Has (· ∈ (parts5 : List Part)) .turns →
    Has (· ∈ (parts5 : List Part)) .srcs →
    Has (· ∈ (parts5 : List Part)) .arbs →
    Has (· ∈ (parts5 : List Part)) .doms →
    Has (· ∈ (parts5 : List Part)) .xq →
    Has (· ∈ (parts5 : List Part)) .westad →
    Has (· ∈ (parts5 : List Part)) .dbg →
    Has (· ∈ (parts5 : List Part)) .audit →
    Has (· ∈ (parts5 : List Part)) .faults →
    Has (· ∈ (parts5 : List Part)) .boot →
    Has (· ∈ (parts5 : List Part)) .req →
    Has (· ∈ (parts5 : List Part)) .pins →
    Has (· ∈ (parts5 : List Part)) .out → P) : P :=
  h ⟨by decide⟩ ⟨by decide⟩ ⟨by decide⟩ ⟨by decide⟩ ⟨by decide⟩ ⟨by decide⟩ ⟨by decide⟩ ⟨by decide⟩ ⟨by decide⟩ ⟨by decide⟩ ⟨by decide⟩ ⟨by decide⟩ ⟨by decide⟩ ⟨by decide⟩ ⟨by decide⟩ ⟨by decide⟩ ⟨by decide⟩ ⟨by decide⟩ ⟨by decide⟩ ⟨by decide⟩ ⟨by decide⟩ ⟨by decide⟩ ⟨by decide⟩

/-- Every part of this list is one that the list names. -/
theorem parts6_has {P : Prop} (h :
    Has (· ∈ (parts6 : List Part)) .free →
    Has (· ∈ (parts6 : List Part)) .regs →
    Has (· ∈ (parts6 : List Part)) .mem →
    Has (· ∈ (parts6 : List Part)) .poison →
    Has (· ∈ (parts6 : List Part)) .threads →
    Has (· ∈ (parts6 : List Part)) .cyls →
    Has (· ∈ (parts6 : List Part)) .krs →
    Has (· ∈ (parts6 : List Part)) .engs →
    Has (· ∈ (parts6 : List Part)) .ks →
    Has (· ∈ (parts6 : List Part)) .guard →
    Has (· ∈ (parts6 : List Part)) .intake →
    Has (· ∈ (parts6 : List Part)) .turns →
    Has (· ∈ (parts6 : List Part)) .srcs →
    Has (· ∈ (parts6 : List Part)) .arbs →
    Has (· ∈ (parts6 : List Part)) .doms →
    Has (· ∈ (parts6 : List Part)) .xq →
    Has (· ∈ (parts6 : List Part)) .westad →
    Has (· ∈ (parts6 : List Part)) .dbg →
    Has (· ∈ (parts6 : List Part)) .audit →
    Has (· ∈ (parts6 : List Part)) .faults →
    Has (· ∈ (parts6 : List Part)) .boot →
    Has (· ∈ (parts6 : List Part)) .req →
    Has (· ∈ (parts6 : List Part)) .pins →
    Has (· ∈ (parts6 : List Part)) .out → P) : P :=
  h ⟨by decide⟩ ⟨by decide⟩ ⟨by decide⟩ ⟨by decide⟩ ⟨by decide⟩ ⟨by decide⟩ ⟨by decide⟩ ⟨by decide⟩ ⟨by decide⟩ ⟨by decide⟩ ⟨by decide⟩ ⟨by decide⟩ ⟨by decide⟩ ⟨by decide⟩ ⟨by decide⟩ ⟨by decide⟩ ⟨by decide⟩ ⟨by decide⟩ ⟨by decide⟩ ⟨by decide⟩ ⟨by decide⟩ ⟨by decide⟩ ⟨by decide⟩ ⟨by decide⟩

/-- Every part of this list is one that the list names. -/
theorem own12_has {P : Prop} (h :
    Has (· ∈ ([.krs] : List Part)) .krs → P) : P :=
  h ⟨by decide⟩

/-- Every part of this list is one that the list names. -/
theorem own13_has {P : Prop} (h :
    Has (· ∈ ([.ks] : List Part)) .ks → P) : P :=
  h ⟨by decide⟩

/-- Every part of this list is one that the list names. -/
theorem own14_has {P : Prop} (h :
    Has (· ∈ ([.regs, .ks, .arbs, .westad, .audit, .out] : List Part)) .regs →
    Has (· ∈ ([.regs, .ks, .arbs, .westad, .audit, .out] : List Part)) .ks →
    Has (· ∈ ([.regs, .ks, .arbs, .westad, .audit, .out] : List Part)) .arbs →
    Has (· ∈ ([.regs, .ks, .arbs, .westad, .audit, .out] : List Part)) .westad →
    Has (· ∈ ([.regs, .ks, .arbs, .westad, .audit, .out] : List Part)) .audit →
    Has (· ∈ ([.regs, .ks, .arbs, .westad, .audit, .out] : List Part)) .out → P) : P :=
  h ⟨by decide⟩ ⟨by decide⟩ ⟨by decide⟩ ⟨by decide⟩ ⟨by decide⟩ ⟨by decide⟩

/-- Every part of this list is one that the list names. -/
theorem parts7_has {P : Prop} (h :
    Has (· ∈ (parts7 : List Part)) .threads →
    Has (· ∈ (parts7 : List Part)) .cyls →
    Has (· ∈ (parts7 : List Part)) .engs →
    Has (· ∈ (parts7 : List Part)) .doms →
    Has (· ∈ (parts7 : List Part)) .faults → P) : P :=
  h ⟨by decide⟩ ⟨by decide⟩ ⟨by decide⟩ ⟨by decide⟩ ⟨by decide⟩

/-- Every part of this list is one that the list names. -/
theorem parts8_has {P : Prop} (h :
    Has (· ∈ (parts8 : List Part)) .regs →
    Has (· ∈ (parts8 : List Part)) .mem →
    Has (· ∈ (parts8 : List Part)) .poison →
    Has (· ∈ (parts8 : List Part)) .threads →
    Has (· ∈ (parts8 : List Part)) .krs →
    Has (· ∈ (parts8 : List Part)) .dmaTlb →
    Has (· ∈ (parts8 : List Part)) .dma →
    Has (· ∈ (parts8 : List Part)) .srcs → P) : P :=
  h ⟨by decide⟩ ⟨by decide⟩ ⟨by decide⟩ ⟨by decide⟩ ⟨by decide⟩ ⟨by decide⟩ ⟨by decide⟩ ⟨by decide⟩

/-- Every part of this list is one that the list names. -/
theorem own17_has {P : Prop} (h :
    Has (· ∈ ([.mem, .poison, .threads, .dma] : List Part)) .mem →
    Has (· ∈ ([.mem, .poison, .threads, .dma] : List Part)) .poison →
    Has (· ∈ ([.mem, .poison, .threads, .dma] : List Part)) .threads →
    Has (· ∈ ([.mem, .poison, .threads, .dma] : List Part)) .dma → P) : P :=
  h ⟨by decide⟩ ⟨by decide⟩ ⟨by decide⟩ ⟨by decide⟩

/-- Every part of this list is one that the list names. -/
theorem own18_has {P : Prop} (h :
    Has (· ∈ ([.regs, .mem, .poison, .threads, .krs, .dmaTlb, .dma, .dmaLast, .srcs] : List Part)) .regs →
    Has (· ∈ ([.regs, .mem, .poison, .threads, .krs, .dmaTlb, .dma, .dmaLast, .srcs] : List Part)) .mem →
    Has (· ∈ ([.regs, .mem, .poison, .threads, .krs, .dmaTlb, .dma, .dmaLast, .srcs] : List Part)) .poison →
    Has (· ∈ ([.regs, .mem, .poison, .threads, .krs, .dmaTlb, .dma, .dmaLast, .srcs] : List Part)) .threads →
    Has (· ∈ ([.regs, .mem, .poison, .threads, .krs, .dmaTlb, .dma, .dmaLast, .srcs] : List Part)) .krs →
    Has (· ∈ ([.regs, .mem, .poison, .threads, .krs, .dmaTlb, .dma, .dmaLast, .srcs] : List Part)) .dmaTlb →
    Has (· ∈ ([.regs, .mem, .poison, .threads, .krs, .dmaTlb, .dma, .dmaLast, .srcs] : List Part)) .dma →
    Has (· ∈ ([.regs, .mem, .poison, .threads, .krs, .dmaTlb, .dma, .dmaLast, .srcs] : List Part)) .dmaLast →
    Has (· ∈ ([.regs, .mem, .poison, .threads, .krs, .dmaTlb, .dma, .dmaLast, .srcs] : List Part)) .srcs → P) : P :=
  h ⟨by decide⟩ ⟨by decide⟩ ⟨by decide⟩ ⟨by decide⟩ ⟨by decide⟩ ⟨by decide⟩ ⟨by decide⟩ ⟨by decide⟩ ⟨by decide⟩

/-- Every part of this list is one that the list names. -/
theorem own19_has {P : Prop} (h :
    Has (· ∈ ([.inval] : List Part)) .inval → P) : P :=
  h ⟨by decide⟩

/-- Every part of this list is one that the list names. -/
theorem own20_has {P : Prop} (h :
    Has (· ∈ ([.threads, .cyls, .krs, .dmaTlb, .inval] : List Part)) .threads →
    Has (· ∈ ([.threads, .cyls, .krs, .dmaTlb, .inval] : List Part)) .cyls →
    Has (· ∈ ([.threads, .cyls, .krs, .dmaTlb, .inval] : List Part)) .krs →
    Has (· ∈ ([.threads, .cyls, .krs, .dmaTlb, .inval] : List Part)) .dmaTlb →
    Has (· ∈ ([.threads, .cyls, .krs, .dmaTlb, .inval] : List Part)) .inval → P) : P :=
  h ⟨by decide⟩ ⟨by decide⟩ ⟨by decide⟩ ⟨by decide⟩ ⟨by decide⟩

/-- Every part of this list is one that the list names. -/
theorem own21_has {P : Prop} (h :
    Has (· ∈ ([.regs, .inval] : List Part)) .regs →
    Has (· ∈ ([.regs, .inval] : List Part)) .inval → P) : P :=
  h ⟨by decide⟩ ⟨by decide⟩

/-- Every part of this list is one that the list names. -/
theorem parts9_has {P : Prop} (h :
    Has (· ∈ (parts9 : List Part)) .free →
    Has (· ∈ (parts9 : List Part)) .regs →
    Has (· ∈ (parts9 : List Part)) .threads →
    Has (· ∈ (parts9 : List Part)) .intake →
    Has (· ∈ (parts9 : List Part)) .supply →
    Has (· ∈ (parts9 : List Part)) .pins →
    Has (· ∈ (parts9 : List Part)) .out → P) : P :=
  h ⟨by decide⟩ ⟨by decide⟩ ⟨by decide⟩ ⟨by decide⟩ ⟨by decide⟩ ⟨by decide⟩ ⟨by decide⟩

/-- Every part of this list is one that the list names. -/
theorem own23_has {P : Prop} (h :
    Has (· ∈ ([.regs, .threads, .cyls, .engs, .intake, .doms, .faults, .pins, .out] : List Part)) .regs →
    Has (· ∈ ([.regs, .threads, .cyls, .engs, .intake, .doms, .faults, .pins, .out] : List Part)) .threads →
    Has (· ∈ ([.regs, .threads, .cyls, .engs, .intake, .doms, .faults, .pins, .out] : List Part)) .cyls →
    Has (· ∈ ([.regs, .threads, .cyls, .engs, .intake, .doms, .faults, .pins, .out] : List Part)) .engs →
    Has (· ∈ ([.regs, .threads, .cyls, .engs, .intake, .doms, .faults, .pins, .out] : List Part)) .intake →
    Has (· ∈ ([.regs, .threads, .cyls, .engs, .intake, .doms, .faults, .pins, .out] : List Part)) .doms →
    Has (· ∈ ([.regs, .threads, .cyls, .engs, .intake, .doms, .faults, .pins, .out] : List Part)) .faults →
    Has (· ∈ ([.regs, .threads, .cyls, .engs, .intake, .doms, .faults, .pins, .out] : List Part)) .pins →
    Has (· ∈ ([.regs, .threads, .cyls, .engs, .intake, .doms, .faults, .pins, .out] : List Part)) .out → P) : P :=
  h ⟨by decide⟩ ⟨by decide⟩ ⟨by decide⟩ ⟨by decide⟩ ⟨by decide⟩ ⟨by decide⟩ ⟨by decide⟩ ⟨by decide⟩ ⟨by decide⟩

/-- Every part of this list is one that the list names. -/
theorem parts10_has {P : Prop} (h :
    Has (· ∈ (parts10 : List Part)) .regs →
    Has (· ∈ (parts10 : List Part)) .threads →
    Has (· ∈ (parts10 : List Part)) .intake →
    Has (· ∈ (parts10 : List Part)) .pins →
    Has (· ∈ (parts10 : List Part)) .out → P) : P :=
  h ⟨by decide⟩ ⟨by decide⟩ ⟨by decide⟩ ⟨by decide⟩ ⟨by decide⟩

/-- Every part of this list is one that the list names. -/
theorem parts11_has {P : Prop} (h :
    Has (· ∈ (parts11 : List Part)) .regs →
    Has (· ∈ (parts11 : List Part)) .mem →
    Has (· ∈ (parts11 : List Part)) .poison →
    Has (· ∈ (parts11 : List Part)) .threads →
    Has (· ∈ (parts11 : List Part)) .cyls →
    Has (· ∈ (parts11 : List Part)) .krs →
    Has (· ∈ (parts11 : List Part)) .engs →
    Has (· ∈ (parts11 : List Part)) .intake →
    Has (· ∈ (parts11 : List Part)) .doms →
    Has (· ∈ (parts11 : List Part)) .faults →
    Has (· ∈ (parts11 : List Part)) .pins →
    Has (· ∈ (parts11 : List Part)) .out → P) : P :=
  h ⟨by decide⟩ ⟨by decide⟩ ⟨by decide⟩ ⟨by decide⟩ ⟨by decide⟩ ⟨by decide⟩ ⟨by decide⟩ ⟨by decide⟩ ⟨by decide⟩ ⟨by decide⟩ ⟨by decide⟩ ⟨by decide⟩

/-- Every part of this list is one that the list names. -/
theorem own26_has {P : Prop} (h :
    Has (· ∈ ([.regs, .intake, .pins, .out] : List Part)) .regs →
    Has (· ∈ ([.regs, .intake, .pins, .out] : List Part)) .intake →
    Has (· ∈ ([.regs, .intake, .pins, .out] : List Part)) .pins →
    Has (· ∈ ([.regs, .intake, .pins, .out] : List Part)) .out → P) : P :=
  h ⟨by decide⟩ ⟨by decide⟩ ⟨by decide⟩ ⟨by decide⟩

/-- Every part of this list is one that the list names. -/
theorem own27_has {P : Prop} (h :
    Has (· ∈ ([.threads, .intake] : List Part)) .threads →
    Has (· ∈ ([.threads, .intake] : List Part)) .intake → P) : P :=
  h ⟨by decide⟩ ⟨by decide⟩

/-- Every part of this list is one that the list names. -/
theorem own28_has {P : Prop} (h :
    Has (· ∈ ([.regs, .threads, .cyls, .engs, .intake, .doms, .faults, .pins, .linkPower, .out] : List Part)) .regs →
    Has (· ∈ ([.regs, .threads, .cyls, .engs, .intake, .doms, .faults, .pins, .linkPower, .out] : List Part)) .threads →
    Has (· ∈ ([.regs, .threads, .cyls, .engs, .intake, .doms, .faults, .pins, .linkPower, .out] : List Part)) .cyls →
    Has (· ∈ ([.regs, .threads, .cyls, .engs, .intake, .doms, .faults, .pins, .linkPower, .out] : List Part)) .engs →
    Has (· ∈ ([.regs, .threads, .cyls, .engs, .intake, .doms, .faults, .pins, .linkPower, .out] : List Part)) .intake →
    Has (· ∈ ([.regs, .threads, .cyls, .engs, .intake, .doms, .faults, .pins, .linkPower, .out] : List Part)) .doms →
    Has (· ∈ ([.regs, .threads, .cyls, .engs, .intake, .doms, .faults, .pins, .linkPower, .out] : List Part)) .faults →
    Has (· ∈ ([.regs, .threads, .cyls, .engs, .intake, .doms, .faults, .pins, .linkPower, .out] : List Part)) .pins →
    Has (· ∈ ([.regs, .threads, .cyls, .engs, .intake, .doms, .faults, .pins, .linkPower, .out] : List Part)) .linkPower →
    Has (· ∈ ([.regs, .threads, .cyls, .engs, .intake, .doms, .faults, .pins, .linkPower, .out] : List Part)) .out → P) : P :=
  h ⟨by decide⟩ ⟨by decide⟩ ⟨by decide⟩ ⟨by decide⟩ ⟨by decide⟩ ⟨by decide⟩ ⟨by decide⟩ ⟨by decide⟩ ⟨by decide⟩ ⟨by decide⟩

/-- Every part of this list is one that the list names. -/
theorem own29_has {P : Prop} (h :
    Has (· ∈ ([.intake, .linkPower, .out] : List Part)) .intake →
    Has (· ∈ ([.intake, .linkPower, .out] : List Part)) .linkPower →
    Has (· ∈ ([.intake, .linkPower, .out] : List Part)) .out → P) : P :=
  h ⟨by decide⟩ ⟨by decide⟩ ⟨by decide⟩

/-- Every part of this list is one that the list names. -/
theorem own30_has {P : Prop} (h :
    Has (· ∈ ([.intake, .pins] : List Part)) .intake →
    Has (· ∈ ([.intake, .pins] : List Part)) .pins → P) : P :=
  h ⟨by decide⟩ ⟨by decide⟩

/-- Every part of this list is one that the list names. -/
theorem own31_has {P : Prop} (h :
    Has (· ∈ ([.threads, .cyls, .engs, .intake, .arbs, .pins, .out] : List Part)) .threads →
    Has (· ∈ ([.threads, .cyls, .engs, .intake, .arbs, .pins, .out] : List Part)) .cyls →
    Has (· ∈ ([.threads, .cyls, .engs, .intake, .arbs, .pins, .out] : List Part)) .engs →
    Has (· ∈ ([.threads, .cyls, .engs, .intake, .arbs, .pins, .out] : List Part)) .intake →
    Has (· ∈ ([.threads, .cyls, .engs, .intake, .arbs, .pins, .out] : List Part)) .arbs →
    Has (· ∈ ([.threads, .cyls, .engs, .intake, .arbs, .pins, .out] : List Part)) .pins →
    Has (· ∈ ([.threads, .cyls, .engs, .intake, .arbs, .pins, .out] : List Part)) .out → P) : P :=
  h ⟨by decide⟩ ⟨by decide⟩ ⟨by decide⟩ ⟨by decide⟩ ⟨by decide⟩ ⟨by decide⟩ ⟨by decide⟩

/-- Every part of this list is one that the list names. -/
theorem own32_has {P : Prop} (h :
    Has (· ∈ ([.regs, .xq] : List Part)) .regs →
    Has (· ∈ ([.regs, .xq] : List Part)) .xq → P) : P :=
  h ⟨by decide⟩ ⟨by decide⟩

/-- Every part of this list is one that the list names. -/
theorem own33_has {P : Prop} (h :
    Has (· ∈ ([.rdata, .xq] : List Part)) .rdata →
    Has (· ∈ ([.rdata, .xq] : List Part)) .xq → P) : P :=
  h ⟨by decide⟩ ⟨by decide⟩

/-- Every part of this list is one that the list names. -/
theorem own34_has {P : Prop} (h :
    Has (· ∈ ([.regs, .intake] : List Part)) .regs →
    Has (· ∈ ([.regs, .intake] : List Part)) .intake → P) : P :=
  h ⟨by decide⟩ ⟨by decide⟩

/-- Every part of this list is one that the list names. -/
theorem own35_has {P : Prop} (h :
    Has (· ∈ ([.regs, .mem, .poison, .threads, .cyls, .engs, .intake, .doms, .faults] : List Part)) .regs →
    Has (· ∈ ([.regs, .mem, .poison, .threads, .cyls, .engs, .intake, .doms, .faults] : List Part)) .mem →
    Has (· ∈ ([.regs, .mem, .poison, .threads, .cyls, .engs, .intake, .doms, .faults] : List Part)) .poison →
    Has (· ∈ ([.regs, .mem, .poison, .threads, .cyls, .engs, .intake, .doms, .faults] : List Part)) .threads →
    Has (· ∈ ([.regs, .mem, .poison, .threads, .cyls, .engs, .intake, .doms, .faults] : List Part)) .cyls →
    Has (· ∈ ([.regs, .mem, .poison, .threads, .cyls, .engs, .intake, .doms, .faults] : List Part)) .engs →
    Has (· ∈ ([.regs, .mem, .poison, .threads, .cyls, .engs, .intake, .doms, .faults] : List Part)) .intake →
    Has (· ∈ ([.regs, .mem, .poison, .threads, .cyls, .engs, .intake, .doms, .faults] : List Part)) .doms →
    Has (· ∈ ([.regs, .mem, .poison, .threads, .cyls, .engs, .intake, .doms, .faults] : List Part)) .faults → P) : P :=
  h ⟨by decide⟩ ⟨by decide⟩ ⟨by decide⟩ ⟨by decide⟩ ⟨by decide⟩ ⟨by decide⟩ ⟨by decide⟩ ⟨by decide⟩ ⟨by decide⟩

/-- Every part of this list is one that the list names. -/
theorem own36_has {P : Prop} (h :
    Has (· ∈ ([.regs] : List Part)) .regs → P) : P :=
  h ⟨by decide⟩

/-- Every part of this list is one that the list names. -/
theorem own37_has {P : Prop} (h :
    Has (· ∈ ([.turns] : List Part)) .turns → P) : P :=
  h ⟨by decide⟩

/-- Every part of this list is one that the list names. -/
theorem own38_has {P : Prop} (h :
    Has (· ∈ ([.turns, .audit] : List Part)) .turns →
    Has (· ∈ ([.turns, .audit] : List Part)) .audit → P) : P :=
  h ⟨by decide⟩ ⟨by decide⟩

/-- Every part of this list is one that the list names. -/
theorem parts12_has {P : Prop} (h :
    Has (· ∈ (parts12 : List Part)) .ks →
    Has (· ∈ (parts12 : List Part)) .turns →
    Has (· ∈ (parts12 : List Part)) .arbs →
    Has (· ∈ (parts12 : List Part)) .westad →
    Has (· ∈ (parts12 : List Part)) .out → P) : P :=
  h ⟨by decide⟩ ⟨by decide⟩ ⟨by decide⟩ ⟨by decide⟩ ⟨by decide⟩

/-- Every part of this list is one that the list names. -/
theorem own40_has {P : Prop} (h :
    Has (· ∈ ([.ks, .turns, .audit, .faults] : List Part)) .ks →
    Has (· ∈ ([.ks, .turns, .audit, .faults] : List Part)) .turns →
    Has (· ∈ ([.ks, .turns, .audit, .faults] : List Part)) .audit →
    Has (· ∈ ([.ks, .turns, .audit, .faults] : List Part)) .faults → P) : P :=
  h ⟨by decide⟩ ⟨by decide⟩ ⟨by decide⟩ ⟨by decide⟩

/-- Every part of this list is one that the list names. -/
theorem parts13_has {P : Prop} (h :
    Has (· ∈ (parts13 : List Part)) .free →
    Has (· ∈ (parts13 : List Part)) .now →
    Has (· ∈ (parts13 : List Part)) .regs →
    Has (· ∈ (parts13 : List Part)) .mem →
    Has (· ∈ (parts13 : List Part)) .poison →
    Has (· ∈ (parts13 : List Part)) .threads →
    Has (· ∈ (parts13 : List Part)) .cyls →
    Has (· ∈ (parts13 : List Part)) .krs →
    Has (· ∈ (parts13 : List Part)) .engs →
    Has (· ∈ (parts13 : List Part)) .dmaTlb →
    Has (· ∈ (parts13 : List Part)) .inval →
    Has (· ∈ (parts13 : List Part)) .ks →
    Has (· ∈ (parts13 : List Part)) .guard →
    Has (· ∈ (parts13 : List Part)) .dma →
    Has (· ∈ (parts13 : List Part)) .dmaLast →
    Has (· ∈ (parts13 : List Part)) .intake →
    Has (· ∈ (parts13 : List Part)) .kc →
    Has (· ∈ (parts13 : List Part)) .kcPrev →
    Has (· ∈ (parts13 : List Part)) .turns →
    Has (· ∈ (parts13 : List Part)) .srcs →
    Has (· ∈ (parts13 : List Part)) .arbs →
    Has (· ∈ (parts13 : List Part)) .doms →
    Has (· ∈ (parts13 : List Part)) .xq →
    Has (· ∈ (parts13 : List Part)) .westad →
    Has (· ∈ (parts13 : List Part)) .dbg →
    Has (· ∈ (parts13 : List Part)) .supply →
    Has (· ∈ (parts13 : List Part)) .keeper →
    Has (· ∈ (parts13 : List Part)) .audit →
    Has (· ∈ (parts13 : List Part)) .faults →
    Has (· ∈ (parts13 : List Part)) .fuses →
    Has (· ∈ (parts13 : List Part)) .boot →
    Has (· ∈ (parts13 : List Part)) .req →
    Has (· ∈ (parts13 : List Part)) .pins →
    Has (· ∈ (parts13 : List Part)) .seeded →
    Has (· ∈ (parts13 : List Part)) .trngBad →
    Has (· ∈ (parts13 : List Part)) .ptpGood →
    Has (· ∈ (parts13 : List Part)) .dramKeys →
    Has (· ∈ (parts13 : List Part)) .dramLost →
    Has (· ∈ (parts13 : List Part)) .linkPower →
    Has (· ∈ (parts13 : List Part)) .out → P) : P :=
  h ⟨by decide⟩ ⟨by decide⟩ ⟨by decide⟩ ⟨by decide⟩ ⟨by decide⟩ ⟨by decide⟩ ⟨by decide⟩ ⟨by decide⟩ ⟨by decide⟩ ⟨by decide⟩ ⟨by decide⟩ ⟨by decide⟩ ⟨by decide⟩ ⟨by decide⟩ ⟨by decide⟩ ⟨by decide⟩ ⟨by decide⟩ ⟨by decide⟩ ⟨by decide⟩ ⟨by decide⟩ ⟨by decide⟩ ⟨by decide⟩ ⟨by decide⟩ ⟨by decide⟩ ⟨by decide⟩ ⟨by decide⟩ ⟨by decide⟩ ⟨by decide⟩ ⟨by decide⟩ ⟨by decide⟩ ⟨by decide⟩ ⟨by decide⟩ ⟨by decide⟩ ⟨by decide⟩ ⟨by decide⟩ ⟨by decide⟩ ⟨by decide⟩ ⟨by decide⟩ ⟨by decide⟩ ⟨by decide⟩

/-- Every part of this list is one that the list names. -/
theorem parts14_has {P : Prop} (h :
    Has (· ∈ (parts14 : List Part)) .regs →
    Has (· ∈ (parts14 : List Part)) .mem →
    Has (· ∈ (parts14 : List Part)) .poison →
    Has (· ∈ (parts14 : List Part)) .threads →
    Has (· ∈ (parts14 : List Part)) .engs →
    Has (· ∈ (parts14 : List Part)) .ks →
    Has (· ∈ (parts14 : List Part)) .guard →
    Has (· ∈ (parts14 : List Part)) .intake →
    Has (· ∈ (parts14 : List Part)) .turns →
    Has (· ∈ (parts14 : List Part)) .srcs →
    Has (· ∈ (parts14 : List Part)) .arbs →
    Has (· ∈ (parts14 : List Part)) .westad →
    Has (· ∈ (parts14 : List Part)) .audit →
    Has (· ∈ (parts14 : List Part)) .pins →
    Has (· ∈ (parts14 : List Part)) .out → P) : P :=
  h ⟨by decide⟩ ⟨by decide⟩ ⟨by decide⟩ ⟨by decide⟩ ⟨by decide⟩ ⟨by decide⟩ ⟨by decide⟩ ⟨by decide⟩ ⟨by decide⟩ ⟨by decide⟩ ⟨by decide⟩ ⟨by decide⟩ ⟨by decide⟩ ⟨by decide⟩ ⟨by decide⟩

/-- Every part of this list is one that the list names. -/
theorem own43_has {P : Prop} (h :
    Has (· ∈ ([.cyls] : List Part)) .cyls → P) : P :=
  h ⟨by decide⟩

/-- Every part of this list is one that the list names. -/
theorem own44_has {P : Prop} (h :
    Has (· ∈ ([.arbs] : List Part)) .arbs → P) : P :=
  h ⟨by decide⟩

/-- Every part of this list is one that the list names. -/
theorem own45_has {P : Prop} (h :
    Has (· ∈ ([.regs, .arbs, .doms, .westad, .out] : List Part)) .regs →
    Has (· ∈ ([.regs, .arbs, .doms, .westad, .out] : List Part)) .arbs →
    Has (· ∈ ([.regs, .arbs, .doms, .westad, .out] : List Part)) .doms →
    Has (· ∈ ([.regs, .arbs, .doms, .westad, .out] : List Part)) .westad →
    Has (· ∈ ([.regs, .arbs, .doms, .westad, .out] : List Part)) .out → P) : P :=
  h ⟨by decide⟩ ⟨by decide⟩ ⟨by decide⟩ ⟨by decide⟩ ⟨by decide⟩

/-- Every part of this list is one that the list names. -/
theorem parts15_has {P : Prop} (h :
    Has (· ∈ (parts15 : List Part)) .regs →
    Has (· ∈ (parts15 : List Part)) .threads →
    Has (· ∈ (parts15 : List Part)) .cyls →
    Has (· ∈ (parts15 : List Part)) .engs →
    Has (· ∈ (parts15 : List Part)) .doms →
    Has (· ∈ (parts15 : List Part)) .xq →
    Has (· ∈ (parts15 : List Part)) .faults → P) : P :=
  h ⟨by decide⟩ ⟨by decide⟩ ⟨by decide⟩ ⟨by decide⟩ ⟨by decide⟩ ⟨by decide⟩ ⟨by decide⟩

/-- Every part of this list is one that the list names. -/
theorem own47_has {P : Prop} (h :
    Has (· ∈ ([.regs, .doms, .xq] : List Part)) .regs →
    Has (· ∈ ([.regs, .doms, .xq] : List Part)) .doms →
    Has (· ∈ ([.regs, .doms, .xq] : List Part)) .xq → P) : P :=
  h ⟨by decide⟩ ⟨by decide⟩ ⟨by decide⟩

/-- Every part of this list is one that the list names. -/
theorem own48_has {P : Prop} (h :
    Has (· ∈ ([.regs, .threads, .srcs] : List Part)) .regs →
    Has (· ∈ ([.regs, .threads, .srcs] : List Part)) .threads →
    Has (· ∈ ([.regs, .threads, .srcs] : List Part)) .srcs → P) : P :=
  h ⟨by decide⟩ ⟨by decide⟩ ⟨by decide⟩

/-- Every part of this list is one that the list names. -/
theorem own49_has {P : Prop} (h :
    Has (· ∈ ([.regs, .srcs] : List Part)) .regs →
    Has (· ∈ ([.regs, .srcs] : List Part)) .srcs → P) : P :=
  h ⟨by decide⟩ ⟨by decide⟩

/-- Every part of this list is one that the list names. -/
theorem own50_has {P : Prop} (h :
    Has (· ∈ ([.threads, .srcs] : List Part)) .threads →
    Has (· ∈ ([.threads, .srcs] : List Part)) .srcs → P) : P :=
  h ⟨by decide⟩ ⟨by decide⟩

/-- Every part of this list is one that the list names. -/
theorem parts16_has {P : Prop} (h :
    Has (· ∈ (parts16 : List Part)) .regs →
    Has (· ∈ (parts16 : List Part)) .threads →
    Has (· ∈ (parts16 : List Part)) .cyls →
    Has (· ∈ (parts16 : List Part)) .krs →
    Has (· ∈ (parts16 : List Part)) .engs →
    Has (· ∈ (parts16 : List Part)) .intake →
    Has (· ∈ (parts16 : List Part)) .srcs →
    Has (· ∈ (parts16 : List Part)) .arbs →
    Has (· ∈ (parts16 : List Part)) .pins →
    Has (· ∈ (parts16 : List Part)) .out → P) : P :=
  h ⟨by decide⟩ ⟨by decide⟩ ⟨by decide⟩ ⟨by decide⟩ ⟨by decide⟩ ⟨by decide⟩ ⟨by decide⟩ ⟨by decide⟩ ⟨by decide⟩ ⟨by decide⟩

/-- Every part of this list is one that the list names. -/
theorem own52_has {P : Prop} (h :
    Has (· ∈ ([.rdata, .threads, .srcs] : List Part)) .rdata →
    Has (· ∈ ([.rdata, .threads, .srcs] : List Part)) .threads →
    Has (· ∈ ([.rdata, .threads, .srcs] : List Part)) .srcs → P) : P :=
  h ⟨by decide⟩ ⟨by decide⟩ ⟨by decide⟩

/-- Every part of this list is one that the list names. -/
theorem own53_has {P : Prop} (h :
    Has (· ∈ ([.regs, .threads, .cyls, .krs] : List Part)) .regs →
    Has (· ∈ ([.regs, .threads, .cyls, .krs] : List Part)) .threads →
    Has (· ∈ ([.regs, .threads, .cyls, .krs] : List Part)) .cyls →
    Has (· ∈ ([.regs, .threads, .cyls, .krs] : List Part)) .krs → P) : P :=
  h ⟨by decide⟩ ⟨by decide⟩ ⟨by decide⟩ ⟨by decide⟩

/-- Every part of this list is one that the list names. -/
theorem own54_has {P : Prop} (h :
    Has (· ∈ ([.threads, .cyls, .engs] : List Part)) .threads →
    Has (· ∈ ([.threads, .cyls, .engs] : List Part)) .cyls →
    Has (· ∈ ([.threads, .cyls, .engs] : List Part)) .engs → P) : P :=
  h ⟨by decide⟩ ⟨by decide⟩ ⟨by decide⟩

/-- Every part of this list is one that the list names. -/
theorem own55_has {P : Prop} (h :
    Has (· ∈ ([.regs, .out] : List Part)) .regs →
    Has (· ∈ ([.regs, .out] : List Part)) .out → P) : P :=
  h ⟨by decide⟩ ⟨by decide⟩

/-- Every part of this list is one that the list names. -/
theorem own56_has {P : Prop} (h :
    Has (· ∈ ([.now, .regs, .ptpGood] : List Part)) .now →
    Has (· ∈ ([.now, .regs, .ptpGood] : List Part)) .regs →
    Has (· ∈ ([.now, .regs, .ptpGood] : List Part)) .ptpGood → P) : P :=
  h ⟨by decide⟩ ⟨by decide⟩ ⟨by decide⟩

/-- Every part of this list is one that the list names. -/
theorem own57_has {P : Prop} (h :
    Has (· ∈ ([.intake] : List Part)) .intake → P) : P :=
  h ⟨by decide⟩

/-- Every part of this list is one that the list names. -/
theorem parts17_has {P : Prop} (h :
    Has (· ∈ (parts17 : List Part)) .free →
    Has (· ∈ (parts17 : List Part)) .regs →
    Has (· ∈ (parts17 : List Part)) .mem →
    Has (· ∈ (parts17 : List Part)) .poison →
    Has (· ∈ (parts17 : List Part)) .threads →
    Has (· ∈ (parts17 : List Part)) .cyls →
    Has (· ∈ (parts17 : List Part)) .engs →
    Has (· ∈ (parts17 : List Part)) .ks →
    Has (· ∈ (parts17 : List Part)) .guard →
    Has (· ∈ (parts17 : List Part)) .intake →
    Has (· ∈ (parts17 : List Part)) .turns →
    Has (· ∈ (parts17 : List Part)) .srcs →
    Has (· ∈ (parts17 : List Part)) .arbs →
    Has (· ∈ (parts17 : List Part)) .doms →
    Has (· ∈ (parts17 : List Part)) .xq →
    Has (· ∈ (parts17 : List Part)) .westad →
    Has (· ∈ (parts17 : List Part)) .dbg →
    Has (· ∈ (parts17 : List Part)) .supply →
    Has (· ∈ (parts17 : List Part)) .audit →
    Has (· ∈ (parts17 : List Part)) .faults →
    Has (· ∈ (parts17 : List Part)) .boot →
    Has (· ∈ (parts17 : List Part)) .req →
    Has (· ∈ (parts17 : List Part)) .pins →
    Has (· ∈ (parts17 : List Part)) .out → P) : P :=
  h ⟨by decide⟩ ⟨by decide⟩ ⟨by decide⟩ ⟨by decide⟩ ⟨by decide⟩ ⟨by decide⟩ ⟨by decide⟩ ⟨by decide⟩ ⟨by decide⟩ ⟨by decide⟩ ⟨by decide⟩ ⟨by decide⟩ ⟨by decide⟩ ⟨by decide⟩ ⟨by decide⟩ ⟨by decide⟩ ⟨by decide⟩ ⟨by decide⟩ ⟨by decide⟩ ⟨by decide⟩ ⟨by decide⟩ ⟨by decide⟩ ⟨by decide⟩ ⟨by decide⟩

/-- Every part of this list is one that the list names. -/
theorem own59_has {P : Prop} (h :
    Has (· ∈ ([.regs, .intake, .supply] : List Part)) .regs →
    Has (· ∈ ([.regs, .intake, .supply] : List Part)) .intake →
    Has (· ∈ ([.regs, .intake, .supply] : List Part)) .supply → P) : P :=
  h ⟨by decide⟩ ⟨by decide⟩ ⟨by decide⟩

/-- Every part of this list is one that the list names. -/
theorem own60_has {P : Prop} (h :
    Has (· ∈ ([.free, .regs, .threads, .intake, .pins, .out] : List Part)) .free →
    Has (· ∈ ([.free, .regs, .threads, .intake, .pins, .out] : List Part)) .regs →
    Has (· ∈ ([.free, .regs, .threads, .intake, .pins, .out] : List Part)) .threads →
    Has (· ∈ ([.free, .regs, .threads, .intake, .pins, .out] : List Part)) .intake →
    Has (· ∈ ([.free, .regs, .threads, .intake, .pins, .out] : List Part)) .pins →
    Has (· ∈ ([.free, .regs, .threads, .intake, .pins, .out] : List Part)) .out → P) : P :=
  h ⟨by decide⟩ ⟨by decide⟩ ⟨by decide⟩ ⟨by decide⟩ ⟨by decide⟩ ⟨by decide⟩

/-- Every part of this list is one that the list names. -/
theorem own61_has {P : Prop} (h :
    Has (· ∈ ([.regs, .threads, .intake] : List Part)) .regs →
    Has (· ∈ ([.regs, .threads, .intake] : List Part)) .threads →
    Has (· ∈ ([.regs, .threads, .intake] : List Part)) .intake → P) : P :=
  h ⟨by decide⟩ ⟨by decide⟩ ⟨by decide⟩

/-- Every part of this list is one that the list names. -/
theorem own62_has {P : Prop} (h :
    Has (· ∈ ([.regs, .doms, .xq, .linkPower] : List Part)) .regs →
    Has (· ∈ ([.regs, .doms, .xq, .linkPower] : List Part)) .doms →
    Has (· ∈ ([.regs, .doms, .xq, .linkPower] : List Part)) .xq →
    Has (· ∈ ([.regs, .doms, .xq, .linkPower] : List Part)) .linkPower → P) : P :=
  h ⟨by decide⟩ ⟨by decide⟩ ⟨by decide⟩ ⟨by decide⟩

/-- Every part of this list is one that the list names. -/
theorem own63_has {P : Prop} (h :
    Has (· ∈ ([.regs, .doms, .xq, .pins, .linkPower] : List Part)) .regs →
    Has (· ∈ ([.regs, .doms, .xq, .pins, .linkPower] : List Part)) .doms →
    Has (· ∈ ([.regs, .doms, .xq, .pins, .linkPower] : List Part)) .xq →
    Has (· ∈ ([.regs, .doms, .xq, .pins, .linkPower] : List Part)) .pins →
    Has (· ∈ ([.regs, .doms, .xq, .pins, .linkPower] : List Part)) .linkPower → P) : P :=
  h ⟨by decide⟩ ⟨by decide⟩ ⟨by decide⟩ ⟨by decide⟩ ⟨by decide⟩

/-- Every part of this list is one that the list names. -/
theorem parts18_has {P : Prop} (h :
    Has (· ∈ (parts18 : List Part)) .free →
    Has (· ∈ (parts18 : List Part)) .regs →
    Has (· ∈ (parts18 : List Part)) .arbs →
    Has (· ∈ (parts18 : List Part)) .doms →
    Has (· ∈ (parts18 : List Part)) .xq →
    Has (· ∈ (parts18 : List Part)) .westad →
    Has (· ∈ (parts18 : List Part)) .out → P) : P :=
  h ⟨by decide⟩ ⟨by decide⟩ ⟨by decide⟩ ⟨by decide⟩ ⟨by decide⟩ ⟨by decide⟩ ⟨by decide⟩

/-- Every part of this list is one that the list names. -/
theorem own65_has {P : Prop} (h :
    Has (· ∈ ([.free, .regs, .threads, .cyls, .engs, .arbs, .doms, .xq, .westad, .faults, .out] : List Part)) .free →
    Has (· ∈ ([.free, .regs, .threads, .cyls, .engs, .arbs, .doms, .xq, .westad, .faults, .out] : List Part)) .regs →
    Has (· ∈ ([.free, .regs, .threads, .cyls, .engs, .arbs, .doms, .xq, .westad, .faults, .out] : List Part)) .threads →
    Has (· ∈ ([.free, .regs, .threads, .cyls, .engs, .arbs, .doms, .xq, .westad, .faults, .out] : List Part)) .cyls →
    Has (· ∈ ([.free, .regs, .threads, .cyls, .engs, .arbs, .doms, .xq, .westad, .faults, .out] : List Part)) .engs →
    Has (· ∈ ([.free, .regs, .threads, .cyls, .engs, .arbs, .doms, .xq, .westad, .faults, .out] : List Part)) .arbs →
    Has (· ∈ ([.free, .regs, .threads, .cyls, .engs, .arbs, .doms, .xq, .westad, .faults, .out] : List Part)) .doms →
    Has (· ∈ ([.free, .regs, .threads, .cyls, .engs, .arbs, .doms, .xq, .westad, .faults, .out] : List Part)) .xq →
    Has (· ∈ ([.free, .regs, .threads, .cyls, .engs, .arbs, .doms, .xq, .westad, .faults, .out] : List Part)) .westad →
    Has (· ∈ ([.free, .regs, .threads, .cyls, .engs, .arbs, .doms, .xq, .westad, .faults, .out] : List Part)) .faults →
    Has (· ∈ ([.free, .regs, .threads, .cyls, .engs, .arbs, .doms, .xq, .westad, .faults, .out] : List Part)) .out → P) : P :=
  h ⟨by decide⟩ ⟨by decide⟩ ⟨by decide⟩ ⟨by decide⟩ ⟨by decide⟩ ⟨by decide⟩ ⟨by decide⟩ ⟨by decide⟩ ⟨by decide⟩ ⟨by decide⟩ ⟨by decide⟩

/-- Every part of this list is one that the list names. -/
theorem own66_has {P : Prop} (h :
    Has (· ∈ ([.arbs, .westad, .out] : List Part)) .arbs →
    Has (· ∈ ([.arbs, .westad, .out] : List Part)) .westad →
    Has (· ∈ ([.arbs, .westad, .out] : List Part)) .out → P) : P :=
  h ⟨by decide⟩ ⟨by decide⟩ ⟨by decide⟩

/-- Every part of this list is one that the list names. -/
theorem own67_has {P : Prop} (h :
    Has (· ∈ ([.free, .arbs, .westad, .out] : List Part)) .free →
    Has (· ∈ ([.free, .arbs, .westad, .out] : List Part)) .arbs →
    Has (· ∈ ([.free, .arbs, .westad, .out] : List Part)) .westad →
    Has (· ∈ ([.free, .arbs, .westad, .out] : List Part)) .out → P) : P :=
  h ⟨by decide⟩ ⟨by decide⟩ ⟨by decide⟩ ⟨by decide⟩

/-- Every part of this list is one that the list names. -/
theorem own68_has {P : Prop} (h :
    Has (· ∈ ([.westad] : List Part)) .westad → P) : P :=
  h ⟨by decide⟩

/-- Every part of this list is one that the list names. -/
theorem own69_has {P : Prop} (h :
    Has (· ∈ ([.free, .arbs, .westad, .audit, .out] : List Part)) .free →
    Has (· ∈ ([.free, .arbs, .westad, .audit, .out] : List Part)) .arbs →
    Has (· ∈ ([.free, .arbs, .westad, .audit, .out] : List Part)) .westad →
    Has (· ∈ ([.free, .arbs, .westad, .audit, .out] : List Part)) .audit →
    Has (· ∈ ([.free, .arbs, .westad, .audit, .out] : List Part)) .out → P) : P :=
  h ⟨by decide⟩ ⟨by decide⟩ ⟨by decide⟩ ⟨by decide⟩ ⟨by decide⟩

/-- Every part of this list is one that the list names. -/
theorem own70_has {P : Prop} (h :
    Has (· ∈ ([.arbs, .westad, .audit, .out] : List Part)) .arbs →
    Has (· ∈ ([.arbs, .westad, .audit, .out] : List Part)) .westad →
    Has (· ∈ ([.arbs, .westad, .audit, .out] : List Part)) .audit →
    Has (· ∈ ([.arbs, .westad, .audit, .out] : List Part)) .out → P) : P :=
  h ⟨by decide⟩ ⟨by decide⟩ ⟨by decide⟩ ⟨by decide⟩

/-- Every part of this list is one that the list names. -/
theorem own71_has {P : Prop} (h :
    Has (· ∈ ([.ks, .arbs, .westad, .out] : List Part)) .ks →
    Has (· ∈ ([.ks, .arbs, .westad, .out] : List Part)) .arbs →
    Has (· ∈ ([.ks, .arbs, .westad, .out] : List Part)) .westad →
    Has (· ∈ ([.ks, .arbs, .westad, .out] : List Part)) .out → P) : P :=
  h ⟨by decide⟩ ⟨by decide⟩ ⟨by decide⟩ ⟨by decide⟩

/-- Every part of this list is one that the list names. -/
theorem own72_has {P : Prop} (h :
    Has (· ∈ ([.regs, .intake, .supply, .pins, .out] : List Part)) .regs →
    Has (· ∈ ([.regs, .intake, .supply, .pins, .out] : List Part)) .intake →
    Has (· ∈ ([.regs, .intake, .supply, .pins, .out] : List Part)) .supply →
    Has (· ∈ ([.regs, .intake, .supply, .pins, .out] : List Part)) .pins →
    Has (· ∈ ([.regs, .intake, .supply, .pins, .out] : List Part)) .out → P) : P :=
  h ⟨by decide⟩ ⟨by decide⟩ ⟨by decide⟩ ⟨by decide⟩ ⟨by decide⟩

/-- Every part of this list is one that the list names. -/
theorem own73_has {P : Prop} (h :
    Has (· ∈ ([.uartIn] : List Part)) .uartIn → P) : P :=
  h ⟨by decide⟩

/-- Every part of this list is one that the list names. -/
theorem own74_has {P : Prop} (h :
    Has (· ∈ ([.free, .dbg] : List Part)) .free →
    Has (· ∈ ([.free, .dbg] : List Part)) .dbg → P) : P :=
  h ⟨by decide⟩ ⟨by decide⟩

/-- Every part of this list is one that the list names. -/
theorem own75_has {P : Prop} (h :
    Has (· ∈ ([.mem, .poison, .threads, .dbg] : List Part)) .mem →
    Has (· ∈ ([.mem, .poison, .threads, .dbg] : List Part)) .poison →
    Has (· ∈ ([.mem, .poison, .threads, .dbg] : List Part)) .threads →
    Has (· ∈ ([.mem, .poison, .threads, .dbg] : List Part)) .dbg → P) : P :=
  h ⟨by decide⟩ ⟨by decide⟩ ⟨by decide⟩ ⟨by decide⟩

/-- Every part of this list is one that the list names. -/
theorem own76_has {P : Prop} (h :
    Has (· ∈ ([.free, .threads, .dbg, .audit] : List Part)) .free →
    Has (· ∈ ([.free, .threads, .dbg, .audit] : List Part)) .threads →
    Has (· ∈ ([.free, .threads, .dbg, .audit] : List Part)) .dbg →
    Has (· ∈ ([.free, .threads, .dbg, .audit] : List Part)) .audit → P) : P :=
  h ⟨by decide⟩ ⟨by decide⟩ ⟨by decide⟩ ⟨by decide⟩

/-- Every part of this list is one that the list names. -/
theorem own77_has {P : Prop} (h :
    Has (· ∈ ([.regs, .threads, .srcs, .supply] : List Part)) .regs →
    Has (· ∈ ([.regs, .threads, .srcs, .supply] : List Part)) .threads →
    Has (· ∈ ([.regs, .threads, .srcs, .supply] : List Part)) .srcs →
    Has (· ∈ ([.regs, .threads, .srcs, .supply] : List Part)) .supply → P) : P :=
  h ⟨by decide⟩ ⟨by decide⟩ ⟨by decide⟩ ⟨by decide⟩

/-- Every part of this list is one that the list names. -/
theorem parts19_has {P : Prop} (h :
    Has (· ∈ (parts19 : List Part)) .free →
    Has (· ∈ (parts19 : List Part)) .regs →
    Has (· ∈ (parts19 : List Part)) .threads →
    Has (· ∈ (parts19 : List Part)) .srcs →
    Has (· ∈ (parts19 : List Part)) .supply → P) : P :=
  h ⟨by decide⟩ ⟨by decide⟩ ⟨by decide⟩ ⟨by decide⟩ ⟨by decide⟩

/-- Every part of this list is one that the list names. -/
theorem parts20_has {P : Prop} (h :
    Has (· ∈ (parts20 : List Part)) .now →
    Has (· ∈ (parts20 : List Part)) .tally →
    Has (· ∈ (parts20 : List Part)) .regs →
    Has (· ∈ (parts20 : List Part)) .mem →
    Has (· ∈ (parts20 : List Part)) .poison →
    Has (· ∈ (parts20 : List Part)) .threads →
    Has (· ∈ (parts20 : List Part)) .cyls →
    Has (· ∈ (parts20 : List Part)) .krs →
    Has (· ∈ (parts20 : List Part)) .engs →
    Has (· ∈ (parts20 : List Part)) .dmaTlb →
    Has (· ∈ (parts20 : List Part)) .inval →
    Has (· ∈ (parts20 : List Part)) .ks →
    Has (· ∈ (parts20 : List Part)) .guard →
    Has (· ∈ (parts20 : List Part)) .dma →
    Has (· ∈ (parts20 : List Part)) .dmaLast →
    Has (· ∈ (parts20 : List Part)) .intake →
    Has (· ∈ (parts20 : List Part)) .kc →
    Has (· ∈ (parts20 : List Part)) .kcPrev →
    Has (· ∈ (parts20 : List Part)) .turns →
    Has (· ∈ (parts20 : List Part)) .srcs →
    Has (· ∈ (parts20 : List Part)) .arbs →
    Has (· ∈ (parts20 : List Part)) .doms →
    Has (· ∈ (parts20 : List Part)) .xq →
    Has (· ∈ (parts20 : List Part)) .westad →
    Has (· ∈ (parts20 : List Part)) .dbg →
    Has (· ∈ (parts20 : List Part)) .supply →
    Has (· ∈ (parts20 : List Part)) .keeper →
    Has (· ∈ (parts20 : List Part)) .audit →
    Has (· ∈ (parts20 : List Part)) .faults →
    Has (· ∈ (parts20 : List Part)) .boot →
    Has (· ∈ (parts20 : List Part)) .req →
    Has (· ∈ (parts20 : List Part)) .pins →
    Has (· ∈ (parts20 : List Part)) .seeded →
    Has (· ∈ (parts20 : List Part)) .trngBad →
    Has (· ∈ (parts20 : List Part)) .ptpGood →
    Has (· ∈ (parts20 : List Part)) .dramKeys →
    Has (· ∈ (parts20 : List Part)) .dramLost →
    Has (· ∈ (parts20 : List Part)) .linkPower → P) : P :=
  h ⟨by decide⟩ ⟨by decide⟩ ⟨by decide⟩ ⟨by decide⟩ ⟨by decide⟩ ⟨by decide⟩ ⟨by decide⟩ ⟨by decide⟩ ⟨by decide⟩ ⟨by decide⟩ ⟨by decide⟩ ⟨by decide⟩ ⟨by decide⟩ ⟨by decide⟩ ⟨by decide⟩ ⟨by decide⟩ ⟨by decide⟩ ⟨by decide⟩ ⟨by decide⟩ ⟨by decide⟩ ⟨by decide⟩ ⟨by decide⟩ ⟨by decide⟩ ⟨by decide⟩ ⟨by decide⟩ ⟨by decide⟩ ⟨by decide⟩ ⟨by decide⟩ ⟨by decide⟩ ⟨by decide⟩ ⟨by decide⟩ ⟨by decide⟩ ⟨by decide⟩ ⟨by decide⟩ ⟨by decide⟩ ⟨by decide⟩ ⟨by decide⟩ ⟨by decide⟩

/-- Every part of this list is one that the list names. -/
theorem own80_has {P : Prop} (h :
    Has (· ∈ ([.regs, .threads, .krs, .srcs] : List Part)) .regs →
    Has (· ∈ ([.regs, .threads, .krs, .srcs] : List Part)) .threads →
    Has (· ∈ ([.regs, .threads, .krs, .srcs] : List Part)) .krs →
    Has (· ∈ ([.regs, .threads, .krs, .srcs] : List Part)) .srcs → P) : P :=
  h ⟨by decide⟩ ⟨by decide⟩ ⟨by decide⟩ ⟨by decide⟩

/-- Every part of this list is one that the list names. -/
theorem own81_has {P : Prop} (h :
    Has (· ∈ ([.krs, .audit] : List Part)) .krs →
    Has (· ∈ ([.krs, .audit] : List Part)) .audit → P) : P :=
  h ⟨by decide⟩ ⟨by decide⟩

/-- Every part of this list is one that the list names. -/
theorem own82_has {P : Prop} (h :
    Has (· ∈ ([.fuses] : List Part)) .fuses → P) : P :=
  h ⟨by decide⟩

/-- Every part of this list is one that the list names. -/
theorem own83_has {P : Prop} (h :
    Has (· ∈ ([.free, .krs] : List Part)) .free →
    Has (· ∈ ([.free, .krs] : List Part)) .krs → P) : P :=
  h ⟨by decide⟩ ⟨by decide⟩

/-- Every part of this list is one that the list names. -/
theorem own84_has {P : Prop} (h :
    Has (· ∈ ([.threads, .cyls] : List Part)) .threads →
    Has (· ∈ ([.threads, .cyls] : List Part)) .cyls → P) : P :=
  h ⟨by decide⟩ ⟨by decide⟩

/-- Every part of this list is one that the list names. -/
theorem own85_has {P : Prop} (h :
    Has (· ∈ ([.regs, .threads, .intake, .srcs, .supply, .pins] : List Part)) .regs →
    Has (· ∈ ([.regs, .threads, .intake, .srcs, .supply, .pins] : List Part)) .threads →
    Has (· ∈ ([.regs, .threads, .intake, .srcs, .supply, .pins] : List Part)) .intake →
    Has (· ∈ ([.regs, .threads, .intake, .srcs, .supply, .pins] : List Part)) .srcs →
    Has (· ∈ ([.regs, .threads, .intake, .srcs, .supply, .pins] : List Part)) .supply →
    Has (· ∈ ([.regs, .threads, .intake, .srcs, .supply, .pins] : List Part)) .pins → P) : P :=
  h ⟨by decide⟩ ⟨by decide⟩ ⟨by decide⟩ ⟨by decide⟩ ⟨by decide⟩ ⟨by decide⟩

/-- Every part of this list is one that the list names. -/
theorem parts21_has {P : Prop} (h :
    Has (· ∈ (parts21 : List Part)) .regs →
    Has (· ∈ (parts21 : List Part)) .mem →
    Has (· ∈ (parts21 : List Part)) .poison →
    Has (· ∈ (parts21 : List Part)) .threads →
    Has (· ∈ (parts21 : List Part)) .cyls →
    Has (· ∈ (parts21 : List Part)) .krs →
    Has (· ∈ (parts21 : List Part)) .engs →
    Has (· ∈ (parts21 : List Part)) .dmaTlb →
    Has (· ∈ (parts21 : List Part)) .ks →
    Has (· ∈ (parts21 : List Part)) .guard →
    Has (· ∈ (parts21 : List Part)) .intake →
    Has (· ∈ (parts21 : List Part)) .srcs →
    Has (· ∈ (parts21 : List Part)) .arbs →
    Has (· ∈ (parts21 : List Part)) .doms →
    Has (· ∈ (parts21 : List Part)) .xq →
    Has (· ∈ (parts21 : List Part)) .westad →
    Has (· ∈ (parts21 : List Part)) .supply →
    Has (· ∈ (parts21 : List Part)) .keeper →
    Has (· ∈ (parts21 : List Part)) .audit →
    Has (· ∈ (parts21 : List Part)) .pins →
    Has (· ∈ (parts21 : List Part)) .linkPower →
    Has (· ∈ (parts21 : List Part)) .out → P) : P :=
  h ⟨by decide⟩ ⟨by decide⟩ ⟨by decide⟩ ⟨by decide⟩ ⟨by decide⟩ ⟨by decide⟩ ⟨by decide⟩ ⟨by decide⟩ ⟨by decide⟩ ⟨by decide⟩ ⟨by decide⟩ ⟨by decide⟩ ⟨by decide⟩ ⟨by decide⟩ ⟨by decide⟩ ⟨by decide⟩ ⟨by decide⟩ ⟨by decide⟩ ⟨by decide⟩ ⟨by decide⟩ ⟨by decide⟩ ⟨by decide⟩

/-- Every part of this list is one that the list names. -/
theorem own87_has {P : Prop} (h :
    Has (· ∈ ([.supply] : List Part)) .supply → P) : P :=
  h ⟨by decide⟩

/-- Every part of this list is one that the list names. -/
theorem parts22_has {P : Prop} (h :
    Has (· ∈ (parts22 : List Part)) .free →
    Has (· ∈ (parts22 : List Part)) .now →
    Has (· ∈ (parts22 : List Part)) .regs →
    Has (· ∈ (parts22 : List Part)) .mem →
    Has (· ∈ (parts22 : List Part)) .poison →
    Has (· ∈ (parts22 : List Part)) .threads →
    Has (· ∈ (parts22 : List Part)) .cyls →
    Has (· ∈ (parts22 : List Part)) .krs →
    Has (· ∈ (parts22 : List Part)) .engs →
    Has (· ∈ (parts22 : List Part)) .ks →
    Has (· ∈ (parts22 : List Part)) .guard →
    Has (· ∈ (parts22 : List Part)) .intake →
    Has (· ∈ (parts22 : List Part)) .turns →
    Has (· ∈ (parts22 : List Part)) .srcs →
    Has (· ∈ (parts22 : List Part)) .arbs →
    Has (· ∈ (parts22 : List Part)) .doms →
    Has (· ∈ (parts22 : List Part)) .xq →
    Has (· ∈ (parts22 : List Part)) .westad →
    Has (· ∈ (parts22 : List Part)) .dbg →
    Has (· ∈ (parts22 : List Part)) .supply →
    Has (· ∈ (parts22 : List Part)) .audit →
    Has (· ∈ (parts22 : List Part)) .faults →
    Has (· ∈ (parts22 : List Part)) .boot →
    Has (· ∈ (parts22 : List Part)) .req →
    Has (· ∈ (parts22 : List Part)) .pins →
    Has (· ∈ (parts22 : List Part)) .seeded →
    Has (· ∈ (parts22 : List Part)) .out → P) : P :=
  h ⟨by decide⟩ ⟨by decide⟩ ⟨by decide⟩ ⟨by decide⟩ ⟨by decide⟩ ⟨by decide⟩ ⟨by decide⟩ ⟨by decide⟩ ⟨by decide⟩ ⟨by decide⟩ ⟨by decide⟩ ⟨by decide⟩ ⟨by decide⟩ ⟨by decide⟩ ⟨by decide⟩ ⟨by decide⟩ ⟨by decide⟩ ⟨by decide⟩ ⟨by decide⟩ ⟨by decide⟩ ⟨by decide⟩ ⟨by decide⟩ ⟨by decide⟩ ⟨by decide⟩ ⟨by decide⟩ ⟨by decide⟩ ⟨by decide⟩

/-- Every part of this list is one that the list names. -/
theorem own89_has {P : Prop} (h :
    Has (· ∈ ([.now] : List Part)) .now → P) : P :=
  h ⟨by decide⟩

/-- Every part of this list is one that the list names. -/
theorem own90_has {P : Prop} (h :
    Has (· ∈ ([.regs, .ptpGood] : List Part)) .regs →
    Has (· ∈ ([.regs, .ptpGood] : List Part)) .ptpGood → P) : P :=
  h ⟨by decide⟩ ⟨by decide⟩

/-- Every part of this list is one that the list names. -/
theorem own91_has {P : Prop} (h :
    Has (· ∈ ([.keeper, .audit] : List Part)) .keeper →
    Has (· ∈ ([.keeper, .audit] : List Part)) .audit → P) : P :=
  h ⟨by decide⟩ ⟨by decide⟩

/-- Every part of this list is one that the list names. -/
theorem own92_has {P : Prop} (h :
    Has (· ∈ ([.regs, .keeper, .audit] : List Part)) .regs →
    Has (· ∈ ([.regs, .keeper, .audit] : List Part)) .keeper →
    Has (· ∈ ([.regs, .keeper, .audit] : List Part)) .audit → P) : P :=
  h ⟨by decide⟩ ⟨by decide⟩ ⟨by decide⟩

/-- Every part of this list is one that the list names. -/
theorem parts23_has {P : Prop} (h :
    Has (· ∈ (parts23 : List Part)) .free →
    Has (· ∈ (parts23 : List Part)) .now →
    Has (· ∈ (parts23 : List Part)) .regs →
    Has (· ∈ (parts23 : List Part)) .mem →
    Has (· ∈ (parts23 : List Part)) .poison →
    Has (· ∈ (parts23 : List Part)) .threads →
    Has (· ∈ (parts23 : List Part)) .cyls →
    Has (· ∈ (parts23 : List Part)) .krs →
    Has (· ∈ (parts23 : List Part)) .engs →
    Has (· ∈ (parts23 : List Part)) .ks →
    Has (· ∈ (parts23 : List Part)) .guard →
    Has (· ∈ (parts23 : List Part)) .intake →
    Has (· ∈ (parts23 : List Part)) .turns →
    Has (· ∈ (parts23 : List Part)) .srcs →
    Has (· ∈ (parts23 : List Part)) .arbs →
    Has (· ∈ (parts23 : List Part)) .doms →
    Has (· ∈ (parts23 : List Part)) .xq →
    Has (· ∈ (parts23 : List Part)) .westad →
    Has (· ∈ (parts23 : List Part)) .dbg →
    Has (· ∈ (parts23 : List Part)) .supply →
    Has (· ∈ (parts23 : List Part)) .keeper →
    Has (· ∈ (parts23 : List Part)) .audit →
    Has (· ∈ (parts23 : List Part)) .faults →
    Has (· ∈ (parts23 : List Part)) .fuses →
    Has (· ∈ (parts23 : List Part)) .boot →
    Has (· ∈ (parts23 : List Part)) .req →
    Has (· ∈ (parts23 : List Part)) .pins →
    Has (· ∈ (parts23 : List Part)) .seeded →
    Has (· ∈ (parts23 : List Part)) .dramKeys →
    Has (· ∈ (parts23 : List Part)) .dramLost →
    Has (· ∈ (parts23 : List Part)) .out → P) : P :=
  h ⟨by decide⟩ ⟨by decide⟩ ⟨by decide⟩ ⟨by decide⟩ ⟨by decide⟩ ⟨by decide⟩ ⟨by decide⟩ ⟨by decide⟩ ⟨by decide⟩ ⟨by decide⟩ ⟨by decide⟩ ⟨by decide⟩ ⟨by decide⟩ ⟨by decide⟩ ⟨by decide⟩ ⟨by decide⟩ ⟨by decide⟩ ⟨by decide⟩ ⟨by decide⟩ ⟨by decide⟩ ⟨by decide⟩ ⟨by decide⟩ ⟨by decide⟩ ⟨by decide⟩ ⟨by decide⟩ ⟨by decide⟩ ⟨by decide⟩ ⟨by decide⟩ ⟨by decide⟩ ⟨by decide⟩ ⟨by decide⟩

/-- Every part of this list is one that the list names. -/
theorem own94_has {P : Prop} (h :
    Has (· ∈ ([.req] : List Part)) .req → P) : P :=
  h ⟨by decide⟩

/-- Every part of this list is one that the list names. -/
theorem own95_has {P : Prop} (h :
    Has (· ∈ ([.free, .mem, .poison, .threads, .req] : List Part)) .free →
    Has (· ∈ ([.free, .mem, .poison, .threads, .req] : List Part)) .mem →
    Has (· ∈ ([.free, .mem, .poison, .threads, .req] : List Part)) .poison →
    Has (· ∈ ([.free, .mem, .poison, .threads, .req] : List Part)) .threads →
    Has (· ∈ ([.free, .mem, .poison, .threads, .req] : List Part)) .req → P) : P :=
  h ⟨by decide⟩ ⟨by decide⟩ ⟨by decide⟩ ⟨by decide⟩ ⟨by decide⟩

/-- Every part of this list is one that the list names. -/
theorem own96_has {P : Prop} (h :
    Has (· ∈ ([.free, .regs, .audit, .fuses] : List Part)) .free →
    Has (· ∈ ([.free, .regs, .audit, .fuses] : List Part)) .regs →
    Has (· ∈ ([.free, .regs, .audit, .fuses] : List Part)) .audit →
    Has (· ∈ ([.free, .regs, .audit, .fuses] : List Part)) .fuses → P) : P :=
  h ⟨by decide⟩ ⟨by decide⟩ ⟨by decide⟩ ⟨by decide⟩

/-- Every part of this list is one that the list names. -/
theorem own97_has {P : Prop} (h :
    Has (· ∈ ([.mem, .poison, .threads, .audit] : List Part)) .mem →
    Has (· ∈ ([.mem, .poison, .threads, .audit] : List Part)) .poison →
    Has (· ∈ ([.mem, .poison, .threads, .audit] : List Part)) .threads →
    Has (· ∈ ([.mem, .poison, .threads, .audit] : List Part)) .audit → P) : P :=
  h ⟨by decide⟩ ⟨by decide⟩ ⟨by decide⟩ ⟨by decide⟩

/-- Every part of this list is one that the list names. -/
theorem parts24_has {P : Prop} (h :
    Has (· ∈ (parts24 : List Part)) .free →
    Has (· ∈ (parts24 : List Part)) .regs →
    Has (· ∈ (parts24 : List Part)) .mem →
    Has (· ∈ (parts24 : List Part)) .poison →
    Has (· ∈ (parts24 : List Part)) .threads →
    Has (· ∈ (parts24 : List Part)) .cyls →
    Has (· ∈ (parts24 : List Part)) .krs →
    Has (· ∈ (parts24 : List Part)) .engs →
    Has (· ∈ (parts24 : List Part)) .ks →
    Has (· ∈ (parts24 : List Part)) .guard →
    Has (· ∈ (parts24 : List Part)) .intake →
    Has (· ∈ (parts24 : List Part)) .turns →
    Has (· ∈ (parts24 : List Part)) .srcs →
    Has (· ∈ (parts24 : List Part)) .arbs →
    Has (· ∈ (parts24 : List Part)) .doms →
    Has (· ∈ (parts24 : List Part)) .xq →
    Has (· ∈ (parts24 : List Part)) .westad →
    Has (· ∈ (parts24 : List Part)) .dbg →
    Has (· ∈ (parts24 : List Part)) .audit →
    Has (· ∈ (parts24 : List Part)) .faults →
    Has (· ∈ (parts24 : List Part)) .boot →
    Has (· ∈ (parts24 : List Part)) .req →
    Has (· ∈ (parts24 : List Part)) .pins →
    Has (· ∈ (parts24 : List Part)) .trngBad →
    Has (· ∈ (parts24 : List Part)) .out → P) : P :=
  h ⟨by decide⟩ ⟨by decide⟩ ⟨by decide⟩ ⟨by decide⟩ ⟨by decide⟩ ⟨by decide⟩ ⟨by decide⟩ ⟨by decide⟩ ⟨by decide⟩ ⟨by decide⟩ ⟨by decide⟩ ⟨by decide⟩ ⟨by decide⟩ ⟨by decide⟩ ⟨by decide⟩ ⟨by decide⟩ ⟨by decide⟩ ⟨by decide⟩ ⟨by decide⟩ ⟨by decide⟩ ⟨by decide⟩ ⟨by decide⟩ ⟨by decide⟩ ⟨by decide⟩ ⟨by decide⟩

/-- Every part of this list is one that the list names. -/
theorem own99_has {P : Prop} (h :
    Has (· ∈ ([.faults, .fuses] : List Part)) .faults →
    Has (· ∈ ([.faults, .fuses] : List Part)) .fuses → P) : P :=
  h ⟨by decide⟩ ⟨by decide⟩

/-- Every part of this list is one that the list names. -/
theorem own100_has {P : Prop} (h :
    Has (· ∈ ([.regs, .poison, .threads, .cyls, .engs, .srcs, .doms, .audit, .faults] : List Part)) .regs →
    Has (· ∈ ([.regs, .poison, .threads, .cyls, .engs, .srcs, .doms, .audit, .faults] : List Part)) .poison →
    Has (· ∈ ([.regs, .poison, .threads, .cyls, .engs, .srcs, .doms, .audit, .faults] : List Part)) .threads →
    Has (· ∈ ([.regs, .poison, .threads, .cyls, .engs, .srcs, .doms, .audit, .faults] : List Part)) .cyls →
    Has (· ∈ ([.regs, .poison, .threads, .cyls, .engs, .srcs, .doms, .audit, .faults] : List Part)) .engs →
    Has (· ∈ ([.regs, .poison, .threads, .cyls, .engs, .srcs, .doms, .audit, .faults] : List Part)) .srcs →
    Has (· ∈ ([.regs, .poison, .threads, .cyls, .engs, .srcs, .doms, .audit, .faults] : List Part)) .doms →
    Has (· ∈ ([.regs, .poison, .threads, .cyls, .engs, .srcs, .doms, .audit, .faults] : List Part)) .audit →
    Has (· ∈ ([.regs, .poison, .threads, .cyls, .engs, .srcs, .doms, .audit, .faults] : List Part)) .faults → P) : P :=
  h ⟨by decide⟩ ⟨by decide⟩ ⟨by decide⟩ ⟨by decide⟩ ⟨by decide⟩ ⟨by decide⟩ ⟨by decide⟩ ⟨by decide⟩ ⟨by decide⟩

/-- Every part of this list is one that the list names. -/
theorem own101_has {P : Prop} (h :
    Has (· ∈ ([.threads, .cyls, .engs, .doms, .faults, .trngBad] : List Part)) .threads →
    Has (· ∈ ([.threads, .cyls, .engs, .doms, .faults, .trngBad] : List Part)) .cyls →
    Has (· ∈ ([.threads, .cyls, .engs, .doms, .faults, .trngBad] : List Part)) .engs →
    Has (· ∈ ([.threads, .cyls, .engs, .doms, .faults, .trngBad] : List Part)) .doms →
    Has (· ∈ ([.threads, .cyls, .engs, .doms, .faults, .trngBad] : List Part)) .faults →
    Has (· ∈ ([.threads, .cyls, .engs, .doms, .faults, .trngBad] : List Part)) .trngBad → P) : P :=
  h ⟨by decide⟩ ⟨by decide⟩ ⟨by decide⟩ ⟨by decide⟩ ⟨by decide⟩ ⟨by decide⟩

/-- Every part of this list is one that the list names. -/
theorem own102_has {P : Prop} (h :
    Has (· ∈ ([.faults] : List Part)) .faults → P) : P :=
  h ⟨by decide⟩

/-- Every part of this list is one that the list names. -/
theorem own103_has {P : Prop} (h :
    Has (· ∈ ([.out] : List Part)) .out → P) : P :=
  h ⟨by decide⟩

/-- Every part of this list is one that the list names. -/
theorem parts25_has {P : Prop} (h :
    Has (· ∈ (parts25 : List Part)) .free →
    Has (· ∈ (parts25 : List Part)) .regs →
    Has (· ∈ (parts25 : List Part)) .mem →
    Has (· ∈ (parts25 : List Part)) .poison →
    Has (· ∈ (parts25 : List Part)) .threads →
    Has (· ∈ (parts25 : List Part)) .cyls →
    Has (· ∈ (parts25 : List Part)) .krs →
    Has (· ∈ (parts25 : List Part)) .engs →
    Has (· ∈ (parts25 : List Part)) .ks →
    Has (· ∈ (parts25 : List Part)) .guard →
    Has (· ∈ (parts25 : List Part)) .intake →
    Has (· ∈ (parts25 : List Part)) .kc →
    Has (· ∈ (parts25 : List Part)) .kcPrev →
    Has (· ∈ (parts25 : List Part)) .turns →
    Has (· ∈ (parts25 : List Part)) .srcs →
    Has (· ∈ (parts25 : List Part)) .arbs →
    Has (· ∈ (parts25 : List Part)) .doms →
    Has (· ∈ (parts25 : List Part)) .xq →
    Has (· ∈ (parts25 : List Part)) .westad →
    Has (· ∈ (parts25 : List Part)) .dbg →
    Has (· ∈ (parts25 : List Part)) .audit →
    Has (· ∈ (parts25 : List Part)) .faults →
    Has (· ∈ (parts25 : List Part)) .boot →
    Has (· ∈ (parts25 : List Part)) .req →
    Has (· ∈ (parts25 : List Part)) .pins →
    Has (· ∈ (parts25 : List Part)) .seeded →
    Has (· ∈ (parts25 : List Part)) .dramKeys →
    Has (· ∈ (parts25 : List Part)) .out → P) : P :=
  h ⟨by decide⟩ ⟨by decide⟩ ⟨by decide⟩ ⟨by decide⟩ ⟨by decide⟩ ⟨by decide⟩ ⟨by decide⟩ ⟨by decide⟩ ⟨by decide⟩ ⟨by decide⟩ ⟨by decide⟩ ⟨by decide⟩ ⟨by decide⟩ ⟨by decide⟩ ⟨by decide⟩ ⟨by decide⟩ ⟨by decide⟩ ⟨by decide⟩ ⟨by decide⟩ ⟨by decide⟩ ⟨by decide⟩ ⟨by decide⟩ ⟨by decide⟩ ⟨by decide⟩ ⟨by decide⟩ ⟨by decide⟩ ⟨by decide⟩ ⟨by decide⟩

/-- Every part of this list is one that the list names. -/
theorem own105_has {P : Prop} (h :
    Has (· ∈ ([.boot] : List Part)) .boot → P) : P :=
  h ⟨by decide⟩

/-- Every part of this list is one that the list names. -/
theorem own106_has {P : Prop} (h :
    Has (· ∈ ([.boot, .out] : List Part)) .boot →
    Has (· ∈ ([.boot, .out] : List Part)) .out → P) : P :=
  h ⟨by decide⟩ ⟨by decide⟩

/-- Every part of this list is one that the list names. -/
theorem own107_has {P : Prop} (h :
    Has (· ∈ ([.intake, .fuses, .boot, .pins] : List Part)) .intake →
    Has (· ∈ ([.intake, .fuses, .boot, .pins] : List Part)) .fuses →
    Has (· ∈ ([.intake, .fuses, .boot, .pins] : List Part)) .boot →
    Has (· ∈ ([.intake, .fuses, .boot, .pins] : List Part)) .pins → P) : P :=
  h ⟨by decide⟩ ⟨by decide⟩ ⟨by decide⟩ ⟨by decide⟩

/-- Every part of this list is one that the list names. -/
theorem own108_has {P : Prop} (h :
    Has (· ∈ ([.mem, .poison, .threads] : List Part)) .mem →
    Has (· ∈ ([.mem, .poison, .threads] : List Part)) .poison →
    Has (· ∈ ([.mem, .poison, .threads] : List Part)) .threads → P) : P :=
  h ⟨by decide⟩ ⟨by decide⟩ ⟨by decide⟩

/-- Every part of this list is one that the list names. -/
theorem own109_has {P : Prop} (h :
    Has (· ∈ ([.free, .req] : List Part)) .free →
    Has (· ∈ ([.free, .req] : List Part)) .req → P) : P :=
  h ⟨by decide⟩ ⟨by decide⟩

/-- Every part of this list is one that the list names. -/
theorem own110_has {P : Prop} (h :
    Has (· ∈ ([.mem, .poison, .threads, .req] : List Part)) .mem →
    Has (· ∈ ([.mem, .poison, .threads, .req] : List Part)) .poison →
    Has (· ∈ ([.mem, .poison, .threads, .req] : List Part)) .threads →
    Has (· ∈ ([.mem, .poison, .threads, .req] : List Part)) .req → P) : P :=
  h ⟨by decide⟩ ⟨by decide⟩ ⟨by decide⟩ ⟨by decide⟩

/-- Every part of this list is one that the list names. -/
theorem own111_has {P : Prop} (h :
    Has (· ∈ ([.pins, .out] : List Part)) .pins →
    Has (· ∈ ([.pins, .out] : List Part)) .out → P) : P :=
  h ⟨by decide⟩ ⟨by decide⟩

/-- Every part of this list is one that the list names. -/
theorem own112_has {P : Prop} (h :
    Has (· ∈ ([.rdata, .regs, .threads, .srcs] : List Part)) .rdata →
    Has (· ∈ ([.rdata, .regs, .threads, .srcs] : List Part)) .regs →
    Has (· ∈ ([.rdata, .regs, .threads, .srcs] : List Part)) .threads →
    Has (· ∈ ([.rdata, .regs, .threads, .srcs] : List Part)) .srcs → P) : P :=
  h ⟨by decide⟩ ⟨by decide⟩ ⟨by decide⟩ ⟨by decide⟩

/-- Every part of this list is one that the list names. -/
theorem own113_has {P : Prop} (h :
    Has (· ∈ ([.free, .regs, .intake, .arbs, .doms, .xq, .westad, .linkPower, .out] : List Part)) .free →
    Has (· ∈ ([.free, .regs, .intake, .arbs, .doms, .xq, .westad, .linkPower, .out] : List Part)) .regs →
    Has (· ∈ ([.free, .regs, .intake, .arbs, .doms, .xq, .westad, .linkPower, .out] : List Part)) .intake →
    Has (· ∈ ([.free, .regs, .intake, .arbs, .doms, .xq, .westad, .linkPower, .out] : List Part)) .arbs →
    Has (· ∈ ([.free, .regs, .intake, .arbs, .doms, .xq, .westad, .linkPower, .out] : List Part)) .doms →
    Has (· ∈ ([.free, .regs, .intake, .arbs, .doms, .xq, .westad, .linkPower, .out] : List Part)) .xq →
    Has (· ∈ ([.free, .regs, .intake, .arbs, .doms, .xq, .westad, .linkPower, .out] : List Part)) .westad →
    Has (· ∈ ([.free, .regs, .intake, .arbs, .doms, .xq, .westad, .linkPower, .out] : List Part)) .linkPower →
    Has (· ∈ ([.free, .regs, .intake, .arbs, .doms, .xq, .westad, .linkPower, .out] : List Part)) .out → P) : P :=
  h ⟨by decide⟩ ⟨by decide⟩ ⟨by decide⟩ ⟨by decide⟩ ⟨by decide⟩ ⟨by decide⟩ ⟨by decide⟩ ⟨by decide⟩ ⟨by decide⟩

/-- Every part of this list is one that the list names. -/
theorem own114_has {P : Prop} (h :
    Has (· ∈ ([.linkPower] : List Part)) .linkPower → P) : P :=
  h ⟨by decide⟩

/-- Every command answers a next state in which only the parts that it may change differ. -/
theorem exec_within (i : Instr) (s : State) : GoesIn (· ∈ mayChange i) s (exec i s) := by
  cases i with
  | moveIssue t => exact parts1_has (fun _ _ _ _ _ _ _ _ _ => execMoveIssue_within (F := (· ∈ (parts1 : List Part))) t s)
  | immHiAppend t => exact parts1_has (fun _ _ _ _ _ _ _ _ _ => execImmHiAppend_within (F := (· ∈ (parts1 : List Part))) t s)
  | addT t => exact parts1_has (fun _ _ _ _ _ _ _ _ _ => execAddT_within (F := (· ∈ (parts1 : List Part))) t s)
  | subT t => exact parts1_has (fun _ _ _ _ _ _ _ _ _ => execSubT_within (F := (· ∈ (parts1 : List Part))) t s)
  | adcT t => exact parts1_has (fun _ _ _ _ _ _ _ _ _ => execAdcT_within (F := (· ∈ (parts1 : List Part))) t s)
  | sbbT t => exact parts1_has (fun _ _ _ _ _ _ _ _ _ => execSbbT_within (F := (· ∈ (parts1 : List Part))) t s)
  | negT t => exact parts1_has (fun _ _ _ _ _ _ _ _ _ => execNegT_within (F := (· ∈ (parts1 : List Part))) t s)
  | andT t => exact parts1_has (fun _ _ _ _ _ _ _ _ _ => execAndT_within (F := (· ∈ (parts1 : List Part))) t s)
  | orT t => exact parts1_has (fun _ _ _ _ _ _ _ _ _ => execOrT_within (F := (· ∈ (parts1 : List Part))) t s)
  | xorT t => exact parts1_has (fun _ _ _ _ _ _ _ _ _ => execXorT_within (F := (· ∈ (parts1 : List Part))) t s)
  | andnT t => exact parts1_has (fun _ _ _ _ _ _ _ _ _ => execAndnT_within (F := (· ∈ (parts1 : List Part))) t s)
  | notT t => exact parts1_has (fun _ _ _ _ _ _ _ _ _ => execNotT_within (F := (· ∈ (parts1 : List Part))) t s)
  | shlT t => exact parts1_has (fun _ _ _ _ _ _ _ _ _ => execShlT_within (F := (· ∈ (parts1 : List Part))) t s)
  | shrT t => exact parts1_has (fun _ _ _ _ _ _ _ _ _ => execShrT_within (F := (· ∈ (parts1 : List Part))) t s)
  | sarT t => exact parts1_has (fun _ _ _ _ _ _ _ _ _ => execSarT_within (F := (· ∈ (parts1 : List Part))) t s)
  | rolT t => exact parts1_has (fun _ _ _ _ _ _ _ _ _ => execRolT_within (F := (· ∈ (parts1 : List Part))) t s)
  | rorT t => exact parts1_has (fun _ _ _ _ _ _ _ _ _ => execRorT_within (F := (· ∈ (parts1 : List Part))) t s)
  | cmpEqT t => exact parts1_has (fun _ _ _ _ _ _ _ _ _ => execCmpEqT_within (F := (· ∈ (parts1 : List Part))) t s)
  | cmpLtT t => exact parts1_has (fun _ _ _ _ _ _ _ _ _ => execCmpLtT_within (F := (· ∈ (parts1 : List Part))) t s)
  | cmpLtuT t => exact parts1_has (fun _ _ _ _ _ _ _ _ _ => execCmpLtuT_within (F := (· ∈ (parts1 : List Part))) t s)
  | cmpLeT t => exact parts1_has (fun _ _ _ _ _ _ _ _ _ => execCmpLeT_within (F := (· ∈ (parts1 : List Part))) t s)
  | cmpLeuT t => exact parts1_has (fun _ _ _ _ _ _ _ _ _ => execCmpLeuT_within (F := (· ∈ (parts1 : List Part))) t s)
  | daddT t => exact parts1_has (fun _ _ _ _ _ _ _ _ _ => execDaddT_within (F := (· ∈ (parts1 : List Part))) t s)
  | dsubT t => exact parts1_has (fun _ _ _ _ _ _ _ _ _ => execDsubT_within (F := (· ∈ (parts1 : List Part))) t s)
  | dchkT t => exact parts1_has (fun _ _ _ _ _ _ _ _ _ => execDchkT_within (F := (· ∈ (parts1 : List Part))) t s)
  | dcvtT t => exact parts1_has (fun _ _ _ _ _ _ _ _ _ => execDcvtT_within (F := (· ∈ (parts1 : List Part))) t s)
  | bcvtT t => exact parts1_has (fun _ _ _ _ _ _ _ _ _ => execBcvtT_within (F := (· ∈ (parts1 : List Part))) t s)
  | mulT t => exact parts1_has (fun _ _ _ _ _ _ _ _ _ => execMulT_within (F := (· ∈ (parts1 : List Part))) t s)
  | mulsT t => exact parts1_has (fun _ _ _ _ _ _ _ _ _ => execMulsT_within (F := (· ∈ (parts1 : List Part))) t s)
  | divT t => exact parts1_has (fun _ _ _ _ _ _ _ _ _ => execDivT_within (F := (· ∈ (parts1 : List Part))) t s)
  | divsT t => exact parts1_has (fun _ _ _ _ _ _ _ _ _ => execDivsT_within (F := (· ∈ (parts1 : List Part))) t s)
  | digitUnitResult t u o => exact parts2_has (fun _ _ _ _ _ _ => execDigitUnitResult_within (F := (· ∈ (parts2 : List Part))) t u o s)
  | completionTimeout t u => exact parts2_has (fun _ _ _ _ _ _ => execCompletionTimeout_within (F := (· ∈ (parts2 : List Part))) t u s)
  | mulProductVisible t => exact own2_has (fun _ => execMulProductVisible_within (F := (· ∈ ([.threads] : List Part))) t s)
  | cbEqT t => exact parts1_has (fun _ _ _ _ _ _ _ _ _ => execCbEqT_within (F := (· ∈ (parts1 : List Part))) t s)
  | cbNeT t => exact parts1_has (fun _ _ _ _ _ _ _ _ _ => execCbNeT_within (F := (· ∈ (parts1 : List Part))) t s)
  | cbLtT t => exact parts1_has (fun _ _ _ _ _ _ _ _ _ => execCbLtT_within (F := (· ∈ (parts1 : List Part))) t s)
  | cbGeT t => exact parts1_has (fun _ _ _ _ _ _ _ _ _ => execCbGeT_within (F := (· ∈ (parts1 : List Part))) t s)
  | cbLtuT t => exact parts1_has (fun _ _ _ _ _ _ _ _ _ => execCbLtuT_within (F := (· ∈ (parts1 : List Part))) t s)
  | cbGeuT t => exact parts1_has (fun _ _ _ _ _ _ _ _ _ => execCbGeuT_within (F := (· ∈ (parts1 : List Part))) t s)
  | cbBsT t => exact parts1_has (fun _ _ _ _ _ _ _ _ _ => execCbBsT_within (F := (· ∈ (parts1 : List Part))) t s)
  | cbBcT t => exact parts1_has (fun _ _ _ _ _ _ _ _ _ => execCbBcT_within (F := (· ∈ (parts1 : List Part))) t s)
  | jmpT t => exact parts1_has (fun _ _ _ _ _ _ _ _ _ => execJmpT_within (F := (· ∈ (parts1 : List Part))) t s)
  | jmpRelT t => exact parts1_has (fun _ _ _ _ _ _ _ _ _ => execJmpRelT_within (F := (· ∈ (parts1 : List Part))) t s)
  | callT t => exact parts1_has (fun _ _ _ _ _ _ _ _ _ => execCallT_within (F := (· ∈ (parts1 : List Part))) t s)
  | retT t => exact parts1_has (fun _ _ _ _ _ _ _ _ _ => execRetT_within (F := (· ∈ (parts1 : List Part))) t s)
  | branchResolve t => exact own2_has (fun _ => execBranchResolve_within (F := (· ∈ ([.threads] : List Part))) t s)
  | returnResolve t => exact own3_has (fun _ _ _ => execReturnResolve_within (F := (· ∈ ([.threads, .cyls, .krs] : List Part))) t s)
  | repT t => exact parts1_has (fun _ _ _ _ _ _ _ _ _ => execRepT_within (F := (· ∈ (parts1 : List Part))) t s)
  | thrWaitT t => exact parts1_has (fun _ _ _ _ _ _ _ _ _ => execThrWaitT_within (F := (· ∈ (parts1 : List Part))) t s)
  | thrHaltT t => exact parts1_has (fun _ _ _ _ _ _ _ _ _ => execThrHaltT_within (F := (· ∈ (parts1 : List Part))) t s)
  | thrYieldT t => exact parts1_has (fun _ _ _ _ _ _ _ _ _ => execThrYieldT_within (F := (· ∈ (parts1 : List Part))) t s)
  | thrStartT t => exact parts1_has (fun _ _ _ _ _ _ _ _ _ => execThrStartT_within (F := (· ∈ (parts1 : List Part))) t s)
  | ctlIfence t => exact parts1_has (fun _ _ _ _ _ _ _ _ _ => execCtlIfence_within (F := (· ∈ (parts1 : List Part))) t s)
  | fenceSl t => exact parts1_has (fun _ _ _ _ _ _ _ _ _ => execFenceSl_within (F := (· ∈ (parts1 : List Part))) t s)
  | fenceFull t => exact parts1_has (fun _ _ _ _ _ _ _ _ _ => execFenceFull_within (F := (· ∈ (parts1 : List Part))) t s)
  | fenceDev t => exact parts1_has (fun _ _ _ _ _ _ _ _ _ => execFenceDev_within (F := (· ∈ (parts1 : List Part))) t s)
  | fenceDrain t => exact parts1_has (fun _ _ _ _ _ _ _ _ _ => execFenceDrain_within (F := (· ∈ (parts1 : List Part))) t s)
  | fetchGroupArrive t parityError => exact own4_has (fun _ _ _ _ _ _ => execFetchGroupArrive_within (F := (· ∈ ([.threads, .cyls, .krs, .engs, .doms, .faults] : List Part))) t parityError s)
  | ldT t => exact parts1_has (fun _ _ _ _ _ _ _ _ _ => execLdT_within (F := (· ∈ (parts1 : List Part))) t s)
  | ldrT t => exact parts1_has (fun _ _ _ _ _ _ _ _ _ => execLdrT_within (F := (· ∈ (parts1 : List Part))) t s)
  | stT t => exact parts1_has (fun _ _ _ _ _ _ _ _ _ => execStT_within (F := (· ∈ (parts1 : List Part))) t s)
  | stcT t => exact parts1_has (fun _ _ _ _ _ _ _ _ _ => execStcT_within (F := (· ∈ (parts1 : List Part))) t s)
  | stcDecided t => exact own5_has (fun _ _ _ _ => execStcDecided_within (F := (· ∈ ([.mem, .poison, .threads, .krs] : List Part))) t s)
  | atAddT t => exact parts1_has (fun _ _ _ _ _ _ _ _ _ => execAtAddT_within (F := (· ∈ (parts1 : List Part))) t s)
  | atSwpT t => exact parts1_has (fun _ _ _ _ _ _ _ _ _ => execAtSwpT_within (F := (· ∈ (parts1 : List Part))) t s)
  | atCasT t => exact parts1_has (fun _ _ _ _ _ _ _ _ _ => execAtCasT_within (F := (· ∈ (parts1 : List Part))) t s)
  | atomicComplete t => exact own5_has (fun _ _ _ _ => execAtomicComplete_within (F := (· ∈ ([.mem, .poison, .threads, .krs] : List Part))) t s)
  | strLd t => exact parts1_has (fun _ _ _ _ _ _ _ _ _ => execStrLd_within (F := (· ∈ (parts1 : List Part))) t s)
  | strSt t => exact parts1_has (fun _ _ _ _ _ _ _ _ _ => execStrSt_within (F := (· ∈ (parts1 : List Part))) t s)
  | loadDataLand t ecc => exact own6_has (fun _ _ _ _ _ _ _ _ _ _ _ => execLoadDataLand_within (F := (· ∈ ([.rdata, .regs, .poison, .threads, .cyls, .krs, .engs, .srcs, .doms, .audit, .faults] : List Part))) t ecc s)
  | storeLeavesBuffer t parityError => exact parts3_has (fun _ _ _ _ _ _ _ _ _ _ _ _ _ _ _ _ _ _ _ _ _ _ _ _ _ _ _ _ _ _ _ _ _ _ _ _ _ _ _ _ _ => execStoreLeavesBuffer_within (F := (· ∈ (parts3 : List Part))) t parityError s)
  | pageWalkComplete t => exact own3_has (fun _ _ _ => execPageWalkComplete_within (F := (· ∈ ([.threads, .cyls, .krs] : List Part))) t s)
  | bsTasT t => exact parts1_has (fun _ _ _ _ _ _ _ _ _ => execBsTasT_within (F := (· ∈ (parts1 : List Part))) t s)
  | bsTasComplete t => exact own8_has (fun _ _ => execBsTasComplete_within (F := (· ∈ ([.threads, .krs] : List Part))) t s)
  | bsKRead t => exact parts1_has (fun _ _ _ _ _ _ _ _ _ => execBsKRead_within (F := (· ∈ (parts1 : List Part))) t s)
  | bsKWrite t => exact parts1_has (fun _ _ _ _ _ _ _ _ _ => execBsKWrite_within (F := (· ∈ (parts1 : List Part))) t s)
  | engRsvT t => exact parts1_has (fun _ _ _ _ _ _ _ _ _ => execEngRsvT_within (F := (· ∈ (parts1 : List Part))) t s)
  | engRelT t => exact parts1_has (fun _ _ _ _ _ _ _ _ _ => execEngRelT_within (F := (· ∈ (parts1 : List Part))) t s)
  | eJobT t => exact parts1_has (fun _ _ _ _ _ _ _ _ _ => execEJobT_within (F := (· ∈ (parts1 : List Part))) t s)
  | engineJobComplete e o => exact parts4_has (fun _ _ _ _ _ _ _ _ _ _ _ _ _ _ _ => execEngineJobComplete_within (F := (· ∈ (parts4 : List Part))) e o s)
  | aesEcbEncrypt e => exact parts5_has (fun _ _ _ _ _ _ _ _ _ _ _ _ _ _ _ _ _ _ _ _ _ _ _ => execAesEcbEncrypt_within (F := (· ∈ (parts5 : List Part))) e s)
  | aesEcbDecrypt e => exact parts5_has (fun _ _ _ _ _ _ _ _ _ _ _ _ _ _ _ _ _ _ _ _ _ _ _ => execAesEcbDecrypt_within (F := (· ∈ (parts5 : List Part))) e s)
  | aesCbcEncrypt e => exact parts5_has (fun _ _ _ _ _ _ _ _ _ _ _ _ _ _ _ _ _ _ _ _ _ _ _ => execAesCbcEncrypt_within (F := (· ∈ (parts5 : List Part))) e s)
  | aesCbcDecrypt e => exact parts5_has (fun _ _ _ _ _ _ _ _ _ _ _ _ _ _ _ _ _ _ _ _ _ _ _ => execAesCbcDecrypt_within (F := (· ∈ (parts5 : List Part))) e s)
  | aesCtr e => exact parts5_has (fun _ _ _ _ _ _ _ _ _ _ _ _ _ _ _ _ _ _ _ _ _ _ _ => execAesCtr_within (F := (· ∈ (parts5 : List Part))) e s)
  | aesGcmEncrypt e => exact parts5_has (fun _ _ _ _ _ _ _ _ _ _ _ _ _ _ _ _ _ _ _ _ _ _ _ => execAesGcmEncrypt_within (F := (· ∈ (parts5 : List Part))) e s)
  | aesGcmDecrypt e => exact parts5_has (fun _ _ _ _ _ _ _ _ _ _ _ _ _ _ _ _ _ _ _ _ _ _ _ => execAesGcmDecrypt_within (F := (· ∈ (parts5 : List Part))) e s)
  | aesXtsEncrypt e => exact parts5_has (fun _ _ _ _ _ _ _ _ _ _ _ _ _ _ _ _ _ _ _ _ _ _ _ => execAesXtsEncrypt_within (F := (· ∈ (parts5 : List Part))) e s)
  | aesXtsDecrypt e => exact parts5_has (fun _ _ _ _ _ _ _ _ _ _ _ _ _ _ _ _ _ _ _ _ _ _ _ => execAesXtsDecrypt_within (F := (· ∈ (parts5 : List Part))) e s)
  | aesCmacGenerate e => exact parts5_has (fun _ _ _ _ _ _ _ _ _ _ _ _ _ _ _ _ _ _ _ _ _ _ _ => execAesCmacGenerate_within (F := (· ∈ (parts5 : List Part))) e s)
  | aesCmacVerify e => exact parts5_has (fun _ _ _ _ _ _ _ _ _ _ _ _ _ _ _ _ _ _ _ _ _ _ _ => execAesCmacVerify_within (F := (· ∈ (parts5 : List Part))) e s)
  | kwpWrap e => exact parts5_has (fun _ _ _ _ _ _ _ _ _ _ _ _ _ _ _ _ _ _ _ _ _ _ _ => execKwpWrap_within (F := (· ∈ (parts5 : List Part))) e s)
  | kwpUnwrap e => exact parts5_has (fun _ _ _ _ _ _ _ _ _ _ _ _ _ _ _ _ _ _ _ _ _ _ _ => execKwpUnwrap_within (F := (· ∈ (parts5 : List Part))) e s)
  | clearImport e => exact parts5_has (fun _ _ _ _ _ _ _ _ _ _ _ _ _ _ _ _ _ _ _ _ _ _ _ => execClearImport_within (F := (· ∈ (parts5 : List Part))) e s)
  | tdesEcbEncrypt e => exact parts5_has (fun _ _ _ _ _ _ _ _ _ _ _ _ _ _ _ _ _ _ _ _ _ _ _ => execTdesEcbEncrypt_within (F := (· ∈ (parts5 : List Part))) e s)
  | tdesEcbDecrypt e => exact parts5_has (fun _ _ _ _ _ _ _ _ _ _ _ _ _ _ _ _ _ _ _ _ _ _ _ => execTdesEcbDecrypt_within (F := (· ∈ (parts5 : List Part))) e s)
  | tdesCbcEncrypt e => exact parts5_has (fun _ _ _ _ _ _ _ _ _ _ _ _ _ _ _ _ _ _ _ _ _ _ _ => execTdesCbcEncrypt_within (F := (· ∈ (parts5 : List Part))) e s)
  | tdesCbcDecrypt e => exact parts5_has (fun _ _ _ _ _ _ _ _ _ _ _ _ _ _ _ _ _ _ _ _ _ _ _ => execTdesCbcDecrypt_within (F := (· ∈ (parts5 : List Part))) e s)
  | tdesCmacGenerate e => exact parts5_has (fun _ _ _ _ _ _ _ _ _ _ _ _ _ _ _ _ _ _ _ _ _ _ _ => execTdesCmacGenerate_within (F := (· ∈ (parts5 : List Part))) e s)
  | tdesCmacVerify e => exact parts5_has (fun _ _ _ _ _ _ _ _ _ _ _ _ _ _ _ _ _ _ _ _ _ _ _ => execTdesCmacVerify_within (F := (· ∈ (parts5 : List Part))) e s)
  | macAlgorithm3Generate e => exact parts5_has (fun _ _ _ _ _ _ _ _ _ _ _ _ _ _ _ _ _ _ _ _ _ _ _ => execMacAlgorithm3Generate_within (F := (· ∈ (parts5 : List Part))) e s)
  | macAlgorithm3Verify e => exact parts5_has (fun _ _ _ _ _ _ _ _ _ _ _ _ _ _ _ _ _ _ _ _ _ _ _ => execMacAlgorithm3Verify_within (F := (· ∈ (parts5 : List Part))) e s)
  | sha3224 e => exact parts5_has (fun _ _ _ _ _ _ _ _ _ _ _ _ _ _ _ _ _ _ _ _ _ _ _ => execSha3224_within (F := (· ∈ (parts5 : List Part))) e s)
  | sha3256 e => exact parts5_has (fun _ _ _ _ _ _ _ _ _ _ _ _ _ _ _ _ _ _ _ _ _ _ _ => execSha3256_within (F := (· ∈ (parts5 : List Part))) e s)
  | sha3384 e => exact parts5_has (fun _ _ _ _ _ _ _ _ _ _ _ _ _ _ _ _ _ _ _ _ _ _ _ => execSha3384_within (F := (· ∈ (parts5 : List Part))) e s)
  | sha3512 e => exact parts5_has (fun _ _ _ _ _ _ _ _ _ _ _ _ _ _ _ _ _ _ _ _ _ _ _ => execSha3512_within (F := (· ∈ (parts5 : List Part))) e s)
  | shake128 e => exact parts5_has (fun _ _ _ _ _ _ _ _ _ _ _ _ _ _ _ _ _ _ _ _ _ _ _ => execShake128_within (F := (· ∈ (parts5 : List Part))) e s)
  | shake256 e => exact parts5_has (fun _ _ _ _ _ _ _ _ _ _ _ _ _ _ _ _ _ _ _ _ _ _ _ => execShake256_within (F := (· ∈ (parts5 : List Part))) e s)
  | kmac128Generate e => exact parts5_has (fun _ _ _ _ _ _ _ _ _ _ _ _ _ _ _ _ _ _ _ _ _ _ _ => execKmac128Generate_within (F := (· ∈ (parts5 : List Part))) e s)
  | kmac128Verify e => exact parts5_has (fun _ _ _ _ _ _ _ _ _ _ _ _ _ _ _ _ _ _ _ _ _ _ _ => execKmac128Verify_within (F := (· ∈ (parts5 : List Part))) e s)
  | kmac256Generate e => exact parts5_has (fun _ _ _ _ _ _ _ _ _ _ _ _ _ _ _ _ _ _ _ _ _ _ _ => execKmac256Generate_within (F := (· ∈ (parts5 : List Part))) e s)
  | kmac256Verify e => exact parts5_has (fun _ _ _ _ _ _ _ _ _ _ _ _ _ _ _ _ _ _ _ _ _ _ _ => execKmac256Verify_within (F := (· ∈ (parts5 : List Part))) e s)
  | kmac256Derivation e => exact parts5_has (fun _ _ _ _ _ _ _ _ _ _ _ _ _ _ _ _ _ _ _ _ _ _ _ => execKmac256Derivation_within (F := (· ∈ (parts5 : List Part))) e s)
  | mlDsaKeyGeneration e => exact parts6_has (fun _ _ _ _ _ _ _ _ _ _ _ _ _ _ _ _ _ _ _ _ _ _ _ _ => execMlDsaKeyGeneration_within (F := (· ∈ (parts6 : List Part))) e s)
  | mlDsaSign e => exact parts6_has (fun _ _ _ _ _ _ _ _ _ _ _ _ _ _ _ _ _ _ _ _ _ _ _ _ => execMlDsaSign_within (F := (· ∈ (parts6 : List Part))) e s)
  | mlDsaVerify e => exact parts5_has (fun _ _ _ _ _ _ _ _ _ _ _ _ _ _ _ _ _ _ _ _ _ _ _ => execMlDsaVerify_within (F := (· ∈ (parts5 : List Part))) e s)
  | mlKemKeyGeneration e => exact parts6_has (fun _ _ _ _ _ _ _ _ _ _ _ _ _ _ _ _ _ _ _ _ _ _ _ _ => execMlKemKeyGeneration_within (F := (· ∈ (parts6 : List Part))) e s)
  | mlKemEncapsulate e => exact parts6_has (fun _ _ _ _ _ _ _ _ _ _ _ _ _ _ _ _ _ _ _ _ _ _ _ _ => execMlKemEncapsulate_within (F := (· ∈ (parts6 : List Part))) e s)
  | mlKemDecapsulate e => exact parts5_has (fun _ _ _ _ _ _ _ _ _ _ _ _ _ _ _ _ _ _ _ _ _ _ _ => execMlKemDecapsulate_within (F := (· ∈ (parts5 : List Part))) e s)
  | rsaPrivateKeySignature e => exact parts6_has (fun _ _ _ _ _ _ _ _ _ _ _ _ _ _ _ _ _ _ _ _ _ _ _ _ => execRsaPrivateKeySignature_within (F := (· ∈ (parts6 : List Part))) e s)
  | rsaPublicVerify e => exact parts5_has (fun _ _ _ _ _ _ _ _ _ _ _ _ _ _ _ _ _ _ _ _ _ _ _ => execRsaPublicVerify_within (F := (· ∈ (parts5 : List Part))) e s)
  | rsaOaepUnwrap e => exact parts5_has (fun _ _ _ _ _ _ _ _ _ _ _ _ _ _ _ _ _ _ _ _ _ _ _ => execRsaOaepUnwrap_within (F := (· ∈ (parts5 : List Part))) e s)
  | rsaKeyGeneration e => exact parts6_has (fun _ _ _ _ _ _ _ _ _ _ _ _ _ _ _ _ _ _ _ _ _ _ _ _ => execRsaKeyGeneration_within (F := (· ∈ (parts6 : List Part))) e s)
  | ecdsaSign e => exact parts6_has (fun _ _ _ _ _ _ _ _ _ _ _ _ _ _ _ _ _ _ _ _ _ _ _ _ => execEcdsaSign_within (F := (· ∈ (parts6 : List Part))) e s)
  | ecdsaVerify e => exact parts5_has (fun _ _ _ _ _ _ _ _ _ _ _ _ _ _ _ _ _ _ _ _ _ _ _ => execEcdsaVerify_within (F := (· ∈ (parts5 : List Part))) e s)
  | ecdh e => exact parts5_has (fun _ _ _ _ _ _ _ _ _ _ _ _ _ _ _ _ _ _ _ _ _ _ _ => execEcdh_within (F := (· ∈ (parts5 : List Part))) e s)
  | ecKeyGeneration e => exact parts6_has (fun _ _ _ _ _ _ _ _ _ _ _ _ _ _ _ _ _ _ _ _ _ _ _ _ => execEcKeyGeneration_within (F := (· ∈ (parts6 : List Part))) e s)
  | ed25519Sign e => exact parts5_has (fun _ _ _ _ _ _ _ _ _ _ _ _ _ _ _ _ _ _ _ _ _ _ _ => execEd25519Sign_within (F := (· ∈ (parts5 : List Part))) e s)
  | ed25519Verify e => exact parts5_has (fun _ _ _ _ _ _ _ _ _ _ _ _ _ _ _ _ _ _ _ _ _ _ _ => execEd25519Verify_within (F := (· ∈ (parts5 : List Part))) e s)
  | modularExponentiation e => exact parts5_has (fun _ _ _ _ _ _ _ _ _ _ _ _ _ _ _ _ _ _ _ _ _ _ _ => execModularExponentiation_within (F := (· ∈ (parts5 : List Part))) e s)
  | drbgGenerate e => exact parts6_has (fun _ _ _ _ _ _ _ _ _ _ _ _ _ _ _ _ _ _ _ _ _ _ _ _ => execDrbgGenerate_within (F := (· ∈ (parts6 : List Part))) e s)
  | drbgReseed e => exact parts6_has (fun _ _ _ _ _ _ _ _ _ _ _ _ _ _ _ _ _ _ _ _ _ _ _ _ => execDrbgReseed_within (F := (· ∈ (parts6 : List Part))) e s)
  | drbgGenerateKey e => exact parts6_has (fun _ _ _ _ _ _ _ _ _ _ _ _ _ _ _ _ _ _ _ _ _ _ _ _ => execDrbgGenerateKey_within (F := (· ∈ (parts6 : List Part))) e s)
  | drbgAutoReseed k p => exact own12_has (fun _ => execDrbgAutoReseed_within (F := (· ∈ ([.krs] : List Part))) k p s)
  | pinTranslate e => exact parts6_has (fun _ _ _ _ _ _ _ _ _ _ _ _ _ _ _ _ _ _ _ _ _ _ _ _ => execPinTranslate_within (F := (· ∈ (parts6 : List Part))) e s)
  | pinVerifyOffset e => exact parts5_has (fun _ _ _ _ _ _ _ _ _ _ _ _ _ _ _ _ _ _ _ _ _ _ _ => execPinVerifyOffset_within (F := (· ∈ (parts5 : List Part))) e s)
  | pinVerifyPvv e => exact parts5_has (fun _ _ _ _ _ _ _ _ _ _ _ _ _ _ _ _ _ _ _ _ _ _ _ => execPinVerifyPvv_within (F := (· ∈ (parts5 : List Part))) e s)
  | pinOffsetGenerate e => exact parts5_has (fun _ _ _ _ _ _ _ _ _ _ _ _ _ _ _ _ _ _ _ _ _ _ _ => execPinOffsetGenerate_within (F := (· ∈ (parts5 : List Part))) e s)
  | dukptInitialKey e => exact parts5_has (fun _ _ _ _ _ _ _ _ _ _ _ _ _ _ _ _ _ _ _ _ _ _ _ => execDukptInitialKey_within (F := (· ∈ (parts5 : List Part))) e s)
  | dukptMacGenerate e => exact parts5_has (fun _ _ _ _ _ _ _ _ _ _ _ _ _ _ _ _ _ _ _ _ _ _ _ => execDukptMacGenerate_within (F := (· ∈ (parts5 : List Part))) e s)
  | dukptMacVerify e => exact parts5_has (fun _ _ _ _ _ _ _ _ _ _ _ _ _ _ _ _ _ _ _ _ _ _ _ => execDukptMacVerify_within (F := (· ∈ (parts5 : List Part))) e s)
  | dukptDataDecrypt e => exact parts5_has (fun _ _ _ _ _ _ _ _ _ _ _ _ _ _ _ _ _ _ _ _ _ _ _ => execDukptDataDecrypt_within (F := (· ∈ (parts5 : List Part))) e s)
  | tr31Unwrap e => exact parts5_has (fun _ _ _ _ _ _ _ _ _ _ _ _ _ _ _ _ _ _ _ _ _ _ _ => execTr31Unwrap_within (F := (· ∈ (parts5 : List Part))) e s)
  | tr31Wrap e => exact parts6_has (fun _ _ _ _ _ _ _ _ _ _ _ _ _ _ _ _ _ _ _ _ _ _ _ _ => execTr31Wrap_within (F := (· ∈ (parts6 : List Part))) e s)
  | arqcVerify e => exact parts5_has (fun _ _ _ _ _ _ _ _ _ _ _ _ _ _ _ _ _ _ _ _ _ _ _ => execArqcVerify_within (F := (· ∈ (parts5 : List Part))) e s)
  | arqcVerifyAndArpcGenerate e => exact parts5_has (fun _ _ _ _ _ _ _ _ _ _ _ _ _ _ _ _ _ _ _ _ _ _ _ => execArqcVerifyAndArpcGenerate_within (F := (· ∈ (parts5 : List Part))) e s)
  | cvvGenerate e => exact parts5_has (fun _ _ _ _ _ _ _ _ _ _ _ _ _ _ _ _ _ _ _ _ _ _ _ => execCvvGenerate_within (F := (· ∈ (parts5 : List Part))) e s)
  | cvvVerify e => exact parts5_has (fun _ _ _ _ _ _ _ _ _ _ _ _ _ _ _ _ _ _ _ _ _ _ _ => execCvvVerify_within (F := (· ∈ (parts5 : List Part))) e s)
  | luhnCheck e => exact parts5_has (fun _ _ _ _ _ _ _ _ _ _ _ _ _ _ _ _ _ _ _ _ _ _ _ => execLuhnCheck_within (F := (· ∈ (parts5 : List Part))) e s)
  | luhnCompute e => exact parts5_has (fun _ _ _ _ _ _ _ _ _ _ _ _ _ _ _ _ _ _ _ _ _ _ _ => execLuhnCompute_within (F := (· ∈ (parts5 : List Part))) e s)
  | ff1Encrypt e => exact parts5_has (fun _ _ _ _ _ _ _ _ _ _ _ _ _ _ _ _ _ _ _ _ _ _ _ => execFf1Encrypt_within (F := (· ∈ (parts5 : List Part))) e s)
  | ff1Decrypt e => exact parts5_has (fun _ _ _ _ _ _ _ _ _ _ _ _ _ _ _ _ _ _ _ _ _ _ _ => execFf1Decrypt_within (F := (· ∈ (parts5 : List Part))) e s)
  | ff1ReTokenize e => exact parts5_has (fun _ _ _ _ _ _ _ _ _ _ _ _ _ _ _ _ _ _ _ _ _ _ _ => execFf1ReTokenize_within (F := (· ∈ (parts5 : List Part))) e s)
  | ff31Encrypt e => exact parts5_has (fun _ _ _ _ _ _ _ _ _ _ _ _ _ _ _ _ _ _ _ _ _ _ _ => execFf31Encrypt_within (F := (· ∈ (parts5 : List Part))) e s)
  | ff31Decrypt e => exact parts5_has (fun _ _ _ _ _ _ _ _ _ _ _ _ _ _ _ _ _ _ _ _ _ _ _ => execFf31Decrypt_within (F := (· ∈ (parts5 : List Part))) e s)
  | ff31ReTokenize e => exact parts5_has (fun _ _ _ _ _ _ _ _ _ _ _ _ _ _ _ _ _ _ _ _ _ _ _ => execFf31ReTokenize_within (F := (· ∈ (parts5 : List Part))) e s)
  | stagedEntryErase slot => exact own13_has (fun _ => execStagedEntryErase_within (F := (· ∈ ([.ks] : List Part))) slot s)
  | ksErase p v => exact own14_has (fun _ _ _ _ _ _ => execKsErase_within (F := (· ∈ ([.regs, .ks, .arbs, .westad, .audit, .out] : List Part))) p v s)
  | blankMove t => exact parts1_has (fun _ _ _ _ _ _ _ _ _ => execBlankMove_within (F := (· ∈ (parts1 : List Part))) t s)
  | blankResult t port v late => exact parts7_has (fun _ _ _ _ _ => execBlankResult_within (F := (· ∈ (parts7 : List Part))) t port v late s)
  | blankScrub k mismatch => exact parts7_has (fun _ _ _ _ _ => execBlankScrub_within (F := (· ∈ (parts7 : List Part))) k mismatch s)
  | blankImageLoad k => exact own8_has (fun _ _ => execBlankImageLoad_within (F := (· ∈ ([.threads, .krs] : List Part))) k s)
  | dmaHead p c v => exact parts8_has (fun _ _ _ _ _ _ _ _ => execDmaHead_within (F := (· ∈ (parts8 : List Part))) p c v s)
  | dmaResume p c => exact parts8_has (fun _ _ _ _ _ _ _ _ => execDmaResume_within (F := (· ∈ (parts8 : List Part))) p c s)
  | dmaAbort p c => exact own17_has (fun _ _ _ _ => execDmaAbort_within (F := (· ∈ ([.mem, .poison, .threads, .dma] : List Part))) p c s)
  | dmaChunk c => exact own18_has (fun _ _ _ _ _ _ _ _ _ => execDmaChunk_within (F := (· ∈ ([.regs, .mem, .poison, .threads, .krs, .dmaTlb, .dma, .dmaLast, .srcs] : List Part))) c s)
  | tlbinvPage p va => exact own19_has (fun _ => execTlbinvPage_within (F := (· ∈ ([.inval] : List Part))) p va s)
  | tlbinvAll p => exact own19_has (fun _ => execTlbinvAll_within (F := (· ∈ ([.inval] : List Part))) p s)
  | tlbinvComplete p => exact own20_has (fun _ _ _ _ _ => execTlbinvComplete_within (F := (· ∈ ([.threads, .cyls, .krs, .dmaTlb, .inval] : List Part))) p s)
  | cylPtroot p v => exact own21_has (fun _ _ => execCylPtroot_within (F := (· ∈ ([.regs, .inval] : List Part))) p v s)
  | commandArrival l h frame => exact parts9_has (fun _ _ _ _ _ _ _ => execCommandArrival_within (F := (· ∈ (parts9 : List Part))) l h frame s)
  | dispatch q parityError => exact own23_has (fun _ _ _ _ _ _ _ _ _ => execDispatch_within (F := (· ∈ ([.regs, .threads, .cyls, .engs, .intake, .doms, .faults, .pins, .out] : List Part))) q parityError s)
  | inboxFall t => exact parts10_has (fun _ _ _ _ _ => execInboxFall_within (F := (· ∈ (parts10 : List Part))) t s)
  | landingComplete t badWords => exact parts11_has (fun _ _ _ _ _ _ _ _ _ _ _ _ => execLandingComplete_within (F := (· ∈ (parts11 : List Part))) t badWords s)
  | deadlineExpiry q => exact own26_has (fun _ _ _ _ => execDeadlineExpiry_within (F := (· ∈ ([.regs, .intake, .pins, .out] : List Part))) q s)
  | cutThroughTimeout f k => exact own27_has (fun _ _ => execCutThroughTimeout_within (F := (· ∈ ([.threads, .intake] : List Part))) f k s)
  | release t => exact parts10_has (fun _ _ _ _ _ => execRelease_within (F := (· ∈ (parts10 : List Part))) t s)
  | rewind t => exact parts10_has (fun _ _ _ _ _ => execRewind_within (F := (· ∈ (parts10 : List Part))) t s)
  | respond t rq => exact parts10_has (fun _ _ _ _ _ => execRespond_within (F := (· ∈ (parts10 : List Part))) t rq s)
  | respondAndRelease t rq => exact parts10_has (fun _ _ _ _ _ => execRespondAndRelease_within (F := (· ∈ (parts10 : List Part))) t rq s)
  | responseSend q parityError => exact own28_has (fun _ _ _ _ _ _ _ _ _ _ => execResponseSend_within (F := (· ∈ ([.regs, .threads, .cyls, .engs, .intake, .doms, .faults, .pins, .linkPower, .out] : List Part))) q parityError s)
  | msixModerationTimer q => exact own29_has (fun _ _ _ => execMsixModerationTimer_within (F := (· ∈ ([.intake, .linkPower, .out] : List Part))) q s)
  | holdNMinLow g => exact own30_has (fun _ _ => execHoldNMinLow_within (F := (· ∈ ([.intake, .pins] : List Part))) g s)
  | pfcRefresh port prio => exact own31_has (fun _ _ _ _ _ _ _ => execPfcRefresh_within (F := (· ∈ ([.threads, .cyls, .engs, .intake, .arbs, .pins, .out] : List Part))) port prio s)
  | crossingPush x w lastOfFrame => exact own32_has (fun _ _ => execCrossingPush_within (F := (· ∈ ([.regs, .xq] : List Part))) x w lastOfFrame s)
  | crossingPop x => exact own33_has (fun _ _ => execCrossingPop_within (F := (· ∈ ([.rdata, .xq] : List Part))) x s)
  | telemetryItem j source words done => exact own34_has (fun _ _ => execTelemetryItem_within (F := (· ∈ ([.regs, .intake] : List Part))) j source words done s)
  | telemetryDrain j parityError => exact own35_has (fun _ _ _ _ _ _ _ _ _ => execTelemetryDrain_within (F := (· ∈ ([.regs, .mem, .poison, .threads, .cyls, .engs, .intake, .doms, .faults] : List Part))) j parityError s)
  | queTlmFlush p j => exact own34_has (fun _ _ => execQueTlmFlush_within (F := (· ∈ ([.regs, .intake] : List Part))) p j s)
  | queTcons p j v => exact own36_has (fun _ => execQueTcons_within (F := (· ∈ ([.regs] : List Part))) p j v s)
  | turnDelta p va => exact own37_has (fun _ => execTurnDelta_within (F := (· ∈ ([.turns] : List Part))) p va s)
  | deltaVerifyDone p => exact own38_has (fun _ _ => execDeltaVerifyDone_within (F := (· ∈ ([.turns, .audit] : List Part))) p s)
  | turnSetOpen p => exact parts12_has (fun _ _ _ _ _ => execTurnSetOpen_within (F := (· ∈ (parts12 : List Part))) p s)
  | turnSetClose p => exact parts12_has (fun _ _ _ _ _ => execTurnSetClose_within (F := (· ∈ (parts12 : List Part))) p s)
  | turnSetDiscard p => exact parts12_has (fun _ _ _ _ _ => execTurnSetDiscard_within (F := (· ∈ (parts12 : List Part))) p s)
  | turnCommit p => exact own40_has (fun _ _ _ _ => execTurnCommit_within (F := (· ∈ ([.ks, .turns, .audit, .faults] : List Part))) p s)
  | turnDrainEnd => exact parts13_has (fun _ _ _ _ _ _ _ _ _ _ _ _ _ _ _ _ _ _ _ _ _ _ _ _ _ _ _ _ _ _ _ _ _ _ _ _ _ _ _ _ => execTurnDrainEnd_within (F := (· ∈ (parts13 : List Part))) s)
  | turnDrainLimit => exact parts13_has (fun _ _ _ _ _ _ _ _ _ _ _ _ _ _ _ _ _ _ _ _ _ _ _ _ _ _ _ _ _ _ _ _ _ _ _ _ _ _ _ _ => execTurnDrainLimit_within (F := (· ∈ (parts13 : List Part))) s)
  | quadClear q => exact parts14_has (fun _ _ _ _ _ _ _ _ _ _ _ _ _ _ _ => execQuadClear_within (F := (· ∈ (parts14 : List Part))) q s)
  | modeChangeToFree c => exact own43_has (fun _ => execModeChangeToFree_within (F := (· ∈ ([.cyls] : List Part))) c s)
  | arbiterDraw a contestants => exact own44_has (fun _ => execArbiterDraw_within (F := (· ∈ ([.arbs] : List Part))) a contestants s)
  | eventCountCrossing d events => exact own45_has (fun _ _ _ _ _ => execEventCountCrossing_within (F := (· ∈ ([.regs, .arbs, .doms, .westad, .out] : List Part))) d events s)
  | stallWatchExpiry d inward part => exact parts15_has (fun _ _ _ _ _ _ _ => execStallWatchExpiry_within (F := (· ∈ (parts15 : List Part))) d inward part s)
  | domainReset d => exact own47_has (fun _ _ _ => execDomainReset_within (F := (· ∈ ([.regs, .doms, .xq] : List Part))) d s)
  | arbXmode p v => exact own36_has (fun _ => execArbXmode_within (F := (· ∈ ([.regs] : List Part))) p v s)
  | knkDoorbell p src => exact own48_has (fun _ _ _ => execKnkDoorbell_within (F := (· ∈ ([.regs, .threads, .srcs] : List Part))) p src s)
  | deviceRaise p src => exact own48_has (fun _ _ _ => execDeviceRaise_within (F := (· ∈ ([.regs, .threads, .srcs] : List Part))) p src s)
  | knkPendSet p src => exact own48_has (fun _ _ _ => execKnkPendSet_within (F := (· ∈ ([.regs, .threads, .srcs] : List Part))) p src s)
  | knkPendClr p src => exact own49_has (fun _ _ => execKnkPendClr_within (F := (· ∈ ([.regs, .srcs] : List Part))) p src s)
  | knkMaskSet p src => exact own48_has (fun _ _ _ => execKnkMaskSet_within (F := (· ∈ ([.regs, .threads, .srcs] : List Part))) p src s)
  | knkMaskClr p src => exact own48_has (fun _ _ _ => execKnkMaskClr_within (F := (· ∈ ([.regs, .threads, .srcs] : List Part))) p src s)
  | moderationRipe src => exact own50_has (fun _ _ => execModerationRipe_within (F := (· ∈ ([.threads, .srcs] : List Part))) src s)
  | knockEntry t => exact parts16_has (fun _ _ _ _ _ _ _ _ _ _ => execKnockEntry_within (F := (· ∈ (parts16 : List Part))) t s)
  | syncKnockEntry t => exact parts16_has (fun _ _ _ _ _ _ _ _ _ _ => execSyncKnockEntry_within (F := (· ∈ (parts16 : List Part))) t s)
  | knkClaim t => exact own52_has (fun _ _ _ => execKnkClaim_within (F := (· ∈ ([.rdata, .threads, .srcs] : List Part))) t s)
  | knkEoi t src => exact own48_has (fun _ _ _ => execKnkEoi_within (F := (· ∈ ([.regs, .threads, .srcs] : List Part))) t src s)
  | knkRtn t => exact own53_has (fun _ _ _ _ => execKnkRtn_within (F := (· ∈ ([.regs, .threads, .cyls, .krs] : List Part))) t s)
  | threadFreeze t => exact own54_has (fun _ _ _ => execThreadFreeze_within (F := (· ∈ ([.threads, .cyls, .engs] : List Part))) t s)
  | laneLossOfLock l => exact parts15_has (fun _ _ _ _ _ _ _ => execLaneLossOfLock_within (F := (· ∈ (parts15 : List Part))) l s)
  | arpNdEcho l kind target => exact own55_has (fun _ _ => execArpNdEcho_within (F := (· ∈ ([.regs, .out] : List Part))) l kind target s)
  | ptpMessage port domain m => exact own56_has (fun _ _ _ => execPtpMessage_within (F := (· ∈ ([.now, .regs, .ptpGood] : List Part))) port domain m s)
  | pauseFrameReceived port prios quanta => exact own57_has (fun _ => execPauseFrameReceived_within (F := (· ∈ ([.intake] : List Part))) port prios quanta s)
  | hello l h frame => exact parts17_has (fun _ _ _ _ _ _ _ _ _ _ _ _ _ _ _ _ _ _ _ _ _ _ _ _ => execHello_within (F := (· ∈ (parts17 : List Part))) l h frame s)
  | close l h frame => exact own59_has (fun _ _ _ => execClose_within (F := (· ∈ ([.regs, .intake, .supply] : List Part))) l h frame s)
  | sessionIdleTimeout session => exact own57_has (fun _ => execSessionIdleTimeout_within (F := (· ∈ ([.intake] : List Part))) session s)
  | commandWindowWrite f k bytes disabledBytes => exact own60_has (fun _ _ _ _ _ _ => execCommandWindowWrite_within (F := (· ∈ ([.free, .regs, .threads, .intake, .pins, .out] : List Part))) f k bytes disabledBytes s)
  | cwinResync f k => exact own27_has (fun _ _ => execCwinResync_within (F := (· ∈ ([.threads, .intake] : List Part))) f k s)
  | rbase f k v => exact own36_has (fun _ => execRbase_within (F := (· ∈ ([.regs] : List Part))) f k v s)
  | rcons f k v => exact own36_has (fun _ => execRcons_within (F := (· ∈ ([.regs] : List Part))) f k v s)
  | flrVf f => exact own61_has (fun _ _ _ => execFlrVf_within (F := (· ∈ ([.regs, .threads, .intake] : List Part))) f s)
  | flrPf0 => exact own61_has (fun _ _ _ => execFlrPf0_within (F := (· ∈ ([.regs, .threads, .intake] : List Part))) s)
  | pcieLinkDown => exact own62_has (fun _ _ _ _ => execPcieLinkDown_within (F := (· ∈ ([.regs, .doms, .xq, .linkPower] : List Part))) s)
  | perstN asserted => exact own63_has (fun _ _ _ _ _ => execPerstN_within (F := (· ∈ ([.regs, .doms, .xq, .pins, .linkPower] : List Part))) asserted s)
  | flitReceive l flit => exact parts18_has (fun _ _ _ _ _ _ _ => execFlitReceive_within (F := (· ∈ (parts18 : List Part))) l flit s)
  | nak l seq => exact parts18_has (fun _ _ _ _ _ _ _ => execNak_within (F := (· ∈ (parts18 : List Part))) l seq s)
  | replayTimeout l => exact parts18_has (fun _ _ _ _ _ _ _ => execReplayTimeout_within (F := (· ∈ (parts18 : List Part))) l s)
  | westadLaneFailure l lane => exact own65_has (fun _ _ _ _ _ _ _ _ _ _ _ => execWestadLaneFailure_within (F := (· ∈ ([.free, .regs, .threads, .cyls, .engs, .arbs, .doms, .xq, .westad, .faults, .out] : List Part))) l lane s)
  | westadLinkDown l => exact parts18_has (fun _ _ _ _ _ _ _ => execWestadLinkDown_within (F := (· ∈ (parts18 : List Part))) l s)
  | messageResendTimeout m => exact own66_has (fun _ _ _ => execMessageResendTimeout_within (F := (· ∈ ([.arbs, .westad, .out] : List Part))) m s)
  | route m links => exact own67_has (fun _ _ _ _ => execRoute_within (F := (· ∈ ([.free, .arbs, .westad, .out] : List Part))) m links s)
  | ack m cls mseq => exact own68_has (fun _ => execAck_within (F := (· ∈ ([.westad] : List Part))) m cls mseq s)
  | kx1 m body => exact own69_has (fun _ _ _ _ _ => execKx1_within (F := (· ∈ ([.free, .arbs, .westad, .audit, .out] : List Part))) m body s)
  | kx2 m body => exact own70_has (fun _ _ _ _ => execKx2_within (F := (· ∈ ([.arbs, .westad, .audit, .out] : List Part))) m body s)
  | keyingRetry m => exact own67_has (fun _ _ _ _ => execKeyingRetry_within (F := (· ∈ ([.free, .arbs, .westad, .out] : List Part))) m s)
  | mseqRekey m => exact own67_has (fun _ _ _ _ => execMseqRekey_within (F := (· ∈ ([.free, .arbs, .westad, .out] : List Part))) m s)
  | stage m origin oseq slot copies => exact own71_has (fun _ _ _ _ => execStage_within (F := (· ∈ ([.ks, .arbs, .westad, .out] : List Part))) m origin oseq slot copies s)
  | erase m origin oseq slot => exact own71_has (fun _ _ _ _ => execErase_within (F := (· ∈ ([.ks, .arbs, .westad, .out] : List Part))) m origin oseq slot s)
  | discardMsg m origin oseq => exact own71_has (fun _ _ _ _ => execDiscardMsg_within (F := (· ∈ ([.ks, .arbs, .westad, .out] : List Part))) m origin oseq s)
  | propose m turn ksd exd => exact parts13_has (fun _ _ _ _ _ _ _ _ _ _ _ _ _ _ _ _ _ _ _ _ _ _ _ _ _ _ _ _ _ _ _ _ _ _ _ _ _ _ _ _ => execPropose_within (F := (· ∈ (parts13 : List Part))) m turn ksd exd s)
  | vote m turn yes reason => exact parts13_has (fun _ _ _ _ _ _ _ _ _ _ _ _ _ _ _ _ _ _ _ _ _ _ _ _ _ _ _ _ _ _ _ _ _ _ _ _ _ _ _ _ => execVote_within (F := (· ∈ (parts13 : List Part))) m turn yes reason s)
  | apply m turn => exact parts13_has (fun _ _ _ _ _ _ _ _ _ _ _ _ _ _ _ _ _ _ _ _ _ _ _ _ _ _ _ _ _ _ _ _ _ _ _ _ _ _ _ _ => execApply_within (F := (· ∈ (parts13 : List Part))) m turn s)
  | abort m turn => exact parts13_has (fun _ _ _ _ _ _ _ _ _ _ _ _ _ _ _ _ _ _ _ _ _ _ _ _ _ _ _ _ _ _ _ _ _ _ _ _ _ _ _ _ => execAbort_within (F := (· ∈ (parts13 : List Part))) m turn s)
  | doneMsg m turn => exact parts13_has (fun _ _ _ _ _ _ _ _ _ _ _ _ _ _ _ _ _ _ _ _ _ _ _ _ _ _ _ _ _ _ _ _ _ _ _ _ _ _ _ _ => execDoneMsg_within (F := (· ∈ (parts13 : List Part))) m turn s)
  | query m turn => exact own66_has (fun _ _ _ => execQuery_within (F := (· ∈ ([.arbs, .westad, .out] : List Part))) m turn s)
  | stateMsg m turn outcome => exact parts13_has (fun _ _ _ _ _ _ _ _ _ _ _ _ _ _ _ _ _ _ _ _ _ _ _ _ _ _ _ _ _ _ _ _ _ _ _ _ _ _ _ _ => execStateMsg_within (F := (· ∈ (parts13 : List Part))) m turn outcome s)
  | voteOutcomeTimeout => exact own66_has (fun _ _ _ => execVoteOutcomeTimeout_within (F := (· ∈ ([.arbs, .westad, .out] : List Part))) s)
  | queryOutcomeTimeout => exact parts13_has (fun _ _ _ _ _ _ _ _ _ _ _ _ _ _ _ _ _ _ _ _ _ _ _ _ _ _ _ _ _ _ _ _ _ _ _ _ _ _ _ _ => execQueryOutcomeTimeout_within (F := (· ∈ (parts13 : List Part))) s)
  | outcomeUnknownTimeout => exact parts5_has (fun _ _ _ _ _ _ _ _ _ _ _ _ _ _ _ _ _ _ _ _ _ _ _ => execOutcomeUnknownTimeout_within (F := (· ∈ (parts5 : List Part))) s)
  | smbusBlockWrite bytes last pecOk => exact parts9_has (fun _ _ _ _ _ _ _ => execSmbusBlockWrite_within (F := (· ∈ (parts9 : List Part))) bytes last pecOk s)
  | smbusBlockRead pecOk => exact own72_has (fun _ _ _ _ _ => execSmbusBlockRead_within (F := (· ∈ ([.regs, .intake, .supply, .pins, .out] : List Part))) pecOk s)
  | smbusReadLcId pecOk => exact own55_has (fun _ _ => execSmbusReadLcId_within (F := (· ∈ ([.regs, .out] : List Part))) pecOk s)
  | uartInput byte => exact own73_has (fun _ => execUartInput_within (F := (· ∈ ([.uartIn] : List Part))) byte s)
  | dbgchal => exact own74_has (fun _ _ => execDbgchal_within (F := (· ∈ ([.free, .dbg] : List Part))) s)
  | dbgport a => exact own75_has (fun _ _ _ _ => execDbgport_within (F := (· ∈ ([.mem, .poison, .threads, .dbg] : List Part))) a s)
  | dbgrsp key sig => exact own76_has (fun _ _ _ _ => execDbgrsp_within (F := (· ∈ ([.free, .threads, .dbg, .audit] : List Part))) key sig s)
  | debugFreeze => exact own2_has (fun _ => execDebugFreeze_within (F := (· ∈ ([.threads] : List Part))) s)
  | debugRelease => exact own2_has (fun _ => execDebugRelease_within (F := (· ∈ ([.threads] : List Part))) s)
  | tapReset => exact own76_has (fun _ _ _ _ => execTapReset_within (F := (· ∈ ([.free, .threads, .dbg, .audit] : List Part))) s)
  | mainsLoss => exact own77_has (fun _ _ _ _ => execMainsLoss_within (F := (· ∈ ([.regs, .threads, .srcs, .supply] : List Part))) s)
  | mainsReturn => exact parts19_has (fun _ _ _ _ _ => execMainsReturn_within (F := (· ∈ (parts19 : List Part))) s)
  | holdUpExpiry => exact parts20_has (fun _ _ _ _ _ _ _ _ _ _ _ _ _ _ _ _ _ _ _ _ _ _ _ _ _ _ _ _ _ _ _ _ _ _ _ _ _ _ => execHoldUpExpiry_within (F := (· ∈ (parts20 : List Part))) s)
  | powerFailReleaseLimit => exact parts10_has (fun _ _ _ _ _ => execPowerFailReleaseLimit_within (F := (· ∈ (parts10 : List Part))) s)
  | pfdone p => exact parts3_has (fun _ _ _ _ _ _ _ _ _ _ _ _ _ _ _ _ _ _ _ _ _ _ _ _ _ _ _ _ _ _ _ _ _ _ _ _ _ _ _ _ _ => execPfdone_within (F := (· ∈ (parts3 : List Part))) p s)
  | powerFailEnd => exact parts3_has (fun _ _ _ _ _ _ _ _ _ _ _ _ _ _ _ _ _ _ _ _ _ _ _ _ _ _ _ _ _ _ _ _ _ _ _ _ _ _ _ _ _ => execPowerFailEnd_within (F := (· ∈ (parts3 : List Part))) s)
  | flatWindowBoundary meanLoad => exact parts19_has (fun _ _ _ _ _ => execFlatWindowBoundary_within (F := (· ∈ (parts19 : List Part))) meanLoad s)
  | governorTick k demand temp ro => exact own80_has (fun _ _ _ _ => execGovernorTick_within (F := (· ∈ ([.regs, .threads, .krs, .srcs] : List Part))) k demand temp ro s)
  | ledgerRecord => exact own81_has (fun _ _ => execLedgerRecord_within (F := (· ∈ ([.krs, .audit] : List Part))) s)
  | wearFuseBlow k => exact own82_has (fun _ => execWearFuseBlow_within (F := (· ∈ ([.fuses] : List Part))) k s)
  | learningEnd k => exact own83_has (fun _ _ => execLearningEnd_within (F := (· ∈ ([.free, .krs] : List Part))) k s)
  | restEntry c => exact own43_has (fun _ => execRestEntry_within (F := (· ∈ ([.cyls] : List Part))) c s)
  | restExit c => exact own84_has (fun _ _ => execRestExit_within (F := (· ∈ ([.threads, .cyls] : List Part))) c s)
  | dozeEntry k => exact own12_has (fun _ => execDozeEntry_within (F := (· ∈ ([.krs] : List Part))) k s)
  | dozeExit k => exact own8_has (fun _ _ => execDozeExit_within (F := (· ∈ ([.threads, .krs] : List Part))) k s)
  | cylIdleT p v => exact own36_has (fun _ => execCylIdleT_within (F := (· ∈ ([.regs] : List Part))) p v s)
  | pwrSleep p v => exact own85_has (fun _ _ _ _ _ _ => execPwrSleep_within (F := (· ∈ ([.regs, .threads, .intake, .srcs, .supply, .pins] : List Part))) p v s)
  | watchDrainEnd => exact parts21_has (fun _ _ _ _ _ _ _ _ _ _ _ _ _ _ _ _ _ _ _ _ _ _ => execWatchDrainEnd_within (F := (· ∈ (parts21 : List Part))) s)
  | wakeAlarm => exact own87_has (fun _ => execWakeAlarm_within (F := (· ∈ ([.supply] : List Part))) s)
  | wakeN => exact own87_has (fun _ => execWakeN_within (F := (· ∈ ([.supply] : List Part))) s)
  | watchWake => exact parts22_has (fun _ _ _ _ _ _ _ _ _ _ _ _ _ _ _ _ _ _ _ _ _ _ _ _ _ _ _ => execWatchWake_within (F := (· ∈ (parts22 : List Part))) s)
  | watchMainsAbsent => exact parts3_has (fun _ _ _ _ _ _ _ _ _ _ _ _ _ _ _ _ _ _ _ _ _ _ _ _ _ _ _ _ _ _ _ _ _ _ _ _ _ _ _ _ _ => execWatchMainsAbsent_within (F := (· ∈ (parts3 : List Part))) s)
  | keepPadrel p v => exact own87_has (fun _ => execKeepPadrel_within (F := (· ∈ ([.supply] : List Part))) p v s)
  | tbSet p v => exact own89_has (fun _ => execTbSet_within (F := (· ∈ ([.now] : List Part))) p v s)
  | ptpLockLoss => exact own90_has (fun _ _ => execPtpLockLoss_within (F := (· ∈ ([.regs, .ptpGood] : List Part))) s)
  | crystalQualified => exact own91_has (fun _ _ => execCrystalQualified_within (F := (· ∈ ([.keeper, .audit] : List Part))) s)
  | crystalLost => exact own92_has (fun _ _ _ => execCrystalLost_within (F := (· ∈ ([.regs, .keeper, .audit] : List Part))) s)
  | crystalStartTimeout => exact own92_has (fun _ _ _ => execCrystalStartTimeout_within (F := (· ∈ ([.regs, .keeper, .audit] : List Part))) s)
  | keeperWatchdogExpiry => exact parts22_has (fun _ _ _ _ _ _ _ _ _ _ _ _ _ _ _ _ _ _ _ _ _ _ _ _ _ _ _ => execKeeperWatchdogExpiry_within (F := (· ∈ (parts22 : List Part))) s)
  | keeperSelfTest passed => exact parts22_has (fun _ _ _ _ _ _ _ _ _ _ _ _ _ _ _ _ _ _ _ _ _ _ _ _ _ _ _ => execKeeperSelfTest_within (F := (· ∈ (parts22 : List Part))) passed s)
  | meshContinuityFault segment => exact parts23_has (fun _ _ _ _ _ _ _ _ _ _ _ _ _ _ _ _ _ _ _ _ _ _ _ _ _ _ _ _ _ _ _ => execMeshContinuityFault_within (F := (· ∈ (parts23 : List Part))) segment s)
  | meshPatternCheck decodes => exact parts23_has (fun _ _ _ _ _ _ _ _ _ _ _ _ _ _ _ _ _ _ _ _ _ _ _ _ _ _ _ _ _ _ _ => execMeshPatternCheck_within (F := (· ∈ (parts23 : List Part))) decodes s)
  | lightDetected diode => exact parts23_has (fun _ _ _ _ _ _ _ _ _ _ _ _ _ _ _ _ _ _ _ _ _ _ _ _ _ _ _ _ _ _ _ => execLightDetected_within (F := (· ∈ (parts23 : List Part))) diode s)
  | temperatureSample sensor celsius => exact parts23_has (fun _ _ _ _ _ _ _ _ _ _ _ _ _ _ _ _ _ _ _ _ _ _ _ _ _ _ _ _ _ _ _ => execTemperatureSample_within (F := (· ∈ (parts23 : List Part))) sensor celsius s)
  | railGlitch rail => exact parts23_has (fun _ _ _ _ _ _ _ _ _ _ _ _ _ _ _ _ _ _ _ _ _ _ _ _ _ _ _ _ _ _ _ => execRailGlitch_within (F := (· ∈ (parts23 : List Part))) rail s)
  | lcToCut p va => exact parts13_has (fun _ _ _ _ _ _ _ _ _ _ _ _ _ _ _ _ _ _ _ _ _ _ _ _ _ _ _ _ _ _ _ _ _ _ _ _ _ _ _ _ => execLcToCut_within (F := (· ∈ (parts13 : List Part))) p va s)
  | lcToKeyed p va => exact parts13_has (fun _ _ _ _ _ _ _ _ _ _ _ _ _ _ _ _ _ _ _ _ _ _ _ _ _ _ _ _ _ _ _ _ _ _ _ _ _ _ _ _ => execLcToKeyed_within (F := (· ∈ (parts13 : List Part))) p va s)
  | lcToLocked p va => exact parts13_has (fun _ _ _ _ _ _ _ _ _ _ _ _ _ _ _ _ _ _ _ _ _ _ _ _ _ _ _ _ _ _ _ _ _ _ _ _ _ _ _ _ => execLcToLocked_within (F := (· ∈ (parts13 : List Part))) p va s)
  | lcToReturned p va => exact parts13_has (fun _ _ _ _ _ _ _ _ _ _ _ _ _ _ _ _ _ _ _ _ _ _ _ _ _ _ _ _ _ _ _ _ _ _ _ _ _ _ _ _ => execLcToReturned_within (F := (· ∈ (parts13 : List Part))) p va s)
  | lcToScrapped p va => exact parts13_has (fun _ _ _ _ _ _ _ _ _ _ _ _ _ _ _ _ _ _ _ _ _ _ _ _ _ _ _ _ _ _ _ _ _ _ _ _ _ _ _ _ => execLcToScrapped_within (F := (· ∈ (parts13 : List Part))) p va s)
  | keepAttest p va => exact own94_has (fun _ => execKeepAttest_within (F := (· ∈ ([.req] : List Part))) p va s)
  | attestDone => exact own95_has (fun _ _ _ _ _ => execAttestDone_within (F := (· ∈ ([.free, .mem, .poison, .threads, .req] : List Part))) s)
  | auditSeal p va => exact own96_has (fun _ _ _ _ => execAuditSeal_within (F := (· ∈ ([.free, .regs, .audit, .fuses] : List Part))) p va s)
  | finalSeal p va => exact own96_has (fun _ _ _ _ => execFinalSeal_within (F := (· ∈ ([.free, .regs, .audit, .fuses] : List Part))) p va s)
  | sealDone => exact own97_has (fun _ _ _ _ => execSealDone_within (F := (· ∈ ([.mem, .poison, .threads, .audit] : List Part))) s)
  | probeVerdict cls index passed => exact parts24_has (fun _ _ _ _ _ _ _ _ _ _ _ _ _ _ _ _ _ _ _ _ _ _ _ _ _ => execProbeVerdict_within (F := (· ∈ (parts24 : List Part))) cls index passed s)
  | probeTimeout cls index => exact parts24_has (fun _ _ _ _ _ _ _ _ _ _ _ _ _ _ _ _ _ _ _ _ _ _ _ _ _ => execProbeTimeout_within (F := (· ∈ (parts24 : List Part))) cls index s)
  | retirementFuseBlow => exact own99_has (fun _ _ => execRetirementFuseBlow_within (F := (· ∈ ([.faults, .fuses] : List Part))) s)
  | dramScrub line o => exact own100_has (fun _ _ _ _ _ _ _ _ _ => execDramScrub_within (F := (· ∈ ([.regs, .poison, .threads, .cyls, .engs, .srcs, .doms, .audit, .faults] : List Part))) line o s)
  | trngHealthFail => exact own101_has (fun _ _ _ _ _ _ => execTrngHealthFail_within (F := (· ∈ ([.threads, .cyls, .engs, .doms, .faults, .trngBad] : List Part))) s)
  | quietEnter p => exact parts5_has (fun _ _ _ _ _ _ _ _ _ _ _ _ _ _ _ _ _ _ _ _ _ _ _ => execQuietEnter_within (F := (· ∈ (parts5 : List Part))) p s)
  | quietSelftest p => exact parts7_has (fun _ _ _ _ _ => execQuietSelftest_within (F := (· ∈ (parts7 : List Part))) p s)
  | selftestDone => exact own102_has (fun _ => execSelftestDone_within (F := (· ∈ ([.faults] : List Part))) s)
  | quietExit p => exact parts13_has (fun _ _ _ _ _ _ _ _ _ _ _ _ _ _ _ _ _ _ _ _ _ _ _ _ _ _ _ _ _ _ _ _ _ _ _ _ _ _ _ _ => execQuietExit_within (F := (· ∈ (parts13 : List Part))) p s)
  | quietUartLine => exact own103_has (fun _ => execQuietUartLine_within (F := (· ∈ ([.out] : List Part))) s)
  | mainsApplied => exact parts3_has (fun _ _ _ _ _ _ _ _ _ _ _ _ _ _ _ _ _ _ _ _ _ _ _ _ _ _ _ _ _ _ _ _ _ _ _ _ _ _ _ _ _ => execMainsApplied_within (F := (· ∈ (parts3 : List Part))) s)
  | bundleData offset length bytes => exact parts25_has (fun _ _ _ _ _ _ _ _ _ _ _ _ _ _ _ _ _ _ _ _ _ _ _ _ _ _ _ _ => execBundleData_within (F := (· ∈ (parts25 : List Part))) offset length bytes s)
  | getRetry => exact own103_has (fun _ => execGetRetry_within (F := (· ∈ ([.out] : List Part))) s)
  | getBroadcast => exact own103_has (fun _ => execGetBroadcast_within (F := (· ∈ ([.out] : List Part))) s)
  | bundleTimeout => exact own105_has (fun _ => execBundleTimeout_within (F := (· ∈ ([.boot] : List Part))) s)
  | bootFailReport => exact own106_has (fun _ _ => execBootFailReport_within (F := (· ∈ ([.boot, .out] : List Part))) s)
  | readyAssert => exact own107_has (fun _ _ _ _ => execReadyAssert_within (F := (· ∈ ([.intake, .fuses, .boot, .pins] : List Part))) s)
  | lcBootGo p => exact own105_has (fun _ => execLcBootGo_within (F := (· ∈ ([.boot] : List Part))) p s)
  | lcBootWarm p => exact parts13_has (fun _ _ _ _ _ _ _ _ _ _ _ _ _ _ _ _ _ _ _ _ _ _ _ _ _ _ _ _ _ _ _ _ _ _ _ _ _ _ _ _ => execLcBootWarm_within (F := (· ∈ (parts13 : List Part))) p s)
  | lcBootWarmBundle p => exact parts13_has (fun _ _ _ _ _ _ _ _ _ _ _ _ _ _ _ _ _ _ _ _ _ _ _ _ _ _ _ _ _ _ _ _ _ _ _ _ _ _ _ _ => execLcBootWarmBundle_within (F := (· ∈ (parts13 : List Part))) p s)
  | lcBootExportTraining p => exact own108_has (fun _ _ _ => execLcBootExportTraining_within (F := (· ∈ ([.mem, .poison, .threads] : List Part))) p s)
  | ksImgExport p va => exact own109_has (fun _ _ => execKsImgExport_within (F := (· ∈ ([.free, .req] : List Part))) p va s)
  | ksImgExportDone => exact own110_has (fun _ _ _ _ => execKsImgExportDone_within (F := (· ∈ ([.mem, .poison, .threads, .req] : List Part))) s)
  | ppsPulse => exact own111_has (fun _ _ => execPpsPulse_within (F := (· ∈ ([.pins, .out] : List Part))) s)
  | cylCmodeRead p c => exact own112_has (fun _ _ _ _ => execCylCmodeRead_within (F := (· ∈ ([.rdata, .regs, .threads, .srcs] : List Part))) p c s)
  | ksQlastRead p => exact own112_has (fun _ _ _ _ => execKsQlastRead_within (F := (· ∈ ([.rdata, .regs, .threads, .srcs] : List Part))) p s)
  | dmaStatRead p c => exact own112_has (fun _ _ _ _ => execDmaStatRead_within (F := (· ∈ ([.rdata, .regs, .threads, .srcs] : List Part))) p c s)
  | engErrRead p e => exact own112_has (fun _ _ _ _ => execEngErrRead_within (F := (· ∈ ([.rdata, .regs, .threads, .srcs] : List Part))) p e s)
  | exgStatRead p q => exact own112_has (fun _ _ _ _ => execExgStatRead_within (F := (· ∈ ([.rdata, .regs, .threads, .srcs] : List Part))) p q s)
  | queStatRead p q response => exact own112_has (fun _ _ _ _ => execQueStatRead_within (F := (· ∈ ([.rdata, .regs, .threads, .srcs] : List Part))) p q response s)
  | quePstatRead p q => exact own112_has (fun _ _ _ _ => execQuePstatRead_within (F := (· ∈ ([.rdata, .regs, .threads, .srcs] : List Part))) p q s)
  | queTlmRead p j => exact own112_has (fun _ _ _ _ => execQueTlmRead_within (F := (· ∈ ([.rdata, .regs, .threads, .srcs] : List Part))) p j s)
  | keepXlogRead p => exact own112_has (fun _ _ _ _ => execKeepXlogRead_within (F := (· ∈ ([.rdata, .regs, .threads, .srcs] : List Part))) p s)
  | knkStrayCntRead p => exact own112_has (fun _ _ _ _ => execKnkStrayCntRead_within (F := (· ∈ ([.rdata, .regs, .threads, .srcs] : List Part))) p s)
  | laneStatRead p l => exact own112_has (fun _ _ _ _ => execLaneStatRead_within (F := (· ∈ ([.rdata, .regs, .threads, .srcs] : List Part))) p l s)
  | laneDropRead p j => exact own112_has (fun _ _ _ _ => execLaneDropRead_within (F := (· ∈ ([.rdata, .regs, .threads, .srcs] : List Part))) p j s)
  | laneWlinkRead p l => exact own112_has (fun _ _ _ _ => execLaneWlinkRead_within (F := (· ∈ ([.rdata, .regs, .threads, .srcs] : List Part))) p l s)
  | keepTampRead p => exact own112_has (fun _ _ _ _ => execKeepTampRead_within (F := (· ∈ ([.rdata, .regs, .threads, .srcs] : List Part))) p s)
  | registerWrite p t addr v => exact parts3_has (fun _ _ _ _ _ _ _ _ _ _ _ _ _ _ _ _ _ _ _ _ _ _ _ _ _ _ _ _ _ _ _ _ _ _ _ _ _ _ _ _ _ => execRegisterWrite_within (F := (· ∈ (parts3 : List Part))) p t addr v s)
  | laneTrainingDone l => exact own113_has (fun _ _ _ _ _ _ _ _ _ => execLaneTrainingDone_within (F := (· ∈ ([.free, .regs, .intake, .arbs, .doms, .xq, .westad, .linkPower, .out] : List Part))) l s)
  | pauseTimeExpiry port prio => exact own57_has (fun _ => execPauseTimeExpiry_within (F := (· ∈ ([.intake] : List Part))) port prio s)
  | pcieConfigWrite w => exact own29_has (fun _ _ _ => execPcieConfigWrite_within (F := (· ∈ ([.intake, .linkPower, .out] : List Part))) w s)
  | aspmL0sL1Transition power => exact own114_has (fun _ => execAspmL0sL1Transition_within (F := (· ∈ ([.linkPower] : List Part))) power s)
  | supplyRetry up => exact parts3_has (fun _ _ _ _ _ _ _ _ _ _ _ _ _ _ _ _ _ _ _ _ _ _ _ _ _ _ _ _ _ _ _ _ _ _ _ _ _ _ _ _ _ => execSupplyRetry_within (F := (· ∈ (parts3 : List Part))) up s)

end Sys2Proof.Machine
end

section
/-! SUPPORT. The state after reset: a stored register reads what the register table gives, a computed one the value that the empty tables and
the absent keycut give. -/

namespace Sys2Proof.Machine

/-- After reset nothing is stored in the registers, so a field reads the table's reset value (R10). -/
theorem fldGet_reset (r : Reg) (ix hi lo : Nat) : fldGet State.reset r ix hi lo = fld (regAccess r).reset hi lo := rfl

/-- After reset every cylinder runs in level mode, and no quad of it holds keys (R53). -/
theorem cmodeWord_reset (c : Nat) : cmodeWord State.reset c = 1 := by
  have alike : cmodeWord State.reset c = cmodeWord State.reset 0 := rfl
  rw [alike]
  decide

/-- After reset every keyring's rail reads as the first one's. -/
theorem pwrKrWord_reset (k : Nat) : pwrKrWord State.reset k = pwrKrWord State.reset 0 := rfl

/-- After reset no port group is held. -/
theorem holdN_reset (g : Nat) (h : g < 8) : nth false State.reset.pins.holdN g = false := by
  decide +revert

/-- After reset the resting voltage is 800 mV and the ceiling 950 mV on every rail (R415). -/
theorem pwrKrWord_reset_volts (k : Nat) : fld (pwrKrWord State.reset k) 63 52 = 0x320 ∧ fld (pwrKrWord State.reset k) 51 40 = 0x3B6 := by
  rw [pwrKrWord_reset]
  decide

/-- Settles O57: stored registers by the table (`fldGet_reset`), computed ones by their own value after reset. -/
theorem resetValues : Obligations.ResetValues := by
  unfold Obligations.ResetValues
  simp only [fldGet_reset, cmodeWord_reset]
  exact ⟨rfl, rfl, rfl, rfl, rfl, rfl, holdN_reset, by decide, by decide, by decide, by decide, by decide, by decide, by decide,
    fun _ _ => by decide, fun _ _ => by decide, fun k _ => pwrKrWord_reset_volts k, by decide, by decide, by decide, rfl, rfl, rfl⟩

end Sys2Proof.Machine
end

section
/-! SUPPORT. What a boot leaves as it is after its root is settled: the fuses, the Keeper, the clock and the kind of boot. -/

namespace Sys2Proof.Machine

/-! ### The parts that boots and the quiet state work on -/

/-- The parts that step 6 of a boot and what follows it may change, besides the boot's own record. -/
def laterParts : List Part := parts25.filter (· != .boot)

/-- The device as a boot finds it: fuses, Keeper, clock and the kind of boot. -/
def bootGround (s : State) : Fuses × Keeper × Nat × Nat := (s.fuses, s.keeper, s.now, s.boot.kind)

/-- A function that stays within `laterParts` leaves the ground of a boot as it is. -/
theorem bootGround_of_within {s t : State} (h : [Has (· ∈ laterParts) .free] → [Has (· ∈ laterParts) .regs] → [Has (· ∈ laterParts) .mem] →
    [Has (· ∈ laterParts) .poison] → [Has (· ∈ laterParts) .threads] → [Has (· ∈ laterParts) .cyls] → [Has (· ∈ laterParts) .krs] →
    [Has (· ∈ laterParts) .engs] → [Has (· ∈ laterParts) .ks] → [Has (· ∈ laterParts) .guard] → [Has (· ∈ laterParts) .intake] →
    [Has (· ∈ laterParts) .turns] → [Has (· ∈ laterParts) .srcs] → [Has (· ∈ laterParts) .arbs] → [Has (· ∈ laterParts) .doms] →
    [Has (· ∈ laterParts) .xq] → [Has (· ∈ laterParts) .westad] → [Has (· ∈ laterParts) .dbg] → [Has (· ∈ laterParts) .audit] →
    [Has (· ∈ laterParts) .faults] → [Has (· ∈ laterParts) .req] → [Has (· ∈ laterParts) .pins] → [Has (· ∈ laterParts) .seeded] →
    [Has (· ∈ laterParts) .dramKeys] → [Has (· ∈ laterParts) .out] → Within (· ∈ laterParts) s t) : bootGround t = bootGround s := by
  have has (p : Part) (hp : p ∈ laterParts) : Has (· ∈ laterParts) p := has_mem hp
  have w : Within (· ∈ laterParts) s t :=
    @h (has _ (by decide)) (has _ (by decide)) (has _ (by decide)) (has _ (by decide)) (has _ (by decide)) (has _ (by decide))
      (has _ (by decide)) (has _ (by decide)) (has _ (by decide)) (has _ (by decide)) (has _ (by decide)) (has _ (by decide))
      (has _ (by decide)) (has _ (by decide)) (has _ (by decide)) (has _ (by decide)) (has _ (by decide)) (has _ (by decide))
      (has _ (by decide)) (has _ (by decide)) (has _ (by decide)) (has _ (by decide)) (has _ (by decide)) (has _ (by decide))
      (has _ (by decide))
  have fuses : t.fuses = s.fuses := (w.rest .fuses).resolve_left (by decide)
  have keeper : t.keeper = s.keeper := (w.rest .keeper).resolve_left (by decide)
  have now : t.now = s.now := (w.rest .now).resolve_left (by decide)
  have boot : t.boot = s.boot := (w.rest .boot).resolve_left (by decide)
  simp only [bootGround, fuses, keeper, now, boot]

theorem bootGround_foldl {β : Type} (f : State → β → State) (h : ∀ s x, bootGround (f s x) = bootGround s) (l : List β) (s : State) :
    bootGround (l.foldl f s) = bootGround s := by
  induction l generalizing s with
  | nil => rfl
  | cons x l ih => rw [List.foldl_cons, ih, h]

@[simp] theorem bootGround_ks (s : State) (k : KeyStore) : bootGround { s with ks := k } = bootGround s := rfl

@[simp] theorem bootGround_req (s : State) (r : Requests) : bootGround { s with req := r } = bootGround s := rfl

@[simp] theorem bootGround_faults (s : State) (f : Faults) : bootGround { s with faults := f } = bootGround s := rfl

theorem bootGround_ite {c : Prop} [Decidable c] {s t u : State} (ht : bootGround t = bootGround s) (hu : bootGround u = bootGround s) :
    bootGround (if c then t else u) = bootGround s := by
  split <;> assumption

/-! ### The functions that a boot calls -/

@[simp] theorem bootGround_audit (s : State) (source part kind : Nat) (body : Bytes) :
    bootGround (audit s source part kind body) = bootGround s := bootGround_of_within (audit_within _ _ _ _ _ (Within.refl s))

@[simp] theorem bootGround_regSet (s : State) (r : Reg) (ix : Nat) (v : Word) : bootGround (regSet s r ix v) = bootGround s := rfl

@[simp] theorem bootGround_setHolds (s : State) : bootGround (setHolds s) = bootGround s :=
  bootGround_of_within (setHolds_within _ (Within.refl s))

@[simp] theorem bootGround_reRetireAll (s : State) : bootGround (reRetireAll s) = bootGround s :=
  bootGround_of_within (reRetireAll_within _ (Within.refl s))

@[simp] theorem bootGround_imageRecords (s : State) (b : Bytes) (kinds : List Nat) : bootGround (imageRecords s b kinds) = bootGround s :=
  bootGround_of_within (imageRecords_within _ _ _ (Within.refl s))

@[simp] theorem bootGround_takeTrailer (s : State) (t : Bytes) : bootGround (takeTrailer s t) = bootGround s :=
  bootGround_of_within (takeTrailer_within _ _ (Within.refl s))

@[simp] theorem bootGround_takeFuses (s : State) : bootGround (takeFuses s) = bootGround s :=
  bootGround_of_within (takeFuses_within _ (Within.refl s))

@[simp] theorem bootGround_judgeModes (s : State) : bootGround (judgeModes s) = bootGround s :=
  bootGround_of_within (judgeModes_within _ (Within.refl s))

@[simp] theorem bootGround_comesUp (s : State) : bootGround (comesUp s).2 = bootGround s := rfl

@[simp] theorem bootGround_seedArbiters (s : State) : bootGround (seedArbiters s) = bootGround s :=
  bootGround_of_within (seedArbiters_within _ (Within.refl s))

@[simp] theorem bootGround_sweepKeys (s : State) : bootGround (sweepKeys s) = bootGround s :=
  bootGround_of_within (sweepKeys_within _ (Within.refl s))

@[simp] theorem bootGround_applySettings (s : State) : bootGround (applySettings s) = bootGround s :=
  bootGround_of_within (applySettings_within _ (Within.refl s))

@[simp] theorem bootGround_comePresent (s : State) (p : Nat) : bootGround (comePresent s p) = bootGround s :=
  bootGround_of_within (comePresent_within _ _ (Within.refl s))

@[simp] theorem bootGround_assignFree (s : State) : bootGround (assignFree s) = bootGround s :=
  bootGround_of_within (assignFree_within _ (Within.refl s))

theorem bootGround_restoreImage {s t : State} {turn : Nat} {b : Bytes} (h : restoreImage s turn b = some t) : bootGround t = bootGround s :=
  bootGround_of_within (restoreImage_within _ _ _ (Within.refl s) _ h)

theorem bootGround_loadImages {s t : State} {b : Bytes} (h : loadImages s b = some t) : bootGround t = bootGround s :=
  bootGround_of_within (loadImages_within _ _ (Within.refl s) _ h)

/-- A change of the boot's record that keeps the kind of boot. -/
theorem bootGround_modBoot {s : State} {f : Boot → Boot} (h : ∀ b, (f b).kind = b.kind) : bootGround (modBoot s f) = bootGround s := by
  simp only [bootGround, modBoot, h]

@[simp] theorem bootGround_bootStep (s : State) (n : Nat) : bootGround (bootStep s n) = bootGround s := rfl

@[simp] theorem bootGround_stopBoot (s : State) (fail : Nat) : bootGround (stopBoot s fail) = bootGround s := rfl

@[simp] theorem bootGround_drawNonces (s : State) : bootGround (drawNonces s) = bootGround s := rfl

/-! ### The quiet state (R483) -/

@[simp] theorem bootGround_quietBoot (s : State) (cause : Nat) : bootGround (quietBoot s cause) = bootGround s := by
  unfold quietBoot
  split <;> rfl

/-- The tail of an entry into the quiet state, from its outputs to its threads. -/
theorem bootGround_quietServices (s : State) (cause : Nat) :
    bootGround (quietJobs ((serviceThreads (quietItems (quietOutputs s cause))).foldl quietThread (quietItems (quietOutputs s cause)))) =
      bootGround s :=
  bootGround_of_within (quietJobs_within _ (within_foldl _ (quietItems_within _ (quietOutputs_within _ _ (Within.refl s)))
    (fun _ _ => quietThread_within _ _)))

/-- The tail of an entry into the quiet state, from its sessions on. -/
theorem bootGround_quietEnd (s : State) : bootGround (settle (endDebug (untake (quietSessions s)))) = bootGround s :=
  bootGround_of_within (settle_within _ (endDebug_within _ (untake_within _ (quietSessions_within _ (Within.refl s)))))

@[simp] theorem bootGround_abandonTurn (s : State) : bootGround (putAgree (abandonCommit s) none) = bootGround s :=
  bootGround_of_within (putAgree_within _ _ (abandonCommit_within _ (Within.refl s)))

@[simp] theorem bootGround_enterQuiet (s : State) (cause : Nat) : bootGround (enterQuiet s cause) = bootGround s := by
  have begun : bootGround (quietBoot (audit s (quietSource cause) 0xFF 0xC (leBytes 2 cause)) cause) = bootGround s := by simp
  unfold enterQuiet
  extract_lets noted _ entered items stopped _ closed unagreed _ ended
  refine bootGround_ite ((bootGround_faults noted _).trans begun) ?_
  calc bootGround (settle (endDebug (untake (quietSessions ended)))) = bootGround ended := bootGround_quietEnd ended
    _ = bootGround unagreed := bootGround_ite (bootGround_req unagreed _) rfl
    _ = bootGround closed := bootGround_abandonTurn closed
    _ = bootGround stopped := bootGround_ks stopped _
    _ = bootGround entered := bootGround_quietServices entered cause
    _ = bootGround noted := bootGround_faults noted _
    _ = bootGround s := begun

@[simp] theorem bootGround_quietSettle (s : State) : bootGround (quietSettle s) = bootGround s := by
  unfold quietSettle
  split
  · rfl
  · split
    · rfl
    · exact bootGround_enterQuiet _ _

/-! ### The boot's steps (R495 to R500) -/

@[simp] theorem bootGround_startAll (s : State) : bootGround (startAll s) = bootGround s := by
  unfold startAll
  extract_lets set present shared up
  have started : bootGround up = bootGround s := by
    calc bootGround up = bootGround shared := bootGround_modBoot (fun _ => rfl)
      _ = bootGround present := bootGround_assignFree present
      _ = bootGround set := bootGround_foldl _ bootGround_comePresent _ _
      _ = bootGround s := bootGround_applySettings s
  exact bootGround_ite (by rw [bootGround_enterQuiet, bootGround_faults, started]) started

@[simp] theorem bootGround_fullTraining (s : State) : bootGround (fullTraining s) = bootGround s := by
  unfold fullTraining
  split <;> rfl

@[simp] theorem bootGround_trainDram (s : State) (b : Bytes) : bootGround (trainDram s b) = bootGround s := by
  unfold trainDram
  extract_lets data
  cases data with
  | none => exact bootGround_fullTraining s
  | some d => exact bootGround_ite (bootGround_modBoot (fun _ => rfl)) (bootGround_fullTraining s)

@[simp] theorem bootGround_bootLater (s : State) (b : Bytes) : bootGround (bootLater s b) = bootGround s := by
  unfold bootLater
  extract_lets trained copied recorded seeded turn due
  have h1 : bootGround trained = bootGround s := bootGround_trainDram _ b
  have h2 : bootGround recorded = bootGround s := by
    calc bootGround recorded = bootGround copied := bootGround_bootStep copied 10
      _ = bootGround (modBoot trained _) := bootGround_imageRecords _ b [3, 4]
      _ = bootGround trained := bootGround_modBoot (fun _ => rfl)
      _ = bootGround s := h1
  have h3 : bootGround seeded = bootGround s := by
    calc bootGround seeded = bootGround (seedArbiters recorded) := bootGround_bootStep _ 11
      _ = bootGround s := (bootGround_seedArbiters recorded).trans h2
  refine bootGround_ite h1 (bootGround_ite ((bootGround_stopBoot trained 6).trans h1)
    (bootGround_ite ((bootGround_stopBoot recorded 0xA).trans h2) ?_))
  split
  · exact (bootGround_stopBoot seeded 0xB).trans h3
  · rename_i restored hr
    have h4 : bootGround restored = bootGround s := by
      split at hr
      · split at hr
        · exact (bootGround_restoreImage hr).trans h3
        · cases hr
      · cases hr
        exact h3
    have h5 : bootGround (sweepKeys restored) = bootGround s := (bootGround_sweepKeys restored).trans h4
    dsimp only
    refine bootGround_ite ((bootGround_quietSettle _).trans h5) ?_
    split
    · exact (bootGround_stopBoot _ 0xC).trans ((bootGround_bootStep _ 12).trans h5)
    · rename_i loaded hl
      rw [bootGround_startAll, bootGround_loadImages hl, bootGround_bootStep, h5]

@[simp] theorem bootGround_bootRun (s : State) (b : Bytes) : bootGround (bootRun s b) = bootGround s := by
  unfold bootRun
  split
  · rfl
  · extract_lets point checked ledger turn _ _
    split
    · rfl
    · extract_lets keyed judged noted
      have h0 : bootGround checked = bootGround s := (bootGround_bootStep _ 8).trans (bootGround_bootStep s 7)
      have h1 : bootGround ledger = bootGround s :=
        bootGround_ite h0 (bootGround_ite ((bootGround_takeTrailer checked _).trans h0) ((bootGround_takeFuses checked).trans h0))
      have h2 : bootGround keyed = bootGround ledger := by
        clear_value ledger
        rfl
      have h3 : bootGround noted = bootGround s := by
        calc bootGround noted = bootGround judged := bootGround_audit judged _ _ _ _
          _ = bootGround keyed := bootGround_judgeModes keyed
          _ = bootGround s := h2.trans h1
      rw [bootGround_bootLater, bootGround_imageRecords]
      rw [← h3]
      exact bootGround_modBoot fun _ => rfl

/-! ### A warm boot (R491) -/

/-- A warm boot begins with the state fuses in effect, the Keeper as it was, and the clock at 0. -/
theorem bootGround_warmBase (s : State) : bootGround (warmBase s) =
    (bootLcs s.fuses, { s.keeper with breach := false, armed := armStates.contains (bootLcs s.fuses).lcs }, 0, 3) := by
  have ended : bootGround (endDebug s) = bootGround s := bootGround_of_within (endDebug_within _ (Within.refl s))
  obtain ⟨fuses, keeper, -, -⟩ := by simpa only [bootGround, Prod.mk.injEq] using ended
  rw [← fuses, ← keeper]
  unfold warmBase
  generalize endDebug s = t
  dsimp only
  rw [bootGround_reRetireAll, bootGround_setHolds, bootGround_regSet, bootGround_regSet, bootGround_regSet]
  rfl

/-- Where the life-cycle state has no root, a warm boot drops it and the identity with it (R454). -/
theorem warmRoot_without_root {s : State} {breach : Bool} (h : rootStates.contains s.fuses.lcs = false) :
    warmRoot s breach = { s with keeper := { s.keeper with root := none, identity := false, breach := breach } } := by
  unfold warmRoot
  rw [if_pos (.inl (by rw [h]; rfl))]

/-- What a warm boot into a life-cycle state without a root leaves: the state fuses in effect, no root, and the clock at 0. -/
theorem bootGround_warmBoot_without_root {s : State} (bundle : Option Bytes) (h : rootStates.contains (bootLcs s.fuses).lcs = false) :
    bootGround (warmBoot s bundle) =
      (bootLcs s.fuses, { s.keeper with root := none, identity := false, armed := armStates.contains (bootLcs s.fuses).lcs }, 0, 3) := by
  have base := bootGround_warmBase s
  obtain ⟨fuses, keeper, now, kind⟩ := by simpa only [bootGround, Prod.mk.injEq] using base
  unfold warmBoot
  extract_lets breach drawn copied
  have h1 : bootGround drawn =
      (bootLcs s.fuses, { s.keeper with root := none, identity := false, armed := armStates.contains (bootLcs s.fuses).lcs }, 0, 3) := by
    calc bootGround drawn = bootGround (warmRoot (warmBase s) breach) := bootGround_drawNonces _
      _ = _ := by
        rw [warmRoot_without_root (by rw [fuses]; exact h)]
        simp only [bootGround, fuses, keeper, now, kind, breach]
  have h2 : bootGround copied = bootGround drawn := by
    unfold copied
    split
    · exact bootGround_modBoot fun _ => rfl
    · rfl
  rw [← h1, ← h2]
  clear_value copied
  split
  · exact bootGround_bootStep copied 3
  · split
    · refine bootGround_ite ?_ ?_
      · rw [bootGround_bootRun, bootGround_bootStep, bootGround_comesUp, bootGround_bootStep]
      · rw [bootGround_stopBoot, bootGround_comesUp, bootGround_bootStep]
    · rw [bootGround_stopBoot, bootGround_bootStep]

end Sys2Proof.Machine
end

section
/-! SUPPORT. Life-cycle requests (R460 to R462): the answer to a request, the reasons that refuse it, and what an accepted one blows. -/

namespace Sys2Proof.Machine

open Sys2Proof.Claims

/-! ### Records and the quiet state -/

/-- A record changes the audit store alone. -/
theorem audit_frame (s : State) (source part kind : Nat) (body : Bytes) : Within (· = .audit) s (audit s source part kind body) :=
  have : Has (· = .audit) .audit := ⟨rfl⟩
  audit_within _ _ _ _ _ (Within.refl s)

/-- With room in the tail and no summary waiting, a record is the next entry of the tail. -/
theorem audit_of_room {s : State} (hf : auditFull s = false) (hs : s.audit.summaries = []) (source part kind : Nat) (body : Bytes) :
    audit s source part kind body = auditPush s source part kind body := by
  have none_waits : auditSummaries s = s := by simp [auditSummaries, hs]
  simp [audit, none_waits, hf]

/-- Without a cause of the quiet state a step ends as it is. -/
theorem quietSettle_of_quietDue_none {s : State} (h : s.faults.quietDue = none) : quietSettle s = s := by
  simp [quietSettle, h]

/-! ### The rows -/

/-- A request's row and the state that it asks for. -/
def LcRow (p : Fin 256) (va : BitVec 56) (c : Instr) (target : Nat) : Prop :=
  c = .lcToCut p va ∧ target = 3 ∨ c = .lcToKeyed p va ∧ target = 5 ∨ c = .lcToLocked p va ∧ target = 7 ∨
    c = .lcToReturned p va ∧ target = 9 ∨ c = .lcToScrapped p va ∧ target = 0xF

/-- A row takes the request for its target. -/
theorem LcRow.exec_eq {p : Fin 256} {va : BitVec 56} {c : Instr} {target : Nat} (h : LcRow p va c target) (s : State) :
    exec c s = .next (quietSettle (lcRequest s p va.toNat target)) := by
  obtain ⟨rfl, rfl⟩ | ⟨rfl, rfl⟩ | ⟨rfl, rfl⟩ | ⟨rfl, rfl⟩ | ⟨rfl, rfl⟩ := h <;> rfl

/-- What a row completes with. -/
theorem LcRow.completes {p : Fin 256} {va : BitVec 56} {c : Instr} {target : Nat} (h : LcRow p va c target) {s : State} {P : State → Prop}
    (hP : P (quietSettle (lcRequest s p va.toNat target))) : Completes c s P := ⟨_, h.exec_eq s, hP⟩

/-! ### The answer -/

/-- A state with LC_REQ written. -/
def lcAsked (s : State) (va : BitVec 56) : State := { s with req := { s.req with lcVa := va } }

/-- A request answered: its record, LC_RSTAT, and a new nonce. -/
def lcAnswer (s : State) (t r : Nat) : State := newNonce (lcResult (lcRecord s t r) (t % 16) r)

/-- The parts that an answer changes: free values, the audit store, the nonce and LC_RSTAT. -/
def answerParts : List Part := [.free, .audit, .boot, .req]

theorem lcAnswer_within (s : State) (t r : Nat) : Within (· ∈ answerParts) s (lcAnswer s t r) :=
  have : Has (· ∈ answerParts) .free := has_mem (by decide)
  have : Has (· ∈ answerParts) .audit := has_mem (by decide)
  have : Has (· ∈ answerParts) .boot := has_mem (by decide)
  have : Has (· ∈ answerParts) .req := has_mem (by decide)
  newNonce_within _ (lcResult_within _ _ _ (lcRecord_within _ _ _ (Within.refl s)))

/-- An answer leaves every other part as it is. -/
theorem lcAnswer_same (s : State) (t r : Nat) (p : Part) (hp : p ∉ answerParts) : p.same s (lcAnswer s t r) :=
  ((lcAnswer_within s t r).rest p).resolve_left hp

theorem lcAnswer_req (s : State) (t r : Nat) : (lcAnswer s t r).req = { s.req with lcTarget := t % 16, lcResult := r } := by
  have recorded : (lcRecord s t r).req = s.req := ((audit_frame s 0 0 9 [byte t, byte r]).rest .req).resolve_left (by decide)
  rw [← recorded]
  rfl

theorem lcAnswer_audit (s : State) (t r : Nat) : (lcAnswer s t r).audit = (lcRecord s t r).audit := rfl

theorem lcAnswer_fuses (s : State) (t r : Nat) : (lcAnswer s t r).fuses = s.fuses := lcAnswer_same s t r .fuses (by decide)

theorem lcAnswer_faults (s : State) (t r : Nat) : (lcAnswer s t r).faults = s.faults := lcAnswer_same s t r .faults (by decide)

/-- Without a cause of the quiet state a request ends with its answer. -/
theorem quietSettle_lcAnswer {s : State} (h : s.faults.quietDue = none) (t r : Nat) : quietSettle (lcAnswer s t r) = lcAnswer s t r :=
  quietSettle_of_quietDue_none (by rw [lcAnswer_faults]; exact h)

/-! ### Requests -/

/-- A request of another partition has no effect (R460). -/
theorem lcRequest_other_partition {s : State} {p : Nat} (hp : p ≠ 0) (va row : Nat) : lcRequest s p va row = s := if_pos hp

/-- A block that cannot be read is answered XLATE. -/
theorem lcRequest_unreadable {s : State} {va : BitVec 56} (h : accOk (unitAccess s 0 va.toNat (2 * lcBlockLen) 2) = none) (row : Nat) :
    lcRequest s 0 va.toNat row = lcAnswer (lcAsked s va) 0 6 := by
  unfold lcRequest
  rw [if_neg (by simp), h]
  simp [lcAnswer, lcAsked]

/-- A row judges a block that names its target. -/
theorem lcRequest_own_target {s : State} {va : BitVec 56} {ps : Pieces} {row : Nat}
    (h : accOk (unitAccess s 0 va.toNat (2 * lcBlockLen) 2) = some ps) (ht : leAt (readBytes s ps) 4 1 = row) :
    lcRequest s 0 va.toNat row = lcJudge (lcAsked s va) (readBytes s ps) := by
  unfold lcRequest
  rw [if_neg (by simp), h]
  simp [lcAsked, ht]

/-- A row leaves a block that names another row's target to that row. -/
theorem lcRequest_other_target {s : State} {va : BitVec 56} {ps : Pieces} {row : Nat}
    (h : accOk (unitAccess s 0 va.toNat (2 * lcBlockLen) 2) = some ps) (ht : leAt (readBytes s ps) 4 1 ≠ row)
    (hl : lcTargets.contains (leAt (readBytes s ps) 4 1) = true) : lcRequest s 0 va.toNat row = s := by
  unfold lcRequest
  rw [if_neg (by simp), h]
  dsimp only
  rw [if_neg (by rw [hl]; simpa using ht)]

theorem lcJudge_of_refusal {s : State} {b : Bytes} {r : Nat} (h : lcRefusal s b = r) (hr : r ≠ 0) : lcJudge s b = lcAnswer s (leAt b 4 1) r := by
  subst h
  unfold lcJudge
  dsimp only
  rw [if_neg (fun e => hr e.1), if_neg hr]
  rfl

theorem lcJudge_of_acceptance {s : State} {b : Bytes} (h : lcRefusal s b = 0) (hf : auditFull s = false) :
    lcJudge s b = lcAccept (lcAnswer s (leAt b 4 1) 2) b := by
  unfold lcJudge
  dsimp only
  rw [if_neg (by simp [hf]), if_pos h]
  rfl

/-! ### Refusals (R460, R461) -/

theorem lcRefusal_bad_form {s : State} {b : Bytes} (h : lcForm s b = false) : lcRefusal s b = 3 := by
  simp [lcRefusal, h]

/-- While blown state fuses wait for a boot, or where the table has no such transition, the request is refused with TRANSITION. -/
theorem lcRefusal_no_transition {s : State} {b : Bytes} (h : lcForm s b = true)
    (hs : s.fuses.lcsNext ≠ s.fuses.lcs ∨ lcSigner s (leAt b 4 1) = none) : lcRefusal s b = 4 := by
  have none_signs : (if s.fuses.lcsNext = s.fuses.lcs then lcSigner s (leAt b 4 1) else none) = none := by
    obtain hs | hs := hs
    · rw [if_neg hs]
    · rw [hs, ite_self]
  unfold lcRefusal
  dsimp only
  rw [h, none_signs]
  rfl

theorem lcRefusal_signed {s : State} {b : Bytes} {d : Bytes} (h : lcForm s b = true) (hl : s.fuses.lcsNext = s.fuses.lcs)
    (hd : lcSigner s (leAt b 4 1) = some d) :
    lcRefusal s b =
      if sha256 (slice b 80 1312) ≠ d ∨
          Config.mlDsaVerify 0 (slice b 80 1312) (ascii "EVG-LC") (sha256 (b.take 1392)) (slice b 1392 2420) = false then 3
      else if w64 (leAt b 8 8) ≠ s.boot.lcNonce ∨ devId s ≠ some (slice b 16 32) then 5
      else if (s.fuses.lcs = 5 ∨ s.fuses.lcs = 7) ∧ (leAt b 4 1 = 9 ∨ leAt b 4 1 = 0xF) ∧ tailSealed s = false then 7
      else if (s.fuses.lcs = 5 ∨ s.fuses.lcs = 7) ∧ (leAt b 4 1 = 9 ∨ leAt b 4 1 = 0xF) ∧ sealFits s = false then 6
      else 0 := by
  unfold lcRefusal
  dsimp only
  rw [h, if_pos hl, hd]
  by_cases leaves : (s.fuses.lcs = 5 ∨ s.fuses.lcs = 7) ∧ (leAt b 4 1 = 9 ∨ leAt b 4 1 = 0xF)
  · simp [leaves]
  · simp [leaves, ← and_assoc]

/-- A transition that the table has goes on in the order of the states. -/
theorem lcs_lt_of_lcSigner {s : State} {t : Nat} {d : Bytes} (h : lcSigner s t = some d) : s.fuses.lcs < t := by
  unfold lcSigner at h
  split at h
  case h_11 => cases h
  all_goals omega

/-- What a refused request leaves: the answer and its record, and nothing blown, written or forgotten. -/
def LcRefused (s s' : State) (t r : Nat) : Prop :=
  s'.req.lcResult = r ∧ s'.req.lcTarget = t % 16 ∧ s'.fuses = s.fuses ∧ s'.mem = s.mem ∧ s'.keeper = s.keeper ∧
    (auditFull s = false → s.audit.summaries = [] →
      ∃ x, s'.audit.tail = s.audit.tail ++ [x] ∧ x.kind = 9 ∧ x.body = padTo 64 [byte t, byte r])

theorem lcRefused_lcAnswer (s : State) (va : BitVec 56) (t r : Nat) : LcRefused s (lcAnswer (lcAsked s va) t r) t r := by
  refine ⟨by rw [lcAnswer_req], by rw [lcAnswer_req], lcAnswer_fuses _ t r, lcAnswer_same _ t r .mem (by decide),
    lcAnswer_same _ t r .keeper (by decide), fun hf hs => ?_⟩
  have record : lcRecord (lcAsked s va) t r = auditPush (lcAsked s va) 0 0 9 [byte t, byte r] :=
    audit_of_room (s := lcAsked s va) hf hs ..
  rw [lcAnswer_audit, record]
  exact ⟨_, rfl, rfl, rfl⟩

/-- A request that the block's contents refuse is refused by the row of its target. -/
theorem lcRefused_of_lcRefusal {s : State} {va : BitVec 56} {ps : Pieces} {row r : Nat} (hq : s.faults.quietDue = none)
    (h : accOk (unitAccess s 0 va.toNat (2 * lcBlockLen) 2) = some ps) (ht : leAt (readBytes s ps) 4 1 = row)
    (hr : lcRefusal s (readBytes s ps) = r) (h0 : r ≠ 0) : LcRefused s (quietSettle (lcRequest s 0 va.toNat row)) row r := by
  have asked : lcRefusal (lcAsked s va) (readBytes s ps) = r := hr
  rw [lcRequest_own_target h ht, lcJudge_of_refusal asked h0, quietSettle_lcAnswer (s := lcAsked s va) hq, ht]
  exact lcRefused_lcAnswer s va row r

/-! ### Acceptances (R461, R462) -/

theorem lcAccept_cut {b : Bytes} (h : leAt b 4 1 = 3) (s : State) : lcAccept s b = blowState (enrol s) 3 := by
  simp [lcAccept, h]

theorem lcAccept_keyed {b : Bytes} (h : leAt b 4 1 = 5) (s : State) : lcAccept s b = blowState (blowOwner s (slice b 48 32)) 5 := by
  simp [lcAccept, h]

theorem lcAccept_locked {b : Bytes} (h : leAt b 4 1 = 7) (s : State) : lcAccept s b = blowState s 7 := by
  simp [lcAccept, h]

theorem lcAccept_left {b : Bytes} {t : Nat} (h : leAt b 4 1 = t) (ht : t = 9 ∨ t = 0xF) (s : State) :
    lcAccept s b = leaveService s t := by
  obtain rfl | rfl := ht <;> simp [lcAccept, h]

theorem bootGround_trailer (s : State) (final : Bool) (n : Nat) : bootGround (trailer s final n).2 = bootGround s :=
  bootGround_of_within (trailer_within _ _ _ (Within.refl s))

/-- A seal other than the FINAL one blows no fuse. -/
theorem bootGround_beginSeal {s t : State} {va : Nat} (h : beginSeal s va false = some t) : bootGround t = bootGround s := by
  unfold beginSeal at h
  dsimp only at h
  split at h
  · cases h
  · cases h
    exact bootGround_trailer _ _ _

theorem bootGround_sealDone (s : State) : bootGround (sealDone s) = bootGround s :=
  bootGround_of_within (sealDone_within _ (Within.refl s))

/-- The zeroization of R451 blows no fuse. -/
theorem zeroizeSet_fuses (s : State) (breach : Bool) : (zeroizeSet s breach).fuses = s.fuses := by
  have has (p : Part) (hp : p ≠ .fuses) : Has (· ≠ .fuses) p := ⟨hp⟩
  have within : Within (· ≠ .fuses) s (zeroizeSet s breach) :=
    @zeroizeSet_within _ (has _ (by decide)) (has _ (by decide)) (has _ (by decide)) (has _ (by decide)) (has _ (by decide))
      (has _ (by decide)) (has _ (by decide)) (has _ (by decide)) (has _ (by decide)) (has _ (by decide)) (has _ (by decide))
      (has _ (by decide)) (has _ (by decide)) (has _ (by decide)) s s breach (Within.refl s)
  exact (within.rest .fuses).resolve_left (by simp)

/-- The fuses of a device that has left service: the mesh helpers blown, and the state. -/
def leftFuses (f : Fuses) (t : Nat) : Fuses := { f with meshHelper := false, lcsNext := max f.lcsNext t }

/-- RETURNED and SCRAPPED have no root, and neither has a device whose TAMPER fuse is blown. -/
theorem rootStates_leftFuses {f : Fuses} {t : Nat} (ht : t = 9 ∨ t = 0xF) (hf : f.lcsNext ≤ t) :
    rootStates.contains (bootLcs (leftFuses f t)).lcs = false := by
  unfold bootLcs
  split
  · rfl
  · have state : (leftFuses f t).lcsNext = t := max_eq_right hf
    simp only [state]
    obtain rfl | rfl := ht <;> rfl

/-- A warm boot with the fuses of a device that has left service: no root, and the state that was asked for. -/
theorem bootGround_warmBoot_leftFuses {s : State} {f : Fuses} {t : Nat} (ht : t = 9 ∨ t = 0xF) (hf : f.lcsNext ≤ t)
    (hs : s.fuses = leftFuses f t) :
    ∃ k : Keeper, k.root = none ∧ k.identity = false ∧ bootGround (warmBoot s none) = (bootLcs (leftFuses f t), k, 0, 3) := by
  have booted := bootGround_warmBoot_without_root (s := s) none (by rw [hs]; exact rootStates_leftFuses ht hf)
  rw [hs] at booted
  exact ⟨_, rfl, rfl, booted⟩

/-- Leaving service ends in a warm boot without a root, in the state that was asked for (R462). -/
theorem bootGround_leaveService {s : State} {t : Nat} (ht : t = 9 ∨ t = 0xF) (hs : s.fuses.lcsNext ≤ t) :
    ∃ k : Keeper, k.root = none ∧ k.identity = false ∧ bootGround (leaveService s t) = (bootLcs (leftFuses s.fuses t), k, 0, 3) := by
  unfold leaveService
  extract_lets sealed zeroed _ helped
  have sealed_ground : bootGround sealed = bootGround s := by
    refine bootGround_ite rfl ?_
    split
    · rename_i begun hb
      exact (bootGround_sealDone begun).trans (bootGround_beginSeal hb)
    · rfl
  have zeroed_fuses : (zeroizeSet sealed true).fuses = s.fuses := (zeroizeSet_fuses sealed true).trans (congrArg Prod.fst sealed_ground)
  refine bootGround_warmBoot_leftFuses ht hs ?_
  unfold helped zeroed
  rw [← zeroed_fuses]
  generalize zeroizeSet sealed true = z
  rfl

/-- What leaving service leaves. -/
theorem leaveService_leaves {s : State} {t : Nat} (ht : t = 9 ∨ t = 0xF) (hs : s.fuses.lcsNext ≤ t) :
    let s' := quietSettle (leaveService s t)
    (s.fuses.tamper = false → s'.fuses.lcs = t) ∧ s'.fuses.meshHelper = false ∧ s'.keeper.root = none ∧ s'.keeper.identity = false ∧
      s'.boot.kind = 3 ∧ s'.now = 0 := by
  intro s'
  obtain ⟨k, hroot, hident, hk⟩ := bootGround_leaveService ht hs
  have ground : bootGround s' = (bootLcs (leftFuses s.fuses t), k, 0, 3) := (bootGround_quietSettle _).trans hk
  obtain ⟨fuses, keeper, now, kind⟩ := by simpa only [bootGround, Prod.mk.injEq] using ground
  refine ⟨fun tamper => ?_, ?_, by rw [keeper, hroot], by rw [keeper, hident], kind, now⟩
  · have whole : (leftFuses s.fuses t).tamper = false := tamper
    rw [fuses, bootLcs, whole]
    exact max_eq_right hs
  · rw [fuses, bootLcs]
    split <;> rfl

/-- What an accepted request blows. -/
def LcAccepted (s s' : State) (b : Bytes) (t : Nat) : Prop :=
  (t = 3 → s'.fuses.lcsNext = 3 ∧ s'.fuses.lcs = s.fuses.lcs ∧ s'.fuses.fuseShare.isSome = true ∧ s'.fuses.meshHelper = true ∧
    s'.req.lcResult = 2) ∧
  (t = 5 → s'.fuses = { s.fuses with lcsNext := 5, owner := some (slice b 48 32) } ∧ s'.req.lcResult = 2) ∧
  (t = 7 → s'.fuses = { s.fuses with lcsNext := 7 } ∧ s'.req.lcResult = 2) ∧
  (t = 9 ∨ t = 0xF → (s.fuses.tamper = false → s'.fuses.lcs = t) ∧ s'.fuses.meshHelper = false ∧ s'.keeper.root = none ∧
    s'.keeper.identity = false ∧ s'.boot.kind = 3 ∧ s'.now = 0)

/-- State fuses blown for a later state than the one they hold. -/
theorem quietSettle_blowState {s : State} {t : Nat} (hq : s.faults.quietDue = none) (h : s.fuses.lcsNext ≤ t) :
    quietSettle (blowState s t) = { s with fuses := { s.fuses with lcsNext := t } } := by
  rw [quietSettle_of_quietDue_none (s := blowState s t) hq, blowState, max_eq_right h]

theorem lcAccepted_lcAccept {s : State} {va : BitVec 56} {b : Bytes} {t : Nat} (hq : s.faults.quietDue = none) (ht : leAt b 4 1 = t)
    (hs : s.fuses.lcsNext ≤ t) : LcAccepted s (quietSettle (lcAccept (lcAnswer (lcAsked s va) t 2) b)) b t := by
  have fuses : (lcAnswer (lcAsked s va) t 2).fuses = s.fuses := lcAnswer_fuses _ t 2
  have faults : (lcAnswer (lcAsked s va) t 2).faults = s.faults := lcAnswer_faults _ t 2
  have result : (lcAnswer (lcAsked s va) t 2).req.lcResult = 2 := by rw [lcAnswer_req]
  generalize lcAnswer (lcAsked s va) t 2 = s1 at *
  rw [← faults] at hq
  rw [LcAccepted, ← fuses]
  rw [← fuses] at hs
  refine ⟨fun h => ?_, fun h => ?_, fun h => ?_, fun h => ?_⟩
  · subst h
    rw [lcAccept_cut ht, quietSettle_blowState (s := enrol s1) hq hs]
    exact ⟨rfl, rfl, rfl, rfl, result⟩
  · subst h
    rw [lcAccept_keyed ht, quietSettle_blowState (s := blowOwner s1 _) hq hs]
    exact ⟨rfl, result⟩
  · subst h
    rw [lcAccept_locked ht, quietSettle_blowState hq hs]
    exact ⟨rfl, result⟩
  · rw [lcAccept_left ht h]
    exact leaveService_leaves h hs

/-- What a signed request leaves, by the order of the checks. -/
theorem lcRequest_signed {s : State} {va : BitVec 56} {ps : Pieces} {t : Nat} {d : Bytes} (hq : s.faults.quietDue = none)
    (hps : accOk (unitAccess s 0 va.toNat (2 * lcBlockLen) 2) = some ps) (ht : leAt (readBytes s ps) 4 1 = t)
    (hform : lcForm s (readBytes s ps) = true) (hnext : s.fuses.lcsNext = s.fuses.lcs) (hd : lcSigner s t = some d) :
    let b := readBytes s ps
    let s' := quietSettle (lcRequest s 0 va.toNat t)
    if sha256 (slice b 80 1312) ≠ d ∨
        Config.mlDsaVerify 0 (slice b 80 1312) (ascii "EVG-LC") (sha256 (b.take 1392)) (slice b 1392 2420) = false then LcRefused s s' t 3
    else if w64 (leAt b 8 8) ≠ s.boot.lcNonce ∨ devId s ≠ some (slice b 16 32) then LcRefused s s' t 5
    else if (s.fuses.lcs = 5 ∨ s.fuses.lcs = 7) ∧ (t = 9 ∨ t = 0xF) ∧ tailSealed s = false then LcRefused s s' t 7
    else if (s.fuses.lcs = 5 ∨ s.fuses.lcs = 7) ∧ (t = 9 ∨ t = 0xF) ∧ sealFits s = false then LcRefused s s' t 6
    else auditFull s = false → LcAccepted s s' b t := by
  intro b s'
  have refusal := lcRefusal_signed hform hnext (by rw [ht]; exact hd)
  rw [ht] at refusal
  have refuses {r : Nat} (hr : lcRefusal s b = r) (h0 : r ≠ 0) : LcRefused s s' t r := lcRefused_of_lcRefusal hq hps ht hr h0
  split_ifs at refusal ⊢
  · exact refuses refusal (by decide)
  · exact refuses refusal (by decide)
  · exact refuses refusal (by decide)
  · exact refuses refusal (by decide)
  · intro room
    have accepted : lcRequest s 0 va.toNat t = lcAccept (lcAnswer (lcAsked s va) t 2) b := by
      rw [lcRequest_own_target hps ht, lcJudge_of_acceptance (s := lcAsked s va) refusal room, ht]
    have later : s.fuses.lcsNext ≤ t := hnext ▸ (lcs_lt_of_lcSigner hd).le
    unfold s'
    rw [accepted]
    exact lcAccepted_lcAccept hq ht later

/-- Settles O43: each row by what its block is — another partition's, unreadable, refused, accepted, or another row's. -/
theorem lifeCycleRequests : Obligations.LifeCycleRequests := by
  unfold Obligations.LifeCycleRequests
  intro s p va hq rows
  have rows_eq {p : Fin 256} {c : Instr} {target : Nat} (h : rows p c target) : LcRow p va c target := h
  refine ⟨fun hp c target hr => (rows_eq hr).completes ?_, fun hx c target hr => (rows_eq hr).completes ?_, fun ps hps => ?_⟩
  · rw [lcRequest_other_partition fun h => hp (Fin.ext h)]
    exact quietSettle_of_quietDue_none hq
  · rw [Fin.val_zero, lcRequest_unreadable hx, quietSettle_lcAnswer (s := lcAsked s va) hq, lcAnswer_req]
    exact ⟨rfl, rfl, lcAnswer_fuses _ 0 6⟩
  · intro b t refused c target hr
    refine ⟨fun ht hform => ?_, fun ht hform hs => ?_, fun d ht hform hnext hd => ?_, fun ht hl => ?_⟩
    · subst ht
      exact (rows_eq hr).completes (lcRefused_of_lcRefusal hq hps rfl (lcRefusal_bad_form hform) (by decide))
    · subst ht
      exact (rows_eq hr).completes (lcRefused_of_lcRefusal hq hps rfl (lcRefusal_no_transition hform hs) (by decide))
    · subst ht
      exact (rows_eq hr).completes (lcRequest_signed hq hps rfl hform hnext hd)
    · refine (rows_eq hr).completes ?_
      rw [Fin.val_zero, lcRequest_other_target hps ht hl]
      exact quietSettle_of_quietDue_none hq

end Sys2Proof.Machine
end

section
/-! SUPPORT. Staged sets and requests for a turn (R24, R321, R322, R325 to R328): what a plane's rows leave of its set, of the other plane's
set and of the keycut in force, and the records that they append. -/

namespace Sys2Proof.Machine

open Sys2Proof.Claims

/-! ### Planes -/

@[simp] theorem plane_modPlane (s : State) (p : Nat) (f : Plane → Plane) : plane (modPlane s p f) p = f (plane s p) := by
  by_cases hp : p = 0 <;> simp [plane, modPlane, hp]

theorem plane_modPlane_other (s : State) {p : Nat} (hp : p ≤ 1) (f : Plane → Plane) : plane (modPlane s p f) (1 - p) = plane s (1 - p) := by
  obtain rfl | rfl : p = 0 ∨ p = 1 := by omega
  · rfl
  · rfl

@[simp] theorem modPlane_kc (s : State) (p : Nat) (f : Plane → Plane) : (modPlane s p f).kc = s.kc := rfl
@[simp] theorem modPlane_ks (s : State) (p : Nat) (f : Plane → Plane) : (modPlane s p f).ks = s.ks := rfl
@[simp] theorem modPlane_audit (s : State) (p : Nat) (f : Plane → Plane) : (modPlane s p f).audit = s.audit := rfl

@[simp] theorem modPlane_num (s : State) (p : Nat) (f : Plane → Plane) : (modPlane s p f).turns.num = s.turns.num := by
  unfold modPlane
  split <;> rfl

@[simp] theorem modPlane_commit (s : State) (p : Nat) (f : Plane → Plane) : (modPlane s p f).turns.commit = s.turns.commit := by
  unfold modPlane
  split <;> rfl

@[simp] theorem modPlane_waiting (s : State) (p : Nat) (f : Plane → Plane) : (modPlane s p f).turns.waiting = s.turns.waiting := by
  unfold modPlane
  split <;> rfl

/-- A change turns plane `p` into `y` and leaves the other plane and the keycut in force as they are. -/
def PlaneBecomes (s : State) (p : Nat) (s' : State) (y : Plane) : Prop :=
  plane s' p = y ∧ plane s' (1 - p) = plane s (1 - p) ∧ s'.kc = s.kc

theorem PlaneBecomes.refl (s : State) (p : Nat) : PlaneBecomes s p s (plane s p) := ⟨rfl, rfl, rfl⟩

/-- A further change of the plane. -/
theorem PlaneBecomes.modPlane {s t : State} {p : Nat} {y : Plane} (h : PlaneBecomes s p t y) (hp : p ≤ 1) (f : Plane → Plane) :
    PlaneBecomes s p (modPlane t p f) (f y) := by
  obtain ⟨own, other, kc⟩ := h
  exact ⟨(plane_modPlane t p f).trans (congrArg f own), (plane_modPlane_other t hp f).trans other, kc⟩

/-- A further change that touches neither turns nor the keycut. -/
theorem PlaneBecomes.of_within {s t u : State} {p : Nat} {y : Plane} {F : Part → Prop} (h : PlaneBecomes s p t y) (w : Within F t u)
    (hturns : ¬ F .turns) (hkc : ¬ F .kc) : PlaneBecomes s p u y := by
  obtain ⟨own, other, kc⟩ := h
  have turns : u.turns = t.turns := (w.rest .turns).resolve_left hturns
  have same (q : Nat) : plane u q = plane t q := by simp only [plane, turns]
  exact ⟨(same p).trans own, (same (1 - p)).trans other, ((w.rest .kc).resolve_left hkc).trans kc⟩

/-- A change that depends on a condition. -/
theorem PlaneBecomes.ite {s t u : State} {p : Nat} {y z : Plane} {c : Prop} [Decidable c] (ht : PlaneBecomes s p t y)
    (hu : PlaneBecomes s p u z) : PlaneBecomes s p (if c then t else u) (if c then y else z) := by
  split <;> assumption

/-- A plane of its own state, changed once. -/
theorem planeBecomes_modPlane (s : State) {p : Nat} (hp : p ≤ 1) (f : Plane → Plane) : PlaneBecomes s p (modPlane s p f) (f (plane s p)) :=
  (PlaneBecomes.refl s p).modPlane hp f

/-! ### The audit tail -/

theorem auditPush_tail_prefix (s : State) (source part kind : Nat) (body : Bytes) :
    s.audit.tail <+: (auditPush s source part kind body).audit.tail := List.prefix_append _ _

theorem auditSummaries_tail_prefix (s : State) : s.audit.tail <+: (auditSummaries s).audit.tail := by
  unfold auditSummaries
  refine List.foldlRecOn (motive := fun t : State => s.audit.tail <+: t.audit.tail) _ _ (List.prefix_refl _) fun t grown e _ => ?_
  split
  · exact grown
  · exact grown.trans (auditPush_tail_prefix t _ _ _ _)

/-- A record leaves the tail before it as it is. -/
theorem audit_tail_prefix (s : State) (source part kind : Nat) (body : Bytes) :
    s.audit.tail <+: (audit s source part kind body).audit.tail := by
  unfold audit
  extract_lets t
  split
  · exact auditSummaries_tail_prefix s
  · exact (auditSummaries_tail_prefix s).trans (auditPush_tail_prefix t _ _ _ _)

/-- The body of a KEYCUT record: the delta's serial, its KIND and the outcome. -/
def keycutBody (code : Nat) (b : Bytes) : Bytes :=
  leBytes 4 (kcSerial b) ++ leBytes 2 (kcKind b) ++ [byte (if code = 2 then 0 else code)]

/-- A verified delta appends its KEYCUT record first. -/
theorem deltaAudit_tail_prefix (s : State) (p code : Nat) (b : Bytes) :
    (audit s p p 3 (keycutBody code b)).audit.tail <+: (deltaAudit s p code b).audit.tail := by
  unfold deltaAudit
  extract_lets out keycut policy
  change keycut.audit.tail <+: _
  have noted : keycut.audit.tail <+: policy.audit.tail := by
    unfold policy
    split
    · split
      · exact audit_tail_prefix _ _ _ _ _
      · exact List.prefix_refl _
    · exact List.prefix_refl _
  split
  · exact List.prefix_refl _
  · split
    · exact noted.trans (audit_tail_prefix _ _ _ _ _)
    · exact noted

/-- A verified delta is recorded, whatever its outcome (R322). -/
theorem deltaAudit_records {s : State} (room : auditFull s = false) (none_waits : s.audit.summaries = []) (p code : Nat) (b : Bytes) :
    ∃ r more, (deltaAudit s p code b).audit.tail = s.audit.tail ++ r :: more ∧ r.kind = 3 := by
  obtain ⟨more, grown⟩ := deltaAudit_tail_prefix s p code b
  rw [audit_of_room room none_waits] at grown
  exact ⟨_, more, grown.symm.trans (by rw [auditPush, List.append_assoc, List.singleton_append]), rfl⟩

theorem deltaAudit_frame (s : State) (p code : Nat) (b : Bytes) : Within (· = .audit) s (deltaAudit s p code b) :=
  have : Has (· = .audit) .audit := ⟨rfl⟩
  deltaAudit_within _ _ _ _ (Within.refl s)

/-! ### Staging a delta (R325) -/

theorem turnDeltaWrite_other_partition {s : State} {p : Nat} (hp : 1 < p) (va : VAddr) : turnDeltaWrite s p va = s := if_pos (.inl hp)

theorem turnDeltaWrite_verifying {s : State} {p : Nat} (hv : (plane s p).verifying.isSome = true) (va : VAddr) : turnDeltaWrite s p va = s :=
  if_pos (.inr hv)

/-- A write of TURN_DELTA is refused with CLOSED or FULL, or starts the verification. -/
theorem turnDeltaWrite_becomes {s : State} {p : Nat} (hp : p ≤ 1) (hv : (plane s p).verifying = none) (va : VAddr) :
    PlaneBecomes s p (turnDeltaWrite s p va)
      (if (plane s p).closed then { plane s p with deltaVa := va, dcode := 8 }
       else if 8 ≤ (plane s p).deltas.length then { plane s p with deltaVa := va, dcode := 0xA }
       else { plane s p with deltaVa := va, dcode := 1, verifying := some va }) := by
  unfold turnDeltaWrite
  rw [if_neg (by simp [hv, hp])]
  extract_lets written
  have noted : PlaneBecomes s p written { plane s p with deltaVa := va } := planeBecomes_modPlane s hp _
  rw [noted.1]
  exact (noted.modPlane hp _).ite ((noted.modPlane hp _).ite (noted.modPlane hp _))

/-! ### The end of a verification (R321, R322) -/

/-- A verification ends with a code; a CLOSE that waited for it takes effect. -/
def verificationEnded (s : State) (p code : Nat) : State :=
  closeIfDue (modPlane s p (fun x => { x with verifying := none, dcode := code })) p

/-- The state in which a delta is recorded, and staged if it passed. -/
def deltaJudged (s : State) (p : Nat) (b : Bytes) : State :=
  let t := deltaAudit s p (deltaCode s p b) b
  if deltaCode s p b = 2 then modPlane t p (fun x => { x with deltas := x.deltas ++ [deltaOf b], dserial := kcSerial b }) else t

theorem deltaVerified_unread {s : State} {p : Nat} {va : VAddr} (hv : (plane s p).verifying = some va) (hb : deltaBytes s p va.toNat = none) :
    deltaVerified s p = verificationEnded s p 9 := by
  simp only [deltaVerified, hv, hb, verificationEnded]

theorem deltaVerified_read {s : State} {p : Nat} {va : VAddr} {b : Bytes} (hv : (plane s p).verifying = some va)
    (hb : deltaBytes s p va.toNat = some b) : deltaVerified s p = verificationEnded (deltaJudged s p b) p (deltaCode s p b) := by
  simp only [deltaVerified, hv, hb, verificationEnded, deltaJudged]

theorem closeIfDue_becomes {s t : State} {p : Nat} {y : Plane} (h : PlaneBecomes s p t y) (hp : p ≤ 1) :
    PlaneBecomes s p (closeIfDue t p) { y with closed := y.closed || y.closeDue, closeDue := false } := by
  unfold closeIfDue
  rw [h.1]
  cases hd : y.closeDue with
  | true => simpa using h.modPlane hp _
  | false =>
    have unchanged : { y with closed := y.closed || false, closeDue := false } = y := by
      rw [Bool.or_false, ← hd]
    rw [unchanged]
    exact h

theorem verificationEnded_becomes {s t : State} {p : Nat} {y : Plane} (h : PlaneBecomes s p t y) (hp : p ≤ 1) (code : Nat) :
    PlaneBecomes s p (verificationEnded t p code)
      { y with verifying := none, dcode := code, closed := y.closed || y.closeDue, closeDue := false } :=
  closeIfDue_becomes (h.modPlane hp _) hp

theorem verificationEnded_audit (s : State) (p code : Nat) : (verificationEnded s p code).audit = s.audit := by
  unfold verificationEnded closeIfDue
  split <;> rfl

theorem deltaAudit_becomes (s : State) (p code : Nat) (b : Bytes) : PlaneBecomes s p (deltaAudit s p code b) (plane s p) :=
  (PlaneBecomes.refl s p).of_within (deltaAudit_frame s p code b) (by decide) (by decide)

theorem deltaJudged_staged {s : State} {p : Nat} {b : Bytes} (hp : p ≤ 1) (hc : deltaCode s p b = 2) :
    PlaneBecomes s p (deltaJudged s p b) { plane s p with deltas := (plane s p).deltas ++ [deltaOf b], dserial := kcSerial b } := by
  simp only [deltaJudged, if_pos hc]
  exact (deltaAudit_becomes s p _ b).modPlane hp _

theorem deltaJudged_refused {s : State} {p : Nat} {b : Bytes} (hc : deltaCode s p b ≠ 2) :
    PlaneBecomes s p (deltaJudged s p b) (plane s p) := by
  simp only [deltaJudged, if_neg hc]
  exact deltaAudit_becomes s p _ b

theorem deltaJudged_audit (s : State) (p : Nat) (b : Bytes) : (deltaJudged s p b).audit = (deltaAudit s p (deltaCode s p b) b).audit := by
  unfold deltaJudged
  split <;> rfl

/-- The verification of a delta that was read is recorded. -/
theorem deltaVerified_records {s : State} {p : Nat} {va : VAddr} {b : Bytes} (hv : (plane s p).verifying = some va)
    (hb : deltaBytes s p va.toNat = some b) (room : auditFull s = false) (none_waits : s.audit.summaries = []) :
    ∃ r more, (deltaVerified s p).audit.tail = s.audit.tail ++ r :: more ∧ r.kind = 3 := by
  rw [deltaVerified_read hv hb, verificationEnded_audit, deltaJudged_audit]
  exact deltaAudit_records room none_waits p _ b

/-! ### OPEN, CLOSE and DISCARD (R327) -/

theorem turnSetWrite_other_partition {s : State} {p : Nat} (hp : 1 < p) (act : Nat) : turnSetWrite s p act = s := if_pos hp

/-- OPEN of a set that a turn has taken. -/
theorem turnSetWrite_open_taken {s : State} {p : Nat} (h : setTaken s p = true) : turnSetWrite s p 1 = s := by
  simp [turnSetWrite, h]

theorem turnSetWrite_open {s : State} {p : Nat} (hp : p ≤ 1) (h : setTaken s p = false) :
    PlaneBecomes s p (turnSetWrite s p 1) { plane s p with closed := false } := by
  simp only [turnSetWrite, if_neg hp.not_gt, h, Bool.false_eq_true, if_false]
  exact planeBecomes_modPlane s hp _

theorem turnSetWrite_close {s : State} {p : Nat} (hp : p ≤ 1) : PlaneBecomes s p (turnSetWrite s p 2)
    (if (plane s p).verifying.isSome then { plane s p with closeDue := true } else { plane s p with closed := true }) := by
  simp only [turnSetWrite, if_neg hp.not_gt]
  exact (planeBecomes_modPlane s hp _).ite (planeBecomes_modPlane s hp _)

/-- DISCARD of a CLOSED set. -/
theorem turnSetWrite_discard_closed {s : State} {p : Nat} (h : (plane s p).closed = true) : turnSetWrite s p 3 = s := by
  simp [turnSetWrite, h]

/-- The parts of partition 1's DISCARD beyond its set: the key stagings, and the messages to the other members (R408). -/
def discardParts : List Part := [.ks, .arbs, .westad, .out]

theorem sendAll_discardStaged_frame (s : State) (origin cls mtype : Nat) (body : Bytes) :
    Within (· ∈ discardParts) s (sendAll (discardStaged s origin) cls mtype body) :=
  have : Has (· ∈ discardParts) .ks := has_mem (by decide)
  have : Has (· ∈ discardParts) .arbs := has_mem (by decide)
  have : Has (· ∈ discardParts) .westad := has_mem (by decide)
  have : Has (· ∈ discardParts) .out := has_mem (by decide)
  sendAll_within _ _ _ _ (discardStaged_within _ _ (Within.refl s))

theorem turnSetWrite_discard {s : State} {p : Nat} (hp : p ≤ 1) (h : (plane s p).closed = false) :
    PlaneBecomes s p (turnSetWrite s p 3) { plane s p with deltas := [] } := by
  have emptied := planeBecomes_modPlane s hp (fun x => { x with deltas := [] })
  simp only [turnSetWrite, if_neg hp.not_gt, h, Bool.false_eq_true, if_false]
  rw [← h]
  split
  · exact emptied.of_within (sendAll_discardStaged_frame _ _ _ _ _) (by decide) (by decide)
  · exact emptied

/-- Messages to the other members leave the key store as it is. -/
theorem sendAll_ks (s : State) (cls mtype : Nat) (body : Bytes) : (sendAll s cls mtype body).ks = s.ks :=
  have : Has (· ∈ [Part.arbs, .westad, .out]) .arbs := has_mem (by decide)
  have : Has (· ∈ [Part.arbs, .westad, .out]) .westad := has_mem (by decide)
  have : Has (· ∈ [Part.arbs, .westad, .out]) .out := has_mem (by decide)
  ((sendAll_within (F := (· ∈ [Part.arbs, .westad, .out])) _ _ _ _ (Within.refl s)).rest .ks).resolve_left (by decide)

/-- With no mirrored entry waiting for room, a discard drops the origin's entries that no turn has taken. -/
theorem discardStaged_pool {s : State} (h : s.ks.heldBack = []) (origin : Nat) :
    (discardStaged s origin).ks.pool = s.ks.pool.filter (fun y => y.taken || y.origin != origin) := by
  simp [discardStaged, poolRetry, h]

theorem turnSetWrite_discard_pool {s : State} (h : (plane s 1).closed = false) (hb : s.ks.heldBack = []) :
    (turnSetWrite s 1 3).ks.pool = s.ks.pool.filter (fun y => y.taken || y.origin != kcMember s.kc) := by
  simp [turnSetWrite, h, sendAll_ks, discardStaged_pool, hb]

/-! ### Requests (R328) -/

/-- Whether a plane has a request outstanding. -/
def Requesting (s : State) (p : Nat) : Prop := p ∈ s.turns.waiting ∨ ∃ c, s.turns.commit = some c ∧ c.plane = p

/-- Whether a request's steps may begin at once: no commit, agreement or sleep stands before it. -/
def MayCommit (s : State) : Prop := s.turns.commit = none ∧ s.westad.agree = none ∧ s.supply.power = 1

/-- GO from partition 0 or 1 is refused with BUSY, waits, or begins its steps. -/
theorem turnCommitWrite_eq {s : State} {p : Nat} (hp : p ≤ 1) [Decidable (Requesting s p)] [Decidable (MayCommit s)] : turnCommitWrite s p =
    if Requesting s p then modPlane s p (fun x => { x with last := 3 })
    else if ¬ MayCommit s then modPlane { s with turns := { s.turns with waiting := s.turns.waiting ++ [p] } } p (fun x => { x with phase := 1 })
    else startCommit s p := by
  unfold turnCommitWrite
  rw [if_neg hp.not_gt]
  refine if_congr ?busy rfl (if_congr ?held rfl rfl)
  case busy =>
    unfold Requesting
    cases s.turns.commit <;> simp
  case held =>
    unfold MayCommit
    cases s.turns.commit <;> cases s.westad.agree <;> simp

/-- A request while the plane has one outstanding (BUSY). -/
theorem turnCommitWrite_busy {s : State} {p : Nat} (hp : p ≤ 1) (busy : Requesting s p) :
    turnCommitWrite s p = modPlane s p (fun x => { x with last := 3 }) := by
  classical rw [turnCommitWrite_eq hp, if_pos busy]

/-- A request that waits for the one before it. -/
theorem turnCommitWrite_waits {s : State} {p : Nat} (hp : p ≤ 1) (busy : ¬ Requesting s p) (may : ¬ MayCommit s) : turnCommitWrite s p =
    modPlane { s with turns := { s.turns with waiting := s.turns.waiting ++ [p] } } p (fun x => { x with phase := 1 }) := by
  classical rw [turnCommitWrite_eq hp, if_neg busy, if_pos may]

/-- A request whose steps begin. -/
theorem turnCommitWrite_starts {s : State} {p : Nat} (hp : p ≤ 1) (busy : ¬ Requesting s p) (may : MayCommit s) :
    turnCommitWrite s p = startCommit s p := by
  classical rw [turnCommitWrite_eq hp, if_neg busy, if_neg (not_not_intro may)]

theorem turnCommitWrite_other_partition {s : State} {p : Nat} (hp : 1 < p) : turnCommitWrite s p = s := if_pos hp

/-- A request that waits changes the plane's PHASE alone, beside the list of requests. -/
theorem turnCommitWrite_waits_becomes {s : State} {p : Nat} (hp : p ≤ 1) (busy : ¬ Requesting s p) (may : ¬ MayCommit s) :
    PlaneBecomes s p (turnCommitWrite s p) { plane s p with phase := 1 } := by
  have queued : PlaneBecomes s p { s with turns := { s.turns with waiting := s.turns.waiting ++ [p] } } (plane s p) := ⟨rfl, rfl, rfl⟩
  rw [turnCommitWrite_waits hp busy may]
  exact queued.modPlane hp _

/-! ### A commit begins (R24, R29, R328) -/

/-- A full audit tail stops the request (R30). -/
theorem startCommit_of_auditFull {s : State} {p : Nat} (full : auditFull s = true) :
    startCommit s p = modPlane s p (fun x => { x with last := 2, phase := 0 }) := if_pos full

/-- The state of a commit that begins: the stagings are marked and the turn is recorded. -/
def turnRecorded (s : State) (p : Nat) : State :=
  auditTurn (takeSets s).2.2.2 p (takeSets s).1 (takeSets s).2.1 (takeSets s).2.2.1

/-- The commit that a request of a plane begins. -/
def newCommit (s : State) (p : Nat) : Commit :=
  { plane := p, take0 := (takeSets s).1, take1 := (takeSets s).2.1, deltas := (takeSets s).2.2.1, phase := 2, started := s.now }

/-- The parts that a commit's start changes before the drain: the marks on the stagings, the audit store and the retirements recorded. -/
def commitStartParts : List Part := [.ks, .audit, .faults]

theorem turnRecorded_within (s : State) (p : Nat) : Within (· ∈ commitStartParts) s (turnRecorded s p) :=
  have : Has (· ∈ commitStartParts) .ks := has_mem (by decide)
  have : Has (· ∈ commitStartParts) .audit := has_mem (by decide)
  have : Has (· ∈ commitStartParts) .faults := has_mem (by decide)
  auditTurn_within _ _ _ _ _ (takeSets_within _ (Within.refl s))

theorem turnRecorded_turns (s : State) (p : Nat) : (turnRecorded s p).turns = s.turns :=
  ((turnRecorded_within s p).rest .turns).resolve_left (by decide)

/-- A commit begins with its record, and the drain begins. -/
theorem startCommit_of_room {s : State} {p : Nat} (room : auditFull s = false) : startCommit s p =
    modPlane { turnRecorded s p with turns := { s.turns with commit := some (newCommit s p) } } p (fun x => { x with phase := 2 }) := by
  have now : (turnRecorded s p).now = s.now := ((turnRecorded_within s p).rest .now).resolve_left (by decide)
  rw [newCommit, ← now, ← turnRecorded_turns s p]
  exact if_neg (by rw [room]; exact Bool.false_ne_true)

theorem startCommit_becomes {s : State} {p : Nat} (hp : p ≤ 1) (room : auditFull s = false) :
    PlaneBecomes s p (startCommit s p) { plane s p with phase := 2 } := by
  have drained : PlaneBecomes s p { turnRecorded s p with turns := { s.turns with commit := some (newCommit s p) } } (plane s p) :=
    ⟨rfl, rfl, ((turnRecorded_within s p).rest .kc).resolve_left (by decide)⟩
  rw [startCommit_of_room room]
  exact drained.modPlane hp _

/-- Unless a sealed key store keeps its stagings from being promoted (R483), partition 1's set is taken when it is CLOSED. -/
theorem takeSets_promoting {s : State} (h : s.ks.isSealed = false ∨ s.ks.pool = []) : (takeSets s).2.1 = s.turns.p1.closed := by
  obtain h | h := h
  · simp [takeSets, h]
  · simp [takeSets, h]

theorem newCommit_promoting {s : State} (h : s.ks.isSealed = false ∨ s.ks.pool = []) (p : Nat) : newCommit s p = {
    plane := p, take0 := s.turns.p0.closed, take1 := s.turns.p1.closed
    deltas := (if s.turns.p0.closed then s.turns.p0.deltas else []) ++ (if s.turns.p1.closed then s.turns.p1.deltas else [])
    phase := 2, started := s.now } := by
  have deltas : (takeSets s).2.2.1 =
      (if s.turns.p0.closed then s.turns.p0.deltas else []) ++ (if (takeSets s).2.1 then s.turns.p1.deltas else []) := rfl
  rw [newCommit, deltas, takeSets_promoting h]
  rfl

/-- A CLOSED set of partition 1 is taken with every key staging (R326). -/
theorem takeSets_marks {s : State} (h : (takeSets s).2.1 = true) :
    (takeSets s).2.2.2.ks.pool = s.ks.pool.map (fun y => { y with taken := true }) := by
  have taken : (takeSets s).2.2.2 =
      if (takeSets s).2.1 then { s with ks := { s.ks with pool := s.ks.pool.map (fun x => { x with taken := true }) } } else s := rfl
  rw [taken, if_pos h]

theorem startCommit_pool {s : State} {p : Nat} (room : auditFull s = false) (h : s.ks.isSealed = false ∨ s.ks.pool = [])
    (closed : s.turns.p1.closed = true) : (startCommit s p).ks.pool = s.ks.pool.map (fun y => { y with taken := true }) := by
  have : Has (· ∈ [Part.audit, .faults]) .audit := has_mem (by decide)
  have : Has (· ∈ [Part.audit, .faults]) .faults := has_mem (by decide)
  have noted : (turnRecorded s p).ks = (takeSets s).2.2.2.ks :=
    ((auditTurn_within (F := (· ∈ [Part.audit, .faults])) _ _ _ _ _ (Within.refl _)).rest .ks).resolve_left (by decide)
  rw [startCommit_of_room room, modPlane_ks, noted, takeSets_marks ((takeSets_promoting h).trans closed)]

/-- A commit's record is of KIND 2, of the plane, and stamped with the turn that ends (R29). -/
theorem startCommit_records {s : State} {p : Nat} (room : auditFull s = false) (none_waits : s.audit.summaries = []) :
    ∃ r, (startCommit s p).audit.tail = s.audit.tail ++ [r] ∧ r.kind = 2 ∧ r.source = p ∧ r.turn = s.turns.num := by
  have : Has (· = Part.ks) .ks := ⟨rfl⟩
  have taken : Within (· = Part.ks) s (takeSets s).2.2.2 := takeSets_within _ (Within.refl s)
  have audits : (takeSets s).2.2.2.audit = s.audit := (taken.rest .audit).resolve_left (by decide)
  have engines : (takeSets s).2.2.2.engs = s.engs := (taken.rest .engs).resolve_left (by decide)
  have turns : (takeSets s).2.2.2.turns = s.turns := (taken.rest .turns).resolve_left (by decide)
  have still_room : auditFull (takeSets s).2.2.2 = false := by
    rw [← room]
    unfold auditFull auditHeld
    rw [audits, engines]
  rw [startCommit_of_room room, modPlane_audit]
  dsimp only [turnRecorded, auditTurn]
  rw [audit_of_room still_room (by rw [audits]; exact none_waits)]
  exact ⟨_, by rw [auditPush, audits], rfl, rfl, by rw [turns]⟩

/-! ### The obligation -/

/-- Settles O27: each row by the plane's state, for partitions 0 and 1 and for the others. -/
theorem turnSetsAreStaged : Obligations.TurnSetsAreStaged := by
  unfold Obligations.TurnSetsAreStaged
  intro s p x other becomes ignored
  have becomes_of {i : Instr} {s' : State} {y : Plane} (e : exec i s = .next s') (h : PlaneBecomes s p s' y) : becomes i y := ⟨s', e, h⟩
  have ignored_of {i : Instr} {s' : State} (e : exec i s = .next s') (h : s' = s) : ignored i := ⟨s', e, h⟩
  refine ⟨fun hp => ?others, fun hp => ?planes⟩
  case others =>
    exact ⟨ignored_of rfl (if_pos hp), ignored_of rfl (turnSetWrite_other_partition hp 1), ignored_of rfl (turnSetWrite_other_partition hp 2),
      ignored_of rfl (turnSetWrite_other_partition hp 3), ignored_of rfl (turnCommitWrite_other_partition hp),
      fun va => ignored_of rfl (turnDeltaWrite_other_partition hp va)⟩
  case planes =>
    have verify : exec (.deltaVerifyDone p) s = .next (deltaVerified s p) := congrArg Host.Outcome.next (if_neg hp.not_gt)
    refine ⟨fun va hv => ignored_of rfl (turnDeltaWrite_verifying hv va), fun va hv => becomes_of rfl (turnDeltaWrite_becomes hp hv va),
      fun va hv => ?verified, fun h => becomes_of rfl (turnSetWrite_open hp h), fun h => ignored_of rfl (turnSetWrite_open_taken h),
      becomes_of rfl (turnSetWrite_close hp), fun h => ignored_of rfl (turnSetWrite_discard_closed h),
      fun h => becomes_of rfl (turnSetWrite_discard hp h), fun h h1 hb => ?discarded, ?requested⟩
    case verified =>
      refine ⟨fun hb => becomes_of verify ?_, fun b hb hc => becomes_of verify ?_, fun b hb hc => becomes_of verify ?_,
        fun b hb room none_waits => ⟨_, verify, deltaVerified_records hv hb room none_waits⟩⟩
      · rw [deltaVerified_unread hv hb]
        exact verificationEnded_becomes (PlaneBecomes.refl s p) hp 9
      · rw [deltaVerified_read hv hb, hc]
        exact verificationEnded_becomes (deltaJudged_staged hp hc) hp 2
      · rw [deltaVerified_read hv hb]
        exact verificationEnded_becomes (deltaJudged_refused hc) hp _
    case discarded =>
      subst h1
      exact ⟨_, rfl, turnSetWrite_discard_pool h hb⟩
    case requested =>
      intro busy free
      refine ⟨fun hb => becomes_of rfl ?_, fun hb hf => becomes_of rfl (turnCommitWrite_waits_becomes hp hb hf), fun hb hf => ⟨_, rfl, ?_⟩,
        fun hb hf full => becomes_of rfl ?_, fun hb hf room promoting none_waits => ⟨_, rfl, ?_⟩⟩
      · rw [turnCommitWrite_busy hp hb]
        exact planeBecomes_modPlane s hp _
      · change (turnCommitWrite s p).turns.waiting = _
        rw [turnCommitWrite_waits hp hb hf, modPlane_waiting]
      · rw [turnCommitWrite_starts hp hb hf, startCommit_of_auditFull full]
        exact planeBecomes_modPlane s hp _
      · obtain ⟨own, other_kept, -⟩ := startCommit_becomes hp room
        rw [turnCommitWrite_starts hp hb hf]
        refine ⟨own, other_kept, ?_, ?_, startCommit_pool room promoting, startCommit_records room none_waits⟩
        · rw [startCommit_of_room room, modPlane_num]
        · rw [startCommit_of_room room, modPlane_commit, newCommit_promoting promoting]

end Sys2Proof.Machine
end

section
/-! SUPPORT. Counter fields of registers, and what jobs see of the state: the results owed to each thread and the jobs of each engine. Stores,
knocks, seats given out and the settling of the threads leave it as it is. -/

namespace Sys2Proof.Machine

/-! ### Register fields -/

/-- A field's bits are the register's. -/
theorem fld_testBit (w : Word) (hi lo i : Nat) : (fld w hi lo).testBit i = (decide (i < hi + 1 - lo) && w.getLsbD (lo + i)) := by
  rw [fld, bitsOf, Nat.testBit_mod_two_pow, Nat.testBit_shiftRight, BitVec.testBit_toNat]

/-- A field put into a register reads as the low bits of what was put. -/
theorem fld_putFld (w : Word) {hi lo : Nat} (v : Nat) (hhi : hi < 64) : fld (putFld w hi lo v) hi lo = v % 2 ^ (hi + 1 - lo) := by
  apply Nat.eq_of_testBit_eq
  intro i
  rw [fld_testBit, Nat.testBit_mod_two_pow]
  by_cases inside : i < hi + 1 - lo
  · have high : lo + i < 64 := by omega
    have masked : (maskOf hi lo).getLsbD (lo + i) = true := by
      simp only [maskOf, BitVec.getLsbD_ofNat, Nat.testBit_shiftLeft, Nat.testBit_two_pow_sub_one]
      simp [inside, high]
    have put : (BitVec.ofNat 64 ((v % 2 ^ (hi + 1 - lo)) <<< lo)).getLsbD (lo + i) = v.testBit i := by
      simp only [BitVec.getLsbD_ofNat, Nat.testBit_shiftLeft, Nat.testBit_mod_two_pow]
      simp [inside, high]
    rw [putFld, BitVec.getLsbD_or, BitVec.getLsbD_and, BitVec.getLsbD_not, masked, put]
    simp [inside]
  · simp [inside]

theorem fld_lt (w : Word) (hi lo : Nat) : fld w hi lo < 2 ^ (hi + 1 - lo) := Nat.mod_lt _ (by positivity)

/-- A counter field raised by one counts up to its highest value. -/
theorem fldGet_bump (s : State) (r : Reg) (ix : Nat) {hi lo : Nat} (hhi : hi < 64) :
    fldGet (bump s r ix hi lo 1) r ix hi lo = min (2 ^ (hi + 1 - lo) - 1) (fldGet s r ix hi lo + 1) := by
  have bound : fldGet s r ix hi lo < 2 ^ (hi + 1 - lo) := fld_lt _ _ _
  have raised : satAdd (2 ^ (hi + 1 - lo) - 1) (fldGet s r ix hi lo) 1 = min (2 ^ (hi + 1 - lo) - 1) (fldGet s r ix hi lo + 1) := by
    unfold satAdd
    split <;> omega
  calc fldGet (bump s r ix hi lo 1) r ix hi lo
      = satAdd (2 ^ (hi + 1 - lo) - 1) (fldGet s r ix hi lo) 1 % 2 ^ (hi + 1 - lo) := by
        rw [fldGet, bump, fldSet, regGet_regSet, fld_putFld _ _ hhi]
    _ = min (2 ^ (hi + 1 - lo) - 1) (fldGet s r ix hi lo + 1) := by rw [raised, Nat.mod_eq_of_lt (by omega)]

/-- A counter raised in a register that lies above another leaves the other as it is. -/
theorem regGet_bump_above (s : State) {q r : Reg} (above : (regPlace q).base < (regPlace r).base) {i : Nat} (hi : i < 4096) (ix h lo k : Nat) :
    regGet (bump s r ix h lo k) q i = regGet s q i :=
  regGet_regSet_ne _ _ _ _ _ _ (by simp only [regKey]; omega)

/-! ### What a job's thread and its engine see -/

/-- What a job's report may reach of a thread: its partition, the results owed to it, and its ports but eng.st. -/
def owedView (th : Thread) : Nat × List Nat × ({p : Nat // p ≠ 0x302} → Word) := (th.part, th.jobs, fun p => port th.arch p)

/-- What every thread may see of its jobs, and the jobs of every engine. -/
def jobView (s : State) : (Nat → Nat × List Nat × ({p : Nat // p ≠ 0x302} → Word)) × (Nat → List Job × List Job) :=
  (fun t => owedView (thr s t), fun e => ((eng s e).running, (eng s e).queue))

/-- Views are equal when every thread's and every engine's are. -/
theorem jobView_eq {s s' : State} (threads : ∀ t, owedView (thr s' t) = owedView (thr s t))
    (engines : ∀ e, (eng s' e).running = (eng s e).running ∧ (eng s' e).queue = (eng s e).queue) : jobView s' = jobView s :=
  Prod.ext (funext threads) (funext fun e => Prod.ext (engines e).1 (engines e).2)

/-- A change of the threads alone. -/
theorem jobView_of_threads {s s' : State} (engs : s'.engs = s.engs) (threads : ∀ t, owedView (thr s' t) = owedView (thr s t)) :
    jobView s' = jobView s := jobView_eq threads fun e => by simp only [eng, engs, and_self]

/-- A change of other parts. -/
theorem jobView_of_within {F : Part → Prop} {s s' : State} (w : Within F s s') (ht : ¬ F .threads) (he : ¬ F .engs) : jobView s' = jobView s := by
  have threads : s'.threads = s.threads := (w.rest .threads).resolve_left ht
  have engs : s'.engs = s.engs := (w.rest .engs).resolve_left he
  simp only [jobView, thr, eng, threads, engs]

theorem jobView_foldl {β : Type} {f : State → β → State} (h : ∀ s x, jobView (f s x) = jobView s) (l : List β) (s : State) :
    jobView (l.foldl f s) = jobView s := by
  induction l generalizing s with
  | nil => rfl
  | cons x l ih => rw [List.foldl_cons, ih, h]

theorem owedView_of_jobView {s s' : State} (h : jobView s' = jobView s) (t : Nat) : owedView (thr s' t) = owedView (thr s t) :=
  congrFun (congrArg Prod.fst h) t

theorem running_of_jobView {s s' : State} (h : jobView s' = jobView s) (e : Nat) : (eng s' e).running = (eng s e).running :=
  congrArg Prod.fst (congrFun (congrArg Prod.snd h) e)

theorem queue_of_jobView {s s' : State} (h : jobView s' = jobView s) (e : Nat) : (eng s' e).queue = (eng s e).queue :=
  congrArg Prod.snd (congrFun (congrArg Prod.snd h) e)

/-! ### Threads stored -/

theorem jobView_putThr {s : State} {t : Nat} {th : Thread} (h : owedView th = owedView (thr s t)) : jobView (putThr s t th) = jobView s := by
  refine jobView_of_threads (by rw [putThr_rest]) fun u => ?_
  by_cases hu : u = t
  · subst hu
    rw [putThr_self]
    exact h
  · rw [putThr_ne _ _ _ _ hu]
    rfl

/-- Threads woken by a source see their jobs as before. -/
theorem jobView_wakeTargets (s : State) (n : Nat) : jobView (wakeTargets s n) = jobView s := by
  refine jobView_foldl (fun s t => ?_) _ _
  split
  · unfold wakeThr
    dsimp only
    split
    · exact jobView_putThr rfl
    · rfl
  · rfl

theorem jobView_raise (s : State) (p n : Nat) : jobView (raise s p n) = jobView s := by
  unfold raise
  split
  · rfl
  · split
    · exact jobView_wakeTargets _ n
    · unfold deny
      split <;> rfl

theorem jobView_settle (s : State) : jobView (settle s) = jobView s := by
  have h := settle_settled s
  refine jobView_of_threads (by rw [h.rest]) fun t => ?_
  rw [(h.each t).eq]
  rfl

/-! ### Memory -/

/-- A store takes reservations from other threads, and nothing else of them. -/
theorem jobView_storeAt (s : State) (b : Option Nat) (a : Nat) (ds : List Digit) (bad : Bool) : jobView (storeAt s b a ds bad) = jobView s := by
  refine jobView_of_threads rfl fun t => ?_
  simp only [storeAt, loseResv, thr]
  refine tget_tmapAll owedView _ _ (fun k th => ?_) t
  split
  · rfl
  · split
    · split <;> rfl
    · rfl

theorem jobView_storePieces (b : Option Nat) (bad : Bool) (ps : Pieces) (ds : List Digit) (s : State) :
    jobView (storePieces s b ps ds bad) = jobView s := by
  induction ps generalizing ds s with
  | nil => rfl
  | cons p ps ih => rw [storePieces, ih, jobView_storeAt]

/-- The memory that a store leaves depends on the memory it finds alone. -/
theorem storePieces_mem_congr {s s' : State} (b : Option Nat) (bad : Bool) (ps : Pieces) (ds : List Digit) (h : s'.mem = s.mem) :
    (storePieces s' b ps ds bad).mem = (storePieces s b ps ds bad).mem := by
  induction ps generalizing ds s s' with
  | nil => exact h
  | cons p ps ih => exact ih _ (congrArg (memWrite · p.1 (ds.take p.2)) h)

/-- Digits stored in one run read as stored. -/
theorem readPieces_of_memWrite {s : State} {m : Tab Digit} {a : Nat} {ds : List Digit} (h : s.mem = memWrite m a ds) :
    readPieces s [(a, ds.length)] = ds := by
  simp only [readPieces, List.flatMap_cons, List.flatMap_nil, List.append_nil, readDigits, readDigit, h]
  refine List.ext_getElem (by simp) fun i _ hi => ?_
  simp only [List.getElem_map, List.getElem_range]
  exact tget_memWrite_in ds m a i hi

/-! ### Seats -/

theorem owedView_landOp_engSt (th : Thread) (id : Nat) (v : Word) : owedView (landOp th id (fun a => setPort a 0x302 v)) = owedView th := by
  refine Prod.ext rfl (Prod.ext rfl (funext fun p => ?_))
  simp only [owedView, landOp, landAll]
  split
  · exact tget_tset_ne _ _ _ _ p.2
  · rfl

theorem jobView_decideSeat (s : State) (t e code : Nat) : jobView (decideSeat s t e code) = jobView s := by
  unfold decideSeat
  dsimp only
  split
  · exact jobView_putThr (owedView_landOp_engSt _ _ _)
  · exact jobView_putThr (Prod.ext rfl (Prod.ext rfl (funext fun p => tget_tset_ne _ _ _ _ p.2)))

/-- A change of an engine that keeps its jobs. -/
theorem jobView_modEng (s : State) (e : Nat) {f : Engine → Engine} (h : ∀ x, (f x).running = x.running ∧ (f x).queue = x.queue) :
    jobView (modEng s e f) = jobView s := by
  refine jobView_eq (fun _ => rfl) fun i => ?_
  by_cases hi : i = e
  · subst hi
    rw [eng_modEng]
    exact h _
  · rw [eng_modEng_ne _ _ _ _ hi]
    exact ⟨rfl, rfl⟩

theorem jobView_giveSeat (s : State) (t e : Nat) : jobView (giveSeat s t e) = jobView s := by
  rw [giveSeat, jobView_decideSeat]
  exact jobView_modEng _ _ fun _ => ⟨rfl, rfl⟩

/-- Free seats given out leave every job, and every result owed, as it is. -/
theorem jobView_grantSeats (n : Nat) (s : State) (e : Nat) : jobView (grantSeats s e n) = jobView s := by
  induction n generalizing s with
  | zero => rfl
  | succ n ih =>
    unfold grantSeats
    extract_lets ws ps r
    clear_value ps
    have drawn : jobView r.2 = jobView s := by
      unfold r
      split <;> rfl
    clear_value r
    split
    · rfl
    · split
      · rfl
      · split
        · exact drawn
        · rw [ih, jobView_giveSeat, drawn]

theorem jobView_seatJobDone (s : State) (e t : Nat) : jobView (seatJobDone s e t) = jobView s := by
  rw [seatJobDone, jobView_grantSeats, jobView_modEng]
  intro x
  split
  · exact ⟨rfl, rfl⟩
  · split <;> exact ⟨rfl, rfl⟩

end Sys2Proof.Machine
end

section
/-! SUPPORT. How an engine job completes (R230): the steps of a completion in order, what each of them may change, and what a completed job leaves
in its engine, its thread, memory, the key store, the knocker and the engine's error counters. -/

namespace Sys2Proof.Machine

/-! ### Parts of the state -/

theorem regGet_of_within {F : Part → Prop} {s s' : State} (w : Within F s s') (h : ¬ F .regs) (r : Reg) (i : Nat) : regGet s' r i = regGet s r i := by
  have regs : s'.regs = s.regs := (w.rest .regs).resolve_left h
  rw [regGet, regGet, regs]

theorem ks_of_within {F : Part → Prop} {s s' : State} (w : Within F s s') (h : ¬ F .ks) : s'.ks = s.ks := (w.rest .ks).resolve_left h

theorem mem_of_within {F : Part → Prop} {s s' : State} (w : Within F s s') (h : ¬ F .mem) : s'.mem = s.mem := (w.rest .mem).resolve_left h

theorem src_of_within {F : Part → Prop} {s s' : State} (w : Within F s s') (h : ¬ F .srcs) (n : Nat) : src s' n = src s n := by
  have srcs : s'.srcs = s.srcs := (w.rest .srcs).resolve_left h
  rw [src, src, srcs]

/-! ### The steps of a completion, in the order of R230 -/

/-- The job's writes to OUT and AUX become visible. -/
def jobWrites (s : State) (r : JobResult) : State := r.writes.foldl (fun s w => storeBytes s w.1 w.2) s

/-- The key that the job made is staged. -/
def jobStages (s : State) (r : JobResult) : State :=
  match r.stage with
  | some (n, copies) => stageEntry s n copies false r.op (match copies with | c :: _ => c.hdr.owner | [] => 0)
  | none => s

/-- The attempt that the job took is released (R274). -/
def jobReleases (s : State) (j : Job) (r : JobResult) : State :=
  match r.attempt with
  | some (p, tag) => endAttempt s (kcOfTurn s j.turn) p tag (r.status == 0x10)
  | none => s

/-- Where a job's descriptor holds STATUS. -/
def statusAt (j : Job) : Pieces := takeDigits 4 (dropDigits 108 j.desc)

/-- STATUS becomes visible in the descriptor. -/
def jobStatus (s : State) (j : Job) (r : JobResult) : State := storePieces s none (statusAt j) (natDigits 4 r.status) false

/-- e.res and e.poll of the job's thread take the status, unless the thread has gone to another partition. -/
def jobTells (s : State) (e : Nat) (j : Job) (r : JobResult) : State :=
  if (thr s j.tid).part = j.part then jobReport s j.tid (e % 9) r.status else s

/-- The knock source that the descriptor names is raised. -/
def jobKnocks (s : State) (j : Job) (r : JobResult) : State := if r.ksrc = 0 then s else raise s j.part r.ksrc

/-- What a job leaves in memory, the key store and the guard, up to its STATUS. -/
def jobResultVisible (s : State) (j : Job) (r : JobResult) : State := jobStatus (jobReleases (jobStages (jobWrites s r) r) j r) j r

theorem finishJob_eq (s : State) (e : Nat) (j : Job) (r : JobResult) :
    finishJob s e j r = seatJobDone (jobKnocks (jobTells (jobResultVisible s j r) e j r) j r) e j.tid := rfl

/-! ### What each step may change -/

def stageParts : List Part := [.ks, .arbs, .westad, .audit, .out]

def attemptParts : List Part := [.regs, .guard, .audit]

def storeParts : List Part := [.mem, .poison, .threads]

def knockParts : List Part := [.regs, .threads, .srcs]

def seatParts : List Part := [.threads, .engs, .arbs]

def outcomeParts : List Part := [.regs, .threads, .cyls, .engs, .doms, .faults]

theorem jobStages_within (s : State) (r : JobResult) : Within (· ∈ stageParts) s (jobStages s r) := by
  have : Has (· ∈ stageParts) .ks := has_mem (by decide)
  have : Has (· ∈ stageParts) .arbs := has_mem (by decide)
  have : Has (· ∈ stageParts) .westad := has_mem (by decide)
  have : Has (· ∈ stageParts) .audit := has_mem (by decide)
  have : Has (· ∈ stageParts) .out := has_mem (by decide)
  unfold jobStages
  split
  · exact stageEntry_within _ _ _ _ _ _ (Within.refl s)
  · exact Within.refl s

theorem jobReleases_within (s : State) (j : Job) (r : JobResult) : Within (· ∈ attemptParts) s (jobReleases s j r) := by
  have : Has (· ∈ attemptParts) .regs := has_mem (by decide)
  have : Has (· ∈ attemptParts) .guard := has_mem (by decide)
  have : Has (· ∈ attemptParts) .audit := has_mem (by decide)
  unfold jobReleases
  split
  · exact endAttempt_within _ _ _ _ _ (Within.refl s)
  · exact Within.refl s

theorem storePieces_frame (s : State) (b : Option Nat) (ps : Pieces) (ds : List Digit) (bad : Bool) :
    Within (· ∈ storeParts) s (storePieces s b ps ds bad) :=
  have : Has (· ∈ storeParts) .mem := has_mem (by decide)
  have : Has (· ∈ storeParts) .poison := has_mem (by decide)
  have : Has (· ∈ storeParts) .threads := has_mem (by decide)
  storePieces_within _ _ _ _ (Within.refl s)

theorem jobWrites_within (s : State) (r : JobResult) : Within (· ∈ storeParts) s (jobWrites s r) :=
  within_foldl _ (Within.refl s) fun u w h =>
    have stored := storePieces_frame u none w.1 (bytesDigits w.2) false
    within_step h stored.pending stored.rest

theorem jobTells_within (s : State) (e : Nat) (j : Job) (r : JobResult) : Within (· = .threads) s (jobTells s e j r) :=
  have : Has (· = .threads) .threads := ⟨rfl⟩
  within_ite (jobReport_within _ _ _ _ (Within.refl s)) (Within.refl s)

theorem jobKnocks_within (s : State) (j : Job) (r : JobResult) : Within (· ∈ knockParts) s (jobKnocks s j r) :=
  have : Has (· ∈ knockParts) .regs := has_mem (by decide)
  have : Has (· ∈ knockParts) .threads := has_mem (by decide)
  have : Has (· ∈ knockParts) .srcs := has_mem (by decide)
  within_ite (Within.refl s) (raise_within _ _ _ (Within.refl s))

theorem seatJobDone_frame (s : State) (e t : Nat) : Within (· ∈ seatParts) s (seatJobDone s e t) :=
  have : Has (· ∈ seatParts) .threads := has_mem (by decide)
  have : Has (· ∈ seatParts) .engs := has_mem (by decide)
  have : Has (· ∈ seatParts) .arbs := has_mem (by decide)
  seatJobDone_within _ _ _ (Within.refl s)

theorem engOutcome_frame (s : State) (e p : Nat) (o : UnitOutcome) : Within (· ∈ outcomeParts) s (engOutcome s e p o) :=
  have : Has (· ∈ outcomeParts) .regs := has_mem (by decide)
  have : Has (· ∈ outcomeParts) .threads := has_mem (by decide)
  have : Has (· ∈ outcomeParts) .cyls := has_mem (by decide)
  have : Has (· ∈ outcomeParts) .engs := has_mem (by decide)
  have : Has (· ∈ outcomeParts) .doms := has_mem (by decide)
  have : Has (· ∈ outcomeParts) .faults := has_mem (by decide)
  engOutcome_within _ _ _ _ (Within.refl s)

theorem settle_frame (s : State) : Within (· = .threads) s (settle s) :=
  have : Has (· = .threads) .threads := ⟨rfl⟩
  settle_within _ (Within.refl s)

/-! ### Threads and engines -/

/-- Until its STATUS is visible, a job tells its thread nothing. -/
theorem jobView_jobResultVisible (s : State) (j : Job) (r : JobResult) : jobView (jobResultVisible s j r) = jobView s := by
  calc jobView (jobResultVisible s j r) = jobView (jobReleases (jobStages (jobWrites s r) r) j r) := jobView_storePieces _ _ _ _ _
    _ = jobView (jobStages (jobWrites s r) r) := jobView_of_within (jobReleases_within _ _ _) (by decide) (by decide)
    _ = jobView (jobWrites s r) := jobView_of_within (jobStages_within _ _) (by decide) (by decide)
    _ = jobView s := jobView_foldl (fun _ _ => jobView_storePieces _ _ _ _ _) _ _

theorem jobView_jobKnocks (s : State) (j : Job) (r : JobResult) : jobView (jobKnocks s j r) = jobView s := by
  unfold jobKnocks
  split
  · rfl
  · exact jobView_raise _ _ _

/-- After the report, a completion leaves what threads and engines see of jobs as it is. -/
theorem jobView_finishJob (s : State) (e : Nat) (j : Job) (r : JobResult) :
    jobView (finishJob s e j r) = jobView (jobTells (jobResultVisible s j r) e j r) := by
  rw [finishJob_eq, jobView_seatJobDone, jobView_jobKnocks]

/-- A report of an engine's error takes the engine out of service, and leaves its jobs. -/
theorem jobView_report_engine (s : State) (e err part detail : Nat) : jobView (report s 2 e err part detail) = jobView s := by
  unfold report
  extract_lets _ noted u probe
  have same : jobView noted = jobView s := rfl
  split
  · exact same
  · split
    · exact same
    · exact jobView_modEng _ _ fun _ => ⟨rfl, rfl⟩

theorem jobView_engOutcome (s : State) (e p : Nat) (o : UnitOutcome) : jobView (engOutcome s e p o) = jobView s := by
  cases o with
  | ok => rfl
  | codeViolation => exact jobView_report_engine _ _ _ _ _
  | overrun => exact jobView_report_engine _ _ _ _ _
  | timeout => exact jobView_report_engine _ _ _ _ _

/-- A job's thread has its status in e.res and e.poll, and is owed no result by the engine of index `i`, unless it has gone to another
partition before the completion, in `s`. -/
def JobTold (s : State) (i : Nat) (j : Job) (st : Nat) (s' : State) : Prop :=
  (thr s j.tid).part = j.part → port (thr s' j.tid).arch (resPort i) = w64 st ∧ port (thr s' j.tid).arch (pollPort i) = w64 st ∧
    i ∉ (thr s' j.tid).jobs

/-- What a thread has been told stays while no state after it differs in what jobs see. -/
theorem JobTold.of_jobView {s u u' : State} {i st : Nat} {j : Job} (h : JobTold s i j st u) (v : jobView u' = jobView u) :
    JobTold s i j st u' := by
  intro own
  obtain ⟨res, poll, owed⟩ := h own
  have view := owedView_of_jobView v j.tid
  have ports (p : Nat) (hp : p ≠ 0x302) : port (thr u' j.tid).arch p = port (thr u j.tid).arch p :=
    congrFun (congrArg (fun x => x.2.2) view) ⟨p, hp⟩
  have jobs : (thr u' j.tid).jobs = (thr u j.tid).jobs := congrArg (fun x => x.2.1) view
  exact ⟨(ports _ (by unfold resPort; omega)).trans res, (ports _ (by unfold pollPort; omega)).trans poll, jobs ▸ owed⟩

theorem port_setPort_self (a : Arch) (p : Nat) (v : Word) : port (setPort a p v) p = v := tget_tset_self _ _ _

theorem port_setPort_ne (a : Arch) {p q : Nat} (v : Word) (h : q ≠ p) : port (setPort a p v) q = port a q := tget_tset_ne _ _ _ _ h

/-- A thread that is still in the job's partition is told. -/
theorem jobTold_jobTells {s s' : State} {j : Job} (here : (thr s' j.tid).part = (thr s j.tid).part) (e : Nat) (r : JobResult) :
    JobTold s (e % 9) j r.status (jobTells s' e j r) := by
  intro own
  rw [jobTells, if_pos (here.trans own), jobReport, putThr_self]
  refine ⟨?_, port_setPort_self _ _ _, by simp⟩
  exact (port_setPort_ne _ _ (by unfold resPort pollPort; omega)).trans (port_setPort_self _ _ _)

theorem jobTold_finishJob {s s' : State} {j : Job} (same : thr s' j.tid = thr s j.tid) (e : Nat) (r : JobResult) :
    JobTold s (e % 9) j r.status (finishJob s' e j r) := by
  have here : (thr (jobResultVisible s' j r) j.tid).part = (thr s j.tid).part := by
    rw [← same]
    exact congrArg Prod.fst (owedView_of_jobView (jobView_jobResultVisible s' j r) j.tid)
  exact (jobTold_jobTells here e r).of_jobView (jobView_finishJob s' e j r)

/-- A completion leaves every engine's jobs as they are. -/
theorem eng_finishJob (s : State) (e : Nat) (j : Job) (r : JobResult) (i : Nat) :
    (eng (finishJob s e j r) i).running = (eng s i).running ∧ (eng (finishJob s e j r) i).queue = (eng s i).queue := by
  have engs : (jobTells (jobResultVisible s j r) e j r).engs = (jobResultVisible s j r).engs :=
    ((jobTells_within _ _ _ _).rest .engs).resolve_left (by decide)
  have told : eng (jobTells (jobResultVisible s j r) e j r) i = eng (jobResultVisible s j r) i := by rw [eng, eng, engs]
  have before := jobView_jobResultVisible s j r
  have after := jobView_finishJob s e j r
  rw [running_of_jobView after, queue_of_jobView after, told]
  exact ⟨running_of_jobView before i, queue_of_jobView before i⟩

/-! ### Memory -/

theorem jobWrites_mem_congr {s s' : State} (r : JobResult) (h : s'.mem = s.mem) : (jobWrites s' r).mem = (jobWrites s r).mem := by
  unfold jobWrites
  generalize r.writes = l
  induction l generalizing s s' with
  | nil => exact h
  | cons w l ih => exact ih (storePieces_mem_congr _ _ _ _ h)

/-- A completed job leaves its writes and then its STATUS in memory. -/
theorem finishJob_mem {s s' : State} (h : s'.mem = s.mem) (e : Nat) (j : Job) (r : JobResult) :
    (finishJob s' e j r).mem = (jobStatus (jobWrites s r) j r).mem := by
  have kept : (jobReleases (jobStages (jobWrites s' r) r) j r).mem = (jobWrites s r).mem := by
    rw [mem_of_within (jobReleases_within _ _ _) (by decide), mem_of_within (jobStages_within _ _) (by decide), jobWrites_mem_congr r h]
  rw [finishJob_eq, mem_of_within (seatJobDone_frame _ _ _) (by decide), mem_of_within (jobKnocks_within _ _ _) (by decide),
    mem_of_within (jobTells_within _ _ _ _) (by decide)]
  exact storePieces_mem_congr _ _ _ _ kept

/-- STATUS stands in the last bytes of a descriptor that lies in one line (R227). -/
theorem statusAt_of_aligned {j : Job} (h : aligned j.desc = true) : ∃ a, statusAt j = [(a, 4)] := by
  unfold aligned at h
  split at h
  · rename_i a n shape
    simp only [Bool.and_eq_true, beq_iff_eq] at h
    obtain ⟨-, rfl⟩ := h
    exact ⟨a + 108, by rw [statusAt, shape]; rfl⟩
  · cases h

/-- A STATUS that a job has stored reads as stored. -/
theorem readPieces_statusAt {s s' : State} {j : Job} {r : JobResult} (h : aligned j.desc = true) (hm : s'.mem = (jobStatus s j r).mem) :
    readPieces s' (statusAt j) = natDigits 4 r.status := by
  obtain ⟨a, place⟩ := statusAt_of_aligned h
  rw [jobStatus, place] at hm
  rw [place]
  exact readPieces_of_memWrite (ds := natDigits 4 r.status) hm

/-! ### The key store, the knock source and the engine's counters -/

/-- A staging whose slot no entry that waits holds stands in the pool. -/
theorem stageEntry_pool {s : State} {n : Nat} (free : ∀ y ∈ s.ks.pool, y.slot = n → y.taken = true) (copies : List KCopy) (op part : Nat) :
    ∃ x ∈ (stageEntry s n copies false op part).ks.pool, x.slot = n ∧ x.copies = copies ∧ x.erase = false ∧ x.taken = false := by
  unfold stageEntry
  extract_lets h noted me q _ numbered put
  have pool : noted.ks = s.ks := ks_of_within (audit_frame s _ _ _ _) (by decide)
  have none_waits : numbered.ks.pool.find? (fun y => y.slot == n && !y.taken) = none := by
    rw [List.find?_eq_none]
    intro y hy
    have taken := free y (by rw [← pool]; exact hy)
    by_cases at_n : y.slot = n <;> simp [at_n, taken]
  have entered : put.ks.pool = numbered.ks.pool ++
      [{ slot := n, copies := copies, origin := me, oseq := q, erase := false, bad := false, taken := false }] := by
    unfold put poolPut
    rw [none_waits]
  rw [if_neg (by decide), sendAll_ks, entered]
  exact ⟨_, List.mem_append_right _ (List.mem_singleton_self _), rfl, rfl, rfl, rfl⟩

/-- A completed job's staged key stands in the pool. -/
theorem finishJob_pool {s s' : State} (h : s'.ks = s.ks) {r : JobResult} {n : Nat} {cs : List KCopy} (staged : r.stage = some (n, cs))
    (free : ∀ y ∈ s.ks.pool, y.slot = n → y.taken = true) (e : Nat) (j : Job) :
    ∃ x ∈ (finishJob s' e j r).ks.pool, x.slot = n ∧ x.copies = cs ∧ x.erase = false ∧ x.taken = false := by
  have kept : (finishJob s' e j r).ks = (jobStages (jobWrites s' r) r).ks := by
    rw [finishJob_eq, ks_of_within (seatJobDone_frame _ _ _) (by decide), ks_of_within (jobKnocks_within _ _ _) (by decide),
      ks_of_within (jobTells_within _ _ _ _) (by decide), jobResultVisible, jobStatus, ks_of_within (storePieces_frame _ _ _ _ _) (by decide),
      ks_of_within (jobReleases_within _ _ _) (by decide)]
  rw [kept, jobStages, staged]
  exact stageEntry_pool (by rw [ks_of_within (jobWrites_within s' r) (by decide), h]; exact free) _ _ _

theorem wakeTargets_frame (s : State) (n : Nat) : Within (· = .threads) s (wakeTargets s n) :=
  have : Has (· = .threads) .threads := ⟨rfl⟩
  wakeTargets_within _ _ (Within.refl s)

/-- A source that a partition may raise is pending once raised. -/
theorem raise_pend {s : State} {p n : Nat} (hn : 0 < n) (may : mayRaise s p n = true) : (src (raise s p n) n).pend = true := by
  rw [raise, if_neg hn.ne', if_pos may, src_of_within (wakeTargets_frame _ _) (by decide), src_modSrc]

theorem mayRaise_of_kc {s s' : State} (h : s'.kc = s.kc) (p n : Nat) : mayRaise s' p n = mayRaise s p n := by
  unfold mayRaise
  rw [h]

theorem jobResultVisible_kc (s : State) (j : Job) (r : JobResult) : (jobResultVisible s j r).kc = s.kc := by
  have status : (jobResultVisible s j r).kc = (jobReleases (jobStages (jobWrites s r) r) j r).kc :=
    ((storePieces_frame _ _ _ _ _).rest .kc).resolve_left (by decide)
  have releases := ((jobReleases_within (jobStages (jobWrites s r) r) j r).rest .kc).resolve_left (by decide)
  have stages := ((jobStages_within (jobWrites s r) r).rest .kc).resolve_left (by decide)
  have writes := ((jobWrites_within s r).rest .kc).resolve_left (by decide)
  exact status.trans (releases.trans (stages.trans writes))

/-- A completed job's knock source is pending. -/
theorem finishJob_pend {s s' : State} (h : s'.kc = s.kc) {j : Job} {r : JobResult} (named : 0 < r.ksrc)
    (may : mayRaise s j.part r.ksrc = true) (e : Nat) : (src (finishJob s' e j r) r.ksrc).pend = true := by
  have told : (jobTells (jobResultVisible s' j r) e j r).kc = s.kc :=
    (((jobTells_within _ _ _ _).rest .kc).resolve_left (by decide)).trans ((jobResultVisible_kc s' j r).trans h)
  rw [finishJob_eq, src_of_within (seatJobDone_frame _ _ _) (by decide), jobKnocks, if_neg named.ne']
  exact raise_pend named ((mayRaise_of_kc told _ _).trans may)

/-- The guard's counters are no engine's (R277). -/
theorem jobReleases_engErr (s : State) (j : Job) (r : JobResult) {e : Nat} (he : e < 4096) :
    regGet (jobReleases s j r) .engErr e = regGet s .engErr e := by
  unfold jobReleases
  split
  · unfold endAttempt
    split
    · rfl
    · extract_lets c failed
      split
      · rfl
      · split
        · rw [regGet_bump_above _ (by decide) he, regGet_of_within (audit_frame _ _ _ _ _) (by decide)]
          rfl
        · rfl
  · rfl

/-- A denied knock is counted in no engine's counters (R361). -/
theorem jobKnocks_engErr (s : State) (j : Job) (r : JobResult) {e : Nat} (he : e < 4096) :
    regGet (jobKnocks s j r) .engErr e = regGet s .engErr e := by
  unfold jobKnocks raise
  split
  · rfl
  · split
    · exact regGet_of_within (wakeTargets_frame _ _) (by decide) _ _
    · unfold deny
      split
      · rfl
      · exact regGet_bump_above _ (by decide) he _ _ _ _

/-- A completion leaves the engines' error counters as they are. -/
theorem finishJob_engErr (s : State) (e : Nat) (j : Job) (r : JobResult) {i : Nat} (hi : i < 4096) :
    regGet (finishJob s e j r) .engErr i = regGet s .engErr i := by
  rw [finishJob_eq, regGet_of_within (seatJobDone_frame _ _ _) (by decide), jobKnocks_engErr _ _ _ hi,
    regGet_of_within (jobTells_within _ _ _ _) (by decide), jobResultVisible, jobStatus,
    regGet_of_within (storePieces_frame _ _ _ _ _) (by decide), jobReleases_engErr _ _ _ hi,
    regGet_of_within (jobStages_within _ _) (by decide), regGet_of_within (jobWrites_within _ _) (by decide)]

def reportParts : List Part := [.threads, .cyls, .engs, .doms, .faults]

/-- A fault report changes no register. -/
theorem regGet_report (s : State) (cls ix err part detail : Nat) (r : Reg) (i : Nat) :
    regGet (report s cls ix err part detail) r i = regGet s r i :=
  have : Has (· ∈ reportParts) .threads := has_mem (by decide)
  have : Has (· ∈ reportParts) .cyls := has_mem (by decide)
  have : Has (· ∈ reportParts) .engs := has_mem (by decide)
  have : Has (· ∈ reportParts) .doms := has_mem (by decide)
  have : Has (· ∈ reportParts) .faults := has_mem (by decide)
  regGet_of_within (F := (· ∈ reportParts)) (report_within _ _ _ _ _ _ (Within.refl s)) (by decide) r i

/-- A report of an error that has been counted shows the count. -/
theorem fldGet_report_bump (s : State) {e hi lo : Nat} (hhi : hi < 64) (err part : Nat) :
    fldGet (report (bump s .engErr e hi lo 1) 2 e err part 0) .engErr e hi lo =
      min (2 ^ (hi + 1 - lo) - 1) (fldGet s .engErr e hi lo + 1) := by
  rw [fldGet, regGet_report]
  exact fldGet_bump s .engErr e hhi

/-! ### The row -/

/-- What a job reports when its engine ends with an outcome: a code violation and a timeout override its own result (R40, R41, R231). -/
def outcomeResult (o : UnitOutcome) (r : JobResult) : JobResult :=
  if o = .codeViolation ∨ o = .timeout then overrideResult r 0x42 else r

/-- The engine without its oldest job in progress. -/
def oldestTaken (s : State) (e : Nat) (rest : List Job) : State := modEng s e (fun x => { x with running := rest })

theorem completeJob_running {s : State} {e : Nat} {j : Job} {rest : List Job} {r : JobResult} (runs : (eng s e).running = j :: rest)
    (result : j.result = some r) (o : UnitOutcome) :
    completeJob s e o = settle (engOutcome (finishJob (oldestTaken s e rest) e j (outcomeResult o r)) e j.part o) := by
  rw [completeJob, runs]
  dsimp only
  rw [result]
  rfl

/-- The engine without a job that ends in its queue. -/
def queuedTaken (s : State) (e : Nat) (j : Job) : State :=
  modEng s e (fun x => { x with queue := x.queue.filter (· != j), running := x.running.filter (· != j) })

theorem completeJob_queued {s : State} {e : Nat} {j : Job} {rest : List Job} {st : Nat} (idle : (eng s e).running = [])
    (queued : (eng s e).queue = j :: rest) (unknown : noOperation s e j = some st) (may : mayStart s e = true) (fresh : j.result = none)
    (o : UnitOutcome) : completeJob s e o = settle (finishJob (queuedTaken s e j) e j (bareResult st)) := by
  simp only [completeJob, idle, queued, unknown, may, if_true, endJob, fresh, queuedTaken]

/-- What the oldest job in progress leaves when it completes, but for the engine's counters. -/
structure OldestCompleted (s s' : State) (e : Nat) (j : Job) (rest : List Job) (r : JobResult) : Prop where
  running : (eng s' e).running = rest
  told : JobTold s (e % 9) j r.status s'
  mem : s'.mem = (jobStatus (jobWrites s r) j r).mem
  pend : 0 < r.ksrc → mayRaise s j.part r.ksrc = true → (src s' r.ksrc).pend = true
  pool : ∀ n cs, r.stage = some (n, cs) → (∀ y ∈ s.ks.pool, y.slot = n → y.taken = true) →
    ∃ x ∈ s'.ks.pool, x.slot = n ∧ x.copies = cs ∧ x.erase = false ∧ x.taken = false

theorem oldestCompleted_finishJob (s : State) (e : Nat) (j : Job) (rest : List Job) (r : JobResult) :
    OldestCompleted s (finishJob (oldestTaken s e rest) e j r) e j rest r where
  running := by rw [(eng_finishJob _ e j r e).1, oldestTaken, eng_modEng]
  told := jobTold_finishJob (modEng_thr s e _ _) e r
  mem := finishJob_mem (modEng_mem s e _) e j r
  pend := fun named may => finishJob_pend (modEng_kc s e _) named may e
  pool := fun _ _ staged free => finishJob_pool (modEng_ks s e _) staged free e j

/-- The outcome of the engine's circuits, and the settling of the threads, leave what the job has left. -/
theorem OldestCompleted.outcome {s u : State} {e : Nat} {j : Job} {rest : List Job} {r : JobResult} (h : OldestCompleted s u e j rest r)
    (p : Nat) (o : UnitOutcome) : OldestCompleted s (settle (engOutcome u e p o)) e j rest r := by
  have view : jobView (settle (engOutcome u e p o)) = jobView u := (jobView_settle _).trans (jobView_engOutcome _ _ _ _)
  have mem : (settle (engOutcome u e p o)).mem = u.mem :=
    (mem_of_within (settle_frame _) (by decide)).trans (mem_of_within (engOutcome_frame _ _ _ _) (by decide))
  have ks : (settle (engOutcome u e p o)).ks = u.ks :=
    (ks_of_within (settle_frame _) (by decide)).trans (ks_of_within (engOutcome_frame _ _ _ _) (by decide))
  have srcs (n : Nat) : src (settle (engOutcome u e p o)) n = src u n :=
    (src_of_within (settle_frame _) (by decide) n).trans (src_of_within (engOutcome_frame _ _ _ _) (by decide) n)
  exact ⟨(running_of_jobView view e).trans h.running, h.told.of_jobView view, mem.trans h.mem,
    fun named may => by rw [srcs]; exact h.pend named may, fun n cs staged free => by rw [ks]; exact h.pool n cs staged free⟩

/-- An error of the engine's own circuits is counted once in its field of 8 bits (R38, R40, R41). -/
theorem completeJob_counts {s : State} {e : Nat} {j : Job} {rest : List Job} {r : JobResult} (runs : (eng s e).running = j :: rest)
    (result : j.result = some r) (he : e < 4096) {o : UnitOutcome} {hi lo err : Nat} (hhi : hi < 64) (width : hi + 1 - lo = 8)
    (reports : ∀ u, engOutcome u e j.part o = report (bump u .engErr e hi lo 1) 2 e err j.part 0) :
    fldGet (completeJob s e o) .engErr e hi lo = min 255 (fldGet s .engErr e hi lo + 1) := by
  have settled (u : State) : fldGet (settle u) .engErr e hi lo = fldGet u .engErr e hi lo := by
    rw [fldGet, regGet_of_within (settle_frame u) (by decide), fldGet]
  rw [completeJob_running runs result, settled, reports, fldGet_report_bump _ hhi, fldGet, finishJob_engErr _ _ _ _ he, oldestTaken,
    modEng_regGet, width, fldGet]
  rfl

/-- Settles O20: the oldest job in progress by the steps of its completion, a head job that names no operation by the same steps on what it
reports. That jobs in progress complete oldest first is the model's choice (entry 26 of the log). -/
theorem jobsComplete : Obligations.JobsComplete := by
  unfold Obligations.JobsComplete
  intro s e o bad tells
  have he : e.val < 4096 := by omega
  constructor
  · intro j rest r0 runs result lies r
    have row := completeJob_running runs result o
    have done : OldestCompleted s (completeJob s e o) e j rest r := by
      rw [row]
      exact (oldestCompleted_finishJob s e j rest (outcomeResult o r0)).outcome j.part o
    refine ⟨completeJob s e o, rfl, done.running, done.told, done.mem, readPieces_statusAt lies done.mem, done.pend, done.pool, ?_, ?_, ?_⟩
    all_goals
      rintro rfl
      exact completeJob_counts runs result he (by decide) rfl fun _ => rfl
  · intro j rest st idle queued unknown may fresh
    refine ⟨_, congrArg Host.Outcome.next (completeJob_queued idle queued unknown may fresh o), ?_, ?_⟩
    · rw [queue_of_jobView (jobView_settle _), (eng_finishJob _ _ _ _ _).2, queuedTaken, eng_modEng]
      simp [queued]
    · exact (jobTold_finishJob (modEng_thr s e _ _) e (bareResult st)).of_jobView (jobView_settle _)

end Sys2Proof.Machine
end

section
/-! SUPPORT. Plain moves, appends to imm.hi and squashed words (R55, R59, R61, R65, R128): the thread's state after each of them. A word that reads
str.ld advances str.src besides (R69), and that is where the statement on the append fails. -/

namespace Sys2Proof.Machine

open Sys2Proof.Claims

/-! ### Ports that start or act -/

/-- The ports that `commitMove` and `flow` give a meaning beyond the value they hold, bs.k and the blank apart. -/
def actsAt (p : Nat) : Bool :=
  (unitOfPort p).isSome || memTrigger p || transfers p || [0x064, 0x122, 0x123, 0x12C, 0x12D, 0x300, 0x301].contains p ||
    (decide (0x310 ≤ p) && decide (p < 0x358))

theorem mem_of_alook {l : List (Nat × PortInfo)} {p : Nat} {i : PortInfo} (h : alook l p = some i) : (p, i) ∈ l := by
  obtain ⟨⟨q, j⟩, found, rfl⟩ := Option.map_eq_some_iff.1 h
  obtain rfl : q = p := by simpa using List.find?_some found
  exact List.mem_of_find?_eq_some found

theorem portRows_trig : ∀ r ∈ portRows, actsAt r.1 = true → r.2.dir.testBit 0 = true → r.2.trig ≠ 0 := by decide

theorem enginePort_trig {p : Nat} {i : PortInfo} (h : enginePort p = some i) (w : i.dir.testBit 0 = true) : i.trig ≠ 0 := by
  unfold enginePort at h
  split at h
  · split at h
    · simp only [Option.some.injEq] at h; subst h; decide
    · split at h
      · simp only [Option.some.injEq] at h; subst h; simp at w
      · simp at h
  · simp at h

theorem actsAt_place {p : Nat} (h : actsAt p = true) : 0x60 ≤ p ∧ p < 0x358 := by
  simp only [actsAt, memTrigger, transfers, Bool.or_eq_true, Bool.and_eq_true, decide_eq_true_eq, beq_iff_eq, List.contains_iff_mem,
    List.mem_cons, List.not_mem_nil, or_false] at h
  rcases h with (((h | h) | h) | h) | h
  · unfold unitOfPort at h
    grind
  all_goals omega

/-- R69: a writable port with a meaning of its own is a trigger. -/
theorem isTrigger_of_actsAt {s : State} {t p : Nat} (acts : actsAt p = true) (w : (portDir s t p).testBit 0 = true) :
    isTrigger s t p = true := by
  obtain ⟨lo, hi⟩ := actsAt_place acts
  have trig : ∀ i, portInfo s t p = some i → i.dir.testBit 0 = true → i.trig ≠ 0 := by
    intro i e wi
    unfold portInfo at e
    rw [if_neg (by omega), if_neg (by omega), if_neg (by simp [isBlank]; omega)] at e
    split at e
    · exact enginePort_trig e wi
    · exact portRows_trig _ (mem_of_alook e) acts wi
  unfold portDir at w
  unfold isTrigger
  cases e : portInfo s t p with
  | none => simp [e] at w
  | some i => simpa using trig i e (by simpa [e] using w)

/-- What a port that is not the blank's is does not depend on the state. -/
theorem portInfo_state (s s' : State) (t : Nat) {p : Nat} (h : isBlank p = false) : portInfo s' t p = portInfo s t p := by
  simp [portInfo, h]

theorem writePort_state (s s' : State) (t : Nat) (a : Arch) {p : Nat} (w : Nat) (v : Word) (h : isBlank p = false) :
    writePort s' t a p w v = writePort s t a p w v := by
  simp only [writePort, portInfo_state s s' t h]

/-! ### Moves that only write -/

/-- A port whose write does nothing but leave a value in the thread (R68, R76). -/
structure OnlyHolds (s : State) (t p : Nat) : Prop where
  acts : actsAt p = false
  bit : p ≠ 0x063
  blank : isBlank p = false
  trigger : isTrigger s t p = false

/-- A move to such a port writes it with the value that the move delivers. -/
theorem commitMove_onlyHolds {s : State} {t : Nat} {m : Mv} (h : OnlyHolds s t m.dst) (pre : Arch) (s' : State) :
    commitMove pre t s' m = modArch s' t (fun a => writePort s t a m.dst m.w (mvValue s' t pre m)) := by
  have trigger : isTrigger s' t m.dst = false := by rw [isTrigger, portInfo_state s s' t h.blank]; exact h.trigger
  have acts := h.acts
  simp only [actsAt, memTrigger, Bool.or_eq_false_iff, beq_eq_false_iff_ne, Bool.and_eq_false_iff, decide_eq_false_iff_not,
    List.contains_eq_mem, List.mem_cons, List.not_mem_nil, or_false, not_or] at acts
  have p := h.bit
  unfold commitMove
  extract_lets v va p
  rw [if_neg (by simp [p, acts]), if_neg (by omega), if_neg (by omega), if_neg (by omega), if_neg (by omega), if_neg (by omega),
    if_neg (by omega), if_neg (by omega), if_neg (by omega), if_neg (by omega), if_neg (by omega), if_neg (by simp [p, h.blank]),
    if_neg (by omega), if_neg (by omega), if_neg (by omega), if_neg (by omega), if_neg (by simp [p, trigger])]
  simp only [writePort_state s s' t _ _ _ h.blank, p, v]

/-! ### Words without a transfer -/

theorem flow_advances {ms : List Mv} (h : ∀ m ∈ ms, transfers m.dst = false) (pre : Arch) (t : Nat) (s : State) :
    flow pre t s ms = modArch s t advance := by
  have none : ms.find? (fun m => transfers m.dst) = none := by simpa using h
  rw [flow, none]

theorem stickySet_none {ms : List Mv} (h : ∀ m ∈ ms, unitOfPort m.dst = none) (s s' : State) (t : Nat) (pre : Arch) :
    stickySet s s' t pre ms = none := by
  have none : ∀ f : Mv → Option Nat, ms.findSome? (fun m => if (unitOfPort m.dst).isNone then none else f m) = none := by
    intro f
    rw [List.findSome?_eq_none_iff]
    intro m hm
    simp [h m hm]
  rw [stickySet, none]
  rfl

/-- R65, R128: a word that starts no unit and transfers nowhere makes its moves, uses up what str.ld gave, and the thread goes on to the next word. -/
theorem commitWord_advances {s : State} {t : Nat} {ms : List Mv} (h : ∀ m ∈ ms, actsAt m.dst = false) :
    commitWord s t ms =
      modArch (useStr (ms.foldl (commitMove (thr s t).arch t) (countSlot s t (ms.any (fun m => m.dst == 0x1CF)))) t ms) t advance := by
  have unit : ∀ m ∈ ms, unitOfPort m.dst = none := fun m hm => by have := h m hm; simp_all [actsAt]
  have stays : ∀ m ∈ ms, transfers m.dst = false := fun m hm => by have := h m hm; simp_all [actsAt]
  simp only [commitWord, stickySet_none unit, flow_advances stays]
  rfl

/-! ### str.ld -/

/-- A word that does not read str.ld leaves str.src. -/
theorem useStr_self {ms : List Mv} (h : ∀ m ∈ ms, m.src ≠ .port 0x152) (s : State) (t : Nat) : useStr s t ms = s := by
  have none : ms.find? (fun m => m.src == .port 0x152) = none := by simpa using h
  rw [useStr, none]

/-- R69: a read of str.ld advances str.src by the move's width. -/
theorem useStr_arch {m : Mv} (h : m.src = .port 0x152) (s : State) (t : Nat) :
    (thr (useStr s t [m]) t).arch =
      setPort (thr s t).arch 0x150 (w64 (((port (thr s t).arch 0x150).toNat + m.w) % 2 ^ 56)) := by
  have found : [m].find? (fun m => m.src == .port 0x152) = some m := by simp [h]
  rw [useStr, found, modThr_self]

theorem port_advance {p : Nat} (h : p ≠ 0x11A) (a : Arch) : port (advance a) p = port a p := by
  unfold advance
  split
  · rfl
  · split
    · rfl
    · split
      · rfl
      · exact port_setPort_ne a _ h

/-! ### What a word that issues writes -/

/-- A word without an encoding fault writes writable ports alone (R70). -/
theorem encFault_writable {s : State} {t : Nat} {f : WordForm} (h : encFault s t f = none) {m : Mv} (hm : m ∈ movesOf f) :
    (portDir s t m.dst).testBit 0 = true := by
  by_contra dir
  unfold encFault at h
  dsimp only at h
  split at h
  · simp at h
  · split at h
    · simp at h
    · rename_i sound
      exact sound (List.any_eq_true.2 ⟨m, hm, by simp [dir]⟩)

theorem issues_writable {s : State} {t : Nat} {ms : List Mv} (h : issues s t ms = true) {m : Mv} (hm : m ∈ ms) :
    (portDir s t m.dst).testBit 0 = true := by
  simp only [issues, executes, Bool.and_eq_true] at h
  obtain ⟨⟨⟨⟨-, word⟩, -⟩, -⟩, -⟩ := h
  split at word
  · simp only [Bool.and_eq_true, Option.isNone_iff_eq_none, decide_eq_true_eq] at word
    obtain ⟨⟨⟨⟨rfl, enc⟩, -⟩, -⟩, -⟩ := word
    exact encFault_writable enc hm
  · simp at word

/-- A move of a plain word leaves a value in its port, is no append and reads no str.ld. -/
theorem onlyHolds_of_plain {s : State} {t : Nat} {ms : List Mv} (h : issues s t ms = true) (plain : rowMatch s t .move ms = true)
    {m : Mv} (hm : m ∈ ms) : OnlyHolds s t m.dst ∧ m.dst ≠ 0x1CF ∧ m.src ≠ .port 0x152 := by
  simp only [rowMatch, Bool.not_eq_true', List.any_eq_false] at plain
  have row : hasRow s t m = false := by simpa using plain m hm
  simp only [hasRow, Bool.or_eq_false_iff, beq_eq_false_iff_ne] at row
  obtain ⟨⟨⟨⟨trigger, bit⟩, append⟩, blank⟩, source⟩ := row
  refine ⟨⟨?_, bit, blank, trigger⟩, append, fun e => by simp [e] at source⟩
  by_contra acts
  simp [isTrigger_of_actsAt (by simpa using acts) (issues_writable h hm)] at trigger

/-- R65: the moves of a word that issues, each to a port that only holds its value, read the state before the word. -/
theorem moves_arch {s : State} {t : Nat} {ms : List Mv} (h : issues s t ms = true) (holds : ∀ m ∈ ms, OnlyHolds s t m.dst) (b : Bool) :
    (thr (ms.foldl (commitMove (thr s t).arch t) (countSlot s t b)) t).arch =
      ms.foldl (fun a m => writePort s t a m.dst m.w (mvValue s t (thr s t).arch m)) (thr (countSlot s t b) t).arch := by
  rcases word_form h with ⟨m, rfl⟩ | ⟨m, n, rfl, -, -, -, short, -⟩
  · simp [commitMove_onlyHolds (holds m (by simp)), mvValue_slot]
  · simp [commitMove_onlyHolds (holds m (by simp)), commitMove_onlyHolds (holds n (by simp)), mvValue_slot, mvValue_short s _ t _ n short]

theorem countSlot_arch (s : State) (t : Nat) : (thr (countSlot s t false) t).arch = slotTaken (thr s t).arch := by
  rw [countSlot_self]
  rfl

/-! ### Plain words, appends and squashed words -/

/-- R55, R65, R128: a plain word writes each destination from the state before it, and the program counter advances. -/
theorem plainWord_arch {s : State} {t : Nat} {ms : List Mv} (h : issues s t ms = true) (plain : rowMatch s t .move ms = true) :
    (thr (commitWord s t ms) t).arch =
      advance (ms.foldl (fun a m => writePort s t a m.dst m.w (mvValue s t (thr s t).arch m)) (slotTaken (thr s t).arch)) := by
  have each := fun m hm => onlyHolds_of_plain h plain (m := m) hm
  have noAppend : ms.any (fun m => m.dst == 0x1CF) = false := by simpa using fun m hm => (each m hm).2.1
  rw [commitWord_advances fun m hm => (each m hm).1.acts, useStr_self fun m hm => (each m hm).2.2, modArch_arch, moves_arch h fun m hm => (each m hm).1,
    noAppend, countSlot_arch]

theorem onlyHolds_immHi (s : State) (t : Nat) : OnlyHolds s t 0x1CF :=
  ⟨by decide, by decide, by decide, by rw [isTrigger, portInfo_plain _ _ _ (by decide) (by decide)]; decide⟩

/-- A thread's state with four digits of a value appended to imm.hi by a word that has taken its issue slot (R61). -/
def appended (a : Arch) (v : Word) : Arch :=
  { a with
    slot := a.slot + 1
    immAcc := BitVec.ofNat 48 (a.immAcc.toNat * 65536 + v.toNat % 65536), immCnt := min 3 (a.immCnt + 1) }

/-- R61: an append, before str.src and the program counter advance. -/
theorem appendMove_arch {s : State} {t : Nat} {m : Mv} (h : issues s t [m] = true) (dst : m.dst = 0x1CF) :
    (thr ([m].foldl (commitMove (thr s t).arch t) (countSlot s t true)) t).arch = appended (thr s t).arch (mvValue s t (thr s t).arch m) := by
  rw [moves_arch h (by simpa [dst] using onlyHolds_immHi s t), countSlot_self]
  simp only [List.foldl_cons, List.foldl_nil, dst]
  rfl

/-- An append commits: str.src advances if the word reads str.ld, and the program counter advances. -/
theorem commitWord_append {s : State} {t : Nat} {m : Mv} (dst : m.dst = 0x1CF) :
    commitWord s t [m] = modArch (useStr ([m].foldl (commitMove (thr s t).arch t) (countSlot s t true)) t [m]) t advance := by
  have acts : ∀ x ∈ [m], actsAt x.dst = false := by simpa [dst] using (onlyHolds_immHi s t).acts
  have append : [m].any (fun m => m.dst == 0x1CF) = true := by simp [dst]
  rw [commitWord_advances acts, append]

theorem appendWord_arch {s : State} {t : Nat} {m : Mv} (h : issues s t [m] = true) (dst : m.dst = 0x1CF) (src : m.src ≠ .port 0x152) :
    (thr (commitWord s t [m]) t).arch = advance (appended (thr s t).arch (mvValue s t (thr s t).arch m)) := by
  rw [commitWord_append dst, useStr_self (by simpa using src), modArch_arch, appendMove_arch h dst]

/-- R61, R69: an append of digits that str.ld gives advances str.src too. -/
theorem appendWord_strSrc {s : State} {t : Nat} {m : Mv} (h : issues s t [m] = true) (dst : m.dst = 0x1CF) (src : m.src = .port 0x152) :
    port (thr (commitWord s t [m]) t).arch 0x150 = w64 (((port (thr s t).arch 0x150).toNat + m.w) % 2 ^ 56) := by
  rw [commitWord_append dst, modArch_arch, port_advance (by decide), useStr_arch src, port_setPort_self, appendMove_arch h dst]
  rfl

/-- R59: a squashed word takes its slot, and the program counter advances. -/
theorem issue_skips {s : State} {t : Nat} (h : skips s t = true) : issue s t .move = settle (modArch (countSlot s t false) t advance) := by
  simp only [skips, Bool.and_eq_true, Bool.not_eq_true', Option.isNone_iff_eq_none, beq_iff_eq] at h
  obtain ⟨⟨⟨⟨⟨⟨run, issuing⟩, ready⟩, free⟩, next⟩, stalled⟩, word⟩ := h
  split at word
  · rename_i w held
    simp only [Bool.and_eq_true, Bool.not_eq_true', Option.isNone_iff_eq_none] at word
    obtain ⟨⟨enc, guard⟩, sound⟩ := word
    unfold issue issueRaw
    dsimp only
    rw [if_neg (by simp [run, issuing, ready, free, next]), held]
    dsimp only
    rw [stalled]
    dsimp only
    rw [if_neg (by simp), enc]
    dsimp only
    rw [if_neg (by simp only [sound]; simp), if_pos (by simp [guard]), if_pos rfl]
  · simp at word

/-- R55, R59, R61, R65, R128: what O5 states, for every word but an append that reads str.ld. -/
theorem movesWrite_unless_strLd (s : State) (t : Fin 2048) :
    (∀ ms, issues s t ms = true → rowMatch s t .move ms = true → Completes (.moveIssue t) s (fun s' =>
      (thr s' t).arch =
        advance (ms.foldl (fun a m => writePort s t a m.dst m.w (mvValue s t (thr s t).arch m)) (slotTaken (thr s t).arch)))) ∧
    (∀ m, issues s t [m] = true → m.dst = 0x1CF → m.src ≠ .port 0x152 → Completes (.immHiAppend t) s (fun s' =>
      (thr s' t).arch = advance (appended (thr s t).arch (mvValue s t (thr s t).arch m)))) ∧
    (skips s t = true → Completes (.moveIssue t) s (fun s' => (thr s' t).arch = advance (slotTaken (thr s t).arch))) := by
  refine ⟨fun ms h plain => ⟨issue s t .move, rfl, ?_⟩, fun m h dst src => ⟨issue s t (.dst 0x1CF), rfl, ?_⟩, fun h => ⟨issue s t .move, rfl, ?_⟩⟩
  · dsimp only
    rw [issue_commit h plain, settle_arch, plainWord_arch h plain]
  · dsimp only
    rw [issue_commit h (by simp [rowMatch, dst]), settle_arch, appendWord_arch h dst src]
  · dsimp only
    rw [issue_skips h, settle_arch, modArch_arch, countSlot_arch]

/-! ### The append that reads str.ld -/

/-- A thread of partition 0 whose fetch group at 0 holds `mov.1 imm.hi, str.ld` and whose data have arrived. -/
def strAppendThread : Thread := { thrInit with part := 0, st := .ready, held := [(0, [0x039E0152], false)], strData := some (0, false) }

/-- The machine after reset, running, with this thread as thread 0. -/
def strAppendState : State :=
  { State.reset with threads := [(0, strAppendThread)], supply := { State.reset.supply with power := 1 } }

/-- The move of its word. -/
def strAppendMove : Mv := { w := 1, dst := 0x1CF, src := .port 0x152 }

theorem strAppend_issues : issues strAppendState 0 [strAppendMove] = true := by decide

/-- Refutes O5: an append that reads str.ld advances str.src by the move's width too (R69), and the clause on appends leaves str.src as it was.
In `strAppendState` str.src goes from 0 to 1. Every other word is as the statement says (`movesWrite_unless_strLd`). -/
theorem not_movesWriteTheirPorts : ¬ Obligations.MovesWriteTheirPorts := by
  unfold Obligations.MovesWriteTheirPorts
  intro claim
  obtain ⟨s', done, arch⟩ := (claim strAppendState 0).2.1 strAppendMove strAppend_issues rfl
  have row : issue strAppendState 0 (.dst 0x1CF) = s' := Host.Outcome.next.inj done
  have src : port (thr s' 0).arch 0x150 = w64 1 := by
    rw [← row, issue_commit strAppend_issues rfl, settle_arch, appendWord_strSrc strAppend_issues rfl rfl]
    rfl
  have kept : port (thr s' 0).arch 0x150 = 0 := (congrArg (port · 0x150) arch).trans (port_advance (by decide) _)
  exact absurd (src.symm.trans kept) (by decide)

end Sys2Proof.Machine
end

section
/-! SUPPORT. Words that trigger the add, logic, shift and compare units (R75, R80, R82 to R87, R91): each starts the operation of its port on the
thread's state before the word, and a sticky bit that the operation sets at issue stands after the word. -/

namespace Sys2Proof.Machine

open Sys2Proof.Claims

/-! ### Triggers of the digit units -/

/-- A digit unit's trigger transfers control nowhere. -/
theorem transfers_of_unit {p : Nat} (unit : (unitOfPort p).isSome = true) : transfers p = false := by
  have low : p < 0x104 := by
    unfold unitOfPort at unit
    grind
  simp only [transfers, Bool.or_eq_false_iff, Bool.and_eq_false_iff, decide_eq_false_iff_not, beq_eq_false_iff_ne]
  omega

theorem commitMove_unit {m : Mv} (unit : (unitOfPort m.dst).isSome = true) (pre : Arch) (t : Nat) (s : State) :
    commitMove pre t s m = unitTrigger s t m.dst m.w pre (mvValue s t pre m) := by
  rw [commitMove, if_pos unit]

section
variable {s : State} {t : Nat} {ms : List Mv} {m : Mv} {p : Nat} (word : issues s t ms = true) (hm : m ∈ ms) (dst : m.dst = p)
  (unit : (unitOfPort p).isSome = true) {u : DUnit} (r : UnitRes) {b : Option (Nat × Bool)}
  (starts : ∀ s1, unitTrigger s1 t p m.w (thr s t).arch (mvValue s t (thr s t).arch m) = startUnit s1 t u r b)
include word hm dst unit starts

/-- R65, R80: the row of a trigger starts the operation of its port, on the operands as they stood before the word. -/
theorem unitRow_flies : Flies s (issue s t (.dst p)) t (.unit u r.writes b) := by
  subst dst
  rw [issue_commit word (by simpa [rowMatch] using ⟨m, hm, rfl⟩)]
  refine word_flies word hm (by simp [transfers_of_unit unit]) fun s1 value _ => ?_
  rw [commitMove_unit unit, value, starts]
  exact startUnit_flies _ _ _ _ _

/-- R92: a sticky bit that the operation sets is set when the word has issued. -/
theorem unitRow_sticky {i : Nat} (sticky : r.sticky = some i) (lo : 16 ≤ i) (hi : i < 32) : tbit (thr (issue s t (.dst p)) t).arch i = true := by
  subst dst
  rw [issue_commit word (by simpa [rowMatch] using ⟨m, hm, rfl⟩)]
  refine word_sticks word hm (by simp [transfers_of_unit unit]) lo hi fun s1 value => ?_
  rw [commitMove_unit unit, value, starts]
  exact startUnit_sticky _ _ _ _ _ _ sticky

/-- The command of such a row starts an operation that writes the unit's results. -/
theorem unitRow_starts {i : Instr} (row : exec i s = .next (issue s t (.dst p))) {ws : List (Nat × Word)} (writes : r.writes = ws) :
    Starts i s t (.unit u ws b) :=
  ⟨_, row, writes ▸ unitRow_flies word hm dst unit r starts⟩

end

/-! ### What the shift unit writes -/

/-- A shift to the left multiplies (R85). -/
theorem shlUnit_writes (n x c : Nat) : (shlUnit n x c).writes = [(0x0A8, w64 ((if c < 4 * n then x * 2 ^ c else 0) % 16 ^ n))] := by
  simp only [shlUnit, shiftRes, Nat.shiftLeft_eq]

/-- A shift to the right divides (R85). -/
theorem shrUnit_writes (n x c : Nat) : (shrUnit n x c).writes = [(0x0A8, w64 ((if c < 4 * n then x / 2 ^ c else 0) % 16 ^ n))] := by
  simp only [shrUnit, shiftRes, Nat.shiftRight_eq_div_pow]

/-- An arithmetic shift divides the signed reading, by no more than the train's width (R85). -/
theorem sarUnit_writes (n x c : Nat) :
    (sarUnit n x c).writes = [(0x0A8, w64 (toTrain n (signedOf (4 * n) x / 2 ^ min c (4 * n)) % 16 ^ n))] := by
  have count : (if c < 4 * n then c else 4 * n) = min c (4 * n) := by
    split <;> omega
  simp only [sarUnit, shiftRes, count, Nat.cast_pow, Nat.cast_ofNat]

/-! ### The statements -/

/-- neg.t of the most negative value sets ovf (R91). -/
theorem negUnit_sticky {n v : Nat} (h : v = 16 ^ n / 2) : (negUnit n v).sticky = some 16 := if_pos h

/-- Settles O1: each trigger's row starts the operation of its port (`unitRow_starts`), and ovf stands after neg.t's (`unitRow_sticky`). -/
theorem addAndLogicUnitsStart : Obligations.AddAndLogicUnitsStart := by
  unfold Obligations.AddAndLogicUnitsStart
  constructor
  · intro s t ms m word hm pre n a v c res
    refine ⟨fun dst => ?add, fun dst => ?sub, fun dst => ?adc, fun dst => ?sbb, fun dst => ?neg⟩
    case add => exact unitRow_starts word hm dst rfl (addUnit n a v 0) (fun _ => rfl) rfl rfl
    case sub => exact unitRow_starts word hm dst rfl (subUnit n a v 0) (fun _ => rfl) rfl rfl
    case adc => exact unitRow_starts word hm dst rfl (addUnit n a v c) (fun _ => rfl) rfl rfl
    case sbb => exact unitRow_starts word hm dst rfl (subUnit n a v c) (fun _ => rfl) rfl rfl
    case neg =>
      have starts (s1 : State) : unitTrigger s1 t 0x085 n pre (mvValue s t pre m) = startUnit s1 t .add (negUnit n v) none := rfl
      exact ⟨_, rfl, unitRow_flies word hm dst rfl _ starts,
        fun edge => unitRow_sticky word hm dst rfl _ starts (negUnit_sticky edge) (by decide) (by decide)⟩
  · intro s t ms m word hm pre n a v res
    refine ⟨fun dst => ?and, fun dst => ?or, fun dst => ?xor, fun dst => ?andn, fun dst => ?not⟩
    case and => exact unitRow_starts word hm dst rfl (logicUnit n (a &&& v)) (fun _ => rfl) rfl rfl
    case or => exact unitRow_starts word hm dst rfl (logicUnit n (a ||| v)) (fun _ => rfl) rfl rfl
    case xor => exact unitRow_starts word hm dst rfl (logicUnit n (a ^^^ v)) (fun _ => rfl) rfl rfl
    case andn => exact unitRow_starts word hm dst rfl (logicUnit n (a &&& (16 ^ n - 1 - v))) (fun _ => rfl) rfl rfl
    case not => exact unitRow_starts word hm dst rfl (logicUnit n (16 ^ n - 1 - v)) (fun _ => rfl) rfl rfl

/-- Settles O2: each trigger's row starts the operation of its port; the shift unit takes the width of sh.a, a compare the bit that cmp.bi names. -/
theorem shiftAndCompareUnitsStart : Obligations.ShiftAndCompareUnitsStart := by
  unfold Obligations.ShiftAndCompareUnitsStart
  constructor
  · intro s t ms m word hm pre n a c k res
    refine ⟨fun dst => ?shl, fun dst => ?shr, fun dst => ?sar, fun dst => ?rol, fun dst => ?ror⟩
    case shl => exact unitRow_starts word hm dst rfl (shlUnit n a c) (fun _ => rfl) rfl (shlUnit_writes n a c)
    case shr => exact unitRow_starts word hm dst rfl (shrUnit n a c) (fun _ => rfl) rfl (shrUnit_writes n a c)
    case sar => exact unitRow_starts word hm dst rfl (sarUnit n a c) (fun _ => rfl) rfl (sarUnit_writes n a c)
    case rol => exact unitRow_starts word hm dst rfl (rolUnit n a c) (fun _ => rfl) rfl rfl
    case ror => exact unitRow_starts word hm dst rfl (rorUnit n a c) (fun _ => rfl) rfl rfl
  · intro s t ms m word hm pre n a v bi res
    refine ⟨fun dst => ?eq, fun dst => ?lt, fun dst => ?ltu, fun dst => ?le, fun dst => ?leu⟩
    case eq => exact unitRow_starts word hm dst rfl (cmpRes (cmpRelation 0x0B1 n a v)) (fun _ => rfl) rfl rfl
    case lt => exact unitRow_starts word hm dst rfl (cmpRes (cmpRelation 0x0B2 n a v)) (fun _ => rfl) rfl rfl
    case ltu => exact unitRow_starts word hm dst rfl (cmpRes (cmpRelation 0x0B3 n a v)) (fun _ => rfl) rfl rfl
    case le => exact unitRow_starts word hm dst rfl (cmpRes (cmpRelation 0x0B4 n a v)) (fun _ => rfl) rfl rfl
    case leu => exact unitRow_starts word hm dst rfl (cmpRes (cmpRelation 0x0B5 n a v)) (fun _ => rfl) rfl rfl

end Sys2Proof.Machine
end

section
/-! SUPPORT. How an operation of a digit unit ends (R80, R87, R96, R97, R101): its results in its thread, the divider free again, and the error that
its outcome counts (R38, R40, R41). -/

namespace Sys2Proof.Machine

open Sys2Proof.Claims

/-! ### What a fault report leaves -/

/-- What the end of an operation writes: every thread's discardable state, and who holds each cylinder's divider. -/
def unitView (s : State) : (Nat → Arch) × (Nat → Option Nat) := (fun t => (thr s t).arch, fun c => (cyl s c).divBusy)

theorem arch_of_unitView {s s' : State} (h : unitView s' = unitView s) (t : Nat) : (thr s' t).arch = (thr s t).arch :=
  congrFun (congrArg Prod.fst h) t

theorem divBusy_of_unitView {s s' : State} (h : unitView s' = unitView s) (c : Nat) : (cyl s' c).divBusy = (cyl s c).divBusy :=
  congrFun (congrArg Prod.snd h) c

theorem unitView_of_threads {s s' : State} (cyls : s'.cyls = s.cyls) (archs : ∀ t, (thr s' t).arch = (thr s t).arch) : unitView s' = unitView s :=
  Prod.ext (funext archs) (funext fun c => by simp only [unitView, cyl, cyls])

theorem unitView_settle (s : State) : unitView (settle s) = unitView s :=
  unitView_of_threads (by rw [(settle_settled s).rest]) (settle_arch s)

/-- A thread asked to freeze for a probe keeps its state until its next word (R474). -/
theorem unitView_askFreeze (s : State) (t : Nat) (why : Freeze) : unitView (askFreeze s t why) = unitView s := by
  unfold askFreeze
  dsimp only
  split
  · rfl
  · refine unitView_of_threads (by rw [putThr_rest]) fun u => ?_
    by_cases hu : u = t
    · rw [hu, putThr_self]
    · rw [putThr_ne _ _ _ _ hu]

/-- A cylinder under probe loses its caches, not its divider. -/
theorem unitView_dropCaches (s : State) (c : Nat) : unitView (dropCaches s c) = unitView s := by
  refine Prod.ext rfl (funext fun i => ?_)
  by_cases hi : i = c
  · subst hi
    simp only [unitView, dropCaches, cyl_modCyl]
  · simp only [unitView, dropCaches, cyl_modCyl_ne _ _ _ _ hi]

theorem unitView_underProbe (s : State) (cls ix : Nat) : unitView (underProbe s cls ix) = unitView s := by
  unfold underProbe
  split
  · exact List.foldlRecOn (motive := fun x => unitView x = unitView s) _ _ (unitView_dropCaches s ix)
      fun x same i _ => (unitView_askFreeze x _ _).trans same
  · split
    · rfl
    · split <;> rfl

theorem unitView_report (s : State) (cls ix err part detail : Nat) : unitView (report s cls ix err part detail) = unitView s := by
  unfold report
  extract_lets _ noted u probe
  have same : unitView noted = unitView s := rfl
  split
  · exact same
  · split
    · exact same
    · exact unitView_underProbe _ _ _

/-- Counting and reporting an outcome leaves what the operation has written. -/
theorem unitView_countOutcome (s : State) (t : Nat) (o : UnitOutcome) : unitView (countOutcome s t o) = unitView s := by
  cases o with
  | ok => rfl
  | codeViolation => exact unitView_report _ _ _ _ _ _
  | overrun =>
    simp only [countOutcome]
    split
    · exact unitView_report _ _ _ _ _ _
    · rfl
  | timeout => exact unitView_report _ _ _ _ _ _

/-- What an operation has left, once its outcome is counted and the threads are settled. -/
def counted (s : State) (t : Nat) (o : UnitOutcome) : State := settle (countOutcome s t o)

theorem unitView_counted (s : State) (t : Nat) (o : UnitOutcome) : unitView (counted s t o) = unitView s :=
  (unitView_settle _).trans (unitView_countOutcome s t o)

theorem counted_arch (s : State) (t : Nat) (o : UnitOutcome) (u : Nat) : (thr (counted s t o) u).arch = (thr s u).arch :=
  arch_of_unitView (unitView_counted s t o) u

theorem counted_divBusy (s : State) (t : Nat) (o : UnitOutcome) (c : Nat) : (cyl (counted s t o) c).divBusy = (cyl s c).divBusy :=
  divBusy_of_unitView (unitView_counted s t o) c

/-- A timeout is counted in CYL_CMODE.TMO, which stops at #FF (R41). -/
theorem counted_timeout (s : State) (t : Nat) :
    fldGet (counted s t .timeout) .cylCmode (cylOf t) 15 8 = min 255 (fldGet s .cylCmode (cylOf t) 15 8 + 1) := by
  rw [fldGet, counted, regGet_of_within (settle_frame _) (by decide), countOutcome, regGet_report]
  exact fldGet_bump s .cylCmode (cylOf t) (by decide)

/-! ### An operation that lands -/

theorem putThr_arch (s : State) (t : Nat) (th : Thread) : (thr (putThr s t th) t).arch = th.arch := by
  rw [putThr_self]

theorem putThr_regs (s : State) (t : Nat) (th : Thread) : (putThr s t th).regs = s.regs := by
  rw [putThr_rest]

/-- R145: an operation in flight leaves, and its results are written. -/
theorem landOp_arch {th : Thread} {op : Op} (h : op ∈ th.arch.ops) (f : Arch → Arch) :
    (landOp th op.id f).arch = f { th.arch with ops := th.arch.ops.filter (fun x => x.id != op.id) } :=
  if_pos (List.any_eq_true.2 ⟨op, h, beq_self_eq_true op.id⟩)

theorem unitOp_mem {th : Thread} {u : DUnit} {op : Op} (h : unitOp th u = some op) : op ∈ th.arch.ops := List.mem_of_find?_eq_some h

/-- The thread's state with a product in flight marked poisoned. -/
def poisonedMul (a : Arch) (id : Nat) (lo hi : Word) (n : Nat) : Arch :=
  { a with ops := a.ops.map (fun x => if x.id = id then { x with kind := .mul lo hi n true } else x) }

section
variable {s : State} {t : Nat} {u : DUnit} {op : Op} (flies : unitOp (thr s t) u = some op) (o : UnitOutcome)
include flies

/-- R80: the results of an operation land. -/
theorem unitEnds_unit {v : DUnit} {ws : List (Nat × Word)} (kind : op.kind = .unit v ws none) :
    unitEnds s t u o = counted (putThr s t (landOp (thr s t) op.id (fun a => writePorts a ws (poisons o)))) t o := by
  simp only [unitEnds, flies, kind, counted]

/-- R87: a compare's result lands in its bit too. -/
theorem unitEnds_compare {v : DUnit} {ws : List (Nat × Word)} {j : Nat} {b : Bool} (kind : op.kind = .unit v ws (some (j, b))) :
    unitEnds s t u o =
      counted (putThr s t (landOp (thr s t) op.id (fun a =>
        setPoison (setBit (writePorts a ws (poisons o)) j b) (bitPort j) (poisons o)))) t o := by
  simp only [unitEnds, flies, kind, counted]

/-- R101: a division's results land, and the cylinder's divider is free. -/
theorem unitEnds_div {sg : Bool} {n : Nat} {ws : List (Nat × Word)} {pc : VAddr} {rep : Rep} {cnt : Word}
    (kind : op.kind = .div sg n ws pc rep cnt) :
    unitEnds s t u o =
      counted (modCyl (putThr s t (landOp (thr s t) op.id (fun a => writePorts a ws (poisons o)))) (cylOf t)
        (fun c => { c with divBusy := none })) t o := by
  simp only [unitEnds, flies, kind, counted]

/-- R96: a product keeps its slot. -/
theorem unitEnds_mul {lo hi : Word} {n : Nat} {b : Bool} (kind : op.kind = .mul lo hi n b) :
    unitEnds s t u o =
      counted (if poisons o then putThr s t { thr s t with arch := poisonedMul (thr s t).arch op.id lo hi n } else s) t o := by
  simp only [unitEnds, flies, kind, counted, poisonedMul]

end

/-! ### A product that becomes visible -/

/-- R96, R97: the oldest product in flight, once its slot has come. -/
theorem showMul_arch {th : Thread} {op : Op} {lo hi : Word} {n : Nat} {bad : Bool}
    (oldest : th.arch.ops.find? (fun o => match o.kind with | .mul _ _ _ _ => true | _ => false) = some op)
    (kind : op.kind = .mul lo hi n bad) (slot : n ≤ th.arch.slot) :
    (showMul th false).arch =
      writePorts { th.arch with ops := th.arch.ops.filter (fun o => o.id != op.id) } [(0x0D8, lo), (0x0D9, hi)] bad := by
  unfold showMul
  split
  · rename_i found e
    obtain rfl : found = op := Option.some.inj (e.symm.trans oldest)
    simp only [kind, slot, decide_true, Bool.or_true, if_true]
  · rename_i none
    cases none.symm.trans oldest

/-! ### The statement -/

/-- Settles O4: the landing by the kind of the operation (`unitEnds_unit`, `unitEnds_compare`, `unitEnds_div`, `unitEnds_mul`), which the count of its
outcome leaves as it is (`unitView_counted`); a visible product by `showMul_arch`. -/
theorem unitResultsLand : Obligations.UnitResultsLand := by
  unfold Obligations.UnitResultsLand
  constructor
  · intro s t u op flies pre left ends
    have mem : op ∈ pre.ops := unitOp_mem flies
    have lands (i : Instr) (o : UnitOutcome) (P : State → Prop) (row : exec i s = .next (unitEnds s t u o))
        (after : ∀ s1, s1.regs = s.regs → P (counted s1 t o)) : ends i (poisons o) P := by
      refine ⟨fun v ws kind => ⟨_, row, ?_⟩, fun v ws j b kind => ⟨_, row, ?_⟩, fun sg n ws pc rep cnt kind => ⟨_, row, ?_⟩,
        fun lo hi n b kind => ⟨_, row, ?_⟩⟩
      · rw [unitEnds_unit flies o kind]
        exact ⟨by rw [counted_arch, putThr_arch, landOp_arch mem], after _ (putThr_regs _ _ _)⟩
      · rw [unitEnds_compare flies o kind]
        exact ⟨by rw [counted_arch, putThr_arch, landOp_arch mem], after _ (putThr_regs _ _ _)⟩
      · rw [unitEnds_div flies o kind]
        exact ⟨by rw [counted_arch, modCyl_thr, putThr_arch, landOp_arch mem], by rw [counted_divBusy, cyl_modCyl], after _ (putThr_regs _ _ _)⟩
      · rw [unitEnds_mul flies o kind]
        cases poisons o with
        | false => exact ⟨congrArg Arch.ops (counted_arch s t o t), after s rfl⟩
        | true => exact ⟨by rw [counted_arch, if_pos rfl, putThr_arch, if_pos rfl, poisonedMul], after _ (putThr_regs _ _ _)⟩
    constructor
    · exact fun o => lands (.digitUnitResult t u o) o (fun _ => True) rfl fun _ _ => trivial
    · refine lands (.completionTimeout t u) .timeout _ rfl fun s1 regs => ?_
      have count : fldGet s1 .cylCmode (cylOf t) 15 8 = fldGet s .cylCmode (cylOf t) 15 8 := by rw [fldGet, fldGet, regGet, regGet, regs]
      rw [counted_timeout, count]
  · intro s t op lo hi n bad pre oldest kind slot
    refine ⟨_, rfl, (settle_arch _ _).trans ?_⟩
    rw [modThr_self]
    exact showMul_arch oldest kind slot

end Sys2Proof.Machine
end

section
/-! SUPPORT. Concrete words and operations that meet what the statements on the digit units suppose: neg.t of its edge, a compare into a thread
bit, its code violation, and a product at its slot. -/

namespace Sys2Proof.Machine

open Sys2Proof.Claims

/-- The machine after reset, running, with a thread of partition 0 that holds a word at 0 and has this state. -/
def oneWordState (w : Nat) (a : Arch) : State :=
  { State.reset with
    threads := [(0, { thrInit with part := 0, st := .ready, held := [(0, [w], false)], arch := a })]
    supply := { State.reset.supply with power := 1 } }

/-- `mov.1 neg.t, #8`: the most negative value of one digit. -/
def negEdgeMove : Mv := { w := 1, dst := 0x085, src := .imm 8 }

theorem negEdge_issues : issues (oneWordState 0x010B0008 archInit) 0 [negEdgeMove] = true := by decide

/-- R91: that word sets ovf. -/
theorem negEdge_setsOvf : Completes (.negT 0) (oneWordState 0x010B0008 archInit) (fun s' => tbit (thr s' 0).arch 16 = true) := by
  obtain ⟨-, -, -, -, neg⟩ := addAndLogicUnitsStart.1 _ 0 _ _ negEdge_issues (List.mem_singleton_self _)
  obtain ⟨s', row, -, ovf⟩ := neg rfl
  exact ⟨s', row, ovf (by decide)⟩

/-- `mov.1 cmp.eq.t, #0`: a compare of cmp.a with 0. -/
def cmpZeroMove : Mv := { w := 1, dst := 0x0B1, src := .imm 0 }

theorem cmpZero_issues : issues (oneWordState 0x01630000 (setPort archInit 0x0B6 5)) 0 [cmpZeroMove] = true := by decide

/-- R87: with cmp.bi at 5 that word starts a compare that gives b5 the value 1. -/
theorem cmpZero_startsIntoBit : Starts (.cmpEqT 0) (oneWordState 0x01630000 (setPort archInit 0x0B6 5)) 0
    (.unit .compare [(0x0B8, 1)] (some (5, true))) := by
  obtain ⟨eq, -⟩ := shiftAndCompareUnitsStart.2 _ 0 _ _ cmpZero_issues (List.mem_singleton_self _)
  exact eq rfl

/-- A thread's state with that compare in flight, and with a product of 4 and 3 whose slot has come. -/
def flyingArch : Arch :=
  { archInit with ops := [⟨0, .unit .compare [(0x0B8, 1)] (some (5, true))⟩, ⟨1, .mul 12 0 4 false⟩], slot := 4 }

/-- R40, R87: a code violation of that compare poisons cmp.r and b5. -/
theorem cmp_codeViolation_poisons : Completes (.digitUnitResult 0 .compare .codeViolation) (oneWordState 0 flyingArch)
    (fun s' => (thr s' 0).arch.poison = [bitPort 5, 0x0B8]) := by
  obtain ⟨lands, -⟩ := unitResultsLand.1 (oneWordState 0 flyingArch) 0 .compare _ rfl
  obtain ⟨-, compare, -⟩ := lands .codeViolation
  obtain ⟨s', row, arch, -⟩ := compare _ _ _ _ rfl
  exact ⟨s', row, (congrArg Arch.poison arch).trans (by decide)⟩

/-- R96: that product becomes visible. -/
theorem mul_atItsSlot_shows : Completes (.mulProductVisible 0) (oneWordState 0 flyingArch) (fun s' => port (thr s' 0).arch 0x0D8 = 12) := by
  obtain ⟨s', row, arch⟩ := unitResultsLand.2 (oneWordState 0 flyingArch) 0 _ 12 0 4 false rfl rfl (by decide)
  exact ⟨s', row, (congrArg (port · 0x0D8) arch).trans (by decide)⟩

end Sys2Proof.Machine
end

section
/-! SUPPORT. Words that transfer control (R107 to R131): the state in which a word's transfer is made, and where each transfer leaves its thread.
A move from str.ld to such a port reads str.ld only after the word has used it up. -/

namespace Sys2Proof.Machine

open Sys2Proof.Claims

/-! ### The state in which a word transfers control -/

/-- The state after a word's moves, its sticky bit and its use of str.ld, in which `flow` makes its transfer. -/
def movesMade (s : State) (t : Nat) (ms : List Mv) : State :=
  let moved := ms.foldl (commitMove (thr s t).arch t) (countSlot s t (ms.any (fun m => m.dst == 0x1CF)))
  useStr (applySticky moved t (stickySet s moved t (thr s t).arch ms)) t ms

/-- What a transfer of control changes in a thread: its discardable state, its unresolved branches and its store buffer. -/
def flowOf (th : Thread) : Arch × List Branch × List SbEntry := (th.arch, th.spec, th.sbuf)

/-- That part of a thread of the machine. -/
def flowView (s : State) (t : Nat) : Arch × List Branch × List SbEntry := flowOf (thr s t)

theorem arch_of_flowView {s s' : State} {t : Nat} (h : flowView s' t = flowView s t) : (thr s' t).arch = (thr s t).arch := congrArg (·.1) h

theorem spec_of_flowView {s s' : State} {t : Nat} (h : flowView s' t = flowView s t) : (thr s' t).spec = (thr s t).spec := congrArg (·.2.1) h

theorem sbuf_of_flowView {s s' : State} {t : Nat} (h : flowView s' t = flowView s t) : (thr s' t).sbuf = (thr s t).sbuf := congrArg (·.2.2) h

theorem flowView_settle (s : State) (t : Nat) : flowView (settle s) t = flowView s t := by
  rw [flowView, ((settle_settled s).each t).eq]
  rfl

theorem flowView_raiseSync (s : State) (t : Nat) (k : SyncKnock) : flowView (raiseSync s t k) t = flowView s t := by
  rw [flowView, raiseSync, modThr_self]
  split <;> rfl

theorem flowView_arithFault (s : State) (t : Nat) (b : Option Nat) (afe : Bool) : flowView (arithFault s t b afe) t = flowView s t := by
  unfold arithFault
  split
  · split
    · exact flowView_raiseSync _ _ _
    · rfl
  · rfl

/-- An arithmetic fault and the settling of the threads leave a word's transfer as it is made. -/
theorem flowView_issue {s : State} {t : Nat} {ms : List Mv} {r : Row} (word : issues s t ms = true) (row : rowMatch s t r ms = true) :
    flowView (issue s t r) t = flowView (flow (thr s t).arch t (movesMade s t ms) ms) t := by
  rw [issue_commit word row, flowView_settle]
  exact flowView_arithFault _ _ _ _

/-! ### The move that transfers -/

theorem transfers_low {p : Nat} (h : transfers p = true) : 0x104 ≤ p ∧ p ≤ 0x121 ∧ unitOfPort p = none := by
  simp only [transfers, Bool.or_eq_true, Bool.and_eq_true, decide_eq_true_eq, beq_iff_eq] at h
  refine ⟨by omega, by omega, ?_⟩
  unfold unitOfPort
  grind

/-- A word that transfers holds no move to an engine's port or to thr.start.t. -/
theorem transferWord_low {s : State} {t : Nat} {ms : List Mv} {m : Mv} (word : issues s t ms = true) (hm : m ∈ ms)
    (goes : transfers m.dst = true) : ∀ x ∈ ms, x.dst < 0x300 ∧ x.dst ≠ 0x123 := by
  rcases word_form word with ⟨y, rfl⟩ | ⟨a, b, rfl, da, -, db, -, -⟩
  · obtain rfl : m = y := by simpa using hm
    have low := transfers_low goes
    simpa using ⟨by omega, by omega⟩
  · simpa using ⟨⟨(shortDst_lt da).1, (shortDst_lt da).2.1⟩, (shortDst_lt db).1, (shortDst_lt db).2.1⟩

/-- R66: at most one move of a word transfers control. -/
theorem find_transfer {s : State} {t : Nat} {ms : List Mv} {m : Mv} (word : issues s t ms = true) (hm : m ∈ ms) (goes : transfers m.dst = true) :
    ms.find? (fun x => transfers x.dst) = some m := by
  have trigger : ∀ x ∈ ms, transfers x.dst = true → isTrigger s t x.dst = true := fun x hx h =>
    isTrigger_of_actsAt (by simp [actsAt, h]) (issues_writable word hx)
  have unit : ∀ p, transfers p = true → pairUnit p = 0x2001 := by
    intro p h
    have low := transfers_low h
    unfold pairUnit
    grind
  rcases word_form word with ⟨y, rfl⟩ | ⟨a, b, rfl, -, -, -, -, apart⟩
  · obtain rfl : m = y := by simpa using hm
    simp [goes]
  · have one : ¬ (transfers a.dst = true ∧ transfers b.dst = true) := fun ⟨ha, hb⟩ =>
      apart ⟨trigger a (by simp) ha, trigger b (by simp) hb, (unit _ ha).trans (unit _ hb).symm⟩
    rcases List.mem_pair.1 hm with rfl | rfl
    · simp [goes]
    · simp [goes, show transfers a.dst = false by simpa [goes] using one]

theorem find_alone {m : Mv} (goes : transfers m.dst = true) : [m].find? (fun x => transfers x.dst) = some m := by simp [goes]

theorem flow_transfer {s : State} {t : Nat} {ms : List Mv} {m : Mv} (word : issues s t ms = true) (hm : m ∈ ms) (goes : transfers m.dst = true)
    (pre : Arch) (s1 : State) : flow pre t s1 ms = flow pre t s1 [m] := by
  rw [flow, flow, find_transfer word hm goes, find_alone goes]

/-- A move to a port that transfers control does nothing besides the transfer. -/
theorem commitMove_transfer {s : State} {t : Nat} {ms : List Mv} {m : Mv} (word : issues s t ms = true) (hm : m ∈ ms)
    (goes : transfers m.dst = true) (pre : Arch) (s1 : State) : commitMove pre t s1 m = s1 := by
  obtain ⟨lo, hi, unit⟩ := transfers_low goes
  have blank : isBlank m.dst = false := by simp [isBlank]; omega
  have trigger : isTrigger s1 t m.dst = true := by
    rw [isTrigger, portInfo_state s s1 t blank]
    exact isTrigger_of_actsAt (by simp [actsAt, goes]) (issues_writable word hm)
  unfold commitMove
  extract_lets v va p
  rw [if_neg (by simp [p, unit]), if_neg (by omega), if_neg (by omega), if_neg (by omega), if_neg (by omega), if_neg (by omega), if_neg (by omega),
    if_neg (by omega), if_neg (by omega), if_neg (by omega), if_neg (by omega), if_neg (by simp [p, blank]), if_neg (by omega), if_neg (by omega),
    if_neg (by simp only [transfers, Bool.or_eq_true, Bool.and_eq_true, decide_eq_true_eq, beq_iff_eq] at goes; omega),
    if_neg (by omega), if_pos trigger]

/-- A single move that transfers control reads the thread after the word has taken its slot and used str.ld. -/
theorem movesMade_single {s : State} {t : Nat} {m : Mv} (word : issues s t [m] = true) (goes : transfers m.dst = true) :
    movesMade s t [m] = useStr (countSlot s t false) t [m] := by
  obtain ⟨-, hi, unit⟩ := transfers_low goes
  have append : [m].any (fun m => m.dst == 0x1CF) = false := by simp; omega
  have sticky (s' : State) : stickySet s s' t (thr s t).arch [m] = none := stickySet_none (by simpa using unit) _ _ _ _
  simp only [movesMade, append, List.foldl_cons, List.foldl_nil, commitMove_transfer word (List.mem_singleton_self m) goes, sticky, applySticky]

theorem movesMade_single_unread {s : State} {t : Nat} {m : Mv} (word : issues s t [m] = true) (goes : transfers m.dst = true)
    (src : m.src ≠ .port 0x152) : movesMade s t [m] = countSlot s t false := by
  rw [movesMade_single word goes, useStr_self (by simpa using src)]

/-- R65: unless it reads str.ld, a move that transfers delivers the value of the state before the word. -/
theorem mvValue_movesMade {s : State} {t : Nat} {ms : List Mv} {m : Mv} (word : issues s t ms = true) (hm : m ∈ ms) (goes : transfers m.dst = true)
    (src : m.src ≠ .port 0x152) : mvValue (movesMade s t ms) t (thr s t).arch m = mvValue s t (thr s t).arch m := by
  rcases word_form word with ⟨y, rfl⟩ | ⟨a, b, rfl, -, sa, -, sb, -⟩
  · obtain rfl : m = y := by simpa using hm
    rw [movesMade_single_unread word goes src, mvValue_slot]
  · rcases List.mem_pair.1 hm with rfl | rfl
    · exact mvValue_short _ _ _ _ _ sa
    · exact mvValue_short _ _ _ _ _ sb

/-- What str.ld gave is used up when the transfer of its word is made, so a transfer from str.ld reads 0. -/
theorem mvValue_strLd_used {s : State} {t : Nat} {m : Mv} (src : m.src = .port 0x152) (a : Arch) : mvValue (useStr s t [m]) t a m = 0 := by
  have found : [m].find? (fun m => m.src == .port 0x152) = some m := by simp [src]
  have used : (thr (useStr s t [m]) t).strData = none := by
    rw [useStr, found, modThr_self]
  have read : portValue (useStr s t [m]) t a 0x152 = 0 := by
    simp [portValue, used]
  simp only [mvValue, src, read]
  simp [lowDigits]

end Sys2Proof.Machine
end

section
/-! SUPPORT. Branches (R107 to R117): a branch word follows its static prediction and keeps what a misprediction restores, unless it reads str.ld;
and the oldest branch resolves. -/

namespace Sys2Proof.Machine

open Sys2Proof.Claims

/-! ### The program counter during a word's moves -/

/-- A thread's program counter. -/
def pcOf (s : State) (t : Nat) : VAddr := (thr s t).arch.pc

theorem pcOf_of_thr {s s' : State} {t : Nat} (h : thr s' t = thr s t) : pcOf s' t = pcOf s t := by rw [pcOf, pcOf, h]

theorem pcOf_modThr {s : State} {t : Nat} {f : Thread → Thread} (h : ∀ th : Thread, (f th).arch.pc = th.arch.pc) :
    pcOf (modThr s t f) t = pcOf s t := by
  rw [pcOf, modThr_self]
  exact h _

theorem pcOf_modArch {s : State} {t : Nat} {f : Arch → Arch} (h : ∀ a, (f a).pc = a.pc) : pcOf (modArch s t f) t = pcOf s t :=
  pcOf_modThr fun _ => h _

theorem pcOf_ite {s a b : State} {t : Nat} {c : Prop} [Decidable c] (h : pcOf a t = pcOf s t) (k : pcOf b t = pcOf s t) :
    pcOf (if c then a else b) t = pcOf s t := by
  split
  · exact h
  · exact k

theorem writePort_pc (s : State) (t : Nat) (a : Arch) (p w : Nat) (v : Word) : (writePort s t a p w v).pc = a.pc := by
  simp only [writePort, setG, setBit, setPort, apply_ite Arch.pc, ite_self]

theorem pcOf_startUnit (s : State) (t : Nat) (u : DUnit) (r : UnitRes) (b : Option (Nat × Bool)) : pcOf (startUnit s t u r b) t = pcOf s t := by
  refine pcOf_modThr fun th => ?_
  dsimp only
  split <;> rfl

theorem pcOf_startMul (s : State) (t n : Nat) (p : Word × Word) : pcOf (startMul s t n p) t = pcOf s t := pcOf_modThr fun _ => rfl

theorem pcOf_startDiv (s : State) (t : Nat) (sg : Bool) (n : Nat) (pre : Arch) (v : Word) : pcOf (startDiv s t sg n pre v) t = pcOf s t := by
  unfold startDiv
  extract_lets a r steps s1
  refine (pcOf_modThr fun th => ?_).trans (pcOf_of_thr (s := s) (s' := s1) rfl)
  dsimp only
  split <;> rfl

theorem pcOf_unitTrigger (s : State) (t p n : Nat) (pre : Arch) (v : Word) : pcOf (unitTrigger s t p n pre v) t = pcOf s t := by
  unfold unitTrigger startCmp
  dsimp only
  repeat' with_reducible (first
    | apply pcOf_startUnit
    | apply pcOf_startMul
    | apply pcOf_startDiv
    | apply pcOf_ite)

/-- An access that a move starts. -/
theorem pcOf_access {s : State} {t va n acc : Nat} {f : Thread → Thread} (h : ∀ th : Thread, (f th).arch.pc = th.arch.pc) :
    pcOf (modThr (touch s t va n acc) t f) t = pcOf s t :=
  (pcOf_modThr h).trans (pcOf_of_thr (touch_thr _ _ _ _ _ _))

theorem pcOf_oneStore (s : State) (t va w : Nat) (d : Word) (bad : Bool) : pcOf (oneStore s t va w d bad) t = pcOf s t :=
  pcOf_access fun _ => rfl

/-- No move but a transfer moves the program counter. -/
theorem pcOf_commitMove (pre : Arch) (t : Nat) (s : State) (m : Mv) (low : m.dst < 0x300) (start : m.dst ≠ 0x123) :
    pcOf (commitMove pre t s m) t = pcOf s t := by
  unfold commitMove
  extract_lets v va p
  have blank : isBlank p = false := by simp [isBlank, p]; omega
  apply pcOf_ite (pcOf_unitTrigger _ _ _ _ _ _)
  apply pcOf_ite
  · exact pcOf_access fun _ => rfl
  apply pcOf_ite (pcOf_oneStore _ _ _ _ _ _)
  apply pcOf_ite
  · exact pcOf_access fun _ => rfl
  apply pcOf_ite
  · exact pcOf_access fun _ => rfl
  apply pcOf_ite
  · refine Eq.trans (pcOf_modArch ?_) (pcOf_oneStore _ _ _ _ _ _)
    exact fun _ => rfl
  apply pcOf_ite
  · exact pcOf_modThr fun _ => rfl
  apply pcOf_ite (show pcOf (writeKbit s t _ _) t = pcOf s t from pcOf_of_thr rfl)
  rw [if_neg (by omega), if_neg (by omega), if_neg (by omega), if_neg (by simp [blank])]
  apply pcOf_ite
  · exact pcOf_modThr fun _ => rfl
  apply pcOf_ite
  · exact pcOf_modThr fun _ => rfl
  apply pcOf_ite
  · exact pcOf_modThr fun _ => rfl
  rw [if_neg start]
  exact pcOf_ite rfl (pcOf_modArch fun _ => writePort_pc _ _ _ _ _ _)

theorem pcOf_countSlot (s : State) (t : Nat) (b : Bool) : pcOf (countSlot s t b) t = pcOf s t := by
  rw [pcOf, countSlot_self]
  rfl

theorem pcOf_applySticky (s : State) (t : Nat) (b : Option Nat) : pcOf (applySticky s t b) t = pcOf s t := by
  unfold applySticky
  split
  · exact pcOf_modArch fun _ => rfl
  · rfl

theorem pcOf_useStr (s : State) (t : Nat) (ms : List Mv) : pcOf (useStr s t ms) t = pcOf s t := by
  unfold useStr
  split
  · rfl
  · exact pcOf_modThr fun _ => rfl

section
variable {s : State} {t : Nat} {ms : List Mv} {m : Mv} (word : issues s t ms = true) (hm : m ∈ ms) (goes : transfers m.dst = true)
include word hm goes

/-- A word that transfers makes its moves at its own address. -/
theorem pcOf_movesMade : pcOf (movesMade s t ms) t = pcOf s t := by
  have moves := List.foldlRecOn (motive := fun x => pcOf x t = pcOf s t) ms (commitMove (thr s t).arch t)
    (b := countSlot s t (ms.any (fun m => m.dst == 0x1CF))) (pcOf_countSlot _ _ _) fun x same y hy =>
      have ⟨low, start⟩ := transferWord_low word hm goes y hy
      (pcOf_commitMove _ _ _ _ low start).trans same
  exact (pcOf_useStr _ _ _).trans ((pcOf_applySticky _ _ _).trans moves)

/-- A word that transfers loses no operation in flight by its moves. -/
theorem movesMade_grows : Grows t s (movesMade s t ms) := by
  have moves := List.foldlRecOn (motive := fun x => Grows t s x) ms (commitMove (thr s t).arch t)
    (b := countSlot s t (ms.any (fun m => m.dst == 0x1CF))) (countSlot_grows _ _ _) fun x grown y hy =>
      have ⟨low, start⟩ := transferWord_low word hm goes y hy
      grown.trans (commitMove_grows _ _ _ _ low start)
  exact (moves.trans (applySticky_grows _ _ _)).trans (useStr_grows _ _ _)

end

/-! ### A branch that issues -/

/-- What decides a branch by its trigger port and the value moved there (R109, R110). -/
def branchCond (s : State) (t : Nat) (m : Mv) : BranchCond :=
  let pre := (thr s t).arch
  let v := mvValue s t pre m
  let bit := fun (sense : Bool) =>
    let i := v.toNat % 4096
    if pending (thr s t) pre (bitPort i) then BranchCond.onBit i sense else .known (tbit pre i == sense)
  if m.dst ≤ 0x109 then .known (cbRelation m.dst m.w (port pre 0x102) v) else if m.dst = 0x10A then bit true else bit false

/-- A thread has gone on by the static prediction of a branch that `c` decides: taken when the target is not above the branch word. The
branch is in flight, and keeps the state of the other path (R112 to R114, R117). -/
def Follows (s s' : State) (t : Nat) (c : BranchCond) : Prop :=
  let pre := (thr s t).arch
  let g := stagedTarget pre
  let back := decide (g.toNat ≤ pre.pc.toNat)
  Flies s s' t .branch ∧ ∃ x b, x.pc = pre.pc ∧ (thr s' t).spec.getLast? = some b ∧ b.cond = c ∧ b.predicted = some back ∧ b.guess = g ∧
    (thr s' t).arch = b.along ∧ b.along = (if back then transfer x g else advance x) ∧ b.saved = (if back then advance x else transfer x g)

/-- A branch made on a state that has lost no operation and still has the branch word's address. -/
theorem doBranch_follows {s s1 s' : State} {t : Nat} {c : BranchCond} (grown : Grows t s s1) (pc : pcOf s1 t = pcOf s t)
    (view : flowView s' t = flowView (doBranch s1 t (thr s t).arch c) t) : Follows s s' t c := by
  have arch := arch_of_flowView view
  have spec := spec_of_flowView view
  have flies : Flies s1 (doBranch s1 t (thr s t).arch c) t .branch := by
    refine startOp_flies ?_
    dsimp only
    exact ops_ite (transfer_ops _ _) (advance_ops _)
  refine ⟨?_, (startOp (thr s1 t) .branch).arch, ?_⟩
  · obtain ⟨o, ho, kind, since⟩ := Flies.since grown flies
    exact ⟨o, arch ▸ ho, kind, since⟩
  · rw [doBranch, modThr_self] at arch spec
    exact ⟨_, pc, by rw [spec, List.getLast?_concat], rfl, rfl, rfl, arch, rfl, rfl⟩

/-- A thread bit is never the status port of an engine, so whether it is pending is seen from the discardable state alone. -/
theorem pending_bitPort (th th' : Thread) (a : Arch) (i : Nat) : pending th a (bitPort i) = pending th' a (bitPort i) := by
  have status (jobs : List Nat) :
      (decide (0x310 ≤ bitPort i ∧ bitPort i < 0x358) && bitPort i % 8 == 1 && jobs.contains ((bitPort i - 0x310) / 8)) = false := by
    have out : ¬ (0x310 ≤ bitPort i ∧ bitPort i < 0x358) := by
      unfold bitPort
      split <;> omega
    simp [out]
  rw [pending, pending, status, status]

/-- A branch trigger of a word that does not read str.ld makes the branch that the state before the word decides. -/
theorem flow_branch {s : State} {t : Nat} {ms : List Mv} {m : Mv} (word : issues s t ms = true) (hm : m ∈ ms) (lo : 0x104 ≤ m.dst)
    (hi : m.dst ≤ 0x10B) (src : m.src ≠ .port 0x152) :
    flow (thr s t).arch t (movesMade s t ms) ms = doBranch (movesMade s t ms) t (thr s t).arch (branchCond s t m) := by
  have goes : transfers m.dst = true := by simp [transfers]; omega
  rw [flow_transfer word hm goes, flow, find_alone goes]
  dsimp only
  rw [mvValue_movesMade word hm goes src, branchCond]
  dsimp only
  by_cases relation : m.dst ≤ 0x109
  · rw [if_pos relation, if_pos relation]
  · rw [if_neg relation, if_neg relation]
    have cond (sense : Bool) : bitBranch (movesMade s t ms) t (thr s t).arch ((mvValue s t (thr s t).arch m).toNat % 4096) sense =
        doBranch (movesMade s t ms) t (thr s t).arch
          (if pending (thr s t) (thr s t).arch (bitPort ((mvValue s t (thr s t).arch m).toNat % 4096)) then
            .onBit ((mvValue s t (thr s t).arch m).toNat % 4096) sense
          else .known (tbit (thr s t).arch ((mvValue s t (thr s t).arch m).toNat % 4096) == sense)) := by
      rw [bitBranch, pending_bitPort _ (thr s t)]
    by_cases set : m.dst = 0x10A
    · rw [if_pos set, if_pos set, cond]
    · rw [if_neg set, if_neg set, if_pos (by omega), cond]

/-- R107 to R114: the row of a branch trigger, for a word that does not read str.ld. -/
theorem branchRow_follows {s : State} {t : Nat} {ms : List Mv} {m : Mv} (word : issues s t ms = true) (hm : m ∈ ms) (lo : 0x104 ≤ m.dst)
    (hi : m.dst ≤ 0x10B) (src : m.src ≠ .port 0x152) : Follows s (issue s t (.dst m.dst)) t (branchCond s t m) := by
  have goes : transfers m.dst = true := by simp [transfers]; omega
  refine doBranch_follows (movesMade_grows word hm goes) (pcOf_movesMade word hm goes) ?_
  rw [flowView_issue word (by simpa [rowMatch] using ⟨m, hm, rfl⟩), flow_branch word hm lo hi src]

/-- R109, R110: the eight rows, each with the relation of its port. -/
theorem branchRows_follow {s : State} {t : Fin 2048} {ms : List Mv} {m : Mv} (word : issues s t ms = true) (hm : m ∈ ms)
    (src : m.src ≠ .port 0x152) :
    let pre := (thr s t).arch
    let n := m.w
    let a := port pre 0x102
    let v := mvValue s t pre m
    let goes := fun (i : Instr) (c : BranchCond) => Completes i s (fun s' => Follows s s' t c)
    let bit := fun (sense : Bool) =>
      let i := v.toNat % 4096
      if pending (thr s t) pre (bitPort i) then BranchCond.onBit i sense else .known (tbit pre i == sense)
    (m.dst = 0x104 → goes (.cbEqT t) (.known (decide (train n a = train n v)))) ∧
    (m.dst = 0x105 → goes (.cbNeT t) (.known (decide (train n a ≠ train n v)))) ∧
    (m.dst = 0x106 → goes (.cbLtT t) (.known (decide (strain n a < strain n v)))) ∧
    (m.dst = 0x107 → goes (.cbGeT t) (.known (decide (strain n v ≤ strain n a)))) ∧
    (m.dst = 0x108 → goes (.cbLtuT t) (.known (decide (train n a < train n v)))) ∧
    (m.dst = 0x109 → goes (.cbGeuT t) (.known (decide (train n v ≤ train n a)))) ∧
    (m.dst = 0x10A → goes (.cbBsT t) (bit true)) ∧ (m.dst = 0x10B → goes (.cbBcT t) (bit false)) := by
  intro pre n a v goes bit
  have row {i : Instr} {p : Nat} {c : BranchCond} (dst : m.dst = p) (lo : 0x104 ≤ p) (hi : p ≤ 0x10B)
      (command : exec i s = .next (issue s t (.dst p))) (cond : branchCond s t m = c) : goes i c := by
    subst dst cond
    exact ⟨_, command, branchRow_follows word hm lo hi src⟩
  have relation {i : Instr} {p : Nat} {c : Bool} (dst : m.dst = p) (lo : 0x104 ≤ p) (hi : p ≤ 0x109)
      (command : exec i s = .next (issue s t (.dst p))) (rel : cbRelation p n a v = c) : goes i (.known c) := by
    refine row dst lo (by omega) command ?_
    subst dst rel
    exact if_pos hi
  refine ⟨fun dst => relation dst (by decide) (by decide) rfl ?eq, fun dst => relation dst (by decide) (by decide) rfl ?ne,
    fun dst => relation dst (by decide) (by decide) rfl rfl, fun dst => relation dst (by decide) (by decide) rfl rfl,
    fun dst => relation dst (by decide) (by decide) rfl rfl, fun dst => relation dst (by decide) (by decide) rfl rfl,
    fun dst => row dst (by decide) (by decide) rfl ?set, fun dst => row dst (by decide) (by decide) rfl ?clear⟩
  case eq => exact Bool.eq_iff_iff.2 (by simp [cbRelation])
  case ne => exact Bool.eq_iff_iff.2 (by simp [cbRelation])
  case set =>
    rw [branchCond, dst]
    rfl
  case clear =>
    rw [branchCond, dst]
    rfl

/-! ### A branch that resolves -/

theorem flowView_putThr (s : State) (t : Nat) (th : Thread) : flowView (putThr s t th) t = flowOf th := by
  rw [flowView, putThr_self]
  rfl

/-- An operation that only leaves keeps its thread's program counter and registers. -/
theorem landOp_leaves (th : Thread) (id : Nat) :
    (landOp th id (fun a => a)).arch.pc = th.arch.pc ∧ (landOp th id (fun a => a)).arch.g = th.arch.g ∧
      ∀ o ∈ (landOp th id (fun a => a)).arch.ops, o.id ≠ id := by
  unfold landOp landAll
  dsimp only
  split
  · exact ⟨rfl, rfl, fun o ho => by simpa using (List.mem_filter.1 ho).2⟩
  · rename_i none
    exact ⟨rfl, rfl, by simpa using none⟩

theorem confirm_view (th : Thread) (b : Branch) : (confirm th b).arch = (landOp th b.op (fun a => a)).arch ∧
    (confirm th b).spec.length = th.spec.length - 1 := by
  unfold confirm
  dsimp only
  split <;> exact ⟨rfl, by simp [landOp, landAll]⟩

/-- R115: a confirmed prediction leaves the thread where it is, and takes the branch out of flight. -/
theorem confirm_goes {s' : State} {t : Nat} {th : Thread} {b : Branch} (view : flowView s' t = flowOf (confirm th b)) :
    (thr s' t).arch.pc = th.arch.pc ∧ (thr s' t).arch.g = th.arch.g ∧ (∀ o ∈ (thr s' t).arch.ops, o.id ≠ b.op) ∧
      (thr s' t).spec.length = th.spec.length - 1 := by
  have arch : (thr s' t).arch = (confirm th b).arch := congrArg (·.1) view
  have left : (thr s' t).spec = (confirm th b).spec := congrArg (·.2.1) view
  obtain ⟨same, length⟩ := confirm_view th b
  obtain ⟨pc, g, gone⟩ := landOp_leaves th b.op
  rw [arch, left, same]
  exact ⟨pc, g, gone, length⟩

section
variable {s : State} {t : Nat} {b : Branch} {rest : List Branch} {taken : Bool} (spec : (thr s t).spec = b :: rest)
  (resolved : branchTaken (thr s t) b = some taken)
include spec resolved

/-- R115: a right prediction. -/
theorem resolveBranch_right (right : b.predicted = some taken) :
    resolveBranch s t = settle (putThr s t (confirm (thr s t) b)) := by
  simp only [resolveBranch, spec, resolved, if_pos right]

/-- R117: a wrong prediction. -/
theorem resolveBranch_wrong (wrong : b.predicted ≠ some taken) :
    resolveBranch s t = settle (putThr s t (discard (thr s t) b b.saved.pc)) := by
  simp only [resolveBranch, spec, resolved, if_neg wrong]

/-- R115: after a right prediction the thread goes on where it is, and the branch has left. -/
theorem branchResolve_confirms (right : b.predicted = some taken) :
    (thr (resolveBranch s t) t).arch.pc = (thr s t).arch.pc ∧ (thr (resolveBranch s t) t).arch.g = (thr s t).arch.g ∧
      (∀ o ∈ (thr (resolveBranch s t) t).arch.ops, o.id ≠ b.op) ∧ (thr (resolveBranch s t) t).spec.length = rest.length := by
  have view : flowView (resolveBranch s t) t = flowOf (confirm (thr s t) b) := by
    rw [resolveBranch_right spec resolved right, flowView_settle, flowView_putThr]
  obtain ⟨pc, g, gone, length⟩ := confirm_goes view
  exact ⟨pc, g, gone, length.trans (by rw [spec]; rfl)⟩

/-- R117: after a wrong one it has the state that the branch kept, and no word past the branch remains. -/
theorem branchResolve_discards (wrong : b.predicted ≠ some taken) :
    (thr (resolveBranch s t) t).arch = { b.saved with ops := b.saved.ops.filter (fun o => o.id != b.op) } ∧
      (thr (resolveBranch s t) t).spec = [] ∧ (thr (resolveBranch s t) t).heldFault = none := by
  rw [resolveBranch_wrong spec resolved wrong, ((settle_settled _).each t).eq, putThr_self]
  exact ⟨rfl, rfl, rfl⟩

end

end Sys2Proof.Machine
end

section
/-! SUPPORT. Jumps, calls, returns and repeats (R110, R121 to R131): where a word of each leaves its thread, unless it reads str.ld; and the return
whose frame arrives. -/

namespace Sys2Proof.Machine

open Sys2Proof.Claims

/-! ### What a transfer leaves -/

theorem transfer_pc (a : Arch) (g : VAddr) : (transfer a g).pc = g := by
  unfold transfer
  split <;> rfl

theorem transfer_ras (a : Arch) (g : VAddr) : (transfer a g).ras = a.ras := by
  unfold transfer
  split <;> rfl

/-- R131: a transfer ends the repeat of the block it leaves. -/
theorem transfer_rep (a : Arch) (g : VAddr) : (transfer a g).rep.active = false := by
  unfold transfer
  split
  · rfl
  · rename_i idle
    simpa using idle

theorem port_transfer (a : Arch) (g : VAddr) {p : Nat} (h : p ≠ 0x11A) : port (transfer a g) p = port a p := by
  unfold transfer
  split
  · exact port_setPort_ne a 0 h
  · rfl

theorem port_slotTaken (a : Arch) (p : Nat) : port (slotTaken a) p = port a p := rfl

/-! ### The transfer of each port -/

section
variable (pre : Arch) (t : Nat) (s : State) {m : Mv}

theorem flow_jump (dst : m.dst = 0x10C) :
    flow pre t s [m] = modArch s t (fun a => transfer a (BitVec.ofNat 56 (mvValue s t pre m).toNat)) := by
  rw [flow, find_alone (by rw [dst]; decide)]
  dsimp only
  rw [if_neg (by omega), if_neg (by omega), if_neg (by omega), if_pos dst]

theorem flow_relativeJump (dst : m.dst = 0x10D) :
    flow pre t s [m] = modArch s t (fun a => transfer a
      (pre.pc + BitVec.ofInt 56 (8 * signedOf 32 (signedPort m.w 8 (mvValue s t pre m)).toNat))) := by
  rw [flow, find_alone (by rw [dst]; decide)]
  dsimp only
  rw [if_neg (by omega), if_neg (by omega), if_neg (by omega), if_neg (by omega), if_pos dst]

theorem flow_call (dst : m.dst = 0x110) :
    flow pre t s [m] = doCall s t pre (mvValue s t pre m) := by
  rw [flow, find_alone (by rw [dst]; decide)]
  dsimp only
  rw [if_neg (by omega), if_neg (by omega), if_neg (by omega), if_neg (by omega), if_neg (by omega), if_pos dst]

theorem flow_ret (dst : m.dst = 0x111) :
    flow pre t s [m] = doRet s t pre := by
  rw [flow, find_alone (by rw [dst]; decide)]
  dsimp only
  rw [if_neg (by omega), if_neg (by omega), if_neg (by omega), if_neg (by omega), if_neg (by omega), if_neg (by omega), if_pos dst]

theorem flow_rep (dst : m.dst = 0x119) :
    flow pre t s [m] = doRepeat s t pre (mvValue s t pre m) := by
  rw [flow, find_alone (by rw [dst]; decide)]
  dsimp only
  rw [if_neg (by omega), if_neg (by omega), if_neg (by omega), if_neg (by omega), if_neg (by omega), if_neg (by omega), if_neg (by omega), if_pos dst]

end

/-! ### The row of each port -/

section
variable {s : State} {t : Nat} {ms : List Mv} {m : Mv} (word : issues s t ms = true) (hm : m ∈ ms)
include word hm

/-- The row of a trigger that transfers control makes the transfer of its port. -/
theorem flowView_row (goes : transfers m.dst = true) :
    flowView (issue s t (.dst m.dst)) t = flowView (flow (thr s t).arch t (movesMade s t ms) [m]) t := by
  rw [flowView_issue word (by simpa [rowMatch] using ⟨m, hm, rfl⟩), flow_transfer word hm goes]

/-- A transfer that only a long move can make is its word's only move, and is made as soon as the word has taken its slot. -/
theorem flowView_longRow (src : m.src ≠ .port 0x152) (goes : transfers m.dst = true) (long : 0x10D < m.dst) :
    flowView (issue s t (.dst m.dst)) t = flowView (flow (thr s t).arch t (countSlot s t false) [m]) t := by
  have single : ms = [m] := by
    rcases word_form word with ⟨y, rfl⟩ | ⟨a, b, rfl, da, -, db, -, -⟩
    · rw [List.mem_singleton.1 hm]
    · rcases List.mem_pair.1 hm with rfl | rfl
      · exact absurd ((shortDst_lt da).2.2 goes) (by omega)
      · exact absurd ((shortDst_lt db).2.2 goes) (by omega)
  subst single
  rw [flowView_row word hm goes, movesMade_single_unread word goes src]

end

/-! ### Jumps -/

section
variable {s : State} {t : Fin 2048} {ms : List Mv} {m : Mv} (word : issues s t ms = true) (hm : m ∈ ms) (src : m.src ≠ .port 0x152)
include word hm src

/-- R110, R131: a jump goes to the address that it reads, and ends a repeat. -/
theorem jumpRow_goes (dst : m.dst = 0x10C) : Completes (.jmpT t) s (fun s' =>
    (thr s' t).arch.pc = BitVec.ofNat 56 (mvValue s t (thr s t).arch m).toNat ∧ (thr s' t).arch.rep.active = false) := by
  have goes : transfers m.dst = true := by rw [dst]; decide
  refine ⟨issue s t (.dst m.dst), by rw [dst]; rfl, ?_⟩
  dsimp only
  rw [arch_of_flowView (flowView_row word hm goes), flow_jump _ _ _ dst, modArch_arch, mvValue_movesMade word hm goes src]
  exact ⟨transfer_pc _ _, transfer_rep _ _⟩

/-- R110, R131: a relative jump goes as many words on as it reads, and ends a repeat. -/
theorem relativeJumpRow_goes (dst : m.dst = 0x10D) : Completes (.jmpRelT t) s (fun s' =>
    (thr s' t).arch.pc = (thr s t).arch.pc + BitVec.ofInt 56 (8 * signedOf 32 (signedPort m.w 8 (mvValue s t (thr s t).arch m)).toNat) ∧
      (thr s' t).arch.rep.active = false) := by
  have goes : transfers m.dst = true := by rw [dst]; decide
  refine ⟨issue s t (.dst m.dst), by rw [dst]; rfl, ?_⟩
  dsimp only
  rw [arch_of_flowView (flowView_row word hm goes), flow_relativeJump _ _ _ dst, modArch_arch, mvValue_movesMade word hm goes src]
  exact ⟨transfer_pc _ _, transfer_rep _ _⟩

end

/-! ### Calls -/

/-- An item of a frame as it stands in the store buffer: all of one frame have the thread's next order number (R123). -/
def frameEntry (th : Thread) (x : (Word × Bool) × Pieces) : SbEntry :=
  { id := th.nextOp, pieces := x.2, w := 16, data := lowDigits 16 x.1.1, poison := x.1.2 }

theorem enterStores_eq (l : List ((Word × Bool) × Pieces)) (th : Thread) :
    l.foldl (fun th x => enterStore th x.2 16 x.1.1 x.1.2) th =
      { th with sbuf := th.sbuf ++ l.map (frameEntry th) } := by
  induction l generalizing th with
  | nil => simp
  | cons x l ih =>
    have same : frameEntry (enterStore th x.2 16 x.1.1 x.1.2) = frameEntry th := rfl
    rw [List.foldl_cons, ih, same]
    simp [enterStore, frameEntry]

/-- R123: each item of a frame stands in the store buffer at its place. -/
theorem frameStores_buffers (s : State) (t va : Nat) (items : List (Word × Bool)) (i : Nat) (x : Word × Bool) (hx : items[i]? = some x) :
    Buffers s (frameStores s t va items) t (okPieces s t ((va + 16 * i) % 2 ^ 56) 16 3) 16 x.1 x.2 := by
  have hi : i < items.length := (List.getElem?_eq_some_iff.1 hx).1
  have place : (items.zip ((List.range items.length).map (fun i => okPieces s t ((va + 16 * i) % 2 ^ 56) 16 3)))[i]? =
      some (x, okPieces s t ((va + 16 * i) % 2 ^ 56) 16 3) := by
    rw [List.getElem?_zip_eq_some]
    exact ⟨hx, by simp [hi]⟩
  refine ⟨frameEntry (thr s t) (x, okPieces s t ((va + 16 * i) % 2 ^ 56) 16 3), ?_, rfl, Nat.le_refl _⟩
  rw [frameStores, modThr_self, enterStores_eq, touch_thr]
  exact List.mem_append_right _ (List.mem_map.2 ⟨_, List.mem_of_getElem? place, rfl⟩)

/-- The frame of a call: the return address, the mask, and the registers of the mask's groups (R122). -/
def callFrame (pre : Arch) (mask : Nat) : List (Word × Bool) :=
  (w64 (pre.pc + 8).toNat, false) :: (w64 mask, false) :: (maskRegs mask).map (fun r => (greg pre r, pre.poison.contains r))

/-- Where the frame of a mask lies below ts.ssp (R122). -/
def framePlace (pre : Arch) (mask : Nat) : Nat := ((port pre 0x1C3).toNat + 2 ^ 56 - frameDigits mask) % 2 ^ 56

/-- The discardable state that a call leaves, with its frame at `va` (R121, R125). -/
def called (pre : Arch) (va : Nat) (a : Arch) : Arch :=
  { transfer (setPort a 0x1C3 (w64 va)) (stagedTarget pre) with ras := (a.ras ++ [pre.pc + 8]).drop ((a.ras.length + 1) - 8) }

theorem called_pc (pre a : Arch) (va : Nat) : (called pre va a).pc = stagedTarget pre := transfer_pc (setPort a 0x1C3 (w64 va)) (stagedTarget pre)

theorem called_ssp (pre a : Arch) (va : Nat) : port (called pre va a) 0x1C3 = w64 va :=
  (port_transfer (setPort a 0x1C3 (w64 va)) (stagedTarget pre) (by decide)).trans (port_setPort_self _ _ _)

/-- The return address of the last call is the youngest of the return stack. -/
theorem called_ras (pre a : Arch) (va : Nat) : (called pre va a).ras.getLast? = some (pre.pc + 8) := by
  rw [called, List.drop_append_of_le_length (by omega), List.getLast?_concat]

theorem modArch_sbuf (s : State) (t : Nat) (f : Arch → Arch) : (thr (modArch s t f) t).sbuf = (thr s t).sbuf := by
  rw [modArch, modThr_self]

theorem doCall_eq (s : State) (t : Nat) (pre : Arch) (v : Word) :
    doCall s t pre v = modArch (frameStores s t (framePlace pre (v.toNat % 65536)) (callFrame pre (v.toNat % 65536))) t
      (called pre (framePlace pre (v.toNat % 65536))) := rfl

/-- R121 to R123, R125: a call goes to the staged target, with its frame below ts.ssp and its return address on the return stack. -/
theorem callRow_goes {s : State} {t : Fin 2048} {ms : List Mv} {m : Mv} (word : issues s t ms = true) (hm : m ∈ ms) (src : m.src ≠ .port 0x152)
    (dst : m.dst = 0x110) {pre : Arch} (before : (thr s t).arch = pre) {mask : Nat} (given : (mvValue s t pre m).toNat % 65536 = mask) :
    Completes (.callT t) s (fun s' =>
      (thr s' t).arch.pc = stagedTarget pre ∧ port (thr s' t).arch 0x1C3 = w64 (framePlace pre mask) ∧
        (thr s' t).arch.ras.getLast? = some (pre.pc + 8) ∧ ∀ i x, (callFrame pre mask)[i]? = some x →
          Buffers s s' t (okPieces s t ((framePlace pre mask + 16 * i) % 2 ^ 56) 16 3) 16 x.1 x.2) := by
  subst before given
  have goes : transfers m.dst = true := by rw [dst]; decide
  have view := flowView_longRow word hm src goes (by omega)
  rw [flow_call _ _ _ dst, mvValue_slot, doCall_eq] at view
  generalize framePlace (thr s t).arch ((mvValue s t (thr s t).arch m).toNat % 65536) = va at view ⊢
  have arch := arch_of_flowView view
  rw [modArch_arch] at arch
  refine ⟨issue s t (.dst m.dst), by rw [dst]; rfl, arch ▸ called_pc _ _ _, arch ▸ called_ssp _ _ _, arch ▸ called_ras _ _ _,
    fun i x hx => ?_⟩
  rw [← okPieces_view (countSlot_view s t false)]
  obtain ⟨e, he, eq, since⟩ := Buffers.since (countSlot_grows s t false) (frameStores_buffers (countSlot s t false) t va _ i x hx)
  refine ⟨e, ?_, eq, since⟩
  rw [sbuf_of_flowView view, modArch_sbuf]
  exact he

/-! ### Returns -/

theorem countSlot_frame (s : State) (t : Nat) (b : Bool) : Within (· ∈ [.threads, .cyls]) s (countSlot s t b) :=
  have : Has (· ∈ [.threads, .cyls]) .threads := has_mem (by decide)
  have : Has (· ∈ [.threads, .cyls]) .cyls := has_mem (by decide)
  countSlot_within _ _ _ (Within.refl s)

/-- What an access reads is given by memory and its marks. -/
theorem loadPieces_of_within {F : Part → Prop} {s s' : State} (w : Within F s s') (mem : ¬ F .mem) (poison : ¬ F .poison) (lost : ¬ F .dramLost)
    (ps : Pieces) : loadPieces s' ps = loadPieces s ps := by
  have hm : s'.mem = s.mem := (w.rest .mem).resolve_left mem
  have hp : s'.poison = s.poison := (w.rest .poison).resolve_left poison
  have hl : s'.dramLost = s.dramLost := (w.rest .dramLost).resolve_left lost
  simp only [loadPieces, readPieces, readDigits, readDigit, poisoned, hm, hp, hl]

theorem seenNow_countSlot (s : State) (t : Nat) (ps : Pieces) : seenNow (countSlot s t false) t ps = seenNow s t ps := by
  rw [seenNow, seenNow, (countSlot_view s t false).sbuf, loadPieces_of_within (countSlot_frame s t false) (by decide) (by decide) (by decide)]

/-- The slot leaves the mask that a return reads in its frame header. -/
theorem frameMask_countSlot (s : State) (t : Nat) : frameMask (countSlot s t false) t = frameMask s t := by
  have ssp : port (thr (countSlot s t false) t).arch 0x1C3 = port (thr s t).arch 0x1C3 := by
    rw [countSlot_arch, port_slotTaken]
  rw [frameMask, frameMask, ssp, thrAccess_view (countSlot_view s t false)]
  simp only [seenNow_countSlot]

/-- A read of 16 digits of a return's frame: its place, and what the thread's own buffered stores hold of it (R124). -/
def frameRead (s : State) (t i : Nat) : Pieces × Option (Word × Bool) :=
  let ps := okPieces s t (((port (thr s t).arch 0x1C3).toNat + 16 * i) % 2 ^ 56) 16 2
  (ps, fwdData (forward (thr s t).sbuf ps))

/-- The operation of a return: the reads of its header and of the registers of its mask (R124). -/
def frameReads (s : State) (t : Nat) : OpKind :=
  .ret [frameRead s t 0, frameRead s t 1]
    ((List.range (maskRegs (frameMask s t)).length).map (fun j => (nth 0 (maskRegs (frameMask s t)) j, frameRead s t (j + 2))))

theorem frameRead_countSlot (s : State) (t i : Nat) : frameRead (countSlot s t false) t i = frameRead s t i := by
  have ssp : port (thr (countSlot s t false) t).arch 0x1C3 = port (thr s t).arch 0x1C3 := by
    rw [countSlot_arch, port_slotTaken]
  simp only [frameRead, ssp, okPieces_view (countSlot_view s t false), (countSlot_view s t false).sbuf]

/-- What ret.t starts and leaves, on a state whose ts.ssp is that of the state before the word. -/
theorem doRet_goes {s : State} {t : Nat} {pre : Arch} (ssp : port pre 0x1C3 = port (thr s t).arch 0x1C3) :
    Flies s (doRet s t pre) t (frameReads s t) ∧ (thr (doRet s t pre) t).arch.pc = ((thr s t).arch.ras.getLast?).getD pre.pc ∧
      (thr (doRet s t pre) t).arch.ras = (thr s t).arch.ras.dropLast ∧
      port (thr (doRet s t pre) t).arch 0x1C3 = w64 (((port pre 0x1C3).toNat + frameDigits (frameMask s t)) % 2 ^ 56) := by
  have same : thr (touch s t (port pre 0x1C3).toNat (frameDigits (frameMask s t)) 2) t = thr s t := touch_thr _ _ _ _ _ _
  refine ⟨?flies, ?pc, ?ras, ?port⟩
  case flies =>
    rw [frameReads]
    simp only [frameRead, ← ssp]
    refine Flies.since (touch_grows s t _ _ _) (startOp_flies ?_)
    exact transfer_ops _ _
  all_goals
    rw [doRet, modThr_self, same]
  case pc => exact transfer_pc _ _
  case ras => exact transfer_ras _ _
  case port => exact (port_transfer _ _ (by decide)).trans (port_setPort_self _ _ _)

/-- R124 to R126: a return reads its frame, raises ts.ssp and goes where the return stack predicts. -/
theorem retRow_goes {s : State} {t : Fin 2048} {ms : List Mv} {m : Mv} (word : issues s t ms = true) (hm : m ∈ ms) (src : m.src ≠ .port 0x152)
    (dst : m.dst = 0x111) {pre : Arch} (before : (thr s t).arch = pre) :
    Completes (.retT t) s (fun s' =>
      Flies s s' t (frameReads s t) ∧ (thr s' t).arch.pc = (pre.ras.getLast?).getD pre.pc ∧ (thr s' t).arch.ras = pre.ras.dropLast ∧
        port (thr s' t).arch 0x1C3 = w64 (((port pre 0x1C3).toNat + frameDigits (frameMask s t)) % 2 ^ 56)) := by
  subst before
  have goes : transfers m.dst = true := by rw [dst]; decide
  have view := flowView_longRow word hm src goes (by omega)
  rw [flow_ret _ _ _ dst] at view
  have arch := arch_of_flowView view
  have slot : (thr (countSlot s t false) t).arch = slotTaken (thr s t).arch := countSlot_arch s t
  have stack : port (thr s t).arch 0x1C3 = port (thr (countSlot s t false) t).arch 0x1C3 := by rw [slot, port_slotTaken]
  obtain ⟨⟨o, ho, kind, since⟩, pc, ras, ssp⟩ := doRet_goes stack
  have reads : frameReads (countSlot s t false) t = frameReads s t := by
    simp only [frameReads, frameRead_countSlot, frameMask_countSlot]
  refine ⟨issue s t (.dst m.dst), by rw [dst]; rfl,
    ⟨o, by rw [arch]; exact ho, kind.trans reads, (countSlot_grows s t false).next.trans since⟩, ?_, ?_, ?_⟩
  · rw [arch, pc, slot]
    rfl
  · rw [arch, ras, slot]
    rfl
  · rw [arch, ssp, frameMask_countSlot]

/-! ### Repeats -/

/-- R127, R131: a repeat of no passes goes past its block; another begins at the next word. -/
theorem repRow_goes {s : State} {t : Fin 2048} {ms : List Mv} {m : Mv} (word : issues s t ms = true) (hm : m ∈ ms) (src : m.src ≠ .port 0x152)
    (dst : m.dst = 0x119) {pre : Arch} (before : (thr s t).arch = pre) {c len : Nat} (count : (mvValue s t pre m).toNat % 2 ^ 32 = c)
    (block : (port pre 0x118).toNat = len) :
    Completes (.repT t) s (fun s' =>
      if c = 0 then (thr s' t).arch.pc = pre.pc + BitVec.ofNat 56 (8 + 8 * len) ∧ (thr s' t).arch.rep.active = false
      else (thr s' t).arch.pc = pre.pc + 8 ∧ (thr s' t).arch.rep = { active := true, len := len, pos := 0 } ∧
        port (thr s' t).arch 0x11A = w64 (c - 1)) := by
  subst before count block
  have goes : transfers m.dst = true := by rw [dst]; decide
  refine ⟨issue s t (.dst m.dst), by rw [dst]; rfl, ?_⟩
  dsimp only
  rw [arch_of_flowView (flowView_longRow word hm src goes (by omega)), flow_rep _ _ _ dst, mvValue_slot, doRepeat, modArch_arch, countSlot_arch]
  split
  · exact ⟨transfer_pc _ _, rfl⟩
  · exact ⟨rfl, rfl, port_setPort_self _ _ _⟩

/-! ### A return whose frame arrives -/

/-- The registers that a return's frame gives, written (R124). -/
def frameLands (s : State) (regs : List (Nat × Pieces × Option (Word × Bool))) (a : Arch) : Arch :=
  (regs.map (fun r => (r.1, frameItem s r.2))).foldl (fun a v => setPoison (setG a v.1 v.2.1) v.1 v.2.2) a

theorem frameLands_cons (s : State) (r : Nat × Pieces × Option (Word × Bool)) (regs : List (Nat × Pieces × Option (Word × Bool))) (a : Arch) :
    frameLands s (r :: regs) a = frameLands s regs (setPoison (setG a r.1 (frameItem s r.2).1) r.1 (frameItem s r.2).2) := rfl

theorem frameLands_pc (s : State) (regs : List (Nat × Pieces × Option (Word × Bool))) (a : Arch) : (frameLands s regs a).pc = a.pc := by
  induction regs generalizing a with
  | nil => rfl
  | cons r regs ih => exact ih _

theorem greg_frameLands_ne (s : State) {regs : List (Nat × Pieces × Option (Word × Bool))} {i : Nat} (h : i ∉ regs.map (·.1)) (a : Arch) :
    greg (frameLands s regs a) i = greg a i := by
  induction regs generalizing a with
  | nil => rfl
  | cons r regs ih =>
    simp only [List.map_cons, List.mem_cons, not_or] at h
    rw [frameLands_cons, ih h.2]
    exact tget_tset_ne _ _ _ _ h.1

/-- Each register of a frame that names it once has what the frame gives. -/
theorem greg_frameLands (s : State) {regs : List (Nat × Pieces × Option (Word × Bool))} (once : (regs.map (·.1)).Nodup) (a : Arch) :
    ∀ r ∈ regs, greg (frameLands s regs a) r.1 = (frameItem s r.2).1 := by
  induction regs generalizing a with
  | nil => simp
  | cons q regs ih =>
    rw [List.map_cons, List.nodup_cons] at once
    intro r hr
    rw [frameLands_cons]
    rcases List.mem_cons.1 hr with rfl | later
    · rw [greg_frameLands_ne s once.1]
      exact tget_tset_self _ _ _
    · exact ih once.2 _ r later

/-- A return with its frame's registers written in every state that a discard of it would restore (R117). -/
def returned (s : State) (regs : List (Nat × Pieces × Option (Word × Bool))) (b : Branch) : Branch :=
  { b with saved := frameLands s regs b.saved, along := frameLands s regs b.along }

/-- Its thread with those registers written wherever the return is in flight. -/
def returning (s : State) (regs : List (Nat × Pieces × Option (Word × Bool))) (b : Branch) (th : Thread) : Thread :=
  let landed := landAll th (fun a => if a.ops.any (fun o => o.id == b.op) then frameLands s regs a else a)
  { landed with spec := returned s regs b :: landed.spec.drop 1 }

/-- A return in flight has its registers written in the state the thread has. -/
theorem returning_arch {s : State} {t : Nat} {b : Branch} {op : Op} (regs : List (Nat × Pieces × Option (Word × Bool)))
    (flies : (thr s t).arch.ops.find? (fun o => o.id == b.op) = some op) :
    (returning s regs b (thr s t)).arch = frameLands s regs (thr s t).arch := by
  have inFlight : (thr s t).arch.ops.any (fun o => o.id == b.op) = true :=
    List.any_eq_true.2 ⟨op, List.mem_of_find?_eq_some flies, List.find?_some (p := fun o : Op => o.id == b.op) flies⟩
  exact if_pos inFlight

section
variable {s : State} {t : Nat} {b : Branch} {rest : List Branch} {op : Op} {h : Pieces × Option (Word × Bool)}
  {hs : List (Pieces × Option (Word × Bool))} {regs : List (Nat × Pieces × Option (Word × Bool))} (spec : (thr s t).spec = b :: rest)
  (flies : (thr s t).arch.ops.find? (fun o => o.id == b.op) = some op) (kind : op.kind = .ret (h :: hs) regs)
  (oldest : oldestMem (thr s t) op.id = true)
include spec flies kind oldest

/-- R124, R125: the return is confirmed or discarded, once its registers have landed. -/
theorem resolveReturn_view : flowView (resolveReturn s t) t =
    flowOf (if b.predicted.isSome && b.guess == BitVec.ofNat 56 (frameItem s h).1.toNat then
        confirm (returning s regs b (thr s t)) (returned s regs b)
      else discard (returning s regs b (thr s t)) (returned s regs b) (BitVec.ofNat 56 (frameItem s h).1.toNat)) := by
  simp only [resolveReturn, spec, flies, kind, oldest, Bool.not_true, Bool.false_eq_true, if_false]
  split <;> rw [flowView_settle, flowView_putThr] <;> rfl

variable (once : (regs.map (·.1)).Nodup)
include once

/-- R124, R125: a return whose prediction the frame confirms. -/
theorem returnResolve_confirms (known : b.predicted.isSome = true) (right : b.guess = BitVec.ofNat 56 (frameItem s h).1.toNat) :
    (thr (resolveReturn s t) t).arch.pc = (thr s t).arch.pc ∧
      (∀ r ∈ regs, greg (thr (resolveReturn s t) t).arch r.1 = (frameItem s r.2).1) ∧
      (∀ o ∈ (thr (resolveReturn s t) t).arch.ops, o.id ≠ b.op) ∧ (thr (resolveReturn s t) t).spec.length = rest.length := by
  have view := resolveReturn_view spec flies kind oldest
  rw [if_pos (by simp [known, right])] at view
  obtain ⟨pc, g, gone, length⟩ := confirm_goes view
  have landed := returning_arch regs flies
  refine ⟨pc.trans (landed ▸ frameLands_pc s regs _), fun r hr => ?_, gone, length.trans (by simp [returning, landAll, spec])⟩
  rw [greg, g, landed]
  exact greg_frameLands s once _ r hr

/-- R124 to R126: a return that was not predicted, or wrongly, goes on at the address of its frame. -/
theorem returnResolve_discards (wrong : ¬ (b.predicted.isSome = true ∧ b.guess = BitVec.ofNat 56 (frameItem s h).1.toNat)) :
    (thr (resolveReturn s t) t).arch.pc = BitVec.ofNat 56 (frameItem s h).1.toNat ∧
      (∀ r ∈ regs, greg (thr (resolveReturn s t) t).arch r.1 = (frameItem s r.2).1) ∧ (thr (resolveReturn s t) t).spec = [] := by
  have view := resolveReturn_view spec flies kind oldest
  rw [if_neg (by simpa using wrong)] at view
  have arch : (thr (resolveReturn s t) t).arch = _ := congrArg (·.1) view
  have left : (thr (resolveReturn s t) t).spec = [] := congrArg (·.2.1) view
  rw [arch, left]
  exact ⟨rfl, fun r hr => greg_frameLands s once b.saved r hr, rfl⟩

end

end Sys2Proof.Machine
end

section
/-! SUPPORT. Where the statements on branches and transfers fail: a word that transfers control with a value from str.ld. The word uses up what str.ld
gave before its transfer is made (R65, R69), so the transfer reads 0. -/

namespace Sys2Proof.Machine

open Sys2Proof.Claims

/-! ### A transfer from str.ld -/

/-- A branch relation that a word makes on str.ld is made on 0. -/
theorem strLdBranch_cond {s : State} {t : Nat} {m : Mv} (word : issues s t [m] = true) (lo : 0x104 ≤ m.dst) (hi : m.dst ≤ 0x109)
    (src : m.src = .port 0x152) :
    ∃ b, (thr (issue s t (.dst m.dst)) t).spec.getLast? = some b ∧ b.cond = .known (cbRelation m.dst m.w (port (thr s t).arch 0x102) 0) := by
  have goes : transfers m.dst = true := by simp [transfers]; omega
  have made : flow (thr s t).arch t (movesMade s t [m]) [m] =
      doBranch (movesMade s t [m]) t (thr s t).arch (.known (cbRelation m.dst m.w (port (thr s t).arch 0x102) 0)) := by
    have value : mvValue (movesMade s t [m]) t (thr s t).arch m = 0 := by
      rw [movesMade_single word goes, mvValue_strLd_used src]
    rw [flow, find_alone goes]
    dsimp only
    rw [if_pos hi, value]
  have view := flowView_row word (List.mem_singleton_self m) goes
  rw [made] at view
  have spec := spec_of_flowView view
  rw [doBranch, modThr_self] at spec
  exact ⟨_, by rw [spec, List.getLast?_concat], rfl⟩

/-- A jump to the address that str.ld gives goes to 0. -/
theorem strLdJump_pc {s : State} {t : Nat} {m : Mv} (word : issues s t [m] = true) (dst : m.dst = 0x10C) (src : m.src = .port 0x152) :
    (thr (issue s t (.dst m.dst)) t).arch.pc = 0 := by
  have goes : transfers m.dst = true := by rw [dst]; decide
  rw [arch_of_flowView (flowView_row word (List.mem_singleton_self m) goes), flow_jump _ _ _ dst, modArch_arch, transfer_pc,
    movesMade_single word goes, mvValue_strLd_used src]
  rfl

/-! ### The branch -/

/-- A thread of partition 0 that holds a word at 0, and whose str.ld has given this digit. -/
def strLdState (word : Nat) (digit : Word) : State :=
  { State.reset with
    threads := [(0, { thrInit with part := 0, st := .ready, held := [(0, [word], false)], strData := some (digit, false) })]
    supply := { State.reset.supply with power := 1 } }

/-- `mov.1 cb.ne.t, str.ld`. -/
def strLdBranchMove : Mv := { w := 1, dst := 0x105, src := .port 0x152 }

theorem strLdBranch_issues : issues (strLdState 0x020A0152 1) 0 [strLdBranchMove] = true := by decide

/-- Refutes O6: a branch trigger whose value is read from str.ld compares cb.a with 0, because the word has used up what str.ld gave when its
branch is made. With cb.a 0 and the digit 1, cb.ne.t holds, and the branch stands as one that does not. Every branch word that does not read str.ld
is as the statement says (`branchRows_follow`), and so is the branch that resolves (`branchResolve_confirms`, `branchResolve_discards`). -/
theorem not_branches : ¬ Obligations.Branches := by
  unfold Obligations.Branches
  rintro ⟨claim, -⟩
  obtain ⟨-, ne, -⟩ := claim (strLdState 0x020A0152 1) 0 _ _ strLdBranch_issues (List.mem_singleton_self _)
  obtain ⟨s', done, -, x, b, -, last, cond, -⟩ := ne rfl
  have row : issue (strLdState 0x020A0152 1) 0 (.dst 0x105) = s' := Host.Outcome.next.inj done
  obtain ⟨b', last', cond'⟩ := strLdBranch_cond strLdBranch_issues (by decide) (by decide) rfl
  have same : b = b' := by
    rw [← row] at last
    exact Option.some.inj (last.symm.trans last')
  rw [same, cond', BranchCond.known.injEq] at cond
  exact absurd cond (by decide)

/-! ### The jump -/

/-- `mov.1 jmp.t, str.ld`. -/
def strLdJumpMove : Mv := { w := 1, dst := 0x10C, src := .port 0x152 }

theorem strLdJump_issues : issues (strLdState 0x02180152 8) 0 [strLdJumpMove] = true := by decide

/-- Refutes O7: a jump to an address read from str.ld goes to 0, because the word has used up what str.ld gave when its transfer is made. With the
digit 8 the statement has it go to 8. Every word that does not read str.ld is as the statement says (`jumpRow_goes`, `relativeJumpRow_goes`,
`callRow_goes`, `retRow_goes`, `repRow_goes`), and so is the return whose frame arrives (`returnResolve_confirms`, `returnResolve_discards`). -/
theorem not_transfersOfControl : ¬ Obligations.TransfersOfControl := by
  unfold Obligations.TransfersOfControl
  rintro ⟨claim, -⟩
  obtain ⟨jump, -⟩ := claim (strLdState 0x02180152 8) 0 _ _ strLdJump_issues (List.mem_singleton_self _)
  obtain ⟨s', done, pc, -⟩ := jump rfl
  have row : issue (strLdState 0x02180152 8) 0 (.dst 0x10C) = s' := Host.Outcome.next.inj done
  have zero := strLdJump_pc strLdJump_issues rfl rfl
  rw [show strLdJumpMove.dst = 0x10C from rfl, row] at zero
  exact absurd (zero.symm.trans pc) (by decide)

end Sys2Proof.Machine
end

section
/-! SUPPORT. Fetch groups that arrive and page-table walks that end (R132, R205, R206): what each leaves in its thread, and the entry that a walk
gives to the keyring's TLB. -/

namespace Sys2Proof.Machine

open Sys2Proof.Claims

/-! ### A report and a thread -/

/-- A thread that a report may have asked to freeze, and that may wait for fewer threads. -/
def AskedOnly (a b : Thread) : Prop := b = { a with freezeReq := b.freezeReq, yieldFor := b.yieldFor }

theorem AskedOnly.refl (a : Thread) : AskedOnly a a := rfl

theorem AskedOnly.of_eq {a b : Thread} (h : b = a) : AskedOnly a b := h ▸ AskedOnly.refl b

theorem AskedOnly.trans {a b c : Thread} (h : AskedOnly a b) (k : AskedOnly b c) : AskedOnly a c := by
  unfold AskedOnly at *
  rw [k, h]

theorem askFreeze_asked (s : State) (t : Nat) (why : Freeze) (u : Nat) : AskedOnly (thr s u) (thr (askFreeze s t why) u) := by
  unfold askFreeze
  dsimp only
  split
  · exact AskedOnly.refl _
  · by_cases hu : u = t
    · subst hu
      unfold AskedOnly
      rw [putThr_self]
    · unfold AskedOnly
      rw [putThr_ne _ _ _ _ hu]

theorem underProbe_asked (s : State) (cls ix u : Nat) : AskedOnly (thr s u) (thr (underProbe s cls ix) u) := by
  unfold underProbe
  split
  · exact List.foldlRecOn (motive := fun x => AskedOnly (thr s u) (thr x u)) _ _ (AskedOnly.refl _)
      fun x same i _ => same.trans (askFreeze_asked x _ _ u)
  · split
    · exact AskedOnly.refl _
    · split <;> exact AskedOnly.refl _

/-- R474: all that a report can do to a thread. -/
theorem report_asked (s : State) (cls ix err part detail u : Nat) : AskedOnly (thr s u) (thr (report s cls ix err part detail) u) := by
  unfold report
  extract_lets _ noted x probe
  have same : AskedOnly (thr s u) (thr noted u) := AskedOnly.of_eq rfl
  split
  · exact same
  · split
    · exact AskedOnly.of_eq (modUnit_thr _ _ _ _ _)
    · exact (AskedOnly.of_eq (modUnit_thr noted cls ix _ u)).trans (underProbe_asked _ _ _ _)

/-! ### A fetch group that arrives -/

theorem alook_aput {α : Type} (l : List (Nat × α)) (k : Nat) (v : α) : alook (aput l k v) k = some v := by
  induction l with
  | nil => simp [aput, alook]
  | cons kv l ih =>
    obtain ⟨j, w⟩ := kv
    by_cases h : j = k
    · simp [aput, alook, h]
    · rw [aput, if_neg h]
      simpa [alook, List.find?_cons, h] using ih

/-- The machine after a fetch of the line at `pa` has passed the TLB and the caches. -/
def lineFetched (s : State) (t g pa : Nat) : State := cacheFetch (if (thr s t).spec = [] then tlbUse s t g 1 else s) t (lineOf pa)

/-- The fetch groups that a thread keeps when one arrives: those of its next words (R132). -/
def heldOn (th : Thread) : List (Nat × List Nat × Bool) :=
  let g0 := th.arch.pc.toNat / 32 * 32
  th.held.filter (fun h => h.1 == g0 || h.1 == (g0 + 32) % 2 ^ 56)

/-- The thread with a fetch group at `g` from `pa` among those it holds. -/
def groupHeld (s : State) (t g pa : Nat) : Thread :=
  { thr s t with held := aput (heldOn (thr s t)) g (groupWords (lineFetched s t g pa) pa, poisoned s [(pa, 32)]) }

/-- R132: a group that translates arrives for a thread that fetches. -/
theorem fetchGroup_eq {s : State} {t : Nat} (parity : Bool) {g pa n : Nat} {ps : Pieces} (fetches : (thr s t).st = .ready ∨ (thr s t).st = .parked)
    (goes : retAwaited (thr s t) = false) (calm : (thr s t).sync = none) (sound : (thr s t).heldFault = none) (lacks : lackGroup (thr s t) = some g)
    (found : thrAccess s t g 32 1 = .ok ((pa, n) :: ps)) :
    fetchGroup s t parity = settle (if parity then
        report (putThr (lineFetched s t g pa) t (groupHeld s t g pa)) 1 (cylOf t) 4 (thr s t).part pa
      else putThr (lineFetched s t g pa) t (groupHeld s t g pa)) := by
  have running : ((thr s t).st == .ready || (thr s t).st == .parked) = true := by simpa using fetches
  unfold fetchGroup
  dsimp only
  rw [if_neg (by simp [running, goes, calm, sound]), lacks]
  dsimp only
  rw [found]
  rfl

/-- A fetch leaves memory. -/
theorem lineFetched_mem (s : State) (t g pa : Nat) : (lineFetched s t g pa).mem = s.mem := by
  have : Has (· ∈ [.cyls, .krs]) .cyls := has_mem (by decide)
  have : Has (· ∈ [.cyls, .krs]) .krs := has_mem (by decide)
  refine mem_of_within (F := (· ∈ [.cyls, .krs])) (cacheFetch_within _ _ _ (within_ite (tlbUse_within _ _ _ _ (Within.refl s)) (Within.refl s))) ?_
  decide

theorem groupWords_lineFetched (s : State) (t g pa : Nat) : groupWords (lineFetched s t g pa) pa = groupWords s pa := by
  simp only [groupWords, readDigits, readDigit, lineFetched_mem]

theorem settle_held (s : State) (t : Nat) : (thr (settle s) t).held = (thr s t).held := by
  rw [((settle_settled s).each t).eq]

theorem settle_walk (s : State) (t : Nat) : (thr (settle s) t).walk = (thr s t).walk := by
  rw [((settle_settled s).each t).eq]

/-- R132: its thread holds the group's words, and nothing else of it is changed that it issues by. -/
theorem fetchGroup_arrives {s : State} {t : Nat} (parity : Bool) {g pa n : Nat} {ps : Pieces}
    (fetches : (thr s t).st = .ready ∨ (thr s t).st = .parked) (goes : retAwaited (thr s t) = false) (calm : (thr s t).sync = none)
    (sound : (thr s t).heldFault = none) (lacks : lackGroup (thr s t) = some g) (found : thrAccess s t g 32 1 = .ok ((pa, n) :: ps)) :
    alook (thr (fetchGroup s t parity) t).held g = some (groupWords s pa, poisoned s [(pa, 32)]) ∧
      (thr (fetchGroup s t parity) t).arch = (thr s t).arch := by
  rw [fetchGroup_eq parity fetches goes calm sound lacks found, settle_arch, settle_held]
  have holds : ∀ th, AskedOnly (groupHeld s t g pa) th → alook th.held g = some (groupWords s pa, poisoned s [(pa, 32)]) ∧
      th.arch = (thr s t).arch := by
    intro th asked
    rw [asked, ← groupWords_lineFetched s t g pa]
    exact ⟨alook_aput _ _ _, rfl⟩
  have put : AskedOnly (groupHeld s t g pa) (thr (putThr (lineFetched s t g pa) t (groupHeld s t g pa)) t) := by
    unfold AskedOnly
    rw [putThr_self]
  cases parity with
  | false => exact holds _ put
  | true => exact holds _ (put.trans (report_asked _ _ _ _ _ _ _))

/-! ### A walk that ends -/

/-- A walk reads memory, the keycut, the fuses and CYL_PTROOT alone. -/
theorem walk_threads (s : State) (ths : Tab Thread) (p va : Nat) : walk { s with threads := ths } p va = walk s p va := by
  have below : ∀ lv ea, walkFrom { s with threads := ths } p va lv ea = walkFrom s p va lv ea := by
    intro lv
    induction lv with
    | zero => exact fun _ => rfl
    | succ lv ih =>
      intro ea
      simp only [walkFrom, ih]
      rfl
  simp only [walk, below]
  rfl

/-- A thread whose walk has ended. -/
def walkDone (s : State) (t : Nat) : State := modThr s t (fun th => { th with walk := none })

theorem walk_walkDone (s : State) (t p va : Nat) : walk (walkDone s t) p va = walk s p va := by
  have rest : walkDone s t = { s with threads := (walkDone s t).threads } := putThr_rest s t _
  rw [rest, walk_threads]

theorem walkDone_self (s : State) (t : Nat) : thr (walkDone s t) t = { thr s t with walk := none, yieldFor := (thr (walkDone s t) t).yieldFor } :=
  modThr_self s t _

/-- R205: a walk that finds a mapping installs its entry. -/
theorem walkEnds_ok {s : State} {t : Nat} {w : Walk} {e : TlbEntry} (waits : (thr s t).walk = some w)
    (found : walk s (thr s t).part w.va.toNat = .ok e) : walkEnds s t = settle (tlbInstall (walkDone s t) t w.acc e) := by
  have same : walk (modThr s t (fun th => { th with walk := none })) (thr s t).part w.va.toNat = .ok e := (walk_walkDone s t _ _).trans found
  simp only [walkEnds, waits, same]
  rfl

/-- R206: an installed entry is the most recently used of the keyring's TLB. -/
theorem mem_tlbInstall (s : State) (t acc : Nat) (e : TlbEntry) : e ∈ (kring (tlbInstall s t acc e) (krOf t)).tlb := by
  have tlb : (kring (tlbInstall s t acc e) (krOf t)).tlb = tlbPut 2048 (kring s (krOf t)).tlb e := by
    rw [tlbInstall, modCyl_kring, kring_modKr]
  rw [tlb, tlbPut, List.take_succ_cons]
  exact List.mem_cons_self

theorem tlbInstall_thr (s : State) (t acc : Nat) (e : TlbEntry) (u : Nat) : thr (tlbInstall s t acc e) u = thr s u := rfl

/-- R205, R206: the entry fills the keyring's TLB, and the thread goes on as it was. -/
theorem walkEnds_fills {s : State} {t : Nat} {w : Walk} {e : TlbEntry} (waits : (thr s t).walk = some w)
    (found : walk s (thr s t).part w.va.toNat = .ok e) :
    e ∈ (kring (walkEnds s t) (krOf t)).tlb ∧ (thr (walkEnds s t) t).walk = none ∧ (thr (walkEnds s t) t).arch = (thr s t).arch := by
  rw [walkEnds_ok waits found]
  refine ⟨?_, ?_, ?_⟩
  · rw [(settle_settled _).rest]
    exact mem_tlbInstall (walkDone s t) t w.acc e
  · rw [settle_walk, tlbInstall_thr, walkDone_self]
  · rw [settle_arch, tlbInstall_thr, walkDone_self]

/-- R205: a walk that finds no mapping faults the word that waits for it. -/
theorem walkEnds_fault {s : State} {t : Nat} {w : Walk} {d l : Nat} (waits : (thr s t).walk = some w)
    (unmapped : walk s (thr s t).part w.va.toNat = .error (d, l)) (held : w.waits = true) (parked : (thr s t).st = .parked) :
    walkEnds s t = xlFault (walkDone s t) t w.va.toNat d l w.acc := by
  have same : walk (modThr s t (fun th => { th with walk := none })) (thr s t).part w.va.toNat = .error (d, l) :=
    (walk_walkDone s t _ _).trans unmapped
  simp only [walkEnds, waits, same, held, parked, and_self, if_true]
  rfl

/-- R120: on no speculative path a synchronous knock is to be taken at once. -/
theorem raiseSync_self {s : State} {t : Nat} (plain : (thr s t).spec = []) (k : SyncKnock) :
    thr (raiseSync s t k) t = { thr s t with sync := some k, strData := none, yieldFor := (thr (raiseSync s t k) t).yieldFor } := by
  have self := modThr_self s t (fun th =>
    if th.spec = [] then { th with sync := some k, strData := none } else { th with heldFault := some k, strData := none })
  rw [if_pos plain] at self
  exact self

theorem finfoOf_direct (l d acc : Nat) : finfoOf l d acc false = w64 (l * 4096 + d * 256 + acc * 16) := congrArg w64 (Nat.add_zero _)

/-- R205, R209, R210: the fault names the word, the address and where the walk failed. -/
theorem walkEnds_faults {s : State} {t : Nat} {w : Walk} {d l : Nat} (waits : (thr s t).walk = some w)
    (unmapped : walk s (thr s t).part w.va.toNat = .error (d, l)) (held : w.waits = true) (parked : (thr s t).st = .parked)
    (plain : (thr s t).spec = []) :
    (thr (walkEnds s t) t).walk = none ∧ ∃ k, (thr (walkEnds s t) t).sync = some k ∧ k.cause = (if w.acc = 1 then 0x20 else 0x21) ∧
      k.epc = (thr s t).arch.pc ∧ k.fva = BitVec.ofNat 56 w.va.toNat ∧ k.finfo = w64 (l * 4096 + d * 256 + w.acc * 16) := by
  have done := walkDone_self s t
  have unbranched : (thr (walkDone s t) t).spec = [] := by rw [done]; exact plain
  rw [walkEnds_fault waits unmapped held parked, xlFault, raiseSync_self unbranched, done]
  exact ⟨rfl, _, rfl, rfl, rfl, rfl, finfoOf_direct l d w.acc⟩

/-! ### The statement -/

/-- Settles O12: a group that arrives is held (`fetchGroup_arrives`), a walk that ends fills the keyring's TLB (`walkEnds_fills`), and one that finds
no mapping raises its word's fault (`walkEnds_faults`). -/
theorem fetchesAndWalksEnd : Obligations.FetchesAndWalksEnd := by
  unfold Obligations.FetchesAndWalksEnd
  intro s t th
  refine ⟨fun g pa n ps parity fetches goes calm sound lacks found => ⟨fetchGroup s t parity, rfl, ?arrives⟩,
    fun w e waits found => ⟨walkEnds s t, rfl, ?fills⟩, fun w d l waits unmapped held parked plain => ⟨walkEnds s t, rfl, ?faults⟩⟩
  case arrives => exact fetchGroup_arrives parity fetches goes calm sound lacks found
  case fills => exact walkEnds_fills waits found
  case faults => exact walkEnds_faults waits unmapped held parked plain

end Sys2Proof.Machine
end

section
/-! SUPPORT. Concrete words, frames and walks that meet what the statements on transfers of control, fetches and walks suppose. -/

namespace Sys2Proof.Machine

open Sys2Proof.Claims

/-! ### Branches -/

/-- `mov.1 cb.eq.t, #0`. -/
def branchSelfMove : Mv := { w := 1, dst := 0x104, src := .imm 0 }

theorem branchSelf_issues : issues (oneWordState 0x02090000 archInit) 0 [branchSelfMove] = true := by decide

/-- R112: with cb.rel 0 that word branches to itself, which is predicted taken. -/
theorem branchSelf_predictsTaken : Completes (.cbEqT 0) (oneWordState 0x02090000 archInit)
    (fun s' => ∃ b, (thr s' 0).spec.getLast? = some b ∧ b.cond = .known true ∧ b.predicted = some true) := by
  obtain ⟨eq, -⟩ := branchRows_follow (t := 0) (m := branchSelfMove) branchSelf_issues (List.mem_singleton_self _) (by decide)
  obtain ⟨s', row, -, x, b, -, last, cond, predicted, -⟩ := eq rfl
  exact ⟨s', row, b, last, cond.trans (congrArg BranchCond.known (by decide)), predicted.trans (congrArg some (by decide))⟩

/-- A branch at 16, to 8, predicted taken, that `taken` decides. -/
def branchBack (taken : Bool) : Branch where
  op := 0
  cond := .known taken
  predicted := some true
  guess := 8
  saved := { archInit with pc := 24, ops := [⟨0, .branch⟩] }
  along := { archInit with pc := 8, ops := [⟨0, .branch⟩] }
  past := 0

/-- The machine after reset with that branch unresolved in thread 0. -/
def branchBackState (taken : Bool) : State :=
  { State.reset with
    threads := [(0, { thrInit with part := 0, st := .ready, arch := (branchBack taken).along, spec := [branchBack taken], nextOp := 1 })] }

/-- R115: when it is taken, the thread stays at 8. -/
theorem branchBack_taken_stays : (thr (resolveBranch (branchBackState true) 0) 0).arch.pc = 8 :=
  (branchResolve_confirms (s := branchBackState true) rfl rfl rfl).1

/-- R117: when it is not, the thread goes on at 24. -/
theorem branchBack_untaken_goesOn : (thr (resolveBranch (branchBackState false) 0) 0).arch.pc = 24 :=
  congrArg Arch.pc (branchResolve_discards (s := branchBackState false) (b := branchBack false) (taken := false) rfl rfl (by decide)).1

/-! ### Calls and returns -/

/-- A keycut of which partition 0 owns all memory. -/
def ownAll : Keycut := { State.reset.kc with sections := [(4, [])] }

/-- The machine with one word, whose thread may reach memory and has ts.ssp at #1000. -/
def stackState (w : Nat) : State := { oneWordState w (setPort archInit 0x1C3 0x1000) with kc := ownAll }

/-- `mov.4 call.t, #1`: a call that saves g0 to g3. -/
def callMove : Mv := { w := 4, dst := 0x110, src := .imm 1 }

theorem call_issues : issues (stackState 0x1A210001) 0 [callMove] = true := by decide

/-- R122: its frame takes 96 digits, the return address first. -/
theorem call_savesReturnAddress : Completes (.callT 0) (stackState 0x1A210001) (fun s' =>
    port (thr s' 0).arch 0x1C3 = 0xFA0 ∧ Buffers (stackState 0x1A210001) s' 0 [(0xFA0, 16)] 16 8 false) := by
  obtain ⟨s', row, -, ssp, -, frame⟩ := callRow_goes (t := 0) (m := callMove) (mask := 1) call_issues (List.mem_singleton_self _)
    (by decide) rfl rfl (by decide)
  have place : okPieces (stackState 0x1A210001) 0 ((framePlace (thr (stackState 0x1A210001) 0).arch 1 + 16 * 0) % 2 ^ 56) 16 3 = [(0xFA0, 16)] := by
    decide
  exact ⟨s', row, ssp.trans (by decide), place ▸ frame 0 (8, false) (by decide)⟩

/-- `mov.1 ret.t, #0`. -/
def retMove : Mv := { w := 1, dst := 0x111, src := .imm 0 }

theorem ret_issues : issues (stackState 0x02230000) 0 [retMove] = true := by decide

/-- R124: an empty frame takes 32 digits. -/
theorem ret_raisesSsp : Completes (.retT 0) (stackState 0x02230000)
    (fun s' => port (thr s' 0).arch 0x1C3 = 0x1020) := by
  obtain ⟨s', row, -, -, -, ssp⟩ := retRow_goes (t := 0) (m := retMove) ret_issues (List.mem_singleton_self _) (by decide) rfl rfl
  exact ⟨s', row, ssp.trans (by decide)⟩

/-- A return with this prediction, to 40. -/
def returnAhead (predicted : Option Bool) : Branch where
  op := 0
  cond := .ret
  predicted := predicted
  guess := 40
  saved := { archInit with pc := 40 }
  along := { archInit with pc := 40 }
  past := 0

/-- The machine after reset with that return in thread 0; its frame holds the address 40, and 7 for g4. -/
def returnAheadState (predicted : Option Bool) : State :=
  { State.reset with
    threads := [(0, { thrInit with
      part := 0, st := .ready, nextOp := 1, spec := [returnAhead predicted]
      arch := { archInit with pc := 48, ops := [⟨0, .ret [([], some (40, false))] [(4, [], some (7, false))]⟩] } })] }

/-- R125: a return that was predicted as its frame says leaves the thread where it is, with its registers. -/
theorem returnAhead_predicted_stays : (thr (resolveReturn (returnAheadState (some true)) 0) 0).arch.pc = 48 ∧
    greg (thr (resolveReturn (returnAheadState (some true)) 0) 0).arch 4 = 7 := by
  obtain ⟨pc, regs, -⟩ := returnResolve_confirms (s := returnAheadState (some true)) (t := 0) rfl rfl rfl rfl (by decide) rfl rfl
  exact ⟨pc, regs _ (List.mem_singleton_self _)⟩

/-- R126: one that was not predicted goes on at the address of its frame. -/
theorem returnAhead_unpredicted_goesOn : (thr (resolveReturn (returnAheadState none) 0) 0).arch.pc = 40 :=
  (returnResolve_discards (s := returnAheadState none) (t := 0) rfl rfl rfl rfl (by decide) (by decide)).1

/-! ### Fetches and walks -/

/-- The machine after reset with this memory, and a thread of partition 0 that is parked with this walk. -/
def walkState (mem : Tab Digit) (w : Option Walk) : State :=
  { State.reset with
    mem := mem, kc := ownAll, threads := [(0, { thrInit with part := 0, st := .parked, park := .memory, walk := w })] }

/-- R132: in flat mode the thread's first group arrives from address 0, with a parity error at the fetch too. -/
theorem firstGroup_arrives : Completes (.fetchGroupArrive 0 true) (walkState [(0, 5)] none)
    (fun s' => alook (thr s' 0).held 0 = some ([5, 0, 0, 0], false)) := by
  obtain ⟨arrives, -⟩ := fetchesAndWalksEnd (walkState [(0, 5)] none) 0
  obtain ⟨s', row, holds, -⟩ := arrives 0 0 32 [] true (.inr rfl) rfl rfl rfl rfl (by decide)
  exact ⟨s', row, holds.trans (congrArg some (by decide))⟩

/-- A page table at 0 whose level-2 entry maps the first 2 MiB to address 0, for reading and writing. -/
def onePageTable : Tab Digit := [(0, 1), (3, 2), (8192, 1), (8195, 4), (16384, 0xF)]

/-- The entry that a walk of it gives to partition 0. -/
def onePageEntry : TlbEntry := { part := 0, vbase := 0, large := true, pbase := 0, x := false, w := true, r := true }

/-- R205: a read of address #40 that waited for its walk finds that page. -/
theorem mappedWalk_fills : Completes (.pageWalkComplete 0) (walkState onePageTable (some { va := 0x40, acc := 2, waits := true }))
    (fun s' => onePageEntry ∈ (kring s' (krOf 0)).tlb) := by
  obtain ⟨-, fills, -⟩ := fetchesAndWalksEnd (walkState onePageTable (some { va := 0x40, acc := 2, waits := true })) 0
  obtain ⟨s', row, entry, -⟩ := fills _ onePageEntry rfl (by decide)
  exact ⟨s', row, entry⟩

/-- R209, R210: over empty memory the same read faults at level 4. -/
theorem unmappedWalk_faults : Completes (.pageWalkComplete 0) (walkState [] (some { va := 0x40, acc := 2, waits := true }))
    (fun s' => ∃ k, (thr s' 0).sync = some k ∧ k.cause = 0x21 ∧ k.finfo = 0x4120) := by
  obtain ⟨-, -, faults⟩ := fetchesAndWalksEnd (walkState [] (some { va := 0x40, acc := 2, waits := true })) 0
  obtain ⟨s', row, -, k, sync, cause, -, -, info⟩ := faults _ 1 4 rfl (by decide) rfl rfl rfl
  exact ⟨s', row, k, sync, cause, info⟩

end Sys2Proof.Machine
end

section
/-! SUPPORT. Words of one move, and what a thread's word leaves once its moves are made: the end of a word that transfers nowhere (R69, R128), and a
thread that waits or halts after it. -/

namespace Sys2Proof.Machine

open Sys2Proof.Claims

/-! ### A word of one move -/

theorem beside_mem {ms : List Mv} {m : Mv} (h : Beside ms m) : m ∈ ms := by
  obtain ⟨l, r, rfl, -⟩ := h
  simp

/-- R62 to R64: a move that no pair can hold is its word's only move. -/
theorem word_single {s : State} {t : Nat} {ms : List Mv} {m : Mv} (word : issues s t ms = true) (hm : m ∈ ms)
    (long : shortDst m.dst = false ∨ shortSrc m.src = false) : ms = [m] := by
  rcases word_form word with ⟨y, rfl⟩ | ⟨a, b, rfl, da, sa, db, sb, -⟩
  · rw [List.mem_singleton.1 hm]
  · rcases List.mem_pair.1 hm with rfl | rfl
    · simp [da, sa] at long
    · simp [db, sb] at long

/-! ### Threads that stay READY -/

section
variable {s : State} {t : Nat} {f : Thread → Thread} (ready : (f (thr s t)).st = .ready)
include ready

theorem thr_modThr_ready : thr (modThr s t f) t = f (thr s t) := by
  rw [modThr, putThr_ready _ _ _ (.inr ready), thr_rawThr]

theorem thr_modThr_ready_ne {u : Nat} (other : u ≠ t) : thr (modThr s t f) u = thr s u := by
  rw [modThr, putThr_ready _ _ _ (.inr ready), thr_rawThr_ne _ _ _ _ other]

end

theorem modThr_frame (s : State) (t : Nat) (f : Thread → Thread) : Within (· = .threads) s (modThr s t f) :=
  have : Has (· = .threads) .threads := ⟨rfl⟩
  modThr_within _ _ _ (Within.refl s)

/-- A part of a thread that settling does not touch. -/
theorem settle_part {β : Type} (s : State) (u : Nat) (g : Thread → β)
    (blind : ∀ th st park fence, g { th with st := st, park := park, fence := fence } = g th) : g (thr (settle s) u) = g (thr s u) :=
  (congrArg g ((settle_settled s).each u).eq).trans (blind _ _ _ _)

/-- A part of a thread that an issue slot does not touch. -/
theorem countSlot_part {β : Type} (s : State) (t : Nat) (b : Bool) (g : Thread → β)
    (blind : ∀ th l, g { slotted th b with yieldFor := l } = g th) : g (thr (countSlot s t b) t) = g (thr s t) :=
  (congrArg g (countSlot_self s t b)).trans (blind _ _)

theorem countSlot_ready (s : State) (t : Nat) (b : Bool) : (thr (countSlot s t b) t).st = .ready := by
  rw [countSlot_self]
  rfl

/-- R55, R144: another thread sees no more of an issue slot than that a yield may wait for one thread less. -/
theorem countSlot_other (s : State) (t : Nat) (b : Bool) {u : Nat} (other : u ≠ t) :
    thr (countSlot s t b) u = { thr s u with yieldFor := (thr (countSlot s t b) u).yieldFor } := by
  unfold countSlot
  extract_lets w s1 s2
  have dropped := (dropYield_only s2 t).each u
  have taken : thr s2 u = { thr s1 u with yieldFor := (thr s2 u).yieldFor } := putThr_ne _ _ _ _ other
  have same : thr s1 u = thr s u := rfl
  rw [same] at taken
  rw [dropped, taken]

theorem countSlot_otherPart {β : Type} (s : State) (t : Nat) (b : Bool) {u : Nat} (other : u ≠ t) (g : Thread → β)
    (blind : ∀ th l, g { th with yieldFor := l } = g th) : g (thr (countSlot s t b) u) = g (thr s u) :=
  (congrArg g (countSlot_other s t b other)).trans (blind _ _)

/-! ### The end of a word -/

/-- What decides the address of a thread's next word (R128). -/
def courseOf (a : Arch) : VAddr × Rep × Word := (a.pc, a.rep, port a 0x11A)

theorem advance_pc_congr {a b : Arch} (h : courseOf a = courseOf b) : (advance a).pc = (advance b).pc := by
  simp only [courseOf, Prod.mk.injEq] at h
  obtain ⟨pc, rep, count⟩ := h
  unfold advance
  rw [pc, rep, count]
  split
  · rfl
  · split
    · rfl
    · split <;> rfl

theorem courseOf_countSlot (s : State) (t : Nat) (b : Bool) : courseOf (thr (countSlot s t b) t).arch = courseOf (thr s t).arch := by
  rw [countSlot_self]
  rfl

/-- What a word that transfers nowhere does after its moves: it uses what str.ld gave, and the program counter advances. -/
def wordEnd (s : State) (t : Nat) (ms : List Mv) : State := modArch (useStr s t ms) t advance

/-- A thread of which only the discardable state and str.ld's data differ. -/
def SameButWord (a b : Thread) : Prop := b = { a with arch := b.arch, strData := b.strData }

theorem SameButWord.part {β : Type} {a b : Thread} (h : SameButWord a b) (g : Thread → β)
    (blind : ∀ th x d, g { th with arch := x, strData := d } = g th) : g b = g a :=
  (congrArg g h).trans (blind _ _ _)

/-- A word that reads str.ld leaves its thread but for str.src and the data. -/
theorem useStr_thread {s : State} {t : Nat} (ready : (thr s t).st = .ready) (ms : List Mv) :
    SameButWord (thr s t) (thr (useStr s t ms) t) ∧ courseOf (thr (useStr s t ms) t).arch = courseOf (thr s t).arch ∧
      ∀ u, u ≠ t → thr (useStr s t ms) u = thr s u := by
  unfold useStr
  split
  · exact ⟨rfl, rfl, fun _ _ => rfl⟩
  · refine ⟨?_, ?_, fun u other => thr_modThr_ready_ne (by exact ready) other⟩
    · rw [thr_modThr_ready (by exact ready)]
      rfl
    · rw [thr_modThr_ready (by exact ready)]
      exact congrArg (fun c => ((thr s t).arch.pc, (thr s t).arch.rep, c)) (port_setPort_ne _ _ (by decide))

section
variable {s : State} {t : Nat} (ready : (thr s t).st = .ready) (ms : List Mv)
include ready

theorem useStr_ready : (thr (useStr s t ms) t).st = .ready := by
  obtain ⟨same, -⟩ := useStr_thread ready ms
  exact (same.part Thread.st fun _ _ _ => rfl).trans ready

/-- R69, R128: the end of a word changes nothing else of its thread. -/
theorem wordEnd_thread : SameButWord (thr s t) (thr (wordEnd s t ms) t) := by
  obtain ⟨same, -⟩ := useStr_thread ready ms
  have next : thr (wordEnd s t ms) t = { thr (useStr s t ms) t with arch := advance (thr (useStr s t ms) t).arch } :=
    thr_modThr_ready (useStr_ready ready ms)
  rw [next, same]
  rfl

theorem wordEnd_other {u : Nat} (other : u ≠ t) : thr (wordEnd s t ms) u = thr s u := by
  obtain ⟨-, -, others⟩ := useStr_thread ready ms
  exact (thr_modThr_ready_ne (f := fun th => { th with arch := advance th.arch }) (useStr_ready ready ms) other).trans (others u other)

/-- R128: the program counter advances as it would from the state that the moves have left. -/
theorem wordEnd_pc : (thr (wordEnd s t ms) t).arch.pc = (advance (thr s t).arch).pc := by
  obtain ⟨-, course, -⟩ := useStr_thread ready ms
  rw [wordEnd, modArch_arch, advance_pc_congr course]

end

theorem useStr_frame (s : State) (t : Nat) (ms : List Mv) : Within (· = .threads) s (useStr s t ms) :=
  have : Has (· = .threads) .threads := ⟨rfl⟩
  useStr_within _ _ _ (Within.refl s)

theorem wordEnd_frame (s : State) (t : Nat) (ms : List Mv) : Within (· = .threads) s (wordEnd s t ms) :=
  have : Has (· = .threads) .threads := ⟨rfl⟩
  modThr_within _ _ (fun th => { th with arch := advance th.arch }) (useStr_frame s t ms)

/-- R65, R128: a word of one move that starts no digit unit and transfers nowhere makes its move in the slot that it has taken, and ends. -/
theorem commitWord_single {s : State} {t : Nat} {m : Mv} (unit : unitOfPort m.dst = none) (stays : transfers m.dst = false) (append : m.dst ≠ 0x1CF) :
    commitWord s t [m] = wordEnd (commitMove (thr s t).arch t (countSlot s t false) m) t [m] := by
  have noAppend : [m].any (fun m => m.dst == 0x1CF) = false := by simpa using append
  simp only [commitWord, noAppend, List.foldl_cons, List.foldl_nil, stickySet_none (ms := [m]) (by simpa using unit),
    flow_advances (ms := [m]) (by simpa using stays), applySticky, arithFault, wordEnd]

/-- A word of one move that transfers control, waits or halts does so once it has taken its slot and used what str.ld gave. -/
theorem commitWord_transfer {s : State} {t : Nat} {m : Mv} (word : issues s t [m] = true) (goes : transfers m.dst = true) :
    commitWord s t [m] = flow (thr s t).arch t (useStr (countSlot s t false) t [m]) [m] := by
  have unit : ∀ x ∈ [m], unitOfPort x.dst = none := by simpa using (transfers_low goes).2.2
  have moved := movesMade_single word goes
  simp only [movesMade, stickySet_none unit] at moved
  simp only [commitWord, stickySet_none unit, arithFault]
  rw [← moved]

end Sys2Proof.Machine
end

section
/-! SUPPORT. Words that wait, halt, yield, start a thread, discard fetch groups or fence (R133, R141 to R144, R162). -/

namespace Sys2Proof.Machine

open Sys2Proof.Claims

/-! ### Parts of the state -/

theorem thr_of_within {F : Part → Prop} {s s' : State} (w : Within F s s') (h : ¬ F .threads) (u : Nat) : thr s' u = thr s u := by
  have threads : s'.threads = s.threads := (w.rest .threads).resolve_left h
  rw [thr, thr, threads]

/-! ### Seats (R220 to R224) -/

/-- A thread's discardable state after a decision on a seat: at most eng.st and the request in flight differ (R222). -/
structure EngStOnly (a b : Arch) : Prop where
  rest : b = { a with ports := b.ports, poison := b.poison, ops := b.ops }
  port : ∀ p, p ≠ 0x302 → port b p = port a p
  poison : ∀ p, p ≠ 0x302 → (p ∈ b.poison ↔ p ∈ a.poison)
  idle : a.ops = [] → b.ops = []

theorem EngStOnly.refl (a : Arch) : EngStOnly a a := ⟨rfl, fun _ _ => rfl, fun _ _ => Iff.rfl, id⟩

theorem EngStOnly.trans {a b c : Arch} (h : EngStOnly a b) (k : EngStOnly b c) : EngStOnly a c where
  rest := by rw [k.rest, h.rest]
  port p hp := (k.port p hp).trans (h.port p hp)
  poison p hp := (k.poison p hp).trans (h.poison p hp)
  idle x := k.idle (h.idle x)

theorem engStOnly_setPort (a : Arch) (v : Word) : EngStOnly a (setPort a 0x302 v) where
  rest := rfl
  port _ hp := port_setPort_ne a v hp
  poison p hp := by simp [setPort, hp]
  idle x := x

theorem engStOnly_filter (a : Arch) (f : Op → Bool) : EngStOnly a { a with ops := a.ops.filter f } where
  rest := rfl
  port _ _ := rfl
  poison _ _ := Iff.rfl
  idle x := by simp [x]

/-- A thread after a decision on a seat. -/
structure SeatTold (a b : Thread) : Prop where
  rest : b = { a with arch := b.arch, spec := b.spec, yieldFor := b.yieldFor }
  arch : EngStOnly a.arch b.arch
  unbranched : a.spec = [] → b.spec = []

theorem SeatTold.refl (a : Thread) : SeatTold a a := ⟨rfl, EngStOnly.refl _, id⟩

theorem SeatTold.of_eq {a b : Thread} (h : b = a) : SeatTold a b := h ▸ SeatTold.refl b

theorem SeatTold.trans {a b c : Thread} (h : SeatTold a b) (k : SeatTold b c) : SeatTold a c where
  rest := by rw [k.rest, h.rest]
  arch := h.arch.trans k.arch
  unbranched x := k.unbranched (h.unbranched x)

theorem seatTold_arch (a : Thread) {x : Arch} (h : EngStOnly a.arch x) : SeatTold a { a with arch := x } := ⟨rfl, h, id⟩

theorem seatTold_yield (a : Thread) (l : List Nat) : SeatTold a { a with yieldFor := l } := ⟨rfl, EngStOnly.refl _, id⟩

theorem seatTold_landOp (a : Thread) (id : Nat) (v : Word) : SeatTold a (landOp a id (fun x => setPort x 0x302 v)) := by
  refine ⟨rfl, ?_, fun x => by simp [landOp, landAll, x]⟩
  dsimp only [landOp, landAll]
  split
  · exact (engStOnly_filter _ _).trans (engStOnly_setPort _ _)
  · exact EngStOnly.refl _

theorem SeatTold.st {a b : Thread} (h : SeatTold a b) : b.st = a.st := by rw [h.rest]

theorem putThr_told {s : State} {t : Nat} {th : Thread} (told : SeatTold (thr s t) th) (u : Nat) : SeatTold (thr s u) (thr (putThr s t th) u) := by
  by_cases hu : u = t
  · subst hu
    rw [putThr_self]
    exact told.trans (seatTold_yield _ _)
  · rw [putThr_ne _ _ _ _ hu]
    exact seatTold_yield _ _

/-- R222: a decision on a seat reaches its thread's eng.st alone. -/
theorem decideSeat_told (s : State) (t e code u : Nat) : SeatTold (thr s u) (thr (decideSeat s t e code) u) := by
  unfold decideSeat
  dsimp only
  split
  · exact putThr_told (seatTold_landOp _ _ _) u
  · exact putThr_told (seatTold_arch _ (engStOnly_setPort _ _)) u

theorem giveSeat_told (s : State) (t e u : Nat) : SeatTold (thr s u) (thr (giveSeat s t e) u) := by
  unfold giveSeat
  exact (SeatTold.of_eq (modEng_thr s e _ u)).trans (decideSeat_told _ _ _ _ _)

theorem grantSeats_told (n : Nat) (s : State) (e u : Nat) : SeatTold (thr s u) (thr (grantSeats s e n) u) := by
  induction n generalizing s with
  | zero => exact SeatTold.refl _
  | succ n ih =>
    unfold grantSeats
    extract_lets ws ps r
    clear_value ps
    have drawn : thr r.2 u = thr s u := by
      unfold r
      split <;> rfl
    clear_value r
    split
    · exact SeatTold.refl _
    · split
      · exact SeatTold.refl _
      · split
        · exact SeatTold.of_eq drawn
        · exact ((SeatTold.of_eq drawn).trans (giveSeat_told _ _ _ _)).trans (ih _)

theorem endSeats_told (s : State) (t u : Nat) : SeatTold (thr s u) (thr (endSeats s t) u) := by
  unfold endSeats
  refine List.foldlRecOn (motive := fun x => SeatTold (thr s u) (thr x u)) _ _ (SeatTold.refl _) fun x told i _ => told.trans ?_
  unfold endSeat
  split
  · exact (SeatTold.of_eq (modEng_thr x _ _ u)).trans (grantSeats_told _ _ _ _)
  · exact SeatTold.refl _

/-- R224: a withdrawn seat request reaches its thread's eng.st alone. -/
theorem withdrawSeat_told (s : State) (t u : Nat) : SeatTold (thr s u) (thr (withdrawSeat s t) u) := by
  unfold withdrawSeat
  refine List.foldlRecOn (motive := fun x => SeatTold (thr s u) (thr x u)) _ _ (SeatTold.refl _) fun x told i _ => told.trans ?_
  dsimp only
  split
  · exact (SeatTold.of_eq (modEng_thr x _ _ u)).trans (decideSeat_told _ _ _ _ _)
  · exact SeatTold.refl _

/-! ### HALT (R154, R223, R297) -/

theorem returnItem_thr (s : State) (c : Cmd) (u : Nat) : thr (returnItem s c) u = thr s u := by
  have : Has (· ∈ [.intake, .pins, .out]) .intake := has_mem (by decide)
  have : Has (· ∈ [.intake, .pins, .out]) .pins := has_mem (by decide)
  have : Has (· ∈ [.intake, .pins, .out]) .out := has_mem (by decide)
  exact thr_of_within (F := (· ∈ [.intake, .pins, .out])) (returnItem_within s c (Within.refl s)) (by decide) u

/-- R297: a thread whose items have returned to their queues has none. -/
theorem rewindItems_thread (s : State) (t : Nat) :
    thr (rewindItems s t) t = { thr s t with current := none, inbox := [], yieldFor := (thr (rewindItems s t) t).yieldFor } := by
  have items : ∀ (l : List Cmd) (x : State), thr (l.foldl returnItem x) t = thr x t := fun l x =>
    List.foldlRecOn (motive := fun y => thr y t = thr x t) l _ rfl fun y same c _ => (returnItem_thr y c t).trans same
  unfold rewindItems
  rw [items]
  exact putThr_self s t _

/-- R142, R154, R297: a thread that enters HALT has no reservation, no knock to take, and no items; it stays at its word. -/
theorem haltThr_thread (s : State) (t : Nat) : (thr (haltThr s t) t).st = .halt ∧ (thr (haltThr s t) t).resv = none ∧
    (thr (haltThr s t) t).sync = none ∧ (thr (haltThr s t) t).current = none ∧ (thr (haltThr s t) t).inbox = [] ∧
    (thr (haltThr s t) t).arch.pc = (thr s t).arch.pc := by
  unfold haltThr
  extract_lets s1
  have stopped : thr s1 t = { thr s t with
      st := .halt, resv := none, sync := none, parity := false, entering := false, direct := false, walk := none
      yieldFor := (thr s1 t).yieldFor } := modThr_self s t _
  have told := endSeats_told s1 t t
  have pc : (thr (endSeats s1 t) t).arch.pc = (thr s1 t).arch.pc := by rw [told.arch.rest]
  rw [rewindItems_thread]
  simp only [true_and]
  rw [pc, told.rest, stopped]
  simp

/-! ### WAIT (R141) -/

/-- Whether a thread could claim a source depends on the sources, their routes and its priority alone. -/
theorem anyClaim_congr {s s' : State} {t : Nat} (srcs : s'.srcs = s.srcs) (kc : s'.kc = s.kc) (pri : (thr s' t).runPri = (thr s t).runPri) :
    anyClaim s' t = anyClaim s t := by
  unfold anyClaim srcNums claimable srcRoute src
  simp only [Bool.true_or]
  rw [srcs, kc, pri]

theorem doWait_thread {s : State} {t : Nat} (ready : (thr s t).st = .ready) :
    (thr (doWait s t) t).st = (if (thr s t).inbox ≠ [] ∨ anyClaim s t = true then .ready else .wait) ∧
      (thr (doWait s t) t).arch.pc = (thr s t).arch.pc := by
  unfold doWait
  dsimp only
  split
  · exact ⟨ready, rfl⟩
  · rw [putThr_self]
    exact ⟨rfl, rfl⟩

section
variable (pre : Arch) (t : Nat) (s : State) {m : Mv}

theorem flow_wait (dst : m.dst = 0x120) : flow pre t s [m] = doWait (modArch s t advance) t := by
  rw [flow, find_alone (by rw [dst]; decide)]
  simp [dst]

theorem flow_halt (dst : m.dst = 0x121) : flow pre t s [m] = haltThr (modArch s t advance) t := by
  rw [flow, find_alone (by rw [dst]; decide)]
  simp [dst]

end

section
variable {s : State} {t : Fin 2048} {ms : List Mv} {m : Mv} (word : issues s t ms = true) (hm : m ∈ ms)
include word hm

/-- R141: a thread waits, unless it has an item in its inbox or a source to claim. -/
theorem waitRow_goes (dst : m.dst = 0x120) : Completes (.thrWaitT t) s (fun s' =>
    (thr s' t).st = (if (thr s t).inbox ≠ [] ∨ anyClaim s t = true then .ready else .wait) ∧
      (thr s' t).arch.pc = (advance (thr s t).arch).pc) := by
  obtain rfl := word_single word hm (.inl (by rw [dst]; decide))
  have slot := countSlot_ready s t false
  have same := wordEnd_thread slot [m]
  have taken : Within (· ∈ [.threads, .cyls]) s (countSlot s t false) := countSlot_frame s t false
  have ended := wordEnd_frame (countSlot s t false) t [m]
  have inbox := (same.part Thread.inbox fun _ _ _ => rfl).trans (countSlot_part s t false Thread.inbox fun _ _ => rfl)
  have claims : anyClaim (wordEnd (countSlot s t false) t [m]) t = anyClaim s t :=
    anyClaim_congr (((ended.rest .srcs).resolve_left (by decide)).trans ((taken.rest .srcs).resolve_left (by decide)))
      (((ended.rest .kc).resolve_left (by decide)).trans ((taken.rest .kc).resolve_left (by decide)))
      ((same.part Thread.runPri fun _ _ _ => rfl).trans (countSlot_part s t false Thread.runPri fun _ _ => rfl))
  obtain ⟨st, pc⟩ := doWait_thread ((same.part Thread.st fun _ _ _ => rfl).trans slot)
  rw [claims, inbox] at st
  refine ⟨issue s t (.dst 0x120), rfl, ?_⟩
  have goes : issue s t (.dst 0x120) = settle (doWait (wordEnd (countSlot s t false) t [m]) t) := by
    rw [issue_commit word (by simp [rowMatch, dst]), commitWord_transfer word (by rw [dst]; decide), flow_wait _ _ _ dst, wordEnd]
  dsimp only
  rw [goes, settle_arch, pc, wordEnd_pc slot, advance_pc_congr (courseOf_countSlot s t false)]
  refine ⟨(settle_st _ _ ?_).trans st, rfl⟩
  rw [st]
  split <;> decide

/-- R142, R154, R297: a thread halts. -/
theorem haltRow_goes (dst : m.dst = 0x121) : Completes (.thrHaltT t) s (fun s' =>
    (thr s' t).st = .halt ∧ (thr s' t).resv = none ∧ (thr s' t).current = none ∧ (thr s' t).inbox = [] ∧
      (thr s' t).arch.pc = (advance (thr s t).arch).pc) := by
  obtain rfl := word_single word hm (.inl (by rw [dst]; decide))
  obtain ⟨st, resv, -, current, inbox, pc⟩ := haltThr_thread (wordEnd (countSlot s t false) t [m]) t
  refine ⟨issue s t (.dst 0x121), rfl, ?_⟩
  have goes : issue s t (.dst 0x121) = settle (haltThr (wordEnd (countSlot s t false) t [m]) t) := by
    rw [issue_commit word (by simp [rowMatch, dst]), commitWord_transfer word (by rw [dst]; decide), flow_halt _ _ _ dst, wordEnd]
  dsimp only
  rw [goes, settle_arch, pc, wordEnd_pc (countSlot_ready s t false), advance_pc_congr (courseOf_countSlot s t false)]
  exact ⟨(settle_st _ _ (by rw [st]; decide)).trans st, (settle_part _ _ Thread.resv fun _ _ _ _ => rfl).trans resv,
    (settle_part _ _ Thread.current fun _ _ _ _ => rfl).trans current, (settle_part _ _ Thread.inbox fun _ _ _ _ => rfl).trans inbox, rfl⟩

end

/-! ### Yield, start, fetch groups (R133, R142, R144) -/

section
variable (pre : Arch) (t : Nat) (s : State) {m : Mv}

theorem commitMove_yield (dst : m.dst = 0x122) : commitMove pre t s m =
    modThr s t (fun th => { th with yieldFor := (siblings t).filter (fun u => u != t && (thr s u).st == .ready) }) := by
  simp [commitMove, dst, unitOfPort, isBlank, doYield]

theorem commitMove_start (dst : m.dst = 0x123) : commitMove pre t s m = doStart s t pre (mvValue s t pre m) := by
  simp [commitMove, dst, unitOfPort, isBlank]

theorem commitMove_ifence (dst : m.dst = 0x12C) : commitMove pre t s m = modThr s t (fun th => { th with held := [] }) := by
  simp [commitMove, dst, unitOfPort, isBlank]

theorem commitMove_fence (dst : m.dst = 0x12D) : commitMove pre t s m =
    modThr s t (fun th => { th with fence := th.fence ++ [((mvValue s t pre m).toNat % 16, th.nextOp)] }) := by
  simp [commitMove, dst, unitOfPort, isBlank]

end

/-- A word that changes its thread by one move that leaves it READY: the thread that it leaves, before the end of the word. -/
theorem issue_modThr {s : State} {t : Nat} {m : Mv} {r : Row} {f : Thread → Thread} (word : issues s t [m] = true) (row : rowMatch s t r [m] = true)
    (unit : unitOfPort m.dst = none) (plain : transfers m.dst = false) (append : m.dst ≠ 0x1CF)
    (moves : commitMove (thr s t).arch t (countSlot s t false) m = modThr (countSlot s t false) t f)
    (ready : ∀ th, (f th).st = th.st) (same : ∀ th, (f th).arch = th.arch) :
    issue s t r = settle (wordEnd (modThr (countSlot s t false) t f) t [m]) ∧
      SameButWord (f (thr (countSlot s t false) t)) (thr (wordEnd (modThr (countSlot s t false) t f) t [m]) t) ∧
      (thr (issue s t r) t).arch.pc = (advance (thr s t).arch).pc := by
  have stays : (f (thr (countSlot s t false) t)).st = .ready := (ready _).trans (countSlot_ready s t false)
  have here : thr (modThr (countSlot s t false) t f) t = f (thr (countSlot s t false) t) := thr_modThr_ready stays
  have stillReady : (thr (modThr (countSlot s t false) t f) t).st = .ready := by rw [here]; exact stays
  have goes : issue s t r = settle (wordEnd (modThr (countSlot s t false) t f) t [m]) := by
    rw [issue_commit word row, commitWord_single unit plain append, moves]
  refine ⟨goes, here ▸ wordEnd_thread stillReady [m], ?_⟩
  rw [goes, settle_arch, wordEnd_pc stillReady, here, same]
  exact advance_pc_congr (courseOf_countSlot s t false)

/-- A halted thread as thr.start.t leaves it (R142). -/
def startedThr (th : Thread) (pc : VAddr) : Thread :=
  { th with
    st := .ready, park := .no, arch := startedArch th.arch pc, held := [], prio := [], runPri := 0, frames := 0, epcs := [], exitWin := false,
    fresh := 0, fromWait := 0, parity := false, strData := none, fence := [] }

theorem startedThr_fields (th : Thread) (pc : VAddr) : (startedThr th pc).st = .ready ∧ (startedThr th pc).arch.pc = pc ∧
    (startedThr th pc).arch.ops = [] ∧ (startedThr th pc).held = [] ∧ (startedThr th pc).arch.g = th.arch.g ∧
    (startedThr th pc).arch.bits = th.arch.bits := ⟨rfl, rfl, rfl, rfl, rfl, rfl⟩

theorem doStart_starts {s : State} {t u : Nat} {pre : Arch} {v : Word} (named : u = 16 * (t / 16) + v.toNat % 256) (other : u ≠ t)
    (halted : (thr s u).st = .halt) (part : (thr s u).part = (thr s t).part) :
    thr (doStart s t pre v) u = startedThr (thr s u) (stagedTarget pre) ∧ thr (doStart s t pre v) t = thr s t := by
  subst named
  have starts : doStart s t pre v = dropActive (putThr s _ (startedThr (thr s _) (stagedTarget pre))) _ := if_pos ⟨other, halted, part⟩
  have : Has (· = .srcs) .srcs := ⟨rfl⟩
  have kept (x : State) (n w : Nat) : thr (dropActive x n) w = thr x w :=
    thr_of_within (F := (· = .srcs)) (dropActive_within x n (Within.refl x)) (by decide) w
  rw [starts, kept, kept, putThr_ready _ _ _ (.inr rfl)]
  exact ⟨thr_rawThr _ _ _, thr_rawThr_ne _ _ _ _ (Ne.symm other)⟩

section
variable {s : State} {t : Fin 2048} {ms : List Mv} {m : Mv} (word : issues s t ms = true) (hm : m ∈ ms)
include word hm

/-- R144: a thread yields to the other threads of its cylinder that are READY. -/
theorem yieldRow_goes (dst : m.dst = 0x122) : Completes (.thrYieldT t) s (fun s' =>
    (thr s' t).yieldFor = (siblings t).filter (fun u => u != t.val && (thr s u).st == .ready) ∧
      (thr s' t).arch.pc = (advance (thr s t).arch).pc) := by
  obtain rfl := word_single word hm (.inl (by rw [dst]; decide))
  obtain ⟨goes, thread, pc⟩ := issue_modThr (r := .dst 0x122) word (by simp [rowMatch, dst]) (by rw [dst]; decide) (by rw [dst]; decide)
    (by rw [dst]; decide) (commitMove_yield _ _ _ dst) (fun _ => rfl) (fun _ => rfl)
  refine ⟨issue s t (.dst 0x122), rfl, ?_, pc⟩
  rw [goes, settle_part _ _ Thread.yieldFor fun _ _ _ _ => rfl, thread.part Thread.yieldFor fun _ _ _ => rfl]
  refine List.filter_congr fun u _ => ?_
  by_cases hu : u = t.val
  · simp [hu]
  · rw [countSlot_otherPart s t false hu Thread.st fun _ _ => rfl]

/-- R142: a halted thread of the partition starts at the staged target, with its registers and bits as they were. -/
theorem startRow_goes (dst : m.dst = 0x123) {u : Nat} (named : u = 16 * (t.val / 16) + (mvValue s t (thr s t).arch m).toNat % 256)
    (other : u ≠ t.val) (halted : (thr s u).st = .halt) (part : (thr s u).part = (thr s t).part) : Completes (.thrStartT t) s (fun s' =>
      (thr s' u).st = .ready ∧ (thr s' u).arch.pc = stagedTarget (thr s t).arch ∧ (thr s' u).arch.ops = [] ∧ (thr s' u).held = [] ∧
        (thr s' u).arch.g = (thr s u).arch.g ∧ (thr s' u).arch.bits = (thr s u).arch.bits) := by
  obtain rfl := word_single word hm (.inl (by rw [dst]; decide))
  have slotPart : (thr (countSlot s t false) t).part = (thr s t).part := (countSlot_view s t false).part
  have seen := countSlot_otherPart s t false other Thread.arch fun _ _ => rfl
  obtain ⟨started, self⟩ := doStart_starts (s := countSlot s t false) (pre := (thr s t).arch) named other
    ((countSlot_otherPart s t false other Thread.st fun _ _ => rfl).trans halted)
    ((countSlot_otherPart s t false other Thread.part fun _ _ => rfl).trans (part.trans slotPart.symm))
  have there := (wordEnd_other ((congrArg Thread.st self).trans (countSlot_ready s t false)) [m] other).trans started
  obtain ⟨st, pc, ops, held, g, bits⟩ := startedThr_fields (thr (countSlot s t false) u) (stagedTarget (thr s t).arch)
  rw [← there] at st pc ops held g bits
  refine ⟨issue s t (.dst 0x123), rfl, ?_⟩
  have goes : issue s t (.dst 0x123) = settle (wordEnd (doStart (countSlot s t false) t (thr s t).arch (mvValue s t (thr s t).arch m)) t [m]) := by
    rw [issue_commit word (by simp [rowMatch, dst]), commitWord_single (by rw [dst]; decide) (by rw [dst]; decide) (by rw [dst]; decide),
      commitMove_start _ _ _ dst, mvValue_slot]
  dsimp only
  rw [goes, settle_st _ _ (by rw [st]; decide), settle_arch, settle_held, ← seen]
  exact ⟨st, pc, ops, held, g, bits⟩

/-- R133: a thread discards the fetch groups that it holds. -/
theorem ifenceRow_goes (dst : m.dst = 0x12C) : Completes (.ctlIfence t) s (fun s' =>
    (thr s' t).held = [] ∧ (thr s' t).arch.pc = (advance (thr s t).arch).pc) := by
  obtain rfl := word_single word hm (.inl (by rw [dst]; decide))
  obtain ⟨goes, thread, pc⟩ := issue_modThr (r := .dst 0x12C) word (by simp [rowMatch, dst]) (by rw [dst]; decide) (by rw [dst]; decide)
    (by rw [dst]; decide) (commitMove_ifence _ _ _ dst) (fun _ => rfl) (fun _ => rfl)
  refine ⟨issue s t (.dst 0x12C), rfl, ?_, pc⟩
  rw [goes, settle_held, thread.part Thread.held fun _ _ _ => rfl]

end

/-! ### Fences (R162) -/

/-- Whether a fence's condition holds depends on its thread's operations and stores and on the invalidations under way alone. -/
theorem fenceMet_settled {s s' : State} (h : SettledAll s s') (t : Nat) (f : Nat × Nat) : fenceMet s' t f = fenceMet s t f := by
  have inval : s'.inval = s.inval := by rw [h.rest]
  have thread := (h.each t).eq
  have fly : flyOf (thr s' t) = flyOf (thr s t) := by rw [thread]; rfl
  have sbuf : (thr s' t).sbuf = (thr s t).sbuf := by rw [thread]
  simp only [fenceMet, inval, sbuf, (h.each t).arch, fly]

/-- R162: a thread that settles forgets a fence only when it holds. -/
theorem settleThr_fence (s : State) (t u : Nat) {f : Nat × Nat} (stands : f ∈ (thr s t).fence) :
    f ∈ (thr (settleThr s u) t).fence ∨ fenceMet s t f = true := by
  by_cases other : t = u
  · subst other
    rw [or_iff_not_imp_right]
    intro unmet
    have kept : f ∈ (thr s t).fence.filter (fun f => !fenceMet s t f) := List.mem_filter.2 ⟨stands, by simpa using unmet⟩
    unfold settleThr
    extract_lets th th' s'
    have left : f ∈ th'.fence := by
      unfold th'
      split
      · exact stands
      · exact kept
    have here : thr s' t = th' := by
      unfold s'
      split
      · rename_i same
        exact same.symm
      · exact thr_rawThr _ _ _
    split
    · rw [here]; exact left
    · split
      · rw [putThr_self]; exact left
      · split
        · rw [here]; exact left
        · rw [putThr_self]; exact left
  · left
    unfold settleThr
    extract_lets th th' s'
    have here : (thr s' t).fence = (thr s t).fence := by
      unfold s'
      split
      · rfl
      · rw [thr_rawThr_ne _ _ _ _ other]
    split
    · rw [here]; exact stands
    · split
      · rw [putThr_ne _ _ _ _ other, here]; exact stands
      · split
        · rw [here]; exact stands
        · rw [putThr_ne _ _ _ _ other, here]; exact stands

theorem settle_fence (s : State) (t : Nat) {f : Nat × Nat} (stands : f ∈ (thr s t).fence) :
    f ∈ (thr (settle s) t).fence ∨ fenceMet (settle s) t f = true := by
  have each : SettledAll s (settle s) ∧ (f ∈ (thr (settle s) t).fence ∨ fenceMet s t f = true) :=
    List.foldlRecOn (motive := fun x => SettledAll s x ∧ (f ∈ (thr x t).fence ∨ fenceMet s t f = true)) _ _ ⟨SettledAll.refl s, .inl stands⟩
      fun x ⟨settled, now⟩ u _ => ⟨settled.trans (settleThr_settled x u), now.elim
        (fun stands => (settleThr_fence x t u stands).imp_right fun met => (fenceMet_settled settled t f).symm.trans met) .inr⟩
  rw [fenceMet_settled each.1]
  exact each.2

/-- R162: a fence stands until it is met. -/
theorem fenceRow_stands {s : State} {t : Fin 2048} {ms : List Mv} {m : Mv} (word : issues s t ms = true) (hm : m ∈ ms) (dst : m.dst = 0x12D)
    {k : Nat} (kind : (mvValue s t (thr s t).arch m).toNat % 16 = k) {i : Instr} (row : exec i s = .next (issue s t (.fence k))) :
    Completes i s (fun s' => ((k, (thr s t).nextOp) ∈ (thr s' t).fence ∨ fenceMet s' t (k, (thr s t).nextOp) = true) ∧
      (thr s' t).arch.pc = (advance (thr s t).arch).pc) := by
  obtain rfl := word_single word hm (.inl (by rw [dst]; decide))
  obtain ⟨goes, thread, pc⟩ := issue_modThr (r := .fence k) word (by simp [rowMatch, dst, kind]) (by rw [dst]; decide) (by rw [dst]; decide)
    (by rw [dst]; decide) (commitMove_fence _ _ _ dst) (fun _ => rfl) (fun _ => rfl)
  refine ⟨issue s t (.fence k), row, ?_, pc⟩
  rw [goes]
  refine settle_fence _ _ ?_
  rw [thread.part Thread.fence fun _ _ _ => rfl, mvValue_slot, kind, countSlot_part s t false Thread.nextOp fun _ _ => rfl]
  exact List.mem_append_right _ (List.mem_singleton_self _)

/-! ### The statement -/

/-- Settles O8: each word is its thread's only move of the kind, and what it leaves is what its row's lemma says (`waitRow_goes`, `haltRow_goes`,
`yieldRow_goes`, `startRow_goes`, `ifenceRow_goes`, `fenceRow_stands`). -/
theorem threadControlAndFences : Obligations.ThreadControlAndFences := by
  unfold Obligations.ThreadControlAndFences
  refine ⟨fun s t ms m word beside => ?_, fun s t ms m word beside dst => ?_⟩
  · have hm := beside_mem beside
    exact ⟨waitRow_goes word hm, haltRow_goes word hm, yieldRow_goes word hm, fun dst => startRow_goes word hm dst rfl, ifenceRow_goes word hm⟩
  · have stands (n : Nat) {i : Instr} (row : exec i s = .next (issue s t (.fence n))) (kind : _ = n) :=
      kind ▸ fenceRow_stands word (beside_mem beside) dst kind row
    exact ⟨stands 0 rfl, stands 1 rfl, stands 2 rfl, stands 3 rfl⟩

end Sys2Proof.Machine
end

section
/-! SUPPORT. Words that start loads, stores, store-conditionals and atomics, and the words of the streams (R69, R153, R156, R159, R175, R176). -/

namespace Sys2Proof.Machine

open Sys2Proof.Claims

/-! ### What a word that goes on leaves in its thread -/

theorem useStr_port (s : State) (t : Nat) (ms : List Mv) {p : Nat} (h : p ≠ 0x150) : port (thr (useStr s t ms) t).arch p = port (thr s t).arch p := by
  unfold useStr
  split
  · rfl
  · rw [modThr_self]
    exact port_setPort_ne _ _ h

theorem wordEnd_port (s : State) (t : Nat) (ms : List Mv) {p : Nat} (src : p ≠ 0x150) (count : p ≠ 0x11A) :
    port (thr (wordEnd s t ms) t).arch p = port (thr s t).arch p := by
  rw [wordEnd, modArch_arch, port_advance count, useStr_port s t ms src]

theorem advance_g (a : Arch) : (advance a).g = a.g := by
  unfold advance
  split
  · rfl
  · split
    · rfl
    · split <;> rfl

theorem wordEnd_greg (s : State) (t : Nat) (ms : List Mv) (i : Nat) : greg (thr (wordEnd s t ms) t).arch i = greg (thr s t).arch i := by
  have kept : (thr (useStr s t ms) t).arch.g = (thr s t).arch.g := by
    unfold useStr
    split
    · rfl
    · rw [modThr_self]
      rfl
  rw [wordEnd, modArch_arch, greg, advance_g, kept, greg]

/-! ### Accesses that start -/

section
variable (pre : Arch) (t : Nat) (s : State) {m : Mv}

/-- R153, R159, R176: a load starts on the digits of its address; one that does not reserve takes what the thread's buffered stores hold. -/
theorem commitMove_load (dst : m.dst = 0x141 ∨ m.dst = 0x142) :
    let va := (mvValue s t pre m).toNat % 2 ^ 56
    let n := (port pre 0x140).toNat / 256 % 16 + 1
    let ps := okPieces s t va n (if m.dst = 0x141 then 2 else 4)
    Flies s (commitMove pre t s m) t (.load ((port pre 0x140).toNat % 256) n (BitVec.ofNat 56 va) ps
      (if m.dst = 0x141 then fwdData (forward (thr s t).sbuf ps) else none) (m.dst == 0x142)) := by
  have unit : unitOfPort m.dst = none := by rcases dst with dst | dst <;> rw [dst] <;> decide
  unfold commitMove
  dsimp only
  rw [if_neg (by simp [unit]), if_pos dst]
  refine Flies.since (touch_grows s t ((mvValue s t pre m).toNat % 2 ^ 56) ((port pre 0x140).toNat / 256 % 16 + 1) (if m.dst = 0x141 then 2 else 4)) ?_
  rw [← touch_thr s t ((mvValue s t pre m).toNat % 2 ^ 56) ((port pre 0x140).toNat / 256 % 16 + 1) (if m.dst = 0x141 then 2 else 4) t]
  exact startOp_flies rfl

theorem commitMove_st (dst : m.dst = 0x145) : commitMove pre t s m =
    oneStore s t ((mvValue s t pre m).toNat % 2 ^ 56) pre.stW (port pre 0x144) (pre.poison.contains 0x144) := by
  simp [commitMove, dst, unitOfPort]

theorem commitMove_strSt (dst : m.dst = 0x153) : commitMove pre t s m =
    modArch (oneStore s t (port pre 0x151).toNat m.w (mvValue s t pre m) false) t
      (fun a => setPort a 0x151 (w64 (((port pre 0x151).toNat + m.w) % 2 ^ 56))) := by
  simp [commitMove, dst, unitOfPort]

/-- R153: a store-conditional starts on the digits of its address. -/
theorem commitMove_stc (dst : m.dst = 0x146) :
    Flies s (commitMove pre t s m) t (.stc pre.stW (okPieces s t ((mvValue s t pre m).toNat % 2 ^ 56) pre.stW 4) (lowDigits pre.stW (port pre 0x144))
      (pre.poison.contains 0x144)) := by
  unfold commitMove
  dsimp only
  rw [if_neg (by rw [dst]; decide), if_neg (by omega), if_neg (by omega), if_pos dst]
  exact Flies.since (touch_grows s t _ _ _) (startOp_flies rfl)

/-- R156: an atomic starts on the digits of its address. -/
theorem commitMove_atomic (dst : m.dst = 0x14A ∨ m.dst = 0x14B ∨ m.dst = 0x14C) :
    Flies s (commitMove pre t s m) t (.atomic (m.dst - 0x14A) pre.atW (okPieces s t ((mvValue s t pre m).toNat % 2 ^ 56) pre.atW 4)
      (lowDigits pre.atW (port pre 0x148)) (lowDigits pre.atW (port pre 0x149))) := by
  have unit : unitOfPort m.dst = none := by rcases dst with dst | dst | dst <;> rw [dst] <;> decide
  unfold commitMove
  dsimp only
  rw [if_neg (by simp [unit]), if_neg (by omega), if_neg (by omega), if_neg (by omega), if_pos dst]
  exact Flies.since (touch_grows s t _ _ _) (startOp_flies rfl)

end

section
variable {s : State} {t : Nat} {ms : List Mv} {m : Mv} (word : issues s t ms = true) (hm : m ∈ ms)
include word hm

/-- An operation that a memory access starts in every state of the same view is in flight after the access's row. -/
theorem accessRow_flies {p : Nat} {k : OpKind} (dst : m.dst = p) (mem : memTrigger p = true) (stays : transfers p = false)
    (starts : ∀ s1, mvValue s1 t (thr s t).arch m = mvValue s t (thr s t).arch m → SameView t s s1 →
      Flies s1 (commitMove (thr s t).arch t s1 m) t k) : Flies s (issue s t (.dst p)) t k := by
  subst dst
  rw [issue_commit word (by simpa [rowMatch] using ⟨m, hm, rfl⟩)]
  exact word_flies word hm (by simp [stays]) fun s1 value view => starts s1 value (view mem)

/-- A store that a memory access enters in every state of the same view stands in the store buffer after the access's row. -/
theorem accessRow_buffers {p : Nat} {ps : Pieces} {w : Nat} {d : Word} {bad : Bool} (dst : m.dst = p) (mem : memTrigger p = true)
    (stays : transfers p = false)
    (enters : ∀ s1, mvValue s1 t (thr s t).arch m = mvValue s t (thr s t).arch m → SameView t s s1 →
      Buffers s1 (commitMove (thr s t).arch t s1 m) t ps w d bad) : Buffers s (issue s t (.dst p)) t ps w d bad := by
  subst dst
  rw [issue_commit word (by simpa [rowMatch] using ⟨m, hm, rfl⟩)]
  exact word_buffers word hm (by simp [stays]) fun s1 value view => enters s1 value (view mem)

variable {pre : Arch} (before : (thr s t).arch = pre) {va n r : Nat} (addr : (mvValue s t pre m).toNat % 2 ^ 56 = va)
include before addr

theorem loadRow_starts (width : (port pre 0x140).toNat / 256 % 16 + 1 = n) (reg : (port pre 0x140).toNat % 256 = r) (dst : m.dst = 0x141) :
    Flies s (issue s t (.dst 0x141)) t (.load r n (BitVec.ofNat 56 va) (okPieces s t va n 2)
      (fwdData (forward (thr s t).sbuf (okPieces s t va n 2))) false) := by
  subst before addr width reg
  refine accessRow_flies word hm dst (by decide) (by decide) fun s1 value view => ?_
  have starts := commitMove_load (thr s t).arch t s1 (.inl dst)
  have plain : (m.dst == 0x142) = false := by rw [dst]; decide
  dsimp only at starts
  rw [plain, if_pos dst, if_pos dst, value, okPieces_view view, view.sbuf] at starts
  exact starts

theorem reserveRow_starts (width : (port pre 0x140).toNat / 256 % 16 + 1 = n) (reg : (port pre 0x140).toNat % 256 = r) (dst : m.dst = 0x142) :
    Flies s (issue s t (.dst 0x142)) t (.load r n (BitVec.ofNat 56 va) (okPieces s t va n 4) none true) := by
  subst before addr width reg
  refine accessRow_flies word hm dst (by decide) (by decide) fun s1 value view => ?_
  have starts := commitMove_load (thr s t).arch t s1 (.inr dst)
  have reserves : (m.dst == 0x142) = true := by rw [dst]; decide
  have other : m.dst ≠ 0x141 := by rw [dst]; decide
  dsimp only at starts
  rw [reserves, if_neg other, if_neg other, value, okPieces_view view] at starts
  exact starts

theorem storeRow_buffers (dst : m.dst = 0x145) :
    Buffers s (issue s t (.dst 0x145)) t (okPieces s t va pre.stW 3) pre.stW (port pre 0x144) (pre.poison.contains 0x144) := by
  subst before addr
  refine accessRow_buffers word hm dst (by decide) (by decide) fun s1 value view => ?_
  rw [commitMove_st _ _ _ dst, value, ← okPieces_view view]
  exact oneStore_buffers _ _ _ _ _ _

theorem stcRow_starts (dst : m.dst = 0x146) :
    Flies s (issue s t (.dst 0x146)) t (.stc pre.stW (okPieces s t va pre.stW 4) (lowDigits pre.stW (port pre 0x144)) (pre.poison.contains 0x144)) := by
  subst before addr
  refine accessRow_flies word hm dst (by decide) (by decide) fun s1 value view => ?_
  rw [← value, ← okPieces_view view]
  exact commitMove_stc _ _ _ dst

theorem atomicRow_starts {p : Nat} (kind : p = 0x14A ∨ p = 0x14B ∨ p = 0x14C) (dst : m.dst = p) :
    Flies s (issue s t (.dst p)) t (.atomic (p - 0x14A) pre.atW (okPieces s t va pre.atW 4) (lowDigits pre.atW (port pre 0x148))
      (lowDigits pre.atW (port pre 0x149))) := by
  subst before addr
  refine accessRow_flies word hm dst (by rcases kind with rfl | rfl | rfl <;> decide) (by rcases kind with rfl | rfl | rfl <;> decide)
    fun s1 value view => ?_
  subst dst
  rw [← value, ← okPieces_view view]
  exact commitMove_atomic _ _ _ kind

end

/-! ### str.st (R69) -/

theorem strStRow_buffers {s : State} {t : Nat} {ms : List Mv} {m : Mv} (word : issues s t ms = true) (hm : m ∈ ms) (dst : m.dst = 0x153) :
    Buffers s (issue s t (.dst 0x153)) t (okPieces s t (port (thr s t).arch 0x151).toNat m.w 3) m.w (mvValue s t (thr s t).arch m) false := by
  refine accessRow_buffers word hm dst (by decide) (by decide) fun s1 value view => ?_
  rw [commitMove_strSt _ _ _ dst, value, ← okPieces_view view]
  exact Buffers.grows (oneStore_buffers _ _ _ _ _ _) (modArch_grows fun _ => rfl)

/-- A move to str.st advances str.dst. -/
theorem strStRow_advances {s : State} {t : Nat} {m : Mv} (word : issues s t [m] = true) (dst : m.dst = 0x153) :
    port (thr (issue s t (.dst 0x153)) t).arch 0x151 = w64 (((port (thr s t).arch 0x151).toNat + m.w) % 2 ^ 56) := by
  rw [issue_commit word (by simp [rowMatch, dst]), settle_arch,
    commitWord_single (by rw [dst]; decide) (by rw [dst]; decide) (by rw [dst]; decide), wordEnd_port _ _ _ (by decide) (by decide),
    commitMove_strSt _ _ _ dst, modArch_arch, port_setPort_self]

/-! ### str.ld: the load (R69) -/

/-- The thread with the load of a str.ld under way, for which its word waits. -/
def strLoading (s : State) (t w : Nat) (ps : Pieces) : State :=
  modThr (touch s t (port (thr s t).arch 0x150).toNat w 2) t
    (fun th => { startOp th (.strLoad w ps (fwdData (forward th.sbuf ps))) with st := .parked, park := .source })

/-- The digits that a word's next access translates to. -/
def accessPieces (s : State) (t : Nat) (ms : List Mv) : Pieces := (accessOf s t ms).elim [] (fun x => (accOk x.2).getD [])

/-- What a word that executes is: the next word of its thread, sound, with its guard true. -/
theorem executes_word {s : State} {t : Nat} {ms : List Mv} (word : executes s t ms = true) : ∃ w, curWord (thr s t) = some (w, false) ∧
    movesOf (decodeWord w) = ms ∧ encFault s t (decodeWord w) = none ∧ (guardOf (thr s t) (decodeWord w)).2 = true := by
  simp only [executes, Bool.and_eq_true] at word
  obtain ⟨⟨⟨-, held⟩, -⟩, -⟩ := word
  split at held
  · rename_i w next
    simp only [Bool.and_eq_true, Option.isNone_iff_eq_none, decide_eq_true_eq] at held
    obtain ⟨⟨⟨⟨moves, sound⟩, guard⟩, -⟩, -⟩ := held
    exact ⟨w, next, moves, sound, guard⟩
  · simp at held

/-- A word that executes is made, at an issue decision of its row. -/
theorem issue_execute {s : State} {t : Nat} {ms : List Mv} {r : Row} (word : executes s t ms = true) (row : rowMatch s t r ms = true) :
    issue s t r = settle (executeWord s t ms) := by
  obtain ⟨w, next, moves, sound, guard⟩ := executes_word word
  simp only [executes, next, Bool.and_eq_true, Bool.not_eq_true', Option.isNone_iff_eq_none, beq_iff_eq, decide_eq_true_eq] at word
  obtain ⟨⟨⟨⟨⟨⟨⟨⟨run, issuing⟩, ready⟩, free⟩, first⟩, unstalled⟩, ⟨-, clean⟩, value⟩, -⟩, -⟩ := word
  subst moves
  unfold issue issueRaw
  dsimp only
  rw [if_neg (by simp [run, issuing, ready, free, first]), next]
  dsimp only
  rw [unstalled]
  dsimp only
  rw [if_neg (by simp), sound]
  dsimp only
  rw [if_neg (by rw [clean]; simp), if_neg (by simp [guard]), value]
  dsimp only
  rw [if_pos row]

/-- R69: a read of str.ld without data starts the load at str.src. -/
theorem issue_strLoad {s : State} {t : Nat} {m : Mv} (word : executes s t [m] = true) (src : m.src = .port 0x152) (empty : (thr s t).strData = none) :
    issue s t (.src 0x152) = settle (strLoading s t m.w (accessPieces s t [m])) := by
  have reads : [m].find? (fun m => m.src == .port 0x152 && (thr s t).strData.isNone) = some m := by simp [src, empty]
  have next : nextAccess s t [m] = some ((port (thr s t).arch 0x150).toNat, m.w, 2) := by
    unfold nextAccess
    dsimp only
    rw [reads]
  rw [issue_execute word (by simp [rowMatch, src])]
  simp only [executes, Bool.and_eq_true, Bool.not_eq_true'] at word
  obtain ⟨⟨-, access⟩, sound⟩ := word
  unfold executeWord accessPieces strLoading
  split at access
  · rename_i none_
    unfold accessOf at none_
    rw [next] at none_
    dsimp only at none_
    split at none_
    · split at none_ <;> simp at none_
    · simp at none_
  · rename_i acc ps ok
    rw [ok]
    dsimp only
    rw [if_neg (by simp [sound]), reads]
    rfl
  · simp at access

/-! ### A thread that waits for its str.ld -/

theorem curWord_congr {a b : Thread} (pc : b.arch.pc = a.arch.pc) (held : b.held = a.held) : curWord b = curWord a := by
  unfold curWord
  rw [pc, held]

theorem guardOf_congr {a b : Thread} (bits : b.arch.bits = a.arch.bits) (f : WordForm) : (guardOf b f).2 = (guardOf a f).2 := by
  unfold guardOf tbit
  rw [bits]
  split <;> rfl

/-- A word's encoding faults depend on the blank's image and the thread's partition alone. -/
theorem encFault_congr {s s' : State} {t : Nat} (krs : s'.krs = s.krs) (part : (thr s' t).part = (thr s t).part) (f : WordForm) :
    encFault s' t f = encFault s t f := by
  have info : portInfo s' t = portInfo s t := by
    funext p
    unfold portInfo blankInfo kring
    rw [krs, part]
  have dir : portDir s' t = portDir s t := by
    funext p
    simp only [portDir, info]
  have trigger : isTrigger s' t = isTrigger s t := by
    funext p
    simp only [isTrigger, info]
  simp only [encFault, info, dir, trigger]

/-- R67, R69: a word waits for a str.ld that is under way. -/
theorem strLoad_stalls {s : State} {t : Nat} {w : Nat} (next : curWord (thr s t) = some (w, false)) (sound : encFault s t (decodeWord w) = none)
    (guard : (guardOf (thr s t) (decodeWord w)).2 = true) {o : Op} (flies : o ∈ (thr s t).arch.ops) {n : Nat} {ps : Pieces}
    {fwd : Option (Word × Bool)} (kind : o.kind = .strLoad n ps fwd) : (stall s t).isSome = true := by
  have waits : (thr s t).arch.ops.any (fun o => match o.kind with | .strLoad _ _ _ => true | _ => false) = true :=
    List.any_eq_true.2 ⟨o, flies, by rw [kind]⟩
  have held : (Park.source, true) ∈ causes s t := by
    unfold causes
    dsimp only
    rw [next]
    refine List.mem_append_right _ (List.mem_append_right _ ?_)
    rw [if_neg (by simp)]
    refine List.mem_cons_of_mem _ ?_
    rw [sound, if_neg (by simp)]
    split
    · exact List.mem_singleton_self _
    · rw [if_neg (by simp [guard])]
      exact List.mem_of_getElem? (i := 15) (congrArg (fun b => some (Park.source, b)) waits)
  unfold stall
  rw [Option.isSome_map]
  exact List.find?_isSome.2 ⟨_, held, rfl⟩

/-- A parked thread that is held in every settled state stays parked. -/
theorem settleThr_parked {s : State} {t : Nat} (u : Nat) (parked : (thr s t).st = .parked)
    (held : ∀ x, SettledAll s x → (stall x t).isSome = true) : (thr (settleThr s u) t).st = .parked := by
  refine (((settleThr_settled s u).each t).parked parked).resolve_right fun ready => ?_
  have changed := ready
  unfold settleThr at changed
  extract_lets th th' s' at changed
  have settled : SettledAll s s' := by
    unfold s'
    split
    · exact SettledAll.refl s
    · refine rawThr_settled s u th' ?_
      unfold th'
      split
      · exact Settled.refl _
      · exact ⟨rfl, fun _ => ⟨rfl, rfl⟩, .inl, fun f x => (List.mem_filter.1 x).1⟩
  have here : (thr s' t).st = .parked := by
    unfold s'
    split
    · exact parked
    · by_cases other : t = u
      · subst other
        rw [thr_rawThr]
        unfold th'
        split <;> exact parked
      · rw [thr_rawThr_ne _ _ _ _ other]
        exact parked
  split at changed
  · rw [here] at changed
    exact absurd changed (by decide)
  · split at changed
    · rename_i free
      by_cases other : t = u
      · subst other
        simpa [free] using held s' settled
      · rw [putThr_ne _ _ _ _ other, here] at changed
        exact absurd changed (by decide)
    · split at changed
      · rw [here] at changed
        exact absurd changed (by decide)
      · by_cases other : t = u
        · subst other
          rw [putThr_self] at changed
          have still : th'.st = .parked := by
            unfold th'
            split <;> exact parked
          exact absurd (still.symm.trans changed) (by decide)
        · rw [putThr_ne _ _ _ _ other, here] at changed
          exact absurd changed (by decide)

theorem settle_parked {s : State} {t : Nat} (parked : (thr s t).st = .parked) (held : ∀ x, SettledAll s x → (stall x t).isSome = true) :
    (thr (settle s) t).st = .parked := by
  have each : SettledAll s (settle s) ∧ (thr (settle s) t).st = .parked :=
    List.foldlRecOn (motive := fun x => SettledAll s x ∧ (thr x t).st = .parked) _ _ ⟨SettledAll.refl s, parked⟩
      fun x ⟨settled, now⟩ u _ => ⟨settled.trans (settleThr_settled x u), settleThr_parked u now fun y h => held y (settled.trans h)⟩
  exact each.2

theorem krs_of_within {F : Part → Prop} {s s' : State} (w : Within F s s') (h : ¬ F .krs) : s'.krs = s.krs := (w.rest .krs).resolve_left h

/-- The thread of a str.ld whose load is under way. -/
theorem strLoading_thread (s : State) (t w : Nat) (ps : Pieces) : thr (strLoading s t w ps) t =
    { startOp (thr s t) (.strLoad w ps (fwdData (forward (thr s t).sbuf ps))) with
      st := .parked
      park := .source
      yieldFor := (thr (strLoading s t w ps) t).yieldFor } := by
  have made := modThr_self (touch s t (port (thr s t).arch 0x150).toNat w 2) t
    (fun th => { startOp th (.strLoad w ps (fwdData (forward th.sbuf ps))) with st := .parked, park := .source })
  rw [touch_thr] at made
  exact made

theorem strLoading_krs (s : State) (t w : Nat) (ps : Pieces) : (strLoading s t w ps).krs = s.krs := by
  have : Has (fun p => p = .threads ∨ p = .cyls) .threads := ⟨.inl rfl⟩
  have : Has (fun p => p = .threads ∨ p = .cyls) .cyls := ⟨.inr rfl⟩
  exact krs_of_within (F := fun p => p = .threads ∨ p = .cyls) (modThr_within _ _ _ (touch_within _ _ _ _ _ (Within.refl s))) (by simp)

theorem strLoading_flies (s : State) (t w : Nat) (ps : Pieces) :
    Flies s (strLoading s t w ps) t (.strLoad w ps (fwdData (forward (thr s t).sbuf ps))) := by
  refine ⟨{ id := (thr s t).nextOp, kind := .strLoad w ps (fwdData (forward (thr s t).sbuf ps)) }, ?_, rfl, Nat.le_refl _⟩
  rw [strLoading_thread]
  simp [startOp]

/-- The thread's word waits for the load in every state that settling can leave. -/
theorem strLoading_stalls {s : State} {t n : Nat} {ms : List Mv} {ps : Pieces} (word : executes s t ms = true) {x : State}
    (settled : SettledAll (strLoading s t n ps) x) : (stall x t).isSome = true := by
  obtain ⟨w, next, -, sound, guard⟩ := executes_word word
  have th := (settled.each t).eq
  have loading := strLoading_thread s t n ps
  have krs : x.krs = s.krs := by rw [settled.rest, strLoading_krs]
  obtain ⟨o, flies, kind, -⟩ := strLoading_flies s t n ps
  rw [loading] at th
  refine strLoad_stalls (w := w) ?_ ?_ ?_ (o := o) ?_ kind
  · rw [← next]
    exact curWord_congr (by rw [th]; rfl) (by rw [th]; rfl)
  · rw [← sound]
    exact encFault_congr krs (by rw [th]; rfl) _
  · rw [← guard]
    exact guardOf_congr (by rw [th]; rfl) _
  · rw [(settled.each t).arch]
    exact flies

/-- R69: a read of str.ld without data starts a load at str.src, and its word waits. -/
theorem strLdRow_loads {s : State} {t : Nat} {m : Mv} (word : executes s t [m] = true) (src : m.src = .port 0x152) (empty : (thr s t).strData = none)
    (ps : Pieces) (digits : accessPieces s t [m] = ps) :
    Flies s (issue s t (.src 0x152)) t (.strLoad m.w ps (fwdData (forward (thr s t).sbuf ps))) ∧
      (thr (issue s t (.src 0x152)) t).st = .parked ∧ (thr (issue s t (.src 0x152)) t).arch.pc = (thr s t).arch.pc := by
  subst digits
  rw [issue_strLoad word src empty]
  refine ⟨Flies.grows (strLoading_flies s t m.w _) (Grows.refl t _).settle, ?_, ?_⟩
  · refine settle_parked ?_ fun x => strLoading_stalls word
    rw [strLoading_thread]
  · rw [settle_arch, strLoading_thread]
    rfl

/-! ### str.ld: the word with the data (R69) -/

theorem onlyHolds_greg (s : State) (t : Nat) {p : Nat} (low : p < 64) : OnlyHolds s t p where
  acts := by
    by_contra acts
    have := actsAt_place (by simpa using acts)
    omega
  bit := by omega
  blank := by simp [isBlank]; omega
  trigger := by simp [isTrigger, portInfo, low]

theorem quiet_greg (s : State) (t : Nat) {p : Nat} (low : p < 64) : unitOfPort p = none ∧ transfers p = false := by
  have acts := (onlyHolds_greg s t low).acts
  simp only [actsAt, Bool.or_eq_false_iff, Option.isSome_eq_false_iff, Option.isNone_iff_eq_none] at acts
  obtain ⟨⟨⟨⟨unit, -⟩, stays⟩, -⟩, -⟩ := acts
  exact ⟨unit, stays⟩

/-- R58: a move to g0 to g63 writes the register. -/
theorem commitMove_greg {m : Mv} (low : m.dst < 64) (pre : Arch) (t : Nat) (s : State) :
    commitMove pre t s m = modArch s t (fun a => setG a m.dst (mvValue s t pre m)) := by
  rw [commitMove_onlyHolds (onlyHolds_greg s t low)]
  simp only [writePort, low, if_true]

theorem mvValue_strLd {s : State} {t : Nat} {m : Mv} {w : Word} {bad : Bool} (src : m.src = .port 0x152) (data : (thr s t).strData = some (w, bad)) (a : Arch) :
    mvValue s t a m = lowDigits m.w w := by
  simp [mvValue, src, portValue, data]

theorem useStr_uses {s : State} {t : Nat} {m : Mv} (src : m.src = .port 0x152) : (thr (useStr s t [m]) t).strData = none ∧
    port (thr (useStr s t [m]) t).arch 0x150 = w64 (((port (thr s t).arch 0x150).toNat + m.w) % 2 ^ 56) := by
  have found : [m].find? (fun m => m.src == .port 0x152) = some m := by simp [src]
  unfold useStr
  rw [found, modThr_self]
  exact ⟨rfl, port_setPort_self _ _ _⟩

/-- A word that reads str.ld into a register ends: the register holds the digits, str.src advances, and the data are used up. -/
theorem strLd_ends {s : State} {t : Nat} {m : Mv} {v : Word} (ready : (thr s t).st = .ready) (src : m.src = .port 0x152)
    {s' : State} (ends : s' = wordEnd (modArch s t (fun a => setG a m.dst v)) t [m]) :
    greg (thr s' t).arch m.dst = v ∧ port (thr s' t).arch 0x150 = w64 (((port (thr s t).arch 0x150).toNat + m.w) % 2 ^ 56) ∧
      (thr s' t).strData = none ∧ (thr s' t).arch.pc = (advance (thr s t).arch).pc := by
  have arch := modArch_arch s t (fun a => setG a m.dst v)
  have stays : (thr (modArch s t (fun a => setG a m.dst v)) t).st = .ready := by
    rw [modArch, modThr_self]
    exact ready
  generalize modArch s t (fun a => setG a m.dst v) = x at ends arch stays
  obtain ⟨used, moved⟩ := useStr_uses (s := x) (t := t) src
  subst ends
  refine ⟨?_, ?_, ?_, ?_⟩
  · rw [wordEnd_greg, arch]
    exact tget_tset_self _ _ _
  · rw [wordEnd, modArch_arch, port_advance (by decide), moved, arch]
    rfl
  · rw [wordEnd, modArch, modThr_self]
    exact used
  · rw [wordEnd_pc stays, arch]
    exact advance_pc_congr rfl

/-- R69: once the data are there the word issues with them, and str.src advances. -/
theorem strLdRow_reads {s : State} {t : Nat} {m : Mv} {w : Word} (word : issues s t [m] = true) (src : m.src = .port 0x152)
    (data : (thr s t).strData = some (w, false)) (low : m.dst < 64) :
    greg (thr (issue s t (.src 0x152)) t).arch m.dst = lowDigits m.w w ∧
      port (thr (issue s t (.src 0x152)) t).arch 0x150 = w64 (((port (thr s t).arch 0x150).toNat + m.w) % 2 ^ 56) ∧
      (thr (issue s t (.src 0x152)) t).strData = none ∧ (thr (issue s t (.src 0x152)) t).arch.pc = (advance (thr s t).arch).pc := by
  obtain ⟨unit, stays⟩ := quiet_greg s t low
  have made := commitMove_greg low (thr s t).arch t (countSlot s t false)
  rw [mvValue_slot, mvValue_strLd src data] at made
  have ends := commitWord_single (s := s) (t := t) unit stays (by omega)
  rw [made] at ends
  obtain ⟨reads, moved, used, next⟩ := strLd_ends (countSlot_ready s t false) src ends
  rw [issue_commit word (by simp [rowMatch, src]), settle_arch, settle_part _ t Thread.strData fun _ _ _ _ => rfl, next,
    advance_pc_congr (courseOf_countSlot s t false)]
  rw [countSlot_part s t false (fun th => port th.arch 0x150) fun _ _ => rfl] at moved
  exact ⟨reads, moved, used, rfl⟩

/-- Settles O9: a word's row makes its moves on the state that the slot has left, and the digits, the stored bytes and the operands are as in the state
before it; a str.ld without data parks its thread until the load lands. -/
theorem accessesAndStreamsStart : Obligations.AccessesAndStreamsStart := by
  unfold Obligations.AccessesAndStreamsStart
  refine ⟨fun s t ms m word hm => ?_, fun s t => ⟨fun m word src empty => ?_, fun m w word src data low => ?_, fun ms m word hm dst => ?_⟩⟩
  · exact ⟨fun dst => ⟨_, rfl, loadRow_starts word hm rfl rfl rfl rfl dst⟩, fun dst => ⟨_, rfl, reserveRow_starts word hm rfl rfl rfl rfl dst⟩,
      fun dst => ⟨_, rfl, storeRow_buffers word hm rfl rfl dst⟩, fun dst => ⟨_, rfl, stcRow_starts word hm rfl rfl dst⟩,
      fun dst => ⟨_, rfl, atomicRow_starts word hm rfl rfl (.inl rfl) dst⟩,
      fun dst => ⟨_, rfl, atomicRow_starts word hm rfl rfl (.inr (.inl rfl)) dst⟩,
      fun dst => ⟨_, rfl, atomicRow_starts word hm rfl rfl (.inr (.inr rfl)) dst⟩⟩
  · exact ⟨_, rfl, strLdRow_loads word src empty _ rfl⟩
  · exact ⟨_, rfl, strLdRow_reads word src data low⟩
  · refine ⟨_, rfl, strStRow_buffers word hm dst, fun alone => ?_⟩
    subst alone
    exact strStRow_advances word dst

end Sys2Proof.Machine
end

section
/-! SUPPORT. Accesses that are performed once every earlier access of their thread has been (R151 to R156, R160), and the keyring bits (R150, R152). -/

namespace Sys2Proof.Machine

open Sys2Proof.Claims

/-! ### Stores that become visible -/

/-- R154, R158: a store changes no more of a thread than its reservation. -/
theorem storePieces_part {β : Type} (g : Thread → β) (blind : ∀ th r, g { th with resv := r } = g th) (b : Option Nat) (bad : Bool) (u : Nat) :
    ∀ (ps : Pieces) (ds : List Digit) (s : State), g (thr (storePieces s b ps ds bad) u) = g (thr s u)
  | [], _, _ => rfl
  | (a, n) :: ps, ds, s => by
    refine (storePieces_part g blind b bad u ps (ds.drop n) (storeAt s b a (ds.take n) bad)).trans ?_
    simp only [storeAt, loseResv, thr]
    refine tget_tmapAll g _ _ (fun k th => ?_) u
    split
    · rfl
    · split
      · split
        · exact blind _ _
        · rfl
      · rfl

/-- The lines of an access that a thread has stored, in its keyring's cache. -/
theorem cacheStores_within (s : State) (t : Nat) (ls : List Nat) : Within (· = .krs) s (ls.foldl (fun s l => cacheStore s t l) s) :=
  have : Has (· = .krs) .krs := ⟨rfl⟩
  List.foldlRecOn (motive := fun x => Within (· = .krs) s x) _ _ (Within.refl s) fun x kept l _ => cacheStore_within x t l kept

/-- A store of a thread that becomes visible, and the cache that holds its lines. -/
def madeVisible (s : State) (t : Nat) (ps : Pieces) (ds : List Digit) (bad : Bool) : State :=
  (pieceLines ps).foldl (fun s l => cacheStore s t l) (storePieces s (some t) ps ds bad)

theorem madeVisible_mem (s : State) (t : Nat) (ps : Pieces) (ds : List Digit) (bad : Bool) :
    (madeVisible s t ps ds bad).mem = (storePieces s (some t) ps ds bad).mem :=
  mem_of_within (cacheStores_within _ _ _) (by decide)

theorem madeVisible_part {β : Type} (g : Thread → β) (blind : ∀ th r, g { th with resv := r } = g th) (s : State) (t : Nat) (ps : Pieces)
    (ds : List Digit) (bad : Bool) (u : Nat) : g (thr (madeVisible s t ps ds bad) u) = g (thr s u) := by
  rw [madeVisible, thr_of_within (cacheStores_within _ _ _) (by decide)]
  exact storePieces_part g blind _ _ _ _ _ _

/-! ### An access that is performed -/

theorem settle_mem (s : State) : (settle s).mem = s.mem := by rw [(settle_settled s).rest]

/-- R145: a completed operation leaves its thread, and its results are written. -/
theorem landed_arch {s : State} {t : Nat} {f : Thread → Thread} {o : Op} {g : Arch → Arch} (flies : o ∈ (thr s t).arch.ops)
    (lands : (f (thr s t)).arch = (landOp (thr s t) o.id g).arch) :
    (thr (settle (modThr s t f)) t).arch = g { (thr s t).arch with ops := (thr s t).arch.ops.filter (fun x => x.id != o.id) } := by
  rw [settle_arch, modThr, putThr_arch, lands, landOp_arch flies]

/-- The operation of a performed access has left its thread. -/
theorem landed_gone {a : Arch} {o : Op} {l : List Op} (h : a.ops = l.filter (fun x => x.id != o.id)) : ∀ x ∈ a.ops, x.id ≠ o.id := by
  rw [h]
  intro x hx
  simpa using (List.mem_filter.1 hx).2

/-- R153, R155: a store-conditional that may be performed stores under a reservation that covers it, and ends the reservation. -/
theorem stcEnds_decides {s : State} {t : Nat} {o : Op} {w : Nat} {ps : Pieces} {d : Word} {bad : Bool}
    (found : (thr s t).arch.ops.find? (fun o => match o.kind with | .stc _ _ _ _ => true | _ => false) = some o) (kind : o.kind = .stc w ps d bad)
    (oldest : oldestMem (thr s t) o.id = true) (drains : drained (thr s t) o.id = true) {ok : Bool}
    (covers : (match (thr s t).resv with | some r => (pieceLines ps).all (fun l => r.contains l) | none => false) = ok) :
    port (thr (stcEnds s t) t).arch 0x147 = w64 (b2n ok) ∧ (thr (stcEnds s t) t).resv = none ∧ (∀ x ∈ (thr (stcEnds s t) t).arch.ops, x.id ≠ o.id) ∧
      (stcEnds s t).mem = if ok then (storePieces s (some t) ps (natDigits w d.toNat) bad).mem else s.mem := by
  have made : stcEnds s t = settle (modThr (if ok then madeVisible s t ps (natDigits w d.toNat) bad else s) t
      (fun th => { landOp th o.id (fun a => setPort a 0x147 (w64 (b2n ok))) with resv := none })) := by
    subst covers
    unfold stcEnds
    dsimp only
    split
    · rename_i none_
      exact absurd (none_.symm.trans found) (by simp)
    rename_i op next
    obtain rfl : op = o := Option.some.inj (next.symm.trans found)
    rw [kind]
    dsimp only
    rw [if_neg (by simp [oldest, drains])]
    rfl
  have arch : (thr (if ok then madeVisible s t ps (natDigits w d.toNat) bad else s) t).arch = (thr s t).arch := by
    split
    · exact madeVisible_part Thread.arch (fun _ _ => rfl) _ _ _ _ _ _
    · rfl
  have mem : (if ok then madeVisible s t ps (natDigits w d.toNat) bad else s).mem =
      if ok then (storePieces s (some t) ps (natDigits w d.toNat) bad).mem else s.mem := by
    split
    · exact madeVisible_mem _ _ _ _ _
    · rfl
  generalize (if ok then madeVisible s t ps (natDigits w d.toNat) bad else s) = x at made arch mem
  have flies : o ∈ (thr x t).arch.ops := by
    rw [arch]
    exact List.mem_of_find?_eq_some found
  have landed : (thr (stcEnds s t) t).arch = setPort { (thr x t).arch with ops := (thr x t).arch.ops.filter (fun x => x.id != o.id) } 0x147 (w64 (b2n ok)) := by
    rw [made]
    exact landed_arch (g := fun a => setPort a 0x147 (w64 (b2n ok))) flies (by exact rfl)
  refine ⟨?_, ?_, landed_gone (l := (thr x t).arch.ops) (by rw [landed]; rfl), ?_⟩
  · rw [landed, port_setPort_self]
  · rw [made, settle_part _ t Thread.resv fun _ _ _ _ => rfl, modThr_self]
  · rw [made, settle_mem, mem_of_within (modThr_frame _ _ _) (by decide), mem]

/-- R156: an atomic writes, unless it compares and finds another value. -/
theorem atomicNew_eq (which w : Nat) (prior operand compare : Word) : atomicNew which w prior operand compare =
    if 2 ≤ which ∧ prior ≠ compare then none else some (if which = 0 then lowDigits w (prior + operand) else operand) := by
  unfold atomicNew
  split
  · rename_i add
    rw [if_neg (by omega)]
  · split
    · rename_i swap
      rw [if_neg (by omega)]
    · split
      · rename_i same
        rw [if_neg (by simp [same])]
      · rename_i other
        rw [if_pos ⟨by omega, other⟩]

/-- R156, R160: an atomic that may be performed leaves what it read in at.r, and stores unless it compares and finds another value. -/
theorem atomicEnds_performs {s : State} {t : Nat} {o : Op} {which w : Nat} {ps : Pieces} {x c : Word}
    (found : (thr s t).arch.ops.find? (fun o => match o.kind with | .atomic _ _ _ _ _ => true | _ => false) = some o)
    (kind : o.kind = .atomic which w ps x c) (oldest : oldestMem (thr s t) o.id = true) (drains : drained (thr s t) o.id = true)
    {prior : Word} (reads : (loadPieces s ps).1 = prior) :
    port (thr (atomicEnds s t) t).arch 0x14F = prior ∧ (∀ y ∈ (thr (atomicEnds s t) t).arch.ops, y.id ≠ o.id) ∧
      (atomicEnds s t).mem = if poisoned s ps = true ∨ 2 ≤ which ∧ prior ≠ c then s.mem else
        (storePieces s (some t) ps (natDigits w ((if which = 0 then lowDigits w (prior + x) else x).toNat)) false).mem := by
  subst reads
  have made : ∃ y, atomicEnds s t =
      settle (modThr y t (fun th => landOp th o.id (fun a => setPoison (setPort a 0x14F (loadPieces s ps).1) 0x14F (loadPieces s ps).2))) ∧
      (thr y t).arch = (thr s t).arch ∧ y.mem = if poisoned s ps = true ∨ 2 ≤ which ∧ (loadPieces s ps).1 ≠ c then s.mem else
        (storePieces s (some t) ps (natDigits w ((if which = 0 then lowDigits w ((loadPieces s ps).1 + x) else x).toNat)) false).mem := by
    unfold atomicEnds
    dsimp only
    split
    · rename_i none_
      exact absurd (none_.symm.trans found) (by simp)
    rename_i op next
    obtain rfl : op = o := Option.some.inj (next.symm.trans found)
    rw [kind]
    dsimp only
    rw [if_neg (by simp [oldest, drains])]
    refine ⟨_, rfl, ?_, ?_⟩
    · split
      · exact madeVisible_part Thread.arch (fun _ _ => rfl) _ _ _ _ _ _
      · rfl
    · by_cases bad : poisoned s ps = true
      · have gone : (loadPieces s ps).2 = true := bad
        rw [gone, if_pos (Or.inl bad : _ ∨ _)]
        rfl
      · have sound : (loadPieces s ps).2 = false := by simpa [loadPieces] using bad
        rw [sound, if_neg (by simp), atomicNew_eq]
        by_cases missed : 2 ≤ which ∧ (loadPieces s ps).1 ≠ c
        · rw [if_pos missed, if_pos (Or.inr missed : _ ∨ _)]
        · rw [if_neg missed, if_neg (c := _ ∨ _) (not_or.2 ⟨bad, missed⟩)]
          exact madeVisible_mem _ _ _ _ _
  obtain ⟨y, made, arch, mem⟩ := made
  have flies : o ∈ (thr y t).arch.ops := by
    rw [arch]
    exact List.mem_of_find?_eq_some found
  have landed : (thr (atomicEnds s t) t).arch = setPoison (setPort { (thr y t).arch with ops := (thr y t).arch.ops.filter (fun x => x.id != o.id) } 0x14F
      (loadPieces s ps).1) 0x14F (loadPieces s ps).2 := by
    rw [made]
    exact landed_arch (g := fun a => setPoison (setPort a 0x14F (loadPieces s ps).1) 0x14F (loadPieces s ps).2) flies (by exact rfl)
  refine ⟨?_, landed_gone (l := (thr y t).arch.ops) (by rw [landed]; rfl), ?_⟩
  · rw [landed]
    exact port_setPort_self _ _ _
  · rw [made, settle_mem, mem_of_within (modThr_frame _ _ _) (by decide), mem]

theorem kring_of_within {F : Part → Prop} {s s' : State} (w : Within F s s') (h : ¬ F .krs) (k : Nat) : kring s' k = kring s k := by
  rw [kring, krs_of_within w h, kring]

/-- R150: a keyring bit that a thread writes; the others stay. -/
theorem kbits_writeKbit (s : State) (t i : Nat) (b : Bool) (j : Nat) :
    tget false (kring (writeKbit s t i b) (krOf t)).kbits j = if j = i then b else tget false (kring s (krOf t)).kbits j := by
  rw [writeKbit, kring_modKr]
  exact tget_tset _ _ _ _

/-- R151, R152: a test-and-set that may be performed leaves the bit as it was in bs.old, and sets it. -/
theorem tasEnds_sets {s : State} {t : Nat} {o : Op} {i : Nat} (found : (thr s t).arch.ops.find? isTas = some o) (kind : o.kind = .tas i)
    (oldest : oldestMem (thr s t) o.id = true) (drains : drained (thr s t) o.id = true) :
    port (thr (tasEnds s t) t).arch 0x065 = w64 (b2n (tget false (kring s (krOf t)).kbits i)) ∧
      tget false (kring (tasEnds s t) (krOf t)).kbits i = true ∧ ∀ y ∈ (thr (tasEnds s t) t).arch.ops, y.id ≠ o.id := by
  have made : tasEnds s t = settle (modThr (writeKbit s t i true) t (fun th => landOp th o.id (fun a =>
      setPort a 0x065 (w64 (b2n (tget false (kring s (krOf t)).kbits i)))))) := by
    unfold tasEnds
    dsimp only
    split
    · rename_i none_
      exact absurd (none_.symm.trans found) (by simp)
    rename_i op next
    obtain rfl : op = o := Option.some.inj (next.symm.trans found)
    rw [kind]
    dsimp only
    rw [if_neg (by simp [oldest, drains])]
  have landed : (thr (tasEnds s t) t).arch = setPort { (thr s t).arch with ops := (thr s t).arch.ops.filter (fun x => x.id != o.id) } 0x065
      (w64 (b2n (tget false (kring s (krOf t)).kbits i))) := by
    rw [made]
    exact landed_arch (s := writeKbit s t i true) (g := fun a => setPort a 0x065 (w64 (b2n (tget false (kring s (krOf t)).kbits i))))
      (List.mem_of_find?_eq_some found) (by exact rfl)
  refine ⟨?_, ?_, landed_gone (l := (thr s t).arch.ops) (by rw [landed]; rfl)⟩
  · rw [landed, port_setPort_self]
  · rw [made, kring_of_within (settle_frame _) (by decide), kring_of_within (modThr_frame _ _ _) (by decide), kbits_writeKbit, if_pos rfl]

/-! ### Words that read, write and set keyring bits -/

theorem shortDst_bit : shortDst 0x063 = false := by decide

theorem shortSrc_bit : shortSrc (.port 0x063) = false := by decide

/-- R151: a test-and-set starts. -/
theorem commitMove_tas {m : Mv} (dst : m.dst = 0x064) (pre : Arch) (t : Nat) (s : State) :
    Flies s (commitMove pre t s m) t (.tas ((mvValue s t pre m).toNat % 4096)) := by
  have made : commitMove pre t s m = modThr s t (fun th => startOp th (.tas ((mvValue s t pre m).toNat % 4096))) := by
    simp [commitMove, dst, unitOfPort]
  rw [made]
  exact startOp_flies rfl

theorem commitMove_writeKbit {m : Mv} (dst : m.dst = 0x063) (pre : Arch) (t : Nat) (s : State) :
    commitMove pre t s m = writeKbit s t ((port pre 0x062).toNat % 4096) ((mvValue s t pre m).getLsbD 0) := by
  simp [commitMove, dst, unitOfPort]

theorem mvValue_bit {s : State} {t : Nat} {m : Mv} (src : m.src = .port 0x063) (a : Arch) :
    mvValue s t a m = lowDigits m.w (w64 (b2n (tget false (kring s (krOf t)).kbits ((port a 0x062).toNat % 4096)))) := by
  simp [mvValue, src, portValue]

section
variable {s : State} {t : Nat} {ms : List Mv} {m : Mv} (word : issues s t ms = true) (hm : m ∈ ms)
include word hm

theorem tasRow_starts (dst : m.dst = 0x064) : Flies s (issue s t (.dst 0x064)) t (.tas ((mvValue s t (thr s t).arch m).toNat % 4096)) := by
  rw [issue_commit word (by simpa [rowMatch] using ⟨m, hm, dst⟩)]
  refine word_flies word hm (fun goes => ?_) fun s1 value _ => ?_
  · rw [dst] at goes
    exact absurd goes (by decide)
  · rw [← value]
    exact commitMove_tas dst _ _ _

/-- R152: a read of bs.k gives the bit that bs.kx names. -/
theorem bitRow_reads (src : m.src = .port 0x063) (low : m.dst < 64) : greg (thr (issue s t (.src 0x063)) t).arch m.dst =
    lowDigits m.w (w64 (b2n (tget false (kring s (krOf t)).kbits ((port (thr s t).arch 0x062).toNat % 4096)))) := by
  obtain rfl := word_single word hm (.inr (by rw [src]; exact shortSrc_bit))
  obtain ⟨unit, stays⟩ := quiet_greg s t low
  have made := commitMove_greg low (thr s t).arch t (countSlot s t false)
  rw [mvValue_slot, mvValue_bit src] at made
  rw [issue_commit word (by simp [rowMatch, src]), settle_arch, commitWord_single unit stays (by omega), wordEnd_greg, made, modArch_arch]
  exact tget_tset_self _ _ _

/-- R150: a write of bs.k sets the bit that bs.kx names, and no other. -/
theorem bitRow_writes (dst : m.dst = 0x063) (j : Nat) : tget false (kring (issue s t (.dst 0x063)) (krOf t)).kbits j =
    if j = (port (thr s t).arch 0x062).toNat % 4096 then (mvValue s t (thr s t).arch m).getLsbD 0 else tget false (kring s (krOf t)).kbits j := by
  obtain rfl := word_single word hm (.inl (by rw [dst]; exact shortDst_bit))
  rw [issue_commit word (by simp [rowMatch, dst]), kring_of_within (settle_frame _) (by decide),
    commitWord_single (by rw [dst]; decide) (by rw [dst]; decide) (by rw [dst]; decide), kring_of_within (wordEnd_frame _ _ _) (by decide),
    commitMove_writeKbit dst, mvValue_slot, kbits_writeKbit, kring_of_within (countSlot_frame _ _ _) (by decide)]

end

/-- Settles O10: an access that may be performed acts on the state that its stores and the cache leave, of which the thread keeps all but its reservation;
the words of the keyring bits are the only moves of their words, but for a test-and-set. -/
theorem orderedAccessesAndKeyringBits : Obligations.OrderedAccessesAndKeyringBits := by
  unfold Obligations.OrderedAccessesAndKeyringBits
  refine ⟨fun s t => ⟨fun o w ps d bad found kind oldest drains => ?_, fun o which w ps x c found kind oldest drains => ?_,
    fun o i found kind oldest drains => ?_⟩, fun s t ms m word beside => ⟨fun dst => ?_, fun src low => ?_, fun dst => ?_⟩⟩
  · exact ⟨_, rfl, stcEnds_decides found kind oldest drains rfl⟩
  · exact ⟨_, rfl, atomicEnds_performs found kind oldest drains rfl⟩
  · exact ⟨_, rfl, tasEnds_sets found kind oldest drains⟩
  · exact ⟨_, rfl, tasRow_starts word (beside_mem beside) dst⟩
  · exact ⟨_, rfl, bitRow_reads word (beside_mem beside) src low⟩
  · have writes := bitRow_writes word (beside_mem beside) dst
    exact ⟨_, rfl, (writes _).trans (if_pos rfl), fun j other => (writes j).trans (if_neg other)⟩

end Sys2Proof.Machine
end

section
/-! SUPPORT. Loads that land and stores that leave the store buffer (R158, R159, R175, R176), and what a knock or a report can do to a thread. -/

namespace Sys2Proof.Machine

open Sys2Proof.Claims

/-! ### What a raise or a report does to a thread -/

/-- A thread that a raise may have woken and a report may have asked to freeze. -/
structure Roused (a b : Thread) : Prop where
  rest : b = { a with st := b.st, freezeReq := b.freezeReq, fromWait := b.fromWait, yieldFor := b.yieldFor }
  awake : a.st ≠ .wait → b.st = a.st

theorem Roused.of_asked {a b : Thread} (h : AskedOnly a b) : Roused a b := by
  unfold AskedOnly at h
  exact ⟨by rw [h], fun _ => by rw [h]⟩

theorem Roused.refl (a : Thread) : Roused a a := .of_asked (.refl a)

theorem Roused.trans {a b c : Thread} (h : Roused a b) (k : Roused b c) : Roused a c where
  rest := by rw [k.rest, h.rest]
  awake up := by
    have same := h.awake up
    rw [k.awake (by rw [same]; exact up), same]

theorem Roused.part {β : Type} {a b : Thread} (h : Roused a b) (g : Thread → β)
    (blind : ∀ th st ask from_ l, g { th with st := st, freezeReq := ask, fromWait := from_, yieldFor := l } = g th) : g b = g a :=
  (congrArg g h.rest).trans (blind _ _ _ _ _)

theorem wakeThr_roused (s : State) (t u : Nat) : Roused (thr s u) (thr (wakeThr s t) u) := by
  unfold wakeThr
  dsimp only
  split
  · rename_i waits
    by_cases same : u = t
    · subst same
      rw [putThr_self]
      exact ⟨rfl, fun up => absurd waits up⟩
    · rw [putThr_ne _ _ _ _ same]
      exact ⟨rfl, fun _ => rfl⟩
  · exact Roused.refl _

theorem wakeTargets_roused (s : State) (n u : Nat) : Roused (thr s u) (thr (wakeTargets s n) u) := by
  unfold wakeTargets
  refine List.foldlRecOn (motive := fun x => Roused (thr s u) (thr x u)) _ _ (Roused.refl _) fun x same t _ => ?_
  split
  · exact same.trans (wakeThr_roused x t u)
  · exact same

theorem deny_thr (s : State) (p u : Nat) : thr (deny s p) u = thr s u :=
  have : Has (· = .regs) .regs := ⟨rfl⟩
  thr_of_within (deny_within (F := (· = .regs)) s p (Within.refl s)) (by decide) u

/-- R141, R362: a raise only wakes threads in WAIT. -/
theorem raise_roused (s : State) (p n u : Nat) : Roused (thr s u) (thr (raise s p n) u) := by
  unfold raise
  split
  · exact Roused.refl _
  · split
    · exact wakeTargets_roused (modSrc s n _) n u
    · rw [deny_thr]
      exact Roused.refl _

theorem errKnock_roused (s : State) (p u : Nat) : Roused (thr s u) (thr (errKnock s p) u) := raise_roused s p _ u

theorem audit_thr (s : State) (source part kind : Nat) (body : Bytes) (u : Nat) : thr (audit s source part kind body) u = thr s u :=
  have : Has (· = .audit) .audit := ⟨rfl⟩
  thr_of_within (audit_within (F := (· = .audit)) s source part kind body (Within.refl s)) (by decide) u

theorem report_roused (s : State) (cls ix err part detail u : Nat) : Roused (thr s u) (thr (report s cls ix err part detail) u) :=
  .of_asked (report_asked s cls ix err part detail u)

/-! ### Loads -/

/-- R193: what ECC finds on a line wakes threads in WAIT and asks threads to freeze, and does nothing else to them. -/
theorem lineOutcome_roused (s : State) (line : Nat) (o : EccOutcome) (u : Nat) : Roused (thr s u) (thr (lineOutcome s line o) u) := by
  unfold lineOutcome
  dsimp only
  split
  · exact Roused.refl _
  · exact report_roused _ _ _ _ _ _ _
  · exact report_roused { s with poison := tset false s.poison line true } _ _ _ _ _ _
  · refine Roused.trans ?_ (report_roused _ _ _ _ _ _ _)
    split
    · rw [audit_thr]
      exact Roused.refl (thr s u)
    · refine Roused.trans ?_ (errKnock_roused _ _ _)
      rw [audit_thr]
      exact Roused.refl (thr s u)

theorem loadEcc_roused (s : State) (ps : Pieces) (o : EccOutcome) (u : Nat) : Roused (thr s u) (thr (loadEcc s ps o).2 u) := by
  unfold loadEcc
  split
  · exact Roused.refl _
  · split
    · exact lineOutcome_roused _ _ _ _
    · split
      · split
        · exact report_roused _ _ _ _ _ _ _
        · exact report_roused _ _ _ _ _ _ _
        · exact Roused.refl _
      · exact Roused.refl _

/-- The parts that a load from memory may change. -/
def loadParts : List Part := [.regs, .poison, .threads, .cyls, .engs, .srcs, .doms, .audit, .faults, .krs]

theorem loadEcc_frame (s : State) (ps : Pieces) (o : EccOutcome) : Within (· ∈ loadParts) s (loadEcc s ps o).2 :=
  have h : ∀ p, p ∈ loadParts → Has (· ∈ loadParts) p := fun _ m => ⟨m⟩
  have := h .regs (by decide)
  have := h .poison (by decide)
  have := h .threads (by decide)
  have := h .cyls (by decide)
  have := h .engs (by decide)
  have := h .srcs (by decide)
  have := h .doms (by decide)
  have := h .audit (by decide)
  have := h .faults (by decide)
  loadEcc_within s ps o (Within.refl s)

theorem cacheLoads_frame (s : State) (t : Nat) (ls : List Nat) : Within (· ∈ [Part.cyls, .krs]) s (ls.foldl (fun s l => cacheLoad s t l) s) :=
  have : Has (· ∈ [Part.cyls, .krs]) .cyls := ⟨by decide⟩
  have : Has (· ∈ [Part.cyls, .krs]) .krs := ⟨by decide⟩
  List.foldlRecOn (motive := fun x => Within (· ∈ [Part.cyls, .krs]) s x) _ _ (Within.refl s) fun x kept l _ => cacheLoad_within x t l kept

/-- The word that an access reads depends on the memory alone. -/
theorem loadPieces_word {s s' : State} (mem : s'.mem = s.mem) (ps : Pieces) : (loadPieces s' ps).1 = (loadPieces s ps).1 := by
  simp only [loadPieces, readPieces, readDigits, readDigit, mem]

/-- R159: a load from memory reads the digits, and changes no memory and nothing of its thread but a wait or a freeze. -/
theorem loadMem_reads (s : State) (t : Nat) (ps : Pieces) (o : EccOutcome) (inside : accessOut s t ps = false) :
    (loadMem s t ps o).1 = (loadPieces s ps).1 ∧ (loadMem s t ps o).2.2.mem = s.mem ∧ (thr (loadMem s t ps o).2.2 t).arch = (thr s t).arch := by
  have found := loadEcc_frame s ps o
  have roused := loadEcc_roused s ps o t
  unfold loadMem
  rw [inside, if_neg (by simp)]
  dsimp only
  generalize (loadEcc s ps o).2 = x at found roused
  have used := cacheLoads_frame x t (pieceLines ps)
  generalize (pieceLines ps).foldl (fun s l => cacheLoad s t l) x = y at used
  have mem : y.mem = s.mem := (mem_of_within used (by decide)).trans (mem_of_within found (by decide))
  refine ⟨loadPieces_word mem ps, mem, ?_⟩
  rw [thr_of_within used (by decide)]
  exact roused.part Thread.arch fun _ _ _ _ _ => rfl

/-- The value of a load in its register. -/
theorem landValue_lands {s : State} {t : Nat} {o : Op} {r w : Nat} {va : VAddr} {ps : Pieces} {fwd : Option (Word × Bool)} {reserve : Bool}
    (kind : o.kind = .load r w va ps fwd reserve) (flies : o ∈ (thr s t).arch.ops) (low : r < 64) (v : Word) (bad : Bool) :
    let s' := settle (landValue s t o v bad)
    greg (thr s' t).arch r = lowDigits w v ∧ (∀ x ∈ (thr s' t).arch.ops, x.id ≠ o.id) ∧ (thr s' t).arch.pc = (thr s t).arch.pc ∧ s'.mem = s.mem := by
  intro s'
  have made : s' = settle (modThr s t (fun th => landOp th o.id (fun a => if r < 64 then setPoison (setG a r (lowDigits w v)) r bad else a))) := by
    simp only [s', landValue, kind]
  have landed : (thr s' t).arch = setPoison (setG { (thr s t).arch with ops := (thr s t).arch.ops.filter (fun x => x.id != o.id) } r (lowDigits w v)) r bad := by
    rw [made]
    exact (landed_arch flies (by exact rfl)).trans (if_pos low)
  refine ⟨?_, landed_gone (l := (thr s t).arch.ops) (by rw [landed]; rfl), by rw [landed]; rfl, ?_⟩
  · rw [landed]
    exact tget_tset_self _ _ _
  · rw [made, settle_mem, mem_of_within (modThr_frame _ _ _) (by decide)]

/-- R159, R176: the oldest load of a thread lands. -/
theorem loadLands_lands {s : State} {t : Nat} {o : Op} {r w : Nat} {va : VAddr} {ps : Pieces} {fwd : Option (Word × Bool)}
    (oldest : (thr s t).arch.ops.find? isMemOp = some o) (kind : o.kind = .load r w va ps fwd false) (memory : ctlTarget ps = none)
    (inside : accessOut s t ps = false) (low : r < 64) (ecc : EccOutcome) :
    greg (thr (loadLands s t ecc) t).arch r = lowDigits w (fwd.getD (loadPieces s ps)).1 ∧ (∀ x ∈ (thr (loadLands s t ecc) t).arch.ops, x.id ≠ o.id) ∧
      (thr (loadLands s t ecc) t).arch.pc = (thr s t).arch.pc ∧ (loadLands s t ecc).mem = s.mem := by
  have flies := List.mem_of_find?_eq_some oldest
  have next : oldestLoad (thr s t) = some (o, ps, fwd, false) := by
    rw [oldestLoad, oldest]
    dsimp only
    rw [kind]
  unfold loadLands
  rw [next]
  dsimp only
  rw [memory]
  dsimp only
  cases fwd with
  | some x => exact landValue_lands kind flies low x.1 x.2
  | none =>
    have read := loadMem_reads s t ps ecc inside
    generalize loadMem s t ps ecc = x at read ⊢
    obtain ⟨value, mem, arch⟩ := read
    obtain ⟨reads, gone, pc, kept⟩ := landValue_lands kind (by rw [arch]; exact flies) low x.1 x.2.1
    rw [arch] at pc
    rw [if_neg (by simp), if_neg (by simp)]
    exact ⟨reads.trans (congrArg (lowDigits w) value), gone, pc, kept.trans mem⟩

/-! ### Stores -/

theorem accessOut_congr {s s' : State} {t : Nat} (krs : s'.krs = s.krs) (doms : s'.doms = s.doms) (part : (thr s' t).part = (thr s t).part) (ps : Pieces) :
    accessOut s' t ps = accessOut s t ps := by
  unfold accessOut lineOut domOut dom kring
  rw [krs, doms, part]

/-- R158, R175: the oldest store of a thread leaves its store buffer for memory. -/
theorem storeLeaves_stores {s : State} {t : Nat} {e : SbEntry} {rest : List SbEntry} (next : (thr s t).sbuf = e :: rest)
    (oldest : oldestMem (thr s t) e.id = true) (memory : ∀ p ∈ e.pieces, isCtl p.1 = false) (inside : accessOut s t e.pieces = false) :
    (thr (storeLeaves s t false) t).sbuf = rest ∧
      (storeLeaves s t false).mem = (storePieces s (some t) e.pieces (natDigits e.w e.data.toNat) e.poison).mem ∧
      (thr (storeLeaves s t false) t).arch = (thr s t).arch := by
  have taken := putThr_self s t { thr s t with sbuf := rest, parity := (thr s t).parity || false }
  have frame : Within (· = .threads) s (putThr s t { thr s t with sbuf := rest, parity := (thr s t).parity || false }) :=
    have : Has (· = .threads) .threads := ⟨rfl⟩
    putThr_within _ _ _ (Within.refl s)
  generalize left : putThr s t { thr s t with sbuf := rest, parity := (thr s t).parity || false } = x at taken frame
  have reaches : accessOut x t e.pieces = false := by
    rw [accessOut_congr (krs_of_within frame (by decide)) ((frame.rest .doms).resolve_left (by decide)) (by rw [taken]), inside]
  have stored : storeMem x t e false = madeVisible x t e.pieces (natDigits e.w e.data.toNat) e.poison := by
    rw [storeMem, reaches, if_neg (by simp), Bool.or_false]
    rfl
  have performed : (match e.pieces with
        | [(a, _)] => if isCtl a then storeCtl x t a e false else storeMem x t e false
        | _ => storeMem x t e false) = madeVisible x t e.pieces (natDigits e.w e.data.toNat) e.poison := by
    split
    · rename_i a n alone
      rw [memory (a, n) (by simp [alone]), if_neg (by simp), stored]
    · exact stored
  have made : storeLeaves s t false = settle (madeVisible x t e.pieces (natDigits e.w e.data.toNat) e.poison) := by
    unfold storeLeaves
    dsimp only
    rw [next]
    dsimp only
    rw [if_neg (by simp [oldest]), if_neg (by simp), left]
    exact congrArg settle performed
  rw [made]
  refine ⟨?_, ?_, ?_⟩
  · rw [settle_part _ t Thread.sbuf fun _ _ _ _ => rfl, madeVisible_part Thread.sbuf (fun _ _ => rfl), taken]
  · rw [settle_mem, madeVisible_mem]
    exact storePieces_mem_congr _ _ _ _ (mem_of_within frame (by decide))
  · rw [settle_arch, madeVisible_part Thread.arch (fun _ _ => rfl), taken]

/-- Settles O11: a load that is not from control space reads the memory that its caches and ECC leave as it is; the store that leaves the buffer is
performed on the same memory. -/
theorem loadsLandAndStoresLeave : Obligations.LoadsLandAndStoresLeave := by
  unfold Obligations.LoadsLandAndStoresLeave
  refine fun s t ecc => ⟨fun o r w va ps fwd oldest kind memory inside low => ?_, fun e rest next oldest memory inside => ?_⟩
  · exact ⟨_, rfl, loadLands_lands oldest kind memory inside low ecc⟩
  · exact ⟨_, rfl, storeLeaves_stores next oldest memory inside⟩

end Sys2Proof.Machine
end

section
/-! SUPPORT. Entries (R219, R368 to R372, R377): a thread at rest that is interrupted, the access to its save area, and the handler or the halt that follows. -/

namespace Sys2Proof.Machine

open Sys2Proof.Claims

/-! ### States in which a thread's frame lies at the same place -/

/-- What the translation of a thread's frame, and a load from it, see is the same. -/
structure SameSpace (t : Nat) (s x : State) : Prop where
  part : (thr x t).part = (thr s t).part
  regs : x.regs = s.regs
  kc : x.kc = s.kc
  mem : x.mem = s.mem
  poison : x.poison = s.poison
  lost : x.dramLost = s.dramLost
  krs : x.krs = s.krs
  cyls : x.cyls = s.cyls
  fuses : x.fuses = s.fuses

/-- A change of threads and engines that keeps the thread's partition. -/
theorem SameSpace.of_within {t : Nat} {s x : State} (w : Within (· ∈ [.threads, .engs]) s x) (part : (thr x t).part = (thr s t).part) :
    SameSpace t s x where
  part := part
  regs := (w.rest .regs).resolve_left (by decide)
  kc := (w.rest .kc).resolve_left (by decide)
  mem := (w.rest .mem).resolve_left (by decide)
  poison := (w.rest .poison).resolve_left (by decide)
  lost := (w.rest .dramLost).resolve_left (by decide)
  krs := (w.rest .krs).resolve_left (by decide)
  cyls := (w.rest .cyls).resolve_left (by decide)
  fuses := (w.rest .fuses).resolve_left (by decide)

theorem SameSpace.trans {t : Nat} {a b c : State} (h : SameSpace t a b) (k : SameSpace t b c) : SameSpace t a c :=
  ⟨k.part.trans h.part, k.regs.trans h.regs, k.kc.trans h.kc, k.mem.trans h.mem, k.poison.trans h.poison, k.lost.trans h.lost, k.krs.trans h.krs,
    k.cyls.trans h.cyls, k.fuses.trans h.fuses⟩

theorem sameSpace_modThr {t : Nat} {s : State} {f : Thread → Thread} (part : (f (thr s t)).part = (thr s t).part) : SameSpace t s (modThr s t f) := by
  have : Has (· ∈ [Part.threads, .engs]) .threads := has_mem (by decide)
  refine .of_within (modThr_within _ _ _ (Within.refl s)) ?_
  rw [modThr_self]
  exact part

section
variable {t : Nat} {s x : State} (h : SameSpace t s x)
include h

theorem readDigits_space (a n : Nat) : readDigits x a n = readDigits s a n := by
  unfold readDigits readDigit
  rw [h.mem]

theorem poisoned_space (ps : Pieces) : poisoned x ps = poisoned s ps := by
  unfold poisoned
  rw [h.poison, h.lost]

theorem loadPieces_space (ps : Pieces) : loadPieces x ps = loadPieces s ps :=
  Prod.ext (loadPieces_word h.mem ps) (poisoned_space h ps)

theorem walkFrom_space (p va lv : Nat) : walkFrom x p va lv = walkFrom s p va lv := by
  induction lv with
  | zero => rfl
  | succ lv ih =>
    funext ea
    unfold walkFrom locked
    rw [poisoned_space h, readDigits_space h, h.kc, h.fuses, ih]

theorem walk_space (p va : Nat) : walk x p va = walk s p va := by
  unfold walk regGet
  rw [h.regs, h.kc, walkFrom_space h]

theorem thrXlate_space (va acc : Nat) : thrXlate x t va acc = thrXlate s t va acc := by
  unfold thrXlate thrTlb xlOn flatXlate regGet kring cyl
  rw [h.part, h.regs, h.kc, h.krs, h.cyls]

theorem okPieces_space (va n acc : Nat) : okPieces x t va n acc = okPieces s t va n acc := by
  have same : (fun a => thrXlate x t a acc) = fun a => thrXlate s t a acc := funext fun a => thrXlate_space h a acc
  rw [okPieces, thrAccess, same, okPieces, thrAccess]

theorem entryAccess_space (va n acc : Nat) : entryAccess x t va n acc = entryAccess s t va n acc := by
  have same : entryXlate x t acc = entryXlate s t acc := by
    funext a
    unfold entryXlate
    rw [thrXlate_space h, h.part, walk_space h]
  rw [entryAccess, same, entryAccess]

/-- The TLB is filled alike. -/
theorem entryFill_space (va acc : Nat) : SameSpace t (entryFill s t va acc) (entryFill x t va acc) := by
  unfold entryFill
  rw [thrXlate_space h, h.part, walk_space h]
  split
  · split
    · rename_i e _
      exact { h with
        krs := congrArg (fun k => tmod krInit k (krOf t) (fun k => { k with tlb := tlbPut 2048 k.tlb e })) h.krs
        cyls := congrArg (fun c => tmod cylInit c (cylOf t)
          (fun c => if acc = 1 then { c with itlb := tlbPut 32 c.itlb e } else { c with dtlb := tlbPut 64 c.dtlb e })) h.cyls }
    · exact h
  · exact h

end

theorem entryFill_thr (s : State) (t va acc u : Nat) : thr (entryFill s t va acc) u = thr s u := by
  unfold entryFill
  split
  · split <;> rfl
  · rfl

/-! ### A thread at rest (R98, R368) -/

/-- Nothing of a thread is in flight, and none of its branches is unresolved. -/
structure Resting (th : Thread) : Prop where
  ops : th.arch.ops = []
  fly : flyOf th = 0
  spec : th.spec = []

theorem showAllMul_of_idle {th : Thread} (idle : th.arch.ops = []) (n : Nat) : showAllMul th n = th := by
  have none_ : showMul th true = th := by
    simp [showMul, idle]
  induction n with
  | zero => rfl
  | succ n ih => rw [showAllMul, none_, ih]

theorem Resting.atRest {th : Thread} (h : Resting th) : atRest th = true := by
  simp [Machine.atRest, showAllMul_of_idle h.ops, h.fly, h.spec]

theorem Resting.congr {a b : Thread} (h : Resting a) (ops : b.arch.ops = a.arch.ops) (sbuf : b.sbuf = a.sbuf) (spec : b.spec = a.spec) : Resting b where
  ops := ops.trans h.ops
  fly := by
    rw [← h.fly, flyOf, flyOf, ops, waitingStores, waitingStores, sbuf]
  spec := spec.trans h.spec

/-- What an interruption leaves of a thread at rest: its reservation is lost, and it waits for no walk (R154, R224). -/
def interrupted (th : Thread) : Thread := { th with resv := none, walk := th.walk.map (fun w => { w with waits := false }) }

theorem abandonDiv_of_idle {s : State} {t : Nat} (idle : (thr s t).arch.ops = []) : abandonDiv s t = s := by
  have none_ : divOp (thr s t) = none := by rw [divOp, idle, List.find?_nil]
  unfold abandonDiv
  dsimp only
  rw [none_]

theorem Resting.told {a b : Thread} (h : Resting a) (told : SeatTold a b) : Resting b where
  ops := told.arch.idle h.ops
  fly := by
    have same : b.sbuf = a.sbuf := by rw [told.rest]
    rw [← h.fly, flyOf, flyOf, told.arch.idle h.ops, h.ops, waitingStores, waitingStores, same]
  spec := told.unbranched h.spec

/-- R120, R102: a thread at rest loses to an interruption no more than its reservation and a waiting seat request. -/
theorem interrupt_resting {s : State} {t : Nat} (k : Option SyncKnock) (h : Resting (thr s t)) :
    SeatTold (interrupted (thr s t)) (thr (interrupt s t k) t) ∧ Within (· ∈ [.threads, .engs]) s (interrupt s t k) := by
  have whole : truncate (thr s t) = thr s t := by rw [truncate, h.spec]
  have begun := modThr_self s t (fun th => { truncate th with resv := none, walk := th.walk.map (fun w => { w with waits := false }) })
  rw [whole] at begun
  have : Has (· ∈ [Part.threads, .engs]) .threads := has_mem (by decide)
  have : Has (· ∈ [Part.threads, .engs]) .engs := has_mem (by decide)
  have changed : Within (· ∈ [Part.threads, .engs]) s (modThr s t fun th =>
      { truncate th with resv := none, walk := th.walk.map (fun w => { w with waits := false }) }) := modThr_within _ _ _ (Within.refl s)
  unfold interrupt
  extract_lets s1 s2 th
  have told : SeatTold (interrupted (thr s t)) th :=
    ((seatTold_yield (interrupted (thr s t)) (thr s1 t).yieldFor).trans (.of_eq begun)).trans (withdrawSeat_told s1 t t)
  have rests : Resting (thr s2 t) := Resting.told (a := interrupted (thr s t)) ⟨h.ops, h.fly, h.spec⟩ told
  rw [abandonDiv_of_idle rests.ops, ite_self]
  exact ⟨told, withdrawSeat_within _ _ changed⟩

theorem Resting.interrupted {th : Thread} (h : Resting th) : Resting (interrupted th) := ⟨h.ops, h.fly, h.spec⟩

/-! ### The moment of an entry -/

/-- A state in which a thread of `s`, at rest, has been interrupted: its frame lies where it lay, and its registers, its frames and its priorities are as
they were. -/
structure AtEntry (t : Nat) (s x : State) : Prop where
  space : SameSpace t s x
  g : (thr x t).arch.g = (thr s t).arch.g
  ssp : port (thr x t).arch 0x1C3 = port (thr s t).arch 0x1C3
  resv : (thr x t).resv = none
  frames : (thr x t).frames = (thr s t).frames
  runPri : (thr x t).runPri = (thr s t).runPri
  prio : (thr x t).prio = (thr s t).prio
  next : (thr x t).nextOp = (thr s t).nextOp

theorem AtEntry.of_told {t : Nat} {s x : State} (told : SeatTold (interrupted (thr s t)) (thr x t)) (frame : Within (· ∈ [.threads, .engs]) s x) :
    AtEntry t s x where
  space := .of_within frame (by rw [told.rest]; rfl)
  g := by rw [told.arch.rest]; rfl
  ssp := told.arch.port _ (by decide)
  resv := by rw [told.rest]; rfl
  frames := by rw [told.rest]; rfl
  runPri := by rw [told.rest]; rfl
  prio := by rw [told.rest]; rfl
  next := by rw [told.rest]; rfl

theorem modThr_arch (s : State) (t : Nat) (f : Thread → Thread) : (thr (modThr s t f) t).arch = (f (thr s t)).arch := by
  rw [modThr_self]

/-- What an entry may still change of a thread before the frame is written. -/
theorem AtEntry.modThr {t : Nat} {s x : State} (h : AtEntry t s x) {f : Thread → Thread} {a b : Thread} (before : thr x t = a) (after : f a = b)
    (part : b.part = a.part) (g : b.arch.g = a.arch.g) (ssp : port b.arch 0x1C3 = port a.arch 0x1C3) (resv : b.resv = a.resv)
    (frames : b.frames = a.frames) (runPri : b.runPri = a.runPri) (prio : b.prio = a.prio) (next : b.nextOp = a.nextOp) :
    AtEntry t s (modThr x t f) := by
  subst before after
  refine ⟨h.space.trans (sameSpace_modThr part), ?_, ?_, ?_, ?_, ?_, ?_, ?_⟩ <;> rw [modThr_self]
  · exact g.trans h.g
  · exact ssp.trans h.ssp
  · exact resv.trans h.resv
  · exact frames.trans h.frames
  · exact runPri.trans h.runPri
  · exact prio.trans h.prio
  · exact next.trans h.next

/-- The place of the next frame of a thread, below ts.ssp (R369). -/
def savePlace (th : Thread) : Nat := ((port th.arch 0x1C3).toNat + 2 ^ 56 - 512) % 2 ^ 56

/-- The state with the TLB filled for the pages of a thread's next frame. -/
def saveSpace (s : State) (t : Nat) : State :=
  entryFill (entryFill s t (savePlace (thr s t)) 3) t ((savePlace (thr s t) + 511) % 2 ^ 56) 3

theorem entryBar_atEntry {t : Nat} {s x : State} (h : AtEntry t s x) : entryBar x t = entryBar s t := by
  unfold entryBar vecEn regGet
  dsimp only
  rw [h.ssp, h.frames, h.space.regs, h.space.part, entryAccess_space h.space]

theorem saveSpace_atEntry {t : Nat} {s x : State} (h : AtEntry t s x) : SameSpace t (saveSpace s t) (saveSpace x t) := by
  have place : savePlace (thr x t) = savePlace (thr s t) := by rw [savePlace, h.ssp, savePlace]
  unfold saveSpace
  rw [place]
  exact entryFill_space (entryFill_space h.space _ _) _ _

theorem saveSpace_thr (s : State) (t u : Nat) : thr (saveSpace s t) u = thr s u := by
  rw [saveSpace, entryFill_thr, entryFill_thr]

/-- A thread that enters its handler, with its frame at `va` (R370, R372). -/
def handlerThr (vec : Word) (va : Nat) (epc : VAddr) (sync : Option Nat) (th : Thread) : Thread :=
  { th with
      st := .ready, park := .no, frames := th.frames + 1, epcs := epc :: th.epcs
      arch := handlerArch (setPort th.arch 0x1C3 (w64 va)) vec epc sync
      fresh := if sync.isSome then 2 else 1
      exitWin := if sync.isSome then false else th.exitWin
      fromWait := if th.fromWait = 1 ∧ sync.isNone then 2 else th.fromWait
      entering := false, direct := false, strData := none }

theorem takeEntry_free {s : State} {t : Nat} (free : entryBar s t = none) (epc : VAddr) (sync : Option Nat) : takeEntry s t epc sync =
    modThr (frameStores (saveSpace s t) t (savePlace (thr s t)) (frameItems (thr s t).arch (if sync.isSome then 2 else 1) epc)) t
      (handlerThr (regGet (frameStores (saveSpace s t) t (savePlace (thr s t)) (frameItems (thr s t).arch (if sync.isSome then 2 else 1) epc)) .knkVec
        (thr s t).part) (savePlace (thr s t)) epc sync) := by
  unfold takeEntry
  rw [free]
  rfl

/-- What an entry leaves, as R369 and R370 state it. -/
structure Entered (t : Nat) (s s' : State) (epc pc : VAddr) (cause : Nat) : Prop where
  pc : (thr s' t).arch.pc = pc
  ssp : port (thr s' t).arch 0x1C3 = w64 (savePlace (thr s t))
  epc : port (thr s' t).arch 0x1C5 = w64 epc.toNat
  cause : port (thr s' t).arch 0x1C6 = w64 cause
  kde : port (thr s' t).arch 0x1C2 = 0
  imm : (thr s' t).arch.immCnt = 0
  rep : (thr s' t).arch.rep.active = false
  g : (thr s' t).arch.g = (thr s t).arch.g
  st : (thr s' t).st = .ready
  frames : (thr s' t).frames = (thr s t).frames + 1
  runPri : (thr s' t).runPri = (thr s t).runPri
  prio : (thr s' t).prio = (thr s t).prio
  resv : (thr s' t).resv = none

/-- A frame's stores leave their thread but for the store buffer and its order number. -/
theorem frameStores_part {β : Type} (g : Thread → β) (blind : ∀ th l n y, g { th with sbuf := l, nextOp := n, yieldFor := y } = g th) (s : State)
    (t va : Nat) (items : List (Word × Bool)) : g (thr (frameStores s t va items) t) = g (thr s t) := by
  rw [frameStores, modThr_self, enterStores_eq, touch_thr]
  exact blind (thr s t) _ _ _

theorem handlerArch_pc (a : Arch) (vec : Word) (epc : VAddr) (sync : Option Nat) :
    (handlerArch a vec epc sync).pc = BitVec.ofNat 56 (fld vec 55 7 * 128 + (if sync.isSome then 0x40 else 0)) := rfl

theorem handlerArch_g (a : Arch) (v vec : Word) (epc : VAddr) (sync : Option Nat) : (handlerArch (setPort a 0x1C3 v) vec epc sync).g = a.g := rfl

/-- Ports that the handler's state sets, and one that it leaves (R370). -/
theorem handlerArch_ports (a : Arch) (vec : Word) (epc : VAddr) (sync : Option Nat) :
    port (handlerArch a vec epc sync) 0x1C5 = w64 epc.toNat ∧ port (handlerArch a vec epc sync) 0x1C6 = w64 (sync.getD 0) ∧
      port (handlerArch a vec epc sync) 0x1C2 = 0 ∧ port (handlerArch a vec epc sync) 0x1C3 = port a 0x1C3 := by
  have same : ∀ p, port (handlerArch a vec epc sync) p =
      port (setPort (setPort (setPort a 0x1C5 (w64 epc.toNat)) 0x1C2 0) 0x1C6 (w64 (sync.getD 0))) p := fun _ => rfl
  refine ⟨?_, ?_, ?_, ?_⟩ <;> rw [same]
  · rw [port_setPort_ne _ _ (by decide), port_setPort_ne _ _ (by decide), port_setPort_self]
  · rw [port_setPort_self]
  · rw [port_setPort_ne _ _ (by decide), port_setPort_self]
  · rw [port_setPort_ne _ _ (by decide), port_setPort_ne _ _ (by decide), port_setPort_ne _ _ (by decide)]

theorem frameStores_regs (s : State) (t va : Nat) (items : List (Word × Bool)) : (frameStores s t va items).regs = s.regs := by
  have : Has (· ∈ [Part.threads, .cyls]) .threads := has_mem (by decide)
  have : Has (· ∈ [Part.threads, .cyls]) .cyls := has_mem (by decide)
  exact ((frameStores_within (F := (· ∈ [Part.threads, .cyls])) s t va items (Within.refl s)).rest .regs).resolve_left (by decide)

theorem entryFill_regs (s : State) (t va acc : Nat) : (entryFill s t va acc).regs = s.regs := by
  unfold entryFill
  split
  · split <;> rfl
  · rfl

theorem saveSpace_regs (s : State) (t : Nat) : (saveSpace s t).regs = s.regs := by
  rw [saveSpace, entryFill_regs, entryFill_regs]

/-- The address at which a handler begins (R370, R372). -/
def handlerStart (s : State) (t : Nat) (sync : Option Nat) : VAddr :=
  BitVec.ofNat 56 (fld (regGet s .knkVec (thr s t).part) 55 7 * 128 + (if sync.isSome then 0x40 else 0))

theorem frameItems_first (a : Arch) (kind : Nat) (epc : VAddr) : (frameItems a kind epc)[0]? = some (w64 epc.toNat, false) := by
  have range : (List.range 32)[0]? = some 0 := by decide
  have epcWord : alook framePorts 0 = none := by decide
  rw [frameItems, List.getElem?_map, range, Option.map_some, epcWord]
  exact congrArg some (if_pos rfl)

section
variable {t : Nat} {s x : State} (h : AtEntry t s x) (free : entryBar s t = none) (epc : VAddr) (sync : Option Nat)
include h free

/-- The entry of a thread at rest, as a change of the thread whose frame has been stored. -/
theorem takeEntry_atEntry {s' : State} (ends : s' = takeEntry x t epc sync) {items : List (Word × Bool)}
    (written : frameItems (thr x t).arch (if sync.isSome then 2 else 1) epc = items) :
    s' = modThr (frameStores (saveSpace x t) t (savePlace (thr s t)) items) t
      (handlerThr (regGet s .knkVec (thr s t).part) (savePlace (thr s t)) epc sync) := by
  have place : savePlace (thr x t) = savePlace (thr s t) := by rw [savePlace, h.ssp, savePlace]
  rw [ends, takeEntry_free (by rw [entryBar_atEntry h, free]), written, place, h.space.part, regGet, frameStores_regs, saveSpace_regs, h.space.regs, regGet]

theorem takeEntry_entered : Entered t s (settle (takeEntry x t epc sync)) epc (handlerStart s t sync) (sync.getD 0) := by
  have made := takeEntry_atEntry h free epc sync rfl rfl
  have kept := fun {β : Type} (g : Thread → β) blind => frameStores_part g blind (saveSpace x t) t (savePlace (thr s t))
    (frameItems (thr x t).arch (if sync.isSome then 2 else 1) epc)
  generalize frameStores (saveSpace x t) t (savePlace (thr s t)) (frameItems (thr x t).arch (if sync.isSome then 2 else 1) epc) = y at made kept
  rw [made]
  have arch : (thr (settle (modThr y t (handlerThr (regGet s .knkVec (thr s t).part) (savePlace (thr s t)) epc sync))) t).arch =
      handlerArch (setPort (thr y t).arch 0x1C3 (w64 (savePlace (thr s t)))) (regGet s .knkVec (thr s t).part) epc sync :=
    (settle_arch _ t).trans (modThr_arch y t _)
  obtain ⟨ports5, ports6, ports2, ports3⟩ := handlerArch_ports (setPort (thr y t).arch 0x1C3 (w64 (savePlace (thr s t))))
    (regGet s .knkVec (thr s t).part) epc sync
  have own := saveSpace_thr x t t
  constructor
  case pc => rw [arch, handlerArch_pc, handlerStart]
  case ssp => rw [arch]; exact ports3.trans (port_setPort_self _ _ _)
  case epc => rw [arch]; exact ports5
  case cause => rw [arch]; exact ports6
  case kde => rw [arch]; exact ports2
  case imm => rw [arch]; rfl
  case rep => rw [arch]; rfl
  case g =>
    have same := kept (fun th => th.arch.g) fun _ _ _ _ => rfl
    rw [arch, handlerArch_g, ← h.g, ← own]
    exact same
  case st =>
    have ready : (thr (modThr y t (handlerThr (regGet s .knkVec (thr s t).part) (savePlace (thr s t)) epc sync)) t).st = .ready := by
      rw [modThr_self]
      rfl
    rw [settle_st _ _ (by rw [ready]; decide), ready]
  case frames =>
    rw [settle_part _ t Thread.frames fun _ _ _ _ => rfl, modThr_self, ← h.frames, ← own]
    exact congrArg (· + 1) (kept Thread.frames fun _ _ _ _ => rfl)
  case runPri =>
    rw [settle_part _ t Thread.runPri fun _ _ _ _ => rfl, modThr_self, ← h.runPri, ← own]
    exact kept Thread.runPri fun _ _ _ _ => rfl
  case prio =>
    rw [settle_part _ t Thread.prio fun _ _ _ _ => rfl, modThr_self, ← h.prio, ← own]
    exact kept Thread.prio fun _ _ _ _ => rfl
  case resv =>
    rw [settle_part _ t Thread.resv fun _ _ _ _ => rfl, modThr_self, ← h.resv, ← own]
    exact kept Thread.resv fun _ _ _ _ => rfl

/-- R369: each word of the frame stands in the store buffer at its place below ts.ssp. -/
theorem takeEntry_buffers {i : Nat} {y : Word × Bool} (item : (frameItems (thr x t).arch (if sync.isSome then 2 else 1) epc)[i]? = some y) :
    Buffers s (settle (takeEntry x t epc sync)) t (okPieces (saveSpace s t) t ((savePlace (thr s t) + 16 * i) % 2 ^ 56) 16 3) 16 y.1 y.2 := by
  have made := takeEntry_atEntry h free epc sync rfl rfl
  have stored := frameStores_buffers (saveSpace x t) t (savePlace (thr s t)) _ i y item
  rw [okPieces_space (saveSpace_atEntry h)] at stored
  generalize frameStores (saveSpace x t) t (savePlace (thr s t)) (frameItems (thr x t).arch (if sync.isSome then 2 else 1) epc) = z at made stored
  obtain ⟨e, stands, eq, since⟩ := stored
  rw [saveSpace_thr, h.next] at since
  refine ⟨e, ?_, eq, since⟩
  rw [made, settle_part _ t Thread.sbuf fun _ _ _ _ => rfl, modThr_self]
  exact stands

/-- The first word of the frame is the EPC (R369). -/
theorem takeEntry_buffersEpc :
    Buffers s (settle (takeEntry x t epc sync)) t (okPieces (saveSpace s t) t (savePlace (thr s t)) 16 3) 16 (w64 epc.toNat) false := by
  have first := frameItems_first (thr x t).arch (if sync.isSome then 2 else 1) epc
  have place : (savePlace (thr s t) + 16 * 0) % 2 ^ 56 = savePlace (thr s t) := by
    rw [Nat.mul_zero, Nat.add_zero, savePlace, Nat.mod_mod]
  have stored := takeEntry_buffers h free epc sync first
  rw [place] at stored
  exact stored

/-- An entry leaves the part of a thread that a synchronous knock records. -/
theorem takeEntry_part {β : Type} (g : Thread → β) (blind : ∀ th l n, g { th with sbuf := l, nextOp := n } = g th)
    (settled : ∀ th st park fence y, g { th with st := st, park := park, fence := fence, yieldFor := y } = g th)
    (handled : ∀ vec va th, g (handlerThr vec va epc sync th) = g th) : g (thr (settle (takeEntry x t epc sync)) t) = g (thr x t) := by
  have made := takeEntry_atEntry h free epc sync rfl rfl
  have kept := frameStores_part g (fun th l n y => (settled { th with sbuf := l, nextOp := n } th.st th.park th.fence y).trans (blind th l n)) (saveSpace x t) t
    (savePlace (thr s t)) (frameItems (thr x t).arch (if sync.isSome then 2 else 1) epc)
  generalize frameStores (saveSpace x t) t (savePlace (thr s t)) (frameItems (thr x t).arch (if sync.isSome then 2 else 1) epc) = z at made kept
  rw [made, settle_part _ t g fun th st park fence => settled th st park fence th.yieldFor, modThr_self, ← saveSpace_thr x t t, ← kept]
  exact (settled (handlerThr _ _ epc sync (thr z t)) _ _ _ _).trans (handled _ _ _)

end
/-! ### A knock of a source (R368) -/

theorem alook_mem {α : Type} {l : List (Nat × α)} {k : Nat} {v : α} (found : alook l k = some v) : (k, v) ∈ l := by
  obtain ⟨⟨j, w⟩, hit, rfl⟩ := Option.map_eq_some_iff.1 found
  obtain rfl : j = k := by simpa using List.find?_some hit
  exact List.mem_of_find?_eq_some hit

section
variable {a b : Arch} (h : EngStOnly a b)
include h

theorem contains_engSt {p : Nat} (other : p ≠ 0x302) : b.poison.contains p = a.poison.contains p := by
  rw [Bool.eq_iff_iff, List.contains_iff_mem, List.contains_iff_mem]
  exact h.poison p other

theorem anyPoison_engSt {ps : List Nat} (others : ∀ p ∈ ps, p ≠ 0x302) : anyPoison b ps = anyPoison a ps := by
  unfold anyPoison
  rw [Bool.eq_iff_iff, List.any_eq_true, List.any_eq_true]
  refine exists_congr fun p => and_congr_right fun hp => ?_
  rw [contains_engSt h (others p hp)]

theorem portItem_engSt {p : Nat} (other : p ≠ 0x302) : portItem b p = portItem a p := by
  rw [portItem, portItem, h.port p other, contains_engSt h other]

theorem ctlWord_engSt (kind : Nat) : ctlWord b kind = ctlWord a kind := by
  have tgt : b.tgtAbs = a.tgtAbs := by rw [h.rest]
  have cnt : b.immCnt = a.immCnt := by rw [h.rest]
  have rep : b.rep = a.rep := by rw [h.rest]
  have sh : b.shW = a.shW := by rw [h.rest]
  have st : b.stW = a.stW := by rw [h.rest]
  have at_ : b.atW = a.atW := by rw [h.rest]
  unfold ctlWord
  rw [tgt, cnt, rep, sh, st, at_, h.port 0x1C6 (by decide), h.port 0x118 (by decide), h.port 0x0B6 (by decide)]
  dsimp only
  rw [h.port 0x1C2 (by decide), h.port 0x086 (by decide), h.port 0x0B8 (by decide), h.port 0x089 (by decide), h.port 0x0C9 (by decide),
    h.port 0x147 (by decide), h.port 0x065 (by decide)]

/-- eng.st is in no frame (R369). -/
theorem frameItems_engSt (kind : Nat) (epc : VAddr) : frameItems b kind epc = frameItems a kind epc := by
  have imm : b.immAcc = a.immAcc := by rw [h.rest]
  have bits : bitWord b = bitWord a := by
    have same : b.bits = a.bits := by rw [h.rest]
    unfold bitWord tbit
    rw [same]
  unfold frameItems
  refine List.map_congr_left fun i _ => ?_
  split
  · rename_i p found
    have listed : ∀ x ∈ framePorts, x.2 ≠ 0x302 := by decide
    exact portItem_engSt h (listed _ (alook_mem found))
  · rw [ctlWord_engSt h, anyPoison_engSt h (ps := ctlPorts) (by decide), imm, portItem_engSt h (by decide), bits,
      anyPoison_engSt h (ps := [0x140, 0x060, 0x062]) (by decide), anyPoison_engSt h (ps := (List.range 64).map bitPort) (by decide),
      h.port 0x140 (by decide), h.port 0x060 (by decide), h.port 0x062 (by decide)]

end

theorem vecEn_of_free {s : State} {t : Nat} (free : entryBar s t = none) : vecEn s (thr s t).part = true := by
  unfold entryBar at free
  dsimp only at free
  split at free
  · simp at free
  · rename_i on
    simpa using on

/-- A thread that a knock may reach: its keyring's fabric runs, and the device does not hold it (R368). -/
structure Reachable (s : State) (t : Nat) : Prop where
  run : running s = true
  st : (thr s t).st = .ready ∨ (thr s t).st = .wait
  free : (thr s t).freeze = none
  unasked : (thr s t).freezeReq = none

theorem Reachable.live {s : State} {t : Nat} (h : Reachable s t) : live (thr s t) = true := by
  rcases h.st with st | st <;> simp [Machine.live, st, h.free, h.unasked]

/-- R368: a delivered source enters a thread at rest at its next word. -/
theorem asyncEntry_enters {s : State} {t : Nat} (rests : Resting (thr s t)) (reach : Reachable s t) (sync : (thr s t).sync = none)
    (parity : (thr s t).parity = false) (returns : rtnPending (thr s t) = false) (entering : (thr s t).entering = false)
    (direct : (thr s t).direct = false) (fresh : (thr s t).fresh = 0) (delivered : anyDeliver s t = true) (free : entryBar s t = none) :
    ∃ x, asyncEntry s t = takeEntry x t (thr s t).arch.pc none ∧ AtEntry t s x ∧ EngStOnly (thr s t).arch (thr x t).arch := by
  obtain ⟨told, frame⟩ := interrupt_resting none rests
  have at0 := AtEntry.of_told told frame
  unfold asyncEntry
  dsimp only
  rw [if_neg (by simp [reach.run, reach.live, sync, parity, returns]), if_neg (by simp [entering, delivered, fresh])]
  generalize interrupt s t none = z at told at0
  have begun := modThr_self z t (fun th => { th with
    entering := true, fromWait := if th.st = .wait then 1 else th.fromWait, st := .ready, park := .no })
  have at1 := at0.modThr (f := fun th => { th with
    entering := true, fromWait := if th.st = .wait then 1 else th.fromWait, st := .ready, park := .no }) rfl rfl rfl rfl rfl rfl rfl rfl rfl rfl
  generalize modThr z t (fun th => { th with
    entering := true, fromWait := if th.st = .wait then 1 else th.fromWait, st := .ready, park := .no }) = y at begun at1 ⊢
  have still : Resting (thr y t) := (rests.interrupted.told told).congr (by rw [begun]) (by rw [begun]) (by rw [begun])
  have same : (thr y t).direct = false := by
    rw [begun, told.rest]
    exact direct
  have arch : EngStOnly (thr s t).arch (thr y t).arch := by
    rw [begun]
    exact told.arch
  rw [still.atRest, vecEn_of_free ((entryBar_atEntry at1).trans free), same]
  have shown := showAllMul_of_idle still.ops 16
  have made := modThr_self y t (fun th => showAllMul th 16)
  have at2 := at1.modThr (f := fun th => showAllMul th 16) rfl shown rfl rfl rfl rfl rfl rfl rfl rfl
  rw [shown] at made
  refine ⟨modThr y t (fun th => showAllMul th 16), ?_, at2, ?_⟩
  · have pc : (thr (modThr y t (fun th => showAllMul th 16)) t).arch.pc = (thr s t).arch.pc := by
      rw [made, arch.rest]
    rw [← pc]
    rfl
  · rw [made]
    exact arch


/-! ### A thread's own fault (R219, R372) -/

/-- A thread whose own knock is taken: the EPC, the cause and the address of its fault are recorded (R372). -/
def faulted (k : SyncKnock) (epc : VAddr) (th : Thread) : Thread :=
  { th with
    sync := none, parity := if th.sync.isSome then th.parity else false
    entering := false, direct := false
    fva := if k.translation then k.fva else th.fva
    finfo := if k.translation then k.finfo else th.finfo
    arch := { setPort (setPort th.arch 0x1C5 (w64 epc.toNat)) 0x1C6 (w64 k.cause) with pc := epc } }

theorem faulted_ssp (k : SyncKnock) (epc : VAddr) (th : Thread) : port (faulted k epc th).arch 0x1C3 = port th.arch 0x1C3 :=
  (port_setPort_ne _ _ (by decide)).trans (port_setPort_ne _ _ (by decide))

/-- What a fault records in its thread. -/
structure Recorded (th x : Thread) (k : SyncKnock) : Prop where
  taken : x.sync = none
  fva : x.fva = if k.translation then k.fva else th.fva
  finfo : x.finfo = if k.translation then k.finfo else th.finfo

/-- R372: a thread at rest takes its own knock at the knock's EPC. -/
theorem syncEntry_enters {s : State} {t : Nat} {k : SyncKnock} (rests : Resting (thr s t)) (reach : Reachable s t) (sync : (thr s t).sync = some k) :
    ∃ x, syncEntry s t = takeEntry x t k.epc (some k.cause) ∧ AtEntry t s x ∧ Recorded (thr s t) (thr x t) k := by
  obtain ⟨told, frame⟩ := interrupt_resting (some k) rests
  have at0 := AtEntry.of_told told frame
  have due : dueSync (thr s t) = some k := by rw [dueSync, sync]
  have undivided : divOp (thr s t) = none := by rw [divOp, rests.ops, List.find?_nil]
  unfold syncEntry
  dsimp only
  rw [due, undivided]
  dsimp only
  rw [if_neg (by simp [reach.run, reach.live])]
  simp only [Option.isSome_none, Bool.false_and, Bool.false_eq_true, if_false]
  generalize interrupt s t (some k) = z at told at0
  have begun := modThr_self z t (fun th => { th with st := .ready, park := .no })
  have at1 := at0.modThr (f := fun th => { th with st := .ready, park := .no }) rfl rfl rfl rfl rfl rfl rfl rfl rfl rfl
  generalize modThr z t (fun th => { th with st := .ready, park := .no }) = y at begun at1 ⊢
  have still : Resting (thr y t) := (rests.interrupted.told told).congr (by rw [begun]) (by rw [begun]) (by rw [begun])
  have same : (thr y t).sync = some k := by
    rw [begun, told.rest]
    exact sync
  have fva : (thr y t).fva = (thr s t).fva := by
    rw [begun, told.rest]
    rfl
  have finfo : (thr y t).finfo = (thr s t).finfo := by
    rw [begun, told.rest]
    rfl
  rw [still.atRest, same, if_neg (by simp)]
  have shown := showAllMul_of_idle still.ops 16
  have made := modThr_self y t (fun th => faulted k k.epc (showAllMul th 16))
  rw [shown] at made
  refine ⟨modThr y t (fun th => faulted k k.epc (showAllMul th 16)), rfl, ?_, ?_⟩
  · exact at1.modThr rfl (congrArg (faulted k k.epc) shown) rfl rfl (faulted_ssp _ _ _) rfl rfl rfl rfl rfl
  · refine ⟨?_, ?_, ?_⟩ <;> rw [made]
    · rfl
    · exact congrArg (fun v => if k.translation then k.fva else v) fva
    · exact congrArg (fun v => if k.translation then k.finfo else v) finfo

/-- The parts that a thread's halt may change. -/
def haltParts : List Part := [.threads, .engs, .intake, .arbs, .pins, .out]

theorem haltThr_frame (s : State) (t : Nat) : Within (· ∈ haltParts) s (haltThr s t) :=
  have h : ∀ p, p ∈ haltParts → Has (· ∈ haltParts) p := fun _ m => ⟨m⟩
  have := h .threads (by decide)
  have := h .engs (by decide)
  have := h .intake (by decide)
  have := h .arbs (by decide)
  have := h .pins (by decide)
  have := h .out (by decide)
  haltThr_within s t (Within.refl s)

theorem kc_of_within {F : Part → Prop} {s s' : State} (w : Within F s s') (h : ¬ F .kc) : s'.kc = s.kc := (w.rest .kc).resolve_left h

/-- R219: a knock that cannot be taken halts its thread, and its partition is told. -/
theorem entryHalt_halts (s : State) (t : Nat) (epc : VAddr) (f : Option (VAddr × Word)) :
    (thr (entryHalt s t epc f) t).st = .halt ∧ (thr (entryHalt s t epc f) t).current = none ∧ (thr (entryHalt s t epc f) t).sync = none ∧
      (0 < kcErrSrc s.kc (thr s t).part → mayRaise s (thr s t).part (kcErrSrc s.kc (thr s t).part) = true →
        (src (entryHalt s t epc f) (kcErrSrc s.kc (thr s t).part)).pend = true) := by
  unfold entryHalt
  extract_lets s1 p
  have part : p = (thr s t).part := by
    unfold p s1
    rw [modThr_self]
  have kc : (haltThr s1 t).kc = s.kc := (kc_of_within (haltThr_frame s1 t) (by decide)).trans (kc_of_within (modThr_frame s t _) (by decide))
  obtain ⟨halted, -, untaken, idle, -⟩ := haltThr_thread s1 t
  have roused := errKnock_roused (haltThr s1 t) p t
  generalize haltThr s1 t = x at kc halted untaken idle roused ⊢
  refine ⟨(roused.awake (by rw [halted]; decide)).trans halted, (roused.part Thread.current fun _ _ _ _ _ => rfl).trans idle,
    (roused.part Thread.sync fun _ _ _ _ _ => rfl).trans untaken, fun named may => ?_⟩
  rw [errKnock, part, kc]
  exact raise_pend named ((mayRaise_of_kc kc _ _).trans may)

/-- R219: an entry that is barred halts its thread. -/
theorem takeEntry_halts {t : Nat} {s x : State} (h : AtEntry t s x) {f : Option (VAddr × Word)} (barred : entryBar s t = some f) (epc : VAddr)
    (sync : Option Nat) :
    (thr (settle (takeEntry x t epc sync)) t).st = .halt ∧ (thr (settle (takeEntry x t epc sync)) t).current = none ∧
      (thr (settle (takeEntry x t epc sync)) t).sync = none ∧
      (0 < kcErrSrc s.kc (thr s t).part → mayRaise s (thr s t).part (kcErrSrc s.kc (thr s t).part) = true →
        (src (settle (takeEntry x t epc sync)) (kcErrSrc s.kc (thr s t).part)).pend = true) := by
  have made : takeEntry x t epc sync = entryHalt x t epc f := by
    unfold takeEntry
    rw [entryBar_atEntry h, barred]
  obtain ⟨halted, idle, untaken, told⟩ := entryHalt_halts x t epc f
  rw [h.space.kc, h.space.part, mayRaise_of_kc h.space.kc] at told
  rw [made, settle_st _ _ (by rw [halted]; decide), settle_part _ t Thread.current fun _ _ _ _ => rfl, settle_part _ t Thread.sync fun _ _ _ _ => rfl,
    src_of_within (settle_frame _) (by decide)]
  exact ⟨halted, idle, untaken, told⟩

end Sys2Proof.Machine
end

section
/-! SUPPORT. Claims and ends of interrupt (R373, R375, R380): the source that a claim takes, and what a store to KNK_EOI does. -/

namespace Sys2Proof.Machine

open Sys2Proof.Claims

/-! ### The source that a claim takes (R373) -/

/-- Two states that agree on the sources, their routes, the time and what a thread may claim. -/
structure SameClaims (t : Nat) (s x : State) : Prop where
  srcs : x.srcs = s.srcs
  kc : x.kc = s.kc
  now : x.now = s.now
  runPri : (thr x t).runPri = (thr s t).runPri
  fromWait : (thr x t).fromWait = (thr s t).fromWait

theorem srcRoute_congr {s x : State} (srcs : x.srcs = s.srcs) (kc : x.kc = s.kc) (n : Nat) : srcRoute x n = srcRoute s n := by
  unfold srcRoute src
  rw [srcs, kc]

theorem srcRoute_claims {t : Nat} {s x : State} (h : SameClaims t s x) (n : Nat) : srcRoute x n = srcRoute s n := srcRoute_congr h.srcs h.kc n

theorem claimable_claims {t : Nat} {s x : State} (h : SameClaims t s x) (n : Nat) (any : Bool) : claimable x t n any = claimable s t n any := by
  unfold claimable ripe
  rw [srcRoute_claims h, src, h.srcs, h.runPri, h.now, src]

/-- A better source than the best so far takes its place. -/
def better (s : State) (b : Option Nat) (n : Nat) : Option Nat :=
  match b with
  | none => some n
  | some m => if (srcRoute s m).prio < (srcRoute s n).prio then some n else some m

/-- The sources that a thread may claim, in the order of their numbers. -/
def claimables (s : State) (t : Nat) : List Nat := (srcNums s).filter (fun n => claimable s t n ((thr s t).fromWait == 2))

theorem bestSource_eq (s : State) (t : Nat) : bestSource s t = (claimables s t).foldl (better s) none := rfl

theorem bestSource_claims {t : Nat} {s x : State} (h : SameClaims t s x) : bestSource x t = bestSource s t := by
  have order : better x = better s := by
    funext b n
    unfold better
    split
    · rfl
    · rw [srcRoute_claims h, srcRoute_claims h]
  have same : claimables x t = claimables s t := by
    unfold claimables srcNums
    rw [h.srcs, h.fromWait]
    simp only [claimable_claims h]
  rw [bestSource_eq, same, order, bestSource_eq]

/-- A source below a priority is replaced by one of that priority, which none that follows replaces. -/
theorem foldl_better {s : State} {n : Nat} (l r : List Nat) (below : ∀ m ∈ l, (srcRoute s m).prio < (srcRoute s n).prio)
    (above : ∀ m ∈ r, (srcRoute s m).prio ≤ (srcRoute s n).prio) : (l ++ n :: r).foldl (better s) none = some n := by
  have first : ∀ m, l.foldl (better s) none = some m → (srcRoute s m).prio < (srcRoute s n).prio := by
    refine List.foldlRecOn (motive := fun b => ∀ m, b = some m → (srcRoute s m).prio < (srcRoute s n).prio) l (better s) (by simp) ?_
    intro b low m hm k best
    unfold better at best
    split at best
    · rw [← Option.some.inj best]
      exact below m hm
    · split at best
      · rw [← Option.some.inj best]
        exact below m hm
      · exact low k best
  have taken : better s (l.foldl (better s) none) n = some n := by
    unfold better
    split
    · rfl
    · rename_i m best
      rw [if_pos (first m best)]
  rw [List.foldl_append, List.foldl_cons, taken]
  exact List.foldlRecOn (motive := fun b => b = some n) r (better s) rfl fun b hb m hm => by
    rw [hb, better, if_neg (Nat.not_lt.2 (above m hm))]

/-- The keys of a table in its canonical form ascend. -/
theorem tabWf_ascends {α : Type} [DecidableEq α] {d : α} {l : Tab α} : ∀ {lo : Option Nat}, tabWf d lo l = true →
    (∀ k ∈ l.map (·.1), ∀ j, lo = some j → j < k) ∧ (l.map (·.1)).Pairwise (· < ·) := by
  induction l with
  | nil => intro lo _; simp
  | cons kv l ih =>
    obtain ⟨j, v⟩ := kv
    intro lo wf
    obtain ⟨low, -, rest⟩ := (tabWf_cons lo j v l).1 wf
    obtain ⟨above, ascends⟩ := ih rest
    refine ⟨fun k hk i hi => ?_, List.pairwise_cons.2 ⟨fun k hk => above k hk j rfl, ascends⟩⟩
    rcases List.mem_cons.1 hk with rfl | hk
    · exact low i hi
    · exact (low i hi).trans (above k hk j rfl)

theorem tget_unlisted {α : Type} {d : α} {l : Tab α} {k : Nat} (unlisted : k ∉ l.map (·.1)) : tget d l k = d := by
  induction l with
  | nil => rfl
  | cons kv l ih =>
    simp only [List.map_cons, List.mem_cons, not_or] at unlisted
    rw [tget, if_neg fun same => unlisted.1 same.symm, ih unlisted.2]

/-- A source that a thread may claim is listed: the others are not pending. -/
theorem mem_claimables {s : State} {t n : Nat} : n ∈ claimables s t ↔ claimable s t n ((thr s t).fromWait == 2) = true := by
  rw [claimables, List.mem_filter]
  refine ⟨And.right, fun could => ⟨?_, could⟩⟩
  by_contra unlisted
  have idle : src s n = srcInit := tget_unlisted unlisted
  simp [claimable, idle, srcInit] at could

/-- R373: the claim takes the source of the highest PRIO, and of those the lowest number. -/
theorem bestSource_best {s : State} {t n : Nat} (wf : tabWf srcInit none s.srcs = true) (could : claimable s t n ((thr s t).fromWait == 2) = true)
    (best : ∀ m, claimable s t m ((thr s t).fromWait == 2) = true →
      (srcRoute s m).prio < (srcRoute s n).prio ∨ ((srcRoute s m).prio = (srcRoute s n).prio ∧ n ≤ m)) : bestSource s t = some n := by
  have ascends : (claimables s t).Pairwise (· < ·) := (tabWf_ascends wf).2.filter _
  obtain ⟨l, r, split⟩ := List.append_of_mem (mem_claimables.2 could)
  have among : ∀ m, m ∈ l ∨ m ∈ r → (srcRoute s m).prio < (srcRoute s n).prio ∨ ((srcRoute s m).prio = (srcRoute s n).prio ∧ n ≤ m) := fun m hm =>
    best m (mem_claimables.1 (by rw [split]; simpa using hm.imp_right .inr))
  rw [split, List.pairwise_append] at ascends
  rw [bestSource_eq, split]
  refine foldl_better l r (fun m hm => ?_) (fun m hm => ?_)
  · exact (among m (.inl hm)).resolve_right fun ⟨_, past⟩ => absurd (ascends.2.2 m hm n (by simp)) (Nat.not_lt.2 past)
  · exact (among m (.inr hm)).elim Nat.le_of_lt fun ⟨same, _⟩ => same.le

theorem bestSource_none {s : State} {t : Nat} (none_ : ∀ m, claimable s t m ((thr s t).fromWait == 2) = false) : bestSource s t = none := by
  have empty : claimables s t = [] := List.filter_eq_nil_iff.2 fun m _ => by simp [none_ m]
  rw [bestSource_eq, empty]
  rfl

/-! ### Claims (R373) -/

theorem claimOp_flies {th : Thread} {o : Op} (h : claimOp th = some o) : o ∈ th.arch.ops := by
  unfold claimOp at h
  split at h
  · simp at h
  · rename_i found
    simp only [Option.ite_none_right_eq_some, Option.some.injEq] at h
    obtain ⟨-, rfl⟩ := h
    exact List.mem_of_find?_eq_some found

theorem sameClaims_modThr {t : Nat} {s : State} {f : Thread → Thread} (runPri : (f (thr s t)).runPri = (thr s t).runPri)
    (fromWait : (f (thr s t)).fromWait = (thr s t).fromWait) : SameClaims t s (modThr s t f) := by
  have w := modThr_frame s t f
  refine ⟨(w.rest .srcs).resolve_left (by decide), (w.rest .kc).resolve_left (by decide), (w.rest .now).resolve_left (by decide), ?_, ?_⟩ <;> rw [modThr_self]
  · exact runPri
  · exact fromWait

/-- A source that a thread has claimed (R373). -/
def claimed (t now : Nat) (x : Src) : Src :=
  { x with pend := false, cnt := 0, ripeNow := false, active := true, claimer := t, lastClaim := some now, route := none }

/-- A thread that makes a claim: its window after an end of interrupt is over, and so is its time out of WAIT (R366, R373). -/
def claiming (th : Thread) : Thread := { th with exitWin := false, fromWait := if th.fromWait = 2 then 0 else th.fromWait }

/-- A claim ends the thread's window after an end of interrupt. -/
def windowOver (s : State) (t : Nat) : State := modThr s t (fun th => { th with exitWin := false })

/-- A claim ends the thread's time out of WAIT. -/
def outOfWait (s : State) (t : Nat) : State := modThr (windowOver s t) t (fun th => { th with fromWait := if th.fromWait = 2 then 0 else th.fromWait })

theorem claim_def (s : State) (t : Nat) : claim s t = match bestSource (windowOver s t) t with
    | none => (0, outOfWait s t)
    | some n => (w64 ((srcRoute (outOfWait s t) n).prio * 4096 + n), modThr (modSrc (outOfWait s t) n (claimed t (outOfWait s t).now)) t
        (fun th => { th with prio := (th.runPri, n) :: th.prio, runPri := (srcRoute (outOfWait s t) n).prio })) := rfl

/-- What a claim answers, and the state that it leaves. -/
theorem claim_eq (s : State) (t : Nat) : ∃ x, Within (· = .threads) s x ∧ thr x t = { claiming (thr s t) with yieldFor := (thr x t).yieldFor } ∧
    claim s t = match bestSource s t with
      | none => (0, x)
      | some n => (w64 ((srcRoute s n).prio * 4096 + n), modThr (modSrc x n (claimed t s.now)) t
          (fun th => { th with prio := (th.runPri, n) :: th.prio, runPri := (srcRoute s n).prio })) := by
  have frame1 : Within (· = .threads) s (windowOver s t) := modThr_frame _ _ _
  have frame2 : Within (· = .threads) (windowOver s t) (outOfWait s t) := modThr_frame _ _ _
  have frame : Within (· = .threads) s (outOfWait s t) := within_step frame1 frame2.pending frame2.rest
  have own : thr (outOfWait s t) t = { claiming (thr s t) with yieldFor := (thr (outOfWait s t) t).yieldFor } := by
    have made1 := modThr_self s t (fun th => { th with exitWin := false })
    have made2 := modThr_self (windowOver s t) t (fun th => { th with fromWait := if th.fromWait = 2 then 0 else th.fromWait })
    rw [windowOver, made1] at made2
    exact made2
  have found : bestSource (windowOver s t) t = bestSource s t :=
    bestSource_claims (sameClaims_modThr (f := fun th => { th with exitWin := false }) rfl rfl)
  have route : ∀ n, srcRoute (outOfWait s t) n = srcRoute s n := srcRoute_congr ((frame.rest .srcs).resolve_left (by decide))
    (kc_of_within frame (by decide))
  have now : (outOfWait s t).now = s.now := (frame.rest .now).resolve_left (by decide)
  refine ⟨outOfWait s t, frame, own, ?_⟩
  rw [claim_def, found]
  generalize outOfWait s t = x at route now ⊢
  split
  · rfl
  · rw [route, now]

/-- What the performed load of KNK_CLAIM leaves of the claim's state. -/
structure ClaimLanded (y s' : State) (t r w : Nat) (v : Word) : Prop where
  reg : greg (thr s' t).arch r = lowDigits w v
  rdata : s'.rdata = v
  srcs : s'.srcs = y.srcs
  runPri : (thr s' t).runPri = (thr y t).runPri
  prio : (thr s' t).prio = (thr y t).prio
  exitWin : (thr s' t).exitWin = (thr y t).exitWin

section
variable {t : Nat} {o : Op} {r w : Nat} {va : VAddr} {ps : Pieces} {fwd : Option (Word × Bool)} {reserve : Bool} (kind : o.kind = .load r w va ps fwd reserve)
  (low : r < 64)
include kind low

theorem landClaim_lands {y : State} (flies : o ∈ (thr y t).arch.ops) (v : Word) :
    ClaimLanded y (settle (landValue { y with rdata := v } t o v false)) t r w v := by
  have made : landValue { y with rdata := v } t o v false = modThr { y with rdata := v } t
      (fun th => landOp th o.id (fun a => if r < 64 then setPoison (setG a r (lowDigits w v)) r false else a)) := by
    simp only [landValue, kind]
  have frame : Within (· = .threads) { y with rdata := v } (settle (landValue { y with rdata := v } t o v false)) := by
    rw [made]
    exact within_step (modThr_frame _ _ _) (settle_frame _).pending (settle_frame _).rest
  have kept : ∀ {β : Type} (g : Thread → β), (∀ th st park fence, g { th with st := st, park := park, fence := fence } = g th) →
      (∀ th y, g { th with yieldFor := y } = g th) → (∀ th id f, g (landOp th id f) = g th) →
      g (thr (settle (landValue { y with rdata := v } t o v false)) t) = g (thr y t) := fun g settled yielded landed => by
    rw [settle_part _ t g settled, made, modThr_self, yielded]
    exact landed _ _ _
  have lands := landValue_lands (s := { y with rdata := v }) kind flies low v false
  exact ⟨lands.1, (frame.rest .rdata).resolve_left (by decide), (frame.rest .srcs).resolve_left (by decide),
    kept Thread.runPri (fun _ _ _ _ => rfl) (fun _ _ => rfl) fun _ _ _ => rfl,
    kept Thread.prio (fun _ _ _ _ => rfl) (fun _ _ => rfl) fun _ _ _ => rfl,
    kept Thread.exitWin (fun _ _ _ _ => rfl) (fun _ _ => rfl) fun _ _ _ => rfl⟩

theorem claimLands_lands {s : State} (claims : claimOp (thr s t) = some o) {v : Word} {y : State} (answer : claim s t = (v, y))
    (ops : (thr y t).arch.ops = (thr s t).arch.ops) : ClaimLanded y (claimLands s t) t r w v := by
  unfold claimLands
  rw [claims]
  dsimp only
  rw [answer]
  exact landClaim_lands kind low (by rw [ops]; exact claimOp_flies claims) v

/-- R373: a load of KNK_CLAIM that may be performed takes the best source. -/
theorem claimLands_takes {s : State} (claims : claimOp (thr s t) = some o) {n : Nat} (best : bestSource s t = some n) {v : Word}
    (value : w64 ((srcRoute s n).prio * 4096 + n) = v) :
    greg (thr (claimLands s t) t).arch r = lowDigits w v ∧ (claimLands s t).rdata = v ∧ src (claimLands s t) n = claimed t s.now (src s n) ∧
      (thr (claimLands s t) t).runPri = (srcRoute s n).prio ∧ (thr (claimLands s t) t).prio = ((thr s t).runPri, n) :: (thr s t).prio ∧
      (thr (claimLands s t) t).exitWin = false := by
  subst value
  obtain ⟨x, frame, own, answer⟩ := claim_eq s t
  rw [best] at answer
  have taken := modThr_self (modSrc x n (claimed t s.now)) t (fun th => { th with prio := (th.runPri, n) :: th.prio, runPri := (srcRoute s n).prio })
  have sources : src (modThr (modSrc x n (claimed t s.now)) t (fun th => { th with prio := (th.runPri, n) :: th.prio, runPri := (srcRoute s n).prio })) n =
      claimed t s.now (src s n) := by
    rw [src_of_within (modThr_frame _ _ _) (by decide), src_modSrc, src_of_within frame (by decide)]
  rw [modSrc_thr, own] at taken
  dsimp only at answer
  generalize modThr (modSrc x n (claimed t s.now)) t (fun th => { th with prio := (th.runPri, n) :: th.prio, runPri := (srcRoute s n).prio }) = y
    at answer taken sources
  have lands := claimLands_lands kind low claims answer (by rw [taken]; rfl)
  refine ⟨lands.reg, lands.rdata, ?_, ?_, ?_, ?_⟩
  · rw [src, lands.srcs]
    exact sources
  · rw [lands.runPri, taken]
  · rw [lands.prio, taken]
    rfl
  · rw [lands.exitWin, taken]
    rfl

/-- R373: where there is nothing to claim, the load reads 0. -/
theorem claimLands_none {s : State} (claims : claimOp (thr s t) = some o) (best : bestSource s t = none) :
    greg (thr (claimLands s t) t).arch r = 0 ∧ (claimLands s t).srcs = s.srcs ∧ (thr (claimLands s t) t).runPri = (thr s t).runPri ∧
      (thr (claimLands s t) t).prio = (thr s t).prio := by
  obtain ⟨x, frame, own, answer⟩ := claim_eq s t
  rw [best] at answer
  have lands := claimLands_lands kind low claims answer (by rw [own]; rfl)
  refine ⟨lands.reg.trans (by simp [lowDigits]), lands.srcs.trans ((frame.rest .srcs).resolve_left (by decide)), ?_, ?_⟩
  · rw [lands.runPri, own]
    rfl
  · rw [lands.prio, own]
    rfl

end

/-! ### Ends of interrupt (R375, R380) -/

/-- R375, R377: a stray end of interrupt or return is counted, and does nothing else. -/
theorem stray_strays (s : State) (t : Nat) :
    fldGet (stray s t) .knkStrayCnt (thr s t).part 31 0 = min (2 ^ 32 - 1) (fldGet s .knkStrayCnt (thr s t).part 31 0 + 1) ∧
      (stray s t).srcs = s.srcs ∧ thr (stray s t) t = thr s t :=
  ⟨fldGet_bump s .knkStrayCnt (thr s t).part (by decide), rfl, rfl⟩

section
variable {s : State} {t : Nat}

theorem endOfInterrupt_idle (idle : (thr s t).prio = []) {n : Nat} (named : n ≠ 0) : endOfInterrupt s t n = stray s t := by
  unfold endOfInterrupt
  dsimp only
  rw [idle]
  exact if_neg named

variable {old top : Nat} {more : List (Nat × Nat)} (serving : (thr s t).prio = (old, top) :: more)
include serving

/-- What a store to KNK_EOI does while the thread serves a knock. -/
theorem endOfInterrupt_serving (n : Nat) : endOfInterrupt s t n =
    if n = 0 then (if (src s top).active && (src s top).claimer == t then s else putThr s t { thr s t with prio := more, runPri := old })
    else if n = top ∧ ((src s top).active && (src s top).claimer == t) = true then
      wakeTargets (modThr (modSrc s n (fun x => { x with active := false })) t (fun th => { th with prio := more, runPri := old, exitWin := true })) n
    else stray s t := by
  unfold endOfInterrupt
  dsimp only
  rw [serving]

/-- R375: the end of the knock that the thread serves. -/
theorem endOfInterrupt_ends (named : top ≠ 0) (mine : (src s top).active = true ∧ (src s top).claimer = t) :
    (thr (endOfInterrupt s t top) t).prio = more ∧ (thr (endOfInterrupt s t top) t).runPri = old ∧ (thr (endOfInterrupt s t top) t).exitWin = true ∧
      src (endOfInterrupt s t top) top = { src s top with active := false } := by
  rw [endOfInterrupt_serving serving, if_neg named, if_pos ⟨rfl, by simp [mine]⟩]
  have popped := modThr_self (modSrc s top (fun x => { x with active := false })) t (fun th => { th with prio := more, runPri := old, exitWin := true })
  have frame := modThr_frame (modSrc s top (fun x => { x with active := false })) t (fun th => { th with prio := more, runPri := old, exitWin := true })
  generalize modThr (modSrc s top (fun x => { x with active := false })) t (fun th => { th with prio := more, runPri := old, exitWin := true }) = y
    at popped frame ⊢
  have roused := wakeTargets_roused y top t
  refine ⟨(roused.part Thread.prio fun _ _ _ _ _ => rfl).trans (by rw [popped]), (roused.part Thread.runPri fun _ _ _ _ _ => rfl).trans (by rw [popped]),
    (roused.part Thread.exitWin fun _ _ _ _ _ => rfl).trans (by rw [popped]), ?_⟩
  rw [src_of_within (wakeTargets_frame _ _) (by decide), src_of_within frame (by decide), src_modSrc]

theorem endOfInterrupt_strays {n : Nat} (named : n ≠ 0) (other : ¬ (n = top ∧ (src s top).active = true ∧ (src s top).claimer = t)) :
    endOfInterrupt s t n = stray s t := by
  rw [endOfInterrupt_serving serving, if_neg named, if_neg (by simpa using other)]

/-- R380: a store of 0 pops the entry of a source that the thread no longer holds active. -/
theorem endOfInterrupt_pops (other : ¬ ((src s top).active = true ∧ (src s top).claimer = t)) :
    (thr (endOfInterrupt s t 0) t).prio = more ∧ (thr (endOfInterrupt s t 0) t).runPri = old ∧ (endOfInterrupt s t 0).srcs = s.srcs := by
  have frame : Within (· = .threads) s (putThr s t { thr s t with prio := more, runPri := old }) :=
    have : Has (· = .threads) .threads := ⟨rfl⟩
    putThr_within _ _ _ (Within.refl s)
  rw [endOfInterrupt_serving serving, if_pos rfl, if_neg (by simpa using other), putThr_self]
  exact ⟨rfl, rfl, (frame.rest .srcs).resolve_left (by decide)⟩

theorem endOfInterrupt_stays (mine : (src s top).active = true ∧ (src s top).claimer = t) : endOfInterrupt s t 0 = s := by
  rw [endOfInterrupt_serving serving, if_pos rfl, if_pos (by simp [mine])]

end

end Sys2Proof.Machine
end

section
/-! SUPPORT. Returns (R376 to R378), and threads that are frozen at a word boundary (R137, R139). -/

namespace Sys2Proof.Machine

open Sys2Proof.Claims

/-! ### What a return restores (R369, R376) -/

/-- A discardable state of which only ports, thread bits and poison differ. -/
def PortsOnly (a b : Arch) : Prop := b = { a with ports := b.ports, bits := b.bits, poison := b.poison }

theorem PortsOnly.trans {a b c : Arch} (h : PortsOnly a b) (k : PortsOnly b c) : PortsOnly a c := by
  unfold PortsOnly at *
  rw [k, h]

/-- Several items of a frame restored. -/
def putItems (a : Arch) (l : List (Nat × Word × Bool)) : Arch := l.foldl (fun a x => putItem a x.1 x.2.1 x.2.2) a

theorem putItem_ports (a : Arch) (p : Nat) (v : Word) (bad : Bool) : PortsOnly a (putItem a p v bad) := rfl

theorem putItems_ports (l : List (Nat × Word × Bool)) (a : Arch) : PortsOnly a (putItems a l) :=
  List.foldlRecOn (motive := PortsOnly a) l _ rfl fun _ same x _ => same.trans (putItem_ports _ x.1 x.2.1 x.2.2)

theorem port_putItem_self (a : Arch) (p : Nat) (v : Word) (bad : Bool) : port (putItem a p v bad) p = v := port_setPort_self a p v

theorem port_putItem_ne (a : Arch) {p q : Nat} (v : Word) (bad : Bool) (other : q ≠ p) : port (putItem a p v bad) q = port a q :=
  port_setPort_ne a v other

theorem port_putItems_ne {l : List (Nat × Word × Bool)} {q : Nat} (others : ∀ x ∈ l, q ≠ x.1) (a : Arch) : port (putItems a l) q = port a q :=
  List.foldlRecOn (motive := fun b => port b q = port a q) l _ rfl fun b same x hx => (port_putItem_ne b x.2.1 x.2.2 (others x hx)).trans same

/-- The thread bits of a frame restored. -/
def putBits (a : Arch) (v : Word) (bad : Bool) : Arch :=
  (List.range 64).foldl (fun a i => setPoison (setBit a i (v.getLsbD i)) (bitPort i) bad) a

theorem putBits_ports (a : Arch) (v : Word) (bad : Bool) : PortsOnly a (putBits a v bad) :=
  List.foldlRecOn (motive := PortsOnly a) _ _ rfl fun _ same _ _ => same.trans rfl

theorem port_putBits (a : Arch) (v : Word) (bad : Bool) (p : Nat) : port (putBits a v bad) p = port a p :=
  List.foldlRecOn (motive := fun b => port b p = port a p) _ _ rfl fun _ same _ _ => same

theorem tbit_putBits (a : Arch) (v : Word) (bad : Bool) {i : Nat} (low : i < 64) : tbit (putBits a v bad) i = v.getLsbD i := by
  have each : ∀ (l : List Nat) (b : Arch), tbit (l.foldl (fun a i => setPoison (setBit a i (v.getLsbD i)) (bitPort i) bad) b) i =
      if i ∈ l then v.getLsbD i else tbit b i := by
    intro l
    induction l with
    | nil => intro b; simp
    | cons j l ih =>
      intro b
      have set : tbit (setPoison (setBit b j (v.getLsbD j)) (bitPort j) bad) i = if i = j then v.getLsbD j else tbit b i := tget_tset _ _ _ _
      rw [List.foldl_cons, ih, set]
      by_cases here : i ∈ l
      · simp [here]
      · by_cases same : i = j
        · simp [same]
        · simp [here, same]
  rw [putBits, each, if_pos (List.mem_range.2 low)]

/-- The ports that the word CTL of a frame restores. -/
def ctlItems (c : Word) (bad : Bool) : List (Nat × Word × Bool) :=
  [(0x1C6, w64 (fld c 7 0), bad), (0x1C2, w64 (fld c 12 12), bad), (0x086, w64 (fld c 14 14), bad), (0x0B8, w64 (fld c 15 15), bad),
    (0x118, w64 (fld c 23 20 + 1), bad), (0x0B6, w64 (fld c 39 32), bad), (0x089, w64 (fld c 52 52), bad), (0x0C9, w64 (fld c 53 53), bad),
    (0x147, w64 (fld c 54 54), bad), (0x065, w64 (fld c 55 55), bad)]

/-- The discardable state that the words CTL and IMM of a frame restore. -/
def putCtl (a : Arch) (c imm : Word) : Arch :=
  { a with
    tgtAbs := fld c 13 13 == 1, immCnt := min 3 (fld c 19 16), immAcc := BitVec.ofNat 48 imm.toNat
    shW := fld c 43 40 + 1, stW := fld c 47 44 + 1, atW := fld c 51 48 + 1
    rep := if fld c 31 24 = 0xFF then { a.rep with active := false } else { active := true, len := fld c 59 56 + 1, pos := fld c 31 24 } }

/-- A word of a frame, and whether it is poisoned. -/
def frameWord (f : List (Word × Bool)) (i : Nat) : Word × Bool := nth (0, false) f i

/-- The ports of a frame that have words of their own. -/
def portItems (f : List (Word × Bool)) : List (Nat × Word × Bool) :=
  framePorts.map (fun x => (x.2, lowDigits (((alook portRows x.2).map (·.width)).getD 16) (frameWord f x.1).1, (frameWord f x.1).2))

/-- The ports that share a word of a frame. -/
def sharedItems (f : List (Word × Bool)) : List (Nat × Word × Bool) :=
  [(0x140, w64 (fld (frameWord f 9).1 11 0), (frameWord f 9).2), (0x060, w64 (fld (frameWord f 9).1 23 12), (frameWord f 9).2),
    (0x062, w64 (fld (frameWord f 9).1 35 24), (frameWord f 9).2)]

/-- The ports that a return has restored, all but ts.epc. -/
def restoredPorts (a : Arch) (f : List (Word × Bool)) : Arch :=
  putItems (putItems (putItem (putCtl (putItems a (ctlItems (frameWord f 1).1 (frameWord f 1).2)) (frameWord f 1).1 (frameWord f 2).1)
    0x11A (lowDigits 8 (frameWord f 3).1) (frameWord f 3).2) (portItems f)) (sharedItems f)

/-- The word that a return goes to, and ts.epc. -/
def putEpc (a : Arch) (v : Word) (bad : Bool) : Arch :=
  { putItem a 0x1C5 (w64 (BitVec.ofNat 56 v.toNat).toNat) bad with pc := BitVec.ofNat 56 v.toNat }

theorem putEpc_fields (a : Arch) (v : Word) (bad : Bool) : (putEpc a v bad).g = a.g ∧ (putEpc a v bad).immAcc = a.immAcc ∧ (putEpc a v bad).bits = a.bits :=
  ⟨rfl, rfl, rfl⟩

theorem port_putEpc (a : Arch) (v : Word) (bad : Bool) {p : Nat} (other : p ≠ 0x1C5) : port (putEpc a v bad) p = port a p :=
  port_setPort_ne a _ other

theorem putCtl_fields (a : Arch) (c imm : Word) : (putCtl a c imm).g = a.g ∧ (putCtl a c imm).immAcc = BitVec.ofNat 48 imm.toNat ∧
    (putCtl a c imm).ports = a.ports := ⟨rfl, rfl, rfl⟩

theorem PortsOnly.g {a b : Arch} (h : PortsOnly a b) : b.g = a.g := by rw [h]

theorem PortsOnly.immAcc {a b : Arch} (h : PortsOnly a b) : b.immAcc = a.immAcc := by rw [h]

/-- R369, R376: the parts of a frame are restored one after another. -/
theorem restoreFrame_eq (a : Arch) (f : List (Word × Bool)) : restoreFrame a f =
    putEpc (putBits (restoredPorts a f) (frameWord f 29).1 (frameWord f 29).2) (frameWord f 0).1 (frameWord f 0).2 := by
  have ports : ∀ b : Arch, putItems b (portItems f) = framePorts.foldl (fun a x => putItem a x.2
      (lowDigits (((alook portRows x.2).map (·.width)).getD 16) (frameWord f x.1).1) (frameWord f x.1).2) b := fun b => List.foldl_map
  rw [restoredPorts, ports]
  rfl

section
variable (a : Arch) (f : List (Word × Bool))

theorem restoreFrame_pc : (restoreFrame a f).pc = BitVec.ofNat 56 (frameWord f 0).1.toNat := by
  rw [restoreFrame_eq, putEpc]

/-- The ports and bits that follow CTL and IMM. -/
theorem restoredPorts_ports : PortsOnly (putCtl (putItems a (ctlItems (frameWord f 1).1 (frameWord f 1).2)) (frameWord f 1).1 (frameWord f 2).1)
    (putBits (restoredPorts a f) (frameWord f 29).1 (frameWord f 29).2) :=
  (((putItem_ports _ _ _ _).trans (putItems_ports _ _)).trans (putItems_ports _ _)).trans (putBits_ports _ _ _)

theorem restoreFrame_g : (restoreFrame a f).g = a.g := by
  rw [restoreFrame_eq, (putEpc_fields _ _ _).1, (restoredPorts_ports a f).g, (putCtl_fields _ _ _).1, (putItems_ports _ a).g]

theorem setPort_g (p : Nat) (v : Word) : (setPort a p v).g = a.g := rfl

theorem restoreFrame_immAcc : (restoreFrame a f).immAcc = BitVec.ofNat 48 (frameWord f 2).1.toNat := by
  rw [restoreFrame_eq, (putEpc_fields _ _ _).2.1, (restoredPorts_ports a f).immAcc, (putCtl_fields _ _ _).2.1]

theorem restoreFrame_tbit {i : Nat} (low : i < 64) : tbit (restoreFrame a f) i = (frameWord f 29).1.getLsbD i := by
  rw [restoreFrame_eq, tbit, (putEpc_fields _ _ _).2.2]
  exact tbit_putBits _ _ _ low

theorem port_restoreFrame {p : Nat} (other : p ≠ 0x1C5) : port (restoreFrame a f) p = port (restoredPorts a f) p := by
  rw [restoreFrame_eq, port_putEpc _ _ _ other, port_putBits]

theorem port_putCtl (c imm : Word) (p : Nat) : port (putCtl a c imm) p = port a p := by
  rw [port, (putCtl_fields _ _ _).2.2, port]

theorem mem_portItems {x : Nat × Word × Bool} (h : x ∈ portItems f) : x.1 ∈ framePorts.map (·.2) := by
  obtain ⟨y, hy, rfl⟩ := List.mem_map.1 h
  exact List.mem_map.2 ⟨y, hy, rfl⟩

/-- A frame does not hold ts.ssp (R369). -/
theorem restoreFrame_ssp : port (restoreFrame a f) 0x1C3 = port a 0x1C3 := by
  have own : 0x1C3 ∉ framePorts.map (·.2) := by decide
  rw [port_restoreFrame _ _ (by decide), restoredPorts, port_putItems_ne (by simp [sharedItems]),
    port_putItems_ne (fun x hx same => own (by rw [same]; exact mem_portItems f hx)), port_putItem_ne _ _ _ (by decide), port_putCtl,
    port_putItems_ne (by simp [ctlItems])]

/-- R369: word 13 of a frame is port #080, of 16 digits. -/
theorem restoreFrame_word13 : port (restoreFrame a f) 0x080 = (frameWord f 13).1 := by
  have parts : framePorts = framePorts.take 8 ++ (13, 0x080) :: framePorts.drop 9 := by decide
  have later : ∀ x ∈ framePorts.drop 9, 0x080 ≠ x.2 := by decide
  have width : ((alook portRows 0x080).map (·.width)).getD 16 = 16 := by decide
  rw [port_restoreFrame _ _ (by decide), restoredPorts, port_putItems_ne (by simp [sharedItems]), portItems, parts, List.map_append, List.map_cons,
    putItems, List.foldl_append, List.foldl_cons]
  refine (port_putItems_ne (fun x hx => ?_) _).trans ?_
  · obtain ⟨y, hy, rfl⟩ := List.mem_map.1 hx
    exact later y hy
  · rw [port_putItem_self, width, lowDigits]
    exact BitVec.and_allOnes

end

/-! ### Returns (R376 to R378) -/

/-- The frame that a return reads at `va`. -/
def frameAt (s : State) (t va : Nat) : List (Word × Bool) :=
  (List.range 32).map (fun i => loadPieces s (okPieces s t ((va + 16 * i) % 2 ^ 56) 16 2))

theorem frameWord_frameAt (s : State) (t va : Nat) {i : Nat} (listed : i < 32) :
    frameWord (frameAt s t va) i = loadPieces s (okPieces s t ((va + 16 * i) % 2 ^ 56) 16 2) := by
  simp [frameWord, nth, frameAt, listed]

theorem frameAt_space {t : Nat} {s x : State} (h : SameSpace t s x) (va : Nat) : frameAt x t va = frameAt s t va := by
  unfold frameAt
  simp only [loadPieces_space h, okPieces_space h]

/-- The state with the TLB filled for the pages of the frame that a return reads. -/
def readSpace (s : State) (t ssp : Nat) : State := entryFill (entryFill s t ssp 2) t ((ssp + 511) % 2 ^ 56) 2

theorem readSpace_space {t : Nat} {s x : State} (h : SameSpace t s x) (ssp : Nat) : SameSpace t (readSpace s t ssp) (readSpace x t ssp) :=
  entryFill_space (entryFill_space h _ _) _ _

/-- A thread that has returned by its frame (R376). -/
def frameRestored (ssp : Nat) (f : List (Word × Bool)) (th : Thread) : Thread :=
  { th with
      arch := restoreFrame (setPort th.arch 0x1C3 (w64 ((ssp + 512) % 2 ^ 56))) f
      frames := th.frames - 1, epcs := th.epcs.drop 1, entering := false, direct := false, strData := none }

theorem restoreEntry_reads {s : State} {t ssp : Nat} (place : (port (thr s t).arch 0x1C3).toNat = ssp) {ps : Pieces}
    (reads : entryAccess s t ssp 512 2 = .ok ps) :
    restoreEntry s t = modThr (touch (readSpace s t ssp) t ssp 512 2) t (frameRestored ssp (frameAt (readSpace s t ssp) t ssp)) := by
  subst place
  unfold restoreEntry
  dsimp only
  rw [reads]
  rfl

/-- A return that has read its frame leaves the state that the frame holds, and the frame is removed (R376). -/
theorem restoreEntry_restores {s : State} {t ssp : Nat} (place : (port (thr s t).arch 0x1C3).toNat = ssp) {ps : Pieces}
    (reads : entryAccess s t ssp 512 2 = .ok ps) :
    (thr (restoreEntry s t) t).arch = restoreFrame (setPort (thr s t).arch 0x1C3 (w64 ((ssp + 512) % 2 ^ 56))) (frameAt (readSpace s t ssp) t ssp) ∧
      (thr (restoreEntry s t) t).frames = (thr s t).frames - 1 := by
  have own : thr (touch (readSpace s t ssp) t ssp 512 2) t = thr s t := by
    rw [touch_thr, readSpace, entryFill_thr, entryFill_thr]
  rw [restoreEntry_reads place reads, modThr_self, own]
  exact ⟨rfl, rfl⟩

section
variable {s : State} {t : Nat}

theorem returnStore_empty (empty : (thr s t).sbuf = []) : returnStore s t = settle (knkReturn s t) := by
  unfold returnStore
  dsimp only
  rw [empty]

/-- R377: a return without a frame is stray. -/
theorem returnStore_strays (empty : (thr s t).sbuf = []) (none_ : (thr s t).frames = 0) :
    fldGet (returnStore s t) .knkStrayCnt (thr s t).part 31 0 = min (2 ^ 32 - 1) (fldGet s .knkStrayCnt (thr s t).part 31 0 + 1) ∧
      (thr (returnStore s t) t).arch = (thr s t).arch := by
  have made : knkReturn s t = stray s t := by
    unfold knkReturn
    exact if_pos none_
  obtain ⟨counted, -, same⟩ := stray_strays s t
  rw [returnStore_empty empty, made, settle_arch, same, fldGet, regGet_of_within (settle_frame _) (by decide)]
  exact ⟨counted, rfl⟩

/-- The state in which a return looks for a knock to take in its place: the thread's window is over. -/
def windowClosed (s : State) (t : Nat) : State := putThr s t { thr s t with exitWin := false }

theorem windowClosed_space : SameSpace t s (windowClosed s t) := sameSpace_modThr (f := fun th => { th with exitWin := false }) rfl

theorem windowClosed_thread : thr (windowClosed s t) t = { thr s t with exitWin := false, yieldFor := (thr (windowClosed s t) t).yieldFor } :=
  putThr_self s t _

theorem knkReturn_framed (framed : 0 < (thr s t).frames) : knkReturn s t =
    if anyDeliver (windowClosed s t) t then
      let x := modThr (windowClosed s t) t (fun th => { th with entering := true, direct := true })
      if atRest (thr x t) then directEntry (modThr x t (fun th => showAllMul th 16)) t else x
    else restoreEntry (windowClosed s t) t := by
  unfold knkReturn
  exact if_neg framed.ne'

/-- R376: while a source is delivered, a return of a thread at rest goes straight to the handler, over the frame that stands. -/
theorem knkReturn_direct (framed : 0 < (thr s t).frames) (rests : Resting (thr s t)) (delivered : anyDeliver (windowClosed s t) t = true) :
    (thr (knkReturn s t) t).arch = handlerArch (thr s t).arch (regGet s .knkVec (thr s t).part) ((thr s t).epcs.headD (thr s t).arch.pc) none ∧
      (thr (knkReturn s t) t).frames = (thr s t).frames := by
  rw [knkReturn_framed framed, if_pos delivered]
  dsimp only
  have begun := modThr_self (windowClosed s t) t (fun th => { th with entering := true, direct := true })
  have frame := (windowClosed_space (s := s) (t := t)).trans (sameSpace_modThr (f := fun th => { th with entering := true, direct := true }) rfl)
  rw [windowClosed_thread] at begun
  generalize modThr (windowClosed s t) t (fun th => { th with entering := true, direct := true }) = y at begun frame ⊢
  have still : Resting (thr y t) := rests.congr (by rw [begun]) (by rw [begun]) (by rw [begun])
  have idle := showAllMul_of_idle still.ops 16
  have shown := modThr_self y t (fun th => showAllMul th 16)
  have space := frame.trans (sameSpace_modThr (f := fun th => showAllMul th 16) (congrArg Thread.part idle))
  rw [idle, begun] at shown
  rw [still.atRest, if_pos rfl]
  generalize modThr y t (fun th => showAllMul th 16) = z at shown space ⊢
  rw [directEntry, modThr_self, shown, regGet, space.regs, regGet]
  exact ⟨rfl, rfl⟩

/-- R376: otherwise a return restores its frame. -/
theorem knkReturn_restores (framed : 0 < (thr s t).frames) (undelivered : anyDeliver (windowClosed s t) t = false) {ssp : Nat}
    (place : (port (thr s t).arch 0x1C3).toNat = ssp) {ps : Pieces} (reads : entryAccess s t ssp 512 2 = .ok ps) :
    (thr (knkReturn s t) t).arch = restoreFrame (setPort (thr s t).arch 0x1C3 (w64 ((ssp + 512) % 2 ^ 56))) (frameAt (readSpace s t ssp) t ssp) ∧
      (thr (knkReturn s t) t).frames = (thr s t).frames - 1 := by
  have space := windowClosed_space (s := s) (t := t)
  have own := windowClosed_thread (s := s) (t := t)
  rw [knkReturn_framed framed, if_neg (by simp [undelivered])]
  generalize windowClosed s t = y at space own ⊢
  obtain ⟨arch, frames⟩ := restoreEntry_restores (s := y) (by rw [own]; exact place) ((entryAccess_space space _ _ _).trans reads)
  rw [arch, frames, frameAt_space (readSpace_space space _), own]
  exact ⟨rfl, rfl⟩

end

/-! ### Freezing (R137, R139) -/

/-- What freezing leaves of a thread (R137, R139). -/
structure Frozen (th x : Thread) (why : Freeze) : Prop where
  st : x.st = .frozen
  why : x.freeze = some why
  asked : x.freezeReq = none
  resv : x.resv = none
  resume : x.resume = if th.st = .parked then .ready else th.st
  pc : x.arch.pc = th.arch.pc
  g : x.arch.g = th.arch.g

theorem freezeNow_freezes {s : State} {t : Nat} (idle : (thr s t).arch.ops = []) (why : Freeze) : Frozen (thr s t) (thr (freezeNow s t why) t) why := by
  rw [freezeNow, modThr_self, showAllMul_of_idle idle]
  exact ⟨rfl, rfl, rfl, rfl, rfl, rfl, rfl⟩

theorem Frozen.settle {s : State} {t : Nat} {th : Thread} {why : Freeze} (h : Frozen th (thr s t) why) : Frozen th (thr (settle s) t) why where
  st := (settle_st s t (by rw [h.st]; decide)).trans h.st
  why := (settle_part s t Thread.freeze fun _ _ _ _ => rfl).trans h.why
  asked := (settle_part s t Thread.freezeReq fun _ _ _ _ => rfl).trans h.asked
  resv := (settle_part s t Thread.resv fun _ _ _ _ => rfl).trans h.resv
  resume := (settle_part s t Thread.resume fun _ _ _ _ => rfl).trans h.resume
  pc := by rw [settle_arch, h.pc]
  g := by rw [settle_arch, h.g]

/-- R137, R139: a thread at rest is interrupted, and FROZEN at its next word. -/
theorem interrupt_freezes {s : State} {t : Nat} (rests : Resting (thr s t)) (why : Freeze) :
    (if atRest (thr (interrupt s t none) t) then freezeNow (interrupt s t none) t why else interrupt s t none) = freezeNow (interrupt s t none) t why ∧
      Frozen (thr s t) (thr (freezeNow (interrupt s t none) t why) t) why := by
  obtain ⟨told, -⟩ := interrupt_resting none rests
  generalize interrupt s t none = x at told ⊢
  have still := rests.interrupted.told told
  obtain ⟨st, freeze, asked, resv, resume, pc, g⟩ := freezeNow_freezes still.ops why
  rw [told.st] at resume
  rw [told.arch.rest] at pc g
  exact ⟨if_pos still.atRest, st, freeze, asked, resv, resume, pc, g⟩

/-- R139: a thread at rest that the device asks to stop is FROZEN. -/
theorem freezeThr_asked {s : State} {t : Nat} (rests : Resting (thr s t)) (st : (thr s t).st = .ready ∨ (thr s t).st = .wait ∨ (thr s t).st = .parked)
    {why : Freeze} (asked : (thr s t).freezeReq = some why) : Frozen (thr s t) (thr (settle (freezeThr s t)) t) why := by
  obtain ⟨made, frozen⟩ := interrupt_freezes rests why
  have stopped : freezeThr s t = freezeNow (interrupt s t none) t why := by
    unfold freezeThr
    dsimp only
    rw [asked, if_neg (by rcases st with st | st | st <;> simp [st])]
    dsimp only
    rw [if_neg (by rcases st with st | st | st <;> simp [st]), made]
  rw [stopped]
  exact frozen.settle

/-- R137: a thread at rest of a moving quad is FROZEN in WAIT or HALT. -/
theorem freezeThr_moving {s : State} {t : Nat} (rests : Resting (thr s t)) (st : (thr s t).st = .wait ∨ (thr s t).st = .halt)
    (unasked : (thr s t).freezeReq = none) (moves : moving s t = true) : Frozen (thr s t) (thr (settle (freezeThr s t)) t) .quadMove := by
  obtain ⟨made, frozen⟩ := interrupt_freezes rests .quadMove
  have stopped : freezeThr s t = freezeNow (interrupt s t none) t .quadMove := by
    unfold freezeThr
    dsimp only
    rw [unasked, if_neg (by rcases st with st | st <;> simp [st])]
    dsimp only
    rw [if_pos ⟨moves, st.symm⟩, made]
  rw [stopped]
  exact frozen.settle

/-! ### The knocks of a thread -/

theorem handlerStart_source (s : State) (t : Nat) : handlerStart s t none = BitVec.ofNat 56 (fld (regGet s .knkVec (thr s t).part) 55 7 * 128) := by
  rw [handlerStart, Option.isSome_none, if_neg (by decide), Nat.add_zero]

theorem handlerStart_fault (s : State) (t c : Nat) :
    handlerStart s t (some c) = BitVec.ofNat 56 (fld (regGet s .knkVec (thr s t).part) 55 7 * 128) + 0x40 := by
  rw [handlerStart, Option.isSome_some, if_pos rfl, BitVec.ofNat_add]
  rfl

section
variable {s : State} {t : Nat} (rests : Resting (thr s t)) (reach : Reachable s t)
include rests reach

/-- R368 to R370: what the entry of a delivered source leaves, and its frame. -/
theorem knockEntry_enters (sync : (thr s t).sync = none) (parity : (thr s t).parity = false) (returns : rtnPending (thr s t) = false)
    (entering : (thr s t).entering = false) (direct : (thr s t).direct = false) (fresh : (thr s t).fresh = 0) (delivered : anyDeliver s t = true)
    (free : entryBar s t = none) {s' : State} (ends : s' = settle (asyncEntry s t)) :
    Entered t s s' (thr s t).arch.pc (handlerStart s t none) 0 ∧
      Buffers s s' t (okPieces (saveSpace s t) t (savePlace (thr s t)) 16 3) 16 (w64 (thr s t).arch.pc.toNat) false ∧
      ∀ i x, (frameItems (thr s t).arch 1 (thr s t).arch.pc)[i]? = some x →
        Buffers s s' t (okPieces (saveSpace s t) t ((savePlace (thr s t) + 16 * i) % 2 ^ 56) 16 3) 16 x.1 x.2 := by
  obtain ⟨x, made, atEntry, arch⟩ := asyncEntry_enters rests reach sync parity returns entering direct fresh delivered free
  subst ends
  rw [made, ← frameItems_engSt arch]
  exact ⟨takeEntry_entered atEntry free _ none, takeEntry_buffersEpc atEntry free _ none, fun i y item => takeEntry_buffers atEntry free _ none item⟩

/-- R372: what the entry of a thread's own fault leaves. -/
theorem syncKnockEntry_enters {k : SyncKnock} (sync : (thr s t).sync = some k) (free : entryBar s t = none) {s' : State}
    (ends : s' = settle (syncEntry s t)) :
    Entered t s s' k.epc (handlerStart s t (some k.cause)) k.cause ∧
      Buffers s s' t (okPieces (saveSpace s t) t (savePlace (thr s t)) 16 3) 16 (w64 k.epc.toNat) false ∧ Recorded (thr s t) (thr s' t) k := by
  obtain ⟨x, made, atEntry, recorded⟩ := syncEntry_enters rests reach sync
  subst ends
  rw [made]
  refine ⟨takeEntry_entered atEntry free _ _, takeEntry_buffersEpc atEntry free _ _, ?_, ?_, ?_⟩
  · exact (takeEntry_part atEntry free _ _ Thread.sync (fun _ _ _ => rfl) (fun _ _ _ _ _ => rfl) fun _ _ _ => rfl).trans recorded.taken
  · exact (takeEntry_part atEntry free _ _ Thread.fva (fun _ _ _ => rfl) (fun _ _ _ _ _ => rfl) fun _ _ _ => rfl).trans recorded.fva
  · exact (takeEntry_part atEntry free _ _ Thread.finfo (fun _ _ _ => rfl) (fun _ _ _ _ _ => rfl) fun _ _ _ => rfl).trans recorded.finfo

/-- R219: a thread that cannot take its own fault halts. -/
theorem syncKnockEntry_halts {k : SyncKnock} (sync : (thr s t).sync = some k) {f : Option (VAddr × Word)} (barred : entryBar s t = some f) :
    (thr (settle (syncEntry s t)) t).st = .halt ∧ (thr (settle (syncEntry s t)) t).current = none ∧ (thr (settle (syncEntry s t)) t).sync = none ∧
      (0 < kcErrSrc s.kc (thr s t).part → mayRaise s (thr s t).part (kcErrSrc s.kc (thr s t).part) = true →
        (src (settle (syncEntry s t)) (kcErrSrc s.kc (thr s t).part)).pend = true) := by
  obtain ⟨x, made, atEntry, -⟩ := syncEntry_enters rests reach sync
  rw [made]
  exact takeEntry_halts atEntry barred _ _

end

/-- R376: what a return leaves that goes straight to the handler. -/
theorem returnStore_direct {s : State} {t : Nat} (empty : (thr s t).sbuf = []) (framed : 0 < (thr s t).frames) (rests : Resting (thr s t))
    (delivered : anyDeliver (windowClosed s t) t = true) :
    (thr (returnStore s t) t).arch.pc = handlerStart s t none ∧ port (thr (returnStore s t) t).arch 0x1C3 = port (thr s t).arch 0x1C3 ∧
      port (thr (returnStore s t) t).arch 0x1C5 = w64 ((thr s t).epcs.headD (thr s t).arch.pc).toNat ∧
      (thr (returnStore s t) t).frames = (thr s t).frames := by
  obtain ⟨arch, frames⟩ := knkReturn_direct framed rests delivered
  obtain ⟨epc, -, -, ssp⟩ := handlerArch_ports (thr s t).arch (regGet s .knkVec (thr s t).part) ((thr s t).epcs.headD (thr s t).arch.pc) none
  rw [returnStore_empty empty, settle_arch, arch, settle_part _ t Thread.frames fun _ _ _ _ => rfl, handlerArch_pc, handlerStart]
  exact ⟨rfl, ssp, epc, frames⟩

/-- R369, R376: what a return leaves that restores its frame. -/
theorem returnStore_restores {s : State} {t : Nat} (empty : (thr s t).sbuf = []) (framed : 0 < (thr s t).frames)
    (undelivered : anyDeliver (windowClosed s t) t = false) {ssp : Nat} (place : (port (thr s t).arch 0x1C3).toNat = ssp) {ps : Pieces}
    (reads : entryAccess s t ssp 512 2 = .ok ps) {word : Nat → Word}
    (words : ∀ i, (loadPieces (readSpace s t ssp) (okPieces (readSpace s t ssp) t ((ssp + 16 * i) % 2 ^ 56) 16 2)).1 = word i) :
    (thr (returnStore s t) t).arch.pc = BitVec.ofNat 56 (word 0).toNat ∧ port (thr (returnStore s t) t).arch 0x1C3 = w64 ((ssp + 512) % 2 ^ 56) ∧
      (thr (returnStore s t) t).arch.g = (thr s t).arch.g ∧ (thr (returnStore s t) t).frames = (thr s t).frames - 1 ∧
      (thr (returnStore s t) t).arch.immAcc = BitVec.ofNat 48 (word 2).toNat ∧ port (thr (returnStore s t) t).arch 0x080 = word 13 ∧
      ∀ i : Fin 64, tbit (thr (returnStore s t) t).arch i = (word 29).getLsbD i := by
  obtain ⟨arch, frames⟩ := knkReturn_restores framed undelivered place reads
  have read : ∀ {i : Nat}, i < 32 → (frameWord (frameAt (readSpace s t ssp) t ssp) i).1 = word i := fun listed => by
    rw [frameWord_frameAt _ _ _ listed, words]
  rw [returnStore_empty empty, settle_arch, arch, settle_part _ t Thread.frames fun _ _ _ _ => rfl, frames, restoreFrame_pc, restoreFrame_ssp, restoreFrame_g,
    restoreFrame_immAcc, restoreFrame_word13, read (by decide), read (by decide), read (by decide), port_setPort_self, setPort_g]
  refine ⟨rfl, rfl, rfl, rfl, rfl, rfl, fun i => ?_⟩
  rw [restoreFrame_tbit _ _ i.isLt, read (by decide)]

/-- Settles O31: a thread at rest loses to an interruption no more than its reservation and a waiting seat request, so its frame, its registers and its
priorities at an entry or a freeze are its own; a claim takes the first of the best sources, which are listed in the order of their numbers. -/
theorem knocksAreTaken : Obligations.KnocksAreTaken := by
  unfold Obligations.KnocksAreTaken
  intro s t th a vec ssp va s1 rest lives entered base
  have resting : rest → Resting (thr s t) := fun ⟨ops, fly, spec⟩ => ⟨ops, fly, spec⟩
  have reach : lives → Reachable s t := fun ⟨run, st, free, unasked⟩ => ⟨run, st, free, unasked⟩
  have tuple : ∀ {s' : State} {epc pc : VAddr} {cause : Nat}, Entered t s s' epc pc cause →
      Buffers s s' t (okPieces s1 t va 16 3) 16 (w64 epc.toNat) false → entered s' epc pc cause := fun e first =>
    ⟨e.pc, e.ssp, e.epc, e.cause, e.kde, e.imm, e.rep, e.g, e.st, e.frames, e.runPri, e.prio, e.resv, first⟩
  refine ⟨?_, ?_, ?_, ?_, ?_, ?_, ?_, ?_⟩
  · intro idle alive sync parity returns entering direct fresh delivered free
    obtain ⟨e, first, items⟩ := knockEntry_enters (resting idle) (reach alive) sync parity returns entering direct fresh delivered free rfl
    rw [handlerStart_source] at e
    exact ⟨_, rfl, tuple e first, items⟩
  · intro k idle alive sync free _ _
    obtain ⟨e, first, recorded⟩ := syncKnockEntry_enters (resting idle) (reach alive) sync free rfl
    rw [handlerStart_fault] at e
    exact ⟨_, rfl, tuple e first, recorded.taken, fun xl => ⟨recorded.fva.trans (if_pos xl), recorded.finfo.trans (if_pos xl)⟩,
      fun xl => ⟨recorded.fva.trans (if_neg (by simp [xl])), recorded.finfo.trans (if_neg (by simp [xl]))⟩⟩
  · intro k f idle alive sync barred
    exact ⟨_, rfl, syncKnockEntry_halts (resting idle) (reach alive) sync barred⟩
  · intro o r w sg ps x y claims kind low
    refine ⟨fun n wf could best => ?_, fun none_ => ?_⟩
    · obtain ⟨reg, rdata, taken, runPri, prio, exitWin⟩ := claimLands_takes kind low claims (bestSource_best wf could best) rfl
      exact ⟨_, rfl, reg, rdata, by rw [taken]; rfl, by rw [taken]; rfl, by rw [taken]; rfl, by rw [taken]; rfl, by rw [taken]; rfl, runPri, prio, exitWin⟩
    · exact ⟨_, rfl, claimLands_none kind low claims (bestSource_none none_)⟩
  · intro n
    obtain ⟨counted, srcs, own⟩ := stray_strays s t
    have strays : endOfInterrupt s t n = stray s t → Completes (.knkEoi t n) s (fun s' =>
        fldGet s' .knkStrayCnt th.part 31 0 = min (2 ^ 32 - 1) (fldGet s .knkStrayCnt th.part 31 0 + 1) ∧ s'.srcs = s.srcs ∧ (thr s' t).prio = th.prio) :=
      fun made => ⟨_, rfl, by rw [made]; exact ⟨counted, srcs, by rw [own]⟩⟩
    have named : n ≠ 0 → n.val ≠ 0 := fun other zero => other (Fin.ext zero)
    refine ⟨fun idle other => strays (endOfInterrupt_idle idle (named other)), fun old top more serving => ⟨fun other same mine => ?_, fun other stale => ?_,
      fun zero stale => ?_, fun zero mine => ?_⟩⟩
    · subst same
      obtain ⟨prio, runPri, exitWin, ended⟩ := endOfInterrupt_ends serving (named other) mine
      exact ⟨_, rfl, ⟨prio, runPri⟩, exitWin, ended⟩
    · exact strays (endOfInterrupt_strays serving (named other) stale)
    · subst zero
      obtain ⟨prio, runPri, kept⟩ := endOfInterrupt_pops serving stale
      exact ⟨_, rfl, ⟨prio, runPri⟩, kept⟩
    · subst zero
      exact ⟨_, rfl, endOfInterrupt_stays serving mine⟩
  · intro empty
    refine ⟨fun none_ => ?_, fun framed delivered idle => ?_, fun framed undelivered ⟨ps, reads⟩ => ?_⟩
    · exact ⟨_, rfl, returnStore_strays empty none_⟩
    · obtain ⟨pc, kept, epc, frames⟩ := returnStore_direct empty framed (resting idle) delivered
      rw [handlerStart_source] at pc
      exact ⟨_, rfl, pc, kept, epc, frames⟩
    · exact ⟨_, rfl, returnStore_restores empty framed undelivered rfl reads fun _ => rfl⟩
  · intro idle st why asked
    obtain ⟨st', freeze, noMore, resv, resume, pc, g⟩ := freezeThr_asked (resting idle) st asked
    exact ⟨_, rfl, st', freeze, noMore, resv, resume, pc, g⟩
  · intro idle st unasked moves
    obtain ⟨st', freeze, -⟩ := freezeThr_moving (resting idle) st unasked moves
    exact ⟨_, rfl, st', freeze⟩

end Sys2Proof.Machine
end

section
/-! SUPPORT. Concrete words, operations and knocks that meet what the statements on thread control, memory accesses and knocks suppose. -/

namespace Sys2Proof.Machine

open Sys2Proof.Claims

/-! ### Thread control (R141, R162) -/

/-- `mov.1 thr.wait.t, #0`. -/
def waitMove : Mv := { w := 1, dst := 0x120, src := .imm 0 }

theorem wait_issues : issues (oneWordState 0x02410000 archInit) 0 [waitMove] = true := by decide

/-- R141: with no item and no source for it, its thread waits at the next word. -/
theorem wait_waits : Completes (.thrWaitT 0) (oneWordState 0x02410000 archInit) (fun s' => (thr s' 0).st = .wait ∧ (thr s' 0).arch.pc = 8) := by
  obtain ⟨wait, -⟩ := threadControlAndFences.1 _ 0 _ _ wait_issues ⟨[], [], rfl, by simp⟩
  obtain ⟨s', row, st, pc⟩ := wait rfl
  exact ⟨s', row, st.trans (if_neg (by decide)), pc.trans (by decide)⟩

/-- `mov.1 fence, #1`. -/
def fenceMove : Mv := { w := 1, dst := 0x12D, src := .imm 1 }

theorem fence_issues : issues (oneWordState 0x025B0001 archInit) 0 [fenceMove] = true := by decide

/-- R162: that fence completes, and stands until it is met. -/
theorem fence_stands : Completes (.fenceFull 0) (oneWordState 0x025B0001 archInit)
    (fun s' => (1, 0) ∈ (thr s' 0).fence ∨ fenceMet s' 0 (1, 0) = true) := by
  obtain ⟨-, full, -⟩ := threadControlAndFences.2 _ 0 _ _ fence_issues ⟨[], [], rfl, by simp⟩ rfl
  obtain ⟨s', row, stands, -⟩ := full (by decide)
  exact ⟨s', row, stands⟩

/-! ### Accesses and streams (R69, R153, R159) -/

/-- `mov.2 ld.t, #64`. -/
def loadMove : Mv := { w := 2, dst := 0x141, src := .imm 64 }

theorem load_issues : issues (stackState 0x0A830040) 0 [loadMove] = true := by decide

/-- R159: with ld.ctl 0 that word starts a load of the digit at 64 into g0. -/
theorem load_starts : Starts (.ldT 0) (stackState 0x0A830040) 0 (.load 0 1 64 [(64, 1)] none false) := by
  obtain ⟨load, -⟩ := accessesAndStreamsStart.1 _ 0 _ _ load_issues (List.mem_singleton_self _)
  exact load rfl

/-- `mov.1 g0, str.ld`. -/
def strLdMove : Mv := { w := 1, dst := 0, src := .port 0x152 }

theorem strLd_issues : issues (strLdState 0x00000152 8) 0 [strLdMove] = true := by decide

/-- R69: with the digit 8 there, g0 is 8 and str.src advances to 1. -/
theorem strLd_reads : Completes (.strLd 0) (strLdState 0x00000152 8) (fun s' => greg (thr s' 0).arch 0 = 8 ∧ port (thr s' 0).arch 0x150 = 1) := by
  obtain ⟨s', row, reads, moved, -⟩ := (accessesAndStreamsStart.2 (strLdState 0x00000152 8) 0).2.1 _ _ strLd_issues rfl rfl (by decide)
  exact ⟨s', row, reads.trans (by decide), moved.trans (by decide)⟩

theorem strLd_executes : executes (stackState 0x00000152) 0 [strLdMove] = true := by decide

/-- R69: without data the same word waits for its load. -/
theorem strLd_waits : Completes (.strLd 0) (stackState 0x00000152) (fun s' => (thr s' 0).st = .parked) := by
  obtain ⟨s', row, -, parked, -⟩ := (accessesAndStreamsStart.2 (stackState 0x00000152) 0).1 _ strLd_executes rfl rfl
  exact ⟨s', row, parked⟩

/-! ### Accesses that are performed (R150 to R159) -/

/-- The machine after reset with this digit at 0, and a thread of partition 0 that is READY with this state, reservation and store buffer. -/
def accessState (digit : Digit) (a : Arch) (resv : Option (List Nat)) (sbuf : List SbEntry) : State :=
  { State.reset with
    mem := [(0, digit)], kc := ownAll, threads := [(0, { thrInit with part := 0, st := .ready, arch := a, resv := resv, sbuf := sbuf, nextOp := 1 })] }

/-- A thread's state with one operation in flight. -/
def oneOpArch (k : OpKind) : Arch := { archInit with ops := [⟨0, k⟩] }

/-- R153: a store-conditional of 5 at 0 stores under a reservation of line 0. -/
theorem stc_stores : Completes (.stcDecided 0) (accessState 1 (oneOpArch (.stc 1 [(0, 1)] 5 false)) (some [0]) [])
    (fun s' => port (thr s' 0).arch 0x147 = 1 ∧ readDigit s' 0 = 5) := by
  obtain ⟨decided, -⟩ := orderedAccessesAndKeyringBits.1 (accessState 1 (oneOpArch (.stc 1 [(0, 1)] 5 false)) (some [0]) []) 0
  obtain ⟨s', row, ok, -, -, mem⟩ := decided _ _ _ _ _ rfl rfl (by decide) (by decide)
  exact ⟨s', row, ok.trans (by decide), (congrArg (tget 0 · 0) mem).trans (by decide)⟩

/-- R156: a compare-and-swap of 9 at 0 that expects 2 finds 1, and does not store. -/
theorem cas_misses : Completes (.atomicComplete 0) (accessState 1 (oneOpArch (.atomic 2 1 [(0, 1)] 9 2)) none [])
    (fun s' => port (thr s' 0).arch 0x14F = 1 ∧ readDigit s' 0 = 1) := by
  obtain ⟨-, atomic, -⟩ := orderedAccessesAndKeyringBits.1 (accessState 1 (oneOpArch (.atomic 2 1 [(0, 1)] 9 2)) none []) 0
  obtain ⟨s', row, prior, -, mem⟩ := atomic _ _ _ _ _ _ rfl rfl (by decide) (by decide)
  exact ⟨s', row, prior.trans (by decide), (congrArg (tget 0 · 0) mem).trans (by decide)⟩

/-- R151: a test-and-set of a clear bit reads 0. -/
theorem tas_sets : Completes (.bsTasComplete 0) (accessState 1 (oneOpArch (.tas 3)) none [])
    (fun s' => port (thr s' 0).arch 0x065 = 0 ∧ tget false (kring s' 0).kbits 3 = true) := by
  obtain ⟨-, -, tas⟩ := orderedAccessesAndKeyringBits.1 (accessState 1 (oneOpArch (.tas 3)) none []) 0
  obtain ⟨s', row, old, set, -⟩ := tas _ _ rfl rfl (by decide) (by decide)
  exact ⟨s', row, old.trans (by decide), set⟩

/-- `mov.1 bs.k, #1`. -/
def bitMove : Mv := { w := 1, dst := 0x063, src := .imm 1 }

theorem bit_issues : issues (stackState 0x00C70001) 0 [bitMove] = true := by decide

/-- R150: with bs.kx 0 that word sets keyring bit 0. -/
theorem bit_set : Completes (.bsKWrite 0) (stackState 0x00C70001) (fun s' => tget false (kring s' 0).kbits 0 = true) := by
  obtain ⟨-, -, write⟩ := orderedAccessesAndKeyringBits.2 _ 0 _ _ bit_issues ⟨[], [], rfl, by simp⟩
  obtain ⟨s', row, set, -⟩ := write rfl
  exact ⟨s', row, set.trans (by decide)⟩

/-- R159: a load of the digit at 0 into g3 lands. -/
theorem load_lands : Completes (.loadDataLand 0 .clean) (accessState 7 (oneOpArch (.load 3 1 0 [(0, 1)] none false)) none [])
    (fun s' => greg (thr s' 0).arch 3 = 7) := by
  obtain ⟨load, -⟩ := loadsLandAndStoresLeave (accessState 7 (oneOpArch (.load 3 1 0 [(0, 1)] none false)) none []) 0 .clean
  obtain ⟨s', row, reads, -⟩ := load _ _ _ _ _ _ rfl rfl (by decide) (by decide) (by decide)
  exact ⟨s', row, reads.trans (by decide)⟩

/-- R175: a store of 4 at 0 leaves the store buffer. -/
theorem store_leaves : Completes (.storeLeavesBuffer 0 false) (accessState 7 archInit none [⟨0, [(0, 1)], 1, 4, false⟩])
    (fun s' => (thr s' 0).sbuf = [] ∧ readDigit s' 0 = 4) := by
  obtain ⟨-, store⟩ := loadsLandAndStoresLeave (accessState 7 archInit none [⟨0, [(0, 1)], 1, 4, false⟩]) 0 .clean
  obtain ⟨s', row, left, mem, -⟩ := store _ _ rfl (by decide) (by decide) (by decide)
  exact ⟨s', row, left, (congrArg (tget 0 · 0) mem).trans (by decide)⟩

/-! ### Knocks (R219, R368 to R378) -/

/-- A source of partition 0 that is pending for thread 0 at PRIO 5. -/
def pendingSource : Src :=
  { srcInit with pend := true, cnt := 1, route := some { owner := 0, kr := 0, prio := 5, batch := 1, minivl := 0, mask := 1 } }

/-- A thread of partition 0 at 24, with ts.ssp at #1000. -/
def steadyThread : Thread := { thrInit with part := 0, st := .ready, arch := { setPort archInit 0x1C3 0x1000 with pc := 24 } }

/-- The machine, running, with source 7 pending for this thread of partition 0, whose handler is at #400 when `vec` enables it. -/
def knockState (th : Thread) (vec : Word) : State :=
  regSet { State.reset with
    kc := ownAll, srcs := [(7, pendingSource)], threads := [(0, th)], supply := { State.reset.supply with power := 1 } } .knkVec 0 vec

/-- R368 to R370: the source enters at #400, with EPC 24 in a frame of 512 digits. -/
theorem knock_enters : Completes (.knockEntry 0) (knockState steadyThread 0x0100000000000400) (fun s' =>
    (thr s' 0).arch.pc = 0x400 ∧ port (thr s' 0).arch 0x1C3 = 0xE00 ∧ port (thr s' 0).arch 0x1C5 = 24) := by
  obtain ⟨entry, -⟩ := knocksAreTaken (knockState steadyThread 0x0100000000000400) 0
  obtain ⟨s', row, ⟨pc, ssp, epc, -⟩, -⟩ := entry (by decide) (by decide) rfl rfl (by decide) rfl rfl rfl (by decide) (by decide)
  exact ⟨s', row, pc.trans (by decide), ssp.trans (by decide), epc.trans (by decide)⟩

/-- A thread with a move fault of its own at 16. -/
def faultyThread : Thread := { steadyThread with sync := some { cause := 2, epc := 16, fva := 0, finfo := 0, translation := false } }

/-- R372: its fault enters at #440. -/
theorem fault_enters : Completes (.syncKnockEntry 0) (knockState faultyThread 0x0100000000000400) (fun s' =>
    (thr s' 0).arch.pc = 0x440 ∧ port (thr s' 0).arch 0x1C6 = 2) := by
  obtain ⟨-, entry, -⟩ := knocksAreTaken (knockState faultyThread 0x0100000000000400) 0
  obtain ⟨s', row, ⟨pc, -, -, cause, -⟩, -⟩ := entry _ (by decide) (by decide) rfl (by decide) (by decide) (by decide)
  exact ⟨s', row, pc.trans (by decide), cause⟩

/-- R219: with KNK_VEC.EN clear it halts. -/
theorem fault_halts : Completes (.syncKnockEntry 0) (knockState faultyThread 0) (fun s' => (thr s' 0).st = .halt) := by
  obtain ⟨-, -, bar, -⟩ := knocksAreTaken (knockState faultyThread 0) 0
  obtain ⟨s', row, halt, -⟩ := bar _ none (by decide) (by decide) rfl (by decide)
  exact ⟨s', row, halt⟩

/-- A thread whose load of KNK_CLAIM into g2 may be performed. -/
def claimingThread : Thread := { steadyThread with arch := oneOpArch (.load 2 16 0 [(claimAddr, 16)] none false) }

/-- R373: it claims source 7. -/
theorem claim_takes : Completes (.knkClaim 0) (knockState claimingThread 0) (fun s' =>
    greg (thr s' 0).arch 2 = 0x5007 ∧ (src s' 7).active = true ∧ (thr s' 0).prio = [(0, 7)]) := by
  obtain ⟨-, -, -, claims, -⟩ := knocksAreTaken (knockState claimingThread 0) 0
  obtain ⟨takes, -⟩ := claims _ _ _ _ _ _ _ rfl rfl (by decide)
  obtain ⟨s', row, reads, -, -, -, active, -, -, -, prio, -⟩ := takes 7 (by decide) (by decide) fun m could => by
    have listed : claimables (knockState claimingThread 0) 0 = [7] := by decide
    have among : m ∈ claimables (knockState claimingThread 0) 0 := mem_claimables.2 could
    rw [listed, List.mem_singleton] at among
    exact .inr ⟨by rw [among], among.ge⟩
  exact ⟨s', row, reads.trans (by decide), active, prio.trans (by decide)⟩

/-- A thread that serves source 7, which it does not hold active. -/
def servingThread : Thread := { steadyThread with prio := [(3, 7)], runPri := 5, frames := 1 }

/-- R380: a store of 0 to KNK_EOI pops the entry. -/
theorem eoi_pops : Completes (.knkEoi 0 0) (knockState servingThread 0) (fun s' => (thr s' 0).prio = [] ∧ (thr s' 0).runPri = 3) := by
  obtain ⟨-, -, -, -, ends, -⟩ := knocksAreTaken (knockState servingThread 0) 0
  obtain ⟨-, -, pops, -⟩ := (ends 0).2 _ _ _ rfl
  obtain ⟨s', row, popped, -⟩ := pops rfl (by decide)
  exact ⟨s', row, popped⟩

/-- R376: with KNK_VEC.EN clear it returns by its frame, which is all 0 in empty memory. -/
theorem rtn_restores : Completes (.knkRtn 0) (knockState servingThread 0) (fun s' =>
    (thr s' 0).arch.pc = 0 ∧ port (thr s' 0).arch 0x1C3 = 0x1200 ∧ (thr s' 0).frames = 0) := by
  obtain ⟨-, -, -, -, -, returns, -⟩ := knocksAreTaken (knockState servingThread 0) 0
  obtain ⟨-, -, restores⟩ := returns rfl
  obtain ⟨s', row, pc, ssp, -, frames, -⟩ := restores (by decide) (by decide) ⟨_, rfl⟩
  exact ⟨s', row, pc.trans (by decide), ssp.trans (by decide), frames.trans (by decide)⟩

/-- R139: a thread that a debug session asks to stop is FROZEN at its word. -/
theorem debug_freezes : Completes (.threadFreeze 0) (knockState { steadyThread with freezeReq := some .debug } 0) (fun s' =>
    (thr s' 0).st = .frozen ∧ (thr s' 0).arch.pc = 24) := by
  obtain ⟨-, -, -, -, -, -, freezes, -⟩ := knocksAreTaken (knockState { steadyThread with freezeReq := some .debug } 0) 0
  obtain ⟨s', row, frozen, -, -, -, -, pc, -⟩ := freezes (by decide) (by decide) _ rfl
  exact ⟨s', row, frozen, pc.trans (by decide)⟩

end Sys2Proof.Machine
end

section
/-! SUPPORT. What follows a verdict leaves as it is (R475, R476, R483): the counts and the state of every unit, the last fault, the threads that belong to
nobody, and the records of the audit tail. -/

namespace Sys2Proof.Machine

/-! ### The relation -/

/-- A later state in which every unit, the fault totals and the last fault read as before, a thread of nobody is still nobody's, and the audit tail
has only grown. -/
structure VerdictStands (s t : State) : Prop where
  units : ∀ cls ix, punit t cls ix = punit s cls ix
  last : t.faults.last = s.faults.last
  transTotal : t.faults.transTotal = s.faults.transTotal
  lastingTotal : t.faults.lastingTotal = s.faults.lastingTotal
  freed : ∀ u, (thr s u).part = nobody → (thr t u).part = nobody
  tail : s.audit.tail <+: t.audit.tail

theorem VerdictStands.refl (s : State) : VerdictStands s s := ⟨fun _ _ => rfl, rfl, rfl, rfl, fun _ h => h, List.prefix_refl _⟩

theorem VerdictStands.trans {s t u : State} (a : VerdictStands s t) (b : VerdictStands t u) : VerdictStands s u where
  units cls ix := (b.units cls ix).trans (a.units cls ix)
  last := b.last.trans a.last
  transTotal := b.transTotal.trans a.transTotal
  lastingTotal := b.lastingTotal.trans a.lastingTotal
  freed i h := b.freed i (a.freed i h)
  tail := a.tail.trans b.tail

/-- A change that leaves the fault counters alone. -/
theorem VerdictStands.of_faults {s t : State} (faults : t.faults = s.faults) (freed : ∀ u, (thr s u).part = nobody → (thr t u).part = nobody)
    (tail : s.audit.tail <+: t.audit.tail) : VerdictStands s t :=
  ⟨fun cls ix => by rw [punit, faults, punit], by rw [faults], by rw [faults], by rw [faults], freed, tail⟩

theorem VerdictStands.ite {s t u : State} {c : Prop} [Decidable c] (a : VerdictStands s t) (b : VerdictStands s u) :
    VerdictStands s (if c then t else u) := by
  split <;> assumption

theorem stands_foldl {β : Type} {f : State → β → State} (h : ∀ s x, VerdictStands s (f s x)) (l : List β) (s : State) :
    VerdictStands s (l.foldl f s) :=
  List.foldlRecOn (motive := VerdictStands s) l f (.refl s) fun t stands x _ => stands.trans (h t x)

/-! ### Frames -/

/-- The parts besides the fault counters and the audit store that retirements, returns to service and the quiet state work on. -/
def aftermathParts : List Part :=
  [.free, .regs, .mem, .poison, .threads, .cyls, .krs, .engs, .ks, .guard, .intake, .turns, .srcs, .arbs, .doms, .xq, .westad, .dbg, .boot, .req,
   .pins, .trngBad, .out]

/-- Those of them that hold no thread. -/
def calmParts : List Part := aftermathParts.filter (· != .threads)

theorem faults_of_within {F : Part → Prop} {s t : State} (w : Within F s t) (h : ¬ F .faults) : t.faults = s.faults := (w.rest .faults).resolve_left h

theorem tail_of_within {F : Part → Prop} {s t : State} (w : Within F s t) (h : ¬ F .audit) : s.audit.tail <+: t.audit.tail := by
  rw [(w.rest .audit).resolve_left h]

/-- A function that stays within `aftermathParts` upholds a verdict if no thread of nobody comes to belong to a partition. -/
theorem stands_of_frame {s t : State} (freed : ∀ u, (thr s u).part = nobody → (thr t u).part = nobody)
    (h : [Has (· ∈ aftermathParts) .free] → [Has (· ∈ aftermathParts) .regs] → [Has (· ∈ aftermathParts) .mem] →
      [Has (· ∈ aftermathParts) .poison] → [Has (· ∈ aftermathParts) .threads] → [Has (· ∈ aftermathParts) .cyls] →
      [Has (· ∈ aftermathParts) .krs] → [Has (· ∈ aftermathParts) .engs] → [Has (· ∈ aftermathParts) .ks] → [Has (· ∈ aftermathParts) .guard] →
      [Has (· ∈ aftermathParts) .intake] → [Has (· ∈ aftermathParts) .srcs] → [Has (· ∈ aftermathParts) .arbs] →
      [Has (· ∈ aftermathParts) .pins] → [Has (· ∈ aftermathParts) .out] → Within (· ∈ aftermathParts) s t) : VerdictStands s t := by
  have has (p : Part) (hp : p ∈ aftermathParts) : Has (· ∈ aftermathParts) p := has_mem hp
  have w : Within (· ∈ aftermathParts) s t :=
    @h (has _ (by decide)) (has _ (by decide)) (has _ (by decide)) (has _ (by decide)) (has _ (by decide)) (has _ (by decide))
      (has _ (by decide)) (has _ (by decide)) (has _ (by decide)) (has _ (by decide)) (has _ (by decide)) (has _ (by decide))
      (has _ (by decide)) (has _ (by decide)) (has _ (by decide))
  exact .of_faults (faults_of_within w (by decide)) freed (tail_of_within w (by decide))

/-- A function that stays within `calmParts` upholds a verdict. -/
theorem stands_of_calm {s t : State} (h : [Has (· ∈ calmParts) .regs] → [Has (· ∈ calmParts) .ks] → [Has (· ∈ calmParts) .intake] →
      [Has (· ∈ calmParts) .turns] → [Has (· ∈ calmParts) .srcs] → [Has (· ∈ calmParts) .doms] → [Has (· ∈ calmParts) .xq] →
      [Has (· ∈ calmParts) .westad] → [Has (· ∈ calmParts) .boot] → [Has (· ∈ calmParts) .pins] → [Has (· ∈ calmParts) .out] →
      Within (· ∈ calmParts) s t) : VerdictStands s t := by
  have has (p : Part) (hp : p ∈ calmParts) : Has (· ∈ calmParts) p := has_mem hp
  have w : Within (· ∈ calmParts) s t :=
    @h (has _ (by decide)) (has _ (by decide)) (has _ (by decide)) (has _ (by decide)) (has _ (by decide)) (has _ (by decide))
      (has _ (by decide)) (has _ (by decide)) (has _ (by decide)) (has _ (by decide)) (has _ (by decide))
  exact .of_faults (faults_of_within w (by decide)) (fun u free => by rw [thr_of_within w (by decide)]; exact free) (tail_of_within w (by decide))

/-- A change of other parts, in the form of a whole state. -/
theorem stands_of_rest {s t : State} (faults : t.faults = s.faults) (threads : t.threads = s.threads) (audit : t.audit = s.audit) :
    VerdictStands s t :=
  .of_faults faults (fun u free => by rw [thr, threads]; exact free) (by rw [audit])

/-! ### Threads and records -/

/-- A thread stored that belongs to nobody if the one before it did. -/
theorem stands_putThr {s : State} {t : Nat} {th : Thread} (h : (thr s t).part = nobody → th.part = nobody) : VerdictStands s (putThr s t th) := by
  refine stands_of_frame (fun u free => ?_) (putThr_within _ _ _ (Within.refl s))
  by_cases same : u = t
  · subst same
    rw [putThr_self]
    exact h free
  · rw [putThr_ne _ _ _ _ same]
    exact free

theorem stands_modThr {s : State} {t : Nat} {f : Thread → Thread} (h : ∀ th, (f th).part = th.part) : VerdictStands s (modThr s t f) :=
  stands_putThr (h _).trans

theorem stands_settle (s : State) : VerdictStands s (settle s) :=
  stands_of_frame (fun u free => (settle_part s u Thread.part fun _ _ _ _ => rfl).trans free) (settle_within _ (Within.refl s))

theorem stands_errKnock (s : State) (p : Nat) : VerdictStands s (errKnock s p) :=
  stands_of_frame (fun u free => ((errKnock_roused s p u).part Thread.part fun _ _ _ _ _ => rfl).trans free) (errKnock_within _ _ (Within.refl s))

theorem SeatTold.free {a b : Thread} (h : SeatTold a b) (free : a.part = nobody) : b.part = nobody := by
  rw [h.rest]
  exact free

theorem stands_storePieces (b : Option Nat) (ps : Pieces) (ds : List Digit) (bad : Bool) (s : State) : VerdictStands s (storePieces s b ps ds bad) :=
  stands_of_frame (fun u free => (storePieces_part Thread.part (fun _ _ => rfl) b bad u ps ds s).trans free)
    (storePieces_within _ _ _ _ (Within.refl s))

theorem stands_audit (s : State) (source part kind : Nat) (body : Bytes) : VerdictStands s (audit s source part kind body) :=
  .of_faults (faults_of_within (audit_frame s source part kind body) (by decide)) (fun u free => by rw [audit_thr]; exact free)
    (audit_tail_prefix s source part kind body)

theorem stands_drainThr (s : State) (t : Nat) : VerdictStands s (drainThr s t) := by
  unfold drainThr
  exact (stands_foldl (fun s e => stands_storePieces _ _ _ _ s) _ s).trans (stands_modThr fun _ => rfl)

theorem stands_releaseThr (s : State) (t : Nat) (why : Freeze) : VerdictStands s (releaseThr s t why) := by
  unfold releaseThr
  exact .ite (stands_putThr id) (.ite (stands_putThr id) (.refl s))

theorem stands_rewindItems (s : State) (t : Nat) : VerdictStands s (rewindItems s t) := by
  have returned (s : State) (c : Cmd) : VerdictStands s (returnItem s c) := stands_of_calm (returnItem_within s c (Within.refl s))
  unfold rewindItems
  extract_lets th items
  have emptied : VerdictStands s (putThr s t { th with current := none, inbox := [] }) := stands_putThr fun free => free
  exact emptied.trans (stands_foldl returned _ _)

theorem stands_endSeats (s : State) (t : Nat) : VerdictStands s (endSeats s t) :=
  stands_of_frame (fun u => (endSeats_told s t u).free) (endSeats_within _ _ (Within.refl s))

/-! ### Jobs -/

theorem endAttempt_tail (s : State) (kc : Keycut) (p : Nat) (tag : Word) (ok : Bool) : s.audit.tail <+: (endAttempt s kc p tag ok).audit.tail := by
  unfold endAttempt
  split
  · exact List.prefix_refl _
  · extract_lets c failed noted
    split
    · exact List.prefix_refl _
    · split
      · exact audit_tail_prefix noted _ _ _ _
      · exact List.prefix_refl _

theorem stageEntry_tail (s : State) (n : Nat) (copies : List KCopy) (erase : Bool) (op part : Nat) :
    s.audit.tail <+: (stageEntry s n copies erase op part).audit.tail := by
  unfold stageEntry
  extract_lets h recorded me q staged numbered pooled
  have noted : s.audit.tail <+: recorded.audit.tail := audit_tail_prefix s _ _ _ _
  have placed : Within (· ∈ discardParts) numbered pooled :=
    have : Has (· ∈ discardParts) .ks := has_mem (by decide)
    poolPut_within _ _ (Within.refl numbered)
  have sent (mtype : Nat) (body : Bytes) : Within (· ∈ discardParts) numbered (sendAll pooled 1 mtype body) :=
    have : Has (· ∈ discardParts) .arbs := has_mem (by decide)
    have : Has (· ∈ discardParts) .westad := has_mem (by decide)
    have : Has (· ∈ discardParts) .out := has_mem (by decide)
    sendAll_within _ _ _ _ placed
  have told (mtype : Nat) (body : Bytes) : s.audit.tail <+: (sendAll pooled 1 mtype body).audit.tail := by
    have kept : numbered.audit.tail <+: (sendAll pooled 1 mtype body).audit.tail := tail_of_within (sent mtype body) (by decide)
    exact noted.trans kept
  split
  · exact told _ _
  · exact told _ _

/-- The records of a job's end are those of its staging and of its attempt. -/
theorem finishJob_tail (s : State) (e : Nat) (j : Job) (r : JobResult) : s.audit.tail <+: (finishJob s e j r).audit.tail := by
  have staged : (jobWrites s r).audit.tail <+: (jobStages (jobWrites s r) r).audit.tail := by
    unfold jobStages
    split
    · exact stageEntry_tail _ _ _ _ _ _
    · exact List.prefix_refl _
  have released : (jobStages (jobWrites s r) r).audit.tail <+: (jobReleases (jobStages (jobWrites s r) r) j r).audit.tail := by
    unfold jobReleases
    split
    · exact endAttempt_tail _ _ _ _ _
    · exact List.prefix_refl _
  rw [finishJob_eq]
  exact (tail_of_within (jobWrites_within s r) (by decide)).trans <| staged.trans <| released.trans <|
    (tail_of_within (storePieces_frame _ _ _ _ _) (by decide)).trans <| (tail_of_within (jobTells_within _ _ _ _) (by decide)).trans <|
    (tail_of_within (jobKnocks_within _ _ _) (by decide)).trans (tail_of_within (seatJobDone_frame _ _ _) (by decide))

theorem finishJob_part (s : State) (e : Nat) (j : Job) (r : JobResult) (u : Nat) : (thr (finishJob s e j r) u).part = (thr s u).part := by
  have visible : (thr (jobResultVisible s j r) u).part = (thr s u).part := congrArg (·.1) (owedView_of_jobView (jobView_jobResultVisible s j r) u)
  have told : (thr (jobTells (jobResultVisible s j r) e j r) u).part = (thr (jobResultVisible s j r) u).part := by
    unfold jobTells
    split
    · unfold jobReport
      by_cases same : u = j.tid
      · subst same
        rw [putThr_self]
        rfl
      · rw [putThr_ne _ _ _ _ same]
    · rfl
  exact (congrArg (·.1) (owedView_of_jobView (jobView_finishJob s e j r) u)).trans (told.trans visible)

theorem finishJob_faults (s : State) (e : Nat) (j : Job) (r : JobResult) : (finishJob s e j r).faults = s.faults := by
  have w : Within (· ≠ .faults) s (finishJob s e j r) :=
    have : Has (· ≠ .faults) .regs := ⟨by decide⟩
    have : Has (· ≠ .faults) .mem := ⟨by decide⟩
    have : Has (· ≠ .faults) .poison := ⟨by decide⟩
    have : Has (· ≠ .faults) .threads := ⟨by decide⟩
    have : Has (· ≠ .faults) .engs := ⟨by decide⟩
    have : Has (· ≠ .faults) .ks := ⟨by decide⟩
    have : Has (· ≠ .faults) .guard := ⟨by decide⟩
    have : Has (· ≠ .faults) .srcs := ⟨by decide⟩
    have : Has (· ≠ .faults) .arbs := ⟨by decide⟩
    have : Has (· ≠ .faults) .westad := ⟨by decide⟩
    have : Has (· ≠ .faults) .audit := ⟨by decide⟩
    have : Has (· ≠ .faults) .out := ⟨by decide⟩
    finishJob_within _ _ _ _ (Within.refl s)
  exact faults_of_within w (by simp)

theorem stands_finishJob (s : State) (e : Nat) (j : Job) (r : JobResult) : VerdictStands s (finishJob s e j r) :=
  .of_faults (finishJob_faults s e j r) (fun u free => (finishJob_part s e j r u).trans free) (finishJob_tail s e j r)

theorem stands_modEng (s : State) (e : Nat) (f : Engine → Engine) : VerdictStands s (modEng s e f) := stands_of_rest rfl rfl rfl

theorem stands_endJob (s : State) (e : Nat) (j : Job) (st : Nat) : VerdictStands s (endJob s e j st) := by
  unfold endJob
  exact (stands_modEng s e _).trans (stands_finishJob _ _ _ _)

theorem stands_endJobs (s : State) (f : Job → Bool) (st : Nat) : VerdictStands s (endJobs s f st) := by
  unfold endJobs
  exact stands_foldl (fun s e => stands_foldl (fun s j => stands_endJob s e j st) _ s) _ s

theorem stands_redecide (s : State) (e : Nat) : VerdictStands s (redecide s e) := by
  refine stands_of_frame (fun u free => ?_) (redecide_within _ _ (Within.refl s))
  unfold redecide
  split
  · exact List.foldlRecOn (motive := fun x => (thr x u).part = nobody) _ _ free fun x free t _ =>
      (decideSeat_told (modEng x e _) t e 3 u).free free
  · exact (grantSeats_told 16 s e u).free free

/-! ### The quiet state (R483) -/

theorem stands_freeLines (s : State) (c : Cmd) : VerdictStands s (freeLines s c) := stands_of_calm (freeLines_within s c (Within.refl s))

theorem stands_discardCmds (s : State) (f : Cmd → Bool) : VerdictStands s (endCmds s f none) := by
  unfold endCmds
  extract_lets fin queued
  have gone (s : State) (c : Cmd) : VerdictStands s (fin s c) := stands_freeLines s c
  have unqueued (s : State) (q : Nat) (g : CmdQueue → CmdQueue) : VerdictStands s (modCq s q g) := stands_of_rest rfl rfl rfl
  have left : VerdictStands s queued := stands_foldl (fun s q => (unqueued s q _).trans (stands_foldl gone _ _)) _ s
  refine left.trans (stands_foldl (fun s t => ?_) _ _)
  extract_lets th current inbox
  have released : VerdictStands s (putThr s t { th with
      current := if current = [] then th.current else none, inbox := th.inbox.filter (fun x => !f x.2) }) := stands_putThr fun free => free
  exact released.trans (stands_foldl gone _ _)

theorem stands_quietItems (s : State) : VerdictStands s (quietItems s) := by
  unfold quietItems
  extract_lets left
  have cleared (s : State) (q : Nat) (g : RespQueue → RespQueue) : VerdictStands s (modRq s q g) := stands_of_rest rfl rfl rfl
  exact (stands_discardCmds s _ : VerdictStands s left).trans (stands_foldl (fun s q => .ite (cleared s q _) (.refl s)) _ left)

theorem truncate_part (th : Thread) : (truncate th).part = th.part := by
  unfold truncate
  split <;> rfl

theorem stands_modCyl (s : State) (c : Nat) (f : Cyl → Cyl) : VerdictStands s (modCyl s c f) := stands_of_rest rfl rfl rfl

theorem stands_abandonDiv (s : State) (t : Nat) : VerdictStands s (abandonDiv s t) := by
  unfold abandonDiv
  dsimp only
  split
  · exact .refl s
  · split
    · refine VerdictStands.trans ?_ (stands_modCyl _ _ _)
      exact stands_putThr fun free => free
    · exact .refl s

theorem stands_withdrawSeat (s : State) (t : Nat) : VerdictStands s (withdrawSeat s t) :=
  stands_of_frame (fun u => (withdrawSeat_told s t u).free) (withdrawSeat_within _ _ (Within.refl s))

theorem stands_interrupt (s : State) (t : Nat) (k : Option SyncKnock) : VerdictStands s (interrupt s t k) := by
  unfold interrupt
  extract_lets begun withdrawn th
  have cut : VerdictStands s begun := stands_modThr fun th => truncate_part th
  have stands : VerdictStands s withdrawn := cut.trans (stands_withdrawSeat begun t)
  exact .ite (stands.trans (stands_abandonDiv _ _)) stands

theorem showMul_part (th : Thread) (any : Bool) : (showMul th any).part = th.part := by
  unfold showMul
  split
  · split
    · split <;> rfl
    · rfl
  · rfl

theorem showAllMul_part (n : Nat) (th : Thread) : (showAllMul th n).part = th.part := by
  induction n generalizing th with
  | zero => rfl
  | succ n ih => exact (ih _).trans (showMul_part th true)

theorem stands_freezeNow (s : State) (t : Nat) (why : Freeze) : VerdictStands s (freezeNow s t why) := by
  refine stands_modThr fun th => ?_
  dsimp only
  exact showAllMul_part 16 th

theorem stands_quietThread (s : State) (t : Nat) : VerdictStands s (quietThread s t) := by
  unfold quietThread
  extract_lets stopped cleared drained idle
  have emptied : VerdictStands stopped cleared := stands_modThr fun _ => rfl
  have stands : VerdictStands s idle :=
    (stands_interrupt s t none).trans (emptied.trans ((stands_drainThr cleared t).trans (stands_modCyl drained _ _)))
  have asleep : VerdictStands idle (modThr idle t (fun th => { th with freeze := some .quiet, freezeReq := none })) := stands_modThr fun _ => rfl
  exact .ite (stands.trans asleep) (stands.trans (stands_freezeNow idle t .quiet))

theorem stands_quietJobs (s : State) : VerdictStands s (quietJobs s) := by
  unfold quietJobs
  exact (stands_endJobs s _ _).trans (stands_foldl (fun s e => stands_modEng s e _) _ _)

theorem stands_dbg (s : State) (d : Debug) : VerdictStands s { s with dbg := d } := stands_of_rest rfl rfl rfl

theorem stands_debugRecord (s : State) (what part : Nat) : VerdictStands s (debugRecord s what part) := by
  unfold debugRecord
  extract_lets r
  have drawn : VerdictStands s r.2 := stands_of_rest rfl rfl rfl
  exact drawn.trans (stands_audit _ _ _ _ _)

theorem stands_endDebug (s : State) : VerdictStands s (endDebug s) := by
  unfold endDebug
  split
  · exact .refl s
  · exact (stands_dbg s _).trans ((stands_debugRecord _ 2 _).trans (stands_foldl (fun s t => stands_releaseThr s t .debug) _ _))

/-- The entry's outputs, items, threads and jobs. -/
theorem stands_quietServices (s : State) (cause : Nat) :
    VerdictStands s (quietJobs ((serviceThreads (quietItems (quietOutputs s cause))).foldl quietThread (quietItems (quietOutputs s cause)))) :=
  (stands_of_calm (quietOutputs_within s cause (Within.refl s))).trans <| (stands_quietItems _).trans <|
    (stands_foldl stands_quietThread _ _).trans (stands_quietJobs _)

/-- The entry's sessions, staged keys and debug session. -/
theorem stands_quietEnd (s : State) : VerdictStands s (settle (endDebug (untake (quietSessions s)))) :=
  (stands_of_calm (untake_within _ (quietSessions_within s (Within.refl s)))).trans ((stands_endDebug _).trans (stands_settle _))

/-- A cause is recorded, and stops a boot. -/
theorem stands_quietNoted (s : State) (cause : Nat) : VerdictStands s (quietBoot (audit s (quietSource cause) 0xFF 0xC (leBytes 2 cause)) cause) :=
  (stands_audit s _ _ _ _).trans (stands_of_calm (quietBoot_within _ cause (Within.refl _)))

/-- The quiet state's own counters are none of the verdicts'. -/
theorem VerdictStands.mark {s t : State} (h : VerdictStands s t) {f : Faults} (units : f.units = t.faults.units) (last : f.last = t.faults.last)
    (trans : f.transTotal = t.faults.transTotal) (lasting : f.lastingTotal = t.faults.lastingTotal) : VerdictStands s { t with faults := f } where
  units cls ix := by rw [← h.units, punit, punit, units]
  last := last.trans h.last
  transTotal := trans.trans h.transTotal
  lastingTotal := lasting.trans h.lastingTotal
  freed := h.freed
  tail := h.tail

/-- A commit and an agreement end. -/
theorem stands_abandonTurn (s : State) : VerdictStands s (putAgree (abandonCommit s) none) :=
  stands_of_calm (putAgree_within _ none (abandonCommit_within s (Within.refl s)))

theorem stands_ks (s : State) (k : KeyStore) : VerdictStands s { s with ks := k } := stands_of_rest rfl rfl rfl

theorem stands_req (s : State) (r : Requests) : VerdictStands s { s with req := r } := stands_of_rest rfl rfl rfl

theorem stands_enterQuiet (s : State) (cause : Nat) : VerdictStands s (enterQuiet s cause) := by
  unfold enterQuiet
  extract_lets noted later entered items stopped sealed_ closed unagreed unexported ended
  have begun : VerdictStands s noted := stands_quietNoted s cause
  have marked : VerdictStands s entered := begun.mark rfl rfl rfl rfl
  have served : VerdictStands entered stopped := stands_quietServices entered cause
  have shut : VerdictStands stopped closed := stands_ks stopped _
  have disagreed : VerdictStands closed unagreed := stands_abandonTurn closed
  have stands : VerdictStands unagreed ended := .ite (stands_req unagreed _) (.refl unagreed)
  exact .ite (begun.mark rfl rfl rfl rfl)
    (marked.trans (served.trans (shut.trans (disagreed.trans (stands.trans (stands_quietEnd ended))))))

theorem stands_quietSettle (s : State) : VerdictStands s (quietSettle s) := by
  unfold quietSettle
  split
  · exact .refl s
  · have due : VerdictStands s { s with faults := { s.faults with quietDue := none } } := (VerdictStands.refl s).mark rfl rfl rfl rfl
    exact .ite (.refl s) (due.trans (stands_enterQuiet _ _))

end Sys2Proof.Machine
end

section
/-! SUPPORT. Verdicts (R473 to R478, R487): what a retirement changes of its unit, and what a verdict counts and records. -/

namespace Sys2Proof.Machine

open Sys2Proof.Claims

/-! ### Units -/

/-- A change of a table read at any key. -/
theorem tget_tmod {α : Type} [DecidableEq α] {d : α} (t : Tab α) (k i : Nat) (f : α → α) :
    tget d (tmod d t k f) i = if i = k then f (tget d t i) else tget d t i := by
  split
  · rename_i same
    rw [same, tget_tmod_self]
  · rename_i other
    exact tget_tmod_ne _ _ _ _ other

/-- A unit changed reads as changed, and every unit of another key as before. -/
theorem punit_modUnit_any (s : State) (c i : Nat) (f : PUnit → PUnit) (c' i' : Nat) :
    punit (modUnit s c i f) c' i' = if unitKey c' i' = unitKey c i then f (punit s c' i') else punit s c' i' := tget_tmod _ _ _ _

/-- A unit changed by nothing. -/
theorem stands_modUnit_id (s : State) (cls ix : Nat) : VerdictStands (modUnit s cls ix id) s where
  units c i := by rw [punit_modUnit_any, id, ite_self]
  last := rfl
  transTotal := rfl
  lastingTotal := rfl
  freed _ h := h
  tail := List.prefix_refl _

/-! ### Retirement (R476 to R478, R481) -/

theorem stands_quietCause (s : State) (cause : Nat) : VerdictStands s (quietCause s cause) := (VerdictStands.refl s).mark rfl rfl rfl rfl

theorem stands_keepRetirement (s : State) (cls ix : Nat) : VerdictStands s (keepRetirement s cls ix) := by
  unfold keepRetirement
  extract_lets old kept marked
  have stands : VerdictStands s kept := .ite ((VerdictStands.refl s).mark rfl rfl rfl rfl) (stands_quietCause s 0xA)
  exact stands.mark rfl rfl rfl rfl

theorem stands_dropActive (s : State) (t : Nat) : VerdictStands s (dropActive s t) := stands_of_calm (dropActive_within s t (Within.refl s))

/-- A retired cylinder's thread, its items and stores gone, before its state is discarded. -/
def threadEmptied (s : State) (t : Nat) : State :=
  dropActive (endSeats (rewindItems (drainThr (modThr s t (fun th =>
    { th with sbuf := th.sbuf.filter (fun e => e.pieces.all (fun p => !isCtl p.1)) })) t) t) t) t

theorem retireThread_eq (s : State) (t : Nat) : retireThread s t =
    if (thr s t).part = nobody then s else putThr (threadEmptied s t) t (clearedThr (thr (threadEmptied s t) t) nobody) := rfl

theorem stands_threadEmptied (s : State) (t : Nat) : VerdictStands s (threadEmptied s t) := by
  refine VerdictStands.trans ?_ (stands_dropActive _ t)
  refine VerdictStands.trans ?_ (stands_endSeats _ t)
  refine VerdictStands.trans ?_ (stands_rewindItems _ t)
  refine VerdictStands.trans ?_ (stands_drainThr _ t)
  exact stands_modThr fun _ => rfl

theorem stands_retireThread (s : State) (t : Nat) : VerdictStands s (retireThread s t) := by
  rw [retireThread_eq]
  exact .ite (.refl s) ((stands_threadEmptied s t).trans (stands_putThr fun _ => rfl))

theorem retireThread_free (s : State) (t : Nat) : (thr (retireThread s t) t).part = nobody := by
  rw [retireThread_eq]
  split
  · assumption
  · rw [putThr_self]
    rfl

/-- A cylinder of which every thread has been discarded. -/
def cylEmptied (s : State) (c : Nat) : State := (List.range 16).foldl (fun s i => retireThread s (16 * c + i)) (setUnit s 1 c 3)

theorem cylEmptied_free (s : State) (c : Nat) {i : Nat} (hi : i < 16) : (thr (cylEmptied s c) (16 * c + i)).part = nobody := by
  obtain ⟨before, after, split⟩ := List.append_of_mem (List.mem_range.2 hi)
  rw [cylEmptied, split, List.foldl_append, List.foldl_cons]
  exact (stands_foldl (fun s j => stands_retireThread s (16 * c + j)) after _).freed _ (retireThread_free _ _)

/-- After its threads a cylinder loses its caches, and its retirement is kept. -/
theorem stands_cylRetired (s : State) (c : Nat) : VerdictStands (cylEmptied s c) (retireCyl s c) := by
  unfold retireCyl
  extract_lets marked emptied reset kept
  have stands : VerdictStands emptied kept := (stands_modCyl emptied c _).trans (stands_keepRetirement reset 1 c)
  exact .ite stands (stands.trans (stands_quietCause kept 9))

theorem stands_retireCyl (s : State) (c : Nat) : VerdictStands (setUnit s 1 c 3) (retireCyl s c) :=
  (stands_foldl (fun s i => stands_retireThread s (16 * c + i)) _ _).trans (stands_cylRetired s c)

/-- R476: a retired cylinder's threads belong to nobody. -/
theorem retireCyl_free (s : State) (c : Nat) {i : Nat} (hi : i < 16) : (thr (retireCyl s c) (16 * c + i)).part = nobody :=
  (stands_cylRetired s c).freed _ (cylEmptied_free s c hi)

theorem stands_retireEngine (s : State) (e : Nat) : VerdictStands s (retireEngine s e) := by
  unfold retireEngine
  extract_lets ended
  have stands : VerdictStands s ended := stands_foldl (fun s j => stands_endJob s e j 0x42) _ s
  exact stands.trans ((stands_modEng ended e _).trans (stands_redecide _ e))

theorem stands_retireWay (s : State) (ix : Nat) : VerdictStands (setUnit s 3 ix 3) (retireWay s ix) := by
  unfold retireWay
  extract_lets k w
  refine VerdictStands.trans ?_ (stands_keepRetirement _ 3 ix)
  exact stands_of_rest rfl rfl rfl

theorem stands_setLane (s : State) (l st : Nat) : VerdictStands s (setLane s l st) := stands_of_rest rfl rfl rfl

theorem stands_modDom (s : State) (d : Nat) (f : Domain → Domain) : VerdictStands s (modDom s d f) := stands_of_rest rfl rfl rfl

theorem stands_retireLane (s : State) (l : Nat) : VerdictStands (setUnit s 8 l 3) (retireLane s l) := by
  unfold retireLane
  extract_lets kept
  have stands : VerdictStands (setUnit s 8 l 3) kept := (stands_setLane _ l 4).trans (stands_keepRetirement _ 8 l)
  exact stands.trans (stands_foldl (fun s d => stands_modDom s d _) _ kept)

theorem stands_retireDomain (s : State) (d : Nat) : VerdictStands (setUnit s 9 d 3) (retireDomain s d) := by
  unfold retireDomain
  extract_lets kept failed down
  have lanes : VerdictStands kept failed := stands_foldl (fun s l => .ite (stands_setLane s l 4) (.refl s)) _ kept
  have stands : VerdictStands (setUnit s 9 d 3) down := (stands_keepRetirement _ 9 d).trans (lanes.trans (stands_modDom failed d _))
  exact .ite (stands.trans (stands_quietCause down 6)) stands

/-- The classes whose units a lasting verdict retires whole (R473). -/
def RetiredWhole (cls : Nat) : Prop := cls = 1 ∨ cls = 2 ∨ cls = 3 ∨ cls = 8 ∨ cls = 9 ∨ cls = 10 ∨ cls = 11

/-- A retirement that changes no more of the unit than its state and its spares, and of what a verdict counts nothing else; a unit that is retired
whole has state 3. -/
def RetiresUnit (s t : State) (cls ix : Nat) : Prop :=
  ∃ f : PUnit → PUnit, (∀ u, (f u).probe = u.probe ∧ (f u).lasting = u.lasting) ∧ (RetiredWhole cls → ∀ u, (f u).state = 3) ∧
    VerdictStands (modUnit s cls ix f) t

theorem retiresUnit_whole {s t : State} {cls ix : Nat} (h : VerdictStands (setUnit s cls ix 3) t) : RetiresUnit s t cls ix :=
  ⟨fun u => { u with state := 3 }, fun _ => ⟨rfl, rfl⟩, fun _ _ => rfl, h⟩

/-- A unit that a spare may stand in for. -/
theorem retiresUnit_spared {s t : State} {cls ix : Nat} (spared : ¬ RetiredWhole cls) {f : PUnit → PUnit}
    (h : VerdictStands (modUnit s cls ix f) t) (counts : ∀ u, (f u).probe = u.probe ∧ (f u).lasting = u.lasting) : RetiresUnit s t cls ix :=
  ⟨f, counts, fun whole => absurd whole spared, h⟩

theorem retireBank_retires (s : State) (b : Nat) : RetiresUnit s (retireBank s b) 4 b := by
  unfold retireBank
  extract_lets kept ks keyed
  split
  · exact retiresUnit_spared (by simp [RetiredWhole]) (stands_keepRetirement _ 4 b) fun _ => ⟨rfl, rfl⟩
  · have stands : VerdictStands (setUnit s 4 b 3) keyed := (stands_keepRetirement _ 4 b).trans (stands_ks kept _)
    exact retiresUnit_whole (.ite (stands.trans (stands_quietCause keyed 5)) stands)

theorem retireRow_retires (s : State) (ix : Nat) : RetiresUnit s (retireRow s ix) 5 ix := by
  unfold retireRow
  split
  · have spare : VerdictStands (setUnit s 5 ix 4) { setUnit s 5 ix 4 with faults := { (setUnit s 5 ix 4).faults with
        intakeSpares := s.faults.intakeSpares + 1 } } := (VerdictStands.refl _).mark rfl rfl rfl rfl
    exact retiresUnit_spared (by simp [RetiredWhole]) (spare.trans (stands_keepRetirement _ 5 ix)) fun _ => ⟨rfl, rfl⟩
  · exact retiresUnit_whole (stands_quietCause _ 0xA)

theorem retireDram_retires (s : State) (ch : Nat) (pr : Probe) : RetiresUnit s (retireDram s ch pr) 6 ch := by
  have poisoned (p : Tab Bool) : VerdictStands s { s with poison := p } := stands_of_rest rfl rfl rfl
  unfold retireDram
  split
  · split
    · exact retiresUnit_spared (by simp [RetiredWhole]) ((VerdictStands.refl (setUnit s 6 ch 4)).mark rfl rfl rfl rfl) fun _ => ⟨rfl, rfl⟩
    · exact retiresUnit_spared (by simp [RetiredWhole]) 
        ((stands_modUnit_id s 6 ch).trans ((poisoned _).trans (stands_errKnock _ 0))) fun _ => ⟨rfl, rfl⟩
  · exact retiresUnit_whole (stands_quietCause _ 6)

theorem retireMesh_retires (s : State) (ix : Nat) : RetiresUnit s (retireMesh s ix) 7 ix := by
  unfold retireMesh
  split
  · exact retiresUnit_spared (by simp [RetiredWhole]) (stands_keepRetirement _ 7 ix) fun _ => ⟨rfl, rfl⟩
  · exact retiresUnit_whole (stands_quietCause _ 7)

/-- R473: the effect of a lasting verdict on its unit. -/
theorem retireUnit_retires (s : State) {cls ix : Nat} (pr : Probe) (unit : unitExists cls ix = true) : RetiresUnit s (retireUnit s cls ix pr) cls ix := by
  unfold retireUnit
  split
  · exact retiresUnit_whole (stands_retireCyl s ix)
  · exact retiresUnit_whole ((stands_retireEngine _ ix).trans (stands_keepRetirement _ 2 ix))
  · exact retiresUnit_whole (stands_retireWay s ix)
  · exact retireBank_retires s ix
  · exact retireRow_retires s ix
  · exact retireDram_retires s ix pr
  · exact retireMesh_retires s ix
  · exact retiresUnit_whole (stands_retireLane s ix)
  · exact retiresUnit_whole (stands_retireDomain s ix)
  · refine retiresUnit_whole (VerdictStands.trans ?_ (stands_keepRetirement _ 10 ix))
    exact stands_of_rest rfl rfl rfl
  · obtain rfl : ix = 0 := by simpa [unitExists] using unit
    exact retiresUnit_whole (stands_quietCause _ 8)
  · refine retiresUnit_spared ?_ (stands_modUnit_id s cls ix) fun _ => ⟨rfl, rfl⟩
    simp only [RetiredWhole, not_or]
    exact ⟨‹_›, ‹_›, ‹_›, ‹_›, ‹_›, ‹_›, ‹_›⟩

/-! ### The return to service (R475) -/

theorem stands_restoreUnit (s : State) (cls ix : Nat) : VerdictStands s (restoreUnit s cls ix) := by
  unfold restoreUnit
  split
  · exact stands_foldl (fun s i => stands_releaseThr s _ .probe) _ s
  · exact (stands_modEng s ix _).trans (stands_redecide _ ix)
  · exact stands_of_calm (resetDomain_within s ix (Within.refl s))
  · exact stands_of_rest rfl rfl rfl
  · exact .refl s

/-! ### The record and the counts (R475, R487) -/

/-- KEEP_FLAST written. -/
def withLast (s : State) (w : Word) : State := { s with faults := { s.faults with last := w } }

/-- The transient verdicts counted. -/
def withTransTotal (s : State) (n : Nat) : State := { s with faults := { s.faults with transTotal := n } }

/-- The lasting verdicts counted, and the self-test that one ends. -/
def withLastingTotal (s : State) (n : Nat) (failed : Bool) : State :=
  { s with faults := { s.faults with lastingTotal := n, stestFail := failed } }

theorem withLast_punit (s : State) (w : Word) (c i : Nat) : punit (withLast s w) c i = punit s c i := rfl
theorem withLast_last (s : State) (w : Word) : (withLast s w).faults.last = w := rfl
theorem withLast_transTotal (s : State) (w : Word) : (withLast s w).faults.transTotal = s.faults.transTotal := rfl
theorem withLast_lastingTotal (s : State) (w : Word) : (withLast s w).faults.lastingTotal = s.faults.lastingTotal := rfl
theorem withLast_audit (s : State) (w : Word) : (withLast s w).audit = s.audit := rfl
theorem withTransTotal_punit (s : State) (n c i : Nat) : punit (withTransTotal s n) c i = punit s c i := rfl
theorem withTransTotal_transTotal (s : State) (n : Nat) : (withTransTotal s n).faults.transTotal = n := rfl
theorem withTransTotal_last (s : State) (n : Nat) : (withTransTotal s n).faults.last = s.faults.last := rfl
theorem withTransTotal_audit (s : State) (n : Nat) : (withTransTotal s n).audit = s.audit := rfl
theorem withLastingTotal_punit (s : State) (n : Nat) (b : Bool) (c i : Nat) : punit (withLastingTotal s n b) c i = punit s c i := rfl
theorem withLastingTotal_lastingTotal (s : State) (n : Nat) (b : Bool) : (withLastingTotal s n b).faults.lastingTotal = n := rfl
theorem withLastingTotal_last (s : State) (n : Nat) (b : Bool) : (withLastingTotal s n b).faults.last = s.faults.last := rfl
theorem withLastingTotal_audit (s : State) (n : Nat) (b : Bool) : (withLastingTotal s n b).audit = s.audit := rfl
theorem modUnit_lastingTotal (s : State) (c i : Nat) (f : PUnit → PUnit) : (modUnit s c i f).faults.lastingTotal = s.faults.lastingTotal := rfl
theorem modUnit_transTotal (s : State) (c i : Nat) (f : PUnit → PUnit) : (modUnit s c i f).faults.transTotal = s.faults.transTotal := rfl
theorem modUnit_last (s : State) (c i : Nat) (f : PUnit → PUnit) : (modUnit s c i f).faults.last = s.faults.last := rfl

/-- What KEEP_FLAST holds: CLASS, INDEX, VERDICT, ERROR and the low half of the record's number. -/
def flastWord (cls ix v error seq : Nat) : Word := w64 (cls * 2 ^ 56 + ix * 2 ^ 44 + v * 2 ^ 40 + error * 2 ^ 32 + seq % 2 ^ 32)

theorem flastWord_unit {cls ix v error : Nat} (hc : cls < 16) (hi : ix < 4096) (hv : v < 16) (he : error < 256) (seq : Nat) :
    (flastWord cls ix v error seq).toNat / 2 ^ 40 = cls * 2 ^ 16 + ix * 2 ^ 4 + v := by
  have low := Nat.mod_lt seq (show 0 < 2 ^ 32 by decide)
  simp only [flastWord, w64, BitVec.toNat_ofNat]
  omega

/-- The FAULT record appended, and KEEP_FLAST naming it. -/
def faultRecorded (s : State) (cls ix : Nat) (pr : Probe) (v : Nat) : State :=
  withLast (audit s 3 pr.part 0xB (faultBody cls ix v pr))
    (flastWord cls ix v pr.error ((audit s 3 pr.part 0xB (faultBody cls ix v pr)).audit.nextSeq - 1))

/-- A unit after a transient verdict. -/
def transientUnit (s : State) (u : PUnit) : PUnit := { u with probe := none, trans := satAdd 0xFFFF u.trans 1, window := s.now :: recent s u }

/-- A unit after a lasting verdict, before its retirement. -/
def lastingUnit (u : PUnit) : PUnit := { u with probe := none, lasting := satAdd 0xFFFF u.lasting 1 }

/-- A unit's transient verdict counted. -/
def transientCounted (s : State) (cls ix : Nat) (pr : Probe) : State :=
  let t := modUnit (faultRecorded s cls ix pr 1) cls ix (transientUnit (faultRecorded s cls ix pr 1))
  withTransTotal t (satAdd 0xFFFFFFFF t.faults.transTotal 1)

/-- A unit's lasting verdict counted. -/
def lastingCounted (s : State) (cls ix : Nat) (pr : Probe) (v : Nat) : State :=
  let t := modUnit (faultRecorded s cls ix pr v) cls ix lastingUnit
  withLastingTotal t (satAdd 0xFFFFFFFF t.faults.lastingTotal 1) (t.faults.stestFail || pr.selfTest)

/-- A unit retired by a lasting verdict, unless it was retired before. -/
def lastingEffect (s : State) (cls ix : Nat) (pr : Probe) (v : Nat) : State :=
  if retired (lastingCounted s cls ix pr v) cls ix then lastingCounted s cls ix pr v else retireUnit (lastingCounted s cls ix pr v) cls ix pr

theorem verdict_transient (s : State) (cls ix : Nat) (pr : Probe) :
    verdict s cls ix pr 1 = settle (restoreUnit (transientCounted s cls ix pr) cls ix) := by
  unfold verdict transientCounted faultRecorded withLast withTransTotal flastWord
  generalize audit s 3 pr.part 0xB (faultBody cls ix 1 pr) = recorded
  exact if_pos rfl

theorem verdict_lasting (s : State) (cls ix : Nat) (pr : Probe) {v : Nat} (lasting : v ≠ 1) :
    verdict s cls ix pr v = settle ((unitOwners (faultRecorded s cls ix pr v) cls ix).foldl errKnock (lastingEffect s cls ix pr v)) := by
  unfold verdict lastingEffect lastingCounted faultRecorded withLast withLastingTotal flastWord
  generalize audit s 3 pr.part 0xB (faultBody cls ix v pr) = recorded
  exact if_neg lasting

theorem faultRecorded_units (s : State) (cls ix : Nat) (pr : Probe) (v c i : Nat) : punit (faultRecorded s cls ix pr v) c i = punit s c i := by
  rw [faultRecorded, withLast_punit, (stands_audit s 3 pr.part 0xB (faultBody cls ix v pr)).units]

theorem faultRecorded_transTotal (s : State) (cls ix : Nat) (pr : Probe) (v : Nat) :
    (faultRecorded s cls ix pr v).faults.transTotal = s.faults.transTotal := by
  rw [faultRecorded, withLast_transTotal, (stands_audit s 3 pr.part 0xB (faultBody cls ix v pr)).transTotal]

theorem faultRecorded_lastingTotal (s : State) (cls ix : Nat) (pr : Probe) (v : Nat) :
    (faultRecorded s cls ix pr v).faults.lastingTotal = s.faults.lastingTotal := by
  rw [faultRecorded, withLast_lastingTotal, (stands_audit s 3 pr.part 0xB (faultBody cls ix v pr)).lastingTotal]

theorem transientCounted_unit (s : State) (cls ix : Nat) (pr : Probe) :
    punit (transientCounted s cls ix pr) cls ix = transientUnit (faultRecorded s cls ix pr 1) (punit s cls ix) := by
  rw [transientCounted, withTransTotal_punit, punit_modUnit, faultRecorded_units]

theorem lastingCounted_unit (s : State) (cls ix : Nat) (pr : Probe) (v : Nat) :
    punit (lastingCounted s cls ix pr v) cls ix = lastingUnit (punit s cls ix) := by
  rw [lastingCounted, withLastingTotal_punit, punit_modUnit, faultRecorded_units]

theorem transientCounted_total (s : State) (cls ix : Nat) (pr : Probe) :
    (transientCounted s cls ix pr).faults.transTotal = satAdd 0xFFFFFFFF s.faults.transTotal 1 := by
  rw [transientCounted, withTransTotal_transTotal, modUnit_transTotal, faultRecorded_transTotal]

theorem lastingCounted_total (s : State) (cls ix : Nat) (pr : Probe) (v : Nat) :
    (lastingCounted s cls ix pr v).faults.lastingTotal = satAdd 0xFFFFFFFF s.faults.lastingTotal 1 := by
  rw [lastingCounted, withLastingTotal_lastingTotal, modUnit_lastingTotal, faultRecorded_lastingTotal]

theorem transientCounted_last (s : State) (cls ix : Nat) (pr : Probe) :
    (transientCounted s cls ix pr).faults.last = (faultRecorded s cls ix pr 1).faults.last := by
  rw [transientCounted, withTransTotal_last, modUnit_last]

theorem lastingCounted_last (s : State) (cls ix : Nat) (pr : Probe) (v : Nat) :
    (lastingCounted s cls ix pr v).faults.last = (faultRecorded s cls ix pr v).faults.last := by
  rw [lastingCounted, withLastingTotal_last, modUnit_last]

theorem transientCounted_tail (s : State) (cls ix : Nat) (pr : Probe) :
    (transientCounted s cls ix pr).audit.tail = (faultRecorded s cls ix pr 1).audit.tail := by
  rw [transientCounted, withTransTotal_audit, modUnit_audit]

theorem lastingCounted_tail (s : State) (cls ix : Nat) (pr : Probe) (v : Nat) :
    (lastingCounted s cls ix pr v).audit.tail = (faultRecorded s cls ix pr v).audit.tail := by
  rw [lastingCounted, withLastingTotal_audit, modUnit_audit]

/-- KEEP_FLAST holds the unit's class and index and the verdict above the kind of the error and the record's number. -/
theorem faultRecorded_last (s : State) {cls ix v : Nat} {pr : Probe} (hc : cls < 16) (hi : ix < 4096) (hv : v < 16) (he : pr.error < 256) :
    (faultRecorded s cls ix pr v).faults.last.toNat / 2 ^ 40 = cls * 2 ^ 16 + ix * 2 ^ 4 + v := by
  rw [faultRecorded, withLast_last, flastWord_unit hc hi hv he]

/-- With room in the tail the FAULT record is its next entry. -/
theorem faultRecorded_tail {s : State} (room : auditFull s = false) (none_waits : s.audit.summaries = []) (cls ix : Nat) (pr : Probe) (v : Nat) :
    ∃ r, (faultRecorded s cls ix pr v).audit.tail = s.audit.tail ++ [r] ∧ r.kind = 0xB ∧ r.source = 3 ∧
      r.body = padTo 64 (faultBody cls ix v pr) := by
  rw [faultRecorded, withLast_audit, audit_of_room room none_waits]
  exact ⟨_, rfl, rfl, rfl, rfl⟩

/-! ### The verdict as a whole -/

/-- What a state after a verdict shows of its record: the probe has ended, the FAULT record comes first, and KEEP_FLAST names the unit. -/
structure VerdictRecorded (s t : State) (cls ix v : Nat) (pr : Probe) : Prop where
  probe : (punit t cls ix).probe = none
  record : auditFull s = false → s.audit.summaries = [] → ∃ r rest, t.audit.tail = s.audit.tail ++ r :: rest ∧ r.kind = 0xB ∧ r.source = 3 ∧
    r.body = padTo 64 (faultBody cls ix v pr)
  last : pr.error < 256 → t.faults.last.toNat / 2 ^ 40 = cls * 2 ^ 16 + ix * 2 ^ 4 + v

/-- A state in which the verdict has been counted, and all that upholds it, show its record. -/
theorem verdictRecorded_of_stands {s x t : State} {cls ix v : Nat} {pr : Probe} (hc : cls < 16) (hi : ix < 4096) (hv : v < 16)
    (tail : x.audit.tail = (faultRecorded s cls ix pr v).audit.tail) (last : t.faults.last = (faultRecorded s cls ix pr v).faults.last)
    (grown : x.audit.tail <+: t.audit.tail) (probe : (punit t cls ix).probe = none) : VerdictRecorded s t cls ix v pr where
  probe := probe
  record room none_waits := by
    obtain ⟨r, entry, kind, source, body⟩ := faultRecorded_tail room none_waits cls ix pr v
    obtain ⟨rest, all⟩ := grown
    refine ⟨r, rest, ?_, kind, source, body⟩
    rw [← all, tail, entry, List.append_assoc, List.singleton_append]
  last small := by rw [last, faultRecorded_last s hc hi hv small]

/-- R475: what a transient verdict leaves. -/
structure VerdictTransient (s t : State) (cls ix : Nat) : Prop where
  trans : (punit t cls ix).trans = satAdd 0xFFFF (punit s cls ix).trans 1
  total : t.faults.transTotal = satAdd 0xFFFFFFFF s.faults.transTotal 1
  retired : retired t cls ix = retired s cls ix

theorem stands_verdict_transient (s : State) (cls ix : Nat) (pr : Probe) : VerdictStands (transientCounted s cls ix pr) (verdict s cls ix pr 1) := by
  rw [verdict_transient]
  exact (stands_restoreUnit _ cls ix).trans (stands_settle _)

theorem verdictTransient_of_stands {s t : State} {cls ix : Nat} {pr : Probe} (hc : cls < 16) (hi : ix < 4096)
    (h : VerdictStands (transientCounted s cls ix pr) t) : VerdictRecorded s t cls ix 1 pr ∧ VerdictTransient s t cls ix := by
  have unit : punit t cls ix = transientUnit (faultRecorded s cls ix pr 1) (punit s cls ix) :=
    (h.units cls ix).trans (transientCounted_unit s cls ix pr)
  have recorded : VerdictRecorded s t cls ix 1 pr :=
    verdictRecorded_of_stands hc hi (by decide) (transientCounted_tail s cls ix pr) (h.last.trans (transientCounted_last s cls ix pr)) h.tail
      (by rw [unit, transientUnit])
  exact ⟨recorded, by rw [unit, transientUnit], h.transTotal.trans (transientCounted_total s cls ix pr),
    by rw [retired, unit, transientUnit, retired]⟩

/-- R475, R476: what a lasting verdict leaves. -/
structure VerdictLasting (s t : State) (cls ix : Nat) : Prop where
  lasting : (punit t cls ix).lasting = satAdd 0xFFFF (punit s cls ix).lasting 1
  total : t.faults.lastingTotal = satAdd 0xFFFFFFFF s.faults.lastingTotal 1
  whole : RetiredWhole cls → (punit t cls ix).state = 3
  freed : cls = 1 → retired s 1 ix = false → ∀ i, i < 16 → (thr t (16 * ix + i)).part = nobody

theorem retired_lastingCounted (s : State) (cls ix : Nat) (pr : Probe) (v : Nat) : retired (lastingCounted s cls ix pr v) cls ix = retired s cls ix := by
  rw [retired, lastingCounted_unit, lastingUnit, retired]

/-- The effect of a lasting verdict is a retirement, also of a unit that was retired before. -/
theorem lastingEffect_retires (s : State) {cls ix : Nat} (pr : Probe) (v : Nat) (unit : unitExists cls ix = true) :
    RetiresUnit (lastingCounted s cls ix pr v) (lastingEffect s cls ix pr v) cls ix ∨
      lastingEffect s cls ix pr v = lastingCounted s cls ix pr v ∧ retired s cls ix = true := by
  unfold lastingEffect
  rw [retired_lastingCounted]
  split
  · exact .inr ⟨rfl, ‹_›⟩
  · exact .inl (retireUnit_retires _ pr unit)

theorem stands_verdict_lasting (s : State) (cls ix : Nat) (pr : Probe) {v : Nat} (lasting : v ≠ 1) :
    VerdictStands (lastingEffect s cls ix pr v) (verdict s cls ix pr v) := by
  rw [verdict_lasting s cls ix pr lasting]
  exact (stands_foldl stands_errKnock _ _).trans (stands_settle _)

theorem retireUnit_cyl (s : State) (c : Nat) (pr : Probe) : retireUnit s 1 c pr = retireCyl s c := rfl

/-- R476: a cylinder that was in service loses its threads to a lasting verdict. -/
theorem lastingEffect_free (s : State) (c : Nat) (pr : Probe) (v : Nat) (inService : retired s 1 c = false) {i : Nat} (hi : i < 16) :
    (thr (lastingEffect s 1 c pr v) (16 * c + i)).part = nobody := by
  rw [lastingEffect, retired_lastingCounted, inService, if_neg Bool.false_ne_true, retireUnit_cyl]
  exact retireCyl_free _ c hi

/-- What the effect of a lasting verdict shows of it. -/
structure LastingShown (s x : State) (cls ix : Nat) (pr : Probe) (v : Nat) : Prop where
  probe : (punit x cls ix).probe = none
  lasting : (punit x cls ix).lasting = satAdd 0xFFFF (punit s cls ix).lasting 1
  whole : RetiredWhole cls → (punit x cls ix).state = 3
  last : x.faults.last = (faultRecorded s cls ix pr v).faults.last
  total : x.faults.lastingTotal = satAdd 0xFFFFFFFF s.faults.lastingTotal 1
  tail : (faultRecorded s cls ix pr v).audit.tail <+: x.audit.tail

theorem lastingEffect_shows (s : State) {cls ix : Nat} (pr : Probe) (v : Nat) (unit : unitExists cls ix = true) :
    LastingShown s (lastingEffect s cls ix pr v) cls ix pr v := by
  have counted := lastingCounted_unit s cls ix pr v
  have total := lastingCounted_total s cls ix pr v
  have last := lastingCounted_last s cls ix pr v
  have tail := lastingCounted_tail s cls ix pr v
  obtain ⟨f, counts, whole, stands⟩ | ⟨same, before⟩ := lastingEffect_retires s pr v unit
  · have shown : punit (lastingEffect s cls ix pr v) cls ix = f (lastingUnit (punit s cls ix)) := by
      rw [stands.units, punit_modUnit, counted]
    exact {
      probe := by rw [shown, (counts _).1, lastingUnit]
      lasting := by rw [shown, (counts _).2, lastingUnit]
      whole := fun h => by rw [shown, whole h]
      last := by rw [stands.last, modUnit_last, last]
      total := by rw [stands.lastingTotal, modUnit_lastingTotal, total]
      tail := by
        have grown := stands.tail
        rwa [modUnit_audit, tail] at grown }
  · rw [same]
    exact {
      probe := by rw [counted, lastingUnit]
      lasting := by rw [counted, lastingUnit]
      whole := fun _ => by
        rw [counted, lastingUnit]
        exact beq_iff_eq.1 before
      last := last
      total := total
      tail := by rw [tail] }

theorem verdictLasting_of_stands {s t : State} {cls ix v : Nat} {pr : Probe} (hc : cls < 16) (hi : ix < 4096) (hv : v < 16)
    (unit : unitExists cls ix = true) (h : VerdictStands (lastingEffect s cls ix pr v) t) :
    VerdictRecorded s t cls ix v pr ∧ VerdictLasting s t cls ix := by
  have shows := lastingEffect_shows s pr v unit
  refine ⟨verdictRecorded_of_stands (x := faultRecorded s cls ix pr v) hc hi hv rfl (h.last.trans shows.last) (shows.tail.trans h.tail)
    (by rw [h.units, shows.probe]), ?_, h.lastingTotal.trans shows.total, fun whole => by rw [h.units, shows.whole whole], ?_⟩
  · rw [h.units, shows.lasting]
  · rintro rfl inService i hi
    exact h.freed _ (lastingEffect_free s ix pr v inService hi)

end Sys2Proof.Machine
end

section
/-! The statement on errors, probes, verdicts and retirements (R193 to R195, R473 to R478, R487). -/

namespace Sys2Proof.Machine

open Sys2Proof.Claims

/-! ### Reports (R474) -/

/-- An error noted since the last self-test. -/
def errorNoted (s : State) : State := { s with faults := { s.faults with errSince := true } }

/-- A probe that an error starts. -/
def newProbe (now err part detail : Nat) : Probe := { error := err, part := part, count := 1, detail := detail, etime := now, selfTest := false }

/-- A unit whose error has been counted, under a probe. -/
def unitReported (pr : Probe) (u : PUnit) : PUnit := { u with errs := satAdd 0xFFFF u.errs 1, probe := some pr }

/-- A probe that has counted an error. -/
def probeJoined (pr : Probe) : Probe := { pr with count := satAdd 0xFFFF pr.count 1 }

theorem errorNoted_punit (s : State) (c i : Nat) : punit (errorNoted s) c i = punit s c i := rfl

theorem errorNoted_errSince (s : State) : (errorNoted s).faults.errSince = true := rfl

theorem modUnit_errSince (s : State) (c i : Nat) (f : PUnit → PUnit) : (modUnit s c i f).faults.errSince = s.faults.errSince := rfl

section
variable {s : State} {cls ix : Nat} (err part detail : Nat)

theorem report_retired (retired : (punit s cls ix).state = 3) : report s cls ix err part detail = errorNoted s := if_pos retired

theorem report_joins {pr : Probe} (serves : (punit s cls ix).state ≠ 3) (runs : (punit s cls ix).probe = some pr) :
    report s cls ix err part detail = modUnit (errorNoted s) cls ix (unitReported (probeJoined pr)) := by
  rw [← errorNoted_punit] at serves runs
  unfold report
  simp only [errorNoted] at serves runs
  simp only [serves, runs, if_false]
  rfl

theorem report_starts (serves : (punit s cls ix).state ≠ 3) (idle : (punit s cls ix).probe = none) :
    report s cls ix err part detail = underProbe (modUnit (errorNoted s) cls ix (unitReported (newProbe s.now err part detail))) cls ix := by
  rw [← errorNoted_punit] at serves idle
  unfold report
  simp only [errorNoted] at serves idle
  simp only [serves, idle, if_false]
  rfl

end

theorem underProbe_faults (s : State) (cls ix : Nat) : (underProbe s cls ix).faults = s.faults :=
  have : Has (· ∈ [Part.threads, .cyls, .engs, .doms]) .threads := has_mem (by decide)
  have : Has (· ∈ [Part.threads, .cyls, .engs, .doms]) .cyls := has_mem (by decide)
  have : Has (· ∈ [Part.threads, .cyls, .engs, .doms]) .engs := has_mem (by decide)
  have : Has (· ∈ [Part.threads, .cyls, .engs, .doms]) .doms := has_mem (by decide)
  faults_of_within (F := (· ∈ [Part.threads, .cyls, .engs, .doms])) (underProbe_within s cls ix (Within.refl s)) (by decide)

theorem punit_of_faults {s t : State} (h : t.faults = s.faults) (c i : Nat) : punit t c i = punit s c i := by rw [punit, h, punit]

theorem report_frame (s : State) (cls ix err part detail : Nat) : Within (· ∈ reportParts) s (report s cls ix err part detail) :=
  have : Has (· ∈ reportParts) .threads := has_mem (by decide)
  have : Has (· ∈ reportParts) .cyls := has_mem (by decide)
  have : Has (· ∈ reportParts) .engs := has_mem (by decide)
  have : Has (· ∈ reportParts) .doms := has_mem (by decide)
  have : Has (· ∈ reportParts) .faults := has_mem (by decide)
  report_within _ _ _ _ _ _ (Within.refl s)

/-- R474: an error has been noted, and counted where its unit is in service: it has started a probe or joined the one that ran. -/
def Reported (s s' : State) (cls ix err part detail : Nat) : Prop :=
  let u := punit s cls ix
  s'.faults.errSince = true ∧ (u.state ≠ 3 → (punit s' cls ix).errs = satAdd 0xFFFF u.errs 1 ∧
    (u.probe = none → (punit s' cls ix).probe = some { error := err, part := part, count := 1, detail := detail, etime := s.now, selfTest := false }) ∧
    (∀ pr, u.probe = some pr → (punit s' cls ix).probe = some { pr with count := satAdd 0xFFFF pr.count 1 })) ∧
  (u.state = 3 → punit s' cls ix = u)

theorem reported_retired {s s' : State} {cls ix : Nat} (retired : (punit s cls ix).state = 3) (noted : s'.faults.errSince = true)
    (same : punit s' cls ix = punit s cls ix) (err part detail : Nat) : Reported s s' cls ix err part detail :=
  ⟨noted, fun serves => absurd retired serves, fun _ => same⟩

theorem reported_serving {s s' : State} {cls ix err part detail : Nat} {pr : Probe} (serves : (punit s cls ix).state ≠ 3)
    (noted : s'.faults.errSince = true) (unit : punit s' cls ix = unitReported pr (punit s cls ix))
    (starts : (punit s cls ix).probe = none → pr = newProbe s.now err part detail)
    (joins : ∀ old, (punit s cls ix).probe = some old → pr = probeJoined old) : Reported s s' cls ix err part detail := by
  refine ⟨noted, fun _ => ⟨by rw [unit, unitReported], fun idle => ?_, fun old runs => ?_⟩, fun retired => absurd retired serves⟩
  · rw [unit, unitReported, starts idle, newProbe]
  · rw [unit, unitReported, joins old runs, probeJoined]

/-- A report on a state in which the units and the time are as in `s`. -/
theorem report_reported {s x : State} (units : ∀ c i, punit x c i = punit s c i) (now : x.now = s.now) (cls ix err part detail : Nat) :
    Reported s (report x cls ix err part detail) cls ix err part detail := by
  by_cases serves : (punit s cls ix).state = 3
  · rw [report_retired err part detail (by rw [units]; exact serves)]
    exact reported_retired serves (errorNoted_errSince x) (by rw [errorNoted_punit, units]) err part detail
  · have serving : (punit x cls ix).state ≠ 3 := by rwa [units]
    cases probe : (punit s cls ix).probe with
    | none =>
      rw [report_starts err part detail serving (by rw [units, probe])]
      refine reported_serving serves (by rw [underProbe_faults, modUnit_errSince, errorNoted_errSince])
        (by rw [punit_of_faults (underProbe_faults _ _ _), punit_modUnit, errorNoted_punit, units]) (fun _ => by rw [now]) fun old runs => ?_
      rw [probe] at runs
      cases runs
    | some pr =>
      rw [report_joins err part detail serving (by rw [units, probe])]
      refine reported_serving serves (by rw [modUnit_errSince, errorNoted_errSince]) (by rw [punit_modUnit, errorNoted_punit, units])
        (fun idle => ?_) fun old runs => ?_
      · rw [probe] at idle
        cases idle
      · rw [probe] at runs
        cases runs
        rfl

/-! ### Lines of DRAM (R193 to R195) -/

/-- The partition that a report on a line names. -/
def linePart (s : State) (line : Nat) : Nat := if lineOwner s line = nobody then 0xFF else lineOwner s line

/-- A line marked poisoned. -/
def linePoisoned (s : State) (line : Nat) : State := { s with poison := tset false s.poison line true }

theorem linePoisoned_poison (s : State) (line : Nat) : tget false (linePoisoned s line).poison line = true :=
  tget_tset_self (d := false) s.poison line true

theorem linePoisoned_mem (s : State) (line : Nat) : (linePoisoned s line).mem = s.mem := rfl

/-- The FAULT record of a line whose tag fails. -/
def tagRecorded (s : State) (line : Nat) : State :=
  audit (linePoisoned s line) 4 (linePart s line) 0xB
    (faultBody 6 (lineChannel line) 0 (newProbe s.now 8 (linePart s line) (128 * line)))

theorem tagRecorded_frame (s : State) (line : Nat) : Within (· = .audit) (linePoisoned s line) (tagRecorded s line) := audit_frame _ _ _ _ _

/-- What a tag mismatch changes after its record. -/
def tagParts : List Part := [.regs, .threads, .cyls, .engs, .srcs, .doms, .faults]

theorem tagMismatch_frame (s : State) (line : Nat) : Within (· ∈ tagParts) (tagRecorded s line) (lineOutcome s line .tagMismatch) := by
  have : Has (· ∈ tagParts) .regs := has_mem (by decide)
  have : Has (· ∈ tagParts) .threads := has_mem (by decide)
  have : Has (· ∈ tagParts) .cyls := has_mem (by decide)
  have : Has (· ∈ tagParts) .engs := has_mem (by decide)
  have : Has (· ∈ tagParts) .srcs := has_mem (by decide)
  have : Has (· ∈ tagParts) .doms := has_mem (by decide)
  have : Has (· ∈ tagParts) .faults := has_mem (by decide)
  exact report_within _ _ _ _ _ _ (within_ite (Within.refl (tagRecorded s line)) (errKnock_within _ _ (Within.refl (tagRecorded s line))))

theorem poison_of_within {F : Part → Prop} {s t : State} (w : Within F s t) (h : ¬ F .poison) : t.poison = s.poison := (w.rest .poison).resolve_left h

theorem audit_of_within {F : Part → Prop} {s t : State} (w : Within F s t) (h : ¬ F .audit) : t.audit = s.audit := (w.rest .audit).resolve_left h

theorem tagMismatch_poisons (s : State) (line : Nat) : tget false (lineOutcome s line .tagMismatch).poison line = true := by
  rw [poison_of_within (tagMismatch_frame s line) (by decide), poison_of_within (tagRecorded_frame s line) (by decide), linePoisoned_poison]

theorem tagMismatch_mem (s : State) (line : Nat) : (lineOutcome s line .tagMismatch).mem = s.mem := by
  rw [mem_of_within (tagMismatch_frame s line) (by decide), mem_of_within (tagRecorded_frame s line) (by decide), linePoisoned_mem]

theorem tagMismatch_records {s : State} (room : auditFull s = false) (none_waits : s.audit.summaries = []) (line : Nat) :
    ∃ r, (lineOutcome s line .tagMismatch).audit.tail = s.audit.tail ++ [r] ∧ r.kind = 0xB := by
  have room' : auditFull (linePoisoned s line) = false := room
  rw [audit_of_within (tagMismatch_frame s line) (by decide), tagRecorded, audit_of_room room' none_waits]
  exact ⟨_, rfl, rfl⟩

/-! ### Rows -/

theorem dramScrub_dram {s : State} {line : Nat} (dram : isDram (128 * line) = true) (o : EccOutcome) :
    exec (.dramScrub line o) s = .next (lineOutcome s line o) := congrArg _ (if_pos dram)

theorem dramScrub_elsewhere {s : State} {line : Nat} (other : isDram (128 * line) = false) (o : EccOutcome) :
    exec (.dramScrub line o) s = .next s := congrArg _ (if_neg (by rw [other]; decide))

theorem scrub_corrected {s : State} {line : Nat} (dram : isDram (128 * line) = true) : Completes (.dramScrub line .corrected) s (fun s' =>
    Reported s s' 6 (line % 32) 5 (linePart s line) (128 * line) ∧ s'.poison = s.poison ∧ s'.mem = s.mem) := by
  have frame := report_frame s 6 (line % 32) 5 (linePart s line) (128 * line)
  exact ⟨_, dramScrub_dram dram .corrected, report_reported (fun _ _ => rfl) rfl _ _ _ _ _, poison_of_within frame (by decide),
    mem_of_within frame (by decide)⟩

theorem scrub_uncorrectable {s : State} {line : Nat} (dram : isDram (128 * line) = true) : Completes (.dramScrub line .uncorrectable) s (fun s' =>
    Reported s s' 6 (line % 32) 6 (linePart s line) (128 * line) ∧ tget false s'.poison line = true ∧ s'.mem = s.mem) := by
  have frame := report_frame (linePoisoned s line) 6 (line % 32) 6 (linePart s line) (128 * line)
  have mem := (mem_of_within frame (by decide)).trans (linePoisoned_mem s line)
  have poison := (congrArg (tget false · line) (poison_of_within frame (by decide))).trans (linePoisoned_poison s line)
  exact ⟨_, dramScrub_dram dram .uncorrectable, report_reported (x := linePoisoned s line) (fun _ _ => rfl) rfl _ _ _ _ _, poison, mem⟩

theorem scrub_tagMismatch {s : State} {line : Nat} (dram : isDram (128 * line) = true) : Completes (.dramScrub line .tagMismatch) s (fun s' =>
    tget false s'.poison line = true ∧ s'.mem = s.mem ∧
      (auditFull s = false → s.audit.summaries = [] → ∃ r, s'.audit.tail = s.audit.tail ++ [r] ∧ r.kind = 0xB)) :=
  ⟨_, dramScrub_dram dram .tagMismatch, tagMismatch_poisons s line, tagMismatch_mem s line,
    fun room none_waits => tagMismatch_records room none_waits line⟩

theorem trngHealthFail_reports (s : State) : Completes .trngHealthFail s (fun s' => s'.trngBad = true ∧ Reported s s' 0xB 0 0xC 0xFF 0) := by
  have frame := report_frame { s with trngBad := true } 0xB 0 0xC 0xFF 0
  exact ⟨_, rfl, (frame.rest .trngBad).resolve_left (by decide), report_reported (x := { s with trngBad := true }) (fun _ _ => rfl) rfl _ _ _ _ _⟩

theorem probeVerdict_row {s : State} {cls : Fin 16} {ix : Nat} {pr : Probe} (probe : (punit s cls ix).probe = some pr)
    (ready : probeReady s cls ix = true) (passed : Bool) : exec (.probeVerdict cls ix passed) s =
      .next (quietSettle (verdict s cls ix pr (if !passed then 2 else if 15 ≤ (recent s (punit s cls ix)).length then 3 else 1))) := by
  have ends : probeEnds s cls ix passed =
      verdict s cls ix pr (if !passed then 2 else if 15 ≤ (recent s (punit s cls ix)).length then 3 else 1) := by
    unfold probeEnds
    simp only [probe, ready, Bool.not_true, if_neg Bool.false_ne_true]
  exact congrArg (fun t => Host.Outcome.next (quietSettle t)) ends

theorem probeVerdict_waits {s : State} {cls : Fin 16} {ix : Nat} (calm : s.faults.quietDue = none)
    (waits : (punit s cls ix).probe = none ∨ probeReady s cls ix = false) (passed : Bool) : exec (.probeVerdict cls ix passed) s = .next s := by
  have ends : probeEnds s cls ix passed = s := by
    unfold probeEnds
    split
    · rfl
    · rename_i pr runs
      obtain idle | held := waits
      · rw [runs] at idle
        cases idle
      · exact if_pos (by rw [held]; rfl)
  exact congrArg Host.Outcome.next ((congrArg quietSettle ends).trans (quietSettle_of_quietDue_none calm))

section
variable {s : State} {cls : Fin 16} {ix : Nat} {pr : Probe} (probe : (punit s cls ix).probe = some pr)
include probe

theorem probeTimeout_late (late : pr.etime + 8 * probeTime s cls ix < s.now) :
    exec (.probeTimeout cls ix) s = .next (quietSettle (verdict s cls ix pr 4)) := by
  have ends : probeExpires s cls ix = verdict s cls ix pr 4 := by
    unfold probeExpires
    simp only [probe, if_pos late]
  exact congrArg (fun t => Host.Outcome.next (quietSettle t)) ends

theorem probeTimeout_early (calm : s.faults.quietDue = none) (early : s.now ≤ pr.etime + 8 * probeTime s cls ix) :
    exec (.probeTimeout cls ix) s = .next s := by
  have ends : probeExpires s cls ix = s := by
    unfold probeExpires
    simp only [probe, if_neg (Nat.not_lt.2 early)]
  exact congrArg Host.Outcome.next ((congrArg quietSettle ends).trans (quietSettle_of_quietDue_none calm))

end

/-! ### Verdicts (R475, R476, R487) -/

/-- What a state after verdict `v` on a probe shows: the FAULT record before the effect, KEEP_FLAST, and the counts and the effect of the verdict. -/
def Judged (s s' : State) (cls ix v : Nat) (pr : Probe) : Prop :=
  let u := punit s cls ix
  (punit s' cls ix).probe = none ∧
    (auditFull s = false → s.audit.summaries = [] → ∃ r rest, s'.audit.tail = s.audit.tail ++ r :: rest ∧
      r.kind = 0xB ∧ r.source = 3 ∧ r.body = padTo 64 (faultBody cls ix v pr)) ∧
    (pr.error < 256 → s'.faults.last.toNat / 2 ^ 40 = cls * 2 ^ 16 + ix * 2 ^ 4 + v) ∧
    (v = 1 → (punit s' cls ix).trans = satAdd 0xFFFF u.trans 1 ∧ s'.faults.transTotal = satAdd 0xFFFFFFFF s.faults.transTotal 1 ∧
      retired s' cls ix = retired s cls ix) ∧
    (v ≠ 1 → (punit s' cls ix).lasting = satAdd 0xFFFF u.lasting 1 ∧ s'.faults.lastingTotal = satAdd 0xFFFFFFFF s.faults.lastingTotal 1 ∧
      (RetiredWhole cls → (punit s' cls ix).state = 3) ∧
      (cls = 1 → retired s 1 ix = false → ∀ i, i < 16 → (thr s' (16 * ix + i)).part = nobody))

theorem verdict_judged_transient (s : State) {cls ix : Nat} (pr : Probe) (hc : cls < 16) (hi : ix < 4096) :
    Judged s (quietSettle (verdict s cls ix pr 1)) cls ix 1 pr := by
  obtain ⟨⟨probe, record, last⟩, ⟨trans, total, retired⟩⟩ :=
    verdictTransient_of_stands hc hi ((stands_verdict_transient s cls ix pr).trans (stands_quietSettle _))
  exact ⟨probe, record, last, fun _ => ⟨trans, total, retired⟩, fun other => absurd rfl other⟩

theorem verdict_judged_lasting (s : State) {cls ix v : Nat} (pr : Probe) (hc : cls < 16) (hi : ix < 4096) (hv : v < 16)
    (unit : unitExists cls ix = true) (lasting : v ≠ 1) : Judged s (quietSettle (verdict s cls ix pr v)) cls ix v pr := by
  obtain ⟨⟨probe, record, last⟩, ⟨counted, total, whole, freed⟩⟩ :=
    verdictLasting_of_stands hc hi hv unit ((stands_verdict_lasting s cls ix pr lasting).trans (stands_quietSettle _))
  exact ⟨probe, record, last, fun transient => absurd transient lasting, fun _ => ⟨counted, total, whole, freed⟩⟩

section
variable {s : State} {cls : Fin 16} {ix : Nat} {pr : Probe} (hi : ix < 4096) (unit : unitExists cls ix = true)
  (probe : (punit s cls ix).probe = some pr)
include hi unit probe

theorem probeVerdict_fails (ready : probeReady s cls ix = true) :
    Completes (.probeVerdict cls ix false) s (fun s' => Judged s s' cls ix 2 pr) :=
  ⟨_, probeVerdict_row probe ready false, verdict_judged_lasting (v := 2) s pr cls.isLt hi (by decide) unit (by decide)⟩

omit unit in
theorem probeVerdict_passes (ready : probeReady s cls ix = true) (few : (recent s (punit s cls ix)).length < 15) :
    Completes (.probeVerdict cls ix true) s (fun s' => Judged s s' cls ix 1 pr) := by
  refine ⟨_, probeVerdict_row probe ready true, ?_⟩
  rw [Bool.not_true, if_neg Bool.false_ne_true, if_neg (Nat.not_le.2 few)]
  exact verdict_judged_transient s pr cls.isLt hi

theorem probeVerdict_sixteenth (ready : probeReady s cls ix = true) (many : 15 ≤ (recent s (punit s cls ix)).length) :
    Completes (.probeVerdict cls ix true) s (fun s' => Judged s s' cls ix 3 pr) := by
  refine ⟨_, probeVerdict_row probe ready true, ?_⟩
  rw [Bool.not_true, if_neg Bool.false_ne_true, if_pos many]
  exact verdict_judged_lasting s pr cls.isLt hi (by decide) unit (by decide)

theorem probeTimeout_judges (late : pr.etime + 8 * probeTime s cls ix < s.now) :
    Completes (.probeTimeout cls ix) s (fun s' => Judged s s' cls ix 4 pr) :=
  ⟨_, probeTimeout_late probe late, verdict_judged_lasting s pr cls.isLt hi (by decide) unit (by decide)⟩

end

/-! ### Retirement fuses (R478) -/

section
variable {s : State} {cls ix : Nat} {rest : List (Nat × Nat)} (due : s.faults.fuseDue = (cls, ix) :: rest)
include due

theorem fuseBlow_blows (mains : s.supply.mains = true) (buffer : 40 < bufNow s) : Completes .retirementFuseBlow s (fun s' =>
    s'.fuses.retire = s.fuses.retire ++ [cls * 4096 + ix] ∧ s'.faults.fuseDue = rest ∧ s'.fuses.lcs = s.fuses.lcs) := by
  have blown : blowRetirement s = { s with
      fuses := { s.fuses with retire := s.fuses.retire ++ [cls * 4096 + ix] }, faults := { s.faults with fuseDue := rest } } := by
    unfold blowRetirement
    simp only [due]
    exact if_pos ⟨mains, buffer⟩
  exact ⟨_, congrArg Host.Outcome.next blown, rfl, rfl, rfl⟩

theorem fuseBlow_waits (low : s.supply.mains = false ∨ bufNow s ≤ 40) : Completes .retirementFuseBlow s (fun s' => s' = s) := by
  have kept : blowRetirement s = s := by
    unfold blowRetirement
    simp only [due]
    refine if_neg fun ⟨mains, buffer⟩ => ?_
    obtain off | drained := low
    · rw [off] at mains
      cases mains
    · exact absurd buffer (Nat.not_lt.2 drained)
  exact ⟨_, rfl, kept⟩

end

theorem fuseBlow_none {s : State} (none_due : s.faults.fuseDue = []) : Completes .retirementFuseBlow s (fun s' => s' = s) := by
  refine ⟨_, rfl, ?_⟩
  unfold blowRetirement
  rw [none_due]

/-- Settles O46: a verdict counts and records (`verdict_judged_transient`, `verdict_judged_lasting`), and what follows it — the unit's retirement or its
return to service, the knocks of its owners, an entry into the quiet state — upholds that; an error on a line or of the TRNG is a report
(`report_reported`). -/
theorem probesAndVerdicts : Obligations.ProbesAndVerdicts := by
  unfold Obligations.ProbesAndVerdicts
  intro s calm
  refine ⟨fun cls ix passed waits => ⟨s, probeVerdict_waits calm waits passed, rfl⟩, fun cls ix pr hi unit probe ready => ?_,
    fun cls ix rest due => ⟨fuseBlow_blows due, fuseBlow_waits due⟩, fuseBlow_none, fun line dram => ?_,
    fun line o other => ⟨s, dramScrub_elsewhere other o, rfl⟩, trngHealthFail_reports s⟩
  · exact ⟨probeVerdict_fails hi unit probe ready, probeVerdict_passes hi probe ready, probeVerdict_sixteenth hi unit probe ready,
      probeTimeout_judges hi unit probe, fun early => ⟨s, probeTimeout_early probe calm early, rfl⟩⟩
  · exact ⟨⟨s, dramScrub_dram dram .clean, rfl⟩, scrub_corrected dram, scrub_uncorrectable dram, scrub_tagMismatch dram⟩

end Sys2Proof.Machine
end

section
/-! The statement on the form of memory (R181, R191), and witnesses: concrete states that meet the hypotheses of this family's two statements. -/

namespace Sys2Proof.Machine

open Sys2Proof.Claims

/-- Settles O59: every step goes on and keeps what `Keeps` says, the form of memory among it (`step_goes`). -/
theorem memoryStaysCanonical : Obligations.MemoryStaysCanonical := by
  unfold Obligations.MemoryStaysCanonical
  intro s t safe goes
  obtain ⟨t', goes', keeps⟩ := step_goes s
  obtain rfl : t = t' := Host.Outcome.next.inj (goes.symm.trans goes')
  exact keeps.mem safe

/-- The digit 5 at 64, with command `c` waiting. -/
def waitingState (c : Instr) : State := { State.reset with pending := [c], mem := [(64, 5)] }

/-- The form that memory keeps, over a step that poisons a line. -/
theorem scrub_keeps_form : ∃ t, step (waitingState (.dramScrub 0 .tagMismatch)) = .next t ∧ MemSafe t := by
  obtain ⟨t, goes, -⟩ := step_goes (waitingState (.dramScrub 0 .tagMismatch))
  exact ⟨t, goes, memoryStaysCanonical _ _ (by unfold MemSafe; decide) goes⟩

/-! ### Verdicts (R474 to R476) -/

/-- A probe that an error of partition 0 began at the time 0. -/
def openProbe : Probe := newProbe 0 1 0 0x40

/-- A machine at the time `now` with unit 0 of class `cls` under probe and its transient verdicts of late at `window`. -/
def probedState (cls now : Nat) (window : List Nat) : State :=
  { State.reset with now := now, faults := { State.reset.faults with units := [(unitKey cls 0, { unitInit with probe := some openProbe, window := window })] } }

/-- R475: a probe that passes is a transient verdict, and is counted. -/
theorem transient_counts : Completes (.probeVerdict 2 0 true) (probedState 2 100 []) (fun s' =>
    (punit s' 2 0).trans = 1 ∧ s'.faults.transTotal = 1 ∧ retired s' 2 0 = false) := by
  obtain ⟨-, verdicts, -⟩ := probesAndVerdicts (probedState 2 100 []) rfl
  obtain ⟨-, passes, -⟩ := verdicts 2 0 openProbe (by decide) (by decide) rfl (by decide)
  obtain ⟨s', row, -, -, -, transient, -⟩ := passes (by decide)
  obtain ⟨trans, total, kept⟩ := transient rfl
  exact ⟨s', row, trans, total, kept⟩

/-- R475: the sixteenth within 24 hours is lasting, and retires the unit. -/
theorem sixteenth_retires : Completes (.probeVerdict 2 0 true) (probedState 2 100 (List.replicate 15 50)) (fun s' =>
    (punit s' 2 0).lasting = 1 ∧ (punit s' 2 0).state = 3) := by
  obtain ⟨-, verdicts, -⟩ := probesAndVerdicts (probedState 2 100 (List.replicate 15 50)) rfl
  obtain ⟨-, -, sixteenth, -⟩ := verdicts 2 0 openProbe (by decide) (by decide) rfl (by decide)
  obtain ⟨s', row, -, -, -, -, lasting⟩ := sixteenth (by decide)
  obtain ⟨counted, -, whole, -⟩ := lasting (by decide)
  exact ⟨s', row, counted, whole (by decide)⟩

/-- R474, R476: a cylinder whose probe fails is retired, and its threads belong to nobody. -/
theorem cylinder_retires : Completes (.probeVerdict 1 0 false) (probedState 1 100 []) (fun s' =>
    (punit s' 1 0).state = 3 ∧ (thr s' 15).part = nobody) := by
  obtain ⟨-, verdicts, -⟩ := probesAndVerdicts (probedState 1 100 []) rfl
  obtain ⟨fails, -⟩ := verdicts 1 0 openProbe (by decide) (by decide) rfl (by decide)
  obtain ⟨s', row, -, -, -, -, lasting⟩ := fails
  obtain ⟨-, -, whole, freed⟩ := lasting (by decide)
  exact ⟨s', row, whole (by decide), freed rfl (by decide) 15 (by decide)⟩

/-- R474: at 8 times its probe time a probe still runs. -/
theorem timeout_waits : Completes (.probeTimeout 2 0) (probedState 2 40000000 []) (fun s' => s' = probedState 2 40000000 []) := by
  obtain ⟨-, verdicts, -⟩ := probesAndVerdicts (probedState 2 40000000 []) rfl
  obtain ⟨-, -, -, -, early⟩ := verdicts 2 0 openProbe (by decide) (by decide) rfl (by decide)
  exact early (by decide)

/-- R474: one nanosecond later it has ended, by timeout. -/
theorem timeout_judges : Completes (.probeTimeout 2 0) (probedState 2 40000001 []) (fun s' =>
    (punit s' 2 0).probe = none ∧ s'.faults.last.toNat / 2 ^ 40 = 0x20004) := by
  obtain ⟨-, verdicts, -⟩ := probesAndVerdicts (probedState 2 40000001 []) rfl
  obtain ⟨-, -, -, late, -⟩ := verdicts 2 0 openProbe (by decide) (by decide) rfl (by decide)
  obtain ⟨s', row, probe, -, last, -⟩ := late (by decide)
  exact ⟨s', row, probe, last (by decide)⟩

/-! ### Fuses and lines (R193 to R195, R478) -/

/-- A machine with the retirement of class 9's unit 1 waiting for its fuse, and `joules` in the buffer. -/
def fuseState (joules : Nat) : State :=
  { State.reset with supply := { State.reset.supply with mains := true, charging := false, buf := joules }, faults := { State.reset.faults with fuseDue := [(9, 1)] } }

/-- R478: with 40 J in the buffer the fuse waits. -/
theorem fuse_waits : Completes .retirementFuseBlow (fuseState 40) (fun s' => s' = fuseState 40) := by
  obtain ⟨-, -, fuses, -⟩ := probesAndVerdicts (fuseState 40) rfl
  obtain ⟨-, waits⟩ := fuses 9 1 [] rfl
  exact waits (.inr (by decide))

/-- R478: with 41 J it blows. -/
theorem fuse_blows : Completes .retirementFuseBlow (fuseState 41) (fun s' => 9 * 4096 + 1 ∈ s'.fuses.retire ∧ s'.faults.fuseDue = []) := by
  obtain ⟨-, -, fuses, -⟩ := probesAndVerdicts (fuseState 41) rfl
  obtain ⟨blows, -⟩ := fuses 9 1 [] rfl
  obtain ⟨s', row, retire, due, -⟩ := blows rfl (by decide)
  exact ⟨s', row, retire ▸ List.mem_append_right _ (List.mem_singleton_self _), due⟩

/-- R193: an uncorrectable error poisons its line and starts the channel's probe. -/
theorem uncorrectable_poisons : Completes (.dramScrub 0 .uncorrectable) State.reset (fun s' =>
    tget false s'.poison 0 = true ∧ (punit s' 6 0).errs = 1) := by
  obtain ⟨-, -, -, -, lines, -⟩ := probesAndVerdicts State.reset rfl
  obtain ⟨-, -, uncorrectable, -⟩ := lines 0 (by decide)
  obtain ⟨s', row, ⟨-, counted, -⟩, poison, -⟩ := uncorrectable
  obtain ⟨errs, -⟩ := counted (by decide)
  exact ⟨s', row, poison, errs⟩

/-- R195: a wrong tag poisons its line and is recorded. -/
theorem wrong_tag_recorded : Completes (.dramScrub 0 .tagMismatch) State.reset (fun s' =>
    tget false s'.poison 0 = true ∧ ∃ r, s'.audit.tail = State.reset.audit.tail ++ [r] ∧ r.kind = 0xB) := by
  obtain ⟨-, -, -, -, lines, -⟩ := probesAndVerdicts State.reset rfl
  obtain ⟨-, -, -, tag⟩ := lines 0 (by decide)
  obtain ⟨s', row, poison, -, recorded⟩ := tag
  exact ⟨s', row, poison, recorded (by decide) rfl⟩

end Sys2Proof.Machine
end

section
/-! SUPPORT. DMA channels (R211 to R216): what the accesses of a channel's chain depend on, and what each step of a chain leaves in the channel,
memory and DMA_STAT. -/

namespace Sys2Proof.Machine

/-! ### Register bits -/

/-- A bit that software may write takes the value written (R10). -/
theorem getLsbD_plainWrite (s : State) {r : Reg} (ix : Nat) (v : Word) {i : Nat} (writable : (regAccess r).rw.getLsbD i = true)
    (w1c : (regAccess r).w1c = 0#64) : (regGet (plainWrite s r ix v) r ix).getLsbD i = v.getLsbD i := by
  rw [plainWrite, regGet_regSet, w1c, BitVec.and_zero, BitVec.not_zero, BitVec.and_allOnes, BitVec.getLsbD_or, BitVec.getLsbD_and,
    BitVec.getLsbD_and, BitVec.getLsbD_not, writable]
  simp

/-- Registers agree in a field when they agree in its bits. -/
theorem fld_congr {v w : Word} {hi lo : Nat} (bits : ∀ i, lo ≤ i → i ≤ hi → v.getLsbD i = w.getLsbD i) : fld v hi lo = fld w hi lo := by
  refine Nat.eq_of_testBit_eq fun i => ?_
  rw [fld_testBit, fld_testBit]
  by_cases inside : i < hi + 1 - lo
  · rw [bits (lo + i) (by omega) (by omega)]
  · simp [inside]

/-- A mask has no bit outside its field. -/
theorem getLsbD_maskOf_out {hi lo i : Nat} (out : i < lo ∨ hi < i) : (maskOf hi lo).getLsbD i = false := by
  simp only [maskOf, BitVec.getLsbD_ofNat, Nat.testBit_shiftLeft, Nat.testBit_two_pow_sub_one]
  obtain below | above := out
  · simp [below]
  · have : ¬ i - lo < hi + 1 - lo := by omega
    simp [this]

/-- A field put into a register leaves the other bits. -/
theorem getLsbD_putFld_out (w : Word) {hi lo i : Nat} (v : Nat) (out : i < lo ∨ hi < i) : (putFld w hi lo v).getLsbD i = w.getLsbD i := by
  have put : (BitVec.ofNat 64 ((v % 2 ^ (hi + 1 - lo)) <<< lo)).getLsbD i = false := by
    simp only [BitVec.getLsbD_ofNat, Nat.testBit_shiftLeft, Nat.testBit_mod_two_pow]
    obtain below | above := out
    · simp [below]
    · have : ¬ i - lo < hi + 1 - lo := by omega
      simp [this]
  rw [putFld, BitVec.getLsbD_or, BitVec.getLsbD_and, BitVec.getLsbD_not, getLsbD_maskOf_out out, put]
  by_cases low : i < 64
  · simp [low]
  · simp [BitVec.getLsbD_of_ge w i (by omega)]

/-- A value with a reserved encoding put back keeps its bits outside the field. -/
theorem getLsbD_keepField_out (old v : Word) {hi lo i : Nat} (ok : Nat → Bool) (out : i < lo ∨ hi < i) :
    (keepField old v hi lo ok).getLsbD i = v.getLsbD i := by
  unfold keepField
  split
  · rfl
  · exact getLsbD_putFld_out _ _ out

/-- A field takes the value written, or keeps its own where that is reserved (R13). -/
theorem fld_keepField (old v : Word) {hi lo : Nat} (ok : Nat → Bool) (hhi : hi < 64) :
    fld (keepField old v hi lo ok) hi lo = if ok (fld v hi lo) then fld v hi lo else fld old hi lo := by
  unfold keepField
  split
  · rfl
  · rw [fld_putFld _ _ hhi, Nat.mod_eq_of_lt (fld_lt _ _ _)]

/-- A knock leaves every register below the counters of stray knocks. -/
theorem regGet_raise (s : State) (p n : Nat) {q : Reg} (below : (regPlace q).base < (regPlace .knkStrayCnt).base) {i : Nat} (hi : i < 4096) :
    regGet (raise s p n) q i = regGet s q i := by
  unfold raise
  split
  · rfl
  · split
    · exact regGet_of_within (wakeTargets_frame _ _) (by decide) _ _
    · unfold deny
      split
      · rfl
      · exact regGet_bump_above _ below hi _ _ _ _

/-! ### Channels -/

@[simp] theorem chan_modChan (s : State) (c : Nat) (f : Chan → Chan) : chan (modChan s c f) c = f (chan s c) := tget_tmod_self _ _ _

@[simp] theorem modChan_mem (s : State) (c : Nat) (f : Chan → Chan) : (modChan s c f).mem = s.mem := rfl

@[simp] theorem modChan_regGet (s : State) (c : Nat) (f : Chan → Chan) (r : Reg) (i : Nat) : regGet (modChan s c f) r i = regGet s r i := rfl

theorem chan_of_within {F : Part → Prop} {s s' : State} (w : Within F s s') (h : ¬ F .dma) (c : Nat) : chan s' c = chan s c := by
  have dma : s'.dma = s.dma := (w.rest .dma).resolve_left h
  rw [chan, chan, dma]

theorem raise_frame (s : State) (p n : Nat) : Within (· ∈ knockParts) s (raise s p n) :=
  have : Has (· ∈ knockParts) .regs := has_mem (by decide)
  have : Has (· ∈ knockParts) .threads := has_mem (by decide)
  have : Has (· ∈ knockParts) .srcs := has_mem (by decide)
  raise_within _ _ _ (Within.refl s)

theorem chanKnock_frame (s : State) (c : Nat) : Within (· ∈ knockParts) s (chanKnock s c) := within_ite (Within.refl s) (raise_frame _ _ _)

def fillParts : List Part := [.krs, .dmaTlb]

theorem dmaFill_frame (s : State) (c va : Nat) : Within (· ∈ fillParts) s (dmaFill s c va) :=
  have : Has (· ∈ fillParts) .krs := has_mem (by decide)
  have : Has (· ∈ fillParts) .dmaTlb := has_mem (by decide)
  dmaFill_within _ _ _ (Within.refl s)

/-! ### What the accesses of a chain depend on -/

/-- What the translation of a channel's accesses, and its reads, see is the same. -/
structure SameReach (c : Nat) (s x : State) : Prop where
  owner : chainOwner x c = chainOwner s c
  root : regGet x .cylPtroot (chainOwner s c) = regGet s .cylPtroot (chainOwner s c)
  kc : x.kc = s.kc
  mem : x.mem = s.mem
  poison : x.poison = s.poison
  lost : x.dramLost = s.dramLost
  krs : x.krs = s.krs
  dmaTlb : x.dmaTlb = s.dmaTlb
  fuses : x.fuses = s.fuses

section
variable {c : Nat} {s x : State} (h : SameReach c s x)
include h

theorem poisoned_reach (ps : Pieces) : poisoned x ps = poisoned s ps := by
  unfold poisoned
  rw [h.poison, h.lost]

theorem readPieces_reach (ps : Pieces) : readPieces x ps = readPieces s ps := by
  unfold readPieces readDigits readDigit
  rw [h.mem]

theorem walkFrom_reach (p va lv : Nat) : walkFrom x p va lv = walkFrom s p va lv := by
  induction lv with
  | zero => rfl
  | succ lv ih =>
    funext ea
    unfold walkFrom locked readDigits readDigit
    rw [poisoned_reach h, h.mem, h.kc, h.fuses, ih]

theorem walk_reach (va : Nat) : walk x (chainOwner s c) va = walk s (chainOwner s c) va := by
  unfold walk
  rw [h.root, h.kc, walkFrom_reach h]

theorem devXlate_reach (tlb : List TlbEntry) (va acc : Nat) :
    devXlate x tlb (chainOwner s c) va acc = devXlate s tlb (chainOwner s c) va acc := by
  unfold devXlate xlOn flatXlate
  rw [h.root, h.kc, walk_reach h]

theorem dmaXlate_reach (va acc : Nat) : dmaXlate x c va acc = dmaXlate s c va acc := by
  unfold dmaXlate kring
  dsimp only
  rw [h.owner, h.krs, h.dmaTlb, devXlate_reach h]

theorem dmaAccess_reach (va n acc : Nat) : dmaAccess x c va n acc = dmaAccess s c va n acc := by
  have same : (fun a => dmaXlate x c a acc) = fun a => dmaXlate s c a acc := funext fun a => dmaXlate_reach h a acc
  rw [dmaAccess, same, dmaAccess]

end

/-- A change of the channel that keeps whose chain it runs. -/
theorem sameReach_modChan {s : State} {c : Nat} {f : Chan → Chan} (owner : chainOwner (modChan s c f) c = chainOwner s c) :
    SameReach c s (modChan s c f) :=
  ⟨owner, rfl, rfl, rfl, rfl, rfl, rfl, rfl, rfl⟩

/-! ### Descriptors (R212, R214) -/

/-- The descriptor at `va` can be read, and is well formed with the contents `n`. -/
def ReadsDesc (s : State) (c va : Nat) (ps : Pieces) (n : Nat) : Prop :=
  va % 64 = 0 ∧ dmaAccess s c va 64 2 = .ok ps ∧ poisoned s ps = false ∧ digitsNat (readPieces s ps) = n ∧ dmaDescOk n = true

theorem ReadsDesc.of_reach {s x : State} {c va : Nat} {ps : Pieces} {n : Nat} (same : SameReach c s x) (reads : ReadsDesc s c va ps n) :
    ReadsDesc x c va ps n := by
  obtain ⟨aligned, access, sound, contents, ok⟩ := reads
  exact ⟨aligned, (dmaAccess_reach same _ _ _).trans access, (poisoned_reach same ps).trans sound,
    (congrArg digitsNat (readPieces_reach same ps)).trans contents, ok⟩

theorem loadDesc_reads {s : State} {c : Nat} {ps : Pieces} {n : Nat} (reads : ReadsDesc s c (chan s c).cur.toNat ps n) :
    loadDesc s c = modChan (dmaFill s c (chan s c).cur.toNat) c
      (fun x => { x with desc := some (dmaDescOf n), offs := 0, statusDue := none, poisoned := false }) := by
  obtain ⟨aligned, access, sound, rfl, ok⟩ := reads
  have filled : poisoned (dmaFill s c (chan s c).cur.toNat) ps = false := by
    have w := dmaFill_frame s c (chan s c).cur.toNat
    rw [← sound]
    unfold poisoned
    rw [(w.rest .poison).resolve_left (by decide), (w.rest .dramLost).resolve_left (by decide)]
  simp only [loadDesc, aligned, access, filled, ok, ne_eq, not_true_eq_false, if_false, Bool.not_true, Bool.or_self, Bool.false_eq_true]

/-- A descriptor read is the channel's, from its first digit on. -/
theorem chan_loadDesc {s : State} {c : Nat} {ps : Pieces} {n : Nat} (reads : ReadsDesc s c (chan s c).cur.toNat ps n) :
    chan (loadDesc s c) c = { chan s c with desc := some (dmaDescOf n), offs := 0, statusDue := none, poisoned := false } := by
  rw [loadDesc_reads reads, chan_modChan, chan_of_within (dmaFill_frame _ _ _) (by decide)]

theorem mem_loadDesc {s : State} {c : Nat} {ps : Pieces} {n : Nat} (reads : ReadsDesc s c (chan s c).cur.toNat ps n) :
    (loadDesc s c).mem = s.mem := by
  rw [loadDesc_reads reads, modChan_mem, mem_of_within (dmaFill_frame _ _ _) (by decide)]

theorem chan_pauseChan (s : State) (c va cause detail : Nat) :
    chan (pauseChan s c va cause detail) c = { chan s c with state := 2, fva := BitVec.ofNat 56 va, cause := cause, detail := detail } := by
  rw [pauseChan, chan_of_within (chanKnock_frame _ _) (by decide), chan_modChan]

theorem mem_pauseChan (s : State) (c va cause detail : Nat) : (pauseChan s c va cause detail).mem = s.mem := by
  rw [pauseChan, mem_of_within (chanKnock_frame _ _) (by decide), modChan_mem]

end Sys2Proof.Machine
end

section
/-! SUPPORT. How a DMA channel moves a chunk, completes its last descriptor, and what a row of a channel leaves (R211 to R216). -/

namespace Sys2Proof.Machine

/-! ### The rotation of an engine's channels (R211) -/

/-- It is the channel's turn among those of its engine that may move. -/
def HasTurn (s : State) (c : Nat) : Prop :=
  firstAfter ((List.range 16).filter (fun i => chanMoves s (16 * dmaEngine c + i))) (tget 15 s.dmaLast (dmaEngine c)) = some (c % 16)

theorem mem_of_firstAfter {l : List Nat} {last k : Nat} (h : firstAfter l last = some k) : k ∈ l := by
  unfold firstAfter at h
  split at h
  · rename_i r found
    obtain rfl : r = k := Option.some.inj h
    exact List.mem_of_find?_eq_some found
  · exact List.mem_of_head? h

/-- A channel whose turn it is runs. -/
theorem HasTurn.runs {s : State} {c : Nat} (turn : HasTurn s c) : (chan s c).state = 1 := by
  have moves := (List.mem_filter.1 (mem_of_firstAfter turn)).2
  have self : 16 * dmaEngine c + c % 16 = c := Nat.div_add_mod c 16
  rw [self, chanMoves] at moves
  simp only [Bool.and_eq_true, beq_iff_eq] at moves
  exact moves.1.1.1

/-- The channel is the one that its engine served last. -/
def served (s : State) (c : Nat) : State := { s with dmaLast := tset 15 s.dmaLast (dmaEngine c) (c % 16) }

theorem sameReach_served (s : State) (c : Nat) : SameReach c s (served s c) := ⟨rfl, rfl, rfl, rfl, rfl, rfl, rfl, rfl, rfl⟩

section
variable {s : State} {c : Nat} {d : DmaDesc} (turn : HasTurn s c) (desc : (chan s c).desc = some d)
include turn desc

theorem dmaStep_turn : dmaStep s c =
    (let s := if (chan s c).offs < d.len then moveChunk (served s c) c d else served s c
     if (chan s c).state = 1 ∧ d.len ≤ (chan s c).offs then completeDesc s c else s) := by
  unfold dmaStep
  extract_lets e next s1
  have mine : next = some (c % 16) := turn
  rw [if_neg (not_not.2 mine)]
  have loaded : (chan s1 c).desc = some d := desc
  rw [loaded]
  rfl

/-- A chunk that does not end its descriptor, or that a fault stops, is all of the step. -/
theorem dmaStep_moves (short : (chan s c).offs < d.len)
    (goes : ¬ ((chan (moveChunk (served s c) c d) c).state = 1 ∧ d.len ≤ (chan (moveChunk (served s c) c d) c).offs)) :
    dmaStep s c = moveChunk (served s c) c d := by
  rw [dmaStep_turn turn desc]
  dsimp only
  rw [if_pos short, if_neg goes]

/-- A descriptor whose digits are moved is completed. -/
theorem dmaStep_completes (moved : d.len ≤ (chan s c).offs) : dmaStep s c = completeDesc (served s c) c := by
  rw [dmaStep_turn turn desc]
  dsimp only
  rw [if_neg (Nat.not_lt.2 moved)]
  exact if_pos ⟨turn.runs, moved⟩

end

/-! ### Chunks (R211, R213, R480) -/

/-- The digits that a chunk of `n` digits stores: those of the source, copied in ascending order, or 0. -/
def chunkDigits (m : Tab Digit) (d : DmaDesc) (n : Nat) (sp dp : Pieces) : List Digit :=
  if d.op = 1 then (pieceAddrs dp).map (fun a => tget 0 (copyDigits m ((pieceAddrs sp).zip (pieceAddrs dp))) a) else List.replicate n 0

/-- Where a chunk is read; a fill reads nothing. -/
def chunkSource (s : State) (c : Nat) (d : DmaDesc) : Acc :=
  if d.op = 1 then dmaAccess s c ((d.src.toNat + (chan s c).offs) % 2 ^ 56) (chunkLen d (chan s c).offs) 2 else .ok []

/-- Where a chunk is stored. -/
def chunkTarget (s : State) (c : Nat) (d : DmaDesc) : Acc :=
  dmaAccess s c ((d.dst.toNat + (chan s c).offs) % 2 ^ 56) (chunkLen d (chan s c).offs) 3

/-- The TLBs filled by a chunk's accesses. -/
def chunkFills (s : State) (c : Nat) (d : DmaDesc) : State :=
  dmaFill (if d.op = 1 then dmaFill s c ((d.src.toNat + (chan s c).offs) % 2 ^ 56) else s) c ((d.dst.toNat + (chan s c).offs) % 2 ^ 56)

theorem chunkFills_frame (s : State) (c : Nat) (d : DmaDesc) : Within (· ∈ fillParts) s (chunkFills s c d) :=
  have : Has (· ∈ fillParts) .krs := has_mem (by decide)
  have : Has (· ∈ fillParts) .dmaTlb := has_mem (by decide)
  dmaFill_within _ _ _ (within_ite (dmaFill_frame _ _ _) (Within.refl s))

section
variable {s : State} {c : Nat} {d : DmaDesc}

theorem moveChunk_eq {sp dp : Pieces} (src : chunkSource s c d = .ok sp) (dst : chunkTarget s c d = .ok dp) :
    moveChunk s c d =
      modChan (storePieces (chunkFills s c d) none dp (chunkDigits (chunkFills s c d).mem d (chunkLen d (chan s c).offs) sp dp)
        (d.op == 1 && poisoned (chunkFills s c d) sp)) c (fun x =>
          { x with offs := x.offs + chunkLen d (chan s c).offs, poisoned := x.poisoned || (d.op == 1 && poisoned (chunkFills s c d) sp) }) := by
  unfold chunkSource at src
  unfold chunkTarget at dst
  unfold moveChunk
  dsimp only
  rw [src]
  dsimp only
  rw [dst]
  rfl

/-- R211, R213: a chunk moved is stored whole, and the channel stands behind it. -/
theorem moveChunk_moves {sp dp : Pieces} (src : chunkSource s c d = .ok sp) (dst : chunkTarget s c d = .ok dp) :
    (chan (moveChunk s c d) c).offs = (chan s c).offs + chunkLen d (chan s c).offs ∧ (chan (moveChunk s c d) c).state = (chan s c).state ∧
      (moveChunk s c d).mem =
        (storePieces s none dp (chunkDigits s.mem d (chunkLen d (chan s c).offs) sp dp) (d.op == 1 && poisoned s sp)).mem := by
  have fills := chunkFills_frame s c d
  have mem : (chunkFills s c d).mem = s.mem := mem_of_within fills (by decide)
  have bad : poisoned (chunkFills s c d) sp = poisoned s sp := by
    unfold poisoned
    rw [(fills.rest .poison).resolve_left (by decide), (fills.rest .dramLost).resolve_left (by decide)]
  rw [moveChunk_eq src dst, chan_modChan, chan_of_within (storePieces_frame _ _ _ _ _) (by decide), chan_of_within fills (by decide), modChan_mem,
    bad, mem, storePieces_mem_congr _ _ _ _ mem]
  exact ⟨rfl, rfl, rfl⟩

/-- R215: a source that faults pauses the channel with CAUSE 1. -/
theorem moveChunk_pauses {va dt l : Nat} (src : chunkSource s c d = .fault va dt l) : moveChunk s c d = pauseChan s c va 1 dt := by
  unfold chunkSource at src
  unfold moveChunk
  dsimp only
  rw [src]

variable (turn : HasTurn s c) (desc : (chan s c).desc = some d)
include turn desc

theorem dmaStep_movesChunk {sp dp : Pieces} (more : (chan s c).offs + chunkLen d (chan s c).offs < d.len) (src : chunkSource s c d = .ok sp)
    (dst : chunkTarget s c d = .ok dp) :
    (chan (dmaStep s c) c).offs = (chan s c).offs + chunkLen d (chan s c).offs ∧ (chan (dmaStep s c) c).state = (chan s c).state ∧
      (dmaStep s c).mem =
        (storePieces s none dp (chunkDigits s.mem d (chunkLen d (chan s c).offs) sp dp) (d.op == 1 && poisoned s sp)).mem := by
  have same := sameReach_served s c
  have src' : chunkSource (served s c) c d = .ok sp := by
    rw [← src, chunkSource, dmaAccess_reach same]
    rfl
  obtain ⟨offs, state, mem⟩ := moveChunk_moves src' ((dmaAccess_reach same _ _ _).trans dst)
  have goes : ¬ ((chan (moveChunk (served s c) c d) c).state = 1 ∧ d.len ≤ (chan (moveChunk (served s c) c d) c).offs) := by
    rw [offs]
    exact fun ⟨_, past⟩ => absurd more (Nat.not_lt.2 past)
  rw [dmaStep_moves turn desc (by omega) goes]
  exact ⟨offs, state, mem.trans (storePieces_mem_congr (s' := served s c) (s := s) _ _ _ _ rfl)⟩

theorem dmaStep_pauses {va dt l : Nat} (short : (chan s c).offs < d.len) (src : chunkSource s c d = .fault va dt l) :
    dmaStep s c = pauseChan (served s c) c va 1 dt := by
  have src' : chunkSource (served s c) c d = .fault va dt l := by
    rw [← src, chunkSource, dmaAccess_reach (sameReach_served s c)]
    rfl
  have paused := moveChunk_pauses src'
  rw [dmaStep_moves turn desc short, paused]
  rw [paused, chan_pauseChan]
  simp

end

/-! ### The end of a chain (R214, R216) -/

/-- STATUS stored for a descriptor done, and counted. -/
def statusStored (s : State) (c : Nat) (ps : Pieces) : State :=
  bump (storePieces (dmaFill s c ((chan s c).cur.toNat + 30)) none ps (natDigits 2 1) false) .dmaStat c 31 16 1

/-- The knocks of a descriptor done. -/
def descKnocks (s : State) (c : Nat) (knk bad : Bool) : State :=
  let s := if knk then chanKnock s c else s
  if bad then errKnock s (chainOwner s c) else s

theorem completeDesc_ends {s : State} {c : Nat} {d : DmaDesc} {ps : Pieces} (desc : (chan s c).desc = some d) (last : d.chain = false)
    (status : dmaAccess s c ((chan s c).cur.toNat + 30) 2 3 = .ok ps) :
    completeDesc s c = endChain (descKnocks (statusStored s c ps) c d.knk (chan s c).poisoned) c 1 := by
  unfold completeDesc
  dsimp only
  rw [desc]
  dsimp only
  rw [status]
  dsimp only
  rw [last]
  rfl

theorem descKnocks_frame (s : State) (c : Nat) (knk bad : Bool) : Within (· ∈ knockParts) s (descKnocks s c knk bad) := by
  have : Has (· ∈ knockParts) .regs := has_mem (by decide)
  have : Has (· ∈ knockParts) .threads := has_mem (by decide)
  have : Has (· ∈ knockParts) .srcs := has_mem (by decide)
  have told : Within (· ∈ knockParts) s (if knk then chanKnock s c else s) := within_ite (chanKnock_frame s c) (Within.refl s)
  exact within_ite (raise_within _ _ _ told) told

theorem regGet_chanKnock (s : State) (c : Nat) {q : Reg} (below : (regPlace q).base < (regPlace .knkStrayCnt).base) {i : Nat} (hi : i < 4096) :
    regGet (chanKnock s c) q i = regGet s q i := by
  unfold chanKnock
  dsimp only
  split
  · rfl
  · exact regGet_raise _ _ _ below hi

theorem regGet_descKnocks (s : State) (c : Nat) (knk bad : Bool) {q : Reg} (below : (regPlace q).base < (regPlace .knkStrayCnt).base) {i : Nat}
    (hi : i < 4096) : regGet (descKnocks s c knk bad) q i = regGet s q i := by
  have told : regGet (if knk then chanKnock s c else s) q i = regGet s q i := by
    split
    · exact regGet_chanKnock s c below hi
    · rfl
  unfold descKnocks
  dsimp only
  split
  · exact (regGet_raise _ _ _ below hi).trans told
  · exact told

/-- R214: the chain's end stores STATUS 1, counts it, and leaves the channel idle. -/
theorem completeDesc_last {s : State} {c : Nat} {d : DmaDesc} {ps : Pieces} (hc : c < 4096) (desc : (chan s c).desc = some d)
    (last : d.chain = false) (status : dmaAccess s c ((chan s c).cur.toNat + 30) 2 3 = .ok ps) :
    (completeDesc s c).mem = (storePieces s none ps (natDigits 2 1) false).mem ∧ (chan (completeDesc s c) c).state = 0 ∧
      (chan (completeDesc s c) c).last = 1 ∧ fldGet (completeDesc s c) .dmaStat c 31 16 = min 65535 (fldGet s .dmaStat c 31 16 + 1) := by
  have fill := dmaFill_frame s c ((chan s c).cur.toNat + 30)
  have stat : regGet (storePieces (dmaFill s c ((chan s c).cur.toNat + 30)) none ps (natDigits 2 1) false) .dmaStat c = regGet s .dmaStat c :=
    (regGet_of_within (storePieces_frame _ _ _ _ _) (by decide) _ _).trans (regGet_of_within fill (by decide) _ _)
  rw [completeDesc_ends desc last status, endChain, chan_modChan, modChan_mem, mem_of_within (descKnocks_frame _ _ _ _) (by decide)]
  refine ⟨storePieces_mem_congr _ _ _ _ (mem_of_within fill (by decide)), rfl, rfl, ?_⟩
  rw [fldGet, modChan_regGet, regGet_descKnocks _ _ _ _ (by decide) hc]
  refine (fldGet_bump _ _ _ (by decide)).trans ?_
  rw [fldGet, stat]
  rfl

theorem statusIfOk_frame (s : State) (c st : Nat) : Within (· ∈ storeParts) s (statusIfOk s c st) := by
  unfold statusIfOk
  split
  · exact storePieces_frame _ _ _ _ _
  · exact Within.refl s

theorem statusIfOk_ok {s : State} {c : Nat} {ps : Pieces} (st : Nat) (status : dmaAccess s c ((chan s c).cur.toNat + 30) 2 3 = .ok ps) :
    statusIfOk s c st = storePieces s none ps (natDigits 2 st) false := by
  unfold statusIfOk
  rw [status]

/-- R216: an abort leaves the channel idle with LAST 2. -/
theorem chan_abortChan {s : State} {c : Nat} (busy : (chan s c).state ≠ 0) :
    chan (abortChan s c) c = { chan s c with
      state := 0, last := 2, desc := none, statusDue := none, poisoned := false, abort := false, cause := 0, detail := 0, fva := 0 } := by
  rw [abortChan, if_neg busy, chan_modChan, endChain, chan_modChan, chan_of_within (statusIfOk_frame s c 2) (by decide)]

theorem mem_abortChan {s : State} {c : Nat} (busy : (chan s c).state ≠ 0) : (abortChan s c).mem = (statusIfOk s c 2).mem := by
  rw [abortChan, if_neg busy]
  rfl

/-! ### Register writes (R214, R215) -/

/-- A channel whose chain has been started, before its first descriptor is read. -/
def headed (s : State) (p c : Nat) (v : Word) : State :=
  modChan (plainWrite s .dmaHead c v) c
    (fun x => { x with state := 1, head := BitVec.ofNat 56 v.toNat, cur := BitVec.ofNat 56 v.toNat, desc := none, offs := 0, part := p })

theorem chan_headed (s : State) (p c : Nat) (v : Word) : chan (headed s p c v) c =
    { chan s c with state := 1, head := BitVec.ofNat 56 v.toNat, cur := BitVec.ofNat 56 v.toNat, desc := none, offs := 0, part := p } :=
  chan_modChan _ _ _

/-- A paused channel running again. -/
def resumed (s : State) (c : Nat) : State := modChan s c (fun x => { x with state := 1, cause := 0, detail := 0, fva := 0 })

theorem chan_resumed (s : State) (c : Nat) : chan (resumed s c) c = { chan s c with state := 1, cause := 0, detail := 0, fva := 0 } :=
  chan_modChan _ _ _

/-- A channel resumed runs its own chain still. -/
theorem sameReach_resumed {s : State} {c : Nat} (paused : (chan s c).state = 2) : SameReach c s (resumed s c) := by
  refine sameReach_modChan ?_
  rw [← resumed, chainOwner, chan_resumed, chainOwner, paused]
  rfl

section
variable {s : State} {p c : Nat} (owns : chanOwner s c = p)
include owns

/-- A chain that starts reaches what its owner reaches. -/
theorem sameReach_headed (hp : p < 4096) (idle : (chan s c).state = 0) (v : Word) : SameReach c s (headed s p c v) := by
  have owner : chainOwner s c = p := by rw [chainOwner, if_pos idle, owns]
  refine ⟨?_, ?_, rfl, rfl, rfl, rfl, rfl, rfl, rfl⟩
  · rw [owner, chainOwner, chan_headed]
    rfl
  · have below : (regPlace .cylPtroot).base < (regPlace .dmaHead).base := by decide
    rw [owner, headed, modChan_regGet]
    exact regGet_regSet_ne _ _ _ _ _ _ (by simp only [regKey]; omega)

/-- R214: a chain starts with the descriptor that DMA_HEAD names. -/
theorem dmaHeadWrite_starts (hp : p < 4096) (idle : (chan s c).state = 0) {v : Word} {ps : Pieces} {n : Nat}
    (reads : ReadsDesc s c (v.toNat % 2 ^ 56) ps n) (long : (dmaDescOf n).len ≠ 0) :
    (chan (dmaHeadWrite s p c v) c).state = 1 ∧ (chan (dmaHeadWrite s p c v) c).cur = BitVec.ofNat 56 v.toNat ∧
      (chan (dmaHeadWrite s p c v) c).desc = some (dmaDescOf n) ∧ (chan (dmaHeadWrite s p c v) c).offs = 0 ∧
      (dmaHeadWrite s p c v).mem = s.mem := by
  have cur : (chan (headed s p c v) c).cur.toNat = v.toNat % 2 ^ 56 := by rw [chan_headed, BitVec.toNat_ofNat]
  have there : ReadsDesc (headed s p c v) c (chan (headed s p c v) c).cur.toNat ps n := by
    rw [cur]
    exact reads.of_reach (sameReach_headed owns hp idle v)
  have loaded := chan_loadDesc there
  have goes : dmaHeadWrite s p c v = loadDesc (headed s p c v) c := by
    rw [dmaHeadWrite, if_neg (not_not.2 owns), if_neg (not_not.2 idle)]
    dsimp only
    rw [← headed, loaded]
    exact if_neg fun ⟨_, empty⟩ => long empty
  rw [goes, loaded, mem_loadDesc there, chan_headed]
  exact ⟨rfl, rfl, rfl, rfl, rfl⟩

/-- A busy channel answers DMA_HEAD with DMA_STAT's error bit alone. -/
theorem dmaHeadWrite_busy (busy : (chan s c).state ≠ 0) (v : Word) : dmaHeadWrite s p c v = setBits s .dmaStat c (maskOf 32 32) := by
  rw [dmaHeadWrite, if_neg (not_not.2 owns), if_pos busy]

theorem dmaResumeWrite_paused (paused : (chan s c).state = 2) : dmaResumeWrite s p c =
    if (chan s c).cause = 3 then loadDesc (resumed s c) c else if (chan s c).cause = 4 then completeDesc (resumed s c) c else resumed s c := by
  rw [dmaResumeWrite, if_neg (by simp [owns, paused])]
  rfl

theorem dmaAbortWrite_owned : dmaAbortWrite s p c = abortChan s c := by rw [dmaAbortWrite, if_neg (not_not.2 owns)]

end

end Sys2Proof.Machine
end

section
/-! SUPPORT. TLB invalidations (R207) and CYL_PTROOT (R13, R199): what is left in the TLBs of the die, and what a root register takes. -/

namespace Sys2Proof.Machine

/-! ### TLBs -/

/-- A table whose every entry is rewritten has what the rewriting gives, at every key, when an unlisted key has it. -/
theorem tget_rewritten {α : Type} [DecidableEq α] {d : α} {P : α → Prop} {f : α → α} (unlisted : P d) (gives : ∀ v, P (f v)) (t : Tab α)
    (k : Nat) : P (tget d (t.foldl (fun r kv => tset d r kv.1 (f kv.2)) t) k) := by
  have walked : ∀ l r : Tab α, k ∈ l.map (·.1) ∨ P (tget d r k) → P (tget d (l.foldl (fun r kv => tset d r kv.1 (f kv.2)) r) k) := by
    intro l
    induction l with
    | nil =>
      intro r h
      exact h.resolve_left (by simp)
    | cons kv l ih =>
      intro r h
      refine ih _ ?_
      rw [tget_tset]
      by_cases here : k = kv.1
      · rw [if_pos here]
        exact .inr (gives _)
      · rw [if_neg here]
        exact h.imp_left fun listed => (List.mem_cons.1 listed).resolve_left here
  refine walked t t ?_
  by_cases listed : k ∈ t.map (·.1)
  · exact .inl listed
  · rw [tget_unlisted listed]
    exact .inr unlisted

section
variable (s : State) (f : TlbEntry → Bool)

/-- R207: no TLB of a cylinder holds an entry that was to go. -/
theorem tlbDrop_cyl (c : Nat) : ∀ e ∈ (cyl (tlbDrop s f) c).itlb ++ (cyl (tlbDrop s f) c).dtlb, f e = false := by
  refine tget_rewritten (P := fun y => ∀ e ∈ y.itlb ++ y.dtlb, f e = false)
    (f := fun y => { y with itlb := y.itlb.filter (fun e => !f e), dtlb := y.dtlb.filter (fun e => !f e) }) ?_ (fun y e held => ?_) s.cyls c
  · simp [cylInit]
  · simpa using (List.mem_append.1 held).elim (fun i => (List.mem_filter.1 i).2) (fun i => (List.mem_filter.1 i).2)

/-- R207: no TLB of a keyring does. -/
theorem tlbDrop_kring (k : Nat) : ∀ e ∈ (kring (tlbDrop s f) k).tlb, f e = false := by
  refine tget_rewritten (P := fun y => ∀ e ∈ y.tlb, f e = false) (f := fun y => { y with tlb := y.tlb.filter (fun e => !f e) })
    ?_ (fun y e held => ?_) s.krs k
  · simp [krInit]
  · simpa using (List.mem_filter.1 held).2

/-- R207: no TLB of a DMA engine does. -/
theorem tlbDrop_dma (d : Nat) : ∀ e ∈ tget [] (tlbDrop s f).dmaTlb d, f e = false := by
  refine tget_rewritten (P := fun y : List TlbEntry => ∀ e ∈ y, f e = false) (f := fun y => y.filter (fun e => !f e)) ?_
    (fun y e held => ?_) s.dmaTlb d
  · simp
  · simpa using (List.mem_filter.1 held).2

end

/-! ### Invalidations (R207) -/

/-- The entries that an invalidation removes. -/
def invalHits (i : Inval) (p : Nat) (e : TlbEntry) : Bool := e.part == p && (match i.va with | none => true | some va => tlbHit p va e)

/-- What an invalidation leaves of a partition lies on another page than the one it names. -/
theorem other_page_of_not_invalHits {i : Inval} {p : Nat} {e : TlbEntry} (left_ : invalHits i p e = false) (own : e.part = p) :
    ∃ va, i.va = some va ∧ tlbHit p va e = false := by
  cases named : i.va with
  | none => simp [invalHits, named, own] at left_
  | some va => exact ⟨va, rfl, by simpa [invalHits, named, own] using left_⟩

theorem invalEffect_takes {s : State} {p : Nat} {i : Inval} (oldest : s.inval.find? (fun i => i.part == p) = some i)
    (free : ∀ kv ∈ s.engs, ∀ j ∈ kv.2.queue ++ kv.2.running, j.part = p → jobHolds (invalRange s i) j = false) :
    invalEffect s p = settle { tlbDrop s (invalHits i p) with inval := s.inval.erase i } := by
  have none_holds : s.engs.any (fun kv => (kv.2.queue ++ kv.2.running).any (fun j => j.part == p && jobHolds (invalRange s i) j)) = false := by
    simp only [List.any_eq_false, Bool.and_eq_true, beq_iff_eq, not_and, Bool.not_eq_true]
    exact free
  unfold invalEffect
  rw [oldest]
  dsimp only
  rw [none_holds]
  rfl

/-- R207: once no job holds what it removes, an invalidation leaves no entry of its partition for it in any TLB. -/
theorem invalEffect_clears {s : State} {p : Nat} {i : Inval} (oldest : s.inval.find? (fun i => i.part == p) = some i)
    (free : ∀ kv ∈ s.engs, ∀ j ∈ kv.2.queue ++ kv.2.running, j.part = p → jobHolds (invalRange s i) j = false) :
    (invalEffect s p).inval = s.inval.erase i ∧
      (∀ c, ∀ e ∈ (cyl (invalEffect s p) c).itlb ++ (cyl (invalEffect s p) c).dtlb, invalHits i p e = false) ∧
      (∀ k, ∀ e ∈ (kring (invalEffect s p) k).tlb, invalHits i p e = false) ∧
      ∀ d, ∀ e ∈ tget [] (invalEffect s p).dmaTlb d, invalHits i p e = false := by
  rw [invalEffect_takes oldest free, (settle_settled _).rest]
  exact ⟨rfl, tlbDrop_cyl s _, tlbDrop_kring s _, tlbDrop_dma s _⟩

/-! ### CYL_PTROOT (R13, R199) -/

/-- The value that a write of CYL_PTROOT puts: TOPS keeps a reserved code out, and LOCKED keeps EN at 1. -/
def ptrootPut (s : State) (p : Nat) (v : Word) : Word :=
  let kept := keepField (regGet s .cylPtroot p) v 3 0 (fun n => decide (n < 8))
  if locked s then kept ||| maskOf 4 4 else kept

theorem ptrootWrite_eq (s : State) (p : Nat) (v : Word) (t : Option Nat) :
    ptrootWrite s p v t = addInval (plainWrite s .cylPtroot p (ptrootPut s p v)) p none t := rfl

theorem getLsbD_ptrootPut (s : State) (p : Nat) (v : Word) {i : Nat} (other : i ≠ 4) :
    (ptrootPut s p v).getLsbD i = (keepField (regGet s .cylPtroot p) v 3 0 (fun n => decide (n < 8))).getLsbD i := by
  unfold ptrootPut
  dsimp only
  split
  · rw [BitVec.getLsbD_or, getLsbD_maskOf_out (by omega), Bool.or_false]
  · rfl

/-- A bit of the root register that software may write takes the value put. -/
theorem getLsbD_ptrootWrite (s : State) (p : Nat) (v : Word) (t : Option Nat) {i : Nat}
    (writable : (regAccess .cylPtroot).rw.getLsbD i = true) :
    (regGet (ptrootWrite s p v t) .cylPtroot p).getLsbD i = (ptrootPut s p v).getLsbD i :=
  getLsbD_plainWrite s p _ writable rfl

/-- R199: the root's address is the one written. -/
theorem ptrootWrite_root (s : State) (p : Nat) (v : Word) (t : Option Nat) : fldGet (ptrootWrite s p v t) .cylPtroot p 43 13 = fld v 43 13 := by
  refine fld_congr fun i above below => ?_
  have writable : (regAccess .cylPtroot).rw.getLsbD i = true := by
    have each : ∀ j < 44, 13 ≤ j → (regAccess .cylPtroot).rw.getLsbD j = true := by decide
    exact each i (by omega) above
  rw [getLsbD_ptrootWrite s p v t writable, getLsbD_ptrootPut s p v (by omega), getLsbD_keepField_out _ _ _ (by omega)]

/-- R13: TOPS takes no reserved code. -/
theorem ptrootWrite_tops (s : State) (p : Nat) (v : Word) (t : Option Nat) :
    fldGet (ptrootWrite s p v t) .cylPtroot p 3 0 = if fld v 3 0 < 8 then fld v 3 0 else fldGet s .cylPtroot p 3 0 := by
  have put : fld (regGet (ptrootWrite s p v t) .cylPtroot p) 3 0 =
      fld (keepField (regGet s .cylPtroot p) v 3 0 (fun n => decide (n < 8))) 3 0 := by
    refine fld_congr fun i _ below => ?_
    have writable : (regAccess .cylPtroot).rw.getLsbD i = true := by
      have each : ∀ j < 4, (regAccess .cylPtroot).rw.getLsbD j = true := by decide
      exact each i (by omega)
    rw [getLsbD_ptrootWrite s p v t writable, getLsbD_ptrootPut s p v (by omega)]
  rw [fldGet, put, fld_keepField _ _ _ (by decide)]
  simp only [decide_eq_true_eq, fldGet]

/-- R199: translation is on as written, and in LOCKED always. -/
theorem ptrootWrite_on (s : State) (p : Nat) (v : Word) (t : Option Nat) : xlOn (ptrootWrite s p v t) p = (locked s || fbit v 4) := by
  have kept : (keepField (regGet s .cylPtroot p) v 3 0 (fun n => decide (n < 8))).getLsbD 4 = v.getLsbD 4 :=
    getLsbD_keepField_out _ _ _ (by omega)
  rw [xlOn, fbit, fbit, getLsbD_ptrootWrite s p v t (by decide), ptrootPut]
  cases locked s with
  | true =>
    have en : (maskOf 4 4).getLsbD 4 = true := by decide
    rw [if_pos rfl, BitVec.getLsbD_or, en, Bool.or_true, Bool.true_or]
  | false => rw [if_neg Bool.false_ne_true, kept, Bool.false_or]

end Sys2Proof.Machine
end

section
/-! The statement on DMA chains and TLB invalidations (R211 to R216, R13, R199, R207): what each row leaves, clause by clause. -/

namespace Sys2Proof.Machine

open Sys2Proof.Claims

section
variable {s : State} {p : Fin 256} {c : Fin 512}

theorem dmaHead_foreign (foreign : chanOwner s c ≠ p.val) (v : Word) : Completes (.dmaHead p c v) s (fun s' => s' = s) :=
  ⟨_, rfl, if_pos foreign⟩

theorem dmaHead_busy (owns : chanOwner s c = p.val) (busy : (chan s c).state ≠ 0) (v : Word) : Completes (.dmaHead p c v) s (fun s' =>
    fbit (regGet s' .dmaStat c) 32 = true ∧ chan s' c = chan s c ∧ s'.mem = s.mem) := by
  refine ⟨_, congrArg Host.Outcome.next (dmaHeadWrite_busy owns busy v), ?_, rfl, rfl⟩
  have bit : (maskOf 32 32).getLsbD 32 = true := by decide
  rw [setBits, regGet_regSet, fbit, BitVec.getLsbD_or, bit, Bool.or_true]

theorem dmaHead_starts (owns : chanOwner s c = p.val) (idle : (chan s c).state = 0) {v : Word} {ps : Pieces} {n : Nat}
    (reads : ReadsDesc s c (v.toNat % 2 ^ 56) ps n) (long : (dmaDescOf n).len ≠ 0) :
    Completes (.dmaHead p c v) s (fun s' => (chan s' c).state = 1 ∧ (chan s' c).cur = BitVec.ofNat 56 v.toNat ∧
      (chan s' c).desc = some (dmaDescOf n) ∧ (chan s' c).offs = 0 ∧ s'.mem = s.mem) :=
  ⟨_, rfl, dmaHeadWrite_starts owns (by omega) idle reads long⟩

theorem dmaChunk_copies {d : DmaDesc} {sp dp : Pieces} (turn : HasTurn s c) (desc : (chan s c).desc = some d) (copy : d.op = 1)
    (more : (chan s c).offs + chunkLen d (chan s c).offs < d.len)
    (src : dmaAccess s c ((d.src.toNat + (chan s c).offs) % 2 ^ 56) (chunkLen d (chan s c).offs) 2 = .ok sp)
    (dst : chunkTarget s c d = .ok dp) :
    Completes (.dmaChunk c) s (fun s' => (chan s' c).offs = (chan s c).offs + chunkLen d (chan s c).offs ∧ (chan s' c).state = (chan s c).state ∧
      s'.mem = (storePieces s none dp
        ((pieceAddrs dp).map (fun a => tget 0 (copyDigits s.mem ((pieceAddrs sp).zip (pieceAddrs dp))) a)) (poisoned s sp)).mem) := by
  have moved := dmaStep_movesChunk turn desc more ((if_pos copy).trans src) dst
  rw [chunkDigits, if_pos copy, copy, beq_self_eq_true, Bool.true_and] at moved
  exact ⟨_, rfl, moved⟩

theorem dmaChunk_fills {d : DmaDesc} {dp : Pieces} (turn : HasTurn s c) (desc : (chan s c).desc = some d) (fill : d.op = 2)
    (more : (chan s c).offs + chunkLen d (chan s c).offs < d.len) (dst : chunkTarget s c d = .ok dp) :
    Completes (.dmaChunk c) s (fun s' => (chan s' c).offs = (chan s c).offs + chunkLen d (chan s c).offs ∧ (chan s' c).state = (chan s c).state ∧
      s'.mem = (storePieces s none dp (List.replicate (chunkLen d (chan s c).offs) 0) false).mem) := by
  have other : ¬ d.op = 1 := by omega
  have moved := dmaStep_movesChunk (sp := []) turn desc more (if_neg other) dst
  rw [chunkDigits, if_neg other, beq_eq_false_iff_ne.2 other, Bool.false_and] at moved
  exact ⟨_, rfl, moved⟩

theorem dmaChunk_pauses {d : DmaDesc} {va dt l : Nat} (turn : HasTurn s c) (desc : (chan s c).desc = some d) (copy : d.op = 1)
    (short : (chan s c).offs < d.len)
    (src : dmaAccess s c ((d.src.toNat + (chan s c).offs) % 2 ^ 56) (chunkLen d (chan s c).offs) 2 = .fault va dt l) :
    Completes (.dmaChunk c) s (fun s' =>
      chan s' c = { chan s c with state := 2, fva := BitVec.ofNat 56 va, cause := 1, detail := dt } ∧ s'.mem = s.mem) :=
  ⟨_, congrArg Host.Outcome.next (dmaStep_pauses turn desc short ((if_pos copy).trans src)), chan_pauseChan _ _ _ _ _, mem_pauseChan _ _ _ _ _⟩

theorem dmaChunk_ends {d : DmaDesc} {ps : Pieces} (turn : HasTurn s c) (desc : (chan s c).desc = some d) (moved : d.len ≤ (chan s c).offs)
    (last : d.chain = false) (status : dmaAccess s c ((chan s c).cur.toNat + 30) 2 3 = .ok ps) :
    Completes (.dmaChunk c) s (fun s' => s'.mem = (storePieces s none ps (natDigits 2 1) false).mem ∧ (chan s' c).state = 0 ∧
      (chan s' c).last = 1 ∧ fldGet s' .dmaStat c 31 16 = min 65535 (fldGet s .dmaStat c 31 16 + 1)) := by
  have status' : dmaAccess (served s c) c ((chan (served s c) c).cur.toNat + 30) 2 3 = .ok ps :=
    (dmaAccess_reach (sameReach_served s c) _ _ _).trans status
  obtain ⟨mem, idle, ended, counted⟩ := completeDesc_last (s := served s c) (by omega) desc last status'
  exact ⟨_, congrArg Host.Outcome.next (dmaStep_completes turn desc moved),
    mem.trans (storePieces_mem_congr (s' := served s c) (s := s) _ _ _ _ rfl), idle, ended, counted⟩

theorem dmaResume_goesOn (owns : chanOwner s c = p.val) (paused : (chan s c).state = 2) (cause : (chan s c).cause = 1 ∨ (chan s c).cause = 2) :
    Completes (.dmaResume p c) s (fun s' => chan s' c = { chan s c with state := 1, cause := 0, detail := 0, fva := 0 } ∧ s'.mem = s.mem) := by
  have goes := dmaResumeWrite_paused owns paused
  rw [if_neg (by omega), if_neg (by omega)] at goes
  exact ⟨_, congrArg Host.Outcome.next goes, chan_resumed _ _, rfl⟩

theorem dmaResume_reads {ps : Pieces} {n : Nat} (owns : chanOwner s c = p.val) (paused : (chan s c).state = 2) (cause : (chan s c).cause = 3)
    (reads : ReadsDesc s c (chan s c).cur.toNat ps n) :
    Completes (.dmaResume p c) s (fun s' => (chan s' c).state = 1 ∧ (chan s' c).desc = some (dmaDescOf n) ∧ (chan s' c).offs = 0) := by
  have goes := dmaResumeWrite_paused owns paused
  rw [if_pos cause] at goes
  have there : ReadsDesc (resumed s c) c (chan (resumed s c) c).cur.toNat ps n := by
    rw [chan_resumed]
    exact reads.of_reach (sameReach_resumed paused)
  refine ⟨_, congrArg Host.Outcome.next goes, ?_⟩
  dsimp only
  rw [chan_loadDesc there, chan_resumed]
  exact ⟨rfl, rfl, rfl⟩

theorem dmaResume_stays (still : chanOwner s c ≠ p.val ∨ (chan s c).state ≠ 2) : Completes (.dmaResume p c) s (fun s' => s' = s) :=
  ⟨_, rfl, if_pos still⟩

theorem dmaAbort_ends (owns : chanOwner s c = p.val) (busy : (chan s c).state ≠ 0) :
    Completes (.dmaAbort p c) s (fun s' => (chan s' c).state = 0 ∧ (chan s' c).last = 2 ∧ (chan s' c).desc = none ∧
      ∀ ps, dmaAccess s c ((chan s c).cur.toNat + 30) 2 3 = .ok ps → s'.mem = (storePieces s none ps (natDigits 2 2) false).mem) := by
  refine ⟨_, congrArg Host.Outcome.next (dmaAbortWrite_owned owns), ?_⟩
  dsimp only
  rw [chan_abortChan busy]
  exact ⟨rfl, rfl, rfl, fun ps status => (mem_abortChan busy).trans (congrArg State.mem (statusIfOk_ok 2 status))⟩

theorem dmaAbort_stays (still : chanOwner s c ≠ p.val ∨ (chan s c).state = 0) : Completes (.dmaAbort p c) s (fun s' => s' = s) := by
  refine ⟨_, rfl, ?_⟩
  rw [dmaAbortWrite]
  split
  · rfl
  · rename_i owns
    exact if_pos (still.resolve_left owns)

theorem tlbinvComplete_clears {i : Inval} (oldest : s.inval.find? (fun i => i.part == p.val) = some i)
    (free : ∀ kv ∈ s.engs, ∀ j ∈ kv.2.queue ++ kv.2.running, j.part = p.val → jobHolds (invalRange s i) j = false) :
    Completes (.tlbinvComplete p) s (fun s' => s'.inval = s.inval.erase i ∧
      (∀ c, ∀ e ∈ (cyl s' c).itlb ++ (cyl s' c).dtlb, e.part = p.val → ∃ va, i.va = some va ∧ tlbHit p va e = false) ∧
      (∀ k, ∀ e ∈ (kring s' k).tlb, e.part = p.val → ∃ va, i.va = some va ∧ tlbHit p va e = false) ∧
      (∀ d, ∀ e ∈ tget [] s'.dmaTlb d, e.part = p.val → ∃ va, i.va = some va ∧ tlbHit p va e = false)) := by
  obtain ⟨gone, cyls, krs, dma⟩ := invalEffect_clears oldest free
  exact ⟨_, rfl, gone, fun c e held => other_page_of_not_invalHits (cyls c e held), fun k e held => other_page_of_not_invalHits (krs k e held),
    fun d e held => other_page_of_not_invalHits (dma d e held)⟩

end

/-- Settles O22: each row of a channel by whose it is and what it runs (`dmaHead_starts`, `dmaChunk_copies`, `dmaChunk_ends`, `dmaAbort_ends`), an
invalidation by what it leaves in each TLB (`invalEffect_clears`), and CYL_PTROOT by its fields. -/
theorem dmaAndInvalidation : Obligations.DmaAndInvalidation := by
  unfold Obligations.DmaAndInvalidation
  refine ⟨fun s p c => ?_, fun s p => ?_⟩
  · exact ⟨fun v foreign => dmaHead_foreign foreign v, fun v owns busy => dmaHead_busy owns busy v,
      fun v ps n owns idle reads long => dmaHead_starts owns idle reads long,
      fun d sp dp turn desc copy _ more src dst => dmaChunk_copies turn desc copy more src dst,
      fun d dp turn desc fill _ more dst => dmaChunk_fills turn desc fill more dst,
      fun d va dt l turn desc copy short src => dmaChunk_pauses turn desc copy short src,
      fun d ps turn desc moved last status => dmaChunk_ends turn desc moved last status,
      dmaResume_goesOn, fun ps n owns paused cause reads => dmaResume_reads owns paused cause reads, dmaResume_stays, dmaAbort_ends, dmaAbort_stays⟩
  · exact ⟨fun va => ⟨_, rfl, rfl⟩, ⟨_, rfl, rfl⟩, fun i oldest free => tlbinvComplete_clears oldest free,
      fun v => ⟨_, rfl, ptrootWrite_root s p v none, ptrootWrite_tops s p v none, ptrootWrite_on s p v none, rfl⟩⟩

end Sys2Proof.Machine
end

section
/-! Witnesses of the statement on DMA chains and TLB invalidations: concrete states that meet its hypotheses. -/

namespace Sys2Proof.Machine

open Sys2Proof.Claims

/-! ### Chains (R211 to R216) -/

/-- A keycut of which partition 0 owns all memory and every DMA channel. -/
def ownDma : Keycut := { ownAll with sections := [(4, []), (14, [])] }

/-- A machine in operation, without translation, whose channel 0 is `x`, with `m` in memory. -/
def dmaState (x : Chan) (m : Tab Digit) : State :=
  { State.reset with kc := ownDma, dma := [(0, x)], mem := m, supply := { State.reset.supply with power := 1 } }

/-- A descriptor of 256 digits from `src` to `dst`, at the operation `op`. -/
def oneDesc (op : Nat) (src dst : VAddr) : DmaDesc := { src := src, op := op, knk := false, chain := false, dst := dst, len := 256, next := 0 }

/-- Channel 0 running a descriptor at 64, `offs` digits of it done. -/
def runningChan (d : DmaDesc) (offs : Nat) : Chan := { chanInit with state := 1, cur := 64, desc := some d, offs := offs, part := 0 }

/-- A descriptor at 64 that fills 256 digits from #2000 on. -/
def fillAt64 : Tab Digit := [(64 + 14, 2), (64 + 19, 2), (64 + 34, 1)]

/-- That descriptor read whole. -/
def fillDesc : Nat := 2 * 16 ^ 14 + 2 * 16 ^ 19 + 16 ^ 34

theorem dmaDescOf_fillDesc : dmaDescOf fillDesc = oneDesc 2 0 0x2000 := by decide

/-- Whatever partition 0's channel 0 holds, it reads the descriptor. -/
theorem fillAt64_reads {x : Chan} (owner : chainOwner (dmaState x fillAt64) 0 = 0) :
    ReadsDesc (dmaState x fillAt64) 0 64 [(64, 64)] fillDesc := by
  have reads : ReadsDesc (dmaState chanInit fillAt64) 0 64 [(64, 64)] fillDesc := ⟨by decide, by decide, by decide, by decide, by decide⟩
  have same : SameReach 0 (dmaState chanInit fillAt64) (dmaState x fillAt64) := ⟨owner, rfl, rfl, rfl, rfl, rfl, rfl, rfl, rfl⟩
  exact reads.of_reach same

/-- R214: a chain starts with the descriptor at DMA_HEAD. -/
theorem fill_starts : Completes (.dmaHead 0 0 64) (dmaState chanInit fillAt64) (fun s' =>
    (chan s' 0).state = 1 ∧ (chan s' 0).desc = some (oneDesc 2 0 0x2000)) := by
  obtain ⟨chains, -⟩ := dmaAndInvalidation
  obtain ⟨-, -, starts, -⟩ := chains (dmaState chanInit fillAt64) 0 0
  obtain ⟨s', row, state, -, desc, -⟩ := starts 64 _ _ rfl rfl (fillAt64_reads rfl) (by decide)
  exact ⟨s', row, state, desc.trans (congrArg some dmaDescOf_fillDesc)⟩

/-- R213: over an overlap by one digit the first digit goes to every place of the chunk, which ends with the target's line. -/
theorem overlap_propagates : Completes (.dmaChunk 0) (dmaState (runningChan (oneDesc 1 0x107C 0x107D) 0) [(0x107C, 5)]) (fun s' =>
    (chan s' 0).offs = 3 ∧ readDigit s' 0x107F = 5 ∧ readDigit s' 0x1080 = 0) := by
  obtain ⟨chains, -⟩ := dmaAndInvalidation
  obtain ⟨-, -, -, copies, -⟩ := chains (dmaState (runningChan (oneDesc 1 0x107C 0x107D) 0) [(0x107C, 5)]) 0 0
  obtain ⟨s', row, offs, -, mem⟩ := copies (oneDesc 1 0x107C 0x107D) [(0x107C, 3)] [(0x107D, 3)] (by decide) rfl rfl (by decide) (by decide)
    (by decide) (by decide)
  refine ⟨s', row, offs, ?_⟩
  rw [readDigit, readDigit, mem]
  decide

/-- R215: a source beyond DRAM faults, and the channel pauses there. -/
theorem bad_source_pauses : Completes (.dmaChunk 0) (dmaState (runningChan (oneDesc 1 0x10000000000 0x2000) 0) []) (fun s' =>
    (chan s' 0).state = 2 ∧ (chan s' 0).cause = 1 ∧ (chan s' 0).fva = 0x10000000000) := by
  obtain ⟨chains, -⟩ := dmaAndInvalidation
  obtain ⟨-, -, -, -, -, pauses, -⟩ := chains (dmaState (runningChan (oneDesc 1 0x10000000000 0x2000) 0) []) 0 0
  obtain ⟨s', row, paused, -⟩ := pauses (oneDesc 1 0x10000000000 0x2000) 0x10000000000 7 0 (by decide) rfl rfl (by decide) (by decide)
  have there : chan s' 0 = _ := paused
  refine ⟨s', row, ?_⟩
  dsimp only
  rw [there]
  exact ⟨rfl, rfl, rfl⟩

/-- R214: with its 256 digits moved a descriptor takes STATUS 1 at its digit 30, and DMA_STAT.CNT counts it. -/
theorem moved_ends : Completes (.dmaChunk 0) (dmaState (runningChan (oneDesc 1 0x1000 0x2000) 256) []) (fun s' =>
    readDigit s' 94 = 1 ∧ (chan s' 0).state = 0 ∧ (chan s' 0).last = 1 ∧ fldGet s' .dmaStat 0 31 16 = 1) := by
  obtain ⟨chains, -⟩ := dmaAndInvalidation
  obtain ⟨-, -, -, -, -, -, ends, -⟩ := chains (dmaState (runningChan (oneDesc 1 0x1000 0x2000) 256) []) 0 0
  obtain ⟨s', row, mem, state, last, counted⟩ := ends (oneDesc 1 0x1000 0x2000) [(94, 2)] (by decide) rfl (by decide) rfl (by decide)
  refine ⟨s', row, ?_, state, last, counted⟩
  rw [readDigit, mem]
  decide

/-- R215: a channel that could not read its descriptor reads it at RESUME. -/
theorem resume_reads : Completes (.dmaResume 0 0) (dmaState { runningChan (oneDesc 1 0 0) 0 with state := 2, cause := 3, desc := none } fillAt64)
    (fun s' => (chan s' 0).state = 1 ∧ (chan s' 0).desc = some (oneDesc 2 0 0x2000)) := by
  obtain ⟨chains, -⟩ := dmaAndInvalidation
  obtain ⟨-, -, -, -, -, -, -, -, rereads, -⟩ :=
    chains (dmaState { runningChan (oneDesc 1 0 0) 0 with state := 2, cause := 3, desc := none } fillAt64) 0 0
  obtain ⟨s', row, state, desc, -⟩ := rereads _ _ rfl rfl rfl (fillAt64_reads rfl)
  exact ⟨s', row, state, desc.trans (congrArg some dmaDescOf_fillDesc)⟩

/-- R216: an abort stores STATUS 2. -/
theorem abort_stores : Completes (.dmaAbort 0 0) (dmaState (runningChan (oneDesc 1 0x1000 0x2000) 128) []) (fun s' =>
    (chan s' 0).state = 0 ∧ readDigit s' 94 = 2) := by
  obtain ⟨chains, -⟩ := dmaAndInvalidation
  obtain ⟨-, -, -, -, -, -, -, -, -, -, aborts, -⟩ := chains (dmaState (runningChan (oneDesc 1 0x1000 0x2000) 128) []) 0 0
  obtain ⟨s', row, state, -, -, status⟩ := aborts rfl (by decide)
  refine ⟨s', row, state, ?_⟩
  rw [readDigit, status [(94, 2)] (by decide)]
  decide

/-! ### Invalidations (R207) -/

/-- A TLB entry of partition 0 for the page at `vbase`. -/
def pageEntry (vbase : Nat) : TlbEntry := { part := 0, vbase := vbase, large := false, pbase := 0, x := false, w := true, r := true }

/-- An invalidation of partition 0's page 0 waits, which keyring 0 and a DMA engine hold beside the next page. -/
def invalState : State :=
  { State.reset with krs := [(0, { krInit with tlb := [pageEntry 0, pageEntry 8192] })], dmaTlb := [(3, [pageEntry 0])],
                     inval := [{ part := 0, va := some 64, tid := none }] }

/-- R207: it leaves neither TLB an entry for the page. -/
theorem page_invalidated : Completes (.tlbinvComplete 0) invalState (fun s' =>
    s'.inval = [] ∧ pageEntry 0 ∉ (kring s' 0).tlb ∧ pageEntry 0 ∉ tget [] s'.dmaTlb 3) := by
  obtain ⟨-, invalidations⟩ := dmaAndInvalidation
  obtain ⟨-, -, clears, -⟩ := invalidations invalState 0
  obtain ⟨s', row, gone, -, krs, dma⟩ := clears _ rfl (by simp [invalState, State.reset])
  have stale {e : Prop} (left_ : ∃ va, some 64 = some va ∧ tlbHit 0 va (pageEntry 0) = false) : e := by
    obtain ⟨va, named, miss⟩ := left_
    rw [← Option.some.inj named] at miss
    exact absurd miss (by decide)
  exact ⟨s', row, gone, fun held => stale (krs 0 _ held rfl), fun held => stale (dma 3 _ held rfl)⟩

end Sys2Proof.Machine
end

section
/-! SUPPORT. The set-up of a job (R226 to R235): what has held when it passes, the statuses that a refused one ends with, and how a head job starts. -/

namespace Sys2Proof.Machine

open Sys2Proof.Claims

/-! ### The statuses of a refused set-up (R229) -/

theorem quarCode_status (s : State) (p n : Nat) : quarCode s p n ∈ [0x30, 0x31, 0x42] := by
  unfold quarCode
  split <;> decide

theorem readFormer_status {s : State} {p st : Nat} {f : Former} (refuses : (readFormer s p f).1 = .error st) : st ∈ [0x30, 0x31, 0x42] := by
  unfold readFormer at refuses
  extract_lets ok at refuses
  split at refuses
  · cases refuses; decide
  · split at refuses
    · cases refuses; decide
    · split at refuses
      · cases refuses; decide
      · split at refuses
        · cases refuses; decide
        · cases refuses

theorem readLive_status {s : State} {p n st : Nat} (refuses : (readLive s p n).1 = .error st) : st ∈ [0x30, 0x31, 0x42] := by
  unfold readLive at refuses
  split at refuses
  case h_1 => cases refuses; decide
  case h_2 => split at refuses <;> (cases refuses; exact quarCode_status _ _ _)
  case h_3 =>
    extract_lets s2 at refuses
    split at refuses
    · cases refuses; exact quarCode_status _ _ _
    · split at refuses
      · cases refuses; decide
      · split at refuses
        · cases refuses; exact quarCode_status _ _ _
        · split at refuses <;> cases refuses
          decide

/-- R229: a key that is not read ends the job with SLOT_NONE, SLOT_QUAR or ERROR. -/
theorem readKey_status {s : State} {p turn n st : Nat} (refuses : (readKey s p turn n).1 = .error st) : st ∈ [0x30, 0x31, 0x42] := by
  unfold readKey at refuses
  split at refuses
  · cases refuses; decide
  · split at refuses
    · cases refuses; decide
    · split at refuses
      · exact readFormer_status refuses
      · exact readLive_status refuses

theorem namedKey_status {s : State} {p turn n st : Nat} {use : Option (Key → Bool)}
    (refuses : (namedKey s p turn n use).1 = .error st) :
    st ∈ [0x30, 0x31, 0x32, 0x42] := by
  unfold namedKey at refuses
  split at refuses
  · cases refuses
  · split at refuses
    · rename_i read
      cases refuses
      exact (by decide : [0x30, 0x31, 0x42] ⊆ [0x30, 0x31, 0x32, 0x42]) (readKey_status (congrArg Prod.fst read))
    · split at refuses <;> cases refuses
      decide

/-- R187: a staging is refused by STAGE_FULL or AUDIT_FULL. -/
theorem stageRefusal_status {s : State} {owner n span st : Nat} {erase : Bool} (refuses : stageRefusal s owner n span erase = some st) :
    st ∈ [0x33, 0x37] := by
  unfold stageRefusal at refuses
  extract_lets held at refuses
  split at refuses
  · cases refuses; decide
  · split at refuses
    · cases refuses; decide
    · split at refuses <;> cases refuses
      decide

/-! ### What a set-up has checked (R229) -/

/-- The destination of the key that an operation makes, as its set-up refuses it (R187, R234). -/
def destRefusal (s : State) (p : Nat) (d : Desc) (o : OpDef) : Option Nat :=
  match o.dest d with
  | none => none
  | some (kt, span) => if destBase s p d && destTyped s d kt span then stageRefusal s d.owner d.dslot span false else some 0x34

theorem destRefusal_status {s : State} {p st : Nat} {d : Desc} {o : OpDef} (refuses : destRefusal s p d o = some st) : st ∈ [0x33, 0x34, 0x37] := by
  unfold destRefusal at refuses
  split at refuses
  · cases refuses
  · split at refuses
    · exact (by decide : [0x33, 0x37] ⊆ [0x33, 0x34, 0x37]) (stageRefusal_status refuses)
    · cases refuses; decide

/-- The statuses that a refused set-up may end with (R229). -/
def setUpStatuses : List Nat := [0x20, 0x21, 0x30, 0x31, 0x32, 0x33, 0x34, 0x35, 0x36, 0x37, 0x42]

/-- What has held in a set-up that passed: its descriptor's rules, the translations of its buffers and what they hold, the rules that its keys decide,
and its guard, which has left the state in which the operation runs. -/
structure SetUpPasses (s : State) (e : Nat) (j : Job) (d : Desc) (o : OpDef) (u : SetUp) (s1 : State) : Prop where
  clean : d.clean = true
  okDesc : o.okDesc d = true
  input : ∃ pi, bufPieces s (e / 9) j.part (bufIn o d) = some pi ∧ u.c.inB = readBytes s pi
  output : bufPieces s (e / 9) j.part (bufOut o d) = some u.po
  aux : bufPieces s (e / 9) j.part (bufAux o d) = some u.pa
  auxB : u.c.auxB = readBytes s u.pa
  desc : u.c.d = d
  engine : u.c.e = e
  part : u.c.p = j.part
  keyed : o.keyed u.c = true
  guard : ∃ s2, o.guard u.c s2 = (true, s1)

/-- What a set-up may answer: it passes with every check made, or ends with one of the statuses of a refusal. -/
def SetUpAnswer (s : State) (e : Nat) (j : Job) (d : Desc) (o : OpDef) : Except Nat SetUp × State → Prop
  | (.ok u, s1) => SetUpPasses s e j d o u s1
  | (.error st, _) => st ∈ setUpStatuses

/-- R229: the checks of a set-up in their order; the first that fails decides its status. -/
theorem setUp_answers (s : State) (e : Nat) (j : Job) (d : Desc) (o : OpDef) : SetUpAnswer s e j d o (setUp s e j d o) := by
  have wrong : 0x20 ∈ setUpStatuses := by decide
  have keyStatuses : [0x30, 0x31, 0x32, 0x42] ⊆ setUpStatuses := by decide
  have destStatuses : [0x33, 0x34, 0x37] ⊆ setUpStatuses := by decide
  unfold setUp
  extract_lets k bi bo ba pi po pa
  split
  · exact wrong
  rename_i ruled
  simp only [Bool.or_eq_true, Bool.not_eq_true', Bool.and_eq_false_iff, not_or, Bool.not_eq_false] at ruled
  obtain ⟨⟨⟨⟨⟨clean, okDesc⟩, -⟩, -⟩, -⟩, -⟩ := ruled
  have input : bufPieces s (e / 9) j.part (bufIn o d) = pi := rfl
  have output : bufPieces s (e / 9) j.part (bufOut o d) = po := rfl
  have aux : bufPieces s (e / 9) j.part (bufAux o d) = pa := rfl
  clear_value pi po pa
  split
  case h_2 => exact (by decide : 0x21 ∈ setUpStatuses)
  rename_i pi' po' pa'
  extract_lets bad inB auxB
  split
  · exact wrong
  split
  · rename_i refused
    exact keyStatuses (namedKey_status (congrArg Prod.fst refused))
  split
  · rename_i refused
    exact keyStatuses (namedKey_status (congrArg Prod.fst refused))
  rename_i k2 s2 key2
  extract_lets c
  split
  · exact wrong
  rename_i keyed
  split
  · exact (by decide : 0x34 ∈ setUpStatuses)
  split
  · rename_i st refused
    exact destStatuses (destRefusal_status (s := s2) (p := j.part) (o := o) refused)
  split
  · exact (by decide : 0x35 ∈ setUpStatuses)
  rename_i s3 guard
  split
  · exact (by decide : 0x36 ∈ setUpStatuses)
  exact ⟨clean, okDesc, ⟨pi', input, rfl⟩, output, aux, rfl, rfl, rfl, rfl, by simpa using keyed, s2, guard⟩

theorem setUp_passes {s s1 : State} {e : Nat} {j : Job} {d : Desc} {o : OpDef} {u : SetUp} (ok : setUp s e j d o = (.ok u, s1)) :
    SetUpPasses s e j d o u s1 := by
  have answer := setUp_answers s e j d o
  rw [ok] at answer
  exact answer

theorem setUp_status {s s1 : State} {e st : Nat} {j : Job} {d : Desc} {o : OpDef} (refused : setUp s e j d o = (.error st, s1)) :
    st ∈ setUpStatuses := by
  have answer := setUp_answers s e j d o
  rw [refused] at answer
  exact answer

/-! ### A head job that starts (R226, R534) -/

/-- A row starts the head jobs of its operation, whatever the operation fixes of a created key's attributes. -/
structure JobRow (row : Fin 144 → Instr) (op : Nat) (o : OpDef) : Prop where
  starts : ∀ e s, exec (row e) s = .next (quietSettle (startJob s e op o))
  op : ∀ d, (o.attr d).op = d.op
  ksrc : ∀ d, (o.attr d).ksrc = d.ksrc

theorem prepare_tags (s : State) (e : Nat) (j : Job) (d : Desc) (o : OpDef) :
    (prepare s e j d o).1.op = (o.attr d).op ∧ (prepare s e j d o).1.ksrc = (o.attr d).ksrc := by
  unfold prepare
  split <;> exact ⟨rfl, rfl⟩

/-- R230: a job with a poisoned input ends with POISON; its operation does not run. -/
theorem conclude_poisoned (s : State) (d : Desc) (o : OpDef) {u : SetUp} (bad : u.bad = true) :
    (conclude s d o u).2 = s ∧ (conclude s d o u).1.status = 0x41 ∧ (conclude s d o u).1.stage = none := by
  simp [conclude, bad, stagingOf, resEnd]

theorem startJob_head {s : State} {e op : Nat} {j : Job} {rest : List Job} (head : HeadJob s e op j rest) (o : OpDef) :
    startJob s e op o = modEng (prepare s e j (jobDesc s j) o).2 e (fun x =>
      { x with queue := rest, running := x.running ++ [{ j with result := some (prepare s e j (jobDesc s j) o).1 }] }) := by
  obtain ⟨may, room, queue, known, code⟩ := head
  have open_ : (!mayStart s e || decide (inProgress (e % 9) ≤ (eng s e).running.length)) = false := by simp [may, room]
  have its : ((noOperation s e j).isSome || (jobDesc s j).op != op) = false := by simp [known, code]
  simp only [startJob, open_, queue, its, Bool.false_eq_true, if_false]

section
variable {row : Fin 144 → Instr} {op : Nat} {o : OpDef} (jobRow : JobRow row op o) {s : State} {e : Fin 144} {j : Job} {rest : List Job}
  (head : HeadJob s e op j rest)
include jobRow head

/-- R226: with no cause of the quiet state due, the row of a head job leaves it in progress with what its set-up and its operation have prepared. -/
theorem JobRow.completes {r : JobResult} {s1 : State} (prepared : prepare s e j (jobDesc s j) o = (r, s1)) (calm : s1.faults.quietDue = none)
    {P : JobResult → Prop} (result : P r) : Completes (row e) s (fun s' => ∃ r, Started s s' e j rest r ∧ P r) := by
  obtain ⟨code, source⟩ := prepare_tags s e j (jobDesc s j) o
  rw [prepared, jobRow.op] at code
  rw [prepared, jobRow.ksrc] at source
  have started := startJob_head head o
  rw [prepared] at started
  refine ⟨startJob s e op o, ?_, r, ⟨?_, ?_, code, source⟩, result⟩
  · rw [jobRow.starts, started, quietSettle_of_quietDue_none (by simpa using calm)]
  · rw [started, eng_modEng]
  · rw [started, eng_modEng]
    exact List.getLast?_concat ..

/-- R229: a head job that its set-up refuses will end with the refusal's status. -/
theorem JobRow.refuses {st : Nat} {s1 : State} (refused : setUp s e j (o.attr (jobDesc s j)) o = (.error st, s1))
    (calm : s1.faults.quietDue = none) : Completes (row e) s (fun s' => ∃ r, Started s s' e j rest r ∧ Ends r st) := by
  have prepared : prepare s e j (jobDesc s j) o = (Machine.refused (o.attr (jobDesc s j)) st, s1) := by rw [prepare, refused]
  exact jobRow.completes head prepared calm ⟨rfl, rfl, rfl⟩

/-- R230: a head job with a poisoned input will end with POISON. -/
theorem JobRow.poisons {u : SetUp} {s1 : State} (passed : setUp s e j (o.attr (jobDesc s j)) o = (.ok u, s1))
    (calm : s1.faults.quietDue = none) (bad : u.bad = true) :
    Completes (row e) s (fun s' => ∃ r, Started s s' e j rest r ∧ r.status = 0x41 ∧ r.stage = none) := by
  obtain ⟨kept, status, stage⟩ := conclude_poisoned s1 (o.attr (jobDesc s j)) o bad
  have prepared : prepare s e j (jobDesc s j) o = ((conclude s1 (o.attr (jobDesc s j)) o u).1, s1) := by
    rw [prepare, passed]
    exact Prod.ext rfl kept
  exact jobRow.completes head prepared calm ⟨status, stage⟩

end

/-! ### The rows -/

theorem aesRows_jobRow : ∀ x ∈ aesRows, JobRow x.1 x.2.1 x.2.2 := by
  simp only [aesRows, List.forall_mem_cons, List.not_mem_nil, false_implies, implies_true, and_true]
  and_intros <;> exact ⟨fun _ _ => rfl, fun _ => rfl, fun _ => rfl⟩

theorem otherRows_jobRow : ∀ x ∈ otherRows, JobRow x.1 x.2.1 x.2.2 := by
  simp only [otherRows, List.forall_mem_append, List.forall_mem_cons, List.not_mem_nil, false_implies, implies_true, and_true]
  and_intros <;> exact ⟨fun _ _ => rfl, fun _ => rfl, fun _ => rfl⟩

/-- Settles O14: each operation has its row (`aesRows_jobRow`, `otherRows_jobRow`), which ends a refused job by `JobRow.refuses` and one with a poisoned
input by `JobRow.poisons`; what a set-up answers is said by `setUp_answers`. -/
theorem setUpsDecide : Obligations.SetUpsDecide := by
  unfold Obligations.SetUpsDecide
  intro x listed s e j rest head o d
  have jobRow : JobRow x.1 x.2.1 o := (List.mem_append.1 listed).elim (aesRows_jobRow x) (otherRows_jobRow x)
  refine ⟨fun st s1 refused calm => jobRow.refuses head refused calm, fun u s1 passed calm bad => jobRow.poisons head passed calm bad,
    fun st s1 refused => setUp_status refused, fun u s1 passed => ?_⟩
  have held := setUp_passes passed
  exact ⟨held.clean, held.okDesc, held.input, held.output, held.aux, held.auxB, held.desc, held.engine, held.part⟩

end Sys2Proof.Machine
end

section
/-! SUPPORT. What a job that has passed its set-up with sound inputs will do (R229 to R231), by the shape of what its operation answers. -/

namespace Sys2Proof.Machine

open Sys2Proof.Claims

/-! ### Shapes of results -/

section
variable {s : State} {o : OpDef} {u : SetUp} (sound : u.bad = false)
include sound

/-- R230: an operation's bytes fill OUT. -/
theorem conclude_gives {out : Bytes} (mode : o.outMode u.c.d = 1) (ran : (o.run u.c s).1 = resOk out) : Gives u (conclude s u.c.d o u).1 out := by
  simp [conclude, sound, ran, mode, stagingOf, resOk, Gives]

/-- R239: with no OUT, what an operation keeps for the next job fills AUX. -/
theorem conclude_givesAux {b : Bytes} (mode : o.outMode u.c.d ≠ 1) (ran : (o.run u.c s).1 = { resOk [] with aux := some b }) :
    GivesAux u (conclude s u.c.d o u).1 b := by
  simp [conclude, sound, ran, mode, stagingOf, resOk, GivesAux]

/-- An operation that writes no OUT ends with its status alone. -/
theorem conclude_ends {st : Nat} (mode : o.outMode u.c.d ≠ 1) (ran : (o.run u.c s).1 = resEnd st) : Ends (conclude s u.c.d o u).1 st := by
  simp [conclude, sound, ran, mode, stagingOf, resEnd, Ends]

/-- A verification ends with OK or MISMATCH. -/
theorem conclude_judges {b : Bool} {p : Prop} (mode : o.outMode u.c.d ≠ 1) (ran : (o.run u.c s).1 = resVerdict b) (verdict : b = true ↔ p) :
    Judges (conclude s u.c.d o u).1 p := by
  obtain ⟨status, stage, writes⟩ := conclude_ends sound mode ran
  rw [← verdict]
  exact ⟨fun yes => by rw [status, if_pos yes], fun no => by rw [status, if_neg no], writes, stage⟩

/-- R231: an operation that fails after it has begun to write clears OUT. -/
theorem conclude_fails {st : Nat} (mode : o.outMode u.c.d = 1) (ran : (o.run u.c s).1 = resEnd st) (failed : st ≠ 0x10) (late : isRefusal st = false) :
    Fails u (conclude s u.c.d o u).1 st := by
  simp [conclude, sound, ran, mode, stagingOf, resEnd, Fails, failed, late]

/-- R234: a created key is staged where the descriptor says, when its type was known at set-up. -/
theorem conclude_makes {kt : Nat} {mat out : Bytes} (early : o.lateDest = false) (ran : (o.run u.c s).1 = resKey kt mat out) :
    Makes u (conclude s u.c.d o u).1 kt mat := by
  simp [conclude, sound, ran, early, stagingOf, resKey, Makes]

theorem conclude_makesOnly {kt : Nat} {mat out : Bytes} (mode : o.outMode u.c.d ≠ 1) (early : o.lateDest = false)
    (ran : (o.run u.c s).1 = resKey kt mat out) : MakesOnly u (conclude s u.c.d o u).1 kt mat := by
  refine ⟨conclude_makes sound early ran, ?_⟩
  simp [conclude, sound, ran, early, mode, stagingOf, resKey]

theorem conclude_makesWith {kt : Nat} {mat out : Bytes} (mode : o.outMode u.c.d = 1) (early : o.lateDest = false)
    (ran : (o.run u.c s).1 = resKey kt mat out) : MakesWith u (conclude s u.c.d o u).1 kt mat out := by
  refine ⟨conclude_makes sound early ran, ?_⟩
  simp [conclude, sound, ran, early, mode, stagingOf, resKey]

end

/-- R229, R234: a key whose type its payload names is refused by the rules of its type, or by the staging, and else made. -/
def UnwrapsTo (u : SetUp) (s : State) (r : JobResult) : Option (Nat × Bytes) → Prop
  | none => Ends r 0x11
  | some (kt, mat) =>
    if destTyped s u.c.d kt (spanFor mat.length) = false then Ends r 0x34
    else match stageRefusal s u.c.d.owner u.c.d.dslot (spanFor mat.length) false with
      | some st => Ends r st
      | none => MakesOnly u r kt mat

theorem conclude_unwraps {s : State} {o : OpDef} {u : SetUp} (sound : u.bad = false) (mode : o.outMode u.c.d ≠ 1) (late : o.lateDest = true)
    {payload : Option (Nat × Bytes)}
    (ran : o.run u.c s = match payload with | none => (resEnd 0x11, s) | some (kt, mat) => (resKey kt mat [], s)) :
    UnwrapsTo u s (conclude s u.c.d o u).1 payload := by
  match payload, ran with
  | none, ran => exact conclude_ends sound mode (congrArg Prod.fst ran)
  | some (kt, mat), ran =>
    dsimp only [UnwrapsTo]
    split
    · rename_i misfit
      simp [conclude, sound, ran, late, mode, stagingOf, resKey, resEnd, misfit, Ends]
    · rename_i fits
      split
      · rename_i st refusal
        simp [conclude, sound, ran, late, mode, stagingOf, resKey, resEnd, fits, refusal, Ends]
      · rename_i refusal
        simp [conclude, sound, ran, late, mode, stagingOf, resKey, fits, refusal, MakesOnly, Makes]

/-! ### From a row to what its jobs do -/

/-- The parts of the state that the guard and the run of an operation may change (R225, R242, R277). -/
def operationParts : List Part := [.free, .regs, .krs, .guard]

/-- R226, R229: what an operation concludes for every job that has passed its set-up, its row's head jobs do. -/
theorem JobRow.runs {row : Fin 144 → Instr} {op : Nat} {o : OpDef} (jobRow : JobRow row op o) (within_ : OpWithin (· ∈ operationParts) o)
    {P : SetUp → State → JobResult → Prop}
    (concludes : ∀ {s e j u s1}, SetUpPasses s e j u.c.d o u s1 → u.bad = false → P u s1 (conclude s1 u.c.d o u).1) : Runs row op o P := by
  intro s e j rest u s1 head passed sound calm
  have held := setUp_passes passed
  have prepared : prepare s e j (jobDesc s j) o = conclude s1 u.c.d o u := by rw [prepare, passed, held.desc]
  have stays : (conclude s1 u.c.d o u).2.faults = s1.faults :=
    faults_of_within (conclude_within s1 u.c.d o u within_ (Within.refl s1)) (by decide)
  have held : SetUpPasses s e j u.c.d o u s1 := held.desc ▸ held
  exact jobRow.completes head prepared ((congrArg Faults.quietDue stays).trans calm) (concludes held sound)

/-- The same of an operation that takes the created key's attributes as the descriptor gives them. -/
theorem runs_of_plain {row : Fin 144 → Instr} {op : Nat} {o : OpDef} (starts : ∀ e s, exec (row e) s = .next (quietSettle (startJob s e op o)))
    (plain : o.attr = id) (within_ : OpWithin (· ∈ operationParts) o) {P : SetUp → State → JobResult → Prop}
    (concludes : ∀ {s e j u s1}, SetUpPasses s e j u.c.d o u s1 → u.bad = false → P u s1 (conclude s1 u.c.d o u).1) : Runs row op o P :=
  have jobRow : JobRow row op o := ⟨starts, fun d => by rw [plain]; rfl, fun d => by rw [plain]; rfl⟩
  jobRow.runs within_ concludes

end Sys2Proof.Machine
end

section
/-! SUPPORT. The jobs of the AES, Keccak, lattice, big-number and DRBG engines (R225, R236 to R242): what each operation concludes. -/

namespace Sys2Proof.Machine

open Sys2Proof.Claims

/-! ### The AES engines (R237, R271) -/

section
variable {row : Fin 144 → Instr} {op n : Nat} {k : KeyUse} {f : Bytes → Bytes → Bytes}

theorem ecb_runs (starts : ∀ e s, exec (row e) s = .next (quietSettle (startJob s e op (opEcb n k f)))) :
    Runs row op (opEcb n k f) (fun u _ r => Gives u r ((blocks n u.c.inB).flatMap (f (keyBytes u.c.k1)))) :=
  runs_of_plain starts rfl (opEcb_okw _ _ _) fun _ sound => conclude_gives sound rfl rfl

theorem cbcEncrypt_runs (starts : ∀ e s, exec (row e) s = .next (quietSettle (startJob s e op (opCbc n k true f)))) :
    Runs row op (opCbc n k true f) (fun u _ r => Gives u r (cbcEncRun (f (keyBytes u.c.k1)) u.c.auxB (blocks n u.c.inB))) :=
  runs_of_plain starts rfl (opCbc_okw _ _ _ _) fun _ sound => conclude_gives sound rfl rfl

theorem cbcDecrypt_runs (starts : ∀ e s, exec (row e) s = .next (quietSettle (startJob s e op (opCbc n k false f)))) :
    Runs row op (opCbc n k false f) (fun u _ r => Gives u r (cbcDecRun (f (keyBytes u.c.k1)) u.c.auxB (blocks n u.c.inB))) :=
  runs_of_plain starts rfl (opCbc_okw _ _ _ _) fun _ sound => conclude_gives sound rfl rfl

end

theorem xts_runs {row : Fin 144 → Instr} {op : Nat} {enc : Bool}
    (starts : ∀ e s, exec (row e) s = .next (quietSettle (startJob s e op (opXts enc)))) :
    Runs row op (opXts enc) (fun u _ r => Gives u r (Config.xts enc (keyBytes u.c.k1) u.c.auxB u.c.inB)) :=
  runs_of_plain starts rfl (opXts_okw _) fun _ sound => conclude_gives sound rfl rfl

section
variable {row : Fin 144 → Instr} {op lo hi : Nat} {k : KeyUse} {extra : Desc → Bool} {f : Ctx → Bytes}

/-- R237: a MAC is generated and verified over the same bytes. -/
theorem macGenerate_runs (starts : ∀ e s, exec (row e) s = .next (quietSettle (startJob s e op (opMacGen lo hi k extra f)))) :
    Runs row op (opMacGen lo hi k extra f) (fun u _ r => Gives u r ((f u.c).take u.c.d.p0)) :=
  runs_of_plain starts rfl (opMacGen_okw _ _ _ _ _) fun _ sound => conclude_gives sound rfl rfl

theorem macVerify_runs (starts : ∀ e s, exec (row e) s = .next (quietSettle (startJob s e op (opMacVer lo hi k extra f)))) :
    Runs row op (opMacVer lo hi k extra f) (fun u _ r => Judges r ((f u.c).take u.c.d.p0 = u.c.auxB)) :=
  runs_of_plain starts rfl (opMacVer_okw _ _ _ _ _) fun _ sound => conclude_judges sound Nat.zero_ne_one rfl decide_eq_true_iff

end

/-- R237: a tag that does not match is a MISMATCH, with OUT cleared. -/
theorem conclude_gcmDecrypt {s : State} {u : SetUp} (sound : u.bad = false) :
    let g := Config.gcmDec (keyBytes u.c.k1) (u.c.auxB.take 12) (u.c.auxB.drop 12) (u.c.inB.take u.c.d.outLen)
    let r := (conclude s u.c.d opGcmDec u).1
    (g.2.take u.c.d.p0 = u.c.inB.drop u.c.d.outLen → Gives u r g.1) ∧ (g.2.take u.c.d.p0 ≠ u.c.inB.drop u.c.d.outLen → Fails u r 0x11) :=
  ⟨fun same => conclude_gives sound rfl (if_pos same), fun differs => conclude_fails sound rfl (if_neg differs) (by decide) rfl⟩

/-- R271: the guard lets a wrap through only when the policy allows the pair of keys. -/
theorem wrapGuard_allows {c : Ctx} {s s1 : State} (through : wrapGuard c s = (true, s1)) : mayWrap c.kc c.k1 c.k2 = true := by
  unfold wrapGuard at through
  split at through
  · assumption
  · cases through

/-- R237, R271: clear import is let through only from secure scratch, and only when the policy opens it. -/
theorem clearImport_allowed {s s1 : State} {e : Nat} {j : Job} {u : SetUp} (held : SetUpPasses s e j u.c.d opClearImport u s1) :
    (polFlags u.c.kc).testBit 0 = true ∧ ∀ x ∈ u.c.inP, isScratch x.1 = true := by
  obtain ⟨s2, through⟩ := held.guard
  refine ⟨?_, List.all_eq_true.1 held.keyed⟩
  dsimp only [opClearImport] at through
  split at through
  · assumption
  · cases through

/-- Settles O15: each row by the shape of its operation — bytes for OUT, a verdict, or a key — and, where the guard has a say, by what it lets through
(`wrapGuard_allows`, `clearImport_allowed`). -/
theorem aesEnginesRun : Obligations.AesEnginesRun := by
  unfold Obligations.AesEnginesRun
  have regs : Has (· ∈ operationParts) .regs := has_mem (by decide)
  refine ⟨⟨ecb_runs fun _ _ => rfl, ecb_runs fun _ _ => rfl, cbcEncrypt_runs fun _ _ => rfl, cbcDecrypt_runs fun _ _ => rfl, ?ctr, ?gcmEncrypt, ?gcmDecrypt,
      xts_runs fun _ _ => rfl, xts_runs fun _ _ => rfl, ecb_runs fun _ _ => rfl, ecb_runs fun _ _ => rfl, cbcEncrypt_runs fun _ _ => rfl,
      cbcDecrypt_runs fun _ _ => rfl⟩,
    ⟨macGenerate_runs fun _ _ => rfl, macVerify_runs fun _ _ => rfl⟩, ⟨macGenerate_runs fun _ _ => rfl, macVerify_runs fun _ _ => rfl⟩,
    ⟨macGenerate_runs fun _ _ => rfl, macVerify_runs fun _ _ => rfl⟩, ?wrap, ?unwrap, ?clear⟩
  case ctr => exact runs_of_plain (fun _ _ => rfl) rfl opCtr_okw fun _ sound => conclude_gives sound rfl rfl
  case gcmEncrypt => exact runs_of_plain (fun _ _ => rfl) rfl opGcmEnc_okw fun _ sound => conclude_gives sound rfl rfl
  case gcmDecrypt => exact runs_of_plain (fun _ _ => rfl) rfl opGcmDec_okw fun _ sound => conclude_gcmDecrypt sound
  case wrap =>
    refine runs_of_plain (fun _ _ => rfl) rfl opKwpWrap_okw fun held sound => ⟨conclude_gives sound rfl rfl, ?_⟩
    obtain ⟨s2, through⟩ := held.guard
    exact wrapGuard_allows through
  case unwrap =>
    refine runs_of_plain (fun _ _ => rfl) rfl opKwpUnwrap_okw fun {_ _ _ u s1} _ sound => ?_
    exact conclude_unwraps (payload := (Config.kwpUnwrap (keyBytes u.c.k1) u.c.inB).bind payloadKey) sound Nat.zero_ne_one rfl rfl
  case clear =>
    exact runs_of_plain (fun _ _ => rfl) rfl opClearImport_okw fun held sound => ⟨conclude_makesWith sound rfl rfl rfl, clearImport_allowed held⟩

end Sys2Proof.Machine
end

section
/-! SUPPORT. The jobs of the Keccak engine and of the lattice engine (R225, R236, R239, R240). -/

namespace Sys2Proof.Machine

open Sys2Proof.Claims

/-! ### The Keccak engine (R239) -/

/-- R239: with MORE a hash keeps its state in AUX, and else it gives its digest. -/
theorem conclude_hash {rate : Nat} {dom : Byte} {lenOk : Nat → Bool} {s : State} {u : SetUp} (sound : u.bad = false) :
    let start := if u.c.d.cont then u.c.auxB.take 200 else zeros 200
    let r := (conclude s u.c.d (opHash rate dom lenOk) u).1
    if u.c.d.more then GivesAux u r (padTo 256 (absorb rate start u.c.inB)) else Gives u r (spongeEnd rate dom start u.c.inB u.c.d.outLen) := by
  intro start r
  split
  · rename_i more
    have mode : (opHash rate dom lenOk).outMode u.c.d = 0 := if_pos more
    exact conclude_givesAux sound (by rw [mode]; exact Nat.zero_ne_one) (congrArg Prod.fst (if_pos more))
  · rename_i last
    exact conclude_gives sound (if_neg last) (congrArg Prod.fst (if_neg last))

section
variable {row : Fin 144 → Instr} {op : Nat}

theorem hash_runs {rate : Nat} {dom : Byte} {lenOk : Nat → Bool}
    (starts : ∀ e s, exec (row e) s = .next (quietSettle (startJob s e op (opHash rate dom lenOk)))) :
    Runs row op (opHash rate dom lenOk) (fun u _ r =>
      if u.c.d.more then GivesAux u r (padTo 256 (absorb rate (if u.c.d.cont then u.c.auxB.take 200 else zeros 200) u.c.inB))
      else Gives u r (spongeEnd rate dom (if u.c.d.cont then u.c.auxB.take 200 else zeros 200) u.c.inB u.c.d.outLen)) :=
  runs_of_plain starts rfl (opHash_okw _ _ _) fun _ sound => conclude_hash sound

theorem kmacGenerate_runs {bits : Nat} (starts : ∀ e s, exec (row e) s = .next (quietSettle (startJob s e op (opKmacGen bits)))) :
    Runs row op (opKmacGen bits) (fun u _ r => Gives u r (kmac bits (keyBytes u.c.k1) u.c.inB u.c.d.outLen [])) :=
  runs_of_plain starts rfl (opKmacGen_okw _) fun _ sound => conclude_gives sound rfl rfl

theorem kmacVerify_runs {bits : Nat} (starts : ∀ e s, exec (row e) s = .next (quietSettle (startJob s e op (opKmacVer bits)))) :
    Runs row op (opKmacVer bits) (fun u _ r => Judges r (kmac bits (keyBytes u.c.k1) u.c.inB u.c.d.auxLen [] = u.c.auxB)) :=
  runs_of_plain starts rfl (opKmacVer_okw _) fun _ sound => conclude_judges sound Nat.zero_ne_one rfl decide_eq_true_iff

end

/-! ### The lattice engine (R225, R236, R240) -/

/-- R240: the parameter set of an ML-DSA job that its descriptor's rules allow. -/
theorem dsaSet_named {d : Desc} {f : Nat → Bool} (rule : whenSet (dsaSet d) f = true) :
    (dsaSet d).getD 0 = if d.p0 = 0x44 then 0 else if d.p0 = 0x65 then 1 else 2 := by
  unfold dsaSet at rule ⊢
  split
  · rfl
  · split
    · rfl
    · split
      · rfl
      · simp_all [whenSet]

/-- R240: the parameter set of an ML-KEM job that its descriptor's rules allow. -/
theorem kemSet_named {d : Desc} {f : Nat → Bool} (rule : whenSet (kemSet d) f = true) :
    (kemSet d).getD 0 = if d.p0 = 0x76 then 0 else 1 := by
  unfold kemSet at rule ⊢
  split
  · rfl
  · split
    · rfl
    · simp_all [whenSet]

/-- R236, R240: a signature is hedged by a draw unless DET; when every attempt was rejected the job ends with LIMIT. -/
theorem conclude_dsaSign {s : State} {u : SetUp} (sound : u.bad = false) {set : Nat} (named : (dsaSet u.c.d).getD 0 = set) :
    match Config.mlDsaSign (set + 16 * u.c.d.p1) (keyBytes u.c.k1) u.c.auxB u.c.inB
      (if u.c.d.det then zeros 32 else (drbgDraw s (u.c.e / 9) u.c.p 32 false).1) with
    | some sig => Gives u (conclude s u.c.d opDsaSign u).1 sig
    | none => Fails u (conclude s u.c.d opDsaSign u).1 0x40 := by
  have hedged : (if u.c.d.det then (zeros 32, s) else drbgDraw s (u.c.e / 9) u.c.p 32 false).1 =
      if u.c.d.det then zeros 32 else (drbgDraw s (u.c.e / 9) u.c.p 32 false).1 := apply_ite Prod.fst _ _ _
  rw [← named, ← hedged]
  split
  · rename_i signed
    refine conclude_gives sound rfl ?_
    simp only [opDsaSign, withDraw, opPlain, signed]
  · rename_i rejected
    refine conclude_fails sound rfl ?_ (by decide) rfl
    simp only [opDsaSign, withDraw, opPlain, rejected]

/-- Settles O16: the hashes by `conclude_hash`, the MACs and keys by the shape of their operations; the parameter set of a lattice job is the one that its
descriptor's rules allow (`dsaSet_named`, `kemSet_named`). -/
theorem keccakAndLatticeRun : Obligations.KeccakAndLatticeRun := by
  unfold Obligations.KeccakAndLatticeRun
  have free : Has (· ∈ operationParts) .free := has_mem (by decide)
  have krs : Has (· ∈ operationParts) .krs := has_mem (by decide)
  refine ⟨⟨hash_runs fun _ _ => rfl, hash_runs fun _ _ => rfl, hash_runs fun _ _ => rfl, hash_runs fun _ _ => rfl, hash_runs fun _ _ => rfl,
    hash_runs fun _ _ => rfl, kmacGenerate_runs fun _ _ => rfl, kmacVerify_runs fun _ _ => rfl, kmacGenerate_runs fun _ _ => rfl,
    kmacVerify_runs fun _ _ => rfl, ?derive⟩, ?lattice⟩
  case derive => exact runs_of_plain (fun _ _ => rfl) rfl opKmacDerive_okw fun _ sound => conclude_makesOnly sound Nat.zero_ne_one rfl rfl
  case lattice =>
    intro draw dsa kem
    refine ⟨?dsaKeyGen, ?dsaSign, ?dsaVerify, ?kemKeyGen, ?encapsulate, ?decapsulate⟩
    case dsaKeyGen =>
      refine runs_of_plain (fun _ _ => rfl) rfl opDsaKeyGen_okw fun {_ _ _ u s1} held sound => ?_
      have set : (dsaSet u.c.d).getD 0 = dsa u := dsaSet_named held.okDesc
      rw [← set]
      exact conclude_makesWith sound rfl rfl rfl
    case dsaSign =>
      refine runs_of_plain (fun _ _ => rfl) rfl opDsaSign_okw fun {_ _ _ u s1} held sound => ?_
      have rule := held.okDesc
      simp only [opDsaSign, withDraw, opPlain, Bool.and_eq_true] at rule
      obtain ⟨⟨⟨rule, -⟩, -⟩, -⟩ := rule
      exact conclude_dsaSign sound (dsaSet_named rule)
    case dsaVerify =>
      refine runs_of_plain (fun _ _ => rfl) rfl opDsaVerify_okw fun {_ _ _ u s1} held sound => ?_
      have set : (dsaSet u.c.d).getD 0 = dsa u := dsaSet_named held.okDesc
      rw [← set]
      exact conclude_judges sound (by decide : 2 ≠ 1) rfl Iff.rfl
    case kemKeyGen =>
      refine runs_of_plain (fun _ _ => rfl) rfl opKemKeyGen_okw fun {_ _ _ u s1} held sound => ?_
      have set : (kemSet u.c.d).getD 0 = kem u := kemSet_named held.okDesc
      rw [← set]
      exact conclude_makesWith sound rfl rfl rfl
    case encapsulate =>
      refine runs_of_plain (fun _ _ => rfl) rfl opKemEncap_okw fun {_ _ _ u s1} held sound => ?_
      have set : (kemSet u.c.d).getD 0 = kem u := kemSet_named held.okDesc
      rw [← set]
      exact conclude_makesWith sound rfl rfl rfl
    case decapsulate =>
      refine runs_of_plain (fun _ _ => rfl) rfl opKemDecap_okw fun {_ _ _ u s1} held sound => ?_
      have set : (kemSet u.c.d).getD 0 = kem u := kemSet_named held.okDesc
      rw [← set]
      exact conclude_makesOnly sound Nat.zero_ne_one rfl rfl

end Sys2Proof.Machine
end

section
/-! SUPPORT. The jobs of the big-number engine and of the DRBG engine (R225, R236, R241, R242), and how a DRBG counts its requests. -/

namespace Sys2Proof.Machine

open Sys2Proof.Claims

/-! ### The big-number engine (R225, R236, R241) -/

section
variable {s : State} {u : SetUp} (sound : u.bad = false)
include sound

/-- R236: with no candidate that serves, the generation ends with LIMIT. -/
theorem conclude_rsaKeyGen :
    match Config.rsaKeyGen u.c.d.p2 (drbgDraw s (u.c.e / 9) u.c.p 64 false).1 with
    | none => Fails u (conclude s u.c.d opRsaKeyGen u).1 0x40
    | some k => MakesWith u (conclude s u.c.d opRsaKeyGen u).1 13 (padTo (rsaMat (u.c.d.p2 / 8)) k.2) k.1 := by
  split
  · rename_i none_
    refine conclude_fails sound rfl ?_ (by decide) rfl
    simp only [opRsaKeyGen, withDraw, opPlain, none_]
  · rename_i k found
    refine conclude_makesWith sound rfl rfl ?_
    simp only [opRsaKeyGen, withDraw, opPlain, found]

/-- R241: a signature is hedged by a draw unless DET. -/
theorem conclude_ecdsaSign : Gives u (conclude s u.c.d opEcdsaSign u).1 (Config.ecdsaSign (curveOf u.c.k1) u.c.k1.mat u.c.inB
    (if u.c.d.det then [] else (drbgDraw s (u.c.e / 9) u.c.p 32 false).1)) := by
  have hedged : (if u.c.d.det then ([], s) else drbgDraw s (u.c.e / 9) u.c.p 32 false).1 =
      if u.c.d.det then [] else (drbgDraw s (u.c.e / 9) u.c.p 32 false).1 := apply_ite Prod.fst _ _ _
  rw [← hedged]
  exact conclude_gives sound rfl rfl

/-- R241: an invalid peer point is a MISMATCH. -/
theorem conclude_ecdh :
    match Config.ecdh (curveOf u.c.k1) u.c.k1.mat u.c.auxB with
    | none => Ends (conclude s u.c.d opEcdh u).1 0x11
    | some x => MakesOnly u (conclude s u.c.d opEcdh u).1 u.c.d.kt (padTo (matLen u.c.d.kt) x) := by
  split
  · rename_i invalid
    refine conclude_ends sound Nat.zero_ne_one ?_
    simp only [opEcdh, opPlain, invalid]
  · rename_i x shared
    refine conclude_makesOnly (out := []) sound Nat.zero_ne_one rfl ?_
    simp only [opEcdh, opPlain, shared]

end

/-! ### The DRBGs (R242) -/

theorem drbgOf_modDrbg (s : State) (k p : Nat) (f : Drbg → Drbg) : drbgOf (modDrbg s k p f) k p = f (drbgOf s k p) := by
  rw [drbgOf, modDrbg, kring_modKr, tget_tmod_self, drbgOf]

theorem drbgOf_modDrbg_ne (s : State) {k p i q : Nat} (f : Drbg → Drbg) (other : ¬ (i = k ∧ q = p)) : drbgOf (modDrbg s k p f) i q = drbgOf s i q := by
  by_cases same : i = k
  · subst same
    rw [drbgOf, modDrbg, kring_modKr, tget_tmod_ne _ _ _ _ fun h => other ⟨rfl, h⟩, drbgOf]
  · rw [drbgOf, modDrbg, kring_modKr_ne _ _ _ _ same, drbgOf]

/-- R242: a draw that needs no TRNG counts one request more; any other reseeds first. -/
theorem drbgOf_drbgDraw (s : State) (k p n : Nat) (pr : Bool) : drbgOf (drbgDraw s k p n pr).2 k p =
    { live := (drbgOf (if needsTrng s k p pr then reseed s k p else s) k p).live
      count := (drbgOf (if needsTrng s k p pr then reseed s k p else s) k p).count + 1 } := drbgOf_modDrbg _ _ _ _

/-- R242: an internal draw needs no TRNG while its DRBG is live and below its limit. -/
theorem needsTrng_eq_false {s : State} {k p : Nat} : needsTrng s k p false = false ↔ (drbgOf s k p).live = true ∧ (drbgOf s k p).count < 2 ^ 20 := by
  rw [needsTrng, Bool.or_false, Bool.or_eq_false_iff, decide_eq_false_iff_not, Bool.not_eq_false', Nat.not_le, reseedLimit]

theorem drbgDraw_counts (s : State) (k p n : Nat) : drbgOf (drbgDraw s k p n false).2 k p =
    { live := true, count := if (drbgOf s k p).live = true ∧ (drbgOf s k p).count < 2 ^ 20 then (drbgOf s k p).count + 1 else 1 } := by
  rw [drbgOf_drbgDraw]
  by_cases serves : (drbgOf s k p).live = true ∧ (drbgOf s k p).count < 2 ^ 20
  · rw [if_pos serves, needsTrng_eq_false.2 serves, if_neg Bool.false_ne_true, serves.1]
  · have asks : needsTrng s k p false = true := Bool.of_not_eq_false (mt needsTrng_eq_false.1 serves)
    rw [if_neg serves, if_pos asks, reseed, drbgOf_modDrbg]

/-- R242: a DRBG at its limit reseeds without a request when the TRNG is healthy, and no other does. -/
theorem autoReseed_reseeds {s : State} {k : Fin 16} {p : Fin 256} (live : (drbgOf s k p).live = true) (spent : 2 ^ 20 ≤ (drbgOf s k p).count)
    (healthy : s.trngBad = false) : Completes (.drbgAutoReseed k p) s (fun s' => drbgOf s' k p = { live := true, count := 0 } ∧
      ∀ k' p', ¬ (k' = k.val ∧ p' = p.val) → drbgOf s' k' p' = drbgOf s k' p') := by
  have due : ((drbgOf s k p).live && decide (reseedLimit ≤ (drbgOf s k p).count) && !s.trngBad) = true := by
    rw [live, healthy, decide_eq_true (show reseedLimit ≤ _ from spent)]
    rfl
  refine ⟨reseed s k p, ?_, drbgOf_modDrbg _ _ _ _, fun k' p' other => drbgOf_modDrbg_ne _ _ other⟩
  show Host.Outcome.next _ = _
  rw [if_pos due]

/-- Settles O17: each job by the shape of its operation (`conclude_rsaKeyGen`, `conclude_ecdsaSign` and `conclude_ecdh` where the answer depends on a draw
or on the peer's point), a draw's count by `drbgDraw_counts`, a reseed without a request by `autoReseed_reseeds`. -/
theorem bigNumbersAndDrbgRun : Obligations.BigNumbersAndDrbgRun := by
  unfold Obligations.BigNumbersAndDrbgRun
  have free : Has (· ∈ operationParts) .free := has_mem (by decide)
  have krs : Has (· ∈ operationParts) .krs := has_mem (by decide)
  refine ⟨?bigNumbers, ?generate, ?reseed, ?generateKey, drbgDraw_counts, fun s k p => autoReseed_reseeds⟩
  case bigNumbers =>
    intro draw
    refine ⟨?rsaSign, ?rsaVerify, ?rsaOaep, ?rsaKeyGen, ?ecdsaSign, ?ecdsaVerify, ?ecdh, ?ecKeyGen, ?edSign, ?edVerify, ?modExp⟩
    case rsaSign => exact runs_of_plain (fun _ _ => rfl) rfl opRsaSign_okw fun _ sound => conclude_gives sound rfl rfl
    case rsaVerify =>
      exact runs_of_plain (fun _ _ => rfl) rfl opRsaVerify_okw fun _ sound => conclude_judges sound (by decide : 2 ≠ 1) rfl Iff.rfl
    case rsaOaep =>
      refine runs_of_plain (fun _ _ => rfl) rfl opRsaOaep_okw fun {_ _ _ u s1} _ sound => ?_
      exact conclude_unwraps (payload := (Config.rsaOaep u.c.k1.mat u.c.inB).bind payloadKey) sound Nat.zero_ne_one rfl rfl
    case rsaKeyGen => exact runs_of_plain (fun _ _ => rfl) rfl opRsaKeyGen_okw fun _ sound => conclude_rsaKeyGen sound
    case ecdsaSign => exact runs_of_plain (fun _ _ => rfl) rfl opEcdsaSign_okw fun _ sound => conclude_ecdsaSign sound
    case ecdsaVerify =>
      exact runs_of_plain (fun _ _ => rfl) rfl opEcdsaVerify_okw fun _ sound => conclude_judges sound (by decide : 2 ≠ 1) rfl Iff.rfl
    case ecdh => exact runs_of_plain (fun _ _ => rfl) rfl opEcdh_okw fun _ sound => conclude_ecdh sound
    case ecKeyGen => exact runs_of_plain (fun _ _ => rfl) rfl opEcKeyGen_okw fun _ sound => conclude_makesWith sound rfl rfl rfl
    case edSign => exact runs_of_plain (fun _ _ => rfl) rfl opEdSign_okw fun _ sound => conclude_gives sound rfl rfl
    case edVerify =>
      exact runs_of_plain (fun _ _ => rfl) rfl opEdVerify_okw fun _ sound => conclude_judges sound (by decide : 2 ≠ 1) rfl Iff.rfl
    case modExp => exact runs_of_plain (fun _ _ => rfl) rfl opModExp_okw fun _ sound => conclude_gives sound rfl rfl
  case generate => exact runs_of_plain (fun _ _ => rfl) rfl opDrbgGenerate_okw fun _ sound => conclude_gives sound rfl rfl
  case reseed => exact runs_of_plain (fun _ _ => rfl) rfl opDrbgReseed_okw fun _ sound => conclude_ends sound Nat.zero_ne_one rfl
  case generateKey => exact runs_of_plain (fun _ _ => rfl) rfl opDrbgKey_okw fun _ sound => conclude_makesOnly sound Nat.zero_ne_one rfl rfl

end Sys2Proof.Machine
end

section
/-! SUPPORT. Seat requests, releases and job submissions (R220 to R226): what each does to its engine and its thread, and what its word leaves. -/

namespace Sys2Proof.Machine

open Sys2Proof.Claims

/-! ### Decisions and seats given out (R220, R222) -/

theorem eng_putThr (s : State) (t : Nat) (th : Thread) (e : Nat) : eng (putThr s t th) e = eng s e := by
  rw [putThr_rest]
  rfl

theorem eng_decideSeat (s : State) (t e code f : Nat) : eng (decideSeat s t e code) f = eng s f := by
  unfold decideSeat
  dsimp only
  split <;> exact eng_putThr _ _ _ _

/-- R222: eng.st holds the decision, whether or not the request was in flight. -/
theorem decideSeat_port (s : State) (t e code : Nat) : port (thr (decideSeat s t e code) t).arch 0x302 = w64 code := by
  unfold decideSeat
  dsimp only
  split
  · rename_i o found
    rw [putThr_self]
    dsimp only
    rw [landOp_arch (List.mem_of_find?_eq_some found)]
    exact port_setPort_self _ _ _
  · rw [putThr_self]
    exact port_setPort_self _ _ _

/-- An engine once a seat has been given to a thread. -/
theorem eng_giveSeat (s : State) (t e : Nat) : eng (giveSeat s t e) e =
    { eng s e with
      seats := (eng s e).seats ++ [{ tid := t, part := (thr s t).part, ended := false, job := false }]
      waiting := (eng s e).waiting.filter (· != t) } := by
  rw [giveSeat, eng_decideSeat, eng_modEng]

/-- Two states of an engine between which free seats went to waiting requests. -/
structure SeatsGranted (a b : Engine) : Prop where
  kept : ∀ x ∈ a.seats, x ∈ b.seats
  given : ∀ x ∈ b.seats, x ∈ a.seats ∨ x.tid ∈ a.waiting
  waited : ∀ t ∈ b.waiting, t ∈ a.waiting

theorem SeatsGranted.refl (a : Engine) : SeatsGranted a a := ⟨fun _ h => h, fun _ h => .inl h, fun _ h => h⟩

theorem SeatsGranted.trans {a b c : Engine} (h : SeatsGranted a b) (k : SeatsGranted b c) : SeatsGranted a c where
  kept x hx := k.kept x (h.kept x hx)
  given x hx := (k.given x hx).elim (h.given x) fun w => .inr (h.waited _ w)
  waited t ht := h.waited t (k.waited t ht)

theorem giveSeat_granted {s : State} {t e : Nat} (waits : t ∈ (eng s e).waiting) : SeatsGranted (eng s e) (eng (giveSeat s t e) e) := by
  rw [eng_giveSeat]
  refine ⟨fun x hx => List.mem_append_left _ hx, fun x hx => ?_, fun u hu => (List.mem_filter.1 hu).1⟩
  rcases List.mem_append.1 hx with old | new
  · exact .inl old
  · rw [List.mem_singleton.1 new]
    exact .inr waits

/-- R220: free seats go to threads whose requests wait, and every seat held stays. -/
theorem grantSeats_granted (n : Nat) (s : State) (e : Nat) : SeatsGranted (eng s e) (eng (grantSeats s e n) e) := by
  induction n generalizing s with
  | zero => exact SeatsGranted.refl _
  | succ n ih =>
    unfold grantSeats
    extract_lets ws ps r
    have waiting : ∀ u ∈ ws, u ∈ (eng s e).waiting := fun u hu => (List.mem_filter.1 hu).1
    clear_value ws ps
    have drawn : eng r.2 e = eng s e := by
      unfold r
      split <;> rfl
    clear_value r
    split
    · exact SeatsGranted.refl _
    · split
      · exact SeatsGranted.refl _
      · split
        · rw [drawn]
          exact SeatsGranted.refl _
        · rename_i u found
          have waits : u ∈ (eng r.2 e).waiting := drawn ▸ waiting u (List.mem_of_find?_eq_some found)
          exact (drawn ▸ giveSeat_granted waits).trans (ih _)

/-! ### A release (R223) -/

/-- The seats of an engine once a thread's seats have ended: those without a job are gone, and one with a job is marked. -/
def seatsEnded (l : List Seat) (t : Nat) : List Seat :=
  (l.filter (fun y => !(y.tid == t && !y.ended && !y.job))).map (fun y => if y.tid = t then { y with ended := true } else y)

theorem seatsEnded_ended {l : List Seat} {t : Nat} {x : Seat} (hx : x ∈ seatsEnded l t) (own : x.tid = t) : x.ended = true := by
  obtain ⟨y, -, rfl⟩ := List.mem_map.1 hx
  split at own
  · rename_i its
    rw [if_pos its]
  · rename_i other
    exact absurd own other

theorem seatsEnded_job {l : List Seat} {t : Nat} {x : Seat} (hx : x ∈ l) (own : x.tid = t) (job : x.job = true) :
    { x with ended := true } ∈ seatsEnded l t :=
  List.mem_map.2 ⟨x, List.mem_filter.2 ⟨hx, by simp [job]⟩, if_pos own⟩

/-- R223: a thread that does not wait for a seat holds none after its release; a seat whose job runs is kept, marked as ended. -/
theorem endSeat_ends {s : State} {t e : Nat} (idle : t ∉ (eng s e).waiting) : holdsSeat (endSeat s t e) t e = false ∧
    ∀ x ∈ (eng s e).seats, x.tid = t → x.job = true → { x with ended := true } ∈ (eng (endSeat s t e) e).seats := by
  unfold endSeat
  split
  · have granted := grantSeats_granted 16 (modEng s e (fun x => { x with seats := seatsEnded x.seats t })) e
    rw [eng_modEng] at granted
    refine ⟨?_, fun x hx own job => granted.kept _ (seatsEnded_job hx own job)⟩
    rw [holdsSeat, List.any_eq_false]
    intro x hx
    rcases granted.given x hx with old | new
    · by_cases own : x.tid = t
      · simp [seatsEnded_ended old own]
      · simp [own]
    · have other : x.tid ≠ t := fun own => idle (own ▸ new)
      simp [other]
  · rename_i none_
    refine ⟨by simpa using none_, fun x hx own _ => ?_⟩
    have ended : x.ended = true := by
      by_contra live
      exact none_ (List.any_eq_true.2 ⟨x, hx, by simp [own, live]⟩)
    rwa [show ({ x with ended := true } : Seat) = x by rw [← ended]]

end Sys2Proof.Machine
end

section
/-! SUPPORT. Words that ask for a seat, release one or submit a job (R220 to R226). -/

namespace Sys2Proof.Machine

open Sys2Proof.Claims

theorem thr_putThr_ready {s : State} {t : Nat} {th : Thread} (ready : th.st = .ready) : thr (putThr s t th) t = th := by
  rw [putThr_ready _ _ _ (.inr ready), thr_rawThr]

/-! ### Jobs on their way to a queue (R161, R226) -/

/-- An operation in flight of a thread, when it is a job that no earlier store of the thread holds back, enters its engine's queue. -/
def acceptJob (t : Nat) (s : State) (o : Op) : State :=
  match o.kind with
  | .ejob e va desc turn session =>
    if (thr s t).sbuf.any (fun b => decide (b.id < o.id)) then s
    else
      modEng (putThr s t (landOp (thr s t) o.id id)) e (fun x => { x with
        queue := x.queue ++ [{ tid := t, part := (thr s t).part, va := va, desc := desc, turn := turn, session := session, result := none }]
        seats := x.seats.map (fun y => if y.tid = t ∧ !y.ended then { y with job := true } else y) })
  | _ => s

theorem acceptJobs_eq (s : State) (t : Nat) : acceptJobs s t = (thr s t).arch.ops.foldl (acceptJob t) s := rfl

/-- Jobs have entered their queues: of their thread only the operations in flight differ, and no queue has lost a job. -/
structure JobsAccepted (t : Nat) (a b : State) : Prop where
  thread : thr b t = { thr a t with arch := { (thr a t).arch with ops := (thr b t).arch.ops }, spec := (thr b t).spec }
  queued : ∀ e, ∀ x ∈ (eng a e).queue, x ∈ (eng b e).queue

theorem JobsAccepted.refl (t : Nat) (s : State) : JobsAccepted t s s := ⟨rfl, fun _ _ h => h⟩

theorem JobsAccepted.trans {t : Nat} {a b c : State} (h : JobsAccepted t a b) (k : JobsAccepted t b c) : JobsAccepted t a c :=
  ⟨by rw [k.thread, h.thread], fun e x hx => k.queued e x (h.queued e x hx)⟩

theorem landOp_id (th : Thread) (i : Nat) :
    landOp th i id = { th with arch := { th.arch with ops := (landOp th i id).arch.ops }, spec := (landOp th i id).spec } := by
  simp only [landOp, landAll, id]
  split <;> rfl

/-- The job of an operation in flight, as it stands in its engine's queue. -/
def jobOf (s : State) (t va : Nat) (desc : Pieces) (turn session : Nat) : Job :=
  { tid := t, part := (thr s t).part, va := va, desc := desc, turn := turn, session := session, result := none }

theorem acceptJob_accepted {s : State} {t : Nat} (ready : (thr s t).st = .ready) (o : Op) : JobsAccepted t s (acceptJob t s o) := by
  unfold acceptJob
  split
  · split
    · exact JobsAccepted.refl t s
    · rename_i e va desc turn session _ _
      have stored : thr (putThr s t (landOp (thr s t) o.id id)) t = landOp (thr s t) o.id id := thr_putThr_ready ready
      refine ⟨?_, fun f x hx => ?_⟩
      · rw [modEng_thr, stored]
        exact landOp_id _ _
      · by_cases same : f = e
        · subst same
          rw [eng_modEng, eng_putThr]
          exact List.mem_append_left _ hx
        · rw [eng_modEng_ne _ _ _ _ same, eng_putThr]
          exact hx
  · exact JobsAccepted.refl t s

theorem acceptJob_queues {s : State} {t : Nat} {o : Op} {e va turn session : Nat} {desc : Pieces} (empty : (thr s t).sbuf = [])
    (job : o.kind = .ejob e va desc turn session) : jobOf s t va desc turn session ∈ (eng (acceptJob t s o) e).queue := by
  simp only [acceptJob, job, empty, List.any_nil, Bool.false_eq_true, if_false, eng_modEng]
  exact List.mem_append_right _ (List.mem_singleton_self _)

/-- R161, R226: with no store of the thread buffered, every job that it has in flight enters its queue. -/
theorem acceptJobs_queue (t : Nat) (l : List Op) {s : State} (ready : (thr s t).st = .ready) (empty : (thr s t).sbuf = []) :
    JobsAccepted t s (l.foldl (acceptJob t) s) ∧ ∀ o ∈ l, ∀ e va desc turn session, o.kind = .ejob e va desc turn session →
      jobOf s t va desc turn session ∈ (eng (l.foldl (acceptJob t) s) e).queue := by
  induction l generalizing s with
  | nil => exact ⟨JobsAccepted.refl t s, fun _ h => absurd h List.not_mem_nil⟩
  | cons o l ih =>
    have first := acceptJob_accepted ready o
    obtain ⟨rest, queues⟩ := ih (s := acceptJob t s o) (by rw [first.thread]; exact ready) (by rw [first.thread]; exact empty)
    refine ⟨first.trans rest, fun x hx e va desc turn session job => ?_⟩
    rcases List.mem_cons.1 hx with rfl | later
    · exact rest.queued e _ (acceptJob_queues empty job)
    · have queued := queues x later e va desc turn session job
      rwa [jobOf, first.thread] at queued

/-! ### A job submitted (R226) -/

theorem courseOf_setPort (a : Arch) {p : Nat} (v : Word) (other : p ≠ 0x11A) : courseOf (setPort a p v) = courseOf a :=
  congrArg (fun c => (a.pc, a.rep, c)) (port_setPort_ne a v other.symm)

/-- A thread that has a job on its way: the operation in flight, e.poll and the results owed. -/
def jobSent (th : Thread) (i : Nat) (k : OpKind) : Thread :=
  { startOp th k with arch := setPort (startOp th k).arch (pollPort i) 1, jobs := i :: th.jobs }

section
variable {s : State} {t : Nat} (ready : (thr s t).st = .ready) (i va : Nat) (desc : Pieces)
include ready

/-- R226: a job of a thread with a seat is on its way, and e.poll reads 1; with no store buffered it has entered the queue. -/
theorem submitJob_enters (holds : holdsSeat s t (9 * krOf t + i) = true) (empty : (thr s t).sbuf = []) :
    let x := submitJob s t i va desc
    (thr x t).st = .ready ∧ courseOf (thr x t).arch = courseOf (thr s t).arch ∧ port (thr x t).arch (pollPort i) = 1 ∧
      jobOf s t va desc (thrTurn s t) (match (thr s t).current with | some c => c.cmd.session | none => 0) ∈ (eng x (9 * krOf t + i)).queue := by
  intro x
  let k := OpKind.ejob (9 * krOf t + i) va desc (thrTurn s t) (match (thr s t).current with | some c => c.cmd.session | none => 0)
  let sent := putThr s t (jobSent (thr s t) i k)
  have its : thr sent t = jobSent (thr s t) i k := thr_putThr_ready ready
  have enters : x = (thr sent t).arch.ops.foldl (acceptJob t) sent := if_pos holds
  have submitted : { id := (thr s t).nextOp, kind := k } ∈ (thr sent t).arch.ops := by
    rw [its]
    exact List.mem_append_right _ (List.mem_singleton_self _)
  obtain ⟨accepted, queues⟩ := acceptJobs_queue t (thr sent t).arch.ops (s := sent) (by rw [its]; exact ready) (by rw [its]; exact empty)
  rw [← enters] at accepted queues
  have queued := queues _ submitted _ _ _ _ _ rfl
  have high : pollPort i ≠ 0x11A := by unfold pollPort; omega
  rw [jobOf, its] at queued
  rw [accepted.thread, its]
  exact ⟨ready, courseOf_setPort (thr s t).arch 1 high, port_setPort_self (thr s t).arch _ 1, queued⟩

/-- R226: a job of a thread without a seat ends with NOSEAT at once. -/
theorem submitJob_noSeat (none_ : holdsSeat s t (9 * krOf t + i) = false) :
    let x := submitJob s t i va desc
    (thr x t).st = .ready ∧ courseOf (thr x t).arch = courseOf (thr s t).arch ∧ port (thr x t).arch (resPort i) = 0x22 ∧
      port (thr x t).arch (pollPort i) = 0x22 ∧ ∀ e, eng x e = eng s e := by
  intro x
  have reports : x = jobReport s t i 0x22 := if_neg (by simp [none_])
  have its : thr x t = { landAll (thr s t) (fun a => setPort (setPort a (resPort i) (w64 0x22)) (pollPort i) (w64 0x22)) with
      jobs := (thr s t).jobs.filter (· != i) } := by
    rw [reports]
    exact thr_putThr_ready ready
  have apart : resPort i ≠ pollPort i ∧ resPort i ≠ 0x11A ∧ pollPort i ≠ 0x11A := by unfold resPort pollPort; omega
  obtain ⟨differ, highRes, highPoll⟩ := apart
  rw [its]
  refine ⟨ready, ?_, ?_, port_setPort_self _ _ _, fun e => by rw [reports]; exact eng_putThr _ _ _ _⟩
  · exact (courseOf_setPort _ _ highPoll).trans (courseOf_setPort _ _ highRes)
  · exact (port_setPort_ne _ _ differ).trans (port_setPort_self _ _ _)

end

end Sys2Proof.Machine
end

section
/-! The statement on seats and jobs (R220 to R223, R226): the word of each port, clause by clause. -/

namespace Sys2Proof.Machine

open Sys2Proof.Claims

/-! ### The word's slot and its end -/

theorem eng_of_within {F : Part → Prop} {s s' : State} (w : Within F s s') (h : ¬ F .engs) (e : Nat) : eng s' e = eng s e := by
  have engs : s'.engs = s.engs := (w.rest .engs).resolve_left h
  rw [eng, eng, engs]

theorem holdsSeat_congr {s s' : State} {e : Nat} (same : eng s' e = eng s e) (t : Nat) : holdsSeat s' t e = holdsSeat s t e := by
  rw [holdsSeat, holdsSeat, same]

theorem seatFree_congr {s s' : State} {e : Nat} (same : eng s' e = eng s e) (kc : s'.kc = s.kc) (p : Nat) : seatFree s' e p = seatFree s e p := by
  rw [seatFree, seatFree, seatCount, seatCount, same, kc]

theorem SeatTold.course {a b : Thread} (told : SeatTold a b) : courseOf b.arch = courseOf a.arch := by
  rw [courseOf, told.arch.port _ (by decide), told.arch.rest, courseOf]

/-- What a word of one move leaves, by the state that its move has left: the engines, the ports but str.src and rep.cnt, the next address, and the
operations in flight. -/
theorem seatWord_leaves {s : State} {t : Nat} {m : Mv} {r : Row} (word : issues s t [m] = true) (row : rowMatch s t r [m] = true)
    (port_ : 0x300 ≤ m.dst ∧ m.dst < 0x380) {x : State} (moved : commitMove (thr s t).arch t (countSlot s t false) m = x)
    (ready : (thr x t).st = .ready) (course : courseOf (thr x t).arch = courseOf (thr s t).arch) :
    (∀ e, eng (issue s t r) e = eng x e) ∧ (∀ p, 0x300 ≤ p → port (thr (issue s t r) t).arch p = port (thr x t).arch p) ∧
      (thr (issue s t r) t).arch.pc = (advance (thr s t).arch).pc ∧ Grows t x (issue s t r) := by
  have unit : unitOfPort m.dst = none := by
    rw [unitOfPort, if_neg (by omega), if_neg (by omega), if_neg (by omega), if_neg (by omega), if_neg (by omega), if_neg (by omega),
      if_neg (by omega)]
  have stays : transfers m.dst = false := by
    simp only [transfers, Bool.or_eq_false_iff, Bool.and_eq_false_iff, decide_eq_false_iff_not, beq_eq_false_iff_ne]
    omega
  have goes : issue s t r = settle (wordEnd x t [m]) := by
    rw [issue_commit word row, commitWord_single unit stays (by omega), moved]
  have frame : Within (· = .threads) x (settle (wordEnd x t [m])) :=
    have : Has (· = .threads) .threads := ⟨rfl⟩
    settle_within _ (wordEnd_frame x t [m])
  rw [goes]
  refine ⟨eng_of_within frame (by decide), fun p high => ?_, ?_, ?_⟩
  · rw [settle_arch, wordEnd_port _ _ _ (by omega) (by omega)]
  · rw [settle_arch, wordEnd_pc ready, advance_pc_congr course]
  · exact Grows.settle ((useStr_grows x t [m]).trans (modArch_grows advance_ops))

/-- R221: a request that waits: it is in flight, and stands last among those of its engine. -/
def awaitSeat (s : State) (t e : Nat) : State :=
  putThr (modEng s e (fun x => { x with waiting := x.waiting ++ [t] })) t (startOp (thr s t) (.engRsv e))

theorem awaitSeat_thr {s : State} {t : Nat} (ready : (thr s t).st = .ready) (e : Nat) :
    thr (awaitSeat s t e) t = startOp (thr s t) (.engRsv e) := thr_putThr_ready ready

theorem awaitSeat_goes {s : State} {t : Nat} (ready : (thr s t).st = .ready) (e : Nat) :
    (thr (awaitSeat s t e) t).st = .ready ∧ courseOf (thr (awaitSeat s t e) t).arch = courseOf (thr s t).arch := by
  rw [awaitSeat_thr ready]
  exact ⟨ready, rfl⟩

theorem awaitSeat_waiting (s : State) (t e : Nat) : (eng (awaitSeat s t e) e).waiting = (eng s e).waiting ++ [t] := by
  rw [awaitSeat, eng_putThr, eng_modEng]

theorem awaitSeat_flies {s : State} {t : Nat} (ready : (thr s t).st = .ready) (e : Nat) : Flies s (awaitSeat s t e) t (.engRsv e) := by
  refine ⟨{ id := (thr s t).nextOp, kind := .engRsv e }, ?_, rfl, Nat.le_refl _⟩
  rw [awaitSeat_thr ready]
  exact List.mem_append_right _ (List.mem_singleton_self _)

section
variable (s : State) (t : Nat)

theorem countSlot_eng (b : Bool) (e : Nat) : eng (countSlot s t b) e = eng s e := eng_of_within (countSlot_frame s t b) (by decide) e

theorem countSlot_holdsSeat (b : Bool) (e : Nat) : holdsSeat (countSlot s t b) t e = holdsSeat s t e := holdsSeat_congr (countSlot_eng s t b e) t

/-- R220 to R222: a request in the slot that its word has taken is decided by the seats, the caps and the state of the engines before the word. -/
theorem reserveSeat_slot (b : Bool) (i : Nat) : reserveSeat (countSlot s t b) t i =
    if (List.range 9).any (fun j => decide (i ≤ j) && holdsSeat s t (9 * krOf t + j)) then decideSeat (countSlot s t b) t (9 * krOf t + i) 2
    else if (eng s (9 * krOf t + i)).svc = 0 then decideSeat (countSlot s t b) t (9 * krOf t + i) 3
    else if kcSeatCap s.kc (thr s t).part (engKind i) = 0 then decideSeat (countSlot s t b) t (9 * krOf t + i) 4
    else if (eng s (9 * krOf t + i)).svc = 1 ∧ seatFree s (9 * krOf t + i) (thr s t).part then giveSeat (countSlot s t b) t (9 * krOf t + i)
    else awaitSeat (countSlot s t b) t (9 * krOf t + i) := by
  have view := countSlot_view s t b
  simp only [reserveSeat, awaitSeat, countSlot_holdsSeat, countSlot_eng, view.part, view.kc, seatFree_congr (countSlot_eng s t b _) view.kc]

end

section
variable (pre : Arch) (t : Nat) (s : State) {m : Mv}

theorem commitMove_rsv (dst : m.dst = 0x300) : commitMove pre t s m = reserveSeat s t ((mvValue s t pre m).toNat % 16) := by
  simp [commitMove, dst, unitOfPort]

theorem commitMove_rel (dst : m.dst = 0x301) : commitMove pre t s m = endSeat s t (9 * krOf t + (mvValue s t pre m).toNat % 16) := by
  simp [commitMove, dst, unitOfPort]

theorem commitMove_job {k : Nat} (small : k < 9) (dst : m.dst = 0x310 + 8 * k) :
    let va := (mvValue s t pre m).toNat % 2 ^ 56
    commitMove pre t s m = submitJob (touch s t va 128 2) t k va (okPieces s t va 128 2) := by
  have unit : unitOfPort m.dst = none := by
    rw [unitOfPort, if_neg (by omega), if_neg (by omega), if_neg (by omega), if_neg (by omega), if_neg (by omega), if_neg (by omega),
      if_neg (by omega)]
  have index : (m.dst - 0x310) / 8 = k := by omega
  dsimp only [commitMove]
  rw [unit, if_neg (by simp), if_neg (by omega), if_neg (by omega), if_neg (by omega), if_neg (by omega), if_neg (by omega), if_neg (by omega),
    if_neg (by omega), if_neg (by omega), if_neg (by omega), if_pos (by omega), index]

end

theorem endSeat_told (s : State) (t e u : Nat) : SeatTold (thr s u) (thr (endSeat s t e) u) := by
  unfold endSeat
  split
  · exact (SeatTold.of_eq (modEng_thr s _ _ u)).trans (grantSeats_told _ _ _ _)
  · exact SeatTold.refl _

/-! ### Requests (R220 to R222) -/

section
variable {s : State} {t : Fin 2048} {ms : List Mv} {m : Mv} (word : issues s t ms = true) (hm : m ∈ ms)
include word hm

theorem word_alone (port_ : 0x300 ≤ m.dst) : ms = [m] := by
  refine word_single word hm (.inl ?_)
  by_contra short
  have := (shortDst_lt (by simpa using short)).1
  omega

/-- R222: a request that is decided at once. -/
theorem rsvRow_decides {code : Nat} (dst : m.dst = 0x300)
    (decided : reserveSeat (countSlot s t false) t ((mvValue s t (thr s t).arch m).toNat % 16) =
      decideSeat (countSlot s t false) t (9 * krOf t + (mvValue s t (thr s t).arch m).toNat % 16) code) :
    Completes (.engRsvT t) s (fun s' => port (thr s' t).arch 0x302 = w64 code ∧ (∀ f, eng s' f = eng s f) ∧
      (thr s' t).arch.pc = (advance (thr s t).arch).pc) := by
  obtain rfl := word_alone word hm (by omega)
  have told := decideSeat_told (countSlot s t false) t (9 * krOf t + (mvValue s t (thr s t).arch m).toNat % 16) code t
  have moved := commitMove_rsv (thr s t).arch t (countSlot s t false) dst
  rw [mvValue_slot, decided] at moved
  obtain ⟨engs, ports, pc, -⟩ := seatWord_leaves (r := .dst 0x300) word (by simp [rowMatch, dst]) (by omega) moved
    (told.st.trans (countSlot_ready s t false)) (told.course.trans (courseOf_countSlot s t false))
  refine ⟨_, rfl, ?_, fun f => ?_, pc⟩
  · rw [ports _ (by decide), decideSeat_port]
  · rw [engs, eng_decideSeat, countSlot_eng]

/-- R220: a request that is granted at once. -/
theorem rsvRow_grants (dst : m.dst = 0x300) {e : Nat}
    (granted : reserveSeat (countSlot s t false) t ((mvValue s t (thr s t).arch m).toNat % 16) = giveSeat (countSlot s t false) t e) :
    Completes (.engRsvT t) s (fun s' => port (thr s' t).arch 0x302 = 1 ∧
      { tid := t.val, part := (thr s t).part, ended := false, job := false } ∈ (eng s' e).seats) := by
  obtain rfl := word_alone word hm (by omega)
  have told := giveSeat_told (countSlot s t false) t e t
  have moved := commitMove_rsv (thr s t).arch t (countSlot s t false) dst
  rw [mvValue_slot, granted] at moved
  obtain ⟨engs, ports, -⟩ := seatWord_leaves (r := .dst 0x300) word (by simp [rowMatch, dst]) (by omega) moved
    (told.st.trans (countSlot_ready s t false)) (told.course.trans (courseOf_countSlot s t false))
  refine ⟨_, rfl, ?_, ?_⟩
  · rw [ports _ (by decide), giveSeat, decideSeat_port]
    rfl
  · rw [engs, eng_giveSeat, (countSlot_view s t false).part]
    exact List.mem_append_right _ (List.mem_singleton_self _)

/-- R221: a request that waits is in flight, and stands last among those of its engine. -/
theorem rsvRow_waits (dst : m.dst = 0x300) {e : Nat}
    (waits : reserveSeat (countSlot s t false) t ((mvValue s t (thr s t).arch m).toNat % 16) = awaitSeat (countSlot s t false) t e) :
    Completes (.engRsvT t) s (fun s' => Flies s s' t (.engRsv e) ∧ (eng s' e).waiting = (eng s e).waiting ++ [t.val]) := by
  obtain rfl := word_alone word hm (by omega)
  have ready := countSlot_ready s t false
  have moved := commitMove_rsv (thr s t).arch t (countSlot s t false) dst
  rw [mvValue_slot, waits] at moved
  obtain ⟨stays, course⟩ := awaitSeat_goes ready e
  obtain ⟨engs, -, -, grows⟩ := seatWord_leaves (r := .dst 0x300) word (by simp [rowMatch, dst]) (by omega) moved stays
    (course.trans (courseOf_countSlot s t false))
  have flies := Flies.since (countSlot_grows s t false) (awaitSeat_flies ready e)
  refine ⟨_, rfl, Flies.grows flies grows, ?_⟩
  rw [engs, awaitSeat_waiting, countSlot_eng]

/-! ### Releases (R223) -/

/-- R223: a thread that does not wait for the engine's seat has none after its release; a seat whose job runs is kept, marked as ended. -/
theorem relRow_ends (dst : m.dst = 0x301) {e : Nat} (named : e = 9 * krOf t + (mvValue s t (thr s t).arch m).toNat % 16)
    (idle : t.val ∉ (eng s e).waiting) : Completes (.engRelT t) s (fun s' => holdsSeat s' t e = false ∧
      (∀ x ∈ (eng s e).seats, x.tid = t.val → x.job = true → { x with ended := true } ∈ (eng s' e).seats) ∧
        (thr s' t).arch.pc = (advance (thr s t).arch).pc) := by
  obtain rfl := word_alone word hm (by omega)
  have told := endSeat_told (countSlot s t false) t e t
  have moved := commitMove_rel (thr s t).arch t (countSlot s t false) dst
  rw [mvValue_slot, ← named] at moved
  obtain ⟨engs, -, pc, -⟩ := seatWord_leaves (r := .dst 0x301) word (by simp [rowMatch, dst]) (by omega) moved
    (told.st.trans (countSlot_ready s t false)) (told.course.trans (courseOf_countSlot s t false))
  obtain ⟨none_, kept⟩ := endSeat_ends (s := countSlot s t false) (t := t) (e := e) (by rwa [countSlot_eng])
  rw [countSlot_eng] at kept
  refine ⟨_, rfl, (holdsSeat_congr (engs e) t).trans none_, ?_, pc⟩
  rw [engs]
  exact kept

/-! ### Jobs (R226) -/

/-- R226: the job of a word with a seat is submitted in the slot that the word has taken, once the descriptor's page has been used. -/
theorem jobRow_submits {k : Nat} (small : k < 9) (dst : m.dst = 0x310 + 8 * k) {x : State}
    (submitted : submitJob (touch (countSlot s t false) t ((mvValue s t (thr s t).arch m).toNat % 2 ^ 56) 128 2) t k
      ((mvValue s t (thr s t).arch m).toNat % 2 ^ 56) (okPieces s t ((mvValue s t (thr s t).arch m).toNat % 2 ^ 56) 128 2) = x)
    (ready : (thr x t).st = .ready) (course : courseOf (thr x t).arch = courseOf (thr s t).arch) {P : State → Prop}
    (leaves : ∀ s', (∀ e, eng s' e = eng x e) → (∀ p, 0x300 ≤ p → port (thr s' t).arch p = port (thr x t).arch p) → P s') :
    Completes (.eJobT t) s P := by
  obtain rfl := word_alone word hm (by omega)
  have moved := commitMove_job (thr s t).arch t (countSlot s t false) small dst
  dsimp only at moved
  rw [mvValue_slot, okPieces_view (countSlot_view s t false), submitted] at moved
  have row : rowMatch s t .ejob [m] = true := by
    simp only [rowMatch, List.any_cons, List.any_nil, Bool.or_false, Bool.and_eq_true, decide_eq_true_eq, beq_iff_eq]
    omega
  obtain ⟨engs, ports, -⟩ := seatWord_leaves word row (by omega) moved ready course
  exact ⟨_, rfl, leaves _ engs ports⟩

end

section
variable (s : State) (t va : Nat)

/-- The state in which a job is submitted: the word's slot is taken, and the descriptor's page has been used. -/
def submitState : State := touch (countSlot s t false) t va 128 2

theorem submitState_frame : Within (· ∈ [.threads, .cyls]) s (submitState s t va) :=
  have : Has (· ∈ [.threads, .cyls]) .cyls := has_mem (by decide)
  touch_within _ _ _ _ _ (countSlot_frame s t false)

theorem submitState_thr : thr (submitState s t va) t = thr (countSlot s t false) t := touch_thr _ _ _ _ _ _

theorem submitState_part {β : Type} (g : Thread → β) (blind : ∀ th l, g { slotted th false with yieldFor := l } = g th) :
    g (thr (submitState s t va) t) = g (thr s t) := by
  rw [submitState_thr, countSlot_part s t false g blind]

theorem submitState_holdsSeat (e : Nat) : holdsSeat (submitState s t va) t e = holdsSeat s t e :=
  holdsSeat_congr (eng_of_within (submitState_frame s t va) (by decide) e) t

theorem submitState_turn : thrTurn (submitState s t va) t = thrTurn s t := by
  have turns : (submitState s t va).turns = s.turns := ((submitState_frame s t va).rest .turns).resolve_left (by decide)
  rw [thrTurn, thrTurn, turns, submitState_part s t va Thread.current fun _ _ => rfl]

end

section
variable {s : State} {t : Fin 2048} {ms : List Mv} {m : Mv} (word : issues s t ms = true) (hm : m ∈ ms) {k : Nat} (small : k < 9)
  (dst : m.dst = 0x310 + 8 * k)
include word hm small dst

/-- R226: a job without a seat ends with NOSEAT. -/
theorem jobRow_noSeat (none_ : holdsSeat s t (9 * krOf t + k) = false) : Completes (.eJobT t) s (fun s' =>
    port (thr s' t).arch (resPort k) = 0x22 ∧ port (thr s' t).arch (pollPort k) = 0x22 ∧
      (eng s' (9 * krOf t + k)).queue = (eng s (9 * krOf t + k)).queue) := by
  let va := (mvValue s t (thr s t).arch m).toNat % 2 ^ 56
  have slot := submitState_thr s t va
  obtain ⟨ready, course, res, poll, engs⟩ := submitJob_noSeat (s := submitState s t va) (t := t) (by rw [slot]; exact countSlot_ready s t false) k va
    (okPieces s t va 128 2) (by rw [submitState_holdsSeat]; exact none_)
  refine jobRow_submits word hm small dst rfl ready (course.trans ?_) fun s' same ports => ⟨?_, ?_, ?_⟩
  · rw [slot, courseOf_countSlot]
  · rw [ports _ (by unfold resPort; omega)]
    exact res
  · rw [ports _ (by unfold pollPort; omega)]
    exact poll
  · rw [same]
    exact congrArg Engine.queue ((engs _).trans (eng_of_within (submitState_frame s t va) (by decide) _))

/-- R226: a job of a thread with a seat and no store buffered has entered its engine's queue when its word ends. -/
theorem jobRow_enters (holds : holdsSeat s t (9 * krOf t + k) = true) (empty : (thr s t).sbuf = []) :
    let va := (mvValue s t (thr s t).arch m).toNat % 2 ^ 56
    Completes (.eJobT t) s (fun s' => port (thr s' t).arch (pollPort k) = 1 ∧
      jobOf s t va (okPieces s t va 128 2) (thrTurn s t) (match (thr s t).current with | some c => c.cmd.session | none => 0) ∈
        (eng s' (9 * krOf t + k)).queue) := by
  intro va
  have slot := submitState_thr s t va
  obtain ⟨ready, course, poll, queued⟩ := submitJob_enters (s := submitState s t va) (t := t) (by rw [slot]; exact countSlot_ready s t false) k va
    (okPieces s t va 128 2) (by rw [submitState_holdsSeat]; exact holds)
    ((submitState_part s t va Thread.sbuf fun _ _ => rfl).trans empty)
  rw [jobOf, submitState_turn, submitState_part s t va Thread.part fun _ _ => rfl, submitState_part s t va Thread.current fun _ _ => rfl] at queued
  refine jobRow_submits word hm small dst rfl ready (course.trans ?_) fun s' same ports => ⟨?_, ?_⟩
  · rw [slot, courseOf_countSlot]
  · rw [ports _ (by unfold pollPort; omega)]
    exact poll
  · rw [same]
    exact queued

end

/-- Settles O13: a request by the first of its refusals that applies (`reserveSeat_slot`), a release by `endSeat_ends`, a job by whether its thread has a
seat (`submitJob_noSeat`, `submitJob_enters`); each in the slot that its word has taken. -/
theorem seatsAndJobs : Obligations.SeatsAndJobs := by
  unfold Obligations.SeatsAndJobs
  intro s t ms m word beside th v i e order cap answers job
  have hm := beside_mem beside
  have request := reserveSeat_slot s t false i
  have free {b : Bool} (h : b = false) : ¬ b = true := by simp [h]
  refine ⟨fun dst asked => rsvRow_decides word hm dst (request.trans (if_pos asked)), fun dst unasked retired => ?_, fun dst unasked serves barred => ?_,
    fun dst unasked serves may room => ?_, fun dst unasked serves may full => ?_, fun dst idle => relRow_ends word hm dst rfl idle,
    fun k small dst none_ => jobRow_noSeat word hm small dst none_, fun k small dst holds empty => ?_⟩
  · exact rsvRow_decides word hm dst (request.trans ((if_neg (free unasked)).trans (if_pos retired)))
  · exact rsvRow_decides word hm dst (request.trans ((if_neg (free unasked)).trans ((if_neg serves).trans (if_pos barred))))
  · have up : (eng s e).svc ≠ 0 := by rw [serves]; decide
    exact rsvRow_grants word hm dst
      (request.trans ((if_neg (free unasked)).trans ((if_neg up).trans ((if_neg may).trans (if_pos ⟨serves, room⟩)))))
  · exact rsvRow_waits word hm dst (request.trans ((if_neg (free unasked)).trans ((if_neg serves).trans ((if_neg may).trans (if_neg full)))))
  · obtain ⟨s', goes, poll, queued⟩ := jobRow_enters word hm small dst holds empty
    exact ⟨s', goes, poll, _, queued, rfl⟩

end Sys2Proof.Machine
end

section
/-! Witnesses: concrete words and jobs that meet what the statements on seats, set-ups and the engines' operations suppose. -/

namespace Sys2Proof.Machine

open Sys2Proof.Claims

/-! ### Seats (R220 to R223, R226) -/

/-- A keycut of which partition 0 owns all memory and may hold four seats on each AES engine. -/
def seatKeycut : Keycut := { ownAll with sections := [(4, []), (9, [4])] }

/-- The machine with one word, in keyring 0 of which engine 0 is `x`. -/
def seatState (w : Nat) (x : Engine) : State := { oneWordState w archInit with kc := seatKeycut, engs := [(0, x)] }

/-- A seat of thread 0, with a job or without. -/
def seatOfZero (job : Bool) : Seat := { tid := 0, part := 0, ended := false, job := job }

/-- `mov.1 eng.rsv.t, #0`. -/
def rsvMove : Mv := { w := 1, dst := 0x300, src := .imm 0 }
/-- `mov.1 eng.rel.t, #0`. -/
def relMove : Mv := { w := 1, dst := 0x301, src := .imm 0 }
/-- `mov.1 e0.job.t, #0`. -/
def jobMove : Mv := { w := 1, dst := 0x310, src := .imm 0 }

/-- R220: a thread without a seat is granted a free one. -/
theorem rsv_grants : Completes (.engRsvT 0) (seatState 0x06010000 engInit) (fun s' =>
    port (thr s' 0).arch 0x302 = 1 ∧ seatOfZero false ∈ (eng s' 0).seats) := by
  obtain ⟨-, -, -, granted, -⟩ := seatsAndJobs (seatState 0x06010000 engInit) 0 [rsvMove] rsvMove (by decide) ⟨[], [], rfl, by simp⟩
  exact granted rfl (by decide) rfl (by decide) (by decide)

/-- R222: its second request is out of order. -/
theorem rsv_outOfOrder : Completes (.engRsvT 0) (seatState 0x06010000 { engInit with seats := [seatOfZero false] }) (fun s' =>
    port (thr s' 0).arch 0x302 = 2 ∧ (eng s' 0).seats = [seatOfZero false]) := by
  obtain ⟨order, -⟩ := seatsAndJobs (seatState 0x06010000 { engInit with seats := [seatOfZero false] }) 0 [rsvMove] rsvMove (by decide)
    ⟨[], [], rfl, by simp⟩
  obtain ⟨s', row, code, engs, -⟩ := order rfl (by decide)
  exact ⟨s', row, code, congrArg Engine.seats (engs 0)⟩

/-- R221: a request for an engine under probe waits. -/
theorem rsv_waits : Completes (.engRsvT 0) (seatState 0x06010000 { engInit with svc := 2 }) (fun s' => (eng s' 0).waiting = [0]) := by
  obtain ⟨-, -, -, -, waits, -⟩ := seatsAndJobs (seatState 0x06010000 { engInit with svc := 2 }) 0 [rsvMove] rsvMove (by decide) ⟨[], [], rfl, by simp⟩
  obtain ⟨s', row, -, queue⟩ := waits rfl (by decide) (by decide) (by decide) (by decide)
  exact ⟨s', row, queue⟩

/-- R223: a release keeps the seat of a running job, marked as ended. -/
theorem rel_keepsJob : Completes (.engRelT 0) (seatState 0x06030000 { engInit with seats := [seatOfZero true] }) (fun s' =>
    holdsSeat s' 0 0 = false ∧ { seatOfZero true with ended := true } ∈ (eng s' 0).seats) := by
  obtain ⟨-, -, -, -, -, released, -⟩ := seatsAndJobs (seatState 0x06030000 { engInit with seats := [seatOfZero true] }) 0 [relMove] relMove (by decide)
    ⟨[], [], rfl, by simp⟩
  obtain ⟨s', row, none_, kept, -⟩ := released rfl (by decide)
  exact ⟨s', row, none_, kept (seatOfZero true) (by decide) rfl rfl⟩

/-- R226: a job without a seat ends with NOSEAT. -/
theorem job_noSeat : Completes (.eJobT 0) (seatState 0x06210000 engInit) (fun s' => port (thr s' 0).arch 0x311 = 0x22) := by
  obtain ⟨-, -, -, -, -, -, noSeat, -⟩ := seatsAndJobs (seatState 0x06210000 engInit) 0 [jobMove] jobMove (by decide) ⟨[], [], rfl, by simp⟩
  obtain ⟨s', row, res, -⟩ := noSeat 0 (by decide) rfl (by decide)
  exact ⟨s', row, res⟩

/-- R226: a job with a seat enters the queue, with its descriptor at 0. -/
theorem job_enters : Completes (.eJobT 0) (seatState 0x06210000 { engInit with seats := [seatOfZero false] }) (fun s' =>
    ∃ j ∈ (eng s' 0).queue, j.tid = 0 ∧ j.desc = [(0, 128)]) := by
  obtain ⟨-, -, -, -, -, -, -, enters⟩ := seatsAndJobs (seatState 0x06210000 { engInit with seats := [seatOfZero false] }) 0 [jobMove] jobMove
    (by decide) ⟨[], [], rfl, by simp⟩
  obtain ⟨s', row, -, j, queued, its⟩ := enters 0 (by decide) rfl (by decide) rfl
  exact ⟨s', row, j, queued, by rw [its]; rfl, by rw [its]; decide⟩

/-! ### Jobs (R226 to R242) -/

/-- A job of partition 0 whose descriptor stands at 0. -/
def jobAtZero : Job := { tid := 0, part := 0, va := 0, desc := [(0, 128)], turn := 0, session := 0, result := none }

/-- The machine in operation, without translation, with that job at the head of an engine's queue, `m` in memory and these former contents. -/
def queuedState (e : Nat) (m : Tab Digit) (bad : Bool) (former : List Former) : State :=
  { State.reset with
    kc := ownAll, mem := m, engs := [(e, { engInit with queue := [jobAtZero] })], trngBad := bad, ks := { State.reset.ks with former := former }
    supply := { State.reset.supply with power := 1 } }

/-- The number that 64 digits of a memory spell from `a` on. -/
def digitsFrom (m : Tab Digit) (a : Nat) : Nat := digitsNat ((List.range 64).map (fun i => tget 0 m (a + i)))

theorem digitsNat_append (a b : List Digit) : digitsNat (a ++ b) = digitsNat a + 16 ^ a.length * digitsNat b := by
  induction a with
  | nil => simp [digitsNat]
  | cons d a ih =>
    simp only [List.cons_append, digitsNat, ih, List.length_cons, pow_succ]
    ring

/-- The descriptor at 0, by the halves of its digits. -/
theorem jobDesc_atZero (s : State) : jobDesc s jobAtZero = descOf (digitsFrom s.mem 0 + 16 ^ 64 * digitsFrom s.mem 64) := by
  have halves : readPieces s jobAtZero.desc = (List.range 64).map (fun i => tget 0 s.mem (0 + i)) ++ (List.range 64).map (fun i => tget 0 s.mem (64 + i)) := by
    simp only [readPieces, jobAtZero, List.flatMap_cons, List.flatMap_nil, List.append_nil, readDigits, readDigit]
    rw [show (128 : Nat) = 64 + 64 from rfl, List.range_add, List.map_append, List.map_map]
    simp only [Nat.zero_add, Function.comp_def]
  rw [jobDesc, halves, digitsNat_append, List.length_map, List.length_range, digitsFrom, digitsFrom]

section
variable {e : Nat} {m : Tab Digit} {bad : Bool} {former : List Former} {lo hi : Nat} (low : digitsFrom m 0 = lo) (high : digitsFrom m 64 = hi)
include low high

theorem queuedState_desc : jobDesc (queuedState e m bad former) jobAtZero = descOf (lo + 16 ^ 64 * hi) := by
  rw [jobDesc_atZero, ← low, ← high]
  rfl

theorem queuedState_head {op : Nat} (code : (descOf (lo + 16 ^ 64 * hi)).op = op) (known : (knownOps (engKind (e % 9))).contains op = true) :
    HeadJob (queuedState e m bad former) e op jobAtZero [] := by
  have its : eng (queuedState e m bad former) e = { engInit with queue := [jobAtZero] } := by simp [eng, queuedState, tget]
  have desc : jobDesc (queuedState e m bad former) jobAtZero = descOf (lo + 16 ^ 64 * hi) := queuedState_desc low high
  have sound : poisoned (queuedState e m bad former) jobAtZero.desc = false := rfl
  have line : aligned jobAtZero.desc = true := rfl
  have up : mayStart (queuedState e m bad former) e = true := by
    rw [mayStart, its]
    rfl
  have room : 0 < inProgress (e % 9) := by
    unfold inProgress
    split
    · decide
    · split <;> decide
  refine ⟨up, by rw [its]; exact room, by rw [its], ?_, by rw [desc, code]⟩
  rw [noOperation, line, sound, desc, code, known]
  rfl

/-- What a row does for every job that has passed its set-up, it does for this one. -/
theorem queuedState_runs {row : Fin 144 → Instr} {op : Nat} {o : OpDef} {P : SetUp → State → JobResult → Prop} (runs : Runs row op o P) {i : Fin 144}
    (engine : e = i.val) (plain : o.attr = id) (code : (descOf (lo + 16 ^ 64 * hi)).op = op)
    (known : (knownOps (engKind (e % 9))).contains op = true) {u : SetUp} {s1 : State}
    (passed : setUp (queuedState e m bad former) e jobAtZero (descOf (lo + 16 ^ 64 * hi)) o = (.ok u, s1)) (sound : u.bad = false)
    (calm : s1.faults.quietDue = none) : Completes (row i) (queuedState e m bad former) (fun s' => ∃ r : JobResult,
      (eng s' e).running.getLast? = some { jobAtZero with result := some r } ∧ P u s1 r) := by
  subst engine
  have desc : o.attr (jobDesc (queuedState i m bad former) jobAtZero) = descOf (lo + 16 ^ 64 * hi) := by
    rw [plain, queuedState_desc low high, id]
  obtain ⟨s', goes, r, ⟨-, started, -⟩, result⟩ :=
    runs _ i jobAtZero [] u s1 (queuedState_head low high code known) (by rw [desc]; exact passed) sound calm
  exact ⟨s', goes, r, started, result⟩

end

/-- A descriptor of operation #8110: reseed. -/
def reseedMem : Tab Digit := [(1, 1), (2, 1), (3, 8)]

theorem reseed_low : digitsFrom reseedMem 0 = 0x8110 := by decide
theorem reseed_high : digitsFrom reseedMem 64 = 0 := by decide

/-- R242: with a healthy TRNG a reseed will end with OK. -/
theorem reseed_ends : Completes (.drbgReseed 8) (queuedState 8 reseedMem false []) (fun s' => ∃ r : JobResult,
    (eng s' 8).running.getLast? = some { jobAtZero with result := some r } ∧ Ends r 0x10) := by
  obtain ⟨-, -, reseeds, -⟩ := bigNumbersAndDrbgRun
  obtain ⟨u, passed, sound⟩ := setUp_ok (s := queuedState 8 reseedMem false []) (e := 8) (j := jobAtZero) (d := descOf 0x8110)
    (o := opDrbgReseed) (pi := []) (po := []) (pa := []) rfl rfl rfl rfl rfl (by decide)
  exact queuedState_runs reseed_low reseed_high reseeds rfl rfl (by decide) (by decide) passed sound rfl

/-- R225, R229: with a TRNG that is not, it will end with NOENT. -/
theorem reseed_refused : Completes (.drbgReseed 8) (queuedState 8 reseedMem true []) (fun s' => ∃ r, Ends r 0x36 ∧
    (eng s' 8).running.getLast? = some { jobAtZero with result := some r }) := by
  let s := queuedState 8 reseedMem true []
  have desc : jobDesc s jobAtZero = descOf 0x8110 := queuedState_desc reseed_low reseed_high
  have refused : setUp s 8 jobAtZero (descOf 0x8110) opDrbgReseed = (.error 0x36, s) := rfl
  obtain ⟨refuses, -⟩ := setUpsDecide (.drbgReseed, 0x8110, opDrbgReseed) (by simp [otherRows]) s 8 jobAtZero []
    (queuedState_head reseed_low reseed_high (by decide) (by decide))
  obtain ⟨s', row, r, ⟨-, started, -⟩, ends⟩ := refuses 0x36 s (by rw [desc]; exact refused) rfl
  exact ⟨s', row, r, ends, started⟩

/-- A descriptor of operation #C256, SHA3-256, over no bytes, with 32 bytes for OUT at #1000. -/
def sha3Mem : Tab Digit := [(0, 6), (1, 5), (2, 2), (3, 12), (53, 1), (65, 2)]

theorem sha3_low : digitsFrom sha3Mem 0 = 0xC256 + 16 ^ 53 := by decide
theorem sha3_high : digitsFrom sha3Mem 64 = 2 * 16 := by decide

/-- R239: the digest of the empty message will stand at #1000. -/
theorem sha3_gives : Completes (.sha3256 4) (queuedState 4 sha3Mem false []) (fun s' => ∃ r : JobResult,
    (eng s' 4).running.getLast? = some { jobAtZero with result := some r } ∧ r.status = 0x10 ∧
      r.writes = [([(0x1000, 64)], padTo 32 (spongeEnd 136 6 (zeros 200) [] 32))]) := by
  obtain ⟨⟨-, hash, -⟩, -⟩ := keccakAndLatticeRun
  obtain ⟨u, passed, sound⟩ := setUp_ok (s := queuedState 4 sha3Mem false []) (e := 4) (j := jobAtZero)
    (d := descOf (0xC256 + 16 ^ 53 + 16 ^ 64 * (2 * 16))) (o := opSha3 32) (pi := []) (po := [(0x1000, 64)]) (pa := []) (by decide) (by decide)
    (by decide) rfl rfl (by decide)
  obtain ⟨-, -, ⟨pi, input, bytes⟩, output, -, -, desc, -⟩ := setUp_passes passed
  have out : u.po = [(0x1000, 64)] := Option.some.inj (output.symm.trans (by decide))
  have none_ : pi = [] := Option.some.inj (input.symm.trans (by decide))
  subst none_
  obtain ⟨s', row, r, started, gives⟩ := queuedState_runs sha3_low sha3_high hash (i := 4) rfl rfl (by decide) (by decide) passed sound rfl
  have last : u.c.d.more = false ∧ u.c.d.cont = false ∧ u.c.d.outLen = 32 := by rw [desc]; decide
  obtain ⟨more, cont, len⟩ := last
  dsimp only at gives
  rw [more, cont, len, bytes] at gives
  obtain ⟨status, writes, -⟩ := gives
  exact ⟨s', row, r, started, status, by rw [writes, out]; rfl⟩

/-- A descriptor of operation #A100, AES-ECB encryption, under key 5, of 16 bytes at #1000 to #2000. -/
def ecbMem : Tab Digit := [(2, 1), (3, 10), (10, 5), (31, 1), (43, 1), (53, 2), (65, 1)]

/-- The header of partition 0's AES-256 key for enciphering data. -/
def ecbKeyHdr : KHdr := { hdrEmpty with usage := usageOf "D0", alg := algA, mode := 0x45, span := 1, state := 1, ktype := 5 }

/-- The former contents of slot 5: that key. -/
def ecbFormer : List Former := [{ slot := 5, copies := spanCopies 5 ecbKeyHdr [], turn := 1 }]

theorem ecb_low : digitsFrom ecbMem 0 = 0xA100 + 5 * 16 ^ 10 + 16 ^ 31 + 16 ^ 43 + 2 * 16 ^ 53 := by decide
theorem ecb_high : digitsFrom ecbMem 64 = 16 := by decide

/-- R237: the block will be enciphered into OUT. -/
theorem ecb_gives : Completes (.aesEcbEncrypt 0) (queuedState 0 ecbMem false ecbFormer) (fun s' => ∃ r : JobResult,
    (eng s' 0).running.getLast? = some { jobAtZero with result := some r } ∧ r.status = 0x10) := by
  obtain ⟨⟨ecb, -⟩, -⟩ := aesEnginesRun
  have read : readKey (queuedState 0 ecbMem false ecbFormer) 0 0 5 = (.ok (formerKey 5 ecbKeyHdr []), queuedState 0 ecbMem false ecbFormer) :=
    readKey_former (t := 1) rfl (by decide) rfl rfl
  have admitted : (aesUse "D0" "BEN").admits (formerKey 5 ecbKeyHdr []).hdr = true := by decide
  have named : namedKey (queuedState 0 ecbMem false ecbFormer) 0 0 5 (uses (aesUse "D0" "BEN") (descOf 0) []) =
      (.ok (formerKey 5 ecbKeyHdr []), queuedState 0 ecbMem false ecbFormer) := by
    simp only [namedKey, uses, read, admitted, if_true]
  have handle : (descOf (0xA100 + 5 * 16 ^ 10 + 16 ^ 31 + 16 ^ 43 + 2 * 16 ^ 53 + 16 ^ 64 * 16)).key1 = 5 := by decide
  obtain ⟨u, passed, sound⟩ := setUp_ok (s := queuedState 0 ecbMem false ecbFormer) (e := 0) (j := jobAtZero)
    (d := descOf (0xA100 + 5 * 16 ^ 10 + 16 ^ 31 + 16 ^ 43 + 2 * 16 ^ 53 + 16 ^ 64 * 16)) (o := opEcb 16 (aesUse "D0" "BEN") Config.aesEnc)
    (pi := [(0x1000, 32)]) (po := [(0x2000, 32)]) (pa := []) (k1 := formerKey 5 ecbKeyHdr []) (by decide) (by decide) (by decide)
    (by rw [handle]; exact named) rfl (by decide)
  obtain ⟨s', row, r, started, status, -⟩ := queuedState_runs ecb_low ecb_high ecb (i := 0) rfl rfl (by decide) (by decide) passed sound rfl
  exact ⟨s', row, r, started, status⟩

end Sys2Proof.Machine
end

section
/-! SUPPORT. The PIN operations of the decimal engine (R249 to R255, R272, R274): what each concludes from the PIN that its block parses to. -/

namespace Sys2Proof.Machine

open Sys2Proof.Claims

/-- A guard that refuses unless a rule of the policy holds lets a job through only when it does (R277). -/
theorem rule_of_through {b : Bool} {allowed : Bool × State} {counted s1 : State} (through : (if b then allowed else (false, counted)) = (true, s1)) :
    b = true := by
  split at through
  · assumption
  · cases through

/-- R249, R250: the PIN of a job's block under the key that opens it. -/
def openedPin (c : Ctx) : Option (List Nat) := parsePin c.d.p0 (openBlock c.d.p0 (pinKey c) (pinPan c) c.inB)

section
variable {s : State} {u : SetUp} (sound : u.bad = false)
include sound

/-- R252: the PIN is built anew in the output format, with fill drawn from the DRBG unless the format is 0. -/
theorem conclude_pinTranslate :
    match openedPin u.c with
    | none => Fails u (conclude s u.c.d opPinTranslate u).1 0x11
    | some p => Gives u (conclude s u.c.d opPinTranslate u).1 (sealBlock u.c.d.p1 (keyBytes u.c.k2) (pinPan u.c)
      (buildPin u.c.d.p1 p (if u.c.d.p1 = 0 then zeros 16 else (drbgDraw s (u.c.e / 9) u.c.p 16 false).1))) := by
  have fill : (if u.c.d.p1 = 0 then (zeros 16, s) else drbgDraw s (u.c.e / 9) u.c.p 16 false).1 =
      if u.c.d.p1 = 0 then zeros 16 else (drbgDraw s (u.c.e / 9) u.c.p 16 false).1 := apply_ite Prod.fst _ _ _
  rw [← fill]
  unfold openedPin
  split
  · rename_i unparsed
    refine conclude_fails sound rfl ?_ (by decide) rfl
    simp only [opPinTranslate, withDraw, opPin, opPlain, unparsed]
  · rename_i p parsed
    refine conclude_gives sound rfl ?_
    simp only [opPinTranslate, withDraw, opPin, opPlain, parsed]

/-- R253: the offset added to the decimalized validation data, digit by digit, is the PIN. -/
theorem conclude_pinVerifyOffset :
    match openedPin u.c with
    | none => Ends (conclude s u.c.d opPinVerifyOffset u).1 0x11
    | some p => Judges (conclude s u.c.d opPinVerifyOffset u).1 (u.c.d.d99 ≤ p.length ∧
      addDigits ((decimalized u.c).take u.c.d.d99) (decDigits u.c.d.d99 ((pinTail u.c).drop 16)) = p.take u.c.d.d99) := by
  unfold openedPin
  split
  · rename_i unparsed
    refine conclude_ends sound Nat.zero_ne_one ?_
    simp only [opPinVerifyOffset, opPin, opPlain, unparsed]
  · rename_i p parsed
    refine conclude_judges (b := decide (u.c.d.d99 ≤ p.length) &&
      (addDigits ((decimalized u.c).take u.c.d.d99) (decDigits u.c.d.d99 ((pinTail u.c).drop 16)) == p.take u.c.d.d99)) sound Nat.zero_ne_one ?_ ?_
    · simp only [opPinVerifyOffset, opPin, opPlain, parsed]
    · rw [Bool.and_eq_true, decide_eq_true_iff, beq_iff_eq]

/-- R255: the digits extracted from the enciphered PAN, key index and PIN are the PVV. -/
theorem conclude_pinVerifyPvv :
    match openedPin u.c with
    | none => Ends (conclude s u.c.d opPinVerifyPvv u).1 0x11
    | some p => Judges (conclude s u.c.d opPinVerifyPvv u).1 (extractDigits 4 (Config.tdesEnc (keyBytes u.c.k2)
      (packDigits (panRight 11 (pinPan u.c) ++ decDigits 1 (pinTail u.c) ++ p.take 4))) = decDigits 4 ((pinTail u.c).drop 1)) := by
  unfold openedPin
  split
  · rename_i unparsed
    refine conclude_ends sound Nat.zero_ne_one ?_
    simp only [opPinVerifyPvv, opPin, opPlain, unparsed]
  · rename_i p parsed
    refine conclude_judges sound Nat.zero_ne_one ?_ beq_iff_eq
    simp only [opPinVerifyPvv, opPin, opPlain, parsed]

/-- R253: a PIN with fewer digits than the offset is a MISMATCH as a block without a PIN is; else the offset is given. -/
theorem conclude_pinOffset :
    match openedPin u.c with
    | none => Fails u (conclude s u.c.d opPinOffset u).1 0x11
    | some p =>
      (u.c.d.d99 ≤ p.length →
        Gives u (conclude s u.c.d opPinOffset u).1 (packDigits (subDigits (p.take u.c.d.d99) ((decimalized u.c).take u.c.d.d99)))) ∧
      (p.length < u.c.d.d99 → Fails u (conclude s u.c.d opPinOffset u).1 0x11) := by
  unfold openedPin
  split
  · rename_i unparsed
    refine conclude_fails sound rfl ?_ (by decide) rfl
    simp only [opPinOffset, opPin, opPlain, unparsed]
  · rename_i p parsed
    refine ⟨fun long => conclude_gives sound rfl ?_, fun short => conclude_fails sound rfl ?_ (by decide) rfl⟩
    · simp only [opPinOffset, opPin, opPlain, parsed, if_pos long]
    · simp only [opPinOffset, opPin, opPlain, parsed, if_neg (Nat.not_le.2 short)]

end

/-- Settles O18: what each operation concludes by whether its block parses (`conclude_pinTranslate`, `conclude_pinVerifyOffset`, `conclude_pinVerifyPvv`,
`conclude_pinOffset`), and the policy's rules by what its guard lets through (`rule_of_through`). -/
theorem pinOperationsRun : Obligations.PinOperationsRun := by
  unfold Obligations.PinOperationsRun
  have free : Has (· ∈ operationParts) .free := has_mem (by decide)
  have regs : Has (· ∈ operationParts) .regs := has_mem (by decide)
  have krs : Has (· ∈ operationParts) .krs := has_mem (by decide)
  have guard : Has (· ∈ operationParts) .guard := has_mem (by decide)
  intro pin n
  refine ⟨?translate, ?verifyOffset, ?verifyPvv, ?offset⟩
  case translate =>
    refine runs_of_plain (fun _ _ => rfl) rfl opPinTranslate_okw fun held sound => ⟨?_, conclude_pinTranslate sound⟩
    obtain ⟨s2, through⟩ := held.guard
    exact Bool.and_eq_true_iff.1 (rule_of_through through)
  case verifyOffset =>
    refine runs_of_plain (fun _ _ => rfl) rfl opPinVerifyOffset_okw fun held sound => ⟨rfl, ?_, conclude_pinVerifyOffset sound⟩
    obtain ⟨s2, through⟩ := held.guard
    exact rule_of_through through
  case verifyPvv => exact runs_of_plain (fun _ _ => rfl) rfl opPinVerifyPvv_okw fun _ sound => ⟨rfl, conclude_pinVerifyPvv sound⟩
  case offset =>
    refine runs_of_plain (fun _ _ => rfl) rfl opPinOffset_okw fun held sound => ⟨?_, conclude_pinOffset sound⟩
    obtain ⟨s2, through⟩ := held.guard
    exact Bool.and_eq_true_iff.1 (rule_of_through through)

end Sys2Proof.Machine
end

section
/-! SUPPORT. DUKPT, TR-31, EMV, card values, Luhn and format-preserving encryption (R246, R256 to R264): what each operation concludes. -/

namespace Sys2Proof.Machine

open Sys2Proof.Claims

/-! ### Key blocks (R258 to R260) -/

/-- R234, R258: what an operation fixes of the created key's attributes holds of every job that runs. -/
theorem runs_and_desc {row : Fin 144 → Instr} {op : Nat} {o : OpDef} {P : SetUp → State → JobResult → Prop} {Q : Desc → Prop} (runs : Runs row op o P)
    (fixed : ∀ d, Q (o.attr d)) : Runs row op o (fun u s r => P u s r ∧ Q u.c.d) := by
  intro s e j rest u s1 head passed sound calm
  obtain ⟨s', goes, r, started, result⟩ := runs s e j rest u s1 head passed sound calm
  have desc : u.c.d = o.attr (jobDesc s j) := (setUp_passes passed).desc
  exact ⟨s', goes, r, started, result, desc ▸ fixed _⟩

/-- R259, R260: a block that does not authenticate is a MISMATCH; a key of no type of the store, or with attributes wider than its header grants, is
refused by the guard; any other is unwrapped. -/
theorem conclude_tr31Unwrap {s : State} {u : SetUp} (sound : u.bad = false) :
    let r := (conclude s u.c.d opTr31Unwrap u).1
    match Config.tr31Unwrap (keyBytes u.c.k1) u.c.inB with
    | none => Ends r 0x11
    | some mat =>
      match tr31Type (leAt u.c.inB 7 1) mat.length with
      | none => Ends r 0x35
      | some kt => if attrFits u.c.d u.c.inB = false then Ends r 0x35 else UnwrapsTo u s r (some (kt, mat)) := by
  intro r
  split
  · rename_i forged
    refine conclude_ends sound Nat.zero_ne_one ?_
    simp only [opTr31Unwrap, opPlain, forged]
  · rename_i mat authentic
    split
    · rename_i untyped
      refine conclude_ends sound Nat.zero_ne_one ?_
      simp only [opTr31Unwrap, opPlain, authentic, untyped]
    · rename_i kt typed
      split
      · rename_i wide
        refine conclude_ends sound Nat.zero_ne_one ?_
        simp only [opTr31Unwrap, opPlain, authentic, typed, wide, Bool.false_eq_true, if_false]
      · rename_i fits
        refine conclude_unwraps (payload := some (kt, mat)) sound Nat.zero_ne_one rfl ?_
        simp only [opTr31Unwrap, opPlain, authentic, typed, if_pos (Bool.of_not_eq_false fits)]

/-! ### EMV and Luhn (R261, R263) -/

/-- R261: the ARPC is given only when the ARQC verifies; else OUT is cleared. -/
theorem conclude_arqcArpc {s : State} {u : SetUp} (sound : u.bad = false) :
    (emvMac u.c u.c.inB 8 = emvArqc u.c → Gives u (conclude s u.c.d opArqcArpc u).1 (emvArpc u.c)) ∧
      (emvMac u.c u.c.inB 8 ≠ emvArqc u.c → Fails u (conclude s u.c.d opArqcArpc u).1 0x11) :=
  ⟨fun same => conclude_gives sound rfl (if_pos same), fun differs => conclude_fails sound rfl (if_neg differs) (by decide) rfl⟩

/-- The digit that brings the Luhn sum of a string to a multiple of 10 (R263). -/
def checkDigit (ds : List Nat) : Nat := (10 - luhnSum true ds % 10) % 10

theorem checkDigit_lt (ds : List Nat) : checkDigit ds < 10 := Nat.mod_lt _ (by decide)

/-- R263: a string with its check digit passes the check. -/
theorem dvd_luhnSum_checkDigit (ds : List Nat) : 10 ∣ luhnSum false (checkDigit ds :: ds) := by
  simp only [luhnSum, checkDigit, Bool.not_false, Bool.false_eq_true, if_false]
  omega

/-- R263: the check digit is given, in the high half of OUT's byte. -/
theorem conclude_luhnCompute {s : State} {u : SetUp} (sound : u.bad = false) :
    Gives u (conclude s u.c.d opLuhnCompute u).1 [byte (16 * checkDigit (decDigits u.c.d.d100 u.c.inB).reverse + 15)] :=
  conclude_gives sound rfl rfl

/-! ### Format-preserving encryption (R264) -/

section
variable {row : Fin 144 → Instr} {op : Nat} {ok : Desc → Bool} {f : Bool → Bytes → Bytes → List Nat → List Nat}

theorem fpe_runs {enc : Bool} (starts : ∀ e s, exec (row e) s = .next (quietSettle (startJob s e op (opFpe ok enc f)))) :
    Runs row op (opFpe ok enc f) (fun u _ r => Gives u r (fpeRun u.c (f enc (keyBytes u.c.k1)))) :=
  runs_of_plain starts rfl (opFpe_okw _ _ _) fun _ sound => conclude_gives sound rfl rfl

theorem reToken_runs (starts : ∀ e s, exec (row e) s = .next (quietSettle (startJob s e op (opReToken ok f)))) :
    Runs row op (opReToken ok f)
      (fun u _ r => Gives u r (fpeRun u.c (fun t x => f true (keyBytes u.c.k2) t (f false (keyBytes u.c.k1) t x)))) :=
  runs_of_plain starts rfl (opReToken_okw _ _) fun _ sound => conclude_gives sound rfl rfl

end

/-- Settles O19: each row by the shape of its operation — bytes for OUT, a verdict, or a key — with the cases of an unwrapped block by
`conclude_tr31Unwrap`, those of an ARPC by `conclude_arqcArpc`, and the check digit by `dvd_luhnSum_checkDigit`. -/
theorem paymentsRun : Obligations.PaymentsRun := by
  unfold Obligations.PaymentsRun
  have free : Has (· ∈ operationParts) .free := has_mem (by decide)
  have regs : Has (· ∈ operationParts) .regs := has_mem (by decide)
  have krs : Has (· ∈ operationParts) .krs := has_mem (by decide)
  have guard : Has (· ∈ operationParts) .guard := has_mem (by decide)
  intro key mac recs fpe retok
  refine ⟨?initialKey, ?macGenerate, ?macVerify, ?dataDecrypt, ?unwrap, ?wrap, ?arqc, ?arpc, ?cvvGenerate, ?cvvVerify, ?luhnCheck, ?luhnCompute,
    fpe_runs fun _ _ => rfl, fpe_runs fun _ _ => rfl, reToken_runs fun _ _ => rfl, fpe_runs fun _ _ => rfl, fpe_runs fun _ _ => rfl,
    reToken_runs fun _ _ => rfl⟩
  case initialKey =>
    have jobRow : JobRow .dukptInitialKey 0xE200 opDukptInitial := ⟨fun _ _ => rfl, fun _ => rfl, fun _ => rfl⟩
    exact runs_and_desc (Q := fun d => d.usage = usageOf "B1")
      (jobRow.runs opDukptInitial_okw fun _ sound => conclude_makesOnly sound Nat.zero_ne_one rfl rfl) fun _ => rfl
  case macGenerate => exact runs_of_plain (fun _ _ => rfl) rfl opDukptMacGen_okw fun _ sound => conclude_gives sound rfl rfl
  case macVerify =>
    exact runs_of_plain (fun _ _ => rfl) rfl opDukptMacVer_okw fun _ sound => conclude_judges sound Nat.zero_ne_one rfl decide_eq_true_iff
  case dataDecrypt => exact runs_of_plain (fun _ _ => rfl) rfl opDukptDecrypt_okw fun _ sound => conclude_gives sound rfl rfl
  case unwrap => exact runs_of_plain (fun _ _ => rfl) rfl opTr31Unwrap_okw fun _ sound => conclude_tr31Unwrap sound
  case wrap =>
    refine runs_of_plain (fun _ _ => rfl) rfl opTr31Wrap_okw fun held sound => ⟨?_, conclude_gives sound rfl rfl⟩
    obtain ⟨s2, through⟩ := held.guard
    exact wrapGuard_allows through
  case arqc => exact runs_of_plain (fun _ _ => rfl) rfl opArqcVerify_okw fun _ sound => conclude_judges sound Nat.zero_ne_one rfl decide_eq_true_iff
  case arpc => exact runs_of_plain (fun _ _ => rfl) rfl opArqcArpc_okw fun _ sound => conclude_arqcArpc sound
  case cvvGenerate => exact runs_of_plain (fun _ _ => rfl) rfl opCvvGenerate_okw fun _ sound => conclude_gives sound rfl rfl
  case cvvVerify => exact runs_of_plain (fun _ _ => rfl) rfl opCvvVerify_okw fun _ sound => conclude_judges sound Nat.zero_ne_one rfl beq_iff_eq
  case luhnCheck =>
    exact runs_of_plain (fun _ _ => rfl) rfl opLuhnCheck_okw fun _ sound =>
      conclude_judges sound Nat.zero_ne_one rfl (beq_iff_eq.trans (Nat.dvd_iff_mod_eq_zero ..).symm)
  case luhnCompute =>
    exact runs_of_plain (fun _ _ => rfl) rfl opLuhnCompute_okw fun _ sound =>
      ⟨_, checkDigit_lt _, conclude_luhnCompute sound, dvd_luhnSum_checkDigit _⟩

end Sys2Proof.Machine
end

section
/-! Witnesses: concrete jobs of the decimal engine that meet what the statements on PIN operations and payments suppose. -/

namespace Sys2Proof.Machine

open Sys2Proof.Claims

/-! ### Buffers and keys of a job that has passed its set-up -/

/-- A head job whose checks pass does what its row does, with its descriptor, with the bytes of IN and with OUT where it is translated. -/
theorem headJob_does {row : Fin 144 → Instr} {op : Nat} {o : OpDef} {P : SetUp → State → JobResult → Prop} (runs : Runs row op o P) {s : State}
    {i : Fin 144} {j : Job} {rest : List Job} (head : HeadJob s i op j rest) {d : Desc} (its : o.attr (jobDesc s j) = d) {pi po pa : Pieces} {k1 k2 : Key}
    (input : bufPieces s (i / 9) j.part (bufIn o d) = some pi) (output : bufPieces s (i / 9) j.part (bufOut o d) = some po)
    (aux : bufPieces s (i / 9) j.part (bufAux o d) = some pa) (key1 : namedKey s j.part j.turn d.key1 (o.key1 d (readBytes s pi)) = (.ok k1, s))
    (key2 : namedKey s j.part j.turn d.key2 (o.key2 d (readBytes s pi)) = (.ok k2, s)) (checks : checksPass s i j d o pi po pa k1 k2 = true)
    (calm : (o.guard (jobCtx s i j d o pi po pa k1 k2) s).2.faults.quietDue = none) :
    Completes (row i) s (fun s' => ∃ (r : JobResult) (u : SetUp) (s1 : State), Started s s' i j rest r ∧
      u.c.d = d ∧ u.c.inB = readBytes s pi ∧ u.po = po ∧ P u s1 r) := by
  obtain ⟨u, passed, sound⟩ := setUp_ok input output aux key1 key2 checks
  have held := setUp_passes passed
  obtain ⟨pi', translated, bytes⟩ := held.input
  obtain rfl : pi' = pi := Option.some.inj (translated.symm.trans input)
  obtain ⟨s', goes, r, started, result⟩ := runs s i j rest u _ head (by rw [its]; exact passed) sound calm
  exact ⟨s', goes, r, u, _, started, held.desc, bytes, Option.some.inj (held.output.symm.trans output), result⟩

/-- R186, R233: a key of former contents serves a use that admits it. -/
theorem namedKey_former {s : State} {p turn n t : Nat} {h : KHdr} {m : Bytes} {f : Key → Bool} (store : s.ks.isSealed = false) (inside : n < slotMax)
    (former : formerOf s turn n = some { slot := n, copies := spanCopies n h m, turn := t }) (own : h.owner = p) (admits : f (formerKey n h m) = true) :
    namedKey s p turn n (some f) = (.ok (formerKey n h m), s) := by
  simp only [namedKey, readKey_former store inside former own, admits, if_true]

/-! ### PIN operations (R249 to R255, R272, R274) -/

/-- A policy that allows a translation from format 0 to format 3 alone, offsets, one attempt, one token, one counter entry, and a table of zeros. -/
def pinPolicy : Bytes := zeros 8 ++ [4, 0, 4, 0, 1] ++ zeros 7 ++ [1, 0, 0, 0, 1, 0, 0, 0, 1] ++ zeros 11

/-- The header of a double-length TDES key of partition 0. -/
def tdesKeyHdr (usage : String) (mode : Nat) : KHdr :=
  { hdrEmpty with usage := usageOf usage, alg := algT, mode := mode, span := 1, state := 1, ktype := 1 }

/-- The former contents of slot 5, which opens PIN blocks, and of slot 6. -/
def pinFormer (usage : String) (mode : Nat) : List Former :=
  [{ slot := 5, copies := spanCopies 5 (tdesKeyHdr "P0" 0x44) [], turn := 1 }, { slot := 6, copies := spanCopies 6 (tdesKeyHdr usage mode) [], turn := 1 }]

/-- A job of the decimal engine under that policy, with these keys. -/
def pinState (m : Tab Digit) (usage : String) (mode : Nat) : State :=
  { queuedState 7 m false (pinFormer usage mode) with kc := { ownAll with sections := [(4, []), (11, pinPolicy)] } }

/-- The key that opens the PIN block. -/
def blockKey : Key := formerKey 5 (tdesKeyHdr "P0" 0x44) []
/-- The other key. -/
def otherKey (usage : String) (mode : Nat) : Key := formerKey 6 (tdesKeyHdr usage mode) []

section
variable {m : Tab Digit} {usage : String} {mode : Nat}

theorem pinState_job {op lo hi : Nat} (low : digitsFrom m 0 = lo) (high : digitsFrom m 64 = hi) (code : (descOf (lo + 16 ^ 64 * hi)).op = op)
    (known : (knownOps 4).contains op = true) :
    HeadJob (pinState m usage mode) 7 op jobAtZero [] ∧ jobDesc (pinState m usage mode) jobAtZero = descOf (lo + 16 ^ 64 * hi) :=
  ⟨queuedState_head (bad := false) (former := pinFormer usage mode) low high code known,
    queuedState_desc (e := 7) (bad := false) (former := pinFormer usage mode) low high⟩

/-- A PIN operation's job with both keys does what its row does, for a PIN block of eight bytes at #1000. -/
theorem pinState_does {row : Fin 144 → Instr} {op : Nat} {o : OpDef} {P : SetUp → State → JobResult → Prop} (runs : Runs row op o P) {d : Desc}
    (job : HeadJob (pinState m usage mode) 7 op jobAtZero [] ∧ o.attr (jobDesc (pinState m usage mode) jobAtZero) = d) {po pa : Pieces}
    (input : bufPieces (pinState m usage mode) 0 0 (bufIn o d) = some [(0x1000, 16)])
    (output : bufPieces (pinState m usage mode) 0 0 (bufOut o d) = some po)
    (aux : bufPieces (pinState m usage mode) 0 0 (bufAux o d) = some pa) (handles : d.key1 = 5 ∧ d.key2 = 6) {f g : Key → Bool}
    (use1 : o.key1 d (readBytes (pinState m usage mode) [(0x1000, 16)]) = some f)
    (use2 : o.key2 d (readBytes (pinState m usage mode) [(0x1000, 16)]) = some g) (admitted : f blockKey = true ∧ g (otherKey usage mode) = true)
    (checks : checksPass (pinState m usage mode) 7 jobAtZero d o [(0x1000, 16)] po pa blockKey (otherKey usage mode) = true)
    (calm : (o.guard (jobCtx (pinState m usage mode) 7 jobAtZero d o [(0x1000, 16)] po pa blockKey (otherKey usage mode))
      (pinState m usage mode)).2.faults.quietDue = none) :
    Completes (row 7) (pinState m usage mode) (fun s' => ∃ (r : JobResult) (u : SetUp) (s1 : State),
      Started (pinState m usage mode) s' 7 jobAtZero [] r ∧ P u s1 r) := by
  obtain ⟨head, its⟩ := job
  obtain ⟨handle1, handle2⟩ := handles
  obtain ⟨admits1, admits2⟩ := admitted
  have key1 : namedKey (pinState m usage mode) 0 0 5 (some f) = (.ok blockKey, pinState m usage mode) :=
    namedKey_former (t := 1) rfl (by decide) rfl rfl admits1
  have key2 : namedKey (pinState m usage mode) 0 0 6 (some g) = (.ok (otherKey usage mode), pinState m usage mode) :=
    namedKey_former (t := 1) rfl (by decide) rfl rfl admits2
  obtain ⟨s', goes, r, u, s1, started, -, -, -, result⟩ := headJob_does (i := 7) runs head its input output aux
    (by rw [handle1, use1]; exact key1) (by rw [handle2, use2]; exact key2) checks calm
  exact ⟨s', goes, r, u, s1, started, result⟩

end

/-- A descriptor of operation #E100, PIN translation from format 0 to format 3, with a PAN of twelve zeros at #2000; the new block goes to #3000. -/
def translateMem : Tab Digit := [(2, 1), (3, 14), (10, 5), (15, 6), (31, 1), (42, 8), (53, 3), (64, 8), (75, 2), (86, 7), (97, 3), (0x2000, 12)]

/-- R252, R272: the translation is let through, and ends with OK or MISMATCH. -/
theorem translate_ends : Completes (.pinTranslate 7) (pinState translateMem "P0" 0x45) (fun s' => ∃ r : JobResult,
    Started (pinState translateMem "P0" 0x45) s' 7 jobAtZero [] r ∧ (r.status = 0x10 ∨ r.status = 0x11)) := by
  obtain ⟨translates, -⟩ := pinOperationsRun
  have job : HeadJob (pinState translateMem "P0" 0x45) 7 0xE100 jobAtZero [] ∧ jobDesc (pinState translateMem "P0" 0x45) jobAtZero = _ :=
    pinState_job (lo := 0xE100 + 5 * 16 ^ 10 + 6 * 16 ^ 15 + 16 ^ 31 + 8 * 16 ^ 42 + 3 * 16 ^ 53)
      (hi := 8 + 2 * 16 ^ 11 + 7 * 16 ^ 22 + 3 * 16 ^ 33) rfl rfl (by decide) (by decide)
  obtain ⟨s', goes, r, u, s1, started, -, result⟩ := pinState_does translates job (po := [(0x3000, 16)]) (pa := [(0x2000, 14)])
    (by decide) (by decide) (by decide) (by decide) rfl rfl (by decide) (by decide) (by decide)
  refine ⟨s', goes, r, started, ?_⟩
  split at result
  · obtain ⟨mismatch, -⟩ := result
    exact .inr mismatch
  · obtain ⟨ok, -⟩ := result
    exact .inl ok

/-- A descriptor of operation #E110, PIN verification by an offset of four zeros, after a table and validation data of zeros. -/
def offsetMem : Tab Digit := [(1, 1), (2, 1), (3, 14), (10, 5), (15, 6), (31, 1), (42, 8), (75, 2), (86, 9), (87, 1), (99, 4), (0x2000, 12)]

/-- R253, R274: with its table registered it takes the last attempt of its PAN, and writes nothing. -/
theorem verifyOffset_attempts : Completes (.pinVerifyOffset 7) (pinState offsetMem "V1" 0x56) (fun s' => ∃ r : JobResult,
    Started (pinState offsetMem "V1" 0x56) s' 7 jobAtZero [] r ∧ r.attempt.isSome = true ∧ r.writes = []) := by
  obtain ⟨-, verifies, -⟩ := pinOperationsRun
  have job : HeadJob (pinState offsetMem "V1" 0x56) 7 0xE110 jobAtZero [] ∧ jobDesc (pinState offsetMem "V1" 0x56) jobAtZero = _ :=
    pinState_job (lo := 0xE110 + 5 * 16 ^ 10 + 6 * 16 ^ 15 + 16 ^ 31 + 8 * 16 ^ 42)
      (hi := 2 * 16 ^ 11 + 25 * 16 ^ 22 + 4 * 16 ^ 35) rfl rfl (by decide) (by decide)
  obtain ⟨s', goes, r, u, s1, started, attempt, -, result⟩ := pinState_does verifies job (po := []) (pa := [(0x2000, 50)])
    (by decide) (by decide) (by decide) (by decide) rfl rfl (by decide) (by decide) (by decide)
  refine ⟨s', goes, r, started, by rw [attempt]; rfl, ?_⟩
  split at result
  · obtain ⟨-, -, unwritten⟩ := result
    exact unwritten
  · obtain ⟨-, -, unwritten, -⟩ := result
    exact unwritten

/-- A descriptor of operation #E111, PIN verification by the PVV method, with key index 0 and PVV 0000. -/
def pvvMem : Tab Digit := [(0, 1), (1, 1), (2, 1), (3, 14), (10, 5), (15, 6), (31, 1), (42, 8), (75, 2), (86, 10), (0x2000, 12), (0x200E, 15)]

/-- R255, R274: it takes the last attempt of its PAN, and writes nothing. -/
theorem pvv_attempts : Completes (.pinVerifyPvv 7) (pinState pvvMem "V2" 0x56) (fun s' => ∃ r : JobResult,
    Started (pinState pvvMem "V2" 0x56) s' 7 jobAtZero [] r ∧ r.attempt.isSome = true ∧ r.writes = []) := by
  obtain ⟨-, -, verifies, -⟩ := pinOperationsRun
  have job : HeadJob (pinState pvvMem "V2" 0x56) 7 0xE111 jobAtZero [] ∧ jobDesc (pinState pvvMem "V2" 0x56) jobAtZero = _ :=
    pinState_job (lo := 0xE111 + 5 * 16 ^ 10 + 6 * 16 ^ 15 + 16 ^ 31 + 8 * 16 ^ 42)
      (hi := 2 * 16 ^ 11 + 10 * 16 ^ 22) rfl rfl (by decide) (by decide)
  obtain ⟨s', goes, r, u, s1, started, attempt, result⟩ := pinState_does verifies job (po := []) (pa := [(0x2000, 20)])
    (by decide) (by decide) (by decide) (by decide) rfl rfl (by decide) (by decide) (by decide)
  refine ⟨s', goes, r, started, by rw [attempt]; rfl, ?_⟩
  split at result
  · obtain ⟨-, -, unwritten⟩ := result
    exact unwritten
  · obtain ⟨-, -, unwritten, -⟩ := result
    exact unwritten

/-- A descriptor of operation #E120, generation of an offset of four digits to #3000, after a table and validation data of zeros. -/
def offsetGenMem : Tab Digit :=
  [(1, 2), (2, 1), (3, 14), (10, 5), (15, 6), (31, 1), (42, 8), (53, 3), (64, 2), (75, 2), (86, 7), (87, 1), (99, 4), (0x2000, 12)]

/-- R253: with offsets allowed and its table registered it ends with OK or MISMATCH. -/
theorem offsetGenerate_ends : Completes (.pinOffsetGenerate 7) (pinState offsetGenMem "V1" 0x47) (fun s' => ∃ r : JobResult,
    Started (pinState offsetGenMem "V1" 0x47) s' 7 jobAtZero [] r ∧ (r.status = 0x10 ∨ r.status = 0x11)) := by
  obtain ⟨-, -, -, generates⟩ := pinOperationsRun
  have job : HeadJob (pinState offsetGenMem "V1" 0x47) 7 0xE120 jobAtZero [] ∧ jobDesc (pinState offsetGenMem "V1" 0x47) jobAtZero = _ :=
    pinState_job (lo := 0xE120 + 5 * 16 ^ 10 + 6 * 16 ^ 15 + 16 ^ 31 + 8 * 16 ^ 42 + 3 * 16 ^ 53)
      (hi := 2 + 2 * 16 ^ 11 + 23 * 16 ^ 22 + 4 * 16 ^ 35) rfl rfl (by decide) (by decide)
  obtain ⟨s', goes, r, u, s1, started, -, result⟩ := pinState_does generates job (po := [(0x3000, 4)]) (pa := [(0x2000, 46)])
    (by decide) (by decide) (by decide) (by decide) rfl rfl (by decide) (by decide) (by decide)
  refine ⟨s', goes, r, started, ?_⟩
  split at result
  · obtain ⟨mismatch, -⟩ := result
    exact .inr mismatch
  · rename_i p parsed
    obtain ⟨long, short⟩ := result
    obtain exceeds | fits := Nat.lt_or_ge p.length u.c.d.d99
    · obtain ⟨mismatch, -⟩ := short exceeds
      exact .inr mismatch
    · obtain ⟨ok, -⟩ := long fits
      exact .inl ok

/-! ### Luhn (R263) -/

/-- A descriptor of operation #E600, Luhn check, over the two digits at #1000. -/
def luhnCheckMem (number : Tab Digit) : Tab Digit := [(2, 6), (3, 14), (31, 1), (42, 1), (100, 2)] ++ number

/-- The low half of its digits. -/
def luhnCheckLow : Nat := 0xE600 + 16 ^ 31 + 16 ^ 42
/-- The high half. -/
def luhnCheckHigh : Nat := 2 * 16 ^ 36
/-- The descriptor they spell. -/
def luhnCheckDesc : Desc := descOf (luhnCheckLow + 16 ^ 64 * luhnCheckHigh)

/-- The machine with that job at the head of the decimal engine's queue. -/
def luhnCheckState (number : Tab Digit) : State := queuedState 7 (luhnCheckMem number) false []

/-- R263: it judges the sum of the two digits. -/
theorem luhnCheckState_judges {number : Tab Digit} (low : digitsFrom (luhnCheckMem number) 0 = luhnCheckLow)
    (high : digitsFrom (luhnCheckMem number) 64 = luhnCheckHigh)
    (input : bufPieces (luhnCheckState number) 0 0 (bufIn opLuhnCheck luhnCheckDesc) = some [(0x1000, 2)])
    (checks : checksPass (luhnCheckState number) 7 jobAtZero luhnCheckDesc opLuhnCheck [(0x1000, 2)] [] [] noKey noKey = true) :
    Completes (.luhnCheck 7) (luhnCheckState number) (fun s' => ∃ r : JobResult, Started (luhnCheckState number) s' 7 jobAtZero [] r ∧
      Judges r (10 ∣ luhnSum false (decDigits 2 (readBytes (luhnCheckState number) [(0x1000, 2)])).reverse)) := by
  obtain ⟨-, -, -, -, -, -, -, -, -, -, judges, -⟩ := paymentsRun
  have head : HeadJob (luhnCheckState number) 7 0xE600 jobAtZero [] := queuedState_head low high (by decide) (by decide)
  obtain ⟨s', goes, r, u, s1, started, desc, bytes, -, verdict⟩ := headJob_does (i := 7) judges head (queuedState_desc low high) input
    rfl rfl rfl rfl checks rfl
  have length : luhnCheckDesc.d100 = 2 := by decide
  rw [desc, bytes, show (descOf (luhnCheckLow + 16 ^ 64 * luhnCheckHigh)).d100 = 2 from length] at verdict
  exact ⟨s', goes, r, started, verdict⟩

/-- R263: the string 18, whose sum is 10, will pass the check. -/
theorem luhnCheck_passes : Completes (.luhnCheck 7) (luhnCheckState [(0x1000, 8), (0x1001, 1)]) (fun s' => ∃ r : JobResult,
    Started (luhnCheckState [(0x1000, 8), (0x1001, 1)]) s' 7 jobAtZero [] r ∧ r.status = 0x10) := by
  obtain ⟨s', goes, r, started, ok, -⟩ := luhnCheckState_judges (number := [(0x1000, 8), (0x1001, 1)])
    (by decide) (by decide) (by decide) (by decide)
  exact ⟨s', goes, r, started, ok (by decide)⟩

/-- R263: with its digits exchanged it will not. -/
theorem luhnCheck_mismatches : Completes (.luhnCheck 7) (luhnCheckState [(0x1000, 1), (0x1001, 8)]) (fun s' => ∃ r : JobResult,
    Started (luhnCheckState [(0x1000, 1), (0x1001, 8)]) s' 7 jobAtZero [] r ∧ r.status = 0x11) := by
  obtain ⟨s', goes, r, started, -, no, -⟩ := luhnCheckState_judges (number := [(0x1000, 1), (0x1001, 8)])
    (by decide) (by decide) (by decide) (by decide)
  exact ⟨s', goes, r, started, no (by decide)⟩

/-- A descriptor of operation #E601, Luhn compute, over the digits 18 at #1000, to #2000. -/
def luhnComputeMem : Tab Digit := [(0, 1), (2, 6), (3, 14), (31, 1), (42, 1), (53, 2), (64, 1), (100, 2), (0x1000, 8), (0x1001, 1)]

/-- R263: to the string 18 belongs the check digit 2. -/
theorem luhnCompute_gives : Completes (.luhnCompute 7) (queuedState 7 luhnComputeMem false []) (fun s' => ∃ r : JobResult,
    Started (queuedState 7 luhnComputeMem false []) s' 7 jobAtZero [] r ∧ r.status = 0x10 ∧ r.writes = [([(0x2000, 2)], [0x2F])]) := by
  obtain ⟨-, -, -, -, -, -, -, -, -, -, -, computes, -⟩ := paymentsRun
  have low : digitsFrom luhnComputeMem 0 = 0xE601 + 16 ^ 31 + 16 ^ 42 + 2 * 16 ^ 53 := by decide
  have high : digitsFrom luhnComputeMem 64 = 1 + 2 * 16 ^ 36 := by decide
  have head : HeadJob (queuedState 7 luhnComputeMem false []) 7 0xE601 jobAtZero [] := queuedState_head low high (by decide) (by decide)
  obtain ⟨s', goes, r, u, s1, started, desc, bytes, out, c, small, ⟨status, writes, -⟩, divides⟩ := headJob_does computes head (i := 7)
    (queuedState_desc low high) (pi := [(0x1000, 2)]) (po := [(0x2000, 2)]) (pa := []) (by decide) (by decide) (by decide) rfl rfl
    (by decide) rfl
  rw [desc, bytes] at divides
  have sum : 10 ∣ c + (7 + (1 + 0)) := divides
  obtain rfl : c = 2 := by omega
  exact ⟨s', goes, r, started, status, by rw [writes, out]; decide⟩

/-! ### Format-preserving encryption (R264) -/

/-- The header of partition 0's AES-256 key for tokens. -/
def tokenKeyHdr : KHdr := { hdrEmpty with usage := usageOf "9T", alg := algA, mode := 0x45, span := 1, state := 1, ktype := 5 }

/-- The former contents of slot 5: that key. -/
def tokenFormer : List Former := [{ slot := 5, copies := spanCopies 5 tokenKeyHdr [], turn := 1 }]

/-- A descriptor of operation #E700, FF1 encryption, under key 5, of one record of six digits at #1000 to #2000; the record's first digit is 10. -/
def ff1Mem : Tab Digit := [(2, 7), (3, 14), (10, 5), (31, 1), (42, 3), (53, 2), (64, 3), (94, 6), (0x1001, 10)]

/-- R264: a record that is no decimal string becomes bytes of #FF. -/
theorem ff1_marksRecord : Completes (.ff1Encrypt 7) (queuedState 7 ff1Mem false tokenFormer) (fun s' => ∃ r : JobResult,
    Started (queuedState 7 ff1Mem false tokenFormer) s' 7 jobAtZero [] r ∧ r.status = 0x10 ∧ r.writes = [([(0x2000, 6)], [0xFF, 0xFF, 0xFF])]) := by
  obtain ⟨-, -, -, -, -, -, -, -, -, -, -, -, encrypts, -⟩ := paymentsRun
  have low : digitsFrom ff1Mem 0 = 0xE700 + 5 * 16 ^ 10 + 16 ^ 31 + 3 * 16 ^ 42 + 2 * 16 ^ 53 := by decide
  have high : digitsFrom ff1Mem 64 = 3 + 6 * 16 ^ 30 := by decide
  have head : HeadJob (queuedState 7 ff1Mem false tokenFormer) 7 0xE700 jobAtZero [] := queuedState_head low high (by decide) (by decide)
  have handle : (descOf (0xE700 + 5 * 16 ^ 10 + 16 ^ 31 + 3 * 16 ^ 42 + 2 * 16 ^ 53 + 16 ^ 64 * (3 + 6 * 16 ^ 30))).key1 = 5 := by decide
  have key : namedKey (queuedState 7 ff1Mem false tokenFormer) 0 0 5 (uses (fpeUse "BE") (descOf 0) []) =
      (.ok (formerKey 5 tokenKeyHdr []), queuedState 7 ff1Mem false tokenFormer) := namedKey_former (t := 1) rfl (by decide) rfl rfl (by decide)
  obtain ⟨s', goes, r, u, s1, started, desc, bytes, out, status, writes, -⟩ := headJob_does encrypts head
    (i := 7) (queuedState_desc low high) (pi := [(0x1000, 6)]) (po := [(0x2000, 6)]) (pa := []) (k1 := formerKey 5 tokenKeyHdr []) (by decide) (by decide)
    (by decide) (by rw [handle]; exact key) rfl (by decide) rfl
  have record : fpeRun u.c (Config.ff1 true (keyBytes u.c.k1)) = [0xFF, 0xFF, 0xFF] := by
    unfold fpeRun
    rw [desc, bytes]
    rfl
  dsimp only at writes
  exact ⟨s', goes, r, started, status, by rw [writes, out, record]; decide⟩

end Sys2Proof.Machine
end

section
/-! The statements on the whole machine: a step runs the command at the front of the queue, a command changes only its parts of the state, and fuses
only blow (R451, R461, R471, R478). -/

namespace Sys2Proof.Machine

/-- Settles O56: `step` by the case of its queue. -/
theorem stepRunsTheFrontCommand : Obligations.StepRunsTheFrontCommand := by
  unfold Obligations.StepRunsTheFrontCommand
  refine ⟨fun c rest s front => ?_, fun s empty => ?_⟩
  · rw [step, front]
  · rw [step, empty]

/-- Settles O60: `step_goes` says that every step leaves the fuses grown. -/
theorem fusesOnlyBlow : Obligations.FusesOnlyBlow := by
  unfold Obligations.FusesOnlyBlow
  intro s t ordered top stepped
  obtain ⟨u, goes, kept⟩ := step_goes s
  obtain rfl : u = t := Host.Outcome.next.inj (goes.symm.trans stepped)
  have grown : FusesGrow s.fuses u.fuses := kept.fuses
  obtain ⟨⟨ordered', top'⟩, lcs, next⟩ := grown.lc ⟨ordered, top⟩
  exact ⟨lcs, next, ordered', top', fun scrapped => by omega, grown.tamper, grown.epoch, grown.svn, grown.wear.2, grown.retire⟩

/-- Settles O58: `exec_within` names the parts that a command may change, and `exec_goes` says that outputs only grow. -/
theorem everyCommandChangesOnlyItsParts : Obligations.EveryCommandChangesOnlyItsParts := by
  unfold Obligations.EveryCommandChangesOnlyItsParts
  intro c s
  obtain ⟨t, goes, kept⟩ := exec_goes c s
  obtain ⟨u, goes', within⟩ := exec_within c s
  obtain rfl : u = t := Host.Outcome.next.inj (goes'.symm.trans goes)
  exact ⟨u, goes, kept.pending, kept.out, fun p outside => (within.rest p).resolve_left outside⟩

end Sys2Proof.Machine
end

section
/-! SUPPORT. Fields of registers under writes by the device, the parts that a function leaves, and walks over lists. -/

namespace Sys2Proof.Machine

open Sys2Proof.Claims

/-! ### Walks and frames -/

/-- What every step of a walk leaves, the walk leaves. -/
theorem view_foldl {β γ : Type} {g : State → γ} {f : State → β → State} (h : ∀ s x, g (f s x) = g s) (l : List β) (s : State) :
    g (l.foldl f s) = g s := by
  induction l generalizing s with
  | nil => rfl
  | cons x l ih => rw [List.foldl_cons, ih, h]

/-- What every step of a walk keeps, the walk keeps. -/
theorem foldl_keeps {σ β : Type} {P : σ → Prop} {f : σ → β → σ} (keeps : ∀ s x, P s → P (f s x)) (l : List β) {s : σ} (p : P s) : P (l.foldl f s) := by
  induction l generalizing s with
  | nil => exact p
  | cons x l ih => exact ih (keeps s x p)

/-- A walk reaches what one of its steps sets up, when every step keeps the ground `Q` for it and what has been set up. -/
theorem foldl_reaches {σ β : Type} {P Q : σ → Prop} {f : σ → β → σ} {a : β} (ground : ∀ s x, Q s → Q (f s x)) (sets : ∀ s, Q s → P (f s a))
    (keeps : ∀ s x, Q s → P s → P (f s x)) {l : List β} (listed : a ∈ l) {s : σ} (q : Q s) : P (l.foldl f s) := by
  have stays : ∀ (l : List β) (s : σ), Q s → P s → P (l.foldl f s) := by
    intro l
    induction l with
    | nil => exact fun s _ p => p
    | cons x l ih => exact fun s q p => ih (f s x) (ground s x q) (keeps s x q p)
  induction l generalizing s with
  | nil => cases listed
  | cons x l ih =>
    rcases List.mem_cons.1 listed with same | later
    · rw [List.foldl_cons, ← same]
      exact stays l _ (ground s a q) (sets s q)
    · exact ih later (ground s x q)

/-- A part outside those that may change reads the same. -/
theorem Within.same {F : Part → Prop} {s t : State} (w : Within F s t) (p : Part) (out : ¬ F p) : p.same s t := (w.rest p).resolve_left out

/-- A command that does not apply leaves the state. -/
theorem completes_same {i : Instr} {s s' : State} (e : exec i s = .next s') (same : s' = s) : Completes i s (fun s' => s' = s) := ⟨s', e, same⟩

/-- A command completes with what holds of the state that it leaves. -/
theorem completes_to {i : Instr} {s t u : State} {P : State → Prop} (e : exec i s = .next t) (same : t = u) (holds : P u) : Completes i s P :=
  ⟨u, same ▸ e, holds⟩

/-! ### Registers -/

/-- Two registers at other bases share no key. -/
theorem regKey_ne {q r : Reg} {i j : Nat} (hi : i < 4096) (hj : j < 4096) (apart : (regPlace q).base ≠ (regPlace r).base) :
    regKey q i ≠ regKey r j := by
  unfold regKey
  omega

/-- Two indices of a register have two keys. -/
theorem regKey_ne_of_index {r : Reg} {i j : Nat} (apart : i ≠ j) : regKey r i ≠ regKey r j := by
  unfold regKey
  omega

theorem fld_putFld_apart (w : Word) {hi lo h l : Nat} (v : Nat) (apart : h < lo ∨ hi < l) : fld (putFld w hi lo v) h l = fld w h l := by
  apply Nat.eq_of_testBit_eq
  intro i
  rw [fld_testBit, fld_testBit]
  by_cases inside : i < h + 1 - l
  · rw [getLsbD_putFld_out]
    omega
  · simp [inside]

theorem fldGet_of_regs {s s' : State} (h : s'.regs = s.regs) (r : Reg) (ix hi lo : Nat) : fldGet s' r ix hi lo = fldGet s r ix hi lo := by
  rw [fldGet, fldGet, regGet, regGet, h]

theorem regGet_of_regs {s s' : State} (h : s'.regs = s.regs) (r : Reg) (ix : Nat) : regGet s' r ix = regGet s r ix := by
  rw [regGet, regGet, h]

theorem fldGet_fldSet (s : State) (r : Reg) (ix : Nat) {hi lo : Nat} (v : Nat) (hhi : hi < 64) :
    fldGet (fldSet s r ix hi lo v) r ix hi lo = v % 2 ^ (hi + 1 - lo) := by
  rw [fldGet, fldSet, regGet_regSet, fld_putFld _ _ hhi]

theorem fldGet_fldSet_apart (s : State) (r : Reg) (ix : Nat) {hi lo h l : Nat} (v : Nat) (apart : h < lo ∨ hi < l) :
    fldGet (fldSet s r ix hi lo v) r ix h l = fldGet s r ix h l := by
  rw [fldGet, fldSet, regGet_regSet, fld_putFld_apart _ _ apart, fldGet]

theorem regGet_fldSet_ne (s : State) {q r : Reg} {i ix : Nat} (apart : regKey q i ≠ regKey r ix) (hi lo v : Nat) :
    regGet (fldSet s r ix hi lo v) q i = regGet s q i := regGet_regSet_ne _ _ _ _ _ _ apart

theorem fldGet_fldSet_ne (s : State) {q r : Reg} {i ix : Nat} (apart : regKey q i ≠ regKey r ix) (hi lo v h l : Nat) :
    fldGet (fldSet s r ix hi lo v) q i h l = fldGet s q i h l := by
  rw [fldGet, regGet_fldSet_ne s apart, fldGet]

theorem fldGet_bump_ne (s : State) {q r : Reg} {i ix : Nat} (apart : regKey q i ≠ regKey r ix) (hi lo k h l : Nat) :
    fldGet (bump s r ix hi lo k) q i h l = fldGet s q i h l := fldGet_fldSet_ne s apart _ _ _ _ _

theorem fldGet_bump_apart (s : State) (r : Reg) (ix : Nat) {hi lo h l : Nat} (k : Nat) (apart : h < lo ∨ hi < l) :
    fldGet (bump s r ix hi lo k) r ix h l = fldGet s r ix h l := fldGet_fldSet_apart s r ix _ apart

/-- A counter field raised by `k` stops at its highest value. -/
theorem fldGet_bump_by (s : State) (r : Reg) (ix k : Nat) {hi lo : Nat} (hhi : hi < 64) :
    fldGet (bump s r ix hi lo k) r ix hi lo = min (2 ^ (hi + 1 - lo) - 1) (fldGet s r ix hi lo + k) := by
  have positive : 0 < 2 ^ (hi + 1 - lo) := by positivity
  rw [bump, fldGet_fldSet _ _ _ _ hhi]
  unfold satAdd
  split
  · rw [Nat.mod_eq_of_lt (by omega)]
    omega
  · rw [Nat.mod_eq_of_lt (by omega)]
    omega

/-- A counter of 16 bits raised by one. -/
theorem fldGet_bump16 (s : State) (r : Reg) (ix : Nat) {hi lo : Nat} (hhi : hi < 64) (width : hi + 1 - lo = 16) :
    fldGet (bump s r ix hi lo 1) r ix hi lo = min 65535 (fldGet s r ix hi lo + 1) := by
  rw [fldGet_bump s r ix hhi, width]
  rfl

/-- A software write of a field whose bits are all RW. -/
theorem fldGet_plainWrite (s : State) {r : Reg} (ix : Nat) (v : Word) {hi lo : Nat} (hhi : hi < 64)
    (writes : ∀ i : Fin 64, lo ≤ i → i ≤ hi → (regAccess r).rw.getLsbD i = true ∧ (regAccess r).w1c.getLsbD i = false) :
    fldGet (plainWrite s r ix v) r ix hi lo = fld v hi lo := by
  rw [fldGet, plainWrite, regGet_regSet]
  apply Nat.eq_of_testBit_eq
  intro i
  rw [fld_testBit, fld_testBit]
  by_cases inside : i < hi + 1 - lo
  · have low : lo + i < 64 := by omega
    obtain ⟨isRw, noW1c⟩ := writes ⟨lo + i, low⟩ (Nat.le_add_right _ _) (by change lo + i ≤ hi; omega)
    dsimp only at isRw noW1c
    rw [BitVec.getLsbD_and, BitVec.getLsbD_or, BitVec.getLsbD_and, BitVec.getLsbD_and, BitVec.getLsbD_not, BitVec.getLsbD_not, BitVec.getLsbD_and,
      isRw, noW1c]
    simp [low]
  · simp [inside]

theorem bump_state (s : State) (r : Reg) (ix hi lo k : Nat) : bump s r ix hi lo k = { s with regs := (bump s r ix hi lo k).regs } := rfl

/-- A saturated sum. -/
theorem satAdd_eq_min (limit n k : Nat) : satAdd limit n k = min limit (n + k) := by
  unfold satAdd
  split <;> omega

end Sys2Proof.Machine
end

section
/-! SUPPORT. The queues of intake (R278 to R302): what pins, flow control, gaps and responses leave of the command queues and the registers, and the
items that stay. -/

namespace Sys2Proof.Machine

open Sys2Proof.Claims

/-! ### Pins and flow control (R300 to R302) -/

theorem cq_of_intake {s s' : State} (h : s'.intake = s.intake) (i : Nat) : cq s' i = cq s i := by rw [cq, cq, h]

theorem cq_of_cmdq {s s' : State} (h : s'.intake.cmdq = s.intake.cmdq) (i : Nat) : cq s' i = cq s i := by rw [cq, cq, h]

theorem rq_of_rspq {s s' : State} (h : s'.intake.rspq = s.intake.rspq) (i : Nat) : rq s' i = rq s i := by rw [rq, rq, h]

theorem setHold_cmdq (s : State) (g : Nat) : (setHold s g).intake.cmdq = s.intake.cmdq := by
  unfold setHold
  dsimp only
  split <;> split <;> rfl

theorem setHold_rspq (s : State) (g : Nat) : (setHold s g).intake.rspq = s.intake.rspq := by
  unfold setHold
  dsimp only
  split <;> split <;> rfl

theorem setHolds_cmdq (s : State) : (setHolds s).intake.cmdq = s.intake.cmdq := view_foldl (g := fun s => s.intake.cmdq) setHold_cmdq _ s

theorem setHolds_rspq (s : State) : (setHolds s).intake.rspq = s.intake.rspq := view_foldl (g := fun s => s.intake.rspq) setHold_rspq _ s

theorem emits_intake (f : Option Nat → Out) (l : List (Option Nat)) (s : State) : (l.foldl (fun s w => emit s (f w)) s).intake = s.intake :=
  view_foldl (g := State.intake) (f := fun s w => emit s (f w)) (fun _ _ => rfl) l s

theorem setFlow_cmdq (s : State) (port : Nat) : (setFlow s port).intake.cmdq = s.intake.cmdq := by
  unfold setFlow
  dsimp only
  rw [emits_intake, emits_intake]

theorem setFlow_rspq (s : State) (port : Nat) : (setFlow s port).intake.rspq = s.intake.rspq := by
  unfold setFlow
  dsimp only
  rw [emits_intake, emits_intake]

theorem setPressure_cmdq (s : State) : (setPressure s).intake.cmdq = s.intake.cmdq := by
  rw [setPressure, setFlow_cmdq, setFlow_cmdq, setHolds_cmdq]

theorem setPressure_rspq (s : State) : (setPressure s).intake.rspq = s.intake.rspq := by
  rw [setPressure, setFlow_rspq, setFlow_rspq, setHolds_rspq]

/-- What a judgement of HIGH leaves of a queue: all but HIGH itself. -/
theorem cq_judgeHigh (s : State) (q i : Nat) : cq (judgeHigh s q) i = { cq s i with high := (cq (judgeHigh s q) i).high } := by
  unfold judgeHigh
  dsimp only
  generalize (if kcHigh s.kc q < (cq s q).occ then true else if (cq s q).occ ≤ kcLow s.kc q then false else (cq s q).high) = h
  by_cases steady : h = (cq s q).high
  · rw [if_pos steady]
  · rw [if_neg steady, cq_of_cmdq (setPressure_cmdq _)]
    by_cases h : i = q
    · rw [h, cq_modCq]
    · rw [cq_modCq_ne _ _ _ _ h]

theorem judgeHigh_rspq (s : State) (q : Nat) : (judgeHigh s q).intake.rspq = s.intake.rspq := by
  unfold judgeHigh
  dsimp only
  generalize (if kcHigh s.kc q < (cq s q).occ then true else if (cq s q).occ ≤ kcLow s.kc q then false else (cq s q).high) = h
  split
  · rfl
  · rw [setPressure_rspq]
    rfl

theorem judgeHigh_items (s : State) (q i : Nat) : (cq (judgeHigh s q) i).items = (cq s i).items := by rw [cq_judgeHigh]
theorem judgeHigh_occ (s : State) (q i : Nat) : (cq (judgeHigh s q) i).occ = (cq s i).occ := by rw [cq_judgeHigh]
theorem judgeHigh_seq (s : State) (q i : Nat) : (cq (judgeHigh s q) i).seq = (cq s i).seq := by rw [cq_judgeHigh]

/-- Pins, flow control and HIGH lie in these parts. -/
def pressureParts : List Part := [.intake, .pins, .out]

theorem judgeHigh_frame (s : State) (q : Nat) : Within (· ∈ pressureParts) s (judgeHigh s q) :=
  @judgeHigh_within _ ⟨by decide⟩ ⟨by decide⟩ ⟨by decide⟩ _ _ _ (Within.refl s)

theorem freeLines_frame (s : State) (c : Cmd) : Within (· ∈ pressureParts) s (freeLines s c) :=
  @freeLines_within _ ⟨by decide⟩ ⟨by decide⟩ ⟨by decide⟩ _ _ _ (Within.refl s)

theorem freeLines_items (s : State) (c : Cmd) (i : Nat) : (cq (freeLines s c) i).items = (cq s i).items := by
  rw [freeLines, judgeHigh_items]
  by_cases h : i = c.queue
  · rw [h, cq_modCq]
  · rw [cq_modCq_ne _ _ _ _ h]

theorem freeLines_occ (s : State) (c : Cmd) : (cq (freeLines s c) c.queue).occ = (cq s c.queue).occ - linesFor c.len := by
  rw [freeLines, judgeHigh_occ, cq_modCq]

theorem freeLines_lastServed (s : State) (c : Cmd) (i : Nat) : (cq (freeLines s c) i).lastServed = (cq s i).lastServed := by
  rw [freeLines, cq_judgeHigh]
  by_cases h : i = c.queue
  · rw [h, cq_modCq]
  · rw [cq_modCq_ne _ _ _ _ h]

theorem freeLines_rspq (s : State) (c : Cmd) : (freeLines s c).intake.rspq = s.intake.rspq := by
  rw [freeLines, judgeHigh_rspq]
  rfl

/-! ### Items (R281) -/

/-- The item with a number in a queue, changed. -/
def onItem (q ord : Nat) (f : Cmd → Cmd) (c : Cmd) : Cmd := if c.queue = q ∧ c.ord = ord then f c else c

/-- A change of an item reaches the command queue that it names, and threads. -/
theorem modCmd_intake (s : State) (q ord : Nat) (f : Cmd → Cmd) :
    (modCmd s q ord f).intake = (modCq s q (fun x => { x with items := x.items.map (onItem q ord f) })).intake := by
  unfold modCmd
  refine view_foldl (g := State.intake) ?_ _ _
  exact fun _ _ => rfl

theorem modCmd_frame (s : State) (q ord : Nat) (f : Cmd → Cmd) : Within (· ∈ [Part.threads, .intake]) s (modCmd s q ord f) :=
  @modCmd_within _ ⟨by decide⟩ ⟨by decide⟩ _ _ _ _ _ (Within.refl s)

theorem cq_modCmd (s : State) (q ord : Nat) (f : Cmd → Cmd) :
    cq (modCmd s q ord f) q = { cq s q with items := (cq s q).items.map (onItem q ord f) } := by
  rw [cq_of_intake (modCmd_intake s q ord f), cq_modCq]

theorem cq_modCmd_ne (s : State) {q i : Nat} (ord : Nat) (f : Cmd → Cmd) (h : i ≠ q) : cq (modCmd s q ord f) i = cq s i := by
  rw [cq_of_intake (modCmd_intake s q ord f), cq_modCq_ne _ _ _ _ h]

/-- A gap marked leaves a queue's length, its lines and its number. -/
theorem markGap_counts (s : State) (q : Nat) : (cq (markGap s q) q).items.length = (cq s q).items.length ∧
    (cq (markGap s q) q).occ = (cq s q).occ ∧ (cq (markGap s q) q).seq = (cq s q).seq := by
  unfold markGap
  split
  · rw [cq_modCmd]
    exact ⟨List.length_map _, rfl, rfl⟩
  · rw [cq_modCq]
    exact ⟨rfl, rfl, rfl⟩

theorem markGap_frame (s : State) (q : Nat) : Within (· ∈ [Part.threads, .intake]) s (markGap s q) :=
  @markGap_within _ ⟨by decide⟩ ⟨by decide⟩ _ _ _ (Within.refl s)

/-- A dropped command is counted. -/
theorem fldGet_dropCmd (s : State) (q : Nat) : fldGet (dropCmd s q) .queStat q 63 48 = min 65535 (fldGet s .queStat q 63 48 + 1) := by
  rw [dropCmd, fldGet_of_regs ((markGap_frame _ _).same .regs (by decide)), fldGet_bump16 _ _ _ (by decide) rfl]

theorem dropCmd_counts (s : State) (q : Nat) : (cq (dropCmd s q) q).items.length = (cq s q).items.length ∧
    (cq (dropCmd s q) q).occ = (cq s q).occ ∧ (cq (dropCmd s q) q).seq = (cq s q).seq := markGap_counts _ _

/-! ### Responses (R281, R296, R298) -/

theorem markRespGap_regs (s : State) (q : Nat) : (markRespGap s q).regs = s.regs := by
  unfold markRespGap
  dsimp only
  split
  · split <;> rfl
  · rfl

theorem markRespGap_cmdq (s : State) (q : Nat) : (markRespGap s q).intake.cmdq = s.intake.cmdq := by
  unfold markRespGap
  dsimp only
  split
  · split <;> rfl
  · rfl

theorem markRespGap_length (s : State) (q : Nat) : (rq (markRespGap s q) q).items.length = (rq s q).items.length := by
  unfold markRespGap
  dsimp only
  split
  · rename_i r rest e
    split
    · rw [rq_modRq]
    · rw [rq_modRq]
      dsimp only
      rw [List.length_reverse, List.length_cons, ← List.length_reverse (as := (rq s q).items), e, List.length_cons]
  · rw [rq_modRq]

/-- A dropped response is counted. -/
theorem fldGet_dropResp (s : State) (q : Nat) : fldGet (dropResp s q) .queStatr q 63 48 = min 65535 (fldGet s .queStatr q 63 48 + 1) := by
  rw [dropResp, fldGet_of_regs (markRespGap_regs _ _), fldGet_bump16 _ _ _ (by decide) rfl]

theorem dropResp_length (s : State) (q : Nat) : (rq (dropResp s q) q).items.length = (rq s q).items.length := markRespGap_length _ _

theorem storeResp_cmdq (s : State) (q : Nat) (r : Resp) : (storeResp s q r).intake.cmdq = s.intake.cmdq := by
  unfold storeResp
  split
  · exact markRespGap_cmdq _ _
  · rfl

/-- A response stored or dropped counts in its own queue's register only. -/
theorem regGet_storeResp (s : State) (q : Nat) (r : Resp) {g : Reg} {i : Nat} (apart : regKey g i ≠ regKey .queStatr q) :
    regGet (storeResp s q r) g i = regGet s g i := by
  unfold storeResp
  split
  · rw [dropResp, regGet_of_regs (markRespGap_regs _ _), bump, regGet_fldSet_ne s apart]
  · rfl

/-- A response for which there is room stands at the end of its queue. -/
theorem storeResp_stored {s : State} {q : Nat} {r : Resp} (room : rqOcc s q + linesFor r.payload.length ≤ rqCap s q) :
    (rq (storeResp s q r) q).items = (rq s q).items ++ [{ r with gap := r.gap || (rq s q).gapp }] := by
  unfold storeResp
  rw [if_neg (by omega)]
  exact congrArg RespQueue.items (rq_modRq s q _)

end Sys2Proof.Machine
end

section
/-! Intake's checks on a command, in order, and admission (R283 to R289). -/

namespace Sys2Proof.Machine

open Sys2Proof.Claims

/-- The number of one byte is below 256. -/
theorem leAt_one_lt (b : Bytes) (i : Nat) : leAt b i 1 < 256 := by
  unfold leAt slice
  cases b.drop i with
  | nil => exact Nat.zero_lt_succ _
  | cons x rest =>
    rw [List.take_succ_cons, List.take_zero, leNat, leNat]
    have small := x.isLt
    omega

/-- A command header that reads names a partition of 8 bits and one of four queues. -/
theorem readCmdH_bounds {b : Bytes} {c : CmdH} (reads : readCmdH b = some c) : c.part < 256 ∧ c.lq < 4 := by
  unfold readCmdH at reads
  dsimp only at reads
  split at reads
  · rename_i good
    cases reads
    exact ⟨leAt_one_lt _ _, good.2.1⟩
  · cases reads

/-! ### The queue that a command enters (R286) -/

/-- Whether a command is forwarded to partition 1. -/
def forwarded (s : State) (h : CmdH) : Bool := decide (2 ≤ h.part) && kcKeyCmd s.kc h.kind

/-- The queue of a command's own partition. -/
def homeQueue (h : CmdH) : Nat := 4 * h.part + h.lq

/-- The queue that a command enters. -/
def entersQueue (s : State) (h : CmdH) : Nat := if forwarded s h then 7 else homeQueue h

/-- Whether the sender has a token for the class of the queue that the command enters (R309). -/
def hasToken (s : State) (h : CmdH) : Bool :=
  decide (0 < kcRate s.kc h.part (kcClass s.kc (entersQueue s h))) && decide (10 ^ 9 ≤ (bucketNow s h.part (kcClass s.kc (entersQueue s h))).level)

/-- The time that a command is given (R287). -/
def budgetOf (s : State) (h : CmdH) : Nat :=
  if h.budget = 0 ∨ kcClassMax s.kc (kcClass s.kc (entersQueue s h)) < 1000 * h.budget then kcClassMax s.kc (kcClass s.kc (entersQueue s h))
  else 1000 * h.budget

/-- The item that an admitted command becomes (R288, R289). -/
def admitted (s : State) (a : Arriving) : Cmd where
  ord := s.intake.nextOrd
  turn := s.turns.num
  deadline := s.now + budgetOf s a.h
  arrival := s.now
  payload := a.payload
  len := a.h.len
  session := a.session
  seq := (cq s (entersQueue s a.h)).seq
  olq := if forwarded s a.h then a.h.lq else 0
  part := a.h.part
  origin := if forwarded s a.h then 6 else a.origin
  gap := (cq s (entersQueue s a.h)).gapp
  poison := false
  redeliver := false
  queue := entersQueue s a.h
  whole := a.whole
  truncated := false
  route := a.route
  badWords := []

/-! ### Checks 5 to 7 (R284 to R289) -/

theorem takeToken_fst (s : State) (h : CmdH) : (takeToken s h.part (kcClass s.kc (entersQueue s h))).1 = hasToken s h := rfl

theorem takeToken_cmdq (s : State) (p c : Nat) : (takeToken s p c).2.intake.cmdq = s.intake.cmdq := rfl

/-- A BUSY answer leaves the command queues. -/
theorem answerBusy_cmdq (s : State) (a : Arriving) (tenant q : Nat) : (answerBusy s a tenant q).intake.cmdq = s.intake.cmdq := by
  unfold answerBusy
  dsimp only
  rw [storeResp_cmdq]
  rfl

/-- A BUSY answer is counted for its tenant. -/
theorem fldGet_answerBusy (s : State) (a : Arriving) {tenant q : Nat} (hp : tenant < 4096) (hq : q < 4096) :
    fldGet (answerBusy s a tenant q) .quePstat tenant 31 16 = min 65535 (fldGet s .quePstat tenant 31 16 + 1) := by
  unfold answerBusy
  dsimp only
  rw [fldGet, regGet_storeResp _ _ _ (regKey_ne hp hq (by decide)), ← fldGet, fldGet_bump16 _ _ _ (by decide) rfl]
  rfl

/-- The state in which a command with a token finds its queue: the token is gone and the number taken. -/
def numbered (s : State) (a : Arriving) : State :=
  modCq (takeToken s a.h.part (kcClass s.kc (entersQueue s a.h))).2 (entersQueue s a.h) (fun x => { x with seq := (x.seq + 1) % 4096 })

/-- The state with a command at the end of its queue. -/
def queued (s : State) (a : Arriving) : State :=
  let n := numbered s a
  modCq { n with intake := { n.intake with nextOrd := n.intake.nextOrd + 1 } } (entersQueue s a.h)
    (fun x => { x with items := x.items ++ [admitted s a], occ := x.occ + linesFor a.h.len, gapp := false })

/-- Checks 5 to 7: a token, room, and the end of the queue. -/
theorem takeIn_eq (s : State) (a : Arriving) : (takeIn s a).2 =
    if hasToken s a.h = false then answerBusy (takeToken s a.h.part (kcClass s.kc (entersQueue s a.h))).2 a a.h.part (homeQueue a.h)
    else if cqCap s (entersQueue s a.h) < (cq s (entersQueue s a.h)).occ + linesFor a.h.len then dropCmd (numbered s a) (entersQueue s a.h)
    else judgeHigh (queued s a) (entersQueue s a.h) := by
  unfold takeIn
  dsimp only
  by_cases token : hasToken s a.h = false
  · rw [if_pos token, if_pos (by rw [Bool.not_eq_true']; exact token)]
    rfl
  · rw [if_neg token, if_neg (by rw [Bool.not_eq_true']; exact token)]
    by_cases full : cqCap s (entersQueue s a.h) < (cq s (entersQueue s a.h)).occ + linesFor a.h.len
    · rw [if_pos full]
      exact congrArg Prod.snd (if_pos full)
    · rw [if_neg full]
      exact congrArg Prod.snd (if_neg full)

theorem cq_numbered (s : State) (a : Arriving) :
    cq (numbered s a) (entersQueue s a.h) = { cq s (entersQueue s a.h) with seq := ((cq s (entersQueue s a.h)).seq + 1) % 4096 } := by
  rw [numbered, cq_modCq, cq_of_cmdq (takeToken_cmdq _ _ _)]

theorem cq_queued (s : State) (a : Arriving) : cq (queued s a) (entersQueue s a.h) = { cq (numbered s a) (entersQueue s a.h) with
    items := (cq s (entersQueue s a.h)).items ++ [admitted s a], occ := (cq s (entersQueue s a.h)).occ + linesFor a.h.len, gapp := false } := by
  rw [queued, cq_modCq]
  have same : cq { numbered s a with intake := { (numbered s a).intake with nextOrd := (numbered s a).intake.nextOrd + 1 } }
      (entersQueue s a.h) = cq (numbered s a) (entersQueue s a.h) := rfl
  rw [same, cq_numbered]

section

variable {s : State} {a : Arriving}

/-- Without a token the answer is BUSY: it is counted, and the queue stays (R285). -/
theorem takeIn_busy (hp : a.h.part < 256) (hq : a.h.lq < 4) (token : hasToken s a.h = false) :
    fldGet (takeIn s a).2 .quePstat a.h.part 31 16 = min 65535 (fldGet s .quePstat a.h.part 31 16 + 1) ∧
      cq (takeIn s a).2 (entersQueue s a.h) = cq s (entersQueue s a.h) := by
  have home : homeQueue a.h < 4096 := by unfold homeQueue; omega
  rw [takeIn_eq, if_pos token]
  constructor
  · rw [fldGet_answerBusy _ _ (by omega) home]
    rfl
  · rw [cq_of_cmdq (answerBusy_cmdq _ _ _ _), cq_of_cmdq (takeToken_cmdq _ _ _)]

/-- With a token and no room the command is dropped and counted (R286, R280). -/
theorem takeIn_full (token : hasToken s a.h = true)
    (full : cqCap s (entersQueue s a.h) < (cq s (entersQueue s a.h)).occ + linesFor a.h.len) :
    fldGet (takeIn s a).2 .queStat (entersQueue s a.h) 63 48 = min 65535 (fldGet s .queStat (entersQueue s a.h) 63 48 + 1) ∧
      (cq (takeIn s a).2 (entersQueue s a.h)).items.length = (cq s (entersQueue s a.h)).items.length ∧
      (cq (takeIn s a).2 (entersQueue s a.h)).occ = (cq s (entersQueue s a.h)).occ ∧
      (cq (takeIn s a).2 (entersQueue s a.h)).seq = ((cq s (entersQueue s a.h)).seq + 1) % 4096 := by
  obtain ⟨items, occ, seq⟩ := dropCmd_counts (numbered s a) (entersQueue s a.h)
  rw [takeIn_eq, if_neg (by simp [token]), if_pos full]
  rw [items, occ, seq, cq_numbered, fldGet_dropCmd, fldGet_of_regs (s := s) rfl]
  exact ⟨rfl, rfl, rfl, rfl⟩

/-- With a token and room the command stands at the end of its queue with its stamps (R287 to R289). -/
theorem takeIn_room (token : hasToken s a.h = true)
    (room : (cq s (entersQueue s a.h)).occ + linesFor a.h.len ≤ cqCap s (entersQueue s a.h)) :
    (cq (takeIn s a).2 (entersQueue s a.h)).seq = ((cq s (entersQueue s a.h)).seq + 1) % 4096 ∧
      (cq (takeIn s a).2 (entersQueue s a.h)).occ = (cq s (entersQueue s a.h)).occ + linesFor a.h.len ∧
      (cq (takeIn s a).2 (entersQueue s a.h)).items = (cq s (entersQueue s a.h)).items ++ [admitted s a] := by
  rw [takeIn_eq, if_neg (by simp [token]), if_neg (by omega), judgeHigh_seq, judgeHigh_occ, judgeHigh_items, cq_queued, cq_numbered]
  exact ⟨rfl, rfl, rfl⟩

end

/-! ### Frames (R283, R392) -/

/-- A state with other sessions. -/
def withSessions (s : State) (x : Tab Session) : State := { s with intake := { s.intake with sessions := x } }

/-- A frame accepted in a session changes sessions only. -/
theorem acceptFrame_eq (s : State) (l : NetPort) (h : NetHdr) (n ctr : Nat) : ∃ x, acceptFrame s l h n ctr = withSessions s x := by
  unfold acceptFrame
  split
  · exact ⟨_, rfl⟩
  · exact ⟨_, rfl⟩

section

variable {s : State} {l : NetPort} {h : NetHdr} {b : Bytes}

/-- A frame on a port that is up and takes it reaches its own check. -/
theorem frameIn_passes (on : s.supply.power = 1) (up : portUp s l = true) (passes : passesFilter s l h = true) {ty : Nat}
    (is : frameIs b ty = true) (f : State → State) : frameIn s l h b ty f = f s := by
  unfold frameIn
  rw [if_neg (by omega), if_neg (by simp [up]), if_neg (by simp [passes, is])]

/-- A DATA frame by the outcome of checks 1 to 3. -/
theorem dataFrame_notReady (takes : takesCommand s (leAt b 8 1) (isMgmt l) false = false) :
    dataFrame s l h b = countNotReady s (netLane l) := by
  unfold dataFrame
  rw [if_pos (by simp [takes])]

theorem dataFrame_bad (takes : takesCommand s (leAt b 8 1) (isMgmt l) false = true)
    (bad : ∀ c, readCmdH (slice b 8 16) = some c → c.len + 40 ≠ b.length) : dataFrame s l h b = countBad s (netLane l) := by
  unfold dataFrame
  dsimp only
  rw [if_neg (by simp [takes])]
  split
  · rfl
  · rename_i c reads
    rw [if_pos (bad c reads)]

theorem dataFrame_unauth {c : CmdH} (takes : takesCommand s (leAt b 8 1) (isMgmt l) false = true) (reads : readCmdH (slice b 8 16) = some c)
    (len : c.len + 40 = b.length) (closed : openFrame s b = none) : dataFrame s l h b = countAuth s (netLane l) := by
  unfold dataFrame
  dsimp only
  rw [if_neg (by simp [takes]), reads]
  dsimp only
  rw [if_neg (by simp [len]), closed]

/-- What reaches checks 4 to 7 from a frame. -/
def arriving (l : NetPort) (c : CmdH) (n : Nat) (body : Bytes) : Arriving where
  h := c
  payload := body
  whole := true
  session := if isMgmt l then 0xFF00 else n
  origin := netOrigin l
  route := n

theorem dataFrame_opens {c : CmdH} {n : Nat} {body : Bytes} (takes : takesCommand s (leAt b 8 1) (isMgmt l) false = true)
    (reads : readCmdH (slice b 8 16) = some c) (len : c.len + 40 = b.length) (opens : openFrame s b = some (n, body)) :
    dataFrame s l h b =
      (arrive (acceptFrame s l h n (leAt b 4 4)) (arriving l c n body) (netLane l) (isMgmt l) false true).2 := by
  unfold dataFrame
  dsimp only
  rw [if_neg (by simp [takes]), reads]
  dsimp only
  rw [if_neg (by simp [len]), opens]
  rfl

end

/-- Check 4: the plane, the partition, its queue (R18, R283). -/
def mayEnter (s : State) (l : NetPort) (c : CmdH) : Bool :=
  planeOk (isMgmt l) false c.part && kcPresent s.kc c.part && decide (0 < cqCap s (homeQueue c))

theorem arrive_refused {s : State} {l : NetPort} {a : Arriving} {lane : Nat} (refused : mayEnter s l a.h = false) :
    (arrive s a lane (isMgmt l) false true).2 = bump s .laneDrop lane 15 0 1 := by
  unfold arrive
  dsimp only
  rw [if_pos (by rw [Bool.and_true, Bool.not_eq_true']; exact refused)]

theorem arrive_enters {s : State} {l : NetPort} {a : Arriving} {lane : Nat} (enters : mayEnter s l a.h = true) :
    (arrive s a lane (isMgmt l) false true).2 = (takeIn s a).2 := by
  unfold arrive
  dsimp only
  rw [if_neg (by rw [Bool.and_true, Bool.not_eq_true', Bool.not_eq_false]; exact enters)]

/-- Settles O23: each check of R283 to R289 in turn, `takeIn_busy`, `takeIn_full` and `takeIn_room` for the last three. -/
theorem commandsArrive : Obligations.CommandsArrive := by
  unfold Obligations.CommandsArrive
  intro s l h b on up passes is counted takes
  have runs : exec (.commandArrival l h b) s = .next (dataFrame s l h b) := congrArg Host.Outcome.next (frameIn_passes on up passes is _)
  refine ⟨fun no => ?_, fun yes bad => ?_, fun c yes reads len closed => ?_, fun c n body yes reads len opens => ?_⟩
  · exact completes_to runs (dataFrame_notReady no) (fldGet_bump16 s _ _ (by decide) rfl)
  · exact completes_to runs (dataFrame_bad yes bad) (fldGet_bump16 s _ _ (by decide) rfl)
  · exact completes_to runs (dataFrame_unauth yes reads len closed) (fldGet_bump16 s _ _ (by decide) rfl)
  · obtain ⟨hp, hq⟩ := readCmdH_bounds reads
    obtain ⟨x, accepted⟩ := acceptFrame_eq s l h n (leAt b 4 4)
    rw [dataFrame_opens yes reads len opens, accepted] at runs
    intro home fwd q cls ok token room most
    refine ⟨fun refused => ?_, fun enters no => ?_, fun enters yes full => ?_, fun enters yes fits => ?_⟩
    · have refused : mayEnter s l c = false := refused
      exact completes_to runs (arrive_refused refused) (fldGet_bump16 _ _ _ (by decide) rfl)
    · have enters : mayEnter s l c = true := enters
      have counts := takeIn_busy (s := withSessions s x) (a := arriving l c n body) hp hq no
      exact completes_to runs (arrive_enters enters) counts
    · have enters : mayEnter s l c = true := enters
      have counts := takeIn_full (s := withSessions s x) (a := arriving l c n body) yes (Nat.lt_of_not_le (of_decide_eq_false full))
      exact completes_to runs (arrive_enters enters) counts
    · have enters : mayEnter s l c = true := enters
      obtain ⟨seq, occ, items⟩ := takeIn_room (s := withSessions s x) (a := arriving l c n body) yes (of_decide_eq_true fits)
      exact completes_to runs (arrive_enters enters) ⟨seq, occ, _, items, rfl, rfl, rfl, rfl, rfl, rfl, rfl, rfl, rfl, rfl, rfl, rfl⟩

end Sys2Proof.Machine
end

section
/-! Commands delivered, answered LATE and landed (R280, R290 to R294). The statement bounds the queue that a caller names and not the queue that an
item records, and an item's answer goes to the queue that the item records. -/

namespace Sys2Proof.Machine

open Sys2Proof.Claims

/-- An item whose deadline has passed; the number of its queue is far above 1023. -/
def strayItem : Cmd where
  ord := 0
  turn := 0
  deadline := 0
  arrival := 0
  payload := []
  len := 0
  session := 0
  seq := 0
  olq := 0
  part := 0
  origin := 1
  gap := false
  poison := false
  redeliver := false
  queue := 357826560
  whole := true
  truncated := false
  route := 0
  badWords := []

/-- A state with the stray item at the head of queue 0, after its deadline. -/
def strayState : State :=
  { State.reset with now := 1, intake := { State.reset.intake with cmdq := [(0, { cmdqInit with items := [strayItem] })] } }

/-- The counter of LATE answers of the stray item's partition and the counter of drops of its response queue have one key. -/
theorem stray_keys_meet : regKey .quePstat (respQueue strayItem / 4) = regKey .queStatr (respQueue strayItem) := by decide

/-- Where the two counters have one key, either name reads both. -/
theorem fldGet_quePstat_of_meet {i j : Nat} (meet : regKey .quePstat i = regKey .queStatr j) (s : State) (hi lo : Nat) :
    fldGet s .quePstat i hi lo = fldGet s .queStatr j hi lo := by
  rw [fldGet, fldGet, regGet, regGet, meet]
  rfl

/-- A LATE answer without room, where the two counters have one key, is counted twice. -/
theorem fldGet_answerRelease_twice {s : State} {c : Cmd} (meet : regKey .quePstat (respQueue c / 4) = regKey .queStatr (respQueue c))
    (full : rqCap s (respQueue c) = 0) :
    fldGet (answerRelease s c 0xE1) .quePstat (respQueue c / 4) 63 48 =
      min 65535 (min 65535 (fldGet s .quePstat (respQueue c / 4) 63 48 + 1) + 1) := by
  rw [answerRelease, fldGet_of_regs ((freeLines_frame _ c).same .regs (by decide)), answer, if_pos rfl]
  rw [storeResp, if_pos (by change rqCap s _ < _; rw [full]; exact Nat.add_pos_right _ (show 0 < linesFor 0 by decide)), fldGet_quePstat_of_meet meet, fldGet_dropResp,
    ← fldGet_quePstat_of_meet meet, fldGet_bump16 _ _ _ (by decide) rfl]

/-- An item at the head of its queue after its deadline is answered LATE. -/
theorem lateHead_eq {s : State} {q : Nat} {c : Cmd} {rest : List Cmd} (head : (cq s q).items = c :: rest) (late : c.deadline < s.now) :
    lateHead s q = answerRelease (modCq s q (fun x => { x with items := rest })) c 0xE1 := by
  unfold lateHead
  rw [head]
  exact if_pos late

/-- Refutes O24: an item in queue 0 that records queue 357826560 is answered LATE, and the answer, for which an absent partition has no room, is
dropped; LATE and DROP are then two counts of one register, and the statement allows one. -/
theorem not_commandsLand : ¬ Obligations.CommandsLand := by
  unfold Obligations.CommandsLand
  intro h
  obtain ⟨queues, -⟩ := h strayState
  obtain ⟨-, -, -, late⟩ := queues 0 strayItem [] rfl
  obtain ⟨s', goes, -, once⟩ := late (by decide)
  have noRoom : rqCap strayState (respQueue strayItem) = 0 := by
    have absent : kcPresent strayState.kc (respQueue strayItem / 4) = false := by
      rw [kcPresent, List.any_eq_false]
      intro q _
      have nobodys : kcQuad strayState.kc q = nobody := rfl
      rw [nobodys]
      decide
    rw [rqCap, absent]
    rfl
  have zero : fldGet strayState .quePstat (respQueue strayItem / 4) 63 48 = 0 := by decide
  have twice : fldGet s' .quePstat (respQueue strayItem / 4) 63 48 = 2 := by
    have runs : lateHead strayState 0 = s' := Host.Outcome.next.inj goes
    rw [← runs, lateHead_eq (rest := []) rfl (by decide), fldGet_answerRelease_twice stray_keys_meet (by exact noRoom),
      fldGet_of_regs (s := strayState) (modCq_regs _ _ _), zero]
    rfl
  rw [twice, zero] at once
  exact absurd once (by decide)

end Sys2Proof.Machine
end

section
/-! Commands finished, and responses that leave by the routes of their commands (R279, R280, R295, R296, R299 to R302, R311, R312, R392, R399). -/

namespace Sys2Proof.Machine

open Sys2Proof.Claims

/-! ### Release and rewind (R279, R295) -/

/-- What a thread that has released its command holds: nothing current, its inbox, and its queue's lines given back. -/
def Freed (s s' : State) (t : Nat) (c : Cmd) : Prop :=
  (thr s' t).current = none ∧ (thr s' t).inbox = (thr s t).inbox ∧ (cq s' c.queue).occ = (cq s c.queue).occ - linesFor c.len

theorem thr_of_threads {s s' : State} (h : s'.threads = s.threads) (t : Nat) : thr s' t = thr s t := by rw [thr, thr, h]

theorem thr_freeLines (s : State) (c : Cmd) (t : Nat) : thr (freeLines s c) t = thr s t :=
  thr_of_threads ((freeLines_frame s c).same .threads (by decide)) t

theorem modThr_intake (s : State) (t : Nat) (f : Thread → Thread) : (modThr s t f).intake = s.intake := by
  rw [modThr, putThr_rest]

section

variable {s : State} {t : Nat} {cur : Current}

/-- Lines freed once the thread has let go of its command. -/
theorem freed_freeLines (s : State) (t : Nat) (c : Cmd) : Freed s (freeLines (modThr s t (fun th => { th with current := none })) c) t c := by
  refine ⟨?_, ?_, ?_⟩
  · rw [thr_freeLines, modThr_self]
  · rw [thr_freeLines, modThr_self]
  · rw [freeLines_occ, cq_of_intake (modThr_intake _ _ _)]

theorem releaseCmd_freed (holds : (thr s t).current = some cur) : Freed s (releaseCmd s t) t cur.cmd := by
  unfold releaseCmd
  rw [holds]
  exact freed_freeLines s t cur.cmd

/-- A truncated command is released by a rewind. -/
theorem rewindCmd_freed (holds : (thr s t).current = some cur) (truncated : cur.cmd.truncated = true) : Freed s (rewindCmd s t) t cur.cmd := by
  unfold rewindCmd returnItem
  rw [holds]
  dsimp only
  rw [if_pos truncated]
  exact freed_freeLines s t cur.cmd

/-- A whole command stands again at the head of its queue after a rewind. -/
theorem rewindCmd_returns (holds : (thr s t).current = some cur) (whole : cur.cmd.truncated = false) :
    (thr (rewindCmd s t) t).current = none ∧
      (cq (rewindCmd s t) cur.cmd.queue).items = { cur.cmd with redeliver := true } :: (cq s cur.cmd.queue).items ∧
      (cq (rewindCmd s t) cur.cmd.queue).occ = (cq s cur.cmd.queue).occ := by
  unfold rewindCmd returnItem
  rw [holds]
  dsimp only
  rw [if_neg (by simp [whole]), cq_modCq, cq_of_intake (modThr_intake _ _ _)]
  refine ⟨?_, rfl, rfl⟩
  have same : ∀ f, thr (modCq (modThr s t (fun th => { th with current := none })) cur.cmd.queue f) t =
    thr (modThr s t (fun th => { th with current := none })) t := fun _ => rfl
  rw [same, modThr_self]

end

/-! ### A response stored (R295, R296) -/

/-- The header of a thread's response area. -/
def respArea (s : State) (t : Nat) : Bytes := digitsBytes (readDigits s (landingSlot s t + 32768) 64)

/-- The payload of a thread's response area. -/
def respBody (s : State) (t : Nat) : Bytes :=
  digitsBytes (readDigits s (landingSlot s t + 32768 + 64) (2 * leAt (respArea s t) 24 2))

/-- The response queue that a thread answers into. -/
def answerQueue (s : State) (t k : Nat) (c : Cmd) : Nat := if c.origin = 6 then respQueue c else 4 * (thr s t).part + k

theorem storeResp_mem {s : State} {q : Nat} {r : Resp} (room : rqOcc s q + linesFor r.payload.length ≤ rqCap s q) :
    { r with gap := r.gap || (rq s q).gapp } ∈ (rq (storeResp s q r) q).items := by
  rw [storeResp_stored room]
  exact List.mem_append_right _ List.mem_cons_self

section

variable {s : State} {t k : Nat} {cur : Current}

theorem respond_bad (holds : (thr s t).current = some cur) (bad : 16352 < leAt (respArea s t) 24 2 ∨ leAt (respArea s t) 30 1 ≠ 0) :
    respond s t k = bump s .quePstat (thr s t).part 15 0 1 := by
  unfold respond
  rw [holds]
  exact if_pos bad

/-- A response with a sound header and room stands at the end of its queue. -/
theorem respond_answers (holds : (thr s t).current = some cur) (len : leAt (respArea s t) 24 2 ≤ 16352) (rcode : leAt (respArea s t) 30 1 = 0)
    (room : rqOcc s (answerQueue s t k cur.cmd) + linesFor (respBody s t).length ≤ rqCap s (answerQueue s t k cur.cmd)) :
    ∃ r ∈ (rq (respond s t k) (answerQueue s t k cur.cmd)).items, r.turn = cur.cmd.turn ∧ r.stored = s.now ∧ r.session = cur.cmd.session ∧
      r.seq = cur.cmd.seq ∧ r.rcode = 0 ∧ r.route = cur.cmd.route ∧ r.payload = respBody s t := by
  unfold respond
  rw [holds]
  dsimp only
  rw [if_neg (by intro bad; unfold respArea at len rcode; omega)]
  exact ⟨_, storeResp_mem (q := answerQueue s t k cur.cmd) room, rfl, rfl, rfl, rfl, rfl, rfl, rfl⟩

/-- A response changes no command queue and no thread. -/
theorem respond_cmdq (s : State) (t k : Nat) : (respond s t k).intake.cmdq = s.intake.cmdq := by
  unfold respond
  split
  · rfl
  · dsimp only
    split
    · rfl
    · exact storeResp_cmdq _ _ _

theorem respond_frame (s : State) (t k : Nat) : Within (· ∈ [Part.regs, .intake, .pins]) s (respond s t k) :=
  @respond_within _ ⟨by decide⟩ ⟨by decide⟩ ⟨by decide⟩ _ _ _ _ (Within.refl s)

theorem thr_respond (s : State) (t k u : Nat) : thr (respond s t k) u = thr s u :=
  thr_of_threads ((respond_frame s t k).same .threads (by decide)) u

/-- A thread that answers and releases has released, whatever became of the answer. -/
theorem respondRelease_freed (holds : (thr s t).current = some cur) : Freed s (releaseCmd (respond s t k) t) t cur.cmd := by
  obtain ⟨current, inbox, occ⟩ := releaseCmd_freed (s := respond s t k) (t := t) (cur := cur) (by rw [thr_respond, holds])
  exact ⟨current, by rw [inbox, thr_respond], by rw [occ, cq_of_cmdq (respond_cmdq _ _ _)]⟩

theorem releaseCmd_rspq (s : State) (t : Nat) : (releaseCmd s t).intake.rspq = s.intake.rspq := by
  unfold releaseCmd
  split
  · rfl
  · rw [freeLines_rspq, modThr_intake]

/-- QUE_DONE without a current command is counted. -/
theorem queDone_idle (idle : (thr s t).current = none) {act : Nat} (acts : 1 ≤ act ∧ act ≤ 4) :
    queDone s t act k = bump s .quePstat (thr s t).part 15 0 1 := by
  unfold queDone
  rw [if_neg (by omega), idle]

/-- QUE_DONE with a current command, by its ACT. -/
theorem queDone_acts (holds : (thr s t).current = some cur) : queDone s t 1 k = releaseCmd s t ∧ queDone s t 2 k = rewindCmd s t ∧
    queDone s t 3 k = respond s t k ∧ queDone s t 4 k = releaseCmd (respond s t k) t := by
  unfold queDone
  rw [holds]
  exact ⟨rfl, rfl, rfl, rfl⟩

end

/-! ### A response leaves (R280, R299, R311, R312, R392, R399) -/

/-- The response queue without its head. -/
def goneHead (s : State) (q : Nat) (rest : List Resp) : State := setSmbAlert (modRq s q (fun x => { x with items := rest }))

theorem rq_goneHead (s : State) (q : Nat) (rest : List Resp) : (rq (goneHead s q rest) q).items = rest := by
  have same : rq (goneHead s q rest) q = rq (modRq s q (fun x => { x with items := rest })) q := rfl
  rw [same, rq_modRq]

section

variable {s : State} {q : Nat} {r : Resp} {rest : List Resp}

/-- A response in a session that has closed is dropped and counted (R299). -/
theorem sendHead_closed (head : (rq s q).items = r :: rest) (net : r.route < 0xF000) (closed : (sess s r.route).part = nobody)
    (sound : r.poison = false) : sendHead s q false = bump (goneHead s q rest) .queStatr q 63 48 1 := by
  unfold sendHead
  rw [head]
  dsimp only
  rw [if_neg (by omega), if_neg (by simp [sound]), if_neg (by omega), if_pos closed]
  rfl

/-- The header of a response frame (R391). -/
def respCmdH (q : Nat) (r : Resp) : Bytes :=
  [byte (q / 4), byte (q % 4), 0, 0] ++ zeros 4 ++ leBytes 2 (respHeader r ++ r.payload).length ++ zeros 6

/-- A response in an open session leaves in a frame (R392). -/
theorem sendHead_frame (head : (rq s q).items = r :: rest) (net : r.route < 0xF000) (isOpen : (sess s r.route).part ≠ nobody)
    (sound : r.poison = false) (free : isPaused s (sess s r.route).port (kcClassPri s.kc (kcClass s.kc q)) = false)
    (up : (netDomains (sess s r.route).port).any (domOut s) = false) :
    sendHead s q false = sendFrame (goneHead s q rest) r.route 3 (respCmdH q r) (respHeader r ++ r.payload) := by
  unfold sendHead
  rw [head]
  dsimp only
  rw [if_neg (by omega), if_neg (by simp [sound]), if_neg (by omega), if_neg isOpen, if_neg (by simp [free, up])]
  rfl

/-- A frame is sent under the session's next number. -/
theorem sendFrame_out (s : State) (n ty : Nat) (cmdh body : Bytes) : (sendFrame s n ty cmdh body).out = s.out ++ [.frame (sess s n).port n
    ((sess s n).ctrOut + 1) (sess s n).peerIp (sess s n).peerUdp (sealFrame (sess s n) ty n ((sess s n).ctrOut + 1) cmdh body)] := by
  unfold sendFrame
  dsimp only
  split <;> rfl

theorem sendFrame_rspq (s : State) (n ty : Nat) (cmdh body : Bytes) : (sendFrame s n ty cmdh body).intake.rspq = s.intake.rspq := by
  unfold sendFrame
  dsimp only
  split <;> rfl

/-- A response to SMBus waits there, and SMBALERT_N is asserted (R412). -/
theorem sendHead_smbus (head : (rq s q).items = r :: rest) (smbus : r.route = 0xFF01) (sound : r.poison = false) :
    (rq (sendHead s q false) q).items = rest ∧ (sendHead s q false).intake.smbusOut = s.intake.smbusOut ++ respHeader r ++ r.payload ∧
      (sendHead s q false).pins.smbAlertN = false := by
  unfold sendHead
  rw [head]
  dsimp only
  rw [if_neg (by omega), if_neg (by simp [sound]), if_pos smbus]
  refine ⟨rq_goneHead s q rest, rfl, ?_⟩
  have waits : (s.intake.smbusOut ++ respHeader r ++ r.payload != []) = true := by simp [respHeader, leBytes]
  change (!(_ || (s.intake.smbusOut ++ respHeader r ++ r.payload != []))) = false
  rw [waits, Bool.or_true, Bool.not_true]

/-- The state in which a head that fails parity leaves: its error is reported (R280). -/
def headRead (s : State) (q : Nat) (parity : Bool) : State :=
  if parity then report s 5 (Config.rowGroup q % 1024) 4 (q / 4) (1024 + q) else s

theorem headRead_frame (s : State) (q : Nat) (parity : Bool) : Within (· ∈ reportParts) s (headRead s q parity) := by
  unfold headRead
  split
  · exact report_frame _ _ _ _ _ _
  · exact Within.refl s

/-- A head that fails parity and goes to no ring is dropped (R280). -/
theorem sendHead_parity (head : (rq s q).items = r :: rest) (noRing : ¬ (0xF000 ≤ r.route ∧ r.route < 0xFF00)) :
    sendHead s q true = dropResp (goneHead (headRead s q true) q rest) q := by
  unfold sendHead
  rw [head]
  dsimp only
  rw [if_neg noRing, if_pos (by rw [Bool.true_or])]
  rfl

/-- A response to a host is written to its ring (R399). -/
theorem sendHead_ring (head : (rq s q).items = r :: rest) (low : 0xF000 ≤ r.route) (high : r.route < 0xFF00) (up : pcieUp s = true)
    (on : funcOn s (funcOfQueue q) = true) (master : (func s (funcOfQueue q)).busMaster = true) (fits : ringFits s q r = true) (parity : Bool) :
    sendHead s q parity = ringWrite (goneHead (headRead s q parity) q rest) q { r with poison := parity || r.poison } (parity || r.poison) := by
  unfold sendHead
  rw [head]
  dsimp only
  rw [if_pos ⟨low, high⟩, if_pos ⟨up, on, master, fits⟩]
  rfl

end

theorem dropResp_frame (s : State) (q : Nat) : Within (· ∈ [Part.regs, .intake]) s (dropResp s q) :=
  @dropResp_within _ ⟨by decide⟩ ⟨by decide⟩ _ _ _ (Within.refl s)

/-! ### Vectors and rings (R311, R312, R399) -/

/-- Whether a queue's vector can send its message now (R312). -/
def canSignal (s : State) (q : Nat) : Bool := !(ring s q).masked && (func s (funcOfQueue q)).busMaster && pcieUp s

@[simp] theorem ring_modRing (s : State) (q : Nat) (f : Ring → Ring) : ring (modRing s q f) q = f (ring s q) := tget_tmod_self _ _ _

/-- A message that is due is sent when the vector can send it, else held pending. -/
theorem msixDue_acts (s : State) (q : Nat) : (ring (msixDue s q) q).unsignalled = 0 ∧ (ring (msixDue s q) q).oldest = none ∧
    (canSignal s q = true → (msixDue s q).out = s.out ++ [.msix (funcOfQueue q) (q % 4)]) ∧
    (canSignal s q = false → (ring (msixDue s q) q).pendingBit = true ∧ (msixDue s q).out = s.out) := by
  have blocked : ((ring s q).masked || !(func s (funcOfQueue q)).busMaster || !pcieUp s) = !canSignal s q := by
    rw [canSignal, Bool.not_and, Bool.not_and, Bool.not_not]
  have due : msixDue s q =
      if (!canSignal s q) = true then modRing (modRing s q (fun r => { r with unsignalled := 0, oldest := none })) q (fun r => { r with pendingBit := true })
      else emit { modRing s q (fun r => { r with unsignalled := 0, oldest := none }) with linkPower := .l0 } (.msix (funcOfQueue q) (q % 4)) := by
    unfold msixDue
    dsimp only
    rw [ring_modRing, ← blocked]
    rfl
  cases can : canSignal s q with
  | true =>
    rw [due, can]
    refine ⟨?_, ?_, fun _ => rfl, fun no => absurd no (by decide)⟩
    · exact congrArg Ring.unsignalled (ring_modRing s q _)
    · exact congrArg Ring.oldest (ring_modRing s q _)
  | false =>
    rw [due, can]
    dsimp only
    rw [if_pos (by decide), ring_modRing, ring_modRing]
    exact ⟨rfl, rfl, fun yes => absurd yes (by decide), fun _ => ⟨rfl, rfl⟩⟩

theorem countResponse_frame (s : State) (q : Nat) : Within (· ∈ [Part.intake, .linkPower, .out]) s (countResponse s q) :=
  @countResponse_within _ ⟨by decide⟩ ⟨by decide⟩ ⟨by decide⟩ _ _ _ (Within.refl s)

theorem msixDue_rspq (s : State) (q : Nat) : (msixDue s q).intake.rspq = s.intake.rspq := by
  unfold msixDue
  dsimp only
  split <;> rfl

theorem countResponse_rspq (s : State) (q : Nat) : (countResponse s q).intake.rspq = s.intake.rspq := by
  unfold countResponse
  dsimp only
  split
  · rw [msixDue_rspq]
    rfl
  · rfl

/-- The bytes of a record (R399). -/
def ringRecord (r : Resp) : Bytes :=
  padTo (64 * (((respHeader r ++ r.payload).length + 63) / 64)) (respHeader r ++ r.payload)

theorem length_padTo (n : Nat) (b : Bytes) : (padTo n b).length = n := by
  rw [padTo, List.length_append, List.length_take, zeros, List.length_replicate]
  omega

theorem ringRecord_length (r : Resp) : (ringRecord r).length = 64 * (((respHeader r ++ r.payload).length + 63) / 64) := length_padTo _ _

/-- A record written, with the producer index past it (R399). -/
def recordWritten (s : State) (q : Nat) (r : Resp) (bad : Bool) : State :=
  let ix := winIx (funcOfQueue q) (q % 4)
  fldSet (emit s (.hostWrite (funcOfQueue q) (fldGet s .rprod ix 31 0 % 2 ^ (15 + fldGet s .rbase ix 7 4)) (ringRecord r) bad)) .rprod ix 31 0
    ((fldGet s .rprod ix 31 0 + (ringRecord r).length) % 2 ^ 32)

/-- A record written, with its shadow copy where the function has asked for one. -/
def recordShadowed (s : State) (q : Nat) (r : Resp) (bad : Bool) : State :=
  let ix := winIx (funcOfQueue q) (q % 4)
  if regGet (recordWritten s q r bad) .rshadow ix = 0 then recordWritten s q r bad
  else emit (recordWritten s q r bad) (.shadow (funcOfQueue q) (q % 4) ((fldGet s .rprod ix 31 0 + (ringRecord r).length) % 2 ^ 32))

theorem recordShadowed_parts (s : State) (q : Nat) (r : Resp) (bad : Bool) : (recordShadowed s q r bad).regs = (recordWritten s q r bad).regs ∧
    (recordShadowed s q r bad).intake = s.intake ∧ (recordWritten s q r bad).out <+: (recordShadowed s q r bad).out := by
  unfold recordShadowed
  dsimp only
  split
  · exact ⟨rfl, rfl, List.prefix_refl _⟩
  · exact ⟨rfl, rfl, List.prefix_append _ _⟩

theorem ringWrite_eq (s : State) (q : Nat) (r : Resp) (bad : Bool) : ringWrite s q r bad = countResponse (recordShadowed s q r bad) q := rfl

/-- A record in its ring: it leaves first, and the producer index is advanced past it (R399). -/
theorem ringWrite_acts (s : State) (q : Nat) (r : Resp) (bad : Bool) : (ringWrite s q r bad).intake.rspq = s.intake.rspq ∧
    fldGet (ringWrite s q r bad) .rprod (winIx (funcOfQueue q) (q % 4)) 31 0 =
      (fldGet s .rprod (winIx (funcOfQueue q) (q % 4)) 31 0 + (ringRecord r).length) % 2 ^ 32 ∧
    ∃ tail, (ringWrite s q r bad).out = s.out ++ .hostWrite (funcOfQueue q) (fldGet s .rprod (winIx (funcOfQueue q) (q % 4)) 31 0 %
      2 ^ (15 + fldGet s .rbase (winIx (funcOfQueue q) (q % 4)) 7 4)) (ringRecord r) bad :: tail := by
  obtain ⟨regs, intake, out⟩ := recordShadowed_parts s q r bad
  rw [ringWrite_eq]
  refine ⟨?_, ?_, ?_⟩
  · rw [countResponse_rspq, intake]
  · rw [fldGet_of_regs ((countResponse_frame _ _).same .regs (by decide)), fldGet_of_regs regs, recordWritten, fldGet_fldSet _ _ _ _ (by decide)]
    exact Nat.mod_mod _ _
  · obtain ⟨tail, sent⟩ := out.trans (countResponse_keeps _ q (Keeps.refl _)).out
    exact ⟨tail, by rw [← sent, recordWritten]; exact List.append_assoc _ _ _⟩

/-! ### HOLD_N (R301) -/

theorem nth_putPin (l : List Bool) (g : Nat) {i : Nat} (b : Bool) (hi : i < 8) : nth false (putPin l g b) i = if i = g then b else nth false l i := by
  rw [nth, putPin, List.getD_eq_getElem?_getD, List.getElem?_map, List.getElem?_range hi]
  rfl

/-- What brings a pin to its state leaves the reasons for which pins are low. -/
theorem setHold_low (s : State) (g i : Nat) : holdLow (setHold s g) i = holdLow s i := by
  unfold setHold
  dsimp only
  split <;> split <;> rfl

/-- A pin that must be low is low once it is brought to its state, and stays low. -/
theorem setHold_falls {s : State} {i : Nat} (low : holdLow s i = true) (hi : i < 8) (g : Nat)
    (at_ : g = i ∨ nth false s.pins.holdN i = false) : nth false (setHold s g).pins.holdN i = false := by
  unfold setHold
  dsimp only
  by_cases same : g = i
  · subst same
    rw [if_pos low]
    split
    · exact (nth_putPin _ _ _ hi).trans (if_pos rfl)
    · rename_i down
      simpa using down
  · have was := at_.resolve_left same
    have other : ∀ b, nth false (putPin s.pins.holdN g b) i = false := fun b => by
      rw [nth_putPin _ _ _ hi, if_neg (fun h => same h.symm), was]
    split <;> split
    · exact other _
    · exact was
    · exact was
    · exact other _

/-- A pin that nothing holds low and whose minimum time has passed is high once it is brought to its state, and stays high. -/
theorem setHold_rises {s : State} {i : Nat} (free : holdLow s i = false) (passed : s.intake.holdMin.contains i = false) (hi : i < 8) (g : Nat)
    (at_ : g = i ∨ nth false s.pins.holdN i = true) :
    nth false (setHold s g).pins.holdN i = true := by
  unfold setHold
  dsimp only
  by_cases same : g = i
  · subst same
    rw [if_neg (by simp [free])]
    split
    · rename_i up
      rwa [passed, Bool.or_false] at up
    · exact (nth_putPin _ _ _ hi).trans (if_pos rfl)
  · have was := at_.resolve_left same
    have other : ∀ b, nth false (putPin s.pins.holdN g b) i = true := fun b => by
      rw [nth_putPin _ _ _ hi, if_neg (fun h => same h.symm), was]
    split <;> split
    · exact other _
    · exact was
    · exact was
    · exact other _

/-- The minimum time of a pin that nothing holds low does not begin again. -/
theorem setHold_over {s : State} {i : Nat} (free : holdLow s i = false) (passed : s.intake.holdMin.contains i = false) (g : Nat) :
    (setHold s g).intake.holdMin.contains i = false := by
  unfold setHold
  dsimp only
  split <;> split
  · rename_i low up
    have other : i ≠ g := by
      rintro rfl
      rw [free] at low
      cases low
    simpa [other] using passed
  all_goals exact passed

theorem setHolds_falls {s : State} {i : Nat} (low : holdLow s i = true) (hi : i < 8) : nth false (setHolds s).pins.holdN i = false := by
  unfold setHolds
  refine foldl_reaches (P := fun s => nth false s.pins.holdN i = false) (Q := fun s => holdLow s i = true) (f := setHold) (a := i) (fun s g low => by rw [setHold_low, low]) ?_ ?_ (List.mem_range.2 hi) low
  · exact fun s low => setHold_falls low hi i (.inl rfl)
  · exact fun s g low down => setHold_falls low hi g (.inr down)

theorem setHolds_rises {s : State} {i : Nat} (free : holdLow s i = false) (passed : s.intake.holdMin.contains i = false) (hi : i < 8) :
    nth false (setHolds s).pins.holdN i = true := by
  unfold setHolds
  refine foldl_reaches (P := fun s => nth false s.pins.holdN i = true) (f := setHold) (a := i)
    (Q := fun s => holdLow s i = false ∧ s.intake.holdMin.contains i = false) ?_ ?_ ?_ (List.mem_range.2 hi) ⟨free, passed⟩
  · exact fun s g ⟨free, passed⟩ => ⟨by rw [setHold_low, free], setHold_over free passed g⟩
  · exact fun s ⟨free, passed⟩ => setHold_rises free passed hi i (.inl rfl)
  · exact fun s g ⟨free, passed⟩ up => setHold_rises free passed hi g (.inr up)

/-! ### The statement, part by part -/

/-- QUE_DONE of a thread with a current command. -/
theorem doneActs (s : State) (t : Fin 2048) (k : Fin 4) (cur : Current) (holds : (thr s t).current = some cur) :
    exec (.release t) s = .next (releaseCmd s t) ∧ exec (.rewind t) s = .next (rewindCmd s t) ∧
      exec (.respond t k) s = .next (respond s t k) ∧ exec (.respondAndRelease t k) s = .next (releaseCmd (respond s t k) t) := by
  refine ⟨?_, ?_, ?_, ?_⟩
  · exact congrArg Host.Outcome.next (queDone_acts (k := 0) holds).1
  · exact congrArg Host.Outcome.next (queDone_acts (k := 0) holds).2.1
  · exact congrArg Host.Outcome.next (queDone_acts (k := k) holds).2.2.1
  · exact congrArg Host.Outcome.next (queDone_acts (k := k) holds).2.2.2

theorem holdNMinLow_acts (s : State) (g : Fin 8) :
    (holdLow s g = false → Completes (.holdNMinLow g) s (fun s' => nth false s'.pins.holdN g = true)) ∧
    (holdLow s g = true → Completes (.holdNMinLow g) s (fun s' => nth false s'.pins.holdN g = false)) := by
  refine ⟨fun free => ⟨_, rfl, setHolds_rises free ?_ g.isLt⟩, fun low => ⟨_, rfl, setHolds_falls low g.isLt⟩⟩
  simp

theorem pfcRefresh_acts (s : State) (p : Fin 2) (prio : Option (Fin 8)) :
    let w := prio.map (fun x => x.val)
    (s.intake.flowOn.contains (p.val, w) = true → Completes (.pfcRefresh p prio) s (fun s' => s' = { s with out := s.out ++ [.flow p w 0xFFFF] })) ∧
    (s.intake.flowOn.contains (p.val, w) = false → Completes (.pfcRefresh p prio) s (fun s' => s' = s)) :=
  ⟨fun on => ⟨_, congrArg Host.Outcome.next (if_pos on), rfl⟩, fun off => ⟨_, congrArg Host.Outcome.next (if_neg (ne_true_of_eq_false off)), rfl⟩⟩

theorem moderation_acts (s : State) (q : Fin 1024) (t : Nat) (waits : (ring s q).oldest = some t) (due : t + 1000 * fldGet s .queMod q 19 8 ≤ s.now) :
    exec (.msixModerationTimer q) s = .next (msixDue s q) := by
  have acts : moderationTimer s q = msixDue s q := by
    unfold moderationTimer
    rw [waits]
    exact if_pos due
  exact congrArg Host.Outcome.next acts

/-- Settles O25: QUE_DONE by its ACT, a response by its route, and the pins and timers. -/
theorem answersAreGiven : Obligations.AnswersAreGiven := by
  unfold Obligations.AnswersAreGiven
  refine ⟨fun s t k => ?_, fun s q r rest head => ?_, fun s q t waits due => ⟨_, moderation_acts s q t waits due, msixDue_acts s q⟩,
    holdNMinLow_acts, pfcRefresh_acts⟩
  · intro p bad
    refine ⟨fun idle => ?_, fun cur holds => ?_⟩
    · have counts : ∀ act k, 1 ≤ act ∧ act ≤ 4 → fldGet (queDone s t act k) .quePstat p 15 0 = min 65535 (fldGet s .quePstat p 15 0 + 1) :=
        fun act k acts => by rw [queDone_idle idle acts, fldGet_bump16 _ _ _ (by decide) rfl]
      exact ⟨⟨_, rfl, counts 1 0 (by decide)⟩, ⟨_, rfl, counts 2 0 (by decide)⟩, ⟨_, rfl, counts 3 k (by decide)⟩,
        ⟨_, rfl, counts 4 k (by decide)⟩⟩
    · obtain ⟨release, rewind, answer, both⟩ := doneActs s t k cur holds
      refine ⟨⟨_, release, releaseCmd_freed holds⟩, fun truncated => ⟨_, rewind, rewindCmd_freed holds truncated⟩,
        fun whole => ⟨_, rewind, rewindCmd_returns holds whole⟩,
        fun wrong => completes_to answer (respond_bad holds wrong) (fldGet_bump16 s _ _ (by decide) rfl),
        fun _ => ⟨_, both, respondRelease_freed holds⟩, fun ⟨len, rcode, room⟩ => ⟨_, answer, ?_, ?_⟩,
        fun ⟨len, rcode, room⟩ => ⟨_, both, ?_, respondRelease_freed holds⟩⟩
      · exact respond_answers holds len rcode room
      · rw [thr_respond, holds]
      · dsimp only
        rw [rq_of_rspq (releaseCmd_rspq _ _)]
        exact respond_answers holds len rcode room
  · refine ⟨fun net closed sound => completes_to rfl (sendHead_closed head net closed sound) ⟨rq_goneHead _ _ _, ?_, rfl⟩,
      fun net opens sound free up => completes_to rfl (sendHead_frame head net opens sound free up) ⟨?_, respCmdH q r, ?_⟩,
      fun smbus sound => ⟨_, rfl, sendHead_smbus head smbus sound⟩,
      fun parity low high up on master fits => completes_to rfl (sendHead_ring head low high up on master fits parity) ?_,
      fun noRing => completes_to rfl (sendHead_parity head noRing) ⟨?_, ?_, ?_⟩⟩
    · exact fldGet_bump16 _ _ _ (by decide) rfl
    · rw [rq_of_rspq (sendFrame_rspq _ _ _ _ _), rq_goneHead]
    · exact sendFrame_out _ _ _ _ _
    · obtain ⟨rspq, prod, tail, out⟩ := ringWrite_acts (goneHead (headRead s q parity) q rest) q { r with poison := parity || r.poison } (parity || r.poison)
      have regs : (headRead s q parity).regs = s.regs := (headRead_frame s q parity).same .regs (by decide)
      have sent : (headRead s q parity).out = s.out := (headRead_frame s q parity).same .out (by decide)
      refine ⟨by rw [rq_of_rspq rspq, rq_goneHead], ?_, tail, ?_⟩
      · rw [prod, ringRecord_length, ← fldGet_of_regs (s' := goneHead (headRead s q parity) q rest) regs]
      · rw [out, ← fldGet_of_regs (s' := goneHead (headRead s q parity) q rest) regs, ← fldGet_of_regs (s' := goneHead (headRead s q parity) q rest) regs, ← sent]
        rfl
    · rw [dropResp_length, rq_goneHead]
    · rw [fldGet_dropResp, ← fldGet_of_regs (s := s) (s' := goneHead (headRead s q true) q rest)
        ((headRead_frame s q true).same .regs (by decide))]
    · rw [(dropResp_frame _ _).same .out (by decide)]
      exact (headRead_frame s q true).same .out (by decide)

end Sys2Proof.Machine
end

section
/-! Crossing queues and telemetry rings (R304 to R308). -/

namespace Sys2Proof.Machine

open Sys2Proof.Claims

/-! ### Crossings (R304, R305) -/

theorem dropTail_prefix (l : List (Word × Bool)) : dropTail l <+: l := by
  rw [dropTail, ← List.reverse_suffix, List.reverse_reverse]
  exact List.dropWhile_suffix _

/-- What is left after the last whole frame ends at the end of a frame. -/
theorem dropTail_ends (l : List (Word × Bool)) : ∀ y ∈ (dropTail l).getLast?, y.2 = true := by
  intro y last
  rw [dropTail, List.getLast?_reverse] at last
  have stops := List.head?_dropWhile_not (fun w : Word × Bool => !w.2) l.reverse
  rw [Option.mem_def.1 last] at stops
  simpa using stops

section

variable {s : State} {x : Nat} {w : Word}

theorem crossPush_takes (room : (tget crossingInit s.xq x).fullFlag = false) (whole : (tget crossingInit s.xq x).frameMarked = false)
    (last : Bool) : crossPush s x w last = { s with xq := tset crossingInit s.xq x { tget crossingInit s.xq x with
      words := (tget crossingInit s.xq x).words ++ [(w, last)]
      fullFlag := decide (Config.laneDepth x ≤ ((tget crossingInit s.xq x).words ++ [(w, last)]).length) } } := by
  unfold crossPush
  dsimp only
  rw [if_neg (by simp [room, whole])]

/-- A word without room marks its frame. -/
theorem crossPush_marks (blocked : (tget crossingInit s.xq x).fullFlag = true ∨ (tget crossingInit s.xq x).frameMarked = true) :
    crossPush s x w false = { s with xq := tset crossingInit s.xq x { tget crossingInit s.xq x with frameMarked := true } } := by
  unfold crossPush
  dsimp only
  rw [if_pos (by simpa using blocked)]
  rfl

/-- A marked frame goes whole at its last word, and is counted. -/
theorem crossPush_drops (blocked : (tget crossingInit s.xq x).fullFlag = true ∨ (tget crossingInit s.xq x).frameMarked = true) :
    crossPush s x w true = { bump s .laneDrop (x / 2) 47 32 1 with
      xq := tset crossingInit s.xq x { tget crossingInit s.xq x with words := dropTail (tget crossingInit s.xq x).words, frameMarked := false } } := by
  unfold crossPush
  dsimp only
  rw [if_pos (by simpa using blocked)]
  rfl

theorem crossPop_gives {y : Word × Bool} {ys : List (Word × Bool)} (words : (tget crossingInit s.xq x).words = y :: ys) :
    crossPop s x = { s with rdata := y.1, xq := tset crossingInit s.xq x { tget crossingInit s.xq x with words := ys, fullFlag := false } } := by
  unfold crossPop
  dsimp only
  rw [words]

theorem crossPop_empty (words : (tget crossingInit s.xq x).words = []) : crossPop s x = s := by
  unfold crossPop
  dsimp only
  rw [words]

end

/-! ### Telemetry (R306 to R308) -/

@[simp] theorem tlm_modTlm (s : State) (j : Nat) (f : TlmQueue → TlmQueue) : tlm (modTlm s j f) j = f (tlm s j) := tget_tmod_self _ _ _

/-- A new item (R306). -/
def newItem (s : State) (j : Nat) (source : Byte) (ws : List Word) (done : Bool) : TlmItem where
  source := source
  words := ws.take 1023
  time := BitVec.ofNat 32 s.now
  gap := (tlm s j).gapp
  poison := false
  torn := false
  done := done

/-- A new item for which there is room stands at the end of its queue. -/
theorem fresh_stored {s : State} {j : Nat} {source : Byte} {ws : List Word} {done : Bool}
    (room : tlmRoom (tlm s j) (tlmLines (newItem s j source ws done)) = true) :
    (tlm (tlmItem.fresh j source ws done s (tlm s j)) j).items = (tlm s j).items ++ [newItem s j source ws done] := by
  unfold tlmItem.fresh
  dsimp only
  rw [if_pos (by exact room), tlm_modTlm]
  rfl

/-- A gap marked leaves the number of items. -/
theorem tlmGap_length (q : TlmQueue) : (tlmGap q).items.length = q.items.length := by
  unfold tlmGap
  split
  · rename_i i rest e
    split
    · rfl
    · dsimp only
      rw [List.length_reverse, List.length_cons, ← List.length_reverse (as := q.items), e, List.length_cons]
  · rfl

/-- A new item without room is dropped, counted, and torn until its end mark. -/
theorem fresh_dropped {s : State} {j : Nat} {source : Byte} {ws : List Word} {done : Bool}
    (full : tlmRoom (tlm s j) (tlmLines (newItem s j source ws done)) = false) :
    (tlm (tlmItem.fresh j source ws done s (tlm s j)) j).items.length = (tlm s j).items.length ∧
      (tlm (tlmItem.fresh j source ws done s (tlm s j)) j).tearing = !done ∧
      fldGet (tlmItem.fresh j source ws done s (tlm s j)) .queTlm j 63 48 = min 65535 (fldGet s .queTlm j 63 48 + 1) := by
  unfold tlmItem.fresh
  dsimp only
  rw [if_neg (by rw [Bool.not_eq_true]; exact full), fldGet_bump16 _ _ _ (by decide) rfl]
  have same : ∀ f, tlm (bump (modTlm s j f) .queTlm j 63 48 1) j = f (tlm s j) := fun f => tlm_modTlm s j f
  rw [same]
  exact ⟨tlmGap_length _, rfl, rfl⟩

section

variable {s : State} {j : Nat} {source : Byte} {ws : List Word} {done : Bool}

/-- Words that join no open item begin a new one. -/
theorem tlmItem_fresh_of (whole : (tlm s j).tearing = false) (closed : ∀ i ∈ (tlm s j).items.getLast?, i.done = true ∨ i.source ≠ source) :
    tlmItem s j source ws done = tlmItem.fresh j source ws done s (tlm s j) := by
  unfold tlmItem
  dsimp only
  rw [if_neg (by simp [whole])]
  split
  · rename_i i rest e
    have last : (tlm s j).items.getLast? = some i := by
      rw [← List.reverse_reverse (tlm s j).items, e, List.getLast?_reverse, List.head?_cons]
    rw [if_neg]
    rintro ⟨undone, same⟩
    rcases closed i last with finished | other
    · simp [finished] at undone
    · exact other same
  · rfl

/-- Room is a matter of which items stand in a queue, not of their order. -/
theorem tlmRoom_reverse (q : TlmQueue) (l : List TlmItem) (n : Nat) : tlmRoom { q with items := l.reverse } n = tlmRoom { q with items := l } n := by
  unfold tlmRoom
  dsimp only
  rw [← List.sum_eq_foldl, ← List.sum_eq_foldl, List.map_reverse, List.sum_reverse]

/-- Words of the open item of their source grow it (R306). -/
theorem tlmItem_grows {l : List TlmItem} {i : TlmItem} (whole : (tlm s j).tearing = false) (items : (tlm s j).items = l ++ [i])
    (isOpen : i.done = false) (same : i.source = source)
    (room : tlmRoom { tlm s j with items := l } (tlmLines { i with words := (i.words ++ ws).take 1023, done := done }) = true) :
    (tlm (tlmItem s j source ws done) j).items = l ++ [{ i with words := (i.words ++ ws).take 1023, done := done }] := by
  have reversed : (tlm s j).items.reverse = i :: l.reverse := by rw [items, List.reverse_append]; rfl
  unfold tlmItem
  dsimp only
  rw [if_neg (by simp [whole]), reversed]
  dsimp only
  rw [if_pos ⟨by simp [isOpen], same⟩, if_pos (by rw [tlmRoom_reverse, room]), tlm_modTlm]
  dsimp only
  rw [List.reverse_cons, List.reverse_reverse]

theorem tlmItem_torn (torn : (tlm s j).tearing = true) : tlmItem s j source ws done = modTlm s j (fun q => { q with tearing := !done }) := by
  unfold tlmItem
  dsimp only
  rw [if_pos torn]

end

/-- The state in which one line of an item has been written to its ring (R308). -/
def lineDrained (s : State) (j : Nat) (i : TlmItem) : State :=
  let prod := fldGet s .queTlm j 31 4
  fldSet (storeAt s none (kcTlmBase s.kc j + 128 * (prod % 2 ^ kcTlmSize s.kc j))
    (bytesDigits (padTo 64 (slice (tlmBytes i) (64 * (tlm s j).drained) 64))) false) .queTlm j 31 4 ((prod + 1) % 2 ^ 28)

section

variable {s : State} {j : Nat} {i : TlmItem} {rest : List TlmItem} {f : TlmQueue → TlmQueue}

/-- A full ring takes no line. -/
theorem tlmDrain_full (items : (tlm s j).items = i :: rest)
    (full : (fldGet s .queTlm j 31 4 + 2 ^ 28 - fldGet s .queTcons j 27 0) % 2 ^ 28 = 2 ^ kcTlmSize s.kc j) (parity : Bool) : tlmDrain s j parity = s := by
  unfold tlmDrain
  dsimp only
  rw [items]
  dsimp only
  rw [if_pos (.inr full)]

theorem tlmDrain_line (items : (tlm s j).items = i :: rest) (done : i.done = true)
    (room : (fldGet s .queTlm j 31 4 + 2 ^ 28 - fldGet s .queTcons j 27 0) % 2 ^ 28 ≠ 2 ^ kcTlmSize s.kc j) :
    tlmDrain s j false = modTlm (lineDrained s j i) j (fun q => if (tlm s j).drained + 1 < ((tlmBytes i).length + 63) / 64
      then { q with items := i :: rest, drained := (tlm s j).drained + 1 } else { q with items := rest, drained := 0 }) := by
  unfold tlmDrain
  dsimp only
  rw [items]
  dsimp only
  rw [if_neg (by rw [done]; exact fun h => h.elim (by decide) room)]
  rfl

theorem lineDrained_mem : (modTlm (lineDrained s j i) j f).mem = (storeAt s none (kcTlmBase s.kc j +
    128 * (fldGet s .queTlm j 31 4 % 2 ^ kcTlmSize s.kc j)) (bytesDigits (padTo 64 (slice (tlmBytes i) (64 * (tlm s j).drained) 64))) false).mem := rfl

theorem fldGet_lineDrained : fldGet (modTlm (lineDrained s j i) j f) .queTlm j 31 4 = (fldGet s .queTlm j 31 4 + 1) % 2 ^ 28 := by
  have same : fldGet (modTlm (lineDrained s j i) j f) .queTlm j 31 4 = fldGet (lineDrained s j i) .queTlm j 31 4 := rfl
  rw [same, lineDrained, fldGet_fldSet _ _ _ _ (by decide)]
  exact Nat.mod_mod _ _

theorem tlm_lineDrained : tlm (modTlm (lineDrained s j i) j f) j = f (tlm s j) := tlm_modTlm _ _ _

end

/-- An item after a flush: it has begun to drain, or it is an open item torn (R307). -/
theorem tlmFlush_items (s : State) (j : Nat) : ∀ i ∈ (tlm (tlmFlush s 0 j) j).items,
    (i ∈ (tlm s j).items.take 1 ∧ 0 < (tlm s j).drained) ∨
      (i.torn = true ∧ i.done = true ∧ ∃ o ∈ (tlm s j).items, o.done = false ∧ i.words = o.words) := by
  intro i left
  have same : ∀ f k, tlm (bump (modTlm s j f) .queTlm j 47 32 k) j = f (tlm s j) := fun f _ => tlm_modTlm s j f
  unfold tlmFlush at left
  rw [if_neg (by decide)] at left
  dsimp only at left
  rw [same] at left
  rcases List.mem_append.1 left with kept | torn
  · left
    split at kept
    · exact ⟨kept, by assumption⟩
    · cases kept
  · right
    obtain ⟨o, was, rfl⟩ := List.mem_map.1 torn
    obtain ⟨dropped, isOpen⟩ := List.mem_filter.1 was
    exact ⟨rfl, rfl, o, List.mem_of_mem_drop dropped, by simpa using isOpen, rfl⟩

/-- Settles O26: a crossing by what stands in it, a telemetry queue by its newest item, its ring and its flush. -/
theorem crossingsAndTelemetry : Obligations.CrossingsAndTelemetry := by
  unfold Obligations.CrossingsAndTelemetry
  refine ⟨fun s x w last => ?_, fun s j source ws done => ?_, fun s j i rest items done => ?_, fun s j => ?_⟩
  · intro c
    refine ⟨fun room whole => completes_to rfl (crossPush_takes room whole last) ?_, fun blocked no => ?_, fun blocked yes => ?_,
      fun y ys words => completes_to rfl (crossPop_gives words) ⟨tget_tset_self _ _ _, rfl⟩,
      fun words => completes_same rfl (crossPop_empty words)⟩
    · dsimp only
      rw [tget_tset_self, List.length_append]
      rfl
    · subst no
      exact completes_to rfl (crossPush_marks blocked) (tget_tset_self _ _ _)
    · subst yes
      refine completes_to rfl (crossPush_drops blocked) ?_
      dsimp only
      rw [tget_tset_self]
      exact ⟨rfl, dropTail_prefix _, dropTail_ends _, fldGet_bump16 s _ _ (by decide) rfl⟩
  · intro q
    refine ⟨fun whole closed => ⟨fun room => completes_to rfl (tlmItem_fresh_of whole closed) (fresh_stored room),
        fun full => completes_to rfl (tlmItem_fresh_of whole closed) (fresh_dropped full)⟩,
      fun l i whole items isOpen same room => ⟨_, rfl, tlmItem_grows whole items isOpen same room⟩,
      fun torn => completes_to rfl (tlmItem_torn torn) (tlm_modTlm _ _ _)⟩
  · intro prod size d
    refine ⟨fun full => completes_same rfl (tlmDrain_full items full false), fun room => completes_to rfl (tlmDrain_line items done room) ?_⟩
    refine ⟨lineDrained_mem, fldGet_lineDrained, ?_⟩
    rw [tlm_lineDrained]
    split
    · exact ⟨rfl, rfl⟩
    · exact ⟨rfl, rfl⟩
  · refine ⟨fun p other => completes_same rfl (if_pos (fun zero => other (Fin.ext zero))), ⟨_, rfl, tlmFlush_items s j⟩,
      fun v => ⟨_, rfl, fldGet_plainWrite s j v (by decide) (by decide)⟩,
      fun p v other => completes_same rfl (if_neg (fun zero => other (Fin.ext zero)))⟩

end Sys2Proof.Machine
end

section
/-! SUPPORT. A part that no function of a path may change reads the same at its end. -/

namespace Sys2Proof.Machine

open Sys2Proof.Claims

theorem now_kept {s t : State}
    (h : [Has (· ≠ .now) .rdata] → [Has (· ≠ .now) .free] → [Has (· ≠ .now) .tally] → [Has (· ≠ .now) .regs] → [Has (· ≠ .now) .mem] →
      [Has (· ≠ .now) .poison] → [Has (· ≠ .now) .threads] → [Has (· ≠ .now) .cyls] → [Has (· ≠ .now) .krs] → [Has (· ≠ .now) .engs] →
      [Has (· ≠ .now) .dmaTlb] → [Has (· ≠ .now) .inval] → [Has (· ≠ .now) .ks] → [Has (· ≠ .now) .guard] → [Has (· ≠ .now) .dma] →
      [Has (· ≠ .now) .dmaLast] → [Has (· ≠ .now) .intake] → [Has (· ≠ .now) .kc] → [Has (· ≠ .now) .kcPrev] → [Has (· ≠ .now) .turns] →
      [Has (· ≠ .now) .srcs] → [Has (· ≠ .now) .arbs] → [Has (· ≠ .now) .doms] → [Has (· ≠ .now) .xq] → [Has (· ≠ .now) .westad] →
      [Has (· ≠ .now) .dbg] → [Has (· ≠ .now) .supply] → [Has (· ≠ .now) .keeper] → [Has (· ≠ .now) .audit] → [Has (· ≠ .now) .faults] →
      [Has (· ≠ .now) .fuses] → [Has (· ≠ .now) .boot] → [Has (· ≠ .now) .req] → [Has (· ≠ .now) .pins] → [Has (· ≠ .now) .seeded] →
      [Has (· ≠ .now) .trngBad] → [Has (· ≠ .now) .ptpGood] → [Has (· ≠ .now) .dramKeys] → [Has (· ≠ .now) .dramLost] →
      [Has (· ≠ .now) .uartIn] → [Has (· ≠ .now) .linkPower] → [Has (· ≠ .now) .out] → Within (· ≠ .now) s t) :
    t.now = s.now :=
  ((@h ⟨by decide⟩ ⟨by decide⟩ ⟨by decide⟩ ⟨by decide⟩ ⟨by decide⟩ ⟨by decide⟩ ⟨by decide⟩ ⟨by decide⟩ ⟨by decide⟩ ⟨by decide⟩ ⟨by decide⟩
    ⟨by decide⟩ ⟨by decide⟩ ⟨by decide⟩ ⟨by decide⟩ ⟨by decide⟩ ⟨by decide⟩ ⟨by decide⟩ ⟨by decide⟩ ⟨by decide⟩ ⟨by decide⟩ ⟨by decide⟩
    ⟨by decide⟩ ⟨by decide⟩ ⟨by decide⟩ ⟨by decide⟩ ⟨by decide⟩ ⟨by decide⟩ ⟨by decide⟩ ⟨by decide⟩ ⟨by decide⟩ ⟨by decide⟩ ⟨by decide⟩
    ⟨by decide⟩ ⟨by decide⟩ ⟨by decide⟩ ⟨by decide⟩ ⟨by decide⟩ ⟨by decide⟩ ⟨by decide⟩ ⟨by decide⟩ ⟨by decide⟩).rest .now).resolve_left (by decide)

theorem regs_kept {s t : State}
    (h : [Has (· ≠ .regs) .rdata] → [Has (· ≠ .regs) .free] → [Has (· ≠ .regs) .now] → [Has (· ≠ .regs) .tally] → [Has (· ≠ .regs) .mem] →
      [Has (· ≠ .regs) .poison] → [Has (· ≠ .regs) .threads] → [Has (· ≠ .regs) .cyls] → [Has (· ≠ .regs) .krs] → [Has (· ≠ .regs) .engs] →
      [Has (· ≠ .regs) .dmaTlb] → [Has (· ≠ .regs) .inval] → [Has (· ≠ .regs) .ks] → [Has (· ≠ .regs) .guard] → [Has (· ≠ .regs) .dma] →
      [Has (· ≠ .regs) .dmaLast] → [Has (· ≠ .regs) .intake] → [Has (· ≠ .regs) .kc] → [Has (· ≠ .regs) .kcPrev] → [Has (· ≠ .regs) .turns] →
      [Has (· ≠ .regs) .srcs] → [Has (· ≠ .regs) .arbs] → [Has (· ≠ .regs) .doms] → [Has (· ≠ .regs) .xq] → [Has (· ≠ .regs) .westad] →
      [Has (· ≠ .regs) .dbg] → [Has (· ≠ .regs) .supply] → [Has (· ≠ .regs) .keeper] → [Has (· ≠ .regs) .audit] → [Has (· ≠ .regs) .faults] →
      [Has (· ≠ .regs) .fuses] → [Has (· ≠ .regs) .boot] → [Has (· ≠ .regs) .req] → [Has (· ≠ .regs) .pins] → [Has (· ≠ .regs) .seeded] →
      [Has (· ≠ .regs) .trngBad] → [Has (· ≠ .regs) .ptpGood] → [Has (· ≠ .regs) .dramKeys] → [Has (· ≠ .regs) .dramLost] →
      [Has (· ≠ .regs) .uartIn] → [Has (· ≠ .regs) .linkPower] → [Has (· ≠ .regs) .out] → Within (· ≠ .regs) s t) :
    t.regs = s.regs :=
  ((@h ⟨by decide⟩ ⟨by decide⟩ ⟨by decide⟩ ⟨by decide⟩ ⟨by decide⟩ ⟨by decide⟩ ⟨by decide⟩ ⟨by decide⟩ ⟨by decide⟩ ⟨by decide⟩ ⟨by decide⟩
    ⟨by decide⟩ ⟨by decide⟩ ⟨by decide⟩ ⟨by decide⟩ ⟨by decide⟩ ⟨by decide⟩ ⟨by decide⟩ ⟨by decide⟩ ⟨by decide⟩ ⟨by decide⟩ ⟨by decide⟩
    ⟨by decide⟩ ⟨by decide⟩ ⟨by decide⟩ ⟨by decide⟩ ⟨by decide⟩ ⟨by decide⟩ ⟨by decide⟩ ⟨by decide⟩ ⟨by decide⟩ ⟨by decide⟩ ⟨by decide⟩
    ⟨by decide⟩ ⟨by decide⟩ ⟨by decide⟩ ⟨by decide⟩ ⟨by decide⟩ ⟨by decide⟩ ⟨by decide⟩ ⟨by decide⟩ ⟨by decide⟩).rest .regs).resolve_left (by decide)

theorem turns_kept {s t : State}
    (h : [Has (· ≠ .turns) .rdata] → [Has (· ≠ .turns) .free] → [Has (· ≠ .turns) .now] → [Has (· ≠ .turns) .tally] → [Has (· ≠ .turns) .regs] →
      [Has (· ≠ .turns) .mem] → [Has (· ≠ .turns) .poison] → [Has (· ≠ .turns) .threads] → [Has (· ≠ .turns) .cyls] → [Has (· ≠ .turns) .krs] →
      [Has (· ≠ .turns) .engs] → [Has (· ≠ .turns) .dmaTlb] → [Has (· ≠ .turns) .inval] → [Has (· ≠ .turns) .ks] → [Has (· ≠ .turns) .guard] →
      [Has (· ≠ .turns) .dma] → [Has (· ≠ .turns) .dmaLast] → [Has (· ≠ .turns) .intake] → [Has (· ≠ .turns) .kc] → [Has (· ≠ .turns) .kcPrev] →
      [Has (· ≠ .turns) .srcs] → [Has (· ≠ .turns) .arbs] → [Has (· ≠ .turns) .doms] → [Has (· ≠ .turns) .xq] → [Has (· ≠ .turns) .westad] →
      [Has (· ≠ .turns) .dbg] → [Has (· ≠ .turns) .supply] → [Has (· ≠ .turns) .keeper] → [Has (· ≠ .turns) .audit] →
      [Has (· ≠ .turns) .faults] → [Has (· ≠ .turns) .fuses] → [Has (· ≠ .turns) .boot] → [Has (· ≠ .turns) .req] → [Has (· ≠ .turns) .pins] →
      [Has (· ≠ .turns) .seeded] → [Has (· ≠ .turns) .trngBad] → [Has (· ≠ .turns) .ptpGood] → [Has (· ≠ .turns) .dramKeys] →
      [Has (· ≠ .turns) .dramLost] → [Has (· ≠ .turns) .uartIn] → [Has (· ≠ .turns) .linkPower] → [Has (· ≠ .turns) .out] → Within (· ≠ .turns) s t) :
    t.turns = s.turns :=
  ((@h ⟨by decide⟩ ⟨by decide⟩ ⟨by decide⟩ ⟨by decide⟩ ⟨by decide⟩ ⟨by decide⟩ ⟨by decide⟩ ⟨by decide⟩ ⟨by decide⟩ ⟨by decide⟩ ⟨by decide⟩
    ⟨by decide⟩ ⟨by decide⟩ ⟨by decide⟩ ⟨by decide⟩ ⟨by decide⟩ ⟨by decide⟩ ⟨by decide⟩ ⟨by decide⟩ ⟨by decide⟩ ⟨by decide⟩ ⟨by decide⟩
    ⟨by decide⟩ ⟨by decide⟩ ⟨by decide⟩ ⟨by decide⟩ ⟨by decide⟩ ⟨by decide⟩ ⟨by decide⟩ ⟨by decide⟩ ⟨by decide⟩ ⟨by decide⟩ ⟨by decide⟩
    ⟨by decide⟩ ⟨by decide⟩ ⟨by decide⟩ ⟨by decide⟩ ⟨by decide⟩ ⟨by decide⟩ ⟨by decide⟩ ⟨by decide⟩ ⟨by decide⟩).rest .turns).resolve_left (by decide)

theorem supply_kept {s t : State}
    (h : [Has (· ≠ .supply) .rdata] → [Has (· ≠ .supply) .free] → [Has (· ≠ .supply) .now] → [Has (· ≠ .supply) .tally] →
      [Has (· ≠ .supply) .regs] → [Has (· ≠ .supply) .mem] → [Has (· ≠ .supply) .poison] → [Has (· ≠ .supply) .threads] →
      [Has (· ≠ .supply) .cyls] → [Has (· ≠ .supply) .krs] → [Has (· ≠ .supply) .engs] → [Has (· ≠ .supply) .dmaTlb] →
      [Has (· ≠ .supply) .inval] → [Has (· ≠ .supply) .ks] → [Has (· ≠ .supply) .guard] → [Has (· ≠ .supply) .dma] →
      [Has (· ≠ .supply) .dmaLast] → [Has (· ≠ .supply) .intake] → [Has (· ≠ .supply) .kc] → [Has (· ≠ .supply) .kcPrev] →
      [Has (· ≠ .supply) .turns] → [Has (· ≠ .supply) .srcs] → [Has (· ≠ .supply) .arbs] → [Has (· ≠ .supply) .doms] → [Has (· ≠ .supply) .xq] →
      [Has (· ≠ .supply) .westad] → [Has (· ≠ .supply) .dbg] → [Has (· ≠ .supply) .keeper] → [Has (· ≠ .supply) .audit] →
      [Has (· ≠ .supply) .faults] → [Has (· ≠ .supply) .fuses] → [Has (· ≠ .supply) .boot] → [Has (· ≠ .supply) .req] →
      [Has (· ≠ .supply) .pins] → [Has (· ≠ .supply) .seeded] → [Has (· ≠ .supply) .trngBad] → [Has (· ≠ .supply) .ptpGood] →
      [Has (· ≠ .supply) .dramKeys] → [Has (· ≠ .supply) .dramLost] → [Has (· ≠ .supply) .uartIn] → [Has (· ≠ .supply) .linkPower] →
      [Has (· ≠ .supply) .out] → Within (· ≠ .supply) s t) :
    t.supply = s.supply :=
  ((@h ⟨by decide⟩ ⟨by decide⟩ ⟨by decide⟩ ⟨by decide⟩ ⟨by decide⟩ ⟨by decide⟩ ⟨by decide⟩ ⟨by decide⟩ ⟨by decide⟩ ⟨by decide⟩ ⟨by decide⟩
    ⟨by decide⟩ ⟨by decide⟩ ⟨by decide⟩ ⟨by decide⟩ ⟨by decide⟩ ⟨by decide⟩ ⟨by decide⟩ ⟨by decide⟩ ⟨by decide⟩ ⟨by decide⟩ ⟨by decide⟩
    ⟨by decide⟩ ⟨by decide⟩ ⟨by decide⟩ ⟨by decide⟩ ⟨by decide⟩ ⟨by decide⟩ ⟨by decide⟩ ⟨by decide⟩ ⟨by decide⟩ ⟨by decide⟩ ⟨by decide⟩
    ⟨by decide⟩ ⟨by decide⟩ ⟨by decide⟩ ⟨by decide⟩ ⟨by decide⟩ ⟨by decide⟩ ⟨by decide⟩ ⟨by decide⟩ ⟨by decide⟩).rest .supply).resolve_left (by decide)

theorem audit_kept {s t : State}
    (h : [Has (· ≠ .audit) .rdata] → [Has (· ≠ .audit) .free] → [Has (· ≠ .audit) .now] → [Has (· ≠ .audit) .tally] → [Has (· ≠ .audit) .regs] →
      [Has (· ≠ .audit) .mem] → [Has (· ≠ .audit) .poison] → [Has (· ≠ .audit) .threads] → [Has (· ≠ .audit) .cyls] → [Has (· ≠ .audit) .krs] →
      [Has (· ≠ .audit) .engs] → [Has (· ≠ .audit) .dmaTlb] → [Has (· ≠ .audit) .inval] → [Has (· ≠ .audit) .ks] → [Has (· ≠ .audit) .guard] →
      [Has (· ≠ .audit) .dma] → [Has (· ≠ .audit) .dmaLast] → [Has (· ≠ .audit) .intake] → [Has (· ≠ .audit) .kc] → [Has (· ≠ .audit) .kcPrev] →
      [Has (· ≠ .audit) .turns] → [Has (· ≠ .audit) .srcs] → [Has (· ≠ .audit) .arbs] → [Has (· ≠ .audit) .doms] → [Has (· ≠ .audit) .xq] →
      [Has (· ≠ .audit) .westad] → [Has (· ≠ .audit) .dbg] → [Has (· ≠ .audit) .supply] → [Has (· ≠ .audit) .keeper] →
      [Has (· ≠ .audit) .faults] → [Has (· ≠ .audit) .fuses] → [Has (· ≠ .audit) .boot] → [Has (· ≠ .audit) .req] → [Has (· ≠ .audit) .pins] →
      [Has (· ≠ .audit) .seeded] → [Has (· ≠ .audit) .trngBad] → [Has (· ≠ .audit) .ptpGood] → [Has (· ≠ .audit) .dramKeys] →
      [Has (· ≠ .audit) .dramLost] → [Has (· ≠ .audit) .uartIn] → [Has (· ≠ .audit) .linkPower] → [Has (· ≠ .audit) .out] → Within (· ≠ .audit) s t) :
    t.audit = s.audit :=
  ((@h ⟨by decide⟩ ⟨by decide⟩ ⟨by decide⟩ ⟨by decide⟩ ⟨by decide⟩ ⟨by decide⟩ ⟨by decide⟩ ⟨by decide⟩ ⟨by decide⟩ ⟨by decide⟩ ⟨by decide⟩
    ⟨by decide⟩ ⟨by decide⟩ ⟨by decide⟩ ⟨by decide⟩ ⟨by decide⟩ ⟨by decide⟩ ⟨by decide⟩ ⟨by decide⟩ ⟨by decide⟩ ⟨by decide⟩ ⟨by decide⟩
    ⟨by decide⟩ ⟨by decide⟩ ⟨by decide⟩ ⟨by decide⟩ ⟨by decide⟩ ⟨by decide⟩ ⟨by decide⟩ ⟨by decide⟩ ⟨by decide⟩ ⟨by decide⟩ ⟨by decide⟩
    ⟨by decide⟩ ⟨by decide⟩ ⟨by decide⟩ ⟨by decide⟩ ⟨by decide⟩ ⟨by decide⟩ ⟨by decide⟩ ⟨by decide⟩ ⟨by decide⟩).rest .audit).resolve_left (by decide)

theorem faults_kept {s t : State}
    (h : [Has (· ≠ .faults) .rdata] → [Has (· ≠ .faults) .free] → [Has (· ≠ .faults) .now] → [Has (· ≠ .faults) .tally] →
      [Has (· ≠ .faults) .regs] → [Has (· ≠ .faults) .mem] → [Has (· ≠ .faults) .poison] → [Has (· ≠ .faults) .threads] →
      [Has (· ≠ .faults) .cyls] → [Has (· ≠ .faults) .krs] → [Has (· ≠ .faults) .engs] → [Has (· ≠ .faults) .dmaTlb] →
      [Has (· ≠ .faults) .inval] → [Has (· ≠ .faults) .ks] → [Has (· ≠ .faults) .guard] → [Has (· ≠ .faults) .dma] →
      [Has (· ≠ .faults) .dmaLast] → [Has (· ≠ .faults) .intake] → [Has (· ≠ .faults) .kc] → [Has (· ≠ .faults) .kcPrev] →
      [Has (· ≠ .faults) .turns] → [Has (· ≠ .faults) .srcs] → [Has (· ≠ .faults) .arbs] → [Has (· ≠ .faults) .doms] → [Has (· ≠ .faults) .xq] →
      [Has (· ≠ .faults) .westad] → [Has (· ≠ .faults) .dbg] → [Has (· ≠ .faults) .supply] → [Has (· ≠ .faults) .keeper] →
      [Has (· ≠ .faults) .audit] → [Has (· ≠ .faults) .fuses] → [Has (· ≠ .faults) .boot] → [Has (· ≠ .faults) .req] →
      [Has (· ≠ .faults) .pins] → [Has (· ≠ .faults) .seeded] → [Has (· ≠ .faults) .trngBad] → [Has (· ≠ .faults) .ptpGood] →
      [Has (· ≠ .faults) .dramKeys] → [Has (· ≠ .faults) .dramLost] → [Has (· ≠ .faults) .uartIn] → [Has (· ≠ .faults) .linkPower] →
      [Has (· ≠ .faults) .out] → Within (· ≠ .faults) s t) :
    t.faults = s.faults :=
  ((@h ⟨by decide⟩ ⟨by decide⟩ ⟨by decide⟩ ⟨by decide⟩ ⟨by decide⟩ ⟨by decide⟩ ⟨by decide⟩ ⟨by decide⟩ ⟨by decide⟩ ⟨by decide⟩ ⟨by decide⟩
    ⟨by decide⟩ ⟨by decide⟩ ⟨by decide⟩ ⟨by decide⟩ ⟨by decide⟩ ⟨by decide⟩ ⟨by decide⟩ ⟨by decide⟩ ⟨by decide⟩ ⟨by decide⟩ ⟨by decide⟩
    ⟨by decide⟩ ⟨by decide⟩ ⟨by decide⟩ ⟨by decide⟩ ⟨by decide⟩ ⟨by decide⟩ ⟨by decide⟩ ⟨by decide⟩ ⟨by decide⟩ ⟨by decide⟩ ⟨by decide⟩
    ⟨by decide⟩ ⟨by decide⟩ ⟨by decide⟩ ⟨by decide⟩ ⟨by decide⟩ ⟨by decide⟩ ⟨by decide⟩ ⟨by decide⟩ ⟨by decide⟩).rest .faults).resolve_left (by decide)

theorem kc_kept {s t : State}
    (h : [Has (· ≠ .kc) .rdata] → [Has (· ≠ .kc) .free] → [Has (· ≠ .kc) .now] → [Has (· ≠ .kc) .tally] → [Has (· ≠ .kc) .regs] →
      [Has (· ≠ .kc) .mem] → [Has (· ≠ .kc) .poison] → [Has (· ≠ .kc) .threads] → [Has (· ≠ .kc) .cyls] → [Has (· ≠ .kc) .krs] →
      [Has (· ≠ .kc) .engs] → [Has (· ≠ .kc) .dmaTlb] → [Has (· ≠ .kc) .inval] → [Has (· ≠ .kc) .ks] → [Has (· ≠ .kc) .guard] →
      [Has (· ≠ .kc) .dma] → [Has (· ≠ .kc) .dmaLast] → [Has (· ≠ .kc) .intake] → [Has (· ≠ .kc) .kcPrev] → [Has (· ≠ .kc) .turns] →
      [Has (· ≠ .kc) .srcs] → [Has (· ≠ .kc) .arbs] → [Has (· ≠ .kc) .doms] → [Has (· ≠ .kc) .xq] → [Has (· ≠ .kc) .westad] →
      [Has (· ≠ .kc) .dbg] → [Has (· ≠ .kc) .supply] → [Has (· ≠ .kc) .keeper] → [Has (· ≠ .kc) .audit] → [Has (· ≠ .kc) .faults] →
      [Has (· ≠ .kc) .fuses] → [Has (· ≠ .kc) .boot] → [Has (· ≠ .kc) .req] → [Has (· ≠ .kc) .pins] → [Has (· ≠ .kc) .seeded] →
      [Has (· ≠ .kc) .trngBad] → [Has (· ≠ .kc) .ptpGood] → [Has (· ≠ .kc) .dramKeys] → [Has (· ≠ .kc) .dramLost] → [Has (· ≠ .kc) .uartIn] →
      [Has (· ≠ .kc) .linkPower] → [Has (· ≠ .kc) .out] → Within (· ≠ .kc) s t) :
    t.kc = s.kc :=
  ((@h ⟨by decide⟩ ⟨by decide⟩ ⟨by decide⟩ ⟨by decide⟩ ⟨by decide⟩ ⟨by decide⟩ ⟨by decide⟩ ⟨by decide⟩ ⟨by decide⟩ ⟨by decide⟩ ⟨by decide⟩
    ⟨by decide⟩ ⟨by decide⟩ ⟨by decide⟩ ⟨by decide⟩ ⟨by decide⟩ ⟨by decide⟩ ⟨by decide⟩ ⟨by decide⟩ ⟨by decide⟩ ⟨by decide⟩ ⟨by decide⟩
    ⟨by decide⟩ ⟨by decide⟩ ⟨by decide⟩ ⟨by decide⟩ ⟨by decide⟩ ⟨by decide⟩ ⟨by decide⟩ ⟨by decide⟩ ⟨by decide⟩ ⟨by decide⟩ ⟨by decide⟩
    ⟨by decide⟩ ⟨by decide⟩ ⟨by decide⟩ ⟨by decide⟩ ⟨by decide⟩ ⟨by decide⟩ ⟨by decide⟩ ⟨by decide⟩ ⟨by decide⟩).rest .kc).resolve_left (by decide)

theorem kcPrev_kept {s t : State}
    (h : [Has (· ≠ .kcPrev) .rdata] → [Has (· ≠ .kcPrev) .free] → [Has (· ≠ .kcPrev) .now] → [Has (· ≠ .kcPrev) .tally] →
      [Has (· ≠ .kcPrev) .regs] → [Has (· ≠ .kcPrev) .mem] → [Has (· ≠ .kcPrev) .poison] → [Has (· ≠ .kcPrev) .threads] →
      [Has (· ≠ .kcPrev) .cyls] → [Has (· ≠ .kcPrev) .krs] → [Has (· ≠ .kcPrev) .engs] → [Has (· ≠ .kcPrev) .dmaTlb] →
      [Has (· ≠ .kcPrev) .inval] → [Has (· ≠ .kcPrev) .ks] → [Has (· ≠ .kcPrev) .guard] → [Has (· ≠ .kcPrev) .dma] →
      [Has (· ≠ .kcPrev) .dmaLast] → [Has (· ≠ .kcPrev) .intake] → [Has (· ≠ .kcPrev) .kc] → [Has (· ≠ .kcPrev) .turns] →
      [Has (· ≠ .kcPrev) .srcs] → [Has (· ≠ .kcPrev) .arbs] → [Has (· ≠ .kcPrev) .doms] → [Has (· ≠ .kcPrev) .xq] →
      [Has (· ≠ .kcPrev) .westad] → [Has (· ≠ .kcPrev) .dbg] → [Has (· ≠ .kcPrev) .supply] → [Has (· ≠ .kcPrev) .keeper] →
      [Has (· ≠ .kcPrev) .audit] → [Has (· ≠ .kcPrev) .faults] → [Has (· ≠ .kcPrev) .fuses] → [Has (· ≠ .kcPrev) .boot] →
      [Has (· ≠ .kcPrev) .req] → [Has (· ≠ .kcPrev) .pins] → [Has (· ≠ .kcPrev) .seeded] → [Has (· ≠ .kcPrev) .trngBad] →
      [Has (· ≠ .kcPrev) .ptpGood] → [Has (· ≠ .kcPrev) .dramKeys] → [Has (· ≠ .kcPrev) .dramLost] → [Has (· ≠ .kcPrev) .uartIn] →
      [Has (· ≠ .kcPrev) .linkPower] → [Has (· ≠ .kcPrev) .out] → Within (· ≠ .kcPrev) s t) :
    t.kcPrev = s.kcPrev :=
  ((@h ⟨by decide⟩ ⟨by decide⟩ ⟨by decide⟩ ⟨by decide⟩ ⟨by decide⟩ ⟨by decide⟩ ⟨by decide⟩ ⟨by decide⟩ ⟨by decide⟩ ⟨by decide⟩ ⟨by decide⟩
    ⟨by decide⟩ ⟨by decide⟩ ⟨by decide⟩ ⟨by decide⟩ ⟨by decide⟩ ⟨by decide⟩ ⟨by decide⟩ ⟨by decide⟩ ⟨by decide⟩ ⟨by decide⟩ ⟨by decide⟩
    ⟨by decide⟩ ⟨by decide⟩ ⟨by decide⟩ ⟨by decide⟩ ⟨by decide⟩ ⟨by decide⟩ ⟨by decide⟩ ⟨by decide⟩ ⟨by decide⟩ ⟨by decide⟩ ⟨by decide⟩
    ⟨by decide⟩ ⟨by decide⟩ ⟨by decide⟩ ⟨by decide⟩ ⟨by decide⟩ ⟨by decide⟩ ⟨by decide⟩ ⟨by decide⟩ ⟨by decide⟩).rest .kcPrev).resolve_left (by decide)

theorem rdata_kept {s t : State}
    (h : [Has (· ≠ .rdata) .free] → [Has (· ≠ .rdata) .now] → [Has (· ≠ .rdata) .tally] → [Has (· ≠ .rdata) .regs] → [Has (· ≠ .rdata) .mem] →
      [Has (· ≠ .rdata) .poison] → [Has (· ≠ .rdata) .threads] → [Has (· ≠ .rdata) .cyls] → [Has (· ≠ .rdata) .krs] → [Has (· ≠ .rdata) .engs] →
      [Has (· ≠ .rdata) .dmaTlb] → [Has (· ≠ .rdata) .inval] → [Has (· ≠ .rdata) .ks] → [Has (· ≠ .rdata) .guard] → [Has (· ≠ .rdata) .dma] →
      [Has (· ≠ .rdata) .dmaLast] → [Has (· ≠ .rdata) .intake] → [Has (· ≠ .rdata) .kc] → [Has (· ≠ .rdata) .kcPrev] →
      [Has (· ≠ .rdata) .turns] → [Has (· ≠ .rdata) .srcs] → [Has (· ≠ .rdata) .arbs] → [Has (· ≠ .rdata) .doms] → [Has (· ≠ .rdata) .xq] →
      [Has (· ≠ .rdata) .westad] → [Has (· ≠ .rdata) .dbg] → [Has (· ≠ .rdata) .supply] → [Has (· ≠ .rdata) .keeper] →
      [Has (· ≠ .rdata) .audit] → [Has (· ≠ .rdata) .faults] → [Has (· ≠ .rdata) .fuses] → [Has (· ≠ .rdata) .boot] → [Has (· ≠ .rdata) .req] →
      [Has (· ≠ .rdata) .pins] → [Has (· ≠ .rdata) .seeded] → [Has (· ≠ .rdata) .trngBad] → [Has (· ≠ .rdata) .ptpGood] →
      [Has (· ≠ .rdata) .dramKeys] → [Has (· ≠ .rdata) .dramLost] → [Has (· ≠ .rdata) .uartIn] → [Has (· ≠ .rdata) .linkPower] →
      [Has (· ≠ .rdata) .out] → Within (· ≠ .rdata) s t) :
    t.rdata = s.rdata :=
  ((@h ⟨by decide⟩ ⟨by decide⟩ ⟨by decide⟩ ⟨by decide⟩ ⟨by decide⟩ ⟨by decide⟩ ⟨by decide⟩ ⟨by decide⟩ ⟨by decide⟩ ⟨by decide⟩ ⟨by decide⟩
    ⟨by decide⟩ ⟨by decide⟩ ⟨by decide⟩ ⟨by decide⟩ ⟨by decide⟩ ⟨by decide⟩ ⟨by decide⟩ ⟨by decide⟩ ⟨by decide⟩ ⟨by decide⟩ ⟨by decide⟩
    ⟨by decide⟩ ⟨by decide⟩ ⟨by decide⟩ ⟨by decide⟩ ⟨by decide⟩ ⟨by decide⟩ ⟨by decide⟩ ⟨by decide⟩ ⟨by decide⟩ ⟨by decide⟩ ⟨by decide⟩
    ⟨by decide⟩ ⟨by decide⟩ ⟨by decide⟩ ⟨by decide⟩ ⟨by decide⟩ ⟨by decide⟩ ⟨by decide⟩ ⟨by decide⟩ ⟨by decide⟩).rest .rdata).resolve_left (by decide)

theorem uartIn_kept {s t : State}
    (h : [Has (· ≠ .uartIn) .rdata] → [Has (· ≠ .uartIn) .free] → [Has (· ≠ .uartIn) .now] → [Has (· ≠ .uartIn) .tally] →
      [Has (· ≠ .uartIn) .regs] → [Has (· ≠ .uartIn) .mem] → [Has (· ≠ .uartIn) .poison] → [Has (· ≠ .uartIn) .threads] →
      [Has (· ≠ .uartIn) .cyls] → [Has (· ≠ .uartIn) .krs] → [Has (· ≠ .uartIn) .engs] → [Has (· ≠ .uartIn) .dmaTlb] →
      [Has (· ≠ .uartIn) .inval] → [Has (· ≠ .uartIn) .ks] → [Has (· ≠ .uartIn) .guard] → [Has (· ≠ .uartIn) .dma] →
      [Has (· ≠ .uartIn) .dmaLast] → [Has (· ≠ .uartIn) .intake] → [Has (· ≠ .uartIn) .kc] → [Has (· ≠ .uartIn) .kcPrev] →
      [Has (· ≠ .uartIn) .turns] → [Has (· ≠ .uartIn) .srcs] → [Has (· ≠ .uartIn) .arbs] → [Has (· ≠ .uartIn) .doms] → [Has (· ≠ .uartIn) .xq] →
      [Has (· ≠ .uartIn) .westad] → [Has (· ≠ .uartIn) .dbg] → [Has (· ≠ .uartIn) .supply] → [Has (· ≠ .uartIn) .keeper] →
      [Has (· ≠ .uartIn) .audit] → [Has (· ≠ .uartIn) .faults] → [Has (· ≠ .uartIn) .fuses] → [Has (· ≠ .uartIn) .boot] →
      [Has (· ≠ .uartIn) .req] → [Has (· ≠ .uartIn) .pins] → [Has (· ≠ .uartIn) .seeded] → [Has (· ≠ .uartIn) .trngBad] →
      [Has (· ≠ .uartIn) .ptpGood] → [Has (· ≠ .uartIn) .dramKeys] → [Has (· ≠ .uartIn) .dramLost] → [Has (· ≠ .uartIn) .linkPower] →
      [Has (· ≠ .uartIn) .out] → Within (· ≠ .uartIn) s t) :
    t.uartIn = s.uartIn :=
  ((@h ⟨by decide⟩ ⟨by decide⟩ ⟨by decide⟩ ⟨by decide⟩ ⟨by decide⟩ ⟨by decide⟩ ⟨by decide⟩ ⟨by decide⟩ ⟨by decide⟩ ⟨by decide⟩ ⟨by decide⟩
    ⟨by decide⟩ ⟨by decide⟩ ⟨by decide⟩ ⟨by decide⟩ ⟨by decide⟩ ⟨by decide⟩ ⟨by decide⟩ ⟨by decide⟩ ⟨by decide⟩ ⟨by decide⟩ ⟨by decide⟩
    ⟨by decide⟩ ⟨by decide⟩ ⟨by decide⟩ ⟨by decide⟩ ⟨by decide⟩ ⟨by decide⟩ ⟨by decide⟩ ⟨by decide⟩ ⟨by decide⟩ ⟨by decide⟩ ⟨by decide⟩
    ⟨by decide⟩ ⟨by decide⟩ ⟨by decide⟩ ⟨by decide⟩ ⟨by decide⟩ ⟨by decide⟩ ⟨by decide⟩ ⟨by decide⟩ ⟨by decide⟩).rest .uartIn).resolve_left (by decide)

theorem boot_kept {s t : State}
    (h : [Has (· ≠ .boot) .rdata] → [Has (· ≠ .boot) .free] → [Has (· ≠ .boot) .now] → [Has (· ≠ .boot) .tally] → [Has (· ≠ .boot) .regs] →
      [Has (· ≠ .boot) .mem] → [Has (· ≠ .boot) .poison] → [Has (· ≠ .boot) .threads] → [Has (· ≠ .boot) .cyls] → [Has (· ≠ .boot) .krs] →
      [Has (· ≠ .boot) .engs] → [Has (· ≠ .boot) .dmaTlb] → [Has (· ≠ .boot) .inval] → [Has (· ≠ .boot) .ks] → [Has (· ≠ .boot) .guard] →
      [Has (· ≠ .boot) .dma] → [Has (· ≠ .boot) .dmaLast] → [Has (· ≠ .boot) .intake] → [Has (· ≠ .boot) .kc] → [Has (· ≠ .boot) .kcPrev] →
      [Has (· ≠ .boot) .turns] → [Has (· ≠ .boot) .srcs] → [Has (· ≠ .boot) .arbs] → [Has (· ≠ .boot) .doms] → [Has (· ≠ .boot) .xq] →
      [Has (· ≠ .boot) .westad] → [Has (· ≠ .boot) .dbg] → [Has (· ≠ .boot) .supply] → [Has (· ≠ .boot) .keeper] → [Has (· ≠ .boot) .audit] →
      [Has (· ≠ .boot) .faults] → [Has (· ≠ .boot) .fuses] → [Has (· ≠ .boot) .req] → [Has (· ≠ .boot) .pins] → [Has (· ≠ .boot) .seeded] →
      [Has (· ≠ .boot) .trngBad] → [Has (· ≠ .boot) .ptpGood] → [Has (· ≠ .boot) .dramKeys] → [Has (· ≠ .boot) .dramLost] →
      [Has (· ≠ .boot) .uartIn] → [Has (· ≠ .boot) .linkPower] → [Has (· ≠ .boot) .out] → Within (· ≠ .boot) s t) :
    t.boot = s.boot :=
  ((@h ⟨by decide⟩ ⟨by decide⟩ ⟨by decide⟩ ⟨by decide⟩ ⟨by decide⟩ ⟨by decide⟩ ⟨by decide⟩ ⟨by decide⟩ ⟨by decide⟩ ⟨by decide⟩ ⟨by decide⟩
    ⟨by decide⟩ ⟨by decide⟩ ⟨by decide⟩ ⟨by decide⟩ ⟨by decide⟩ ⟨by decide⟩ ⟨by decide⟩ ⟨by decide⟩ ⟨by decide⟩ ⟨by decide⟩ ⟨by decide⟩
    ⟨by decide⟩ ⟨by decide⟩ ⟨by decide⟩ ⟨by decide⟩ ⟨by decide⟩ ⟨by decide⟩ ⟨by decide⟩ ⟨by decide⟩ ⟨by decide⟩ ⟨by decide⟩ ⟨by decide⟩
    ⟨by decide⟩ ⟨by decide⟩ ⟨by decide⟩ ⟨by decide⟩ ⟨by decide⟩ ⟨by decide⟩ ⟨by decide⟩ ⟨by decide⟩ ⟨by decide⟩).rest .boot).resolve_left (by decide)

theorem westad_kept {s t : State}
    (h : [Has (· ≠ .westad) .rdata] → [Has (· ≠ .westad) .free] → [Has (· ≠ .westad) .now] → [Has (· ≠ .westad) .tally] →
      [Has (· ≠ .westad) .regs] → [Has (· ≠ .westad) .mem] → [Has (· ≠ .westad) .poison] → [Has (· ≠ .westad) .threads] →
      [Has (· ≠ .westad) .cyls] → [Has (· ≠ .westad) .krs] → [Has (· ≠ .westad) .engs] → [Has (· ≠ .westad) .dmaTlb] →
      [Has (· ≠ .westad) .inval] → [Has (· ≠ .westad) .ks] → [Has (· ≠ .westad) .guard] → [Has (· ≠ .westad) .dma] →
      [Has (· ≠ .westad) .dmaLast] → [Has (· ≠ .westad) .intake] → [Has (· ≠ .westad) .kc] → [Has (· ≠ .westad) .kcPrev] →
      [Has (· ≠ .westad) .turns] → [Has (· ≠ .westad) .srcs] → [Has (· ≠ .westad) .arbs] → [Has (· ≠ .westad) .doms] → [Has (· ≠ .westad) .xq] →
      [Has (· ≠ .westad) .dbg] → [Has (· ≠ .westad) .supply] → [Has (· ≠ .westad) .keeper] → [Has (· ≠ .westad) .audit] →
      [Has (· ≠ .westad) .faults] → [Has (· ≠ .westad) .fuses] → [Has (· ≠ .westad) .boot] → [Has (· ≠ .westad) .req] →
      [Has (· ≠ .westad) .pins] → [Has (· ≠ .westad) .seeded] → [Has (· ≠ .westad) .trngBad] → [Has (· ≠ .westad) .ptpGood] →
      [Has (· ≠ .westad) .dramKeys] → [Has (· ≠ .westad) .dramLost] → [Has (· ≠ .westad) .uartIn] → [Has (· ≠ .westad) .linkPower] →
      [Has (· ≠ .westad) .out] → Within (· ≠ .westad) s t) :
    t.westad = s.westad :=
  ((@h ⟨by decide⟩ ⟨by decide⟩ ⟨by decide⟩ ⟨by decide⟩ ⟨by decide⟩ ⟨by decide⟩ ⟨by decide⟩ ⟨by decide⟩ ⟨by decide⟩ ⟨by decide⟩ ⟨by decide⟩
    ⟨by decide⟩ ⟨by decide⟩ ⟨by decide⟩ ⟨by decide⟩ ⟨by decide⟩ ⟨by decide⟩ ⟨by decide⟩ ⟨by decide⟩ ⟨by decide⟩ ⟨by decide⟩ ⟨by decide⟩
    ⟨by decide⟩ ⟨by decide⟩ ⟨by decide⟩ ⟨by decide⟩ ⟨by decide⟩ ⟨by decide⟩ ⟨by decide⟩ ⟨by decide⟩ ⟨by decide⟩ ⟨by decide⟩ ⟨by decide⟩
    ⟨by decide⟩ ⟨by decide⟩ ⟨by decide⟩ ⟨by decide⟩ ⟨by decide⟩ ⟨by decide⟩ ⟨by decide⟩ ⟨by decide⟩ ⟨by decide⟩).rest .westad).resolve_left (by decide)

theorem ks_kept {s t : State}
    (h : [Has (· ≠ .ks) .rdata] → [Has (· ≠ .ks) .free] → [Has (· ≠ .ks) .now] → [Has (· ≠ .ks) .tally] → [Has (· ≠ .ks) .regs] →
      [Has (· ≠ .ks) .mem] → [Has (· ≠ .ks) .poison] → [Has (· ≠ .ks) .threads] → [Has (· ≠ .ks) .cyls] → [Has (· ≠ .ks) .krs] →
      [Has (· ≠ .ks) .engs] → [Has (· ≠ .ks) .dmaTlb] → [Has (· ≠ .ks) .inval] → [Has (· ≠ .ks) .guard] → [Has (· ≠ .ks) .dma] →
      [Has (· ≠ .ks) .dmaLast] → [Has (· ≠ .ks) .intake] → [Has (· ≠ .ks) .kc] → [Has (· ≠ .ks) .kcPrev] → [Has (· ≠ .ks) .turns] →
      [Has (· ≠ .ks) .srcs] → [Has (· ≠ .ks) .arbs] → [Has (· ≠ .ks) .doms] → [Has (· ≠ .ks) .xq] → [Has (· ≠ .ks) .westad] →
      [Has (· ≠ .ks) .dbg] → [Has (· ≠ .ks) .supply] → [Has (· ≠ .ks) .keeper] → [Has (· ≠ .ks) .audit] → [Has (· ≠ .ks) .faults] →
      [Has (· ≠ .ks) .fuses] → [Has (· ≠ .ks) .boot] → [Has (· ≠ .ks) .req] → [Has (· ≠ .ks) .pins] → [Has (· ≠ .ks) .seeded] →
      [Has (· ≠ .ks) .trngBad] → [Has (· ≠ .ks) .ptpGood] → [Has (· ≠ .ks) .dramKeys] → [Has (· ≠ .ks) .dramLost] → [Has (· ≠ .ks) .uartIn] →
      [Has (· ≠ .ks) .linkPower] → [Has (· ≠ .ks) .out] → Within (· ≠ .ks) s t) :
    t.ks = s.ks :=
  ((@h ⟨by decide⟩ ⟨by decide⟩ ⟨by decide⟩ ⟨by decide⟩ ⟨by decide⟩ ⟨by decide⟩ ⟨by decide⟩ ⟨by decide⟩ ⟨by decide⟩ ⟨by decide⟩ ⟨by decide⟩
    ⟨by decide⟩ ⟨by decide⟩ ⟨by decide⟩ ⟨by decide⟩ ⟨by decide⟩ ⟨by decide⟩ ⟨by decide⟩ ⟨by decide⟩ ⟨by decide⟩ ⟨by decide⟩ ⟨by decide⟩
    ⟨by decide⟩ ⟨by decide⟩ ⟨by decide⟩ ⟨by decide⟩ ⟨by decide⟩ ⟨by decide⟩ ⟨by decide⟩ ⟨by decide⟩ ⟨by decide⟩ ⟨by decide⟩ ⟨by decide⟩
    ⟨by decide⟩ ⟨by decide⟩ ⟨by decide⟩ ⟨by decide⟩ ⟨by decide⟩ ⟨by decide⟩ ⟨by decide⟩ ⟨by decide⟩ ⟨by decide⟩).rest .ks).resolve_left (by decide)

theorem keeper_kept {s t : State}
    (h : [Has (· ≠ .keeper) .rdata] → [Has (· ≠ .keeper) .free] → [Has (· ≠ .keeper) .now] → [Has (· ≠ .keeper) .tally] →
      [Has (· ≠ .keeper) .regs] → [Has (· ≠ .keeper) .mem] → [Has (· ≠ .keeper) .poison] → [Has (· ≠ .keeper) .threads] →
      [Has (· ≠ .keeper) .cyls] → [Has (· ≠ .keeper) .krs] → [Has (· ≠ .keeper) .engs] → [Has (· ≠ .keeper) .dmaTlb] →
      [Has (· ≠ .keeper) .inval] → [Has (· ≠ .keeper) .ks] → [Has (· ≠ .keeper) .guard] → [Has (· ≠ .keeper) .dma] →
      [Has (· ≠ .keeper) .dmaLast] → [Has (· ≠ .keeper) .intake] → [Has (· ≠ .keeper) .kc] → [Has (· ≠ .keeper) .kcPrev] →
      [Has (· ≠ .keeper) .turns] → [Has (· ≠ .keeper) .srcs] → [Has (· ≠ .keeper) .arbs] → [Has (· ≠ .keeper) .doms] → [Has (· ≠ .keeper) .xq] →
      [Has (· ≠ .keeper) .westad] → [Has (· ≠ .keeper) .dbg] → [Has (· ≠ .keeper) .supply] → [Has (· ≠ .keeper) .audit] →
      [Has (· ≠ .keeper) .faults] → [Has (· ≠ .keeper) .fuses] → [Has (· ≠ .keeper) .boot] → [Has (· ≠ .keeper) .req] →
      [Has (· ≠ .keeper) .pins] → [Has (· ≠ .keeper) .seeded] → [Has (· ≠ .keeper) .trngBad] → [Has (· ≠ .keeper) .ptpGood] →
      [Has (· ≠ .keeper) .dramKeys] → [Has (· ≠ .keeper) .dramLost] → [Has (· ≠ .keeper) .uartIn] → [Has (· ≠ .keeper) .linkPower] →
      [Has (· ≠ .keeper) .out] → Within (· ≠ .keeper) s t) :
    t.keeper = s.keeper :=
  ((@h ⟨by decide⟩ ⟨by decide⟩ ⟨by decide⟩ ⟨by decide⟩ ⟨by decide⟩ ⟨by decide⟩ ⟨by decide⟩ ⟨by decide⟩ ⟨by decide⟩ ⟨by decide⟩ ⟨by decide⟩
    ⟨by decide⟩ ⟨by decide⟩ ⟨by decide⟩ ⟨by decide⟩ ⟨by decide⟩ ⟨by decide⟩ ⟨by decide⟩ ⟨by decide⟩ ⟨by decide⟩ ⟨by decide⟩ ⟨by decide⟩
    ⟨by decide⟩ ⟨by decide⟩ ⟨by decide⟩ ⟨by decide⟩ ⟨by decide⟩ ⟨by decide⟩ ⟨by decide⟩ ⟨by decide⟩ ⟨by decide⟩ ⟨by decide⟩ ⟨by decide⟩
    ⟨by decide⟩ ⟨by decide⟩ ⟨by decide⟩ ⟨by decide⟩ ⟨by decide⟩ ⟨by decide⟩ ⟨by decide⟩ ⟨by decide⟩ ⟨by decide⟩).rest .keeper).resolve_left (by decide)

theorem fuses_kept {s t : State}
    (h : [Has (· ≠ .fuses) .rdata] → [Has (· ≠ .fuses) .free] → [Has (· ≠ .fuses) .now] → [Has (· ≠ .fuses) .tally] → [Has (· ≠ .fuses) .regs] →
      [Has (· ≠ .fuses) .mem] → [Has (· ≠ .fuses) .poison] → [Has (· ≠ .fuses) .threads] → [Has (· ≠ .fuses) .cyls] → [Has (· ≠ .fuses) .krs] →
      [Has (· ≠ .fuses) .engs] → [Has (· ≠ .fuses) .dmaTlb] → [Has (· ≠ .fuses) .inval] → [Has (· ≠ .fuses) .ks] → [Has (· ≠ .fuses) .guard] →
      [Has (· ≠ .fuses) .dma] → [Has (· ≠ .fuses) .dmaLast] → [Has (· ≠ .fuses) .intake] → [Has (· ≠ .fuses) .kc] → [Has (· ≠ .fuses) .kcPrev] →
      [Has (· ≠ .fuses) .turns] → [Has (· ≠ .fuses) .srcs] → [Has (· ≠ .fuses) .arbs] → [Has (· ≠ .fuses) .doms] → [Has (· ≠ .fuses) .xq] →
      [Has (· ≠ .fuses) .westad] → [Has (· ≠ .fuses) .dbg] → [Has (· ≠ .fuses) .supply] → [Has (· ≠ .fuses) .keeper] →
      [Has (· ≠ .fuses) .audit] → [Has (· ≠ .fuses) .faults] → [Has (· ≠ .fuses) .boot] → [Has (· ≠ .fuses) .req] → [Has (· ≠ .fuses) .pins] →
      [Has (· ≠ .fuses) .seeded] → [Has (· ≠ .fuses) .trngBad] → [Has (· ≠ .fuses) .ptpGood] → [Has (· ≠ .fuses) .dramKeys] →
      [Has (· ≠ .fuses) .dramLost] → [Has (· ≠ .fuses) .uartIn] → [Has (· ≠ .fuses) .linkPower] → [Has (· ≠ .fuses) .out] → Within (· ≠ .fuses) s t) :
    t.fuses = s.fuses :=
  ((@h ⟨by decide⟩ ⟨by decide⟩ ⟨by decide⟩ ⟨by decide⟩ ⟨by decide⟩ ⟨by decide⟩ ⟨by decide⟩ ⟨by decide⟩ ⟨by decide⟩ ⟨by decide⟩ ⟨by decide⟩
    ⟨by decide⟩ ⟨by decide⟩ ⟨by decide⟩ ⟨by decide⟩ ⟨by decide⟩ ⟨by decide⟩ ⟨by decide⟩ ⟨by decide⟩ ⟨by decide⟩ ⟨by decide⟩ ⟨by decide⟩
    ⟨by decide⟩ ⟨by decide⟩ ⟨by decide⟩ ⟨by decide⟩ ⟨by decide⟩ ⟨by decide⟩ ⟨by decide⟩ ⟨by decide⟩ ⟨by decide⟩ ⟨by decide⟩ ⟨by decide⟩
    ⟨by decide⟩ ⟨by decide⟩ ⟨by decide⟩ ⟨by decide⟩ ⟨by decide⟩ ⟨by decide⟩ ⟨by decide⟩ ⟨by decide⟩ ⟨by decide⟩).rest .fuses).resolve_left (by decide)

theorem req_kept {s t : State}
    (h : [Has (· ≠ .req) .rdata] → [Has (· ≠ .req) .free] → [Has (· ≠ .req) .now] → [Has (· ≠ .req) .tally] → [Has (· ≠ .req) .regs] →
      [Has (· ≠ .req) .mem] → [Has (· ≠ .req) .poison] → [Has (· ≠ .req) .threads] → [Has (· ≠ .req) .cyls] → [Has (· ≠ .req) .krs] →
      [Has (· ≠ .req) .engs] → [Has (· ≠ .req) .dmaTlb] → [Has (· ≠ .req) .inval] → [Has (· ≠ .req) .ks] → [Has (· ≠ .req) .guard] →
      [Has (· ≠ .req) .dma] → [Has (· ≠ .req) .dmaLast] → [Has (· ≠ .req) .intake] → [Has (· ≠ .req) .kc] → [Has (· ≠ .req) .kcPrev] →
      [Has (· ≠ .req) .turns] → [Has (· ≠ .req) .srcs] → [Has (· ≠ .req) .arbs] → [Has (· ≠ .req) .doms] → [Has (· ≠ .req) .xq] →
      [Has (· ≠ .req) .westad] → [Has (· ≠ .req) .dbg] → [Has (· ≠ .req) .supply] → [Has (· ≠ .req) .keeper] → [Has (· ≠ .req) .audit] →
      [Has (· ≠ .req) .faults] → [Has (· ≠ .req) .fuses] → [Has (· ≠ .req) .boot] → [Has (· ≠ .req) .pins] → [Has (· ≠ .req) .seeded] →
      [Has (· ≠ .req) .trngBad] → [Has (· ≠ .req) .ptpGood] → [Has (· ≠ .req) .dramKeys] → [Has (· ≠ .req) .dramLost] →
      [Has (· ≠ .req) .uartIn] → [Has (· ≠ .req) .linkPower] → [Has (· ≠ .req) .out] → Within (· ≠ .req) s t) :
    t.req = s.req :=
  ((@h ⟨by decide⟩ ⟨by decide⟩ ⟨by decide⟩ ⟨by decide⟩ ⟨by decide⟩ ⟨by decide⟩ ⟨by decide⟩ ⟨by decide⟩ ⟨by decide⟩ ⟨by decide⟩ ⟨by decide⟩
    ⟨by decide⟩ ⟨by decide⟩ ⟨by decide⟩ ⟨by decide⟩ ⟨by decide⟩ ⟨by decide⟩ ⟨by decide⟩ ⟨by decide⟩ ⟨by decide⟩ ⟨by decide⟩ ⟨by decide⟩
    ⟨by decide⟩ ⟨by decide⟩ ⟨by decide⟩ ⟨by decide⟩ ⟨by decide⟩ ⟨by decide⟩ ⟨by decide⟩ ⟨by decide⟩ ⟨by decide⟩ ⟨by decide⟩ ⟨by decide⟩
    ⟨by decide⟩ ⟨by decide⟩ ⟨by decide⟩ ⟨by decide⟩ ⟨by decide⟩ ⟨by decide⟩ ⟨by decide⟩ ⟨by decide⟩ ⟨by decide⟩).rest .req).resolve_left (by decide)

theorem pins_kept {s t : State}
    (h : [Has (· ≠ .pins) .rdata] → [Has (· ≠ .pins) .free] → [Has (· ≠ .pins) .now] → [Has (· ≠ .pins) .tally] → [Has (· ≠ .pins) .regs] →
      [Has (· ≠ .pins) .mem] → [Has (· ≠ .pins) .poison] → [Has (· ≠ .pins) .threads] → [Has (· ≠ .pins) .cyls] → [Has (· ≠ .pins) .krs] →
      [Has (· ≠ .pins) .engs] → [Has (· ≠ .pins) .dmaTlb] → [Has (· ≠ .pins) .inval] → [Has (· ≠ .pins) .ks] → [Has (· ≠ .pins) .guard] →
      [Has (· ≠ .pins) .dma] → [Has (· ≠ .pins) .dmaLast] → [Has (· ≠ .pins) .intake] → [Has (· ≠ .pins) .kc] → [Has (· ≠ .pins) .kcPrev] →
      [Has (· ≠ .pins) .turns] → [Has (· ≠ .pins) .srcs] → [Has (· ≠ .pins) .arbs] → [Has (· ≠ .pins) .doms] → [Has (· ≠ .pins) .xq] →
      [Has (· ≠ .pins) .westad] → [Has (· ≠ .pins) .dbg] → [Has (· ≠ .pins) .supply] → [Has (· ≠ .pins) .keeper] → [Has (· ≠ .pins) .audit] →
      [Has (· ≠ .pins) .faults] → [Has (· ≠ .pins) .fuses] → [Has (· ≠ .pins) .boot] → [Has (· ≠ .pins) .req] → [Has (· ≠ .pins) .seeded] →
      [Has (· ≠ .pins) .trngBad] → [Has (· ≠ .pins) .ptpGood] → [Has (· ≠ .pins) .dramKeys] → [Has (· ≠ .pins) .dramLost] →
      [Has (· ≠ .pins) .uartIn] → [Has (· ≠ .pins) .linkPower] → [Has (· ≠ .pins) .out] → Within (· ≠ .pins) s t) :
    t.pins = s.pins :=
  ((@h ⟨by decide⟩ ⟨by decide⟩ ⟨by decide⟩ ⟨by decide⟩ ⟨by decide⟩ ⟨by decide⟩ ⟨by decide⟩ ⟨by decide⟩ ⟨by decide⟩ ⟨by decide⟩ ⟨by decide⟩
    ⟨by decide⟩ ⟨by decide⟩ ⟨by decide⟩ ⟨by decide⟩ ⟨by decide⟩ ⟨by decide⟩ ⟨by decide⟩ ⟨by decide⟩ ⟨by decide⟩ ⟨by decide⟩ ⟨by decide⟩
    ⟨by decide⟩ ⟨by decide⟩ ⟨by decide⟩ ⟨by decide⟩ ⟨by decide⟩ ⟨by decide⟩ ⟨by decide⟩ ⟨by decide⟩ ⟨by decide⟩ ⟨by decide⟩ ⟨by decide⟩
    ⟨by decide⟩ ⟨by decide⟩ ⟨by decide⟩ ⟨by decide⟩ ⟨by decide⟩ ⟨by decide⟩ ⟨by decide⟩ ⟨by decide⟩ ⟨by decide⟩).rest .pins).resolve_left (by decide)

end Sys2Proof.Machine
end

section
/-! The quiet state's entry and a commit (R331), OFF from WATCH (R441). -/

namespace Sys2Proof.Machine

open Sys2Proof.Claims

/-! ### A quiet entry, in two halves (R483) -/

/-- A cause recorded. -/
def quietNoted (s : State) (cause : Nat) : State := quietBoot (audit s (quietSource cause) 0xFF 0xC (leBytes 2 cause)) cause

/-- A state marked quiet. -/
def quietMarked (s : State) (cause : Nat) : State :=
  { s with faults := { s.faults with quiet := true, cause := cause, cnt := 0, reason := 0, stest := 0, entries := satAdd 0xFFFF s.faults.entries 1 } }

/-- Outputs and items of the entry. -/
def quietShut (s : State) (cause : Nat) : State := quietItems (quietOutputs s cause)

/-- The entry up to the end of commits: outputs, items, threads and jobs. -/
def quietServed (s : State) (cause : Nat) : State := quietJobs ((serviceThreads (quietShut s cause)).foldl quietThread (quietShut s cause))

/-- The key store sealed. -/
def quietSealed (s : State) : State := { s with ks := { s.ks with isSealed := true } }

/-- The exporting of key images that runs ends. -/
def exportEnded (s : State) : State :=
  if s.req.ksStat = 1 then { s with req := { s.req with ksStat := 4, ksPieces := [], ksImage := [] } } else s

/-- The entry after the end of commits: the agreement, the exporting, sessions, stagings and debug. -/
def quietEnded (s : State) : State := settle (endDebug (untake (quietSessions (exportEnded (putAgree s none)))))

theorem quietNoted_faults (s : State) (cause : Nat) : (quietNoted s cause).faults = s.faults :=
  faults_kept (quietBoot_within _ _ (audit_within _ _ _ _ _ (Within.refl s)))

/-- An entry from a state that is not quiet. -/
theorem enterQuiet_enters {s : State} (awake : s.faults.quiet = false) (cause : Nat) :
    enterQuiet s cause = quietEnded (abandonCommit (quietSealed (quietServed (quietMarked (quietNoted s cause) cause) cause))) := by
  have starts : (quietNoted s cause).faults.quiet = false := (congrArg Faults.quiet (quietNoted_faults s cause)).trans awake
  unfold enterQuiet
  dsimp only
  rw [← quietNoted]
  generalize quietNoted s cause = noted at starts ⊢
  rw [if_neg (by rw [starts]; decide), quietEnded, exportEnded, quietSealed, quietServed, quietShut, quietMarked]

theorem quietServed_turns (s : State) (cause : Nat) : (quietServed s cause).turns = s.turns :=
  turns_kept (quietJobs_within _ (within_foldl _ (quietItems_within _ (quietOutputs_within _ _ (Within.refl s))) (fun t _ h => quietThread_within t _ h)))

theorem quietNoted_turns (s : State) (cause : Nat) : (quietNoted s cause).turns = s.turns :=
  turns_kept (quietBoot_within _ _ (audit_within _ _ _ _ _ (Within.refl s)))

theorem exportEnded_turns (s : State) : (exportEnded s).turns = s.turns := by
  unfold exportEnded
  split <;> rfl

theorem quietEnded_turns (s : State) : (quietEnded s).turns = s.turns :=
  (turns_kept (settle_within _ (endDebug_within _ (untake_within _ (quietSessions_within _ (Within.refl _)))))).trans (exportEnded_turns _)

/-! ### A commit abandoned (R331) -/

/-- A plane whose request has ended ABANDONED. -/
def AbandonedPlane (x : Plane) : Prop := x.last = 5 ∧ x.phase = 0

theorem failCommit_commit (s : State) (last : Nat) : (failCommit s last).turns.commit = none := by
  unfold failCommit
  split
  · assumption
  · rw [modPlane_commit]
    rfl

theorem failCommit_num (s : State) (last : Nat) : (failCommit s last).turns.num = s.turns.num := by
  unfold failCommit
  split
  · rfl
  · rw [modPlane_num]
    rfl

theorem failCommit_abandons {s : State} {c : Commit} (runs : s.turns.commit = some c) : AbandonedPlane (plane (failCommit s 5) c.plane) := by
  unfold failCommit
  rw [runs]
  dsimp only
  rw [plane_modPlane]
  exact ⟨rfl, rfl⟩

/-- A request that waits ends ABANDONED, and no other plane changes. -/
theorem abandonWaiting_plane {s : State} {p : Nat} (abandoned : AbandonedPlane (plane s p)) (q : Nat) :
    AbandonedPlane (plane (modPlane s q (fun x => { x with last := 5, phase := 0 })) p) := by
  unfold plane modPlane at *
  by_cases k : q = 0
  · rw [if_pos k]
    split
    · exact ⟨rfl, rfl⟩
    · rwa [if_neg (by assumption)] at abandoned
  · rw [if_neg k]
    split
    · rwa [if_pos (by assumption)] at abandoned
    · exact ⟨rfl, rfl⟩

theorem abandonCommit_commit (s : State) : (abandonCommit s).turns.commit = none := by
  unfold abandonCommit
  refine (view_foldl (g := fun s : State => s.turns.commit) ?_ _ _).trans (failCommit_commit s 5)
  exact fun _ _ => modPlane_commit _ _ _

theorem abandonCommit_num (s : State) : (abandonCommit s).turns.num = s.turns.num := by
  unfold abandonCommit
  refine (view_foldl (g := fun s : State => s.turns.num) ?_ _ _).trans (failCommit_num s 5)
  exact fun _ _ => modPlane_num _ _ _

theorem abandonCommit_plane {s : State} {c : Commit} (runs : s.turns.commit = some c) :
    AbandonedPlane (plane (abandonCommit s) c.plane) := by
  unfold abandonCommit
  have ended := failCommit_abandons runs
  generalize failCommit s 5 = failed at ended ⊢
  exact foldl_keeps (P := fun s => AbandonedPlane (plane s c.plane)) (fun s q abandoned => abandonWaiting_plane abandoned q) _ ended

theorem plane_of_turns {s s' : State} (h : s'.turns = s.turns) (p : Nat) : plane s' p = plane s p := by rw [plane, plane, h]

/-- TURN_STAT.LAST of a plane whose request was abandoned reads ABANDONED. -/
theorem turnStatWord_abandoned {s : State} {p : Nat} (abandoned : AbandonedPlane (plane s p)) : fld (turnStatWord s p) 7 4 = 5 := by
  obtain ⟨last, phase⟩ := abandoned
  rw [turnStatWord, last, phase, fld, bitsOf, w64, BitVec.toNat_ofNat, Nat.shiftRight_eq_div_pow]
  omega

theorem quietSealed_turns (s : State) : (quietSealed s).turns = s.turns := rfl

theorem quietMarked_turns (s : State) (cause : Nat) : (quietMarked s cause).turns = s.turns := rfl

/-- Turns after a quiet entry: what is left of the commit. -/
theorem enterQuiet_turns {s : State} (awake : s.faults.quiet = false) (cause : Nat) : ∃ t : State, t.turns = s.turns ∧
    (enterQuiet s cause).turns = (abandonCommit t).turns := by
  refine ⟨quietSealed (quietServed (quietMarked (quietNoted s cause) cause) cause), ?_, ?_⟩
  · rw [quietSealed_turns, quietServed_turns, quietMarked_turns, quietNoted_turns]
  · rw [enterQuiet_enters awake, quietEnded_turns]

theorem enterQuiet_kc (s : State) (cause : Nat) : (enterQuiet s cause).kc = s.kc := kc_kept (enterQuiet_within _ _ (Within.refl s))

theorem enterQuiet_kcPrev (s : State) (cause : Nat) : (enterQuiet s cause).kcPrev = s.kcPrev := kcPrev_kept (enterQuiet_within _ _ (Within.refl s))

/-- Settles O52: the entry reaches turns only where it abandons the commit and the requests that wait. -/
theorem quietAbandonsACommit : Obligations.QuietAbandonsACommit := by
  unfold Obligations.QuietAbandonsACommit
  intro s awake _
  obtain ⟨t, same, turns⟩ := enterQuiet_turns awake 1
  have num : (enterQuiet s 1).turns.num = s.turns.num := by rw [turns, abandonCommit_num, same]
  refine ⟨fun c runs _ => ⟨_, rfl, ?_⟩, fun _ => ⟨_, rfl, enterQuiet_kc s 1, enterQuiet_kcPrev s 1, num⟩⟩
  have abandoned : AbandonedPlane (plane (enterQuiet s 1) c.plane) := by
    rw [plane_of_turns turns]
    exact abandonCommit_plane (by rw [same, runs])
  refine ⟨?_, abandoned.1, turnStatWord_abandoned abandoned, enterQuiet_kc s 1, enterQuiet_kcPrev s 1, num⟩
  change (enterQuiet s 1).turns.commit = none
  rw [turns, abandonCommit_commit]

/-! ### Mains absent in WATCH (R441) -/

/-- OFF keeps of a state what the model's own bookkeeping and the fuses hold. -/
theorem powerOff_eq {s t : State} (pending : t.pending = s.pending) (rdata : t.rdata = s.rdata) (uartIn : t.uartIn = s.uartIn) :
    powerOff t = { State.reset with
      pending := s.pending, rdata := s.rdata, free := (powerOff t).free, fuses := (powerOff t).fuses, out := (powerOff t).out, uartIn := s.uartIn } := by
  rw [← pending, ← rdata, ← uartIn]
  rfl

theorem watchMainsGone_off {s : State} (watch : s.supply.power = 3) (absent : s.supply.mains = false) (long : s.supply.mainsAt + tallyMs 20 ≤ s.tally) :
    watchMainsGone s = powerOff (deviceFinal s) := if_pos ⟨watch, by rw [absent]; rfl, long⟩

theorem watchMainsGone_waits {s : State} (short : s.tally < s.supply.mainsAt + tallyMs 20) : watchMainsGone s = s :=
  if_neg (fun h => Nat.not_le.2 short h.2.2)

/-- The mains back in WATCH changes the supply's readings only. -/
theorem mainsBack_frame (s : State) (watch : s.supply.power = 3) : Within (· ∈ [Part.supply, .free]) s (mainsBack s) := by
  have : Has (· ∈ [Part.supply, .free]) .supply := ⟨by decide⟩
  have : Has (· ∈ [Part.supply, .free]) .free := ⟨by decide⟩
  unfold mainsBack
  split
  · exact Within.refl s
  · extract_lets v b t
    have read : Within (· ∈ [Part.supply, .free]) s t := modSupply_within _ _ (measured_within _ _ _ (measured_within _ _ _ (Within.refl s)))
    have same : t.supply.power = 3 := watch
    rw [if_neg (fun h => h.2 same)]
    exact modSupply_within _ _ read

theorem mainsBack_supply {s : State} (watch : s.supply.power = 3) (absent : s.supply.mains = false) :
    (mainsBack s).supply.power = 3 ∧ (mainsBack s).supply.mains = true ∧ (mainsBack s).supply.wakeLatched = s.supply.wakeLatched := by
  unfold mainsBack
  rw [if_neg (by simp [watch, absent])]
  extract_lets v b t
  have same : t.supply.power = 3 := watch
  rw [if_neg (fun h => h.2 same)]
  exact ⟨watch, rfl, rfl⟩

/-- Settles O53: OFF is `powerOff`, and before 20 ms the mains that returns is read. -/
theorem mainsAbsentInWatch : Obligations.MainsAbsentInWatch := by
  unfold Obligations.MainsAbsentInWatch
  intro s watch absent
  refine ⟨fun long => completes_to rfl (watchMainsGone_off watch absent long) ⟨?_, rfl⟩, fun short => ⟨?_, ⟨mainsBack s, rfl, ?_⟩⟩⟩
  · exact powerOff_eq (deviceFinal_keeps s (Keeps.refl s)).pending (rdata_kept (deviceFinal_within s (Within.refl s)))
      (uartIn_kept (deviceFinal_within s (Within.refl s)))
  · exact completes_same rfl (watchMainsGone_waits short)
  · obtain ⟨power, mains, latched⟩ := mainsBack_supply watch absent
    exact ⟨power, mains, latched, fun p noSupply noFree => (mainsBack_frame s watch).same p (by simp [noSupply, noFree])⟩

end Sys2Proof.Machine
end

section
/-! The timebase after a wake (R444). -/

namespace Sys2Proof.Machine

open Sys2Proof.Claims

/-! ### PWR_EVT (R418) -/

/-- A raise by partition 0 touches no register: it is never denied. -/
theorem raise_zero_regs (s : State) (n : Nat) : (raise s 0 n).regs = s.regs := by
  unfold raise
  split
  · rfl
  · split
    · exact (wakeTargets_frame _ _).same .regs (by decide)
    · rfl

/-- A supply event is seen in PWR_EVT only. -/
theorem regGet_pwrEvt (s : State) (bit : Nat) {r : Reg} {ix : Nat} (apart : regKey r ix ≠ regKey .pwrEvt 0) :
    regGet (pwrEvt s bit) r ix = regGet s r ix := by
  have set_ : regGet (setBits s .pwrEvt 0 (maskOf bit bit)) r ix = regGet s r ix := regGet_regSet_ne _ _ _ _ _ _ apart
  unfold pwrEvt
  dsimp only
  split
  · exact set_
  · rw [regGet_of_regs (raise_zero_regs _ _), set_]

theorem regGet_sleepStatus (s : State) (st : Nat) {r : Reg} {ix : Nat} (apart : regKey r ix ≠ regKey .pwrSleep 0) :
    regGet (sleepStatus s st) r ix = regGet s r ix := regGet_fldSet_ne s apart _ _ _

/-! ### Requests that waited (R328, R436) -/

theorem auditTurn_quietDue (s : State) (source : Nat) (t0 t1 : Bool) (ds : List Delta) :
    (auditTurn s source t0 t1 ds).faults.quietDue = s.faults.quietDue := by
  have faults : ∀ body, (audit s source source 2 body).faults = s.faults := fun _ => faults_kept (audit_within _ _ _ _ _ (Within.refl s))
  unfold auditTurn
  dsimp only
  rw [faults]

theorem modPlane_faults (s : State) (p : Nat) (f : Plane → Plane) : (modPlane s p f).faults = s.faults := rfl

/-- A request that begins is no cause of the quiet state. -/
theorem startCommit_quietDue (s : State) (p : Nat) : (startCommit s p).faults.quietDue = s.faults.quietDue := by
  have taken : (takeSets s).2.2.2.faults = s.faults := faults_kept (takeSets_within s (Within.refl s))
  cases full : auditFull s with
  | true =>
    rw [startCommit_of_auditFull full]
    rfl
  | false =>
    rw [startCommit_of_room full, modPlane_faults, ← taken]
    exact auditTurn_quietDue _ _ _ _ _

theorem nextCommit_quietDue (s : State) : (nextCommit s).faults.quietDue = s.faults.quietDue := by
  unfold nextCommit
  split
  · rfl
  · split
    · rfl
    · exact startCommit_quietDue _ _

/-! ### The wake (R439, R444) -/

/-- The rails come up to their targets. -/
def wakeRails (s : State) : State := (List.range 16).foldl (fun s i => modKr s i (fun k => { k with rail := k.target })) s

theorem wakeRails_frame (s : State) : Within (· ∈ [Part.krs]) s (wakeRails s) :=
  have : Has (· ∈ [Part.krs]) .krs := ⟨by decide⟩
  within_foldl _ (Within.refl s) (fun t i h => modKr_within t i _ h)

/-- The wake up to the timebase: what woke the device, the rails, the bridge, the supply. -/
def wakeBridged (s : State) (c : Nat) : State :=
  modSupply (bridge (wakeRails (fldSet s .pwrSleep 0 15 12 c))) (fun x => { x with power := 1, wakeLatched := none, pf := if x.mains then 0 else 1 })

/-- The wake after the timebase: memory domains, arbiters, blank images, sessions and threads. -/
def wakeResumed (s : State) : State :=
  let s := [13, 14, 15, 16].foldl (fun s d => modDom s d (fun x => { x with down := heldDown s d })) s
  let s := unseedArbiters s
  let s := if s.trngBad then s else seedArbiters s
  let s := reloadBlanks (idleSessions s)
  (ownedThreads s).foldl (fun s t => releaseThr s t .watch) s

theorem wakeBridged_faults (s : State) (c : Nat) : (wakeBridged s c).faults = s.faults := by
  have railed : (wakeRails (fldSet s .pwrSleep 0 15 12 c)).faults = (fldSet s .pwrSleep 0 15 12 c).faults :=
    (wakeRails_frame _).same .faults (by decide)
  rw [wakeBridged, faults_kept (modSupply_within _ _ (bridge_within _ (Within.refl (wakeRails (fldSet s .pwrSleep 0 15 12 c))))), railed]
  rfl

theorem watchWakes_eq {s : State} {c : Nat} (watch : s.supply.power = 3) (latched : s.supply.wakeLatched = some c) :
    watchWakes s = settle (nextCommit (pwrEvt (sleepStatus (wakeResumed (wakeBridged s c)) 4) 4)) := by
  unfold watchWakes
  rw [watch, latched]
  rfl

/-- What the rest of the wake may change. -/
def resumeParts : List Part := [.free, .threads, .krs, .intake, .arbs, .doms, .seeded]

theorem wakeResumed_frame (s : State) : Within (· ∈ resumeParts) s (wakeResumed s) := by
  have : Has (· ∈ resumeParts) .free := ⟨by decide⟩
  have : Has (· ∈ resumeParts) .threads := ⟨by decide⟩
  have : Has (· ∈ resumeParts) .krs := ⟨by decide⟩
  have : Has (· ∈ resumeParts) .intake := ⟨by decide⟩
  have : Has (· ∈ resumeParts) .arbs := ⟨by decide⟩
  have : Has (· ∈ resumeParts) .doms := ⟨by decide⟩
  have : Has (· ∈ resumeParts) .seeded := ⟨by decide⟩
  unfold wakeResumed
  extract_lets domains unseeded seeded images
  have reset : Within (· ∈ resumeParts) s domains := within_foldl _ (Within.refl s) (fun s d h => modDom_within s d _ h)
  have drawn : Within (· ∈ resumeParts) s seeded := within_ite (unseedArbiters_within _ reset) (seedArbiters_within _ (unseedArbiters_within _ reset))
  exact within_foldl _ (reloadBlanks_within _ (idleSessions_within _ drawn)) (fun s t h => releaseThr_within s t .watch h)

/-- The wake's end reads the timebase, TB_STATUS and the causes of the quiet state as the bridge left them. -/
theorem watchWakes_reads {s : State} {c : Nat} (watch : s.supply.power = 3) (latched : s.supply.wakeLatched = some c) :
    (watchWakes s).now = (wakeBridged s c).now ∧ regGet (watchWakes s) .tbStatus 0 = regGet (wakeBridged s c) .tbStatus 0 ∧
      (watchWakes s).faults.quietDue = s.faults.quietDue := by
  have resumed := wakeResumed_frame (wakeBridged s c)
  rw [watchWakes_eq watch latched]
  refine ⟨?_, ?_, ?_⟩
  · rw [now_kept (settle_within _ (nextCommit_within _ (pwrEvt_within _ _ (sleepStatus_within _ _ (Within.refl (wakeResumed (wakeBridged s c)))))))]
    exact resumed.same .now (by decide)
  · rw [regGet_of_regs (regs_kept (settle_within _ (nextCommit_within _ (Within.refl _)))), regGet_pwrEvt _ _ (by decide),
      regGet_sleepStatus _ _ (by decide), regGet_of_within resumed (by decide)]
  · rw [faults_kept (settle_within _ (Within.refl _)), nextCommit_quietDue, faults_kept (pwrEvt_within _ _ (sleepStatus_within _ _ (Within.refl _))),
      resumed.same .faults (by decide)]
    exact congrArg Faults.quietDue (wakeBridged_faults s c)

/-- The whole ticks that a sleep has taken, and those of them on RC (R444). -/
def sleptTicks (s : State) : Nat := s.tally / tickUnits - s.supply.stopTally / tickUnits
def sleptRc (s : State) : Nat := s.keeper.rcTicks / tickUnits

/-- TB_STATUS as a wake writes it. -/
def bridgedStatus (s : State) : Word :=
  let w := putFld (putFld (regGet s .tbStatus 0) 0 0 1) 63 32 (uncOf (sleptTicks s) (sleptRc s))
  if decide (0 < s.keeper.rcTicks) then putFld w 1 1 1 else w

theorem bridge_now (s : State) : (bridge s).now = s.supply.stopTb + sleptTicks s * tickUnits / 64 := rfl

theorem regGet_bridge (s : State) : regGet (bridge s) .tbStatus 0 = bridgedStatus s := regGet_regSet _ _ _ _

/-- The wake's first steps leave what the bridge reads. -/
theorem wakeBridged_reads (s : State) (c : Nat) : (wakeBridged s c).now = s.supply.stopTb + sleptTicks s * tickUnits / 64 ∧
    regGet (wakeBridged s c) .tbStatus 0 = bridgedStatus s := by
  have rails := wakeRails_frame (fldSet s .pwrSleep 0 15 12 c)
  have wakes : ∀ t f, (modSupply (bridge t) f).now = (bridge t).now ∧ regGet (modSupply (bridge t) f) .tbStatus 0 = regGet (bridge t) .tbStatus 0 :=
    fun _ _ => ⟨rfl, rfl⟩
  rw [wakeBridged, (wakes _ _).1, (wakes _ _).2]
  generalize wakeRails (fldSet s .pwrSleep 0 15 12 c) = railed at rails ⊢
  have tally : railed.tally = s.tally := rails.same .tally (by decide)
  have supply : railed.supply = s.supply := rails.same .supply (by decide)
  have keeper : railed.keeper = s.keeper := rails.same .keeper (by decide)
  have ticks : sleptTicks railed = sleptTicks s := by rw [sleptTicks, sleptTicks, tally, supply]
  have rc : sleptRc railed = sleptRc s := by rw [sleptRc, sleptRc, keeper]
  have status : regGet railed .tbStatus 0 = regGet s .tbStatus 0 := by
    rw [regGet_of_within rails (by decide)]
    exact regGet_fldSet_ne s (by decide) _ _ _
  constructor
  · rw [bridge_now, ticks, supply]
  · rw [regGet_bridge, bridgedStatus, bridgedStatus, ticks, rc, keeper, status]

/-- The fields of TB_STATUS after a wake. -/
theorem bridgedStatus_fields (s : State) : fld (bridgedStatus s) 0 0 = 1 ∧ (0 < s.keeper.rcTicks → fld (bridgedStatus s) 1 1 = 1) ∧
    (s.keeper.rcTicks = 0 → fld (bridgedStatus s) 1 1 = fldGet s .tbStatus 0 1 1) ∧
    fld (bridgedStatus s) 63 32 = uncOf (sleptTicks s) (sleptRc s) := by
  have small : uncOf (sleptTicks s) (sleptRc s) % 2 ^ 32 = uncOf (sleptTicks s) (sleptRc s) := Nat.mod_eq_of_lt (by unfold uncOf; omega)
  unfold bridgedStatus
  dsimp only
  refine ⟨?_, fun coarse => ?_, fun fine => ?_, ?_⟩
  · split
    · rw [fld_putFld_apart _ _ (by decide), fld_putFld_apart _ _ (by decide), fld_putFld _ _ (by decide)]
      rfl
    · rw [fld_putFld_apart _ _ (by decide), fld_putFld _ _ (by decide)]
      rfl
  · rw [if_pos (decide_eq_true coarse), fld_putFld _ _ (by decide)]
    rfl
  · rw [if_neg (by simp [fine]), fld_putFld_apart _ _ (by decide), fld_putFld_apart _ _ (by decide), fldGet]
  · split
    · rw [fld_putFld_apart _ _ (by decide), fld_putFld _ _ (by decide)]
      exact small
    · rw [fld_putFld _ _ (by decide)]
      exact small

theorem fld_bit (w : Word) (i : Nat) : fld w i i = b2n (w.getLsbD i) := by
  have width : i + 1 - i = 1 := by omega
  rw [fld, bitsOf, width, ← BitVec.testBit_toNat, Nat.testBit_eq_decide_div_mod_eq, Nat.shiftRight_eq_div_pow, b2n]
  split
  · rename_i set_
    simpa using set_
  · rename_i clear_
    simpa using clear_

/-- A record carries BRIDGED and COARSE as TB_STATUS has them (R30, R444). -/
theorem tbFlags_bits (s : State) : ((tbFlags s).testBit 0 = true ↔ fldGet s .tbStatus 0 0 0 = 1) ∧
    ((tbFlags s).testBit 1 = true ↔ fldGet s .tbStatus 0 1 1 = 1) := by
  rw [fldGet, fldGet, fld_bit, fld_bit, tbFlags]
  dsimp only [fbit]
  cases (regGet s .tbStatus 0).getLsbD 0 <;> cases (regGet s .tbStatus 0).getLsbD 1 <;> cases (regGet s .tbStatus 0).getLsbD 2 <;> decide

/-- Settles O54: the bridge writes the timebase and TB_STATUS, and nothing later in the wake touches either. -/
theorem theTimebaseIsBridged : Obligations.TheTimebaseIsBridged := by
  unfold Obligations.TheTimebaseIsBridged
  intro s c watch latched calm
  obtain ⟨now, status, due⟩ := watchWakes_reads watch latched
  obtain ⟨bridged, written⟩ := wakeBridged_reads s c
  obtain ⟨flag, coarse, fine, unc⟩ := bridgedStatus_fields s
  have field : ∀ hi lo, fldGet (watchWakes s) .tbStatus 0 hi lo = fld (bridgedStatus s) hi lo := fun hi lo => by rw [fldGet, status, written]
  refine completes_to rfl (quietSettle_of_quietDue_none (due.trans calm)) ⟨now.trans bridged, ?_, ?_, ?_, ?_, ?_⟩
  · rw [field, flag]
  · exact fun h => by rw [field, coarse h]
  · exact fun h => by rw [field, fine h]
  · rw [field, unc]
    rfl
  · intro source part kind body room noneWait
    rw [audit_of_room room noneWait]
    refine ⟨_, rfl, ?_, (tbFlags_bits _).2⟩
    exact (tbFlags_bits _).1.2 (by rw [field, flag])

end Sys2Proof.Machine
end

section
/-! SUPPORT. Bits of registers that the entry into the quiet state leaves (R483). Its counters are those of lanes and crossings, and, by numbers that the
state holds, of the guard's failed attempts (47:32 of EXG_STAT) and of knocks denied (63:32 of KNK_STRAY_CNT). -/

namespace Sys2Proof.Machine

open Sys2Proof.Claims

/-! ### One bit of a register -/

/-- A bit of a register that reads the same in two states. -/
def BitKept (q : Reg) (i b : Nat) (s s' : State) : Prop := (regGet s' q i).getLsbD b = (regGet s q i).getLsbD b

section

variable {q : Reg} {i b : Nat} {s t u : State}

theorem BitKept.refl (q : Reg) (i b : Nat) (s : State) : BitKept q i b s s := rfl

theorem BitKept.trans (h : BitKept q i b s t) (k : BitKept q i b t u) : BitKept q i b s u := Eq.trans k h

theorem BitKept.of_regs (h : t.regs = s.regs) : BitKept q i b s t := by rw [BitKept, regGet_of_regs h]

theorem BitKept.of_regGet (h : regGet t q i = regGet s q i) : BitKept q i b s t := by rw [BitKept, h]

theorem BitKept.foldl {β : Type} {f : State → β → State} (each : ∀ s x, BitKept q i b s (f s x)) (l : List β) (s : State) :
    BitKept q i b s (l.foldl f s) := view_foldl (g := fun s => (regGet s q i).getLsbD b) each l s

theorem BitKept.ite {c : Prop} [Decidable c] (h : BitKept q i b s t) (k : BitKept q i b s u) : BitKept q i b s (if c then t else u) := by
  split
  · exact h
  · exact k

/-- Fields of bits that are kept read the same. -/
theorem fldGet_of_bits {hi lo : Nat} (h : ∀ b, lo ≤ b → b ≤ hi → BitKept q i b s t) : fldGet t q i hi lo = fldGet s q i hi lo := by
  rw [fldGet, fldGet]
  apply Nat.eq_of_testBit_eq
  intro j
  rw [fld_testBit, fld_testBit]
  by_cases inside : j < hi + 1 - lo
  · rw [h (lo + j) (by omega) (by omega)]
  · simp [inside]

/-- A field set in a register at another base. -/
theorem BitKept.fldSet_apart {r : Reg} {ix : Nat} (hi_ : i < 4096) (hx : ix < 4096) (apart : (regPlace q).base ≠ (regPlace r).base) (hi lo v : Nat) :
    BitKept q i b s (fldSet s r ix hi lo v) := .of_regGet (regGet_fldSet_ne s (regKey_ne hi_ hx apart) _ _ _)

/-- A field set in a register whose key may be the same, where both read 0 unset: bits outside the field stay. -/
theorem BitKept.fldSet_outside {r : Reg} (zero : (regAccess q).reset = 0) (zero' : (regAccess r).reset = 0) (ix : Nat) {hi lo : Nat}
    (out : b < lo ∨ hi < b) (v : Nat) : BitKept q i b s (fldSet s r ix hi lo v) := by
  by_cases meet : regKey q i = regKey r ix
  · have reads : ∀ x : State, regGet x q i = regGet x r ix := fun x => by rw [regGet, regGet, meet, zero, zero']
    rw [BitKept, reads, reads, fldSet, regGet_regSet, getLsbD_putFld_out _ _ out]
  · exact .of_regGet (regGet_fldSet_ne s meet _ _ _)

/-- A counter of a register at a higher base. -/
theorem BitKept.bump_above {r : Reg} (above : (regPlace q).base < (regPlace r).base) (hi_ : i < 4096) (ix hi lo k : Nat) :
    BitKept q i b s (bump s r ix hi lo k) := .of_regGet (regGet_bump_above s above hi_ _ _ _ _)

end

/-! ### What the entry counts -/

/-- A bit of a register that no count of the entry reaches. -/
structure Sheltered (q : Reg) (b : Nat) : Prop where
  stat : (regPlace q).base ≠ (regPlace .laneStat).base
  drop : (regPlace q).base ≠ (regPlace .laneDrop).base
  sat : (regPlace q).base ≠ (regPlace .arbXsat).base
  attempts : (regPlace q).base < (regPlace .exgStat).base ∨ ((regAccess q).reset = 0 ∧ (b < 32 ∨ 47 < b))
  knocks : (regPlace q).base < (regPlace .knkStrayCnt).base ∨ ((regAccess q).reset = 0 ∧ b < 32)

/-- A walk over a list whose elements are bounded. -/
theorem bit_foldl_lt {q : Reg} {i b n : Nat} {f : State → Nat → State} (each : ∀ s x, x < n → BitKept q i b s (f s x)) :
    ∀ (l : List Nat) (_ : ∀ x ∈ l, x < n) (s : State), BitKept q i b s (l.foldl f s)
  | [], _, s => BitKept.refl q i b s
  | x :: l, small, s => (each s x (small x List.mem_cons_self)).trans (bit_foldl_lt each l (fun y hy => small y (List.mem_cons_of_mem _ hy)) _)

theorem crossingsOf_lt (d : Nat) : ∀ x ∈ crossingsOf d, x < 4096 := fun x hx => by
  have := List.mem_range.1 (List.mem_filter.1 hx).1
  omega

theorem lanesOf_lt (s : State) (f : Nat) : ∀ l ∈ lanesOf s f, l < 4096 := fun x hx => by
  have := List.mem_range.1 (List.mem_filter.1 hx).1
  omega

theorem setHolds_regs (s : State) : (setHolds s).regs = s.regs := regs_kept (setHolds_within s (Within.refl s))

/-- Commands discarded without an answer count in no register. -/
theorem endCmds_discard_regs (s : State) (f : Cmd → Bool) : (endCmds s f none).regs = s.regs := by
  have freed : ∀ (l : List Cmd) (s : State), (l.foldl freeLines s).regs = s.regs :=
    fun l s => view_foldl (g := State.regs) (fun s c => (freeLines_frame s c).same .regs (by decide)) l s
  unfold endCmds
  extract_lets fin queues
  have emptied : queues.regs = s.regs := by
    refine view_foldl (g := State.regs) ?_ _ _
    exact fun s q => freed _ _
  refine (view_foldl (g := State.regs) ?_ _ _).trans emptied
  exact fun s t => (freed _ _).trans (putThr_regs _ _ _)

theorem quietSealed_regs (s : State) : (quietSealed s).regs = s.regs := rfl

/-- An entry in a state that is quiet counts its cause. -/
theorem enterQuiet_again {s : State} (quiet : s.faults.quiet = true) (cause : Nat) : enterQuiet s cause =
    { quietNoted s cause with faults := { (quietNoted s cause).faults with cnt := satAdd 0xFF (quietNoted s cause).faults.cnt 1 } } := by
  have starts : (quietNoted s cause).faults.quiet = true := (congrArg Faults.quiet (quietNoted_faults s cause)).trans quiet
  unfold enterQuiet
  dsimp only
  rw [← quietNoted]
  generalize quietNoted s cause = noted at starts ⊢
  rw [if_pos starts]

section

variable {q : Reg} {i b : Nat} (sh : Sheltered q b) (hi : i < 4096)

include sh hi

theorem setLane_bit (s : State) {l : Nat} (hl : l < 4096) (st : Nat) : BitKept q i b s (setLane s l st) := .fldSet_apart hi hl sh.stat _ _ _

theorem setXsat_bit (s : State) (d : Nat) : BitKept q i b s (setXsat s d) :=
  .of_regGet (regGet_regSet_ne _ _ _ _ _ _ (regKey_ne hi (by decide) sh.sat))

theorem flushCrossing_bit (s : State) {x : Nat} (hx : x < 4096) : BitKept q i b s (flushCrossing s x) := by
  unfold flushCrossing
  extract_lets c whole tail n emptied
  have same : BitKept q i b s emptied := .of_regs rfl
  exact .ite same (same.trans (.fldSet_apart hi (by unfold crossingLane; omega) sh.drop _ _ _))

theorem flushDomain_bit (s : State) (d : Nat) : BitKept q i b s (flushDomain s d) := by
  unfold flushDomain
  extract_lets flushed marked
  have crossings : BitKept q i b s flushed := bit_foldl_lt (fun s x hx => flushCrossing_bit sh hi s hx) _ (crossingsOf_lt d) s
  have counted : BitKept q i b s marked := .ite crossings (crossings.trans (setXsat_bit sh hi _ d))
  exact counted.trans (.of_regs rfl)

theorem downDomain_bit (s : State) (d : Nat) : BitKept q i b s (downDomain s d) := (flushDomain_bit sh hi s d).trans (.of_regs rfl)

/-! ### The entry, part by part -/

theorem dropLink_bit (s : State) (l : Nat) : BitKept q i b s (dropLink s l) := by
  unfold dropLink
  extract_lets idle
  have idled : BitKept q i b s idle := bit_foldl_lt (fun s n hn => .ite (setLane_bit sh hi s hn 1) (.refl q i b s)) _
    (fun l hl => lanesOf_lt s 4 l (List.mem_filter.1 hl).1) s
  exact idled.trans (.trans (.of_regs rfl) (downDomain_bit sh hi _ _))

theorem quietOutputs_bit (s : State) (cause : Nat) : BitKept q i b s (quietOutputs s cause) := by
  unfold quietOutputs
  extract_lets silent low pins domains lanes links
  have held : BitKept q i b s pins := .of_regs (setHolds_regs _)
  have down : BitKept q i b pins domains := .foldl (fun s d => downDomain_bit sh hi s d) _ pins
  have idle : BitKept q i b domains lanes := bit_foldl_lt (fun s l hl => .ite (.refl q i b s) (setLane_bit sh hi s hl 1)) _ (lanesOf_lt domains 3) _
  have dropped : BitKept q i b lanes links := .foldl (fun s l => dropLink_bit sh hi s l) _ lanes
  have fallen : BitKept q i b s links := (held.trans down).trans (idle.trans dropped)
  clear_value links
  exact fallen.trans (.of_regs rfl)

omit sh hi in
theorem quietItems_bit (s : State) : BitKept q i b s (quietItems s) := by
  have gone : BitKept q i b s (endCmds s (fun c => c.part != 0 || decide (4 ≤ c.queue)) none) := .of_regs (endCmds_discard_regs s _)
  unfold quietItems
  refine gone.trans (.foldl (fun s x => ?_) _ _)
  split
  · exact .of_regs rfl
  · exact .refl q i b s

omit sh hi in
theorem quietThread_bit (s : State) (t : Nat) : BitKept q i b s (quietThread s t) := .of_regs (regs_kept (quietThread_within s t (Within.refl s)))

/-- A failed attempt is counted in 47:32 of EXG_STAT (R274). -/
theorem endAttempt_bit (s : State) (kc : Keycut) (p : Nat) (tag : Word) (ok : Bool) : BitKept q i b s (endAttempt s kc p tag ok) := by
  have counts : ∀ x : State, BitKept q i b x (bump x .exgStat p 47 32 1) := fun x => by
    rcases sh.attempts with above | ⟨zero, out⟩
    · exact .bump_above above hi _ _ _ _
    · exact .fldSet_outside zero rfl _ out _
  unfold endAttempt
  split
  · exact .refl q i b s
  · extract_lets c failed noted
    split
    · exact .of_regs rfl
    · split
      · have recorded : ∀ body, BitKept q i b s (audit noted 2 p 0xE body) := fun _ =>
          .trans (.of_regs rfl) (.of_regs ((audit_frame noted _ _ _ _).same .regs (by decide)))
        exact (recorded _).trans (counts _)
      · exact .of_regs rfl

/-- A knock denied is counted in 63:32 of KNK_STRAY_CNT (R361). -/
theorem raise_bit (s : State) (p n : Nat) : BitKept q i b s (raise s p n) := by
  unfold raise
  split
  · exact .refl q i b s
  · split
    · exact .of_regs ((wakeTargets_frame _ _).same .regs (by decide))
    · unfold deny
      split
      · exact .refl q i b s
      · rcases sh.knocks with above | ⟨zero, out⟩
        · exact .bump_above above hi _ _ _ _
        · exact .fldSet_outside zero rfl _ (.inl out) _

theorem finishJob_bit (s : State) (e : Nat) (j : Job) (r : JobResult) : BitKept q i b s (finishJob s e j r) := by
  have written : BitKept q i b s (jobStages (jobWrites s r) r) :=
    .trans (.of_regs ((jobWrites_within s r).same .regs (by decide))) (.of_regs ((jobStages_within _ r).same .regs (by decide)))
  have released : BitKept q i b (jobStages (jobWrites s r) r) (jobReleases (jobStages (jobWrites s r) r) j r) := by
    unfold jobReleases
    split
    · exact endAttempt_bit sh hi _ _ _ _ _
    · exact .refl q i b _
  have told : BitKept q i b (jobReleases (jobStages (jobWrites s r) r) j r) (jobTells (jobResultVisible s j r) e j r) :=
    .trans (.of_regs ((storePieces_frame _ _ _ _ _).same .regs (by decide))) (.of_regs ((jobTells_within _ e j r).same .regs (by decide)))
  have knocked : BitKept q i b (jobTells (jobResultVisible s j r) e j r) (jobKnocks (jobTells (jobResultVisible s j r) e j r) j r) :=
    .ite (.refl q i b _) (raise_bit sh hi _ _ _)
  rw [finishJob_eq]
  exact (written.trans released).trans ((told.trans knocked).trans (.of_regs ((seatJobDone_frame _ _ _).same .regs (by decide))))

theorem endJob_bit (s : State) (e : Nat) (j : Job) (st : Nat) : BitKept q i b s (endJob s e j st) := by
  unfold endJob
  extract_lets left_
  have same : BitKept q i b s left_ := .of_regs rfl
  exact same.trans (finishJob_bit sh hi _ _ _ _)

theorem endJobs_bit (s : State) (f : Job → Bool) (st : Nat) : BitKept q i b s (endJobs s f st) :=
  BitKept.foldl (fun s e => BitKept.foldl (fun s j => endJob_bit sh hi s e j st) _ s) _ s

theorem quietJobs_bit (s : State) : BitKept q i b s (quietJobs s) := by
  unfold quietJobs
  extract_lets ended
  have stale : BitKept q i b s ended := endJobs_bit sh hi s _ _
  refine stale.trans (.foldl (fun s e => ?_) _ _)
  exact .of_regs rfl

theorem quietServed_bit (s : State) (cause : Nat) : BitKept q i b s (quietServed s cause) := by
  unfold quietServed quietShut
  exact ((quietOutputs_bit sh hi s cause).trans (quietItems_bit _)).trans
    ((BitKept.foldl (fun s t => quietThread_bit s t) _ _).trans (quietJobs_bit sh hi _))

omit sh hi in
theorem quietEnded_bit (s : State) : BitKept q i b s (quietEnded s) := by
  have exported : BitKept q i b s (exportEnded (putAgree s none)) := by
    unfold exportEnded
    split
    · exact .of_regs rfl
    · exact .of_regs rfl
  exact exported.trans (.of_regs (regs_kept (settle_within _ (endDebug_within _ (untake_within _ (quietSessions_within _ (Within.refl _)))))))

omit sh hi in
theorem quietNoted_bit (s : State) (cause : Nat) : BitKept q i b s (quietNoted s cause) :=
  .of_regs (regs_kept (quietBoot_within _ _ (audit_within _ _ _ _ _ (Within.refl s))))

theorem enterQuiet_bit (s : State) (cause : Nat) : BitKept q i b s (enterQuiet s cause) := by
  cases quiet : s.faults.quiet with
  | true =>
    rw [enterQuiet_again quiet]
    exact (quietNoted_bit s cause).trans (.of_regs rfl)
  | false =>
    have marked : BitKept q i b (quietNoted s cause) (quietMarked (quietNoted s cause) cause) := .of_regs rfl
    have served := quietServed_bit sh hi (quietMarked (quietNoted s cause) cause) cause
    have sealed_ : BitKept q i b (quietServed (quietMarked (quietNoted s cause) cause) cause)
      (quietSealed (quietServed (quietMarked (quietNoted s cause) cause) cause)) := .of_regs (quietSealed_regs _)
    have abandoned : ∀ t, BitKept q i b t (abandonCommit t) := fun t => .of_regs (regs_kept (abandonCommit_within t (Within.refl t)))
    rw [enterQuiet_enters quiet]
    exact (((quietNoted_bit s cause).trans marked).trans (served.trans sealed_)).trans ((abandoned _).trans (quietEnded_bit _))

/-- The end of a step leaves the bit. -/
theorem quietSettle_bit (s : State) : BitKept q i b s (quietSettle s) := by
  unfold quietSettle
  split
  · exact .refl q i b s
  · exact .ite (.refl q i b s) (.trans (.of_regs rfl) (enterQuiet_bit sh hi _ _))

end

end Sys2Proof.Machine
end

section
/-! BRIDGED, COARSE and STEPPED clear by a write of 1 and as LOCK rises (R445). -/

namespace Sys2Proof.Machine

open Sys2Proof.Claims

/-! ### A write of TB_STATUS -/

/-- No count of a quiet entry reaches the low half of TB_STATUS. -/
theorem tbStatus_sheltered {b : Nat} (low : b < 32) : Sheltered .tbStatus b where
  stat := by decide
  drop := by decide
  sat := by decide
  attempts := .inr ⟨rfl, .inl low⟩
  knocks := .inr ⟨rfl, low⟩

/-- A W1C bit after a software write. -/
theorem getLsbD_plainWrite_w1c (s : State) {r : Reg} (ix : Nat) (v : Word) {b : Nat} (hb : b < 64) (noRw : (regAccess r).rw.getLsbD b = false)
    (w1c : (regAccess r).w1c.getLsbD b = true) :
    (regGet (plainWrite s r ix v) r ix).getLsbD b = ((regGet s r ix).getLsbD b && !v.getLsbD b) := by
  rw [plainWrite, regGet_regSet, BitVec.getLsbD_and, BitVec.getLsbD_or, BitVec.getLsbD_and, BitVec.getLsbD_and, BitVec.getLsbD_not, BitVec.getLsbD_not,
    BitVec.getLsbD_and, noRw, w1c]
  simp [hb]

theorem quietNoted_warmDue (s : State) (cause : Nat) : (quietNoted s cause).boot.warmDue = s.boot.warmDue := by
  have recorded : ∀ body, (audit s (quietSource cause) 0xFF 0xC body).boot = s.boot := fun _ => (audit_frame _ _ _ _ _).same .boot (by decide)
  have stops : ∀ t : State, (quietBoot t cause).boot.warmDue = t.boot.warmDue := fun t => by
    unfold quietBoot
    split <;> rfl
  rw [quietNoted, stops, recorded]

theorem quietServed_boot (s : State) (cause : Nat) : (quietServed s cause).boot = s.boot :=
  boot_kept (quietJobs_within _ (within_foldl _ (quietItems_within _ (quietOutputs_within _ _ (Within.refl s))) (fun t _ h => quietThread_within t _ h)))

theorem quietEnded_boot (s : State) : (quietEnded s).boot = s.boot := by
  have exported : (exportEnded (putAgree s none)).boot = s.boot := by
    unfold exportEnded
    split <;> rfl
  exact (boot_kept (settle_within _ (endDebug_within _ (untake_within _ (quietSessions_within _ (Within.refl _)))))).trans exported

theorem quietSealed_boot (s : State) : (quietSealed s).boot = s.boot := rfl

/-- A quiet entry makes no warm boot due. -/
theorem enterQuiet_warmDue (s : State) (cause : Nat) : (enterQuiet s cause).boot.warmDue = s.boot.warmDue := by
  cases quiet : s.faults.quiet with
  | true =>
    rw [enterQuiet_again quiet]
    exact quietNoted_warmDue s cause
  | false =>
    have marked : (quietMarked (quietNoted s cause) cause).boot = (quietNoted s cause).boot := rfl
    rw [enterQuiet_enters quiet, quietEnded_boot, boot_kept (abandonCommit_within _ (Within.refl _)), quietSealed_boot, quietServed_boot, marked,
      quietNoted_warmDue]

theorem quietSettle_warmDue (s : State) : (quietSettle s).boot.warmDue = s.boot.warmDue := by
  unfold quietSettle
  split
  · rfl
  · split
    · rfl
    · exact enterQuiet_warmDue _ _

theorem warmSettle_of_none {s : State} (none : s.boot.warmDue = false) : warmSettle s = s := by
  unfold warmSettle
  rw [if_neg (by simp [none])]

/-- A write of TB_STATUS by partition 0, with the end of its step. -/
theorem registerWrite_tbStatus {s : State} (noBoot : s.boot.warmDue = false) (t : Fin 2048) (v : Word) :
    exec (.registerWrite 0 t 0xF0010000010 v) s = .next (quietSettle (settle (plainWrite s .tbStatus 0 v))) := by
  have at_ : regAt 0xF0010000010 = some (.tbStatus, 0) := by decide
  have settled : (settle (plainWrite s .tbStatus 0 v)).boot = (plainWrite s .tbStatus 0 v).boot := boot_kept (settle_within _ (Within.refl _))
  have done : ctlWrite s 0 t 0xF0010000010 v = warmSettle (quietSettle (settle (plainWrite s .tbStatus 0 v))) := by
    rw [ctlWrite, at_]
    rfl
  exact congrArg Host.Outcome.next (done.trans (warmSettle_of_none (by rw [quietSettle_warmDue, settled, plainWrite_boot, noBoot])))

theorem tbStatus_written (s : State) (v : Word) {b : Nat} (flag : b ∈ [0, 1, 3]) :
    fldGet (quietSettle (settle (plainWrite s .tbStatus 0 v))) .tbStatus 0 b b = if fld v b b = 1 then 0 else fldGet s .tbStatus 0 b b := by
  have low : b < 32 := by
    revert b
    decide
  have bits : ∀ b ∈ [0, 1, 3], (regAccess .tbStatus).rw.getLsbD b = false ∧ (regAccess .tbStatus).w1c.getLsbD b = true := by decide
  have ends : BitKept .tbStatus 0 b (plainWrite s .tbStatus 0 v) (quietSettle (settle (plainWrite s .tbStatus 0 v))) :=
    .trans (.of_regs (regs_kept (settle_within _ (Within.refl _)))) (quietSettle_bit (tbStatus_sheltered low) (by decide) _)
  rw [fldGet, fldGet, fld_bit, fld_bit, fld_bit, ends, getLsbD_plainWrite_w1c s 0 v (by omega) (bits b flag).1 (bits b flag).2]
  cases v.getLsbD b <;> simp [b2n]

/-! ### LOCK rises -/

/-- A LOCK that rises clears BRIDGED and COARSE and UNC (R445). -/
theorem raiseLock_fields {s : State} (unlocked : tbLocked s = false) : fldGet (raiseLock s) .tbStatus 0 2 2 = 1 ∧
    fldGet (raiseLock s) .tbStatus 0 0 0 = 0 ∧ fldGet (raiseLock s) .tbStatus 0 1 1 = 0 ∧ fldGet (raiseLock s) .tbStatus 0 63 32 = 0 := by
  have clears : ∀ w : Word, fld (putFld w 1 0 0) 0 0 = 0 ∧ fld (putFld w 1 0 0) 1 1 = 0 := fun w => by
    have pair : fld (putFld w 1 0 0) 1 0 = 0 := fld_putFld w 0 (by decide)
    have bits : ∀ b < 2, (putFld w 1 0 0).getLsbD b = false := fun b hb => by
      have tested := fld_testBit (putFld w 1 0 0) 1 0 b
      rw [pair, Nat.zero_testBit, decide_eq_true (by omega), Bool.true_and, Nat.zero_add] at tested
      exact tested.symm
    rw [fld_bit, fld_bit, bits 0 (by decide), bits 1 (by decide)]
    exact ⟨rfl, rfl⟩
  have risen : ∀ hi lo, fldGet (raiseLock s) .tbStatus 0 hi lo =
      fld (putFld (putFld (putFld (regGet s .tbStatus 0) 2 2 1) 1 0 0) 63 32 0) hi lo := fun hi lo => by
    rw [raiseLock, if_neg (by rw [unlocked]; decide), fldGet, regGet_regSet]
  rw [risen, risen, risen, risen]
  refine ⟨?_, ?_, ?_, fld_putFld _ _ (by decide)⟩
  · rw [fld_putFld_apart _ _ (by decide), fld_putFld_apart _ _ (by decide), fld_putFld _ _ (by decide)]
    rfl
  · rw [fld_putFld_apart _ _ (by decide), (clears _).1]
  · rw [fld_putFld_apart _ _ (by decide), (clears _).2]

/-- A good Sync on the selected port and domain counts, and the sixteenth in a row raises LOCK (R442). -/
theorem ptpSync_locks {s : State} {port dom : Nat} {m : PtpMessage} (selected : fldGet s .tbPtp 0 3 0 = port) (domain : fldGet s .tbPtp 0 15 8 = dom)
    (on : s.supply.power = 1) (up : domOut s (2 + 2 * port) = false) (run : 15 ≤ s.ptpGood) (close : m.offsetNs.natAbs < 1000) :
    ptpSync s port dom m = raiseLock { s with ptpGood := min 16 (s.ptpGood + 1) } := by
  unfold ptpSync
  rw [if_neg (by simp [selected, domain, on, up])]
  have near : ¬ (10 ^ 6 < m.offsetNs) := by omega
  have sixteenth : 16 ≤ s.ptpGood + 1 := by omega
  dsimp only
  rw [if_neg near, if_pos close, if_pos sixteenth]

/-- Settles O55: the write by its W1C bits, the Sync by `raiseLock`. -/
theorem bridgingFlagsClear : Obligations.BridgingFlagsClear := by
  unfold Obligations.BridgingFlagsClear
  refine ⟨fun s t v noBoot => ⟨_, registerWrite_tbStatus noBoot t v, fun b flag => tbStatus_written s v flag⟩, ?_⟩
  intro s port dom m selected domain on up run close unlocked
  have open_ : tbLocked s = false := by
    rw [fldGet, fld_bit] at unlocked
    cases locked : tbLocked s with
    | false => rfl
    | true =>
      rw [tbLocked, fbit] at locked
      rw [locked] at unlocked
      cases unlocked
  exact completes_to rfl (ptpSync_locks selected domain on up run close) (raiseLock_fields (s := { s with ptpGood := min 16 (s.ptpGood + 1) }) open_)

end Sys2Proof.Machine
end

section
/-! Knock sources under doorbells, sets, clears and masks (R361 to R366). -/

namespace Sys2Proof.Machine

open Sys2Proof.Claims

/-! ### Waking the threads that could claim a source (R141) -/

/-- Whether a thread could claim a source, read from the source, its route and the thread's priority. -/
theorem claimable_congr {s s' : State} {t n : Nat} (srcs : s'.srcs = s.srcs) (kc : s'.kc = s.kc) (pri : (thr s' t).runPri = (thr s t).runPri) :
    claimable s' t n true = claimable s t n true := by
  have same : src s' n = src s n := by rw [src, src, srcs]
  have route : srcRoute s' n = srcRoute s n := by rw [srcRoute, srcRoute, same, kc]
  rw [claimable, claimable, same, route, pri]
  rfl

theorem wakeThr_claimable (s : State) (u t n : Nat) : claimable (wakeThr s u) t n true = claimable s t n true := by
  have : Has (· = .threads) .threads := ⟨rfl⟩
  have w : Within (· = .threads) s (wakeThr s u) := wakeThr_within s u (Within.refl s)
  have pri : (thr (wakeThr s u) t).runPri = (thr s t).runPri := (wakeThr_roused s u t).part Thread.runPri (fun _ _ _ _ _ => rfl)
  exact claimable_congr (w.same .srcs (by decide)) (w.same .kc (by decide)) pri

/-- A route selects the threads of its mask, and no other. -/
theorem mem_maskThreads {r : Route} {t : Nat} (selected : inMask r t = true) : t ∈ maskThreads r := by
  unfold inMask krOf at selected
  obtain ⟨ring, bit⟩ := (Bool.and_eq_true _ _).mp selected
  have ring : r.kr = t / 128 := by simpa using ring
  refine List.mem_filterMap.2 ⟨t % 128, List.mem_range.2 (Nat.mod_lt _ (by decide)), ?_⟩
  rw [if_pos bit, ring]
  exact congrArg some (Nat.div_add_mod t 128)

theorem inMask_of_claimable {s : State} {t n : Nat} {any : Bool} (could : claimable s t n any = true) : inMask (srcRoute s n) t = true := by
  unfold claimable at could
  simp only [Bool.and_eq_true] at could
  exact could.1.1.2

theorem wakeThr_awake (s : State) (t : Nat) : (thr (wakeThr s t) t).st ≠ .wait := by
  unfold wakeThr
  dsimp only
  split
  · rw [putThr_self]
    exact ThrState.noConfusion
  · assumption

/-- No thread that could claim the source is left in WAIT. -/
theorem wakeTargets_wakes (s : State) (n t : Nat) (could : claimable (wakeTargets s n) t n true = true) : (thr (wakeTargets s n) t).st ≠ .wait := by
  have steps : ∀ (x : State) (u : Nat), claimable (if claimable x u n true then wakeThr x u else x) t n true = claimable x t n true := fun x u => by
    split
    · exact wakeThr_claimable x u t n
    · rfl
  have could : claimable s t n true = true := (view_foldl (g := fun x => claimable x t n true) steps _ s).symm.trans could
  unfold wakeTargets
  refine foldl_reaches (P := fun x => (thr x t).st ≠ .wait) (Q := fun x => claimable x t n true = true) (a := t) ?_ ?_ ?_
    (mem_maskThreads (inMask_of_claimable could)) could
  · exact fun x u q => by rw [steps, q]
  · exact fun x q => by rw [if_pos q]; exact wakeThr_awake x t
  · intro x u _ up
    split
    · rw [(wakeThr_roused x u t).awake up]
      exact up
    · exact up

theorem wakeTargets_src (s : State) (n i : Nat) : src (wakeTargets s n) i = src s i := src_of_within (wakeTargets_frame s n) (by decide) i

/-! ### The stores (R361 to R363) -/

/-- A store to a source by a partition that may not act on it. -/
theorem deny_counts (s : State) (p : Nat) : (deny s p).srcs = s.srcs ∧ (deny s p).threads = s.threads ∧
    (p ≠ 0 → fldGet (deny s p) .knkStrayCnt p 63 32 = min (2 ^ 32 - 1) (fldGet s .knkStrayCnt p 63 32 + 1)) := by
  unfold deny
  split
  · exact ⟨rfl, rfl, fun other => absurd (by assumption) other⟩
  · exact ⟨rfl, rfl, fun _ => fldGet_bump s _ _ (by decide)⟩

section

variable {s : State} {p n : Nat}

theorem raise_acts (named : n ≠ 0) (may : mayRaise s p n = true) : raise s p n = wakeTargets (modSrc s n (fun _ => { src s n with
    pend := true, cnt := satAdd 255 (src s n).cnt 1, firstBell := if (src s n).cnt = 0 then s.now else (src s n).firstBell
    route := if (src s n).pend then (src s n).route else some (kcRoute s.kc n) })) n := by
  rw [raise, if_neg named, if_pos may]

theorem pendSet_acts (named : n ≠ 0) (may : mayRaise s p n = true) : pendSet s p n = wakeTargets (modSrc s n (fun _ => { src s n with
    pend := true, ripeNow := true, firstBell := if (src s n).pend then (src s n).firstBell else s.now
    route := if (src s n).pend then (src s n).route else some (kcRoute s.kc n) })) n := by
  rw [pendSet, if_neg named, if_pos may]

theorem pendClr_acts (named : n ≠ 0) (may : mayRaise s p n = true) :
    pendClr s p n = modSrc s n (fun x => { x with pend := false, cnt := 0, ripeNow := false, route := none }) := by
  rw [pendClr, if_neg named, if_pos may]

theorem maskWrite_acts (named : n ≠ 0) (may : mayRaise s p n = true) (m : Bool) :
    maskWrite s p n m = if m then modSrc s n (fun x => { x with mask := m }) else wakeTargets (modSrc s n (fun x => { x with mask := m })) n := by
  rw [maskWrite, if_neg named, if_pos may]

/-- Stores that name source 0 do nothing. -/
theorem stores_zero (m : Bool) : raise s p 0 = s ∧ pendSet s p 0 = s ∧ pendClr s p 0 = s ∧ maskWrite s p 0 m = s := ⟨rfl, rfl, rfl, rfl⟩

/-- Stores by a partition that may not act are denied. -/
theorem stores_denied (named : n ≠ 0) (may : mayRaise s p n = false) (m : Bool) :
    raise s p n = deny s p ∧ pendSet s p n = deny s p ∧ pendClr s p n = deny s p ∧ maskWrite s p n m = deny s p := by
  unfold raise pendSet pendClr maskWrite
  simp [named, may]

end

/-- A pending source that is ripe at once. -/
theorem ripe_of_now {s : State} {n : Nat} (pend : (src s n).pend = true) (now : (src s n).ripeNow = true) : ripe s n = true := by
  simp [ripe, pend, now]

/-- What the six stores of a partition to a source do, all at once. -/
theorem rows_each {s : State} {p : Fin 256} {n : Fin 4096} {P : State → Prop} (bell : P (raise s p n)) (set_ : P (pendSet s p n)) (clr : P (pendClr s p n))
    (on : P (maskWrite s p n true)) (off : P (maskWrite s p n false)) :
    ∀ i ∈ [Instr.knkDoorbell p n, .deviceRaise p n, .knkPendSet p n, .knkPendClr p n, .knkMaskSet p n, .knkMaskClr p n], Completes i s P := by
  simp only [List.forall_mem_cons, List.not_mem_nil, false_imp_iff, implies_true, and_true]
  exact ⟨⟨_, rfl, bell⟩, ⟨_, rfl, bell⟩, ⟨_, rfl, set_⟩, ⟨_, rfl, clr⟩, ⟨_, rfl, on⟩, ⟨_, rfl, off⟩⟩

/-- Settles O30: each store by whether it names a source, may act on it, and what it writes. -/
theorem sourcesAct : Obligations.SourcesAct := by
  unfold Obligations.SourcesAct
  intro s p n x rows route woken
  refine ⟨fun zero => ?_, fun named denied => ?_, fun named may => ?_, fun pend bell claim => ?_, fun unripe => ?_⟩
  · subst zero
    exact rows_each rfl rfl rfl rfl rfl
  · have named : n.val ≠ 0 := fun zero => named (Fin.ext zero)
    obtain ⟨bell, set_, clr, -⟩ := stores_denied named denied true
    have mask := fun m => (stores_denied named denied m).2.2.2
    have counts := deny_counts s p
    have counted : p ≠ 0 → fldGet (deny s p) .knkStrayCnt p 63 32 = min (2 ^ 32 - 1) (fldGet s .knkStrayCnt p 63 32 + 1) :=
      fun other => counts.2.2 (fun zero => other (Fin.ext zero))
    have all := And.intro counts.1 (And.intro counts.2.1 counted)
    exact rows_each (by rw [bell]; exact all) (by rw [set_]; exact all) (by rw [clr]; exact all) (by rw [mask]; exact all) (by rw [mask]; exact all)
  · have named : n.val ≠ 0 := fun zero => named (Fin.ext zero)
    refine ⟨?_, completes_to rfl (pendSet_acts named may) ⟨?_, ?_, ?_, ?_, fun t could => wakeTargets_wakes _ n t could⟩,
      completes_to rfl (pendClr_acts named may) ?_, completes_to rfl (maskWrite_acts named may true) (src_modSrc _ _ _),
      completes_to rfl (maskWrite_acts named may false) ⟨?_, fun t could => wakeTargets_wakes _ n t could⟩⟩
    · have raised : src (raise s p n) n = { x with
          pend := true, cnt := min 255 (x.cnt + 1), firstBell := if x.cnt = 0 then s.now else x.firstBell, route := route } ∧ woken (raise s p n) := by
        rw [raise_acts named may]
        refine ⟨?_, fun t could => wakeTargets_wakes _ n t could⟩
        rw [wakeTargets_src, src_modSrc, satAdd_eq_min]
      simp only [List.forall_mem_cons, List.not_mem_nil, false_imp_iff, implies_true, and_true]
      exact ⟨⟨_, rfl, raised⟩, ⟨_, rfl, raised⟩⟩
    · rw [wakeTargets_src, src_modSrc]
    · exact ripe_of_now (by rw [wakeTargets_src, src_modSrc]) (by rw [wakeTargets_src, src_modSrc])
    · rw [wakeTargets_src, src_modSrc]
    · rw [wakeTargets_src, src_modSrc]
    · rw [src_modSrc]
      exact ⟨rfl, rfl, rfl, rfl⟩
    · rw [if_neg (by decide), wakeTargets_src, src_modSrc]
  · have due : (x.pend && decide (x.firstBell + (srcRoute s n).minivl ≤ s.now) &&
        (match x.lastClaim with | none => true | some c => decide (c + (srcRoute s n).minivl ≤ s.now))) = true := by
      rw [pend, decide_eq_true bell]
      split
      · rfl
      · rename_i c claimed
        exact decide_eq_true (claim c claimed)
    refine completes_to rfl (if_pos due) ⟨?_, ?_, fun t could => wakeTargets_wakes _ n t could⟩
    · rw [wakeTargets_src, src_modSrc]
    · exact ripe_of_now (by rw [wakeTargets_src, src_modSrc]; exact pend) (by rw [wakeTargets_src, src_modSrc])
  · refine completes_same rfl (if_neg ?_)
    rcases unripe with idle | early
    · have idle : (src s n).pend = false := idle
      simp [idle]
    · have early : ¬ ((src s n).firstBell + (srcRoute s n).minivl ≤ s.now) := Nat.not_le.2 early
      simp [early]

end Sys2Proof.Machine
end

section
/-! Lotteries, crossing counts, the stall watch, domain resets and ARB_XMODE (R345, R347, R351, R355 to R357, R359). -/

namespace Sys2Proof.Machine

open Sys2Proof.Claims

/-! ### Rotation and tickets (R345) -/

/-- The requester that a rotation over `l` after `last` reaches first. -/
def FirstIn (l : List Nat) (last w : Nat) : Prop :=
  w ∈ l ∧ ((last < w ∧ ∀ c ∈ l, last < c → w ≤ c) ∨ ((∀ c ∈ l, c ≤ last) ∧ ∀ c ∈ l, w ≤ c))

/-- The walk finds it in an ascending list. -/
theorem firstAfter_of_firstIn {l : List Nat} (rising : l.Pairwise (· < ·)) {last w : Nat} (first : FirstIn l last w) : firstAfter l last = some w := by
  obtain ⟨listed, ⟨after_, least⟩ | ⟨before_, least⟩⟩ := first
  · have found : ∃ r, l.find? (fun r => decide (last < r)) = some r := by
      cases h : l.find? (fun r => decide (last < r)) with
      | some r => exact ⟨r, rfl⟩
      | none => exact absurd (decide_eq_true after_) (List.find?_eq_none.1 h w listed)
    obtain ⟨r, found⟩ := found
    obtain ⟨later, as, bs, split_, sooner⟩ := List.find?_eq_some_iff_append.1 found
    have same : w = r := by
      rw [split_] at listed rising least
      rcases List.mem_append.1 listed with early | late
      · exact absurd (decide_eq_true after_) (by simpa using sooner w early)
      · rcases List.mem_cons.1 late with here | past
        · exact here
        · have behind : r < w := (List.pairwise_cons.1 (List.pairwise_append.1 rising).2.1).1 w past
          have ahead : w ≤ r := least r (List.mem_append_right _ List.mem_cons_self) (of_decide_eq_true later)
          omega
    rw [firstAfter, found, same]
  · have none_ : l.find? (fun r => decide (last < r)) = none := List.find?_eq_none.2 (fun c hc => by
      have := before_ c hc
      simp only [decide_eq_true_eq]
      omega)
    rw [firstAfter, none_]
    cases l with
    | nil => cases listed
    | cons a l =>
      have ahead : w ≤ a := least a List.mem_cons_self
      have behind : a ≤ w := by
        rcases List.mem_cons.1 listed with here | past
        · omega
        · exact Nat.le_of_lt ((List.pairwise_cons.1 rising).1 w past)
      exact congrArg some (by omega)

theorem firstAfter_nil (last : Nat) : firstAfter [] last = none := rfl

theorem foldl_plus {α : Type} (f : α → Nat) (l : List α) (n : Nat) : l.foldl (fun n c => n + f c) n = n + (l.map f).sum := by
  induction l generalizing n with
  | nil => rfl
  | cons x l ih =>
    rw [List.foldl_cons, ih, List.map_cons, List.sum_cons]
    omega

/-- A ticket number within a contestant's range is that contestant's. -/
theorem ticketOwner_of_range (tk : Nat → Nat) {w : Nat} : ∀ {cs : List Nat}, cs.Pairwise (· < ·) → w ∈ cs → ∀ {r : Nat},
    ((cs.filter (fun c => decide (c < w))).map tk).sum ≤ r → r < ((cs.filter (fun c => decide (c < w))).map tk).sum + tk w →
    ticketOwner tk cs r = some w
  | [], _, listed, _, _, _ => by cases listed
  | c :: cs, rising, listed, r, low, high => by
    obtain ⟨above, rising'⟩ := List.pairwise_cons.1 rising
    rcases List.mem_cons.1 listed with here | later
    · subst here
      have none_ : cs.filter (fun c => decide (c < w)) = [] := List.filter_eq_nil_iff.2 (fun c hc => by
        have := above c hc
        simp only [decide_eq_true_eq]
        omega)
      rw [List.filter_cons, if_neg (by simp), none_] at low high
      rw [ticketOwner, if_pos (by simpa using high)]
    · have before_ : c < w := above w later
      rw [List.filter_cons, if_pos (by simpa using before_), List.map_cons, List.sum_cons] at low high
      rw [ticketOwner, if_neg (by omega)]
      exact ticketOwner_of_range tk rising' later (by omega) (by omega)

/-! ### A decision (R345, R347) -/

/-- Waits of an arbiter after a decision: the winner's is 0, the others' are raised to their limits at most. -/
def waited (tk : Nat → Nat × Nat) (w : Nat) (cs : List Nat) (t : Tab Nat) : Tab Nat :=
  cs.foldl (fun t c => tset 0 t c (if c = w then 0 else satAdd (tk c).2 (tget 0 t c) 1)) t

theorem waited_other (tk : Nat → Nat × Nat) (w : Nat) {c : Nat} : ∀ (cs : List Nat) (t : Tab Nat), c ∉ cs → tget 0 (waited tk w cs t) c = tget 0 t c
  | [], _, _ => rfl
  | d :: cs, t, out => by
    rw [List.mem_cons, not_or] at out
    exact (waited_other tk w cs _ out.2).trans (tget_tset_ne _ _ _ _ out.1)

theorem waited_listed (tk : Nat → Nat × Nat) (w : Nat) {c : Nat} : ∀ (cs : List Nat) (t : Tab Nat), cs.Nodup → c ∈ cs →
    tget 0 (waited tk w cs t) c = if c = w then 0 else min (tk c).2 (tget 0 t c + 1)
  | [], _, _, listed => by cases listed
  | d :: cs, t, distinct, listed => by
    obtain ⟨once, distinct'⟩ := List.nodup_cons.1 distinct
    rcases List.mem_cons.1 listed with here | later
    · subst here
      refine (waited_other tk w cs _ once).trans ?_
      rw [tget_tset_self, satAdd_eq_min]
    · have other : c ≠ d := fun same => once (same ▸ later)
      refine (waited_listed tk w cs _ distinct' later).trans ?_
      rw [tget_tset_ne _ _ _ _ other]

/-- Contestants at their wait limits. -/
def overdue (x : Arbiter) (tk : Nat → Nat × Nat) (cs : List Nat) : List Nat := cs.filter (fun c => decide ((tk c).2 ≤ tget 0 x.wait c))

/-- The tickets of all contestants. -/
def allTickets (tk : Nat → Nat × Nat) (cs : List Nat) : Nat := (cs.map (fun c => (tk c).1)).foldl (· + ·) 0

/-- An arbiter after a winner: by force of a wait limit or not, with a draw or not. -/
def decided (x : Arbiter) (tk : Nat → Nat × Nat) (cs : List Nat) (w : Nat) (forced drawn : Bool) : Arbiter :=
  { x with
    lfsr := if drawn then lfsrDraw x.lfsr else x.lfsr
    wait := waited tk w cs x.wait
    grants := tset 0 x.grants w ((tget 0 x.grants w + 1) % 2 ^ 32)
    lastForced := if forced then w else x.lastForced
    lastWinner := w
    forced := if forced then (x.forced + 1) % 2 ^ 16 else x.forced
    decisions := (x.decisions + 1) % 2 ^ 32 }

section

variable {x : Arbiter} {tk : Nat → Nat × Nat} {cs : List Nat} {w : Nat}

theorem decideArb_forced (limit : firstAfter (overdue x tk cs) x.lastForced = some w) : (decideArb x tk cs).2 = decided x tk cs w true false := by
  unfold decideArb
  unfold overdue at limit
  dsimp only
  rw [limit]
  rfl

theorem decideArb_drawn (none_ : overdue x tk cs = []) (seeded : x.seeded = true) (some_ : 0 < allTickets tk cs)
    (owner : ticketOwner (fun c => (tk c).1) cs ((lfsrDraw x.lfsr).toNat * allTickets tk cs / 2 ^ 32) = some w) :
    (decideArb x tk cs).2 = decided x tk cs w false true := by
  unfold decideArb decided
  unfold overdue at none_
  unfold allTickets at some_ owner
  dsimp only
  rw [none_, firstAfter_nil, seeded, decide_eq_true some_, owner]
  rfl

theorem decideArb_rotates (none_ : overdue x tk cs = []) (blind : x.seeded = false ∨ allTickets tk cs = 0)
    (next_ : firstAfter cs x.lastWinner = some w) : (decideArb x tk cs).2 = decided x tk cs w false false := by
  have noDraw : (x.seeded && decide (0 < allTickets tk cs)) = false := by
    rcases blind with unseeded | empty
    · rw [unseeded, Bool.false_and]
    · rw [empty]
      exact Bool.and_false _
  unfold decideArb
  unfold overdue at none_
  unfold allTickets at noDraw
  dsimp only
  rw [none_, firstAfter_nil, Option.isNone_none, Bool.true_and, noDraw, next_]
  rfl

theorem decideArb_empty : (decideArb x tk []).2 = x := by
  simp [decideArb, firstAfter]

end

/-! ### A draw of an arbiter -/

theorem arb_drawArb (s : State) (a : Nat) (cs : List Nat) : arb (drawArb s a cs).2 a = (decideArb (arb s a) (arbTickets s.kc a) cs).2 :=
  tget_tset_self _ _ _

theorem execArbiterDraw_next {a : Nat} (ha : a < 0x190) (l : List Nat) (s : State) : exec (.arbiterDraw a l) s =
    .next (drawArb s a ((List.range 257).filter (fun r => l.contains r && arbValid a r))).2 := congrArg Host.Outcome.next (if_pos ha)

/-- What the rules say of an arbiter after a winner (R345, R347). -/
structure WonBy (x y : Arbiter) (tk : Nat → Nat × Nat) (cs : List Nat) (w : Nat) (forced drawn : Bool) : Prop where
  winner : y.lastWinner = w
  served : tget 0 y.wait w = 0
  others : ∀ c ∈ cs, c ≠ w → tget 0 y.wait c = min (tk c).2 (tget 0 x.wait c + 1)
  absent : ∀ c, c ∉ cs → tget 0 y.wait c = tget 0 x.wait c
  grants : tget 0 y.grants w = (tget 0 x.grants w + 1) % 2 ^ 32
  decisions : y.decisions = (x.decisions + 1) % 2 ^ 32
  forces : y.forced = (x.forced + b2n forced) % 2 ^ 16
  lfsr : y.lfsr = (if drawn then lfsrDraw x.lfsr else x.lfsr)
  lastForced : y.lastForced = (if forced then w else x.lastForced)

theorem decided_wonBy {x : Arbiter} {tk : Nat → Nat × Nat} {cs : List Nat} {w : Nat} (small : x.forced < 2 ^ 16) (distinct : cs.Nodup)
    (listed : w ∈ cs) (forced drawn : Bool) : WonBy x (decided x tk cs w forced drawn) tk cs w forced drawn where
  winner := rfl
  served := (waited_listed tk w cs x.wait distinct listed).trans (if_pos rfl)
  others c hc other := (waited_listed tk w cs x.wait distinct hc).trans (if_neg other)
  absent c out := waited_other tk w cs x.wait out
  grants := tget_tset_self _ _ _
  decisions := rfl
  forces := by
    cases forced with
    | true => rfl
    | false => exact (Nat.mod_eq_of_lt small).symm
  lfsr := rfl
  lastForced := rfl

/-! ### Domains (R351, R356, R357, R359) -/

theorem getLsbD_maskOf_bit {i : Nat} (hi : i < 64) : (maskOf i i).getLsbD i = true := by
  have width : i + 1 - i = 1 := by omega
  rw [maskOf, BitVec.getLsbD_ofNat, width, Nat.testBit_shiftLeft]
  simp [hi]

/-- A bit set by the device. -/
theorem fldGet_setBits (s : State) (r : Reg) (ix : Nat) {i : Nat} (hi : i < 64) : fldGet (setBits s r ix (maskOf i i)) r ix i i = 1 := by
  rw [fldGet, setBits, regGet_regSet, fld_bit, BitVec.getLsbD_or, getLsbD_maskOf_bit hi, Bool.or_true]
  rfl

/-- A domain's events by whether it answers (R351). -/
theorem countEvents_acts (s : State) {d : Nat} (named : d ≠ 0) (hd : d < 64) (n : Nat) :
    (domOut s d = false → (dom (countEvents s d n) d).count = 0 ∧
      (dom (countEvents s d n) d).received = (dom s d).received + min 255 ((dom s d).count + n)) ∧
    (domOut s d = true → (dom (countEvents s d n) d).count = min 255 ((dom s d).count + n) ∧
      (dom (countEvents s d n) d).received = (dom s d).received) ∧
    (255 < (dom s d).count + n → fldGet (countEvents s d n) .arbXsat 0 d d = 1) := by
  unfold countEvents
  rw [if_neg named]
  extract_lets x c counted
  have same : counted.doms = s.doms := by
    unfold counted
    split <;> rfl
  have here : dom counted d = dom s d := by rw [dom, same, dom]
  have out_ : domOut counted d = domOut s d := by rw [domOut, domOut, here]
  have sat : 255 < (dom s d).count + n → fldGet counted .arbXsat 0 d d = 1 := fun over_ => by
    have full : counted = setXsat s d := if_pos over_
    rw [full]
    exact fldGet_setBits s .arbXsat 0 hd
  rw [out_]
  clear_value counted
  refine ⟨fun up => ?_, fun down => ?_, fun over_ => ?_⟩
  · rw [if_neg (by rw [up]; decide), dom_modDom, here]
    exact ⟨rfl, rfl⟩
  · rw [if_pos down, dom_modDom, here]
    exact ⟨rfl, rfl⟩
  · split
    · exact sat over_
    · exact sat over_

/-! ### The stall watch (R357) -/

/-- A crossing whose oldest word a forced handshake has taken. -/
def stallCrossing (s : State) (x : Nat) : State :=
  let c := tget crossingInit s.xq x
  if c.words = [] then s else { s with xq := tset crossingInit s.xq x { c with words := c.words.drop 1, frameMarked := true } }

/-- Only crossings change. -/
theorem stallCrossings_rest (l : List Nat) (s : State) : l.foldl stallCrossing s = { s with xq := (l.foldl stallCrossing s).xq } := by
  induction l generalizing s with
  | nil => rfl
  | cons x l ih =>
    have one : stallCrossing s x = { s with xq := (stallCrossing s x).xq } := by
      unfold stallCrossing
      dsimp only
      split <;> rfl
    rw [List.foldl_cons, ih, one]

theorem stallCrossing_other (s : State) {x i : Nat} (other : i ≠ x) : tget crossingInit (stallCrossing s x).xq i = tget crossingInit s.xq i := by
  unfold stallCrossing
  dsimp only
  split
  · rfl
  · exact tget_tset_ne _ _ _ _ other

theorem stallCrossing_self (s : State) {x : Nat} {y : Word × Bool} {ys : List (Word × Bool)} (words : (tget crossingInit s.xq x).words = y :: ys) :
    (tget crossingInit (stallCrossing s x).xq x).words = ys ∧ (tget crossingInit (stallCrossing s x).xq x).frameMarked = true := by
  unfold stallCrossing
  dsimp only
  rw [if_neg (by rw [words]; exact List.cons_ne_nil _ _), tget_tset_self, words]
  exact ⟨rfl, rfl⟩

/-- A walk over crossings, each of them once. -/
theorem stallCrossings_listed {i : Nat} {y : Word × Bool} {ys : List (Word × Bool)} : ∀ (l : List Nat) (s : State), l.Nodup → i ∈ l →
    (tget crossingInit s.xq i).words = y :: ys →
    (tget crossingInit (l.foldl stallCrossing s).xq i).words = ys ∧ (tget crossingInit (l.foldl stallCrossing s).xq i).frameMarked = true
  | [], _, _, listed, _ => by cases listed
  | x :: l, s, distinct, listed, words => by
    obtain ⟨once, distinct'⟩ := List.nodup_cons.1 distinct
    by_cases here : i = x
    · subst here
      have stays : ∀ (m : List Nat) (t : State), i ∉ m → tget crossingInit (m.foldl stallCrossing t).xq i = tget crossingInit t.xq i := by
        intro m
        induction m with
        | nil => exact fun _ _ => rfl
        | cons x m ih =>
          intro t out
          rw [List.mem_cons, not_or] at out
          rw [List.foldl_cons, ih _ out.2, stallCrossing_other t out.1]
      rw [List.foldl_cons, stays l _ once]
      exact stallCrossing_self s words
    · have later : i ∈ l := (List.mem_cons.1 listed).resolve_left here
      exact stallCrossings_listed l (stallCrossing s x) distinct' later (by rw [stallCrossing_other s here, words])

theorem crossingsOf_nodup (d : Nat) : (crossingsOf d).Nodup := List.nodup_range.filter _

/-- A report on a domain leaves its stall and its count. -/
theorem report_domain (s : State) (d err part detail : Nat) : (dom (report s 9 d err part detail) d).stalled = (dom s d).stalled ∧
    (dom (report s 9 d err part detail) d).count = (dom s d).count := by
  by_cases serves : (punit s 9 d).state = 3
  · rw [report_retired _ _ _ serves]
    exact ⟨rfl, rfl⟩
  · cases probe : (punit s 9 d).probe with
    | some pr =>
      rw [report_joins _ _ _ serves probe]
      exact ⟨rfl, rfl⟩
    | none =>
      rw [report_starts _ _ _ serves probe, underProbe, if_neg (by decide), if_neg (by decide), if_pos rfl, dom_modDom]
      exact ⟨rfl, rfl⟩

/-- A unit that errs is under a probe. -/
theorem report_probed {s x : State} (units : ∀ c i, punit x c i = punit s c i) (now : x.now = s.now) {cls ix : Nat} (serves : (punit s cls ix).state ≠ 3)
    (err part detail : Nat) : (punit (report x cls ix err part detail) cls ix).probe.isSome = true := by
  obtain ⟨-, reported, -⟩ := report_reported units now cls ix err part detail
  obtain ⟨-, starts, joins⟩ := reported serves
  cases probe : (punit s cls ix).probe with
  | none => rw [starts probe, Option.isSome_some]
  | some pr => rw [joins pr probe, Option.isSome_some]

/-- KEEP_XLOG of a stall (R357). -/
def stallLogged (s : State) (d : Nat) (inward : Bool) (part : Nat) : State :=
  fldSet (fldSet (fldSet (bump s .keepXlog 0 63 48 1) .keepXlog 0 31 24 part) .keepXlog 0 23 20 (if inward then 1 else 2)) .keepXlog 0 19 12 d

/-- A count that waits is given up, and ARB_XSAT says so. -/
def countDropped (s : State) (d : Nat) : State :=
  if (dom s d).count = 0 then s else modDom (setXsat s d) d (fun x => { x with count := 0 })

theorem forceStall_eq {s : State} {d : Nat} (named : d ≠ 0) (up : (dom s d).down = false) (inward : Bool) (part : Nat) : forceStall s d inward part =
    report (modDom ((crossingsOf d).foldl stallCrossing (countDropped (stallLogged s d inward part) d)) d (fun x => { x with stalled := true }))
      9 d 0xA part 0 := by
  unfold forceStall
  rw [if_neg (by simp [named, up])]
  rfl

theorem countDropped_acts (s : State) {d : Nat} (hd : d < 64) : (dom (countDropped s d) d).count = 0 ∧
    (0 < (dom s d).count → fldGet (countDropped s d) .arbXsat 0 d d = 1) ∧ regGet (countDropped s d) .keepXlog 0 = regGet s .keepXlog 0 ∧
    (countDropped s d).faults = s.faults ∧ (countDropped s d).xq = s.xq ∧ (countDropped s d).now = s.now := by
  unfold countDropped
  split
  · exact ⟨by assumption, fun some_ => by omega, rfl, rfl, rfl, rfl⟩
  · refine ⟨by rw [dom_modDom], fun _ => fldGet_setBits s .arbXsat 0 hd, ?_, rfl, rfl, rfl⟩
    exact regGet_regSet_ne _ _ _ _ _ _ (by decide)

theorem stallLogged_fields (s : State) {d part : Nat} (hd : d < 256) (hp : part < 256) (inward : Bool) :
    fldGet (stallLogged s d inward part) .keepXlog 0 63 48 = min 65535 (fldGet s .keepXlog 0 63 48 + 1) ∧
      fldGet (stallLogged s d inward part) .keepXlog 0 31 24 = part ∧
      fldGet (stallLogged s d inward part) .keepXlog 0 23 20 = (if inward then 1 else 2) ∧ fldGet (stallLogged s d inward part) .keepXlog 0 19 12 = d := by
  unfold stallLogged
  refine ⟨?_, ?_, ?_, ?_⟩
  · rw [fldGet_fldSet_apart _ _ _ _ (by decide), fldGet_fldSet_apart _ _ _ _ (by decide), fldGet_fldSet_apart _ _ _ _ (by decide),
      fldGet_bump16 _ _ _ (by decide) rfl]
  · rw [fldGet_fldSet_apart _ _ _ _ (by decide), fldGet_fldSet_apart _ _ _ _ (by decide), fldGet_fldSet _ _ _ _ (by decide)]
    exact Nat.mod_eq_of_lt hp
  · rw [fldGet_fldSet_apart _ _ _ _ (by decide), fldGet_fldSet _ _ _ _ (by decide)]
    cases inward <;> rfl
  · rw [fldGet_fldSet _ _ _ _ (by decide)]
    exact Nat.mod_eq_of_lt hd

/-- A forced handshake: STALLED, the count given up, KEEP_XLOG, a probe, and each crossing's oldest word taken. -/
theorem forceStall_acts {s : State} {d : Nat} (named : d ≠ 0) (hd : d < 64) (up : (dom s d).down = false) (serves : (punit s 9 d).state ≠ 3)
    (inward : Bool) {part : Nat} (hp : part < 256) :
    let s' := forceStall s d inward part
    (dom s' d).stalled = true ∧ (dom s' d).count = 0 ∧ (0 < (dom s d).count → fldGet s' .arbXsat 0 d d = 1) ∧
      (punit s' 9 d).probe.isSome = true ∧ fldGet s' .keepXlog 0 63 48 = min 65535 (fldGet s .keepXlog 0 63 48 + 1) ∧
      fldGet s' .keepXlog 0 31 24 = part ∧ fldGet s' .keepXlog 0 23 20 = (if inward then 1 else 2) ∧ fldGet s' .keepXlog 0 19 12 = d ∧
      ∀ i ∈ crossingsOf d, ∀ y ys, (tget crossingInit s.xq i).words = y :: ys →
        (tget crossingInit s'.xq i).words = ys ∧ (tget crossingInit s'.xq i).frameMarked = true := by
  intro s'
  obtain ⟨count, sat, log, faults, xq, now⟩ := countDropped_acts (stallLogged s d inward part) hd
  obtain ⟨stalls, parts, dirs, numbers⟩ := stallLogged_fields s (Nat.lt_trans hd (by decide)) hp inward
  have rest := stallCrossings_rest (crossingsOf d) (countDropped (stallLogged s d inward part) d)
  have taken := fun i y ys => stallCrossings_listed (i := i) (y := y) (ys := ys) (crossingsOf d) (countDropped (stallLogged s d inward part) d)
  have forced : s' = _ := forceStall_eq named up inward part
  generalize countDropped (stallLogged s d inward part) d = dropped at *
  generalize (crossingsOf d).foldl stallCrossing dropped = walked at *
  have regs : walked.regs = dropped.regs := by rw [rest]
  have doms : walked.doms = dropped.doms := by rw [rest]
  have reported := report_frame (modDom walked d (fun x => { x with stalled := true })) 9 d 0xA part 0
  have reads : ∀ r hi lo, fldGet s' r 0 hi lo = fldGet dropped r 0 hi lo := fun r hi lo => by
    rw [forced, fldGet_of_regs (reported.same .regs (by decide)), ← fldGet_of_regs regs]
    rfl
  have logged : ∀ hi lo, fldGet s' .keepXlog 0 hi lo = fldGet (stallLogged s d inward part) .keepXlog 0 hi lo := fun hi lo => by
    rw [reads, fldGet, log, fldGet]
  have domain : (dom s' d).stalled = true ∧ (dom s' d).count = 0 := by
    obtain ⟨stalled, counts⟩ := report_domain (modDom walked d (fun x => { x with stalled := true })) d 0xA part 0
    rw [forced, stalled, counts, dom_modDom, dom, doms]
    exact ⟨rfl, count⟩
  refine ⟨domain.1, domain.2, fun waits => by rw [reads]; exact sat waits, ?_, by rw [logged, stalls], by rw [logged, parts], by rw [logged, dirs],
    by rw [logged, numbers], fun i listed y ys words => ?_⟩
  · rw [forced]
    refine report_probed (s := s) (fun c i => ?_) ?_ serves 0xA part 0
    · exact punit_of_faults (by rw [rest]; exact faults) c i
    · change walked.now = s.now
      rw [rest]
      exact now
  · have same : s'.xq = walked.xq := by
      rw [forced]
      exact reported.same .xq (by decide)
    rw [same]
    exact taken i y ys (crossingsOf_nodup d) listed (by rw [xq]; exact words)

/-! ### A domain reset (R359) -/

theorem flushCrossing_xq (s : State) (x : Nat) : (flushCrossing s x).xq = tset crossingInit s.xq x crossingInit := by
  unfold flushCrossing
  extract_lets c whole tail n emptied
  split <;> rfl

/-- A flushed crossing is empty. -/
theorem flushCrossings_listed {i : Nat} (l : List Nat) (s : State) (listed : i ∈ l) :
    tget crossingInit (l.foldl flushCrossing s).xq i = crossingInit := by
  refine foldl_reaches (P := fun s : State => tget crossingInit s.xq i = crossingInit) (Q := fun _ => True) (a := i) (fun _ _ _ => trivial) ?_ ?_ listed trivial
  · intro s _
    rw [flushCrossing_xq, tget_tset_self]
  · intro s x _ empty
    rw [flushCrossing_xq, tget_tset]
    split
    · rfl
    · exact empty

theorem flushCrossing_doms (s : State) (x : Nat) : (flushCrossing s x).doms = s.doms := by
  unfold flushCrossing
  extract_lets c whole tail n emptied
  split <;> rfl

/-- What a flush leaves of what holds a domain DOWN: a lane's state is no counter. -/
def flushParts : List Part := [.regs, .doms, .xq]

theorem flushDomain_frame (s : State) (d : Nat) : Within (· ∈ flushParts) s (flushDomain s d) :=
  @flushDomain_within _ ⟨by decide⟩ ⟨by decide⟩ ⟨by decide⟩ _ _ _ (Within.refl s)

/-- A flush counts in LANE_DROP and ARB_XSAT alone. -/
theorem regGet_flushDomain {q : Reg} (drop : (regPlace q).base ≠ (regPlace .laneDrop).base) (sat : (regPlace q).base ≠ (regPlace .arbXsat).base)
    (s : State) (d : Nat) {l : Nat} (hl : l < 4096) : regGet (flushDomain s d) q l = regGet s q l := by
  have drops : ∀ x : Nat, x < 4096 → ∀ s : State, regGet (flushCrossing s x) q l = regGet s q l := fun x hx s => by
    unfold flushCrossing
    extract_lets c whole tail n emptied
    split
    · rfl
    · exact regGet_fldSet_ne emptied (regKey_ne hl (by unfold crossingLane; omega) drop) _ _ _
  have walked : ∀ (m : List Nat) (_ : ∀ x ∈ m, x < 4096) (s : State), regGet (m.foldl flushCrossing s) q l = regGet s q l := by
    intro m
    induction m with
    | nil => exact fun _ _ => rfl
    | cons x m ih => exact fun small s => (ih (fun y hy => small y (List.mem_cons_of_mem _ hy)) _).trans (drops x (small x List.mem_cons_self) s)
  unfold flushDomain
  extract_lets flushed marked
  have crossings : regGet flushed q l = regGet s q l := walked _ (crossingsOf_lt d) s
  have marks : regGet marked q l = regGet flushed q l := by
    unfold marked
    split
    · rfl
    · exact regGet_regSet_ne _ _ _ _ _ _ (regKey_ne hl (by decide) sat)
  exact marks.trans crossings

theorem flushDomain_laneStat (s : State) (d : Nat) {l : Nat} (hl : l < 4096) : regGet (flushDomain s d) .laneStat l = regGet s .laneStat l :=
  regGet_flushDomain (by decide) (by decide) s d hl

theorem laneState_congr {s s' : State} (kc : s'.kc = s.kc) {l : Nat} (reg : regGet s' .laneStat l = regGet s .laneStat l) :
    laneState s' l = laneState s l := by
  rw [laneState, laneState, kc, fldGet, reg, fldGet]

theorem funcUp_congr {s s' : State} (kc : s'.kc = s.kc) (lanes : ∀ l < 4096, regGet s' .laneStat l = regGet s .laneStat l) (f : Nat) :
    funcUp s' f = funcUp s f := by
  have states : ∀ l ∈ lanesOf s f, laneState s' l = laneState s l := fun l hl => laneState_congr kc (lanes l (lanesOf_lt s f l hl))
  have listed : lanesOf s' f = lanesOf s f := by rw [lanesOf, kc, lanesOf]
  have active : (lanesOf s f).any (fun l => laneState s' l == 3) = (lanesOf s f).any (fun l => laneState s l == 3) := by
    rw [Bool.eq_iff_iff, List.any_eq_true, List.any_eq_true]
    exact exists_congr fun l => and_congr_right fun hl => by rw [states l hl]
  have settled : (lanesOf s f).all (fun l => laneState s' l == 3 || laneState s' l == 4) =
      (lanesOf s f).all (fun l => laneState s l == 3 || laneState s l == 4) := by
    rw [Bool.eq_iff_iff, List.all_eq_true, List.all_eq_true]
    exact forall₂_congr fun l hl => by rw [states l hl]
  rw [funcUp, listed, active, settled, funcUp]

/-- What holds a domain DOWN does not change with crossings and counts. -/
theorem heldDown_congr {s s' : State} (kc : s'.kc = s.kc) (faults : s'.faults = s.faults) (pins : s'.pins = s.pins) (westad : s'.westad = s.westad)
    (supply : s'.supply = s.supply) (lanes : ∀ l < 4096, regGet s' .laneStat l = regGet s .laneStat l) (d : Nat) : heldDown s' d = heldDown s d := by
  have up := funcUp_congr kc lanes
  have units : punit s' 9 d = punit s 9 d := punit_of_faults faults 9 d
  have link : wlink s' (d - 8) = wlink s (d - 8) := by rw [wlink, westad, wlink]
  rw [heldDown, heldDown, retired, retired, probing, probing, units, up, up, up, faults, pins, supply, link]

theorem flushDomain_heldDown (s : State) (d : Nat) : heldDown (flushDomain s d) d = heldDown s d := by
  have frame := flushDomain_frame s d
  exact heldDown_congr (frame.same .kc (by decide)) (frame.same .faults (by decide)) (frame.same .pins (by decide)) (frame.same .westad (by decide))
    (frame.same .supply (by decide)) (fun l hl => flushDomain_laneStat s d hl) d

theorem flushCrossings_doms (l : List Nat) (s : State) : (l.foldl flushCrossing s).doms = s.doms := by
  induction l generalizing s with
  | nil => rfl
  | cons x l ih => exact (ih _).trans (flushCrossing_doms s x)

/-- A flush empties the crossings, gives up the count and marks ARB_XSAT for one that waits. -/
theorem flushDomain_acts (s : State) {d : Nat} (hd : d < 64) : (dom (flushDomain s d) d).count = 0 ∧
    (0 < (dom s d).count → fldGet (flushDomain s d) .arbXsat 0 d d = 1) ∧ ∀ i ∈ crossingsOf d, tget crossingInit (flushDomain s d).xq i = crossingInit := by
  unfold flushDomain
  extract_lets flushed marked
  have empty : ∀ i ∈ crossingsOf d, tget crossingInit flushed.xq i = crossingInit := fun i hi => flushCrossings_listed _ s hi
  have doms : (dom flushed d).count = (dom s d).count := by rw [dom, flushCrossings_doms, dom]
  have xq : marked.xq = flushed.xq := by
    unfold marked
    split <;> rfl
  have sat : 0 < (dom s d).count → fldGet marked .arbXsat 0 d d = 1 := fun waits => by
    have set : marked = setXsat flushed d := if_neg (by omega)
    rw [set]
    exact fldGet_setBits flushed .arbXsat 0 hd
  clear_value marked
  refine ⟨by rw [dom_modDom], fun waits => sat waits, fun i hi => ?_⟩
  change tget crossingInit marked.xq i = _
  rw [xq, empty i hi]

/-- A domain's reset (R359). -/
theorem resetDomain_acts (s : State) {d : Nat} (hd : d < 64) :
    let s' := resetDomain s d
    (dom s' d).stalled = false ∧ (dom s' d).count = 0 ∧ (dom s' d).down = heldDown s d ∧ (0 < (dom s d).count → fldGet s' .arbXsat 0 d d = 1) ∧
      ∀ i ∈ crossingsOf d, tget crossingInit s'.xq i = crossingInit := by
  intro s'
  obtain ⟨count, sat, empty⟩ := flushDomain_acts s hd
  have reset : dom s' d = { dom (flushDomain s d) d with stalled := false, down := heldDown (flushDomain s d) d } := dom_modDom _ _ _
  rw [reset]
  exact ⟨rfl, count, flushDomain_heldDown s d, sat, empty⟩

/-! ### The obligation -/

/-- Bits of ARB_XMODE for named domains are RW. -/
theorem arbXmode_bits : ∀ d : Fin 26, d ≠ 0 →
    (regAccess .arbXmode).rw.getLsbD d = true ∧ (regAccess .arbXmode).w1c.getLsbD d = false := by decide

/-- Settles O29: a decision picks by wait limit, draw or rotation, and each event of a domain acts on its own count, flags and crossings. -/
theorem fabricEvents : Obligations.FabricEvents := by
  unfold Obligations.FabricEvents
  refine ⟨?_, ?_, fun s p v => ⟨fun hp ready boot d hd => ?_, fun shut => ?_⟩⟩
  · intro s a contestants ha x cs tk total isFirst atLimit r below wins
    have rising : cs.Pairwise (· < ·) := List.pairwise_lt_range.filter _
    have distinct : cs.Nodup := List.nodup_range.filter _
    have runs := execArbiterDraw_next ha contestants s
    have after_ : arb (drawArb s a cs).2 a = (decideArb x tk cs).2 := arb_drawArb s a cs
    have wonBy : ∀ {w : Nat} {forced drawn : Bool}, x.forced < 2 ^ 16 → w ∈ cs → (decideArb x tk cs).2 = decided x tk cs w forced drawn → wins w forced drawn :=
      fun {w forced drawn} small listed winner => by
        obtain ⟨a1, a2, a3, a4, a5, a6, a7, a8, a9⟩ := decided_wonBy (tk := tk) small distinct listed forced drawn
        refine ⟨_, runs, ?_⟩
        dsimp only
        rw [after_, winner]
        exact ⟨a1, a2, a3, a4, a5, a6, a7, a8, a9⟩
    refine ⟨fun empty => ⟨_, runs, ?_⟩, fun small w first => ?_, fun small none_ seeded w listed low high => ?_, fun small none_ blind w first => ?_⟩
    · change arb (drawArb s a cs).2 a = x
      rw [after_, empty, decideArb_empty]
    · exact wonBy small (List.mem_filter.1 first.1).1 (decideArb_forced (firstAfter_of_firstIn (rising.filter _) first))
    · have tickets : below w = ((cs.filter (fun c => decide (c < w))).map (fun c => (tk c).1)).sum := (foldl_plus _ _ 0).trans (Nat.zero_add _)
      have some_ : 0 < allTickets tk cs := by
        refine Nat.pos_of_ne_zero fun none_ => ?_
        have zero : total = 0 := none_
        have own : (tk w).1 ≤ 0 := by
          have all_ : total = (cs.map (fun c => (tk c).1)).sum := List.sum_eq_foldl.symm
          rw [← zero, all_]
          exact List.single_le_sum (fun _ _ => Nat.zero_le _) _ (List.mem_map_of_mem listed)
        have draw : r = 0 := by
          change _ * total / _ = 0
          rw [zero, Nat.mul_zero, Nat.zero_div]
        omega
      exact wonBy small listed (decideArb_drawn none_ seeded some_ (ticketOwner_of_range _ rising listed (tickets ▸ low) (tickets ▸ high)))
    · exact wonBy small first.1 (decideArb_rotates none_ blind (firstAfter_of_firstIn rising first))
  · intro s d named x xsat
    have hd : d.val < 64 := Nat.lt_trans d.isLt (by decide)
    have named' : d.val ≠ 0 := fun same => named (Fin.ext same)
    refine ⟨fun n => completes_to rfl rfl (countEvents_acts s named' hd n),
      fun inward part up serves => completes_to rfl rfl (forceStall_acts named' hd up serves inward part.isLt), fun inward part down => ⟨_, rfl, ?_⟩,
      completes_to rfl (if_neg named') (resetDomain_acts s hd)⟩
    exact if_pos (Or.inr down)
  · subst hp
    refine ⟨_, rfl, ?_⟩
    have writes : arbXmodeWrite s 0 v = plainWrite s .arbXmode 0 v := if_neg (by simp [ready, boot])
    change fldGet (arbXmodeWrite s 0 v) .arbXmode 0 d d = _
    rw [writes]
    refine fldGet_plainWrite s 0 v (Nat.lt_trans d.isLt (by decide)) fun i low high => ?_
    obtain rfl : i = Fin.castLE (by decide) d := Fin.ext (Nat.le_antisymm high low)
    exact arbXmode_bits d hd
  · refine ⟨_, rfl, if_pos ?_⟩
    rcases shut with other | ready
    · exact Or.inl fun same => other (Fin.ext same)
    · exact Or.inr (Or.inl ready)

end Sys2Proof.Machine
end

section
/-! PERST_N, and lanes that lose lock and train (R359, R384, R437, R522). -/

namespace Sys2Proof.Machine

open Sys2Proof.Claims

/-! ### A lane's state -/

theorem laneState_of_regs {s s' : State} (kc : s'.kc = s.kc) (regs : s'.regs = s.regs) (l : Nat) : laneState s' l = laneState s l :=
  laneState_congr kc (regGet_of_regs regs _ _)

theorem laneState_setLane {s : State} {l : Nat} (used : kcLaneFunc s.kc l ≠ 0) {st : Nat} (small : st < 16) : laneState (setLane s l st) l = st := by
  have func_ : kcLaneFunc (setLane s l st).kc l = kcLaneFunc s.kc l := rfl
  rw [laneState, func_, if_neg used, setLane, fldGet_fldSet s .laneStat l st (by decide)]
  exact Nat.mod_eq_of_lt small

theorem laneState_setLane_ne (s : State) {l n : Nat} (apart : n ≠ l) (st : Nat) : laneState (setLane s l st) n = laneState s n :=
  laneState_congr (s := s) (s' := setLane s l st) rfl (regGet_fldSet_ne s (regKey_ne_of_index apart) _ _ _)

/-- A lane in some state has a function. -/
theorem laneFunc_of_state {s : State} {l n : Nat} (state : laneState s l = n) (some_ : n ≠ 0) : kcLaneFunc s.kc l ≠ 0 := fun unused =>
  some_ (state.symm.trans (if_pos unused))

/-- The lanes of a function that have not failed are set to a state. -/
def lanesSet (s : State) (f st : Nat) : State := (lanesOf s f).foldl (fun s l => if laneState s l = 4 then s else setLane s l st) s

/-- The lanes of PCIe that are down train. -/
def pcieTrains (s : State) : State := (lanesOf s 3).foldl (fun s l => if laneState s l = 1 then setLane s l 2 else s) s

theorem lanesSet_frame (s : State) (f st : Nat) : Within (· ∈ [Part.regs]) s (lanesSet s f st) :=
  foldl_keeps (P := Within (· ∈ [Part.regs]) s) (fun t l kept => by
    have : Has (· ∈ [Part.regs]) .regs := has_mem (by decide)
    split
    · exact kept
    · exact fldSet_within _ _ _ _ _ _ kept) _ (Within.refl s)

theorem pcieTrains_frame (s : State) : Within (· ∈ [Part.regs]) s (pcieTrains s) :=
  foldl_keeps (P := Within (· ∈ [Part.regs]) s) (fun t l kept => by
    have : Has (· ∈ [Part.regs]) .regs := has_mem (by decide)
    split
    · exact fldSet_within _ _ _ _ _ _ kept
    · exact kept) _ (Within.refl s)

theorem lanesOf_mem {s : State} {f l : Nat} (low : l < 48) (has : kcLaneFunc s.kc l = f) : l ∈ lanesOf s f :=
  List.mem_filter.2 ⟨List.mem_range.2 low, beq_iff_eq.2 has⟩

/-- Every lane of the function that has not failed is in the state. -/
theorem lanesSet_state {s : State} {f l st : Nat} (low : l < 48) (has : kcLaneFunc s.kc l = f) (named : f ≠ 0) (small : st < 16)
    (sound : laneState s l ≠ 4) (other : st ≠ 4) : laneState (lanesSet s f st) l = st := by
  refine foldl_reaches (Q := fun t : State => t.kc = s.kc ∧ laneState t l ≠ 4) (P := fun t : State => laneState t l = st) (a := l) (fun t n ground => ?_)
    (fun t ground => ?_) (fun t n ground here => ?_) (lanesOf_mem low has) ⟨rfl, sound⟩
  · obtain ⟨kc, ground⟩ := ground
    split
    · exact ⟨kc, ground⟩
    · by_cases same : l = n
      · subst same
        exact ⟨kc, by rw [laneState_setLane (by rw [kc, has]; exact named) small]; exact other⟩
      · exact ⟨kc, by rwa [laneState_setLane_ne t same]⟩
  · obtain ⟨kc, ground⟩ := ground
    rw [if_neg ground, laneState_setLane (by rw [kc, has]; exact named) small]
  · obtain ⟨kc, ground⟩ := ground
    split
    · exact here
    · by_cases same : l = n
      · subst same
        exact laneState_setLane (by rw [kc, has]; exact named) small
      · rwa [laneState_setLane_ne t same]

/-- A lane of PCIe that was down trains. -/
theorem pcieTrains_state {s : State} {l : Nat} (low : l < 48) (has : kcLaneFunc s.kc l = 3) (down : laneState s l = 1) :
    laneState (pcieTrains s) l = 2 := by
  refine foldl_reaches (Q := fun t : State => t.kc = s.kc ∧ (laneState t l = 1 ∨ laneState t l = 2)) (P := fun t : State => laneState t l = 2) (a := l)
    (fun t n ground => ?_) (fun t ground => ?_) (fun t n ground here => ?_) (lanesOf_mem low has) ⟨rfl, .inl down⟩
  · obtain ⟨kc, ground⟩ := ground
    split
    · by_cases same : l = n
      · subst same
        exact ⟨kc, .inr (laneState_setLane (by rw [kc, has]; decide) (by decide))⟩
      · exact ⟨kc, by rwa [laneState_setLane_ne t same]⟩
    · exact ⟨kc, ground⟩
  · obtain ⟨kc, starts | trains⟩ := ground
    · rw [if_pos starts, laneState_setLane (by rw [kc, has]; decide) (by decide)]
    · rw [if_neg (by omega), trains]
  · split
    · next starts =>
        have apart : l ≠ n := by
          rintro rfl
          omega
        rwa [laneState_setLane_ne t apart]
    · exact here

/-! ### Domains that go DOWN and come back -/

theorem dom_of_doms {s s' : State} (doms : s'.doms = s.doms) (d : Nat) : dom s' d = dom s d := by rw [dom, doms, dom]

theorem flushDomain_eq_modDom (s : State) (d : Nat) : ∃ t, t.doms = s.doms ∧ flushDomain s d = modDom t d (fun x => { x with count := 0 }) := by
  refine ⟨_, ?_, rfl⟩
  split
  · exact flushCrossings_doms _ s
  · exact flushCrossings_doms _ s

theorem dom_flushDomain (s : State) (d : Nat) : dom (flushDomain s d) d = { dom s d with count := 0 } := by
  obtain ⟨t, doms, flushed⟩ := flushDomain_eq_modDom s d
  rw [flushed, dom_modDom, dom_of_doms doms]

theorem dom_flushDomain_ne (s : State) {d e : Nat} (apart : e ≠ d) : dom (flushDomain s d) e = dom s e := by
  obtain ⟨t, doms, flushed⟩ := flushDomain_eq_modDom s d
  rw [flushed, dom_modDom_ne _ _ _ _ apart, dom_of_doms doms]

theorem dom_downDomain (s : State) (d : Nat) : dom (downDomain s d) d = { dom s d with count := 0, down := true } := by
  rw [downDomain, domDown, dom_modDom, dom_flushDomain]

theorem dom_downDomain_ne (s : State) {d e : Nat} (apart : e ≠ d) : dom (downDomain s d) e = dom s e := by
  rw [downDomain, domDown, dom_modDom_ne _ _ _ _ apart, dom_flushDomain_ne s apart]

theorem dom_resetDomain_ne (s : State) {d e : Nat} (apart : e ≠ d) : dom (resetDomain s d) e = dom s e := by
  rw [resetDomain, dom_modDom_ne _ _ _ _ apart, dom_flushDomain_ne s apart]

/-- What is DOWN stays so while others go DOWN. -/
theorem downDomain_stays (s : State) (e : Nat) {d : Nat} (down : (dom s d).down = true) : (dom (downDomain s e) d).down = true := by
  by_cases same : d = e
  · rw [same, dom_downDomain]
  · rwa [dom_downDomain_ne s same]

/-- Both domains of PCIe DOWN. -/
theorem downDomains_pcie (s : State) : (dom (downDomain (downDomain s 6) 7) 6).down = true ∧ (dom (downDomain (downDomain s 6) 7) 7).down = true := by
  have first : (dom (downDomain s 6) 6).down = true := by rw [dom_downDomain]
  refine ⟨downDomain_stays _ 7 first, ?_⟩
  rw [dom_downDomain]

/-- An empty crossing stays empty under a flush. -/
theorem flushCrossings_stays {i : Nat} (l : List Nat) (s : State) (empty : tget crossingInit s.xq i = crossingInit) :
    tget crossingInit (l.foldl flushCrossing s).xq i = crossingInit :=
  foldl_keeps (P := fun s : State => tget crossingInit s.xq i = crossingInit) (fun s x empty => by
    rw [flushCrossing_xq, tget_tset]
    split
    · rfl
    · exact empty) l empty

theorem flushDomain_xq (s : State) (d : Nat) : (flushDomain s d).xq = ((crossingsOf d).foldl flushCrossing s).xq := by
  unfold flushDomain
  extract_lets flushed marked
  have same : marked.xq = flushed.xq := by
    unfold marked
    split <;> rfl
  exact same

/-- A domain that has gone DOWN with its crossings reset. -/
def Shut (s : State) (d : Nat) : Prop := (dom s d).down = true ∧ (dom s d).count = 0 ∧ ∀ x ∈ crossingsOf d, tget crossingInit s.xq x = crossingInit

theorem Shut.congr {s s' : State} {d : Nat} (shut : Shut s d) (doms : s'.doms = s.doms) (xq : s'.xq = s.xq) : Shut s' d := by
  rwa [Shut, dom_of_doms doms, xq]

theorem downDomain_shut (s : State) (d : Nat) : Shut (downDomain s d) d := by
  have flushed : (downDomain s d).xq = (flushDomain s d).xq := rfl
  rw [Shut, dom_downDomain, flushed, flushDomain_xq]
  exact ⟨rfl, rfl, fun x hx => flushCrossings_listed _ s hx⟩

theorem Shut.downDomain {s : State} {d : Nat} (shut : Shut s d) (e : Nat) : Shut (downDomain s e) d := by
  by_cases same : d = e
  · rw [same]
    exact downDomain_shut s e
  · obtain ⟨down, count, empty⟩ := shut
    have flushed : (Machine.downDomain s e).xq = (flushDomain s e).xq := rfl
    rw [Shut, dom_downDomain_ne s same, flushed, flushDomain_xq]
    exact ⟨down, count, fun x hx => flushCrossings_stays _ s (empty x hx)⟩

theorem downDomains_shut {d : Nat} {l : List Nat} (listed : d ∈ l) (s : State) : Shut (l.foldl downDomain s) d :=
  foldl_reaches (Q := fun _ => True) (P := fun s => Shut s d) (fun _ _ _ => trivial) (fun s _ => downDomain_shut s d)
    (fun _ e _ shut => shut.downDomain e) listed trivial

/-- A domain that has come out of its reset, DOWN only where the device holds it so. -/
def Fresh (s : State) (d : Nat) : Prop := (dom s d).stalled = false ∧ (dom s d).count = 0 ∧ (dom s d).down = heldDown s d

theorem resetDomain_heldDown (s : State) (e d : Nat) : heldDown (resetDomain s e) d = heldDown s d := by
  have frame := flushDomain_frame s e
  exact heldDown_congr (s' := resetDomain s e) (frame.same .kc (by decide)) (frame.same .faults (by decide)) (frame.same .pins (by decide))
    (frame.same .westad (by decide)) (frame.same .supply (by decide)) (fun l hl => flushDomain_laneStat s e hl) d

theorem resetDomain_fresh (s : State) (d : Nat) : Fresh (resetDomain s d) d := by
  have reset : dom (resetDomain s d) d = { dom (flushDomain s d) d with stalled := false, down := heldDown (flushDomain s d) d } := dom_modDom _ _ _
  rw [Fresh, resetDomain_heldDown, reset, dom_flushDomain, flushDomain_heldDown]
  exact ⟨rfl, rfl, rfl⟩

theorem resetDomains_fresh {d : Nat} {l : List Nat} (listed : d ∈ l) (s : State) : Fresh (l.foldl resetDomain s) d := by
  refine foldl_reaches (Q := fun _ => True) (P := fun s => Fresh s d) (fun _ _ _ => trivial) (fun s _ => resetDomain_fresh s d) (fun s e _ fresh => ?_)
    listed trivial
  by_cases same : d = e
  · rw [← same]
    exact resetDomain_fresh s d
  · rw [Fresh, dom_resetDomain_ne s same, resetDomain_heldDown]
    exact fresh

/-! ### The events -/

/-- A lane that loses lock trains, and may be reported (R384, R473). -/
def lockLost (s : State) (l : Nat) : State :=
  let t := (laneDomains s l).foldl downDomain (setLane s l 2)
  { t with faults := { t.faults with lockLoss := aput t.faults.lockLoss l t.now } }

/-- Whether a lane lost lock less than 1 s ago. -/
def lostAgain (s : State) (l : Nat) : Bool := match alook s.faults.lockLoss l with | some t => decide (s.now < t + 10 ^ 9) | none => false

/-- What a domain going DOWN leaves. -/
theorem downDomains_frame (l : List Nat) (s : State) : Within (· ∈ flushParts) s (l.foldl downDomain s) :=
  foldl_keeps (P := Within (· ∈ flushParts) s) (fun t d kept => by
    have : Has (· ∈ flushParts) .regs := has_mem (by decide)
    have : Has (· ∈ flushParts) .doms := has_mem (by decide)
    have : Has (· ∈ flushParts) .xq := has_mem (by decide)
    exact downDomain_within _ _ kept) l (Within.refl s)

theorem downDomains_laneStat (l : List Nat) (s : State) {n : Nat} (hn : n < 4096) :
    regGet (l.foldl downDomain s) .laneStat n = regGet s .laneStat n :=
  view_foldl (g := fun s : State => regGet s .laneStat n) (f := downDomain) (fun s d => flushDomain_laneStat s d hn) l s

theorem lockLost_state {s : State} {l : Nat} (low : l < 4096) (used : kcLaneFunc s.kc l ≠ 0) : laneState (lockLost s l) l = 2 := by
  have frame := downDomains_frame (laneDomains s l) (setLane s l 2)
  have same : laneState (lockLost s l) l = laneState (setLane s l 2) l :=
    laneState_congr (frame.same .kc (by decide)) (downDomains_laneStat _ _ low)
  rw [same, laneState_setLane used (by decide)]

theorem lockLost_reads (s : State) (l : Nat) : lostAgain s l = (match alook ((laneDomains s l).foldl downDomain (setLane s l 2)).faults.lockLoss l with
    | some t => decide (((laneDomains s l).foldl downDomain (setLane s l 2)).now < t + 10 ^ 9) | none => false) := by
  have frame := downDomains_frame (laneDomains s l) (setLane s l 2)
  have faults : ((laneDomains s l).foldl downDomain (setLane s l 2)).faults = s.faults := frame.same .faults (by decide)
  have now : ((laneDomains s l).foldl downDomain (setLane s l 2)).now = s.now := frame.same .now (by decide)
  rw [faults, now]
  rfl

theorem loseLock_eq {s : State} {l : Nat} (up : laneState s l = 3) : loseLock s l =
    if lostAgain s l then report (lockLost s l) 8 l 0xD 0xFF l else lockLost s l := by
  rw [lockLost_reads]
  unfold loseLock
  rw [if_neg (by simp [up])]
  rfl

/-- A report on a lane leaves domains, crossings, registers and the keycut. -/
theorem report_lane (s : State) (l err part detail : Nat) : (report s 8 l err part detail).doms = s.doms := by
  by_cases serves : (punit s 8 l).state = 3
  · rw [report_retired _ _ _ serves]
    rfl
  · cases probe : (punit s 8 l).probe with
    | some pr =>
      rw [report_joins _ _ _ serves probe]
      rfl
    | none =>
      rw [report_starts _ _ _ serves probe, underProbe, if_neg (by decide), if_neg (by decide), if_neg (by decide)]
      rfl

theorem loseLock_acts {s : State} {l : Nat} (low : l < 48) (up : laneState s l = 3) : laneState (loseLock s l) l = 2 ∧
    (∀ d ∈ laneDomains s l, Shut (loseLock s l) d) ∧
    (∀ t, alook s.faults.lockLoss l = some t → s.now < t + 10 ^ 9 → (punit s 8 l).state ≠ 3 → (punit (loseLock s l) 8 l).probe.isSome = true) := by
  have used := laneFunc_of_state up (by decide)
  have state := lockLost_state (Nat.lt_trans low (by decide)) used
  have shut : ∀ d ∈ laneDomains s l, Shut (lockLost s l) d := fun d hd => (downDomains_shut hd (setLane s l 2)).congr rfl rfl
  have frame := downDomains_frame (laneDomains s l) (setLane s l 2)
  have units : ∀ c i, punit (lockLost s l) c i = punit s c i := fun c i => by
    have faults : ((laneDomains s l).foldl downDomain (setLane s l 2)).faults = s.faults := frame.same .faults (by decide)
    change tget unitInit ((laneDomains s l).foldl downDomain (setLane s l 2)).faults.units _ = _
    rw [faults, punit]
  have now : (lockLost s l).now = s.now := frame.same .now (by decide)
  rw [loseLock_eq up]
  cases again : lostAgain s l with
  | false =>
    refine ⟨state, shut, fun t look recent => ?_⟩
    rw [lostAgain, look] at again
    exact absurd recent (of_decide_eq_false again)
  | true =>
    have reported := report_frame (lockLost s l) 8 l 0xD 0xFF l
    refine ⟨?_, fun d hd => (shut d hd).congr (report_lane _ _ _ _ _) (reported.same .xq (by decide)),
      fun t _ _ serves => report_probed units now serves 0xD 0xFF l⟩
    exact (laneState_of_regs (reported.same .kc (by decide)) (reported.same .regs (by decide)) l).trans state

/-- The PCIe link goes down (R400). -/
theorem linkDown_eq (s : State) : linkDown s = [6, 7].foldl downDomain { lanesSet s 3 1 with linkPower := .l0 } := rfl

/-- What the end of the PCIe link leaves. -/
def linkParts : List Part := [.regs, .doms, .xq, .linkPower]

theorem linkDown_frame (s : State) : Within (· ∈ linkParts) s (linkDown s) :=
  have : Has (· ∈ linkParts) .regs := has_mem (by decide)
  have : Has (· ∈ linkParts) .doms := has_mem (by decide)
  have : Has (· ∈ linkParts) .xq := has_mem (by decide)
  have : Has (· ∈ linkParts) .linkPower := has_mem (by decide)
  linkDown_within s (Within.refl s)

theorem linkDown_acts (s : State) : (dom (linkDown s) 6).down = true ∧ (dom (linkDown s) 7).down = true ∧ (linkDown s).linkPower = .l0 := by
  rw [linkDown_eq]
  generalize lanesSet s 3 1 = t
  obtain ⟨down6, down7⟩ := downDomains_pcie { t with linkPower := .l0 }
  exact ⟨down6, down7, (downDomains_frame [6, 7] { t with linkPower := .l0 }).same .linkPower (by decide)⟩

/-- PERST_N is asserted (R522). -/
theorem perst_asserted_acts (s : State) : (perst s true).pins.perstN = false ∧ (dom (perst s true) 6).down = true ∧
    (dom (perst s true) 7).down = true ∧ (perst s true).linkPower = .l0 := by
  have asserted : perst s true = linkDown { s with pins := { s.pins with perstN := false } } := rfl
  have pins : (perst s true).pins = { s.pins with perstN := false } := by
    rw [asserted]
    exact (linkDown_frame { s with pins := { s.pins with perstN := false } }).same .pins (by decide)
  rw [pins, asserted]
  exact ⟨rfl, linkDown_acts _⟩

/-- PERST_N is released (R522). -/
theorem perst_released (s : State) : perst s false = [6, 7].foldl downDomain (pcieTrains { s with pins := { s.pins with perstN := true } }) := rfl

theorem perst_released_acts (s : State) : (perst s false).pins.perstN = true ∧ (dom (perst s false) 6).down = true ∧
    (dom (perst s false) 7).down = true ∧ ∀ l, l < 48 → kcLaneFunc s.kc l = 3 → laneState s l = 1 → laneState (perst s false) l = 2 := by
  have trains : ∀ l, l < 48 → kcLaneFunc s.kc l = 3 → laneState s l = 1 →
    laneState (pcieTrains { s with pins := { s.pins with perstN := true } }) l = 2 := fun l low has down =>
    pcieTrains_state low has ((laneState_of_regs (s := s) rfl rfl l).trans down)
  have set_ := pcieTrains_frame { s with pins := { s.pins with perstN := true } }
  have pins : (pcieTrains { s with pins := { s.pins with perstN := true } }).pins = { s.pins with perstN := true } := set_.same .pins (by decide)
  rw [perst_released]
  generalize pcieTrains { s with pins := { s.pins with perstN := true } } = t at *
  have flushed := downDomains_frame [6, 7] t
  obtain ⟨down6, down7⟩ := downDomains_pcie t
  refine ⟨?_, down6, down7, fun l low has down => ?_⟩
  · have same : ([6, 7].foldl downDomain t).pins = t.pins := flushed.same .pins (by decide)
    rw [same, pins]
  · refine Eq.trans (laneState_congr (flushed.same .kc (by decide)) (downDomains_laneStat [6, 7] t (Nat.lt_trans low (by decide)))) ?_
    exact trains l low has down

theorem resetDomains_frame (l : List Nat) (s : State) : Within (· ∈ flushParts) s (l.foldl resetDomain s) :=
  foldl_keeps (P := Within (· ∈ flushParts) s) (fun t d kept => by
    have : Has (· ∈ flushParts) .regs := has_mem (by decide)
    have : Has (· ∈ flushParts) .doms := has_mem (by decide)
    have : Has (· ∈ flushParts) .xq := has_mem (by decide)
    exact resetDomain_within _ _ kept) l (Within.refl s)

theorem resetDomains_laneState (l : List Nat) (s : State) {n : Nat} (hn : n < 4096) : laneState (l.foldl resetDomain s) n = laneState s n :=
  laneState_congr ((resetDomains_frame l s).same .kc (by decide))
    (view_foldl (g := fun s : State => regGet s .laneStat n) (f := resetDomain) (fun s d => flushDomain_laneStat s d hn) l s)

/-- A lane that has trained is up, and its domains have come out of reset (R384). -/
theorem trainedLane_acts {s : State} {l : Fin 48} (trains : laneState s l = 1 ∨ laneState s l = 2)
    (free : padsHeld s (kcLaneFunc s.kc l) = false) :
    laneState (trained s (.lane l)) l = 3 ∧ ∀ d ∈ laneDomains s l, Fresh (trained s (.lane l)) d := by
  have used : kcLaneFunc s.kc l ≠ 0 := by
    rcases trains with down | train
    · exact laneFunc_of_state down (by decide)
    · exact laneFunc_of_state train (by decide)
  have up : trained s (.lane l) = (laneDomains s l).foldl resetDomain (setLane s l 3) :=
    (if_neg (by rw [free]; decide)).trans (if_pos trains)
  rw [up]
  refine ⟨?_, fun d hd => resetDomains_fresh hd _⟩
  rw [resetDomains_laneState _ _ (Nat.lt_trans l.isLt (by decide)), laneState_setLane used (by decide)]

theorem sendAllHeld_laneState (s : State) (l : Nat) : laneState (sendAllHeld s) l = laneState s l :=
  have : Has (· ∈ [Part.intake, .linkPower, .out]) .intake := has_mem (by decide)
  have : Has (· ∈ [Part.intake, .linkPower, .out]) .linkPower := has_mem (by decide)
  have : Has (· ∈ [Part.intake, .linkPower, .out]) .out := has_mem (by decide)
  have sent := sendAllHeld_within (F := (· ∈ [Part.intake, .linkPower, .out])) s (Within.refl s)
  laneState_of_regs (sent.same .kc (by decide)) (sent.same .regs (by decide)) l

theorem trained_pcie {s : State} (awake : s.faults.quiet = false) (released : s.pins.perstN = true) (free : padsHeld s 3 = false) :
    trained s .pcie = sendAllHeld (resetDomain (resetDomain (lanesSet s 3 3) 6) 7) := if_neg (by simp [awake, released, free])

/-- PCIe has trained (R384). -/
theorem trainedPcie_acts {s : State} (awake : s.faults.quiet = false) (released : s.pins.perstN = true) (free : padsHeld s 3 = false) {l : Nat}
    (low : l < 48) (has : kcLaneFunc s.kc l = 3) (sound : laneState s l ≠ 4) : laneState (trained s .pcie) l = 3 := by
  have set_ := lanesSet_state low has (by decide) (st := 3) (by decide) sound (by decide)
  have stays := resetDomains_laneState [6, 7] (lanesSet s 3 3) (Nat.lt_trans low (by decide))
  rw [trained_pcie awake released free, sendAllHeld_laneState]
  exact stays.trans set_

/-- Settles O34: a lane's state follows its event, and the domains behind it go DOWN flushed and come back by a reset. -/
theorem lanesTrain : Obligations.LanesTrain := by
  unfold Obligations.LanesTrain
  intro s
  exact ⟨⟨_, rfl, perst_asserted_acts s⟩, ⟨_, rfl, perst_released_acts s⟩, fun l up => ⟨_, rfl, loseLock_acts l.isLt up⟩, fun l low => completes_same rfl (if_pos low),
    fun l trains free => ⟨_, rfl, trainedLane_acts trains free⟩,
    fun awake released free => ⟨_, rfl, fun l low has sound => trainedPcie_acts awake released free low has sound⟩⟩

end Sys2Proof.Machine
end

section
/-! Command windows, queue registers, function-level resets and the end of the PCIe link (R398 to R401, R312). -/

namespace Sys2Proof.Machine

open Sys2Proof.Claims

/-! ### Windows (R398) -/

@[simp] theorem window_modWindow (s : State) (i : Nat) (f : Window → Window) : window (modWindow s i f) i = f (window s i) := tget_tmod_self _ _ _

theorem window_modWindow_ne (s : State) {i j : Nat} (apart : j ≠ i) (f : Window → Window) : window (modWindow s i f) j = window s j :=
  tget_tmod_ne _ _ _ _ apart

theorem window_of_intake {s s' : State} (h : s'.intake.windows = s.intake.windows) (i : Nat) : window s' i = window s i := by rw [window, h, window]

/-- A stream changed reaches command queues and threads. -/
theorem modStream_intake (s : State) (f k ord : Nat) (g : Cmd → Cmd) : ∃ q, (modStream s f k ord g).intake = { s.intake with cmdq := q } := by
  unfold modStream
  split
  · exact ⟨_, rfl⟩
  · extract_lets q own
    have first : ∃ items, own.intake = { s.intake with cmdq := items } := ⟨_, modCmd_intake s q (ord - 1) g⟩
    obtain ⟨items, first⟩ := first
    split
    · exact ⟨items, first⟩
    · exact ⟨_, (modCmd_intake own 7 (ord - 1) g).trans (by rw [modCq, first])⟩

theorem modStream_frame (s : State) (f k ord : Nat) (g : Cmd → Cmd) : Within (· ∈ [Part.threads, .intake]) s (modStream s f k ord g) :=
  @modStream_within _ ⟨by decide⟩ ⟨by decide⟩ _ _ _ _ _ _ (Within.refl s)

theorem truncateStream_intake (s : State) (f k : Nat) : ∃ q, (truncateStream s f k).intake = { s.intake with cmdq := q } := by
  unfold truncateStream
  dsimp only
  split
  · exact modStream_intake _ _ _ _ _
  · exact ⟨_, rfl⟩

theorem truncateStream_frame (s : State) (f k : Nat) : Within (· ∈ [Part.threads, .intake]) s (truncateStream s f k) :=
  @truncateStream_within _ ⟨by decide⟩ ⟨by decide⟩ _ _ _ _ (Within.refl s)

/-- A stream dropped: its window waits for RESYNC, and the drop is counted. -/
theorem breakStream_acts (s : State) (f k : Nat) : (window (breakStream s f k) (winIx f k)).state = 2 ∧
    fldGet (breakStream s f k) .laneDrop 2 47 32 = min 65535 (fldGet s .laneDrop 2 47 32 + 1) := by
  have regs : (truncateStream s f k).regs = s.regs := (truncateStream_frame s f k).same .regs (by decide)
  unfold breakStream
  generalize truncateStream s f k = t at *
  have counts := fldGet_bump16 (modWindow t (winIx f k) (fun _ => { windowInit with state := 2 })) .laneDrop 2 (hi := 47) (lo := 32) (by decide) rfl
  refine ⟨?_, counts.trans (congrArg (fun n => min 65535 (n + 1)) (fldGet_of_regs regs _ _ _ _))⟩
  exact congrArg Window.state (window_modWindow t (winIx f k) _)

theorem modStream_window (s : State) (f k ord : Nat) (g : Cmd → Cmd) (i : Nat) : window (modStream s f k ord g) i = window s i := by
  obtain ⟨_, same⟩ := modStream_intake s f k ord g
  rw [window, same, window]

theorem windowWrite_shut {s : State} (f k : Nat) (b : Bytes) (gaps : Bool) (shut : pcieUp s = false ∨ (window s (winIx f k)).state = 2) :
    windowWrite s f k b gaps = s := by
  unfold windowWrite
  rcases shut with down | broken
  · rw [down]
    rfl
  · rw [if_pos broken]
    exact ite_self _

theorem windowWrite_gaps {s : State} {f k : Nat} (up : pcieUp s = true) (low : (window s (winIx f k)).state < 2) (b : Bytes) :
    windowWrite s f k b true = breakStream s f k := by
  unfold windowWrite
  rw [up, if_neg (by decide), if_neg (by omega)]
  rfl

/-- What a header that a queue may take enters the window with (R283). -/
def windowWithin (s : State) (f k len ord : Nat) : State :=
  modWindow s (winIx f k) (fun _ => if len = 0 then windowInit else { state := 1, buf := [], need := len, ord := ord })

theorem windowWithin_window (s : State) (f k len ord : Nat) :
    (len = 0 → window (windowWithin s f k len ord) (winIx f k) = windowInit) ∧
    (0 < len → (window (windowWithin s f k len ord) (winIx f k)).state = 1 ∧ (window (windowWithin s f k len ord) (winIx f k)).need = len) := by
  rw [windowWithin, window_modWindow]
  refine ⟨fun empty => if_pos empty, fun some_ => ?_⟩
  rw [if_neg (by omega)]
  exact ⟨rfl, rfl⟩

theorem windowHeader_bad (s : State) (f k : Nat) {hdr : Bytes} (bad : readCmdH hdr = none) : windowHeader s f k hdr = breakStream s f k := by
  unfold windowHeader
  rw [bad]
  exact ite_self _

/-- A sound header leaves the window within its payload, whatever has become of the item. -/
theorem windowHeader_good (s : State) (f k : Nat) {hdr : Bytes} {c : CmdH} (good : readCmdH hdr = some c) :
    ∃ t ord, windowHeader s f k hdr = windowWithin t f k c.len ord := by
  unfold windowHeader
  rw [good]
  dsimp only
  split
  · exact ⟨_, _, rfl⟩
  · split
    · exact ⟨_, _, rfl⟩
    · exact ⟨_, _, rfl⟩

theorem windowBytes_nil (s : State) (f k n : Nat) : windowBytes s f k n [] = s := by
  cases n with
  | zero => rfl
  | succ n => rw [windowBytes, if_pos (Or.inl rfl)]

section

variable {s : State} {f k : Nat} {b : Bytes}

theorem windowBytes_collects (n : Nat) (waits : (window s (winIx f k)).state = 0) (some_ : b ≠ []) (short : (window s (winIx f k)).buf.length + b.length < 16) :
    windowBytes s f k (n + 1) b = modWindow s (winIx f k) (fun w => { w with buf := (window s (winIx f k)).buf ++ b }) := by
  have all_ : b.take (16 - (window s (winIx f k)).buf.length) = b := List.take_of_length_le (by omega)
  rw [windowBytes, if_neg (by simp [some_, waits]), if_pos waits]
  dsimp only
  rw [all_, if_pos (by rw [List.length_append]; exact short)]

theorem windowBytes_completes (n : Nat) (waits : (window s (winIx f k)).state = 0) (some_ : b ≠ []) (whole : (window s (winIx f k)).buf.length + b.length = 16) :
    windowBytes s f k (n + 1) b = windowHeader s f k ((window s (winIx f k)).buf ++ b) := by
  have all_ : b.take (16 - (window s (winIx f k)).buf.length) = b := List.take_of_length_le (by omega)
  have rest : b.drop (16 - (window s (winIx f k)).buf.length) = [] := List.drop_eq_nil_of_le (by omega)
  rw [windowBytes, if_neg (by simp [some_, waits]), if_pos waits]
  dsimp only
  rw [all_, rest, if_neg (by rw [List.length_append]; omega), windowBytes_nil]

/-- A piece of an item's payload. -/
def pieceTaken (left : Nat) (b : Bytes) (c : Cmd) : Cmd := { c with payload := c.payload ++ b, whole := left == 0 }

theorem windowBytes_streams (n : Nat) (streams : (window s (winIx f k)).state = 1) (some_ : b ≠ []) (fits : b.length ≤ (window s (winIx f k)).need) :
    windowBytes s f k (n + 1) b =
      modWindow (modStream s f k (window s (winIx f k)).ord (pieceTaken ((window s (winIx f k)).need - b.length) b)) (winIx f k)
        (fun w => if (window s (winIx f k)).need - b.length = 0 then windowInit else { w with need := (window s (winIx f k)).need - b.length }) := by
  have all_ : b.take (window s (winIx f k)).need = b := List.take_of_length_le fits
  have rest : b.drop b.length = [] := List.drop_eq_nil_of_le (Nat.le_refl _)
  rw [windowBytes, if_neg (by simp [some_, streams]), if_neg (by omega)]
  dsimp only
  rw [all_, rest]
  exact windowBytes_nil _ _ _ _

theorem windowWrite_bytes (up : pcieUp s = true) (low : (window s (winIx f k)).state < 2) : windowWrite s f k b false = windowBytes s f k (b.length + 1) b := by
  unfold windowWrite
  rw [up, if_neg (by decide), if_neg (by omega)]
  rfl

end

/-- The item of a stream takes its change in its own queue. -/
theorem modStream_item (s : State) {f k ord : Nat} (g : Cmd → Cmd) {m : Cmd} (listed : m ∈ (cq s (queueOf f k)).items) (number : m.ord + 1 = ord)
    (own : m.queue = queueOf f k) : g m ∈ (cq (modStream s f k ord g) (queueOf f k)).items := by
  have item : g m ∈ (cq (modCmd s (queueOf f k) (ord - 1) g) (queueOf f k)).items := by
    rw [cq_modCmd]
    have here : onItem (queueOf f k) (ord - 1) g m = g m := if_pos ⟨own, by omega⟩
    exact here ▸ List.mem_map_of_mem listed
  unfold modStream
  rw [if_neg (by omega)]
  extract_lets q first
  split
  · exact item
  · next other =>
      rw [cq_modCmd_ne first _ _ other]
      exact item

/-! ### Queue registers (R399) -/

section

variable {s : State} {f k : Nat}

theorem winIx_lt (hf : f < 255) (hk : k < 4) : winIx f k < 4096 := by
  unfold winIx
  omega

theorem queueOf_lt (hf : f < 255) (hk : k < 4) : queueOf f k < 4096 := by
  unfold queueOf
  omega

/-- Bits of RBASE that software writes. -/
theorem rbase_bits : ∀ i : Fin 64, i.val = 0 ∨ (4 ≤ i.val ∧ i.val ≤ 7) ∨ 12 ≤ i.val →
    (regAccess .rbase).rw.getLsbD i = true ∧ (regAccess .rbase).w1c.getLsbD i = false := by decide

theorem rcons_bits : ∀ i : Fin 64, i.val ≤ 31 → (regAccess .rcons).rw.getLsbD i = true ∧ (regAccess .rcons).w1c.getLsbD i = false := by decide

theorem fld_keepField_apart (old v : Word) {hi lo h l : Nat} (ok : Nat → Bool) (apart : h < lo ∨ hi < l) : fld (keepField old v hi lo ok) h l = fld v h l := by
  unfold keepField
  split
  · rfl
  · exact fld_putFld_apart _ _ apart

/-- A write of RBASE while EN is 1 reaches EN alone. -/
theorem rbaseWrite_enabled (up : pcieUp s = true) (on : funcOn s f = true) (v : Word) (enabled : fbit (regGet s .rbase (winIx f k)) 0 = true) :
    let s' := rbaseWrite s f k v
    fldGet s' .rbase (winIx f k) 63 12 = fldGet s .rbase (winIx f k) 63 12 ∧ fldGet s' .rbase (winIx f k) 7 4 = fldGet s .rbase (winIx f k) 7 4 ∧
      fldGet s' .rbase (winIx f k) 0 0 = fld v 0 0 := by
  have writes : rbaseWrite s f k v = fldSet s .rbase (winIx f k) 0 0 (fld v 0 0) := by
    unfold rbaseWrite
    dsimp only
    rw [up, on, if_neg (by decide), if_pos enabled]
  rw [writes]
  refine ⟨fldGet_fldSet_apart _ _ _ _ (by decide), fldGet_fldSet_apart _ _ _ _ (by decide), ?_⟩
  rw [fldGet_fldSet _ _ _ _ (by decide), Nat.mod_eq_of_lt (fld_lt _ _ _)]

/-- RBASE as a write with EN 0 leaves it. -/
def rbasePut (s : State) (f k : Nat) (v : Word) : State :=
  plainWrite s .rbase (winIx f k) (keepField (regGet s .rbase (winIx f k)) v 7 4 (fun n => decide (n < 10)))

theorem rbaseWrite_disabled (up : pcieUp s = true) (on : funcOn s f = true) (v : Word) (disabled : fbit (regGet s .rbase (winIx f k)) 0 = false) :
    rbaseWrite s f k v = if fbit v 0 then fldSet (fldSet (rbasePut s f k v) .rprod (winIx f k) 31 0 0) .rcons (winIx f k) 31 0 0 else rbasePut s f k v := by
  unfold rbaseWrite
  dsimp only
  rw [up, on, if_neg (by decide), if_neg (by rw [disabled]; decide)]
  rfl

theorem rbasePut_fields (s : State) (f k : Nat) (v : Word) : fldGet (rbasePut s f k v) .rbase (winIx f k) 63 12 = fld v 63 12 ∧
    fldGet (rbasePut s f k v) .rbase (winIx f k) 7 4 = (if fld v 7 4 < 10 then fld v 7 4 else fldGet s .rbase (winIx f k) 7 4) ∧
    fldGet (rbasePut s f k v) .rbase (winIx f k) 0 0 = fld v 0 0 := by
  unfold rbasePut
  refine ⟨?_, ?_, ?_⟩
  · rw [fldGet_plainWrite s _ _ (by decide) (fun i low _ => rbase_bits i (.inr (.inr low))), fld_keepField_apart _ _ _ (by decide)]
  · rw [fldGet_plainWrite s _ _ (by decide) (fun i low high => rbase_bits i (.inr (.inl ⟨low, high⟩))), fld_keepField _ _ _ (by decide)]
    exact if_congr decide_eq_true_iff rfl rfl
  · rw [fldGet_plainWrite s _ _ (by decide) (fun i _ high => rbase_bits i (.inl (Nat.le_zero.1 high))), fld_keepField_apart _ _ _ (by decide)]

/-- A write of RBASE while EN is 0 (R399). -/
theorem rbaseWrite_acts (hf : f < 255) (hk : k < 4) (up : pcieUp s = true) (on : funcOn s f = true) (v : Word)
    (disabled : fbit (regGet s .rbase (winIx f k)) 0 = false) :
    let s' := rbaseWrite s f k v
    fldGet s' .rbase (winIx f k) 63 12 = fld v 63 12 ∧
      fldGet s' .rbase (winIx f k) 7 4 = (if fld v 7 4 < 10 then fld v 7 4 else fldGet s .rbase (winIx f k) 7 4) ∧
      fldGet s' .rbase (winIx f k) 0 0 = fld v 0 0 ∧
      (fbit v 0 = true → fldGet s' .rprod (winIx f k) 31 0 = 0 ∧ fldGet s' .rcons (winIx f k) 31 0 = 0) := by
  have low := winIx_lt hf hk
  obtain ⟨addr, size, en⟩ := rbasePut_fields s f k v
  rw [rbaseWrite_disabled up on v disabled]
  cases fresh : fbit v 0 with
  | false => exact ⟨addr, size, en, fun h => by cases h⟩
  | true =>
    have base : ∀ hi lo, fldGet (fldSet (fldSet (rbasePut s f k v) .rprod (winIx f k) 31 0 0) .rcons (winIx f k) 31 0 0) .rbase (winIx f k) hi lo =
      fldGet (rbasePut s f k v) .rbase (winIx f k) hi lo := fun hi lo => by
      rw [fldGet_fldSet_ne _ (regKey_ne low low (by decide)), fldGet_fldSet_ne _ (regKey_ne low low (by decide))]
    rw [if_pos rfl]
    dsimp only
    rw [base, base, base]
    refine ⟨addr, size, en, fun _ => ⟨?_, ?_⟩⟩
    · rw [fldGet_fldSet_ne _ (regKey_ne low low (by decide)), fldGet_fldSet _ _ _ _ (by decide)]
      rfl
    · rw [fldGet_fldSet _ _ _ _ (by decide)]
      rfl

theorem rconsWrite_acts (up : pcieUp s = true) (on : funcOn s f = true) (v : Word) : fldGet (rconsWrite s f k v) .rcons (winIx f k) 31 0 = fld v 31 0 := by
  unfold rconsWrite
  rw [up, on, if_pos (by decide)]
  exact fldGet_plainWrite s _ v (by decide) fun i _ high => rcons_bits i high

end

/-! ### Function-level resets (R400) -/

/-- One queue of a function under its reset. -/
def flrQueue (f : Nat) (s : State) (k : Nat) : State :=
  let ix := winIx f k
  let q := queueOf f k
  let s := modWindow (truncateStream s f k) ix (fun _ => windowInit)
  let s := regSet (regSet (regSet (regSet s .rbase ix 0) .rshadow ix 0) .rprod ix 0) .rcons ix 0
  let s := modRing s q (fun _ => ringInit)
  let n := ((rq s q).items.filter (fun r => r.route == 0xF000 + f)).length
  let s := modRq s q (fun x => { x with items := x.items.filter (fun r => r.route != 0xF000 + f) })
  if n = 0 then s else bump s .queStatr q 63 48 n

theorem flr_eq (s : State) (f : Nat) : flr s f = (List.range 4).foldl (flrQueue f) (modFunc s f (fun x => { x with busMaster := false })) := rfl

/-- The responses of a queue that wait for a function. -/
def waitingFor (s : State) (f k : Nat) : List Resp := (rq s (queueOf f k)).items.filter (fun r => r.route == 0xF000 + f)

/-- Registers of a queue that has been reset. -/
def queueZeroed (s : State) (ix : Nat) : State := regSet (regSet (regSet (regSet s .rbase ix 0) .rshadow ix 0) .rprod ix 0) .rcons ix 0

/-- A queue's window, registers and ring cleared. -/
def queueCleared (f : Nat) (s : State) (k : Nat) : State :=
  modRing (queueZeroed (modWindow (truncateStream s f k) (winIx f k) (fun _ => windowInit)) (winIx f k)) (queueOf f k) (fun _ => ringInit)

/-- The waiting responses of a function dropped and counted. -/
def queueDropped (f : Nat) (s : State) (k : Nat) : State :=
  let t := modRq s (queueOf f k) (fun x => { x with items := x.items.filter (fun r => r.route != 0xF000 + f) })
  if (waitingFor s f k).length = 0 then t else bump t .queStatr (queueOf f k) 63 48 (waitingFor s f k).length

theorem flrQueue_eq (f : Nat) (s : State) (k : Nat) : flrQueue f s k = queueDropped f (queueCleared f s k) k := rfl

/-- What the reset of a queue leaves of another. -/
structure QueueKept (s s' : State) (f k : Nat) : Prop where
  window : window s' (winIx f k) = window s (winIx f k)
  rbase : regGet s' .rbase (winIx f k) = regGet s .rbase (winIx f k)
  rprod : regGet s' .rprod (winIx f k) = regGet s .rprod (winIx f k)
  rcons : regGet s' .rcons (winIx f k) = regGet s .rcons (winIx f k)
  resps : (rq s' (queueOf f k)).items = (rq s (queueOf f k)).items
  count : fldGet s' .queStatr (queueOf f k) 63 48 = fldGet s .queStatr (queueOf f k) 63 48

/-- A queue that has been reset, with the count of dropped responses. -/
structure QueueReset (s : State) (f k count : Nat) : Prop where
  window : window s (winIx f k) = windowInit
  rbase : regGet s .rbase (winIx f k) = 0
  rprod : regGet s .rprod (winIx f k) = 0
  rcons : regGet s .rcons (winIx f k) = 0
  routes : ∀ r ∈ (rq s (queueOf f k)).items, r.route ≠ 0xF000 + f
  count : fldGet s .queStatr (queueOf f k) 63 48 = count

theorem QueueKept.trans {s t u : State} {f k : Nat} (h : QueueKept s t f k) (h' : QueueKept t u f k) : QueueKept s u f k where
  window := h'.window.trans h.window
  rbase := h'.rbase.trans h.rbase
  rprod := h'.rprod.trans h.rprod
  rcons := h'.rcons.trans h.rcons
  resps := h'.resps.trans h.resps
  count := h'.count.trans h.count

theorem QueueReset.keep {s s' : State} {f k n : Nat} (done : QueueReset s f k n) (kept : QueueKept s s' f k) : QueueReset s' f k n where
  window := kept.window.trans done.window
  rbase := kept.rbase.trans done.rbase
  rprod := kept.rprod.trans done.rprod
  rcons := kept.rcons.trans done.rcons
  routes := kept.resps ▸ done.routes
  count := kept.count.trans done.count

section

variable {s : State} {f k : Nat}

theorem queueZeroed_reads (s : State) {ix : Nat} (hx : ix < 4096) : regGet (queueZeroed s ix) .rbase ix = 0 ∧ regGet (queueZeroed s ix) .rprod ix = 0 ∧
    regGet (queueZeroed s ix) .rcons ix = 0 := by
  unfold queueZeroed
  refine ⟨?_, ?_, regGet_regSet _ _ _ _⟩
  · rw [regGet_regSet_ne _ _ _ _ _ _ (regKey_ne hx hx (by decide)), regGet_regSet_ne _ _ _ _ _ _ (regKey_ne hx hx (by decide)),
      regGet_regSet_ne _ _ _ _ _ _ (regKey_ne hx hx (by decide)), regGet_regSet]
  · rw [regGet_regSet_ne _ _ _ _ _ _ (regKey_ne hx hx (by decide)), regGet_regSet]

/-- The registers of a reset queue. -/
def queueRegs : List Reg := [.rbase, .rshadow, .rprod, .rcons]

theorem queueZeroed_ne (s : State) {r : Reg} {ix i : Nat} (apart : ∀ q ∈ queueRegs, regKey r i ≠ regKey q ix) :
    regGet (queueZeroed s ix) r i = regGet s r i := by
  unfold queueZeroed
  rw [regGet_regSet_ne _ _ _ _ _ _ (apart .rcons (by decide)), regGet_regSet_ne _ _ _ _ _ _ (apart .rprod (by decide)),
    regGet_regSet_ne _ _ _ _ _ _ (apart .rshadow (by decide)), regGet_regSet_ne _ _ _ _ _ _ (apart .rbase (by decide))]

/-- A queue's registers share no key with those of another queue. -/
theorem queueRegs_apart {r : Reg} (listed : r ∈ queueRegs) {i ix : Nat} (hi : i < 4096) (hx : ix < 4096) (apart : i ≠ ix) :
    ∀ q ∈ queueRegs, regKey r i ≠ regKey q ix := by
  intro q hq
  by_cases same : r = q
  · rw [same]
    exact regKey_ne_of_index apart
  · refine regKey_ne hi hx ?_
    revert r q
    decide

/-- Nor with any other register. -/
theorem queueRegs_apart_of_base {r : Reg} (other : ∀ q ∈ queueRegs, (regPlace r).base ≠ (regPlace q).base) {i ix : Nat} (hi : i < 4096) (hx : ix < 4096) :
    ∀ q ∈ queueRegs, regKey r i ≠ regKey q ix := fun q hq => regKey_ne hi hx (other q hq)

theorem queueCleared_intake (s : State) (f k : Nat) : ∃ q, (queueCleared f s k).intake = { s.intake with
    cmdq := q
    windows := tmod windowInit s.intake.windows (winIx f k) (fun _ => windowInit)
    rings := tmod ringInit s.intake.rings (queueOf f k) (fun _ => ringInit) } := by
  obtain ⟨q, truncated⟩ := truncateStream_intake s f k
  have same : (queueCleared f s k).intake = { (truncateStream s f k).intake with
    windows := tmod windowInit (truncateStream s f k).intake.windows (winIx f k) (fun _ => windowInit)
    rings := tmod ringInit (truncateStream s f k).intake.rings (queueOf f k) (fun _ => ringInit) } := rfl
  exact ⟨q, by rw [same, truncated]⟩

theorem queueCleared_regs (s : State) (f k : Nat) : ∃ t : State, t.regs = s.regs ∧ (queueCleared f s k).regs = (queueZeroed t (winIx f k)).regs :=
  ⟨modWindow (truncateStream s f k) (winIx f k) (fun _ => windowInit), (truncateStream_frame s f k).same .regs (by decide), rfl⟩

theorem queueCleared_resps (s : State) (f k q : Nat) : rq (queueCleared f s k) q = rq s q := by
  obtain ⟨_, cleared⟩ := queueCleared_intake s f k
  rw [rq, cleared, rq]

theorem queueCleared_count (s : State) (hf : f < 255) (hk : k < 4) {q : Nat} (hq : q < 4096) (hi lo : Nat) :
    fldGet (queueCleared f s k) .queStatr q hi lo = fldGet s .queStatr q hi lo := by
  obtain ⟨t, same, regs⟩ := queueCleared_regs s f k
  rw [fldGet_of_regs regs, fldGet, queueZeroed_ne t (queueRegs_apart_of_base (by decide) hq (winIx_lt hf hk)), regGet_of_regs same, fldGet]

/-- Dropped responses are counted in QUE_STATR, and no other register changes. -/
theorem queueDropped_regGet (s : State) (hf : f < 255) (hk : k < 4) {r : Reg} {i : Nat} (hi : i < 4096) (other : (regPlace r).base ≠ (regPlace .queStatr).base) :
    regGet (queueDropped f s k) r i = regGet s r i := by
  unfold queueDropped
  extract_lets t
  split
  · rfl
  · exact regGet_fldSet_ne t (regKey_ne hi (queueOf_lt hf hk) other) _ _ _

theorem queueDropped_intake (s : State) (f k : Nat) : (queueDropped f s k).intake = { s.intake with
    rspq := tmod rspqInit s.intake.rspq (queueOf f k) (fun x => { x with items := x.items.filter (fun r => r.route != 0xF000 + f) }) } := by
  unfold queueDropped
  extract_lets t
  split <;> rfl

theorem queueDropped_count (s : State) (f k : Nat) : fldGet (queueDropped f s k) .queStatr (queueOf f k) 63 48 =
    min 65535 (fldGet s .queStatr (queueOf f k) 63 48 + (waitingFor s f k).length) := by
  have small : fldGet s .queStatr (queueOf f k) 63 48 < 2 ^ 16 := fld_lt _ _ _
  unfold queueDropped
  extract_lets t
  have same : fldGet t .queStatr (queueOf f k) 63 48 = fldGet s .queStatr (queueOf f k) 63 48 := rfl
  split
  · next none_ =>
      rw [same, none_]
      omega
  · rw [fldGet_bump_by t _ _ _ (by decide), same]
    rfl

theorem queueDropped_count_ne (s : State) (f k : Nat) {q : Nat} (apart : q ≠ queueOf f k) (hi lo : Nat) :
    fldGet (queueDropped f s k) .queStatr q hi lo = fldGet s .queStatr q hi lo := by
  unfold queueDropped
  extract_lets t
  split
  · rfl
  · exact fldGet_bump_ne t (regKey_ne_of_index apart) _ _ _ _ _

theorem flrQueue_windows (s : State) (f k : Nat) :
    (flrQueue f s k).intake.windows = tmod windowInit s.intake.windows (winIx f k) (fun _ => windowInit) := by
  obtain ⟨_, cleared⟩ := queueCleared_intake s f k
  rw [flrQueue_eq, queueDropped_intake, cleared]

/-- The reset of a queue (R400). -/
theorem flrQueue_resets (s : State) (hf : f < 255) (hk : k < 4) :
    QueueReset (flrQueue f s k) f k (min 65535 (fldGet s .queStatr (queueOf f k) 63 48 + (waitingFor s f k).length)) := by
  have low := winIx_lt hf hk
  obtain ⟨t, -, regs⟩ := queueCleared_regs s f k
  obtain ⟨base, prod, cons_⟩ := queueZeroed_reads t low
  have dropped := queueDropped_intake (queueCleared f s k) f k
  rw [flrQueue_eq]
  refine ⟨?_, ?_, ?_, ?_, ?_, ?_⟩
  · rw [window, ← flrQueue_eq, flrQueue_windows, tget_tmod_self]
  · rw [queueDropped_regGet _ hf hk low (by decide), regGet_of_regs regs, base]
  · rw [queueDropped_regGet _ hf hk low (by decide), regGet_of_regs regs, prod]
  · rw [queueDropped_regGet _ hf hk low (by decide), regGet_of_regs regs, cons_]
  · rw [rq, dropped, tget_tmod_self]
    intro r hr
    have passes := (List.mem_filter.1 hr).2
    exact bne_iff_ne.1 passes
  · rw [queueDropped_count, queueCleared_count s hf hk (queueOf_lt hf hk), waitingFor, queueCleared_resps, waitingFor]

/-- It leaves the other queues. -/
theorem flrQueue_keeps (s : State) {g j : Nat} (hf : f < 255) (hk : k < 4) (hg : g < 255) (hj : j < 4) (apart : ¬ (f = g ∧ k = j)) :
    QueueKept s (flrQueue g s j) f k := by
  have low := winIx_lt hf hk
  have low' := winIx_lt hg hj
  have ix : winIx f k ≠ winIx g j := by
    unfold winIx
    omega
  have q : queueOf f k ≠ queueOf g j := by
    unfold queueOf
    omega
  obtain ⟨t, same, regs⟩ := queueCleared_regs s g j
  obtain ⟨_, intake⟩ := queueCleared_intake s g j
  have dropped := queueDropped_intake (queueCleared g s j) g j
  have reg : ∀ r ∈ queueRegs, regGet (flrQueue g s j) r (winIx f k) = regGet s r (winIx f k) := fun r hr => by
    have other : (regPlace r).base ≠ (regPlace .queStatr).base := by
      revert r
      decide
    rw [flrQueue_eq, queueDropped_regGet _ hg hj low other, regGet_of_regs regs, queueZeroed_ne t (queueRegs_apart hr low low' ix), regGet_of_regs same]
  refine ⟨?_, reg _ (by decide), reg _ (by decide), reg _ (by decide), ?_, ?_⟩
  · rw [window, flrQueue_windows, tget_tmod_ne _ _ _ _ ix, window]
  · rw [flrQueue_eq, rq, dropped, tget_tmod_ne _ _ _ _ q, intake, rq]
  · rw [flrQueue_eq, queueDropped_count_ne _ _ _ q, queueCleared_count s hg hj (queueOf_lt hf hk)]

/-- A queue that has been reset keeps its count under another reset. -/
theorem QueueReset.flrQueue {n g j : Nat} (done : QueueReset s f k n) (full : n ≤ 65535) (hf : f < 255) (hk : k < 4) (hg : g < 255) (hj : j < 4) :
    QueueReset (Machine.flrQueue g s j) f k n := by
  by_cases here : f = g ∧ k = j
  · obtain ⟨rfl, rfl⟩ := here
    have none_ : waitingFor s f k = [] := List.filter_eq_nil_iff.2 fun r hr => by
      rw [beq_iff_eq]
      exact done.routes r hr
    have again := flrQueue_resets s hf hk
    rwa [none_, done.count, List.length_nil, Nat.add_zero, Nat.min_eq_right full] at again
  · exact done.keep (flrQueue_keeps s hf hk hg hj here)

theorem QueueReset.flrQueues {n : Nat} (full : n ≤ 65535) (hf : f < 255) (hk : k < 4) {g : Nat} (hg : g < 255) : ∀ (l : List Nat) (_ : ∀ j ∈ l, j < 4)
    {t : State}, QueueReset t f k n → QueueReset (l.foldl (Machine.flrQueue g) t) f k n
  | [], _, _, done => done
  | j :: l, small, _, done =>
    QueueReset.flrQueues full hf hk hg l (fun i hi => small i (List.mem_cons_of_mem _ hi)) (done.flrQueue full hf hk hg (small j List.mem_cons_self))

theorem QueueReset.flr {n : Nat} (done : QueueReset s f k n) (full : n ≤ 65535) (hf : f < 255) (hk : k < 4) {g : Nat} (hg : g < 255) :
    QueueReset (Machine.flr s g) f k n := by
  rw [flr_eq]
  exact QueueReset.flrQueues full hf hk hg _ (fun j hj => List.mem_range.1 hj) ⟨done.window, done.rbase, done.rprod, done.rcons, done.routes, done.count⟩

/-- The responses that the reset of a queue drops, counted. -/
def droppedCount (s : State) (f k : Nat) : Nat := min 65535 (fldGet s .queStatr (queueOf f k) 63 48 + (waitingFor s f k).length)

theorem flrQueues_reset (hf : f < 255) (hk : k < 4) : ∀ (l : List Nat) (_ : ∀ j ∈ l, j < 4) (_ : k ∈ l) {t : State}, QueueKept s t f k →
    QueueReset (l.foldl (flrQueue f) t) f k (droppedCount s f k)
  | [], _, listed, _, _ => by cases listed
  | j :: l, small, listed, t, kept => by
    have rest : ∀ i ∈ l, i < 4 := fun i hi => small i (List.mem_cons_of_mem _ hi)
    by_cases here : j = k
    · subst here
      have reset := flrQueue_resets t hf hk
      rw [waitingFor, kept.resps, kept.count] at reset
      exact QueueReset.flrQueues (Nat.min_le_left _ _) hf hk hf l rest reset
    · have later : k ∈ l := (List.mem_cons.1 listed).resolve_left (fun same => here same.symm)
      exact flrQueues_reset hf hk l rest later
        (kept.trans (flrQueue_keeps t hf hk hf (small j List.mem_cons_self) (fun same => here same.2.symm)))

/-- A function-level reset resets each queue of its function. -/
theorem flr_resets (s : State) (hf : f < 255) (hk : k < 4) : QueueReset (flr s f) f k (droppedCount s f k) := by
  rw [flr_eq]
  exact flrQueues_reset hf hk _ (fun j hj => List.mem_range.1 hj) (List.mem_range.2 hk) ⟨rfl, rfl, rfl, rfl, rfl, rfl⟩

/-- It clears bus mastering, and leaves VF Enable. -/
theorem flrQueue_funcs (s : State) (f k : Nat) : (flrQueue f s k).intake.funcs = s.intake.funcs ∧ (flrQueue f s k).intake.vfEnable = s.intake.vfEnable := by
  obtain ⟨_, cleared⟩ := queueCleared_intake s f k
  rw [flrQueue_eq, queueDropped_intake, cleared]
  exact ⟨rfl, rfl⟩

theorem flr_funcs (s : State) (f : Nat) : (flr s f).intake.funcs = tmod funcInit s.intake.funcs f (fun x => { x with busMaster := false }) := by
  rw [flr_eq]
  exact view_foldl (g := fun s : State => s.intake.funcs) (f := flrQueue f) (fun s k => (flrQueue_funcs s f k).1) _ _

theorem flr_vfEnable (s : State) (f : Nat) : (flr s f).intake.vfEnable = s.intake.vfEnable := by
  rw [flr_eq]
  exact view_foldl (g := fun s : State => s.intake.vfEnable) (f := flrQueue f) (fun s k => (flrQueue_funcs s f k).2) _ _

theorem flr_busMaster (s : State) (f : Nat) : (func (flr s f) f).busMaster = false := by
  rw [func, flr_funcs, tget_tmod_self]

theorem flr_busMaster_stays (g : Nat) (off : (func s f).busMaster = false) : (func (flr s g) f).busMaster = false := by
  by_cases same : f = g
  · rw [same]
    exact flr_busMaster s g
  · rwa [func, flr_funcs, tget_tmod_ne _ _ _ _ same]

/-- PF0 as its reset leaves it. -/
structure PfReset (s : State) (k count : Nat) : Prop where
  queue : QueueReset s 0 k count
  busMaster : (func s 0).busMaster = false
  vfEnable : s.intake.vfEnable = false

theorem PfReset.flr {n : Nat} (done : PfReset s k n) (full : n ≤ 65535) (hk : k < 4) {g : Nat} (hg : g < 255) : PfReset (Machine.flr s g) k n := by
  obtain ⟨queue, master, vf⟩ := done
  have vf' := (flr_vfEnable s g).trans vf
  exact ⟨queue.flr full (by decide) hk hg, flr_busMaster_stays g master, vf'⟩

theorem PfReset.flrs {n : Nat} (full : n ≤ 65535) (hk : k < 4) (l : List Nat) (small : ∀ g ∈ l, g < 255) {t : State} (done : PfReset t k n) :
    PfReset (l.foldl Machine.flr t) k n := by
  induction l generalizing t with
  | nil => exact done
  | cons g l ih =>
    rw [List.foldl_cons]
    exact ih (fun i hi => small i (List.mem_cons_of_mem _ hi)) (done.flr full hk (small g List.mem_cons_self))

/-- VF Enable cleared. -/
def vfsOff (s : State) : State := { s with intake := { s.intake with vfEnable := false } }

theorem flrPf_eq (s : State) : flrPf s = (listedFuncs s).foldl flr (flr (vfsOff s) 0) := rfl

/-- A reset of PF0 resets it, and the VFs go through the same (R400). -/
theorem flrPf_resets (s : State) (hk : k < 4) : PfReset (flrPf s) k (droppedCount s 0 k) := by
  have listed : ∀ g ∈ listedFuncs s, g < 255 := fun g hg => List.mem_range.1 (List.mem_of_mem_filter hg)
  have first : QueueReset (flr (vfsOff s) 0) 0 k (droppedCount s 0 k) := flr_resets (vfsOff s) (by decide) hk
  have vf : (flr (vfsOff s) 0).intake.vfEnable = false := flr_vfEnable (vfsOff s) 0
  rw [flrPf_eq]
  exact PfReset.flrs (Nat.min_le_left _ _) hk _ listed ⟨first, flr_busMaster (vfsOff s) 0, vf⟩

end

/-! ### MSI-X messages that wait (R312) -/

theorem sendHeld_funcs (s : State) (q : Nat) : (sendHeld s q).intake.funcs = s.intake.funcs ∧ (sendHeld s q).intake.vfEnable = s.intake.vfEnable := by
  unfold sendHeld
  split
  · exact ⟨rfl, rfl⟩
  · exact ⟨rfl, rfl⟩

theorem sendAllHeld_funcs (s : State) : (sendAllHeld s).intake.funcs = s.intake.funcs :=
  view_foldl (g := fun s : State => s.intake.funcs) (f := sendHeld) (fun s q => (sendHeld_funcs s q).1) _ _

theorem sendHeld_masked (s : State) (q : Nat) : (ring (sendHeld s q) q).masked = (ring s q).masked := by
  unfold sendHeld
  split
  · rw [ring, emit, modRing, tget_tmod_self]
    rfl
  · rfl

/-- A message that waits is sent once nothing holds it. -/
theorem sendHeld_sends {s : State} {q : Nat} (waits : (ring s q).pendingBit = true) (free : (ring s q).masked = false)
    (master : (func s (funcOfQueue q)).busMaster = true) (up : pcieUp s = true) :
    (ring (sendHeld s q) q).pendingBit = false ∧ (sendHeld s q).out = s.out ++ [.msix (funcOfQueue q) (q % 4)] := by
  unfold sendHeld
  rw [if_pos (by rw [waits, free, master, up]; decide)]
  refine ⟨?_, rfl⟩
  rw [ring, emit, modRing, tget_tmod_self]

theorem funcOfQueue_queueOf (f : Nat) {k : Nat} (hk : k < 4) : funcOfQueue (queueOf f k) = f := by
  unfold funcOfQueue queueOf
  omega

section

variable {s : State} (up : pcieUp s = true)

include up

theorem pcieConfig_busMaster (f : Fin 255) (on : Bool) : (func (pcieConfig s (.busMaster f on)) f).busMaster = on := by
  unfold pcieConfig
  rw [up, if_neg (by decide)]
  dsimp only
  rw [func, sendAllHeld_funcs, modFunc, tget_tmod_self]

theorem pcieConfig_enabled (f : Fin 255) (on : Bool) : (func (pcieConfig s (.functionEnable f on)) f).enabled = on := by
  unfold pcieConfig
  rw [up, if_neg (by decide)]
  dsimp only
  rw [func, modFunc, tget_tmod_self]

theorem pcieConfig_vfEnable (on : Bool) : (pcieConfig s (.vfEnable on)).intake.vfEnable = on := by
  unfold pcieConfig
  rw [up, if_neg (by decide)]

/-- A vector masked or not; unmasked, its waiting message is sent. -/
theorem pcieConfig_vector (f : Fin 255) (k : Fin 4) (on : Bool) :
    let s' := pcieConfig s (.vectorMask f k on)
    (ring s' (queueOf f k)).masked = on ∧ (on = false → (ring s (queueOf f k)).pendingBit = true → (func s f).busMaster = true →
      (ring s' (queueOf f k)).pendingBit = false ∧ s'.out = s.out ++ [.msix (funcOfQueue (queueOf f k)) (queueOf f k % 4)]) := by
  have acts : pcieConfig s (.vectorMask f k on) = sendHeld (modRing s (queueOf f k) (fun r => { r with masked := on })) (queueOf f k) := by
    unfold pcieConfig
    rw [up, if_neg (by decide)]
  have set_ : ring (modRing s (queueOf f k) (fun r => { r with masked := on })) (queueOf f k) = { ring s (queueOf f k) with masked := on } := ring_modRing _ _ _
  rw [acts]
  refine ⟨by rw [sendHeld_masked, set_], fun free waits master => ?_⟩
  refine sendHeld_sends (by rw [set_]; exact waits) (by rw [set_]; exact free) ?_ up
  rw [funcOfQueue_queueOf f k.isLt]
  exact master

end

/-- Settles O33: windows, queue registers and resets act on the queue that they name, and the rest by the link's own state. -/
theorem pcieFunctionsAct : Obligations.PcieFunctionsAct := by
  unfold Obligations.PcieFunctionsAct
  intro s f k ix q w broken
  have hf := f.isLt
  have hk := k.isLt
  refine ⟨fun b gaps shut => completes_same rfl ?_, fun b up low => completes_to rfl ?_ (breakStream_acts s f k), fun b up waits some_ short => ?_,
    fun b up waits some_ whole bad => completes_to rfl ?_ (breakStream_acts s f k), fun b c up waits some_ whole good => ?_,
    fun b up streams some_ fits => ?_, fun up on => completes_to rfl (if_pos ⟨up, on⟩) (window_modWindow _ _ _), fun up on v => ?_,
    ⟨fun up other => ?_, fun up zero => ?_⟩, fun up => completes_to rfl (if_pos up) (flrPf_resets s hk).vfEnable,
    fun down => ?_, ?_, fun power up => ⟨_, rfl, if_pos up⟩, fun up on => ?_⟩
  · exact windowWrite_shut f k b gaps shut
  · exact windowWrite_gaps up low b
  · exact completes_to rfl ((windowWrite_bytes up (lt_of_eq_of_lt waits (by decide))).trans (windowBytes_collects _ waits some_ short)) (window_modWindow _ _ _)
  · exact (windowWrite_bytes up (lt_of_eq_of_lt waits (by decide))).trans ((windowBytes_completes _ waits some_ whole).trans (windowHeader_bad s f k bad))
  · obtain ⟨t, ord, enters⟩ := windowHeader_good s f k good
    exact completes_to rfl ((windowWrite_bytes up (lt_of_eq_of_lt waits (by decide))).trans ((windowBytes_completes _ waits some_ whole).trans enters))
      (windowWithin_window t f k c.len ord)
  · refine completes_to rfl ((windowWrite_bytes up (lt_of_eq_of_lt streams (by decide))).trans (windowBytes_streams _ streams some_ fits)) ⟨?_, fun m listed number own => ?_⟩
    · rw [window_modWindow, modStream_window]
      have done : w.need - b.length = 0 ↔ b.length = w.need := by omega
      exact if_congr done rfl rfl
    · have taken := modStream_item s (pieceTaken (w.need - b.length) b) listed number own
      have ends : (w.need - b.length == 0) = decide (b.length = w.need) := by
        rw [Bool.eq_iff_iff, beq_iff_eq, decide_eq_true_iff]
        omega
      rw [pieceTaken, ends] at taken
      exact taken
  · exact ⟨fun enabled => ⟨_, rfl, rbaseWrite_enabled up on v enabled⟩, fun disabled => ⟨_, rfl, rbaseWrite_acts hf hk up on v disabled⟩,
      ⟨_, rfl, rconsWrite_acts up on v⟩⟩
  · obtain ⟨a1, a2, a3, a4, a5, a6⟩ := flr_resets s hf hk
    have apply_ : (if f.val = 0 ∨ !pcieUp s then s else flr s f) = flr s f := if_neg (by simp [other, up])
    exact completes_to rfl apply_ ⟨a1, a2, a3, a4, a5, flr_busMaster s f, a6⟩
  · subst zero
    obtain ⟨⟨a1, a2, a3, a4, a5, a6⟩, master, -⟩ := flrPf_resets s hk
    exact completes_to rfl (if_pos up) ⟨a1, a2, a3, a4, a5, master, a6⟩
  · exact ⟨completes_same rfl (if_pos (by simp [down])), completes_same rfl (if_neg (by simp [down]))⟩
  · obtain ⟨down6, down7, -⟩ := linkDown_acts s
    have same : (linkDown s).intake = s.intake := (linkDown_frame s).same .intake (by decide)
    exact ⟨_, rfl, down6, down7, by rw [rq, same, rq]⟩
  · exact ⟨⟨_, rfl, pcieConfig_busMaster up f on⟩, ⟨_, rfl, pcieConfig_enabled up f on⟩, ⟨_, rfl, pcieConfig_vfEnable up on⟩,
      ⟨_, rfl, pcieConfig_vector up f k on⟩⟩

end Sys2Proof.Machine
end

section
/-! SUPPORT. What sending over Westad leaves of links and pairs (R402 to R407). -/

namespace Sys2Proof.Machine

open Sys2Proof.Claims

/-! ### Links -/

@[simp] theorem wlink_modLink (s : State) (l : Nat) (f : Link → Link) : wlink (modLink s l f) l = f (wlink s l) := tget_tmod_self _ _ _

theorem wlink_modLink_ne (s : State) {l i : Nat} (f : Link → Link) (apart : i ≠ l) : wlink (modLink s l f) i = wlink s i := tget_tmod_ne _ _ _ _ apart

@[simp] theorem wpair_modPair (s : State) (m : Nat) (f : Pair → Pair) : wpair (modPair s m f) m = f (wpair s m) := tget_tmod_self _ _ _

theorem wpair_modPair_ne (s : State) {m i : Nat} (f : Pair → Pair) (apart : i ≠ m) : wpair (modPair s m f) i = wpair s i := tget_tmod_ne _ _ _ _ apart

theorem wlink_of_westad {s s' : State} (h : s'.westad = s.westad) (l : Nat) : wlink s' l = wlink s l := by rw [wlink, h, wlink]

/-- What sending leaves of a link: its state and what it expects; unacknowledged flits are only added. -/
structure LinkSent (k k' : Link) : Prop where
  state : k'.state = k.state
  width : k'.width = k.width
  peer : k'.peer = k.peer
  rxSeq : k'.rxSeq = k.rxSeq
  nakSent : k'.nakSent = k.nakSent
  replay : ∀ f ∈ k.replay, f ∈ k'.replay

theorem LinkSent.refl (k : Link) : LinkSent k k := ⟨rfl, rfl, rfl, rfl, rfl, fun _ hf => hf⟩

theorem LinkSent.trans {a b c : Link} (h : LinkSent a b) (h' : LinkSent b c) : LinkSent a c :=
  ⟨h'.state.trans h.state, h'.width.trans h.width, h'.peer.trans h.peer, h'.rxSeq.trans h.rxSeq, h'.nakSent.trans h.nakSent,
    fun f hf => h'.replay f (h.replay f hf)⟩

/-- What sending leaves of Westad: links that are not up, and what is flooded and agreed. -/
structure Sent (s s' : State) : Prop where
  links : ∀ l, LinkSent (wlink s l) (wlink s' l)
  down : ∀ l, (wlink s l).state ≠ 3 → wlink s' l = wlink s l
  linkStates : s'.westad.linkStates = s.westad.linkStates
  agree : s'.westad.agree = s.westad.agree
  lastOutcome : s'.westad.lastOutcome = s.westad.lastOutcome
  kc : s'.kc = s.kc

/-- Sending that leaves the pairs too. -/
structure SentPlain (s s' : State) : Prop extends Sent s s' where
  pairs : s'.westad.pairs = s.westad.pairs

namespace Sent

variable {s t u : State}

theorem refl (s : State) : Sent s s := ⟨fun _ => .refl _, fun _ _ => rfl, rfl, rfl, rfl, rfl⟩

theorem trans (h : Sent s t) (h' : Sent t u) : Sent s u where
  links l := (h.links l).trans (h'.links l)
  down l low := (h'.down l (by rw [(h.links l).state]; exact low)).trans (h.down l low)
  linkStates := h'.linkStates.trans h.linkStates
  agree := h'.agree.trans h.agree
  lastOutcome := h'.lastOutcome.trans h.lastOutcome
  kc := h'.kc.trans h.kc

theorem of_westad (h : t.westad = s.westad) (kc : t.kc = s.kc) : Sent s t where
  links l := by
    rw [wlink_of_westad h]
    exact .refl _
  down l _ := wlink_of_westad h l
  linkStates := by rw [h]
  agree := by rw [h]
  lastOutcome := by rw [h]
  kc := kc

/-- A pair changed is no link changed. -/
theorem modPair (s : State) (m : Nat) (f : Pair → Pair) : Sent s (modPair s m f) := ⟨fun _ => .refl _, fun _ _ => rfl, rfl, rfl, rfl, rfl⟩

theorem foldl {β : Type} {f : State → β → State} (each : ∀ s x, Sent s (f s x)) (l : List β) (s : State) : Sent s (l.foldl f s) :=
  foldl_keeps (P := Sent s) (fun _ x kept => kept.trans (each _ x)) l (refl s)

end Sent

namespace SentPlain

variable {s t u : State}

theorem refl (s : State) : SentPlain s s := ⟨.refl s, rfl⟩

theorem trans (h : SentPlain s t) (h' : SentPlain t u) : SentPlain s u := ⟨h.toSent.trans h'.toSent, h'.pairs.trans h.pairs⟩

theorem of_westad (h : t.westad = s.westad) (kc : t.kc = s.kc) : SentPlain s t := ⟨.of_westad h kc, by rw [h]⟩

theorem foldl {β : Type} {f : State → β → State} (each : ∀ s x, SentPlain s (f s x)) (l : List β) (s : State) : SentPlain s (l.foldl f s) :=
  foldl_keeps (P := SentPlain s) (fun _ x kept => kept.trans (each _ x)) l (refl s)

theorem wpair (h : SentPlain s t) (m : Nat) : Machine.wpair t m = Machine.wpair s m := by rw [Machine.wpair, h.pairs, Machine.wpair]

/-- A link that is up, changed as sending changes it. -/
theorem modLink {l : Nat} (up : (wlink s l).state = 3) {f : Link → Link} (sent : LinkSent (wlink s l) (f (wlink s l))) : SentPlain s (modLink s l f) where
  links i := by
    by_cases same : i = l
    · rw [same, wlink_modLink]
      exact sent
    · rw [wlink_modLink_ne s f same]
      exact .refl _
  down i low := wlink_modLink_ne s f (fun same => low (same ▸ up))
  linkStates := rfl
  agree := rfl
  lastOutcome := rfl
  kc := rfl
  pairs := rfl

end SentPlain

/-! ### Flits and messages -/

theorem sendFlit_down {s : State} {l : Nat} (down : (wlink s l).state ≠ 3) (ty seq cred frag : Nat) (pay : Bytes) :
    sendFlit s l ty seq cred frag pay = s := if_neg down

theorem sendFlit_up {s : State} {l : Nat} (up : (wlink s l).state = 3) (ty seq cred frag : Nat) (pay : Bytes) :
    sendFlit s l ty seq cred frag pay =
      emit (modLink s l (fun k => { k with ackSent := linkAck k })) (.flit l (flitBytes ty seq (linkAck (wlink s l)) cred frag pay)) := if_pos up

theorem sendFlit_sent (s : State) (l ty seq cred frag : Nat) (pay : Bytes) : SentPlain s (sendFlit s l ty seq cred frag pay) := by
  by_cases up : (wlink s l).state = 3
  · rw [sendFlit_up up]
    exact (SentPlain.modLink up ⟨rfl, rfl, rfl, rfl, rfl, fun _ hf => hf⟩).trans (.of_westad rfl rfl)
  · rw [sendFlit_down up]
    exact .refl s

/-- A flit sent of the class drawn. -/
theorem sendData_sent {s : State} {l : Nat} (up : (wlink s l).state = 3) (c : Nat) : SentPlain s (sendData s l c) := by
  unfold sendData
  dsimp only
  split
  · exact .refl s
  · next f _ =>
      have flit := sendFlit_sent s l 1 (wlink s l).txSeq 0 f.2.1 f.2.2
      refine flit.trans (.modLink ((flit.links l).state.trans up) ⟨rfl, rfl, rfl, rfl, rfl, fun g hg => List.mem_append_left _ hg⟩)

theorem drawArb_sent (s : State) (a : Nat) (cs : List Nat) : SentPlain s (drawArb s a cs).2 := .of_westad rfl rfl

theorem pumpLink_sent (n : Nat) (s : State) (l : Nat) : SentPlain s (pumpLink s l n) := by
  induction n generalizing s with
  | zero => exact .refl s
  | succ n ih =>
    unfold pumpLink
    dsimp only
    split
    · exact .refl s
    · next runs =>
        have up : (wlink s l).state = 3 := by
          by_contra down
          exact runs (.inl down)
        split
        · exact .refl s
        · exact (sendData_sent up _).trans (ih _)
        · split
          · exact .refl s
          · have drawn := drawArb_sent s (0x60 + l) (txReady (wlink s l))
            exact drawn.trans ((sendData_sent ((drawn.links l).state.trans up) _).trans (ih _))

theorem pump_sent (s : State) (l : Nat) : SentPlain s (pump s l) := pumpLink_sent _ s l

/-- Without a class that may send, nothing leaves. -/
theorem pump_idle {s : State} {l : Nat} (idle : txReady (wlink s l) = []) : pump s l = s := by
  unfold pump
  cases (wlink s l).txq.length with
  | zero => rfl
  | succ n =>
    unfold pumpLink
    dsimp only
    split
    · rfl
    · rw [idle]

/-- A link's waiting flits grow. -/
theorem queue_sent {s : State} {l : Nat} (up : (wlink s l).state = 3) (fs : List (Nat × Nat × Bytes)) :
    SentPlain s (pump (modLink s l (fun k => { k with txq := k.txq ++ fs })) l) :=
  (SentPlain.modLink up ⟨rfl, rfl, rfl, rfl, rfl, fun _ hf => hf⟩).trans (pump_sent _ l)

/-- A route's first link is up. -/
theorem routeTo_up {s : State} {m : Nat} {r : Nat × Nat} (route : routeTo s m = some r) : (wlink s r.2).state = 3 := by
  have listed : ∀ (l : List (Nat × Nat)) (b : Option (Nat × Nat)), l.foldl (fun b x => match b with
      | none => some x
      | some y => if x.1 < y.1 then some x else some y) b = some r → r ∈ l ∨ b = some r := by
    intro l
    induction l with
    | nil => exact fun b h => .inr h
    | cons x l ih =>
      intro b h
      rcases ih _ h with later | here
      · exact .inl (List.mem_cons_of_mem _ later)
      · cases b with
        | none => exact .inl (List.mem_cons.2 (.inl (Option.some.inj here).symm))
        | some y =>
          dsimp only at here
          split at here
          · exact .inl (List.mem_cons.2 (.inl (Option.some.inj here).symm))
          · exact .inr here
  rcases listed _ _ route with cand | none_
  · obtain ⟨l, -, found⟩ := List.mem_filterMap.1 cand
    dsimp only at found
    split at found
    · next up =>
        obtain ⟨h, -, rfl⟩ := Option.map_eq_some_iff.1 found
        exact up.1
    · cases found
  · cases none_

theorem putOnLink_sent (s : State) (dst cls : Nat) (msg : Bytes) : SentPlain s (putOnLink s dst cls msg) := by
  unfold putOnLink
  split
  · exact .refl s
  · next l route => exact queue_sent (routeTo_up route) _

theorem resendPair_sent (s : State) (m : Nat) : SentPlain s (resendPair s m) := by
  unfold resendPair
  split
  · exact SentPlain.foldl (fun s x => putOnLink_sent s m _ _) _ s
  · exact .refl s

/-- What floods goes over links that are up. -/
theorem floodRoute_sent (s : State) (src : Nat) (edges : List (Nat × Nat)) : SentPlain s (floodRoute s src edges) := by
  have peers : ∀ lp ∈ ownPeers s, (wlink s lp.1).state = 3 := fun lp hlp => by
    obtain ⟨l, -, found⟩ := List.mem_filterMap.1 hlp
    dsimp only at found
    split at found
    · next up =>
        obtain rfl := Option.some.inj found
        exact up.1
    · cases found
  have walk : ∀ (l : List (Nat × Nat)) (_ : ∀ lp ∈ l, (wlink s lp.1).state = 3) (f : State → Nat × Nat → State)
      (_ : ∀ t lp, (wlink t lp.1).state = 3 → SentPlain t (f t lp)) (t : State), SentPlain s t → SentPlain s (l.foldl f t) := by
    intro l up f each
    induction l with
    | nil => exact fun t kept => kept
    | cons lp l ih =>
      exact fun t kept => ih (fun x hx => up x (List.mem_cons_of_mem _ hx)) (f t lp)
        (kept.trans (each t lp (((kept.links lp.1).state).trans (up lp List.mem_cons_self))))
  unfold floodRoute
  refine walk _ peers _ (fun t lp up => ?_) s (.refl s)
  split
  · exact .refl t
  · exact queue_sent up _

/-! ### Keying and routes -/

theorem trngBytes_sent (s : State) (n : Nat) : SentPlain s (trngBytes s n).2 := .of_westad rfl rfl

theorem kxSign_state (s : State) (d : Bytes) : (kxSign s d).2 = { s with free := s.free + 1 } := rfl

theorem kxSign_sent (s : State) (d : Bytes) : SentPlain s (kxSign s d).2 := .of_westad rfl rfl

theorem sendClear_sent (s : State) (m ty : Nat) (b : Bytes) : SentPlain s (sendClear s m ty b) := putOnLink_sent _ _ _ _

theorem startKeying_sent (s : State) (m : Nat) : Sent s (startKeying s m) := by
  unfold startKeying
  extract_lets me n e k body g
  have drawn : Sent s g.2 := .of_westad rfl rfl
  split
  · exact .refl s
  · split
    · exact drawn
    · exact drawn.trans ((Sent.modPair _ _ _).trans (sendClear_sent _ _ _ _).toSent)

theorem routesChanged_sent (s : State) : Sent s (routesChanged s) := by
  unfold routesChanged
  refine Sent.foldl (fun s m => ?_) _ s
  split
  · exact (resendPair_sent s m).toSent
  · split
    · dsimp only
      split
      · exact startKeying_sent s m
      · exact (sendClear_sent s m _ _).toSent
    · exact .refl s

theorem linksChanged_sent (s : State) : Sent s (linksChanged s) := by
  unfold linksChanged
  dsimp only
  split
  · exact .refl s
  · exact (floodRoute_sent s _ _).toSent.trans (routesChanged_sent _)

end Sys2Proof.Machine
end

section
/-! Westad links: flits, replay, retraining and loss (R402 to R405). -/

namespace Sys2Proof.Machine

open Sys2Proof.Claims

/-! ### Replay (R403) -/

/-- A kept flit sent again. -/
def flitAgain (l : Nat) (s : State) (f : Nat × Bytes) : State := sendFlit s l 1 f.1 0 (leAt f.2 0 2) (f.2.drop 2)

/-- The flit as it leaves. -/
def flitOut (l ack : Nat) (f : Nat × Bytes) : Out := .flit l (flitBytes 1 f.1 ack 0 (leAt f.2 0 2) (f.2.drop 2))

/-- What sending kept flits again leaves of the link, and what leaves the device. -/
structure Replayed (s s' : State) (l : Nat) (fs : List (Nat × Bytes)) : Prop where
  out : s'.out = s.out ++ fs.map (flitOut l (linkAck (wlink s l)))
  regs : s'.regs = s.regs
  link : ∃ ack, wlink s' l = { wlink s l with ackSent := ack }

theorem flitsAgain_replayed {l : Nat} (fs : List (Nat × Bytes)) {s : State} (up : (wlink s l).state = 3) : Replayed s (fs.foldl (flitAgain l) s) l fs := by
  induction fs generalizing s with
  | nil => exact ⟨(List.append_nil _).symm, rfl, _, rfl⟩
  | cons f fs ih =>
    have one : flitAgain l s f = emit (modLink s l (fun k => { k with ackSent := linkAck k })) (flitOut l (linkAck (wlink s l)) f) := sendFlit_up up _ _ _ _ _
    have link : wlink (flitAgain l s f) l = { wlink s l with ackSent := linkAck (wlink s l) } := by
      rw [one]
      exact wlink_modLink s l _
    have ack : linkAck (wlink (flitAgain l s f) l) = linkAck (wlink s l) := by rw [link, linkAck, linkAck]
    obtain ⟨out, regs, a, rest⟩ := ih (s := flitAgain l s f) (by rw [link]; exact up)
    refine ⟨?_, ?_, a, ?_⟩
    · rw [List.foldl_cons, out, ack, one, List.map_cons, emit, List.append_assoc, List.singleton_append]
      rfl
    · rw [List.foldl_cons, regs, one]
      rfl
    · rw [List.foldl_cons, rest, link]

/-- Replays of one SEQ in a row, this one counted. -/
def replayCount (k : Link) (seq : Nat) : Nat := if k.replays ≠ 0 ∧ k.replaySeq = seq then k.replays + 1 else 1

/-- A replay noted and counted. -/
def replayNoted (s : State) (l seq : Nat) : State :=
  bump (modLink s l (fun k => { k with replays := replayCount (wlink s l) seq, replaySeq := seq })) .laneWlink l 63 48 1

theorem replayFrom_none {s : State} {l seq : Nat} (none_ : ∀ f ∈ (wlink s l).replay, f.1 ≠ seq) : replayFrom s l seq = s := by
  refine if_pos (.inr ?_)
  have unfound : (wlink s l).replay.any (fun f => f.1 == seq) = false := List.any_eq_false.2 fun f hf => by
    rw [beq_iff_eq]
    exact none_ f hf
  rw [unfound]
  rfl

theorem replayFrom_some {s : State} {l seq : Nat} (up : (wlink s l).state = 3) (some_ : ∃ f ∈ (wlink s l).replay, f.1 = seq) : replayFrom s l seq =
    if 8 ≤ replayCount (wlink s l) seq then retrain (modLink (replayNoted s l seq) l (fun k => { k with replays := 0 })) l
    else ((wlink s l).replay.dropWhile (fun f => f.1 != seq)).foldl (flitAgain l) (replayNoted s l seq) := by
  have found : (wlink s l).replay.any (fun f => f.1 == seq) = true := by
    obtain ⟨f, hf, same⟩ := some_
    exact List.any_eq_true.2 ⟨f, hf, beq_iff_eq.2 same⟩
  unfold replayFrom
  dsimp only
  rw [if_neg (by simp [up, found])]
  rfl

theorem replayNoted_link (s : State) (l seq : Nat) :
    wlink (replayNoted s l seq) l = { wlink s l with replays := replayCount (wlink s l) seq, replaySeq := seq } := wlink_modLink s l _

theorem replayNoted_counts (s : State) (l seq : Nat) :
    fldGet (replayNoted s l seq) .laneWlink l 63 48 = min 65535 (fldGet s .laneWlink l 63 48 + 1) := fldGet_bump16 _ _ _ (by decide) rfl

/-! ### Retraining and loss (R405) -/

/-- What a change of the links leaves. -/
def routeParts : List Part := [.free, .arbs, .westad, .out]

theorem linksChanged_frame (s : State) : Within (· ∈ routeParts) s (linksChanged s) :=
  @linksChanged_within _ ⟨by decide⟩ ⟨by decide⟩ ⟨by decide⟩ ⟨by decide⟩ _ _ (Within.refl s)

/-- The lanes of a link. -/
theorem linkLanes_mem {s : State} {l n : Nat} (h : n ∈ linkLanes s l) : n < 4096 ∧ kcLaneFunc s.kc n = 4 := by
  obtain ⟨func_, -⟩ := List.mem_filter.1 h
  exact ⟨lanesOf_lt s 4 n func_, beq_iff_eq.1 (List.mem_filter.1 func_).2⟩

/-- The lanes of a link walked. -/
theorem lanes_westad {f : State → Nat → State} (each : ∀ s n, (f s n).westad = s.westad) (l : List Nat) (s : State) : (l.foldl f s).westad = s.westad :=
  view_foldl (g := State.westad) each l s

theorem downDomain_westad (s : State) (d : Nat) : (downDomain s d).westad = s.westad := (downDomains_frame [d] s).same .westad (by decide)

/-- A link that goes down starts anew, and its receive domain is DOWN. -/
theorem dropLink_acts (s : State) (l : Nat) : wlink (dropLink s l) l = linkInit ∧ (dom (dropLink s l) (8 + l)).down = true := by
  unfold dropLink
  extract_lets idle
  refine ⟨?_, by rw [dom_downDomain]⟩
  rw [wlink_of_westad (downDomain_westad _ _), wlink_modLink]

theorem linkLost_down {s : State} {l : Nat} (down : (wlink s l).state = 1) : linkLost s l = s := if_pos down

theorem linkLost_acts {s : State} {l : Nat} (other : (wlink s l).state ≠ 1) : wlink (linkLost s l) l = linkInit ∧ (dom (linkLost s l) (8 + l)).down = true := by
  obtain ⟨link, down⟩ := dropLink_acts s l
  have lost : linkLost s l = linksChanged (dropLink s l) := if_neg other
  rw [lost]
  refine ⟨?_, ?_⟩
  · rw [(linksChanged_sent (dropLink s l)).down l (by rw [link]; decide), link]
  · rw [dom_of_doms ((linksChanged_frame _).same .doms (by decide)), down]

/-- The lanes that were up train again. -/
def lanesRetrain (s : State) (l : Nat) : State := (linkLanes s l).foldl (fun s n => if laneState s n = 3 then setLane s n 2 else s) s

theorem retrain_eq (s : State) (l : Nat) : retrain s l =
    if widest (workingLanes s l) = 0 then linkLost (bump s .laneWlink l 47 32 1) l
    else linksChanged (downDomain (modLink (lanesRetrain (bump s .laneWlink l 47 32 1) l) l (fun k => { k with state := 2, width := widest (workingLanes s l) }))
      (8 + l)) := rfl

/-- What retraining and loss leave of LANE_WLINK. -/
theorem lanesWalk_regGet {q : Reg} {i : Nat} (hi : i < 4096) (other : (regPlace q).base ≠ (regPlace .laneStat).base) {f : State → Nat → State}
    (each : ∀ s n, f s n = s ∨ ∃ st, f s n = setLane s n st) : ∀ (l : List Nat) (_ : ∀ n ∈ l, n < 4096) (s : State), regGet (l.foldl f s) q i = regGet s q i
  | [], _, _ => rfl
  | n :: l, small, s => by
    refine (lanesWalk_regGet hi other each l (fun m hm => small m (List.mem_cons_of_mem _ hm)) (f s n)).trans ?_
    rcases each s n with same | ⟨st, set_⟩
    · rw [same]
    · rw [set_]
      exact regGet_fldSet_ne s (regKey_ne hi (small n List.mem_cons_self) other) _ _ _

theorem dropLink_regGet {q : Reg} {i : Nat} (hi : i < 4096) (other : (regPlace q).base ≠ (regPlace .laneStat).base)
    (drop : (regPlace q).base ≠ (regPlace .laneDrop).base) (sat : (regPlace q).base ≠ (regPlace .arbXsat).base) (s : State) (l : Nat) :
    regGet (dropLink s l) q i = regGet s q i := by
  unfold dropLink
  extract_lets idle
  have idled : regGet idle q i = regGet s q i := lanesWalk_regGet hi other (fun s n => by
    split
    · exact .inr ⟨1, rfl⟩
    · exact .inl rfl) _ (fun n hn => (linkLanes_mem hn).1) s
  exact (regGet_flushDomain drop sat _ _ hi).trans idled

theorem linksChanged_regs (s : State) : (linksChanged s).regs = s.regs := (linksChanged_frame s).same .regs (by decide)

theorem linkLost_regGet {q : Reg} {i : Nat} (hi : i < 4096) (other : (regPlace q).base ≠ (regPlace .laneStat).base)
    (drop : (regPlace q).base ≠ (regPlace .laneDrop).base) (sat : (regPlace q).base ≠ (regPlace .arbXsat).base) (s : State) (l : Nat) :
    regGet (linkLost s l) q i = regGet s q i := by
  unfold linkLost
  split
  · rfl
  · rw [regGet_of_regs (linksChanged_regs _), dropLink_regGet hi other drop sat]

theorem retrain_wlink {l : Nat} (hl : l < 4) (s : State) : regGet (retrain s l) .laneWlink l = regGet (bump s .laneWlink l 47 32 1) .laneWlink l := by
  have low : l < 4096 := Nat.lt_trans hl (by decide)
  rw [retrain_eq]
  split
  · exact linkLost_regGet low (by decide) (by decide) (by decide) _ _
  · rw [regGet_of_regs (linksChanged_regs _)]
    refine (regGet_flushDomain (by decide) (by decide) _ _ low).trans ?_
    exact lanesWalk_regGet low (by decide) (fun s n => by
      split
      · exact .inr ⟨2, rfl⟩
      · exact .inl rfl) _ (fun n hn => (linkLanes_mem hn).1) _

/-- A link that retrains is not up, and the retraining is counted. -/
theorem retrain_acts {l : Nat} (hl : l < 4) (s : State) : (wlink (retrain s l) l).state ≠ 3 ∧
    fldGet (retrain s l) .laneWlink l 47 32 = min 65535 (fldGet s .laneWlink l 47 32 + 1) ∧
    fldGet (retrain s l) .laneWlink l 63 48 = fldGet s .laneWlink l 63 48 := by
  refine ⟨?_, ?_, ?_⟩
  · rw [retrain_eq]
    split
    · generalize bump s .laneWlink l 47 32 1 = t
      by_cases down : (wlink t l).state = 1
      · rw [linkLost_down down, down]
        decide
      · rw [(linkLost_acts down).1]
        decide
    · rw [((linksChanged_sent _).links l).state, wlink_of_westad (downDomain_westad _ _), wlink_modLink]
      exact (by decide : (2 : Nat) ≠ 3)
  · rw [fldGet, retrain_wlink hl]
    exact fldGet_bump16 s _ _ (by decide) rfl
  · rw [fldGet, retrain_wlink hl]
    exact fldGet_bump_apart s _ _ _ (by decide)

section

variable {s : State} {l seq : Nat}

/-- A replay sends again from its SEQ on. -/
theorem replayFrom_again (up : (wlink s l).state = 3) (some_ : ∃ f ∈ (wlink s l).replay, f.1 = seq) (few : replayCount (wlink s l) seq < 8) :
    let s' := replayFrom s l seq
    fldGet s' .laneWlink l 63 48 = min 65535 (fldGet s .laneWlink l 63 48 + 1) ∧ (wlink s' l).replays = replayCount (wlink s l) seq ∧
      (wlink s' l).replaySeq = seq ∧ (wlink s' l).replay = (wlink s l).replay ∧
      s'.out = s.out ++ ((wlink s l).replay.dropWhile (fun f => f.1 != seq)).map (flitOut l (linkAck (wlink s l))) := by
  have noted := replayNoted_link s l seq
  have counts := replayNoted_counts s l seq
  have ack : linkAck (wlink (replayNoted s l seq) l) = linkAck (wlink s l) := by rw [noted, linkAck, linkAck]
  have acts : replayFrom s l seq = _ := (replayFrom_some up some_).trans (if_neg (by omega))
  obtain ⟨out, regs, a, link⟩ := flitsAgain_replayed ((wlink s l).replay.dropWhile (fun f => f.1 != seq)) (s := replayNoted s l seq) (by rw [noted]; exact up)
  intro s'
  have same : s' = _ := acts
  rw [same, fldGet_of_regs regs, counts, link, noted, out, ack]
  exact ⟨rfl, rfl, rfl, rfl, rfl⟩

/-- The eighth in a row makes the link retrain. -/
theorem replayFrom_retrains (hl : l < 4) (up : (wlink s l).state = 3) (some_ : ∃ f ∈ (wlink s l).replay, f.1 = seq) (many : 8 ≤ replayCount (wlink s l) seq) :
    let s' := replayFrom s l seq
    fldGet s' .laneWlink l 63 48 = min 65535 (fldGet s .laneWlink l 63 48 + 1) ∧ (wlink s' l).state ≠ 3 ∧
      fldGet s' .laneWlink l 47 32 = min 65535 (fldGet s .laneWlink l 47 32 + 1) := by
  have counts := replayNoted_counts s l seq
  have apart : fldGet (replayNoted s l seq) .laneWlink l 47 32 = fldGet s .laneWlink l 47 32 := fldGet_bump_apart _ _ _ _ (by decide)
  have acts : replayFrom s l seq = _ := (replayFrom_some up some_).trans (if_pos many)
  obtain ⟨state, retrains, stays⟩ := retrain_acts hl (modLink (replayNoted s l seq) l (fun k => { k with replays := 0 }))
  intro s'
  have same : s' = _ := acts
  rw [same]
  exact ⟨stays.trans counts, state, retrains.trans (congrArg (fun n => min 65535 (n + 1)) apart)⟩

end

/-! ### A flit that arrives (R403) -/

section

variable {s : State} {l : Nat} {b : Bytes}

/-- Whether a flit is whole and its CRC right (R402). -/
def soundFlit (b : Bytes) : Prop := b.length = 128 ∧ crc32 (b.take 124) = leAt b 124 4

theorem sendNak_again (sent : (wlink s l).nakSent = true) : sendNak s l = s := if_pos sent

theorem sendNak_first (up : (wlink s l).state = 3) (unsent : (wlink s l).nakSent = false) : (wlink (sendNak s l) l).rxSeq = (wlink s l).rxSeq ∧
    (wlink (sendNak s l) l).nakSent = true ∧ (sendNak s l).out = s.out ++ [.flit l (flitBytes 2 (wlink s l).rxSeq (linkAck (wlink s l)) 0 0 [])] := by
  have naks : sendNak s l = modLink (sendFlit s l 2 (wlink s l).rxSeq 0 0 []) l (fun k => { k with nakSent := true }) := if_neg (by rw [unsent]; decide)
  have flit := (sendFlit_sent s l 2 (wlink s l).rxSeq 0 0 []).links l
  rw [naks, wlink_modLink]
  refine ⟨flit.rxSeq, rfl, ?_⟩
  rw [sendFlit_up up]
  rfl

theorem sendNak_naks (up : (wlink s l).state = 3) : (wlink (sendNak s l) l).rxSeq = (wlink s l).rxSeq ∧ (wlink (sendNak s l) l).nakSent = true := by
  cases sent : (wlink s l).nakSent with
  | true =>
    rw [sendNak_again sent]
    exact ⟨rfl, sent⟩
  | false =>
    obtain ⟨seq, nak, -⟩ := sendNak_first up sent
    exact ⟨seq, nak⟩

theorem flitIn_unsound (up : (wlink s l).state = 3) (runs : domOut s (8 + l) = false) (bad : ¬ soundFlit b) : flitIn s l b = sendNak s l := by
  have bad' : b.length ≠ 128 ∨ crc32 (b.take 124) ≠ leAt b 124 4 := by
    by_contra good
    rw [not_or, not_not, not_not] at good
    exact bad good
  unfold flitIn
  rw [if_neg (by simp [up, runs]), if_pos bad']

/-- The link after ACK and CRED. -/
theorem takeAckCred_link (s : State) (l : Nat) (b : Bytes) : wlink (takeAckCred s l b) l = { wlink s l with
    replay := ackedOut (leAt b 2 2 % 4096) (wlink s l).replay
    credits := setNth (wlink s l).credits (leAt b 4 2 % 4) (nth 0 (wlink s l).credits (leAt b 4 2 % 4) + leAt b 4 2 / 4 % 64) } := wlink_modLink s l _

theorem txReady_nil {k : Link} (none_ : k.txq = []) : txReady k = [] := List.filter_eq_nil_iff.2 fun c _ => by
  rw [none_]
  simp

theorem messageIn_sent (s : State) (b : Bytes) : SentPlain s (messageIn s b) := by
  unfold messageIn
  split
  · exact .refl s
  · exact putOnLink_sent s _ _ _

/-- A DATA flit in order is accepted. -/
theorem dataFlit_accepts (s : State) (l : Nat) (b : Bytes) : (wlink (dataFlit s l b) l).rxSeq = ((wlink s l).rxSeq + 1) % 4096 ∧
    (wlink (dataFlit s l b) l).nakSent = false := by
  unfold dataFlit
  extract_lets frag part_ msg cls taken credited
  have link : (wlink taken l).rxSeq = ((wlink s l).rxSeq + 1) % 4096 ∧ (wlink taken l).nakSent = false := by
    unfold taken
    rw [wlink_modLink]
    exact ⟨rfl, rfl⟩
  have credit : SentPlain taken credited := sendFlit_sent _ _ _ _ _ _ _
  have rest : SentPlain taken (if frag.testBit 8 then messageIn credited msg else credited) := by
    split
    · exact credit.trans (messageIn_sent _ _)
    · exact credit
  obtain ⟨-, -, -, seq, nak, -⟩ := rest.links l
  rw [seq, nak]
  exact link

section

variable (up : (wlink s l).state = 3) (runs : domOut s (8 + l) = false) (good : soundFlit b)

include up runs good

/-- A flit that carries ACK and CRED alone, with nothing waiting to leave. -/
theorem flitIn_plain (plain : leAt b 0 2 / 4096 = 0) (none_ : (wlink s l).txq = []) : flitIn s l b = takeAckCred s l b := by
  obtain ⟨len, crc⟩ := good
  unfold flitIn
  rw [if_neg (by simp [up, runs]), if_neg (by simp [len, crc])]
  dsimp only
  split
  · omega
  · omega
  · refine pump_idle (txReady_nil ?_)
    rw [takeAckCred_link]
    exact none_

theorem flitIn_data (data : leAt b 0 2 / 4096 = 1) : flitIn s l b =
    pump (if leAt b 0 2 % 4096 = (wlink s l).rxSeq then dataFlit (takeAckCred s l b) l b else sendNak (takeAckCred s l b) l) l := by
  obtain ⟨len, crc⟩ := good
  have seq : (wlink (takeAckCred s l b) l).rxSeq = (wlink s l).rxSeq := by rw [takeAckCred_link]
  unfold flitIn
  rw [if_neg (by simp [up, runs]), if_neg (by simp [len, crc])]
  dsimp only
  split
  · rw [seq]
  · omega
  · next other _ => exact absurd data other

/-- A DATA flit in order is accepted. -/
theorem flitIn_next (data : leAt b 0 2 / 4096 = 1) (next_ : leAt b 0 2 % 4096 = (wlink s l).rxSeq) :
    (wlink (flitIn s l b) l).rxSeq = ((wlink s l).rxSeq + 1) % 4096 ∧ (wlink (flitIn s l b) l).nakSent = false := by
  obtain ⟨seq, nak⟩ := dataFlit_accepts (takeAckCred s l b) l b
  rw [flitIn_data up runs good data, if_pos next_, ((pump_sent _ l).links l).rxSeq, ((pump_sent _ l).links l).nakSent, seq, nak, takeAckCred_link]
  exact ⟨rfl, rfl⟩

/-- One out of order is answered by a NAK. -/
theorem flitIn_gap (data : leAt b 0 2 / 4096 = 1) (other : leAt b 0 2 % 4096 ≠ (wlink s l).rxSeq) :
    (wlink (flitIn s l b) l).rxSeq = (wlink s l).rxSeq ∧ (wlink (flitIn s l b) l).nakSent = true := by
  have live : (wlink (takeAckCred s l b) l).state = 3 := by
    rw [takeAckCred_link]
    exact up
  obtain ⟨seq, nak⟩ := sendNak_naks live
  rw [flitIn_data up runs good data, if_neg other, ((pump_sent _ l).links l).rxSeq, ((pump_sent _ l).links l).nakSent, seq, nak, takeAckCred_link]
  exact ⟨rfl, rfl⟩

end

end

/-- The replay of REPLAY_TIMEOUT. -/
def replayOldest (s : State) (l : Nat) : State :=
  match (wlink s l).replay with
  | f :: _ => replayFrom s l f.1
  | [] => s

theorem replayOldest_cons {s : State} {l : Nat} {f : Nat × Bytes} {fs : List (Nat × Bytes)} (oldest : (wlink s l).replay = f :: fs) :
    replayOldest s l = replayFrom s l f.1 := by rw [replayOldest, oldest]

theorem replayOldest_nil {s : State} {l : Nat} (none_ : (wlink s l).replay = []) : replayOldest s l = s := by rw [replayOldest, none_]

/-! ### A lane that fails, and a link that has trained (R404, R405) -/

/-- What a retraining leaves. -/
def retrainParts : List Part := [.free, .regs, .arbs, .doms, .xq, .westad, .out]

theorem retrain_frame (s : State) (l : Nat) : Within (· ∈ retrainParts) s (retrain s l) :=
  @retrain_within _ ⟨by decide⟩ ⟨by decide⟩ ⟨by decide⟩ ⟨by decide⟩ ⟨by decide⟩ ⟨by decide⟩ ⟨by decide⟩ _ _ _ (Within.refl s)

/-- A lane that is down stays so while others train. -/
theorem lanesWalk_down {n : Nat} {f : State → Nat → State} (each : ∀ s m, f s m = s ∨ (laneState s m ≠ 1 ∧ ∃ st, f s m = setLane s m st)) (l : List Nat)
    {s : State} (down : laneState s n = 1) : laneState (l.foldl f s) n = 1 := by
  refine foldl_keeps (P := fun s => laneState s n = 1) (fun s m down => ?_) l down
  rcases each s m with same | ⟨other, st, set_⟩
  · rwa [same]
  · rw [set_, laneState_setLane_ne s (fun same : n = m => other (by rw [← same]; exact down)), down]

theorem downDomain_laneState (s : State) (d : Nat) {n : Nat} (hn : n < 4096) : laneState (downDomain s d) n = laneState s n :=
  laneState_congr ((downDomains_frame [d] s).same .kc (by decide)) (flushDomain_laneStat s d hn)

theorem linksChanged_laneState (s : State) (n : Nat) : laneState (linksChanged s) n = laneState s n :=
  laneState_of_regs ((linksChanged_frame s).same .kc (by decide)) (linksChanged_regs s) n

theorem linkLost_lane {s : State} {n : Nat} (hn : n < 4096) (down : laneState s n = 1) (l : Nat) : laneState (linkLost s l) n = 1 := by
  unfold linkLost
  split
  · exact down
  · rw [linksChanged_laneState, dropLink, downDomain_laneState _ _ hn]
    exact lanesWalk_down (fun s m => by
      split
      · exact .inr ⟨by omega, 1, rfl⟩
      · exact .inl rfl) (linkLanes s l) down

theorem retrain_lane {s : State} {n : Nat} (hn : n < 4096) {l : Nat} (hl : l < 4) (down : laneState s n = 1) : laneState (retrain s l) n = 1 := by
  have counted : laneState (bump s .laneWlink l 47 32 1) n = 1 :=
    (laneState_congr (s := s) (s' := bump s .laneWlink l 47 32 1) rfl (regGet_fldSet_ne s (regKey_ne hn (by omega) (by decide)) _ _ _)).trans down
  rw [retrain_eq]
  split
  · exact linkLost_lane hn counted l
  · rw [linksChanged_laneState, downDomain_laneState _ _ hn]
    exact lanesWalk_down (fun s m => by
      split
      · exact .inr ⟨by omega, 2, rfl⟩
      · exact .inl rfl) _ counted

/-- A lane that fails is reported, and its link retrains without it. -/
theorem linkLaneFails_acts {s : State} {l ix n : Nat} (hl : l < 4) (up : (wlink s l).state = 3)
    (found : (linkLanes s l).find? (fun n => kcLaneIndex s.kc n % 4 == ix) = some n) (lane : laneState s n = 3) (serves : (punit s 8 n).state ≠ 3) :
    let s' := linkLaneFails s l ix
    (punit s' 8 n).probe.isSome = true ∧ (wlink s' l).state ≠ 3 ∧ laneState s' n = 1 ∧
      fldGet s' .laneWlink l 47 32 = min 65535 (fldGet s .laneWlink l 47 32 + 1) := by
  obtain ⟨hn, func_⟩ := linkLanes_mem (List.mem_of_find?_eq_some found)
  have reported := report_frame (setLane s n 1) 8 n 0xD 0xFF n
  have probed : (punit (report (setLane s n 1) 8 n 0xD 0xFF n) 8 n).probe.isSome = true := report_probed (s := s) (x := setLane s n 1) (fun _ _ => rfl) rfl serves _ _ _
  have down : laneState (report (setLane s n 1) 8 n 0xD 0xFF n) n = 1 :=
    (laneState_of_regs (reported.same .kc (by decide)) (reported.same .regs (by decide)) n).trans
      (laneState_setLane (by rw [func_]; decide) (by decide))
  have link : wlink (report (setLane s n 1) 8 n 0xD 0xFF n) l = wlink s l := wlink_of_westad (s := s) (reported.same .westad (by decide)) l
  have count : fldGet (report (setLane s n 1) 8 n 0xD 0xFF n) .laneWlink l 47 32 = fldGet s .laneWlink l 47 32 :=
    (fldGet_of_regs (reported.same .regs (by decide)) _ _ _ _).trans (fldGet_fldSet_ne s (regKey_ne (by omega) hn (by decide)) _ _ _ _ _)
  have fails : linkLaneFails s l ix = retrain (report (setLane s n 1) 8 n 0xD 0xFF n) l := by
    unfold linkLaneFails
    rw [found]
    dsimp only
    rw [if_neg (by rw [lane]; decide), if_pos (by rw [link, up])]
  intro s'
  have runs : s' = _ := fails
  generalize report (setLane s n 1) 8 n 0xD 0xFF n = r at *
  obtain ⟨state, counted, -⟩ := retrain_acts hl r
  rw [runs]
  refine ⟨?_, state, retrain_lane hn hl down, by rw [counted, count]⟩
  rw [punit_of_faults ((retrain_frame r l).same .faults (by decide))]
  exact probed

/-! ### A link that has trained (R404, R405) -/

theorem grantCredits_sent (s : State) (l c f n : Nat) : SentPlain s (grantCredits s l c f n) := by
  induction f generalizing s n with
  | zero => exact .refl s
  | succ f ih =>
    unfold grantCredits
    split
    · exact .refl s
    · exact (sendFlit_sent s l 3 0 (c + 4 * min 63 n) 0 []).trans (ih _ _)

/-- A link as it comes up. -/
def linkStarted (s : State) (l width peer : Nat) : State :=
  let s := (linkLanes s l).foldl (fun s n => if laneState s n = 4 ∨ probing s 8 n then s else setLane s n 3) s
  let s := modLink s l (fun k => { k with state := 3, width := width, peer := peer, nakSent := false, replays := 0 })
  resetDomain (resetDomain s (8 + l)) 12

/-- Its buffers granted when it was down. -/
def linkGranted (s t : State) (l : Nat) : State :=
  if (wlink s l).state == 1 then grantCredits (grantCredits (grantCredits t l 0 64 64) l 1 64 960) l 2 64 128 else t

theorem linkUp_eq {s : State} {l width : Nat} (awake : s.faults.quiet = false) (lanes : linkLanes s l ≠ []) (wide : width = 1 ∨ width = 2 ∨ width = 4)
    (down : (wlink s l).state ≠ 3) (peer : Nat) : linkUp s l width peer =
    linksChanged (pump ((wlink (linkGranted s (linkStarted s l width peer) l) l).replay.foldl (flitAgain l) (linkGranted s (linkStarted s l width peer) l)) l) := by
  unfold linkUp
  rw [if_neg (by simp [awake, lanes, wide, down])]
  rfl

theorem resetDomain_westad (s : State) (d : Nat) : (resetDomain s d).westad = s.westad := (resetDomains_frame [d] s).same .westad (by decide)

theorem linkStarted_link (s : State) (l width peer : Nat) : wlink (linkStarted s l width peer) l =
    { wlink s l with state := 3, width := width, peer := peer, nakSent := false, replays := 0 } := by
  unfold linkStarted
  extract_lets lanes
  have same : lanes.westad = s.westad := lanes_westad (fun s n => by split <;> rfl) _ s
  rw [wlink_of_westad ((resetDomain_westad _ _).trans (resetDomain_westad _ _)), wlink_modLink, wlink_of_westad same]

theorem linkGranted_sent (s t : State) (l : Nat) : SentPlain t (linkGranted s t l) := by
  unfold linkGranted
  split
  · exact ((grantCredits_sent t l 0 64 64).trans (grantCredits_sent _ l 1 64 960)).trans (grantCredits_sent _ l 2 64 128)
  · exact .refl t

/-- A link that comes up keeps what it has not had acknowledged. -/
theorem linkUp_acts {s : State} {l width : Nat} (awake : s.faults.quiet = false) (lanes : linkLanes s l ≠ []) (wide : width = 1 ∨ width = 2 ∨ width = 4)
    (down : (wlink s l).state ≠ 3) (peer : Nat) : (wlink (linkUp s l width peer) l).state = 3 ∧ (wlink (linkUp s l width peer) l).width = width ∧
      (wlink (linkUp s l width peer) l).peer = peer ∧ ∀ f ∈ (wlink s l).replay, f ∈ (wlink (linkUp s l width peer) l).replay := by
  have started := linkStarted_link s l width peer
  have granted := linkGranted_sent s (linkStarted s l width peer) l
  have resent := SentPlain.foldl (f := flitAgain l) (fun s f => sendFlit_sent s l 1 f.1 0 (leAt f.2 0 2) (f.2.drop 2))
    (wlink (linkGranted s (linkStarted s l width peer) l) l).replay (linkGranted s (linkStarted s l width peer) l)
  have sent := ((granted.trans resent).trans (pump_sent _ l)).toSent.trans (linksChanged_sent _)
  obtain ⟨state, wide_, other, -, -, replay⟩ := sent.links l
  rw [linkUp_eq awake lanes wide down]
  rw [started] at state wide_ other replay
  exact ⟨state, wide_, other, replay⟩

/-! ### Messages sent again (R406) -/

/-- Routes follow from what sending leaves. -/
theorem Sent.routeTo {s t : State} (h : Sent s t) (m : Nat) : Machine.routeTo t m = Machine.routeTo s m := by
  have cand : ∀ l, (if (wlink t l).state = 3 ∧ (wlink t l).peer < 8 then (hopsTo t.westad.linkStates m 8 [(wlink t l).peer]).map (fun h => (h + 1, l)) else none) =
      (if (wlink s l).state = 3 ∧ (wlink s l).peer < 8 then (hopsTo s.westad.linkStates m 8 [(wlink s l).peer]).map (fun h => (h + 1, l)) else none) := fun l => by
    rw [(h.links l).state, (h.links l).peer, h.linkStates]
  unfold Machine.routeTo
  rw [funext cand]

/-- No class of a link has a credit. -/
def Dry (k : Link) : Prop := ∀ c, c < 3 → nth 0 k.credits c = 0

theorem Dry.txReady {k : Link} (dry : Dry k) : txReady k = [] := List.filter_eq_nil_iff.2 fun c hc => by
  rw [dry c (List.mem_range.1 hc)]
  simp

/-- Without a credit a message waits on its link. -/
theorem putOnLink_waits {s : State} {m l hops : Nat} (route : routeTo s m = some (hops, l)) (dry : Dry (wlink s l)) (cls : Nat) (msg : Bytes) :
    putOnLink s m cls msg = modLink s l (fun k => { k with txq := k.txq ++ fragments cls (msg.length + 1) true msg }) := by
  unfold putOnLink
  rw [route]
  refine pump_idle ?_
  rw [wlink_modLink]
  exact Dry.txReady dry

/-- An unacknowledged message as it goes over the link again. -/
def resentFlits (s : State) (m : Nat) (x : Nat × Nat × Bytes) : List (Nat × Nat × Bytes) :=
  fragments (x.2.1 / 256) ((sealMsg s m (x.2.1 / 256) (x.2.1 % 256) x.1 x.2.2).length + 1) true (sealMsg s m (x.2.1 / 256) (x.2.1 % 256) x.1 x.2.2)

theorem resends_wait {s : State} {m l hops : Nat} : ∀ (xs : List (Nat × Nat × Bytes)) {t : State}, SentPlain s t → routeTo t m = some (hops, l) → Dry (wlink t l) →
    (wlink (xs.foldl (fun s x => putOnLink s m (x.2.1 / 256) (sealMsg s m (x.2.1 / 256) (x.2.1 % 256) x.1 x.2.2)) t) l).txq =
      (wlink t l).txq ++ xs.flatMap (resentFlits s m)
  | [], t, _, _, _ => (List.append_nil _).symm
  | x :: xs, t, kept, route, dry => by
    have same : sealMsg t m (x.2.1 / 256) (x.2.1 % 256) x.1 x.2.2 = sealMsg s m (x.2.1 / 256) (x.2.1 % 256) x.1 x.2.2 := by
      rw [sealMsg, sealMsg, kept.wpair, kept.kc]
    have waits := putOnLink_waits route dry (x.2.1 / 256) (sealMsg s m (x.2.1 / 256) (x.2.1 % 256) x.1 x.2.2)
    have sent := putOnLink_sent t m (x.2.1 / 256) (sealMsg s m (x.2.1 / 256) (x.2.1 % 256) x.1 x.2.2)
    have link : wlink (putOnLink t m (x.2.1 / 256) (sealMsg s m (x.2.1 / 256) (x.2.1 % 256) x.1 x.2.2)) l =
        { wlink t l with txq := (wlink t l).txq ++ resentFlits s m x } := by
      rw [waits, wlink_modLink, resentFlits]
    rw [List.foldl_cons, same, resends_wait xs (kept.trans sent) ((sent.routeTo m).trans route) (by rw [link]; exact dry), link, List.flatMap_cons,
      List.append_assoc]

theorem resendPair_waits {s : State} {m l hops : Nat} (keyed : pairState s m = 2) (route : routeTo s m = some (hops, l)) (dry : Dry (wlink s l)) :
    (wlink (resendPair s m) l).txq = (wlink s l).txq ++ (wpair s m).unacked.flatMap (resentFlits s m) := by
  unfold resendPair
  rw [if_pos keyed]
  exact resends_wait _ (.refl s) route dry

/-- Settles O35: flits, replays, retrainings and losses act on the link that they name, and what they send leaves it. -/
theorem westadLinksRun : Obligations.WestadLinksRun := by
  unfold Obligations.WestadLinksRun
  intro s l k up flit replays
  have hl := l.isLt
  have replayed : ∀ (i : Instr) (seq : Nat), up → (∃ f ∈ k.replay, f.1 = seq) → exec i s = .next (replayFrom s l seq) → replays i seq :=
    fun i seq live some_ runs => ⟨fun few => completes_to runs rfl (replayFrom_again live some_ few), fun many =>
      completes_to runs rfl (replayFrom_retrains hl live some_ many)⟩
  refine ⟨fun b live runs => ?_, fun seq live some_ => replayed _ _ live some_ rfl, fun seq none_ => completes_same rfl (replayFrom_none none_),
    fun f fs live oldest => ?_, fun none_ => ?_, fun lane n live found lane_ serves => ⟨_, rfl, linkLaneFails_acts hl live found lane_ serves⟩,
    fun other => ⟨_, rfl, linkLost_acts other⟩, fun down => completes_same rfl (linkLost_down down), fun width peer free awake lanes wide down => ?_,
    fun m hops awake keyed route dry => ?_⟩
  · intro sound seq taken naks
    refine ⟨fun bad unsent => ?_, fun bad sent => ?_, fun good data none_ => ?_, fun good data next_ => ?_, fun good data other => ?_⟩
    · obtain ⟨rx, nak, out⟩ := sendNak_first live unsent
      exact completes_to rfl (flitIn_unsound live runs bad) ⟨⟨rx, nak⟩, out⟩
    · exact completes_same rfl ((flitIn_unsound live runs bad).trans (sendNak_again sent))
    · have link := takeAckCred_link s l b
      refine completes_to rfl (flitIn_plain live runs good data none_) ⟨link, fun f listed _ => ?_⟩
      rw [link] at listed
      exact of_decide_eq_true (List.mem_filter.1 listed).2
    · exact ⟨_, rfl, flitIn_next live runs good data next_⟩
    · exact ⟨_, rfl, flitIn_gap live runs good data other⟩
  · have some_ : ∃ g ∈ k.replay, g.1 = f.1 := ⟨f, by rw [oldest]; exact List.mem_cons_self, rfl⟩
    exact replayed _ _ live some_ (congrArg Host.Outcome.next (replayOldest_cons oldest))
  · exact completes_same rfl (replayOldest_nil none_)
  · exact completes_to rfl (if_neg (by rw [free]; decide)) (linkUp_acts awake lanes wide down peer)
  · refine completes_to rfl (if_neg (by rw [awake]; decide)) ⟨?_, resendPair_waits keyed route dry⟩
    rw [(resendPair_sent s m).wpair]

end Sys2Proof.Machine
end

section
/-! Westad pairs: link states, keying, and mirrored stagings (R406 to R408). -/

namespace Sys2Proof.Machine

open Sys2Proof.Claims

/-! ### Link states and acknowledgements (R406) -/

theorem otherMembers_contains {s : State} {m : Nat} : (otherMembers s).contains m = true ↔ m ∈ otherMembers s := List.contains_iff_mem

theorem pairState_member {s : State} {m : Nat} (member : m ∈ otherMembers s) : pairState s m = (wpair s m).state :=
  if_pos (otherMembers_contains.2 member)

theorem pairState_keyed {s : State} {m : Nat} (keyed : pairState s m = 2) : m ∈ otherMembers s ∧ (wpair s m).state = 2 := by
  unfold pairState at keyed
  split at keyed
  · next member => exact ⟨otherMembers_contains.1 member, keyed⟩
  · cases keyed

theorem routeIn_takes {s : State} {m : Nat} {edges : List (Nat × Nat)} (other : edges.filter (fun e => e.1 == m) ≠ s.westad.linkStates.filter (fun e => e.1 == m))
    (member : m ∈ otherMembers s) (awake : s.faults.quiet = false) : (routeIn s m edges).westad.linkStates =
      s.westad.linkStates.filter (fun e => e.1 != m) ++ edges.filter (fun e => e.1 == m) := by
  unfold routeIn
  dsimp only
  rw [if_neg (by simp [other, member, awake]), (routesChanged_sent _).linkStates, (floodRoute_sent _ _ _).linkStates]

theorem routeIn_ignores {s : State} {m : Nat} {edges : List (Nat × Nat)}
    (same : edges.filter (fun e => e.1 == m) = s.westad.linkStates.filter (fun e => e.1 == m) ∨ m ∉ otherMembers s) : routeIn s m edges = s := by
  refine if_pos ?_
  rcases same with old | stranger
  · exact .inl old
  · exact .inr (.inl (by simp [stranger]))

theorem ackIn_takes {s : State} {m : Nat} (keyed : pairState s m = 2) (awake : s.faults.quiet = false) (n : Nat) :
    wpair (ackIn s m n) m = { wpair s m with unacked := (wpair s m).unacked.filter (fun x => decide (n < x.1)) } := by
  unfold ackIn
  rw [if_pos (by simp [keyed, awake]), wpair_modPair]

/-! ### Keying (R407) -/

/-- A pair keyed from a secret and both messages: the initiator's direction first. -/
structure PairKeyed (old q : Pair) (initiator : Bool) (secret kx1 kx2 : Bytes) : Prop where
  state : q.state = 2
  rxMseq : q.rxMseq = 0
  txMseq : q.txMseq = old.unacked.length
  unacked : q.unacked.map (·.2) = old.unacked.map (·.2)
  txKey : q.txKey = if initiator then slice (kmac 256 secret (Config.pairInput kx1 kx2) 72 (ascii "WESTAD-PAIR")) 0 32
    else slice (kmac 256 secret (Config.pairInput kx1 kx2) 72 (ascii "WESTAD-PAIR")) 32 32
  rxKey : q.rxKey = if initiator then slice (kmac 256 secret (Config.pairInput kx1 kx2) 72 (ascii "WESTAD-PAIR")) 32 32
    else slice (kmac 256 secret (Config.pairInput kx1 kx2) 72 (ascii "WESTAD-PAIR")) 0 32
  txSalt : q.txSalt = if initiator then slice (kmac 256 secret (Config.pairInput kx1 kx2) 72 (ascii "WESTAD-PAIR")) 64 4
    else slice (kmac 256 secret (Config.pairInput kx1 kx2) 72 (ascii "WESTAD-PAIR")) 68 4
  rxSalt : q.rxSalt = if initiator then slice (kmac 256 secret (Config.pairInput kx1 kx2) 72 (ascii "WESTAD-PAIR")) 68 4
    else slice (kmac 256 secret (Config.pairInput kx1 kx2) 72 (ascii "WESTAD-PAIR")) 64 4

theorem pairKeyed_keys (s : State) (m : Nat) (initiator : Bool) (secret kx1 kx2 : Bytes) :
    PairKeyed (wpair s m) (wpair (pairKeyed s m initiator secret kx1 kx2) m) initiator secret kx1 kx2 := by
  unfold pairKeyed
  extract_lets d k0 k1 a0 a1 t
  have pair_ : wpair t m = { wpair s m with
      state := 2, kx := [], eph := [], rxMseq := 0, txMseq := (wpair s m).unacked.length
      txKey := if initiator then k0 else k1, rxKey := if initiator then k1 else k0
      txSalt := if initiator then a0 else a1, rxSalt := if initiator then a1 else a0
      unacked := (wpair s m).unacked.mapIdx (fun i x => (i + 1, x.2)) } := wpair_modPair s m _
  rw [(resendPair_sent t m).wpair, pair_]
  refine ⟨rfl, rfl, rfl, ?_, rfl, rfl, rfl, rfl⟩
  dsimp only
  exact List.ext_getElem (by simp) (by simp)

/-- A pair refused, with its record where the tail takes it. -/
theorem refusePair_refuses (s : State) (m : Nat) : (wpair (refusePair s m) m).state = 3 ∧
    (auditFull s = false → s.audit.summaries = [] → ∃ r, (refusePair s m).audit.tail = s.audit.tail ++ [r] ∧ r.kind = 0x15) := by
  unfold refusePair
  refine ⟨?_, fun room fresh => ?_⟩
  · have same := (audit_frame (modPair s m (fun p => { p with state := 3, kx := [], eph := [] })) 4 0xFF 0x15 [byte m, 3]).same .westad (by decide)
    rw [wpair, same, modPair, tget_tmod_self]
  · rw [audit_of_room (s := modPair s m _) room fresh]
    exact ⟨_, rfl, rfl⟩

/-- What KX2 carries before its signature. -/
def kx2Body (s : State) (b : Bytes) : Bytes :=
  identityPk s ++ Config.trng s.free 32 ++ (Config.mlKemEncap 1 (slice b 1344 1568) (Config.trng (s.free + 1) 32)).1

/-- The signature of KX2, and the state that it leaves. -/
def kx2Signed (s : State) (b : Bytes) : Option Bytes × State := kxSign { s with free := s.free + 2 } (kx2Digest b (kx2Body s b))

/-- KX1 that has passed its checks: answered, and the pair keyed. -/
def kx1Answered (s : State) (m : Nat) (b : Bytes) : State :=
  match (kx2Signed s b).1 with
  | none => (kx2Signed s b).2
  | some sig => pairKeyed (sendClear (kx2Signed s b).2 m 0x22 (kx2Body s b ++ sig)) m false
      (Config.mlKemEncap 1 (slice b 1344 1568) (Config.trng (s.free + 1) 32)).2 b (kx2Body s b ++ sig)

/-- Whether a KX1 passes its checks. -/
def kx1Ok (s : State) (m : Nat) (b : Bytes) : Bool := kxOk s m (b.take 1312) (b.drop kxHead) (kxDigest s m (kcMember s.kc) (b.take kxHead))

/-- Whether a KX2 does. -/
def kx2Ok (s : State) (m : Nat) (b : Bytes) : Bool := kxOk s m (b.take 1312) (b.drop kxHead) (kx2Digest (wpair s m).kx (b.take kxHead))

section

variable {s : State} {m : Nat} {b : Bytes}

theorem kx1In_own (own : kcMember s.kc ≤ m) (b : Bytes) : kx1In s m b = s := if_pos (.inl own)

theorem kx2In_low (low : m ≤ kcMember s.kc) (b : Bytes) : kx2In s m b = s := if_pos (.inl low)

section

variable (low : m < kcMember s.kc) (member : m ∈ otherMembers s) (awake : s.faults.quiet = false)

include low member awake

theorem kx1In_refuses (bad : b.length ≠ kxHead + 2420 ∨ kx1Ok s m b = false) : kx1In s m b = refusePair s m := by
  have fails : b.length ≠ kxHead + 2420 ∨ (!kx1Ok s m b) = true := bad.imp id fun h => by rw [h]; rfl
  unfold kx1In
  dsimp only
  rw [if_neg (by simp [low, member, awake])]
  exact if_pos fails

theorem kx1In_answers (len : b.length = kxHead + 2420) (ok : kx1Ok s m b = true) : kx1In s m b = kx1Answered s m b := by
  have passes : ¬ (b.length ≠ kxHead + 2420 ∨ (!kx1Ok s m b) = true) := by simp [len, ok]
  unfold kx1In
  dsimp only
  rw [if_neg (by simp [low, member, awake])]
  exact if_neg passes

end

theorem kx2Signed_sent (s : State) (b : Bytes) : SentPlain s (kx2Signed s b).2 := .of_westad rfl rfl

theorem kx1Answered_unsigned (none_ : (kx2Signed s b).1 = none) : wpair (kx1Answered s m b) m = wpair s m := by
  rw [kx1Answered, none_]
  exact (kx2Signed_sent s b).wpair m

theorem kx1Answered_signed {sig : Bytes} (signed : (kx2Signed s b).1 = some sig) : PairKeyed (wpair s m) (wpair (kx1Answered s m b) m) false
    (Config.mlKemEncap 1 (slice b 1344 1568) (Config.trng (s.free + 1) 32)).2 b (kx2Body s b ++ sig) := by
  have sent := (kx2Signed_sent s b).trans (sendClear_sent (kx2Signed s b).2 m 0x22 (kx2Body s b ++ sig))
  rw [kx1Answered, signed]
  dsimp only
  rw [← sent.wpair]
  exact pairKeyed_keys _ m false _ b _

section

variable (above : kcMember s.kc < m) (member : m ∈ otherMembers s) (awake : s.faults.quiet = false) (waits : (wpair s m).state = 1) (began : (wpair s m).kx ≠ [])
  (len : b.length = kxHead + 2420)

include above member awake waits began len

omit len in
theorem kx2In_refuses (bad : kx2Ok s m b = false) : kx2In s m b = refusePair s m := by
  have fails : b.length ≠ kxHead + 2420 ∨ (!kx2Ok s m b) = true := .inr (by rw [bad]; rfl)
  unfold kx2In
  dsimp only
  rw [if_neg (by simp [above, member, awake, waits, began])]
  exact if_pos fails

theorem kx2In_keys (ok : kx2Ok s m b = true) :
    kx2In s m b = pairKeyed s m true (Config.mlKemDecap 1 (wpair s m).eph (slice b 1344 1568)) (wpair s m).kx b := by
  have passes : ¬ (b.length ≠ kxHead + 2420 ∨ (!kx2Ok s m b) = true) := by simp [len, ok]
  unfold kx2In
  dsimp only
  rw [if_neg (by simp [above, member, awake, waits, began])]
  exact if_neg passes

end

/-! ### A keying begins (R407) -/

/-- What KX1 carries before its signature. -/
def kx1Body (s : State) : Bytes := identityPk s ++ Config.trng s.free 32 ++ (Config.mlKemKeyGen 1 (Config.trng (s.free + 1) 64)).1

/-- The signature of KX1, and the state that it leaves. -/
def kx1Signed (s : State) (m : Nat) : Option Bytes × State := kxSign { s with free := s.free + 2 } (kxDigest s (kcMember s.kc) m (kx1Body s))

theorem startKeying_eq (above : kcMember s.kc < m) (member : m ∈ otherMembers s) : startKeying s m =
    match (kx1Signed s m).1 with
    | none => (kx1Signed s m).2
    | some sig => sendClear (modPair (kx1Signed s m).2 m (fun p => { p with
        state := 1, kx := kx1Body s ++ sig, eph := (Config.mlKemKeyGen 1 (Config.trng (s.free + 1) 64)).2 })) m 0x21 (kx1Body s ++ sig) :=
  if_neg (by simp [above, member])

theorem startKeying_unsigned (above : kcMember s.kc < m) (member : m ∈ otherMembers s) (none_ : (kx1Signed s m).1 = none) :
    wpair (startKeying s m) m = wpair s m := by
  rw [startKeying_eq above member, none_]
  rfl

theorem startKeying_signed (above : kcMember s.kc < m) (member : m ∈ otherMembers s) {sig : Bytes} (signed : (kx1Signed s m).1 = some sig) :
    (wpair (startKeying s m) m).state = 1 ∧ (wpair (startKeying s m) m).kx = kx1Body s ++ sig ∧
      (wpair (startKeying s m) m).eph = (Config.mlKemKeyGen 1 (Config.trng (s.free + 1) 64)).2 := by
  rw [startKeying_eq above member, signed]
  dsimp only
  rw [(sendClear_sent _ m 0x21 (kx1Body s ++ sig)).wpair, wpair_modPair]
  exact ⟨rfl, rfl, rfl⟩

theorem keyingRetry_starts (member : m ∈ otherMembers s) (waits : (wpair s m).state = 1 ∨ (wpair s m).state = 3) (awake : s.faults.quiet = false) :
    keyingRetry s m = startKeying s m := if_pos (by rw [pairState_member member, awake]; exact ⟨waits, rfl⟩)

/-- A pair whose keying begins anew. -/
def keyingDropped (s : State) (m : Nat) : State := modPair s m (fun p => { p with state := 1, kx := [], eph := [] })

theorem mseqRekey_starts (member : m ∈ otherMembers s) (keyed : (wpair s m).state = 2) (awake : s.faults.quiet = false)
    (full : 2 ^ 48 ≤ (wpair s m).txMseq ∨ 2 ^ 48 ≤ (wpair s m).rxMseq) : mseqRekey s m = startKeying (keyingDropped s m) m :=
  if_pos ⟨(pairState_member member).trans keyed, by rw [awake]; rfl, full⟩

theorem mseqRekey_waits (tx : (wpair s m).txMseq < 2 ^ 48) (rx : (wpair s m).rxMseq < 2 ^ 48) : mseqRekey s m = s :=
  if_neg fun h => by
    obtain ⟨-, -, full⟩ := h
    omega

/-! ### Mirrored stagings (R408) -/

theorem slotHdr_of_ks {s t : State} (h : t.ks = s.ks) (n : Nat) : slotHdr t n = slotHdr s n := by
  rw [slotHdr, slotCopies, passing, slotCopies, h]
  rfl

theorem keysNow_of_ks {s t : State} (h : t.ks = s.ks) : keysNow t = keysNow s := by
  unfold keysNow
  rw [h]
  simp only [slotHdr_of_ks h]

/-- A message of a keyed pair taken leaves the key store. -/
theorem received_ks (s : State) (m cls : Nat) : (received s m cls).ks = s.ks :=
  have : Has (· ∈ [Part.arbs, .westad, .out]) .arbs := has_mem (by decide)
  have : Has (· ∈ [Part.arbs, .westad, .out]) .westad := has_mem (by decide)
  have : Has (· ∈ [Part.arbs, .westad, .out]) .out := has_mem (by decide)
  (received_within (F := (· ∈ [Part.arbs, .westad, .out])) s m cls (Within.refl s)).same .ks (by decide)

theorem onMessage_taken (keyed : pairState s m = 2) (awake : s.faults.quiet = false) (cls : Nat) (f : State → State) :
    onMessage s m cls f = f (received s m cls) := if_pos (by simp [keyed, awake])

theorem poolUsed_of_ks {s t : State} (h : t.ks = s.ks) : poolUsed t = poolUsed s := by rw [poolUsed, h, poolUsed]

/-- An entry whose slot no other staging holds. -/
theorem poolPut_free {t : State} {x : Staged} (free : ∀ y ∈ t.ks.pool, y.slot ≠ x.slot ∨ y.taken = true) :
    poolPut t x = { t with ks := { t.ks with pool := t.ks.pool ++ [x] } } := by
  have none_ : t.ks.pool.find? (fun y => y.slot == x.slot && !y.taken) = none := List.find?_eq_none.2 fun y hy => by
    rcases free y hy with other | taken
    · simp [other]
    · simp [taken]
  rw [poolPut, none_]

theorem stageIn_entry {t : State} (unsealed : t.ks.isSealed = false) {copies : List KCopy} (some_ : copies ≠ []) {slot : Nat}
    (fits : slot + copies.length ≤ slotMax) (origin oseq : Nat) (erase : Bool) : stageIn t origin oseq slot copies erase =
      mirrorEntry t { slot := slot, copies := copies, origin := origin, oseq := oseq, erase := erase, bad := false, taken := false } :=
  if_neg (by simp [unsealed, some_, fits])

theorem copiesOfMsg_length (l : List Bytes) : (copiesOfMsg l).length = l.length := by
  cases l with
  | nil => rfl
  | cons b t => simp [copiesOfMsg]

theorem copiesOfMsg_ne_nil {l : List Bytes} (some_ : l ≠ []) : copiesOfMsg l ≠ [] := by
  cases l with
  | nil => exact absurd rfl some_
  | cons b t => exact List.cons_ne_nil _ _

/-- A mirrored entry stands in the pool while that has room, and is held back otherwise. -/
theorem mirrorEntry_acts {t : State} {x : Staged} (free : ∀ y ∈ t.ks.pool, y.slot ≠ x.slot ∨ y.taken = true) :
    if poolUsed t + x.copies.length ≤ poolMax then (mirrorEntry t x).ks.pool = t.ks.pool ++ [x] ∧ (mirrorEntry t x).ks.heldBack = t.ks.heldBack
    else (mirrorEntry t x).ks.pool = t.ks.pool ∧ (mirrorEntry t x).ks.heldBack = t.ks.heldBack ++ [x] := by
  unfold mirrorEntry
  split
  · rw [poolPut_free free]
    exact ⟨rfl, rfl⟩
  · exact ⟨rfl, rfl⟩

end

/-- Settles O36: each message of a pair acts on that pair, and a mirrored one on this member's pool. -/
theorem pairsAreKeyedAndMirrored : Obligations.PairsAreKeyedAndMirrored := by
  unfold Obligations.PairsAreKeyedAndMirrored
  intro s m me p member refused keyed
  have pairs : ∀ {s' : State} {initiator : Bool} {ss kx1 kx2 : Bytes}, PairKeyed p (wpair s' m) initiator ss kx1 kx2 → keyed s' initiator ss kx1 kx2 :=
    fun ⟨a1, a2, a3, a4, a5, a6, a7, a8⟩ => ⟨a1, a2, a3, a4, a5, a6, a7, a8⟩
  refine ⟨fun links => ?_, fun c n live awake => ⟨_, rfl, ackIn_takes live awake n⟩, fun b mem awake => ⟨fun low len => ⟨_, rfl, ?_⟩,
    fun above waits began len => ⟨_, rfl, ?_⟩, fun low bad => completes_to rfl (kx1In_refuses low mem awake (.inl bad)) (refusePair_refuses s m),
    fun above => completes_same rfl (kx1In_own (Nat.le_of_lt above) b), fun low => completes_same rfl (kx2In_low (Nat.le_of_lt low) b)⟩, ?_,
    fun origin oseq live awake unsealed => ?_⟩
  · intro mine old
    exact ⟨fun other mem awake => ⟨_, rfl, routeIn_takes other mem awake⟩, fun same => completes_same rfl (routeIn_ignores same)⟩
  · split
    · next ok =>
        have answers : kx1In s m b = kx1Answered s m b := kx1In_answers low mem awake len ok
        intro x body
        split
        · next none_ => exact (congrArg (fun t => wpair t m) answers).trans (kx1Answered_unsigned none_)
        · next sig signed => exact answers ▸ pairs (kx1Answered_signed signed)
    · next bad => exact (kx1In_refuses low mem awake (.inr (Bool.eq_false_iff.2 bad))) ▸ refusePair_refuses s m
  · split
    · next ok => exact (kx2In_keys above mem awake waits began len ok) ▸ pairs (pairKeyed_keys s m true _ _ b)
    · next bad => exact (kx2In_refuses above mem awake waits began (Bool.eq_false_iff.2 bad)) ▸ refusePair_refuses s m
  · intro draws
    refine ⟨fun mem above waits awake => ⟨_, rfl, ?_⟩, fun mem above live awake full => ⟨_, rfl, ?_⟩, fun live tx rx => completes_same rfl (mseqRekey_waits tx rx)⟩
    · rw [keyingRetry_starts mem waits awake]
      dsimp only
      split
      · next none_ => exact .inl (congrArg Pair.kx (startKeying_unsigned above mem none_))
      · next sig signed => exact startKeying_signed above mem signed
    · rw [mseqRekey_starts mem live awake full]
      dsimp only
      split
      · next none_ =>
          have unsigned : wpair (startKeying (keyingDropped s m) m) m = wpair (keyingDropped s m) m := startKeying_unsigned (s := keyingDropped s m) above mem none_
          rw [unsigned, keyingDropped, wpair_modPair]
          exact .inr rfl
      · next sig signed => exact startKeying_signed (s := keyingDropped s m) above mem signed
  · have live' : ∀ f, onMessage s m 1 f = f (received s m 1) := onMessage_taken live awake 1
    have ks := received_ks s m 1
    generalize received s m 1 = t at live' ks
    have open_ : t.ks.isSealed = false := by rw [ks, unsealed]
    intro free
    refine ⟨?_, fun slot absent low free_ room => completes_to rfl (live' _) ?_,
      fun none_ => completes_to rfl (live' _) ?_⟩
    · intro slot copies some_ fits free_ x
      refine completes_to rfl (live' _) ?_
      have entry := mirrorEntry_acts (t := t) (x := x) (by rw [ks]; exact free_)
      rw [stageIn_entry open_ (copiesOfMsg_ne_nil some_) (by rw [copiesOfMsg_length]; exact fits)]
      rw [poolUsed_of_ks ks, ks] at entry
      have length : x.copies.length = copies.length := copiesOfMsg_length copies
      rw [length] at entry
      exact entry
    · have unkeyed : (keysNow t).find? (fun k => k.slot == slot.val) = none := by
        rw [keysNow_of_ks ks]
        exact List.find?_eq_none.2 fun y hy => by
          rw [beq_iff_eq]
          exact absent y hy
      have span : eraseIn t origin oseq slot = stageIn t origin oseq slot (emptySpan slot 1) true := by rw [eraseIn, unkeyed]
      have entry := mirrorEntry_acts (t := t) (x := { slot := slot, copies := emptySpan slot 1, origin := origin, oseq := oseq, erase := true, bad := false, taken := false })
        (by rw [ks]; exact free_)
      have one : (emptySpan slot.val 1).length = 1 := rfl
      rw [poolUsed_of_ks ks, if_pos (by rw [one]; exact room), ks] at entry
      have some_ : emptySpan slot.val 1 ≠ [] := List.cons_ne_nil _ _
      rw [span, stageIn_entry open_ some_ (by rw [one]; exact low)]
      exact ⟨_, entry.1, rfl, rfl, rfl, rfl⟩
    · rw [if_neg (by rw [open_]; decide), discardStaged_pool (by rw [ks, none_]), ks]

end Sys2Proof.Machine
end

section
/-! SUPPORT. Messages of an agreement, and what a boundary leaves of turns and agreements (R329, R406, R409). -/

namespace Sys2Proof.Machine

open Sys2Proof.Claims

/-! ### Messages -/

theorem Sent.of_within {F : Part → Prop} {s t : State} (w : Within F s t) (westad : ¬ F .westad) (kc : ¬ F .kc) : Sent s t :=
  .of_westad (w.same .westad westad) (w.same .kc kc)

theorem otherMembers_of_kc {s t : State} (h : t.kc = s.kc) : otherMembers t = otherMembers s := by rw [otherMembers, h, otherMembers]

theorem otherMembers_nodup (s : State) : (otherMembers s).Nodup := by
  unfold otherMembers
  split
  · exact List.nodup_nil
  · exact List.nodup_range.filter _

/-- What a message changes. -/
def msgParts : List Part := [.arbs, .westad, .out]

theorem sendMsg_frame (s : State) (m cls ty : Nat) (b : Bytes) : Within (· ∈ msgParts) s (sendMsg s m cls ty b) :=
  @sendMsg_within _ ⟨by decide⟩ ⟨by decide⟩ ⟨by decide⟩ _ _ _ _ _ _ (Within.refl s)

theorem sendMsg_stranger {s : State} {m : Nat} (stranger : m ∉ otherMembers s) (cls ty : Nat) (b : Bytes) : sendMsg s m cls ty b = s :=
  if_neg (by simp [stranger])

/-- The message kept for a member. -/
def msgKept (s : State) (m cls ty : Nat) (b : Bytes) : State :=
  modPair s m (fun p => { p with txMseq := (wpair s m).txMseq + 1, unacked := p.unacked ++ [((wpair s m).txMseq + 1, 256 * cls + ty, b)] })

theorem sendMsg_member {s : State} {m : Nat} (member : m ∈ otherMembers s) (cls ty : Nat) (b : Bytes) : SentPlain (msgKept s m cls ty b) (sendMsg s m cls ty b) := by
  have keeps : sendMsg s m cls ty b = if pairState (msgKept s m cls ty b) m = 2 then
      putOnLink (msgKept s m cls ty b) m cls (sealMsg (msgKept s m cls ty b) m cls ty ((wpair s m).txMseq + 1) b) else msgKept s m cls ty b :=
    if_pos (otherMembers_contains.2 member)
  rw [keeps]
  split
  · exact putOnLink_sent _ _ _ _
  · exact .refl _

theorem sendMsg_sent (s : State) (m cls ty : Nat) (b : Bytes) : Sent s (sendMsg s m cls ty b) := by
  by_cases member : m ∈ otherMembers s
  · exact (Sent.modPair _ _ _).trans (sendMsg_member member cls ty b).toSent
  · rw [sendMsg_stranger member]
    exact .refl s

/-- The newest message that a member has not acknowledged. -/
def LastSent (s : State) (dst ty : Nat) (b : Bytes) : Prop := ∃ q, (wpair s dst).unacked.getLast? = some (q, ty, b)

theorem sendMsg_last {s : State} {m : Nat} (member : m ∈ otherMembers s) (ty : Nat) (b : Bytes) : LastSent (sendMsg s m 0 ty b) m ty b := by
  rw [LastSent, (sendMsg_member member 0 ty b).wpair, msgKept, wpair_modPair, List.getLast?_concat, Nat.mul_zero, Nat.zero_add]
  exact ⟨_, rfl⟩

theorem sendMsg_wpair_ne (s : State) {m i : Nat} (apart : i ≠ m) (cls ty : Nat) (b : Bytes) : wpair (sendMsg s m cls ty b) i = wpair s i := by
  by_cases member : m ∈ otherMembers s
  · rw [(sendMsg_member member cls ty b).wpair, msgKept, wpair_modPair_ne _ _ apart]
  · rw [sendMsg_stranger member]

theorem sendEach_frame (s : State) (ms : List Nat) (ty : Nat) (b : Bytes) : Within (· ∈ msgParts) s (sendEach s ms ty b) :=
  foldl_keeps (P := Within (· ∈ msgParts) s) (fun t m kept =>
    @sendMsg_within _ ⟨by decide⟩ ⟨by decide⟩ ⟨by decide⟩ _ t m 0 ty b kept) ms (Within.refl s)

theorem sendEach_sent (s : State) (ms : List Nat) (ty : Nat) (b : Bytes) : Sent s (sendEach s ms ty b) := Sent.foldl (fun s m => sendMsg_sent s m 0 ty b) ms s

theorem sendEach_wpair_ne (ty : Nat) (b : Bytes) {v : Nat} : ∀ (ms : List Nat) (_ : v ∉ ms) (s : State), wpair (sendEach s ms ty b) v = wpair s v
  | [], _, _ => rfl
  | m :: ms, out, s => by
    rw [List.mem_cons, not_or] at out
    exact (sendEach_wpair_ne ty b ms out.2 _).trans (sendMsg_wpair_ne s out.1 0 ty b)

/-- Each member of a list without doubles has the message last. -/
theorem sendEach_last (ty : Nat) (b : Bytes) {v : Nat} : ∀ (ms : List Nat) (_ : ms.Nodup) (_ : v ∈ ms) {s : State}, v ∈ otherMembers s →
    LastSent (sendEach s ms ty b) v ty b
  | [], _, listed, _, _ => by cases listed
  | m :: ms, distinct, listed, s, member => by
    obtain ⟨once, distinct'⟩ := List.nodup_cons.1 distinct
    by_cases here : v = m
    · subst here
      have later : wpair (sendEach (sendMsg s v 0 ty b) ms ty b) v = wpair (sendMsg s v 0 ty b) v := sendEach_wpair_ne ty b ms once _
      obtain ⟨q, last⟩ := sendMsg_last member ty b
      exact ⟨q, (congrArg (fun p : Pair => p.unacked.getLast?) later).trans last⟩
    · exact sendEach_last ty b ms distinct' ((List.mem_cons.1 listed).resolve_left here)
        ((otherMembers_of_kc (sendMsg_sent s m 0 ty b).kc).symm ▸ member)

theorem received_frame (s : State) (m cls : Nat) : Within (· ∈ msgParts) s (received s m cls) :=
  @received_within _ ⟨by decide⟩ ⟨by decide⟩ ⟨by decide⟩ _ _ _ _ (Within.refl s)

theorem sendAck_sent (s : State) (m cls : Nat) : SentPlain s (sendAck s m cls) := by
  unfold sendAck
  split
  · exact putOnLink_sent _ _ _ _
  · exact .refl _

theorem received_sent (s : State) (m cls : Nat) : Sent s (received s m cls) := by
  have acked : received s m cls = sendAck (modPair s m (fun p => { p with rxMseq := p.rxMseq + 1 })) m cls := rfl
  rw [acked]
  exact (Sent.modPair s m _).trans (sendAck_sent _ m cls).toSent

theorem sendAll_sent (s : State) (cls ty : Nat) (b : Bytes) : Sent s (sendAll s cls ty b) := Sent.foldl (fun s m => sendMsg_sent s m cls ty b) _ s

/-! ### Jobs that end -/

/-- A staging of this member in the pool, before it is mirrored. -/
def stagePlaced (s : State) (n : Nat) (copies : List KCopy) (erase : Bool) (op part : Nat) : State :=
  let h := match copies with | c :: _ => c.hdr | [] => hdrEmpty
  let t := audit s 1 part 4 (leBytes 3 n ++ [byte copies.length] ++ (if erase then zeros 6 else hdrBytes h) ++ leBytes 2 op)
  poolPut { t with ks := { t.ks with nextSeq := t.ks.nextSeq + 1 } }
    { slot := n, copies := copies, origin := kcMember t.kc, oseq := t.ks.nextSeq, erase := erase, bad := false, taken := false }

theorem stageEntry_sends (s : State) (n : Nat) (copies : List KCopy) (erase : Bool) (op part : Nat) :
    ∃ ty b, stageEntry s n copies erase op part = sendAll (stagePlaced s n copies erase op part) 1 ty b := by
  cases erase
  · exact ⟨_, _, rfl⟩
  · exact ⟨_, _, rfl⟩

theorem stagePlaced_sent (s : State) (n : Nat) (copies : List KCopy) (erase : Bool) (op part : Nat) : Sent s (stagePlaced s n copies erase op part) := by
  unfold stagePlaced
  extract_lets h t
  have recorded : Sent s t := .of_within (audit_frame _ _ _ _ _) (by decide) (by decide)
  have counted : Sent t { t with ks := { t.ks with nextSeq := t.ks.nextSeq + 1 } } := .of_westad rfl rfl
  have : Has (· = Part.ks) .ks := ⟨rfl⟩
  exact (recorded.trans counted).trans (.of_within (F := (· = Part.ks)) (poolPut_within _ _ (Within.refl _)) (by decide) (by decide))

theorem stageEntry_sent (s : State) (n : Nat) (copies : List KCopy) (erase : Bool) (op part : Nat) : Sent s (stageEntry s n copies erase op part) := by
  obtain ⟨ty, b, sends⟩ := stageEntry_sends s n copies erase op part
  rw [sends]
  exact (stagePlaced_sent s n copies erase op part).trans (sendAll_sent _ _ _ _)

theorem jobStages_sent (s : State) (r : JobResult) : Sent s (jobStages s r) := by
  unfold jobStages
  split
  · exact stageEntry_sent _ _ _ _ _ _
  · exact .refl s

theorem finishJob_sent (s : State) (e : Nat) (j : Job) (r : JobResult) : Sent s (finishJob s e j r) := by
  rw [finishJob_eq]
  have written : Sent s (jobWrites s r) := .of_within (jobWrites_within s r) (by decide) (by decide)
  have released : Sent (jobStages (jobWrites s r) r) (jobResultVisible s j r) :=
    (Sent.of_within (jobReleases_within _ j r) (by decide) (by decide)).trans
      (.of_within (storePieces_frame _ _ _ _ _) (by decide) (by decide))
  have told : Sent (jobResultVisible s j r) (jobTells (jobResultVisible s j r) e j r) := .of_within (jobTells_within _ e j r) (by decide) (by decide)
  have knocked : Sent (jobTells (jobResultVisible s j r) e j r) (jobKnocks (jobTells (jobResultVisible s j r) e j r) j r) :=
    .of_within (jobKnocks_within _ j r) (by decide) (by decide)
  exact (((written.trans (jobStages_sent _ r)).trans released).trans (told.trans knocked)).trans
    (.of_within (seatJobDone_frame _ _ _) (by decide) (by decide))

theorem endJob_sent (s : State) (e : Nat) (j : Job) (st : Nat) : Sent s (endJob s e j st) := by
  unfold endJob
  extract_lets left_
  have same : Sent s left_ := .of_westad rfl rfl
  exact same.trans (finishJob_sent _ _ _ _)

theorem endJobs_sent (s : State) (f : Job → Bool) (st : Nat) : Sent s (endJobs s f st) :=
  Sent.foldl (fun s e => Sent.foldl (fun s j => endJob_sent s e j st) _ s) _ s

/-! ### What a boundary leaves (R329) -/

/-- The commit, the requests that wait and the agreement stand as they did. -/
structure DealKept (s s' : State) : Prop where
  num : s'.turns.num = s.turns.num
  commit : s'.turns.commit = s.turns.commit
  waiting : s'.turns.waiting = s.turns.waiting
  agree : s'.westad.agree = s.westad.agree
  lastOutcome : s'.westad.lastOutcome = s.westad.lastOutcome

namespace DealKept

variable {s t u : State}

theorem refl (s : State) : DealKept s s := ⟨rfl, rfl, rfl, rfl, rfl⟩

theorem trans (h : DealKept s t) (h' : DealKept t u) : DealKept s u :=
  ⟨h'.num.trans h.num, h'.commit.trans h.commit, h'.waiting.trans h.waiting, h'.agree.trans h.agree, h'.lastOutcome.trans h.lastOutcome⟩

theorem of_parts (turns : t.turns = s.turns) (westad : t.westad = s.westad) : DealKept s t := by
  constructor <;> simp only [turns, westad]

theorem of_sent (turns : t.turns = s.turns) (sent : Sent s t) : DealKept s t := by
  refine ⟨?_, ?_, ?_, sent.agree, sent.lastOutcome⟩ <;> rw [turns]

theorem foldl {β : Type} {f : State → β → State} (each : ∀ s x, DealKept s (f s x)) (l : List β) (s : State) : DealKept s (l.foldl f s) :=
  foldl_keeps (P := DealKept s) (fun _ x kept => kept.trans (each _ x)) l (refl s)

theorem ite {c : Prop} [Decidable c] (h : DealKept s t) (k : DealKept s u) : DealKept s (if c then t else u) := by
  split
  · exact h
  · exact k

end DealKept

theorem modPlane_deal (s : State) (p : Nat) (f : Plane → Plane) : DealKept s (modPlane s p f) := by
  unfold modPlane
  split
  · exact ⟨rfl, rfl, rfl, rfl, rfl⟩
  · exact ⟨rfl, rfl, rfl, rfl, rfl⟩

theorem putThr_deal (s : State) (t : Nat) (th : Thread) : DealKept s (putThr s t th) :=
  .of_parts (turns_kept (putThr_within _ _ _ (Within.refl s))) (westad_kept (putThr_within _ _ _ (Within.refl s)))

theorem startDue_deal (s : State) (p : Nat) : DealKept s (startDue s p) := by
  unfold startDue
  split
  · exact .refl s
  · next t _ =>
      dsimp only
      split
      · have begun : DealKept s { s with turns := { s.turns with starting := s.turns.starting.filter (· != p) } } := ⟨rfl, rfl, rfl, rfl, rfl⟩
        exact begun.trans (putThr_deal _ _ _)
      · exact .refl s

/-- A thread of a quad that comes to another partition. -/
def threadCleared (p : Nat) (s : State) (t : Nat) : State :=
  let s := dropActive (endSeats (staleThread (drainThr s t) t) t) t
  let s := putThr s t (clearedThr (thr s t) p)
  rewindItems s t

theorem threadCleared_deal (p : Nat) (s : State) (t : Nat) : DealKept s (threadCleared p s t) := by
  have drained : DealKept s (drainThr s t) := .of_parts (turns_kept (drainThr_within _ _ (Within.refl s))) (westad_kept (drainThr_within _ _ (Within.refl s)))
  have ended : DealKept (drainThr s t) (staleThread (drainThr s t) t) :=
    .of_sent (turns_kept (staleThread_within _ _ (Within.refl _))) (endJobs_sent _ _ _)
  refine (drained.trans ended).trans ?_
  unfold threadCleared
  dsimp only
  generalize staleThread (drainThr s t) t = u
  refine .of_parts ?_ ?_
  · exact turns_kept (rewindItems_within _ _ (putThr_within _ _ _ (dropActive_within _ _ (endSeats_within _ _ (Within.refl u)))))
  · exact westad_kept (rewindItems_within _ _ (putThr_within _ _ _ (dropActive_within _ _ (endSeats_within _ _ (Within.refl u)))))

theorem clearQuad_deal (s : State) (q : Nat) : DealKept s (clearQuad s q) := by
  unfold clearQuad
  extract_lets ts ok p
  exact .ite ((DealKept.foldl (threadCleared_deal p) ts s).trans (startDue_deal _ p)) (.refl s)

theorem assignFree_deal (s : State) : DealKept s (assignFree s) :=
  DealKept.foldl (fun s q => .ite (clearQuad_deal s q) (.refl s)) _ s

theorem comePresent_deal (s : State) (p : Nat) : DealKept s (comePresent s p) := ⟨rfl, rfl, rfl, rfl, rfl⟩

/-- A boundary's own settings. -/
def advanced (s : State) (ds : List Delta) : State :=
  let t := dropAbsent s (applyDeltas s.kc ds)
  { t with kc := applyDeltas s.kc ds, kcPrev := s.kc, turns := { t.turns with num := t.turns.num + 1, since := t.now } }

theorem advanced_turns (s : State) (ds : List Delta) : (advanced s ds).turns.num = s.turns.num + 1 ∧ (advanced s ds).turns.commit = s.turns.commit ∧
    (advanced s ds).turns.waiting = s.turns.waiting ∧ (advanced s ds).westad = s.westad := by
  have turns : (dropAbsent s (applyDeltas s.kc ds)).turns = s.turns := turns_kept (dropAbsent_within _ _ (Within.refl s))
  have westad : (dropAbsent s (applyDeltas s.kc ds)).westad = s.westad := westad_kept (dropAbsent_within _ _ (Within.refl s))
  unfold advanced
  generalize dropAbsent s (applyDeltas s.kc ds) = t at *
  dsimp only
  rw [turns]
  exact ⟨rfl, rfl, rfl, westad⟩

/-- The stagings that the turn has taken, promoted. -/
def boundaryPromoted (s : State) : State :=
  if s.ks.pool.any (·.taken) then { promoteTaken s s.turns.num with ks := { (promoteTaken s s.turns.num).ks with ksTurn := s.turns.num } } else s

/-- The sets that the turn has taken, emptied. -/
def boundaryTaken (s : State) (t0 t1 : Bool) : State :=
  let s := if t0 then modPlane s 0 (fun x => { x with deltas := [], closed := false }) else s
  if t1 then modPlane s 1 (fun x => { x with deltas := [], closed := false }) else s

/-- What moves between partitions. -/
def boundaryMoved (s : State) (old new : Keycut) (ds : List Delta) : State :=
  let s := moveDrbgs (moveBitsWays (movePages s old new) old new) old new
  let s := ((List.range 256).filter (fun p => kcPresent new p && !kcPresent old p)).foldl comePresent s
  judgeModes (moveSources (moveQueuesDma s old new ds) old new)

/-- A policy that the turn changes, recorded. -/
def boundaryTold (s : State) (old new : Keycut) : State :=
  if sect? old 0xB = sect? new 0xB then s else
    (let b := (exg new).getD []
     audit s 1 1 7 (leBytes 4 (polSerial new) ++ sha256 b ++ slice b 160 2 ++ [0]))

theorem boundary_eq (s : State) (t0 t1 : Bool) (ds : List Delta) : boundary s t0 t1 ds =
    settle (assignFree (boundaryTold (boundaryMoved (boundaryTaken (boundaryPromoted (advanced s ds)) t0 t1) s.kc (applyDeltas s.kc ds) ds)
      s.kc (applyDeltas s.kc ds))) := rfl

theorem boundaryPromoted_deal (s : State) : DealKept s (boundaryPromoted s) := by
  have turns : (promoteTaken s s.turns.num).turns = s.turns := turns_kept (promoteTaken_within _ _ (Within.refl s))
  have westad : (promoteTaken s s.turns.num).westad = s.westad := westad_kept (promoteTaken_within _ _ (Within.refl s))
  unfold boundaryPromoted
  exact .ite (.of_parts turns westad) (.refl s)

theorem boundaryTaken_deal (s : State) (t0 t1 : Bool) : DealKept s (boundaryTaken s t0 t1) := by
  unfold boundaryTaken
  extract_lets first
  have one : DealKept s first := .ite (modPlane_deal _ _ _) (.refl s)
  exact .ite (one.trans (modPlane_deal _ _ _)) one

theorem boundaryMoved_deal (s : State) (old new : Keycut) (ds : List Delta) : DealKept s (boundaryMoved s old new ds) := by
  unfold boundaryMoved
  extract_lets drbgs present
  have moved : DealKept s drbgs := .of_parts (turns_kept (moveDrbgs_within _ _ _ (moveBitsWays_within _ _ _ (movePages_within _ _ _ (Within.refl s)))))
    (westad_kept (moveDrbgs_within _ _ _ (moveBitsWays_within _ _ _ (movePages_within _ _ _ (Within.refl s)))))
  have came : DealKept drbgs present := DealKept.foldl comePresent_deal _ drbgs
  refine (moved.trans came).trans (.of_parts ?_ ?_)
  · exact turns_kept (judgeModes_within _ (moveSources_within _ _ _ (moveQueuesDma_within _ _ _ _ (Within.refl present))))
  · exact westad_kept (judgeModes_within _ (moveSources_within _ _ _ (moveQueuesDma_within _ _ _ _ (Within.refl present))))

theorem boundaryTold_deal (s : State) (old new : Keycut) : DealKept s (boundaryTold s old new) := by
  unfold boundaryTold
  exact .ite (.refl s) (.of_parts ((audit_frame _ _ _ _ _).same .turns (by decide)) ((audit_frame _ _ _ _ _).same .westad (by decide)))

theorem settle_deal (s : State) : DealKept s (settle s) :=
  .of_parts (turns_kept (settle_within _ (Within.refl s))) (westad_kept (settle_within _ (Within.refl s)))

/-- After its own settings a boundary reaches neither the commit nor the agreement. -/
theorem boundary_deal (s : State) (t0 t1 : Bool) (ds : List Delta) : DealKept (advanced s ds) (boundary s t0 t1 ds) := by
  rw [boundary_eq]
  exact (((boundaryPromoted_deal _).trans (boundaryTaken_deal _ t0 t1)).trans ((boundaryMoved_deal _ _ _ _).trans (boundaryTold_deal _ _ _))).trans
    ((assignFree_deal _).trans (settle_deal _))

/-- A boundary advances the turn. -/
theorem boundary_turn (s : State) (t0 t1 : Bool) (ds : List Delta) : (boundary s t0 t1 ds).turns.num = s.turns.num + 1 ∧
    (boundary s t0 t1 ds).turns.commit = s.turns.commit ∧ (boundary s t0 t1 ds).turns.waiting = s.turns.waiting ∧
    (boundary s t0 t1 ds).westad.agree = s.westad.agree := by
  obtain ⟨num, commit, waiting, westad⟩ := advanced_turns s ds
  have kept := boundary_deal s t0 t1 ds
  exact ⟨kept.num.trans num, kept.commit.trans commit, kept.waiting.trans waiting, kept.agree.trans (by rw [westad])⟩

theorem nextCommit_idle {s : State} (none_ : s.turns.waiting = []) : nextCommit s = s := by
  unfold nextCommit
  rw [none_]

/-- A commit that has ended TAKEN. -/
def commitTaken (s : State) (c : Commit) : State :=
  modPlane { s with turns := { s.turns with commit := none } } c.plane (fun x => { x with last := 1, phase := 0, taken := takenBits c.take0 c.take1 })

theorem commitTaken_acts (s : State) (c : Commit) : (commitTaken s c).turns.num = s.turns.num ∧ (commitTaken s c).turns.commit = none ∧
    (commitTaken s c).turns.waiting = s.turns.waiting ∧ (commitTaken s c).westad.agree = s.westad.agree ∧ (plane (commitTaken s c) c.plane).last = 1 := by
  have deal : DealKept { s with turns := { s.turns with commit := none } } (commitTaken s c) := modPlane_deal _ _ _
  exact ⟨deal.num, deal.commit, deal.waiting, deal.agree, by rw [commitTaken, plane_modPlane]⟩

theorem commitBoundary_eq {s : State} {c : Commit} (runs : s.turns.commit = some c) :
    commitBoundary s = nextCommit (commitTaken (boundary s c.take0 c.take1 c.deltas) c) := by
  rw [commitBoundary, runs]
  rfl

/-- A commit reaches its boundary. -/
theorem commitBoundary_acts {s : State} {c : Commit} (runs : s.turns.commit = some c) (none_ : s.turns.waiting = []) :
    (commitBoundary s).turns.num = s.turns.num + 1 ∧ (commitBoundary s).turns.commit = none ∧ (commitBoundary s).westad.agree = s.westad.agree ∧
      (plane (commitBoundary s) c.plane).last = 1 := by
  obtain ⟨num, -, waiting, agree⟩ := boundary_turn s c.take0 c.take1 c.deltas
  obtain ⟨num', commit', waiting', agree', last⟩ := commitTaken_acts (boundary s c.take0 c.take1 c.deltas) c
  rw [commitBoundary_eq runs, nextCommit_idle (waiting'.trans (waiting.trans none_))]
  exact ⟨num'.trans num, commit', agree'.trans agree, last⟩

end Sys2Proof.Machine
end

section
/-! The two-phase agreement of a turn (R330, R409, R410). -/

namespace Sys2Proof.Machine

open Sys2Proof.Claims

/-! ### The quiet state's faults (R482) -/

theorem quietServed_faults (s : State) (cause : Nat) : (quietServed s cause).faults = s.faults :=
  faults_kept (quietJobs_within _ (within_foldl _ (quietItems_within _ (quietOutputs_within _ _ (Within.refl s))) (fun t _ h => quietThread_within t _ h)))

theorem exportEnded_faults (s : State) : (exportEnded s).faults = s.faults := by
  unfold exportEnded
  split <;> rfl

theorem exportEnded_westad (s : State) : (exportEnded s).westad = s.westad := by
  unfold exportEnded
  split <;> rfl

theorem quietEnded_faults (s : State) : (quietEnded s).faults = s.faults :=
  (faults_kept (settle_within _ (endDebug_within _ (untake_within _ (quietSessions_within _ (Within.refl _)))))).trans (exportEnded_faults _)

theorem quietEnded_agree (s : State) : (quietEnded s).westad.agree = none :=
  congrArg Westad.agree ((westad_kept (settle_within _ (endDebug_within _ (untake_within _ (quietSessions_within _ (Within.refl _)))))).trans
    (exportEnded_westad _))

theorem abandonCommit_faults (s : State) : (abandonCommit s).faults = s.faults := faults_kept (abandonCommit_within _ (Within.refl s))

theorem quietSealed_faults (s : State) : (quietSealed s).faults = s.faults := rfl

/-- Entry from a state that is not quiet marks it, with its cause. -/
theorem enterQuiet_faults {s : State} (awake : s.faults.quiet = false) (cause : Nat) : (enterQuiet s cause).faults = { s.faults with
    quiet := true, cause := cause, cnt := 0, reason := 0, stest := 0, entries := satAdd 0xFFFF s.faults.entries 1 } := by
  have marked : (quietMarked (quietNoted s cause) cause).faults = { (quietNoted s cause).faults with
    quiet := true, cause := cause, cnt := 0, reason := 0, stest := 0, entries := satAdd 0xFFFF (quietNoted s cause).faults.entries 1 } := rfl
  rw [enterQuiet_enters awake, quietEnded_faults, abandonCommit_faults, quietSealed_faults, quietServed_faults, marked, quietNoted_faults]

theorem enterQuiet_agree {s : State} (awake : s.faults.quiet = false) (cause : Nat) : (enterQuiet s cause).westad.agree = none := by
  rw [enterQuiet_enters awake, quietEnded_agree]

/-! ### Messages taken -/

/-- A row for a message of a keyed pair runs on the state that has taken it. -/
theorem message_runs {s : State} {m : Nat} (keyed : pairState s m = 2) (awake : s.faults.quiet = false) (calm : s.boot.warmDue = false) {f : State → State}
    (boot : (f (received s m 0)).boot = (received s m 0).boot) : warmSettle (onMessage s m 0 f) = f (received s m 0) := by
  have same : (received s m 0).boot = s.boot := (received_frame s m 0).same .boot (by decide)
  rw [onMessage_taken keyed awake]
  exact warmSettle_of_none (by rw [boot, same, calm])

theorem LastSent.congr {s t : State} {dst ty : Nat} {b : Bytes} (h : LastSent s dst ty b) (pairs : t.westad.pairs = s.westad.pairs) : LastSent t dst ty b := by
  rwa [LastSent, wpair, pairs, ← wpair]

/-! ### Votes (R409) -/

section

variable {t : State} {m turn : Nat} {k e : Bytes}

theorem voteNo_votes (member : m ∈ otherMembers t) (turn : Nat) : ∃ why, LastSent (voteNo t m turn) m 2 (leBytes 8 turn ++ [0, why]) := by
  have member' : m ∈ otherMembers (freeWord t).2 := member
  exact ⟨_, sendMsg_last member' 2 _⟩

theorem voteNo_turns (t : State) (m turn : Nat) : (voteNo t m turn).turns = t.turns := (sendMsg_frame (freeWord t).2 _ _ _ _).same .turns (by decide)

theorem proposed_late (late : turn ≠ t.turns.num + 1) : proposed t m turn k e = voteNo t m turn := if_pos late

theorem proposed_busy {a : Agreement} (runs : t.westad.agree = some a) (holds : a.proposer ≠ kcMember t.kc ∨ kcMember t.kc ≤ m) :
    proposed t m turn k e = voteNo t m turn := by
  have keeps : ¬ (a.proposer = kcMember t.kc ∧ m < kcMember t.kc ∧ (!a.applying) = true) := fun ⟨own, low, _⟩ => by
    rcases holds with other | high
    · exact other own
    · omega
  unfold proposed
  dsimp only
  split
  · rfl
  · rw [runs]
    exact if_neg keeps

theorem proposed_fresh (idle : t.westad.agree = none) (none_ : t.turns.commit = none) (next_ : turn = t.turns.num + 1) :
    proposed t m turn k e = takeUp t m turn k e := by
  unfold proposed
  dsimp only
  rw [if_neg (by simp [next_]), idle]
  exact if_neg (by rw [none_]; decide)

theorem proposed_competes {c : Commit} (idle : t.westad.agree = none) (runs : t.turns.commit = some c) (next_ : turn = t.turns.num + 1)
    (low : m < kcMember t.kc) : proposed t m turn k e = takeUp (failCommit t 4) m turn k e := by
  unfold proposed
  dsimp only
  rw [if_neg (by simp [next_]), idle]
  exact (if_pos (by rw [runs]; rfl)).trans (if_pos low)

/-- The state with its closed sets taken. -/
def setsTaken (t : State) : State := (takeSets t).2.2.2

/-- An agreement that a member takes up. -/
def proposal (t : State) (m turn : Nat) (k e : Bytes) : Agreement where
  proposer := m
  turn := turn
  started := (setsTaken t).now
  ksd := k
  exd := e
  take0 := (takeSets t).1
  take1 := (takeSets t).2.1
  deltas := (takeSets t).2.2.1
  votes := []
  dones := []
  unknown := []
  applying := false
  votedYes := none
  queried := none

theorem takeUp_eq (t : State) (m turn : Nat) (k e : Bytes) : takeUp t m turn k e =
    if drainedTurn (putAgree (setsTaken t) (some (proposal t m turn k e))) then
      castVote (putAgree (setsTaken t) (some (proposal t m turn k e))) (proposal t m turn k e)
    else putAgree (setsTaken t) (some (proposal t m turn k e)) := rfl

theorem setsTaken_frame (t : State) : ∃ pool, setsTaken t = { t with ks := { t.ks with pool := pool } } := by
  unfold setsTaken takeSets
  dsimp only
  split
  · exact ⟨_, rfl⟩
  · exact ⟨t.ks.pool, rfl⟩

theorem takeUp_drains (t : State) (m turn : Nat) (k e : Bytes) :
    drainedTurn (putAgree (setsTaken t) (some (proposal t m turn k e))) = !oldInFlight t t.turns.num := by
  obtain ⟨pool, taken⟩ := setsTaken_frame t
  rw [taken]
  rfl

/-- The pool with its stagings marked where the set of partition 1 is taken. -/
theorem setsTaken_pool (open_ : t.ks.isSealed = false ∨ t.ks.pool = []) : (setsTaken t).ks.pool =
    if t.turns.p1.closed then t.ks.pool.map (fun y => { y with taken := true }) else t.ks.pool := by
  have free : (!t.ks.isSealed || decide (t.ks.pool = [])) = true := by
    rcases open_ with unsealed | empty
    · rw [unsealed]
      rfl
    · rw [decide_eq_true empty, Bool.or_true]
  unfold setsTaken takeSets
  dsimp only
  rw [free, Bool.and_true]
  split <;> rfl

/-- The deltas of the closed sets, partition 0's first. -/
def closedDeltas (t : State) : List Delta := (if t.turns.p0.closed then t.turns.p0.deltas else []) ++ (if t.turns.p1.closed then t.turns.p1.deltas else [])

theorem proposal_deltas (open_ : t.ks.isSealed = false ∨ t.ks.pool = []) : (proposal t m turn k e).deltas = closedDeltas t := by
  have free : (!t.ks.isSealed || decide (t.ks.pool = [])) = true := by
    rcases open_ with unsealed | empty
    · rw [unsealed]
      rfl
    · rw [decide_eq_true empty, Bool.or_true]
  unfold proposal takeSets closedDeltas
  dsimp only
  rw [free, Bool.and_true]

theorem ksdNow_of_pool {s t : State} (h : t.ks.pool = s.ks.pool) : ksdNow t = ksdNow s := by
  rw [ksdNow, ksdNow, takenStagings, takenStagings, h]

theorem exdThen_of_kc {s t : State} (h : t.kc = s.kc) (ds : List Delta) : exdThen t ds = exdThen s ds := by rw [exdThen, exdThen, h]

/-- Whether this member's turn and digests are those proposed. -/
def agrees (s : State) (a : Agreement) : Bool := s.turns.num + 1 == a.turn && ksdNow s == a.ksd && exdThen s a.deltas == a.exd

theorem castVote_yes {s : State} {a : Agreement} (yes : agrees s a = true) :
    castVote s a = sendMsg (putAgree s (some { a with votedYes := some s.now })) a.proposer 0 2 (leBytes 8 a.turn ++ [1, 0]) := by
  unfold castVote
  unfold agrees at yes
  dsimp only
  rw [yes]
  rfl

theorem castVote_no {s : State} {a : Agreement} (no : agrees s a = false) : ∃ why,
    castVote s a = sendMsg (putAgree (untake (freeWord s).2) none) a.proposer 0 2 (leBytes 8 a.turn ++ [0, why]) := by
  unfold castVote
  unfold agrees at no
  dsimp only
  rw [no]
  exact ⟨_, rfl⟩

theorem takeUp_turns (t : State) (m turn : Nat) (k e : Bytes) : (takeUp t m turn k e).turns = t.turns := turns_kept (takeUp_within _ _ _ _ _ (Within.refl t))

/-- A proposal that waits for the drain. -/
theorem takeUp_waits (busy : oldInFlight t t.turns.num = true) : (takeUp t m turn k e).westad.agree = some (proposal t m turn k e) := by
  rw [takeUp_eq, if_neg (by rw [takeUp_drains, busy]; decide)]
  rfl

theorem takeUp_votes (idle : oldInFlight t t.turns.num = false) :
    takeUp t m turn k e = castVote (putAgree (setsTaken t) (some (proposal t m turn k e))) (proposal t m turn k e) := by
  rw [takeUp_eq, if_pos (by rw [takeUp_drains, idle]; rfl)]

/-- Whether what this member would apply is what has been proposed. -/
theorem proposal_agrees (next_ : turn = t.turns.num + 1) : agrees (putAgree (setsTaken t) (some (proposal t m turn k e))) (proposal t m turn k e) = true ↔
    ksdNow (setsTaken t) = k ∧ exdThen t (proposal t m turn k e).deltas = e := by
  obtain ⟨pool, taken⟩ := setsTaken_frame t
  have turns : (putAgree (setsTaken t) (some (proposal t m turn k e))).turns = t.turns := by
    rw [taken]
    rfl
  have exd : exdThen (putAgree (setsTaken t) (some (proposal t m turn k e))) (proposal t m turn k e).deltas = exdThen t (proposal t m turn k e).deltas :=
    exdThen_of_kc (by rw [taken]; rfl) _
  have ksd : ksdNow (putAgree (setsTaken t) (some (proposal t m turn k e))) = ksdNow (setsTaken t) := ksdNow_of_pool rfl
  rw [agrees, turns, exd, ksd, proposal, Bool.and_eq_true, Bool.and_eq_true, beq_iff_eq, beq_iff_eq, beq_iff_eq]
  exact ⟨fun ⟨⟨_, hk⟩, he⟩ => ⟨hk, he⟩, fun ⟨hk, he⟩ => ⟨⟨next_.symm, hk⟩, he⟩⟩

theorem setsTaken_members (t : State) (a : Option Agreement) : otherMembers (putAgree (setsTaken t) a) = otherMembers t := by
  obtain ⟨pool, taken⟩ := setsTaken_frame t
  exact otherMembers_of_kc (by rw [taken]; rfl)

/-- A member that has drained votes yes. -/
theorem takeUp_yes (member : m ∈ otherMembers t) (idle : oldInFlight t t.turns.num = false) (next_ : turn = t.turns.num + 1)
    (yes : ksdNow (setsTaken t) = k ∧ exdThen t (proposal t m turn k e).deltas = e) :
    (takeUp t m turn k e).westad.agree = some { proposal t m turn k e with votedYes := some t.now } ∧
      ∃ why, LastSent (takeUp t m turn k e) m 2 (leBytes 8 turn ++ [1, why]) := by
  obtain ⟨pool, taken⟩ := setsTaken_frame t
  have now : (putAgree (setsTaken t) (some (proposal t m turn k e))).now = t.now := by
    rw [taken]
    rfl
  rw [takeUp_votes idle, castVote_yes ((proposal_agrees next_).2 yes), now]
  refine ⟨(sendMsg_sent _ _ _ _ _).agree, 0, sendMsg_last ?_ 2 _⟩
  have same : otherMembers (putAgree (putAgree (setsTaken t) (some (proposal t m turn k e)))
    (some { proposal t m turn k e with votedYes := some t.now })) = otherMembers t := setsTaken_members t _
  rw [same]
  exact member

/-- Or no. -/
theorem takeUp_no (member : m ∈ otherMembers t) (idle : oldInFlight t t.turns.num = false) (next_ : turn = t.turns.num + 1)
    (no : ¬ (ksdNow (setsTaken t) = k ∧ exdThen t (proposal t m turn k e).deltas = e)) :
    ∃ why, LastSent (takeUp t m turn k e) m 2 (leBytes 8 turn ++ [0, why]) := by
  have against := Bool.eq_false_iff.2 fun yes => no ((proposal_agrees (m := m) (k := k) (e := e) next_).1 yes)
  obtain ⟨why, votes⟩ := castVote_no against
  rw [takeUp_votes idle, votes]
  refine ⟨why, sendMsg_last ?_ 2 _⟩
  have same : otherMembers (putAgree (untake (freeWord (putAgree (setsTaken t) (some (proposal t m turn k e)))).2) none) = otherMembers t :=
    setsTaken_members t none
  rw [same]
  exact member

end

theorem voters_nodup (s : State) (ds : List Delta) : (voters s ds).Nodup := by
  unfold voters
  dsimp only
  split
  · exact List.nodup_nil
  · exact List.nodup_range.filter _

/-! ### Ends of a commit -/

theorem failCommit_waiting (s : State) (last : Nat) : (failCommit s last).turns.waiting = s.turns.waiting := by
  unfold failCommit
  split
  · rfl
  · exact (modPlane_deal _ _ _).waiting

theorem failCommit_westad (s : State) (last : Nat) : (failCommit s last).westad = s.westad := westad_kept (failCommit_within _ _ (Within.refl s))

theorem failCommit_plane {s : State} {c : Commit} (runs : s.turns.commit = some c) (last : Nat) : (plane (failCommit s last) c.plane).last = last := by
  unfold failCommit
  rw [runs]
  dsimp only
  rw [plane_modPlane]

/-- A member's boundary, with its outcome remembered. -/
def agreedBoundary (s : State) (a : Agreement) : State :=
  boundary (putAgree (putOutcome (auditTurn s 4 a.take0 a.take1 a.deltas) a.turn 1) none) a.take0 a.take1 a.deltas

theorem applyAgreed_eq (s : State) (a : Agreement) : applyAgreed s a = nextCommit (sendMsg (agreedBoundary s a) a.proposer 0 5 (leBytes 8 a.turn)) := rfl

section

variable {t : State} {a : Agreement} (none_ : t.turns.waiting = [])

include none_

/-- An agreement that fails: every member is told (R330, R410). -/
theorem failAgreement_acts {c : Commit} (runs : t.turns.commit = some c) :
    (failAgreement t a).turns.num = t.turns.num ∧ (failAgreement t a).westad.agree = none ∧ (failAgreement t a).westad.lastOutcome = some (a.turn, 2) ∧
      (failAgreement t a).turns.commit = none ∧ (plane (failAgreement t a) c.plane).last = 4 ∧
      ∀ v ∈ voters t a.deltas, v ∈ otherMembers t → LastSent (failAgreement t a) v 4 (leBytes 8 a.turn) := by
  have turns : (sendEach t (voters t a.deltas) 4 (leBytes 8 a.turn)).turns = t.turns := (sendEach_frame t _ _ _).same .turns (by decide)
  have told : ∀ v ∈ voters t a.deltas, v ∈ otherMembers t → LastSent (sendEach t (voters t a.deltas) 4 (leBytes 8 a.turn)) v 4 (leBytes 8 a.turn) :=
    fun v hv member => sendEach_last 4 _ _ (voters_nodup t a.deltas) hv member
  unfold failAgreement
  dsimp only
  generalize sendEach t (voters t a.deltas) 4 (leBytes 8 a.turn) = u at turns told ⊢
  have waits : (failCommit (putAgree (putOutcome u a.turn 2) none) 4).turns.waiting = [] := by
    rw [failCommit_waiting]
    exact (congrArg Turns.waiting turns).trans none_
  rw [nextCommit_idle waits, failCommit_num, failCommit_westad, failCommit_commit]
  have commit : (putAgree (putOutcome u a.turn 2) none).turns.commit = some c := (congrArg Turns.commit turns).trans runs
  refine ⟨congrArg Turns.num turns, rfl, rfl, rfl, failCommit_plane commit 4, fun v hv member => (told v hv member).congr ?_⟩
  rw [failCommit_westad]
  rfl

omit none_ in
/-- A member at the boundary that it has voted for. -/
theorem agreedBoundary_acts (t : State) (a : Agreement) : (agreedBoundary t a).turns.num = t.turns.num + 1 ∧
    (agreedBoundary t a).turns.waiting = t.turns.waiting ∧ (agreedBoundary t a).westad.agree = none := by
  have turns : (auditTurn t 4 a.take0 a.take1 a.deltas).turns = t.turns := turns_kept (auditTurn_within _ _ _ _ _ (Within.refl t))
  unfold agreedBoundary
  generalize auditTurn t 4 a.take0 a.take1 a.deltas = u at turns
  obtain ⟨num, -, waiting, agree⟩ := boundary_turn (putAgree (putOutcome u a.turn 1) none) a.take0 a.take1 a.deltas
  refine ⟨num.trans ?_, waiting.trans (congrArg Turns.waiting turns), agree⟩
  exact congrArg (fun x : Turns => x.num + 1) turns

/-- It applies it, and tells the proposer. -/
theorem applyAgreed_acts : (applyAgreed t a).turns.num = t.turns.num + 1 ∧ (applyAgreed t a).westad.agree = none ∧
    (a.proposer ∈ otherMembers (applyAgreed t a) → LastSent (applyAgreed t a) a.proposer 5 (leBytes 8 a.turn)) := by
  obtain ⟨num, waiting, agree⟩ := agreedBoundary_acts t a
  rw [applyAgreed_eq]
  generalize agreedBoundary t a = v at num waiting agree ⊢
  have sent := sendMsg_sent v a.proposer 0 5 (leBytes 8 a.turn)
  have kept : (sendMsg v a.proposer 0 5 (leBytes 8 a.turn)).turns = v.turns := (sendMsg_frame _ _ _ _ _).same .turns (by decide)
  rw [nextCommit_idle ((congrArg Turns.waiting kept).trans (waiting.trans none_))]
  refine ⟨(congrArg Turns.num kept).trans num, sent.agree.trans agree, fun member => sendMsg_last ?_ 5 _⟩
  rwa [otherMembers_of_kc sent.kc] at member

/-- A member's agreement ends without a turn. -/
theorem abortAgreed_acts : (abortAgreed t a).turns.num = t.turns.num ∧ (abortAgreed t a).westad.agree = none ∧
    (abortAgreed t a).westad.lastOutcome = some (a.turn, 2) := by
  unfold abortAgreed
  rw [nextCommit_idle (by exact none_)]
  exact ⟨rfl, rfl, rfl⟩

end

/-! ### The proposer (R409, R410) -/

section

variable {t : State} {a : Agreement} {m turn : Nat} (runs : t.westad.agree = some a) (own : a.proposer = kcMember t.kc) (here : a.turn = turn)

/-- An agreement with a vote counted. -/
def withVote (a : Agreement) (m : Nat) : Agreement := { a with votes := if a.votes.contains m then a.votes else m :: a.votes }

/-- An agreement with a DONE counted. -/
def withDone (a : Agreement) (m : Nat) : Agreement := { a with dones := if a.dones.contains m then a.dones else m :: a.dones }

theorem mem_counted (l : List Nat) (m v : Nat) : v ∈ (if l.contains m then l else m :: l) ↔ v = m ∨ v ∈ l := by
  split
  · next listed =>
      refine ⟨.inr, fun h => h.elim (fun same => ?_) id⟩
      rw [same]
      exact List.contains_iff_mem.1 listed
  · exact List.mem_cons

theorem counted_all {l : List Nat} {m : Nat} {vs : List Nat} : vs.all (fun v => (if l.contains m then l else m :: l).contains v) = true ↔
    ∀ v ∈ vs, v = m ∨ v ∈ l := by
  rw [List.all_eq_true]
  exact forall₂_congr fun v _ => by rw [List.contains_iff_mem, mem_counted]

include runs own here

theorem countVote_no (waits : a.applying = false) : countVote t m turn false = failAgreement t a := by
  unfold countVote
  rw [runs]
  dsimp only
  rw [if_neg (by simp [own, here, waits])]
  rfl

theorem countVote_waits (waits : a.applying = false) (missing : ∃ v ∈ voters t a.deltas, v ≠ m ∧ v ∉ a.votes) :
    countVote t m turn true = putAgree t (some (withVote a m)) := by
  obtain ⟨v, hv, other, absent⟩ := missing
  have open_ : ¬ (voters t a.deltas).all (fun v => (withVote a m).votes.contains v) = true := fun all_ =>
    (counted_all.1 all_ v hv).elim other absent
  unfold countVote
  rw [runs]
  dsimp only
  rw [if_neg (by simp [own, here, waits])]
  exact (if_neg (by decide)).trans (if_neg open_)

/-- The agreement and the commit once every vote is yes. -/
def applying (t : State) (a : Agreement) (m : Nat) : State :=
  let s := putAgree t (some { withVote a m with applying := true })
  match s.turns.commit with
  | some c => modPlane { s with turns := { s.turns with commit := some { c with phase := 4 } } } c.plane (fun x => { x with phase := 4 })
  | none => s

theorem countVote_last (waits : a.applying = false) (all_ : ∀ v ∈ voters t a.deltas, v = m ∨ v ∈ a.votes) :
    countVote t m turn true = sendEach (applying t a m) (voters (applying t a m) a.deltas) 3 (leBytes 8 turn) := by
  have full : (voters t a.deltas).all (fun v => (withVote a m).votes.contains v) = true := counted_all.2 all_
  unfold countVote
  rw [runs]
  dsimp only
  rw [if_neg (by simp [own, here, waits])]
  exact (if_neg (by decide)).trans (if_pos full)

theorem countDone_waits (runs_ : a.applying = true) (missing : ∃ v ∈ voters t a.deltas, v ≠ m ∧ v ∉ a.dones) :
    countDone t m turn = putAgree t (some (withDone a m)) := by
  obtain ⟨v, hv, other, absent⟩ := missing
  have open_ : ¬ (voters t a.deltas).all (fun v => (withDone a m).dones.contains v) = true := fun all_ =>
    (counted_all.1 all_ v hv).elim other absent
  unfold countDone
  rw [runs]
  dsimp only
  rw [if_neg (by simp [own, here, runs_])]
  exact if_neg open_

theorem countDone_last (runs_ : a.applying = true) (all_ : ∀ v ∈ voters t a.deltas, v = m ∨ v ∈ a.dones) :
    countDone t m turn = commitBoundary (putAgree (putOutcome t turn 1) none) := by
  have full : (voters t a.deltas).all (fun v => (withDone a m).dones.contains v) = true := counted_all.2 all_
  unfold countDone
  rw [runs]
  dsimp only
  rw [if_neg (by simp [own, here, runs_])]
  exact if_pos full

end

end Sys2Proof.Machine
end

section
/-! The messages of an agreement as commands (R330, R409, R410). -/

namespace Sys2Proof.Machine

open Sys2Proof.Claims

theorem oldInFlight_of {s t : State} (intake : t.intake = s.intake) (threads : t.threads = s.threads) (n : Nat) : oldInFlight t n = oldInFlight s n := by
  have who : ∀ i, thr t i = thr s i := thr_of_threads threads
  have busy : busyThreads t = busyThreads s := by
    unfold busyThreads
    rw [threads]
  unfold oldInFlight allCmds
  rw [intake, busy]
  simp only [who]

theorem voters_of_kc {s t : State} (h : t.kc = s.kc) (ds : List Delta) : voters t ds = voters s ds := by rw [voters, voters, h]

/-- A state that has taken a message: all but Westad reads as before, and agreements stand. -/
structure Taken (s t : State) : Prop where
  turns : t.turns = s.turns
  kc : t.kc = s.kc
  ks : t.ks = s.ks
  now : t.now = s.now
  boot : t.boot = s.boot
  intake : t.intake = s.intake
  threads : t.threads = s.threads
  agree : t.westad.agree = s.westad.agree
  lastOutcome : t.westad.lastOutcome = s.westad.lastOutcome

theorem received_taken (s : State) (m : Nat) : Taken s (received s m 0) := by
  have frame := received_frame s m 0
  have sent := received_sent s m 0
  exact ⟨frame.same .turns (by decide), frame.same .kc (by decide), frame.same .ks (by decide), frame.same .now (by decide),
    frame.same .boot (by decide), frame.same .intake (by decide), frame.same .threads (by decide), sent.agree, sent.lastOutcome⟩

/-- A member that has voted yes. -/
theorem waitingVote_of {t : State} {a : Agreement} {at_ : Nat} (runs : t.westad.agree = some a) (voted : a.votedYes = some at_) :
    waitingVote t = some (a, at_) := by
  rw [waitingVote, runs]
  exact congrArg (Option.map _) voted

/-- APPLY as a member takes it. -/
def applyIn (m turn : Nat) (s : State) : State :=
  match waitingVote s with
  | some (a, _) => if a.turn = turn ∧ a.proposer = m then applyAgreed s a else s
  | none => s

/-- ABORT as a member takes it. -/
def abortIn (m turn : Nat) (s : State) : State :=
  match s.westad.agree with
  | some a => if a.turn = turn ∧ a.proposer = m then abortAgreed s a else s
  | none => s

theorem applyIn_own {t : State} {a : Agreement} {at_ m turn : Nat} (runs : t.westad.agree = some a) (voted : a.votedYes = some at_) (here : a.turn = turn)
    (own : a.proposer = m) : applyIn m turn t = applyAgreed t a := by
  rw [applyIn, waitingVote_of runs voted]
  exact if_pos ⟨here, own⟩

theorem abortIn_own {t : State} {a : Agreement} {m turn : Nat} (runs : t.westad.agree = some a) (here : a.turn = turn) (own : a.proposer = m) :
    abortIn m turn t = abortAgreed t a := by
  rw [abortIn, runs]
  exact if_pos ⟨here, own⟩

/-! ### Rows that run -/

section

variable {s : State} {m : Fin 8} (keyed : pairState s m = 2) (awake : s.faults.quiet = false) (calm : s.boot.warmDue = false)

include keyed awake calm

/-- PROPOSE runs on the state that has taken it. -/
theorem propose_runs (turn : Nat) (ksd exd : Bytes) :
    exec (.propose m turn ksd exd) s = .next (proposed (received s m 0) m turn ksd exd) :=
  congrArg Host.Outcome.next (message_runs keyed awake calm (boot_kept (proposed_within _ _ _ _ _ (Within.refl _))))

theorem vote_runs (turn : Nat) (yes : Bool) (why : Byte) : exec (.vote m turn yes why) s = .next (countVote (received s m 0) m turn yes) :=
  congrArg Host.Outcome.next (message_runs keyed awake calm (boot_kept (countVote_within _ _ _ _ (Within.refl _))))

theorem doneMsg_runs (turn : Nat) : exec (.doneMsg m turn) s = .next (countDone (received s m 0) m turn) :=
  congrArg Host.Outcome.next (message_runs keyed awake calm (boot_kept (countDone_within _ _ _ (Within.refl _))))

theorem stateMsg_runs (turn : Nat) (o : Byte) : exec (.stateMsg m turn o) s = .next (learnState (received s m 0) m turn o.toNat) :=
  congrArg Host.Outcome.next (message_runs keyed awake calm (boot_kept (learnState_within _ _ _ _ (Within.refl _))))

/-- APPLY from the proposer runs the boundary. -/
theorem apply_runs {a : Agreement} {at_ : Nat} (runs : s.westad.agree = some a) (voted : a.votedYes = some at_) {turn : Nat} (here : a.turn = turn)
    (own : a.proposer = m.val) : exec (.apply m turn) s = .next (applyAgreed (received s m 0) a) := by
  have acts := applyIn_own ((received_taken s m).agree.trans runs) voted here own
  have boot : (applyIn m.val turn (received s m 0)).boot = (received s m 0).boot := by
    rw [acts]
    exact boot_kept (applyAgreed_within _ _ (Within.refl _))
  exact congrArg Host.Outcome.next ((message_runs (f := applyIn m turn) keyed awake calm boot).trans acts)

/-- ABORT from the proposer ends the agreement. -/
theorem abort_runs {a : Agreement} (runs : s.westad.agree = some a) {turn : Nat} (here : a.turn = turn) (own : a.proposer = m.val) :
    exec (.abort m turn) s = .next (abortAgreed (received s m 0) a) := by
  have acts := abortIn_own ((received_taken s m).agree.trans runs) here own
  have boot : (abortIn m.val turn (received s m 0)).boot = (received s m 0).boot := by
    rw [acts]
    exact boot_kept (abortAgreed_within _ _ (Within.refl _))
  exact congrArg Host.Outcome.next ((message_runs (f := abortIn m turn) keyed awake calm boot).trans acts)

end

/-! ### Members (R410) -/

theorem learnState_taken {t : State} {a : Agreement} {at_ q turn : Nat} (runs : t.westad.agree = some a) (voted : a.votedYes = some at_)
    (asked : a.queried = some q) (here : a.turn = turn) (m o : Nat) : learnState t m turn o =
      if o = 1 then applyAgreed t a
      else if o = 2 then abortAgreed t a
      else putAgree t (some { a with unknown := if a.unknown.contains m then a.unknown else m :: a.unknown }) := by
  unfold learnState
  rw [waitingVote_of runs voted]
  exact if_neg (by simp [here, asked])

/-- What this member does when it has asked and heard nothing. -/
def askedInVain (s : State) : State :=
  match waitingVote s with
  | some (a, _) =>
    match a.queried with
    | some q => if q + kcDrain s.kc ≤ s.now ∧ reachable s ≠ [] ∧ (reachable s).all (fun m => a.unknown.contains m) then abortAgreed s a else s
    | none => s
  | none => s

theorem askedInVain_ends {s : State} {a : Agreement} {at_ q : Nat} (runs : s.westad.agree = some a) (voted : a.votedYes = some at_) (asked : a.queried = some q)
    (due : q + kcDrain s.kc ≤ s.now) (some_ : reachable s ≠ []) (all_ : ∀ v ∈ reachable s, v ∈ a.unknown) : askedInVain s = abortAgreed s a := by
  rw [askedInVain, waitingVote_of runs voted]
  dsimp only
  rw [asked]
  exact if_pos ⟨due, some_, List.all_eq_true.2 fun v hv => List.contains_iff_mem.2 (all_ v hv)⟩

/-- Ending an agreement in vain leaves no warm boot due. -/
theorem warmSettle_askedInVain {s : State} {a : Agreement} (calm : s.boot.warmDue = false) (ends : askedInVain s = abortAgreed s a) :
    warmSettle (askedInVain s) = abortAgreed s a := by
  rw [ends]
  exact warmSettle_of_none (by rw [boot_kept (abortAgreed_within s a (Within.refl _)), calm])

/-- The question to every member within reach. -/
def asks (s : State) (a : Agreement) : State :=
  sendEach (putAgree s (some { a with queried := some s.now, unknown := [] })) (reachable s) 6 (leBytes 8 a.turn)

/-- VOTE_OUTCOME_TIMEOUT as a member takes it. -/
def outcomeLate (s : State) : State :=
  match waitingVote s with
  | some (a, t) => if a.queried.isNone ∧ t + kcDrain s.kc ≤ s.now then asks s a else s
  | none => s

theorem outcomeLate_asks {s : State} {a : Agreement} {at_ : Nat} (runs : s.westad.agree = some a) (voted : a.votedYes = some at_) (unasked : a.queried = none)
    (due : at_ + kcDrain s.kc ≤ s.now) : outcomeLate s = asks s a := by
  rw [outcomeLate, waitingVote_of runs voted]
  exact if_pos ⟨by rw [unasked]; rfl, due⟩

theorem asks_acts (s : State) (a : Agreement) : (asks s a).westad.agree = some { a with queried := some s.now, unknown := [] } ∧
    ∀ v ∈ reachable s, LastSent (asks s a) v 6 (leBytes 8 a.turn) := by
  refine ⟨(sendEach_sent _ _ _ _).agree, fun v hv => sendEach_last 6 _ _ ((otherMembers_nodup s).filter _) hv ?_⟩
  exact (List.mem_filter.1 hv).1

/-- OUTCOME_UNKNOWN_TIMEOUT as a member takes it. -/
def outcomeUnknown (s : State) : State :=
  match waitingVote s with
  | some (_, t) => if t + 10 ^ 9 ≤ s.now then enterQuiet s 0xB else s
  | none => s

theorem outcomeUnknown_enters {s : State} {a : Agreement} {at_ : Nat} (runs : s.westad.agree = some a) (voted : a.votedYes = some at_)
    (due : at_ + 10 ^ 9 ≤ s.now) : outcomeUnknown s = enterQuiet s 0xB := by
  rw [outcomeUnknown, waitingVote_of runs voted]
  exact if_pos due

/-- What this member answers to QUERY. -/
theorem outcomeOf_reads (t : State) (turn : Nat) : (turn ≤ t.turns.num → outcomeOf t turn = 1) ∧
    (∀ u o, t.turns.num < turn → t.westad.agree = none → t.westad.lastOutcome = some (u, o) → u = turn → outcomeOf t turn = o) := by
  refine ⟨fun done => if_pos done, fun u o later idle last same => ?_⟩
  rw [outcomeOf, if_neg (by omega), idle]
  dsimp only
  rw [last]
  exact if_pos same

/-- The agreement and the commit once every vote is yes. -/
theorem applying_acts {t : State} {a : Agreement} {c : Commit} (runs : t.turns.commit = some c) (m : Nat) :
    (applying t a m).westad.agree = some { withVote a m with applying := true } ∧ (plane (applying t a m) c.plane).phase = 4 ∧
      (applying t a m).kc = t.kc := by
  unfold applying
  dsimp only
  have commit : (putAgree t (some { withVote a m with applying := true })).turns.commit = some c := runs
  rw [commit]
  dsimp only
  exact ⟨(modPlane_deal _ _ _).agree, by rw [plane_modPlane], rfl⟩

theorem sendEach_plane (s : State) (ms : List Nat) (ty : Nat) (b : Bytes) (p : Nat) : plane (sendEach s ms ty b) p = plane s p :=
  plane_of_turns ((sendEach_frame s ms ty b).same .turns (by decide)) p

/-- Settles O37: each message of an agreement moves it one step, and what ends it is told to every member. -/
theorem agreementRuns : Obligations.AgreementRuns := by
  unfold Obligations.AgreementRuns
  intro s m turn keyed awake calm none_ me n sent b applied stopped
  have member : m.val ∈ otherMembers s := (pairState_keyed keyed).1
  have propose := propose_runs keyed awake calm
  have vote := vote_runs keyed awake calm
  have done_ := doneMsg_runs keyed awake calm turn
  have state := stateMsg_runs keyed awake calm turn
  have query : exec (.query m turn) s = .next (sendMsg (received s m 0) m 0 7 (b ++ [byte (outcomeOf (received s m 0) turn)])) :=
    congrArg Host.Outcome.next (onMessage_taken keyed awake 0 _)
  have apply_ := fun {a : Agreement} {at_ : Nat} => apply_runs (a := a) (at_ := at_) keyed awake calm (turn := turn)
  have abort_ := fun {a : Agreement} => abort_runs (a := a) keyed awake calm (turn := turn)
  obtain ⟨turns, kc, ks, now, -, intake, threads, agree, last⟩ := received_taken s m
  generalize received s m 0 = t at *
  have members : otherMembers t = otherMembers s := otherMembers_of_kc kc
  have voters_ := voters_of_kc kc
  have waits : t.turns.waiting = [] := by rw [turns, none_]
  have flight := oldInFlight_of intake threads
  have self : kcMember t.kc = me := by rw [kc]
  refine ⟨fun ksd exd => ?_, fun a c runs commit _ own here => ?_, ⟨_, query, outcomeOf t turn, sendMsg_last (members.symm ▸ member) 7 _, ?_, ?_⟩,
    fun a at_ runs voted here none' => ?_⟩
  · intro votesNo
    have no : ∀ {u : State}, proposed t m turn ksd exd = u → (∃ why, LastSent u m 2 (b ++ [0, why])) → u.turns.num = n → votesNo := fun same votes num =>
      completes_to (propose turn ksd exd) same ⟨votes, num⟩
    have refuses : proposed t m turn ksd exd = voteNo t m turn → votesNo := fun same =>
      no same (voteNo_votes (members.symm ▸ member) turn) (by rw [voteNo_turns, turns])
    refine ⟨fun late => refuses (proposed_late (by rw [turns]; exact late)),
      fun a runs holds => refuses (proposed_busy (agree.trans runs) (by rw [self]; exact holds)), fun idle noCommit next_ open_ => ?_,
      fun c idle commit _ next_ low => ?_⟩
    · intro ds pool yes
      have fresh : proposed t m turn ksd exd = takeUp t m turn ksd exd :=
        proposed_fresh (agree.trans idle) (by rw [turns, noCommit]) (by rw [turns]; exact next_)
      have free : t.ks.isSealed = false ∨ t.ks.pool = [] := by rwa [ks]
      have deltas : (proposal t m turn ksd exd).deltas = ds := by rw [proposal_deltas free, closedDeltas, turns]
      have next' : turn = t.turns.num + 1 := by rw [turns]; exact next_
      have agreed : ksdNow (setsTaken t) = ksd ∧ exdThen t (proposal t m turn ksd exd).deltas = exd ↔ yes := by
        have digest : ksdNow (setsTaken t) = ksdNow { s with ks := { s.ks with pool := pool } } :=
          ksdNow_of_pool (by rw [setsTaken_pool free, turns, ks])
        rw [digest, deltas, exdThen_of_kc kc]
      refine ⟨fun busy => completes_to (propose turn ksd exd) fresh ⟨_, takeUp_waits (by rw [turns, flight]; exact busy), rfl, rfl, rfl, rfl, deltas, rfl⟩,
        fun drained ok => ?_, fun drained against => ?_⟩
      · obtain ⟨voted, votes⟩ := takeUp_yes (members.symm ▸ member) (by rw [turns, flight]; exact drained) next' (agreed.2 ok)
        exact completes_to (propose turn ksd exd) fresh ⟨⟨_, voted, rfl, rfl, congrArg some now⟩, votes⟩
      · exact no fresh (takeUp_no (members.symm ▸ member) (by rw [turns, flight]; exact drained) next' (fun ok => against (agreed.1 ok)))
          (by rw [takeUp_turns, turns])
    · have competes : proposed t m turn ksd exd = takeUp (failCommit t 4) m turn ksd exd :=
        proposed_competes (agree.trans idle) (by rw [turns, commit]) (by rw [turns]; exact next_) (by rw [self]; exact low)
      refine completes_to (propose turn ksd exd) competes ⟨?_, ?_⟩
      · rw [takeUp_turns, failCommit_commit]
      · rw [plane_of_turns (takeUp_turns _ _ _ _ _), failCommit_plane (by rw [turns, commit]) 4]
  · have agreed := agree.trans runs
    have mine : a.proposer = kcMember t.kc := own.trans self.symm
    have busy : t.turns.commit = some c := by rw [turns, commit]
    intro all
    refine ⟨fun idle => ⟨fun why => ?_, fun why missing => ?_, fun why all_ => ?_⟩, fun going => ⟨fun missing => ?_, fun all_ => ?_⟩⟩
    · obtain ⟨num, gone, outcome, noCommit, failed, told⟩ := failAgreement_acts (a := a) waits busy
      refine completes_to (vote turn false why) (countVote_no agreed mine here idle)
        ⟨⟨num.trans (congrArg Turns.num turns), gone, here ▸ outcome⟩, noCommit, failed, fun v hv mem => ?_⟩
      rw [voters_, members, here] at told
      exact told v hv mem
    · exact completes_to (vote turn true why) (countVote_waits agreed mine here idle (by rw [voters_]; exact missing))
        ⟨_, rfl, idle, fun v => mem_counted a.votes m v⟩
    · obtain ⟨voted, phase, kept⟩ := applying_acts (a := a) busy m.val
      refine completes_to (vote turn true why) (countVote_last agreed mine here idle (by rw [voters_]; exact all_))
        ⟨⟨_, (sendEach_sent _ _ _ _).agree.trans voted, rfl⟩, ?_, fun v hv mem => ?_⟩
      · rw [sendEach_plane, phase]
      · refine sendEach_last 3 b _ (voters_nodup _ _) ?_ ?_
        · rw [voters_of_kc kept, voters_]
          exact hv
        · rw [otherMembers_of_kc kept, members]
          exact mem
    · exact completes_to done_ (countDone_waits agreed mine here going (by rw [voters_]; exact missing))
        ⟨congrArg Turns.num turns, _, rfl, fun v => mem_counted a.dones m v⟩
    · obtain ⟨num, noCommit, gone, last_⟩ := commitBoundary_acts (s := putAgree (putOutcome t turn 1) none) busy waits
      exact completes_to done_ (countDone_last agreed mine here going (by rw [voters_]; exact all_))
        ⟨⟨num.trans (congrArg (fun x : Turns => x.num + 1) turns), gone⟩, noCommit, last_⟩
  · exact fun past => (outcomeOf_reads t turn).1 (by rw [turns]; exact past)
  · exact fun u o later idle told same => (outcomeOf_reads t turn).2 u o (by rw [turns]; exact later) (agree.trans idle) (last.trans told) same
  · have agreed := agree.trans runs
    obtain ⟨num, gone, tells⟩ := applyAgreed_acts (a := a) waits
    obtain ⟨stays, ended, outcome⟩ := abortAgreed_acts (a := a) waits
    have applies : applied (applyAgreed t a) := ⟨num.trans (congrArg (fun x : Turns => x.num + 1) turns), gone⟩
    have stops : stopped (abortAgreed t a) := ⟨stays.trans (congrArg Turns.num turns), ended, here ▸ outcome⟩
    refine ⟨fun own => ⟨_, apply_ runs voted here own, applies, fun mem => ?_⟩, fun own => ⟨_, abort_ runs here own, stops⟩, fun q asked => ⟨?_, ?_, ?_,
      fun due some_ all_ => ?_⟩, fun unasked due => ?_, fun due => ?_⟩
    · rw [own, here] at tells
      exact tells mem
    · exact completes_to (state 1) ((learnState_taken agreed voted asked here _ _).trans (if_pos rfl)) applies
    · exact completes_to (state 2) ((learnState_taken agreed voted asked here _ _).trans ((if_neg (by decide)).trans (if_pos rfl))) stops
    · exact completes_to (state 0) ((learnState_taken agreed voted asked here _ _).trans ((if_neg (by decide)).trans (if_neg (by decide)))) ⟨_, rfl, fun v => mem_counted a.unknown m v⟩
    · obtain ⟨stays, ended, outcome⟩ := abortAgreed_acts (t := s) (a := a) none_
      refine completes_to rfl (warmSettle_askedInVain calm (askedInVain_ends runs voted asked due some_ all_)) ⟨stays, ended, here ▸ outcome⟩
    · obtain ⟨asked, told⟩ := asks_acts s a
      rw [here] at told
      exact completes_to rfl (outcomeLate_asks runs voted unasked due) ⟨⟨_, asked, rfl, rfl⟩, told⟩
    · refine completes_to rfl (outcomeUnknown_enters runs voted due) ?_
      rw [enterQuiet_faults awake]
      exact ⟨rfl, rfl, enterQuiet_agree awake _⟩

end Sys2Proof.Machine
end

section
/-! SUPPORT. What a warm boot leaves of the supply, the clocks and the kind of boot (R491). -/

namespace Sys2Proof.Machine

open Sys2Proof.Claims

/-! ### Parts that stay -/

theorem tally_kept {s t : State}
    (h : [Has (· ≠ .tally) .rdata] → [Has (· ≠ .tally) .free] → [Has (· ≠ .tally) .now] → [Has (· ≠ .tally) .regs] → [Has (· ≠ .tally) .mem] →
      [Has (· ≠ .tally) .poison] → [Has (· ≠ .tally) .threads] → [Has (· ≠ .tally) .cyls] → [Has (· ≠ .tally) .krs] → [Has (· ≠ .tally) .engs] →
      [Has (· ≠ .tally) .dmaTlb] → [Has (· ≠ .tally) .inval] → [Has (· ≠ .tally) .ks] → [Has (· ≠ .tally) .guard] → [Has (· ≠ .tally) .dma] →
      [Has (· ≠ .tally) .dmaLast] → [Has (· ≠ .tally) .intake] → [Has (· ≠ .tally) .kc] → [Has (· ≠ .tally) .kcPrev] →
      [Has (· ≠ .tally) .turns] → [Has (· ≠ .tally) .srcs] → [Has (· ≠ .tally) .arbs] → [Has (· ≠ .tally) .doms] → [Has (· ≠ .tally) .xq] →
      [Has (· ≠ .tally) .westad] → [Has (· ≠ .tally) .dbg] → [Has (· ≠ .tally) .supply] → [Has (· ≠ .tally) .keeper] →
      [Has (· ≠ .tally) .audit] → [Has (· ≠ .tally) .faults] → [Has (· ≠ .tally) .fuses] → [Has (· ≠ .tally) .boot] → [Has (· ≠ .tally) .req] →
      [Has (· ≠ .tally) .pins] → [Has (· ≠ .tally) .seeded] → [Has (· ≠ .tally) .trngBad] → [Has (· ≠ .tally) .ptpGood] →
      [Has (· ≠ .tally) .dramKeys] → [Has (· ≠ .tally) .dramLost] → [Has (· ≠ .tally) .uartIn] → [Has (· ≠ .tally) .linkPower] →
      [Has (· ≠ .tally) .out] → Within (· ≠ .tally) s t) :
    t.tally = s.tally :=
  ((@h ⟨by decide⟩ ⟨by decide⟩ ⟨by decide⟩ ⟨by decide⟩ ⟨by decide⟩ ⟨by decide⟩ ⟨by decide⟩ ⟨by decide⟩ ⟨by decide⟩ ⟨by decide⟩ ⟨by decide⟩
    ⟨by decide⟩ ⟨by decide⟩ ⟨by decide⟩ ⟨by decide⟩ ⟨by decide⟩ ⟨by decide⟩ ⟨by decide⟩ ⟨by decide⟩ ⟨by decide⟩ ⟨by decide⟩ ⟨by decide⟩
    ⟨by decide⟩ ⟨by decide⟩ ⟨by decide⟩ ⟨by decide⟩ ⟨by decide⟩ ⟨by decide⟩ ⟨by decide⟩ ⟨by decide⟩ ⟨by decide⟩ ⟨by decide⟩ ⟨by decide⟩
    ⟨by decide⟩ ⟨by decide⟩ ⟨by decide⟩ ⟨by decide⟩ ⟨by decide⟩ ⟨by decide⟩ ⟨by decide⟩ ⟨by decide⟩ ⟨by decide⟩).rest .tally).resolve_left (by decide)

theorem mem_kept {s t : State}
    (h : [Has (· ≠ .mem) .rdata] → [Has (· ≠ .mem) .free] → [Has (· ≠ .mem) .now] → [Has (· ≠ .mem) .tally] → [Has (· ≠ .mem) .regs] →
      [Has (· ≠ .mem) .poison] → [Has (· ≠ .mem) .threads] → [Has (· ≠ .mem) .cyls] → [Has (· ≠ .mem) .krs] → [Has (· ≠ .mem) .engs] →
      [Has (· ≠ .mem) .dmaTlb] → [Has (· ≠ .mem) .inval] → [Has (· ≠ .mem) .ks] → [Has (· ≠ .mem) .guard] → [Has (· ≠ .mem) .dma] →
      [Has (· ≠ .mem) .dmaLast] → [Has (· ≠ .mem) .intake] → [Has (· ≠ .mem) .kc] → [Has (· ≠ .mem) .kcPrev] → [Has (· ≠ .mem) .turns] →
      [Has (· ≠ .mem) .srcs] → [Has (· ≠ .mem) .arbs] → [Has (· ≠ .mem) .doms] → [Has (· ≠ .mem) .xq] → [Has (· ≠ .mem) .westad] →
      [Has (· ≠ .mem) .dbg] → [Has (· ≠ .mem) .supply] → [Has (· ≠ .mem) .keeper] → [Has (· ≠ .mem) .audit] → [Has (· ≠ .mem) .faults] →
      [Has (· ≠ .mem) .fuses] → [Has (· ≠ .mem) .boot] → [Has (· ≠ .mem) .req] → [Has (· ≠ .mem) .pins] → [Has (· ≠ .mem) .seeded] →
      [Has (· ≠ .mem) .trngBad] → [Has (· ≠ .mem) .ptpGood] → [Has (· ≠ .mem) .dramKeys] → [Has (· ≠ .mem) .dramLost] →
      [Has (· ≠ .mem) .uartIn] → [Has (· ≠ .mem) .linkPower] → [Has (· ≠ .mem) .out] → Within (· ≠ .mem) s t) :
    t.mem = s.mem :=
  ((@h ⟨by decide⟩ ⟨by decide⟩ ⟨by decide⟩ ⟨by decide⟩ ⟨by decide⟩ ⟨by decide⟩ ⟨by decide⟩ ⟨by decide⟩ ⟨by decide⟩ ⟨by decide⟩ ⟨by decide⟩
    ⟨by decide⟩ ⟨by decide⟩ ⟨by decide⟩ ⟨by decide⟩ ⟨by decide⟩ ⟨by decide⟩ ⟨by decide⟩ ⟨by decide⟩ ⟨by decide⟩ ⟨by decide⟩ ⟨by decide⟩
    ⟨by decide⟩ ⟨by decide⟩ ⟨by decide⟩ ⟨by decide⟩ ⟨by decide⟩ ⟨by decide⟩ ⟨by decide⟩ ⟨by decide⟩ ⟨by decide⟩ ⟨by decide⟩ ⟨by decide⟩
    ⟨by decide⟩ ⟨by decide⟩ ⟨by decide⟩ ⟨by decide⟩ ⟨by decide⟩ ⟨by decide⟩ ⟨by decide⟩ ⟨by decide⟩ ⟨by decide⟩).rest .mem).resolve_left (by decide)

theorem threads_kept {s t : State}
    (h : [Has (· ≠ .threads) .rdata] → [Has (· ≠ .threads) .free] → [Has (· ≠ .threads) .now] → [Has (· ≠ .threads) .tally] →
      [Has (· ≠ .threads) .regs] → [Has (· ≠ .threads) .mem] → [Has (· ≠ .threads) .poison] → [Has (· ≠ .threads) .cyls] →
      [Has (· ≠ .threads) .krs] → [Has (· ≠ .threads) .engs] → [Has (· ≠ .threads) .dmaTlb] → [Has (· ≠ .threads) .inval] →
      [Has (· ≠ .threads) .ks] → [Has (· ≠ .threads) .guard] → [Has (· ≠ .threads) .dma] → [Has (· ≠ .threads) .dmaLast] →
      [Has (· ≠ .threads) .intake] → [Has (· ≠ .threads) .kc] → [Has (· ≠ .threads) .kcPrev] → [Has (· ≠ .threads) .turns] →
      [Has (· ≠ .threads) .srcs] → [Has (· ≠ .threads) .arbs] → [Has (· ≠ .threads) .doms] → [Has (· ≠ .threads) .xq] →
      [Has (· ≠ .threads) .westad] → [Has (· ≠ .threads) .dbg] → [Has (· ≠ .threads) .supply] → [Has (· ≠ .threads) .keeper] →
      [Has (· ≠ .threads) .audit] → [Has (· ≠ .threads) .faults] → [Has (· ≠ .threads) .fuses] → [Has (· ≠ .threads) .boot] →
      [Has (· ≠ .threads) .req] → [Has (· ≠ .threads) .pins] → [Has (· ≠ .threads) .seeded] → [Has (· ≠ .threads) .trngBad] →
      [Has (· ≠ .threads) .ptpGood] → [Has (· ≠ .threads) .dramKeys] → [Has (· ≠ .threads) .dramLost] → [Has (· ≠ .threads) .uartIn] →
      [Has (· ≠ .threads) .linkPower] → [Has (· ≠ .threads) .out] → Within (· ≠ .threads) s t) :
    t.threads = s.threads :=
  ((@h ⟨by decide⟩ ⟨by decide⟩ ⟨by decide⟩ ⟨by decide⟩ ⟨by decide⟩ ⟨by decide⟩ ⟨by decide⟩ ⟨by decide⟩ ⟨by decide⟩ ⟨by decide⟩ ⟨by decide⟩
    ⟨by decide⟩ ⟨by decide⟩ ⟨by decide⟩ ⟨by decide⟩ ⟨by decide⟩ ⟨by decide⟩ ⟨by decide⟩ ⟨by decide⟩ ⟨by decide⟩ ⟨by decide⟩ ⟨by decide⟩
    ⟨by decide⟩ ⟨by decide⟩ ⟨by decide⟩ ⟨by decide⟩ ⟨by decide⟩ ⟨by decide⟩ ⟨by decide⟩ ⟨by decide⟩ ⟨by decide⟩ ⟨by decide⟩ ⟨by decide⟩
    ⟨by decide⟩ ⟨by decide⟩ ⟨by decide⟩ ⟨by decide⟩ ⟨by decide⟩ ⟨by decide⟩ ⟨by decide⟩ ⟨by decide⟩ ⟨by decide⟩).rest .threads).resolve_left (by decide)

theorem intake_kept {s t : State}
    (h : [Has (· ≠ .intake) .rdata] → [Has (· ≠ .intake) .free] → [Has (· ≠ .intake) .now] → [Has (· ≠ .intake) .tally] →
      [Has (· ≠ .intake) .regs] → [Has (· ≠ .intake) .mem] → [Has (· ≠ .intake) .poison] → [Has (· ≠ .intake) .threads] →
      [Has (· ≠ .intake) .cyls] → [Has (· ≠ .intake) .krs] → [Has (· ≠ .intake) .engs] → [Has (· ≠ .intake) .dmaTlb] →
      [Has (· ≠ .intake) .inval] → [Has (· ≠ .intake) .ks] → [Has (· ≠ .intake) .guard] → [Has (· ≠ .intake) .dma] →
      [Has (· ≠ .intake) .dmaLast] → [Has (· ≠ .intake) .kc] → [Has (· ≠ .intake) .kcPrev] → [Has (· ≠ .intake) .turns] →
      [Has (· ≠ .intake) .srcs] → [Has (· ≠ .intake) .arbs] → [Has (· ≠ .intake) .doms] → [Has (· ≠ .intake) .xq] →
      [Has (· ≠ .intake) .westad] → [Has (· ≠ .intake) .dbg] → [Has (· ≠ .intake) .supply] → [Has (· ≠ .intake) .keeper] →
      [Has (· ≠ .intake) .audit] → [Has (· ≠ .intake) .faults] → [Has (· ≠ .intake) .fuses] → [Has (· ≠ .intake) .boot] →
      [Has (· ≠ .intake) .req] → [Has (· ≠ .intake) .pins] → [Has (· ≠ .intake) .seeded] → [Has (· ≠ .intake) .trngBad] →
      [Has (· ≠ .intake) .ptpGood] → [Has (· ≠ .intake) .dramKeys] → [Has (· ≠ .intake) .dramLost] → [Has (· ≠ .intake) .uartIn] →
      [Has (· ≠ .intake) .linkPower] → [Has (· ≠ .intake) .out] → Within (· ≠ .intake) s t) :
    t.intake = s.intake :=
  ((@h ⟨by decide⟩ ⟨by decide⟩ ⟨by decide⟩ ⟨by decide⟩ ⟨by decide⟩ ⟨by decide⟩ ⟨by decide⟩ ⟨by decide⟩ ⟨by decide⟩ ⟨by decide⟩ ⟨by decide⟩
    ⟨by decide⟩ ⟨by decide⟩ ⟨by decide⟩ ⟨by decide⟩ ⟨by decide⟩ ⟨by decide⟩ ⟨by decide⟩ ⟨by decide⟩ ⟨by decide⟩ ⟨by decide⟩ ⟨by decide⟩
    ⟨by decide⟩ ⟨by decide⟩ ⟨by decide⟩ ⟨by decide⟩ ⟨by decide⟩ ⟨by decide⟩ ⟨by decide⟩ ⟨by decide⟩ ⟨by decide⟩ ⟨by decide⟩ ⟨by decide⟩
    ⟨by decide⟩ ⟨by decide⟩ ⟨by decide⟩ ⟨by decide⟩ ⟨by decide⟩ ⟨by decide⟩ ⟨by decide⟩ ⟨by decide⟩ ⟨by decide⟩).rest .intake).resolve_left (by decide)


/-! ### A warm boot, from its base on -/

/-- A bundle taken as the boot copy. -/
def copyTaken (s : State) (bundle : Option Bytes) : State :=
  match bundle with | some b => modBoot s (fun x => { x with copy := some b }) | none => s

/-- The state that a warm boot's steps begin from: the root settled, the nonces drawn, and the bundle taken. -/
def warmStart (s : State) (bundle : Option Bytes) : State := copyTaken (drawNonces (warmRoot (warmBase s) s.keeper.breach)) bundle

/-- The steps of a warm boot. -/
def warmSteps (s : State) : State :=
  if s.fuses.lcs = 0xF then bootStep s 3
  else match s.boot.copy with
  | some b =>
    let r := comesUp (bootStep s 5)
    if r.1 then bootRun (bootStep r.2 6) b else stopBoot r.2 4
  | none => stopBoot (bootStep s 6) 5

theorem warmBoot_eq (s : State) (bundle : Option Bytes) : warmBoot s bundle = warmSteps (warmStart s bundle) := rfl

theorem bootGround_warmSteps (s : State) : bootGround (warmSteps s) = bootGround s := by
  unfold warmSteps
  refine bootGround_ite (bootGround_bootStep s 3) ?_
  split
  · refine bootGround_ite ?_ ?_
    · rw [bootGround_bootRun, bootGround_bootStep, bootGround_comesUp, bootGround_bootStep]
    · rw [bootGround_stopBoot, bootGround_comesUp, bootGround_bootStep]
  · rw [bootGround_stopBoot, bootGround_bootStep]

theorem warmSteps_supply (s : State) : (warmSteps s).supply = s.supply := by
  unfold warmSteps
  split
  · rfl
  · split
    · dsimp only
      split
      · exact supply_kept (bootRun_within _ _ (bootStep_within _ _ (comesUp_within _ (bootStep_within _ _ (Within.refl s)))))
      · rfl
    · rfl

/-- The supply of a warm boot's base. -/
def warmSupply (s : State) : Supply :=
  { s.supply with power := 1, pf := 0, buf := bufNow s, bufAt := 0, wakeLatched := none, earlyWake := none, held := [] }

theorem reRetireAll_supply (s : State) : (reRetireAll s).supply = s.supply := supply_kept (reRetireAll_within _ (Within.refl s))

theorem setHolds_supply (s : State) : (setHolds s).supply = s.supply := supply_kept (setHolds_within _ (Within.refl s))

theorem warmBase_supply (s : State) : (warmBase s).supply = warmSupply s := by
  have same : (endDebug s).supply = s.supply := supply_kept (endDebug_within s (Within.refl s))
  have now : (endDebug s).now = s.now := now_kept (endDebug_within s (Within.refl s))
  have buf : bufNow (endDebug s) = bufNow s := by rw [bufNow, bufNow, same, now]
  rw [warmSupply, ← same, ← buf]
  unfold warmBase
  generalize endDebug s = t
  dsimp only
  rw [reRetireAll_supply, setHolds_supply, regSet_supply, regSet_supply, regSet_supply]

theorem warmBase_tally (s : State) : (warmBase s).tally = s.tally :=
  tally_kept (warmBase_within s (Within.refl s))

theorem warmSteps_tally (s : State) : (warmSteps s).tally = s.tally := by
  unfold warmSteps
  split
  · rfl
  · split
    · dsimp only
      split
      · exact tally_kept (bootRun_within _ _ (bootStep_within _ _ (comesUp_within _ (bootStep_within _ _ (Within.refl s)))))
      · rfl
    · rfl

/-! ### Its start -/

theorem warmRoot_frame (s : State) (breach : Bool) : Within (· = .keeper) s (warmRoot s breach) :=
  have : Has (· = Part.keeper) .keeper := ⟨rfl⟩
  warmRoot_within _ _ (Within.refl _)

theorem copyTaken_kind (s : State) (bundle : Option Bytes) : (copyTaken s bundle).boot.kind = s.boot.kind := by
  unfold copyTaken
  split <;> rfl

theorem drawNonces_kind (s : State) : (drawNonces s).boot.kind = s.boot.kind := rfl

/-- What the start of a warm boot leaves as its base had it. -/
theorem warmStart_frame (s : State) (bundle : Option Bytes) : Within (· ∈ [Part.keeper, .free, .boot]) (warmBase s) (warmStart s bundle) := by
  have : Has (· ∈ [Part.keeper, .free, .boot]) .keeper := ⟨by decide⟩
  have : Has (· ∈ [Part.keeper, .free, .boot]) .free := ⟨by decide⟩
  have : Has (· ∈ [Part.keeper, .free, .boot]) .boot := ⟨by decide⟩
  have drawn : Within (· ∈ [Part.keeper, .free, .boot]) (warmBase s) (drawNonces (warmRoot (warmBase s) s.keeper.breach)) :=
    drawNonces_within _ (warmRoot_within _ _ (Within.refl _))
  unfold warmStart copyTaken
  split
  · exact modBoot_within _ _ drawn
  · exact drawn

theorem warmStart_kind (s : State) (bundle : Option Bytes) : (warmStart s bundle).boot.kind = (warmBase s).boot.kind := by
  have root : (warmRoot (warmBase s) s.keeper.breach).boot = (warmBase s).boot := (warmRoot_frame _ _).same .boot (by decide)
  rw [warmStart, copyTaken_kind, drawNonces_kind, root]

/-- What every warm boot leaves of the fuses, the supply, the clocks and the kind. -/
structure Warmed (s t : State) : Prop where
  fuses : t.fuses = bootLcs s.fuses
  supply : t.supply = warmSupply s
  now : t.now = 0
  tally : t.tally = s.tally
  kind : t.boot.kind = 3

theorem warmBoot_warms (s : State) (bundle : Option Bytes) : Warmed s (warmBoot s bundle) := by
  rw [warmBoot_eq]
  have frame := warmStart_frame s bundle
  obtain ⟨fuses, -, now, kind⟩ := by simpa only [bootGround, Prod.mk.injEq] using bootGround_warmBase s
  obtain ⟨stepFuses, -, stepNow, stepKind⟩ := by simpa only [bootGround, Prod.mk.injEq] using bootGround_warmSteps (warmStart s bundle)
  have startFuses : (warmStart s bundle).fuses = _ := (frame.same .fuses (by decide)).trans fuses
  have startNow : (warmStart s bundle).now = _ := (frame.same .now (by decide)).trans now
  have startSupply : (warmStart s bundle).supply = _ := (frame.same .supply (by decide)).trans (warmBase_supply s)
  have startTally : (warmStart s bundle).tally = _ := (frame.same .tally (by decide)).trans (warmBase_tally s)
  exact ⟨stepFuses.trans startFuses, (warmSteps_supply _).trans startSupply, stepNow.trans startNow, (warmSteps_tally _).trans startTally,
    stepKind.trans ((warmStart_kind s bundle).trans kind)⟩

end Sys2Proof.Machine
end

section
/-! Commands ended: of those that are picked none stays in flight (R26, R284, R419). -/

namespace Sys2Proof.Machine

open Sys2Proof.Claims

/-! ### Tables and their keys -/

theorem tget_of_mem {α : Type} [DecidableEq α] {d : α} : ∀ {lo : Option Nat} {t : Tab α} {k : Nat} {v : α}, tabWf d lo t = true → (k, v) ∈ t → tget d t k = v
  | _, (j, w) :: t, k, v, wf, listed => by
    obtain ⟨-, -, rest⟩ := (tabWf_cons _ j w t).1 wf
    rw [tget]
    rcases List.mem_cons.1 listed with same | later
    · cases same
      exact if_pos rfl
    · have apart : j ≠ k := fun same => absurd (tabWf_above rest _ later) (by simp [same])
      rw [if_neg apart]
      exact tget_of_mem rest later
where
  tabWf_above {j : Nat} {t : Tab α} (wf : tabWf d (some j) t = true) : ∀ kv ∈ t, j < kv.1 := by
    induction t generalizing j with
    | nil => exact fun _ listed => absurd listed (by simp)
    | cons x t ih =>
      obtain ⟨above, -, rest⟩ := (tabWf_cons _ x.1 x.2 t).1 wf
      intro kv listed
      rcases List.mem_cons.1 listed with rfl | later
      · exact above j rfl
      · exact Nat.lt_trans (above j rfl) (ih rest kv later)

/-- A key that reads as something else than the default is listed. -/
theorem mem_keys_of_tget {α : Type} {d : α} {t : Tab α} {k : Nat} (reads : tget d t k ≠ d) : (k, tget d t k) ∈ t := by
  induction t with
  | nil => exact absurd rfl reads
  | cons x t ih =>
    obtain ⟨j, w⟩ := x
    rw [tget] at reads ⊢
    by_cases same : j = k
    · rw [if_pos same, same]
      exact List.mem_cons_self
    · rw [if_neg same] at reads ⊢
      exact List.mem_cons_of_mem _ (ih reads)

/-! ### Commands of queues and of threads -/

/-- A queue without a picked command. -/
def QueueFree (f : Cmd → Bool) (s : State) (q : Nat) : Prop := ∀ c ∈ (cq s q).items, f c = false

/-- A thread without a picked command. -/
def ThreadFree (f : Cmd → Bool) (s : State) (t : Nat) : Prop :=
  (∀ c, (thr s t).current = some c → f c.cmd = false) ∧ ∀ x ∈ (thr s t).inbox, f x.2 = false

/-- The command queues in canonical form. -/
def QueuesWf (s : State) : Prop := tabWf cmdqInit none s.intake.cmdq = true

/-- Where no queue and no thread holds a picked command, none is in flight. -/
theorem allCmds_free {f : Cmd → Bool} {s : State} (wf : QueuesWf s) (queues : ∀ q, QueueFree f s q) (threads : ∀ t, ThreadFree f s t) :
    ∀ c ∈ allCmds s, f c = false := by
  intro c listed
  rcases List.mem_append.1 listed with queued | taken
  · obtain ⟨⟨q, x⟩, hq, hc⟩ := List.mem_flatMap.1 queued
    exact queues q c (by rw [cq, tget_of_mem wf hq]; exact hc)
  · obtain ⟨t, -, hc⟩ := List.mem_flatMap.1 taken
    rcases List.mem_append.1 hc with now | waits
    · cases current : (thr s t).current with
      | none => rw [current] at now; exact absurd now (by simp)
      | some x =>
        rw [current] at now
        rw [List.mem_singleton.1 now]
        exact (threads t).1 x current
    · obtain ⟨x, hx, rfl⟩ := List.mem_map.1 waits
      exact (threads t).2 x hx

/-! ### One command ended -/

/-- A command answered or discarded. -/
def endCmd (rcode : Option Nat) (s : State) (c : Cmd) : State := match rcode with | some r => answerRelease s c r | none => freeLines s c

theorem modCq_wf {s : State} (wf : QueuesWf s) (q : Nat) (f : CmdQueue → CmdQueue) : QueuesWf (modCq s q f) := tmod_wf (t := s.intake.cmdq) q f wf

theorem judgeHigh_wf {s : State} (wf : QueuesWf s) (q : Nat) : QueuesWf (judgeHigh s q) := by
  unfold judgeHigh
  dsimp only
  generalize (if kcHigh s.kc q < (cq s q).occ then true else if (cq s q).occ ≤ kcLow s.kc q then false else (cq s q).high) = h
  split
  · exact wf
  · rw [QueuesWf, setPressure_cmdq]
    exact modCq_wf wf q _

theorem freeLines_wf {s : State} (wf : QueuesWf s) (c : Cmd) : QueuesWf (freeLines s c) := judgeHigh_wf (modCq_wf wf _ _) _

theorem answer_cmdq (s : State) (c : Cmd) (r : Nat) : (answer s c r).intake.cmdq = s.intake.cmdq := by
  unfold answer
  dsimp only
  rw [storeResp_cmdq]
  split <;> rfl

theorem endCmd_wf {s : State} (wf : QueuesWf s) (rcode : Option Nat) (c : Cmd) : QueuesWf (endCmd rcode s c) := by
  cases rcode with
  | none => exact freeLines_wf wf c
  | some r => exact freeLines_wf (s := answer s c r) (by rw [QueuesWf, answer_cmdq]; exact wf) c

theorem endCmd_items (rcode : Option Nat) (s : State) (c : Cmd) (q : Nat) : (cq (endCmd rcode s c) q).items = (cq s q).items := by
  cases rcode with
  | none => exact freeLines_items s c q
  | some r => exact (freeLines_items _ c q).trans (congrArg CmdQueue.items (cq_of_cmdq (answer_cmdq s c r) q))

theorem endCmd_threads (rcode : Option Nat) (s : State) (c : Cmd) : (endCmd rcode s c).threads = s.threads := by
  cases rcode with
  | none => exact threads_kept (freeLines_within _ _ (Within.refl s))
  | some r => exact threads_kept (answerRelease_within _ _ _ (Within.refl s))

/-- Commands that have ended change no queue's items and no thread. -/
structure Ended (s t : State) : Prop where
  wf : QueuesWf s → QueuesWf t
  items : ∀ q, (cq t q).items = (cq s q).items
  threads : t.threads = s.threads

theorem endCmd_ended (rcode : Option Nat) (s : State) (c : Cmd) : Ended s (endCmd rcode s c) :=
  ⟨fun wf => endCmd_wf wf rcode c, endCmd_items rcode s c, endCmd_threads rcode s c⟩

theorem endEach_ended (rcode : Option Nat) (l : List Cmd) (s : State) : Ended s (l.foldl (endCmd rcode) s) := by
  induction l generalizing s with
  | nil => exact ⟨id, fun _ => rfl, rfl⟩
  | cons c l ih =>
    rw [List.foldl_cons]
    have one := endCmd_ended rcode s c
    have rest := ih (endCmd rcode s c)
    exact ⟨fun wf => rest.wf (one.wf wf), fun q => (rest.items q).trans (one.items q), rest.threads.trans one.threads⟩

/-! ### The commands of one queue and of one thread ended -/

/-- A queue's picked commands ended. -/
def endQueue (f : Cmd → Bool) (rcode : Option Nat) (s : State) (q : Nat) : State :=
  ((cq s q).items.filter f).foldl (endCmd rcode) (modCq s q (fun x => { x with items := x.items.filter (fun c => !f c) }))

/-- A thread's current command where it is picked. -/
def pickedNow (f : Cmd → Bool) (th : Thread) : List Cmd := match th.current with | some c => if f c.cmd then [c.cmd] else [] | none => []

/-- The picked commands of a thread. -/
def pickedOf (f : Cmd → Bool) (th : Thread) : List Cmd := pickedNow f th ++ (th.inbox.map (·.2)).filter f

/-- A thread without its picked commands. -/
def withoutPicked (f : Cmd → Bool) (th : Thread) : Thread :=
  { th with
    current := if pickedNow f th = [] then th.current else none
    inbox := th.inbox.filter (fun x => !f x.2) }

/-- A thread's picked commands ended. -/
def endHeld (f : Cmd → Bool) (rcode : Option Nat) (s : State) (t : Nat) : State :=
  (pickedOf f (thr s t)).foldl (endCmd rcode) (putThr s t (withoutPicked f (thr s t)))

theorem endCmds_eq (s : State) (f : Cmd → Bool) (rcode : Option Nat) :
    endCmds s f rcode = (busyThreads ((s.intake.cmdq.map (·.1)).foldl (endQueue f rcode) s)).foldl (endHeld f rcode)
      ((s.intake.cmdq.map (·.1)).foldl (endQueue f rcode) s) := rfl

theorem withoutPicked_free (f : Cmd → Bool) (th : Thread) : (∀ c, (withoutPicked f th).current = some c → f c.cmd = false) ∧
    ∀ x ∈ (withoutPicked f th).inbox, f x.2 = false := by
  refine ⟨fun c now => ?_, fun x listed => by simpa using (List.mem_filter.1 listed).2⟩
  unfold withoutPicked at now
  dsimp only at now
  split at now
  · rename_i none_
    rw [pickedNow, now] at none_
    exact Bool.eq_false_iff.2 fun picked => absurd ((if_pos picked).symm.trans none_) (by simp)
  · exact absurd now (by simp)

section

variable (f : Cmd → Bool) (rcode : Option Nat)

theorem endQueue_items (s : State) (q i : Nat) : (cq (endQueue f rcode s q) i).items =
    if i = q then (cq s q).items.filter (fun c => !f c) else (cq s i).items := by
  rw [endQueue, (endEach_ended rcode _ _).items]
  split
  · rename_i same
    rw [same, cq_modCq]
  · rename_i apart
    rw [cq_modCq_ne _ _ _ _ apart]

theorem endQueue_free (s : State) (q : Nat) : QueueFree f (endQueue f rcode s q) q := by
  intro c listed
  rw [endQueue_items, if_pos rfl] at listed
  simpa using (List.mem_filter.1 listed).2

theorem endQueue_keeps {s : State} {i : Nat} (free : QueueFree f s i) (q : Nat) : QueueFree f (endQueue f rcode s q) i := by
  intro c listed
  rw [endQueue_items] at listed
  split at listed
  · rename_i same
    exact free c (same ▸ (List.mem_filter.1 listed).1)
  · exact free c listed

theorem endQueue_wf {s : State} (wf : QueuesWf s) (q : Nat) : QueuesWf (endQueue f rcode s q) := (endEach_ended rcode _ _).wf (modCq_wf wf _ _)

theorem endQueue_threads (s : State) (q : Nat) : (endQueue f rcode s q).threads = s.threads := (endEach_ended rcode _ _).threads

theorem endHeld_ended (s : State) (t : Nat) : Ended (putThr s t (withoutPicked f (thr s t))) (endHeld f rcode s t) := endEach_ended rcode _ _

theorem putThr_cmdq (s : State) (t : Nat) (th : Thread) : (putThr s t th).intake.cmdq = s.intake.cmdq := by
  rw [intake_kept (putThr_within _ _ _ (Within.refl s))]

theorem endHeld_items (s : State) (t q : Nat) : (cq (endHeld f rcode s t) q).items = (cq s q).items := by
  rw [(endHeld_ended f rcode s t).items, cq_of_cmdq (putThr_cmdq _ _ _)]

theorem endHeld_wf {s : State} (wf : QueuesWf s) (t : Nat) : QueuesWf (endHeld f rcode s t) :=
  (endHeld_ended f rcode s t).wf (by rw [QueuesWf, putThr_cmdq]; exact wf)

theorem endHeld_thr (s : State) (t u : Nat) : thr (endHeld f rcode s t) u = thr (putThr s t (withoutPicked f (thr s t))) u :=
  thr_of_threads (endHeld_ended f rcode s t).threads u

theorem endHeld_free (s : State) (t : Nat) : ThreadFree f (endHeld f rcode s t) t := by
  rw [ThreadFree, endHeld_thr, putThr_self]
  exact withoutPicked_free f (thr s t)

theorem endHeld_keeps {s : State} {u : Nat} (free : ThreadFree f s u) (t : Nat) : ThreadFree f (endHeld f rcode s t) u := by
  by_cases same : u = t
  · rw [same]
    exact endHeld_free f rcode s t
  · rw [ThreadFree, endHeld_thr, putThr_ne _ _ _ _ same]
    exact free

end

/-! ### Every picked command ended -/

/-- A thread with nothing in hand is not busy. -/
theorem threadFree_of_idle {s : State} {t : Nat} (f : Cmd → Bool) (idle : t ∉ busyThreads s) : ThreadFree f s t := by
  by_cases listed : (t, thr s t) ∈ s.threads
  · have none_ : ¬ ((thr s t).inbox != [] || (thr s t).current.isSome) = true := fun busy =>
      idle (List.mem_map.2 ⟨_, List.mem_filter.2 ⟨listed, busy⟩, rfl⟩)
    obtain ⟨inbox, current⟩ : (thr s t).inbox = [] ∧ (thr s t).current = none := by simpa using none_
    rw [ThreadFree, inbox, current]
    exact ⟨fun _ h => absurd h (by simp), fun _ h => absurd h (by simp)⟩
  · have reset : thr s t = thrInit := Decidable.byContradiction fun reads => listed (mem_keys_of_tget reads)
    rw [ThreadFree, reset]
    exact ⟨fun _ h => absurd h (by simp [thrInit]), fun _ h => absurd h (by simp [thrInit])⟩

/-- A queue that is not listed holds nothing. -/
theorem queueFree_of_unlisted {s : State} {q : Nat} (f : Cmd → Bool) (unlisted : q ∉ s.intake.cmdq.map (·.1)) : QueueFree f s q := by
  have empty : cq s q = cmdqInit := Decidable.byContradiction fun reads => unlisted (List.mem_map.2 ⟨_, mem_keys_of_tget reads, rfl⟩)
  intro c listed
  rw [empty] at listed
  exact absurd listed (by simp [cmdqInit])

/-- R26: the commands that are picked are no more in flight. -/
theorem endCmds_free {s : State} (wf : QueuesWf s) (f : Cmd → Bool) (rcode : Option Nat) : QueuesWf (endCmds s f rcode) ∧
    (∀ q, QueueFree f (endCmds s f rcode) q) ∧ ∀ t, ThreadFree f (endCmds s f rcode) t := by
  rw [endCmds_eq]
  have queues : ∀ q, QueueFree f ((s.intake.cmdq.map (·.1)).foldl (endQueue f rcode) s) q := fun q => by
    by_cases listed : q ∈ s.intake.cmdq.map (·.1)
    · exact foldl_reaches (P := fun s => QueueFree f s q) (Q := fun _ => True) (fun _ _ h => h) (fun s _ => endQueue_free f rcode s q)
        (fun s i _ free => endQueue_keeps f rcode free i) listed trivial
    · exact foldl_keeps (P := fun s => QueueFree f s q) (fun s i free => endQueue_keeps f rcode free i) _ (queueFree_of_unlisted f listed)
  have wf1 : QueuesWf ((s.intake.cmdq.map (·.1)).foldl (endQueue f rcode) s) := foldl_keeps (P := QueuesWf) (fun s q wf => endQueue_wf f rcode wf q) _ wf
  generalize (s.intake.cmdq.map (·.1)).foldl (endQueue f rcode) s = u at queues wf1 ⊢
  refine ⟨foldl_keeps (P := QueuesWf) (fun s t wf => endHeld_wf f rcode wf t) _ wf1, fun q => ?_, fun t => ?_⟩
  · exact foldl_keeps (P := fun s => QueueFree f s q) (fun s t free c listed => free c (endHeld_items f rcode s t q ▸ listed)) _ (queues q)
  · by_cases listed : t ∈ busyThreads u
    · exact foldl_reaches (P := fun s => ThreadFree f s t) (Q := fun _ => True) (fun _ _ h => h) (fun s _ => endHeld_free f rcode s t)
        (fun s i _ free => endHeld_keeps f rcode free i) listed trivial
    · exact foldl_keeps (P := fun s => ThreadFree f s t) (fun s i free => endHeld_keeps f rcode free i) _ (threadFree_of_idle f listed)

theorem settle_threadFree {f : Cmd → Bool} {s : State} {t : Nat} (free : ThreadFree f s t) : ThreadFree f (settle s) t := by
  have current : (thr (settle s) t).current = (thr s t).current := settle_part s t (fun th => th.current) (fun _ _ _ _ => rfl)
  have inbox : (thr (settle s) t).inbox = (thr s t).inbox := settle_part s t (fun th => th.inbox) (fun _ _ _ _ => rfl)
  rw [ThreadFree, current, inbox]
  exact free

/-- Threads settled after commands have ended bring none of those back. -/
theorem settle_endCmds_free {s : State} (wf : QueuesWf s) (f : Cmd → Bool) (rcode : Option Nat) : ∀ c ∈ allCmds (settle (endCmds s f rcode)), f c = false := by
  obtain ⟨wf', queues, threads⟩ := endCmds_free wf f rcode
  have intake : (settle (endCmds s f rcode)).intake = (endCmds s f rcode).intake := (settle_frame _).same .intake (by decide)
  refine allCmds_free ?_ (fun q c listed => ?_) (fun t => settle_threadFree (threads t))
  · rw [QueuesWf, intake]
    exact wf'
  · rw [cq_of_intake intake] at listed
    exact queues q c listed

end Sys2Proof.Machine
end

section
/-! Mains lost and returned, power-fail and its end (R416, R419, R420, R441). -/

namespace Sys2Proof.Machine

open Sys2Proof.Claims

/-! ### Supply events -/

/-- A supply event reads 1 in PWR_EVT. -/
theorem pwrEvt_sets (s : State) {bit : Nat} (hb : bit < 64) : fldGet (pwrEvt s bit) .pwrEvt 0 bit bit = 1 := by
  have sets := fldGet_setBits s .pwrEvt 0 hb
  unfold pwrEvt
  dsimp only
  split
  · exact sets
  · rw [fldGet_of_regs (raise_zero_regs _ _), sets]

theorem pwrEvt_supply (s : State) (bit : Nat) : (pwrEvt s bit).supply = s.supply := supply_kept (pwrEvt_within _ _ (Within.refl s))

theorem pwrEvt_pins (s : State) (bit : Nat) : (pwrEvt s bit).pins = s.pins := pins_kept (pwrEvt_within _ _ (Within.refl s))

theorem setHolds_ready (s : State) : (setHolds s).pins.ready = s.pins.ready := by
  refine view_foldl (g := fun s => s.pins.ready) (fun s g => ?_) _ s
  unfold setHold
  dsimp only
  split <;> split <;> rfl

/-- A value that the supply measures lies within its bounds. -/
theorem measured_bounds (s : State) {lo hi : Nat} (h : lo ≤ hi) : lo ≤ (measured s lo hi).1 ∧ (measured s lo hi).1 ≤ hi := by
  have := Nat.mod_lt (freeWord s).1.toNat (show 0 < hi + 1 - lo by omega)
  rw [measured]
  dsimp only
  omega

/-! ### OFF (R420, R441) -/

/-- The device's own FINAL blows at most an epoch fuse. -/
theorem deviceFinal_fuses (s : State) : (deviceFinal s).fuses = s.fuses ∨ (deviceFinal s).fuses = (blowEpoch s).fuses := by
  unfold deviceFinal
  split
  · exact .inl rfl
  · refine .inr ?_
    dsimp only
    have made : (trailer (blowEpoch s) true (blowEpoch s).audit.tail.length).2.fuses = (blowEpoch s).fuses :=
      fuses_kept (trailer_within _ _ _ (Within.refl _))
    split
    · exact made
    · rw [emits_fuses, emits_fuses, made]
where
  emits_fuses (f : Nat → Out) (l : List Nat) (s : State) : (l.foldl (fun s i => emit s (f i)) s).fuses = s.fuses :=
    view_foldl (g := State.fuses) (f := fun s i => emit s (f i)) (fun _ _ => rfl) l s

/-- OFF, with the wear fuses and the life cycle of an earlier state. -/
structure OffFrom (s t : State) : Prop where
  power : t.supply.power = 0
  threads : t.threads = []
  slots : t.ks.slots = []
  mem : t.mem = []
  ready : t.pins.ready = false
  wear : ∀ k, tget 0 t.fuses.wear k = tget 0 s.fuses.wear k
  lcs : t.fuses.lcs = s.fuses.lcs

theorem powerOff_off {s t : State} (wear : t.fuses.wear = s.fuses.wear) (lcs : t.fuses.lcs = s.fuses.lcs) : OffFrom s (powerOff t) :=
  ⟨rfl, rfl, rfl, rfl, rfl, fun k => congrArg (tget 0 · k) wear, lcs⟩

theorem deviceFinal_wear (s : State) : (deviceFinal s).fuses.wear = s.fuses.wear ∧ (deviceFinal s).fuses.lcs = s.fuses.lcs := by
  rcases deviceFinal_fuses s with same | blown
  · rw [same]
    exact ⟨rfl, rfl⟩
  · rw [blown]
    exact ⟨rfl, rfl⟩

theorem powerOff_deviceFinal {s t : State} (fuses : t.fuses = s.fuses) : OffFrom s (powerOff (deviceFinal t)) := by
  obtain ⟨wear, lcs⟩ := deviceFinal_wear t
  exact powerOff_off (wear.trans (congrArg Fuses.wear fuses)) (lcs.trans (congrArg Fuses.lcs fuses))

/-! ### Mains (R416, R419) -/

/-- Mains lost while the device runs. -/
theorem mainsLost_runs {s : State} (runs : s.supply.power = 1 ∨ s.supply.power = 2) (mains : s.supply.mains = true) :
    (mainsLost s).supply.mains = false ∧ (mainsLost s).supply.mainsAt = s.tally ∧ fldGet (mainsLost s) .pwrEvt 0 0 0 = 1 ∧
      (mainsLost s).supply.pf = (if s.supply.pf = 0 then 1 else s.supply.pf) ∧ (mainsLost s).pins.ready = s.pins.ready ∧
      (mainsLost s).supply.charging = false := by
  unfold mainsLost
  rw [if_neg (by simp [mains]; omega), if_neg (by omega)]
  dsimp only
  rw [pwrEvt_supply, pwrEvt_pins]
  exact ⟨rfl, rfl, pwrEvt_sets _ (by decide), rfl, rfl, rfl⟩

theorem mainsLost_watch {s : State} (watch : s.supply.power = 3) (mains : s.supply.mains = true) :
    (mainsLost s).supply = { s.supply with mains := false, mainsAt := s.tally } := by
  unfold mainsLost
  rw [if_neg (by simp [mains, watch]), if_pos watch]
  rfl

/-- Mains back, outside OFF. -/
theorem mainsBack_reads {s : State} (on_ : s.supply.power ≠ 0) (absent : s.supply.mains = false) :
    (mainsBack s).supply.mains = true ∧ (mainsBack s).supply.mainsAt = s.tally ∧ 85 ≤ (mainsBack s).supply.vin ∧ (mainsBack s).supply.vin ≤ 265 ∧
      (s.supply.pf = 1 → (mainsBack s).supply.pf = 0 ∧ (s.supply.power ≠ 3 → fldGet (mainsBack s) .pwrEvt 0 1 1 = 1)) ∧
      (s.supply.pf ≠ 1 → (mainsBack s).supply.pf = s.supply.pf) := by
  unfold mainsBack
  rw [if_neg (by simp [on_, absent])]
  obtain ⟨low, high⟩ := measured_bounds s (lo := 85) (hi := 265) (by decide)
  extract_lets v b t
  have pf : t.supply.pf = s.supply.pf := rfl
  have power : t.supply.power = s.supply.power := rfl
  by_cases held : s.supply.pf = 1 ∧ s.supply.power ≠ 3
  · rw [if_pos (by rw [pf, power]; exact held), pwrEvt_supply]
    exact ⟨rfl, rfl, low, high, fun _ => ⟨rfl, fun _ => pwrEvt_sets _ (by decide)⟩, fun other => absurd held.1 other⟩
  · rw [if_neg (by rw [pf, power]; exact held)]
    refine ⟨rfl, rfl, low, high, fun one => ⟨if_pos one, fun awake => absurd ⟨one, awake⟩ held⟩, fun other => if_neg other⟩

/-! ### Power-fail (R419) -/

/-- A keyring's rail target brought under the ceilings of power-fail. -/
def railLowered (s : State) (i : Nat) : State := modKr s i (fun k => { k with ceil := effectiveCeil s i k, target := max 550 (min k.target 600) })

/-- Every rail target brought under its ceilings. -/
def railsLowered (s : State) : State := (List.range 16).foldl railLowered s

/-- Power-fail begun, with its supply event. -/
def powerFailing (s : State) : State := pwrEvt (modSupply s (fun x => { x with pf := 2, pfStart := s.now })) 2

theorem holdUpEnds_fails {s : State} (power : s.supply.power = 1) (held : s.supply.pf = 1) (long : s.supply.mainsAt + tallyMs 20 ≤ s.tally)
    (booted : 9 ≤ s.boot.step) : holdUpEnds s = powerRecord (railsLowered (readyLow (powerFailing s))) 1 := by
  unfold holdUpEnds
  rw [if_pos ⟨power, held, long⟩, if_neg (by omega)]
  rfl

theorem holdUpEnds_off {s : State} (power : s.supply.power = 1) (held : s.supply.pf = 1) (long : s.supply.mainsAt + tallyMs 20 ≤ s.tally)
    (early : s.boot.step < 9) : holdUpEnds s = powerOff s := by
  unfold holdUpEnds
  rw [if_pos ⟨power, held, long⟩, if_pos early]

theorem railsLowered_frame (s : State) : Within (· = .krs) s (railsLowered s) :=
  have : Has (· = Part.krs) .krs := ⟨rfl⟩
  within_foldl _ (Within.refl s) (fun _ _ h => modKr_within _ _ _ h)

theorem effectiveCeil_powerFail {s : State} (failing : s.supply.pf = 2) (i : Nat) (k : Keyring) : effectiveCeil s i k ≤ 600 := by
  have shed : shedCeil s = 600 := if_pos failing
  unfold effectiveCeil
  rw [shed]
  omega

theorem railsLowered_ceil {s : State} (failing : s.supply.pf = 2) {k : Nat} (hk : k < 16) : (kring (railsLowered s) k).ceil ≤ 600 := by
  refine foldl_reaches (P := fun s => (kring s k).ceil ≤ 600) (Q := fun s => s.supply.pf = 2) (f := railLowered) (a := k) (fun _ _ h => h) (fun s h => ?_)
    (fun s i h low => ?_) (List.mem_range.2 hk) failing
  · rw [railLowered, kring_modKr]
    exact effectiveCeil_powerFail h _ _
  · by_cases same : k = i
    · rw [same, railLowered, kring_modKr]
      exact effectiveCeil_powerFail h _ _
    · rw [railLowered, kring_modKr_ne _ _ _ _ same]
      exact low

/-- What a record depends on. -/
theorem auditFull_congr {s t : State} (audit_ : t.audit = s.audit) (engs : t.engs = s.engs) : auditFull t = auditFull s := by
  rw [auditFull, auditFull, auditHeld, auditHeld, audit_, engs]

/-- A record is the tail's next entry where the record has room. -/
theorem audit_next {s t : State} (audit_ : t.audit = s.audit) (engs : t.engs = s.engs) (room : auditFull s = false) (none_ : s.audit.summaries = [])
    (source part kind : Nat) (body : Bytes) : ∃ r, (audit t source part kind body).audit.tail = s.audit.tail ++ [r] ∧ r.kind = kind ∧
      r.source = source ∧ r.body = padTo 64 body := by
  rw [audit_of_room ((auditFull_congr audit_ engs).trans room) (by rw [audit_, none_]), ← audit_]
  exact ⟨_, rfl, rfl, rfl, rfl⟩

/-- READY low after the supply event. -/
def powerFailLow (s : State) : State := railsLowered (readyLow (powerFailing s))

/-- The parts that the entry changes before its record. -/
def powerFailParts : List Part := [.supply, .regs, .threads, .srcs, .pins, .intake, .krs]

theorem powerFailLow_frame (s : State) : Within (· ∈ powerFailParts) s (powerFailLow s) := by
  have has (p : Part) (hp : p ∈ powerFailParts) : Has (· ∈ powerFailParts) p := has_mem hp
  have : Has (· ∈ powerFailParts) .krs := has _ (by decide)
  exact within_foldl _ (@readyLow_within _ (has _ (by decide)) (has _ (by decide)) _ _ (@pwrEvt_within _ (has _ (by decide)) (has _ (by decide))
    (has _ (by decide)) _ _ _ (@modSupply_within _ (has _ (by decide)) _ _ _ (Within.refl s)))) (fun _ _ h => modKr_within _ _ _ h)

theorem readyLow_supply (s : State) : (readyLow s).supply = s.supply := supply_kept (readyLow_within _ (Within.refl s))

theorem readyLow_regs (s : State) : (readyLow s).regs = s.regs := regs_kept (readyLow_within _ (Within.refl s))

theorem powerFailLow_supply (s : State) : (powerFailLow s).supply = { s.supply with pf := 2, pfStart := s.now } := by
  rw [powerFailLow, (railsLowered_frame _).same .supply (by decide), readyLow_supply, powerFailing, pwrEvt_supply]
  rfl

theorem powerFailLow_evt (s : State) : fldGet (powerFailLow s) .pwrEvt 0 2 2 = 1 := by
  have regs : (powerFailLow s).regs = (powerFailing s).regs := ((railsLowered_frame _).same .regs (by decide)).trans (readyLow_regs _)
  rw [fldGet_of_regs regs]
  exact pwrEvt_sets _ (by decide)

theorem powerFailLow_pins (s : State) : (powerFailLow s).pins.ready = false ∧ ∀ g, g < 8 → nth false (powerFailLow s).pins.holdN g = false := by
  have pins : (powerFailLow s).pins = (readyLow (powerFailing s)).pins := (railsLowered_frame _).same .pins (by decide)
  rw [pins]
  exact ⟨setHolds_ready _, fun g hg => setHolds_falls (by rw [holdLow]; rfl) hg⟩

theorem powerFailLow_ceil (s : State) {k : Nat} (hk : k < 16) : (kring (powerFailLow s) k).ceil ≤ 600 :=
  railsLowered_ceil (by rw [readyLow_supply, powerFailing, pwrEvt_supply]; rfl) hk

/-- What the entry into power-fail leaves: READY and HOLD_N low, ceilings of 600 mV, and a record. -/
theorem powerFail_enters {s t : State} (record : t = powerRecord (powerFailLow s) 1) :
    t.supply.pf = 2 ∧ t.supply.pfStart = s.now ∧ t.pins.ready = false ∧ fldGet t .pwrEvt 0 2 2 = 1 ∧ (∀ k, k < 16 → (kring t k).ceil ≤ 600) ∧
      (∀ g, g < 8 → nth false t.pins.holdN g = false) ∧
      (auditFull s = false → s.audit.summaries = [] → ∃ r, t.audit.tail = s.audit.tail ++ [r] ∧ r.kind = 0x11) := by
  have recorded : Within (· = .audit) (powerFailLow s) t := record ▸ audit_frame _ _ _ _ _
  have frame := powerFailLow_frame s
  have same : t.supply = (powerFailLow s).supply := recorded.same .supply (by decide)
  have supply := same.trans (powerFailLow_supply s)
  have pins : t.pins = (powerFailLow s).pins := recorded.same .pins (by decide)
  have krs : t.krs = (powerFailLow s).krs := recorded.same .krs (by decide)
  have regs : t.regs = (powerFailLow s).regs := recorded.same .regs (by decide)
  have audit_ : (powerFailLow s).audit = s.audit := frame.same .audit (by decide)
  have engs : (powerFailLow s).engs = s.engs := frame.same .engs (by decide)
  obtain ⟨ready, holds⟩ := powerFailLow_pins s
  refine ⟨by rw [supply], by rw [supply], by rw [pins, ready], ?_, fun k hk => ?_, fun g hg => by rw [pins, holds g hg], fun room none_ => ?_⟩
  · rw [fldGet_of_regs regs, powerFailLow_evt]
  · have same : kring t k = kring (powerFailLow s) k := by rw [kring, kring, krs]
    rw [same]
    exact powerFailLow_ceil s hk
  · obtain ⟨r, tail, kind, -⟩ := audit_next audit_ engs room none_ 4 0xFF 0x11 [byte 1]
    rw [record]
    exact ⟨r, tail, kind⟩

/-- Commands in flight when power-fail began are answered after 10 ms. -/
theorem releaseLimit_ends {s : State} (failing : s.supply.pf = 2) (late : s.supply.pfStart + 10 ^ 7 ≤ s.now) (wf : QueuesWf s) :
    ∀ c ∈ allCmds (releaseLimit s), s.supply.pfStart < c.arrival := by
  have ends : releaseLimit s = settle (endCmds s (fun c => decide (c.arrival ≤ s.supply.pfStart)) (some 0xE2)) := if_pos ⟨failing, late⟩
  rw [ends]
  intro c flies
  have free := settle_endCmds_free wf _ _ c flies
  exact Nat.lt_of_not_le (of_decide_eq_false free)

/-! ### The end of power-fail (R420) -/

/-- The supply and the record of a device that boots again after power-fail. -/
def powerBack (s : State) : State :=
  modSupply (powerRecord (measured s 0 (bufNow s)).2 2) (fun x => { x with buf := (measured s 0 (bufNow s)).1, bufAt := s.now, charging := true })

theorem powerFailEnds_boots {s : State} (failing : s.supply.pf = 2) (mains : s.supply.mains = true) (long : s.supply.mainsAt + tallyMs 5 ≤ s.tally) :
    powerFailEnds s = warmBoot (powerBack s) none := by
  unfold powerFailEnds
  rw [if_neg (by simp [failing]), if_pos ⟨mains, long⟩]
  rfl

theorem powerFailEnds_off {s : State} (failing : s.supply.pf = 2) (short : s.supply.mains = false ∨ s.tally < s.supply.mainsAt + tallyMs 5) :
    powerFailEnds s = powerOff (deviceFinal (powerRecord s 3)) := by
  unfold powerFailEnds
  rw [if_neg (by simp [failing]), if_neg]
  rintro ⟨mains, long⟩
  rcases short with absent | short
  · rw [absent] at mains
    cases mains
  · omega

/-- The end of power-fail changes no supply outside it. -/
theorem powerFailEnd_idle {s : State} (other : s.supply.pf ≠ 2) :
    (if s.supply.pfStart + 200 * 10 ^ 6 ≤ s.now then quietSettle (powerFailEnds s) else s).supply = s.supply := by
  have idle : powerFailEnds s = s := if_pos other
  rw [idle]
  split
  · exact supply_kept (quietSettle_within _ (Within.refl s))
  · rfl

theorem powerBack_tally (s : State) : (powerBack s).tally = s.tally :=
  tally_kept (modSupply_within _ _ (powerRecord_within _ _ (measured_within _ _ _ (Within.refl s))))

/-- What a warm boot leaves once the quiet state's causes are met. -/
theorem quietSettle_warmed {s t : State} (warmed : Warmed s t) : Warmed s (quietSettle t) := by
  obtain ⟨fuses, -, now, kind⟩ := by simpa only [bootGround, Prod.mk.injEq] using bootGround_quietSettle t
  exact ⟨fuses.trans warmed.fuses, (supply_kept (quietSettle_within _ (Within.refl t))).trans warmed.supply, now.trans warmed.now,
    (tally_kept (quietSettle_within _ (Within.refl t))).trans warmed.tally, kind.trans warmed.kind⟩

/-- Settles O38: each event of the supply as its own lemma says it. -/
theorem supplyEvents : Obligations.SupplyEvents := by
  unfold Obligations.SupplyEvents
  intro s x evt off
  have isOff : ∀ {t : State}, OffFrom s t → off t := fun h => ⟨h.power, h.threads, h.slots, h.mem, h.ready, h.wear, h.lcs⟩
  have fails : ∀ {i : Instr}, exec i s = .next (quietSettle (powerFailEnds s)) → x.pf = 2 →
      (x.mains = true → x.mainsAt + tallyMs 5 ≤ s.tally → s.faults.quietDue = none → s.fuses.lcs ≠ 0xF → Completes i s (fun s' =>
        s'.supply.pf = 0 ∧ s'.supply.power = 1 ∧ s'.boot.kind = 3 ∧ s'.now = 0 ∧ s'.tally = s.tally)) ∧
      ((x.mains = false ∨ s.tally < x.mainsAt + tallyMs 5) → Completes i s off) := fun runs failing => by
    refine ⟨fun mains long _ _ => ?_, fun short => ?_⟩
    · have warmed := quietSettle_warmed (warmBoot_warms (powerBack s) none)
      rw [powerFailEnds_boots failing mains long] at runs
      exact ⟨_, runs, by rw [warmed.supply]; rfl, by rw [warmed.supply]; rfl, warmed.kind, warmed.now, warmed.tally.trans (powerBack_tally s)⟩
    · rw [powerFailEnds_off failing short] at runs
      exact ⟨_, runs, isOff (powerOff_deviceFinal (fuses_kept (powerRecord_within _ _ (Within.refl s))))⟩
  refine ⟨fun runs mains => ?_, fun watch mains => ⟨_, rfl, mainsLost_watch watch mains⟩, fun on_ absent => ⟨_, rfl, mainsBack_reads on_ absent⟩,
    fun power held long => ⟨fun booted => completes_to rfl (holdUpEnds_fails power held long booted) (powerFail_enters rfl),
      fun early => completes_to rfl (holdUpEnds_off power held long early) (isOff (powerOff_off rfl rfl))⟩,
    fun short => completes_same rfl (if_neg (fun h => absurd h.2.2 (Nat.not_le.2 short))), fun failing late wf _ => ⟨_, rfl, releaseLimit_ends failing late wf⟩,
    ⟨fails rfl, fun failing late => fails (congrArg Host.Outcome.next (if_pos late)) failing⟩, fun p other => ?_, fun other => ?_,
    fun watch absent long => completes_to rfl (watchMainsGone_off watch absent long) (isOff (powerOff_deviceFinal rfl)), fun other => ?_⟩
  · obtain ⟨mains', at_, evt0, pf, ready, charging⟩ := mainsLost_runs runs mains
    exact ⟨_, rfl, mains', at_, evt0, pf, ready, charging⟩
  · exact completes_same rfl (if_neg (fun zero => other (Fin.ext zero)))
  · exact completes_to rfl rfl (powerFailEnd_idle other)
  · refine completes_same rfl (if_neg fun h => ?_)
    rcases other with other | mains
    · exact other h.1
    · rw [mains] at h
      exact absurd h.2.1 (by decide)

end Sys2Proof.Machine
end

section
/-! Flat draw, the governor, wear, REST and DOZE (R423 to R434). -/

namespace Sys2Proof.Machine

open Sys2Proof.Claims

/-! ### Events and fields -/

/-- A supply event reaches registers, and the threads and the source that it raises. -/
theorem pwrEvt_frame (s : State) (bit : Nat) : Within (· ∈ [Part.regs, .threads, .srcs]) s (pwrEvt s bit) :=
  @pwrEvt_within _ ⟨by decide⟩ ⟨by decide⟩ ⟨by decide⟩ _ _ _ (Within.refl s)

/-- A supply event stands when another one follows. -/
theorem pwrEvt_stays {s : State} {i : Nat} (bit : Nat) (set_ : fldGet s .pwrEvt 0 i i = 1) : fldGet (pwrEvt s bit) .pwrEvt 0 i i = 1 := by
  have stays : fldGet (setBits s .pwrEvt 0 (maskOf bit bit)) .pwrEvt 0 i i = 1 := by
    have before : (regGet s .pwrEvt 0).getLsbD i = true := by
      rw [fldGet, fld_bit] at set_
      exact Decidable.byContradiction fun off => by rw [Bool.eq_false_iff.2 off] at set_; cases set_
    rw [fldGet, setBits, regGet_regSet, fld_bit, BitVec.getLsbD_or, before, Bool.true_or]
    rfl
  unfold pwrEvt
  dsimp only
  split
  · exact stays
  · rw [fldGet_of_regs (raise_zero_regs _ _), stays]

/-! ### Flat draw (R423, R424) -/

theorem ceilEight_bounds (n : Int) {d : Nat} (hd : 0 < d) : ∃ q : Int, ceilEight n d = 8 * q ∧ n ≤ 8 * q * d ∧ 8 * q * d < n + 8 * d := by
  refine ⟨(n + 8 * d - 1) / (8 * d), rfl, ?_, ?_⟩
  all_goals
    have pos : (0 : Int) < 8 * d := by omega
    have split_ := Int.emod_add_mul_ediv (n + 8 * d - 1) (8 * d)
    have low := Int.emod_nonneg (n + 8 * d - 1) (Int.ne_of_gt pos)
    have high := Int.emod_lt_of_pos (n + 8 * d - 1) pos
    have turned : 8 * ((n + 8 * d - 1) / (8 * d)) * d = 8 * d * ((n + 8 * d - 1) / (8 * d)) := by ring
    omega

/-- TRACK's input power, and its place between the clamps. -/
theorem trackPower_bounds (mean buf : Nat) {w : Nat} (hw : 0 < w) : 38 ≤ trackPower mean buf w ∧ trackPower mean buf w ≤ 280 ∧
    (38 < trackPower mean buf w → trackPower mean buf w < 280 → trackPower mean buf w % 8 = 0 ∧
      ((mean * w : Nat) : Int) + (70 - buf) * 1000 ≤ trackPower mean buf w * w ∧
      trackPower mean buf w * w < ((mean * w : Nat) : Int) + (70 - buf) * 1000 + 8 * w) := by
  obtain ⟨q, eq, low, high⟩ := ceilEight_bounds (((mean * w : Nat) : Int) + (70 - (buf : Int)) * 1000) hw
  have power : trackPower mean buf w = (max 38 (min 280 (8 * q))).toNat := by rw [trackPower, eq]
  rw [power]
  refine ⟨by omega, by omega, fun above below => ?_⟩
  have same : (((max 38 (min 280 (8 * q))).toNat : Nat) : Int) = 8 * q := by omega
  refine ⟨by omega, ?_, ?_⟩
  · rw [same]
    exact low
  · rw [same]
    exact high

/-- The buffer's energy at the end of a window, before its limits. -/
def windowEnergy (s : State) (mean w : Nat) : Int := bufNow s + ((s.supply.pin : Int) - mean) * w / 1000

/-- Whether a window ends at the lower limit with its load above its input. -/
def windowLow (s : State) (mean w : Nat) : Bool := decide (windowEnergy s mean w ≤ 40) && decide (s.supply.pin < mean)

/-- Whether every rail is at its floor. -/
def railsAtFloor (s : State) : Bool := (List.range 16).all (fun i => (kring s i).rail == 550)

/-- The supply at the end of a window. -/
def windowSupply (s : State) (mean w : Nat) (shedCeil : Nat) : Supply :=
  { s.supply with
    buf := (max 40 (min 100 (windowEnergy s mean w))).toNat, bufAt := s.now, charging := false
    ballast := decide (100 ≤ windowEnergy s mean w) && decide (mean < s.supply.pin), shed := windowLow s mean w
    shedCeil := shedCeil
    pin := if windowLow s mean w && railsAtFloor s then mean else trackPower mean (max 40 (min 100 (windowEnergy s mean w))).toNat w }

theorem flatBoundary_tracks {s : State} (track : fldGet s .pwrFlat 0 63 60 = 1) (active : flatActive s = true) (mean : Nat) :
    ∃ c, (flatBoundary s mean).supply = windowSupply s mean (fldGet s .pwrFlat 0 47 32) c ∧
      ((windowLow s mean (fldGet s .pwrFlat 0 47 32) && railsAtFloor s) = true → fldGet (flatBoundary s mean) .pwrEvt 0 7 7 = 1) := by
  unfold flatBoundary
  rw [if_neg (by simp [track, active])]
  extract_lets e buf full low c floor drawn t
  have same : drawn = { s with free := drawn.free } := by
    unfold drawn
    split <;> rfl
  have supply : t.supply = windowSupply s mean (fldGet s .pwrFlat 0 47 32) t.supply.shedCeil := by
    unfold t
    rw [same]
    rfl
  refine ⟨t.supply.shedCeil, ?_, fun both => ?_⟩
  · split
    · exact (pwrEvt_supply t 7).trans supply
    · exact supply
  · have sheds : (low && floor) = true := both
    rw [if_pos sheds]
    exact pwrEvt_sets _ (by decide)

/-- R423: a window's end in TRACK. -/
theorem flatWindow_acts {s : State} (track : fldGet s .pwrFlat 0 63 60 = 1) (active : flatActive s = true) {w : Nat} (window : fldGet s .pwrFlat 0 47 32 = w)
    (mean : Nat) : ∃ x, (flatBoundary s mean).supply = x ∧ 40 ≤ x.buf ∧ x.buf ≤ 100 ∧
      (¬ (x.shed = true ∧ ∀ i, i < 16 → (kring s i).rail = 550) → x.pin = trackPower mean x.buf w) ∧
      ((x.shed = true ∧ ∀ i, i < 16 → (kring s i).rail = 550) → x.pin = mean ∧ fldGet (flatBoundary s mean) .pwrEvt 0 7 7 = 1) := by
  obtain ⟨c, supply, evt⟩ := flatBoundary_tracks track active mean
  rw [window] at supply evt
  have floors : railsAtFloor s = true ↔ ∀ i, i < 16 → (kring s i).rail = 550 := by
    simp only [railsAtFloor, List.all_eq_true, List.mem_range, beq_iff_eq]
  have both : (windowLow s mean w && railsAtFloor s) = true ↔ (windowSupply s mean w c).shed = true ∧ ∀ i, i < 16 → (kring s i).rail = 550 := by
    rw [Bool.and_eq_true, floors]
    rfl
  refine ⟨_, supply, ?_, ?_, fun other => if_neg (fun h => other (both.1 h)), fun sheds => ⟨if_pos (both.2 sheds), evt (both.2 sheds)⟩⟩
  · change 40 ≤ (max 40 (min 100 (windowEnergy s mean w))).toNat
    omega
  · change (max 40 (min 100 (windowEnergy s mean w))).toNat ≤ 100
    omega

/-! ### The governor's tick (R425 to R428) -/

/-- A keyring at a tick: its rail has reached the target, and wear has accrued. -/
def wornKr (k : Keyring) (temp : Int) (ro : Nat) : Keyring :=
  { k with
    rail := k.target, temp := temp, speed := ro, spent := k.spent + wearRate k.target temp
    samples := if k.learn then k.samples + 1 else k.samples
    exhausted := k.exhausted || decide (wearLife * wearHour ≤ k.spent + wearRate k.target temp) }

/-- A keyring after a tick. -/
def tickedKr (s : State) (i demand : Nat) (temp : Int) (ro : Nat) : Keyring :=
  let k1 := wornKr (kring s i) temp ro
  { k1 with
    hold := holdNow k1, target := governorTarget s i k1 demand, ceil := effectiveCeil s i k1
    thermFlag := decide (thermalCeil temp < 950), wearFlag := decide (wearCeil k1 < 950), shedFlag := s.supply.shed }

/-- The thermal event of a tick. -/
def thermEvent (s : State) (i demand : Nat) (temp : Int) (ro : Nat) : State :=
  let t := modKr s i (fun _ => tickedKr s i demand temp ro)
  if (tickedKr s i demand temp ro).thermFlag != (kring s i).thermFlag || holdNow (wornKr (kring s i) temp ro) != (kring s i).hold then pwrEvt t 5 else t

/-- Whether a tick exhausts a ledger's balance or its life. -/
def exhausts (k : Keyring) (temp : Int) (ro : Nat) : Bool :=
  ((wornKr k temp ro).exhausted && !k.exhausted) || (decide (0 < balance k) && decide (balance (wornKr k temp ro) ≤ 0))

theorem governorTick_eq {s : State} (runs : s.supply.power = 1 ∨ s.supply.power = 2) (i demand : Nat) (temp : Int) (ro : Nat) :
    governorTick s i demand temp ro =
      if exhausts (kring s i) temp ro then pwrEvt (thermEvent s i demand temp ro) 6 else thermEvent s i demand temp ro := by
  unfold governorTick
  rw [if_neg (by omega)]
  rfl

theorem pwrEvt_kring (s : State) (bit i : Nat) : kring (pwrEvt s bit) i = kring s i := by
  have krs : (pwrEvt s bit).krs = s.krs := (pwrEvt_frame s bit).same .krs (by decide)
  rw [kring, kring, krs]

theorem thermEvent_kring (s : State) (i demand : Nat) (temp : Int) (ro : Nat) : kring (thermEvent s i demand temp ro) i = tickedKr s i demand temp ro := by
  unfold thermEvent
  dsimp only
  split
  · rw [pwrEvt_kring, kring_modKr]
  · rw [kring_modKr]

theorem settle_kring (s : State) (i : Nat) : kring (settle s) i = kring s i := by
  have krs : (settle s).krs = s.krs := (settle_frame s).same .krs (by decide)
  rw [kring, kring, krs]

/-- R425: the keyring after a tick, and its events. -/
theorem governorTick_acts {s : State} (runs : s.supply.power = 1 ∨ s.supply.power = 2) (i demand : Nat) (temp : Int) (ro : Nat) :
    kring (settle (governorTick s i demand temp ro)) i = tickedKr s i demand temp ro ∧
      (thermalCeil temp < 950 → (kring s i).thermFlag = false → fldGet (settle (governorTick s i demand temp ro)) .pwrEvt 0 5 5 = 1) ∧
      (0 < balance (kring s i) → balance (wornKr (kring s i) temp ro) ≤ 0 → fldGet (settle (governorTick s i demand temp ro)) .pwrEvt 0 6 6 = 1) := by
  rw [governorTick_eq runs, settle_kring]
  simp only [fldGet_of_regs ((settle_frame _).same .regs (by decide))]
  have therm : thermalCeil temp < 950 → (kring s i).thermFlag = false → fldGet (thermEvent s i demand temp ro) .pwrEvt 0 5 5 = 1 := fun hot clear => by
    have rises : (tickedKr s i demand temp ro).thermFlag = true := decide_eq_true hot
    unfold thermEvent
    dsimp only
    rw [rises, clear]
    exact pwrEvt_sets _ (by decide)
  refine ⟨?_, fun hot clear => ?_, fun above below => ?_⟩
  · split
    · rw [pwrEvt_kring, thermEvent_kring]
    · exact thermEvent_kring s i demand temp ro
  · split
    · exact pwrEvt_stays 6 (therm hot clear)
    · exact therm hot clear
  · rw [if_pos (by simp [exhausts, above, below])]
    exact pwrEvt_sets _ (by decide)

/-! ### The ledger (R428 to R430) -/

/-- One keyring's grant and its record. -/
def ledgerOne (s : State) (i : Nat) : State := audit (modKr s i grantHour) 4 0xFF 0x10 (ledgerBody i (kring (modKr s i grantHour) i))

theorem ledgerHour_eq {s : State} (on_ : s.supply.power ≠ 0) : ledgerHour s = (List.range 16).foldl ledgerOne s := by
  unfold ledgerHour
  rw [if_neg on_]
  rfl

theorem ledgerOne_kring (s : State) (i k : Nat) : kring (ledgerOne s i) k = if k = i then grantHour (kring s k) else kring s k := by
  have krs : (ledgerOne s i).krs = (modKr s i grantHour).krs := (audit_frame _ _ _ _ _).same .krs (by decide)
  have same : kring (ledgerOne s i) k = kring (modKr s i grantHour) k := by rw [kring, kring, krs]
  rw [same]
  split
  · rename_i here
    rw [here, kring_modKr]
  · rename_i apart
    rw [kring_modKr_ne _ _ _ _ apart]

/-- Each listed keyring is granted once. -/
theorem ledgerOnes_kring {l : List Nat} (once : l.Nodup) (s : State) (k : Nat) :
    kring (l.foldl ledgerOne s) k = if k ∈ l then grantHour (kring s k) else kring s k := by
  induction l generalizing s with
  | nil => rfl
  | cons i l ih =>
    obtain ⟨fresh, rest⟩ := List.nodup_cons.1 once
    rw [List.foldl_cons, ih rest, ledgerOne_kring]
    by_cases here : k = i
    · rw [here, if_neg fresh, if_pos rfl, if_pos List.mem_cons_self]
    · simp [here]

theorem grantHour_balance (k : Keyring) : balance (grantHour k) = min (balance k + wearHour) (2000 * wearHour) ∧ (grantHour k).spent = k.spent := by
  refine ⟨?_, rfl⟩
  unfold balance grantHour
  dsimp only
  omega

theorem freeBytes_length (s : State) (n : Nat) : (freeBytes s n).1.length = n := by
  induction n generalizing s with
  | zero => rfl
  | succ n ih =>
    rw [freeBytes]
    exact congrArg Nat.succ (ih _)

theorem learningEnd_ends {s : State} {i : Nat} (learns : (kring s i).learn = true) (long : 600000 ≤ (kring s i).samples) :
    (kring (learningEnd s i) i).learn = false ∧ (kring (learningEnd s i) i).history.length = 128 := by
  unfold learningEnd
  rw [if_pos ⟨learns, long⟩]
  dsimp only
  rw [kring_modKr]
  exact ⟨rfl, freeBytes_length s 128⟩

theorem blowWear_blows {s : State} {i : Nat} (mains : s.supply.mains = true) (energy : 40 < bufNow s) (room : tget 0 s.fuses.wear i < 4096)
    (due : 64 * (tget 0 s.fuses.wear i + 1) ≤ spentHours (kring s i)) : tget 0 (blowWear s i).fuses.wear i = tget 0 s.fuses.wear i + 1 := by
  unfold blowWear
  rw [if_pos ⟨mains, energy, room, due⟩]
  exact tget_tset_self (d := 0) s.fuses.wear i (tget 0 s.fuses.wear i + 1)

theorem blowWear_waits {s : State} {i : Nat} (why : s.supply.mains = false ∨ bufNow s ≤ 40 ∨ spentHours (kring s i) < 64 * (tget 0 s.fuses.wear i + 1)) :
    blowWear s i = s := by
  unfold blowWear
  refine if_neg fun ⟨mains, energy, _, due⟩ => ?_
  rcases why with absent | low | early
  · rw [absent] at mains
    cases mains
  · omega
  · omega

/-! ### REST and DOZE (R432 to R434) -/

theorem restEnter_rests {s : State} {c : Nat} (runs : running s = true) (restful_ : ∀ i, i < 16 → restful (thr s (16 * c + i)) = true) :
    (cyl (restEnter s c) c).rest = true := by
  unfold restEnter
  split
  · rw [cyl_modCyl]
  · rename_i stays
    have all_ : (List.range 16).all (fun i => restful (thr s (16 * c + i))) = true := List.all_eq_true.2 fun i hi => restful_ i (List.mem_range.1 hi)
    simpa [runs, all_] using stays

theorem restLeave_leaves (s : State) (c : Nat) : (cyl (restLeave s c) c).rest = false := by
  unfold restLeave
  split
  · have cyls : (settle (modCyl s c (fun x => { x with rest := false }))).cyls = (modCyl s c (fun x => { x with rest := false })).cyls :=
      (settle_frame _).same .cyls (by decide)
    rw [cyl, cyls, ← cyl, cyl_modCyl]
  · rename_i awake
    exact Bool.eq_false_iff.2 awake

/-- What a keyring waits for before DOZE. -/
def dozeIdle (s : State) (k : Nat) : Bool :=
  ((List.range 8).map (fun i => 8 * k + i)).all (fun c => (cyl s c).rest || (List.range 4).all (fun q => kcQuad s.kc (4 * c + q) == nobody)) &&
    (List.range 9).all (fun e => (eng s (9 * k + e)).queue == []) &&
    (krChans k).all (fun c => (chan s c).state != 1) &&
    (List.range 128).all (fun i => (thr s (128 * k + i)).arch.ops.all (fun o => match o.kind with | .blank _ _ => false | _ => true)) &&
    (kring s k).walks == 0

theorem dozeEnter_eq (s : State) (k : Nat) :
    dozeEnter s k = if running s && !(kring s k).doze && dozeIdle s k then modKr s k (fun x => { x with doze := true, gated := true }) else s := rfl

theorem dozeEnter_dozes {s : State} {k : Nat} (runs : running s = true) (awake : (kring s k).doze = false) (rest : ∀ c, c < 8 → (cyl s (8 * k + c)).rest = true)
    (queues : ∀ e, e < 9 → (eng s (9 * k + e)).queue = []) (chans : ∀ c ∈ krChans k, (chan s c).state ≠ 1) (walks : (kring s k).walks = 0)
    (ops : ∀ i, i < 128 → (thr s (128 * k + i)).arch.ops = []) : (kring (dozeEnter s k) k).doze = true ∧ (kring (dozeEnter s k) k).gated = true := by
  have idle : dozeIdle s k = true := by
    simp only [dozeIdle, Bool.and_eq_true, List.all_eq_true, List.mem_map, List.mem_range, beq_iff_eq, bne_iff_ne]
    refine ⟨⟨⟨⟨?_, fun e he => queues e he⟩, fun c hc => chans c hc⟩, fun i hi o ho => ?_⟩, walks⟩
    · rintro _ ⟨c, hc, rfl⟩
      rw [rest c hc]
      rfl
    · rw [ops i hi] at ho
      exact absurd ho (by simp)
  rw [dozeEnter_eq, if_pos (by rw [runs, awake, idle]; rfl), kring_modKr]
  exact ⟨rfl, rfl⟩

theorem dozeEnter_waits {s : State} {k c : Nat} (listed : c ∈ krChans k) (moves : (chan s c).state = 1) : dozeEnter s k = s := by
  have busy : dozeIdle s k = false := Bool.eq_false_iff.2 fun idle => by
    simp only [dozeIdle, Bool.and_eq_true, List.all_eq_true, bne_iff_ne] at idle
    obtain ⟨⟨⟨-, chans⟩, -⟩, -⟩ := idle
    exact chans c listed moves
  rw [dozeEnter_eq, busy, if_neg (by simp)]

theorem dozeLeave_leaves {s : State} {k : Nat} (dozes : (kring s k).doze = true) :
    (kring (dozeLeave s k) k).doze = false ∧ (kring (dozeLeave s k) k).gated = false := by
  unfold dozeLeave
  rw [if_pos dozes, settle_kring, kring_modKr]
  exact ⟨rfl, rfl⟩

/-! ### CYL_IDLE_T (R432) -/

theorem idleWrite_fields (s : State) (v : Word) :
    fldGet (idleWrite s 0 v) .cylIdleT 0 31 16 = (if 10 ≤ fld v 31 16 ∧ fld v 31 16 ≤ 60000 then fld v 31 16 else fldGet s .cylIdleT 0 31 16) ∧
      fldGet (idleWrite s 0 v) .cylIdleT 0 15 0 = (if 1 ≤ fld v 15 0 ∧ fld v 15 0 ≤ 10000 then fld v 15 0 else fldGet s .cylIdleT 0 15 0) := by
  have bits : ∀ i : Fin 64, (i : Nat) ≤ 31 → (regAccess .cylIdleT).rw.getLsbD i = true ∧ (regAccess .cylIdleT).w1c.getLsbD i = false := by decide
  unfold idleWrite
  rw [if_neg (by decide)]
  dsimp only
  constructor
  · rw [fldGet_plainWrite s 0 _ (by decide) (fun i _ high => bits i high), fld_keepField_apart _ _ _ (by decide), fld_keepField _ _ _ (by decide)]
    simp only [decide_eq_true_eq, fldGet]
  · rw [fldGet_plainWrite s 0 _ (by decide) (fun i _ high => bits i (Nat.le_trans high (by decide))), fld_keepField _ _ _ (by decide),
      fld_keepField_apart _ _ _ (by decide)]
    simp only [decide_eq_true_eq, fldGet]

/-- Settles O39: each row of the governor as its own lemma says it. -/
theorem governorRuns : Obligations.GovernorRuns := by
  unfold Obligations.GovernorRuns
  intro s
  refine ⟨fun mean track active hw => ?_, fun k demand temp ro runs => ?_, fun on_ => ?_, fun k => ⟨?_, fun why => completes_same rfl (blowWear_waits why), ?_, ?_, ?_, ?_, ?_⟩,
    fun c => ⟨fun runs rest => ⟨_, rfl, restEnter_rests runs rest⟩, ?_, ⟨_, rfl, restLeave_leaves s c⟩⟩, fun p v => ⟨fun other => ?_, ?_⟩⟩
  · intro w
    obtain ⟨x, supply, low, high, tracks, sheds⟩ := flatWindow_acts track active rfl mean
    obtain ⟨above, below, between⟩ := trackPower_bounds mean x.buf hw
    refine ⟨_, rfl, ?_⟩
    beta_reduce
    intro y
    have same : y = x := supply
    rw [same]
    refine ⟨low, high, fun other => ?_, sheds⟩
    rw [tracks other]
    exact ⟨above, below, between⟩
  · intro x y t u
    obtain ⟨same, therm, exhausted⟩ := governorTick_acts runs k demand temp ro
    refine ⟨_, rfl, ?_⟩
    beta_reduce
    intro z
    have same : z = tickedKr s k demand temp ro := same
    rw [same]
    have wear : wearCeil (wornKr x temp ro) = wearCeil y := rfl
    have target : (tickedKr s k demand temp ro).target = max (u / 5 * 5) 550 := rfl
    refine ⟨rfl, rfl, rfl, rfl, rfl, ?_, fun fives => ?_, fun free => ?_, fun held => ?_, therm, exhausted⟩
    · rw [target]
      omega
    · rw [target]
      omega
    · exact if_neg (by rw [show (wornKr x temp ro).hold = false from free]; decide)
    · exact if_pos held
  · refine completes_to rfl (ledgerHour_eq on_) fun k hk => ?_
    rw [ledgerOnes_kring List.nodup_range, if_pos (List.mem_range.2 hk)]
    exact grantHour_balance _
  · exact fun mains energy room due => ⟨_, rfl, blowWear_blows mains energy room due⟩
  · exact fun learns long => ⟨_, rfl, learningEnd_ends learns long⟩
  · exact fun short => completes_same rfl (if_neg (fun h => absurd h.2 (Nat.not_le.2 short)))
  · exact fun runs awake rest queues chans walks ops => ⟨_, rfl, dozeEnter_dozes runs awake rest queues chans walks ops⟩
  · exact fun ⟨c, listed, moves⟩ => completes_same rfl (dozeEnter_waits listed moves)
  · exact fun dozes => ⟨_, rfl, dozeLeave_leaves dozes⟩
  · rintro ⟨i, hi, restless⟩
    refine completes_same rfl (if_neg fun h => ?_)
    have rests := List.all_eq_true.1 h.2.2 i (List.mem_range.2 hi)
    rw [restless] at rests
    cases rests
  · exact completes_same rfl (if_pos (fun zero => other (Fin.ext zero)))
  · rintro rfl
    exact ⟨_, rfl, idleWrite_fields s v⟩

end Sys2Proof.Machine
end

section
/-! WATCH: the request, the drain, and the entry (R435 to R438). -/

namespace Sys2Proof.Machine

open Sys2Proof.Claims

/-! ### The request (R435, R436) -/

/-- READY low lowers every HOLD_N. -/
theorem readyLow_pins (s : State) : (readyLow s).pins.ready = false ∧ ∀ g, g < 8 → nth false (readyLow s).pins.holdN g = false :=
  ⟨setHolds_ready _, fun _ hg => setHolds_falls (by rw [holdLow]; rfl) hg⟩

theorem pwrSleep_bits : ∀ i : Fin 64, 16 ≤ (i : Nat) → (i : Nat) ≤ 19 →
    (regAccess .pwrSleep).rw.getLsbD i = true ∧ (regAccess .pwrSleep).w1c.getLsbD i = false := by decide

theorem fldGet_sleepStatus_apart (s : State) (st : Nat) {h l : Nat} (above : 3 < l) : fldGet (sleepStatus s st) .pwrSleep 0 h l = fldGet s .pwrSleep 0 h l :=
  fldGet_fldSet_apart s .pwrSleep 0 st (.inr above)

theorem fldGet_sleepStatus (s : State) {st : Nat} (small : st < 16) : fldGet (sleepStatus s st) .pwrSleep 0 3 0 = st := by
  rw [sleepStatus, fldGet_fldSet _ _ _ _ (by decide)]
  exact Nat.mod_eq_of_lt small

theorem fldGet_pwrEvt_sleep (s : State) (bit hi lo : Nat) : fldGet (pwrEvt s bit) .pwrSleep 0 hi lo = fldGet s .pwrSleep 0 hi lo := by
  rw [fldGet, regGet_pwrEvt s bit (by decide), fldGet]

/-- The decision to sleep. -/
def sleepDecided (s : State) : State :=
  readyLow (modSupply (sleepStatus s 1) (fun x => { x with power := 2, entered := s.now, wakeLatched := none, earlyWake := none }))

/-- A request that a wake event of its instant declines. -/
def sleepDeclined (s : State) (c : Nat) : State := pwrEvt (sleepStatus (fldSet s .pwrSleep 0 15 12 c) 2) 3

/-- A request refused for a reason. -/
def sleepRefused (s : State) (r : Nat) : State := sleepStatus (fldSet s .pwrSleep 0 11 8 r) 3

/-- A request with its enables written. -/
def sleepAsked (s : State) : State :=
  let r := sleepRefusal s
  if r ≠ 0 then sleepRefused s r
  else match s.supply.earlyWake with
  | some (c, t) => if t = s.now ∧ wakeEnabled s c then sleepDeclined s c else sleepDecided s
  | none => sleepDecided s

theorem sleepWrite_eq (s : State) (v : Word) :
    sleepWrite s 0 v = if fld v 63 60 ≠ 1 ∨ s.supply.power ≠ 1 then plainWrite s .pwrSleep 0 v else sleepAsked (plainWrite s .pwrSleep 0 v) := rfl

theorem fldGet_sleepDecided (s : State) (hi lo : Nat) : fldGet (sleepDecided s) .pwrSleep 0 hi lo = fldGet (sleepStatus s 1) .pwrSleep 0 hi lo := by
  rw [sleepDecided, fldGet_of_regs (readyLow_regs _)]
  rfl

/-- A request touches no enable. -/
theorem sleepAsked_enables (s : State) : fldGet (sleepAsked s) .pwrSleep 0 19 16 = fldGet s .pwrSleep 0 19 16 := by
  have decided : fldGet (sleepDecided s) .pwrSleep 0 19 16 = fldGet s .pwrSleep 0 19 16 := by
    rw [fldGet_sleepDecided, fldGet_sleepStatus_apart _ _ (by decide)]
  unfold sleepAsked
  dsimp only
  split
  · rw [sleepRefused, fldGet_sleepStatus_apart _ _ (by decide), fldGet_fldSet_apart _ _ _ _ (.inr (by decide))]
  · split
    · split
      · rw [sleepDeclined, fldGet_pwrEvt_sleep, fldGet_sleepStatus_apart _ _ (by decide), fldGet_fldSet_apart _ _ _ _ (.inr (by decide))]
      · exact decided
    · exact decided

theorem sleepRefused_acts (s : State) {r : Nat} (small : r < 16) : fldGet (sleepRefused s r) .pwrSleep 0 3 0 = 3 ∧
    fldGet (sleepRefused s r) .pwrSleep 0 11 8 = r ∧ (sleepRefused s r).supply = s.supply := by
  refine ⟨fldGet_sleepStatus _ (by decide), ?_, rfl⟩
  rw [sleepRefused, fldGet_sleepStatus_apart _ _ (by decide), fldGet_fldSet _ _ _ _ (by decide)]
  exact Nat.mod_eq_of_lt small

theorem sleepDeclined_acts (s : State) (c : Nat) : fldGet (sleepDeclined s c) .pwrSleep 0 3 0 = 2 ∧ (sleepDeclined s c).supply = s.supply ∧
    fldGet (sleepDeclined s c) .pwrEvt 0 3 3 = 1 := by
  refine ⟨?_, pwrEvt_supply _ _, pwrEvt_sets _ (by decide)⟩
  rw [sleepDeclined, fldGet_pwrEvt_sleep, fldGet_sleepStatus _ (by decide)]

theorem sleepDecided_acts (s : State) : fldGet (sleepDecided s) .pwrSleep 0 3 0 = 1 ∧ (sleepDecided s).supply.power = 2 ∧
    (sleepDecided s).supply.entered = s.now ∧ (sleepDecided s).pins.ready = false ∧ ∀ g, g < 8 → nth false (sleepDecided s).pins.holdN g = false := by
  refine ⟨by rw [fldGet_sleepDecided, fldGet_sleepStatus _ (by decide)], ?_, ?_, readyLow_pins _⟩
  · rw [sleepDecided, readyLow_supply]
    rfl
  · rw [sleepDecided, readyLow_supply]
    rfl

/-- The reason that refuses a request with the enables `wen`. -/
def refusalOf (s : State) (wen : Nat) : Nat :=
  if kcGroup s.kc ≠ 0 then 1 else if wen = 0 then 2 else if s.turns.commit.isSome ∨ s.westad.agree.isSome then 3
  else if s.faults.quiet ∨ s.supply.pf = 2 then 4 else 0

theorem refusalOf_small (s : State) (wen : Nat) : refusalOf s wen < 16 := by
  unfold refusalOf
  split_ifs <;> decide

theorem fldGet_enables (s : State) (v : Word) : fldGet (plainWrite s .pwrSleep 0 v) .pwrSleep 0 19 16 = fld v 19 16 :=
  fldGet_plainWrite s 0 v (by decide) (fun i low high => pwrSleep_bits i low high)

theorem sleepRefusal_written (s : State) (v : Word) : sleepRefusal (plainWrite s .pwrSleep 0 v) = refusalOf s (fld v 19 16) := by
  rw [sleepRefusal, fldGet_enables]
  rfl

theorem sleepAsked_refused {s : State} {r : Nat} (why : sleepRefusal s = r) (some_ : r ≠ 0) : sleepAsked s = sleepRefused s r := by
  unfold sleepAsked
  rw [why]
  exact if_pos some_

theorem sleepAsked_decided {s : State} (free : sleepRefusal s = 0) (none_ : s.supply.earlyWake = none) : sleepAsked s = sleepDecided s := by
  unfold sleepAsked
  rw [free, none_]
  rfl

theorem sleepAsked_declined {s : State} {c t : Nat} (free : sleepRefusal s = 0) (early : s.supply.earlyWake = some (c, t)) (now : t = s.now)
    (enabled : wakeEnabled s c = true) : sleepAsked s = sleepDeclined s c := by
  unfold sleepAsked
  rw [free, early]
  exact (if_neg (by decide)).trans (if_pos ⟨now, enabled⟩)

/-- A source enabled by its bit of WEN. -/
theorem wakeEnabled_of {s : State} {wen c : Nat} (field : fldGet s .pwrSleep 0 19 16 = wen) (on_ : c = 5 ∨ (1 ≤ c ∧ c ≤ 4 ∧ wen.testBit (c - 1) = true)) :
    wakeEnabled s c = true := by
  rcases on_ with rfl | ⟨low, high, bit⟩
  · rfl
  · have same : 16 + (c - 1) = 15 + c := by omega
    rw [← field, fldGet, fld_testBit, same] at bit
    rw [wakeEnabled, fbit]
    simp only [Bool.and_eq_true] at bit
    rw [bit.2, Bool.or_true]

/-! ### The drain (R437) -/

/-- Engines without a job. -/
def NoJobs (s : State) : Prop := ∀ e, (eng s e).queue = [] ∧ (eng s e).running = []

theorem endJobs_none {s : State} (none_ : NoJobs s) (f : Job → Bool) (st : Nat) : endJobs s f st = s := by
  unfold endJobs
  refine List.foldlRecOn (motive := fun t => t = s) _ _ rfl fun t same e _ => ?_
  obtain ⟨queue, running⟩ := none_ e
  rw [same, queue, running]
  rfl

theorem noJobs_of {s : State} (none_ : ∀ kv ∈ s.engs, kv.2.queue = [] ∧ kv.2.running = []) : NoJobs s := fun e => by
  by_cases reads : eng s e = engInit
  · rw [reads]
    exact ⟨rfl, rfl⟩
  · exact none_ _ (mem_keys_of_tget reads)

theorem NoJobs.congr {s t : State} (none_ : NoJobs s) (engs : t.engs = s.engs) : NoJobs t := fun e => by
  have same : eng t e = eng s e := by rw [eng, eng, engs]
  rw [same]
  exact none_ e

/-- A thread without a command in hand is left as it is. -/
theorem endHeld_idle {s : State} {t : Nat} (current : (thr s t).current = none) (inbox : (thr s t).inbox = []) (f : Cmd → Bool) (rcode : Option Nat)
    (frozen : (thr s t).st ≠ .ready) (u : Nat) : thr (endHeld f rcode s t) u = thr s u := by
  have now : pickedNow f (thr s t) = [] := by rw [pickedNow, current]
  have same : withoutPicked f (thr s t) = thr s t := by
    have whole : withoutPicked f (thr s t) = { thr s t with current := (thr s t).current, inbox := (thr s t).inbox } := by
      rw [withoutPicked, now, if_pos rfl, inbox]
      rfl
    exact whole
  have put : putThr s t (thr s t) = rawThr s t (thr s t) := if_neg (fun h => frozen h.1)
  rw [endHeld_thr, same, put]
  by_cases here : u = t
  · rw [here]
    exact tget_tset_self _ _ _
  · exact tget_tset_ne _ _ _ _ here

end Sys2Proof.Machine
end

section
/-! WATCH: the drain, the entry, the wake and the pads (R437 to R440, R444). -/

namespace Sys2Proof.Machine

open Sys2Proof.Claims

/-! ### The drain's end (R437) -/

/-- Threads that a decided sleep has frozen, with their stores in memory. -/
def Stilled (s : State) : Prop := ∀ t, (thr s t).part ≠ nobody → (thr s t).st = .frozen ∧ (thr s t).freeze = some .watch ∧ (thr s t).sbuf = []

theorem stilled_of {s : State} (all_ : ∀ kv ∈ s.threads, kv.2.st = .frozen ∧ kv.2.freeze = some .watch ∧ kv.2.sbuf = []) : Stilled s := fun t owned => by
  have reads : thr s t ≠ thrInit := fun same => owned (by rw [same]; rfl)
  exact all_ _ (mem_keys_of_tget reads)

theorem Stilled.congr {s t : State} (h : Stilled s) (same : ∀ u, thr t u = thr s u) : Stilled t := fun u => by
  rw [same u]
  exact h u

/-- A thread that a busy list names holds nothing where no command is in flight. -/
theorem idle_of_allCmds {s : State} (none_ : allCmds s = []) {t : Nat} (listed : t ∈ busyThreads s) : (thr s t).current = none ∧ (thr s t).inbox = [] := by
  obtain ⟨-, threads⟩ := List.append_eq_nil_iff.1 none_
  obtain ⟨current, inbox⟩ := List.append_eq_nil_iff.1 (List.flatMap_eq_nil_iff.1 threads t listed)
  refine ⟨?_, List.map_eq_nil_iff.1 inbox⟩
  cases now : (thr s t).current with
  | none => rfl
  | some c =>
    rw [now] at current
    exact absurd current (by simp)

/-- With no command in flight and no thread READY, ending every command leaves each thread as it is. -/
theorem endCmds_thr_idle {s : State} (none_ : allCmds s = []) (asleep : ∀ t, (thr s t).st ≠ .ready) (f : Cmd → Bool) (rcode : Option Nat) :
    ∀ u, thr (endCmds s f rcode) u = thr s u := by
  rw [endCmds_eq]
  have queues : ((s.intake.cmdq.map (·.1)).foldl (endQueue f rcode) s).threads = s.threads :=
    view_foldl (g := State.threads) (fun s q => endQueue_threads f rcode s q) _ s
  generalize (s.intake.cmdq.map (·.1)).foldl (endQueue f rcode) s = x at queues ⊢
  have busy : busyThreads x = busyThreads s := by
    unfold busyThreads
    rw [queues]
  rw [busy]
  refine List.foldlRecOn (motive := fun y => ∀ u, thr y u = thr s u) _ _ (thr_of_threads queues) fun y same t listed u => ?_
  obtain ⟨current, inbox⟩ := idle_of_allCmds none_ listed
  rw [endHeld_idle (by rw [same, current]) (by rw [same, inbox]) f rcode (by rw [same]; exact asleep t), same]

/-- The parts that ending commands reaches. -/
def cmdParts : List Part := [.regs, .threads, .intake, .pins, .out]

theorem endCmds_frame (s : State) (f : Cmd → Bool) (rcode : Option Nat) : Within (· ∈ cmdParts) s (endCmds s f rcode) :=
  @endCmds_within _ ⟨by decide⟩ ⟨by decide⟩ ⟨by decide⟩ ⟨by decide⟩ ⟨by decide⟩ _ _ _ _ (Within.refl s)

theorem askFreeze_frozen {s : State} {t : Nat} (frozen : (thr s t).freeze.isSome = true) (why : Freeze) : askFreeze s t why = s :=
  if_pos (.inr (.inl frozen))

/-- Every thread frozen and every engine without a job: the device sleeps. -/
theorem watchDrainEnds_sleeps {s : State} (draining : s.supply.power = 2) (none_ : allCmds s = []) (asleep : ∀ t, (thr s t).st ≠ .ready)
    (still : Stilled s) (jobs : NoJobs s) : watchDrainEnds s = watchEnter (endCmds s (fun _ => true) (some 0xE2)) := by
  have threads := endCmds_thr_idle none_ asleep (fun _ => true) (some 0xE2)
  have engs : (endCmds s (fun _ => true) (some 0xE2)).engs = s.engs := (endCmds_frame s _ _).same .engs (by decide)
  unfold watchDrainEnds
  rw [if_neg (by simp [draining]), if_neg (by simp [none_])]
  generalize endCmds s (fun _ => true) (some 0xE2) = x at threads engs ⊢
  have stillX : Stilled x := still.congr threads
  dsimp only
  rw [endJobs_none (jobs.congr engs)]
  have asked : (ownedThreads x).foldl (fun s t => askFreeze s t .watch) x = x := by
    refine List.foldlRecOn (motive := fun y => y = x) _ _ rfl fun y same t listed => ?_
    have owned : (thr x t).part ≠ nobody := of_decide_eq_true (List.mem_filter.1 listed).2
    rw [same]
    exact askFreeze_frozen (by rw [(stillX t owned).2.1]; rfl) .watch
  rw [asked]
  refine if_pos ?_
  simp only [stilled, Bool.and_eq_true, List.all_eq_true, beq_iff_eq]
  refine ⟨fun t listed => ?_, fun e _ => (jobs.congr engs) e⟩
  obtain ⟨st, -, sbuf⟩ := stillX t (of_decide_eq_true (List.mem_filter.1 listed).2)
  exact ⟨st, sbuf⟩

/-! ### The entry (R438) -/

/-- Caches and TLBs emptied. -/
def cachesEmptied (s : State) : State :=
  { s with
    cyls := s.cyls.foldl (fun t kv => tset cylInit t kv.1 { kv.2 with icache := [], dcache := [], itlb := [], dtlb := [] }) []
    krs := s.krs.foldl (fun t kv => tset krInit t kv.1 { kv.2 with store := [], tlb := [] }) []
    dmaTlb := [] }

/-- Lanes that were up idle. -/
def lanesIdled (s : State) : State :=
  (List.range 48).foldl (fun s l => if laneState s l = 2 ∨ laneState s l = 3 then setLane s l 1 else s) s

/-- The supply of a sleeping device. -/
def asleep (s : State) : State :=
  modSupply { s with keeper := { s.keeper with rcTicks := 0 } } (fun x => { x with
    power := 3, pf := 0, held := [0, 1, 2, 3], stopTb := s.now, stopTally := s.tally })

theorem watchEnter_eq (s : State) : watchEnter s =
    asleep ([2, 3, 4, 5, 12].foldl downDomain ((List.range 4).foldl dropLink (linkDown (lanesIdled ([13, 14, 15, 16].foldl domDown (cachesEmptied s)))))) := by
  unfold watchEnter asleep lanesIdled cachesEmptied
  dsimp only

/-- The parts that the entry changes before its last step. -/
def entryParts : List Part := [.regs, .cyls, .krs, .dmaTlb, .doms, .xq, .westad, .linkPower]

theorem setLane_doms (s : State) (l st : Nat) : (setLane s l st).doms = s.doms := rfl

theorem domDown_stays (s : State) (e : Nat) {d : Nat} (down : (dom s d).down = true) : (dom (domDown s e) d).down = true := by
  by_cases same : d = e
  · rw [same, domDown, dom_modDom]
  · rwa [domDown, dom_modDom_ne _ _ _ _ same]

theorem dropLink_down (s : State) (l : Nat) : (dom (dropLink s l) (8 + l)).down = true := by
  rw [dropLink, dom_downDomain]

theorem lanesStep_doms (p : State → Nat → Prop) [∀ s l, Decidable (p s l)] (l : List Nat) (s : State) (st : Nat) :
    (l.foldl (fun s n => if p s n then setLane s n st else s) s).doms = s.doms :=
  view_foldl (g := State.doms) (f := fun s n => if p s n then setLane s n st else s) (fun s n => by
    split <;> rfl) l s

theorem dropLink_stays (s : State) (l : Nat) {d : Nat} (down : (dom s d).down = true) : (dom (dropLink s l) d).down = true := by
  unfold dropLink
  refine downDomain_stays _ _ ?_
  rw [dom_of_doms (s := s)]
  · exact down
  · exact lanesStep_doms (fun s n => laneState s n = 3 ∨ laneState s n = 2) _ s 1

theorem linkDown_stays (s : State) {d : Nat} (down : (dom s d).down = true) : (dom (linkDown s) d).down = true := by
  rw [linkDown_eq]
  refine downDomain_stays _ 7 (downDomain_stays _ 6 ?_)
  have doms : { lanesSet s 3 1 with linkPower := .l0 }.doms = s.doms := (lanesSet_frame s 3 1).same .doms (by decide)
  rwa [dom_of_doms doms]

theorem lanesIdled_doms (s : State) : (lanesIdled s).doms = s.doms := lanesStep_doms (fun s l => laneState s l = 2 ∨ laneState s l = 3) _ s 1

theorem asleep_doms (s : State) : (asleep s).doms = s.doms := rfl

theorem domDowns_down {l : List Nat} {d : Nat} (listed : d ∈ l) (s : State) : (dom (l.foldl domDown s) d).down = true :=
  foldl_reaches (P := fun s => (dom s d).down = true) (Q := fun _ => True) (f := domDown) (fun _ _ h => h)
    (fun s _ => by rw [domDown, dom_modDom]) (fun s e _ down => domDown_stays s e down) listed trivial

theorem dropLinks_stays (s : State) {d : Nat} (down : (dom s d).down = true) : (dom ((List.range 4).foldl dropLink s) d).down = true :=
  foldl_keeps (P := fun s => (dom s d).down = true) (fun s l down => dropLink_stays s l down) _ down

theorem dropLinks_down (s : State) {l : Nat} (hl : l < 4) : (dom ((List.range 4).foldl dropLink s) (8 + l)).down = true :=
  foldl_reaches (P := fun s => (dom s (8 + l)).down = true) (Q := fun _ => True) (f := dropLink) (a := l) (fun _ _ h => h)
    (fun s _ => dropLink_down s l) (fun s e _ down => dropLink_stays s e down) (List.mem_range.2 hl) trivial

theorem downDomains_stays (l : List Nat) (s : State) {d : Nat} (down : (dom s d).down = true) : (dom (l.foldl downDomain s) d).down = true :=
  foldl_keeps (P := fun s => (dom s d).down = true) (fun s e down => downDomain_stays s e down) _ down

/-- Lanes, links and memories: where a domain of WATCH goes DOWN. -/
theorem watchDomain_place {d : Nat} (here : d ∈ [2, 3, 4, 5, 6, 7, 8, 9, 10, 11, 12, 13, 14, 15, 16]) :
    d ∈ [2, 3, 4, 5, 12] ∨ d = 6 ∨ d = 7 ∨ d ∈ [13, 14, 15, 16] ∨ ∃ l, l < 4 ∧ d = 8 + l := by
  have low : 2 ≤ d ∧ d ≤ 16 := by
    simp only [List.mem_cons, List.not_mem_nil, or_false] at here
    omega
  by_cases link : 8 ≤ d ∧ d < 12
  · exact .inr (.inr (.inr (.inr ⟨d - 8, by omega, by omega⟩)))
  · simp only [List.mem_cons, List.not_mem_nil, or_false]
    omega

/-- R438: the domains that are DOWN in WATCH. -/
theorem watchEnter_down (s : State) {d : Nat} (here : d ∈ [2, 3, 4, 5, 6, 7, 8, 9, 10, 11, 12, 13, 14, 15, 16]) : (dom (watchEnter s) d).down = true := by
  rw [watchEnter_eq, dom_of_doms (asleep_doms _)]
  rcases watchDomain_place here with group | rfl | rfl | memory | ⟨l, hl, rfl⟩
  · exact (downDomains_shut group _).1
  · exact downDomains_stays _ _ (dropLinks_stays _ (linkDown_acts _).1)
  · exact downDomains_stays _ _ (dropLinks_stays _ (linkDown_acts _).2.1)
  · refine downDomains_stays _ _ (dropLinks_stays _ (linkDown_stays _ ?_))
    rw [dom_of_doms (lanesIdled_doms _)]
    exact domDowns_down memory _
  · exact downDomains_stays _ _ (dropLinks_down _ hl)

theorem asleep_supply (s : State) : (asleep s).supply.power = 3 ∧ (asleep s).supply.stopTb = (asleep s).now ∧
    (asleep s).supply.stopTally = (asleep s).tally ∧ (asleep s).supply.held = [0, 1, 2, 3] := ⟨rfl, rfl, rfl, rfl⟩

/-- R438: the supply of a device that has entered WATCH. -/
theorem watchEnter_supply (s : State) : (watchEnter s).supply.power = 3 ∧ (watchEnter s).supply.stopTb = s.now ∧
    (watchEnter s).supply.stopTally = s.tally ∧ (watchEnter s).supply.held = [0, 1, 2, 3] := by
  have now : (watchEnter s).now = s.now := now_kept (watchEnter_within s (Within.refl s))
  have tally : (watchEnter s).tally = s.tally := tally_kept (watchEnter_within s (Within.refl s))
  rw [← now, ← tally, watchEnter_eq]
  exact asleep_supply _

/-! ### The wake (R439, R444) -/

/-- What a wake does to a thread: one that the sleep had frozen is released. -/
structure Woken (a b : Thread) : Prop where
  part : b.part = a.part
  freeze : b.freeze = a.freeze ∨ b.freeze = none

theorem Woken.refl (a : Thread) : Woken a a := ⟨rfl, .inl rfl⟩

theorem Woken.trans {a b c : Thread} (h : Woken a b) (k : Woken b c) : Woken a c :=
  ⟨k.part.trans h.part, by
    rcases k.freeze with same | none_
    · rw [same]
      exact h.freeze
    · exact .inr none_⟩

theorem Woken.of_eq {a b : Thread} (h : b = a) : Woken a b := h ▸ .refl a

/-- A thread that no more sleeps. -/
theorem Woken.awake {a b : Thread} (h : Woken a b) (awake : a.freeze = none) : b.freeze = none := by
  rcases h.freeze with same | none_
  · rw [same, awake]
  · exact none_

theorem settle_woken (s : State) (t : Nat) : Woken (thr s t) (thr (settle s) t) :=
  ⟨settle_part s t (fun th => th.part) (fun _ _ _ _ => rfl), .inl (settle_part s t (fun th => th.freeze) (fun _ _ _ _ => rfl))⟩

theorem raise_woken (s : State) (p n t : Nat) : Woken (thr s t) (thr (raise s p n) t) :=
  ⟨(raise_roused s p n t).part (fun th => th.part) (fun _ _ _ _ _ => rfl), .inl ((raise_roused s p n t).part (fun th => th.freeze) (fun _ _ _ _ _ => rfl))⟩

theorem pwrEvt_woken (s : State) (bit t : Nat) : Woken (thr s t) (thr (pwrEvt s bit) t) := by
  unfold pwrEvt
  dsimp only
  split
  · exact .refl _
  · exact raise_woken (setBits s .pwrEvt 0 (maskOf bit bit)) 0 _ t

theorem releaseThr_woken (s : State) (u : Nat) (why : Freeze) (t : Nat) : Woken (thr s t) (thr (releaseThr s u why) t) := by
  unfold releaseThr
  dsimp only
  split
  · by_cases same : t = u
    · rw [same, putThr_self]
      exact ⟨rfl, .inr rfl⟩
    · rw [putThr_ne _ _ _ _ same]
      exact ⟨rfl, .inl rfl⟩
  · split
    · by_cases same : t = u
      · rw [same, putThr_self]
        exact ⟨rfl, .inl rfl⟩
      · rw [putThr_ne _ _ _ _ same]
        exact ⟨rfl, .inl rfl⟩
    · exact .refl _

/-- A release ends its own cause. -/
theorem releaseThr_releases {s : State} {t : Nat} {why : Freeze} (frozen : (thr s t).freeze = some why ∨ (thr s t).freeze = none) :
    (thr (releaseThr s t why) t).freeze = none := by
  rcases frozen with held | free
  · unfold releaseThr
    rw [if_pos held, putThr_self]
  · exact (releaseThr_woken s t why t).awake free

theorem woken_foldl {β : Type} {f : State → β → State} {t : Nat} (each : ∀ s x, Woken (thr s t) (thr (f s x) t)) (l : List β) (s : State) :
    Woken (thr s t) (thr (l.foldl f s) t) :=
  List.foldlRecOn (motive := fun x => Woken (thr s t) (thr x t)) l f (.refl _) fun x same y _ => same.trans (each x y)

theorem Woken.since {s x : State} {t : Nat} {b : Thread} (same : x.threads = s.threads) (h : Woken (thr x t) b) : Woken (thr s t) b := by
  rwa [thr_of_threads same] at h

/-- A thread's copies of the blank ports back to 0, where it is of the keyring. -/
def portsBlanked (k : Nat) (s : State) (t : Nat) : State :=
  if krOf t = k then rawThr s t (landAll (thr s t) (fun a => { a with
    ports := tdropRange a.ports 0x380 0x3C0, poison := a.poison.filter (fun p => !isBlank p) })) else s

theorem portsBlanked_woken (k : Nat) (s : State) (u t : Nat) : Woken (thr s t) (thr (portsBlanked k s u) t) := by
  unfold portsBlanked
  split
  · by_cases same : t = u
    · rw [same, thr_rawThr]
      exact ⟨rfl, .inl rfl⟩
    · rw [thr_rawThr_ne _ _ _ _ same]
      exact .refl _
  · exact .refl _

/-- A keyring with its new blank image. -/
def imageTaken (s : State) (k : Nat) : State :=
  modKr s k (fun x => { x with
    blank := kcBlank s.kc k, blankLoading := false
    frames := match kcBlank s.kc k with | some b => slice b (up64 (64 + 16 * leAt b 8 1)) (leAt b 16 4) | none => [] })

/-- Whether an operation of some thread is in a keyring's blank. -/
def blankBusy (s : State) (k : Nat) : Bool :=
  (s.threads.map (·.1)).any (fun t => krOf t == k && (thr s t).arch.ops.any (fun o => match o.kind with | .blank _ _ => true | _ => false))

theorem blankLoad_eq (s : State) (k : Nat) : blankLoad s k =
    if !(kring s k).blankLoading ∨ oldInFlight s (kring s k).blankTurn ∨ blankBusy s k then s
    else settle (((imageTaken s k).threads.map (·.1)).foldl (portsBlanked k) (imageTaken s k)) := rfl

theorem blankLoad_woken (s : State) (k t : Nat) : Woken (thr s t) (thr (blankLoad s k) t) := by
  rw [blankLoad_eq]
  split
  · exact .refl _
  · refine Woken.trans ?_ (settle_woken _ t)
    exact Woken.since (x := imageTaken s k) rfl (woken_foldl (portsBlanked_woken k · · t) _ _)

/-- A keyring's blank reloaded from the keycut, where it has one. -/
def blankReloaded (s : State) (k : Nat) : State :=
  if (kcBlank s.kc k).isSome && !(kring s k).blankRetired then
    blankLoad (modKr s k (fun x => { x with blankLoading := true, blankTurn := 0 })) k
  else s

theorem reloadBlanks_woken (s : State) (t : Nat) : Woken (thr s t) (thr (reloadBlanks s) t) := by
  refine woken_foldl (f := blankReloaded) (fun s k => ?_) (List.range 16) s
  unfold blankReloaded
  split
  · exact Woken.since (x := modKr s k _) rfl (blankLoad_woken _ k t)
  · exact .refl _

/-- The wake before its threads are released. -/
def wakeReloaded (s : State) : State :=
  let s := [13, 14, 15, 16].foldl (fun s d => modDom s d (fun x => { x with down := heldDown s d })) s
  let s := unseedArbiters s
  let s := if s.trngBad then s else seedArbiters s
  reloadBlanks (idleSessions s)

theorem wakeResumed_eq (s : State) :
    wakeResumed s = (ownedThreads (wakeReloaded s)).foldl (fun s t => releaseThr s t .watch) (wakeReloaded s) := rfl

theorem wakeReloaded_woken (s : State) (t : Nat) : Woken (thr s t) (thr (wakeReloaded s) t) := by
  unfold wakeReloaded
  extract_lets domains unseeded seeded
  have reset : domains.threads = s.threads := threads_kept (within_foldl _ (Within.refl s) (fun s d h => modDom_within s d _ h))
  have drawn : seeded.threads = s.threads := by
    have seeds : seeded.threads = unseeded.threads := by
      unfold seeded
      split
      · rfl
      · exact threads_kept (seedArbiters_within _ (Within.refl _))
    exact seeds.trans reset
  have idle : (idleSessions seeded).threads = s.threads := (threads_kept (idleSessions_within _ (Within.refl _))).trans drawn
  exact Woken.since idle (reloadBlanks_woken _ t)

/-- A thread that has an owner is listed. -/
theorem mem_ownedThreads {s : State} {t : Nat} (owned : (thr s t).part ≠ nobody) : t ∈ ownedThreads s := by
  have reads : thr s t ≠ thrInit := fun same => owned (by rw [same]; rfl)
  exact List.mem_filter.2 ⟨List.mem_map.2 ⟨_, mem_keys_of_tget reads, rfl⟩, decide_eq_true owned⟩

/-- R439: the wake releases every thread that the sleep had frozen. -/
theorem wakeResumed_releases {s : State} {t : Nat} (owned : (thr s t).part ≠ nobody) (frozen : (thr s t).freeze = some .watch) :
    (thr (wakeResumed s) t).freeze = none := by
  rw [wakeResumed_eq]
  have woken := wakeReloaded_woken s t
  generalize wakeReloaded s = x at woken ⊢
  have held : (thr x t).freeze = some .watch ∨ (thr x t).freeze = none := by
    rcases woken.freeze with same | none_
    · exact .inl (same.trans frozen)
    · exact .inr none_
  refine foldl_reaches (P := fun s => (thr s t).freeze = none) (Q := fun s => (thr s t).freeze = some .watch ∨ (thr s t).freeze = none)
    (f := fun s t => releaseThr s t .watch) (a := t) (fun s u held => ?_) (fun s held => releaseThr_releases held)
    (fun s u _ free => (releaseThr_woken s u .watch t).awake free) (mem_ownedThreads (by rw [woken.part]; exact owned)) held
  rcases (releaseThr_woken s u .watch t).freeze with same | none_
  · rw [same]
    exact held
  · exact .inr none_

end Sys2Proof.Machine
end

section
/-! WATCH: wake events, the wake and the pads as commands (R435 to R440, R444). -/

namespace Sys2Proof.Machine

open Sys2Proof.Claims

/-! ### The wake's end -/

/-- The wake with its status and its event. -/
def wakeTold (s : State) (c : Nat) : State := pwrEvt (sleepStatus (wakeResumed (wakeBridged s c)) 4) 4

/-- The parts that a wake leaves are as before. -/
theorem wakeBridged_turns (s : State) (c : Nat) : (wakeBridged s c).turns = s.turns :=
  turns_kept (modSupply_within _ _ (bridge_within _ (within_foldl _ (fldSet_within _ _ _ _ _ _ (Within.refl s)) (fun _ _ h => modKr_within _ _ _ h))))

theorem wakeBridged_threads (s : State) (c : Nat) : (wakeBridged s c).threads = s.threads :=
  threads_kept (modSupply_within _ _ (bridge_within _ (within_foldl _ (fldSet_within _ _ _ _ _ _ (Within.refl s)) (fun _ _ h => modKr_within _ _ _ h))))

theorem regGet_modSupply (s : State) (f : Supply → Supply) (r : Reg) (ix : Nat) : regGet (modSupply s f) r ix = regGet s r ix := rfl

/-- The timebase advanced. -/
def bridgedAt (s : State) : State := { s with now := s.supply.stopTb + sleptTicks s * tickUnits / 64 }

theorem bridge_eq (s : State) : bridge s = regSet (bridgedAt s) .tbStatus 0 (bridgedStatus s) := by
  unfold bridge bridgedAt bridgedStatus sleptTicks sleptRc
  dsimp only

theorem regGet_setNow (s : State) (n : Nat) (r : Reg) (ix : Nat) : regGet { s with now := n } r ix = regGet s r ix := rfl

theorem regGet_bridgedAt (s : State) (r : Reg) (ix : Nat) : regGet (bridgedAt s) r ix = regGet s r ix := regGet_setNow s _ r ix

theorem regGet_bridge_ne (s : State) {r : Reg} {ix : Nat} (apart : regKey r ix ≠ regKey .tbStatus 0) : regGet (bridge s) r ix = regGet s r ix := by
  rw [bridge_eq, regGet_regSet_ne _ _ _ _ _ _ apart, regGet_bridgedAt]

theorem regGet_wakeRails (s : State) (r : Reg) (ix : Nat) : regGet (wakeRails s) r ix = regGet s r ix := regGet_of_within (wakeRails_frame s) (by decide) r ix

theorem wakeBridged_cause (s : State) {c : Nat} (small : c < 16) : fldGet (wakeBridged s c) .pwrSleep 0 15 12 = c := by
  have same : regGet (wakeBridged s c) .pwrSleep 0 = regGet (fldSet s .pwrSleep 0 15 12 c) .pwrSleep 0 := by
    rw [wakeBridged, regGet_modSupply, regGet_bridge_ne _ (by decide), regGet_wakeRails]
  have field : fldGet (fldSet s .pwrSleep 0 15 12 c) .pwrSleep 0 15 12 = c % 2 ^ (15 + 1 - 12) := fldGet_fldSet _ _ _ _ (by decide)
  rw [fldGet, same, ← fldGet, field]
  exact Nat.mod_eq_of_lt small

theorem modSupply_supply (s : State) (f : Supply → Supply) : (modSupply s f).supply = f s.supply := rfl

theorem wakeBridged_supply (s : State) (c : Nat) : (wakeBridged s c).supply.power = 1 ∧ (wakeBridged s c).supply.wakeLatched = none := by
  rw [wakeBridged, modSupply_supply]
  exact ⟨rfl, rfl⟩

theorem sleepStatus_supply (s : State) (st : Nat) : (sleepStatus s st).supply = s.supply := rfl

theorem sleepStatus_threads (s : State) (st : Nat) : (sleepStatus s st).threads = s.threads := rfl

theorem watchWakes_told {s : State} {c : Nat} (watch : s.supply.power = 3) (latched : s.supply.wakeLatched = some c) (none_ : s.turns.waiting = []) :
    watchWakes s = settle (wakeTold s c) := by
  have resumed : (wakeResumed (wakeBridged s c)).turns = (wakeBridged s c).turns := (wakeResumed_frame _).same .turns (by decide)
  have told : (wakeTold s c).turns = (wakeResumed (wakeBridged s c)).turns := turns_kept (pwrEvt_within _ _ (sleepStatus_within _ _ (Within.refl _)))
  rw [watchWakes_eq watch latched, ← wakeTold, nextCommit_idle]
  rw [told, resumed, wakeBridged_turns, none_]

/-- R439: what a wake leaves. -/
theorem wakeTold_acts (s : State) {c : Nat} (small : c < 16) :
    (wakeTold s c).supply.power = 1 ∧ (wakeTold s c).supply.wakeLatched = none ∧ fldGet (wakeTold s c) .pwrSleep 0 15 12 = c ∧
      fldGet (wakeTold s c) .pwrSleep 0 3 0 = 4 ∧ fldGet (wakeTold s c) .pwrEvt 0 4 4 = 1 := by
  have resumed : (wakeResumed (wakeBridged s c)).supply = (wakeBridged s c).supply := (wakeResumed_frame _).same .supply (by decide)
  have regs : (wakeResumed (wakeBridged s c)).regs = (wakeBridged s c).regs := (wakeResumed_frame _).same .regs (by decide)
  have supply : (wakeTold s c).supply = (wakeBridged s c).supply := by
    rw [wakeTold, pwrEvt_supply, sleepStatus_supply, resumed]
  obtain ⟨power, latched⟩ := wakeBridged_supply s c
  rw [supply]
  refine ⟨power, latched, ?_, ?_, pwrEvt_sets _ (by decide)⟩
  · rw [wakeTold, fldGet_pwrEvt_sleep, fldGet_sleepStatus_apart _ _ (by decide), fldGet_of_regs regs, wakeBridged_cause s small]
  · rw [wakeTold, fldGet_pwrEvt_sleep, fldGet_sleepStatus _ (by decide)]

theorem settle_wakeTold_releases {s : State} {t : Nat} (c : Nat) (owned : (thr s t).part ≠ nobody) (frozen : (thr s t).freeze = some .watch) :
    (thr (settle (wakeTold s c)) t).freeze = none := by
  have same : thr (wakeBridged s c) t = thr s t := thr_of_threads (wakeBridged_threads s c) t
  have released := wakeResumed_releases (s := wakeBridged s c) (t := t) (by rw [same]; exact owned) (by rw [same]; exact frozen)
  have told : Woken (thr (wakeResumed (wakeBridged s c)) t) (thr (wakeTold s c) t) :=
    Woken.since (sleepStatus_threads _ 4) (pwrEvt_woken _ 4 t)
  exact (told.trans (settle_woken _ t)).awake released

/-! ### Wake events (R436) -/

theorem wakeEvent_latches {s : State} {c : Nat} (asleep_ : 2 ≤ s.supply.power) (enabled : wakeEnabled s c = true) :
    (wakeEvent s c).supply.wakeLatched = some (s.supply.wakeLatched.getD c) := by
  unfold wakeEvent
  rw [if_neg (by simp [enabled]), if_neg (by omega), if_pos asleep_]

theorem wakeEvent_disabled {s : State} {c : Nat} (disabled : wakeEnabled s c = false) : wakeEvent s c = s := if_pos (by rw [disabled]; rfl)

theorem alarmDue_iff (s : State) : alarmDue s = true ↔ fldGet s .pwrWake 0 47 0 ≠ 0 ∧ tallyNow s = fldGet s .pwrWake 0 47 0 := by
  simp only [alarmDue, Bool.and_eq_true, bne_iff_ne, beq_iff_eq]

/-- Settles O40: the request by its reason, the drain by what is in flight, and the wake by its frame. -/
theorem watchSleepsAndWakes : Obligations.WatchSleepsAndWakes := by
  unfold Obligations.WatchSleepsAndWakes
  intro s p v x wen go
  refine ⟨fun other => ?_, ?_, ?_, fun draining busy early => ?_, ?_, ?_, ?_, ?_, fun other calm => ?_, fun on_ => ?_⟩
  · have apart : p.val ≠ 0 := fun zero => other (Fin.ext zero)
    exact ⟨completes_same rfl (if_pos apart), completes_same rfl (if_pos (.inl apart))⟩
  · refine completes_to rfl (sleepWrite_eq s v) ?_
    split
    · exact fldGet_enables s v
    · rw [sleepAsked_enables, fldGet_enables]
  · intro on_ goes reason early
    have asks : sleepWrite s 0 v = sleepAsked (plainWrite s .pwrSleep 0 v) := (sleepWrite_eq s v).trans (if_neg (by simp [show fld v 63 60 = 1 from goes, show s.supply.power = 1 from on_]))
    have why : sleepRefusal (plainWrite s .pwrSleep 0 v) = reason := sleepRefusal_written s v
    refine ⟨fun refused => ?_, fun free soon => ?_, fun free none_ => ?_⟩
    · exact completes_to rfl (asks.trans (sleepAsked_refused why refused)) (sleepRefused_acts _ (refusalOf_small s wen))
    · obtain ⟨c, t, at_, now, on'⟩ := soon
      exact completes_to rfl (asks.trans (sleepAsked_declined (why.trans free) at_ now (wakeEnabled_of (fldGet_enables s v) on'))) (sleepDeclined_acts _ c)
    · exact completes_to rfl (asks.trans (sleepAsked_decided (why.trans free) none_)) (sleepDecided_acts _)
  · have awake : watchDrainEnds s = s := (if_neg (by simp [show s.supply.power = 2 from draining])).trans (if_pos ⟨busy, early⟩)
    exact completes_same rfl awake
  · intro draining none_ _ threads engs
    have still := stilled_of threads
    have asleep_ : ∀ t, (thr s t).st ≠ .ready := fun t => by
      by_cases reads : thr s t = thrInit
      · rw [reads]
        decide
      · have frozen : (thr s t).st = .frozen := (threads _ (mem_keys_of_tget reads)).1
        rw [frozen]
        decide
    refine completes_to rfl (watchDrainEnds_sleeps draining none_ asleep_ still (noJobs_of engs)) ?_
    have frame := endCmds_frame s (fun _ => true) (some 0xE2)
    have now : (endCmds s (fun _ => true) (some 0xE2)).now = s.now := frame.same .now (by decide)
    have tally : (endCmds s (fun _ => true) (some 0xE2)).tally = s.tally := frame.same .tally (by decide)
    have mem : (endCmds s (fun _ => true) (some 0xE2)).mem = s.mem := frame.same .mem (by decide)
    obtain ⟨power, tb, stopTally, held⟩ := watchEnter_supply (endCmds s (fun _ => true) (some 0xE2))
    exact ⟨power, tb.trans now, stopTally.trans tally, held, fun d here => watchEnter_down _ here,
      (mem_kept (watchEnter_within _ (Within.refl _))).trans mem⟩
  · intro asleep_ latches
    refine ⟨fun enabled => ⟨_, rfl, wakeEvent_latches asleep_ enabled⟩, fun disabled => completes_same rfl (wakeEvent_disabled disabled),
      fun enabled some_ due => completes_to rfl (if_pos ((alarmDue_iff s).2 ⟨some_, due⟩)) (wakeEvent_latches asleep_ enabled)⟩
  · exact fun zero => completes_same rfl (if_neg (fun due => ((alarmDue_iff s).1 due).1 zero))
  · intro c watch latched small calm none_
    obtain ⟨now, status, due⟩ := watchWakes_reads watch latched
    obtain ⟨bridged, written⟩ := wakeBridged_reads s c
    obtain ⟨flag, coarse, -, -⟩ := bridgedStatus_fields s
    have field : ∀ hi lo, fldGet (watchWakes s) .tbStatus 0 hi lo = fld (bridgedStatus s) hi lo := fun hi lo => by rw [fldGet, status, written]
    refine completes_to rfl (quietSettle_of_quietDue_none (due.trans calm)) ?_
    have told := watchWakes_told watch latched none_
    obtain ⟨power, none', cause, st, evt⟩ := wakeTold_acts s small
    have regs : (watchWakes s).regs = (wakeTold s c).regs := by rw [told, (settle_frame _).same .regs (by decide)]
    have supply : (watchWakes s).supply = (wakeTold s c).supply := by rw [told, (settle_frame _).same .supply (by decide)]
    refine ⟨by rw [supply, power], by rw [supply, none'], now.trans bridged, by rw [field, flag], fun slow => by rw [field, coarse slow],
      by rw [fldGet_of_regs regs, cause], by rw [fldGet_of_regs regs, st], by rw [fldGet_of_regs regs, evt], fun _ t owned frozen => ?_⟩
    rw [told]
    exact settle_wakeTold_releases c owned frozen
  · have awake : watchWakes s = s := by
      unfold watchWakes
      split
      · rename_i three _
        exact absurd three other
      · rfl
    exact completes_same rfl ((congrArg quietSettle awake).trans (quietSettle_of_quietDue_none calm))
  · have released : padrelWrite s 0 v = modSupply s (fun x => { x with held := x.held.filter (fun i => !fbit v i) }) := if_neg (by simp [show s.supply.power = 1 from on_])
    exact completes_to rfl released rfl

end Sys2Proof.Machine
end

section
/-! SUPPORT. What the entry into the quiet state holds low (R301, R483). -/

namespace Sys2Proof.Machine

open Sys2Proof.Claims

/-- READY, ALERT_N and every HOLD_N low. -/
structure PinsLow (s : State) : Prop where
  ready : s.pins.ready = false
  alertN : s.pins.alertN = false
  holdN : ∀ i, i < 8 → nth false s.pins.holdN i = false

theorem PinsLow.congr {s t : State} (low : PinsLow s) (pins : t.pins = s.pins) : PinsLow t :=
  ⟨by rw [pins, low.ready], by rw [pins, low.alertN], fun i hi => by rw [pins, low.holdN i hi]⟩

theorem setHold_pinsLow {s : State} (low : PinsLow s) (g : Nat) : PinsLow (setHold s g) := by
  have held : holdLow s g = true := by rw [holdLow, low.ready]; rfl
  unfold setHold
  dsimp only
  rw [if_pos held]
  split
  · refine ⟨low.ready, low.alertN, fun i hi => ?_⟩
    have falls := setHold_falls (s := s) (i := i) (by rw [holdLow, low.ready]; rfl) hi g (.inr (low.holdN i hi))
    unfold setHold at falls
    dsimp only at falls
    rw [if_pos held, if_pos (by assumption)] at falls
    exact falls
  · exact low

theorem setHolds_pinsLow {s : State} (low : PinsLow s) : PinsLow (setHolds s) := foldl_keeps (P := PinsLow) (fun _ g low => setHold_pinsLow low g) _ low

theorem setFlow_pins (s : State) (port : Nat) : (setFlow s port).pins = s.pins := pins_kept (setFlow_within _ _ (Within.refl s))

theorem setPressure_pinsLow {s : State} (low : PinsLow s) : PinsLow (setPressure s) :=
  (setHolds_pinsLow low).congr ((setFlow_pins _ 1).trans (setFlow_pins _ 0))

theorem judgeHigh_pinsLow {s : State} (low : PinsLow s) (q : Nat) : PinsLow (judgeHigh s q) := by
  unfold judgeHigh
  dsimp only
  generalize (if kcHigh s.kc q < (cq s q).occ then true else if (cq s q).occ ≤ kcLow s.kc q then false else (cq s q).high) = h
  split
  · exact low
  · exact setPressure_pinsLow (low.congr rfl)

theorem freeLines_pinsLow {s : State} (low : PinsLow s) (c : Cmd) : PinsLow (freeLines s c) := by
  refine judgeHigh_pinsLow (s := modCq s c.queue _) ?_ _
  exact low.congr rfl

/-- Commands discarded raise no pin. -/
theorem endCmds_pinsLow {s : State} (low : PinsLow s) (f : Cmd → Bool) : PinsLow (endCmds s f none) := by
  have each : ∀ (l : List Cmd) {s : State}, PinsLow s → PinsLow (l.foldl (endCmd none) s) := fun l _ low =>
    foldl_keeps (P := PinsLow) (fun _ c low => freeLines_pinsLow low c) l low
  rw [endCmds_eq]
  refine foldl_keeps (P := PinsLow) (fun s t low => ?_) _ (foldl_keeps (P := PinsLow) (fun s q low => ?_) _ low)
  · exact each _ (low.congr (pins_kept (putThr_within _ _ _ (Within.refl s))))
  · exact each _ (low.congr rfl)

theorem quietItems_pinsLow {s : State} (low : PinsLow s) : PinsLow (quietItems s) := by
  unfold quietItems
  refine foldl_keeps (P := PinsLow) (fun s q low => ?_) _ (endCmds_pinsLow low _)
  split
  · exact low.congr rfl
  · exact low

/-- The pins of a state with its outputs held low. -/
def outputsLow (s : State) : State :=
  setHolds { s with pins := { s.pins with ready := false, alertN := false }, intake := { s.intake with flowOn := [] } }

theorem outputsLow_pinsLow (s : State) : PinsLow (outputsLow s) := by
  refine ⟨setHolds_ready _, ?_, fun i hi => setHolds_falls (by rw [holdLow]; rfl) hi⟩
  refine view_foldl (g := fun s => s.pins.alertN) (fun s g => ?_) _ _
  unfold setHold
  dsimp only
  split <;> split <;> rfl

theorem quietOutputs_pinsLow (s : State) (cause : Nat) : PinsLow (quietOutputs s cause) := by
  refine (outputsLow_pinsLow s).congr ?_
  unfold quietOutputs
  rw [← outputsLow]
  generalize outputsLow s = t
  refine pins_kept (emit_within _ _ (within_foldl _ (within_foldl _ (within_foldl _ (Within.refl t) (fun s d h => downDomain_within _ _ h)) (fun s l h => ?_))
    (fun s l h => dropLink_within _ _ h)))
  exact within_ite h (setLane_within _ _ _ h)

/-- R483: the entry holds READY, ALERT_N and HOLD_N low. -/
theorem enterQuiet_pinsLow {s : State} (awake : s.faults.quiet = false) (cause : Nat) : PinsLow (enterQuiet s cause) := by
  rw [enterQuiet_enters awake]
  have ended : ∀ x : State, (quietEnded x).pins = x.pins := fun x => by
    have exported : (exportEnded (putAgree x none)).pins = x.pins := by
      unfold exportEnded
      split <;> rfl
    exact (pins_kept (settle_within _ (endDebug_within _ (untake_within _ (quietSessions_within _ (Within.refl _)))))).trans exported
  have abandoned : ∀ x : State, (abandonCommit x).pins = x.pins := fun x => pins_kept (abandonCommit_within _ (Within.refl x))
  have served : ∀ x : State, PinsLow (quietServed x cause) := fun x =>
    (quietItems_pinsLow (quietOutputs_pinsLow x cause)).congr
      (pins_kept (quietJobs_within _ (within_foldl _ (Within.refl (quietShut x cause)) (fun t _ h => quietThread_within t _ h))))
  have sealed_ : ∀ x : State, (quietSealed x).pins = x.pins := fun _ => rfl
  exact (served _).congr ((ended _).trans ((abandoned _).trans (sealed_ _)))

/-- A cause in a quiet state moves no pin. -/
theorem enterQuiet_pins_again {s : State} (quiet : s.faults.quiet = true) (cause : Nat) : (enterQuiet s cause).pins = s.pins := by
  have noted : (quietNoted s cause).pins = s.pins := pins_kept (quietBoot_within _ _ (audit_within _ _ _ _ _ (Within.refl s)))
  rw [enterQuiet_again quiet, noted]

theorem enterQuiet_faults_again {s : State} (quiet : s.faults.quiet = true) (cause : Nat) :
    (enterQuiet s cause).faults = { s.faults with cnt := satAdd 0xFF s.faults.cnt 1 } := by
  rw [enterQuiet_again quiet]
  dsimp only
  rw [quietNoted_faults]

end Sys2Proof.Machine
end

section
/-! The timebase's settings and servo; the Keeper's clock, watchdog and self-test (R389, R442, R445, R447, R448, R523). -/

namespace Sys2Proof.Machine

open Sys2Proof.Claims

/-! ### The timebase (R442, R445, R523) -/

theorem tbLocked_iff (s : State) : tbLocked s = true ↔ fldGet s .tbStatus 0 2 2 = 1 := by
  rw [fldGet, fld_bit, tbLocked, fbit]
  cases (regGet s .tbStatus 0).getLsbD 2 <;> decide

theorem tbLocked_false_iff (s : State) : tbLocked s = false ↔ fldGet s .tbStatus 0 2 2 = 0 := by
  rw [fldGet, fld_bit, tbLocked, fbit]
  cases (regGet s .tbStatus 0).getLsbD 2 <;> decide

/-- STEPPED set by the device leaves every other bit. -/
theorem fldGet_stepped (s : State) {i : Nat} (other : i ≠ 3) : fldGet (setBits s .tbStatus 0 (maskOf 3 3)) .tbStatus 0 i i = fldGet s .tbStatus 0 i i := by
  have clear_ : (maskOf 3 3).getLsbD i = false := by
    rw [maskOf, BitVec.getLsbD_ofNat, Nat.testBit_shiftLeft]
    by_cases above : 3 ≤ i
    · have bit : (2 ^ (3 + 1 - 3) - 1).testBit (i - 3) = false := by
        obtain ⟨n, rfl⟩ : ∃ n, i = 4 + n := ⟨i - 4, by omega⟩
        have one : (2 ^ (3 + 1 - 3) - 1 : Nat) = 1 := rfl
        have place : 4 + n - 3 = n + 1 := by omega
        rw [one, place, Nat.testBit_succ]
        simp
      rw [bit, Bool.and_false, Bool.and_false]
    · rw [decide_eq_false above, Bool.false_and, Bool.and_false]
  rw [fldGet, fldGet, fld_bit, fld_bit, setBits, regGet_regSet, BitVec.getLsbD_or, clear_, Bool.or_false]

/-- A Sync after its step. -/
def syncStepped (s : State) (m : PtpMessage) : State :=
  if 10 ^ 6 < m.offsetNs then { setBits s .tbStatus 0 (maskOf 3 3) with now := s.now + m.offsetNs.toNat } else s

/-- The good Syncs in a row after one with an offset. -/
def syncRun (s : State) (m : PtpMessage) : Nat := if m.offsetNs.natAbs < 1000 then s.ptpGood + 1 else 0

/-- A Sync counted. -/
def syncCounted (s : State) (m : PtpMessage) : State := { syncStepped s m with ptpGood := min 16 (syncRun s m) }

theorem syncStepped_ptpGood (s : State) (m : PtpMessage) : (syncStepped s m).ptpGood = s.ptpGood := by
  unfold syncStepped
  split <;> rfl

theorem ptpSync_eq {s : State} {port dom : Nat} (selected : fldGet s .tbPtp 0 3 0 = port) (domain : fldGet s .tbPtp 0 15 8 = dom)
    (on_ : s.supply.power = 1 ∨ s.supply.power = 2) (up : domOut s (2 + 2 * port) = false) (m : PtpMessage) :
    ptpSync s port dom m = if 16 ≤ syncRun s m then raiseLock (syncCounted s m) else syncCounted s m := by
  unfold ptpSync
  rw [if_neg (by simp [selected, domain, up]; omega)]
  have same : (if m.offsetNs.natAbs < 1000 then (syncStepped s m).ptpGood + 1 else 0) = syncRun s m := by rw [syncStepped_ptpGood, syncRun]
  rw [syncCounted, ← same]
  rfl

theorem raiseLock_frame (s : State) : raiseLock s = { s with regs := (raiseLock s).regs } := by
  unfold raiseLock
  split <;> rfl

theorem raiseLock_now (s : State) : (raiseLock s).now = s.now := by rw [raiseLock_frame]

theorem raiseLock_stepped (s : State) : fldGet (raiseLock s) .tbStatus 0 3 3 = fldGet s .tbStatus 0 3 3 := by
  unfold raiseLock
  split
  · rfl
  · rw [fldGet, regGet_regSet, fld_putFld_apart _ _ (by decide), fld_putFld_apart _ _ (by decide), fld_putFld_apart _ _ (by decide), fldGet]

theorem raiseLock_locks {s : State} (unlocked : fldGet s .tbStatus 0 2 2 = 0) : fldGet (raiseLock s) .tbStatus 0 2 2 = 1 ∧
    fldGet (raiseLock s) .tbStatus 0 1 1 = 0 ∧ fldGet (raiseLock s) .tbStatus 0 0 0 = 0 ∧ fldGet (raiseLock s) .tbStatus 0 63 32 = 0 := by
  obtain ⟨lock, bridged, coarse, unc⟩ := raiseLock_fields ((tbLocked_false_iff s).2 unlocked)
  exact ⟨lock, coarse, bridged, unc⟩

/-- A Sync whose interval is not the sixteenth good one. -/
theorem ptpSync_short {s : State} {port dom : Nat} (selected : fldGet s .tbPtp 0 3 0 = port) (domain : fldGet s .tbPtp 0 15 8 = dom)
    (on_ : s.supply.power = 1 ∨ s.supply.power = 2) (up : domOut s (2 + 2 * port) = false) {m : PtpMessage} (short : syncRun s m < 16) :
    ptpSync s port dom m = syncCounted s m := by
  rw [ptpSync_eq selected domain on_ up, if_neg (by omega)]

/-- R442: what a Sync on the selected port and domain does. -/
theorem ptpSync_acts {s : State} {port dom : Nat} (selected : fldGet s .tbPtp 0 3 0 = port) (domain : fldGet s .tbPtp 0 15 8 = dom)
    (on_ : s.supply.power = 1 ∨ s.supply.power = 2) (up : domOut s (2 + 2 * port) = false) (m : PtpMessage) :
    (10 ^ 6 < m.offsetNs → (ptpSync s port dom m).now = s.now + m.offsetNs.toNat ∧ fldGet (ptpSync s port dom m) .tbStatus 0 3 3 = 1 ∧
      (ptpSync s port dom m).ptpGood = 0 ∧ fldGet (ptpSync s port dom m) .tbStatus 0 2 2 = fldGet s .tbStatus 0 2 2) ∧
    (m.offsetNs ≤ 10 ^ 6 → (ptpSync s port dom m).now = s.now ∧ fldGet (ptpSync s port dom m) .tbStatus 0 3 3 = fldGet s .tbStatus 0 3 3) ∧
    (m.offsetNs.natAbs < 1000 → (ptpSync s port dom m).ptpGood = min 16 (s.ptpGood + 1) ∧
      (15 ≤ s.ptpGood → fldGet s .tbStatus 0 2 2 = 0 → fldGet (ptpSync s port dom m) .tbStatus 0 2 2 = 1 ∧
        fldGet (ptpSync s port dom m) .tbStatus 0 1 1 = 0 ∧ fldGet (ptpSync s port dom m) .tbStatus 0 0 0 = 0 ∧
        fldGet (ptpSync s port dom m) .tbStatus 0 63 32 = 0) ∧
      (s.ptpGood < 15 → (ptpSync s port dom m).regs = s.regs)) ∧
    (1000 ≤ m.offsetNs.natAbs → (ptpSync s port dom m).ptpGood = 0) := by
  have steady : m.offsetNs ≤ 10 ^ 6 → syncStepped s m = s := fun near => if_neg (by omega)
  have run : m.offsetNs.natAbs < 1000 → syncRun s m = s.ptpGood + 1 := fun close => if_pos close
  have broken : 1000 ≤ m.offsetNs.natAbs → ptpSync s port dom m = syncCounted s m ∧ (syncCounted s m).ptpGood = 0 := fun far => by
    have none_ : syncRun s m = 0 := if_neg (by omega)
    exact ⟨ptpSync_short selected domain on_ up (by omega), by rw [syncCounted, none_]; rfl⟩
  refine ⟨fun far => ?_, fun near => ?_, fun close => ⟨?_, fun long unlocked => ?_, fun short => ?_⟩, fun far => ?_⟩
  · obtain ⟨counted, zero⟩ := broken (by omega)
    have stepped : syncStepped s m = { setBits s .tbStatus 0 (maskOf 3 3) with now := s.now + m.offsetNs.toNat } := if_pos far
    rw [counted]
    refine ⟨by rw [syncCounted, stepped], ?_, zero, ?_⟩
    · rw [syncCounted, stepped]
      exact fldGet_setBits s .tbStatus 0 (by decide)
    · rw [syncCounted, stepped]
      exact fldGet_stepped s (by decide)
  · rw [ptpSync_eq selected domain on_ up]
    have same := steady near
    split
    · rw [raiseLock_stepped, raiseLock_now, syncCounted, same]
      exact ⟨rfl, rfl⟩
    · rw [syncCounted, same]
      exact ⟨rfl, rfl⟩
  · rw [ptpSync_eq selected domain on_ up, run close]
    split
    · rw [raiseLock_frame, syncCounted, run close]
    · rw [syncCounted, run close]
  · rw [ptpSync_eq selected domain on_ up, run close, if_pos (by omega), syncCounted, steady (by omega)]
    exact raiseLock_locks (s := { s with ptpGood := min 16 (syncRun s m) }) unlocked
  · rw [ptpSync_eq selected domain on_ up, run close, if_neg (by omega), syncCounted, steady (by omega)]
  · rw [(broken far).1, (broken far).2]

theorem ppsMuxed_iff (s : State) : ppsMuxed s = true ↔ ∃ i, i < 64 ∧ kcMux s.kc i = 1 := by
  simp only [ppsMuxed, List.any_eq_true, List.mem_range, beq_iff_eq]

/-! ### The Keeper (R447, R448) -/

/-- No count of a quiet entry reaches the events of KEEP_TAMP, nor its count of glitches. -/
theorem keepTamp_sheltered {b : Nat} (place : b < 32 ∨ 47 < b) : Sheltered .keepTamp b where
  stat := by decide
  drop := by decide
  sat := by decide
  attempts := .inr ⟨rfl, place⟩
  knocks := .inl (by decide)

theorem enterQuiet_keepTamp (s : State) (cause : Nat) {i : Nat} (low : i < 32) : fldGet (enterQuiet s cause) .keepTamp 0 i i = fldGet s .keepTamp 0 i i :=
  fldGet_of_bits fun b above below => enterQuiet_bit (keepTamp_sheltered (.inl (by omega))) (by decide) s cause

/-- A Keeper's event with a record of it. -/
theorem keeperRecord_next {s t : State} (audit_ : t.audit = s.audit) (engs : t.engs = s.engs) (n : Nat) : auditFull s = false → s.audit.summaries = [] →
    ∃ r, (keeperRecord t n).audit.tail = s.audit.tail ++ [r] ∧ r.kind = 0x16 ∧ r.source = 3 ∧ r.body = padTo 64 [byte n] :=
  fun room none_ => audit_next audit_ engs room none_ 3 0xFF 0x16 [byte n]

theorem keeperRecord_frame (s : State) (n : Nat) : Within (· = .audit) s (keeperRecord s n) := audit_frame _ _ _ _ _

theorem keeperRecord_keeper (s : State) (n : Nat) : (keeperRecord s n).keeper = s.keeper := (keeperRecord_frame s n).same .keeper (by decide)

theorem fldGet_keeperRecord (s : State) (n : Nat) (r : Reg) (ix hi lo : Nat) : fldGet (keeperRecord s n) r ix hi lo = fldGet s r ix hi lo :=
  fldGet_of_regs ((keeperRecord_frame s n).same .regs (by decide)) r ix hi lo

theorem tampBit_sets (s : State) {i : Nat} (hi : i < 64) : fldGet (tampBit s i) .keepTamp 0 i i = 1 := fldGet_setBits s .keepTamp 0 hi

/-- The crystal qualified. -/
theorem crystalGood_acts {s : State} (on_ : s.supply.power ≠ 0) (rc : s.keeper.crystal = false) : (crystalGood s).keeper.crystal = true ∧
    (crystalGood s).keeper.crystalTried = true ∧
    (s.keeper.crystalTried = true → auditFull s = false → s.audit.summaries = [] →
      ∃ r, (crystalGood s).audit.tail = s.audit.tail ++ [r] ∧ r.kind = 0x16 ∧ r.source = 3 ∧ r.body = padTo 64 [byte 2]) ∧
    (s.keeper.crystalTried = false → (crystalGood s).audit = s.audit) := by
  unfold crystalGood
  rw [if_neg (by simp [on_, rc])]
  dsimp only
  cases tried : s.keeper.crystalTried with
  | true =>
    rw [if_pos rfl, keeperRecord_keeper]
    exact ⟨rfl, rfl, fun _ => keeperRecord_next (s := s) (t := modKeeper s _) rfl rfl 2, fun first => absurd first (by decide)⟩
  | false =>
    rw [if_neg (by decide)]
    exact ⟨rfl, rfl, fun again => absurd again (by decide), fun _ => rfl⟩

/-- The crystal's event and its record. -/
theorem crystalEvent_acts (s : State) (f : Keeper → Keeper) : (keeperRecord (tampBit (modKeeper s f) 5) 1).keeper = f s.keeper ∧
    fldGet (keeperRecord (tampBit (modKeeper s f) 5) 1) .keepTamp 0 5 5 = 1 ∧ (auditFull s = false → s.audit.summaries = [] →
      ∃ r, (keeperRecord (tampBit (modKeeper s f) 5) 1).audit.tail = s.audit.tail ++ [r] ∧ r.kind = 0x16 ∧ r.source = 3 ∧ r.body = padTo 64 [byte 1]) := by
  refine ⟨by rw [keeperRecord_keeper]; rfl, ?_, keeperRecord_next (s := s) (t := tampBit (modKeeper s f) 5) rfl rfl 1⟩
  rw [fldGet_keeperRecord]
  exact tampBit_sets _ (by decide)

theorem crystalGone_eq {s : State} (on_ : s.supply.power ≠ 0) (runs : s.keeper.crystal = true) :
    crystalGone s = keeperRecord (tampBit (modKeeper s (fun k => { k with crystal := false })) 5) 1 := if_neg (by simp [on_, runs])

theorem crystalLate_eq {s : State} (on_ : s.supply.power ≠ 0) (rc : s.keeper.crystal = false) (first : s.keeper.crystalTried = false)
    (late : tallyMs 2000 ≤ s.tally) : crystalLate s = keeperRecord (tampBit (modKeeper s (fun k => { k with crystalTried := true })) 5) 1 :=
  if_neg (by simp [on_, rc, first]; exact late)

/-- A cause of the Keeper while the device runs: the wake event of that instant, and the entry. -/
theorem keeperQuiet_runs {s : State} (on_ : s.supply.power = 1) (cause : Nat) :
    keeperQuiet s cause = enterQuiet { s with supply := { s.supply with earlyWake := some (5, s.now) } } cause := by
  have event : wakeEvent s 5 = { s with supply := { s.supply with earlyWake := some (5, s.now) } } := by
    have enabled : wakeEnabled s 5 = true := rfl
    exact (if_neg (by rw [enabled]; decide)).trans (if_pos on_)
  have awake : watchWakes (wakeEvent s 5) = wakeEvent s 5 := by
    unfold watchWakes
    split
    · rename_i three _
      rw [event] at three
      exact absurd (on_.symm.trans three) (by decide)
    · rfl
  rw [keeperQuiet, awake, event]

/-- What a cause of the Keeper leaves. -/
theorem keeperQuiet_acts {s : State} (on_ : s.supply.power = 1) (pinned : s.faults.quiet = true → s.pins.ready = false) (evt : fldGet s .keepTamp 0 4 4 = 1) :
    (keeperQuiet s 2).faults.quiet = true ∧ fldGet (keeperQuiet s 2) .keepTamp 0 4 4 = 1 ∧ (keeperQuiet s 2).pins.ready = false ∧
      (s.faults.quiet = false → (keeperQuiet s 2).faults.cause = 2 ∧ (keeperQuiet s 2).faults.cnt = 0) ∧
      (s.faults.quiet = true → (keeperQuiet s 2).faults.cause = s.faults.cause ∧ (keeperQuiet s 2).faults.cnt = satAdd 0xFF s.faults.cnt 1) := by
  have faults : { s with supply := { s.supply with earlyWake := some (5, s.now) } }.faults = s.faults := rfl
  have pins : { s with supply := { s.supply with earlyWake := some (5, s.now) } }.pins = s.pins := rfl
  have regs : { s with supply := { s.supply with earlyWake := some (5, s.now) } }.regs = s.regs := rfl
  rw [keeperQuiet_runs on_, enterQuiet_keepTamp _ _ (by decide), fldGet_of_regs regs, evt]
  generalize { s with supply := { s.supply with earlyWake := some (5, s.now) } } = t at faults pins
  cases quiet : s.faults.quiet with
  | true =>
    have again : t.faults.quiet = true := by rw [faults, quiet]
    rw [enterQuiet_faults_again again, enterQuiet_pins_again again, faults, pins]
    exact ⟨quiet, rfl, pinned quiet, fun h => absurd h (by decide), fun _ => ⟨rfl, rfl⟩⟩
  | false =>
    have first : t.faults.quiet = false := by rw [faults, quiet]
    rw [enterQuiet_faults first]
    exact ⟨rfl, rfl, (enterQuiet_pinsLow first 2).ready, fun _ => ⟨rfl, rfl⟩, fun h => absurd h (by decide)⟩

/-- Settles O41: the servo by its branches, the Keeper by its events. -/
theorem timebaseAndKeeper : Obligations.TimebaseAndKeeper := by
  unfold Obligations.TimebaseAndKeeper
  refine ⟨fun s => ?_, fun s on_ => ?_⟩
  · intro bit
    refine ⟨fun v unlocked forward => ?_, fun v why => ?_, fun p v other => completes_same rfl (if_pos (.inl fun zero => other (Fin.ext zero))),
      fun port dom m selected domain on_ up _ => ⟨_, rfl, ptpSync_acts selected domain on_ up m⟩, fun port dom m why => completes_same rfl ?_,
      ⟨_, rfl, ?_, rfl, rfl⟩, fun locked second muxed => ?_, fun why => completes_same rfl (if_neg fun h => ?_)⟩
    · exact completes_to rfl (if_neg (by simp [(tbLocked_false_iff s).2 unlocked]; omega)) rfl
    · refine completes_same rfl (if_pos ?_)
      rcases why with locked | back
      · exact .inr (.inl ((tbLocked_iff s).2 locked))
      · exact .inr (.inr back)
    · rcases why with port_ | domain
      · exact if_pos (.inl port_)
      · exact if_pos (.inr (.inl domain))
    · exact fldGet_fldSet s .tbStatus 0 0 (by decide)
    · exact completes_to rfl (if_pos ⟨(tbLocked_iff s).2 locked, second, (ppsMuxed_iff s).2 muxed⟩) ⟨rfl, rfl⟩
    · obtain ⟨locked, second, muxed⟩ := h
      obtain ⟨i, hi, mux⟩ := (ppsMuxed_iff s).1 muxed
      rcases why with unlocked | off | none_
      · exact absurd (((tbLocked_iff s).1 locked).symm.trans unlocked) (by decide)
      · exact off second
      · exact none_ i hi mux
  · intro evt records quiet pinned
    have dead : s.supply.power = 1 → pinned → ∀ t : State, t.supply = s.supply → t.faults = s.faults → t.pins = s.pins → fldGet t .keepTamp 0 4 4 = 1 →
        quiet (keeperQuiet t 2) := fun power low t supply faults pins set_ => by
      have acts := keeperQuiet_acts (s := t) (by rw [supply, power]) (by rw [faults, pins]; exact low) set_
      rw [faults] at acts
      exact acts
    refine ⟨fun rc => ⟨_, rfl, crystalGood_acts on_ rc⟩, fun runs => completes_same rfl (if_pos (.inr runs)), fun runs => ?_,
      fun rc => completes_same rfl (if_pos (.inr (by rw [rc]; rfl))), fun rc first late => ?_, fun early => completes_same rfl (if_pos (.inr (.inr (.inr early)))),
      fun power low => ?_, fun power low => ?_, completes_same rfl (if_pos (.inr rfl))⟩
    · obtain ⟨keeper, event, record⟩ := crystalEvent_acts s (fun k => { k with crystal := false })
      exact completes_to rfl (crystalGone_eq on_ runs) ⟨by rw [keeper], event, record⟩
    · obtain ⟨keeper, event, record⟩ := crystalEvent_acts s (fun k => { k with crystalTried := true })
      exact completes_to rfl (crystalLate_eq on_ rc first late) ⟨by rw [keeper]; exact rc, event, record⟩
    · exact completes_to rfl (if_neg on_) (dead power low (tampBit s 4) rfl rfl rfl (tampBit_sets s (by decide)))
    · have frame := keeperRecord_frame (tampBit s 4) 3
      have set_ : fldGet (keeperRecord (tampBit s 4) 3) .keepTamp 0 4 4 = 1 := by
        rw [fldGet_keeperRecord]
        exact tampBit_sets s (by decide)
      exact completes_to rfl (if_neg (by simp [on_])) (dead power low (keeperRecord (tampBit s 4) 3) (frame.same .supply (by decide))
        (frame.same .faults (by decide)) (frame.same .pins (by decide)) set_)

end Sys2Proof.Machine
end

section
/-! What a tamper response empties stays empty through the wake and the quiet entry that follow it (R451, R452, R483). -/

namespace Sys2Proof.Machine

open Sys2Proof.Claims

/-! ### What is emptied -/

/-- The key store, the counters, the sessions, the commit and the requests: what a tamper response empties or ends. -/
structure Emptied where
  slots : Tab (List KCopy)
  pool : List Staged
  counters : List Counter
  sessions : Tab Session
  lost : Bool
  commit : Option Commit
  waiting : List Nat
  attest : Nat × Nat
  report : Option (Nat × Bool × Pieces × Bytes) × Nat

/-- What a state holds of it. -/
def emptied (s : State) : Emptied where
  slots := s.ks.slots
  pool := s.ks.pool
  counters := s.guard.counters
  sessions := s.intake.sessions
  lost := s.dramLost
  commit := s.turns.commit
  waiting := s.turns.waiting
  attest := (s.req.attest0, s.req.attest1)
  report := (s.audit.sealing, s.audit.result)

/-- The parts that hold nothing of it. -/
abbrev Unwiped (p : Part) : Prop := p ∉ [Part.ks, .guard, .intake, .dramLost, .turns, .req, .audit]

theorem emptied_of_within {F : Part → Prop} {s t : State} (w : Within F s t) (apart : ∀ p, F p → Unwiped p) : emptied t = emptied s := by
  have same : ∀ p ∈ [Part.ks, .guard, .intake, .dramLost, .turns, .req, .audit], ¬ F p := fun p listed inside => apart p inside listed
  have ks : t.ks = s.ks := w.same .ks (same _ (by decide))
  have guard : t.guard = s.guard := w.same .guard (same _ (by decide))
  have intake : t.intake = s.intake := w.same .intake (same _ (by decide))
  have lost : t.dramLost = s.dramLost := w.same .dramLost (same _ (by decide))
  have turns : t.turns = s.turns := w.same .turns (same _ (by decide))
  have req : t.req = s.req := w.same .req (same _ (by decide))
  have audit : t.audit = s.audit := w.same .audit (same _ (by decide))
  rw [emptied, emptied, ks, guard, intake, lost, turns, req, audit]

/-- A step within the other parts empties nothing and fills nothing. -/
theorem emptied_kept {s t : State}
    (h : [Has Unwiped .rdata] → [Has Unwiped .free] → [Has Unwiped .now] → [Has Unwiped .tally] → [Has Unwiped .regs] → [Has Unwiped .mem] →
      [Has Unwiped .poison] → [Has Unwiped .threads] → [Has Unwiped .cyls] → [Has Unwiped .krs] → [Has Unwiped .engs] → [Has Unwiped .dmaTlb] →
      [Has Unwiped .inval] → [Has Unwiped .dma] → [Has Unwiped .dmaLast] → [Has Unwiped .kc] → [Has Unwiped .kcPrev] → [Has Unwiped .srcs] →
      [Has Unwiped .arbs] → [Has Unwiped .doms] → [Has Unwiped .xq] → [Has Unwiped .westad] → [Has Unwiped .dbg] → [Has Unwiped .supply] →
      [Has Unwiped .keeper] → [Has Unwiped .faults] → [Has Unwiped .fuses] → [Has Unwiped .boot] → [Has Unwiped .pins] → [Has Unwiped .seeded] →
      [Has Unwiped .trngBad] → [Has Unwiped .ptpGood] → [Has Unwiped .dramKeys] → [Has Unwiped .uartIn] → [Has Unwiped .linkPower] →
      [Has Unwiped .out] → Within Unwiped s t) :
    emptied t = emptied s := by
  have w : Within Unwiped s t := @h ⟨by decide⟩ ⟨by decide⟩ ⟨by decide⟩ ⟨by decide⟩ ⟨by decide⟩ ⟨by decide⟩ ⟨by decide⟩ ⟨by decide⟩ ⟨by decide⟩
    ⟨by decide⟩ ⟨by decide⟩ ⟨by decide⟩ ⟨by decide⟩ ⟨by decide⟩ ⟨by decide⟩ ⟨by decide⟩ ⟨by decide⟩ ⟨by decide⟩ ⟨by decide⟩ ⟨by decide⟩
    ⟨by decide⟩ ⟨by decide⟩ ⟨by decide⟩ ⟨by decide⟩ ⟨by decide⟩ ⟨by decide⟩ ⟨by decide⟩ ⟨by decide⟩ ⟨by decide⟩ ⟨by decide⟩ ⟨by decide⟩
    ⟨by decide⟩ ⟨by decide⟩ ⟨by decide⟩ ⟨by decide⟩ ⟨by decide⟩
  exact emptied_of_within w fun _ inside => inside

theorem emptied_foldl {β : Type} {f : State → β → State} (each : ∀ s x, emptied (f s x) = emptied s) (l : List β) (s : State) :
    emptied (l.foldl f s) = emptied s := view_foldl each l s

/-- What a step that keeps the engines leaves. -/
theorem engs_kept {s t : State}
    (h : [Has (· ≠ .engs) .rdata] → [Has (· ≠ .engs) .free] → [Has (· ≠ .engs) .now] → [Has (· ≠ .engs) .tally] → [Has (· ≠ .engs) .regs] →
      [Has (· ≠ .engs) .mem] → [Has (· ≠ .engs) .poison] → [Has (· ≠ .engs) .threads] → [Has (· ≠ .engs) .cyls] → [Has (· ≠ .engs) .krs] →
      [Has (· ≠ .engs) .dmaTlb] → [Has (· ≠ .engs) .inval] → [Has (· ≠ .engs) .ks] → [Has (· ≠ .engs) .guard] → [Has (· ≠ .engs) .dma] →
      [Has (· ≠ .engs) .dmaLast] → [Has (· ≠ .engs) .intake] → [Has (· ≠ .engs) .kc] → [Has (· ≠ .engs) .kcPrev] → [Has (· ≠ .engs) .turns] →
      [Has (· ≠ .engs) .srcs] → [Has (· ≠ .engs) .arbs] → [Has (· ≠ .engs) .doms] → [Has (· ≠ .engs) .xq] → [Has (· ≠ .engs) .westad] →
      [Has (· ≠ .engs) .dbg] → [Has (· ≠ .engs) .supply] → [Has (· ≠ .engs) .keeper] → [Has (· ≠ .engs) .audit] → [Has (· ≠ .engs) .faults] →
      [Has (· ≠ .engs) .fuses] → [Has (· ≠ .engs) .boot] → [Has (· ≠ .engs) .req] → [Has (· ≠ .engs) .pins] → [Has (· ≠ .engs) .seeded] →
      [Has (· ≠ .engs) .trngBad] → [Has (· ≠ .engs) .ptpGood] → [Has (· ≠ .engs) .dramKeys] → [Has (· ≠ .engs) .dramLost] →
      [Has (· ≠ .engs) .uartIn] → [Has (· ≠ .engs) .linkPower] → [Has (· ≠ .engs) .out] → Within (· ≠ .engs) s t) :
    t.engs = s.engs :=
  ((@h ⟨by decide⟩ ⟨by decide⟩ ⟨by decide⟩ ⟨by decide⟩ ⟨by decide⟩ ⟨by decide⟩ ⟨by decide⟩ ⟨by decide⟩ ⟨by decide⟩ ⟨by decide⟩ ⟨by decide⟩
    ⟨by decide⟩ ⟨by decide⟩ ⟨by decide⟩ ⟨by decide⟩ ⟨by decide⟩ ⟨by decide⟩ ⟨by decide⟩ ⟨by decide⟩ ⟨by decide⟩ ⟨by decide⟩ ⟨by decide⟩
    ⟨by decide⟩ ⟨by decide⟩ ⟨by decide⟩ ⟨by decide⟩ ⟨by decide⟩ ⟨by decide⟩ ⟨by decide⟩ ⟨by decide⟩ ⟨by decide⟩ ⟨by decide⟩ ⟨by decide⟩
    ⟨by decide⟩ ⟨by decide⟩ ⟨by decide⟩ ⟨by decide⟩ ⟨by decide⟩ ⟨by decide⟩ ⟨by decide⟩ ⟨by decide⟩ ⟨by decide⟩).rest .engs).resolve_left (by decide)

/-! ### Records, pins and queues -/

theorem emptied_auditPush (s : State) (source part kind : Nat) (body : Bytes) : emptied (auditPush s source part kind body) = emptied s := rfl

theorem emptied_audit (s : State) (source part kind : Nat) (body : Bytes) : emptied (audit s source part kind body) = emptied s := by
  have summed : emptied (auditSummaries s) = emptied s := emptied_foldl (fun s e => by
    dsimp only
    split <;> rfl) _ s
  unfold audit
  dsimp only
  split
  · exact summed
  · exact summed

theorem emptied_setHolds (s : State) : emptied (setHolds s) = emptied s := emptied_foldl (fun s g => by
  unfold setHold
  dsimp only
  split
  · split <;> rfl
  · split <;> rfl) _ s

theorem emptied_setFlow (s : State) (port : Nat) : emptied (setFlow s port) = emptied s := by
  unfold setFlow
  refine (emptied_foldl (fun s w => ?_) _ _).trans ((emptied_foldl (fun s w => ?_) _ _).trans ?_)
  · rfl
  · rfl
  · rfl

theorem emptied_setPressure (s : State) : emptied (setPressure s) = emptied s := by
  rw [setPressure, emptied_setFlow, emptied_setFlow, emptied_setHolds]

theorem emptied_modCq (s : State) (q : Nat) (f : CmdQueue → CmdQueue) : emptied (modCq s q f) = emptied s := rfl

theorem emptied_judgeHigh (s : State) (q : Nat) : emptied (judgeHigh s q) = emptied s := by
  unfold judgeHigh
  dsimp only
  generalize (if kcHigh s.kc q < (cq s q).occ then true else if (cq s q).occ ≤ kcLow s.kc q then false else (cq s q).high) = h
  split
  · rfl
  · rw [emptied_setPressure, emptied_modCq]

theorem emptied_endCmd (s : State) (c : Cmd) : emptied (endCmd none s c) = emptied s := by
  have freed : endCmd none s c = freeLines s c := rfl
  rw [freed, freeLines, emptied_judgeHigh, emptied_modCq]

theorem emptied_endCmds (s : State) (f : Cmd → Bool) : emptied (endCmds s f none) = emptied s := by
  rw [endCmds_eq]
  have queue : ∀ s q, emptied (endQueue f none s q) = emptied s := fun s q => (emptied_foldl emptied_endCmd _ _).trans (emptied_modCq s q _)
  have held : ∀ s t, emptied (endHeld f none s t) = emptied s := fun s t => (emptied_foldl emptied_endCmd _ _).trans (emptied_kept (putThr_within s t _ (Within.refl s)))
  exact (emptied_foldl held _ _).trans (emptied_foldl queue _ _)

/-! ### The entry, part by part (R483) -/

theorem emptied_quietNoted (s : State) (cause : Nat) : emptied (quietNoted s cause) = emptied s :=
  (emptied_kept (quietBoot_within _ _ (Within.refl _))).trans (emptied_audit s _ _ _ _)

theorem emptied_quietOutputs (s : State) (cause : Nat) : emptied (quietOutputs s cause) = emptied s := by
  have held : emptied (outputsLow s) = emptied s := (emptied_setHolds _).trans rfl
  unfold quietOutputs
  rw [← outputsLow]
  generalize outputsLow s = t at held ⊢
  refine (emptied_kept (emit_within _ _ (within_foldl _ (within_foldl _ (within_foldl _ (Within.refl t) (fun s d h => downDomain_within _ _ h))
    (fun s l h => ?_)) (fun s l h => dropLink_within _ _ h)))).trans held
  exact within_ite h (setLane_within _ _ _ h)

theorem emptied_quietItems (s : State) : emptied (quietItems s) = emptied s := by
  unfold quietItems
  refine (emptied_foldl (fun s q => ?_) _ _).trans (emptied_endCmds s _)
  split <;> rfl

theorem emptied_quietThread (s : State) (t : Nat) : emptied (quietThread s t) = emptied s := emptied_kept (quietThread_within s t (Within.refl s))

theorem emptied_settle (s : State) : emptied (settle s) = emptied s := emptied_kept (settle_within s (Within.refl s))

theorem emptied_endDebug (s : State) : emptied (endDebug s) = emptied s := by
  unfold endDebug
  split
  · rfl
  · rename_i p _
    refine (emptied_foldl (fun s t => emptied_kept (releaseThr_within s t .debug (Within.refl s))) _ _).trans ?_
    exact (emptied_audit _ _ _ _ _).trans rfl

/-! ### Engines without a job -/

theorem NoJobs.of_jobView {s t : State} (none_ : NoJobs s) (same : jobView t = jobView s) : NoJobs t := fun e =>
  ⟨(queue_of_jobView same e).trans (none_ e).1, (running_of_jobView same e).trans (none_ e).2⟩

theorem withdrawSeat_noJobs {s : State} (none_ : NoJobs s) (t : Nat) : NoJobs (withdrawSeat s t) := by
  refine foldl_keeps (P := NoJobs) (fun s i none_ => ?_) _ none_
  dsimp only
  split
  · exact none_.of_jobView ((jobView_decideSeat _ _ _ _).trans (jobView_modEng s _ fun _ => ⟨rfl, rfl⟩))
  · exact none_

theorem interrupt_noJobs {s : State} (none_ : NoJobs s) (t : Nat) (k : Option SyncKnock) : NoJobs (interrupt s t k) := by
  unfold interrupt
  dsimp only
  generalize cut : modThr s t _ = u
  have same : u.engs = s.engs := by rw [← cut]; exact engs_kept (modThr_within _ _ _ (Within.refl s))
  have seatless : NoJobs (withdrawSeat u t) := withdrawSeat_noJobs (none_.congr same) t
  split
  · exact seatless.congr (engs_kept (abandonDiv_within _ _ (Within.refl _)))
  · exact seatless

theorem quietThread_noJobs {s : State} (none_ : NoJobs s) (t : Nat) : NoJobs (quietThread s t) := by
  have stopped := interrupt_noJobs none_ t none
  unfold quietThread
  generalize interrupt s t none = u at stopped ⊢
  refine stopped.congr (engs_kept ?_)
  exact within_ite (modThr_within _ _ _ (modCyl_within _ _ _ (drainThr_within _ _ (modThr_within _ _ _ (Within.refl u)))))
    (freezeNow_within _ _ _ (modCyl_within _ _ _ (drainThr_within _ _ (modThr_within _ _ _ (Within.refl u)))))

/-- Engines without a job keep none, and no job of theirs ends. -/
theorem quietJobs_of_noJobs {s : State} (none_ : NoJobs s) : NoJobs (quietJobs s) ∧ emptied (quietJobs s) = emptied s := by
  unfold quietJobs
  rw [endJobs_none none_]
  refine ⟨foldl_keeps (P := NoJobs) (fun s e none_ => ?_) _ none_, emptied_foldl (fun s e => ?_) _ s⟩
  · exact none_.of_jobView (jobView_modEng s e fun _ => ⟨rfl, rfl⟩)
  · rfl

/-! ### The whole entry, from a state that is emptied -/

/-- A state without keys staged, sessions, a commit, or jobs. -/
structure Bare (s : State) : Prop where
  pool : s.ks.pool = []
  sessions : s.intake.sessions = []
  commit : s.turns.commit = none
  waiting : s.turns.waiting = []
  jobs : NoJobs s

theorem Bare.congr {s t : State} (bare : Bare s) (same : emptied t = emptied s) (jobs : NoJobs t) : Bare t where
  pool := (congrArg Emptied.pool same).trans bare.pool
  sessions := (congrArg Emptied.sessions same).trans bare.sessions
  commit := (congrArg Emptied.commit same).trans bare.commit
  waiting := (congrArg Emptied.waiting same).trans bare.waiting
  jobs := jobs

theorem abandonCommit_idle {s : State} (none_ : s.turns.commit = none) (idle : s.turns.waiting = []) : abandonCommit s = s := by
  have ended : failCommit s 5 = s := by
    unfold failCommit
    rw [none_]
  have same : { s with turns := { s.turns with waiting := [] } } = s := by rw [← idle]
  unfold abandonCommit
  rw [ended]
  dsimp only
  rw [idle]
  exact same

theorem emptied_quietServed {s : State} (none_ : NoJobs s) (cause : Nat) : NoJobs (quietServed s cause) ∧ emptied (quietServed s cause) = emptied s := by
  have shut : emptied (quietShut s cause) = emptied s := (emptied_quietItems _).trans (emptied_quietOutputs s cause)
  have jobs : NoJobs (quietShut s cause) := none_.congr (engs_kept (quietItems_within _ (quietOutputs_within _ _ (Within.refl s))))
  obtain ⟨idle, same⟩ := quietJobs_of_noJobs (foldl_keeps (P := NoJobs) (fun _ t none_ => quietThread_noJobs none_ t) (serviceThreads (quietShut s cause)) jobs)
  exact ⟨idle, same.trans ((emptied_foldl emptied_quietThread _ _).trans shut)⟩

theorem emptied_quietEnded {s : State} (pool : s.ks.pool = []) (sessions : s.intake.sessions = []) : emptied (quietEnded s) = emptied s := by
  have exported : emptied (exportEnded (putAgree s none)) = emptied s := by
    unfold exportEnded
    split <;> rfl
  unfold quietEnded
  generalize exportEnded (putAgree s none) = u at exported ⊢
  have none_ : u.intake.sessions = [] := (congrArg Emptied.sessions exported).trans sessions
  have empty : u.ks.pool = [] := (congrArg Emptied.pool exported).trans pool
  have closed : quietSessions u = u := by
    unfold quietSessions
    rw [none_]
    rfl
  have untaken : emptied (untake u) = emptied u := by
    rw [untake, emptied, emptied, empty]
    rfl
  rw [closed, emptied_settle, emptied_endDebug, untaken, exported]

theorem emptied_quietMarked (s : State) (cause : Nat) : emptied (quietMarked s cause) = emptied s := rfl

theorem quietMarked_engs (s : State) (cause : Nat) : (quietMarked s cause).engs = s.engs := rfl

theorem emptied_quietSealed (s : State) : emptied (quietSealed s) = emptied s := rfl

theorem quietSealed_engs (s : State) : (quietSealed s).engs = s.engs := rfl

/-- A quiet entry leaves what is emptied as it is. -/
theorem emptied_enterQuiet {s : State} (bare : Bare s) (cause : Nat) : emptied (enterQuiet s cause) = emptied s := by
  cases quiet : s.faults.quiet with
  | true =>
    rw [enterQuiet_again quiet]
    have counted : ∀ t : State, emptied { t with faults := { t.faults with cnt := satAdd 0xFF t.faults.cnt 1 } } = emptied t := fun _ => rfl
    rw [counted, emptied_quietNoted]
  | false =>
    have marked := (emptied_quietMarked (quietNoted s cause) cause).trans (emptied_quietNoted s cause)
    have idle : (quietNoted s cause).engs = s.engs := engs_kept (quietBoot_within _ _ (audit_within _ _ _ _ _ (Within.refl s)))
    have noted : NoJobs (quietMarked (quietNoted s cause) cause) := NoJobs.congr bare.jobs ((quietMarked_engs _ _).trans idle)
    rw [enterQuiet_enters quiet]
    generalize quietMarked (quietNoted s cause) cause = t at marked noted ⊢
    obtain ⟨jobs, served⟩ := emptied_quietServed noted cause
    have same : emptied (quietSealed (quietServed t cause)) = emptied s := (emptied_quietSealed _).trans (served.trans marked)
    have here : Bare (quietSealed (quietServed t cause)) := bare.congr same (jobs.congr (quietSealed_engs _))
    rw [abandonCommit_idle here.commit here.waiting, emptied_quietEnded here.pool here.sessions]
    exact same

/-! ### A wake before the entry (R435) -/

theorem emptied_bridge (s : State) : emptied (bridge s) = emptied s := emptied_kept (bridge_within _ (Within.refl s))

theorem emptied_wakeBridged (s : State) (c : Nat) : emptied (wakeBridged s c) = emptied s := by
  have rails : emptied (wakeRails (fldSet s .pwrSleep 0 15 12 c)) = emptied (fldSet s .pwrSleep 0 15 12 c) :=
    emptied_of_within (wakeRails_frame _) (by decide)
  have woken : ∀ t f, emptied (modSupply t f) = emptied t := fun _ _ => rfl
  rw [wakeBridged, woken, emptied_bridge, rails]
  rfl

theorem emptied_blankLoad (s : State) (k : Nat) : emptied (blankLoad s k) = emptied s := emptied_kept (blankLoad_within s k (Within.refl s))

theorem emptied_wakeResumed {s : State} (none_ : s.intake.sessions = []) : emptied (wakeResumed s) = emptied s := by
  rw [wakeResumed_eq]
  have released : ∀ t : State, emptied ((ownedThreads t).foldl (fun s t => releaseThr s t .watch) t) = emptied t := fun t =>
    emptied_foldl (fun s t => emptied_kept (releaseThr_within s t .watch (Within.refl s))) _ t
  have reloaded : ∀ t : State, t.intake.sessions = [] → emptied (reloadBlanks (idleSessions t)) = emptied t := fun t none_ => by
    have idle : idleSessions t = t := by
      unfold idleSessions
      rw [none_]
      rfl
    rw [idle]
    exact emptied_kept (reloadBlanks_within _ (Within.refl t))
  have drawn : ∀ t : State, emptied (if t.trngBad then t else seedArbiters t) = emptied t := fun t =>
    emptied_kept (within_ite (Within.refl t) (seedArbiters_within _ (Within.refl t)))
  have reset : ∀ t : State, emptied (unseedArbiters ([13, 14, 15, 16].foldl (fun s d => modDom s d (fun x => { x with down := heldDown s d })) t)) = emptied t :=
    fun t => emptied_kept (unseedArbiters_within _ (within_foldl _ (Within.refl t) (fun s d h => modDom_within s d _ h)))
  have before := (drawn _).trans (reset s)
  rw [released, wakeReloaded]
  exact (reloaded _ ((congrArg Emptied.sessions before).trans none_)).trans before

/-- A wake leaves what is emptied as it is. -/
theorem emptied_watchWakes {s : State} (bare : Bare s) : emptied (watchWakes s) = emptied s := by
  by_cases wakes : s.supply.power = 3 ∧ s.supply.wakeLatched.isSome = true
  · obtain ⟨watch, latched⟩ := wakes
    obtain ⟨c, latched⟩ := Option.isSome_iff_exists.1 latched
    have bridged := emptied_wakeBridged s c
    have told : emptied (wakeTold s c) = emptied s := by
      have resumed := emptied_wakeResumed ((congrArg Emptied.sessions bridged).trans bare.sessions)
      have tells : emptied (wakeTold s c) = emptied (wakeResumed (wakeBridged s c)) :=
        emptied_kept (pwrEvt_within _ _ (sleepStatus_within _ _ (Within.refl (wakeResumed (wakeBridged s c)))))
      exact tells.trans (resumed.trans bridged)
    rw [watchWakes_told watch latched bare.waiting, emptied_settle, told]
  · unfold watchWakes
    split
    · rename_i watch latched
      exact absurd ⟨watch, by rw [latched]; rfl⟩ wakes
    · rfl

theorem watchWakes_engs (s : State) : (watchWakes s).engs = s.engs := engs_kept (watchWakes_within s (Within.refl s))

/-- A cause of the Keeper leaves what is emptied as it is. -/
theorem emptied_keeperQuiet {s : State} (bare : Bare s) (cause : Nat) : emptied (keeperQuiet s cause) = emptied s := by
  have event : emptied (wakeEvent s 5) = emptied s := emptied_kept (wakeEvent_within s 5 (Within.refl s))
  have told : Bare (wakeEvent s 5) := bare.congr event (bare.jobs.congr (engs_kept (wakeEvent_within s 5 (Within.refl s))))
  have woken := emptied_watchWakes told
  rw [keeperQuiet, emptied_enterQuiet (told.congr woken (told.jobs.congr (watchWakes_engs _))), woken, event]

end Sys2Proof.Machine
end

section
/-! Tamper events and their responses (R449 to R453). -/

namespace Sys2Proof.Machine

open Sys2Proof.Claims

/-! ### The zeroization set (R451) -/

/-- Memories, keys and counters zeroized. -/
def keysZeroed (s : State) : State :=
  let s := zeroizeKeys (clearMem s scratchBase vaultEnd)
  { s with guard := { s.guard with counters := [] } }

/-- Memories, keys, counters and intake zeroized. -/
def storesZeroed (s : State) : State := zeroIntake (keysZeroed s)

/-- Every thread zeroized. -/
def threadsZeroed (s : State) : State := (s.threads.map (·.1)).foldl zeroThread s

/-- The tables of the set: DRAM keys, keyring bits and DRBGs, engines, and divisions. -/
def tablesZeroed (s : State) : State :=
  { s with
    dramKeys := [], dramLost := true
    krs := s.krs.foldl (fun t kv => tset krInit t kv.1 { kv.2 with kbits := [], drbg := [] }) []
    engs := s.engs.foldl (fun t kv => tset engInit t kv.1 { kv.2 with seats := [], waiting := [], queue := [], running := [] }) []
    cyls := s.cyls.foldl (fun t kv => tset cylInit t kv.1 { kv.2 with divBusy := none }) [] }

/-- What a breach takes besides. -/
def rootLost (k : Keeper) : Keeper := { k with root := none, identity := false, breach := true }

/-- What a breach takes, where the event is one. -/
def rootLostIf (s : State) (breach : Bool) : State := if breach then modKeeper s rootLost else s

theorem zeroizeSet_eq (s : State) (breach : Bool) : zeroizeSet s breach = rootLostIf (tablesZeroed (threadsZeroed (storesZeroed s))) breach := rfl

theorem emptied_storesZeroed (s : State) : emptied (storesZeroed s) = { emptied s with slots := [], pool := [], counters := [], sessions := [] } := by
  have keys : emptied (keysZeroed s) = { emptied s with slots := [], pool := [], counters := [] } := rfl
  unfold storesZeroed
  generalize keysZeroed s = t at keys
  unfold zeroIntake
  rw [emptied_setPressure]
  have items : ∀ x : Emptied, emptied t = x → emptied { t with intake := { t.intake with
      cmdq := [], rspq := [], sessions := [], tlm := [], windows := [], smbus := [], smbusOut := [] } } = { x with sessions := [] } := fun x same => by
    rw [← same]
    rfl
  exact items _ keys

theorem emptied_threadsZeroed (s : State) : emptied (threadsZeroed s) = emptied s :=
  emptied_foldl (fun s t => emptied_kept (zeroThread_within s t (Within.refl s))) _ s

theorem emptied_tablesZeroed (s : State) : emptied (tablesZeroed s) = { emptied s with lost := true } := rfl

theorem emptied_rootLostIf (s : State) (breach : Bool) : emptied (rootLostIf s breach) = emptied s := by
  cases breach <;> rfl

/-- What the zeroization set empties. -/
theorem emptied_zeroizeSet (s : State) (breach : Bool) :
    emptied (zeroizeSet s breach) = { emptied s with slots := [], pool := [], counters := [], sessions := [], lost := true } := by
  rw [zeroizeSet_eq, emptied_rootLostIf, emptied_tablesZeroed, emptied_threadsZeroed, emptied_storesZeroed]

theorem tablesZeroed_noJobs (s : State) : NoJobs (tablesZeroed s) := by
  refine foldl_keeps (P := fun t : Tab Engine => ∀ e, (tget engInit t e).queue = [] ∧ (tget engInit t e).running = []) (fun t kv none_ e => ?_) s.engs
    (fun _ => ⟨rfl, rfl⟩)
  rw [tget_tset]
  split
  · exact ⟨rfl, rfl⟩
  · exact none_ e

theorem rootLostIf_engs (s : State) (breach : Bool) : (rootLostIf s breach).engs = s.engs := by
  cases breach <;> rfl

theorem zeroizeSet_noJobs (s : State) (breach : Bool) : NoJobs (zeroizeSet s breach) := by
  rw [zeroizeSet_eq]
  exact (tablesZeroed_noJobs _).congr (rootLostIf_engs _ _)

theorem rootLostIf_keeper (s : State) (breach : Bool) : (rootLostIf s breach).keeper = if breach then rootLost s.keeper else s.keeper := by
  cases breach <;> rfl

theorem tablesZeroed_keeper (s : State) : (tablesZeroed s).keeper = s.keeper := rfl

theorem zeroizeSet_keeper (s : State) (breach : Bool) : (zeroizeSet s breach).keeper = if breach then rootLost s.keeper else s.keeper := by
  have keys : (keysZeroed s).keeper = s.keeper := rfl
  have stores : (storesZeroed s).keeper = s.keeper := (keeper_kept (zeroIntake_within _ (Within.refl (keysZeroed s)))).trans keys
  have threads : (threadsZeroed (storesZeroed s)).keeper = (storesZeroed s).keeper :=
    keeper_kept (within_foldl _ (Within.refl (storesZeroed s)) (fun s t h => zeroThread_within s t h))
  rw [zeroizeSet_eq, rootLostIf_keeper, tablesZeroed_keeper, threads, stores]

/-! ### Requests aborted (R452) -/

/-- A seal that runs reads ABORTED. -/
def sealAborted (s : State) : State :=
  if s.audit.sealing.isSome then modAudit s (fun a => { a with sealing := none, result := 3 }) else s

/-- Attestations that run read ABORTED. -/
def attestsAborted (s : State) : State :=
  let s := if s.req.attest0 = 1 then setAttest s 0 4 else s
  let s := if s.req.attest1 = 1 then setAttest s 1 4 else s
  { s with req := { s.req with attestPieces := [], lcResult := if s.req.lcResult = 1 then 8 else s.req.lcResult } }

theorem abortRequests_eq (s : State) : abortRequests s = putAgree (abandonCommit (attestsAborted (sealAborted s))) none := rfl

/-- ABORTED for a request that runs. -/
def abortedAttest (n : Nat) : Nat := if n = 1 then 4 else n

/-- A seal's result once requests are aborted. -/
def abortedSeal (a : Audit) : Option (Nat × Bool × Pieces × Bytes) × Nat := if a.sealing.isSome then (none, 3) else (a.sealing, a.result)

theorem emptied_sealAborted (s : State) : emptied (sealAborted s) = { emptied s with report := abortedSeal s.audit } := by
  unfold sealAborted abortedSeal
  split <;> rfl

theorem emptied_attestsAborted (s : State) :
    emptied (attestsAborted s) = { emptied s with attest := (abortedAttest s.req.attest0, abortedAttest s.req.attest1) } := by
  unfold attestsAborted abortedAttest
  dsimp only
  by_cases zero : s.req.attest0 = 1
  · by_cases one : s.req.attest1 = 1
    · rw [if_pos zero, if_pos zero, if_pos one, if_pos (show (setAttest s 0 4).req.attest1 = 1 from one)]
      rfl
    · rw [if_pos zero, if_pos zero, if_neg one, if_neg (show ¬ (setAttest s 0 4).req.attest1 = 1 from one)]
      rfl
  · by_cases one : s.req.attest1 = 1
    · rw [if_neg zero, if_neg zero, if_pos one, if_pos one]
      rfl
    · rw [if_neg zero, if_neg zero, if_neg one, if_neg one]
      rfl

theorem emptied_abandonWaiting (s : State) (q : Nat) : emptied (modPlane s q (fun x => { x with last := 5, phase := 0 })) = emptied s := by
  unfold modPlane
  split <;> rfl

/-- The end of a commit, where nothing is staged. -/
theorem emptied_abandonCommit {s : State} (empty : s.ks.pool = []) : emptied (abandonCommit s) = { emptied s with commit := none, waiting := [] } := by
  have ended : emptied (failCommit s 5) = { emptied s with commit := none } := by
    unfold failCommit
    split
    · rename_i none_
      rw [emptied, none_]
    · rw [untake, empty]
      unfold modPlane
      split <;> rw [emptied, emptied, empty] <;> rfl
  unfold abandonCommit
  rw [emptied_foldl emptied_abandonWaiting]
  generalize failCommit s 5 = t at ended ⊢
  have cleared : emptied { t with turns := { t.turns with waiting := [] } } = { emptied t with waiting := [] } := rfl
  rw [cleared, ended]

/-- What a tamper response leaves of what it empties. -/
def tamperLeaves (s : State) : Emptied where
  slots := []
  pool := []
  counters := []
  sessions := []
  lost := true
  commit := none
  waiting := []
  attest := (abortedAttest s.req.attest0, abortedAttest s.req.attest1)
  report := abortedSeal s.audit

theorem emptied_putAgree (s : State) (a : Option Agreement) : emptied (putAgree s a) = emptied s := rfl

/-- The set zeroized and the requests aborted. -/
def wiped (s : State) (breach : Bool) : State := abortRequests (zeroizeSet s breach)

theorem emptied_wiped (s : State) (breach : Bool) : emptied (wiped s breach) = tamperLeaves s := by
  have zeroed := emptied_zeroizeSet s breach
  have req : (zeroizeSet s breach).req = s.req := req_kept (zeroizeSet_within _ _ (Within.refl s))
  have log : (zeroizeSet s breach).audit = s.audit := audit_kept (zeroizeSet_within _ _ (Within.refl s))
  have sealed_ : (sealAborted (zeroizeSet s breach)).req = s.req := by
    unfold sealAborted
    split <;> exact req
  have ended : emptied (attestsAborted (sealAborted (zeroizeSet s breach))) =
      { emptied s with
        slots := [], pool := [], counters := [], sessions := [], lost := true, report := abortedSeal s.audit
        attest := (abortedAttest s.req.attest0, abortedAttest s.req.attest1) } := by
    rw [emptied_attestsAborted, sealed_, emptied_sealAborted, zeroed, log]
  rw [wiped, abortRequests_eq, emptied_putAgree, emptied_abandonCommit (congrArg Emptied.pool ended), ended]
  rfl

theorem wiped_bare (s : State) (breach : Bool) : Bare (wiped s breach) where
  pool := congrArg Emptied.pool (emptied_wiped s breach)
  sessions := congrArg Emptied.sessions (emptied_wiped s breach)
  commit := congrArg Emptied.commit (emptied_wiped s breach)
  waiting := congrArg Emptied.waiting (emptied_wiped s breach)
  jobs := (zeroizeSet_noJobs s breach).congr (engs_kept (abortRequests_within _ (Within.refl _)))

/-! ### The quiet state after it (R435, R450, R451) -/

theorem wakeTold_faults (s : State) (c : Nat) : (wakeTold s c).faults = s.faults := by
  have told : (wakeTold s c).faults = (wakeResumed (wakeBridged s c)).faults := faults_kept (pwrEvt_within _ _ (sleepStatus_within _ _ (Within.refl _)))
  rw [told, (wakeResumed_frame _).same .faults (by decide), wakeBridged_faults]

theorem wakeTold_keepTamp (s : State) (c : Nat) : regGet (wakeTold s c) .keepTamp 0 = regGet s .keepTamp 0 := by
  have resumed : regGet (wakeResumed (wakeBridged s c)) .keepTamp 0 = regGet (wakeBridged s c) .keepTamp 0 :=
    regGet_of_within (wakeResumed_frame _) (by decide) _ _
  have cause : regGet (fldSet s .pwrSleep 0 15 12 c) .keepTamp 0 = regGet s .keepTamp 0 := regGet_fldSet_ne s (by decide) _ _ _
  rw [wakeTold, regGet_pwrEvt _ _ (by decide), regGet_sleepStatus _ _ (by decide), resumed, wakeBridged, regGet_modSupply, regGet_bridge_ne _ (by decide),
    regGet_wakeRails, cause]

/-- A wake with no request that waits: no cause of the quiet state changes, nor any bit of KEEP_TAMP. -/
theorem watchWakes_still {s : State} (idle : s.turns.waiting = []) :
    (watchWakes s).faults = s.faults ∧ regGet (watchWakes s) .keepTamp 0 = regGet s .keepTamp 0 := by
  by_cases wakes : s.supply.power = 3 ∧ s.supply.wakeLatched.isSome = true
  · obtain ⟨watch, latched⟩ := wakes
    obtain ⟨c, latched⟩ := Option.isSome_iff_exists.1 latched
    rw [watchWakes_told watch latched idle, faults_kept (settle_within _ (Within.refl (wakeTold s c))),
      regGet_of_regs (regs_kept (settle_within _ (Within.refl (wakeTold s c)))), wakeTold_faults, wakeTold_keepTamp]
    exact ⟨rfl, rfl⟩
  · unfold watchWakes
    split
    · rename_i watch latched
      exact absurd ⟨watch, by rw [latched]; rfl⟩ wakes
    · exact ⟨rfl, rfl⟩

theorem enterQuiet_keepTamp_field (s : State) (cause : Nat) {hi lo : Nat} (place : hi < 32 ∨ 47 < lo) :
    fldGet (enterQuiet s cause) .keepTamp 0 hi lo = fldGet s .keepTamp 0 hi lo :=
  fldGet_of_bits fun b above below => enterQuiet_bit (keepTamp_sheltered (by omega)) (by decide) s cause

/-- What a cause of the Keeper leaves in any supply state. -/
theorem keeperQuiet_quiet {s : State} (idle : s.turns.waiting = []) (cause : Nat) :
    (keeperQuiet s cause).faults.quiet = true ∧ (s.faults.quiet = false → (keeperQuiet s cause).faults.cause = cause) ∧
      ∀ {hi lo : Nat}, hi < 32 ∨ 47 < lo → fldGet (keeperQuiet s cause) .keepTamp 0 hi lo = fldGet s .keepTamp 0 hi lo := by
  have event : (wakeEvent s 5).faults = s.faults := faults_kept (wakeEvent_within s 5 (Within.refl s))
  have turns : (wakeEvent s 5).turns = s.turns := turns_kept (wakeEvent_within s 5 (Within.refl s))
  have regs : (wakeEvent s 5).regs = s.regs := regs_kept (wakeEvent_within s 5 (Within.refl s))
  obtain ⟨faults, tamp⟩ := watchWakes_still (s := wakeEvent s 5) (by rw [turns, idle])
  rw [event] at faults
  rw [regGet_of_regs regs] at tamp
  unfold keeperQuiet
  generalize watchWakes (wakeEvent s 5) = t at faults tamp ⊢
  refine ⟨?_, fun awake => ?_, fun {hi lo} place => ?_⟩
  · cases quiet : t.faults.quiet with
    | true => rw [enterQuiet_faults_again quiet]; exact quiet
    | false => rw [enterQuiet_faults quiet]
  · rw [enterQuiet_faults (by rw [faults, awake])]
  · rw [enterQuiet_keepTamp_field t cause place, fldGet, tamp, fldGet]

/-! ### The response (R450, R451) -/

/-- The TAMPER fuse blown, where the event is a breach. -/
def blownIf (s : State) (breach : Bool) : State := if breach then blowTamper s else s

/-- The set zeroized, the requests aborted, the fuse blown, and the quiet state entered. -/
def tamperAnswered (s : State) (breach : Bool) : State := settle (keeperQuiet (blownIf (wiped s breach) breach) (if breach then 4 else 3))

theorem blownIf_fuses (s : State) (breach : Bool) : (blownIf s breach).fuses = if breach then { s.fuses with tamper := true } else s.fuses := by
  cases breach <;> rfl

/-- The fuse is a part of its own. -/
theorem blownIf_frame (s : State) (breach : Bool) : Within (· = .fuses) s (blownIf s breach) := by
  cases breach
  · exact Within.refl s
  · exact @blowTamper_within (· = .fuses) ⟨rfl⟩ s s (Within.refl s)

theorem wiped_frame (s : State) (breach : Bool) : (wiped s breach).faults = s.faults ∧ (wiped s breach).regs = s.regs ∧ (wiped s breach).fuses = s.fuses ∧
    (wiped s breach).keeper = if breach then rootLost s.keeper else s.keeper :=
  ⟨faults_kept (abortRequests_within _ (zeroizeSet_within _ _ (Within.refl s))), regs_kept (abortRequests_within _ (zeroizeSet_within _ _ (Within.refl s))),
    fuses_kept (abortRequests_within _ (zeroizeSet_within _ _ (Within.refl s))),
    (keeper_kept (abortRequests_within _ (Within.refl _))).trans (zeroizeSet_keeper s breach)⟩

/-- What an armed response leaves. -/
structure TamperAnswered (s : State) (breach : Bool) (t : State) : Prop where
  emptied : emptied t = tamperLeaves s
  keeper : t.keeper = if breach then rootLost s.keeper else s.keeper
  fuses : t.fuses = if breach then { s.fuses with tamper := true } else s.fuses
  quiet : t.faults.quiet = true
  cause : s.faults.quiet = false → t.faults.cause = if breach then 4 else 3
  tamp : ∀ {hi lo : Nat}, hi < 32 ∨ 47 < lo → fldGet t .keepTamp 0 hi lo = fldGet s .keepTamp 0 hi lo

theorem tamperAnswered_answers (s : State) (breach : Bool) : TamperAnswered s breach (tamperAnswered s breach) := by
  obtain ⟨faults, regs, fuses, keeper⟩ := wiped_frame s breach
  have blown := blownIf_frame (wiped s breach) breach
  have apart : ∀ p, p = Part.fuses → Unwiped p := fun p same => by rw [same]; decide
  have bare : Bare (blownIf (wiped s breach) breach) := (wiped_bare s breach).congr (emptied_of_within blown apart)
    ((wiped_bare s breach).jobs.congr (blown.same .engs (by decide)))
  have empties : emptied (blownIf (wiped s breach) breach) = tamperLeaves s := (emptied_of_within blown apart).trans (emptied_wiped s breach)
  have faults_ : (blownIf (wiped s breach) breach).faults = s.faults := (blown.same .faults (by decide)).trans faults
  have regs_ : (blownIf (wiped s breach) breach).regs = s.regs := (blown.same .regs (by decide)).trans regs
  have keeper_ : (blownIf (wiped s breach) breach).keeper = if breach then rootLost s.keeper else s.keeper := (blown.same .keeper (by decide)).trans keeper
  have fuses_ : (blownIf (wiped s breach) breach).fuses = if breach then { s.fuses with tamper := true } else s.fuses := by rw [blownIf_fuses, fuses]
  unfold tamperAnswered
  generalize blownIf (wiped s breach) breach = t at bare empties faults_ regs_ keeper_ fuses_ ⊢
  obtain ⟨quiet, cause, tamp⟩ := keeperQuiet_quiet bare.waiting (if breach then 4 else 3)
  rw [faults_] at cause
  have settled : ∀ u : State, (settle u).faults = u.faults ∧ (settle u).regs = u.regs := fun u =>
    ⟨faults_kept (settle_within _ (Within.refl u)), regs_kept (settle_within _ (Within.refl u))⟩
  refine ⟨?_, ?_, ?_, ?_, fun awake => ?_, fun {hi lo} place => ?_⟩
  · rw [emptied_settle, emptied_keeperQuiet bare, empties]
  · rw [keeper_kept (settle_within _ (keeperQuiet_within _ _ (Within.refl t))), keeper_]
  · rw [fuses_kept (settle_within _ (keeperQuiet_within _ _ (Within.refl t))), fuses_]
  · rw [(settled _).1, quiet]
  · rw [(settled _).1, cause awake]
  · rw [fldGet_of_regs (settled _).2, tamp place, fldGet_of_regs regs_]

/-! ### The record (R450) -/

/-- Where the tail is not full after a record, the record is its last. -/
theorem audit_last {s : State} {source part kind : Nat} {body : Bytes} (room : auditFull (audit s source part kind body) = false) :
    ∃ r, (audit s source part kind body).audit.tail.getLast? = some r ∧ r.kind = kind ∧ r.source = source := by
  unfold audit at room ⊢
  dsimp only at room ⊢
  generalize auditSummaries s = t at room ⊢
  split
  · rename_i full
    rw [if_pos full] at room
    have same : auditFull { t with audit := { t.audit with summaries := countSummary t.audit.summaries part kind } } = auditFull t := rfl
    rw [same, full] at room
    cases room
  · exact ⟨_, List.getLast?_concat .., rfl, rfl⟩

theorem tamperRecord_frame (s : State) : Within (· ∈ [Part.free, .audit]) s (tamperRecord s) :=
  @tamperRecord_within _ ⟨by decide⟩ ⟨by decide⟩ s s (Within.refl s)

theorem emptied_tamperRecord (s : State) : emptied (tamperRecord s) = emptied s := by
  have drawn : emptied (freeBytes s 16).2 = emptied s := emptied_kept (freeBytes_within 16 (Within.refl s))
  unfold tamperRecord
  dsimp only
  rw [emptied_audit, drawn]

theorem tamperRecord_last {s : State} (room : auditFull (tamperRecord s) = false) :
    ∃ r, (tamperRecord s).audit.tail.getLast? = some r ∧ r.kind = 0x12 ∧ r.source = 3 := audit_last room

/-! ### The event (R449, R450) -/

section

variable {s : State} (on_ : s.supply.power ≠ 0) (bit : Nat) (breach : Bool)

include on_

theorem tamper_unarmed (unarmed : s.keeper.armed = false) : tamper s bit breach = tamperRecord (tampBit s bit) := by
  have same : (tampBit s bit).keeper.armed = false := unarmed
  unfold tamper
  rw [if_neg on_]
  dsimp only
  rw [if_pos (by rw [same]; rfl)]

theorem tamper_armed (armed : s.keeper.armed = true) : tamper s bit breach = tamperRecord (tamperAnswered (tampBit s bit) breach) := by
  have same : (tampBit s bit).keeper.armed = true := armed
  unfold tamper
  rw [if_neg on_]
  dsimp only
  rw [if_neg (by rw [same]; decide)]
  rfl

theorem tamper_answers (armed : s.keeper.armed = true) : TamperAnswered (tampBit s bit) breach (tamper s bit breach) := by
  rw [tamper_armed on_ bit breach armed]
  obtain ⟨empties, keeper, fuses, quiet, cause, tamp⟩ := tamperAnswered_answers (tampBit s bit) breach
  have frame := tamperRecord_frame (tamperAnswered (tampBit s bit) breach)
  have faults := frame.same .faults (by decide)
  have regs := frame.same .regs (by decide)
  refine ⟨(emptied_tamperRecord _).trans empties, (frame.same .keeper (by decide)).trans keeper, (frame.same .fuses (by decide)).trans fuses,
    (congrArg Faults.quiet faults).trans quiet, fun awake => (congrArg Faults.cause faults).trans (cause awake), fun {hi lo} place => ?_⟩
  exact (fldGet_of_regs regs _ _ _ _).trans (tamp place)

theorem tamper_recorded (room : auditFull (tamper s bit breach) = false) :
    ∃ r, (tamper s bit breach).audit.tail.getLast? = some r ∧ r.kind = 0x12 ∧ r.source = 3 := by
  cases armed : s.keeper.armed with
  | true =>
    rw [tamper_armed on_ bit breach armed] at room ⊢
    exact tamperRecord_last room
  | false =>
    rw [tamper_unarmed on_ bit breach armed] at room ⊢
    exact tamperRecord_last room

theorem fldGet_tamper {hi lo : Nat} (place : hi < 32 ∨ 47 < lo) :
    fldGet (tamper s bit breach) .keepTamp 0 hi lo = fldGet (tampBit s bit) .keepTamp 0 hi lo := by
  cases armed : s.keeper.armed with
  | true => exact (tamper_answers on_ bit breach armed).tamp place
  | false =>
    rw [tamper_unarmed on_ bit breach armed]
    exact fldGet_of_regs ((tamperRecord_frame _).same .regs (by decide)) _ _ _ _

theorem tamper_latched {bit : Nat} (low : bit < 32) : fldGet (tamper s bit breach) .keepTamp 0 bit bit = 1 := by
  rw [fldGet_tamper on_ bit breach (.inl low)]
  exact tampBit_sets s (by omega)

/-- The keeper and the fuses after an event that is no breach of an armed device. -/
theorem tamper_keeper : (tamper s bit breach).keeper = if breach ∧ s.keeper.armed = true then rootLost s.keeper else s.keeper := by
  cases armed : s.keeper.armed with
  | true =>
    rw [(tamper_answers on_ bit breach armed).keeper]
    cases breach <;> rfl
  | false =>
    rw [tamper_unarmed on_ bit breach armed, if_neg (by simp)]
    exact (tamperRecord_frame _).same .keeper (by decide)

theorem tamper_fuses : (tamper s bit breach).fuses = if breach ∧ s.keeper.armed = true then { s.fuses with tamper := true } else s.fuses := by
  cases armed : s.keeper.armed with
  | true =>
    rw [(tamper_answers on_ bit breach armed).fuses]
    cases breach <;> rfl
  | false =>
    rw [tamper_unarmed on_ bit breach armed, if_neg (by simp)]
    exact (tamperRecord_frame _).same .fuses (by decide)

end

/-- The readings of the Keeper's sensors. -/
def sensors (k : Keeper) : Bool × Bool × Bool × Nat × Nat × List Nat := (k.meshOk, k.dark, k.railsOk, k.tmax, k.tmin, k.tempBad)

theorem tamper_sensors {s : State} (on_ : s.supply.power ≠ 0) (bit : Nat) (breach : Bool) : sensors (tamper s bit breach).keeper = sensors s.keeper := by
  rw [tamper_keeper on_]
  split <;> rfl

theorem tamper_meshGone {s : State} (on_ : s.supply.power ≠ 0) (bit : Nat) (breach : Bool) :
    (tamper s bit breach).fuses.meshGone = s.fuses.meshGone := by
  rw [tamper_fuses on_]
  split <;> rfl

/-- A response's emptied parts, read one by one. -/
theorem emptied_reads {s t : State} (empties : emptied t = tamperLeaves s) (quiet : t.faults.quiet = true) :
    t.ks.slots = [] ∧ t.ks.pool = [] ∧ t.guard.counters = [] ∧ t.intake.sessions = [] ∧ t.dramLost = true ∧ t.faults.quiet = true ∧
      t.turns.commit = none ∧ (s.req.attest0 = 1 → t.req.attest0 = 4) ∧ (s.req.attest1 = 1 → t.req.attest1 = 4) ∧
      (s.audit.sealing.isSome = true → t.audit.sealing = none ∧ t.audit.result = 3) := by
  have attest := congrArg Emptied.attest empties
  have report := congrArg Emptied.report empties
  refine ⟨congrArg Emptied.slots empties, congrArg Emptied.pool empties, congrArg Emptied.counters empties, congrArg Emptied.sessions empties,
    congrArg Emptied.lost empties, quiet, congrArg Emptied.commit empties, fun runs => ?_, fun runs => ?_, fun runs => ?_⟩
  · exact (congrArg Prod.fst attest).trans (if_pos runs)
  · exact (congrArg Prod.snd attest).trans (if_pos runs)
  · have aborted : abortedSeal s.audit = (none, 3) := if_pos runs
    have reads : (t.audit.sealing, t.audit.result) = (none, 3) := report.trans aborted
    exact ⟨congrArg Prod.fst reads, congrArg Prod.snd reads⟩

/-! ### The sensors (R449, R453) -/

/-- What a tamper event keeps or reads of the state that it is met in. -/
structure SameForTamper (s t : State) : Prop where
  ks : t.ks = s.ks
  armed : t.keeper.armed = s.keeper.armed
  root : t.keeper.root = s.keeper.root
  faults : t.faults = s.faults
  req : t.req = s.req
  audit : t.audit = s.audit

/-- The mesh's reading. -/
def meshRead (s : State) (ok : Bool) : State := modKeeper s (fun k => { k with meshOk := ok })

/-- A photodiode's reading. -/
def lightRead (s : State) : State := modKeeper s (fun k => { k with dark := false })

theorem meshBroken_eq {s : State} (on_ : s.supply.power ≠ 0) : meshBroken s = tamper (meshRead (meshDestroyed s) false) 0 true := if_neg on_

theorem meshDecoded_wrong {s : State} (on_ : s.supply.power ≠ 0) : meshDecoded s false = tamper (meshRead s false) 0 true := if_neg on_

theorem lightSeen_eq {s : State} (on_ : s.supply.power ≠ 0) : lightSeen s = tamper (lightRead s) 1 true := if_neg on_

theorem SameForTamper.meshRead {s : State} (t : State) (ks : t.ks = s.ks) (armed : t.keeper.armed = s.keeper.armed) (root : t.keeper.root = s.keeper.root)
    (faults : t.faults = s.faults) (req : t.req = s.req) (audit : t.audit = s.audit) (ok : Bool) : SameForTamper s (meshRead t ok) :=
  ⟨ks, armed, root, faults, req, audit⟩

theorem SameForTamper.lightRead (s : State) : SameForTamper s (lightRead s) := ⟨rfl, rfl, rfl, rfl, rfl, rfl⟩

theorem tempWithin_iff (grade : Nat) (c : Int) : tempWithin grade c = true ↔ if grade = 1 then (-40 ≤ c ∧ c ≤ 100) else (-20 ≤ c ∧ c ≤ 95) := by
  unfold tempWithin
  split <;> exact decide_eq_true_iff

/-- A temperature read by the Keeper. -/
def tempRead (s : State) (sensor : Nat) (c : Int) : State :=
  modKeeper s (fun k => { k with
    tmax := if k.sampled then max k.tmax (tempField c) else tempField c, tmin := if k.sampled then min k.tmin (tempField c) else tempField c, sampled := true
    tempBad := if tempWithin s.fuses.grade c then k.tempBad.filter (· != sensor)
      else if k.tempBad.contains sensor then k.tempBad else sensor :: k.tempBad })

theorem SameForTamper.tempRead (s : State) (sensor : Nat) (c : Int) : SameForTamper s (tempRead s sensor c) := ⟨rfl, rfl, rfl, rfl, rfl, rfl⟩

theorem tempSample_eq {s : State} (on_ : s.supply.power ≠ 0) (sensor : Nat) (c : Int) : tempSample s sensor c =
    if tempWithin s.fuses.grade c then tempRead s sensor c else tamper (tempRead s sensor c) 2 false := if_neg on_

theorem tempRead_bad (s : State) (sensor : Nat) (c : Int) : (tempRead s sensor c).keeper.tempBad =
    if tempWithin s.fuses.grade c then s.keeper.tempBad.filter (· != sensor)
    else if s.keeper.tempBad.contains sensor then s.keeper.tempBad else sensor :: s.keeper.tempBad := rfl

theorem tempRead_inside (s : State) {c : Int} (ok : tempWithin s.fuses.grade c = true) (sensor : Nat) : sensor ∉ (tempRead s sensor c).keeper.tempBad := by
  rw [tempRead_bad, if_pos ok]
  exact fun listed => absurd (List.mem_filter.1 listed).2 (by simp)

theorem tempRead_outside (s : State) {c : Int} (bad : ¬ tempWithin s.fuses.grade c = true) (sensor : Nat) :
    sensor ∈ (tempRead s sensor c).keeper.tempBad := by
  rw [tempRead_bad, if_neg bad]
  split
  · rename_i listed
    exact List.contains_iff_mem.1 listed
  · exact List.mem_cons_self

/-- A glitch counted. -/
def railRead (s : State) : State := modKeeper (bump s .keepTamp 0 63 48 1) (fun k => { k with railsOk := false })

theorem SameForTamper.railRead (s : State) : SameForTamper s (railRead s) := ⟨rfl, rfl, rfl, rfl, rfl, rfl⟩

theorem railRead_counts (s : State) : fldGet (railRead s) .keepTamp 0 63 48 = satAdd 0xFFFF (fldGet s .keepTamp 0 63 48) 1 := by
  have counted : fldGet (bump s .keepTamp 0 63 48 1) .keepTamp 0 63 48 = min 65535 (fldGet s .keepTamp 0 63 48 + 1) :=
    fldGet_bump16 s .keepTamp 0 (by decide) rfl
  have same : fldGet (railRead s) .keepTamp 0 63 48 = fldGet (bump s .keepTamp 0 63 48 1) .keepTamp 0 63 48 := rfl
  rw [same, counted]
  unfold satAdd
  split <;> omega

/-- An event's bit is no part of the count of glitches. -/
theorem tampBit_glitches (s : State) : fldGet (tampBit s 3) .keepTamp 0 63 48 = fldGet s .keepTamp 0 63 48 := by
  refine fldGet_of_bits fun b above below => ?_
  have clear_ : (maskOf 3 3).getLsbD b = false := by interval_cases b <;> rfl
  rw [BitKept, tampBit, setBits, regGet_regSet, BitVec.getLsbD_or, clear_, Bool.or_false]

/-- Settles O42: an event that is met is latched and recorded, and answered where the responses are armed; each sensor is a case of it. -/
theorem tamperResponses : Obligations.TamperResponses := by
  unfold Obligations.TamperResponses
  intro s x evt recorded env breach environmental
  have events : ∀ (t : State) (bit : Nat) (b : Bool), t.supply.power ≠ 0 → bit < 32 → SameForTamper s t →
      (evt (tamper t bit b) bit ∧ recorded (tamper t bit b)) ∧
        (x.armed = true → TamperAnswered (tampBit t bit) b (tamper t bit b) ∧ env (tamper t bit b) ∧
          (s.faults.quiet = false → (tamper t bit b).faults.cause = if b then 4 else 3)) ∧
        (x.armed = false → (tamper t bit b).ks = s.ks ∧ (tamper t bit b).faults.quiet = s.faults.quiet) := by
    intro t bit b on_ low same
    refine ⟨⟨tamper_latched on_ b low, tamper_recorded on_ bit b⟩, fun armed => ?_, fun unarmed => ?_⟩
    · have answers := tamper_answers on_ bit b (same.armed.trans armed)
      have reads := emptied_reads answers.emptied answers.quiet
      have req : (tampBit t bit).req = s.req := same.req
      have log : (tampBit t bit).audit = s.audit := same.audit
      rw [req, log] at reads
      exact ⟨answers, reads, fun awake => answers.cause (by rw [← awake, ← same.faults]; rfl)⟩
    · rw [tamper_unarmed on_ bit b (same.armed.trans unarmed)]
      have frame := tamperRecord_frame (tampBit t bit)
      exact ⟨(frame.same .ks (by decide)).trans same.ks, congrArg Faults.quiet ((frame.same .faults (by decide)).trans same.faults)⟩
  have breaches : ∀ (t : State) (bit : Nat), t.supply.power ≠ 0 → bit < 32 → SameForTamper s t → t.fuses.tamper = s.fuses.tamper →
      breach bit (tamper t bit true) := by
    intro t bit on_ low same fuse
    obtain ⟨⟨latched, told⟩, armed_, unarmed_⟩ := events t bit true on_ low same
    refine ⟨latched, told, fun armed => ?_, fun unarmed => ?_⟩
    · obtain ⟨answers, empties, cause⟩ := armed_ armed
      have keeper := answers.keeper
      have fuses := answers.fuses
      rw [if_pos rfl] at keeper fuses
      exact ⟨empties, by rw [keeper]; rfl, by rw [keeper]; rfl, by rw [keeper]; rfl, by rw [fuses], cause⟩
    · obtain ⟨ks, quiet⟩ := unarmed_ unarmed
      have off : t.keeper.armed = false := same.armed.trans unarmed
      refine ⟨ks, ?_, ?_, quiet⟩
      · rw [tamper_keeper on_, if_neg (by simp [off])]
        exact same.root
      · rw [tamper_fuses on_, if_neg (by simp [off])]
        exact fuse
  have environments : ∀ (t : State) (bit : Nat), t.supply.power ≠ 0 → bit < 32 → SameForTamper s t → t.fuses = s.fuses →
      environmental bit (tamper t bit false) := by
    intro t bit on_ low same fuse
    obtain ⟨⟨latched, told⟩, armed_, unarmed_⟩ := events t bit false on_ low same
    refine ⟨latched, told, ?_, ?_, fun armed => ⟨(armed_ armed).2.1, (armed_ armed).2.2⟩, unarmed_⟩
    · rw [tamper_keeper on_, if_neg (by simp)]
      exact same.root
    · rw [tamper_fuses on_, if_neg (by simp)]
      exact fuse
  have mesh : ∀ (t : State) (bit : Nat) (b : Bool), t.supply.power ≠ 0 → (tamper t bit b).keeper.meshOk = t.keeper.meshOk :=
    fun t bit b on_ => congrArg (fun z => z.1) (tamper_sensors on_ bit b)
  refine ⟨fun g on_ => ?_, fun g off => ?_, fun on_ => ?_, fun on_ => ?_, fun d on_ => ?_, fun n c on_ => ?_, fun r on_ place => ?_, fun r watch low => ?_⟩
  · refine completes_to rfl (meshBroken_eq on_) ⟨breaches _ 0 on_ (by decide) (.meshRead (s := s) (meshDestroyed s) rfl rfl rfl rfl rfl rfl false) rfl, mesh _ _ _ on_, ?_⟩
    exact tamper_meshGone (s := meshRead (meshDestroyed s) false) on_ 0 true
  · exact completes_to rfl (if_pos off) rfl
  · exact completes_to rfl (meshDecoded_wrong on_) ⟨breaches _ 0 on_ (by decide) (.meshRead s rfl rfl rfl rfl rfl rfl false) rfl, mesh _ _ _ on_⟩
  · exact completes_to rfl (if_neg on_) rfl
  · exact completes_to rfl (lightSeen_eq on_) ⟨breaches _ 1 on_ (by decide) (.lightRead s) rfl, congrArg (fun z => z.2.1) (tamper_sensors (s := lightRead s) on_ 1 true)⟩
  · intro ok f
    refine completes_to rfl (tempSample_eq on_ n c) ?_
    have within_ : tempWithin s.fuses.grade c = true ↔ ok := tempWithin_iff s.fuses.grade c
    by_cases inside : ok
    · rw [if_pos (within_.2 inside)]
      refine ⟨rfl, rfl, fun _ => ⟨tempRead_inside s (within_.2 inside) n, rfl, rfl, rfl⟩, fun out => absurd inside out⟩
    · rw [if_neg (fun h => inside (within_.1 h))]
      have readings := tamper_sensors (s := tempRead s n c) on_ 2 false
      have tmax := congrArg (fun z => z.2.2.2.1) readings
      have tmin := congrArg (fun z => z.2.2.2.2.1) readings
      have bad := congrArg (fun z => z.2.2.2.2.2) readings
      refine ⟨tmax, tmin, fun here => absurd here inside, fun _ => ⟨?_, environments _ 2 on_ (by decide) (.tempRead s n c) rfl⟩⟩
      exact Eq.mpr (congrArg (n.val ∈ ·) bad) (tempRead_outside s (fun h => inside (within_.1 h)) n)
  · have glitched : railGlitched s r = tamper (railRead s) 3 false := if_neg (by
      rintro (off | watch)
      · exact on_ off
      · exact place watch)
    refine completes_to rfl glitched ⟨environments _ 3 on_ (by decide) (.railRead s) rfl,
      congrArg (fun z => z.2.2.1) (tamper_sensors (s := railRead s) on_ 3 false), ?_⟩
    rw [fldGet_tamper (s := railRead s) on_ 3 false (.inr (by decide)), tampBit_glitches]
    exact railRead_counts s
  · exact completes_same rfl (if_pos (.inr ⟨watch, low⟩))

end Sys2Proof.Machine
end

section
/-! Seals of the audit log, and attestation reports (R466, R468, R471). -/

namespace Sys2Proof.Machine

open Sys2Proof.Claims

/-! ### Numbers as bytes (R314) -/

theorem leNat_leBytes (k n : Nat) : leNat (leBytes k n) = n % 256 ^ k := by
  induction k generalizing n with
  | zero => rw [leBytes, leNat, Nat.pow_zero, Nat.mod_one]
  | succ k ih =>
    have low : (byte n).toNat = n % 256 := BitVec.toNat_ofNat ..
    rw [leBytes, leNat, ih, low, Nat.pow_succ, Nat.mul_comm (256 ^ k), Nat.mod_mul]

theorem leBytes_length (k n : Nat) : (leBytes k n).length = k := by
  induction k generalizing n with
  | zero => rfl
  | succ k ih => rw [leBytes, List.length_cons, ih]

/-- A number read where it was written. -/
theorem leAt_append (front : Bytes) (k n : Nat) (rest : Bytes) : leAt (front ++ (leBytes k n ++ rest)) front.length k = n % 256 ^ k := by
  rw [leAt, slice, List.drop_left, List.take_left' (leBytes_length k n), leNat_leBytes]

/-! ### A unit's access does not read other registers -/

theorem walkFrom_setRegs (s : State) (r : Tab Word) (p va : Nat) : ∀ n ea, walkFrom { s with regs := r } p va n ea = walkFrom s p va n ea
  | 0, _ => rfl
  | n + 1, ea => by
    rw [walkFrom, walkFrom]
    dsimp only
    rw [walkFrom_setRegs s r p va n]
    rfl

/-- R200: of the registers a translation reads the page-table root of its partition only. -/
theorem unitAccess_setRegs {s : State} {r : Tab Word} {p : Nat} (root : regGet { s with regs := r } .cylPtroot p = regGet s .cylPtroot p) (va n acc : Nat) :
    unitAccess { s with regs := r } p va n acc = unitAccess s p va n acc := by
  have walks : ∀ a, walk { s with regs := r } p a = walk s p a := fun a => by
    unfold walk
    rw [root]
    simp only [walkFrom_setRegs]
  have flat : ∀ a, flatXlate { s with regs := r } p a = flatXlate s p a := fun _ => rfl
  have pages : ∀ a, devXlate { s with regs := r } [] p a acc = devXlate s [] p a acc := fun a => by
    unfold devXlate
    rw [xlOn, root, ← xlOn, walks, flat]
  unfold unitAccess
  simp only [pages]

/-! ### The trailer (R468) -/

/-- The first sixteen bytes of a trailer. -/
def trailerStart (s : State) (final : Bool) : Bytes :=
  ascii "ASEL" ++ leBytes 2 1 ++ [byte (b2n final + 2 * b2n (unsignedNow s)), byte s.fuses.lcs] ++ leBytes 4 s.fuses.epoch ++ zeros 4

theorem trailerHead_eq (s : State) (final : Bool) (n : Nat) :
    ∃ rest, trailerHead s final n = trailerStart s final ++ (leBytes 8 (s.audit.sealNo + 1) ++ rest) :=
  ⟨_, by simp only [trailerHead, trailerStart, List.append_assoc]; rfl⟩

/-- A trailer is its head and a signature, and making it changes no part but what is drawn. -/
theorem trailer_eq (s : State) (final : Bool) (n : Nat) : ∃ sig, (trailer s final n).1 = trailerHead s final n ++ sig := by
  unfold trailer
  dsimp only
  split
  · exact ⟨_, rfl⟩
  · split
    · exact ⟨_, rfl⟩
    · exact ⟨_, rfl⟩

theorem trailer_frame (s : State) (final : Bool) (n : Nat) : Within (· ∈ [Part.free]) s (trailer s final n).2 :=
  @trailer_within _ ⟨by decide⟩ s s final n (Within.refl s)

/-- R468: a trailer begins with its mark, and numbers its seal. -/
theorem trailer_reads (s : State) (final : Bool) (n : Nat) :
    (trailer s final n).1.take 4 = ascii "ASEL" ∧ leAt (trailer s final n).1 16 8 = (s.audit.sealNo + 1) % 2 ^ 64 := by
  obtain ⟨sig, whole⟩ := trailer_eq s final n
  obtain ⟨rest, head⟩ := trailerHead_eq s final n
  rw [whole, head, List.append_assoc, List.append_assoc]
  exact ⟨rfl, leAt_append (trailerStart s final) 8 (s.audit.sealNo + 1) (rest ++ sig)⟩

/-! ### A seal begins (R468, R471) -/

/-- A seal asked for: its buffer stands in KEEP_ASEAL. -/
def sealAsked (s : State) (va : Nat) : State := fldSet s .keepAseal 0 55 0 va

/-- The epoch fuse of a FINAL seal. -/
def epochBlownIf (s : State) (final : Bool) : State := if final then blowEpoch s else s

/-- A seal that has begun. -/
def sealBegun (s : State) (final : Bool) (ps : Pieces) : State :=
  let t := trailer (epochBlownIf s final) final s.audit.tail.length
  modAudit t.2 (fun a => { a with sealing := some (s.audit.tail.length, final, ps, (epochBlownIf s final).audit.tail.flatMap recBytes ++ t.1) })

/-- The access that a seal's buffer is. -/
def sealAccess (s : State) (va : Nat) : Option Pieces := accOk (unitAccess s 0 va (2 * (128 * s.audit.tail.length + trailerLen)) 3)

theorem sealAccess_sealAsked (s : State) (asked va : Nat) : sealAccess (sealAsked s asked) va = sealAccess s va :=
  congrArg accOk (unitAccess_setRegs (s := s) (regGet_fldSet_ne s (by decide) 55 0 asked) va (2 * (128 * s.audit.tail.length + trailerLen)) 3)

theorem beginSeal_none {s : State} {va : Nat} (final : Bool) (bad : va % 128 ≠ 0 ∨ (sealAccess s va).isSome = false) : beginSeal s va final = none := by
  unfold beginSeal
  dsimp only
  rw [← sealAccess]
  by_cases aligned : va % 128 = 0
  · rw [if_pos aligned, Option.isSome_eq_false_iff.1 (bad.resolve_left (not_not.2 aligned)) |> Option.isNone_iff_eq_none.1]
  · rw [if_neg aligned]

theorem beginSeal_some {s : State} {va : Nat} {ps : Pieces} (final : Bool) (aligned : va % 128 = 0) (fits : sealAccess s va = some ps) :
    beginSeal s va final = some (sealBegun s final ps) := by
  unfold beginSeal
  dsimp only
  rw [← sealAccess, if_pos aligned, fits]
  rfl

/-- Whether a seal may begin. -/
def sealAdmitted (s : State) (final : Bool) : Bool :=
  s.audit.sealing.isNone && !s.audit.finalMade &&
    (!final || (s.supply.pf == 2 && (s.fuses.lcs == 5 || s.fuses.lcs == 7) && decide (s.fuses.epoch < 16384)))

theorem sealWrite_eq (s : State) (va : VAddr) (final : Bool) : sealWrite s 0 va final =
    if !sealAdmitted s final then modAudit (sealAsked s va.toNat) (fun a => { a with result := 4 })
    else match beginSeal (sealAsked s va.toNat) va.toNat final with
    | none => modAudit (sealAsked s va.toNat) (fun a => { a with result := 2 })
    | some s => s := rfl

section

variable {s : State} (va : VAddr) {final : Bool}

theorem sealWrite_refused (no : sealAdmitted s final = false) :
    sealWrite s 0 va final = modAudit (sealAsked s va.toNat) (fun a => { a with result := 4 }) := by
  rw [sealWrite_eq, no]
  rfl

theorem sealWrite_fault (admitted : sealAdmitted s final = true) (bad : va.toNat % 128 ≠ 0 ∨ (sealAccess s va.toNat).isSome = false) :
    sealWrite s 0 va final = modAudit (sealAsked s va.toNat) (fun a => { a with result := 2 }) := by
  rw [sealWrite_eq, admitted, beginSeal_none final (by rwa [sealAccess_sealAsked])]
  rfl

theorem sealWrite_begins (admitted : sealAdmitted s final = true) (aligned : va.toNat % 128 = 0) {ps : Pieces}
    (fits : sealAccess s va.toNat = some ps) : sealWrite s 0 va final = sealBegun (sealAsked s va.toNat) final ps := by
  rw [sealWrite_eq, admitted, beginSeal_some final aligned (by rwa [sealAccess_sealAsked])]
  rfl

end

theorem sealAdmitted_plain {s : State} (none_ : s.audit.sealing = none) (first : s.audit.finalMade = false) : sealAdmitted s false = true := by
  rw [sealAdmitted, none_, first]
  rfl

theorem sealAdmitted_final {s : State} (none_ : s.audit.sealing = none) (first : s.audit.finalMade = false)
    (closing : s.supply.pf = 2 ∧ (s.fuses.lcs = 5 ∨ s.fuses.lcs = 7) ∧ s.fuses.epoch < 16384) : sealAdmitted s true = true := by
  simp only [sealAdmitted, none_, first]
  simpa [and_assoc] using closing

theorem sealAdmitted_closing {s : State} (admitted : sealAdmitted s true = true) :
    s.supply.pf = 2 ∧ (s.fuses.lcs = 5 ∨ s.fuses.lcs = 7) ∧ s.fuses.epoch < 16384 := by
  have last : (s.supply.pf == 2 && (s.fuses.lcs == 5 || s.fuses.lcs == 7) && decide (s.fuses.epoch < 16384)) = true := (Bool.and_eq_true_iff.1 admitted).2
  simpa [and_assoc] using last

theorem sealAdmitted_busy {s : State} (busy : s.audit.sealing.isSome = true ∨ s.audit.finalMade = true) (final : Bool) : sealAdmitted s final = false := by
  unfold sealAdmitted
  rcases busy with runs | made
  · obtain ⟨x, runs⟩ := Option.isSome_iff_exists.1 runs
    rw [runs]
    rfl
  · rw [made]
    simp

theorem sealAsked_audit (s : State) (va : Nat) : (sealAsked s va).audit = s.audit ∧ (sealAsked s va).fuses = s.fuses ∧ (sealAsked s va).mem = s.mem :=
  ⟨rfl, rfl, rfl⟩

theorem epochBlownIf_frame (s : State) (final : Bool) : (epochBlownIf s final).audit = s.audit ∧ (epochBlownIf s final).mem = s.mem ∧
    (epochBlownIf s final).fuses = if final then (blowEpoch s).fuses else s.fuses := by
  cases final <;> exact ⟨rfl, rfl, rfl⟩

/-- R468: what a seal that begins leaves. -/
theorem sealBegun_begins (s : State) (final : Bool) (ps : Pieces) :
    (∃ b, (sealBegun s final ps).audit.sealing = some (s.audit.tail.length, final, ps, s.audit.tail.flatMap recBytes ++ b) ∧
      b.take 4 = ascii "ASEL" ∧ leAt b 16 8 = (s.audit.sealNo + 1) % 2 ^ 64) ∧ (sealBegun s final ps).audit.tail = s.audit.tail ∧
      (sealBegun s final ps).mem = s.mem ∧ (sealBegun s final ps).fuses = if final then (blowEpoch s).fuses else s.fuses := by
  obtain ⟨log, mem, fuses⟩ := epochBlownIf_frame s final
  unfold sealBegun
  generalize epochBlownIf s final = u at log mem fuses ⊢
  have frame := trailer_frame u final s.audit.tail.length
  obtain ⟨mark, number⟩ := trailer_reads u final s.audit.tail.length
  have kept : (trailer u final s.audit.tail.length).2.audit = s.audit := (frame.same .audit (by decide)).trans log
  have tail : (trailer u final s.audit.tail.length).2.audit.tail = s.audit.tail := congrArg Audit.tail kept
  dsimp only
  refine ⟨⟨(trailer u final s.audit.tail.length).1, ?_, mark, by rw [number, log]⟩, tail, (frame.same .mem (by decide)).trans mem,
    (frame.same .fuses (by decide)).trans fuses⟩
  rw [log]
  rfl

/-! ### A seal ends (R468) -/

/-- The tail freed of what a seal covers. -/
def sealFreed (s : State) (m : Nat) (final : Bool) : State :=
  modAudit s (fun a => { a with
    tail := a.tail.drop m, sealing := none, result := 1, sealNo := a.sealNo + 1, finalMade := a.finalMade || final })

/-- The SEAL record's body. -/
def sealBody (s : State) (m : Nat) (final : Bool) (b : Bytes) : Bytes :=
  leBytes 8 (s.audit.sealNo + 1) ++ leBytes 8 (leAt b (128 * m + 32) 8) ++ [byte (b2n final)]

theorem sealDone_eq {s : State} {m : Nat} {final : Bool} {ps : Pieces} {b : Bytes} (runs : s.audit.sealing = some (m, final, ps, b)) :
    sealDone s = audit (sealFreed (storeBytes s ps b) m final) 4 0xFF 0x13 (sealBody (storeBytes s ps b) m final b) := by
  unfold sealDone
  rw [runs]
  rfl

theorem sealFreed_room {s : State} {m : Nat} (covers : m ≤ s.audit.tail.length) (bounded : s.audit.tail.length ≤ 16384) (held : auditHeld s = 0)
    (some_ : 0 < m) (final : Bool) : auditFull (sealFreed s m final) = false := by
  have same : auditFull (sealFreed s m final) = decide (tailMax ≤ (s.audit.tail.drop m).length + auditHeld s) := rfl
  rw [same, held, List.length_drop, tailMax]
  exact decide_eq_false (by omega)

/-- R468: a seal's end frees what it covers and appends its record. -/
theorem sealDone_seals {s : State} {m : Nat} {final : Bool} {ps : Pieces} {b : Bytes} (runs : s.audit.sealing = some (m, final, ps, b))
    (none_ : s.audit.summaries = []) (covers : m ≤ s.audit.tail.length) (bounded : s.audit.tail.length ≤ 16384) (held : auditHeld s = 0) (some_ : 0 < m) :
    ∃ r, (sealDone s).audit.tail = s.audit.tail.drop m ++ [r] ∧ r.kind = 0x13 ∧
      r.body = padTo 64 (leBytes 8 (s.audit.sealNo + 1) ++ leBytes 8 (leAt b (128 * m + 32) 8) ++ [byte (b2n final)]) ∧
      (sealDone s).audit.sealing = none ∧ (sealDone s).audit.result = 1 ∧ (sealDone s).audit.sealNo = s.audit.sealNo + 1 ∧
      (sealDone s).audit.finalMade = (s.audit.finalMade || final) ∧ (sealDone s).mem = (storeBytes s ps b).mem := by
  have frame := storePieces_frame s none ps (bytesDigits b) false
  have log : (storeBytes s ps b).audit = s.audit := frame.same .audit (by decide)
  have engs : (storeBytes s ps b).engs = s.engs := frame.same .engs (by decide)
  rw [sealDone_eq runs]
  generalize storeBytes s ps b = t at log engs ⊢
  have room : auditFull (sealFreed t m final) = false :=
    sealFreed_room (by rw [log]; exact covers) (by rw [log]; exact bounded) (by rw [auditHeld, engs, ← auditHeld, held]) some_ final
  have freed : (sealFreed t m final).audit =
      { s.audit with tail := s.audit.tail.drop m, sealing := none, result := 1, sealNo := s.audit.sealNo + 1, finalMade := s.audit.finalMade || final } := by
    rw [sealFreed, modAudit, log]
  have mem : (sealFreed t m final).mem = t.mem := rfl
  rw [audit_of_room room (by rw [freed]; exact none_), sealBody, log]
  generalize sealFreed t m final = u at freed mem ⊢
  refine ⟨_, congrArg (· ++ [_]) (congrArg Audit.tail freed), rfl, rfl, congrArg Audit.sealing freed, congrArg Audit.result freed, congrArg Audit.sealNo freed,
    congrArg Audit.finalMade freed, mem⟩

/-! ### Attestation (R466) -/

theorem attestStatus_setAttest (s : State) (p st : Nat) : attestStatus (setAttest s p st) p = st := by
  unfold attestStatus setAttest
  dsimp only
  split <;> rfl

/-- A report asked for: its buffer stands in the bank. -/
def attestAsked (s : State) (p : Nat) (va : VAddr) : State :=
  { s with req := if p = 0 then { s.req with attestVa0 := va } else { s.req with attestVa1 := va } }

/-- A report's place and nonce queued. -/
def attestQueued (s : State) (x : Nat × Pieces × Bytes) : State := { s with req := { s.req with attestPieces := s.req.attestPieces ++ [x] } }

/-- A report judged: its buffer faults, or it is queued. -/
def attestJudged (s : State) (p : Nat) (va : VAddr) : State :=
  match accOk (unitAccess s p va.toNat (2 * 2780) 3), accOk (unitAccess s p va.toNat (2 * 2780) 2) with
  | some ws, some rs => attestQueued (setAttest s p 1) (p, ws, slice (readBytes s rs) 16 32)
  | _, _ => setAttest s p 3

theorem attestWrite_eq (s : State) (p : Nat) (va : VAddr) : attestWrite s p va = if 1 < p ∨ attestStatus s p = 1 then s
    else if !s.keeper.identity then setAttest (attestAsked s p va) p 5 else attestJudged (attestAsked s p va) p va := rfl

section

variable {s : State} {p : Nat} (bank : p ≤ 1) (idle : attestStatus s p ≠ 1) (va : VAddr)

include bank idle

theorem attestWrite_unkeyed (none_ : s.keeper.identity = false) : attestWrite s p va = setAttest (attestAsked s p va) p 5 := by
  rw [attestWrite_eq, if_neg (by omega), none_]
  rfl

theorem attestWrite_keyed (keyed : s.keeper.identity = true) : attestWrite s p va = attestJudged (attestAsked s p va) p va := by
  rw [attestWrite_eq, if_neg (by omega), keyed]
  rfl

omit bank idle in
theorem attestJudged_fault (fault : accOk (unitAccess s p va.toNat (2 * 2780) 3) = none) : attestJudged s p va = setAttest s p 3 := by
  unfold attestJudged
  rw [fault]

omit bank idle in
theorem attestJudged_begins {ws rs : Pieces} (writes : accOk (unitAccess s p va.toNat (2 * 2780) 3) = some ws)
    (reads : accOk (unitAccess s p va.toNat (2 * 2780) 2) = some rs) :
    attestJudged s p va = attestQueued (setAttest s p 1) (p, ws, slice (readBytes s rs) 16 32) := by
  unfold attestJudged
  rw [writes, reads]

end

theorem attestStatus_attestQueued (s : State) (x : Nat × Pieces × Bytes) (p : Nat) : attestStatus (attestQueued s x) p = attestStatus s p := rfl

theorem setAttest_pieces (s : State) (p st : Nat) : (setAttest s p st).req.attestPieces = s.req.attestPieces := by
  unfold setAttest
  dsimp only
  split <;> rfl

theorem attestAsked_pieces (s : State) (p : Nat) (va : VAddr) : (attestAsked s p va).req.attestPieces = s.req.attestPieces := by
  unfold attestAsked
  dsimp only
  split <;> rfl

/-- The state without its oldest report. -/
def reportTaken (s : State) (rest : List (Nat × Pieces × Bytes)) : State := { s with req := { s.req with attestPieces := rest } }

/-- R466: the oldest report is stored whole, and its bank reads DONE. -/
theorem attestDone_reports {s : State} {p : Nat} {ps : Pieces} {nonce : Bytes} {rest : List (Nat × Pieces × Bytes)}
    (oldest : s.req.attestPieces = (p, ps, nonce) :: rest) : ∃ (t : State) (sig : Bytes),
      attestDone s = setAttest (storeBytes t ps (reportHead s nonce ++ sig)) p 2 ∧ t.mem = s.mem ∧ t.req.attestPieces = rest := by
  have head : reportHead (reportTaken s rest) nonce = reportHead s nonce := rfl
  unfold attestDone
  rw [oldest]
  dsimp only
  rw [← reportTaken, head]
  have drawn : Within (· ∈ [Part.free]) (reportTaken s rest) (identitySign (reportTaken s rest) (ascii "EVG-ATTEST") (sha256 (reportHead s nonce))).2 :=
    @identitySign_within _ ⟨by decide⟩ _ _ _ _ (Within.refl _)
  have keeps : ∀ u, Within (· ∈ [Part.free]) (reportTaken s rest) u → u.mem = s.mem ∧ u.req.attestPieces = rest := fun u frame =>
    ⟨frame.same .mem (by decide), congrArg Requests.attestPieces (frame.same .req (by decide))⟩
  generalize identitySign (reportTaken s rest) (ascii "EVG-ATTEST") (sha256 (reportHead s nonce)) = g at drawn
  obtain ⟨sig, u⟩ := g
  cases sig with
  | some sig => exact ⟨u, padTo 2420 sig, rfl, keeps u drawn⟩
  | none => exact ⟨(freeBytes u 2420).2, (freeBytes u 2420).1, rfl, keeps _ (@freeBytes_within _ ⟨by decide⟩ _ 2420 _ drawn)⟩

/-- Settles O44: a seal by its admission and its access, its end, and the attestation by its bank. -/
theorem sealsAndReports : Obligations.SealsAndReports := by
  unfold Obligations.SealsAndReports
  intro s va n refused began fits closing
  have place : fldGet (sealAsked s va.toNat) .keepAseal 0 55 0 = va.toNat := by
    have small : va.toNat < 2 ^ (55 + 1 - 0) := va.isLt
    rw [sealAsked, fldGet_fldSet s .keepAseal 0 va.toNat (by decide), Nat.mod_eq_of_lt small]
  have refuses : ∀ {final : Bool}, sealAdmitted s final = false → refused (sealWrite s 0 va final) := fun {final} no => by
    rw [sealWrite_refused va no]
    exact ⟨rfl, rfl, place⟩
  refine ⟨fun p other => ?_, fun busy => ?_, fun open_ => ?_, fun none_ first => ⟨fun fit => ?_, fun bad => ?_, fun close fit => ?_⟩, fun none_ => ?_,
    fun m final ps b runs none_ covers bounded held some_ => ⟨_, rfl, sealDone_seals runs none_ covers bounded held some_⟩, fun p why => ?_,
    fun p bank idle none_ => ?_, fun p bank idle keyed => ⟨fun fault => ?_, fun ws rs writes reads => ?_⟩, fun none_ => ?_,
    fun p ps nonce rest oldest bank => ?_⟩
  · have zero : p.val ≠ 0 := fun zero => other (Fin.ext zero)
    exact ⟨completes_same rfl (if_pos zero), completes_same rfl (if_pos zero)⟩
  · exact ⟨⟨_, rfl, refuses (sealAdmitted_busy busy false)⟩, ⟨_, rfl, refuses (sealAdmitted_busy busy true)⟩⟩
  · exact ⟨_, rfl, refuses (Bool.eq_false_iff.2 fun admitted => open_ (sealAdmitted_closing admitted))⟩
  · obtain ⟨aligned, accessed⟩ := fit
    obtain ⟨ps, accessed⟩ := Option.isSome_iff_exists.1 accessed
    obtain ⟨⟨b, sealing, mark, number⟩, tail, mem, fuses⟩ := sealBegun_begins (sealAsked s va.toNat) false ps
    exact completes_to rfl (sealWrite_begins va (sealAdmitted_plain none_ first) aligned accessed) ⟨⟨ps, b, sealing, mark, number, tail, mem⟩, fuses⟩
  · exact completes_to rfl (sealWrite_fault va (sealAdmitted_plain none_ first) bad) ⟨rfl, rfl⟩
  · obtain ⟨aligned, accessed⟩ := fit
    obtain ⟨ps, accessed⟩ := Option.isSome_iff_exists.1 accessed
    obtain ⟨⟨b, sealing, -, -⟩, tail, -, fuses⟩ := sealBegun_begins (sealAsked s va.toNat) true ps
    refine completes_to rfl (sealWrite_begins va (sealAdmitted_final none_ first close) aligned accessed) ⟨by rw [fuses]; rfl, by rw [sealing]; rfl, tail,
      fun last => ?_⟩
    rw [fuses]
    exact if_pos last
  · refine completes_same rfl ?_
    unfold sealDone
    rw [none_]
  · exact completes_same rfl (if_pos why)
  · exact completes_to rfl (attestWrite_unkeyed bank idle va none_) (attestStatus_setAttest _ _ _)
  · exact completes_to rfl ((attestWrite_keyed bank idle va keyed).trans (attestJudged_fault (s := attestAsked s p va) va fault))
      ⟨attestStatus_setAttest _ _ _, rfl⟩
  · refine completes_to rfl ((attestWrite_keyed bank idle va keyed).trans (attestJudged_begins (s := attestAsked s p va) va writes reads))
      ⟨attestStatus_setAttest _ _ _, rfl, ?_⟩
    have pieces : (setAttest (attestAsked s p va) p 1).req.attestPieces = s.req.attestPieces := (setAttest_pieces _ _ _).trans (attestAsked_pieces s p va)
    exact congrArg (· ++ _) pieces
  · refine completes_same rfl ?_
    unfold attestDone
    rw [none_]
  · obtain ⟨t, sig, reports, mem, left_⟩ := attestDone_reports oldest
    have stored : (storeBytes t ps (reportHead s nonce ++ sig)).req = t.req := (storePieces_frame _ _ _ _ _).same .req (by decide)
    refine completes_to rfl reports ⟨attestStatus_setAttest _ _ _, ?_, sig, storePieces_mem_congr _ _ _ _ mem⟩
    rw [setAttest_pieces, stored, left_]

end Sys2Proof.Machine
end

section
/-! Debug sessions, SMBus and the UART (R412, R413, R458, R459). -/

namespace Sys2Proof.Machine

open Sys2Proof.Claims

/-! ### The debug session (R459) -/

/-- What a step that keeps the debug port's state leaves. -/
theorem dbg_kept {s t : State}
    (h : [Has (· ≠ .dbg) .rdata] → [Has (· ≠ .dbg) .free] → [Has (· ≠ .dbg) .now] → [Has (· ≠ .dbg) .tally] → [Has (· ≠ .dbg) .regs] →
      [Has (· ≠ .dbg) .mem] → [Has (· ≠ .dbg) .poison] → [Has (· ≠ .dbg) .threads] → [Has (· ≠ .dbg) .cyls] → [Has (· ≠ .dbg) .krs] →
      [Has (· ≠ .dbg) .engs] → [Has (· ≠ .dbg) .dmaTlb] → [Has (· ≠ .dbg) .inval] → [Has (· ≠ .dbg) .ks] → [Has (· ≠ .dbg) .guard] →
      [Has (· ≠ .dbg) .dma] → [Has (· ≠ .dbg) .dmaLast] → [Has (· ≠ .dbg) .intake] → [Has (· ≠ .dbg) .kc] → [Has (· ≠ .dbg) .kcPrev] →
      [Has (· ≠ .dbg) .turns] → [Has (· ≠ .dbg) .srcs] → [Has (· ≠ .dbg) .arbs] → [Has (· ≠ .dbg) .doms] → [Has (· ≠ .dbg) .xq] →
      [Has (· ≠ .dbg) .westad] → [Has (· ≠ .dbg) .supply] → [Has (· ≠ .dbg) .keeper] → [Has (· ≠ .dbg) .audit] → [Has (· ≠ .dbg) .faults] →
      [Has (· ≠ .dbg) .fuses] → [Has (· ≠ .dbg) .boot] → [Has (· ≠ .dbg) .req] → [Has (· ≠ .dbg) .pins] → [Has (· ≠ .dbg) .seeded] →
      [Has (· ≠ .dbg) .trngBad] → [Has (· ≠ .dbg) .ptpGood] → [Has (· ≠ .dbg) .dramKeys] → [Has (· ≠ .dbg) .dramLost] →
      [Has (· ≠ .dbg) .uartIn] → [Has (· ≠ .dbg) .linkPower] → [Has (· ≠ .dbg) .out] → Within (· ≠ .dbg) s t) :
    t.dbg = s.dbg :=
  ((@h ⟨by decide⟩ ⟨by decide⟩ ⟨by decide⟩ ⟨by decide⟩ ⟨by decide⟩ ⟨by decide⟩ ⟨by decide⟩ ⟨by decide⟩ ⟨by decide⟩ ⟨by decide⟩ ⟨by decide⟩
    ⟨by decide⟩ ⟨by decide⟩ ⟨by decide⟩ ⟨by decide⟩ ⟨by decide⟩ ⟨by decide⟩ ⟨by decide⟩ ⟨by decide⟩ ⟨by decide⟩ ⟨by decide⟩ ⟨by decide⟩
    ⟨by decide⟩ ⟨by decide⟩ ⟨by decide⟩ ⟨by decide⟩ ⟨by decide⟩ ⟨by decide⟩ ⟨by decide⟩ ⟨by decide⟩ ⟨by decide⟩ ⟨by decide⟩ ⟨by decide⟩
    ⟨by decide⟩ ⟨by decide⟩ ⟨by decide⟩ ⟨by decide⟩ ⟨by decide⟩ ⟨by decide⟩ ⟨by decide⟩ ⟨by decide⟩ ⟨by decide⟩).rest .dbg).resolve_left (by decide)

theorem settle_dbg (s : State) : (settle s).dbg = s.dbg := dbg_kept (settle_within _ (Within.refl s))

theorem debugRecord_dbg (s : State) (what part : Nat) : (debugRecord s what part).dbg = s.dbg :=
  dbg_kept (audit_within _ _ _ _ _ (freeWord_within s (Within.refl s)))

theorem releases_dbg (l : List Nat) (why : Freeze) (s : State) : (l.foldl (fun s t => releaseThr s t why) s).dbg = s.dbg :=
  dbg_kept (within_foldl _ (Within.refl s) (fun s t h => releaseThr_within s t why h))

theorem endDebug_dbg (s : State) : (endDebug s).dbg = if s.dbg.openPart.isSome then { s.dbg with openPart := none, challenge := none } else s.dbg := by
  unfold endDebug
  split
  · rename_i none_
    rw [none_]
    rfl
  · rename_i p open_
    rw [releases_dbg, debugRecord_dbg, open_]
    rfl

theorem endDebug_closed (s : State) : (endDebug s).dbg.openPart = none := by
  rw [endDebug_dbg]
  cases open_ : s.dbg.openPart with
  | none => exact open_
  | some p => rfl

theorem drawChallenge_dbg (s : State) : ∃ nonce : Bytes, (drawChallenge s).dbg =
    { s.dbg with challenge := some (sha256 (leBytes 8 (lcIdNat s) ++ debugDevice s ++ [byte s.dbg.chosen] ++ nonce)) } := ⟨_, rfl⟩

/-- Whether a challenge can be read and answered. -/
def challengeOpen (s : State) : Prop := s.supply.power ≠ 0 ∧ challengeStates.contains s.fuses.lcs = true

theorem challengeOpen_iff (s : State) : challengeOpen s ↔ ¬ (s.supply.power = 0 ∨ (!challengeStates.contains s.fuses.lcs) = true) := by
  rw [challengeOpen, not_or, Bool.not_eq_true', Bool.not_eq_false]

theorem readChallenge_draws {s : State} (open_ : challengeOpen s) : readChallenge s = drawChallenge s := if_neg ((challengeOpen_iff s).1 open_)

theorem readChallenge_shut {s : State} (shut : ¬ challengeOpen s) : readChallenge s = s := if_pos (not_not.1 (mt (challengeOpen_iff s).2 shut))

theorem debugResponse_shut {s : State} (shut : ¬ challengeOpen s) (key sig : Bytes) : debugResponse s key sig = s := by
  unfold debugResponse
  split
  · rfl
  · exact if_pos (not_not.1 (mt (challengeOpen_iff s).2 shut))

/-- Whether an answer opens a session. -/
def answersChallenge (s : State) (c key sig : Bytes) : Prop :=
  sha256 key = debugSigner s ∧ Config.mlDsaVerify 0 key (ascii "EVG-DEBUG") c sig = true ∧ (s.fuses.lcs ≠ 5 ∨ s.dbg.chosen ≠ 0)

/-- A session that opens. -/
def debugOpened (s : State) : State :=
  debugRecord { endDebug s with dbg := { (endDebug s).dbg with openPart := some s.dbg.chosen, challenge := none } } 1 s.dbg.chosen

theorem debugResponse_opens {s : State} {c key sig : Bytes} (open_ : challengeOpen s) (asked : s.dbg.challenge = some c)
    (good : answersChallenge s c key sig) : debugResponse s key sig = debugOpened s := by
  unfold debugResponse
  rw [asked]
  exact (if_neg ((challengeOpen_iff s).1 open_)).trans (if_pos good)

theorem debugResponse_fails {s : State} {c key sig : Bytes} (open_ : challengeOpen s) (asked : s.dbg.challenge = some c)
    (bad : ¬ answersChallenge s c key sig) : debugResponse s key sig = drawChallenge (endDebug s) := by
  unfold debugResponse
  rw [asked]
  exact (if_neg ((challengeOpen_iff s).1 open_)).trans (if_neg bad)

theorem settle_auditFull (s : State) : auditFull (settle s) = auditFull s :=
  auditFull_congr (audit_kept (settle_within _ (Within.refl s))) (engs_kept (settle_within _ (Within.refl s)))

/-- R459: an answer that verifies opens a session of the partition chosen, and is recorded. -/
theorem debugOpened_opens (s : State) : (debugOpened s).dbg.openPart = some s.dbg.chosen ∧ (debugOpened s).dbg.challenge = none ∧
    (auditFull (debugOpened s) = false → ∃ r, (debugOpened s).audit.tail.getLast? = some r ∧ r.kind = 0x14) := by
  refine ⟨?_, ?_, fun room => ?_⟩
  · rw [debugOpened, debugRecord_dbg]
  · rw [debugOpened, debugRecord_dbg]
  · obtain ⟨r, last, kind, -⟩ := audit_last (s := (freeWord _).2) room
    exact ⟨r, last, kind⟩

/-! ### What debug reaches (R458, R459) -/

theorem debugThr_none {s : State} (none_ : debugPart s = none) (t : Nat) : debugThr s t = false := by
  rw [debugThr, none_]
  rfl

theorem debugPieces_none {s : State} (none_ : debugPart s = none) (va : VAddr) (acc : Nat) : debugPieces s va acc = none := by
  rw [debugPieces, none_]

theorem debugPort_readMem {s : State} {va : VAddr} (out : debugPieces s va 2 = none) : debugPort s (.readMem va) = s := by
  unfold debugPort
  dsimp only
  rw [out]

theorem debugPort_writeMem {s : State} {va : VAddr} (out : debugPieces s va 3 = none) (v : Digit) : debugPort s (.writeMem va v) = s := by
  unfold debugPort
  dsimp only
  rw [out]

/-- Without a session, no access but a choice does anything. -/
theorem debugPort_none {s : State} (none_ : debugPart s = none) {a : DebugAccess} (other : ∀ p, a ≠ .choose p) : debugPort s a = s := by
  cases a with
  | choose p => exact absurd rfl (other p)
  | readG t r => exact if_neg (by rw [debugThr_none none_]; decide)
  | writeG t r v => exact if_neg (by rw [debugThr_none none_]; decide)
  | readB t b => exact if_neg (by rw [debugThr_none none_]; decide)
  | writeB t b v => exact if_neg (by rw [debugThr_none none_]; decide)
  | readTs t p => exact if_neg (by rw [debugThr_none none_]; simp)
  | writeTs t p v => exact if_neg (by rw [debugThr_none none_]; simp)
  | readMem va => exact debugPort_readMem (debugPieces_none none_ va 2)
  | writeMem va v => exact debugPort_writeMem (debugPieces_none none_ va 3) v

theorem debugPort_writeB {s : State} {t : Fin 2048} (reached : debugThr s t = true) (b : Fin 4096) (v : Bool) :
    tbit (thr (debugPort s (.writeB t b v)) t).arch b = v := by
  have written : debugPort s (.writeB t b v) = modThr s t (fun th => landAll th (fun a => setBit a b v)) := if_pos reached
  rw [written, modThr_self]
  exact tget_tset_self _ _ _

theorem mem_debugThreads {s : State} {t : Nat} (reached : debugThr s t = true) : t ∈ debugThreads s := by
  have owned : (thr s t).part ≠ nobody := by simpa using (Bool.and_eq_true_iff.1 reached).2
  have reads : thr s t ≠ thrInit := fun same => owned (by rw [same]; rfl)
  exact List.mem_filter.2 ⟨List.mem_map.2 ⟨_, mem_keys_of_tget reads, rfl⟩, reached⟩

/-! ### Freeze and release (R459) -/

/-- A thread that debug may freeze, or has asked to. -/
def Freezable (th : Thread) : Prop := th.part ≠ nobody ∧ th.freeze = none ∧ (th.freezeReq = none ∨ th.freezeReq = some .debug)

theorem askFreeze_ne (s : State) {t u : Nat} (other : t ≠ u) (why : Freeze) :
    thr (askFreeze s u why) t = { thr s t with yieldFor := (thr (askFreeze s u why) t).yieldFor } := by
  unfold askFreeze
  dsimp only
  split
  · rfl
  · exact putThr_ne s u t _ other

theorem askFreeze_asks {s : State} {t : Nat} (may : Freezable (thr s t)) : (thr (askFreeze s t .debug) t).freezeReq = some .debug := by
  obtain ⟨owned, free, asked⟩ := may
  unfold askFreeze
  dsimp only
  rcases asked with none_ | already
  · rw [if_neg (by simp [owned, free, none_]), putThr_self]
  · rw [if_pos (by simp [already])]
    exact already

theorem askFreeze_freezable {s : State} {t : Nat} (may : Freezable (thr s t)) (u : Nat) : Freezable (thr (askFreeze s u .debug) t) := by
  by_cases other : t = u
  · obtain ⟨owned, free, asked⟩ := may
    have asks := askFreeze_asks (s := s) (t := t) ⟨owned, free, asked⟩
    rw [← other]
    refine ⟨?_, ?_, .inr asks⟩
    · unfold askFreeze
      dsimp only
      split
      · exact owned
      · rw [putThr_self]
        exact owned
    · unfold askFreeze
      dsimp only
      split
      · exact free
      · rw [putThr_self]
        exact free
  · rw [askFreeze_ne s other]
    exact may

/-- R459: a thread that debug reaches is asked to freeze. -/
theorem debugFreeze_asks {s : State} {t : Nat} (reached : debugThr s t = true) (free : (thr s t).freeze = none) (none_ : (thr s t).freezeReq = none) :
    (thr ((debugThreads s).foldl (fun s t => askFreeze s t .debug) s) t).freezeReq = some .debug := by
  have owned : (thr s t).part ≠ nobody := by simpa using (Bool.and_eq_true_iff.1 reached).2
  refine foldl_reaches (P := fun s => (thr s t).freezeReq = some .debug) (Q := fun s => Freezable (thr s t)) (f := fun s t => askFreeze s t .debug) (a := t)
    (fun s u may => askFreeze_freezable may u) (fun s may => askFreeze_asks may) (fun s u may asked => ?_) (mem_debugThreads reached) ⟨owned, free, .inl none_⟩
  by_cases other : t = u
  · rw [← other]
    exact askFreeze_asks may
  · rw [askFreeze_ne s other]
    exact asked

/-- A thread frozen by debug, or one that it has released to a state. -/
def FrozenOrFree (st : ThrState) (th : Thread) : Prop := th.freeze = some .debug ∧ th.resume = st ∨ th.freeze = none ∧ th.st = st

theorem releaseThr_ne (s : State) {t u : Nat} (other : t ≠ u) (why : Freeze) :
    thr (releaseThr s u why) t = { thr s t with yieldFor := (thr (releaseThr s u why) t).yieldFor } := by
  unfold releaseThr
  dsimp only
  split
  · exact putThr_ne s u t _ other
  · split
    · exact putThr_ne s u t _ other
    · rfl

theorem releaseThr_free {s : State} {t : Nat} {st : ThrState} (held : FrozenOrFree st (thr s t)) :
    (thr (releaseThr s t .debug) t).freeze = none ∧ (thr (releaseThr s t .debug) t).st = st := by
  unfold releaseThr
  dsimp only
  rcases held with ⟨frozen, resume⟩ | ⟨free, same⟩
  · rw [if_pos frozen, putThr_self]
    exact ⟨rfl, resume⟩
  · rw [if_neg (by rw [free]; simp)]
    split
    · rw [putThr_self]
      exact ⟨free, same⟩
    · exact ⟨free, same⟩

/-- R459: a thread that debug froze returns to the state it left. -/
theorem debugRelease_frees {s : State} {t : Nat} (reached : debugThr s t = true) (frozen : (thr s t).freeze = some .debug) :
    (thr ((debugThreads s).foldl (fun s t => releaseThr s t .debug) s) t).freeze = none ∧
      (thr ((debugThreads s).foldl (fun s t => releaseThr s t .debug) s) t).st = (thr s t).resume := by
  have start : FrozenOrFree (thr s t).resume (thr s t) := .inl ⟨frozen, rfl⟩
  generalize (thr s t).resume = st at start
  have others : ∀ (s : State) (u : Nat), t ≠ u → FrozenOrFree st (thr s t) → FrozenOrFree st (thr (releaseThr s u .debug) t) := fun s u other held => by
    rw [releaseThr_ne s other]
    exact held
  refine foldl_reaches (P := fun s => (thr s t).freeze = none ∧ (thr s t).st = st) (Q := fun s => FrozenOrFree st (thr s t))
    (f := fun s t => releaseThr s t .debug) (a := t) (fun s u held => ?_) (fun s held => releaseThr_free held) (fun s u held free => ?_)
    (mem_debugThreads reached) start
  · by_cases other : t = u
    · rw [← other]
      exact .inr (releaseThr_free held)
    · exact others s u other held
  · by_cases other : t = u
    · rw [← other]
      exact releaseThr_free held
    · rw [releaseThr_ne s other]
      exact free

/-! ### SMBus (R412) -/

theorem countBad_counts (s : State) (lane : Nat) : fldGet (countBad s lane) .laneDrop lane 47 32 = satAdd 0xFFFF (fldGet s .laneDrop lane 47 32) 1 := by
  rw [countBad, fldGet_bump16 s .laneDrop lane (by decide) rfl]
  unfold satAdd
  split <;> omega

theorem countNotReady_counts (s : State) (lane : Nat) :
    fldGet (countNotReady s lane) .laneDrop lane 63 48 = satAdd 0xFFFF (fldGet s .laneDrop lane 63 48) 1 := by
  rw [countNotReady, fldGet_bump16 s .laneDrop lane (by decide) rfl]
  unfold satAdd
  split <;> omega

/-! ### Admission leaves the bytes that SMBus gathers (R283 to R289, R412) -/

/-- The bytes that SMBus has gathered. -/
def gathered (s : State) : Bytes := s.intake.smbus

theorem gathered_foldl {β : Type} {f : State → β → State} (each : ∀ s x, gathered (f s x) = gathered s) (l : List β) (s : State) :
    gathered (l.foldl f s) = gathered s := view_foldl each l s

theorem gathered_setHold (s : State) (g : Nat) : gathered (setHold s g) = gathered s := by
  unfold setHold
  dsimp only
  split <;> split <;> rfl

theorem gathered_setFlow (s : State) (port : Nat) : gathered (setFlow s port) = gathered s := by
  unfold setFlow gathered
  dsimp only
  rw [emits_intake, emits_intake]

theorem gathered_judgeHigh (s : State) (q : Nat) : gathered (judgeHigh s q) = gathered s := by
  unfold judgeHigh
  dsimp only
  generalize (if kcHigh s.kc q < (cq s q).occ then true else if (cq s q).occ ≤ kcLow s.kc q then false else (cq s q).high) = h
  split
  · rfl
  · rw [setPressure, gathered_setFlow, gathered_setFlow, setHolds, gathered_foldl gathered_setHold]
    rfl

theorem gathered_markRespGap (s : State) (q : Nat) : gathered (markRespGap s q) = gathered s := by
  unfold markRespGap
  dsimp only
  split
  · split <;> rfl
  · rfl

theorem gathered_storeResp (s : State) (q : Nat) (r : Resp) : gathered (storeResp s q r) = gathered s := by
  unfold storeResp
  split
  · exact gathered_markRespGap _ _
  · rfl

theorem gathered_markGap (s : State) (q : Nat) : gathered (markGap s q) = gathered s := by
  unfold markGap
  split
  · refine (gathered_foldl (fun s t => ?_) _ _).trans ?_
    · rfl
    · rfl
  · rfl

theorem gathered_takeIn (s : State) (a : Arriving) : gathered (takeIn s a).2 = gathered s := by
  have token : ∀ p c, gathered (takeToken s p c).2 = gathered s := fun _ _ => rfl
  have numbers : gathered (numbered s a) = gathered s := rfl
  have queues : gathered (queued s a) = gathered s := rfl
  rw [takeIn_eq]
  split
  · exact (gathered_storeResp _ _ _).trans (token _ _)
  · split
    · exact (gathered_markGap _ _).trans numbers
    · exact (gathered_judgeHigh _ _).trans queues

theorem gathered_arrive (s : State) (a : Arriving) (lane : Nat) (mgmt pf0 own : Bool) : gathered (arrive s a lane mgmt pf0 own).2 = gathered s := by
  unfold arrive
  dsimp only
  split
  · rfl
  · exact gathered_takeIn s a

/-! ### Block writes and reads (R412) -/

/-- An item gathered whole, judged. -/
def itemJudged (s : State) (item : Bytes) : State :=
  match readCmdH (item.take 16) with
  | none => countBad s 4
  | some c =>
    if c.len + 16 ≠ item.length then countBad s 4
    else (arrive s { h := c, payload := item.drop 16, whole := true, session := 0xFF01, origin := 5, route := 0xFF01 } 4 true false true).2

/-- The state with the gathered bytes replaced. -/
def gatheredSet (s : State) (b : Bytes) : State := { s with intake := { s.intake with smbus := b } }

theorem smbusWrite_eq (s : State) (b : Bytes) (last pecOk : Bool) : smbusWrite s b last pecOk =
    if s.supply.power = 0 ∨ domOut s 18 then s
    else if 2 ≤ s.supply.power then countNotReady (wakeEvent s 3) 4
    else if !pecOk then countBad s 4
    else if !last then gatheredSet s (s.intake.smbus ++ b)
    else if !takesCommand (gatheredSet s []) 0 true false then countNotReady (gatheredSet s []) 4
    else itemJudged (gatheredSet s []) (s.intake.smbus ++ b) := rfl

section

variable {s : State} (on_ : s.supply.power = 1) (carries : domOut s 18 = false)

include on_ carries

theorem smbus_runs : ¬ (s.supply.power = 0 ∨ domOut s 18 = true) ∧ ¬ 2 ≤ s.supply.power := by
  rw [carries, on_]
  decide

theorem smbusWrite_bad (b : Bytes) (last : Bool) : smbusWrite s b last false = countBad s 4 := by
  obtain ⟨runs, awake⟩ := smbus_runs on_ carries
  rw [smbusWrite_eq, if_neg runs, if_neg awake]
  rfl

theorem smbusWrite_more (b : Bytes) : smbusWrite s b false true = gatheredSet s (s.intake.smbus ++ b) := by
  obtain ⟨runs, awake⟩ := smbus_runs on_ carries
  rw [smbusWrite_eq, if_neg runs, if_neg awake]
  rfl

theorem smbusWrite_last (b : Bytes) : smbusWrite s b true true = itemJudged (gatheredSet s []) (s.intake.smbus ++ b) := by
  obtain ⟨runs, awake⟩ := smbus_runs on_ carries
  have takes : takesCommand (gatheredSet s []) 0 true false = true := by
    have power : (gatheredSet s []).supply.power = 1 := on_
    rw [takesCommand, power]
    rfl
  rw [smbusWrite_eq, if_neg runs, if_neg awake, takes]
  rfl

theorem smbusRead_chunk : (smbusRead s true).out = s.out ++ [.smbus (s.intake.smbusOut.take 255)] ∧
    (smbusRead s true).intake.smbusOut = s.intake.smbusOut.drop 255 := by
  obtain ⟨runs, awake⟩ := smbus_runs on_ carries
  unfold smbusRead
  rw [if_neg runs, if_neg awake]
  exact ⟨rfl, rfl⟩

end

/-- An item whose header is unreadable, or whose length is not its header's, is counted. -/
theorem itemJudged_bad {s : State} {item : Bytes}
    (bad : readCmdH (item.take 16) = none ∨ ∃ c, readCmdH (item.take 16) = some c ∧ c.len + 16 ≠ item.length) : itemJudged s item = countBad s 4 := by
  unfold itemJudged
  rcases bad with none_ | ⟨c, reads, length⟩
  · rw [none_]
  · rw [reads]
    exact if_pos length

theorem itemJudged_good {s : State} {item : Bytes} {c : CmdH} (reads : readCmdH (item.take 16) = some c) (length : c.len + 16 = item.length) :
    gathered (itemJudged s item) = gathered s := by
  unfold itemJudged
  rw [reads]
  dsimp only
  rw [if_neg (not_not.2 length)]
  exact gathered_arrive _ _ _ _ _ _

theorem wakeEvent_supplyOnly (s : State) (cause : Nat) : Within (· = .supply) s (wakeEvent s cause) :=
  @wakeEvent_within (· = .supply) ⟨rfl⟩ s s cause (Within.refl s)

/-- R436: an SMBus transfer in WATCH is a wake event, counted as not ready. -/
theorem smbusAsleep_counts {s : State} : (countNotReady (wakeEvent s 3) 4).intake = s.intake ∧ (countNotReady (wakeEvent s 3) 4).out = s.out ∧
    fldGet (countNotReady (wakeEvent s 3) 4) .laneDrop 4 63 48 = satAdd 0xFFFF (fldGet s .laneDrop 4 63 48) 1 := by
  have wakes := wakeEvent_supplyOnly s 3
  refine ⟨wakes.same .intake (by decide), wakes.same .out (by decide), ?_⟩
  rw [countNotReady_counts, fldGet_of_regs (wakes.same .regs (by decide))]

/-- Settles O45: debug by the session that is open, SMBus and the UART by their branches. -/
theorem debugAndSideDoors : Obligations.DebugAndSideDoors := by
  unfold Obligations.DebugAndSideDoors
  intro s d open?
  refine ⟨fun opens => ?_, fun shut => ⟨completes_same rfl (readChallenge_shut shut), fun key sig none_ => completes_same rfl ?_⟩,
    fun c key sig opens asked => ?_, fun a none_ other => completes_same rfl (debugPort_none none_ other), fun p on_ unlocked kept => ?_,
    fun t r reached => completes_to rfl (if_pos reached) rfl, fun t b reached => completes_to rfl (if_pos reached) rfl,
    fun t b v reached => ⟨_, rfl, debugPort_writeB reached b v⟩, fun va out => completes_same rfl (debugPort_readMem out),
    fun va v out => completes_same rfl (debugPort_writeMem out v), fun t reached free none_ _ => ⟨_, rfl, debugFreeze_asks reached free none_⟩,
    fun t reached frozen _ => ?_, ?_, fun b lcs => completes_to rfl (if_pos lcs) rfl, fun b one three => completes_same rfl (if_neg (by simp [one, three])),
    fun on_ => completes_to rfl (if_neg on_) rfl, fun on_ => completes_to rfl (if_neg on_) ⟨rfl, countBad_counts s 4⟩,
    fun on_ carries => ⟨fun b last => ?_, fun b => ?_, fun b bad => ?_, fun b c reads length => ?_, ⟨_, rfl, smbusRead_chunk on_ carries⟩⟩,
    fun watch carries b last pec => ?_⟩
  · obtain ⟨nonce, drawn⟩ := drawChallenge_dbg s
    exact completes_to rfl (readChallenge_draws opens) ⟨(congrArg Debug.openPart drawn).trans rfl, nonce, congrArg Debug.challenge drawn⟩
  · rw [debugResponse_shut shut]
    unfold settle
    rw [none_]
    rfl
  · refine ⟨_, rfl, ?_⟩
    by_cases good : answersChallenge s c key sig
    · obtain ⟨part, spent, told⟩ := debugOpened_opens s
      have log : (settle (debugOpened s)).audit = (debugOpened s).audit := audit_kept (settle_within _ (Within.refl _))
      refine Eq.mpr (if_pos good) ?_
      rw [debugResponse_opens opens asked good, settle_dbg, settle_auditFull, log]
      exact ⟨part, spent, told⟩
    · obtain ⟨nonce, drawn⟩ := drawChallenge_dbg (endDebug s)
      refine Eq.mpr (if_neg good) ?_
      rw [debugResponse_fails opens asked good, settle_dbg, drawn]
      exact ⟨endDebug_closed s, rfl⟩
  · exact completes_to rfl (if_neg (by simp [on_, unlocked, kept])) rfl
  · obtain ⟨free, st⟩ := debugRelease_frees reached frozen
    have settled := (settle_settled ((debugThreads s).foldl (fun s t => releaseThr s t .debug) s)).each t
    refine ⟨_, rfl, (settle_part _ t (fun th => th.freeze) (fun _ _ _ _ => rfl)).trans free, fun waits => ?_⟩
    rw [(settled.st (by rw [st]; exact waits)).1, st]
  · refine ⟨_, rfl, ?_⟩
    have kept : (tapResets s).dbg = (endDebug s).dbg := by rw [tapResets, settle_dbg, releases_dbg]
    beta_reduce
    rw [kept]
    refine ⟨endDebug_closed s, fun open_ => ?_⟩
    rw [endDebug_dbg, if_pos open_]
  · exact completes_to rfl (smbusWrite_bad on_ carries b last) ⟨rfl, countBad_counts s 4⟩
  · exact completes_to rfl (smbusWrite_more on_ carries b) rfl
  · exact completes_to rfl ((smbusWrite_last on_ carries b).trans (itemJudged_bad bad)) ⟨rfl, countBad_counts (gatheredSet s []) 4⟩
  · exact completes_to rfl (smbusWrite_last on_ carries b) (itemJudged_good reads length)
  · have runs : ¬ (s.supply.power = 0 ∨ domOut s 18 = true) := by
      rw [carries]
      simp only [or_false, Bool.false_eq_true]
      omega
    obtain ⟨intake, out, counted⟩ := smbusAsleep_counts (s := s)
    exact ⟨completes_to rfl ((if_neg runs).trans (if_pos watch)) ⟨intake, counted⟩, completes_to rfl ((if_neg runs).trans (if_pos watch)) ⟨out, intake⟩⟩

end Sys2Proof.Machine
end

section
/-! What a quiet entry leaves of links, domains, threads and the key store (R483). -/

namespace Sys2Proof.Machine

open Sys2Proof.Claims

/-! ### Links (R405, R483) -/

/-- A link that carries nothing. -/
def LinkIdle (s : State) (l : Nat) : Prop := (wlink s l).state ≠ 3

theorem LinkIdle.congr {s t : State} {l : Nat} (idle : LinkIdle s l) (links : t.westad.links = s.westad.links) : LinkIdle t l := by
  rwa [LinkIdle, wlink, links, ← wlink]

theorem LinkIdle.of_sent {s t : State} {l : Nat} (idle : LinkIdle s l) (sent : Sent s t) : LinkIdle t l := by
  rw [LinkIdle, sent.down l idle]
  exact idle

theorem setLaneIf_westad (p : State → Nat → Prop) [∀ s l, Decidable (p s l)] (l : List Nat) (s : State) (st : Nat) :
    (l.foldl (fun s n => if p s n then setLane s n st else s) s).westad = s.westad :=
  view_foldl (g := State.westad) (fun s n => by
    split
    · rfl
    · rfl) l s

theorem dropLink_idles (s : State) (l : Nat) : LinkIdle (dropLink s l) l := by
  unfold dropLink LinkIdle wlink
  dsimp only
  rw [downDomain_westad]
  unfold modLink
  dsimp only
  rw [tget_tmod_self]
  decide

theorem dropLink_linkIdle {s : State} {l : Nat} (idle : LinkIdle s l) (k : Nat) : LinkIdle (dropLink s k) l := by
  by_cases same : l = k
  · rw [same]
    exact dropLink_idles s k
  · unfold dropLink LinkIdle wlink
    dsimp only
    rw [downDomain_westad]
    unfold modLink
    dsimp only
    rw [tget_tmod_ne _ _ _ _ same, setLaneIf_westad (fun s n => laneState s n = 3 ∨ laneState s n = 2)]
    exact idle

theorem dropLinks_idle (s : State) {l : Nat} (here : l < 4) : LinkIdle ((List.range 4).foldl dropLink s) l :=
  foldl_reaches (P := fun s => LinkIdle s l) (Q := fun _ => True) (f := dropLink) (a := l) (fun _ _ _ => trivial) (fun s _ => dropLink_idles s l)
    (fun _ k _ idle => dropLink_linkIdle idle k) (List.mem_range.2 here) trivial

theorem quietOutputs_idle (s : State) (cause : Nat) {l : Nat} (here : l < 4) : LinkIdle (quietOutputs s cause) l := by
  unfold quietOutputs
  dsimp only
  exact (dropLinks_idle _ here).congr (congrArg Westad.links (emit_westad _ _))

theorem quietServed_idle (s : State) (cause : Nat) {l : Nat} (here : l < 4) : LinkIdle (quietServed s cause) l := by
  have shut : (quietShut s cause).westad = (quietOutputs s cause).westad := westad_kept (quietItems_within _ (Within.refl _))
  have stopped : ((serviceThreads (quietShut s cause)).foldl quietThread (quietShut s cause)).westad = (quietShut s cause).westad :=
    westad_kept (within_foldl _ (Within.refl _) (fun t _ h => quietThread_within t _ h))
  have before : LinkIdle ((serviceThreads (quietShut s cause)).foldl quietThread (quietShut s cause)) l :=
    (quietOutputs_idle s cause here).congr (congrArg Westad.links (stopped.trans shut))
  unfold quietServed
  generalize (serviceThreads (quietShut s cause)).foldl quietThread (quietShut s cause) = t at before
  have ended := before.of_sent (endJobs_sent t (fun j => j.part != 0) 0x43)
  refine ended.congr (congrArg Westad.links (view_foldl (g := State.westad) (fun s e => ?_) _ _))
  rfl

theorem quietEnded_links (s : State) : (quietEnded s).westad.links = s.westad.links :=
  (congrArg Westad.links ((westad_kept (settle_within _ (endDebug_within _ (untake_within _ (quietSessions_within _ (Within.refl _)))))).trans
    (exportEnded_westad (putAgree s none)))).trans rfl

theorem quietSealed_westad (s : State) : (quietSealed s).westad = s.westad := rfl

theorem abandonCommit_westad (s : State) : (abandonCommit s).westad = s.westad := westad_kept (abandonCommit_within _ (Within.refl s))

/-- R405, R483: no link carries anything after the entry. -/
theorem enterQuiet_links {s : State} (awake : s.faults.quiet = false) (cause : Nat) {l : Nat} (here : l < 4) : LinkIdle (enterQuiet s cause) l := by
  rw [enterQuiet_enters awake]
  generalize quietMarked (quietNoted s cause) cause = t
  have served := quietServed_idle t cause here
  have sealed_ : LinkIdle (quietSealed (quietServed t cause)) l := served.congr (congrArg Westad.links (quietSealed_westad _))
  exact sealed_.congr ((quietEnded_links _).trans (congrArg Westad.links (abandonCommit_westad _)))

/-! ### Domains (R359, R483) -/

/-- What a step that keeps the domains leaves. -/
theorem doms_kept {s t : State}
    (h : [Has (· ≠ .doms) .rdata] → [Has (· ≠ .doms) .free] → [Has (· ≠ .doms) .now] → [Has (· ≠ .doms) .tally] → [Has (· ≠ .doms) .regs] →
      [Has (· ≠ .doms) .mem] → [Has (· ≠ .doms) .poison] → [Has (· ≠ .doms) .threads] → [Has (· ≠ .doms) .cyls] → [Has (· ≠ .doms) .krs] →
      [Has (· ≠ .doms) .engs] → [Has (· ≠ .doms) .dmaTlb] → [Has (· ≠ .doms) .inval] → [Has (· ≠ .doms) .ks] → [Has (· ≠ .doms) .guard] →
      [Has (· ≠ .doms) .dma] → [Has (· ≠ .doms) .dmaLast] → [Has (· ≠ .doms) .intake] → [Has (· ≠ .doms) .kc] → [Has (· ≠ .doms) .kcPrev] →
      [Has (· ≠ .doms) .turns] → [Has (· ≠ .doms) .srcs] → [Has (· ≠ .doms) .arbs] → [Has (· ≠ .doms) .xq] → [Has (· ≠ .doms) .westad] →
      [Has (· ≠ .doms) .dbg] → [Has (· ≠ .doms) .supply] → [Has (· ≠ .doms) .keeper] → [Has (· ≠ .doms) .audit] → [Has (· ≠ .doms) .faults] →
      [Has (· ≠ .doms) .fuses] → [Has (· ≠ .doms) .boot] → [Has (· ≠ .doms) .req] → [Has (· ≠ .doms) .pins] → [Has (· ≠ .doms) .seeded] →
      [Has (· ≠ .doms) .trngBad] → [Has (· ≠ .doms) .ptpGood] → [Has (· ≠ .doms) .dramKeys] → [Has (· ≠ .doms) .dramLost] →
      [Has (· ≠ .doms) .uartIn] → [Has (· ≠ .doms) .linkPower] → [Has (· ≠ .doms) .out] → Within (· ≠ .doms) s t) :
    t.doms = s.doms :=
  ((@h ⟨by decide⟩ ⟨by decide⟩ ⟨by decide⟩ ⟨by decide⟩ ⟨by decide⟩ ⟨by decide⟩ ⟨by decide⟩ ⟨by decide⟩ ⟨by decide⟩ ⟨by decide⟩ ⟨by decide⟩
    ⟨by decide⟩ ⟨by decide⟩ ⟨by decide⟩ ⟨by decide⟩ ⟨by decide⟩ ⟨by decide⟩ ⟨by decide⟩ ⟨by decide⟩ ⟨by decide⟩ ⟨by decide⟩ ⟨by decide⟩
    ⟨by decide⟩ ⟨by decide⟩ ⟨by decide⟩ ⟨by decide⟩ ⟨by decide⟩ ⟨by decide⟩ ⟨by decide⟩ ⟨by decide⟩ ⟨by decide⟩ ⟨by decide⟩ ⟨by decide⟩
    ⟨by decide⟩ ⟨by decide⟩ ⟨by decide⟩ ⟨by decide⟩ ⟨by decide⟩ ⟨by decide⟩ ⟨by decide⟩ ⟨by decide⟩ ⟨by decide⟩).rest .doms).resolve_left (by decide)

theorem quietOutputs_down (s : State) (cause : Nat) {d : Nat} (here : d ∈ [2, 3, 4, 5, 6, 7, 12]) : (dom (quietOutputs s cause) d).down = true := by
  have lanes : ∀ (l : List Nat) (t : State), (l.foldl (fun s l => if laneState s l = 4 then s else setLane s l 1) t).doms = t.doms := fun l t =>
    view_foldl (g := State.doms) (fun s n => by
      split
      · rfl
      · rfl) l t
  unfold quietOutputs
  dsimp only
  rw [dom_of_doms (emit_doms _ _)]
  refine dropLinks_stays _ ?_
  rw [dom_of_doms (lanes _ _)]
  exact (downDomains_shut here _).1

theorem quietServed_doms (s : State) (cause : Nat) : (quietServed s cause).doms = (quietOutputs s cause).doms :=
  doms_kept (quietJobs_within _ (within_foldl _ (quietItems_within _ (Within.refl (quietOutputs s cause))) (fun t _ h => quietThread_within t _ h)))

theorem exportEnded_doms (s : State) : (exportEnded s).doms = s.doms := by
  unfold exportEnded
  split <;> rfl

theorem quietEnded_doms (s : State) : (quietEnded s).doms = s.doms :=
  (doms_kept (settle_within _ (endDebug_within _ (untake_within _ (quietSessions_within _ (Within.refl _)))))).trans (exportEnded_doms (putAgree s none))

theorem quietSealed_doms (s : State) : (quietSealed s).doms = s.doms := rfl

/-- R483: the domains behind the lanes and the memories are DOWN after the entry. -/
theorem enterQuiet_down {s : State} (awake : s.faults.quiet = false) (cause : Nat) {d : Nat} (here : d ∈ [2, 3, 4, 5, 6, 7, 12]) :
    domOut (enterQuiet s cause) d = true := by
  rw [enterQuiet_enters awake]
  generalize quietMarked (quietNoted s cause) cause = t
  have same : (quietEnded (abandonCommit (quietSealed (quietServed t cause)))).doms = (quietOutputs t cause).doms := by
    rw [quietEnded_doms, doms_kept (abandonCommit_within _ (Within.refl (quietSealed (quietServed t cause)))), quietSealed_doms, quietServed_doms]
  rw [domOut, dom_of_doms same, quietOutputs_down t cause here, Bool.true_or]

/-! ### The key store's slots (R186, R483) -/

theorem stageEntry_slots (s : State) (n : Nat) (copies : List KCopy) (erase : Bool) (op part : Nat) :
    (stageEntry s n copies erase op part).ks.slots = s.ks.slots := by
  obtain ⟨ty, b, sends⟩ := stageEntry_sends s n copies erase op part
  have mirrored : (stageEntry s n copies erase op part).ks = (stagePlaced s n copies erase op part).ks := by
    rw [sends]
    exact ks_kept (within_foldl _ (Within.refl _) (fun s m h => sendMsg_within s m 1 ty b h))
  have put_ : ∀ (t : State) (x : Staged), (poolPut t x).ks.slots = t.ks.slots := fun t x => by
    unfold poolPut
    split
    · split <;> rfl
    · rfl
  have numbered : ∀ t : State, ({ t with ks := { t.ks with nextSeq := t.ks.nextSeq + 1 } } : State).ks.slots = t.ks.slots := fun _ => rfl
  have noted : ∀ b, (audit s 1 part 4 b).ks.slots = s.ks.slots := fun b => congrArg KeyStore.slots ((audit_frame s 1 part 4 b).same .ks (by decide))
  rw [mirrored]
  unfold stagePlaced
  extract_lets h t
  exact (put_ _ _).trans ((numbered t).trans (noted _))

theorem finishJob_slots (s : State) (e : Nat) (j : Job) (r : JobResult) : (finishJob s e j r).ks.slots = s.ks.slots := by
  have staged : (jobStages (jobWrites s r) r).ks.slots = (jobWrites s r).ks.slots := by
    unfold jobStages
    split
    · exact stageEntry_slots _ _ _ _ _ _
    · rfl
  have written : (jobWrites s r).ks = s.ks := (jobWrites_within s r).same .ks (by decide)
  have visible : (jobResultVisible s j r).ks = (jobStages (jobWrites s r) r).ks :=
    ((storePieces_frame _ _ _ _ _).same .ks (by decide)).trans ((jobReleases_within _ j r).same .ks (by decide))
  have told : (finishJob s e j r).ks = (jobResultVisible s j r).ks := by
    rw [finishJob_eq, (seatJobDone_frame _ _ _).same .ks (by decide), (jobKnocks_within _ _ _).same .ks (by decide), (jobTells_within _ _ _ _).same .ks (by decide)]
  rw [told, visible, staged, written]

theorem quietJobs_slots (s : State) : (quietJobs s).ks.slots = s.ks.slots := by
  have one : ∀ (t : State) (e : Nat) (j : Job), (endJob t e j 0x43).ks.slots = t.ks.slots := fun t e j => (finishJob_slots _ e j _).trans rfl
  have all_ : (endJobs s (fun j => j.part != 0) 0x43).ks.slots = s.ks.slots :=
    view_foldl (g := fun s => s.ks.slots) (fun s e => view_foldl (g := fun s => s.ks.slots) (fun s j => one s e j) _ s) _ s
  refine Eq.trans ?_ all_
  refine view_foldl (g := fun s => s.ks.slots) (fun s e => ?_) _ _
  rfl

theorem failCommit_slots (s : State) (last : Nat) : (failCommit s last).ks.slots = s.ks.slots ∧ (failCommit s last).ks.isSealed = s.ks.isSealed := by
  unfold failCommit
  split
  · exact ⟨rfl, rfl⟩
  · exact ⟨rfl, rfl⟩

theorem abandonCommit_ks (s : State) : (abandonCommit s).ks = (failCommit s 5).ks := by
  unfold abandonCommit
  refine (view_foldl (g := State.ks) (fun s p => ?_) _ _).trans ?_
  · rfl
  · rfl

theorem quietEnded_ks (s : State) : (quietEnded s).ks.slots = s.ks.slots ∧ (quietEnded s).ks.isSealed = s.ks.isSealed := by
  have settled : ∀ t : State, (settle (endDebug t)).ks = t.ks := fun t => ks_kept (settle_within _ (endDebug_within _ (Within.refl t)))
  have closed : (quietSessions (exportEnded (putAgree s none))).ks = s.ks := by
    refine (ks_kept (quietSessions_within _ (Within.refl _))).trans ?_
    unfold exportEnded
    split <;> rfl
  have untaken : ∀ t : State, (untake t).ks.slots = t.ks.slots ∧ (untake t).ks.isSealed = t.ks.isSealed := fun _ => ⟨rfl, rfl⟩
  rw [quietEnded, settled, (untaken _).1, (untaken _).2, closed]
  exact ⟨rfl, rfl⟩

/-- R483: the key store is sealed, and no slot of it changes. -/
theorem enterQuiet_ks {s : State} (awake : s.faults.quiet = false) (cause : Nat) :
    (enterQuiet s cause).ks.isSealed = true ∧ (enterQuiet s cause).ks.slots = s.ks.slots := by
  have marked : ∀ t : State, (quietMarked t cause).ks = t.ks := fun _ => rfl
  have noted : (quietMarked (quietNoted s cause) cause).ks = s.ks :=
    (marked _).trans (ks_kept (quietBoot_within _ _ (audit_within _ _ _ _ _ (Within.refl s))))
  rw [enterQuiet_enters awake]
  generalize quietMarked (quietNoted s cause) cause = t at noted
  have stopped : ((serviceThreads (quietShut t cause)).foldl quietThread (quietShut t cause)).ks = t.ks :=
    ks_kept (within_foldl _ (quietItems_within _ (quietOutputs_within _ _ (Within.refl t))) (fun t _ h => quietThread_within t _ h))
  have served : (quietServed t cause).ks.slots = t.ks.slots := by
    unfold quietServed
    rw [quietJobs_slots, stopped]
  have sealed_ : ∀ t : State, (quietSealed t).ks.isSealed = true ∧ (quietSealed t).ks.slots = t.ks.slots := fun _ => ⟨rfl, rfl⟩
  obtain ⟨slots, isSealed⟩ := quietEnded_ks (abandonCommit (quietSealed (quietServed t cause)))
  obtain ⟨kept, keptSealed⟩ := failCommit_slots (quietSealed (quietServed t cause)) 5
  rw [slots, isSealed, abandonCommit_ks, kept, keptSealed, (sealed_ _).1, (sealed_ _).2, served, noted]
  exact ⟨rfl, rfl⟩

end Sys2Proof.Machine
end

section
/-! Threads that the quiet entry freezes (R483 step 4). -/

namespace Sys2Proof.Machine

open Sys2Proof.Claims

/-- A thread frozen by the quiet state. -/
def Stopped (s : State) (t : Nat) : Prop := (thr s t).st = .frozen ∧ (thr s t).freeze = some .quiet

theorem Stopped.congr {s u : State} {t : Nat} (stopped : Stopped s t) (st : (thr u t).st = (thr s t).st) (freeze : (thr u t).freeze = (thr s t).freeze) :
    Stopped u t := by
  rw [Stopped, st, freeze]
  exact stopped

theorem Stopped.of_thr {s u : State} {t : Nat} (stopped : Stopped s t) (same : thr u t = thr s t) : Stopped u t := by
  rw [Stopped, same]
  exact stopped

theorem Stopped.of_threads {s u : State} {t : Nat} (stopped : Stopped s t) (same : u.threads = s.threads) : Stopped u t :=
  stopped.of_thr (thr_of_threads same t)

/-- A thread that keeps its state and its freeze, written back. -/
theorem Stopped.putThr {s : State} {t : Nat} (stopped : Stopped s t) {u : Nat} {th : Thread} (st : th.st = (thr s u).st)
    (freeze : th.freeze = (thr s u).freeze) : Stopped (putThr s u th) t := by
  by_cases same : t = u
  · refine stopped.congr ?_ ?_ <;> rw [same, putThr_self]
    · exact st
    · exact freeze
  · refine stopped.congr ?_ ?_ <;> rw [putThr_ne _ _ _ _ same]

theorem Stopped.seatTold {s u : State} {t : Nat} (stopped : Stopped s t) (told : SeatTold (thr s t) (thr u t)) : Stopped u t :=
  stopped.congr (by rw [told.rest]) (by rw [told.rest])

theorem Stopped.roused {s u : State} {t : Nat} (stopped : Stopped s t) (roused : Roused (thr s t) (thr u t)) : Stopped u t :=
  stopped.congr (roused.awake (by rw [stopped.1]; decide)) (by rw [roused.rest])

theorem Stopped.storePieces {s : State} {t : Nat} (stopped : Stopped s t) (b : Option Nat) (ps : Pieces) (ds : List Digit) (bad : Bool) :
    Stopped (storePieces s b ps ds bad) t :=
  stopped.congr (storePieces_part Thread.st (fun _ _ => rfl) b bad t ps ds s) (storePieces_part Thread.freeze (fun _ _ => rfl) b bad t ps ds s)

theorem Stopped.putArch {s : State} {t : Nat} (stopped : Stopped s t) (u : Nat) (a : Arch) : Stopped (Machine.putThr s u { thr s u with arch := a }) t :=
  stopped.putThr rfl rfl

theorem Stopped.abandonDiv {s : State} {t : Nat} (stopped : Stopped s t) (u : Nat) : Stopped (abandonDiv s u) t := by
  unfold Machine.abandonDiv
  dsimp only
  split
  · exact stopped
  · split
    · exact (stopped.putArch u _).of_thr (modCyl_thr _ _ _ _)
    · exact stopped

theorem truncate_kept (th : Thread) : (truncate th).st = th.st ∧ (truncate th).freeze = th.freeze := by
  unfold truncate
  split
  · exact ⟨rfl, rfl⟩
  · exact ⟨rfl, rfl⟩

theorem Stopped.interrupt {s : State} {t : Nat} (stopped : Stopped s t) (u : Nat) (k : Option SyncKnock) : Stopped (interrupt s u k) t := by
  have begun : Stopped (modThr s u (fun th => { truncate th with resv := none, walk := th.walk.map (fun w => { w with waits := false }) })) t :=
    stopped.putThr (truncate_kept _).1 (truncate_kept _).2
  have withdrawn := begun.seatTold (withdrawSeat_told _ u t)
  unfold Machine.interrupt
  dsimp only
  split
  · exact withdrawn.abandonDiv u
  · exact withdrawn

/-! ### One thread (R483 step 4) -/

theorem Stopped.drainThr {s : State} {t : Nat} (stopped : Stopped s t) (u : Nat) : Stopped (drainThr s u) t := by
  unfold Machine.drainThr
  dsimp only
  exact (foldl_keeps (P := fun s => Stopped s t) (fun s e held => held.storePieces _ _ _ _) _ stopped).putThr rfl rfl

theorem freezeNow_ne (s : State) {t u : Nat} (other : t ≠ u) (why : Freeze) :
    (thr (freezeNow s u why) t).st = (thr s t).st ∧ (thr (freezeNow s u why) t).freeze = (thr s t).freeze := by
  unfold freezeNow modThr
  rw [putThr_ne _ _ _ _ other]
  exact ⟨rfl, rfl⟩

theorem freezeNow_stops (s : State) (t : Nat) : Stopped (freezeNow s t .quiet) t := by
  unfold freezeNow Stopped
  rw [modThr_self]
  exact ⟨rfl, rfl⟩

/-- A thread without what it had in flight: its buffered stores to memory are left. -/
def quietEmptied (th : Thread) : Thread :=
  landAll { th with
    spec := [], sbuf := th.sbuf.filter (fun e => e.pieces.all (fun p => !isCtl p.1)), walk := none, jobs := [], sync := none
    heldFault := none, parity := false } (fun a => { a with ops := [] })

theorem quietEmptied_kept (th : Thread) : (quietEmptied th).st = th.st ∧ (quietEmptied th).freeze = th.freeze := ⟨rfl, rfl⟩

/-- The thread's operations are gone, and what it has buffered is in memory: what is left is to freeze it. -/
def quietDrained (s : State) (t : Nat) : State :=
  modCyl (drainThr (modThr (interrupt s t none) t quietEmptied) t) (cylOf t) (fun c => if c.divBusy = some t then { c with divBusy := none } else c)

/-- The thread is FROZEN by the quiet state. -/
def quietFrozen (s : State) (t : Nat) : State :=
  if (thr s t).st = .frozen then modThr s t (fun th => { th with freeze := some .quiet, freezeReq := none }) else freezeNow s t .quiet

theorem quietThread_eq (s : State) (t : Nat) : quietThread s t = quietFrozen (quietDrained s t) t := by
  unfold quietThread quietFrozen quietDrained quietEmptied
  rfl

theorem Stopped.quietDrained {s : State} {t : Nat} (stopped : Stopped s t) (u : Nat) : Stopped (quietDrained s u) t := by
  have emptied_ : Stopped (modThr (Machine.interrupt s u none) u quietEmptied) t :=
    (stopped.interrupt u none).putThr (quietEmptied_kept _).1 (quietEmptied_kept _).2
  exact (emptied_.drainThr u).of_thr (modCyl_thr _ _ _ _)

theorem quietFrozen_stops (s : State) (t : Nat) : Stopped (quietFrozen s t) t := by
  unfold quietFrozen
  split
  · next frozen =>
    unfold Stopped
    rw [modThr_self]
    exact ⟨frozen, rfl⟩
  · exact freezeNow_stops _ t

theorem quietFrozen_ne {s : State} {t u : Nat} (stopped : Stopped s t) (other : t ≠ u) : Stopped (quietFrozen s u) t := by
  unfold quietFrozen
  split
  · refine stopped.congr ?_ ?_ <;> rw [modThr, putThr_ne _ _ _ _ other]
  · exact stopped.congr (freezeNow_ne _ other _).1 (freezeNow_ne _ other _).2

theorem quietThread_stops (s : State) (t : Nat) : Stopped (quietThread s t) t := by
  rw [quietThread_eq]
  exact quietFrozen_stops _ t

theorem Stopped.quietThread {s : State} {t : Nat} (stopped : Stopped s t) (u : Nat) : Stopped (quietThread s u) t := by
  by_cases same : t = u
  · rw [same]
    exact quietThread_stops s u
  · rw [quietThread_eq]
    exact quietFrozen_ne (stopped.quietDrained u) same

theorem quietThreads_stop {l : List Nat} {t : Nat} (here : t ∈ l) (s : State) : Stopped (l.foldl quietThread s) t :=
  foldl_reaches (P := fun s => Stopped s t) (Q := fun _ => True) (f := Machine.quietThread) (a := t) (fun _ _ _ => trivial) (fun s _ => quietThread_stops s t)
    (fun _ u _ held => held.quietThread u) here trivial

/-! ### Jobs that end (R483 step 5) -/

theorem Stopped.finishJob {s : State} {t : Nat} (stopped : Stopped s t) (e : Nat) (j : Job) (r : JobResult) : Stopped (finishJob s e j r) t := by
  have written : Stopped (jobWrites s r) t := foldl_keeps (P := fun s => Stopped s t) (fun s w held => held.storePieces _ _ _ _) _ stopped
  have staged : Stopped (jobStages (jobWrites s r) r) t := by
    refine written.of_threads ?_
    unfold jobStages
    split
    · exact threads_kept (stageEntry_within _ _ _ _ _ _ (Within.refl _))
    · rfl
  have released : Stopped (jobReleases (jobStages (jobWrites s r) r) j r) t := staged.of_threads ((jobReleases_within _ j r).same .threads (by decide))
  have shown : Stopped (jobResultVisible s j r) t := released.storePieces _ _ _ _
  have told : Stopped (jobTells (jobResultVisible s j r) e j r) t := by
    unfold jobTells
    split
    · exact shown.putThr rfl rfl
    · exact shown
  have knocked : Stopped (jobKnocks (jobTells (jobResultVisible s j r) e j r) j r) t := by
    unfold jobKnocks
    split
    · exact told
    · exact told.roused (raise_roused _ _ _ _)
  rw [finishJob_eq]
  exact (knocked.of_thr (modEng_thr _ _ _ _)).seatTold (grantSeats_told _ _ _ _)

theorem Stopped.quietJobs {s : State} {t : Nat} (stopped : Stopped s t) : Stopped (quietJobs s) t := by
  have ended : Stopped (endJobs s (fun j => j.part != 0) 0x43) t :=
    foldl_keeps (P := fun s => Stopped s t) (fun s e held => foldl_keeps (P := fun s => Stopped s t)
      (fun s j held => (held.of_thr (modEng_thr s e _ t)).finishJob e j _) _ held) _ stopped
  exact foldl_keeps (P := fun s => Stopped s t) (fun s e held => held.of_thr (modEng_thr s e _ t)) _ ended

/-! ### The end of the entry (R483 steps 6 to 9) -/

theorem Stopped.releaseThr {s : State} {t : Nat} (stopped : Stopped s t) (u : Nat) : Stopped (releaseThr s u .debug) t := by
  by_cases same : t = u
  · subst same
    unfold Machine.releaseThr
    dsimp only
    rw [if_neg (by rw [stopped.2]; decide)]
    split
    · exact stopped.putThr rfl rfl
    · exact stopped
  · have kept := releaseThr_ne s same .debug
    exact stopped.congr (by rw [kept]) (by rw [kept])

theorem Stopped.endDebug {s : State} {t : Nat} (stopped : Stopped s t) : Stopped (endDebug s) t := by
  unfold Machine.endDebug
  split
  · exact stopped
  · have shut : ∀ d : Debug, Stopped { s with dbg := d } t := fun d => stopped.of_threads rfl
    refine foldl_keeps (P := fun s => Stopped s t) (fun s u held => held.releaseThr u) _ ?_
    exact (shut _).of_threads (threads_kept (debugRecord_within _ _ _ (Within.refl _)))

theorem Stopped.settle {s : State} {t : Nat} (stopped : Stopped s t) : Stopped (settle s) t :=
  stopped.congr (((settle_settled s).each t).st (by rw [stopped.1]; decide)).1 (settle_part s t Thread.freeze (fun _ _ _ _ => rfl))

theorem abandonCommit_threads (s : State) : (abandonCommit s).threads = s.threads := threads_kept (abandonCommit_within _ (Within.refl s))

theorem exportEnded_threads (s : State) : (exportEnded s).threads = s.threads := by
  unfold exportEnded
  split <;> rfl

theorem quietSealed_threads (s : State) : (quietSealed s).threads = s.threads := rfl

theorem Stopped.quietEnded {s : State} {t : Nat} (stopped : Stopped s t) : Stopped (quietEnded s) t := by
  have exported : (exportEnded (putAgree s none)).threads = s.threads := (exportEnded_threads _).trans rfl
  have closed : (untake (quietSessions (exportEnded (putAgree s none)))).threads = s.threads :=
    (threads_kept (untake_within _ (quietSessions_within _ (Within.refl _)))).trans exported
  exact (stopped.of_threads closed).endDebug.settle

/-! ### Which threads the entry freezes -/

theorem withoutPicked_part (f : Cmd → Bool) (th : Thread) : (withoutPicked f th).part = th.part := by
  unfold withoutPicked
  rfl

theorem endHeld_part (f : Cmd → Bool) (rcode : Option Nat) (s : State) (u t : Nat) : (thr (endHeld f rcode s u) t).part = (thr s t).part := by
  rw [endHeld_thr]
  by_cases same : t = u
  · rw [same, putThr_self]
    exact withoutPicked_part f _
  · rw [putThr_ne _ _ _ _ same]

theorem endCmds_part (s : State) (f : Cmd → Bool) (rcode : Option Nat) (t : Nat) : (thr (endCmds s f rcode) t).part = (thr s t).part := by
  have queued : ((s.intake.cmdq.map (·.1)).foldl (endQueue f rcode) s).threads = s.threads :=
    view_foldl (g := State.threads) (fun s q => endQueue_threads f rcode s q) _ s
  rw [endCmds_eq]
  exact (view_foldl (g := fun s => (thr s t).part) (fun s u => endHeld_part f rcode s u t) _ _).trans (congrArg Thread.part (thr_of_threads queued t))

theorem quietShut_part (s : State) (cause t : Nat) : (thr (quietShut s cause) t).part = (thr s t).part := by
  have silent : (quietOutputs s cause).threads = s.threads := threads_kept (quietOutputs_within _ _ (Within.refl s))
  have emptied_ : ∀ u : State, (thr (quietItems u) t).part = (thr u t).part := fun u => by
    unfold quietItems
    dsimp only
    refine (congrArg Thread.part (thr_of_threads (view_foldl (g := State.threads) (fun s q => ?_) _ _) t)).trans (endCmds_part u _ none t)
    split <;> rfl
  rw [quietShut, emptied_, thr_of_threads silent]

/-- A thread of a partition other than 0 is served. -/
theorem mem_serviceThreads {s : State} {t : Nat} (served : (thr s t).part ≠ 0) (used : (thr s t).part ≠ nobody) : t ∈ serviceThreads s := by
  have here : (t, thr s t) ∈ s.threads := mem_keys_of_tget (d := thrInit) (t := s.threads) (k := t) (fun free => used (congrArg Thread.part free))
  exact List.mem_filter.2 ⟨List.mem_map.2 ⟨_, here, rfl⟩, by simp [served, used]⟩

/-- R483: a thread of a partition other than 0 is FROZEN after the entry. -/
theorem enterQuiet_stops {s : State} (awake : s.faults.quiet = false) (cause : Nat) {t : Nat} (served : (thr s t).part ≠ 0) (used : (thr s t).part ≠ nobody) :
    Stopped (enterQuiet s cause) t := by
  have marked : ∀ u : State, (quietMarked u cause).threads = u.threads := fun _ => rfl
  have noted : (quietMarked (quietNoted s cause) cause).threads = s.threads :=
    (marked _).trans (threads_kept (quietBoot_within _ _ (audit_within _ _ _ _ _ (Within.refl s))))
  rw [enterQuiet_enters awake]
  generalize quietMarked (quietNoted s cause) cause = u at noted
  have part : (thr (quietShut u cause) t).part = (thr s t).part := (quietShut_part u cause t).trans (congrArg Thread.part (thr_of_threads noted t))
  have stopped : Stopped (quietServed u cause) t :=
    (quietThreads_stop (mem_serviceThreads (by rwa [part]) (by rwa [part])) (quietShut u cause)).quietJobs
  exact ((stopped.of_threads (quietSealed_threads _)).of_threads (abandonCommit_threads _)).quietEnded

end Sys2Proof.Machine
end

section
/-! The audit tail through a warm boot: no record is lost (R466, R491). -/

namespace Sys2Proof.Machine

open Sys2Proof.Claims

/-- Every record of one state's audit tail stands in the other's, in the same place. -/
def TailKept (s t : State) : Prop := s.audit.tail <+: t.audit.tail

theorem TailKept.refl (s : State) : TailKept s s := List.prefix_refl _

theorem TailKept.trans {s t u : State} (h : TailKept s t) (k : TailKept t u) : TailKept s u := List.IsPrefix.trans h k

theorem TailKept.of_audit {s t : State} (same : t.audit = s.audit) : TailKept s t := by
  rw [TailKept, same]

theorem TailKept.of_stands {s t : State} (stands : VerdictStands s t) : TailKept s t := stands.tail

theorem tailKept_audit (s : State) (source part kind : Nat) (body : Bytes) : TailKept s (audit s source part kind body) := audit_tail_prefix s source part kind body

theorem tailKept_foldl {β : Type} {f : State → β → State} (each : ∀ s x, TailKept s (f s x)) (l : List β) (s : State) : TailKept s (l.foldl f s) :=
  List.foldlRecOn (motive := TailKept s) l f (.refl s) fun t kept x _ => kept.trans (each t x)

/-! ### The key store read at boot (R184, R185) -/

theorem tailKept_ksAlarm (s : State) (cause n part : Nat) : TailKept s (ksAlarm s cause n part) := by
  have knocked : ∀ t : State, (errKnock (ksEvent t cause n) 1).audit = t.audit := fun t => audit_kept (errKnock_within _ _ (ksEvent_within _ _ _ (Within.refl t)))
  exact (tailKept_audit s 4 part 6 _).trans (.of_audit (knocked _))

theorem tailKept_quarantine (s : State) (n cause part : Nat) : TailKept s (quarantine s n cause part) := by
  have marked : TailKept s (markQuarantined s n) := .of_audit (audit_kept (markQuarantined_within _ _ (Within.refl s)))
  have reported : ∀ t : State, TailKept t ((List.range 3).foldl (fun s b => report s 4 b (if cause = 1 then 9 else 7) part n) t) :=
    tailKept_foldl (fun s b => .of_audit (audit_kept (report_within _ _ _ _ _ _ (Within.refl s)))) _
  have counted : ∀ t : State, TailKept t (if cause = 1 then countQuarantine t else t) := fun t => by
    split
    · exact .of_audit (audit_kept (countQuarantine_within _ (Within.refl t)))
    · exact .refl t
  unfold quarantine
  exact ((marked.trans (tailKept_ksAlarm _ cause n part)).trans (reported _)).trans (counted _)

theorem rewriteCopy_audit (s : State) (n : Nat) (c : KCopy) (banks : List Nat) : (rewriteCopy s n c banks).audit = s.audit :=
  audit_kept (rewriteCopy_within _ _ _ _ (Within.refl s))

theorem readRest_audit (s : State) (l : List Nat) : (readRest s l).2.audit = s.audit := audit_kept (readRest_within l (Within.refl s))

theorem tailKept_readLive (s : State) (p n : Nat) : TailKept s (readLive s p n).2 := by
  unfold readLive
  split
  · exact .refl s
  · split
    · exact .refl s
    · exact tailKept_quarantine _ _ _ _
  · next c banks _ =>
    have rewritten : TailKept s (rewriteCopy s n c banks) := .of_audit (rewriteCopy_audit _ _ _ _)
    dsimp only
    split
    · exact rewritten
    · split
      · exact rewritten
      · have read := readRest_audit (rewriteCopy s n c banks) ((List.range (c.hdr.span - 1)).map (fun i => n + 1 + i))
        split
        · next t eq =>
          rw [eq] at read
          exact (rewritten.trans (.of_audit read)).trans (tailKept_quarantine _ _ _ _)
        · next t eq =>
          rw [eq] at read
          split
          · exact rewritten.trans (.of_audit read)
          · exact rewritten.trans (.of_audit read)

theorem tailKept_sweepKeys (s : State) : TailKept s (sweepKeys s) := by
  refine tailKept_foldl (fun s n => ?_) _ s
  split
  · exact tailKept_readLive _ _ _
  · exact .refl s

/-! ### Threads that arrive at boot (R137) -/

theorem tailKept_clearQuad (s : State) (q : Nat) : TailKept s (clearQuad s q) := by
  unfold clearQuad
  extract_lets ts ok p
  split
  · refine TailKept.trans ?_ (.of_audit (audit_kept (startDue_within _ _ (Within.refl _))))
    refine tailKept_foldl (fun s t => ?_) _ s
    have stale : TailKept s (staleThread (drainThr s t) t) := .of_stands ((stands_drainThr s t).trans (stands_endJobs _ _ _))
    have dropped : TailKept s (dropActive (endSeats (staleThread (drainThr s t) t) t) t) :=
      stale.trans (.of_stands ((stands_endSeats _ t).trans (stands_dropActive _ t)))
    exact dropped.trans (.of_audit (audit_kept (rewindItems_within _ _ (putThr_within _ _ _ (Within.refl _)))))
  · exact .refl s

theorem tailKept_assignFree (s : State) : TailKept s (assignFree s) := by
  refine tailKept_foldl (fun s q => ?_) _ s
  split
  · exact tailKept_clearQuad s q
  · exact .refl s

theorem tailKept_startAll (s : State) : TailKept s (startAll s) := by
  have present : ((startList (applySettings s)).foldl comePresent (applySettings s)).audit = s.audit :=
    audit_kept (within_foldl _ (applySettings_within _ (Within.refl s)) (fun t _ h => comePresent_within t _ h))
  have freed : TailKept s (assignFree ((startList (applySettings s)).foldl comePresent (applySettings s))) := (TailKept.of_audit present).trans (tailKept_assignFree _)
  have up : ∀ t : State, TailKept t (modBoot t (fun b => { b with partsUp := true })) := fun t => .of_audit rfl
  have awake : ∀ t : State, TailKept t { t with faults := { t.faults with quiet := false } } := fun t => .of_audit rfl
  unfold startAll
  dsimp only
  split
  · exact ((freed.trans (up _)).trans (awake _)).trans (.of_stands (stands_enterQuiet _ _))
  · exact freed.trans (up _)

/-! ### The steps of a boot -/

theorem tailKept_imageRecords (s : State) (b : Bytes) (kinds : List Nat) : TailKept s (imageRecords s b kinds) :=
  tailKept_foldl (fun s _ => tailKept_audit s _ _ _ _) _ s

/-- Step 12: the images loaded and the partitions started (R500). -/
def bootLoads (s : State) (b : Bytes) : State :=
  match loadImages (bootStep s 12) b with
  | none => stopBoot (bootStep s 12) 0xC
  | some s => startAll s

/-- The key store swept, and the steps after it (R497). -/
def bootSwept (s : State) (b : Bytes) : State :=
  if (sweepKeys s).faults.quietDue.isSome then quietSettle (sweepKeys s) else bootLoads (sweepKeys s) b

/-- The key store as step 11 takes it: restored from the bundle's image where that is due. -/
def bootStore (s : State) (b : Bytes) : Option State :=
  if decide (0 < s.ks.ksTurn) && (s.boot.kind != 3 || s.ks.zeroized) then
    (match itemOf b 0x21 with | some x => restoreImage s s.ks.ksTurn x | none => none)
  else some s

/-- Steps 10 to 12. -/
def bootTen (s : State) (b : Bytes) : State :=
  if s.trngBad then stopBoot s 0xA
  else match bootStore (bootStep (seedArbiters s) 11) b with
    | none => stopBoot (bootStep (seedArbiters s) 11) 0xB
    | some s => bootSwept s b

theorem bootLater_eq (s : State) (b : Bytes) : bootLater s b =
    if (trainDram (bootStep s 9) b).boot.stopped then trainDram (bootStep s 9) b
    else if !imagesOk (trainDram (bootStep s 9) b) b [3, 4] then stopBoot (trainDram (bootStep s 9) b) 6
    else bootTen (bootStep (imageRecords (modBoot (trainDram (bootStep s 9) b)
      (fun x => { x with copy := some b, images := x.images ++ [imageOf b 3, imageOf b 4] })) b [3, 4]) 10) b := rfl

theorem tailKept_bootStep (s : State) (n : Nat) : TailKept s (bootStep s n) := .of_audit rfl

theorem tailKept_stopBoot (s : State) (fail : Nat) : TailKept s (stopBoot s fail) := .of_audit rfl

theorem tailKept_modBoot (s : State) (f : Boot → Boot) : TailKept s (modBoot s f) := .of_audit rfl

theorem tailKept_bootLoads (s : State) (b : Bytes) : TailKept s (bootLoads s b) := by
  unfold bootLoads
  split
  · exact .of_audit rfl
  · next t loaded => exact (TailKept.of_audit (audit_kept (loadImages_within _ _ (bootStep_within _ _ (Within.refl s)) t loaded))).trans (tailKept_startAll t)

theorem tailKept_bootSwept (s : State) (b : Bytes) : TailKept s (bootSwept s b) := by
  unfold bootSwept
  split
  · exact (tailKept_sweepKeys s).trans (.of_stands (stands_quietSettle _))
  · exact (tailKept_sweepKeys s).trans (tailKept_bootLoads _ b)

theorem tailKept_bootStore {s t : State} {b : Bytes} (store : bootStore s b = some t) : TailKept s t := by
  unfold bootStore at store
  split at store
  · split at store
    · exact .of_audit (audit_kept (restoreImage_within _ _ _ (Within.refl s) t store))
    · cases store
  · cases store
    exact .refl s

theorem tailKept_bootTen (s : State) (b : Bytes) : TailKept s (bootTen s b) := by
  have seeded : TailKept s (bootStep (seedArbiters s) 11) := .of_audit (audit_kept (bootStep_within _ _ (seedArbiters_within _ (Within.refl s))))
  unfold bootTen
  split
  · exact tailKept_stopBoot s _
  · split
    · exact seeded.trans (tailKept_stopBoot _ _)
    · next t store => exact (seeded.trans (tailKept_bootStore store)).trans (tailKept_bootSwept t b)

theorem tailKept_bootLater (s : State) (b : Bytes) : TailKept s (bootLater s b) := by
  have trained : TailKept s (trainDram (bootStep s 9) b) := .of_audit (audit_kept (trainDram_within _ _ (bootStep_within _ _ (Within.refl s))))
  rw [bootLater_eq]
  split
  · exact trained
  · split
    · exact trained.trans (tailKept_stopBoot _ _)
    · exact (((trained.trans (tailKept_modBoot _ _)).trans (tailKept_imageRecords _ _ _)).trans (tailKept_bootStep _ _)).trans (tailKept_bootTen _ _)

theorem bootStep_kind (s : State) (n : Nat) : (bootStep s n).boot.kind = s.boot.kind := rfl

theorem bootStep_audit (s : State) (n : Nat) : (bootStep s n).audit = s.audit := rfl

theorem judgeModes_audit (s : State) : (judgeModes s).audit = s.audit := audit_kept (judgeModes_within _ (Within.refl s))

theorem tailKept_bootRun_accepts {s : State} (warm : s.boot.kind = 3) {b : Bytes} {kc : Keycut} (passes : bundleFails s b = none)
    (chain : chainOf s b (bootPoint s b) = some kc) : TailKept s (bootRun s b) := by
  unfold bootRun
  rw [passes]
  dsimp -zeta only
  extract_lets pt
  have reached : chainOf s b pt = some kc := chain
  rw [reached]
  dsimp -zeta only
  extract_lets
  rename_i t u n _ _ v w x
  have kind : t.boot.kind = 3 := ((bootStep_kind _ 8).trans (bootStep_kind s 7)).trans warm
  have first : t.audit = s.audit := (bootStep_audit _ 8).trans (bootStep_audit s 7)
  have kept : u.audit = s.audit := (congrArg State.audit (if_pos kind)).trans first
  clear_value u
  refine TailKept.trans ?_ (tailKept_bootLater _ _)
  refine TailKept.trans ?_ (tailKept_imageRecords _ _ _)
  refine TailKept.trans ?_ (tailKept_modBoot _ _)
  refine TailKept.trans ?_ (tailKept_audit _ _ _ _ _)
  exact .of_audit ((judgeModes_audit _).trans kept)

theorem bootRun_stops {s : State} {b : Bytes} {st f : Nat} (fails : bundleFails s b = some (st, f)) : bootRun s b = stopBoot (bootStep s st) f := by
  unfold bootRun
  rw [fails]

/-- A chain that is not accepted fails the bundle already. -/
theorem bootRun_unchained {s : State} {b : Bytes} (passes : bundleFails s b = none) (chain : chainOf s b (bootPoint s b) = none) :
    bootRun s b = stopBoot (bootStep s 8) 7 := by
  unfold bootRun
  rw [passes]
  dsimp only
  rw [chain]

theorem tailKept_bootRun {s : State} (warm : s.boot.kind = 3) (b : Bytes) : TailKept s (bootRun s b) := by
  cases passes : bundleFails s b with
  | some x =>
    rw [bootRun_stops (st := x.1) (f := x.2) passes]
    exact (tailKept_bootStep _ _).trans (tailKept_stopBoot _ _)
  | none =>
    cases chain : chainOf s b (bootPoint s b) with
    | none =>
      rw [bootRun_unchained passes chain]
      exact (tailKept_bootStep _ _).trans (tailKept_stopBoot _ _)
    | some kc => exact tailKept_bootRun_accepts warm passes chain

/-! ### The warm boot (R491) -/

theorem warmBase_tail (s : State) : (warmBase s).audit.tail = (endDebug s).audit.tail := by
  have held : ∀ t : State, (reRetireAll (setHolds t)).audit = t.audit := fun t => audit_kept (reRetireAll_within _ (setHolds_within _ (Within.refl t)))
  have set_ : ∀ (t : State) (r : Reg) (v : Word), (regSet t r 0 v).audit = t.audit := fun _ _ _ => rfl
  unfold warmBase
  generalize endDebug s = t
  dsimp only
  rw [held, set_, set_, set_]

theorem tailKept_warmSteps {s : State} (warm : s.boot.kind = 3) : TailKept s (warmSteps s) := by
  unfold warmSteps
  split
  · exact tailKept_bootStep s 3
  · split
    · next b _ =>
      have drawn : TailKept s (comesUp (bootStep s 5)).2 := .of_audit rfl
      have kind : (bootStep (comesUp (bootStep s 5)).2 6).boot.kind = 3 := warm
      dsimp only
      split
      · exact (drawn.trans (tailKept_bootStep _ _)).trans (tailKept_bootRun kind b)
      · exact drawn.trans (tailKept_stopBoot _ _)
    · exact (tailKept_bootStep _ _).trans (tailKept_stopBoot _ _)

/-- R466, R491: a warm boot loses no record of the audit tail. -/
theorem tailKept_warmBoot (s : State) (bundle : Option Bytes) : TailKept s (warmBoot s bundle) := by
  have based : TailKept s (warmBase s) := by
    rw [TailKept, warmBase_tail]
    exact (stands_endDebug s).tail
  have kind : (warmStart s bundle).boot.kind = 3 := by
    obtain ⟨-, -, -, kind⟩ := by simpa only [bootGround, Prod.mk.injEq] using bootGround_warmBase s
    rw [warmStart_kind, kind]
  have started : TailKept (warmBase s) (warmStart s bundle) := .of_audit ((warmStart_frame s bundle).same .audit (by decide))
  rw [warmBoot_eq]
  exact (based.trans started).trans (tailKept_warmSteps kind)

end Sys2Proof.Machine
end

section
/-! The quiet state: its entry, self-test and exit (O47). -/

namespace Sys2Proof.Machine

open Sys2Proof.Claims

/-! ### What is left of the entry (R26, R459, R483, R506) -/

theorem abandonCommit_waiting (s : State) : (abandonCommit s).turns.waiting = [] := by
  unfold abandonCommit
  dsimp only
  exact view_foldl (g := fun s => s.turns.waiting) (fun s p => modPlane_waiting s p _) _ _

theorem enterQuiet_idle {s : State} (awake : s.faults.quiet = false) (cause : Nat) :
    (enterQuiet s cause).turns.commit = none ∧ (enterQuiet s cause).turns.waiting = [] := by
  obtain ⟨t, -, same⟩ := enterQuiet_turns awake cause
  rw [same]
  exact ⟨abandonCommit_commit t, abandonCommit_waiting t⟩

theorem enterQuiet_undebugged {s : State} (awake : s.faults.quiet = false) (cause : Nat) : (enterQuiet s cause).dbg.openPart = none := by
  rw [enterQuiet_enters awake, quietEnded, settle_dbg]
  exact endDebug_closed _

theorem quietBoot_stops {s : State} (begun : 0 < s.boot.step) (early : s.boot.step < 12) (cause : Nat) : (quietBoot s cause).boot.stopped = true := by
  unfold quietBoot
  split
  · next h =>
    rcases h with none_ | late | ⟨stopped, -⟩
    · omega
    · omega
    · exact stopped
  · rfl

/-- The entry stops a boot, and does nothing else to it. -/
theorem enterQuiet_boot {s : State} (awake : s.faults.quiet = false) (cause : Nat) : (enterQuiet s cause).boot = (quietNoted s cause).boot := by
  have marked : ∀ t : State, (quietMarked t cause).boot = t.boot := fun _ => rfl
  have sealed_ : ∀ t : State, (quietSealed t).boot = t.boot := fun _ => rfl
  rw [enterQuiet_enters awake, quietEnded_boot, boot_kept (abandonCommit_within _ (Within.refl _)), sealed_, quietServed_boot, marked]

theorem enterQuiet_stopsBoot {s : State} (awake : s.faults.quiet = false) (begun : 0 < s.boot.step) (early : s.boot.step < 12) (cause : Nat) :
    (enterQuiet s cause).boot.stopped = true := by
  have noted : (audit s (quietSource cause) 0xFF 0xC (leBytes 2 cause)).boot = s.boot := boot_kept (audit_within _ _ _ _ _ (Within.refl s))
  rw [enterQuiet_boot awake]
  exact quietBoot_stops (by rwa [noted]) (by rwa [noted]) cause

theorem enterQuiet_again_kept {s : State} (quiet : s.faults.quiet = true) (cause : Nat) :
    (enterQuiet s cause).threads = s.threads ∧ (enterQuiet s cause).mem = s.mem := by
  have noted : (quietNoted s cause).threads = s.threads ∧ (quietNoted s cause).mem = s.mem :=
    ⟨threads_kept (quietBoot_within _ _ (audit_within _ _ _ _ _ (Within.refl s))), mem_kept (quietBoot_within _ _ (audit_within _ _ _ _ _ (Within.refl s)))⟩
  rw [enterQuiet_again quiet]
  exact noted

/-! ### The self-test (R486) -/

/-- A unit that a self-test probes, or one that is retired. -/
def SelfProbed (u : PUnit) : Prop := u.state ≠ 3 → ∃ pr, u.probe = some pr ∧ pr.selfTest = true

/-- What a self-test leaves of the faults but its units. -/
structure Probing (s t : State) : Prop where
  stest : t.faults.stest = s.faults.stest
  stestFail : t.faults.stestFail = s.faults.stestFail
  errSince : t.faults.errSince = s.faults.errSince

theorem Probing.refl (s : State) : Probing s s := ⟨rfl, rfl, rfl⟩

theorem Probing.trans {s t u : State} (h : Probing s t) (k : Probing t u) : Probing s u :=
  ⟨k.stest.trans h.stest, k.stestFail.trans h.stestFail, k.errSince.trans h.errSince⟩

/-- What `selfProbe` makes of a unit in service. -/
def unitSelfProbed (now : Nat) (u : PUnit) : PUnit :=
  { u with probe := some (match u.probe with
    | some pr => { pr with selfTest := true }
    | none => { error := 0, part := 0xFF, count := 0, detail := 0, etime := now, selfTest := true }) }

theorem unitSelfProbed_probed (now : Nat) (u : PUnit) : SelfProbed (unitSelfProbed now u) := fun _ => by
  unfold unitSelfProbed
  cases u.probe with
  | none => exact ⟨_, rfl, rfl⟩
  | some pr => exact ⟨_, rfl, rfl⟩

/-- What the self-test may do to any one unit. -/
def SelfTouched (now : Nat) (u v : PUnit) : Prop := v = u ∨ v = unitSelfProbed now u

theorem SelfTouched.state {now : Nat} {u v : PUnit} (h : SelfTouched now u v) : v.state = u.state := by
  rcases h with rfl | rfl
  · rfl
  · rfl

theorem SelfProbed.touched {now : Nat} {u v : PUnit} (probed : SelfProbed u) (h : SelfTouched now u v) : SelfProbed v := by
  rcases h with rfl | rfl
  · exact probed
  · exact unitSelfProbed_probed now u

/-- A unit as `selfProbe` marks it. -/
theorem selfMarked_punit {s : State} {cls ix : Nat} {pr : Probe} (marked : unitSelfProbed s.now (punit s cls ix) = { punit s cls ix with probe := some pr })
    (c i : Nat) : punit (modUnit s cls ix (fun u => { u with probe := some pr })) c i =
      if unitKey c i = unitKey cls ix then unitSelfProbed s.now (punit s c i) else punit s c i := by
  rw [punit_modUnit_any]
  split
  · next same =>
    have one : punit s c i = punit s cls ix := by rw [punit, same, punit]
    rw [one, marked]
  · rfl

/-- A unit in service is probed by `selfProbe`, and no other unit changes. -/
theorem selfProbe_punit {s : State} {cls ix : Nat} (exists_ : unitExists cls ix = true) (serves : retired s cls ix = false) (c i : Nat) :
    punit (selfProbe s cls ix) c i = if unitKey c i = unitKey cls ix then unitSelfProbed s.now (punit s c i) else punit s c i := by
  unfold selfProbe
  rw [if_neg (by simp [exists_, serves])]
  split
  · next pr runs => exact selfMarked_punit (by rw [unitSelfProbed, runs]) c i
  · next none_ =>
    refine (punit_of_faults (underProbe_faults _ _ _) c i).trans ?_
    exact selfMarked_punit (by rw [unitSelfProbed, none_]) c i

theorem selfProbe_skips {s : State} {cls ix : Nat} (out : ¬ (unitExists cls ix = true ∧ retired s cls ix = false)) : selfProbe s cls ix = s := by
  unfold selfProbe
  rw [if_pos]
  cases here : unitExists cls ix
  · exact Or.inl rfl
  · exact Or.inr (by simpa [here] using out)

theorem selfProbe_touches (s : State) (cls ix c i : Nat) : SelfTouched s.now (punit s c i) (punit (selfProbe s cls ix) c i) := by
  by_cases tested : unitExists cls ix = true ∧ retired s cls ix = false
  · rw [selfProbe_punit tested.1 tested.2]
    split
    · exact Or.inr rfl
    · exact Or.inl rfl
  · rw [selfProbe_skips tested]
    exact Or.inl rfl

theorem selfProbe_probes (s : State) (i : Nat) (here : i < 128) : SelfProbed (punit (selfProbe s 1 i) 1 i) := by
  have exists_ : unitExists 1 i = true := decide_eq_true here
  by_cases serves : retired s 1 i = false
  · rw [selfProbe_punit exists_ serves, if_pos rfl]
    exact unitSelfProbed_probed _ _
  · rw [selfProbe_skips (fun h => serves h.2)]
    intro state
    exact absurd (by simpa [retired] using state) serves

theorem selfProbe_probing (s : State) (cls ix : Nat) : Probing s (selfProbe s cls ix) := by
  have same : ∀ {t : State} (f : PUnit → PUnit), t.faults = (modUnit s cls ix f).faults → Probing s t := fun f eq => by
    constructor <;> rw [eq] <;> rfl
  unfold selfProbe
  split
  · exact .refl s
  · split
    · exact same _ rfl
    · exact same _ (underProbe_faults _ _ _)

/-- Each unit of a class probed. -/
def classProbed (s : State) (c : Nat × Nat) : State := (List.range c.2).foldl (fun s i => selfProbe s c.1 i) s

/-- The self-test noted as running. -/
def selftestNoted (s : State) : State := { s with faults := { s.faults with stest := 1, stestFail := false, errSince := false } }

theorem startSelftest_starts {s : State} (quiet : s.faults.quiet = true) (idle : s.faults.stest ≠ 1) :
    startSelftest s 0 = unitCounts.foldl classProbed (selftestNoted s) := by
  unfold startSelftest
  rw [if_neg (by simp [quiet, idle])]
  rfl

theorem startSelftest_same {s : State} {p : Nat} (refused : p ≠ 0 ∨ s.faults.quiet = false ∨ s.faults.stest = 1) : startSelftest s p = s := by
  unfold startSelftest
  rw [if_pos (by simpa using refused)]

theorem classProbed_keeps {P : State → Prop} (keeps : ∀ s cls ix, P s → P (selfProbe s cls ix)) {s : State} (p : P s) (c : Nat × Nat) : P (classProbed s c) :=
  foldl_keeps (P := P) (fun s i => keeps s c.1 i) _ p

theorem selftest_keeps {P : State → Prop} (keeps : ∀ s cls ix, P s → P (selfProbe s cls ix)) {s : State} (p : P s) : P (unitCounts.foldl classProbed s) :=
  foldl_keeps (P := P) (fun _ c p => classProbed_keeps keeps p c) _ p

theorem selftest_probing (s : State) : Probing s (unitCounts.foldl classProbed s) :=
  selftest_keeps (P := Probing s) (fun t cls ix h => h.trans (selfProbe_probing t cls ix)) (.refl s)

theorem selftest_state (s : State) (c i : Nat) : (punit (unitCounts.foldl classProbed s) c i).state = (punit s c i).state :=
  selftest_keeps (P := fun t => (punit t c i).state = (punit s c i).state) (fun t cls ix h => ((selfProbe_touches t cls ix c i).state).trans h) rfl

/-- R486: each cylinder in service is probed by the self-test. -/
theorem selftest_probes (s : State) {i : Nat} (here : i < 128) : SelfProbed (punit (unitCounts.foldl classProbed s) 1 i) := by
  have keeps : ∀ (s : State) (cls ix : Nat), SelfProbed (punit s 1 i) → SelfProbed (punit (selfProbe s cls ix) 1 i) :=
    fun s cls ix h => h.touched (selfProbe_touches s cls ix 1 i)
  have cylinders : ∀ t : State, SelfProbed (punit (classProbed t (1, 128)) 1 i) := fun t =>
    foldl_reaches (P := fun s => SelfProbed (punit s 1 i)) (Q := fun _ => True) (f := fun s i => selfProbe s 1 i) (a := i) (fun _ _ _ => trivial)
      (fun s _ => selfProbe_probes s i here) (fun s k _ h => keeps s 1 k h) (List.mem_range.2 here) trivial
  exact foldl_reaches (P := fun s => SelfProbed (punit s 1 i)) (Q := fun _ => True) (f := classProbed) (a := (1, 128)) (fun _ _ _ => trivial)
    (fun t _ => cylinders t) (fun t c _ h => classProbed_keeps keeps h c) (by decide) trivial

/-- R486: what a self-test starts. -/
theorem startSelftest_runs {s : State} (quiet : s.faults.quiet = true) (idle : s.faults.stest ≠ 1) :
    (startSelftest s 0).faults.stest = 1 ∧ (startSelftest s 0).faults.stestFail = false ∧ (startSelftest s 0).faults.errSince = false ∧
      ∀ i, i < 128 → retired s 1 i = false → ∃ pr, (punit (startSelftest s 0) 1 i).probe = some pr ∧ pr.selfTest = true := by
  have noted : ∀ i, punit (selftestNoted s) 1 i = punit s 1 i := fun _ => rfl
  rw [startSelftest_starts quiet idle]
  obtain ⟨stest, stestFail, errSince⟩ := selftest_probing (selftestNoted s)
  refine ⟨stest, stestFail, errSince, fun i here serves => selftest_probes (selftestNoted s) here ?_⟩
  rw [selftest_state, noted]
  simpa [retired] using serves

/-! ### The end of the self-test (R486) -/

theorem endSelftest_ends {s : State} (runs : s.faults.stest = 1) (idle : ∀ kv ∈ s.faults.units, ∀ pr, kv.2.probe = some pr → pr.selfTest = false) :
    endSelftest s = { s with faults := { s.faults with stest := if s.faults.stestFail = true then 3 else 2 } } := by
  have all_ : (s.faults.units.all (fun kv => match kv.2.probe with | some pr => !pr.selfTest | none => true)) = true := by
    refine List.all_eq_true.2 fun kv listed => ?_
    cases probe : kv.2.probe with
    | none => rfl
    | some pr => simp [idle kv listed pr probe]
  exact if_pos ⟨runs, all_⟩

theorem endSelftest_waits {s : State} (waits : s.faults.stest ≠ 1 ∨ ¬ ∀ kv ∈ s.faults.units, ∀ pr, kv.2.probe = some pr → pr.selfTest = false) :
    endSelftest s = s := by
  refine if_neg fun ⟨runs, all_⟩ => ?_
  rcases waits with idle | runsStill
  · exact idle runs
  · refine runsStill fun kv listed pr probe => ?_
    simpa [probe] using List.all_eq_true.1 all_ kv listed

/-! ### The exit (R486, R491) -/

theorem quietExit_refuses {s : State} {r : Nat} (why : exitRefusal s = r) (refused : r ≠ 0) :
    quietExit s 0 = { s with faults := { s.faults with reason := r } } := by
  unfold quietExit
  rw [if_neg (by simp)]
  dsimp only
  rw [why, if_pos refused]

/-- The state from which the exit boots: recorded, and no longer quiet. -/
def exitNoted (s : State) : State :=
  { audit s 0 0xFF 0xD (leBytes 2 s.faults.cause) with
    faults := { (audit s 0 0xFF 0xD (leBytes 2 s.faults.cause)).faults with quiet := false } }

theorem quietExit_boots {s : State} (free : exitRefusal s = 0) : quietExit s 0 = warmBoot (exitNoted s) none := by
  unfold quietExit
  rw [if_neg (by simp)]
  dsimp only
  rw [free, if_neg (by simp)]
  rfl

theorem exitNoted_tail {s : State} (room : auditFull s = false) (plain : s.audit.summaries = []) :
    ∃ r, (exitNoted s).audit.tail = s.audit.tail ++ [r] ∧ r.kind = 0xD ∧ r.body = padTo 64 (leBytes 2 s.faults.cause) := by
  have noted : (exitNoted s).audit = (audit s 0 0xFF 0xD (leBytes 2 s.faults.cause)).audit := rfl
  rw [noted, audit_of_room room plain]
  exact ⟨_, rfl, rfl, rfl⟩

/-- The tests that EXIT makes, in order. -/
theorem exitRefusal_cases (s : State) : exitRefusal s =
    if s.faults.quiet = false then 6
    else if s.faults.stest = 1 then 5
    else if s.fuses.tamper = true ∨ s.keeper.breach = true then 3
    else if s.faults.stest ≠ 2 then 1
    else if s.faults.errSince = true then 2
    else if (inService s 0 && inService s 1) = false then 4
    else 0 := by
  unfold exitRefusal
  simp only [Bool.not_eq_true']

/-- What is left to test in the quiet state once the self-test has passed and nothing was tampered with. -/
theorem exitRefusal_passed {s : State} (quiet : s.faults.quiet = true) (whole : s.fuses.tamper = false) (closed : s.keeper.breach = false)
    (passed : s.faults.stest = 2) : exitRefusal s =
      if s.faults.errSince = true then 2 else if (inService s 0 && inService s 1) = false then 4 else 0 := by
  rw [exitRefusal_cases, if_neg (by simp [quiet]), if_neg (by simp [passed]), if_neg (by simp [whole, closed]), if_neg (not_not.2 passed)]

/-- R486, R491: the record and the boot of an exit. -/
theorem exit_boots (s : State) : (quietSettle (warmBoot (exitNoted s) none)).boot.kind = 3 ∧ (quietSettle (warmBoot (exitNoted s) none)).now = 0 ∧
    (auditFull s = false → s.audit.summaries = [] → ∃ r rest, (quietSettle (warmBoot (exitNoted s) none)).audit.tail = s.audit.tail ++ r :: rest ∧
      r.kind = 0xD ∧ r.body = padTo 64 (leBytes 2 s.faults.cause)) := by
  have warmed := quietSettle_warmed (warmBoot_warms (exitNoted s) none)
  refine ⟨warmed.kind, warmed.now, fun room plain => ?_⟩
  obtain ⟨r, recorded, kind, body⟩ := exitNoted_tail room plain
  obtain ⟨rest, kept⟩ : TailKept (exitNoted s) (quietSettle (warmBoot (exitNoted s) none)) :=
    (tailKept_warmBoot _ _).trans (.of_stands (stands_quietSettle _))
  exact ⟨r, rest, by rw [← kept, recorded, List.append_assoc, List.singleton_append], kind, body⟩

/-- Settles O47: the entry, the self-test and the exit, each by its own lemma. -/
theorem quietState : Obligations.QuietState := by
  unfold Obligations.QuietState
  intro s settled
  extract_lets f
  have entered : f.quiet = false → ∀ t, (thr s t).part ≠ 0 → (thr s t).part ≠ nobody → (thr (enterQuiet s 1) t).st = .frozen :=
    fun awake t served used => (enterQuiet_stops awake 1 served used).1
  refine ⟨fun p other c which => ?_, fun awake => ?_, fun quiet => ?_, fun quiet => ?_, fun awake => ?_, fun quiet idle => ?_, fun refused => ?_, ?_, ?_⟩
  · have no : ¬ p.val = 0 := fun zero => other (Fin.ext zero)
    rcases which with rfl | rfl | rfl
    · exact completes_same rfl (if_neg no)
    · exact completes_same rfl (startSelftest_same (Or.inl no))
    · refine completes_same rfl ?_
      rw [quietExit, if_pos no]
      exact quietSettle_of_quietDue_none settled
  · have faults := enterQuiet_faults awake 1
    have pins := enterQuiet_pinsLow awake 1
    have ks := enterQuiet_ks awake 1
    have idle := enterQuiet_idle awake 1
    refine ⟨enterQuiet s 1, rfl, ?_⟩
    dsimp only
    rw [faults]
    exact ⟨rfl, rfl, rfl, rfl, rfl, rfl, pins.ready, pins.alertN, pins.holdN, ks.1, ks.2, idle.1, idle.2, enterQuiet_undebugged awake 1,
      fun i here => enterQuiet_links awake 1 here, fun d here => enterQuiet_down awake 1 here, fun _ => entered awake,
      fun begun early => enterQuiet_stopsBoot awake begun early 1⟩
  · have faults := enterQuiet_faults_again quiet 1
    refine ⟨enterQuiet s 1, rfl, ?_⟩
    dsimp only
    rw [faults]
    exact ⟨quiet, rfl, rfl, (enterQuiet_again_kept quiet 1).1, (enterQuiet_again_kept quiet 1).2⟩
  · refine ⟨_, rfl, ?_⟩
    exact if_pos quiet
  · refine ⟨_, rfl, ?_⟩
    exact if_neg (by simp [show s.faults.quiet = false from awake])
  · exact ⟨_, rfl, startSelftest_runs quiet idle⟩
  · exact completes_same rfl (startSelftest_same (Or.inr refused))
  · refine ⟨fun runs idle => ⟨_, rfl, ?_⟩, fun waits => ⟨_, rfl, ?_⟩⟩
    · exact endSelftest_ends runs idle
    · exact endSelftest_waits waits
  · have refuses : ∀ r, exitRefusal s = r → r ≠ 0 → Completes (.quietExit 0) s (fun s' => s' = { s with faults := { f with reason := r } }) := fun r why refused => by
      refine ⟨quietSettle (quietExit s 0), rfl, ?_⟩
      rw [quietExit_refuses why refused]
      exact quietSettle_of_quietDue_none settled
    refine ⟨fun awake => refuses 6 ?_ (by decide), fun quiet runs => refuses 5 ?_ (by decide), fun quiet idle tampered => refuses 3 ?_ (by decide),
      fun quiet idle whole closed untested => refuses 1 ?_ (by decide), fun quiet whole closed passed => ⟨fun erred => refuses 2 ?_ (by decide),
        fun clean out => refuses 4 ?_ (by decide), fun clean serves => ?_⟩⟩
    · rw [exitRefusal_cases, if_pos awake]
    · rw [exitRefusal_cases, if_neg (by simp [show s.faults.quiet = true from quiet]), if_pos runs]
    · rw [exitRefusal_cases, if_neg (by simp [show s.faults.quiet = true from quiet]), if_neg idle, if_pos tampered]
    · rw [exitRefusal_cases, if_neg (by simp [show s.faults.quiet = true from quiet]), if_neg idle, if_neg (by simp [whole, closed]), if_pos untested]
    · rw [exitRefusal_passed quiet whole closed passed, if_pos erred]
    · rw [exitRefusal_passed quiet whole closed passed, if_neg (by simp [show s.faults.errSince = false from clean]), if_pos out]
    · have free : exitRefusal s = 0 := by
        rw [exitRefusal_passed quiet whole closed passed, if_neg (by simp [show s.faults.errSince = false from clean]), if_neg (by simp [serves])]
      refine ⟨quietSettle (quietExit s 0), rfl, ?_⟩
      rw [quietExit_boots free]
      exact exit_boots s

end Sys2Proof.Machine
end

section
/-! A cold boot up to its bundle (O48). -/

namespace Sys2Proof.Machine

open Sys2Proof.Claims

/-- The kind of a cold boot of a state (R490). -/
def coldKind (f : Fuses) : Nat := if (f.lcs = 5 ∨ f.lcs = 7) ∧ f.epoch ≠ 0 then 2 else 1

/-- What a cold boot of `x` leaves of the device up to its bundle (R495). -/
structure ColdBase (x s : State) : Prop where
  power : s.supply.power = 1
  mains : s.supply.mains = true
  mem : s.mem = []
  slots : s.ks.slots = []
  ready : s.pins.ready = false
  threads : s.threads = []
  now : s.now = 0
  lcs : s.fuses.lcs = (bootLcs x.fuses).lcs
  kind : s.boot.kind = coldKind (bootLcs x.fuses)

/-- A cold boot of `x` under way: nothing has failed, nothing is asked of the host, there is no root, and the next free value is the `n`th. -/
structure Booting (x : State) (n : Nat) (s : State) : Prop extends ColdBase x s where
  fuses : s.fuses = bootLcs x.fuses
  stopped : s.boot.stopped = false
  gets : s.boot.gets = []
  root : s.keeper.root = none
  free : s.free = n

section

variable {x s : State} {n : Nat}

theorem ColdBase.bootStep (base : ColdBase x s) (k : Nat) : ColdBase x (bootStep s k) :=
  ⟨base.power, base.mains, base.mem, base.slots, base.ready, base.threads, base.now, base.lcs, base.kind⟩

theorem ColdBase.modBoot (base : ColdBase x s) {f : Boot → Boot} (kind : (f s.boot).kind = s.boot.kind) : ColdBase x (modBoot s f) :=
  ⟨base.power, base.mains, base.mem, base.slots, base.ready, base.threads, base.now, base.lcs, kind.trans base.kind⟩

theorem ColdBase.stopBoot (base : ColdBase x s) (fail : Nat) : ColdBase x (stopBoot s fail) := base.modBoot rfl

theorem Booting.bootStep (boots : Booting x n s) (k : Nat) : Booting x n (bootStep s k) :=
  ⟨boots.toColdBase.bootStep k, boots.fuses, boots.stopped, boots.gets, boots.root, boots.free⟩

theorem Booting.comesUp (boots : Booting x n s) : Booting x (n + 1) (comesUp s).2 :=
  ⟨⟨boots.power, boots.mains, boots.mem, boots.slots, boots.ready, boots.threads, boots.now, boots.lcs, boots.kind⟩, boots.fuses, boots.stopped,
    boots.gets, boots.root, congrArg (· + 1) boots.free⟩

theorem reRetire_slots (s : State) (cls ix : Nat) : (reRetire s cls ix).ks.slots = s.ks.slots := by
  unfold reRetire
  split
  case h_3 => split <;> rfl
  all_goals rfl

theorem reRetireAll_slots (s : State) : (reRetireAll s).ks.slots = s.ks.slots :=
  view_foldl (g := fun s => s.ks.slots) (f := fun s (x : Nat × Nat) => reRetire s x.1 x.2) (fun s x => reRetire_slots s x.1 x.2) _ s

theorem Booting.reRetireAll (boots : Booting x n s) : Booting x n (reRetireAll s) := by
  have w : Within (· ∈ [Part.regs, .krs, .engs, .ks, .doms, .faults]) s (Machine.reRetireAll s) := by
    have : Has (· ∈ [Part.regs, .krs, .engs, .ks, .doms, .faults]) .regs := has_mem (by decide)
    have : Has (· ∈ [Part.regs, .krs, .engs, .ks, .doms, .faults]) .krs := has_mem (by decide)
    have : Has (· ∈ [Part.regs, .krs, .engs, .ks, .doms, .faults]) .engs := has_mem (by decide)
    have : Has (· ∈ [Part.regs, .krs, .engs, .ks, .doms, .faults]) .ks := has_mem (by decide)
    have : Has (· ∈ [Part.regs, .krs, .engs, .ks, .doms, .faults]) .doms := has_mem (by decide)
    have : Has (· ∈ [Part.regs, .krs, .engs, .ks, .doms, .faults]) .faults := has_mem (by decide)
    exact reRetireAll_within s (Within.refl s)
  have supply : (Machine.reRetireAll s).supply = s.supply := w.same .supply (by decide)
  have mem : (Machine.reRetireAll s).mem = s.mem := w.same .mem (by decide)
  have pins : (Machine.reRetireAll s).pins = s.pins := w.same .pins (by decide)
  have threads : (Machine.reRetireAll s).threads = s.threads := w.same .threads (by decide)
  have now : (Machine.reRetireAll s).now = s.now := w.same .now (by decide)
  have fuses : (Machine.reRetireAll s).fuses = s.fuses := w.same .fuses (by decide)
  have boot : (Machine.reRetireAll s).boot = s.boot := w.same .boot (by decide)
  have keeper : (Machine.reRetireAll s).keeper = s.keeper := w.same .keeper (by decide)
  have free : (Machine.reRetireAll s).free = s.free := w.same .free (by decide)
  exact ⟨⟨by rw [supply, boots.power], by rw [supply, boots.mains], by rw [mem, boots.mem], by rw [reRetireAll_slots, boots.slots],
    by rw [pins, boots.ready], by rw [threads, boots.threads], by rw [now, boots.now], by rw [fuses, boots.lcs], by rw [boot, boots.kind]⟩,
    by rw [fuses, boots.fuses], by rw [boot, boots.stopped], by rw [boot, boots.gets], by rw [keeper, boots.root], by rw [free, boots.free]⟩

/-! ### Steps 1 and 2 (R495) -/

theorem coldBase_boots (x : State) : Booting x (x.free + 1) (coldBase x) := by
  have kind : (coldBase x).boot.kind = coldKind (bootLcs x.fuses) := by
    unfold coldBase coldKind
    dsimp only
    generalize bootLcs x.fuses = f
    have flip : (!(f.lcs == 5 || f.lcs == 7) || f.epoch == 0) = true ↔ ¬ ((f.lcs = 5 ∨ f.lcs = 7) ∧ f.epoch ≠ 0) := by
      simp only [Bool.or_eq_true, Bool.not_eq_true', Bool.or_eq_false_iff, beq_eq_false_iff_ne, beq_iff_eq]
      tauto
    by_cases trailed : (f.lcs = 5 ∨ f.lcs = 7) ∧ f.epoch ≠ 0
    · rw [if_pos trailed, if_neg (mt flip.1 (not_not.2 trailed))]
    · rw [if_neg trailed, if_pos (flip.2 trailed)]
  exact ⟨⟨rfl, rfl, rfl, rfl, rfl, rfl, rfl, rfl, kind⟩, rfl, rfl, rfl, rfl, rfl⟩

theorem Booting.setHolds (boots : Booting x n s) : Booting x n (setHolds s) := by
  have w : Within (· ∈ [Part.intake, .pins]) s (Machine.setHolds s) :=
    have : Has (· ∈ [Part.intake, .pins]) .intake := has_mem (by decide)
    have : Has (· ∈ [Part.intake, .pins]) .pins := has_mem (by decide)
    setHolds_within s (Within.refl s)
  have supply : (Machine.setHolds s).supply = s.supply := w.same .supply (by decide)
  have mem : (Machine.setHolds s).mem = s.mem := w.same .mem (by decide)
  have ks : (Machine.setHolds s).ks = s.ks := w.same .ks (by decide)
  have threads : (Machine.setHolds s).threads = s.threads := w.same .threads (by decide)
  have now : (Machine.setHolds s).now = s.now := w.same .now (by decide)
  have fuses : (Machine.setHolds s).fuses = s.fuses := w.same .fuses (by decide)
  have boot : (Machine.setHolds s).boot = s.boot := w.same .boot (by decide)
  have keeper : (Machine.setHolds s).keeper = s.keeper := w.same .keeper (by decide)
  have free : (Machine.setHolds s).free = s.free := w.same .free (by decide)
  exact ⟨⟨by rw [supply, boots.power], by rw [supply, boots.mains], by rw [mem, boots.mem], by rw [ks, boots.slots],
    by rw [setHolds_ready, boots.ready], by rw [threads, boots.threads], by rw [now, boots.now], by rw [fuses, boots.lcs], by rw [boot, boots.kind]⟩,
    by rw [fuses, boots.fuses], by rw [boot, boots.stopped], by rw [boot, boots.gets], by rw [keeper, boots.root], by rw [free, boots.free]⟩

theorem standby_boots (x : State) : Booting x (x.free + 1) (standby x) := ((coldBase_boots x).setHolds.bootStep 1).bootStep 2

theorem standby_step (x : State) : (standby x).boot.step = 2 := rfl

/-! ### Step 4: the root (R453, R496) -/

/-- The root's step begun: the responses are armed in the states that arm them. -/
def rootBegun (s : State) : State := modKeeper (bootStep s 4) (fun k => { k with armed := armStates.contains s.fuses.lcs })

/-- The root taken. -/
def rootTaken (s : State) (r : Bytes) : State := modKeeper s (fun k => { k with root := some r, identity := true })

theorem rootStep_rootless {s : State} (none_ : rootStates.contains s.fuses.lcs = false) : rootStep s = rootBegun s := by
  have begun : rootStates.contains (rootBegun s).fuses.lcs = false := none_
  unfold rootStep
  exact if_pos (congrArg (!·) begun)

theorem rootStep_rooted {s : State} (rooted : rootStates.contains s.fuses.lcs = true) : rootStep s = match rootOf (rootBegun s) with
    | some r => if rootCheckOf r = s.fuses.rootCheck then rootTaken (rootBegun s) r else rootFails (rootBegun s)
    | none => rootFails (rootBegun s) := by
  have begun : rootStates.contains (rootBegun s).fuses.lcs = true := rooted
  unfold rootStep
  exact if_neg fun no => absurd (no.symm.trans (congrArg (!·) begun)) (by decide)

theorem ColdBase.rootBegun (base : ColdBase x s) : ColdBase x (rootBegun s) :=
  ⟨base.power, base.mains, base.mem, base.slots, base.ready, base.threads, base.now, base.lcs, base.kind⟩

/-- R453: a root that cannot be made stops the boot at step 4, blows TAMPER and brings the quiet state. -/
structure RootFailed (x s : State) : Prop extends ColdBase x s where
  step : s.boot.step = 4
  stopped : s.boot.stopped = true
  fail : s.boot.fail = 3
  gets : s.boot.gets = []
  tamper : s.fuses.tamper = true
  quiet : s.faults.quiet = true
  cause : s.faults.cause = 4

theorem ColdBase.rootFails (base : ColdBase x s) : ColdBase x (rootFails s) :=
  ⟨base.power, base.mains, base.mem, base.slots, base.ready, base.threads, base.now, base.lcs, base.kind⟩

theorem rootFails_fails (base : ColdBase x s) (step : s.boot.step = 4) (gets : s.boot.gets = []) : RootFailed x (rootFails s) :=
  ⟨base.rootFails, step, rfl, rfl, gets, rfl, rfl, rfl⟩

theorem rootBegun_step (s : State) : (rootBegun s).boot.step = 4 := rfl

theorem rootBegun_gets (s : State) : (rootBegun s).boot.gets = s.boot.gets := rfl

/-! ### Steps 5 and 6: the rails and the fetch (R493, R506) -/

/-- Whether a bit of the `n`th free value is set: the supply or the rails come up. -/
def upAt (n : Nat) : Prop := fld (Config.freeValue n) 0 0 = 1

/-- A boot that asks for its bundle, or one that its rails have stopped at step 5. -/
def FetchBegun (s : State) (n : Nat) : Prop :=
  (upAt n → s.boot.step = 6 ∧ s.boot.stopped = false ∧ s.boot.gets = [(0, 1024)] ∧ s.out.getLast? = some (.getReq true 0 1024)) ∧
    (¬ upAt n → s.boot.step = 5 ∧ s.boot.stopped = true ∧ s.boot.fail = 4 ∧ s.boot.gets = [])

/-- Steps 5 and 6 after the root. -/
def railsFrom (s : State) : State :=
  if (comesUp (bootStep s 5)).1 then startFetch (drawNonces (bootStep (comesUp (bootStep s 5)).2 6)) else stopBoot (comesUp (bootStep s 5)).2 4

theorem comesUp_up (s : State) : (comesUp s).1 = true ↔ upAt s.free := by
  unfold comesUp upAt
  exact beq_iff_eq

theorem ColdBase.startFetch (base : ColdBase x s) : ColdBase x (startFetch s) :=
  ⟨base.power, base.mains, base.mem, base.slots, base.ready, base.threads, base.now, base.lcs, base.kind⟩

theorem ColdBase.drawNonces (base : ColdBase x s) : ColdBase x (drawNonces s) :=
  ⟨base.power, base.mains, base.mem, base.slots, base.ready, base.threads, base.now, base.lcs, base.kind⟩

theorem ColdBase.comesUp (base : ColdBase x s) : ColdBase x (comesUp s).2 :=
  ⟨base.power, base.mains, base.mem, base.slots, base.ready, base.threads, base.now, base.lcs, base.kind⟩

theorem ColdBase.railsFrom (base : ColdBase x s) : ColdBase x (railsFrom s) := by
  unfold Machine.railsFrom
  split
  · exact (((base.bootStep 5).comesUp.bootStep 6).drawNonces).startFetch
  · exact (base.bootStep 5).comesUp.stopBoot 4

theorem railsFrom_fetches (gets : s.boot.gets = []) : FetchBegun (railsFrom s) s.free := by
  have tested : (comesUp (bootStep s 5)).1 = true ↔ upAt s.free := comesUp_up _
  unfold railsFrom
  refine ⟨fun up => ?_, fun down => ?_⟩
  · rw [if_pos (tested.2 up)]
    exact ⟨rfl, rfl, rfl, List.getLast?_concat ..⟩
  · rw [if_neg (mt tested.1 down)]
    exact ⟨rfl, rfl, rfl, gets⟩

theorem railsFrom_keeper (s : State) : (railsFrom s).keeper = s.keeper := by
  have begun : (comesUp (bootStep s 5)).2.keeper = s.keeper := rfl
  have fetches : ∀ t : State, (startFetch (drawNonces (bootStep t 6))).keeper = t.keeper := fun _ => rfl
  have stops : ∀ t : State, (stopBoot t 4).keeper = t.keeper := fun _ => rfl
  unfold railsFrom
  split
  · exact (fetches _).trans begun
  · exact (stops _).trans begun

/-! ### Steps 3 to 6 (R495) -/

/-- Step 3: the retirements. -/
def retirementsTaken (s : State) : State := reRetireAll (bootStep s 3)

theorem coldFrom_scrapped {s : State} (scrapped : (retirementsTaken s).fuses.lcs = 0xF) : coldFrom s = retirementsTaken s := by
  unfold coldFrom
  exact if_pos scrapped

theorem coldFrom_stopped {s : State} (alive : (retirementsTaken s).fuses.lcs ≠ 0xF) (stopped : (rootStep (retirementsTaken s)).boot.stopped = true) :
    coldFrom s = rootStep (retirementsTaken s) := by
  unfold coldFrom
  exact (if_neg alive).trans (if_pos stopped)

theorem coldFrom_runs {s : State} (alive : (retirementsTaken s).fuses.lcs ≠ 0xF) (runs : (rootStep (retirementsTaken s)).boot.stopped = false) :
    coldFrom s = railsFrom (rootStep (retirementsTaken s)) := by
  unfold coldFrom
  exact (if_neg alive).trans (if_neg (by simp [show (rootStep (reRetireAll (bootStep s 3))).boot.stopped = false from runs]))

/-- The root's ending: the fuses of a boot that is not scrapped are those of the device, in its next state. -/
theorem bootLcs_alive {f : Fuses} (whole : f.tamper = false) : bootLcs f = { f with lcs := f.lcsNext } := if_neg (by simp [whole])

theorem bootLcs_lcs (f : Fuses) : (bootLcs f).lcs = if f.tamper then 0xF else f.lcsNext := by
  unfold bootLcs
  split <;> rfl

theorem bootLcs_scrapped {f : Fuses} (scrap : f.tamper = true ∨ f.lcsNext = 0xF) : (bootLcs f).lcs = 0xF := by
  rw [bootLcs_lcs]
  rcases scrap with tamper | next
  · rw [if_pos tamper]
  · rw [next, ite_self]

theorem Booting.retirementsTaken (boots : Booting x n s) : Booting x n (retirementsTaken s) := (boots.bootStep 3).reRetireAll

theorem retirementsTaken_step (s : State) : (retirementsTaken s).boot.step = 3 :=
  congrArg Boot.step (boot_kept (reRetireAll_within _ (Within.refl (bootStep s 3))))

theorem rootBegun_kept (t : State) : (rootBegun t).boot.stopped = t.boot.stopped ∧ (rootBegun t).boot.gets = t.boot.gets ∧ (rootBegun t).free = t.free ∧
    (rootBegun t).keeper.root = t.keeper.root ∧ (rootBegun t).fuses = t.fuses := ⟨rfl, rfl, rfl, rfl, rfl⟩

theorem rootBegun_armed (t : State) : (rootBegun t).keeper.armed = armStates.contains t.fuses.lcs := rfl

theorem rootTaken_kept (t : State) (r : Bytes) : (rootTaken t r).boot = t.boot ∧ (rootTaken t r).free = t.free ∧
    (rootTaken t r).keeper = { t.keeper with root := some r, identity := true } := ⟨rfl, rfl, rfl⟩

theorem ColdBase.rootTaken (base : ColdBase x s) (r : Bytes) : ColdBase x (rootTaken s r) :=
  ⟨base.power, base.mains, base.mem, base.slots, base.ready, base.threads, base.now, base.lcs, base.kind⟩

theorem rootOf_fuses {t : State} (same : s.fuses = { x.fuses with lcs := x.fuses.lcsNext }) (begun : t.fuses = s.fuses) : rootOf t = rootOf x := by
  rw [rootOf, begun, same, rootOf]

/-- R496: a SCRAPPED device stops after step 3. -/
theorem coldFrom_scrap (boots : Booting x n s) (scrap : x.fuses.tamper = true ∨ x.fuses.lcsNext = 0xF) :
    ColdBase x (coldFrom s) ∧ (coldFrom s).boot.step = 3 ∧ (coldFrom s).boot.gets = [] ∧ (coldFrom s).keeper.root = none := by
  have taken := boots.retirementsTaken
  rw [coldFrom_scrapped (by rw [taken.lcs, bootLcs_scrapped scrap])]
  exact ⟨taken.toColdBase, retirementsTaken_step s, taken.gets, taken.root⟩

section

variable (boots : Booting x n s) (whole : x.fuses.tamper = false) (alive : x.fuses.lcsNext ≠ 0xF)

include boots whole

theorem retirementsTaken_lcs : (retirementsTaken s).fuses = { x.fuses with lcs := x.fuses.lcsNext } := by
  rw [boots.retirementsTaken.fuses, bootLcs_alive whole]

include alive

theorem retirementsTaken_alive : (retirementsTaken s).fuses.lcs ≠ 0xF := by
  rw [retirementsTaken_lcs boots whole]
  exact alive

/-- A boot whose root step ends well goes on to the fetch. -/
theorem coldFrom_fetches (base : ColdBase x (rootStep (retirementsTaken s))) (runs : (rootStep (retirementsTaken s)).boot.stopped = false)
    (gets : (rootStep (retirementsTaken s)).boot.gets = []) (free : (rootStep (retirementsTaken s)).free = n) :
    ColdBase x (coldFrom s) ∧ FetchBegun (coldFrom s) n ∧ (coldFrom s).keeper = (rootStep (retirementsTaken s)).keeper := by
  rw [coldFrom_runs (retirementsTaken_alive boots whole alive) runs]
  exact ⟨base.railsFrom, free ▸ railsFrom_fetches gets, railsFrom_keeper _⟩

/-- A state without a root goes on to the fetch without one. -/
theorem coldFrom_rootless (none_ : ¬ (x.fuses.lcsNext = 3 ∨ x.fuses.lcsNext = 5 ∨ x.fuses.lcsNext = 7)) :
    ColdBase x (coldFrom s) ∧ FetchBegun (coldFrom s) n ∧ (coldFrom s).keeper.root = none := by
  have taken := boots.retirementsTaken
  obtain ⟨stopped, gets, free, root, -⟩ := rootBegun_kept (retirementsTaken s)
  have rootless : rootStep (retirementsTaken s) = rootBegun (retirementsTaken s) := rootStep_rootless (by
    rw [retirementsTaken_lcs boots whole]
    simpa [rootStates] using none_)
  have fetched := coldFrom_fetches boots whole alive (by rw [rootless]; exact taken.toColdBase.rootBegun) (by rw [rootless, stopped, taken.stopped])
    (by rw [rootless, gets, taken.gets]) (by rw [rootless, free, taken.free])
  exact ⟨fetched.1, fetched.2.1, by rw [fetched.2.2, rootless, root, taken.root]⟩

/-- R453: a root that cannot be made stops the boot. -/
theorem coldFrom_fails (fails : rootStep (retirementsTaken s) = rootFails (rootBegun (retirementsTaken s))) : RootFailed x (coldFrom s) := by
  have taken := boots.retirementsTaken
  have failed := rootFails_fails taken.toColdBase.rootBegun (rootBegun_step _) ((rootBegun_gets _).trans taken.gets)
  rw [← fails] at failed
  rw [coldFrom_stopped (retirementsTaken_alive boots whole alive) failed.stopped]
  exact failed

variable (rooted : x.fuses.lcsNext = 3 ∨ x.fuses.lcsNext = 5 ∨ x.fuses.lcsNext = 7)

include rooted

omit alive in
theorem rootStep_makes : rootStep (retirementsTaken s) = match rootOf x with
    | some r => if rootCheckOf r = x.fuses.rootCheck then rootTaken (rootBegun (retirementsTaken s)) r else rootFails (rootBegun (retirementsTaken s))
    | none => rootFails (rootBegun (retirementsTaken s)) := by
  have fuses := retirementsTaken_lcs boots whole
  obtain ⟨-, -, -, -, begun⟩ := rootBegun_kept (retirementsTaken s)
  have listed : rootStates.contains (retirementsTaken s).fuses.lcs = true := by
    rw [fuses]
    simpa [rootStates] using rooted
  rw [rootStep_rooted listed, rootOf_fuses fuses begun, fuses]

/-- R453: a boot without a root stops where one is due. -/
theorem coldFrom_unrooted (none_ : rootOf x = none) : RootFailed x (coldFrom s) := by
  refine coldFrom_fails boots whole alive ?_
  rw [rootStep_makes boots whole rooted, none_]

/-- R453: without the mesh's share there is no root. -/
theorem coldFrom_unmeshed (gone : x.fuses.meshHelper = false ∨ x.fuses.meshGone = true) : RootFailed x (coldFrom s) :=
  coldFrom_unrooted boots whole alive rooted (if_neg (by rcases gone with helper | gone <;> simp [*]))

/-- R456: a root is taken where its check holds. -/
theorem coldFrom_rooted {root : Bytes} (made : rootOf x = some root) :
    (rootCheckOf root = x.fuses.rootCheck → ColdBase x (coldFrom s) ∧ FetchBegun (coldFrom s) n ∧ (coldFrom s).keeper.root = some root ∧
      (coldFrom s).keeper.identity = true ∧ (coldFrom s).keeper.armed = true) ∧
    (rootCheckOf root ≠ x.fuses.rootCheck → RootFailed x (coldFrom s)) := by
  have taken := boots.retirementsTaken
  have ends := rootStep_makes boots whole rooted
  rw [made] at ends
  refine ⟨fun holds => ?_, fun fails => coldFrom_fails boots whole alive (ends.trans (if_neg fails))⟩
  have begins : rootStep (retirementsTaken s) = rootTaken (rootBegun (retirementsTaken s)) root := ends.trans (if_pos holds)
  obtain ⟨stopped, gets, free, -, -⟩ := rootBegun_kept (retirementsTaken s)
  obtain ⟨boot, free', keeper⟩ := rootTaken_kept (rootBegun (retirementsTaken s)) root
  have fetched := coldFrom_fetches boots whole alive (by rw [begins]; exact taken.toColdBase.rootBegun.rootTaken root)
    (by rw [begins, boot, stopped, taken.stopped]) (by rw [begins, boot, gets, taken.gets]) (by rw [begins, free', free, taken.free])
  have armed : (rootBegun (retirementsTaken s)).keeper.armed = true := by
    rw [rootBegun_armed, retirementsTaken_lcs boots whole]
    rcases rooted with lcs | lcs | lcs <;> simp [armStates, lcs]
  rw [begins, keeper] at fetched
  exact ⟨fetched.1, fetched.2.1, by rw [fetched.2.2], by rw [fetched.2.2], by rw [fetched.2.2]; exact armed⟩

end

/-- R454: the root from its three shares. -/
theorem rootOf_shares {share : Bytes} (helper : x.fuses.meshHelper = true) (there : x.fuses.meshGone = false) (fused : x.fuses.fuseShare = some share) :
    rootOf x = some (sha256 (Config.meshShare ++ Config.pufShare ++ share)) := by
  rw [rootOf, if_pos (by simp [helper, there]), fused]
  rfl

/-- Each cold boot leaves the device as its steps begin from. -/
theorem coldFrom_base (boots : Booting x n s) : ColdBase x (coldFrom s) := by
  by_cases scrap : x.fuses.tamper = true ∨ x.fuses.lcsNext = 0xF
  · exact (coldFrom_scrap boots scrap).1
  · obtain ⟨tamper, alive⟩ := not_or.1 scrap
    have whole : x.fuses.tamper = false := by simpa using tamper
    by_cases rooted : x.fuses.lcsNext = 3 ∨ x.fuses.lcsNext = 5 ∨ x.fuses.lcsNext = 7
    · cases made : rootOf x with
      | none => exact (coldFrom_unrooted boots whole alive rooted made).toColdBase
      | some root =>
        by_cases holds : rootCheckOf root = x.fuses.rootCheck
        · exact ((coldFrom_rooted boots whole alive rooted made).1 holds).1
        · exact ((coldFrom_rooted boots whole alive rooted made).2 holds).toColdBase
    · exact (coldFrom_rootless boots whole alive rooted).1

end

end Sys2Proof.Machine
end

section
/-! A cold boot's bundle, its reports, and O48. -/

namespace Sys2Proof.Machine

open Sys2Proof.Claims

/-! ### The bytes of a bundle (R493) -/

theorem storeBundle_before {i : Nat} : ∀ (b : Bytes) (m : Tab Byte) (off : Nat), i < off → tget 0 (storeBundle m off b) i = tget 0 m i
  | [], _, _, _ => rfl
  | x :: xs, m, off, before => by
    rw [storeBundle, storeBundle_before xs _ _ (by omega), tget_tset_ne _ _ _ _ (by omega)]

theorem storeBundle_after {i : Nat} : ∀ (b : Bytes) (m : Tab Byte) (off : Nat), off + b.length ≤ i → tget 0 (storeBundle m off b) i = tget 0 m i
  | [], _, _, _ => rfl
  | x :: xs, m, off, after => by
    rw [List.length_cons] at after
    rw [storeBundle, storeBundle_after xs _ _ (by omega), tget_tset_ne _ _ _ _ (by omega)]

theorem storeBundle_at : ∀ (b : Bytes) (m : Tab Byte) (off i : Nat), i < b.length → tget 0 (storeBundle m off b) (off + i) = nth 0 b i
  | x :: xs, m, off, 0, _ => by
    rw [storeBundle, storeBundle_before xs _ _ (by omega), Nat.add_zero, tget_tset_self]
    rfl
  | x :: xs, m, off, i + 1, here => by
    rw [storeBundle, show off + (i + 1) = off + 1 + i by omega, storeBundle_at xs _ _ i (by simpa using here)]
    rfl

/-! ### Frames of a bundle (R493) -/

/-- The host's bytes stored. -/
def bundleStored (s : State) (off len : Nat) (b : Bytes) : State :=
  modBoot s (fun x => { x with
    hostKnown := true, gets := x.gets.filter (· != (off, len)), got := x.got ++ [(off, len)], bundle := storeBundle x.bundle off b })

/-- A stopped boot that a bundle restarts. -/
def bundleReopened (s : State) : State :=
  if s.boot.stopped then modBoot s (fun x => { x with stopped := false, step := 6, bundle := [], got := [], total := 0 }) else s

/-- What follows a stored chunk: a start chunk that is not sound, more to ask for, or the whole bundle. -/
def bundleJudged (s : State) (off : Nat) (x : Bytes) : State :=
  if off = 0 ∧ !bundleStartOk x then stopBoot (modBoot s (fun x => { x with gets := [] })) 5
  else
    let s := if off = 0 then modBoot s (fun y => { y with total := bundleTotal x, gets := [] }) else s
    let s := askMore s 64
    if s.boot.gets = [] ∧ 0 < s.boot.total then bootRun s ((List.range s.boot.total).map (fun i => tget 0 s.boot.bundle i)) else s

/-- What the device has of its bundle. -/
def bundleHad (s : State) : Bool × List (Nat × Nat) × Tab Byte := (s.boot.hostKnown, s.boot.got, s.boot.bundle)

theorem askMore_had : ∀ (n : Nat) (s : State), bundleHad (askMore s n) = bundleHad s
  | 0, _ => rfl
  | n + 1, s => by
    unfold askMore
    dsimp only
    split
    · rfl
    · exact askMore_had n _

theorem askMore_asked {g : Nat × Nat} : ∀ (n : Nat) (s : State), g ∈ s.boot.gets → g ∈ (askMore s n).boot.gets
  | 0, _, listed => listed
  | n + 1, s, listed => by
    unfold askMore
    dsimp only
    split
    · exact listed
    · exact askMore_asked n _ (List.mem_append_left _ listed)

section

variable {s : State} {off len : Nat} {x : List Byte}

theorem bundleData_discards (out : (off, len) ∉ s.boot.gets ∨ x.length ≠ len) : bundleData s off len x = s := by
  unfold bundleData
  rw [if_pos]
  rcases out with unasked | short
  · exact Or.inl (by simpa using unasked)
  · exact Or.inr (Or.inl short)

theorem bundleData_stopped (stopped : s.boot.stopped = true) (final : s.boot.fail ∉ [5, 6, 7, 8, 0xB, 0xC]) : bundleData s off len x = s := by
  have no : retries s = false := by
    rw [retries, stopped]
    simpa using final
  unfold bundleData
  rw [if_pos (Or.inr (Or.inr ⟨stopped, by rw [no]; rfl⟩))]

variable (asked : (off, len) ∈ s.boot.gets) (whole : x.length = len) (runs : s.boot.stopped = false)

include asked whole runs

theorem bundleData_taken : bundleData s off len x = bundleJudged (bundleStored s off len x) off x := by
  have taken : ¬ ((!s.boot.gets.contains (off, len)) = true ∨ x.length ≠ len ∨ s.boot.stopped = true ∧ (!retries s) = true) := by
    simp [asked, whole, runs]
  have same : bundleReopened s = s := if_neg (by simp [runs])
  have judged : bundleData s off len x = bundleJudged (bundleStored (bundleReopened s) off len x) off x := by
    unfold bundleData
    exact if_neg taken
  rw [judged, same]

/-- R493, R506: a start chunk that is not sound stops the boot. -/
theorem bundleData_unsound (first : off = 0) (bad : bundleStartOk x = false) :
    bundleData s off len x = stopBoot (modBoot (bundleStored s off len x) (fun x => { x with gets := [] })) 5 := by
  rw [bundleData_taken asked whole runs]
  exact if_pos ⟨first, by rw [bad]; rfl⟩

/-- R493: a later chunk is stored while others are outstanding. -/
theorem bundleData_stores (later : 0 < off) (more : ∃ g ∈ s.boot.gets, g ≠ (off, len)) :
    bundleData s off len x = askMore (bundleStored s off len x) 64 := by
  obtain ⟨g, listed, other⟩ := more
  have kept : g ∈ (bundleStored s off len x).boot.gets := List.mem_filter.2 ⟨listed, by simpa using other⟩
  have open_ : (askMore (bundleStored s off len x) 64).boot.gets ≠ [] := List.ne_nil_of_mem (askMore_asked 64 _ kept)
  have notFirst : ¬ off = 0 := by omega
  rw [bundleData_taken asked whole runs, bundleJudged, if_neg fun h => notFirst h.1]
  dsimp only
  rw [if_neg notFirst, if_neg fun h => open_ h.1]

theorem bundleData_bytes (later : 0 < off) (more : ∃ g ∈ s.boot.gets, g ≠ (off, len)) :
    (bundleData s off len x).boot.got = s.boot.got ++ [(off, len)] ∧ (bundleData s off len x).boot.hostKnown = true ∧
      (∀ i, i < len → tget 0 (bundleData s off len x).boot.bundle (off + i) = nth 0 x i) ∧
      (∀ i, i < off ∨ off + len ≤ i → tget 0 (bundleData s off len x).boot.bundle i = tget 0 s.boot.bundle i) := by
  have had := askMore_had 64 (bundleStored s off len x)
  obtain ⟨known, got, bundle⟩ := by simpa only [bundleHad, Prod.mk.injEq] using had
  rw [bundleData_stores asked whole runs later more, known, got, bundle]
  refine ⟨rfl, rfl, fun i here => storeBundle_at x _ off i (by rwa [whole]), fun i out => ?_⟩
  rcases out with before | after
  · exact storeBundle_before x _ off before
  · exact storeBundle_after x _ off (by rwa [whole])

end

/-! ### What a bundle's frames leave of a cause of the quiet state -/

theorem askMore_faults (n : Nat) (s : State) : (askMore s n).faults = s.faults := faults_kept (askMore_within n (Within.refl s))

/-! ### Reports (R506) -/

theorem failReport_runs {s : State} (runs : s.boot.stopped = false) : failReport s = s := if_pos (by rw [runs]; rfl)

theorem emit_emit (s : State) (a b : Out) : emit (emit s a) b = { s with out := s.out ++ [a, b] } := by
  rw [emit, emit]
  simp

theorem failReport_final {s : State} (stopped : s.boot.stopped = true) (final : s.boot.fail ∉ [5, 6, 7, 8, 0xB, 0xC]) :
    failReport s = { s with out := s.out ++ [.status s.boot.step s.boot.fail, .uart "FAIL" s.boot.step s.boot.fail] } := by
  have no : ∀ a b, retries (emit (emit s a) b) = false := fun a b => by
    rw [retries, show (emit (emit s a) b).boot = s.boot from rfl, stopped]
    simpa using final
  unfold failReport
  rw [if_neg (by simp [stopped])]
  dsimp only
  rw [if_neg (by rw [no]; decide), emit_emit]

theorem failReport_asks {s : State} (stopped : s.boot.stopped = true) (again : s.boot.fail ∈ [5, 6, 7, 8, 0xB, 0xC]) :
    (failReport s).boot.gets = [(0, 1024)] ∧
      (failReport s).out = s.out ++ [.status s.boot.step s.boot.fail, .uart "FAIL" s.boot.step s.boot.fail, .getReq true 0 1024] := by
  have yes : ∀ a b, retries (emit (emit s a) b) = true := fun a b => by
    rw [retries, show (emit (emit s a) b).boot = s.boot from rfl, stopped]
    simpa using again
  unfold failReport
  rw [if_neg (by simp [stopped])]
  dsimp only
  rw [if_pos (yes _ _)]
  refine ⟨rfl, ?_⟩
  simp [sendGet, emit, modBoot]

/-! ### Mains applied (R495) -/

theorem mainsApplied_powered {s : State} (powered : s.supply.power ≠ 0) : mainsApplied s = s := if_pos powered

theorem mainsApplied_up {s : State} (off : s.supply.power = 0) (up : upAt (s.free + 1)) :
    mainsApplied s = coldFrom (comesUp (standby s)).2 := by
  have boots := standby_boots s
  have rises : (comesUp (standby s)).1 = true := (comesUp_up _).2 (by rwa [boots.free])
  exact (if_neg (not_not.2 off)).trans (if_pos rises)

/-- R506: a 12 V bus that does not come up stops the boot at step 2. -/
theorem mainsApplied_down {s : State} (off : s.supply.power = 0) (down : ¬ upAt (s.free + 1)) : mainsApplied s = stopBoot (comesUp (standby s)).2 1 := by
  have boots := standby_boots s
  have stays : ¬ (comesUp (standby s)).1 = true := mt (comesUp_up _).1 (by rwa [boots.free])
  exact (if_neg (not_not.2 off)).trans (if_neg stays)

theorem stopped_kept (t : State) (fail : Nat) : (stopBoot t fail).boot.step = t.boot.step ∧ (stopBoot t fail).boot.stopped = true ∧
    (stopBoot t fail).boot.fail = fail ∧ (stopBoot t fail).boot.gets = t.boot.gets := ⟨rfl, rfl, rfl, rfl⟩

theorem coldKind_eq (f : Fuses) : coldKind (bootLcs f) = if ((bootLcs f).lcs = 5 ∨ (bootLcs f).lcs = 7) ∧ f.epoch ≠ 0 then 2 else 1 := by
  have same : (bootLcs f).epoch = f.epoch := by
    unfold bootLcs
    split <;> rfl
  rw [coldKind, same]

/-- Settles O48: mains applied, the root, the fetch, and the frames of a bundle, each by its own lemma. -/
theorem coldBootRuns : Obligations.ColdBootRuns := by
  unfold Obligations.ColdBootRuns
  intro s settled b bit base stops fetches cold
  have based : ∀ {t : State}, ColdBase s t → base t := fun h =>
    ⟨h.power, h.mains, h.mem, h.slots, h.ready, h.threads, h.now, h.lcs.trans (bootLcs_lcs _), h.kind.trans (by rw [h.lcs]; exact coldKind_eq _)⟩
  have fetched : ∀ {t : State} {n : Nat}, FetchBegun t n → fetches t n := fun {t n} h => by
    show if bit n then _ else _
    split
    · next up => exact h.1 up
    · next down => exact h.2 down
  have failed : ∀ {t : State}, RootFailed s t → stops t 4 3 := fun h => ⟨h.step, h.stopped, h.fail, h.gets⟩
  have colds : ∀ {t : State} {n : Nat}, Booting s n t → cold n (coldFrom t) := fun {t n} boots => by
    have lives : ¬ (s.fuses.tamper = true ∨ s.fuses.lcsNext = 0xF) → s.fuses.tamper = false ∧ s.fuses.lcsNext ≠ 0xF := fun scrap => by
      simpa using scrap
    refine ⟨based (coldFrom_base boots), fun scrap => (coldFrom_scrap boots scrap).2, fun scrap none_ => ?_, fun scrap rooted gone => ?_,
      fun share scrap rooted helper there fused => ?_⟩
    · have ends := coldFrom_rootless boots (lives scrap).1 (lives scrap).2 none_
      exact ⟨fetched ends.2.1, ends.2.2⟩
    · have ends := coldFrom_unmeshed boots (lives scrap).1 (lives scrap).2 rooted gone
      exact ⟨failed ends, ends.tamper, ends.quiet, ends.cause⟩
    · have ends := coldFrom_rooted boots (lives scrap).1 (lives scrap).2 rooted (rootOf_shares helper there fused)
      show if rootCheckOf (sha256 (Config.meshShare ++ Config.pufShare ++ share)) = s.fuses.rootCheck then _ else _
      split
      · next holds =>
        obtain ⟨-, fetch, root⟩ := ends.1 holds
        exact ⟨fetched fetch, root⟩
      · next fails => exact ⟨failed (ends.2 fails), (ends.2 fails).tamper, (ends.2 fails).cause⟩
  refine ⟨fun off => ⟨_, rfl, ?_⟩, fun powered => ⟨_, rfl, mainsApplied_powered powered⟩, fun stopped fail => ⟨_, rfl, ?_⟩, fun out => ⟨_, rfl, ?_⟩,
    ⟨_, rfl, ?_⟩, fun off len x out => ⟨_, rfl, ?_⟩, fun off len x asked whole stopped final => ⟨_, rfl, ?_⟩,
    fun len x asked whole runs bad => ⟨_, rfl, ?_⟩, fun off len x asked whole runs later more => ⟨_, rfl, ?_⟩,
    fun o n rest gets known => ⟨_, rfl, ?_⟩, fun silent => ⟨_, rfl, ?_⟩, fun step unknown runs asks => ?_, fun known => ⟨⟨_, rfl, ?_⟩, ⟨_, rfl, ?_⟩⟩,
    fun runs => ⟨_, rfl, failReport_runs runs⟩, fun stopped => ⟨fun again => ⟨_, rfl, failReport_asks stopped again⟩, fun final => ⟨_, rfl, ?_⟩⟩⟩
  · show if bit (s.free + 1) then _ else _
    split
    · next up =>
      rw [mainsApplied_up off up]
      exact colds (standby_boots s).comesUp
    · next down =>
      rw [mainsApplied_down off down]
      have kept := stopped_kept (comesUp (standby s)).2 1
      have boot : (comesUp (standby s)).2.boot = (standby s).boot := rfl
      exact ⟨based ((standby_boots s).comesUp.toColdBase.stopBoot 1), by rw [kept.1, boot, standby_step], kept.2.1, kept.2.2.1,
        by rw [kept.2.2.2, boot, (standby_boots s).gets]⟩
  · rw [if_pos ⟨stopped, fail, rfl⟩]
    exact colds (standby_boots s)
  · refine if_neg fun h => ?_
    rcases out with runs | other
    · exact absurd h.1 (by simp [show s.boot.stopped = false from runs])
    · exact other h.2.1
  · exact if_neg (by simp)
  · rw [bundleData_discards out]
    exact quietSettle_of_quietDue_none settled
  · rw [bundleData_stopped stopped final]
    exact quietSettle_of_quietDue_none settled
  · have unsound : (stopBoot (modBoot (bundleStored s 0 len x) (fun x => { x with gets := [] })) 5).faults.quietDue = none := settled
    rw [bundleData_unsound asked whole runs rfl bad, quietSettle_of_quietDue_none unsound]
    exact ⟨rfl, rfl, rfl, rfl⟩
  · have calm : (bundleData s off len x).faults.quietDue = none := by
      rw [bundleData_stores asked whole runs later more, askMore_faults]
      exact settled
    rw [quietSettle_of_quietDue_none calm]
    exact bundleData_bytes asked whole runs later more
  · rw [show s.boot.gets = (o, n) :: rest from gets]
    exact if_pos known
  · rcases silent with none_ | unknown
    · rw [show s.boot.gets = [] from none_]
    · split
      · exact if_neg (by simp [show s.boot.hostKnown = false from unknown])
      · rfl
  · refine ⟨⟨_, rfl, ?_⟩, fun late => ⟨_, rfl, ?_⟩, fun early => ⟨_, rfl, ?_⟩⟩
    · exact if_pos ⟨step, by simp [show s.boot.hostKnown = false from unknown], by simp [show s.boot.stopped = false from runs], asks⟩
    · rw [if_pos ⟨step, by simp [show s.boot.hostKnown = false from unknown], by simp [show s.boot.stopped = false from runs], asks, late⟩]
      rfl
    · exact if_neg fun h => absurd h.2.2.2.2 (Nat.not_le.2 early)
  · exact if_neg fun h => absurd h.2.1 (by simp [show s.boot.hostKnown = true from known])
  · exact if_neg fun h => absurd h.2.1 (by simp [show s.boot.hostKnown = true from known])
  · exact failReport_final stopped final

end Sys2Proof.Machine
end

section
/-! A warm boot leaves no command and no session (R491). -/

namespace Sys2Proof.Machine

open Sys2Proof.Claims

/-- A thread that holds no command. -/
def CmdFree (s : State) (t : Nat) : Prop := (thr s t).inbox = [] ∧ (thr s t).current = none

section

variable {s u : State} {t : Nat}

theorem CmdFree.congr (free : CmdFree s t) (inbox : (thr u t).inbox = (thr s t).inbox) (current : (thr u t).current = (thr s t).current) : CmdFree u t := by
  rw [CmdFree, inbox, current]
  exact free

theorem CmdFree.of_thr (free : CmdFree s t) (same : thr u t = thr s t) : CmdFree u t := by
  rw [CmdFree, same]
  exact free

theorem CmdFree.of_threads (free : CmdFree s t) (same : u.threads = s.threads) : CmdFree u t := free.of_thr (thr_of_threads same t)

theorem CmdFree.seatTold (free : CmdFree s t) (told : SeatTold (thr s t) (thr u t)) : CmdFree u t := free.congr (by rw [told.rest]) (by rw [told.rest])

theorem CmdFree.roused (free : CmdFree s t) (roused : Roused (thr s t) (thr u t)) : CmdFree u t := free.congr (by rw [roused.rest]) (by rw [roused.rest])

end

section

variable {s : State} {t : Nat} (free : CmdFree s t)

include free

/-- A thread that keeps its commands, written back. -/
theorem CmdFree.putThr {u : Nat} {th : Thread} (inbox : th.inbox = (thr s u).inbox) (current : th.current = (thr s u).current) :
    CmdFree (putThr s u th) t := by
  by_cases same : t = u
  · refine free.congr ?_ ?_ <;> rw [same, putThr_self]
    · exact inbox
    · exact current
  · refine free.congr ?_ ?_ <;> rw [putThr_ne _ _ _ _ same]

theorem CmdFree.storePieces (b : Option Nat) (ps : Pieces) (ds : List Digit) (bad : Bool) : CmdFree (storePieces s b ps ds bad) t :=
  free.congr (storePieces_part Thread.inbox (fun _ _ => rfl) b bad t ps ds s) (storePieces_part Thread.current (fun _ _ => rfl) b bad t ps ds s)

theorem CmdFree.putArch (u : Nat) (a : Arch) : CmdFree (Machine.putThr s u { thr s u with arch := a }) t := free.putThr rfl rfl

theorem CmdFree.abandonDiv (u : Nat) : CmdFree (abandonDiv s u) t := by
  unfold Machine.abandonDiv
  dsimp only
  split
  · exact free
  · split
    · exact (free.putArch u _).of_thr (modCyl_thr _ _ _ _)
    · exact free

end

theorem truncate_cmds (th : Thread) : (truncate th).inbox = th.inbox ∧ (truncate th).current = th.current := by
  unfold truncate
  split
  · exact ⟨rfl, rfl⟩
  · exact ⟨rfl, rfl⟩

theorem showMul_cmds (th : Thread) (all : Bool) : (showMul th all).inbox = th.inbox ∧ (showMul th all).current = th.current := by
  unfold showMul
  split
  · split
    · split <;> exact ⟨rfl, rfl⟩
    · exact ⟨rfl, rfl⟩
  · exact ⟨rfl, rfl⟩

theorem showAllMul_cmds (n : Nat) (th : Thread) : (showAllMul th n).inbox = th.inbox ∧ (showAllMul th n).current = th.current := by
  induction n generalizing th with
  | zero => exact ⟨rfl, rfl⟩
  | succ n ih => exact ⟨(ih _).1.trans (showMul_cmds th true).1, (ih _).2.trans (showMul_cmds th true).2⟩

/-- A thread as `freezeNow` leaves it. -/
def frozenThread (why : Freeze) (th : Thread) : Thread :=
  { showAllMul th 16 with
    st := .frozen, resume := if th.st = .parked then .ready else th.st, park := .no, freeze := some why, freezeReq := none
    resv := none, entering := false, strData := none }

theorem frozenThread_cmds (why : Freeze) (th : Thread) : (frozenThread why th).inbox = th.inbox ∧ (frozenThread why th).current = th.current := by
  have shown := showAllMul_cmds 16 th
  unfold frozenThread
  generalize showAllMul th 16 = x at shown
  exact shown

theorem freezeNow_eq (s : State) (t : Nat) (why : Freeze) : freezeNow s t why = modThr s t (frozenThread why) := rfl

theorem quietFreeze_cmds (th : Thread) : ({ th with freeze := some .quiet, freezeReq := none } : Thread).inbox = th.inbox ∧
    ({ th with freeze := some .quiet, freezeReq := none } : Thread).current = th.current := ⟨rfl, rfl⟩

theorem quietEmptied_cmds (th : Thread) : (quietEmptied th).inbox = th.inbox ∧ (quietEmptied th).current = th.current := ⟨rfl, rfl⟩

section

variable {s : State} {t : Nat} (free : CmdFree s t)

include free

theorem CmdFree.interrupt (u : Nat) (k : Option SyncKnock) : CmdFree (interrupt s u k) t := by
  have begun : CmdFree (modThr s u (fun th => { truncate th with resv := none, walk := th.walk.map (fun w => { w with waits := false }) })) t :=
    free.putThr (truncate_cmds _).1 (truncate_cmds _).2
  have withdrawn := begun.seatTold (withdrawSeat_told _ u t)
  unfold Machine.interrupt
  dsimp only
  split
  · exact withdrawn.abandonDiv u
  · exact withdrawn

theorem CmdFree.drainThr (u : Nat) : CmdFree (drainThr s u) t := by
  unfold Machine.drainThr
  dsimp only
  exact (foldl_keeps (P := fun s => CmdFree s t) (fun _ _ held => held.storePieces _ _ _ _) _ free).putThr rfl rfl

theorem CmdFree.freezeNow (u : Nat) (why : Freeze) : CmdFree (freezeNow s u why) t := by
  rw [freezeNow_eq]
  exact free.putThr (frozenThread_cmds why _).1 (frozenThread_cmds why _).2

theorem CmdFree.quietThread (u : Nat) : CmdFree (quietThread s u) t := by
  have emptied_ : CmdFree (modThr (Machine.interrupt s u none) u quietEmptied) t :=
    (free.interrupt u none).putThr (quietEmptied_cmds _).1 (quietEmptied_cmds _).2
  have drained : CmdFree (quietDrained s u) t := (emptied_.drainThr u).of_thr (modCyl_thr _ _ _ _)
  rw [quietThread_eq]
  unfold quietFrozen
  split
  · exact drained.putThr (quietFreeze_cmds _).1 (quietFreeze_cmds _).2
  · exact drained.freezeNow u _

theorem CmdFree.finishJob (e : Nat) (j : Job) (r : JobResult) : CmdFree (finishJob s e j r) t := by
  have written : CmdFree (jobWrites s r) t := foldl_keeps (P := fun s => CmdFree s t) (fun _ _ held => held.storePieces _ _ _ _) _ free
  have staged : CmdFree (jobStages (jobWrites s r) r) t := by
    refine written.of_threads ?_
    unfold jobStages
    split
    · exact threads_kept (stageEntry_within _ _ _ _ _ _ (Within.refl _))
    · rfl
  have released : CmdFree (jobReleases (jobStages (jobWrites s r) r) j r) t := staged.of_threads ((jobReleases_within _ j r).same .threads (by decide))
  have shown : CmdFree (jobResultVisible s j r) t := released.storePieces _ _ _ _
  have told : CmdFree (jobTells (jobResultVisible s j r) e j r) t := by
    unfold jobTells
    split
    · exact shown.putThr rfl rfl
    · exact shown
  have knocked : CmdFree (jobKnocks (jobTells (jobResultVisible s j r) e j r) j r) t := by
    unfold jobKnocks
    split
    · exact told
    · exact told.roused (raise_roused _ _ _ _)
  rw [finishJob_eq]
  exact (knocked.of_thr (modEng_thr _ _ _ _)).seatTold (grantSeats_told _ _ _ _)

theorem CmdFree.endJobs (f : Job → Bool) (st : Nat) : CmdFree (endJobs s f st) t :=
  foldl_keeps (P := fun s => CmdFree s t) (fun _ e held => foldl_keeps (P := fun s => CmdFree s t)
    (fun s j held => (held.of_thr (modEng_thr s e _ t)).finishJob e j _) _ held) _ free

theorem CmdFree.quietJobs : CmdFree (quietJobs s) t :=
  foldl_keeps (P := fun s => CmdFree s t) (fun s e held => held.of_thr (modEng_thr s e _ t)) _ (free.endJobs _ _)

theorem CmdFree.releaseThr (u : Nat) (why : Freeze) : CmdFree (releaseThr s u why) t := by
  unfold Machine.releaseThr
  dsimp only
  split
  · exact free.putThr rfl rfl
  · split
    · exact free.putThr rfl rfl
    · exact free

theorem CmdFree.endDebug : CmdFree (endDebug s) t := by
  unfold Machine.endDebug
  split
  · exact free
  · have shut : ∀ d : Debug, CmdFree { s with dbg := d } t := fun d => free.of_threads rfl
    refine foldl_keeps (P := fun s => CmdFree s t) (fun s u held => held.releaseThr u _) _ ?_
    exact (shut _).of_threads (threads_kept (debugRecord_within _ _ _ (Within.refl _)))

theorem CmdFree.settle : CmdFree (settle s) t :=
  free.congr (settle_part s t Thread.inbox (fun _ _ _ _ => rfl)) (settle_part s t Thread.current (fun _ _ _ _ => rfl))

end

/-! ### Nothing taken in -/

/-- No command waits or is held, and no session is open. -/
structure Uncommanded (s : State) : Prop where
  sessions : s.intake.sessions = []
  cmdq : s.intake.cmdq = []
  idle : ∀ t, CmdFree s t

section

variable {s u : State}

theorem Uncommanded.congr (free : Uncommanded s) (intake : u.intake = s.intake) (idle : ∀ t, CmdFree u t) : Uncommanded u :=
  ⟨by rw [intake, free.sessions], by rw [intake, free.cmdq], idle⟩

theorem Uncommanded.of_threads (free : Uncommanded s) (intake : u.intake = s.intake) (threads : u.threads = s.threads) : Uncommanded u :=
  free.congr intake fun t => (free.idle t).of_threads threads

theorem putThr_intake (s : State) (t : Nat) (th : Thread) : (putThr s t th).intake = s.intake := intake_kept (putThr_within s t th (Within.refl s))

theorem Uncommanded.setHolds (free : Uncommanded s) : Uncommanded (setHolds s) := by
  have sessions : (Machine.setHolds s).intake.sessions = s.intake.sessions := view_foldl (g := fun s => s.intake.sessions) (fun s g => by
    unfold setHold
    dsimp only
    split
    · split <;> rfl
    · split <;> rfl) _ s
  exact ⟨by rw [sessions, free.sessions], by rw [setHolds_cmdq, free.cmdq], fun t => (free.idle t).of_threads (threads_kept (setHolds_within _ (Within.refl s)))⟩

theorem Uncommanded.downDomain (free : Uncommanded s) (d : Nat) : Uncommanded (downDomain s d) :=
  free.of_threads (intake_kept (downDomain_within _ _ (Within.refl s))) (threads_kept (downDomain_within _ _ (Within.refl s)))

theorem Uncommanded.dropLink (free : Uncommanded s) (l : Nat) : Uncommanded (dropLink s l) :=
  free.of_threads (intake_kept (dropLink_within _ _ (Within.refl s))) (threads_kept (dropLink_within _ _ (Within.refl s)))

theorem Uncommanded.emit (free : Uncommanded s) (o : Out) : Uncommanded (emit s o) := free.of_threads rfl rfl

theorem Uncommanded.quietOutputs (free : Uncommanded s) (cause : Nat) : Uncommanded (quietOutputs s cause) := by
  have lowered : Uncommanded { s with pins := { s.pins with ready := false, alertN := false }, intake := { s.intake with flowOn := [] } } :=
    ⟨free.sessions, free.cmdq, free.idle⟩
  have domains := foldl_keeps (P := Uncommanded) (fun s d free => free.downDomain d) [2, 3, 4, 5, 6, 7, 12] lowered.setHolds
  unfold Machine.quietOutputs
  dsimp only
  refine (foldl_keeps (P := Uncommanded) (fun s l free => free.dropLink l) _ (foldl_keeps (P := Uncommanded) (fun s l free => ?_) _ domains)).emit _
  split
  · exact free
  · exact free.of_threads rfl rfl

theorem Uncommanded.endCmds (free : Uncommanded s) (f : Cmd → Bool) (rcode : Option Nat) : Uncommanded (endCmds s f rcode) := by
  have queued : (s.intake.cmdq.map (·.1)).foldl (endQueue f rcode) s = s := by rw [free.cmdq]; rfl
  have held : ∀ (u : State) (t : Nat), Uncommanded u → Uncommanded (endHeld f rcode u t) := fun u t free => by
    obtain ⟨inbox, current⟩ := free.idle t
    have picked : pickedNow f (thr u t) = [] := by rw [pickedNow, current]
    have all_ : pickedOf f (thr u t) = [] := by rw [pickedOf, picked, inbox]; rfl
    have kept : (withoutPicked f (thr u t)).inbox = (thr u t).inbox ∧ (withoutPicked f (thr u t)).current = (thr u t).current := by
      rw [withoutPicked, picked, inbox]
      exact ⟨rfl, rfl⟩
    rw [endHeld, all_]
    exact free.congr (putThr_intake u t _) fun v => (free.idle v).putThr kept.1 kept.2
  rw [endCmds_eq, queued]
  exact foldl_keeps (P := Uncommanded) held _ free

theorem Uncommanded.quietItems (free : Uncommanded s) : Uncommanded (quietItems s) := by
  unfold Machine.quietItems
  dsimp only
  refine foldl_keeps (P := Uncommanded) (fun s q free => ?_) _ (free.endCmds _ _)
  split
  · exact ⟨free.sessions, free.cmdq, free.idle⟩
  · exact free

theorem Uncommanded.quietSessions (free : Uncommanded s) : quietSessions s = s := by
  unfold Machine.quietSessions
  rw [free.sessions]
  rfl

theorem Uncommanded.quietThreads (free : Uncommanded s) (l : List Nat) : Uncommanded (l.foldl quietThread s) :=
  foldl_keeps (P := Uncommanded) (fun s t free => free.congr (intake_kept (quietThread_within s t (Within.refl s))) fun v => (free.idle v).quietThread t) l free

theorem Uncommanded.quietJobs (free : Uncommanded s) : Uncommanded (quietJobs s) :=
  free.congr (intake_kept (quietJobs_within _ (Within.refl s))) fun t => (free.idle t).quietJobs

theorem Uncommanded.endDebug (free : Uncommanded s) : Uncommanded (endDebug s) :=
  free.congr (intake_kept (endDebug_within _ (Within.refl s))) fun t => (free.idle t).endDebug

theorem Uncommanded.settle (free : Uncommanded s) : Uncommanded (settle s) :=
  free.congr (intake_kept (settle_within _ (Within.refl s))) fun t => (free.idle t).settle

theorem Uncommanded.withFaults (free : Uncommanded s) (f : Faults) : Uncommanded { s with faults := f } := ⟨free.sessions, free.cmdq, free.idle⟩

theorem Uncommanded.quietMarked (free : Uncommanded s) (cause : Nat) : Uncommanded (quietMarked s cause) := ⟨free.sessions, free.cmdq, free.idle⟩

theorem exportEnded_intake (s : State) : (exportEnded s).intake = s.intake := by
  unfold exportEnded
  split <;> rfl

theorem Uncommanded.quietEnded (free : Uncommanded s) : Uncommanded (quietEnded s) := by
  have unagreed : Uncommanded (putAgree s none) := free.of_threads rfl rfl
  have exported : Uncommanded (exportEnded (putAgree s none)) := unagreed.of_threads (exportEnded_intake _) (exportEnded_threads _)
  have untaken : Uncommanded (untake (exportEnded (putAgree s none))) := exported.of_threads rfl rfl
  rw [Machine.quietEnded, exported.quietSessions]
  exact untaken.endDebug.settle

theorem Uncommanded.quietServed (free : Uncommanded s) (cause : Nat) : Uncommanded (quietServed s cause) := by
  have shut : Uncommanded (quietShut s cause) := (free.quietOutputs cause).quietItems
  unfold Machine.quietServed
  exact (shut.quietThreads _).quietJobs

theorem Uncommanded.quietSealed (free : Uncommanded s) : Uncommanded (quietSealed s) := ⟨free.sessions, free.cmdq, free.idle⟩

/-- A quiet entry takes no command in, and opens no session. -/
theorem Uncommanded.enterQuiet (free : Uncommanded s) (cause : Nat) : Uncommanded (enterQuiet s cause) := by
  have noted : Uncommanded (quietNoted s cause) :=
    free.of_threads (intake_kept (quietBoot_within _ _ (audit_within _ _ _ _ _ (Within.refl s)))) (threads_kept (quietBoot_within _ _ (audit_within _ _ _ _ _ (Within.refl s))))
  cases quiet : s.faults.quiet with
  | true =>
    rw [enterQuiet_again quiet]
    exact noted.withFaults _
  | false =>
    have marked := noted.quietMarked cause
    rw [enterQuiet_enters quiet]
    generalize Machine.quietMarked (quietNoted s cause) cause = u at marked
    exact ((marked.quietServed cause).quietSealed.of_threads (intake_kept (abandonCommit_within _ (Within.refl _))) (abandonCommit_threads _)).quietEnded

theorem Uncommanded.quietSettle (free : Uncommanded s) : Uncommanded (quietSettle s) := by
  unfold Machine.quietSettle
  split
  · exact free
  · split
    · exact free
    · exact (free.withFaults _).enterQuiet _

end

end Sys2Proof.Machine
end

section
/-! The steps of a warm boot take no command in (R491). -/

namespace Sys2Proof.Machine

open Sys2Proof.Claims

section

variable {s : State}

/-! ### The key store read at boot -/

theorem CmdFree.report {t : Nat} (free : CmdFree s t) (cls ix err part detail : Nat) : CmdFree (report s cls ix err part detail) t :=
  free.roused (report_roused s cls ix err part detail t)

theorem Uncommanded.report (free : Uncommanded s) (cls ix err part detail : Nat) : Uncommanded (report s cls ix err part detail) :=
  free.congr (intake_kept (report_within _ _ _ _ _ _ (Within.refl s))) fun t => (free.idle t).report _ _ _ _ _

theorem Uncommanded.rewriteCopy (free : Uncommanded s) (n : Nat) (c : KCopy) (banks : List Nat) : Uncommanded (rewriteCopy s n c banks) :=
  foldl_keeps (P := Uncommanded) (fun s b free => Uncommanded.report (s := putCopies s n (setNth (slotCopies s n) b c))
    (free.of_threads (intake_kept (putCopies_within _ _ _ (Within.refl s))) (threads_kept (putCopies_within _ _ _ (Within.refl s)))) _ _ _ _ _) _ free

theorem Uncommanded.ksAlarm (free : Uncommanded s) (cause n part : Nat) : Uncommanded (ksAlarm s cause n part) := by
  have noted : ∀ body, Uncommanded (audit s 4 part 6 body) := fun body =>
    free.of_threads (intake_kept (audit_within _ _ _ _ _ (Within.refl s))) (threads_kept (audit_within _ _ _ _ _ (Within.refl s)))
  have marked : ∀ u : State, Uncommanded u → Uncommanded (ksEvent u cause n) := fun u free =>
    free.of_threads (intake_kept (ksEvent_within _ _ _ (Within.refl u))) (threads_kept (ksEvent_within _ _ _ (Within.refl u)))
  have knocked : ∀ u : State, Uncommanded u → Uncommanded (errKnock u 1) := fun u free =>
    free.congr (intake_kept (errKnock_within _ _ (Within.refl u))) fun t => (free.idle t).roused (errKnock_roused u 1 t)
  exact knocked _ (marked _ (noted _))

theorem Uncommanded.quarantine (free : Uncommanded s) (n cause part : Nat) : Uncommanded (quarantine s n cause part) := by
  have marked : Uncommanded (markQuarantined s n) :=
    free.of_threads (intake_kept (markQuarantined_within _ _ (Within.refl s))) (threads_kept (markQuarantined_within _ _ (Within.refl s)))
  have reported : ∀ u : State, Uncommanded u → Uncommanded ((List.range 3).foldl (fun s b => Machine.report s 4 b (if cause = 1 then 9 else 7) part n) u) :=
    fun u free => foldl_keeps (P := Uncommanded) (fun s b free => free.report _ _ _ _ _) _ free
  have counted : ∀ u : State, Uncommanded u → Uncommanded (if cause = 1 then countQuarantine u else u) := fun u free => by
    split
    · exact free.of_threads (intake_kept (countQuarantine_within _ (Within.refl u))) (threads_kept (countQuarantine_within _ (Within.refl u)))
    · exact free
  unfold Machine.quarantine
  exact counted _ (reported _ (marked.ksAlarm _ _ _))

theorem Uncommanded.readRest : ∀ (l : List Nat) {s : State}, Uncommanded s → Uncommanded (readRest s l).2
  | [], _, free => free
  | n :: ns, s, free => by
    unfold Machine.readRest
    split
    · exact free
    · exact free
    · exact Uncommanded.readRest ns (free.rewriteCopy _ _ _)

theorem Uncommanded.readLive (free : Uncommanded s) (p n : Nat) : Uncommanded (readLive s p n).2 := by
  unfold Machine.readLive
  split
  · exact free
  · split
    · exact free
    · exact free.quarantine _ _ _
  · next c banks _ =>
    have rewritten := free.rewriteCopy n c banks
    have read := rewritten.readRest ((List.range (c.hdr.span - 1)).map (fun i => n + 1 + i))
    dsimp only
    split
    · exact rewritten
    · split
      · exact rewritten
      · split
        · next eq =>
          rw [eq] at read
          exact read.quarantine _ _ _
        · next eq =>
          rw [eq] at read
          split <;> exact read

theorem Uncommanded.sweepKeys (free : Uncommanded s) : Uncommanded (sweepKeys s) := by
  refine foldl_keeps (P := Uncommanded) (fun s n free => ?_) _ free
  split
  · exact free.readLive _ _
  · exact free

/-! ### The partitions' start -/

theorem Uncommanded.rewindItems (free : Uncommanded s) (t : Nat) : Uncommanded (rewindItems s t) := by
  obtain ⟨inbox, current⟩ := free.idle t
  unfold Machine.rewindItems
  dsimp only
  rw [inbox, current]
  exact free.congr (putThr_intake s t _) fun u => (free.idle u).putThr inbox.symm current.symm

theorem Uncommanded.startDue (free : Uncommanded s) (p : Nat) : Uncommanded (startDue s p) := by
  unfold Machine.startDue
  split
  · exact free
  · dsimp only
    split
    · next t _ _ =>
      have due : ∀ x : Turns, Uncommanded { s with turns := x } := fun _ => ⟨free.sessions, free.cmdq, free.idle⟩
      have idle := free.idle t
      refine (due _).congr (putThr_intake _ _ _) fun u => ((due _).idle u).putThr rfl rfl
    · exact free

theorem Uncommanded.clearThread (free : Uncommanded s) (t p : Nat) : Uncommanded (putThr s t (clearedThr (thr s t) p)) :=
  free.congr (putThr_intake s t _) fun u => (free.idle u).putThr rfl rfl

theorem Uncommanded.clearQuad (free : Uncommanded s) (q : Nat) : Uncommanded (clearQuad s q) := by
  unfold Machine.clearQuad
  extract_lets ts ok p
  split
  · refine Uncommanded.startDue (foldl_keeps (P := Uncommanded) (fun s t free => ?_) _ free) _
    have drained : Uncommanded (drainThr s t) := free.congr (intake_kept (drainThr_within _ _ (Within.refl s))) fun u => (free.idle u).drainThr t
    have stale : Uncommanded (staleThread (drainThr s t) t) :=
      drained.congr (intake_kept (staleThread_within _ _ (Within.refl _))) fun u => (drained.idle u).endJobs _ _
    have seatless : Uncommanded (endSeats (staleThread (drainThr s t) t) t) :=
      stale.congr (intake_kept (endSeats_within _ _ (Within.refl _))) fun u => (stale.idle u).seatTold (endSeats_told _ _ _)
    have dropped : Uncommanded (dropActive (endSeats (staleThread (drainThr s t) t) t) t) :=
      seatless.of_threads (intake_kept (dropActive_within _ _ (Within.refl _))) (threads_kept (dropActive_within _ _ (Within.refl _)))
    exact (dropped.clearThread t p).rewindItems t
  · exact free

theorem Uncommanded.assignFree (free : Uncommanded s) : Uncommanded (assignFree s) := by
  refine foldl_keeps (P := Uncommanded) (fun s q free => ?_) _ free
  split
  · exact free.clearQuad q
  · exact free

theorem Uncommanded.startAll (free : Uncommanded s) : Uncommanded (startAll s) := by
  have settled : Uncommanded (applySettings s) :=
    free.of_threads (intake_kept (applySettings_within _ (Within.refl s))) (threads_kept (applySettings_within _ (Within.refl s)))
  have present : Uncommanded ((startList (applySettings s)).foldl comePresent (applySettings s)) :=
    foldl_keeps (P := Uncommanded) (fun s p free => free.of_threads (intake_kept (comePresent_within _ _ (Within.refl s)))
      (threads_kept (comePresent_within _ _ (Within.refl s)))) _ settled
  have up : ∀ {u : State}, Uncommanded u → Uncommanded (modBoot u (fun b => { b with partsUp := true })) := fun free => ⟨free.sessions, free.cmdq, free.idle⟩
  unfold Machine.startAll
  dsimp only
  split
  · exact ((up present.assignFree).withFaults _).enterQuiet _
  · exact up present.assignFree

/-! ### The steps -/

theorem Uncommanded.bootStep (free : Uncommanded s) (n : Nat) : Uncommanded (bootStep s n) := ⟨free.sessions, free.cmdq, free.idle⟩

theorem Uncommanded.modBoot (free : Uncommanded s) (f : Boot → Boot) : Uncommanded (modBoot s f) := ⟨free.sessions, free.cmdq, free.idle⟩

theorem Uncommanded.stopBoot (free : Uncommanded s) (fail : Nat) : Uncommanded (stopBoot s fail) := ⟨free.sessions, free.cmdq, free.idle⟩

theorem Uncommanded.audit (free : Uncommanded s) (source part kind : Nat) (body : Bytes) : Uncommanded (audit s source part kind body) :=
  free.of_threads (intake_kept (audit_within _ _ _ _ _ (Within.refl s))) (threads_kept (audit_within _ _ _ _ _ (Within.refl s)))

theorem Uncommanded.imageRecords (free : Uncommanded s) (b : Bytes) (kinds : List Nat) : Uncommanded (imageRecords s b kinds) :=
  foldl_keeps (P := Uncommanded) (fun _ _ free => free.audit _ _ _ _) _ free

theorem Uncommanded.bootLoads (free : Uncommanded s) (b : Bytes) : Uncommanded (bootLoads s b) := by
  have begun := free.bootStep 12
  unfold Machine.bootLoads
  split
  · exact begun.stopBoot _
  · next u loaded =>
    exact Uncommanded.startAll (begun.of_threads (intake_kept (loadImages_within _ _ (Within.refl _) u loaded))
      (threads_kept (loadImages_within _ _ (Within.refl _) u loaded)))

theorem Uncommanded.bootSwept (free : Uncommanded s) (b : Bytes) : Uncommanded (bootSwept s b) := by
  unfold Machine.bootSwept
  split
  · exact free.sweepKeys.quietSettle
  · exact free.sweepKeys.bootLoads b

theorem Uncommanded.bootStore (free : Uncommanded s) {b : Bytes} {u : State} (store : bootStore s b = some u) : Uncommanded u := by
  unfold Machine.bootStore at store
  split at store
  · split at store
    · exact free.of_threads (intake_kept (restoreImage_within _ _ _ (Within.refl _) u store)) (threads_kept (restoreImage_within _ _ _ (Within.refl _) u store))
    · cases store
  · cases store
    exact free

theorem Uncommanded.bootTen (free : Uncommanded s) (b : Bytes) : Uncommanded (bootTen s b) := by
  have seeded : Uncommanded (seedArbiters s) :=
    free.of_threads (intake_kept (seedArbiters_within _ (Within.refl s))) (threads_kept (seedArbiters_within _ (Within.refl s)))
  unfold Machine.bootTen
  split
  · exact free.stopBoot _
  · split
    · exact (seeded.bootStep 11).stopBoot _
    · next u store => exact ((seeded.bootStep 11).bootStore store).bootSwept b

theorem Uncommanded.bootLater (free : Uncommanded s) (b : Bytes) : Uncommanded (bootLater s b) := by
  have begun := free.bootStep 9
  have trained : Uncommanded (trainDram (Machine.bootStep s 9) b) :=
    begun.of_threads (intake_kept (trainDram_within _ _ (Within.refl _))) (threads_kept (trainDram_within _ _ (Within.refl _)))
  rw [bootLater_eq]
  split
  · exact trained
  · split
    · exact trained.stopBoot _
    · exact (((trained.modBoot _).imageRecords b _).bootStep 10).bootTen b

theorem Uncommanded.judgeModes (free : Uncommanded s) : Uncommanded (judgeModes s) :=
  free.of_threads (intake_kept (judgeModes_within _ (Within.refl s))) (threads_kept (judgeModes_within _ (Within.refl s)))

theorem Uncommanded.takeTrailer (free : Uncommanded s) (b : Bytes) : Uncommanded (takeTrailer s b) :=
  free.of_threads (intake_kept (takeTrailer_within _ _ (Within.refl s))) (threads_kept (takeTrailer_within _ _ (Within.refl s)))

theorem Uncommanded.takeFuses (free : Uncommanded s) : Uncommanded (takeFuses s) :=
  free.of_threads (intake_kept (takeFuses_within _ (Within.refl s))) (threads_kept (takeFuses_within _ (Within.refl s)))

/-- The ledger and the history that a boot takes. -/
theorem Uncommanded.ledger (free : Uncommanded s) (b : Bytes) :
    Uncommanded (if s.boot.kind = 3 then s else if needsTrailer s then Machine.takeTrailer s b else Machine.takeFuses s) := by
  split
  · exact free
  · split
    · exact free.takeTrailer b
    · exact free.takeFuses

theorem Uncommanded.bootRun (free : Uncommanded s) (b : Bytes) : Uncommanded (bootRun s b) := by
  unfold Machine.bootRun
  split
  · exact (free.bootStep _).stopBoot _
  · extract_lets pt
    split
    · exact (free.bootStep _).stopBoot _
    · extract_lets
      rename_i t u n _ _ _ _ _ v w x
      have begun : Uncommanded t := (free.bootStep 7).bootStep 8
      clear_value t
      have taken : Uncommanded u := begun.ledger _
      clear_value u n
      refine Uncommanded.bootLater (Uncommanded.imageRecords (Uncommanded.modBoot (Uncommanded.audit (Uncommanded.judgeModes ?_) _ _ _ _) _) _ _) _
      exact ⟨taken.sessions, taken.cmdq, taken.idle⟩

/-! ### The warm boot (R491) -/

theorem Uncommanded.warmSteps (free : Uncommanded s) : Uncommanded (warmSteps s) := by
  have risen : ∀ {u : State}, Uncommanded u → Uncommanded (comesUp u).2 := fun free => ⟨free.sessions, free.cmdq, free.idle⟩
  unfold Machine.warmSteps
  split
  · exact free.bootStep 3
  · split
    · dsimp only
      split
      · exact ((risen (free.bootStep 5)).bootStep 6).bootRun _
      · exact (risen (free.bootStep 5)).stopBoot _
    · exact (free.bootStep 6).stopBoot _

end

theorem thrInit_cmdFree {s : State} (bare : s.threads = []) (t : Nat) : CmdFree s t := by
  rw [CmdFree, thr, bare]
  exact ⟨rfl, rfl⟩

theorem warmBase_uncommanded (s : State) : Uncommanded (warmBase s) := by
  have held : ∀ {u : State}, Uncommanded u → Uncommanded (reRetireAll (setHolds u)) := fun free =>
    free.setHolds.of_threads (intake_kept (reRetireAll_within _ (Within.refl _))) (threads_kept (reRetireAll_within _ (Within.refl _)))
  have set_ : ∀ {u : State} (r : Reg) (v : Word), Uncommanded u → Uncommanded (regSet u r 0 v) := fun _ _ free => ⟨free.sessions, free.cmdq, free.idle⟩
  unfold warmBase
  generalize endDebug s = t
  dsimp only
  exact held (set_ _ _ (set_ _ _ (set_ _ _ ⟨rfl, rfl, thrInit_cmdFree rfl⟩)))

/-- R491: a warm boot leaves no command and no session. -/
theorem warmBoot_uncommanded (s : State) (bundle : Option Bytes) : Uncommanded (warmBoot s bundle) := by
  have frame := warmStart_frame s bundle
  rw [warmBoot_eq]
  exact ((warmBase_uncommanded s).of_threads (frame.same .intake (by decide)) (frame.same .threads (by decide))).warmSteps

end Sys2Proof.Machine
end

section
/-! READY, warm boots and exports (O49). -/

namespace Sys2Proof.Machine

open Sys2Proof.Claims

/-! ### READY (R464, R501) -/

/-- What READY waits for. -/
def ReadyHolds (s : State) : Prop :=
  s.boot.go = true ∧ s.boot.partsUp = true ∧ s.boot.stopped = false ∧ 60 ≤ bufNow s ∧ s.supply.held = [] ∧ s.supply.power = 1 ∧ s.supply.pf ≠ 2 ∧
    s.faults.quiet = false ∧ s.pins.ready = false

theorem readyAssert_waits {s : State} (waits : ¬ ReadyHolds s) : readyAssert s = s := by
  unfold readyAssert
  exact if_neg fun h => waits (by simpa [ReadyHolds] using h)

/-- READY noted, and its pin raised. -/
def readyNoted (s : State) : State :=
  let s := modBoot s (fun b => { b with step := 0xD, readyMs := if b.step = 0xD then b.readyMs else min 0xFFFF ((s.tally - s.boot.startTime) / (64 * 10 ^ 6)) })
  setHolds { s with pins := { s.pins with ready := true } }

theorem readyAssert_asserts {s : State} (holds : ReadyHolds s) : readyAssert s = advanceSvn (readyNoted s) := by
  unfold readyAssert
  exact if_pos (by simpa [ReadyHolds] using holds)

/-- What READY's note leaves of what the fuses depend on. -/
structure ReadyKept (s t : State) : Prop where
  ready : t.pins.ready = true
  step : t.boot.step = 0xD
  readyMs : t.boot.readyMs = if s.boot.step = 0xD then s.boot.readyMs else min 0xFFFF ((s.tally - s.boot.startTime) / (64 * 10 ^ 6))
  images : t.boot.images = s.boot.images
  fuses : t.fuses = s.fuses
  supply : t.supply = s.supply
  now : t.now = s.now

theorem readyNoted_kept (s : State) : ReadyKept s (readyNoted s) := by
  unfold readyNoted
  extract_lets t
  have boot : ∀ u : State, (setHolds u).boot = u.boot := fun u => boot_kept (setHolds_within _ (Within.refl u))
  have fuses : ∀ u : State, (setHolds u).fuses = u.fuses := fun u => fuses_kept (setHolds_within _ (Within.refl u))
  have now : ∀ u : State, (setHolds u).now = u.now := fun u => now_kept (setHolds_within _ (Within.refl u))
  exact ⟨by rw [setHolds_ready], by rw [boot]; rfl, by rw [boot]; rfl, by rw [boot]; rfl, by rw [fuses]; rfl, by rw [setHolds_supply]; rfl, by rw [now]; rfl⟩

theorem advanceSvn_kept (s : State) : (advanceSvn s).pins = s.pins ∧ (advanceSvn s).boot = s.boot := by
  unfold advanceSvn
  split <;> exact ⟨rfl, rfl⟩

/-- R464: the anti-rollback fuses rise to the lowest SVN that runs. -/
theorem advanceSvn_svn (s : State) : (advanceSvn s).fuses.svn =
    if s.boot.images.length = 4 ∧ s.fuses.svn < lowestSvn s ∧ s.supply.mains = true ∧ 40 < bufNow s then lowestSvn s else s.fuses.svn := by
  unfold advanceSvn
  split <;> rfl

theorem readyAssert_ready {s : State} (holds : ReadyHolds s) :
    (readyAssert s).pins.ready = true ∧ (readyAssert s).boot.step = 0xD ∧
      (s.boot.step ≠ 0xD → (readyAssert s).boot.readyMs = min 0xFFFF ((s.tally - s.boot.startTime) / (64 * 10 ^ 6))) ∧
      (readyAssert s).fuses.svn = if s.boot.images.length = 4 ∧ s.fuses.svn < lowestSvn s ∧ s.supply.mains = true ∧ 40 < bufNow s then lowestSvn s
        else s.fuses.svn := by
  obtain ⟨ready, step, readyMs, images, fuses, supply, now⟩ := readyNoted_kept s
  obtain ⟨pins, boot⟩ := advanceSvn_kept (readyNoted s)
  have buf : bufNow (readyNoted s) = bufNow s := by rw [bufNow, supply, now, bufNow]
  have lowest : lowestSvn (readyNoted s) = lowestSvn s := by rw [lowestSvn, images, lowestSvn]
  rw [readyAssert_asserts holds, pins, boot, advanceSvn_svn, images, fuses, supply, buf, lowest]
  exact ⟨ready, step, fun first => readyMs.trans (if_neg first), rfl⟩

/-! ### Warm boots (R491, R494) -/

/-- What every warm boot leaves, as the obligation states it. -/
def WarmBooted (s t : State) : Prop :=
  t.boot.kind = 3 ∧ t.now = 0 ∧ t.tally = s.tally ∧ t.intake.sessions = [] ∧ t.intake.cmdq = [] ∧ t.fuses.epoch = s.fuses.epoch

theorem bootLcs_epoch (f : Fuses) : (bootLcs f).epoch = f.epoch := by
  unfold bootLcs
  split <;> rfl

theorem warmBoot_booted (s : State) (bundle : Option Bytes) : WarmBooted s (quietSettle (warmBoot s bundle)) := by
  have warmed := quietSettle_warmed (warmBoot_warms s bundle)
  have free := (warmBoot_uncommanded s bundle).quietSettle
  exact ⟨warmed.kind, warmed.now, warmed.tally, free.sessions, free.cmdq, by rw [warmed.fuses, bootLcs_epoch]⟩

theorem reRetire_due (s : State) (cls ix : Nat) : (reRetire s cls ix).faults.quietDue = s.faults.quietDue := by
  unfold reRetire
  split
  case h_3 => split <;> rfl
  all_goals rfl

theorem warmBase_due (s : State) : (warmBase s).faults.quietDue = none := by
  have retired_ : ∀ u : State, (reRetireAll u).faults.quietDue = u.faults.quietDue := fun u =>
    view_foldl (g := fun s => s.faults.quietDue) (f := fun s (x : Nat × Nat) => reRetire s x.1 x.2) (fun s x => reRetire_due s x.1 x.2) _ u
  have held : ∀ u : State, (setHolds u).faults = u.faults := fun u => faults_kept (setHolds_within _ (Within.refl u))
  have set_ : ∀ (u : State) (r : Reg) (v : Word), (regSet u r 0 v).faults = u.faults := fun _ _ _ => rfl
  unfold warmBase
  generalize endDebug s = t
  dsimp only
  rw [retired_, held, set_, set_, set_]
  rfl

theorem warmBase_copy (s : State) : (warmBase s).boot.copy = s.boot.copy := by
  have held : ∀ u : State, (reRetireAll (setHolds u)).boot = u.boot := fun u => boot_kept (reRetireAll_within _ (setHolds_within _ (Within.refl u)))
  have set_ : ∀ (u : State) (r : Reg) (v : Word), (regSet u r 0 v).boot = u.boot := fun _ _ _ => rfl
  have same : (endDebug s).boot = s.boot := boot_kept (endDebug_within s (Within.refl s))
  rw [← same]
  unfold warmBase
  generalize endDebug s = t
  dsimp only
  rw [held, set_, set_, set_]

/-- R491: without a boot copy a warm boot stops at step 6. -/
theorem warmBoot_copyless {s : State} (none_ : s.boot.copy = none) (whole : s.fuses.tamper = false) (alive : s.fuses.lcsNext ≠ 0xF) :
    (quietSettle (warmBoot s none)).boot.stopped = true ∧ (quietSettle (warmBoot s none)).boot.fail = 5 ∧ (quietSettle (warmBoot s none)).boot.step = 6 := by
  have frame := warmStart_frame s none
  have fuses : (warmStart s none).fuses = bootLcs s.fuses := by
    obtain ⟨fuses, -, -, -⟩ := by simpa only [bootGround, Prod.mk.injEq] using bootGround_warmBase s
    exact (frame.same .fuses (by decide)).trans fuses
  have copy : (warmStart s none).boot.copy = none := by
    have root : (warmRoot (warmBase s) s.keeper.breach).boot = (warmBase s).boot := (warmRoot_frame _ _).same .boot (by decide)
    have drawn : ∀ u : State, (drawNonces u).boot.copy = u.boot.copy := fun _ => rfl
    rw [warmStart, copyTaken, drawn, root, warmBase_copy, none_]
  have due : (warmStart s none).faults.quietDue = none := by
    rw [frame.same .faults (by decide)]
    exact warmBase_due s
  have stops : warmSteps (warmStart s none) = stopBoot (bootStep (warmStart s none) 6) 5 := by
    unfold warmSteps
    rw [if_neg (by rw [fuses, bootLcs_alive whole]; exact alive), copy]
  rw [warmBoot_eq, stops]
  generalize warmStart s none = u at due
  have calm : quietSettle (stopBoot (bootStep u 6) 5) = stopBoot (bootStep u 6) 5 := quietSettle_of_quietDue_none due
  rw [calm]
  exact ⟨rfl, rfl, rfl⟩

/-! ### LC_BOOT (R491, R494) -/

theorem bootFree_iff (s : State) (p : Nat) : bootFree s p = true ↔ p = 0 ∧ s.boot.wstat ≠ 1 ∧ s.boot.wstat ≠ 3 := by
  unfold bootFree
  simp [and_assoc]

theorem bootFree_refuses {s : State} {p : Nat} (busy : ¬ bootFree s p = true) : warmWrite s p = s ∧ warmBundleWrite s p = s ∧ exportTraining s p = s :=
  ⟨if_pos (by simpa using busy), if_pos (by simpa using busy), if_pos (by simpa using busy)⟩

section

variable {s : State} (free : bootFree s 0 = true)

include free

theorem bootFree_takes : ¬ (!bootFree s 0) = true := by simp [free]

theorem warmWrite_waits (commits : s.turns.commit.isSome = true ∨ s.westad.agree.isSome = true) :
    warmWrite s 0 = modBoot s (fun b => { b with wstat := 3, warmDue := true }) := (if_neg (bootFree_takes free)).trans (if_pos commits)

theorem warmWrite_boots (commit : s.turns.commit = none) (agree : s.westad.agree = none) : warmWrite s 0 = warmBoot s none :=
  (if_neg (bootFree_takes free)).trans (if_neg (by simp [commit, agree]))

theorem warmBundleWrite_waits (commits : s.turns.commit.isSome = true ∨ s.westad.agree.isSome = true) :
    warmBundleWrite s 0 = modBoot s (fun b => { b with wstat := 3, warmDue := true, warmBundle := true }) :=
  (if_neg (bootFree_takes free)).trans (if_pos commits)

theorem warmBundleWrite_checks (commit : s.turns.commit = none) (agree : s.westad.agree = none) : warmBundleWrite s 0 = warmFromBundle s :=
  (if_neg (bootFree_takes free)).trans (if_neg (by simp [commit, agree]))

theorem exportTraining_stores {ps : Pieces}
    (there : accOk (unitAccess s 0 (fldGet s .lcBundle 0 55 0) (2 * (4 + (s.boot.trainingDram.getD []).length)) 3) = some ps) :
    exportTraining s 0 = storeBytes s ps (leBytes 4 (s.boot.trainingDram.getD []).length ++ s.boot.trainingDram.getD []) := by
  unfold exportTraining
  rw [if_neg (bootFree_takes free)]
  dsimp only
  rw [there]

theorem exportTraining_faults
    (out : accOk (unitAccess s 0 (fldGet s .lcBundle 0 55 0) (2 * (4 + (s.boot.trainingDram.getD []).length)) 3) = none) : exportTraining s 0 = s := by
  unfold exportTraining
  rw [if_neg (bootFree_takes free)]
  dsimp only
  rw [out]

end

theorem warmFromBundle_none {s : State} (none_ : bundleAt s (fldGet s .lcBundle 0 55 0) = none) :
    warmFromBundle s = modBoot s (fun b => { b with wstat := 2, fail := 5 }) := by
  unfold warmFromBundle
  dsimp only
  rw [none_]

theorem warmFromBundle_fails {s : State} {x : Bytes} {st f : Nat} (there : bundleAt s (fldGet s .lcBundle 0 55 0) = some x)
    (fails : bundleFails (modBoot s (fun x => { x with kind := 3 })) x = some (st, f)) :
    warmFromBundle s = modBoot s (fun b => { b with wstat := 2, fail := f }) := by
  unfold warmFromBundle
  dsimp only
  rw [there]
  dsimp only
  rw [fails]

theorem warmFromBundle_boots {s : State} {x : Bytes} (there : bundleAt s (fldGet s .lcBundle 0 55 0) = some x)
    (passes : bundleFails (modBoot s (fun x => { x with kind := 3 })) x = none) : warmFromBundle s = warmBoot s (some x) := by
  unfold warmFromBundle
  dsimp only
  rw [there]
  dsimp only
  rw [passes]

/-! ### The key store's image (R505) -/

/-- What stands before the turn number in an image. -/
def imageStart : Bytes := ascii "KSIM" ++ leBytes 2 1 ++ [0, 0]

theorem makeImage_starts (s : State) : ∃ rest, (makeImage s).1 = imageStart ++ (leBytes 8 s.ks.ksTurn ++ rest) := by
  unfold makeImage imageStart
  simp only [List.append_assoc]
  exact ⟨_, rfl⟩

theorem makeImage_head (s : State) : (makeImage s).1.take 4 = ascii "KSIM" ∧ leAt (makeImage s).1 8 8 = s.ks.ksTurn % 2 ^ 64 := by
  obtain ⟨rest, starts⟩ := makeImage_starts s
  rw [starts]
  exact ⟨rfl, leAt_append imageStart 8 s.ks.ksTurn rest⟩

theorem makeImage_state (s : State) : (makeImage s).2.mem = s.mem ∧ (makeImage s).2.ks = s.ks := ⟨rfl, rfl⟩

/-- The address of an image noted. -/
def ksImgAsked (s : State) (va : VAddr) : State := { s with req := { s.req with ksVa := va } }

theorem ksImgWrite_refuses {s : State} {p : Nat} (refused : p ≠ 0 ∨ s.req.ksStat = 1) (va : VAddr) : ksImgWrite s p va = s := if_pos refused

theorem ksImgWrite_sealed {s : State} (idle : s.req.ksStat ≠ 1) (sealed_ : s.ks.isSealed = true) (va : VAddr) :
    ksImgWrite s 0 va = { s with req := { s.req with ksVa := va, ksStat := 4 } } :=
  (if_neg (by simp [idle])).trans (if_pos sealed_)

/-- An image of an open store, whose address has been noted. -/
def ksImgMade (s : State) (va : VAddr) : State :=
  let r := makeImage s
  match accOk (unitAccess s 0 va.toNat (2 * r.1.length) 3) with
  | none => { s with req := { s.req with ksStat := 3 } }
  | some ps => { r.2 with req := { r.2.req with ksStat := 1, ksPieces := ps, ksImage := r.1 } }

theorem ksImgWrite_makes {s : State} (idle : s.req.ksStat ≠ 1) (open_ : s.ks.isSealed = false) (va : VAddr) :
    ksImgWrite s 0 va = ksImgMade (ksImgAsked s va) va := by
  have asked : ¬ (ksImgAsked s va).ks.isSealed = true := by simp [ksImgAsked, open_]
  exact (if_neg (by simp [idle])).trans (if_neg asked)

/-- What an image's making leaves: a fault, or an image in writing. -/
theorem ksImgMade_ends (s : State) (va : VAddr) : (ksImgMade s va).req.ksVa = s.req.ksVa ∧ (ksImgMade s va).mem = s.mem ∧ (ksImgMade s va).ks = s.ks ∧
    ((ksImgMade s va).req.ksStat = 3 ∨ (ksImgMade s va).req.ksStat = 1 ∧ (ksImgMade s va).req.ksImage.take 4 = ascii "KSIM" ∧
      leAt (ksImgMade s va).req.ksImage 8 8 = s.ks.ksTurn % 2 ^ 64) := by
  unfold ksImgMade
  dsimp only
  split
  · exact ⟨rfl, rfl, rfl, Or.inl rfl⟩
  · exact ⟨rfl, rfl, rfl, Or.inr ⟨rfl, makeImage_head s⟩⟩

theorem ksImgWrite_open {s : State} (idle : s.req.ksStat ≠ 1) (open_ : s.ks.isSealed = false) (va : VAddr) :
    (ksImgWrite s 0 va).req.ksVa = va ∧ (ksImgWrite s 0 va).mem = s.mem ∧ (ksImgWrite s 0 va).ks = s.ks ∧
      ((ksImgWrite s 0 va).req.ksStat = 3 ∨ (ksImgWrite s 0 va).req.ksStat = 1 ∧ (ksImgWrite s 0 va).req.ksImage.take 4 = ascii "KSIM" ∧
        leAt (ksImgWrite s 0 va).req.ksImage 8 8 = s.ks.ksTurn % 2 ^ 64) := by
  rw [ksImgWrite_makes idle open_]
  exact ksImgMade_ends (ksImgAsked s va) va

theorem ksImgDone_ends {s : State} (runs : s.req.ksStat = 1) : (ksImgDone s).req.ksStat = 2 ∧ (ksImgDone s).req.ksImage = [] ∧
    (ksImgDone s).mem = (storeBytes s s.req.ksPieces s.req.ksImage).mem := by
  unfold ksImgDone
  rw [if_pos runs]
  exact ⟨rfl, rfl, rfl⟩

/-- Settles O49: READY, the warm boots and the exports, each by its own lemma. -/
theorem warmBootsAndReady : Obligations.WarmBootsAndReady := by
  unfold Obligations.WarmBootsAndReady
  intro s settled b holds free va warm
  have takes : free → bootFree s 0 = true := fun h => (bootFree_iff s 0).2 ⟨rfl, h⟩
  have calm : ∀ f : Boot → Boot, quietSettle (modBoot s f) = modBoot s f := fun _ => quietSettle_of_quietDue_none settled
  have same : quietSettle s = s := quietSettle_of_quietDue_none settled
  have busies : ∀ {p : Fin 256}, ¬ bootFree s p.val = true → Completes (.lcBootWarm p) s (fun s' => s' = s) ∧
      Completes (.lcBootWarmBundle p) s (fun s' => s' = s) ∧ Completes (.lcBootExportTraining p) s (fun s' => s' = s) := fun {p} busy => by
    obtain ⟨boots, bundles, trains⟩ := bootFree_refuses busy
    refine ⟨⟨_, rfl, ?_⟩, ⟨_, rfl, ?_⟩, ⟨_, rfl, trains⟩⟩
    · rw [boots, same]
    · rw [bundles, same]
  refine ⟨fun ready => ⟨_, rfl, readyAssert_ready ready⟩, fun waits => ⟨_, rfl, readyAssert_waits waits⟩, ⟨_, rfl, if_pos rfl⟩, fun p other c which => ?_,
    fun w p refused => ⟨_, rfl, ?_⟩, fun busy c which => ?_, fun idle => ?_, fun w idle => ⟨fun sealed_ => ⟨_, rfl, ?_⟩, fun open_ => ⟨_, rfl, ?_⟩⟩,
    fun runs => ⟨_, rfl, ksImgDone_ends runs⟩, fun idle => ⟨_, rfl, if_neg idle⟩⟩
  · have no : ¬ p.val = 0 := fun zero => other (Fin.ext zero)
    have busy := busies (p := p) fun h => no ((bootFree_iff s p).1 h).1
    rcases which with rfl | rfl | rfl | rfl
    · exact ⟨_, rfl, if_neg no⟩
    · exact busy.1
    · exact busy.2.1
    · exact busy.2.2
  · refine ksImgWrite_refuses ?_ w
    exact refused.imp (fun other zero => other (Fin.ext zero)) id
  · have busy := busies (p := 0) fun h => busy ((bootFree_iff s 0).1 h).2
    rcases which with rfl | rfl | rfl
    · exact busy.1
    · exact busy.2.1
    · exact busy.2.2
  · have open_ := takes idle
    refine ⟨fun commits => ⟨_, rfl, ?_⟩, fun commit agree => ⟨_, rfl, ?_⟩, fun commits => ⟨_, rfl, ?_⟩, fun commit agree => ⟨fun none_ => ⟨_, rfl, ?_⟩,
      fun x there => ⟨fun st f fails => ⟨_, rfl, ?_⟩, fun passes => ⟨_, rfl, ?_⟩⟩⟩, fun ps there => ⟨_, rfl, ?_⟩, fun out => ⟨_, rfl, ?_⟩⟩
    · exact (congrArg quietSettle (warmWrite_waits open_ commits)).trans (calm _)
    · have boots := warmWrite_boots open_ commit agree
      show _ ∧ _
      rw [show warmWrite s (0 : Fin 256).val = warmBoot s none from boots]
      exact ⟨warmBoot_booted s none, warmBoot_copyless⟩
    · exact (congrArg quietSettle (warmBundleWrite_waits open_ commits)).trans (calm _)
    · exact (congrArg quietSettle ((warmBundleWrite_checks open_ commit agree).trans (warmFromBundle_none none_))).trans (calm _)
    · exact (congrArg quietSettle ((warmBundleWrite_checks open_ commit agree).trans (warmFromBundle_fails there fails))).trans (calm _)
    · have boots := (warmBundleWrite_checks open_ commit agree).trans (warmFromBundle_boots there passes)
      rw [show warmBundleWrite s (0 : Fin 256).val = warmBoot s (some x) from boots]
      exact warmBoot_booted s (some x)
    · exact exportTraining_stores open_ there
    · exact exportTraining_faults open_ out
  · exact ksImgWrite_sealed idle sealed_ w
  · exact ksImgWrite_open idle open_ w

end Sys2Proof.Machine
end

section
/-! SUPPORT. Blank ports, their results, scrubs and images (R41, R336, R337). -/

namespace Sys2Proof.Machine

open Sys2Proof.Claims

/-! ### Moves to and from a blank port -/

theorem blank_long {q : Nat} (blank : isBlank q = true) : shortDst q = false := by
  have low : ∀ p ∈ shortWindow, p < 0x380 := by decide
  simp only [isBlank, decide_eq_true_eq] at blank
  simp only [shortDst, Bool.or_eq_false_iff, decide_eq_false_iff_not, List.contains_eq_mem]
  exact ⟨by omega, fun inside => by have := low q inside; omega⟩

theorem blank_quiet {q : Nat} (blank : isBlank q = true) : unitOfPort q = none ∧ transfers q = false := by
  simp only [isBlank, decide_eq_true_eq] at blank
  constructor
  · unfold unitOfPort
    repeat rw [if_neg (by omega)]
  · simp [transfers]
    omega

/-- R336: a move to a blank port is a write of the blank. -/
theorem commitMove_blank {m : Mv} (blank : isBlank m.dst = true) (pre : Arch) (t : Nat) (s : State) :
    commitMove pre t s m = blankWrite s t m.dst (mvValue s t pre m) := by
  have quiet := (blank_quiet blank).1
  have range := blank
  simp only [isBlank, decide_eq_true_eq] at range
  unfold commitMove
  dsimp only
  rw [if_neg (by simp [quiet]), if_neg (by omega), if_neg (by omega), if_neg (by omega), if_neg (by omega), if_neg (by omega), if_neg (by omega),
    if_neg (by omega), if_neg (by omega), if_neg (by omega), if_neg (by omega), if_pos blank]

/-- The thread's own copy of a blank port that reads back takes the value. -/
def blankCopied (s : State) (t p : Nat) (d : BlankPort) (v : Word) : State :=
  if d.dir.testBit 1 then modArch s t (fun a => setPort a p (if d.width = 0 then v else lowDigits d.width v)) else s

/-- The port that a trigger's result will land in. -/
def blankResp (d : BlankPort) : Option Nat := if d.resp = 0xFF then none else some (0x380 + d.resp)

section
variable {s : State} {t p : Nat} {b : Bytes} {d : BlankPort} (image : (kring s (krOf t)).blank = some b)
  (described : blankPort b (p - 0x380) = some d) (v : Word)
include image described

theorem blankWrite_described : blankWrite s t p v = if d.kind = 1
    then modThr (blankCopied s t p d v) t (fun th => startOp th (.blank p (blankResp d))) else blankCopied s t p d v := by
  unfold blankWrite
  rw [image, Option.bind_some, described]
  rfl

theorem blankWrite_port (copies : d.dir.testBit 1 = true) :
    port (thr (blankWrite s t p v) t).arch p = if d.width = 0 then v else lowDigits d.width v := by
  have copied : port (thr (blankCopied s t p d v) t).arch p = if d.width = 0 then v else lowDigits d.width v := by
    rw [blankCopied, if_pos copies, modArch_arch, port_setPort_self]
  rw [blankWrite_described image described]
  split
  · rw [modThr_self]
    exact copied
  · exact copied

theorem blankWrite_flies (triggers : d.kind = 1) : Flies s (blankWrite s t p v) t (.blank p (blankResp d)) := by
  have copied : Grows t s (blankCopied s t p d v) := by
    unfold blankCopied
    split
    · exact modArch_grows fun _ => rfl
    · exact .refl t s
  rw [blankWrite_described image described, if_pos triggers]
  exact Flies.since copied (startOp_flies rfl)

end

section
variable {s : State} {t : Nat} {ms : List Mv} {m : Mv} (word : issues s t ms = true) (hm : m ∈ ms)
include word hm

/-- A word that moves to a blank port makes that move alone. -/
theorem blankWord_ends (blank : isBlank m.dst = true) : issue s t .blank =
    settle (wordEnd (blankWrite (countSlot s t false) t m.dst (mvValue s t (thr s t).arch m)) t [m]) := by
  have row : rowMatch s t .blank ms = true := List.any_eq_true.2 ⟨m, hm, by simp [blank]⟩
  obtain ⟨unit, stays⟩ := blank_quiet blank
  have append : m.dst ≠ 0x1CF := fun at_ => by rw [at_] at blank; exact absurd blank (by decide)
  rw [issue_commit word row, word_single word hm (.inl (blank_long blank)), commitWord_single unit stays append, commitMove_blank blank, mvValue_slot]

/-- R336: the value of a move to a blank port stands in the thread's copy, where the port has one. -/
theorem blankWord_port {b : Bytes} {d : BlankPort} (blank : isBlank m.dst = true) (image : (kring s (krOf t)).blank = some b)
    (described : blankPort b (m.dst - 0x380) = some d) (copies : d.dir.testBit 1 = true) :
    port (thr (issue s t .blank) t).arch m.dst =
      if d.width = 0 then mvValue s t (thr s t).arch m else lowDigits d.width (mvValue s t (thr s t).arch m) := by
  have range := blank
  simp only [isBlank, decide_eq_true_eq] at range
  have image : (kring (countSlot s t false) (krOf t)).blank = some b := by
    rw [kring_of_within (countSlot_frame s t false) (by decide), image]
  rw [blankWord_ends word hm blank, settle_arch, wordEnd_port _ _ _ (by omega) (by omega), blankWrite_port image described _ copies]

/-- R336: a move to a trigger of a blank is in flight. -/
theorem blankWord_flies {b : Bytes} {d : BlankPort} (blank : isBlank m.dst = true) (image : (kring s (krOf t)).blank = some b)
    (described : blankPort b (m.dst - 0x380) = some d) (triggers : d.kind = 1) : Flies s (issue s t .blank) t (.blank m.dst (blankResp d)) := by
  have image : (kring (countSlot s t false) (krOf t)).blank = some b := by
    rw [kring_of_within (countSlot_frame s t false) (by decide), image]
  have started := Flies.since (countSlot_grows s t false) (blankWrite_flies image described (mvValue s t (thr s t).arch m) triggers)
  have ended : ∀ x : State, Grows t x (wordEnd x t [m]) := fun x => (useStr_grows x t [m]).trans (modArch_grows advance_ops)
  rw [blankWord_ends word hm blank]
  exact Flies.grows started (ended _).settle

/-- R336: a move from a blank port to a general register copies the port's low digits. -/
theorem blankWord_greg {q : Nat} (src : m.src = .port q) (blank : isBlank q = true) (low : m.dst < 64) :
    greg (thr (issue s t .blank) t).arch m.dst = lowDigits m.w (port (thr s t).arch q) := by
  have range := blank
  simp only [isBlank, decide_eq_true_eq] at range
  have row : rowMatch s t .blank ms = true := List.any_eq_true.2 ⟨m, hm, by simp [src, blank]⟩
  have long : shortSrc m.src = false := by simp [src, shortSrc]; omega
  obtain ⟨unit, stays⟩ := quiet_greg s t low
  have value : mvValue s t (thr s t).arch m = lowDigits m.w (port (thr s t).arch q) := by
    rw [mvValue, src]
    dsimp only
    unfold portValue
    dsimp only
    repeat rw [if_neg (by omega)]
  rw [issue_commit word row, word_single word hm (.inr long), commitWord_single unit stays (by omega), commitMove_greg low, mvValue_slot, value,
    settle_arch, wordEnd_greg, modArch_arch]
  exact tget_tset_self _ _ _

end

/-! ### Results and scrubs -/

/-- The operation whose result a RESP port takes. -/
def takesResp (port : Nat) (o : Op) : Bool := match o.kind with | .blank _ (some r) => r == 0x380 + port | _ => false

/-- A thread's state once a trigger's result has landed. -/
def respLanded (a : Arch) (id port : Nat) (v : Word) (bad : Bool) : Arch :=
  setPoison (setPort { a with ops := a.ops.filter (fun y => y.id != id) } (0x380 + port) v) (0x380 + port) bad

/-- A thread's state after a result that is reported when it is late. -/
theorem settle_report_arch (s : State) (t : Nat) (bad : Bool) (k err part : Nat) :
    (thr (settle (if bad then report s 0xA k err part 0 else s)) t).arch = (thr s t).arch := by
  rw [settle_arch]
  split
  · rw [report_asked s 0xA k err part 0 t]
  · rfl

theorem report_errs {s : State} {cls ix : Nat} (serves : (punit s cls ix).state ≠ 3) (err part detail : Nat) :
    (punit (report s cls ix err part detail) cls ix).errs = satAdd 0xFFFF (punit s cls ix).errs 1 := by
  cases probe : (punit s cls ix).probe with
  | none =>
    rw [report_starts _ _ _ serves probe, punit_of_faults (underProbe_faults _ _ _), punit_modUnit]
    rfl
  | some pr =>
    rw [report_joins _ _ _ serves probe, punit_modUnit]
    rfl

/-- A unit that errs is under a probe, or retired. -/
theorem settle_reported (s : State) (cls ix err part detail : Nat) :
    (punit (settle (report s cls ix err part detail)) cls ix).probe.isSome = true ∨ retired (settle (report s cls ix err part detail)) cls ix = true := by
  have same : ∀ x : State, punit (settle x) cls ix = punit x cls ix := fun x => punit_of_faults (faults_kept (settle_within x (Within.refl x))) _ _
  rw [retired, same]
  by_cases out : (punit s cls ix).state = 3
  · rw [report_retired _ _ _ out, errorNoted_punit, out]
    exact .inr rfl
  · exact .inl (report_probed (fun _ _ => rfl) rfl out _ _ _)

section
variable {s : State} {t port q : Nat} {o : Op} {b : Bytes} {d x : BlankPort}
  (found : (thr s t).arch.ops.find? (takesResp port) = some o) (kind : o.kind = .blank q (some (0x380 + port)))
  (image : (kring s (krOf t)).blank = some b) (described : blankPort b port = some d) (trigger : blankPort b (q - 0x380) = some x)
include found kind image described trigger

theorem blankResult_lands (v : Word) (late : Bool) :
    blankResult s t port v late =
      let bad := late && decide (0 < x.lat)
      let s' := putThr s t (landOp (thr s t) o.id (fun a => setPoison (setPort a (0x380 + port) (lowDigits (if d.width = 0 then 16 else d.width) v)) (0x380 + port) bad))
      settle (if bad then report s' 0xA (krOf t) 3 (thr s t).part 0 else s') := by
  unfold blankResult
  dsimp only
  split
  case h_1 none_ => exact absurd (none_.symm.trans found) (by simp)
  case h_2 o' found' =>
    obtain rfl : o' = o := Option.some.inj (found'.symm.trans found)
    simp only [kind, image, Option.bind_some, described, trigger]

/-- R336, R41: the result stands in the RESP port, poisoned and reported where it comes after a fixed latency. -/
theorem blankResult_leaves (v : Word) (late : Bool) (bad : Bool) (is : bad = (late && decide (0 < x.lat))) :
    (thr (blankResult s t port v late) t).arch = setPoison (setPort { (thr s t).arch with ops := (thr s t).arch.ops.filter (fun y => y.id != o.id) }
      (0x380 + port) (lowDigits (if d.width = 0 then 16 else d.width) v)) (0x380 + port) bad ∧
    (bad = true → (punit (blankResult s t port v late) 0xA (krOf t)).probe.isSome = true ∨ retired (blankResult s t port v late) 0xA (krOf t) = true) := by
  rw [blankResult_lands found kind image described trigger]
  dsimp only
  rw [← is]
  refine ⟨?_, fun late => ?_⟩
  · rw [settle_report_arch, putThr_self]
    dsimp only
    exact landOp_arch (List.mem_of_find?_eq_some found) _
  · rw [if_pos late]
    exact settle_reported _ _ _ _ _ _

end

theorem blankScrub_mismatch {s : State} {k : Nat} (serves : retired s 0xA k = false) :
    (punit (report s 0xA k 0xB 0xFF 0) 0xA k).probe.isSome = true ∧
      (punit (report s 0xA k 0xB 0xFF 0) 0xA k).errs = satAdd 0xFFFF (punit s 0xA k).errs 1 := by
  have serves : (punit s 0xA k).state ≠ 3 := by simpa [retired] using serves
  exact ⟨report_probed (fun _ _ => rfl) rfl serves _ _ _, report_errs serves _ _ _⟩

/-! ### A new image (R337) -/

/-- The image of the keycut in force, with its frames. -/
def imageRead (s : State) (k : Nat) : State :=
  let b := kcBlank s.kc k
  modKr s k (fun x => { x with
    blank := b, blankLoading := false
    frames := match b with | some b => slice b (up64 (64 + 16 * leAt b 8 1)) (leAt b 16 4) | none => [] })

/-- The copies of blank ports at 0, and sound. -/
def copiesZeroed (a : Arch) : Arch :=
  { a with ports := tdropRange a.ports 0x380 0x3C0, poison := a.poison.filter (fun p => !isBlank p) }

/-- The copies of one of a keyring's threads at 0. -/
def threadZeroed (k : Nat) (s : State) (t : Nat) : State :=
  if krOf t = k then rawThr s t (landAll (thr s t) copiesZeroed) else s

theorem port_copiesZeroed {q : Nat} (blank : isBlank q = true) (a : Arch) : port (copiesZeroed a) q = 0 := by
  simp only [isBlank, decide_eq_true_eq] at blank
  have reset : portReset q = 0 := by
    unfold portReset
    rw [if_neg (by omega), if_neg (by omega)]
  rw [port, copiesZeroed, tget_tdropRange, if_pos (by omega), reset]

/-- An operation of a blank in flight. -/
def blankFlies (o : Op) : Bool := match o.kind with | .blank _ _ => true | _ => false

theorem blankFlies_kind {o : Op} (blank : blankFlies o = true) : ∃ q r, o.kind = .blank q r := by
  unfold blankFlies at blank
  split at blank
  · next q r kind => exact ⟨q, r, kind⟩
  · cases blank

section
variable {s : State} {k : Nat} (loading : (kring s k).blankLoading = true) (gone : oldInFlight s (kring s k).blankTurn = false)
  (idle : ∀ t, krOf t = k → ∀ o ∈ (thr s t).arch.ops, ∀ q r, o.kind ≠ .blank q r)
include loading gone idle

theorem blankLoad_loads : blankLoad s k = settle ((s.threads.map (·.1)).foldl (threadZeroed k) (imageRead s k)) := by
  have free : (s.threads.map (·.1)).any (fun t => krOf t == k && (thr s t).arch.ops.any blankFlies) = false := List.any_eq_false.2 fun t _ => by
    by_cases here : krOf t = k
    · rw [here, beq_self_eq_true, Bool.true_and, List.any_eq_true]
      rintro ⟨o, flies, blank⟩
      obtain ⟨q, r, kind⟩ := blankFlies_kind blank
      exact idle t here o flies q r kind
    · rw [beq_false_of_ne here, Bool.false_and]
      exact Bool.false_ne_true
  unfold blankLoad
  dsimp only
  rw [if_neg]
  · rfl
  · rw [loading, gone]
    rintro (no | no | busy)
    · exact absurd no (by decide)
    · exact absurd no (by decide)
    · exact absurd (free.symm.trans busy) (by decide)

end

theorem thr_imageRead (s : State) (k t : Nat) : thr (imageRead s k) t = thr s t := rfl

theorem threadZeroed_port {t q : Nat} (blank : isBlank q = true) (s : State) (k u : Nat) (zero : port (thr s t).arch q = 0) :
    port (thr (threadZeroed k s u) t).arch q = 0 := by
  unfold threadZeroed
  split
  · by_cases same : t = u
    · subst same
      rw [thr_rawThr]
      exact port_copiesZeroed blank _
    · rw [thr_rawThr_ne _ _ _ _ same, zero]
  · exact zero

/-- R337: a new image starts with every copy 0, those of threads that have never run among them. -/
theorem copies_zeroed {s : State} {k t q : Nat} (here : krOf t = k) (blank : isBlank q = true) :
    port (thr ((s.threads.map (·.1)).foldl (threadZeroed k) (imageRead s k)) t).arch q = 0 := by
  by_cases listed : t ∈ s.threads.map (·.1)
  · refine foldl_reaches (P := fun x => port (thr x t).arch q = 0) (Q := fun _ => True) (a := t) (fun _ _ _ => trivial) (fun x _ => ?_)
      (fun x u _ => threadZeroed_port blank x k u) listed trivial
    rw [threadZeroed, if_pos here, thr_rawThr]
    exact port_copiesZeroed blank _
  · have reset : thr s t = thrInit := Decidable.byContradiction fun reads => listed (List.mem_map.2 ⟨_, mem_keys_of_tget reads, rfl⟩)
    refine foldl_keeps (P := fun x => port (thr x t).arch q = 0) (fun x u => threadZeroed_port blank x k u) _ ?_
    rw [thr_imageRead, reset]
    exact port_copiesZeroed blank archInit

theorem threadsZeroed_kring (s : State) (k : Nat) (l : List Nat) (i : Nat) : kring (l.foldl (threadZeroed k) s) i = kring s i := by
  refine view_foldl (g := fun x => kring x i) (f := threadZeroed k) (fun x t => ?_) l s
  unfold threadZeroed
  split <;> rfl

theorem imageLoaded_leaves (s : State) (k : Nat) :
    let s' := settle ((s.threads.map (·.1)).foldl (threadZeroed k) (imageRead s k))
    (kring s' k).blank = kcBlank s.kc k ∧ (kring s' k).blankLoading = false ∧
      ∀ t q, krOf t = k → isBlank q = true → port (thr s' t).arch q = 0 := by
  have settled : ∀ x : State, kring (settle x) k = kring x k := fun x =>
    have : Has (· = Part.threads) .threads := ⟨rfl⟩
    kring_of_within (F := (· = Part.threads)) (settle_within x (Within.refl x)) (by decide) k
  dsimp only
  refine ⟨?_, ?_, fun t q here blank => ?_⟩
  · rw [settled, threadsZeroed_kring, imageRead, kring_modKr]
  · rw [settled, threadsZeroed_kring, imageRead, kring_modKr]
  · rw [settle_arch]
    exact copies_zeroed here blank

/-! ### Erasures (R186, R187, R189) -/

theorem keysThen_of_ks {s t : State} (h : t.ks = s.ks) : keysThen t = keysThen s := by
  rw [keysThen, keysThen, h, keysNow_of_ks h]

theorem isCont_fldSet (s : State) (r : Reg) (ix hi lo v n : Nat) : isCont (fldSet s r ix hi lo v) n = isCont s n := by
  rw [isCont, isCont, keysNow_of_ks (fldSet_ks s r ix hi lo v), keysThen_of_ks (fldSet_ks s r ix hi lo v)]

theorem stageRefusal_fldSet (s : State) (r : Reg) (ix hi lo v owner n span : Nat) (erase : Bool) :
    stageRefusal (fldSet s r ix hi lo v) owner n span erase = stageRefusal s owner n span erase := by
  unfold stageRefusal
  rw [keysThen_of_ks (fldSet_ks s r ix hi lo v)]
  rfl

/-- The key that a slot begins. -/
def keyAt (s : State) (n : Nat) : Option KeyAt := (keysNow s).find? (fun k => k.slot == n)

/-- The slots that an erasure of a slot empties. -/
def spanAt (s : State) (n : Nat) : Nat := match keyAt s n with | some k => max 1 k.span | none => 1

/-- KS_ERASE naming a slot, with the result of its erasure. -/
def erasureEnds (s : State) (n c : Nat) : State := fldSet (fldSet s .ksErase 0 17 0 n) .ksErase 0 23 20 c

theorem erasureEnds_ends (s : State) (n : Nat) {c : Nat} (small : c < 16) :
    fldGet (erasureEnds s n c) .ksErase 0 23 20 = c ∧ (erasureEnds s n c).ks = s.ks :=
  ⟨(fldGet_fldSet _ _ _ c (by decide)).trans (Nat.mod_eq_of_lt small), rfl⟩

theorem stageEntry_ks (s : State) (n : Nat) (copies : List KCopy) (erase : Bool) (op part : Nat) :
    (stageEntry s n copies erase op part).ks = (stagePlaced s n copies erase op part).ks := by
  obtain ⟨ty, b, sends⟩ := stageEntry_sends s n copies erase op part
  rw [sends]
  exact ks_kept (within_foldl _ (Within.refl _) (fun s m h => sendMsg_within s m 1 ty b h))

/-- R186: an erasure of a slot that no staging holds stands in the pool. -/
theorem stageEntry_erasure {s : State} {n : Nat} (free : ∀ y ∈ s.ks.pool, y.slot = n → y.taken = true) (copies : List KCopy) (op part : Nat) :
    ∃ x ∈ (stageEntry s n copies true op part).ks.pool, x.slot = n ∧ x.erase = true ∧ x.copies = copies := by
  rw [stageEntry_ks]
  unfold stagePlaced
  extract_lets h t
  have pool : t.ks.pool = s.ks.pool := congrArg KeyStore.pool ((audit_frame s 1 part 4 _).same .ks (by decide))
  clear_value t
  rw [poolPut_free fun y listed => ?_]
  · exact ⟨_, List.mem_append_right _ (List.mem_singleton.2 rfl), rfl, rfl, rfl⟩
  · exact (em (y.slot = n)).symm.imp id (free y (pool ▸ listed))

theorem emptySpan_eq (n : Nat) {span : Nat} (some_ : 1 ≤ span) : emptySpan n span = (List.range span).map (fun i => emptyCopy (n + i)) := by
  rw [emptySpan, Nat.max_eq_right some_]

theorem spanAt_pos (s : State) (n : Nat) : 1 ≤ spanAt s n := by
  unfold spanAt
  split
  · exact Nat.le_max_left _ _
  · exact Nat.le_refl _

/-- An erasure staged, with the owner of the key that it erases. -/
def erasureStaged (s : State) (n : Nat) : State :=
  stageEntry (fldSet s .ksErase 0 17 0 n) n (emptySpan n (spanAt s n)) true 0 (match keyAt s n with | some k => k.owner | none => 0xFF)

/-- An erasure refused for want of a place, or staged. -/
def erasureAnswered (s : State) (n : Nat) : Option Nat → State
  | some 0x37 => erasureEnds s n 4
  | some _ => erasureEnds s n 2
  | none => fldSet (erasureStaged s n) .ksErase 0 23 20 1

section
variable {s : State} {v : Word} (unsealed : s.ks.isSealed = false)
include unsealed

/-- R187, R189: an erasure by partition 1 meets its checks on the store as it is. -/
theorem ksEraseWrite_checks : ksEraseWrite s 1 v =
    if fld v 19 18 ≠ 0 ∨ isCont s (fld v 17 0) then erasureEnds s (fld v 17 0) 3
    else erasureAnswered s (fld v 17 0) (stageRefusal s 0 (fld v 17 0) (spanAt s (fld v 17 0)) true) := by
  unfold ksEraseWrite
  rw [if_neg (by simp [unsealed])]
  dsimp only
  rw [isCont_fldSet, stageRefusal_fldSet, keysNow_of_ks (fldSet_ks s .ksErase 0 17 0 (fld v 17 0))]
  rfl

theorem ksEraseWrite_misplaced (bad : fld v 19 18 ≠ 0 ∨ isCont s (fld v 17 0) = true) : ksEraseWrite s 1 v = erasureEnds s (fld v 17 0) 3 := by
  rw [ksEraseWrite_checks unsealed, if_pos bad]

section
variable (plain : fld v 19 18 = 0) (first : isCont s (fld v 17 0) = false)
include plain first

theorem ksEraseWrite_auditFull (full : stageRefusal s 0 (fld v 17 0) (spanAt s (fld v 17 0)) true = some 0x37) :
    ksEraseWrite s 1 v = erasureEnds s (fld v 17 0) 4 := by
  rw [ksEraseWrite_checks unsealed, if_neg (by simp [plain, first]), full]
  rfl

theorem ksEraseWrite_poolFull (full : stageRefusal s 0 (fld v 17 0) (spanAt s (fld v 17 0)) true = some 0x33) :
    ksEraseWrite s 1 v = erasureEnds s (fld v 17 0) 2 := by
  rw [ksEraseWrite_checks unsealed, if_neg (by simp [plain, first]), full]
  rfl

theorem ksEraseWrite_stages (room : stageRefusal s 0 (fld v 17 0) (spanAt s (fld v 17 0)) true = none) :
    ksEraseWrite s 1 v = fldSet (erasureStaged s (fld v 17 0)) .ksErase 0 23 20 1 := by
  rw [ksEraseWrite_checks unsealed, if_neg (by simp [plain, first]), room]
  rfl

end

end

theorem ksEraseWrite_other {s : State} {p : Nat} (other : p ≠ 1) (v : Word) : ksEraseWrite s p v = s := if_pos (.inl other)

/-- R186, R189: the empty span is staged, and KS_ERASE says so; the slots stay until the boundary. -/
theorem erasureStaged_stands {s : State} {n : Nat} (small : n < 2 ^ 18) (free : ∀ y ∈ s.ks.pool, y.slot = n → y.taken = true) :
    let s' := fldSet (erasureStaged s n) .ksErase 0 23 20 1
    fldGet s' .ksErase 0 23 20 = 1 ∧ fldGet s' .ksErase 0 17 0 = n ∧ s'.ks.slots = s.ks.slots ∧
      ∃ x ∈ s'.ks.pool, x.slot = n ∧ x.erase = true ∧ x.copies = (List.range (spanAt s n)).map (fun i => emptyCopy (n + i)) := by
  have regs : (erasureStaged s n).regs = (fldSet s .ksErase 0 17 0 n).regs := regs_kept (stageEntry_within _ _ _ _ _ _ (Within.refl _))
  refine ⟨fldGet_fldSet _ _ _ 1 (by decide), ?_, stageEntry_slots _ _ _ _ _ _, ?_⟩
  · rw [fldGet_fldSet_apart _ _ _ _ (.inl (by decide)), fldGet_of_regs regs, fldGet_fldSet _ _ _ _ (by decide)]
    exact Nat.mod_eq_of_lt small
  · rw [← emptySpan_eq n (spanAt_pos s n)]
    exact stageEntry_erasure (s := fldSet s .ksErase 0 17 0 n) free _ _ _

/-! ### Former contents (R186) -/

theorem poolPut_leaves (s : State) (x : Staged) : ((poolPut s x).ks.former, (poolPut s x).ks.slots) = (s.ks.former, s.ks.slots) := by
  unfold poolPut
  split
  · split <;> rfl
  · rfl

theorem poolRetry_leaves (s : State) : ((poolRetry s).ks.former, (poolRetry s).ks.slots) = (s.ks.former, s.ks.slots) := by
  refine view_foldl (g := fun s => (s.ks.former, s.ks.slots)) (fun s x => ?_) _ s
  split
  · exact poolPut_leaves _ _
  · rfl

/-- The former contents of a slot go, those that a command of an earlier turn may still read excepted. -/
theorem eraseFormer_leaves (s : State) (n : Nat) : (∀ f, f ∈ (eraseFormer s n).ks.former ↔ f ∈ s.ks.former ∧ (f.slot = n → oldInFlight s f.turn = true)) ∧
    (eraseFormer s n).ks.slots = s.ks.slots := by
  obtain ⟨former, slots⟩ := Prod.mk.inj (poolRetry_leaves
    { s with ks := { s.ks with former := s.ks.former.filter (fun f => !(f.slot == n && !oldInFlight s f.turn)) } })
  refine ⟨fun f => ?_, slots⟩
  rw [eraseFormer, former, List.mem_filter]
  simp [imp_iff_not_or]

/-! ### The statement -/

/-- Settles O21: moves, results, scrubs and images of blanks, and erasures, each by its own lemma. -/
theorem blanksAndErasures : Obligations.BlanksAndErasures := by
  unfold Obligations.BlanksAndErasures
  refine ⟨⟨fun s t ms m word beside => ⟨fun b d blank image described => ?_, fun q src blank low => ?_⟩,
    fun s t p v late o q b d x found kind image described trigger => ⟨_, rfl, ?_⟩, fun s k mismatch there serves => ⟨_, rfl, ?_⟩,
    fun s k loading gone idle => ⟨_, rfl, ?_⟩⟩, fun s v unsealed => ⟨fun bad => ⟨_, rfl, ?_⟩, fun plain first full => ⟨_, rfl, ?_⟩,
    fun plain first full => ⟨_, rfl, ?_⟩, fun plain first room free => ⟨_, rfl, ?_⟩⟩, fun s p v other => ⟨_, rfl, ?_⟩, fun s n => ⟨_, rfl, eraseFormer_leaves s n⟩⟩
  · have hm := beside_mem beside
    exact ⟨_, rfl, blankWord_port word hm blank image described, blankWord_flies word hm blank image described⟩
  · exact ⟨_, rfl, blankWord_greg word (beside_mem beside) src blank low⟩
  · exact blankResult_leaves found kind image described trigger v late _ rfl
  · refine ⟨fun differs => ?_, fun same => ?_⟩
    · rw [if_pos (by rw [differs, there]; rfl)]
      exact blankScrub_mismatch serves
    · rw [if_neg (by rw [same]; exact Bool.false_ne_true)]
  · rw [blankLoad_loads loading gone idle]
    exact imageLoaded_leaves s k
  · exact (ksEraseWrite_misplaced unsealed bad) ▸ erasureEnds_ends s _ (by decide)
  · exact (ksEraseWrite_auditFull unsealed plain first full) ▸ erasureEnds_ends s _ (by decide)
  · exact (ksEraseWrite_poolFull unsealed plain first full) ▸ erasureEnds_ends s _ (by decide)
  · exact (ksEraseWrite_stages unsealed plain first room) ▸ erasureStaged_stands (fld_lt v 17 0) free
  · exact ksEraseWrite_other (fun one => other (Fin.ext one)) v

end Sys2Proof.Machine
end
